-- ==== Sys2Proof/Syntax.lean ====
section
/-! DEFINITION. Sys2Proof/Syntax.lean: the commands the block takes, one constructor per row of
spec/opcode_table.json in its order, with the operands that the row's event or access carries, and the types of those operands. -/

namespace Sys2Proof

/-- The masters of R34 and R217; a towpath master carries its SEC bit (R288), a lane sequencer its index (R6). -/
inductive Master where
  | supS | supNS | hostS | hostNS | smp
  | tow (sec : Bool)
  | ls (n : Fin 48)
  deriving DecidableEq, Repr

/-- A processor core: the supervisor, or the lane sequencer of an index (R6). -/
inductive Core where
  | sup
  | ls (n : Fin 48)
  deriving DecidableEq, Repr

/-- Access sizes (R200). -/
inductive Size where
  | byte | half | word
  deriving DecidableEq, Repr

/-- The words of a transfer through the forerunner window (R282). -/
inductive SmpXfer where
  | write (ws : List Word)
  | read (n : Nat)
  deriving DecidableEq, Repr

/-- A towpath packet's header and payload (R288). -/
structure TowPkt where
  typ  : Nat
  dst  : Nat
  src  : Nat
  hops : Nat
  sec  : Bool
  tag  : Nat
  len  : Nat
  /-- H6 to H9 of RD and WR; H7 of EVENT. -/
  addr : Nat
  /-- H6 of the other types. -/
  stat : Nat
  data : List (BitVec 8)
  deriving DecidableEq, Repr

/-- What the power-on self-test finds (R351, R352, R356): a bit per part that failed. -/
structure PostResult where
  banks   : BitVec 64
  spares  : BitVec 4
  lanes   : BitVec 48
  sensors : BitVec 12
  monitors : BitVec 24
  /-- Failed row blocks of the lane memories, by lane, and failed spare row blocks. -/
  rows    : List (Fin 48 × Fin 24)
  rowSpares : BitVec 48
  us      : BitVec 16
  deriving DecidableEq, Repr

/-- The supplies at the balls, in mV (R440). -/
structure Supplies where
  core : Nat
  aon  : Nat
  ana  : Nat
  hv   : Nat
  io   : Nat
  deriving DecidableEq, Repr

/-- The straps BOOT_SEL and ADDR (R299). -/
structure Straps where
  boot : Fin 4
  addr : Fin 8
  deriving DecidableEq, Repr

/-- The ADC codes of one barge at the converter of a receive lane: LRXn (R79) or HRXk (R60). -/
inductive InBarge where
  | line (n : Fin 8) (codes : List (BitVec 8))
  | host (k : Fin 16) (codes : List (BitVec 6))
  deriving DecidableEq, Repr

/-- What the host has set in the PCIe function's configuration space (R268): the codes of the max payload size and the max read request size (128 B times a power of two),
ECRC generation and checking, LTR, and the completion timeout value with its disable. -/
structure PcieSet where
  payload    : Fin 8
  readReq    : Fin 8
  ecrcGen    : Bool
  ecrcCheck  : Bool
  ltr        : Bool
  timeout    : Fin 16
  timeoutOff : Bool
  deriving DecidableEq, Repr

/-- The commands. -/
inductive Instr where
  /-- MODE_REQUEST (R13). -/
  | modeRequest (m : Master) (v : Word)
  /-- TRANSITION_COMPLETE (R16). -/
  | transitionComplete
  /-- OOS_SET (R25). -/
  | oosSet (m : Master) (n : Fin 48)
  /-- OOS_CLEAR (R26). -/
  | oosClear (m : Master) (n : Fin 48)
  /-- CLAIM (R34). -/
  | claim (m : Master) (res : Fin 6) (use : Fin 4)
  /-- CLAIM_RELEASE (R35). -/
  | claimRelease (m : Master) (res : Fin 6)
  /-- SPEED_MONITOR_WINDOW (R42). -/
  | speedMonitorWindow (margins : List Int)
  /-- MARGIN_LOW_CLEAR (R57). -/
  | marginLowClear (m : Master)
  /-- INPUT_BARGE_COMPLETE (R55): the converter's codes, and the arrival stamp of the first. -/
  | inputBargeComplete (src : InBarge) (slicer : Unit) (sym : BitVec 17) (frac : BitVec 4)
  /-- BARGE_RELEASE (R49). -/
  | bargeRelease (j : Fin 24) (upset : BitVec 32) (lat : BitVec 24)
  /-- FL_TARGET_WRITE (R50). -/
  | flTargetWrite (m : Master) (host : Bool) (v : Word)
  /-- SLEW_COMPLETE (R50). -/
  | slewComplete (j : Fin 24) (lat : BitVec 24)
  /-- LOCK_LOST (R50). -/
  | lockLost (j : Fin 24) (lat : BitVec 24)
  /-- CROSSING_ACK (R52). -/
  | crossingAck (n : Fin 48)
  /-- BARGE_BOUNDARY (R61). -/
  | bargeBoundary (n : Fin 48)
  /-- GROUP_BOUNDARY (R148). -/
  | groupBoundary (n : Fin 48)
  /-- BANK_COMMIT (R62). -/
  | bankCommit (m : Master) (n : Fin 48)
  /-- BANK_WRITE (R459). -/
  | bankWrite (m : Master) (n : Fin 48) (b : Bool) (w : Fin 64) (v : Word)
  /-- HRX_LANE_UP (R64). -/
  | hrxLaneUp (k : Fin 16)
  /-- HRX_ACQ_TIMEOUT (R64). -/
  | hrxAcqTimeout (k : Fin 16)
  /-- HRX_LOS (R65). -/
  | hrxLos (k : Fin 16) (mv : Nat) (unlocked : Bool)
  /-- HRX_LOS_EXIT (R64). -/
  | hrxLosExit (k : Fin 16) (mv : Nat)
  /-- HRX_LOS_TIMEOUT (R64). -/
  | hrxLosTimeout (k : Fin 16)
  /-- CDR_LOCK (R83). -/
  | cdrLock (r : Fin 24) (ofs : List Int)
  /-- CDR_UNLOCK (R83): the integral path at the ends of two consecutive windows. -/
  | cdrUnlock (r : Fin 24) (ofs : Int × Int)
  /-- HTX_SQUELCH (R67). -/
  | htxSquelch (m : Master) (k : Fin 16) (on : Bool)
  /-- PATTERN_INJECT (R128). -/
  | patternInject (m : Master) (t : Fin 24)
  /-- CORRELATOR_START (R86). -/
  | correlatorStart (m : Master) (r : Fin 24) (v : Word)
  /-- CORRELATOR_WINDOW_END (R86). The block holds the sums, the squared error and the bins itself: nothing is reported with the event. -/
  | correlatorWindowEnd (r : Fin 24) (sums errsq bins : Unit)
  /-- HRX_ENERGY_DETECT (R75). -/
  | hrxEnergyDetect (k : Fin 16) (mv : Nat)
  /-- PRESENCE_QUALIFIED (R90). -/
  | presenceQualified (n : Fin 8)
  /-- AMPLITUDE_DETECTOR_CHANGE (R460). -/
  | amplitudeDetectorChange (n : Fin 8) (mv : Nat)
  /-- LRX_CDR_TIMEOUT (R95). -/
  | lrxCdrTimeout (n : Fin 8)
  /-- PROG_READY (R95). -/
  | progReady (m : Master) (n : Fin 8)
  /-- LRX_ADAPT_TIMEOUT (R95). -/
  | lrxAdaptTimeout (n : Fin 8)
  /-- MARKER_ALIGNMENT_QUALIFIED (R91). -/
  | markerAlignmentQualified (n : Fin 8) (pos1 : Nat) (pos2 : Nat) (p1 : Nat) (p2 : Nat)
  /-- ACQ_QUALIFIED (R95). -/
  | acqQualified (m : Master) (n : Fin 8)
  /-- LRX_SEEK_TIMEOUT (R95). -/
  | lrxSeekTimeout (n : Fin 8)
  /-- CAPTURE (R92). -/
  | capture (n : Fin 8) (pos : Nat) (p : Nat)
  /-- MARKER_PEAK_MISSING (R95). -/
  | markerPeakMissing (n : Fin 8)
  /-- CAPTURE_WINDOW_END (R92). -/
  | captureWindowEnd (n : Fin 8)
  /-- LRX_LOS (R97). -/
  | lrxLos (n : Fin 8) (cause : Fin 3) (mv : Nat)
  /-- LRX_LOS_TIMEOUT (R95). -/
  | lrxLosTimeout (n : Fin 8)
  /-- NEAR_END_LOCKED (R99). -/
  | nearEndLocked (n : Fin 8)
  /-- LRX_ENERGY_DETECT (R98). -/
  | lrxEnergyDetect (n : Fin 8) (mv : Nat)
  /-- WCAP_START (R100). -/
  | wcapStart (m : Master) (n : Fin 8) (v : Word)
  /-- WCAP_COMPLETE (R100). The samples are those the block holds: nothing is reported with the event. -/
  | wcapComplete (n : Fin 8) (samples : Unit)
  /-- SQUELCH_CLEAR (R121). -/
  | squelchClear (m : Master) (n : Fin 8) (v : Word)
  /-- SQUELCH_SET (R122). -/
  | squelchSet (m : Master) (n : Fin 8)
  /-- FORCE_OFF (R123). -/
  | forceOff (m : Master) (n : Fin 8)
  /-- RAMP_STEP (R114). -/
  | rampStep (n : Fin 8)
  /-- FAULT_RAMP_STEP (R124). -/
  | faultRampStep (n : Fin 8)
  /-- SYNTH_UNLOCK (R123). -/
  | synthUnlock (t : Fin 24)
  /-- SYNTH_LOCK (R313). -/
  | synthLock (t : Fin 24)
  /-- BIAS_WRITE (R118). -/
  | biasWrite (m : Master) (n : Fin 8) (v : Word)
  /-- BIAS_STEP (R118). -/
  | biasStep (n : Fin 8)
  /-- FAULT_CAUSE_CLEAR (R126). -/
  | faultCauseClear (m : Master) (n : Fin 8) (v : Word)
  /-- CODEWORD_DECODE (R138). The word and its reliabilities are those of the symbols the decoder holds: nothing is reported with the event. -/
  | codewordDecode (n : Fin 8) (word rel : Unit)
  /-- CODEWORD_LOCK (R142). The block counts the candidates itself: nothing is reported with the event. -/
  | codewordLock (n : Fin 8) (zeros : Unit)
  /-- OFFSET_ABANDON (R142). The block counts the candidates itself: nothing is reported with the event. -/
  | offsetAbandon (n : Fin 8) (failing : Unit)
  /-- CODEWORD_LOCK_LOSS (R143). -/
  | codewordLockLoss (n : Fin 8)
  /-- CW_RESTART (R144). -/
  | cwRestart (m : Master) (n : Fin 8)
  /-- CW_INJECT (R153). -/
  | cwInject (m : Master) (n : Fin 8) (v : Word)
  /-- RS_CODEWORD (R151). -/
  | rsCodeword (t : Fin 16) (u : Fin 2) (errs : Unit)
  /-- RS_ALIGN (R151). -/
  | rsAlign (t : Fin 16) (u : Fin 2)
  /-- RS_NO_ALIGN (R151). -/
  | rsNoAlign (t : Fin 16) (u : Fin 2)
  /-- RS_CTL_WRITE (R150). -/
  | rsCtlWrite (m : Master) (t : Fin 16) (u : Fin 2) (v : Word)
  /-- START_UP_TRIMS_DONE (R180). -/
  | startUpTrimsDone (n : Fin 48) (t : Int)
  /-- WAKE_PATTERN_END (R162). -/
  | wakePatternEnd (n : Fin 8)
  /-- TRAINING_FRAME_RECEIVED (R161). -/
  | trainingFrameReceived (n : Fin 8) (ctrl : BitVec 128) (crc : BitVec 16) (pos : Nat)
  /-- TRAINING_FRAME_SEND (R160). -/
  | trainingFrameSend (n : Fin 8)
  /-- TRN_STATE_WRITE (R162). -/
  | trnStateWrite (m : Master) (n : Fin 8) (v : Word)
  /-- HANDOVER (R162). -/
  | handover (m : Master) (n : Fin 8)
  /-- TRN_WAKE (R176). -/
  | trnWake (m : Master) (n : Fin 8)
  /-- ACK_TO (R167). -/
  | ackTo (m : Master) (n : Fin 8)
  /-- PEER_DATA_START (R172). -/
  | peerDataStart (n : Fin 8)
  /-- TRAINING_TIMEOUT (R173). -/
  | trainingTimeout (n : Fin 8)
  /-- BACKGROUND_CAL_WINDOW (R181): the window's level counts, its autocorrelations with the statistics of each branch, and the lap's length. -/
  | backgroundCalWindow (r : Fin 24) (levels : List Nat) (sums : List Int × List (Int × Int × Int)) (lapUs : Nat)
  /-- SENSOR_UPDATE (R369). -/
  | sensorUpdate (readings : List (Int × Nat))
  /-- DEFERRED_RECAL_START (R184). -/
  | deferredRecalStart (n : Fin 48)
  /-- FITNESS_WINDOW_END (R188). -/
  | fitnessWindowEnd (n : Fin 48) (levels : List Nat) (acorr : List Int)
  /-- RECAL_MEASURE_END (R186). -/
  | recalMeasureEnd (n : Fin 48) (us : Nat)
  /-- RECAL_STEP_TIMEOUT (R187). -/
  | recalStepTimeout (n : Fin 48)
  /-- RECAL_RETRY (R188). -/
  | recalRetry (n : Fin 48)
  /-- CAL_CMD (R190). -/
  | calCmd (m : Master) (v : Word)
  /-- ADD (R197). -/
  | add (k : Core) (d : Fin 16) (a : Fin 16) (b : Fin 16)
  /-- SUB (R197). -/
  | sub (k : Core) (d : Fin 16) (a : Fin 16) (b : Fin 16)
  /-- AND (R197). -/
  | and_ (k : Core) (d : Fin 16) (a : Fin 16) (b : Fin 16)
  /-- OR (R197). -/
  | or_ (k : Core) (d : Fin 16) (a : Fin 16) (b : Fin 16)
  /-- XOR (R197). -/
  | xor_ (k : Core) (d : Fin 16) (a : Fin 16) (b : Fin 16)
  /-- SHL (R197). -/
  | shl (k : Core) (d : Fin 16) (a : Fin 16) (b : Fin 16)
  /-- SHR (R197). -/
  | shr (k : Core) (d : Fin 16) (a : Fin 16) (b : Fin 16)
  /-- SAR (R197). -/
  | sar (k : Core) (d : Fin 16) (a : Fin 16) (b : Fin 16)
  /-- MUL (R197). -/
  | mul (k : Core) (d : Fin 16) (a : Fin 16) (b : Fin 16)
  /-- MULH (R197). -/
  | mulh (k : Core) (d : Fin 16) (a : Fin 16) (b : Fin 16)
  /-- MULHU (R197). -/
  | mulhu (k : Core) (d : Fin 16) (a : Fin 16) (b : Fin 16)
  /-- CMP (R197). -/
  | cmp (k : Core) (a : Fin 16) (b : Fin 16)
  /-- MIN (R197). -/
  | min (k : Core) (d : Fin 16) (a : Fin 16) (b : Fin 16)
  /-- MAX (R197). -/
  | max (k : Core) (d : Fin 16) (a : Fin 16) (b : Fin 16)
  /-- ADDS (R197). -/
  | adds (k : Core) (d : Fin 16) (a : Fin 16) (b : Fin 16)
  /-- SUBS (R197). -/
  | subs (k : Core) (d : Fin 16) (a : Fin 16) (b : Fin 16)
  /-- JALR (R199). -/
  | jalr (k : Core) (d : Fin 16) (a : Fin 16)
  /-- ADDI (R199). -/
  | addi (k : Core) (d : Fin 16) (a : Fin 16) (imm : BitVec 16)
  /-- ANDI (R199). -/
  | andi (k : Core) (d : Fin 16) (a : Fin 16) (imm : BitVec 16)
  /-- ORI (R199). -/
  | ori (k : Core) (d : Fin 16) (a : Fin 16) (imm : BitVec 16)
  /-- XORI (R199). -/
  | xori (k : Core) (d : Fin 16) (a : Fin 16) (imm : BitVec 16)
  /-- SHLI (R199). -/
  | shli (k : Core) (d : Fin 16) (a : Fin 16) (amt : Fin 32)
  /-- SHRI (R199). -/
  | shri (k : Core) (d : Fin 16) (a : Fin 16) (amt : Fin 32)
  /-- SARI (R199). -/
  | sari (k : Core) (d : Fin 16) (a : Fin 16) (amt : Fin 32)
  /-- LUI (R199). -/
  | lui (k : Core) (d : Fin 16) (imm : BitVec 16)
  /-- CMPI (R199). -/
  | cmpi (k : Core) (a : Fin 16) (imm : BitVec 16)
  /-- LDW (R199). -/
  | ldw (k : Core) (d : Fin 16) (a : Fin 16) (imm : BitVec 16)
  /-- LDH (R199). -/
  | ldh (k : Core) (d : Fin 16) (a : Fin 16) (imm : BitVec 16)
  /-- LDHU (R199). -/
  | ldhu (k : Core) (d : Fin 16) (a : Fin 16) (imm : BitVec 16)
  /-- LDB (R199). -/
  | ldb (k : Core) (d : Fin 16) (a : Fin 16) (imm : BitVec 16)
  /-- LDBU (R199). -/
  | ldbu (k : Core) (d : Fin 16) (a : Fin 16) (imm : BitVec 16)
  /-- STW (R199). -/
  | stw (k : Core) (d : Fin 16) (a : Fin 16) (imm : BitVec 16)
  /-- STH (R199). -/
  | sth (k : Core) (d : Fin 16) (a : Fin 16) (imm : BitVec 16)
  /-- STB (R199). -/
  | stb (k : Core) (d : Fin 16) (a : Fin 16) (imm : BitVec 16)
  /-- STWC (R202). -/
  | stwc (k : Core) (d : Fin 16) (a : Fin 16) (imm : BitVec 16)
  /-- B (R198). -/
  | b (k : Core) (cond : Fin 16) (off : BitVec 20)
  /-- BL (R198). -/
  | bl (k : Core) (cond : Fin 16) (off : BitVec 20)
  /-- SVC (R199). -/
  | svc (imm : BitVec 16)
  /-- ERET (R225). -/
  | eret
  /-- WFI (R227). -/
  | wfi
  /-- WFI_WAKE (R227). -/
  | wfiWake
  /-- STOP (R199). -/
  | stop (n : Fin 48)
  /-- ILLEGAL_INSTRUCTION (R195). -/
  | illegalInstruction (k : Core) (w : Word)
  /-- INTERRUPT_TAKEN (R226). -/
  | interruptTaken (secure : Bool)
  /-- CLD (R206). -/
  | cld (n : Fin 48) (d : Fin 16) (a : Fin 16) (imm : BitVec 12)
  /-- CST (R206). -/
  | cst (n : Fin 48) (d : Fin 16) (a : Fin 16) (imm : BitVec 12)
  /-- CUPD (R206). -/
  | cupd (n : Fin 48) (d : Fin 16) (a : Fin 16) (imm : BitVec 12)
  /-- CUPDU (R206). -/
  | cupdu (n : Fin 48) (d : Fin 16) (a : Fin 16) (imm : BitVec 12)
  /-- CMT (R208). -/
  | cmt (n : Fin 48) (d : Fin 16) (group : Bool)
  /-- CSTART (R210). -/
  | cstart (n : Fin 48) (imm : BitVec 12)
  /-- CSGN (R210). -/
  | csgn (n : Fin 48) (d : Fin 16) (a : Fin 16) (imm : BitVec 12)
  /-- HSUM (R210). -/
  | hsum (n : Fin 48) (d : Fin 16) (a : Fin 16) (imm : BitVec 12)
  /-- WFE (R212). -/
  | wfe (n : Fin 48) (d : Fin 16) (a : Fin 16) (imm : BitVec 12)
  /-- WFE_RELEASE (R212). -/
  | wfeRelease (n : Fin 48)
  /-- WFE_TIMEOUT (R212). -/
  | wfeTimeout (n : Fin 48)
  /-- MPOST (R215). -/
  | mpost (n : Fin 48) (d : Fin 16) (a : Fin 16) (imm : BitVec 12)
  /-- MTAKE (R215). -/
  | mtake (n : Fin 48) (d : Fin 16) (a : Fin 16)
  /-- MOVC_READ (R218). -/
  | movcRead (d : Fin 16) (c : Fin 32)
  /-- MOVC_WRITE (R218). -/
  | movcWrite (c : Fin 32) (a : Fin 16)
  /-- SEQ_START (R232). -/
  | seqStart (m : Master) (n : Fin 48)
  /-- SEQ_RESUME (R232). -/
  | seqResume (m : Master) (n : Fin 48)
  /-- SEQ_STOP (R232). -/
  | seqStop (m : Master) (n : Fin 48)
  /-- SEQ_SAFE (R238). -/
  | seqSafe (m : Master) (n : Fin 48)
  /-- SEQ_LOADED (R232). -/
  | seqLoaded (m : Master) (n : Fin 48)
  /-- SAFE_TIMEOUT (R238). -/
  | safeTimeout (n : Fin 48)
  /-- IMEM_WRITE (R235). -/
  | imemWrite (m : Master) (n : Fin 48) (w : Fin 4096) (v : Word)
  /-- BROADCAST_WRITE (R237). -/
  | broadcastWrite (m : Master) (t : Fin 4) (off : Fin 32768) (size : Size) (v : Word)
  /-- SEQ_EVT_SET (R240). -/
  | seqEvtSet (m : Master) (n : Fin 48) (v : Word)
  /-- MAILBOX_POST (R247). -/
  | mailboxPost (m : Master) (c : Fin 104) (v : Word)
  /-- MAILBOX_TAKE (R248). -/
  | mailboxTake (m : Master) (c : Fin 104)
  /-- RESET_DECL (R251). -/
  | resetDecl (m : Master) (v : Word)
  /-- SEMAPHORE_READ (R256). -/
  | semaphoreRead (m : Master) (i : Fin 32)
  /-- SEMAPHORE_RELEASE (R258). -/
  | semaphoreRelease (m : Master) (i : Fin 32)
  /-- MSIX_ISSUE (R261). -/
  | msixIssue (v : Fin 64)
  /-- HOST_EOI (R261). -/
  | hostEoi (m : Master) (v : Fin 64)
  /-- SOFT_SET (R266). -/
  | softSet (m : Master) (v : Word)
  /-- SOFT_CLR (R266). -/
  | softClr (m : Master) (v : Word)
  /-- PCIE_READ (R271). -/
  | pcieRead (bar : Fin 3) (off : BitVec 32) (n : Nat)
  /-- PCIE_WRITE (R271). -/
  | pcieWrite (bar : Fin 3) (off : BitVec 32) (bytes : List (BitVec 8)) (be : List Bool)
  /-- PCIE_LINK_CHANGE (R302): of a link that is up the power state and what the host has set, none for a link that is down; speed and width as STAT codes them. -/
  | pcieLinkChange (link : Option (Fin 4 × PcieSet)) (speed : Fin 8) (width : Fin 8)
  /-- DMA_START (R274). -/
  | dmaStart (m : Master) (ch : Fin 8)
  /-- DMA_STOP (R275). -/
  | dmaStop (m : Master) (ch : Fin 8)
  /-- DMA_DESCRIPTOR_DONE (R272). -/
  | dmaDescriptorDone (ch : Fin 8)
  /-- DMA_HOST_COMPLETION (R275). -/
  | dmaHostCompletion (ch : Fin 8) (ok : Bool) (bytes : List (BitVec 8))
  /-- DMA_COMPLETION_TIMEOUT (R275). -/
  | dmaCompletionTimeout (ch : Fin 8)
  /-- SMP_WRITE (R277). -/
  | smpWrite (addr : Word) (bytes : List (BitVec 8))
  /-- SMP_READ (R279). -/
  | smpRead (words : Nat)
  /-- ENEC (R276). -/
  | enec (ev : BitVec 8)
  /-- DISEC (R276). -/
  | disec (ev : BitVec 8)
  /-- RSTDAA (R276). -/
  | rstdaa
  /-- ENTDAA (R276). -/
  | entdaa (da : BitVec 7)
  /-- SETDASA (R276). -/
  | setdasa (da : BitVec 7)
  /-- SETNEWDA (R276). -/
  | setnewda (da : BitVec 7)
  /-- SETMWL (R276). -/
  | setmwl (len : BitVec 16)
  /-- SETMRL (R276). -/
  | setmrl (len : BitVec 16)
  /-- GETMWL (R276). -/
  | getmwl
  /-- GETMRL (R276). -/
  | getmrl
  /-- GETPID (R276). -/
  | getpid
  /-- GETBCR (R276). -/
  | getbcr
  /-- GETDCR (R276). -/
  | getdcr
  /-- GETSTATUS (R276). -/
  | getstatus
  /-- GETMXDS (R276). -/
  | getmxds
  /-- CCC_UNSUPPORTED (R276). -/
  | cccUnsupported (code : BitVec 8)
  /-- IBI (R276). -/
  | ibi
  /-- SMP_ADDRESS_MATCH (R281). -/
  | smpAddressMatch
  /-- FORERUNNER_WINDOW_ACCESS (R282). -/
  | forerunnerWindowAccess (idx : BitVec 8) (x : SmpXfer)
  /-- IND_DATA (R282). -/
  | indData (w : Option Word)
  /-- IND_STAT_READ (R282). -/
  | indStatRead
  /-- SOF_SEND (R284). -/
  | sofSend (p : Fin 2)
  /-- SOF_RECEIVE (R284). -/
  | sofReceive (p : Fin 2) (d : BitVec 8)
  /-- PORT_UP (R285). -/
  | portUp (p : Fin 2)
  /-- SPEED_STEP_CONFIRM (R285). -/
  | speedStepConfirm (p : Fin 2)
  /-- SPEED_STEP_TIMEOUT (R285). -/
  | speedStepTimeout (p : Fin 2)
  /-- TX_SLEEP (R286). -/
  | txSleep (p : Fin 2)
  /-- TX_WAKE (R286). -/
  | txWake (p : Fin 2)
  /-- LINK_LOSS (R287). -/
  | linkLoss (p : Fin 2)
  /-- TOW_RD (R289). -/
  | towRd (p : Fin 2) (k : TowPkt)
  /-- TOW_WR (R289). -/
  | towWr (p : Fin 2) (k : TowPkt)
  /-- TOW_RD_RSP (R295). -/
  | towRdRsp (p : Fin 2) (k : TowPkt)
  /-- TOW_WR_ACK (R295). -/
  | towWrAck (p : Fin 2) (k : TowPkt)
  /-- TOW_ENUM (R290). -/
  | towEnum (p : Fin 2) (k : TowPkt)
  /-- TOW_EVENT (R293). -/
  | towEvent (p : Fin 2) (k : TowPkt)
  /-- TOW_HELLO (R294). -/
  | towHello (p : Fin 2) (k : TowPkt)
  /-- HELLO_SEND (R294). -/
  | helloSend
  /-- TOW_BAD_PACKET (R288). -/
  | towBadPacket (p : Fin 2)
  /-- ENUMERATE (R290). -/
  | enumerate (m : Master)
  /-- ENUM_TIMEOUT (R290). -/
  | enumTimeout
  /-- HEAD_WRITE (R291). -/
  | headWrite (m : Master) (on : Bool)
  /-- REMOTE_WINDOW_ACCESS (R295). -/
  | remoteWindowAccess (m : Master) (w : Fin 4) (off : Fin 512) (v : Option Word)
  /-- REMOTE_WINDOW_TIMEOUT (R295). -/
  | remoteWindowTimeout (w : Fin 4)
  /-- SYNC_COMMAND (R298). -/
  | syncCommand (m : Master)
  /-- TOW_SYNC (R298). -/
  | towSync (p : Fin 2) (e : BitVec 16) (f : BitVec 8)
  /-- SYNC_ACT (R298). -/
  | syncAct
  /-- BOOT_DOOR (R299). -/
  | bootDoor (m : Master) (v : Word)
  /-- IMAGE_AUTHENTICATE (R424). -/
  | imageAuthenticate (slot : Fin 2) (image : List (BitVec 8))
  /-- FLASH_COMMAND (R301). -/
  | flashCommand (m : Master) (v : Word)
  /-- FLASH_COMMAND_END (R301): the flash's answer, the data read and the status bytes of the polls. -/
  | flashCommandEnd (answer : List (BitVec 8) × List (BitVec 8))
  /-- FLASH_COMMAND_TIMEOUT (R301). -/
  | flashCommandTimeout
  /-- CLOCK_CHECK_WINDOW (R309). -/
  | clockCheckWindow (clk : Fin 3) (count : Nat)
  /-- FRO_TRIM_MEASURE (R310). -/
  | froTrimMeasure (ref : Fin 4) (err : BitVec 16)
  /-- CLOCK_SOURCE_SELECT (R311). -/
  | clockSourceSelect (m : Master) (root : Bool)
  /-- ROOT_WAIT_EXPIRY (R313). -/
  | rootWaitExpiry
  /-- GATE_SLEEP (R314). -/
  | gateSleep (b : Fin 10)
  /-- GATE_DEEP_SLEEP (R314). -/
  | gateDeepSleep (b : Fin 10)
  /-- GATE_QUIESCE_TIMEOUT (R316). -/
  | gateQuiesceTimeout (b : Fin 10) (m : Master)
  /-- DOMAIN_POWER_DOWN (R318). -/
  | domainPowerDown (d : Fin 17)
  /-- DOMAIN_POWER_UP (R319). -/
  | domainPowerUp (d : Fin 17)
  /-- DORMANT_ENTRY (R322). -/
  | dormantEntry
  /-- WAKE_N_FALL (R320). -/
  | wakeNFall (ns : Nat)
  /-- TOWPATH_ENERGY_DETECT (R320). -/
  | towpathEnergyDetect (p : Fin 2)
  /-- POWER_ON_RESET (R326). -/
  | powerOnReset (v : Supplies) (frm : Bool) (straps : Straps)
  /-- RESET_N (R324). -/
  | resetN (us : Nat) (frm : Bool) (boot : Fin 4) (addr : Fin 8)
  /-- PWR_RESET_DEVICE (R325). -/
  | pwrResetDevice (m : Master)
  /-- PWR_RESET_SUP (R464). -/
  | pwrResetSup (m : Master)
  /-- PCIE_RESET (R324). -/
  | pcieReset (kind : Fin 3)
  /-- MEMORY_FILL_COMPLETE (R339). -/
  | memoryFillComplete (rom : Bool)
  /-- POST_COMPLETE (R351). -/
  | postComplete (r : PostResult)
  /-- TIMEBASE_RESTART (R329). -/
  | timebaseRestart (s : BitVec 32)
  /-- UNCERT_STEP (R328). -/
  | uncertStep
  /-- TIMEBASE_READ (R328). -/
  | timebaseRead (m : Master)
  /-- TIMEBASE_LOAD (R330). -/
  | timebaseLoad (m : Master)
  /-- UNCERT_CLR (R336). -/
  | uncertClr (m : Master)
  /-- PPS_EDGE (R331). -/
  | ppsEdge (rising : Bool)
  /-- GT_ARM (R333). -/
  | gtArm (m : Master) (t : Fin 4)
  /-- GT_FIRE (R333). -/
  | gtFire (t : Fin 4)
  /-- MEMX_CLR (R344). -/
  | memxClr (m : Master) (v : Word)
  /-- SCRUB_ACCESS (R345). -/
  | scrubAccess (r : Fin 5) (lane : Fin 48) (flips : BitVec 72)
  /-- SCRUB_LAP_STALL (R345). -/
  | scrubLapStall (r : Fin 5)
  /-- MEMX_LOG_POP (R347). -/
  | memxLogPop (m : Master)
  /-- MEMX_RETIRE (R348). -/
  | memxRetire (m : Master) (v : Word)
  /-- RETIRE_COPY_DONE (R349). -/
  | retireCopyDone
  /-- OTP_RELOAD (R342). -/
  | otpReload (w : Fin 512)
  /-- BIST_CMD (R353). -/
  | bistCmd (m : Master) (v : Word)
  /-- BIST_DONE (R354). -/
  | bistDone (pass : Bool) (addr : Word) (bad : List Word)
  /-- COARSE_OUTPUT (R358). -/
  | coarseOutput (ch : Fin 24) (v : BitVec 10)
  /-- FINE_OUTPUT (R359). -/
  | fineOutput (ch : Fin 24) (us : List Nat)
  /-- MON_CHANNEL_CONFIG (R360). -/
  | monChannelConfig (m : Master) (ch : Fin 24) (fir : Bool) (v : Word)
  /-- MON_COEF_WRITE (R360). -/
  | monCoefWrite (m : Master) (i : Fin 512) (v : Word)
  /-- MON_SYNC_EDGE (R364): whether the edge rises, and the width of the pulse it begins, in ns. -/
  | monSyncEdge (edge : Bool × Nat)
  /-- MON_SYNC_COMMAND (R364). -/
  | monSyncCommand (m : Master)
  /-- ACC_READ (R367). -/
  | accRead (m : Master) (ch : Fin 24)
  /-- THROTTLE_FALL (R372). -/
  | throttleFall
  /-- SENSOR_READMIT (R376). -/
  | sensorReadmit (m : Master) (v : Word)
  /-- FAIL_ACK (R377). -/
  | failAck (m : Master)
  /-- HOLD_CLR (R381). -/
  | holdClr (m : Master)
  /-- THRESH_WRITE (R382). -/
  | threshWrite (m : Master) (v : Word)
  /-- PEAK_CLR (R383). -/
  | peakClr (m : Master)
  /-- COUNTER_WRAP (R391). -/
  | counterWrap (i : Fin 32) (past : Unit)
  /-- COUNTER_READ (R390). -/
  | counterRead (m : Master) (i : Fin 32)
  /-- COUNTER_LOAD (R390). -/
  | counterLoad (m : Master) (i : Fin 32) (hi : Word)
  /-- FREEZE (R392). -/
  | freeze (m : Master) (on : Bool)
  /-- SNAP (R393). -/
  | snap (m : Master)
  /-- CLEAR_ALL (R398). -/
  | clearAll (m : Master)
  /-- PERF_CONFIG_WRITE (R389). -/
  | perfConfigWrite (m : Master) (i : Fin 32) (r : Fin 6) (v : Word)
  /-- BANDWIDTH_RUN (R395). -/
  | bandwidthRun (m : Master) (v : Word)
  /-- BANDWIDTH_WINDOW_END (R395). The block counts the bytes itself: nothing is reported with the event. -/
  | bandwidthWindowEnd (bytes : Unit)
  /-- FAULT_REPORT (R403). -/
  | faultReport (m : Master) (v : Word)
  /-- LADDER_STEP_TIMEOUT (R401). -/
  | ladderStepTimeout (n : Fin 48)
  /-- LADDER_STEP_COMPLETE (R400). -/
  | ladderStepComplete (n : Fin 48)
  /-- STEP_DONE (R400). -/
  | stepDone (m : Master) (n : Fin 64)
  /-- DECLARE (R408). -/
  | declare (m : Master) (v : Word)
  /-- DEV_CLR (R408). -/
  | devClr (m : Master) (v : Word)
  /-- FAULT_LOG_POP (R412). -/
  | faultLogPop (m : Master)
  /-- ADVANCE (R419). -/
  | advance (m : Master) (v : Word)
  /-- KEYPROG (R419). -/
  | keyprog (m : Master) (v : Word)
  /-- REVOKE (R419). -/
  | revoke (m : Master) (v : Word)
  /-- ROLLBACK (R419). -/
  | rollback (m : Master) (v : Word)
  /-- TOKEN (R425). -/
  | token (m : Master) (v : Word)
  /-- CFGPROG (R419). -/
  | cfgprog (m : Master) (v : Word)
  /-- LIFE_COMMAND_DONE (R419). -/
  | lifeCommandDone (ok : Bool)
  /-- LIFECYCLE_RESET (R422). -/
  | lifecycleReset
  /-- DBG_HALT (R428). -/
  | dbgHalt (m : Master)
  /-- DBG_HALT_TAKEN (R428). -/
  | dbgHaltTaken
  /-- DBG_HALT_TIMEOUT (R428). -/
  | dbgHaltTimeout
  /-- DBG_RESUME (R428). -/
  | dbgResume (m : Master)
  /-- DBG_STEP (R428). -/
  | dbgStep (m : Master)
  /-- DBG_DATA_ACCESS (R428). -/
  | dbgDataAccess (m : Master) (w : Option Word)
  /-- DBG_MEMORY_ACCESS (R428). -/
  | dbgMemoryAccess (m : Master) (w : Option Word)
  /-- TRN_RXF_READ (R179). -/
  | trnRxfRead (m : Master) (n : Fin 8)
  /-- READ_CLEAR (R436). -/
  | readClear (m : Master) (a : Word)
  /-- REGISTER_WRITE (R436). -/
  | registerWrite (m : Master) (a : Word) (v : Word)
  /-- INSTRUCTION_FETCH_TRAP (R203). -/
  | instructionFetchTrap (k : Core)
  /-- PATTERN_CHECKER (R211). -/
  | patternChecker (r : Fin 24) (sync : Unit) (errs : Unit)
  /-- PCIE_POWER_STATE_CHANGE (R268). -/
  | pciePowerStateChange (d3 : Bool)
  /-- TOWPATH_RX_WAKE (R286). -/
  | towpathRxWake (p : Fin 2)
  deriving DecidableEq, Repr

end Sys2Proof
end

