-- ==== Sys2Proof/Machine/RegMap.lean ====
section
/-! DEFINITION. Sys2Proof/Machine/RegMap.lean: the register map of R430 to R433 and the register
tables of the chapters (R37, R57, R76, R102, R129, R153, R178, R191, R264 to R266, R302 to R306,
R334 to R336, R355, R356, R383, R384, R398, R413, R414, R429), row by row, each field with its
access code (R436) and its reset value; a reset value that the spec takes from OTP, from a pin or from
the self-test is written here as 0 and set by the event that brings it. -/

namespace Sys2Proof.Machine

/-- Access codes of R436. `act` is W1S for a bit whose write starts an action (it reads 0). -/
inductive Access where
  | rw | ro | wo | w1c | w1s | rc | act
  deriving DecidableEq, Repr

/-- One field of a register table row. -/
structure FieldSpec where
  name  : String
  hi    : Nat
  lo    : Nat
  acc   : Access
  reset : Nat
  deriving DecidableEq, Repr

/-- One register table row: offsets `off + stride * i` for `i < count`. -/
structure RegSpec where
  name   : String
  off    : Nat
  stride : Nat
  count  : Nat
  fields : List FieldSpec
  deriving DecidableEq, Repr

/-- The register blocks of R432 and R433. -/
inductive Block where
  | ident | life | mode | clk | pwr | time | memx | bist | therm | mon | perf | mbox | irq | dma | pcie | smp | tow | fault | cal | flash | fab | lrx | ltx | hrx | htx
  deriving DecidableEq, Repr

/-- A field of a register at a local address. -/
structure Fld where
  addr : Nat
  lo   : Nat
  wd   : Nat
  deriving DecidableEq, Repr

/-- Base of the lane block of sequencer index `n` (R6, R430): LRX 0 to 7, LTX 8 to 15, HRX 16 to 31,
HTX 32 to 47. -/
def laneBase (n : Nat) : Nat := 0x04100000 + 0x1000 * n

/-- IDENT register table. -/
def identRegs : List RegSpec :=
  [⟨"PART", 0x000, 0, 1, [⟨"PART", 15, 0, .ro, 12808⟩, ⟨"VENDOR", 31, 16, .ro, 7836⟩]⟩,
   ⟨"REV", 0x004, 0, 1, [⟨"SILICON", 7, 0, .ro, 161⟩, ⟨"TESTPROG", 15, 8, .ro, 0⟩]⟩,
   ⟨"LOT_LO", 0x008, 0, 1, [⟨"LOT", 31, 0, .ro, 0⟩]⟩,
   ⟨"LOT_HI", 0x00C, 0, 1, [⟨"LOT", 15, 0, .ro, 0⟩, ⟨"WAFER", 20, 16, .ro, 0⟩]⟩,
   ⟨"DIE", 0x010, 0, 1, [⟨"X", 7, 0, .ro, 0⟩, ⟨"Y", 15, 8, .ro, 0⟩, ⟨"VALID", 16, 16, .ro, 0⟩]⟩]

/-- LIFE register table, part 0. -/
def lifeRegs0 : List RegSpec :=
  [⟨"STATE", 0x000, 0, 1, [⟨"STATE", 2, 0, .ro, 0⟩, ⟨"TORN", 3, 3, .ro, 0⟩]⟩,
   ⟨"CMD", 0x004, 0, 1, [⟨"OP", 3, 0, .rw, 0⟩, ⟨"TARGET", 6, 4, .rw, 0⟩, ⟨"SLOT", 8, 8, .rw, 0⟩, ⟨"VALUE", 22, 16, .rw, 0⟩, ⟨"GO", 31, 31, .wo, 0⟩]⟩,
   ⟨"ARG", 0x008, 0, 1, [⟨"ADDR", 31, 0, .rw, 0⟩]⟩,
   ⟨"STAT", 0x00C, 0, 1, [⟨"BUSY", 0, 0, .ro, 0⟩, ⟨"DONE", 1, 1, .w1c, 0⟩, ⟨"RESULT", 5, 2, .ro, 0⟩]⟩,
   ⟨"AUTH", 0x010, 0, 1, [⟨"MODE", 1, 0, .ro, 0⟩, ⟨"SLOT", 2, 2, .ro, 0⟩, ⟨"FAIL", 6, 3, .ro, 0⟩, ⟨"IMAGE_VER", 31, 16, .ro, 0⟩]⟩,
   ⟨"ROLLBACK", 0x014, 0, 1, [⟨"COUNT", 6, 0, .ro, 0⟩]⟩,
   ⟨"KEYSTAT", 0x018, 0, 1, [⟨"BITS", 3, 0, .ro, 0⟩]⟩,
   ⟨"DBG_CTL", 0x040, 0, 1, [⟨"HALT", 0, 0, .act, 0⟩, ⟨"RESUME", 1, 1, .act, 0⟩, ⟨"STEP", 2, 2, .act, 0⟩]⟩,
   ⟨"DBG_STAT", 0x044, 0, 1, [⟨"HALTED", 0, 0, .ro, 0⟩, ⟨"HALT_PEND", 1, 1, .ro, 0⟩, ⟨"LEVEL", 3, 2, .ro, 0⟩, ⟨"HALT_TO", 4, 4, .ro, 0⟩]⟩,
   ⟨"DBG_SEL", 0x048, 0, 1, [⟨"REG", 5, 0, .rw, 0⟩]⟩,
   ⟨"DBG_DATA", 0x04C, 0, 1, [⟨"DATA", 31, 0, .rw, 0⟩]⟩,
   ⟨"DBG_MADDR", 0x050, 0, 1, [⟨"ADDR", 31, 0, .rw, 0⟩]⟩]

/-- LIFE register table, part 1. -/
def lifeRegs1 : List RegSpec :=
  [⟨"DBG_MDATA", 0x054, 0, 1, [⟨"DATA", 31, 0, .rw, 0⟩]⟩,
   ⟨"NONCE", 0x020, 4, 4, [⟨"VALUE", 31, 0, .ro, 0⟩]⟩]

/-- LIFE register table. -/
def lifeRegs : List RegSpec := lifeRegs0 ++ lifeRegs1

/-- MODE register table, part 0. -/
def modeRegs0 : List RegSpec :=
  [⟨"REQ", 0x000, 0, 1, [⟨"TARGET", 2, 0, .rw, 1⟩, ⟨"FIXLAT", 3, 3, .rw, 0⟩, ⟨"HOST_RATE", 4, 4, .rw, 0⟩]⟩,
   ⟨"STATUS", 0x004, 0, 1, [⟨"CURRENT", 2, 0, .ro, 1⟩, ⟨"FIXLAT", 3, 3, .ro, 0⟩, ⟨"HOST_RATE", 4, 4, .ro, 0⟩, ⟨"BUSY", 5, 5, .ro, 0⟩, ⟨"IN_TARGET", 8, 6, .ro, 1⟩, ⟨"WAITING", 9, 9, .ro, 0⟩, ⟨"WAIT_TARGET", 12, 10, .ro, 0⟩, ⟨"WAIT_FIXLAT", 13, 13, .ro, 0⟩, ⟨"WAIT_HOST_RATE", 14, 14, .ro, 0⟩, ⟨"THERM_HOLD", 15, 15, .ro, 0⟩]⟩,
   ⟨"RESULT", 0x008, 0, 1, [⟨"CODE", 3, 0, .ro, 3⟩, ⟨"SOURCE", 7, 4, .ro, 1⟩, ⟨"SEQ", 15, 8, .ro, 0⟩]⟩,
   ⟨"SUPERSEDED", 0x00C, 0, 1, [⟨"COUNT", 15, 0, .rc, 0⟩]⟩,
   ⟨"CFG", 0x010, 0, 1, [⟨"HEAD_DORMANT_EN", 0, 0, .rw, 0⟩]⟩,
   ⟨"WAKE_TARGET", 0x014, 0, 1, [⟨"TARGET", 2, 0, .rw, 1⟩, ⟨"FIXLAT", 3, 3, .rw, 0⟩, ⟨"HOST_RATE", 4, 4, .rw, 0⟩]⟩,
   ⟨"LAST_TIME", 0x018, 0, 1, [⟨"US", 23, 0, .ro, 0⟩]⟩,
   ⟨"DIAG", 0x01C, 0, 1, [⟨"LOOP", 2, 0, .rw, 0⟩, ⟨"BASE", 6, 4, .rw, 2⟩, ⟨"LOOP_NOW", 10, 8, .ro, 0⟩, ⟨"BASE_NOW", 14, 12, .ro, 2⟩]⟩,
   ⟨"OOS_LINE", 0x020, 0, 1, [⟨"LRX", 7, 0, .rw, 0⟩, ⟨"LTX", 15, 8, .rw, 0⟩]⟩,
   ⟨"OOS_HOST", 0x024, 0, 1, [⟨"HRX", 15, 0, .rw, 0⟩, ⟨"HTX", 31, 16, .rw, 0⟩]⟩,
   ⟨"UNUSABLE_LINE", 0x028, 0, 1, [⟨"LRX", 7, 0, .ro, 0⟩, ⟨"LTX", 15, 8, .ro, 0⟩]⟩,
   ⟨"UNUSABLE_HOST", 0x02C, 0, 1, [⟨"HRX", 15, 0, .ro, 0⟩, ⟨"HTX", 31, 16, .ro, 0⟩]⟩]

/-- MODE register table, part 1. -/
def modeRegs1 : List RegSpec :=
  [⟨"PERSONA", 0x030, 0, 1, [⟨"ACTIVE", 0, 0, .ro, 0⟩, ⟨"PIN", 1, 1, .ro, 0⟩, ⟨"OTP", 2, 2, .ro, 0⟩]⟩,
   ⟨"CLAIM_MONSYNC", 0x040, 0, 1, [⟨"USE", 1, 0, .rw, 0⟩, ⟨"HOLDER", 7, 4, .ro, 0⟩, ⟨"REFUSED", 8, 8, .w1c, 0⟩, ⟨"HOLDER_SEC", 9, 9, .ro, 0⟩]⟩,
   ⟨"CLAIM_CAPTURE", 0x044, 0, 1, [⟨"USE", 1, 0, .rw, 0⟩, ⟨"HOLDER", 7, 4, .ro, 0⟩, ⟨"REFUSED", 8, 8, .w1c, 0⟩, ⟨"HOLDER_SEC", 9, 9, .ro, 0⟩]⟩,
   ⟨"CLAIM_TIMER", 0x048, 4, 4, [⟨"USE", 1, 0, .rw, 0⟩, ⟨"HOLDER", 7, 4, .ro, 0⟩, ⟨"REFUSED", 8, 8, .w1c, 0⟩, ⟨"HOLDER_SEC", 9, 9, .ro, 0⟩]⟩,
   ⟨"CLAIM_ERR", 0x060, 0, 1, [⟨"RESOURCE", 3, 0, .ro, 0⟩, ⟨"MASTER", 7, 4, .ro, 0⟩, ⟨"COUNT", 23, 8, .rc, 0⟩]⟩,
   ⟨"EVENT", 0x064, 0, 1, [⟨"RESULT", 0, 0, .w1c, 0⟩, ⟨"CONFIG_ERR", 1, 1, .w1c, 0⟩]⟩,
   ⟨"EVENT_EN", 0x068, 0, 1, [⟨"RESULT", 0, 0, .rw, 1⟩, ⟨"CONFIG_ERR", 1, 1, .rw, 1⟩]⟩]

/-- MODE register table. -/
def modeRegs : List RegSpec := modeRegs0 ++ modeRegs1

/-- CLK register table. -/
def clkRegs : List RegSpec :=
  [⟨"SRC", 0x000, 0, 1, [⟨"SEL", 0, 0, .rw, 0⟩]⟩,
   ⟨"STAT", 0x004, 0, 1, [⟨"REF_OK", 0, 0, .ro, 0⟩, ⟨"ROOT_OK", 1, 1, .ro, 0⟩, ⟨"SLOW_OK", 2, 2, .ro, 0⟩, ⟨"TRIMMED", 3, 3, .ro, 0⟩, ⟨"TRIM_REF", 5, 4, .ro, 0⟩]⟩,
   ⟨"EVENT", 0x008, 0, 1, [⟨"REF_LOST", 0, 0, .w1c, 0⟩, ⟨"ROOT_STABLE", 1, 1, .w1c, 0⟩, ⟨"ROOT_LOST", 2, 2, .w1c, 0⟩, ⟨"SRC_REFUSED", 3, 3, .w1c, 0⟩, ⟨"FORCED", 4, 4, .w1c, 0⟩, ⟨"UNTRIMMED", 5, 5, .w1c, 0⟩]⟩,
   ⟨"EVENT_EN", 0x00C, 0, 1, [⟨"EN", 5, 0, .rw, 63⟩]⟩,
   ⟨"FRO_TRIM", 0x010, 0, 1, [⟨"CODE", 9, 0, .ro, 0⟩, ⟨"ERR", 31, 16, .ro, 0⟩]⟩,
   ⟨"CFG", 0x014, 0, 1, [⟨"DEEP_IDLE", 9, 0, .rw, 100⟩]⟩,
   ⟨"FORCE_LOG", 0x018, 0, 1, [⟨"GATE", 3, 0, .ro, 0⟩, ⟨"MASTER", 7, 4, .ro, 0⟩, ⟨"COUNT", 31, 16, .rc, 0⟩]⟩,
   ⟨"GATE", 0x100, 0, 1, [⟨"RUN", 0, 0, .ro, 1⟩, ⟨"SLEEP", 1, 1, .ro, 0⟩, ⟨"DEEP", 2, 2, .ro, 0⟩, ⟨"OPEN", 3, 3, .ro, 1⟩]⟩,
   ⟨"GATE", 0x104, 4, 2, [⟨"RUN", 0, 0, .rw, 1⟩, ⟨"SLEEP", 1, 1, .rw, 1⟩, ⟨"DEEP", 2, 2, .rw, 0⟩, ⟨"OPEN", 3, 3, .ro, 1⟩]⟩,
   ⟨"GATE", 0x10C, 4, 2, [⟨"RUN", 0, 0, .ro, 1⟩, ⟨"SLEEP", 1, 1, .ro, 0⟩, ⟨"DEEP", 2, 2, .ro, 0⟩, ⟨"OPEN", 3, 3, .ro, 1⟩]⟩,
   ⟨"GATE", 0x114, 4, 5, [⟨"RUN", 0, 0, .rw, 1⟩, ⟨"SLEEP", 1, 1, .rw, 1⟩, ⟨"DEEP", 2, 2, .rw, 0⟩, ⟨"OPEN", 3, 3, .ro, 1⟩]⟩]

/-- PWR register table. -/
def pwrRegs : List RegSpec :=
  [⟨"DOM_STAT", 0x000, 0, 1, [⟨"ON", 16, 0, .ro, 0⟩]⟩,
   ⟨"ISO_STAT", 0x004, 0, 1, [⟨"CLAMPED", 16, 0, .ro, 0⟩]⟩,
   ⟨"WAKE_EN", 0x008, 0, 1, [⟨"EN", 25, 0, .rw, 0⟩]⟩,
   ⟨"WAKE_CAUSE", 0x00C, 0, 1, [⟨"SRC", 25, 0, .w1c, 0⟩, ⟨"SMP", 26, 26, .w1c, 0⟩, ⟨"PIN", 27, 27, .w1c, 0⟩]⟩,
   ⟨"WAKE_FIRST", 0x010, 0, 1, [⟨"SRC", 4, 0, .ro, 0⟩, ⟨"VALID", 5, 5, .ro, 0⟩]⟩,
   ⟨"RESET_CAUSE", 0x014, 0, 1, [⟨"POR", 0, 0, .w1c, 1⟩, ⟨"PIN", 1, 1, .w1c, 0⟩, ⟨"DEVICE", 2, 2, .w1c, 0⟩, ⟨"SUP", 3, 3, .w1c, 0⟩]⟩,
   ⟨"RESET", 0x018, 0, 1, [⟨"DEVICE", 0, 0, .act, 0⟩, ⟨"SUP", 1, 1, .act, 0⟩]⟩,
   ⟨"EVENT", 0x01C, 0, 1, [⟨"ACTIVITY", 0, 0, .w1c, 0⟩, ⟨"WOKE", 1, 1, .w1c, 0⟩]⟩,
   ⟨"EVENT_EN", 0x020, 0, 1, [⟨"EN", 1, 0, .rw, 3⟩]⟩]

/-- TIME register table, part 0. -/
def timeRegs0 : List RegSpec :=
  [⟨"TB_LO", 0x000, 0, 1, [⟨"LOW", 31, 0, .ro, 0⟩]⟩,
   ⟨"TB_HI", 0x004, 0, 1, [⟨"HIGH", 31, 0, .ro, 0⟩]⟩,
   ⟨"CTL", 0x008, 0, 1, [⟨"SYNC_LOAD", 0, 0, .rw, 0⟩, ⟨"LOAD_NOW", 1, 1, .act, 0⟩, ⟨"UNCERT_CLR", 2, 2, .act, 0⟩, ⟨"PPS_EDGE", 3, 3, .rw, 0⟩]⟩,
   ⟨"STAT", 0x00C, 0, 1, [⟨"SOURCE", 0, 0, .ro, 0⟩, ⟨"SLEPT", 1, 1, .ro, 0⟩, ⟨"SLEEP_OVF", 2, 2, .ro, 0⟩]⟩,
   ⟨"UNCERT", 0x028, 0, 1, [⟨"US", 31, 0, .ro, 0⟩]⟩,
   ⟨"SLEEP_LAST", 0x02C, 0, 1, [⟨"COUNT", 31, 0, .ro, 0⟩]⟩,
   ⟨"SLOW_CAL", 0x030, 0, 1, [⟨"PERIOD", 23, 0, .ro, 488281⟩]⟩,
   ⟨"EVENT", 0x034, 0, 1, [⟨"SYNC", 0, 0, .w1c, 0⟩, ⟨"PPS", 1, 1, .w1c, 0⟩, ⟨"PPS_EXTRA", 2, 2, .w1c, 0⟩, ⟨"WOKE", 3, 3, .w1c, 0⟩, ⟨"GT", 7, 4, .w1c, 0⟩]⟩,
   ⟨"EVENT_EN", 0x038, 0, 1, [⟨"EN", 7, 0, .rw, 255⟩]⟩,
   ⟨"SYNC_LOAD_LO", 0x010, 0, 1, [⟨"VALUE", 31, 0, .rw, 0⟩]⟩,
   ⟨"SYNC_LOAD_HI", 0x014, 0, 1, [⟨"VALUE", 31, 0, .rw, 0⟩]⟩,
   ⟨"SYNC_CAP_LO", 0x018, 0, 1, [⟨"VALUE", 31, 0, .ro, 0⟩]⟩]

/-- TIME register table, part 1. -/
def timeRegs1 : List RegSpec :=
  [⟨"SYNC_CAP_HI", 0x01C, 0, 1, [⟨"VALUE", 31, 0, .ro, 0⟩]⟩,
   ⟨"PPS_CAP_LO", 0x020, 0, 1, [⟨"VALUE", 31, 0, .ro, 0⟩]⟩,
   ⟨"PPS_CAP_HI", 0x024, 0, 1, [⟨"VALUE", 31, 0, .ro, 0⟩]⟩,
   ⟨"GT_CMP_LO", 0x040, 16, 4, [⟨"VALUE", 31, 0, .rw, 0⟩]⟩,
   ⟨"GT_CMP_HI", 0x044, 16, 4, [⟨"VALUE", 31, 0, .rw, 0⟩]⟩,
   ⟨"GT_CTL", 0x048, 16, 4, [⟨"ARM", 0, 0, .act, 0⟩, ⟨"ARMED", 1, 1, .ro, 0⟩, ⟨"FIRED", 2, 2, .w1c, 0⟩]⟩]

/-- TIME register table. -/
def timeRegs : List RegSpec := timeRegs0 ++ timeRegs1

/-- MEMX register table, part 0. -/
def memxRegs0 : List RegSpec :=
  [⟨"CTL", 0x000, 0, 1, [⟨"SCRUB_EN", 0, 0, .rw, 1⟩]⟩,
   ⟨"STAT", 0x004, 0, 1, [⟨"FILLED", 0, 0, .ro, 0⟩, ⟨"SPARES0", 2, 1, .ro, 2⟩, ⟨"SPARES1", 4, 3, .ro, 2⟩, ⟨"RETIRE_BUSY", 5, 5, .ro, 0⟩]⟩,
   ⟨"EVENT", 0x008, 0, 1, [⟨"CE", 0, 0, .w1c, 0⟩, ⟨"UE", 1, 1, .w1c, 0⟩, ⟨"SCRUB_UE", 2, 2, .w1c, 0⟩, ⟨"STALL", 3, 3, .w1c, 0⟩, ⟨"RETIRE_DONE", 4, 4, .w1c, 0⟩, ⟨"RETIRE_REFUSED", 5, 5, .w1c, 0⟩, ⟨"SPARE_OUT", 6, 6, .w1c, 0⟩, ⟨"CAP_LOSS", 7, 7, .w1c, 0⟩, ⟨"LOG_FULL", 8, 8, .w1c, 0⟩]⟩,
   ⟨"EVENT_EN", 0x00C, 0, 1, [⟨"EN", 8, 0, .rw, 510⟩]⟩,
   ⟨"LOG_CTL", 0x010, 0, 1, [⟨"POP", 0, 0, .wo, 0⟩, ⟨"COUNT", 5, 1, .ro, 0⟩]⟩,
   ⟨"LOG_DROP", 0x014, 0, 1, [⟨"CE", 15, 0, .rc, 0⟩, ⟨"UE", 31, 16, .rc, 0⟩]⟩,
   ⟨"LOG_ADDR", 0x020, 0, 1, [⟨"ADDR", 31, 0, .ro, 0⟩]⟩,
   ⟨"LOG_INFO", 0x024, 0, 1, [⟨"TYPE", 1, 0, .ro, 0⟩, ⟨"WRITE", 2, 2, .ro, 0⟩, ⟨"MEM", 6, 3, .ro, 0⟩, ⟨"REQ", 10, 7, .ro, 0⟩, ⟨"MASTER", 14, 11, .ro, 0⟩, ⟨"SYNDROME", 22, 15, .ro, 0⟩, ⟨"BIT", 29, 23, .ro, 0⟩]⟩,
   ⟨"SCRUB_STAT", 0x030, 0, 1, [⟨"STALL", 4, 0, .ro, 0⟩, ⟨"LANE", 10, 5, .ro, 0⟩]⟩,
   ⟨"RETIRE", 0x180, 0, 1, [⟨"TARGET", 6, 0, .rw, 0⟩, ⟨"ROW", 12, 8, .rw, 0⟩, ⟨"GO", 31, 31, .wo, 0⟩]⟩,
   ⟨"RETIRE_STAT", 0x184, 0, 1, [⟨"RESULT", 3, 0, .ro, 0⟩]⟩,
   ⟨"CLR", 0x1A0, 0, 1, [⟨"ADDR", 31, 2, .wo, 0⟩]⟩]

/-- MEMX register table, part 1. -/
def memxRegs1 : List RegSpec :=
  [⟨"CAP_LIMIT", 0x1A4, 0, 1, [⟨"SAMPLES", 22, 0, .ro, 4194304⟩]⟩,
   ⟨"LOG_TS_LO", 0x018, 0, 1, [⟨"TIME", 31, 0, .ro, 0⟩]⟩,
   ⟨"RETIRED_LO", 0x188, 0, 1, [⟨"BANK", 31, 0, .ro, 0⟩]⟩,
   ⟨"REMOVED_LO", 0x190, 0, 1, [⟨"BANK", 31, 0, .ro, 0⟩]⟩,
   ⟨"LOG_TS_HI", 0x01C, 0, 1, [⟨"TIME", 31, 0, .ro, 0⟩]⟩,
   ⟨"RETIRED_HI", 0x18C, 0, 1, [⟨"BANK", 31, 0, .ro, 0⟩]⟩,
   ⟨"REMOVED_HI", 0x194, 0, 1, [⟨"BANK", 31, 0, .ro, 0⟩]⟩,
   ⟨"SCRUB_LAP", 0x040, 4, 5, [⟨"US", 31, 0, .ro, 0⟩]⟩,
   ⟨"BANK_CE", 0x100, 4, 16, [⟨"C0", 7, 0, .rc, 0⟩, ⟨"C1", 15, 8, .rc, 0⟩, ⟨"C2", 23, 16, .rc, 0⟩, ⟨"C3", 31, 24, .rc, 0⟩]⟩,
   ⟨"LANE_CE", 0x140, 4, 12, [⟨"C0", 7, 0, .rc, 0⟩, ⟨"C1", 15, 8, .rc, 0⟩, ⟨"C2", 23, 16, .rc, 0⟩, ⟨"C3", 31, 24, .rc, 0⟩]⟩,
   ⟨"LANE_LOSS", 0x200, 4, 48, [⟨"REMOVED", 23, 0, .ro, 0⟩, ⟨"SPARE_USED", 24, 24, .ro, 0⟩, ⟨"SPARE_ROW", 29, 25, .ro, 0⟩]⟩]

/-- MEMX register table. -/
def memxRegs : List RegSpec := memxRegs0 ++ memxRegs1

/-- BIST register table, part 0. -/
def bistRegs0 : List RegSpec :=
  [⟨"POST_STAT", 0x000, 0, 1, [⟨"DONE", 0, 0, .ro, 0⟩, ⟨"ROM_FAIL", 1, 1, .ro, 0⟩, ⟨"SRAM_FAIL", 2, 2, .ro, 0⟩, ⟨"LANE_FAIL", 3, 3, .ro, 0⟩, ⟨"SENSOR_FAIL", 4, 4, .ro, 0⟩, ⟨"TIME_US", 31, 16, .ro, 0⟩]⟩,
   ⟨"POST_BANKS_LO", 0x004, 0, 1, [⟨"BANK", 31, 0, .ro, 0⟩]⟩,
   ⟨"POST_BANKS_HI", 0x008, 0, 1, [⟨"BANK", 31, 0, .ro, 0⟩]⟩,
   ⟨"POST_SPARES", 0x00C, 0, 1, [⟨"SPARE", 3, 0, .ro, 0⟩]⟩,
   ⟨"POST_LANES_LO", 0x010, 0, 1, [⟨"LANE", 31, 0, .ro, 0⟩]⟩,
   ⟨"POST_LANES_HI", 0x014, 0, 1, [⟨"LANE", 15, 0, .ro, 0⟩]⟩,
   ⟨"POST_SENS", 0x018, 0, 1, [⟨"TS", 11, 0, .ro, 0⟩]⟩,
   ⟨"POST_MON", 0x01C, 0, 1, [⟨"MON", 23, 0, .ro, 0⟩]⟩,
   ⟨"CMD", 0x040, 0, 1, [⟨"TARGET", 6, 0, .rw, 0⟩, ⟨"TEST", 9, 8, .rw, 0⟩, ⟨"GO", 31, 31, .wo, 0⟩]⟩,
   ⟨"SAVE", 0x044, 0, 1, [⟨"ADDR", 31, 18, .rw, 128⟩]⟩,
   ⟨"RUN_STAT", 0x048, 0, 1, [⟨"BUSY", 0, 0, .ro, 0⟩, ⟨"PASS", 1, 1, .ro, 0⟩, ⟨"FAIL", 2, 2, .ro, 0⟩, ⟨"REASON", 5, 3, .ro, 0⟩]⟩,
   ⟨"FAIL_ADDR", 0x04C, 0, 1, [⟨"ADDR", 31, 0, .ro, 0⟩]⟩]

/-- BIST register table, part 1. -/
def bistRegs1 : List RegSpec :=
  [⟨"EVENT", 0x050, 0, 1, [⟨"DONE", 0, 0, .w1c, 0⟩, ⟨"REFUSED", 1, 1, .w1c, 0⟩]⟩,
   ⟨"EVENT_EN", 0x054, 0, 1, [⟨"EN", 1, 0, .rw, 3⟩]⟩]

/-- BIST register table. -/
def bistRegs : List RegSpec := bistRegs0 ++ bistRegs1

/-- THERM register table. -/
def thermRegs : List RegSpec :=
  [⟨"STAT", 0x000, 0, 1, [⟨"MAX", 9, 0, .ro, 0⟩, ⟨"MAX_SENSOR", 13, 10, .ro, 0⟩, ⟨"LEVEL", 16, 14, .ro, 0⟩, ⟨"WARN", 17, 17, .ro, 0⟩, ⟨"HOLD", 18, 18, .ro, 0⟩, ⟨"FROZEN", 19, 19, .ro, 0⟩, ⟨"ADMITTED", 23, 20, .ro, 0⟩]⟩,
   ⟨"CTL", 0x004, 0, 1, [⟨"MAX_LEVEL", 2, 0, .rw, 4⟩, ⟨"THROT_EN", 3, 3, .rw, 1⟩, ⟨"STEP_MS", 15, 8, .rw, 1⟩, ⟨"DWELL_MS", 23, 16, .rw, 10⟩]⟩,
   ⟨"THRESH", 0x008, 0, 1, [⟨"WARN", 7, 0, .rw, 105⟩, ⟨"THROTTLE", 15, 8, .rw, 112⟩, ⟨"SHUTDOWN", 23, 16, .rw, 122⟩, ⟨"HYST", 27, 24, .rw, 5⟩]⟩,
   ⟨"EVENT", 0x00C, 0, 1, [⟨"BITS", 8, 0, .w1c, 0⟩]⟩,
   ⟨"EVENT_EN", 0x010, 0, 1, [⟨"EN", 8, 0, .rw, 511⟩]⟩,
   ⟨"BROKEN", 0x014, 0, 1, [⟨"TS", 11, 0, .w1c, 0⟩]⟩,
   ⟨"ACK", 0x018, 0, 1, [⟨"FAIL_ACK", 0, 0, .act, 0⟩, ⟨"HOLD_CLR", 1, 1, .act, 0⟩]⟩,
   ⟨"SUBST", 0x01C, 0, 1, [⟨"VALUE", 9, 0, .ro, 0⟩, ⟨"SENSOR", 13, 10, .ro, 0⟩, ⟨"ACTIVE", 14, 14, .ro, 0⟩]⟩,
   ⟨"PEAK", 0x080, 0, 1, [⟨"MAX", 9, 0, .ro, 512⟩, ⟨"CLR", 31, 31, .wo, 0⟩]⟩,
   ⟨"THROT_MS", 0x084, 0, 1, [⟨"MS", 31, 0, .rc, 0⟩]⟩,
   ⟨"READ", 0x040, 4, 12, [⟨"TEMP", 9, 0, .ro, 0⟩, ⟨"ADMITTED", 10, 10, .ro, 0⟩, ⟨"CAUSE", 13, 11, .ro, 0⟩, ⟨"SUBST", 14, 14, .ro, 0⟩, ⟨"PROBATION", 15, 15, .ro, 0⟩]⟩]

/-- MON register table, part 0. -/
def monRegs0 : List RegSpec :=
  [⟨"CTL", 0x000, 0, 1, [⟨"SYNC", 0, 0, .act, 0⟩, ⟨"SYNC_EDGE", 1, 1, .rw, 0⟩]⟩,
   ⟨"STAT", 0x004, 0, 1, [⟨"RUNNING", 0, 0, .ro, 0⟩, ⟨"ON_FRO", 1, 1, .ro, 0⟩]⟩,
   ⟨"EVENT", 0x008, 0, 1, [⟨"BITS", 2, 0, .w1c, 0⟩]⟩,
   ⟨"EVENT_EN", 0x00C, 0, 1, [⟨"EN", 2, 0, .rw, 7⟩]⟩,
   ⟨"MAC_LOAD", 0x010, 0, 1, [⟨"TOTAL", 13, 0, .ro, 0⟩]⟩,
   ⟨"REFUSE", 0x014, 0, 1, [⟨"CHANNEL", 4, 0, .ro, 0⟩, ⟨"REASON", 7, 5, .ro, 0⟩, ⟨"COUNT", 31, 16, .rc, 0⟩]⟩,
   ⟨"FAILED", 0x018, 0, 1, [⟨"CH", 23, 0, .ro, 0⟩]⟩,
   ⟨"SYNC_STAT", 0x01C, 0, 1, [⟨"COUNT", 15, 0, .rc, 0⟩, ⟨"LAST_SRC", 17, 16, .ro, 0⟩]⟩,
   ⟨"WEIR_EVT", 0x020, 4, 3, [⟨"BITS", 31, 0, .w1c, 0⟩]⟩,
   ⟨"WEIR_EN", 0x030, 4, 3, [⟨"BITS", 31, 0, .rw, 0⟩]⟩,
   ⟨"WEIR_STATE", 0x040, 4, 3, [⟨"BITS", 31, 0, .ro, 0⟩]⟩,
   ⟨"CH_CFG", 0x100, 64, 24, [⟨"EN", 0, 0, .rw, 0⟩, ⟨"R", 11, 1, .rw, 64⟩, ⟨"D", 16, 12, .rw, 1⟩]⟩]

/-- MON register table, part 1. -/
def monRegs1 : List RegSpec :=
  [⟨"CH_FIR", 0x104, 64, 24, [⟨"TAPS", 8, 0, .rw, 0⟩, ⟨"BASE", 24, 16, .rw, 0⟩]⟩,
   ⟨"CH_COARSE", 0x108, 64, 24, [⟨"VALUE", 9, 0, .ro, 0⟩, ⟨"VALID", 10, 10, .ro, 0⟩]⟩,
   ⟨"CH_FINE", 0x10C, 64, 24, [⟨"VALUE", 19, 0, .ro, 0⟩, ⟨"VALID", 20, 20, .ro, 0⟩, ⟨"SEQ", 31, 24, .ro, 0⟩]⟩,
   ⟨"CH_ACC_LO", 0x120, 64, 24, [⟨"SUM", 31, 0, .ro, 0⟩]⟩,
   ⟨"CH_ACC_HI", 0x124, 64, 24, [⟨"SUM", 15, 0, .ro, 0⟩]⟩,
   ⟨"CH_ACC_N", 0x128, 64, 24, [⟨"COUNT", 15, 0, .rc, 0⟩]⟩,
   ⟨"CH_STAT", 0x12C, 64, 24, [⟨"LOAD", 12, 0, .ro, 0⟩, ⟨"SUPPRESSED", 13, 13, .ro, 0⟩]⟩,
   ⟨"CH_WEIR0", 0x110, 64, 8, [⟨"THRESH", 19, 0, .rw, 0⟩, ⟨"HYST", 27, 20, .rw, 4⟩, ⟨"SRC", 28, 28, .rw, 0⟩, ⟨"DIR", 29, 29, .rw, 0⟩, ⟨"EN", 30, 30, .rw, 0⟩]⟩,
   ⟨"CH_WEIR0", 0x310, 64, 8, [⟨"THRESH", 19, 0, .rw, 1047552⟩, ⟨"HYST", 27, 20, .rw, 4⟩, ⟨"SRC", 28, 28, .rw, 0⟩, ⟨"DIR", 29, 29, .rw, 0⟩, ⟨"EN", 30, 30, .rw, 0⟩]⟩,
   ⟨"CH_WEIR0", 0x510, 64, 8, [⟨"THRESH", 19, 0, .rw, 0⟩, ⟨"HYST", 27, 20, .rw, 4⟩, ⟨"SRC", 28, 28, .rw, 0⟩, ⟨"DIR", 29, 29, .rw, 0⟩, ⟨"EN", 30, 30, .rw, 0⟩]⟩,
   ⟨"CH_WEIR1", 0x114, 64, 24, [⟨"THRESH", 19, 0, .rw, 0⟩, ⟨"HYST", 27, 20, .rw, 4⟩, ⟨"SRC", 28, 28, .rw, 0⟩, ⟨"DIR", 29, 29, .rw, 0⟩, ⟨"EN", 30, 30, .rw, 0⟩]⟩,
   ⟨"CH_WEIR2", 0x118, 64, 24, [⟨"THRESH", 19, 0, .rw, 0⟩, ⟨"HYST", 27, 20, .rw, 4⟩, ⟨"SRC", 28, 28, .rw, 0⟩, ⟨"DIR", 29, 29, .rw, 0⟩, ⟨"EN", 30, 30, .rw, 0⟩]⟩]

/-- MON register table, part 2. -/
def monRegs2 : List RegSpec :=
  [⟨"CH_WEIR3", 0x11C, 64, 24, [⟨"THRESH", 19, 0, .rw, 0⟩, ⟨"HYST", 27, 20, .rw, 4⟩, ⟨"SRC", 28, 28, .rw, 0⟩, ⟨"DIR", 29, 29, .rw, 0⟩, ⟨"EN", 30, 30, .rw, 0⟩]⟩,
   ⟨"COEF", 0x800, 4, 512, [⟨"VALUE", 17, 0, .rw, 0⟩]⟩]

/-- MON register table. -/
def monRegs : List RegSpec := monRegs0 ++ monRegs1 ++ monRegs2

/-- PERF register table, part 0. -/
def perfRegs0 : List RegSpec :=
  [⟨"CTL", 0x000, 0, 1, [⟨"FREEZE", 0, 0, .rw, 0⟩, ⟨"SNAP", 1, 1, .act, 0⟩, ⟨"WRAP_FREEZE", 2, 2, .rw, 0⟩, ⟨"CLEAR_ALL", 3, 3, .act, 0⟩]⟩,
   ⟨"STAT", 0x004, 0, 1, [⟨"SNAP_SEQ", 7, 0, .ro, 0⟩, ⟨"PERSONA", 8, 8, .ro, 0⟩]⟩,
   ⟨"EVENT", 0x008, 0, 1, [⟨"WRAP", 0, 0, .w1c, 0⟩, ⟨"WINDOW", 1, 1, .w1c, 0⟩, ⟨"CFG_REFUSED", 2, 2, .w1c, 0⟩]⟩,
   ⟨"EVENT_EN", 0x00C, 0, 1, [⟨"EN", 2, 0, .rw, 5⟩]⟩,
   ⟨"WRAP", 0x018, 0, 1, [⟨"CNT", 31, 0, .w1c, 0⟩]⟩,
   ⟨"USER_EN", 0x01C, 0, 1, [⟨"CNT", 31, 0, .rw, 0⟩]⟩,
   ⟨"BW_CTL", 0x020, 0, 1, [⟨"WINDOW", 21, 0, .rw, 1000⟩, ⟨"USER", 30, 30, .rw, 0⟩, ⟨"RUN", 31, 31, .rw, 0⟩]⟩,
   ⟨"BW_STAT", 0x024, 0, 1, [⟨"SEQ", 15, 0, .ro, 0⟩]⟩,
   ⟨"REFUSE", 0x028, 0, 1, [⟨"CNT", 4, 0, .ro, 0⟩, ⟨"MASTER", 8, 5, .ro, 0⟩, ⟨"COUNT", 31, 16, .rc, 0⟩]⟩,
   ⟨"SNAP_TS_LO", 0x010, 0, 1, [⟨"TICK", 31, 0, .ro, 0⟩]⟩,
   ⟨"SNAP_TS_HI", 0x014, 0, 1, [⟨"TICK", 31, 0, .ro, 0⟩]⟩,
   ⟨"CNT_CTL", 0x100, 32, 32, [⟨"CLASS", 7, 0, .rw, 0⟩, ⟨"EN", 8, 8, .rw, 0⟩, ⟨"WRAP_IRQ", 9, 9, .rw, 0⟩]⟩]

/-- PERF register table, part 1. -/
def perfRegs1 : List RegSpec :=
  [⟨"CNT_LO", 0x104, 32, 32, [⟨"COUNT", 31, 0, .rw, 0⟩]⟩,
   ⟨"CNT_HI", 0x108, 32, 32, [⟨"COUNT", 15, 0, .rw, 0⟩]⟩,
   ⟨"FILT", 0x10C, 32, 32, [⟨"MASTER", 7, 0, .rw, 255⟩, ⟨"PRIV", 10, 8, .rw, 7⟩, ⟨"A_EN", 11, 11, .rw, 0⟩]⟩,
   ⟨"LANE_LO", 0x118, 32, 32, [⟨"LANES", 31, 0, .rw, 4294967295⟩]⟩,
   ⟨"LANE_HI", 0x11C, 32, 32, [⟨"LANES", 15, 0, .rw, 65535⟩]⟩,
   ⟨"ADDR_LO", 0x110, 32, 32, [⟨"ADDR", 31, 0, .rw, 0⟩]⟩,
   ⟨"ADDR_HI", 0x114, 32, 32, [⟨"ADDR", 31, 0, .rw, 4294967295⟩]⟩,
   ⟨"SNAP_LO", 0x500, 8, 32, [⟨"COUNT", 31, 0, .ro, 0⟩]⟩,
   ⟨"SNAP_HI", 0x504, 8, 32, [⟨"COUNT", 15, 0, .ro, 0⟩]⟩,
   ⟨"BW_RX", 0x600, 8, 26, [⟨"UNITS", 31, 0, .ro, 0⟩]⟩,
   ⟨"BW_TX", 0x604, 8, 26, [⟨"UNITS", 31, 0, .ro, 0⟩]⟩]

/-- PERF register table. -/
def perfRegs : List RegSpec := perfRegs0 ++ perfRegs1

/-- MBOX register table, part 0. -/
def mboxRegs0 : List RegSpec :=
  [⟨"CH_LO", 0x000, 16, 6, [⟨"POINTER", 31, 0, .rw, 0⟩]⟩,
   ⟨"CH_LO", 0x080, 16, 96, [⟨"POINTER", 31, 0, .rw, 0⟩]⟩,
   ⟨"CH_HI", 0x004, 16, 6, [⟨"HIGH", 31, 0, .rw, 0⟩]⟩,
   ⟨"CH_HI", 0x084, 16, 96, [⟨"HIGH", 31, 0, .rw, 0⟩]⟩,
   ⟨"CH_STAT", 0x008, 16, 6, [⟨"COUNT", 2, 0, .ro, 0⟩, ⟨"POSTED", 15, 8, .ro, 0⟩, ⟨"REFUSED", 23, 16, .ro, 0⟩, ⟨"WITHDRAWN", 31, 24, .ro, 0⟩]⟩,
   ⟨"CH_STAT", 0x088, 16, 96, [⟨"COUNT", 2, 0, .ro, 0⟩, ⟨"POSTED", 15, 8, .ro, 0⟩, ⟨"REFUSED", 23, 16, .ro, 0⟩, ⟨"WITHDRAWN", 31, 24, .ro, 0⟩]⟩,
   ⟨"ARRIVE", 0x800, 4, 4, [⟨"CH", 31, 0, .w1c, 0⟩]⟩,
   ⟨"SPACE", 0x810, 4, 4, [⟨"CH", 31, 0, .w1c, 0⟩]⟩,
   ⟨"SRESET", 0x820, 4, 4, [⟨"CH", 31, 0, .w1c, 0⟩]⟩,
   ⟨"NONEMPTY", 0x830, 4, 4, [⟨"CH", 31, 0, .ro, 0⟩]⟩,
   ⟨"ACC_LOG", 0x840, 0, 1, [⟨"INDEX", 6, 0, .ro, 0⟩, ⟨"KIND", 7, 7, .ro, 0⟩, ⟨"MASTER", 11, 8, .ro, 0⟩, ⟨"COUNT", 31, 16, .rc, 0⟩]⟩,
   ⟨"RESET_DECL", 0x844, 0, 1, [⟨"HOST_S", 0, 0, .act, 0⟩, ⟨"HOST_NS", 1, 1, .act, 0⟩, ⟨"SMP", 2, 2, .act, 0⟩]⟩]

/-- MBOX register table, part 1. -/
def mboxRegs1 : List RegSpec :=
  [⟨"SEM", 0x900, 4, 32, [⟨"HELD", 0, 0, .rw, 0⟩, ⟨"HOLDER_SEC", 1, 1, .ro, 0⟩, ⟨"HOLDER", 7, 4, .ro, 0⟩]⟩,
   ⟨"SEM_VIEW", 0x980, 0, 1, [⟨"HELD", 31, 0, .ro, 0⟩]⟩]

/-- MBOX register table. -/
def mboxRegs : List RegSpec := mboxRegs0 ++ mboxRegs1

/-- IRQ register table, part 0. -/
def irqRegs0 : List RegSpec :=
  [⟨"RAW_LO", 0x000, 0, 1, [⟨"SRC", 31, 0, .ro, 0⟩]⟩,
   ⟨"RAW_HI", 0x004, 0, 1, [⟨"SRC", 31, 0, .ro, 0⟩]⟩,
   ⟨"SECURE_LO", 0x008, 0, 1, [⟨"SRC", 31, 0, .rw, 4294967295⟩]⟩,
   ⟨"SECURE_HI", 0x00C, 0, 1, [⟨"SRC", 31, 0, .rw, 4294967295⟩]⟩,
   ⟨"S_EN_LO", 0x010, 0, 1, [⟨"SRC", 31, 0, .rw, 0⟩]⟩,
   ⟨"S_EN_HI", 0x014, 0, 1, [⟨"SRC", 31, 0, .rw, 0⟩]⟩,
   ⟨"NS_EN_LO", 0x018, 0, 1, [⟨"SRC", 31, 0, .rw, 0⟩]⟩,
   ⟨"NS_EN_HI", 0x01C, 0, 1, [⟨"SRC", 31, 0, .rw, 0⟩]⟩,
   ⟨"HOST_EN_LO", 0x020, 0, 1, [⟨"SRC", 31, 0, .rw, 0⟩]⟩,
   ⟨"HOST_EN_HI", 0x024, 0, 1, [⟨"SRC", 31, 0, .rw, 0⟩]⟩,
   ⟨"SMP_EN_LO", 0x028, 0, 1, [⟨"SRC", 31, 0, .rw, 0⟩]⟩,
   ⟨"SMP_EN_HI", 0x02C, 0, 1, [⟨"SRC", 31, 0, .rw, 0⟩]⟩]

/-- IRQ register table, part 1. -/
def irqRegs1 : List RegSpec :=
  [⟨"HOST_INSERV_LO", 0x030, 0, 1, [⟨"SRC", 31, 0, .ro, 0⟩]⟩,
   ⟨"HOST_INSERV_HI", 0x034, 0, 1, [⟨"SRC", 31, 0, .ro, 0⟩]⟩,
   ⟨"HOST_EOI", 0x038, 0, 1, [⟨"VECTOR", 5, 0, .wo, 0⟩]⟩,
   ⟨"SOFT_SET", 0x03C, 0, 1, [⟨"BITS", 31, 0, .w1s, 0⟩]⟩,
   ⟨"SOFT_CLR", 0x040, 0, 1, [⟨"BITS", 31, 0, .w1c, 0⟩]⟩]

/-- IRQ register table. -/
def irqRegs : List RegSpec := irqRegs0 ++ irqRegs1

/-- DMA register table. -/
def dmaRegs : List RegSpec :=
  [⟨"CH_CTL", 0x000, 32, 8, [⟨"START", 0, 0, .act, 0⟩, ⟨"STOP", 1, 1, .act, 0⟩]⟩,
   ⟨"CH_DESC", 0x004, 32, 8, [⟨"ADDR", 31, 5, .rw, 0⟩]⟩,
   ⟨"CH_STAT", 0x008, 32, 8, [⟨"STATE", 1, 0, .ro, 0⟩, ⟨"CODE", 4, 2, .ro, 0⟩, ⟨"DONE", 31, 16, .ro, 0⟩]⟩,
   ⟨"CH_FAIL", 0x00C, 32, 8, [⟨"ADDR", 31, 0, .ro, 0⟩]⟩,
   ⟨"EVENT", 0x100, 0, 1, [⟨"DONE", 7, 0, .w1c, 0⟩, ⟨"HALT", 15, 8, .w1c, 0⟩, ⟨"REFUSED", 16, 16, .w1c, 0⟩]⟩,
   ⟨"EVENT_EN", 0x104, 0, 1, [⟨"EN", 16, 0, .rw, 131071⟩]⟩]

/-- PCIE register table. -/
def pcieRegs : List RegSpec :=
  [⟨"STAT", 0x000, 0, 1, [⟨"LINK_UP", 0, 0, .ro, 0⟩, ⟨"SPEED", 3, 1, .ro, 0⟩, ⟨"WIDTH", 6, 4, .ro, 0⟩, ⟨"D3HOT", 7, 7, .ro, 0⟩, ⟨"ASPM", 9, 8, .ro, 0⟩]⟩,
   ⟨"WORLD", 0x004, 0, 1, [⟨"BAR0_NS", 0, 0, .rw, 0⟩, ⟨"BAR2S_EN", 1, 1, .rw, 1⟩]⟩,
   ⟨"EVENT", 0x008, 0, 1, [⟨"LINK_DOWN", 0, 0, .w1c, 0⟩, ⟨"LINK_UP", 1, 1, .w1c, 0⟩, ⟨"REFUSED", 2, 2, .w1c, 0⟩, ⟨"RESET", 3, 3, .w1c, 0⟩]⟩,
   ⟨"EVENT_EN", 0x00C, 0, 1, [⟨"EN", 3, 0, .rw, 15⟩]⟩,
   ⟨"ERR_ADDR", 0x010, 0, 1, [⟨"ADDR", 31, 0, .ro, 0⟩]⟩,
   ⟨"ERR_INFO", 0x014, 0, 1, [⟨"WRITE", 0, 0, .ro, 0⟩, ⟨"BAR", 2, 1, .ro, 0⟩, ⟨"CAUSE", 5, 3, .ro, 0⟩, ⟨"COUNT", 31, 16, .rc, 0⟩]⟩,
   ⟨"SUBSYS", 0x018, 0, 1, [⟨"SVID", 15, 0, .ro, 0⟩, ⟨"SSID", 31, 16, .ro, 0⟩]⟩]

/-- SMP register table. -/
def smpRegs : List RegSpec :=
  [⟨"CFG", 0x000, 0, 1, [⟨"I3C_EN", 0, 0, .rw, 1⟩]⟩,
   ⟨"STAT", 0x004, 0, 1, [⟨"I3C", 0, 0, .ro, 0⟩, ⟨"DYN_ADDR", 7, 1, .ro, 0⟩, ⟨"STATIC", 14, 8, .ro, 72⟩, ⟨"IBI_EN", 15, 15, .ro, 0⟩]⟩,
   ⟨"EVENT", 0x008, 0, 1, [⟨"WERR", 0, 0, .w1c, 0⟩, ⟨"AERR", 1, 1, .w1c, 0⟩, ⟨"PARTIAL", 2, 2, .w1c, 0⟩, ⟨"READ_NACK", 3, 3, .w1c, 0⟩, ⟨"WAKE", 4, 4, .w1c, 0⟩]⟩,
   ⟨"EVENT_EN", 0x00C, 0, 1, [⟨"EN", 4, 0, .rw, 31⟩]⟩,
   ⟨"ERR_COUNT", 0x010, 0, 1, [⟨"COUNT", 15, 0, .rc, 0⟩]⟩]

/-- TOW register table, part 0. -/
def towRegs0 : List RegSpec :=
  [⟨"CTL", 0x000, 0, 1, [⟨"HEAD", 0, 0, .rw, 0⟩, ⟨"ENUM", 1, 1, .act, 0⟩, ⟨"SYNC", 2, 2, .act, 0⟩]⟩,
   ⟨"STAT", 0x004, 0, 1, [⟨"ENUM_BUSY", 0, 0, .ro, 0⟩, ⟨"OPEN", 1, 1, .ro, 0⟩, ⟨"N", 8, 2, .ro, 0⟩, ⟨"NB", 15, 9, .ro, 0⟩]⟩,
   ⟨"EVENT", 0x008, 0, 1, [⟨"BITS", 9, 0, .w1c, 0⟩]⟩,
   ⟨"EVENT_EN", 0x00C, 0, 1, [⟨"EN", 9, 0, .rw, 1023⟩]⟩,
   ⟨"ID", 0x010, 0, 1, [⟨"ID", 5, 0, .ro, 0⟩, ⟨"VALID", 6, 6, .ro, 0⟩]⟩,
   ⟨"CFG", 0x014, 0, 1, [⟨"MAX_SPEED", 1, 0, .rw, 2⟩, ⟨"RSP_TO", 9, 2, .rw, 32⟩, ⟨"SLEEP_US", 19, 10, .rw, 100⟩]⟩,
   ⟨"SYNC_CFG", 0x028, 0, 1, [⟨"LEAD", 15, 0, .rw, 8192⟩]⟩,
   ⟨"ROUTE_LO", 0x018, 0, 1, [⟨"DEV", 31, 0, .ro, 0⟩]⟩,
   ⟨"ROUTE_HI", 0x01C, 0, 1, [⟨"DEV", 31, 0, .ro, 0⟩]⟩,
   ⟨"REACH_LO", 0x020, 0, 1, [⟨"DEV", 31, 0, .ro, 0⟩]⟩,
   ⟨"REACH_HI", 0x024, 0, 1, [⟨"DEV", 31, 0, .ro, 0⟩]⟩,
   ⟨"REMOTE_IRQ_LO", 0x030, 0, 1, [⟨"DEV", 31, 0, .w1c, 0⟩]⟩]

/-- TOW register table, part 1. -/
def towRegs1 : List RegSpec :=
  [⟨"REMOTE_IRQ_HI", 0x034, 0, 1, [⟨"DEV", 31, 0, .w1c, 0⟩]⟩,
   ⟨"PORT_CTL", 0x040, 32, 2, [⟨"SLEEP_EN", 0, 0, .rw, 0⟩, ⟨"TEST", 1, 1, .rw, 0⟩, ⟨"PRBS", 3, 2, .rw, 0⟩, ⟨"INJECT", 4, 4, .wo, 0⟩]⟩,
   ⟨"PORT_STAT", 0x044, 32, 2, [⟨"UP", 0, 0, .ro, 0⟩, ⟨"SPEED", 2, 1, .ro, 0⟩, ⟨"SPEED_FAIL", 3, 3, .ro, 0⟩, ⟨"TX_SLEEP", 4, 4, .ro, 0⟩, ⟨"RX_SLEEP", 5, 5, .ro, 0⟩, ⟨"PARTNER_CAP", 7, 6, .ro, 0⟩, ⟨"PRBS_LOCK", 8, 8, .ro, 0⟩]⟩,
   ⟨"PORT_DELAY", 0x048, 32, 2, [⟨"TICKS", 11, 0, .ro, 0⟩]⟩,
   ⟨"PORT_CRC", 0x04C, 32, 2, [⟨"COUNT", 15, 0, .rc, 0⟩]⟩,
   ⟨"PORT_PRBS", 0x050, 32, 2, [⟨"COUNT", 31, 0, .rc, 0⟩]⟩,
   ⟨"RWIN_SEL", 0x100, 16, 4, [⟨"BASE", 26, 0, .rw, 0⟩]⟩,
   ⟨"RWIN_DEV", 0x104, 16, 4, [⟨"DEV", 5, 0, .rw, 0⟩]⟩,
   ⟨"RWIN_STAT", 0x108, 16, 4, [⟨"BUSY", 0, 0, .ro, 0⟩, ⟨"ERR", 1, 1, .w1c, 0⟩, ⟨"STATUS", 3, 2, .ro, 0⟩]⟩]

/-- TOW register table. -/
def towRegs : List RegSpec := towRegs0 ++ towRegs1

/-- FAULT register table, part 0. -/
def faultRegs0 : List RegSpec :=
  [⟨"STAT", 0x000, 0, 1, [⟨"DEV", 0, 0, .ro, 0⟩, ⟨"PIN", 1, 1, .ro, 1⟩, ⟨"FROZEN", 2, 2, .ro, 0⟩, ⟨"OOS", 8, 3, .ro, 0⟩, ⟨"ACTIVE", 14, 9, .ro, 0⟩]⟩,
   ⟨"DEV_ACTIVE", 0x004, 0, 1, [⟨"CLASS", 5, 1, .ro, 0⟩]⟩,
   ⟨"EVENT", 0x008, 0, 1, [⟨"BITS", 8, 0, .w1c, 0⟩]⟩,
   ⟨"EVENT_EN", 0x00C, 0, 1, [⟨"EN", 8, 0, .rw, 511⟩]⟩,
   ⟨"CFG", 0x010, 0, 1, [⟨"PIN_LANE", 0, 0, .rw, 1⟩, ⟨"PIN_FORCE", 1, 1, .rw, 0⟩, ⟨"SETTLE_MS", 23, 8, .rw, 1000⟩]⟩,
   ⟨"REPORT", 0x014, 0, 1, [⟨"LANE", 5, 0, .wo, 0⟩, ⟨"CAUSE", 14, 8, .wo, 0⟩, ⟨"LEVEL", 18, 16, .wo, 0⟩]⟩,
   ⟨"STEP", 0x018, 0, 1, [⟨"LANE", 5, 0, .wo, 0⟩, ⟨"DONE", 8, 8, .wo, 0⟩]⟩,
   ⟨"DECLARE", 0x01C, 0, 1, [⟨"CLASS", 2, 0, .wo, 0⟩, ⟨"SHUTDOWN", 3, 3, .wo, 0⟩, ⟨"DATA", 31, 16, .wo, 0⟩]⟩,
   ⟨"DEV_CLR", 0x020, 0, 1, [⟨"CLASS", 5, 1, .act, 0⟩]⟩,
   ⟨"LOG_CTL", 0x024, 0, 1, [⟨"POP", 0, 0, .wo, 0⟩, ⟨"COUNT", 5, 1, .ro, 0⟩]⟩,
   ⟨"LOG_DROP", 0x028, 0, 1, [⟨"COUNT", 15, 0, .rc, 0⟩]⟩,
   ⟨"LOG_DATA", 0x03C, 0, 1, [⟨"DATA", 31, 0, .ro, 0⟩]⟩]

/-- FAULT register table, part 1. -/
def faultRegs1 : List RegSpec :=
  [⟨"FWLOG_BASE", 0x040, 0, 1, [⟨"ADDR", 31, 4, .rw, 0⟩]⟩,
   ⟨"FWLOG_HEAD", 0x044, 0, 1, [⟨"INDEX", 7, 0, .rw, 0⟩]⟩,
   ⟨"LOG_TS_LO", 0x030, 0, 1, [⟨"TIME", 31, 0, .ro, 0⟩]⟩,
   ⟨"LOG_TS_HI", 0x034, 0, 1, [⟨"TIME", 31, 0, .ro, 0⟩]⟩,
   ⟨"LOG_INFO", 0x038, 0, 1, [⟨"KIND", 2, 0, .ro, 0⟩, ⟨"LANE", 8, 3, .ro, 0⟩, ⟨"CAUSE", 15, 9, .ro, 0⟩, ⟨"LEVEL", 18, 16, .ro, 0⟩, ⟨"DETAIL", 26, 19, .ro, 0⟩]⟩,
   ⟨"LADDER", 0x100, 4, 48, [⟨"LEVEL", 2, 0, .ro, 0⟩, ⟨"ACTIVE", 3, 3, .ro, 0⟩, ⟨"FROZEN", 4, 4, .ro, 0⟩, ⟨"LAST_CAUSE", 11, 5, .ro, 0⟩, ⟨"LAST_OK", 14, 12, .ro, 0⟩, ⟨"FAULTS", 23, 16, .ro, 0⟩]⟩]

/-- FAULT register table. -/
def faultRegs : List RegSpec := faultRegs0 ++ faultRegs1

/-- CAL register table. -/
def calRegs : List RegSpec :=
  [⟨"CTL", 0x000, 0, 1, [⟨"BG_EN", 0, 0, .rw, 1⟩, ⟨"TEMP_EN", 1, 1, .rw, 1⟩, ⟨"DT", 13, 8, .rw, 16⟩]⟩,
   ⟨"CMD", 0x004, 0, 1, [⟨"LANE", 5, 0, .rw, 0⟩, ⟨"GO", 8, 8, .wo, 0⟩, ⟨"REASON", 14, 12, .ro, 0⟩]⟩,
   ⟨"EVENT", 0x008, 0, 1, [⟨"DONE", 0, 0, .w1c, 0⟩, ⟨"STEPPED", 1, 1, .w1c, 0⟩, ⟨"UNFIT", 2, 2, .w1c, 0⟩, ⟨"GIVEUP", 3, 3, .w1c, 0⟩, ⟨"ABORTED", 4, 4, .w1c, 0⟩, ⟨"CMD_REFUSED", 5, 5, .w1c, 0⟩, ⟨"SRC_CHANGE", 6, 6, .w1c, 0⟩]⟩,
   ⟨"EVENT_EN", 0x00C, 0, 1, [⟨"DONE", 0, 0, .rw, 1⟩, ⟨"STEPPED", 1, 1, .rw, 1⟩, ⟨"UNFIT", 2, 2, .rw, 1⟩, ⟨"GIVEUP", 3, 3, .rw, 1⟩, ⟨"ABORTED", 4, 4, .rw, 1⟩, ⟨"CMD_REFUSED", 5, 5, .rw, 1⟩, ⟨"SRC_CHANGE", 6, 6, .rw, 1⟩]⟩,
   ⟨"UNFIT_LO", 0x010, 0, 1, [⟨"LANES", 31, 0, .w1c, 0⟩]⟩,
   ⟨"UNFIT_HI", 0x014, 0, 1, [⟨"LANES", 15, 0, .w1c, 0⟩]⟩,
   ⟨"BG_STAT", 0x018, 0, 1, [⟨"LAP_US", 15, 0, .ro, 0⟩, ⟨"SKIP", 31, 16, .rc, 0⟩]⟩,
   ⟨"RECAL_COUNT", 0x01C, 0, 1, [⟨"COUNT", 15, 0, .rc, 0⟩]⟩,
   ⟨"STEP_COUNT", 0x020, 0, 1, [⟨"COUNT", 15, 0, .rc, 0⟩]⟩,
   ⟨"LANE_STAT", 0x100, 4, 48, [⟨"STATE", 2, 0, .ro, 0⟩, ⟨"RETRIES", 6, 3, .ro, 0⟩, ⟨"UNFIT", 7, 7, .ro, 0⟩, ⟨"LAST_STEP", 8, 8, .ro, 0⟩, ⟨"SUBST", 9, 9, .ro, 0⟩, ⟨"SENSOR", 15, 12, .ro, 15⟩, ⟨"LAST_PAUSE", 31, 16, .ro, 0⟩]⟩,
   ⟨"LANE_REF", 0x200, 4, 48, [⟨"T_REF", 9, 0, .ro, 0⟩, ⟨"T_NOW", 25, 16, .ro, 0⟩]⟩]

/-- FLASH register table. -/
def flashRegs : List RegSpec :=
  [⟨"BOOT_STAT", 0x000, 0, 1, [⟨"SEL", 1, 0, .ro, 0⟩, ⟨"PHASE", 4, 2, .ro, 0⟩, ⟨"SLOT", 5, 5, .ro, 0⟩]⟩,
   ⟨"BOOT_DOOR", 0x004, 0, 1, [⟨"LENGTH", 22, 0, .rw, 0⟩, ⟨"GO", 31, 31, .act, 0⟩]⟩,
   ⟨"SFDP", 0x008, 0, 1, [⟨"SIZE_LOG2", 5, 0, .ro, 0⟩, ⟨"ADDR4", 6, 6, .ro, 0⟩, ⟨"READ", 8, 7, .ro, 0⟩, ⟨"VALID", 9, 9, .ro, 0⟩]⟩,
   ⟨"CMD", 0x00C, 0, 1, [⟨"OPCODE", 7, 0, .rw, 0⟩, ⟨"ABYTES", 9, 8, .rw, 0⟩, ⟨"DATA", 11, 10, .rw, 0⟩, ⟨"QUAD", 12, 12, .rw, 0⟩, ⟨"POLL", 13, 13, .rw, 0⟩, ⟨"GO", 14, 14, .act, 0⟩]⟩,
   ⟨"ADDR", 0x010, 0, 1, [⟨"ADDR", 31, 0, .rw, 0⟩]⟩,
   ⟨"LEN", 0x014, 0, 1, [⟨"LEN", 16, 0, .rw, 0⟩]⟩,
   ⟨"BUF", 0x018, 0, 1, [⟨"ADDR", 31, 0, .rw, 0⟩]⟩,
   ⟨"STAT", 0x01C, 0, 1, [⟨"BUSY", 0, 0, .ro, 0⟩, ⟨"DONE", 1, 1, .w1c, 0⟩, ⟨"CODE", 4, 2, .ro, 0⟩]⟩,
   ⟨"CMD_TO", 0x020, 0, 1, [⟨"MS", 15, 0, .rw, 5000⟩]⟩]

/-- FAB register table, part 0. -/
def fabRegs0 : List RegSpec :=
  [⟨"CTL", 0x000, 0, 1, [⟨"SPEED_EN", 0, 0, .rw, 1⟩, ⟨"CRIT_FAULT_EN", 1, 1, .rw, 1⟩]⟩,
   ⟨"STATUS", 0x004, 0, 1, [⟨"MARGIN_WARN", 0, 0, .ro, 0⟩, ⟨"MARGIN_CRIT", 1, 1, .ro, 0⟩, ⟨"TGT_CLAMPED_LTX", 2, 2, .ro, 0⟩, ⟨"TGT_CLAMPED_HTX", 3, 3, .ro, 0⟩, ⟨"ALL_LOCKED", 4, 4, .ro, 0⟩, ⟨"REF_MODE", 7, 5, .ro, 4⟩]⟩,
   ⟨"MARGIN_THR", 0x010, 0, 1, [⟨"WARN", 11, 0, .rw, 50⟩, ⟨"CRIT", 27, 16, .rw, 0⟩, ⟨"HYST", 31, 28, .rw, 2⟩]⟩,
   ⟨"MARGIN_MIN", 0x014, 0, 1, [⟨"NOW", 11, 0, .ro, 0⟩, ⟨"WHICH", 14, 12, .ro, 0⟩, ⟨"LOW", 27, 16, .ro, 2047⟩, ⟨"LOW_CLR", 31, 31, .wo, 0⟩]⟩,
   ⟨"RATE_NEED", 0x018, 0, 1, [⟨"MBARGE", 11, 0, .ro, 934⟩]⟩,
   ⟨"FL_TGT_LTX", 0x040, 0, 1, [⟨"UI", 16, 0, .rw, 0⟩]⟩,
   ⟨"FL_TGT_HTX", 0x044, 0, 1, [⟨"UI", 16, 0, .rw, 0⟩]⟩,
   ⟨"FL_SLEW", 0x048, 0, 1, [⟨"RATE", 3, 0, .rw, 5⟩]⟩,
   ⟨"LOCK_SUMMARY", 0x04C, 0, 1, [⟨"LTX", 7, 0, .ro, 0⟩, ⟨"HTX", 23, 8, .ro, 0⟩]⟩,
   ⟨"EVENT", 0x008, 0, 1, [⟨"WARN_ENTER", 0, 0, .w1c, 0⟩, ⟨"CRIT_ENTER", 1, 1, .w1c, 0⟩, ⟨"TGT_CLAMP", 2, 2, .w1c, 0⟩, ⟨"LOCK_LOST", 3, 3, .w1c, 0⟩, ⟨"XDROP", 4, 4, .w1c, 0⟩, ⟨"UNDERRUN", 5, 5, .w1c, 0⟩, ⟨"SB_PARITY", 6, 6, .w1c, 0⟩]⟩,
   ⟨"EVENT_EN", 0x00C, 0, 1, [⟨"WARN_ENTER", 0, 0, .rw, 1⟩, ⟨"CRIT_ENTER", 1, 1, .rw, 1⟩, ⟨"TGT_CLAMP", 2, 2, .rw, 1⟩, ⟨"LOCK_LOST", 3, 3, .rw, 1⟩, ⟨"XDROP", 4, 4, .rw, 1⟩, ⟨"UNDERRUN", 5, 5, .rw, 1⟩, ⟨"SB_PARITY", 6, 6, .rw, 1⟩]⟩,
   ⟨"SPEED", 0x020, 4, 8, [⟨"MARGIN", 11, 0, .ro, 0⟩, ⟨"VALID", 12, 12, .ro, 0⟩]⟩]

/-- FAB register table, part 1. -/
def fabRegs1 : List RegSpec :=
  [⟨"LAT", 0x100, 4, 24, [⟨"LATENCY", 23, 0, .ro, 0⟩, ⟨"STATE", 25, 24, .ro, 0⟩, ⟨"VALID", 26, 26, .ro, 0⟩]⟩,
   ⟨"XDROP", 0x200, 4, 48, [⟨"COUNT", 15, 0, .rc, 0⟩]⟩,
   ⟨"UNDERRUN", 0x300, 4, 24, [⟨"COUNT", 15, 0, .rc, 0⟩]⟩]

/-- FAB register table. -/
def fabRegs : List RegSpec := fabRegs0 ++ fabRegs1

/-- LRX register table, part 0. -/
def lrxRegs0 : List RegSpec :=
  [⟨"CTL", 0x000, 0, 1, [⟨"INV", 0, 0, .rw, 0⟩, ⟨"PRECODE", 1, 1, .rw, 0⟩, ⟨"NLE_MASK", 31, 16, .rw, 65535⟩]⟩,
   ⟨"STATUS", 0x004, 0, 1, [⟨"AMP_DET", 0, 0, .ro, 0⟩, ⟨"PWR_WEIR", 1, 1, .ro, 0⟩, ⟨"PRESENT", 2, 2, .ro, 0⟩, ⟨"CDR_LOCK", 3, 3, .ro, 0⟩, ⟨"ACQ_STATE", 6, 4, .ro, 0⟩, ⟨"DATA", 7, 7, .ro, 0⟩, ⟨"CAPTURES", 9, 8, .ro, 0⟩, ⟨"SIG_DET", 10, 10, .ro, 0⟩]⟩,
   ⟨"EVENT", 0x008, 0, 1, [⟨"LOS_ENTER", 0, 0, .w1c, 0⟩, ⟨"LOS_EXIT", 1, 1, .w1c, 0⟩, ⟨"CDR_UNLOCK", 2, 2, .w1c, 0⟩, ⟨"CAPTURE", 3, 3, .w1c, 0⟩, ⟨"ACQ_FAULT", 4, 4, .w1c, 0⟩, ⟨"COMMIT_REFUSED", 5, 5, .w1c, 0⟩, ⟨"PAT_ERR", 6, 6, .w1c, 0⟩, ⟨"WCAP_DONE", 7, 7, .w1c, 0⟩, ⟨"CORR_DONE", 8, 8, .w1c, 0⟩]⟩,
   ⟨"EVENT_EN", 0x00C, 0, 1, [⟨"LOS_ENTER", 0, 0, .rw, 1⟩, ⟨"LOS_EXIT", 1, 1, .rw, 1⟩, ⟨"CDR_UNLOCK", 2, 2, .rw, 1⟩, ⟨"CAPTURE", 3, 3, .rw, 1⟩, ⟨"ACQ_FAULT", 4, 4, .rw, 1⟩, ⟨"COMMIT_REFUSED", 5, 5, .rw, 1⟩, ⟨"PAT_ERR", 6, 6, .rw, 1⟩, ⟨"WCAP_DONE", 7, 7, .rw, 1⟩, ⟨"CORR_DONE", 8, 8, .rw, 1⟩]⟩,
   ⟨"ACQ_CFG", 0x010, 0, 1, [⟨"ADET_LVL", 1, 0, .rw, 2⟩, ⟨"MKR_THR", 31, 16, .rw, 2560⟩]⟩,
   ⟨"ACQ_CMD", 0x014, 0, 1, [⟨"PROG_READY", 0, 0, .w1s, 0⟩, ⟨"QUALIFIED", 1, 1, .w1s, 0⟩]⟩,
   ⟨"CDR_CFG", 0x018, 0, 1, [⟨"BW", 1, 0, .rw, 1⟩]⟩,
   ⟨"CDR_STAT", 0x01C, 0, 1, [⟨"FREQ_OFS", 15, 0, .ro, 0⟩]⟩,
   ⟨"MKR", 0x020, 0, 1, [⟨"PEAK_ALIGNED", 15, 0, .ro, 0⟩, ⟨"PEAK_OTHER", 31, 16, .ro, 0⟩]⟩,
   ⟨"CAPLOG", 0x024, 0, 1, [⟨"COUNT", 15, 0, .rc, 0⟩, ⟨"RATIO", 23, 16, .ro, 0⟩]⟩,
   ⟨"CORR_CTL", 0x028, 0, 1, [⟨"LOG2N", 4, 0, .rw, 14⟩, ⟨"HIST_SRC", 7, 7, .rw, 0⟩, ⟨"START", 8, 8, .act, 0⟩, ⟨"DONE", 9, 9, .ro, 0⟩, ⟨"PAUSED", 10, 10, .ro, 0⟩]⟩,
   ⟨"ERRSQ", 0x02C, 0, 1, [⟨"VALUE", 31, 0, .ro, 0⟩]⟩]

/-- LRX register table, part 1. -/
def lrxRegs1 : List RegSpec :=
  [⟨"PAT", 0x030, 0, 1, [⟨"SEL", 1, 0, .rw, 2⟩, ⟨"EN", 2, 2, .rw, 0⟩, ⟨"SYNCED", 3, 3, .ro, 0⟩]⟩,
   ⟨"PAT_ERR", 0x034, 0, 1, [⟨"COUNT", 31, 0, .rc, 0⟩]⟩,
   ⟨"WCAP_CTL", 0x038, 0, 1, [⟨"START", 0, 0, .act, 0⟩, ⟨"SRC", 1, 1, .rw, 0⟩, ⟨"STRIDE", 17, 2, .rw, 64⟩]⟩,
   ⟨"WCAP_LEN", 0x03C, 0, 1, [⟨"LENGTH", 22, 0, .rw, 4096⟩]⟩,
   ⟨"WCAP_STAT", 0x044, 0, 1, [⟨"BUSY", 0, 0, .ro, 0⟩, ⟨"DONE", 1, 1, .w1c, 0⟩, ⟨"REFUSED", 2, 2, .w1c, 0⟩, ⟨"ABORTED", 3, 3, .w1c, 0⟩, ⟨"REASON", 5, 4, .ro, 0⟩, ⟨"WRITTEN", 28, 6, .ro, 0⟩]⟩,
   ⟨"BANK", 0x040, 0, 1, [⟨"ACTIVE", 0, 0, .ro, 0⟩, ⟨"COMMIT", 1, 1, .wo, 0⟩, ⟨"AUTOCOPY", 2, 2, .rw, 1⟩]⟩,
   ⟨"CORR", 0x100, 4, 66, [⟨"VALUE", 31, 0, .ro, 0⟩]⟩,
   ⟨"HIST", 0x800, 4, 256, [⟨"VALUE", 31, 0, .ro, 0⟩]⟩,
   ⟨"FFE_A", 0x400, 4, 4, [⟨"W", 9, 0, .rw, 0⟩]⟩,
   ⟨"FFE_A", 0x410, 0, 1, [⟨"W", 9, 0, .rw, 256⟩]⟩,
   ⟨"FFE_A", 0x414, 4, 43, [⟨"W", 9, 0, .rw, 0⟩]⟩,
   ⟨"MAIN_A", 0x4C0, 0, 1, [⟨"W", 3, 0, .rw, 4⟩]⟩]

/-- LRX register table, part 2. -/
def lrxRegs2 : List RegSpec :=
  [⟨"H1_A", 0x4C4, 0, 1, [⟨"W", 7, 0, .rw, 0⟩]⟩,
   ⟨"CTLE_A", 0x4C8, 0, 1, [⟨"W", 4, 0, .rw, 12⟩]⟩,
   ⟨"LVL_A", 0x4CC, 0, 1, [⟨"L0", 7, 0, .rw, 160⟩, ⟨"L1", 15, 8, .rw, 224⟩, ⟨"L2", 23, 16, .rw, 32⟩, ⟨"L3", 31, 24, .rw, 96⟩]⟩,
   ⟨"NLE_A", 0x4D0, 4, 8, [⟨"LO", 9, 0, .rw, 0⟩, ⟨"HI", 25, 16, .rw, 0⟩]⟩,
   ⟨"HSD_A", 0x4F0, 0, 1, [⟨"H0", 9, 0, .rw, 256⟩, ⟨"H1", 25, 16, .rw, 0⟩]⟩,
   ⟨"QREL_A", 0x4F4, 0, 1, [⟨"SD", 7, 0, .rw, 64⟩, ⟨"SL", 15, 8, .rw, 4⟩]⟩,
   ⟨"FFE_B", 0x500, 4, 4, [⟨"W", 9, 0, .rw, 0⟩]⟩,
   ⟨"FFE_B", 0x510, 0, 1, [⟨"W", 9, 0, .rw, 256⟩]⟩,
   ⟨"FFE_B", 0x514, 4, 43, [⟨"W", 9, 0, .rw, 0⟩]⟩,
   ⟨"MAIN_B", 0x5C0, 0, 1, [⟨"W", 3, 0, .rw, 4⟩]⟩,
   ⟨"H1_B", 0x5C4, 0, 1, [⟨"W", 7, 0, .rw, 0⟩]⟩,
   ⟨"CTLE_B", 0x5C8, 0, 1, [⟨"W", 4, 0, .rw, 12⟩]⟩]

/-- LRX register table, part 3. -/
def lrxRegs3 : List RegSpec :=
  [⟨"LVL_B", 0x5CC, 0, 1, [⟨"L0", 7, 0, .rw, 160⟩, ⟨"L1", 15, 8, .rw, 224⟩, ⟨"L2", 23, 16, .rw, 32⟩, ⟨"L3", 31, 24, .rw, 96⟩]⟩,
   ⟨"NLE_B", 0x5D0, 4, 8, [⟨"LO", 9, 0, .rw, 0⟩, ⟨"HI", 25, 16, .rw, 0⟩]⟩,
   ⟨"HSD_B", 0x5F0, 0, 1, [⟨"H0", 9, 0, .rw, 256⟩, ⟨"H1", 25, 16, .rw, 0⟩]⟩,
   ⟨"QREL_B", 0x5F4, 0, 1, [⟨"SD", 7, 0, .rw, 64⟩, ⟨"SL", 15, 8, .rw, 4⟩]⟩,
   ⟨"SEQ_CTL", 0xC00, 0, 1, [⟨"START", 0, 0, .act, 0⟩, ⟨"STOP", 1, 1, .act, 0⟩, ⟨"RESUME", 2, 2, .act, 0⟩, ⟨"SAFE", 3, 3, .act, 0⟩, ⟨"LOADED", 4, 4, .act, 0⟩]⟩,
   ⟨"SEQ_STAT", 0xC04, 0, 1, [⟨"STATE", 1, 0, .ro, 0⟩, ⟨"LOADED", 2, 2, .ro, 0⟩, ⟨"IMEM_DIRTY", 3, 3, .ro, 0⟩, ⟨"SAFE_PEND", 4, 4, .ro, 0⟩, ⟨"REASON", 7, 5, .ro, 0⟩, ⟨"START_COUNT", 31, 16, .ro, 0⟩]⟩,
   ⟨"SEQ_EVENT", 0xC08, 0, 1, [⟨"TRAP", 0, 0, .w1c, 0⟩, ⟨"STOPPED", 1, 1, .w1c, 0⟩, ⟨"SAFE_FORCED", 2, 2, .w1c, 0⟩, ⟨"CMD_REFUSED", 3, 3, .w1c, 0⟩, ⟨"NOT_LOADED", 4, 4, .w1c, 0⟩]⟩,
   ⟨"SEQ_EVENT_EN", 0xC0C, 0, 1, [⟨"TRAP", 0, 0, .rw, 1⟩, ⟨"STOPPED", 1, 1, .rw, 1⟩, ⟨"SAFE_FORCED", 2, 2, .rw, 1⟩, ⟨"CMD_REFUSED", 3, 3, .rw, 1⟩, ⟨"NOT_LOADED", 4, 4, .rw, 1⟩]⟩,
   ⟨"SEQ_ENTRY", 0xC10, 0, 1, [⟨"ADDR", 13, 2, .rw, 0⟩]⟩,
   ⟨"SEQ_PC", 0xC14, 0, 1, [⟨"PC", 31, 0, .ro, 0⟩]⟩,
   ⟨"SEQ_TRAP", 0xC18, 0, 1, [⟨"CAUSE", 7, 0, .ro, 0⟩, ⟨"DETAIL", 15, 8, .ro, 0⟩]⟩,
   ⟨"SEQ_TRAP_PC", 0xC1C, 0, 1, [⟨"PC", 31, 0, .ro, 0⟩]⟩]

/-- LRX register table, part 4. -/
def lrxRegs4 : List RegSpec :=
  [⟨"SEQ_TRAP_VAL", 0xC20, 0, 1, [⟨"VALUE", 31, 0, .ro, 0⟩]⟩,
   ⟨"SEQ_EVT", 0xC24, 0, 1, [⟨"LINES", 31, 0, .ro, 0⟩]⟩,
   ⟨"SEQ_EVT_SET", 0xC28, 0, 1, [⟨"SOFT", 31, 24, .act, 0⟩]⟩,
   ⟨"SEQ_SAFE_CFG", 0xC2C, 0, 1, [⟨"TIMEOUT", 7, 0, .rw, 10⟩]⟩,
   ⟨"SEQ_IMAGE", 0xC30, 0, 1, [⟨"TAG", 31, 0, .rw, 0⟩]⟩,
   ⟨"TRN_CTL", 0xD00, 0, 1, [⟨"STATE", 3, 0, .rw, 0⟩, ⟨"RX_READY", 4, 4, .rw, 0⟩, ⟨"HANDOVER", 5, 5, .act, 0⟩, ⟨"WAKE", 6, 6, .act, 0⟩, ⟨"ACK_TO", 7, 7, .act, 0⟩]⟩,
   ⟨"TRN_CFG", 0xD04, 0, 1, [⟨"TIMEOUT", 7, 0, .rw, 145⟩, ⟨"WAKE_LEN", 15, 8, .rw, 20⟩, ⟨"WAKE_FIRST", 16, 16, .rw, 1⟩, ⟨"LANE_CHECK", 17, 17, .rw, 1⟩, ⟨"TAG_CHECK", 18, 18, .rw, 0⟩, ⟨"PRECODE_REQ", 19, 19, .rw, 0⟩]⟩,
   ⟨"TRN_TAG", 0xD08, 0, 1, [⟨"LOCAL", 7, 0, .rw, 0⟩, ⟨"PEER", 15, 8, .rw, 0⟩]⟩,
   ⟨"TRN_STAT", 0xD0C, 0, 1, [⟨"TIMER_RUN", 0, 0, .ro, 0⟩, ⟨"PEER_STATE", 4, 1, .ro, 0⟩, ⟨"PEER_OK", 5, 5, .ro, 0⟩, ⟨"MISMATCH", 6, 6, .ro, 0⟩, ⟨"RX_DATA", 7, 7, .ro, 0⟩, ⟨"ELAPSED", 15, 8, .ro, 0⟩, ⟨"COUNTDOWN", 19, 16, .ro, 15⟩]⟩,
   ⟨"TRN_EVENT", 0xD10, 0, 1, [⟨"TIMEOUT", 0, 0, .w1c, 0⟩, ⟨"ID_MISMATCH", 1, 1, .w1c, 0⟩, ⟨"MODE_MISMATCH", 2, 2, .w1c, 0⟩, ⟨"HANDOVER_DONE", 3, 3, .w1c, 0⟩, ⟨"PEER_HANDOVER", 4, 4, .w1c, 0⟩, ⟨"HANDOVER_REFUSED", 5, 5, .w1c, 0⟩, ⟨"ACK_TIMEOUT", 6, 6, .w1c, 0⟩, ⟨"RX_FRAME", 7, 7, .w1c, 0⟩]⟩,
   ⟨"TRN_EVENT_EN", 0xD14, 0, 1, [⟨"TIMEOUT", 0, 0, .rw, 1⟩, ⟨"ID_MISMATCH", 1, 1, .rw, 1⟩, ⟨"MODE_MISMATCH", 2, 2, .rw, 1⟩, ⟨"HANDOVER_DONE", 3, 3, .rw, 1⟩, ⟨"PEER_HANDOVER", 4, 4, .rw, 1⟩, ⟨"HANDOVER_REFUSED", 5, 5, .rw, 1⟩, ⟨"ACK_TIMEOUT", 6, 6, .rw, 1⟩, ⟨"RX_FRAME", 7, 7, .rw, 0⟩]⟩,
   ⟨"TRN_TXREQ", 0xD18, 0, 1, [⟨"COEF_SEL", 3, 0, .rw, 0⟩, ⟨"COEF_REQ", 5, 4, .rw, 0⟩, ⟨"PRESET", 7, 6, .rw, 0⟩, ⟨"REQ_SEQ", 15, 8, .rw, 0⟩]⟩]

/-- LRX register table, part 5. -/
def lrxRegs5 : List RegSpec :=
  [⟨"TRN_TXRSP", 0xD1C, 0, 1, [⟨"ACK_SEQ", 7, 0, .rw, 0⟩, ⟨"COEF_STS", 9, 8, .rw, 0⟩, ⟨"QUALITY", 17, 10, .rw, 0⟩]⟩,
   ⟨"TRN_RXF", 0xD20, 4, 4, [⟨"WORD", 31, 0, .ro, 0⟩]⟩,
   ⟨"TRN_GOOD", 0xD30, 0, 1, [⟨"COUNT", 15, 0, .rc, 0⟩]⟩,
   ⟨"TRN_CRC_ERR", 0xD34, 0, 1, [⟨"COUNT", 15, 0, .rc, 0⟩]⟩,
   ⟨"TRN_ID_ERR", 0xD38, 0, 1, [⟨"COUNT", 15, 0, .rc, 0⟩]⟩,
   ⟨"CW_CTL", 0xE00, 0, 1, [⟨"RESTART", 0, 0, .wo, 0⟩]⟩,
   ⟨"CW_STAT", 0xE04, 0, 1, [⟨"LOCKED", 0, 0, .ro, 0⟩, ⟨"HUNTING", 1, 1, .ro, 0⟩, ⟨"OFFSET", 10, 2, .ro, 0⟩, ⟨"ZERO_COUNT", 17, 11, .ro, 0⟩]⟩,
   ⟨"CW_EVENT", 0xE08, 0, 1, [⟨"LOCK", 0, 0, .w1c, 0⟩, ⟨"LOCK_LOST", 1, 1, .w1c, 0⟩, ⟨"UNCORR", 2, 2, .w1c, 0⟩]⟩,
   ⟨"CW_EVENT_EN", 0xE0C, 0, 1, [⟨"LOCK", 0, 0, .rw, 1⟩, ⟨"LOCK_LOST", 1, 1, .rw, 1⟩, ⟨"UNCORR", 2, 2, .rw, 1⟩]⟩,
   ⟨"CW_TOTAL", 0xE10, 0, 1, [⟨"COUNT", 31, 0, .rc, 0⟩]⟩,
   ⟨"CW_CORR", 0xE14, 0, 1, [⟨"COUNT", 31, 0, .rc, 0⟩]⟩,
   ⟨"CW_BITS", 0xE18, 0, 1, [⟨"COUNT", 31, 0, .rc, 0⟩]⟩]

/-- LRX register table, part 6. -/
def lrxRegs6 : List RegSpec :=
  [⟨"CW_FAIL", 0xE1C, 0, 1, [⟨"COUNT", 31, 0, .rc, 0⟩]⟩,
   ⟨"CW_LOSSES", 0xE20, 0, 1, [⟨"COUNT", 15, 0, .rc, 0⟩]⟩,
   ⟨"RS_CTL", 0xE40, 32, 2, [⟨"LAYOUT", 2, 0, .rw, 0⟩, ⟨"SPAN", 4, 3, .rw, 0⟩]⟩,
   ⟨"RS_STAT", 0xE44, 32, 2, [⟨"ACTIVE", 0, 0, .ro, 0⟩, ⟨"ALIGNED", 1, 1, .ro, 0⟩, ⟨"NO_ALIGN", 2, 2, .w1c, 0⟩]⟩,
   ⟨"RS_CW", 0xE48, 32, 2, [⟨"COUNT", 31, 0, .rc, 0⟩]⟩,
   ⟨"RS_SYM", 0xE4C, 32, 2, [⟨"COUNT", 31, 0, .rc, 0⟩]⟩,
   ⟨"RS_UNCORR", 0xE50, 32, 2, [⟨"COUNT", 31, 0, .rc, 0⟩]⟩,
   ⟨"RS_MAXSYM", 0xE54, 32, 2, [⟨"MAX", 3, 0, .rc, 0⟩]⟩]

/-- LRX register table. -/
def lrxRegs : List RegSpec := lrxRegs0 ++ lrxRegs1 ++ lrxRegs2 ++ lrxRegs3 ++ lrxRegs4 ++ lrxRegs5 ++ lrxRegs6

/-- LTX register table, part 0. -/
def ltxRegs0 : List RegSpec :=
  [⟨"CTL", 0x000, 0, 1, [⟨"INV", 0, 0, .rw, 0⟩, ⟨"PRECODE", 1, 1, .rw, 0⟩, ⟨"SRC", 3, 2, .rw, 0⟩, ⟨"SQUELCH", 4, 4, .rw, 1⟩, ⟨"FORCE_OFF", 5, 5, .wo, 0⟩]⟩,
   ⟨"STATUS", 0x004, 0, 1, [⟨"STATE", 2, 0, .ro, 0⟩, ⟨"SYNTH_LOCK", 3, 3, .ro, 0⟩, ⟨"FREQ_SRC", 5, 4, .ro, 0⟩, ⟨"PRECODE_ON", 6, 6, .ro, 0⟩, ⟨"CUR_WEIGHT", 15, 8, .ro, 128⟩, ⟨"STEP", 22, 16, .ro, 0⟩]⟩,
   ⟨"EVENT", 0x008, 0, 1, [⟨"RAMP_UP_DONE", 0, 0, .w1c, 0⟩, ⟨"RAMP_DOWN_DONE", 1, 1, .w1c, 0⟩, ⟨"FAULT_RAMP", 2, 2, .w1c, 0⟩, ⟨"RELIGHT_REFUSED", 3, 3, .w1c, 0⟩, ⟨"COMMIT_REFUSED", 4, 4, .w1c, 0⟩, ⟨"SYNTH_UNLOCK", 5, 5, .w1c, 0⟩]⟩,
   ⟨"EVENT_EN", 0x00C, 0, 1, [⟨"RAMP_UP_DONE", 0, 0, .rw, 1⟩, ⟨"RAMP_DOWN_DONE", 1, 1, .rw, 1⟩, ⟨"FAULT_RAMP", 2, 2, .rw, 1⟩, ⟨"RELIGHT_REFUSED", 3, 3, .rw, 1⟩, ⟨"COMMIT_REFUSED", 4, 4, .rw, 1⟩, ⟨"SYNTH_UNLOCK", 5, 5, .rw, 1⟩]⟩,
   ⟨"RAMP", 0x010, 0, 1, [⟨"UP", 12, 0, .rw, 64⟩, ⟨"DOWN", 28, 16, .rw, 64⟩, ⟨"SHAPE", 29, 29, .rw, 1⟩]⟩,
   ⟨"BIAS", 0x014, 0, 1, [⟨"TARGET", 11, 0, .rw, 0⟩, ⟨"FLOOR", 27, 16, .rw, 0⟩]⟩,
   ⟨"BIAS_STAT", 0x018, 0, 1, [⟨"NOW", 11, 0, .ro, 0⟩]⟩,
   ⟨"FAULT_CAUSE", 0x01C, 0, 1, [⟨"BIAS_TRIP", 0, 0, .w1c, 0⟩, ⟨"SYNTH", 1, 1, .w1c, 0⟩, ⟨"FORCE_OFF", 2, 2, .w1c, 0⟩, ⟨"THERMAL", 3, 3, .ro, 0⟩, ⟨"DEVICE", 4, 4, .w1c, 0⟩]⟩,
   ⟨"PAT", 0x020, 0, 1, [⟨"SEL", 1, 0, .rw, 2⟩, ⟨"EN", 2, 2, .rw, 0⟩, ⟨"INJECT", 3, 3, .wo, 0⟩]⟩,
   ⟨"BANK", 0x040, 0, 1, [⟨"ACTIVE", 0, 0, .ro, 0⟩, ⟨"COMMIT", 1, 1, .wo, 0⟩, ⟨"AUTOCOPY", 2, 2, .rw, 1⟩]⟩,
   ⟨"TAP_A", 0x400, 4, 8, [⟨"W", 7, 0, .rw, 0⟩]⟩,
   ⟨"CUR_A", 0x420, 0, 1, [⟨"W", 1, 0, .rw, 1⟩]⟩]

/-- LTX register table, part 1. -/
def ltxRegs1 : List RegSpec :=
  [⟨"SWING_A", 0x424, 0, 1, [⟨"W", 6, 0, .rw, 40⟩]⟩,
   ⟨"PD_A", 0x440, 4, 16, [⟨"P0", 7, 0, .rw, 0⟩, ⟨"P1", 15, 8, .rw, 0⟩, ⟨"P2", 23, 16, .rw, 0⟩, ⟨"P3", 31, 24, .rw, 0⟩]⟩,
   ⟨"TAP_B", 0x500, 4, 8, [⟨"W", 7, 0, .rw, 0⟩]⟩,
   ⟨"CUR_B", 0x520, 0, 1, [⟨"W", 1, 0, .rw, 1⟩]⟩,
   ⟨"SWING_B", 0x524, 0, 1, [⟨"W", 6, 0, .rw, 40⟩]⟩,
   ⟨"PD_B", 0x540, 4, 16, [⟨"P0", 7, 0, .rw, 0⟩, ⟨"P1", 15, 8, .rw, 0⟩, ⟨"P2", 23, 16, .rw, 0⟩, ⟨"P3", 31, 24, .rw, 0⟩]⟩,
   ⟨"SEQ_CTL", 0xC00, 0, 1, [⟨"START", 0, 0, .act, 0⟩, ⟨"STOP", 1, 1, .act, 0⟩, ⟨"RESUME", 2, 2, .act, 0⟩, ⟨"SAFE", 3, 3, .act, 0⟩, ⟨"LOADED", 4, 4, .act, 0⟩]⟩,
   ⟨"SEQ_STAT", 0xC04, 0, 1, [⟨"STATE", 1, 0, .ro, 0⟩, ⟨"LOADED", 2, 2, .ro, 0⟩, ⟨"IMEM_DIRTY", 3, 3, .ro, 0⟩, ⟨"SAFE_PEND", 4, 4, .ro, 0⟩, ⟨"REASON", 7, 5, .ro, 0⟩, ⟨"START_COUNT", 31, 16, .ro, 0⟩]⟩,
   ⟨"SEQ_EVENT", 0xC08, 0, 1, [⟨"TRAP", 0, 0, .w1c, 0⟩, ⟨"STOPPED", 1, 1, .w1c, 0⟩, ⟨"SAFE_FORCED", 2, 2, .w1c, 0⟩, ⟨"CMD_REFUSED", 3, 3, .w1c, 0⟩, ⟨"NOT_LOADED", 4, 4, .w1c, 0⟩]⟩,
   ⟨"SEQ_EVENT_EN", 0xC0C, 0, 1, [⟨"TRAP", 0, 0, .rw, 1⟩, ⟨"STOPPED", 1, 1, .rw, 1⟩, ⟨"SAFE_FORCED", 2, 2, .rw, 1⟩, ⟨"CMD_REFUSED", 3, 3, .rw, 1⟩, ⟨"NOT_LOADED", 4, 4, .rw, 1⟩]⟩,
   ⟨"SEQ_ENTRY", 0xC10, 0, 1, [⟨"ADDR", 13, 2, .rw, 0⟩]⟩,
   ⟨"SEQ_PC", 0xC14, 0, 1, [⟨"PC", 31, 0, .ro, 0⟩]⟩]

/-- LTX register table, part 2. -/
def ltxRegs2 : List RegSpec :=
  [⟨"SEQ_TRAP", 0xC18, 0, 1, [⟨"CAUSE", 7, 0, .ro, 0⟩, ⟨"DETAIL", 15, 8, .ro, 0⟩]⟩,
   ⟨"SEQ_TRAP_PC", 0xC1C, 0, 1, [⟨"PC", 31, 0, .ro, 0⟩]⟩,
   ⟨"SEQ_TRAP_VAL", 0xC20, 0, 1, [⟨"VALUE", 31, 0, .ro, 0⟩]⟩,
   ⟨"SEQ_EVT", 0xC24, 0, 1, [⟨"LINES", 31, 0, .ro, 0⟩]⟩,
   ⟨"SEQ_EVT_SET", 0xC28, 0, 1, [⟨"SOFT", 31, 24, .act, 0⟩]⟩,
   ⟨"SEQ_SAFE_CFG", 0xC2C, 0, 1, [⟨"TIMEOUT", 7, 0, .rw, 10⟩]⟩,
   ⟨"SEQ_IMAGE", 0xC30, 0, 1, [⟨"TAG", 31, 0, .rw, 0⟩]⟩,
   ⟨"CW_INJ", 0xE24, 0, 1, [⟨"WORD", 1, 0, .rw, 0⟩, ⟨"NBITS", 3, 2, .rw, 1⟩, ⟨"GO", 4, 4, .wo, 0⟩, ⟨"PENDING", 5, 5, .ro, 0⟩, ⟨"REFUSED", 6, 6, .w1c, 0⟩]⟩,
   ⟨"RS_CTL", 0xE40, 32, 2, [⟨"LAYOUT", 2, 0, .rw, 0⟩, ⟨"SPAN", 4, 3, .rw, 0⟩]⟩,
   ⟨"RS_STAT", 0xE44, 32, 2, [⟨"ACTIVE", 0, 0, .ro, 0⟩, ⟨"ALIGNED", 1, 1, .ro, 0⟩, ⟨"NO_ALIGN", 2, 2, .w1c, 0⟩]⟩,
   ⟨"RS_CW", 0xE48, 32, 2, [⟨"COUNT", 31, 0, .rc, 0⟩]⟩,
   ⟨"RS_SYM", 0xE4C, 32, 2, [⟨"COUNT", 31, 0, .rc, 0⟩]⟩]

/-- LTX register table, part 3. -/
def ltxRegs3 : List RegSpec :=
  [⟨"RS_UNCORR", 0xE50, 32, 2, [⟨"COUNT", 31, 0, .rc, 0⟩]⟩,
   ⟨"RS_MAXSYM", 0xE54, 32, 2, [⟨"MAX", 3, 0, .rc, 0⟩]⟩]

/-- LTX register table. -/
def ltxRegs : List RegSpec := ltxRegs0 ++ ltxRegs1 ++ ltxRegs2 ++ ltxRegs3

/-- HRX register table, part 0. -/
def hrxRegs0 : List RegSpec :=
  [⟨"CTL", 0x000, 0, 1, [⟨"INV", 0, 0, .rw, 0⟩]⟩,
   ⟨"STATUS", 0x004, 0, 1, [⟨"SIG_DET", 0, 0, .ro, 0⟩, ⟨"CDR_LOCK", 1, 1, .ro, 0⟩, ⟨"XBAR_ERR", 3, 3, .ro, 0⟩, ⟨"ACTIVE_SLOT", 7, 4, .ro, 0⟩, ⟨"STATE", 9, 8, .ro, 0⟩]⟩,
   ⟨"EVENT", 0x008, 0, 1, [⟨"LOS_ENTER", 0, 0, .w1c, 0⟩, ⟨"LOS_EXIT", 1, 1, .w1c, 0⟩, ⟨"CDR_UNLOCK", 2, 2, .w1c, 0⟩, ⟨"XBAR_ERR", 3, 3, .w1c, 0⟩, ⟨"COMMIT_REFUSED", 4, 4, .w1c, 0⟩, ⟨"PAT_ERR", 5, 5, .w1c, 0⟩]⟩,
   ⟨"EVENT_EN", 0x00C, 0, 1, [⟨"LOS_ENTER", 0, 0, .rw, 1⟩, ⟨"LOS_EXIT", 1, 1, .rw, 1⟩, ⟨"CDR_UNLOCK", 2, 2, .rw, 1⟩, ⟨"XBAR_ERR", 3, 3, .rw, 1⟩, ⟨"COMMIT_REFUSED", 4, 4, .rw, 1⟩, ⟨"PAT_ERR", 5, 5, .rw, 1⟩]⟩,
   ⟨"XBAR", 0x010, 0, 1, [⟨"SLOT", 3, 0, .rw, 0⟩]⟩,
   ⟨"PAT", 0x014, 0, 1, [⟨"SEL", 2, 0, .rw, 5⟩, ⟨"EN", 3, 3, .rw, 0⟩, ⟨"SYNCED", 5, 5, .ro, 0⟩]⟩,
   ⟨"PAT_ERR", 0x018, 0, 1, [⟨"COUNT", 31, 0, .rc, 0⟩]⟩,
   ⟨"CORR_CTL", 0x01C, 0, 1, [⟨"LOG2N", 4, 0, .rw, 10⟩, ⟨"START", 8, 8, .act, 0⟩, ⟨"DONE", 9, 9, .ro, 0⟩]⟩,
   ⟨"CORR", 0x100, 4, 13, [⟨"VALUE", 31, 0, .ro, 0⟩]⟩,
   ⟨"HIST", 0x200, 4, 64, [⟨"VALUE", 31, 0, .ro, 0⟩]⟩,
   ⟨"BANK", 0x040, 0, 1, [⟨"ACTIVE", 0, 0, .ro, 0⟩, ⟨"COMMIT", 1, 1, .wo, 0⟩]⟩,
   ⟨"FFE_A", 0x400, 4, 3, [⟨"W", 8, 0, .rw, 0⟩]⟩]

/-- HRX register table, part 1. -/
def hrxRegs1 : List RegSpec :=
  [⟨"FFE_A", 0x40C, 0, 1, [⟨"W", 8, 0, .rw, 128⟩]⟩,
   ⟨"FFE_A", 0x410, 4, 8, [⟨"W", 8, 0, .rw, 0⟩]⟩,
   ⟨"H1_A", 0x430, 0, 1, [⟨"W", 6, 0, .rw, 0⟩]⟩,
   ⟨"CTLE_A", 0x434, 0, 1, [⟨"W", 4, 0, .rw, 12⟩]⟩,
   ⟨"FFE_B", 0x500, 4, 3, [⟨"W", 8, 0, .rw, 0⟩]⟩,
   ⟨"FFE_B", 0x50C, 0, 1, [⟨"W", 8, 0, .rw, 128⟩]⟩,
   ⟨"FFE_B", 0x510, 4, 8, [⟨"W", 8, 0, .rw, 0⟩]⟩,
   ⟨"H1_B", 0x530, 0, 1, [⟨"W", 6, 0, .rw, 0⟩]⟩,
   ⟨"CTLE_B", 0x534, 0, 1, [⟨"W", 4, 0, .rw, 12⟩]⟩,
   ⟨"SEQ_CTL", 0xC00, 0, 1, [⟨"START", 0, 0, .act, 0⟩, ⟨"STOP", 1, 1, .act, 0⟩, ⟨"RESUME", 2, 2, .act, 0⟩, ⟨"SAFE", 3, 3, .act, 0⟩, ⟨"LOADED", 4, 4, .act, 0⟩]⟩,
   ⟨"SEQ_STAT", 0xC04, 0, 1, [⟨"STATE", 1, 0, .ro, 0⟩, ⟨"LOADED", 2, 2, .ro, 0⟩, ⟨"IMEM_DIRTY", 3, 3, .ro, 0⟩, ⟨"SAFE_PEND", 4, 4, .ro, 0⟩, ⟨"REASON", 7, 5, .ro, 0⟩, ⟨"START_COUNT", 31, 16, .ro, 0⟩]⟩,
   ⟨"SEQ_EVENT", 0xC08, 0, 1, [⟨"TRAP", 0, 0, .w1c, 0⟩, ⟨"STOPPED", 1, 1, .w1c, 0⟩, ⟨"SAFE_FORCED", 2, 2, .w1c, 0⟩, ⟨"CMD_REFUSED", 3, 3, .w1c, 0⟩, ⟨"NOT_LOADED", 4, 4, .w1c, 0⟩]⟩]

/-- HRX register table, part 2. -/
def hrxRegs2 : List RegSpec :=
  [⟨"SEQ_EVENT_EN", 0xC0C, 0, 1, [⟨"TRAP", 0, 0, .rw, 1⟩, ⟨"STOPPED", 1, 1, .rw, 1⟩, ⟨"SAFE_FORCED", 2, 2, .rw, 1⟩, ⟨"CMD_REFUSED", 3, 3, .rw, 1⟩, ⟨"NOT_LOADED", 4, 4, .rw, 1⟩]⟩,
   ⟨"SEQ_ENTRY", 0xC10, 0, 1, [⟨"ADDR", 13, 2, .rw, 0⟩]⟩,
   ⟨"SEQ_PC", 0xC14, 0, 1, [⟨"PC", 31, 0, .ro, 0⟩]⟩,
   ⟨"SEQ_TRAP", 0xC18, 0, 1, [⟨"CAUSE", 7, 0, .ro, 0⟩, ⟨"DETAIL", 15, 8, .ro, 0⟩]⟩,
   ⟨"SEQ_TRAP_PC", 0xC1C, 0, 1, [⟨"PC", 31, 0, .ro, 0⟩]⟩,
   ⟨"SEQ_TRAP_VAL", 0xC20, 0, 1, [⟨"VALUE", 31, 0, .ro, 0⟩]⟩,
   ⟨"SEQ_EVT", 0xC24, 0, 1, [⟨"LINES", 31, 0, .ro, 0⟩]⟩,
   ⟨"SEQ_EVT_SET", 0xC28, 0, 1, [⟨"SOFT", 31, 24, .act, 0⟩]⟩,
   ⟨"SEQ_SAFE_CFG", 0xC2C, 0, 1, [⟨"TIMEOUT", 7, 0, .rw, 10⟩]⟩,
   ⟨"SEQ_IMAGE", 0xC30, 0, 1, [⟨"TAG", 31, 0, .rw, 0⟩]⟩]

/-- HRX register table. -/
def hrxRegs : List RegSpec := hrxRegs0 ++ hrxRegs1 ++ hrxRegs2

/-- HTX register table, part 0. -/
def htxRegs0 : List RegSpec :=
  [⟨"CTL", 0x000, 0, 1, [⟨"INV", 0, 0, .rw, 0⟩, ⟨"SQUELCH", 1, 1, .rw, 0⟩]⟩,
   ⟨"STATUS", 0x004, 0, 1, [⟨"CDR_LOCK", 1, 1, .ro, 0⟩, ⟨"SQUELCHED", 2, 2, .ro, 0⟩, ⟨"XBAR_ERR", 3, 3, .ro, 0⟩, ⟨"ACTIVE_SLOT", 7, 4, .ro, 0⟩]⟩,
   ⟨"EVENT", 0x008, 0, 1, [⟨"CDR_UNLOCK", 2, 2, .w1c, 0⟩, ⟨"XBAR_ERR", 3, 3, .w1c, 0⟩, ⟨"COMMIT_REFUSED", 4, 4, .w1c, 0⟩]⟩,
   ⟨"EVENT_EN", 0x00C, 0, 1, [⟨"LOS_ENTER", 0, 0, .rw, 1⟩, ⟨"LOS_EXIT", 1, 1, .rw, 1⟩, ⟨"CDR_UNLOCK", 2, 2, .rw, 1⟩, ⟨"XBAR_ERR", 3, 3, .rw, 1⟩, ⟨"COMMIT_REFUSED", 4, 4, .rw, 1⟩, ⟨"PAT_ERR", 5, 5, .rw, 1⟩]⟩,
   ⟨"XBAR", 0x010, 0, 1, [⟨"SLOT", 3, 0, .rw, 0⟩]⟩,
   ⟨"PAT", 0x014, 0, 1, [⟨"SEL", 2, 0, .rw, 5⟩, ⟨"EN", 3, 3, .rw, 0⟩, ⟨"INJECT", 4, 4, .wo, 0⟩]⟩,
   ⟨"BANK", 0x040, 0, 1, [⟨"ACTIVE", 0, 0, .ro, 0⟩, ⟨"COMMIT", 1, 1, .wo, 0⟩]⟩,
   ⟨"PRE2_A", 0x400, 0, 1, [⟨"W", 4, 0, .rw, 0⟩]⟩,
   ⟨"PRE1_A", 0x404, 0, 1, [⟨"W", 5, 0, .rw, 0⟩]⟩,
   ⟨"POST1_A", 0x408, 0, 1, [⟨"W", 5, 0, .rw, 0⟩]⟩,
   ⟨"SWING_A", 0x40C, 0, 1, [⟨"W", 5, 0, .rw, 40⟩]⟩,
   ⟨"PRE2_B", 0x500, 0, 1, [⟨"W", 4, 0, .rw, 0⟩]⟩]

/-- HTX register table, part 1. -/
def htxRegs1 : List RegSpec :=
  [⟨"PRE1_B", 0x504, 0, 1, [⟨"W", 5, 0, .rw, 0⟩]⟩,
   ⟨"POST1_B", 0x508, 0, 1, [⟨"W", 5, 0, .rw, 0⟩]⟩,
   ⟨"SWING_B", 0x50C, 0, 1, [⟨"W", 5, 0, .rw, 40⟩]⟩,
   ⟨"SEQ_CTL", 0xC00, 0, 1, [⟨"START", 0, 0, .act, 0⟩, ⟨"STOP", 1, 1, .act, 0⟩, ⟨"RESUME", 2, 2, .act, 0⟩, ⟨"SAFE", 3, 3, .act, 0⟩, ⟨"LOADED", 4, 4, .act, 0⟩]⟩,
   ⟨"SEQ_STAT", 0xC04, 0, 1, [⟨"STATE", 1, 0, .ro, 0⟩, ⟨"LOADED", 2, 2, .ro, 0⟩, ⟨"IMEM_DIRTY", 3, 3, .ro, 0⟩, ⟨"SAFE_PEND", 4, 4, .ro, 0⟩, ⟨"REASON", 7, 5, .ro, 0⟩, ⟨"START_COUNT", 31, 16, .ro, 0⟩]⟩,
   ⟨"SEQ_EVENT", 0xC08, 0, 1, [⟨"TRAP", 0, 0, .w1c, 0⟩, ⟨"STOPPED", 1, 1, .w1c, 0⟩, ⟨"SAFE_FORCED", 2, 2, .w1c, 0⟩, ⟨"CMD_REFUSED", 3, 3, .w1c, 0⟩, ⟨"NOT_LOADED", 4, 4, .w1c, 0⟩]⟩,
   ⟨"SEQ_EVENT_EN", 0xC0C, 0, 1, [⟨"TRAP", 0, 0, .rw, 1⟩, ⟨"STOPPED", 1, 1, .rw, 1⟩, ⟨"SAFE_FORCED", 2, 2, .rw, 1⟩, ⟨"CMD_REFUSED", 3, 3, .rw, 1⟩, ⟨"NOT_LOADED", 4, 4, .rw, 1⟩]⟩,
   ⟨"SEQ_ENTRY", 0xC10, 0, 1, [⟨"ADDR", 13, 2, .rw, 0⟩]⟩,
   ⟨"SEQ_PC", 0xC14, 0, 1, [⟨"PC", 31, 0, .ro, 0⟩]⟩,
   ⟨"SEQ_TRAP", 0xC18, 0, 1, [⟨"CAUSE", 7, 0, .ro, 0⟩, ⟨"DETAIL", 15, 8, .ro, 0⟩]⟩,
   ⟨"SEQ_TRAP_PC", 0xC1C, 0, 1, [⟨"PC", 31, 0, .ro, 0⟩]⟩,
   ⟨"SEQ_TRAP_VAL", 0xC20, 0, 1, [⟨"VALUE", 31, 0, .ro, 0⟩]⟩]

/-- HTX register table, part 2. -/
def htxRegs2 : List RegSpec :=
  [⟨"SEQ_EVT", 0xC24, 0, 1, [⟨"LINES", 31, 0, .ro, 0⟩]⟩,
   ⟨"SEQ_EVT_SET", 0xC28, 0, 1, [⟨"SOFT", 31, 24, .act, 0⟩]⟩,
   ⟨"SEQ_SAFE_CFG", 0xC2C, 0, 1, [⟨"TIMEOUT", 7, 0, .rw, 10⟩]⟩,
   ⟨"SEQ_IMAGE", 0xC30, 0, 1, [⟨"TAG", 31, 0, .rw, 0⟩]⟩]

/-- HTX register table. -/
def htxRegs : List RegSpec := htxRegs0 ++ htxRegs1 ++ htxRegs2

/-- The register table of a block. -/
def blockRegs : Block → List RegSpec
  | .ident => identRegs
  | .life => lifeRegs
  | .mode => modeRegs
  | .clk => clkRegs
  | .pwr => pwrRegs
  | .time => timeRegs
  | .memx => memxRegs
  | .bist => bistRegs
  | .therm => thermRegs
  | .mon => monRegs
  | .perf => perfRegs
  | .mbox => mboxRegs
  | .irq => irqRegs
  | .dma => dmaRegs
  | .pcie => pcieRegs
  | .smp => smpRegs
  | .tow => towRegs
  | .fault => faultRegs
  | .cal => calRegs
  | .flash => flashRegs
  | .fab => fabRegs
  | .lrx => lrxRegs
  | .ltx => ltxRegs
  | .hrx => hrxRegs
  | .htx => htxRegs

/-- Base address of a device block (R432); a lane block has no base of its own here. -/
def blockBase : Block → Nat
  | .ident => 0x04000000
  | .life => 0x04001000
  | .mode => 0x04002000
  | .clk => 0x04003000
  | .pwr => 0x04004000
  | .time => 0x04005000
  | .memx => 0x04006000
  | .bist => 0x04007000
  | .therm => 0x04008000
  | .mon => 0x04009000
  | .perf => 0x0400A000
  | .mbox => 0x0400B000
  | .irq => 0x0400C000
  | .dma => 0x0400D000
  | .pcie => 0x0400E000
  | .smp => 0x0400F000
  | .tow => 0x04010000
  | .fault => 0x04011000
  | .cal => 0x04012000
  | .flash => 0x04013000
  | .fab => 0x04014000
  | .lrx | .ltx | .hrx | .htx => 0x04100000

end Sys2Proof.Machine
end

