-- ==== Sys2Proof/Machine/RegNames.lean ====
section
/-! DEFINITION. Sys2Proof/Machine/RegNames.lean: every register's local address and every field's place,
under the names of the register tables: `R.BLOCK_REGISTER` is an address and `F.BLOCK_REGISTER_FIELD` a field.
A lane register takes the lane's sequencer index `n`, an indexed register its index `i`. -/

namespace Sys2Proof.Machine

def R.MODE_REQ : Nat := 0x04002000
def R.MODE_STATUS : Nat := 0x04002004
def R.MODE_RESULT : Nat := 0x04002008
def R.MODE_SUPERSEDED : Nat := 0x0400200C
def R.MODE_CFG : Nat := 0x04002010
def R.MODE_WAKE_TARGET : Nat := 0x04002014
def R.MODE_LAST_TIME : Nat := 0x04002018
def R.MODE_DIAG : Nat := 0x0400201C
def R.MODE_OOS_LINE : Nat := 0x04002020
def R.MODE_OOS_HOST : Nat := 0x04002024
def R.MODE_UNUSABLE_LINE : Nat := 0x04002028
def R.MODE_UNUSABLE_HOST : Nat := 0x0400202C
def R.MODE_PERSONA : Nat := 0x04002030
def R.MODE_CLAIM_MONSYNC : Nat := 0x04002040
def R.MODE_CLAIM_CAPTURE : Nat := 0x04002044
def R.MODE_CLAIM_TIMER (i : Nat) : Nat := 0x04002048 + 4 * i
def R.MODE_CLAIM_ERR : Nat := 0x04002060
def R.MODE_EVENT : Nat := 0x04002064
def R.MODE_EVENT_EN : Nat := 0x04002068
def R.CLK_SRC : Nat := 0x04003000
def R.CLK_STAT : Nat := 0x04003004
def R.CLK_EVENT : Nat := 0x04003008
def R.CLK_EVENT_EN : Nat := 0x0400300C
def R.CLK_FRO_TRIM : Nat := 0x04003010
def R.CLK_CFG : Nat := 0x04003014
def R.CLK_FORCE_LOG : Nat := 0x04003018
def R.CLK_GATE (i : Nat) : Nat := 0x04003100 + 4 * i
def R.PWR_DOM_STAT : Nat := 0x04004000
def R.PWR_ISO_STAT : Nat := 0x04004004
def R.PWR_WAKE_EN : Nat := 0x04004008
def R.PWR_WAKE_CAUSE : Nat := 0x0400400C
def R.PWR_WAKE_FIRST : Nat := 0x04004010
def R.PWR_RESET_CAUSE : Nat := 0x04004014
def R.PWR_RESET : Nat := 0x04004018
def R.PWR_EVENT : Nat := 0x0400401C
def R.PWR_EVENT_EN : Nat := 0x04004020
def R.TIME_TB_LO : Nat := 0x04005000
def R.TIME_TB_HI : Nat := 0x04005004
def R.TIME_CTL : Nat := 0x04005008
def R.TIME_STAT : Nat := 0x0400500C
def R.TIME_UNCERT : Nat := 0x04005028
def R.TIME_SLEEP_LAST : Nat := 0x0400502C
def R.TIME_SLOW_CAL : Nat := 0x04005030
def R.TIME_EVENT : Nat := 0x04005034
def R.TIME_EVENT_EN : Nat := 0x04005038
def R.TIME_SYNC_LOAD_LO : Nat := 0x04005010
def R.TIME_SYNC_LOAD_HI : Nat := 0x04005014
def R.TIME_SYNC_CAP_LO : Nat := 0x04005018
def R.TIME_SYNC_CAP_HI : Nat := 0x0400501C
def R.TIME_PPS_CAP_LO : Nat := 0x04005020
def R.TIME_PPS_CAP_HI : Nat := 0x04005024
def R.TIME_GT_CMP_LO (i : Nat) : Nat := 0x04005040 + 16 * i
def R.TIME_GT_CMP_HI (i : Nat) : Nat := 0x04005044 + 16 * i
def R.TIME_GT_CTL (i : Nat) : Nat := 0x04005048 + 16 * i
def R.MEMX_CTL : Nat := 0x04006000
def R.MEMX_STAT : Nat := 0x04006004
def R.MEMX_EVENT : Nat := 0x04006008
def R.MEMX_EVENT_EN : Nat := 0x0400600C
def R.MEMX_LOG_CTL : Nat := 0x04006010
def R.MEMX_LOG_DROP : Nat := 0x04006014
def R.MEMX_LOG_ADDR : Nat := 0x04006020
def R.MEMX_LOG_INFO : Nat := 0x04006024
def R.MEMX_SCRUB_STAT : Nat := 0x04006030
def R.MEMX_RETIRE : Nat := 0x04006180
def R.MEMX_RETIRE_STAT : Nat := 0x04006184
def R.MEMX_CLR : Nat := 0x040061A0
def R.MEMX_CAP_LIMIT : Nat := 0x040061A4
def R.MEMX_LOG_TS_LO : Nat := 0x04006018
def R.MEMX_RETIRED_LO : Nat := 0x04006188
def R.MEMX_REMOVED_LO : Nat := 0x04006190
def R.MEMX_LOG_TS_HI : Nat := 0x0400601C
def R.MEMX_RETIRED_HI : Nat := 0x0400618C
def R.MEMX_REMOVED_HI : Nat := 0x04006194
def R.MEMX_SCRUB_LAP (i : Nat) : Nat := 0x04006040 + 4 * i
def R.MEMX_BANK_CE (i : Nat) : Nat := 0x04006100 + 4 * i
def R.MEMX_LANE_CE (i : Nat) : Nat := 0x04006140 + 4 * i
def R.MEMX_LANE_LOSS (i : Nat) : Nat := 0x04006200 + 4 * i
def R.BIST_POST_STAT : Nat := 0x04007000
def R.BIST_POST_BANKS_LO : Nat := 0x04007004
def R.BIST_POST_BANKS_HI : Nat := 0x04007008
def R.BIST_POST_SPARES : Nat := 0x0400700C
def R.BIST_POST_LANES_LO : Nat := 0x04007010
def R.BIST_POST_LANES_HI : Nat := 0x04007014
def R.BIST_POST_SENS : Nat := 0x04007018
def R.BIST_POST_MON : Nat := 0x0400701C
def R.BIST_CMD : Nat := 0x04007040
def R.BIST_SAVE : Nat := 0x04007044
def R.BIST_RUN_STAT : Nat := 0x04007048
def R.BIST_FAIL_ADDR : Nat := 0x0400704C
def R.BIST_EVENT : Nat := 0x04007050
def R.BIST_EVENT_EN : Nat := 0x04007054
def R.THERM_STAT : Nat := 0x04008000
def R.THERM_CTL : Nat := 0x04008004
def R.THERM_THRESH : Nat := 0x04008008
def R.THERM_EVENT : Nat := 0x0400800C
def R.THERM_EVENT_EN : Nat := 0x04008010
def R.THERM_BROKEN : Nat := 0x04008014
def R.THERM_ACK : Nat := 0x04008018
def R.THERM_SUBST : Nat := 0x0400801C
def R.THERM_PEAK : Nat := 0x04008080
def R.THERM_THROT_MS : Nat := 0x04008084
def R.THERM_READ (i : Nat) : Nat := 0x04008040 + 4 * i
def R.MON_CTL : Nat := 0x04009000
def R.MON_STAT : Nat := 0x04009004
def R.MON_EVENT : Nat := 0x04009008
def R.MON_EVENT_EN : Nat := 0x0400900C
def R.MON_MAC_LOAD : Nat := 0x04009010
def R.MON_REFUSE : Nat := 0x04009014
def R.MON_FAILED : Nat := 0x04009018
def R.MON_SYNC_STAT : Nat := 0x0400901C
def R.MON_WEIR_EVT (i : Nat) : Nat := 0x04009020 + 4 * i
def R.MON_WEIR_EN (i : Nat) : Nat := 0x04009030 + 4 * i
def R.MON_WEIR_STATE (i : Nat) : Nat := 0x04009040 + 4 * i
def R.MON_CH_CFG (i : Nat) : Nat := 0x04009100 + 64 * i
def R.MON_CH_FIR (i : Nat) : Nat := 0x04009104 + 64 * i
def R.MON_CH_COARSE (i : Nat) : Nat := 0x04009108 + 64 * i
def R.MON_CH_FINE (i : Nat) : Nat := 0x0400910C + 64 * i
def R.MON_CH_ACC_LO (i : Nat) : Nat := 0x04009120 + 64 * i
def R.MON_CH_ACC_HI (i : Nat) : Nat := 0x04009124 + 64 * i
def R.MON_CH_ACC_N (i : Nat) : Nat := 0x04009128 + 64 * i
def R.MON_CH_STAT (i : Nat) : Nat := 0x0400912C + 64 * i
def R.MON_CH_WEIR0 (i : Nat) : Nat := 0x04009110 + 64 * i
def R.MON_CH_WEIR1 (i : Nat) : Nat := 0x04009114 + 64 * i
def R.MON_CH_WEIR2 (i : Nat) : Nat := 0x04009118 + 64 * i
def R.MON_CH_WEIR3 (i : Nat) : Nat := 0x0400911C + 64 * i
def R.MON_COEF (i : Nat) : Nat := 0x04009800 + 4 * i
def R.PERF_CTL : Nat := 0x0400A000
def R.PERF_STAT : Nat := 0x0400A004
def R.PERF_EVENT : Nat := 0x0400A008
def R.PERF_EVENT_EN : Nat := 0x0400A00C
def R.PERF_WRAP : Nat := 0x0400A018
def R.PERF_USER_EN : Nat := 0x0400A01C
def R.PERF_BW_CTL : Nat := 0x0400A020
def R.PERF_BW_STAT : Nat := 0x0400A024
def R.PERF_REFUSE : Nat := 0x0400A028
def R.PERF_SNAP_TS_LO : Nat := 0x0400A010
def R.PERF_SNAP_TS_HI : Nat := 0x0400A014
def R.PERF_CNT_CTL (i : Nat) : Nat := 0x0400A100 + 32 * i
def R.PERF_CNT_LO (i : Nat) : Nat := 0x0400A104 + 32 * i
def R.PERF_CNT_HI (i : Nat) : Nat := 0x0400A108 + 32 * i
def R.PERF_FILT (i : Nat) : Nat := 0x0400A10C + 32 * i
def R.PERF_LANE_LO (i : Nat) : Nat := 0x0400A118 + 32 * i
def R.PERF_LANE_HI (i : Nat) : Nat := 0x0400A11C + 32 * i
def R.PERF_ADDR_LO (i : Nat) : Nat := 0x0400A110 + 32 * i
def R.PERF_ADDR_HI (i : Nat) : Nat := 0x0400A114 + 32 * i
def R.PERF_SNAP_LO (i : Nat) : Nat := 0x0400A500 + 8 * i
def R.PERF_SNAP_HI (i : Nat) : Nat := 0x0400A504 + 8 * i
def R.PERF_BW_RX (i : Nat) : Nat := 0x0400A600 + 8 * i
def R.PERF_BW_TX (i : Nat) : Nat := 0x0400A604 + 8 * i
def R.MBOX_CH_LO (i : Nat) : Nat := 0x0400B000 + 16 * i
def R.MBOX_CH_HI (i : Nat) : Nat := 0x0400B004 + 16 * i
def R.MBOX_CH_STAT (i : Nat) : Nat := 0x0400B008 + 16 * i
def R.MBOX_ARRIVE (i : Nat) : Nat := 0x0400B800 + 4 * i
def R.MBOX_SPACE (i : Nat) : Nat := 0x0400B810 + 4 * i
def R.MBOX_SRESET (i : Nat) : Nat := 0x0400B820 + 4 * i
def R.MBOX_NONEMPTY (i : Nat) : Nat := 0x0400B830 + 4 * i
def R.MBOX_ACC_LOG : Nat := 0x0400B840
def R.MBOX_RESET_DECL : Nat := 0x0400B844
def R.MBOX_SEM (i : Nat) : Nat := 0x0400B900 + 4 * i
def R.MBOX_SEM_VIEW : Nat := 0x0400B980
def R.IRQ_RAW_LO : Nat := 0x0400C000
def R.IRQ_RAW_HI : Nat := 0x0400C004
def R.IRQ_SECURE_LO : Nat := 0x0400C008
def R.IRQ_SECURE_HI : Nat := 0x0400C00C
def R.IRQ_S_EN_LO : Nat := 0x0400C010
def R.IRQ_S_EN_HI : Nat := 0x0400C014
def R.IRQ_NS_EN_LO : Nat := 0x0400C018
def R.IRQ_NS_EN_HI : Nat := 0x0400C01C
def R.IRQ_HOST_EN_LO : Nat := 0x0400C020
def R.IRQ_HOST_EN_HI : Nat := 0x0400C024
def R.IRQ_SMP_EN_LO : Nat := 0x0400C028
def R.IRQ_SMP_EN_HI : Nat := 0x0400C02C
def R.IRQ_HOST_INSERV_LO : Nat := 0x0400C030
def R.IRQ_HOST_INSERV_HI : Nat := 0x0400C034
def R.IRQ_HOST_EOI : Nat := 0x0400C038
def R.IRQ_SOFT_SET : Nat := 0x0400C03C
def R.IRQ_SOFT_CLR : Nat := 0x0400C040
def R.DMA_CH_CTL (i : Nat) : Nat := 0x0400D000 + 32 * i
def R.DMA_CH_DESC (i : Nat) : Nat := 0x0400D004 + 32 * i
def R.DMA_CH_STAT (i : Nat) : Nat := 0x0400D008 + 32 * i
def R.DMA_CH_FAIL (i : Nat) : Nat := 0x0400D00C + 32 * i
def R.DMA_EVENT : Nat := 0x0400D100
def R.DMA_EVENT_EN : Nat := 0x0400D104
def R.PCIE_STAT : Nat := 0x0400E000
def R.PCIE_WORLD : Nat := 0x0400E004
def R.PCIE_EVENT : Nat := 0x0400E008
def R.PCIE_EVENT_EN : Nat := 0x0400E00C
def R.PCIE_ERR_ADDR : Nat := 0x0400E010
def R.PCIE_ERR_INFO : Nat := 0x0400E014
def R.PCIE_SUBSYS : Nat := 0x0400E018
def R.SMP_CFG : Nat := 0x0400F000
def R.SMP_STAT : Nat := 0x0400F004
def R.SMP_EVENT : Nat := 0x0400F008
def R.SMP_EVENT_EN : Nat := 0x0400F00C
def R.SMP_ERR_COUNT : Nat := 0x0400F010
def R.TOW_CTL : Nat := 0x04010000
def R.TOW_STAT : Nat := 0x04010004
def R.TOW_EVENT : Nat := 0x04010008
def R.TOW_EVENT_EN : Nat := 0x0401000C
def R.TOW_ID : Nat := 0x04010010
def R.TOW_CFG : Nat := 0x04010014
def R.TOW_SYNC_CFG : Nat := 0x04010028
def R.TOW_ROUTE_LO : Nat := 0x04010018
def R.TOW_ROUTE_HI : Nat := 0x0401001C
def R.TOW_REACH_LO : Nat := 0x04010020
def R.TOW_REACH_HI : Nat := 0x04010024
def R.TOW_REMOTE_IRQ_LO : Nat := 0x04010030
def R.TOW_REMOTE_IRQ_HI : Nat := 0x04010034
def R.TOW_PORT_CTL (i : Nat) : Nat := 0x04010040 + 32 * i
def R.TOW_PORT_STAT (i : Nat) : Nat := 0x04010044 + 32 * i
def R.TOW_PORT_DELAY (i : Nat) : Nat := 0x04010048 + 32 * i
def R.TOW_PORT_CRC (i : Nat) : Nat := 0x0401004C + 32 * i
def R.TOW_PORT_PRBS (i : Nat) : Nat := 0x04010050 + 32 * i
def R.TOW_RWIN_SEL (i : Nat) : Nat := 0x04010100 + 16 * i
def R.TOW_RWIN_DEV (i : Nat) : Nat := 0x04010104 + 16 * i
def R.TOW_RWIN_STAT (i : Nat) : Nat := 0x04010108 + 16 * i
def R.FAULT_STAT : Nat := 0x04011000
def R.FAULT_DEV_ACTIVE : Nat := 0x04011004
def R.FAULT_EVENT : Nat := 0x04011008
def R.FAULT_EVENT_EN : Nat := 0x0401100C
def R.FAULT_CFG : Nat := 0x04011010
def R.FAULT_REPORT : Nat := 0x04011014
def R.FAULT_STEP : Nat := 0x04011018
def R.FAULT_DECLARE : Nat := 0x0401101C
def R.FAULT_DEV_CLR : Nat := 0x04011020
def R.FAULT_LOG_CTL : Nat := 0x04011024
def R.FAULT_LOG_DROP : Nat := 0x04011028
def R.FAULT_LOG_DATA : Nat := 0x0401103C
def R.FAULT_FWLOG_BASE : Nat := 0x04011040
def R.FAULT_FWLOG_HEAD : Nat := 0x04011044
def R.FAULT_LOG_TS_LO : Nat := 0x04011030
def R.FAULT_LOG_TS_HI : Nat := 0x04011034
def R.FAULT_LOG_INFO : Nat := 0x04011038
def R.FAULT_LADDER (i : Nat) : Nat := 0x04011100 + 4 * i
def R.CAL_CTL : Nat := 0x04012000
def R.CAL_CMD : Nat := 0x04012004
def R.CAL_EVENT : Nat := 0x04012008
def R.CAL_EVENT_EN : Nat := 0x0401200C
def R.CAL_UNFIT_LO : Nat := 0x04012010
def R.CAL_UNFIT_HI : Nat := 0x04012014
def R.CAL_BG_STAT : Nat := 0x04012018
def R.CAL_RECAL_COUNT : Nat := 0x0401201C
def R.CAL_STEP_COUNT : Nat := 0x04012020
def R.CAL_LANE_STAT (i : Nat) : Nat := 0x04012100 + 4 * i
def R.CAL_LANE_REF (i : Nat) : Nat := 0x04012200 + 4 * i
def R.FLASH_BOOT_STAT : Nat := 0x04013000
def R.FLASH_BOOT_DOOR : Nat := 0x04013004
def R.FLASH_SFDP : Nat := 0x04013008
def R.FLASH_CMD : Nat := 0x0401300C
def R.FLASH_ADDR : Nat := 0x04013010
def R.FLASH_LEN : Nat := 0x04013014
def R.FLASH_BUF : Nat := 0x04013018
def R.FLASH_STAT : Nat := 0x0401301C
def R.FLASH_CMD_TO : Nat := 0x04013020
def R.FAB_CTL : Nat := 0x04014000
def R.FAB_STATUS : Nat := 0x04014004
def R.FAB_MARGIN_THR : Nat := 0x04014010
def R.FAB_MARGIN_MIN : Nat := 0x04014014
def R.FAB_RATE_NEED : Nat := 0x04014018
def R.FAB_FL_TGT_LTX : Nat := 0x04014040
def R.FAB_FL_TGT_HTX : Nat := 0x04014044
def R.FAB_FL_SLEW : Nat := 0x04014048
def R.FAB_LOCK_SUMMARY : Nat := 0x0401404C
def R.FAB_EVENT : Nat := 0x04014008
def R.FAB_EVENT_EN : Nat := 0x0401400C
def R.FAB_SPEED (i : Nat) : Nat := 0x04014020 + 4 * i
def R.FAB_LAT (i : Nat) : Nat := 0x04014100 + 4 * i
def R.FAB_XDROP (i : Nat) : Nat := 0x04014200 + 4 * i
def R.FAB_UNDERRUN (i : Nat) : Nat := 0x04014300 + 4 * i
def R.IDENT_PART : Nat := 0x04000000
def R.IDENT_REV : Nat := 0x04000004
def R.IDENT_LOT_LO : Nat := 0x04000008
def R.IDENT_LOT_HI : Nat := 0x0400000C
def R.IDENT_DIE : Nat := 0x04000010
def R.LIFE_STATE : Nat := 0x04001000
def R.LIFE_CMD : Nat := 0x04001004
def R.LIFE_ARG : Nat := 0x04001008
def R.LIFE_STAT : Nat := 0x0400100C
def R.LIFE_AUTH : Nat := 0x04001010
def R.LIFE_ROLLBACK : Nat := 0x04001014
def R.LIFE_KEYSTAT : Nat := 0x04001018
def R.LIFE_DBG_CTL : Nat := 0x04001040
def R.LIFE_DBG_STAT : Nat := 0x04001044
def R.LIFE_DBG_SEL : Nat := 0x04001048
def R.LIFE_DBG_DATA : Nat := 0x0400104C
def R.LIFE_DBG_MADDR : Nat := 0x04001050
def R.LIFE_DBG_MDATA : Nat := 0x04001054
def R.LIFE_NONCE (i : Nat) : Nat := 0x04001020 + 4 * i
def R.HRX_CTL (n : Nat) : Nat := laneBase n + 0x000
def R.HRX_STATUS (n : Nat) : Nat := laneBase n + 0x004
def R.HRX_EVENT (n : Nat) : Nat := laneBase n + 0x008
def R.HRX_EVENT_EN (n : Nat) : Nat := laneBase n + 0x00C
def R.HRX_XBAR (n : Nat) : Nat := laneBase n + 0x010
def R.HRX_PAT (n : Nat) : Nat := laneBase n + 0x014
def R.HRX_PAT_ERR (n : Nat) : Nat := laneBase n + 0x018
def R.HRX_CORR_CTL (n : Nat) : Nat := laneBase n + 0x01C
def R.HRX_CORR (n : Nat) (i : Nat) : Nat := laneBase n + 0x100 + 4 * i
def R.HRX_HIST (n : Nat) (i : Nat) : Nat := laneBase n + 0x200 + 4 * i
def R.HRX_BANK (n : Nat) : Nat := laneBase n + 0x040
def R.HRX_FFE_A (n : Nat) (i : Nat) : Nat := laneBase n + 0x400 + 4 * i
def R.HRX_H1_A (n : Nat) : Nat := laneBase n + 0x430
def R.HRX_CTLE_A (n : Nat) : Nat := laneBase n + 0x434
def R.HRX_FFE_B (n : Nat) (i : Nat) : Nat := laneBase n + 0x500 + 4 * i
def R.HRX_H1_B (n : Nat) : Nat := laneBase n + 0x530
def R.HRX_CTLE_B (n : Nat) : Nat := laneBase n + 0x534
def R.HRX_SEQ_CTL (n : Nat) : Nat := laneBase n + 0xC00
def R.HRX_SEQ_STAT (n : Nat) : Nat := laneBase n + 0xC04
def R.HRX_SEQ_EVENT (n : Nat) : Nat := laneBase n + 0xC08
def R.HRX_SEQ_EVENT_EN (n : Nat) : Nat := laneBase n + 0xC0C
def R.HRX_SEQ_ENTRY (n : Nat) : Nat := laneBase n + 0xC10
def R.HRX_SEQ_PC (n : Nat) : Nat := laneBase n + 0xC14
def R.HRX_SEQ_TRAP (n : Nat) : Nat := laneBase n + 0xC18
def R.HRX_SEQ_TRAP_PC (n : Nat) : Nat := laneBase n + 0xC1C
def R.HRX_SEQ_TRAP_VAL (n : Nat) : Nat := laneBase n + 0xC20
def R.HRX_SEQ_EVT (n : Nat) : Nat := laneBase n + 0xC24
def R.HRX_SEQ_EVT_SET (n : Nat) : Nat := laneBase n + 0xC28
def R.HRX_SEQ_SAFE_CFG (n : Nat) : Nat := laneBase n + 0xC2C
def R.HRX_SEQ_IMAGE (n : Nat) : Nat := laneBase n + 0xC30
def R.HTX_CTL (n : Nat) : Nat := laneBase n + 0x000
def R.HTX_STATUS (n : Nat) : Nat := laneBase n + 0x004
def R.HTX_EVENT (n : Nat) : Nat := laneBase n + 0x008
def R.HTX_EVENT_EN (n : Nat) : Nat := laneBase n + 0x00C
def R.HTX_XBAR (n : Nat) : Nat := laneBase n + 0x010
def R.HTX_PAT (n : Nat) : Nat := laneBase n + 0x014
def R.HTX_BANK (n : Nat) : Nat := laneBase n + 0x040
def R.HTX_PRE2_A (n : Nat) : Nat := laneBase n + 0x400
def R.HTX_PRE1_A (n : Nat) : Nat := laneBase n + 0x404
def R.HTX_POST1_A (n : Nat) : Nat := laneBase n + 0x408
def R.HTX_SWING_A (n : Nat) : Nat := laneBase n + 0x40C
def R.HTX_PRE2_B (n : Nat) : Nat := laneBase n + 0x500
def R.HTX_PRE1_B (n : Nat) : Nat := laneBase n + 0x504
def R.HTX_POST1_B (n : Nat) : Nat := laneBase n + 0x508
def R.HTX_SWING_B (n : Nat) : Nat := laneBase n + 0x50C
def R.HTX_SEQ_CTL (n : Nat) : Nat := laneBase n + 0xC00
def R.HTX_SEQ_STAT (n : Nat) : Nat := laneBase n + 0xC04
def R.HTX_SEQ_EVENT (n : Nat) : Nat := laneBase n + 0xC08
def R.HTX_SEQ_EVENT_EN (n : Nat) : Nat := laneBase n + 0xC0C
def R.HTX_SEQ_ENTRY (n : Nat) : Nat := laneBase n + 0xC10
def R.HTX_SEQ_PC (n : Nat) : Nat := laneBase n + 0xC14
def R.HTX_SEQ_TRAP (n : Nat) : Nat := laneBase n + 0xC18
def R.HTX_SEQ_TRAP_PC (n : Nat) : Nat := laneBase n + 0xC1C
def R.HTX_SEQ_TRAP_VAL (n : Nat) : Nat := laneBase n + 0xC20
def R.HTX_SEQ_EVT (n : Nat) : Nat := laneBase n + 0xC24
def R.HTX_SEQ_EVT_SET (n : Nat) : Nat := laneBase n + 0xC28
def R.HTX_SEQ_SAFE_CFG (n : Nat) : Nat := laneBase n + 0xC2C
def R.HTX_SEQ_IMAGE (n : Nat) : Nat := laneBase n + 0xC30
def R.LRX_CTL (n : Nat) : Nat := laneBase n + 0x000
def R.LRX_STATUS (n : Nat) : Nat := laneBase n + 0x004
def R.LRX_EVENT (n : Nat) : Nat := laneBase n + 0x008
def R.LRX_EVENT_EN (n : Nat) : Nat := laneBase n + 0x00C
def R.LRX_ACQ_CFG (n : Nat) : Nat := laneBase n + 0x010
def R.LRX_ACQ_CMD (n : Nat) : Nat := laneBase n + 0x014
def R.LRX_CDR_CFG (n : Nat) : Nat := laneBase n + 0x018
def R.LRX_CDR_STAT (n : Nat) : Nat := laneBase n + 0x01C
def R.LRX_MKR (n : Nat) : Nat := laneBase n + 0x020
def R.LRX_CAPLOG (n : Nat) : Nat := laneBase n + 0x024
def R.LRX_CORR_CTL (n : Nat) : Nat := laneBase n + 0x028
def R.LRX_ERRSQ (n : Nat) : Nat := laneBase n + 0x02C
def R.LRX_PAT (n : Nat) : Nat := laneBase n + 0x030
def R.LRX_PAT_ERR (n : Nat) : Nat := laneBase n + 0x034
def R.LRX_WCAP_CTL (n : Nat) : Nat := laneBase n + 0x038
def R.LRX_WCAP_LEN (n : Nat) : Nat := laneBase n + 0x03C
def R.LRX_WCAP_STAT (n : Nat) : Nat := laneBase n + 0x044
def R.LRX_BANK (n : Nat) : Nat := laneBase n + 0x040
def R.LRX_CORR (n : Nat) (i : Nat) : Nat := laneBase n + 0x100 + 4 * i
def R.LRX_HIST (n : Nat) (i : Nat) : Nat := laneBase n + 0x800 + 4 * i
def R.LRX_FFE_A (n : Nat) (i : Nat) : Nat := laneBase n + 0x400 + 4 * i
def R.LRX_MAIN_A (n : Nat) : Nat := laneBase n + 0x4C0
def R.LRX_H1_A (n : Nat) : Nat := laneBase n + 0x4C4
def R.LRX_CTLE_A (n : Nat) : Nat := laneBase n + 0x4C8
def R.LRX_LVL_A (n : Nat) : Nat := laneBase n + 0x4CC
def R.LRX_NLE_A (n : Nat) (i : Nat) : Nat := laneBase n + 0x4D0 + 4 * i
def R.LRX_HSD_A (n : Nat) : Nat := laneBase n + 0x4F0
def R.LRX_QREL_A (n : Nat) : Nat := laneBase n + 0x4F4
def R.LRX_FFE_B (n : Nat) (i : Nat) : Nat := laneBase n + 0x500 + 4 * i
def R.LRX_MAIN_B (n : Nat) : Nat := laneBase n + 0x5C0
def R.LRX_H1_B (n : Nat) : Nat := laneBase n + 0x5C4
def R.LRX_CTLE_B (n : Nat) : Nat := laneBase n + 0x5C8
def R.LRX_LVL_B (n : Nat) : Nat := laneBase n + 0x5CC
def R.LRX_NLE_B (n : Nat) (i : Nat) : Nat := laneBase n + 0x5D0 + 4 * i
def R.LRX_HSD_B (n : Nat) : Nat := laneBase n + 0x5F0
def R.LRX_QREL_B (n : Nat) : Nat := laneBase n + 0x5F4
def R.LRX_SEQ_CTL (n : Nat) : Nat := laneBase n + 0xC00
def R.LRX_SEQ_STAT (n : Nat) : Nat := laneBase n + 0xC04
def R.LRX_SEQ_EVENT (n : Nat) : Nat := laneBase n + 0xC08
def R.LRX_SEQ_EVENT_EN (n : Nat) : Nat := laneBase n + 0xC0C
def R.LRX_SEQ_ENTRY (n : Nat) : Nat := laneBase n + 0xC10
def R.LRX_SEQ_PC (n : Nat) : Nat := laneBase n + 0xC14
def R.LRX_SEQ_TRAP (n : Nat) : Nat := laneBase n + 0xC18
def R.LRX_SEQ_TRAP_PC (n : Nat) : Nat := laneBase n + 0xC1C
def R.LRX_SEQ_TRAP_VAL (n : Nat) : Nat := laneBase n + 0xC20
def R.LRX_SEQ_EVT (n : Nat) : Nat := laneBase n + 0xC24
def R.LRX_SEQ_EVT_SET (n : Nat) : Nat := laneBase n + 0xC28
def R.LRX_SEQ_SAFE_CFG (n : Nat) : Nat := laneBase n + 0xC2C
def R.LRX_SEQ_IMAGE (n : Nat) : Nat := laneBase n + 0xC30
def R.LRX_TRN_CTL (n : Nat) : Nat := laneBase n + 0xD00
def R.LRX_TRN_CFG (n : Nat) : Nat := laneBase n + 0xD04
def R.LRX_TRN_TAG (n : Nat) : Nat := laneBase n + 0xD08
def R.LRX_TRN_STAT (n : Nat) : Nat := laneBase n + 0xD0C
def R.LRX_TRN_EVENT (n : Nat) : Nat := laneBase n + 0xD10
def R.LRX_TRN_EVENT_EN (n : Nat) : Nat := laneBase n + 0xD14
def R.LRX_TRN_TXREQ (n : Nat) : Nat := laneBase n + 0xD18
def R.LRX_TRN_TXRSP (n : Nat) : Nat := laneBase n + 0xD1C
def R.LRX_TRN_RXF (n : Nat) (i : Nat) : Nat := laneBase n + 0xD20 + 4 * i
def R.LRX_TRN_GOOD (n : Nat) : Nat := laneBase n + 0xD30
def R.LRX_TRN_CRC_ERR (n : Nat) : Nat := laneBase n + 0xD34
def R.LRX_TRN_ID_ERR (n : Nat) : Nat := laneBase n + 0xD38
def R.LRX_CW_CTL (n : Nat) : Nat := laneBase n + 0xE00
def R.LRX_CW_STAT (n : Nat) : Nat := laneBase n + 0xE04
def R.LRX_CW_EVENT (n : Nat) : Nat := laneBase n + 0xE08
def R.LRX_CW_EVENT_EN (n : Nat) : Nat := laneBase n + 0xE0C
def R.LRX_CW_TOTAL (n : Nat) : Nat := laneBase n + 0xE10
def R.LRX_CW_CORR (n : Nat) : Nat := laneBase n + 0xE14
def R.LRX_CW_BITS (n : Nat) : Nat := laneBase n + 0xE18
def R.LRX_CW_FAIL (n : Nat) : Nat := laneBase n + 0xE1C
def R.LRX_CW_LOSSES (n : Nat) : Nat := laneBase n + 0xE20
def R.LRX_RS_CTL (n : Nat) (i : Nat) : Nat := laneBase n + 0xE40 + 32 * i
def R.LRX_RS_STAT (n : Nat) (i : Nat) : Nat := laneBase n + 0xE44 + 32 * i
def R.LRX_RS_CW (n : Nat) (i : Nat) : Nat := laneBase n + 0xE48 + 32 * i
def R.LRX_RS_SYM (n : Nat) (i : Nat) : Nat := laneBase n + 0xE4C + 32 * i
def R.LRX_RS_UNCORR (n : Nat) (i : Nat) : Nat := laneBase n + 0xE50 + 32 * i
def R.LRX_RS_MAXSYM (n : Nat) (i : Nat) : Nat := laneBase n + 0xE54 + 32 * i
def R.LTX_CTL (n : Nat) : Nat := laneBase n + 0x000
def R.LTX_STATUS (n : Nat) : Nat := laneBase n + 0x004
def R.LTX_EVENT (n : Nat) : Nat := laneBase n + 0x008
def R.LTX_EVENT_EN (n : Nat) : Nat := laneBase n + 0x00C
def R.LTX_RAMP (n : Nat) : Nat := laneBase n + 0x010
def R.LTX_BIAS (n : Nat) : Nat := laneBase n + 0x014
def R.LTX_BIAS_STAT (n : Nat) : Nat := laneBase n + 0x018
def R.LTX_FAULT_CAUSE (n : Nat) : Nat := laneBase n + 0x01C
def R.LTX_PAT (n : Nat) : Nat := laneBase n + 0x020
def R.LTX_BANK (n : Nat) : Nat := laneBase n + 0x040
def R.LTX_TAP_A (n : Nat) (i : Nat) : Nat := laneBase n + 0x400 + 4 * i
def R.LTX_CUR_A (n : Nat) : Nat := laneBase n + 0x420
def R.LTX_SWING_A (n : Nat) : Nat := laneBase n + 0x424
def R.LTX_PD_A (n : Nat) (i : Nat) : Nat := laneBase n + 0x440 + 4 * i
def R.LTX_TAP_B (n : Nat) (i : Nat) : Nat := laneBase n + 0x500 + 4 * i
def R.LTX_CUR_B (n : Nat) : Nat := laneBase n + 0x520
def R.LTX_SWING_B (n : Nat) : Nat := laneBase n + 0x524
def R.LTX_PD_B (n : Nat) (i : Nat) : Nat := laneBase n + 0x540 + 4 * i
def R.LTX_SEQ_CTL (n : Nat) : Nat := laneBase n + 0xC00
def R.LTX_SEQ_STAT (n : Nat) : Nat := laneBase n + 0xC04
def R.LTX_SEQ_EVENT (n : Nat) : Nat := laneBase n + 0xC08
def R.LTX_SEQ_EVENT_EN (n : Nat) : Nat := laneBase n + 0xC0C
def R.LTX_SEQ_ENTRY (n : Nat) : Nat := laneBase n + 0xC10
def R.LTX_SEQ_PC (n : Nat) : Nat := laneBase n + 0xC14
def R.LTX_SEQ_TRAP (n : Nat) : Nat := laneBase n + 0xC18
def R.LTX_SEQ_TRAP_PC (n : Nat) : Nat := laneBase n + 0xC1C
def R.LTX_SEQ_TRAP_VAL (n : Nat) : Nat := laneBase n + 0xC20
def R.LTX_SEQ_EVT (n : Nat) : Nat := laneBase n + 0xC24
def R.LTX_SEQ_EVT_SET (n : Nat) : Nat := laneBase n + 0xC28
def R.LTX_SEQ_SAFE_CFG (n : Nat) : Nat := laneBase n + 0xC2C
def R.LTX_SEQ_IMAGE (n : Nat) : Nat := laneBase n + 0xC30
def R.LTX_CW_INJ (n : Nat) : Nat := laneBase n + 0xE24
def R.LTX_RS_CTL (n : Nat) (i : Nat) : Nat := laneBase n + 0xE40 + 32 * i
def R.LTX_RS_STAT (n : Nat) (i : Nat) : Nat := laneBase n + 0xE44 + 32 * i
def R.LTX_RS_CW (n : Nat) (i : Nat) : Nat := laneBase n + 0xE48 + 32 * i
def R.LTX_RS_SYM (n : Nat) (i : Nat) : Nat := laneBase n + 0xE4C + 32 * i
def R.LTX_RS_UNCORR (n : Nat) (i : Nat) : Nat := laneBase n + 0xE50 + 32 * i
def R.LTX_RS_MAXSYM (n : Nat) (i : Nat) : Nat := laneBase n + 0xE54 + 32 * i
def F.MODE_REQ_TARGET : Fld := ⟨R.MODE_REQ, 0, 3⟩
def F.MODE_REQ_FIXLAT : Fld := ⟨R.MODE_REQ, 3, 1⟩
def F.MODE_REQ_HOST_RATE : Fld := ⟨R.MODE_REQ, 4, 1⟩
def F.MODE_STATUS_CURRENT : Fld := ⟨R.MODE_STATUS, 0, 3⟩
def F.MODE_STATUS_FIXLAT : Fld := ⟨R.MODE_STATUS, 3, 1⟩
def F.MODE_STATUS_HOST_RATE : Fld := ⟨R.MODE_STATUS, 4, 1⟩
def F.MODE_STATUS_BUSY : Fld := ⟨R.MODE_STATUS, 5, 1⟩
def F.MODE_STATUS_IN_TARGET : Fld := ⟨R.MODE_STATUS, 6, 3⟩
def F.MODE_STATUS_WAITING : Fld := ⟨R.MODE_STATUS, 9, 1⟩
def F.MODE_STATUS_WAIT_TARGET : Fld := ⟨R.MODE_STATUS, 10, 3⟩
def F.MODE_STATUS_WAIT_FIXLAT : Fld := ⟨R.MODE_STATUS, 13, 1⟩
def F.MODE_STATUS_WAIT_HOST_RATE : Fld := ⟨R.MODE_STATUS, 14, 1⟩
def F.MODE_STATUS_THERM_HOLD : Fld := ⟨R.MODE_STATUS, 15, 1⟩
def F.MODE_RESULT_CODE : Fld := ⟨R.MODE_RESULT, 0, 4⟩
def F.MODE_RESULT_SOURCE : Fld := ⟨R.MODE_RESULT, 4, 4⟩
def F.MODE_RESULT_SEQ : Fld := ⟨R.MODE_RESULT, 8, 8⟩
def F.MODE_SUPERSEDED_COUNT : Fld := ⟨R.MODE_SUPERSEDED, 0, 16⟩
def F.MODE_CFG_HEAD_DORMANT_EN : Fld := ⟨R.MODE_CFG, 0, 1⟩
def F.MODE_WAKE_TARGET_TARGET : Fld := ⟨R.MODE_WAKE_TARGET, 0, 3⟩
def F.MODE_WAKE_TARGET_FIXLAT : Fld := ⟨R.MODE_WAKE_TARGET, 3, 1⟩
def F.MODE_WAKE_TARGET_HOST_RATE : Fld := ⟨R.MODE_WAKE_TARGET, 4, 1⟩
def F.MODE_LAST_TIME_US : Fld := ⟨R.MODE_LAST_TIME, 0, 24⟩
def F.MODE_DIAG_LOOP : Fld := ⟨R.MODE_DIAG, 0, 3⟩
def F.MODE_DIAG_BASE : Fld := ⟨R.MODE_DIAG, 4, 3⟩
def F.MODE_DIAG_LOOP_NOW : Fld := ⟨R.MODE_DIAG, 8, 3⟩
def F.MODE_DIAG_BASE_NOW : Fld := ⟨R.MODE_DIAG, 12, 3⟩
def F.MODE_OOS_LINE_LRX : Fld := ⟨R.MODE_OOS_LINE, 0, 8⟩
def F.MODE_OOS_LINE_LTX : Fld := ⟨R.MODE_OOS_LINE, 8, 8⟩
def F.MODE_OOS_HOST_HRX : Fld := ⟨R.MODE_OOS_HOST, 0, 16⟩
def F.MODE_OOS_HOST_HTX : Fld := ⟨R.MODE_OOS_HOST, 16, 16⟩
def F.MODE_UNUSABLE_LINE_LRX : Fld := ⟨R.MODE_UNUSABLE_LINE, 0, 8⟩
def F.MODE_UNUSABLE_LINE_LTX : Fld := ⟨R.MODE_UNUSABLE_LINE, 8, 8⟩
def F.MODE_UNUSABLE_HOST_HRX : Fld := ⟨R.MODE_UNUSABLE_HOST, 0, 16⟩
def F.MODE_UNUSABLE_HOST_HTX : Fld := ⟨R.MODE_UNUSABLE_HOST, 16, 16⟩
def F.MODE_PERSONA_ACTIVE : Fld := ⟨R.MODE_PERSONA, 0, 1⟩
def F.MODE_PERSONA_PIN : Fld := ⟨R.MODE_PERSONA, 1, 1⟩
def F.MODE_PERSONA_OTP : Fld := ⟨R.MODE_PERSONA, 2, 1⟩
def F.MODE_CLAIM_MONSYNC_USE : Fld := ⟨R.MODE_CLAIM_MONSYNC, 0, 2⟩
def F.MODE_CLAIM_MONSYNC_HOLDER : Fld := ⟨R.MODE_CLAIM_MONSYNC, 4, 4⟩
def F.MODE_CLAIM_MONSYNC_REFUSED : Fld := ⟨R.MODE_CLAIM_MONSYNC, 8, 1⟩
def F.MODE_CLAIM_MONSYNC_HOLDER_SEC : Fld := ⟨R.MODE_CLAIM_MONSYNC, 9, 1⟩
def F.MODE_CLAIM_CAPTURE_USE : Fld := ⟨R.MODE_CLAIM_CAPTURE, 0, 2⟩
def F.MODE_CLAIM_CAPTURE_HOLDER : Fld := ⟨R.MODE_CLAIM_CAPTURE, 4, 4⟩
def F.MODE_CLAIM_CAPTURE_REFUSED : Fld := ⟨R.MODE_CLAIM_CAPTURE, 8, 1⟩
def F.MODE_CLAIM_CAPTURE_HOLDER_SEC : Fld := ⟨R.MODE_CLAIM_CAPTURE, 9, 1⟩
def F.MODE_CLAIM_TIMER_USE (i : Nat) : Fld := ⟨R.MODE_CLAIM_TIMER i, 0, 2⟩
def F.MODE_CLAIM_TIMER_HOLDER (i : Nat) : Fld := ⟨R.MODE_CLAIM_TIMER i, 4, 4⟩
def F.MODE_CLAIM_TIMER_REFUSED (i : Nat) : Fld := ⟨R.MODE_CLAIM_TIMER i, 8, 1⟩
def F.MODE_CLAIM_TIMER_HOLDER_SEC (i : Nat) : Fld := ⟨R.MODE_CLAIM_TIMER i, 9, 1⟩
def F.MODE_CLAIM_ERR_RESOURCE : Fld := ⟨R.MODE_CLAIM_ERR, 0, 4⟩
def F.MODE_CLAIM_ERR_MASTER : Fld := ⟨R.MODE_CLAIM_ERR, 4, 4⟩
def F.MODE_CLAIM_ERR_COUNT : Fld := ⟨R.MODE_CLAIM_ERR, 8, 16⟩
def F.MODE_EVENT_RESULT : Fld := ⟨R.MODE_EVENT, 0, 1⟩
def F.MODE_EVENT_CONFIG_ERR : Fld := ⟨R.MODE_EVENT, 1, 1⟩
def F.MODE_EVENT_EN_RESULT : Fld := ⟨R.MODE_EVENT_EN, 0, 1⟩
def F.MODE_EVENT_EN_CONFIG_ERR : Fld := ⟨R.MODE_EVENT_EN, 1, 1⟩
def F.CLK_SRC_SEL : Fld := ⟨R.CLK_SRC, 0, 1⟩
def F.CLK_STAT_REF_OK : Fld := ⟨R.CLK_STAT, 0, 1⟩
def F.CLK_STAT_ROOT_OK : Fld := ⟨R.CLK_STAT, 1, 1⟩
def F.CLK_STAT_SLOW_OK : Fld := ⟨R.CLK_STAT, 2, 1⟩
def F.CLK_STAT_TRIMMED : Fld := ⟨R.CLK_STAT, 3, 1⟩
def F.CLK_STAT_TRIM_REF : Fld := ⟨R.CLK_STAT, 4, 2⟩
def F.CLK_EVENT_REF_LOST : Fld := ⟨R.CLK_EVENT, 0, 1⟩
def F.CLK_EVENT_ROOT_STABLE : Fld := ⟨R.CLK_EVENT, 1, 1⟩
def F.CLK_EVENT_ROOT_LOST : Fld := ⟨R.CLK_EVENT, 2, 1⟩
def F.CLK_EVENT_SRC_REFUSED : Fld := ⟨R.CLK_EVENT, 3, 1⟩
def F.CLK_EVENT_FORCED : Fld := ⟨R.CLK_EVENT, 4, 1⟩
def F.CLK_EVENT_UNTRIMMED : Fld := ⟨R.CLK_EVENT, 5, 1⟩
def F.CLK_EVENT_EN_EN : Fld := ⟨R.CLK_EVENT_EN, 0, 6⟩
def F.CLK_FRO_TRIM_CODE : Fld := ⟨R.CLK_FRO_TRIM, 0, 10⟩
def F.CLK_FRO_TRIM_ERR : Fld := ⟨R.CLK_FRO_TRIM, 16, 16⟩
def F.CLK_CFG_DEEP_IDLE : Fld := ⟨R.CLK_CFG, 0, 10⟩
def F.CLK_FORCE_LOG_GATE : Fld := ⟨R.CLK_FORCE_LOG, 0, 4⟩
def F.CLK_FORCE_LOG_MASTER : Fld := ⟨R.CLK_FORCE_LOG, 4, 4⟩
def F.CLK_FORCE_LOG_COUNT : Fld := ⟨R.CLK_FORCE_LOG, 16, 16⟩
def F.CLK_GATE_RUN (i : Nat) : Fld := ⟨R.CLK_GATE i, 0, 1⟩
def F.CLK_GATE_SLEEP (i : Nat) : Fld := ⟨R.CLK_GATE i, 1, 1⟩
def F.CLK_GATE_DEEP (i : Nat) : Fld := ⟨R.CLK_GATE i, 2, 1⟩
def F.CLK_GATE_OPEN (i : Nat) : Fld := ⟨R.CLK_GATE i, 3, 1⟩
def F.PWR_DOM_STAT_ON : Fld := ⟨R.PWR_DOM_STAT, 0, 17⟩
def F.PWR_ISO_STAT_CLAMPED : Fld := ⟨R.PWR_ISO_STAT, 0, 17⟩
def F.PWR_WAKE_EN_EN : Fld := ⟨R.PWR_WAKE_EN, 0, 26⟩
def F.PWR_WAKE_CAUSE_SRC : Fld := ⟨R.PWR_WAKE_CAUSE, 0, 26⟩
def F.PWR_WAKE_CAUSE_SMP : Fld := ⟨R.PWR_WAKE_CAUSE, 26, 1⟩
def F.PWR_WAKE_CAUSE_PIN : Fld := ⟨R.PWR_WAKE_CAUSE, 27, 1⟩
def F.PWR_WAKE_FIRST_SRC : Fld := ⟨R.PWR_WAKE_FIRST, 0, 5⟩
def F.PWR_WAKE_FIRST_VALID : Fld := ⟨R.PWR_WAKE_FIRST, 5, 1⟩
def F.PWR_RESET_CAUSE_POR : Fld := ⟨R.PWR_RESET_CAUSE, 0, 1⟩
def F.PWR_RESET_CAUSE_PIN : Fld := ⟨R.PWR_RESET_CAUSE, 1, 1⟩
def F.PWR_RESET_CAUSE_DEVICE : Fld := ⟨R.PWR_RESET_CAUSE, 2, 1⟩
def F.PWR_RESET_CAUSE_SUP : Fld := ⟨R.PWR_RESET_CAUSE, 3, 1⟩
def F.PWR_RESET_DEVICE : Fld := ⟨R.PWR_RESET, 0, 1⟩
def F.PWR_RESET_SUP : Fld := ⟨R.PWR_RESET, 1, 1⟩
def F.PWR_EVENT_ACTIVITY : Fld := ⟨R.PWR_EVENT, 0, 1⟩
def F.PWR_EVENT_WOKE : Fld := ⟨R.PWR_EVENT, 1, 1⟩
def F.PWR_EVENT_EN_EN : Fld := ⟨R.PWR_EVENT_EN, 0, 2⟩
def F.TIME_TB_LO_LOW : Fld := ⟨R.TIME_TB_LO, 0, 32⟩
def F.TIME_TB_HI_HIGH : Fld := ⟨R.TIME_TB_HI, 0, 32⟩
def F.TIME_CTL_SYNC_LOAD : Fld := ⟨R.TIME_CTL, 0, 1⟩
def F.TIME_CTL_LOAD_NOW : Fld := ⟨R.TIME_CTL, 1, 1⟩
def F.TIME_CTL_UNCERT_CLR : Fld := ⟨R.TIME_CTL, 2, 1⟩
def F.TIME_CTL_PPS_EDGE : Fld := ⟨R.TIME_CTL, 3, 1⟩
def F.TIME_STAT_SOURCE : Fld := ⟨R.TIME_STAT, 0, 1⟩
def F.TIME_STAT_SLEPT : Fld := ⟨R.TIME_STAT, 1, 1⟩
def F.TIME_STAT_SLEEP_OVF : Fld := ⟨R.TIME_STAT, 2, 1⟩
def F.TIME_UNCERT_US : Fld := ⟨R.TIME_UNCERT, 0, 32⟩
def F.TIME_SLEEP_LAST_COUNT : Fld := ⟨R.TIME_SLEEP_LAST, 0, 32⟩
def F.TIME_SLOW_CAL_PERIOD : Fld := ⟨R.TIME_SLOW_CAL, 0, 24⟩
def F.TIME_EVENT_SYNC : Fld := ⟨R.TIME_EVENT, 0, 1⟩
def F.TIME_EVENT_PPS : Fld := ⟨R.TIME_EVENT, 1, 1⟩
def F.TIME_EVENT_PPS_EXTRA : Fld := ⟨R.TIME_EVENT, 2, 1⟩
def F.TIME_EVENT_WOKE : Fld := ⟨R.TIME_EVENT, 3, 1⟩
def F.TIME_EVENT_GT : Fld := ⟨R.TIME_EVENT, 4, 4⟩
def F.TIME_EVENT_EN_EN : Fld := ⟨R.TIME_EVENT_EN, 0, 8⟩
def F.TIME_SYNC_LOAD_LO_VALUE : Fld := ⟨R.TIME_SYNC_LOAD_LO, 0, 32⟩
def F.TIME_SYNC_LOAD_HI_VALUE : Fld := ⟨R.TIME_SYNC_LOAD_HI, 0, 32⟩
def F.TIME_SYNC_CAP_LO_VALUE : Fld := ⟨R.TIME_SYNC_CAP_LO, 0, 32⟩
def F.TIME_SYNC_CAP_HI_VALUE : Fld := ⟨R.TIME_SYNC_CAP_HI, 0, 32⟩
def F.TIME_PPS_CAP_LO_VALUE : Fld := ⟨R.TIME_PPS_CAP_LO, 0, 32⟩
def F.TIME_PPS_CAP_HI_VALUE : Fld := ⟨R.TIME_PPS_CAP_HI, 0, 32⟩
def F.TIME_GT_CMP_LO_VALUE (i : Nat) : Fld := ⟨R.TIME_GT_CMP_LO i, 0, 32⟩
def F.TIME_GT_CMP_HI_VALUE (i : Nat) : Fld := ⟨R.TIME_GT_CMP_HI i, 0, 32⟩
def F.TIME_GT_CTL_ARM (i : Nat) : Fld := ⟨R.TIME_GT_CTL i, 0, 1⟩
def F.TIME_GT_CTL_ARMED (i : Nat) : Fld := ⟨R.TIME_GT_CTL i, 1, 1⟩
def F.TIME_GT_CTL_FIRED (i : Nat) : Fld := ⟨R.TIME_GT_CTL i, 2, 1⟩
def F.MEMX_CTL_SCRUB_EN : Fld := ⟨R.MEMX_CTL, 0, 1⟩
def F.MEMX_STAT_FILLED : Fld := ⟨R.MEMX_STAT, 0, 1⟩
def F.MEMX_STAT_SPARES0 : Fld := ⟨R.MEMX_STAT, 1, 2⟩
def F.MEMX_STAT_SPARES1 : Fld := ⟨R.MEMX_STAT, 3, 2⟩
def F.MEMX_STAT_RETIRE_BUSY : Fld := ⟨R.MEMX_STAT, 5, 1⟩
def F.MEMX_EVENT_CE : Fld := ⟨R.MEMX_EVENT, 0, 1⟩
def F.MEMX_EVENT_UE : Fld := ⟨R.MEMX_EVENT, 1, 1⟩
def F.MEMX_EVENT_SCRUB_UE : Fld := ⟨R.MEMX_EVENT, 2, 1⟩
def F.MEMX_EVENT_STALL : Fld := ⟨R.MEMX_EVENT, 3, 1⟩
def F.MEMX_EVENT_RETIRE_DONE : Fld := ⟨R.MEMX_EVENT, 4, 1⟩
def F.MEMX_EVENT_RETIRE_REFUSED : Fld := ⟨R.MEMX_EVENT, 5, 1⟩
def F.MEMX_EVENT_SPARE_OUT : Fld := ⟨R.MEMX_EVENT, 6, 1⟩
def F.MEMX_EVENT_CAP_LOSS : Fld := ⟨R.MEMX_EVENT, 7, 1⟩
def F.MEMX_EVENT_LOG_FULL : Fld := ⟨R.MEMX_EVENT, 8, 1⟩
def F.MEMX_EVENT_EN_EN : Fld := ⟨R.MEMX_EVENT_EN, 0, 9⟩
def F.MEMX_LOG_CTL_POP : Fld := ⟨R.MEMX_LOG_CTL, 0, 1⟩
def F.MEMX_LOG_CTL_COUNT : Fld := ⟨R.MEMX_LOG_CTL, 1, 5⟩
def F.MEMX_LOG_DROP_CE : Fld := ⟨R.MEMX_LOG_DROP, 0, 16⟩
def F.MEMX_LOG_DROP_UE : Fld := ⟨R.MEMX_LOG_DROP, 16, 16⟩
def F.MEMX_LOG_ADDR_ADDR : Fld := ⟨R.MEMX_LOG_ADDR, 0, 32⟩
def F.MEMX_LOG_INFO_TYPE : Fld := ⟨R.MEMX_LOG_INFO, 0, 2⟩
def F.MEMX_LOG_INFO_WRITE : Fld := ⟨R.MEMX_LOG_INFO, 2, 1⟩
def F.MEMX_LOG_INFO_MEM : Fld := ⟨R.MEMX_LOG_INFO, 3, 4⟩
def F.MEMX_LOG_INFO_REQ : Fld := ⟨R.MEMX_LOG_INFO, 7, 4⟩
def F.MEMX_LOG_INFO_MASTER : Fld := ⟨R.MEMX_LOG_INFO, 11, 4⟩
def F.MEMX_LOG_INFO_SYNDROME : Fld := ⟨R.MEMX_LOG_INFO, 15, 8⟩
def F.MEMX_LOG_INFO_BIT : Fld := ⟨R.MEMX_LOG_INFO, 23, 7⟩
def F.MEMX_SCRUB_STAT_STALL : Fld := ⟨R.MEMX_SCRUB_STAT, 0, 5⟩
def F.MEMX_SCRUB_STAT_LANE : Fld := ⟨R.MEMX_SCRUB_STAT, 5, 6⟩
def F.MEMX_RETIRE_TARGET : Fld := ⟨R.MEMX_RETIRE, 0, 7⟩
def F.MEMX_RETIRE_ROW : Fld := ⟨R.MEMX_RETIRE, 8, 5⟩
def F.MEMX_RETIRE_GO : Fld := ⟨R.MEMX_RETIRE, 31, 1⟩
def F.MEMX_RETIRE_STAT_RESULT : Fld := ⟨R.MEMX_RETIRE_STAT, 0, 4⟩
def F.MEMX_CLR_ADDR : Fld := ⟨R.MEMX_CLR, 2, 30⟩
def F.MEMX_CAP_LIMIT_SAMPLES : Fld := ⟨R.MEMX_CAP_LIMIT, 0, 23⟩
def F.MEMX_LOG_TS_LO_TIME : Fld := ⟨R.MEMX_LOG_TS_LO, 0, 32⟩
def F.MEMX_RETIRED_LO_BANK : Fld := ⟨R.MEMX_RETIRED_LO, 0, 32⟩
def F.MEMX_REMOVED_LO_BANK : Fld := ⟨R.MEMX_REMOVED_LO, 0, 32⟩
def F.MEMX_LOG_TS_HI_TIME : Fld := ⟨R.MEMX_LOG_TS_HI, 0, 32⟩
def F.MEMX_RETIRED_HI_BANK : Fld := ⟨R.MEMX_RETIRED_HI, 0, 32⟩
def F.MEMX_REMOVED_HI_BANK : Fld := ⟨R.MEMX_REMOVED_HI, 0, 32⟩
def F.MEMX_SCRUB_LAP_US (i : Nat) : Fld := ⟨R.MEMX_SCRUB_LAP i, 0, 32⟩
def F.MEMX_BANK_CE_C0 (i : Nat) : Fld := ⟨R.MEMX_BANK_CE i, 0, 8⟩
def F.MEMX_BANK_CE_C1 (i : Nat) : Fld := ⟨R.MEMX_BANK_CE i, 8, 8⟩
def F.MEMX_BANK_CE_C2 (i : Nat) : Fld := ⟨R.MEMX_BANK_CE i, 16, 8⟩
def F.MEMX_BANK_CE_C3 (i : Nat) : Fld := ⟨R.MEMX_BANK_CE i, 24, 8⟩
def F.MEMX_LANE_CE_C0 (i : Nat) : Fld := ⟨R.MEMX_LANE_CE i, 0, 8⟩
def F.MEMX_LANE_CE_C1 (i : Nat) : Fld := ⟨R.MEMX_LANE_CE i, 8, 8⟩
def F.MEMX_LANE_CE_C2 (i : Nat) : Fld := ⟨R.MEMX_LANE_CE i, 16, 8⟩
def F.MEMX_LANE_CE_C3 (i : Nat) : Fld := ⟨R.MEMX_LANE_CE i, 24, 8⟩
def F.MEMX_LANE_LOSS_REMOVED (i : Nat) : Fld := ⟨R.MEMX_LANE_LOSS i, 0, 24⟩
def F.MEMX_LANE_LOSS_SPARE_USED (i : Nat) : Fld := ⟨R.MEMX_LANE_LOSS i, 24, 1⟩
def F.MEMX_LANE_LOSS_SPARE_ROW (i : Nat) : Fld := ⟨R.MEMX_LANE_LOSS i, 25, 5⟩
def F.BIST_POST_STAT_DONE : Fld := ⟨R.BIST_POST_STAT, 0, 1⟩
def F.BIST_POST_STAT_ROM_FAIL : Fld := ⟨R.BIST_POST_STAT, 1, 1⟩
def F.BIST_POST_STAT_SRAM_FAIL : Fld := ⟨R.BIST_POST_STAT, 2, 1⟩
def F.BIST_POST_STAT_LANE_FAIL : Fld := ⟨R.BIST_POST_STAT, 3, 1⟩
def F.BIST_POST_STAT_SENSOR_FAIL : Fld := ⟨R.BIST_POST_STAT, 4, 1⟩
def F.BIST_POST_STAT_TIME_US : Fld := ⟨R.BIST_POST_STAT, 16, 16⟩
def F.BIST_POST_BANKS_LO_BANK : Fld := ⟨R.BIST_POST_BANKS_LO, 0, 32⟩
def F.BIST_POST_BANKS_HI_BANK : Fld := ⟨R.BIST_POST_BANKS_HI, 0, 32⟩
def F.BIST_POST_SPARES_SPARE : Fld := ⟨R.BIST_POST_SPARES, 0, 4⟩
def F.BIST_POST_LANES_LO_LANE : Fld := ⟨R.BIST_POST_LANES_LO, 0, 32⟩
def F.BIST_POST_LANES_HI_LANE : Fld := ⟨R.BIST_POST_LANES_HI, 0, 16⟩
def F.BIST_POST_SENS_TS : Fld := ⟨R.BIST_POST_SENS, 0, 12⟩
def F.BIST_POST_MON_MON : Fld := ⟨R.BIST_POST_MON, 0, 24⟩
def F.BIST_CMD_TARGET : Fld := ⟨R.BIST_CMD, 0, 7⟩
def F.BIST_CMD_TEST : Fld := ⟨R.BIST_CMD, 8, 2⟩
def F.BIST_CMD_GO : Fld := ⟨R.BIST_CMD, 31, 1⟩
def F.BIST_SAVE_ADDR : Fld := ⟨R.BIST_SAVE, 18, 14⟩
def F.BIST_RUN_STAT_BUSY : Fld := ⟨R.BIST_RUN_STAT, 0, 1⟩
def F.BIST_RUN_STAT_PASS : Fld := ⟨R.BIST_RUN_STAT, 1, 1⟩
def F.BIST_RUN_STAT_FAIL : Fld := ⟨R.BIST_RUN_STAT, 2, 1⟩
def F.BIST_RUN_STAT_REASON : Fld := ⟨R.BIST_RUN_STAT, 3, 3⟩
def F.BIST_FAIL_ADDR_ADDR : Fld := ⟨R.BIST_FAIL_ADDR, 0, 32⟩
def F.BIST_EVENT_DONE : Fld := ⟨R.BIST_EVENT, 0, 1⟩
def F.BIST_EVENT_REFUSED : Fld := ⟨R.BIST_EVENT, 1, 1⟩
def F.BIST_EVENT_EN_EN : Fld := ⟨R.BIST_EVENT_EN, 0, 2⟩
def F.THERM_STAT_MAX : Fld := ⟨R.THERM_STAT, 0, 10⟩
def F.THERM_STAT_MAX_SENSOR : Fld := ⟨R.THERM_STAT, 10, 4⟩
def F.THERM_STAT_LEVEL : Fld := ⟨R.THERM_STAT, 14, 3⟩
def F.THERM_STAT_WARN : Fld := ⟨R.THERM_STAT, 17, 1⟩
def F.THERM_STAT_HOLD : Fld := ⟨R.THERM_STAT, 18, 1⟩
def F.THERM_STAT_FROZEN : Fld := ⟨R.THERM_STAT, 19, 1⟩
def F.THERM_STAT_ADMITTED : Fld := ⟨R.THERM_STAT, 20, 4⟩
def F.THERM_CTL_MAX_LEVEL : Fld := ⟨R.THERM_CTL, 0, 3⟩
def F.THERM_CTL_THROT_EN : Fld := ⟨R.THERM_CTL, 3, 1⟩
def F.THERM_CTL_STEP_MS : Fld := ⟨R.THERM_CTL, 8, 8⟩
def F.THERM_CTL_DWELL_MS : Fld := ⟨R.THERM_CTL, 16, 8⟩
def F.THERM_THRESH_WARN : Fld := ⟨R.THERM_THRESH, 0, 8⟩
def F.THERM_THRESH_THROTTLE : Fld := ⟨R.THERM_THRESH, 8, 8⟩
def F.THERM_THRESH_SHUTDOWN : Fld := ⟨R.THERM_THRESH, 16, 8⟩
def F.THERM_THRESH_HYST : Fld := ⟨R.THERM_THRESH, 24, 4⟩
def F.THERM_EVENT_BITS : Fld := ⟨R.THERM_EVENT, 0, 9⟩
def F.THERM_EVENT_EN_EN : Fld := ⟨R.THERM_EVENT_EN, 0, 9⟩
def F.THERM_BROKEN_TS : Fld := ⟨R.THERM_BROKEN, 0, 12⟩
def F.THERM_ACK_FAIL_ACK : Fld := ⟨R.THERM_ACK, 0, 1⟩
def F.THERM_ACK_HOLD_CLR : Fld := ⟨R.THERM_ACK, 1, 1⟩
def F.THERM_SUBST_VALUE : Fld := ⟨R.THERM_SUBST, 0, 10⟩
def F.THERM_SUBST_SENSOR : Fld := ⟨R.THERM_SUBST, 10, 4⟩
def F.THERM_SUBST_ACTIVE : Fld := ⟨R.THERM_SUBST, 14, 1⟩
def F.THERM_PEAK_MAX : Fld := ⟨R.THERM_PEAK, 0, 10⟩
def F.THERM_PEAK_CLR : Fld := ⟨R.THERM_PEAK, 31, 1⟩
def F.THERM_THROT_MS_MS : Fld := ⟨R.THERM_THROT_MS, 0, 32⟩
def F.THERM_READ_TEMP (i : Nat) : Fld := ⟨R.THERM_READ i, 0, 10⟩
def F.THERM_READ_ADMITTED (i : Nat) : Fld := ⟨R.THERM_READ i, 10, 1⟩
def F.THERM_READ_CAUSE (i : Nat) : Fld := ⟨R.THERM_READ i, 11, 3⟩
def F.THERM_READ_SUBST (i : Nat) : Fld := ⟨R.THERM_READ i, 14, 1⟩
def F.THERM_READ_PROBATION (i : Nat) : Fld := ⟨R.THERM_READ i, 15, 1⟩
def F.MON_CTL_SYNC : Fld := ⟨R.MON_CTL, 0, 1⟩
def F.MON_CTL_SYNC_EDGE : Fld := ⟨R.MON_CTL, 1, 1⟩
def F.MON_STAT_RUNNING : Fld := ⟨R.MON_STAT, 0, 1⟩
def F.MON_STAT_ON_FRO : Fld := ⟨R.MON_STAT, 1, 1⟩
def F.MON_EVENT_BITS : Fld := ⟨R.MON_EVENT, 0, 3⟩
def F.MON_EVENT_EN_EN : Fld := ⟨R.MON_EVENT_EN, 0, 3⟩
def F.MON_MAC_LOAD_TOTAL : Fld := ⟨R.MON_MAC_LOAD, 0, 14⟩
def F.MON_REFUSE_CHANNEL : Fld := ⟨R.MON_REFUSE, 0, 5⟩
def F.MON_REFUSE_REASON : Fld := ⟨R.MON_REFUSE, 5, 3⟩
def F.MON_REFUSE_COUNT : Fld := ⟨R.MON_REFUSE, 16, 16⟩
def F.MON_FAILED_CH : Fld := ⟨R.MON_FAILED, 0, 24⟩
def F.MON_SYNC_STAT_COUNT : Fld := ⟨R.MON_SYNC_STAT, 0, 16⟩
def F.MON_SYNC_STAT_LAST_SRC : Fld := ⟨R.MON_SYNC_STAT, 16, 2⟩
def F.MON_WEIR_EVT_BITS (i : Nat) : Fld := ⟨R.MON_WEIR_EVT i, 0, 32⟩
def F.MON_WEIR_EN_BITS (i : Nat) : Fld := ⟨R.MON_WEIR_EN i, 0, 32⟩
def F.MON_WEIR_STATE_BITS (i : Nat) : Fld := ⟨R.MON_WEIR_STATE i, 0, 32⟩
def F.MON_CH_CFG_EN (i : Nat) : Fld := ⟨R.MON_CH_CFG i, 0, 1⟩
def F.MON_CH_CFG_R (i : Nat) : Fld := ⟨R.MON_CH_CFG i, 1, 11⟩
def F.MON_CH_CFG_D (i : Nat) : Fld := ⟨R.MON_CH_CFG i, 12, 5⟩
def F.MON_CH_FIR_TAPS (i : Nat) : Fld := ⟨R.MON_CH_FIR i, 0, 9⟩
def F.MON_CH_FIR_BASE (i : Nat) : Fld := ⟨R.MON_CH_FIR i, 16, 9⟩
def F.MON_CH_COARSE_VALUE (i : Nat) : Fld := ⟨R.MON_CH_COARSE i, 0, 10⟩
def F.MON_CH_COARSE_VALID (i : Nat) : Fld := ⟨R.MON_CH_COARSE i, 10, 1⟩
def F.MON_CH_FINE_VALUE (i : Nat) : Fld := ⟨R.MON_CH_FINE i, 0, 20⟩
def F.MON_CH_FINE_VALID (i : Nat) : Fld := ⟨R.MON_CH_FINE i, 20, 1⟩
def F.MON_CH_FINE_SEQ (i : Nat) : Fld := ⟨R.MON_CH_FINE i, 24, 8⟩
def F.MON_CH_ACC_LO_SUM (i : Nat) : Fld := ⟨R.MON_CH_ACC_LO i, 0, 32⟩
def F.MON_CH_ACC_HI_SUM (i : Nat) : Fld := ⟨R.MON_CH_ACC_HI i, 0, 16⟩
def F.MON_CH_ACC_N_COUNT (i : Nat) : Fld := ⟨R.MON_CH_ACC_N i, 0, 16⟩
def F.MON_CH_STAT_LOAD (i : Nat) : Fld := ⟨R.MON_CH_STAT i, 0, 13⟩
def F.MON_CH_STAT_SUPPRESSED (i : Nat) : Fld := ⟨R.MON_CH_STAT i, 13, 1⟩
def F.MON_CH_WEIR0_THRESH (i : Nat) : Fld := ⟨R.MON_CH_WEIR0 i, 0, 20⟩
def F.MON_CH_WEIR0_HYST (i : Nat) : Fld := ⟨R.MON_CH_WEIR0 i, 20, 8⟩
def F.MON_CH_WEIR0_SRC (i : Nat) : Fld := ⟨R.MON_CH_WEIR0 i, 28, 1⟩
def F.MON_CH_WEIR0_DIR (i : Nat) : Fld := ⟨R.MON_CH_WEIR0 i, 29, 1⟩
def F.MON_CH_WEIR0_EN (i : Nat) : Fld := ⟨R.MON_CH_WEIR0 i, 30, 1⟩
def F.MON_CH_WEIR1_THRESH (i : Nat) : Fld := ⟨R.MON_CH_WEIR1 i, 0, 20⟩
def F.MON_CH_WEIR1_HYST (i : Nat) : Fld := ⟨R.MON_CH_WEIR1 i, 20, 8⟩
def F.MON_CH_WEIR1_SRC (i : Nat) : Fld := ⟨R.MON_CH_WEIR1 i, 28, 1⟩
def F.MON_CH_WEIR1_DIR (i : Nat) : Fld := ⟨R.MON_CH_WEIR1 i, 29, 1⟩
def F.MON_CH_WEIR1_EN (i : Nat) : Fld := ⟨R.MON_CH_WEIR1 i, 30, 1⟩
def F.MON_CH_WEIR2_THRESH (i : Nat) : Fld := ⟨R.MON_CH_WEIR2 i, 0, 20⟩
def F.MON_CH_WEIR2_HYST (i : Nat) : Fld := ⟨R.MON_CH_WEIR2 i, 20, 8⟩
def F.MON_CH_WEIR2_SRC (i : Nat) : Fld := ⟨R.MON_CH_WEIR2 i, 28, 1⟩
def F.MON_CH_WEIR2_DIR (i : Nat) : Fld := ⟨R.MON_CH_WEIR2 i, 29, 1⟩
def F.MON_CH_WEIR2_EN (i : Nat) : Fld := ⟨R.MON_CH_WEIR2 i, 30, 1⟩
def F.MON_CH_WEIR3_THRESH (i : Nat) : Fld := ⟨R.MON_CH_WEIR3 i, 0, 20⟩
def F.MON_CH_WEIR3_HYST (i : Nat) : Fld := ⟨R.MON_CH_WEIR3 i, 20, 8⟩
def F.MON_CH_WEIR3_SRC (i : Nat) : Fld := ⟨R.MON_CH_WEIR3 i, 28, 1⟩
def F.MON_CH_WEIR3_DIR (i : Nat) : Fld := ⟨R.MON_CH_WEIR3 i, 29, 1⟩
def F.MON_CH_WEIR3_EN (i : Nat) : Fld := ⟨R.MON_CH_WEIR3 i, 30, 1⟩
def F.MON_COEF_VALUE (i : Nat) : Fld := ⟨R.MON_COEF i, 0, 18⟩
def F.PERF_CTL_FREEZE : Fld := ⟨R.PERF_CTL, 0, 1⟩
def F.PERF_CTL_SNAP : Fld := ⟨R.PERF_CTL, 1, 1⟩
def F.PERF_CTL_WRAP_FREEZE : Fld := ⟨R.PERF_CTL, 2, 1⟩
def F.PERF_CTL_CLEAR_ALL : Fld := ⟨R.PERF_CTL, 3, 1⟩
def F.PERF_STAT_SNAP_SEQ : Fld := ⟨R.PERF_STAT, 0, 8⟩
def F.PERF_STAT_PERSONA : Fld := ⟨R.PERF_STAT, 8, 1⟩
def F.PERF_EVENT_WRAP : Fld := ⟨R.PERF_EVENT, 0, 1⟩
def F.PERF_EVENT_WINDOW : Fld := ⟨R.PERF_EVENT, 1, 1⟩
def F.PERF_EVENT_CFG_REFUSED : Fld := ⟨R.PERF_EVENT, 2, 1⟩
def F.PERF_EVENT_EN_EN : Fld := ⟨R.PERF_EVENT_EN, 0, 3⟩
def F.PERF_WRAP_CNT : Fld := ⟨R.PERF_WRAP, 0, 32⟩
def F.PERF_USER_EN_CNT : Fld := ⟨R.PERF_USER_EN, 0, 32⟩
def F.PERF_BW_CTL_WINDOW : Fld := ⟨R.PERF_BW_CTL, 0, 22⟩
def F.PERF_BW_CTL_USER : Fld := ⟨R.PERF_BW_CTL, 30, 1⟩
def F.PERF_BW_CTL_RUN : Fld := ⟨R.PERF_BW_CTL, 31, 1⟩
def F.PERF_BW_STAT_SEQ : Fld := ⟨R.PERF_BW_STAT, 0, 16⟩
def F.PERF_REFUSE_CNT : Fld := ⟨R.PERF_REFUSE, 0, 5⟩
def F.PERF_REFUSE_MASTER : Fld := ⟨R.PERF_REFUSE, 5, 4⟩
def F.PERF_REFUSE_COUNT : Fld := ⟨R.PERF_REFUSE, 16, 16⟩
def F.PERF_SNAP_TS_LO_TICK : Fld := ⟨R.PERF_SNAP_TS_LO, 0, 32⟩
def F.PERF_SNAP_TS_HI_TICK : Fld := ⟨R.PERF_SNAP_TS_HI, 0, 32⟩
def F.PERF_CNT_CTL_CLASS (i : Nat) : Fld := ⟨R.PERF_CNT_CTL i, 0, 8⟩
def F.PERF_CNT_CTL_EN (i : Nat) : Fld := ⟨R.PERF_CNT_CTL i, 8, 1⟩
def F.PERF_CNT_CTL_WRAP_IRQ (i : Nat) : Fld := ⟨R.PERF_CNT_CTL i, 9, 1⟩
def F.PERF_CNT_LO_COUNT (i : Nat) : Fld := ⟨R.PERF_CNT_LO i, 0, 32⟩
def F.PERF_CNT_HI_COUNT (i : Nat) : Fld := ⟨R.PERF_CNT_HI i, 0, 16⟩
def F.PERF_FILT_MASTER (i : Nat) : Fld := ⟨R.PERF_FILT i, 0, 8⟩
def F.PERF_FILT_PRIV (i : Nat) : Fld := ⟨R.PERF_FILT i, 8, 3⟩
def F.PERF_FILT_A_EN (i : Nat) : Fld := ⟨R.PERF_FILT i, 11, 1⟩
def F.PERF_LANE_LO_LANES (i : Nat) : Fld := ⟨R.PERF_LANE_LO i, 0, 32⟩
def F.PERF_LANE_HI_LANES (i : Nat) : Fld := ⟨R.PERF_LANE_HI i, 0, 16⟩
def F.PERF_ADDR_LO_ADDR (i : Nat) : Fld := ⟨R.PERF_ADDR_LO i, 0, 32⟩
def F.PERF_ADDR_HI_ADDR (i : Nat) : Fld := ⟨R.PERF_ADDR_HI i, 0, 32⟩
def F.PERF_SNAP_LO_COUNT (i : Nat) : Fld := ⟨R.PERF_SNAP_LO i, 0, 32⟩
def F.PERF_SNAP_HI_COUNT (i : Nat) : Fld := ⟨R.PERF_SNAP_HI i, 0, 16⟩
def F.PERF_BW_RX_UNITS (i : Nat) : Fld := ⟨R.PERF_BW_RX i, 0, 32⟩
def F.PERF_BW_TX_UNITS (i : Nat) : Fld := ⟨R.PERF_BW_TX i, 0, 32⟩
def F.MBOX_CH_LO_POINTER (i : Nat) : Fld := ⟨R.MBOX_CH_LO i, 0, 32⟩
def F.MBOX_CH_HI_HIGH (i : Nat) : Fld := ⟨R.MBOX_CH_HI i, 0, 32⟩
def F.MBOX_CH_STAT_COUNT (i : Nat) : Fld := ⟨R.MBOX_CH_STAT i, 0, 3⟩
def F.MBOX_CH_STAT_POSTED (i : Nat) : Fld := ⟨R.MBOX_CH_STAT i, 8, 8⟩
def F.MBOX_CH_STAT_REFUSED (i : Nat) : Fld := ⟨R.MBOX_CH_STAT i, 16, 8⟩
def F.MBOX_CH_STAT_WITHDRAWN (i : Nat) : Fld := ⟨R.MBOX_CH_STAT i, 24, 8⟩
def F.MBOX_ARRIVE_CH (i : Nat) : Fld := ⟨R.MBOX_ARRIVE i, 0, 32⟩
def F.MBOX_SPACE_CH (i : Nat) : Fld := ⟨R.MBOX_SPACE i, 0, 32⟩
def F.MBOX_SRESET_CH (i : Nat) : Fld := ⟨R.MBOX_SRESET i, 0, 32⟩
def F.MBOX_NONEMPTY_CH (i : Nat) : Fld := ⟨R.MBOX_NONEMPTY i, 0, 32⟩
def F.MBOX_ACC_LOG_INDEX : Fld := ⟨R.MBOX_ACC_LOG, 0, 7⟩
def F.MBOX_ACC_LOG_KIND : Fld := ⟨R.MBOX_ACC_LOG, 7, 1⟩
def F.MBOX_ACC_LOG_MASTER : Fld := ⟨R.MBOX_ACC_LOG, 8, 4⟩
def F.MBOX_ACC_LOG_COUNT : Fld := ⟨R.MBOX_ACC_LOG, 16, 16⟩
def F.MBOX_RESET_DECL_HOST_S : Fld := ⟨R.MBOX_RESET_DECL, 0, 1⟩
def F.MBOX_RESET_DECL_HOST_NS : Fld := ⟨R.MBOX_RESET_DECL, 1, 1⟩
def F.MBOX_RESET_DECL_SMP : Fld := ⟨R.MBOX_RESET_DECL, 2, 1⟩
def F.MBOX_SEM_HELD (i : Nat) : Fld := ⟨R.MBOX_SEM i, 0, 1⟩
def F.MBOX_SEM_HOLDER_SEC (i : Nat) : Fld := ⟨R.MBOX_SEM i, 1, 1⟩
def F.MBOX_SEM_HOLDER (i : Nat) : Fld := ⟨R.MBOX_SEM i, 4, 4⟩
def F.MBOX_SEM_VIEW_HELD : Fld := ⟨R.MBOX_SEM_VIEW, 0, 32⟩
def F.IRQ_RAW_LO_SRC : Fld := ⟨R.IRQ_RAW_LO, 0, 32⟩
def F.IRQ_RAW_HI_SRC : Fld := ⟨R.IRQ_RAW_HI, 0, 32⟩
def F.IRQ_SECURE_LO_SRC : Fld := ⟨R.IRQ_SECURE_LO, 0, 32⟩
def F.IRQ_SECURE_HI_SRC : Fld := ⟨R.IRQ_SECURE_HI, 0, 32⟩
def F.IRQ_S_EN_LO_SRC : Fld := ⟨R.IRQ_S_EN_LO, 0, 32⟩
def F.IRQ_S_EN_HI_SRC : Fld := ⟨R.IRQ_S_EN_HI, 0, 32⟩
def F.IRQ_NS_EN_LO_SRC : Fld := ⟨R.IRQ_NS_EN_LO, 0, 32⟩
def F.IRQ_NS_EN_HI_SRC : Fld := ⟨R.IRQ_NS_EN_HI, 0, 32⟩
def F.IRQ_HOST_EN_LO_SRC : Fld := ⟨R.IRQ_HOST_EN_LO, 0, 32⟩
def F.IRQ_HOST_EN_HI_SRC : Fld := ⟨R.IRQ_HOST_EN_HI, 0, 32⟩
def F.IRQ_SMP_EN_LO_SRC : Fld := ⟨R.IRQ_SMP_EN_LO, 0, 32⟩
def F.IRQ_SMP_EN_HI_SRC : Fld := ⟨R.IRQ_SMP_EN_HI, 0, 32⟩
def F.IRQ_HOST_INSERV_LO_SRC : Fld := ⟨R.IRQ_HOST_INSERV_LO, 0, 32⟩
def F.IRQ_HOST_INSERV_HI_SRC : Fld := ⟨R.IRQ_HOST_INSERV_HI, 0, 32⟩
def F.IRQ_HOST_EOI_VECTOR : Fld := ⟨R.IRQ_HOST_EOI, 0, 6⟩
def F.IRQ_SOFT_SET_BITS : Fld := ⟨R.IRQ_SOFT_SET, 0, 32⟩
def F.IRQ_SOFT_CLR_BITS : Fld := ⟨R.IRQ_SOFT_CLR, 0, 32⟩
def F.DMA_CH_CTL_START (i : Nat) : Fld := ⟨R.DMA_CH_CTL i, 0, 1⟩
def F.DMA_CH_CTL_STOP (i : Nat) : Fld := ⟨R.DMA_CH_CTL i, 1, 1⟩
def F.DMA_CH_DESC_ADDR (i : Nat) : Fld := ⟨R.DMA_CH_DESC i, 5, 27⟩
def F.DMA_CH_STAT_STATE (i : Nat) : Fld := ⟨R.DMA_CH_STAT i, 0, 2⟩
def F.DMA_CH_STAT_CODE (i : Nat) : Fld := ⟨R.DMA_CH_STAT i, 2, 3⟩
def F.DMA_CH_STAT_DONE (i : Nat) : Fld := ⟨R.DMA_CH_STAT i, 16, 16⟩
def F.DMA_CH_FAIL_ADDR (i : Nat) : Fld := ⟨R.DMA_CH_FAIL i, 0, 32⟩
def F.DMA_EVENT_DONE : Fld := ⟨R.DMA_EVENT, 0, 8⟩
def F.DMA_EVENT_HALT : Fld := ⟨R.DMA_EVENT, 8, 8⟩
def F.DMA_EVENT_REFUSED : Fld := ⟨R.DMA_EVENT, 16, 1⟩
def F.DMA_EVENT_EN_EN : Fld := ⟨R.DMA_EVENT_EN, 0, 17⟩
def F.PCIE_STAT_LINK_UP : Fld := ⟨R.PCIE_STAT, 0, 1⟩
def F.PCIE_STAT_SPEED : Fld := ⟨R.PCIE_STAT, 1, 3⟩
def F.PCIE_STAT_WIDTH : Fld := ⟨R.PCIE_STAT, 4, 3⟩
def F.PCIE_STAT_D3HOT : Fld := ⟨R.PCIE_STAT, 7, 1⟩
def F.PCIE_STAT_ASPM : Fld := ⟨R.PCIE_STAT, 8, 2⟩
def F.PCIE_WORLD_BAR0_NS : Fld := ⟨R.PCIE_WORLD, 0, 1⟩
def F.PCIE_WORLD_BAR2S_EN : Fld := ⟨R.PCIE_WORLD, 1, 1⟩
def F.PCIE_EVENT_LINK_DOWN : Fld := ⟨R.PCIE_EVENT, 0, 1⟩
def F.PCIE_EVENT_LINK_UP : Fld := ⟨R.PCIE_EVENT, 1, 1⟩
def F.PCIE_EVENT_REFUSED : Fld := ⟨R.PCIE_EVENT, 2, 1⟩
def F.PCIE_EVENT_RESET : Fld := ⟨R.PCIE_EVENT, 3, 1⟩
def F.PCIE_EVENT_EN_EN : Fld := ⟨R.PCIE_EVENT_EN, 0, 4⟩
def F.PCIE_ERR_ADDR_ADDR : Fld := ⟨R.PCIE_ERR_ADDR, 0, 32⟩
def F.PCIE_ERR_INFO_WRITE : Fld := ⟨R.PCIE_ERR_INFO, 0, 1⟩
def F.PCIE_ERR_INFO_BAR : Fld := ⟨R.PCIE_ERR_INFO, 1, 2⟩
def F.PCIE_ERR_INFO_CAUSE : Fld := ⟨R.PCIE_ERR_INFO, 3, 3⟩
def F.PCIE_ERR_INFO_COUNT : Fld := ⟨R.PCIE_ERR_INFO, 16, 16⟩
def F.PCIE_SUBSYS_SVID : Fld := ⟨R.PCIE_SUBSYS, 0, 16⟩
def F.PCIE_SUBSYS_SSID : Fld := ⟨R.PCIE_SUBSYS, 16, 16⟩
def F.SMP_CFG_I3C_EN : Fld := ⟨R.SMP_CFG, 0, 1⟩
def F.SMP_STAT_I3C : Fld := ⟨R.SMP_STAT, 0, 1⟩
def F.SMP_STAT_DYN_ADDR : Fld := ⟨R.SMP_STAT, 1, 7⟩
def F.SMP_STAT_STATIC : Fld := ⟨R.SMP_STAT, 8, 7⟩
def F.SMP_STAT_IBI_EN : Fld := ⟨R.SMP_STAT, 15, 1⟩
def F.SMP_EVENT_WERR : Fld := ⟨R.SMP_EVENT, 0, 1⟩
def F.SMP_EVENT_AERR : Fld := ⟨R.SMP_EVENT, 1, 1⟩
def F.SMP_EVENT_PARTIAL : Fld := ⟨R.SMP_EVENT, 2, 1⟩
def F.SMP_EVENT_READ_NACK : Fld := ⟨R.SMP_EVENT, 3, 1⟩
def F.SMP_EVENT_WAKE : Fld := ⟨R.SMP_EVENT, 4, 1⟩
def F.SMP_EVENT_EN_EN : Fld := ⟨R.SMP_EVENT_EN, 0, 5⟩
def F.SMP_ERR_COUNT_COUNT : Fld := ⟨R.SMP_ERR_COUNT, 0, 16⟩
def F.TOW_CTL_HEAD : Fld := ⟨R.TOW_CTL, 0, 1⟩
def F.TOW_CTL_ENUM : Fld := ⟨R.TOW_CTL, 1, 1⟩
def F.TOW_CTL_SYNC : Fld := ⟨R.TOW_CTL, 2, 1⟩
def F.TOW_STAT_ENUM_BUSY : Fld := ⟨R.TOW_STAT, 0, 1⟩
def F.TOW_STAT_OPEN : Fld := ⟨R.TOW_STAT, 1, 1⟩
def F.TOW_STAT_N : Fld := ⟨R.TOW_STAT, 2, 7⟩
def F.TOW_STAT_NB : Fld := ⟨R.TOW_STAT, 9, 7⟩
def F.TOW_EVENT_BITS : Fld := ⟨R.TOW_EVENT, 0, 10⟩
def F.TOW_EVENT_EN_EN : Fld := ⟨R.TOW_EVENT_EN, 0, 10⟩
def F.TOW_ID_ID : Fld := ⟨R.TOW_ID, 0, 6⟩
def F.TOW_ID_VALID : Fld := ⟨R.TOW_ID, 6, 1⟩
def F.TOW_CFG_MAX_SPEED : Fld := ⟨R.TOW_CFG, 0, 2⟩
def F.TOW_CFG_RSP_TO : Fld := ⟨R.TOW_CFG, 2, 8⟩
def F.TOW_CFG_SLEEP_US : Fld := ⟨R.TOW_CFG, 10, 10⟩
def F.TOW_SYNC_CFG_LEAD : Fld := ⟨R.TOW_SYNC_CFG, 0, 16⟩
def F.TOW_ROUTE_LO_DEV : Fld := ⟨R.TOW_ROUTE_LO, 0, 32⟩
def F.TOW_ROUTE_HI_DEV : Fld := ⟨R.TOW_ROUTE_HI, 0, 32⟩
def F.TOW_REACH_LO_DEV : Fld := ⟨R.TOW_REACH_LO, 0, 32⟩
def F.TOW_REACH_HI_DEV : Fld := ⟨R.TOW_REACH_HI, 0, 32⟩
def F.TOW_REMOTE_IRQ_LO_DEV : Fld := ⟨R.TOW_REMOTE_IRQ_LO, 0, 32⟩
def F.TOW_REMOTE_IRQ_HI_DEV : Fld := ⟨R.TOW_REMOTE_IRQ_HI, 0, 32⟩
def F.TOW_PORT_CTL_SLEEP_EN (i : Nat) : Fld := ⟨R.TOW_PORT_CTL i, 0, 1⟩
def F.TOW_PORT_CTL_TEST (i : Nat) : Fld := ⟨R.TOW_PORT_CTL i, 1, 1⟩
def F.TOW_PORT_CTL_PRBS (i : Nat) : Fld := ⟨R.TOW_PORT_CTL i, 2, 2⟩
def F.TOW_PORT_CTL_INJECT (i : Nat) : Fld := ⟨R.TOW_PORT_CTL i, 4, 1⟩
def F.TOW_PORT_STAT_UP (i : Nat) : Fld := ⟨R.TOW_PORT_STAT i, 0, 1⟩
def F.TOW_PORT_STAT_SPEED (i : Nat) : Fld := ⟨R.TOW_PORT_STAT i, 1, 2⟩
def F.TOW_PORT_STAT_SPEED_FAIL (i : Nat) : Fld := ⟨R.TOW_PORT_STAT i, 3, 1⟩
def F.TOW_PORT_STAT_TX_SLEEP (i : Nat) : Fld := ⟨R.TOW_PORT_STAT i, 4, 1⟩
def F.TOW_PORT_STAT_RX_SLEEP (i : Nat) : Fld := ⟨R.TOW_PORT_STAT i, 5, 1⟩
def F.TOW_PORT_STAT_PARTNER_CAP (i : Nat) : Fld := ⟨R.TOW_PORT_STAT i, 6, 2⟩
def F.TOW_PORT_STAT_PRBS_LOCK (i : Nat) : Fld := ⟨R.TOW_PORT_STAT i, 8, 1⟩
def F.TOW_PORT_DELAY_TICKS (i : Nat) : Fld := ⟨R.TOW_PORT_DELAY i, 0, 12⟩
def F.TOW_PORT_CRC_COUNT (i : Nat) : Fld := ⟨R.TOW_PORT_CRC i, 0, 16⟩
def F.TOW_PORT_PRBS_COUNT (i : Nat) : Fld := ⟨R.TOW_PORT_PRBS i, 0, 32⟩
def F.TOW_RWIN_SEL_BASE (i : Nat) : Fld := ⟨R.TOW_RWIN_SEL i, 0, 27⟩
def F.TOW_RWIN_DEV_DEV (i : Nat) : Fld := ⟨R.TOW_RWIN_DEV i, 0, 6⟩
def F.TOW_RWIN_STAT_BUSY (i : Nat) : Fld := ⟨R.TOW_RWIN_STAT i, 0, 1⟩
def F.TOW_RWIN_STAT_ERR (i : Nat) : Fld := ⟨R.TOW_RWIN_STAT i, 1, 1⟩
def F.TOW_RWIN_STAT_STATUS (i : Nat) : Fld := ⟨R.TOW_RWIN_STAT i, 2, 2⟩
def F.FAULT_STAT_DEV : Fld := ⟨R.FAULT_STAT, 0, 1⟩
def F.FAULT_STAT_PIN : Fld := ⟨R.FAULT_STAT, 1, 1⟩
def F.FAULT_STAT_FROZEN : Fld := ⟨R.FAULT_STAT, 2, 1⟩
def F.FAULT_STAT_OOS : Fld := ⟨R.FAULT_STAT, 3, 6⟩
def F.FAULT_STAT_ACTIVE : Fld := ⟨R.FAULT_STAT, 9, 6⟩
def F.FAULT_DEV_ACTIVE_CLASS : Fld := ⟨R.FAULT_DEV_ACTIVE, 1, 5⟩
def F.FAULT_EVENT_BITS : Fld := ⟨R.FAULT_EVENT, 0, 9⟩
def F.FAULT_EVENT_EN_EN : Fld := ⟨R.FAULT_EVENT_EN, 0, 9⟩
def F.FAULT_CFG_PIN_LANE : Fld := ⟨R.FAULT_CFG, 0, 1⟩
def F.FAULT_CFG_PIN_FORCE : Fld := ⟨R.FAULT_CFG, 1, 1⟩
def F.FAULT_CFG_SETTLE_MS : Fld := ⟨R.FAULT_CFG, 8, 16⟩
def F.FAULT_REPORT_LANE : Fld := ⟨R.FAULT_REPORT, 0, 6⟩
def F.FAULT_REPORT_CAUSE : Fld := ⟨R.FAULT_REPORT, 8, 7⟩
def F.FAULT_REPORT_LEVEL : Fld := ⟨R.FAULT_REPORT, 16, 3⟩
def F.FAULT_STEP_LANE : Fld := ⟨R.FAULT_STEP, 0, 6⟩
def F.FAULT_STEP_DONE : Fld := ⟨R.FAULT_STEP, 8, 1⟩
def F.FAULT_DECLARE_CLASS : Fld := ⟨R.FAULT_DECLARE, 0, 3⟩
def F.FAULT_DECLARE_SHUTDOWN : Fld := ⟨R.FAULT_DECLARE, 3, 1⟩
def F.FAULT_DECLARE_DATA : Fld := ⟨R.FAULT_DECLARE, 16, 16⟩
def F.FAULT_DEV_CLR_CLASS : Fld := ⟨R.FAULT_DEV_CLR, 1, 5⟩
def F.FAULT_LOG_CTL_POP : Fld := ⟨R.FAULT_LOG_CTL, 0, 1⟩
def F.FAULT_LOG_CTL_COUNT : Fld := ⟨R.FAULT_LOG_CTL, 1, 5⟩
def F.FAULT_LOG_DROP_COUNT : Fld := ⟨R.FAULT_LOG_DROP, 0, 16⟩
def F.FAULT_LOG_DATA_DATA : Fld := ⟨R.FAULT_LOG_DATA, 0, 32⟩
def F.FAULT_FWLOG_BASE_ADDR : Fld := ⟨R.FAULT_FWLOG_BASE, 4, 28⟩
def F.FAULT_FWLOG_HEAD_INDEX : Fld := ⟨R.FAULT_FWLOG_HEAD, 0, 8⟩
def F.FAULT_LOG_TS_LO_TIME : Fld := ⟨R.FAULT_LOG_TS_LO, 0, 32⟩
def F.FAULT_LOG_TS_HI_TIME : Fld := ⟨R.FAULT_LOG_TS_HI, 0, 32⟩
def F.FAULT_LOG_INFO_KIND : Fld := ⟨R.FAULT_LOG_INFO, 0, 3⟩
def F.FAULT_LOG_INFO_LANE : Fld := ⟨R.FAULT_LOG_INFO, 3, 6⟩
def F.FAULT_LOG_INFO_CAUSE : Fld := ⟨R.FAULT_LOG_INFO, 9, 7⟩
def F.FAULT_LOG_INFO_LEVEL : Fld := ⟨R.FAULT_LOG_INFO, 16, 3⟩
def F.FAULT_LOG_INFO_DETAIL : Fld := ⟨R.FAULT_LOG_INFO, 19, 8⟩
def F.FAULT_LADDER_LEVEL (i : Nat) : Fld := ⟨R.FAULT_LADDER i, 0, 3⟩
def F.FAULT_LADDER_ACTIVE (i : Nat) : Fld := ⟨R.FAULT_LADDER i, 3, 1⟩
def F.FAULT_LADDER_FROZEN (i : Nat) : Fld := ⟨R.FAULT_LADDER i, 4, 1⟩
def F.FAULT_LADDER_LAST_CAUSE (i : Nat) : Fld := ⟨R.FAULT_LADDER i, 5, 7⟩
def F.FAULT_LADDER_LAST_OK (i : Nat) : Fld := ⟨R.FAULT_LADDER i, 12, 3⟩
def F.FAULT_LADDER_FAULTS (i : Nat) : Fld := ⟨R.FAULT_LADDER i, 16, 8⟩
def F.CAL_CTL_BG_EN : Fld := ⟨R.CAL_CTL, 0, 1⟩
def F.CAL_CTL_TEMP_EN : Fld := ⟨R.CAL_CTL, 1, 1⟩
def F.CAL_CTL_DT : Fld := ⟨R.CAL_CTL, 8, 6⟩
def F.CAL_CMD_LANE : Fld := ⟨R.CAL_CMD, 0, 6⟩
def F.CAL_CMD_GO : Fld := ⟨R.CAL_CMD, 8, 1⟩
def F.CAL_CMD_REASON : Fld := ⟨R.CAL_CMD, 12, 3⟩
def F.CAL_EVENT_DONE : Fld := ⟨R.CAL_EVENT, 0, 1⟩
def F.CAL_EVENT_STEPPED : Fld := ⟨R.CAL_EVENT, 1, 1⟩
def F.CAL_EVENT_UNFIT : Fld := ⟨R.CAL_EVENT, 2, 1⟩
def F.CAL_EVENT_GIVEUP : Fld := ⟨R.CAL_EVENT, 3, 1⟩
def F.CAL_EVENT_ABORTED : Fld := ⟨R.CAL_EVENT, 4, 1⟩
def F.CAL_EVENT_CMD_REFUSED : Fld := ⟨R.CAL_EVENT, 5, 1⟩
def F.CAL_EVENT_SRC_CHANGE : Fld := ⟨R.CAL_EVENT, 6, 1⟩
def F.CAL_EVENT_EN_DONE : Fld := ⟨R.CAL_EVENT_EN, 0, 1⟩
def F.CAL_EVENT_EN_STEPPED : Fld := ⟨R.CAL_EVENT_EN, 1, 1⟩
def F.CAL_EVENT_EN_UNFIT : Fld := ⟨R.CAL_EVENT_EN, 2, 1⟩
def F.CAL_EVENT_EN_GIVEUP : Fld := ⟨R.CAL_EVENT_EN, 3, 1⟩
def F.CAL_EVENT_EN_ABORTED : Fld := ⟨R.CAL_EVENT_EN, 4, 1⟩
def F.CAL_EVENT_EN_CMD_REFUSED : Fld := ⟨R.CAL_EVENT_EN, 5, 1⟩
def F.CAL_EVENT_EN_SRC_CHANGE : Fld := ⟨R.CAL_EVENT_EN, 6, 1⟩
def F.CAL_UNFIT_LO_LANES : Fld := ⟨R.CAL_UNFIT_LO, 0, 32⟩
def F.CAL_UNFIT_HI_LANES : Fld := ⟨R.CAL_UNFIT_HI, 0, 16⟩
def F.CAL_BG_STAT_LAP_US : Fld := ⟨R.CAL_BG_STAT, 0, 16⟩
def F.CAL_BG_STAT_SKIP : Fld := ⟨R.CAL_BG_STAT, 16, 16⟩
def F.CAL_RECAL_COUNT_COUNT : Fld := ⟨R.CAL_RECAL_COUNT, 0, 16⟩
def F.CAL_STEP_COUNT_COUNT : Fld := ⟨R.CAL_STEP_COUNT, 0, 16⟩
def F.CAL_LANE_STAT_STATE (i : Nat) : Fld := ⟨R.CAL_LANE_STAT i, 0, 3⟩
def F.CAL_LANE_STAT_RETRIES (i : Nat) : Fld := ⟨R.CAL_LANE_STAT i, 3, 4⟩
def F.CAL_LANE_STAT_UNFIT (i : Nat) : Fld := ⟨R.CAL_LANE_STAT i, 7, 1⟩
def F.CAL_LANE_STAT_LAST_STEP (i : Nat) : Fld := ⟨R.CAL_LANE_STAT i, 8, 1⟩
def F.CAL_LANE_STAT_SUBST (i : Nat) : Fld := ⟨R.CAL_LANE_STAT i, 9, 1⟩
def F.CAL_LANE_STAT_SENSOR (i : Nat) : Fld := ⟨R.CAL_LANE_STAT i, 12, 4⟩
def F.CAL_LANE_STAT_LAST_PAUSE (i : Nat) : Fld := ⟨R.CAL_LANE_STAT i, 16, 16⟩
def F.CAL_LANE_REF_T_REF (i : Nat) : Fld := ⟨R.CAL_LANE_REF i, 0, 10⟩
def F.CAL_LANE_REF_T_NOW (i : Nat) : Fld := ⟨R.CAL_LANE_REF i, 16, 10⟩
def F.FLASH_BOOT_STAT_SEL : Fld := ⟨R.FLASH_BOOT_STAT, 0, 2⟩
def F.FLASH_BOOT_STAT_PHASE : Fld := ⟨R.FLASH_BOOT_STAT, 2, 3⟩
def F.FLASH_BOOT_STAT_SLOT : Fld := ⟨R.FLASH_BOOT_STAT, 5, 1⟩
def F.FLASH_BOOT_DOOR_LENGTH : Fld := ⟨R.FLASH_BOOT_DOOR, 0, 23⟩
def F.FLASH_BOOT_DOOR_GO : Fld := ⟨R.FLASH_BOOT_DOOR, 31, 1⟩
def F.FLASH_SFDP_SIZE_LOG2 : Fld := ⟨R.FLASH_SFDP, 0, 6⟩
def F.FLASH_SFDP_ADDR4 : Fld := ⟨R.FLASH_SFDP, 6, 1⟩
def F.FLASH_SFDP_READ : Fld := ⟨R.FLASH_SFDP, 7, 2⟩
def F.FLASH_SFDP_VALID : Fld := ⟨R.FLASH_SFDP, 9, 1⟩
def F.FLASH_CMD_OPCODE : Fld := ⟨R.FLASH_CMD, 0, 8⟩
def F.FLASH_CMD_ABYTES : Fld := ⟨R.FLASH_CMD, 8, 2⟩
def F.FLASH_CMD_DATA : Fld := ⟨R.FLASH_CMD, 10, 2⟩
def F.FLASH_CMD_QUAD : Fld := ⟨R.FLASH_CMD, 12, 1⟩
def F.FLASH_CMD_POLL : Fld := ⟨R.FLASH_CMD, 13, 1⟩
def F.FLASH_CMD_GO : Fld := ⟨R.FLASH_CMD, 14, 1⟩
def F.FLASH_ADDR_ADDR : Fld := ⟨R.FLASH_ADDR, 0, 32⟩
def F.FLASH_LEN_LEN : Fld := ⟨R.FLASH_LEN, 0, 17⟩
def F.FLASH_BUF_ADDR : Fld := ⟨R.FLASH_BUF, 0, 32⟩
def F.FLASH_STAT_BUSY : Fld := ⟨R.FLASH_STAT, 0, 1⟩
def F.FLASH_STAT_DONE : Fld := ⟨R.FLASH_STAT, 1, 1⟩
def F.FLASH_STAT_CODE : Fld := ⟨R.FLASH_STAT, 2, 3⟩
def F.FLASH_CMD_TO_MS : Fld := ⟨R.FLASH_CMD_TO, 0, 16⟩
def F.FAB_CTL_SPEED_EN : Fld := ⟨R.FAB_CTL, 0, 1⟩
def F.FAB_CTL_CRIT_FAULT_EN : Fld := ⟨R.FAB_CTL, 1, 1⟩
def F.FAB_STATUS_MARGIN_WARN : Fld := ⟨R.FAB_STATUS, 0, 1⟩
def F.FAB_STATUS_MARGIN_CRIT : Fld := ⟨R.FAB_STATUS, 1, 1⟩
def F.FAB_STATUS_TGT_CLAMPED_LTX : Fld := ⟨R.FAB_STATUS, 2, 1⟩
def F.FAB_STATUS_TGT_CLAMPED_HTX : Fld := ⟨R.FAB_STATUS, 3, 1⟩
def F.FAB_STATUS_ALL_LOCKED : Fld := ⟨R.FAB_STATUS, 4, 1⟩
def F.FAB_STATUS_REF_MODE : Fld := ⟨R.FAB_STATUS, 5, 3⟩
def F.FAB_MARGIN_THR_WARN : Fld := ⟨R.FAB_MARGIN_THR, 0, 12⟩
def F.FAB_MARGIN_THR_CRIT : Fld := ⟨R.FAB_MARGIN_THR, 16, 12⟩
def F.FAB_MARGIN_THR_HYST : Fld := ⟨R.FAB_MARGIN_THR, 28, 4⟩
def F.FAB_MARGIN_MIN_NOW : Fld := ⟨R.FAB_MARGIN_MIN, 0, 12⟩
def F.FAB_MARGIN_MIN_WHICH : Fld := ⟨R.FAB_MARGIN_MIN, 12, 3⟩
def F.FAB_MARGIN_MIN_LOW : Fld := ⟨R.FAB_MARGIN_MIN, 16, 12⟩
def F.FAB_MARGIN_MIN_LOW_CLR : Fld := ⟨R.FAB_MARGIN_MIN, 31, 1⟩
def F.FAB_RATE_NEED_MBARGE : Fld := ⟨R.FAB_RATE_NEED, 0, 12⟩
def F.FAB_FL_TGT_LTX_UI : Fld := ⟨R.FAB_FL_TGT_LTX, 0, 17⟩
def F.FAB_FL_TGT_HTX_UI : Fld := ⟨R.FAB_FL_TGT_HTX, 0, 17⟩
def F.FAB_FL_SLEW_RATE : Fld := ⟨R.FAB_FL_SLEW, 0, 4⟩
def F.FAB_LOCK_SUMMARY_LTX : Fld := ⟨R.FAB_LOCK_SUMMARY, 0, 8⟩
def F.FAB_LOCK_SUMMARY_HTX : Fld := ⟨R.FAB_LOCK_SUMMARY, 8, 16⟩
def F.FAB_EVENT_WARN_ENTER : Fld := ⟨R.FAB_EVENT, 0, 1⟩
def F.FAB_EVENT_CRIT_ENTER : Fld := ⟨R.FAB_EVENT, 1, 1⟩
def F.FAB_EVENT_TGT_CLAMP : Fld := ⟨R.FAB_EVENT, 2, 1⟩
def F.FAB_EVENT_LOCK_LOST : Fld := ⟨R.FAB_EVENT, 3, 1⟩
def F.FAB_EVENT_XDROP : Fld := ⟨R.FAB_EVENT, 4, 1⟩
def F.FAB_EVENT_UNDERRUN : Fld := ⟨R.FAB_EVENT, 5, 1⟩
def F.FAB_EVENT_SB_PARITY : Fld := ⟨R.FAB_EVENT, 6, 1⟩
def F.FAB_EVENT_EN_WARN_ENTER : Fld := ⟨R.FAB_EVENT_EN, 0, 1⟩
def F.FAB_EVENT_EN_CRIT_ENTER : Fld := ⟨R.FAB_EVENT_EN, 1, 1⟩
def F.FAB_EVENT_EN_TGT_CLAMP : Fld := ⟨R.FAB_EVENT_EN, 2, 1⟩
def F.FAB_EVENT_EN_LOCK_LOST : Fld := ⟨R.FAB_EVENT_EN, 3, 1⟩
def F.FAB_EVENT_EN_XDROP : Fld := ⟨R.FAB_EVENT_EN, 4, 1⟩
def F.FAB_EVENT_EN_UNDERRUN : Fld := ⟨R.FAB_EVENT_EN, 5, 1⟩
def F.FAB_EVENT_EN_SB_PARITY : Fld := ⟨R.FAB_EVENT_EN, 6, 1⟩
def F.FAB_SPEED_MARGIN (i : Nat) : Fld := ⟨R.FAB_SPEED i, 0, 12⟩
def F.FAB_SPEED_VALID (i : Nat) : Fld := ⟨R.FAB_SPEED i, 12, 1⟩
def F.FAB_LAT_LATENCY (i : Nat) : Fld := ⟨R.FAB_LAT i, 0, 24⟩
def F.FAB_LAT_STATE (i : Nat) : Fld := ⟨R.FAB_LAT i, 24, 2⟩
def F.FAB_LAT_VALID (i : Nat) : Fld := ⟨R.FAB_LAT i, 26, 1⟩
def F.FAB_XDROP_COUNT (i : Nat) : Fld := ⟨R.FAB_XDROP i, 0, 16⟩
def F.FAB_UNDERRUN_COUNT (i : Nat) : Fld := ⟨R.FAB_UNDERRUN i, 0, 16⟩
def F.IDENT_PART_PART : Fld := ⟨R.IDENT_PART, 0, 16⟩
def F.IDENT_PART_VENDOR : Fld := ⟨R.IDENT_PART, 16, 16⟩
def F.IDENT_REV_SILICON : Fld := ⟨R.IDENT_REV, 0, 8⟩
def F.IDENT_REV_TESTPROG : Fld := ⟨R.IDENT_REV, 8, 8⟩
def F.IDENT_LOT_LO_LOT : Fld := ⟨R.IDENT_LOT_LO, 0, 32⟩
def F.IDENT_LOT_HI_LOT : Fld := ⟨R.IDENT_LOT_HI, 0, 16⟩
def F.IDENT_LOT_HI_WAFER : Fld := ⟨R.IDENT_LOT_HI, 16, 5⟩
def F.IDENT_DIE_X : Fld := ⟨R.IDENT_DIE, 0, 8⟩
def F.IDENT_DIE_Y : Fld := ⟨R.IDENT_DIE, 8, 8⟩
def F.IDENT_DIE_VALID : Fld := ⟨R.IDENT_DIE, 16, 1⟩
def F.LIFE_STATE_STATE : Fld := ⟨R.LIFE_STATE, 0, 3⟩
def F.LIFE_STATE_TORN : Fld := ⟨R.LIFE_STATE, 3, 1⟩
def F.LIFE_CMD_OP : Fld := ⟨R.LIFE_CMD, 0, 4⟩
def F.LIFE_CMD_TARGET : Fld := ⟨R.LIFE_CMD, 4, 3⟩
def F.LIFE_CMD_SLOT : Fld := ⟨R.LIFE_CMD, 8, 1⟩
def F.LIFE_CMD_VALUE : Fld := ⟨R.LIFE_CMD, 16, 7⟩
def F.LIFE_CMD_GO : Fld := ⟨R.LIFE_CMD, 31, 1⟩
def F.LIFE_ARG_ADDR : Fld := ⟨R.LIFE_ARG, 0, 32⟩
def F.LIFE_STAT_BUSY : Fld := ⟨R.LIFE_STAT, 0, 1⟩
def F.LIFE_STAT_DONE : Fld := ⟨R.LIFE_STAT, 1, 1⟩
def F.LIFE_STAT_RESULT : Fld := ⟨R.LIFE_STAT, 2, 4⟩
def F.LIFE_AUTH_MODE : Fld := ⟨R.LIFE_AUTH, 0, 2⟩
def F.LIFE_AUTH_SLOT : Fld := ⟨R.LIFE_AUTH, 2, 1⟩
def F.LIFE_AUTH_FAIL : Fld := ⟨R.LIFE_AUTH, 3, 4⟩
def F.LIFE_AUTH_IMAGE_VER : Fld := ⟨R.LIFE_AUTH, 16, 16⟩
def F.LIFE_ROLLBACK_COUNT : Fld := ⟨R.LIFE_ROLLBACK, 0, 7⟩
def F.LIFE_KEYSTAT_BITS : Fld := ⟨R.LIFE_KEYSTAT, 0, 4⟩
def F.LIFE_DBG_CTL_HALT : Fld := ⟨R.LIFE_DBG_CTL, 0, 1⟩
def F.LIFE_DBG_CTL_RESUME : Fld := ⟨R.LIFE_DBG_CTL, 1, 1⟩
def F.LIFE_DBG_CTL_STEP : Fld := ⟨R.LIFE_DBG_CTL, 2, 1⟩
def F.LIFE_DBG_STAT_HALTED : Fld := ⟨R.LIFE_DBG_STAT, 0, 1⟩
def F.LIFE_DBG_STAT_HALT_PEND : Fld := ⟨R.LIFE_DBG_STAT, 1, 1⟩
def F.LIFE_DBG_STAT_LEVEL : Fld := ⟨R.LIFE_DBG_STAT, 2, 2⟩
def F.LIFE_DBG_STAT_HALT_TO : Fld := ⟨R.LIFE_DBG_STAT, 4, 1⟩
def F.LIFE_DBG_SEL_REG : Fld := ⟨R.LIFE_DBG_SEL, 0, 6⟩
def F.LIFE_DBG_DATA_DATA : Fld := ⟨R.LIFE_DBG_DATA, 0, 32⟩
def F.LIFE_DBG_MADDR_ADDR : Fld := ⟨R.LIFE_DBG_MADDR, 0, 32⟩
def F.LIFE_DBG_MDATA_DATA : Fld := ⟨R.LIFE_DBG_MDATA, 0, 32⟩
def F.LIFE_NONCE_VALUE (i : Nat) : Fld := ⟨R.LIFE_NONCE i, 0, 32⟩
def F.HRX_CTL_INV (n : Nat) : Fld := ⟨R.HRX_CTL n, 0, 1⟩
def F.HRX_STATUS_SIG_DET (n : Nat) : Fld := ⟨R.HRX_STATUS n, 0, 1⟩
def F.HRX_STATUS_CDR_LOCK (n : Nat) : Fld := ⟨R.HRX_STATUS n, 1, 1⟩
def F.HRX_STATUS_XBAR_ERR (n : Nat) : Fld := ⟨R.HRX_STATUS n, 3, 1⟩
def F.HRX_STATUS_ACTIVE_SLOT (n : Nat) : Fld := ⟨R.HRX_STATUS n, 4, 4⟩
def F.HRX_STATUS_STATE (n : Nat) : Fld := ⟨R.HRX_STATUS n, 8, 2⟩
def F.HRX_EVENT_LOS_ENTER (n : Nat) : Fld := ⟨R.HRX_EVENT n, 0, 1⟩
def F.HRX_EVENT_LOS_EXIT (n : Nat) : Fld := ⟨R.HRX_EVENT n, 1, 1⟩
def F.HRX_EVENT_CDR_UNLOCK (n : Nat) : Fld := ⟨R.HRX_EVENT n, 2, 1⟩
def F.HRX_EVENT_XBAR_ERR (n : Nat) : Fld := ⟨R.HRX_EVENT n, 3, 1⟩
def F.HRX_EVENT_COMMIT_REFUSED (n : Nat) : Fld := ⟨R.HRX_EVENT n, 4, 1⟩
def F.HRX_EVENT_PAT_ERR (n : Nat) : Fld := ⟨R.HRX_EVENT n, 5, 1⟩
def F.HRX_EVENT_EN_LOS_ENTER (n : Nat) : Fld := ⟨R.HRX_EVENT_EN n, 0, 1⟩
def F.HRX_EVENT_EN_LOS_EXIT (n : Nat) : Fld := ⟨R.HRX_EVENT_EN n, 1, 1⟩
def F.HRX_EVENT_EN_CDR_UNLOCK (n : Nat) : Fld := ⟨R.HRX_EVENT_EN n, 2, 1⟩
def F.HRX_EVENT_EN_XBAR_ERR (n : Nat) : Fld := ⟨R.HRX_EVENT_EN n, 3, 1⟩
def F.HRX_EVENT_EN_COMMIT_REFUSED (n : Nat) : Fld := ⟨R.HRX_EVENT_EN n, 4, 1⟩
def F.HRX_EVENT_EN_PAT_ERR (n : Nat) : Fld := ⟨R.HRX_EVENT_EN n, 5, 1⟩
def F.HRX_XBAR_SLOT (n : Nat) : Fld := ⟨R.HRX_XBAR n, 0, 4⟩
def F.HRX_PAT_SEL (n : Nat) : Fld := ⟨R.HRX_PAT n, 0, 3⟩
def F.HRX_PAT_EN (n : Nat) : Fld := ⟨R.HRX_PAT n, 3, 1⟩
def F.HRX_PAT_SYNCED (n : Nat) : Fld := ⟨R.HRX_PAT n, 5, 1⟩
def F.HRX_PAT_ERR_COUNT (n : Nat) : Fld := ⟨R.HRX_PAT_ERR n, 0, 32⟩
def F.HRX_CORR_CTL_LOG2N (n : Nat) : Fld := ⟨R.HRX_CORR_CTL n, 0, 5⟩
def F.HRX_CORR_CTL_START (n : Nat) : Fld := ⟨R.HRX_CORR_CTL n, 8, 1⟩
def F.HRX_CORR_CTL_DONE (n : Nat) : Fld := ⟨R.HRX_CORR_CTL n, 9, 1⟩
def F.HRX_CORR_VALUE (n : Nat) (i : Nat) : Fld := ⟨R.HRX_CORR n i, 0, 32⟩
def F.HRX_HIST_VALUE (n : Nat) (i : Nat) : Fld := ⟨R.HRX_HIST n i, 0, 32⟩
def F.HRX_BANK_ACTIVE (n : Nat) : Fld := ⟨R.HRX_BANK n, 0, 1⟩
def F.HRX_BANK_COMMIT (n : Nat) : Fld := ⟨R.HRX_BANK n, 1, 1⟩
def F.HRX_FFE_A_W (n : Nat) (i : Nat) : Fld := ⟨R.HRX_FFE_A n i, 0, 9⟩
def F.HRX_H1_A_W (n : Nat) : Fld := ⟨R.HRX_H1_A n, 0, 7⟩
def F.HRX_CTLE_A_W (n : Nat) : Fld := ⟨R.HRX_CTLE_A n, 0, 5⟩
def F.HRX_FFE_B_W (n : Nat) (i : Nat) : Fld := ⟨R.HRX_FFE_B n i, 0, 9⟩
def F.HRX_H1_B_W (n : Nat) : Fld := ⟨R.HRX_H1_B n, 0, 7⟩
def F.HRX_CTLE_B_W (n : Nat) : Fld := ⟨R.HRX_CTLE_B n, 0, 5⟩
def F.HRX_SEQ_CTL_START (n : Nat) : Fld := ⟨R.HRX_SEQ_CTL n, 0, 1⟩
def F.HRX_SEQ_CTL_STOP (n : Nat) : Fld := ⟨R.HRX_SEQ_CTL n, 1, 1⟩
def F.HRX_SEQ_CTL_RESUME (n : Nat) : Fld := ⟨R.HRX_SEQ_CTL n, 2, 1⟩
def F.HRX_SEQ_CTL_SAFE (n : Nat) : Fld := ⟨R.HRX_SEQ_CTL n, 3, 1⟩
def F.HRX_SEQ_CTL_LOADED (n : Nat) : Fld := ⟨R.HRX_SEQ_CTL n, 4, 1⟩
def F.HRX_SEQ_STAT_STATE (n : Nat) : Fld := ⟨R.HRX_SEQ_STAT n, 0, 2⟩
def F.HRX_SEQ_STAT_LOADED (n : Nat) : Fld := ⟨R.HRX_SEQ_STAT n, 2, 1⟩
def F.HRX_SEQ_STAT_IMEM_DIRTY (n : Nat) : Fld := ⟨R.HRX_SEQ_STAT n, 3, 1⟩
def F.HRX_SEQ_STAT_SAFE_PEND (n : Nat) : Fld := ⟨R.HRX_SEQ_STAT n, 4, 1⟩
def F.HRX_SEQ_STAT_REASON (n : Nat) : Fld := ⟨R.HRX_SEQ_STAT n, 5, 3⟩
def F.HRX_SEQ_STAT_START_COUNT (n : Nat) : Fld := ⟨R.HRX_SEQ_STAT n, 16, 16⟩
def F.HRX_SEQ_EVENT_TRAP (n : Nat) : Fld := ⟨R.HRX_SEQ_EVENT n, 0, 1⟩
def F.HRX_SEQ_EVENT_STOPPED (n : Nat) : Fld := ⟨R.HRX_SEQ_EVENT n, 1, 1⟩
def F.HRX_SEQ_EVENT_SAFE_FORCED (n : Nat) : Fld := ⟨R.HRX_SEQ_EVENT n, 2, 1⟩
def F.HRX_SEQ_EVENT_CMD_REFUSED (n : Nat) : Fld := ⟨R.HRX_SEQ_EVENT n, 3, 1⟩
def F.HRX_SEQ_EVENT_NOT_LOADED (n : Nat) : Fld := ⟨R.HRX_SEQ_EVENT n, 4, 1⟩
def F.HRX_SEQ_EVENT_EN_TRAP (n : Nat) : Fld := ⟨R.HRX_SEQ_EVENT_EN n, 0, 1⟩
def F.HRX_SEQ_EVENT_EN_STOPPED (n : Nat) : Fld := ⟨R.HRX_SEQ_EVENT_EN n, 1, 1⟩
def F.HRX_SEQ_EVENT_EN_SAFE_FORCED (n : Nat) : Fld := ⟨R.HRX_SEQ_EVENT_EN n, 2, 1⟩
def F.HRX_SEQ_EVENT_EN_CMD_REFUSED (n : Nat) : Fld := ⟨R.HRX_SEQ_EVENT_EN n, 3, 1⟩
def F.HRX_SEQ_EVENT_EN_NOT_LOADED (n : Nat) : Fld := ⟨R.HRX_SEQ_EVENT_EN n, 4, 1⟩
def F.HRX_SEQ_ENTRY_ADDR (n : Nat) : Fld := ⟨R.HRX_SEQ_ENTRY n, 2, 12⟩
def F.HRX_SEQ_PC_PC (n : Nat) : Fld := ⟨R.HRX_SEQ_PC n, 0, 32⟩
def F.HRX_SEQ_TRAP_CAUSE (n : Nat) : Fld := ⟨R.HRX_SEQ_TRAP n, 0, 8⟩
def F.HRX_SEQ_TRAP_DETAIL (n : Nat) : Fld := ⟨R.HRX_SEQ_TRAP n, 8, 8⟩
def F.HRX_SEQ_TRAP_PC_PC (n : Nat) : Fld := ⟨R.HRX_SEQ_TRAP_PC n, 0, 32⟩
def F.HRX_SEQ_TRAP_VAL_VALUE (n : Nat) : Fld := ⟨R.HRX_SEQ_TRAP_VAL n, 0, 32⟩
def F.HRX_SEQ_EVT_LINES (n : Nat) : Fld := ⟨R.HRX_SEQ_EVT n, 0, 32⟩
def F.HRX_SEQ_EVT_SET_SOFT (n : Nat) : Fld := ⟨R.HRX_SEQ_EVT_SET n, 24, 8⟩
def F.HRX_SEQ_SAFE_CFG_TIMEOUT (n : Nat) : Fld := ⟨R.HRX_SEQ_SAFE_CFG n, 0, 8⟩
def F.HRX_SEQ_IMAGE_TAG (n : Nat) : Fld := ⟨R.HRX_SEQ_IMAGE n, 0, 32⟩
def F.HTX_CTL_INV (n : Nat) : Fld := ⟨R.HTX_CTL n, 0, 1⟩
def F.HTX_CTL_SQUELCH (n : Nat) : Fld := ⟨R.HTX_CTL n, 1, 1⟩
def F.HTX_STATUS_CDR_LOCK (n : Nat) : Fld := ⟨R.HTX_STATUS n, 1, 1⟩
def F.HTX_STATUS_SQUELCHED (n : Nat) : Fld := ⟨R.HTX_STATUS n, 2, 1⟩
def F.HTX_STATUS_XBAR_ERR (n : Nat) : Fld := ⟨R.HTX_STATUS n, 3, 1⟩
def F.HTX_STATUS_ACTIVE_SLOT (n : Nat) : Fld := ⟨R.HTX_STATUS n, 4, 4⟩
def F.HTX_EVENT_CDR_UNLOCK (n : Nat) : Fld := ⟨R.HTX_EVENT n, 2, 1⟩
def F.HTX_EVENT_XBAR_ERR (n : Nat) : Fld := ⟨R.HTX_EVENT n, 3, 1⟩
def F.HTX_EVENT_COMMIT_REFUSED (n : Nat) : Fld := ⟨R.HTX_EVENT n, 4, 1⟩
def F.HTX_EVENT_EN_LOS_ENTER (n : Nat) : Fld := ⟨R.HTX_EVENT_EN n, 0, 1⟩
def F.HTX_EVENT_EN_LOS_EXIT (n : Nat) : Fld := ⟨R.HTX_EVENT_EN n, 1, 1⟩
def F.HTX_EVENT_EN_CDR_UNLOCK (n : Nat) : Fld := ⟨R.HTX_EVENT_EN n, 2, 1⟩
def F.HTX_EVENT_EN_XBAR_ERR (n : Nat) : Fld := ⟨R.HTX_EVENT_EN n, 3, 1⟩
def F.HTX_EVENT_EN_COMMIT_REFUSED (n : Nat) : Fld := ⟨R.HTX_EVENT_EN n, 4, 1⟩
def F.HTX_EVENT_EN_PAT_ERR (n : Nat) : Fld := ⟨R.HTX_EVENT_EN n, 5, 1⟩
def F.HTX_XBAR_SLOT (n : Nat) : Fld := ⟨R.HTX_XBAR n, 0, 4⟩
def F.HTX_PAT_SEL (n : Nat) : Fld := ⟨R.HTX_PAT n, 0, 3⟩
def F.HTX_PAT_EN (n : Nat) : Fld := ⟨R.HTX_PAT n, 3, 1⟩
def F.HTX_PAT_INJECT (n : Nat) : Fld := ⟨R.HTX_PAT n, 4, 1⟩
def F.HTX_BANK_ACTIVE (n : Nat) : Fld := ⟨R.HTX_BANK n, 0, 1⟩
def F.HTX_BANK_COMMIT (n : Nat) : Fld := ⟨R.HTX_BANK n, 1, 1⟩
def F.HTX_PRE2_A_W (n : Nat) : Fld := ⟨R.HTX_PRE2_A n, 0, 5⟩
def F.HTX_PRE1_A_W (n : Nat) : Fld := ⟨R.HTX_PRE1_A n, 0, 6⟩
def F.HTX_POST1_A_W (n : Nat) : Fld := ⟨R.HTX_POST1_A n, 0, 6⟩
def F.HTX_SWING_A_W (n : Nat) : Fld := ⟨R.HTX_SWING_A n, 0, 6⟩
def F.HTX_PRE2_B_W (n : Nat) : Fld := ⟨R.HTX_PRE2_B n, 0, 5⟩
def F.HTX_PRE1_B_W (n : Nat) : Fld := ⟨R.HTX_PRE1_B n, 0, 6⟩
def F.HTX_POST1_B_W (n : Nat) : Fld := ⟨R.HTX_POST1_B n, 0, 6⟩
def F.HTX_SWING_B_W (n : Nat) : Fld := ⟨R.HTX_SWING_B n, 0, 6⟩
def F.HTX_SEQ_CTL_START (n : Nat) : Fld := ⟨R.HTX_SEQ_CTL n, 0, 1⟩
def F.HTX_SEQ_CTL_STOP (n : Nat) : Fld := ⟨R.HTX_SEQ_CTL n, 1, 1⟩
def F.HTX_SEQ_CTL_RESUME (n : Nat) : Fld := ⟨R.HTX_SEQ_CTL n, 2, 1⟩
def F.HTX_SEQ_CTL_SAFE (n : Nat) : Fld := ⟨R.HTX_SEQ_CTL n, 3, 1⟩
def F.HTX_SEQ_CTL_LOADED (n : Nat) : Fld := ⟨R.HTX_SEQ_CTL n, 4, 1⟩
def F.HTX_SEQ_STAT_STATE (n : Nat) : Fld := ⟨R.HTX_SEQ_STAT n, 0, 2⟩
def F.HTX_SEQ_STAT_LOADED (n : Nat) : Fld := ⟨R.HTX_SEQ_STAT n, 2, 1⟩
def F.HTX_SEQ_STAT_IMEM_DIRTY (n : Nat) : Fld := ⟨R.HTX_SEQ_STAT n, 3, 1⟩
def F.HTX_SEQ_STAT_SAFE_PEND (n : Nat) : Fld := ⟨R.HTX_SEQ_STAT n, 4, 1⟩
def F.HTX_SEQ_STAT_REASON (n : Nat) : Fld := ⟨R.HTX_SEQ_STAT n, 5, 3⟩
def F.HTX_SEQ_STAT_START_COUNT (n : Nat) : Fld := ⟨R.HTX_SEQ_STAT n, 16, 16⟩
def F.HTX_SEQ_EVENT_TRAP (n : Nat) : Fld := ⟨R.HTX_SEQ_EVENT n, 0, 1⟩
def F.HTX_SEQ_EVENT_STOPPED (n : Nat) : Fld := ⟨R.HTX_SEQ_EVENT n, 1, 1⟩
def F.HTX_SEQ_EVENT_SAFE_FORCED (n : Nat) : Fld := ⟨R.HTX_SEQ_EVENT n, 2, 1⟩
def F.HTX_SEQ_EVENT_CMD_REFUSED (n : Nat) : Fld := ⟨R.HTX_SEQ_EVENT n, 3, 1⟩
def F.HTX_SEQ_EVENT_NOT_LOADED (n : Nat) : Fld := ⟨R.HTX_SEQ_EVENT n, 4, 1⟩
def F.HTX_SEQ_EVENT_EN_TRAP (n : Nat) : Fld := ⟨R.HTX_SEQ_EVENT_EN n, 0, 1⟩
def F.HTX_SEQ_EVENT_EN_STOPPED (n : Nat) : Fld := ⟨R.HTX_SEQ_EVENT_EN n, 1, 1⟩
def F.HTX_SEQ_EVENT_EN_SAFE_FORCED (n : Nat) : Fld := ⟨R.HTX_SEQ_EVENT_EN n, 2, 1⟩
def F.HTX_SEQ_EVENT_EN_CMD_REFUSED (n : Nat) : Fld := ⟨R.HTX_SEQ_EVENT_EN n, 3, 1⟩
def F.HTX_SEQ_EVENT_EN_NOT_LOADED (n : Nat) : Fld := ⟨R.HTX_SEQ_EVENT_EN n, 4, 1⟩
def F.HTX_SEQ_ENTRY_ADDR (n : Nat) : Fld := ⟨R.HTX_SEQ_ENTRY n, 2, 12⟩
def F.HTX_SEQ_PC_PC (n : Nat) : Fld := ⟨R.HTX_SEQ_PC n, 0, 32⟩
def F.HTX_SEQ_TRAP_CAUSE (n : Nat) : Fld := ⟨R.HTX_SEQ_TRAP n, 0, 8⟩
def F.HTX_SEQ_TRAP_DETAIL (n : Nat) : Fld := ⟨R.HTX_SEQ_TRAP n, 8, 8⟩
def F.HTX_SEQ_TRAP_PC_PC (n : Nat) : Fld := ⟨R.HTX_SEQ_TRAP_PC n, 0, 32⟩
def F.HTX_SEQ_TRAP_VAL_VALUE (n : Nat) : Fld := ⟨R.HTX_SEQ_TRAP_VAL n, 0, 32⟩
def F.HTX_SEQ_EVT_LINES (n : Nat) : Fld := ⟨R.HTX_SEQ_EVT n, 0, 32⟩
def F.HTX_SEQ_EVT_SET_SOFT (n : Nat) : Fld := ⟨R.HTX_SEQ_EVT_SET n, 24, 8⟩
def F.HTX_SEQ_SAFE_CFG_TIMEOUT (n : Nat) : Fld := ⟨R.HTX_SEQ_SAFE_CFG n, 0, 8⟩
def F.HTX_SEQ_IMAGE_TAG (n : Nat) : Fld := ⟨R.HTX_SEQ_IMAGE n, 0, 32⟩
def F.LRX_CTL_INV (n : Nat) : Fld := ⟨R.LRX_CTL n, 0, 1⟩
def F.LRX_CTL_PRECODE (n : Nat) : Fld := ⟨R.LRX_CTL n, 1, 1⟩
def F.LRX_CTL_NLE_MASK (n : Nat) : Fld := ⟨R.LRX_CTL n, 16, 16⟩
def F.LRX_STATUS_AMP_DET (n : Nat) : Fld := ⟨R.LRX_STATUS n, 0, 1⟩
def F.LRX_STATUS_PWR_WEIR (n : Nat) : Fld := ⟨R.LRX_STATUS n, 1, 1⟩
def F.LRX_STATUS_PRESENT (n : Nat) : Fld := ⟨R.LRX_STATUS n, 2, 1⟩
def F.LRX_STATUS_CDR_LOCK (n : Nat) : Fld := ⟨R.LRX_STATUS n, 3, 1⟩
def F.LRX_STATUS_ACQ_STATE (n : Nat) : Fld := ⟨R.LRX_STATUS n, 4, 3⟩
def F.LRX_STATUS_DATA (n : Nat) : Fld := ⟨R.LRX_STATUS n, 7, 1⟩
def F.LRX_STATUS_CAPTURES (n : Nat) : Fld := ⟨R.LRX_STATUS n, 8, 2⟩
def F.LRX_STATUS_SIG_DET (n : Nat) : Fld := ⟨R.LRX_STATUS n, 10, 1⟩
def F.LRX_EVENT_LOS_ENTER (n : Nat) : Fld := ⟨R.LRX_EVENT n, 0, 1⟩
def F.LRX_EVENT_LOS_EXIT (n : Nat) : Fld := ⟨R.LRX_EVENT n, 1, 1⟩
def F.LRX_EVENT_CDR_UNLOCK (n : Nat) : Fld := ⟨R.LRX_EVENT n, 2, 1⟩
def F.LRX_EVENT_CAPTURE (n : Nat) : Fld := ⟨R.LRX_EVENT n, 3, 1⟩
def F.LRX_EVENT_ACQ_FAULT (n : Nat) : Fld := ⟨R.LRX_EVENT n, 4, 1⟩
def F.LRX_EVENT_COMMIT_REFUSED (n : Nat) : Fld := ⟨R.LRX_EVENT n, 5, 1⟩
def F.LRX_EVENT_PAT_ERR (n : Nat) : Fld := ⟨R.LRX_EVENT n, 6, 1⟩
def F.LRX_EVENT_WCAP_DONE (n : Nat) : Fld := ⟨R.LRX_EVENT n, 7, 1⟩
def F.LRX_EVENT_CORR_DONE (n : Nat) : Fld := ⟨R.LRX_EVENT n, 8, 1⟩
def F.LRX_EVENT_EN_LOS_ENTER (n : Nat) : Fld := ⟨R.LRX_EVENT_EN n, 0, 1⟩
def F.LRX_EVENT_EN_LOS_EXIT (n : Nat) : Fld := ⟨R.LRX_EVENT_EN n, 1, 1⟩
def F.LRX_EVENT_EN_CDR_UNLOCK (n : Nat) : Fld := ⟨R.LRX_EVENT_EN n, 2, 1⟩
def F.LRX_EVENT_EN_CAPTURE (n : Nat) : Fld := ⟨R.LRX_EVENT_EN n, 3, 1⟩
def F.LRX_EVENT_EN_ACQ_FAULT (n : Nat) : Fld := ⟨R.LRX_EVENT_EN n, 4, 1⟩
def F.LRX_EVENT_EN_COMMIT_REFUSED (n : Nat) : Fld := ⟨R.LRX_EVENT_EN n, 5, 1⟩
def F.LRX_EVENT_EN_PAT_ERR (n : Nat) : Fld := ⟨R.LRX_EVENT_EN n, 6, 1⟩
def F.LRX_EVENT_EN_WCAP_DONE (n : Nat) : Fld := ⟨R.LRX_EVENT_EN n, 7, 1⟩
def F.LRX_EVENT_EN_CORR_DONE (n : Nat) : Fld := ⟨R.LRX_EVENT_EN n, 8, 1⟩
def F.LRX_ACQ_CFG_ADET_LVL (n : Nat) : Fld := ⟨R.LRX_ACQ_CFG n, 0, 2⟩
def F.LRX_ACQ_CFG_MKR_THR (n : Nat) : Fld := ⟨R.LRX_ACQ_CFG n, 16, 16⟩
def F.LRX_ACQ_CMD_PROG_READY (n : Nat) : Fld := ⟨R.LRX_ACQ_CMD n, 0, 1⟩
def F.LRX_ACQ_CMD_QUALIFIED (n : Nat) : Fld := ⟨R.LRX_ACQ_CMD n, 1, 1⟩
def F.LRX_CDR_CFG_BW (n : Nat) : Fld := ⟨R.LRX_CDR_CFG n, 0, 2⟩
def F.LRX_CDR_STAT_FREQ_OFS (n : Nat) : Fld := ⟨R.LRX_CDR_STAT n, 0, 16⟩
def F.LRX_MKR_PEAK_ALIGNED (n : Nat) : Fld := ⟨R.LRX_MKR n, 0, 16⟩
def F.LRX_MKR_PEAK_OTHER (n : Nat) : Fld := ⟨R.LRX_MKR n, 16, 16⟩
def F.LRX_CAPLOG_COUNT (n : Nat) : Fld := ⟨R.LRX_CAPLOG n, 0, 16⟩
def F.LRX_CAPLOG_RATIO (n : Nat) : Fld := ⟨R.LRX_CAPLOG n, 16, 8⟩
def F.LRX_CORR_CTL_LOG2N (n : Nat) : Fld := ⟨R.LRX_CORR_CTL n, 0, 5⟩
def F.LRX_CORR_CTL_HIST_SRC (n : Nat) : Fld := ⟨R.LRX_CORR_CTL n, 7, 1⟩
def F.LRX_CORR_CTL_START (n : Nat) : Fld := ⟨R.LRX_CORR_CTL n, 8, 1⟩
def F.LRX_CORR_CTL_DONE (n : Nat) : Fld := ⟨R.LRX_CORR_CTL n, 9, 1⟩
def F.LRX_CORR_CTL_PAUSED (n : Nat) : Fld := ⟨R.LRX_CORR_CTL n, 10, 1⟩
def F.LRX_ERRSQ_VALUE (n : Nat) : Fld := ⟨R.LRX_ERRSQ n, 0, 32⟩
def F.LRX_PAT_SEL (n : Nat) : Fld := ⟨R.LRX_PAT n, 0, 2⟩
def F.LRX_PAT_EN (n : Nat) : Fld := ⟨R.LRX_PAT n, 2, 1⟩
def F.LRX_PAT_SYNCED (n : Nat) : Fld := ⟨R.LRX_PAT n, 3, 1⟩
def F.LRX_PAT_ERR_COUNT (n : Nat) : Fld := ⟨R.LRX_PAT_ERR n, 0, 32⟩
def F.LRX_WCAP_CTL_START (n : Nat) : Fld := ⟨R.LRX_WCAP_CTL n, 0, 1⟩
def F.LRX_WCAP_CTL_SRC (n : Nat) : Fld := ⟨R.LRX_WCAP_CTL n, 1, 1⟩
def F.LRX_WCAP_CTL_STRIDE (n : Nat) : Fld := ⟨R.LRX_WCAP_CTL n, 2, 16⟩
def F.LRX_WCAP_LEN_LENGTH (n : Nat) : Fld := ⟨R.LRX_WCAP_LEN n, 0, 23⟩
def F.LRX_WCAP_STAT_BUSY (n : Nat) : Fld := ⟨R.LRX_WCAP_STAT n, 0, 1⟩
def F.LRX_WCAP_STAT_DONE (n : Nat) : Fld := ⟨R.LRX_WCAP_STAT n, 1, 1⟩
def F.LRX_WCAP_STAT_REFUSED (n : Nat) : Fld := ⟨R.LRX_WCAP_STAT n, 2, 1⟩
def F.LRX_WCAP_STAT_ABORTED (n : Nat) : Fld := ⟨R.LRX_WCAP_STAT n, 3, 1⟩
def F.LRX_WCAP_STAT_REASON (n : Nat) : Fld := ⟨R.LRX_WCAP_STAT n, 4, 2⟩
def F.LRX_WCAP_STAT_WRITTEN (n : Nat) : Fld := ⟨R.LRX_WCAP_STAT n, 6, 23⟩
def F.LRX_BANK_ACTIVE (n : Nat) : Fld := ⟨R.LRX_BANK n, 0, 1⟩
def F.LRX_BANK_COMMIT (n : Nat) : Fld := ⟨R.LRX_BANK n, 1, 1⟩
def F.LRX_BANK_AUTOCOPY (n : Nat) : Fld := ⟨R.LRX_BANK n, 2, 1⟩
def F.LRX_CORR_VALUE (n : Nat) (i : Nat) : Fld := ⟨R.LRX_CORR n i, 0, 32⟩
def F.LRX_HIST_VALUE (n : Nat) (i : Nat) : Fld := ⟨R.LRX_HIST n i, 0, 32⟩
def F.LRX_FFE_A_W (n : Nat) (i : Nat) : Fld := ⟨R.LRX_FFE_A n i, 0, 10⟩
def F.LRX_MAIN_A_W (n : Nat) : Fld := ⟨R.LRX_MAIN_A n, 0, 4⟩
def F.LRX_H1_A_W (n : Nat) : Fld := ⟨R.LRX_H1_A n, 0, 8⟩
def F.LRX_CTLE_A_W (n : Nat) : Fld := ⟨R.LRX_CTLE_A n, 0, 5⟩
def F.LRX_LVL_A_L0 (n : Nat) : Fld := ⟨R.LRX_LVL_A n, 0, 8⟩
def F.LRX_LVL_A_L1 (n : Nat) : Fld := ⟨R.LRX_LVL_A n, 8, 8⟩
def F.LRX_LVL_A_L2 (n : Nat) : Fld := ⟨R.LRX_LVL_A n, 16, 8⟩
def F.LRX_LVL_A_L3 (n : Nat) : Fld := ⟨R.LRX_LVL_A n, 24, 8⟩
def F.LRX_NLE_A_LO (n : Nat) (i : Nat) : Fld := ⟨R.LRX_NLE_A n i, 0, 10⟩
def F.LRX_NLE_A_HI (n : Nat) (i : Nat) : Fld := ⟨R.LRX_NLE_A n i, 16, 10⟩
def F.LRX_HSD_A_H0 (n : Nat) : Fld := ⟨R.LRX_HSD_A n, 0, 10⟩
def F.LRX_HSD_A_H1 (n : Nat) : Fld := ⟨R.LRX_HSD_A n, 16, 10⟩
def F.LRX_QREL_A_SD (n : Nat) : Fld := ⟨R.LRX_QREL_A n, 0, 8⟩
def F.LRX_QREL_A_SL (n : Nat) : Fld := ⟨R.LRX_QREL_A n, 8, 8⟩
def F.LRX_FFE_B_W (n : Nat) (i : Nat) : Fld := ⟨R.LRX_FFE_B n i, 0, 10⟩
def F.LRX_MAIN_B_W (n : Nat) : Fld := ⟨R.LRX_MAIN_B n, 0, 4⟩
def F.LRX_H1_B_W (n : Nat) : Fld := ⟨R.LRX_H1_B n, 0, 8⟩
def F.LRX_CTLE_B_W (n : Nat) : Fld := ⟨R.LRX_CTLE_B n, 0, 5⟩
def F.LRX_LVL_B_L0 (n : Nat) : Fld := ⟨R.LRX_LVL_B n, 0, 8⟩
def F.LRX_LVL_B_L1 (n : Nat) : Fld := ⟨R.LRX_LVL_B n, 8, 8⟩
def F.LRX_LVL_B_L2 (n : Nat) : Fld := ⟨R.LRX_LVL_B n, 16, 8⟩
def F.LRX_LVL_B_L3 (n : Nat) : Fld := ⟨R.LRX_LVL_B n, 24, 8⟩
def F.LRX_NLE_B_LO (n : Nat) (i : Nat) : Fld := ⟨R.LRX_NLE_B n i, 0, 10⟩
def F.LRX_NLE_B_HI (n : Nat) (i : Nat) : Fld := ⟨R.LRX_NLE_B n i, 16, 10⟩
def F.LRX_HSD_B_H0 (n : Nat) : Fld := ⟨R.LRX_HSD_B n, 0, 10⟩
def F.LRX_HSD_B_H1 (n : Nat) : Fld := ⟨R.LRX_HSD_B n, 16, 10⟩
def F.LRX_QREL_B_SD (n : Nat) : Fld := ⟨R.LRX_QREL_B n, 0, 8⟩
def F.LRX_QREL_B_SL (n : Nat) : Fld := ⟨R.LRX_QREL_B n, 8, 8⟩
def F.LRX_SEQ_CTL_START (n : Nat) : Fld := ⟨R.LRX_SEQ_CTL n, 0, 1⟩
def F.LRX_SEQ_CTL_STOP (n : Nat) : Fld := ⟨R.LRX_SEQ_CTL n, 1, 1⟩
def F.LRX_SEQ_CTL_RESUME (n : Nat) : Fld := ⟨R.LRX_SEQ_CTL n, 2, 1⟩
def F.LRX_SEQ_CTL_SAFE (n : Nat) : Fld := ⟨R.LRX_SEQ_CTL n, 3, 1⟩
def F.LRX_SEQ_CTL_LOADED (n : Nat) : Fld := ⟨R.LRX_SEQ_CTL n, 4, 1⟩
def F.LRX_SEQ_STAT_STATE (n : Nat) : Fld := ⟨R.LRX_SEQ_STAT n, 0, 2⟩
def F.LRX_SEQ_STAT_LOADED (n : Nat) : Fld := ⟨R.LRX_SEQ_STAT n, 2, 1⟩
def F.LRX_SEQ_STAT_IMEM_DIRTY (n : Nat) : Fld := ⟨R.LRX_SEQ_STAT n, 3, 1⟩
def F.LRX_SEQ_STAT_SAFE_PEND (n : Nat) : Fld := ⟨R.LRX_SEQ_STAT n, 4, 1⟩
def F.LRX_SEQ_STAT_REASON (n : Nat) : Fld := ⟨R.LRX_SEQ_STAT n, 5, 3⟩
def F.LRX_SEQ_STAT_START_COUNT (n : Nat) : Fld := ⟨R.LRX_SEQ_STAT n, 16, 16⟩
def F.LRX_SEQ_EVENT_TRAP (n : Nat) : Fld := ⟨R.LRX_SEQ_EVENT n, 0, 1⟩
def F.LRX_SEQ_EVENT_STOPPED (n : Nat) : Fld := ⟨R.LRX_SEQ_EVENT n, 1, 1⟩
def F.LRX_SEQ_EVENT_SAFE_FORCED (n : Nat) : Fld := ⟨R.LRX_SEQ_EVENT n, 2, 1⟩
def F.LRX_SEQ_EVENT_CMD_REFUSED (n : Nat) : Fld := ⟨R.LRX_SEQ_EVENT n, 3, 1⟩
def F.LRX_SEQ_EVENT_NOT_LOADED (n : Nat) : Fld := ⟨R.LRX_SEQ_EVENT n, 4, 1⟩
def F.LRX_SEQ_EVENT_EN_TRAP (n : Nat) : Fld := ⟨R.LRX_SEQ_EVENT_EN n, 0, 1⟩
def F.LRX_SEQ_EVENT_EN_STOPPED (n : Nat) : Fld := ⟨R.LRX_SEQ_EVENT_EN n, 1, 1⟩
def F.LRX_SEQ_EVENT_EN_SAFE_FORCED (n : Nat) : Fld := ⟨R.LRX_SEQ_EVENT_EN n, 2, 1⟩
def F.LRX_SEQ_EVENT_EN_CMD_REFUSED (n : Nat) : Fld := ⟨R.LRX_SEQ_EVENT_EN n, 3, 1⟩
def F.LRX_SEQ_EVENT_EN_NOT_LOADED (n : Nat) : Fld := ⟨R.LRX_SEQ_EVENT_EN n, 4, 1⟩
def F.LRX_SEQ_ENTRY_ADDR (n : Nat) : Fld := ⟨R.LRX_SEQ_ENTRY n, 2, 12⟩
def F.LRX_SEQ_PC_PC (n : Nat) : Fld := ⟨R.LRX_SEQ_PC n, 0, 32⟩
def F.LRX_SEQ_TRAP_CAUSE (n : Nat) : Fld := ⟨R.LRX_SEQ_TRAP n, 0, 8⟩
def F.LRX_SEQ_TRAP_DETAIL (n : Nat) : Fld := ⟨R.LRX_SEQ_TRAP n, 8, 8⟩
def F.LRX_SEQ_TRAP_PC_PC (n : Nat) : Fld := ⟨R.LRX_SEQ_TRAP_PC n, 0, 32⟩
def F.LRX_SEQ_TRAP_VAL_VALUE (n : Nat) : Fld := ⟨R.LRX_SEQ_TRAP_VAL n, 0, 32⟩
def F.LRX_SEQ_EVT_LINES (n : Nat) : Fld := ⟨R.LRX_SEQ_EVT n, 0, 32⟩
def F.LRX_SEQ_EVT_SET_SOFT (n : Nat) : Fld := ⟨R.LRX_SEQ_EVT_SET n, 24, 8⟩
def F.LRX_SEQ_SAFE_CFG_TIMEOUT (n : Nat) : Fld := ⟨R.LRX_SEQ_SAFE_CFG n, 0, 8⟩
def F.LRX_SEQ_IMAGE_TAG (n : Nat) : Fld := ⟨R.LRX_SEQ_IMAGE n, 0, 32⟩
def F.LRX_TRN_CTL_STATE (n : Nat) : Fld := ⟨R.LRX_TRN_CTL n, 0, 4⟩
def F.LRX_TRN_CTL_RX_READY (n : Nat) : Fld := ⟨R.LRX_TRN_CTL n, 4, 1⟩
def F.LRX_TRN_CTL_HANDOVER (n : Nat) : Fld := ⟨R.LRX_TRN_CTL n, 5, 1⟩
def F.LRX_TRN_CTL_WAKE (n : Nat) : Fld := ⟨R.LRX_TRN_CTL n, 6, 1⟩
def F.LRX_TRN_CTL_ACK_TO (n : Nat) : Fld := ⟨R.LRX_TRN_CTL n, 7, 1⟩
def F.LRX_TRN_CFG_TIMEOUT (n : Nat) : Fld := ⟨R.LRX_TRN_CFG n, 0, 8⟩
def F.LRX_TRN_CFG_WAKE_LEN (n : Nat) : Fld := ⟨R.LRX_TRN_CFG n, 8, 8⟩
def F.LRX_TRN_CFG_WAKE_FIRST (n : Nat) : Fld := ⟨R.LRX_TRN_CFG n, 16, 1⟩
def F.LRX_TRN_CFG_LANE_CHECK (n : Nat) : Fld := ⟨R.LRX_TRN_CFG n, 17, 1⟩
def F.LRX_TRN_CFG_TAG_CHECK (n : Nat) : Fld := ⟨R.LRX_TRN_CFG n, 18, 1⟩
def F.LRX_TRN_CFG_PRECODE_REQ (n : Nat) : Fld := ⟨R.LRX_TRN_CFG n, 19, 1⟩
def F.LRX_TRN_TAG_LOCAL (n : Nat) : Fld := ⟨R.LRX_TRN_TAG n, 0, 8⟩
def F.LRX_TRN_TAG_PEER (n : Nat) : Fld := ⟨R.LRX_TRN_TAG n, 8, 8⟩
def F.LRX_TRN_STAT_TIMER_RUN (n : Nat) : Fld := ⟨R.LRX_TRN_STAT n, 0, 1⟩
def F.LRX_TRN_STAT_PEER_STATE (n : Nat) : Fld := ⟨R.LRX_TRN_STAT n, 1, 4⟩
def F.LRX_TRN_STAT_PEER_OK (n : Nat) : Fld := ⟨R.LRX_TRN_STAT n, 5, 1⟩
def F.LRX_TRN_STAT_MISMATCH (n : Nat) : Fld := ⟨R.LRX_TRN_STAT n, 6, 1⟩
def F.LRX_TRN_STAT_RX_DATA (n : Nat) : Fld := ⟨R.LRX_TRN_STAT n, 7, 1⟩
def F.LRX_TRN_STAT_ELAPSED (n : Nat) : Fld := ⟨R.LRX_TRN_STAT n, 8, 8⟩
def F.LRX_TRN_STAT_COUNTDOWN (n : Nat) : Fld := ⟨R.LRX_TRN_STAT n, 16, 4⟩
def F.LRX_TRN_EVENT_TIMEOUT (n : Nat) : Fld := ⟨R.LRX_TRN_EVENT n, 0, 1⟩
def F.LRX_TRN_EVENT_ID_MISMATCH (n : Nat) : Fld := ⟨R.LRX_TRN_EVENT n, 1, 1⟩
def F.LRX_TRN_EVENT_MODE_MISMATCH (n : Nat) : Fld := ⟨R.LRX_TRN_EVENT n, 2, 1⟩
def F.LRX_TRN_EVENT_HANDOVER_DONE (n : Nat) : Fld := ⟨R.LRX_TRN_EVENT n, 3, 1⟩
def F.LRX_TRN_EVENT_PEER_HANDOVER (n : Nat) : Fld := ⟨R.LRX_TRN_EVENT n, 4, 1⟩
def F.LRX_TRN_EVENT_HANDOVER_REFUSED (n : Nat) : Fld := ⟨R.LRX_TRN_EVENT n, 5, 1⟩
def F.LRX_TRN_EVENT_ACK_TIMEOUT (n : Nat) : Fld := ⟨R.LRX_TRN_EVENT n, 6, 1⟩
def F.LRX_TRN_EVENT_RX_FRAME (n : Nat) : Fld := ⟨R.LRX_TRN_EVENT n, 7, 1⟩
def F.LRX_TRN_EVENT_EN_TIMEOUT (n : Nat) : Fld := ⟨R.LRX_TRN_EVENT_EN n, 0, 1⟩
def F.LRX_TRN_EVENT_EN_ID_MISMATCH (n : Nat) : Fld := ⟨R.LRX_TRN_EVENT_EN n, 1, 1⟩
def F.LRX_TRN_EVENT_EN_MODE_MISMATCH (n : Nat) : Fld := ⟨R.LRX_TRN_EVENT_EN n, 2, 1⟩
def F.LRX_TRN_EVENT_EN_HANDOVER_DONE (n : Nat) : Fld := ⟨R.LRX_TRN_EVENT_EN n, 3, 1⟩
def F.LRX_TRN_EVENT_EN_PEER_HANDOVER (n : Nat) : Fld := ⟨R.LRX_TRN_EVENT_EN n, 4, 1⟩
def F.LRX_TRN_EVENT_EN_HANDOVER_REFUSED (n : Nat) : Fld := ⟨R.LRX_TRN_EVENT_EN n, 5, 1⟩
def F.LRX_TRN_EVENT_EN_ACK_TIMEOUT (n : Nat) : Fld := ⟨R.LRX_TRN_EVENT_EN n, 6, 1⟩
def F.LRX_TRN_EVENT_EN_RX_FRAME (n : Nat) : Fld := ⟨R.LRX_TRN_EVENT_EN n, 7, 1⟩
def F.LRX_TRN_TXREQ_COEF_SEL (n : Nat) : Fld := ⟨R.LRX_TRN_TXREQ n, 0, 4⟩
def F.LRX_TRN_TXREQ_COEF_REQ (n : Nat) : Fld := ⟨R.LRX_TRN_TXREQ n, 4, 2⟩
def F.LRX_TRN_TXREQ_PRESET (n : Nat) : Fld := ⟨R.LRX_TRN_TXREQ n, 6, 2⟩
def F.LRX_TRN_TXREQ_REQ_SEQ (n : Nat) : Fld := ⟨R.LRX_TRN_TXREQ n, 8, 8⟩
def F.LRX_TRN_TXRSP_ACK_SEQ (n : Nat) : Fld := ⟨R.LRX_TRN_TXRSP n, 0, 8⟩
def F.LRX_TRN_TXRSP_COEF_STS (n : Nat) : Fld := ⟨R.LRX_TRN_TXRSP n, 8, 2⟩
def F.LRX_TRN_TXRSP_QUALITY (n : Nat) : Fld := ⟨R.LRX_TRN_TXRSP n, 10, 8⟩
def F.LRX_TRN_RXF_WORD (n : Nat) (i : Nat) : Fld := ⟨R.LRX_TRN_RXF n i, 0, 32⟩
def F.LRX_TRN_GOOD_COUNT (n : Nat) : Fld := ⟨R.LRX_TRN_GOOD n, 0, 16⟩
def F.LRX_TRN_CRC_ERR_COUNT (n : Nat) : Fld := ⟨R.LRX_TRN_CRC_ERR n, 0, 16⟩
def F.LRX_TRN_ID_ERR_COUNT (n : Nat) : Fld := ⟨R.LRX_TRN_ID_ERR n, 0, 16⟩
def F.LRX_CW_CTL_RESTART (n : Nat) : Fld := ⟨R.LRX_CW_CTL n, 0, 1⟩
def F.LRX_CW_STAT_LOCKED (n : Nat) : Fld := ⟨R.LRX_CW_STAT n, 0, 1⟩
def F.LRX_CW_STAT_HUNTING (n : Nat) : Fld := ⟨R.LRX_CW_STAT n, 1, 1⟩
def F.LRX_CW_STAT_OFFSET (n : Nat) : Fld := ⟨R.LRX_CW_STAT n, 2, 9⟩
def F.LRX_CW_STAT_ZERO_COUNT (n : Nat) : Fld := ⟨R.LRX_CW_STAT n, 11, 7⟩
def F.LRX_CW_EVENT_LOCK (n : Nat) : Fld := ⟨R.LRX_CW_EVENT n, 0, 1⟩
def F.LRX_CW_EVENT_LOCK_LOST (n : Nat) : Fld := ⟨R.LRX_CW_EVENT n, 1, 1⟩
def F.LRX_CW_EVENT_UNCORR (n : Nat) : Fld := ⟨R.LRX_CW_EVENT n, 2, 1⟩
def F.LRX_CW_EVENT_EN_LOCK (n : Nat) : Fld := ⟨R.LRX_CW_EVENT_EN n, 0, 1⟩
def F.LRX_CW_EVENT_EN_LOCK_LOST (n : Nat) : Fld := ⟨R.LRX_CW_EVENT_EN n, 1, 1⟩
def F.LRX_CW_EVENT_EN_UNCORR (n : Nat) : Fld := ⟨R.LRX_CW_EVENT_EN n, 2, 1⟩
def F.LRX_CW_TOTAL_COUNT (n : Nat) : Fld := ⟨R.LRX_CW_TOTAL n, 0, 32⟩
def F.LRX_CW_CORR_COUNT (n : Nat) : Fld := ⟨R.LRX_CW_CORR n, 0, 32⟩
def F.LRX_CW_BITS_COUNT (n : Nat) : Fld := ⟨R.LRX_CW_BITS n, 0, 32⟩
def F.LRX_CW_FAIL_COUNT (n : Nat) : Fld := ⟨R.LRX_CW_FAIL n, 0, 32⟩
def F.LRX_CW_LOSSES_COUNT (n : Nat) : Fld := ⟨R.LRX_CW_LOSSES n, 0, 16⟩
def F.LRX_RS_CTL_LAYOUT (n : Nat) (i : Nat) : Fld := ⟨R.LRX_RS_CTL n i, 0, 3⟩
def F.LRX_RS_CTL_SPAN (n : Nat) (i : Nat) : Fld := ⟨R.LRX_RS_CTL n i, 3, 2⟩
def F.LRX_RS_STAT_ACTIVE (n : Nat) (i : Nat) : Fld := ⟨R.LRX_RS_STAT n i, 0, 1⟩
def F.LRX_RS_STAT_ALIGNED (n : Nat) (i : Nat) : Fld := ⟨R.LRX_RS_STAT n i, 1, 1⟩
def F.LRX_RS_STAT_NO_ALIGN (n : Nat) (i : Nat) : Fld := ⟨R.LRX_RS_STAT n i, 2, 1⟩
def F.LRX_RS_CW_COUNT (n : Nat) (i : Nat) : Fld := ⟨R.LRX_RS_CW n i, 0, 32⟩
def F.LRX_RS_SYM_COUNT (n : Nat) (i : Nat) : Fld := ⟨R.LRX_RS_SYM n i, 0, 32⟩
def F.LRX_RS_UNCORR_COUNT (n : Nat) (i : Nat) : Fld := ⟨R.LRX_RS_UNCORR n i, 0, 32⟩
def F.LRX_RS_MAXSYM_MAX (n : Nat) (i : Nat) : Fld := ⟨R.LRX_RS_MAXSYM n i, 0, 4⟩
def F.LTX_CTL_INV (n : Nat) : Fld := ⟨R.LTX_CTL n, 0, 1⟩
def F.LTX_CTL_PRECODE (n : Nat) : Fld := ⟨R.LTX_CTL n, 1, 1⟩
def F.LTX_CTL_SRC (n : Nat) : Fld := ⟨R.LTX_CTL n, 2, 2⟩
def F.LTX_CTL_SQUELCH (n : Nat) : Fld := ⟨R.LTX_CTL n, 4, 1⟩
def F.LTX_CTL_FORCE_OFF (n : Nat) : Fld := ⟨R.LTX_CTL n, 5, 1⟩
def F.LTX_STATUS_STATE (n : Nat) : Fld := ⟨R.LTX_STATUS n, 0, 3⟩
def F.LTX_STATUS_SYNTH_LOCK (n : Nat) : Fld := ⟨R.LTX_STATUS n, 3, 1⟩
def F.LTX_STATUS_FREQ_SRC (n : Nat) : Fld := ⟨R.LTX_STATUS n, 4, 2⟩
def F.LTX_STATUS_PRECODE_ON (n : Nat) : Fld := ⟨R.LTX_STATUS n, 6, 1⟩
def F.LTX_STATUS_CUR_WEIGHT (n : Nat) : Fld := ⟨R.LTX_STATUS n, 8, 8⟩
def F.LTX_STATUS_STEP (n : Nat) : Fld := ⟨R.LTX_STATUS n, 16, 7⟩
def F.LTX_EVENT_RAMP_UP_DONE (n : Nat) : Fld := ⟨R.LTX_EVENT n, 0, 1⟩
def F.LTX_EVENT_RAMP_DOWN_DONE (n : Nat) : Fld := ⟨R.LTX_EVENT n, 1, 1⟩
def F.LTX_EVENT_FAULT_RAMP (n : Nat) : Fld := ⟨R.LTX_EVENT n, 2, 1⟩
def F.LTX_EVENT_RELIGHT_REFUSED (n : Nat) : Fld := ⟨R.LTX_EVENT n, 3, 1⟩
def F.LTX_EVENT_COMMIT_REFUSED (n : Nat) : Fld := ⟨R.LTX_EVENT n, 4, 1⟩
def F.LTX_EVENT_SYNTH_UNLOCK (n : Nat) : Fld := ⟨R.LTX_EVENT n, 5, 1⟩
def F.LTX_EVENT_EN_RAMP_UP_DONE (n : Nat) : Fld := ⟨R.LTX_EVENT_EN n, 0, 1⟩
def F.LTX_EVENT_EN_RAMP_DOWN_DONE (n : Nat) : Fld := ⟨R.LTX_EVENT_EN n, 1, 1⟩
def F.LTX_EVENT_EN_FAULT_RAMP (n : Nat) : Fld := ⟨R.LTX_EVENT_EN n, 2, 1⟩
def F.LTX_EVENT_EN_RELIGHT_REFUSED (n : Nat) : Fld := ⟨R.LTX_EVENT_EN n, 3, 1⟩
def F.LTX_EVENT_EN_COMMIT_REFUSED (n : Nat) : Fld := ⟨R.LTX_EVENT_EN n, 4, 1⟩
def F.LTX_EVENT_EN_SYNTH_UNLOCK (n : Nat) : Fld := ⟨R.LTX_EVENT_EN n, 5, 1⟩
def F.LTX_RAMP_UP (n : Nat) : Fld := ⟨R.LTX_RAMP n, 0, 13⟩
def F.LTX_RAMP_DOWN (n : Nat) : Fld := ⟨R.LTX_RAMP n, 16, 13⟩
def F.LTX_RAMP_SHAPE (n : Nat) : Fld := ⟨R.LTX_RAMP n, 29, 1⟩
def F.LTX_BIAS_TARGET (n : Nat) : Fld := ⟨R.LTX_BIAS n, 0, 12⟩
def F.LTX_BIAS_FLOOR (n : Nat) : Fld := ⟨R.LTX_BIAS n, 16, 12⟩
def F.LTX_BIAS_STAT_NOW (n : Nat) : Fld := ⟨R.LTX_BIAS_STAT n, 0, 12⟩
def F.LTX_FAULT_CAUSE_BIAS_TRIP (n : Nat) : Fld := ⟨R.LTX_FAULT_CAUSE n, 0, 1⟩
def F.LTX_FAULT_CAUSE_SYNTH (n : Nat) : Fld := ⟨R.LTX_FAULT_CAUSE n, 1, 1⟩
def F.LTX_FAULT_CAUSE_FORCE_OFF (n : Nat) : Fld := ⟨R.LTX_FAULT_CAUSE n, 2, 1⟩
def F.LTX_FAULT_CAUSE_THERMAL (n : Nat) : Fld := ⟨R.LTX_FAULT_CAUSE n, 3, 1⟩
def F.LTX_FAULT_CAUSE_DEVICE (n : Nat) : Fld := ⟨R.LTX_FAULT_CAUSE n, 4, 1⟩
def F.LTX_PAT_SEL (n : Nat) : Fld := ⟨R.LTX_PAT n, 0, 2⟩
def F.LTX_PAT_EN (n : Nat) : Fld := ⟨R.LTX_PAT n, 2, 1⟩
def F.LTX_PAT_INJECT (n : Nat) : Fld := ⟨R.LTX_PAT n, 3, 1⟩
def F.LTX_BANK_ACTIVE (n : Nat) : Fld := ⟨R.LTX_BANK n, 0, 1⟩
def F.LTX_BANK_COMMIT (n : Nat) : Fld := ⟨R.LTX_BANK n, 1, 1⟩
def F.LTX_BANK_AUTOCOPY (n : Nat) : Fld := ⟨R.LTX_BANK n, 2, 1⟩
def F.LTX_TAP_A_W (n : Nat) (i : Nat) : Fld := ⟨R.LTX_TAP_A n i, 0, 8⟩
def F.LTX_CUR_A_W (n : Nat) : Fld := ⟨R.LTX_CUR_A n, 0, 2⟩
def F.LTX_SWING_A_W (n : Nat) : Fld := ⟨R.LTX_SWING_A n, 0, 7⟩
def F.LTX_PD_A_P0 (n : Nat) (i : Nat) : Fld := ⟨R.LTX_PD_A n i, 0, 8⟩
def F.LTX_PD_A_P1 (n : Nat) (i : Nat) : Fld := ⟨R.LTX_PD_A n i, 8, 8⟩
def F.LTX_PD_A_P2 (n : Nat) (i : Nat) : Fld := ⟨R.LTX_PD_A n i, 16, 8⟩
def F.LTX_PD_A_P3 (n : Nat) (i : Nat) : Fld := ⟨R.LTX_PD_A n i, 24, 8⟩
def F.LTX_TAP_B_W (n : Nat) (i : Nat) : Fld := ⟨R.LTX_TAP_B n i, 0, 8⟩
def F.LTX_CUR_B_W (n : Nat) : Fld := ⟨R.LTX_CUR_B n, 0, 2⟩
def F.LTX_SWING_B_W (n : Nat) : Fld := ⟨R.LTX_SWING_B n, 0, 7⟩
def F.LTX_PD_B_P0 (n : Nat) (i : Nat) : Fld := ⟨R.LTX_PD_B n i, 0, 8⟩
def F.LTX_PD_B_P1 (n : Nat) (i : Nat) : Fld := ⟨R.LTX_PD_B n i, 8, 8⟩
def F.LTX_PD_B_P2 (n : Nat) (i : Nat) : Fld := ⟨R.LTX_PD_B n i, 16, 8⟩
def F.LTX_PD_B_P3 (n : Nat) (i : Nat) : Fld := ⟨R.LTX_PD_B n i, 24, 8⟩
def F.LTX_SEQ_CTL_START (n : Nat) : Fld := ⟨R.LTX_SEQ_CTL n, 0, 1⟩
def F.LTX_SEQ_CTL_STOP (n : Nat) : Fld := ⟨R.LTX_SEQ_CTL n, 1, 1⟩
def F.LTX_SEQ_CTL_RESUME (n : Nat) : Fld := ⟨R.LTX_SEQ_CTL n, 2, 1⟩
def F.LTX_SEQ_CTL_SAFE (n : Nat) : Fld := ⟨R.LTX_SEQ_CTL n, 3, 1⟩
def F.LTX_SEQ_CTL_LOADED (n : Nat) : Fld := ⟨R.LTX_SEQ_CTL n, 4, 1⟩
def F.LTX_SEQ_STAT_STATE (n : Nat) : Fld := ⟨R.LTX_SEQ_STAT n, 0, 2⟩
def F.LTX_SEQ_STAT_LOADED (n : Nat) : Fld := ⟨R.LTX_SEQ_STAT n, 2, 1⟩
def F.LTX_SEQ_STAT_IMEM_DIRTY (n : Nat) : Fld := ⟨R.LTX_SEQ_STAT n, 3, 1⟩
def F.LTX_SEQ_STAT_SAFE_PEND (n : Nat) : Fld := ⟨R.LTX_SEQ_STAT n, 4, 1⟩
def F.LTX_SEQ_STAT_REASON (n : Nat) : Fld := ⟨R.LTX_SEQ_STAT n, 5, 3⟩
def F.LTX_SEQ_STAT_START_COUNT (n : Nat) : Fld := ⟨R.LTX_SEQ_STAT n, 16, 16⟩
def F.LTX_SEQ_EVENT_TRAP (n : Nat) : Fld := ⟨R.LTX_SEQ_EVENT n, 0, 1⟩
def F.LTX_SEQ_EVENT_STOPPED (n : Nat) : Fld := ⟨R.LTX_SEQ_EVENT n, 1, 1⟩
def F.LTX_SEQ_EVENT_SAFE_FORCED (n : Nat) : Fld := ⟨R.LTX_SEQ_EVENT n, 2, 1⟩
def F.LTX_SEQ_EVENT_CMD_REFUSED (n : Nat) : Fld := ⟨R.LTX_SEQ_EVENT n, 3, 1⟩
def F.LTX_SEQ_EVENT_NOT_LOADED (n : Nat) : Fld := ⟨R.LTX_SEQ_EVENT n, 4, 1⟩
def F.LTX_SEQ_EVENT_EN_TRAP (n : Nat) : Fld := ⟨R.LTX_SEQ_EVENT_EN n, 0, 1⟩
def F.LTX_SEQ_EVENT_EN_STOPPED (n : Nat) : Fld := ⟨R.LTX_SEQ_EVENT_EN n, 1, 1⟩
def F.LTX_SEQ_EVENT_EN_SAFE_FORCED (n : Nat) : Fld := ⟨R.LTX_SEQ_EVENT_EN n, 2, 1⟩
def F.LTX_SEQ_EVENT_EN_CMD_REFUSED (n : Nat) : Fld := ⟨R.LTX_SEQ_EVENT_EN n, 3, 1⟩
def F.LTX_SEQ_EVENT_EN_NOT_LOADED (n : Nat) : Fld := ⟨R.LTX_SEQ_EVENT_EN n, 4, 1⟩
def F.LTX_SEQ_ENTRY_ADDR (n : Nat) : Fld := ⟨R.LTX_SEQ_ENTRY n, 2, 12⟩
def F.LTX_SEQ_PC_PC (n : Nat) : Fld := ⟨R.LTX_SEQ_PC n, 0, 32⟩
def F.LTX_SEQ_TRAP_CAUSE (n : Nat) : Fld := ⟨R.LTX_SEQ_TRAP n, 0, 8⟩
def F.LTX_SEQ_TRAP_DETAIL (n : Nat) : Fld := ⟨R.LTX_SEQ_TRAP n, 8, 8⟩
def F.LTX_SEQ_TRAP_PC_PC (n : Nat) : Fld := ⟨R.LTX_SEQ_TRAP_PC n, 0, 32⟩
def F.LTX_SEQ_TRAP_VAL_VALUE (n : Nat) : Fld := ⟨R.LTX_SEQ_TRAP_VAL n, 0, 32⟩
def F.LTX_SEQ_EVT_LINES (n : Nat) : Fld := ⟨R.LTX_SEQ_EVT n, 0, 32⟩
def F.LTX_SEQ_EVT_SET_SOFT (n : Nat) : Fld := ⟨R.LTX_SEQ_EVT_SET n, 24, 8⟩
def F.LTX_SEQ_SAFE_CFG_TIMEOUT (n : Nat) : Fld := ⟨R.LTX_SEQ_SAFE_CFG n, 0, 8⟩
def F.LTX_SEQ_IMAGE_TAG (n : Nat) : Fld := ⟨R.LTX_SEQ_IMAGE n, 0, 32⟩
def F.LTX_CW_INJ_WORD (n : Nat) : Fld := ⟨R.LTX_CW_INJ n, 0, 2⟩
def F.LTX_CW_INJ_NBITS (n : Nat) : Fld := ⟨R.LTX_CW_INJ n, 2, 2⟩
def F.LTX_CW_INJ_GO (n : Nat) : Fld := ⟨R.LTX_CW_INJ n, 4, 1⟩
def F.LTX_CW_INJ_PENDING (n : Nat) : Fld := ⟨R.LTX_CW_INJ n, 5, 1⟩
def F.LTX_CW_INJ_REFUSED (n : Nat) : Fld := ⟨R.LTX_CW_INJ n, 6, 1⟩
def F.LTX_RS_CTL_LAYOUT (n : Nat) (i : Nat) : Fld := ⟨R.LTX_RS_CTL n i, 0, 3⟩
def F.LTX_RS_CTL_SPAN (n : Nat) (i : Nat) : Fld := ⟨R.LTX_RS_CTL n i, 3, 2⟩
def F.LTX_RS_STAT_ACTIVE (n : Nat) (i : Nat) : Fld := ⟨R.LTX_RS_STAT n i, 0, 1⟩
def F.LTX_RS_STAT_ALIGNED (n : Nat) (i : Nat) : Fld := ⟨R.LTX_RS_STAT n i, 1, 1⟩
def F.LTX_RS_STAT_NO_ALIGN (n : Nat) (i : Nat) : Fld := ⟨R.LTX_RS_STAT n i, 2, 1⟩
def F.LTX_RS_CW_COUNT (n : Nat) (i : Nat) : Fld := ⟨R.LTX_RS_CW n i, 0, 32⟩
def F.LTX_RS_SYM_COUNT (n : Nat) (i : Nat) : Fld := ⟨R.LTX_RS_SYM n i, 0, 32⟩
def F.LTX_RS_UNCORR_COUNT (n : Nat) (i : Nat) : Fld := ⟨R.LTX_RS_UNCORR n i, 0, 32⟩
def F.LTX_RS_MAXSYM_MAX (n : Nat) (i : Nat) : Fld := ⟨R.LTX_RS_MAXSYM n i, 0, 4⟩

end Sys2Proof.Machine
end

