-- ==== Sys2Proof/Config.lean ====
section
/-! DEFINITION. Sys2Proof/Config.lean: the values the spec leaves open. Each is an opaque constant: no proof sees
a value of it, so a statement holds whatever it is. The first argument of most of them is the counter
`State.free`, which the step reads and advances, so that every use is a fresh value. -/

namespace Sys2Proof.Config

/-- The phase at which a lane's PRBS31 fill generator starts (R53, R96, R458): the spec gives the pattern and not its phase. -/
opaque fillPhase : Nat → BitVec 31

/-- The phase at which a lane's pattern generator starts a selected PRBS (R59, R127). -/
opaque patternPhase : Nat → Nat → BitVec 31

/-- The level index at a place of the 65,535 symbols of SSPRQ, which the spec takes from IEEE 802.3 (R59). -/
opaque ssprq : Nat → BitVec 2

/-- Whether a value that falls between two codes, or on a decision threshold, goes upward (R81, R84, R85, R100): the spec gives no rounding there. -/
opaque upward : Int → Bool

/-- Which bit of a symbol PAT.INJECT inverts, the most significant where true (R128): the spec says one bit. -/
opaque injectHigh : Nat → Bool

/-- The nominal level of a decision of a host receive lane, in units of its ADC code (R60): the spec names it and gives no value. -/
opaque hostLevel : Nat → Int

/-- The register of a pattern's generator that a checker finds from the levels it has received, 0 while it finds none (R59, R74): the spec gives no criterion. -/
opaque checkerFinds : Nat → List Nat → Nat

/-- Whether a checker that has compared a number of levels of a pattern and found a number of bit errors stays synchronised (R59, R74). -/
opaque checkerKeeps : Nat → Nat → Nat → Bool

/-- Whether a host code monitor of a layout and a span finds alignment markers in the bits it has read, by slot (R150, R151): the layouts are IEEE 802.3's. -/
opaque rsMarkers : Nat → Nat → List (Nat × BitVec 256) → Bool

/-- The symbol errors of a codeword since the alignment, by its place, none where it is not correctable (R150, R151): code and symbol distribution are IEEE 802.3's. -/
opaque rsErrors : Nat → Nat → List (Nat × BitVec 256) → Nat → Option (Fin 16)

/-- The choices that lead to the columns of the check matrices (R337): the spec gives their weights only. -/
opaque columnPick : Nat → Nat

/-- A byte of boot ROM (R430): the spec fixes the ROM's tasks and not its contents. -/
opaque romByte : Nat → BitVec 8

/-- Where the boot ROM's trap stubs stand (R242): the spec gives their code and not their place. -/
opaque romStub : Nat

/-- Random values of LIFE.NONCE (R425). -/
opaque nonce : Nat → Nat → BitVec 32

/-- The outcome the spec leaves open between two limits (R65, R75, R98, R461). -/
opaque openBand : Nat → Bool

/-- A value that the spec calls undefined or does not state, for the use counted by the first argument. -/
opaque freeWord : Nat → BitVec 32

/-- The FRO trim code held in OTP (R310, R334). -/
opaque froCode : BitVec 10

/-- The trim that one FRO measurement leads to, from the present code and the measured error (R310). -/
opaque froStep : Nat → BitVec 32 → BitVec 10

/-- The SHA-384 hash of the Vangoft key held in boot ROM (R423): the spec gives no value. -/
opaque vangoftDigest : BitVec 384

/-- Its 48 bytes. -/
def vangoftHash : List (BitVec 8) := (List.range 48).map fun i => vangoftDigest.extractLsb' (8 * i) 8

/-- The identity burned in OTP at production test (R414): TESTPROG, LOT_LO, LOT_HI, DIE. -/
opaque ident : Nat → BitVec 32

/-- A byte of the OTP shadow outside the fields that the spec gives an offset and the model holds (R418, R430): trims, identity and test data. -/
opaque otpByte : Nat → BitVec 8

/-- The address of the boot ROM's own default handler, which it puts into the secure vector table (chapter Lane programs, the supervisor and mailboxes). -/
opaque romHandler : BitVec 32

end Sys2Proof.Config
end

