-- ==== Sys2Proof/Machine/InnerCode.lean ====
section
/-! DEFINITION. Sys2Proof/Machine/InnerCode.lean: the inner codes to the bit (R130 to R133, R137, R138, R141), Gray mapping (R59), precoding
(R109), the training CRC and fill (R158, R159) and the marker (R155). -/

namespace Sys2Proof.Machine

/-! ## Gray mapping and precoding -/

/-- Gray mapping of a bit pair, most significant first: 00 to 0, 01 to 1, 11 to 2, 10 to 3 (R59). -/
def gray (hi lo : Bool) : Nat := if hi then (if lo then 2 else 3) else b2n lo

/-- The bit pair of a level index. -/
def ungray (g : Nat) : Bool × Bool := (2 ≤ g, g == 1 || g == 2)

/-- The precoder (R109): P(j) = (G(j) - P(j-1)) mod 4, from a starting P. -/
def precodeFrom : Nat → List Nat → List Nat
  | _, [] => []
  | p, g :: gs => (g + 4 - p % 4) % 4 :: precodeFrom ((g + 4 - p % 4) % 4) gs

/-- Its inverse (R109, R136): G(j) = (P(j) + P(j-1)) mod 4. -/
def unprecodeFrom : Nat → List Nat → List Nat
  | _, [] => []
  | p, q :: qs => (q + p) % 4 :: unprecodeFrom q qs

/-- Polarity inversion of a level index (R104 text, step 5 of the signal flow). -/
def invert (on : Bool) (s : Nat) : Nat := if on then 3 - s else s

/-- The level indices of `n` bit pairs of a number, bit 2i the most significant bit of symbol i (R72). -/
def levelsOf (n v : Nat) : List Nat := (List.range n).map fun i => gray (bitAt v (2 * i)) (bitAt v (2 * i + 1))

/-- The number whose bit pairs are level indices, the inverse of `levelsOf`. -/
def bitsOfLevels : List Nat → Nat
  | [] => 0
  | g :: gs => b2n (ungray g).1 + 2 * b2n (ungray g).2 + 4 * bitsOfLevels gs

/-! ## The codes (R130, R131) -/

/-- Parity bits of a code: Protected (deep = false) 8, Deep-reach 16. -/
def parityBits (deep : Bool) : Nat := if deep then 16 else 8

/-- Codeword length. -/
def codeLen (deep : Bool) : Nat := 128 + parityBits deep

/-- The generator below its leading term. -/
def genLow (deep : Bool) : Nat := if deep then 0x6F63 else 0x1D

/-- The parity inversion mask F. -/
def parityMask (deep : Bool) : Nat := if deep then 0xFFFF else 0xFF

/-- One step of the serial divider: the next bit, most significant first. -/
def divStep (deep : Bool) (s : Nat) (b : Bool) : Nat :=
  let p := parityBits deep
  let s' := 2 * s % 2 ^ p
  if b != bitAt s (p - 1) then s' ^^^ genLow deep else s'

/-- Bits `n - 1 … 0` of a number divided in: the remainder of v(x) x^P by g(x). -/
def divBits (deep : Bool) (v : Nat) : Nat → Nat → Nat
  | 0, s => s
  | n + 1, s => divBits deep v n (divStep deep s (bitAt v n))

/-- The parity of a 128-bit message as sent (R131). -/
def parityOf (deep : Bool) (m : Nat) : Nat := divBits deep m 128 0 ^^^ parityMask deep

/-- The codeword of a message: c(i + P) = m(i) (R131). -/
def encodeWord (deep : Bool) (m : Nat) : Nat := m % 2 ^ 128 * 2 ^ parityBits deep + parityOf deep m

/-- The syndrome column h(p) = x^p mod g(x) (R137). -/
def column (deep : Bool) : Nat → Nat
  | 0 => 1
  | p + 1 => divStep deep (column deep p) false

/-- The columns of every position. -/
def columns (deep : Bool) : List Nat := (List.range (codeLen deep - 1)).foldl (fun l _ => divStep deep (l.headD 1) false :: l) [1] |>.reverse

/-- The syndrome S = (r(x) mod g(x)) XOR F of a received word (R137). -/
def syndrome (deep : Bool) (r : Nat) : Nat :=
  let p := parityBits deep
  divBits deep (r / 2 ^ p) 128 0 ^^^ (r % 2 ^ p) ^^^ parityMask deep

/-! ## Decoding (R138, R139, R141) -/

/-- The `k` least reliable positions: ascending reliability, and among equals the earlier in transmission, that is the higher position, first. -/
def leastReliable (deep : Bool) (rel : List Nat) (k : Nat) : List Nat :=
  let ps := (List.range (codeLen deep)).reverse
  ((List.range 8).flatMap fun r => ps.filter fun p => rel.getD p 0 == r).take k

/-- The positions of trial u: LRP k where bit k of u is 1. -/
def trialFlips (lrp : List Nat) (u : Nat) : List Nat := (List.range lrp.length).filterMap fun k => if bitAt u k then lrp[k]? else none

/-- The error positions that algebraic decoding finds for a syndrome: none, one, or in Deep-reach two. -/
def errorsOf (deep : Bool) (cols : List Nat) (s : Nat) : Option (List Nat) :=
  if s = 0 then some []
  else
    match cols.findIdx? (· == s) with
    | some p => some [p]
    | none =>
      if deep then
        (List.range cols.length).findSome? fun p =>
          match (cols.take p).findIdx? (· == s ^^^ cols.getD p 0) with
          | some q => some [p, q]
          | none => none
      else none

/-- A position flipped in a set of flipped positions: a second flip undoes the first. -/
def toggle (l : List Nat) (p : Nat) : List Nat := if l.contains p then l.erase p else p :: l

/-- The result of a trial: the positions where it differs from the hard word, and its cost (R138). -/
def trial (deep : Bool) (cols lrp rel : List Nat) (s0 u : Nat) : Option (Nat × List Nat) :=
  let f := trialFlips lrp u
  match errorsOf deep cols (f.foldl (fun s p => s ^^^ cols.getD p 0) s0) with
  | none => none
  | some e =>
    let d := e.foldl toggle f
    some (d.foldl (fun c p => c + rel.getD p 0 + 1) 0, d)

/-- The better of two results: the lower cost, between equals the earlier trial. -/
def better (a b : Option (Nat × List Nat)) : Option (Nat × List Nat) :=
  match a, b with
  | none, b => b
  | a, none => a
  | some x, some y => if y.1 < x.1 then some y else some x

/-- The least reliable positions a decoder tries (R138), fewer at throttle levels 3 and 4 (R373). -/
def lrpCount (deep : Bool) (level : Nat) : Nat := if 3 ≤ level then (if deep then 4 else 2) else if deep then 6 else 4

/-- The Chase decoder (R138) over `k` least reliable positions: the positions it flips in the hard word, none for an uncorrectable word. -/
def decodeWord (deep : Bool) (k r : Nat) (rel : List Nat) : Option (List Nat) :=
  let cols := columns deep
  let lrp := leastReliable deep rel k
  let s0 := syndrome deep r
  ((List.range (2 ^ k)).foldl (fun b u => better b (trial deep cols lrp rel s0 u)) none).map (·.2)

/-- A word with a set of positions flipped. -/
def flipAll (r : Nat) (l : List Nat) : Nat := l.foldl (fun v p => v ^^^ 2 ^ p) r

/-- The zero-syndrome test of the lock engine (R141). -/
def zeroSyndrome (deep : Bool) (r : Nat) (rel : List Nat) : Bool :=
  let cols := columns deep
  let lrp := leastReliable deep rel 4
  let s0 := syndrome deep r
  (List.range 16).any fun u =>
    let s := (trialFlips lrp u).foldl (fun s p => s ^^^ cols.getD p 0) s0
    s == 0 || deep && cols.contains s

/-! ## Groups (R132, R133) -/

/-- The message of codeword w of a group whose 512 payload bits are `v`: symbol 4q + w carries m(127 - 2q) and m(126 - 2q). -/
def messageOf (v w : Nat) : Nat :=
  (List.range 64).foldl (fun m q =>
    m + b2n (bitAt v (2 * (4 * q + w))) * 2 ^ (127 - 2 * q) + b2n (bitAt v (2 * (4 * q + w) + 1)) * 2 ^ (126 - 2 * q)) 0

/-- The payload bits of a group whose codewords carry the given messages. -/
def payloadOf (ms : List Nat) : Nat :=
  (List.range 256).foldl (fun v i =>
    let m := ms.getD (i % 4) 0
    v + b2n (bitAt m (127 - 2 * (i / 4))) * 2 ^ (2 * i) + b2n (bitAt m (126 - 2 * (i / 4))) * 2 ^ (2 * i + 1)) 0

/-- The level indices of a group of four codewords (R132): symbol 4q + w carries c(n-1-2q) and c(n-2-2q) of codeword w. -/
def groupLevels (deep : Bool) (cs : List Nat) : List Nat :=
  let n := codeLen deep
  (List.range (2 * n)).map fun j =>
    let c := cs.getD (j % 4) 0
    gray (bitAt c (n - 1 - 2 * (j / 4))) (bitAt c (n - 2 - 2 * (j / 4)))

/-- The codewords of a group's payload. -/
def groupWords (deep : Bool) (v : Nat) : List Nat := (List.range 4).map fun w => encodeWord deep (messageOf v w)

/-! ## Transmit shaping (R104, R105) -/

/-- Round half away from zero of a quotient by a positive number. -/
def roundDiv (a : Int) (d : Nat) : Int := if 0 ≤ a then (2 * a + d) / (2 * d) else -((-2 * a + d) / (2 * d))

/-- v(t) of R104 in units of 1/768: L(s)/3 + PD/256. -/
def shaped (pd : Nat → Int) (a b c : Nat) : Int := (2 * (b : Int) - 3) * 256 + 3 * pd (16 * a + 4 * b + c)

/-- The DAC code at index t of a run of physical levels (R104): taps in units of 1/128, cursor position `cur`. -/
def dacCode (tap : Nat → Int) (pd : Nat → Int) (cur : Nat) (l : List Nat) (t : Nat) : Int :=
  let v (k : Nat) : Int := shaped pd (l.getD (k - 1) 0) (l.getD k 0) (l.getD (k + 1) 0)
  clampInt (-128) 127 (roundDiv (127 * (List.range 8).foldl (fun a i => a + tap i * v (t + cur - i)) (0 : Int)) 98304)

/-! ## Training frames (R155, R158, R159) -/

/-- Marker level indices (R155). -/
def marker : List Nat :=
  [3, 0, 3, 3, 1, 2, 0, 0, 3, 1, 2, 2, 0, 3, 1, 0, 2, 1, 3, 0, 0, 2, 1, 3, 1, 1, 2, 0, 3, 2, 1, 3] ++
  [0, 3, 2, 1, 0, 1, 3, 2, 2, 0, 3, 1, 0, 2, 1, 3, 1, 2, 0, 2, 3, 1, 0, 2, 2, 1, 3, 0, 0, 1, 2, 3]

/-- The CRC of a control field, bits n - 1 down to 0 (R158). -/
def crcBits (v : Nat) : Nat → Nat → Nat
  | 0, c => c
  | n + 1, c =>
    let c' := 2 * c % 65536
    crcBits v n (if bitAt v n != bitAt c 15 then c' ^^^ 0x1021 else c')

/-- The CRC of R158. -/
def crcOf (v : Nat) : Nat := crcBits v 128 0xFFFF

/-- The fill seed of a line lane (R159). -/
def fillSeed (n : Nat) : Nat := 0x0A55 + 0x100 * n

/-- One step of the PRBS13 of R159. -/
def fillStep (s : Nat) : Nat := 2 * s % 8192 + b2n (((bitAt s 12 != bitAt s 11) != bitAt s 10) != bitAt s 0)

end Sys2Proof.Machine
end

