-- ==== Sys2Proof/Machine/Equaliser.lean ====
section
/-! DEFINITION. Sys2Proof/Machine/Equaliser.lean: the equalisers and detectors of a line receive lane, symbol by symbol (R79 to R82), and its statistics
(R84, R85). Values stand exactly, in units of 2^-24 of full scale; a code is 2^17 such units. -/

namespace Sys2Proof.Machine

/-- The coefficients in use: those of the active bank with the limits of R102, and what the mode and the throttle level make of them (R80, R81, R373). -/
structure Coefs where
  ffe    : List Int
  main   : Nat
  /-- The weight of each NLE term, and the terms in use. -/
  nle    : List Int
  on     : Nat
  /-- Decision levels L0 to L3 in codes. -/
  levels : List Int
  /-- The weight of a symbol's own level, and that of the previous one, in 1/256: 256 and H1, or h0 and h1. -/
  own    : Int
  post   : Int
  /-- The 4-state sequence detector decides. -/
  deep   : Bool
  qSl    : Nat
  qSd    : Nat
  deriving DecidableEq, Repr

def Coefs.init : Coefs := { ffe := [], main := 0, nle := [], on := 0, levels := [], own := 256, post := 0, deep := false, qSl := 0, qSd := 0 }

/-- What the mode and the throttle level allow of them follows at once (R80, R373); the rest is of one bank. -/
def Coefs.follow (c new : Coefs) : Coefs := { c with on := new.on, deep := new.deep }

/-- A detected symbol: its level index, the reliabilities of its most and least significant bit, and whether its lane was in loss of signal (R38). -/
structure Soft where
  g   : Nat
  hi  : Nat
  lo  : Nat
  los : Bool
  deriving DecidableEq, Repr

/-- The symbol in place of none. -/
def Soft.zero : Soft := ⟨0, 0, 0, false⟩

/-- A decision: the symbol, its error, the decision before it, the equalised value, and how many newer samples have come. -/
structure Det where
  soft : Soft
  err  : Int
  last : Nat
  y    : Int
  age  : Nat
  deriving DecidableEq, Repr

/-! ## Equalisation (R79, R80) -/

/-- The sum of products of two lists. -/
def dot : List Int → List Int → Int
  | a :: as, b :: bs => a * b + dot as bs
  | _, _ => 0

/-- T_k in code², of samples newest first with `age` samples newer than x(t) (R79). -/
def nleTerm (xs : List Int) (age k : Nat) : Int :=
  let a := xs.getD (age - 1 + k / 4) 0
  let b := xs.getD (age - 1 + k % 4) 0
  if k / 4 ≤ k % 4 then a * b else a * (b.natAbs : Int)

/-- NLE term k may act in a mode: none in Transparent, the diagonal in Protected, all in Deep-reach (R80); throttle level 3 takes the sign-preserving ones of
Deep-reach, level 4 all (R373). -/
def nleAllowed (mode level k : Nat) : Bool :=
  if mode = 3 then decide (level < 4) && k / 4 == k % 4
  else if mode = 4 then decide (level < 3) || level == 3 && decide (k / 4 ≤ k % 4)
  else false

/-- Samples by which the equaliser's output lags its input: the most pre-cursor taps. -/
def lookAhead : Nat := 8

/-- y(t), saturated to -1.000 … +0.992 (R79). -/
def equalised (c : Coefs) (xs : List Int) : Int :=
  clampInt (-16777216) 16646144
    (512 * dot c.ffe (xs.drop (lookAhead - c.main)) + dot c.nle ((List.range 16).map fun k => if bitAt c.on k then nleTerm xs lookAhead k else 0))

/-- Samples after the one that a host lane's FFE weighs with its cursor tap (R60). -/
def hostAhead : Nat := 3

/-- y of a host lane before its DFE, in units of 2^-17 code (R60). -/
def hostEqualised (c : Coefs) (xs : List Int) : Int := 1024 * dot c.ffe xs

/-- The code of an equalised value. -/
def codeY (y : Int) : Int :=
  let f := y / 131072
  if y % 131072 ≠ 0 ∧ Config.upward y then min (f + 1) 127 else f

/-! ## The slicer (R81, R82) -/

/-- The level of a decision in codes, and its place in y. -/
def Coefs.level (c : Coefs) (g : Nat) : Int := c.levels.getD g 0
def Coefs.place (c : Coefs) (g : Nat) : Int := 512 * c.own * c.level g

/-- The decided sample: y less the previous decision's share. -/
def corrected (c : Coefs) (y : Int) (last : Nat) : Int := y - 512 * c.post * c.level last

/-- Twice the distance of a value above the threshold between levels i and j. -/
def over2 (c : Coefs) (v : Int) (i j : Nat) : Int := 2 * v - (c.place i + c.place j)

/-- The value lies in the region above that threshold. -/
def isAbove (c : Coefs) (v : Int) (i j : Nat) : Bool :=
  decide (0 < over2 c v i j) || over2 c v i j == 0 && Config.upward v

/-- The level index whose region contains the value. -/
def region (c : Coefs) (v : Int) : Nat :=
  if isAbove c v 2 3 then 3 else if isAbove c v 1 2 then 2 else if isAbove c v 0 1 then 1 else 0

/-- A slicer reliability from twice a distance. -/
def slicerRel (c : Coefs) (d : Int) : Nat := min 7 (d.natAbs / (262144 * max c.qSl 1))

/-- The slicer's symbol of a corrected sample. -/
def slicerSymbol (c : Coefs) (v : Int) : Soft :=
  let a := over2 c v 0 1
  let b := over2 c v 2 3
  ⟨region c v, slicerRel c (over2 c v 1 2), slicerRel c (if a.natAbs ≤ b.natAbs then a else b), false⟩

/-- The slicer's decision on a sample, from the previous one. -/
def sliceOne (c : Coefs) (last : Nat) (y : Int) (age : Nat) : Det :=
  let v := corrected c y last
  let x := slicerSymbol c v
  ⟨x, v - c.place x.g, last, y, age⟩

/-- Samples decided by the slicer one after another, from the previous decision. -/
def sliceAll (c : Coefs) : Nat → List Int → List Det
  | _, [] => []
  | last, y :: ys =>
    let d := sliceOne c last y (lookAhead + ys.length)
    d :: sliceAll c d.soft.g ys

/-! ## The sequence detector (R81, R82) -/

/-- The least of a list, 0 of none. -/
def least : List Int → Int
  | [] => 0
  | a :: l => l.foldl min a

/-- The branch metric of a transition (R81), in units of 2^-48. -/
def branchMetric (c : Coefs) (y : Int) (s s' : Nat) : Int :=
  let d := y - c.place s' - 512 * c.post * c.level s
  d * d

/-- The path metrics of the four states after a sample. -/
def pathStep (c : Coefs) (met : List Int) (y : Int) : List Int :=
  (List.range 4).map fun s' => least ((List.range 4).map fun s => met.getD s 0 + branchMetric c y s s')

/-- The best metric of the samples that follow a state. -/
def pathAhead (c : Coefs) (ys : List Int) : List Int :=
  ys.foldr (fun y b => (List.range 4).map fun s => least ((List.range 4).map fun s' => branchMetric c y s s' + b.getD s' 0)) [0, 0, 0, 0]

/-- The first place of the least value. -/
def leastAt (l : List Int) : Nat := (List.range l.length).foldl (fun b i => if l.getD i 0 < l.getD b 0 then i else b) 0

/-- A detector reliability from a difference of path metrics. -/
def detectorRel (c : Coefs) (d : Int) : Nat := min 7 (d.natAbs / (17179869184 * max c.qSd 1))

/-- The survivor's symbol from the best metrics of the paths through each level. -/
def survivor (c : Coefs) (tot : List Int) : Soft :=
  let g := leastAt tot
  let other (same : Nat → Bool) : Int := least (((List.range 4).filter fun k => !same k).map fun k => tot.getD k 0) - tot.getD g 0
  ⟨g, detectorRel c (other fun k => (ungray k).1 == (ungray g).1), detectorRel c (other fun k => (ungray k).2 == (ungray g).2), false⟩

/-- Symbols of decision depth. -/
def detectorDepth : Nat := 128

/-- The decision on the oldest of the waiting samples, and the path metrics up to it. -/
def detect (c : Coefs) (met : List Int) (last : Nat) (y : Int) (ys : List Int) : Det × List Int :=
  let f := pathStep c met y
  let b := pathAhead c ys
  let x := survivor c ((List.range 4).map fun g => f.getD g 0 + b.getD g 0)
  (⟨x, y - 512 * c.post * c.level last - c.place x.g, last, y, lookAhead + ys.length⟩, f.map fun v => v - least f)

/-! ## Statistics (R84, R85) -/

/-- The error saturated to ±255 codes. -/
def satErr (e : Int) : Int := clampInt (-33423360) 33423360 e

/-- T_k in codes, rounded to the nearest integer (R84). -/
def termCode (v : Int) : Int :=
  let f := v / 128
  let r := v % 128
  if 64 < r ∨ r = 64 ∧ Config.upward v then f + 1 else f

/-- What each of the 66 correlators multiplies the error by, for a decision (R84). -/
def corrWith (c : Coefs) (xs : List Int) (d : Det) : List Int :=
  (List.range 48).map (fun i => xs.getD (d.age - c.main + i) 0) ++ [c.level d.last] ++
    (List.range 16).map (fun k => termCode (nleTerm xs d.age k)) ++ [c.level d.soft.g]

/-- Lists added element by element, the first as long as the second. -/
def addLists : List Int → List Int → List Int
  | as, [] => as
  | [], b :: bs => b :: addLists [] bs
  | a :: as, b :: bs => (a + b) :: addLists as bs

/-! ## Soft values on their way (R136) -/

/-- Polarity and, when it is on, inverse precoding of a detected symbol, from the last received index and its smaller reliability; with those of this symbol. -/
def receiveSoft (inv pre : Bool) (prev : Nat × Nat) (x : Soft) : Soft × (Nat × Nat) :=
  let p := invert inv x.g
  let r := min x.hi x.lo
  if pre then (⟨(p + prev.1) % 4, min r prev.2, min r prev.2, x.los⟩, (p, r)) else (⟨p, x.hi, x.lo, x.los⟩, (p, r))

end Sys2Proof.Machine
end

