-- ==== Sys2Proof/Machine/Hsiao.lean ====
section
/-! DEFINITION. Sys2Proof/Machine/Hsiao.lean: the error-correcting codes of the memories (R337, R338). The spec gives the weights of the check matrix's columns and not the columns:
which column stands at which data bit is left open (log entry 92). -/

namespace Sys2Proof.Machine

/-- The class of an ECC word (R338): a correctable word names the bit to invert, data bits first. -/
inductive Ecc where
  | clean
  | ce (bit : Nat) (syn : BitVec 8)
  | ue (syn : BitVec 8)
  | poison
  deriving DecidableEq, Repr

/-- The ones of a number of `n` bits. -/
def weight : Nat → Nat → Nat
  | 0, _ => 0
  | n + 1, v => v % 2 + weight n (v / 2)

/-- Distinct members of a list, the open choice deciding which. -/
def pickColumns : Nat → Nat → List Nat → List Nat
  | 0, _, _ => []
  | k + 1, i, l =>
    let j := Config.columnPick i % l.length
    l.getD j 0 :: pickColumns k (i + 1) (l.eraseIdx j)

/-- Data bits of an ECC word: 32 of the lane memories, 64 of the others. -/
def dataBits (lane : Bool) : Nat := if lane then 32 else 64

/-- The columns of the data bits: of weight 3 in (39,32), of weight 3 or 5 in (72,64). -/
def dataColumns (lane : Bool) : List Nat :=
  if lane then pickColumns 32 64 ((List.range 128).filter fun v => weight 7 v == 3)
  else pickColumns 64 0 ((List.range 256).filter fun v => weight 8 v == 3 || weight 8 v == 5)

/-- The syndrome of a word by the bits of it that have flipped; check bit i has the column 2^i. -/
def syndromeOf (lane : Bool) (flips : Nat) : Nat :=
  (List.range (dataBits lane)).foldl (fun v i => if flips.testBit i then v ^^^ (dataColumns lane).getD i 0 else v) 0 ^^^ flips / 2 ^ dataBits lane

/-- The bit whose column a syndrome of odd weight is. -/
def columnOf (lane : Bool) (v : Nat) : Option Nat :=
  match (List.range (if lane then 7 else 8)).find? fun i => 2 ^ i == v with
  | some i => some (dataBits lane + i)
  | none => (dataColumns lane).findIdx? (· == v)

/-- The class of a word by the bits of it that have flipped (R338). Every column has odd weight, so no syndrome of even weight names one. -/
def eccClass (lane : Bool) (flips : Nat) : Ecc :=
  if flips = 0 then .clean
  else
    let v := syndromeOf lane flips
    if v = 0 then .clean
    else if v = 0x7F then .poison
    else if weight 8 v % 2 = 0 then .ue (BitVec.ofNat 8 v)
    else
      match columnOf lane v with
      | some b => .ce b (BitVec.ofNat 8 v)
      | none => .ue (BitVec.ofNat 8 v)

/-- The flips of a poisoned word: its check bits XOR 0x7F. -/
def poisonFlips (lane : Bool) : Nat := 0x7F * 2 ^ dataBits lane

end Sys2Proof.Machine
end

