-- ==== Sys2Proof/Machine/RegReset.lean ====
section
/-! DEFINITION. Sys2Proof/Machine/RegReset.lean: where a local address lies in the register map (R430, R432, R433), the register
row that serves it, its reset value, and the domain whose reset gives it that value (R434). -/

namespace Sys2Proof.Machine

/-- The block of the lane of sequencer index `n` (R6). -/
def laneBlock (n : Nat) : Block := if n < 8 then .lrx else if n < 16 then .ltx else if n < 32 then .hrx else .htx

/-- The device block of 4 KiB number `i` from 0x0400_0000 on (R432). -/
def deviceBlock : Nat → Option Block
  | 0 => some .ident | 1 => some .life | 2 => some .mode | 3 => some .clk | 4 => some .pwr | 5 => some .time
  | 6 => some .memx | 7 => some .bist | 8 => some .therm | 9 => some .mon | 10 => some .perf | 11 => some .mbox
  | 12 => some .irq | 13 => some .dma | 14 => some .pcie | 15 => some .smp | 16 => some .tow | 17 => some .fault
  | 18 => some .cal | 19 => some .flash | 20 => some .fab | _ => none

/-- A register block address: the block, the sequencer index for a lane block, the offset. -/
structure Place where
  blk : Block
  n   : Nat
  off : Nat
  deriving DecidableEq, Repr

/-- The place of a local address in a register block, if it lies in one (R430). -/
def locate (a : Nat) : Option Place :=
  if 0x04100000 ≤ a ∧ a < 0x04130000 then
    some ⟨laneBlock ((a - 0x04100000) / 0x1000), (a - 0x04100000) / 0x1000, a % 0x1000⟩
  else if 0x04000000 ≤ a ∧ a < 0x04015000 then
    match deviceBlock ((a - 0x04000000) / 0x1000) with
    | some b => some ⟨b, 0, a % 0x1000⟩
    | none => none
  else none

/-- Does a table row serve an offset. -/
def RegSpec.serves (r : RegSpec) (o : Nat) : Bool :=
  if r.count ≤ 1 then o == r.off
  else decide (r.off ≤ o) && (o - r.off) % r.stride == 0 && decide ((o - r.off) / r.stride < r.count)

/-- The index of an offset in its row. -/
def RegSpec.index (r : RegSpec) (o : Nat) : Nat := if r.count ≤ 1 then 0 else (o - r.off) / r.stride

/-- The row that serves a place, none for an offset the owning chapter does not list (R431). -/
def rowAt (p : Place) : Option RegSpec := (blockRegs p.blk).find? fun r => r.serves p.off

/-- The word whose fields hold the given values. -/
def fieldsWord (fs : List FieldSpec) : Nat := fs.foldl (fun w f => w + f.reset * 2 ^ f.lo) 0

/-- The sensor a lane uses by R182: LRXn and LTXn TS(n/2), HRXk and HTXk TS(6 + k/4). -/
def refSensor (n : Nat) : Nat := if n < 16 then n % 8 / 2 else 6 + n % 16 / 4

/-- Reset values that depend on the lane or the counter: the crossbar maps reset to the lane's number (R69, R76), the
reference sensor to that of R182 (R191), and the secure bit of a user counter's filter is fixed 0 (R398). -/
def resetAdjust (p : Place) (w : Nat) : Nat :=
  match p.blk with
  | .hrx | .htx => if p.off = 0x010 then p.n % 16 else if p.off = 0x004 then w + 16 * (p.n % 16) else w
  | .cal => if 0x100 ≤ p.off ∧ p.off < 0x1C0 then w - 15 * 4096 + refSensor ((p.off - 0x100) / 4) * 4096 else w
  | .perf => if 0x30C ≤ p.off ∧ p.off < 0x500 ∧ p.off % 0x20 = 0x0C then w - 0x100 else w
  | _ => w

/-- The reset value of the register at a local address: what an address without a register reads as is 0 (R431). -/
def regReset (a : Nat) : Word :=
  match locate a with
  | none => 0#32
  | some p =>
    match rowAt p with
    | none => 0#32
    | some r => BitVec.ofNat 32 (resetAdjust p (fieldsWord r.fields))

/-- The reset domains of R434. `state` marks what no reset of a register file reaches (domain status). -/
inductive ResetDomain where
  | aon | retained | sup | supHeld | lane (n : Nat) | host (c : Nat) | pcie | tow | mon | state
  deriving DecidableEq, Repr

/-- The domain of a register by R432 and R433, with the exceptions of the owning chapters. -/
def resetDomain (a : Nat) : ResetDomain :=
  match locate a with
  | none => .sup
  | some p =>
    match p.blk with
    | .mode =>
      if p.off = 0x010 ∨ p.off = 0x014 then .aon
      else if 0x020 ≤ p.off ∧ p.off ≤ 0x02C then .retained
      else if p.off = 0x030 then .state
      else if p.off = 0x004 ∨ p.off = 0x008 ∨ p.off = 0x01C then .supHeld
      else .sup
    | .clk => if p.off = 0x000 ∨ p.off = 0x004 ∨ p.off = 0x010 then .supHeld else .sup
    | .pwr => if p.off = 0x000 ∨ p.off = 0x004 then .state else if p.off ≤ 0x014 then .aon else .sup
    | .time => if p.off = 0x028 then .aon else .sup
    | .memx => if 0x188 ≤ p.off ∧ p.off < 0x1A0 ∨ p.off = 0x1A4 ∨ 0x200 ≤ p.off then .retained else .sup
    | .bist => if p.off < 0x040 then .retained else .sup
    | .mon =>
      if 0x100 ≤ p.off ∧ p.off < 0x700 ∧ (p.off % 0x40 = 0x08 ∨ p.off % 0x40 = 0x0C ∨ 0x20 ≤ p.off % 0x40)
        ∨ 0x040 ≤ p.off ∧ p.off < 0x04C then .mon
      else .supHeld
    | .mbox | .irq => .retained
    | .dma => .pcie
    | .pcie => if p.off = 0x004 then .sup else .pcie
    | .tow => if p.off = 0x010 then .aon else .tow
    | .fault => if 0x024 ≤ p.off ∧ p.off < 0x040 then .supHeld else .sup
    | .lrx | .ltx => .lane (p.n % 8)
    | .hrx | .htx => if p.off = 0x010 then .retained else .host (p.n % 16 / 4)
    | _ => .sup

end Sys2Proof.Machine
end

