-- ==== Sys2Proof/Machine/Sparse.lean ====
section
/-! DEFINITION. Sys2Proof/Machine/Sparse.lean: sparse tables, the form in which State holds memory and
the register file: pairs of key and value with keys strictly rising and no pair equal to the value
an unlisted key reads as. -/

namespace Sys2Proof.Machine

/-- The value at a key: the listed one, else what an unlisted key reads as. -/
def tabGet {α : Type} (dflt : Nat → α) : List (Nat × α) → Nat → α
  | [], a => dflt a
  | (b, v) :: m, a => if a = b then v else tabGet dflt m a

/-- A pair put before the first pair of a greater key. -/
def tabInsert {α : Type} : List (Nat × α) → Nat → α → List (Nat × α)
  | [], a, v => [(a, v)]
  | (b, w) :: m, a, v => if a < b then (a, v) :: (b, w) :: m else (b, w) :: tabInsert m a v

/-- The table with one key changed: its pair removed, and a new pair put in its place unless the value is the unlisted one. The canonical form is kept. -/
def tabPut {α : Type} [DecidableEq α] (dflt : Nat → α) (m : List (Nat × α)) (a : Nat) (v : α) : List (Nat × α) :=
  if v = dflt a then m.filter fun c => c.1 != a else tabInsert (m.filter fun c => c.1 != a) a v

/-- The table with every key for which `p` holds back at its unlisted value. -/
def tabClear {α : Type} (p : Nat → Bool) (m : List (Nat × α)) : List (Nat × α) :=
  m.filter fun c => !p c.1

/-- The keys rise strictly and stay above `lo`, and no pair holds the unlisted value. -/
def tabWfFrom {α : Type} [DecidableEq α] (dflt : Nat → α) : Nat → List (Nat × α) → Bool
  | _, [] => true
  | lo, (b, v) :: m => decide (lo ≤ b) && decide (v ≠ dflt b) && tabWfFrom dflt (b + 1) m

/-- The canonical form of a table. -/
def tabWf {α : Type} [DecidableEq α] (dflt : Nat → α) (m : List (Nat × α)) : Bool :=
  tabWfFrom dflt 0 m

/-- `n` table entries written from `a` on. -/
def tabPutAll {α : Type} [DecidableEq α] (dflt : Nat → α) (m : List (Nat × α)) (a : Nat) :
    List α → List (Nat × α)
  | [] => m
  | v :: vs => tabPutAll dflt (tabPut dflt m a v) (a + 1) vs

end Sys2Proof.Machine
end

