-- ==== Sys2Proof/Machine/State.lean ====
section
/-! DEFINITION. Sys2Proof/Machine/State.lean: all the state of the block. Every register of R430 to R433 is a word
of one sparse table, keyed by its local address; the state the spec gives the block beside its registers
(queues, stores, running operations, settings in force) stands in the structures below. -/

namespace Sys2Proof.Machine

/-- Why a command stops the block. No rule of the spec stops it: the only fault is an operand that no
sender can form. -/
inductive Fault where
  /-- Raised by a command whose list operand has not the length or the range that the spec's own
  description of the event gives (Sys2Proof/WellFormed.lean says which). Safe: the block stops
  where no such event exists. -/
  | malformed
  deriving DecidableEq, Repr

/-- Why a command has no meaning. -/
inductive Refusal where
  /-- Raised by an arm of `exec` that has no meaning yet. Safe. -/
  | notModelled (mnemonic : String)
  deriving DecidableEq, Repr

/-- What the block sends out of itself, newest first in `State.out`. The record is the model's own; no
register shows it. -/
inductive Out where
  /-- The answer to an access of a master: 0 accepted, else the error code of R271. -/
  | response (m : Master) (err : Nat) (data : Nat)
  /-- Data bytes returned on a port, after the answer's error code. -/
  | data (m : Master) (err : Nat) (bytes : List (BitVec 8))
  /-- An MSI-X message (R261). -/
  | msix (v : Nat)
  /-- Symbols that a line or host transmit lane sends (R111, R134). -/
  | symbols (lane : Nat) (levels : List Nat)
  /-- A barge-length of PRBS31 in place of a barge (R53). -/
  | fill (output : Nat) (bits : BitVec 512)
  /-- The sideband of a barge that an output has taken (R38, R148). -/
  | barge (output : Nat) (side : BitVec 32)
  /-- A training frame: control field, CRC and fill seed (R154). -/
  | frame (lane : Nat) (ctrl : BitVec 128) (crc : BitVec 16) (seed : Nat)
  /-- DAC codes of a line transmit lane (R104), and its peak-to-peak amplitude between codes -127 and +127 in units of 2^-33 mVppd (R107). -/
  | codes (lane : Nat) (codes : List Int) (swing : Nat)
  /-- The output of a host transmit lane's FIR in units of 1/64 of its level step of 2 (R66), with its amplitude in mVppd (R67). -/
  | drive (lane : Nat) (fir : List Int) (swing : Nat)
  /-- The CTLE peaking of a receive lane in units of 0.5 dB, as a bank that becomes active sets it (R60, R78, R102). -/
  | peaking (lane code : Nat)
  /-- A barge time of the pattern generator (R127). -/
  | pattern (lane sel : Nat)
  /-- A pattern generator's symbol with one bit inverted (R128). -/
  | injected (lane : Nat)
  /-- A towpath packet out of a port, and its code groups (R283, R288). -/
  | packet (port : Nat) (p : TowPkt) (line : List (BitVec 10))
  /-- An ordered set out of a port, and its code groups: SOF, SYNC or wake (R283, R284, R286, R298). -/
  | ordered (port : Nat) (name : String) (arg : Nat) (line : List (BitVec 10))
  /-- Raw bits out of a port under test (R287). -/
  | testBits (port : Nat) (bits : List Bool)
  /-- The serial management port's attention, as an in-band interrupt (R276). -/
  | ibi (source : Nat)
  /-- A refusal of a serial transfer by NACK (R277, R279, R281). -/
  | nack
  /-- A DMA request to the host: write, host address, length, and the bytes written (R272, R274). -/
  | hostDma (write : Bool) (addr len : Nat) (bytes : List (BitVec 8))
  /-- A Completer Abort reported through AER with its header: write, BAR, offset (R271). -/
  | aer (write : Bool) (bar off : Nat)
  /-- A flash transaction: opcode, address bytes and address, data on four lines, bytes read, and the bytes written (R301). -/
  | flash (opcode abytes addr : Nat) (quad : Bool) (len : Nat) (bytes : List (BitVec 8))
  /-- The read of an image from the flash: address, address bytes, and the read mode of FLASH.SFDP (R300). -/
  | flashImage (addr abytes mode : Nat)
  deriving DecidableEq, Repr

/-- A barge: 512 data bits and 32 sideband bits (R38). One of line bits in the coded modes carries the soft values of its symbols (R82), any other none; one in the
input pound of a host lane carries the bits of its slot only. -/
structure Barge where
  data : BitVec 512
  side : BitVec 32
  soft : List Soft
  deriving DecidableEq, Repr

/-- The parts of a mode transition that no register shows (R16 to R19, R26, R464). -/
structure Trans where
  source   : Nat
  start    : Nat
  fixlat   : Bool
  rate     : Bool
  degraded : Bool
  /-- The stop phase: traffic is stopped and LTX lanes ramp down (R16, R122). -/
  ramping  : Bool
  /-- The lanes that the transition still waits for, by sequencer index. -/
  waitFor  : List Nat
  /-- The lanes cleared out of service during it, which it neither waits for nor counts (R26). -/
  late     : List Nat
  waitSrc  : Nat
  /-- BASE and LOOP of Diagnostic that the lanes run: those in MODE.DIAG.BASE_NOW and LOOP_NOW from the moment the lanes start (R11); of a
  transition into Diagnostic that starts as Dormant is reached, those of its start, which the wake hands on. -/
  base     : Nat
  loop     : Nat
  deriving DecidableEq, Repr

/-- The way into and out of Dormant (R22, R322, R329). -/
inductive DormPhase where
  | awake | asleep | waking
  deriving DecidableEq, Repr

structure Dorm where
  phase   : DormPhase
  /-- The timebase is stopped: from the entry to the restart (R327 to R329). -/
  stopped : Bool
  /-- Timebase and SLOW_CAL.PERIOD saved at entry. -/
  t0      : Nat
  period  : Nat
  /-- A wake that arrived during the entry (R22). -/
  pending : Bool
  /-- The level of FAULT_N held through Dormant (R411). -/
  pin     : Bool
  deriving DecidableEq, Repr

/-- Windows of one clock judged in a row: inside its tolerance, outside it (R309). -/
structure Judge where
  good : Nat
  bad  : Nat
  deriving DecidableEq, Repr

/-- Clocks, beside their registers (R309, R310, R314, R331). -/
structure Clocks where
  ref  : Judge
  root : Judge
  slow : Judge
  /-- The FRO trim code that measurements have led to; none while the OTP code is in use. -/
  trim : Option (BitVec 10)
  /-- Bit b: the dividers of gate b are stopped. -/
  deep : BitVec 10
  /-- Clock at the last accepted 1PPS edge. -/
  ppsAt : Option Nat
  deriving DecidableEq, Repr

/-- Pins and straps (R30, R299). -/
structure Pins where
  frmSel  : Bool
  bootSel : Nat
  addr    : Nat
  deriving DecidableEq, Repr

/-- The receive chain of a lane (R60, R79 to R82, R136): its last samples newest first; the equalised values that wait for the sequence detector, oldest first, and its
path metrics; the last decision; the symbols still in the chain that come before the first data symbol; the last index before inverse precoding with its
smaller reliability; precoding as last seen; the symbols of the barge being assembled, and its arrival stamp; the coefficients that equalise and those that decide, each those
of the barge in hand (R61, R88). -/
structure Rx where
  xs    : List Int
  ys    : List Int
  met   : List Int
  last  : Nat
  skip  : Nat
  prev  : Nat × Nat
  preOn : Bool
  q     : List Soft
  stamp : BitVec 21
  c     : Coefs
  d     : Coefs
  deriving DecidableEq, Repr

def Rx.init : Rx :=
  { xs := [], ys := [], met := [], last := 0, skip := 0, prev := (0, 7), preOn := false, q := [], stamp := 0#21, c := Coefs.init, d := Coefs.init }

/-- The statistics of a running window (R60, R84, R85): symbols counted, correlator sums, squared errors and histogram. Sums stand in units of 2^-17 code². -/
structure Stat where
  n    : Nat
  sums : List Int
  sq   : Nat
  bins : List (Nat × Nat)
  deriving DecidableEq, Repr

def Stat.init : Stat := { n := 0, sums := [], sq := 0, bins := [] }

/-- One lane, beside its registers. -/
structure Lane where
  /-- Settings in force since the last barge boundary (R68, R111). -/
  inv      : Bool
  precode  : Bool
  src      : Nat
  patSel   : Nat
  patEn    : Bool
  /-- The last level index of the precoder (R109). -/
  prev     : Nat
  /-- Correlator window: running, START waiting for the boundary, LOG2N and HIST_SRC taken, spanned a pause (R86, R87). -/
  corrRun  : Bool
  corrGo   : Bool
  corrLog  : Nat
  corrSrc  : Bool
  corrHurt : Bool
  /-- Ramp: shape in force, a reversal waiting for the next step boundary (R115). -/
  shape    : Bool
  reverse  : Bool
  /-- A level 3 step or a cleared out-of-service bit waits for LTX to be dark before it resets the lane (R400). -/
  retrain  : Bool
  /-- PAT.INJECT waiting for the next symbol (R128). -/
  inject   : Bool
  /-- The synthesiser has followed a recovered clock since the lane powered (R112). -/
  followed : Bool
  /-- LTX: a FORCE_OFF trigger whose FAULT_DARK is not yet reached (R126). -/
  forcing  : Bool
  /-- HTX: the lane has left OFF (R230). LRX: the pair's training start is due (R162). -/
  started  : Bool
  /-- HRX: its program has posted ready since the lane entered ACQ (R263). -/
  ready    : Bool
  /-- LRX: the qualified alignment (R91), frames expected (R94, R95). -/
  align    : Nat
  frames   : Bool
  /-- The active bank's words at SEEK entry (R95). -/
  seekBank : List (BitVec 32)
  /-- Waveform capture: length, stride and source in force, samples written, samples taken and not yet written, symbols until the next (R100, R101). -/
  wcapLen  : Nat
  wcapStr  : Nat
  wcapSrc  : Bool
  wcapPos  : Nat
  wcapBuf  : List (BitVec 8)
  wcapGap  : Nat
  /-- Zero syndromes among the last 64 decoded codewords, newest first (R143). -/
  last64   : List Bool
  /-- The payload bits of decoded codewords that wait for a whole host barge (R133, R135). -/
  group    : List (BitVec 128 × Bool × Bool)
  /-- LTX: payload bits that wait for a whole group (R133, R135), a codeword injection for the next group (R153). Transmit lanes: the last twelve physical levels
  sent (R66, R104). -/
  half     : List (BitVec 256)
  cwInject : Bool
  tail     : List Nat
  /-- Transmit lanes: the active bank's words and the swing of the last levels sent (R61, R106). -/
  tailBank : List (BitVec 32)
  tailSwing : Nat
  /-- Generators: the registers of the PRBS31 fill and of the selected pattern, 0 before their first use (R53, R59, R96, R458). -/
  fill     : Nat
  pat      : Nat
  /-- The receive chain and the statistics window. -/
  rx       : Rx
  stat     : Stat
  /-- The pattern checker (R59, R74): the pattern it looks for, 0 while it is idle; its generator's register, 0 before it has synchronised; the levels received and not yet
  compared. -/
  chkPat   : Nat
  chk      : Nat
  chkLog   : List Nat
  /-- The host code monitors (R149 to R151): payload bits read by unit and slot since the search or the alignment started, oldest first, and the codewords decoded since by units
  0 and 1. -/
  rs       : List (Nat × Nat × BitVec 256)
  rsDone   : Nat × Nat
  /-- LRX: symbols that wait for the decoder, from the start of a candidate group on (R142), with the arrival stamp of the first (R38). -/
  dec      : List Soft
  stamp    : BitVec 21
  /-- Training: consecutive frames for PEER_OK and consecutive discarded frames (R161, R169), the last new request (R164), the
  last accepted control field and its latched copy (R179), the clock at the timer's start (R173). -/
  okRun    : Nat
  badRun   : Nat
  lastReq  : Nat
  rxf      : BitVec 128
  rxfLatch : BitVec 128
  timer    : Nat
  /-- The partner's data start is expected (R172). -/
  peerData : Bool
  /-- A frame has been accepted since the entry into ALIGN (R162); countdown frames still to send (R171). -/
  heard    : Bool
  cdLeft   : Nat
  /-- Calibration: the lane's static trims, and those that wait to be committed (R180, R186); the interleave trims of each converter branch (offset, gain, skew) in trim LSB,
  and a step of them that waits for a barge boundary (R181). -/
  trim     : BitVec 32
  trimNext : BitVec 32
  branch   : List (Int × Int × Int)
  branchStep : List (Int × Int × Int)
  /-- Calibration: the reading at the start of the attempt in hand and of the last attempt, the clock at the pause's start (R184,
  R188), a triggered attempt after its fitness window found fit input. -/
  calT     : Nat
  lastT    : Nat
  pauseAt  : Nat
  fit      : Bool
  /-- LRX: the throttle level its decoder works at (R374). -/
  saver    : Nat
  deriving DecidableEq, Repr

/-- A WFE in its wait (R212). -/
structure Wait where
  rd   : Nat
  mask : BitVec 32
  lim  : Nat
  at0  : Nat
  deriving DecidableEq, Repr

/-- One lane sequencer, beside its general registers and its SEQ registers (R193, R230). -/
structure Seq where
  pc     : BitVec 32
  n      : Bool
  z      : Bool
  c      : Bool
  v      : Bool
  wait   : Option Wait
  /-- A CMT waiting for its boundary: destination, group (R208). -/
  cmt    : Option (Nat × Bool)
  /-- STOPPED was entered by power-down or reset, so RESUME is refused (R232). -/
  byReset : Bool
  /-- Clock at which the safe-point timer started (R238). -/
  safeAt : Nat
  deriving DecidableEq, Repr

/-- The supervisor core, beside its general and control registers (R217, R227 to R229, R428). -/
structure Sup where
  pc       : BitVec 32
  released : Bool
  wfi      : Bool
  lockup   : Bool
  halted   : Bool
  /-- The boundary's view: an instruction of the supervisor is being single-stepped. -/
  stepping : Bool
  /-- A load waits for the answer of a remote window (R295). -/
  stall    : Bool
  deriving DecidableEq, Repr

/-- One mailbox channel (R246 to R248): notices oldest first as (low, high) words, the staged pointer, the latched high word. -/
structure Chan where
  q      : List (BitVec 32 × BitVec 32)
  staged : BitVec 32
  latch  : BitVec 32
  deriving DecidableEq, Repr

/-- The instant of the last fault counted on a ladder (R405): the clock, the highest entry level reported at it, and whether the ladder was idle then. -/
structure Mark where
  clock : Nat
  entry : Nat
  idle  : Bool
  deriving DecidableEq, Repr

/-- One ladder, beside LADDER[n] (R400 to R410). -/
structure Ladder where
  /-- FAULT.STEP.DONE written in a level 1 step. -/
  done  : Bool
  /-- Frozen in a step (R409), which restarts when the last device-level fault clears (R410). -/
  paused : Bool
  /-- A fault held while frozen: its entry level, 0 for none, and its cause (R410). -/
  held  : Nat
  heldCause : Nat
  /-- The cause of the fault being repaired. -/
  cause : Nat
  /-- Clock at the last completed step (R406). -/
  okAt  : Nat
  mark  : Option Mark
  deriving DecidableEq, Repr

/-- An entry of the hardware fault log (R412). -/
structure LogEntry where
  ts   : Nat
  info : BitVec 32
  data : BitVec 32
  deriving DecidableEq, Repr

/-- The lane reset values. -/
def Lane.init : Lane :=
  { inv := false, precode := false, src := 0, patSel := 0, patEn := false, prev := 0, corrRun := false, corrGo := false,
    corrLog := 10, corrSrc := false, corrHurt := false, shape := true, reverse := false, retrain := false, inject := false,
    followed := false, forcing := false, started := false, ready := false, align := 0, frames := false, seekBank := [], wcapLen := 0,
    wcapStr := 64, wcapSrc := false, wcapPos := 0, wcapBuf := [], wcapGap := 0, last64 := [], group := [], half := [],
    cwInject := false, tail := [], tailBank := [], tailSwing := 0, fill := 0, pat := 0, rx := Rx.init, stat := Stat.init, chkPat := 0, chk := 0, chkLog := [], rs := [],
    rsDone := (0, 0), dec := [], stamp := 0#21, okRun := 0, badRun := 0,
    lastReq := 0, rxf := 0#128, rxfLatch := 0#128, timer := 0, peerData := false, heard := false, cdLeft := 0, trim := 0#32, trimNext := 0#32, branch := [],
    branchStep := [], calT := 0, lastT := 0, pauseAt := 0,
    fit := false, saver := 0 }

def Seq.init : Seq :=
  { pc := 0#32, n := false, z := false, c := false, v := false, wait := none, cmt := none, byReset := true, safeAt := 0 }

def Ladder.init : Ladder := { done := false, paused := false, held := 0, heldCause := 0, cause := 0, okAt := 0, mark := none }

def Chan.init : Chan := { q := [], staged := 0#32, latch := 0#32 }

/-- The pipelines' stores and crossings (R38, R50 to R55): input pounds by receive lane (LRX, HRX), output stores by output j, the lock targets in force, the
crossings by lane. -/
structure Fabric where
  pounds : List (Nat × List Barge)
  stores : List (Nat × List Barge)
  tgtLtx : Nat
  tgtHtx : Nat
  /-- Crossing of lane n: 0 open, 1 in reset, 2 waiting for ACK; with its epoch bit. -/
  cross  : List (Nat × (Nat × Bool))
  deriving DecidableEq, Repr

def Clocks.init : Clocks :=
  { ref := ⟨0, 0⟩, root := ⟨0, 0⟩, slow := ⟨0, 0⟩, trim := none, deep := 0#10, ppsAt := none }

/-- A running test of a memory (R354): its target and the base of its save area. -/
structure BankTest where
  target : Nat
  save   : Nat
  deriving DecidableEq, Repr

/-- Memory integrity, beside the MEMX and BIST registers (R337 to R354). -/
structure Integ where
  /-- ECC words some of whose bits have flipped since they were written, by address: the flipped bits, data bits first. Memory holds the data as written, or as it was when the
  word was poisoned or its flipped bits were taken for sound. -/
  flips : List (Nat × Nat)
  /-- Bytes of the OTP shadow that differ so from the OTP array, by address: the bits that differ (R338, R342). -/
  otpDiff : List (Nat × BitVec 8)
  /-- Bit n: the spare row block of lane memory n failed its self-test (R351). -/
  noSpare : BitVec 48
  /-- The error log, oldest first; an entry's data is the address. -/
  log  : List LogEntry
  /-- A retirement copy in progress: target and row block. -/
  copy : Option (Nat × Nat)
  test : Option BankTest
  /-- Scrubbers: clock at which all started anew; next word of the region, and clock at the lap's start, by region 0 to 3 or 4 + lane; last lap of each lane. -/
  lapFrom : Nat
  scrubAt : List (Nat × Nat)
  lapAt   : List (Nat × Nat)
  lapUs   : List (Nat × Nat)
  deriving DecidableEq, Repr

def Integ.init : Integ := { flips := [], otpDiff := [], noSpare := 0#48, log := [], copy := none, test := none, lapFrom := 0, scrubAt := [], lapAt := [], lapUs := [] }

/-- A monitor channel, beside its registers (R358, R359, R365, R367): coarse and fine outputs since the last restart, the FIR's delay line
(CIC outputs in units of R^-4, newest first) and the running sum. -/
structure MonChan where
  coarse : Nat
  fine   : Nat
  delay  : List Nat
  sum    : Nat
  deriving DecidableEq, Repr

def MonChan.init : MonChan := { coarse := 0, fine := 0, delay := [], sum := 0 }

/-- A temperature sensor, beside its registers (R375 to R377): the last raw code and how often it has come in a row, updates in a row out of range and in
disagreement, updates passed on probation, MAX_SENSOR at its last admitted update, a substitute in force. -/
structure Sensor where
  code   : Nat
  same   : Nat
  outN   : Nat
  disN   : Nat
  passed : Nat
  wasMax : Bool
  subst  : Bool
  deriving DecidableEq, Repr

def Sensor.init : Sensor := { code := 0, same := 0, outN := 0, disN := 0, passed := 0, wasMax := false, subst := false }

/-- Thermal management, beside its registers (R371 to R383). -/
structure Therm where
  sensors : List (Nat × Sensor)
  /-- Clock at the last level change, and at the start of the time at or below the release. -/
  changed : Option Nat
  below   : Option Nat
  /-- Updates in a row at or above the shutdown threshold. -/
  hot     : Nat
  /-- Ticks at a level above 0 not yet counted in THROT_MS, and the clock they were last brought up to. -/
  part    : Nat
  upTo    : Nat
  /-- No update has come since the release of a PD_SUP reset (R381). -/
  fresh   : Bool
  deriving DecidableEq, Repr

def Therm.init : Therm := { sensors := [], changed := none, below := none, hot := 0, part := 0, upTo := 0, fresh := true }

/-- Performance counters, beside the PERF registers (R385, R390 to R395): the events of the tick in hand by counter; FREEZE in force, and a snapshot that waits for the tick
boundary; the staged low words; the bytes of the running bandwidth window and those carried over, by port (RX p, TX 26 + p); the clock from which windows are timed, the
number of those ended since, and WINDOW in force, in µs. -/
structure Perf where
  part   : List (Nat × Nat)
  frozen : Bool
  snap   : Bool
  staged : List (Nat × Word)
  bytes  : List (Nat × Nat)
  carry  : List (Nat × Nat)
  start  : Nat
  ended  : Nat
  window : Nat
  deriving DecidableEq, Repr

def Perf.init : Perf := { part := [], frozen := false, snap := false, staged := [], bytes := [], carry := [], start := 0, ended := 0, window := 1000 }

/-- A lifecycle command that runs (R419): its code, operands and requester. -/
structure LifeRun where
  op     : Nat
  target : Nat
  slot   : Nat
  value  : Nat
  addr   : Nat
  master : Nat
  deriving DecidableEq, Repr

/-- Lifecycle, beside the LIFE registers: the running command, and a burned state that takes effect at the reset of R422. -/
structure Life where
  run      : Option LifeRun
  resetDue : Bool
  deriving DecidableEq, Repr

def Life.init : Life := { run := none, resetDue := false }

/-- A DMA channel, beside its registers (R272, R274, R275): the descriptor in hand, the bytes it has moved, those asked of the host, and the outstanding read requests,
oldest first: the bytes each still waits for, and false where a halt made its data be discarded. -/
structure DmaChan where
  desc  : Nat
  host  : Nat
  local_ : Nat
  len   : Nat
  dir   : Bool
  irq   : Bool
  last  : Bool
  next  : Nat
  moved : Nat
  asked : Nat
  reqs  : List (Bool × Nat)
  deriving DecidableEq, Repr

def DmaChan.init : DmaChan :=
  { desc := 0, host := 0, local_ := 0, len := 0, dir := false, irq := false, last := false, next := 0, moved := 0, asked := 0, reqs := [] }

/-- The header that AER logs with a Completer Abort (R271), as far as a command carries it. -/
structure AerLog where
  write : Bool
  bar   : Nat
  off   : Nat
  deriving DecidableEq, Repr

/-- The PCIe function, beside the PCIE registers (R268, R269, R271): the MSI-X table by word, its pending bits, what the host has set in the configuration space, and the
header that AER logged last. -/
structure Pcie where
  table   : List (Nat × Word)
  pba     : BitVec 64
  set     : PcieSet
  aer     : Option AerLog
  deriving DecidableEq, Repr

/-- An MSI-X table word at reset: bit 0 of an entry's last word masks its vector. -/
def msixReset (k : Nat) : Word := if k % 4 = 3 then 1#32 else 0#32

/-- The settings at reset: 128 B payload, 512 B read requests, the default completion timeout. -/
def PcieSet.init : PcieSet := { payload := 0, readReq := 2, ecrcGen := false, ecrcCheck := false, ltr := false, timeout := 0, timeoutOff := false }

def Pcie.init : Pcie := { table := [], pba := 0#64, set := PcieSet.init, aer := none }

/-- The word that the serial management port fetched when an address phase ended (R279): none, one that a remote window still owes, or the fetched one with its error
code. -/
inductive SmpFetch where
  | none
  | waiting
  | word (err : Nat) (bytes : List (BitVec 8))
  deriving DecidableEq, Repr

/-- The serial management port, beside the SMP registers (R276, R277, R279, R282): the dynamic address, held in PD_AON; the next word's address, and the word fetched for
it; MWL and MRL; the protocol error bit of GETSTATUS; IND_ADDR and IND_STAT of the forerunner window. -/
structure Smp where
  dyn      : Option (BitVec 7)
  ptr      : Nat
  fetch    : SmpFetch
  mwl      : Nat
  mrl      : Nat
  protErr  : Bool
  indAddr  : Word
  indStat  : Bool
  deriving DecidableEq, Repr

def Smp.init : Smp := { dyn := none, ptr := 0, fetch := .none, mwl := 68, mrl := 68, protErr := false, indAddr := 0#32, indStat := false }

/-- A towpath port, beside its registers (R285, R286): consecutive good SOFs, a step of speed due at the next SOF or under confirmation, the partner's SLEEP_OK, the receiver's
code-group synchronisation, the transmitter's running disparity (true is positive), the register of the test generator (0 before its first bit), and a test bit to invert
(R283, R287). -/
structure Port where
  good    : Nat
  due     : Bool
  trying  : Bool
  sleepOk : Bool
  sync    : Bool
  disp    : Bool
  prbs    : Nat
  inject  : Bool
  deriving DecidableEq, Repr

def Port.init : Port := { good := 0, due := false, trying := false, sleepOk := false, sync := false, disp := false, prbs := 0, inject := false }

/-- Who waits for the answer of a remote read: a port's master, a read at an offset of BAR0, the forerunner window's IND_DATA, the first word that the
serial management port fetches ahead, or the supervisor's load into a register from an address. -/
inductive Asker where
  | port (m : Master)
  | bar (m : Master) (off : Nat)
  | indirect
  | ahead
  | load (rd : Nat) (addr : Word)
  deriving DecidableEq, Repr

/-- An access at a remote window (R295): the remote address, the local one of the aperture, and a read of `len` bytes for an asker or a write of bytes. -/
structure WinOp where
  addr  : Nat
  place : Nat
  len   : Nat
  ask   : Option Asker
  data  : List (BitVec 8)
  deriving DecidableEq, Repr

/-- A remote window: what is outstanding, oldest first, with its tag, and what waits at the window. -/
structure Win where
  sent    : List (Nat × WinOp)
  waiting : List WinOp
  deriving DecidableEq, Repr

def Win.init : Win := { sent := [], waiting := [] }

/-- The towpath, beside the TOW registers (R289 to R298): the ports; the enumeration pass running (0 none, 1 out of port A, 2 out of port B); whether the last
enumeration found an open ring; the broken links, link i being between devices i and i + 1; a HELLO seen since the last enumeration; the
next tag; the windows; the sequence last seen and last sent; a SYNC to act on. -/
structure Tow where
  ports   : List (Nat × Port)
  pass    : Nat
  openEnd : Bool
  breaks  : List Nat
  hello   : Bool
  tag     : Nat
  wins    : List (Nat × Win)
  seen    : Option Nat
  sent    : Nat
  syncDue : Bool
  deriving DecidableEq, Repr

def Tow.init : Tow :=
  { ports := [], pass := 0, openEnd := false, breaks := [], hello := false, tag := 0, wins := [], seen := none, sent := 0, syncDue := false }

/-- A flash command that runs (R301): data phase still to come (0 none, 1 read, 2 write), buffer and length, and whether the status is polled after it. -/
structure FlashRun where
  dir : Nat
  buf : Nat
  len : Nat
  poll : Bool
  deriving DecidableEq, Repr

/-- The state of the block. -/
structure State where
  /-- The commands that are waiting, first in, first out. -/
  pending  : List Instr
  /-- The registers, by local address (R430 to R433). -/
  regs     : List (Nat × Word)
  /-- The lanes and their sequencers, by sequencer index (R6). -/
  lanes    : List (Nat × Lane)
  seqs     : List (Nat × Seq)
  /-- General registers g0 to g15 at key 16 * core + register; core 48 is the supervisor (R193). -/
  gpr      : List (Nat × Word)
  sup      : Sup
  /-- The supervisor's control registers c0 to c31, and its MPU regions at 32 + 4 * region + part (R218, R220). -/
  cregs    : List (Nat × Word)
  chans    : List (Nat × Chan)
  ladders  : List (Nat × Ladder)
  faultLog : List LogEntry
  /-- Bit c: the active device-level fault of class c asked for transmitter shutdown (R408). -/
  shutdown : BitVec 6
  fab      : Fabric
  clk      : Clocks
  integ    : Integ
  /-- The monitor channels, and the clock at the source of the last restart (R364). -/
  mons     : List (Nat × MonChan)
  monAt    : Option Nat
  therm    : Therm
  perf     : Perf
  life     : Life
  dma      : List (Nat × DmaChan)
  pcie     : Pcie
  smp      : Smp
  tow      : Tow
  flash    : Option FlashRun
  trans    : Trans
  dorm     : Dorm
  pins     : Pins
  /-- The supplies (R440, R442). -/
  supply   : Supplies
  /-- Ticks of 1.28 ns since power-on that the model has run (the model's own clock). -/
  clock    : Nat
  /-- The timebase (R327). -/
  tb       : BitVec 64
  /-- High words latched by a low-word read: of the timebase at the reader's key, of counter i at 64 * (i + 1) + that key (R328, R390). -/
  latch    : List (Nat × Word)
  /-- MSI-X vectors whose condition became 1 and which are not yet issued (R261). -/
  msixDue  : BitVec 64
  /-- Byte-addressed memories: SRAMs, lane memories, OTP shadow (R430). -/
  mem      : List Host.Cell
  /-- Uses made of the open values of Sys2Proof/Config.lean (the model's own counter). -/
  free     : Nat
  out      : List Out
  deriving DecidableEq, Repr

/-- The machine right after reset: the release of the power-on reset (R326 step 2). -/
def State.reset : State :=
  { pending := [], regs := [(0x04004000, 0x1C003#32), (0x04004004, 0x3FFC#32)], lanes := [], seqs := [], gpr := [],
    sup := { pc := 0#32, released := false, wfi := false, lockup := false, halted := false, stepping := false, stall := false },
    cregs := [], chans := [], ladders := [], faultLog := [], shutdown := 0#6,
    fab := { pounds := [], stores := [], tgtLtx := 0, tgtHtx := 0, cross := [] },
    clk := Clocks.init, integ := Integ.init, mons := [], monAt := none, therm := Therm.init, perf := Perf.init,
    life := Life.init, dma := [], pcie := Pcie.init, smp := Smp.init, tow := Tow.init, flash := none,
    trans := { source := 0, start := 0, fixlat := false, rate := false, degraded := false, ramping := false, waitFor := [], late := [],
               waitSrc := 0, base := 2, loop := 0 },
    dorm := { phase := .awake, stopped := false, t0 := 0, period := 0, pending := false, pin := false },
    pins := { frmSel := false, bootSel := 0, addr := 0 },
    supply := { core := 750, aon := 750, ana := 900, hv := 1200, io := 1800 },
    clock := 0, tb := 0#64, latch := [], msixDue := 0#64, mem := [], free := 0, out := [] }

end Sys2Proof.Machine
end

