-- ==== Sys2Proof/Machine/Ops.lean ====
section
/-! DEFINITION. Sys2Proof/Machine/Ops.lean: the named operations over the register file, the lanes, the events and the answers, on
which every meaning stands. -/

namespace Sys2Proof

/-! ## Masters (R34, R217, R256, R289) -/

/-- The code recorded as a holder: 0x6 for the towpath. -/
def Master.holder : Master → Nat
  | .supS => 1 | .supNS => 2 | .hostS => 3 | .hostNS => 4 | .smp => 5 | .tow _ => 6 | .ls _ => 7

/-- The code a rule judges: a towpath access counts as 0x3 or 0x4 by its SEC bit (R289). -/
def Master.code : Master → Nat
  | .tow true => 3
  | .tow false => 4
  | m => m.holder

/-- The SEC bit recorded with a holder, 0 for every holder but the towpath (R34, R256). -/
def Master.secBit : Master → Bool
  | .tow b => b
  | _ => false

end Sys2Proof

namespace Sys2Proof.Machine

/-! ## Registers and fields -/

/-- The word a field lies in, with the field replaced. -/
def setBits (w : Word) (lo wd v : Nat) : Word :=
  BitVec.ofNat 32 (w.toNat - bitsOf w.toNat lo wd * 2 ^ lo + v % 2 ^ wd * 2 ^ lo)

/-- The stored word of the register at a local address. -/
def State.rd (s : State) (a : Nat) : Word := tabGet regReset s.regs a

/-- The register at a local address given a word. -/
def State.wr (s : State) (a : Nat) (w : Word) : State := { s with regs := tabPut regReset s.regs a w }

/-- The value of a field. -/
def State.fld (s : State) (f : Fld) : Nat := bitsOf (s.rd f.addr).toNat f.lo f.wd

/-- The value of a field as two's complement. -/
def State.sfld (s : State) (f : Fld) : Int := signedOf f.wd (s.fld f)

/-- A field given a value, the register's other bits kept. -/
def State.setFld (s : State) (f : Fld) (v : Nat) : State := s.wr f.addr (setBits (s.rd f.addr) f.lo f.wd v)

/-- A one-bit field read as a Bool. -/
def State.is (s : State) (f : Fld) : Bool := s.fld f != 0

/-- A one-bit field given a Bool. -/
def State.put (s : State) (f : Fld) (b : Bool) : State := s.setFld f (b2n b)

/-- Bit `i` of a field set: an event or a status of a register whose bits the spec numbers. -/
def State.setBit (s : State) (f : Fld) (i : Nat) : State :=
  if bitAt (s.fld f) i then s else s.setFld f (s.fld f + 2 ^ i)

/-- Bit `i` of a field cleared. -/
def State.clrBit (s : State) (f : Fld) (i : Nat) : State :=
  if bitAt (s.fld f) i then s.setFld f (s.fld f - 2 ^ i) else s

/-- A counter that saturates at its largest value, raised by `by`. -/
def State.bump (s : State) (f : Fld) (n : Nat) : State := s.setFld f (min (s.fld f + n) (2 ^ f.wd - 1))

/-- A counter that wraps, raised by one. -/
def State.incr (s : State) (f : Fld) : State := s.setFld f (s.fld f + 1)

/-- Every register whose reset domain the predicate names back at its reset value (R434). -/
def State.resetRegs (s : State) (p : ResetDomain → Bool) : State :=
  { s with regs := tabClear (fun a => p (resetDomain a)) s.regs }

/-- Something sent out of the block. -/
def State.emit (s : State) (o : Out) : State := { s with out := o :: s.out }

/-- The next use of the open values. -/
def State.use (s : State) : State := { s with free := s.free + 1 }

/-- A pair of LO and HI registers read as one number (R4). -/
def State.pair (s : State) (lo : Nat) : Nat := (s.rd lo).toNat + 2 ^ 32 * (s.rd (lo + 4)).toNat

/-! ## Tables beside the registers -/

def State.lane (s : State) (n : Nat) : Lane := tabGet (fun _ => Lane.init) s.lanes n
def State.setLane (s : State) (n : Nat) (l : Lane) : State := { s with lanes := tabPut (fun _ => Lane.init) s.lanes n l }
def State.seq (s : State) (n : Nat) : Seq := tabGet (fun _ => Seq.init) s.seqs n
def State.setSeq (s : State) (n : Nat) (q : Seq) : State := { s with seqs := tabPut (fun _ => Seq.init) s.seqs n q }
def State.chan (s : State) (c : Nat) : Chan := tabGet (fun _ => Chan.init) s.chans c
def State.setChan (s : State) (c : Nat) (h : Chan) : State := { s with chans := tabPut (fun _ => Chan.init) s.chans c h }
def State.ladder (s : State) (n : Nat) : Ladder := tabGet (fun _ => Ladder.init) s.ladders n
def State.setLadder (s : State) (n : Nat) (l : Ladder) : State := { s with ladders := tabPut (fun _ => Ladder.init) s.ladders n l }
/-- A general register of a core: g0 reads as 0 (R192). -/
def State.g (s : State) (k r : Nat) : Word := if r = 0 then 0#32 else tabGet (fun _ => 0#32) s.gpr (16 * k + r)

/-- How an access ends: taken, or refused with an error code (the codes of PCIE.ERR_INFO, R302: 1 the target's
error, 2 not permitted, 3 unmapped, 4 width, 5 crossing). -/
inductive Resp where
  | ok
  | err (code : Nat)
  deriving DecidableEq, Repr

def Resp.code : Resp → Nat
  | .ok => 0
  | .err c => c

/-- The answer of a write sent to its master. -/
def answer (m : Master) (x : State × Resp) : State := x.1.emit (.response m x.2.code 0)

/-- The answer of a read sent to its master. -/
def answerRead (m : Master) (x : State × Resp × Word) : State := x.1.emit (.response m x.2.1.code x.2.2.toNat)

/-! ## Control registers of the supervisor (R217 to R219) -/

/-- Reset values of c0 to c31 (R219). -/
def cregReset (n : Nat) : Word := if n = 11 then 0xA420#32 else if n = 13 then 0x201#32 else 0#32

def State.creg (s : State) (n : Nat) : Word := tabGet cregReset s.cregs n
def State.setCreg (s : State) (n : Nat) (v : Word) : State := { s with cregs := tabPut cregReset s.cregs n v }

/-- PSR.LVL: 0 SK, 1 NK, 2 NU (R217). -/
def State.level (s : State) : Nat := bitsOf (s.creg 0).toNat 0 2

/-! ## Performance counters (R385 to R387, R391, R392, R397)

Every counted event is applied at once to the counters that select it. The live count of counter i stands in CNT_LO[i] and CNT_HI[i]. -/

/-- The world of a privilege filter: secure, non-secure kernel or host, non-secure user. -/
inductive World where
  | secure | nonSecure | user
  deriving DecidableEq, Repr

/-- An event: its class of R386, how many, and what the filters marked for the class judge; a filter that does not apply finds none. -/
structure Event where
  cls    : Nat
  count  : Nat
  master : Option Nat
  world  : Option World
  addr   : Option Nat
  lane   : Option Nat
  deriving DecidableEq, Repr

/-- An event that no filter judges. -/
def Event.plain (cls n : Nat) : Event := ⟨cls, n, none, none, none, none⟩

/-- An event of a lane, by sequencer index. -/
def Event.ofLane (cls n k : Nat) : Event := ⟨cls, k, none, none, none, some n⟩

/-- The world of the supervisor's present level. -/
def State.levelWorld (s : State) : World := if s.level = 0 then .secure else if s.level = 1 then .nonSecure else .user

/-- The world of a master code; 0 for an event with no master. -/
def State.worldOf (s : State) (code : Nat) : World :=
  if code = 2 then (if s.level = 2 then .user else .nonSecure) else if code = 4 then .nonSecure else .secure

/-- An event of a master. -/
def State.masterEvent (s : State) (cls code : Nat) (addr : Option Nat) : Event := ⟨cls, 1, some code, some (s.worldOf code), addr, none⟩

/-- The class that a forerunner event number counts, and the lane it names (R397). -/
def evnumClass (v : Nat) : Option (Nat × Option Nat) :=
  if v = 0x01 then some (0x01, none)
  else if 0x10 ≤ v ∧ v < 0x18 then some (0x0B, some (v - 0x10))
  else if 0x18 ≤ v ∧ v < 0x20 then some (0x0C, some (v - 0x18))
  else if v = 0x20 then some (0x04, none)
  else if v = 0x21 then some (0x05, none)
  else if v = 0x30 then some (0x12, none)
  else if v = 0x31 then some (0x13, none)
  else if v = 0x40 then some (0x10, none)
  else if v = 0x41 then some (0x11, none)
  else if v = 0x50 then some (0x16, none)
  else if v = 0x51 then some (0x14, none)
  else if v = 0x60 then some (0x15, none)
  else none

/-- Counter i with selection byte `sel` counts the event: by class and filters, or by event number in the forerunner persona; counters 16 to 31 never count a
secure event. -/
def State.selects (s : State) (i sel : Nat) (e : Event) : Bool :=
  let hidden := decide (16 ≤ i) && e.world == some .secure
  if s.is F.MODE_PERSONA_ACTIVE then
    match evnumClass sel with
    | none => false
    | some (c, l) => c == e.cls && (l.isNone || l == e.lane) && !hidden
  else
    let opt (o : Option Nat) (f : Nat → Bool) : Bool := match o with
      | none => true
      | some v => f v
    sel % 32 == e.cls && !hidden && opt e.master (bitAt (s.fld (F.PERF_FILT_MASTER i)))
      && (match e.world with
        | none => true
        | some w => bitAt (s.fld (F.PERF_FILT_PRIV i)) (match w with | .secure => 0 | .nonSecure => 1 | .user => 2))
      && opt e.addr (fun a => !s.is (F.PERF_FILT_A_EN i) || decide ((s.rd (R.PERF_ADDR_LO i)).toNat ≤ a) && decide (a ≤ (s.rd (R.PERF_ADDR_HI i)).toNat))
      && opt e.lane (fun n => bitAt (if n < 32 then (s.rd (R.PERF_LANE_LO i)).toNat else (s.rd (R.PERF_LANE_HI i)).toNat) (n % 32))

/-- The live count of counter i. -/
def State.counter (s : State) (i : Nat) : Nat := s.pair (R.PERF_CNT_LO i)

/-- The live count of counter i given a value. -/
def State.setCounter (s : State) (i v : Nat) : State := (s.wr (R.PERF_CNT_LO i) (BitVec.ofNat 32 v)).wr (R.PERF_CNT_HI i) (BitVec.ofNat 32 (v / 2 ^ 32 % 65536))

/-- Counter i has passed 2^48 - 1 (R391). -/
def State.wrapped (s : State) (i : Nat) : State :=
  let s := s.setBit F.PERF_WRAP_CNT i
  let s := if s.is (F.PERF_CNT_CTL_WRAP_IRQ i) then s.put F.PERF_EVENT_WRAP true else s
  if s.is F.PERF_CTL_WRAP_FREEZE then s.put F.PERF_CTL_FREEZE true else s

/-- Counter i raised by n (R385, R391). -/
def State.addCount (s : State) (i n : Nat) : State :=
  let v := s.counter i + n
  let s := s.setCounter i v
  if v < 2 ^ 48 then s else s.wrapped i

/-- Events of the tick in hand for counter i. -/
def State.countPart (s : State) (i : Nat) : Nat := tabGet (fun _ => 0) s.perf.part i

/-- Those events, given. -/
def State.setPart (s : State) (i n : Nat) : State := { s with perf := { s.perf with part := tabPut (fun _ => 0) s.perf.part i n } }

/-- The enabled counters with their selection bytes. CNT_CTL resets to 0, so only a listed register enables one. -/
def State.counting (s : State) : List (Nat × Nat) :=
  s.regs.filterMap fun c =>
    if 0x0400A100 ≤ c.1 ∧ c.1 < 0x0400A500 ∧ c.1 % 0x20 = 0 ∧ c.2.getLsbD 8 then some ((c.1 - 0x0400A100) / 0x20, c.2.toNat % 256) else none

/-- An event of the tick in hand: every enabled counter that selects it adds it at the end of the tick (R385). -/
def State.tally (s : State) (e : Event) : State :=
  (s.counting.filter fun c => s.selects c.1 c.2 e).foldl (fun s c => s.setPart c.1 (s.countPart c.1 + e.count)) s

/-- Bytes of a bandwidth port in the window that runs (R394): RX of port p at key p, TX at 26 + p. -/
def State.bwCount (s : State) (k n : Nat) : State :=
  if s.is F.PERF_BW_CTL_RUN then
    { s with perf := { s.perf with bytes := tabPut (fun _ => 0) s.perf.bytes k (tabGet (fun _ => 0) s.perf.bytes k + n) } }
  else s

/-- The end of an access to a local address: BUS_ACC where it reached its target, BUS_ERR where it was answered with an error. -/
def State.busTally (s : State) (m : Master) (a : Nat) (r : Resp) : State :=
  let s := if r.code = 3 ∨ r.code = 5 ∨ r.code = 6 then s else s.tally (s.masterEvent 2 m.code (some a))
  if r.code = 0 then s else s.tally (s.masterEvent 3 m.code (some a))

/-! ## Modes (R8, R10) -/

/-- The mode last completed. -/
def State.mode (s : State) : Nat := s.fld F.MODE_STATUS_CURRENT

/-- A data mode or Diagnostic. -/
def isData (t : Nat) : Bool := decide (2 ≤ t) && decide (t ≤ 5)

/-- The lanes run or start in the target of the transition in progress: one into a data mode or Diagnostic, whose ramp-down or wake from Dormant, if any, is over (R11, R16). -/
def State.inTarget (s : State) : Bool :=
  s.is F.MODE_STATUS_BUSY && isData (s.fld F.MODE_STATUS_IN_TARGET) && !s.trans.ramping && s.dorm.phase == .awake

/-- The mode the lanes run or start in: that target, else the mode in force. -/
def State.runMode (s : State) : Nat := if s.inTarget then s.fld F.MODE_STATUS_IN_TARGET else s.mode

/-- The mode whose line rate and inner code the lanes run: the base mode in Diagnostic (R10), the one they were started with (R11). -/
def State.lineMode (s : State) : Nat := if s.runMode = 5 then s.trans.base else s.runMode

/-- The host lane rate the lanes run at: 1 for 106.25 Gb/s. -/
def State.lineRate (s : State) : Bool := if s.inTarget then s.trans.rate else s.is F.MODE_STATUS_HOST_RATE

/-- The loopback point that the lanes run: none outside Diagnostic (R10), the one they were started with (R11). -/
def State.loop (s : State) : Nat := if s.runMode = 5 then s.trans.loop else 0

/-- Inner code in force on the line (R8, R10, R148). -/
def State.coded (s : State) : Bool := s.lineMode == 3 || s.lineMode == 4

/-! ## Lanes -/

/-- The power domain of a lane, by its bit in PWR.DOM_STAT (R317). -/
def laneDomain (n : Nat) : Nat := if n < 16 then 2 + n % 8 else 10 + n % 16 / 4

/-- A domain is powered. -/
def State.domOn (s : State) (d : Nat) : Bool := bitAt (s.fld F.PWR_DOM_STAT_ON) d

/-- The power-on fill has completed (R339). -/
def State.filled (s : State) : Bool := s.is F.MEMX_STAT_FILLED

/-- The lane's domain is powered. -/
def State.laneOn (s : State) (n : Nat) : Bool := s.domOn (laneDomain n)

/-- The lane is out of service (R24): its bit of MODE.OOS_LINE or MODE.OOS_HOST. -/
def State.oos (s : State) (n : Nat) : Bool :=
  if n < 16 then bitAt (s.rd R.MODE_OOS_LINE).toNat n else bitAt (s.rd R.MODE_OOS_HOST).toNat (n - 16)

/-- The lane is marked unusable by the self-test (R27). -/
def State.unusable (s : State) (n : Nat) : Bool :=
  if n < 16 then bitAt (s.rd R.MODE_UNUSABLE_LINE).toNat n else bitAt (s.rd R.MODE_UNUSABLE_HOST).toNat (n - 16)

/-- The other half of a line pair (R24, R163). -/
def pairOf (n : Nat) : Nat := if n < 8 then n + 8 else n - 8

/-- Exactly one half of line pair n is out of service (R163). -/
def State.halfPair (s : State) (n : Nat) : Bool := s.oos (n % 8) != s.oos (n % 8 + 8)

/-- The logical slot that a host lane feeds or carries (R69). -/
def State.slot (s : State) (n : Nat) : Nat := s.fld (F.HRX_STATUS_ACTIVE_SLOT n)

/-- The line lane that a host lane's slot rides on (R6). -/
def State.lineOf (s : State) (n : Nat) : Nat := s.slot n / 2

/-- The host lane feeding a slot, by the active map of that direction: base 16 for HRX, 32 for HTX. -/
def State.hostOf (s : State) (base slot : Nat) : Nat :=
  match (List.range 16).find? fun k => s.slot (base + k) == slot with
  | some k => base + k
  | none => base

/-- The lanes of sequencer index order, all and those of a kind. -/
def allLanes : List Nat := List.range 48
def lrxLanes : List Nat := List.range 8
def ltxLanes : List Nat := (List.range 8).map (· + 8)
def hrxLanes : List Nat := (List.range 16).map (· + 16)
def htxLanes : List Nat := (List.range 16).map (· + 32)

/-- An action on each lane of a list. -/
def each (l : List Nat) (f : Nat → State → State) (s : State) : State := l.foldl (fun s n => f n s) s

/-- An event line of a powered lane's sequencer set (R211). -/
def State.line (s : State) (n i : Nat) : State :=
  if s.laneOn n then s.setBit (F.LRX_SEQ_EVT_LINES n) i else s

/-- Event lines of both lanes of a line pair. -/
def State.pairLine (s : State) (n i : Nat) : State := (s.line (n % 8) i).line (n % 8 + 8) i

/-- An LRX lane is releasing data; LTX, HRX and HTX as R184 lists. -/
def State.releasing (s : State) (n : Nat) : Bool :=
  if n < 8 then s.is (F.LRX_STATUS_DATA n)
  else if n < 16 then s.fld (F.LRX_TRN_CTL_STATE (n - 8)) == 5
  else if n < 32 then s.fld (F.HRX_STATUS_STATE n) == 2
  else s.is (F.LRX_STATUS_DATA (s.lineOf n))

/-- The lane's sequencer counts as stopped (R233): STOPPED or TRAPPED. -/
def State.seqStopped (s : State) (n : Nat) : Bool :=
  s.fld (F.LRX_SEQ_STAT_STATE n) == 0 || s.fld (F.LRX_SEQ_STAT_STATE n) == 3

/-! ## Interrupt sources (R259) and MSI-X (R261) -/

/-- The enable register's offset for an event register's offset in its block, and the interrupt source, for a listed register. -/
def eventSource (a : Nat) : Option (Nat × Nat) :=
  match locate a with
  | none => none
  | some p =>
    match p.blk with
    | .lrx => if p.off = 0x008 ∨ p.off = 0xE08 ∨ p.off = 0xD10 ∨ p.off = 0xC08 then some (a + 4, p.n) else none
    | .ltx | .hrx | .htx => if p.off = 0x008 ∨ p.off = 0xC08 then some (a + 4, p.n) else none
    | .mode => if p.off = 0x064 then some (a + 4, 48) else none
    | .fab => if p.off = 0x008 then some (a + 4, 49) else none
    | .cal => if p.off = 0x008 then some (a + 4, 50) else none
    | .therm => if p.off = 0x00C then some (a + 4, 51) else none
    | .mon => if p.off = 0x008 then some (a + 4, 52) else if 0x020 ≤ p.off ∧ p.off < 0x02C then some (a + 0x10, 52) else none
    | .perf => if p.off = 0x008 then some (a + 4, 53) else none
    | .fault => if p.off = 0x008 then some (a + 4, 54) else none
    | .memx => if p.off = 0x008 then some (a + 4, 55) else none
    | .tow => if p.off = 0x008 then some (a + 4, 56) else none
    | .pcie => if p.off = 0x008 then some (a + 4, 57) else none
    | .dma => if p.off = 0x100 then some (a + 4, 58) else none
    | .clk | .smp => if p.off = 0x008 then some (a + 4, 59) else none
    | .pwr => if p.off = 0x01C then some (a + 4, 59) else none
    | .time => if p.off = 0x034 then some (a + 4, 59) else none
    | .bist => if p.off = 0x050 then some (a + 4, 59) else none
    | _ => none

/-- The sources raised by the events of the mailbox channels: ARRIVE, SPACE and SRESET bits (R259). -/
def mboxSources (s : State) : Nat :=
  let w (base i : Nat) : Nat := (s.rd (base + 4 * i)).toNat
  let arr (i : Nat) : Nat := w (R.MBOX_ARRIVE 0) i ||| w (R.MBOX_SRESET 0) i
  let spc (i : Nat) : Nat := w (R.MBOX_SPACE 0) i
  let smp := arr 0 &&& 0x20 != 0 || spc 0 &&& 0x10 != 0
  let sup := arr 0 &&& 0xFFFFFF15 != 0 || arr 1 &&& 0x00FFFFFF != 0 || spc 0 &&& 0x2A != 0
    || spc 1 &&& 0xFF000000 != 0 || spc 2 != 0 || spc 3 &&& 0xFF != 0
  let host := arr 0 &&& 0x0A != 0 || spc 0 &&& 0x05 != 0
  b2n smp * 2 ^ 60 + b2n sup * 2 ^ 61 + b2n host * 2 ^ 62

/-- The interrupt sources raised now (R259). Every event register resets to 0, so only listed registers raise a source. -/
def State.raw (s : State) : Nat :=
  let ev := s.regs.foldl (fun r c =>
    match eventSource c.1 with
    | some (en, src) => if c.2 &&& s.rd en != 0#32 then r ||| 2 ^ src else r
    | none => r) 0
  let fin := b2n (s.is F.FLASH_STAT_DONE || s.is F.LIFE_STAT_DONE) * 2 ^ 59
  let remote := b2n (s.rd R.TOW_REMOTE_IRQ_LO != 0#32 || s.rd R.TOW_REMOTE_IRQ_HI != 0#32) * 2 ^ 56
  ev ||| fin ||| remote ||| mboxSources s ||| b2n (s.rd R.IRQ_SOFT_SET != 0#32) * 2 ^ 63

/-- The end of every meaning: the MSI-X vectors whose condition has become 1 are remembered until they are issued (R261). -/
def settle (s : State) : State :=
  { s with msixDue := s.msixDue ||| (BitVec.ofNat 64 (s.raw &&& s.pair R.IRQ_HOST_EN_LO)
      &&& ~~~(BitVec.ofNat 64 (s.pair R.IRQ_HOST_INSERV_LO))) }

/-- A command's outcome: the next state. -/
def done (s : State) : Host.Outcome State Fault Refusal := .next (settle s)

/-- A command whose list operand no sender can form stops the block. -/
def doneIf (good : Bool) (s : State) : Host.Outcome State Fault Refusal := if good then done s else .fault .malformed

end Sys2Proof.Machine
end

