-- ==== Sys2Proof/Machine/Boxes.lean ====
section
/-! DEFINITION. Sys2Proof/Machine/Boxes.lean: mailbox channels (R245 to R255) and the lane sequencers' states (R230 to R233, R238). -/

namespace Sys2Proof.Machine

/-! ## Channels -/

/-- The master codes that post to a channel through the MBOX block (R246); a lane posts by MPOST only. -/
def chanSenders (c : Nat) : List Nat :=
  if c = 0 then [3] else if c = 2 then [4] else if c = 3 then [1, 2] else if c = 4 then [5]
  else if c = 1 ∨ c = 5 ∨ 56 ≤ c ∧ c < 104 then [1] else []

/-- The master codes that take from a channel through the MBOX block (R246). -/
def chanReceivers (c : Nat) : List Nat :=
  if c = 1 then [3] else if c = 3 then [4] else if c = 5 then [5] else if c = 2 then [1, 2]
  else if c = 0 ∨ c = 4 ∨ 8 ≤ c ∧ c < 56 then [1] else []

/-- The receiver's event of an accepted post (R249). -/
def State.arrived (s : State) (c : Nat) : State :=
  if 56 ≤ c then s.line (c - 56) 16 else s.setBit (F.MBOX_ARRIVE_CH (c / 32)) (c % 32)

/-- The sender's event of a take that leaves room (R249). -/
def State.spaced (s : State) (c : Nat) : State :=
  if 8 ≤ c ∧ c < 56 then s.line (c - 8) 17 else s.setBit (F.MBOX_SPACE_CH (c / 32)) (c % 32)

/-- The high word as a channel stores it: VALID 1, RCV_RESET 0 (R245). -/
def noticeHigh (hi : Word) : Word := (hi &&& 0x3FFFFFFF#32) ||| 0x40000000#32

/-- A post decided (R247): refused on a full channel, else appended with the receiver's event. -/
def State.post (s : State) (c : Nat) (lo hi : Word) : State × Bool :=
  let h := s.chan c
  if 4 ≤ h.q.length then ((s.setFld (F.MBOX_CH_STAT_REFUSED c) (s.fld (F.MBOX_CH_STAT_REFUSED c) + 1)), false)
  else (((s.setChan c { h with q := h.q ++ [(lo, noticeHigh hi)] }).incr (F.MBOX_CH_STAT_POSTED c)).arrived c, true)

/-- The oldest notice taken out of a channel (R248), with the sender's event when it leaves fewer than 4 notices (R249). -/
def State.take (s : State) (c : Nat) : State × Option (Word × Word) :=
  let h := s.chan c
  match h.q with
  | [] => (s, none)
  | x :: q =>
    let s := s.setChan c { h with q := q }
    (if 3 < h.q.length ∨ 56 ≤ c ∨ c < 8 then s.spaced c else s, some x)

/-- A receiver's reset (R252): pending notices are marked. -/
def State.receiverReset (s : State) (c : Nat) : State :=
  let h := s.chan c
  s.setChan c { h with q := h.q.map fun x => (x.1, x.2 ||| 0x80000000#32) }

/-- A sender's reset (R253): pending notices are withdrawn and counted. -/
def State.withdraw (s : State) (c : Nat) : State :=
  let h := s.chan c
  (s.setChan c { h with q := [] }).setFld (F.MBOX_CH_STAT_WITHDRAWN c) (s.fld (F.MBOX_CH_STAT_WITHDRAWN c) + h.q.length)

/-- A sender's reset with the receiver's event (R253). -/
def State.senderReset (s : State) (c : Nat) : State :=
  if 56 ≤ c then (s.withdraw c).line (c - 56) 18
  else (s.withdraw c).setBit (F.MBOX_SRESET_CH (c / 32)) (c % 32)

/-- Lane sequencer n's reset as a party (R251 to R253). -/
def State.lanePartyReset (s : State) (n : Nat) : State := (s.receiverReset (56 + n)).senderReset (8 + n)

/-- The reset of a host world's or the serial management port's channels (R251). -/
def State.partyReset (s : State) (sends takes : Nat) : State := (s.receiverReset takes).senderReset sends

/-- The supervisor's reset as a party (R251): it sends on 1, 3, 5 and 56 to 103 and takes 0, 2, 4 and 8 to 55. -/
def State.supPartyReset (s : State) : State :=
  let s := ([0, 2, 4] ++ (List.range 48).map (· + 8)).foldl State.receiverReset s
  ([1, 3, 5] ++ (List.range 48).map (· + 56)).foldl State.senderReset s

/-! ## Coefficient banks (R61 to R63, R89, R105, R106, R459, R468) -/

/-- The address of a bank word: bank A false, bank B true. -/
def bankAddr (n : Nat) (b : Bool) (w : Nat) : Nat := laneBase n + 0x400 + 0x100 * b2n b + 4 * (w % 64)

/-- The bits of a register that its table row lists. -/
def fieldMask (r : RegSpec) : Nat := r.fields.foldl (fun m f => m ||| (2 ^ (f.hi + 1) - 2 ^ f.lo)) 0

/-- The bits a bank word keeps: a reserved word keeps none (R206). -/
def bankMask (n w : Nat) : Nat :=
  match rowAt ⟨laneBlock n, n, 0x400 + 4 * (w % 64)⟩ with
  | some r => fieldMask r
  | none => 0

/-- Bank B is active. -/
def State.bankB (s : State) (n : Nat) : Bool := s.is (F.LRX_BANK_ACTIVE n)

/-- A word of the active bank. -/
def State.activeWord (s : State) (n w : Nat) : Word := s.rd (bankAddr n (s.bankB n) w)

/-- A word of the shadow bank. -/
def State.shadowWord (s : State) (n w : Nat) : Word := s.rd (bankAddr n (!s.bankB n) w)

/-- A word of the shadow bank given a value. -/
def State.setShadow (s : State) (n w : Nat) (v : Word) : State :=
  s.wr (bankAddr n (!s.bankB n) w) (BitVec.ofNat 32 (v.toNat &&& bankMask n w))

/-- A tap weight of an LTX bank as used: a weight outside -64 to 64 is used as the nearer limit (R105). -/
def tapUsed (v : Nat) : Int := clampInt (-64) 64 (signedOf 8 v)

/-- The computed cursor weight of an LTX bank whose words are `g 0 … g 63` (R105). -/
def cursorOf (g : Nat → Word) : Int :=
  let cur := bitsOf (g 8).toNat 0 2
  128 - (List.range 8).foldl (fun a i => if i = cur then a else a + (tapUsed (bitsOf (g i).toNat 0 8)).natAbs) (0 : Nat)

/-- The content check of a commit (R106 for LTX, R468 for LRX). -/
def State.shadowOk (s : State) (n : Nat) : Bool :=
  if n < 8 then
    let l := (s.shadowWord n 51).toNat
    let lv (i : Nat) : Int := signedOf 8 (bitsOf l (8 * i) 8)
    decide (lv 0 < lv 1) && decide (lv 1 < lv 2) && decide (lv 2 < lv 3)
  else if n < 16 then decide (32 ≤ cursorOf (s.shadowWord n))
  else true

/-- EVENT.COMMIT_REFUSED of a lane. -/
def commitRefusedFld (n : Nat) : Fld := if n < 8 then F.LRX_EVENT_COMMIT_REFUSED n else F.HRX_EVENT_COMMIT_REFUSED n

/-- The computed cursor weight of the active bank shown in STATUS (R105, R129). -/
def State.showCursor (s : State) (n : Nat) : State :=
  if 8 ≤ n ∧ n < 16 then s.setFld (F.LTX_STATUS_CUR_WEIGHT n) (codeOf 8 (cursorOf (s.activeWord n))) else s

/-- The CTLE peaking code of a receive lane in use, with its limit (R60, R78, R102). -/
def State.peaking (s : State) (n : Nat) : Nat :=
  if n < 8 then min 24 (bitsOf (s.activeWord n 50).toNat 0 5) else min 30 (bitsOf (s.activeWord n 13).toNat 0 5)

/-- The peaking that an active bank sets. -/
def State.showPeaking (s : State) (n : Nat) : State := if n < 8 ∨ 16 ≤ n ∧ n < 32 then s.emit (.peaking n (s.peaking n)) else s

/-- The banks swapped, with copy on commit where BANK.AUTOCOPY is 1 (R61, R89, R108). -/
def State.swapBanks (s : State) (n : Nat) : State :=
  let s := s.setFld (F.LRX_BANK_ACTIVE n) (1 - s.fld (F.LRX_BANK_ACTIVE n))
  let s := if n < 16 ∧ s.is (F.LRX_BANK_AUTOCOPY n) then
      (List.range 64).foldl (fun s w => s.wr (bankAddr n (!s.bankB n) w) (s.activeWord n w)) s
    else s
  (s.showCursor n).showPeaking n

/-- A commit taken between two barges: refused when the shadow bank fails its content check (R106, R468). -/
def State.commit (s : State) (n : Nat) : State × Bool :=
  if s.shadowOk n then ((s.swapBanks n).tally (.ofLane 8 n 1), true) else (s.put (commitRefusedFld n) true, false)

/-! ## Codeword-group boundaries and pauses -/

/-- The encoder of the line transmit lane of index n sends codeword groups (R134, R148): its lane has left OFF, and sends data and no pattern. -/
def State.encodes (s : State) (n : Nat) : Bool :=
  s.coded && s.fld (F.LTX_STATUS_STATE n) != 0 && (s.lane n).src == 0 && !(s.runMode == 5 && (s.lane n).patEn)

/-- The lane has codeword-group boundaries now (R148, R186). -/
def State.hasGroups (s : State) (n : Nat) : Bool :=
  if n < 8 then s.coded && s.is (F.LRX_CW_STAT_LOCKED n)
  else if n < 16 then s.encodes n
  else if n < 32 then s.encodes (s.lineOf n + 8)
  else s.coded && s.is (F.LRX_CW_STAT_LOCKED (s.lineOf n))

/-- A recalibration pause holds the lane (R185): LANE_STAT.STATE is MEASURE. -/
def State.paused (s : State) (n : Nat) : Bool := s.fld (F.CAL_LANE_STAT_STATE n) == 2

/-! ## Sequencers -/

/-- A general register given a value: g0 reads as 0 and discards writes (R193). -/
def State.setG (s : State) (k r : Nat) (v : Word) : State :=
  if r = 0 then s else { s with gpr := tabPut (fun _ => 0#32) s.gpr (16 * k + r) v }

/-- g0 to g15 of a core cleared. -/
def State.clearG (s : State) (k : Nat) : State := { s with gpr := tabClear (fun a => a / 16 == k) s.gpr }

/-- A waiting CMT completes with an outcome (R208). -/
def State.cmtDone (s : State) (n d outcome : Nat) : State :=
  let q := s.seq n
  let s := (s.setSeq n { q with cmt := none, pc := q.pc + 4#32, z := outcome == 0, n := false }).setG n d (BitVec.ofNat 32 outcome)
  (if outcome = 0 then s else s.tally (.ofLane 9 n 1)).tally (.ofLane 6 n 1)

/-- The outcome of a CMT at its boundary (R208). -/
def State.cmtResolve (s : State) (n : Nat) : State :=
  match (s.seq n).cmt with
  | none => s
  | some (d, grp) =>
    if s.paused n then s.cmtDone n d 1
    else if grp && !s.hasGroups n then s.cmtDone n d 2
    else
      let x := s.commit n
      x.1.cmtDone n d (if x.2 then 0 else 3)

/-- A waiting CMT whose boundaries have ceased, or whose lane a recalibration pause now holds, completes at once (R208). -/
def State.cmtCheck (s : State) (n : Nat) : State :=
  match (s.seq n).cmt with
  | none => s
  | some (_, grp) => if s.paused n || grp && !s.hasGroups n then s.cmtResolve n else s

/-- SAFE_PEND and its timer end (R238). -/
def State.endSafe (s : State) (n : Nat) : State := s.put (F.LRX_SEQ_STAT_SAFE_PEND n) false

/-- The sequencer enters STOPPED from RUNNING or WAITING (R230): a CMT in its wait completes first, and a wait ends without
consuming an event line, with SEQ_PC the WFE. -/
def State.seqHalt (s : State) (n : Nat) : State :=
  if s.seqStopped n then s
  else
    let s := s.cmtResolve n
    let q := s.seq n
    let s := s.setSeq n { q with wait := none, byReset := false }
    (((s.wr (R.LRX_SEQ_PC n) q.pc).setFld (F.LRX_SEQ_STAT_STATE n) 0).put (F.LRX_SEQ_EVENT_STOPPED n) true).endSafe n

/-- Power-on, or the domain of the lane powered down or reset (R230): everything cleared, STOPPED. -/
def State.seqReset (s : State) (n : Nat) : State :=
  let s := (s.setSeq n Seq.init).clearG n
  let s := ((s.setFld (F.LRX_SEQ_STAT_STATE n) 0).put (F.LRX_SEQ_STAT_LOADED n) false).setFld (F.LRX_SEQ_EVT_LINES n) 0
  (s.endSafe n).lanePartyReset n

/-- START taken, by command or at a lane start (R230); it counts as the lane's reset as a party (R251). -/
def State.seqLaunch (s : State) (n : Nat) : State :=
  let s := s.lanePartyReset n
  let s := (s.setSeq n { Seq.init with pc := s.rd (R.LRX_SEQ_ENTRY n), byReset := false }).clearG n
  let s := s.setFld (F.LRX_SEQ_EVT_LINES n) (if (s.chan (56 + n)).q.isEmpty then 0 else 2 ^ 16)
  let s := s.put (F.LRX_SEQ_STAT_IMEM_DIRTY n) false
  (s.incr (F.LRX_SEQ_STAT_START_COUNT n)).setFld (F.LRX_SEQ_STAT_STATE n) 1

/-- At a lane start with LOADED = 1 a stopped sequencer starts; with LOADED = 0 it stays STOPPED and says so (R230, R231). -/
def State.seqLaneStart (s : State) (n : Nat) : State :=
  if s.is (F.LRX_SEQ_STAT_LOADED n) then (if s.seqStopped n then s.seqLaunch n else s)
  else s.put (F.LRX_SEQ_EVENT_NOT_LOADED n) true

/-- A sequencer in its wait whose masked line is set ends its wait (R212). -/
def State.wfeRelease (s : State) (n : Nat) : State :=
  let q := s.seq n
  match q.wait with
  | none => s
  | some w =>
    let got := s.rd (R.LRX_SEQ_EVT n) &&& w.mask
    if got = 0#32 then s
    else
      let s := (s.wr (R.LRX_SEQ_EVT n) (s.rd (R.LRX_SEQ_EVT n) &&& ~~~got)).setG n w.rd got
      ((s.setSeq n { q with wait := none, z := false, n := bitAt got.toNat 31, pc := q.pc + 4#32 }).setFld (F.LRX_SEQ_STAT_STATE n) 1).tally (.ofLane 6 n 1)

end Sys2Proof.Machine
end

