-- ==== Sys2Proof/Machine/Words.lean ====
section
/-! DEFINITION. Sys2Proof/Machine/Words.lean: the instruction words of the Ecnak cores (R194 to R199, R205, R206, R208, R210, R215, R218): the four formats, the
opcode, fn and xfn maps, the words that a core takes, and the words of the boot ROM's trap entries (R242). -/

namespace Sys2Proof.Machine

/-! ## Formats (R194) -/

/-- Format A. -/
def wordA (op rd ra rb fn : Nat) : Word :=
  BitVec.ofNat 32 (op * 2 ^ 26 + rd % 16 * 2 ^ 22 + ra % 16 * 2 ^ 18 + rb % 16 * 2 ^ 14 + fn % 2 ^ 6)

/-- Format I. -/
def wordI (op rd ra imm : Nat) : Word := BitVec.ofNat 32 (op * 2 ^ 26 + rd % 16 * 2 ^ 22 + ra % 16 * 2 ^ 18 + imm % 2 ^ 16)

/-- Format X. -/
def wordX (rd ra xfn imm : Nat) : Word := BitVec.ofNat 32 (0x30 * 2 ^ 26 + rd % 16 * 2 ^ 22 + ra % 16 * 2 ^ 18 + xfn * 2 ^ 12 + imm % 2 ^ 12)

/-- Format B. -/
def wordB (op cond off : Nat) : Word := BitVec.ofNat 32 (op * 2 ^ 26 + cond % 16 * 2 ^ 20 + off % 2 ^ 20)

/-- The register that four bits of a word name. -/
def regField (w : Word) (lo : Nat) : Fin 16 := Fin.ofNat 16 (bitsOf w.toNat lo 4)

/-- A field of a word. -/
def field (w : Word) (lo width : Nat) : Nat := bitsOf w.toNat lo width

/-- An instruction under a condition on the word's fields: a reserved field that is not 0, or a value that is not assigned, leaves none. -/
def whenField (ok : Bool) (i : Instr) : Option Instr := if ok then some i else none

/-! ## The maps -/

/-- The ALU group by fn (R197): in CMP rd is reserved. -/
def aluInstr (k : Core) (d a b : Fin 16) (fn : Nat) : Option Instr :=
  if fn = 0x00 then some (.add k d a b) else if fn = 0x01 then some (.sub k d a b) else if fn = 0x02 then some (.and_ k d a b)
  else if fn = 0x03 then some (.or_ k d a b) else if fn = 0x04 then some (.xor_ k d a b) else if fn = 0x05 then some (.shl k d a b)
  else if fn = 0x06 then some (.shr k d a b) else if fn = 0x07 then some (.sar k d a b) else if fn = 0x08 then some (.mul k d a b)
  else if fn = 0x09 then some (.mulh k d a b) else if fn = 0x0A then some (.mulhu k d a b) else if fn = 0x0B then whenField (d == 0) (.cmp k a b)
  else if fn = 0x0C then some (.min k d a b) else if fn = 0x0D then some (.max k d a b) else if fn = 0x0E then some (.adds k d a b)
  else if fn = 0x0F then some (.subs k d a b) else none

/-- A word of format A (R194, R196): bits 13 to 6 are reserved, and of JALR rb and fn too. -/
def formatA (k : Core) (w : Word) : Option Instr :=
  let d := regField w 22
  let a := regField w 18
  if field w 6 8 ≠ 0 then none
  else if field w 26 6 = 0x00 then aluInstr k d a (regField w 14) (field w 0 6)
  else whenField (field w 14 4 == 0 && field w 0 6 == 0) (.jalr k d a)

/-- A control register number that is assigned (R218). -/
def cregNamed (c : Nat) : Bool := decide (c < 23) && c != 14 && c != 15 && c != 20

/-- The loads and stores (R196). -/
def accessInstr (k : Core) (d a : Fin 16) (imm : BitVec 16) (op : Nat) : Option Instr :=
  if op = 0x10 then some (.ldw k d a imm) else if op = 0x11 then some (.ldh k d a imm) else if op = 0x12 then some (.ldhu k d a imm)
  else if op = 0x13 then some (.ldb k d a imm) else if op = 0x14 then some (.ldbu k d a imm) else if op = 0x18 then some (.stw k d a imm)
  else if op = 0x19 then some (.sth k d a imm) else if op = 0x1A then some (.stb k d a imm) else if op = 0x1B then some (.stwc k d a imm)
  else none

/-- The instructions of one profile in format I (R196, R199, R218): the fields that they do not name are reserved. -/
def profileInstr (k : Core) (d a : Fin 16) (imm : BitVec 16) (op : Nat) : Option Instr :=
  let none16 := d == 0 && a == 0 && imm == 0#16
  let c := Fin.ofNat 32 imm.toNat
  match k with
  | .sup =>
    if op = 0x28 then whenField (d == 0 && a == 0) (.svc imm)
    else if op = 0x29 then whenField none16 .eret
    else if op = 0x2A then whenField none16 .wfi
    else if op = 0x38 then whenField (a == 0 && cregNamed imm.toNat) (.movcRead d c)
    else if op = 0x39 then whenField (d == 0 && cregNamed imm.toNat) (.movcWrite c a)
    else none
  | .ls n => if op = 0x2B then whenField none16 (.stop n) else none

/-- A word of format I (R194, R196, R199): bits 17 and 16 are reserved, the upper bits of a shift amount, ra of LUI and rd of CMPI too. -/
def formatI (k : Core) (w : Word) : Option Instr :=
  let d := regField w 22
  let a := regField w 18
  let imm := BitVec.ofNat 16 (field w 0 16)
  let op := field w 26 6
  let amt := Fin.ofNat 32 imm.toNat
  let short := decide (imm.toNat < 32)
  if field w 16 2 ≠ 0 then none
  else if op = 0x04 then some (.addi k d a imm) else if op = 0x05 then some (.andi k d a imm) else if op = 0x06 then some (.ori k d a imm)
  else if op = 0x07 then some (.xori k d a imm) else if op = 0x08 then whenField short (.shli k d a amt) else if op = 0x09 then whenField short (.shri k d a amt)
  else if op = 0x0A then whenField short (.sari k d a amt) else if op = 0x0B then whenField (a == 0) (.lui k d imm)
  else if op = 0x0C then whenField (d == 0) (.cmpi k a imm)
  else if op < 0x20 then accessInstr k d a imm op
  else profileInstr k d a imm op

/-- A word of format B (R194, R196, R198): bits 25 and 24 are reserved, cond 0x8 is not assigned. -/
def formatB (k : Core) (w : Word) : Option Instr :=
  let cond := regField w 20
  let off := BitVec.ofNat 20 (field w 0 20)
  whenField (field w 24 2 == 0 && cond != 8) (if field w 26 6 = 0x20 then .b k cond off else .bl k cond off)

/-- The lane has correlators. -/
def hasCorr (n : Nat) : Bool := decide (n < 8) || decide (16 ≤ n) && decide (n < 32)

/-- Some bits of imm12 are 0, as an instruction that reserves them needs. -/
def imm12Free (imm lo width : Nat) : Bool := bitsOf imm lo width == 0

/-- A word of format X of lane sequencer n (R205, R206, R208, R210, R212, R215). -/
def formatX (n : Fin 48) (w : Word) : Option Instr :=
  let d := regField w 22
  let a := regField w 18
  let i := field w 0 12
  let imm := BitVec.ofNat 12 i
  let fits := decide (8 * bitsOf i 6 2 + bitsOf i 8 4 + 1 ≤ 32)
  let x := field w 12 6
  if x = 0x00 then whenField (imm12Free i 6 5) (.cld n d a imm)
  else if x = 0x01 then whenField (imm12Free i 6 6) (.cst n d a imm)
  else if x = 0x02 then whenField fits (.cupd n d a imm)
  else if x = 0x03 then whenField fits (.cupdu n d a imm)
  else if x = 0x04 then whenField (imm12Free i 1 11 && a == 0) (.cmt n d (bitAt i 0))
  else if x = 0x08 then whenField (hasCorr n && imm12Free i 6 6 && d == 0 && a == 0) (.cstart n imm)
  else if x = 0x09 then whenField (hasCorr n && imm12Free i 7 5) (.csgn n d a imm)
  else if x = 0x0A then whenField (hasCorr n && imm12Free i 8 4) (.hsum n d a imm)
  else if x = 0x10 then some (.wfe n d a imm)
  else if x = 0x18 then whenField (i == 0) (.mpost n d a imm)
  else if x = 0x19 then whenField (i == 0 && (d != a || d == 0)) (.mtake n d a)
  else none

/-- The instruction that a core reads from a word (R194 to R199, R205): none where the word traps with ILLEGAL. -/
def instrOf (k : Core) (w : Word) : Option Instr :=
  let op := field w 26 6
  if op = 0x00 ∨ op = 0x02 then formatA k w
  else if op = 0x20 ∨ op = 0x21 then formatB k w
  else if op = 0x30 then (match k with | .ls n => formatX n w | .sup => none)
  else formatI k w

/-! ## The trap entries of the boot ROM (R242) -/

/-- The first byte of the stub for cause 0 in boot ROM. DESIGN CHOICE: the stubs stand in the order of their causes, at an open place after the entries. -/
def stubBase : Nat := 0x200 + 256 * (Config.romStub % 509)

/-- The words of the stub for cause c. -/
def stubWord (c i : Nat) : Word :=
  if i = 0 then wordI 0x39 0 1 5 else if i = 1 then wordI 0x0B 1 0 0x0100 else if i = 2 then wordI 0x10 1 1 (4 * c) else wordA 0x02 0 1 0 0

/-- The word of the entry for cause c: a branch to its stub. -/
def entryWord (c : Nat) : Word := wordB 0x20 0 ((stubBase + 16 * c - (0x100 + 4 * c)) / 4)

/-- A byte of boot ROM. -/
def romByteAt (a : Nat) : BitVec 8 :=
  let part (w : Word) : BitVec 8 := BitVec.ofNat 8 (w.toNat / 2 ^ (8 * (a % 4)))
  if 0x100 ≤ a ∧ a < 0x140 then part (entryWord ((a - 0x100) / 4))
  else if stubBase ≤ a ∧ a < stubBase + 256 then part (stubWord ((a - stubBase) / 16) ((a - stubBase) / 4 % 4))
  else Config.romByte a

end Sys2Proof.Machine
end

