-- ==== Sys2Proof/Machine/Memory.lean ====
section
/-! DEFINITION. Sys2Proof/Machine/Memory.lean: the byte-addressed memories, their error-correcting code and the error log
(R337 to R343, R347). -/

namespace Sys2Proof.Machine

/-! ## Areas (R337, R430) -/

/-- A memory of R337. -/
inductive Area where
  | rom | sup | shared | cap | otp
  | lane (n : Nat)
  deriving DecidableEq, Repr

/-- The memory at a local address. -/
def areaOf (a : Nat) : Option Area :=
  if a < 0x20000 then some .rom
  else if 0x01000000 ≤ a ∧ a < 0x01800000 then some .sup
  else if 0x02000000 ≤ a ∧ a < 0x02400000 then some .shared
  else if 0x02400000 ≤ a ∧ a < 0x02800000 then some .cap
  else if 0x03000000 ≤ a ∧ a < 0x03180000 ∧ a % 0x8000 < 0x6000 then some (.lane ((a - 0x03000000) / 0x8000))
  else if 0x05000000 ≤ a ∧ a < 0x05001000 then some .otp
  else none

/-- Bytes of an ECC word. -/
def Area.width : Area → Nat
  | .lane _ => 4
  | _ => 8

/-- The code of LOG_INFO.MEM (R355). -/
def Area.code : Area → Nat
  | .rom => 0 | .sup => 1 | .shared => 2 | .cap => 3 | .otp => 4 | .lane _ => 5

/-- The SRAM bank at an address (R337). -/
def bankOf (a : Nat) : Nat := if a < 0x02000000 then (a - 0x01000000) / 0x40000 else 32 + (a - 0x02000000) / 0x40000

/-- The first address of a bank. -/
def bankBase (b : Nat) : Nat := if b < 32 then 0x01000000 + b * 0x40000 else 0x02000000 + (b - 32) * 0x40000

/-- A bit of a pair of LO and HI registers. -/
def State.pairBit (s : State) (lo i : Nat) : Bool := bitAt (s.rd (lo + 4 * (i / 32))).toNat (i % 32)

/-- A bit of a pair of LO and HI registers given a value. -/
def State.putPairBit (s : State) (lo i : Nat) (b : Bool) : State := s.put ⟨lo + 4 * (i / 32), i % 32, 1⟩ b

/-- A retirement or test target, 0 to 63 a bank and 64 to 111 a lane memory: first address and length. -/
def targetRange1 (t : Nat) : Nat × Nat := if t < 64 then (bankBase t, 0x40000) else (0x03000000 + (t - 64) * 0x8000, 0x6000)

/-- An address within a range. -/
def inRange (r : Nat × Nat) (a : Nat) : Bool := decide (r.1 ≤ a) && decide (a < r.1 + r.2)

/-- The address's bank or row block is removed (R350). -/
def State.removed (s : State) (a : Nat) : Bool :=
  match areaOf a with
  | some .sup | some .shared | some .cap => s.pairBit R.MEMX_REMOVED_LO (bankOf a)
  | some (.lane n) => bitAt (s.fld (F.MEMX_LANE_LOSS_REMOVED n)) (a % 0x8000 / 0x400)
  | _ => false

/-- The address lies in the target or the save area of a running test (R354). -/
def State.underTest (s : State) (a : Nat) : Bool :=
  match s.integ.test with
  | some t => inRange (targetRange1 t.target) a || inRange (t.save, 0x40000) a
  | none => false

/-- Why an access to a memory gets an error response, whatever its word holds: unmapped 3 (R431), not filled 1 (R340), lane off 6 (R467),
removed 1 (R350), under test 1 (R354). -/
def State.memGate (s : State) (a : Nat) : Option Nat :=
  match areaOf a with
  | none => some 3
  | some .rom | some .otp => none
  | some (.lane n) => if !s.laneOn n then some 6 else if s.removed a || s.underTest a then some 1 else none
  | some _ => if !s.filled || s.removed a || s.underTest a then some 1 else none

/-! ## ECC words -/

/-- A word of a lane memory has 32 data bits, one of the others 64. -/
def laneWord (w : Nat) : Bool := match areaOf w with
  | some (.lane _) => true
  | _ => false

/-- The flipped bits of the ECC word at `w`. -/
def State.flipsAt (s : State) (w : Nat) : Nat := tabGet (fun _ => 0) s.integ.flips w
def State.setFlips (s : State) (w v : Nat) : State := { s with integ := { s.integ with flips := tabPut (fun _ => 0) s.integ.flips w v } }

/-- The class of the ECC word at `w`. -/
def State.ecc (s : State) (w : Nat) : Ecc := eccClass (laneWord w) (s.flipsAt w)

/-- The ECC word at `w` with valid check bits for the data it holds. -/
def State.soundWord (s : State) (w : Nat) : State := s.setFlips w 0

/-- The OTP shadow's offsets that hold the lifecycle copies and the fields of R418. -/
def otpField (off : Nat) : Bool := decide (0x100 ≤ off) && decide (off < 0x104) || decide (0x200 ≤ off) && decide (off < 0x278)

/-- The byte of the OTP array behind an address of the shadow: the fields of R418 as burned, the rest as manufacture left it. -/
def State.otpArray (s : State) (a : Nat) : BitVec 8 :=
  if otpField (a - 0x05000000) then tabGet (fun _ => 0#8) s.mem a else Config.otpByte (a - 0x05000000)

/-- What a byte of the OTP shadow differs in from the array. -/
def State.otpDiffAt (s : State) (a : Nat) : BitVec 8 := tabGet (fun _ => 0#8) s.integ.otpDiff a

/-- The byte stored at an address; boot ROM holds what manufacture put there, the OTP shadow what was loaded and what has flipped since. -/
def State.byteAt (s : State) (a : Nat) : BitVec 8 :=
  if a < 0x20000 then romByteAt a
  else if areaOf a == some .otp then s.otpArray a ^^^ s.otpDiffAt a
  else tabGet (fun _ => 0#8) s.mem a

/-- Consecutive bytes. -/
def State.bytesAt (s : State) (a n : Nat) : List (BitVec 8) := (List.range n).map fun i => s.byteAt (a + i)

/-- A byte stored. -/
def State.setByte (s : State) (a : Nat) (b : BitVec 8) : State := { s with mem := tabPut (fun _ => 0#8) s.mem a b }

/-- A little-endian number of bytes. -/
def leValue : List (BitVec 8) → Nat
  | [] => 0
  | b :: bs => b.toNat + 256 * leValue bs

/-- A number as `n` little-endian bytes. -/
def leBytes : Nat → Nat → List (BitVec 8)
  | 0, _ => []
  | n + 1, v => BitVec.ofNat 8 v :: leBytes n (v / 256)

/-- A range filled with zero data and valid check bits (R339). -/
def State.fill (s : State) (p : Nat → Bool) : State :=
  { s with mem := tabClear p s.mem, integ := { s.integ with flips := tabClear p s.integ.flips } }

/-! ## The error log (R347) -/

/-- The types of LOG_INFO. -/
inductive EccKind where
  | ce | ue | poisoned | scrubUe
  deriving DecidableEq, Repr

def EccKind.code : EccKind → Nat
  | .ce => 0 | .ue => 1 | .poisoned => 2 | .scrubUe => 3

/-- A reader or writer of the memories: the code of LOG_INFO.REQ and its master code, 0 for a hardware requester. -/
structure Reader where
  req    : Nat
  master : Nat
  deriving DecidableEq, Repr

/-- The log without its newest CE entry, none when it has no CE entry. -/
def dropNewestCe (l : List LogEntry) : Option (List LogEntry) :=
  match l.reverse.findIdx? fun e => e.info.toNat % 4 == 0 with
  | none => none
  | some i => some (l.reverse.eraseIdx i).reverse

def State.setMemLog (s : State) (l : List LogEntry) : State := { s with integ := { s.integ with log := l } }

/-- The count of a CE's bank or lane memory. -/
def State.countCe (s : State) (a : Nat) : State :=
  let at_ (base i : Nat) : Fld := ⟨base + 4 * (i / 4), 8 * (i % 4), 8⟩
  match areaOf a with
  | some .sup | some .shared | some .cap => s.bump (at_ (R.MEMX_BANK_CE 0) (bankOf a)) 1
  | some (.lane n) => s.bump (at_ (R.MEMX_LANE_CE 0) n) 1
  | _ => s

/-- An event of the ECC word at `w` counted and logged. -/
def State.memLog (s : State) (k : EccKind) (write : Bool) (w : Nat) (r : Reader) (syn : BitVec 8) (bit : Nat) : State :=
  let s := if k = .ce then (s.countCe w).put F.MEMX_EVENT_CE true
    else if k = .scrubUe then s.put F.MEMX_EVENT_SCRUB_UE true else s.put F.MEMX_EVENT_UE true
  let s := s.tally (s.masterEvent (if k = .ce then 0x12 else 0x13) r.master (some w))
  let mem := match areaOf w with
    | some a => a.code
    | none => 0
  let e : LogEntry :=
    { ts := s.tb.toNat, data := BitVec.ofNat 32 w,
      info := BitVec.ofNat 32 (k.code + 4 * b2n write + 8 * mem + 128 * r.req + 2048 * r.master + 32768 * syn.toNat + 8388608 * bit) }
  if s.integ.log.length < 16 then s.setMemLog (s.integ.log ++ [e])
  else
    let s := s.put F.MEMX_EVENT_LOG_FULL true
    if k = .ce then s.bump F.MEMX_LOG_DROP_CE 1
    else
      match dropNewestCe s.integ.log with
      | some l => s.setMemLog (l ++ [e])
      | none => s.bump F.MEMX_LOG_DROP_UE 1

/-! ## Reads and writes (R341 to R344) -/

/-- Bits of the byte at an address flipped: in the OTP shadow, not in the array behind it. -/
def State.flipByte (s : State) (a : Nat) (x : BitVec 8) : State :=
  if areaOf a = some .otp then { s with integ := { s.integ with otpDiff := tabPut (fun _ => 0#8) s.integ.otpDiff a (s.otpDiffAt a ^^^ x) } }
  else s.setByte a (s.byteAt a ^^^ x)

/-- The data of an ECC word as its flipped bits make it. -/
def State.flipData (s : State) (w v : Nat) : State :=
  (List.range (dataBits (laneWord w) / 8)).foldl (fun s i => s.flipByte (w + i) (BitVec.ofNat 8 (v / 2 ^ (8 * i)))) s

/-- The ECC word at `w` poisoned: the data as it stands, with the check bits of R338. -/
def State.poisonWord (s : State) (w : Nat) : State := (s.flipData w (s.flipsAt w)).setFlips w (poisonFlips (laneWord w))

/-- An OTP shadow word loaded from OTP again (R342). -/
def State.otpReload (s : State) (w : Nat) : State :=
  { s.soundWord w with integ := { (s.soundWord w).integ with otpDiff := tabClear (inRange (w, 8)) s.integ.otpDiff } }

/-- Bits of the ECC word at `w` flip; where what they make is taken for sound or for another single error, that is the data it then stands for (R338). -/
def State.upset (s : State) (w v : Nat) : State :=
  let lane := laneWord w
  let v := s.flipsAt w ^^^ v % 2 ^ (if lane then 39 else 72)
  match eccClass lane v with
  | .clean => (s.flipData w v).soundWord w
  | .ce b _ => (s.flipData w (v ^^^ 2 ^ b)).setFlips w (2 ^ b)
  | _ => s.setFlips w v

/-- A read of the ECC word at `w`: a correctable one is corrected and written back, one in error is poisoned, and neither it nor a poisoned one
reaches its reader (false). Boot ROM is never written. -/
def State.eccRead (s : State) (r : Reader) (w : Nat) : State × Bool :=
  let keep := areaOf w == some .rom
  match s.ecc w with
  | .clean => (s, true)
  | .ce bit syn => ((if keep then s else s.soundWord w).memLog .ce false w r syn bit, true)
  | .ue syn => ((if keep then s else s.poisonWord w).memLog .ue false w r syn 0, false)
  | .poison => (s.memLog .poisoned false w r 0x7F#8 0, false)

/-- The ECC word that covers an address. -/
def eccBase (a : Nat) : Nat :=
  match areaOf a with
  | some m => a - a % m.width
  | none => a

/-- The ECC words of `n` bytes from `a` on, within one memory. -/
def eccWords (a n : Nat) : List Nat :=
  match areaOf a with
  | some m => if n = 0 then [] else (List.range ((a % m.width + n + m.width - 1) / m.width)).map fun i => a - a % m.width + i * m.width
  | none => []

/-- The places of an access where the gate of a memory is asked: its ends, and one in every block of 1 KiB between them, so that no bank or row block of R337 is passed over. -/
def gatePoints (a n : Nat) : List Nat := if n = 0 then [] else ((List.range ((n + 1023) / 1024)).map fun i => a + 1024 * i) ++ [a + n - 1]

/-- How an access of the memories ends: done, an error response before any word is reached, or a word in error met. -/
inductive MemRes where
  | done
  | denied (code : Nat)
  | bad
  deriving DecidableEq, Repr

/-- The error code of R302. -/
def MemRes.resp : MemRes → Resp
  | .done => .ok
  | .denied c => .err c
  | .bad => .err 1

/-- A read of `n` bytes at `a`. -/
def State.memRead (s : State) (r : Reader) (a n : Nat) : State × MemRes × List (BitVec 8) :=
  match (gatePoints a n).filterMap s.memGate with
  | c :: _ => (s, .denied c, [])
  | [] =>
    let x := (eccWords a n).foldl (fun x w =>
      let y := x.1.eccRead r w
      (y.1, x.2 && y.2)) (s, true)
    if x.2 then (x.1, .done, s.bytesAt a n) else (x.1, .bad, [])

/-- A write into the ECC word at `w`, whole or not (R343, R344): false where a partial write meets a word in error. -/
def State.eccWrite (s : State) (r : Reader) (w : Nat) (whole : Bool) : State × Bool :=
  if whole then (s.soundWord w, true)
  else
    match s.ecc w with
    | .clean => (s, true)
    | .ce bit syn => ((s.soundWord w).memLog .ce false w r syn bit, true)
    | .ue syn => ((s.poisonWord w).memLog .ue true w r syn 0, false)
    | .poison => (s.memLog .poisoned true w r 0x7F#8 0, false)

/-- A write of bytes at `a`, `none` for a byte not enabled. Boot ROM and the OTP shadow refuse every write (R431). -/
def State.memWrite (s : State) (r : Reader) (a : Nat) (bs : List (Option (BitVec 8))) : State × MemRes :=
  match (gatePoints a bs.length).filterMap s.memGate with
  | c :: _ => (s, .denied c)
  | [] =>
    if areaOf a = some .rom ∨ areaOf a = some .otp then (s, .denied 1)
    else
      let width := match areaOf a with
        | some m => m.width
        | none => 1
      let on (b : Nat) : Bool := decide (a ≤ b) && ((bs.getD (b - a) none).isSome)
      let x := (eccWords a bs.length).foldl (fun x w =>
        let en := (List.range width).filter fun i => on (w + i)
        if en.isEmpty then x
        else
          let y := x.1.eccWrite r w (en.length == width)
          (y.1, x.2 && y.2)) (s, true)
      let s := (bs.zipIdx).foldl (fun s b => match b.1 with
        | some v => s.setByte (a + b.2) v
        | none => s) x.1
      (s, if x.2 then .done else .bad)

/-- Bytes written from a whole ECC word's start on, a word at a time: a word whose write is refused keeps what it holds (R343, R350, R354). -/
def State.putWords (s : State) (r : Reader) (a : Nat) (bs : List (BitVec 8)) : State :=
  (List.range ((bs.length + 7) / 8)).foldl (fun s i => (s.memWrite r (a + 8 * i) (((bs.drop (8 * i)).take 8).map some)).1) s

/-! ## Copies (R349, R354) -/

/-- The entries of a table in a range of `n` keys from `src` on, put `dst - src` further on in place of what stood there. -/
def tabMove {α : Type} [DecidableEq α] (dflt : Nat → α) (l : List (Nat × α)) (src dst n : Nat) : List (Nat × α) :=
  (l.filter fun c => inRange (src, n) c.1).foldl (fun m c => tabPut dflt m (c.1 - src + dst) c.2) (tabClear (inRange (dst, n)) l)

/-- The words of a range read once by a copy: correctable errors corrected, the others poisoned. -/
def State.copyRead (s : State) (r : Reader) (range : Nat × Nat) : State :=
  ((s.integ.flips.map (·.1)).filter (inRange range)).foldl (fun s w => (s.eccRead r w).1) s

/-- A range of the memories copied onto another of whole ECC words: read once, and poison carried to the word that its data lies in. -/
def State.copyRange (s : State) (r : Reader) (src dst n : Nat) : State :=
  let s := s.copyRead r (src, n)
  let bad := (s.integ.flips.map (·.1)).filter (inRange (src, n))
  let s := { s with mem := tabMove (fun _ => 0#8) s.mem src dst n, integ := { s.integ with flips := tabClear (inRange (dst, n)) s.integ.flips } }
  bad.foldl (fun s w => s.poisonWord (eccBase (w - src + dst))) s

end Sys2Proof.Machine
end

