-- ==== Sys2Proof/Machine/Lanes.lean ====
section
/-! DEFINITION. Sys2Proof/Machine/Lanes.lean: what stopping, starting and darkening a lane does, on which the lane state tables
(R64, R95, R122, R162), the ladders and the transitions stand. -/

namespace Sys2Proof.Machine

/-! ## Time -/

/-- Ticks of 1.28 ns in whole microseconds and milliseconds. -/
def usOf (t : Nat) : Nat := t * 128 / 100000
def msOf (t : Nat) : Nat := t * 128 / 100000000

/-- A lane's structure updated. -/
def State.onLane (s : State) (n : Nat) (f : Lane → Lane) : State := s.setLane n (f (s.lane n))

/-- The near-end loopback of Diagnostic is in force or being entered (R10, R11, R99). -/
def State.nearEnd (s : State) : Bool := s.loop == 3

/-- The lanes of a transition or of the mode in force run or start: a data mode or Diagnostic, and not while a transition ramps the
lanes down or leaves for Standby or Dormant. -/
def State.acting (s : State) : Bool :=
  isData s.runMode && !s.trans.ramping &&
    (!s.is F.MODE_STATUS_BUSY || isData (s.fld F.MODE_STATUS_IN_TARGET))

/-- No light may leave: LOOP_NOW is the near-end loopback while the device is in Diagnostic or in a transition into it (R121). -/
def State.darkLoop (s : State) : Bool :=
  s.fld F.MODE_DIAG_LOOP_NOW == 3 && (s.mode == 5 || s.is F.MODE_STATUS_BUSY && s.fld F.MODE_STATUS_IN_TARGET == 5)

/-- The fixed-latency attribute that outputs run or start with: that of the transition that starts them, else the one in force (R28, R50). -/
def State.fixNow (s : State) : Bool := if s.inTarget then s.trans.fixlat else s.is F.MODE_STATUS_FIXLAT

/-- The output of a transmit lane: j = 0 to 7 LTX, 8 to 23 HTX (R49); and its lane. -/
def outOf (n : Nat) : Nat := if n < 16 then n - 8 else n - 24
def laneOfOut (j : Nat) : Nat := if j < 8 then 8 + j else 24 + j

/-! ## Recalibration attempts that end with the lane (R189) -/

/-- The pause ends (R185, R211): its length is recorded and line 2 set. -/
def State.endPause (s : State) (n : Nat) : State :=
  (s.setFld (F.CAL_LANE_STAT_LAST_PAUSE n) (min (usOf (s.clock - (s.lane n).pauseAt)) 0xFFFF)).line n 2

/-- An attempt or pending trims of a lane that stopped releasing data are dropped (R189). -/
def State.calAbort (s : State) (n : Nat) : State :=
  let st := s.fld (F.CAL_LANE_STAT_STATE n)
  if st = 2 ∨ st = 3 then
    let s := if st = 2 then s.endPause n else s
    (s.setFld (F.CAL_LANE_STAT_STATE n) 1).put F.CAL_EVENT_ABORTED true
  else s

/-- The check of R189 on one lane. -/
def State.calCheck (s : State) (n : Nat) : State := if s.releasing n then s else s.calAbort n

/-! ## Releasing data (R96, R146) -/

/-- The receive pipeline of LRXn may release decoded data (R96, R146). DEDUCED: as soon as its own training has reached data, which may be before the transition
completes (log entry 86). -/
def State.mayRelease (s : State) (n : Nat) : Bool :=
  !s.oos n && s.laneOn n && s.fld (F.LRX_STATUS_ACQ_STATE n) == 6 && s.is (F.LRX_TRN_STAT_RX_DATA n) &&
    (!s.coded || s.is (F.LRX_CW_STAT_LOCKED n)) && !s.halfPair n

/-! ## Host code monitors (R150, R151) -/

/-- The slots a unit spans. -/
def rsSpan (c : Nat) : Nat := 2 ^ c

/-- Unit u of the line lane of sequencer index n counts (R150): data mode, or Diagnostic without loopback, a supported layout and SPAN, its slot a multiple of SPAN. -/
def State.rsActive (s : State) (n u : Nat) : Bool :=
  let layout := s.fld (F.LRX_RS_CTL_LAYOUT n u)
  let span := s.fld (F.LRX_RS_CTL_SPAN n u)
  let rate := b2n s.lineRate
  let ok := (layout == 1 && rate == 1 && span == 0) || (layout == 2 && span == rate) || (layout == 3 && span == 1 + rate) || (layout == 4 && span == 2 + rate)
  s.acting && s.loop == 0 && s.laneOn n && ok && (2 * (n % 8) + u) % rsSpan span == 0

/-- A unit starts anew: to search, or to follow the alignment it has found. -/
def State.rsStart (s : State) (n u : Nat) (aligned : Bool) : State :=
  (s.put (F.LRX_RS_STAT_ALIGNED n u) aligned).onLane n fun l =>
    { l with rs := l.rs.filter fun e => e.1 != u, rsDone := if u = 0 then (0, l.rsDone.2) else (l.rsDone.1, 0) }

/-- The units of one direction (base 0 receive, 8 transmit) whose span holds a slot; unit i is unit i mod 2 of line lane i / 2. -/
def State.rsUnits (s : State) (base slot : Nat) : List Nat :=
  (List.range 16).filter fun i => decide (i ≤ slot) && decide (slot < i + rsSpan (s.fld (F.LRX_RS_CTL_SPAN (base + i / 2) (i % 2))))

/-- A monitor unit's alignment falls as its slots stop carrying data (R151). -/
def State.rsDrop (s : State) (base slot : Nat) : State := each (s.rsUnits base slot) (fun i s => s.rsStart (base + i / 2) (i % 2) false) s

/-- The units over a slot that count read the payload bits it carries (R149). -/
def State.rsRead (s : State) (base slot bits : Nat) : State :=
  each (s.rsUnits base slot) (fun i s =>
    if s.rsActive (base + i / 2) (i % 2) then s.onLane (base + i / 2) fun l => { l with rs := l.rs ++ [(i % 2, slot, BitVec.ofNat 256 bits)] } else s) s

/-- STATUS.DATA of LRXn brought up to date, and the recalibrations and commits that depend on it or on the pair's training (R96, R189, R208). -/
def State.syncPair (s : State) (n : Nat) : State :=
  let s := if s.is (F.LRX_STATUS_DATA n) && !s.mayRelease n then (s.rsDrop 0 (2 * n)).rsDrop 0 (2 * n + 1) else s
  let s := s.put (F.LRX_STATUS_DATA n) (s.mayRelease n)
  [n, n + 8, s.hostOf 16 (2 * n), s.hostOf 16 (2 * n + 1), s.hostOf 32 (2 * n), s.hostOf 32 (2 * n + 1)].foldl
    (fun s k => (s.calCheck k).cmtCheck k) s

/-! ## HTX squelch (R24, R67) -/

/-- STATUS.SQUELCHED of HTXk: CTL.SQUELCH, out of service, its source line lane out of service, or not started. -/
def State.syncHtx (s : State) (k : Nat) : State :=
  let q := s.is (F.HTX_CTL_SQUELCH k) || s.oos k || s.oos (s.lineOf k) || !(s.lane k).started
  if q = s.is (F.HTX_STATUS_SQUELCHED k) then s else (s.put (F.HTX_STATUS_SQUELCHED k) q).line k 4

/-! ## Transmit reference (R112) -/

/-- The reference of the LTX synthesiser chosen anew: the lane feeding slot 2n while UP, else that of slot 2n + 1, else holdover, or
nominal before either has been UP. -/
def State.syncFreq (s : State) (n : Nat) : State :=
  let up (slot : Nat) : Bool := s.fld (F.HRX_STATUS_STATE (s.hostOf 16 slot)) == 2
  if !s.laneOn (n + 8) then s
  else
    let r := if up (2 * n) then 1 else if up (2 * n + 1) then 2 else if (s.lane (n + 8)).followed then 3 else 0
    let s := if r = 1 ∨ r = 2 then s.onLane (n + 8) fun l => { l with followed := true } else s
    s.setFld (F.LTX_STATUS_FREQ_SRC (n + 8)) r

/-! ## Crossings (R51, R52) -/

def State.pound (s : State) (p : Nat) : List Barge := tabGet (fun _ => []) s.fab.pounds p
def State.setPound (s : State) (p : Nat) (l : List Barge) : State :=
  { s with fab := { s.fab with pounds := tabPut (fun _ => []) s.fab.pounds p l } }
def State.store (s : State) (j : Nat) : List Barge := tabGet (fun _ => []) s.fab.stores j
def State.setStore (s : State) (j : Nat) (l : List Barge) : State :=
  { s with fab := { s.fab with stores := tabPut (fun _ => []) s.fab.stores j l } }
def State.crossing (s : State) (n : Nat) : Nat × Bool := tabGet (fun _ => (1, false)) s.fab.cross n
def State.setCrossing (s : State) (n : Nat) (c : Nat × Bool) : State :=
  { s with fab := { s.fab with cross := tabPut (fun _ => (1, false)) s.fab.cross n c } }

/-- The crossing exchanges barges: READY and ACK of one epoch. -/
def State.crossOpen (s : State) (n : Nat) : Bool := (s.crossing n).1 == 0

/-- Barges discarded on a lane's crossing (R51, R55). -/
def State.xdrop (s : State) (n k : Nat) : State :=
  if k = 0 then s else ((s.bump (F.FAB_XDROP_COUNT n) k).put F.FAB_EVENT_XDROP true).tally (.ofLane 0x0F n k)

/-- The pound of a lane emptied and counted (R51, R52): the input pound of a receive lane, the output store of a transmit lane. -/
def State.dropPound (s : State) (n : Nat) : State :=
  if n < 8 ∨ 16 ≤ n ∧ n < 32 then (s.xdrop n (s.pound n).length).setPound n []
  else (s.xdrop n (s.store (outOf n)).length).setStore (outOf n) []

/-- One side of the crossing goes into reset (R51). -/
def State.crossReset (s : State) (n : Nat) : State := (s.dropPound n).setCrossing n (1, (s.crossing n).2)

/-- The reset side raises READY with its epoch inverted (R52). -/
def State.crossReady (s : State) (n : Nat) : State := s.setCrossing n (2, !(s.crossing n).2)

/-! ## Codeword lock (R142 to R144, R148) -/

/-- No lock and no hunt. A decoder that has lost its groups works at the present throttle level at once (R374). -/
def State.cwStop (s : State) (n : Nat) : State :=
  (s.wr (R.LRX_CW_STAT n) 0#32).onLane n fun l => { l with last64 := [], group := [], dec := [], saver := s.fld F.THERM_STAT_LEVEL }

/-- A hunt starts (R144); none in Transparent (R153). -/
def State.cwHunt (s : State) (n off : Nat) : State :=
  let s := s.cwStop n
  if s.coded then (s.put (F.LRX_CW_STAT_HUNTING n) true).setFld (F.LRX_CW_STAT_OFFSET n) off else s

/-- A lock is lost or restarted, and the hunt goes on at an offset from the next symbol to reach the lock engine (R144); the codewords evaluated last stay counted
(R153), and the decoder works at the present throttle level at once (R374). -/
def State.cwSeek (s : State) (n off : Nat) : State :=
  let s := ((s.put (F.LRX_CW_STAT_LOCKED n) false).put (F.LRX_CW_STAT_HUNTING n) true).setFld (F.LRX_CW_STAT_OFFSET n) off
  s.onLane n fun l => { l with group := [], saver := s.fld F.THERM_STAT_LEVEL }

/-! ## Waveform capture (R101) -/

/-- A running capture is aborted: no further sample, DONE at 0, WRITTEN as it stands. -/
def State.wcapAbort (s : State) (n : Nat) : State :=
  if s.is (F.LRX_WCAP_STAT_BUSY n) then
    let s := ((s.put (F.LRX_WCAP_STAT_BUSY n) false).put (F.LRX_WCAP_STAT_DONE n) false).put (F.LRX_WCAP_STAT_ABORTED n) true
    (s.setFld (F.LRX_WCAP_STAT_WRITTEN n) (s.lane n).wcapPos).put (F.LRX_EVENT_WCAP_DONE n) true
  else s

/-! ## Training (R162, R169, R173) -/

/-- The pair's training state; ALIGN and OFF clear PEER_OK, ALIGN forgets the last request (R164, R169). A change of STATE or of PEER_OK sets line 10 (R211). -/
def State.trnSet (s : State) (n st : Nat) : State :=
  let same := s.fld (F.LRX_TRN_CTL_STATE n) == st && !((st == 0 || st == 1) && s.is (F.LRX_TRN_STAT_PEER_OK n))
  let s := s.setFld (F.LRX_TRN_CTL_STATE n) st
  let s := if st = 0 ∨ st = 1 then (s.put (F.LRX_TRN_STAT_PEER_OK n) false).onLane n fun l => { l with okRun := 0 } else s
  let s := if st = 1 then s.onLane n fun l => { l with lastReq := 0, heard := false } else s
  if same then s else s.pairLine n 10

/-- The training timer's reading in ms (R178). -/
def State.trnElapsed (s : State) (n : Nat) : Nat :=
  if s.is (F.LRX_TRN_STAT_TIMER_RUN n) then min (msOf (s.clock - (s.lane n).timer)) 255 else s.fld (F.LRX_TRN_STAT_ELAPSED n)

/-- The training timer stops (R173). -/
def State.timerStop (s : State) (n : Nat) : State :=
  (s.setFld (F.LRX_TRN_STAT_ELAPSED n) (s.trnElapsed n)).put (F.LRX_TRN_STAT_TIMER_RUN n) false

/-- Frames stop and the state returns to OFF (R162); a change of RX_DATA sets line 10 too (R211). -/
def State.trnStop (s : State) (n : Nat) : State :=
  let was := s.fld (F.LRX_TRN_CTL_STATE n)
  let s := if s.is (F.LRX_TRN_STAT_RX_DATA n) then s.pairLine n 10 else s
  let s := ((s.timerStop n).put (F.LRX_TRN_STAT_RX_DATA n) false).setFld (F.LRX_TRN_STAT_COUNTDOWN n) 15
  let s := ((s.cwStop n).trnSet n 0).onLane n fun l => { l with okRun := 0, badRun := 0, peerData := false, cdLeft := 0 }
  let s := if was = 0 then s else s.setFld (F.LTX_CTL_SRC (n + 8)) 0
  s.syncPair n

/-! ## LTX: bias, ramp and squelch (R113 to R125) -/

/-- Raised-cosine ramp factors (1 - cos(πk/64))/2 for k = 0 to 64, in units of 2^-32 (R113). -/
def raisedCosine : List Nat :=
  [0, 2586738, 10340721, 23243268, 41263296, 64357394, 92469925, 125533164, 163467459, 206181423, 253572154, 305525484,
   361916252, 422608608, 487456340, 556303222, 628983398, 705321774, 785134444, 868229132, 954405657, 1043456411] ++
  [1135166864, 1229316076, 1325677235, 1424018197, 1524102050, 1625687685, 1728530372, 1832382353, 1936993442, 2042111620,
   2147483648, 2252855676, 2357973854, 2462584943, 2566436924, 2669279611, 2770865246, 2870949099, 2969290061, 3065651220] ++
  [3159800432, 3251510885, 3340561639, 3426738164, 3509832852, 3589645522, 3665983898, 3738664074, 3807510956, 3872358688,
   3933051044, 3989441812, 4041395142, 4088785873, 4131499837, 4169434132, 4202497371, 4230609902, 4253704000, 4271724028,
   4284626575, 4292380558, 4294967296]

/-- The ramp factor at step k in units of 2^-32 (R113). -/
def rampFactor (shape : Bool) (k : Nat) : Nat := if shape then raisedCosine.getD k 4294967296 else k * 67108864

/-- F: the smaller of FLOOR and TARGET (R117). -/
def State.biasFloor (s : State) (n : Nat) : Nat := min (s.fld (F.LTX_BIAS_FLOOR n)) (s.fld (F.LTX_BIAS_TARGET n))

/-- LDSET at ramp step k (R117): F + round((TARGET - F) * a_k), an exact half away from zero. -/
def State.biasAt (s : State) (n k : Nat) : Nat :=
  let f := s.biasFloor n
  f + (2 * (s.fld (F.LTX_BIAS_TARGET n) - f) * rampFactor (s.lane n).shape k + 4294967296) / 8589934592

/-- The code driven on LDSETn. -/
def State.setBias (s : State) (n v : Nat) : State := s.setFld (F.LTX_BIAS_STAT_NOW n) v

/-- A ramp step applied: the step index and the bias together (R117). -/
def State.setStep (s : State) (n k : Nat) : State := (s.setFld (F.LTX_STATUS_STEP n) k).setBias n (s.biasAt n k)

/-- The LTX state; lines 4 and, on LIT, DARK or FAULT_DARK, 12 (R211). -/
def State.ltxSet (s : State) (n st : Nat) : State :=
  if s.fld (F.LTX_STATUS_STATE n) = st then s
  else
    let s := (s.setFld (F.LTX_STATUS_STATE n) st).line n 4
    if st = 1 ∨ st = 3 ∨ st = 6 then s.pairLine (n - 8) 12 else s

/-- The lane sends no light: OFF, DARK or FAULT_DARK. -/
def State.ltxDark (s : State) (n : Nat) : Bool :=
  let st := s.fld (F.LTX_STATUS_STATE n)
  st == 0 || st == 1 || st == 6

/-- SQUELCH = 1 (R115, R122): a lit lane ramps down, a rising one turns at the next step boundary. -/
def State.squelch (s : State) (n : Nat) : State :=
  let st := s.fld (F.LTX_STATUS_STATE n)
  let s := s.put (F.LTX_CTL_SQUELCH n) true
  if st = 3 then (s.onLane n fun l => { l with shape := s.is (F.LTX_RAMP_SHAPE n), reverse := false }).ltxSet n 4
  else if st = 2 then s.onLane n fun l => { l with reverse := true }
  else if st = 4 then s.onLane n fun l => { l with reverse := false }
  else s

/-- A write of SQUELCH = 0 is taken (R121); an LTX half alone in service stays squelched outside Diagnostic (R163). -/
def State.mayLight (s : State) (n : Nat) : Bool :=
  s.rd (R.LTX_FAULT_CAUSE n) == 0#32 && !s.oos n && s.fld (F.LTX_STATUS_STATE n) != 0 && s.is (F.LTX_STATUS_SYNTH_LOCK n)
    && !s.darkLoop && !(s.halfPair n && s.runMode != 5)

/-- SQUELCH = 0 accepted (R122): a ramp up starts, or a ramp down turns at the next step boundary. DESIGN CHOICE: in FAULT_RAMP, its causes cleared already, SQUELCH becomes 0 and
the fault ramp runs on (log entry 109). -/
def State.light (s : State) (n : Nat) : State :=
  let st := s.fld (F.LTX_STATUS_STATE n)
  let s := s.put (F.LTX_CTL_SQUELCH n) false
  if st = 1 ∨ st = 6 then
    let s := s.onLane n fun l => { l with shape := s.is (F.LTX_RAMP_SHAPE n), reverse := false }
    (s.setStep n 0).ltxSet n 2
  else if st = 4 then s.onLane n fun l => { l with reverse := true }
  else if st = 2 then s.onLane n fun l => { l with reverse := false }
  else s

/-- SQUELCH = 0 written: lit, or refused with RELIGHT_REFUSED and SQUELCH left at 1 (R121). -/
def State.unsquelch (s : State) (n : Nat) : State × Bool :=
  if s.mayLight n then (s.light n, true)
  else ((s.put (F.LTX_CTL_SQUELCH n) true).put (F.LTX_EVENT_RELIGHT_REFUSED n) true, false)

/-- FAULT_DARK reached: bias 0 (R122, R124). -/
def State.faultDark (s : State) (n : Nat) : State :=
  let s := s.onLane n fun l => { l with forcing := false }
  (((s.setFld (F.LTX_STATUS_STEP n) 0).setBias n 0).put (F.LTX_EVENT_FAULT_RAMP n) true).ltxSet n 6

/-- A fault trigger with its cause (R123 to R125): a lit or ramping lane starts its fault ramp-down, a dark one goes to FAULT_DARK, and in
the other states only the cause is recorded. The fault ramp-down stops the pair's frames (R162) and sets SQUELCH (R120). -/
def State.ltxFault (s : State) (n : Nat) (cause : Fld) : State :=
  let st := s.fld (F.LTX_STATUS_STATE n)
  let s := s.put cause true
  if st = 2 ∨ st = 3 ∨ st = 4 then
    let s := (s.put (F.LTX_CTL_SQUELCH n) true).onLane n fun l => { l with reverse := false }
    (s.ltxSet n 5).trnStop (n - 8)
  else if st = 1 then (s.faultDark n).trnStop (n - 8)
  else s

/-! ## Lanes to OFF -/

/-- The receive chain of a lane stops: its correlators without a result. -/
def State.corrStop (s : State) (n : Nat) : State := s.onLane n fun l => { l with corrRun := false, corrGo := false, stat := Stat.init, rx := Rx.init }

/-- Clock recovery of an LRX lane is not running or starts anew: no lock, line 7 on the change (R211). -/
def State.cdrDrop (s : State) (n : Nat) : State :=
  if s.is (F.LRX_STATUS_CDR_LOCK n) then (s.put (F.LRX_STATUS_CDR_LOCK n) false).line n 7 else s

/-- The acquisition state of LRXn (R95): leaving ADAPT or SEEK clears the program's report, a change sets line 4, and leaving LOCKED in
TUNE or READY takes training back to ALIGN (R162). -/
def State.lrxSet (s : State) (n st : Nat) : State :=
  let old := s.fld (F.LRX_STATUS_ACQ_STATE n)
  if old = st then s
  else
    let s := (s.setFld (F.LRX_STATUS_ACQ_STATE n) st).line n 4
    let s := if st ≤ 2 ∨ st = 7 then s.cdrDrop n else s
    let s := if old = 3 then s.put (F.LRX_ACQ_CMD_PROG_READY n) false else s
    let s := if old = 4 then s.put (F.LRX_ACQ_CMD_QUALIFIED n) false else s
    let t := s.fld (F.LRX_TRN_CTL_STATE n)
    let s := if old = 6 ∧ (t = 2 ∨ t = 3) then
        ((s.put (F.LRX_TRN_CTL_RX_READY n) false).setFld (F.LRX_TRN_TXREQ_COEF_REQ n) 0).trnSet n 1
      else s
    s.syncPair n

/-- The fields of LRX STATUS that fall with the lane: a lane that is not acquiring has no presence, lock or capture count. -/
def State.lrxClear (s : State) (n : Nat) : State :=
  let s := (s.put (F.LRX_STATUS_PRESENT n) false).setFld (F.LRX_STATUS_CAPTURES n) 0
  s.put (F.LRX_PAT_SYNCED n) false

/-- LRXn stopped (R24, R95): OFF. -/
def State.lrxStop (s : State) (n : Nat) : State :=
  let s := (((s.wcapAbort n).corrStop n).cwStop n).lrxSet n 0
  (((s.lrxClear n).put (F.LRX_STATUS_AMP_DET n) false).onLane n fun l => { l with started := false }).syncPair n

/-- LTXn in OFF (R119, R122): LDSET 0, synthesiser stopped, SQUELCH 1. -/
def State.ltxStop (s : State) (n : Nat) : State :=
  let s := ((s.setFld (F.LTX_STATUS_STEP n) 0).setBias n 0).put (F.LTX_CTL_SQUELCH n) true
  let s := if s.is (F.LTX_STATUS_SYNTH_LOCK n) then (s.put (F.LTX_STATUS_SYNTH_LOCK n) false).line n 7 else s
  let s := s.onLane n fun l => { l with reverse := false, inject := false, half := [] }
  ((s.put (F.LTX_CW_INJ_PENDING n) false).ltxSet n 0).calCheck n

/-- HRXk in another state; the monitors of its slot lose their alignment as it leaves UP. -/
def State.hrxDown (s : State) (n st : Nat) : State :=
  (if s.fld (F.HRX_STATUS_STATE n) = 2 then s.rsDrop 8 (s.slot n) else s).setFld (F.HRX_STATUS_STATE n) st

/-- HRXk stopped (R24, R64): OFF; the LTX synthesiser that followed it chooses its reference anew (R112). -/
def State.hrxStop (s : State) (n : Nat) : State :=
  let s := s.corrStop n
  let s := if s.is (F.HRX_STATUS_CDR_LOCK n) then (s.put (F.HRX_STATUS_CDR_LOCK n) false).line n 7 else s
  let s := if s.fld (F.HRX_STATUS_STATE n) = 0 then s else (s.hrxDown n 0).line n 4
  let s := (s.put (F.HRX_PAT_SYNCED n) false).onLane n fun l => { l with ready := false }
  (s.calCheck n).syncFreq (s.lineOf n)

/-- HTXk stopped. -/
def State.htxStop (s : State) (n : Nat) : State :=
  let s := if s.is (F.HTX_STATUS_CDR_LOCK n) then (s.put (F.HTX_STATUS_CDR_LOCK n) false).line n 7 else s
  let s := s.onLane n fun l => { l with started := false, inject := false }
  (s.syncHtx n).calCheck n

/-- A lane stopped, by its kind. -/
def State.laneStop (s : State) (n : Nat) : State :=
  if n < 8 then s.lrxStop n else if n < 16 then s.ltxStop n else if n < 32 then s.hrxStop n else s.htxStop n

/-- The lock of an output goes OFF with its output, as a mode is left or the supply goes (R50). -/
def State.lockOff (s : State) (n : Nat) : State :=
  if 8 ≤ n ∧ n < 16 ∨ 32 ≤ n then
    (s.setFld (F.FAB_LAT_STATE (outOf n)) 0).put (F.FAB_LAT_VALID (outOf n)) false
  else s

/-- The latency of an output is unmeasured in a new epoch of its crossing; its lock stays in its state (R50). -/
def State.lockEpoch (s : State) (n : Nat) : State :=
  if 8 ≤ n ∧ n < 16 ∨ 32 ≤ n then s.put (F.FAB_LAT_VALID (outOf n)) false else s

/-- A lane's logic reset without power-down (R400 level 3): sequencer stopped, OFF, crossing restarted. -/
def State.laneReset (s : State) (n : Nat) : State :=
  ((((s.seqHalt n).laneStop n).lockEpoch n).crossReset n).crossReady n

/-- The lane has left OFF. -/
def State.running (s : State) (n : Nat) : Bool :=
  if n < 8 then s.fld (F.LRX_STATUS_ACQ_STATE n) != 0
  else if n < 16 then s.fld (F.LTX_STATUS_STATE n) != 0
  else if n < 32 then s.fld (F.HRX_STATUS_STATE n) != 0
  else (s.lane n).started

/-- An LRX lane enters DARK or LOS: the 100 µs of presence are counted afresh (R90). -/
def State.lrxDark (s : State) (n st : Nat) : State := (s.lrxSet n st).put (F.LRX_STATUS_PRESENT n) false

/-- LRXn enters clock recovery other than by a capture: the capture count returns to 0 (R94). -/
def State.lrxCdr (s : State) (n : Nat) : State := (s.lrxSet n 2).setFld (F.LRX_STATUS_CAPTURES n) 0

end Sys2Proof.Machine
end

