-- ==== Sys2Proof/Machine/Faults.lean ====
section
/-! DEFINITION. Sys2Proof/Machine/Faults.lean: mode outcomes (R13, R469), the hardware fault log (R412), the recovery ladders (R399 to R407),
lanes taken out of service (R24 to R26) and device-level faults (R408 to R411). -/

namespace Sys2Proof.Machine

/-! ## Outcomes and configuration errors -/

/-- A new outcome in MODE.RESULT (R13, R469), seen by every powered lane on line 19. -/
def State.outcome (s : State) (code src : Nat) : State :=
  let s := ((s.setFld F.MODE_RESULT_CODE code).setFld F.MODE_RESULT_SOURCE src).incr F.MODE_RESULT_SEQ
  each allLanes (fun n s => s.line n 19) (s.put F.MODE_EVENT_RESULT true)

/-- A configuration error in MODE.CLAIM_ERR (R27, R33, R34). -/
def State.configError (s : State) (res master : Nat) : State :=
  let s := (s.setFld F.MODE_CLAIM_ERR_RESOURCE res).setFld F.MODE_CLAIM_ERR_MASTER master
  (s.bump F.MODE_CLAIM_ERR_COUNT 1).put F.MODE_EVENT_CONFIG_ERR true

/-! ## The hardware log (R412) -/

/-- The word of LOG_INFO. -/
def logInfo (kind lane cause level detail : Nat) : Word :=
  BitVec.ofNat 32 (kind % 8 + lane % 64 * 8 + cause % 128 * 512 + level % 8 * 65536 + detail % 256 * 524288)

/-- A device entry: KIND 5 or 6. -/
def LogEntry.isDev (e : LogEntry) : Bool := 5 ≤ e.info.toNat % 8

/-- The log without its newest lane entry, none when it has no lane entry. -/
def dropNewestLane (l : List LogEntry) : Option (List LogEntry) :=
  match l.reverse.findIdx? fun e => !e.isDev with
  | none => none
  | some i => some (l.reverse.eraseIdx i).reverse

/-- An entry for the log. A full log drops a lane entry and counts it; a device entry replaces the newest lane entry, and is counted
when none remains. -/
def State.logPut (s : State) (e : LogEntry) : State :=
  if s.faultLog.length < 16 then { s with faultLog := s.faultLog ++ [e] }
  else
    let s := s.setBit F.FAULT_EVENT_BITS 7
    match (if e.isDev then dropNewestLane s.faultLog else none) with
    | some l => { s with faultLog := l ++ [e] }
    | none => s.bump F.FAULT_LOG_DROP_COUNT 1

/-- A lane entry. -/
def State.logLane (s : State) (kind i cause level : Nat) : State :=
  s.logPut { ts := s.tb.toNat, info := logInfo kind i cause level 0, data := 0#32 }

/-! ## Ladders -/

/-- The ladder of a lane: LTXn shares that of LRXn (R399). -/
def ladderOf (n : Nat) : Nat := if n < 16 then n % 8 else n

/-- The lanes of a ladder. -/
def ladderLanes (i : Nat) : List Nat := if i < 8 then [i, i + 8] else [i]

/-- The ladders. -/
def allLadders : List Nat := List.range 8 ++ (List.range 32).map (· + 16)

/-- The entry level of a cause (R402); the level of 0x0F comes with the report. -/
def entryLevel (cause : Nat) : Nat :=
  if cause = 1 ∨ cause = 2 ∨ cause = 4 then 2 else if cause = 5 ∨ cause = 12 then 1 else 3

/-- A device-level fault is active (R408): the ladders are frozen. -/
def State.devFaulted (s : State) : Bool := s.fld F.FAULT_DEV_ACTIVE_CLASS != 0

/-- Class ROM_FAIL is active: lanes never start (R408). -/
def State.neverStarts (s : State) : Bool := bitAt (s.fld F.FAULT_DEV_ACTIVE_CLASS) 2

/-- Lanes that the transition in progress need not wait for any more (R16). -/
def State.lanesDone (s : State) (l : List Nat) : State :=
  { s with trans := { s.trans with waitFor := s.trans.waitFor.filter fun n => !l.contains n } }

/-- Lanes handed to their ladder during a transition into a data mode or Diagnostic: it ends DEGRADED (R17), also for a lane that had finished before, but not for lanes it
does not count (R26). -/
def State.handed (s : State) (l : List Nat) : State :=
  if s.inTarget && l.any fun n => !s.trans.late.contains n then
    let s := s.lanesDone l
    { s with trans := { s.trans with degraded := true } }
  else s

/-- A half pair is finished as soon as its half in service has started (R163). -/
def State.halfDone (s : State) (n : Nat) : State :=
  let m := n % 8
  if s.halfPair m && (if s.oos m then s.running (m + 8) else s.running m) then s.lanesDone [m, m + 8] else s

/-! ### Out of service (R24, R25, R163) -/

/-- The bit of a lane in MODE.OOS_LINE or MODE.OOS_HOST. -/
def State.putOos (s : State) (n : Nat) (b : Bool) : State :=
  let a := if n < 16 then R.MODE_OOS_LINE else R.MODE_OOS_HOST
  let i := if n < 16 then n else n - 16
  let w := (s.rd a).toNat
  if bitAt w i = b then s else s.wr a (BitVec.ofNat 32 (if b then w + 2 ^ i else w - 2 ^ i))

/-- The half left in service of a line pair (R163): LTXn squelched outside Diagnostic; LRXn held in DARK, and in Diagnostic acquiring without
frames from there. -/
def State.halfHold (s : State) (n : Nat) : State :=
  let m := n % 8
  if s.oos m && !s.oos (m + 8) then (if s.runMode = 5 then s else s.squelch (m + 8))
  else if s.oos (m + 8) && !s.oos m && s.running m && !s.nearEnd then
    let s := (((s.corrStop m).cwStop m).lrxDark m 1).lrxClear m
    (s.onLane m fun l => { l with frames := false }).syncPair m
  else s

/-- What going out of service does to the lane and to those beside it (R24, R25). -/
def State.oosTake (s : State) (n : Nat) : State :=
  let s := s.putOos n true
  let s := s.seqHalt n
  let s := if n < 16 then s.trnStop (n % 8) else s
  let s := if n < 8 then s.lrxStop n else if n < 16 then s.squelch n else if n < 32 then s.hrxStop n else s
  let s := if n < 8 then each htxLanes (fun k s => s.syncHtx k) s else if 32 ≤ n then s.syncHtx n else s
  let s := (s.calAbort n).lanesDone [n]
  if n < 16 then (s.halfHold n).halfDone n else s

/-! ### Steps (R400, R401) -/

/-- The pair or lane reset without power-down, once its transmitter is dark; its lanes restart when their start-up trims are done. -/
def State.ladderReset (s : State) (i : Nat) : State :=
  each ((ladderLanes i).filter fun n => !s.oos n && s.laneOn n) (fun n s => s.laneReset n)
    (if i < 8 then s.onLane (i + 8) fun l => { l with retrain := false } else s)

/-- The action of a reset and retrain (R400 level 3, R26): training stops and LTXn is squelched; the reset follows when it is dark. -/
def State.retrain (s : State) (i : Nat) : State :=
  if i < 8 then
    let s := (s.trnStop i).squelch (i + 8)
    if s.ltxDark (i + 8) then s.ladderReset i else s.onLane (i + 8) fun l => { l with retrain := true }
  else s.ladderReset i

/-- A step begins: level, ACTIVE, its event and log entry. -/
def State.stepOpen (s : State) (i lvl : Nat) : State :=
  let s := (s.setFld (F.FAULT_LADDER_LEVEL i) lvl).put (F.FAULT_LADDER_ACTIVE i) true
  let s := s.setLadder i { s.ladder i with done := false, paused := false }
  (s.setBit F.FAULT_EVENT_BITS 1).logLane 2 i (s.ladder i).cause lvl

/-- The running step ends, however it ends. -/
def State.stepClose (s : State) (i : Nat) : State :=
  (s.put (F.FAULT_LADDER_ACTIVE i) false).setLadder i { s.ladder i with done := false, paused := false }

/-- Level 4 (R400): the lanes of the ladder go out of service. -/
def State.ladder4 (s : State) (i : Nat) : State :=
  let s := ((s.stepClose i).setFld (F.FAULT_LADDER_LEVEL i) 4).setBit F.FAULT_EVENT_BITS 4
  each (ladderLanes i) (fun n s => s.oosTake n) s

/-- The action of a level, 1 to 3 (R400). -/
def State.ladderAct (s : State) (i lvl : Nat) : State :=
  if lvl = 1 then each (ladderLanes i) (fun n s => s.line n 24) s
  else if lvl = 2 then
    if i < 8 then (s.onLane i fun l => { l with frames := false }).lrxCdr i
    else if s.fld (F.HRX_STATUS_STATE i) = 1 then s
    else
      let s := (s.hrxDown i 1).line i 4
      ((s.onLane i fun l => { l with ready := false }).calCheck i).syncFreq (s.lineOf i)
  else s.retrain i

/-- A level starts (R400): 4 and above take the lanes out of service. -/
def State.ladderStart (s : State) (i lvl : Nat) : State :=
  if 4 ≤ lvl then s.ladder4 i else (s.stepOpen i lvl).ladderAct i lvl

/-- A step fails (R401): logged, and the next level starts. -/
def State.stepFail (s : State) (i : Nat) : State :=
  let lvl := s.fld (F.FAULT_LADDER_LEVEL i)
  let s := (s.logLane 4 i (s.ladder i).cause lvl).setBit F.FAULT_EVENT_BITS 3
  (s.stepClose i).ladderStart i (lvl + 1)

/-- A step completes (R401): IDLE, its level in LAST_OK. -/
def State.stepComplete (s : State) (i : Nat) : State :=
  let lvl := s.fld (F.FAULT_LADDER_LEVEL i)
  let s := ((s.stepClose i).setFld (F.FAULT_LADDER_LEVEL i) 0).setFld (F.FAULT_LADDER_LAST_OK i) lvl
  let s := s.setLadder i { s.ladder i with okAt := s.clock }
  (s.setBit F.FAULT_EVENT_BITS 2).logLane 3 i (s.ladder i).cause lvl

/-- The ladder acts on faults now (R407): its lanes in service and powered, in a data mode or Diagnostic or on the way into one. -/
def State.ladderActs (s : State) (i : Nat) : Bool :=
  s.acting && (ladderLanes i).all fun n => !s.oos n && s.laneOn n

/-- The level a fault enters at (R400, R406): HTX ladders have no levels 1 and 2, and a fault soon after a completed step at level L enters
at L + 1 at least. -/
def State.entryAt (s : State) (i entry : Nat) : Nat :=
  let e := if 32 ≤ i then max entry 3 else entry
  let last := s.fld (F.FAULT_LADDER_LAST_OK i)
  let e := if last ≠ 0 ∧ (s.clock - (s.ladder i).okAt) * 128 ≤ s.fld F.FAULT_CFG_SETTLE_MS * 100000000 then max e (last + 1) else e
  min e 4

/-- A fault that an idle frozen ladder holds: the highest entry level reported (R410). -/
def State.hold (s : State) (i cause entry : Nat) : State :=
  let l := s.ladder i
  if s.fld (F.FAULT_LADDER_LEVEL i) = 0 ∧ l.held < s.entryAt i entry then s.setLadder i { l with held := s.entryAt i entry, heldCause := cause } else s

/-- A further fault at the instant of one already counted: the two are one fault with the higher entry level (R405). DESIGN CHOICE: the instant is one tick of the model's
clock; the lower fault stays in the log, and the step that it started gives way to one at the higher level without a failure (log entry 107). -/
def State.faultJoin (s : State) (i cause entry : Nat) (k : Mark) : State :=
  if entry ≤ k.entry then s
  else
    let s := (s.setFld (F.FAULT_LADDER_LAST_CAUSE i) cause).setLadder i { s.ladder i with mark := some { k with entry := entry } }
    if !s.ladderActs i then s
    else if s.devFaulted then s.hold i cause entry
    else if k.idle && decide (s.fld (F.FAULT_LADDER_LEVEL i) < s.entryAt i entry) then
      ((s.setLadder i { s.ladder i with cause := cause }).stepClose i).ladderStart i (s.entryAt i entry)
    else s

/-- A fault of an entry level reported to a ladder, the first at its instant (R402 to R407, R409): counted and logged; acted on when the ladder acts, held while frozen; in a
step it ends the step and starts the next level. A fault on a pair with one half out of service is logged only: the ladder is the pair's, and it acts on both halves (DEDUCED,
R407). -/
def State.faultFirst (s : State) (i cause entry : Nat) : State :=
  let active := s.is (F.FAULT_LADDER_ACTIVE i)
  let s := ((s.setFld (F.FAULT_LADDER_LAST_CAUSE i) cause).incr (F.FAULT_LADDER_FAULTS i)).setBit F.FAULT_EVENT_BITS 0
  let s := (s.setLadder i { s.ladder i with mark := some ⟨s.clock, entry, !active⟩ }).logLane 1 i cause entry
  if !s.ladderActs i then s
  else if s.devFaulted then s.hold i cause entry
  else
    let s := s.handed (ladderLanes i)
    let start := s.entryAt i entry
    let s := s.setLadder i { s.ladder i with cause := cause }
    if active then s.stepFail i else s.ladderStart i start

/-- A fault reported to a ladder (R404, R405). In a level 2 or 3 step, loss of signal and of codeword lock are part of the step. -/
def State.fault (s : State) (i cause entry : Nat) : State :=
  let lvl := s.fld (F.FAULT_LADDER_LEVEL i)
  let inStep := s.is (F.FAULT_LADDER_ACTIVE i) && (lvl == 2 || lvl == 3)
  if inStep && (cause == 2 || cause == 4 || cause == 5) then s
  else
    match (s.ladder i).mark with
    | some k => if k.clock = s.clock then s.faultJoin i cause entry k else s.faultFirst i cause entry
    | none => s.faultFirst i cause entry

/-- A hardware lane fault (R402); the half in service of a line pair reports none (R163). -/
def State.report (s : State) (n cause : Nat) : State :=
  if n < 16 && s.halfPair n then s else s.fault (ladderOf n) cause (entryLevel cause)

/-- A timeout of R64, R95 or R162: in a level 2 or 3 step of the lane's ladder it is the step failing, else a lane fault (R404). -/
def State.timedOut (s : State) (n cause : Nat) : State :=
  let i := ladderOf n
  let lvl := s.fld (F.FAULT_LADDER_LEVEL i)
  if s.is (F.FAULT_LADDER_ACTIVE i) && (lvl == 2 || lvl == 3) then s.stepFail i else s.report n cause

/-- A lane start (R230, R231): the sequencer starts, or its missing program is reported. -/
def State.laneStart (s : State) (n : Nat) : State :=
  let s := s.seqLaneStart n
  if s.is (F.LRX_SEQ_STAT_LOADED n) then s else s.report n 10

/-- Every ladder returns to IDLE (R407); out-of-service bits stay. -/
def State.ladderIdle (s : State) (i : Nat) : State :=
  let s := (s.stepClose i).setFld (F.FAULT_LADDER_LEVEL i) 0
  let s := if i < 8 then s.onLane (i + 8) fun l => { l with retrain := false } else s
  s.setLadder i { s.ladder i with held := 0 }

/-- A cleared out-of-service bit in a data mode starts a level 3 step (R26, R407), held while the ladders are frozen. -/
def State.oosRetrain (s : State) (i : Nat) : State :=
  if s.devFaulted then s.setLadder i { s.ladder i with held := 3, heldCause := 0 }
  else (s.stepClose i).ladderStart i 3

/-! ## Device-level faults (R408 to R411) -/

/-- The transition in progress and the waiting request end PREEMPTED (R20, R409, R464). DESIGN CHOICE: a transition that gave or took the fixed-latency attribute leaves each
lock as it stands (SLEW or LOCKED after one that gave it, OFF after one that took it), while STATUS.FIXLAT keeps the value of before (log entry 108). -/
def State.preempt (s : State) : State :=
  let busy := s.is F.MODE_STATUS_BUSY
  let waiting := s.is F.MODE_STATUS_WAITING
  let cut := busy && isData (s.fld F.MODE_STATUS_IN_TARGET)
  let s := if cut then
      let s := s.put F.MODE_STATUS_BUSY false
      let s := { s with trans := { s.trans with waitFor := [], late := [], ramping := false } }
      s.outcome 6 s.trans.source
    else s
  if waiting then (s.put F.MODE_STATUS_WAITING false).outcome 6 s.trans.waitSrc else s

/-- A ladder frozen (R409): a running step stops, also one that waits for its transmitter to be dark. -/
def State.freeze (s : State) (i : Nat) : State :=
  let s := if i < 8 then s.onLane (i + 8) fun l => { l with retrain := false } else s
  let s := if s.is (F.FAULT_LADDER_ACTIVE i) then
      (s.put (F.FAULT_LADDER_ACTIVE i) false).setLadder i { s.ladder i with paused := true } else s
  s.put (F.FAULT_LADDER_FROZEN i) true

/-- A ladder thawed (R410): a frozen step restarts, an idle ladder takes the highest fault held. -/
def State.thaw (s : State) (i : Nat) : State :=
  let s := s.put (F.FAULT_LADDER_FROZEN i) false
  let l := s.ladder i
  let s := s.setLadder i { l with held := 0 }
  if l.paused then s.ladderStart i (s.fld (F.FAULT_LADDER_LEVEL i))
  else if l.held ≠ 0 && s.ladderActs i then
    let s := s.handed (ladderLanes i)
    (s.setLadder i { s.ladder i with cause := l.heldCause }).ladderStart i l.held
  else s

/-- A device-level fault raised (R409): logged, ladders frozen, a transition into a data mode preempted, and transmitters shut down when asked. -/
def State.devRaise (s : State) (cls : Nat) (shut : Bool) (detail data : Nat) : State :=
  let s := s.setFld F.FAULT_DEV_ACTIVE_CLASS (s.fld F.FAULT_DEV_ACTIVE_CLASS ||| 2 ^ (cls - 1))
  let s := (s.setBit F.FAULT_EVENT_BITS 5).logPut
    { ts := s.tb.toNat, info := logInfo 5 0 cls 0 detail, data := BitVec.ofNat 32 data }
  let s := if shut then { s with shutdown := s.shutdown ||| BitVec.ofNat 6 (2 ^ cls) } else s
  let s := (each allLadders (fun i s => s.freeze i) s).preempt
  if shut then each ltxLanes (fun n s => s.ltxFault n (F.LTX_FAULT_CAUSE_DEVICE n)) s else s

/-- A device-level fault cleared (R408, R410). Its log entry carries no DETAIL and no DATA: those of R412 tell how a fault was raised (DEDUCED). -/
def State.devClear (s : State) (cls : Nat) : State :=
  if bitAt (s.fld F.FAULT_DEV_ACTIVE_CLASS) (cls - 1) then
    let s := s.setFld F.FAULT_DEV_ACTIVE_CLASS (s.fld F.FAULT_DEV_ACTIVE_CLASS - 2 ^ (cls - 1))
    let s := { s with shutdown := s.shutdown &&& ~~~(BitVec.ofNat 6 (2 ^ cls)) }
    let s := (s.setBit F.FAULT_EVENT_BITS 6).logPut { ts := s.tb.toNat, info := logInfo 6 0 cls 0 0, data := 0#32 }
    if s.devFaulted then s else each allLadders (fun i s => s.thaw i) s
  else s

/-- FAULT_N asserted (R411): the boot ROM check or the fill not done, a device-level fault, a ladder at level 4 with PIN_LANE, or PIN_FORCE; in Dormant the
level held at entry, under power-on reset always. -/
def State.faultPin (s : State) : Bool :=
  if s.domOn 1 then
    !s.filled || s.devFaulted || s.is F.FAULT_CFG_PIN_FORCE ||
      (s.is F.FAULT_CFG_PIN_LANE && allLadders.any fun i => s.fld (F.FAULT_LADDER_LEVEL i) == 4)
  else !s.domOn 0 || s.dorm.pin

end Sys2Proof.Machine
end

