-- ==== Sys2Proof/Machine/Mode.lean ====
section
/-! DEFINITION. Sys2Proof/Machine/Mode.lean: mode requests, transitions, out-of-service bits and claims (chapter The six operating modes and
personas), with the crossbar maps and fixed-latency targets that a transition takes (R48, R70, R71). -/

namespace Sys2Proof.Machine

/-- The power domain whose supply the register at a local address needs (R432, R433): PCIE.WORLD stands in PD_SUP and TOW.ID in PD_AON, so both answer with PD_SUP. -/
def domainAt (a : Nat) : Nat :=
  match locate a with
  | none => 1
  | some p =>
    match p.blk with
    | .lrx | .ltx | .hrx | .htx => laneDomain p.n
    | .dma => 14
    | .pcie => if p.off = 0x004 then 1 else 14
    | .tow => if p.off = 0x010 then 1 else 15
    | _ => 1

/-- A master whose map holds the register block at a local address: a lane sequencer's holds its own lane's and its pair's only (R201). -/
def seesBlock (m : Master) (a : Nat) : Bool :=
  match m, locate a with
  | .ls k, some p => (p.blk == .lrx || p.blk == .ltx || p.blk == .hrx || p.blk == .htx) && (p.n == k.val || decide (k.val < 16) && p.n == pairOf k)
  | .ls _, none => false
  | _, _ => true

/-- XBAR and STATUS of a host lane answer while the host domain is off (R70). -/
def onRail (a : Nat) : Bool :=
  match locate a with
  | some p => (p.blk == .hrx || p.blk == .htx) && (p.off == 0x004 || p.off == 0x010)
  | none => false

/-- Why an access to the register block at a local address does not reach it: it is not in the master's map, or its domain is off (R54, R70, R201). -/
def State.blockGate (s : State) (m : Master) (a : Nat) : Option Nat :=
  if !seesBlock m a then some 3 else if s.domOn (domainAt a) || onRail a then none else some 6

/-- A write to a register block, answered and counted. -/
def State.onBus (s : State) (m : Master) (a : Nat) (f : State → State × Resp) : State × Resp :=
  let x := match s.blockGate m a with
    | some c => (s, Resp.err c)
    | none => f s
  (x.1.busTally m a x.2, x.2)

/-- A read of a register block, answered and counted. -/
def State.onBusRead (s : State) (m : Master) (a : Nat) (f : State → State × Resp × Word) : State × Resp × Word :=
  let x := match s.blockGate m a with
    | some c => (s, Resp.err c, 0#32)
    | none => f s
  (x.1.busTally m a x.2.1, x.2)

/-- A write command: the access of a master to the register at a local address. -/
def State.via (s : State) (a : Nat) (m : Master) (f : State → State × Resp) : State := answer m (s.onBus m a f)

/-- A read command. -/
def State.viaRead (s : State) (a : Nat) (m : Master) (f : State → State × Resp × Word) : State := answerRead m (s.onBusRead m a f)

/-! ## Crossbar maps (R69 to R71) -/

/-- Sixteen slots form a permutation. -/
def isPerm (l : List Nat) : Bool := (List.range 16).all fun k => l.contains k

/-- The map of one direction taken: base 16 for HRX, 32 for HTX. -/
def State.takeMap (s : State) (base : Nat) : State :=
  let lanes := (List.range 16).map (· + base)
  if isPerm (lanes.map fun n => s.fld (F.HRX_XBAR_SLOT n)) then
    each lanes (fun n s => (s.setFld (F.HRX_STATUS_ACTIVE_SLOT n) (s.fld (F.HRX_XBAR_SLOT n))).put (F.HRX_STATUS_XBAR_ERR n) false) s
  else each lanes (fun n s => (s.put (F.HRX_STATUS_XBAR_ERR n) true).put (F.HRX_EVENT_XBAR_ERR n) true) s

/-- Both maps, and the HTX lanes that then follow other line lanes. -/
def State.takeMaps (s : State) : State :=
  each htxLanes (fun k s => s.syncHtx k) ((s.takeMap 16).takeMap 32)

/-! ## Fixed-latency targets (R47, R48) -/

/-- The largest latency of a data mode in 0.1 ns (R45). -/
def maxLatency (t : Nat) : Nat := if t = 2 then 49 else if t = 3 then 360 else 920

/-- The symbol rate of a line lane in units of 1/64 GBd (R77). -/
def lineBaud (t : Nat) (rate : Bool) : Nat :=
  let b := if t = 2 then 13600 else if t = 3 then 14450 else 15300
  if rate then b / 2 else b

/-- The symbol rate of a host lane in units of 1/64 GBd (R58). -/
def hostBaud (rate : Bool) : Nat := if rate then 3400 else 6800

/-- The valid target range of a mode in output UI (R47). -/
def targetRange (t baud : Nat) : Nat × Nat := (ceilDiv (maxLatency t * baud) 640, (maxLatency t + 2000) * baud / 640)

/-- A target clamped to the range of a mode, and whether it was outside. -/
def clampTarget (t baud v : Nat) : Nat × Bool :=
  let r := targetRange t baud
  (clampNat r.1 r.2 v, decide (v < r.1) || decide (r.2 < v))

/-- One direction's target taken with the attribute (R29, R48). DESIGN CHOICE: the clamp flag of that direction falls with the next target taken within the range, and not when
the attribute is removed (log entry 85). -/
def State.takeTarget (s : State) (host : Bool) (t : Nat) (rate : Bool) : State :=
  let x := if host then clampTarget t (hostBaud rate) (s.fld F.FAB_FL_TGT_HTX_UI)
    else clampTarget t (lineBaud t rate) (s.fld F.FAB_FL_TGT_LTX_UI)
  let s := s.put (if host then F.FAB_STATUS_TGT_CLAMPED_HTX else F.FAB_STATUS_TGT_CLAMPED_LTX) x.2
  let s := if x.2 then s.put F.FAB_EVENT_TGT_CLAMP true else s
  { s with fab := if host then { s.fab with tgtHtx := x.1 } else { s.fab with tgtLtx := x.1 } }

/-- The mode, rate and attribute that targets are judged by: those of a transition in progress into a data mode, else those in force (R29, R47, R48). -/
def State.targetMode (s : State) : Nat × Bool × Bool :=
  if s.is F.MODE_STATUS_BUSY && isData (s.fld F.MODE_STATUS_IN_TARGET) then (s.fld F.MODE_STATUS_IN_TARGET, s.trans.rate, s.trans.fixlat)
  else (s.mode, s.is F.MODE_STATUS_HOST_RATE, s.is F.MODE_STATUS_FIXLAT)

/-- Both targets. -/
def State.takeTargets (s : State) (t : Nat) (rate : Bool) : State := (s.takeTarget false t rate).takeTarget true t rate

/-- The outputs of locks. -/
def allOuts : List Nat := List.range 24

/-- The attribute given to or taken from running outputs (R50). -/
def State.lockAttr (s : State) (fx : Bool) : State :=
  each allOuts (fun j s =>
    if fx then (if s.running (laneOfOut j) ∧ s.fld (F.FAB_LAT_STATE j) = 0 then s.setFld (F.FAB_LAT_STATE j) 1 else s)
    else s.setFld (F.FAB_LAT_STATE j) 0) s

/-- The lock of an output that starts (R50): with the attribute in force OFF goes to LOCKED, and a lock that stood through the output's reset goes on as it was; without it
OFF. -/
def State.lockStart (s : State) (n : Nat) : State :=
  if s.fixNow then (if s.fld (F.FAB_LAT_STATE (outOf n)) = 0 then s.setFld (F.FAB_LAT_STATE (outOf n)) 2 else s)
  else s.setFld (F.FAB_LAT_STATE (outOf n)) 0

/-! ## Transitions (R16, R18, R19) -/

/-- In-service lanes, and those the transition in progress waits for (R16, R26). -/
def State.lanesToWait (s : State) : List Nat := allLanes.filter fun n => !s.oos n && !s.trans.late.contains n

/-- The lanes of the target may start: maps taken (R70), the Diagnostic values they will run and the lanes to wait for noted. -/
def State.startUp (s : State) : State :=
  let s := s.takeMaps
  { s with trans := { s.trans with waitFor := s.lanesToWait, base := s.fld F.MODE_DIAG_BASE_NOW, loop := s.fld F.MODE_DIAG_LOOP_NOW } }

/-- Every LTX lane is dark. -/
def State.allDark (s : State) : Bool := ltxLanes.all fun n => s.ltxDark n

/-- The ramp-down is over (R16, R70, R122): the lanes stop, and those of a data mode or Diagnostic may start. -/
def State.afterRamp (s : State) : State :=
  let s := { s with trans := { s.trans with ramping := false } }
  let s := each (allLanes.filter fun n => s.laneOn n) (fun n s => (s.laneReset n).lockOff n) s
  let s := each allLadders (fun i s => s.ladderIdle i) s
  if isData (s.fld F.MODE_STATUS_IN_TARGET) then s.startUp else s

/-- The ramp-down of a transition ends when every LTX lane is dark. -/
def State.rampCheck (s : State) : State :=
  if s.is F.MODE_STATUS_BUSY && s.trans.ramping && s.allDark then s.afterRamp else s

/-- Traffic stops (R16, R20, R101, R120, R151, R189, R407): ladders idle, training stopped, captures and recalibrations aborted, every LTX lane squelched. -/
def State.stopTraffic (s : State) : State :=
  let s := each allLadders (fun i s => s.ladderIdle i) s
  let s := each lrxLanes (fun n s => (s.wcapAbort n).trnStop n) s
  let s := each allLanes (fun n s => s.calAbort n) s
  let s := each (List.range 16) (fun t s => s.rsDrop 8 t) s
  each ltxLanes (fun n s => s.squelch n) s

/-- A transition is in progress from now on. -/
def State.opened (s : State) (t : Nat) (fx rt : Bool) (src : Nat) : State :=
  let s := (s.put F.MODE_STATUS_BUSY true).setFld F.MODE_STATUS_IN_TARGET t
  { s with trans := { s.trans with source := src, start := s.clock, fixlat := fx, rate := rt, degraded := false,
                                   ramping := false, waitFor := [], late := [] } }

/-- A transition that starts as Dormant is reached: BASE and LOOP of a Diagnostic target are read now, and stand beside the registers until the wake hands them on. DEDUCED: R11
reads them at the start, and MODE.DIAG loses its values when PD_SUP goes (log entry 17). -/
def State.openedAsleep (s : State) (t : Nat) (fx rt : Bool) (src : Nat) : State :=
  let s := s.opened t fx rt src
  if t = 5 then { s with trans := { s.trans with base := s.fld F.MODE_DIAG_BASE, loop := s.fld F.MODE_DIAG_LOOP } } else s

/-- What the transition in progress does first (R11, R16, R29): it takes the Diagnostic values read at its start and the targets, and changes the attribute, ramps down or
starts. -/
def State.launch (s : State) (t : Nat) (fx rt : Bool) (base loop : Nat) : State :=
  let cur := s.mode
  let attrOnly := isData t && t != 5 && t == cur && rt == s.is F.MODE_STATUS_HOST_RATE && fx != s.is F.MODE_STATUS_FIXLAT
  let s := if t = 5 then (s.setFld F.MODE_DIAG_LOOP_NOW loop).setFld F.MODE_DIAG_BASE_NOW base else s
  let s := if fx then s.takeTargets t rt else s
  if attrOnly then s.lockAttr fx
  else if isData cur then
    let s := s.stopTraffic
    ({ s with trans := { s.trans with ramping := true } }).rampCheck
  else if isData t then s.startUp
  else s

/-- A transition starts. -/
def State.begin (s : State) (t : Nat) (fx rt : Bool) (src : Nat) : State :=
  (s.opened t fx rt src).launch t fx rt (s.fld F.MODE_DIAG_BASE) (s.fld F.MODE_DIAG_LOOP)

/-- BASE and LOOP of MODE.DIAG are valid (R13). -/
def State.diagValid (s : State) : Bool :=
  let b := s.fld F.MODE_DIAG_BASE
  decide (2 ≤ b) && decide (b ≤ 4) && decide (s.fld F.MODE_DIAG_LOOP ≤ 3)

/-- A request equals the state in force (R13, R19, R463). -/
def State.sameMode (s : State) (t : Nat) (fx rt : Bool) : Bool :=
  t == s.mode && fx == s.is F.MODE_STATUS_FIXLAT && (!isData t || rt == s.is F.MODE_STATUS_HOST_RATE) &&
    (t != 5 || s.fld F.MODE_DIAG_BASE == s.fld F.MODE_DIAG_BASE_NOW && s.fld F.MODE_DIAG_LOOP == s.fld F.MODE_DIAG_LOOP_NOW)

/-- The waiting request, when a transition has ended (R11, R19): discarded with its outcome, or STARTED and given to what starts it. -/
def State.takeWaiting (s : State) (start : State → Nat → Bool → Bool → Nat → State) : State :=
  if s.is F.MODE_STATUS_WAITING then
    let t := s.fld F.MODE_STATUS_WAIT_TARGET
    let fx := s.is F.MODE_STATUS_WAIT_FIXLAT
    let rt := s.is F.MODE_STATUS_WAIT_HOST_RATE
    let s := s.put F.MODE_STATUS_WAITING false
    let src := s.trans.waitSrc
    if t = 5 && !s.diagValid then s.outcome 8 src
    else if s.sameMode t fx rt then s.outcome 2 src
    else start (s.outcome 0 src) t fx rt src
  else s

/-- The waiting request started at once. -/
def State.runWaiting (s : State) : State := s.takeWaiting State.begin

/-- The device is in a transition, or on its way from Dormant to Standby: a request waits (R18, R322). -/
def State.inTransit (s : State) : Bool := s.is F.MODE_STATUS_BUSY || s.dorm.phase == .waking

/-- The refusal code of a request, the first that applies in the order of R462. -/
def State.requestRefusal (s : State) (m : Master) (t : Nat) (fx rt : Bool) : Option Nat :=
  let allowed := match m with
    | .hostS | .smp | .supS | .tow true => true
    | _ => false
  if !allowed then some 13
  else if 6 ≤ t ∨ t = 5 ∧ !s.diagValid then some 8
  else if s.fld F.LIFE_STATE_STATE = 5 ∧ t ≠ 1 then some 14
  else if s.is F.MODE_PERSONA_ACTIVE && !rt then some 9
  else if fx ∧ (t < 2 ∨ t = 5) then some 10
  else if s.is F.MODE_STATUS_THERM_HOLD && isData t then some 11
  else if t = 0 ∧ s.is F.TOW_CTL_HEAD ∧ !s.is F.MODE_CFG_HEAD_DORMANT_EN then some 12
  else none

/-- A write of MODE.REQ decided (R12 to R14, R18). -/
def State.request (s : State) (m : Master) (v : Word) : State × Resp :=
  let t := bitsOf v.toNat 0 3
  let fx := bitAt v.toNat 3
  let rt := bitAt v.toNat 4
  let src := m.holder
  match s.requestRefusal m t fx rt with
  | some c => (s.outcome c src, .err (if c = 13 then 2 else 1))
  | none =>
    let s := s.wr R.MODE_REQ (BitVec.ofNat 32 (v.toNat % 32))
    if s.inTransit then
      let s := if s.is F.MODE_STATUS_WAITING then (s.outcome 5 s.trans.waitSrc).bump F.MODE_SUPERSEDED_COUNT 1 else s
      let s := ((s.put F.MODE_STATUS_WAITING true).setFld F.MODE_STATUS_WAIT_TARGET t).put F.MODE_STATUS_WAIT_FIXLAT fx
      let s := s.put F.MODE_STATUS_WAIT_HOST_RATE rt
      ({ s with trans := { s.trans with waitSrc := src } }.outcome 1 src, .ok)
    else if s.sameMode t fx rt then (s.outcome 2 src, .ok)
    else ((s.outcome 0 src).begin t fx rt src, .ok)

/-- The transition in progress has reached its target: Standby with every lane domain off (R8), a data mode or Diagnostic with no lane left to wait for. -/
def State.transReached (s : State) : Bool :=
  let t := s.fld F.MODE_STATUS_IN_TARGET
  s.is F.MODE_STATUS_BUSY && !s.trans.ramping &&
    (if isData t then s.trans.waitFor.isEmpty else t == 1 && s.fld F.PWR_DOM_STAT_ON / 4 % 4096 == 0)

/-- A transition ends COMPLETED or DEGRADED (R16, R17). -/
def State.transEnd (s : State) : State :=
  let t := s.fld F.MODE_STATUS_IN_TARGET
  let s := (s.setFld F.MODE_STATUS_CURRENT t).put F.MODE_STATUS_FIXLAT s.trans.fixlat
  let s := if isData t then s.put F.MODE_STATUS_HOST_RATE s.trans.rate else s
  let s := s.put F.MODE_STATUS_BUSY false
  let s := s.setFld F.MODE_LAST_TIME_US (min (usOf (s.clock - s.trans.start)) 0xFFFFFF)
  let s := { s with trans := { s.trans with late := [] } }
  s.outcome (if s.trans.degraded then 4 else 3) s.trans.source

/-- The supervisor requests the target held in MODE.WAKE_TARGET, unless it is Standby (R21). -/
def State.wakeRequest (s : State) : State :=
  if s.fld F.MODE_WAKE_TARGET_TARGET = 1 then s else (s.request .supS (s.rd R.MODE_WAKE_TARGET)).1

/-- The wake from Dormant reaches Standby (R21). A request that came to its start in Dormant goes on from here (R19), with the Diagnostic values of that start (R11); one that
waits is started. DESIGN CHOICE: it comes before the request of MODE.WAKE_TARGET, which then waits behind it or replaces a request that waits (log entry 84). -/
def State.wakeReached (s : State) : State :=
  let s := { s with dorm := { s.dorm with phase := .awake } }
  let t := s.fld F.MODE_STATUS_IN_TARGET
  let s := if !s.is F.MODE_STATUS_BUSY then s.runWaiting
    else if isData t then s.launch t s.trans.fixlat s.trans.rate s.trans.base s.trans.loop
    else s.transEnd.runWaiting
  s.wakeRequest

/-- A transition ends (R16, R19), or the wake from Dormant reaches Standby (R21). -/
def transitionCompleteEffect (s : State) : State :=
  if s.dorm.phase = .waking then (if s.domOn 14 && s.domOn 15 && s.domOn 16 then s.wakeReached else s)
  else if s.transReached then s.transEnd.runWaiting
  else s

/-! ## Out-of-service bits (R24 to R27) -/

/-- A lane's out-of-service bit cleared (R26). DEDUCED: a line pair trains as one unit, so during a transition the pair's other half is no longer waited for either (log
entry 17). -/
def State.oosGive (s : State) (n : Nat) : State :=
  let s := s.putOos n false
  let s := if n < 8 then each htxLanes (fun k s => s.syncHtx k) s else if 32 ≤ n then s.syncHtx n else s
  let pair := if n < 16 then [n % 8, n % 8 + 8] else [n]
  let busy := s.is F.MODE_STATUS_BUSY
  if busy && isData (s.fld F.MODE_STATUS_IN_TARGET) then
    let s := { s with trans := { s.trans with late := s.trans.late ++ pair } }.lanesDone pair
    if s.trans.ramping || !s.laneOn n then s else s.oosRetrain (ladderOf n)
  else if !busy && isData s.mode && s.laneOn n then s.oosRetrain (ladderOf n)
  else s

/-- A write of MODE.OOS_LINE (base 0, 16 lanes) or MODE.OOS_HOST (base 16, 32 lanes): forced bits keep their 1 and cost one configuration error (R27), and
every other bit that changes takes its lane out of service or returns it. -/
def State.oosWrite (s : State) (m : Master) (base count : Nat) (v : Nat) : State × Resp :=
  let lanes := (List.range count).map (· + base)
  let forced := lanes.any fun n => s.unusable n && !bitAt v (n - base)
  let s := if forced then s.configError 15 m.holder else s
  (each lanes (fun n s =>
    let b := bitAt v (n - base) || s.unusable n
    if b && !s.oos n then s.oosTake n else if !b && s.oos n then s.oosGive n else s) s, .ok)

/-- One bit of an out-of-service register written, the others as they stand. -/
def State.oosWriteBit (s : State) (m : Master) (n : Nat) (b : Bool) : State × Resp :=
  let base := if n < 16 then 0 else 16
  let cur := (s.rd (if n < 16 then R.MODE_OOS_LINE else R.MODE_OOS_HOST)).toNat
  let v := if bitAt cur (n - base) = b then cur else if b then cur + 2 ^ (n - base) else cur - 2 ^ (n - base)
  s.oosWrite m base (if n < 16 then 16 else 32) v

/-! ## Claims (R33 to R36) -/

/-- The claim register of a resource, 0 to 5: MON_SYNC, capture SRAM, GT0 to GT3. -/
def claimReg (res : Nat) : Nat :=
  if res = 0 then R.MODE_CLAIM_MONSYNC else if res = 1 then R.MODE_CLAIM_CAPTURE else R.MODE_CLAIM_TIMER (res - 2)

/-- The resource code of MODE.CLAIM_ERR. -/
def claimCode (res : Nat) : Nat := if res < 2 then res + 1 else res + 2

/-- The use a resource is claimed for. -/
def State.claimUse (s : State) (res : Nat) : Nat := s.fld ⟨claimReg res, 0, 2⟩

/-- A refused claim or release. -/
def State.claimRefuse (s : State) (m : Master) (res : Nat) : State × Resp :=
  ((s.put ⟨claimReg res, 8, 1⟩ true).configError (claimCode res) m.holder, .err 1)

/-- The writer may release a held claim (R35). -/
def State.mayReleaseClaim (s : State) (m : Master) (res : Nat) : Bool :=
  m.holder == 1 || m.holder == s.fld ⟨claimReg res, 4, 4⟩ && m.secBit == s.is ⟨claimReg res, 9, 1⟩

/-- A write of USE to a claim register (R34, R35). The release of the capture SRAM takes effect after the abort of a running capture (R101). -/
def State.claimWrite (s : State) (m : Master) (res use : Nat) : State × Resp :=
  let held := s.claimUse res != 0
  if use = 0 then
    if !held then (s, .ok)
    else if s.mayReleaseClaim m res then
      let s := if res = 1 then each lrxLanes (fun n s => s.wcapAbort n) s else s
      (((s.setFld ⟨claimReg res, 0, 2⟩ 0).setFld ⟨claimReg res, 4, 4⟩ 0).put ⟨claimReg res, 9, 1⟩ false, .ok)
    else s.claimRefuse m res
  else if held || decide (3 ≤ use) || decide (2 ≤ res) && use == 2 then s.claimRefuse m res
  else (((s.setFld ⟨claimReg res, 0, 2⟩ use).setFld ⟨claimReg res, 4, 4⟩ m.holder).put ⟨claimReg res, 9, 1⟩ m.secBit, .ok)

/-! ## Commands -/

/-- MODE_REQUEST (R12 to R15). -/
def execModeRequest (m : Master) (v : Word) (s : State) : Host.Outcome State Fault Refusal :=
  done (s.via R.MODE_REQ m fun s => s.request m v)

/-- TRANSITION_COMPLETE (R16 to R19, R21). -/
def execTransitionComplete (s : State) : Host.Outcome State Fault Refusal := done (transitionCompleteEffect s)

/-- OOS_SET (R24, R25). -/
def execOosSet (m : Master) (n : Fin 48) (s : State) : Host.Outcome State Fault Refusal :=
  done (s.via (if n.val < 16 then R.MODE_OOS_LINE else R.MODE_OOS_HOST) m fun s => s.oosWriteBit m n true)

/-- OOS_CLEAR (R26, R27). -/
def execOosClear (m : Master) (n : Fin 48) (s : State) : Host.Outcome State Fault Refusal :=
  done (s.via (if n.val < 16 then R.MODE_OOS_LINE else R.MODE_OOS_HOST) m fun s => s.oosWriteBit m n false)

/-- CLAIM (R34, R36). -/
def execClaim (m : Master) (res : Fin 6) (use : Fin 4) (s : State) : Host.Outcome State Fault Refusal :=
  done (s.via (claimReg res) m fun s => s.claimWrite m res use)

/-- CLAIM_RELEASE (R35). -/
def execClaimRelease (m : Master) (res : Fin 6) (s : State) : Host.Outcome State Fault Refusal :=
  done (s.via (claimReg res) m fun s => s.claimWrite m res 0)

end Sys2Proof.Machine
end

