-- ==== Sys2Proof/Machine/Patterns.lean ====
section
/-! DEFINITION. Sys2Proof/Machine/Patterns.lean: the bit sequences that the lanes generate: the PRBS31 fill (R53, R96, R458), the patterns of R59, R102 and R129, and the
4,096 symbols of a training frame (R154 to R159). -/

namespace Sys2Proof.Machine

/-! ## Pseudo-random sequences -/

/-- One step of a shift register of `n` bits, newest bit in place 0: the parity of the tapped places comes in. -/
def prbsStep (n : Nat) (taps : List Nat) (s : Nat) : Nat := 2 * s % 2 ^ n + b2n (taps.foldl (fun p t => p != bitAt s t) false)

/-- The next `k` bits out of a shift register, first bit first, and the register after them. -/
def prbsRun (n : Nat) (taps : List Nat) : Nat → Nat → List Bool × Nat
  | 0, s => ([], s)
  | k + 1, s =>
    let x := prbsRun n taps k (prbsStep n taps s)
    (bitAt s (n - 1) :: x.1, x.2)

/-- The number whose bit i is bit i of a list. -/
def ofBits : List Bool → Nat
  | [] => 0
  | b :: bs => b2n b + 2 * ofBits bs

/-- A start of a shift register: never all zero. -/
def seedOf (n v : Nat) : Nat := if v % 2 ^ n = 0 then 1 else v % 2 ^ n

/-- Length and taps of the PRBS of a name (R59): PRBS31 x^31 + x^28 + 1, PRBS13 that of R159, and the usual generators of PRBS7, PRBS9 and PRBS15. -/
def prbsShape (name : Nat) : List Nat :=
  if name = 7 then [6, 5] else if name = 9 then [8, 4] else if name = 13 then [12, 11, 10, 0] else if name = 15 then [14, 13] else [30, 27]

/-- The next `k` bits of a lane's PRBS31 generator in register state `s` (0 before its first use), and its state after them. -/
def fillRun (lane s k : Nat) : List Bool × Nat :=
  prbsRun 31 (prbsShape 31) k (if s = 0 then seedOf 31 (Config.fillPhase lane).toNat else s)

/-- Bit pairs Gray-mapped to level indices, the first bit of a pair most significant (R59). -/
def grayPairs : List Bool → List Nat
  | a :: b :: bs => gray a b :: grayPairs bs
  | _ => []

/-- `k` symbols of SSPRQ from place `i`. -/
def ssprqRun : Nat → Nat → List Nat
  | 0, _ => []
  | k + 1, i => (Config.ssprq (i % 65535)).toNat :: ssprqRun k (i + 1)

/-- The pattern of a selection: 7, 9, 13, 15 or 31 for a PRBS, 1 for SSPRQ, 0 for a reserved code. Line lanes by R102 and R129, host lanes by R76. -/
def patternOf (host : Bool) (sel : Nat) : Nat :=
  if host then [0, 7, 9, 13, 15, 31, 1, 0].getD sel 0 else [0, 13, 31, 1].getD sel 0

/-- The next `k` level indices of a lane's pattern in generator state `s` (0 before its first symbol), and the state after them. A reserved selection sends nothing. -/
def patternRun (lane pat s k : Nat) : List Nat × Nat :=
  if pat = 0 then ([], s)
  else if pat = 1 then (ssprqRun k (s - 1), (s - 1 + k) % 65535 + 1)
  else
    let x := prbsRun pat (prbsShape pat) (2 * k) (if s = 0 then seedOf pat (Config.patternPhase lane pat).toNat else s)
    (grayPairs x.1, x.2)

/-! ## Training frames -/

/-- The bits of a number, from bit n - 1 down to 0. -/
def bitsDown (v : Nat) : Nat → List Bool
  | 0 => []
  | n + 1 => bitAt v n :: bitsDown v n

/-- The fill bits of a frame (R159). -/
def fillBits : Nat → Nat → List Bool
  | 0, _ => []
  | k + 1, s => bitAt s 12 :: fillBits k (fillStep s)

/-- The level indices of a training frame of line lane n before polarity inversion (R154 to R159): marker, control field, CRC with crc[15] first, fill. -/
def frameSymbols (n ctrl : Nat) : List Nat :=
  marker ++ grayPairs (bitsDown ctrl 128) ++ grayPairs (bitsDown (crcOf ctrl) 16) ++ grayPairs (fillBits 7920 (fillSeed n))

/-- The level indices of a run of the wake pattern: 3, 0, 2, 1, each held 32 UI (R175). -/
def wakeSymbols (k : Nat) : List Nat := (List.range k).map fun i => [3, 0, 2, 1].getD (i / 32 % 4) 0

end Sys2Proof.Machine
end

