-- ==== Sys2Proof/Machine/Receive.lean ====
section
/-! DEFINITION. Sys2Proof/Machine/Receive.lean: what a receive lane makes of the symbols at its converter: the equaliser and detector of LRX lanes (R78 to R82), statistics (R60,
R84 to R87), waveform capture (R100), soft values (R136), the barges that enter the input pounds (R38, R39, R55, R72, R96, R458), and fill. -/

namespace Sys2Proof.Machine

/-! ## Sidebands (R38, R39) -/

/-- The parity bit: even over bits 30 to 0. -/
def sideParity (v : Nat) : Nat := (List.range 31).foldl (fun p i => (p + v / 2 ^ i) % 2) 0

/-- A sideband: arrival stamp, HALF, SRC_ERR, CW_FAIL, CW_CORR, GROUP, VALID, with its parity (R38). -/
def sideband (stamp : Nat) (valid half src fail corr grp : Bool) : BitVec 32 :=
  let v := stamp % 2 ^ 21 + b2n valid * 2 ^ 21 + b2n half * 2 ^ 22 + b2n src * 2 ^ 23 + b2n fail * 2 ^ 24 + b2n corr * 2 ^ 25 + b2n grp * 2 ^ 26
  BitVec.ofNat 32 (v + sideParity v * 2 ^ 31)

/-- The arrival stamp of a sideband. -/
def stampOf (side : BitVec 32) : Nat := side.toNat % 2 ^ 21

/-- The payload bytes of a barge that the bandwidth windows count: those of one with VALID = 1 and SRC_ERR = 0 (R394). -/
def sideBytes (side : Nat) : Nat := if bitAt side 21 && !bitAt side 23 then (if bitAt side 22 then 32 else 64) else 0

/-- Symbols of a barge: 256, or 128 when half filled (R39). -/
def State.bargeSyms (s : State) : Nat := if s.lineRate then 128 else 256

/-! ## Fill (R53, R96, R458) -/

/-- The next `k` bits of a lane's PRBS31 fill generator. -/
def State.fillNext (s : State) (lane k : Nat) : State × List Bool :=
  let x := fillRun lane (s.lane lane).fill k
  (s.onLane lane fun l => { l with fill := x.2 }, x.1)

/-- The bits of one slot at their places in a barge (R72). -/
def spread (odd : Bool) : List Bool → Nat
  | [] => 0
  | b :: bs => b2n b * (if odd then 2 else 1) + 4 * spread odd bs

/-- The data of a barge of fill. -/
def State.fillData (s : State) (lane : Nat) : State × Nat :=
  let x := s.fillNext lane (2 * s.bargeSyms)
  (x.1, ofBits x.2)

/-- One slot's bits of a barge of fill. -/
def State.fillSlot (s : State) (lane slot : Nat) : State × Nat :=
  let x := s.fillNext lane s.bargeSyms
  (x.1, spread (slot % 2 == 1) x.2)

/-! ## The coefficients in use (R78 to R81, R102, R373) -/

/-- A field of a word of the active bank. -/
def State.bankField (s : State) (n w lo wd : Nat) : Nat := bitsOf (s.activeWord n w).toNat lo wd

/-- The coefficients that LRXn works with. DEDUCED: at throttle level 4 only the decision levels are scaled by h0/256, not the level that H1 = h1 weights (log entry 89). -/
def State.coefs (s : State) (n : Nat) : Coefs :=
  let mode := s.lineMode
  let lvl := (s.lane n).saver
  let mask := s.fld (F.LRX_CTL_NLE_MASK n)
  { Coefs.init with
    ffe := (List.range 48).map fun i => signedOf 10 (s.bankField n i 0 10)
    main := min 8 (s.bankField n 48 0 4)
    nle := (List.range 16).map fun k => signedOf 10 (s.bankField n (52 + k / 2) (16 * (k % 2)) 10)
    on := ofBits ((List.range 16).map fun k => bitAt mask k && nleAllowed mode lvl k)
    levels := (List.range 4).map fun i => signedOf 8 (s.bankField n 51 (8 * i) 8)
    own := if mode = 4 then signedOf 10 (s.bankField n 60 0 10) else 256
    post := if mode = 4 then signedOf 10 (s.bankField n 60 16 10) else ((s.bankField n 49 0 8 : Nat) : Int)
    deep := mode == 4 && decide (lvl < 4)
    qSl := s.bankField n 61 8 8
    qSd := s.bankField n 61 0 8 }

/-- The coefficients that HRXk's active bank gives it (R60): FFE, H1, and the nominal levels. DEDUCED: its slicer decides for the nearest level (log entry 96). -/
def State.hostCoefs (s : State) (k : Nat) : Coefs :=
  { Coefs.init with
    ffe := (List.range 12).map fun i => signedOf 9 (s.bankField k i 0 9)
    levels := (List.range 4).map Config.hostLevel
    post := ((s.bankField k 12 0 7 : Nat) : Int) }

/-! ## Statistics and capture, symbol by symbol -/

/-- A recalibration pause holds the correlators (R87), and throttle level 1 and above those of a lane that releases data (R373). -/
def State.corrCounts (s : State) (n : Nat) : Bool :=
  !s.paused n && !(decide (0 < s.fld F.THERM_STAT_LEVEL) && s.releasing n)

/-- A count of a histogram raised. -/
def binUp (l : List (Nat × Nat)) (b : Nat) : List (Nat × Nat) := tabPut (fun _ => 0) l b (tabGet (fun _ => 0) l b + 1)

/-- A decision counted (R84, R85). -/
def Stat.decided (t : Stat) (c : Coefs) (ySrc : Bool) (xs : List Int) (d : Det) : Stat :=
  let e := satErr d.err
  { n := t.n + 1, sums := addLists t.sums ((corrWith c xs d).map (e * ·)), sq := t.sq + e.natAbs * e.natAbs,
    bins := binUp t.bins ((if ySrc then codeY d.y else xs.getD d.age 0) + 128).toNat }

/-- How a lane treats its symbols: the active bank's coefficients, polarity and precoding, whether they are assembled into barges and of how many symbols, whether statistics
count, a capture runs, the lane is in loss of signal, and the pattern its checker looks for. -/
structure RxCtl where
  c      : Coefs
  inv    : Bool
  pre    : Bool
  gather : Bool
  len    : Nat
  counts : Bool
  capture : Bool
  los    : Bool
  pat    : Nat
  deriving DecidableEq, Repr

/-- The checker's record starts anew as the checker starts, stops or takes another pattern. -/
def Lane.hear (l : Lane) (pat : Nat) : Lane := if l.chkPat = pat then l else { l with chkPat := pat, chk := 0, chkLog := [] }

/-- A level received, kept for the checker. -/
def Lane.heardLevel (l : Lane) (g : Nat) : Lane := if l.chkPat = 0 then l else { l with chkLog := l.chkLog ++ [g] }

/-- The statistics window runs and counts the next symbol. -/
def Lane.tallies (l : Lane) (counts : Bool) : Bool := counts && l.corrRun && decide (l.stat.n < 2 ^ l.corrLog)

/-- A decision goes to the statistics window, after polarity to the pattern checker and, after inverse precoding, to the barge being assembled. -/
def Lane.decided (k : RxCtl) (l : Lane) (d : Det) : Lane :=
  let l := if l.tallies k.counts then { l with stat := l.stat.decided l.rx.d l.corrSrc l.rx.xs d } else l
  let l := l.heardLevel (invert k.inv d.soft.g)
  if 0 < l.rx.skip then { l with rx := { l.rx with skip := l.rx.skip - 1 } }
  else
    let x := receiveSoft k.inv k.pre l.rx.prev { d.soft with los := k.los }
    { l with rx := { l.rx with prev := x.2, q := if k.gather then l.rx.q ++ [x.1] else [] } }

/-- A sample for the capture: one every STRIDE symbols, up to LENGTH (R100). -/
def Lane.capture (l : Lane) (x y : Int) : Lane :=
  if l.wcapLen ≤ l.wcapPos + l.wcapBuf.length then l
  else if 0 < l.wcapGap then { l with wcapGap := l.wcapGap - 1 }
  else { l with wcapGap := l.wcapStr - 1, wcapBuf := l.wcapBuf ++ [BitVec.ofInt 8 (if l.wcapSrc then codeY y else x)] }

/-- The coefficients of the next sample and of the next decision (R61, R88): the active bank's from the symbol on that starts a barge, and at once while no barge is assembled. The
decision on a symbol uses those that its own barge was equalised with. -/
def Rx.take (k : RxCtl) (r : Rx) : Rx :=
  let ahead := r.q.length + r.ys.length
  let c := if !k.gather || decide (ahead ≤ r.skip) || (ahead - r.skip) % k.len == 0 then k.c else r.c
  let d := if !k.gather || !c.deep || decide (0 < r.skip) then c else if r.q.length % k.len = 0 then r.c else r.d
  { r with c := c, d := d }

/-- The decisions that a new equalised sample brings, and the samples and metrics that the sequence detector keeps. -/
def Rx.decide (r : Rx) (c : Coefs) (y : Int) : List Det × List Int × List Int :=
  if c.deep then
    match r.ys with
    | [] => ([], [y], r.met)
    | y0 :: ys =>
      if r.ys.length < detectorDepth then ([], r.ys ++ [y], r.met)
      else
        let z := detect c r.met r.last y0 (ys ++ [y])
        ([z.1], ys ++ [y], z.2)
  else (sliceAll c r.last (r.ys ++ [y]), [], [])

/-- One sample through the chain of a line receive lane. -/
def Lane.sample (k : RxCtl) (l : Lane) (x : Int) : Lane :=
  let r := l.rx.take k
  let xs := (x :: r.xs).take 192
  let y := equalised r.c xs
  let z := r.decide r.d y
  let last := (z.1.map fun d => d.soft.g).getLastD r.last
  let l := { l with rx := { r with xs := xs, ys := z.2.1, met := z.2.2, last := last } }
  let l := if k.capture then l.capture x y else l
  z.1.foldl (Lane.decided k) l

/-- A decision of a host receive lane counted: the correlators multiply its error by the samples around it, and by the level of the decision before it (R60). -/
def Stat.hostDecided (t : Stat) (c : Coefs) (xs : List Int) (d : Det) : Stat :=
  { n := t.n + 1, sums := addLists t.sums (((List.range 12).map (fun i => xs.getD i 0) ++ [c.level d.last]).map (d.err * ·)), sq := 0,
    bins := binUp t.bins (xs.getD d.age 0 + 32).toNat }

/-- One sample through the chain of a host receive lane: FFE, DFE, slicer, statistics, and polarity (R59, R60). -/
def Lane.hostSample (k : RxCtl) (l : Lane) (x : BitVec 6) : Lane :=
  let xs := (x.toInt :: l.rx.xs).take 12
  let d := sliceOne k.c l.rx.last (hostEqualised k.c xs) hostAhead
  let g := invert k.inv d.soft.g
  let l := (if l.tallies k.counts then { l with stat := l.stat.hostDecided k.c xs d } else l).heardLevel g
  { l with rx := { l.rx with xs := xs, last := d.soft.g, q := l.rx.q ++ [{ d.soft with g := g }] } }

/-! ## Pattern checkers (R59, R74) -/

/-- The pattern checker of a receive lane compares (R74): Diagnostic, EN, a lane that runs; not at throttle level 1 and above (R373). -/
def State.checks (s : State) (n : Nat) : Bool :=
  s.runMode == 5 && s.running n && (if n < 8 then s.is (F.LRX_PAT_EN n) else (s.lane n).patEn) &&
    !(decide (0 < s.fld F.THERM_STAT_LEVEL) && s.releasing n)

/-- The pattern that a receive lane's checker looks for, 0 while it does not compare. -/
def State.checked (s : State) (n : Nat) : Nat :=
  if s.checks n then patternOf (decide (8 ≤ n)) (if n < 8 then s.fld (F.LRX_PAT_SEL n) else (s.lane n).patSel) else 0

/-! ## Input pounds (R55) -/

/-- A barge completed at the input pound of a lane (R51, R55). -/
def State.intoPound (s : State) (n : Nat) (b : Barge) : State :=
  if !s.crossOpen n || decide (16 ≤ (s.pound n).length) then s.xdrop n 1 else s.setPound n (s.pound n ++ [b])

/-! ## Line receive lanes -/

/-- The detected symbols of LRXn are data or wait for codeword lock, and are assembled into barges. -/
def State.gathers (s : State) (n : Nat) : Bool :=
  if s.coded then s.is (F.LRX_CW_STAT_HUNTING n) || s.is (F.LRX_CW_STAT_LOCKED n) else s.is (F.LRX_STATUS_DATA n)

/-- How LRXn treats its symbols now. -/
def State.rxCtl (s : State) (n : Nat) : RxCtl :=
  { c := s.coefs n, inv := s.is (F.LRX_CTL_INV n), pre := s.is (F.LRX_CTL_PRECODE n), gather := s.gathers n, len := s.bargeSyms, counts := s.corrCounts n,
    capture := s.is (F.LRX_WCAP_STAT_BUSY n), los := s.fld (F.LRX_STATUS_ACQ_STATE n) == 7, pat := s.checked n }

/-- The symbols ahead of the decoder: those it holds and those of the line barges in the pound. -/
def State.ahead (s : State) (n : Nat) : Nat := (s.lane n).dec.length + ((s.pound n).map fun b => b.soft.length).sum

/-- A codeword-group boundary lies within a line barge that comes now (R38, R148): before symbol 0 of a group at the locked offset. -/
def State.groupWithin (s : State) (n : Nat) : Bool :=
  let g := 2 * codeLen (s.lineMode == 4)
  s.coded && s.is (F.LRX_CW_STAT_LOCKED n) && decide ((s.ahead n + g - 1) / g * g < s.ahead n + s.bargeSyms)

/-- One assembled barge leaves for the pound: line bits with their soft values in the coded modes, decoded data in Transparent. -/
def State.bargeOut (s : State) (n after : Nat) : State :=
  let q := (s.lane n).rx.q
  if q.length < s.bargeSyms then s
  else
    let x := q.take s.bargeSyms
    let b : Barge := ⟨BitVec.ofNat 512 (bitsOfLevels (x.map (·.g))),
      sideband (s.lane n).rx.stamp.toNat true s.lineRate (x.any (·.los)) false false (s.groupWithin n), if s.coded then x else []⟩
    (s.onLane n fun l => { l with rx := { l.rx with q := q.drop s.bargeSyms, stamp := BitVec.ofNat 21 after } }).intoPound n b

/-- Up to a barge of samples through LRXn, the first at an arrival stamp; none where the lane counts on by itself. -/
def State.lineDetect (s : State) (n : Nat) (codes : List Int) (stamp : Option Nat) : State :=
  let k := s.rxCtl n
  let r := (s.lane n).rx
  let lag := lookAhead + r.ys.length
  let first := match stamp with
    | some t => t + 2097152 - 16 * lag + 16 * r.skip
    | none => r.stamp.toNat + 16 * r.q.length
  let s := s.onLane n fun l =>
    let prev := if k.pre && !r.preOn then (0, 7) else r.prev
    let st := if r.q.isEmpty then BitVec.ofNat 21 first else r.stamp
    codes.foldl (Lane.sample k) ({ l with rx := { r with prev := prev, preOn := k.pre, stamp := st, c := r.c.follow k.c, d := r.d.follow k.c } }.hear k.pat)
  let s := s.bargeOut n (first + 16 * (s.bargeSyms - r.q.length))
  s.bargeOut n (first + 16 * (2 * s.bargeSyms - r.q.length))

/-- A run of samples through LRXn, barge by barge: the LTXn stream of the near-end loopback (R10). -/
def State.lineRun (s : State) (n k : Nat) (codes : List Int) : State :=
  match k with
  | 0 => s
  | k + 1 => (s.lineDetect n (codes.take s.bargeSyms) none).lineRun n k (codes.drop s.bargeSyms)

/-- A barge of LRXn's fill. -/
def State.fillBarge (s : State) (n stamp : Nat) : State × Barge :=
  let x := s.fillData n
  (x.1, ⟨BitVec.ofNat 512 x.2, sideband stamp true s.lineRate true false false false, []⟩)

/-! ## Host receive lanes (R72, R458) -/

/-- A host receive lane carries data to its slot: in service, UP, its crossing open. -/
def State.slotCarries (s : State) (k : Nat) : Bool := !s.oos k && s.fld (F.HRX_STATUS_STATE k) == 2 && s.crossOpen k

/-- The bits of a run of level indices, most significant first. -/
def slotBits (gs : List Nat) : List Bool := gs.flatMap fun g => [(ungray g).1, (ungray g).2]

/-- A barge's worth of one slot's fill (R24, R458). -/
def State.slotFill (s : State) (slot stamp : Nat) : State × Barge :=
  let x := s.fillSlot (s.hostOf 16 slot) slot
  (x.1, ⟨BitVec.ofNat 512 x.2, sideband stamp true s.lineRate true false false false, []⟩)

/-- How HRXk treats its symbols now: one barge by one bank (R61). -/
def State.hostCtl (s : State) (k : Nat) : RxCtl :=
  { c := s.hostCoefs k, inv := (s.lane k).inv, pre := false, gather := true, len := s.bargeSyms / 2, counts := s.corrCounts k, capture := false, los := false,
    pat := s.checked k }

/-- A barge's worth of samples at HRXk: data while the lane carries it, else fill. Where its crossing is closed nothing crosses, and what a lane that is UP sends is discarded. -/
def State.hostInput (s : State) (k : Nat) (codes : List (BitVec 6)) (stamp : Nat) : State :=
  let c := s.hostCtl k
  let s := if s.fld (F.HRX_STATUS_STATE k) = 2 then s.bwCount (k - 8) (codes.length / 4) else s
  let s := if s.fld (F.HRX_STATUS_STATE k) = 0 then s
    else s.onLane k fun l => codes.foldl (Lane.hostSample c) ({ l with rx := { l.rx with q := [] } }.hear c.pat)
  if s.slotCarries k then
    let gs := (s.lane k).rx.q.map (·.g)
    s.intoPound k ⟨BitVec.ofNat 512 (spread (s.slot k % 2 == 1) (slotBits gs)),
      sideband (stamp + 2097152 - 16 * hostAhead) true s.lineRate false false false false, []⟩
  else if s.crossOpen k then
    let x := s.slotFill (s.slot k) stamp
    x.1.intoPound k x.2
  else if s.fld (F.HRX_STATUS_STATE k) = 2 && !s.oos k then s.xdrop k 1
  else s

end Sys2Proof.Machine
end

