-- ==== Sys2Proof/Machine/Fabric.lean ====
section
/-! DEFINITION. Sys2Proof/Machine/Fabric.lean: barges, pounds, output stores, speed monitors, locks and crossings (chapter Self-timed fabric, barges and
guaranteed latency), the bit order of R72 and R73, and the transmit and receive data paths of R134 to R139. -/

namespace Sys2Proof.Machine

/-! ## Into the output stores -/

/-- A barge into an output store: discarded and counted while the crossing is not open (R51); not kept for a lane that is out of service or not started. -/
def State.toStore (s : State) (n : Nat) (b : Barge) : State :=
  if s.oos n then s
  else if !s.crossOpen n then s.xdrop n 1
  else if !s.running n then s
  else s.setStore (outOf n) (s.store (outOf n) ++ [b])

/-- A barge to the two HTX lanes that carry slots 2n and 2n + 1 (R73). -/
def State.toSlots (s : State) (n : Nat) (b : Barge) : State :=
  (s.toStore (s.hostOf 32 (2 * n)) b).toStore (s.hostOf 32 (2 * n + 1)) b

/-- One slot's payload bits of a barge, bit i of the slot at place i (R72). -/
def State.slotShare (s : State) (slot v : Nat) : Nat := ofBits ((List.range s.bargeSyms).map fun i => bitAt v (2 * i + slot % 2))

/-- The host code monitors read the data of a barge that LRXn releases (R149). -/
def State.rsLine (s : State) (n : Nat) (b : Barge) : State :=
  if bitAt b.side.toNat 23 then s
  else each [2 * n, 2 * n + 1] (fun slot s => s.rsRead 0 slot (s.slotShare slot b.data.toNat)) s

/-- Those of the other direction read what each slot that carries data gives a joined barge (R149). -/
def State.rsHost (s : State) (n : Nat) (b : Barge) : State :=
  each [2 * n, 2 * n + 1] (fun slot s => if s.slotCarries (s.hostOf 16 slot) then s.rsRead 8 slot (s.slotShare slot b.data.toNat) else s) s

/-- A barge that LRXn releases, counted by its bandwidth window (R394): to its HTX lanes but in the host far-end loopback, and to LTXn in the line far-end loopback (R10). -/
def State.deliver (s : State) (n : Nat) (b : Barge) : State :=
  let s := (s.bwCount n (sideBytes b.side.toNat)).rsLine n b
  let s := if s.loop = 1 then s else s.toSlots n b
  if s.loop = 2 then s.toStore (n + 8) b else s

/-- A host-to-line barge: to LTXn but in the line far-end loopback, and back to the HTX lanes of its slots in the host far-end loopback (R10). -/
def State.deliverHost (s : State) (n : Nat) (b : Barge) : State :=
  let s := if s.loop = 2 then s else s.toStore (n + 8) b
  if s.loop = 1 then s.toSlots n b else s

/-- The outputs that a pipeline feeds: 0 to 7 receive, 8 to 15 transmit. -/
def State.feeds (s : State) (p : Nat) : List Nat :=
  let slots := [s.hostOf 32 (2 * (p % 8)), s.hostOf 32 (2 * (p % 8) + 1)]
  if p < 8 then (if s.loop = 1 then [] else slots) ++ (if s.loop = 2 then [p + 8] else [])
  else (if s.loop = 2 then [] else [p]) ++ (if s.loop = 1 then slots else [])

/-- An output store that the pipeline feeds holds its 256 barges: the pipeline waits (R40). -/
def State.backedUp (s : State) (p : Nat) : Bool := (s.feeds p).any fun n => decide (256 ≤ (s.store (outOf n)).length)

/-! ## Host-to-line barges (R72, R458) -/

/-- The pipeline waits for a slot's next barge: its lane carries data, and none has come. -/
def State.slotWaits (s : State) (slot : Nat) : Bool :=
  s.slotCarries (s.hostOf 16 slot) && (s.pound (s.hostOf 16 slot)).isEmpty

/-- A slot's part of the next barge: the oldest of its lane's pound, else fill. -/
def State.slotTake (s : State) (slot stamp : Nat) : State × Barge :=
  match s.pound (s.hostOf 16 slot) with
  | b :: rest => (s.setPound (s.hostOf 16 slot) rest, b)
  | [] => s.slotFill slot stamp

/-- The two slots of line lane n joined into one barge (R72), with the arrival stamp of the even slot, or of the odd one where the even slot has no barge of its own. -/
def State.joinSlots (s : State) (n stamp : Nat) : State × Barge :=
  let at_ (slot : Nat) : Nat := ((s.pound (s.hostOf 16 slot)).head?.map fun b => stampOf b.side).getD stamp
  let st := if (s.pound (s.hostOf 16 (2 * n))).isEmpty then at_ (2 * n + 1) else at_ (2 * n)
  let a := s.slotTake (2 * n) st
  let b := a.1.slotTake (2 * n + 1) st
  (b.1, ⟨a.2.data ||| b.2.data, sideband st true s.lineRate (bitAt a.2.side.toNat 23 || bitAt b.2.side.toNat 23) false false false, []⟩)

/-- One joined barge of line lane n goes on. -/
def State.hostStep (s : State) (n stamp : Nat) : State :=
  let x := s.joinSlots n stamp
  (x.1.rsHost n x.2).deliverHost n x.2

/-! ## Input barges (R55, R72, R96, R136, R458) -/

/-- A barge's worth of samples at LRXn: through the chain of a lane that runs; where its symbols are not assembled, one barge of fill (R96), past the crossing while that is
closed. Nothing while the lane is out of service (R24); in near-end loopback the converter is bypassed, and the lane's symbols are those of LTXn (R10). -/
def State.lineInput (s : State) (n : Nat) (codes : List Int) (stamp : Nat) : State :=
  if s.oos n || !s.laneOn n then s
  else
    let s := if s.running n && !s.nearEnd then s.lineDetect n codes (some stamp) else s
    if s.running n && s.gathers n then s
    else
      let x := s.fillBarge n stamp
      if x.1.crossOpen n then x.1.intoPound n x.2
      else (if x.1.running n then x.1.xdrop n 1 else x.1).deliver n x.2

/-- Both crossings of the slots of line lane n are closed: the pipeline makes its own fill at the pace of the even slot. -/
def State.ownPace (s : State) (k : Nat) : Bool :=
  s.slot k % 2 == 0 && !s.crossOpen k && !s.crossOpen (s.hostOf 16 (s.slot k + 1))

/-- INPUT_BARGE_COMPLETE: a barge time of a receive lane (R38, R55), while lanes run or start and traffic is not stopped. A count of symbols other than that of the rate in
force is no event. -/
def State.inputBarge (s : State) (src : InBarge) (sym : BitVec 17) (frac : BitVec 4) : State :=
  let stamp := sym.toNat * 16 + frac.toNat
  if !s.acting then s
  else
    match src with
    | .line n codes => if codes.length = s.bargeSyms then s.lineInput n (codes.map BitVec.toInt) stamp else s
    | .host k codes =>
      if 2 * codes.length = s.bargeSyms then
        let s := s.hostInput (16 + k) codes stamp
        if s.ownPace (16 + k) then s.hostStep (s.slot (16 + k) / 2) stamp else s
      else s

/-! ## The fabric's own progress -/

/-- Symbols a decoder holds before its pipeline waits: those of a whole lock test of 16 groups, and two groups more (R142). -/
def decoderRoom : Nat := 5184

/-- Line symbols to the decoder of LRXn, while it hunts or is locked. -/
def State.toDecoder (s : State) (n : Nat) (b : Barge) : State :=
  if s.is (F.LRX_CW_STAT_HUNTING n) || s.is (F.LRX_CW_STAT_LOCKED n) then
    s.onLane n fun l => { l with dec := l.dec ++ b.soft, stamp := if l.dec.isEmpty then BitVec.ofNat 21 (stampOf b.side) else l.stamp }
  else s

/-- The oldest barge of receive pipeline n leaves its pound: line bits go to the decoder, with a barge of fill to the outputs while the lane does not release data (R96, R146);
any other goes to its outputs. -/
def State.drainLine (s : State) (n : Nat) : State :=
  match s.pound n with
  | [] => s
  | b :: rest =>
    if s.backedUp n || !b.soft.isEmpty && decide (decoderRoom ≤ (s.lane n).dec.length) then s
    else
      let s := s.setPound n rest
      if b.soft.isEmpty then s.deliver n b
      else
        let s := s.toDecoder n b
        if s.is (F.LRX_STATUS_DATA n) then s
        else
          let x := s.fillBarge n (stampOf b.side)
          x.1.deliver n x.2

/-- Transmit pipeline n joins its slots' next barge, once every slot that carries data has one and one has come at all. -/
def State.drainHost (s : State) (n : Nat) : State :=
  let none_ := (s.pound (s.hostOf 16 (2 * n))).isEmpty && (s.pound (s.hostOf 16 (2 * n + 1))).isEmpty
  if none_ || s.slotWaits (2 * n) || s.slotWaits (2 * n + 1) || s.backedUp (n + 8) then s else s.hostStep n 0

/-- One barge of every pipeline moves on, while traffic is not stopped. -/
def State.drain (s : State) : State :=
  if s.acting then each (List.range 8) (fun n s => (s.drainLine n).drainHost n) s else s

/-! ## Outputs (R49, R53, R66, R67, R73, R104, R107, R134, R175) -/

/-- What a window of consecutive levels gives, for every whole window. -/
def windows (k : Nat) (f : List Nat → Int) : List Nat → List Int
  | [] => []
  | g :: gs => if k ≤ gs.length + 1 then f ((g :: gs).take k) :: windows k f gs else []

/-- The tap weights of a bank as used: the cursor's is computed (R105). -/
def ltxTap (w : Nat → Word) (i : Nat) : Int := if i = bitsOf (w 8).toNat 0 2 then cursorOf w else tapUsed (bitsOf (w i).toNat 0 8)

/-- A pre-distortion entry of a bank (R104). -/
def ltxPd (w : Nat → Word) (i : Nat) : Int := signedOf 8 (bitsOf (w (16 + i / 4)).toNat (8 * (i % 4)) 8)

/-- The DAC codes that a bank makes of the levels whose neighbours are known (R104): each from a window of the eight levels before and the four after. -/
def ltxCodes (w : Nat → Word) (ls : List Nat) : List Int := windows 13 (fun l => dacCode (ltxTap w) (ltxPd w) (bitsOf (w 8).toNat 0 2) l 8) ls

/-- The words of the bank that the levels sent last were shaped with. -/
def Lane.lastBank (l : Lane) (i : Nat) : Word := l.tailBank.getD i 0#32

/-- The last levels that a transmit lane has sent, kept for the shaping of those after them, with the bank and the swing of their run: what follows them completes their shaping by
these, so that no barge is shaped by two banks (R61, R106). -/
def State.keepTail (s : State) (n keep swing : Nat) (ls : List Nat) : State :=
  s.onLane n fun l => { l with tail := (l.tail ++ ls).drop ((l.tail ++ ls).length - keep), tailBank := (List.range 32).map (s.activeWord n), tailSwing := swing }

/-- The swing code in force: codes above 64 are used as 64 (R107), and the wake pattern is sent at 8 at least (R175). -/
def State.swingCode (s : State) (n : Nat) : Nat :=
  let c := min 64 (bitsOf (s.activeWord n 9).toNat 0 7)
  if (s.lane n).src = 2 then max c 8 else c

/-- The peak-to-peak output amplitude between codes -127 and +127 at the present ramp step, a_k * (100 + 12.5 * SWING) mVppd, in units of 2^-33 mVppd (R107). -/
def State.ltxSwing (s : State) (n : Nat) : Nat :=
  rampFactor (s.lane n).shape (s.fld (F.LTX_STATUS_STEP n)) * (200 + 25 * s.swingCode n)

/-- Physical levels out of LTXn, and the DAC codes whose neighbours are known (R104): those of the levels sent last by the bank and swing of their own run, then those of these
levels. In the near-end loopback the codes are LRXn's samples (R10). -/
def State.sendLevels (s : State) (n : Nat) (ls : List Nat) : State :=
  let l := s.lane n
  let old := ltxCodes l.lastBank ((l.tail ++ ls).take (l.tail.length + 4))
  let new := ltxCodes (s.activeWord n) ((l.tail ++ ls).drop (l.tail.length - 8))
  let codes := old ++ new
  let s := (((s.keepTail n 12 (s.ltxSwing n) ls).emit (.symbols n ls)).emit (.codes n old l.tailSwing)).emit (.codes n new (s.ltxSwing n))
  if s.nearEnd && s.running (n - 8) && !s.oos (n - 8) then s.lineRun (n - 8) (codes.length / s.bargeSyms + 1) codes else s

/-- A programmed HTX tap as used (R66). -/
def htxTap (v : Word) (wd lim : Nat) : Int := clampInt (-(lim : Int)) lim (signedOf wd (bitsOf v.toNat 0 wd))

/-- The HTX taps c(-2), c(-1), c(0), c(+1) of a bank as used: c(0) is 64 less the others' magnitudes (R66). -/
def htxTaps (w : Nat → Word) : List Int :=
  let a := htxTap (w 0) 5 8
  let b := htxTap (w 1) 6 16
  let c := htxTap (w 2) 6 16
  [a, b, 64 - a.natAbs - b.natAbs - c.natAbs, c]

/-- The HTX amplitude in mVppd (R67). -/
def State.htxSwing (s : State) (n : Nat) : Nat := 300 + 10 * min 60 (bitsOf (s.activeWord n 3).toNat 0 6)

/-- The FIR's output for the symbol before, the symbol, and the two after: c(-k) weights a later symbol, c(+1) the earlier one (R66). -/
def firOf (taps : List Int) (w : List Nat) : Int :=
  let v (i : Nat) : Int := 2 * (w.getD i 0 : Nat) - 3
  taps.getD 0 0 * v 3 + taps.getD 1 0 * v 2 + taps.getD 2 0 * v 1 + taps.getD 3 0 * v 0

/-- Symbols out of HTXk and what its FIR makes of those whose neighbours are known (R66, R67): of the symbols sent last by their own run's bank and swing, then of these. -/
def State.driveHtx (s : State) (k : Nat) (ls : List Nat) : State :=
  let l := s.lane k
  let old := windows 4 (firOf (htxTaps l.lastBank)) ((l.tail ++ ls).take (l.tail.length + 2))
  let new := windows 4 (firOf (htxTaps (s.activeWord k))) ((l.tail ++ ls).drop (l.tail.length - 1))
  (((s.keepTail k 3 (s.htxSwing k) ls).emit (.symbols k ls)).emit (.drive k old l.tailSwing)).emit (.drive k new (s.htxSwing k))

/-- A symbol with one bit inverted (R128). -/
def flipSymbol (high : Bool) (g : Nat) : Nat := gray ((ungray g).1 != high) ((ungray g).2 == high)

/-- A barge time of a Diagnostic pattern (R74, R127), with a pending injected bit in its first symbol (R128); never precoded (R110). -/
def State.patternNext (s : State) (n k : Nat) : State × List Nat :=
  let l := s.lane n
  let x := patternRun n (patternOf (decide (16 ≤ n)) l.patSel) l.pat k
  let s := (s.onLane n fun l => { l with pat := x.2, inject := false }).emit (.pattern n l.patSel)
  match x.1 with
  | g :: gs => if l.inject then ((s.use).emit (.injected n), flipSymbol (Config.injectHigh s.free) g :: gs) else (s, g :: gs)
  | [] => (s, [])

/-- HTXk sends one barge's bits of its slot, or its pattern: Gray mapping, polarity, FIR (R59, R66, R73). -/
def State.sendHtx (s : State) (k v : Nat) : State :=
  if s.is (F.HTX_STATUS_SQUELCHED k) then s
  else
    let o := s.slot k % 2
    let x := if s.runMode = 5 && (s.lane k).patEn then s.patternNext k (s.bargeSyms / 2)
      else (s, (List.range (s.bargeSyms / 2)).map fun i => gray (bitAt v (4 * i + o)) (bitAt v (4 * i + 2 + o)))
    x.1.driveHtx k (x.2.map (invert (s.lane k).inv))

/-- Precoding in force and polarity of a run of level indices, and out (R109, R111, R134). -/
def State.sendData (s : State) (n : Nat) (gs : List Nat) : State :=
  let l := s.lane n
  let ps := if l.precode then precodeFrom l.prev gs else gs
  (s.onLane n fun l => { l with prev := if l.precode then ps.getLastD l.prev else 0 }).sendLevels n (ps.map (invert l.inv))

/-- A group encoded and sent, with a waiting injection (R131 to R133, R153). DESIGN CHOICE: the injection takes WORD and NBITS as they stand then (log entry 118). -/
def State.sendGroup (s : State) (n payload : Nat) : State :=
  let deep := s.lineMode == 4
  let cs := groupWords deep payload
  let cs := if (s.lane n).cwInject then
      let k := max (s.fld (F.LTX_CW_INJ_NBITS n)) 1
      cs.modify (s.fld (F.LTX_CW_INJ_WORD n)) fun c => c ^^^ ((2 ^ k - 1) * 2 ^ (codeLen deep - k))
    else cs
  (s.onLane n fun l => { l with cwInject := false }).sendData n (groupLevels deep cs)

/-- LTXn sends one barge: its wake pattern, its pattern in Diagnostic, else data, encoded in the coded modes (step 2 of the signal flow). The frame generator sends by frames. -/
def State.sendLtx (s : State) (n v : Nat) : State :=
  let l := s.lane n
  if l.src = 2 then s.sendLevels n (wakeSymbols 256)
  else if l.src = 1 then s
  else if s.runMode = 5 && l.patEn then
    let x := s.patternNext n s.bargeSyms
    x.1.sendLevels n (x.2.map (invert l.inv))
  else if s.coded then
    if s.lineRate then
      match l.half with
      | [] => s.onLane n fun l => { l with half := [BitVec.ofNat 256 v] }
      | h :: _ => (s.onLane n fun l => { l with half := [] }).sendGroup n (h.toNat + v % 2 ^ 256 * 2 ^ 256)
    else s.sendGroup n v
  else s.sendData n (levelsOf s.bargeSyms v)

/-- A barge out of output j. -/
def State.sendBarge (s : State) (j v : Nat) : State := if j < 8 then s.sendLtx (8 + j) v else s.sendHtx (24 + j) v

/-- The encoder of LTXn starts a group with the barge that comes now (R135, R148). -/
def State.startsGroup (s : State) (n : Nat) : Bool := s.encodes n && (s.lane n).half.isEmpty

/-- A sideband with its GROUP bit set, its parity as right or wrong as it was. -/
def withGroup (side : Nat) : Nat := if bitAt side 26 then side else side ^^^ (2 ^ 26 + 2 ^ 31)

/-- A barge's worth of output j's own fill. -/
def State.outFill (s : State) (j : Nat) : State × Nat :=
  if j < 8 then s.fillData (8 + j) else s.fillSlot (24 + j) (s.slot (24 + j))

/-- No valid barge at a release time (R53): one barge of PRBS31 in its place. -/
def State.underrun (s : State) (j : Nat) : State :=
  let x := s.outFill j
  let s := ((x.1.emit (.fill j (BitVec.ofNat 512 x.2))).bump (F.FAB_UNDERRUN_COUNT j) 1).put F.FAB_EVENT_UNDERRUN true
  (s.sendBarge j x.2).tally (.ofLane 0x0E (laneOfOut j) 1)

/-! ## Speed monitors (R42, R43) -/

/-- The reference mode of the margin (R42): the data mode in force, the base mode in Diagnostic, else Deep-reach. -/
def State.refMode (s : State) : Nat :=
  if s.is F.MODE_STATUS_BUSY || !isData s.mode then 4 else if s.mode = 5 then s.fld F.MODE_DIAG_BASE_NOW else s.mode

/-- The rate needed of a mode in M barges/s, rounded up (R41, R57). -/
def rateNeed (t : Nat) : Nat := if t = 2 then 831 else if t = 3 then 882 else 934

/-- The index and value of the lowest margin, the lower index on a tie. -/
def lowest (l : List Int) : Nat × Int :=
  (List.range l.length).foldl (fun b i => if l.getD i 0 < b.2 then (i, l.getD i 0) else b) (0, l.getD 0 0)

/-- One threshold of R43: its status and event; `true` when the margin has just fallen below it. -/
def State.marginTest (s : State) (m thr : Int) (hyst : Nat) (stat ev : Fld) : State × Bool :=
  if m < thr then (if s.is stat then (s, false) else ((s.put stat true).put ev true, true))
  else if thr + 5 * hyst ≤ m then (s.put stat false, false)
  else (s, false)

/-- SPEED_MONITOR_WINDOW: the margins of the eight monitors in 0.1 %. -/
def State.speedWindow (s : State) (l : List Int) : State :=
  if !s.domOn 1 || !s.is F.FAB_CTL_SPEED_EN then s
  else
    let l := l.map (clampInt (-2048) 2047)
    let s := each (List.range 8) (fun i s => (s.setFld (F.FAB_SPEED_MARGIN i) (codeOf 12 (l.getD i 0))).put (F.FAB_SPEED_VALID i) true) s
    let x := lowest l
    let s := (s.setFld F.FAB_MARGIN_MIN_NOW (codeOf 12 x.2)).setFld F.FAB_MARGIN_MIN_WHICH x.1
    let s := if x.2 < s.sfld F.FAB_MARGIN_MIN_LOW then s.setFld F.FAB_MARGIN_MIN_LOW (codeOf 12 x.2) else s
    let h := s.fld F.FAB_MARGIN_THR_HYST
    let s := (s.marginTest x.2 (s.sfld F.FAB_MARGIN_THR_WARN) h F.FAB_STATUS_MARGIN_WARN F.FAB_EVENT_WARN_ENTER).1
    let y := s.marginTest x.2 (s.sfld F.FAB_MARGIN_THR_CRIT) h F.FAB_STATUS_MARGIN_CRIT F.FAB_EVENT_CRIT_ENTER
    if y.2 && y.1.is F.FAB_CTL_CRIT_FAULT_EN then y.1.devRaise 2 false 0 0 else y.1

/-- MARGIN_LOW_CLEAR: LOW reloaded with NOW (R57). -/
def State.lowClear (s : State) : State := s.setFld F.FAB_MARGIN_MIN_LOW (s.fld F.FAB_MARGIN_MIN_NOW)

/-! ## Locks (R48 to R50) -/

/-- The target in force of output j in 1/16 UI. -/
def State.lockTarget (s : State) (j : Nat) : Nat := 16 * (if j < 8 then s.fab.tgtLtx else s.fab.tgtHtx)

/-- A latency within 0.5 UI of the target. -/
def State.onTarget (s : State) (j lat : Nat) : Bool := decide (lat ≤ s.lockTarget j + 8) && decide (s.lockTarget j ≤ lat + 8)

/-- The target of one direction taken from its register, when it is written, where the attribute is in force or coming into force (R48). -/
def State.retarget (s : State) (host : Bool) : State :=
  let x := s.targetMode
  if x.2.2 then s.takeTarget host x.1 x.2.1
  else if s.is F.MODE_STATUS_FIXLAT then s.takeTarget host s.mode (s.is F.MODE_STATUS_HOST_RATE)
  else s

/-- FL_TARGET_WRITE: always accepted; with the attribute in force or coming into force the target is judged anew, by the mode coming into force with the attribute, else by the one
in force. Outputs of that direction that are LOCKED slew to it (R48, R50). -/
def State.targetWrite (s : State) (host : Bool) (v : Word) : State × Resp :=
  let s := s.setFld (if host then F.FAB_FL_TGT_HTX_UI else F.FAB_FL_TGT_LTX_UI) v.toNat
  (each (allOuts.filter fun j => decide (8 ≤ j) == host) (fun j s =>
    if s.fld (F.FAB_LAT_STATE j) = 2 then s.setFld (F.FAB_LAT_STATE j) 1 else s) (s.retarget host), .ok)

/-- A latency measured at output j (R49). -/
def State.measured (s : State) (j : Nat) (lat : BitVec 24) : State :=
  (s.setFld (F.FAB_LAT_LATENCY j) lat.toNat).put (F.FAB_LAT_VALID j) true

/-- SLEW_COMPLETE: a slewing output within 0.5 UI of its target locks (R50). -/
def State.slewDone (s : State) (j : Nat) (lat : BitVec 24) : State :=
  if s.fld (F.FAB_LAT_STATE j) = 1 && s.onTarget j lat.toNat then (s.measured j lat).setFld (F.FAB_LAT_STATE j) 2 else s

/-- LOCK_LOST: a locked output beyond 0.5 UI of its target slews back (R50). -/
def State.lockLost (s : State) (j : Nat) (lat : BitVec 24) : State :=
  if s.fld (F.FAB_LAT_STATE j) = 2 && !s.onTarget j lat.toNat then
    ((s.measured j lat).put F.FAB_EVENT_LOCK_LOST true).setFld (F.FAB_LAT_STATE j) 1
  else s

/-- A release's latency: reported, and judged by the lock (R49, R50): a locked output beyond 0.5 UI has lost its lock, a slewing one within it locks. -/
def State.released (s : State) (j : Nat) (lat : BitVec 24) : State :=
  ((s.measured j lat).lockLost j lat).slewDone j lat

/-- A barge out of the store of output j: checked for sideband parity (R57), with the GROUP bit of the encoder (R148), measured and sent. -/
def State.releaseBarge (s : State) (j : Nat) (b : Barge) (rest : List Barge) (upset : BitVec 32) (lat : BitVec 24) : State :=
  let s := s.setStore j rest
  let side := (b.side ^^^ upset).toNat
  let s := if sideParity side != side / 2 ^ 31 then s.put F.FAB_EVENT_SB_PARITY true else s
  if !bitAt b.side.toNat 21 then s.underrun j
  else
    let side := if decide (j < 8) && s.startsGroup (8 + j) then withGroup side else side
    let s := s.bwCount (26 + j) (if j < 8 then sideBytes side else sideBytes side / 2)
    let s := (s.emit (.barge j (BitVec.ofNat 32 side))).released j lat
    (s.sendBarge j b.data.toNat).tally (.ofLane 0x0D (laneOfOut j) 1)

/-- BARGE_RELEASE: the serialiser of output j takes its next barge (R49, R53); `upset` are the sideband bits that an upset has changed on the way. While traffic is stopped no
barge is valid; a line transmit lane that sends frames or its wake pattern needs none and lets it go. -/
def State.release (s : State) (j : Nat) (upset : BitVec 32) (lat : BitVec 24) : State :=
  if !s.running (laneOfOut j) || !s.laneOn (laneOfOut j) then s
  else if j < 8 ∧ (s.lane (8 + j)).src ≠ 0 then (s.setStore j ((s.store j).drop 1)).sendBarge j 0
  else if !s.acting then s.underrun j
  else
    match s.store j with
    | [] => s.underrun j
    | b :: rest => s.releaseBarge j b rest upset lat

/-! ## Decoded codewords (R133, R135, R139, R146) -/

/-- The barges of a decoded group: one at HOST_RATE = 0, two half filled ones at 1, the codewords ending in the last. DEDUCED: their arrival stamps are those of the group's line
symbols 0 and 128, the first of their payload bits (log entry 88). -/
def State.groupOut (s : State) (n payload : Nat) (fail corr : Bool) : State :=
  let st := (s.lane n).stamp.toNat
  let los (i k : Nat) : Bool := (((s.lane n).dec.drop i).take k).any (·.los)
  if s.lineRate then
    let t := s.deliver n ⟨BitVec.ofNat 512 (payload % 2 ^ 256), sideband st true true (los 0 128) false false true, []⟩
    t.deliver n ⟨BitVec.ofNat 512 (payload / 2 ^ 256), sideband (st + 2048) true true (los 128 128) fail corr false, []⟩
  else s.deliver n ⟨BitVec.ofNat 512 payload, sideband st true false (los 0 256) fail corr true, []⟩

/-- A decoded codeword joins its group of `len` line symbols; the fourth completes it: its data is released while the lane releases data, and its symbols leave the decoder. -/
def State.groupIn (s : State) (n len msg : Nat) (fail corr : Bool) : State :=
  let g := (s.lane n).group ++ [(BitVec.ofNat 128 msg, fail, corr)]
  if g.length < 4 then s.onLane n fun l => { l with group := g }
  else
    let s := if s.is (F.LRX_STATUS_DATA n) then
        s.groupOut n (payloadOf (g.map fun x => x.1.toNat)) (g.any fun x => x.2.1) (g.any fun x => x.2.2)
      else s
    s.onLane n fun l => { l with group := [], dec := l.dec.drop len, stamp := l.stamp + BitVec.ofNat 21 (16 * len) }

/-- CROSSING_ACK: the partner empties the pound, counts the discards and acknowledges the epoch (R52). -/
def State.crossAck (s : State) (n : Nat) : State :=
  if (s.crossing n).1 = 2 then (s.dropPound n).setCrossing n (0, (s.crossing n).2) else s

/-! ## Commands -/

/-- SPEED_MONITOR_WINDOW (R42, R43). -/
def execSpeedMonitorWindow (margins : List Int) (s : State) : Host.Outcome State Fault Refusal :=
  doneIf (margins.length == 8) (s.speedWindow margins)

/-- MARGIN_LOW_CLEAR (R57). -/
def execMarginLowClear (m : Master) (s : State) : Host.Outcome State Fault Refusal := done (s.via R.FAB_MARGIN_MIN m fun s => (s.lowClear, .ok))

/-- A barge's count of symbols, at one host rate or the other. -/
def bargeLength : InBarge → Bool
  | .line _ codes => codes.length == 256 || codes.length == 128
  | .host _ codes => codes.length == 128 || codes.length == 64

/-- INPUT_BARGE_COMPLETE (R55). -/
def execInputBargeComplete (src : InBarge) (_slicer : Unit) (sym : BitVec 17) (frac : BitVec 4) (s : State) : Host.Outcome State Fault Refusal :=
  doneIf (bargeLength src) (s.inputBarge src sym frac)

/-- BARGE_RELEASE (R49, R53, R57). -/
def execBargeRelease (j : Fin 24) (upset : BitVec 32) (lat : BitVec 24) (s : State) : Host.Outcome State Fault Refusal :=
  done (s.release j upset lat)

/-- FL_TARGET_WRITE (R47, R48, R50). -/
def execFlTargetWrite (m : Master) (host : Bool) (v : Word) (s : State) : Host.Outcome State Fault Refusal :=
  done (s.via (if host then R.FAB_FL_TGT_HTX else R.FAB_FL_TGT_LTX) m fun s => s.targetWrite host v)

/-- SLEW_COMPLETE (R50). -/
def execSlewComplete (j : Fin 24) (lat : BitVec 24) (s : State) : Host.Outcome State Fault Refusal := done (s.slewDone j lat)

/-- LOCK_LOST (R50). -/
def execLockLost (j : Fin 24) (lat : BitVec 24) (s : State) : Host.Outcome State Fault Refusal := done (s.lockLost j lat)

/-- CROSSING_ACK (R52). -/
def execCrossingAck (n : Fin 48) (s : State) : Host.Outcome State Fault Refusal := done (s.crossAck n)

end Sys2Proof.Machine
end

