-- ==== Sys2Proof/Machine/HostLanes.lean ====
section
/-! DEFINITION. Sys2Proof/Machine/HostLanes.lean: coefficient bank accesses (R62, R63, R88, R108, R459), the HRX state table (R64, R65), HTX squelch (R67),
clock recovery of both receive lanes (R83), pattern generators and checkers (R74, R127, R128, R211) and correlators (R84 to R87). -/

namespace Sys2Proof.Machine

/-- The lane of receiver r: 0 to 7 LRX, 8 to 23 HRX. -/
def rxLane (r : Nat) : Nat := if r < 8 then r else r + 8

/-! ## Banks -/

/-- A write of 1 to BANK.COMMIT (R62, R88, R106, R108, R468). -/
def State.bankCommit (s : State) (n : Nat) : State × Resp :=
  if s.seqStopped n then
    let x := s.commit n
    (if x.2 then x.1 else x.1.tally (.ofLane 9 n 1), if x.2 then .ok else .err 1)
  else ((s.put (commitRefusedFld n) true).tally (.ofLane 9 n 1), .err 1)

/-- A write through the bank offsets: the active bank refuses it (R459). -/
def State.bankWrite (s : State) (n : Nat) (b : Bool) (w : Nat) (v : Word) : State × Resp :=
  if b = s.bankB n then (s, .err 1) else (s.setShadow n w v, .ok)

/-! ## HRX (R64, R65) -/

/-- HRX lane n enters a state. ACQ waits for a new ready post of its program. -/
def State.hrxSet (s : State) (n st : Nat) : State :=
  let s := if s.fld (F.HRX_STATUS_STATE n) = st then s else (s.hrxDown n st).line n 4
  let s := if st = 1 then s.onLane n fun l => { l with ready := false } else s
  (s.calCheck n).syncFreq (s.lineOf n)

/-- ACQ with clock recovery locked and the program's ready post: UP (R64). -/
def State.hrxUp (s : State) (n : Nat) : State :=
  if s.fld (F.HRX_STATUS_STATE n) = 1 && s.is (F.HRX_STATUS_CDR_LOCK n) && (s.lane n).ready && !s.oos n then
    (s.hrxSet n 2).lanesDone [n]
  else s

/-- The outcome of R65 at an amplitude in mVppd while clock recovery is locked: below 40 there is no signal, above 120 there is, between them it is open. -/
def State.noSignal (s : State) (mv : Nat) : State × Bool :=
  if mv < 40 then (s, true) else if 120 < mv then (s, false) else (s.use, Config.openBand s.free)

/-- HRX_LOS (R65): low amplitude or unlock for 1 µs. -/
def State.hrxLos (s : State) (n mv : Nat) (unlocked : Bool) : State :=
  if s.fld (F.HRX_STATUS_STATE n) = 2 then
    let s := if unlocked && s.is (F.HRX_STATUS_CDR_LOCK n) then
        ((s.put (F.HRX_STATUS_CDR_LOCK n) false).put (F.HRX_EVENT_CDR_UNLOCK n) true).line n 7 else s
    let x := if s.is (F.HRX_STATUS_CDR_LOCK n) then s.noSignal mv else (s, true)
    if x.2 then ((x.1.put (F.HRX_EVENT_LOS_ENTER n) true).line n 5).hrxSet n 3 else x.1
  else s

/-- HRX_LOS_EXIT (R64): signal present for 100 µs. -/
def State.hrxBack (s : State) (n mv : Nat) : State :=
  if s.fld (F.HRX_STATUS_STATE n) = 3 && s.is (F.HRX_STATUS_CDR_LOCK n) then
    let x := s.noSignal mv
    if x.2 then x.1 else ((x.1.put (F.HRX_EVENT_LOS_EXIT n) true).line n 6).hrxSet n 1
  else s

/-! ## Clock recovery (R83) -/

/-- The LRX lane's clock recovery works on its input. -/
def State.lrxRecovers (s : State) (n : Nat) : Bool :=
  let st := s.fld (F.LRX_STATUS_ACQ_STATE n)
  decide (2 ≤ st) && decide (st ≤ 6) && !s.nearEnd

/-- The integral path, in 0.1 ppm at the ends of 8 consecutive windows, keeps within 20 ppm of its own mean, and below 300 ppm (R83). -/
def steady (ofs : List Int) : Bool :=
  ofs.all fun v => decide ((8 * v - ofs.sum).natAbs ≤ 1600) && decide (v.natAbs < 3000)

/-- The integral path reaches 300 ppm, or moves by more than 50 ppm between two windows (R83). -/
def astray (was now : Int) : Bool := decide (3000 ≤ now.natAbs) || decide (500 < (now - was).natAbs)

/-- CDR_LOCK: lock declared, and an LRX lane in CDR enters ADAPT (R95). The spec gives an HRX lane no criterion: its clock recovery says so by the command. -/
def State.cdrLocked (s : State) (r : Nat) (ofs : List Int) : State :=
  let n := rxLane r
  if n < 8 then
    if s.lrxRecovers n && !s.is (F.LRX_STATUS_CDR_LOCK n) && steady ofs then
      let s := ((s.setFld (F.LRX_CDR_STAT_FREQ_OFS n) (codeOf 16 (ofs.getLastD 0))).put (F.LRX_STATUS_CDR_LOCK n) true).line n 7
      if s.fld (F.LRX_STATUS_ACQ_STATE n) = 2 then s.lrxSet n 3 else s
    else s
  else if s.fld (F.HRX_STATUS_STATE n) ≠ 0 && !s.is (F.HRX_STATUS_CDR_LOCK n) then
    (s.put (F.HRX_STATUS_CDR_LOCK n) true).line n 7
  else s

/-- CDR_UNLOCK: unlock declared, from the integral path at the ends of two consecutive windows. -/
def State.cdrUnlocked (s : State) (r : Nat) (was now : Int) : State :=
  let n := rxLane r
  if n < 8 then
    if s.lrxRecovers n && s.is (F.LRX_STATUS_CDR_LOCK n) && astray was now then
      let s := (s.setFld (F.LRX_CDR_STAT_FREQ_OFS n) (codeOf 16 now)).put (F.LRX_EVENT_CDR_UNLOCK n) true
      s.cdrDrop n
    else s
  else if s.is (F.HRX_STATUS_CDR_LOCK n) then
    ((s.put (F.HRX_STATUS_CDR_LOCK n) false).put (F.HRX_EVENT_CDR_UNLOCK n) true).line n 7
  else s

/-! ## HTX squelch (R67) -/

/-- CTL.SQUELCH of an HTX lane written. -/
def State.htxSquelch (s : State) (n : Nat) (on : Bool) : State × Resp := ((s.put (F.HTX_CTL_SQUELCH n) on).syncHtx n, .ok)

/-! ## Patterns -/

/-- The pattern generator of a transmit lane is sending (R74, R127): Diagnostic, EN in force, the data source, a lane that drives its output. -/
def State.patternSends (s : State) (n : Nat) : Bool :=
  s.runMode == 5 && (s.lane n).patEn && s.running n &&
    (if n < 16 then (s.lane n).src == 0 else !s.is (F.HTX_STATUS_SQUELCHED n))

/-- A write of 1 to PAT.INJECT (R128). -/
def State.patInject (s : State) (n : Nat) : State × Resp :=
  (if s.patternSends n then s.onLane n fun l => { l with inject := true } else s, .ok)

/-- Bits in which two runs of levels differ, once demapped (R59). -/
def bitErrors : List Nat → List Nat → Nat
  | a :: as, b :: bs => b2n ((ungray a).1 != (ungray b).1) + b2n ((ungray a).2 != (ungray b).2) + bitErrors as bs
  | _, _ => 0

/-- What a checker makes of the levels it has received: the register it goes on with, 0 without synchronisation, and the bit errors it counts (R59). -/
def Lane.compare (n : Nat) (l : Lane) : Nat × Nat :=
  if l.chk = 0 then (Config.checkerFinds l.chkPat l.chkLog, 0)
  else
    let x := patternRun n l.chkPat l.chk l.chkLog.length
    let e := bitErrors l.chkLog x.1
    (if Config.checkerKeeps l.chkPat l.chkLog.length e then x.2 else 0, e)

/-- Bit errors counted, with their event and event line (R211 line 14). -/
def State.patErrors (s : State) (n errs : Nat) : State :=
  if errs = 0 then s
  else
    let s := s.bump (if n < 8 then F.LRX_PAT_ERR_COUNT n else F.HRX_PAT_ERR_COUNT n) errs
    (s.put (if n < 8 then F.LRX_EVENT_PAT_ERR n else F.HRX_EVENT_PAT_ERR n) true).line n 14

/-- PATTERN_CHECKER: the checker of a lane compares what it has received since with its pattern; SYNCED as it then stands, and errors counted. -/
def State.patCheck (s : State) (n : Nat) : State :=
  let pat := s.checked n
  if pat = 0 then s
  else
    let x := ((s.lane n).hear pat).compare n
    let s := s.onLane n fun l => { l.hear pat with chk := x.1, chkLog := [] }
    (s.put (if n < 8 then F.LRX_PAT_SYNCED n else F.HRX_PAT_SYNCED n) (x.1 != 0)).patErrors n x.2

/-! ## Correlators (R84 to R87) -/

/-- CORR_CTL of a receive lane. -/
def corrCtl (n : Nat) : Nat := if n < 8 then R.LRX_CORR_CTL n else R.HRX_CORR_CTL n

/-- The window length in use. -/
def corrLength (n v : Nat) : Nat := clampNat 10 (if n < 8 then 20 else 18) v

/-- START: correlators and histogram are cleared and started at the next barge boundary (R86). -/
def State.corrStart (s : State) (n : Nat) : State := s.onLane n fun l => { l with corrGo := true }

/-- A write of CORR_CTL. -/
def State.corrWrite (s : State) (n : Nat) (v : Word) : State × Resp :=
  let s := s.setFld ⟨corrCtl n, 0, 5⟩ v.toNat
  let s := if n < 8 then s.setFld (F.LRX_CORR_CTL_HIST_SRC n) (bitsOf v.toNat 7 1) else s
  (if bitAt v.toNat 8 then s.corrStart n else s, .ok)

/-- Words written to consecutive registers. -/
def State.wrAll (s : State) (a : Nat) : List Word → State
  | [] => s
  | v :: vs => (s.wr a v).wrAll (a + 4) vs

/-- A correlator's sum as its register reports it: of a line lane in code² per window of 2^10 symbols, rounded towards minus infinity (R84); of a host lane in code², rounded
so too (R60, log entry 96). -/
def corrReport (n log : Nat) (v : Int) : Int := if n < 8 then v / ((2 ^ (log + 7) : Nat) : Int) else v / 131072

/-- CORRELATOR_WINDOW_END: once the window's symbols are counted, the results are copied and DONE is set (R84 to R87). -/
def State.corrEnd (s : State) (n : Nat) : State :=
  let l := s.lane n
  if l.corrRun && decide (2 ^ l.corrLog ≤ l.stat.n) then
    let s := s.onLane n fun l => { l with corrRun := false, stat := Stat.init }
    let sums := (List.range (if n < 8 then 66 else 13)).map fun i => BitVec.ofInt 32 (corrReport n l.corrLog (l.stat.sums.getD i 0))
    let bins := (List.range (if n < 8 then 256 else 64)).map fun b => BitVec.ofNat 32 (tabGet (fun _ => 0) l.stat.bins b)
    let s := s.wrAll (if n < 8 then R.LRX_CORR n 0 else R.HRX_CORR n 0) sums
    let s := s.wrAll (if n < 8 then R.LRX_HIST n 0 else R.HRX_HIST n 0) bins
    let s := if n < 8 then
        ((s.setFld (F.LRX_ERRSQ_VALUE n) (l.stat.sq / 2 ^ (34 + l.corrLog))).put (F.LRX_CORR_CTL_PAUSED n) l.corrHurt).put
          (F.LRX_EVENT_CORR_DONE n) true
      else s
    (s.put ⟨corrCtl n, 9, 1⟩ true).line n 0
  else s

/-! ## Commands -/

/-- BANK_COMMIT (R62, R88, R108). -/
def execBankCommit (m : Master) (n : Fin 48) (s : State) : Host.Outcome State Fault Refusal :=
  done (s.via (R.LRX_BANK n) m fun s => s.bankCommit n)

/-- BANK_WRITE (R63, R459). -/
def execBankWrite (m : Master) (n : Fin 48) (b : Bool) (w : Fin 64) (v : Word) (s : State) : Host.Outcome State Fault Refusal :=
  done (s.via (bankAddr n b w) m fun s => s.bankWrite n b w v)

/-- HRX_LANE_UP (R64). -/
def execHrxLaneUp (k : Fin 16) (s : State) : Host.Outcome State Fault Refusal := done (s.hrxUp (16 + k))

/-- HRX_ACQ_TIMEOUT (R64): no lock within 10 ms of entering ACQ. -/
def execHrxAcqTimeout (k : Fin 16) (s : State) : Host.Outcome State Fault Refusal :=
  done (if s.fld (F.HRX_STATUS_STATE (16 + k)) = 1 && !s.is (F.HRX_STATUS_CDR_LOCK (16 + k)) then s.timedOut (16 + k) 1 else s)

/-- HRX_LOS (R65). -/
def execHrxLos (k : Fin 16) (mv : Nat) (unlocked : Bool) (s : State) : Host.Outcome State Fault Refusal :=
  done (s.hrxLos (16 + k) mv unlocked)

/-- HRX_LOS_EXIT (R64). -/
def execHrxLosExit (k : Fin 16) (mv : Nat) (s : State) : Host.Outcome State Fault Refusal := done (s.hrxBack (16 + k) mv)

/-- HRX_LOS_TIMEOUT (R64). -/
def execHrxLosTimeout (k : Fin 16) (s : State) : Host.Outcome State Fault Refusal :=
  done (if s.fld (F.HRX_STATUS_STATE (16 + k)) = 3 then s.report (16 + k) 2 else s)

/-- The windows on which a receiver's clock recovery declares lock: 8 on a line lane. -/
def windowCount (r : Nat) (ofs : List Int) : Bool := decide (8 ≤ r) || ofs.length == 8

/-- CDR_LOCK (R83). -/
def execCdrLock (r : Fin 24) (ofs : List Int) (s : State) : Host.Outcome State Fault Refusal :=
  doneIf (windowCount r ofs) (s.cdrLocked r ofs)

/-- CDR_UNLOCK (R83). -/
def execCdrUnlock (r : Fin 24) (ofs : Int × Int) (s : State) : Host.Outcome State Fault Refusal := done (s.cdrUnlocked r ofs.1 ofs.2)

/-- HTX_SQUELCH (R67). -/
def execHtxSquelch (m : Master) (k : Fin 16) (on : Bool) (s : State) : Host.Outcome State Fault Refusal :=
  done (s.via (R.HTX_CTL (32 + k)) m fun s => s.htxSquelch (32 + k) on)

/-- PATTERN_INJECT (R128). -/
def execPatternInject (m : Master) (t : Fin 24) (s : State) : Host.Outcome State Fault Refusal :=
  done (s.via (if t.val < 8 then R.LTX_PAT (laneOfOut t) else R.HTX_PAT (laneOfOut t)) m fun s => s.patInject (laneOfOut t))

/-- CORRELATOR_START (R86). -/
def execCorrelatorStart (m : Master) (r : Fin 24) (v : Word) (s : State) : Host.Outcome State Fault Refusal :=
  done (s.via (corrCtl (rxLane r)) m fun s => s.corrWrite (rxLane r) (v ||| 0x100#32))

/-- CORRELATOR_WINDOW_END (R84 to R87). -/
def execCorrelatorWindowEnd (r : Fin 24) (_sums _errsq _bins : Unit) (s : State) : Host.Outcome State Fault Refusal := done (s.corrEnd (rxLane r))

/-- PATTERN_CHECKER (R211 line 14). -/
def execPatternChecker (r : Fin 24) (_sync _errs : Unit) (s : State) : Host.Outcome State Fault Refusal := done (s.patCheck (rxLane r))

end Sys2Proof.Machine
end

