-- ==== Sys2Proof/Machine/LineTx.lean ====
section
/-! DEFINITION. Sys2Proof/Machine/LineTx.lean: line transmit lanes (chapter Line transmit: shaping, ramps and laser drive): the CTL write, ramps, fault ramp-down,
laser bias and fault causes. -/

namespace Sys2Proof.Machine

/-- What follows when an LTX lane has become dark: a reset and retrain that waited for it (R400), and the end of a transition's ramp-down (R16). -/
def State.becameDark (s : State) (n : Nat) : State :=
  if s.ltxDark n then
    (if (s.lane n).retrain then s.ladderReset (n - 8) else s).rampCheck
  else s

/-- FORCE_OFF (R123): its condition lasts until the lane reaches FAULT_DARK (R126); a lane in OFF or FAULT_DARK has none to wait for. -/
def State.forceDark (s : State) (n : Nat) : State :=
  let st := s.fld (F.LTX_STATUS_STATE n)
  let s := s.onLane n fun l => { l with forcing := st != 0 && st != 6 }
  (s.ltxFault n (F.LTX_FAULT_CAUSE_FORCE_OFF n)).becameDark n

/-- A write of LTX CTL (R111, R121, R122, R123, R125): the other fields are stored and acted on in every case. -/
def State.ltxCtl (s : State) (n : Nat) (v : Word) : State × Resp :=
  let s := ((s.setFld (F.LTX_CTL_INV n) (bitsOf v.toNat 0 1)).setFld (F.LTX_CTL_PRECODE n) (bitsOf v.toNat 1 1)).setFld
    (F.LTX_CTL_SRC n) (bitsOf v.toNat 2 2)
  let s := if bitAt v.toNat 5 then s.forceDark n else s
  if bitAt v.toNat 4 then (s.squelch n, .ok)
  else
    let x := s.unsquelch n
    (x.1, if x.2 then .ok else .err 1)

/-- A ramp step time expires (R114, R115, R117, R122). A pending reversal turns the ramp at this boundary, without a step. -/
def State.rampTick (s : State) (n : Nat) : State :=
  let st := s.fld (F.LTX_STATUS_STATE n)
  let k := s.fld (F.LTX_STATUS_STEP n)
  if st = 2 ∨ st = 4 then
    if (s.lane n).reverse then (s.onLane n fun l => { l with reverse := false }).ltxSet n (6 - st)
    else if st = 2 then
      let s := s.setStep n (min (k + 1) 64)
      if 64 ≤ k + 1 then (s.put (F.LTX_EVENT_RAMP_UP_DONE n) true).ltxSet n 3 else s
    else
      let s := s.setStep n (k - 1)
      if k ≤ 1 then ((s.put (F.LTX_EVENT_RAMP_DOWN_DONE n) true).ltxSet n 1).becameDark n else s
  else s

/-- A 25 ns fault ramp step (R124): the bias never rises (R125). -/
def State.faultTick (s : State) (n : Nat) : State :=
  if s.fld (F.LTX_STATUS_STATE n) = 5 then
    let k := s.fld (F.LTX_STATUS_STEP n)
    if k ≤ 1 then (s.faultDark n).becameDark n
    else
      let s := s.setFld (F.LTX_STATUS_STEP n) (k - 1)
      s.setBias n (min (s.fld (F.LTX_BIAS_STAT_NOW n)) (s.biasAt n (k - 1)))
  else s

/-- A write of BIAS (R118): a dark lane moves to its new floor at once. -/
def State.biasWrite (s : State) (n : Nat) (v : Word) : State × Resp :=
  let s := (s.setFld (F.LTX_BIAS_TARGET n) (bitsOf v.toNat 0 12)).setFld (F.LTX_BIAS_FLOOR n) (bitsOf v.toNat 16 12)
  (if s.fld (F.LTX_STATUS_STATE n) = 1 then s.setBias n (s.biasFloor n) else s, .ok)

/-- BIAS_STEP: a lit lane moves 1 code towards TARGET (R118). -/
def State.biasStep (s : State) (n : Nat) : State :=
  if s.fld (F.LTX_STATUS_STATE n) = 3 then
    let now := s.fld (F.LTX_BIAS_STAT_NOW n)
    let t := s.fld (F.LTX_BIAS_TARGET n)
    if now < t then s.setBias n (now + 1) else if t < now then s.setBias n (now - 1) else s
  else s

/-- Channel c is marked failed (R366). -/
def State.monFailed (s : State) (c : Nat) : Bool := bitAt (s.fld F.MON_FAILED_CH) c

/-- The reserved weirs are forced: weir 0 of channels 0 to 15, in every mode but Dormant and Standby (R363). -/
def State.weirForced (s : State) (c w : Nat) : Bool := w == 0 && decide (c < 16) && decide (2 ≤ s.runMode)

/-- The register of weir w of channel c. -/
def weirReg (c w : Nat) : Nat := R.MON_CH_WEIR0 c + 4 * w

/-- Weir w of channel c is on. -/
def State.weirOn (s : State) (c w : Nat) : Bool := s.weirForced c w || s.is ⟨weirReg c w, 30, 1⟩

/-- The bit of a weir in WEIR_STATE. -/
def weirFld (c w : Nat) : Fld := ⟨R.MON_WEIR_STATE ((4 * c + w) / 32), (4 * c + w) % 32, 1⟩

/-- Weir w of monitor channel c is set (R362, R363, R366): a disabled weir reads clear, a failed channel's bias weir set. -/
def State.weir (s : State) (c w : Nat) : Bool :=
  if s.monFailed c then w == 0 && decide (8 ≤ c) && decide (c < 16) else s.weirOn c w && s.is (weirFld c w)

/-- The causes whose condition persists (R126), as bits of FAULT_CAUSE. -/
def State.causesHeld (s : State) (n : Nat) : Nat :=
  b2n (s.weir n 0) + 2 * b2n (!s.is (F.LTX_STATUS_SYNTH_LOCK n)) + 4 * b2n (s.lane n).forcing + 8 + 16 * b2n (s.shutdown != 0#6)

/-- FAULT_CAUSE_CLEAR (R126). -/
def State.causeClear (s : State) (n : Nat) (v : Word) : State × Resp :=
  (s.wr (R.LTX_FAULT_CAUSE n) (s.rd (R.LTX_FAULT_CAUSE n) &&& ~~~(v &&& ~~~(BitVec.ofNat 32 (s.causesHeld n)))), .ok)

/-- A transmit synthesiser loses lock (R123, R402): an LTX lane's is a fault trigger, and both kinds report cause 0x0D. -/
def State.synthLost (s : State) (n : Nat) : State :=
  if n < 16 then
    if s.is (F.LTX_STATUS_SYNTH_LOCK n) then
      let s := ((s.put (F.LTX_STATUS_SYNTH_LOCK n) false).put (F.LTX_EVENT_SYNTH_UNLOCK n) true).line n 7
      ((s.ltxFault n (F.LTX_FAULT_CAUSE_SYNTH n)).becameDark n).report n 13
    else s
  else if s.is (F.HTX_STATUS_CDR_LOCK n) then
    (((s.put (F.HTX_STATUS_CDR_LOCK n) false).put (F.HTX_EVENT_CDR_UNLOCK n) true).line n 7).report n 13
  else s

/-! ## Commands -/

/-- SQUELCH_CLEAR (R121): a write of CTL with SQUELCH = 0. -/
def execSquelchClear (m : Master) (n : Fin 8) (v : Word) (s : State) : Host.Outcome State Fault Refusal :=
  done (s.via (R.LTX_CTL (8 + n)) m fun s => s.ltxCtl (8 + n) (v &&& ~~~0x10#32))

/-- SQUELCH_SET (R122): a write of CTL with SQUELCH = 1 and the other fields as they stand. -/
def execSquelchSet (m : Master) (n : Fin 8) (s : State) : Host.Outcome State Fault Refusal :=
  done (s.via (R.LTX_CTL (8 + n)) m fun s => s.ltxCtl (8 + n) ((s.rd (R.LTX_CTL (8 + n)) &&& ~~~0x20#32) ||| 0x10#32))

/-- FORCE_OFF (R123). -/
def execForceOff (m : Master) (n : Fin 8) (s : State) : Host.Outcome State Fault Refusal :=
  done (s.via (R.LTX_CTL (8 + n)) m fun s => (s.forceDark (8 + n), .ok))

/-- RAMP_STEP (R114). -/
def execRampStep (n : Fin 8) (s : State) : Host.Outcome State Fault Refusal := done (s.rampTick (8 + n))

/-- FAULT_RAMP_STEP (R124). -/
def execFaultRampStep (n : Fin 8) (s : State) : Host.Outcome State Fault Refusal := done (s.faultTick (8 + n))

/-- SYNTH_UNLOCK (R123). -/
def execSynthUnlock (t : Fin 24) (s : State) : Host.Outcome State Fault Refusal := done (s.synthLost (laneOfOut t))

/-- BIAS_WRITE (R118). -/
def execBiasWrite (m : Master) (n : Fin 8) (v : Word) (s : State) : Host.Outcome State Fault Refusal :=
  done (s.via (R.LTX_BIAS (8 + n)) m fun s => s.biasWrite (8 + n) v)

/-- BIAS_STEP (R118). -/
def execBiasStep (n : Fin 8) (s : State) : Host.Outcome State Fault Refusal := done (s.biasStep (8 + n))

/-- FAULT_CAUSE_CLEAR (R126). -/
def execFaultCauseClear (m : Master) (n : Fin 8) (v : Word) (s : State) : Host.Outcome State Fault Refusal :=
  done (s.via (R.LTX_FAULT_CAUSE (8 + n)) m fun s => s.causeClear (8 + n) v)

end Sys2Proof.Machine
end

