-- ==== Sys2Proof/Machine/LineRx.lean ====
section
/-! DEFINITION. Sys2Proof/Machine/LineRx.lean: line receive lanes (chapter Line receive: converters, equalisers and acquisition): presence, the
acquisition state table, markers and capture, loss of signal, near-end loopback and waveform capture. -/

namespace Sys2Proof.Machine

/-- Both witnesses of presence hold (R90). -/
def State.witnessed (s : State) (n : Nat) : Bool := s.is (F.LRX_STATUS_AMP_DET n) && s.is (F.LRX_STATUS_PWR_WEIR n)

/-- A break of either condition ends presence (R90). -/
def State.presenceCheck (s : State) (n : Nat) : State := if s.witnessed n then s else s.put (F.LRX_STATUS_PRESENT n) false

/-- The presence weir of a channel followed into STATUS.PWR_WEIR (R90, R363). -/
def State.followWeir (s : State) (n : Nat) : State :=
  if s.laneOn n then (s.put (F.LRX_STATUS_PWR_WEIR n) (s.weir n 0)).presenceCheck n else s

/-- Assert and deassert levels of the amplitude detector in mVppd (R90). -/
def adetLevels (lvl : Nat) : Nat × Nat := [(60, 40), (80, 50), (100, 60), (150, 100)].getD lvl (100, 60)

/-- The amplitude detector at an amplitude (R460): it compares on a lane that has left OFF, and holds its state between the levels. -/
def State.detect (s : State) (n mv : Nat) : State :=
  if s.running n then
    let t := adetLevels (s.fld (F.LRX_ACQ_CFG_ADET_LVL n))
    let s := if t.1 ≤ mv then s.put (F.LRX_STATUS_AMP_DET n) true
      else if mv ≤ t.2 then s.put (F.LRX_STATUS_AMP_DET n) false else s
    s.presenceCheck n
  else s

/-- Acquisition from here on expects training frames while training has not reached data and both halves of the pair are in service (R95, R163). -/
def State.expectFrames (s : State) (n : Nat) : State :=
  let e := !s.is (F.LRX_TRN_STAT_RX_DATA n) && !s.halfPair n
  s.onLane n fun l => { l with frames := e }

/-- PRESENCE_QUALIFIED (R90, R95): clock recovery starts from DARK and from LOS; an LRX half alone in service stays in DARK outside Diagnostic (R163). -/
def State.present (s : State) (n : Nat) : State :=
  let st := s.fld (F.LRX_STATUS_ACQ_STATE n)
  if st ≠ 0 && s.witnessed n && !s.nearEnd then
    let s := s.put (F.LRX_STATUS_PRESENT n) true
    if s.halfPair n && s.runMode != 5 then s
    else if st = 1 then (s.expectFrames n).lrxCdr n
    else if st = 7 then (((s.put (F.LRX_EVENT_LOS_EXIT n) true).line n 6).expectFrames n).lrxCdr n
    else s
  else s

/-- A failed acquisition (R94, R95), by a timeout or by the capture limit: a lane fault, but with its pair's other half out of service a silent return to DARK (R163). -/
def State.acqFail (s : State) (n : Nat) (timeout : Bool) : State :=
  if s.halfPair n then s.lrxDark n 1
  else
    let s := s.put (F.LRX_EVENT_ACQ_FAULT n) true
    if timeout then s.timedOut n 3 else s.report n 3

/-- A timeout of one acquisition state. -/
def State.acqTimeout (s : State) (n st : Nat) : State := if s.fld (F.LRX_STATUS_ACQ_STATE n) = st then s.acqFail n true else s

/-- Entry into SEEK: the active bank is kept for a capture (R95). -/
def State.seek (s : State) (n : Nat) : State :=
  (s.onLane n fun l => { l with seekBank := (List.range 64).map (s.activeWord n) }).lrxSet n 4

/-- PROG_READY written (R95). -/
def State.progReady (s : State) (n : Nat) : State :=
  if s.fld (F.LRX_STATUS_ACQ_STATE n) = 3 then s.seek n else s.put (F.LRX_ACQ_CMD_PROG_READY n) true

/-- QUALIFIED written (R95): it ends SEEK when no frames are expected. -/
def State.acqQualified (s : State) (n : Nat) : State :=
  if s.fld (F.LRX_STATUS_ACQ_STATE n) = 4 && !(s.lane n).frames then s.lrxSet n 6 else s.put (F.LRX_ACQ_CMD_QUALIFIED n) true

/-- A write of ACQ_CMD. -/
def State.acqCmd (s : State) (n : Nat) (v : Word) : State × Resp :=
  let s := if bitAt v.toNat 0 then s.progReady n else s
  (if bitAt v.toNat 1 then s.acqQualified n else s, .ok)

/-- MARKER_ALIGNMENT_QUALIFIED (R91): two peaks of at least MKR_THR exactly 4,096 symbols apart. -/
def State.markerQualified (s : State) (n pos1 pos2 p1 p2 : Nat) : State :=
  let thr := s.fld (F.LRX_ACQ_CFG_MKR_THR n)
  if s.fld (F.LRX_STATUS_ACQ_STATE n) = 4 && (s.lane n).frames && pos2 == pos1 + 4096 && decide (thr ≤ p1) && decide (thr ≤ p2) then
    let s := (s.setFld (F.LRX_MKR_PEAK_ALIGNED n) p2).setFld (F.LRX_MKR_PEAK_OTHER n) 0
    (s.onLane n fun l => { l with align := pos2 % 4096 }).lrxSet n 5
  else s

/-- Distance of a position from an alignment, modulo 4,096. -/
def alignOff (align pos : Nat) : Nat :=
  let d := (pos % 4096 + 4096 - align) % 4096
  min d (4096 - d)

/-- CAPLOG.RATIO of a peak over the recorded strength (R92); over a strength of 0 the spec states none: a free value (log entry 91). -/
def State.capRatio (s : State) (held p : Nat) : State × Nat :=
  if held = 0 then (s.use, (Config.freeWord s.free).toNat % 256) else (s, min (16 * p / held) 255)

/-- CAPTURE (R92 to R95): a peak in the capture window. -/
def State.capturePeak (s : State) (n pos p : Nat) : State :=
  if s.fld (F.LRX_STATUS_ACQ_STATE n) = 5 ∧ 2 < alignOff (s.lane n).align pos then
    let held := s.fld (F.LRX_MKR_PEAK_ALIGNED n)
    let s := s.setFld (F.LRX_MKR_PEAK_OTHER n) (max (s.fld (F.LRX_MKR_PEAK_OTHER n)) p)
    if 2 * held ≤ p then
      let x := (s.bump (F.LRX_CAPLOG_COUNT n) 1).capRatio held p
      let s := x.1.setFld (F.LRX_CAPLOG_RATIO n) x.2
      let s := s.put (F.LRX_EVENT_CAPTURE n) true
      if s.fld (F.LRX_STATUS_CAPTURES n) < 3 then
        let s := s.incr (F.LRX_STATUS_CAPTURES n)
        let s := s.wrAll (bankAddr n (s.bankB n) 0) (s.lane n).seekBank
        (s.expectFrames n).lrxSet n 2
      else s.acqFail n false
    else s
  else s

/-- MARKER_PEAK_MISSING (R95): the window closes and the alignment is sought again. -/
def State.peakMissing (s : State) (n : Nat) : State := if s.fld (F.LRX_STATUS_ACQ_STATE n) = 5 then s.seek n else s

/-- CAPTURE_WINDOW_END (R92, R95). -/
def State.windowEnd (s : State) (n : Nat) : State := if s.fld (F.LRX_STATUS_ACQ_STATE n) = 5 then s.lrxSet n 6 else s

/-- The condition of R97 that a loss of signal names: 0 the amplitude detector, 1 the weir, 2 clock recovery. -/
def State.lostBy (s : State) (n cause : Nat) : Bool :=
  if cause = 0 then !s.is (F.LRX_STATUS_AMP_DET n)
  else if cause = 1 then !s.is (F.LRX_STATUS_PWR_WEIR n)
  else !s.is (F.LRX_STATUS_CDR_LOCK n) && decide (3 ≤ s.fld (F.LRX_STATUS_ACQ_STATE n))

/-- LRX_LOS (R97): never declared above 120 mVppd with clock recovery locked and the weir set, nor in near-end loopback (R99). -/
def State.lrxLos (s : State) (n cause mv : Nat) : State :=
  let st := s.fld (F.LRX_STATUS_ACQ_STATE n)
  let sound := decide (120 < mv) && s.is (F.LRX_STATUS_CDR_LOCK n) && s.is (F.LRX_STATUS_PWR_WEIR n)
  if decide (2 ≤ st) && decide (st ≤ 6) && s.lostBy n cause && !sound && !s.nearEnd then
    ((s.put (F.LRX_EVENT_LOS_ENTER n) true).line n 5).lrxDark n 7
  else s

/-- The pair's training has reached data in both directions (R173): the timer stops and the transition in progress has these lanes. -/
def State.trnFinish (s : State) (n : Nat) : State :=
  if s.fld (F.LRX_TRN_CTL_STATE n) = 5 && s.is (F.LRX_TRN_STAT_RX_DATA n) then (s.timerStop n).lanesDone [n, n + 8] else s

/-- Training has reached data for the receive direction (R144, R172): the next sample is the first data symbol, taken after a level of 0 (R136), and nothing received before it is
decoded. -/
def State.rxData (s : State) (n : Nat) : State :=
  let s := ((s.put (F.LRX_TRN_STAT_RX_DATA n) true).pairLine n 10).onLane n fun l =>
    { l with peerData := false, rx := { l.rx with skip := lookAhead + l.rx.ys.length, prev := (0, 7), q := [] } }
  let s := s.setPound n ((s.pound n).filter fun b => b.soft.isEmpty)
  ((s.cwHunt n 0).syncPair n).trnFinish n

/-- NEAR_END_LOCKED (R99, R174): LOCKED at once, and training skipped to data. -/
def State.nearLocked (s : State) (n : Nat) : State :=
  let st := s.fld (F.LRX_STATUS_ACQ_STATE n)
  if s.nearEnd && s.acting && s.laneOn n && !s.oos n && !s.neverStarts && decide (st ≤ 1) then
    let s := if st = 0 then s.laneStart n else s
    let s := (s.onLane n fun l => { l with frames := false, started := false }).lrxSet n 6
    if s.halfPair n then s.halfDone n else (s.trnSet n 5).rxData n
  else s

/-! ## Waveform capture (R100, R101) -/

/-- Why a START is refused, the first reason that applies. DESIGN CHOICE: a transition in progress is reason 2, also while CURRENT is still Diagnostic (log entry 31). -/
def State.wcapRefusal (s : State) (n : Nat) : Option Nat :=
  if s.claimUse 1 ≠ 1 then some 1
  else if s.mode ≠ 5 ∨ s.is F.MODE_STATUS_BUSY then some 2
  else if lrxLanes.any fun k => k != n && s.is (F.LRX_WCAP_STAT_BUSY k) then some 3
  else none

/-- A write of WCAP_CTL with START (R100, R350). DESIGN CHOICE (log entry 31): START restarts the lane's own running capture; accepted, it clears DONE and ABORTED and leaves
REFUSED; refused, it answers an error and SRC and STRIDE of the write are stored. -/
def State.wcapStart (s : State) (n : Nat) (v : Word) (m : Master) : State × Resp :=
  let s := (s.setFld (F.LRX_WCAP_CTL_SRC n) (bitsOf v.toNat 1 1)).setFld (F.LRX_WCAP_CTL_STRIDE n) (bitsOf v.toNat 2 16)
  if !bitAt v.toNat 0 then (s, .ok)
  else
    match s.wcapRefusal n with
    | some c =>
      let s := (s.put (F.LRX_WCAP_STAT_REFUSED n) true).setFld (F.LRX_WCAP_STAT_REASON n) c
      (if c = 1 then s.configError 2 m.holder else s, .err 1)
    | none =>
      let len := min (clampNat 1 4194304 (s.fld (F.LRX_WCAP_LEN_LENGTH n))) (s.fld F.MEMX_CAP_LIMIT_SAMPLES)
      let str := max 64 (s.fld (F.LRX_WCAP_CTL_STRIDE n))
      let src := s.is (F.LRX_WCAP_CTL_SRC n)
      let s := ((s.put (F.LRX_WCAP_STAT_BUSY n) true).put (F.LRX_WCAP_STAT_DONE n) false).put (F.LRX_WCAP_STAT_ABORTED n) false
      (s.onLane n fun l => { l with wcapLen := len, wcapStr := str, wcapSrc := src, wcapPos := 0, wcapBuf := [], wcapGap := 0 }, .ok)

/-- WCAP_COMPLETE (R100): the samples taken so far go to the capture SRAM, the last of them whatever their number and others by whole ECC words (log entry 31); with the last the
capture is complete. It ends at a bank removed meanwhile (R350). LOG_INFO.REQ has no code for it: a free value where a word is merged. -/
def State.wcapRun (s : State) (n : Nat) : State :=
  let l := s.lane n
  if s.is (F.LRX_WCAP_STAT_BUSY n) then
    let len := max l.wcapPos (min l.wcapLen (s.fld F.MEMX_CAP_LIMIT_SAMPLES))
    let bs := l.wcapBuf.take (len - l.wcapPos)
    let last := decide (len ≤ l.wcapPos + bs.length)
    let k := if last then bs.length else bs.length / 8 * 8
    let s := s.use.putWords ⟨(Config.freeWord s.free).toNat % 16, 0⟩ (0x02400000 + l.wcapPos) (bs.take k)
    let s := s.onLane n fun l => { l with wcapPos := l.wcapPos + k, wcapBuf := l.wcapBuf.drop k }
    if last then
      let s := (s.put (F.LRX_WCAP_STAT_BUSY n) false).put (F.LRX_WCAP_STAT_DONE n) true
      ((s.setFld (F.LRX_WCAP_STAT_WRITTEN n) len).put (F.LRX_EVENT_WCAP_DONE n) true).line n 13
    else s
  else s

/-! ## Commands -/

/-- PRESENCE_QUALIFIED (R90, R95). -/
def execPresenceQualified (n : Fin 8) (s : State) : Host.Outcome State Fault Refusal := done (s.present n)

/-- AMPLITUDE_DETECTOR_CHANGE (R460). -/
def execAmplitudeDetectorChange (n : Fin 8) (mv : Nat) (s : State) : Host.Outcome State Fault Refusal := done (s.detect n mv)

/-- LRX_CDR_TIMEOUT (R95). -/
def execLrxCdrTimeout (n : Fin 8) (s : State) : Host.Outcome State Fault Refusal := done (s.acqTimeout n 2)

/-- PROG_READY (R95). -/
def execProgReady (m : Master) (n : Fin 8) (s : State) : Host.Outcome State Fault Refusal :=
  done (s.via (R.LRX_ACQ_CMD n) m fun s => s.acqCmd n 1#32)

/-- LRX_ADAPT_TIMEOUT (R95). -/
def execLrxAdaptTimeout (n : Fin 8) (s : State) : Host.Outcome State Fault Refusal := done (s.acqTimeout n 3)

/-- MARKER_ALIGNMENT_QUALIFIED (R91). -/
def execMarkerAlignmentQualified (n : Fin 8) (pos1 pos2 p1 p2 : Nat) (s : State) : Host.Outcome State Fault Refusal :=
  done (s.markerQualified n pos1 pos2 p1 p2)

/-- ACQ_QUALIFIED (R95). -/
def execAcqQualified (m : Master) (n : Fin 8) (s : State) : Host.Outcome State Fault Refusal :=
  done (s.via (R.LRX_ACQ_CMD n) m fun s => s.acqCmd n 2#32)

/-- LRX_SEEK_TIMEOUT (R95). -/
def execLrxSeekTimeout (n : Fin 8) (s : State) : Host.Outcome State Fault Refusal := done (s.acqTimeout n 4)

/-- CAPTURE (R92 to R94). -/
def execCapture (n : Fin 8) (pos p : Nat) (s : State) : Host.Outcome State Fault Refusal := done (s.capturePeak n pos p)

/-- MARKER_PEAK_MISSING (R95). -/
def execMarkerPeakMissing (n : Fin 8) (s : State) : Host.Outcome State Fault Refusal := done (s.peakMissing n)

/-- CAPTURE_WINDOW_END (R92). -/
def execCaptureWindowEnd (n : Fin 8) (s : State) : Host.Outcome State Fault Refusal := done (s.windowEnd n)

/-- LRX_LOS (R97). -/
def execLrxLos (n : Fin 8) (cause : Fin 3) (mv : Nat) (s : State) : Host.Outcome State Fault Refusal := done (s.lrxLos n cause mv)

/-- LRX_LOS_TIMEOUT (R95). -/
def execLrxLosTimeout (n : Fin 8) (s : State) : Host.Outcome State Fault Refusal :=
  done (if s.fld (F.LRX_STATUS_ACQ_STATE n) = 7 then (if s.halfPair n then s.lrxDark n 1 else s.report n 4) else s)

/-- NEAR_END_LOCKED (R99, R174). -/
def execNearEndLocked (n : Fin 8) (s : State) : Host.Outcome State Fault Refusal := done (s.nearLocked n)

/-- WCAP_START (R100). -/
def execWcapStart (m : Master) (n : Fin 8) (v : Word) (s : State) : Host.Outcome State Fault Refusal :=
  done (s.via (R.LRX_WCAP_CTL n) m fun s => s.wcapStart n (v ||| 1#32) m)

/-- WCAP_COMPLETE (R100). -/
def execWcapComplete (n : Fin 8) (_samples : Unit) (s : State) : Host.Outcome State Fault Refusal := done (s.wcapRun n)

end Sys2Proof.Machine
end

