-- ==== Sys2Proof/Machine/CodeLock.lean ====
section
/-! DEFINITION. Sys2Proof/Machine/CodeLock.lean: decoding, codeword lock, codeword injection and the host code monitors (chapter Inner codes and codeword lock). -/

namespace Sys2Proof.Machine

/-- The lane runs the Deep-reach code. -/
def State.deep (s : State) : Bool := s.lineMode == 4

/-! ## De-interleaving (R132, R136) -/

/-- Codeword w of a group of symbols: symbol 4q + w carries bits n - 1 - 2q and n - 2 - 2q. -/
def groupWord (deep : Bool) (x : List Soft) (w : Nat) : Nat :=
  let n := codeLen deep
  (List.range (n / 2)).foldl (fun v q =>
    let b := ungray (x.getD (4 * q + w) .zero).g
    v + b2n b.1 * 2 ^ (n - 1 - 2 * q) + b2n b.2 * 2 ^ (n - 2 - 2 * q)) 0

/-- The reliabilities of its bits, by position. -/
def groupRels (deep : Bool) (x : List Soft) (w : Nat) : List Nat :=
  let n := codeLen deep
  (List.range n).map fun p =>
    let y := x.getD (4 * ((n - 1 - p) / 2) + w) .zero
    if (n - 1 - p) % 2 = 0 then y.hi else y.lo

/-- The verdicts of the lock engine on the first 64 candidate codewords of a run of symbols, in transmission order (R141, R142). -/
def candidates (deep : Bool) (x : List Soft) : List Bool :=
  let g := 2 * codeLen deep
  (List.range (4 * min 16 (x.length / g))).map fun i =>
    let y := x.drop (i / 4 * g)
    zeroSyndrome deep (groupWord deep y (i % 4)) (groupRels deep y (i % 4))

/-- The first verdicts up to the one that decides an offset (R142): lock with the 48th zero syndrome, abandoned with the 17th other one; undecided is none. -/
def lockTest : List Bool → Nat → Nat → List Bool → Option (Bool × List Bool)
  | [], _, _, _ => none
  | v :: vs, z, b, seen =>
    let z := z + b2n v
    let b := b + b2n (!v)
    if 48 ≤ z then some (true, v :: seen) else if 17 ≤ b then some (false, v :: seen) else lockTest vs z b (v :: seen)

/-- Verdicts kept for ZERO_COUNT, newest first: the last 64 (R143, R153). -/
def State.cwJudge (s : State) (n : Nat) (zeros : List Bool) : State :=
  let l := (zeros ++ (s.lane n).last64).take 64
  (s.onLane n fun x => { x with last64 := l }).setFld (F.LRX_CW_STAT_ZERO_COUNT n) (l.count true)

/-- Symbols that have gone through the lock engine or the decoder, from the front of the buffer. -/
def State.cwTake (s : State) (n k : Nat) : State :=
  s.onLane n fun l => { l with group := [], dec := l.dec.drop k, stamp := l.stamp + BitVec.ofNat 21 (16 * k) }

/-- Loss of codeword lock (R143, R144, R147): counted, reported, and the hunt starts at the alignment lost, with the group after the one in hand. -/
def State.cwLoss (s : State) (n : Nat) : State :=
  let s := (s.put (F.LRX_CW_EVENT_LOCK_LOST n) true).bump (F.LRX_CW_LOSSES_COUNT n) 1
  let s := if (s.lane n).group.isEmpty then s else s.cwTake n (2 * codeLen s.deep)
  (((s.cwSeek n (s.fld (F.LRX_CW_STAT_OFFSET n))).pairLine n 11).syncPair n).report n 5

/-- Fewer than 16 of the last 64 codewords have a zero syndrome (R143). -/
def State.cwPoor (s : State) (n : Nat) : Bool := decide ((s.lane n).last64.count true < 16)

/-- The result of one codeword: counted, and its message into its group (R139). -/
def State.cwResult (s : State) (n w : Nat) (r : Option (List Nat)) : State :=
  let s := (s.bump (F.LRX_CW_TOTAL_COUNT n) 1).tally (.ofLane 0x0A n 1)
  let s := match r with
    | none => ((s.bump (F.LRX_CW_FAIL_COUNT n) 1).put (F.LRX_CW_EVENT_UNCORR n) true).tally (.ofLane 0x0C n 1)
    | some [] => s
    | some (f :: fs) => ((s.bump (F.LRX_CW_CORR_COUNT n) 1).bump (F.LRX_CW_BITS_COUNT n) (f :: fs).length).tally (.ofLane 0x0B n 1)
  s.groupIn n (2 * codeLen s.deep) (flipAll w (r.getD []) / 2 ^ parityBits s.deep) r.isNone (r.any fun f => !f.isEmpty)

/-- CODEWORD_DECODE (R136, R138, R139, R143): the next codeword of the group in hand of LRXn, while codeword lock is held; none while no whole group has come or an output that the
pipeline feeds is full. -/
def State.cwDecode (s : State) (n : Nat) : State :=
  let l := s.lane n
  if s.coded && s.is (F.LRX_CW_STAT_LOCKED n) && decide (2 * codeLen s.deep ≤ l.dec.length) && !s.backedUp n then
    let w := groupWord s.deep l.dec l.group.length
    let rel := groupRels s.deep l.dec l.group.length
    let s := (s.cwJudge n [zeroSyndrome s.deep w rel]).cwResult n w (decodeWord s.deep (lrpCount s.deep l.saver) w rel)
    if s.cwPoor n then s.cwLoss n else s
  else s

/-- CODEWORD_LOCK (R142): 48 zero syndromes among the candidates of an offset. The candidates examined, to the end of their group, are not decoded. -/
def State.cwLocked (s : State) (n : Nat) : State :=
  match if s.coded && s.is (F.LRX_CW_STAT_HUNTING n) then lockTest (candidates s.deep (s.lane n).dec) 0 0 [] else none with
  | some (true, seen) =>
    let s := ((s.put (F.LRX_CW_STAT_LOCKED n) true).put (F.LRX_CW_STAT_HUNTING n) false).put (F.LRX_CW_EVENT_LOCK n) true
    let s := (s.cwJudge n seen).cwTake n ((seen.length + 3) / 4 * (2 * codeLen s.deep))
    (s.pairLine n 11).syncPair n
  | _ => s

/-- OFFSET_ABANDON (R142): 17 candidates without one; the next offset, modulo the symbols of a group, at the next candidate group boundary. -/
def State.offsetAbandon (s : State) (n : Nat) : State :=
  match if s.coded && s.is (F.LRX_CW_STAT_HUNTING n) then lockTest (candidates s.deep (s.lane n).dec) 0 0 [] else none with
  | some (false, seen) =>
    let g := 2 * codeLen s.deep
    let s := s.setFld (F.LRX_CW_STAT_OFFSET n) ((s.fld (F.LRX_CW_STAT_OFFSET n) + 1) % g)
    (s.cwJudge n seen).cwTake n ((seen.length + 3) / 4 * g + 1)
  | _ => s

/-- CODEWORD_LOCK_LOSS (R143). -/
def State.cwLost (s : State) (n : Nat) : State := if s.coded && s.is (F.LRX_CW_STAT_LOCKED n) && s.cwPoor n then s.cwLoss n else s

/-- A write of CW_CTL (R144, R147): RESTART ends a lock without counting a loss. -/
def State.cwCtl (s : State) (n : Nat) (v : Word) : State × Resp :=
  (if bitAt v.toNat 0 && s.coded && s.running n then ((s.cwSeek n 0).onLane n fun l => { l with dec := [] }).syncPair n else s, .ok)

/-- A write of LTX CW_INJ (R153). -/
def State.cwInjWrite (s : State) (n : Nat) (v : Word) : State × Resp :=
  let s := (s.setFld (F.LTX_CW_INJ_WORD n) (bitsOf v.toNat 0 2)).setFld (F.LTX_CW_INJ_NBITS n) (bitsOf v.toNat 2 2)
  let s := if bitAt v.toNat 6 then s.put (F.LTX_CW_INJ_REFUSED n) false else s
  if !bitAt v.toNat 4 then (s, .ok)
  else if s.fld (F.LTX_STATUS_STATE n) = 3 && s.coded && !s.is (F.LTX_CW_INJ_PENDING n) then (s.put (F.LTX_CW_INJ_PENDING n) true, .ok)
  else (s.put (F.LTX_CW_INJ_REFUSED n) true, .err 1)

/-! ## Host code monitors (R149 to R151) -/

/-- RS_STAT as read: ACTIVE and ALIGNED hold while the unit counts. -/
def State.rsStat (s : State) (n u : Nat) : Word :=
  let on := s.rsActive n u
  BitVec.ofNat 32 (b2n on + 2 * b2n (on && s.is (F.LRX_RS_STAT_ALIGNED n u)) + 4 * s.fld (F.LRX_RS_STAT_NO_ALIGN n u))

/-- The bits a unit has read, by slot. -/
def State.rsBits (s : State) (n u : Nat) : List (Nat × BitVec 256) := ((s.lane n).rs.filter fun e => e.1 == u).map (·.2)

/-- The alignment markers of the unit's layout stand in what it has read. -/
def State.rsFinds (s : State) (n u : Nat) : Bool := Config.rsMarkers (s.fld (F.LRX_RS_CTL_LAYOUT n u)) (s.fld (F.LRX_RS_CTL_SPAN n u)) (s.rsBits n u)

/-- RS_ALIGN: the unit finds the alignment markers. -/
def State.rsAlign (s : State) (n u : Nat) : State :=
  if s.rsActive n u && !s.is (F.LRX_RS_STAT_ALIGNED n u) && s.rsFinds n u then s.rsStart n u true else s

/-- Codewords that a unit has decoded since its alignment. -/
def State.rsPlace (s : State) (n u : Nat) : Nat := if u = 0 then (s.lane n).rsDone.1 else (s.lane n).rsDone.2

/-- The bits of one more codeword of 544 symbols of 10 bits have come since the alignment. -/
def State.rsWhole (s : State) (n u : Nat) : Bool := decide (5440 * (s.rsPlace n u + 1) ≤ s.bargeSyms * (s.rsBits n u).length)

/-- The unit's verdict on its next codeword. -/
def State.rsVerdict (s : State) (n u : Nat) : Option Nat :=
  (Config.rsErrors (s.fld (F.LRX_RS_CTL_LAYOUT n u)) (s.fld (F.LRX_RS_CTL_SPAN n u)) (s.rsBits n u) (s.rsPlace n u)).map (·.val)

/-- RS_NO_ALIGN: none found within 1 ms; it keeps searching. -/
def State.rsNoAlign (s : State) (n u : Nat) : State :=
  if s.rsActive n u && !s.is (F.LRX_RS_STAT_ALIGNED n u) then s.put (F.LRX_RS_STAT_NO_ALIGN n u) true else s

/-- A codeword counted with its symbol errors, none for one that is not correctable. -/
def State.rsCount (s : State) (n u : Nat) (errs : Option Nat) : State :=
  let s := s.bump (F.LRX_RS_CW_COUNT n u) 1
  match errs with
  | none => s.bump (F.LRX_RS_UNCORR_COUNT n u) 1
  | some e => (s.bump (F.LRX_RS_SYM_COUNT n u) e).setFld (F.LRX_RS_MAXSYM_MAX n u) (max (s.fld (F.LRX_RS_MAXSYM_MAX n u)) e)

/-- RS_CODEWORD: the next codeword of an aligned unit is decoded. -/
def State.rsCodeword (s : State) (n u : Nat) : State :=
  if s.rsActive n u && s.is (F.LRX_RS_STAT_ALIGNED n u) && s.rsWhole n u then
    (s.rsCount n u (s.rsVerdict n u)).onLane n fun l => { l with rsDone := if u = 0 then (l.rsDone.1 + 1, l.rsDone.2) else (l.rsDone.1, l.rsDone.2 + 1) }
  else s

/-- A write of RS_CTL: a change restarts the unit's alignment. -/
def State.rsCtl (s : State) (n u : Nat) (v : Word) : State × Resp :=
  let old := s.rd (R.LRX_RS_CTL n u)
  let s := s.wr (R.LRX_RS_CTL n u) (v &&& 0x1F#32)
  (if s.rd (R.LRX_RS_CTL n u) = old then s else s.rsStart n u false, .ok)

/-! ## Commands -/

/-- CODEWORD_DECODE (R138, R139). -/
def execCodewordDecode (n : Fin 8) (_word _rel : Unit) (s : State) : Host.Outcome State Fault Refusal := done (s.cwDecode n)

/-- CODEWORD_LOCK (R142, R146). -/
def execCodewordLock (n : Fin 8) (_zeros : Unit) (s : State) : Host.Outcome State Fault Refusal := done (s.cwLocked n)

/-- OFFSET_ABANDON (R142). -/
def execOffsetAbandon (n : Fin 8) (_failing : Unit) (s : State) : Host.Outcome State Fault Refusal := done (s.offsetAbandon n)

/-- CODEWORD_LOCK_LOSS (R143, R147). -/
def execCodewordLockLoss (n : Fin 8) (s : State) : Host.Outcome State Fault Refusal := done (s.cwLost n)

/-- CW_RESTART (R144, R147). -/
def execCwRestart (m : Master) (n : Fin 8) (s : State) : Host.Outcome State Fault Refusal :=
  done (s.via (R.LRX_CW_CTL n) m fun s => s.cwCtl n 1#32)

/-- CW_INJECT (R153). -/
def execCwInject (m : Master) (n : Fin 8) (v : Word) (s : State) : Host.Outcome State Fault Refusal :=
  done (s.via (R.LTX_CW_INJ (8 + n)) m fun s => s.cwInjWrite (8 + n) (v ||| 0x10#32))

/-- RS_CODEWORD (R151). -/
def execRsCodeword (t : Fin 16) (u : Fin 2) (_errs : Unit) (s : State) : Host.Outcome State Fault Refusal := done (s.rsCodeword t u)

/-- RS_ALIGN (R151). -/
def execRsAlign (t : Fin 16) (u : Fin 2) (s : State) : Host.Outcome State Fault Refusal := done (s.rsAlign t u)

/-- RS_NO_ALIGN (R151). -/
def execRsNoAlign (t : Fin 16) (u : Fin 2) (s : State) : Host.Outcome State Fault Refusal := done (s.rsNoAlign t u)

/-- RS_CTL_WRITE (R150). -/
def execRsCtlWrite (m : Master) (t : Fin 16) (u : Fin 2) (v : Word) (s : State) : Host.Outcome State Fault Refusal :=
  done (s.via (R.LRX_RS_CTL t u) m fun s => s.rsCtl t u v)

end Sys2Proof.Machine
end

