-- ==== Sys2Proof/Machine/Training.lean ====
section
/-! DEFINITION. Sys2Proof/Machine/Training.lean: start-up of a lane (R180, R230), the training state table (R162, R163), frames sent and received
(R154 to R161, R168 to R172), the training timer (R173) and the training registers (R179). -/

namespace Sys2Proof.Machine

/-! ## Training start (R162, R175, R176) -/

/-- Training starts on pair n: the LTX lane is lit and sends the wake pattern or frames; a refusal is a lane fault. -/
def State.trainStart (s : State) (n : Nat) (wake : Bool) : State :=
  let s := s.onLane n fun l => { l with started := false }
  let x := s.unsquelch (n + 8)
  if x.2 then
    let s := x.1.onLane n fun l => { l with timer := s.clock }
    let s := (s.put (F.LRX_TRN_STAT_TIMER_RUN n) true).setFld (F.LRX_TRN_STAT_ELAPSED n) 0
    if wake then (s.setFld (F.LTX_CTL_SRC (n + 8)) 2).trnSet n 6 else (s.setFld (F.LTX_CTL_SRC (n + 8)) 1).trnSet n 1
  else x.1.report n 9

/-- Both halves of pair n run and are in service, so that it can train (R163); none in near-end loopback (R174). -/
def State.canTrain (s : State) (n : Nat) : Bool :=
  s.acting && !s.nearEnd && !s.oos n && !s.oos (n + 8) && s.running n && s.running (n + 8)

/-- A training start that is due happens when both halves are up; a synthesiser that is not locked then refuses the light (R121, R162). -/
def State.trainCheck (s : State) (n : Nat) : State :=
  if (s.lane n).started && s.canTrain n && s.fld (F.LRX_TRN_CTL_STATE n) == 0 then
    s.trainStart n (s.is (F.LRX_TRN_CFG_WAKE_FIRST n))
  else s

/-! ## Start-up trims (R180, R184, R189) -/

/-- The lane leaves OFF, by its kind (R64, R95, R117, R122, R230). -/
def State.laneUp (s : State) (n : Nat) : State :=
  if n < 8 then
    let w := s.weir n 0
    let s := (s.put (F.LRX_STATUS_AMP_DET n) false).put (F.LRX_STATUS_PWR_WEIR n) w
    let s := (s.onLane n fun l => { l with started := true, frames := false }).lrxDark n 1
    s.halfDone n
  else if n < 16 then
    let s := ((s.put (F.LTX_CTL_SQUELCH n) true).setBias n (s.biasFloor n)).ltxSet n 1
    ((s.onLane (n - 8) fun l => { l with started := true }).lockStart n).halfDone n
  else if n < 32 then s.hrxSet n 1
  else
    let s := (s.onLane n fun l => { l with started := true }).lockStart n
    (s.syncHtx n).lanesDone [n]

/-- A level 3 step of a pair with one half out of service is complete when the other half has started (R163, R400). -/
def State.halfStep (s : State) (n : Nat) : State :=
  if n < 16 && s.halfPair n && s.is (F.FAULT_LADDER_ACTIVE (n % 8)) && s.fld (F.FAULT_LADDER_LEVEL (n % 8)) == 3 then s.stepComplete (n % 8) else s

/-- START_UP_TRIMS_DONE: the static trims are measured (a free value), T_REF is set and any deferred trigger, retry or GIVEUP cleared; a lane that may start leaves OFF and its
sequencer starts. None starts after a ROM failure (R408). -/
def State.trimsDone (s : State) (n : Nat) (t : Int) : State :=
  if s.laneOn n && !s.oos n && s.acting && !s.neverStarts then
    let s := ((s.setFld (F.CAL_LANE_REF_T_REF n) (codeOf 10 t)).setFld (F.CAL_LANE_STAT_STATE n) 0).setFld (F.CAL_LANE_STAT_RETRIES n) 0
    let s := s.use.onLane n fun l => { l with trim := Config.freeWord s.free, branch := [], branchStep := [] }
    if s.running n then s
    else
      let s := ((s.laneUp n).laneStart n).syncFreq (if n < 16 then n % 8 else s.lineOf n)
      if n < 16 then (s.halfStep n).trainCheck (n % 8) else s
  else s

/-- SYNTH_LOCK (R112, R313): a transmit synthesiser is locked; one that runs from the root needs a stable root. -/
def State.synthLocked (s : State) (n : Nat) : State :=
  if s.laneOn n then
    if n < 16 then
      if s.is (F.LTX_STATUS_SYNTH_LOCK n) || s.fld (F.LTX_STATUS_FREQ_SRC n) == 0 && !s.is F.CLK_STAT_ROOT_OK then s else (s.put (F.LTX_STATUS_SYNTH_LOCK n) true).line n 7
    else if s.is (F.HTX_STATUS_CDR_LOCK n) then s else (s.put (F.HTX_STATUS_CDR_LOCK n) true).line n 7
  else s

/-- WAKE_PATTERN_END (R162): WAKE_LEN after the lane is lit. -/
def State.wakeEnd (s : State) (n : Nat) : State :=
  if s.fld (F.LRX_TRN_CTL_STATE n) = 6 && s.fld (F.LTX_STATUS_STATE (n + 8)) == 3 then
    (s.setFld (F.LTX_CTL_SRC (n + 8)) 1).trnSet n 1
  else s

/-! ## Frames sent (R154 to R160, R171) -/

/-- Fields packed from the most significant on: (width, value) pairs. -/
def pack : List (Nat × Nat) → Nat → Nat
  | [], v => v
  | (w, x) :: fs, v => pack fs (v * 2 ^ w + x % 2 ^ w)

/-- The control field that LTXn sends now (R157). -/
def State.control (s : State) (n : Nat) : BitVec 128 :=
  let cd := if s.fld (F.LRX_TRN_CTL_STATE n) = 4 then (s.lane n).cdLeft - 1 else 15
  let q (f : Nat → Fld) : Nat := s.fld (f n)
  BitVec.ofNat 128 (pack [(4, 1), (4, q F.LRX_TRN_CTL_STATE), (3, n), (1, q F.LRX_TRN_CTL_RX_READY), (8, q F.LRX_TRN_TAG_LOCAL), (3, s.lineMode),
    (1, b2n s.lineRate), (1, q F.LRX_TRN_CFG_PRECODE_REQ), (1, 1), (3, 7), (4, q F.LRX_TRN_TXREQ_COEF_SEL), (2, q F.LRX_TRN_TXREQ_COEF_REQ),
    (2, q F.LRX_TRN_TXREQ_PRESET), (8, q F.LRX_TRN_TXREQ_REQ_SEQ), (8, q F.LRX_TRN_TXRSP_ACK_SEQ), (2, q F.LRX_TRN_TXRSP_COEF_STS),
    (8, q F.LRX_TRN_TXRSP_QUALITY), (4, cd), (61, 0)] 0)

/-- Own data start (R162, R171): the source is data from the next symbol. -/
def State.dataStart (s : State) (n : Nat) : State :=
  let s := (s.setFld (F.LTX_CTL_SRC (n + 8)) 0).setFld (F.LRX_TRN_STAT_COUNTDOWN n) 15
  let pre := s.is (F.LTX_CTL_PRECODE (n + 8))
  let s := (s.onLane (n + 8) fun l => { l with src := 0, half := [], prev := 0, precode := pre }).put (F.LTX_STATUS_PRECODE_ON (n + 8)) pre
  (((s.trnSet n 5).put (F.LRX_TRN_EVENT_HANDOVER_DONE n) true).trnFinish n).calCheck (n + 8)

/-- TRAINING_FRAME_SEND: one frame's 4,096 symbols, inverted by polarity and shaped (R154 to R159), while frames are the source in force and the lane is not dark. -/
def State.frameSend (s : State) (n : Nat) : State :=
  if (s.lane (n + 8)).src = 1 && !s.ltxDark (n + 8) then
    let c := s.control n
    let s := s.emit (.frame (n + 8) c (BitVec.ofNat 16 (crcOf c.toNat)) (fillSeed n))
    let s := s.sendLevels (n + 8) ((frameSymbols n c.toNat).map (invert (s.lane (n + 8)).inv))
    if s.fld (F.LRX_TRN_CTL_STATE n) = 4 then
      let k := (s.lane n).cdLeft - 1
      let s := (s.onLane n fun l => { l with cdLeft := k }).setFld (F.LRX_TRN_STAT_COUNTDOWN n) k
      if k = 0 then s.dataStart n else s
    else s
  else s

/-! ## Frames received (R161, R164, R168, R169, R172, R179) -/

/-- A field of a control field. -/
def ctrlBits (c : BitVec 128) (lo w : Nat) : Nat := bitsOf c.toNat lo w

/-- The identity checks of R161: the frame is discarded. -/
def State.frameForeign (s : State) (n : Nat) (c : BitVec 128) : Bool :=
  ctrlBits c 124 4 != 1 || s.is (F.LRX_TRN_CFG_LANE_CHECK n) && ctrlBits c 117 3 != n ||
    s.is (F.LRX_TRN_CFG_TAG_CHECK n) && ctrlBits c 108 8 != s.fld (F.LRX_TRN_TAG_PEER n)

/-- A discarded frame; 64 in a row are a lane fault. -/
def State.frameDiscard (s : State) (n : Nat) : State :=
  let s := (s.bump (F.LRX_TRN_ID_ERR_COUNT n) 1).put (F.LRX_TRN_EVENT_ID_MISMATCH n) true
  let k := (s.lane n).badRun + 1
  if 64 ≤ k then (s.onLane n fun l => { l with okRun := 0, badRun := 0 }).report n 7
  else s.onLane n fun l => { l with okRun := 0, badRun := k }

/-- PEER_OK written, with line 10 on a change (R211). -/
def State.peerOk (s : State) (n : Nat) (b : Bool) : State :=
  if s.is (F.LRX_TRN_STAT_PEER_OK n) = b then s else (s.put (F.LRX_TRN_STAT_PEER_OK n) b).pairLine n 10

/-- What an accepted frame says towards handover (R168, R169). -/
def State.frameReady (s : State) (n : Nat) (ready mismatch : Bool) : State :=
  if !ready then (s.onLane n fun l => { l with okRun := 0 }).peerOk n false
  else if mismatch then s.onLane n fun l => { l with okRun := 0 }
  else
    let k := min ((s.lane n).okRun + 1) 8
    let s := s.onLane n fun l => { l with okRun := k }
    if 8 ≤ k then s.peerOk n true else s

/-- A new request in an accepted frame sets line 9 (R164, R211). -/
def State.frameRequest (s : State) (n q : Nat) : State :=
  if q ≠ 0 ∧ q ≠ (s.lane n).lastReq then (s.onLane n fun l => { l with lastReq := q }).pairLine n 9 else s

/-- An accepted frame. -/
def State.frameAccept (s : State) (n : Nat) (c : BitVec 128) : State :=
  let s := ((s.bump (F.LRX_TRN_GOOD_COUNT n) 1).put (F.LRX_TRN_EVENT_RX_FRAME n) true).pairLine n 8
  let s := s.onLane n fun l => { l with rxf := c, badRun := 0, heard := true }
  let s := s.setFld (F.LRX_TRN_STAT_PEER_STATE n) (ctrlBits c 120 4)
  let mm := ctrlBits c 105 3 != s.lineMode || ctrlBits c 104 1 != b2n s.lineRate
  let s := s.put (F.LRX_TRN_STAT_MISMATCH n) mm
  let s := if mm then s.put (F.LRX_TRN_EVENT_MODE_MISMATCH n) true else s
  let s := (s.frameReady n (ctrlBits c 116 1 == 1) mm).frameRequest n (ctrlBits c 83 8)
  if ctrlBits c 120 4 = 4 && !s.is (F.LRX_TRN_STAT_RX_DATA n) then s.onLane n fun l => { l with peerData := true } else s

/-- TRAINING_FRAME_RECEIVED: parsed only while LOCKED, at the qualified alignment. -/
def State.frameIn (s : State) (n : Nat) (c : BitVec 128) (crc : BitVec 16) (pos : Nat) : State :=
  if s.fld (F.LRX_STATUS_ACQ_STATE n) = 6 && (s.lane n).frames && pos % 4096 == (s.lane n).align then
    if crc.toNat ≠ crcOf c.toNat then (s.bump (F.LRX_TRN_CRC_ERR_COUNT n) 1).onLane n fun l => { l with okRun := 0 }
    else if s.frameForeign n c then s.frameDiscard n
    else s.frameAccept n c
  else s

/-- PEER_DATA_START (R172): COUNTDOWN × 4,096 symbols after an accepted countdown frame. -/
def State.peerStart (s : State) (n : Nat) : State :=
  if (s.lane n).peerData && !s.is (F.LRX_TRN_STAT_RX_DATA n) then
    (s.put (F.LRX_TRN_EVENT_PEER_HANDOVER n) true).rxData n
  else s

/-! ## The program's writes (R162, R167, R170, R176, R179) -/

/-- A STATE written by the program: ALIGN from TUNE and READY, TUNE from ALIGN with the lane LOCKED and a frame accepted, READY from TUNE. -/
def State.trnProgram (s : State) (n want : Nat) : State :=
  let st := s.fld (F.LRX_TRN_CTL_STATE n)
  if want = 1 ∧ (st = 2 ∨ st = 3) then s.trnSet n 1
  else if want = 2 ∧ st = 1 ∧ s.fld (F.LRX_STATUS_ACQ_STATE n) = 6 ∧ (s.lane n).heard = true then
    (s.setFld (F.LRX_TRN_TXREQ_REQ_SEQ n) 0).trnSet n 2
  else if want = 3 ∧ st = 2 then (s.put (F.LRX_TRN_CTL_RX_READY n) true).trnSet n 3
  else s

/-- HANDOVER written (R162, R170, R171). -/
def State.handover (s : State) (n : Nat) : State :=
  if !s.is (F.LRX_TRN_STAT_PEER_OK n) then s.put (F.LRX_TRN_EVENT_HANDOVER_REFUSED n) true
  else if s.fld (F.LRX_TRN_CTL_STATE n) = 3 then
    let c := (s.lane n).rxf
    let s := s.put (F.LTX_CTL_PRECODE (n + 8)) (ctrlBits c 103 1 == 1)
    let s := s.put (F.LRX_CTL_PRECODE n) (s.is (F.LRX_TRN_CFG_PRECODE_REQ n) && ctrlBits c 102 1 == 1)
    (s.onLane n fun l => { l with cdLeft := 16 }).trnSet n 4
  else s

/-- WAKE written (R176): training restarts from OFF with the wake pattern on a pair that has been started. -/
def State.trnWake (s : State) (n : Nat) : State := if s.canTrain n then (s.trnStop n).trainStart n true else s

/-- A write of TRN_CTL. -/
def State.trnCtl (s : State) (n : Nat) (v : Word) : State × Resp :=
  let s := s.put (F.LRX_TRN_CTL_RX_READY n) (bitAt v.toNat 4)
  let s := s.trnProgram n (bitsOf v.toNat 0 4)
  let s := if bitAt v.toNat 7 then s.put (F.LRX_TRN_EVENT_ACK_TIMEOUT n) true else s
  let s := if bitAt v.toNat 5 then s.handover n else s
  (if bitAt v.toNat 6 then s.trnWake n else s, .ok)

/-- A write of TRN_CTL that changes no field but sets the given action bits. -/
def State.trnAct (s : State) (n : Nat) (bits : Nat) : State × Resp :=
  s.trnCtl n (BitVec.ofNat 32 (s.fld (F.LRX_TRN_CTL_STATE n) + 16 * s.fld (F.LRX_TRN_CTL_RX_READY n) + bits))

/-- TRAINING_TIMEOUT (R162, R173). -/
def State.trnExpire (s : State) (n : Nat) : State :=
  if s.is (F.LRX_TRN_STAT_TIMER_RUN n) then ((s.timerStop n).put (F.LRX_TRN_EVENT_TIMEOUT n) true).timedOut n 6 else s

/-- TRN_RXF[w] as read (R179): word 0 latches the others. -/
def State.rxfRead (s : State) (n w : Nat) : State × Word :=
  if w = 0 then
    let s := s.onLane n fun l => { l with rxfLatch := l.rxf }
    (s, BitVec.ofNat 32 (s.lane n).rxf.toNat)
  else (s, BitVec.ofNat 32 ((s.lane n).rxfLatch.toNat / 2 ^ (32 * w)))

/-! ## Commands -/

/-- START_UP_TRIMS_DONE (R180). -/
def execStartUpTrimsDone (n : Fin 48) (t : Int) (s : State) : Host.Outcome State Fault Refusal := done (s.trimsDone n t)

/-- SYNTH_LOCK (R313). -/
def execSynthLock (t : Fin 24) (s : State) : Host.Outcome State Fault Refusal := done (s.synthLocked (laneOfOut t))

/-- WAKE_PATTERN_END (R162). -/
def execWakePatternEnd (n : Fin 8) (s : State) : Host.Outcome State Fault Refusal := done (s.wakeEnd n)

/-- TRAINING_FRAME_RECEIVED (R161). -/
def execTrainingFrameReceived (n : Fin 8) (ctrl : BitVec 128) (crc : BitVec 16) (pos : Nat) (s : State) : Host.Outcome State Fault Refusal :=
  done (s.frameIn n ctrl crc pos)

/-- TRAINING_FRAME_SEND (R160, R171). -/
def execTrainingFrameSend (n : Fin 8) (s : State) : Host.Outcome State Fault Refusal := done (s.frameSend n)

/-- TRN_STATE_WRITE (R162): a write of TRN_CTL. -/
def execTrnStateWrite (m : Master) (n : Fin 8) (v : Word) (s : State) : Host.Outcome State Fault Refusal :=
  done (s.via (R.LRX_TRN_CTL n) m fun s => s.trnCtl n v)

/-- HANDOVER (R162, R170). -/
def execHandover (m : Master) (n : Fin 8) (s : State) : Host.Outcome State Fault Refusal :=
  done (s.via (R.LRX_TRN_CTL n) m fun s => s.trnAct n 0x20)

/-- TRN_WAKE (R176). -/
def execTrnWake (m : Master) (n : Fin 8) (s : State) : Host.Outcome State Fault Refusal :=
  done (s.via (R.LRX_TRN_CTL n) m fun s => s.trnAct n 0x40)

/-- ACK_TO (R167). -/
def execAckTo (m : Master) (n : Fin 8) (s : State) : Host.Outcome State Fault Refusal :=
  done (s.via (R.LRX_TRN_CTL n) m fun s => s.trnAct n 0x80)

/-- PEER_DATA_START (R172). -/
def execPeerDataStart (n : Fin 8) (s : State) : Host.Outcome State Fault Refusal := done (s.peerStart n)

/-- TRAINING_TIMEOUT (R173). -/
def execTrainingTimeout (n : Fin 8) (s : State) : Host.Outcome State Fault Refusal := done (s.trnExpire n)

/-- TRN_RXF_READ (R179): a read of TRN_RXF[0]. -/
def execTrnRxfRead (m : Master) (n : Fin 8) (s : State) : Host.Outcome State Fault Refusal :=
  done (s.viaRead (R.LRX_TRN_RXF n 0) m fun s =>
    let x := s.rxfRead n 0
    (x.1, .ok, x.2))

end Sys2Proof.Machine
end

