-- ==== Sys2Proof/Machine/Calib.lean ====
section
/-! DEFINITION. Sys2Proof/Machine/Calib.lean: background calibration windows, recalibration attempts and host commands (chapter Calibration). -/

namespace Sys2Proof.Machine

/-- The lane's bit of UNFIT_LO or UNFIT_HI. -/
def unfitFld (n : Nat) : Fld := if n < 32 then F.CAL_UNFIT_LO_LANES else F.CAL_UNFIT_HI_LANES

/-- LANE_STAT as read: UNFIT mirrors the lane's bit (R191). -/
def State.calStat (s : State) (n : Nat) : Word :=
  setBits (s.rd (R.CAL_LANE_STAT n)) 7 1 (b2n (bitAt (s.fld (unfitFld n)) (n % 32)))

/-- The lane's recalibration state (R191). -/
def State.calState (s : State) (n : Nat) : Nat := s.fld (F.CAL_LANE_STAT_STATE n)

/-- The temperature test threshold in 0.5 °C. -/
def State.calDt (s : State) : Nat := max 4 (s.fld F.CAL_CTL_DT)

/-- The lane's source as the two's complement reading LANE_REF shows. -/
def State.tempNow (s : State) (n : Nat) : Nat := s.fld (F.CAL_LANE_REF_T_NOW n)

/-- An attempt begins (R184, R185, R87, R211): the pause holds the lane. -/
def State.attempt (s : State) (n : Nat) : State :=
  let t := s.tempNow n
  let s := s.onLane n fun l =>
    { l with pauseAt := s.clock, calT := t, lastT := t, fit := false, corrHurt := l.corrHurt || l.corrRun }
  ((s.setFld (F.CAL_LANE_STAT_STATE n) 2).line n 1).cmtCheck n

/-- A triggered recalibration: the retry count starts anew. -/
def State.trigger (s : State) (n : Nat) : State := (s.setFld (F.CAL_LANE_STAT_RETRIES n) 0).attempt n

/-- A trigger taken when the lane releases data, else held (R184). -/
def State.triggerOrDefer (s : State) (n : Nat) : State :=
  if s.releasing n then s.trigger n else s.setFld (F.CAL_LANE_STAT_STATE n) 1

/-- New trims in force (R184, R186): the calibration is complete. -/
def State.calCommit (s : State) (n : Nat) (step : Bool) : State :=
  let s := ((s.setFld (F.CAL_LANE_STAT_STATE n) 0).put (F.CAL_LANE_STAT_LAST_STEP n) step).setFld (F.CAL_LANE_STAT_RETRIES n) 0
  let s := ((s.put F.CAL_EVENT_DONE true).bump F.CAL_RECAL_COUNT_COUNT 1).onLane n fun l => { l with trim := l.trimNext }
  s.setFld (F.CAL_LANE_REF_T_REF n) (s.lane n).calT

/-- Pending trims stepped in at once (R187). -/
def State.stepIn (s : State) (n : Nat) : State :=
  ((s.calCommit n true).put F.CAL_EVENT_STEPPED true).bump F.CAL_STEP_COUNT_COUNT 1

/-- The statistics of R188 over 2^16 symbols: the count of each level, and the autocorrelation at lags 1 to 16 in units of 10^-6. -/
def fitInput (levels : List Nat) (acorr : List Int) : Bool :=
  levels.all (fun c => decide (65536 ≤ 5 * c) && decide (10 * c ≤ 3 * 65536)) && acorr.all fun a => decide (a.natAbs ≤ 100000)

/-- The operands that such a window gives. -/
def fitnessWindow (levels : List Nat) (acorr : List Int) : Bool :=
  levels.length == 4 && levels.sum == 65536 && acorr.length == 16

/-- An attempt on unfit input ends (R188). -/
def State.unfit (s : State) (n : Nat) : State :=
  let s := ((s.endPause n).setBit (unfitFld n) (n % 32)).put F.CAL_EVENT_UNFIT true
  if 8 ≤ s.fld (F.CAL_LANE_STAT_RETRIES n) then (s.setFld (F.CAL_LANE_STAT_STATE n) 5).put F.CAL_EVENT_GIVEUP true
  else s.setFld (F.CAL_LANE_STAT_STATE n) 4

/-- FITNESS_WINDOW_END (R188). -/
def State.fitness (s : State) (n : Nat) (levels : List Nat) (acorr : List Int) : State :=
  if s.calState n = 2 && !(s.lane n).fit then
    if fitInput levels acorr then s.onLane n fun l => { l with fit := true } else s.unfit n
  else s

/-- RECAL_MEASURE_END (R185 to R187): the pause ends, and the new trims wait for a group boundary where the mode has them. What they are is the measurement's: a free value. -/
def State.measureEnd (s : State) (n us : Nat) : State :=
  if s.calState n = 2 && (s.lane n).fit then
    let s := s.use.onLane n fun l => { l with trimNext := Config.freeWord s.free }
    let s := (s.setFld (F.CAL_LANE_STAT_LAST_PAUSE n) (min us 0xFFFF)).line n 2
    if s.coded then s.setFld (F.CAL_LANE_STAT_STATE n) 3 else s.stepIn n
  else s

/-- RECAL_RETRY (R188): the next of up to eight retries; deferred while the lane does not release data. -/
def State.retry (s : State) (n : Nat) : State :=
  if s.calState n = 4 then
    if s.releasing n then (s.incr (F.CAL_LANE_STAT_RETRIES n)).attempt n else s.setFld (F.CAL_LANE_STAT_STATE n) 1
  else s

/-- Why CAL.CMD is refused (R190). -/
def State.calRefusal (s : State) (n : Nat) : Option Nat :=
  if 48 ≤ n then some 4
  else if s.oos n || s.unusable n then some 3
  else if !s.releasing n then some 2
  else if s.calState n = 0 ∨ s.calState n = 4 ∨ s.calState n = 5 then none
  else some 1

/-- A write of CAL.CMD (R190). -/
def State.calCmd (s : State) (v : Word) : State × Resp :=
  let n := bitsOf v.toNat 0 6
  let s := s.setFld F.CAL_CMD_LANE n
  if !bitAt v.toNat 8 then (s, .ok)
  else
    match s.calRefusal n with
    | some c => ((s.setFld F.CAL_CMD_REASON c).put F.CAL_EVENT_CMD_REFUSED true, .err 1)
    | none => (s.trigger n, .ok)

/-- The branches of a lane's converter: 64 of LRX, 32 of HRX. -/
def branches (n : Nat) : Nat := if n < 8 then 64 else 32

/-- One trim LSB for each branch, towards agreement with the average of all. -/
def stepTo (vs : List Int) : List Int :=
  vs.map fun v => if vs.sum < (vs.length : Nat) * v then -1 else if (vs.length : Nat) * v < vs.sum then 1 else 0

/-- The steps that a window's statistics ask of the branches: of their means, mean absolute values and correlations with their neighbours. DEDUCED: a higher trim raises
the statistic it corrects (log entry 93). -/
def branchSteps (stats : List (Int × Int × Int)) : List (Int × Int × Int) :=
  (stepTo (stats.map (·.1))).zip ((stepTo (stats.map (·.2.1))).zip (stepTo (stats.map (·.2.2))))

/-- Trims with a step applied. -/
def stepBranches (n : Nat) (l d : List (Int × Int × Int)) : List (Int × Int × Int) :=
  (List.range n).map fun i =>
    let a := l.getD i (0, 0, 0)
    let b := d.getD i (0, 0, 0)
    (a.1 + b.1, a.2.1 + b.2.1, a.2.2 + b.2.2)

/-- A step that is due is applied at a barge boundary; one that falls into a recalibration is not (R181, R189). -/
def State.branchEdge (s : State) (n : Nat) : State :=
  if (s.lane n).branchStep.isEmpty then s
  else
    let held := s.calState n == 2 || s.calState n == 3
    s.onLane n fun l => { l with branchStep := [], branch := if held then l.branch else stepBranches (branches n) l.branch l.branchStep }

/-- BACKGROUND_CAL_WINDOW (R181, R185, R189): one window of the background engine of a receive lane; an unfit one is skipped, and throttle level 2 and above hold the trims
(R373). DESIGN CHOICE: LAP_US is the longest pass since reset (log entry 119). -/
def State.background (s : State) (n : Nat) (levels : List Nat) (acorr : List Int) (stats : List (Int × Int × Int)) (lapUs : Nat) : State :=
  if s.is F.CAL_CTL_BG_EN && decide (s.fld F.THERM_STAT_LEVEL < 2) && isData s.runMode && s.running n && !s.nearEnd && s.calState n != 2 && s.calState n != 3 then
    if fitInput levels acorr then
      (s.onLane n fun l => { l with branchStep := branchSteps stats }).setFld F.CAL_BG_STAT_LAP_US (max (s.fld F.CAL_BG_STAT_LAP_US) (min lapUs 0xFFFF))
    else s.bump F.CAL_BG_STAT_SKIP 1
  else s

/-! ## Commands -/

/-- BACKGROUND_CAL_WINDOW (R181). -/
def execBackgroundCalWindow (r : Fin 24) (levels : List Nat) (sums : List Int × List (Int × Int × Int)) (lapUs : Nat) (s : State) :
    Host.Outcome State Fault Refusal :=
  doneIf (fitnessWindow levels sums.1 && sums.2.length == branches (rxLane r)) (s.background (rxLane r) levels sums.1 sums.2 lapUs)

/-- DEFERRED_RECAL_START (R184): data resumes on a lane whose trigger was held. -/
def execDeferredRecalStart (n : Fin 48) (s : State) : Host.Outcome State Fault Refusal :=
  done (if s.calState n = 1 && s.releasing n then s.trigger n else s)

/-- FITNESS_WINDOW_END (R188). -/
def execFitnessWindowEnd (n : Fin 48) (levels : List Nat) (acorr : List Int) (s : State) : Host.Outcome State Fault Refusal :=
  doneIf (fitnessWindow levels acorr) (s.fitness n levels acorr)

/-- RECAL_MEASURE_END (R186). -/
def execRecalMeasureEnd (n : Fin 48) (us : Nat) (s : State) : Host.Outcome State Fault Refusal := done (s.measureEnd n us)

/-- RECAL_STEP_TIMEOUT (R187): no boundary within 1 ms. -/
def execRecalStepTimeout (n : Fin 48) (s : State) : Host.Outcome State Fault Refusal :=
  done (if s.calState n = 3 then s.stepIn n else s)

/-- RECAL_RETRY (R188). -/
def execRecalRetry (n : Fin 48) (s : State) : Host.Outcome State Fault Refusal := done (s.retry n)

/-- CAL_CMD (R190). -/
def execCalCmd (m : Master) (v : Word) (s : State) : Host.Outcome State Fault Refusal :=
  done (s.via R.CAL_CMD m fun s => s.calCmd (v ||| 0x100#32))

end Sys2Proof.Machine
end

