-- ==== Sys2Proof/Machine/FaultCommands.lean ====
section
/-! DEFINITION. Sys2Proof/Machine/FaultCommands.lean: the accesses and events of chapter Faults and recovery. -/

namespace Sys2Proof.Machine

/-- A refused write of the FAULT block (R403, R408). -/
def State.faultRefuse (s : State) (code : Nat) : State × Resp := (s.setBit F.FAULT_EVENT_BITS 8, .err code)

/-- A write of FAULT.REPORT (R403). -/
def State.faultReport (s : State) (m : Master) (v : Word) : State × Resp :=
  let lane := bitsOf v.toNat 0 6
  let cause := bitsOf v.toNat 8 7
  let lvl := bitsOf v.toNat 16 3
  let may := m.code == 1 || m.code == 3 && cause == 15
  if !may then s.faultRefuse 2
  else if decide (47 < lane) || decide (cause < 1) || decide (15 < cause) || cause == 15 && (decide (lvl < 1) || decide (4 < lvl)) then s.faultRefuse 1
  else (s.fault (ladderOf lane) cause (if cause = 15 then lvl else entryLevel cause), .ok)

/-- A running step's completion condition holds now (R400). -/
def State.stepReady (s : State) (i : Nat) : Bool :=
  let lvl := s.fld (F.FAULT_LADDER_LEVEL i)
  if lvl = 1 then (s.ladder i).done && s.releasing i
  else if lvl = 2 then s.releasing i
  else if i < 8 then s.fld (F.LRX_TRN_CTL_STATE i) == 5 && s.is (F.LRX_TRN_STAT_RX_DATA i) && s.releasing i
  else if i < 32 then s.fld (F.HRX_STATUS_STATE i) == 2
  else s.is (F.HTX_STATUS_CDR_LOCK i) && s.fld (F.LRX_SEQ_STAT_STATE i) == 1

/-- LADDER_STEP_COMPLETE: the condition has held for 100 µs. -/
def State.stepFinish (s : State) (i : Nat) : State :=
  if s.is (F.FAULT_LADDER_ACTIVE i) && s.stepReady i then s.stepComplete i else s

/-- LADDER_STEP_TIMEOUT (R401). -/
def State.stepExpire (s : State) (i : Nat) : State := if s.is (F.FAULT_LADDER_ACTIVE i) then s.stepFail i else s

/-- A write of FAULT.STEP (R400), from 0x1 only. -/
def State.stepWrite (s : State) (m : Master) (v : Word) : State × Resp :=
  let i := ladderOf (bitsOf v.toNat 0 6)
  if m.code ≠ 1 then (s, .err 2)
  else if bitAt v.toNat 8 && decide (i < 48) && s.is (F.FAULT_LADDER_ACTIVE i) && s.fld (F.FAULT_LADDER_LEVEL i) == 1 then
    (s.setLadder i { s.ladder i with done := true }, .ok)
  else (s, .ok)

/-- A write of FAULT.DECLARE (R408). -/
def State.declare (s : State) (m : Master) (v : Word) : State × Resp :=
  let cls := bitsOf v.toNat 0 3
  if cls = 4 ∧ m.code = 1 ∨ cls = 5 ∧ (m.code = 3 ∨ m.code = 5) then
    (s.devRaise cls (bitAt v.toNat 3) 0 (bitsOf v.toNat 16 16), .ok)
  else s.faultRefuse (if cls = 4 ∨ cls = 5 then 2 else 1)

/-- A class that DEV_CLR may clear now, for this master (R408). -/
def State.mayDevClear (s : State) (m : Master) (cls : Nat) : Bool :=
  if cls = 2 then !s.is F.FAB_STATUS_MARGIN_CRIT
  else if cls = 4 then m.code == 1
  else if cls = 5 then m.code == 1 || m.code == 3 || m.code == 5
  else false

/-- A write of FAULT.DEV_CLR (R408): what may not be cleared is ignored. -/
def State.devClrWrite (s : State) (m : Master) (v : Word) : State × Resp :=
  (each ((List.range 5).map (· + 1)) (fun c s => if bitAt v.toNat c && s.mayDevClear m c then s.devClear c else s) s, .ok)

/-- A write of LOG_CTL.POP (R412): the table names no writer for it, so every master's is taken (R413). -/
def State.faultPop (s : State) (v : Word) : State × Resp := (if bitAt v.toNat 0 then { s with faultLog := s.faultLog.drop 1 } else s, .ok)

/-! ## Commands -/

/-- FAULT_REPORT (R403). -/
def execFaultReport (m : Master) (v : Word) (s : State) : Host.Outcome State Fault Refusal := done (s.via R.FAULT_REPORT m fun s => s.faultReport m v)

/-- LADDER_STEP_TIMEOUT (R401). -/
def execLadderStepTimeout (n : Fin 48) (s : State) : Host.Outcome State Fault Refusal := done (s.stepExpire (ladderOf n))

/-- LADDER_STEP_COMPLETE (R400). -/
def execLadderStepComplete (n : Fin 48) (s : State) : Host.Outcome State Fault Refusal := done (s.stepFinish (ladderOf n))

/-- STEP_DONE (R400). -/
def execStepDone (m : Master) (n : Fin 64) (s : State) : Host.Outcome State Fault Refusal :=
  done (s.via R.FAULT_STEP m fun s => s.stepWrite m (BitVec.ofNat 32 (n + 256)))

/-- DECLARE (R408). -/
def execDeclare (m : Master) (v : Word) (s : State) : Host.Outcome State Fault Refusal := done (s.via R.FAULT_DECLARE m fun s => s.declare m v)

/-- DEV_CLR (R408). -/
def execDevClr (m : Master) (v : Word) (s : State) : Host.Outcome State Fault Refusal := done (s.via R.FAULT_DEV_CLR m fun s => s.devClrWrite m v)

/-- FAULT_LOG_POP (R412). -/
def execFaultLogPop (m : Master) (s : State) : Host.Outcome State Fault Refusal := done (s.via R.FAULT_LOG_CTL m fun s => s.faultPop 1#32)

end Sys2Proof.Machine
end

