-- ==== Sys2Proof/Machine/Clocks.lean ====
section
/-! DEFINITION. Sys2Proof/Machine/Clocks.lean: clocks, clock gates, the timebase and the general timers (chapter Clocks, power domains and time). -/

namespace Sys2Proof.Machine

/-! ## Clock windows (R309 to R311) -/

/-- Expected count and tolerance of a window: REFCLK, root PLL, slow oscillator in ns. -/
def windowOf (clk : Nat) : Nat × Nat := [(2560, 51), (40960, 2), (31250000, 1562500)].getD clk (1, 0)

/-- Distance of a count from its expected value. -/
def windowOff (clk count : Nat) : Nat := (count - (windowOf clk).1) + ((windowOf clk).1 - count)

/-- The run of windows after one more. -/
def Judge.next (j : Judge) (inside : Bool) : Judge := if inside then ⟨min (j.good + 1) 8, 0⟩ else ⟨0, min (j.bad + 1) 2⟩

/-- A stable clock is lost at a window outside twice the tolerance or at the second in a row outside it; one that is not stable becomes so at the eighth
inside. -/
def judged (stable : Bool) (j : Judge) (far : Bool) : Bool := if stable then !far && decide (j.bad < 2) else decide (8 ≤ j.good)

/-- Towpath port p is up (R285). -/
def State.portUp (s : State) (p : Nat) : Bool := s.domOn 15 && s.is (F.TOW_PORT_STAT_UP p)

/-- The reference in use for the FRO trim (R310). -/
def State.trimRef (s : State) : Nat :=
  if s.is F.CLK_STAT_REF_OK then 1 else if s.portUp 0 then 2 else if s.portUp 1 then 3 else 0

/-- The root is lost (R311, R313): the clocked domains go to the FRO, and every LTX synthesiser that runs from the root loses lock. -/
def State.rootLost (s : State) : State :=
  let s := (s.put F.CLK_SRC_SEL false).put F.CLK_EVENT_ROOT_LOST true
  each ((List.range 8).filter fun n => s.laneOn (n + 8) && s.fld (F.LTX_STATUS_FREQ_SRC (n + 8)) == 0) (fun n s => s.synthLost (n + 8)) s

/-- CLOCK_CHECK_WINDOW. -/
def State.clockWindow (s : State) (clk count : Nat) : State :=
  let off := windowOff clk count
  let tol := (windowOf clk).2
  let inside := decide (off ≤ tol)
  let far := decide (2 * tol < off)
  if clk = 0 then
    let j := s.clk.ref.next inside
    let was := s.is F.CLK_STAT_REF_OK
    let ok := judged was j far
    let s := { s with clk := { s.clk with ref := j } }.put F.CLK_STAT_REF_OK ok
    if was && !ok then s.put F.CLK_EVENT_REF_LOST true else s
  else if clk = 1 then
    let j := s.clk.root.next inside
    let was := s.is F.CLK_STAT_ROOT_OK
    let ok := judged was j far && (was || s.is F.CLK_STAT_REF_OK)
    let s := { s with clk := { s.clk with root := j } }.put F.CLK_STAT_ROOT_OK ok
    if was && !ok then s.rootLost
    else if !was && ok then s.put F.CLK_EVENT_ROOT_STABLE true else s
  else
    let j := s.clk.slow.next inside
    let ok := judged (s.is F.CLK_STAT_SLOW_OK) j far
    ({ s with clk := { s.clk with slow := j } }.put F.CLK_STAT_SLOW_OK ok).setFld F.TIME_SLOW_CAL_PERIOD (min (count / 64) 0xFFFFFF)

/-- The trim code in use (R310). -/
def State.froCode (s : State) : BitVec 10 := s.clk.trim.getD Config.froCode

/-- FRO_TRIM_MEASURE (R310): a measurement against the reference in use corrects the code. -/
def State.froMeasure (s : State) (ref : Nat) (err : BitVec 16) : State :=
  if ref ≠ 0 ∧ ref = s.trimRef then
    let c := Config.froStep s.free (s.froCode.setWidth 32 ||| (err.setWidth 32 <<< 16))
    let ok := decide ((signedOf 16 err.toNat).natAbs ≤ 50)
    let was := s.is F.CLK_STAT_TRIMMED
    let s := ({ s.use with clk := { s.clk with trim := some c } }.setFld F.CLK_FRO_TRIM_ERR err.toNat).put F.CLK_STAT_TRIMMED ok
    if was && !ok then s.put F.CLK_EVENT_UNTRIMMED true else s
  else s

/-- A write of CLK.SRC (R311). -/
def State.sourceSelect (s : State) (m : Master) (root : Bool) : State × Resp :=
  if m.code ≠ 1 then (s, .err 2)
  else if root && !s.is F.CLK_STAT_ROOT_OK then (s.put F.CLK_EVENT_SRC_REFUSED true, .err 1)
  else (s.put F.CLK_SRC_SEL root, .ok)

/-- ROOT_WAIT_EXPIRY (R313): a transition at its lane power-up with the clocked domains on the FRO hands every in-service lane to its ladder. -/
def State.rootExpiry (s : State) : State :=
  if s.is F.MODE_STATUS_BUSY && isData (s.fld F.MODE_STATUS_IN_TARGET) && !s.trans.ramping && !s.is F.CLK_SRC_SEL then
    let ls := allLadders.filter fun i => (ladderLanes i).any fun n => !s.oos n
    each ls (fun i s => s.report i 14) (s.handed (allLanes.filter fun n => !s.oos n))
  else s

/-! ## Clock gates (R314 to R316) -/

/-- A remote read outstanding or waiting at a window has an asker of a kind (R295). -/
def State.winAsks (s : State) (f : Asker → Bool) : Bool :=
  s.tow.wins.any fun e => (e.2.sent.map Prod.snd ++ e.2.waiting).any fun o => o.ask.any f

/-- The asker is the serial management port, or the PCIe endpoint. -/
def Asker.viaSmp : Asker → Bool
  | .indirect | .ahead => true
  | .port m => m == .smp
  | .bar _ _ | .load _ _ => false
def Asker.viaPcie : Asker → Bool
  | .bar _ _ => true
  | .port _ | .indirect | .ahead | .load _ _ => false

/-- The port of requests to a device (R292). -/
def State.routePort (s : State) (dev : Nat) : Nat := b2n (s.pairBit R.TOW_ROUTE_LO dev)

/-- A window has an access sent or waiting that goes out of port p (R295). -/
def State.winVia (s : State) (p w : Nat) : Bool :=
  let x := tabGet (fun _ => Win.init) s.tow.wins w
  !(x.sent.isEmpty && x.waiting.isEmpty) && s.routePort (s.fld (F.TOW_RWIN_DEV_DEV w)) == p

/-- The function of gate b has an operation running: a remote access through the port, a flash command, a remote read or a DMA read that the host owes, a DMA channel, an armed
timer. -/
def State.midAccess (s : State) (b : Nat) : Bool :=
  if b = 1 ∨ b = 2 then s.portUp (b - 1) && (List.range 4).any fun w => s.winVia (b - 1) w
  else if b = 5 then s.is F.FLASH_STAT_BUSY
  else if b = 6 then s.winAsks Asker.viaSmp
  else if b = 7 then s.winAsks Asker.viaPcie || s.dma.any fun e => !e.2.reqs.isEmpty
  else if b = 8 then (List.range 8).any fun c => s.fld (F.DMA_CH_STAT_STATE c) == 1
  else if b = 9 then (List.range 4).any fun t => s.is (F.TIME_GT_CTL_ARMED t)
  else false

/-- Functions with periodic work, which are never idle: the timebase, the modulators, the sensors, and a towpath port that is switched on and up or under test. -/
def State.periodic (s : State) (b : Nat) : Bool :=
  if b = 1 ∨ b = 2 then s.is (F.CLK_GATE_RUN b) && (s.portUp (b - 1) || s.domOn 15 && s.is (F.TOW_PORT_CTL_TEST (b - 1)))
  else b == 0 || b == 3 || b == 4

/-- The function is not idle (R314). -/
def State.gateBusy (s : State) (b : Nat) : Bool := s.periodic b || s.midAccess b

/-- GATE_SLEEP: 64 idle cycles have passed. -/
def State.gateSleep (s : State) (b : Nat) : State :=
  if s.is (F.CLK_GATE_RUN b) && s.is (F.CLK_GATE_SLEEP b) && !s.gateBusy b then s.put (F.CLK_GATE_OPEN b) false else s

/-- GATE_DEEP_SLEEP: DEEP_IDLE µs of idle have passed, so that the dividers stop, whatever SLEEP is. Throttle level 2 and above use DEEP as if set (R373). -/
def State.gateDeep (s : State) (b : Nat) : State :=
  if s.is (F.CLK_GATE_RUN b) && (s.is (F.CLK_GATE_DEEP b) || decide (2 ≤ s.fld F.THERM_STAT_LEVEL)) && !s.gateBusy b then
    let s := s.gateSleep b
    { s with clk := { s.clk with deep := s.clk.deep ||| BitVec.ofNat 10 (2 ^ b) } }
  else s

/-- A gate opened: its dividers run. -/
def State.gateOpen (s : State) (b : Nat) : State :=
  { s.put (F.CLK_GATE_OPEN b) true with clk := { s.clk with deep := s.clk.deep &&& ~~~(BitVec.ofNat 10 (2 ^ b)) } }

/-- A request to a function: refused while its RUN is 0 (R315), else its gate is open for it (R314). -/
def State.gateRequest (s : State) (b : Nat) : State × Bool := if s.is (F.CLK_GATE_RUN b) then (s.gateOpen b, true) else (s, false)

/-- A function that is switched off closes its gate when its last operation has ended (R316). -/
def State.gateRest (s : State) (b : Nat) : State :=
  if s.is (F.CLK_GATE_OPEN b) && !s.is (F.CLK_GATE_RUN b) && !s.gateBusy b then s.put (F.CLK_GATE_OPEN b) false else s

/-- A write of GATE[b] (R315): only from 0x1; gates 0, 3 and 4 are fixed. A function in mid-access keeps its gate until it quiesces. -/
def State.gateWrite (s : State) (m : Master) (b : Nat) (v : Word) : State × Resp :=
  if m.code ≠ 1 then (s, .err 2)
  else if b = 0 ∨ b = 3 ∨ b = 4 then (s, .ok)
  else
    let s := ((s.put (F.CLK_GATE_RUN b) (bitAt v.toNat 0)).put (F.CLK_GATE_SLEEP b) (bitAt v.toNat 1)).put (F.CLK_GATE_DEEP b) (bitAt v.toNat 2)
    (if bitAt v.toNat 0 then (if s.gateBusy b || !bitAt v.toNat 1 then s.gateOpen b else s)
     else if s.gateBusy b then s else s.put (F.CLK_GATE_OPEN b) false, .ok)

/-! ## The timebase (R327 to R332) -/

/-- General timer t fires (R333). -/
def State.gtShot (s : State) (t : Nat) : State :=
  (((s.put (F.TIME_GT_CTL_ARMED t) false).put (F.TIME_GT_CTL_FIRED t) true).setBit F.TIME_EVENT_GT t).gateRest 9

/-- The compare value of timer t. -/
def State.gtCmp (s : State) (t : Nat) : Nat := s.pair (R.TIME_GT_CMP_LO t)

/-- The timebase moved to a new value: forwards, it fires every armed timer whose value it reaches or passes (R333). -/
def State.setTb (s : State) (v : BitVec 64) : State :=
  let old := s.tb
  let s := { s with tb := v }
  if v.toNat < old.toNat then s
  else each (List.range 4) (fun t s => if s.is (F.TIME_GT_CTL_ARMED t) && decide (s.gtCmp t ≤ v.toNat) then s.gtShot t else s) s

/-- SYNC_LOAD loaded into the timebase (R330, R336). -/
def State.loadTb (s : State) : State :=
  let s := s.setTb (BitVec.ofNat 64 (s.pair R.TIME_SYNC_LOAD_LO))
  ((s.setFld F.TIME_UNCERT_US 0).put F.TIME_STAT_SLEEP_OVF false).put F.TIME_STAT_SLEPT false

/-- A write of TIME.CTL (R330, R336). LOAD_NOW and UNCERT_CLR are taken from 0x1 and 0x3 only. -/
def State.timeCtl (s : State) (m : Master) (v : Word) : State × Resp :=
  let acts := bitAt v.toNat 1 || bitAt v.toNat 2
  if acts && m.code != 1 && m.code != 3 then (s, .err 2)
  else
    let s := (s.put F.TIME_CTL_SYNC_LOAD (bitAt v.toNat 0)).put F.TIME_CTL_PPS_EDGE (bitAt v.toNat 3)
    let s := if bitAt v.toNat 2 then (s.setFld F.TIME_UNCERT_US 0).put F.TIME_STAT_SLEEP_OVF false else s
    (if bitAt v.toNat 1 then s.loadTb else s, .ok)

/-- A write of TIME.CTL that sets the given action bits and leaves the others as they stand. -/
def State.timeAct (s : State) (m : Master) (bits : Nat) : State × Resp :=
  s.timeCtl m (BitVec.ofNat 32 (s.fld F.TIME_CTL_SYNC_LOAD + 8 * s.fld F.TIME_CTL_PPS_EDGE + bits))

/-- The key under which a reader's high word is latched: its master code, which all lane sequencers share (R328, R435, R438). -/
def latchKey (m : Master) : Nat := m.code

/-- A low-word read of a view of the timebase (R328). -/
def State.tbLow (s : State) (k : Nat) : State × Word :=
  ({ s with latch := tabPut (fun _ => 0#32) s.latch k (BitVec.ofNat 32 (s.tb.toNat / 2 ^ 32)) }, BitVec.ofNat 32 s.tb.toNat)

/-- The high word latched for a reader. -/
def State.tbHigh (s : State) (k : Nat) : Word := tabGet (fun _ => 0#32) s.latch k

/-- The advance over a sleep of S slow periods (R329). -/
def sleepTicks (n p : Nat) : Nat := (2 * n * p * 25 + 512) / 1024

/-- TIMEBASE_RESTART (R329): the restart after Dormant, with S the sleep count. -/
def State.tbRestart (s : State) (n : Nat) : State :=
  if s.dorm.phase = .waking && s.dorm.stopped then
    let p := s.dorm.period
    let s := { s with dorm := { s.dorm with stopped := false } }.setTb (BitVec.ofNat 64 (s.dorm.t0 + sleepTicks n p))
    let s := ((s.setFld F.TIME_SLEEP_LAST_COUNT n).put F.TIME_STAT_SLEPT true).put F.TIME_EVENT_WOKE true
    if n = 0xFFFFFFFF then (s.setFld F.TIME_UNCERT_US 0xFFFFFFFF).put F.TIME_STAT_SLEEP_OVF true
    else s.bump F.TIME_UNCERT_US (ceilDiv (2 * n * p + 100 * p) 1600000)
  else s

/-- PPS_EDGE (R331): an edge at the MON_SYNC ball claimed as 1PPS input. -/
def State.ppsEdge (s : State) (rising : Bool) : State :=
  if s.claimUse 0 = 2 && s.domOn 1 && rising != s.is F.TIME_CTL_PPS_EDGE then
    let soon := match s.clk.ppsAt with
      | some t => decide (s.clock - t < 390625000)
      | none => false
    if soon then s.put F.TIME_EVENT_PPS_EXTRA true
    else
      let s := { s with clk := { s.clk with ppsAt := some s.clock } }
      let s := (s.setFld F.TIME_PPS_CAP_LO_VALUE s.tb.toNat).setFld F.TIME_PPS_CAP_HI_VALUE (s.tb.toNat / 2 ^ 32)
      s.put F.TIME_EVENT_PPS true
  else s

/-- The master holds the claim of a resource for a use (R33, R34). -/
def State.holds (s : State) (m : Master) (res use : Nat) : Bool :=
  s.claimUse res == use && m.holder == s.fld ⟨claimReg res, 4, 4⟩ && m.secBit == s.is ⟨claimReg res, 9, 1⟩

/-- A write of GT_CTL[t] (R333). -/
def State.gtCtl (s : State) (m : Master) (t : Nat) (v : Word) : State × Resp :=
  let s := if bitAt v.toNat 2 then s.put (F.TIME_GT_CTL_FIRED t) false else s
  if !bitAt v.toNat 0 then (s, .ok)
  else if !s.holds m (2 + t) 1 then (s.configError (claimCode (2 + t)) m.holder, .err 1)
  else
    let x := s.gateRequest 9
    if x.2 then (if s.gtCmp t ≤ s.tb.toNat then x.1.gtShot t else x.1.put (F.TIME_GT_CTL_ARMED t) true, .ok)
    else (s, .err 1)

/-- A write of GT_CMP_LO or GT_CMP_HI: by the claim's holder only (R336). -/
def State.gtCmpWrite (s : State) (m : Master) (t a : Nat) (v : Word) : State × Resp :=
  if s.holds m (2 + t) 1 then (s.wr a v, .ok) else (s, .err 2)

/-! ## Commands -/

/-- CLOCK_CHECK_WINDOW (R309, R311). -/
def execClockCheckWindow (clk : Fin 3) (count : Nat) (s : State) : Host.Outcome State Fault Refusal :=
  done (if s.domOn 1 then s.clockWindow clk count else s)

/-- FRO_TRIM_MEASURE (R310). -/
def execFroTrimMeasure (ref : Fin 4) (err : BitVec 16) (s : State) : Host.Outcome State Fault Refusal :=
  done (if s.domOn 1 then s.froMeasure ref err else s)

/-- CLOCK_SOURCE_SELECT (R311). -/
def execClockSourceSelect (m : Master) (root : Bool) (s : State) : Host.Outcome State Fault Refusal :=
  done (s.via R.CLK_SRC m fun s => s.sourceSelect m root)

/-- ROOT_WAIT_EXPIRY (R313). -/
def execRootWaitExpiry (s : State) : Host.Outcome State Fault Refusal := done s.rootExpiry

/-- GATE_SLEEP (R314). -/
def execGateSleep (b : Fin 10) (s : State) : Host.Outcome State Fault Refusal := done (if s.domOn 1 then s.gateSleep b else s)

/-- GATE_DEEP_SLEEP (R314). -/
def execGateDeepSleep (b : Fin 10) (s : State) : Host.Outcome State Fault Refusal := done (if s.domOn 1 then s.gateDeep b else s)

/-- TIMEBASE_RESTART (R329). -/
def execTimebaseRestart (n : BitVec 32) (s : State) : Host.Outcome State Fault Refusal := done (s.tbRestart n.toNat)

/-- UNCERT_STEP (R328): 2 ms or 66 µs on the FRO have ended. -/
def execUncertStep (s : State) : Host.Outcome State Fault Refusal :=
  done (if s.domOn 1 && !s.is F.CLK_SRC_SEL then s.bump F.TIME_UNCERT_US 1 else s)

/-- TIMEBASE_READ (R328): a read of TIME.TB_LO. -/
def execTimebaseRead (m : Master) (s : State) : Host.Outcome State Fault Refusal :=
  done (s.viaRead R.TIME_TB_LO m fun s =>
    let x := s.tbLow (latchKey m)
    (x.1, .ok, x.2))

/-- TIMEBASE_LOAD (R330). -/
def execTimebaseLoad (m : Master) (s : State) : Host.Outcome State Fault Refusal := done (s.via R.TIME_CTL m fun s => s.timeAct m 2)

/-- UNCERT_CLR (R336). -/
def execUncertClr (m : Master) (s : State) : Host.Outcome State Fault Refusal := done (s.via R.TIME_CTL m fun s => s.timeAct m 4)

/-- PPS_EDGE (R331). -/
def execPpsEdge (rising : Bool) (s : State) : Host.Outcome State Fault Refusal := done (s.ppsEdge rising)

/-- GT_ARM (R333). -/
def execGtArm (m : Master) (t : Fin 4) (s : State) : Host.Outcome State Fault Refusal := done (s.via (R.TIME_GT_CTL t) m fun s => s.gtCtl m t 1#32)

/-- GT_FIRE (R333): the timebase has reached or passed the compare value of an armed timer. -/
def execGtFire (t : Fin 4) (s : State) : Host.Outcome State Fault Refusal :=
  done (if s.is (F.TIME_GT_CTL_ARMED t) && decide (s.gtCmp t ≤ s.tb.toNat) then s.gtShot t else s)

end Sys2Proof.Machine
end

