-- ==== Sys2Proof/Machine/Integrity.lean ====
section
/-! DEFINITION. Sys2Proof/Machine/Integrity.lean: the scrubbers, retirement of banks and row blocks, and the run-time test engine (chapter Memory integrity
and self-test). -/

namespace Sys2Proof.Machine

/-! ## MEMX log and MEMX.CLR (R344, R347) -/

/-- A write of MEMX.LOG_CTL. -/
def State.memxPop (s : State) (m : Master) (v : Word) : State × Resp :=
  if m.code ≠ 1 then (s, .err 2)
  else (if bitAt v.toNat 0 then s.setMemLog (s.integ.log.drop 1) else s, .ok)

/-- A write of MEMX.CLR: the whole ECC word becomes zero and clean. Boot ROM and the OTP shadow do not change by a write (R431). -/
def State.memxClr (s : State) (m : Master) (v : Word) : State × Resp :=
  if m.code ≠ 1 then (s, .err 2)
  else
    let a := v.toNat - v.toNat % 4
    match areaOf a with
    | none => (s, .err 1)
    | some k =>
      let x := s.memWrite ⟨2, 1⟩ (eccBase a) (List.replicate k.width (some 0#8))
      (x.1, match x.2 with
        | .denied _ => .err 1
        | _ => .ok)

/-! ## Retirement (R348 to R350) -/

/-- The range a retirement moves: a bank, or a row block of a lane memory. -/
def retireRange (t row : Nat) : Nat × Nat := if t < 64 then (bankBase t, 0x40000) else (0x03000000 + (t - 64) * 0x8000 + row * 0x400, 0x400)

/-- Spares left in the group of a bank. -/
def spareFld (t : Nat) : Fld := if t < 32 then F.MEMX_STAT_SPARES0 else F.MEMX_STAT_SPARES1

/-- A spare is left for a target. -/
def State.hasSpare (s : State) (t : Nat) : Bool :=
  if t < 64 then s.fld (spareFld t) != 0 else !s.is (F.MEMX_LANE_LOSS_SPARE_USED (t - 64)) && !s.integ.noSpare.getLsbD (t - 64)

/-- The target is retired or removed already. -/
def State.isRetired (s : State) (t row : Nat) : Bool :=
  if t < 64 then s.pairBit R.MEMX_RETIRED_LO t || s.pairBit R.MEMX_REMOVED_LO t
  else bitAt (s.fld (F.MEMX_LANE_LOSS_REMOVED (t - 64))) row ||
    s.is (F.MEMX_LANE_LOSS_SPARE_USED (t - 64)) && s.fld (F.MEMX_LANE_LOSS_SPARE_ROW (t - 64)) == row

/-- Why a retirement is refused, the first reason of R348 that applies: the RESULT of RETIRE_STAT. -/
def State.retireRefusal (s : State) (m : Master) (t row : Nat) : Option Nat :=
  if s.integ.copy.isSome then some 3
  else if decide (111 < t) || decide (64 ≤ t) && decide (23 < row) then some 4
  else if s.isRetired t row then some 5
  else if m.code ≠ 1 then some 6
  else if decide (64 ≤ t) && !s.seqStopped (t - 64) then some 7
  else if t = 0 ∧ !s.hasSpare 0 then some 8
  else none

/-- The samples available from the base of capture SRAM (R350). -/
def State.capLimit (s : State) : Nat :=
  match (List.range 16).find? fun b => s.pairBit R.MEMX_REMOVED_LO (48 + b) with
  | some b => b * 262144
  | none => 4194304

/-- A target removed, its contents lost (R350). -/
def State.remove (s : State) (t row : Nat) : State :=
  let s := s.fill (inRange (retireRange t row))
  let s := if t < 64 then s.putPairBit R.MEMX_REMOVED_LO t true else s.setBit (F.MEMX_LANE_LOSS_REMOVED (t - 64)) row
  s.setFld F.MEMX_CAP_LIMIT_SAMPLES s.capLimit

/-- A target served by a spare of its group or lane (R349). -/
def State.useSpare (s : State) (t row : Nat) : State :=
  if t < 64 then (s.putPairBit R.MEMX_RETIRED_LO t true).setFld (spareFld t) (s.fld (spareFld t) - 1)
  else (s.put (F.MEMX_LANE_LOSS_SPARE_USED (t - 64)) true).setFld (F.MEMX_LANE_LOSS_SPARE_ROW (t - 64)) row

def State.setCopy (s : State) (c : Option (Nat × Nat)) : State :=
  { s with integ := { s.integ with copy := c } }.put F.MEMX_STAT_RETIRE_BUSY c.isSome

/-- A write of MEMX.RETIRE (R348). -/
def State.memxRetire (s : State) (m : Master) (v : Word) : State × Resp :=
  let t := bitsOf v.toNat 0 7
  let row := bitsOf v.toNat 8 5
  let go := bitAt v.toNat 31
  if m.code ≠ 1 ∧ !go then (s, .err 2)
  else
    let s := if m.code = 1 then (s.setFld F.MEMX_RETIRE_TARGET t).setFld F.MEMX_RETIRE_ROW row else s
    if !go then (s, .ok)
    else
      match s.retireRefusal m t row with
      | some c => ((s.setFld F.MEMX_RETIRE_STAT_RESULT c).put F.MEMX_EVENT_RETIRE_REFUSED true, .err (if c = 6 then 2 else 1))
      | none =>
        if s.hasSpare t then (s.setCopy (some (t, row)), .ok)
        else (((s.remove t row).setFld F.MEMX_RETIRE_STAT_RESULT 2).put F.MEMX_EVENT_CAP_LOSS true, .ok)

/-- RETIRE_COPY_DONE (R349): the copy has corrected CEs and carried poison, and the spare serves the target. -/
def State.copyDone (s : State) : State :=
  match s.integ.copy with
  | none => s
  | some (t, row) =>
    let s := ((s.setCopy none).copyRead ⟨9, 0⟩ (retireRange t row)).useSpare t row
    let s := (s.setFld F.MEMX_RETIRE_STAT_RESULT 1).put F.MEMX_EVENT_RETIRE_DONE true
    if s.hasSpare t then s else s.put F.MEMX_EVENT_SPARE_OUT true

/-! ## Scrubbers (R345, R346) -/

/-- A scrubber's region: first address, words, bytes of a word, words of a block that is skipped whole. -/
def scrubRegion (r lane : Nat) : Nat × Nat × Nat × Nat :=
  if r = 0 then (0x01000000, 1048576, 8, 32768)
  else if r = 1 then (0x02000000, 524288, 8, 32768)
  else if r = 2 then (0x02400000, 524288, 8, 32768)
  else if r = 3 then (0x05000000, 512, 8, 512)
  else (0x03000000 + lane * 0x8000, 6144, 4, 256)

/-- The key of a scrubber. -/
def scrubKey (r lane : Nat) : Nat := if r < 4 then r else 4 + lane

/-- A word that the scrubber skips: removed, under copy or under test. -/
def State.scrubSkips (s : State) (a : Nat) : Bool :=
  s.removed a || s.underTest a ||
    (match s.integ.copy with
     | some (t, row) => inRange (retireRange t row) a
     | none => false)

/-- The next word of a region that is not skipped, as a word index, none when all are. -/
def State.scrubWord (s : State) (r lane : Nat) : Option Nat :=
  let g := scrubRegion r lane
  let p := tabGet (fun _ => 0) s.integ.scrubAt (scrubKey r lane)
  let blocks := g.2.1 / g.2.2.2
  ((p :: (List.range blocks).map fun i => (p / g.2.2.2 + i + 1) % blocks * g.2.2.2)).find? fun w => !s.scrubSkips (g.1 + w * g.2.2.1)

/-- A lap ends (R345): its time recorded, the first from the scrubbers' start, and STALL cleared when it took less than 60 s. -/
def State.lapEnd (s : State) (r lane : Nat) : State :=
  let k := scrubKey r lane
  let us := usOf (s.clock - max s.integ.lapFrom (tabGet (fun _ => 0) s.integ.lapAt k))
  let s := { s with integ := { s.integ with lapAt := tabPut (fun _ => 0) s.integ.lapAt k s.clock } }
  let s := if us < 60000000 then s.clrBit F.MEMX_SCRUB_STAT_STALL r else s
  if r < 4 then s.setFld (F.MEMX_SCRUB_LAP_US r) (min us 0xFFFFFFFF)
  else
    let s := { s with integ := { s.integ with lapUs := tabPut (fun _ => 0) s.integ.lapUs lane us } }
    let best := s.integ.lapUs.foldl (fun b c => if b.2 < c.2 then c else b) (lane, us)
    (s.setFld (F.MEMX_SCRUB_LAP_US 4) (min best.2 0xFFFFFFFF)).setFld F.MEMX_SCRUB_STAT_LANE best.1

/-- The scrubber moves on past word `w`. -/
def State.scrubMove (s : State) (r lane w : Nat) : State :=
  let k := scrubKey r lane
  let old := tabGet (fun _ => 0) s.integ.scrubAt k
  let nxt := (w + 1) % (scrubRegion r lane).2.1
  let s := { s with integ := { s.integ with scrubAt := tabPut (fun _ => 0) s.integ.scrubAt k nxt } }
  if nxt ≤ old then s.lapEnd r lane else s

/-- The scrubber's access of a word: corrected and logged, or poisoned and logged as SCRUB_UE; poison is skipped. -/
def State.scrubRead (s : State) (w : Nat) : State :=
  match s.ecc w with
  | .ce _ _ => (s.eccRead ⟨0, 0⟩ w).1
  | .ue syn => (s.poisonWord w).memLog .scrubUe false w ⟨0, 0⟩ syn 0
  | _ => s

/-- The region is powered and filled. -/
def State.scrubOn (s : State) (r lane : Nat) : Bool := s.domOn 1 && (if r = 4 then s.laneOn lane else if r = 3 then s.is F.IDENT_DIE_VALID else s.filled)

/-- SCRUB_ACCESS: the next word of a region, of which some bits have flipped meanwhile, is read by the scrubber where it runs. -/
def State.scrub (s : State) (r lane flips : Nat) : State :=
  if s.scrubOn r lane then
    match s.scrubWord r lane with
    | none => s
    | some i =>
      let g := scrubRegion r lane
      let w := g.1 + i * g.2.2.1
      let s := s.upset w flips
      if s.is F.MEMX_CTL_SCRUB_EN then (s.scrubRead w).scrubMove r lane i else s
  else s

/-! ## The test engine (R353, R354) -/

/-- Why BIST.CMD is refused, the first reason of R353 that applies. -/
def State.bistRefusal (s : State) (m : Master) (t : Nat) : Option Nat :=
  let life := s.fld F.LIFE_STATE_STATE
  let save := s.fld F.BIST_SAVE_ADDR * 0x40000
  if life ≠ 1 ∧ life ≠ 4 then some 1
  else if m.code ≠ 1 ∧ m.code ≠ 3 then some 2
  else if s.integ.test.isSome then some 3
  else if decide (111 < t) || t == 0 || decide (t < 64) && s.pairBit R.MEMX_REMOVED_LO t || decide (64 ≤ t) && !s.laneOn (t - 64) then some 4
  else if save < 0x02000000 ∨ 0x02400000 ≤ save ∨ save = bankBase t ∨ s.pairBit R.MEMX_REMOVED_LO (bankOf save) then some 5
  else if decide (64 ≤ t) && !s.seqStopped (t - 64) then some 6
  else none

/-- A write of BIST.CMD (R353): an accepted test has copied its target into the save area (R354). -/
def State.bistCmd (s : State) (m : Master) (v : Word) : State × Resp :=
  let t := bitsOf v.toNat 0 7
  let s := (s.setFld F.BIST_CMD_TARGET t).setFld F.BIST_CMD_TEST (bitsOf v.toNat 8 2)
  if !bitAt v.toNat 31 then (s, .ok)
  else
    match s.bistRefusal m t with
    | some c => ((s.setFld F.BIST_RUN_STAT_REASON c).put F.BIST_EVENT_REFUSED true, .err (if c = 2 then 2 else 1))
    | none =>
      let save := s.fld F.BIST_SAVE_ADDR * 0x40000
      let r := targetRange1 t
      let s := (s.copyRange ⟨10, 0⟩ r.1 save r.2).put F.BIST_RUN_STAT_BUSY true
      ({ s with integ := { s.integ with test := some ⟨t, save⟩ } }, .ok)

/-- BIST_DONE (R354): the target is restored; words that fail to restore are poisoned and logged. -/
def State.bistDone (s : State) (pass : Bool) (addr : Nat) (bad : List Nat) : State :=
  match s.integ.test with
  | none => s
  | some t =>
    let s := { s with integ := { s.integ with test := none } }
    let s := ((bad.filter (inRange (targetRange1 t.target))).map eccBase).foldl (fun s w =>
      (s.poisonWord w).memLog .ue false w ⟨10, 0⟩ 0x7F#8 0) s
    let s := ((s.put F.BIST_RUN_STAT_BUSY false).put F.BIST_RUN_STAT_PASS pass).put F.BIST_RUN_STAT_FAIL (!pass)
    (if pass then s else s.setFld F.BIST_FAIL_ADDR_ADDR addr).put F.BIST_EVENT_DONE true

/-! ## Commands -/

/-- MEMX_CLR (R344). -/
def execMemxClr (m : Master) (v : Word) (s : State) : Host.Outcome State Fault Refusal := done (s.via R.MEMX_CLR m fun s => s.memxClr m v)

/-- SCRUB_ACCESS (R345, R346). -/
def execScrubAccess (r : Fin 5) (lane : Fin 48) (flips : BitVec 72) (s : State) : Host.Outcome State Fault Refusal :=
  done (s.scrub r lane flips.toNat)

/-- SCRUB_LAP_STALL (R345): a lap has exceeded 60 s. -/
def execScrubLapStall (r : Fin 5) (s : State) : Host.Outcome State Fault Refusal :=
  done (if s.domOn 1 && s.is F.MEMX_CTL_SCRUB_EN then (s.setBit F.MEMX_SCRUB_STAT_STALL r).put F.MEMX_EVENT_STALL true else s)

/-- MEMX_LOG_POP (R347). -/
def execMemxLogPop (m : Master) (s : State) : Host.Outcome State Fault Refusal := done (s.via R.MEMX_LOG_CTL m fun s => s.memxPop m 1#32)

/-- MEMX_RETIRE (R348 to R350): a write with GO = 1. -/
def execMemxRetire (m : Master) (v : Word) (s : State) : Host.Outcome State Fault Refusal :=
  done (s.via R.MEMX_RETIRE m fun s => s.memxRetire m (v ||| 0x80000000#32))

/-- RETIRE_COPY_DONE (R349). -/
def execRetireCopyDone (s : State) : Host.Outcome State Fault Refusal := done s.copyDone

/-- OTP_RELOAD (R342): a shadow word in error is loaded from OTP again. -/
def execOtpReload (w : Fin 512) (s : State) : Host.Outcome State Fault Refusal := done (s.otpReload (0x05000000 + 8 * w))

/-- BIST_CMD (R353): a write with GO = 1. -/
def execBistCmd (m : Master) (v : Word) (s : State) : Host.Outcome State Fault Refusal :=
  done (s.via R.BIST_CMD m fun s => s.bistCmd m (v ||| 0x80000000#32))

/-- BIST_DONE (R354). -/
def execBistDone (pass : Bool) (addr : Word) (bad : List Word) (s : State) : Host.Outcome State Fault Refusal :=
  done (s.bistDone pass addr.toNat (bad.map (·.toNat)))

end Sys2Proof.Machine
end

