-- ==== Sys2Proof/Machine/Monitor.lean ====
section
/-! DEFINITION. Sys2Proof/Machine/Monitor.lean: the monitor channels (R357 to R367, R384). -/

namespace Sys2Proof.Machine

/-! ## Channels -/

def State.monChan (s : State) (c : Nat) : MonChan := tabGet (fun _ => MonChan.init) s.mons c
def State.setMonChan (s : State) (c : Nat) (x : MonChan) : State := { s with mons := tabPut (fun _ => MonChan.init) s.mons c x }

/-- A channel's configuration as used: enabled, R, D, T, BASE (R384). -/
structure MonConf where
  on   : Bool
  r    : Nat
  d    : Nat
  taps : Nat
  base : Nat
  deriving DecidableEq, Repr

/-- The configuration that the words of CFG and FIR spell. -/
def monConf (cfg fir : Nat) : MonConf :=
  { on := bitAt cfg 0, r := clampNat 16 1024 (bitsOf cfg 1 11), d := clampNat 1 16 (bitsOf cfg 12 5), taps := min 256 (bitsOf fir 0 9),
    base := bitsOf fir 16 9 }

/-- The configuration in force of a channel. -/
def State.monConf (s : State) (c : Nat) : MonConf := Machine.monConf (s.rd (R.MON_CH_CFG c)).toNat (s.rd (R.MON_CH_FIR c)).toNat

def allMons : List Nat := List.range 24

/-- CH[c].STAT.LOAD (R384). -/
def MonConf.load (k : MonConf) : Nat := if k.on then ceilDiv (256 * k.taps) (k.r * k.d) else 0

/-- PD_MON is powered. -/
def State.monPower (s : State) : Bool := s.domOn 16

/-- Fine outputs not valid after a restart (R365). -/
def MonConf.settle (k : MonConf) : Nat := 4 + ceilDiv k.taps k.d

/-- CH[c].STAT as read (R365, R384). -/
def State.monStat (s : State) (c : Nat) : Word :=
  let k := s.monConf c
  let x := s.monChan c
  BitVec.ofNat 32 (k.load + 8192 * b2n (decide (x.coarse < 5) || k.on && decide (x.fine ≤ k.settle)))

/-- MAC_LOAD.TOTAL (R384). -/
def State.macLoad (s : State) : Nat := (allMons.map fun c => (s.monConf c).load).sum

/-! ## Weirs (R362, R363) -/

/-- A weir takes a new state; a rise is an event, and the reserved weirs drive presence (R90) and the bias trip (R123). -/
def State.putWeir (s : State) (c w : Nat) (b : Bool) : State :=
  let was := s.weir c w
  let s := s.put (weirFld c w) b
  let s := if b && !was then s.setBit (F.MON_WEIR_EVT_BITS ((4 * c + w) / 32)) ((4 * c + w) % 32) else s
  if w ≠ 0 ∨ 16 ≤ c ∨ was = b then s
  else if c < 8 then s.followWeir c
  else if b ∧ s.laneOn c then (s.ltxFault c (F.LTX_FAULT_CAUSE_BIAS_TRIP c)).becameDark c
  else s

/-- A weir judged against a fine-scale value (R362): DIR 0 above, 1 below. -/
def weirJudge (dir : Bool) (thresh hyst : Nat) (was : Bool) (v : Nat) : Bool :=
  if dir then (if v ≤ thresh then true else if thresh + hyst * 1024 < v then false else was)
  else if thresh ≤ v then true
  else if v + hyst * 1024 < thresh then false else was

/-- A new valid output of a path, as a fine-scale value: the weirs of that path (R362); a weir that is off is clear. -/
def State.weirs (s : State) (c : Nat) (fine : Bool) (v : Nat) : State :=
  each (List.range 4) (fun w s =>
    let r := weirReg c w
    let forced := s.weirForced c w
    let src := !forced && s.is ⟨r, 28, 1⟩
    let dir := !forced && s.is ⟨r, 29, 1⟩
    if !s.weirOn c w then s.putWeir c w false
    else if src = fine then s.putWeir c w (weirJudge dir (s.fld ⟨r, 0, 20⟩) (s.fld ⟨r, 20, 8⟩) (s.is (weirFld c w)) v)
    else s) s

/-- A write of a weir register (R363, R384). -/
def State.weirWrite (s : State) (m : Master) (c w : Nat) (v : Word) : State × Resp :=
  let may := if w = 0 ∧ 8 ≤ c ∧ c < 16 then m.code == 1 else m.code == 1 || m.code == 3 || m.code == 5
  if may then
    let s := s.wr (weirReg c w) (v &&& 0x7FFFFFFF#32)
    (if s.weirOn c w then s else s.putWeir c w false, .ok)
  else (s, .err 2)

/-! ## Outputs (R358, R359, R365, R367) -/

/-- COARSE_OUTPUT: one coarse output. -/
def State.coarseOut (s : State) (c v : Nat) : State :=
  if s.monPower && !s.monFailed c then
    let x := s.monChan c
    let s := s.setMonChan c { x with coarse := min (x.coarse + 1) 5 }
    if x.coarse < 4 then s else (s.wr (R.MON_CH_COARSE c) (BitVec.ofNat 32 (v + 1024))).weirs c false (v * 1024)
  else s

/-- A pool coefficient. -/
def State.coef (s : State) (i : Nat) : Int := s.sfld (F.MON_COEF_VALUE (i % 512))

/-- The fine output of a delay line (R359): an exact half rounds away from zero. -/
def State.fineValue (s : State) (k : MonConf) (delay : List Nat) : Nat :=
  let unit := k.r ^ 4
  let y := if k.taps = 0 then roundDiv (1048576 * (delay.getD 0 0 : Nat)) unit
    else roundDiv (8 * (List.range k.taps).foldl (fun a i => a + s.coef (k.base + i) * (delay.getD i 0 : Nat)) (0 : Int)) unit
  (clampInt 0 0xFFFFF y).toNat

/-- A fine output that is not valid reads 0 with VALID = 0 (R365). -/
def State.fineHidden (s : State) (c : Nat) : State := (s.setFld (F.MON_CH_FINE_VALUE c) 0).put (F.MON_CH_FINE_VALID c) false

/-- FINE_OUTPUT: one fine output from the next D outputs of the channel's CIC, oldest first. -/
def State.fineOut (s : State) (c : Nat) (us : List Nat) : State :=
  let k := s.monConf c
  if s.monPower && k.on && !s.monFailed c then
    let x := s.monChan c
    let delay := ((us.take k.d).map (min (k.r ^ 4))).reverse ++ x.delay |>.take 256
    let v := s.fineValue k delay
    let s := s.setMonChan c { x with fine := min (x.fine + 1) (k.settle + 1), delay := delay }
    let s := s.incr (F.MON_CH_FINE_SEQ c)
    if x.fine < k.settle then s.fineHidden c
    else
      let s := (s.setFld (F.MON_CH_FINE_VALUE c) v).put (F.MON_CH_FINE_VALID c) true
      let x := s.monChan c
      let s := (s.setMonChan c { x with sum := min (x.sum + v) (2 ^ 48 - 1) }).bump (F.MON_CH_ACC_N_COUNT c) 1
      s.weirs c true v
  else s

/-- A read of ACC_N (R367): the sum is latched, and count and sum restart. -/
def State.accRead (s : State) (c : Nat) : State × Word :=
  let x := s.monChan c
  let n := s.rd (R.MON_CH_ACC_N c)
  let s := (s.setFld (F.MON_CH_ACC_LO_SUM c) x.sum).setFld (F.MON_CH_ACC_HI_SUM c) (x.sum / 2 ^ 32)
  ((s.setMonChan c { x with sum := 0 }).wr (R.MON_CH_ACC_N c) 0#32, n)

/-! ## Synchronisation (R364) -/

/-- Another source fell within one modulator clock: 80 ns on the root, 80.64 ns on the FRO. -/
def State.monNear (s : State) : Bool :=
  match s.monAt with
  | some t => decide ((s.clock - t) * 128 < if s.is F.CLK_SRC_SEL then 8000 else 8064)
  | none => false

/-- A source of R364 restarts all decimators. -/
def State.monRestart (s : State) (src : Nat) : State :=
  if s.monNear then s.setFld F.MON_SYNC_STAT_LAST_SRC (min src (s.fld F.MON_SYNC_STAT_LAST_SRC))
  else
    let s := each allMons (fun c s =>
      ((s.setMonChan c { s.monChan c with coarse := 0, fine := 0, delay := [] }).wr (R.MON_CH_COARSE c) 0#32).wr (R.MON_CH_FINE c) 0#32)
      { s with monAt := some s.clock }
    ((s.bump F.MON_SYNC_STAT_COUNT 1).setFld F.MON_SYNC_STAT_LAST_SRC src).setBit F.MON_EVENT_BITS 0

/-- An edge at the MON_SYNC ball that begins a pulse of so many ns; one shorter than 200 ns is rejected (R364). -/
def State.monEdge (s : State) (rising : Bool) (ns : Nat) : State :=
  if s.monPower && s.claimUse 0 == 1 && decide (200 ≤ ns) && rising != s.is F.MON_CTL_SYNC_EDGE then s.monRestart 1 else s

/-- MON takes writes from these masters (R384). -/
def monWriter (m : Master) : Bool := m.code == 1 || m.code == 3 || m.code == 5

/-- A write of MON.CTL. -/
def State.monCtl (s : State) (m : Master) (v : Word) : State × Resp :=
  if monWriter m then
    let s := s.put F.MON_CTL_SYNC_EDGE (bitAt v.toNat 1)
    (if bitAt v.toNat 0 && s.monPower then s.monRestart 2 else s, .ok)
  else (s, .err 2)

/-- A write of MON.CTL that sets SYNC and leaves SYNC_EDGE as it stands. -/
def State.monSync (s : State) (m : Master) : State × Resp := s.monCtl m (BitVec.ofNat 32 (1 + 2 * s.fld F.MON_CTL_SYNC_EDGE))

/-! ## Configuration (R360) -/

/-- A refused configuration write: its channel and reason recorded. -/
def State.monRefuse (s : State) (c reason : Nat) : State × Resp :=
  let s := ((s.setFld F.MON_REFUSE_CHANNEL c).setFld F.MON_REFUSE_REASON reason).bump F.MON_REFUSE_COUNT 1
  (s.setBit F.MON_EVENT_BITS 1, .err (if reason = 5 then 2 else 1))

/-- The demand of the enabled channels as a fraction, numerator and denominator, channel c configured as `k` (R359). -/
def State.monDemand (s : State) (c : Nat) (k : MonConf) : Nat × Nat :=
  allMons.foldl (fun q i =>
    let x := if i = c then k else s.monConf i
    if x.on then (q.1 * (x.r * x.d) + x.taps * q.2, q.2 * (x.r * x.d)) else q) (0, 1)

/-- The reason that refuses words of CFG and FIR for channel c, the first of the order 5, 4, 3, 2, 1. -/
def State.monRefusal (s : State) (m : Master) (c cfg fir : Nat) (setsEn : Bool) : Option Nat :=
  let cfg0 := (s.rd (R.MON_CH_CFG c)).toNat
  let fir0 := (s.rd (R.MON_CH_FIR c)).toNat
  let k := Machine.monConf cfg fir
  let q := s.monDemand c k
  if !monWriter m then some 5
  else if bitAt cfg0 0 ∧ (cfg / 2 ≠ cfg0 / 2 ∨ fir ≠ fir0) then some 4
  else if s.monFailed c && setsEn then some 3
  else if 512 < k.base + k.taps then some 2
  else if k.on ∧ 40 * q.2 < q.1 then some 1
  else none

/-- A write of CFG (fir false) or FIR of channel c. A fine path switched on starts from cleared state (R361); what its count of outputs since the restart makes invalid reads 0
(R365). -/
def State.monConfig (s : State) (m : Master) (c : Nat) (fir : Bool) (v : Word) : State × Resp :=
  let cfg := if fir then (s.rd (R.MON_CH_CFG c)).toNat else v.toNat % 0x20000
  let f := if fir then (v &&& 0x01FF01FF#32).toNat else (s.rd (R.MON_CH_FIR c)).toNat
  match s.monRefusal m c cfg f (!fir && bitAt cfg 0) with
  | some r => s.monRefuse c r
  | none =>
    let starts := bitAt cfg 0 && !s.is (F.MON_CH_CFG_EN c)
    let s := (s.wr (R.MON_CH_CFG c) (BitVec.ofNat 32 cfg)).wr (R.MON_CH_FIR c) (BitVec.ofNat 32 f)
    let s := if starts then s.setMonChan c { s.monChan c with delay := [] } else s
    (if starts && decide ((s.monChan c).fine ≤ (s.monConf c).settle) then s.fineHidden c else s, .ok)

/-- A write of a pool coefficient (R360): refused in the range of an enabled channel, with reason 5 before reason 4. -/
def State.coefWrite (s : State) (m : Master) (i : Nat) (v : Word) : State × Resp :=
  match allMons.find? fun c =>
    let k := s.monConf c
    k.on && decide (k.base ≤ i) && decide (i < k.base + k.taps) with
  | some c => s.monRefuse c (if monWriter m then 4 else 5)
  | none => if monWriter m then (s.setFld (F.MON_COEF_VALUE i) v.toNat, .ok) else (s, .err 2)

/-! ## Commands -/

/-- COARSE_OUTPUT (R358, R362). -/
def execCoarseOutput (ch : Fin 24) (v : BitVec 10) (s : State) : Host.Outcome State Fault Refusal := done (s.coarseOut ch v.toNat)

/-- FINE_OUTPUT (R359, R362). -/
def execFineOutput (ch : Fin 24) (us : List Nat) (s : State) : Host.Outcome State Fault Refusal := done (s.fineOut ch us)

/-- MON_CHANNEL_CONFIG (R360). -/
def execMonChannelConfig (m : Master) (ch : Fin 24) (fir : Bool) (v : Word) (s : State) : Host.Outcome State Fault Refusal :=
  done (s.via (if fir then R.MON_CH_FIR ch else R.MON_CH_CFG ch) m fun s => s.monConfig m ch fir v)

/-- MON_COEF_WRITE (R360). -/
def execMonCoefWrite (m : Master) (i : Fin 512) (v : Word) (s : State) : Host.Outcome State Fault Refusal :=
  done (s.via (R.MON_COEF i) m fun s => s.coefWrite m i v)

/-- MON_SYNC_EDGE (R364). -/
def execMonSyncEdge (edge : Bool × Nat) (s : State) : Host.Outcome State Fault Refusal := done (s.monEdge edge.1 edge.2)

/-- MON_SYNC_COMMAND (R364). -/
def execMonSyncCommand (m : Master) (s : State) : Host.Outcome State Fault Refusal := done (s.via R.MON_CTL m fun s => s.monSync m)

/-- ACC_READ (R367). -/
def execAccRead (m : Master) (ch : Fin 24) (s : State) : Host.Outcome State Fault Refusal :=
  done (s.viaRead (R.MON_CH_ACC_N ch) m fun s =>
    let x := s.accRead ch
    (x.1, .ok, x.2))

end Sys2Proof.Machine
end

