-- ==== Sys2Proof/Machine/Thermal.lean ====
section
/-! DEFINITION. Sys2Proof/Machine/Thermal.lean: temperature sensors, throttling, thermal shutdown and the recalibrations that temperature triggers
(R183, R184, R369 to R383). -/

namespace Sys2Proof.Machine

/-! ## Sensors (R369, R375) -/

/-- The neighbours of a sensor (R369). -/
def neighbours (i : Nat) : List Nat :=
  [[1, 4], [0, 2, 4], [1, 3, 5], [2, 5], [0, 1, 5, 10], [2, 3, 4, 10], [7, 10], [6, 8, 10], [7, 9, 11], [8, 11], [4, 5, 6, 7], [8, 9]].getD i []

def allSensors : List Nat := List.range 12

def State.sensor (s : State) (i : Nat) : Sensor := tabGet (fun _ => Sensor.init) s.therm.sensors i
def State.setSensor (s : State) (i : Nat) (x : Sensor) : State :=
  { s with therm := { s.therm with sensors := tabPut (fun _ => Sensor.init) s.therm.sensors i x } }

/-- TSi is flagged broken. -/
def State.broken (s : State) (i : Nat) : Bool := bitAt (s.fld F.THERM_BROKEN_TS) i

/-- A reading in the range of R375, in 0.5 °C. -/
def tempOk (t : Int) : Bool := decide (-80 ≤ t) && decide (t ≤ 300)

/-- The sensor takes part in decisions, its reading aside (R370, R376). -/
def State.takesPart (s : State) (i : Nat) : Bool := !s.broken i && !s.is (F.THERM_READ_PROBATION i)

/-- Insertion into a rising list. -/
def insertInt (a : Int) : List Int → List Int
  | [] => [a]
  | b :: l => if a ≤ b then a :: b :: l else b :: insertInt a l

/-- Twice the median of a list: an even count has the mean of the middle two (the spec does not define it). -/
def median2 (l : List Int) : Int :=
  let r := l.foldr insertInt []
  r.getD (r.length / 2) 0 + r.getD ((r.length - 1) / 2) 0

/-- A reading that differs by more than 20 °C from the median of at least two admitted neighbours (R375). -/
def disagrees (t : Int) (near : List Int) : Bool := decide (2 ≤ near.length) && decide (80 < (2 * t - median2 near).natAbs)

/-- The counters of a sensor after an update. -/
def Sensor.next (x : Sensor) (t : Int) (code : Nat) (near : List Int) : Sensor :=
  { x with code := code, same := if x.same ≠ 0 ∧ x.code = code then min (x.same + 1) 64 else 1,
           outN := if tempOk t then 0 else min (x.outN + 1) 2, disN := if disagrees t near then min (x.disN + 1) 16 else 0 }

/-- The cause that a test of R375 gives, the lowest that applies. -/
def Sensor.fails (x : Sensor) : Option Nat :=
  if 2 ≤ x.outN then some 1 else if 64 ≤ x.same then some 2 else if 16 ≤ x.disN then some 3 else none

/-- A sensor flagged broken (R375), and the response to a hottest sensor that fails (R377). -/
def State.flagBroken (s : State) (i cause : Nat) : State :=
  let s := ((s.setBit F.THERM_BROKEN_TS i).setFld (F.THERM_READ_CAUSE i) cause).put (F.THERM_READ_PROBATION i) false
  let s := s.setBit F.THERM_EVENT_BITS 5
  if s.fld F.THERM_STAT_LEVEL ≠ 0 ∧ (s.sensor i).wasMax then
    ((s.put F.THERM_STAT_FROZEN true).setBit F.THERM_EVENT_BITS 6).setSensor i { s.sensor i with subst := true }
  else s

/-- The verdict of an update on a sensor that is not flagged: broken, or one more update passed on probation (R376). -/
def State.sensorJudge (s : State) (i : Nat) : State :=
  let x := s.sensor i
  if s.broken i then s
  else
    match x.fails with
    | some c => s.flagBroken i c
    | none =>
      if s.is (F.THERM_READ_PROBATION i) then
        if 15 ≤ x.passed then (s.setSensor i { x with passed := 0 }).put (F.THERM_READ_PROBATION i) false
        else s.setSensor i { x with passed := x.passed + 1 }
      else s

/-! ## Levels (R372 to R374) -/

/-- THROT_MS brought up to the present clock (R383). -/
def State.throtTime (s : State) : State :=
  let part := if s.fld F.THERM_STAT_LEVEL = 0 then s.therm.part else s.therm.part + (s.clock - s.therm.upTo)
  let ms := msOf part
  let s := { s with therm := { s.therm with upTo := s.clock, part := if ms = 0 then part else part - ms * 781250 } }
  if ms = 0 then s else s.bump F.THERM_THROT_MS_MS ms

/-- Level changed: the time at the old one counted, its event, and what follows on the lanes at once. -/
def State.setLevel (s : State) (lvl : Nat) : State :=
  let s := s.throtTime
  let up := decide (s.fld F.THERM_STAT_LEVEL < lvl)
  let s := (s.setFld F.THERM_STAT_LEVEL lvl).setBit F.THERM_EVENT_BITS (if up then 2 else 3)
  let s := { s with therm := { s.therm with changed := some s.clock } }
  let s := each (lrxLanes ++ hrxLanes) (fun n s =>
    if lvl ≠ 0 ∧ s.releasing n then s.onLane n fun l => { l with corrHurt := l.corrHurt || l.corrRun } else s) s
  each lrxLanes (fun n s => if s.hasGroups n then s else s.onLane n fun l => { l with saver := lvl }) s

/-- The highest level allowed. -/
def State.levelTop (s : State) : Nat := min (s.fld F.THERM_CTL_MAX_LEVEL) 4

/-- At least `ms` milliseconds have passed since a clock reading, none for never. -/
def State.since (s : State) (t : Option Nat) (ms : Nat) : Bool :=
  match t with
  | some t => decide (max ms 1 ≤ msOf (s.clock - t))
  | none => true

/-- A temperature threshold in 0.5 °C. -/
def State.limit (s : State) (f : Fld) : Int := 2 * (s.fld f : Nat)

def State.hyst (s : State) : Int := 2 * (s.fld F.THERM_THRESH_HYST : Nat)

/-- The level that THROT_EN and MAX_LEVEL take it down to at an update (R372). -/
def State.levelCut (s : State) : Option Nat :=
  let lvl := s.fld F.THERM_STAT_LEVEL
  if !s.is F.THERM_CTL_THROT_EN then (if lvl = 0 then none else some 0) else if s.levelTop < lvl then some s.levelTop else none

/-- The level at an update that gives MAX `t` (R372): rises, and the limits of MAX_LEVEL and THROT_EN. -/
def State.throttle (s : State) (t : Int) : State :=
  let low := decide (t ≤ s.limit F.THERM_THRESH_THROTTLE - s.hyst)
  let below := if low then (match s.therm.below with
    | some b => some b
    | none => some s.clock) else none
  let s := { s with therm := { s.therm with below := below } }
  let lvl := s.fld F.THERM_STAT_LEVEL
  match s.levelCut with
  | some k => s.setLevel k
  | none =>
    if s.is F.THERM_CTL_THROT_EN && decide (s.limit F.THERM_THRESH_THROTTLE ≤ t) && decide (lvl < s.levelTop) &&
        (lvl == 0 || s.since s.therm.changed (s.fld F.THERM_CTL_STEP_MS)) then s.setLevel (lvl + 1)
    else s

/-- THROTTLE_FALL (R372): MAX has stayed at or below the release for DWELL_MS. -/
def State.throttleFall (s : State) : State :=
  let lvl := s.fld F.THERM_STAT_LEVEL
  if s.is F.THERM_CTL_THROT_EN && lvl != 0 && !s.is F.THERM_STAT_FROZEN && s.therm.below.isSome then s.setLevel (lvl - 1) else s

/-! ## Warning and shutdown (R371, R378 to R380) -/

/-- The warning at MAX `t`. -/
def State.warn (s : State) (t : Int) : State :=
  if s.is F.THERM_STAT_WARN then
    if t ≤ s.limit F.THERM_THRESH_WARN - s.hyst then (s.put F.THERM_STAT_WARN false).setBit F.THERM_EVENT_BITS 1 else s
  else if s.limit F.THERM_THRESH_WARN ≤ t then (s.put F.THERM_STAT_WARN true).setBit F.THERM_EVENT_BITS 0
  else s

/-- Thermal shutdown (R379, R380). In Standby it sets the hold only, and on the way there from Dormant it also ends what waits (R20); nothing more follows where the device stands
there under the hold, or where its lanes are on their way down and have had their trigger. The fixed-latency attribute ends with the data mode, and with it the locks (R50). The
domains power down by their own events (R318). -/
def State.shutDown (s : State) : State :=
  let busy := s.is F.MODE_STATUS_BUSY
  let down := busy && !isData (s.fld F.MODE_STATUS_IN_TARGET)
  let had := ltxLanes.all fun n => !s.laneOn n || s.is (F.LTX_FAULT_CAUSE_THERMAL n)
  if s.is F.MODE_STATUS_THERM_HOLD && (decide (s.mode ≤ 1) && !busy || down && had) then s
  else
    let s := s.put F.MODE_STATUS_THERM_HOLD true
    if s.mode ≤ 1 ∧ !busy then s.preempt
    else
      let s := (s.setBit F.THERM_EVENT_BITS 4).preempt
      let s := each (ltxLanes.filter fun n => s.laneOn n) (fun n s => s.ltxFault n (F.LTX_FAULT_CAUSE_THERMAL n)) s
      let s := if down then s else ((s.setFld F.MODE_STATUS_CURRENT 1).put F.MODE_STATUS_FIXLAT false).lockAttr false
      let s := each allLadders (fun i s => s.ladderIdle i) s
      let s := each lrxLanes (fun n s => (s.wcapAbort n).trnStop n) s
      let s := each allLanes (fun n s => if s.laneOn n then (if 8 ≤ n ∧ n < 16 then s.seqHalt n else (s.seqHalt n).laneStop n).calAbort n else s) s
      each ltxLanes (fun n s => s.becameDark n) s

/-! ## Temperature-triggered recalibration (R182 to R184) -/

/-- The source of a lane's temperature: the sensor code of LANE_STAT.SENSOR, and its reading, none at an update that gives no valid one. The device maximum serves only where
every sensor of the group is out (R183). DESIGN CHOICE: of two sensors with the highest reading the lower index is named (log entry 110). -/
def State.calSource (s : State) (n : Nat) (temps : List (Nat × Int)) : Nat × Option Int :=
  let at_ (i : Nat) : Option Int := (temps.find? fun c => c.1 == i).map (·.2)
  let ref := refSensor n
  if s.takesPart ref then (ref, at_ ref)
  else
    let group := ((List.range 4).map (· + if n < 16 then 0 else 6)).filter s.takesPart
    let best := (temps.filter fun c => group.contains c.1).foldl (fun b c => match b with
      | none => some c
      | some x => if x.2 < c.2 then some c else b) none
    match best with
    | some c => (c.1, some c.2)
    | none => if group.isEmpty then (15, some (s.sfld F.THERM_STAT_MAX)) else (s.fld (F.CAL_LANE_STAT_SENSOR n), none)

/-- A sensor update seen by the recalibration engine of a powered lane. A move of more than DT ends GIVEUP whatever TEMP_EN (R188). DESIGN CHOICE: it starts or defers an attempt at
once (log entry 111). -/
def State.calUpdate (s : State) (n : Nat) (temps : List (Nat × Int)) : State :=
  match s.calSource n temps with
  | (_, none) => s
  | (src, some t) =>
    let s := s.setFld (F.CAL_LANE_REF_T_NOW n) (codeOf 10 t)
    let s := s.put (F.CAL_LANE_STAT_SUBST n) (src != refSensor n)
    if s.fld (F.CAL_LANE_STAT_SENSOR n) ≠ src then
      ((s.setFld (F.CAL_LANE_STAT_SENSOR n) src).setFld (F.CAL_LANE_REF_T_REF n) (codeOf 10 t)).put F.CAL_EVENT_SRC_CHANGE true
    else if s.calState n = 0 ∧ s.is F.CAL_CTL_TEMP_EN ∧ s.calDt < (t - s.sfld (F.CAL_LANE_REF_T_REF n)).natAbs then s.triggerOrDefer n
    else if s.calState n = 5 ∧ s.calDt < (t - signedOf 10 (s.lane n).lastT).natAbs then s.triggerOrDefer n
    else s

/-! ## The update (R370) -/

/-- MAX of an update, its sensor, and what follows (R370 to R372, R379, R381). -/
def State.maxUpdate (s : State) (eff : List (Nat × Int)) (i : Nat) (t : Int) : State :=
  let s := (s.setFld F.THERM_STAT_MAX (codeOf 10 t)).setFld F.THERM_STAT_MAX_SENSOR i
  let s := each (eff.map (·.1)) (fun k s => s.setSensor k { s.sensor k with wasMax := k == i }) s
  let s := if s.sfld F.THERM_PEAK_MAX < t then s.setFld F.THERM_PEAK_MAX (codeOf 10 t) else s
  let s := (s.warn t).throttle t
  let shut := s.limit F.THERM_THRESH_SHUTDOWN
  let hot := if shut ≤ t then min (s.therm.hot + 1) 2 else 0
  let again := s.therm.fresh && decide (shut - s.hyst ≤ t)
  let s := { s with therm := { s.therm with hot := hot, fresh := false } }
  let s := if hot = 2 then s.shutDown else s
  if again then s.put F.MODE_STATUS_THERM_HOLD true else s

/-- The reading of sensor i in an update. -/
def tempAt (rd : List (Int × Nat)) (i : Nat) : Int := (rd.getD i (0, 0)).1

/-- The sensors that take part with a reading in range, and their readings. -/
def State.realTemps (s : State) (rd : List (Int × Nat)) : List (Nat × Int) :=
  (allSensors.filter fun i => s.takesPart i && tempOk (tempAt rd i)).map fun i => (i, tempAt rd i)

/-- The readings that decide, with substitutes in force (R377). -/
def State.effTemps (s : State) (real : List (Nat × Int)) : List (Nat × Int) :=
  let top := real.foldl (fun b c => match b with
    | none => some c.2
    | some x => some (max x c.2)) (none : Option Int)
  match top with
  | none => []
  | some x => allSensors.filterMap fun i => if (s.sensor i).subst then some (i, x + 16) else (real.find? fun c => c.1 == i)

/-- Every sensor judged by R375. -/
def State.judgeAll (s : State) (rd : List (Int × Nat)) : State :=
  let adm := (s.realTemps rd).map (·.1)
  let s := each allSensors (fun i s =>
    s.setSensor i ((s.sensor i).next (tempAt rd i) (rd.getD i (0, 0)).2 (((neighbours i).filter adm.contains).map (tempAt rd)))) s
  each allSensors (fun i s => s.sensorJudge i) s

/-- One sensor's THERM.READ. -/
def State.showTemp (s : State) (rd : List (Int × Nat)) (eff : List (Nat × Int)) (i : Nat) : State :=
  let e := eff.find? fun c => c.1 == i
  let sub := (s.sensor i).subst && e.isSome
  let s := s.setFld (F.THERM_READ_TEMP i) (codeOf 10 (if sub then (e.getD (i, 0)).2 else tempAt rd i))
  (s.put (F.THERM_READ_ADMITTED i) e.isSome).put (F.THERM_READ_SUBST i) sub

/-- THERM.SUBST: the substitute in force. -/
def State.showSubst (s : State) (eff : List (Nat × Int)) : State :=
  match eff.find? fun c => (s.sensor c.1).subst with
  | some c => ((s.setFld F.THERM_SUBST_VALUE (codeOf 10 c.2)).setFld F.THERM_SUBST_SENSOR c.1).put F.THERM_SUBST_ACTIVE true
  | none => s.put F.THERM_SUBST_ACTIVE false

/-- MAX decided, or no sensor left (R378): then the limits of the level hold all the same (R372). -/
def State.decideMax (s : State) (eff : List (Nat × Int)) : State :=
  let best := eff.foldl (fun b c => match b with
    | none => some c
    | some x => if x.2 < c.2 then some c else b) none
  match best with
  | none => (match s.levelCut with
    | some k => s.setLevel k
    | none => s).shutDown
  | some (i, t) => s.maxUpdate eff i t

/-- SENSOR_UPDATE: the twelve readings in 0.5 °C with their raw codes. -/
def State.sensorUpdate (s : State) (rd : List (Int × Nat)) : State :=
  let s := s.throtTime.judgeAll rd
  let real := s.realTemps rd
  let eff := s.effTemps real
  let s := each allSensors (fun i s => s.showTemp rd eff i) s
  let s := ((s.setFld F.THERM_STAT_ADMITTED eff.length).showSubst eff).decideMax eff
  each (allLanes.filter fun n => s.laneOn n) (fun n s => s.calUpdate n real) s

/-! ## Register accesses (R376, R377, R381 to R383) -/

/-- CTL, BROKEN, ACK and THRESH take writes from these masters. -/
def thermWriter (m : Master) : Bool := m.code == 1 || m.code == 3 || m.code == 5

/-- A write of THERM.BROKEN (R376): sensors re-admitted on probation. -/
def State.brokenWrite (s : State) (m : Master) (v : Word) : State × Resp :=
  if thermWriter m then
    (each allSensors (fun i s =>
      if bitAt v.toNat i && s.broken i then
        let s := ((s.clrBit F.THERM_BROKEN_TS i).setFld (F.THERM_READ_CAUSE i) 0).put (F.THERM_READ_PROBATION i) true
        s.setSensor i { s.sensor i with passed := 0, subst := false }
      else s) s, .ok)
  else (s, .err 2)

/-- The shutdown hold may be cleared (R381). -/
def State.holdMayClear (s : State) : Bool :=
  decide (s.sfld F.THERM_STAT_MAX ≤ s.limit F.THERM_THRESH_SHUTDOWN - s.hyst)

/-- A write of THERM.ACK (R377, R381). -/
def State.thermAck (s : State) (m : Master) (v : Word) : State × Resp :=
  if !thermWriter m then (if bitAt v.toNat 1 then s.setBit F.THERM_EVENT_BITS 8 else s, .err 2)
  else
    let s := if bitAt v.toNat 0 then s.put F.THERM_STAT_FROZEN false else s
    if !bitAt v.toNat 1 then (s, .ok)
    else if s.holdMayClear then
      (each ltxLanes (fun n s => s.put (F.LTX_FAULT_CAUSE_THERMAL n) false) (s.put F.MODE_STATUS_THERM_HOLD false), .ok)
    else (s.setBit F.THERM_EVENT_BITS 8, .err 1)

/-- A write of THERM.THRESH (R382). -/
def State.threshWrite (s : State) (m : Master) (v : Word) : State × Resp :=
  let w := v.toNat
  let warn := bitsOf w 0 8
  let thr := bitsOf w 8 8
  let shut := clampNat 100 122 (bitsOf w 16 8)
  let hyst := clampNat 3 10 (bitsOf w 24 4)
  if !thermWriter m then (s.setBit F.THERM_EVENT_BITS 7, .err 2)
  else if warn ≤ thr ∧ thr < shut then
    ((((s.setFld F.THERM_THRESH_WARN warn).setFld F.THERM_THRESH_THROTTLE thr).setFld F.THERM_THRESH_SHUTDOWN shut).setFld
      F.THERM_THRESH_HYST hyst, .ok)
  else (s.setBit F.THERM_EVENT_BITS 7, .err 1)

/-- A write of THERM.PEAK: CLR reloads it. -/
def State.peakWrite (s : State) (v : Word) : State × Resp :=
  (if bitAt v.toNat 31 then s.setFld F.THERM_PEAK_MAX (s.fld F.THERM_STAT_MAX) else s, .ok)

/-! ## Commands -/

/-- SENSOR_UPDATE (R183, R184, R369 to R379): twelve readings of ten bits in two's complement, with raw codes of twelve bits. -/
def execSensorUpdate (readings : List (Int × Nat)) (s : State) : Host.Outcome State Fault Refusal :=
  doneIf (readings.length == 12 && readings.all fun r => decide (-512 ≤ r.1) && decide (r.1 ≤ 511) && decide (r.2 < 4096))
    (if s.domOn 1 then s.sensorUpdate readings else s)

/-- THROTTLE_FALL (R372). -/
def execThrottleFall (s : State) : Host.Outcome State Fault Refusal := done (if s.domOn 1 then s.throttleFall else s)

/-- SENSOR_READMIT (R376). -/
def execSensorReadmit (m : Master) (v : Word) (s : State) : Host.Outcome State Fault Refusal := done (s.via R.THERM_BROKEN m fun s => s.brokenWrite m v)

/-- FAIL_ACK (R377). -/
def execFailAck (m : Master) (s : State) : Host.Outcome State Fault Refusal := done (s.via R.THERM_ACK m fun s => s.thermAck m 1#32)

/-- HOLD_CLR (R381). -/
def execHoldClr (m : Master) (s : State) : Host.Outcome State Fault Refusal := done (s.via R.THERM_ACK m fun s => s.thermAck m 2#32)

/-- THRESH_WRITE (R382). -/
def execThreshWrite (m : Master) (v : Word) (s : State) : Host.Outcome State Fault Refusal := done (s.via R.THERM_THRESH m fun s => s.threshWrite m v)

/-- PEAK_CLR (R383). -/
def execPeakClr (m : Master) (s : State) : Host.Outcome State Fault Refusal := done (s.via R.THERM_PEAK m fun s => s.peakWrite 0x80000000#32)

end Sys2Proof.Machine
end

