-- ==== Sys2Proof/Machine/Boundary.lean ====
section
/-! DEFINITION. Sys2Proof/Machine/Boundary.lean: what takes effect at a barge boundary and at a codeword-group boundary of a lane (R68, R86, R111, R148,
R186, R208, R374). -/

namespace Sys2Proof.Machine

/-- The settings of a transmit or host lane in force from a barge boundary on (R68, R111, R127). DESIGN CHOICE: a change of PAT.SEL restarts the pattern generator (log entry
114). -/
def State.takeSettings (s : State) (n : Nat) : State :=
  if n < 8 then s
  else if n < 16 then
    let src := s.fld (F.LTX_CTL_SRC n)
    let pre := s.is (F.LTX_CTL_PRECODE n)
    let sel := s.fld (F.LTX_PAT_SEL n)
    (s.onLane n fun l =>
      { l with inv := s.is (F.LTX_CTL_INV n), precode := pre, src := if src = 3 then 0 else src, patSel := sel, patEn := s.is (F.LTX_PAT_EN n),
               pat := if sel = l.patSel then l.pat else 0, prev := if pre && !l.precode then 0 else l.prev }).put (F.LTX_STATUS_PRECODE_ON n) pre
  else
    let sel := s.fld (F.HRX_PAT_SEL n)
    s.onLane n fun l => { l with inv := s.is (F.HRX_CTL_INV n), patSel := sel, patEn := s.is (F.HRX_PAT_EN n), pat := if sel = l.patSel then l.pat else 0 }

/-- A statistics window that waits for a barge boundary starts (R86). DESIGN CHOICE: it takes LOG2N and HIST_SRC now, and DONE of the window before stays (log entries 115, 116). -/
def State.takeCorr (s : State) (n : Nat) : State :=
  if (s.lane n).corrGo then
    let log := corrLength n (s.fld ⟨corrCtl n, 0, 5⟩)
    let src := decide (n < 8) && s.is (F.LRX_CORR_CTL_HIST_SRC n)
    let hurt := !s.corrCounts n
    s.onLane n fun l => { l with corrGo := false, corrRun := true, corrLog := log, corrSrc := src, corrHurt := hurt, stat := Stat.init }
  else s

/-- BARGE_BOUNDARY: a commit that waits for it, the settings, a statistics window and a step of the interleave trims. -/
def State.bargeEdge (s : State) (n : Nat) : State :=
  if s.laneOn n then
    let s := ((s.takeSettings n).takeCorr n).branchEdge n
    let s := if 8 ≤ n ∧ n < 16 then each [n, s.hostOf 16 (2 * (n - 8)), s.hostOf 16 (2 * (n - 8) + 1)] (fun k s => s.cmtCheck k) s else s
    match (s.seq n).cmt with
    | some (_, false) => s.cmtResolve n
    | _ => s
  else s

/-- GROUP_BOUNDARY: event line 3, a commit that waits for it, pending trims, the throttle level of a decoder, a codeword injection of an encoder. -/
def State.groupEdge (s : State) (n : Nat) : State :=
  if s.hasGroups n && s.laneOn n then
    let s := s.line n 3
    let s := match (s.seq n).cmt with
      | some (_, true) => s.cmtResolve n
      | _ => s
    let s := if s.calState n = 3 then s.calCommit n false else s
    if n < 8 then s.onLane n fun l => { l with saver := s.fld F.THERM_STAT_LEVEL }
    else if n < 16 && s.is (F.LTX_CW_INJ_PENDING n) then (s.put (F.LTX_CW_INJ_PENDING n) false).onLane n fun l => { l with cwInject := true }
    else s
  else s

/-- BARGE_BOUNDARY (R61, R68, R86, R111, R208). -/
def execBargeBoundary (n : Fin 48) (s : State) : Host.Outcome State Fault Refusal := done (s.bargeEdge n)

/-- GROUP_BOUNDARY (R148, R153, R186, R209, R374). -/
def execGroupBoundary (n : Fin 48) (s : State) : Host.Outcome State Fault Refusal := done (s.groupEdge n)

end Sys2Proof.Machine
end

