-- ==== Sys2Proof/Machine/Coding.lean ====
section
/-! DEFINITION. Sys2Proof/Machine/Coding.lean: the characters of the towpath (R283, R288): the 8b/10b code of IEEE 802.3 Clause 36, which the spec names and does not
print (PRESUMED), the ordered sets, and a packet with its header bytes and its CRC. -/

namespace Sys2Proof.Machine

/-! ## 8b/10b -/

/-- The six-bit groups abcdei of D0 to D31 at negative running disparity, a most significant. -/
def sixOf : List Nat :=
  [0b100111, 0b011101, 0b101101, 0b110001, 0b110101, 0b101001, 0b011001, 0b111000, 0b111001, 0b100101, 0b010101, 0b110100, 0b001101, 0b101100, 0b011100, 0b010111]
  ++ [0b011011, 0b100011, 0b010011, 0b110010, 0b001011, 0b101010, 0b011010, 0b111010, 0b110011, 0b100110, 0b010110, 0b110110, 0b001110, 0b101110, 0b011110, 0b101011]

/-- The four-bit groups fghj of x.0 to x.7 at negative running disparity. -/
def fourOf : List Nat := [0b1011, 0b1001, 0b0101, 0b1100, 0b1101, 0b1010, 0b0110, 0b1110]

/-- The ones among the low `n` bits of a number. -/
def onesOf (n v : Nat) : Nat := (List.range n).foldl (fun t i => t + b2n (bitAt v i)) 0

/-- A group of `n` bits as sent at a running disparity: at positive disparity one that is not balanced is inverted, and so are the two balanced groups 111000 and 1100. -/
def groupAt (n : Nat) (rd : Bool) (v : Nat) : Nat :=
  if rd && (2 * onesOf n v != n || n == 6 && v == 0b111000 || n == 4 && v == 0b1100) then 2 ^ n - 1 - v else v

/-- The running disparity after a group: true is positive. -/
def dispAfter (n : Nat) (rd : Bool) (v : Nat) : Bool := if 2 * onesOf n v = n then rd else decide (n < 2 * onesOf n v)

/-- The four-bit group of x.7 is the alternate one where the usual would make five equal bits. -/
def altSeven (rd : Bool) (x : Nat) : Bool := if rd then x == 11 || x == 13 || x == 14 else x == 17 || x == 18 || x == 20

/-- A data character as ten bits abcdei fghj, and the disparity after it. -/
def dataGroup (rd : Bool) (b : Nat) : Nat × Bool :=
  let x := b % 32
  let six := groupAt 6 rd (sixOf.getD x 0)
  let rd1 := dispAfter 6 rd six
  let four := groupAt 4 rd1 (if b / 32 = 7 ∧ altSeven rd1 x then 0b0111 else fourOf.getD (b / 32) 0)
  (16 * six + four, dispAfter 4 rd1 four)

/-- The special characters at negative disparity: K28.1, K28.3, K28.5, K28.7, K23.7, K27.7 and K29.7. -/
def specialOf (b : Nat) : Nat :=
  if b = 0x3C then 0b0011111001 else if b = 0x7C then 0b0011110011 else if b = 0xBC then 0b0011111010 else if b = 0xFC then 0b0011111000
  else if b = 0xF7 then 0b1110101000 else if b = 0xFB then 0b1101101000 else if b = 0xFD then 0b1011101000 else 0

/-- A special character, and the disparity after it. -/
def specialGroup (rd : Bool) (b : Nat) : Nat × Bool :=
  let v := if rd then 1023 - specialOf b else specialOf b
  (v, dispAfter 10 rd v)

/-- A character of the towpath: a special one, or data. -/
inductive TowChar where
  | k (b : Nat)
  | d (b : Nat)
  deriving DecidableEq, Repr

/-- A character as ten bits, the first bit sent most significant, and the disparity after it. -/
def TowChar.group (rd : Bool) : TowChar → Nat × Bool
  | .k b => specialGroup rd b
  | .d b => dataGroup rd (b % 256)

/-- Characters in order, and the disparity after them. -/
def codeRun (rd : Bool) : List TowChar → List (BitVec 10) × Bool
  | [] => ([], rd)
  | c :: cs =>
    let g := c.group rd
    let x := codeRun g.2 cs
    (BitVec.ofNat 10 g.1 :: x.1, x.2)

/-! ## Ordered sets and packets -/

/-- An SOF with its data byte (R284). -/
def sofChars (d : Nat) : List TowChar := [.k 0x3C, .d d]

/-- A SYNC with its elapsed time and F (R298). -/
def syncChars (e f : Nat) : List TowChar := [.k 0x7C, .d e, .d (e / 256), .d f]

/-- The idle: K28.5 D16.2, which leaves the running disparity as it was (R283). -/
def idleChars : List TowChar := [.k 0xBC, .d 0x50]

/-- The wake at a speed: K28.7 for 2 µs, the least that R286 allows. -/
def wakeChars (speed : Nat) : List TowChar := List.replicate ((625 * 2 ^ speed + 1) / 2) (.k 0xFC)

/-- The packet carries its request's address in H6 to H9, as RD and WR do. -/
def pktAddressed (k : TowPkt) : Bool := k.typ == 1 || k.typ == 2

/-- The header and payload bytes of a packet (R288). -/
def pktBytes (k : TowPkt) : List Nat :=
  let h (i : Nat) : Nat := k.addr / 2 ^ (8 * i) % 256
  [k.typ % 16 + 16 * b2n k.sec, k.dst % 64, k.hops % 256, k.src % 64, k.tag % 256, k.len % 256]
    ++ (if pktAddressed k then [h 0, h 1, h 2, h 3] else [k.stat % 256, h 0, 0, 0]) ++ k.data.map BitVec.toNat

/-- Bytes as one number, the first most significant. -/
def bigValue (bs : List Nat) : Nat := bs.foldl (fun t b => 256 * t + b) 0

/-- The CRC of a packet (R158, R288). -/
def pktCrc (k : TowPkt) : Nat := crcBits (bigValue (pktBytes k)) (8 * (pktBytes k).length) 0xFFFF

/-- The characters of a packet. The end needs no K23.7: header, payload, CRC and the two delimiters are an even number of characters (R283). -/
def pktChars (k : TowPkt) : List TowChar :=
  .k 0xFB :: (pktBytes k).map TowChar.d ++ [.d (pktCrc k / 256), .d (pktCrc k), .k 0xFD]

end Sys2Proof.Machine
end

