-- ==== Sys2Proof/Machine/Flags.lean ====
section
/-! DEFINITION. Sys2Proof/Machine/Flags.lean: the results and flags of the Ecnak instructions (R197 to R199, R206, R210), and the branch conditions. -/

namespace Sys2Proof.Machine

/-- The status flags (R192). -/
structure Flags where
  n : Bool
  z : Bool
  c : Bool
  v : Bool
  deriving DecidableEq, Repr

/-- A result with the flags it leaves. -/
structure Res where
  val : Word
  fl  : Flags
  deriving DecidableEq, Repr

/-- N and Z of a result, C and V kept. -/
def resNZ (f : Flags) (v : Word) : Res := ⟨v, { f with n := v.msb, z := v == 0#32 }⟩

/-- The most negative and the largest signed word. -/
def minWord : Int := -2147483648
def maxWord : Int := 2147483647

/-- A signed value that no word holds. -/
def overflows (i : Int) : Bool := decide (i < minWord) || decide (maxWord < i)

/-- ADD: C is the carry out, V signed overflow. -/
def resAdd (a b : Word) : Res :=
  let v := a + b
  ⟨v, { n := v.msb, z := v == 0#32, c := decide (2 ^ 32 ≤ a.toNat + b.toNat), v := overflows (a.toInt + b.toInt) }⟩

/-- SUB: C is 1 when the first operand is not below the second, unsigned. -/
def resSub (a b : Word) : Res :=
  let v := a - b
  ⟨v, { n := v.msb, z := v == 0#32, c := decide (b.toNat ≤ a.toNat), v := overflows (a.toInt - b.toInt) }⟩

/-- SHL by k < 32: C is the last bit shifted out, unchanged for a shift of 0. -/
def resShl (f : Flags) (a : Word) (k : Nat) : Res := resNZ { f with c := if k = 0 then f.c else a.getLsbD (32 - k) } (a <<< k)

/-- SHR by k < 32. -/
def resShr (f : Flags) (a : Word) (k : Nat) : Res := resNZ { f with c := if k = 0 then f.c else a.getLsbD (k - 1) } (a >>> k)

/-- SAR by k < 32. -/
def resSar (f : Flags) (a : Word) (k : Nat) : Res := resNZ { f with c := if k = 0 then f.c else a.getLsbD (k - 1) } (a.sshiftRight k)

/-- MULH: the high word of the signed product. -/
def mulHigh (a b : Word) : Word := BitVec.ofInt 32 (a.toInt * b.toInt / 4294967296)

/-- MULHU: the high word of the unsigned product. -/
def mulHighU (a b : Word) : Word := BitVec.ofNat 32 (a.toNat * b.toNat / 4294967296)

/-- A saturated signed result: V is 1 when saturated, else 0. -/
def resSat (f : Flags) (i : Int) : Res := resNZ { f with v := overflows i } (BitVec.ofInt 32 (clampInt minWord maxWord i))

/-- A branch condition holds (R198): bits 2 to 0 select a base test, bit 3 inverts it. -/
def condHolds (cond : Nat) (f : Flags) : Bool :=
  let base := [true, f.z, f.n, f.c, f.v, f.c && !f.z, f.n == f.v, !f.z && f.n == f.v].getD (cond % 8) true
  base != bitAt cond 3

/-- A word sign-extended from 16 bits. -/
def sext16 (i : BitVec 16) : Word := i.signExtend 32

/-- A word zero-extended from 16 bits. -/
def zext16 (i : BitVec 16) : Word := i.setWidth 32

/-- A field of a bank word with a delta added, clamped to the field's range (R206): the new field and the flags. -/
def fieldUpdate (signed : Bool) (w fld : Nat) (delta : Int) (f : Flags) : Nat × Flags :=
  let old : Int := if signed then signedOf w fld else (fld : Int)
  let r := old + delta
  let s := if signed then clampInt (-((2 ^ (w - 1) : Nat) : Int)) ((2 ^ (w - 1) : Nat) - 1) r else clampInt 0 ((2 ^ w : Nat) - 1) r
  (codeOf w s, { f with n := decide (s < 0), z := s == 0, v := s != r })

end Sys2Proof.Machine
end

