-- ==== Sys2Proof/Machine/Operands.lean ====
section
/-! DEFINITION. Sys2Proof/Machine/Operands.lean: the operand forms of the Ecnak instructions: general registers, flags and program counters of a core, and the
control registers of the supervisor (R192, R193, R217 to R219). -/

namespace Sys2Proof.Machine

/-- A core's number in the register table: 48 is the supervisor. -/
def coreIdx : Core → Nat
  | .sup => 48
  | .ls n => n

/-- A general register as an operand. -/
def State.reg (s : State) (k : Core) (r : Nat) : Word := s.g (coreIdx k) r

/-- A general register written: g0 discards it. -/
def State.setReg (s : State) (k : Core) (r : Nat) (v : Word) : State := s.setG (coreIdx k) r v

/-! ## Control registers (R218, R219) -/

/-- A bit of a control register. -/
def State.cbit (s : State) (n i : Nat) : Bool := bitAt (s.creg n).toNat i

/-- A bit of a control register given a value. -/
def State.putCbit (s : State) (n i : Nat) (b : Bool) : State := s.setCreg n (setBits (s.creg n) i 1 (b2n b))

/-- The bits of PSR that are not reserved. -/
def psrMask : Word := 0xF000003F#32

/-- The key of a part of an MPU region: 0 BASE, 1 LIMIT, 2 ATTR (R220). -/
def mpuKey (region part : Nat) : Nat := 32 + 4 * region + part

/-! ## Flags and program counters -/

/-- The flags of a core: those of the supervisor stand in PSR (R219). -/
def State.flags (s : State) : Core → Flags
  | .sup => { n := s.cbit 0 31, z := s.cbit 0 30, c := s.cbit 0 29, v := s.cbit 0 28 }
  | .ls n => let q := s.seq n; { n := q.n, z := q.z, c := q.c, v := q.v }

def State.setFlags (s : State) (k : Core) (f : Flags) : State :=
  match k with
  | .sup => s.setCreg 0 (setBits (s.creg 0) 28 4 (b2n f.v + 2 * b2n f.c + 4 * b2n f.z + 8 * b2n f.n))
  | .ls n => s.setSeq n { s.seq n with n := f.n, z := f.z, c := f.c, v := f.v }

def State.pcOf (s : State) : Core → Word
  | .sup => s.sup.pc
  | .ls n => (s.seq n).pc

/-- The supervisor goes on at an address. A single step ends (R428). -/
def State.setSupPc (s : State) (pc : Word) : State := { s with sup := { s.sup with pc := pc, stepping := false } }

/-- An instruction of a core completes and the next stands at an address; it is counted (R386). -/
def State.setPc (s : State) (k : Core) (pc : Word) : State :=
  match k with
  | .sup => (s.setSupPc pc).tally ⟨4, 1, none, some s.levelWorld, some s.sup.pc.toNat, none⟩
  | .ls n => (s.setSeq n { s.seq n with pc := pc }).tally (.ofLane 6 n 1)

/-- The core runs an instruction now: the supervisor released and neither suspended, locked up nor halted, or stepping; a sequencer RUNNING with no commit
in its wait. -/
def State.coreOn (s : State) : Core → Bool
  | .sup => s.domOn 1 && s.sup.released && !s.sup.wfi && !s.sup.lockup && !s.sup.stall && (!s.sup.halted || s.sup.stepping)
  | .ls n => s.laneOn n && s.fld (F.LRX_SEQ_STAT_STATE n) == 1 && (s.seq n).cmt.isNone

/-- The next instruction in order. -/
def State.advance (s : State) (k : Core) : State := s.setPc k (s.pcOf k + 4#32)

/-- The master code that the core's accesses carry (R217). -/
def State.coreMaster (s : State) : Core → Master
  | .sup => if s.level = 0 then .supS else .supNS
  | .ls n => .ls n

end Sys2Proof.Machine
end

