-- ==== Sys2Proof/Machine/Cores.lean ====
section
/-! DEFINITION. Sys2Proof/Machine/Cores.lean: traps, interrupts and fetches of the Ecnak cores, and the supervisor's memory protection (R216, R217, R220 to
R228). -/

namespace Sys2Proof.Machine

/-! ## Traps (R222 to R224) -/

/-- The lane sequencer's trap (R216, R230): its record is filled and it stops in TRAPPED. -/
def State.seqTrap (s : State) (n cause detail : Nat) (epc tval : Word) : State :=
  let s := ((s.wr (R.LRX_SEQ_TRAP n) (BitVec.ofNat 32 (cause + 256 * detail))).wr (R.LRX_SEQ_TRAP_PC n) epc).wr (R.LRX_SEQ_TRAP_VAL n) tval
  let s := (s.wr (R.LRX_SEQ_PC n) epc).setSeq n { s.seq n with wait := none, byReset := false }
  ((s.setFld (F.LRX_SEQ_STAT_STATE n) 3).put (F.LRX_SEQ_EVENT_TRAP n) true).endSafe n

/-- Lockup (R228): no further fetch; class 1 of R408 with the trap's cause and the pc. -/
def State.lockUp (s : State) (cause : Nat) : State :=
  { s with sup := { s.sup with lockup := true, stepping := false } }.devRaise 1 false cause s.sup.pc.toNat

/-- Entry to the secure kernel (true) or the non-secure kernel (R224). -/
def State.enterTrap (s : State) (secure : Bool) (cause detail : Nat) (epc tval : Word) : State :=
  let base := if secure then 1 else 6
  let s := s.tally ⟨5, 1, none, some s.levelWorld, none, none⟩
  let s := (((s.setCreg base epc).setCreg (base + 1) (s.creg 0 &&& psrMask)).setCreg (base + 2) (BitVec.ofNat 32 (cause + 256 * detail))).setCreg
    (base + 3) tval
  let s := s.setCreg 0 (setBits (s.creg 0) 0 2 (if secure then 0 else 1))
  let s := if secure then (s.putCbit 0 4 true).putCbit 0 2 false else (s.putCbit 0 5 true).putCbit 0 3 false
  s.setSupPc ((if secure then 0x100#32 else s.creg 12) + BitVec.ofNat 32 (4 * cause))

/-- A synchronous trap of the supervisor routed (R223, R224): at SK, or where TRAP_ROUTE says so, to SK; else to NK. With TIP of the target set it is DOUBLE
to SK, or a lockup. -/
def State.supTrap (s : State) (cause detail : Nat) (epc tval : Word) : State :=
  let tipS := s.cbit 0 4
  if s.level = 0 || s.cbit 11 cause then
    if tipS then s.lockUp cause else s.enterTrap true cause detail epc tval
  else if s.cbit 0 5 then
    if tipS then s.lockUp 15 else s.enterTrap true 15 0 s.sup.pc (BitVec.ofNat 32 (cause + 256 * detail))
  else s.enterTrap false cause detail epc tval

/-- A synchronous trap of a core. -/
def State.trap (s : State) (k : Core) (cause detail : Nat) (epc tval : Word) : State :=
  match k with
  | .sup => s.supTrap cause detail epc tval
  | .ls n => s.seqTrap n cause detail epc tval

/-- ILLEGAL (R195): the trap value is the instruction word. -/
def State.illegal (s : State) (k : Core) (w : Word) : State := s.trap k 1 0 (s.pcOf k) w

/-- PRIV (R222). -/
def State.priv (s : State) (w : Word) : State := s.supTrap 2 0 s.sup.pc w

/-! ## Interrupts (R226, R227, R260) -/

/-- The secure request: the OR of RAW and S_EN. -/
def State.secureReq (s : State) : Bool := s.raw &&& s.pair R.IRQ_S_EN_LO != 0

/-- The non-secure request: the OR of RAW, NS_EN and not SECURE. -/
def State.nonSecureReq (s : State) : Bool := (s.raw &&& s.pair R.IRQ_NS_EN_LO) - (s.raw &&& s.pair R.IRQ_NS_EN_LO &&& s.pair R.IRQ_SECURE_LO) != 0

/-- The secure request can be taken now. -/
def State.takesSecure (s : State) : Bool := s.secureReq && (s.level != 0 || s.cbit 0 2)

/-- The non-secure request can be taken now. -/
def State.takesNonSecure (s : State) : Bool := s.nonSecureReq && s.level != 0 && s.cbit 0 3 && !s.takesSecure

/-- An interrupt taken between two instructions of a supervisor that is not halted. -/
def State.takeInterrupt (s : State) (secure : Bool) : State :=
  if s.coreOn .sup && !s.sup.halted then
    if secure then (if s.takesSecure then s.enterTrap true 13 0 s.sup.pc 0#32 else s)
    else if s.takesNonSecure then s.enterTrap false 14 0 s.sup.pc 0#32 else s
  else s

/-! ## Memory protection (R220, R221) -/

/-- The matching region of an address: the highest-numbered enabled one that contains it. -/
def State.mpuRegion (s : State) (a : Nat) : Option Nat :=
  (List.range 16).reverse.find? fun r =>
    s.cbit (mpuKey r 2) 0 && decide ((s.creg (mpuKey r 0)).toNat / 4096 ≤ a / 4096) && decide (a / 4096 ≤ (s.creg (mpuKey r 1)).toNat / 4096)

/-- Kinds of access: 0 read, 1 write, 2 fetch. -/
def State.mpuAllows (s : State) (lvl a kind : Nat) : Bool :=
  match s.mpuRegion a with
  | none => lvl == 0
  | some r =>
    let attr := mpuKey r 2
    if lvl = 0 then kind != 2 || !s.cbit attr 2
    else !s.cbit attr 1 && s.cbit attr ((if lvl = 1 then 3 else 6) + kind)

/-! ## Fetches (R203, R221) -/

/-- The fetch of a core's next instruction: the state after it, and the trap it raises as cause and detail. -/
def State.fetch (s : State) (k : Core) : State × Option (Nat × Nat) :=
  let pc := (s.pcOf k).toNat
  let read (a req : Nat) : State × Option (Nat × Nat) :=
    let x := s.memRead ⟨req, (s.coreMaster k).code⟩ a 4
    (x.1, match x.2.1 with
      | .done => none
      | .denied _ => some (4, 1)
      | .bad => some (5, 0))
  match k with
  | .sup =>
    if areaOf pc = some .rom ∨ areaOf pc = some .sup then (if s.mpuAllows s.level pc 2 then read pc 1 else (s, some (4, 0)))
    else (s, some (4, 3))
  | .ls n => if pc < 0x4000 then read (0x03000000 + n * 0x8000 + pc) 3 else (s, some (4, 3))

/-- INSTRUCTION_FETCH_TRAP: the next instruction's fetch traps. -/
def State.fetchTrap (s : State) (k : Core) : State :=
  if s.coreOn k then
    let x := s.fetch k
    match x.2 with
    | some (cause, detail) => x.1.trap k cause detail (s.pcOf k) (s.pcOf k)
    | none => s
  else s

end Sys2Proof.Machine
end

