-- ==== Sys2Proof/Machine/Ecnak.lean ====
section
/-! DEFINITION. Sys2Proof/Machine/Ecnak.lean: the base instructions of both profiles but for loads and stores, and those of the supervisor (R197 to R199, R218,
R225 to R227). A command stands for an instruction that its core has fetched; it acts while the core runs. -/

namespace Sys2Proof.Machine

/-! ## Base instructions -/

/-- An instruction that writes a register and the flags. -/
def State.runAlu (s : State) (k : Core) (d : Nat) (r : Res) : State :=
  if s.coreOn k then ((s.setReg k d r.val).setFlags k r.fl).advance k else s

/-- An instruction that sets flags only. -/
def State.runCmp (s : State) (k : Core) (r : Res) : State := if s.coreOn k then (s.setFlags k r.fl).advance k else s

/-- A shift amount in a register. -/
def amountOf (w : Word) : Nat := w.toNat % 32

/-- JALR (R199): the target is read before rd is written. -/
def State.runJalr (s : State) (k : Core) (d a : Nat) : State :=
  if s.coreOn k then
    let t := s.reg k a
    if t.toNat % 4 ≠ 0 then s.trap k 3 0 (s.pcOf k) t else (s.setReg k d (s.pcOf k + 4#32)).setPc k t
  else s

/-- B and BL (R198, R199): condition 0x8 is not assigned. -/
def State.runBranch (s : State) (k : Core) (cond : Nat) (off : BitVec 20) (link : Bool) : State :=
  if s.coreOn k then
    if cond = 8 then s.illegal k (wordB (if link then 0x21 else 0x20) cond off.toNat)
    else if condHolds cond (s.flags k) then
      let pc := s.pcOf k
      (if link then s.setReg k 15 (pc + 4#32) else s).setPc k (pc + 4#32 * off.signExtend 32)
    else s.advance k
  else s

/-! ## The supervisor's instructions -/

/-- ERET (R225). -/
def State.runEret (s : State) : State :=
  if s.coreOn .sup then
    if s.level = 0 then
      let s := s.setPc .sup (s.creg 1)
      (s.setCreg 0 (s.creg 2 &&& psrMask)).putCbit 0 4 false
    else if s.level = 1 ∧ bitsOf (s.creg 7).toNat 0 2 ≠ 0 then
      let keep := s.creg 0 &&& 0x14#32
      let s := s.setPc .sup (s.creg 6)
      (s.setCreg 0 ((s.creg 7 &&& 0xF000002B#32) ||| keep)).putCbit 0 5 false
    else s.priv (wordI 0x29 0 0 0)
  else s

/-- WFI (R227): it suspends the core while no request is pending. -/
def State.runWfi (s : State) : State :=
  if s.coreOn .sup then
    if 2 ≤ s.level then s.priv (wordI 0x2A 0 0 0)
    else
      let t := s.advance .sup
      { t with sup := { t.sup with wfi := !(s.secureReq || s.nonSecureReq) } }
  else s

/-- WFI_WAKE: a request of either world is pending. -/
def State.wakeWfi (s : State) : State :=
  if s.sup.wfi && (s.secureReq || s.nonSecureReq) then { s with sup := { s.sup with wfi := false } } else s

/-- A level's access to a control register (R218): 0 none (PRIV), 1 read only, 2 read and write; none for a reserved number. -/
def cregAccess (c lvl : Nat) : Option Nat :=
  if c = 0 then some 2
  else if c = 13 ∨ c = 21 ∨ c = 22 then some 1
  else if c ≤ 5 ∨ c = 11 ∨ 16 ≤ c ∧ c ≤ 19 then some (if lvl = 0 then 2 else 0)
  else if c ≤ 10 ∨ c = 12 then some (if lvl ≤ 1 then 2 else 0)
  else none

/-- The region that MPU_IDX selects. -/
def State.mpuIdx (s : State) : Nat := (s.creg 16).toNat % 16

/-- The value that a control register reads as. -/
def State.cregValue (s : State) (c : Nat) : Word :=
  if 17 ≤ c ∧ c ≤ 19 then s.creg (mpuKey s.mpuIdx (c - 17))
  else if c = 21 then BitVec.ofNat 32 s.tb.toNat
  else if c = 22 then s.tbHigh (if s.level = 0 then 1 else 2)
  else s.creg c

/-- A control register read into a register: TB_LO latches TB_HI for the level's master code (R328). -/
def State.movcIn (s : State) (d c : Nat) : State :=
  let v := s.cregValue c
  let s := if c = 21 then (s.tbLow (if s.level = 0 then 1 else 2)).1 else s
  s.setReg .sup d v

/-- The bits of PSR that a level may write (R219). -/
def psrWritable (lvl : Nat) : Word := if lvl = 0 then 0xF000003C#32 else if lvl = 1 then 0xF0000028#32 else 0xF0000000#32

/-- A control register written with the rights of a level (R218, R219). -/
def State.cregWriteAt (s : State) (lvl c : Nat) (v : Word) : State :=
  let m := psrWritable lvl
  if c = 0 then s.setCreg 0 ((s.creg 0 &&& ~~~m) ||| (v &&& m))
  else if c = 1 ∨ c = 6 then s.setCreg c (v &&& 0xFFFFFFFC#32)
  else if c = 2 ∨ c = 7 then s.setCreg c (v &&& psrMask)
  else if c = 3 ∨ c = 8 then s.setCreg c (v &&& 0xFFFF#32)
  else if c = 11 then s.setCreg c ((v ||| 0xA420#32) &&& 0xFFFFBFFF#32)
  else if c = 12 then s.setCreg c (v &&& 0xFFFFFF80#32)
  else if c = 13 ∨ c = 21 ∨ c = 22 then s
  else if c = 16 then s.setCreg c (v &&& 0xF#32)
  else if c = 17 ∨ c = 18 then s.setCreg (mpuKey s.mpuIdx (c - 17)) (v &&& 0xFFFFF000#32)
  else if c = 19 then s.setCreg (mpuKey s.mpuIdx 2) (v &&& 0x1FF#32)
  else s.setCreg c v

/-- A control register written by an instruction. -/
def State.cregWrite (s : State) (c : Nat) (v : Word) : State := s.cregWriteAt s.level c v

/-- MOVC in either form: ILLEGAL for a reserved number, PRIV where the level has no access. -/
def State.runMovc (s : State) (c : Nat) (w : Word) (f : State → State) : State :=
  if s.coreOn .sup then
    match cregAccess c s.level with
    | none => s.illegal .sup w
    | some 0 => s.priv w
    | some _ => (f s).advance .sup
  else s

/-! ## Commands -/

/-- ADD (R197). -/
def execAdd (k : Core) (d a b : Fin 16) (s : State) : Host.Outcome State Fault Refusal :=
  done (s.runAlu k d (resAdd (s.reg k a) (s.reg k b)))

/-- SUB (R197). -/
def execSub (k : Core) (d a b : Fin 16) (s : State) : Host.Outcome State Fault Refusal :=
  done (s.runAlu k d (resSub (s.reg k a) (s.reg k b)))

/-- AND (R197). -/
def execAnd (k : Core) (d a b : Fin 16) (s : State) : Host.Outcome State Fault Refusal :=
  done (s.runAlu k d (resNZ (s.flags k) (s.reg k a &&& s.reg k b)))

/-- OR (R197). -/
def execOr (k : Core) (d a b : Fin 16) (s : State) : Host.Outcome State Fault Refusal :=
  done (s.runAlu k d (resNZ (s.flags k) (s.reg k a ||| s.reg k b)))

/-- XOR (R197). -/
def execXor (k : Core) (d a b : Fin 16) (s : State) : Host.Outcome State Fault Refusal :=
  done (s.runAlu k d (resNZ (s.flags k) (s.reg k a ^^^ s.reg k b)))

/-- SHL (R197). -/
def execShl (k : Core) (d a b : Fin 16) (s : State) : Host.Outcome State Fault Refusal :=
  done (s.runAlu k d (resShl (s.flags k) (s.reg k a) (amountOf (s.reg k b))))

/-- SHR (R197). -/
def execShr (k : Core) (d a b : Fin 16) (s : State) : Host.Outcome State Fault Refusal :=
  done (s.runAlu k d (resShr (s.flags k) (s.reg k a) (amountOf (s.reg k b))))

/-- SAR (R197). -/
def execSar (k : Core) (d a b : Fin 16) (s : State) : Host.Outcome State Fault Refusal :=
  done (s.runAlu k d (resSar (s.flags k) (s.reg k a) (amountOf (s.reg k b))))

/-- MUL (R197). -/
def execMul (k : Core) (d a b : Fin 16) (s : State) : Host.Outcome State Fault Refusal :=
  done (s.runAlu k d (resNZ (s.flags k) (s.reg k a * s.reg k b)))

/-- MULH (R197). -/
def execMulh (k : Core) (d a b : Fin 16) (s : State) : Host.Outcome State Fault Refusal :=
  done (s.runAlu k d (resNZ (s.flags k) (mulHigh (s.reg k a) (s.reg k b))))

/-- MULHU (R197). -/
def execMulhu (k : Core) (d a b : Fin 16) (s : State) : Host.Outcome State Fault Refusal :=
  done (s.runAlu k d (resNZ (s.flags k) (mulHighU (s.reg k a) (s.reg k b))))

/-- CMP (R197). -/
def execCmp (k : Core) (a b : Fin 16) (s : State) : Host.Outcome State Fault Refusal :=
  done (s.runCmp k (resSub (s.reg k a) (s.reg k b)))

/-- MIN (R197). -/
def execMin (k : Core) (d a b : Fin 16) (s : State) : Host.Outcome State Fault Refusal :=
  done (s.runAlu k d (resNZ (s.flags k) (if (s.reg k a).slt (s.reg k b) then s.reg k a else s.reg k b)))

/-- MAX (R197). -/
def execMax (k : Core) (d a b : Fin 16) (s : State) : Host.Outcome State Fault Refusal :=
  done (s.runAlu k d (resNZ (s.flags k) (if (s.reg k a).slt (s.reg k b) then s.reg k b else s.reg k a)))

/-- ADDS (R197). -/
def execAdds (k : Core) (d a b : Fin 16) (s : State) : Host.Outcome State Fault Refusal :=
  done (s.runAlu k d (resSat (s.flags k) ((s.reg k a).toInt + (s.reg k b).toInt)))

/-- SUBS (R197). -/
def execSubs (k : Core) (d a b : Fin 16) (s : State) : Host.Outcome State Fault Refusal :=
  done (s.runAlu k d (resSat (s.flags k) ((s.reg k a).toInt - (s.reg k b).toInt)))

/-- JALR (R199). -/
def execJalr (k : Core) (d a : Fin 16) (s : State) : Host.Outcome State Fault Refusal := done (s.runJalr k d a)

/-- ADDI (R199). -/
def execAddi (k : Core) (d a : Fin 16) (imm : BitVec 16) (s : State) : Host.Outcome State Fault Refusal :=
  done (s.runAlu k d (resAdd (s.reg k a) (sext16 imm)))

/-- ANDI (R199). -/
def execAndi (k : Core) (d a : Fin 16) (imm : BitVec 16) (s : State) : Host.Outcome State Fault Refusal :=
  done (s.runAlu k d (resNZ (s.flags k) (s.reg k a &&& zext16 imm)))

/-- ORI (R199). -/
def execOri (k : Core) (d a : Fin 16) (imm : BitVec 16) (s : State) : Host.Outcome State Fault Refusal :=
  done (s.runAlu k d (resNZ (s.flags k) (s.reg k a ||| zext16 imm)))

/-- XORI (R199). -/
def execXori (k : Core) (d a : Fin 16) (imm : BitVec 16) (s : State) : Host.Outcome State Fault Refusal :=
  done (s.runAlu k d (resNZ (s.flags k) (s.reg k a ^^^ zext16 imm)))

/-- SHLI (R199). -/
def execShli (k : Core) (d a : Fin 16) (amt : Fin 32) (s : State) : Host.Outcome State Fault Refusal :=
  done (s.runAlu k d (resShl (s.flags k) (s.reg k a) amt))

/-- SHRI (R199). -/
def execShri (k : Core) (d a : Fin 16) (amt : Fin 32) (s : State) : Host.Outcome State Fault Refusal :=
  done (s.runAlu k d (resShr (s.flags k) (s.reg k a) amt))

/-- SARI (R199). -/
def execSari (k : Core) (d a : Fin 16) (amt : Fin 32) (s : State) : Host.Outcome State Fault Refusal :=
  done (s.runAlu k d (resSar (s.flags k) (s.reg k a) amt))

/-- LUI (R199): no flag. -/
def execLui (k : Core) (d : Fin 16) (imm : BitVec 16) (s : State) : Host.Outcome State Fault Refusal :=
  done (s.runAlu k d ⟨zext16 imm <<< 16, s.flags k⟩)

/-- CMPI (R199). -/
def execCmpi (k : Core) (a : Fin 16) (imm : BitVec 16) (s : State) : Host.Outcome State Fault Refusal :=
  done (s.runCmp k (resSub (s.reg k a) (sext16 imm)))

/-- B (R198, R199). -/
def execB (k : Core) (cond : Fin 16) (off : BitVec 20) (s : State) : Host.Outcome State Fault Refusal := done (s.runBranch k cond off false)

/-- BL (R198, R199). -/
def execBl (k : Core) (cond : Fin 16) (off : BitVec 20) (s : State) : Host.Outcome State Fault Refusal := done (s.runBranch k cond off true)

/-- SVC (R199): a trap whose EPC is the next instruction. -/
def execSvc (imm : BitVec 16) (s : State) : Host.Outcome State Fault Refusal :=
  done (if s.coreOn .sup then s.supTrap 12 0 (s.sup.pc + 4#32) (zext16 imm) else s)

/-- ERET (R225). -/
def execEret (s : State) : Host.Outcome State Fault Refusal := done s.runEret

/-- WFI (R227). -/
def execWfi (s : State) : Host.Outcome State Fault Refusal := done s.runWfi

/-- WFI_WAKE (R227). -/
def execWfiWake (s : State) : Host.Outcome State Fault Refusal := done s.wakeWfi

/-- ILLEGAL_INSTRUCTION (R195): the word at the pc is no instruction of the core. A word that is one takes no ILLEGAL trap: its own command runs it. -/
def execIllegalInstruction (k : Core) (w : Word) (s : State) : Host.Outcome State Fault Refusal :=
  done (if s.coreOn k && (instrOf k w).isNone then s.illegal k w else s)

/-- INTERRUPT_TAKEN (R226). -/
def execInterruptTaken (secure : Bool) (s : State) : Host.Outcome State Fault Refusal := done (s.takeInterrupt secure)

/-- MOVC_READ (R218). -/
def execMovcRead (d : Fin 16) (c : Fin 32) (s : State) : Host.Outcome State Fault Refusal :=
  done (s.runMovc c (wordI 0x38 d 0 c) fun s => s.movcIn d c)

/-- MOVC_WRITE (R218, R219). -/
def execMovcWrite (c : Fin 32) (a : Fin 16) (s : State) : Host.Outcome State Fault Refusal :=
  done (s.runMovc c (wordI 0x39 0 a c) fun s => s.cregWrite c (s.reg .sup a))

/-- INSTRUCTION_FETCH_TRAP (R203, R221). -/
def execInstructionFetchTrap (k : Core) (s : State) : Host.Outcome State Fault Refusal := done (s.fetchTrap k)

end Sys2Proof.Machine
end

