-- ==== Sys2Proof/Machine/LaneExt.lean ====
section
/-! DEFINITION. Sys2Proof/Machine/LaneExt.lean: the lane extensions of Ecnak-L and STOP (R205 to R216). -/

namespace Sys2Proof.Machine

/-- An instruction of lane sequencer n that runs: ILLEGAL where its encoding or the lane type does not have it (R195, R205), else its effect and the
next instruction. -/
def State.runExt (s : State) (n : Fin 48) (legal : Bool) (w : Word) (f : State → State) : State :=
  if s.coreOn (.ls n) then (if legal then (f s).advance (.ls n) else s.illegal (.ls n) w) else s

/-- N, Z and V of a statistics result, C kept (R210). -/
def State.statFlags (s : State) (n : Fin 48) (v : Word) (past : Bool) : State :=
  s.setFlags (.ls n) { s.flags (.ls n) with n := v.msb, z := v == 0#32, v := past }

/-! ## Coefficient banks (R206, R207) -/

/-- CUPD and CUPDU: one field of a shadow word. -/
def State.bankUpdate (s : State) (n : Fin 48) (signed : Bool) (w lo wd : Nat) (delta : Int) : State :=
  let x := fieldUpdate signed wd (bitsOf (s.shadowWord n w).toNat lo wd) delta (s.flags (.ls n))
  (s.setShadow n w (setBits (s.shadowWord n w) lo wd x.1)).setFlags (.ls n) x.2

/-- CUPD or CUPDU as encoded: the word index is taken from rd, the delta from ra. -/
def State.runUpdate (s : State) (n : Fin 48) (signed : Bool) (d a : Nat) (imm : BitVec 12) : State :=
  let i := imm.toNat
  let lo := 8 * bitsOf i 6 2
  let wd := bitsOf i 8 4 + 1
  s.runExt n (decide (lo + wd ≤ 32)) (wordX d a (if signed then 2 else 3) i) fun s =>
    s.bankUpdate n signed (((s.reg (.ls n) d).toNat + i % 64) % 64) lo wd (s.reg (.ls n) a).toInt

/-! ## Commit (R208, R209) -/

/-- CMT: refused at issue in a pause or without group boundaries, else it waits for its boundary. -/
def State.runCmt (s : State) (n : Fin 48) (d : Nat) (grp : Bool) : State :=
  if s.coreOn (.ls n) then (s.setSeq n { s.seq n with cmt := some (d, grp) }).cmtCheck n else s

/-! ## Statistics (R210) -/

/-- CSTART. -/
def State.runCstart (s : State) (n : Fin 48) (i : Nat) : State :=
  s.runExt n (hasCorr n && decide (i < 64)) (wordX 0 0 8 i) fun s =>
    (s.corrWrite n (BitVec.ofNat 32 (i % 32 + 2 ^ 7 * bitsOf i 5 1 + 2 ^ 8))).1

/-- CSGN. -/
def State.runCsgn (s : State) (n : Fin 48) (d a i : Nat) : State :=
  s.runExt n (hasCorr n && decide (i < 128)) (wordX d a 9 i) fun s =>
    let k := (s.reg (.ls n) a + BitVec.ofNat 32 i).toNat
    let inside := decide (k < if n.val < 8 then 66 else 13)
    let c := s.rd (if n.val < 8 then R.LRX_CORR n k else R.HRX_CORR n k)
    let v : Word := if !inside || c == 0#32 then 0#32 else if c.msb then 0xFFFFFFFF#32 else 1#32
    (s.setReg (.ls n) d v).statFlags n v !inside

/-- HSUM. -/
def State.runHsum (s : State) (n : Fin 48) (d a i : Nat) : State :=
  s.runExt n (hasCorr n && decide (i < 256)) (wordX d a 10 i) fun s =>
    let bins := if n.val < 8 then 256 else 64
    let b0 := (s.reg (.ls n) a).toNat
    let sum := (List.range (min (i + 1) (bins - b0))).foldl (fun t j =>
      t + (s.rd (if n.val < 8 then R.LRX_HIST n (b0 + j) else R.HRX_HIST n (b0 + j))).toNat) 0
    let v := BitVec.ofNat 32 (min sum 0xFFFFFFFF)
    (s.setReg (.ls n) d v).statFlags n v (decide (bins ≤ b0) || decide (0xFFFFFFFF < sum))

/-! ## Events (R211 to R213) -/

/-- The end of a WFE: the masked lines are consumed and returned. -/
def State.wfeEnd (s : State) (n : Fin 48) (d : Nat) (mask : Word) : State :=
  let got := s.rd (R.LRX_SEQ_EVT n) &&& mask
  let s := (s.wr (R.LRX_SEQ_EVT n) (s.rd (R.LRX_SEQ_EVT n) &&& ~~~got)).setReg (.ls n) d got
  (s.setFlags (.ls n) { s.flags (.ls n) with z := got == 0#32, n := got.msb }).advance (.ls n)

/-- WFE: it completes at once with a masked line set, or with mask 0 and no timeout; else the sequencer waits. -/
def State.runWfe (s : State) (n : Fin 48) (d a lim : Nat) : State :=
  if s.coreOn (.ls n) then
    let mask := s.reg (.ls n) a
    if s.rd (R.LRX_SEQ_EVT n) &&& mask ≠ 0#32 ∨ mask = 0#32 ∧ lim = 0 then s.wfeEnd n d mask
    else (s.setSeq n { s.seq n with wait := some ⟨d, mask, lim, s.clock⟩ }).setFld (F.LRX_SEQ_STAT_STATE n) 2
  else s

/-- The timeout of a waiting WFE expires. -/
def State.wfeExpire (s : State) (n : Fin 48) : State :=
  match (s.seq n).wait with
  | none => s
  | some w =>
    if w.lim = 0 then s
    else ((s.setSeq n { s.seq n with wait := none }).setFld (F.LRX_SEQ_STAT_STATE n) 1).wfeEnd n w.rd w.mask

/-! ## Mailbox (R215, R263) -/

/-- Z of a mailbox instruction; the other flags stay. -/
def State.zFlag (s : State) (n : Fin 48) (z : Bool) : State := s.setFlags (.ls n) { s.flags (.ls n) with z := z }

/-- MPOST. A post with tag 0x01 while HRXk is in ACQ is its program's ready (R263). -/
def State.runMpost (s : State) (n : Fin 48) (d a i : Nat) : State :=
  s.runExt n (i == 0) (wordX d a 0x18 i) fun s =>
    let hi := s.reg (.ls n) d
    let x := s.post (8 + n) (s.reg (.ls n) a) hi
    let ready := x.2 && bitsOf hi.toNat 16 8 == 1 && decide (16 ≤ n.val) && decide (n.val < 32) && s.fld (F.HRX_STATUS_STATE n) == 1
    let s := x.1.tally (s.masterEvent (if x.2 then 0x10 else 0x11) 7 none)
    (if ready then s.onLane n fun l => { l with ready := true } else s).zFlag n x.2

/-- MTAKE. -/
def State.runMtake (s : State) (n : Fin 48) (d a : Nat) : State :=
  s.runExt n (d != a || d == 0) (wordX d a 0x19 0) fun s =>
    let x := s.take (56 + n)
    match x.2 with
    | none => x.1.zFlag n false
    | some v => ((x.1.setReg (.ls n) d v.1).setReg (.ls n) a v.2).zFlag n true

/-! ## Commands -/

/-- CLD (R206). -/
def execCld (n : Fin 48) (d a : Fin 16) (imm : BitVec 12) (s : State) : Host.Outcome State Fault Refusal :=
  done (s.runExt n (bitsOf imm.toNat 6 5 == 0) (wordX d a 0 imm.toNat) fun s =>
    let w := ((s.reg (.ls n) a).toNat + imm.toNat % 64) % 64
    s.setReg (.ls n) d (if bitAt imm.toNat 11 then s.activeWord n w else s.shadowWord n w))

/-- CST (R206). -/
def execCst (n : Fin 48) (d a : Fin 16) (imm : BitVec 12) (s : State) : Host.Outcome State Fault Refusal :=
  done (s.runExt n (decide (imm.toNat < 64)) (wordX d a 1 imm.toNat) fun s =>
    s.setShadow n (((s.reg (.ls n) a).toNat + imm.toNat) % 64) (s.reg (.ls n) d))

/-- CUPD (R206, R207). -/
def execCupd (n : Fin 48) (d a : Fin 16) (imm : BitVec 12) (s : State) : Host.Outcome State Fault Refusal := done (s.runUpdate n true d a imm)

/-- CUPDU (R206, R207). -/
def execCupdu (n : Fin 48) (d a : Fin 16) (imm : BitVec 12) (s : State) : Host.Outcome State Fault Refusal := done (s.runUpdate n false d a imm)

/-- CMT (R208). -/
def execCmt (n : Fin 48) (d : Fin 16) (group : Bool) (s : State) : Host.Outcome State Fault Refusal := done (s.runCmt n d group)

/-- CSTART (R210). -/
def execCstart (n : Fin 48) (imm : BitVec 12) (s : State) : Host.Outcome State Fault Refusal := done (s.runCstart n imm.toNat)

/-- CSGN (R210). -/
def execCsgn (n : Fin 48) (d a : Fin 16) (imm : BitVec 12) (s : State) : Host.Outcome State Fault Refusal := done (s.runCsgn n d a imm.toNat)

/-- HSUM (R210). -/
def execHsum (n : Fin 48) (d a : Fin 16) (imm : BitVec 12) (s : State) : Host.Outcome State Fault Refusal := done (s.runHsum n d a imm.toNat)

/-- WFE (R212). -/
def execWfe (n : Fin 48) (d a : Fin 16) (imm : BitVec 12) (s : State) : Host.Outcome State Fault Refusal := done (s.runWfe n d a imm.toNat)

/-- WFE_RELEASE (R212). -/
def execWfeRelease (n : Fin 48) (s : State) : Host.Outcome State Fault Refusal := done (s.wfeRelease n)

/-- WFE_TIMEOUT (R212). -/
def execWfeTimeout (n : Fin 48) (s : State) : Host.Outcome State Fault Refusal := done (s.wfeExpire n)

/-- MPOST (R215, R263). -/
def execMpost (n : Fin 48) (d a : Fin 16) (imm : BitVec 12) (s : State) : Host.Outcome State Fault Refusal := done (s.runMpost n d a imm.toNat)

/-- MTAKE (R215). -/
def execMtake (n : Fin 48) (d a : Fin 16) (s : State) : Host.Outcome State Fault Refusal := done (s.runMtake n d a)

/-- STOP (R199, R230). -/
def execStop (n : Fin 48) (s : State) : Host.Outcome State Fault Refusal :=
  done (if s.coreOn (.ls n) then (s.advance (.ls n)).seqHalt n else s)

end Sys2Proof.Machine
end

