-- ==== Sys2Proof/Machine/Access.lean ====
section
/-! DEFINITION. Sys2Proof/Machine/Access.lean: what a read or a write of a register does by its access codes alone (R431, R436). -/

namespace Sys2Proof.Machine

/-- The width of a field. -/
def FieldSpec.width (f : FieldSpec) : Nat := f.hi - f.lo + 1

/-- One field of a register after a write of `v`. -/
def writeField (v : Nat) (w : Word) (f : FieldSpec) : Word :=
  let new := bitsOf v f.lo f.width
  let old := bitsOf w.toNat f.lo f.width
  match f.acc with
  | .rw => setBits w f.lo f.width new
  | .w1c => setBits w f.lo f.width (old - (old &&& new))
  | .w1s => setBits w f.lo f.width (old ||| new)
  | .ro | .rc | .wo | .act => w

/-- One field of a register as a read returns it. -/
def readField (w : Word) (f : FieldSpec) : Word :=
  match f.acc with
  | .wo | .act => setBits w f.lo f.width 0
  | .rw | .ro | .rc | .w1c | .w1s => w

/-- One field of a register after a read. -/
def clearField (w : Word) (f : FieldSpec) : Word :=
  match f.acc with
  | .rc => setBits w f.lo f.width 0
  | .rw | .ro | .wo | .act | .w1c | .w1s => w

/-- The fields of the register at a local address: none where no register is listed (R431). -/
def fieldsAt (a : Nat) : List FieldSpec :=
  match locate a with
  | none => []
  | some p =>
    match rowAt p with
    | none => []
    | some r => r.fields

/-- A write of a register by its access codes: an offset that is not listed ignores it. -/
def State.plainWrite (s : State) (a : Nat) (v : Word) : State :=
  match fieldsAt a with
  | [] => s
  | fs => s.wr a (fs.foldl (writeField v.toNat) (s.rd a))

/-- A read of a register by its access codes: an offset that is not listed reads as 0. -/
def State.plainRead (s : State) (a : Nat) : State × Word :=
  match fieldsAt a with
  | [] => (s, 0#32)
  | fs => (s.wr a (fs.foldl clearField (s.rd a)), fs.foldl readField (s.rd a))

/-- The requester of a memory access by a bus master (R355): its code of LOG_INFO.REQ. -/
def busReader (m : Master) : Reader :=
  match m with
  | .supS | .supNS => ⟨2, m.code⟩
  | .hostS | .hostNS => ⟨6, m.code⟩
  | .smp => ⟨7, m.code⟩
  | .tow _ => ⟨8, m.code⟩
  | .ls _ => ⟨4, m.code⟩

/-- A write decided only for masters of the given codes. -/
def State.only (s : State) (m : Master) (codes : List Nat) (f : State → State × Resp) : State × Resp :=
  if codes.contains m.code then f s else (s, .err 2)

end Sys2Proof.Machine
end

