-- ==== Sys2Proof/Machine/Sequencer.lean ====
section
/-! DEFINITION. Sys2Proof/Machine/Sequencer.lean: the control of the lane sequencers and the loading of their programs (R230 to R240, R465 to R467). -/

namespace Sys2Proof.Machine

/-! ## Commands of SEQ_CTL (R232, R238, R465) -/

/-- A refused command: 1 master, 2 state, 3 not loaded, 4 lane off or out of service, 5 image changed. -/
def State.seqRefuse (s : State) (n reason : Nat) : State :=
  (s.setFld (F.LRX_SEQ_STAT_REASON n) reason).put (F.LRX_SEQ_EVENT_CMD_REFUSED n) true

/-- Why START is refused, 0 for not. -/
def State.startRefusal (s : State) (n : Nat) : Nat :=
  if !s.seqStopped n then 2 else if !s.is (F.LRX_SEQ_STAT_LOADED n) then 3 else if !s.laneOn n || s.oos n then 4 else 0

/-- Why RESUME is refused, 0 for not. -/
def State.resumeRefusal (s : State) (n : Nat) : Nat :=
  if s.fld (F.LRX_SEQ_STAT_STATE n) ≠ 0 ∨ (s.seq n).byReset then 2
  else if s.is (F.LRX_SEQ_STAT_IMEM_DIRTY n) then 5
  else if !s.laneOn n || s.oos n then 4 else 0

/-- One command of SEQ_CTL by its bit: 0 START, 1 STOP, 2 RESUME, 3 SAFE, 4 LOADED; false when refused. -/
def State.seqCommand (s : State) (n bit : Nat) : State × Bool :=
  let no (r : Nat) : State × Bool := (s.seqRefuse n r, false)
  if bit = 0 then
    let r := s.startRefusal n
    if r = 0 then (s.seqLaunch n, true) else no r
  else if bit = 1 then (s.seqHalt n, true)
  else if bit = 2 then
    let r := s.resumeRefusal n
    if r = 0 then
      ((s.setSeq n { s.seq n with pc := s.rd (R.LRX_SEQ_PC n) }).setFld (F.LRX_SEQ_STAT_STATE n) 1, true)
    else no r
  else if bit = 3 then
    if s.seqStopped n || s.is (F.LRX_SEQ_STAT_SAFE_PEND n) then (s, true)
    else (((s.line n 20).put (F.LRX_SEQ_STAT_SAFE_PEND n) true).setSeq n { s.seq n with safeAt := s.clock }, true)
  else if s.seqStopped n then (s.put (F.LRX_SEQ_STAT_LOADED n) true, true) else no 2

/-- A write of SEQ_CTL: the commands in the order LOADED, STOP, SAFE, START, RESUME, each on the state that the one before it left (R465). -/
def State.seqCtl (s : State) (m : Master) (n : Nat) (v : Word) : State × Resp :=
  let bits := [4, 1, 3, 0, 2].filter fun b => bitAt v.toNat b
  if m.code ≠ 1 ∧ m.code ≠ 3 then (if bits.isEmpty then s else s.seqRefuse n 1, .err 2)
  else
    let x := bits.foldl (fun x b =>
      let y := x.1.seqCommand n b
      (y.1, x.2 && y.2)) (s, true)
    (x.1, if x.2 then .ok else .err 1)

/-- SAFE_TIMEOUT: the sequencer stops as for a STOP command (R238). -/
def State.safeExpire (s : State) (n : Nat) : State :=
  if s.is (F.LRX_SEQ_STAT_SAFE_PEND n) then (s.seqHalt n).put (F.LRX_SEQ_EVENT_SAFE_FORCED n) true else s

/-- A write of SEQ_EVT_SET (R240). -/
def State.evtSet (s : State) (m : Master) (n : Nat) (v : Word) : State × Resp :=
  s.only m [1, 3] fun s => (each ((List.range 32).filter fun i => decide (24 ≤ i) && bitAt v.toNat i) (fun i s => s.line n i) s, .ok)

/-- A write of a sequencer register at an offset from 0xC00 to 0xCFF (R234, R436, R466). -/
def State.seqWrite (s : State) (m : Master) (n off : Nat) (v : Word) : State × Resp :=
  if off = 0xC00 then s.seqCtl m n v
  else if m.code = 7 then (s, .err 1)
  else if off = 0xC28 then s.evtSet m n v
  else if off = 0xC08 ∨ off = 0xC0C ∨ off = 0xC10 ∨ off = 0xC2C ∨ off = 0xC30 then
    s.only m [1, 3] fun s => (s.plainWrite (laneBase n + off) v, .ok)
  else (s, .ok)

/-! ## Sequencer memories (R235 to R237, R467) -/

/-- An accepted write of instruction memory clears LOADED and sets IMEM_DIRTY (R235). -/
def State.imemTouched (s : State) (n : Nat) : State := (s.put (F.LRX_SEQ_STAT_LOADED n) false).put (F.LRX_SEQ_STAT_IMEM_DIRTY n) true

/-- A write through sequencer n's window at an offset by a master other than its own sequencer. -/
def State.windowWrite (s : State) (m : Master) (r : Reader) (n off : Nat) (bs : List (Option (BitVec 8))) : State × MemRes :=
  let a := 0x03000000 + n * 0x8000 + off
  if !s.laneOn n then (s, .denied 6)
  else if off < 0x4000 then
    if m.code ≠ 1 then (s, .denied 2)
    else if !s.seqStopped n then (s, .denied 1)
    else
      let x := s.memWrite r a bs
      (match x.2 with
        | .denied _ => x.1
        | .done | .bad => x.1.imemTouched n, x.2)
  else if off < 0x6000 then (if m.code = 1 ∨ m.code = 3 then s.memWrite r a bs else (s, .denied 2))
  else (s, .denied 3)

/-- A read through sequencer n's window by a master other than its own sequencer. -/
def State.windowRead (s : State) (m : Master) (r : Reader) (n off len : Nat) : State × MemRes × List (BitVec 8) :=
  let a := 0x03000000 + n * 0x8000 + off
  if !s.laneOn n then (s, .denied 6, [])
  else if off < 0x4000 then (if m.code = 1 then s.memRead r a len else (s, .denied 2, []))
  else if off < 0x6000 then (if m.code = 1 ∨ m.code = 3 then s.memRead r a len else (s, .denied 2, []))
  else (s, .denied 3, [])

/-- The lanes of a broadcast window: 0 LRX, 1 LTX, 2 HRX, 3 HTX. -/
def lanesOfType (t : Nat) : List Nat := if t = 0 then lrxLanes else if t = 1 then ltxLanes else if t = 2 then hrxLanes else htxLanes

/-- The worse of two results of a write to several memories. -/
def MemRes.join : MemRes → MemRes → MemRes
  | .done, x => x
  | x, _ => x

/-- A write of the broadcast window of lane type t at an offset (R237). -/
def State.broadcast (s : State) (m : Master) (r : Reader) (t off : Nat) (bs : List (Option (BitVec 8))) : State × MemRes :=
  if m.code ≠ 1 then (s, .denied 2)
  else if 0x6000 ≤ off then (s, .denied 1)
  else
    let lanes := (lanesOfType t).filter fun n => s.laneOn n && s.seqStopped n
    lanes.foldl (fun x n =>
      let y := x.1.memWrite r (0x03000000 + n * 0x8000 + off) bs
      (match y.2 with
        | .denied _ => y.1
        | .done | .bad => y.1.imemTouched n, x.2.join y.2)) (s, .done)

/-- The low bytes of a word that an access of a size carries. -/
def sizeBytes (z : Size) (v : Word) : List (Option (BitVec 8)) :=
  (leBytes (match z with | .byte => 1 | .half => 2 | .word => 4) v.toNat).map some

/-! ## Commands -/

/-- SEQ_START (R230, R232). -/
def execSeqStart (m : Master) (n : Fin 48) (s : State) : Host.Outcome State Fault Refusal := done (s.via (R.LRX_SEQ_CTL n) m fun s => s.seqCtl m n 1#32)

/-- SEQ_RESUME (R230, R232). -/
def execSeqResume (m : Master) (n : Fin 48) (s : State) : Host.Outcome State Fault Refusal := done (s.via (R.LRX_SEQ_CTL n) m fun s => s.seqCtl m n 4#32)

/-- SEQ_STOP (R230, R232). -/
def execSeqStop (m : Master) (n : Fin 48) (s : State) : Host.Outcome State Fault Refusal := done (s.via (R.LRX_SEQ_CTL n) m fun s => s.seqCtl m n 2#32)

/-- SEQ_SAFE (R238). -/
def execSeqSafe (m : Master) (n : Fin 48) (s : State) : Host.Outcome State Fault Refusal := done (s.via (R.LRX_SEQ_CTL n) m fun s => s.seqCtl m n 8#32)

/-- SEQ_LOADED (R232). -/
def execSeqLoaded (m : Master) (n : Fin 48) (s : State) : Host.Outcome State Fault Refusal := done (s.via (R.LRX_SEQ_CTL n) m fun s => s.seqCtl m n 16#32)

/-- SAFE_TIMEOUT (R238). -/
def execSafeTimeout (n : Fin 48) (s : State) : Host.Outcome State Fault Refusal := done (s.safeExpire n)

/-- IMEM_WRITE (R235): a word of instruction memory. -/
def execImemWrite (m : Master) (n : Fin 48) (w : Fin 4096) (v : Word) (s : State) : Host.Outcome State Fault Refusal :=
  let x := s.windowWrite m (busReader m) n (4 * w) (sizeBytes .word v)
  done (answer m (x.1.busTally m (0x03000000 + n * 0x8000 + 4 * w) x.2.resp, x.2.resp))

/-- BROADCAST_WRITE (R237). -/
def execBroadcastWrite (m : Master) (t : Fin 4) (off : Fin 32768) (size : Size) (v : Word) (s : State) : Host.Outcome State Fault Refusal :=
  let x := s.broadcast m (busReader m) t off (sizeBytes size v)
  done (answer m (x.1.busTally m (0x03200000 + t * 0x8000 + off) x.2.resp, x.2.resp))

/-- SEQ_EVT_SET (R240). -/
def execSeqEvtSet (m : Master) (n : Fin 48) (v : Word) (s : State) : Host.Outcome State Fault Refusal :=
  done (s.via (R.LRX_SEQ_EVT_SET n) m fun s => if m.code = 7 then (s, .err 1) else s.evtSet m n v)

end Sys2Proof.Machine
end

