-- ==== Sys2Proof/Machine/Mailbox.lean ====
section
/-! DEFINITION. Sys2Proof/Machine/Mailbox.lean: mailbox channels and semaphores as masters use them through the MBOX block, and the IRQ block (R243 to R261,
R265, R266). -/

namespace Sys2Proof.Machine

/-! ## Refused accesses (R250, R256, R258) -/

/-- A refused access recorded in ACC_LOG. -/
def State.accLog (s : State) (m : Master) (sem : Bool) (i : Nat) : State :=
  (((s.setFld F.MBOX_ACC_LOG_INDEX i).put F.MBOX_ACC_LOG_KIND sem).setFld F.MBOX_ACC_LOG_MASTER m.holder).bump F.MBOX_ACC_LOG_COUNT 1

/-! ## Channels (R246 to R250) -/

/-- Channels 6 and 7 are reserved: they read as 0 and ignore writes. -/
def chanReserved (c : Nat) : Bool := c == 6 || c == 7

def mayPost (m : Master) (c : Nat) : Bool := (chanSenders c).contains m.code
def mayTake (m : Master) (c : Nat) : Bool := (chanReceivers c).contains m.code

/-- A write of CH_LO: the sender's pointer is staged. -/
def State.stage (s : State) (m : Master) (c : Nat) (v : Word) : State × Resp :=
  if chanReserved c then (s, .ok)
  else if mayPost m c then (s.setChan c { s.chan c with staged := v }, .ok)
  else (s.accLog m false c, .err 2)

/-- A write of CH_HI: the sender's notice is posted, or refused on a full channel. -/
def State.postHi (s : State) (m : Master) (c : Nat) (v : Word) : State × Resp :=
  if chanReserved c then (s, .ok)
  else if mayPost m c then
    let x := s.post c (s.chan c).staged v
    (x.1.tally (s.masterEvent (if x.2 then 0x10 else 0x11) m.code none), if x.2 then .ok else .err 1)
  else (s.accLog m false c, .err 2)

/-- A read of CH_LO: the receiver takes the oldest notice, and its high word is latched; an empty channel gives 0 and latches 0. The sender sees what it staged. -/
def State.takeLo (s : State) (m : Master) (c : Nat) : State × Resp × Word :=
  if chanReserved c then (s, .ok, 0#32)
  else if mayTake m c then
    let x := s.take c
    match x.2 with
    | none => (s.setChan c { s.chan c with latch := 0#32 }, .ok, 0#32)
    | some v => (x.1.setChan c { x.1.chan c with latch := v.2 }, .ok, v.1)
  else if mayPost m c then (s, .ok, (s.chan c).staged)
  else (s.accLog m false c, .err 2, 0#32)

/-- A read of CH_HI: the latched word. -/
def State.readHi (s : State) (m : Master) (c : Nat) : State × Resp × Word :=
  if chanReserved c then (s, .ok, 0#32)
  else if mayTake m c || mayPost m c then (s, .ok, (s.chan c).latch)
  else (s.accLog m false c, .err 2, 0#32)

/-- A read of CH_STAT: by the parties and by 0x1. -/
def State.readChStat (s : State) (m : Master) (c : Nat) : State × Resp × Word :=
  if chanReserved c then (s, .ok, 0#32)
  else if mayTake m c || mayPost m c || m.code == 1 then
    (s, .ok, setBits (s.rd (R.MBOX_CH_STAT c)) 0 3 (s.chan c).q.length)
  else (s.accLog m false c, .err 2, 0#32)

/-- A party of a channel, or 0x1: the masters that clear its ARRIVE, SPACE and SRESET bits. -/
def mayClear (m : Master) (c : Nat) : Bool := m.code == 1 || mayPost m c || mayTake m c

/-- A write of word w of ARRIVE, SPACE or SRESET. -/
def State.clearEvents (s : State) (m : Master) (a w : Nat) (v : Word) : State × Resp :=
  (s.plainWrite a (BitVec.ofNat 32 ((List.range 32).foldl (fun t i =>
    if bitAt v.toNat i && decide (32 * w + i < 104) && mayClear m (32 * w + i) then t + 2 ^ i else t) 0)), .ok)

/-- Word w of NONEMPTY. -/
def State.nonEmpty (s : State) (w : Nat) : Word :=
  BitVec.ofNat 32 ((List.range 32).foldl (fun t i => if (s.chan (32 * w + i)).q.isEmpty then t else t + 2 ^ i) 0)

/-- A write of RESET_DECL (R251): each bit from its own party. -/
def State.resetDecl (s : State) (m : Master) (v : Word) : State × Resp :=
  let mine := if m.code = 3 then 1 else if m.code = 4 then 2 else if m.code = 5 then 4 else 0
  let s := if bitAt v.toNat 0 && mine == 1 then s.partyReset 0 1
    else if bitAt v.toNat 1 && mine == 2 then s.partyReset 2 3
    else if bitAt v.toNat 2 && mine == 4 then s.partyReset 4 5
    else s
  (s, if v.toNat % 8 - (v.toNat % 8 &&& mine) = 0 then .ok else .err 2)

/-! ## Semaphores (R256 to R258) -/

/-- A master permitted to read semaphore i. -/
def maySem (m : Master) (i : Nat) : Bool :=
  if i < 16 then m.code == 1 || m.code == 3 else decide (1 ≤ m.code) && decide (m.code ≤ 5)

/-- A read of SEM[i]. -/
def State.semRead (s : State) (m : Master) (i : Nat) : State × Resp × Word :=
  if !maySem m i then (s.accLog m true i, .err 2, 1#32)
  else if s.is (F.MBOX_SEM_HELD i) then (s, .ok, s.rd (R.MBOX_SEM i))
  else (s.wr (R.MBOX_SEM i) (BitVec.ofNat 32 (1 + 2 * b2n m.secBit + 16 * m.holder)), .ok, 0#32)

/-- A write of SEM[i]: HELD = 0 from the holder or from 0x1 releases it; HELD = 1 is ignored. -/
def State.semWrite (s : State) (m : Master) (i : Nat) (v : Word) : State × Resp :=
  if bitAt v.toNat 0 then (s, .ok)
  else if m.holder == 1 || s.is (F.MBOX_SEM_HELD i) && m.holder == s.fld (F.MBOX_SEM_HOLDER i) && m.secBit == s.is (F.MBOX_SEM_HOLDER_SEC i) then
    (s.wr (R.MBOX_SEM i) 0#32, .ok)
  else (s.accLog m true i, .err 2)

/-- SEM_VIEW. -/
def State.semView (s : State) : Word :=
  BitVec.ofNat 32 ((List.range 32).foldl (fun t i => if s.is (F.MBOX_SEM_HELD i) then t + 2 ^ i else t) 0)

/-- A write of a register of the MBOX block at an offset. -/
def State.mboxWrite (s : State) (m : Master) (off : Nat) (v : Word) : State × Resp :=
  if off < 0x680 then
    let c := off / 16
    if off % 16 = 0 then s.stage m c v
    else if off % 16 = 4 then s.postHi m c v
    else if off % 16 = 12 then (s, .ok)
    else if chanReserved c || mayClear m c then (s, .ok)
    else (s.accLog m false c, .err 2)
  else if 0x800 ≤ off ∧ off < 0x830 then s.clearEvents m (0x0400B000 + off) (off % 16 / 4) v
  else if off = 0x844 then s.resetDecl m v
  else if 0x900 ≤ off ∧ off < 0x980 then s.semWrite m ((off - 0x900) / 4) v
  else (s, .ok)

/-- A read of a register of the MBOX block at an offset. -/
def State.mboxRead (s : State) (m : Master) (off : Nat) : State × Resp × Word :=
  if off < 0x680 then
    let c := off / 16
    if off % 16 = 0 then s.takeLo m c
    else if off % 16 = 4 then s.readHi m c
    else if off % 16 = 8 then s.readChStat m c
    else (s, .ok, 0#32)
  else if 0x830 ≤ off ∧ off < 0x840 then (s, .ok, s.nonEmpty (off % 16 / 4))
  else if off = 0x980 then (s, .ok, s.semView)
  else if 0x900 ≤ off ∧ off < 0x980 then s.semRead m ((off - 0x900) / 4)
  else
    let x := s.plainRead (0x0400B000 + off)
    (x.1, .ok, x.2)

/-! ## The IRQ block (R244, R259 to R261, R266) -/

/-- The masters that write a pair of IRQ enable registers. -/
def irqWriters (off : Nat) : List Nat :=
  if off = 0x008 ∨ off = 0x00C ∨ off = 0x010 ∨ off = 0x014 then [1]
  else if off = 0x018 ∨ off = 0x01C then [1, 2]
  else if off = 0x020 ∨ off = 0x024 then [1, 3]
  else [1, 5]

/-- HOST_EOI: vector v is ended; its condition is judged anew at the end of the command (R261). -/
def State.hostEoi (s : State) (v : Nat) : State := s.putPairBit R.IRQ_HOST_INSERV_LO (v % 64) false

/-- A write of a register of the IRQ block at an offset. -/
def State.irqWrite (s : State) (m : Master) (off : Nat) (v : Word) : State × Resp :=
  if 0x008 ≤ off ∧ off < 0x030 then s.only m (irqWriters off) fun s => (s.plainWrite (0x0400C000 + off) v, .ok)
  else if off = 0x038 then (s.hostEoi v.toNat, .ok)
  else if off = 0x03C then (s.wr R.IRQ_SOFT_SET (s.rd R.IRQ_SOFT_SET ||| v), .ok)
  else if off = 0x040 then (s.wr R.IRQ_SOFT_SET (s.rd R.IRQ_SOFT_SET &&& ~~~v), .ok)
  else (s, .ok)

/-- A register of the IRQ block as read. -/
def State.irqRead (s : State) (off : Nat) : State × Resp × Word :=
  if off = 0x000 then (s, .ok, BitVec.ofNat 32 s.raw)
  else if off = 0x004 then (s, .ok, BitVec.ofNat 32 (s.raw / 2 ^ 32))
  else if off = 0x040 then (s, .ok, s.rd R.IRQ_SOFT_SET)
  else
    let x := s.plainRead (0x0400C000 + off)
    (x.1, .ok, x.2)

/-! ## Commands -/

/-- MAILBOX_POST (R247, R249, R250). -/
def execMailboxPost (m : Master) (c : Fin 104) (v : Word) (s : State) : Host.Outcome State Fault Refusal :=
  done (s.via (R.MBOX_CH_HI c) m fun s => s.postHi m c v)

/-- MAILBOX_TAKE (R248 to R250). -/
def execMailboxTake (m : Master) (c : Fin 104) (s : State) : Host.Outcome State Fault Refusal := done (s.viaRead (R.MBOX_CH_LO c) m fun s => s.takeLo m c)

/-- RESET_DECL (R251 to R253). -/
def execResetDecl (m : Master) (v : Word) (s : State) : Host.Outcome State Fault Refusal := done (s.via R.MBOX_RESET_DECL m fun s => s.resetDecl m v)

/-- SEMAPHORE_READ (R256, R257). -/
def execSemaphoreRead (m : Master) (i : Fin 32) (s : State) : Host.Outcome State Fault Refusal := done (s.viaRead (R.MBOX_SEM i) m fun s => s.semRead m i)

/-- SEMAPHORE_RELEASE (R258). -/
def execSemaphoreRelease (m : Master) (i : Fin 32) (s : State) : Host.Outcome State Fault Refusal :=
  done (s.via (R.MBOX_SEM i) m fun s => s.semWrite m i 0#32)

/-- HOST_EOI (R261). -/
def execHostEoi (m : Master) (v : Fin 64) (s : State) : Host.Outcome State Fault Refusal := done (s.via R.IRQ_HOST_EOI m fun s => (s.hostEoi v, .ok))

/-- SOFT_SET (R266). -/
def execSoftSet (m : Master) (v : Word) (s : State) : Host.Outcome State Fault Refusal := done (s.via R.IRQ_SOFT_SET m fun s => s.irqWrite m 0x03C v)

/-- SOFT_CLR (R266). -/
def execSoftClr (m : Master) (v : Word) (s : State) : Host.Outcome State Fault Refusal := done (s.via R.IRQ_SOFT_CLR m fun s => s.irqWrite m 0x040 v)

end Sys2Proof.Machine
end

