-- ==== Sys2Proof/Machine/Counters.lean ====
section
/-! DEFINITION. Sys2Proof/Machine/Counters.lean: reading, loading, freezing and configuring the performance counters, and bandwidth windows (R388 to R396,
R398). What counts an event is in Sys2Proof/Machine/Ops.lean. -/

namespace Sys2Proof.Machine

/-- A refused write: of counter i, or 31 for a global register (R388). -/
def State.perfRefuse (s : State) (m : Master) (i : Nat) : State × Resp :=
  (((((s.setFld F.PERF_REFUSE_CNT i).setFld F.PERF_REFUSE_MASTER m.holder).bump F.PERF_REFUSE_COUNT 1).put F.PERF_EVENT_CFG_REFUSED true), .err 2)

/-- The master may write the registers of counter i. -/
def mayCount (m : Master) (i : Nat) : Bool := m.code == 1 || m.code == 3 || decide (16 ≤ i) && (m.code == 2 || m.code == 4)

/-- A write of a global register: from 0x1 and 0x3. -/
def State.perfGlobal (s : State) (m : Master) (f : State → State) : State × Resp :=
  if m.code = 1 ∨ m.code = 3 then (f s, .ok) else s.perfRefuse m 31

/-- The register of counter i at an offset with the bits that a write may hold: class bits 7 to 5 are reserved in the native persona, and bit 0 of the filter's PRIV
is fixed 0 for counters 16 to 31. -/
def State.perfMasked (s : State) (i off : Nat) (v : Word) : Word :=
  if off = 0x00 ∧ !s.is F.MODE_PERSONA_ACTIVE then v &&& 0xFFFFFF1F#32
  else if off = 0x0C ∧ 16 ≤ i then v &&& 0xFFFFFEFF#32
  else v

/-- Configuration of counter i at offset `off` of its registers: refused where it would change CLASS or a filter while the counter is enabled (R389). -/
def State.perfConfig (s : State) (m : Master) (i off : Nat) (v : Word) : State × Resp :=
  let a := R.PERF_CNT_CTL i + off
  if !mayCount m i then s.perfRefuse m i
  else
    let t := s.plainWrite a (s.perfMasked i off v)
    let changes := if off = 0 then t.fld (F.PERF_CNT_CTL_CLASS i) != s.fld (F.PERF_CNT_CTL_CLASS i) else t.rd a != s.rd a
    if s.is (F.PERF_CNT_CTL_EN i) && changes then s.perfRefuse m i else (t, .ok)

/-- A write of CNT_LO[i]: staged. -/
def State.counterStage (s : State) (m : Master) (i : Nat) (v : Word) : State × Resp :=
  if mayCount m i then ({ s with perf := { s.perf with staged := tabPut (fun _ => 0#32) s.perf.staged i v } }, .ok) else s.perfRefuse m i

/-- A write of CNT_HI[i]: the counter is loaded with it and the staged low word. -/
def State.counterLoad (s : State) (m : Master) (i : Nat) (hi : Word) : State × Resp :=
  if mayCount m i then
    (s.setCounter i ((tabGet (fun _ => 0#32) s.perf.staged i).toNat + 2 ^ 32 * (hi.toNat % 65536)), .ok)
  else s.perfRefuse m i

/-- The key under which bits 47 to 32 of counter i are latched for a reader. -/
def countKey (i k : Nat) : Nat := 64 * (i + 1) + k

/-- A read of CNT_LO[i] for the reader of key k. -/
def State.counterLow (s : State) (i k : Nat) : State × Word :=
  ({ s with latch := tabPut (fun _ => 0#32) s.latch (countKey i k) (s.rd (R.PERF_CNT_HI i)) }, s.rd (R.PERF_CNT_LO i))

/-- A read of CNT_HI[i]: what the reader latched. -/
def State.counterHigh (s : State) (i k : Nat) : Word := tabGet (fun _ => 0#32) s.latch (countKey i k)

/-- A snapshot of all counters, at a tick boundary (R393). -/
def State.snapshot (s : State) : State :=
  let s := each (List.range 32) (fun i s =>
    (s.wr (R.PERF_SNAP_LO i) (s.rd (R.PERF_CNT_LO i))).wr (R.PERF_SNAP_HI i) (s.rd (R.PERF_CNT_HI i))) s
  let s := (s.setFld F.PERF_SNAP_TS_LO_TICK s.tb.toNat).setFld F.PERF_SNAP_TS_HI_TICK (s.tb.toNat / 2 ^ 32)
  s.incr F.PERF_STAT_SNAP_SEQ

/-- The end of a tick at the counters (R385, R391 to R393): its events are added, unless FREEZE was in force in it; then FREEZE takes effect as it stands, and a snapshot that waits
is taken. -/
def State.countTick (s : State) : State :=
  let s := if s.perf.frozen then s else ((List.range 32).filter fun i => s.countPart i != 0).foldl (fun s i => s.addCount i (s.countPart i)) s
  let due := s.perf.snap
  let s := { s with perf := { s.perf with part := [], frozen := s.is F.PERF_CTL_FREEZE, snap := false } }
  if due then s.snapshot else s

/-- A write of CTL: FREEZE and WRAP_FREEZE stored, then CLEAR_ALL, a load of every counter; FREEZE and SNAP act at the next tick boundary. -/
def State.perfCtl (s : State) (m : Master) (v : Word) : State × Resp :=
  s.perfGlobal m fun s =>
    let s := (s.put F.PERF_CTL_FREEZE (bitAt v.toNat 0)).put F.PERF_CTL_WRAP_FREEZE (bitAt v.toNat 2)
    let s := if bitAt v.toNat 3 then each (List.range 32) (fun i s => s.setCounter i 0) s else s
    if bitAt v.toNat 1 then { s with perf := { s.perf with snap := true } } else s

/-- A write of CTL that sets action bits and leaves the rest. -/
def State.perfAct (s : State) (m : Master) (bits : Nat) : State × Resp :=
  s.perfCtl m (BitVec.ofNat 32 (s.fld F.PERF_CTL_FREEZE + 4 * s.fld F.PERF_CTL_WRAP_FREEZE + bits))

/-- WINDOW as used, in µs (R398). -/
def bwWindow (v : Nat) : Nat := clampNat 1 4000000 v

/-- The clock at which the window in hand ends (R395). -/
def State.bwDue (s : State) : Nat := s.perf.start + (s.perf.ended + 1) * s.perf.window * 3125 / 4

/-- A write of BW_CTL: windows that start carry nothing over; windows that stop latch nothing; a WINDOW written while they run waits for the next window end (R395). -/
def State.bwCtl (s : State) (m : Master) (v : Word) : State × Resp :=
  s.perfGlobal m fun s =>
    let start := bitAt v.toNat 31 && !s.is F.PERF_BW_CTL_RUN
    let s := s.plainWrite R.PERF_BW_CTL v
    if start then { s with perf := { s.perf with bytes := [], carry := [], start := s.clock, ended := 0, window := bwWindow (s.fld F.PERF_BW_CTL_WINDOW) } } else s

/-- The next window (R395): the count goes on, and a WINDOW that has changed is timed from this end. -/
def State.bwNext (s : State) : State :=
  let w := bwWindow (s.fld F.PERF_BW_CTL_WINDOW)
  if w = s.perf.window then { s with perf := { s.perf with ended := s.perf.ended + 1 } }
  else { s with perf := { s.perf with start := s.bwDue, ended := 0, window := w } }

/-- BANDWIDTH_WINDOW_END, once the window's last tick has come: its bytes in each direction are latched in units of 64, and the remainders carried (R394, R395). -/
def State.bwEnd (s : State) : State :=
  if s.domOn 1 && s.is F.PERF_BW_CTL_RUN && decide (s.bwDue ≤ s.clock) then
    let s := each (List.range 52) (fun j s =>
      let t := tabGet (fun _ => 0) s.perf.bytes j + tabGet (fun _ => 0) s.perf.carry j
      let s := s.wr (if j < 26 then R.PERF_BW_RX j else R.PERF_BW_TX (j - 26)) (BitVec.ofNat 32 (t / 64))
      { s with perf := { s.perf with carry := tabPut (fun _ => 0) s.perf.carry j (t % 64) } }) s
    ({ s.bwNext with perf := { s.bwNext.perf with bytes := [] } }.incr F.PERF_BW_STAT_SEQ).put F.PERF_EVENT_WINDOW true
  else s

/-- COUNTER_WRAP: the events of the tick take counter i past 2^48 - 1, and it continues from the remainder. -/
def State.counterWrap (s : State) (i : Nat) : State :=
  if s.domOn 1 && !s.perf.frozen && decide (2 ^ 48 ≤ s.counter i + s.countPart i) then (s.addCount i (s.countPart i)).setPart i 0 else s

/-- A write of a register of the PERF block at an offset. -/
def State.perfWrite (s : State) (m : Master) (off : Nat) (v : Word) : State × Resp :=
  if 0x100 ≤ off ∧ off < 0x500 then
    let i := (off - 0x100) / 0x20
    let r := off % 0x20
    if r = 0x04 then s.counterStage m i v else if r = 0x08 then s.counterLoad m i v else s.perfConfig m i r v
  else if off = 0x000 then s.perfCtl m v
  else if off = 0x020 then s.bwCtl m v
  else s.perfGlobal m fun s => s.plainWrite (0x0400A000 + off) v

/-- A register of the PERF block as a master reads it. -/
def State.perfRead (s : State) (m : Master) (off : Nat) : State × Resp × Word :=
  let i := (off - 0x100) / 0x20
  if 0x100 ≤ off ∧ off < 0x500 ∧ off % 0x20 = 0x04 then
    let x := s.counterLow i (latchKey m)
    (x.1, .ok, x.2)
  else if 0x100 ≤ off ∧ off < 0x500 ∧ off % 0x20 = 0x08 then (s, .ok, s.counterHigh i (latchKey m))
  else if off = 0x004 then (s, .ok, setBits (s.rd R.PERF_STAT) 8 1 (s.fld F.MODE_PERSONA_ACTIVE))
  else
    let x := s.plainRead (0x0400A000 + off)
    (x.1, .ok, x.2)

/-! ## The user mirror page (R396) -/

/-- A word of the user page at an offset: counters that USER_EN shows, bandwidth while BW_CTL.USER is 1. -/
def State.userPage (s : State) (off : Nat) : State × Word :=
  if off < 0x100 then
    if bitAt (s.fld F.PERF_USER_EN_CNT) (off / 8) then
      (if off % 8 = 0 then s.counterLow (off / 8) 4 else (s, s.counterHigh (off / 8) 4))
    else (s, 0#32)
  else if off < 0x200 then
    (s, if bitAt (s.fld F.PERF_USER_EN_CNT) ((off - 0x100) / 8) then s.rd (0x0400A500 + (off - 0x100)) else 0#32)
  else if off = 0x200 then (s, s.rd R.PERF_SNAP_TS_LO)
  else if off = 0x204 then (s, s.rd R.PERF_SNAP_TS_HI)
  else if off = 0x208 then (s, if s.is F.PERF_BW_CTL_USER then s.rd R.PERF_BW_STAT else 0#32)
  else if 0x300 ≤ off ∧ off < 0x3D0 then (s, if s.is F.PERF_BW_CTL_USER then s.rd (0x0400A600 + (off - 0x300)) else 0#32)
  else (s, 0#32)

/-! ## Commands -/

/-- COUNTER_WRAP (R391). -/
def execCounterWrap (i : Fin 32) (_past : Unit) (s : State) : Host.Outcome State Fault Refusal := done (s.counterWrap i)

/-- COUNTER_READ (R390): a read of CNT_LO[i]. -/
def execCounterRead (m : Master) (i : Fin 32) (s : State) : Host.Outcome State Fault Refusal :=
  done (s.viaRead (R.PERF_CNT_LO i) m fun s =>
    let x := s.counterLow i (latchKey m)
    (x.1, .ok, x.2))

/-- COUNTER_LOAD (R390): a write of CNT_HI[i]. -/
def execCounterLoad (m : Master) (i : Fin 32) (hi : Word) (s : State) : Host.Outcome State Fault Refusal :=
  done (s.via (R.PERF_CNT_HI i) m fun s => s.counterLoad m i hi)

/-- FREEZE (R392): a write of CTL.FREEZE. -/
def execFreeze (m : Master) (on : Bool) (s : State) : Host.Outcome State Fault Refusal :=
  done (s.via R.PERF_CTL m fun s => s.perfCtl m (BitVec.ofNat 32 (b2n on + 4 * s.fld F.PERF_CTL_WRAP_FREEZE)))

/-- SNAP (R393). -/
def execSnap (m : Master) (s : State) : Host.Outcome State Fault Refusal := done (s.via R.PERF_CTL m fun s => s.perfAct m 2)

/-- CLEAR_ALL (R398). -/
def execClearAll (m : Master) (s : State) : Host.Outcome State Fault Refusal := done (s.via R.PERF_CTL m fun s => s.perfAct m 8)

/-- PERF_CONFIG_WRITE (R388, R389): register r of counter i: CNT_CTL, FILT, ADDR_LO, ADDR_HI, LANE_LO, LANE_HI. -/
def execPerfConfigWrite (m : Master) (i : Fin 32) (r : Fin 6) (v : Word) (s : State) : Host.Outcome State Fault Refusal :=
  let off := if r.val = 0 then 0 else 8 + 4 * r.val
  done (s.via (R.PERF_CNT_CTL i + off) m fun s => s.perfConfig m i off v)

/-- BANDWIDTH_RUN (R395): a write of BW_CTL. -/
def execBandwidthRun (m : Master) (v : Word) (s : State) : Host.Outcome State Fault Refusal := done (s.via R.PERF_BW_CTL m fun s => s.bwCtl m v)

/-- BANDWIDTH_WINDOW_END (R394, R395). -/
def execBandwidthWindowEnd (_bytes : Unit) (s : State) : Host.Outcome State Fault Refusal := done s.bwEnd

end Sys2Proof.Machine
end

