-- ==== Sys2Proof/Machine/Crypto.lean ====
section
/-! DEFINITION. Sys2Proof/Machine/Crypto.lean: SHA-384 and ECDSA P-384, which R423 and R425 name. Their constants are those of FIPS 180-4 and FIPS 186-5
(PRESUMED: log entry 16); no other part of the model looks inside them. -/

namespace Sys2Proof.Machine

/-- A big-endian number (R421: key and signature values are big-endian). -/
def beValue (bs : List (BitVec 8)) : Nat := bs.foldl (fun v b => 256 * v + b.toNat) 0

/-- The `n` big-endian bytes of a number. -/
def beBytes (n v : Nat) : List (BitVec 8) := (List.range n).map fun i => BitVec.ofNat 8 (v / 256 ^ (n - 1 - i))

/-! ## SHA-384 -/

/-- The eight working words of the hash. -/
structure Sha where
  a : BitVec 64
  b : BitVec 64
  c : BitVec 64
  d : BitVec 64
  e : BitVec 64
  f : BitVec 64
  g : BitVec 64
  h : BitVec 64
  deriving DecidableEq, Repr

/-- The initial words: the first 64 bits of the fractions of the square roots of the ninth to sixteenth primes. -/
def Sha.init : Sha :=
  { a := 0xCBBB9D5DC1059ED8#64,
    b := 0x629A292A367CD507#64,
    c := 0x9159015A3070DD17#64,
    d := 0x152FECD8F70E5939#64,
    e := 0x67332667FFC00B31#64,
    f := 0x8EB44A8768581511#64,
    g := 0xDB0C2E0D64F98FA7#64,
    h := 0x47B5481DBEFA4FA4#64 }

/-- The eighty round constants of SHA-384 (FIPS 180-4): the first 64 bits of the fractions of the cube roots of the first eighty primes. -/
def shaK : List (BitVec 64) :=
  [0x428A2F98D728AE22#64, 0x7137449123EF65CD#64, 0xB5C0FBCFEC4D3B2F#64, 0xE9B5DBA58189DBBC#64] ++
  [0x3956C25BF348B538#64, 0x59F111F1B605D019#64, 0x923F82A4AF194F9B#64, 0xAB1C5ED5DA6D8118#64] ++
  [0xD807AA98A3030242#64, 0x12835B0145706FBE#64, 0x243185BE4EE4B28C#64, 0x550C7DC3D5FFB4E2#64] ++
  [0x72BE5D74F27B896F#64, 0x80DEB1FE3B1696B1#64, 0x9BDC06A725C71235#64, 0xC19BF174CF692694#64] ++
  [0xE49B69C19EF14AD2#64, 0xEFBE4786384F25E3#64, 0x0FC19DC68B8CD5B5#64, 0x240CA1CC77AC9C65#64] ++
  [0x2DE92C6F592B0275#64, 0x4A7484AA6EA6E483#64, 0x5CB0A9DCBD41FBD4#64, 0x76F988DA831153B5#64] ++
  [0x983E5152EE66DFAB#64, 0xA831C66D2DB43210#64, 0xB00327C898FB213F#64, 0xBF597FC7BEEF0EE4#64] ++
  [0xC6E00BF33DA88FC2#64, 0xD5A79147930AA725#64, 0x06CA6351E003826F#64, 0x142929670A0E6E70#64] ++
  [0x27B70A8546D22FFC#64, 0x2E1B21385C26C926#64, 0x4D2C6DFC5AC42AED#64, 0x53380D139D95B3DF#64] ++
  [0x650A73548BAF63DE#64, 0x766A0ABB3C77B2A8#64, 0x81C2C92E47EDAEE6#64, 0x92722C851482353B#64] ++
  [0xA2BFE8A14CF10364#64, 0xA81A664BBC423001#64, 0xC24B8B70D0F89791#64, 0xC76C51A30654BE30#64] ++
  [0xD192E819D6EF5218#64, 0xD69906245565A910#64, 0xF40E35855771202A#64, 0x106AA07032BBD1B8#64] ++
  [0x19A4C116B8D2D0C8#64, 0x1E376C085141AB53#64, 0x2748774CDF8EEB99#64, 0x34B0BCB5E19B48A8#64] ++
  [0x391C0CB3C5C95A63#64, 0x4ED8AA4AE3418ACB#64, 0x5B9CCA4F7763E373#64, 0x682E6FF3D6B2B8A3#64] ++
  [0x748F82EE5DEFB2FC#64, 0x78A5636F43172F60#64, 0x84C87814A1F0AB72#64, 0x8CC702081A6439EC#64] ++
  [0x90BEFFFA23631E28#64, 0xA4506CEBDE82BDE9#64, 0xBEF9A3F7B2C67915#64, 0xC67178F2E372532B#64] ++
  [0xCA273ECEEA26619C#64, 0xD186B8C721C0C207#64, 0xEADA7DD6CDE0EB1E#64, 0xF57D4F7FEE6ED178#64] ++
  [0x06F067AA72176FBA#64, 0x0A637DC5A2C898A6#64, 0x113F9804BEF90DAE#64, 0x1B710B35131C471B#64] ++
  [0x28DB77F523047D84#64, 0x32CAAB7B40C72493#64, 0x3C9EBE0A15C9BEBC#64, 0x431D67C49C100D4C#64] ++
  [0x4CC5D4BECB3E42B6#64, 0x597F299CFC657E2A#64, 0x5FCB6FAB3AD6FAEC#64, 0x6C44198C4A475817#64]

/-- Three rotations joined by exclusive or. -/
def rot3 (x : BitVec 64) (i j k : Nat) : BitVec 64 := x.rotateRight i ^^^ x.rotateRight j ^^^ x.rotateRight k

/-- Two rotations and a shift joined by exclusive or. -/
def rot2 (x : BitVec 64) (i j k : Nat) : BitVec 64 := x.rotateRight i ^^^ x.rotateRight j ^^^ x >>> k

/-- One round with a constant and a word of the schedule. -/
def Sha.round (x : Sha) (k w : BitVec 64) : Sha :=
  let t := x.h + rot3 x.e 14 18 41 + ((x.e &&& x.f) ^^^ (~~~x.e &&& x.g)) + k + w
  let u := rot3 x.a 28 34 39 + ((x.a &&& x.b) ^^^ (x.a &&& x.c) ^^^ (x.b &&& x.c))
  { a := t + u, b := x.a, c := x.b, d := x.c, e := x.d + t, f := x.e, g := x.f, h := x.g }

/-- The word that follows sixteen words of the schedule. -/
def shaNext (w : List (BitVec 64)) : BitVec 64 :=
  rot2 (w.getD 14 0#64) 19 61 6 + w.getD 9 0#64 + rot2 (w.getD 1 0#64) 1 8 7 + w.getD 0 0#64

/-- The rounds of a block, one per constant, over the next sixteen words of the schedule. -/
def shaRounds : List (BitVec 64) → List (BitVec 64) → Sha → Sha
  | [], _, x => x
  | k :: ks, w, x => shaRounds ks (w.drop 1 ++ [shaNext w]) (x.round k (w.getD 0 0#64))

/-- A block of 128 bytes as sixteen big-endian words. -/
def shaWords (block : List (BitVec 8)) : List (BitVec 64) :=
  (List.range 16).map fun i => BitVec.ofNat 64 (beValue ((block.drop (8 * i)).take 8))

/-- One block is hashed in. -/
def Sha.block (x : Sha) (block : List (BitVec 8)) : Sha :=
  let y := shaRounds shaK (shaWords block) x
  { a := x.a + y.a, b := x.b + y.b, c := x.c + y.c, d := x.d + y.d, e := x.e + y.e, f := x.f + y.f, g := x.g + y.g, h := x.h + y.h }

/-- A number of blocks, one after the other. -/
def shaBlocks : Nat → List (BitVec 8) → Sha → Sha
  | 0, _, x => x
  | n + 1, m, x => shaBlocks n (m.drop 128) (x.block (m.take 128))

/-- A message padded to whole blocks: a one bit, zeros, and its length in bits in 16 bytes. -/
def shaPad (m : List (BitVec 8)) : List (BitVec 8) :=
  m ++ 0x80#8 :: List.replicate ((239 - m.length % 128) % 128) 0#8 ++ beBytes 16 (8 * m.length)

/-- The 48 bytes of the SHA-384 digest of a byte string: the first six words. -/
@[irreducible] def sha384 (m : List (BitVec 8)) : List (BitVec 8) :=
  let p := shaPad m
  let x := shaBlocks (p.length / 128) p Sha.init
  [x.a, x.b, x.c, x.d, x.e, x.f].flatMap fun w => beBytes 8 w.toNat

/-! ## ECDSA P-384 -/

/-- The prime of the field, 2³⁸⁴ - 2¹²⁸ - 2⁹⁶ + 2³² - 1. -/
def p384 : Nat :=
  0xFFFFFFFFFFFFFFFFFFFFFFFFFFFFFFFFFFFFFFFFFFFFFFFFFFFFFFFFFFFFFFFEFFFFFFFF0000000000000000FFFFFFFF

/-- The order of the base point. -/
def n384 : Nat :=
  0xFFFFFFFFFFFFFFFFFFFFFFFFFFFFFFFFFFFFFFFFFFFFFFFFC7634D81F4372DDF581A0DB248B0A77AECEC196ACCC52973

/-- The constant term of the curve y² = x³ - 3x + b. -/
def b384 : Nat :=
  0xB3312FA7E23EE7E4988E056BE3F82D19181D9C6EFE8141120314088F5013875AC656398D8A2ED19D2A85C8EDD3EC2AEF

/-- The base point. -/
def g384 : Nat × Nat :=
  (0xAA87CA22BE8B05378EB1C71EF320AD746E1D3B628BA79B9859F741E082542A385502F25DBF55296C3A545E3872760AB7,
   0x3617DE4A96262C6F5D9E98BF9292DC29F8F41DBD289A147CE9DA3113B5F0B8C00A60B1CE1D7E819D7A431D7C90EA0E5F)

/-- A power by a modulus, over the bits of the exponent. -/
def powMod (m base : Nat) : Nat → Nat → Nat
  | 0, _ => 1 % m
  | bits + 1, e =>
    let h := powMod m base bits (e / 2)
    h * h % m * (if e % 2 = 1 then base else 1) % m

/-- The inverse by a prime modulus of 384 bits. -/
def invMod (m a : Nat) : Nat := powMod m (a % m) 384 (m - 2)

/-- A difference by the modulus of the field. -/
def subP (a b : Nat) : Nat := (a + (p384 - b % p384)) % p384

/-- The third point on the line of slope `l` through two points, mirrored. -/
def chord (l : Nat) (x y x' : Nat) : Nat × Nat :=
  let z := subP (subP (l * l) x) x'
  (z, subP (l * subP x z) y)

/-- The sum of two points of the curve; none is the point at infinity. -/
def addPoint : Option (Nat × Nat) → Option (Nat × Nat) → Option (Nat × Nat)
  | none, q => q
  | some a, none => some a
  | some a, some c =>
    if a.1 = c.1 then
      if (a.2 + c.2) % p384 = 0 then none
      else some (chord (subP (3 * a.1 * a.1) 3 * invMod p384 (2 * a.2) % p384) a.1 a.2 a.1)
    else some (chord (subP c.2 a.2 * invMod p384 (subP c.1 a.1) % p384) a.1 a.2 c.1)

/-- A multiple of a point, over the bits of the factor. -/
def mulPoint (q : Option (Nat × Nat)) : Nat → Nat → Option (Nat × Nat)
  | 0, _ => none
  | bits + 1, k =>
    let h := mulPoint q bits (k / 2)
    let d := addPoint h h
    if k % 2 = 1 then addPoint d q else d

/-- A point of the curve with coordinates of the field. -/
def onCurve (x y : Nat) : Bool :=
  decide (x < p384) && decide (y < p384) && y * y % p384 == subP (x * x * x + b384) (3 * x)

/-- A digest, a public key 0x04, X, Y and a signature r, s verify (FIPS 186-5): the key is a point of the curve, r and s are from 1 to n - 1, and the first
coordinate of u₁G + u₂Q is r by n. -/
@[irreducible] def ecdsaP384 (digest pub sig : List (BitVec 8)) : Bool :=
  let x := beValue ((pub.drop 1).take 48)
  let y := beValue ((pub.drop 49).take 48)
  let r := beValue (sig.take 48)
  let s := beValue ((sig.drop 48).take 48)
  let w := invMod n384 s
  pub.take 1 == [0x04#8] && onCurve x y && decide (0 < r) && decide (r < n384) && decide (0 < s) && decide (s < n384) &&
    match addPoint (mulPoint (some g384) 384 (beValue digest * w % n384)) (mulPoint (some (x, y)) 384 (r * w % n384)) with
    | none => false
    | some c => c.1 % n384 == r

end Sys2Proof.Machine
end

