-- ==== Sys2Proof/Machine/Lifecycle.lean ====
section
/-! DEFINITION. Sys2Proof/Machine/Lifecycle.lean: OTP fields, lifecycle commands, tokens, identity and the debug unit (chapter Lifecycle, identity and firmware
trust). -/

namespace Sys2Proof.Machine

/-! ## OTP fields (R415, R418) -/

/-- The local address of an offset of the OTP shadow. -/
def otpAddr (off : Nat) : Nat := 0x05000000 + off

/-- Bytes of the OTP shadow. -/
def State.otp (s : State) (off n : Nat) : List (BitVec 8) := s.bytesAt (otpAddr off) n

/-- A word of the OTP shadow. -/
def State.otpWord (s : State) (off : Nat) : Nat := leValue (s.otp off 4)

/-- OTP bits burned: a burned bit stays burned. -/
def State.burn (s : State) (off : Nat) (bs : List (BitVec 8)) : State :=
  bs.zipIdx.foldl (fun s b => s.setByte (otpAddr off + b.2) (s.otpArray (otpAddr off + b.2) ||| b.1)) s

/-- A burn that did not end well: any of its bits may be burned (R419, R420). -/
def State.burnPart (s : State) (off : Nat) (bs : List (BitVec 8)) : State :=
  bs.zipIdx.foldl (fun s b =>
    let v := b.1 &&& (Config.freeWord s.free).setWidth 8
    s.use.setByte (otpAddr off + b.2) (s.otpArray (otpAddr off + b.2) ||| v)) s

/-- Burned copies of lifecycle bit i. The copies stand in three bytes from 0x100 on. -/
def State.lifeCopies (s : State) (i : Nat) : Nat := ((s.otp 0x100 3).filter fun b => b.getLsbD i).length

/-- The lifecycle state that the bits read as: the highest bit with two copies burned. -/
def State.lifeBits (s : State) : Nat :=
  match [5, 4, 3, 2, 1].find? fun i => decide (2 ≤ s.lifeCopies (i - 1)) with
  | some i => i
  | none => 0

/-- A lifecycle bit has a single burned copy. -/
def State.lifeTorn (s : State) : Bool := (List.range 5).any fun i => s.lifeCopies i == 1

/-- The bytes of a lifecycle bit's three copies. -/
def lifeBit (i : Nat) : List (BitVec 8) := List.replicate 3 (BitVec.ofNat 8 (2 ^ i))

/-- Shadow offset of a key slot. -/
def slotOff (k : Nat) : Nat := 0x200 + 0x30 * k

/-- A key slot holds a hash. -/
def State.slotFull (s : State) (k : Nat) : Bool := (s.otp (slotOff k) 48).any fun b => b != 0#8

/-- A key slot is revoked. -/
def State.slotRevoked (s : State) (k : Nat) : Bool := bitAt (s.otpWord 0x260) k

/-- The rollback count: burned bits of the thermometer. -/
def State.rollbackCount (s : State) : Nat := ((s.otp 0x268 8).map fun b => ((List.range 8).filter fun i => b.getLsbD i).length).sum

/-- KEYSTAT. -/
def State.keyStat (s : State) : Nat := b2n (s.slotFull 0) + 2 * b2n (s.slotFull 1) + 4 * b2n (s.slotRevoked 0) + 8 * b2n (s.slotRevoked 1)

/-! ## What boot loads (R414, R415, R417, R425) -/

/-- The debug level of a state at reset: 0 NONE, 2 FULL. -/
def debugLevel (st : Nat) : Nat := if st = 3 ∨ st = 5 then 0 else 2

/-- A nonce is drawn. -/
def State.newNonce (s : State) : State := ((List.range 4).foldl (fun s i => s.wr (R.LIFE_NONCE i) (Config.nonce s.free i)) s).use

/-- LIFE.STATE as the bits read. -/
def State.lifeShow (s : State) : State := (s.setFld F.LIFE_STATE_STATE s.lifeBits).put F.LIFE_STATE_TORN s.lifeTorn

/-- The OTP load of a boot: third copies burned, state, debug level, nonce and identity. -/
def State.otpLoad (s : State) : State :=
  let s := (List.range 5).foldl (fun s i => if s.lifeCopies i = 2 then s.burn 0x100 (lifeBit i) else s) s
  let s := (s.lifeShow.setFld F.LIFE_DBG_STAT_LEVEL (debugLevel s.lifeBits)).newNonce
  let s := (s.setFld F.IDENT_REV_TESTPROG (Config.ident 0).toNat).wr R.IDENT_LOT_LO (Config.ident 1)
  let s := s.wr R.IDENT_LOT_HI (Config.ident 2 &&& 0x1FFFFF#32)
  s.wr R.IDENT_DIE ((Config.ident 3 &&& 0xFFFF#32) ||| 0x10000#32)

/-! ## Keys (R423) -/

/-- Which key a public key is: 1 the Vangoft key, 2 and 3 a customer key of slot 0 and 1, 0 none of them. -/
def State.keyOf (s : State) (pub : List (BitVec 8)) : Nat :=
  let h := sha384 pub
  let slot (k : Nat) : Bool := s.slotFull k && !s.slotRevoked k && h == s.otp (slotOff k) 48
  if h = Config.vangoftHash then 1 else if slot 0 then 2 else if slot 1 then 3 else 0

/-! ## Tokens (R425) -/

/-- Bytes of a record. -/
def slice (bs : List (BitVec 8)) (off n : Nat) : List (BitVec 8) := (bs.drop off).take n

def allZero (bs : List (BitVec 8)) : Bool := bs.all fun b => b == 0#8

/-- A little-endian word of a record. -/
def wordOf (bs : List (BitVec 8)) (off : Nat) : Nat := leValue (slice bs off 4)

/-- The token's fields match the die and the nonce. -/
def State.tokenFits (s : State) (t : List (BitVec 8)) : Bool :=
  wordOf t 0 == 0x4B545256 && wordOf t 8 == (s.rd R.IDENT_LOT_LO).toNat && wordOf t 0xC == (s.rd R.IDENT_LOT_HI).toNat
    && wordOf t 0x10 == (s.rd R.IDENT_DIE).toNat % 65536
    && ((List.range 4).all fun i => wordOf t (0x14 + 4 * i) == (s.rd (R.LIFE_NONCE i)).toNat)
    && allZero (slice t 0x28 24) && allZero (slice t 0xA1 7)

/-- The token is accepted from a master code. -/
def State.tokenOk (s : State) (t : List (BitVec 8)) (master : Nat) : Bool :=
  let pub := slice t 0x40 97
  let key := s.keyOf pub
  let st := s.fld F.LIFE_STATE_STATE
  let kind := wordOf t 4
  let grant := wordOf t 0x24
  s.tokenFits t && ecdsaP384 (sha384 (t.take 64)) pub (slice t 0xA8 96) &&
    (if kind = 1 then grant == 0 && key == 1 && (st == 2 || st == 3)
     else kind == 2 && (grant == 1 || grant == 2) && decide (2 ≤ key) && st == 3 && (master == 3 || master == 5))

/-! ## Commands of LIFE.CMD (R416, R418, R419) -/

/-- Operations that read data at ARG: how many bytes. -/
def argLen (op : Nat) : Nat := if op = 2 then 48 else if op = 5 then 264 else if op = 6 then 4 else 0

/-- ARG and the data behind it lie in shared SRAM. -/
def argOk (a n : Nat) : Bool := decide (0x02000000 ≤ a) && decide (a + n ≤ 0x02400000)

/-- The state allows the operation on its target. -/
def lifeAllows (st op target slot : Nat) : Bool :=
  if op = 1 then target == 2 && st == 1 || target == 3 && st == 2 || target == 5 && decide (1 ≤ st) && decide (st ≤ 4)
  else if op = 2 then st == 1 || st == 2 || slot == 1 && st == 3
  else if op = 3 then st == 2 || st == 3
  else if op = 6 then st == 1 || st == 2
  else op == 4 || op == 5

/-- Why a command is refused: its RESULT. -/
def State.lifeRefusal (s : State) (m : Master) (op target slot value : Nat) : Option Nat :=
  let other := 1 - slot
  if s.is F.LIFE_STAT_BUSY then some 1
  else if m.code ≠ 1 ∧ !(op == 5 && (m.code == 3 || m.code == 5)) then some 2
  else if !lifeAllows (s.fld F.LIFE_STATE_STATE) op target slot then some 3
  else if op = 1 ∧ target = 2 ∧ !s.slotFull 0 then some 4
  else if op = 3 ∧ !(s.slotFull other && !s.slotRevoked other) then some 4
  else if argLen op ≠ 0 ∧ !argOk (s.rd R.LIFE_ARG).toNat (argLen op) then some 6
  else if op = 2 ∧ s.slotFull slot then some 8
  else if op = 4 ∧ (value < s.rollbackCount ∨ 64 < value) then some 8
  else none

/-- A write of LIFE.CMD. -/
def State.lifeCmd (s : State) (m : Master) (v : Word) : State × Resp :=
  let op := bitsOf v.toNat 0 4
  let target := bitsOf v.toNat 4 3
  let slot := bitsOf v.toNat 8 1
  let value := bitsOf v.toNat 16 7
  let store (s : State) : State := s.plainWrite R.LIFE_CMD v
  if !bitAt v.toNat 31 then (store s, .ok)
  else
    match s.lifeRefusal m op target slot value with
    | some c => (s.setFld F.LIFE_STAT_RESULT c, .err (if c = 2 then 2 else 1))
    | none =>
      let r : LifeRun := ⟨op, target, slot, value, (s.rd R.LIFE_ARG).toNat, m.code⟩
      let s := (store s).put F.LIFE_STAT_BUSY true
      ({ s with life := { s.life with run := some r } }, .ok)

/-- A command ends with a result. -/
def State.lifeEnd (s : State) (result : Nat) : State :=
  let s := { s with life := { s.life with run := none } }
  ((s.put F.LIFE_STAT_BUSY false).put F.LIFE_STAT_DONE true).setFld F.LIFE_STAT_RESULT result

/-- What the lifecycle bits open or close once a burn has changed them: Maker-return and Retired wait for the reset of R422, a bit with one copy shows at once (R415). -/
def State.lifeMoved (s : State) : State :=
  let s := s.put F.LIFE_STATE_TORN s.lifeTorn
  let st := s.lifeBits
  if 4 ≤ st then (if st = s.fld F.LIFE_STATE_STATE then s else { s with life := { s.life with resetDue := true } })
  else
    let s := if st = 3 ∧ s.fld F.LIFE_STATE_STATE ≠ 3 then s.setFld F.LIFE_DBG_STAT_LEVEL 0 else s
    s.lifeShow

/-- The OTP field that a command burns and the bits it burns, with the data it read. -/
def burnOf (r : LifeRun) (data : List (BitVec 8)) : Nat × List (BitVec 8) :=
  if r.op = 1 then (0x100, lifeBit (r.target - 1))
  else if r.op = 2 then (slotOff r.slot, data)
  else if r.op = 3 then (0x260, [BitVec.ofNat 8 (2 ^ r.slot)])
  else if r.op = 4 then (0x268, leBytes 8 (2 ^ r.value - 1))
  else if r.op = 5 then (0x100, lifeBit 3)
  else (0x270 + 4 * r.slot, data)

/-- A burn with its outcome. -/
def State.lifeBurn (s : State) (r : LifeRun) (data : List (BitVec 8)) (ok : Bool) : State :=
  let b := burnOf r data
  let s := if ok then s.burn b.1 b.2 else s.burnPart b.1 b.2
  (s.lifeMoved).lifeEnd (if ok then 0 else 7)

/-- LIFE_COMMAND_DONE: the running command reads its data, then verifies a token and acts on it, or burns. -/
def State.lifeDone (s : State) (ok : Bool) : State :=
  match s.life.run with
  | none => s
  | some r =>
    let x := s.memRead ⟨2, 1⟩ r.addr (argLen r.op)
    let s := x.1
    let data := x.2.2
    if x.2.1 ≠ .done then s.lifeEnd (if r.op = 5 then 5 else 7)
    else if r.op ≠ 5 then s.lifeBurn r data ok
    else if !s.tokenOk data r.master then s.lifeEnd 5
    else if wordOf data 4 = 1 then s.newNonce.lifeBurn r data ok
    else ((s.newNonce).setFld F.LIFE_DBG_STAT_LEVEL (max (s.fld F.LIFE_DBG_STAT_LEVEL) (wordOf data 0x24))).lifeEnd 0

/-- A reset or loss of power during a burn (R420): any of its bits may be burned, and the command is not resumed. A reset that R422 asks for stays due. -/
def State.lifeCut (s : State) : State :=
  match s.life.run with
  | none => s
  | some r =>
    let x := s.memRead ⟨2, 1⟩ r.addr (argLen r.op)
    let b := burnOf r x.2.2
    let s := { s with life := { s.life with run := none } }
    if r.op = 5 && !(s.tokenOk x.2.2 r.master && wordOf x.2.2 4 == 1) then s else s.burnPart b.1 b.2

/-- The burns of the reset of R422: key slots, revoke bits and rollback count. -/
def State.burnKeys (s : State) : State :=
  ((s.burn 0x200 (List.replicate 0x60 0xFF#8)).burn 0x260 [3#8]).burn 0x268 (List.replicate 8 0xFF#8)

/-! ## The debug unit (R426 to R428) -/

/-- A debug access: from 0x3 and 0x5, at a level other than NONE. -/
def State.mayDebug (s : State) (m : Master) : Bool := (m.code == 3 || m.code == 5) && s.fld F.LIFE_DBG_STAT_LEVEL != 0

/-- The level whose rights a debug access has: SK at FULL, NK at NS. -/
def State.debugPsr (s : State) : Nat := if s.fld F.LIFE_DBG_STAT_LEVEL = 2 then 0 else 1

/-- The supervisor halted: a held halt is taken. -/
def State.dbgStop (s : State) : State :=
  { s.put F.LIFE_DBG_STAT_HALT_PEND false with sup := { s.sup with halted := true, stepping := false } }

/-- A write of DBG_CTL: HALT, then RESUME, then STEP. -/
def State.dbgCtl (s : State) (v : Word) : State :=
  let s := if bitAt v.toNat 0 && !s.sup.halted then
      let s := s.put F.LIFE_DBG_STAT_HALT_TO false
      if s.fld F.LIFE_DBG_STAT_LEVEL = 2 || s.level != 0 then s.dbgStop else s.put F.LIFE_DBG_STAT_HALT_PEND true
    else s
  let s := if bitAt v.toNat 1 then { s with sup := { s.sup with halted := false, stepping := false } } else s
  if bitAt v.toNat 2 && s.sup.halted then { s with sup := { s.sup with stepping := true } } else s

/-- Why DBG_DATA refuses, as an error code: not halted or no such register, or a control register that level NS does not reach. -/
def State.dbgRefuses (s : State) : Option Nat :=
  let r := s.fld F.LIFE_DBG_SEL_REG
  if !s.sup.halted then some 1
  else if 17 ≤ r ∧ r < 32 then some 1
  else if 32 ≤ r then
    match cregAccess (r - 32) s.debugPsr with
    | none => some 1
    | some 0 => some 2
    | some _ => none
  else none

/-- The register that DBG_SEL names. -/
def State.dbgRegister (s : State) : Word :=
  let r := s.fld F.LIFE_DBG_SEL_REG
  if r < 16 then s.g 48 r else if r = 16 then s.sup.pc else s.cregValue (r - 32)

/-- The register that DBG_SEL names, written. -/
def State.dbgSet (s : State) (v : Word) : State :=
  let r := s.fld F.LIFE_DBG_SEL_REG
  if r < 16 then s.setG 48 r v
  else if r = 16 then { s with sup := { s.sup with pc := v &&& 0xFFFFFFFC#32 } }
  else s.cregWriteAt s.debugPsr (r - 32) v

/-- A write of DBG_DATA. -/
def State.dbgWrite (s : State) (v : Word) : State × Resp :=
  match s.dbgRefuses with
  | some c => (s, .err c)
  | none => (s.dbgSet v, .ok)

/-- A read of DBG_DATA. -/
def State.dbgRead (s : State) : State × Resp × Word :=
  match s.dbgRefuses with
  | some c => (s, .err c, 0#32)
  | none => (s, .ok, s.dbgRegister)

/-! ## The LIFE block (R429) -/

/-- A write of a register of the LIFE block at an offset but DBG_MDATA. -/
def State.lifeWrite (s : State) (m : Master) (off : Nat) (v : Word) : State × Resp :=
  if off = 0x004 then s.lifeCmd m v
  else if 0x040 ≤ off ∧ off < 0x058 ∧ !s.mayDebug m then (s, .err 2)
  else if off = 0x040 then (s.dbgCtl v, .ok)
  else if off = 0x04C then s.dbgWrite v
  else (s.plainWrite (0x04001000 + off) v, .ok)

/-- A read of a register of the LIFE block at an offset but DBG_MDATA. -/
def State.lifeRead (s : State) (m : Master) (off : Nat) : State × Resp × Word :=
  if 0x040 ≤ off ∧ off < 0x058 ∧ !s.mayDebug m then (s, .err 2, 0#32)
  else if off = 0x04C then s.dbgRead
  else if off = 0x044 then (s, .ok, setBits (s.rd R.LIFE_DBG_STAT) 0 1 (b2n s.sup.halted))
  else if off = 0x014 then (s, .ok, BitVec.ofNat 32 s.rollbackCount)
  else if off = 0x018 then (s, .ok, BitVec.ofNat 32 s.keyStat)
  else
    let x := s.plainRead (0x04001000 + off)
    (x.1, .ok, x.2)

/-! ## Commands -/

/-- The word of LIFE.CMD with an operation and GO. -/
def lifeWord (op : Nat) (v : Word) : Word := (v &&& 0x7FFFFFF0#32) ||| BitVec.ofNat 32 (op + 2 ^ 31)

/-- A command's write of LIFE.CMD. -/
def State.lifeGo (s : State) (m : Master) (op : Nat) (v : Word) : State := s.via R.LIFE_CMD m fun s => s.lifeCmd m (lifeWord op v)

/-- ADVANCE (R416, R419). -/
def execAdvance (m : Master) (v : Word) (s : State) : Host.Outcome State Fault Refusal := done (s.lifeGo m 1 v)

/-- KEYPROG (R419). -/
def execKeyprog (m : Master) (v : Word) (s : State) : Host.Outcome State Fault Refusal := done (s.lifeGo m 2 v)

/-- REVOKE (R419). -/
def execRevoke (m : Master) (v : Word) (s : State) : Host.Outcome State Fault Refusal := done (s.lifeGo m 3 v)

/-- ROLLBACK (R419). -/
def execRollback (m : Master) (v : Word) (s : State) : Host.Outcome State Fault Refusal := done (s.lifeGo m 4 v)

/-- TOKEN (R419, R425). -/
def execToken (m : Master) (v : Word) (s : State) : Host.Outcome State Fault Refusal := done (s.lifeGo m 5 v)

/-- CFGPROG (R419). -/
def execCfgprog (m : Master) (v : Word) (s : State) : Host.Outcome State Fault Refusal := done (s.lifeGo m 6 v)

/-- LIFE_COMMAND_DONE (R419, R425). -/
def execLifeCommandDone (ok : Bool) (s : State) : Host.Outcome State Fault Refusal := done (if s.domOn 1 then s.lifeDone ok else s)

/-- DBG_HALT (R428). -/
def execDbgHalt (m : Master) (s : State) : Host.Outcome State Fault Refusal := done (s.via R.LIFE_DBG_CTL m fun s => s.lifeWrite m 0x040 1#32)

/-- DBG_HALT_TAKEN (R428): an instruction boundary with LVL not SK. -/
def execDbgHaltTaken (s : State) : Host.Outcome State Fault Refusal :=
  done (if s.is F.LIFE_DBG_STAT_HALT_PEND && s.level != 0 then s.dbgStop else s)

/-- DBG_HALT_TIMEOUT (R428): 10 ms have passed. -/
def execDbgHaltTimeout (s : State) : Host.Outcome State Fault Refusal :=
  done (if s.is F.LIFE_DBG_STAT_HALT_PEND then (s.put F.LIFE_DBG_STAT_HALT_PEND false).put F.LIFE_DBG_STAT_HALT_TO true else s)

/-- DBG_RESUME (R428). -/
def execDbgResume (m : Master) (s : State) : Host.Outcome State Fault Refusal := done (s.via R.LIFE_DBG_CTL m fun s => s.lifeWrite m 0x040 2#32)

/-- DBG_STEP (R428). -/
def execDbgStep (m : Master) (s : State) : Host.Outcome State Fault Refusal := done (s.via R.LIFE_DBG_CTL m fun s => s.lifeWrite m 0x040 4#32)

/-- DBG_DATA_ACCESS (R428): a write of a value, or a read. -/
def execDbgDataAccess (m : Master) (w : Option Word) (s : State) : Host.Outcome State Fault Refusal :=
  done (match w with
    | some v => s.via R.LIFE_DBG_DATA m fun s => s.lifeWrite m 0x04C v
    | none => s.viaRead R.LIFE_DBG_DATA m fun s => s.lifeRead m 0x04C)

end Sys2Proof.Machine
end

