-- ==== Sys2Proof/Machine/Flash.lean ====
section
/-! DEFINITION. Sys2Proof/Machine/Flash.lean: the boot source, authentication of firmware images and the flash command engine (R299 to R301, R306, R421 to
R424). -/

namespace Sys2Proof.Machine

/-! ## Boot phases (R299, R306) -/

/-- The masters that deliver an image at each boot source: the host, the serial management port, a towpath master with SEC = 1. -/
def bootMaster (sel : Nat) (m : Master) : Bool :=
  match m with
  | .hostS => sel == 1
  | .smp => sel == 2
  | .tow sec => sec && (sel == 3 || sel == 1)
  | .supS | .supNS | .hostNS | .ls _ => false

/-- A write of FLASH.BOOT_DOOR: GO counts while the ROM waits. -/
def State.bootDoor (s : State) (m : Master) (v : Word) : State × Resp :=
  if bootMaster s.pins.bootSel m then
    let s := s.plainWrite R.FLASH_BOOT_DOOR v
    (if bitAt v.toNat 31 && s.fld F.FLASH_BOOT_STAT_PHASE == 1 then s.setFld F.FLASH_BOOT_STAT_PHASE 2 else s, .ok)
  else (s, .err 2)

/-- The SFDP register once the table is read (R300): what the flash holds is open, a table that is found or not; without one, 3-byte addresses and 1-1-1. -/
def sfdpWord (v : Word) : Word :=
  if v.getLsbD 9 then BitVec.ofNat 32 (v.toNat % 128 + 128 * (v.toNat / 128 % 3) + 512) else BitVec.ofNat 32 (v.toNat % 64)

/-- The read of the image in a slot of the flash, with the addresses and the mode that the table gave. -/
def State.slotRead (s : State) (slot : Nat) : State :=
  s.emit (.flashImage (0x00800000 * slot) (if s.is F.FLASH_SFDP_ADDR4 then 4 else 3) (s.fld F.FLASH_SFDP_READ))

/-- What the boot ROM does once the self-test is over: it waits for an image, or reads slot 0 of the flash (R299, R300); none in Retired (R417). -/
def State.bootWait (s : State) : State :=
  if s.fld F.LIFE_STATE_STATE = 5 then s
  else if s.pins.bootSel = 0 then
    let s := ((s.emit (.flash 0x5A 3 0 false 0 [])).wr R.FLASH_SFDP (sfdpWord (Config.freeWord s.free))).use
    ((s.setFld F.FLASH_BOOT_STAT_PHASE 2).put F.FLASH_BOOT_STAT_SLOT false).slotRead 0
  else s.setFld F.FLASH_BOOT_STAT_PHASE 1

/-! ## Authentication (R421, R423, R424) -/

/-- The image has the format of R421. -/
def imageFormed (i : List (BitVec 8)) : Bool :=
  let len := wordOf i 0xC
  wordOf i 0 == 0x57464756 && wordOf i 4 == 1 && decide (wordOf i 8 < 65536) && len % 4 == 0 && decide (len ≤ 0x3FFF00)
    && wordOf i 0x10 % 4 == 0 && decide (0x100 + len ≤ i.length) && allZero (slice i 0x14 12) && allZero (slice i 0x81 7)
    && allZero (slice i 0xE8 24)

/-- The body of an image. -/
def imageBody (i : List (BitVec 8)) : List (BitVec 8) := slice i 0x100 (wordOf i 0xC)

/-- The digest of an image. -/
def imageDigest (i : List (BitVec 8)) : List (BitVec 8) := sha384 (i.take 0x88 ++ imageBody i)

/-- The lifecycle state accepts firmware signed by a key: 1 the Vangoft key, 2 and 3 customer keys, 0 another. -/
def keyAllowed (st key : Nat) : Bool :=
  if st = 0 ∨ st = 4 then key == 1 else if st = 1 then true else (st == 2 || st == 3) && decide (2 ≤ key)

/-- How an image fares: accepted with AUTH.MODE and AUTH.SLOT, or AUTH.FAIL. -/
def State.imageVerdict (s : State) (i : List (BitVec 8)) : Sum (Nat × Nat) Nat :=
  let st := s.fld F.LIFE_STATE_STATE
  let pub := slice i 0x20 97
  let sig := slice i 0x88 96
  let key := s.keyOf pub
  if st = 5 then .inr 5
  else if !imageFormed i then .inr 1
  else if allZero pub then (if st ≠ 1 then .inr 5 else if sig.take 48 = imageDigest i then .inl (3, 0) else .inr 2)
  else if !ecdsaP384 (imageDigest i) pub sig then .inr 2
  else if !keyAllowed st key then .inr 3
  else if st = 3 ∧ wordOf i 8 < s.rollbackCount then .inr 4
  else .inl (if key = 1 then 1 else 2, if key = 3 then 1 else 0)

/-- An accepted image runs: its body copied, the outcome recorded, the supervisor at its entry. -/
def State.imageRun (s : State) (i : List (BitVec 8)) (mode slot : Nat) : State :=
  let s := s.putWords ⟨2, 1⟩ 0x01001000 (imageBody i)
  let s := s.wr R.LIFE_AUTH (BitVec.ofNat 32 (mode + 4 * slot + 65536 * wordOf i 8))
  { s.setFld F.FLASH_BOOT_STAT_PHASE 3 with sup := { s.sup with pc := BitVec.ofNat 32 (0x01001000 + wordOf i 0x10) } }

/-- An image refused: slot 1 of the flash follows slot 0, and both failed is FAILED; the other sources wait for another image. -/
def State.imageFail (s : State) (fail : Nat) : State :=
  let s := s.wr R.LIFE_AUTH (BitVec.ofNat 32 (8 * fail))
  if s.pins.bootSel ≠ 0 then s.setFld F.FLASH_BOOT_STAT_PHASE 1
  else if s.is F.FLASH_BOOT_STAT_SLOT then s.setFld F.FLASH_BOOT_STAT_PHASE 4
  else (s.put F.FLASH_BOOT_STAT_SLOT true).slotRead 1

/-- IMAGE_AUTHENTICATE: the image of a flash slot, or the one delivered to shared SRAM. -/
def State.authenticate (s : State) (slot : Nat) (image : List (BitVec 8)) : State :=
  let finish (s : State) (i : List (BitVec 8)) : State :=
    match s.imageVerdict i with
    | .inl a => s.imageRun i a.1 a.2
    | .inr f => s.imageFail f
  if s.domOn 1 && s.fld F.FLASH_BOOT_STAT_PHASE == 2 then
    if s.pins.bootSel = 0 then (if slot = s.fld F.FLASH_BOOT_STAT_SLOT then finish s image else s)
    else
      let len := s.fld F.FLASH_BOOT_DOOR_LENGTH
      if 0x400000 < len then s.imageFail 1
      else
        let x := s.memRead ⟨2, 1⟩ 0x02000000 len
        if x.2.1 = .done then finish x.1 x.2.2 else x.1.imageFail 1
  else s

/-! ## The command engine (R301) -/

/-- The data phase of a command word: 3 is used as 0. -/
def flashDir (v : Nat) : Nat := if bitsOf v 10 2 = 3 then 0 else bitsOf v 10 2

/-- A refused GO. -/
def State.flashRefuse (s : State) (code err : Nat) : State × Resp := (s.setFld F.FLASH_STAT_CODE code, .err err)

/-- A write of FLASH.CMD. -/
def State.flashCmd (s : State) (m : Master) (v : Word) : State × Resp :=
  let dir := flashDir v.toNat
  let buf := (s.rd R.FLASH_BUF).toNat
  let len := s.fld F.FLASH_LEN_LEN
  if m.code ≠ 1 then s.flashRefuse 4 2
  else if !bitAt v.toNat 14 then (s.plainWrite R.FLASH_CMD v, .ok)
  else if s.is F.FLASH_STAT_BUSY then s.flashRefuse 1 1
  else if !argOk buf (if dir = 0 then 1 else len) ∨ dir ≠ 0 ∧ 65536 < len then s.flashRefuse 2 1
  else
    let x := s.gateRequest 5
    if !x.2 then (s, .err 1)
    else
      let s := ((x.1.plainWrite R.FLASH_CMD v).put F.FLASH_STAT_BUSY true).setFld F.FLASH_STAT_CODE 0
      let r := if dir = 2 then s.memRead ⟨2, 1⟩ buf len else (s, .done, [])
      let ab := s.fld F.FLASH_CMD_ABYTES
      let addr := if ab = 1 then s.fld F.FLASH_ADDR_ADDR % 2 ^ 24 else if ab = 2 then s.fld F.FLASH_ADDR_ADDR else 0
      let bytes := if ab = 1 then 3 else if ab = 2 then 4 else 0
      ({ r.1 with flash := some ⟨dir, buf, len, bitAt v.toNat 13⟩ }.emit
        (.flash (bitsOf v.toNat 0 8) bytes addr (bitAt v.toNat 12) (if dir = 1 then len else 0) r.2.2), .ok)

/-- The running command ends with a code. -/
def State.flashStop (s : State) (code : Nat) : State :=
  ((({ s with flash := none }.put F.FLASH_STAT_BUSY false).put F.FLASH_STAT_DONE true).setFld F.FLASH_STAT_CODE code).gateRest 5

/-- Polls of status instruction 0x05 with the bytes they return (R301): the first whose bit 0 is clear ends the command; without one it still runs. -/
def State.flashPoll (s : State) (l : List (BitVec 8)) : State :=
  match l with
  | [] => s
  | b :: bs =>
    let s := s.emit (.flash 0x05 0 0 false 1 [])
    if b.getLsbD 0 then s.flashPoll bs else s.flashStop 0

/-- FLASH_COMMAND_END: bytes read reach the buffer; with POLL the status is polled then. -/
def State.flashEnd (s : State) (bytes polls : List (BitVec 8)) : State :=
  match s.flash with
  | none => s
  | some r =>
    let s := if r.dir = 1 then (s.memWrite ⟨2, 1⟩ r.buf ((bytes.take r.len).map some)).1 else s
    if r.poll then { s with flash := some { r with dir := 0 } }.flashPoll polls else s.flashStop 0

/-- A write of a register of the FLASH block at an offset. -/
def State.flashWrite (s : State) (m : Master) (off : Nat) (v : Word) : State × Resp :=
  if off = 0x004 then s.bootDoor m v
  else if off = 0x00C then s.flashCmd m v
  else (s.plainWrite (0x04013000 + off) v, .ok)

/-- A read of a register of the FLASH block at an offset. -/
def State.flashRead (s : State) (off : Nat) : State × Resp × Word :=
  if off = 0x000 then (s, .ok, setBits (s.rd R.FLASH_BOOT_STAT) 0 2 s.pins.bootSel)
  else
    let x := s.plainRead (0x04013000 + off)
    (x.1, .ok, x.2)

/-! ## Commands -/

/-- BOOT_DOOR (R299): a write with GO = 1. -/
def execBootDoor (m : Master) (v : Word) (s : State) : Host.Outcome State Fault Refusal :=
  done (s.via R.FLASH_BOOT_DOOR m fun s => s.bootDoor m (v ||| 0x80000000#32))

/-- IMAGE_AUTHENTICATE (R421 to R424). -/
def execImageAuthenticate (slot : Fin 2) (image : List (BitVec 8)) (s : State) : Host.Outcome State Fault Refusal := done (s.authenticate slot image)

/-- FLASH_COMMAND (R301): a write of FLASH.CMD with GO = 1. -/
def execFlashCommand (m : Master) (v : Word) (s : State) : Host.Outcome State Fault Refusal :=
  done (s.via R.FLASH_CMD m fun s => s.flashCmd m (v ||| 0x4000#32))

/-- FLASH_COMMAND_END (R301). -/
def execFlashCommandEnd (answer : List (BitVec 8) × List (BitVec 8)) (s : State) : Host.Outcome State Fault Refusal := done (s.flashEnd answer.1 answer.2)

/-- FLASH_COMMAND_TIMEOUT (R301). -/
def execFlashCommandTimeout (s : State) : Host.Outcome State Fault Refusal := done (if s.is F.FLASH_STAT_BUSY then s.flashStop 3 else s)

end Sys2Proof.Machine
end

