-- ==== Sys2Proof/Machine/Dma.lean ====
section
/-! DEFINITION. Sys2Proof/Machine/Dma.lean: the DMA channels (R272 to R275, R303). -/

namespace Sys2Proof.Machine

def State.dmaChan (s : State) (c : Nat) : DmaChan := tabGet (fun _ => DmaChan.init) s.dma c
def State.setDmaChan (s : State) (c : Nat) (d : DmaChan) : State := { s with dma := tabPut (fun _ => DmaChan.init) s.dma c d }

/-- The channel is RUNNING. -/
def State.dmaRuns (s : State) (c : Nat) : Bool := s.domOn 14 && s.fld (F.DMA_CH_STAT_STATE c) == 1

/-- Local addresses that a channel may use (R273). -/
def dmaLocal (a n : Nat) : Bool := decide (0x02000000 ≤ a) && decide (a + n ≤ 0x02800000)

/-- The reader that a channel is. -/
def dmaReader : Reader := ⟨5, 0⟩

/-- The descriptor's STATUS written. -/
def State.dmaStatus (s : State) (c v : Nat) : State :=
  let d := (s.dmaChan c).desc
  if dmaLocal d 32 then (s.memWrite dmaReader (d + 20) ((leBytes 4 v).map some)).1 else s

/-- A halt (R275): the data of requests already issued will be discarded. -/
def State.dmaHalt (s : State) (c code addr : Nat) : State :=
  let s := (s.setFld (F.DMA_CH_STAT_STATE c) 2).setFld (F.DMA_CH_STAT_CODE c) code
  let s := ((s.wr (R.DMA_CH_FAIL c) (BitVec.ofNat 32 addr)).setBit F.DMA_EVENT_HALT c).dmaStatus c code
  (s.setDmaChan c { s.dmaChan c with reqs := (s.dmaChan c).reqs.map fun r => (false, r.2) }).gateRest 8

/-- The descriptor in 32 bytes read at an address. -/
def descOf (a : Nat) (b : List (BitVec 8)) : DmaChan :=
  let w3 := wordOf b 12
  { desc := a, host := wordOf b 0 + 2 ^ 32 * wordOf b 4, local_ := wordOf b 8, len := bitsOf w3 0 24, dir := bitAt w3 24, irq := bitAt w3 25,
    last := bitAt w3 26, next := wordOf b 16, moved := 0, asked := 0, reqs := [] }

/-- The bytes of the largest read request (R268, R274): larger settings are used as 512 B. -/
def State.readMax (s : State) : Nat := min 512 (128 * 2 ^ s.pcie.set.readReq.val)

/-- The bytes of the largest write request (R268). -/
def State.payloadMax (s : State) : Nat := 128 * 2 ^ min 2 s.pcie.set.payload.val

/-- Read requests outstanding from the engine. -/
def State.dmaOutstanding (s : State) : Nat := (List.range 8).foldl (fun t c => t + (s.dmaChan c).reqs.length) 0

/-- Read requests of a running channel, as many as may go out now: at most 8 of the channel and 32 of the engine outstanding (R268, R274). Each is a request to the PCIe
controller's application side, which refuses it while that is switched off (R315): DEDUCED, the channel halts as for a host completion in error (log entry 112). -/
def State.dmaAsk (s : State) (c fuel : Nat) : State :=
  match fuel with
  | 0 => s
  | fuel + 1 =>
    let d := s.dmaChan c
    if !s.dmaRuns c || d.dir || d.len ≤ d.asked || 8 ≤ d.reqs.length || 32 ≤ s.dmaOutstanding then s
    else if !s.is (F.CLK_GATE_RUN 7) then s.dmaHalt c 2 (d.local_ + d.moved)
    else
      let s := s.gateOpen 7
      let n := min s.readMax (d.len - d.asked)
      ((s.setDmaChan c { d with asked := d.asked + n, reqs := d.reqs ++ [(true, n)] }).emit (.hostDma false (d.host + d.asked) n [])).dmaAsk c fuel

/-- The requests of every channel, the lowest first. -/
def State.dmaPump (s : State) : State := each (List.range 8) (fun c s => s.dmaAsk c 8) s

/-- A descriptor fetched; its addresses are judged before any byte moves. -/
def State.dmaFetch (s : State) (c a : Nat) : State :=
  let s := s.setDmaChan c { DmaChan.init with desc := a, reqs := (s.dmaChan c).reqs }
  if !dmaLocal a 32 then s.dmaHalt c 4 a
  else
    let x := s.memRead dmaReader a 32
    match x.2.1 with
    | .bad => x.1.dmaHalt c 5 a
    | .denied _ => x.1.dmaHalt c 7 a
    | .done =>
      let d := descOf a x.2.2
      let s := x.1.setDmaChan c { d with reqs := (s.dmaChan c).reqs }
      if dmaLocal d.local_ d.len then s.dmaAsk c 8 else s.dmaHalt c 4 (if dmaLocal d.local_ 1 then 0x02800000 else d.local_)

/-- A write of START (R273, R274). -/
def State.dmaBegin (s : State) (c : Nat) : State × Resp :=
  if s.fld (F.DMA_CH_STAT_STATE c) = 1 then (s.put F.DMA_EVENT_REFUSED true, .err 1)
  else
    let x := s.gateRequest 8
    if x.2 then ((x.1.setFld (F.DMA_CH_STAT_STATE c) 1).dmaFetch c (s.fld (F.DMA_CH_DESC_ADDR c) * 32), .ok) else (s, .err 1)

/-- STOP, or a reset of the function (code 6). -/
def State.dmaCut (s : State) (c : Nat) : State :=
  if s.fld (F.DMA_CH_STAT_STATE c) = 1 then s.dmaHalt c 6 ((s.dmaChan c).local_ + (s.dmaChan c).moved) else s

/-- The masters that control a channel (R273). -/
def dmaMasters (c : Nat) : List Nat := if c < 4 then [1, 3] else [1, 2, 3, 4]

/-- A write of CH_CTL: STOP, then START. -/
def State.dmaCtl (s : State) (m : Master) (c : Nat) (v : Word) : State × Resp :=
  s.only m (dmaMasters c) fun s =>
    let s := if bitAt v.toNat 1 then s.dmaCut c else s
    if bitAt v.toNat 0 then s.dmaBegin c else (s, .ok)

/-- A descriptor is done: its STATUS, the count, its event, and the next one. -/
def State.dmaFinish (s : State) (c : Nat) : State :=
  let d := s.dmaChan c
  let s := (s.dmaStatus c (2 ^ 31)).incr (F.DMA_CH_STAT_DONE c)
  let s := if d.irq then s.setBit F.DMA_EVENT_DONE c else s
  if d.last then (s.setFld (F.DMA_CH_STAT_STATE c) 0).gateRest 8 else s.dmaFetch c (d.next - d.next % 32)

/-- The first ECC word in error or poisoned among those of a range. -/
def State.firstBad (s : State) (a n : Nat) : Nat :=
  match (eccWords a n).find? fun w => match s.ecc w with
      | .ue _ | .poison => true
      | .clean | .ce _ _ => false with
  | some w => w
  | none => a

/-- Bytes moved and counted. -/
def State.dmaMoved (s : State) (c n : Nat) : State :=
  (s.setDmaChan c { s.dmaChan c with moved := (s.dmaChan c).moved + n }).tally (.plain 0x14 n)

/-- One write request to the host: at most the max payload size of the descriptor's bytes. -/
def State.dmaSend (s : State) (c : Nat) : State :=
  if s.dmaRuns c && !s.is (F.CLK_GATE_RUN 7) then s.dmaHalt c 2 ((s.dmaChan c).local_ + (s.dmaChan c).moved)
  else if s.dmaRuns c then
    let d := s.dmaChan c
    let a := d.local_ + d.moved
    let n := min s.payloadMax (d.len - d.moved)
    let x := (s.gateOpen 7).memRead dmaReader a n
    match x.2.1 with
    | .done => ((x.1.emit (.hostDma true (d.host + d.moved) n x.2.2)).bwCount 50 n).dmaMoved c n
    | .bad => x.1.dmaHalt c 1 (s.firstBad a n)
    | .denied _ => x.1.dmaHalt c 7 a
  else s

/-- DMA_DESCRIPTOR_DONE: the data of a descriptor to the host moves; a descriptor from the host is done when its last completion has come. -/
def State.dmaDone (s : State) (c : Nat) : State :=
  if s.dmaRuns c then
    let d := s.dmaChan c
    let s := if d.dir then (List.range (ceilDiv (d.len - d.moved) s.payloadMax)).foldl (fun s _ => s.dmaSend c) s else s
    if s.dmaRuns c && decide ((s.dmaChan c).len ≤ (s.dmaChan c).moved) then s.dmaFinish c else s
  else s

/-- Data of the descriptor in hand, or a completion without it. -/
def State.dmaTake (s : State) (c : Nat) (ok : Bool) (bs : List (BitVec 8)) : State :=
  let a := (s.dmaChan c).local_ + (s.dmaChan c).moved
  if !ok then s.dmaHalt c 2 a
  else
    let x := s.memWrite dmaReader a (bs.map some)
    match x.2 with
    | .denied _ => x.1.dmaHalt c 7 a
    | .done | .bad => x.1.dmaMoved c bs.length

/-- DMA_HOST_COMPLETION: it answers the oldest outstanding request, whole or in part, with at most the bytes that the request still waits for; a request whose channel
has halted discards its data. -/
def State.dmaGot (s : State) (c : Nat) (ok : Bool) (bytes : List (BitVec 8)) : State :=
  let s := (s.tally (.plain 0x16 1)).bwCount 24 bytes.length
  let d := s.dmaChan c
  match d.reqs with
  | [] => s
  | (live, n) :: rest =>
    let s := s.setDmaChan c { d with reqs := if ok && decide (bytes.length < n) then (live, n - bytes.length) :: rest else rest }
    (if s.dmaRuns c && live then s.dmaTake c ok (bytes.take n) else s).dmaPump

/-- DMA_COMPLETION_TIMEOUT: the oldest outstanding request ends without its data, unless the host has disabled the timeout (R268). -/
def State.dmaExpire (s : State) (c : Nat) : State :=
  let d := s.dmaChan c
  match if s.pcie.set.timeoutOff then [] else d.reqs with
  | [] => s
  | (live, _) :: rest =>
    let s := s.setDmaChan c { d with reqs := rest }
    (if s.dmaRuns c && live then s.dmaHalt c 3 (d.local_ + d.moved) else s).dmaPump

/-- A write of a register of the DMA block at an offset: a channel's registers from its own masters. -/
def State.dmaWrite (s : State) (m : Master) (off : Nat) (v : Word) : State × Resp :=
  if off < 0x100 then
    if off % 0x20 = 0 then s.dmaCtl m (off / 0x20) v
    else s.only m (dmaMasters (off / 0x20)) fun s => (s.plainWrite (0x0400D000 + off) v, .ok)
  else (s.plainWrite (0x0400D000 + off) v, .ok)

/-- DMA_START (R274). -/
def execDmaStart (m : Master) (ch : Fin 8) (s : State) : Host.Outcome State Fault Refusal :=
  done (s.via (R.DMA_CH_CTL ch) m fun s => s.dmaCtl m ch 1#32)

/-- DMA_STOP (R275). -/
def execDmaStop (m : Master) (ch : Fin 8) (s : State) : Host.Outcome State Fault Refusal :=
  done (s.via (R.DMA_CH_CTL ch) m fun s => s.dmaCtl m ch 2#32)

/-- DMA_DESCRIPTOR_DONE (R272, R275). -/
def execDmaDescriptorDone (ch : Fin 8) (s : State) : Host.Outcome State Fault Refusal := done (s.dmaDone ch)

/-- DMA_HOST_COMPLETION (R275). -/
def execDmaHostCompletion (ch : Fin 8) (ok : Bool) (bytes : List (BitVec 8)) (s : State) : Host.Outcome State Fault Refusal :=
  done (if s.domOn 14 then s.dmaGot ch ok bytes else s)

/-- DMA_COMPLETION_TIMEOUT (R275). -/
def execDmaCompletionTimeout (ch : Fin 8) (s : State) : Host.Outcome State Fault Refusal := done (s.dmaExpire ch)

end Sys2Proof.Machine
end

