-- ==== Sys2Proof/Machine/Towpath.lean ====
section
/-! DEFINITION. Sys2Proof/Machine/Towpath.lean: the ports of the towpath, packets, enumeration, routing, remote windows and SYNC (R283 to R298, R305, R330).
Port 0 is A, port 1 is B. -/

namespace Sys2Proof.Machine

def State.port (s : State) (p : Nat) : Port := tabGet (fun _ => Port.init) s.tow.ports p
def State.setPort (s : State) (p : Nat) (x : Port) : State :=
  { s with tow := { s.tow with ports := tabPut (fun _ => Port.init) s.tow.ports p x } }
def State.win (s : State) (w : Nat) : Win := tabGet (fun _ => Win.init) s.tow.wins w
def State.setWin (s : State) (w : Nat) (x : Win) : State :=
  { s with tow := { s.tow with wins := tabPut (fun _ => Win.init) s.tow.wins w x } }

/-- PD_TOW is powered. -/
def State.towOn (s : State) : Bool := s.domOn 15

/-- The device is the head. -/
def State.isHead (s : State) : Bool := s.towOn && s.is F.TOW_CTL_HEAD

/-- A device on a ring that is not its head (R297). -/
def State.isMember (s : State) : Bool := s.towOn && !s.is F.TOW_CTL_HEAD && s.is F.TOW_ID_VALID

/-- The port carries packets: up and not under test (R287). One that is switched off goes down with its last remote access (R315, R316). -/
def State.carries (s : State) (p : Nat) : Bool := s.portUp p && !s.is (F.TOW_PORT_CTL_TEST p)

/-- The port receives ordered sets: powered, switched on and not under test (R287, R315). -/
def State.portHears (s : State) (p : Nat) : Bool := s.towOn && s.is (F.CLK_GATE_RUN (1 + p)) && !s.is (F.TOW_PORT_CTL_TEST p)

/-- The name of a port in an index. -/
def otherPort (p : Nat) : Nat := 1 - p

/-- A packet sent (true) or received is counted, with its bytes from K27.7 to the CRC (R386, R394). -/
def State.towCount (s : State) (sent : Bool) (k : TowPkt) : State := (s.tally (.plain 0x15 1)).bwCount (25 + 26 * b2n sent) (13 + k.data.length)

/-- Characters coded at a port's running disparity (R283). -/
def State.coded10 (s : State) (p : Nat) (cs : List TowChar) : State × List (BitVec 10) :=
  let x := codeRun (s.port p).disp cs
  (s.setPort p { s.port p with disp := x.2 }, x.1)

/-- An ordered set out of a port. -/
def State.orderedOut (s : State) (p : Nat) (name : String) (arg : Nat) (cs : List TowChar) : State :=
  let x := s.coded10 p cs
  x.1.emit (.ordered p name arg x.2)

/-- The idle between packets (R283): one stands for as many as the line has time for (log entry 122). -/
def State.idleOut (s : State) (p : Nat) : State := s.orderedOut p "idle" 0 idleChars

/-- The wake out of a port, then idles (R286). -/
def State.wakeOut (s : State) (p : Nat) : State := (s.orderedOut p "wake" 0 (wakeChars (s.fld (F.TOW_PORT_STAT_SPEED p)))).idleOut p

/-- A packet out of a port: a sleeping transmitter wakes first (R286); on a port that is down it is lost. -/
def State.towSend (s : State) (p : Nat) (k : TowPkt) : State :=
  if s.carries p then
    let s := if s.is (F.TOW_PORT_STAT_TX_SLEEP p) then (s.put (F.TOW_PORT_STAT_TX_SLEEP p) false).wakeOut p else s
    let x := s.coded10 p (pktChars k)
    ((x.1.emit (.packet p k x.2)).towCount true k).idleOut p
  else s

/-- A packet of a type with its SRC, H6 and H7, no payload. -/
def plainPkt (typ dst src h6 h7 : Nat) : TowPkt :=
  { typ := typ, dst := dst % 64, src := src, hops := 63, sec := false, tag := 0, len := 0, addr := h7, stat := h6, data := [] }

/-- A packet forwarded out of the other port; one with no link left is dropped (R289). -/
def State.towForward (s : State) (p : Nat) (k : TowPkt) : State :=
  if k.hops = 0 then s else s.towSend (otherPort p) { k with hops := k.hops - 1 }

/-! ## Routing (R292, R293) -/

/-- Devices of the ring: 64 positions when its ends do not meet. -/
def State.ringSize (s : State) : Nat := if s.tow.openEnd then 64 else s.fld F.TOW_STAT_N

/-- The broken links: those reported, the open ends, and those of the head's own ports that are down. -/
def State.brokenLinks (s : State) : List Nat :=
  (if s.tow.openEnd then [s.fld F.TOW_STAT_N - 1, 63 - s.fld F.TOW_STAT_NB] else []) ++ s.tow.breaks
    ++ (if s.carries 0 then [] else [0]) ++ (if s.carries 1 then [] else [s.ringSize - 1])

/-- Port and reach of device d: none where it is not reachable, else true for port B. -/
def State.routeTo (s : State) (d : Nat) : Option Bool :=
  let n := s.ringSize
  let b := s.brokenLinks
  if d = 0 ∨ n ≤ d then none
  else
    match b with
    | [] => some (decide (n < 2 * d))
    | x :: l =>
      let lo := l.foldl min x
      let hi := l.foldl max x
      if d ≤ lo then some false else if hi < d then some true else none

/-- The tables after a change, with the event of a ring that opens or closes. -/
def State.reroute (s : State) : State :=
  if s.fld F.TOW_STAT_N = 0 then s
  else
    let bits (p : Nat → Bool) : Nat := (List.range 64).foldl (fun t d => if p d then t + 2 ^ d else t) 0
    let route := bits fun d => s.routeTo d == some true
    let reach := bits fun d => (s.routeTo d).isSome
    let op := !s.brokenLinks.isEmpty
    let was := s.is F.TOW_STAT_OPEN
    let s := (s.wr R.TOW_ROUTE_LO (BitVec.ofNat 32 route)).wr R.TOW_ROUTE_HI (BitVec.ofNat 32 (route / 2 ^ 32))
    let s := (s.wr R.TOW_REACH_LO (BitVec.ofNat 32 reach)).wr R.TOW_REACH_HI (BitVec.ofNat 32 (reach / 2 ^ 32))
    let s := s.put F.TOW_STAT_OPEN op
    if op && !was then s.setBit F.TOW_EVENT_BITS 4 else if was && !op then s.setBit F.TOW_EVENT_BITS 5 else s

/-- A device's port has gone down, or come up: the link it lies on (R293). -/
def State.linkReport (s : State) (d port : Nat) (up : Bool) : State :=
  let l := if port = 0 then d else d - 1
  ({ s with tow := { s.tow with breaks := if up then s.tow.breaks.filter fun x => x != l else l :: s.tow.breaks.filter fun x => x != l } }).reroute

/-- One of this device's ports has gone down, or come up, for the ring: the head updates its tables, another device tells the head. -/
def State.portReport (s : State) (p : Nat) (up : Bool) : State :=
  if s.isHead then s.reroute
  else if s.isMember then s.towSend (otherPort p) (plainPkt 6 0 (s.fld F.TOW_ID_ID) (if up then 3 else 2) p)
  else s

/-! ## Ports (R284 to R287) -/

/-- The highest speed this device allows: its CAP, 0 while the clocked domains run from the FRO (R312). -/
def State.ownCap (s : State) : Nat := if s.is F.CLK_SRC_SEL then min (s.fld F.TOW_CFG_MAX_SPEED) 2 else 0

/-- A step to the next speed is due after 8 good SOFs when both ends allow it (R285). -/
def State.stepDue (s : State) (p : Nat) : State :=
  let x := s.port p
  let cap := min (s.fld (F.TOW_PORT_STAT_PARTNER_CAP p)) s.ownCap
  if decide (8 ≤ x.good) && !x.trying && !s.is (F.TOW_PORT_STAT_SPEED_FAIL p) && decide (s.fld (F.TOW_PORT_STAT_SPEED p) < cap) then
    s.setPort p { x with due := true }
  else s

/-- The data byte of an SOF (R284): when a device lets its partner sleep is not stated. -/
def State.sofByte (s : State) (sleeping : Bool) : Nat :=
  s.ownCap + 4 * b2n ((Config.freeWord s.free).getLsbD 0) + 8 * b2n sleeping + 16 * b2n s.isHead

/-- The length of the selected test pattern, 0 for the reserved selection (R305). -/
def State.testPattern (s : State) (p : Nat) : Nat := [0, 7, 15, 31].getD (s.fld (F.TOW_PORT_CTL_PRBS p)) 0

/-- What a port under test sends in the 1,600 ticks from one SOF's time to the next (R287): raw bits of its generator, two in a tick at 1.5625 Gb/s, the first of them
inverted where INJECT asks for it. -/
def State.testSend (s : State) (p : Nat) : State :=
  let x := s.port p
  let n := s.testPattern p
  if n = 0 then s
  else
    let r := prbsRun n (prbsShape n) (3200 * 2 ^ s.fld (F.TOW_PORT_STAT_SPEED p))
      (if x.prbs = 0 then seedOf n (Config.patternPhase (48 + p) n).toNat else x.prbs)
    (s.setPort p { x with prbs := r.2, inject := false }).emit (.testBits p (match r.1 with
      | b :: bs => (b != x.inject) :: bs
      | [] => []))

/-- SOF_SEND: a step of speed that is due follows it. A port under test sends raw bits in its place. A port that is switched off sends neither (R315), and either opens the gate of
one that sleeps (R314). -/
def State.sofSend (s : State) (p : Nat) : State :=
  if !s.towOn || !s.is (F.CLK_GATE_RUN (1 + p)) then s
  else if s.is (F.TOW_PORT_CTL_TEST p) then (s.gateOpen (1 + p)).testSend p
  else if !s.is (F.TOW_PORT_STAT_TX_SLEEP p) then
    let d := s.sofByte false
    let s := (s.gateOpen (1 + p)).use.orderedOut p "SOF" d (sofChars d)
    if (s.port p).due then
      (s.setPort p { s.port p with due := false, trying := true, good := 0, sync := false }).setFld (F.TOW_PORT_STAT_SPEED p) (s.fld (F.TOW_PORT_STAT_SPEED p) + 1)
    else s
  else s

/-- SOF_RECEIVE: a good SOF, whose receiver is in sync; after SLEEPING the line is electrically idle. -/
def State.sofReceive (s : State) (p d : Nat) : State :=
  if s.portHears p then
    let x := s.port p
    let s := s.setPort p { x with good := min (x.good + 1) 8, sleepOk := bitAt d 2, sync := !bitAt d 3 }
    let s := s.setFld (F.TOW_PORT_STAT_PARTNER_CAP p) (d % 4)
    (if bitAt d 3 then s.put (F.TOW_PORT_STAT_RX_SLEEP p) true else s).stepDue p
  else s

/-- SPEED_STEP_CONFIRM. -/
def State.stepKept (s : State) (p : Nat) : State :=
  let x := s.port p
  if s.towOn && x.trying && decide (8 ≤ x.good) then (s.setPort p { x with trying := false }).stepDue p else s

/-- SPEED_STEP_TIMEOUT: back to the previous speed, and no further step. -/
def State.stepLost (s : State) (p : Nat) : State :=
  let x := s.port p
  if s.towOn && x.trying then
    ((s.setPort p { x with trying := false, good := 0 }).setFld (F.TOW_PORT_STAT_SPEED p) (s.fld (F.TOW_PORT_STAT_SPEED p) - 1)).put
      (F.TOW_PORT_STAT_SPEED_FAIL p) true
  else s

/-- PORT_UP: the port is up at its final speed, its gate open (R314); its link delay is measured (R298). -/
def State.portRise (s : State) (p : Nat) : State :=
  if s.towOn && !s.is (F.TOW_PORT_STAT_UP p) && s.is (F.CLK_GATE_RUN (1 + p)) then
    let s := ((s.gateOpen (1 + p)).put (F.TOW_PORT_STAT_UP p) true).setBit F.TOW_EVENT_BITS (2 + p)
    let s := s.setPort p { s.port p with sync := true }
    let s := (s.setFld (F.TOW_PORT_DELAY_TICKS p) (Config.freeWord s.free).toNat).use
    if s.carries p then s.portReport p true else s
  else s

/-- A port goes down: it restarts at 1.5625 Gb/s. -/
def State.portDown (s : State) (p : Nat) : State :=
  if s.towOn then
    let up := s.is (F.TOW_PORT_STAT_UP p)
    let ring := s.carries p
    let s := (s.wr (R.TOW_PORT_STAT p) 0#32).setPort p Port.init
    let s := if up then s.setBit F.TOW_EVENT_BITS p else s
    if ring then s.portReport p false else s
  else s

/-- LINK_LOSS (R287): no loss where the partner's last SOF showed SLEEPING. -/
def State.portFall (s : State) (p : Nat) : State := if s.is (F.TOW_PORT_STAT_RX_SLEEP p) then s else s.portDown p

/-- A port that is switched off goes down, once no remote access through it is left (R315, R316). -/
def State.portRest (s : State) (p : Nat) : State :=
  if s.is (F.CLK_GATE_RUN (1 + p)) || s.gateBusy (1 + p) then s else (s.portDown p).put (F.CLK_GATE_OPEN (1 + p)) false

/-- A write of GATE[b] (R315): a towpath port whose RUN becomes 0 goes down when it is idle. -/
def State.gateSwitch (s : State) (m : Master) (b : Nat) (v : Word) : State × Resp :=
  let x := s.gateWrite m b v
  if (b = 1 ∨ b = 2) ∧ x.2 = .ok then (x.1.portRest (b - 1), .ok) else x

/-- TX_SLEEP: SLEEP_US have passed with no packet. -/
def State.txSleep (s : State) (p : Nat) : State :=
  if s.carries p && s.is (F.TOW_PORT_CTL_SLEEP_EN p) && (s.port p).sleepOk && !s.is (F.TOW_PORT_STAT_TX_SLEEP p) then
    (s.use.orderedOut p "SOF" (s.sofByte true) (sofChars (s.sofByte true))).put (F.TOW_PORT_STAT_TX_SLEEP p) true
  else s

/-- TX_WAKE. -/
def State.txWake (s : State) (p : Nat) : State :=
  if s.towOn && s.is (F.TOW_PORT_STAT_TX_SLEEP p) then (s.put (F.TOW_PORT_STAT_TX_SLEEP p) false).wakeOut p else s

/-! ## Enumeration (R290, R291) -/

/-- The pass's ENUM sent. -/
def State.enumSend (s : State) (pass : Nat) : State :=
  let s := { s with tow := { s.tow with pass := pass } }
  if pass = 1 then s.towSend 0 (plainPkt 5 1 0 0 0) else s.towSend 1 (plainPkt 5 63 0 1 0)

/-- A write of 1 to ENUM at the head. -/
def State.enumBegin (s : State) : State :=
  if s.isHead && !s.is F.TOW_STAT_ENUM_BUSY then
    ({ s with tow := { s.tow with hello := false } }.put F.TOW_STAT_ENUM_BUSY true).enumSend 1
  else s

/-- Enumeration ends: closed, or open, with the devices found. -/
def State.enumEnd (s : State) (openEnd : Bool) (n nb : Nat) : State :=
  let first := s.fld F.TOW_STAT_N == 0
  let s := { s with tow := { s.tow with pass := 0, openEnd := openEnd, breaks := [] } }.put F.TOW_STAT_ENUM_BUSY false
  let s := ((s.setFld F.TOW_STAT_N n).setFld F.TOW_STAT_NB nb).reroute
  if first && !s.is F.TOW_STAT_OPEN then s.setBit F.TOW_EVENT_BITS 5 else s

/-- ENUM_TIMEOUT: the second pass follows the first. What an open ring's passes found is not stated. -/
def State.enumExpire (s : State) : State :=
  if s.towOn && s.is F.TOW_STAT_ENUM_BUSY then
    if s.tow.pass = 1 then s.enumSend 2
    else
      let v := (Config.freeWord s.free).toNat
      let n := v % 64 + 1
      s.use.enumEnd true n (v / 64 % (65 - n))
  else s

/-- TOW_ENUM received on a port. -/
def State.enumReceive (s : State) (p : Nat) (k : TowPkt) : State :=
  if s.is F.TOW_CTL_HEAD then
    if s.is F.TOW_STAT_ENUM_BUSY && s.tow.pass == 1 && p == 1 then s.enumEnd false (if k.dst % 64 = 0 then 64 else k.dst % 64) 0
    else if s.is F.TOW_STAT_ENUM_BUSY && s.tow.pass == 2 && p == 0 then
      let v := (Config.freeWord s.free).toNat
      let nb := 63 - k.dst % 64
      s.use.enumEnd true (v % (64 - nb) + 1) nb
    else s.setBit F.TOW_EVENT_BITS 7
  else
    let s := s.wr R.TOW_ID (BitVec.ofNat 32 (k.dst % 64 + 64))
    s.towForward p { k with dst := (if p = 1 then k.dst + 1 else k.dst + 63) % 64 }

/-! ## Events and HELLO (R293, R294, R297) -/

/-- The head takes an EVENT. -/
def State.eventTake (s : State) (k : TowPkt) : State :=
  if k.stat = 1 then s.putPairBit R.TOW_REMOTE_IRQ_LO (k.src % 64) true
  else if k.stat = 2 then s.linkReport (k.src % 64) (k.addr % 2) false
  else if k.stat = 3 then s.linkReport (k.src % 64) (k.addr % 2) true
  else s

/-- The head takes a HELLO: the first since the last enumeration is an event. -/
def State.helloTake (s : State) : State :=
  if s.tow.hello then s else { s with tow := { s.tow with hello := true } }.setBit F.TOW_EVENT_BITS 6

/-- HELLO_SEND: a device without an ID says so out of both ports. -/
def State.helloSend (s : State) : State :=
  if s.towOn && !s.is F.TOW_CTL_HEAD && !s.is F.TOW_ID_VALID then (s.towSend 0 (plainPkt 7 0 0 0 0)).towSend 1 (plainPkt 7 0 0 0 0) else s

/-! ## Remote windows (R295) -/

/-- The owner of a window, a master code. -/
def windowOwner (w : Nat) : Nat := [1, 3, 4, 5].getD w 0

/-- The local address of an aperture's offset. -/
def windowPlace (w x : Nat) : Nat := 0x04010800 + 0x200 * w + x

/-- The master of a remote read. -/
def State.askerMaster (s : State) (k : Asker) : Master :=
  match k with
  | .port m | .bar m _ => m
  | .indirect | .ahead => .smp
  | .load _ _ => s.coreMaster .sup

/-- A refused access of the PCIe endpoint recorded, and reported through AER with its header (R271, R302): bars 0 to 2 are BAR0, BAR2, BAR4. -/
def State.pcieRefuse (s : State) (write : Bool) (bar off cause : Nat) : State :=
  let s := s.wr R.PCIE_ERR_ADDR (BitVec.ofNat 32 off)
  let s := (s.put F.PCIE_ERR_INFO_WRITE write).setFld F.PCIE_ERR_INFO_BAR bar
  let s := s.setFld F.PCIE_ERR_INFO_CAUSE (if cause = 6 then 1 else cause)
  let s := (s.bump F.PCIE_ERR_INFO_COUNT 1).put F.PCIE_EVENT_REFUSED true
  { s with pcie := { s.pcie with aer := some ⟨write, bar, off⟩ } }.emit (.aer write bar off)

/-- The answer of a remote read to its asker: an error code, or data. A load of the supervisor ends, or traps; a word that IND_DATA is refused reads as 0 (R282). -/
def State.reply (s : State) (k : Asker) (err : Nat) (data : List (BitVec 8)) : State :=
  match k with
  | .port m => s.emit (.data m err data)
  | .bar m off => (if err = 0 || !s.domOn 14 then s.bwCount 50 data.length else s.pcieRefuse false 0 off err).emit (.data m err data)
  | .indirect => if err = 0 then s.emit (.data .smp 0 data) else { s with smp := { s.smp with indStat := true } }.emit (.data .smp 0 (leBytes 4 0))
  | .ahead => { s with smp := { s.smp with fetch := .word err data } }
  | .load rd addr =>
    if s.sup.stall then
      let s := { s with sup := { s.sup with stall := false } }
      if err = 0 then (s.setReg .sup rd (BitVec.ofNat 32 (leValue data))).advance .sup else s.supTrap 8 1 s.sup.pc addr
    else s

/-- An access leaves a window as one packet (R295). -/
def State.winSend (s : State) (w : Nat) (o : WinOp) : State :=
  let tag := s.tow.tag
  let dev := s.fld (F.TOW_RWIN_DEV_DEV w)
  let s := s.setWin w { s.win w with sent := (s.win w).sent ++ [(tag, o)] }
  { s with tow := { s.tow with tag := (tag + 1) % 256 } }.towSend (s.routePort dev)
    { typ := if o.ask.isSome then 1 else 2, dst := dev, src := 0, hops := 63, sec := w != 2, tag := tag, len := o.len, addr := o.addr, stat := 0, data := o.data }

/-- The writes that wait at a window are sent, up to four unacknowledged (R295). -/
def State.winPump (s : State) (w : Nat) : Nat → State
  | 0 => s
  | fuel + 1 =>
    match (s.win w).waiting with
    | [] => s
    | o :: l =>
      if 4 ≤ ((s.win w).sent.filter fun e => e.2.ask.isNone).length then s
      else ((s.setWin w { s.win w with waiting := l }).winSend w o).winPump w fuel

/-- The pump of a window with all that waits. -/
def State.winRun (s : State) (w : Nat) : State := s.winPump w (s.win w).waiting.length

/-- Why an access of `n` bytes at offset `x` of window w is refused at once, as an error code: not its owner 2, a size or an alignment that makes no packet 4,
not the head, a device out of reach, or a port that is switched off 1 (R292, R315). -/
def State.winRefuses (s : State) (m : Master) (w x n : Nat) : Option Nat :=
  if m.code ≠ windowOwner w then some 2
  else if n < 4 ∨ 64 < n ∨ x % 4 ≠ 0 ∨ n % 4 ≠ 0 ∨ 64 < x % 64 + n then some 4
  else if !s.isHead || !s.pairBit R.TOW_REACH_LO (s.fld (F.TOW_RWIN_DEV_DEV w)) || !s.is (F.CLK_GATE_RUN (1 + s.routePort (s.fld (F.TOW_RWIN_DEV_DEV w)))) then
    some 1
  else none

/-- A read at a window: none when it has been sent. DEDUCED: one that finds a read outstanding is refused at once, for only a write may wait (R1, R267, R295; log entry 56). -/
def State.winRead (s : State) (m : Master) (w x n : Nat) (ask : Asker) : State × Option Nat :=
  match s.winRefuses m w x n with
  | some c => (s, some c)
  | none =>
    if (s.win w).sent.any fun e => e.2.ask.isSome then (s, some 1)
    else (s.winSend w ⟨s.fld (F.TOW_RWIN_SEL_BASE w) + x, windowPlace w x, n, some ask, []⟩, none)

/-- A refused write at a window sets its ERR (R295). -/
def State.winDeny (s : State) (w c : Nat) : State × Resp := (s.put (F.TOW_RWIN_STAT_ERR w) true, .err c)

/-- A write at a window. -/
def State.winWrite (s : State) (m : Master) (w x : Nat) (bs : List (BitVec 8)) : State × Resp :=
  match s.winRefuses m w x bs.length with
  | some c => s.winDeny w c
  | none =>
    let o : WinOp := ⟨s.fld (F.TOW_RWIN_SEL_BASE w) + x, windowPlace w x, bs.length, none, bs⟩
    let s := s.setWin w { s.win w with waiting := (s.win w).waiting ++ [o] }
    (s.winRun w, .ok)

/-- The window with an outstanding access of a tag and kind. -/
def State.winOf (s : State) (tag : Nat) (read : Bool) : Option (Nat × WinOp) :=
  (List.range 4).findSome? fun w => ((s.win w).sent.find? fun e => e.1 == tag && e.2.ask.isSome == read).map fun e => (w, e.2)

/-- An outstanding access ends: what waits behind it is sent. -/
def State.winDrop (s : State) (w tag : Nat) : State :=
  (s.setWin w { s.win w with sent := (s.win w).sent.filter fun e => e.1 != tag }).winRun w

/-- A remote read of a port that is switched off has ended: its gate may close (R316). -/
def State.askRest (s : State) (k : Asker) : State := if k.viaSmp then s.gateRest 6 else if k.viaPcie then s.gateRest 7 else s

/-- The end of an access: the read's answer, or the write's error. -/
def State.winEnd (s : State) (w : Nat) (o : WinOp) (err : Nat) (data : List (BitVec 8)) : State :=
  match o.ask with
  | some k => (s.busTally (s.askerMaster k) o.place (if err = 0 then .ok else .err 1)).reply k err data |>.askRest k
  | none => if err = 0 then s else s.put (F.TOW_RWIN_STAT_ERR w) true

/-- A response that reaches the head. -/
def State.winResponse (s : State) (k : TowPkt) (read : Bool) : State :=
  match s.winOf k.tag read with
  | none => s
  | some (w, o) =>
    let s := (s.setFld (F.TOW_RWIN_STAT_STATUS w) k.stat).winDrop w k.tag
    ((s.winEnd w o (k.stat % 4) k.data).portRest 0).portRest 1

/-- REMOTE_WINDOW_TIMEOUT: the oldest outstanding access of a window ends with an error. -/
def State.winExpire (s : State) (w : Nat) : State :=
  match (s.win w).sent with
  | [] => s
  | (tag, o) :: _ => ((((s.setBit F.TOW_EVENT_BITS 8).winDrop w tag).winEnd w o 1 []).portRest 0).portRest 1

/-! ## SYNC (R298, R330, R364) -/

/-- The device acts on a SYNC: the timebase is captured, and loaded where TIME.CTL asks for it, and the decimators restart. -/
def State.syncDo (s : State) : State :=
  let s := { s with tow := { s.tow with syncDue := false } }
  let s := (s.wr R.TIME_SYNC_CAP_LO (BitVec.ofNat 32 s.tb.toNat)).wr R.TIME_SYNC_CAP_HI (BitVec.ofNat 32 (s.tb.toNat / 2 ^ 32))
  let s := s.put F.TIME_EVENT_SYNC true
  let s := if s.is F.TIME_CTL_SYNC_LOAD then s.loadTb else s
  if s.monPower then s.monRestart 3 else s

/-- A SYNC out of a port. -/
def State.syncSend (s : State) (p e f : Nat) : State :=
  if s.carries p then s.orderedOut p "SYNC" (e % 65536 * 256 + f) (syncChars e f) else s

/-- A write of 1 to SYNC at the head. -/
def State.syncBegin (s : State) : State :=
  if s.isHead then
    let q := (s.tow.sent + 1) % 4
    let s := { s with tow := { s.tow with sent := q, seen := some q, syncDue := true } }
    (s.syncSend 0 0 q).syncSend 1 0 q
  else s

/-- A SYNC received: a repeat, and an echo of a delay measurement, are discarded. A port that is switched off or under test receives none (R287, R315). -/
def State.syncReceive (s : State) (p e f : Nat) : State :=
  if !s.portHears p || bitAt f 7 || s.tow.seen == some (f % 4) then s
  else
    let e := e + s.fld (F.TOW_PORT_DELAY_TICKS p) / 16
    let s := { s with tow := { s.tow with seen := some (f % 4) } }
    let s := s.use.syncSend (otherPort p) (e + (Config.freeWord s.free).toNat) f
    if s.fld F.TOW_SYNC_CFG_LEAD < e then s.syncDo.setBit F.TOW_EVENT_BITS 9
    else { s with tow := { s.tow with syncDue := true } }

/-! ## Registers (R291, R295, R305) -/

/-- The masters that set and clear HEAD: 0x1, and 0x3 through PCIe. -/
def headMaster (m : Master) : Bool :=
  match m with
  | .supS | .hostS => true
  | .supNS | .hostNS | .smp | .tow _ | .ls _ => false

/-- The gates that the actions of a TOW.CTL write need: ENUM goes out of port A, SYNC out of both (R315). -/
def towGates (v : Word) : List Nat := (if bitAt v.toNat 1 ∨ bitAt v.toNat 2 then [1] else []) ++ (if bitAt v.toNat 2 then [2] else [])

/-- A write of TOW.CTL (R291): every one from another master is refused, for it writes HEAD. -/
def State.towCtl (s : State) (m : Master) (v : Word) : State × Resp :=
  let head := bitAt v.toNat 0
  if !headMaster m then (s, .err 2)
  else if head && s.pins.bootSel == 3 || (towGates v).any fun b => !s.is (F.CLK_GATE_RUN b) then (s, .err 1)
  else
    let s := each (towGates v) (fun b s => s.gateOpen b) s
    let s := s.put F.TOW_CTL_HEAD head
    let s := if bitAt v.toNat 1 then s.enumBegin else s
    (if bitAt v.toNat 2 then s.syncBegin else s, .ok)

/-- A write of PORT_CTL: a port under test counts as down for the ring. INJECT inverts one bit in TEST; a test that begins or changes its pattern starts the generator
anew, and one that ends leaves the errors counted and not yet read, which no command brings, as a free value. -/
def State.portCtl (s : State) (p : Nat) (v : Word) : State :=
  let was := s.carries p
  let test := s.is (F.TOW_PORT_CTL_TEST p)
  let pat := s.testPattern p
  let t := s.plainWrite (R.TOW_PORT_CTL p) v
  let on := t.is (F.TOW_PORT_CTL_TEST p)
  let t := if on then t.setPort p { t.port p with prbs := if test && pat == t.testPattern p then (t.port p).prbs else 0,
                                                   inject := (t.port p).inject || bitAt v.toNat 4 } else t
  let t := if test && !on then (t.wr (R.TOW_PORT_PRBS p) (Config.freeWord t.free)).use else t
  if was = t.carries p then t else t.portReport p (t.carries p)

/-- A write of a register of the TOW block at an offset below the apertures. -/
def State.towWrite (s : State) (m : Master) (off : Nat) (v : Word) : State × Resp :=
  if off = 0x000 then s.towCtl m v
  else if off = 0x040 ∨ off = 0x060 then (s.portCtl ((off - 0x040) / 0x20) v, .ok)
  else if 0x100 ≤ off ∧ off < 0x140 ∧ off % 16 < 8 then
    if m.code = windowOwner ((off - 0x100) / 16) then
      (s.plainWrite (0x04010000 + off) (if off % 16 = 0 then v &&& 0xFFFFFFC0#32 else v), .ok)
    else (s, .err 2)
  else (s.plainWrite (0x04010000 + off) v, .ok)

/-- A read of a register of the TOW block at an offset below the apertures. The bits that reach a port under test come in no command: PRBS_LOCK and COUNT are free values
then (R287). -/
def State.towRead (s : State) (off : Nat) : State × Resp × Word :=
  let x := s.plainRead (0x04010000 + off)
  let w := (off - 0x100) / 16
  let p := (off - 0x040) / 0x20
  let test := decide (0x040 ≤ off) && decide (off < 0x080) && s.is (F.TOW_PORT_CTL_TEST p)
  if test && off % 0x20 == 0x04 then (x.1.use, .ok, setBits x.2 8 1 (b2n ((Config.freeWord s.free).getLsbD 0)))
  else if test && off % 0x20 == 0x10 then (x.1.use, .ok, Config.freeWord s.free)
  else if 0x100 ≤ off ∧ off < 0x140 ∧ off % 16 = 8 then
    (x.1, .ok, setBits x.2 0 1 (b2n (!(s.win w).sent.isEmpty || !(s.win w).waiting.isEmpty)))
  else (x.1, .ok, x.2)

/-! ## MSI-X (R261, R269, R297) -/

/-- A word of the MSI-X table. -/
def State.msixWord (s : State) (k : Nat) : Word := tabGet msixReset s.pcie.table k

/-- A vector is masked by its table entry. -/
def State.msixMasked (s : State) (v : Nat) : Bool := (s.msixWord (4 * v + 3)).getLsbD 0

/-- MSIX_ISSUE: a vector whose condition has become 1 is issued and marked in service; a masked one is held pending, and a device on a ring that is not its head
tells the head instead. The message is a request to the PCIe controller's application side: while that is switched off the vector stays due (R315; log entry 112). -/
def State.msixIssue (s : State) (v : Nat) : State :=
  if s.msixDue.getLsbD v && s.domOn 1 && (s.isMember || s.msixMasked v || s.is (F.CLK_GATE_RUN 7)) then
    let s := { s.putPairBit R.IRQ_HOST_INSERV_LO v true with msixDue := s.msixDue &&& ~~~(BitVec.ofNat 64 (2 ^ v)) }
    if s.isMember then s.towSend (if s.carries 1 then 1 else 0) (plainPkt 6 0 (s.fld F.TOW_ID_ID) 1 v)
    else if s.msixMasked v then { s with pcie := { s.pcie with pba := s.pcie.pba ||| BitVec.ofNat 64 (2 ^ v) } }
    else ((s.gateOpen 7).emit (.msix v)).bwCount 50 4
  else s

/-! ## Commands -/

/-- The port's receiver takes packets: its port carries them, and it has code-group synchronisation (R283). -/
def State.hears (s : State) (p : Nat) : Bool := s.carries p && (s.port p).sync

/-- A packet that arrives at a port that takes packets. -/
def State.arrives (s : State) (p : Nat) (k : TowPkt) (f : State → State) : State := if s.hears p then f (s.towCount false k) else s

/-- A packet for the head alone: another device forwards it, whatever its DEST, and the head takes one for device 0 (R289). -/
def State.toHead (s : State) (p : Nat) (k : TowPkt) (f : State → State) : State :=
  if s.is F.TOW_CTL_HEAD then (if k.dst = 0 then f s else s)
  else s.towForward p k

/-- SOF_SEND (R284, R285). -/
def execSofSend (p : Fin 2) (s : State) : Host.Outcome State Fault Refusal := done (s.sofSend p)

/-- SOF_RECEIVE (R284, R285). -/
def execSofReceive (p : Fin 2) (d : BitVec 8) (s : State) : Host.Outcome State Fault Refusal := done (s.sofReceive p d.toNat)

/-- PORT_UP (R285, R293). -/
def execPortUp (p : Fin 2) (s : State) : Host.Outcome State Fault Refusal := done (s.portRise p)

/-- SPEED_STEP_CONFIRM (R285). -/
def execSpeedStepConfirm (p : Fin 2) (s : State) : Host.Outcome State Fault Refusal := done (s.stepKept p)

/-- SPEED_STEP_TIMEOUT (R285). -/
def execSpeedStepTimeout (p : Fin 2) (s : State) : Host.Outcome State Fault Refusal := done (s.stepLost p)

/-- TX_SLEEP (R286). -/
def execTxSleep (p : Fin 2) (s : State) : Host.Outcome State Fault Refusal := done (s.txSleep p)

/-- TX_WAKE (R286). -/
def execTxWake (p : Fin 2) (s : State) : Host.Outcome State Fault Refusal := done (s.txWake p)

/-- TOWPATH_RX_WAKE (R286): the partner's transmitter is awake. -/
def execTowpathRxWake (p : Fin 2) (s : State) : Host.Outcome State Fault Refusal :=
  done (if s.towOn then (s.put (F.TOW_PORT_STAT_RX_SLEEP p) false).setPort p { s.port p with sync := true } else s)

/-- LINK_LOSS (R287, R293). -/
def execLinkLoss (p : Fin 2) (s : State) : Host.Outcome State Fault Refusal := done (s.portFall p)

/-- TOW_RD_RSP (R289, R295). -/
def execTowRdRsp (p : Fin 2) (k : TowPkt) (s : State) : Host.Outcome State Fault Refusal :=
  done (s.arrives p k fun s => s.toHead p { k with typ := 3 } fun s => s.winResponse k true)

/-- TOW_WR_ACK (R289, R295). -/
def execTowWrAck (p : Fin 2) (k : TowPkt) (s : State) : Host.Outcome State Fault Refusal :=
  done (s.arrives p k fun s => s.toHead p { k with typ := 4 } fun s => s.winResponse k false)

/-- TOW_ENUM (R290, R291). -/
def execTowEnum (p : Fin 2) (k : TowPkt) (s : State) : Host.Outcome State Fault Refusal :=
  done (s.arrives p k fun s => s.enumReceive p { k with typ := 5 })

/-- TOW_EVENT (R293, R297). -/
def execTowEvent (p : Fin 2) (k : TowPkt) (s : State) : Host.Outcome State Fault Refusal :=
  done (s.arrives p k fun s => s.toHead p { k with typ := 6 } fun s => s.eventTake k)

/-- TOW_HELLO (R294). -/
def execTowHello (p : Fin 2) (k : TowPkt) (s : State) : Host.Outcome State Fault Refusal :=
  done (s.arrives p k fun s => s.toHead p { k with typ := 7 } fun s => s.helloTake)

/-- HELLO_SEND (R294). -/
def execHelloSend (s : State) : Host.Outcome State Fault Refusal := done s.helloSend

/-- TOW_BAD_PACKET (R288): dropped and counted. -/
def execTowBadPacket (p : Fin 2) (s : State) : Host.Outcome State Fault Refusal :=
  done (if s.hears p then (s.tally (.plain 0x15 1)).bump (F.TOW_PORT_CRC_COUNT p) 1 else s)

/-- ENUMERATE (R290): a write of 1 to TOW.CTL.ENUM, HEAD as it stands. -/
def execEnumerate (m : Master) (s : State) : Host.Outcome State Fault Refusal :=
  done (s.via R.TOW_CTL m fun s => s.towCtl m (BitVec.ofNat 32 (2 + s.fld F.TOW_CTL_HEAD)))

/-- ENUM_TIMEOUT (R290). -/
def execEnumTimeout (s : State) : Host.Outcome State Fault Refusal := done s.enumExpire

/-- HEAD_WRITE (R291). -/
def execHeadWrite (m : Master) (on : Bool) (s : State) : Host.Outcome State Fault Refusal :=
  done (s.via R.TOW_CTL m fun s => s.towCtl m (BitVec.ofNat 32 (b2n on)))

/-- REMOTE_WINDOW_TIMEOUT (R295). -/
def execRemoteWindowTimeout (w : Fin 4) (s : State) : Host.Outcome State Fault Refusal := done (if s.towOn then s.winExpire w else s)

/-- SYNC_COMMAND (R298): a write of 1 to TOW.CTL.SYNC. -/
def execSyncCommand (m : Master) (s : State) : Host.Outcome State Fault Refusal :=
  done (s.via R.TOW_CTL m fun s => s.towCtl m (BitVec.ofNat 32 (4 + s.fld F.TOW_CTL_HEAD)))

/-- TOW_SYNC (R298). -/
def execTowSync (p : Fin 2) (e : BitVec 16) (f : BitVec 8) (s : State) : Host.Outcome State Fault Refusal := done (s.syncReceive p e.toNat f.toNat)

/-- SYNC_ACT (R298, R330, R364). -/
def execSyncAct (s : State) : Host.Outcome State Fault Refusal := done (if s.tow.syncDue then s.syncDo else s)

/-- MSIX_ISSUE (R261, R297). -/
def execMsixIssue (v : Fin 64) (s : State) : Host.Outcome State Fault Refusal := done (s.msixIssue v)

end Sys2Proof.Machine
end

