-- ==== Sys2Proof/Machine/Power.lean ====
section
/-! DEFINITION. Sys2Proof/Machine/Power.lean: power domains, Dormant and the wake, resets, the memory fill and the power-on self-test (R22, R243, R317 to R326,
R339, R351, R352, R422, R434, R464). -/

namespace Sys2Proof.Machine

/-! ## Gates closed by force (R316) -/

/-- The remote accesses of window w of a kind end with an error. -/
def State.winCut (s : State) (f : WinOp → Bool) (w : Nat) : State :=
  let x := s.win w
  let s := s.setWin w { sent := x.sent.filter fun e => !f e.2, waiting := x.waiting.filter fun o => !f o }
  (((x.sent.map Prod.snd ++ x.waiting).filter f).foldl (fun s o => s.winEnd w o 1 []) s).winRun w

/-- The remote accesses of every window that go out of port p end with an error. -/
def State.portCut (s : State) (p : Nat) : State :=
  each ((List.range 4).filter fun w => s.winVia p w) (fun w s => s.winCut (fun _ => true) w) s

/-- What runs behind a gate ends: the remote accesses through a port, which then goes down; a flash command; remote reads of a management port; a channel, as for STOP; armed
timers. A read that waits for its data gets an error. -/
def State.gateStop (s : State) (b : Nat) : State :=
  if b = 1 ∨ b = 2 then (s.portCut (b - 1)).portDown (b - 1)
  else if b = 5 then (if s.is F.FLASH_STAT_BUSY then s.flashStop (s.fld F.FLASH_STAT_CODE) else s)
  else if b = 6 then each (List.range 4) (fun w s => s.winCut (fun o => o.ask.any Asker.viaSmp) w) s
  else if b = 7 then each (List.range 4) (fun w s => s.winCut (fun o => o.ask.any Asker.viaPcie) w) s
  else if b = 8 then each (List.range 8) (fun c s => s.dmaCut c) s
  else each (List.range 4) (fun t s => s.put (F.TIME_GT_CTL_ARMED t) false) s

/-- What runs behind a gate ends, with a bus error to the initiator that no window tells (R386 counts it). -/
def State.gateCut (s : State) (b : Nat) (m : Master) : State :=
  let s := s.gateStop b
  if b = 5 ∨ 8 ≤ b then (s.emit (.response m 1 0)).tally (s.masterEvent 3 m.code none) else s

/-- The device is on its way into Dormant: its lanes have stopped (R22, R322). -/
def State.entering (s : State) : Bool := s.is F.MODE_STATUS_BUSY && s.fld F.MODE_STATUS_IN_TARGET == 0 && !s.trans.ramping

/-- GATE_QUIESCE_TIMEOUT (R316): a function that is switched off, or whose domain is to power down, and still runs has its gate closed by force, and the initiator of the
access gets a bus error. -/
def State.gateForce (s : State) (b : Nat) (m : Master) : State :=
  if s.is (F.CLK_GATE_OPEN b) && (!s.is (F.CLK_GATE_RUN b) || s.entering) && s.midAccess b then
    let s := ((s.put (F.CLK_GATE_OPEN b) false).setFld F.CLK_FORCE_LOG_GATE b).setFld F.CLK_FORCE_LOG_MASTER m.holder
    ((s.bump F.CLK_FORCE_LOG_COUNT 1).put F.CLK_EVENT_FORCED true).gateCut b m
  else s

/-- The gates of the functions that go with PD_SUP, PD_PCIE and PD_TOW close (R318 step 1): what has not ended by then is cut. -/
def State.gatesShut (s : State) : State := each ([1, 2, 5, 6, 7, 8, 9].filter fun b => s.midAccess b) (fun b s => s.gateStop b) s

/-! ## Lane domains (R317 to R319) -/

/-- The lanes of a line or host domain, by the domain's bit in PWR.DOM_STAT. -/
def domainLanes (d : Nat) : List Nat := allLanes.filter fun n => laneDomain n == d

/-- A reset domain of the register file is that of a power domain. -/
def domainRegs (d : Nat) : ResetDomain → Bool
  | .lane n => d == 2 + n
  | .host c => d == 10 + c
  | .pcie => d == 14
  | .tow => d == 15
  | .mon => d == 16
  | .aon | .retained | .sup | .supHeld | .state => false

/-- What a lane's STATUS keeps: the energy detector stands in PD_AON, the active map on the retention rail. -/
def State.statusKept (s : State) (n : Nat) : Word :=
  if n < 8 then s.rd (R.LRX_STATUS n) &&& 0x400#32
  else if n < 16 then 0#32
  else s.rd (R.HRX_STATUS n) &&& 0xF9#32

/-- The register file of a lane domain back at its reset values. -/
def State.laneRegs (s : State) (d : Nat) : State :=
  let keep := (domainLanes d).map fun n => (n, s.statusKept n)
  let s := s.resetRegs (domainRegs d)
  keep.foldl (fun s k => if 8 ≤ k.1 ∧ k.1 < 16 then s else s.wr (R.LRX_STATUS k.1) (if k.1 < 8 then k.2 ||| s.rd (R.LRX_STATUS k.1) else k.2)) s

/-- A lane stops as its supply goes: its crossing is held in reset, its sequencer cleared, its calibration entry back at reset. -/
def State.laneDark (s : State) (n : Nat) : State :=
  let s := if n < 8 then (s.wcapAbort n).trnStop n else s
  let s := ((((s.calAbort n).laneStop n).lockOff n).crossReset n).seqReset n
  { s with regs := tabClear (fun a => a == R.CAL_LANE_STAT n || a == R.CAL_LANE_REF n) s.regs }

/-- A domain's isolation engages and its supply opens; or the reverse. -/
def State.putDomain (s : State) (d : Nat) (on : Bool) : State :=
  if on then (s.clrBit F.PWR_ISO_STAT_CLAMPED d).setBit F.PWR_DOM_STAT_ON d
  else (s.setBit F.PWR_ISO_STAT_CLAMPED d).clrBit F.PWR_DOM_STAT_ON d

/-- A line or host domain powers down. -/
def State.laneDomainDown (s : State) (d : Nat) : State :=
  let s := (each (domainLanes d) (fun n s => s.laneDark n) s).laneRegs d
  (each (domainLanes d) (fun n s => s.setLane n Lane.init) s).putDomain d false

/-- The causes that still hold when an LTX lane's domain has powered up are triggers anew (R123, R126). -/
def State.ltxCauses (s : State) (n : Nat) : State :=
  let s := if s.weir n 0 then s.ltxFault n (F.LTX_FAULT_CAUSE_BIAS_TRIP n) else s
  let s := if s.shutdown ≠ 0#6 then s.ltxFault n (F.LTX_FAULT_CAUSE_DEVICE n) else s
  if s.is F.MODE_STATUS_THERM_HOLD then s.ltxFault n (F.LTX_FAULT_CAUSE_THERMAL n) else s

/-- A lane whose domain has powered up (R52, R319): it stands in OFF, its crossing raises READY, and a map that was not taken while it was off is its event (R70). -/
def State.laneWakes (s : State) (n : Nat) : State :=
  let s := s.crossReady n
  let s := if 16 ≤ n ∧ s.is (F.HRX_STATUS_XBAR_ERR n) then s.put (F.HRX_EVENT_XBAR_ERR n) true else s
  if n < 8 then s.followWeir n else if n < 16 then s.ltxCauses n else if n < 32 then s else s.syncHtx n

/-- The scrubber of a lane memory starts at its base (R345). -/
def State.scrubFrom (s : State) (n : Nat) : State :=
  let k := scrubKey 4 n
  { s with integ := { s.integ with scrubAt := tabPut (fun _ => 0) s.integ.scrubAt k 0, lapAt := tabPut (fun _ => 0) s.integ.lapAt k s.clock } }

/-- A line or host domain powers up: its registers take their reset values (R434), its memories are filled with valid check bits, and its decoders work at the present throttle
level (R374). -/
def State.laneDomainUp (s : State) (d : Nat) : State :=
  let ls := domainLanes d
  let lvl := s.fld F.THERM_STAT_LEVEL
  let s := s.laneRegs d
  let s := each ls (fun n s => (s.onLane n fun l => { l with saver := if n < 8 then lvl else 0 }).scrubFrom n) s
  let s := (s.fill fun a => ls.any fun n => inRange (0x03000000 + n * 0x8000, 0x8000) a).putDomain d true
  each ls (fun n s => s.laneWakes n) s

/-! ## The other domains -/

/-- PD_PCIE, PD_TOW or PD_MON loses its state. -/
def State.portDomainClear (s : State) (d : Nat) : State :=
  let s := s.resetRegs (domainRegs d)
  if d = 14 then { s with dma := [], pcie := Pcie.init }
  else if d = 15 then { s with tow := Tow.init }
  else { s with mons := [], monAt := none }

/-- PD_PCIE, PD_TOW or PD_MON powers up; the decimators restart with PD_MON (R364). -/
def State.portDomainUp (s : State) (d : Nat) : State :=
  let s := (s.portDomainClear d).putDomain d true
  if d = 16 then s.monRestart 0 else s

/-- The domains that a transition in progress, or the mode in force, wants off: lane domains outside a data mode. -/
def State.lanesOff (s : State) : Bool :=
  if s.is F.MODE_STATUS_BUSY then !s.trans.ramping && !isData (s.fld F.MODE_STATUS_IN_TARGET) else !isData s.mode

/-- DOMAIN_POWER_DOWN: a lane domain outside the data modes, once its transmitters are dark (R122). PD_PCIE, PD_TOW, PD_MON and PD_SUP power down with the entry into Dormant
(R322), and PD_AON never. -/
def State.powerDown (s : State) (d : Nat) : State :=
  if 2 ≤ d ∧ d < 14 ∧ s.domOn 1 ∧ s.domOn d ∧ s.lanesOff ∧ (domainLanes d).all (fun n => n < 8 || 16 ≤ n || s.ltxDark n) then s.laneDomainDown d else s

/-- DOMAIN_POWER_UP: a lane domain in or towards a data mode, unless all its lanes are unusable (R317); PD_PCIE, PD_TOW and PD_MON on the way out of Dormant. -/
def State.powerUp (s : State) (d : Nat) : State :=
  if !s.domOn 1 || s.domOn d then s
  else if 2 ≤ d ∧ d < 14 then
    (if s.acting && (domainLanes d).any fun n => !s.unusable n then s.laneDomainUp d else s)
  else if 14 ≤ d then s.portDomainUp d
  else s

/-! ## Resets of PD_SUP (R229, R317, R434) -/

/-- What the power-on self-test found keeps its effect through every reset of PD_SUP (R366, R375): failed channels, whose outputs read 0, and broken sensors with cause 4. -/
def State.postFound (s : State) : State :=
  let b := s.fld F.BIST_POST_SENS_TS
  let s := (s.setFld F.MON_FAILED_CH (s.fld F.BIST_POST_MON_MON)).setFld F.THERM_BROKEN_TS b
  let s := each (allMons.filter fun c => s.monFailed c) (fun c s => (s.wr (R.MON_CH_COARSE c) 0#32).wr (R.MON_CH_FINE c) 0#32) s
  let s := if b = 0 then s else s.setBit F.THERM_EVENT_BITS 5
  each (allSensors.filter fun i => bitAt b i) (fun i s => s.setFld (F.THERM_READ_CAUSE i) 4) s

/-- HOST_RATE of MODE.REQ in the forerunner persona (R32). -/
def State.rateReset (s : State) : State := if s.is F.MODE_PERSONA_ACTIVE then s.put F.MODE_REQ_HOST_RATE true else s

/-- The state of PD_SUP beside its registers cleared: the core, the logs and engines of its blocks, the latches; the supervisor at SK and PC 0. -/
def State.supLogic (s : State) : State :=
  let s := s.lifeCut.clearG 48
  { s with
    sup := { s.sup with pc := 0#32, wfi := false, lockup := false, halted := false, stepping := false, stall := false },
    cregs := [], ladders := [], shutdown := 0#6, latch := [], therm := Therm.init, perf := Perf.init, flash := none,
    life := { s.life with run := none }, smp := { Smp.init with dyn := s.smp.dyn }, clk := { s.clk with deep := 0#10, ppsAt := none },
    integ := { s.integ with log := [], copy := none, test := none, lapFrom := s.clock, scrubAt := [], lapAt := [], lapUs := [] } }

/-- The registers that reset with PD_SUP, those held through PWR.RESET.SUP among them when asked; SLEEP_OVF is the timebase's (R327), FILLED and the spares left show the
power-on fill and the retirement map, which stay (R339, R350), and the secure interrupt registers reset too. A decoder without groups takes the throttle level of 0 at once
(R374). DESIGN CHOICE: FAB.LAT resets with the rest of FAB, so a lock that stood is OFF and stays OFF until its output starts anew, while MODE.STATUS.FIXLAT is held (R50,
R464; log entry 108). -/
def State.supRegs (s : State) (held : Bool) : State :=
  let ovf := s.is F.TIME_STAT_SLEEP_OVF
  let mem := (s.rd R.MEMX_STAT).toNat % 32
  let s := s.resetRegs fun d => d == .sup || held && d == .supHeld
  let s := { s with regs := tabClear (fun a => decide (R.IRQ_SECURE_LO ≤ a) && decide (a ≤ R.IRQ_NS_EN_HI)) s.regs }
  let s := each lrxLanes (fun n s => if s.hasGroups n || !s.laneOn n then s else s.onLane n fun l => { l with saver := 0 }) s
  ((s.put F.TIME_STAT_SLEEP_OVF ovf).wr R.MEMX_STAT (BitVec.ofNat 32 mem)).rateReset

/-- The boot path of the ROM: it fills the secure vector table and goes to its boot source (R299). -/
def State.bootPath (s : State) : State :=
  ((List.range 16).foldl (fun s c => (s.memWrite ⟨2, 1⟩ (0x01000000 + 4 * c) ((leBytes 4 Config.romHandler.toNat).map some)).1) s).bootWait

/-! ### PWR.RESET.SUP (R324, R325, R464) -/

/-- The transition in progress and the waiting request end at the assertion; the sources of their outcomes. -/
def State.supCut (s : State) : State × List Nat :=
  let busy := s.is F.MODE_STATUS_BUSY
  let waiting := s.is F.MODE_STATUS_WAITING
  let srcs := (if busy then [s.trans.source] else []) ++ (if waiting then [s.trans.waitSrc] else [])
  let s := (s.put F.MODE_STATUS_BUSY false).put F.MODE_STATUS_WAITING false
  ({ s with trans := { s.trans with waitFor := [], late := [], ramping := false } }, srcs)

/-- A ladder frozen in a step, or holding a fault, keeps both over the reset of FAULT, which its device-level fault outlasts (R410). -/
def State.frozenKept (s : State) (old : State) (i : Nat) : State :=
  if old.is (F.FAULT_LADDER_FROZEN i) then
    let s := (s.put (F.FAULT_LADDER_FROZEN i) true).setLadder i { old.ladder i with mark := none }
    if (old.ladder i).paused then s.setFld (F.FAULT_LADDER_LEVEL i) (old.fld (F.FAULT_LADDER_LEVEL i)) else s
  else s

/-- The reset asserted and released: the data path goes on, and the boot path runs without fill and self-test. The device-level faults that it ends are cleared as R410 and R412
say, the lockup last; only ROM_FAIL outlasts it (R408). DEDUCED: the FAULT registers reset, but a ladder that a device-level fault had frozen restarts its step, or starts what it
holds, when that fault clears (log entry 113). -/
def State.resetSup (s : State) : State :=
  let x := s.supCut
  let s := each lrxLanes (fun n s => s.wcapAbort n) x.1
  let s := each ltxLanes (fun n s => s.onLane n fun l => { l with retrain := false }) s
  let old := s
  let s := (s.supLogic.supRegs false).setFld F.FAULT_DEV_ACTIVE_CLASS (old.fld F.FAULT_DEV_ACTIVE_CLASS)
  let s := each allLadders (fun i s => s.frozenKept old i) s
  let s := ((s.supPartyReset.otpLoad).postFound).put F.PWR_RESET_CAUSE_SUP true
  let s := x.2.foldl (fun s src => s.outcome 6 src) (each [2, 4, 5, 1] (fun c s => s.devClear c) s)
  if s.sup.released then s.bootPath else s

/-! ## Device resets (R324 to R326, R434) -/

/-- The OTP shadow's range. -/
def inOtp (a : Nat) : Bool := inRange (0x05000000, 0x1000) a

/-- Power-on reset, RESET_N and PWR.RESET.DEVICE: everything at its reset value, but OTP, the pins sampled, the supplies and RESET_CAUSE; then the OTP shadow is loaded (R326
step 3). The burns of R422 come first where a lifecycle change asked for this reset. -/
def State.resetDevice (s : State) : State :=
  let s := s.lifeCut
  let s := if s.life.resetDue then s.burnKeys else s
  let cause := s.rd R.PWR_RESET_CAUSE
  ({ State.reset with integ := { Integ.init with lapFrom := s.clock }, pending := s.pending, mem := s.mem.filter (fun c => inOtp c.1), pins := s.pins, clock := s.clock,
                      free := s.free, out := s.out, supply := s.supply }.wr R.PWR_RESET_CAUSE cause).otpLoad

/-- FRM_SEL, BOOT_SEL and ADDR sampled (R30, R299); the persona that follows from FRM_SEL and OTP. -/
def State.sample (s : State) (frm : Bool) (boot addr : Nat) : State :=
  let otp := bitAt (s.otpWord 0x270) 0
  let s := { s with pins := { frmSel := frm, bootSel := boot, addr := addr } }
  let s := ((s.put F.MODE_PERSONA_PIN frm).put F.MODE_PERSONA_OTP otp).put F.MODE_PERSONA_ACTIVE (frm || otp)
  s.rateReset

/-- The reset values of HOST_RATE in PD_AON and of MODE.STATUS in the forerunner persona (R32, R37). -/
def State.rateAon (s : State) : State :=
  if s.is F.MODE_PERSONA_ACTIVE then (s.put F.MODE_WAKE_TARGET_HOST_RATE true).put F.MODE_STATUS_HOST_RATE true else s

/-- A supply of the core or of PD_AON lies inside the limits of power-on reset (R442), whose edges lie open between 0.64 V and 0.68 V and between 0.84 V and 0.86 V. -/
def State.railOk (s : State) (mv : Nat) : State × Bool :=
  if mv < 640 ∨ 860 < mv then (s, false)
  else if 680 ≤ mv ∧ mv ≤ 840 then (s, true)
  else (s.use, Config.openBand s.free)

/-- Every supply lies in its operating range (R440), so that the power-on sequence may start (R443). -/
def suppliesIn (v : Supplies) : Bool :=
  decide (700 ≤ v.core) && decide (v.core ≤ 800) && decide (700 ≤ v.aon) && decide (v.aon ≤ 800) &&
    decide (870 ≤ v.ana) && decide (v.ana ≤ 930) && decide (1164 ≤ v.hv) && decide (v.hv ≤ 1236) && decide (1710 ≤ v.io) && decide (v.io ≤ 1890)

/-- Power-on reset is held, or released with a supply still to come: nothing is powered, every signal is clamped and every laser current is 0 (R442, R443). -/
def State.powerHeld (s : State) : State := (s.wr R.PWR_DOM_STAT 0#32).wr R.PWR_ISO_STAT 0x1FFFF#32

/-- POWER_ON_RESET (R326, R442, R443): the supplies at the moment that decides; where VDD_CORE or VDD_AON lies outside its limits the reset is held, and where another supply
is still to come the sequence has not started, until the next such moment. -/
def State.powerOn (s : State) (v : Supplies) (frm : Bool) (boot addr : Nat) : State :=
  let s := { s with supply := v }
  let x := s.railOk v.core
  let y := x.1.railOk v.aon
  let s := y.1.resetDevice
  if x.2 && y.2 && suppliesIn v then ((s.sample frm boot addr).rateAon).wr R.PWR_RESET_CAUSE 1#32 else s.powerHeld

/-- RESET_N held low for at least 1 µs; power-on reset outlasts it. -/
def State.pinReset (s : State) (us : Nat) (frm : Bool) (boot addr : Nat) : State :=
  if us < 1 ∨ !s.domOn 0 then s else ((s.resetDevice.sample frm boot addr).rateAon).put F.PWR_RESET_CAUSE_PIN true

/-- PWR.RESET.DEVICE: the pins are not sampled, and the persona stays (R30). -/
def State.commandReset (s : State) : State :=
  let p := s.rd R.MODE_PERSONA
  ((((s.resetDevice).wr R.MODE_PERSONA p).rateReset).rateAon).put F.PWR_RESET_CAUSE_DEVICE true

/-- A write of PWR.RESET (R325): DEVICE before SUP. -/
def State.resetWrite (s : State) (m : Master) (v : Word) : State × Resp :=
  let dev := bitAt v.toNat 0
  let sup := bitAt v.toNat 1
  if dev && (m.code == 1 || m.code == 3 || m.code == 5) then (s.commandReset, .ok)
  else if sup && (m.code == 3 || m.code == 5) then (s.resetSup, if dev then .err 2 else .ok)
  else (s, if dev || sup then .err 2 else .ok)

/-- Both host worlds are reset as parties (R251), with their interrupts in service. -/
def State.hostParties (s : State) : State :=
  (((s.wr R.IRQ_HOST_INSERV_LO 0#32).wr R.IRQ_HOST_INSERV_HI 0#32).partyReset 0 1).partyReset 2 3

/-- PERST_N (kind 0), hot reset (1) or FLR (2): PD_PCIE and the DMA engine, where that domain is powered; the link stays up through an FLR. The host parties are
reset in every mode (R251), for what they hold stands on the retention rail. -/
def State.resetPcie (s : State) (kind : Nat) : State :=
  if !s.domOn 0 then s
  else if !s.domOn 14 then s.hostParties
  else
    let link := s.rd R.PCIE_STAT &&& 0x7F#32
    let s := (each (List.range 8) (fun c s => s.dmaCut c) s).portDomainClear 14
    let s := if kind = 2 then s.wr R.PCIE_STAT link else s
    (s.put F.PCIE_EVENT_RESET true).hostParties

/-! ## Fill and self-test (R326, R339, R351, R352) -/

/-- Supervisor, shared and capture SRAM. -/
def inSram (a : Nat) : Bool := inRange (0x01000000, 0x800000) a || inRange (0x02000000, 0x800000) a

/-- The restart of the decimators that the power-up of PD_MON brought shows in MON (R364). -/
def State.monAwake (s : State) : State := (s.bump F.MON_SYNC_STAT_COUNT 1).setBit F.MON_EVENT_BITS 0

/-- The first laps of the SRAMs count from here; that of the OTP shadow goes on (R345). -/
def State.lapStart (s : State) : State :=
  { s with integ := { s.integ with lapAt := (List.range 3).foldl (fun t k => tabPut (fun _ => 0) t k s.clock) s.integ.lapAt } }

/-- The OTP shadow is loaded at the latest here (R326 step 3), the state right after the release of the reset being one without it. -/
def State.otpThere (s : State) : State := if s.is F.IDENT_DIE_VALID then s else s.otpLoad

/-- MEMORY_FILL_COMPLETE: the supervisor is released at PC 0 where the check of boot ROM passed. -/
def State.fillDone (s : State) (rom : Bool) : State :=
  if !s.domOn 1 || s.filled then s
  else
    let s := ((s.fill inSram).otpThere.put F.MEMX_STAT_FILLED true).monAwake.lapStart
    if rom then { s with sup := { s.sup with pc := 0#32, released := true } }
    else (s.put F.BIST_POST_STAT_ROM_FAIL true).devRaise 3 false 0 0

/-- A failed bank: a spare of its group serves it, or it is removed (R350); a failed bank 0 without a spare stops the boot. -/
def State.postBank (s : State) (t : Nat) : State :=
  if s.hasSpare t then s.useSpare t 0
  else if t = 0 then s.setFld F.FLASH_BOOT_STAT_PHASE 4
  else ((s.remove t 0).setFld F.MEMX_RETIRE_STAT_RESULT 2).put F.MEMX_EVENT_CAP_LOSS true

/-- A failed row block: the lane's spare serves it, or it is removed. -/
def State.postRow (s : State) (n row : Nat) : State :=
  let t := 64 + n
  if s.isRetired t row then s
  else if s.hasSpare t then s.useSpare t row
  else ((s.remove t row).setFld F.MEMX_RETIRE_STAT_RESULT 2).put F.MEMX_EVENT_CAP_LOSS true

/-- A lane that failed is marked unusable and out of service (R27, R352). -/
def State.postLane (s : State) (n : Nat) : State :=
  let s := if n < 16 then s.setBit ⟨R.MODE_UNUSABLE_LINE, 0, 16⟩ n else s.setBit ⟨R.MODE_UNUSABLE_HOST, 0, 32⟩ (n - 16)
  s.putOos n true

/-- Failed spares of a group. -/
def failedSpares (p : BitVec 4) (g : Nat) : Nat := b2n (p.getLsbD (2 * g)) + b2n (p.getLsbD (2 * g + 1))

/-- The self-test runs: the supervisor is released and no self-test of this power-up is done. -/
def State.postDue (s : State) : Bool := s.domOn 1 && s.sup.released && s.filled && !s.is F.BIST_POST_STAT_DONE

/-- POST_COMPLETE: the SRAMs are refilled, what failed is recorded and taken out of use, and the boot goes on. -/
def State.postDone (s : State) (r : PostResult) : State :=
  if !s.postDue then s
  else
    let s := s.fill inSram
    let s := (s.wr R.BIST_POST_BANKS_LO (r.banks.setWidth 32)).wr R.BIST_POST_BANKS_HI ((r.banks >>> 32).setWidth 32)
    let s := (s.wr R.BIST_POST_SPARES (r.spares.setWidth 32)).wr R.BIST_POST_LANES_LO (r.lanes.setWidth 32)
    let s := (s.wr R.BIST_POST_LANES_HI ((r.lanes >>> 32).setWidth 32)).wr R.BIST_POST_SENS (r.sensors.setWidth 32)
    let s := (s.wr R.BIST_POST_MON (r.monitors.setWidth 32)).wr R.BIST_POST_STAT
      (BitVec.ofNat 32 (1 + 4 * b2n (r.banks != 0#64 || r.spares != 0#4) + 8 * b2n (r.lanes != 0#48 || !r.rows.isEmpty || r.rowSpares != 0#48)
        + 16 * b2n (r.sensors != 0#12 || r.monitors != 0#24) + 65536 * r.us.toNat))
    let s := (s.setFld F.MEMX_STAT_SPARES0 (2 - failedSpares r.spares 0)).setFld F.MEMX_STAT_SPARES1 (2 - failedSpares r.spares 1)
    let s := each ((List.range 64).filter fun t => r.banks.getLsbD t) (fun t s => s.postBank t) s
    let s := { s with integ := { s.integ with noSpare := r.rowSpares } }
    let s := r.rows.foldl (fun s x => s.postRow x.1 x.2) s
    let s := (each (allLanes.filter fun n => r.lanes.getLsbD n) (fun n s => s.postLane n) s).postFound
    let s := if r.monitors ≠ 0#24 then s.setBit F.MON_EVENT_BITS 2 else s
    if s.fld F.FLASH_BOOT_STAT_PHASE = 4 then s else s.bootPath

/-! ## Dormant and the wake (R21, R22, R320 to R323) -/

/-- What the wake starts without: the fault log, the clocks' judgements, the restart of the decimators. -/
def State.wakeClear (s : State) : State :=
  { s with faultLog := [], clk := Clocks.init, monAt := none, dorm := { s.dorm with phase := .waking } }

/-- PD_SUP powers up for the wake. MODE.STATUS keeps the host rate of the last data mode (R463). DESIGN CHOICE: its other fields show their reset values until Standby is
reached, and WAITING of a request that comes meanwhile (log entry 87). -/
def State.wakeSup (s : State) : State :=
  let rate := s.is F.MODE_STATUS_HOST_RATE
  let s := (((s.putDomain 1 true).supLogic.supRegs true).wakeClear).otpLoad.postFound
  let s := (s.put F.MODE_STATUS_HOST_RATE rate).put F.PWR_EVENT_WOKE true
  if s.is F.PWR_WAKE_CAUSE_SMP then s.put F.SMP_EVENT_WAKE true else s

/-- The wake of PD_SUP (R243, R322): the ROM goes to the resume address, or to the power-on boot path where that word is bad. -/
def State.wakeUp (s : State) : State :=
  let x := s.wakeSup.memRead ⟨2, 1⟩ 0x01000080 4
  let a := leValue x.2.2
  if x.2.1 == .done && inRange (0x01000000, 0x800000) a then
    { x.1 with sup := { x.1.sup with pc := BitVec.ofNat 32 a, released := true } }
  else { x.1.put F.BIST_POST_STAT_DONE false with sup := { x.1.sup with pc := 0#32, released := true } }

/-- The wake sources' bits that a mask disables. -/
def State.wakeOn (s : State) (b : Nat) : Bool := decide (26 ≤ b) || bitAt (s.fld F.PWR_WAKE_EN_EN) b

/-- A source's bit of WAKE_CAUSE. -/
def State.wakeCause (s : State) (b : Nat) : State := s.setBit ⟨R.PWR_WAKE_CAUSE, 0, 28⟩ b

/-- The first source of a wake. -/
def State.wakeFirst (s : State) (b : Nat) : State := (s.setFld F.PWR_WAKE_FIRST_SRC b).put F.PWR_WAKE_FIRST_VALID true

/-- A wake source fires (R22, R320, R321, R323): in Dormant, on the way into it and on the way out it is or becomes the wake, with Standby in force it is recorded, and else
ignored. -/
def State.wakeSource (s : State) (b : Nat) : State :=
  if !s.wakeOn b || !s.domOn 0 then s
  else
    match s.dorm.phase with
    | .asleep => ((s.wakeCause b).wakeFirst b).wakeUp
    | .waking => s.wakeCause b
    | .awake =>
      if s.entering then
        let s := if s.dorm.pending then s else s.wakeFirst b
        { s.wakeCause b with dorm := { s.dorm with pending := true } }
      else if s.mode = 1 then (s.wakeCause b).put F.PWR_EVENT_ACTIVITY true
      else s

/-- Only PD_AON goes on. -/
def State.fallAsleep (s : State) : State :=
  { s with sup := { s.sup with released := false }, dorm := { s.dorm with phase := .asleep, pending := false } }

/-- DORMANT_ENTRY: the gates close, the transition ends, the timebase stops, and only PD_AON stays powered; a wake that came meanwhile follows at once. A request that waits is
discarded or started now (R19): DEDUCED, its start in Dormant is the wake, from which the transition in progress goes on (log entry 17). -/
def State.sleep (s : State) : State :=
  if s.dorm.phase = .awake && s.entering && s.fld F.PWR_DOM_STAT_ON / 4 % 4096 == 0 then
    let pin := s.faultPin
    let s := s.gatesShut
    let s := { s with dorm := { s.dorm with t0 := s.tb.toNat, period := s.fld F.TIME_SLOW_CAL_PERIOD, pin := pin, stopped := true } }
    let s := s.transEnd.takeWaiting State.openedAsleep
    let next := s.is F.MODE_STATUS_BUSY
    let t := s.fld F.MODE_STATUS_IN_TARGET
    let s := ([14, 15, 16].foldl (fun s d => (s.portDomainClear d).putDomain d false) s).putDomain 1 false
    let again := s.dorm.pending
    if next then (s.fallAsleep.wakeUp.put F.MODE_STATUS_BUSY true).setFld F.MODE_STATUS_IN_TARGET t
    else if again then s.fallAsleep.wakeUp
    else s.fallAsleep
  else s

/-- WAKE_N_FALL: a low pulse of so many ns; between the limits the outcome is open. -/
def State.wakePin (s : State) (ns : Nat) : State :=
  if ns < 100 then s
  else if 200 ≤ ns then s.wakeSource 27
  else if Config.openBand s.free then s.use.wakeSource 27 else s.use

/-- What an energy detector says of an amplitude held for 1 µs: above `hi` activity, below 40 mVppd none, between them it is open. -/
def State.activity (s : State) (hi mv : Nat) : State × Bool :=
  if hi < mv then (s, true) else if mv < 40 then (s, false) else (s.use, Config.openBand s.free)

/-- LRX_ENERGY_DETECT and HRX_ENERGY_DETECT: the detector's indication, and the wake source it is. -/
def State.energy (s : State) (sig : Fld) (hi mv b : Nat) : State :=
  let x := s.activity hi mv
  let s := x.1.put sig x.2
  if x.2 then s.wakeSource b else s

/-! ## Commands -/

/-- LRX_ENERGY_DETECT (R98, R320). -/
def execLrxEnergyDetect (n : Fin 8) (mv : Nat) (s : State) : Host.Outcome State Fault Refusal := done (s.energy (F.LRX_STATUS_SIG_DET n) 100 mv n)

/-- HRX_ENERGY_DETECT (R75, R320). -/
def execHrxEnergyDetect (k : Fin 16) (mv : Nat) (s : State) : Host.Outcome State Fault Refusal :=
  done (s.energy (F.HRX_STATUS_SIG_DET (16 + k)) 120 mv (8 + k))

/-- TOWPATH_ENERGY_DETECT (R320). -/
def execTowpathEnergyDetect (p : Fin 2) (s : State) : Host.Outcome State Fault Refusal := done (s.wakeSource (24 + p))

/-- WAKE_N_FALL (R320). -/
def execWakeNFall (ns : Nat) (s : State) : Host.Outcome State Fault Refusal := done (s.wakePin ns)

/-- DORMANT_ENTRY (R322). -/
def execDormantEntry (s : State) : Host.Outcome State Fault Refusal := done s.sleep

/-- DOMAIN_POWER_DOWN (R318). -/
def execDomainPowerDown (d : Fin 17) (s : State) : Host.Outcome State Fault Refusal := done (s.powerDown d)

/-- DOMAIN_POWER_UP (R319). -/
def execDomainPowerUp (d : Fin 17) (s : State) : Host.Outcome State Fault Refusal := done (s.powerUp d)

/-- POWER_ON_RESET (R324, R326). -/
def execPowerOnReset (v : Supplies) (frm : Bool) (straps : Straps) (s : State) : Host.Outcome State Fault Refusal :=
  done (s.powerOn v frm straps.boot straps.addr)

/-- RESET_N (R324). -/
def execResetN (us : Nat) (frm : Bool) (boot : Fin 4) (addr : Fin 8) (s : State) : Host.Outcome State Fault Refusal := done (s.pinReset us frm boot addr)

/-- PWR_RESET_DEVICE (R324, R325). -/
def execPwrResetDevice (m : Master) (s : State) : Host.Outcome State Fault Refusal := done (s.via R.PWR_RESET m fun s => s.resetWrite m 1#32)

/-- PWR_RESET_SUP (R325, R464). -/
def execPwrResetSup (m : Master) (s : State) : Host.Outcome State Fault Refusal := done (s.via R.PWR_RESET m fun s => s.resetWrite m 2#32)

/-- PCIE_RESET (R324). -/
def execPcieReset (kind : Fin 3) (s : State) : Host.Outcome State Fault Refusal := done (s.resetPcie kind)

/-- LIFECYCLE_RESET (R422): the reset that a burned Maker-return or Retired bit asks for. -/
def execLifecycleReset (s : State) : Host.Outcome State Fault Refusal := done (if s.life.resetDue then s.commandReset else s)

/-- MEMORY_FILL_COMPLETE (R326, R339, R351). -/
def execMemoryFillComplete (rom : Bool) (s : State) : Host.Outcome State Fault Refusal := done (s.fillDone rom)

/-- POST_COMPLETE (R351, R352). -/
def execPostComplete (r : PostResult) (s : State) : Host.Outcome State Fault Refusal := done (s.postDone r)

/-- GATE_QUIESCE_TIMEOUT (R316). -/
def execGateQuiesceTimeout (b : Fin 10) (m : Master) (s : State) : Host.Outcome State Fault Refusal :=
  done (if s.domOn 1 then s.gateForce b m else s)

end Sys2Proof.Machine
end

