-- ==== Sys2Proof/Machine/Bus.lean ====
section
/-! DEFINITION. Sys2Proof/Machine/Bus.lean: an access to the local address map by any master (R427, R428, R430 to R438): the regions, and what a read or a write of each
register does. -/

namespace Sys2Proof.Machine

/-! ## Regions (R430) -/

/-- The regions of the local map. -/
inductive Region where
  | rom | sup | shared | cap | lanes | broadcast | device | laneBlocks | otp
  deriving DecidableEq, Repr

/-- The region of a local address: none where it is reserved. -/
def regionOf (a : Nat) : Option Region :=
  if a < 0x20000 then some .rom
  else if 0x01000000 ≤ a ∧ a < 0x01800000 then some .sup
  else if 0x02000000 ≤ a ∧ a < 0x02400000 then some .shared
  else if 0x02400000 ≤ a ∧ a < 0x02800000 then some .cap
  else if 0x03000000 ≤ a ∧ a < 0x03180000 then some .lanes
  else if 0x03200000 ≤ a ∧ a < 0x03220000 then some .broadcast
  else if 0x04000000 ≤ a ∧ a < 0x04015000 then some .device
  else if 0x04100000 ≤ a ∧ a < 0x04130000 then some .laneBlocks
  else if 0x05000000 ≤ a ∧ a < 0x05001000 then some .otp
  else none

/-- The window of a local address, and the offset in it, for the apertures of the TOW block (R305). -/
def apertureOf (a : Nat) : Option (Nat × Nat) :=
  if 0x04010800 ≤ a ∧ a < 0x04011000 then some ((a - 0x04010800) / 0x200, a % 0x200) else none

/-! ## Writes of registers -/

/-- MODE (R13, R24 to R27, R33 to R37). -/
def State.modeWrite (s : State) (m : Master) (off : Nat) (v : Word) : State × Resp :=
  let a := 0x04002000 + off
  if off = 0x000 then s.request m v
  else if off = 0x020 then s.oosWrite m 0 16 v.toNat
  else if off = 0x024 then s.oosWrite m 16 32 v.toNat
  else if 0x040 ≤ off ∧ off < 0x058 then
    let s := if bitAt v.toNat 8 then s.put ⟨a, 8, 1⟩ false else s
    s.claimWrite m ((off - 0x040) / 4) (bitsOf v.toNat 0 2)
  else (s.plainWrite a v, .ok)

/-- CLK, PWR and TIME (R311, R315, R325, R330, R333 to R336). -/
def State.clkWrite (s : State) (m : Master) (off : Nat) (v : Word) : State × Resp :=
  if off = 0x000 then s.sourceSelect m (bitAt v.toNat 0)
  else if 0x100 ≤ off ∧ off < 0x128 then s.gateSwitch m ((off - 0x100) / 4) v
  else (s.plainWrite (0x04003000 + off) v, .ok)

def State.pwrWrite (s : State) (m : Master) (off : Nat) (v : Word) : State × Resp :=
  if off = 0x018 then s.resetWrite m v
  else if off = 0x008 then s.only m [1, 3] fun s => (s.plainWrite (0x04004000 + off) v, .ok)
  else (s.plainWrite (0x04004000 + off) v, .ok)

def State.timeWrite (s : State) (m : Master) (off : Nat) (v : Word) : State × Resp :=
  let t := (off - 0x040) / 16
  if off = 0x008 then s.timeCtl m v
  else if 0x040 ≤ off ∧ off < 0x080 ∧ off % 16 < 8 then s.gtCmpWrite m t (0x04005000 + off) v
  else if 0x040 ≤ off ∧ off < 0x080 ∧ off % 16 = 8 then s.gtCtl m t v
  else (s.plainWrite (0x04005000 + off) v, .ok)

/-- MEMX and BIST (R344, R347, R348, R353, R355, R356). -/
def State.memxWrite (s : State) (m : Master) (off : Nat) (v : Word) : State × Resp :=
  if off = 0x010 then s.memxPop m v
  else if off = 0x180 then s.memxRetire m v
  else if off = 0x1A0 then s.memxClr m v
  else s.only m [1] fun s => (s.plainWrite (0x04006000 + off) v, .ok)

def State.bistWrite (s : State) (m : Master) (off : Nat) (v : Word) : State × Resp :=
  if off = 0x040 then s.bistCmd m v else (s.plainWrite (0x04007000 + off) v, .ok)

/-- THERM and MON (R360, R364, R376, R377, R381 to R384). -/
def State.thermWrite (s : State) (m : Master) (off : Nat) (v : Word) : State × Resp :=
  if off = 0x004 then s.only m [1, 3, 5] fun s => (s.plainWrite (0x04008000 + off) v, .ok)
  else if off = 0x008 then s.threshWrite m v
  else if off = 0x014 then s.brokenWrite m v
  else if off = 0x018 then s.thermAck m v
  else if off = 0x080 then s.peakWrite v
  else (s.plainWrite (0x04008000 + off) v, .ok)

def State.monWrite (s : State) (m : Master) (off : Nat) (v : Word) : State × Resp :=
  let c := (off - 0x100) / 64
  let r := off % 64
  if off = 0x000 then s.monCtl m v
  else if 0x800 ≤ off then s.coefWrite m ((off - 0x800) / 4) v
  else if 0x100 ≤ off ∧ off < 0x700 ∧ r < 8 then s.monConfig m c (r == 4) v
  else if 0x100 ≤ off ∧ off < 0x700 ∧ 0x10 ≤ r ∧ r < 0x20 then s.weirWrite m c ((r - 0x10) / 4) v
  else s.only m [1, 3, 5] fun s => (s.plainWrite (0x04009000 + off) v, .ok)

/-- FAULT (R403, R408, R412, R413). -/
def State.faultWrite (s : State) (m : Master) (off : Nat) (v : Word) : State × Resp :=
  let plain (codes : List Nat) : State × Resp := s.only m codes fun s => (s.plainWrite (0x04011000 + off) v, .ok)
  if off = 0x010 then plain [1, 3]
  else if off = 0x014 then s.faultReport m v
  else if off = 0x018 then s.stepWrite m v
  else if off = 0x01C then s.declare m v
  else if off = 0x020 then s.devClrWrite m v
  else if off = 0x024 then s.faultPop v
  else if off = 0x040 ∨ off = 0x044 then plain [1]
  else (s.plainWrite (0x04011000 + off) v, .ok)

/-- FAB (R47 to R50, R57): a speed monitor switched on has no valid margin yet; a slew rate outside 1 to 10 is ignored. -/
def State.fabWrite (s : State) (off : Nat) (v : Word) : State × Resp :=
  let a := 0x04014000 + off
  if off = 0x000 then
    let starts := bitAt v.toNat 0 && !s.is F.FAB_CTL_SPEED_EN
    let s := s.plainWrite a v
    (if starts then each (List.range 8) (fun i s => s.put (F.FAB_SPEED_VALID i) false) s else s, .ok)
  else if off = 0x014 then (if bitAt v.toNat 31 then s.lowClear else s, .ok)
  else if off = 0x040 then s.targetWrite false v
  else if off = 0x044 then s.targetWrite true v
  else if off = 0x048 then
    let r := bitsOf v.toNat 0 4
    (if decide (1 ≤ r) && decide (r ≤ 10) then s.plainWrite a v else s, .ok)
  else (s.plainWrite a v, .ok)

/-- A write through the bank offsets of lane n (R459, R468): the active bank refuses every one; in the shadow bank an offset that is not listed ignores it. -/
def State.bankOffset (s : State) (n off : Nat) (v : Word) : State × Resp :=
  s.bankWrite n (decide (0x500 ≤ off)) (off % 0x100 / 4) v

/-- The BANK register of lane n (R62). DESIGN CHOICE: an AUTOCOPY written with COMMIT is stored first, and governs that commit's copy (log entry 117). -/
def State.bankReg (s : State) (n : Nat) (v : Word) : State × Resp :=
  let s := s.plainWrite (laneBase n + 0x040) v
  if bitAt v.toNat 1 then s.bankCommit n else (s, .ok)

/-- LRX (R82 to R102, R128, R144, R150, R153, R162, R178). -/
def State.lrxWrite (s : State) (m : Master) (n off : Nat) (v : Word) : State × Resp :=
  if off = 0x014 then s.acqCmd n v
  else if off = 0x028 then s.corrWrite n v.toNat
  else if off = 0x038 then s.wcapStart n v m
  else if off = 0xD00 then s.trnCtl n v
  else if off = 0xE00 then s.cwCtl n v
  else if off = 0xE40 ∨ off = 0xE60 then s.rsCtl n ((off - 0xE40) / 0x20) v
  else (s.plainWrite (laneBase n + off) v, .ok)

/-- LTX (R105, R118, R121 to R129, R150, R153). -/
def State.ltxWrite (s : State) (n off : Nat) (v : Word) : State × Resp :=
  if off = 0x000 then s.ltxCtl n v
  else if off = 0x014 then s.biasWrite n v
  else if off = 0x01C then s.causeClear n v
  else if off = 0x020 then
    let s := s.plainWrite (laneBase n + off) v
    if bitAt v.toNat 3 then s.patInject n else (s, .ok)
  else if off = 0xE24 then s.cwInjWrite n v
  else if off = 0xE40 ∨ off = 0xE60 then s.rsCtl n ((off - 0xE40) / 0x20) v
  else (s.plainWrite (laneBase n + off) v, .ok)

/-- HRX and HTX (R67, R73, R76, R86, R128). -/
def State.hrxWrite (s : State) (n off : Nat) (v : Word) : State × Resp :=
  if off = 0x01C then s.corrWrite n v.toNat else (s.plainWrite (laneBase n + off) v, .ok)

def State.htxWrite (s : State) (n off : Nat) (v : Word) : State × Resp :=
  let t := s.plainWrite (laneBase n + off) v
  if off = 0x000 then t.htxSquelch n (bitAt v.toNat 1)
  else if off = 0x014 ∧ bitAt v.toNat 4 then t.patInject n
  else (t, .ok)

/-- A lane block: banks and sequencer registers have one layout in all of them (R433). -/
def State.laneWrite (s : State) (m : Master) (b : Block) (n off : Nat) (v : Word) : State × Resp :=
  if off = 0x040 then s.bankReg n v
  else if 0x400 ≤ off ∧ off < 0x600 then s.bankOffset n off v
  else if 0xC00 ≤ off ∧ off < 0xD00 then s.seqWrite m n off v
  else
    match b with
    | .lrx => s.lrxWrite m n off v
    | .ltx => s.ltxWrite n off v
    | .hrx => s.hrxWrite n off v
    | .htx => s.htxWrite n off v
    | .ident | .life | .mode | .clk | .pwr | .time | .memx | .bist | .therm | .mon | .perf | .mbox | .irq | .dma | .pcie | .smp | .tow | .fault | .cal
    | .flash | .fab => (s, .ok)

/-- The owning chapter lists the place: a register, or a word of a lane's banks, whose own rule judges every offset (R431, R459). -/
def Place.listed (p : Place) : Bool := (rowAt p).isSome || decide (0x04100000 ≤ blockBase p.blk) && decide (0x400 ≤ p.off) && decide (p.off < 0x600)

/-- A whole-word write of the register at a place, its target reached; an offset that is not listed ignores it (R431). -/
def State.regWrite (s : State) (m : Master) (p : Place) (v : Word) : State × Resp :=
  if !p.listed then (s, .ok)
  else
  match p.blk with
  | .ident | .smp => (s.plainWrite (blockBase p.blk + p.off) v, .ok)
  | .life => s.lifeWrite m p.off v
  | .mode => s.modeWrite m p.off v
  | .clk => s.clkWrite m p.off v
  | .pwr => s.pwrWrite m p.off v
  | .time => s.timeWrite m p.off v
  | .memx => s.memxWrite m p.off v
  | .bist => s.bistWrite m p.off v
  | .therm => s.thermWrite m p.off v
  | .mon => s.monWrite m p.off v
  | .perf => s.perfWrite m p.off v
  | .mbox => s.mboxWrite m p.off v
  | .irq => s.irqWrite m p.off v
  | .dma => s.dmaWrite m p.off v
  | .pcie => if p.off = 0x004 then s.only m [1] fun s => (s.plainWrite R.PCIE_WORLD v, .ok) else (s.plainWrite (0x0400E000 + p.off) v, .ok)
  | .tow => s.towWrite m p.off v
  | .fault => s.faultWrite m p.off v
  | .cal => if p.off = 0x004 then s.calCmd v else (s.plainWrite (0x04012000 + p.off) v, .ok)
  | .flash => s.flashWrite m p.off v
  | .fab => s.fabWrite p.off v
  | .lrx | .ltx | .hrx | .htx => s.laneWrite m p.blk p.n p.off v

/-! ## Reads of registers -/

/-- A plain read. -/
def State.plainOk (s : State) (a : Nat) : State × Resp × Word :=
  let x := s.plainRead a
  (x.1, .ok, x.2)

/-- A word that a log shows of its oldest entry (R347, R412): 0 with no entry. -/
def logWord (l : List LogEntry) (f : LogEntry → Word) : Word :=
  match l with
  | [] => 0#32
  | e :: _ => f e

/-- The time stamp words of an entry. -/
def LogEntry.lowTime (e : LogEntry) : Word := BitVec.ofNat 32 e.ts
def LogEntry.highTime (e : LogEntry) : Word := BitVec.ofNat 32 (e.ts / 2 ^ 32)

/-- CLK and TIME (R310, R328, R334, R336). -/
def State.clkRead (s : State) (off : Nat) : State × Resp × Word :=
  if off = 0x004 then (s, .ok, setBits (s.rd R.CLK_STAT) 4 2 s.trimRef)
  else if off = 0x010 then (s, .ok, setBits (s.rd R.CLK_FRO_TRIM) 0 10 s.froCode.toNat)
  else s.plainOk (0x04003000 + off)

def State.timeRead (s : State) (m : Master) (off : Nat) : State × Resp × Word :=
  if off = 0x000 then
    let x := s.tbLow (latchKey m)
    (x.1, .ok, x.2)
  else if off = 0x004 then (s, .ok, s.tbHigh (latchKey m))
  else if off = 0x00C then (s, .ok, setBits (s.rd R.TIME_STAT) 0 1 (s.fld F.CLK_SRC_SEL))
  else s.plainOk (0x04005000 + off)

/-- MEMX (R347, R355): read from 0x1 and 0x3. -/
def State.memxRead (s : State) (m : Master) (off : Nat) : State × Resp × Word :=
  if m.code ≠ 1 ∧ m.code ≠ 3 then (s, .err 2, 0#32)
  else if off = 0x010 then (s, .ok, setBits 0#32 1 5 s.integ.log.length)
  else if off = 0x018 then (s, .ok, logWord s.integ.log LogEntry.lowTime)
  else if off = 0x01C then (s, .ok, logWord s.integ.log LogEntry.highTime)
  else if off = 0x020 then (s, .ok, logWord s.integ.log LogEntry.data)
  else if off = 0x024 then (s, .ok, logWord s.integ.log LogEntry.info)
  else s.plainOk (0x04006000 + off)

/-- THERM and MON (R365, R367, R383, R384). -/
def State.thermRead (s : State) (off : Nat) : State × Resp × Word :=
  if off = 0x000 then (s, .ok, setBits (s.rd R.THERM_STAT) 18 1 (s.fld F.MODE_STATUS_THERM_HOLD))
  else if off = 0x084 then s.throtTime.plainOk (0x04008000 + off)
  else s.plainOk (0x04008000 + off)

/-- A word of WEIR_STATE as read. -/
def State.weirWord (s : State) (i : Nat) : Word :=
  BitVec.ofNat 32 ((List.range 32).foldl (fun t k => if s.weir ((32 * i + k) / 4) (k % 4) then t + 2 ^ k else t) 0)

def State.monRead (s : State) (off : Nat) : State × Resp × Word :=
  let c := (off - 0x100) / 64
  if off = 0x004 then (s, .ok, BitVec.ofNat 32 (b2n s.monPower + 2 * b2n (!s.is F.CLK_SRC_SEL)))
  else if off = 0x010 then (s, .ok, BitVec.ofNat 32 s.macLoad)
  else if 0x040 ≤ off ∧ off < 0x04C then (s, .ok, s.weirWord ((off - 0x040) / 4))
  else if 0x100 ≤ off ∧ off < 0x700 ∧ off % 64 = 0x28 then
    let x := s.accRead c
    (x.1, .ok, x.2)
  else if 0x100 ≤ off ∧ off < 0x700 ∧ off % 64 = 0x2C then (s, .ok, s.monStat c)
  else s.plainOk (0x04009000 + off)

/-- FAULT.STAT (R413). -/
def State.faultStat (s : State) : Word :=
  let count (f : Nat → Bool) : Nat := (allLadders.filter f).length
  BitVec.ofNat 32 (b2n s.devFaulted + 2 * b2n s.faultPin + 4 * b2n s.devFaulted
    + 8 * count (fun i => s.fld (F.FAULT_LADDER_LEVEL i) == 4) + 512 * count fun i => s.is (F.FAULT_LADDER_ACTIVE i))

/-- FAULT (R399, R412, R413). -/
def State.faultRead (s : State) (off : Nat) : State × Resp × Word :=
  if off = 0x000 then (s, .ok, s.faultStat)
  else if off = 0x024 then (s, .ok, setBits 0#32 1 5 s.faultLog.length)
  else if off = 0x030 then (s, .ok, logWord s.faultLog LogEntry.lowTime)
  else if off = 0x034 then (s, .ok, logWord s.faultLog LogEntry.highTime)
  else if off = 0x038 then (s, .ok, logWord s.faultLog LogEntry.info)
  else if off = 0x03C then (s, .ok, logWord s.faultLog LogEntry.data)
  else if 0x120 ≤ off ∧ off < 0x140 then s.plainOk (0x04011000 + off - 0x20)
  else s.plainOk (0x04011000 + off)

/-- Output j is locked (R50). -/
def State.locked (s : State) (j : Nat) : Bool := s.fld (F.FAB_LAT_STATE j) == 2

/-- Every in-service output is locked while the attribute is in force (R57). -/
def State.allLocked (s : State) : Bool := s.fixNow && allOuts.all fun j => s.oos (laneOfOut j) || s.locked j

/-- FAB (R41, R50, R57). -/
def State.fabRead (s : State) (off : Nat) : State × Resp × Word :=
  if off = 0x004 then (s, .ok, setBits (setBits (s.rd R.FAB_STATUS) 4 1 (b2n s.allLocked)) 5 3 s.refMode)
  else if off = 0x018 then (s, .ok, BitVec.ofNat 32 (rateNeed s.refMode))
  else if off = 0x04C then (s, .ok, BitVec.ofNat 32 (allOuts.foldl (fun t j => if s.locked j then t + 2 ^ j else t) 0))
  else s.plainOk (0x04014000 + off)

/-- SMP.STAT (R304). -/
def State.smpStat (s : State) : Word :=
  BitVec.ofNat 32 (b2n s.smp.dyn.isSome + 2 * (s.smp.dyn.getD 0#7).toNat + 256 * (0x48 + s.pins.addr) + 32768 * s.fld F.SMP_STAT_IBI_EN)

/-- LRX and LTX (R150, R173, R178, R179). -/
def State.lineRead (s : State) (n off : Nat) : State × Resp × Word :=
  if off = 0xE44 ∨ off = 0xE64 then (s, .ok, s.rsStat n ((off - 0xE44) / 0x20))
  else if n < 8 ∧ off = 0xD0C then (s, .ok, setBits (s.rd (R.LRX_TRN_STAT n)) 8 8 (s.trnElapsed n))
  else if n < 8 ∧ 0xD20 ≤ off ∧ off < 0xD30 then
    let x := s.rxfRead n ((off - 0xD20) / 4)
    (x.1, .ok, x.2)
  else s.plainOk (laneBase n + off)

/-- A whole-word read of the register at a place, its target reached; an offset that is not listed reads as 0 (R431). -/
def State.regRead (s : State) (m : Master) (p : Place) : State × Resp × Word :=
  if !p.listed then (s, .ok, 0#32)
  else
  match p.blk with
  | .life => s.lifeRead m p.off
  | .clk => s.clkRead p.off
  | .time => s.timeRead m p.off
  | .memx => s.memxRead m p.off
  | .therm => s.thermRead p.off
  | .mon => s.monRead p.off
  | .perf => s.perfRead m p.off
  | .mbox => s.mboxRead m p.off
  | .irq => s.irqRead p.off
  | .pcie => if p.off = 0x018 then (s, .ok, BitVec.ofNat 32 (s.otpWord 0x274)) else s.plainOk (0x0400E000 + p.off)
  | .smp => if p.off = 0x004 then (s, .ok, s.smpStat) else s.plainOk (0x0400F000 + p.off)
  | .tow => s.towRead p.off
  | .fault => s.faultRead p.off
  | .cal => if 0x100 ≤ p.off ∧ p.off < 0x1C0 then (s, .ok, s.calStat ((p.off - 0x100) / 4)) else s.plainOk (0x04012000 + p.off)
  | .flash => s.flashRead p.off
  | .fab => s.fabRead p.off
  | .lrx | .ltx => s.lineRead p.n p.off
  | .hrx | .htx => s.plainOk (laneBase p.n + p.off)
  | .ident | .mode | .pwr | .bist | .dma => s.plainOk (blockBase p.blk + p.off)

/-! ## Accesses of any size -/

/-- The word that four enabled bytes make, none for any other access: register blocks take whole aligned words only (R435). -/
def wholeWord (a : Nat) (bs : List (Option (BitVec 8))) : Option Word :=
  let on := bs.filterMap id
  if a % 4 = 0 ∧ bs.length = 4 ∧ on.length = 4 then some (BitVec.ofNat 32 (leValue on)) else none

/-- A whole-word write of a register by a master, counted. -/
def State.regPut (s : State) (m : Master) (a : Nat) (v : Word) : State × Resp :=
  s.onBus m a fun s => match locate a with
    | some p => s.regWrite m p v
    | none => (s, .err 3)

/-- A whole-word read of a register by a master, counted. -/
def State.regGet (s : State) (m : Master) (a : Nat) : State × Resp × Word :=
  s.onBusRead m a fun s => match locate a with
    | some p => s.regRead m p
    | none => (s, .err 3, 0#32)

/-- The result of a register access as one of the memories. -/
def Resp.mem : Resp → MemRes
  | .ok => .done
  | .err c => .denied c

/-- A region of memories that a master's view holds (R201, R435): a lane sequencer has of the local map shared SRAM alone, beside its own memories, which it addresses in its own
window. -/
def seesArea (m : Master) (g : Region) : Bool :=
  match m with
  | .ls _ => g == .shared
  | .supS | .supNS | .hostS | .hostNS | .smp | .tow _ => true

/-- A read of `n` bytes of the memories at `a`, not counted. Fields of the OTP shadow that the owner programs are read by 0x1 and 0x3 (R418). -/
def State.areaRead (s : State) (m : Master) (r : Reader) (g : Region) (a n : Nat) : State × MemRes × List (BitVec 8) :=
  if !seesArea m g then (s, .denied 3, [])
  else
  match g with
  | .rom | .sup | .shared | .cap => s.memRead r a n
  | .otp =>
    if m.code ≠ 1 ∧ m.code ≠ 3 ∧ (List.range n).any (fun i => otpField (a + i - 0x05000000)) then (s, .denied 2, []) else s.memRead r a n
  | .lanes => s.windowRead m r ((a - 0x03000000) / 0x8000) (a % 0x8000) n
  | .broadcast => (s, .denied (if m.code = 1 then 1 else 2), [])
  | .device | .laneBlocks => (s, .denied 4, [])

/-- A write of the memories at `a`, not counted. -/
def State.areaWrite (s : State) (m : Master) (r : Reader) (g : Region) (a : Nat) (bs : List (Option (BitVec 8))) : State × MemRes :=
  if !seesArea m g then (s, .denied 3)
  else
  match g with
  | .rom | .sup | .shared | .cap | .otp => s.memWrite r a bs
  | .lanes => s.windowWrite m r ((a - 0x03000000) / 0x8000) (a % 0x8000) bs
  | .broadcast => s.broadcast m r ((a - 0x03200000) / 0x8000) (a % 0x8000) bs
  | .device | .laneBlocks => (s, .denied 4)

/-- The region that an access lies in, or why it lies in none: 3 reserved, 5 across a boundary (R271, R431). -/
def spanRegion (a n : Nat) : Except Nat Region :=
  match regionOf a with
  | none => .error 3
  | some g => if n ≤ 1 ∨ regionOf (a + n - 1) = some g then .ok g else .error 5

/-- An access of the memories counted. -/
def State.memTally (s : State) (m : Master) (a : Nat) (x : MemRes) : State := s.busTally m a x.resp

/-- A register block: not a memory. -/
def Region.isRegs (g : Region) : Bool := g == .device || g == .laneBlocks

/-- A register access whose bytes make no whole aligned word. -/
def State.badWidth (s : State) (m : Master) (a : Nat) : State := s.memTally m a (.denied 4)

/-- What a read answers: a result of the memories, or none where the answer comes later (R295). -/
abbrev ReadRes : Type := Option MemRes

/-- A read of a remote window: one that is sent, or waits, is counted and answered when it ends. -/
def State.apertureRead (s : State) (m : Master) (a w x n : Nat) (ask : Asker) : State × ReadRes × List (BitVec 8) :=
  let y := match s.blockGate m a with
    | some c => (s, some c)
    | none => s.winRead m w x n ask
  match y.2 with
  | some c => (y.1.memTally m a (.denied c), some (.denied c), [])
  | none => (y.1, none, [])

/-- A read of a register as bytes. -/
def State.regBytes (s : State) (m : Master) (a : Nat) : State × ReadRes × List (BitVec 8) :=
  let x := s.regGet m a
  (x.1, some x.2.1.mem, leBytes 4 x.2.2.toNat)

/-- A read of `n` bytes at `a` by a bus master, for an asker. DBG_MDATA is not decided here. -/
def State.coreRead (s : State) (m : Master) (r : Reader) (ask : Asker) (a n : Nat) : State × ReadRes × List (BitVec 8) :=
  match spanRegion a n with
  | .error c => (s.memTally m a (.denied c), some (.denied c), [])
  | .ok g =>
    match apertureOf a with
    | some (w, x) => s.apertureRead m a w x n ask
    | none =>
      if g.isRegs then
        if a % 4 ≠ 0 ∨ n ≠ 4 then (s.badWidth m a, some (.denied 4), []) else s.regBytes m a
      else
        let x := s.areaRead m r g a n
        (x.1.memTally m a x.2.1, some x.2.1, x.2.2)

/-- A write of 4 to 64 enabled bytes at a remote window (R295). -/
def State.apertureWrite (s : State) (m : Master) (a w x : Nat) (bs : List (Option (BitVec 8))) : State × MemRes :=
  let y := s.onBus m a fun s =>
    let on := bs.filterMap id
    if on.length = bs.length then s.winWrite m w x on else s.winDeny w 4
  (y.1, y.2.mem)

/-- A write of bytes at `a` by a bus master: `none` for a byte not enabled. DBG_MDATA is not decided here. -/
def State.coreWrite (s : State) (m : Master) (r : Reader) (a : Nat) (bs : List (Option (BitVec 8))) : State × MemRes :=
  match spanRegion a bs.length with
  | .error c => (s.memTally m a (.denied c), .denied c)
  | .ok g =>
    match apertureOf a with
    | some (w, x) => s.apertureWrite m a w x bs
    | none =>
      if g.isRegs then
        match wholeWord a bs with
        | some v =>
          let x := s.regPut m a v
          (x.1, x.2.mem)
        | none => (s.badWidth m a, .denied 4)
      else
        let x := s.areaWrite m r g a bs
        (x.1.memTally m a x.2, x.2)

/-! ## Memory through the debug registers (R427, R428) -/

/-- Why DBG_MDATA refuses: its master or level, an address that is no word's, and at level NS the MPU as for an NK access. -/
def State.dbgMemRefuses (s : State) (m : Master) (kind : Nat) : Option Nat :=
  let a := (s.rd R.LIFE_DBG_MADDR).toNat
  if !s.mayDebug m then some 2
  else if a % 4 ≠ 0 then some 1
  else if s.fld F.LIFE_DBG_STAT_LEVEL ≠ 2 && !s.mpuAllows 1 a kind then some 2
  else none

/-- The master that a debug access stands for: SK at level FULL, else NK. -/
def State.dbgMaster (s : State) : Master := if s.fld F.LIFE_DBG_STAT_LEVEL = 2 then .supS else .supNS

/-- Why an access to DBG_MDATA is refused, its block and then its own rules. -/
def State.dbgGate (s : State) (m : Master) (kind : Nat) : Option Nat :=
  match s.blockGate m R.LIFE_DBG_MDATA with
  | some c => some c
  | none => s.dbgMemRefuses m kind

/-- A read of DBG_MDATA. -/
def State.dbgMemRead (s : State) (m : Master) (ask : Asker) : State × ReadRes × List (BitVec 8) :=
  match s.dbgGate m 0 with
  | some c => (s.memTally m R.LIFE_DBG_MDATA (.denied c), some (.denied c), [])
  | none =>
    let x := s.coreRead s.dbgMaster (busReader s.dbgMaster) ask (s.rd R.LIFE_DBG_MADDR).toNat 4
    (x.1.memTally m R.LIFE_DBG_MDATA (x.2.1.getD .done), x.2)

/-- A write of DBG_MDATA. -/
def State.dbgMemWrite (s : State) (m : Master) (v : Word) : State × MemRes :=
  match s.dbgGate m 1 with
  | some c => (s.memTally m R.LIFE_DBG_MDATA (.denied c), .denied c)
  | none =>
    let x := s.coreWrite s.dbgMaster (busReader s.dbgMaster) (s.rd R.LIFE_DBG_MADDR).toNat ((leBytes 4 v.toNat).map some)
    (x.1.memTally m R.LIFE_DBG_MDATA x.2, x.2)

/-! ## The bus -/

/-- A read of `n` bytes at `a` by a bus master, for an asker. -/
def State.busRead (s : State) (m : Master) (r : Reader) (ask : Asker) (a n : Nat) : State × ReadRes × List (BitVec 8) :=
  if a = R.LIFE_DBG_MDATA ∧ n = 4 then s.dbgMemRead m ask else s.coreRead m r ask a n

/-- A write of bytes at `a` by a bus master. -/
def State.busWrite (s : State) (m : Master) (r : Reader) (a : Nat) (bs : List (Option (BitVec 8))) : State × MemRes :=
  if a = R.LIFE_DBG_MDATA then
    match wholeWord a bs with
    | some v => s.dbgMemWrite m v
    | none => (s.badWidth m a, .denied 4)
  else s.coreWrite m r a bs

/-- A whole-word write at a local address (R435). -/
def State.wordPut (s : State) (m : Master) (a : Nat) (v : Word) : State × MemRes :=
  s.busWrite m (busReader m) a ((leBytes 4 v.toNat).map some)

/-- A whole-word read at a local address, answered now or later. -/
def State.wordGet (s : State) (m : Master) (a : Nat) : State :=
  let x := s.busRead m (busReader m) (.port m) a 4
  match x.2.1 with
  | some k => x.1.emit (.response m k.resp.code (leValue x.2.2))
  | none => x.1

/-! ## Commands -/

/-- A write command at any local address. -/
def State.wordSend (s : State) (m : Master) (a : Nat) (v : Word) : State :=
  let x := s.wordPut m a v
  answer m (x.1, x.2.resp)

/-- REGISTER_WRITE (R431, R435 to R437). -/
def execRegisterWrite (m : Master) (a v : Word) (s : State) : Host.Outcome State Fault Refusal := done (s.wordSend m a.toNat v)

/-- READ_CLEAR (R436, R438): a read, with its side effects. -/
def execReadClear (m : Master) (a : Word) (s : State) : Host.Outcome State Fault Refusal := done (s.wordGet m a.toNat)

/-- DBG_MEMORY_ACCESS (R427, R428): a write of DBG_MDATA, or a read. -/
def execDbgMemoryAccess (m : Master) (w : Option Word) (s : State) : Host.Outcome State Fault Refusal :=
  done (match w with
    | some v => s.wordSend m R.LIFE_DBG_MDATA v
    | none => s.wordGet m R.LIFE_DBG_MDATA)

/-- REMOTE_WINDOW_ACCESS (R295): a write of a word through window w, or a read. -/
def execRemoteWindowAccess (m : Master) (w : Fin 4) (off : Fin 512) (v : Option Word) (s : State) : Host.Outcome State Fault Refusal :=
  done (match v with
    | some v => s.wordSend m (windowPlace w off) v
    | none => s.wordGet m (windowPlace w off))

end Sys2Proof.Machine
end

