-- ==== Sys2Proof/Machine/Loads.lean ====
section
/-! DEFINITION. Sys2Proof/Machine/Loads.lean: the loads and stores of the Ecnak cores (R199 to R203, R220, R222). -/

namespace Sys2Proof.Machine

/-- How a data access of a core ends: done, a fault with its detail (R222), a word in error read, or a wait for a remote window's answer. -/
inductive DataRes where
  | done
  | fault (detail : Nat)
  | ecc
  | wait
  deriving DecidableEq, Repr

/-- A read's result: an error response is detail 1, an address outside the map detail 3. -/
def MemRes.load : MemRes → DataRes
  | .done => .done
  | .denied c => .fault (if c = 3 then 3 else 1)
  | .bad => .ecc

/-- A write's result: a partial write into a poisoned word is detail 2. -/
def MemRes.store : MemRes → DataRes
  | .done => .done
  | .denied c => .fault (if c = 3 then 3 else 1)
  | .bad => .fault 2

/-- A size in bytes. -/
def sizeOf : Size → Nat
  | .byte => 1
  | .half => 2
  | .word => 4

/-! ## The address space of a lane sequencer (R201) -/

/-- What a sequencer's address names: a byte of its own memories, at an offset of its window; a register at a local address; TB_LO, TB_HI, EVT; shared SRAM. -/
inductive LanePlace where
  | own (off : Nat)
  | reg (a : Nat)
  | tbLo | tbHi | evt
  | shared (a : Nat)
  deriving DecidableEq, Repr

/-- The map of R201: none for an address outside it. -/
def lanePlace (n a : Nat) : Option LanePlace :=
  if a < 0x6000 then some (.own a)
  else if 0x10000 ≤ a ∧ a < 0x11000 then some (.reg (laneBase n + a % 0x1000))
  else if 0x11000 ≤ a ∧ a < 0x12000 then (if n < 16 then some (.reg (laneBase (pairOf n) + a % 0x1000)) else none)
  else if 0x12000 ≤ a ∧ a < 0x12004 then some .tbLo
  else if 0x12004 ≤ a ∧ a < 0x12008 then some .tbHi
  else if 0x12008 ≤ a ∧ a < 0x1200C then some .evt
  else if 0x02000000 ≤ a ∧ a < 0x02400000 then some (.shared a)
  else none

/-- Places that take word accesses only (R200). -/
def LanePlace.wordOnly : LanePlace → Bool
  | .reg _ | .tbLo | .tbHi | .evt => true
  | .own _ | .shared _ => false

/-- A data read of sequencer n. -/
def State.laneRead (s : State) (n : Fin 48) (a : Nat) (z : Size) : State × DataRes × Nat :=
  let m : Master := .ls n
  match lanePlace n a with
  | none => (s, .fault 3, 0)
  | some p =>
    if p.wordOnly && z != .word then (s, .fault 1, 0)
    else
      match p with
      | .own off =>
        let x := s.memRead (busReader m) (0x03000000 + n * 0x8000 + off) (sizeOf z)
        (x.1, x.2.1.load, leValue x.2.2)
      | .shared a =>
        let x := s.memRead (busReader m) a (sizeOf z)
        (x.1.memTally m a x.2.1, x.2.1.load, leValue x.2.2)
      | .reg a =>
        let x := s.regGet m a
        (x.1, x.2.1.mem.load, x.2.2.toNat)
      | .tbLo =>
        let x := s.tbLow (latchKey m)
        (x.1, .done, x.2.toNat)
      | .tbHi => (s, .done, (s.tbHigh (latchKey m)).toNat)
      | .evt => (s, .done, (s.rd (R.LRX_SEQ_EVT n)).toNat)

/-- A data write of sequencer n: instruction memory is outside its map for writes, and the timebase words are read only. -/
def State.laneStore (s : State) (n : Fin 48) (a : Nat) (z : Size) (v : Word) : State × DataRes :=
  let m : Master := .ls n
  match lanePlace n a with
  | none => (s, .fault 3)
  | some p =>
    if p.wordOnly && z != .word then (s, .fault 1)
    else
      match p with
      | .own off =>
        if off < 0x4000 then (s, .fault 3)
        else
          let x := s.memWrite (busReader m) (0x03000000 + n * 0x8000 + off) (sizeBytes z v)
          (x.1, x.2.store)
      | .shared a =>
        let x := s.memWrite (busReader m) a (sizeBytes z v)
        (x.1.memTally m a x.2, x.2.store)
      | .reg a =>
        let x := s.regPut m a v
        (x.1, x.2.mem.store)
      | .tbLo | .tbHi => (s, .done)
      | .evt => (s.wr (R.LRX_SEQ_EVT n) (s.rd (R.LRX_SEQ_EVT n) &&& ~~~v), .done)

/-! ## Data accesses of a core -/

/-- A data read: the supervisor's passes the MPU first (R220). -/
def State.dataRead (s : State) (k : Core) (rd a : Nat) (z : Size) : State × DataRes × Nat :=
  match k with
  | .ls n => s.laneRead n a z
  | .sup =>
    if !s.mpuAllows s.level a 0 then (s, .fault 0, 0)
    else
      let m := s.coreMaster .sup
      let x := s.busRead m (busReader m) (.load rd (BitVec.ofNat 32 a)) a (sizeOf z)
      match x.2.1 with
      | some r => (x.1, r.load, leValue x.2.2)
      | none => ({ x.1 with sup := { x.1.sup with stall := true } }, .wait, 0)

/-- A data write. -/
def State.dataWrite (s : State) (k : Core) (a : Nat) (z : Size) (v : Word) : State × DataRes :=
  match k with
  | .ls n => s.laneStore n a z v
  | .sup =>
    if !s.mpuAllows s.level a 1 then (s, .fault 0)
    else
      let m := s.coreMaster .sup
      let x := s.busWrite m (busReader m) a (sizeBytes z v)
      (x.1, x.2.store)

/-! ## Instructions -/

/-- The address of a load or a store. -/
def State.dataAddr (s : State) (k : Core) (a : Nat) (imm : BitVec 16) : Word := s.reg k a + sext16 imm

/-- The next instruction, unless the access has reset or stopped the core. -/
def State.goOn (s : State) (k : Core) : State := if s.coreOn k then s.advance k else s

/-- A load: `f` makes the register's value of the bytes read. -/
def State.runLoad (s : State) (k : Core) (d a : Nat) (imm : BitVec 16) (z : Size) (f : Nat → Word) : State :=
  if s.coreOn k then
    let addr := s.dataAddr k a imm
    if addr.toNat % sizeOf z ≠ 0 then s.trap k 6 0 (s.pcOf k) addr
    else
      let x := s.dataRead k d addr.toNat z
      match x.2.1 with
      | .done => (x.1.setReg k d (f x.2.2)).goOn k
      | .wait => x.1
      | .ecc => x.1.trap k 10 0 (s.pcOf k) addr
      | .fault detail => x.1.trap k 8 detail (s.pcOf k) addr
  else s

/-- A store of the low bytes of a register. -/
def State.runStore (s : State) (k : Core) (d a : Nat) (imm : BitVec 16) (z : Size) : State :=
  if s.coreOn k then
    let addr := s.dataAddr k a imm
    if addr.toNat % sizeOf z ≠ 0 then s.trap k 7 0 (s.pcOf k) addr
    else
      let x := s.dataWrite k addr.toNat z (s.reg k d)
      match x.2 with
      | .fault detail => x.1.trap k 9 detail (s.pcOf k) addr
      | .done | .ecc | .wait => x.1.goOn k
  else s

/-- Z after an STWC; the other flags stay. -/
def State.storeFlag (s : State) (k : Core) (z : Bool) : State := s.setFlags k { s.flags k with z := z }

/-- STWC (R202): only a misaligned address and details 0 and 3 trap. -/
def State.runStwc (s : State) (k : Core) (d a : Nat) (imm : BitVec 16) : State :=
  if s.coreOn k then
    let addr := s.dataAddr k a imm
    if addr.toNat % 4 ≠ 0 then s.trap k 7 0 (s.pcOf k) addr
    else
      let x := s.dataWrite k addr.toNat .word (s.reg k d)
      match x.2 with
      | .fault detail =>
        if detail = 0 ∨ detail = 3 then x.1.trap k 9 detail (s.pcOf k) addr
        else if x.1.coreOn k then (x.1.storeFlag k false).advance k else x.1
      | .done | .ecc | .wait => if x.1.coreOn k then (x.1.storeFlag k true).advance k else x.1
  else s

/-- A register's value of the bytes of a load. -/
def signedLoad (w v : Nat) : Word := BitVec.ofInt 32 (signedOf w v)

/-- LDW (R199 to R203). -/
def execLdw (k : Core) (d a : Fin 16) (imm : BitVec 16) (s : State) : Host.Outcome State Fault Refusal :=
  done (s.runLoad k d a imm .word (BitVec.ofNat 32))

/-- LDH (R199 to R203). -/
def execLdh (k : Core) (d a : Fin 16) (imm : BitVec 16) (s : State) : Host.Outcome State Fault Refusal :=
  done (s.runLoad k d a imm .half (signedLoad 16))

/-- LDHU (R199 to R203). -/
def execLdhu (k : Core) (d a : Fin 16) (imm : BitVec 16) (s : State) : Host.Outcome State Fault Refusal :=
  done (s.runLoad k d a imm .half (BitVec.ofNat 32))

/-- LDB (R199 to R203). -/
def execLdb (k : Core) (d a : Fin 16) (imm : BitVec 16) (s : State) : Host.Outcome State Fault Refusal :=
  done (s.runLoad k d a imm .byte (signedLoad 8))

/-- LDBU (R199 to R203). -/
def execLdbu (k : Core) (d a : Fin 16) (imm : BitVec 16) (s : State) : Host.Outcome State Fault Refusal :=
  done (s.runLoad k d a imm .byte (BitVec.ofNat 32))

/-- STW (R199 to R203). -/
def execStw (k : Core) (d a : Fin 16) (imm : BitVec 16) (s : State) : Host.Outcome State Fault Refusal := done (s.runStore k d a imm .word)

/-- STH (R199 to R203). -/
def execSth (k : Core) (d a : Fin 16) (imm : BitVec 16) (s : State) : Host.Outcome State Fault Refusal := done (s.runStore k d a imm .half)

/-- STB (R199 to R203). -/
def execStb (k : Core) (d a : Fin 16) (imm : BitVec 16) (s : State) : Host.Outcome State Fault Refusal := done (s.runStore k d a imm .byte)

/-- STWC (R199, R202). -/
def execStwc (k : Core) (d a : Fin 16) (imm : BitVec 16) (s : State) : Host.Outcome State Fault Refusal := done (s.runStwc k d a imm)

end Sys2Proof.Machine
end

