-- ==== Sys2Proof/Machine/Ports.lean ====
section
/-! DEFINITION. Sys2Proof/Machine/Ports.lean: the PCIe endpoint, the serial management port and the requests of the towpath (R268 to R271, R276 to R282, R289, R302,
R304). -/

namespace Sys2Proof.Machine

/-! ## PCIe (R268 to R271, R302) -/

/-- A word of the function's configuration space that R268 fixes: identity, class, the kinds of the BARs, and the subsystem IDs of OTP. No command reads it. -/
def State.configWord (s : State) (off : Nat) : Option Word :=
  if off = 0x00 then some 0x32081E9C#32
  else if off = 0x08 then some 0x02800001#32
  else if off = 0x10 ∨ off = 0x18 ∨ off = 0x20 then some 0x00000004#32
  else if off = 0x2C then some (BitVec.ofNat 32 (s.otpWord 0x274))
  else none

/-- The master of BAR0's accesses (R269). -/
def State.barMaster (s : State) : Master := if s.is F.PCIE_WORLD_BAR0_NS then .hostNS else .hostS

/-- A read completed with data. -/
def State.complete (s : State) (m : Master) (bytes : List (BitVec 8)) : State := (s.emit (.data m 0 bytes)).bwCount 50 bytes.length

/-- A read completed with CA, and recorded. -/
def State.barDeny (s : State) (m : Master) (bar off cause : Nat) : State := (s.pcieRefuse false bar off cause).emit (.data m cause [])

/-- What a doorbell page offset names: a register by its local address, none where it is reserved (R270). -/
def pageAddr (x : Nat) : Option Nat := if x < 0xA00 then some (0x0400B000 + x) else if x < 0xA04 then some R.IRQ_HOST_EOI else none

/-- A page of BAR2 at an offset: its master and page offset, or the refusal cause (R269). -/
def State.bar2Page (s : State) (off : Nat) : Except Nat (Master × Nat) :=
  if off < 0x2000 then (if s.is F.PCIE_WORLD_BAR2S_EN then .ok (.hostS, off) else .error 2)
  else if off < 0x4000 then .ok (.hostNS, off - 0x2000)
  else .error 3

/-- The register that an access of `n` bytes at an offset of BAR2 reaches. -/
def State.bar2Reg (s : State) (off n : Nat) : Except Nat (Master × Nat) :=
  match s.bar2Page off with
  | .error c => .error c
  | .ok (m, x) =>
    match pageAddr x with
    | none => .error 3
    | some a => if x % 4 ≠ 0 ∨ n ≠ 4 then .error 4 else .ok (m, a)

/-- A read through BAR0: the local address is the offset. -/
def State.bar0Read (s : State) (off n : Nat) : State :=
  let m := s.barMaster
  if 0x08000000 ≤ off then s.barDeny m 0 off 3
  else
    let x := s.busRead m (busReader m) (.bar m off) off n
    match x.2.1 with
    | none => x.1
    | some .done => x.1.complete m x.2.2
    | some r => x.1.barDeny m 0 off r.resp.code

/-- A read through a doorbell page. -/
def State.bar2Read (s : State) (off n : Nat) : State :=
  match s.bar2Reg off n with
  | .error c => s.barDeny .hostS 1 off c
  | .ok (m, a) =>
    let x := s.regGet m a
    if x.2.1 = .ok then x.1.complete m (leBytes 4 x.2.2.toNat) else x.1.barDeny m 1 off x.2.1.code

/-- A byte of BAR4's MSI-X table or pending bits. -/
def State.msixByte (s : State) (i : Nat) : BitVec 8 :=
  if i < 0x400 then BitVec.ofNat 8 ((s.msixWord (i / 4)).toNat / 2 ^ (8 * (i % 4))) else BitVec.ofNat 8 (s.pcie.pba.toNat / 2 ^ (8 * (i % 8)))

/-- A read through BAR4: the MSI-X table, the pending bits, or a word of the counter user page. -/
def State.bar4Read (s : State) (off n : Nat) : State :=
  let last := off + n - 1
  if off < 0x400 ∨ 0x1000 ≤ off ∧ off < 0x1008 then
    if last < 0x400 ∨ 0x1000 ≤ off ∧ last < 0x1008 then s.complete .hostS ((List.range n).map fun i => s.msixByte (off + i))
    else s.barDeny .hostS 2 off 5
  else if 0x2000 ≤ off ∧ off < 0x3000 then
    if off % 4 ≠ 0 ∨ n ≠ 4 then s.barDeny .hostNS 2 off 4
    else
      let x := s.userPage (off - 0x2000)
      x.1.complete .hostNS (leBytes 4 x.2.toNat)
  else s.barDeny .hostS 2 off 3

/-- A TLP reaches the endpoint: the link is in L0 then, the TLP is counted, with `n` bytes of payload, and refused where the application side is switched off (R315). In D3hot
nothing but UR answers (R271). -/
def State.tlp (s : State) (n : Nat) (ur : State → State) (off_ : State → State) (f : State → State) : State :=
  if !s.domOn 14 then s
  else
    let s := ((s.setFld F.PCIE_STAT_ASPM 0).tally (.plain 0x16 1)).bwCount 24 n
    if s.is F.PCIE_STAT_D3HOT then ur s
    else
      let x := s.gateRequest 7
      if x.2 then f x.1 else off_ x.1

/-- PCIE_READ: bars 0 to 2 are BAR0, BAR2, BAR4. UR answers with code 7. -/
def State.barRead (s : State) (bar off n : Nat) : State :=
  s.tlp 0 (fun s => s.emit (.data s.barMaster 7 [])) (fun s => s.barDeny s.barMaster bar off 1) fun s =>
    if bar = 0 then s.bar0Read off n else if bar = 1 then s.bar2Read off n else s.bar4Read off n

/-- A write that is dropped is recorded; one that is performed is silent. -/
def State.barEnd (x : State × MemRes) (bar off : Nat) : State :=
  match x.2 with
  | .done => x.1
  | r => x.1.pcieRefuse true bar off r.resp.code

/-- A vector unmasked with its message pending sends it (R268). -/
def State.msixUnmask (s : State) (v : Nat) : State :=
  if !s.msixMasked v && s.pcie.pba.getLsbD v then
    { s with pcie := { s.pcie with pba := s.pcie.pba &&& ~~~(BitVec.ofNat 64 (2 ^ v)) } }.emit (.msix v) |>.bwCount 50 4
  else s

/-- A byte of the MSI-X table written. -/
def State.tablePut (s : State) (i : Nat) (b : BitVec 8) : State :=
  let k := i / 4
  { s with pcie := { s.pcie with table := tabPut msixReset s.pcie.table k (setBits (s.msixWord k) (8 * (i % 4)) 8 b.toNat) } }

/-- A write through BAR4: the MSI-X table takes it, the pending bits ignore it, the user page refuses it. -/
def State.bar4Write (s : State) (off : Nat) (bs : List (Option (BitVec 8))) : State :=
  let last := off + bs.length - 1
  if off < 0x400 then
    if last < 0x400 then
      let s := bs.zipIdx.foldl (fun s b => match b.1 with
        | some v => s.tablePut (off + b.2) v
        | none => s) s
      each (List.range 64) (fun v s => s.msixUnmask v) s
    else s.pcieRefuse true 2 off 5
  else if 0x1000 ≤ off ∧ last < 0x1008 then s
  else s.pcieRefuse true 2 off (if 0x2000 ≤ off ∧ off < 0x3000 then 2 else 3)

/-- PCIE_WRITE. -/
def State.barWrite (s : State) (bar off : Nat) (bs : List (Option (BitVec 8))) : State :=
  s.tlp bs.length (fun s => s) (fun s => s.pcieRefuse true bar off 1) fun s =>
    if bar = 0 then
      if 0x08000000 ≤ off then s.pcieRefuse true 0 off 3 else State.barEnd (s.busWrite s.barMaster (busReader s.barMaster) off bs) 0 off
    else if bar = 1 then
      match s.bar2Reg off bs.length with
      | .error c => s.pcieRefuse true 1 off c
      | .ok (m, a) => match wholeWord a bs with
        | some v =>
          let x := s.regPut m a v
          State.barEnd (x.1, x.2.mem) 1 off
        | none => s.pcieRefuse true 1 off 4
    else s.bar4Write off bs

/-- The endpoint supports a link of a speed and a width: 2.5 to 32 GT/s, one, two or four lanes (R268). -/
def linkRuns (speed width : Nat) : Bool := decide (1 ≤ speed) && decide (speed ≤ 5) && (width == 1 || width == 2 || width == 4)

/-- What the host sets in the configuration space: payload sizes of 128, 256 and 512 B, read requests up to 512 B, completion timeouts of ranges A and B (R268); a setting of
another value leaves the one before. -/
def hostSets (x new : PcieSet) : PcieSet :=
  { new with payload := if new.payload.val ≤ 2 then new.payload else x.payload,
             timeout := if [0, 1, 2, 5, 6].contains new.timeout.val then new.timeout else x.timeout }

/-- PCIE_LINK_CHANGE (R302): the data link goes up or down, or to another speed, width or power state, with the settings that the host has made by then (R268; log entry 123). -/
def State.linkChange (s : State) (up : Bool) (set : PcieSet) (speed width aspm : Nat) : State :=
  if !s.domOn 14 || up && !linkRuns speed width then s
  else
    let s := if up then { s with pcie := { s.pcie with set := hostSets s.pcie.set set } } else s
    let was := s.is F.PCIE_STAT_LINK_UP
    let s := ((s.put F.PCIE_STAT_LINK_UP up).setFld F.PCIE_STAT_SPEED (if up then speed else 0)).setFld F.PCIE_STAT_WIDTH (if up then width else 0)
    let s := s.setFld F.PCIE_STAT_ASPM (if up then aspm else 0)
    if up && !was then s.put F.PCIE_EVENT_LINK_UP true else if was && !up then s.put F.PCIE_EVENT_LINK_DOWN true else s

/-! ## Serial management port (R276 to R281, R304) -/

/-- The port is an I3C target: it has a dynamic address. -/
def State.i3c (s : State) : Bool := s.smp.dyn.isSome

/-- A transfer on the port: refused by NACK while the port's RUN is 0 (R315). -/
def State.smpDo (s : State) (f : State → State) : State :=
  if !s.domOn 1 then s
  else
    let x := s.gateRequest 6
    if x.2 then f x.1 else x.1.emit .nack

/-- A refused or bad transfer counted (R304). -/
def State.smpCount (s : State) : State := s.bump F.SMP_ERR_COUNT_COUNT 1

/-- A refused write (R280). -/
def State.smpWriteRefused (s : State) : State :=
  let s := s.smpCount
  if s.i3c then
    let s := s.put F.SMP_EVENT_WERR true
    { s with smp := { s.smp with protErr := true } }
  else s.emit .nack

/-- A bad address phase (R277). -/
def State.smpBadAddr (s : State) : State :=
  let s := s.smpCount
  if s.i3c then s.put F.SMP_EVENT_AERR true else s.emit .nack

/-- One word written by the port at a local address: false when refused. -/
def State.smpPut (s : State) (a : Nat) (v : Word) : State × Bool :=
  let x := s.wordPut .smp a v
  if x.2 = .done then ((if s.i3c then x.1 else x.1.emit (.response .smp 0 0)), true) else (x.1.smpWriteRefused, false)

/-- The address of the next word. -/
def State.smpPtr (s : State) (a : Nat) : State := { s with smp := { s.smp with ptr := a } }

/-- The words of a write transfer in order, the rest of which ends with a NACK under I²C; a word that the transfer leaves incomplete is discarded (R277). -/
def State.smpWords (s : State) : List (BitVec 8) → State
  | a :: b :: c :: d :: rest =>
    let x := (s.smpPtr (s.smp.ptr + 4)).smpPut s.smp.ptr (BitVec.ofNat 32 (leValue [a, b, c, d]))
    if x.2 || s.i3c then x.1.smpWords rest else x.1
  | [] => s
  | _ => s.put F.SMP_EVENT_PARTIAL true

/-- The word fetched ahead. -/
def State.setFetch (s : State) (x : SmpFetch) : State := { s with smp := { s.smp with fetch := x } }

/-- A word that the ECC cannot give: the port returns it as all ones, and counts it (R342). -/
def badWord : List (BitVec 8) := leBytes 4 0xFFFFFFFF

/-- The first word at an address fetched as the address phase ends (R279). -/
def State.smpFetchAt (s : State) (a : Nat) : State :=
  let x := s.busRead .smp (busReader .smp) .ahead a 4
  match x.2.1 with
  | none => x.1.setFetch .waiting
  | some .done => x.1.setFetch (.word 0 x.2.2)
  | some .bad => x.1.smpCount.setFetch (.word 0 badWord)
  | some (.denied c) => x.1.setFetch (.word c [])

/-- SMP_WRITE in the native persona. A transfer with no data is the address phase of a read: under I3C the port fetches the first word then. -/
def State.smpWrite (s : State) (a : Nat) (bytes : List (BitVec 8)) : State :=
  s.smpDo fun s =>
    if s.is F.MODE_PERSONA_ACTIVE then s
    else if a % 4 ≠ 0 ∨ 0x08000000 ≤ a then s.smpBadAddr
    else
      let s := (s.smpPtr a).setFetch .none
      if s.i3c && bytes.isEmpty then s.smpFetchAt a else s.smpWords (bytes.take 64)

/-- A read header refused by NACK (R267, R279). -/
def State.smpReadNack (s : State) : State := (if s.i3c then s.put F.SMP_EVENT_READ_NACK true else s).emit .nack

/-- One word read by the port at a local address: false when refused. A remote window's word comes later. -/
def State.smpGet (s : State) (a : Nat) : State × Bool :=
  let x := s.busRead .smp (busReader .smp) (.port .smp) a 4
  match x.2.1 with
  | none => (x.1, true)
  | some .done => (x.1.emit (.data .smp 0 x.2.2), true)
  | some .bad => (x.1.smpCount.emit (.data .smp 0 badWord), true)
  | some (.denied _) => (x.1.smpCount, false)

/-- The words of a read transfer: a refused first word is a NACK, a later one ends the data; false where one was refused. -/
def State.smpReads (s : State) (first : Bool) : Nat → State × Bool
  | 0 => (s, true)
  | n + 1 =>
    let x := (s.smpPtr (s.smp.ptr + 4)).smpGet s.smp.ptr
    if x.2 then x.1.smpReads false n else (if first then x.1.smpReadNack else x.1, false)

/-- The address lies in a register block. -/
def isRegAddr (a : Nat) : Bool :=
  match regionOf a with
  | some g => g.isRegs
  | none => false

/-- The words that an I3C read returns from an address: one of a register block, at most 16 of a memory (R279). -/
def aheadWords (a words : Nat) : Nat := if isRegAddr a then 1 else min words 16

/-- A read of at least one word under I3C: the word fetched ahead comes first; one that is not ready, or was refused, is a NACK. -/
def State.smpReadI3c (s : State) (words : Nat) : State :=
  match s.smp.fetch with
  | .none => (s.smpReads true (aheadWords s.smp.ptr words)).1
  | .waiting => s.smpReadNack
  | .word 0 bytes => ((((s.setFetch .none).smpPtr (s.smp.ptr + 4)).emit (.data .smp 0 bytes)).smpReads false (aheadWords s.smp.ptr words - 1)).1
  | .word _ _ => (s.setFetch .none).smpCount.smpReadNack

/-- SMP_READ of a number of words in the native persona: under I3C a header before the first word is ready (0 words) is a NACK; under I²C bytes after the 64th read as
0xFF. -/
def State.smpRead (s : State) (words : Nat) : State :=
  s.smpDo fun s =>
    if s.is F.MODE_PERSONA_ACTIVE then s
    else if s.i3c then (if words = 0 then s.smpReadNack else s.smpReadI3c words)
    else
      let x := s.smpReads true (min words 16)
      let s := x.1
      if x.2 && decide (16 < words) then s.emit (.data .smp 0 (List.replicate (4 * (words - 16)) 0xFF#8)) else s

/-! ## Common command codes (R276) -/

/-- A command that needs a dynamic address: an I²C target does not take it. -/
def State.ccc (s : State) (f : State → State) : State := s.smpDo fun s => if s.i3c then f s else s.emit .nack

/-- Data bytes that a command returns. -/
def State.cccData (s : State) (bytes : List (BitVec 8)) : State := s.ccc fun s => s.emit (.data .smp 0 bytes)

/-- The provisional ID. -/
def State.provisional (s : State) : Nat := 0x2E7 * 2 ^ 33 + 0x3208 * 2 ^ 16 + s.pins.addr * 2 ^ 12 + 0x0A1

/-- A dynamic address assigned, unless CFG.I3C_EN is 0 (R304). -/
def State.assign (s : State) (da : BitVec 7) : State := { s with smp := { s.smp with dyn := some da } }

/-- ENTDAA (asks for the ID) or SETDASA: a target without a dynamic address takes one. -/
def State.assignNew (s : State) (da : BitVec 7) (ask : Bool) : State :=
  s.smpDo fun s =>
    if s.i3c || !s.is F.SMP_CFG_I3C_EN then s
    else (if ask then s.emit (.data .smp 0 (beBytes 6 s.provisional ++ [0x06#8, 0x00#8])) else s).assign da

/-- The lowest raised source that SMP_EN enables. -/
def State.attention (s : State) : Option Nat := (List.range 64).find? fun i => bitAt (s.raw &&& s.pair R.IRQ_SMP_EN_LO) i

/-- IBI: while the port is an I3C target and ENEC has enabled IBIs (R281). -/
def State.ibiSend (s : State) : State :=
  s.smpDo fun s =>
    match s.attention with
    | some i => if s.i3c && s.is F.SMP_STAT_IBI_EN then s.emit (.ibi i) else s
    | none => s

/-- GETSTATUS: the protocol-error bit, which the read clears; the other bits are not stated. -/
def State.getStatus (s : State) : State :=
  s.ccc fun s =>
    let w := setBits (Config.freeWord s.free) 5 1 (b2n s.smp.protErr)
    { s.use with smp := { s.smp with protErr := false } }.emit (.data .smp 0 (beBytes 2 w.toNat))

/-- GETMXDS: what it returns is not stated. -/
def State.getMxds (s : State) : State := s.ccc fun s => s.use.emit (.data .smp 0 (beBytes 2 (Config.freeWord s.free).toNat))

/-- SMP_ADDRESS_MATCH (R281): in Dormant, and until the wake from it has ended, a matching header is a NACK and a wake source. -/
def State.addressMatch (s : State) : State :=
  if s.dorm.phase = .awake then s
  else ((if s.domOn 1 then s.put F.SMP_EVENT_WAKE true else s).emit .nack).wakeSource 26

/-! ## Forerunner window (R282) -/

/-- The local address of the register at an index below 0x3C. -/
def windowReg (i : Nat) : Nat :=
  if i < 0x04 then 0x04000000 + 4 * i
  else if i < 0x08 then [R.MODE_REQ, R.MODE_STATUS, R.MODE_RESULT, R.MODE_OOS_LINE].getD (i - 0x04) 0
  else if i < 0x10 then R.LRX_STATUS (i - 0x08)
  else if i < 0x18 then R.LTX_STATUS (i - 0x10 + 8)
  else if i < 0x20 then R.LTX_BIAS_STAT (i - 0x18 + 8)
  else if i < 0x28 then R.LRX_CW_STAT (i - 0x20)
  else if i < 0x2E then [R.MBOX_CH_LO 4, R.MBOX_CH_HI 4, R.MBOX_CH_LO 5, R.MBOX_CH_HI 5, R.MBOX_CH_STAT 4, R.MBOX_CH_STAT 5].getD (i - 0x28) 0
  else if i < 0x30 then 0x0400C000 + 4 * (i - 0x2E)
  else if i < 0x38 then 0x04008000 + 4 * (i - 0x30)
  else 0x04011000 + 4 * (i - 0x38)

/-- IND_ADDR after an access of IND_DATA. -/
def State.indNext (s : State) : State := { s with smp := { s.smp with indAddr := s.smp.indAddr + 4#32 } }

/-- A refused access of IND_DATA. -/
def State.indRefused (s : State) : State := { s with smp := { s.smp with indStat := true } }

/-- IND_DATA: a write of a word, or a read. False where a write under I²C ends the transfer with a NACK. -/
def State.indAccess (s : State) (w : Option Word) : State × Bool :=
  let a := s.smp.indAddr.toNat
  let s := s.indNext
  match w with
  | some v =>
    let x := s.smpPut a v
    if x.2 then (x.1, true) else (x.1.indRefused, x.1.i3c)
  | none =>
    let x := s.busRead .smp (busReader .smp) .indirect a 4
    (match x.2.1 with
      | none => x.1
      | some .done => x.1.emit (.data .smp 0 x.2.2)
      | some .bad => x.1.smpCount.emit (.data .smp 0 badWord)
      | some (.denied _) => x.1.indRefused.emit (.data .smp 0 (leBytes 4 0)), true)

/-- A read of IND_STAT. -/
def State.indStatGet (s : State) : State :=
  { s with smp := { s.smp with indStat := false } }.emit (.data .smp 0 (leBytes 4 (b2n s.smp.indStat)))

/-- One word of a transfer at an index of the window, the first of the transfer or a later one; false where the transfer ends with it: a refused write is a NACK
under I²C, a refused first word of a read too, and a later one ends the data. -/
def State.windowWord (s : State) (i : Nat) (w : Option Word) (first : Bool) : State × Bool :=
  if i < 0x3C then
    match w with
    | some v =>
      let x := s.smpPut (windowReg i) v
      (x.1, x.2 || s.i3c)
    | none =>
      let x := s.smpGet (windowReg i)
      (if x.2 || !first then x.1 else x.1.smpReadNack, x.2)
  else if i = 0x3C then
    match w with
    | some v => ({ s with smp := { s.smp with indAddr := v } }, true)
    | none => (s.emit (.data .smp 0 (leBytes 4 s.smp.indAddr.toNat)), true)
  else if i = 0x3D then s.indAccess w
  else if i = 0x3E then (if w.isSome then s else s.indStatGet, true)
  else (if w.isSome then s else s.emit (.data .smp 0 (leBytes 4 0x16080040)), true)

/-- The index after a word: it stays at IND_DATA. -/
def windowNext (i : Nat) : Nat := if i = 0x3D then i else i + 1

/-- The words of a transfer from an index on; an index above 0x3F is a bad address. -/
def State.windowRun (s : State) (i : Nat) (first : Bool) (l : List (Option Word)) : State :=
  match l with
  | [] => s
  | w :: ws =>
    if 0x3F < i then s.smpBadAddr
    else
      let x := s.windowWord i w first
      if x.2 then x.1.windowRun (windowNext i) false ws else x.1

/-- The words of a transfer: values to write, or reads. -/
def xferWords : SmpXfer → List (Option Word)
  | .write ws => ws.map some
  | .read n => List.replicate n none

/-- A transfer at an index: the index alone is judged as it arrives. -/
def State.windowXfer (s : State) (i : Nat) (x : SmpXfer) : State := if 0x3F < i then s.smpBadAddr else s.windowRun i true (xferWords x)

/-- A transfer that only the forerunner persona takes. -/
def State.forerunner (s : State) (f : State → State) : State := s.smpDo fun s => if s.is F.MODE_PERSONA_ACTIVE then f s else s

/-! ## Requests of the towpath (R289) -/

/-- A request for this device, which is not the head; others are forwarded, or dropped at the head. -/
def State.forMe (s : State) (p : Nat) (k : TowPkt) (f : State → State) : State :=
  if s.is F.TOW_CTL_HEAD then s
  else if s.is F.TOW_ID_VALID && k.dst % 64 == s.fld F.TOW_ID_ID then f s
  else s.towForward p k

/-- STATUS of a response (R288). -/
def MemRes.status : MemRes → Nat
  | .done => 0
  | .denied c => if c = 2 then 2 else if c = 3 then 3 else 1
  | .bad => 1

/-- The response to a request, out of the port on which it arrived. -/
def State.respond (s : State) (p : Nat) (k : TowPkt) (typ : Nat) (r : MemRes) (data : List (BitVec 8)) : State :=
  s.towSend p { typ := typ, dst := k.src % 64, src := s.fld F.TOW_ID_ID, hops := 63, sec := k.sec, tag := k.tag, len := data.length, addr := 0,
                stat := r.status, data := data }

/-- A payload length of a packet (R288). -/
def goodLen (n : Nat) : Bool := n % 4 == 0 && decide (n ≤ 64)

/-- TOW_RD at the device it names. -/
def State.towReadMe (s : State) (p : Nat) (k : TowPkt) : State :=
  let m : Master := .tow k.sec
  if goodLen k.len then
    let x := s.busRead m (busReader m) (.port m) k.addr k.len
    let r := x.2.1.getD (.denied 1)
    x.1.respond p k 3 r (if r = .done then x.2.2 else [])
  else s.respond p k 3 (.denied 4) []

/-- TOW_WR at the device it names. -/
def State.towWriteMe (s : State) (p : Nat) (k : TowPkt) : State :=
  let m : Master := .tow k.sec
  if goodLen k.data.length then
    let x := s.busWrite m (busReader m) k.addr (k.data.map some)
    x.1.respond p k 4 x.2 []
  else s.respond p k 4 (.denied 4) []

/-! ## Commands -/

/-- PCIE_READ (R269 to R271). -/
def execPcieRead (bar : Fin 3) (off : BitVec 32) (n : Nat) (s : State) : Host.Outcome State Fault Refusal := done (s.barRead bar off.toNat n)

/-- PCIE_WRITE (R269 to R271): one byte enable per byte. -/
def execPcieWrite (bar : Fin 3) (off : BitVec 32) (bytes : List (BitVec 8)) (be : List Bool) (s : State) : Host.Outcome State Fault Refusal :=
  doneIf (bytes.length == be.length) (s.barWrite bar off.toNat ((bytes.zip be).map fun x => if x.2 then some x.1 else none))

/-- PCIE_LINK_CHANGE (R302). -/
def execPcieLinkChange (link : Option (Fin 4 × PcieSet)) (speed width : Fin 8) (s : State) : Host.Outcome State Fault Refusal :=
  done (s.linkChange link.isSome ((link.map (·.2)).getD PcieSet.init) speed width ((link.map (·.1.val)).getD 0))

/-- PCIE_POWER_STATE_CHANGE (R268, R271). -/
def execPciePowerStateChange (d3 : Bool) (s : State) : Host.Outcome State Fault Refusal :=
  done (if s.domOn 14 then s.put F.PCIE_STAT_D3HOT d3 else s)

/-- SMP_WRITE (R277, R280). -/
def execSmpWrite (addr : Word) (bytes : List (BitVec 8)) (s : State) : Host.Outcome State Fault Refusal := done (s.smpWrite addr.toNat bytes)

/-- SMP_READ (R277 to R279). -/
def execSmpRead (words : Nat) (s : State) : Host.Outcome State Fault Refusal := done (s.smpRead words)

/-- ENEC (R276): bit 0 enables interrupts. -/
def execEnec (ev : BitVec 8) (s : State) : Host.Outcome State Fault Refusal :=
  done (s.ccc fun s => if ev.getLsbD 0 then s.put F.SMP_STAT_IBI_EN true else s)

/-- DISEC (R276). -/
def execDisec (ev : BitVec 8) (s : State) : Host.Outcome State Fault Refusal :=
  done (s.ccc fun s => if ev.getLsbD 0 then s.put F.SMP_STAT_IBI_EN false else s)

/-- RSTDAA (R276). -/
def execRstdaa (s : State) : Host.Outcome State Fault Refusal := done (s.smpDo fun s => { s with smp := { s.smp with dyn := none } })

/-- ENTDAA (R276). -/
def execEntdaa (da : BitVec 7) (s : State) : Host.Outcome State Fault Refusal := done (s.assignNew da true)

/-- SETDASA (R276). -/
def execSetdasa (da : BitVec 7) (s : State) : Host.Outcome State Fault Refusal := done (s.assignNew da false)

/-- SETNEWDA (R276). -/
def execSetnewda (da : BitVec 7) (s : State) : Host.Outcome State Fault Refusal :=
  done (s.ccc fun s => if s.is F.SMP_CFG_I3C_EN then s.assign da else s)

/-- SETMWL (R276). -/
def execSetmwl (len : BitVec 16) (s : State) : Host.Outcome State Fault Refusal := done (s.ccc fun s => { s with smp := { s.smp with mwl := len.toNat } })

/-- SETMRL (R276). -/
def execSetmrl (len : BitVec 16) (s : State) : Host.Outcome State Fault Refusal := done (s.ccc fun s => { s with smp := { s.smp with mrl := len.toNat } })

/-- GETMWL (R276). -/
def execGetmwl (s : State) : Host.Outcome State Fault Refusal := done (s.cccData (beBytes 2 s.smp.mwl))

/-- GETMRL (R276): the length, and the one byte of an in-band interrupt's payload. -/
def execGetmrl (s : State) : Host.Outcome State Fault Refusal := done (s.cccData (beBytes 2 s.smp.mrl ++ [1#8]))

/-- GETPID (R276). -/
def execGetpid (s : State) : Host.Outcome State Fault Refusal := done (s.cccData (beBytes 6 s.provisional))

/-- GETBCR (R276). -/
def execGetbcr (s : State) : Host.Outcome State Fault Refusal := done (s.cccData [0x06#8])

/-- GETDCR (R276). -/
def execGetdcr (s : State) : Host.Outcome State Fault Refusal := done (s.cccData [0x00#8])

/-- GETSTATUS (R276, R280). -/
def execGetstatus (s : State) : Host.Outcome State Fault Refusal := done s.getStatus

/-- GETMXDS (R276). -/
def execGetmxds (s : State) : Host.Outcome State Fault Refusal := done s.getMxds

/-- CCC_UNSUPPORTED (R276). -/
def execCccUnsupported (_code : BitVec 8) (s : State) : Host.Outcome State Fault Refusal := done (s.smpDo fun s => s.emit .nack)

/-- IBI (R276, R281). -/
def execIbi (s : State) : Host.Outcome State Fault Refusal := done s.ibiSend

/-- SMP_ADDRESS_MATCH (R281, R320). -/
def execSmpAddressMatch (s : State) : Host.Outcome State Fault Refusal := done s.addressMatch

/-- FORERUNNER_WINDOW_ACCESS (R282). -/
def execForerunnerWindowAccess (idx : BitVec 8) (x : SmpXfer) (s : State) : Host.Outcome State Fault Refusal :=
  done (s.forerunner fun s => s.windowXfer idx.toNat x)

/-- IND_DATA (R282). -/
def execIndData (w : Option Word) (s : State) : Host.Outcome State Fault Refusal := done (s.forerunner fun s => (s.indAccess w).1)

/-- IND_STAT_READ (R282). -/
def execIndStatRead (s : State) : Host.Outcome State Fault Refusal := done (s.forerunner fun s => s.indStatGet)

/-- TOW_RD (R289). -/
def execTowRd (p : Fin 2) (k : TowPkt) (s : State) : Host.Outcome State Fault Refusal :=
  done (s.arrives p k fun s => s.forMe p { k with typ := 1 } fun s => s.towReadMe p k)

/-- TOW_WR (R289). -/
def execTowWr (p : Fin 2) (k : TowPkt) (s : State) : Host.Outcome State Fault Refusal :=
  done (s.arrives p k fun s => s.forMe p { k with typ := 2 } fun s => s.towWriteMe p k)

end Sys2Proof.Machine
end

