-- ==== Sys2Proof/Machine/Dispatch.lean ====
section
/-! DEFINITION. Sys2Proof/Machine/Dispatch.lean: the effect of one command on everything but the queue, one arm per command. -/

namespace Sys2Proof.Machine

/-- The effect of a command (the rows of spec/opcode_table.json) on everything but the queue. -/
def exec (i : Instr) (s : State) : Host.Outcome State Fault Refusal :=
  match i with
  | .modeRequest m v => Sys2Proof.Machine.execModeRequest m v s
  | .transitionComplete => Sys2Proof.Machine.execTransitionComplete s
  | .oosSet m n => Sys2Proof.Machine.execOosSet m n s
  | .oosClear m n => Sys2Proof.Machine.execOosClear m n s
  | .claim m res use => Sys2Proof.Machine.execClaim m res use s
  | .claimRelease m res => Sys2Proof.Machine.execClaimRelease m res s
  | .speedMonitorWindow margins => Sys2Proof.Machine.execSpeedMonitorWindow margins s
  | .marginLowClear m => Sys2Proof.Machine.execMarginLowClear m s
  | .inputBargeComplete src slicer sym frac => Sys2Proof.Machine.execInputBargeComplete src slicer sym frac s
  | .bargeRelease j upset lat => Sys2Proof.Machine.execBargeRelease j upset lat s
  | .flTargetWrite m host v => Sys2Proof.Machine.execFlTargetWrite m host v s
  | .slewComplete j lat => Sys2Proof.Machine.execSlewComplete j lat s
  | .lockLost j lat => Sys2Proof.Machine.execLockLost j lat s
  | .crossingAck n => Sys2Proof.Machine.execCrossingAck n s
  | .bargeBoundary n => Sys2Proof.Machine.execBargeBoundary n s
  | .groupBoundary n => Sys2Proof.Machine.execGroupBoundary n s
  | .bankCommit m n => Sys2Proof.Machine.execBankCommit m n s
  | .bankWrite m n b w v => Sys2Proof.Machine.execBankWrite m n b w v s
  | .hrxLaneUp k => Sys2Proof.Machine.execHrxLaneUp k s
  | .hrxAcqTimeout k => Sys2Proof.Machine.execHrxAcqTimeout k s
  | .hrxLos k mv unlocked => Sys2Proof.Machine.execHrxLos k mv unlocked s
  | .hrxLosExit k mv => Sys2Proof.Machine.execHrxLosExit k mv s
  | .hrxLosTimeout k => Sys2Proof.Machine.execHrxLosTimeout k s
  | .cdrLock r ofs => Sys2Proof.Machine.execCdrLock r ofs s
  | .cdrUnlock r ofs => Sys2Proof.Machine.execCdrUnlock r ofs s
  | .htxSquelch m k on => Sys2Proof.Machine.execHtxSquelch m k on s
  | .patternInject m t => Sys2Proof.Machine.execPatternInject m t s
  | .correlatorStart m r v => Sys2Proof.Machine.execCorrelatorStart m r v s
  | .correlatorWindowEnd r sums errsq bins => Sys2Proof.Machine.execCorrelatorWindowEnd r sums errsq bins s
  | .hrxEnergyDetect k mv => Sys2Proof.Machine.execHrxEnergyDetect k mv s
  | .presenceQualified n => Sys2Proof.Machine.execPresenceQualified n s
  | .amplitudeDetectorChange n mv => Sys2Proof.Machine.execAmplitudeDetectorChange n mv s
  | .lrxCdrTimeout n => Sys2Proof.Machine.execLrxCdrTimeout n s
  | .progReady m n => Sys2Proof.Machine.execProgReady m n s
  | .lrxAdaptTimeout n => Sys2Proof.Machine.execLrxAdaptTimeout n s
  | .markerAlignmentQualified n pos1 pos2 p1 p2 => Sys2Proof.Machine.execMarkerAlignmentQualified n pos1 pos2 p1 p2 s
  | .acqQualified m n => Sys2Proof.Machine.execAcqQualified m n s
  | .lrxSeekTimeout n => Sys2Proof.Machine.execLrxSeekTimeout n s
  | .capture n pos p => Sys2Proof.Machine.execCapture n pos p s
  | .markerPeakMissing n => Sys2Proof.Machine.execMarkerPeakMissing n s
  | .captureWindowEnd n => Sys2Proof.Machine.execCaptureWindowEnd n s
  | .lrxLos n cause mv => Sys2Proof.Machine.execLrxLos n cause mv s
  | .lrxLosTimeout n => Sys2Proof.Machine.execLrxLosTimeout n s
  | .nearEndLocked n => Sys2Proof.Machine.execNearEndLocked n s
  | .lrxEnergyDetect n mv => Sys2Proof.Machine.execLrxEnergyDetect n mv s
  | .wcapStart m n v => Sys2Proof.Machine.execWcapStart m n v s
  | .wcapComplete n samples => Sys2Proof.Machine.execWcapComplete n samples s
  | .squelchClear m n v => Sys2Proof.Machine.execSquelchClear m n v s
  | .squelchSet m n => Sys2Proof.Machine.execSquelchSet m n s
  | .forceOff m n => Sys2Proof.Machine.execForceOff m n s
  | .rampStep n => Sys2Proof.Machine.execRampStep n s
  | .faultRampStep n => Sys2Proof.Machine.execFaultRampStep n s
  | .synthUnlock t => Sys2Proof.Machine.execSynthUnlock t s
  | .synthLock t => Sys2Proof.Machine.execSynthLock t s
  | .biasWrite m n v => Sys2Proof.Machine.execBiasWrite m n v s
  | .biasStep n => Sys2Proof.Machine.execBiasStep n s
  | .faultCauseClear m n v => Sys2Proof.Machine.execFaultCauseClear m n v s
  | .codewordDecode n word rel => Sys2Proof.Machine.execCodewordDecode n word rel s
  | .codewordLock n zeros => Sys2Proof.Machine.execCodewordLock n zeros s
  | .offsetAbandon n failing => Sys2Proof.Machine.execOffsetAbandon n failing s
  | .codewordLockLoss n => Sys2Proof.Machine.execCodewordLockLoss n s
  | .cwRestart m n => Sys2Proof.Machine.execCwRestart m n s
  | .cwInject m n v => Sys2Proof.Machine.execCwInject m n v s
  | .rsCodeword t u errs => Sys2Proof.Machine.execRsCodeword t u errs s
  | .rsAlign t u => Sys2Proof.Machine.execRsAlign t u s
  | .rsNoAlign t u => Sys2Proof.Machine.execRsNoAlign t u s
  | .rsCtlWrite m t u v => Sys2Proof.Machine.execRsCtlWrite m t u v s
  | .startUpTrimsDone n t => Sys2Proof.Machine.execStartUpTrimsDone n t s
  | .wakePatternEnd n => Sys2Proof.Machine.execWakePatternEnd n s
  | .trainingFrameReceived n ctrl crc pos => Sys2Proof.Machine.execTrainingFrameReceived n ctrl crc pos s
  | .trainingFrameSend n => Sys2Proof.Machine.execTrainingFrameSend n s
  | .trnStateWrite m n v => Sys2Proof.Machine.execTrnStateWrite m n v s
  | .handover m n => Sys2Proof.Machine.execHandover m n s
  | .trnWake m n => Sys2Proof.Machine.execTrnWake m n s
  | .ackTo m n => Sys2Proof.Machine.execAckTo m n s
  | .peerDataStart n => Sys2Proof.Machine.execPeerDataStart n s
  | .trainingTimeout n => Sys2Proof.Machine.execTrainingTimeout n s
  | .backgroundCalWindow r levels sums lapUs => Sys2Proof.Machine.execBackgroundCalWindow r levels sums lapUs s
  | .sensorUpdate readings => Sys2Proof.Machine.execSensorUpdate readings s
  | .deferredRecalStart n => Sys2Proof.Machine.execDeferredRecalStart n s
  | .fitnessWindowEnd n levels acorr => Sys2Proof.Machine.execFitnessWindowEnd n levels acorr s
  | .recalMeasureEnd n us => Sys2Proof.Machine.execRecalMeasureEnd n us s
  | .recalStepTimeout n => Sys2Proof.Machine.execRecalStepTimeout n s
  | .recalRetry n => Sys2Proof.Machine.execRecalRetry n s
  | .calCmd m v => Sys2Proof.Machine.execCalCmd m v s
  | .add k d a b => Sys2Proof.Machine.execAdd k d a b s
  | .sub k d a b => Sys2Proof.Machine.execSub k d a b s
  | .and_ k d a b => Sys2Proof.Machine.execAnd k d a b s
  | .or_ k d a b => Sys2Proof.Machine.execOr k d a b s
  | .xor_ k d a b => Sys2Proof.Machine.execXor k d a b s
  | .shl k d a b => Sys2Proof.Machine.execShl k d a b s
  | .shr k d a b => Sys2Proof.Machine.execShr k d a b s
  | .sar k d a b => Sys2Proof.Machine.execSar k d a b s
  | .mul k d a b => Sys2Proof.Machine.execMul k d a b s
  | .mulh k d a b => Sys2Proof.Machine.execMulh k d a b s
  | .mulhu k d a b => Sys2Proof.Machine.execMulhu k d a b s
  | .cmp k a b => Sys2Proof.Machine.execCmp k a b s
  | .min k d a b => Sys2Proof.Machine.execMin k d a b s
  | .max k d a b => Sys2Proof.Machine.execMax k d a b s
  | .adds k d a b => Sys2Proof.Machine.execAdds k d a b s
  | .subs k d a b => Sys2Proof.Machine.execSubs k d a b s
  | .jalr k d a => Sys2Proof.Machine.execJalr k d a s
  | .addi k d a imm => Sys2Proof.Machine.execAddi k d a imm s
  | .andi k d a imm => Sys2Proof.Machine.execAndi k d a imm s
  | .ori k d a imm => Sys2Proof.Machine.execOri k d a imm s
  | .xori k d a imm => Sys2Proof.Machine.execXori k d a imm s
  | .shli k d a amt => Sys2Proof.Machine.execShli k d a amt s
  | .shri k d a amt => Sys2Proof.Machine.execShri k d a amt s
  | .sari k d a amt => Sys2Proof.Machine.execSari k d a amt s
  | .lui k d imm => Sys2Proof.Machine.execLui k d imm s
  | .cmpi k a imm => Sys2Proof.Machine.execCmpi k a imm s
  | .ldw k d a imm => Sys2Proof.Machine.execLdw k d a imm s
  | .ldh k d a imm => Sys2Proof.Machine.execLdh k d a imm s
  | .ldhu k d a imm => Sys2Proof.Machine.execLdhu k d a imm s
  | .ldb k d a imm => Sys2Proof.Machine.execLdb k d a imm s
  | .ldbu k d a imm => Sys2Proof.Machine.execLdbu k d a imm s
  | .stw k d a imm => Sys2Proof.Machine.execStw k d a imm s
  | .sth k d a imm => Sys2Proof.Machine.execSth k d a imm s
  | .stb k d a imm => Sys2Proof.Machine.execStb k d a imm s
  | .stwc k d a imm => Sys2Proof.Machine.execStwc k d a imm s
  | .b k cond off => Sys2Proof.Machine.execB k cond off s
  | .bl k cond off => Sys2Proof.Machine.execBl k cond off s
  | .svc imm => Sys2Proof.Machine.execSvc imm s
  | .eret => Sys2Proof.Machine.execEret s
  | .wfi => Sys2Proof.Machine.execWfi s
  | .wfiWake => Sys2Proof.Machine.execWfiWake s
  | .stop n => Sys2Proof.Machine.execStop n s
  | .illegalInstruction k w => Sys2Proof.Machine.execIllegalInstruction k w s
  | .interruptTaken secure => Sys2Proof.Machine.execInterruptTaken secure s
  | .cld n d a imm => Sys2Proof.Machine.execCld n d a imm s
  | .cst n d a imm => Sys2Proof.Machine.execCst n d a imm s
  | .cupd n d a imm => Sys2Proof.Machine.execCupd n d a imm s
  | .cupdu n d a imm => Sys2Proof.Machine.execCupdu n d a imm s
  | .cmt n d group => Sys2Proof.Machine.execCmt n d group s
  | .cstart n imm => Sys2Proof.Machine.execCstart n imm s
  | .csgn n d a imm => Sys2Proof.Machine.execCsgn n d a imm s
  | .hsum n d a imm => Sys2Proof.Machine.execHsum n d a imm s
  | .wfe n d a imm => Sys2Proof.Machine.execWfe n d a imm s
  | .wfeRelease n => Sys2Proof.Machine.execWfeRelease n s
  | .wfeTimeout n => Sys2Proof.Machine.execWfeTimeout n s
  | .mpost n d a imm => Sys2Proof.Machine.execMpost n d a imm s
  | .mtake n d a => Sys2Proof.Machine.execMtake n d a s
  | .movcRead d c => Sys2Proof.Machine.execMovcRead d c s
  | .movcWrite c a => Sys2Proof.Machine.execMovcWrite c a s
  | .seqStart m n => Sys2Proof.Machine.execSeqStart m n s
  | .seqResume m n => Sys2Proof.Machine.execSeqResume m n s
  | .seqStop m n => Sys2Proof.Machine.execSeqStop m n s
  | .seqSafe m n => Sys2Proof.Machine.execSeqSafe m n s
  | .seqLoaded m n => Sys2Proof.Machine.execSeqLoaded m n s
  | .safeTimeout n => Sys2Proof.Machine.execSafeTimeout n s
  | .imemWrite m n w v => Sys2Proof.Machine.execImemWrite m n w v s
  | .broadcastWrite m t off size v => Sys2Proof.Machine.execBroadcastWrite m t off size v s
  | .seqEvtSet m n v => Sys2Proof.Machine.execSeqEvtSet m n v s
  | .mailboxPost m c v => Sys2Proof.Machine.execMailboxPost m c v s
  | .mailboxTake m c => Sys2Proof.Machine.execMailboxTake m c s
  | .resetDecl m v => Sys2Proof.Machine.execResetDecl m v s
  | .semaphoreRead m idx => Sys2Proof.Machine.execSemaphoreRead m idx s
  | .semaphoreRelease m idx => Sys2Proof.Machine.execSemaphoreRelease m idx s
  | .msixIssue v => Sys2Proof.Machine.execMsixIssue v s
  | .hostEoi m v => Sys2Proof.Machine.execHostEoi m v s
  | .softSet m v => Sys2Proof.Machine.execSoftSet m v s
  | .softClr m v => Sys2Proof.Machine.execSoftClr m v s
  | .pcieRead bar off n => Sys2Proof.Machine.execPcieRead bar off n s
  | .pcieWrite bar off bytes be => Sys2Proof.Machine.execPcieWrite bar off bytes be s
  | .pcieLinkChange link speed width => Sys2Proof.Machine.execPcieLinkChange link speed width s
  | .dmaStart m ch => Sys2Proof.Machine.execDmaStart m ch s
  | .dmaStop m ch => Sys2Proof.Machine.execDmaStop m ch s
  | .dmaDescriptorDone ch => Sys2Proof.Machine.execDmaDescriptorDone ch s
  | .dmaHostCompletion ch ok bytes => Sys2Proof.Machine.execDmaHostCompletion ch ok bytes s
  | .dmaCompletionTimeout ch => Sys2Proof.Machine.execDmaCompletionTimeout ch s
  | .smpWrite addr bytes => Sys2Proof.Machine.execSmpWrite addr bytes s
  | .smpRead words => Sys2Proof.Machine.execSmpRead words s
  | .enec ev => Sys2Proof.Machine.execEnec ev s
  | .disec ev => Sys2Proof.Machine.execDisec ev s
  | .rstdaa => Sys2Proof.Machine.execRstdaa s
  | .entdaa da => Sys2Proof.Machine.execEntdaa da s
  | .setdasa da => Sys2Proof.Machine.execSetdasa da s
  | .setnewda da => Sys2Proof.Machine.execSetnewda da s
  | .setmwl len => Sys2Proof.Machine.execSetmwl len s
  | .setmrl len => Sys2Proof.Machine.execSetmrl len s
  | .getmwl => Sys2Proof.Machine.execGetmwl s
  | .getmrl => Sys2Proof.Machine.execGetmrl s
  | .getpid => Sys2Proof.Machine.execGetpid s
  | .getbcr => Sys2Proof.Machine.execGetbcr s
  | .getdcr => Sys2Proof.Machine.execGetdcr s
  | .getstatus => Sys2Proof.Machine.execGetstatus s
  | .getmxds => Sys2Proof.Machine.execGetmxds s
  | .cccUnsupported code => Sys2Proof.Machine.execCccUnsupported code s
  | .ibi => Sys2Proof.Machine.execIbi s
  | .smpAddressMatch => Sys2Proof.Machine.execSmpAddressMatch s
  | .forerunnerWindowAccess idx x => Sys2Proof.Machine.execForerunnerWindowAccess idx x s
  | .indData w => Sys2Proof.Machine.execIndData w s
  | .indStatRead => Sys2Proof.Machine.execIndStatRead s
  | .sofSend p => Sys2Proof.Machine.execSofSend p s
  | .sofReceive p d => Sys2Proof.Machine.execSofReceive p d s
  | .portUp p => Sys2Proof.Machine.execPortUp p s
  | .speedStepConfirm p => Sys2Proof.Machine.execSpeedStepConfirm p s
  | .speedStepTimeout p => Sys2Proof.Machine.execSpeedStepTimeout p s
  | .txSleep p => Sys2Proof.Machine.execTxSleep p s
  | .txWake p => Sys2Proof.Machine.execTxWake p s
  | .linkLoss p => Sys2Proof.Machine.execLinkLoss p s
  | .towRd p k => Sys2Proof.Machine.execTowRd p k s
  | .towWr p k => Sys2Proof.Machine.execTowWr p k s
  | .towRdRsp p k => Sys2Proof.Machine.execTowRdRsp p k s
  | .towWrAck p k => Sys2Proof.Machine.execTowWrAck p k s
  | .towEnum p k => Sys2Proof.Machine.execTowEnum p k s
  | .towEvent p k => Sys2Proof.Machine.execTowEvent p k s
  | .towHello p k => Sys2Proof.Machine.execTowHello p k s
  | .helloSend => Sys2Proof.Machine.execHelloSend s
  | .towBadPacket p => Sys2Proof.Machine.execTowBadPacket p s
  | .enumerate m => Sys2Proof.Machine.execEnumerate m s
  | .enumTimeout => Sys2Proof.Machine.execEnumTimeout s
  | .headWrite m on => Sys2Proof.Machine.execHeadWrite m on s
  | .remoteWindowAccess m w off v => Sys2Proof.Machine.execRemoteWindowAccess m w off v s
  | .remoteWindowTimeout w => Sys2Proof.Machine.execRemoteWindowTimeout w s
  | .syncCommand m => Sys2Proof.Machine.execSyncCommand m s
  | .towSync p e f => Sys2Proof.Machine.execTowSync p e f s
  | .syncAct => Sys2Proof.Machine.execSyncAct s
  | .bootDoor m v => Sys2Proof.Machine.execBootDoor m v s
  | .imageAuthenticate slot image => Sys2Proof.Machine.execImageAuthenticate slot image s
  | .flashCommand m v => Sys2Proof.Machine.execFlashCommand m v s
  | .flashCommandEnd answer => Sys2Proof.Machine.execFlashCommandEnd answer s
  | .flashCommandTimeout => Sys2Proof.Machine.execFlashCommandTimeout s
  | .clockCheckWindow clk count => Sys2Proof.Machine.execClockCheckWindow clk count s
  | .froTrimMeasure ref err => Sys2Proof.Machine.execFroTrimMeasure ref err s
  | .clockSourceSelect m root => Sys2Proof.Machine.execClockSourceSelect m root s
  | .rootWaitExpiry => Sys2Proof.Machine.execRootWaitExpiry s
  | .gateSleep b => Sys2Proof.Machine.execGateSleep b s
  | .gateDeepSleep b => Sys2Proof.Machine.execGateDeepSleep b s
  | .gateQuiesceTimeout b m => Sys2Proof.Machine.execGateQuiesceTimeout b m s
  | .domainPowerDown d => Sys2Proof.Machine.execDomainPowerDown d s
  | .domainPowerUp d => Sys2Proof.Machine.execDomainPowerUp d s
  | .dormantEntry => Sys2Proof.Machine.execDormantEntry s
  | .wakeNFall ns => Sys2Proof.Machine.execWakeNFall ns s
  | .towpathEnergyDetect p => Sys2Proof.Machine.execTowpathEnergyDetect p s
  | .powerOnReset frm boot addr => Sys2Proof.Machine.execPowerOnReset frm boot addr s
  | .resetN us frm boot addr => Sys2Proof.Machine.execResetN us frm boot addr s
  | .pwrResetDevice m => Sys2Proof.Machine.execPwrResetDevice m s
  | .pwrResetSup m => Sys2Proof.Machine.execPwrResetSup m s
  | .pcieReset kind => Sys2Proof.Machine.execPcieReset kind s
  | .memoryFillComplete rom => Sys2Proof.Machine.execMemoryFillComplete rom s
  | .postComplete r => Sys2Proof.Machine.execPostComplete r s
  | .timebaseRestart v => Sys2Proof.Machine.execTimebaseRestart v s
  | .uncertStep => Sys2Proof.Machine.execUncertStep s
  | .timebaseRead m => Sys2Proof.Machine.execTimebaseRead m s
  | .timebaseLoad m => Sys2Proof.Machine.execTimebaseLoad m s
  | .uncertClr m => Sys2Proof.Machine.execUncertClr m s
  | .ppsEdge rising => Sys2Proof.Machine.execPpsEdge rising s
  | .gtArm m t => Sys2Proof.Machine.execGtArm m t s
  | .gtFire t => Sys2Proof.Machine.execGtFire t s
  | .memxClr m v => Sys2Proof.Machine.execMemxClr m v s
  | .scrubAccess r lane flips => Sys2Proof.Machine.execScrubAccess r lane flips s
  | .scrubLapStall r => Sys2Proof.Machine.execScrubLapStall r s
  | .memxLogPop m => Sys2Proof.Machine.execMemxLogPop m s
  | .memxRetire m v => Sys2Proof.Machine.execMemxRetire m v s
  | .retireCopyDone => Sys2Proof.Machine.execRetireCopyDone s
  | .otpReload w => Sys2Proof.Machine.execOtpReload w s
  | .bistCmd m v => Sys2Proof.Machine.execBistCmd m v s
  | .bistDone pass addr bad => Sys2Proof.Machine.execBistDone pass addr bad s
  | .coarseOutput ch v => Sys2Proof.Machine.execCoarseOutput ch v s
  | .fineOutput ch us => Sys2Proof.Machine.execFineOutput ch us s
  | .monChannelConfig m ch fir v => Sys2Proof.Machine.execMonChannelConfig m ch fir v s
  | .monCoefWrite m idx v => Sys2Proof.Machine.execMonCoefWrite m idx v s
  | .monSyncEdge edge => Sys2Proof.Machine.execMonSyncEdge edge s
  | .monSyncCommand m => Sys2Proof.Machine.execMonSyncCommand m s
  | .accRead m ch => Sys2Proof.Machine.execAccRead m ch s
  | .throttleFall => Sys2Proof.Machine.execThrottleFall s
  | .sensorReadmit m v => Sys2Proof.Machine.execSensorReadmit m v s
  | .failAck m => Sys2Proof.Machine.execFailAck m s
  | .holdClr m => Sys2Proof.Machine.execHoldClr m s
  | .threshWrite m v => Sys2Proof.Machine.execThreshWrite m v s
  | .peakClr m => Sys2Proof.Machine.execPeakClr m s
  | .counterWrap idx past => Sys2Proof.Machine.execCounterWrap idx past s
  | .counterRead m idx => Sys2Proof.Machine.execCounterRead m idx s
  | .counterLoad m idx hi => Sys2Proof.Machine.execCounterLoad m idx hi s
  | .freeze m on => Sys2Proof.Machine.execFreeze m on s
  | .snap m => Sys2Proof.Machine.execSnap m s
  | .clearAll m => Sys2Proof.Machine.execClearAll m s
  | .perfConfigWrite m idx r v => Sys2Proof.Machine.execPerfConfigWrite m idx r v s
  | .bandwidthRun m v => Sys2Proof.Machine.execBandwidthRun m v s
  | .bandwidthWindowEnd bytes => Sys2Proof.Machine.execBandwidthWindowEnd bytes s
  | .faultReport m v => Sys2Proof.Machine.execFaultReport m v s
  | .ladderStepTimeout n => Sys2Proof.Machine.execLadderStepTimeout n s
  | .ladderStepComplete n => Sys2Proof.Machine.execLadderStepComplete n s
  | .stepDone m n => Sys2Proof.Machine.execStepDone m n s
  | .declare m v => Sys2Proof.Machine.execDeclare m v s
  | .devClr m v => Sys2Proof.Machine.execDevClr m v s
  | .faultLogPop m => Sys2Proof.Machine.execFaultLogPop m s
  | .advance m v => Sys2Proof.Machine.execAdvance m v s
  | .keyprog m v => Sys2Proof.Machine.execKeyprog m v s
  | .revoke m v => Sys2Proof.Machine.execRevoke m v s
  | .rollback m v => Sys2Proof.Machine.execRollback m v s
  | .token m v => Sys2Proof.Machine.execToken m v s
  | .cfgprog m v => Sys2Proof.Machine.execCfgprog m v s
  | .lifeCommandDone ok => Sys2Proof.Machine.execLifeCommandDone ok s
  | .lifecycleReset => Sys2Proof.Machine.execLifecycleReset s
  | .dbgHalt m => Sys2Proof.Machine.execDbgHalt m s
  | .dbgHaltTaken => Sys2Proof.Machine.execDbgHaltTaken s
  | .dbgHaltTimeout => Sys2Proof.Machine.execDbgHaltTimeout s
  | .dbgResume m => Sys2Proof.Machine.execDbgResume m s
  | .dbgStep m => Sys2Proof.Machine.execDbgStep m s
  | .dbgDataAccess m w => Sys2Proof.Machine.execDbgDataAccess m w s
  | .dbgMemoryAccess m w => Sys2Proof.Machine.execDbgMemoryAccess m w s
  | .trnRxfRead m n => Sys2Proof.Machine.execTrnRxfRead m n s
  | .readClear m a => Sys2Proof.Machine.execReadClear m a s
  | .registerWrite m a v => Sys2Proof.Machine.execRegisterWrite m a v s
  | .instructionFetchTrap k => Sys2Proof.Machine.execInstructionFetchTrap k s
  | .patternChecker r sync errs => Sys2Proof.Machine.execPatternChecker r sync errs s
  | .pciePowerStateChange d3 => Sys2Proof.Machine.execPciePowerStateChange d3 s
  | .towpathRxWake p => Sys2Proof.Machine.execTowpathRxWake p s

end Sys2Proof.Machine
end

