-- ==== Sys2Proof/Machine/Tick.lean ====
section
/-! DEFINITION. Sys2Proof/Machine/Tick.lean: what time alone does, one timebase tick of 1.28 ns: the timebase and its timers, the counters that count ticks, and the
barges that move on in the fabric (R38, R327, R333, R385, R386). -/

namespace Sys2Proof.Machine

/-- The timebase runs: PD_SUP is powered and the restart after a sleep is past (R327, R329). -/
def State.tbRuns (s : State) : Bool := s.domOn 1 && !s.dorm.stopped

/-- The sequencers in WAITING. -/
def State.waiting (s : State) : List Nat := allLanes.filter fun n => s.laneOn n && s.fld (F.LRX_SEQ_STAT_STATE n) == 2

/-- One tick. -/
def State.tick (s : State) : State :=
  let s := { s with clock := s.clock + 1 }
  let s := if s.tbRuns then (s.setTb (s.tb + 1#64)).tally (.plain 1 1) else s
  let s := each s.waiting (fun n s => s.tally (.ofLane 7 n 1)) s
  (if s.tbRuns then s.countTick else s).drain

/-- What a step on an empty queue does. -/
def idle (s : State) : Host.Outcome State Fault Refusal := done s.tick

end Sys2Proof.Machine
end

