-- ==== Sys2Proof/WellFormed.lean ====
section
/-! DEFINITION. Sys2Proof/WellFormed.lean: the commands that a sender can form. The operands' types bound every field but the lists; a list stands for
a measurement or a burst whose length the spec gives. -/

namespace Sys2Proof

/-- The list operands have the lengths and ranges of the events they stand for: eight fabric margins (R42), a barge's symbols at one host rate or the other (R38, R60, R79),
the windows a line lane's clock recovery locks on (R83), the counts of the four levels among 65,536 symbols and sixteen autocorrelations of a fitness window (R188) with a
statistic of each branch (R181), twelve temperature readings of ten bits with codes of twelve (R369, R370), and a byte enable for each byte (R271). A line receiver has 64
converter branches, a host receiver 32. -/
def Instr.wellFormed : Instr → Bool
  | .speedMonitorWindow margins => margins.length == 8
  | .inputBargeComplete (.line _ codes) .. => codes.length == 256 || codes.length == 128
  | .inputBargeComplete (.host _ codes) .. => codes.length == 128 || codes.length == 64
  | .cdrLock r ofs => decide (8 ≤ r.val) || ofs.length == 8
  | .backgroundCalWindow r levels (acorr, stats) _ =>
    levels.length == 4 && levels.sum == 65536 && acorr.length == 16 && stats.length == if r.val < 8 then 64 else 32
  | .fitnessWindowEnd _ levels acorr => levels.length == 4 && levels.sum == 65536 && acorr.length == 16
  | .sensorUpdate readings => readings.length == 12 && readings.all fun r => decide (-512 ≤ r.1) && decide (r.1 ≤ 511) && decide (r.2 < 4096)
  | .pcieWrite _ _ bytes be => bytes.length == be.length
  | .modeRequest .. | .transitionComplete | .oosSet .. | .oosClear .. | .claim .. | .claimRelease .. | .marginLowClear ..
  | .bargeRelease .. | .flTargetWrite .. | .slewComplete .. | .lockLost .. | .crossingAck .. | .bargeBoundary .. | .groupBoundary .. | .bankCommit ..
  | .bankWrite .. | .hrxLaneUp .. | .hrxAcqTimeout .. | .hrxLos .. | .hrxLosExit .. | .hrxLosTimeout .. | .cdrUnlock ..
  | .htxSquelch .. | .patternInject .. | .correlatorStart .. | .correlatorWindowEnd .. | .hrxEnergyDetect .. | .presenceQualified .. | .amplitudeDetectorChange ..
  | .lrxCdrTimeout .. | .progReady .. | .lrxAdaptTimeout .. | .markerAlignmentQualified .. | .acqQualified .. | .lrxSeekTimeout .. | .capture ..
  | .markerPeakMissing .. | .captureWindowEnd .. | .lrxLos .. | .lrxLosTimeout .. | .nearEndLocked .. | .lrxEnergyDetect .. | .wcapStart ..
  | .wcapComplete .. | .squelchClear .. | .squelchSet .. | .forceOff .. | .rampStep .. | .faultRampStep .. | .synthUnlock .. | .synthLock ..
  | .biasWrite .. | .biasStep .. | .faultCauseClear .. | .codewordDecode .. | .codewordLock .. | .offsetAbandon .. | .codewordLockLoss .. | .cwRestart .. | .cwInject ..
  | .rsCodeword .. | .rsAlign .. | .rsNoAlign .. | .rsCtlWrite .. | .startUpTrimsDone .. | .wakePatternEnd .. | .trainingFrameReceived ..
  | .trainingFrameSend .. | .trnStateWrite .. | .handover .. | .trnWake .. | .ackTo .. | .peerDataStart .. | .trainingTimeout ..
  | .deferredRecalStart .. | .recalMeasureEnd .. | .recalStepTimeout .. | .recalRetry .. | .calCmd .. | .add .. | .sub .. | .and_ .. | .or_ ..
  | .xor_ .. | .shl .. | .shr .. | .sar .. | .mul .. | .mulh .. | .mulhu .. | .cmp .. | .min .. | .max .. | .adds .. | .subs .. | .jalr .. | .addi ..
  | .andi .. | .ori .. | .xori .. | .shli .. | .shri .. | .sari .. | .lui .. | .cmpi .. | .ldw .. | .ldh .. | .ldhu .. | .ldb .. | .ldbu .. | .stw ..
  | .sth .. | .stb .. | .stwc .. | .b .. | .bl .. | .svc .. | .eret | .wfi | .wfiWake | .stop .. | .illegalInstruction .. | .interruptTaken ..
  | .cld .. | .cst .. | .cupd .. | .cupdu .. | .cmt .. | .cstart .. | .csgn .. | .hsum .. | .wfe .. | .wfeRelease .. | .wfeTimeout .. | .mpost ..
  | .mtake .. | .movcRead .. | .movcWrite .. | .seqStart .. | .seqResume .. | .seqStop .. | .seqSafe .. | .seqLoaded .. | .safeTimeout ..
  | .imemWrite .. | .broadcastWrite .. | .seqEvtSet .. | .mailboxPost .. | .mailboxTake .. | .resetDecl .. | .semaphoreRead .. | .semaphoreRelease ..
  | .msixIssue .. | .hostEoi .. | .softSet .. | .softClr .. | .pcieRead .. | .pcieLinkChange .. | .dmaStart .. | .dmaStop .. | .dmaDescriptorDone ..
  | .dmaHostCompletion .. | .dmaCompletionTimeout .. | .smpWrite .. | .smpRead .. | .enec .. | .disec .. | .rstdaa | .entdaa .. | .setdasa ..
  | .setnewda .. | .setmwl .. | .setmrl .. | .getmwl | .getmrl | .getpid | .getbcr | .getdcr | .getstatus | .getmxds | .cccUnsupported .. | .ibi
  | .smpAddressMatch | .forerunnerWindowAccess .. | .indData .. | .indStatRead | .sofSend .. | .sofReceive .. | .portUp .. | .speedStepConfirm ..
  | .speedStepTimeout .. | .txSleep .. | .txWake .. | .linkLoss .. | .towRd .. | .towWr .. | .towRdRsp .. | .towWrAck .. | .towEnum .. | .towEvent ..
  | .towHello .. | .helloSend | .towBadPacket .. | .enumerate .. | .enumTimeout | .headWrite .. | .remoteWindowAccess .. | .remoteWindowTimeout ..
  | .syncCommand .. | .towSync .. | .syncAct | .bootDoor .. | .imageAuthenticate .. | .flashCommand .. | .flashCommandEnd .. | .flashCommandTimeout
  | .clockCheckWindow .. | .froTrimMeasure .. | .clockSourceSelect .. | .rootWaitExpiry | .gateSleep .. | .gateDeepSleep .. | .gateQuiesceTimeout ..
  | .domainPowerDown .. | .domainPowerUp .. | .dormantEntry | .wakeNFall .. | .towpathEnergyDetect .. | .powerOnReset .. | .resetN ..
  | .pwrResetDevice .. | .pwrResetSup .. | .pcieReset .. | .memoryFillComplete .. | .postComplete .. | .timebaseRestart .. | .uncertStep
  | .timebaseRead .. | .timebaseLoad .. | .uncertClr .. | .ppsEdge .. | .gtArm .. | .gtFire .. | .memxClr .. | .scrubAccess .. | .scrubLapStall ..
  | .memxLogPop .. | .memxRetire .. | .retireCopyDone | .otpReload .. | .bistCmd .. | .bistDone .. | .coarseOutput .. | .fineOutput ..
  | .monChannelConfig .. | .monCoefWrite .. | .monSyncEdge .. | .monSyncCommand .. | .accRead .. | .throttleFall | .sensorReadmit .. | .failAck ..
  | .holdClr .. | .threshWrite .. | .peakClr .. | .counterWrap .. | .counterRead .. | .counterLoad .. | .freeze .. | .snap .. | .clearAll ..
  | .perfConfigWrite .. | .bandwidthRun .. | .bandwidthWindowEnd .. | .faultReport .. | .ladderStepTimeout .. | .ladderStepComplete .. | .stepDone .. | .declare ..
  | .devClr .. | .faultLogPop .. | .advance .. | .keyprog .. | .revoke .. | .rollback .. | .token .. | .cfgprog .. | .lifeCommandDone ..
  | .lifecycleReset | .dbgHalt .. | .dbgHaltTaken | .dbgHaltTimeout | .dbgResume .. | .dbgStep .. | .dbgDataAccess .. | .dbgMemoryAccess ..
  | .trnRxfRead .. | .readClear .. | .registerWrite .. | .instructionFetchTrap .. | .patternChecker .. | .pciePowerStateChange .. | .towpathRxWake .. => true

end Sys2Proof
end

