-- ==== Sys2Proof/Safety.lean ====
section
/-! DEFINITION. Sys2Proof/Safety.lean: the terms in which statements are made: what it is for a command to complete, the canonical form of the tables of State, and the
interrupts that must be remembered, the registers a command leaves alone, and the parts of State it may change. -/

namespace Sys2Proof.Machine

/-- The command completes from the state, in a next state of which `q` holds. -/
def Completes (c : Instr) (s : State) (q : State → Prop) : Prop := ∃ t, exec c s = .next t ∧ q t

/-- The canonical form of a byte memory: addresses strictly rising, no entry equal to what an unlisted address reads as. -/
def Memory.wf (m : List Host.Cell) : Bool := tabWf (fun _ => 0#8) m

/-- The canonical form of the tables inside a part of State. -/
def Fabric.wf (f : Fabric) : Bool := tabWf (fun _ => []) f.pounds && tabWf (fun _ => []) f.stores && tabWf (fun _ => (1, false)) f.cross
def Integ.wf (i : Integ) : Bool :=
  tabWf (fun _ => 0) i.flips && tabWf (fun _ => 0) i.scrubAt && tabWf (fun _ => 0) i.lapAt && tabWf (fun _ => 0) i.lapUs
def Therm.wf (t : Therm) : Bool := tabWf (fun _ => Sensor.init) t.sensors
def Perf.wf (p : Perf) : Bool := tabWf (fun _ => 0) p.part && tabWf (fun _ => 0#32) p.staged && tabWf (fun _ => 0) p.bytes && tabWf (fun _ => 0) p.carry
def Pcie.wf (p : Pcie) : Bool := tabWf msixReset p.table
def Tow.wf (t : Tow) : Bool := tabWf (fun _ => Port.init) t.ports && tabWf (fun _ => Win.init) t.wins

/-- Every table of State is in canonical form, so that equal contents are equal data. -/
structure State.Canonical (s : State) : Prop where
  regs    : tabWf regReset s.regs = true
  lanes   : tabWf (fun _ => Lane.init) s.lanes = true
  seqs    : tabWf (fun _ => Seq.init) s.seqs = true
  gpr     : tabWf (fun _ => 0#32) s.gpr = true
  cregs   : tabWf cregReset s.cregs = true
  chans   : tabWf (fun _ => Chan.init) s.chans = true
  ladders : tabWf (fun _ => Ladder.init) s.ladders = true
  fab     : s.fab.wf = true
  integ   : s.integ.wf = true
  mons    : tabWf (fun _ => MonChan.init) s.mons = true
  therm   : s.therm.wf = true
  perf    : s.perf.wf = true
  dma     : tabWf (fun _ => DmaChan.init) s.dma = true
  pcie    : s.pcie.wf = true
  tow     : s.tow.wf = true
  latch   : tabWf (fun _ => 0#32) s.latch = true
  mem     : Memory.wf s.mem = true

/-- The MSI-X vectors whose condition is 1 now (R261): source raised, enabled for the host, its last message no longer in service. -/
def State.irqNow (s : State) : BitVec 64 :=
  BitVec.ofNat 64 (s.raw &&& s.pair R.IRQ_HOST_EN_LO) &&& ~~~(BitVec.ofNat 64 (s.pair R.IRQ_HOST_INSERV_LO))

/-- No vector whose condition is 1 is forgotten. -/
abbrev State.IrqRemembered (s : State) : Prop := s.irqNow &&& ~~~s.msixDue = 0#64

/-! ## Registers that stay, answers -/

/-- From one state to another, every register outside those named stays as it was. -/
def State.Only (s : State) (l : List Nat) (t : State) : Prop := ∀ a, a ∉ l → t.rd a = s.rd a

/-- The same for the registers of the device blocks, those of the lane blocks left aside (R432, R433). -/
def State.OnlyDev (s : State) (l : List Nat) (t : State) : Prop := ∀ a, a < 0x04100000 → a ∉ l → t.rd a = s.rd a

/-- The same for the registers of the lanes: those of the lanes named may change. -/
def State.OnlyLanes (s : State) (l : List Nat) (t : State) : Prop :=
  ∀ a, (∀ n ∈ l, ¬ (0x04100000 + 0x1000 * n ≤ a ∧ a < 0x04101000 + 0x1000 * n)) → t.rd a = s.rd a

/-- The same by blocks of 4 KiB (R430): those of the blocks named may change. -/
def State.OnlyBlocks (s : State) (l : List Nat) (t : State) : Prop := ∀ a, a / 4096 ∉ l → t.rd a = s.rd a

/-- The block of a register. -/
def blockOf (a : Nat) : Nat := a / 4096

/-- The registers that a recalibration aborted on some lane writes (R189). -/
def recalRegs : List Nat := R.CAL_EVENT :: (List.range 48).map R.CAL_LANE_STAT

/-- The registers that barges discarded on some crossing write (R51, R55). -/
def xdropRegs : List Nat := R.FAB_EVENT :: (List.range 48).map R.FAB_XDROP

/-- The one thing sent is an answer: to the master, with the error code (0 accepted). -/
def State.Answered (s : State) (m : Master) (err : Nat) (t : State) : Prop := t.out = .response m err 0 :: s.out

/-- The same for a read, with the word returned. -/
def State.Returned (s : State) (m : Master) (err : Nat) (w : Word) (t : State) : Prop := t.out = .response m err w.toNat :: s.out

/-- The register block at a local address is in the master's map and powered (R54, R201, R430). -/
abbrev State.Reached (s : State) (m : Master) (a : Nat) : Prop := seesBlock m a = true ∧ s.domOn (domainAt a) = true

/-- What a packet leaves on the wire of port p at a running disparity, newest first: the packet in 8b/10b and the idle after it (R283, R288). -/
def packetRun (disp : Bool) (p : Nat) (k : TowPkt) : List Out :=
  let x := codeRun disp (pktChars k)
  [.ordered p "idle" 0 (codeRun x.2 idleChars).1, .packet p k x.1]

/-- The same out of an awake port, at the disparity it has. -/
def State.packetOut (s : State) (p : Nat) (k : TowPkt) : List Out := packetRun (s.port p).disp p k

/-- What a transmitter that wakes leaves on the wire, newest first: the wake pattern of its speed and the idle after it (R286). -/
def State.wakeOrder (s : State) (p : Nat) : List Out :=
  let x := codeRun (s.port p).disp (wakeChars (s.fld (F.TOW_PORT_STAT_SPEED p)))
  [.ordered p "idle" 0 (codeRun x.2 idleChars).1, .ordered p "wake" 0 x.1]

/-- The running disparity after that wake and its idle. -/
def State.wakeDisp (s : State) (p : Nat) : Bool :=
  (codeRun (codeRun (s.port p).disp (wakeChars (s.fld (F.TOW_PORT_STAT_SPEED p)))).2 idleChars).2

/-- No fault has been counted at this instant on ladder i: the next report is the first of its instant (R405). -/
abbrev State.firstFault (s : State) (i : Nat) : Prop := ∀ k ∈ (s.ladder i).mark, k.clock ≠ s.clock

/-! ## What an instruction of a core leaves alone -/

/-- From one state to another, nothing changes but the named general registers of core k, its flags and its pc: no register of another core, no control register beside
the flags in PSR, no register of the map, no memory, and nothing is sent. -/
structure State.CoreOnly (s : State) (k : Core) (l : List Nat) (t : State) : Prop where
  gprs   : ∀ j r, j ≠ coreIdx k ∨ r ∉ l → t.g j r = s.g j r
  others : ∀ j, j ≠ k → t.pcOf j = s.pcOf j ∧ t.flags j = s.flags j
  cregs  : ∀ c, c ≠ 0 → t.creg c = s.creg c
  psr    : t.creg 0 &&& 0x0FFFFFFF#32 = s.creg 0 &&& 0x0FFFFFFF#32
  regs   : s.Only [] t
  mem    : t.mem = s.mem
  out    : t.out = s.out

/-- A register's new value, where g0 discards it. -/
def written (d : Fin 16) (v : Word) : Word := if d = 0 then 0#32 else v

/-- An instruction of core k has put a value into a register and left the given flags; the next in order follows, and nothing else has changed. -/
def State.Computed (s : State) (k : Core) (d : Fin 16) (v : Word) (f : Flags) (t : State) : Prop :=
  t.reg k d = written d v ∧ t.flags k = f ∧ t.pcOf k = s.pcOf k + 4#32 ∧ s.CoreOnly k [d.val] t

/-- N and Z of a value. -/
def Flags.nz (f : Flags) (v : Word) : Flags := { f with n := v.msb, z := v == 0#32 }

/-- N, Z and V given, C kept. -/
def Flags.nzv (f : Flags) (n z v : Bool) : Flags := { f with n := n, z := z, v := v }

/-- The flags of an addition, and of a subtraction. -/
def addFlags (a b : Word) : Flags :=
  { n := (a + b).msb, z := a + b == 0#32, c := decide (2 ^ 32 ≤ a.toNat + b.toNat), v := decide ((a + b).toInt ≠ a.toInt + b.toInt) }
def subFlags (a b : Word) : Flags :=
  { n := (a - b).msb, z := a - b == 0#32, c := decide (b.toNat ≤ a.toNat), v := decide ((a - b).toInt ≠ a.toInt - b.toInt) }

/-- A signed value saturated to a word. -/
def saturated (i : Int) : Word := BitVec.ofInt 32 (max (-2147483648) (min 2147483647 i))

/-! ## Traps -/

/-- The branch conditions as R198 lists them; none for the unassigned one. -/
def condTable (f : Flags) (cond : Fin 16) : Option Bool :=
  match cond.val with
  | 0 => some true
  | 1 => some f.z
  | 2 => some f.n
  | 3 => some f.c
  | 4 => some f.v
  | 5 => some (f.c && !f.z)
  | 6 => some (f.n == f.v)
  | 7 => some (!f.z && f.n == f.v)
  | 8 => none
  | 9 => some !f.z
  | 10 => some !f.n
  | 11 => some !f.c
  | 12 => some !f.v
  | 13 => some (!f.c || f.z)
  | 14 => some (f.n != f.v)
  | _ => some (f.z || f.n != f.v)

/-- A lane sequencer has trapped (R216): its record says why, it stands in TRAPPED at the instruction, and no general register, flag or memory has changed. -/
def State.LaneTrapped (s : State) (n : Fin 48) (cause detail : Nat) (epc tval : Word) (t : State) : Prop :=
  t.rd (R.LRX_SEQ_TRAP n) = BitVec.ofNat 32 (cause + 256 * detail) ∧ t.rd (R.LRX_SEQ_TRAP_PC n) = epc ∧ t.rd (R.LRX_SEQ_TRAP_VAL n) = tval ∧
    t.rd (R.LRX_SEQ_PC n) = epc ∧ t.fld (F.LRX_SEQ_STAT_STATE n) = 3 ∧ t.is (F.LRX_SEQ_EVENT_TRAP n) = true ∧ t.gpr = s.gpr ∧
    t.flags (.ls n) = s.flags (.ls n) ∧ t.mem = s.mem ∧ t.out = s.out ∧
    s.Only [R.LRX_SEQ_TRAP n, R.LRX_SEQ_TRAP_PC n, R.LRX_SEQ_TRAP_VAL n, R.LRX_SEQ_PC n, R.LRX_SEQ_STAT n, R.LRX_SEQ_EVENT n] t

/-- The supervisor has entered the secure kernel (true) or the non-secure kernel for a cause (R224): the state is saved there, interrupts of that level are off, and no
general register, other control register, register of the map or memory has changed. -/
def State.SupTrapped (s : State) (secure : Bool) (cause detail : Nat) (epc tval : Word) (t : State) : Prop :=
  let b := if secure then 1 else 6
  t.creg b = epc ∧ t.creg (b + 1) = s.creg 0 &&& 0xF000003F#32 ∧ t.creg (b + 2) = BitVec.ofNat 32 (cause + 256 * detail) ∧ t.creg (b + 3) = tval ∧
    t.creg 0 = (if secure then (s.creg 0 &&& 0xFFFFFFE8#32) ||| 0x10#32 else (s.creg 0 &&& 0xFFFFFFD4#32) ||| 0x21#32) ∧
    t.sup.pc = (if secure then 0x100#32 else s.creg 12) + BitVec.ofNat 32 (4 * cause) ∧ t.gpr = s.gpr ∧
    (∀ c : Fin 128, c.val ∉ [0, b, b + 1, b + 2, b + 3] → t.creg c = s.creg c) ∧ t.mem = s.mem ∧ t.out = s.out ∧ s.Only [] t

/-- A synchronous trap of this cause goes to the secure kernel (R223). -/
def State.toSecure (s : State) (cause : Nat) : Bool := s.level == 0 || bitAt (s.creg 11).toNat cause

/-- No trap is in progress at the level that a synchronous trap of this cause goes to. -/
def State.mayTrap (s : State) (k : Core) (cause : Nat) : Bool :=
  match k with
  | .ls _ => true
  | .sup => !bitAt (s.creg 0).toNat (if s.toSecure cause then 4 else 5)

/-- A core has trapped (R216, R222 to R224). -/
def State.Trapped (s : State) (k : Core) (cause detail : Nat) (epc tval : Word) (t : State) : Prop :=
  match k with
  | .ls n => s.LaneTrapped n cause detail epc tval t
  | .sup => s.SupTrapped (s.toSecure cause) cause detail epc tval t

/-! ## A core's own memories -/

/-- The local address of a byte of a core's own data memory: supervisor SRAM, or the sequencer's window at its place in the map (R200, R430). -/
def ownData (k : Core) (a : Nat) : Option Nat :=
  match k with
  | .sup => if 0x01000000 ≤ a ∧ a < 0x01800000 then some a else none
  | .ls n => if 0x4000 ≤ a ∧ a < 0x6000 then some (0x03000000 + n * 0x8000 + a) else none

/-- The memory answers at a local address and its ECC word there is clean, so that an aligned access of up to its width completes (R338, R340, R350, R354). -/
def State.Sound (s : State) (p : Nat) : Prop := s.memGate p = none ∧ s.ecc (eccBase p) = .clean

/-- Nothing but the named bytes of memory has changed: they hold the low bytes of a value. -/
def State.Stored (s : State) (p n : Nat) (v : Word) (t : State) : Prop :=
  t.bytesAt p n = leBytes n v.toNat ∧ ∀ b, ¬ (p ≤ b ∧ b < p + n) → t.byteAt b = s.byteAt b

/-- The MPU lets the core's data access through: 0 a read, 1 a write (R220). -/
def State.mpuPasses (s : State) (k : Core) (a kind : Nat) : Bool :=
  match k with
  | .sup => s.mpuAllows s.level a kind
  | .ls _ => true

/-- An instruction of core k has completed with no register written and no register of the map changed; the next in order follows. -/
def State.Followed (s : State) (k : Core) (t : State) : Prop :=
  t.pcOf k = s.pcOf k + 4#32 ∧ t.flags k = s.flags k ∧ t.gpr = s.gpr ∧ t.cregs = s.cregs ∧ s.Only [] t ∧ t.out = s.out

/-! ## Parts of State, and what a command may change -/

/-- The parts of State beside the queue, one per field. -/
inductive Part where
  | regs | lanes | seqs | gpr | sup | cregs | chans | ladders | faultLog | shutdown | fab | clk | integ | mons | monAt | therm | perf
  | life | dma | pcie | smp | tow | flash | trans | dorm | pins | supply | clock | tb | latch | msixDue | mem | free | out
  deriving DecidableEq, Repr

/-- The place of a part in a set of parts held as a mask. -/
def Part.bit (p : Part) : Nat := 2 ^ p.ctorIdx

/-- Two states hold the same in a part. -/
def State.Same (p : Part) (s t : State) : Prop :=
  match p with
  | .regs => t.regs = s.regs
  | .lanes => t.lanes = s.lanes
  | .seqs => t.seqs = s.seqs
  | .gpr => t.gpr = s.gpr
  | .sup => t.sup = s.sup
  | .cregs => t.cregs = s.cregs
  | .chans => t.chans = s.chans
  | .ladders => t.ladders = s.ladders
  | .faultLog => t.faultLog = s.faultLog
  | .shutdown => t.shutdown = s.shutdown
  | .fab => t.fab = s.fab
  | .clk => t.clk = s.clk
  | .integ => t.integ = s.integ
  | .mons => t.mons = s.mons
  | .monAt => t.monAt = s.monAt
  | .therm => t.therm = s.therm
  | .perf => t.perf = s.perf
  | .life => t.life = s.life
  | .dma => t.dma = s.dma
  | .pcie => t.pcie = s.pcie
  | .smp => t.smp = s.smp
  | .tow => t.tow = s.tow
  | .flash => t.flash = s.flash
  | .trans => t.trans = s.trans
  | .dorm => t.dorm = s.dorm
  | .pins => t.pins = s.pins
  | .supply => t.supply = s.supply
  | .clock => t.clock = s.clock
  | .tb => t.tb = s.tb
  | .latch => t.latch = s.latch
  | .msixDue => t.msixDue = s.msixDue
  | .mem => t.mem = s.mem
  | .free => t.free = s.free
  | .out => t.out = s.out

end Sys2Proof.Machine

namespace Sys2Proof

open Machine (Part)

/-- The parts that a command may change: no other ever changes, and the queue never does. Every command may change `msixDue`, the interrupts that have become due. -/
def Instr.mayChange : Instr → List Part
  | .modeRequest .. | .squelchClear .. | .squelchSet .. | .forceOff .. | .rampStep .. | .faultRampStep ..
    => [.regs, .lanes, .seqs, .gpr, .ladders, .fab, .perf, .trans, .msixDue, .out]
  | .transitionComplete => [.regs, .lanes, .seqs, .gpr, .ladders, .fab, .perf, .trans, .dorm, .msixDue, .out]
  | .oosSet .. | .oosClear .. | .hrxAcqTimeout .. | .hrxLosTimeout .. | .lrxCdrTimeout .. | .lrxAdaptTimeout .. | .lrxSeekTimeout ..
  | .lrxLosTimeout .. | .synthUnlock .. | .codewordDecode .. | .codewordLockLoss .. | .trainingFrameReceived .. | .trnStateWrite .. | .handover ..
  | .trnWake .. | .ackTo .. | .trainingTimeout .. | .rootWaitExpiry | .faultReport .. | .ladderStepTimeout ..
    => [.regs, .lanes, .seqs, .gpr, .ladders, .faultLog, .fab, .perf, .trans, .msixDue, .out]
  | .claim .. | .claimRelease .. | .marginLowClear .. | .bankCommit .. | .bankWrite .. | .htxSquelch .. | .biasWrite .. | .faultCauseClear ..
  | .cwInject .. | .seqEvtSet .. | .semaphoreRead .. | .semaphoreRelease .. | .hostEoi .. | .softSet .. | .softClr .. | .bootDoor ..
  | .clockSourceSelect .. | .monCoefWrite .. | .failAck .. | .holdClr .. | .threshWrite .. | .peakClr .. | .counterLoad .. | .freeze .. | .snap ..
  | .clearAll .. | .perfConfigWrite .. | .bandwidthRun .. => [.regs, .perf, .msixDue, .out]
  | .speedMonitorWindow .. | .declare .. => [.regs, .lanes, .seqs, .gpr, .ladders, .faultLog, .shutdown, .perf, .trans, .msixDue, .out]
  | .inputBargeComplete .. => [.regs, .lanes, .fab, .perf, .msixDue]
  | .bargeRelease .. => [.regs, .lanes, .fab, .perf, .msixDue, .free, .out]
  | .flTargetWrite .. => [.regs, .fab, .perf, .msixDue, .out]
  | .slewComplete .. | .lockLost .. | .cdrUnlock .. | .amplitudeDetectorChange .. | .synthLock .. | .biasStep .. | .rsNoAlign .. | .gateSleep ..
  | .uncertStep | .gtFire .. | .scrubLapStall .. | .dbgHaltTimeout | .pciePowerStateChange .. => [.regs, .msixDue]
  | .crossingAck .. => [.regs, .fab, .perf, .msixDue]
  | .bargeBoundary .. | .groupBoundary .. | .cdrLock .. | .presenceQualified .. | .progReady .. | .markerAlignmentQualified .. | .acqQualified ..
  | .markerPeakMissing .. | .captureWindowEnd .. | .lrxLos .. | .codewordLock .. | .cwRestart .. | .deferredRecalStart .. | .recalRetry ..
  | .calCmd .. => [.regs, .lanes, .seqs, .gpr, .perf, .msixDue, .out]
  | .hrxLaneUp .. => [.regs, .lanes, .trans, .msixDue]
  | .hrxLos .. | .hrxLosExit .. | .recalMeasureEnd .. => [.regs, .lanes, .msixDue, .free]
  | .patternInject .. | .trnRxfRead .. => [.lanes, .perf, .msixDue, .out]
  | .correlatorStart .. | .wcapStart .. | .rsCtlWrite .. => [.regs, .lanes, .perf, .msixDue, .out]
  | .correlatorWindowEnd .. | .offsetAbandon .. | .rsCodeword .. | .rsAlign .. | .wakePatternEnd .. | .backgroundCalWindow .. | .fitnessWindowEnd ..
  | .recalStepTimeout .. | .patternChecker .. => [.regs, .lanes, .msixDue]
  | .hrxEnergyDetect .. | .lrxEnergyDetect .. | .wakeNFall .. | .towpathEnergyDetect ..
    => [.regs, .lanes, .gpr, .sup, .cregs, .ladders, .faultLog, .shutdown, .clk, .integ, .monAt, .therm, .perf, .life, .smp, .flash, .dorm, .latch,
      .msixDue, .mem, .free]
  | .capture .. => [.regs, .lanes, .seqs, .gpr, .ladders, .faultLog, .fab, .perf, .trans, .msixDue, .free, .out]
  | .nearEndLocked .. => [.regs, .lanes, .seqs, .gpr, .chans, .ladders, .faultLog, .fab, .perf, .trans, .msixDue, .out]
  | .wcapComplete .. => [.regs, .lanes, .integ, .perf, .msixDue, .mem, .free]
  | .startUpTrimsDone .. => [.regs, .lanes, .seqs, .gpr, .chans, .ladders, .faultLog, .fab, .perf, .trans, .msixDue, .free, .out]
  | .trainingFrameSend .. => [.regs, .lanes, .fab, .perf, .trans, .msixDue, .out]
  | .peerDataStart .. => [.regs, .lanes, .seqs, .gpr, .fab, .perf, .trans, .msixDue, .out]
  | .sensorUpdate .. => [.regs, .lanes, .seqs, .gpr, .ladders, .fab, .therm, .perf, .trans, .msixDue, .out]
  | .add .. | .sub .. | .and_ .. | .or_ .. | .xor_ .. | .shl .. | .shr .. | .sar .. | .mul .. | .mulh .. | .mulhu .. | .min .. | .max .. | .adds ..
  | .subs .. | .addi .. | .andi .. | .ori .. | .xori .. | .shli .. | .shri .. | .sari .. | .lui .. => [.seqs, .gpr, .sup, .cregs, .perf, .msixDue]
  | .cmp .. | .cmpi .. => [.seqs, .sup, .cregs, .perf, .msixDue]
  | .jalr .. | .b .. | .bl .. | .svc .. | .eret | .wfi | .illegalInstruction .. | .cld .. | .cst .. | .cupd .. | .cupdu .. | .cstart .. | .csgn ..
  | .hsum .. | .movcWrite .. => [.regs, .lanes, .seqs, .gpr, .sup, .cregs, .ladders, .faultLog, .shutdown, .perf, .trans, .msixDue, .out]
  | .ldw .. | .ldh .. | .ldhu .. | .ldb .. | .ldbu ..
    => [.regs, .lanes, .seqs, .gpr, .sup, .cregs, .chans, .ladders, .faultLog, .shutdown, .integ, .mons, .therm, .perf, .tow, .trans, .latch, .msixDue,
      .mem, .free, .out]
  | .stw .. | .sth .. | .stb .. | .stwc .. | .pcieWrite .. | .smpWrite .. | .forerunnerWindowAccess .. | .indData .. | .towWr ..
  | .remoteWindowAccess .. | .pwrResetDevice .. | .pwrResetSup .. | .dbgMemoryAccess .. | .registerWrite ..
    => [.regs, .lanes, .seqs, .gpr, .sup, .cregs, .chans, .ladders, .faultLog, .shutdown, .fab, .clk, .integ, .mons, .monAt, .therm, .perf, .life, .dma,
      .pcie, .smp, .tow, .flash, .trans, .dorm, .supply, .tb, .latch, .msixDue, .mem, .free, .out]
  | .wfiWake => [.sup, .msixDue]
  | .stop .. => [.regs, .seqs, .gpr, .sup, .perf, .msixDue, .out]
  | .interruptTaken .. => [.sup, .cregs, .perf, .msixDue]
  | .cmt .. | .safeTimeout .. => [.regs, .seqs, .gpr, .perf, .msixDue, .out]
  | .wfe .. | .wfeTimeout .. => [.regs, .seqs, .gpr, .sup, .cregs, .perf, .msixDue]
  | .wfeRelease .. => [.regs, .seqs, .gpr, .perf, .msixDue]
  | .mpost .. | .mtake .. => [.regs, .lanes, .seqs, .gpr, .sup, .cregs, .chans, .ladders, .faultLog, .shutdown, .perf, .trans, .msixDue, .out]
  | .movcRead .. => [.regs, .lanes, .seqs, .gpr, .sup, .cregs, .ladders, .faultLog, .shutdown, .perf, .trans, .latch, .msixDue, .out]
  | .seqStart .. | .seqResume .. | .seqStop .. | .seqSafe .. | .seqLoaded .. => [.regs, .seqs, .gpr, .chans, .perf, .msixDue, .out]
  | .imemWrite .. | .broadcastWrite .. | .memxClr .. | .memxRetire .. | .bistCmd .. => [.regs, .integ, .perf, .msixDue, .mem, .out]
  | .mailboxPost .. | .mailboxTake .. | .resetDecl .. => [.regs, .chans, .perf, .msixDue, .out]
  | .msixIssue .. => [.regs, .clk, .perf, .pcie, .tow, .msixDue, .out]
  | .pcieRead .. => [.regs, .lanes, .chans, .clk, .integ, .mons, .therm, .perf, .pcie, .tow, .latch, .msixDue, .mem, .free, .out]
  | .pcieLinkChange .. => [.regs, .pcie, .msixDue]
  | .dmaStart .. | .dmaStop .. | .dmaDescriptorDone .. | .dmaHostCompletion .. | .dmaCompletionTimeout .. => [.regs, .clk, .integ, .perf, .dma, .msixDue, .mem, .out]
  | .smpRead .. => [.regs, .lanes, .chans, .clk, .integ, .mons, .therm, .perf, .smp, .tow, .latch, .msixDue, .mem, .free, .out]
  | .enec .. | .disec .. | .getmwl | .getmrl | .getpid | .getbcr | .getdcr | .cccUnsupported .. | .ibi => [.regs, .clk, .msixDue, .out]
  | .rstdaa | .entdaa .. | .setdasa .. | .setnewda .. | .setmwl .. | .setmrl .. | .indStatRead => [.regs, .clk, .smp, .msixDue, .out]
  | .getstatus => [.regs, .clk, .smp, .msixDue, .free, .out]
  | .getmxds => [.regs, .clk, .msixDue, .free, .out]
  | .smpAddressMatch
    => [.regs, .lanes, .gpr, .sup, .cregs, .ladders, .faultLog, .shutdown, .clk, .integ, .monAt, .therm, .perf, .life, .smp, .flash, .dorm, .latch,
      .msixDue, .mem, .free, .out]
  | .sofSend .. => [.regs, .clk, .tow, .msixDue, .free, .out]
  | .sofReceive .. | .speedStepTimeout .. | .towpathRxWake .. => [.regs, .tow, .msixDue]
  | .portUp .. => [.regs, .clk, .perf, .tow, .msixDue, .free, .out]
  | .speedStepConfirm .. => [.tow, .msixDue]
  | .txSleep .. => [.regs, .tow, .msixDue, .free, .out]
  | .txWake .. => [.regs, .tow, .msixDue, .out]
  | .linkLoss .. | .towEvent .. | .towHello .. | .helloSend => [.regs, .perf, .tow, .msixDue, .out]
  | .towRd .. | .readClear .. => [.regs, .lanes, .chans, .integ, .mons, .therm, .perf, .tow, .latch, .msixDue, .mem, .free, .out]
  | .towRdRsp .. | .towWrAck .. | .remoteWindowTimeout ..
    => [.regs, .lanes, .seqs, .gpr, .sup, .cregs, .ladders, .faultLog, .shutdown, .perf, .pcie, .smp, .tow, .trans, .msixDue, .out]
  | .towEnum .. | .enumTimeout => [.regs, .perf, .tow, .msixDue, .free, .out]
  | .towBadPacket .. | .counterWrap .. | .bandwidthWindowEnd .. => [.regs, .perf, .msixDue]
  | .enumerate .. | .headWrite .. | .syncCommand .. => [.regs, .clk, .perf, .tow, .msixDue, .out]
  | .towSync .. => [.regs, .mons, .monAt, .tow, .tb, .msixDue, .free, .out]
  | .syncAct => [.regs, .mons, .monAt, .tow, .tb, .msixDue]
  | .imageAuthenticate .. => [.regs, .sup, .integ, .perf, .msixDue, .mem, .out]
  | .flashCommand .. => [.regs, .clk, .integ, .perf, .flash, .msixDue, .mem, .out]
  | .flashCommandEnd .. => [.regs, .integ, .perf, .flash, .msixDue, .mem, .out]
  | .flashCommandTimeout => [.regs, .flash, .msixDue]
  | .clockCheckWindow .. => [.regs, .lanes, .seqs, .gpr, .ladders, .faultLog, .fab, .clk, .perf, .trans, .msixDue, .out]
  | .froTrimMeasure .. => [.regs, .clk, .msixDue, .free]
  | .gateDeepSleep .. | .ppsEdge .. => [.regs, .clk, .msixDue]
  | .gateQuiesceTimeout ..
    => [.regs, .lanes, .seqs, .gpr, .sup, .cregs, .ladders, .faultLog, .shutdown, .integ, .perf, .dma, .pcie, .smp, .tow, .flash, .trans, .msixDue, .mem, .out]
  | .domainPowerDown .. => [.regs, .lanes, .seqs, .gpr, .chans, .fab, .perf, .msixDue, .out]
  | .domainPowerUp .. => [.regs, .lanes, .seqs, .gpr, .fab, .integ, .mons, .monAt, .perf, .dma, .pcie, .tow, .msixDue, .mem, .out]
  | .dormantEntry
    => [.regs, .lanes, .seqs, .gpr, .sup, .cregs, .ladders, .faultLog, .shutdown, .clk, .integ, .mons, .monAt, .therm, .perf, .life, .dma, .pcie, .smp,
      .tow, .flash, .trans, .dorm, .latch, .msixDue, .mem, .free, .out]
  | .powerOnReset .. | .resetN ..
    => [.regs, .lanes, .seqs, .gpr, .sup, .cregs, .chans, .ladders, .faultLog, .shutdown, .fab, .clk, .integ, .mons, .monAt, .therm, .perf, .life, .dma,
      .pcie, .smp, .tow, .flash, .trans, .dorm, .pins, .supply, .tb, .latch, .msixDue, .mem, .free]
  | .pcieReset .. => [.regs, .chans, .integ, .mons, .monAt, .perf, .dma, .pcie, .tow, .msixDue, .mem]
  | .memoryFillComplete .. => [.regs, .lanes, .seqs, .gpr, .sup, .ladders, .faultLog, .shutdown, .integ, .perf, .trans, .msixDue, .mem, .free, .out]
  | .postComplete .. => [.regs, .integ, .perf, .msixDue, .mem, .free, .out]
  | .timebaseRestart .. => [.regs, .dorm, .tb, .msixDue]
  | .timebaseRead .. | .counterRead .. => [.perf, .latch, .msixDue, .out]
  | .timebaseLoad .. | .uncertClr .. => [.regs, .perf, .tb, .msixDue, .out]
  | .gtArm .. => [.regs, .clk, .perf, .msixDue, .out]
  | .scrubAccess .. | .retireCopyDone | .bistDone .. => [.regs, .integ, .perf, .msixDue, .mem]
  | .memxLogPop .. => [.integ, .perf, .msixDue, .out]
  | .otpReload .. => [.integ, .msixDue]
  | .coarseOutput .. | .fineOutput .. => [.regs, .lanes, .seqs, .gpr, .ladders, .fab, .mons, .perf, .trans, .msixDue, .out]
  | .monChannelConfig .. | .accRead .. => [.regs, .mons, .perf, .msixDue, .out]
  | .monSyncEdge .. => [.regs, .mons, .monAt, .msixDue]
  | .monSyncCommand .. => [.regs, .mons, .monAt, .perf, .msixDue, .out]
  | .throttleFall => [.regs, .lanes, .therm, .msixDue]
  | .sensorReadmit .. => [.regs, .therm, .perf, .msixDue, .out]
  | .ladderStepComplete .. => [.regs, .ladders, .faultLog, .msixDue]
  | .stepDone .. => [.ladders, .perf, .msixDue, .out]
  | .devClr .. => [.regs, .lanes, .seqs, .gpr, .ladders, .faultLog, .shutdown, .fab, .perf, .trans, .msixDue, .out]
  | .faultLogPop .. => [.faultLog, .perf, .msixDue, .out]
  | .advance .. | .keyprog .. | .revoke .. | .rollback .. | .token .. | .cfgprog .. => [.regs, .perf, .life, .msixDue, .out]
  | .lifeCommandDone .. => [.regs, .integ, .perf, .life, .msixDue, .mem, .free]
  | .lifecycleReset
    => [.regs, .lanes, .seqs, .gpr, .sup, .cregs, .chans, .ladders, .faultLog, .shutdown, .fab, .clk, .integ, .mons, .monAt, .therm, .perf, .life, .dma,
      .pcie, .smp, .tow, .flash, .trans, .dorm, .supply, .tb, .latch, .msixDue, .mem, .free]
  | .dbgHalt .. | .dbgResume .. | .dbgStep .. | .dbgDataAccess .. => [.regs, .gpr, .sup, .cregs, .perf, .life, .msixDue, .out]
  | .dbgHaltTaken => [.regs, .sup, .msixDue]
  | .instructionFetchTrap .. => [.regs, .lanes, .seqs, .gpr, .sup, .cregs, .ladders, .faultLog, .shutdown, .integ, .perf, .trans, .msixDue, .mem, .out]

/-- The same as a mask. -/
def Instr.mask (c : Instr) : Nat := c.mayChange.foldl (fun m p => m ||| p.bit) 0

end Sys2Proof
end

