-- ==== Sys2Proof/Certificates/Slice0/Obligations.lean ====
section
/-! DEFINITION. Sys2Proof/Certificates/Slice0/Obligations.lean: the statements for the provers. -/

open Sys2Proof Sys2Proof.Machine

/-- A write of MODE.REQ that R462 refuses is answered with an error, records its code and source in MODE.RESULT, one outcome more, and changes no other device register, so no mode
and no MODE.REQ; one that asks for the state in force is accepted, stored, and records code 2; one written during a transition, or on the way out of Dormant, is accepted and
waits: its target, attribute and host rate stand in MODE.STATUS with WAITING, it records code 1, and a request that already waited is replaced: one more outcome, counted in
SUPERSEDED. No device register but those changes. (Rests on 01_operating_modes.md.) -/
def Obligations.ModeRequestAnswers : Prop :=
  (∀ (m : Master) (v : Word) (s : State) (c : Nat), s.Reached m R.MODE_REQ → s.requestRefusal m (bitsOf v.toNat 0 3) (bitAt v.toNat 3) (bitAt v.toNat 4) = some c →
      Completes (.modeRequest m v) s fun t => s.Answered m (if c = 13 then 2 else 1) t ∧ t.fld F.MODE_RESULT_CODE = c ∧ t.fld F.MODE_RESULT_SOURCE = m.holder ∧ t.fld
      F.MODE_RESULT_SEQ = (s.fld F.MODE_RESULT_SEQ + 1) % 2 ^ F.MODE_RESULT_SEQ.wd ∧ t.is F.MODE_EVENT_RESULT = true ∧ s.OnlyDev [R.MODE_RESULT, R.MODE_EVENT] t) ∧
  (∀ (m : Master) (v : Word) (s : State), s.Reached m R.MODE_REQ → s.requestRefusal m (bitsOf v.toNat 0 3) (bitAt v.toNat 3) (bitAt v.toNat 4) = none → s.inTransit =
      false → s.sameMode (bitsOf v.toNat 0 3) (bitAt v.toNat 3) (bitAt v.toNat 4) = true → Completes (.modeRequest m v) s fun t => s.Answered m 0 t ∧ t.rd R.MODE_REQ =
      BitVec.ofNat 32 (v.toNat % 32) ∧ t.fld F.MODE_RESULT_CODE = 2 ∧ t.fld F.MODE_RESULT_SOURCE = m.holder ∧ t.fld F.MODE_RESULT_SEQ = (s.fld F.MODE_RESULT_SEQ + 1) % 2 ^
      F.MODE_RESULT_SEQ.wd ∧ t.is F.MODE_EVENT_RESULT = true ∧ s.OnlyDev [R.MODE_REQ, R.MODE_RESULT, R.MODE_EVENT] t) ∧
  (∀ (m : Master) (v : Word) (s : State), s.Reached m R.MODE_REQ → s.requestRefusal m (bitsOf v.toNat 0 3) (bitAt v.toNat 3) (bitAt v.toNat 4) = none → s.inTransit =
      true → Completes (.modeRequest m v) s fun t => s.Answered m 0 t ∧ t.rd R.MODE_REQ = BitVec.ofNat 32 (v.toNat % 32) ∧ t.is F.MODE_STATUS_WAITING = true ∧ t.fld
      F.MODE_STATUS_WAIT_TARGET = bitsOf v.toNat 0 3 ∧ t.is F.MODE_STATUS_WAIT_FIXLAT = bitAt v.toNat 3 ∧ t.is F.MODE_STATUS_WAIT_HOST_RATE = bitAt v.toNat 4 ∧ t.fld
      F.MODE_STATUS_CURRENT = s.fld F.MODE_STATUS_CURRENT ∧ t.is F.MODE_STATUS_BUSY = s.is F.MODE_STATUS_BUSY ∧ t.fld F.MODE_RESULT_CODE = 1 ∧ t.fld F.MODE_RESULT_SOURCE =
      m.holder ∧ t.trans.waitSrc = m.holder ∧ t.fld F.MODE_RESULT_SEQ = (s.fld F.MODE_RESULT_SEQ + (if s.is F.MODE_STATUS_WAITING then 2 else 1)) % 2 ^
      F.MODE_RESULT_SEQ.wd ∧ t.fld F.MODE_SUPERSEDED_COUNT = (if s.is F.MODE_STATUS_WAITING then min (s.fld F.MODE_SUPERSEDED_COUNT + 1) 65535 else s.fld
      F.MODE_SUPERSEDED_COUNT) ∧ s.OnlyDev [R.MODE_REQ, R.MODE_STATUS, R.MODE_RESULT, R.MODE_SUPERSEDED, R.MODE_EVENT] t)

/-- An accepted request for another state makes BUSY 1 with its target in IN_TARGET while CURRENT stays, notes its attribute, host rate, source and start, and records outcome 0
with its source. From a data mode or Diagnostic, a Diagnostic restart among them, training stops, the LTX lanes are squelched, the ladders become idle and the ramp-down goes
on until every LTX lane is dark; a change of the attribute alone touches the locks and stops nothing. A start of Diagnostic takes BASE and LOOP. When the transition in
progress has reached its target, TRANSITION_COMPLETE puts the target, the attribute and, for a data mode or Diagnostic, the host rate into MODE.STATUS, clears BUSY and records
the time and outcome 3 (COMPLETED) or 4 (DEGRADED) with the request's source; for Standby and Dormant the host rate stays. A request that waits then starts, with outcome 0, or
is discarded with 8 (MODE.DIAG not valid) or 2 (the state in force). Where the wake from Dormant reaches Standby, a transition begun in Dormant goes on, with the Diagnostic
values of its start (log entry 17), a request that waits starts, before that of WAKE_TARGET (log entry 84), else WAKE_TARGET is requested unless it is Standby. (Rests on
01_operating_modes.md.) -/
def Obligations.TransitionStartsAndCompletes : Prop :=
  (∀ (m : Master) (v : Word) (s : State), s.Reached m R.MODE_REQ → s.requestRefusal m (bitsOf v.toNat 0 3) (bitAt v.toNat 3) (bitAt v.toNat 4) = none → s.inTransit =
      false → s.mode = 1 → bitsOf v.toNat 0 3 ≠ 1 → Completes (.modeRequest m v) s fun t => s.Answered m 0 t ∧ t.rd R.MODE_REQ = BitVec.ofNat 32 (v.toNat % 32) ∧ t.is
      F.MODE_STATUS_BUSY = true ∧ t.fld F.MODE_STATUS_IN_TARGET = bitsOf v.toNat 0 3 ∧ t.fld F.MODE_STATUS_CURRENT = 1 ∧ t.trans.source = m.holder ∧ t.trans.fixlat = bitAt
      v.toNat 3 ∧ t.trans.rate = bitAt v.toNat 4 ∧ t.trans.start = s.clock ∧ t.fld F.MODE_RESULT_CODE = 0 ∧ t.fld F.MODE_RESULT_SOURCE = m.holder) ∧
  (∀ (m : Master) (v : Word) (s : State), s.Reached m R.MODE_REQ → s.requestRefusal m (bitsOf v.toNat 0 3) (bitAt v.toNat 3) (bitAt v.toNat 4) = none → s.inTransit =
      false → isData s.mode = true → s.sameMode (bitsOf v.toNat 0 3) (bitAt v.toNat 3) (bitAt v.toNat 4) = false → bitsOf v.toNat 0 3 = 5 ∨ bitsOf v.toNat 0 3 ≠ s.mode ∨
      bitAt v.toNat 4 ≠ s.is F.MODE_STATUS_HOST_RATE → Completes (.modeRequest m v) s fun t => s.Answered m 0 t ∧ t.rd R.MODE_REQ = BitVec.ofNat 32 (v.toNat % 32) ∧ t.is
      F.MODE_STATUS_BUSY = true ∧ t.fld F.MODE_STATUS_IN_TARGET = bitsOf v.toNat 0 3 ∧ t.fld F.MODE_STATUS_CURRENT = s.mode ∧ t.trans.source = m.holder ∧ t.trans.fixlat =
      bitAt v.toNat 3 ∧ t.trans.rate = bitAt v.toNat 4 ∧ t.trans.start = s.clock ∧ t.fld F.MODE_RESULT_CODE = 0 ∧ t.fld F.MODE_RESULT_SOURCE = m.holder ∧ t.trans.ramping =
      !s.allDark ∧ (bitsOf v.toNat 0 3 = 5 → t.fld F.MODE_DIAG_BASE_NOW = s.fld F.MODE_DIAG_BASE ∧ t.fld F.MODE_DIAG_LOOP_NOW = s.fld F.MODE_DIAG_LOOP) ∧ (∀ n : Fin 8,
      t.fld (F.LRX_TRN_CTL_STATE n) = 0 ∧ t.is (F.LTX_CTL_SQUELCH (8 + n)) = true) ∧ (∀ i : Fin 48, t.fld (F.FAULT_LADDER_LEVEL (ladderOf i)) = 0 ∧ t.is
      (F.FAULT_LADDER_ACTIVE (ladderOf i)) = false)) ∧
  (∀ (m : Master) (v : Word) (s : State), s.Reached m R.MODE_REQ → s.requestRefusal m (bitsOf v.toNat 0 3) (bitAt v.toNat 3) (bitAt v.toNat 4) = none → s.inTransit =
      false → 2 ≤ bitsOf v.toNat 0 3 → bitsOf v.toNat 0 3 ≤ 4 → bitsOf v.toNat 0 3 = s.mode → bitAt v.toNat 4 = s.is F.MODE_STATUS_HOST_RATE → bitAt v.toNat 3 ≠ s.is
      F.MODE_STATUS_FIXLAT → Completes (.modeRequest m v) s fun t => s.Answered m 0 t ∧ t.rd R.MODE_REQ = BitVec.ofNat 32 (v.toNat % 32) ∧ t.is F.MODE_STATUS_BUSY = true ∧
      t.fld F.MODE_STATUS_IN_TARGET = bitsOf v.toNat 0 3 ∧ t.fld F.MODE_STATUS_CURRENT = s.mode ∧ t.trans.source = m.holder ∧ t.trans.fixlat = bitAt v.toNat 3 ∧
      t.trans.rate = bitAt v.toNat 4 ∧ t.trans.start = s.clock ∧ t.fld F.MODE_RESULT_CODE = 0 ∧ t.fld F.MODE_RESULT_SOURCE = m.holder ∧ t.trans.ramping = false ∧
      t.trans.waitFor = [] ∧ (∀ j : Fin 24, t.fld (F.FAB_LAT_STATE j) = (if bitAt v.toNat 3 then (if s.running (laneOfOut j) ∧ s.fld (F.FAB_LAT_STATE j) = 0 then 1 else
      s.fld (F.FAB_LAT_STATE j)) else 0)) ∧ (∀ n : Fin 48, t.running n = s.running n) ∧ (∀ n : Fin 8, t.fld (F.LRX_TRN_CTL_STATE n) = s.fld (F.LRX_TRN_CTL_STATE n) ∧ t.is
      (F.LTX_CTL_SQUELCH (8 + n)) = s.is (F.LTX_CTL_SQUELCH (8 + n)))) ∧
  (∀ (s : State), s.dorm.phase ≠ .waking → s.transReached = true → s.is F.MODE_STATUS_WAITING = false → Completes (.transitionComplete) s fun t => t.fld
      F.MODE_STATUS_CURRENT = s.fld F.MODE_STATUS_IN_TARGET ∧ t.is F.MODE_STATUS_BUSY = false ∧ t.is F.MODE_STATUS_FIXLAT = s.trans.fixlat ∧ t.is F.MODE_STATUS_HOST_RATE =
      (if isData (s.fld F.MODE_STATUS_IN_TARGET) then s.trans.rate else s.is F.MODE_STATUS_HOST_RATE) ∧ t.fld F.MODE_RESULT_CODE = (if s.trans.degraded then 4 else 3) ∧
      t.fld F.MODE_RESULT_SOURCE = s.trans.source % 16 ∧ t.fld F.MODE_LAST_TIME_US = min (usOf (s.clock - s.trans.start)) 0xFFFFFF ∧ t.out = s.out ∧ s.OnlyDev
      [R.MODE_STATUS, R.MODE_LAST_TIME, R.MODE_RESULT, R.MODE_EVENT] t) ∧
  (∀ (s : State), s.dorm.phase ≠ .waking → s.transReached = true → s.is F.MODE_STATUS_WAITING = true → s.fld F.MODE_STATUS_WAIT_TARGET ≠ s.fld F.MODE_STATUS_IN_TARGET →
      s.fld F.MODE_STATUS_WAIT_TARGET ≠ 5 ∨ s.diagValid = true → Completes (.transitionComplete) s fun t => t.is F.MODE_STATUS_WAITING = false ∧ t.fld
      F.MODE_STATUS_CURRENT = s.fld F.MODE_STATUS_IN_TARGET ∧ t.fld F.MODE_LAST_TIME_US = min (usOf (s.clock - s.trans.start)) 0xFFFFFF ∧ t.fld F.MODE_RESULT_SOURCE =
      s.trans.waitSrc % 16 ∧ t.fld F.MODE_RESULT_SEQ = (s.fld F.MODE_RESULT_SEQ + 2) % 2 ^ F.MODE_RESULT_SEQ.wd ∧ t.is F.MODE_STATUS_BUSY = true ∧ t.fld
      F.MODE_STATUS_IN_TARGET = s.fld F.MODE_STATUS_WAIT_TARGET ∧ t.fld F.MODE_RESULT_CODE = 0 ∧ t.trans.source = s.trans.waitSrc ∧ t.trans.fixlat = s.is
      F.MODE_STATUS_WAIT_FIXLAT ∧ t.trans.rate = s.is F.MODE_STATUS_WAIT_HOST_RATE ∧ t.trans.start = s.clock) ∧
  (∀ (s : State), s.dorm.phase ≠ .waking → s.transReached = true → s.is F.MODE_STATUS_WAITING = true → s.fld F.MODE_STATUS_WAIT_TARGET = 5 → s.diagValid = false →
      Completes (.transitionComplete) s fun t => t.is F.MODE_STATUS_WAITING = false ∧ t.fld F.MODE_STATUS_CURRENT = s.fld F.MODE_STATUS_IN_TARGET ∧ t.fld
      F.MODE_LAST_TIME_US = min (usOf (s.clock - s.trans.start)) 0xFFFFFF ∧ t.fld F.MODE_RESULT_SOURCE = s.trans.waitSrc % 16 ∧ t.fld F.MODE_RESULT_SEQ = (s.fld
      F.MODE_RESULT_SEQ + 2) % 2 ^ F.MODE_RESULT_SEQ.wd ∧ t.is F.MODE_STATUS_BUSY = false ∧ t.fld F.MODE_RESULT_CODE = 8 ∧ t.out = s.out ∧ s.OnlyDev [R.MODE_STATUS,
      R.MODE_LAST_TIME, R.MODE_RESULT, R.MODE_EVENT] t) ∧
  (∀ (s : State), s.dorm.phase ≠ .waking → s.transReached = true → s.is F.MODE_STATUS_WAITING = true → s.fld F.MODE_STATUS_WAIT_TARGET = s.fld F.MODE_STATUS_IN_TARGET →
      s.fld F.MODE_STATUS_IN_TARGET ≠ 5 → s.is F.MODE_STATUS_WAIT_FIXLAT = s.trans.fixlat → s.is F.MODE_STATUS_WAIT_HOST_RATE = s.trans.rate → Completes
      (.transitionComplete) s fun t => t.is F.MODE_STATUS_WAITING = false ∧ t.fld F.MODE_STATUS_CURRENT = s.fld F.MODE_STATUS_IN_TARGET ∧ t.fld F.MODE_LAST_TIME_US = min
      (usOf (s.clock - s.trans.start)) 0xFFFFFF ∧ t.fld F.MODE_RESULT_SOURCE = s.trans.waitSrc % 16 ∧ t.fld F.MODE_RESULT_SEQ = (s.fld F.MODE_RESULT_SEQ + 2) % 2 ^
      F.MODE_RESULT_SEQ.wd ∧ t.is F.MODE_STATUS_BUSY = false ∧ t.fld F.MODE_RESULT_CODE = 2 ∧ t.out = s.out ∧ s.OnlyDev [R.MODE_STATUS, R.MODE_LAST_TIME, R.MODE_RESULT,
      R.MODE_EVENT] t) ∧
  (∀ (s : State), s.dorm.phase = .waking → s.domOn 14 = true → s.domOn 15 = true → s.domOn 16 = true → s.is F.MODE_STATUS_BUSY = false → s.is F.MODE_STATUS_WAITING =
      false → s.fld F.MODE_WAKE_TARGET_TARGET = 1 → Completes (.transitionComplete) s fun t => t.dorm.phase = .awake ∧ t.out = s.out ∧ s.Only [] t) ∧
  (∀ (s : State), s.dorm.phase = .waking → s.domOn 14 = true → s.domOn 15 = true → s.domOn 16 = true → s.is F.MODE_STATUS_BUSY = false → s.is F.MODE_STATUS_WAITING =
      false → s.mode = 1 → s.fld F.MODE_WAKE_TARGET_TARGET ≠ 1 → s.requestRefusal .supS (s.fld F.MODE_WAKE_TARGET_TARGET) (bitAt (s.rd R.MODE_WAKE_TARGET).toNat 3) (bitAt
      (s.rd R.MODE_WAKE_TARGET).toNat 4) = none → Completes (.transitionComplete) s fun t => t.dorm.phase = .awake ∧ t.is F.MODE_STATUS_BUSY = true ∧ t.fld
      F.MODE_STATUS_IN_TARGET = s.fld F.MODE_WAKE_TARGET_TARGET ∧ t.fld F.MODE_STATUS_CURRENT = 1 ∧ t.trans.source = 1 ∧ t.trans.start = s.clock ∧ t.fld F.MODE_RESULT_CODE
      = 0 ∧ t.fld F.MODE_RESULT_SOURCE = 1) ∧
  (∀ (s : State), s.dorm.phase = .waking → s.domOn 14 = true → s.domOn 15 = true → s.domOn 16 = true → s.is F.MODE_STATUS_BUSY = false → s.is F.MODE_STATUS_WAITING =
      true → s.mode = 1 → s.fld F.MODE_STATUS_WAIT_TARGET ≠ 1 → s.fld F.MODE_STATUS_WAIT_TARGET ≠ 5 ∨ s.diagValid = true → s.fld F.MODE_WAKE_TARGET_TARGET = 1 → Completes
      (.transitionComplete) s fun t => t.dorm.phase = .awake ∧ t.is F.MODE_STATUS_WAITING = false ∧ t.is F.MODE_STATUS_BUSY = true ∧ t.fld F.MODE_STATUS_IN_TARGET = s.fld
      F.MODE_STATUS_WAIT_TARGET ∧ t.fld F.MODE_STATUS_CURRENT = 1 ∧ t.trans.source = s.trans.waitSrc ∧ t.trans.start = s.clock ∧ t.fld F.MODE_RESULT_CODE = 0 ∧ t.fld
      F.MODE_RESULT_SOURCE = s.trans.waitSrc % 16) ∧
  (∀ (s : State), s.dorm.phase = .waking → s.domOn 14 = true → s.domOn 15 = true → s.domOn 16 = true → s.is F.MODE_STATUS_BUSY = true → isData (s.fld
      F.MODE_STATUS_IN_TARGET) = true → s.mode = 1 → s.fld F.MODE_WAKE_TARGET_TARGET = 1 → Completes (.transitionComplete) s fun t => t.dorm.phase = .awake ∧ t.is
      F.MODE_STATUS_BUSY = true ∧ t.fld F.MODE_STATUS_IN_TARGET = s.fld F.MODE_STATUS_IN_TARGET ∧ t.fld F.MODE_STATUS_CURRENT = 1 ∧ t.trans.start = s.trans.start ∧ (s.fld
      F.MODE_STATUS_IN_TARGET = 5 → t.fld F.MODE_DIAG_BASE_NOW = s.trans.base % 8 ∧ t.fld F.MODE_DIAG_LOOP_NOW = s.trans.loop % 4))

/-- A bit of MODE.OOS_LINE or MODE.OOS_HOST written 1 stands as 1, and the bit of a usable lane written 0 as 0, with the bits of every other usable lane as they were; outside a
data mode and a transition the bit is all that clearing changes in the device registers; in a data mode it starts a level 3 step of the lane's ladder when its domain is on and
no device-level fault freezes the ladders. A lane that the self-test marked unusable keeps its 1 and costs one configuration error. (Rests on 01_operating_modes.md.) -/
def Obligations.LanesLeaveAndReturnToService : Prop :=
  (∀ (m : Master) (n : Fin 48) (s : State), s.Reached m R.MODE_OOS_LINE → Completes (.oosSet m n) s fun t => s.Answered m 0 t ∧ t.oos n = true ∧ (∀ k : Fin 48, k ≠ n →
      s.unusable k = false → t.oos k = s.oos k)) ∧
  (∀ (m : Master) (n : Fin 48) (s : State), s.Reached m R.MODE_OOS_LINE → s.unusable n = false → (∀ k : Fin 48, s.unusable k = true → s.oos k = true) → s.is
      F.MODE_STATUS_BUSY = false → isData s.mode = false → Completes (.oosClear m n) s fun t => s.Answered m 0 t ∧ t.oos n = false ∧ (∀ k : Fin 48, k ≠ n → s.unusable k =
      false → t.oos k = s.oos k) ∧ s.OnlyDev [R.MODE_OOS_LINE, R.MODE_OOS_HOST] t) ∧
  (∀ (m : Master) (n : Fin 48) (s : State), s.Reached m R.MODE_OOS_LINE → s.unusable n = false → s.oos n = true → (∀ k : Fin 48, s.unusable k = true → s.oos k = true) →
      s.is F.MODE_STATUS_BUSY = false → isData s.mode = true → s.laneOn n = true → s.devFaulted = false → Completes (.oosClear m n) s fun t => s.Answered m 0 t ∧ t.oos n =
      false ∧ t.fld (F.FAULT_LADDER_LEVEL (ladderOf n)) = 3 ∧ t.is (F.FAULT_LADDER_ACTIVE (ladderOf n)) = true ∧ (∀ k : Fin 48, k ≠ n → s.unusable k = false → t.oos k =
      s.oos k)) ∧
  (∀ (m : Master) (n : Fin 48) (s : State), s.Reached m R.MODE_OOS_LINE → s.unusable n = true → s.oos n = true → Completes (.oosClear m n) s fun t => s.Answered m 0 t ∧
      t.oos n = true ∧ t.fld F.MODE_CLAIM_ERR_RESOURCE = 15 ∧ t.fld F.MODE_CLAIM_ERR_MASTER = m.holder ∧ t.fld F.MODE_CLAIM_ERR_COUNT = min (s.fld F.MODE_CLAIM_ERR_COUNT +
      1) 65535 ∧ t.is F.MODE_EVENT_CONFIG_ERR = true ∧ (∀ k : Fin 48, s.unusable k = false → t.oos k = s.oos k))

/-- A claim of a free resource for a use it has is accepted and records the use, the holder and its SEC bit in the resource's register, and changes no other register; a claim of a
held one, or for a use it has not, is answered with an error and sets REFUSED, the claim register's other bits staying as they are, and costs one configuration error, counted,
with the resource and the master in MODE.CLAIM_ERR. (Rests on 01_operating_modes.md.) -/
def Obligations.SharedResourcesClaimed : Prop :=
  (∀ (m : Master) (res : Fin 6) (use : Fin 4) (s : State), s.Reached m (claimReg res) → s.claimUse res = 0 → 1 ≤ use.val → use.val < 3 → (2 ≤ res.val → use.val = 1) →
      Completes (.claim m res use) s fun t => s.Answered m 0 t ∧ t.claimUse res = use ∧ t.fld ⟨claimReg res, 4, 4⟩ = m.holder ∧ t.is ⟨claimReg res, 9, 1⟩ = m.secBit ∧ t.is
      ⟨claimReg res, 8, 1⟩ = s.is ⟨claimReg res, 8, 1⟩ ∧ s.Only [claimReg res] t) ∧
  (∀ (m : Master) (res : Fin 6) (use : Fin 4) (s : State), s.Reached m (claimReg res) → 1 ≤ use.val → s.claimUse res ≠ 0 ∨ use.val = 3 ∨ 2 ≤ res.val ∧ use.val = 2 →
      Completes (.claim m res use) s fun t => s.Answered m 1 t ∧ t.rd (claimReg res) = setBits (s.rd (claimReg res)) 8 1 1 ∧ t.fld F.MODE_CLAIM_ERR_RESOURCE = claimCode
      res ∧ t.fld F.MODE_CLAIM_ERR_MASTER = m.holder ∧ t.fld F.MODE_CLAIM_ERR_COUNT = min (s.fld F.MODE_CLAIM_ERR_COUNT + 1) 65535 ∧ t.is F.MODE_EVENT_CONFIG_ERR = true ∧
      s.Only [claimReg res, R.MODE_CLAIM_ERR, R.MODE_EVENT] t)

/-- A write of USE = 0 to a held claim register by the holder (over the towpath with the SEC bit recorded) or by 0x1 frees it; by any other master it is refused: REFUSED, a
configuration error, an error response, and the claim stays; on a free register it is accepted and changes nothing. (Formalises R35.) -/
def Obligations.HeldClaimIsReleasedOnlyByItsHolder : Prop :=
  (∀ (m : Master) (res : Fin 6) (s : State), s.Reached m (claimReg res) → s.claimUse res ≠ 0 → m.holder = s.fld ⟨claimReg res, 4, 4⟩ ∧ m.secBit = s.is ⟨claimReg res, 9,
      1⟩ ∨ m = .supS → Completes (.claimRelease m res) s fun t => s.Answered m 0 t ∧ t.claimUse res = 0 ∧ t.fld ⟨claimReg res, 4, 4⟩ = 0 ∧ t.is ⟨claimReg res, 9, 1⟩ =
      false ∧ s.OnlyDev [claimReg res] t) ∧
  (∀ (m : Master) (res : Fin 6) (s : State), s.Reached m (claimReg res) → s.claimUse res ≠ 0 → m ≠ .supS → m.holder ≠ s.fld ⟨claimReg res, 4, 4⟩ ∨ m.secBit ≠ s.is
      ⟨claimReg res, 9, 1⟩ → Completes (.claimRelease m res) s fun t => s.Answered m 1 t ∧ t.is ⟨claimReg res, 8, 1⟩ = true ∧ t.claimUse res = s.claimUse res ∧ t.fld
      ⟨claimReg res, 4, 4⟩ = s.fld ⟨claimReg res, 4, 4⟩ ∧ t.is ⟨claimReg res, 9, 1⟩ = s.is ⟨claimReg res, 9, 1⟩ ∧ t.fld F.MODE_CLAIM_ERR_RESOURCE = claimCode res ∧ t.fld
      F.MODE_CLAIM_ERR_MASTER = m.holder ∧ t.fld F.MODE_CLAIM_ERR_COUNT = min (s.fld F.MODE_CLAIM_ERR_COUNT + 1) 65535 ∧ s.Only [claimReg res, R.MODE_CLAIM_ERR,
      R.MODE_EVENT] t) ∧
  (∀ (m : Master) (res : Fin 6) (s : State), s.Reached m (claimReg res) → s.claimUse res = 0 → Completes (.claimRelease m res) s fun t => s.Answered m 0 t ∧ s.Only []
      t)

/-- A window with the monitors enabled stores the eight clamped margins, the lowest with its monitor, and the low mark, and judges WARN and CRIT: below the threshold set with its
event, at five times HYST above it cleared, in between kept; with CRIT_FAULT_EN a margin that falls below CRIT raises device-level fault class 2 as well, its margins stored as
ever; with the monitors off nothing changes. LOW_CLR reloads the low mark alone. A written fixed-latency target is stored, and every locked output of that direction slews;
with the attribute in force, or coming into force, it is also clamped to its range with its flag and event, by the mode coming into force first (the choice of log entry 23;
that the flag falls with the next target in range is log entry 85). A slewing output within half a UI of its target locks and a locked output beyond it slews again with
LOCK_LOST, both with the latency measured; outside these nothing changes. An acknowledged crossing opens with its epoch kept, and what its pound or store held is discarded and
counted. (Rests on 02_self_timed_fabric.md.) -/
def Obligations.FabricMarginsTargetsAndOutputLocks : Prop :=
  (∀ (margins : List Int) (s : State), margins.length = 8 → s.domOn 1 = true → s.is F.FAB_CTL_SPEED_EN = true → s.is F.FAB_CTL_CRIT_FAULT_EN = false → Completes
      (.speedMonitorWindow margins) s fun t => (∀ i : Fin 8, t.fld (F.FAB_SPEED_MARGIN i) = codeOf 12 (clampInt (-2048) 2047 (margins.getD i 0)) ∧ t.is (F.FAB_SPEED_VALID
      i) = true) ∧ t.fld F.FAB_MARGIN_MIN_NOW = codeOf 12 (lowest (margins.map (clampInt (-2048) 2047))).2 ∧ t.fld F.FAB_MARGIN_MIN_WHICH = (lowest (margins.map (clampInt
      (-2048) 2047))).1 ∧ t.sfld F.FAB_MARGIN_MIN_LOW = min (s.sfld F.FAB_MARGIN_MIN_LOW) (lowest (margins.map (clampInt (-2048) 2047))).2 ∧ t.is F.FAB_STATUS_MARGIN_WARN
      = (if (lowest (margins.map (clampInt (-2048) 2047))).2 < s.sfld F.FAB_MARGIN_THR_WARN then true else if s.sfld F.FAB_MARGIN_THR_WARN + 5 * s.fld
      F.FAB_MARGIN_THR_HYST ≤ (lowest (margins.map (clampInt (-2048) 2047))).2 then false else s.is F.FAB_STATUS_MARGIN_WARN) ∧ t.is F.FAB_STATUS_MARGIN_CRIT = (if (lowest
      (margins.map (clampInt (-2048) 2047))).2 < s.sfld F.FAB_MARGIN_THR_CRIT then true else if s.sfld F.FAB_MARGIN_THR_CRIT + 5 * s.fld F.FAB_MARGIN_THR_HYST ≤ (lowest
      (margins.map (clampInt (-2048) 2047))).2 then false else s.is F.FAB_STATUS_MARGIN_CRIT) ∧ t.is F.FAB_EVENT_WARN_ENTER = (s.is F.FAB_EVENT_WARN_ENTER || (t.is
      F.FAB_STATUS_MARGIN_WARN && !s.is F.FAB_STATUS_MARGIN_WARN)) ∧ t.is F.FAB_EVENT_CRIT_ENTER = (s.is F.FAB_EVENT_CRIT_ENTER || (t.is F.FAB_STATUS_MARGIN_CRIT && !s.is
      F.FAB_STATUS_MARGIN_CRIT)) ∧ s.Only ([R.FAB_MARGIN_MIN, R.FAB_STATUS, R.FAB_EVENT] ++ (List.range 8).map R.FAB_SPEED) t) ∧
  (∀ (margins : List Int) (s : State), margins.length = 8 → s.domOn 1 = true → s.is F.FAB_CTL_SPEED_EN = true → s.is F.FAB_STATUS_MARGIN_CRIT = true ∨ s.sfld
      F.FAB_MARGIN_THR_CRIT ≤ (lowest (margins.map (clampInt (-2048) 2047))).2 → Completes (.speedMonitorWindow margins) s fun t => (∀ i : Fin 8, t.fld (F.FAB_SPEED_MARGIN
      i) = codeOf 12 (clampInt (-2048) 2047 (margins.getD i 0)) ∧ t.is (F.FAB_SPEED_VALID i) = true) ∧ t.fld F.FAB_MARGIN_MIN_NOW = codeOf 12 (lowest (margins.map
      (clampInt (-2048) 2047))).2 ∧ t.fld F.FAB_MARGIN_MIN_WHICH = (lowest (margins.map (clampInt (-2048) 2047))).1 ∧ t.sfld F.FAB_MARGIN_MIN_LOW = min (s.sfld
      F.FAB_MARGIN_MIN_LOW) (lowest (margins.map (clampInt (-2048) 2047))).2 ∧ t.is F.FAB_STATUS_MARGIN_WARN = (if (lowest (margins.map (clampInt (-2048) 2047))).2 <
      s.sfld F.FAB_MARGIN_THR_WARN then true else if s.sfld F.FAB_MARGIN_THR_WARN + 5 * s.fld F.FAB_MARGIN_THR_HYST ≤ (lowest (margins.map (clampInt (-2048) 2047))).2 then
      false else s.is F.FAB_STATUS_MARGIN_WARN) ∧ t.is F.FAB_STATUS_MARGIN_CRIT = (if (lowest (margins.map (clampInt (-2048) 2047))).2 < s.sfld F.FAB_MARGIN_THR_CRIT then
      true else if s.sfld F.FAB_MARGIN_THR_CRIT + 5 * s.fld F.FAB_MARGIN_THR_HYST ≤ (lowest (margins.map (clampInt (-2048) 2047))).2 then false else s.is
      F.FAB_STATUS_MARGIN_CRIT) ∧ t.is F.FAB_EVENT_WARN_ENTER = (s.is F.FAB_EVENT_WARN_ENTER || (t.is F.FAB_STATUS_MARGIN_WARN && !s.is F.FAB_STATUS_MARGIN_WARN)) ∧ t.is
      F.FAB_EVENT_CRIT_ENTER = (s.is F.FAB_EVENT_CRIT_ENTER || (t.is F.FAB_STATUS_MARGIN_CRIT && !s.is F.FAB_STATUS_MARGIN_CRIT)) ∧ s.Only ([R.FAB_MARGIN_MIN,
      R.FAB_STATUS, R.FAB_EVENT] ++ (List.range 8).map R.FAB_SPEED) t) ∧
  (∀ (margins : List Int) (s : State), margins.length = 8 → s.domOn 1 = true → s.is F.FAB_CTL_SPEED_EN = true → s.is F.FAB_CTL_CRIT_FAULT_EN = true → s.is
      F.FAB_STATUS_MARGIN_CRIT = false → (lowest (margins.map (clampInt (-2048) 2047))).2 < s.sfld F.FAB_MARGIN_THR_CRIT → Completes (.speedMonitorWindow margins) s fun t
      => t.is F.FAB_STATUS_MARGIN_CRIT = true ∧ t.is F.FAB_EVENT_CRIT_ENTER = true ∧ (∀ i : Fin 8, t.fld (F.FAB_SPEED_MARGIN i) = codeOf 12 (clampInt (-2048) 2047
      (margins.getD i 0)) ∧ t.is (F.FAB_SPEED_VALID i) = true) ∧ t.fld F.FAB_MARGIN_MIN_NOW = codeOf 12 (lowest (margins.map (clampInt (-2048) 2047))).2 ∧ t.fld
      F.FAB_MARGIN_MIN_WHICH = (lowest (margins.map (clampInt (-2048) 2047))).1 ∧ t.sfld F.FAB_MARGIN_MIN_LOW = min (s.sfld F.FAB_MARGIN_MIN_LOW) (lowest (margins.map
      (clampInt (-2048) 2047))).2 ∧ t.is F.FAB_STATUS_MARGIN_WARN = (if (lowest (margins.map (clampInt (-2048) 2047))).2 < s.sfld F.FAB_MARGIN_THR_WARN then true else if
      s.sfld F.FAB_MARGIN_THR_WARN + 5 * s.fld F.FAB_MARGIN_THR_HYST ≤ (lowest (margins.map (clampInt (-2048) 2047))).2 then false else s.is F.FAB_STATUS_MARGIN_WARN) ∧
      t.is F.FAB_EVENT_WARN_ENTER = (s.is F.FAB_EVENT_WARN_ENTER || (t.is F.FAB_STATUS_MARGIN_WARN && !s.is F.FAB_STATUS_MARGIN_WARN)) ∧ bitAt (t.fld
      F.FAULT_DEV_ACTIVE_CLASS) 1 = true ∧ bitAt (t.fld F.FAULT_EVENT_BITS) 5 = true) ∧
  (∀ (margins : List Int) (s : State), margins.length = 8 → s.is F.FAB_CTL_SPEED_EN = false → Completes (.speedMonitorWindow margins) s fun t => s.Only [] t) ∧
  (∀ (m : Master) (s : State), s.Reached m R.FAB_MARGIN_MIN → Completes (.marginLowClear m) s fun t => s.Answered m 0 t ∧ t.fld F.FAB_MARGIN_MIN_LOW = s.fld
      F.FAB_MARGIN_MIN_NOW ∧ t.fld F.FAB_MARGIN_MIN_NOW = s.fld F.FAB_MARGIN_MIN_NOW ∧ t.fld F.FAB_MARGIN_MIN_WHICH = s.fld F.FAB_MARGIN_MIN_WHICH ∧ s.Only
      [R.FAB_MARGIN_MIN] t) ∧
  (∀ (m : Master) (host : Bool) (v : Word) (s : State), s.Reached m (if host then R.FAB_FL_TGT_HTX else R.FAB_FL_TGT_LTX) → s.targetMode.2.2 = false → s.is
      F.MODE_STATUS_FIXLAT = false → Completes (.flTargetWrite m host v) s fun t => s.Answered m 0 t ∧ t.fld (if host then F.FAB_FL_TGT_HTX_UI else F.FAB_FL_TGT_LTX_UI) =
      v.toNat % 131072 ∧ t.fab = s.fab ∧ (∀ j : Fin 24, t.fld (F.FAB_LAT_STATE j) = if decide (8 ≤ j.val) = host ∧ s.fld (F.FAB_LAT_STATE j) = 2 then 1 else s.fld
      (F.FAB_LAT_STATE j)) ∧ s.Only ((if host then R.FAB_FL_TGT_HTX else R.FAB_FL_TGT_LTX) :: (List.range 24).map R.FAB_LAT) t) ∧
  (∀ (m : Master) (host : Bool) (v : Word) (s : State), s.Reached m (if host then R.FAB_FL_TGT_HTX else R.FAB_FL_TGT_LTX) → s.targetMode.2.2 = false → s.is
      F.MODE_STATUS_FIXLAT = true → Completes (.flTargetWrite m host v) s fun t => s.Answered m 0 t ∧ t.fld (if host then F.FAB_FL_TGT_HTX_UI else F.FAB_FL_TGT_LTX_UI) =
      v.toNat % 131072 ∧ (if host then t.fab.tgtHtx else t.fab.tgtLtx) = (clampTarget s.mode (if host then hostBaud (s.is F.MODE_STATUS_HOST_RATE) else lineBaud s.mode
      (s.is F.MODE_STATUS_HOST_RATE)) (v.toNat % 131072)).1 ∧ (if host then t.fab.tgtLtx = s.fab.tgtLtx else t.fab.tgtHtx = s.fab.tgtHtx) ∧ t.is (if host then
      F.FAB_STATUS_TGT_CLAMPED_HTX else F.FAB_STATUS_TGT_CLAMPED_LTX) = (clampTarget s.mode (if host then hostBaud (s.is F.MODE_STATUS_HOST_RATE) else lineBaud s.mode
      (s.is F.MODE_STATUS_HOST_RATE)) (v.toNat % 131072)).2 ∧ (∀ j : Fin 24, t.fld (F.FAB_LAT_STATE j) = if decide (8 ≤ j.val) = host ∧ s.fld (F.FAB_LAT_STATE j) = 2 then
      1 else s.fld (F.FAB_LAT_STATE j)) ∧ s.Only ([if host then R.FAB_FL_TGT_HTX else R.FAB_FL_TGT_LTX, R.FAB_STATUS, R.FAB_EVENT] ++ (List.range 24).map R.FAB_LAT) t) ∧
  (∀ (m : Master) (host : Bool) (v : Word) (s : State), s.Reached m (if host then R.FAB_FL_TGT_HTX else R.FAB_FL_TGT_LTX) → s.targetMode.2.2 = true → Completes
      (.flTargetWrite m host v) s fun t => s.Answered m 0 t ∧ t.fld (if host then F.FAB_FL_TGT_HTX_UI else F.FAB_FL_TGT_LTX_UI) = v.toNat % 131072 ∧ (if host then
      t.fab.tgtHtx else t.fab.tgtLtx) = (clampTarget s.targetMode.1 (if host then hostBaud s.targetMode.2.1 else lineBaud s.targetMode.1 s.targetMode.2.1) (v.toNat %
      131072)).1 ∧ (if host then t.fab.tgtLtx = s.fab.tgtLtx else t.fab.tgtHtx = s.fab.tgtHtx) ∧ t.is (if host then F.FAB_STATUS_TGT_CLAMPED_HTX else
      F.FAB_STATUS_TGT_CLAMPED_LTX) = (clampTarget s.targetMode.1 (if host then hostBaud s.targetMode.2.1 else lineBaud s.targetMode.1 s.targetMode.2.1) (v.toNat %
      131072)).2 ∧ t.is F.FAB_EVENT_TGT_CLAMP = (s.is F.FAB_EVENT_TGT_CLAMP || t.is (if host then F.FAB_STATUS_TGT_CLAMPED_HTX else F.FAB_STATUS_TGT_CLAMPED_LTX)) ∧ (∀ j :
      Fin 24, t.fld (F.FAB_LAT_STATE j) = if decide (8 ≤ j.val) = host ∧ s.fld (F.FAB_LAT_STATE j) = 2 then 1 else s.fld (F.FAB_LAT_STATE j)) ∧ s.Only ([if host then
      R.FAB_FL_TGT_HTX else R.FAB_FL_TGT_LTX, R.FAB_STATUS, R.FAB_EVENT] ++ (List.range 24).map R.FAB_LAT) t) ∧
  (∀ (j : Fin 24) (lat : BitVec 24) (s : State), s.fld (F.FAB_LAT_STATE j) = 1 → lat.toNat ≤ s.lockTarget j + 8 → s.lockTarget j ≤ lat.toNat + 8 → Completes
      (.slewComplete j lat) s fun t => t.fld (F.FAB_LAT_STATE j) = 2 ∧ t.fld (F.FAB_LAT_LATENCY j) = lat.toNat ∧ t.is (F.FAB_LAT_VALID j) = true ∧ s.Only [R.FAB_LAT j] t) ∧
  (∀ (j : Fin 24) (lat : BitVec 24) (s : State), s.fld (F.FAB_LAT_STATE j) ≠ 1 ∨ s.lockTarget j + 8 < lat.toNat ∨ lat.toNat + 8 < s.lockTarget j → Completes
      (.slewComplete j lat) s fun t => s.Only [] t) ∧
  (∀ (j : Fin 24) (lat : BitVec 24) (s : State), s.fld (F.FAB_LAT_STATE j) = 2 → s.lockTarget j + 8 < lat.toNat ∨ lat.toNat + 8 < s.lockTarget j → Completes (.lockLost
      j lat) s fun t => t.fld (F.FAB_LAT_STATE j) = 1 ∧ t.fld (F.FAB_LAT_LATENCY j) = lat.toNat ∧ t.is F.FAB_EVENT_LOCK_LOST = true ∧ s.Only [R.FAB_LAT j, R.FAB_EVENT] t) ∧
  (∀ (j : Fin 24) (lat : BitVec 24) (s : State), s.fld (F.FAB_LAT_STATE j) ≠ 2 ∨ lat.toNat ≤ s.lockTarget j + 8 ∧ s.lockTarget j ≤ lat.toNat + 8 → Completes (.lockLost
      j lat) s fun t => s.Only [] t) ∧
  (∀ (n : Fin 48) (s : State), n.val < 8 ∨ 16 ≤ n.val ∧ n.val < 32 → (s.crossing n).1 = 2 → Completes (.crossingAck n) s fun t => t.crossing n = (0, (s.crossing n).2) ∧
      t.pound n = [] ∧ t.fld (F.FAB_XDROP_COUNT n) = min (s.fld (F.FAB_XDROP_COUNT n) + (s.pound n).length) 65535 ∧ s.Only [R.FAB_XDROP n, R.FAB_EVENT] t) ∧
  (∀ (n : Fin 48) (s : State), 8 ≤ n.val ∧ n.val < 16 ∨ 32 ≤ n.val → (s.crossing n).1 = 2 → Completes (.crossingAck n) s fun t => t.crossing n = (0, (s.crossing n).2) ∧
      t.store (outOf n) = [] ∧ t.fld (F.FAB_XDROP_COUNT n) = min (s.fld (F.FAB_XDROP_COUNT n) + (s.store (outOf n)).length) 65535 ∧ s.Only [R.FAB_XDROP n, R.FAB_EVENT] t) ∧
  (∀ (n : Fin 48) (s : State), (s.crossing n).1 ≠ 2 → Completes (.crossingAck n) s fun t => s.Only [] t)

/-- While traffic runs, a barge time of a line receive lane whose symbols are decided in Transparent, at a barge boundary of its receiver, puts one valid barge with the arrival
stamp of its first symbol at the end of the lane's pound, or at a pound of 16 discards it, counted in XDROP with its event; a running lane that assembles none gives fill with
SRC_ERR. A host receive lane that carries its slot decides each symbol with its FFE, DFE and slicer and puts the slot's bits, polarity undone, at the end of its own pound, or
discards them at 16; one that does not puts fill there. An output whose store begins with a valid barge sends it and reports its latency, with SB_PARITY where the sideband's
parity has changed; one without a valid barge sends PRBS31 fill in its place and counts an underrun; a line transmit lane that sends frames or its wake pattern lets the barge
go. A line receiver decides a symbol eight symbols after it came, a host receiver three, and the stamp is counted back by as much: the model's choice (log entries 88 and 96).
What a running lane's fill is paced by is log entry 98; R59 and R60 of chapter 03 give the host lane's decisions, log entry 96 what they leave. (Rests on
02_self_timed_fabric.md, 03_host_lanes.md, 04_line_receive.md.) -/
def Obligations.BargesEnterAndLeave : Prop :=
  (∀ (n : Fin 8) (codes : List (BitVec 8)) (sym : BitVec 17) (frac : BitVec 4) (s : State), s.acting = true → codes.length = s.bargeSyms → codes.length = 256 ∨
      codes.length = 128 → s.oos n = false → s.laneOn n = true → s.nearEnd = false → s.running n = true → s.crossOpen n = true → s.coded = false → s.lineMode = 2 → s.is
      (F.LRX_STATUS_DATA n) = true → s.fld (F.LRX_STATUS_ACQ_STATE n) ≠ 7 → (s.lane n).rx.q = [] → (s.lane n).rx.ys = [] → (s.lane n).rx.skip = 0 → (s.pound n).length < 16
      → Completes (.inputBargeComplete (.line n codes) () sym frac) s fun t => (∃ d : BitVec 512, t.pound n = s.pound n ++ [⟨d, sideband (sym.toNat * 16 + frac.toNat +
      2097152 - 128) true s.lineRate false false false false, []⟩]) ∧ (t.pound n).length = (s.pound n).length + 1 ∧ (t.lane n).rx.q = [] ∧ s.Only [] t) ∧
  (∀ (n : Fin 8) (codes : List (BitVec 8)) (sym : BitVec 17) (frac : BitVec 4) (s : State), s.acting = true → codes.length = s.bargeSyms → codes.length = 256 ∨
      codes.length = 128 → s.oos n = false → s.laneOn n = true → s.nearEnd = false → s.running n = true → s.crossOpen n = true → s.coded = false → s.lineMode = 2 → s.is
      (F.LRX_STATUS_DATA n) = true → s.fld (F.LRX_STATUS_ACQ_STATE n) ≠ 7 → (s.lane n).rx.q = [] → (s.lane n).rx.ys = [] → (s.lane n).rx.skip = 0 → 16 ≤ (s.pound n).length
      → Completes (.inputBargeComplete (.line n codes) () sym frac) s fun t => t.pound n = s.pound n ∧ t.fld (F.FAB_XDROP_COUNT n) = min (s.fld (F.FAB_XDROP_COUNT n) + 1)
      65535 ∧ t.is F.FAB_EVENT_XDROP = true ∧ s.Only [R.FAB_XDROP n, R.FAB_EVENT] t) ∧
  (∀ (n : Fin 8) (codes : List (BitVec 8)) (sym : BitVec 17) (frac : BitVec 4) (s : State), s.acting = true → codes.length = s.bargeSyms → codes.length = 256 ∨
      codes.length = 128 → s.oos n = false → s.laneOn n = true → s.nearEnd = false → s.running n = true → s.crossOpen n = true → s.gathers n = false → (s.pound n).length <
      16 → (s.lane n).rx.q = [] → Completes (.inputBargeComplete (.line n codes) () sym frac) s fun t => t.pound n = s.pound n ++ [⟨BitVec.ofNat 512 (ofBits (fillRun n
      (s.lane n).fill (2 * s.bargeSyms)).1), sideband (sym.toNat * 16 + frac.toNat) true s.lineRate true false false false, []⟩] ∧ s.Only [] t) ∧
  (∀ (k : Fin 16) (codes : List (BitVec 6)) (sym : BitVec 17) (frac : BitVec 4) (s : State), s.acting = true → 2 * codes.length = s.bargeSyms → codes.length = 128 ∨
      codes.length = 64 → s.slotCarries (16 + k) = true → (s.pound (16 + k)).length < 16 → Completes (.inputBargeComplete (.host k codes) () sym frac) s fun t => t.pound
      (16 + k) = s.pound (16 + k) ++ [⟨BitVec.ofNat 512 (spread (s.slot (16 + k) % 2 == 1) (slotBits ((t.lane (16 + k)).rx.q.map (·.g)))), sideband (sym.toNat * 16 +
      frac.toNat + 2097152 - 48) true s.lineRate false false false false, []⟩] ∧ (t.lane (16 + k)).rx.q.length = codes.length ∧ (t.lane (16 + k)).rx.q.head?.map (·.g) =
      codes.head?.map (fun c => invert (s.lane (16 + k)).inv (sliceOne (s.hostCoefs (16 + k)) (s.lane (16 + k)).rx.last (1024 * dot (s.hostCoefs (16 + k)).ffe ((c.toInt ::
      (s.lane (16 + k)).rx.xs).take 12)) 3).soft.g) ∧ s.Only [] t) ∧
  (∀ (k : Fin 16) (codes : List (BitVec 6)) (sym : BitVec 17) (frac : BitVec 4) (s : State), s.acting = true → 2 * codes.length = s.bargeSyms → codes.length = 128 ∨
      codes.length = 64 → s.slotCarries (16 + k) = true → 16 ≤ (s.pound (16 + k)).length → Completes (.inputBargeComplete (.host k codes) () sym frac) s fun t => t.pound
      (16 + k) = s.pound (16 + k) ∧ t.fld (F.FAB_XDROP_COUNT (16 + k)) = min (s.fld (F.FAB_XDROP_COUNT (16 + k)) + 1) 65535 ∧ t.is F.FAB_EVENT_XDROP = true ∧ s.Only
      [R.FAB_XDROP (16 + k), R.FAB_EVENT] t) ∧
  (∀ (k : Fin 16) (codes : List (BitVec 6)) (sym : BitVec 17) (frac : BitVec 4) (s : State), s.acting = true → 2 * codes.length = s.bargeSyms → codes.length = 128 ∨
      codes.length = 64 → s.slotCarries (16 + k) = false → s.crossOpen (16 + k) = true → s.hostOf 16 (s.slot (16 + k)) = 16 + k → (s.pound (16 + k)).length < 16 →
      Completes (.inputBargeComplete (.host k codes) () sym frac) s fun t => t.pound (16 + k) = s.pound (16 + k) ++ [⟨BitVec.ofNat 512 (spread (s.slot (16 + k) % 2 == 1)
      (fillRun (16 + k) (s.lane (16 + k)).fill s.bargeSyms).1), sideband (sym.toNat * 16 + frac.toNat) true s.lineRate true false false false, []⟩] ∧ s.Only [] t) ∧
  (∀ (j : Fin 24) (upset : BitVec 32) (lat : BitVec 24) (b : Barge) (rest : List Barge) (s : State), s.acting = true → s.running (laneOfOut j) = true → s.laneOn
      (laneOfOut j) = true → (j.val < 8 → (s.lane (8 + j)).src = 0) → s.store j = b :: rest → bitAt b.side.toNat 21 = true → Completes (.bargeRelease j upset lat) s fun t
      => t.store j = rest ∧ .barge j (BitVec.ofNat 32 (if j.val < 8 ∧ s.startsGroup (8 + j) = true then withGroup (b.side ^^^ upset).toNat else (b.side ^^^ upset).toNat))
      ∈ t.out ∧ t.fld (F.FAB_LAT_LATENCY j) = lat.toNat ∧ t.is (F.FAB_LAT_VALID j) = true ∧ (sideParity (b.side ^^^ upset).toNat ≠ (b.side ^^^ upset).toNat / 2 ^ 31 → t.is
      F.FAB_EVENT_SB_PARITY = true) ∧ t.fld (F.FAB_LAT_STATE j) = (if s.fld (F.FAB_LAT_STATE j) = 1 ∨ s.fld (F.FAB_LAT_STATE j) = 2 then (if lat.toNat ≤ s.lockTarget j + 8
      ∧ s.lockTarget j ≤ lat.toNat + 8 then 2 else 1) else s.fld (F.FAB_LAT_STATE j)) ∧ s.Only [R.FAB_LAT j, R.FAB_XDROP j, R.FAB_EVENT] t) ∧
  (∀ (j : Fin 24) (upset : BitVec 32) (lat : BitVec 24) (s : State), s.running (laneOfOut j) = true → s.laneOn (laneOfOut j) = true → (j.val < 8 → (s.lane (8 + j)).src
      = 0) → s.acting = false ∨ ((s.store j).all fun b => !bitAt b.side.toNat 21) = true → Completes (.bargeRelease j upset lat) s fun t => .fill j (BitVec.ofNat 512
      (s.outFill j).2) ∈ t.out ∧ t.fld (F.FAB_UNDERRUN_COUNT j) = min (s.fld (F.FAB_UNDERRUN_COUNT j) + 1) 65535 ∧ t.is F.FAB_EVENT_UNDERRUN = true ∧ t.rd (R.FAB_LAT j) =
      s.rd (R.FAB_LAT j) ∧ s.Only [R.FAB_UNDERRUN j, R.FAB_XDROP j, R.FAB_EVENT] t) ∧
  (∀ (j : Fin 24) (upset : BitVec 32) (lat : BitVec 24) (s : State), j.val < 8 → s.running (laneOfOut j) = true → s.laneOn (laneOfOut j) = true → (s.lane (8 + j)).src ≠
      0 → Completes (.bargeRelease j upset lat) s fun t => t.store j = (s.store j).drop 1 ∧ s.Only [R.FAB_XDROP j, R.FAB_EVENT] t)

/-- While the sequencer runs or waits, the write is refused with an error response and EVENT.COMMIT_REFUSED, and every other register, so every bank word and the active bank,
stays; while it is stopped and the shadow bank passes its content check, the banks swap: the words that were the shadow bank's are the active ones, and with AUTOCOPY on a line
lane they are both banks'; a shadow bank that fails the check (R106, R468) is refused in the same way. (Formalises R62, R88, R108.) -/
def Obligations.BankCommitNeedsAStoppedSequencer : Prop :=
  (∀ (m : Master) (n : Fin 48) (s : State), s.Reached m (R.LRX_BANK n) → s.seqStopped n = false → Completes (.bankCommit m n) s fun t => s.Answered m 1 t ∧ t.is
      (commitRefusedFld n) = true ∧ s.Only [(commitRefusedFld n).addr] t) ∧
  (∀ (m : Master) (n : Fin 48) (s : State), s.Reached m (R.LRX_BANK n) → s.seqStopped n = true → s.shadowOk n = true → Completes (.bankCommit m n) s fun t => t.out =
      .response m 0 0 :: ((if n.val < 8 ∨ 16 ≤ n.val ∧ n.val < 32 then [.peaking n (t.peaking n)] else []) ++ s.out) ∧ t.bankB n = !s.bankB n ∧ (∀ w : Fin 64, t.activeWord
      n w = s.shadowWord n w) ∧ (n.val < 16 → s.is (F.LRX_BANK_AUTOCOPY n) = true → ∀ w : Fin 64, t.shadowWord n w = t.activeWord n w) ∧ s.OnlyLanes [n.val] t) ∧
  (∀ (m : Master) (n : Fin 48) (s : State), s.Reached m (R.LRX_BANK n) → s.seqStopped n = true → s.shadowOk n = false → Completes (.bankCommit m n) s fun t =>
      s.Answered m 1 t ∧ t.is (commitRefusedFld n) = true ∧ s.Only [(commitRefusedFld n).addr] t)

/-- HRX in ACQ with lock and its program's ready post comes UP; UP below 40 mVppd, or unlocked, is LOS with LOS_ENTER, and above 120 mVppd with lock nothing changes; LOS above 120
mVppd with lock returns to ACQ with LOS_EXIT and waits for a new ready post, and below 40 mVppd it stays; from 40 to 120 mVppd the spec leaves the detector open, and a free
value decides. Clock recovery's lock and unlock stand in STATUS of a host lane; a line lane's are judged: eight windows each within 20 ppm of their mean and below 300 ppm
declare lock, with the last in FREQ_OFS, and take a lane in CDR to ADAPT; 300 ppm or a step of more than 50 ppm is unlock, with CDR_UNLOCK; other windows change nothing. HTX
squelch follows CTL.SQUELCH, out-of-service bits and the lane's start. The line lane's lock is R83 and R95 of chapter 04; what values its windows carry, and that a host lane's
lock is taken as reported, is log entry 100. (Rests on 03_host_lanes.md, 04_line_receive.md.) -/
def Obligations.HostLaneStatesFollowTheirSignal : Prop :=
  (∀ (k : Fin 16) (s : State), s.fld (F.HRX_STATUS_STATE (16 + k)) = 1 → s.is (F.HRX_STATUS_CDR_LOCK (16 + k)) = true → (s.lane (16 + k)).ready = true → s.oos (16 + k)
      = false → Completes (.hrxLaneUp k) s fun t => t.fld (F.HRX_STATUS_STATE (16 + k)) = 2 ∧ t.trans.waitFor = s.trans.waitFor.filter (fun n => n != 16 + k.val) ∧
      s.OnlyLanes [16 + k.val, 8 + s.lineOf (16 + k)] t) ∧
  (∀ (k : Fin 16) (mv : Nat) (unlocked : Bool) (s : State), s.fld (F.HRX_STATUS_STATE (16 + k)) = 2 → mv < 40 ∨ unlocked = true ∨ s.is (F.HRX_STATUS_CDR_LOCK (16 + k))
      = false → Completes (.hrxLos k mv unlocked) s fun t => t.fld (F.HRX_STATUS_STATE (16 + k)) = 3 ∧ t.is (F.HRX_EVENT_LOS_ENTER (16 + k)) = true ∧ s.OnlyDev recalRegs
      t) ∧
  (∀ (k : Fin 16) (mv : Nat) (s : State), s.fld (F.HRX_STATUS_STATE (16 + k)) = 2 → s.is (F.HRX_STATUS_CDR_LOCK (16 + k)) = true → 120 < mv → Completes (.hrxLos k mv
      false) s fun t => s.Only [] t) ∧
  (∀ (k : Fin 16) (mv : Nat) (s : State), s.fld (F.HRX_STATUS_STATE (16 + k)) = 3 → s.is (F.HRX_STATUS_CDR_LOCK (16 + k)) = true → 120 < mv → Completes (.hrxLosExit k
      mv) s fun t => t.fld (F.HRX_STATUS_STATE (16 + k)) = 1 ∧ t.is (F.HRX_EVENT_LOS_EXIT (16 + k)) = true ∧ (t.lane (16 + k)).ready = false ∧ s.OnlyDev recalRegs t) ∧
  (∀ (k : Fin 16) (mv : Nat) (s : State), s.fld (F.HRX_STATUS_STATE (16 + k)) = 2 → s.is (F.HRX_STATUS_CDR_LOCK (16 + k)) = true → 40 ≤ mv → mv ≤ 120 → Completes
      (.hrxLos k mv false) s fun t => t.fld (F.HRX_STATUS_STATE (16 + k)) = (if Config.openBand s.free then 3 else 2) ∧ t.free = s.free + 1 ∧ s.OnlyDev recalRegs t) ∧
  (∀ (k : Fin 16) (mv : Nat) (s : State), s.fld (F.HRX_STATUS_STATE (16 + k)) = 3 → mv < 40 ∨ s.is (F.HRX_STATUS_CDR_LOCK (16 + k)) = false → Completes (.hrxLosExit k
      mv) s fun t => s.Only [] t) ∧
  (∀ (r : Fin 24) (ofs : List Int) (s : State), 8 ≤ r.val → s.fld (F.HRX_STATUS_STATE (rxLane r)) ≠ 0 → s.is (F.HRX_STATUS_CDR_LOCK (rxLane r)) = false → Completes
      (.cdrLock r ofs) s fun t => t.is (F.HRX_STATUS_CDR_LOCK (rxLane r)) = true ∧ t.fld (F.HRX_STATUS_STATE (rxLane r)) = s.fld (F.HRX_STATUS_STATE (rxLane r)) ∧ s.Only
      [R.HRX_STATUS (rxLane r), R.HRX_SEQ_EVT (rxLane r)] t) ∧
  (∀ (r : Fin 24) (ofs : List Int) (s : State), r.val < 8 → ofs.length = 8 → s.lrxRecovers r = true → s.is (F.LRX_STATUS_CDR_LOCK r) = false → (∀ v ∈ ofs, (8 * v -
      ofs.sum).natAbs ≤ 8 * 200 ∧ v.natAbs < 3000) → Completes (.cdrLock r ofs) s fun t => t.is (F.LRX_STATUS_CDR_LOCK r) = true ∧ t.fld (F.LRX_CDR_STAT_FREQ_OFS r) =
      codeOf 16 (ofs.getLastD 0) ∧ t.fld (F.LRX_STATUS_ACQ_STATE r) = (if s.fld (F.LRX_STATUS_ACQ_STATE r) = 2 then 3 else s.fld (F.LRX_STATUS_ACQ_STATE r)) ∧ s.OnlyDev
      recalRegs t) ∧
  (∀ (r : Fin 24) (ofs : List Int) (s : State), r.val < 8 → ofs.length = 8 → (∃ v ∈ ofs, 8 * 200 < (8 * v - ofs.sum).natAbs ∨ 3000 ≤ v.natAbs) → Completes (.cdrLock r
      ofs) s fun t => s.Only [] t) ∧
  (∀ (r : Fin 24) (ofs : Int × Int) (s : State), 8 ≤ r.val → s.is (F.HRX_STATUS_CDR_LOCK (rxLane r)) = true → Completes (.cdrUnlock r ofs) s fun t => t.is
      (F.HRX_STATUS_CDR_LOCK (rxLane r)) = false ∧ t.is (F.HRX_EVENT_CDR_UNLOCK (rxLane r)) = true ∧ s.OnlyLanes [rxLane r] t) ∧
  (∀ (r : Fin 24) (ofs : Int × Int) (s : State), r.val < 8 → s.lrxRecovers r = true → s.is (F.LRX_STATUS_CDR_LOCK r) = true → 3000 ≤ ofs.2.natAbs ∨ 500 < (ofs.2 -
      ofs.1).natAbs → Completes (.cdrUnlock r ofs) s fun t => t.is (F.LRX_STATUS_CDR_LOCK r) = false ∧ t.is (F.LRX_EVENT_CDR_UNLOCK r) = true ∧ t.fld
      (F.LRX_CDR_STAT_FREQ_OFS r) = codeOf 16 ofs.2 ∧ s.OnlyLanes [r.val] t) ∧
  (∀ (r : Fin 24) (ofs : Int × Int) (s : State), r.val < 8 → ofs.2.natAbs < 3000 → (ofs.2 - ofs.1).natAbs ≤ 500 → Completes (.cdrUnlock r ofs) s fun t => s.Only [] t) ∧
  (∀ (m : Master) (k : Fin 16) (on : Bool) (s : State), s.Reached m (R.HTX_CTL (32 + k)) → Completes (.htxSquelch m k on) s fun t => s.Answered m 0 t ∧ t.is
      (F.HTX_CTL_SQUELCH (32 + k)) = on ∧ t.is (F.HTX_STATUS_SQUELCHED (32 + k)) = (on || s.oos (32 + k) || s.oos (s.lineOf (32 + k)) || !(s.lane (32 + k)).started) ∧
      s.Only [R.HTX_CTL (32 + k), R.HTX_STATUS (32 + k), R.HTX_SEQ_EVT (32 + k)] t)

/-- INJECT is accepted and acts only while the generator sends; a synchronised checker counts the bits in which the levels received differ from its pattern, saturating, with the
event, one without synchronisation seeks it and counts nothing, and one that does not compare changes nothing (how synchronisation is found and lost is log entry 120); START
arms a window of the length written, with the histogram source of a line lane; the end of a window whose 2^LOG2N symbols are counted copies its correlators, of a line lane
scaled to 2^10 symbols and rounded towards minus infinity, its histogram and a line lane's mean squared error, and sets DONE; before that nothing changes. A word written to
the shadow bank is accepted and keeps the bits its register has, and one written to the active bank is refused and changes nothing. When the settings are taken is log entries
27 and 116. (Rests on 03_host_lanes.md, 04_line_receive.md, 05_line_transmit.md.) -/
def Obligations.PatternsCorrelatorsAndBankWords : Prop :=
  (∀ (m : Master) (t' : Fin 24) (s : State), s.Reached m (if t'.val < 8 then R.LTX_PAT (laneOfOut t') else R.HTX_PAT (laneOfOut t')) → Completes (.patternInject m t') s
      fun t => s.Answered m 0 t ∧ (t.lane (laneOfOut t')).inject = ((s.lane (laneOfOut t')).inject || s.patternSends (laneOfOut t')) ∧ s.Only [] t) ∧
  (∀ (r : Fin 24) (s : State), s.checked (rxLane r) ≠ 0 → (s.lane (rxLane r)).chkPat = s.checked (rxLane r) → (s.lane (rxLane r)).chk ≠ 0 → r.val < 8 → Completes
      (.patternChecker r () ()) s fun t => t.fld (F.LRX_PAT_ERR_COUNT (rxLane r)) = min (s.fld (F.LRX_PAT_ERR_COUNT (rxLane r)) + bitErrors (s.lane (rxLane r)).chkLog
      (patternRun (rxLane r) (s.checked (rxLane r)) (s.lane (rxLane r)).chk (s.lane (rxLane r)).chkLog.length).1) 0xFFFFFFFF ∧ (0 < bitErrors (s.lane (rxLane r)).chkLog
      (patternRun (rxLane r) (s.checked (rxLane r)) (s.lane (rxLane r)).chk (s.lane (rxLane r)).chkLog.length).1 → t.is (F.LRX_EVENT_PAT_ERR (rxLane r)) = true) ∧ (t.lane
      (rxLane r)).chkLog = [] ∧ s.OnlyLanes [rxLane r] t) ∧
  (∀ (r : Fin 24) (s : State), s.checked (rxLane r) ≠ 0 → (s.lane (rxLane r)).chkPat ≠ s.checked (rxLane r) ∨ (s.lane (rxLane r)).chk = 0 → r.val < 8 → Completes
      (.patternChecker r () ()) s fun t => t.is (F.LRX_PAT_SYNCED (rxLane r)) = (Config.checkerFinds (s.checked (rxLane r)) (if (s.lane (rxLane r)).chkPat = s.checked
      (rxLane r) then (s.lane (rxLane r)).chkLog else []) != 0) ∧ (t.lane (rxLane r)).chkPat = s.checked (rxLane r) ∧ (t.lane (rxLane r)).chkLog = [] ∧ s.Only [R.LRX_PAT
      (rxLane r)] t) ∧
  (∀ (r : Fin 24) (s : State), s.checked (rxLane r) = 0 → Completes (.patternChecker r () ()) s fun t => s.Only [] t ∧ t.lanes = s.lanes) ∧
  (∀ (r : Fin 24) (s : State), s.checked (rxLane r) ≠ 0 → (s.lane (rxLane r)).chkPat = s.checked (rxLane r) → (s.lane (rxLane r)).chk ≠ 0 → 8 ≤ r.val → Completes
      (.patternChecker r () ()) s fun t => t.fld (F.HRX_PAT_ERR_COUNT (rxLane r)) = min (s.fld (F.HRX_PAT_ERR_COUNT (rxLane r)) + bitErrors (s.lane (rxLane r)).chkLog
      (patternRun (rxLane r) (s.checked (rxLane r)) (s.lane (rxLane r)).chk (s.lane (rxLane r)).chkLog.length).1) 0xFFFFFFFF ∧ (0 < bitErrors (s.lane (rxLane r)).chkLog
      (patternRun (rxLane r) (s.checked (rxLane r)) (s.lane (rxLane r)).chk (s.lane (rxLane r)).chkLog.length).1 → t.is (F.HRX_EVENT_PAT_ERR (rxLane r)) = true) ∧ (t.lane
      (rxLane r)).chkLog = [] ∧ s.OnlyLanes [rxLane r] t) ∧
  (∀ (r : Fin 24) (s : State), s.checked (rxLane r) ≠ 0 → (s.lane (rxLane r)).chkPat ≠ s.checked (rxLane r) ∨ (s.lane (rxLane r)).chk = 0 → 8 ≤ r.val → Completes
      (.patternChecker r () ()) s fun t => t.is (F.HRX_PAT_SYNCED (rxLane r)) = (Config.checkerFinds (s.checked (rxLane r)) (if (s.lane (rxLane r)).chkPat = s.checked
      (rxLane r) then (s.lane (rxLane r)).chkLog else []) != 0) ∧ (t.lane (rxLane r)).chkPat = s.checked (rxLane r) ∧ (t.lane (rxLane r)).chkLog = [] ∧ s.Only [R.HRX_PAT
      (rxLane r)] t) ∧
  (∀ (m : Master) (r : Fin 24) (v : Word) (s : State), s.Reached m (corrCtl (rxLane r)) → Completes (.correlatorStart m r v) s fun t => s.Answered m 0 t ∧ (t.lane
      (rxLane r)).corrGo = true ∧ t.fld ⟨corrCtl (rxLane r), 0, 5⟩ = v.toNat % 32 ∧ (r.val < 8 → t.is (F.LRX_CORR_CTL_HIST_SRC r) = bitAt v.toNat 7) ∧ s.Only [corrCtl
      (rxLane r)] t) ∧
  (∀ (r : Fin 24) (s : State), r.val < 8 → (s.lane r).corrRun = true → 2 ^ (s.lane r).corrLog ≤ (s.lane r).stat.n → Completes (.correlatorWindowEnd r () () ()) s fun t
      => (∀ i : Fin 66, t.rd (R.LRX_CORR r i) = BitVec.ofInt 32 ((s.lane r).stat.sums.getD i 0 / ((2 ^ ((s.lane r).corrLog + 7) : Nat) : Int))) ∧ (∀ i : Fin 256, t.rd
      (R.LRX_HIST r i) = BitVec.ofNat 32 (tabGet (fun _ => 0) (s.lane r).stat.bins i)) ∧ t.fld (F.LRX_ERRSQ_VALUE r) = (s.lane r).stat.sq / 2 ^ 34 / 2 ^ (s.lane r).corrLog
      % 2 ^ 32 ∧ t.is (F.LRX_CORR_CTL_DONE r) = true ∧ t.is (F.LRX_CORR_CTL_PAUSED r) = (s.lane r).corrHurt ∧ t.is (F.LRX_EVENT_CORR_DONE r) = true ∧ (t.lane r).corrRun =
      false ∧ s.OnlyLanes [r.val] t) ∧
  (∀ (r : Fin 24) (s : State), 8 ≤ r.val → (s.lane (rxLane r)).corrRun = true → 2 ^ (s.lane (rxLane r)).corrLog ≤ (s.lane (rxLane r)).stat.n → Completes
      (.correlatorWindowEnd r () () ()) s fun t => (∀ i : Fin 13, t.rd (R.HRX_CORR (rxLane r) i) = BitVec.ofInt 32 ((s.lane (rxLane r)).stat.sums.getD i 0 / 131072)) ∧ (∀
      i : Fin 64, t.rd (R.HRX_HIST (rxLane r) i) = BitVec.ofNat 32 (tabGet (fun _ => 0) (s.lane (rxLane r)).stat.bins i)) ∧ t.is (F.HRX_CORR_CTL_DONE (rxLane r)) = true ∧
      (t.lane (rxLane r)).corrRun = false ∧ s.OnlyLanes [rxLane r] t) ∧
  (∀ (r : Fin 24) (s : State), (s.lane (rxLane r)).corrRun = false ∨ (s.lane (rxLane r)).stat.n < 2 ^ (s.lane (rxLane r)).corrLog → Completes (.correlatorWindowEnd r ()
      () ()) s fun t => s.Only [] t) ∧
  (∀ (m : Master) (n : Fin 48) (b : Bool) (w : Fin 64) (v : Word) (s : State), s.Reached m (bankAddr n b w) → s.bankB n ≠ b → Completes (.bankWrite m n b w v) s fun t
      => s.Answered m 0 t ∧ t.rd (bankAddr n b w) = BitVec.ofNat 32 (v.toNat &&& bankMask n w) ∧ s.Only [bankAddr n b w] t) ∧
  (∀ (m : Master) (n : Fin 48) (b : Bool) (w : Fin 64) (v : Word) (s : State), s.Reached m (bankAddr n b w) → s.bankB n = b → Completes (.bankWrite m n b w v) s fun t
      => s.Answered m 1 t ∧ s.Only [] t)

/-- On a lane whose pair is whole and outside the near-end loopback, presence takes DARK and LOS to CDR, with LOS_EXIT from LOS; the amplitude detector asserts and deasserts at
its two levels, holds between them, and ends presence; PROG_READY takes ADAPT to SEEK and is remembered in other states; a qualified marker alignment with frames expected
takes SEEK to WINDOW and QUALIFIED without frames to LOCKED; a peak of twice the recorded strength off the alignment is a capture, logged with its ratio, and returns to CDR
with the active bank as it was at SEEK's entry, and a smaller one only raises PEAK_OTHER; a missing peak seeks again and the window's end is LOCKED; loss of signal by a
condition of R97 that holds is LOS with LOS_ENTER, presence and lock gone. (Rests on 04_line_receive.md.) -/
def Obligations.LineReceiveAcquires : Prop :=
  (∀ (n : Fin 8) (s : State), s.fld (F.LRX_STATUS_ACQ_STATE n) = 1 ∨ s.fld (F.LRX_STATUS_ACQ_STATE n) = 7 → s.witnessed n = true → s.nearEnd = false → s.halfPair n =
      false → Completes (.presenceQualified n) s fun t => t.fld (F.LRX_STATUS_ACQ_STATE n) = 2 ∧ t.is (F.LRX_STATUS_PRESENT n) = true ∧ t.fld (F.LRX_STATUS_CAPTURES n) = 0
      ∧ (t.lane n).frames = !s.is (F.LRX_TRN_STAT_RX_DATA n) ∧ (s.fld (F.LRX_STATUS_ACQ_STATE n) = 7 → t.is (F.LRX_EVENT_LOS_EXIT n) = true) ∧ s.OnlyDev recalRegs t) ∧
  (∀ (n : Fin 8) (mv : Nat) (s : State), s.running n = true → Completes (.amplitudeDetectorChange n mv) s fun t => t.is (F.LRX_STATUS_AMP_DET n) = (if (adetLevels
      (s.fld (F.LRX_ACQ_CFG_ADET_LVL n))).1 ≤ mv then true else if mv ≤ (adetLevels (s.fld (F.LRX_ACQ_CFG_ADET_LVL n))).2 then false else s.is (F.LRX_STATUS_AMP_DET n)) ∧
      t.fld (F.LRX_STATUS_ACQ_STATE n) = s.fld (F.LRX_STATUS_ACQ_STATE n) ∧ (t.is (F.LRX_STATUS_AMP_DET n) = false → t.is (F.LRX_STATUS_PRESENT n) = false) ∧ s.Only
      [R.LRX_STATUS n] t) ∧
  (∀ (m : Master) (n : Fin 8) (s : State), s.Reached m (R.LRX_ACQ_CMD n) → Completes (.progReady m n) s fun t => s.Answered m 0 t ∧ (s.fld (F.LRX_STATUS_ACQ_STATE n) =
      3 → t.fld (F.LRX_STATUS_ACQ_STATE n) = 4) ∧ (s.fld (F.LRX_STATUS_ACQ_STATE n) ≠ 3 → t.is (F.LRX_ACQ_CMD_PROG_READY n) = true ∧ s.Only [R.LRX_ACQ_CMD n] t) ∧
      s.OnlyDev recalRegs t) ∧
  (∀ (n : Fin 8) (pos1 pos2 p1 p2 : Nat) (s : State), s.fld (F.LRX_STATUS_ACQ_STATE n) = 4 → (s.lane n).frames = true → pos2 = pos1 + 4096 → s.fld
      (F.LRX_ACQ_CFG_MKR_THR n) ≤ p1 → s.fld (F.LRX_ACQ_CFG_MKR_THR n) ≤ p2 → Completes (.markerAlignmentQualified n pos1 pos2 p1 p2) s fun t => t.fld
      (F.LRX_STATUS_ACQ_STATE n) = 5 ∧ t.fld (F.LRX_MKR_PEAK_ALIGNED n) = p2 % 65536 ∧ t.fld (F.LRX_MKR_PEAK_OTHER n) = 0 ∧ (t.lane n).align = pos2 % 4096 ∧ s.OnlyDev
      recalRegs t) ∧
  (∀ (m : Master) (n : Fin 8) (s : State), s.Reached m (R.LRX_ACQ_CMD n) → Completes (.acqQualified m n) s fun t => s.Answered m 0 t ∧ (s.fld (F.LRX_STATUS_ACQ_STATE n)
      = 4 → (s.lane n).frames = false → t.fld (F.LRX_STATUS_ACQ_STATE n) = 6) ∧ (s.fld (F.LRX_STATUS_ACQ_STATE n) ≠ 4 ∨ (s.lane n).frames = true → t.is
      (F.LRX_ACQ_CMD_QUALIFIED n) = true ∧ s.Only [R.LRX_ACQ_CMD n] t) ∧ s.OnlyDev recalRegs t) ∧
  (∀ (n : Fin 8) (pos p : Nat) (s : State), s.fld (F.LRX_STATUS_ACQ_STATE n) = 5 → 2 < alignOff (s.lane n).align pos → 2 * s.fld (F.LRX_MKR_PEAK_ALIGNED n) ≤ p → s.fld
      (F.LRX_STATUS_CAPTURES n) < 3 → (s.lane n).seekBank.length = 64 → Completes (.capture n pos p) s fun t => t.fld (F.LRX_STATUS_ACQ_STATE n) = 2 ∧ t.fld
      (F.LRX_STATUS_CAPTURES n) = s.fld (F.LRX_STATUS_CAPTURES n) + 1 ∧ t.is (F.LRX_EVENT_CAPTURE n) = true ∧ t.fld (F.LRX_CAPLOG_COUNT n) = min (s.fld (F.LRX_CAPLOG_COUNT
      n) + 1) 65535 ∧ (s.fld (F.LRX_MKR_PEAK_ALIGNED n) ≠ 0 → t.fld (F.LRX_CAPLOG_RATIO n) = min (16 * p / s.fld (F.LRX_MKR_PEAK_ALIGNED n)) 255) ∧ (∀ w : Fin 64, t.rd
      (bankAddr n (s.bankB n) w) = (s.lane n).seekBank.getD w 0#32) ∧ s.OnlyDev recalRegs t) ∧
  (∀ (n : Fin 8) (pos p : Nat) (s : State), s.fld (F.LRX_STATUS_ACQ_STATE n) = 5 → 2 < alignOff (s.lane n).align pos → p < 2 * s.fld (F.LRX_MKR_PEAK_ALIGNED n) → p <
      65536 → Completes (.capture n pos p) s fun t => t.fld (F.LRX_MKR_PEAK_OTHER n) = max (s.fld (F.LRX_MKR_PEAK_OTHER n)) p ∧ s.Only [R.LRX_MKR n] t) ∧
  (∀ (n : Fin 8) (s : State), s.fld (F.LRX_STATUS_ACQ_STATE n) = 5 → Completes (.markerPeakMissing n) s fun t => t.fld (F.LRX_STATUS_ACQ_STATE n) = 4 ∧ (t.lane
      n).seekBank = (List.range 64).map (s.activeWord n) ∧ s.OnlyDev recalRegs t) ∧
  (∀ (n : Fin 8) (s : State), s.fld (F.LRX_STATUS_ACQ_STATE n) = 5 → Completes (.captureWindowEnd n) s fun t => t.fld (F.LRX_STATUS_ACQ_STATE n) = 6 ∧ s.OnlyDev
      recalRegs t) ∧
  (∀ (n : Fin 8) (cause : Fin 3) (mv : Nat) (s : State), 2 ≤ s.fld (F.LRX_STATUS_ACQ_STATE n) → s.fld (F.LRX_STATUS_ACQ_STATE n) ≤ 6 → s.lostBy n cause = true → mv ≤
      120 ∨ s.is (F.LRX_STATUS_CDR_LOCK n) = false ∨ s.is (F.LRX_STATUS_PWR_WEIR n) = false → s.nearEnd = false → Completes (.lrxLos n cause mv) s fun t => t.fld
      (F.LRX_STATUS_ACQ_STATE n) = 7 ∧ t.is (F.LRX_EVENT_LOS_ENTER n) = true ∧ t.is (F.LRX_STATUS_PRESENT n) = false ∧ t.is (F.LRX_STATUS_CDR_LOCK n) = false ∧ s.OnlyDev
      recalRegs t)

/-- On a lane whose ladder runs no step and whose pair is whole, an acquisition, loss-of-signal or training timer that expires in its state, or a fourth capture, records the cause
and counts a fault in the lane's ladder, the first of its instant (log entry 107), and the ladder's entry level begins when the ladder acts and is not frozen; a later one of
the instant at no higher level changes nothing. In a level 2 or 3 step the acquisition timeouts of host and line receivers and the training timeout are the step failing: the
next level begins, 4 putting the lane out of service; with one half of the pair out of service a line receive lane returns to DARK without a fault. A ladder step that outlasts
its time starts the next level, and level 4 takes the lane out of service; one whose completion condition holds returns the ladder to idle with its level in LAST_OK. Which
causes are a step's own is log entry 74. (Rests on 03_host_lanes.md, 04_line_receive.md, 07_line_training.md, 16_faults_recovery.md.) -/
def Obligations.LaneTimeoutsAreFaults : Prop :=
  (∀ (k : Fin 16) (s : State), s.fld (F.HRX_STATUS_STATE (16 + k)) = 1 → s.is (F.HRX_STATUS_CDR_LOCK (16 + k)) = false → s.is (F.FAULT_LADDER_ACTIVE (16 + k)) = false →
      s.firstFault (16 + k) → Completes (.hrxAcqTimeout k) s fun t => t.fld (F.FAULT_LADDER_LAST_CAUSE (16 + k)) = 1 ∧ t.fld (F.FAULT_LADDER_FAULTS (16 + k)) = (s.fld
      (F.FAULT_LADDER_FAULTS (16 + k)) + 1) % 2 ^ (F.FAULT_LADDER_FAULTS 0).wd ∧ (s.ladderActs (16 + k) = true → s.devFaulted = false → t.fld (F.FAULT_LADDER_LEVEL (16 +
      k)) = s.entryAt (16 + k) 2)) ∧
  (∀ (k : Fin 16) (s : State), s.fld (F.HRX_STATUS_STATE (16 + k)) = 3 → s.is (F.FAULT_LADDER_ACTIVE (16 + k)) = false → s.firstFault (16 + k) → Completes
      (.hrxLosTimeout k) s fun t => t.fld (F.FAULT_LADDER_LAST_CAUSE (16 + k)) = 2 ∧ t.fld (F.FAULT_LADDER_FAULTS (16 + k)) = (s.fld (F.FAULT_LADDER_FAULTS (16 + k)) + 1)
      % 2 ^ (F.FAULT_LADDER_FAULTS 0).wd ∧ (s.ladderActs (16 + k) = true → s.devFaulted = false → t.fld (F.FAULT_LADDER_LEVEL (16 + k)) = s.entryAt (16 + k) 2)) ∧
  (∀ (n : Fin 8) (s : State), s.fld (F.LRX_STATUS_ACQ_STATE n) = 2 → s.halfPair n = false → s.is (F.FAULT_LADDER_ACTIVE n) = false → s.firstFault n → Completes
      (.lrxCdrTimeout n) s fun t => t.is (F.LRX_EVENT_ACQ_FAULT n) = true ∧ t.fld (F.FAULT_LADDER_LAST_CAUSE n) = 3 ∧ t.fld (F.FAULT_LADDER_FAULTS n) = (s.fld
      (F.FAULT_LADDER_FAULTS n) + 1) % 2 ^ (F.FAULT_LADDER_FAULTS 0).wd ∧ (s.ladderActs n = true → s.devFaulted = false → t.fld (F.FAULT_LADDER_LEVEL n) = s.entryAt n 3)) ∧
  (∀ (n : Fin 8) (s : State), s.fld (F.LRX_STATUS_ACQ_STATE n) = 3 → s.halfPair n = false → s.is (F.FAULT_LADDER_ACTIVE n) = false → s.firstFault n → Completes
      (.lrxAdaptTimeout n) s fun t => t.is (F.LRX_EVENT_ACQ_FAULT n) = true ∧ t.fld (F.FAULT_LADDER_LAST_CAUSE n) = 3 ∧ t.fld (F.FAULT_LADDER_FAULTS n) = (s.fld
      (F.FAULT_LADDER_FAULTS n) + 1) % 2 ^ (F.FAULT_LADDER_FAULTS 0).wd ∧ (s.ladderActs n = true → s.devFaulted = false → t.fld (F.FAULT_LADDER_LEVEL n) = s.entryAt n 3)) ∧
  (∀ (n : Fin 8) (s : State), s.fld (F.LRX_STATUS_ACQ_STATE n) = 4 → s.halfPair n = false → s.is (F.FAULT_LADDER_ACTIVE n) = false → s.firstFault n → Completes
      (.lrxSeekTimeout n) s fun t => t.is (F.LRX_EVENT_ACQ_FAULT n) = true ∧ t.fld (F.FAULT_LADDER_LAST_CAUSE n) = 3 ∧ t.fld (F.FAULT_LADDER_FAULTS n) = (s.fld
      (F.FAULT_LADDER_FAULTS n) + 1) % 2 ^ (F.FAULT_LADDER_FAULTS 0).wd ∧ (s.ladderActs n = true → s.devFaulted = false → t.fld (F.FAULT_LADDER_LEVEL n) = s.entryAt n 3)) ∧
  (∀ (n : Fin 8) (s : State), s.fld (F.LRX_STATUS_ACQ_STATE n) = 2 → s.halfPair n = true → Completes (.lrxCdrTimeout n) s fun t => t.fld (F.LRX_STATUS_ACQ_STATE n) = 1
      ∧ t.is (F.LRX_STATUS_PRESENT n) = false ∧ s.OnlyDev recalRegs t) ∧
  (∀ (n : Fin 8) (s : State), s.fld (F.LRX_STATUS_ACQ_STATE n) = 3 → s.halfPair n = true → Completes (.lrxAdaptTimeout n) s fun t => t.fld (F.LRX_STATUS_ACQ_STATE n) =
      1 ∧ t.is (F.LRX_STATUS_PRESENT n) = false ∧ s.OnlyDev recalRegs t) ∧
  (∀ (n : Fin 8) (s : State), s.fld (F.LRX_STATUS_ACQ_STATE n) = 4 → s.halfPair n = true → Completes (.lrxSeekTimeout n) s fun t => t.fld (F.LRX_STATUS_ACQ_STATE n) = 1
      ∧ t.is (F.LRX_STATUS_PRESENT n) = false ∧ s.OnlyDev recalRegs t) ∧
  (∀ (n : Fin 8) (s : State), s.fld (F.LRX_STATUS_ACQ_STATE n) = 7 → s.halfPair n = true → Completes (.lrxLosTimeout n) s fun t => t.fld (F.LRX_STATUS_ACQ_STATE n) = 1
      ∧ t.is (F.LRX_STATUS_PRESENT n) = false ∧ s.OnlyDev recalRegs t) ∧
  (∀ (n : Fin 8) (pos p : Nat) (s : State), s.fld (F.LRX_STATUS_ACQ_STATE n) = 5 → 2 < alignOff (s.lane n).align pos → 2 * s.fld (F.LRX_MKR_PEAK_ALIGNED n) ≤ p → s.fld
      (F.LRX_STATUS_CAPTURES n) = 3 → s.halfPair n = false → s.is (F.FAULT_LADDER_ACTIVE n) = false → s.firstFault n → Completes (.capture n pos p) s fun t => t.is
      (F.LRX_EVENT_CAPTURE n) = true ∧ t.is (F.LRX_EVENT_ACQ_FAULT n) = true ∧ t.fld (F.FAULT_LADDER_LAST_CAUSE n) = 3 ∧ t.fld (F.FAULT_LADDER_FAULTS n) = (s.fld
      (F.FAULT_LADDER_FAULTS n) + 1) % 2 ^ (F.FAULT_LADDER_FAULTS 0).wd ∧ (s.ladderActs n = true → s.devFaulted = false → t.fld (F.FAULT_LADDER_LEVEL n) = s.entryAt n 3)) ∧
  (∀ (k : Fin 16) (s : State), s.fld (F.HRX_STATUS_STATE (16 + k)) = 1 → s.is (F.HRX_STATUS_CDR_LOCK (16 + k)) = false → s.is (F.FAULT_LADDER_ACTIVE (16 + k)) = true →
      s.fld (F.FAULT_LADDER_LEVEL (16 + k)) = 2 ∨ s.fld (F.FAULT_LADDER_LEVEL (16 + k)) = 3 → Completes (.hrxAcqTimeout k) s fun t => t.fld (F.FAULT_LADDER_LEVEL (16 + k))
      = s.fld (F.FAULT_LADDER_LEVEL (16 + k)) + 1 ∧ t.is (F.FAULT_LADDER_ACTIVE (16 + k)) = decide (s.fld (F.FAULT_LADDER_LEVEL (16 + k)) = 2) ∧ (s.fld
      (F.FAULT_LADDER_LEVEL (16 + k)) = 3 → t.oos (16 + k) = true) ∧ t.fld (F.FAULT_LADDER_FAULTS (16 + k)) = s.fld (F.FAULT_LADDER_FAULTS (16 + k)) ∧ bitAt (t.fld
      F.FAULT_EVENT_BITS) 3 = true) ∧
  (∀ (n : Fin 8) (s : State), s.fld (F.LRX_STATUS_ACQ_STATE n) = 2 → s.halfPair n = false → s.is (F.FAULT_LADDER_ACTIVE n) = true → s.fld (F.FAULT_LADDER_LEVEL n) = 2 ∨
      s.fld (F.FAULT_LADDER_LEVEL n) = 3 → Completes (.lrxCdrTimeout n) s fun t => t.fld (F.FAULT_LADDER_LEVEL n) = s.fld (F.FAULT_LADDER_LEVEL n) + 1 ∧ t.is
      (F.FAULT_LADDER_ACTIVE n) = decide (s.fld (F.FAULT_LADDER_LEVEL n) = 2) ∧ (s.fld (F.FAULT_LADDER_LEVEL n) = 3 → t.oos n = true) ∧ t.fld (F.FAULT_LADDER_FAULTS n) =
      s.fld (F.FAULT_LADDER_FAULTS n) ∧ bitAt (t.fld F.FAULT_EVENT_BITS) 3 = true ∧ t.is (F.LRX_EVENT_ACQ_FAULT n) = true) ∧
  (∀ (n : Fin 8) (s : State), s.fld (F.LRX_STATUS_ACQ_STATE n) = 3 → s.halfPair n = false → s.is (F.FAULT_LADDER_ACTIVE n) = true → s.fld (F.FAULT_LADDER_LEVEL n) = 2 ∨
      s.fld (F.FAULT_LADDER_LEVEL n) = 3 → Completes (.lrxAdaptTimeout n) s fun t => t.fld (F.FAULT_LADDER_LEVEL n) = s.fld (F.FAULT_LADDER_LEVEL n) + 1 ∧ t.is
      (F.FAULT_LADDER_ACTIVE n) = decide (s.fld (F.FAULT_LADDER_LEVEL n) = 2) ∧ (s.fld (F.FAULT_LADDER_LEVEL n) = 3 → t.oos n = true) ∧ t.fld (F.FAULT_LADDER_FAULTS n) =
      s.fld (F.FAULT_LADDER_FAULTS n) ∧ bitAt (t.fld F.FAULT_EVENT_BITS) 3 = true ∧ t.is (F.LRX_EVENT_ACQ_FAULT n) = true) ∧
  (∀ (n : Fin 8) (s : State), s.fld (F.LRX_STATUS_ACQ_STATE n) = 4 → s.halfPair n = false → s.is (F.FAULT_LADDER_ACTIVE n) = true → s.fld (F.FAULT_LADDER_LEVEL n) = 2 ∨
      s.fld (F.FAULT_LADDER_LEVEL n) = 3 → Completes (.lrxSeekTimeout n) s fun t => t.fld (F.FAULT_LADDER_LEVEL n) = s.fld (F.FAULT_LADDER_LEVEL n) + 1 ∧ t.is
      (F.FAULT_LADDER_ACTIVE n) = decide (s.fld (F.FAULT_LADDER_LEVEL n) = 2) ∧ (s.fld (F.FAULT_LADDER_LEVEL n) = 3 → t.oos n = true) ∧ t.fld (F.FAULT_LADDER_FAULTS n) =
      s.fld (F.FAULT_LADDER_FAULTS n) ∧ bitAt (t.fld F.FAULT_EVENT_BITS) 3 = true ∧ t.is (F.LRX_EVENT_ACQ_FAULT n) = true) ∧
  (∀ (n : Fin 8) (s : State), s.is (F.LRX_TRN_STAT_TIMER_RUN n) = true → s.halfPair n = false → s.is (F.FAULT_LADDER_ACTIVE n) = true → s.fld (F.FAULT_LADDER_LEVEL n) =
      2 ∨ s.fld (F.FAULT_LADDER_LEVEL n) = 3 → Completes (.trainingTimeout n) s fun t => t.fld (F.FAULT_LADDER_LEVEL n) = s.fld (F.FAULT_LADDER_LEVEL n) + 1 ∧ t.is
      (F.FAULT_LADDER_ACTIVE n) = decide (s.fld (F.FAULT_LADDER_LEVEL n) = 2) ∧ (s.fld (F.FAULT_LADDER_LEVEL n) = 3 → t.oos n = true) ∧ t.fld (F.FAULT_LADDER_FAULTS n) =
      s.fld (F.FAULT_LADDER_FAULTS n) ∧ bitAt (t.fld F.FAULT_EVENT_BITS) 3 = true ∧ t.is (F.LRX_TRN_EVENT_TIMEOUT n) = true) ∧
  (∀ (k : Fin 16) (e : Nat) (s : State), s.fld (F.HRX_STATUS_STATE (16 + k)) = 1 → s.is (F.HRX_STATUS_CDR_LOCK (16 + k)) = false → s.is (F.FAULT_LADDER_ACTIVE (16 + k))
      = false → (s.ladder (16 + k)).mark.map (fun x => (x.clock, x.entry)) = some (s.clock, e) → 2 ≤ e → Completes (.hrxAcqTimeout k) s fun t => t.fld
      (F.FAULT_LADDER_LAST_CAUSE (16 + k)) = s.fld (F.FAULT_LADDER_LAST_CAUSE (16 + k)) ∧ t.fld (F.FAULT_LADDER_FAULTS (16 + k)) = s.fld (F.FAULT_LADDER_FAULTS (16 + k)) ∧
      t.fld (F.FAULT_LADDER_LEVEL (16 + k)) = s.fld (F.FAULT_LADDER_LEVEL (16 + k))) ∧
  (∀ (n : Fin 8) (s : State), s.fld (F.LRX_STATUS_ACQ_STATE n) = 7 → s.halfPair n = false → s.is (F.FAULT_LADDER_ACTIVE n) = false → s.firstFault n → Completes
      (.lrxLosTimeout n) s fun t => t.fld (F.FAULT_LADDER_LAST_CAUSE n) = 4 ∧ t.fld (F.FAULT_LADDER_FAULTS n) = (s.fld (F.FAULT_LADDER_FAULTS n) + 1) % 2 ^
      (F.FAULT_LADDER_FAULTS 0).wd ∧ (s.ladderActs n = true → s.devFaulted = false → t.fld (F.FAULT_LADDER_LEVEL n) = s.entryAt n 2)) ∧
  (∀ (n : Fin 8) (s : State), s.is (F.LRX_TRN_STAT_TIMER_RUN n) = true → s.halfPair n = false → s.is (F.FAULT_LADDER_ACTIVE n) = false → s.firstFault n → Completes
      (.trainingTimeout n) s fun t => t.is (F.LRX_TRN_EVENT_TIMEOUT n) = true ∧ t.is (F.LRX_TRN_STAT_TIMER_RUN n) = false ∧ t.fld (F.FAULT_LADDER_LAST_CAUSE n) = 6 ∧ t.fld
      (F.FAULT_LADDER_FAULTS n) = (s.fld (F.FAULT_LADDER_FAULTS n) + 1) % 2 ^ (F.FAULT_LADDER_FAULTS 0).wd ∧ (s.ladderActs n = true → s.devFaulted = false → t.fld
      (F.FAULT_LADDER_LEVEL n) = s.entryAt n 3)) ∧
  (∀ (n : Fin 48) (s : State), s.is (F.FAULT_LADDER_ACTIVE (ladderOf n)) = true → s.fld (F.FAULT_LADDER_LEVEL (ladderOf n)) = 3 → Completes (.ladderStepTimeout n) s fun
      t => t.fld (F.FAULT_LADDER_LEVEL (ladderOf n)) = 4 ∧ t.is (F.FAULT_LADDER_ACTIVE (ladderOf n)) = false ∧ bitAt (t.fld F.FAULT_EVENT_BITS) 3 = true ∧ bitAt (t.fld
      F.FAULT_EVENT_BITS) 4 = true ∧ t.oos n = true) ∧
  (∀ (n : Fin 48) (s : State), s.is (F.FAULT_LADDER_ACTIVE (ladderOf n)) = true → s.fld (F.FAULT_LADDER_LEVEL (ladderOf n)) = 1 ∨ s.fld (F.FAULT_LADDER_LEVEL (ladderOf
      n)) = 2 → Completes (.ladderStepTimeout n) s fun t => t.fld (F.FAULT_LADDER_LEVEL (ladderOf n)) = s.fld (F.FAULT_LADDER_LEVEL (ladderOf n)) + 1 ∧ t.is
      (F.FAULT_LADDER_ACTIVE (ladderOf n)) = true ∧ bitAt (t.fld F.FAULT_EVENT_BITS) 1 = true ∧ bitAt (t.fld F.FAULT_EVENT_BITS) 3 = true) ∧
  (∀ (n : Fin 48) (s : State), s.is (F.FAULT_LADDER_ACTIVE (ladderOf n)) = true → s.stepReady (ladderOf n) = true → Completes (.ladderStepComplete n) s fun t => t.fld
      (F.FAULT_LADDER_LEVEL (ladderOf n)) = 0 ∧ t.is (F.FAULT_LADDER_ACTIVE (ladderOf n)) = false ∧ t.fld (F.FAULT_LADDER_LAST_OK (ladderOf n)) = s.fld
      (F.FAULT_LADDER_LEVEL (ladderOf n)) ∧ (t.ladder (ladderOf n)).okAt = s.clock ∧ bitAt (t.fld F.FAULT_EVENT_BITS) 2 = true ∧ s.Only [R.FAULT_LADDER (ladderOf n),
      R.FAULT_EVENT, R.FAULT_LOG_DROP] t)

/-- A START that nothing refuses makes the capture busy with its length, within CAP_LIMIT, its stride and its source, from the first address on, DONE and ABORTED cleared (the
model's choice, log entry 31); a refused one is answered with an error and records its reason, with a configuration error for reason 1. The samples taken stand in the capture
SRAM after those before them, by whole ECC words while the capture runs (log entry 31), and the last of them ends it with DONE and its event. In near-end loopback a started
lane of a whole pair is LOCKED and its pair's training is at data. The near-end lock is R174 of chapter 07, the capture's claim R33 of chapter 01. (Rests on
04_line_receive.md, 01_operating_modes.md, 07_line_training.md.) -/
def Obligations.WaveformCapturesAndNearEnd : Prop :=
  (∀ (m : Master) (n : Fin 8) (v : Word) (s : State), s.Reached m (R.LRX_WCAP_CTL n) → s.wcapRefusal n = none → Completes (.wcapStart m n v) s fun t => s.Answered m 0 t
      ∧ t.is (F.LRX_WCAP_STAT_BUSY n) = true ∧ (t.lane n).wcapPos = 0 ∧ (t.lane n).wcapLen = min (clampNat 1 4194304 (s.fld (F.LRX_WCAP_LEN_LENGTH n))) (s.fld
      F.MEMX_CAP_LIMIT_SAMPLES) ∧ (t.lane n).wcapStr = max 64 (bitsOf v.toNat 2 16) ∧ (t.lane n).wcapSrc = bitAt v.toNat 1 ∧ (t.lane n).wcapBuf = [] ∧ t.is
      (F.LRX_WCAP_STAT_DONE n) = false ∧ t.is (F.LRX_WCAP_STAT_ABORTED n) = false ∧ s.Only [R.LRX_WCAP_CTL n, R.LRX_WCAP_STAT n] t) ∧
  (∀ (m : Master) (n : Fin 8) (v : Word) (s : State) (c : Nat), s.Reached m (R.LRX_WCAP_CTL n) → s.wcapRefusal n = some c → Completes (.wcapStart m n v) s fun t =>
      s.Answered m 1 t ∧ t.is (F.LRX_WCAP_STAT_REFUSED n) = true ∧ t.fld (F.LRX_WCAP_STAT_REASON n) = c ∧ t.is (F.LRX_WCAP_STAT_BUSY n) = s.is (F.LRX_WCAP_STAT_BUSY n) ∧
      (c = 1 → t.fld F.MODE_CLAIM_ERR_RESOURCE = 2 ∧ t.fld F.MODE_CLAIM_ERR_MASTER = m.holder) ∧ s.Only [R.LRX_WCAP_CTL n, R.LRX_WCAP_STAT n, R.MODE_CLAIM_ERR,
      R.MODE_EVENT] t) ∧
  (∀ (n : Fin 8) (s : State), s.is (F.LRX_WCAP_STAT_BUSY n) = true → s.filled = true → s.integ.test = none → (∀ b : Fin 16, s.pairBit R.MEMX_REMOVED_LO (48 + b) =
      false) → (s.lane n).wcapLen = (s.lane n).wcapPos + (s.lane n).wcapBuf.length → (s.lane n).wcapLen ≤ s.fld F.MEMX_CAP_LIMIT_SAMPLES → (s.lane n).wcapLen ≤ 4194304 →
      Completes (.wcapComplete n ()) s fun t => t.bytesAt (0x02400000 + (s.lane n).wcapPos) (s.lane n).wcapBuf.length = (s.lane n).wcapBuf ∧ (∀ a, ¬ (0x02400000 + (s.lane
      n).wcapPos ≤ a ∧ a < 0x02400000 + (s.lane n).wcapLen) → t.byteAt a = s.byteAt a) ∧ t.is (F.LRX_WCAP_STAT_BUSY n) = false ∧ t.is (F.LRX_WCAP_STAT_DONE n) = true ∧
      t.fld (F.LRX_WCAP_STAT_WRITTEN n) = (s.lane n).wcapLen ∧ t.is (F.LRX_EVENT_WCAP_DONE n) = true ∧ (s.integ.flips = [] → s.OnlyLanes [n.val] t)) ∧
  (∀ (n : Fin 8) (s : State), s.is (F.LRX_WCAP_STAT_BUSY n) = true → s.filled = true → s.integ.test = none → (∀ b : Fin 16, s.pairBit R.MEMX_REMOVED_LO (48 + b) =
      false) → (s.lane n).wcapPos + (s.lane n).wcapBuf.length < (s.lane n).wcapLen → (s.lane n).wcapLen ≤ s.fld F.MEMX_CAP_LIMIT_SAMPLES → (s.lane n).wcapLen ≤ 4194304 →
      Completes (.wcapComplete n ()) s fun t => t.bytesAt (0x02400000 + (s.lane n).wcapPos) ((s.lane n).wcapBuf.length / 8 * 8) = (s.lane n).wcapBuf.take ((s.lane
      n).wcapBuf.length / 8 * 8) ∧ (∀ a, ¬ (0x02400000 + (s.lane n).wcapPos ≤ a ∧ a < (0x02400000 + (s.lane n).wcapPos) + (s.lane n).wcapBuf.length / 8 * 8) → t.byteAt a =
      s.byteAt a) ∧ (t.lane n).wcapPos = (s.lane n).wcapPos + (s.lane n).wcapBuf.length / 8 * 8 ∧ (t.lane n).wcapBuf = (s.lane n).wcapBuf.drop ((s.lane n).wcapBuf.length /
      8 * 8) ∧ t.is (F.LRX_WCAP_STAT_BUSY n) = true ∧ (s.integ.flips = [] → s.Only [] t)) ∧
  (∀ (n : Fin 8) (s : State), s.is (F.LRX_WCAP_STAT_BUSY n) = false → Completes (.wcapComplete n ()) s fun t => t.mem = s.mem ∧ s.Only [] t) ∧
  (∀ (n : Fin 8) (s : State), s.nearEnd = true → s.acting = true → s.laneOn n = true → s.oos n = false → s.halfPair n = false → s.fld (F.LRX_STATUS_ACQ_STATE n) = 1 →
      Completes (.nearEndLocked n) s fun t => t.fld (F.LRX_STATUS_ACQ_STATE n) = 6 ∧ t.fld (F.LRX_TRN_CTL_STATE n) = 5 ∧ t.is (F.LRX_TRN_STAT_RX_DATA n) = true ∧ s.OnlyDev
      recalRegs t)

/-- A write of CTL with SQUELCH = 0 is refused while a fault cause stands, the lane is out of service or OFF, its synthesiser is unlocked, the near-end loopback is in force or
being entered, or its pair is broken outside Diagnostic: SQUELCH stays 1, RELIGHT_REFUSED is set, the other fields are stored, an error is returned; with FORCE_OFF = 1 in the
same write the cause is set first, so that it is refused too. Otherwise INV, PRECODE and SRC are stored, a dark lane starts its ramp up from step 0 at its bias floor, a ramp
down turns at the next step boundary, a ramp up goes on and a lit lane stays lit. The lock of a powered transmit synthesiser is recorded in STATUS, a line lane's that runs
from the root only while the root is stable; a lock lost is recorded with its event, a line lane then has the fault cause SYNTH, and either kind reports the lane fault 0x0D.
The broken pair is R163 of chapter 07, read with log entry 81; a lock in whatever state of the lane is log entry 28. (Rests on 05_line_transmit.md, 12_clocks_power_time.md,
16_faults_recovery.md, 07_line_training.md.) -/
def Obligations.RelightIsGuardedAndSynthesisersLock : Prop :=
  (∀ (m : Master) (n : Fin 8) (v : Word) (s : State), s.Reached m (R.LTX_CTL (8 + n)) → bitAt v.toNat 5 = false → s.rd (R.LTX_FAULT_CAUSE (8 + n)) ≠ 0#32 ∨ s.oos (8 +
      n) = true ∨ s.fld (F.LTX_STATUS_STATE (8 + n)) = 0 ∨ s.is (F.LTX_STATUS_SYNTH_LOCK (8 + n)) = false ∨ s.darkLoop = true ∨ s.halfPair (8 + n) = true ∧ s.runMode ≠ 5 →
      Completes (.squelchClear m n v) s fun t => s.Answered m 1 t ∧ t.is (F.LTX_CTL_SQUELCH (8 + n)) = true ∧ t.is (F.LTX_EVENT_RELIGHT_REFUSED (8 + n)) = true ∧ t.is
      (F.LTX_CTL_INV (8 + n)) = bitAt v.toNat 0 ∧ t.is (F.LTX_CTL_PRECODE (8 + n)) = bitAt v.toNat 1 ∧ t.fld (F.LTX_CTL_SRC (8 + n)) = bitsOf v.toNat 2 2 ∧ s.Only
      [R.LTX_CTL (8 + n), R.LTX_EVENT (8 + n)] t) ∧
  (∀ (m : Master) (n : Fin 8) (v : Word) (s : State), s.Reached m (R.LTX_CTL (8 + n)) → bitAt v.toNat 5 = true → (s.is F.MODE_STATUS_BUSY && s.trans.ramping) = false →
      (s.lane (8 + n)).retrain = false → Completes (.squelchClear m n v) s fun t => s.Answered m 1 t ∧ t.is (F.LTX_CTL_SQUELCH (8 + n)) = true ∧ t.is
      (F.LTX_EVENT_RELIGHT_REFUSED (8 + n)) = true ∧ t.is (F.LTX_FAULT_CAUSE_FORCE_OFF (8 + n)) = true ∧ t.fld (F.LTX_STATUS_STATE (8 + n)) =
      (match s.fld (F.LTX_STATUS_STATE (8 + n)) with | 1 => 6 | 2 => 5 | 3 => 5 | 4 => 5 | st => st) ∧ t.is (F.LTX_CTL_INV (8 + n)) = bitAt v.toNat 0 ∧ t.is
      (F.LTX_CTL_PRECODE (8 + n)) = bitAt v.toNat 1 ∧ s.OnlyDev recalRegs t) ∧
  (∀ (m : Master) (n : Fin 8) (v : Word) (s : State), s.Reached m (R.LTX_CTL (8 + n)) → bitAt v.toNat 5 = false → s.mayLight (8 + n) = true → s.fld (F.LTX_STATUS_STATE
      (8 + n)) = 1 ∨ s.fld (F.LTX_STATUS_STATE (8 + n)) = 6 → Completes (.squelchClear m n v) s fun t => s.Answered m 0 t ∧ t.is (F.LTX_CTL_SQUELCH (8 + n)) = false ∧
      t.fld (F.LTX_STATUS_STATE (8 + n)) = 2 ∧ t.fld (F.LTX_STATUS_STEP (8 + n)) = 0 ∧ t.fld (F.LTX_BIAS_STAT_NOW (8 + n)) = s.biasFloor (8 + n) ∧ t.is (F.LTX_CTL_INV (8 +
      n)) = bitAt v.toNat 0 ∧ t.is (F.LTX_CTL_PRECODE (8 + n)) = bitAt v.toNat 1 ∧ t.fld (F.LTX_CTL_SRC (8 + n)) = bitsOf v.toNat 2 2 ∧ (t.lane (8 + n)).reverse = false ∧
      (t.lane (8 + n)).shape = s.is (F.LTX_RAMP_SHAPE (8 + n)) ∧ s.OnlyLanes [8 + n.val] t) ∧
  (∀ (m : Master) (n : Fin 8) (v : Word) (s : State), s.Reached m (R.LTX_CTL (8 + n)) → bitAt v.toNat 5 = false → s.mayLight (8 + n) = true → s.fld (F.LTX_STATUS_STATE
      (8 + n)) = 2 ∨ s.fld (F.LTX_STATUS_STATE (8 + n)) = 3 ∨ s.fld (F.LTX_STATUS_STATE (8 + n)) = 4 → Completes (.squelchClear m n v) s fun t => s.Answered m 0 t ∧ t.is
      (F.LTX_CTL_SQUELCH (8 + n)) = false ∧ t.is (F.LTX_CTL_INV (8 + n)) = bitAt v.toNat 0 ∧ t.is (F.LTX_CTL_PRECODE (8 + n)) = bitAt v.toNat 1 ∧ t.fld (F.LTX_CTL_SRC (8 +
      n)) = bitsOf v.toNat 2 2 ∧ (s.fld (F.LTX_STATUS_STATE (8 + n)) = 4 → (t.lane (8 + n)).reverse = true) ∧ (s.fld (F.LTX_STATUS_STATE (8 + n)) = 2 → (t.lane (8 +
      n)).reverse = false) ∧ s.Only [R.LTX_CTL (8 + n)] t) ∧
  (∀ (t' : Fin 24) (s : State), s.laneOn (laneOfOut t') = true → t'.val < 8 → s.is (F.LTX_STATUS_SYNTH_LOCK (laneOfOut t')) = false → (s.fld (F.LTX_STATUS_FREQ_SRC
      (laneOfOut t')) = 0 → s.is F.CLK_STAT_ROOT_OK = true) → Completes (.synthLock t') s fun t => t.is (F.LTX_STATUS_SYNTH_LOCK (laneOfOut t')) = true ∧ s.Only
      [R.LTX_STATUS (laneOfOut t'), R.LTX_SEQ_EVT (laneOfOut t')] t) ∧
  (∀ (t' : Fin 24) (s : State), s.laneOn (laneOfOut t') = true → t'.val < 8 → s.fld (F.LTX_STATUS_FREQ_SRC (laneOfOut t')) = 0 → s.is F.CLK_STAT_ROOT_OK = false →
      Completes (.synthLock t') s fun t => t.is (F.LTX_STATUS_SYNTH_LOCK (laneOfOut t')) = s.is (F.LTX_STATUS_SYNTH_LOCK (laneOfOut t')) ∧ s.Only [] t) ∧
  (∀ (t' : Fin 24) (s : State), s.laneOn (laneOfOut t') = true → 8 ≤ t'.val → s.is (F.HTX_STATUS_CDR_LOCK (laneOfOut t')) = false → Completes (.synthLock t') s fun t =>
      t.is (F.HTX_STATUS_CDR_LOCK (laneOfOut t')) = true ∧ s.Only [R.HTX_STATUS (laneOfOut t'), R.HTX_SEQ_EVT (laneOfOut t')] t) ∧
  (∀ (t' : Fin 24) (s : State), t'.val < 8 → s.is (F.LTX_STATUS_SYNTH_LOCK (laneOfOut t')) = true → (s.is F.MODE_STATUS_BUSY && s.trans.ramping) = false → (s.lane
      (laneOfOut t')).retrain = false → s.firstFault t' → Completes (.synthUnlock t') s fun t => t.is (F.LTX_STATUS_SYNTH_LOCK (laneOfOut t')) = false ∧ t.is
      (F.LTX_EVENT_SYNTH_UNLOCK (laneOfOut t')) = true ∧ t.is (F.LTX_FAULT_CAUSE_SYNTH (laneOfOut t')) = true ∧ (2 ≤ s.fld (F.LTX_STATUS_STATE (laneOfOut t')) ∧ s.fld
      (F.LTX_STATUS_STATE (laneOfOut t')) ≤ 4 → t.is (F.LTX_CTL_SQUELCH (laneOfOut t')) = true) ∧ (s.halfPair t' = false → t.fld (F.FAULT_LADDER_LAST_CAUSE t') = 13) ∧
      (s.halfPair t' = false → t.fld (F.FAULT_LADDER_FAULTS t') = (s.fld (F.FAULT_LADDER_FAULTS t') + 1) % 256)) ∧
  (∀ (t' : Fin 24) (s : State), 8 ≤ t'.val → s.is (F.HTX_STATUS_CDR_LOCK (laneOfOut t')) = true → s.firstFault (laneOfOut t') → Completes (.synthUnlock t') s fun t =>
      t.is (F.HTX_STATUS_CDR_LOCK (laneOfOut t')) = false ∧ t.is (F.HTX_EVENT_CDR_UNLOCK (laneOfOut t')) = true ∧ t.fld (F.FAULT_LADDER_LAST_CAUSE (laneOfOut t')) = 13 ∧
      t.fld (F.FAULT_LADDER_FAULTS (laneOfOut t')) = (s.fld (F.FAULT_LADDER_FAULTS (laneOfOut t')) + 1) % 256)

/-- SQUELCH_SET starts the ramp down of a lit lane and turns a ramp up at its next step boundary; each ramp step moves step and bias together and the last one ends the ramp, LIT
or DARK with its event; FORCE_OFF on a lane that sends light starts the fault ramp, whose steps never raise the bias and end in FAULT_DARK at bias 0, takes a dark lane to
FAULT_DARK at once, and in the other states only records its cause; a bias write stores both limits and moves a dark lane to its new floor, a lit one follows its target by one
code at a time; BIAS_TRIP, SYNTH, FORCE_OFF and DEVICE are cleared by a 1 only when their condition is gone, THERMAL never. Clocked events of another state of the lane change
nothing. That a fault ramp never raises the bias is log entry 33, a bias trip log entry 34. (Rests on 05_line_transmit.md.) -/
def Obligations.RampsStepTheLaser : Prop :=
  (∀ (m : Master) (n : Fin 8) (s : State), s.Reached m (R.LTX_CTL (8 + n)) → Completes (.squelchSet m n) s fun t => s.Answered m 0 t ∧ t.is (F.LTX_CTL_SQUELCH (8 + n))
      = true ∧ t.fld (F.LTX_STATUS_STATE (8 + n)) = (if s.fld (F.LTX_STATUS_STATE (8 + n)) = 3 then 4 else s.fld (F.LTX_STATUS_STATE (8 + n))) ∧ (s.fld (F.LTX_STATUS_STATE
      (8 + n)) = 2 → (t.lane (8 + n)).reverse = true) ∧ s.Only [R.LTX_CTL (8 + n), R.LTX_STATUS (8 + n), R.LTX_SEQ_EVT (8 + n)] t) ∧
  (∀ (n : Fin 8) (s : State), s.fld (F.LTX_STATUS_STATE (8 + n)) = 2 → (s.lane (8 + n)).reverse = false → Completes (.rampStep n) s fun t => t.fld (F.LTX_STATUS_STEP (8
      + n)) = min (s.fld (F.LTX_STATUS_STEP (8 + n)) + 1) 64 ∧ t.fld (F.LTX_BIAS_STAT_NOW (8 + n)) = s.biasAt (8 + n) (min (s.fld (F.LTX_STATUS_STEP (8 + n)) + 1) 64) ∧
      t.fld (F.LTX_STATUS_STATE (8 + n)) = (if 63 ≤ s.fld (F.LTX_STATUS_STEP (8 + n)) then 3 else 2) ∧ (63 ≤ s.fld (F.LTX_STATUS_STEP (8 + n)) → t.is
      (F.LTX_EVENT_RAMP_UP_DONE (8 + n)) = true) ∧ s.OnlyLanes [8 + n.val, n.val] t) ∧
  (∀ (n : Fin 8) (s : State), s.fld (F.LTX_STATUS_STATE (8 + n)) = 4 → (s.lane (8 + n)).reverse = false → 2 ≤ s.fld (F.LTX_STATUS_STEP (8 + n)) → Completes (.rampStep
      n) s fun t => t.fld (F.LTX_STATUS_STEP (8 + n)) = s.fld (F.LTX_STATUS_STEP (8 + n)) - 1 ∧ t.fld (F.LTX_BIAS_STAT_NOW (8 + n)) = s.biasAt (8 + n) (s.fld
      (F.LTX_STATUS_STEP (8 + n)) - 1) ∧ t.fld (F.LTX_STATUS_STATE (8 + n)) = 4 ∧ s.Only [R.LTX_STATUS (8 + n), R.LTX_BIAS_STAT (8 + n)] t) ∧
  (∀ (n : Fin 8) (s : State), s.fld (F.LTX_STATUS_STATE (8 + n)) = 4 → (s.lane (8 + n)).reverse = false → s.fld (F.LTX_STATUS_STEP (8 + n)) ≤ 1 → (s.lane (8 +
      n)).retrain = false → (s.is F.MODE_STATUS_BUSY && s.trans.ramping) = false → Completes (.rampStep n) s fun t => t.fld (F.LTX_STATUS_STEP (8 + n)) = 0 ∧ t.fld
      (F.LTX_BIAS_STAT_NOW (8 + n)) = s.biasFloor (8 + n) ∧ t.fld (F.LTX_STATUS_STATE (8 + n)) = 1 ∧ t.is (F.LTX_EVENT_RAMP_DOWN_DONE (8 + n)) = true ∧ s.OnlyLanes [8 +
      n.val, n.val] t) ∧
  (∀ (n : Fin 8) (s : State), s.fld (F.LTX_STATUS_STATE (8 + n)) ≠ 2 → s.fld (F.LTX_STATUS_STATE (8 + n)) ≠ 4 → Completes (.rampStep n) s fun t => s.Only [] t) ∧
  (∀ (n : Fin 8) (s : State), s.fld (F.LTX_STATUS_STATE (8 + n)) = 2 ∨ s.fld (F.LTX_STATUS_STATE (8 + n)) = 4 → (s.lane (8 + n)).reverse = true → Completes (.rampStep
      n) s fun t => t.fld (F.LTX_STATUS_STATE (8 + n)) = 6 - s.fld (F.LTX_STATUS_STATE (8 + n)) ∧ t.fld (F.LTX_STATUS_STEP (8 + n)) = s.fld (F.LTX_STATUS_STEP (8 + n)) ∧
      (t.lane (8 + n)).reverse = false ∧ s.Only [R.LTX_STATUS (8 + n), R.LTX_SEQ_EVT (8 + n)] t) ∧
  (∀ (m : Master) (n : Fin 8) (s : State), s.Reached m (R.LTX_CTL (8 + n)) → 2 ≤ s.fld (F.LTX_STATUS_STATE (8 + n)) → s.fld (F.LTX_STATUS_STATE (8 + n)) ≤ 4 → Completes
      (.forceOff m n) s fun t => s.Answered m 0 t ∧ t.fld (F.LTX_STATUS_STATE (8 + n)) = 5 ∧ t.is (F.LTX_FAULT_CAUSE_FORCE_OFF (8 + n)) = true ∧ t.is (F.LTX_CTL_SQUELCH (8
      + n)) = true ∧ t.fld (F.LRX_TRN_CTL_STATE n) = 0 ∧ t.fld (F.LTX_STATUS_STEP (8 + n)) = s.fld (F.LTX_STATUS_STEP (8 + n)) ∧ s.OnlyDev recalRegs t) ∧
  (∀ (m : Master) (n : Fin 8) (s : State), s.Reached m (R.LTX_CTL (8 + n)) → s.fld (F.LTX_STATUS_STATE (8 + n)) = 1 → (s.lane (8 + n)).retrain = false → (s.is
      F.MODE_STATUS_BUSY && s.trans.ramping) = false → Completes (.forceOff m n) s fun t => s.Answered m 0 t ∧ t.fld (F.LTX_STATUS_STATE (8 + n)) = 6 ∧ t.is
      (F.LTX_FAULT_CAUSE_FORCE_OFF (8 + n)) = true ∧ t.fld (F.LTX_BIAS_STAT_NOW (8 + n)) = 0 ∧ t.is (F.LTX_EVENT_FAULT_RAMP (8 + n)) = true ∧ s.OnlyDev recalRegs t) ∧
  (∀ (m : Master) (n : Fin 8) (s : State), s.Reached m (R.LTX_CTL (8 + n)) → s.fld (F.LTX_STATUS_STATE (8 + n)) = 0 ∨ 5 ≤ s.fld (F.LTX_STATUS_STATE (8 + n)) → (s.lane
      (8 + n)).retrain = false → (s.is F.MODE_STATUS_BUSY && s.trans.ramping) = false → Completes (.forceOff m n) s fun t => s.Answered m 0 t ∧ t.is
      (F.LTX_FAULT_CAUSE_FORCE_OFF (8 + n)) = true ∧ s.Only [R.LTX_FAULT_CAUSE (8 + n)] t) ∧
  (∀ (n : Fin 8) (s : State), s.fld (F.LTX_STATUS_STATE (8 + n)) = 5 → 2 ≤ s.fld (F.LTX_STATUS_STEP (8 + n)) → Completes (.faultRampStep n) s fun t => t.fld
      (F.LTX_STATUS_STEP (8 + n)) = s.fld (F.LTX_STATUS_STEP (8 + n)) - 1 ∧ t.fld (F.LTX_BIAS_STAT_NOW (8 + n)) = min (s.fld (F.LTX_BIAS_STAT_NOW (8 + n))) (s.biasAt (8 +
      n) (s.fld (F.LTX_STATUS_STEP (8 + n)) - 1)) ∧ t.fld (F.LTX_STATUS_STATE (8 + n)) = 5 ∧ s.Only [R.LTX_STATUS (8 + n), R.LTX_BIAS_STAT (8 + n)] t) ∧
  (∀ (n : Fin 8) (s : State), s.fld (F.LTX_STATUS_STATE (8 + n)) = 5 → s.fld (F.LTX_STATUS_STEP (8 + n)) ≤ 1 → (s.lane (8 + n)).retrain = false → (s.is
      F.MODE_STATUS_BUSY && s.trans.ramping) = false → Completes (.faultRampStep n) s fun t => t.fld (F.LTX_STATUS_STATE (8 + n)) = 6 ∧ t.fld (F.LTX_STATUS_STEP (8 + n)) =
      0 ∧ t.fld (F.LTX_BIAS_STAT_NOW (8 + n)) = 0 ∧ t.is (F.LTX_EVENT_FAULT_RAMP (8 + n)) = true ∧ (t.lane (8 + n)).forcing = false ∧ s.OnlyLanes [8 + n.val, n.val] t) ∧
  (∀ (n : Fin 8) (s : State), s.fld (F.LTX_STATUS_STATE (8 + n)) ≠ 5 → Completes (.faultRampStep n) s fun t => s.Only [] t) ∧
  (∀ (m : Master) (n : Fin 8) (v : Word) (s : State), s.Reached m (R.LTX_BIAS (8 + n)) → Completes (.biasWrite m n v) s fun t => s.Answered m 0 t ∧ t.fld
      (F.LTX_BIAS_TARGET (8 + n)) = bitsOf v.toNat 0 12 ∧ t.fld (F.LTX_BIAS_FLOOR (8 + n)) = bitsOf v.toNat 16 12 ∧ t.fld (F.LTX_BIAS_STAT_NOW (8 + n)) = (if s.fld
      (F.LTX_STATUS_STATE (8 + n)) = 1 then min (bitsOf v.toNat 16 12) (bitsOf v.toNat 0 12) else s.fld (F.LTX_BIAS_STAT_NOW (8 + n))) ∧ s.Only [R.LTX_BIAS (8 + n),
      R.LTX_BIAS_STAT (8 + n)] t) ∧
  (∀ (n : Fin 8) (s : State), s.fld (F.LTX_STATUS_STATE (8 + n)) = 3 → Completes (.biasStep n) s fun t => t.fld (F.LTX_BIAS_STAT_NOW (8 + n)) = (if s.fld
      (F.LTX_BIAS_STAT_NOW (8 + n)) < s.fld (F.LTX_BIAS_TARGET (8 + n)) then s.fld (F.LTX_BIAS_STAT_NOW (8 + n)) + 1 else if s.fld (F.LTX_BIAS_TARGET (8 + n)) < s.fld
      (F.LTX_BIAS_STAT_NOW (8 + n)) then s.fld (F.LTX_BIAS_STAT_NOW (8 + n)) - 1 else s.fld (F.LTX_BIAS_STAT_NOW (8 + n))) ∧ s.Only [R.LTX_BIAS_STAT (8 + n)] t) ∧
  (∀ (n : Fin 8) (s : State), s.fld (F.LTX_STATUS_STATE (8 + n)) ≠ 3 → Completes (.biasStep n) s fun t => s.Only [] t) ∧
  (∀ (m : Master) (n : Fin 8) (v : Word) (s : State), s.Reached m (R.LTX_FAULT_CAUSE (8 + n)) → Completes (.faultCauseClear m n v) s fun t => s.Answered m 0 t ∧ t.is
      (F.LTX_FAULT_CAUSE_BIAS_TRIP (8 + n)) = (s.is (F.LTX_FAULT_CAUSE_BIAS_TRIP (8 + n)) && !(bitAt v.toNat 0 && !s.weir (8 + n) 0)) ∧ t.is (F.LTX_FAULT_CAUSE_SYNTH (8 +
      n)) = (s.is (F.LTX_FAULT_CAUSE_SYNTH (8 + n)) && !(bitAt v.toNat 1 && s.is (F.LTX_STATUS_SYNTH_LOCK (8 + n)))) ∧ t.is (F.LTX_FAULT_CAUSE_FORCE_OFF (8 + n)) = (s.is
      (F.LTX_FAULT_CAUSE_FORCE_OFF (8 + n)) && !(bitAt v.toNat 2 && !(s.lane (8 + n)).forcing)) ∧ t.is (F.LTX_FAULT_CAUSE_THERMAL (8 + n)) = s.is
      (F.LTX_FAULT_CAUSE_THERMAL (8 + n)) ∧ t.is (F.LTX_FAULT_CAUSE_DEVICE (8 + n)) = (s.is (F.LTX_FAULT_CAUSE_DEVICE (8 + n)) && !(bitAt v.toNat 4 && s.shutdown == 0#6))
      ∧ s.Only [R.LTX_FAULT_CAUSE (8 + n)] t)

/-- At a candidate offset the 48th zero syndrome, with at most 16 other candidates before it, locks a hunting lane; the 17th other candidate, with at most 47 zero ones before it,
moves it to the next offset; undecided, nothing changes. With fewer than 16 zero syndromes among the last 64 codewords a lock is lost, counted and reported as cause 5, and
with 16 it is not; RESTART hunts from offset 0 without a loss counted, and does nothing in a lane that is OFF or runs no code. A codeword decoded in lock, from its symbols at
the lane, counts as corrected, failed or clean by the decoder's verdict, and joins its group. An injection is taken by a LIT lane that runs a code and has none waiting, else
refused. An active host code unit that finds its markers in the bits its slots carry is aligned, one that does not within its time says so and goes on searching; an aligned
unit counts each codeword once its 5,440 bits have come, its symbol errors or its failure; an idle one counts none; a setting that changes restarts the alignment. The markers
and verdicts are open functions of the bits read (log entry 90). What ends a lock and that the count runs on are log entries 29 and 30, the injection log entries 82 and 118,
the decoder's chain log entry 95. (Rests on 06_inner_code.md.) -/
def Obligations.CodewordLockDecodingAndCodeMonitors : Prop :=
  (∀ (n : Fin 8) (k : Nat) (s : State), s.coded = true → s.is (F.LRX_CW_STAT_HUNTING n) = true → k < (candidates s.deep (s.lane n).dec).length → ((candidates s.deep
      (s.lane n).dec).take k).count true = 47 → ((candidates s.deep (s.lane n).dec).take (k + 1)).count true = 48 → ((candidates s.deep (s.lane n).dec).take k).count false
      ≤ 16 → Completes (.codewordLock n ()) s fun t => t.is (F.LRX_CW_STAT_LOCKED n) = true ∧ t.is (F.LRX_CW_STAT_HUNTING n) = false ∧ t.fld (F.LRX_CW_STAT_OFFSET n) =
      s.fld (F.LRX_CW_STAT_OFFSET n) ∧ t.fld (F.LRX_CW_STAT_ZERO_COUNT n) = (t.lane n).last64.count true ∧ (t.lane n).last64 = (((candidates s.deep (s.lane n).dec).take (k
      + 1)).reverse ++ (s.lane n).last64).take 64 ∧ t.is (F.LRX_CW_EVENT_LOCK n) = true ∧ (t.lane n).dec = (s.lane n).dec.drop ((k + 4) / 4 * (2 * codeLen s.deep)) ∧
      s.OnlyDev recalRegs t) ∧
  (∀ (n : Fin 8) (s : State), s.coded = false ∨ s.is (F.LRX_CW_STAT_HUNTING n) = false ∨ ((candidates s.deep (s.lane n).dec).count true < 48 ∧ (candidates s.deep
      (s.lane n).dec).count false < 17) → Completes (.codewordLock n ()) s fun t => s.Only [] t ∧ t.lanes = s.lanes) ∧
  (∀ (n : Fin 8) (k : Nat) (s : State), s.coded = true → s.is (F.LRX_CW_STAT_HUNTING n) = true → k < (candidates s.deep (s.lane n).dec).length → ((candidates s.deep
      (s.lane n).dec).take k).count false = 16 → ((candidates s.deep (s.lane n).dec).take (k + 1)).count false = 17 → ((candidates s.deep (s.lane n).dec).take k).count
      true ≤ 47 → Completes (.offsetAbandon n ()) s fun t => t.fld (F.LRX_CW_STAT_OFFSET n) = (s.fld (F.LRX_CW_STAT_OFFSET n) + 1) % (2 * codeLen s.deep) ∧ t.is
      (F.LRX_CW_STAT_HUNTING n) = true ∧ t.is (F.LRX_CW_STAT_LOCKED n) = s.is (F.LRX_CW_STAT_LOCKED n) ∧ t.fld (F.LRX_CW_STAT_ZERO_COUNT n) = (t.lane n).last64.count true
      ∧ (t.lane n).last64 = (((candidates s.deep (s.lane n).dec).take (k + 1)).reverse ++ (s.lane n).last64).take 64 ∧ (t.lane n).dec = (s.lane n).dec.drop ((k + 4) / 4 *
      (2 * codeLen s.deep) + 1) ∧ s.Only [R.LRX_CW_STAT n] t) ∧
  (∀ (n : Fin 8) (s : State), s.coded = true → s.is (F.LRX_CW_STAT_LOCKED n) = true → (s.lane n).last64.count true < 16 → s.firstFault n → Completes (.codewordLockLoss
      n) s fun t => t.is (F.LRX_CW_STAT_LOCKED n) = false ∧ t.is (F.LRX_CW_EVENT_LOCK_LOST n) = true ∧ t.fld (F.LRX_CW_LOSSES_COUNT n) = min (s.fld (F.LRX_CW_LOSSES_COUNT
      n) + 1) 65535 ∧ (s.halfPair n = true ∨ s.ladderActs n = false → t.is (F.LRX_CW_STAT_HUNTING n) = true ∧ t.fld (F.LRX_CW_STAT_OFFSET n) = s.fld (F.LRX_CW_STAT_OFFSET
      n)) ∧ (s.halfPair n = false → s.is (F.FAULT_LADDER_ACTIVE n) = false → t.fld (F.FAULT_LADDER_LAST_CAUSE n) = 5) ∧ (s.halfPair n = true ∨ s.ladderActs n = false →
      s.OnlyDev (recalRegs ++ [R.FAULT_EVENT, R.FAULT_LOG_DROP, R.FAULT_LADDER n]) t)) ∧
  (∀ (n : Fin 8) (s : State), s.coded = false ∨ s.is (F.LRX_CW_STAT_LOCKED n) = false ∨ 16 ≤ (s.lane n).last64.count true → Completes (.codewordLockLoss n) s fun t =>
      s.Only [] t) ∧
  (∀ (m : Master) (n : Fin 8) (s : State), s.Reached m (R.LRX_CW_CTL n) → s.coded = true → s.running n = true → Completes (.cwRestart m n) s fun t => s.Answered m 0 t ∧
      t.is (F.LRX_CW_STAT_LOCKED n) = false ∧ t.is (F.LRX_CW_STAT_HUNTING n) = true ∧ t.fld (F.LRX_CW_STAT_OFFSET n) = 0 ∧ t.fld (F.LRX_CW_LOSSES_COUNT n) = s.fld
      (F.LRX_CW_LOSSES_COUNT n) ∧ t.is (F.LRX_CW_EVENT_LOCK_LOST n) = s.is (F.LRX_CW_EVENT_LOCK_LOST n) ∧ s.OnlyDev recalRegs t) ∧
  (∀ (m : Master) (n : Fin 8) (s : State), s.Reached m (R.LRX_CW_CTL n) → s.coded = false ∨ s.running n = false → Completes (.cwRestart m n) s fun t => s.Answered m 0 t
      ∧ s.Only [] t) ∧
  (∀ (n : Fin 8) (w : Nat) (rel : List Nat) (s : State), s.coded = true → s.is (F.LRX_CW_STAT_LOCKED n) = true → 2 * codeLen s.deep ≤ (s.lane n).dec.length → s.backedUp
      n = false → w = groupWord s.deep (s.lane n).dec (s.lane n).group.length → rel = groupRels s.deep (s.lane n).dec (s.lane n).group.length → decodeWord s.deep (lrpCount
      s.deep (s.lane n).saver) w rel = none → Completes (.codewordDecode n () ()) s fun t => t.fld (F.LRX_CW_TOTAL_COUNT n) = min (s.fld (F.LRX_CW_TOTAL_COUNT n) + 1)
      0xFFFFFFFF ∧ t.fld (F.LRX_CW_FAIL_COUNT n) = min (s.fld (F.LRX_CW_FAIL_COUNT n) + 1) 0xFFFFFFFF ∧ t.fld (F.LRX_CW_CORR_COUNT n) = s.fld (F.LRX_CW_CORR_COUNT n) ∧
      t.fld (F.LRX_CW_BITS_COUNT n) = s.fld (F.LRX_CW_BITS_COUNT n) ∧ t.is (F.LRX_CW_EVENT_UNCORR n) = true ∧ (((zeroSyndrome s.deep w rel :: (s.lane n).last64).take
      64).count true < 16 → t.is (F.LRX_CW_STAT_LOCKED n) = false ∧ t.fld (F.LRX_CW_LOSSES_COUNT n) = min (s.fld (F.LRX_CW_LOSSES_COUNT n) + 1) 65535) ∧ (16 ≤
      ((zeroSyndrome s.deep w rel :: (s.lane n).last64).take 64).count true → t.is (F.LRX_CW_STAT_LOCKED n) = true ∧ (t.lane n).last64 = (zeroSyndrome s.deep w rel ::
      (s.lane n).last64).take 64) ∧ (16 ≤ ((zeroSyndrome s.deep w rel :: (s.lane n).last64).take 64).count true → (s.lane n).group.length < 3 → (t.lane n).group = (s.lane
      n).group ++ [(BitVec.ofNat 128 (w / 2 ^ parityBits s.deep), true, false)]) ∧ (16 ≤ ((zeroSyndrome s.deep w rel :: (s.lane n).last64).take 64).count true → s.OnlyDev
      xdropRegs t)) ∧
  (∀ (n : Fin 8) (w : Nat) (rel flips : List Nat) (s : State), s.coded = true → s.is (F.LRX_CW_STAT_LOCKED n) = true → 2 * codeLen s.deep ≤ (s.lane n).dec.length →
      s.backedUp n = false → w = groupWord s.deep (s.lane n).dec (s.lane n).group.length → rel = groupRels s.deep (s.lane n).dec (s.lane n).group.length → decodeWord
      s.deep (lrpCount s.deep (s.lane n).saver) w rel = some flips → 16 ≤ ((zeroSyndrome s.deep w rel :: (s.lane n).last64).take 64).count true → Completes
      (.codewordDecode n () ()) s fun t => t.fld (F.LRX_CW_TOTAL_COUNT n) = min (s.fld (F.LRX_CW_TOTAL_COUNT n) + 1) 0xFFFFFFFF ∧ t.fld (F.LRX_CW_CORR_COUNT n) = (if flips
      = [] then s.fld (F.LRX_CW_CORR_COUNT n) else min (s.fld (F.LRX_CW_CORR_COUNT n) + 1) 0xFFFFFFFF) ∧ t.fld (F.LRX_CW_BITS_COUNT n) = (if flips = [] then s.fld
      (F.LRX_CW_BITS_COUNT n) else min (s.fld (F.LRX_CW_BITS_COUNT n) + flips.length) 0xFFFFFFFF) ∧ t.fld (F.LRX_CW_FAIL_COUNT n) = s.fld (F.LRX_CW_FAIL_COUNT n) ∧ t.is
      (F.LRX_CW_STAT_LOCKED n) = true ∧ t.fld (F.LRX_CW_STAT_ZERO_COUNT n) = ((zeroSyndrome s.deep w rel :: (s.lane n).last64).take 64).count true ∧ ((s.lane
      n).group.length < 3 → (t.lane n).group = (s.lane n).group ++ [(BitVec.ofNat 128 (flipAll w flips / 2 ^ parityBits s.deep), false, !flips.isEmpty)]) ∧ (3 ≤ (s.lane
      n).group.length → (t.lane n).group = [] ∧ (t.lane n).dec = (s.lane n).dec.drop (2 * codeLen s.deep)) ∧ s.OnlyDev xdropRegs t) ∧
  (∀ (n : Fin 8) (s : State), s.coded = false ∨ s.is (F.LRX_CW_STAT_LOCKED n) = false ∨ (s.lane n).dec.length < 2 * codeLen s.deep ∨ s.backedUp n = true → Completes
      (.codewordDecode n () ()) s fun t => s.Only [] t) ∧
  (∀ (m : Master) (n : Fin 8) (v : Word) (s : State), s.Reached m (R.LTX_CW_INJ (8 + n)) → s.fld (F.LTX_STATUS_STATE (8 + n)) = 3 → s.coded = true → s.is
      (F.LTX_CW_INJ_PENDING (8 + n)) = false → Completes (.cwInject m n v) s fun t => s.Answered m 0 t ∧ t.is (F.LTX_CW_INJ_PENDING (8 + n)) = true ∧ t.fld
      (F.LTX_CW_INJ_WORD (8 + n)) = bitsOf v.toNat 0 2 ∧ t.fld (F.LTX_CW_INJ_NBITS (8 + n)) = bitsOf v.toNat 2 2 ∧ s.Only [R.LTX_CW_INJ (8 + n)] t) ∧
  (∀ (m : Master) (n : Fin 8) (v : Word) (s : State), s.Reached m (R.LTX_CW_INJ (8 + n)) → s.fld (F.LTX_STATUS_STATE (8 + n)) ≠ 3 ∨ s.coded = false ∨ s.is
      (F.LTX_CW_INJ_PENDING (8 + n)) = true → Completes (.cwInject m n v) s fun t => s.Answered m 1 t ∧ t.is (F.LTX_CW_INJ_REFUSED (8 + n)) = true ∧ t.is
      (F.LTX_CW_INJ_PENDING (8 + n)) = s.is (F.LTX_CW_INJ_PENDING (8 + n)) ∧ s.Only [R.LTX_CW_INJ (8 + n)] t) ∧
  (∀ (t' : Fin 16) (u : Fin 2) (s : State), s.rsActive t' u = true → s.is (F.LRX_RS_STAT_ALIGNED t' u) = false → Completes (.rsAlign t' u) s fun t => t.is
      (F.LRX_RS_STAT_ALIGNED t' u) = s.rsFinds t' u ∧ (s.rsFinds t' u = true → t.rsBits t' u = [] ∧ t.rsPlace t' u = 0) ∧ s.Only [R.LRX_RS_STAT t' u] t) ∧
  (∀ (t' : Fin 16) (u : Fin 2) (s : State), s.rsActive t' u = true → s.is (F.LRX_RS_STAT_ALIGNED t' u) = false → Completes (.rsNoAlign t' u) s fun t => t.is
      (F.LRX_RS_STAT_NO_ALIGN t' u) = true ∧ t.is (F.LRX_RS_STAT_ALIGNED t' u) = false ∧ s.Only [R.LRX_RS_STAT t' u] t) ∧
  (∀ (t' : Fin 16) (u : Fin 2) (s : State), s.rsActive t' u = true → s.is (F.LRX_RS_STAT_ALIGNED t' u) = true → 5440 * (s.rsPlace t' u + 1) ≤ s.bargeSyms * (s.rsBits t'
      u).length → Completes (.rsCodeword t' u ()) s fun t => t.fld (F.LRX_RS_CW_COUNT t' u) = min (s.fld (F.LRX_RS_CW_COUNT t' u) + 1) 0xFFFFFFFF ∧ t.fld
      (F.LRX_RS_UNCORR_COUNT t' u) = min (s.fld (F.LRX_RS_UNCORR_COUNT t' u) + (if s.rsVerdict t' u = none then 1 else 0)) 0xFFFFFFFF ∧ t.fld (F.LRX_RS_SYM_COUNT t' u) =
      min (s.fld (F.LRX_RS_SYM_COUNT t' u) + (s.rsVerdict t' u).getD 0) 0xFFFFFFFF ∧ t.fld (F.LRX_RS_MAXSYM_MAX t' u) = max (s.fld (F.LRX_RS_MAXSYM_MAX t' u))
      ((s.rsVerdict t' u).getD 0) ∧ t.rsPlace t' u = s.rsPlace t' u + 1 ∧ s.Only [R.LRX_RS_CW t' u, R.LRX_RS_SYM t' u, R.LRX_RS_MAXSYM t' u, R.LRX_RS_UNCORR t' u] t) ∧
  (∀ (m : Master) (t' : Fin 16) (u : Fin 2) (v : Word) (s : State), s.Reached m (R.LRX_RS_CTL t' u) → Completes (.rsCtlWrite m t' u v) s fun t => s.Answered m 0 t ∧
      t.rd (R.LRX_RS_CTL t' u) = v &&& 0x1F#32 ∧ t.is (F.LRX_RS_STAT_ALIGNED t' u) = (s.is (F.LRX_RS_STAT_ALIGNED t' u) && s.rd (R.LRX_RS_CTL t' u) == (v &&& 0x1F#32)) ∧
      s.Only [R.LRX_RS_CTL t' u, R.LRX_RS_STAT t' u] t) ∧
  (∀ (t' : Fin 16) (u : Fin 2) (s : State), s.rsActive t' u = false ∨ s.is (F.LRX_RS_STAT_ALIGNED t' u) = true → Completes (.rsAlign t' u) s fun t => s.Only [] t ∧
      t.lanes = s.lanes) ∧
  (∀ (t' : Fin 16) (u : Fin 2) (s : State), s.rsActive t' u = false ∨ s.is (F.LRX_RS_STAT_ALIGNED t' u) = true → Completes (.rsNoAlign t' u) s fun t => s.Only [] t) ∧
  (∀ (t' : Fin 16) (u : Fin 2) (s : State), s.rsActive t' u = false ∨ s.is (F.LRX_RS_STAT_ALIGNED t' u) = false ∨ s.bargeSyms * (s.rsBits t' u).length < 5440 *
      (s.rsPlace t' u + 1) → Completes (.rsCodeword t' u ()) s fun t => s.Only [] t ∧ t.lanes = s.lanes)

/-- On a powered lane in service while its mode's lanes run or start, the reading becomes T_REF and no trigger, retry or GIVEUP is left; a lane that was OFF is up by its kind, and
its sequencer starts the loaded program at ENTRY, or stays stopped and reports cause 0x0A without one; with the second half of a pair up and the transmit synthesiser locked,
training that has not begun starts; a lane that runs already keeps its state; a lane that is off, out of service or not to run is left as it is, and so is every lane while
device fault class 3, under which lanes never start, is active. The modes and the cause 0x0A (chapter 16) are read as in log entry 32; training's start is R162 of chapter 07.
(Rests on 08_calibration.md, 10_lane_programs_supervisor.md, 01_operating_modes.md, 03_host_lanes.md, 04_line_receive.md, 05_line_transmit.md, 07_line_training.md,
16_faults_recovery.md.) -/
def Obligations.StartUpTrimsBringLanesUp : Prop :=
  (∀ (n : Fin 48) (t' : Int) (s : State), s.laneOn n = true → s.oos n = false → s.acting = true → s.running n = true → s.neverStarts = false → Completes
      (.startUpTrimsDone n t') s fun t => t.fld (F.CAL_LANE_REF_T_REF n) = codeOf 10 t' ∧ t.fld (F.CAL_LANE_STAT_STATE n) = 0 ∧ t.fld (F.CAL_LANE_STAT_RETRIES n) = 0 ∧
      s.Only [R.CAL_LANE_REF n, R.CAL_LANE_STAT n] t) ∧
  (∀ (n : Fin 48) (t' : Int) (s : State), 16 ≤ n.val → s.laneOn n = true → s.oos n = false → s.acting = true → s.running n = false → s.seqStopped n = true → s.is
      (F.LRX_SEQ_STAT_LOADED n) = true → s.neverStarts = false → Completes (.startUpTrimsDone n t') s fun t => t.running n = true ∧ (n.val < 32 → t.fld (F.HRX_STATUS_STATE
      n) = 1) ∧ t.fld (F.CAL_LANE_REF_T_REF n) = codeOf 10 t' ∧ t.fld (F.CAL_LANE_STAT_STATE n) = 0 ∧ t.fld (F.LRX_SEQ_STAT_STATE n) = 1 ∧ (t.seq n).pc = s.rd
      (R.LRX_SEQ_ENTRY n) ∧ s.OnlyBlocks [blockOf R.CAL_CTL, blockOf R.FAB_CTL, blockOf (R.MBOX_CH_LO 0), blockOf (R.LRX_SEQ_CTL n), blockOf (R.LTX_CTL (8 + s.lineOf n))]
      t) ∧
  (∀ (n : Fin 48) (t' : Int) (s : State), n.val < 16 → s.halfPair n = false → s.fld (F.LRX_STATUS_ACQ_STATE (n % 8)) = 0 → s.fld (F.LTX_STATUS_STATE (8 + n % 8)) = 0 →
      s.laneOn n = true → s.oos n = false → s.acting = true → s.seqStopped n = true → s.is (F.LRX_SEQ_STAT_LOADED n) = true → s.neverStarts = false → Completes
      (.startUpTrimsDone n t') s fun t => t.running n = true ∧ (n.val < 8 → t.fld (F.LRX_STATUS_ACQ_STATE n) = 1) ∧ (8 ≤ n.val → t.fld (F.LTX_STATUS_STATE n) = 1 ∧ t.is
      (F.LTX_CTL_SQUELCH n) = true ∧ t.fld (F.LTX_BIAS_STAT_NOW n) = s.biasFloor n) ∧ t.fld (F.CAL_LANE_REF_T_REF n) = codeOf 10 t' ∧ t.fld (F.LRX_SEQ_STAT_STATE n) = 1 ∧
      (t.seq n).pc = s.rd (R.LRX_SEQ_ENTRY n) ∧ t.fld (F.LRX_TRN_CTL_STATE (n % 8)) = s.fld (F.LRX_TRN_CTL_STATE (n % 8)) ∧ t.fld (F.CAL_LANE_STAT_STATE n) = 0) ∧
  (∀ (n : Fin 48) (t' : Int) (s : State), n.val < 16 → s.halfPair n = false → s.running n = false → s.running (if n.val < 8 then 8 + n.val else n.val % 8) = true →
      s.laneOn n = true → s.oos n = false → s.acting = true → s.nearEnd = false → s.darkLoop = false → s.is (F.LRX_SEQ_STAT_LOADED n) = true → s.fld (F.LRX_TRN_CTL_STATE
      (n % 8)) = 0 → s.is (F.LTX_STATUS_SYNTH_LOCK (8 + n % 8)) = true → s.rd (R.LTX_FAULT_CAUSE (8 + n % 8)) = 0#32 → s.neverStarts = false → Completes (.startUpTrimsDone
      n t') s fun t => t.running n = true ∧ t.fld (F.CAL_LANE_REF_T_REF n) = codeOf 10 t' ∧ t.fld (F.CAL_LANE_STAT_STATE n) = 0 ∧ t.fld (F.LRX_TRN_CTL_STATE (n % 8)) = (if
      s.is (F.LRX_TRN_CFG_WAKE_FIRST (n % 8)) then 6 else 1) ∧ t.is (F.LTX_CTL_SQUELCH (8 + n % 8)) = false ∧ t.is (F.LRX_TRN_STAT_TIMER_RUN (n % 8)) = true) ∧
  (∀ (n : Fin 48) (t' : Int) (s : State), 16 ≤ n.val → s.laneOn n = true → s.oos n = false → s.acting = true → s.running n = false → s.is (F.LRX_SEQ_STAT_LOADED n) =
      false → s.neverStarts = false → s.firstFault n → Completes (.startUpTrimsDone n t') s fun t => t.is (F.LRX_SEQ_EVENT_NOT_LOADED n) = true ∧ t.fld
      (F.FAULT_LADDER_LAST_CAUSE n) = 10 ∧ t.fld (F.FAULT_LADDER_FAULTS n) = (s.fld (F.FAULT_LADDER_FAULTS n) + 1) % 256 ∧ t.fld (F.CAL_LANE_REF_T_REF n) = codeOf 10 t') ∧
  (∀ (n : Fin 48) (t' : Int) (s : State), s.laneOn n = false ∨ s.oos n = true ∨ s.acting = false ∨ s.neverStarts = true → Completes (.startUpTrimsDone n t') s fun t =>
      s.Only [] t)

/-- The start-up trims of the second half of a whole pair start its training: STATE is ALIGN, or WAKE with WAKE_FIRST set, SRC follows, a dark lane's ramp up begins and the timer
runs; where the lane may not be lit, its synthesiser unlocked or a fault cause set, it stays dark and the pair reports cause 9; the wake pattern of a lit lane ends in ALIGN,
and at any other time nothing does; a write of WAKE takes a pair that can train to WAKE, whatever its training state was, and does nothing on any other. WAKE is read as in log
entry 17; the lighting is R121 of chapter 05, the root R313 of chapter 12, cause 9 R402 of chapter 16. (Rests on 07_line_training.md, 05_line_transmit.md,
12_clocks_power_time.md, 16_faults_recovery.md.) -/
def Obligations.TrainingStartsAndTimesThePair : Prop :=
  (∀ (n : Fin 48) (t' : Int) (s : State), n.val < 16 → s.halfPair n = false → s.running n = false → s.running (if n.val < 8 then 8 + n.val else n.val % 8) = true →
      s.laneOn n = true → s.oos n = false → s.acting = true → s.nearEnd = false → s.darkLoop = false → s.is (F.LRX_SEQ_STAT_LOADED n) = true → s.fld (F.LRX_TRN_CTL_STATE
      (n % 8)) = 0 → s.neverStarts = false → s.firstFault (n % 8) → s.is (F.LTX_STATUS_SYNTH_LOCK (8 + n % 8)) = true → s.rd (R.LTX_FAULT_CAUSE (8 + n % 8)) = 0#32 →
      Completes (.startUpTrimsDone n t') s fun t => t.fld (F.LRX_TRN_CTL_STATE (n % 8)) = (if s.is (F.LRX_TRN_CFG_WAKE_FIRST (n % 8)) then 6 else 1) ∧ t.fld (F.LTX_CTL_SRC
      (8 + n % 8)) = (if s.is (F.LRX_TRN_CFG_WAKE_FIRST (n % 8)) then 2 else 1) ∧ t.is (F.LRX_TRN_STAT_TIMER_RUN (n % 8)) = true ∧ (t.lane (n % 8)).timer = s.clock ∧ (8 ≤
      n.val ∨ s.fld (F.LTX_STATUS_STATE (8 + n % 8)) = 1 → t.fld (F.LTX_STATUS_STATE (8 + n % 8)) = 2) ∧ t.is (F.LTX_CTL_SQUELCH (8 + n % 8)) = false ∧ (t.lane (n %
      8)).started = false) ∧
  (∀ (n : Fin 48) (t' : Int) (s : State), n.val < 16 → s.halfPair n = false → s.running n = false → s.running (if n.val < 8 then 8 + n.val else n.val % 8) = true →
      s.laneOn n = true → s.oos n = false → s.acting = true → s.nearEnd = false → s.darkLoop = false → s.is (F.LRX_SEQ_STAT_LOADED n) = true → s.fld (F.LRX_TRN_CTL_STATE
      (n % 8)) = 0 → s.neverStarts = false → s.firstFault (n % 8) → s.is (F.LTX_STATUS_SYNTH_LOCK (8 + n % 8)) = false ∨ s.rd (R.LTX_FAULT_CAUSE (8 + n % 8)) ≠ 0#32 →
      Completes (.startUpTrimsDone n t') s fun t => t.is (F.LTX_EVENT_RELIGHT_REFUSED (8 + n % 8)) = true ∧ t.fld (F.FAULT_LADDER_LAST_CAUSE (n % 8)) = 9 ∧ t.fld
      (F.FAULT_LADDER_FAULTS (n % 8)) = (s.fld (F.FAULT_LADDER_FAULTS (n % 8)) + 1) % 256 ∧ t.fld (F.LRX_TRN_CTL_STATE (n % 8)) = 0 ∧ (s.is (F.LRX_TRN_STAT_TIMER_RUN (n %
      8)) = false → t.is (F.LRX_TRN_STAT_TIMER_RUN (n % 8)) = false)) ∧
  (∀ (n : Fin 8) (s : State), s.fld (F.LRX_TRN_CTL_STATE n) = 6 → s.fld (F.LTX_STATUS_STATE (n + 8)) = 3 → Completes (.wakePatternEnd n) s fun t => t.fld
      (F.LRX_TRN_CTL_STATE n) = 1 ∧ t.fld (F.LTX_CTL_SRC (n + 8)) = 1 ∧ t.is (F.LRX_TRN_STAT_PEER_OK n) = false ∧ (t.lane n).heard = false ∧ s.Only [R.LRX_TRN_CTL n,
      R.LRX_TRN_STAT n, R.LTX_CTL (n + 8), R.LRX_SEQ_EVT n, R.LTX_SEQ_EVT (n + 8)] t) ∧
  (∀ (n : Fin 8) (s : State), s.fld (F.LRX_TRN_CTL_STATE n) ≠ 6 ∨ s.fld (F.LTX_STATUS_STATE (n + 8)) ≠ 3 → Completes (.wakePatternEnd n) s fun t => s.Only [] t) ∧
  (∀ (m : Master) (n : Fin 8) (s : State), s.Reached m (R.LRX_TRN_CTL n) → s.canTrain n = true → s.mayLight (n + 8) = true → Completes (.trnWake m n) s fun t =>
      s.Answered m 0 t ∧ t.fld (F.LRX_TRN_CTL_STATE n) = 6 ∧ t.fld (F.LTX_CTL_SRC (n + 8)) = 2 ∧ t.is (F.LTX_CTL_SQUELCH (n + 8)) = false ∧ t.is (F.LRX_TRN_STAT_TIMER_RUN
      n) = true ∧ t.fld (F.LRX_TRN_STAT_ELAPSED n) = 0 ∧ t.is (F.LRX_TRN_STAT_RX_DATA n) = false ∧ s.OnlyDev recalRegs t) ∧
  (∀ (m : Master) (n : Fin 8) (s : State), s.Reached m (R.LRX_TRN_CTL n) → s.canTrain n = true → s.mayLight (n + 8) = false → s.firstFault n → Completes (.trnWake m n)
      s fun t => s.Answered m 0 t ∧ t.is (F.LTX_CTL_SQUELCH (8 + n)) = true ∧ t.is (F.LTX_EVENT_RELIGHT_REFUSED (8 + n)) = true ∧ t.fld (F.FAULT_LADDER_LAST_CAUSE n) = 9) ∧
  (∀ (m : Master) (n : Fin 8) (s : State), s.Reached m (R.LRX_TRN_CTL n) → s.canTrain n = false → Completes (.trnWake m n) s fun t => s.Answered m 0 t ∧ s.Only [] t)

/-- While frames are the source and the lane is not dark, a frame leaves with the control field of R157 and its CRC, its 4,096 symbols marker first and inverted by polarity, and
otherwise none does; in COUNTDOWN each frame takes the count down by one, and the frame with count 0 is followed by data: STATE is DATA, SRC 0 and HANDOVER_DONE is set. A
frame at the qualified alignment of a LOCKED lane with a wrong CRC counts in CRC_ERR and breaks the PEER_OK run; one from a foreign lane counts as ID_ERR, and the 64th in a
row is the fault 7; an accepted one counts as GOOD, stands in RXF, and its state is PEER_STATE; eight ready frames in a row of the same mode and rate set PEER_OK, one that is
not ready clears it, and one of another mode or rate is flagged and breaks the run; a new request is remembered, and a countdown frame announces data. Elsewhere, or unlocked,
a frame is ignored. The runs a wrong CRC breaks are log entry 36, the countdown frames log entry 37, the symbols sent log entry 105 - the model's readings; cause 7 is of
chapter 16. (Rests on 07_line_training.md, 16_faults_recovery.md.) -/
def Obligations.TrainingFramesAreSentAndChecked : Prop :=
  (∀ (n : Fin 8) (s : State), (s.lane (n + 8)).src = 1 → s.ltxDark (n + 8) = false → s.fld (F.LRX_TRN_CTL_STATE n) ≠ 4 → Completes (.trainingFrameSend n) s fun t =>
      .frame (n + 8) (s.control n) (BitVec.ofNat 16 (crcOf (s.control n).toNat)) (fillSeed n) ∈ t.out ∧ .symbols (n + 8) ((frameSymbols n (s.control n).toNat).map (invert
      (s.lane (n + 8)).inv)) ∈ t.out ∧ (frameSymbols n (s.control n).toNat).length = 4096 ∧ (frameSymbols n (s.control n).toNat).take 64 = marker ∧ bitsOf (s.control
      n).toNat 124 4 = 1 ∧ bitsOf (s.control n).toNat 120 4 = s.fld (F.LRX_TRN_CTL_STATE n) ∧ bitsOf (s.control n).toNat 117 3 = n ∧ bitsOf (s.control n).toNat 116 1 =
      s.fld (F.LRX_TRN_CTL_RX_READY n) ∧ bitsOf (s.control n).toNat 108 8 = s.fld (F.LRX_TRN_TAG_LOCAL n) ∧ bitsOf (s.control n).toNat 105 3 = s.lineMode % 8 ∧ bitsOf
      (s.control n).toNat 104 1 = b2n s.lineRate ∧ bitsOf (s.control n).toNat 61 4 = 15 ∧ ((s.nearEnd && s.running n && !s.oos n) = false → s.Only [] t)) ∧
  (∀ (n : Fin 8) (s : State), (s.lane (n + 8)).src = 1 → s.ltxDark (n + 8) = false → s.fld (F.LRX_TRN_CTL_STATE n) = 4 → 2 ≤ (s.lane n).cdLeft → (s.lane n).cdLeft ≤ 16
      → Completes (.trainingFrameSend n) s fun t => .frame (n + 8) (s.control n) (BitVec.ofNat 16 (crcOf (s.control n).toNat)) (fillSeed n) ∈ t.out ∧ .symbols (n + 8)
      ((frameSymbols n (s.control n).toNat).map (invert (s.lane (n + 8)).inv)) ∈ t.out ∧ bitsOf (s.control n).toNat 61 4 = (s.lane n).cdLeft - 1 ∧ (t.lane n).cdLeft =
      (s.lane n).cdLeft - 1 ∧ t.fld (F.LRX_TRN_STAT_COUNTDOWN n) = (s.lane n).cdLeft - 1 ∧ ((s.nearEnd && s.running n && !s.oos n) = false → s.Only [R.LRX_TRN_STAT n] t)) ∧
  (∀ (n : Fin 8) (s : State), (s.lane (n + 8)).src = 1 → s.ltxDark (n + 8) = false → s.fld (F.LRX_TRN_CTL_STATE n) = 4 → (s.lane n).cdLeft = 1 → Completes
      (.trainingFrameSend n) s fun t => .frame (n + 8) (s.control n) (BitVec.ofNat 16 (crcOf (s.control n).toNat)) (fillSeed n) ∈ t.out ∧ bitsOf (s.control n).toNat 61 4 =
      0 ∧ t.fld (F.LRX_TRN_CTL_STATE n) = 5 ∧ t.fld (F.LTX_CTL_SRC (n + 8)) = 0 ∧ (t.lane (n + 8)).src = 0 ∧ t.is (F.LRX_TRN_EVENT_HANDOVER_DONE n) = true ∧ ((s.nearEnd &&
      s.running n && !s.oos n) = false → s.OnlyDev recalRegs t)) ∧
  (∀ (n : Fin 8) (s : State), (s.lane (n + 8)).src ≠ 1 ∨ s.ltxDark (n + 8) = true → Completes (.trainingFrameSend n) s fun t => t.out = s.out ∧ t.lanes = s.lanes ∧
      s.Only [] t) ∧
  (∀ (n : Fin 8) (c : BitVec 128) (crc : BitVec 16) (pos : Nat) (s : State), s.fld (F.LRX_STATUS_ACQ_STATE n) ≠ 6 ∨ (s.lane n).frames = false ∨ pos % 4096 ≠ (s.lane
      n).align → Completes (.trainingFrameReceived n c crc pos) s fun t => t.lanes = s.lanes ∧ s.Only [] t) ∧
  (∀ (n : Fin 8) (c : BitVec 128) (crc : BitVec 16) (pos : Nat) (s : State), s.fld (F.LRX_STATUS_ACQ_STATE n) = 6 → (s.lane n).frames = true → pos % 4096 = (s.lane
      n).align → crc.toNat ≠ crcOf c.toNat → Completes (.trainingFrameReceived n c crc pos) s fun t => t.fld (F.LRX_TRN_CRC_ERR_COUNT n) = min (s.fld
      (F.LRX_TRN_CRC_ERR_COUNT n) + 1) 0xFFFF ∧ (t.lane n).okRun = 0 ∧ (t.lane n).rxf = (s.lane n).rxf ∧ s.Only [R.LRX_TRN_CRC_ERR n] t) ∧
  (∀ (n : Fin 8) (c : BitVec 128) (pos : Nat) (s : State), s.fld (F.LRX_STATUS_ACQ_STATE n) = 6 → (s.lane n).frames = true → pos % 4096 = (s.lane n).align →
      s.frameForeign n c = true → (s.lane n).badRun < 63 → Completes (.trainingFrameReceived n c (BitVec.ofNat 16 (crcOf c.toNat)) pos) s fun t => t.fld
      (F.LRX_TRN_ID_ERR_COUNT n) = min (s.fld (F.LRX_TRN_ID_ERR_COUNT n) + 1) 0xFFFF ∧ t.is (F.LRX_TRN_EVENT_ID_MISMATCH n) = true ∧ (t.lane n).okRun = 0 ∧ (t.lane
      n).badRun = (s.lane n).badRun + 1 ∧ (t.lane n).rxf = (s.lane n).rxf ∧ s.Only [R.LRX_TRN_ID_ERR n, R.LRX_TRN_EVENT n] t) ∧
  (∀ (n : Fin 8) (c : BitVec 128) (pos : Nat) (s : State), s.fld (F.LRX_STATUS_ACQ_STATE n) = 6 → (s.lane n).frames = true → pos % 4096 = (s.lane n).align →
      s.frameForeign n c = true → 63 ≤ (s.lane n).badRun → s.halfPair n = false → s.firstFault n → Completes (.trainingFrameReceived n c (BitVec.ofNat 16 (crcOf c.toNat))
      pos) s fun t => t.fld (F.LRX_TRN_ID_ERR_COUNT n) = min (s.fld (F.LRX_TRN_ID_ERR_COUNT n) + 1) 0xFFFF ∧ (t.lane n).badRun = 0 ∧ t.fld (F.FAULT_LADDER_LAST_CAUSE n) =
      7) ∧
  (∀ (n : Fin 8) (c : BitVec 128) (pos : Nat) (s : State), s.fld (F.LRX_STATUS_ACQ_STATE n) = 6 → (s.lane n).frames = true → pos % 4096 = (s.lane n).align →
      s.frameForeign n c = false → Completes (.trainingFrameReceived n c (BitVec.ofNat 16 (crcOf c.toNat)) pos) s fun t => t.fld (F.LRX_TRN_GOOD_COUNT n) = min (s.fld
      (F.LRX_TRN_GOOD_COUNT n) + 1) 0xFFFF ∧ t.is (F.LRX_TRN_EVENT_RX_FRAME n) = true ∧ (t.lane n).rxf = c ∧ (t.lane n).badRun = 0 ∧ (t.lane n).heard = true ∧ t.fld
      (F.LRX_TRN_STAT_PEER_STATE n) = ctrlBits c 120 4 ∧ t.is (F.LRX_TRN_STAT_MISMATCH n) = (ctrlBits c 105 3 != s.lineMode || ctrlBits c 104 1 != b2n s.lineRate) ∧
      (ctrlBits c 105 3 ≠ s.lineMode ∨ ctrlBits c 104 1 ≠ b2n s.lineRate → t.is (F.LRX_TRN_EVENT_MODE_MISMATCH n) = true ∧ (t.lane n).okRun = 0) ∧ (ctrlBits c 83 8 ≠ 0 →
      (t.lane n).lastReq = ctrlBits c 83 8) ∧ (ctrlBits c 120 4 = 4 → s.is (F.LRX_TRN_STAT_RX_DATA n) = false → (t.lane n).peerData = true) ∧ (ctrlBits c 116 1 = 0 → t.is
      (F.LRX_TRN_STAT_PEER_OK n) = false) ∧ (ctrlBits c 116 1 = 1 → ctrlBits c 105 3 = s.lineMode → ctrlBits c 104 1 = b2n s.lineRate → 7 ≤ (s.lane n).okRun → t.is
      (F.LRX_TRN_STAT_PEER_OK n) = true) ∧ s.Only [R.LRX_TRN_GOOD n, R.LRX_TRN_EVENT n, R.LRX_TRN_STAT n, R.LRX_SEQ_EVT n, R.LTX_SEQ_EVT (8 + n)] t)

/-- ALIGN gives TUNE on a LOCKED lane that has accepted a frame, TUNE gives READY with RX_READY set, TUNE and READY give ALIGN, which clears PEER_OK, and no other value written
changes the state; HANDOVER starts the countdown of 16 frames from READY with PEER_OK, and is refused in EVENT without PEER_OK; ACK_TO sets its event; the partner's data start
sets RX_DATA and PEER_HANDOVER; a read of RXF[0] latches the other words. RX_READY at the write of ALIGN is log entry 83, what announces a data start log entry 37: the model's
readings. (Rests on 07_line_training.md.) -/
def Obligations.TrainingProgramsMoveTheState : Prop :=
  (∀ (m : Master) (n : Fin 8) (v : Word) (s : State), s.Reached m (R.LRX_TRN_CTL n) → bitsOf v.toNat 0 4 = 2 → bitsOf v.toNat 5 3 = 0 → s.fld (F.LRX_TRN_CTL_STATE n) =
      1 → s.fld (F.LRX_STATUS_ACQ_STATE n) = 6 → (s.lane n).heard = true → Completes (.trnStateWrite m n v) s fun t => s.Answered m 0 t ∧ t.fld (F.LRX_TRN_CTL_STATE n) = 2
      ∧ t.fld (F.LRX_TRN_TXREQ_REQ_SEQ n) = 0 ∧ t.fld (F.LRX_TRN_CTL_RX_READY n) = b2n (bitAt v.toNat 4) ∧ s.Only [R.LRX_TRN_CTL n, R.LRX_TRN_TXREQ n, R.LRX_SEQ_EVT n,
      R.LTX_SEQ_EVT (8 + n)] t) ∧
  (∀ (m : Master) (n : Fin 8) (v : Word) (s : State), s.Reached m (R.LRX_TRN_CTL n) → bitsOf v.toNat 0 4 = 3 → bitsOf v.toNat 5 3 = 0 → s.fld (F.LRX_TRN_CTL_STATE n) =
      2 → Completes (.trnStateWrite m n v) s fun t => s.Answered m 0 t ∧ t.fld (F.LRX_TRN_CTL_STATE n) = 3 ∧ t.is (F.LRX_TRN_CTL_RX_READY n) = true ∧ s.Only [R.LRX_TRN_CTL
      n, R.LRX_SEQ_EVT n, R.LTX_SEQ_EVT (8 + n)] t) ∧
  (∀ (m : Master) (n : Fin 8) (v : Word) (s : State), s.Reached m (R.LRX_TRN_CTL n) → bitsOf v.toNat 0 4 = 1 → bitsOf v.toNat 5 3 = 0 → s.fld (F.LRX_TRN_CTL_STATE n) =
      2 ∨ s.fld (F.LRX_TRN_CTL_STATE n) = 3 → Completes (.trnStateWrite m n v) s fun t => s.Answered m 0 t ∧ t.fld (F.LRX_TRN_CTL_STATE n) = 1 ∧ t.is
      (F.LRX_TRN_STAT_PEER_OK n) = false ∧ (t.lane n).heard = false ∧ t.fld (F.LRX_TRN_CTL_RX_READY n) = b2n (bitAt v.toNat 4) ∧ s.Only [R.LRX_TRN_CTL n, R.LRX_TRN_STAT n,
      R.LRX_SEQ_EVT n, R.LTX_SEQ_EVT (8 + n)] t) ∧
  (∀ (m : Master) (n : Fin 8) (v : Word) (s : State), s.Reached m (R.LRX_TRN_CTL n) → bitsOf v.toNat 5 3 = 0 → bitsOf v.toNat 0 4 ≠ 1 ∨ (s.fld (F.LRX_TRN_CTL_STATE n) ≠
      2 ∧ s.fld (F.LRX_TRN_CTL_STATE n) ≠ 3) → bitsOf v.toNat 0 4 ≠ 2 ∨ s.fld (F.LRX_TRN_CTL_STATE n) ≠ 1 ∨ s.fld (F.LRX_STATUS_ACQ_STATE n) ≠ 6 ∨ (s.lane n).heard = false
      → bitsOf v.toNat 0 4 ≠ 3 ∨ s.fld (F.LRX_TRN_CTL_STATE n) ≠ 2 → Completes (.trnStateWrite m n v) s fun t => s.Answered m 0 t ∧ t.fld (F.LRX_TRN_CTL_STATE n) = s.fld
      (F.LRX_TRN_CTL_STATE n) ∧ t.fld (F.LRX_TRN_CTL_RX_READY n) = b2n (bitAt v.toNat 4) ∧ s.Only [R.LRX_TRN_CTL n] t) ∧
  (∀ (m : Master) (n : Fin 8) (s : State), s.Reached m (R.LRX_TRN_CTL n) → s.fld (F.LRX_TRN_CTL_STATE n) = 3 → s.is (F.LRX_TRN_STAT_PEER_OK n) = true → Completes
      (.handover m n) s fun t => s.Answered m 0 t ∧ t.fld (F.LRX_TRN_CTL_STATE n) = 4 ∧ (t.lane n).cdLeft = 16 ∧ t.is (F.LTX_CTL_PRECODE (n + 8)) = (ctrlBits (s.lane
      n).rxf 103 1 == 1) ∧ t.is (F.LRX_CTL_PRECODE n) = (s.is (F.LRX_TRN_CFG_PRECODE_REQ n) && ctrlBits (s.lane n).rxf 102 1 == 1) ∧ s.Only [R.LRX_TRN_CTL n, R.LTX_CTL (n
      + 8), R.LRX_CTL n, R.LRX_SEQ_EVT n, R.LTX_SEQ_EVT (8 + n)] t) ∧
  (∀ (m : Master) (n : Fin 8) (s : State), s.Reached m (R.LRX_TRN_CTL n) → s.is (F.LRX_TRN_STAT_PEER_OK n) = false → Completes (.handover m n) s fun t => s.Answered m 0
      t ∧ t.is (F.LRX_TRN_EVENT_HANDOVER_REFUSED n) = true ∧ t.fld (F.LRX_TRN_CTL_STATE n) = s.fld (F.LRX_TRN_CTL_STATE n) ∧ (t.lane n).cdLeft = (s.lane n).cdLeft ∧ s.Only
      [R.LRX_TRN_EVENT n] t) ∧
  (∀ (m : Master) (n : Fin 8) (s : State), s.Reached m (R.LRX_TRN_CTL n) → Completes (.ackTo m n) s fun t => s.Answered m 0 t ∧ t.is (F.LRX_TRN_EVENT_ACK_TIMEOUT n) =
      true ∧ t.rd (R.LRX_TRN_CTL n) = s.rd (R.LRX_TRN_CTL n) ∧ s.Only [R.LRX_TRN_EVENT n] t) ∧
  (∀ (n : Fin 8) (s : State), (s.lane n).peerData = true → s.is (F.LRX_TRN_STAT_RX_DATA n) = false → Completes (.peerDataStart n) s fun t => t.is
      (F.LRX_TRN_STAT_RX_DATA n) = true ∧ t.is (F.LRX_TRN_EVENT_PEER_HANDOVER n) = true ∧ (t.lane n).peerData = false ∧ t.fld (F.LRX_TRN_CTL_STATE n) = s.fld
      (F.LRX_TRN_CTL_STATE n) ∧ t.is (F.LRX_CW_STAT_HUNTING n) = s.coded ∧ s.OnlyDev recalRegs t) ∧
  (∀ (n : Fin 8) (s : State), (s.lane n).peerData = false ∨ s.is (F.LRX_TRN_STAT_RX_DATA n) = true → Completes (.peerDataStart n) s fun t => s.Only [] t) ∧
  (∀ (m : Master) (n : Fin 8) (s : State), s.Reached m (R.LRX_TRN_RXF n 0) → Completes (.trnRxfRead m n) s fun t => s.Returned m 0 (BitVec.ofNat 32 (s.lane
      n).rxf.toNat) t ∧ (t.lane n).rxfLatch = (s.lane n).rxf ∧ s.Only [] t)

/-- A held trigger starts when data resumes; fit input goes on to the measurement, unfit input ends the attempt in RETRY, or in GIVEUP after eight retries; the measurement's end
takes trims, free values, into force at once in a mode without groups and leaves them pending in one with; no boundary within 1 ms steps them in; a retry is the next attempt,
deferred when the lane does not release data; each of these events in another state of the lane changes nothing. A CAL.CMD for no lane, a lane out of service or unusable, one
that does not release data, or one that calibrates already gives the reason of R190 and the error, and starts nothing; one accepted starts an attempt with no retry counted. A
background window of a running lane with fit input raises LAP_US to its longest lap and leaves a step of its branches' trims for the next barge boundary (their sense is the
model's choice, log entry 93); with unfit input it counts as skipped; while background calibration is held it changes nothing. The order of the refusals, RETRIES and the
deferred retry are log entry 39, the windows' operands log entry 38, LAP_US log entry 119: the model's. (Rests on 08_calibration.md.) -/
def Obligations.RecalibrationRunsAndIsCommanded : Prop :=
  (∀ (n : Fin 48) (s : State), s.calState n = 1 → s.releasing n = true → s.laneOn n = true → Completes (.deferredRecalStart n) s fun t => t.fld (F.CAL_LANE_STAT_STATE
      n) = 2 ∧ t.fld (F.CAL_LANE_STAT_RETRIES n) = 0 ∧ bitAt (t.fld (F.LRX_SEQ_EVT_LINES n)) 1 = true ∧ (t.lane n).calT = s.tempNow n ∧ (t.lane n).pauseAt = s.clock ∧
      (t.lane n).fit = false ∧ s.Only [R.CAL_LANE_STAT n, R.LRX_SEQ_EVT n] t) ∧
  (∀ (n : Fin 48) (s : State), s.calState n ≠ 1 ∨ s.releasing n = false → Completes (.deferredRecalStart n) s fun t => s.Only [] t ∧ t.lanes = s.lanes) ∧
  (∀ (n : Fin 48) (levels : List Nat) (acorr : List Int) (s : State), fitnessWindow levels acorr = true → fitInput levels acorr = true → s.calState n = 2 → (s.lane
      n).fit = false → Completes (.fitnessWindowEnd n levels acorr) s fun t => (t.lane n).fit = true ∧ s.Only [] t) ∧
  (∀ (n : Fin 48) (levels : List Nat) (acorr : List Int) (s : State), fitnessWindow levels acorr = true → s.calState n ≠ 2 ∨ (s.lane n).fit = true → Completes
      (.fitnessWindowEnd n levels acorr) s fun t => s.Only [] t ∧ t.lanes = s.lanes) ∧
  (∀ (n : Fin 48) (levels : List Nat) (acorr : List Int) (s : State), fitnessWindow levels acorr = true → fitInput levels acorr = false → s.calState n = 2 → (s.lane
      n).fit = false → Completes (.fitnessWindowEnd n levels acorr) s fun t => t.fld (F.CAL_LANE_STAT_STATE n) = (if 8 ≤ s.fld (F.CAL_LANE_STAT_RETRIES n) then 5 else 4) ∧
      bitAt (t.fld (unfitFld n)) (n % 32) = true ∧ t.is F.CAL_EVENT_UNFIT = true ∧ (8 ≤ s.fld (F.CAL_LANE_STAT_RETRIES n) → t.is F.CAL_EVENT_GIVEUP = true) ∧ t.fld
      (F.CAL_LANE_STAT_LAST_PAUSE n) = min (usOf (s.clock - (s.lane n).pauseAt)) 0xFFFF ∧ t.fld (F.CAL_LANE_STAT_RETRIES n) = s.fld (F.CAL_LANE_STAT_RETRIES n) ∧ s.Only
      [R.CAL_LANE_STAT n, R.CAL_EVENT, R.CAL_UNFIT_LO, R.CAL_UNFIT_HI, R.LRX_SEQ_EVT n] t) ∧
  (∀ (n : Fin 48) (us : Nat) (s : State), s.calState n = 2 → (s.lane n).fit = true → s.coded = false → Completes (.recalMeasureEnd n us) s fun t => t.fld
      (F.CAL_LANE_STAT_STATE n) = 0 ∧ t.is (F.CAL_LANE_STAT_LAST_STEP n) = true ∧ t.fld (F.CAL_LANE_STAT_LAST_PAUSE n) = min us 0xFFFF ∧ t.fld (F.CAL_LANE_STAT_RETRIES n)
      = 0 ∧ t.fld (F.CAL_LANE_REF_T_REF n) = (s.lane n).calT % 1024 ∧ t.fld F.CAL_RECAL_COUNT_COUNT = min (s.fld F.CAL_RECAL_COUNT_COUNT + 1) 0xFFFF ∧ t.fld
      F.CAL_STEP_COUNT_COUNT = min (s.fld F.CAL_STEP_COUNT_COUNT + 1) 0xFFFF ∧ t.is F.CAL_EVENT_DONE = true ∧ t.is F.CAL_EVENT_STEPPED = true ∧ (t.lane n).trim =
      Config.freeWord s.free ∧ t.free = s.free + 1 ∧ s.Only [R.CAL_LANE_STAT n, R.CAL_LANE_REF n, R.CAL_EVENT, R.CAL_RECAL_COUNT, R.CAL_STEP_COUNT, R.LRX_SEQ_EVT n] t) ∧
  (∀ (n : Fin 48) (us : Nat) (s : State), s.calState n = 2 → (s.lane n).fit = true → s.coded = true → Completes (.recalMeasureEnd n us) s fun t => t.fld
      (F.CAL_LANE_STAT_STATE n) = 3 ∧ t.fld (F.CAL_LANE_STAT_LAST_PAUSE n) = min us 0xFFFF ∧ t.rd (R.CAL_LANE_REF n) = s.rd (R.CAL_LANE_REF n) ∧ (t.lane n).trimNext =
      Config.freeWord s.free ∧ (t.lane n).trim = (s.lane n).trim ∧ t.free = s.free + 1 ∧ s.Only [R.CAL_LANE_STAT n, R.LRX_SEQ_EVT n] t) ∧
  (∀ (n : Fin 48) (us : Nat) (s : State), s.calState n ≠ 2 ∨ (s.lane n).fit = false → Completes (.recalMeasureEnd n us) s fun t => s.Only [] t ∧ t.lanes = s.lanes) ∧
  (∀ (n : Fin 48) (s : State), s.calState n = 3 → Completes (.recalStepTimeout n) s fun t => t.fld (F.CAL_LANE_STAT_STATE n) = 0 ∧ t.is (F.CAL_LANE_STAT_LAST_STEP n) =
      true ∧ t.is F.CAL_EVENT_STEPPED = true ∧ t.fld (F.CAL_LANE_REF_T_REF n) = (s.lane n).calT % 1024 ∧ t.fld F.CAL_STEP_COUNT_COUNT = min (s.fld F.CAL_STEP_COUNT_COUNT +
      1) 0xFFFF ∧ (t.lane n).trim = (s.lane n).trimNext ∧ s.Only [R.CAL_LANE_STAT n, R.CAL_LANE_REF n, R.CAL_EVENT, R.CAL_RECAL_COUNT, R.CAL_STEP_COUNT] t) ∧
  (∀ (n : Fin 48) (s : State), s.calState n ≠ 3 → Completes (.recalStepTimeout n) s fun t => s.Only [] t) ∧
  (∀ (n : Fin 48) (s : State), s.calState n = 4 → s.releasing n = true → s.fld (F.CAL_LANE_STAT_RETRIES n) < 8 → Completes (.recalRetry n) s fun t => t.fld
      (F.CAL_LANE_STAT_STATE n) = 2 ∧ t.fld (F.CAL_LANE_STAT_RETRIES n) = s.fld (F.CAL_LANE_STAT_RETRIES n) + 1 ∧ (t.lane n).pauseAt = s.clock ∧ s.Only [R.CAL_LANE_STAT n,
      R.LRX_SEQ_EVT n] t) ∧
  (∀ (n : Fin 48) (s : State), s.calState n = 4 → s.releasing n = false → Completes (.recalRetry n) s fun t => t.fld (F.CAL_LANE_STAT_STATE n) = 1 ∧ t.fld
      (F.CAL_LANE_STAT_RETRIES n) = s.fld (F.CAL_LANE_STAT_RETRIES n) ∧ s.Only [R.CAL_LANE_STAT n] t) ∧
  (∀ (n : Fin 48) (s : State), s.calState n ≠ 4 → Completes (.recalRetry n) s fun t => s.Only [] t) ∧
  (∀ (m : Master) (v : Word) (s : State) (n : Nat), s.Reached m R.CAL_CMD → n = bitsOf v.toNat 0 6 → 48 ≤ n ∨ s.oos n = true ∨ s.unusable n = true ∨ s.releasing n =
      false ∨ (s.calState n ≠ 0 ∧ s.calState n ≠ 4 ∧ s.calState n ≠ 5) → Completes (.calCmd m v) s fun t => s.Answered m 1 t ∧ t.fld F.CAL_CMD_REASON = (if 48 ≤ n then 4
      else if s.oos n = true ∨ s.unusable n = true then 3 else if s.releasing n = false then 2 else 1) ∧ t.fld F.CAL_CMD_LANE = bitsOf v.toNat 0 6 ∧ t.is
      F.CAL_EVENT_CMD_REFUSED = true ∧ s.Only [R.CAL_CMD, R.CAL_EVENT] t) ∧
  (∀ (m : Master) (v : Word) (n : Fin 48) (s : State), s.Reached m R.CAL_CMD → bitsOf v.toNat 0 6 = n.val → s.oos n = false → s.unusable n = false → s.releasing n =
      true → s.calState n = 0 ∨ s.calState n = 4 ∨ s.calState n = 5 → Completes (.calCmd m v) s fun t => s.Answered m 0 t ∧ t.fld (F.CAL_LANE_STAT_STATE n) = 2 ∧ t.fld
      (F.CAL_LANE_STAT_RETRIES n) = 0 ∧ t.fld F.CAL_CMD_LANE = n.val ∧ (t.lane n).fit = false ∧ s.Only [R.CAL_CMD, R.CAL_LANE_STAT n, R.LRX_SEQ_EVT n] t) ∧
  (∀ (r : Fin 24) (levels : List Nat) (sums : List Int × List (Int × Int × Int)) (lapUs : Nat) (s : State), fitnessWindow levels sums.1 = true → sums.2.length =
      branches (rxLane r) → s.is F.CAL_CTL_BG_EN = true → s.fld F.THERM_STAT_LEVEL < 2 → isData s.runMode = true → s.running (rxLane r) = true → s.nearEnd = false →
      s.calState (rxLane r) ≠ 2 → s.calState (rxLane r) ≠ 3 → Completes (.backgroundCalWindow r levels sums lapUs) s fun t => t.fld F.CAL_BG_STAT_LAP_US = (if fitInput
      levels sums.1 then max (s.fld F.CAL_BG_STAT_LAP_US) (min lapUs 0xFFFF) else s.fld F.CAL_BG_STAT_LAP_US) ∧ t.fld F.CAL_BG_STAT_SKIP = (if fitInput levels sums.1 then
      s.fld F.CAL_BG_STAT_SKIP else min (s.fld F.CAL_BG_STAT_SKIP + 1) 0xFFFF) ∧ (t.lane (rxLane r)).branchStep = (if fitInput levels sums.1 then branchSteps sums.2 else
      (s.lane (rxLane r)).branchStep) ∧ (t.lane (rxLane r)).branch = (s.lane (rxLane r)).branch ∧ s.Only [R.CAL_BG_STAT] t) ∧
  (∀ (r : Fin 24) (levels : List Nat) (sums : List Int × List (Int × Int × Int)) (lapUs : Nat) (s : State), fitnessWindow levels sums.1 = true → sums.2.length =
      branches (rxLane r) → s.is F.CAL_CTL_BG_EN = false ∨ 2 ≤ s.fld F.THERM_STAT_LEVEL ∨ isData s.runMode = false ∨ s.running (rxLane r) = false ∨ s.nearEnd = true ∨
      s.calState (rxLane r) = 2 ∨ s.calState (rxLane r) = 3 → Completes (.backgroundCalWindow r levels sums lapUs) s fun t => s.Only [] t ∧ t.lanes = s.lanes)

/-- At a barge boundary of a powered lane the inversion, precoding, source and pattern settings come into force, a waiting statistics window of a receive lane starts with the
LOG2N, within its limits, and HIST_SRC that were set, and a step of the branch trims is applied, or dropped during a recalibration; a waiting commit is taken. At a group
boundary line 3 is set, a waiting commit of a group is taken, pending trims come into force without being counted as stepped in, the decoder takes the throttle level, and a
pending codeword injection is taken; a lane without groups has none. The commits are R208 of chapter 09, the line receiver's window R86 of chapter 04; what is latched when is
log entries 26, 27 and 116, WORD and NBITS of the injection log entry 118. (Rests on 03_host_lanes.md, 05_line_transmit.md, 06_inner_code.md, 08_calibration.md,
14_monitor_thermal.md, 04_line_receive.md, 09_ecnak_isa.md.) -/
def Obligations.BoundariesTakeWhatWaitsForThem : Prop :=
  (∀ (n : Fin 48) (s : State), 8 ≤ n.val → n.val < 16 → s.laneOn n = true → Completes (.bargeBoundary n) s fun t => (t.lane n).inv = s.is (F.LTX_CTL_INV n) ∧ (t.lane
      n).precode = s.is (F.LTX_CTL_PRECODE n) ∧ (t.lane n).src = (if s.fld (F.LTX_CTL_SRC n) = 3 then 0 else s.fld (F.LTX_CTL_SRC n)) ∧ (t.lane n).patSel = s.fld
      (F.LTX_PAT_SEL n) ∧ (t.lane n).patEn = s.is (F.LTX_PAT_EN n) ∧ t.is (F.LTX_STATUS_PRECODE_ON n) = s.is (F.LTX_CTL_PRECODE n) ∧ ((s.seq n).cmt = none → s.Only
      [R.LTX_STATUS n] t) ∧ s.OnlyLanes [n.val] t) ∧
  (∀ (n : Fin 48) (s : State), n.val < 8 ∨ 16 ≤ n.val ∧ n.val < 32 → s.laneOn n = true → (s.lane n).corrGo = true → Completes (.bargeBoundary n) s fun t => (t.lane
      n).corrRun = true ∧ (t.lane n).corrGo = false ∧ (t.lane n).corrLog = (if n.val < 8 then max 10 (min 20 (s.fld (F.LRX_CORR_CTL_LOG2N n))) else max 10 (min 18 (s.fld
      (F.HRX_CORR_CTL_LOG2N n)))) ∧ (t.lane n).corrSrc = (decide (n.val < 8) && s.is (F.LRX_CORR_CTL_HIST_SRC n)) ∧ (t.lane n).stat = Stat.init ∧ (16 ≤ n.val → (t.lane
      n).inv = s.is (F.HRX_CTL_INV n)) ∧ ((s.seq n).cmt = none → s.Only [] t) ∧ s.OnlyLanes [n.val] t) ∧
  (∀ (n : Fin 48) (s : State), n.val < 8 ∨ 16 ≤ n.val ∧ n.val < 32 → s.laneOn n = true → (s.lane n).branchStep ≠ [] → Completes (.bargeBoundary n) s fun t => (t.lane
      n).branchStep = [] ∧ (t.lane n).branch = (if s.calState n = 2 ∨ s.calState n = 3 then (s.lane n).branch else stepBranches (branches n) (s.lane n).branch (s.lane
      n).branchStep) ∧ s.OnlyLanes [n.val] t) ∧
  (∀ (n : Fin 48) (d : Nat) (s : State), s.laneOn n = true → (s.seq n).cmt = some (d, false) → s.paused n = false → s.shadowOk n = true → Completes (.bargeBoundary n) s
      fun t => t.bankB n = !s.bankB n ∧ (∀ w : Fin 64, t.activeWord n w = s.shadowWord n w) ∧ (t.seq n).cmt = none ∧ (t.seq n).pc = (s.seq n).pc + 4#32 ∧ (t.seq n).z =
      true ∧ t.g n d = 0#32 ∧ s.OnlyLanes [n.val] t) ∧
  (∀ (n : Fin 48) (s : State), s.laneOn n = false → Completes (.bargeBoundary n) s fun t => s.Only [] t ∧ t.lanes = s.lanes) ∧
  (∀ (n : Fin 48) (s : State), s.hasGroups n = true → s.laneOn n = true → s.calState n = 3 → Completes (.groupBoundary n) s fun t => t.fld (F.CAL_LANE_STAT_STATE n) = 0
      ∧ t.is (F.CAL_LANE_STAT_LAST_STEP n) = false ∧ t.fld (F.CAL_LANE_REF_T_REF n) = (s.lane n).calT % 1024 ∧ t.fld F.CAL_RECAL_COUNT_COUNT = min (s.fld
      F.CAL_RECAL_COUNT_COUNT + 1) 0xFFFF ∧ t.fld F.CAL_STEP_COUNT_COUNT = s.fld F.CAL_STEP_COUNT_COUNT ∧ (t.lane n).trim = (s.lane n).trimNext ∧ bitAt (t.fld
      (F.LRX_SEQ_EVT_LINES n)) 3 = true ∧ ((s.seq n).cmt = none → s.Only [R.CAL_LANE_STAT n, R.CAL_LANE_REF n, R.CAL_EVENT, R.CAL_RECAL_COUNT, R.LRX_SEQ_EVT n,
      R.LTX_CW_INJ n] t)) ∧
  (∀ (n : Fin 48) (s : State), s.hasGroups n = true → s.laneOn n = true → s.calState n ≠ 3 → Completes (.groupBoundary n) s fun t => bitAt (t.fld (F.LRX_SEQ_EVT_LINES
      n)) 3 = true ∧ (n.val < 8 → (t.lane n).saver = s.fld F.THERM_STAT_LEVEL) ∧ (8 ≤ n.val → n.val < 16 → s.is (F.LTX_CW_INJ_PENDING n) = true → t.is
      (F.LTX_CW_INJ_PENDING n) = false ∧ (t.lane n).cwInject = true) ∧ ((s.seq n).cmt = none → s.Only [R.LRX_SEQ_EVT n, R.LTX_CW_INJ n] t) ∧ s.OnlyLanes [n.val] t) ∧
  (∀ (n : Fin 48) (d : Nat) (s : State), s.hasGroups n = true → s.laneOn n = true → (s.seq n).cmt = some (d, true) → s.paused n = false → s.shadowOk n = true →
      Completes (.groupBoundary n) s fun t => t.bankB n = !s.bankB n ∧ (∀ w : Fin 64, t.activeWord n w = s.shadowWord n w) ∧ (t.seq n).cmt = none ∧ (t.seq n).z = true ∧
      t.g n d = 0#32) ∧
  (∀ (n : Fin 48) (s : State), s.hasGroups n = false ∨ s.laneOn n = false → Completes (.groupBoundary n) s fun t => s.Only [] t ∧ t.lanes = s.lanes)

/-- For each instruction of the ALU group, on a core that runs: rd (g0 discards it) gets the value of R197, the flags listed get theirs, a flag not listed keeps its value, the
next instruction in order follows, and nothing else of the machine changes beside performance counters. (Formalises R197.) -/
def Obligations.AluInstructionsComputeTheirTable : Prop :=
  (∀ (k : Core) (d a b : Fin 16) (s : State), s.coreOn k = true → Completes (.add k d a b) s fun t => s.Computed k d ((s.reg k a) + (s.reg k b)) (addFlags ((s.reg k a))
      ((s.reg k b))) t) ∧
  (∀ (k : Core) (d a b : Fin 16) (s : State), s.coreOn k = true → Completes (.sub k d a b) s fun t => s.Computed k d ((s.reg k a) - (s.reg k b)) (subFlags ((s.reg k a))
      ((s.reg k b))) t) ∧
  (∀ (k : Core) (d a b : Fin 16) (s : State), s.coreOn k = true → Completes (.and_ k d a b) s fun t => s.Computed k d ((s.reg k a) &&& (s.reg k b)) ((s.flags k).nz
      ((s.reg k a) &&& (s.reg k b))) t) ∧
  (∀ (k : Core) (d a b : Fin 16) (s : State), s.coreOn k = true → Completes (.or_ k d a b) s fun t => s.Computed k d ((s.reg k a) ||| (s.reg k b)) ((s.flags k).nz
      ((s.reg k a) ||| (s.reg k b))) t) ∧
  (∀ (k : Core) (d a b : Fin 16) (s : State), s.coreOn k = true → Completes (.xor_ k d a b) s fun t => s.Computed k d ((s.reg k a) ^^^ (s.reg k b)) ((s.flags k).nz
      ((s.reg k a) ^^^ (s.reg k b))) t) ∧
  (∀ (k : Core) (d a b : Fin 16) (s : State), s.coreOn k = true → Completes (.mul k d a b) s fun t => s.Computed k d ((s.reg k a) * (s.reg k b)) ((s.flags k).nz ((s.reg
      k a) * (s.reg k b))) t) ∧
  (∀ (k : Core) (d a b : Fin 16) (s : State), s.coreOn k = true → Completes (.mulh k d a b) s fun t => s.Computed k d (BitVec.ofInt 32 ((s.reg k a).toInt * (s.reg k
      b).toInt / 2 ^ 32)) ((s.flags k).nz (BitVec.ofInt 32 ((s.reg k a).toInt * (s.reg k b).toInt / 2 ^ 32))) t) ∧
  (∀ (k : Core) (d a b : Fin 16) (s : State), s.coreOn k = true → Completes (.mulhu k d a b) s fun t => s.Computed k d (BitVec.ofNat 32 ((s.reg k a).toNat * (s.reg k
      b).toNat / 2 ^ 32)) ((s.flags k).nz (BitVec.ofNat 32 ((s.reg k a).toNat * (s.reg k b).toNat / 2 ^ 32))) t) ∧
  (∀ (k : Core) (d a b : Fin 16) (s : State), s.coreOn k = true → Completes (.min k d a b) s fun t => s.Computed k d (if (s.reg k a).toInt < (s.reg k b).toInt then
      (s.reg k a) else (s.reg k b)) ((s.flags k).nz (if (s.reg k a).toInt < (s.reg k b).toInt then (s.reg k a) else (s.reg k b))) t) ∧
  (∀ (k : Core) (d a b : Fin 16) (s : State), s.coreOn k = true → Completes (.max k d a b) s fun t => s.Computed k d (if (s.reg k a).toInt < (s.reg k b).toInt then
      (s.reg k b) else (s.reg k a)) ((s.flags k).nz (if (s.reg k a).toInt < (s.reg k b).toInt then (s.reg k b) else (s.reg k a))) t) ∧
  (∀ (k : Core) (d a b : Fin 16) (s : State), s.coreOn k = true → Completes (.adds k d a b) s fun t => s.Computed k d (saturated ((s.reg k a).toInt + (s.reg k
      b).toInt)) ({ s.flags k with v := decide ((saturated ((s.reg k a).toInt + (s.reg k b).toInt)).toInt ≠ (s.reg k a).toInt + (s.reg k b).toInt) }.nz (saturated ((s.reg
      k a).toInt + (s.reg k b).toInt))) t) ∧
  (∀ (k : Core) (d a b : Fin 16) (s : State), s.coreOn k = true → Completes (.subs k d a b) s fun t => s.Computed k d (saturated ((s.reg k a).toInt - (s.reg k
      b).toInt)) ({ s.flags k with v := decide ((saturated ((s.reg k a).toInt - (s.reg k b).toInt)).toInt ≠ (s.reg k a).toInt - (s.reg k b).toInt) }.nz (saturated ((s.reg
      k a).toInt - (s.reg k b).toInt))) t) ∧
  (∀ (k : Core) (d a b : Fin 16) (s : State), s.coreOn k = true → Completes (.shl k d a b) s fun t => s.Computed k d ((s.reg k a) <<< ((s.reg k b).toNat % 32))
      ({ s.flags k with c := if ((s.reg k b).toNat % 32) = 0 then (s.flags k).c else (s.reg k a).getLsbD (32 - ((s.reg k b).toNat % 32)) }.nz ((s.reg k a) <<< ((s.reg k
      b).toNat % 32))) t) ∧
  (∀ (k : Core) (d a b : Fin 16) (s : State), s.coreOn k = true → Completes (.shr k d a b) s fun t => s.Computed k d ((s.reg k a) >>> ((s.reg k b).toNat % 32))
      ({ s.flags k with c := if ((s.reg k b).toNat % 32) = 0 then (s.flags k).c else (s.reg k a).getLsbD (((s.reg k b).toNat % 32) - 1) }.nz ((s.reg k a) >>> ((s.reg k
      b).toNat % 32))) t) ∧
  (∀ (k : Core) (d a b : Fin 16) (s : State), s.coreOn k = true → Completes (.sar k d a b) s fun t => s.Computed k d ((s.reg k a).sshiftRight ((s.reg k b).toNat % 32))
      ({ s.flags k with c := if ((s.reg k b).toNat % 32) = 0 then (s.flags k).c else (s.reg k a).getLsbD (((s.reg k b).toNat % 32) - 1) }.nz ((s.reg k a).sshiftRight
      ((s.reg k b).toNat % 32))) t) ∧
  (∀ (k : Core) (a b : Fin 16) (s : State), s.coreOn k = true → Completes (.cmp k a b) s fun t => s.Computed k 0 0#32 (subFlags (s.reg k a) (s.reg k b)) t)

/-- ADDI and CMPI extend the immediate with its sign, ANDI, ORI and XORI with zeros; SHLI, SHRI and SARI shift by the amount; LUI puts the immediate into the upper half and sets
no flag (R199). (Rests on 09_ecnak_isa.md.) -/
def Obligations.ImmediateInstructionsCompute : Prop :=
  (∀ (k : Core) (d a : Fin 16) (imm : BitVec 16) (s : State), s.coreOn k = true → Completes (.addi k d a imm) s fun t => s.Computed k d ((s.reg k a) + (imm.signExtend
      32)) (addFlags ((s.reg k a)) ((imm.signExtend 32))) t) ∧
  (∀ (k : Core) (d a : Fin 16) (imm : BitVec 16) (s : State), s.coreOn k = true → Completes (.andi k d a imm) s fun t => s.Computed k d ((s.reg k a) &&& (imm.setWidth
      32)) ((s.flags k).nz ((s.reg k a) &&& (imm.setWidth 32))) t) ∧
  (∀ (k : Core) (d a : Fin 16) (imm : BitVec 16) (s : State), s.coreOn k = true → Completes (.ori k d a imm) s fun t => s.Computed k d ((s.reg k a) ||| (imm.setWidth
      32)) ((s.flags k).nz ((s.reg k a) ||| (imm.setWidth 32))) t) ∧
  (∀ (k : Core) (d a : Fin 16) (imm : BitVec 16) (s : State), s.coreOn k = true → Completes (.xori k d a imm) s fun t => s.Computed k d ((s.reg k a) ^^^ (imm.setWidth
      32)) ((s.flags k).nz ((s.reg k a) ^^^ (imm.setWidth 32))) t) ∧
  (∀ (k : Core) (d a : Fin 16) (amt : Fin 32) (s : State), s.coreOn k = true → Completes (.shli k d a amt) s fun t => s.Computed k d ((s.reg k a) <<< (amt.val))
      ({ s.flags k with c := if (amt.val) = 0 then (s.flags k).c else (s.reg k a).getLsbD (32 - (amt.val)) }.nz ((s.reg k a) <<< (amt.val))) t) ∧
  (∀ (k : Core) (d a : Fin 16) (amt : Fin 32) (s : State), s.coreOn k = true → Completes (.shri k d a amt) s fun t => s.Computed k d ((s.reg k a) >>> (amt.val))
      ({ s.flags k with c := if (amt.val) = 0 then (s.flags k).c else (s.reg k a).getLsbD ((amt.val) - 1) }.nz ((s.reg k a) >>> (amt.val))) t) ∧
  (∀ (k : Core) (d a : Fin 16) (amt : Fin 32) (s : State), s.coreOn k = true → Completes (.sari k d a amt) s fun t => s.Computed k d ((s.reg k a).sshiftRight (amt.val))
      ({ s.flags k with c := if (amt.val) = 0 then (s.flags k).c else (s.reg k a).getLsbD ((amt.val) - 1) }.nz ((s.reg k a).sshiftRight (amt.val))) t) ∧
  (∀ (k : Core) (d : Fin 16) (imm : BitVec 16) (s : State), s.coreOn k = true → Completes (.lui k d imm) s fun t => s.Computed k d (imm.setWidth 32 <<< 16) (s.flags k)
      t) ∧
  (∀ (k : Core) (a : Fin 16) (imm : BitVec 16) (s : State), s.coreOn k = true → Completes (.cmpi k a imm) s fun t => s.Computed k 0 0#32 (subFlags (s.reg k a)
      (imm.signExtend 32)) t)

/-- On a core that runs, B and BL are taken exactly when the table of R198 says so for the flags: a branch taken goes on at its own address plus four times the signed offset, BL
with the next address in g15; one not taken goes on in order. Condition 0x8 is no instruction: it traps with ILLEGAL and its word. Nothing else changes. (Formalises R198.) -/
def Obligations.BranchesTestTheFlags : Prop :=
  (∀ (k : Core) (cond : Fin 16) (off : BitVec 20) (s : State), s.coreOn k = true → condTable (s.flags k) cond = some true → Completes (.b k cond off) s fun t => t.pcOf
      k = s.pcOf k + 4#32 * off.signExtend 32 ∧ t.flags k = s.flags k ∧ s.CoreOnly k [] t) ∧
  (∀ (k : Core) (cond : Fin 16) (off : BitVec 20) (s : State), s.coreOn k = true → condTable (s.flags k) cond = some true → Completes (.bl k cond off) s fun t => t.pcOf
      k = s.pcOf k + 4#32 * off.signExtend 32 ∧ t.reg k 15 = s.pcOf k + 4#32 ∧ t.flags k = s.flags k ∧ s.CoreOnly k [15] t) ∧
  (∀ (k : Core) (cond : Fin 16) (off : BitVec 20) (s : State), s.coreOn k = true → condTable (s.flags k) cond = some false → Completes (.b k cond off) s fun t => t.pcOf
      k = s.pcOf k + 4#32 ∧ t.flags k = s.flags k ∧ s.CoreOnly k [] t) ∧
  (∀ (k : Core) (cond : Fin 16) (off : BitVec 20) (s : State), s.coreOn k = true → condTable (s.flags k) cond = some false → Completes (.bl k cond off) s fun t =>
      t.pcOf k = s.pcOf k + 4#32 ∧ t.flags k = s.flags k ∧ s.CoreOnly k [] t) ∧
  (∀ (k : Core) (off : BitVec 20) (s : State), s.coreOn k = true → s.mayTrap k 1 = true → Completes (.b k 8 off) s fun t => s.Trapped k 1 0 (s.pcOf k) (BitVec.ofNat 32
      (0x20 * 2 ^ 26 + 8 * 2 ^ 20 + off.toNat)) t) ∧
  (∀ (k : Core) (off : BitVec 20) (s : State), s.coreOn k = true → s.mayTrap k 1 = true → Completes (.bl k 8 off) s fun t => s.Trapped k 1 0 (s.pcOf k) (BitVec.ofNat 32
      (0x21 * 2 ^ 26 + 8 * 2 ^ 20 + off.toNat)) t)

/-- JALR reads its target before it writes the link, and a misaligned target is its trap value; a word that is no instruction traps with ILLEGAL, and one that is runs by its own
command instead (the model's choice, log entry 94); SVC saves the next address; a fetch outside a core's executable memory traps with detail 3, one that the MPU denies with
detail 0, and one of a poisoned word with FETCH_ECC and the address, memory and registers as they were; any other that does not reach a sound word traps by what its read
answers, and a fetch that does reach one is no trap; a sequencer's STOP leaves it STOPPED with the next instruction in SEQ_PC. (Rests on 09_ecnak_isa.md,
10_lane_programs_supervisor.md.) -/
def Obligations.JumpsAndTrapsOfTheCores : Prop :=
  (∀ (k : Core) (d a : Fin 16) (s : State), s.coreOn k = true → (s.reg k a).toNat % 4 = 0 → Completes (.jalr k d a) s fun t => t.pcOf k = s.reg k a ∧ t.reg k d =
      written d (s.pcOf k + 4#32) ∧ t.flags k = s.flags k ∧ s.CoreOnly k [d.val] t) ∧
  (∀ (k : Core) (d a : Fin 16) (s : State), s.coreOn k = true → (s.reg k a).toNat % 4 ≠ 0 → s.mayTrap k 3 = true → Completes (.jalr k d a) s fun t => s.Trapped k 3 0
      (s.pcOf k) (s.reg k a) t) ∧
  (∀ (k : Core) (w : Word) (s : State), s.coreOn k = true → instrOf k w = none → s.mayTrap k 1 = true → Completes (.illegalInstruction k w) s fun t => s.Trapped k 1 0
      (s.pcOf k) w t) ∧
  (∀ (k : Core) (w : Word) (s : State), instrOf k w ≠ none → Completes (.illegalInstruction k w) s fun t => s.CoreOnly k [] t ∧ t.pcOf k = s.pcOf k) ∧
  (∀ (imm : BitVec 16) (s : State), s.coreOn .sup = true → s.mayTrap .sup 12 = true → Completes (.svc imm) s fun t => s.Trapped .sup 12 0 (s.sup.pc + 4#32)
      (imm.setWidth 32) t) ∧
  (∀ (k : Core) (s : State), s.coreOn k = true →
      (match k with | .sup => areaOf (s.pcOf k).toNat ≠ some .rom ∧ areaOf (s.pcOf k).toNat ≠ some .sup | .ls _ => 0x4000 ≤ (s.pcOf k).toNat) → s.mayTrap k 4 = true →
      Completes (.instructionFetchTrap k) s fun t => s.Trapped k 4 3 (s.pcOf k) (s.pcOf k) t) ∧
  (∀ (s : State), s.coreOn .sup = true → areaOf s.sup.pc.toNat = some .rom ∨ areaOf s.sup.pc.toNat = some .sup → s.mpuAllows s.level s.sup.pc.toNat 2 = false →
      s.mayTrap .sup 4 = true → Completes (.instructionFetchTrap .sup) s fun t => s.Trapped .sup 4 0 s.sup.pc s.sup.pc t) ∧
  (∀ (n : Fin 48) (p : Nat) (s : State), s.coreOn (.ls n) = true → (s.pcOf (.ls n)).toNat < 0x4000 → (s.pcOf (.ls n)).toNat % 4 = 0 → p = 0x03000000 + n.val * 0x8000 +
      (s.pcOf (.ls n)).toNat → s.memGate p = none → s.ecc p = .poison → Completes (.instructionFetchTrap (.ls n)) s fun t => t.rd (R.LRX_SEQ_TRAP n) = 5#32 ∧ t.rd
      (R.LRX_SEQ_TRAP_VAL n) = s.pcOf (.ls n) ∧ t.rd (R.LRX_SEQ_TRAP_PC n) = s.pcOf (.ls n) ∧ t.fld (F.LRX_SEQ_STAT_STATE n) = 3 ∧ t.gpr = s.gpr ∧ t.mem = s.mem) ∧
  (∀ (b : Nat) (s : State), s.coreOn .sup = true → areaOf s.sup.pc.toNat = some .sup → s.sup.pc.toNat % 4 = 0 → s.mpuAllows s.level s.sup.pc.toNat 2 = true → s.mayTrap
      .sup 5 = true → s.memGate s.sup.pc.toNat = none → s.ecc (eccBase s.sup.pc.toNat) = .poison → b = (if s.toSecure 5 then 1 else 6) → Completes (.instructionFetchTrap
      .sup) s fun t => t.creg b = s.sup.pc ∧ t.creg (b + 2) = 5#32 ∧ t.creg (b + 3) = s.sup.pc ∧ t.sup.pc = (if s.toSecure 5 then 0x100#32 else s.creg 12) + 20#32 ∧ t.gpr
      = s.gpr ∧ t.mem = s.mem) ∧
  (∀ (k : Core) (x : State × Option (Nat × Nat)) (c d : Nat) (s : State), s.coreOn k = true → x = s.fetch k → x.2 = some (c, d) → x.1.mayTrap k c = true → Completes
      (.instructionFetchTrap k) s fun t => x.1.Trapped k c d (s.pcOf k) (s.pcOf k) t) ∧
  (∀ (k : Core) (s : State), s.coreOn k = true → (s.fetch k).2 = none → s.IrqRemembered → Completes (.instructionFetchTrap k) s fun t => t = s) ∧
  (∀ (n : Fin 48) (s : State), s.coreOn (.ls n) = true → Completes (.stop n) s fun t => t.fld (F.LRX_SEQ_STAT_STATE n) = 0 ∧ t.rd (R.LRX_SEQ_PC n) = s.pcOf (.ls n) +
      4#32 ∧ t.is (F.LRX_SEQ_EVENT_STOPPED n) = true ∧ t.gpr = s.gpr ∧ t.flags (.ls n) = s.flags (.ls n) ∧ s.Only [R.LRX_SEQ_STAT n, R.LRX_SEQ_PC n, R.LRX_SEQ_EVENT n] t)

/-- At SK the pc is S_EPC and PSR what S_EPSR holds with TIP_S cleared; at NK the pc is NS_EPC, and LVL, NIE and the flags come from NS_EPSR with TIP_NS cleared and SIE and TIP_S
kept, unless NS_EPSR names SK: then, and at NU, it traps with PRIV. (The reserved bits of a saved status read as 0.) (Formalises R225.) -/
def Obligations.TrapReturnFollowsTheLevel : Prop :=
  (∀ (s : State), s.coreOn .sup = true → s.level = 0 → Completes (.eret) s fun t => t.sup.pc = s.creg 1 ∧ t.creg 0 = (s.creg 2 &&& 0xF000003F#32) &&& 0xFFFFFFEF#32 ∧ (∀
      c : Fin 128, c ≠ 0 → t.creg c = s.creg c) ∧ t.gpr = s.gpr ∧ t.mem = s.mem ∧ s.Only [] t) ∧
  (∀ (s : State), s.coreOn .sup = true → s.level = 1 → (s.creg 7).toNat % 4 ≠ 0 → Completes (.eret) s fun t => t.sup.pc = s.creg 6 ∧ t.creg 0 = (s.creg 7 &&&
      0xF000000B#32) ||| (s.creg 0 &&& 0x14#32) ∧ (∀ c : Fin 128, c ≠ 0 → t.creg c = s.creg c) ∧ t.gpr = s.gpr ∧ t.mem = s.mem ∧ s.Only [] t) ∧
  (∀ (s : State), s.coreOn .sup = true → s.level = 1 → (s.creg 7).toNat % 4 = 0 → s.mayTrap .sup 2 = true → Completes (.eret) s fun t => s.Trapped .sup 2 0 s.sup.pc
      0xA4000000#32 t) ∧
  (∀ (s : State), s.coreOn .sup = true → 2 ≤ s.level → s.mayTrap .sup 2 = true → Completes (.eret) s fun t => s.Trapped .sup 2 0 s.sup.pc 0xA4000000#32 t)

/-- The secure request is taken to SK with cause 0x0D, the non-secure one to NK with cause 0x0E and trap value 0, and neither while it is not enabled; a trap at NK or NU while one
is in progress at NK goes to SK as DOUBLE with its cause in the trap value, and one at SK while one is in progress there locks the core up as a device-level fault; WFI
suspends the core while no request is pending, and a request wakes it. (Rests on 09_ecnak_isa.md.) -/
def Obligations.SupervisorTakesInterruptsAndWaits : Prop :=
  (∀ (s : State), s.coreOn .sup = true → s.sup.halted = false → s.takesSecure = true → Completes (.interruptTaken true) s fun t => s.SupTrapped true 13 0 s.sup.pc 0#32
      t) ∧
  (∀ (s : State), s.coreOn .sup = true → s.sup.halted = false → s.takesNonSecure = true → Completes (.interruptTaken false) s fun t => s.SupTrapped false 14 0 s.sup.pc
      0#32 t) ∧
  (∀ (b : Bool) (s : State), s.coreOn .sup = false ∨ (if b then s.takesSecure else s.takesNonSecure) = false → Completes (.interruptTaken b) s fun t => s.CoreOnly .sup
      [] t ∧ t.sup.pc = s.sup.pc) ∧
  (∀ (imm : BitVec 16) (s : State), s.coreOn .sup = true → s.toSecure 12 = false → bitAt (s.creg 0).toNat 5 = true → bitAt (s.creg 0).toNat 4 = false → Completes (.svc
      imm) s fun t => s.SupTrapped true 15 0 s.sup.pc 12#32 t) ∧
  (∀ (w : Word) (s : State), s.coreOn .sup = true → instrOf .sup w = none → s.toSecure 1 = true → bitAt (s.creg 0).toNat 4 = true → Completes (.illegalInstruction .sup
      w) s fun t => t.sup.lockup = true ∧ bitAt (t.fld F.FAULT_DEV_ACTIVE_CLASS) 0 = true ∧ t.sup.pc = s.sup.pc ∧ t.creg 0 = s.creg 0 ∧ t.gpr = s.gpr) ∧
  (∀ (s : State), s.coreOn .sup = true → s.level ≤ 1 → Completes (.wfi) s fun t => t.sup.wfi = !(s.secureReq || s.nonSecureReq) ∧ t.sup.pc = s.sup.pc + 4#32 ∧
      s.CoreOnly .sup [] t) ∧
  (∀ (s : State), s.coreOn .sup = true → 2 ≤ s.level → s.mayTrap .sup 2 = true → Completes (.wfi) s fun t => s.Trapped .sup 2 0 s.sup.pc 0xA8000000#32 t) ∧
  (∀ (s : State), s.sup.wfi = true → Completes (.wfiWake) s fun t => t.sup.wfi = !(s.secureReq || s.nonSecureReq) ∧ t.sup.pc = s.sup.pc ∧ s.CoreOnly .sup [] t)

/-- A read gives the register, the MPU window the selected region's, TB_LO the timebase with its high half latched for the level; a write changes the writable bits only; a
register the level may not use traps with PRIV, a reserved number with ILLEGAL. (Rests on 09_ecnak_isa.md, 12_clocks_power_time.md.) -/
def Obligations.ControlRegistersByLevel : Prop :=
  (∀ (d : Fin 16) (c : Fin 32) (s : State), s.coreOn .sup = true → cregAccess c s.level ≠ none → cregAccess c s.level ≠ some 0 → Completes (.movcRead d c) s fun t =>
      t.reg .sup d = written d (if c.val = 21 then BitVec.ofNat 32 s.tb.toNat else if c.val = 22 then s.tbHigh (if s.level = 0 then 1 else 2) else if 17 ≤ c.val ∧ c.val ≤
      19 then s.creg (mpuKey ((s.creg 16).toNat % 16) (c.val - 17)) else s.creg c) ∧ (c.val = 21 → t.tbHigh (if s.level = 0 then 1 else 2) = BitVec.ofNat 32 (s.tb.toNat /
      2 ^ 32)) ∧ t.pcOf .sup = s.sup.pc + 4#32 ∧ t.flags .sup = s.flags .sup ∧ s.CoreOnly .sup [d.val] t) ∧
  (∀ (c : Fin 32) (a : Fin 16) (s : State), s.coreOn .sup = true → cregAccess c s.level = some 2 → Completes (.movcWrite c a) s fun t => (c.val = 0 → s.level = 0 →
      t.creg 0 = (s.creg 0 &&& 0x0FFFFFC3#32) ||| (s.reg .sup a &&& 0xF000003C#32)) ∧ (c.val = 0 → s.level = 1 → t.creg 0 = (s.creg 0 &&& 0x0FFFFFD7#32) ||| (s.reg .sup a
      &&& 0xF0000028#32)) ∧ (c.val = 0 → 2 ≤ s.level → t.creg 0 = (s.creg 0 &&& 0x0FFFFFFF#32) ||| (s.reg .sup a &&& 0xF0000000#32)) ∧ (c.val = 1 ∨ c.val = 6 → t.creg c =
      s.reg .sup a &&& 0xFFFFFFFC#32) ∧ (c.val = 2 ∨ c.val = 7 → t.creg c = s.reg .sup a &&& 0xF000003F#32) ∧ (c.val = 3 ∨ c.val = 8 → t.creg c = s.reg .sup a &&&
      0xFFFF#32) ∧ (c.val = 4 ∨ c.val = 5 ∨ c.val = 9 ∨ c.val = 10 → t.creg c = s.reg .sup a) ∧ (c.val = 11 → t.creg 11 = (s.reg .sup a ||| 0xA420#32) &&& 0xFFFFBFFF#32) ∧
      (c.val = 12 → t.creg 12 = s.reg .sup a &&& 0xFFFFFF80#32) ∧ (c.val = 16 → t.creg 16 = s.reg .sup a &&& 0xF#32) ∧ (c.val = 17 ∨ c.val = 18 → t.creg (mpuKey ((s.creg
      16).toNat % 16) (c.val - 17)) = s.reg .sup a &&& 0xFFFFF000#32) ∧ (c.val = 19 → t.creg (mpuKey ((s.creg 16).toNat % 16) 2) = s.reg .sup a &&& 0x1FF#32) ∧ (∀ j : Fin
      128, j.val ≠ c.val → (c.val < 17 ∨ 19 < c.val ∨ j.val ≠ mpuKey ((s.creg 16).toNat % 16) (c.val - 17)) → t.creg j = s.creg j) ∧ t.sup.pc = s.sup.pc + 4#32 ∧ t.gpr =
      s.gpr ∧ s.Only [] t) ∧
  (∀ (c : Fin 32) (a : Fin 16) (s : State), s.coreOn .sup = true → cregAccess c s.level = some 1 → Completes (.movcWrite c a) s fun t => t.cregs = s.cregs ∧ t.sup.pc =
      s.sup.pc + 4#32 ∧ t.gpr = s.gpr ∧ s.Only [] t) ∧
  (∀ (c : Fin 32) (d : Fin 16) (s : State), s.coreOn .sup = true → cregAccess c s.level = some 0 → s.mayTrap .sup 2 = true → Completes (.movcRead d c) s fun t =>
      s.Trapped .sup 2 0 s.sup.pc (BitVec.ofNat 32 (0x38 * 2 ^ 26 + d.val * 2 ^ 22 + c.val)) t) ∧
  (∀ (c : Fin 32) (a : Fin 16) (s : State), s.coreOn .sup = true → cregAccess c s.level = some 0 → s.mayTrap .sup 2 = true → Completes (.movcWrite c a) s fun t =>
      s.Trapped .sup 2 0 s.sup.pc (BitVec.ofNat 32 (0x39 * 2 ^ 26 + a.val * 2 ^ 18 + c.val)) t) ∧
  (∀ (c : Fin 32) (d : Fin 16) (s : State), s.coreOn .sup = true → c.val = 14 ∨ c.val = 15 ∨ c.val = 20 ∨ 23 ≤ c.val → s.mayTrap .sup 1 = true → Completes (.movcRead d
      c) s fun t => s.Trapped .sup 1 0 s.sup.pc (BitVec.ofNat 32 (0x38 * 2 ^ 26 + d.val * 2 ^ 22 + c.val)) t) ∧
  (∀ (c : Fin 32) (a : Fin 16) (s : State), s.coreOn .sup = true → c.val = 14 ∨ c.val = 15 ∨ c.val = 20 ∨ 23 ≤ c.val → s.mayTrap .sup 1 = true → Completes (.movcWrite c
      a) s fun t => s.Trapped .sup 1 0 s.sup.pc (BitVec.ofNat 32 (0x39 * 2 ^ 26 + a.val * 2 ^ 18 + c.val)) t)

/-- An aligned load from supervisor SRAM or a sequencer's data memory, where the memory answers, its ECC word is clean and the MPU lets it pass, writes rd (g0 discards it) with
the word, or the halfword or byte extended by its sign or by zeros, and sets no flag. Any other load whose access is answered, over the bus or in the rest of the map, does the
same with what it reads and with whatever the read itself changes; one that waits for a remote window stalls the supervisor. (Rests on 09_ecnak_isa.md,
13_memory_integrity_selftest.md.) -/
def Obligations.LoadsReadTheCoresOwnMemory : Prop :=
  (∀ (k : Core) (d a : Fin 16) (imm : BitVec 16) (p : Nat) (s : State), s.coreOn k = true → (s.reg k a + imm.signExtend 32).toNat % 4 = 0 → ownData k (s.reg k a +
      imm.signExtend 32).toNat = some p → s.Sound p → s.mpuPasses k (s.reg k a + imm.signExtend 32).toNat 0 = true → Completes (.ldw k d a imm) s fun t => s.Computed k d
      (BitVec.ofNat 32 (leValue (s.bytesAt p 4))) (s.flags k) t) ∧
  (∀ (k : Core) (d a : Fin 16) (imm : BitVec 16) (p : Nat) (s : State), s.coreOn k = true → (s.reg k a + imm.signExtend 32).toNat % 2 = 0 → ownData k (s.reg k a +
      imm.signExtend 32).toNat = some p → s.Sound p → s.mpuPasses k (s.reg k a + imm.signExtend 32).toNat 0 = true → Completes (.ldh k d a imm) s fun t => s.Computed k d
      ((BitVec.ofNat 16 (leValue (s.bytesAt p 2))).signExtend 32) (s.flags k) t) ∧
  (∀ (k : Core) (d a : Fin 16) (imm : BitVec 16) (p : Nat) (s : State), s.coreOn k = true → (s.reg k a + imm.signExtend 32).toNat % 2 = 0 → ownData k (s.reg k a +
      imm.signExtend 32).toNat = some p → s.Sound p → s.mpuPasses k (s.reg k a + imm.signExtend 32).toNat 0 = true → Completes (.ldhu k d a imm) s fun t => s.Computed k d
      (BitVec.ofNat 32 (leValue (s.bytesAt p 2))) (s.flags k) t) ∧
  (∀ (k : Core) (d a : Fin 16) (imm : BitVec 16) (p : Nat) (s : State), s.coreOn k = true → ownData k (s.reg k a + imm.signExtend 32).toNat = some p → s.Sound p →
      s.mpuPasses k (s.reg k a + imm.signExtend 32).toNat 0 = true → Completes (.ldb k d a imm) s fun t => s.Computed k d ((BitVec.ofNat 8 (leValue (s.bytesAt p
      1))).signExtend 32) (s.flags k) t) ∧
  (∀ (k : Core) (d a : Fin 16) (imm : BitVec 16) (p : Nat) (s : State), s.coreOn k = true → ownData k (s.reg k a + imm.signExtend 32).toNat = some p → s.Sound p →
      s.mpuPasses k (s.reg k a + imm.signExtend 32).toNat 0 = true → Completes (.ldbu k d a imm) s fun t => s.Computed k d (BitVec.ofNat 32 (leValue (s.bytesAt p 1)))
      (s.flags k) t) ∧
  (∀ (n : Fin 48) (d a : Fin 16) (imm : BitVec 16) (s : State), s.coreOn (.ls n) = true → (s.reg (.ls n) a + imm.signExtend 32).toNat = 0x12008 → Completes (.ldw (.ls
      n) d a imm) s fun t => s.Computed (.ls n) d (s.rd (R.LRX_SEQ_EVT n)) (s.flags (.ls n)) t) ∧
  (∀ (k : Core) (d a : Fin 16) (imm : BitVec 16) (x : State × DataRes × Nat) (s : State), s.coreOn k = true → (s.reg k a + imm.signExtend 32).toNat % 4 = 0 → x =
      s.dataRead k d (s.reg k a + imm.signExtend 32).toNat .word → x.2.1 = .done → x.1.coreOn k = true → Completes (.ldw k d a imm) s fun t => t.reg k d = written d
      (BitVec.ofNat 32 x.2.2) ∧ t.flags k = x.1.flags k ∧ t.pcOf k = x.1.pcOf k + 4#32 ∧ t.mem = x.1.mem ∧ t.out = x.1.out ∧ (∀ r : Fin 16, r ≠ d → t.reg k r = x.1.reg k
      r)) ∧
  (∀ (k : Core) (d a : Fin 16) (imm : BitVec 16) (x : State × DataRes × Nat) (s : State), s.coreOn k = true → (s.reg k a + imm.signExtend 32).toNat % 2 = 0 → x =
      s.dataRead k d (s.reg k a + imm.signExtend 32).toNat .half → x.2.1 = .done → x.1.coreOn k = true → Completes (.ldh k d a imm) s fun t => t.reg k d = written d
      ((BitVec.ofNat 16 x.2.2).signExtend 32) ∧ t.flags k = x.1.flags k ∧ t.pcOf k = x.1.pcOf k + 4#32 ∧ t.mem = x.1.mem ∧ t.out = x.1.out ∧ (∀ r : Fin 16, r ≠ d → t.reg k
      r = x.1.reg k r)) ∧
  (∀ (k : Core) (d a : Fin 16) (imm : BitVec 16) (x : State × DataRes × Nat) (s : State), s.coreOn k = true → (s.reg k a + imm.signExtend 32).toNat % 2 = 0 → x =
      s.dataRead k d (s.reg k a + imm.signExtend 32).toNat .half → x.2.1 = .done → x.1.coreOn k = true → Completes (.ldhu k d a imm) s fun t => t.reg k d = written d
      (BitVec.ofNat 32 x.2.2) ∧ t.flags k = x.1.flags k ∧ t.pcOf k = x.1.pcOf k + 4#32 ∧ t.mem = x.1.mem ∧ t.out = x.1.out ∧ (∀ r : Fin 16, r ≠ d → t.reg k r = x.1.reg k
      r)) ∧
  (∀ (k : Core) (d a : Fin 16) (imm : BitVec 16) (x : State × DataRes × Nat) (s : State), s.coreOn k = true → x = s.dataRead k d (s.reg k a + imm.signExtend 32).toNat
      .byte → x.2.1 = .done → x.1.coreOn k = true → Completes (.ldb k d a imm) s fun t => t.reg k d = written d ((BitVec.ofNat 8 x.2.2).signExtend 32) ∧ t.flags k =
      x.1.flags k ∧ t.pcOf k = x.1.pcOf k + 4#32 ∧ t.mem = x.1.mem ∧ t.out = x.1.out ∧ (∀ r : Fin 16, r ≠ d → t.reg k r = x.1.reg k r)) ∧
  (∀ (k : Core) (d a : Fin 16) (imm : BitVec 16) (x : State × DataRes × Nat) (s : State), s.coreOn k = true → x = s.dataRead k d (s.reg k a + imm.signExtend 32).toNat
      .byte → x.2.1 = .done → x.1.coreOn k = true → Completes (.ldbu k d a imm) s fun t => t.reg k d = written d (BitVec.ofNat 32 x.2.2) ∧ t.flags k = x.1.flags k ∧ t.pcOf
      k = x.1.pcOf k + 4#32 ∧ t.mem = x.1.mem ∧ t.out = x.1.out ∧ (∀ r : Fin 16, r ≠ d → t.reg k r = x.1.reg k r)) ∧
  (∀ (d a : Fin 16) (imm : BitVec 16) (x : State × DataRes × Nat) (s : State), s.coreOn .sup = true → (s.reg .sup a + imm.signExtend 32).toNat % 4 = 0 → x = s.dataRead
      .sup d (s.reg .sup a + imm.signExtend 32).toNat .word → x.2.1 = .wait → Completes (.ldw .sup d a imm) s fun t => t.sup.stall = true ∧ t.sup.pc = x.1.sup.pc ∧ t.gpr =
      x.1.gpr)

/-- A misaligned load traps with LOAD_ALIGN and the address; one outside the sequencer's map, or denied by the MPU, with LOAD_FAULT and detail 3 or 0; a load of a poisoned word of
the sequencer's data memory with LOAD_ECC, rd unchanged. Any other load or store whose access is refused traps with the detail of its answer, and a load that reads a word in
error with LOAD_ECC, after whatever the access itself changed. A misaligned store, STWC too, traps with STORE_ALIGN; one outside the sequencer's map, or into its instruction
memory, with STORE_FAULT and detail 3; one that the MPU denies with detail 0; memory stays as it was. That alignment is judged before map and MPU, and the store into the own
instruction memory, are log entry 41. (Rests on 09_ecnak_isa.md, 13_memory_integrity_selftest.md.) -/
def Obligations.LoadsAndStoresThatFailTrap : Prop :=
  (∀ (k : Core) (d a : Fin 16) (imm : BitVec 16) (s : State), s.coreOn k = true → (s.reg k a + imm.signExtend 32).toNat % 4 ≠ 0 → s.mayTrap k 6 = true → Completes (.ldw
      k d a imm) s fun t => s.Trapped k 6 0 (s.pcOf k) (s.reg k a + imm.signExtend 32) t) ∧
  (∀ (k : Core) (d a : Fin 16) (imm : BitVec 16) (s : State), s.coreOn k = true → (s.reg k a + imm.signExtend 32).toNat % 2 ≠ 0 → s.mayTrap k 6 = true → Completes (.ldh
      k d a imm) s fun t => s.Trapped k 6 0 (s.pcOf k) (s.reg k a + imm.signExtend 32) t) ∧
  (∀ (k : Core) (d a : Fin 16) (imm : BitVec 16) (s : State), s.coreOn k = true → (s.reg k a + imm.signExtend 32).toNat % 2 ≠ 0 → s.mayTrap k 6 = true → Completes
      (.ldhu k d a imm) s fun t => s.Trapped k 6 0 (s.pcOf k) (s.reg k a + imm.signExtend 32) t) ∧
  (∀ (n : Fin 48) (d a : Fin 16) (imm : BitVec 16) (s : State), s.coreOn (.ls n) = true → (s.reg (.ls n) a + imm.signExtend 32).toNat % 4 = 0 → lanePlace n (s.reg (.ls
      n) a + imm.signExtend 32).toNat = none → Completes (.ldw (.ls n) d a imm) s fun t => s.Trapped (.ls n) 8 3 (s.pcOf (.ls n)) (s.reg (.ls n) a + imm.signExtend 32) t) ∧
  (∀ (n : Fin 48) (d a : Fin 16) (imm : BitVec 16) (s : State), s.coreOn (.ls n) = true → (s.reg (.ls n) a + imm.signExtend 32).toNat % 2 = 0 → lanePlace n (s.reg (.ls
      n) a + imm.signExtend 32).toNat = none → Completes (.ldh (.ls n) d a imm) s fun t => s.Trapped (.ls n) 8 3 (s.pcOf (.ls n)) (s.reg (.ls n) a + imm.signExtend 32) t) ∧
  (∀ (n : Fin 48) (d a : Fin 16) (imm : BitVec 16) (s : State), s.coreOn (.ls n) = true → (s.reg (.ls n) a + imm.signExtend 32).toNat % 2 = 0 → lanePlace n (s.reg (.ls
      n) a + imm.signExtend 32).toNat = none → Completes (.ldhu (.ls n) d a imm) s fun t => s.Trapped (.ls n) 8 3 (s.pcOf (.ls n)) (s.reg (.ls n) a + imm.signExtend 32) t) ∧
  (∀ (n : Fin 48) (d a : Fin 16) (imm : BitVec 16) (s : State), s.coreOn (.ls n) = true → lanePlace n (s.reg (.ls n) a + imm.signExtend 32).toNat = none → Completes
      (.ldb (.ls n) d a imm) s fun t => s.Trapped (.ls n) 8 3 (s.pcOf (.ls n)) (s.reg (.ls n) a + imm.signExtend 32) t) ∧
  (∀ (n : Fin 48) (d a : Fin 16) (imm : BitVec 16) (s : State), s.coreOn (.ls n) = true → lanePlace n (s.reg (.ls n) a + imm.signExtend 32).toNat = none → Completes
      (.ldbu (.ls n) d a imm) s fun t => s.Trapped (.ls n) 8 3 (s.pcOf (.ls n)) (s.reg (.ls n) a + imm.signExtend 32) t) ∧
  (∀ (d a : Fin 16) (imm : BitVec 16) (s : State), s.coreOn .sup = true → (s.reg .sup a + imm.signExtend 32).toNat % 4 = 0 → s.mpuAllows s.level (s.reg .sup a +
      imm.signExtend 32).toNat 0 = false → s.mayTrap .sup 8 = true → Completes (.ldw .sup d a imm) s fun t => s.Trapped .sup 8 0 s.sup.pc (s.reg .sup a + imm.signExtend
      32) t) ∧
  (∀ (d a : Fin 16) (imm : BitVec 16) (s : State), s.coreOn .sup = true → (s.reg .sup a + imm.signExtend 32).toNat % 2 = 0 → s.mpuAllows s.level (s.reg .sup a +
      imm.signExtend 32).toNat 0 = false → s.mayTrap .sup 8 = true → Completes (.ldh .sup d a imm) s fun t => s.Trapped .sup 8 0 s.sup.pc (s.reg .sup a + imm.signExtend
      32) t) ∧
  (∀ (d a : Fin 16) (imm : BitVec 16) (s : State), s.coreOn .sup = true → (s.reg .sup a + imm.signExtend 32).toNat % 2 = 0 → s.mpuAllows s.level (s.reg .sup a +
      imm.signExtend 32).toNat 0 = false → s.mayTrap .sup 8 = true → Completes (.ldhu .sup d a imm) s fun t => s.Trapped .sup 8 0 s.sup.pc (s.reg .sup a + imm.signExtend
      32) t) ∧
  (∀ (d a : Fin 16) (imm : BitVec 16) (s : State), s.coreOn .sup = true → s.mpuAllows s.level (s.reg .sup a + imm.signExtend 32).toNat 0 = false → s.mayTrap .sup 8 =
      true → Completes (.ldb .sup d a imm) s fun t => s.Trapped .sup 8 0 s.sup.pc (s.reg .sup a + imm.signExtend 32) t) ∧
  (∀ (d a : Fin 16) (imm : BitVec 16) (s : State), s.coreOn .sup = true → s.mpuAllows s.level (s.reg .sup a + imm.signExtend 32).toNat 0 = false → s.mayTrap .sup 8 =
      true → Completes (.ldbu .sup d a imm) s fun t => s.Trapped .sup 8 0 s.sup.pc (s.reg .sup a + imm.signExtend 32) t) ∧
  (∀ (n : Fin 48) (d a : Fin 16) (imm : BitVec 16) (p : Nat) (s : State), s.coreOn (.ls n) = true → (s.reg (.ls n) a + imm.signExtend 32).toNat % 4 = 0 → ownData (.ls
      n) (s.reg (.ls n) a + imm.signExtend 32).toNat = some p → s.memGate p = none → s.ecc p = .poison → Completes (.ldw (.ls n) d a imm) s fun t => t.rd (R.LRX_SEQ_TRAP
      n) = 10#32 ∧ t.rd (R.LRX_SEQ_TRAP_VAL n) = s.reg (.ls n) a + imm.signExtend 32 ∧ t.rd (R.LRX_SEQ_TRAP_PC n) = s.pcOf (.ls n) ∧ t.fld (F.LRX_SEQ_STAT_STATE n) = 3 ∧
      t.gpr = s.gpr ∧ t.mem = s.mem) ∧
  (∀ (k : Core) (d a : Fin 16) (imm : BitVec 16) (s : State), s.coreOn k = true → (s.reg k a + imm.signExtend 32).toNat % 4 ≠ 0 → s.mayTrap k 7 = true → Completes (.stw
      k d a imm) s fun t => s.Trapped k 7 0 (s.pcOf k) (s.reg k a + imm.signExtend 32) t) ∧
  (∀ (k : Core) (d a : Fin 16) (imm : BitVec 16) (s : State), s.coreOn k = true → (s.reg k a + imm.signExtend 32).toNat % 2 ≠ 0 → s.mayTrap k 7 = true → Completes (.sth
      k d a imm) s fun t => s.Trapped k 7 0 (s.pcOf k) (s.reg k a + imm.signExtend 32) t) ∧
  (∀ (k : Core) (d a : Fin 16) (imm : BitVec 16) (s : State), s.coreOn k = true → (s.reg k a + imm.signExtend 32).toNat % 4 ≠ 0 → s.mayTrap k 7 = true → Completes
      (.stwc k d a imm) s fun t => s.Trapped k 7 0 (s.pcOf k) (s.reg k a + imm.signExtend 32) t) ∧
  (∀ (n : Fin 48) (d a : Fin 16) (imm : BitVec 16) (s : State), s.coreOn (.ls n) = true → (s.reg (.ls n) a + imm.signExtend 32).toNat % 4 = 0 → lanePlace n (s.reg (.ls
      n) a + imm.signExtend 32).toNat = none ∨ (s.reg (.ls n) a + imm.signExtend 32).toNat < 0x4000 → Completes (.stw (.ls n) d a imm) s fun t => s.Trapped (.ls n) 9 3
      (s.pcOf (.ls n)) (s.reg (.ls n) a + imm.signExtend 32) t) ∧
  (∀ (n : Fin 48) (d a : Fin 16) (imm : BitVec 16) (s : State), s.coreOn (.ls n) = true → (s.reg (.ls n) a + imm.signExtend 32).toNat % 2 = 0 → lanePlace n (s.reg (.ls
      n) a + imm.signExtend 32).toNat = none ∨ (s.reg (.ls n) a + imm.signExtend 32).toNat < 0x4000 → Completes (.sth (.ls n) d a imm) s fun t => s.Trapped (.ls n) 9 3
      (s.pcOf (.ls n)) (s.reg (.ls n) a + imm.signExtend 32) t) ∧
  (∀ (n : Fin 48) (d a : Fin 16) (imm : BitVec 16) (s : State), s.coreOn (.ls n) = true → lanePlace n (s.reg (.ls n) a + imm.signExtend 32).toNat = none ∨ (s.reg (.ls
      n) a + imm.signExtend 32).toNat < 0x4000 → Completes (.stb (.ls n) d a imm) s fun t => s.Trapped (.ls n) 9 3 (s.pcOf (.ls n)) (s.reg (.ls n) a + imm.signExtend 32)
      t) ∧
  (∀ (n : Fin 48) (d a : Fin 16) (imm : BitVec 16) (s : State), s.coreOn (.ls n) = true → (s.reg (.ls n) a + imm.signExtend 32).toNat % 4 = 0 → lanePlace n (s.reg (.ls
      n) a + imm.signExtend 32).toNat = none ∨ (s.reg (.ls n) a + imm.signExtend 32).toNat < 0x4000 → Completes (.stwc (.ls n) d a imm) s fun t => s.Trapped (.ls n) 9 3
      (s.pcOf (.ls n)) (s.reg (.ls n) a + imm.signExtend 32) t) ∧
  (∀ (d a : Fin 16) (imm : BitVec 16) (s : State), s.coreOn .sup = true → (s.reg .sup a + imm.signExtend 32).toNat % 4 = 0 → s.mpuAllows s.level (s.reg .sup a +
      imm.signExtend 32).toNat 1 = false → s.mayTrap .sup 9 = true → Completes (.stw .sup d a imm) s fun t => s.Trapped .sup 9 0 s.sup.pc (s.reg .sup a + imm.signExtend
      32) t) ∧
  (∀ (d a : Fin 16) (imm : BitVec 16) (s : State), s.coreOn .sup = true → (s.reg .sup a + imm.signExtend 32).toNat % 2 = 0 → s.mpuAllows s.level (s.reg .sup a +
      imm.signExtend 32).toNat 1 = false → s.mayTrap .sup 9 = true → Completes (.sth .sup d a imm) s fun t => s.Trapped .sup 9 0 s.sup.pc (s.reg .sup a + imm.signExtend
      32) t) ∧
  (∀ (d a : Fin 16) (imm : BitVec 16) (s : State), s.coreOn .sup = true → s.mpuAllows s.level (s.reg .sup a + imm.signExtend 32).toNat 1 = false → s.mayTrap .sup 9 =
      true → Completes (.stb .sup d a imm) s fun t => s.Trapped .sup 9 0 s.sup.pc (s.reg .sup a + imm.signExtend 32) t) ∧
  (∀ (d a : Fin 16) (imm : BitVec 16) (s : State), s.coreOn .sup = true → (s.reg .sup a + imm.signExtend 32).toNat % 4 = 0 → s.mpuAllows s.level (s.reg .sup a +
      imm.signExtend 32).toNat 1 = false → s.mayTrap .sup 9 = true → Completes (.stwc .sup d a imm) s fun t => s.Trapped .sup 9 0 s.sup.pc (s.reg .sup a + imm.signExtend
      32) t) ∧
  (∀ (k : Core) (d a : Fin 16) (imm : BitVec 16) (x : State × DataRes × Nat) (c : Nat) (s : State), s.coreOn k = true → (s.reg k a + imm.signExtend 32).toNat % 4 = 0 →
      x = s.dataRead k d (s.reg k a + imm.signExtend 32).toNat .word → x.2.1 = .fault c → x.1.mayTrap k 8 = true → Completes (.ldw k d a imm) s fun t => x.1.Trapped k 8 c
      (s.pcOf k) (s.reg k a + imm.signExtend 32) t) ∧
  (∀ (k : Core) (d a : Fin 16) (imm : BitVec 16) (x : State × DataRes × Nat) (s : State), s.coreOn k = true → (s.reg k a + imm.signExtend 32).toNat % 4 = 0 → x =
      s.dataRead k d (s.reg k a + imm.signExtend 32).toNat .word → x.2.1 = .ecc → x.1.mayTrap k 10 = true → Completes (.ldw k d a imm) s fun t => x.1.Trapped k 10 0
      (s.pcOf k) (s.reg k a + imm.signExtend 32) t) ∧
  (∀ (k : Core) (d a : Fin 16) (imm : BitVec 16) (x : State × DataRes × Nat) (c : Nat) (s : State), s.coreOn k = true → (s.reg k a + imm.signExtend 32).toNat % 2 = 0 →
      x = s.dataRead k d (s.reg k a + imm.signExtend 32).toNat .half → x.2.1 = .fault c → x.1.mayTrap k 8 = true → Completes (.ldh k d a imm) s fun t => x.1.Trapped k 8 c
      (s.pcOf k) (s.reg k a + imm.signExtend 32) t) ∧
  (∀ (k : Core) (d a : Fin 16) (imm : BitVec 16) (x : State × DataRes × Nat) (s : State), s.coreOn k = true → (s.reg k a + imm.signExtend 32).toNat % 2 = 0 → x =
      s.dataRead k d (s.reg k a + imm.signExtend 32).toNat .half → x.2.1 = .ecc → x.1.mayTrap k 10 = true → Completes (.ldh k d a imm) s fun t => x.1.Trapped k 10 0
      (s.pcOf k) (s.reg k a + imm.signExtend 32) t) ∧
  (∀ (k : Core) (d a : Fin 16) (imm : BitVec 16) (x : State × DataRes × Nat) (c : Nat) (s : State), s.coreOn k = true → (s.reg k a + imm.signExtend 32).toNat % 2 = 0 →
      x = s.dataRead k d (s.reg k a + imm.signExtend 32).toNat .half → x.2.1 = .fault c → x.1.mayTrap k 8 = true → Completes (.ldhu k d a imm) s fun t => x.1.Trapped k 8 c
      (s.pcOf k) (s.reg k a + imm.signExtend 32) t) ∧
  (∀ (k : Core) (d a : Fin 16) (imm : BitVec 16) (x : State × DataRes × Nat) (s : State), s.coreOn k = true → (s.reg k a + imm.signExtend 32).toNat % 2 = 0 → x =
      s.dataRead k d (s.reg k a + imm.signExtend 32).toNat .half → x.2.1 = .ecc → x.1.mayTrap k 10 = true → Completes (.ldhu k d a imm) s fun t => x.1.Trapped k 10 0
      (s.pcOf k) (s.reg k a + imm.signExtend 32) t) ∧
  (∀ (k : Core) (d a : Fin 16) (imm : BitVec 16) (x : State × DataRes × Nat) (c : Nat) (s : State), s.coreOn k = true → x = s.dataRead k d (s.reg k a + imm.signExtend
      32).toNat .byte → x.2.1 = .fault c → x.1.mayTrap k 8 = true → Completes (.ldb k d a imm) s fun t => x.1.Trapped k 8 c (s.pcOf k) (s.reg k a + imm.signExtend 32) t) ∧
  (∀ (k : Core) (d a : Fin 16) (imm : BitVec 16) (x : State × DataRes × Nat) (s : State), s.coreOn k = true → x = s.dataRead k d (s.reg k a + imm.signExtend 32).toNat
      .byte → x.2.1 = .ecc → x.1.mayTrap k 10 = true → Completes (.ldb k d a imm) s fun t => x.1.Trapped k 10 0 (s.pcOf k) (s.reg k a + imm.signExtend 32) t) ∧
  (∀ (k : Core) (d a : Fin 16) (imm : BitVec 16) (x : State × DataRes × Nat) (c : Nat) (s : State), s.coreOn k = true → x = s.dataRead k d (s.reg k a + imm.signExtend
      32).toNat .byte → x.2.1 = .fault c → x.1.mayTrap k 8 = true → Completes (.ldbu k d a imm) s fun t => x.1.Trapped k 8 c (s.pcOf k) (s.reg k a + imm.signExtend 32) t) ∧
  (∀ (k : Core) (d a : Fin 16) (imm : BitVec 16) (x : State × DataRes × Nat) (s : State), s.coreOn k = true → x = s.dataRead k d (s.reg k a + imm.signExtend 32).toNat
      .byte → x.2.1 = .ecc → x.1.mayTrap k 10 = true → Completes (.ldbu k d a imm) s fun t => x.1.Trapped k 10 0 (s.pcOf k) (s.reg k a + imm.signExtend 32) t) ∧
  (∀ (k : Core) (d a : Fin 16) (imm : BitVec 16) (x : State × DataRes) (c : Nat) (s : State), s.coreOn k = true → (s.reg k a + imm.signExtend 32).toNat % 4 = 0 → x =
      s.dataWrite k (s.reg k a + imm.signExtend 32).toNat .word (s.reg k d) → x.2 = .fault c → x.1.mayTrap k 9 = true → Completes (.stw k d a imm) s fun t => x.1.Trapped k
      9 c (s.pcOf k) (s.reg k a + imm.signExtend 32) t) ∧
  (∀ (k : Core) (d a : Fin 16) (imm : BitVec 16) (x : State × DataRes) (c : Nat) (s : State), s.coreOn k = true → (s.reg k a + imm.signExtend 32).toNat % 2 = 0 → x =
      s.dataWrite k (s.reg k a + imm.signExtend 32).toNat .half (s.reg k d) → x.2 = .fault c → x.1.mayTrap k 9 = true → Completes (.sth k d a imm) s fun t => x.1.Trapped k
      9 c (s.pcOf k) (s.reg k a + imm.signExtend 32) t) ∧
  (∀ (k : Core) (d a : Fin 16) (imm : BitVec 16) (x : State × DataRes) (c : Nat) (s : State), s.coreOn k = true → x = s.dataWrite k (s.reg k a + imm.signExtend
      32).toNat .byte (s.reg k d) → x.2 = .fault c → x.1.mayTrap k 9 = true → Completes (.stb k d a imm) s fun t => x.1.Trapped k 9 c (s.pcOf k) (s.reg k a +
      imm.signExtend 32) t)

/-- An aligned store into supervisor SRAM or a sequencer's data memory stores the low bytes of g[rd] there and nowhere else, with no register or flag changed; STWC sets Z to 1
when the write is accepted; where the target answers with an error it completes with Z = 0 and no trap. A store elsewhere whose access is accepted goes on after whatever the
write itself changes, with no register or flag changed beside STWC's Z. A store to the event latch clears the lines written as 1. (Rests on 09_ecnak_isa.md,
13_memory_integrity_selftest.md.) -/
def Obligations.StoresWriteTheCoresOwnMemory : Prop :=
  (∀ (k : Core) (d a : Fin 16) (imm : BitVec 16) (p : Nat) (s : State), s.coreOn k = true → (s.reg k a + imm.signExtend 32).toNat % 4 = 0 → ownData k (s.reg k a +
      imm.signExtend 32).toNat = some p → s.Sound p → s.mpuPasses k (s.reg k a + imm.signExtend 32).toNat 1 = true → Completes (.stw k d a imm) s fun t => s.Stored p 4
      (s.reg k d) t ∧ s.Followed k t) ∧
  (∀ (k : Core) (d a : Fin 16) (imm : BitVec 16) (p : Nat) (s : State), s.coreOn k = true → (s.reg k a + imm.signExtend 32).toNat % 2 = 0 → ownData k (s.reg k a +
      imm.signExtend 32).toNat = some p → s.Sound p → s.mpuPasses k (s.reg k a + imm.signExtend 32).toNat 1 = true → Completes (.sth k d a imm) s fun t => s.Stored p 2
      (s.reg k d) t ∧ s.Followed k t) ∧
  (∀ (k : Core) (d a : Fin 16) (imm : BitVec 16) (p : Nat) (s : State), s.coreOn k = true → ownData k (s.reg k a + imm.signExtend 32).toNat = some p → s.Sound p →
      s.mpuPasses k (s.reg k a + imm.signExtend 32).toNat 1 = true → Completes (.stb k d a imm) s fun t => s.Stored p 1 (s.reg k d) t ∧ s.Followed k t) ∧
  (∀ (k : Core) (d a : Fin 16) (imm : BitVec 16) (p : Nat) (s : State), s.coreOn k = true → (s.reg k a + imm.signExtend 32).toNat % 4 = 0 → ownData k (s.reg k a +
      imm.signExtend 32).toNat = some p → s.Sound p → s.mpuPasses k (s.reg k a + imm.signExtend 32).toNat 1 = true → Completes (.stwc k d a imm) s fun t => s.Stored p 4
      (s.reg k d) t ∧ t.flags k = { s.flags k with z := true } ∧ t.pcOf k = s.pcOf k + 4#32 ∧ t.gpr = s.gpr ∧ s.Only [] t) ∧
  (∀ (k : Core) (d a : Fin 16) (imm : BitVec 16) (s : State), s.coreOn k = true → (s.reg k a + imm.signExtend 32).toNat % 4 = 0 → (s.dataWrite k (s.reg k a +
      imm.signExtend 32).toNat .word (s.reg k d)).2 = .fault 1 → (s.dataWrite k (s.reg k a + imm.signExtend 32).toNat .word (s.reg k d)).1.coreOn k = true → Completes
      (.stwc k d a imm) s fun t => t.flags k = { (s.dataWrite k (s.reg k a + imm.signExtend 32).toNat .word (s.reg k d)).1.flags k with z := false } ∧ t.pcOf k =
      (s.dataWrite k (s.reg k a + imm.signExtend 32).toNat .word (s.reg k d)).1.pcOf k + 4#32 ∧ t.gpr = (s.dataWrite k (s.reg k a + imm.signExtend 32).toNat .word (s.reg k
      d)).1.gpr) ∧
  (∀ (n : Fin 48) (d a : Fin 16) (imm : BitVec 16) (s : State), s.coreOn (.ls n) = true → (s.reg (.ls n) a + imm.signExtend 32).toNat = 0x12008 → Completes (.stw (.ls
      n) d a imm) s fun t => t.rd (R.LRX_SEQ_EVT n) = s.rd (R.LRX_SEQ_EVT n) &&& ~~~(s.reg (.ls n) d) ∧ t.pcOf (.ls n) = s.pcOf (.ls n) + 4#32 ∧ t.gpr = s.gpr ∧ s.Only
      [R.LRX_SEQ_EVT n] t) ∧
  (∀ (k : Core) (d a : Fin 16) (imm : BitVec 16) (x : State × DataRes) (s : State), s.coreOn k = true → (s.reg k a + imm.signExtend 32).toNat % 4 = 0 → x = s.dataWrite
      k (s.reg k a + imm.signExtend 32).toNat .word (s.reg k d) → x.2 = .done → x.1.coreOn k = true → Completes (.stw k d a imm) s fun t => t.flags k = x.1.flags k ∧
      t.pcOf k = x.1.pcOf k + 4#32 ∧ t.gpr = x.1.gpr ∧ t.mem = x.1.mem ∧ t.out = x.1.out) ∧
  (∀ (k : Core) (d a : Fin 16) (imm : BitVec 16) (x : State × DataRes) (s : State), s.coreOn k = true → (s.reg k a + imm.signExtend 32).toNat % 2 = 0 → x = s.dataWrite
      k (s.reg k a + imm.signExtend 32).toNat .half (s.reg k d) → x.2 = .done → x.1.coreOn k = true → Completes (.sth k d a imm) s fun t => t.flags k = x.1.flags k ∧
      t.pcOf k = x.1.pcOf k + 4#32 ∧ t.gpr = x.1.gpr ∧ t.mem = x.1.mem ∧ t.out = x.1.out) ∧
  (∀ (k : Core) (d a : Fin 16) (imm : BitVec 16) (x : State × DataRes) (s : State), s.coreOn k = true → x = s.dataWrite k (s.reg k a + imm.signExtend 32).toNat .byte
      (s.reg k d) → x.2 = .done → x.1.coreOn k = true → Completes (.stb k d a imm) s fun t => t.flags k = x.1.flags k ∧ t.pcOf k = x.1.pcOf k + 4#32 ∧ t.gpr = x.1.gpr ∧
      t.mem = x.1.mem ∧ t.out = x.1.out) ∧
  (∀ (k : Core) (d a : Fin 16) (imm : BitVec 16) (x : State × DataRes) (s : State), s.coreOn k = true → (s.reg k a + imm.signExtend 32).toNat % 4 = 0 → x = s.dataWrite
      k (s.reg k a + imm.signExtend 32).toNat .word (s.reg k d) → x.2 = .done → x.1.coreOn k = true → Completes (.stwc k d a imm) s fun t => t.flags k =
      { x.1.flags k with z := true } ∧ t.pcOf k = x.1.pcOf k + 4#32 ∧ t.gpr = x.1.gpr ∧ t.mem = x.1.mem)

/-- CLD reads a word of the bank that imm[11] names, CST stores the bits that a shadow word keeps, CUPD and CUPDU add a signed delta to a signed or unsigned field and clamp it;
CMT waits for its boundary or is refused at issue, in a pause with 1 and for a group boundary that the lane does not have with 2; CSTART asks for a window with the length and
source given; CSGN and HSUM read the results, 0 with V past the last correlator or bin, HSUM stopping at the last bin and saturating. Each of them traps with ILLEGAL where its
reserved bits are not 0, the field would end past bit 31, or the lane type does not have it. (Rests on 09_ecnak_isa.md.) -/
def Obligations.LaneExtensionsWorkOnTheLane : Prop :=
  (∀ (n : Fin 48) (d a : Fin 16) (imm : BitVec 12) (s : State), s.coreOn (.ls n) = true → bitsOf imm.toNat 6 5 = 0 → Completes (.cld n d a imm) s fun t => s.Computed
      (.ls n) d (s.rd (bankAddr n (if bitAt imm.toNat 11 then s.bankB n else !s.bankB n) ((s.reg (.ls n) a).toNat + imm.toNat % 64))) (s.flags (.ls n)) t) ∧
  (∀ (n : Fin 48) (d a : Fin 16) (imm : BitVec 12) (s : State), s.coreOn (.ls n) = true → imm.toNat < 64 → Completes (.cst n d a imm) s fun t => t.rd (bankAddr n
      (!s.bankB n) ((s.reg (.ls n) a).toNat + imm.toNat)) = BitVec.ofNat 32 ((s.reg (.ls n) d).toNat &&& bankMask n (((s.reg (.ls n) a).toNat + imm.toNat) % 64)) ∧ t.pcOf
      (.ls n) = s.pcOf (.ls n) + 4#32 ∧ t.flags (.ls n) = s.flags (.ls n) ∧ t.gpr = s.gpr ∧ s.Only [bankAddr n (!s.bankB n) ((s.reg (.ls n) a).toNat + imm.toNat)] t) ∧
  (∀ (n : Fin 48) (d a : Fin 16) (imm : BitVec 12) (w lo wd : Nat) (old new : Int) (s : State), s.coreOn (.ls n) = true → w = (s.reg (.ls n) d).toNat + imm.toNat % 64 →
      lo = 8 * bitsOf imm.toNat 6 2 → wd = bitsOf imm.toNat 8 4 + 1 → lo + wd ≤ 32 → old = signedOf wd (bitsOf (s.shadowWord n w).toNat lo wd) → new = clampInt (-(2 ^ (wd
      - 1))) (2 ^ (wd - 1) - 1) (old + (s.reg (.ls n) a).toInt) → Completes (.cupd n d a imm) s fun t => t.rd (bankAddr n (!s.bankB n) w) = BitVec.ofNat 32 ((setBits
      (s.shadowWord n w) lo wd (new % 2 ^ wd).toNat).toNat &&& bankMask n (w % 64)) ∧ (signedOf wd (bitsOf (t.shadowWord n w).toNat lo wd) = new ∨ bankMask n (w % 64) &&&
      ((2 ^ wd - 1) * 2 ^ lo) ≠ (2 ^ wd - 1) * 2 ^ lo) ∧ t.flags (.ls n) = ((s.flags (.ls n)).nzv (decide (new < 0)) (decide (new = 0)) (decide (new ≠ old + (s.reg (.ls n)
      a).toInt))) ∧ t.pcOf (.ls n) = s.pcOf (.ls n) + 4#32 ∧ t.gpr = s.gpr ∧ s.Only [bankAddr n (!s.bankB n) w] t) ∧
  (∀ (n : Fin 48) (d a : Fin 16) (imm : BitVec 12) (w lo wd old : Nat) (new : Int) (s : State), s.coreOn (.ls n) = true → w = (s.reg (.ls n) d).toNat + imm.toNat % 64 →
      lo = 8 * bitsOf imm.toNat 6 2 → wd = bitsOf imm.toNat 8 4 + 1 → lo + wd ≤ 32 → old = bitsOf (s.shadowWord n w).toNat lo wd → new = clampInt 0 (2 ^ wd - 1) (old +
      (s.reg (.ls n) a).toInt) → Completes (.cupdu n d a imm) s fun t => t.rd (bankAddr n (!s.bankB n) w) = BitVec.ofNat 32 ((setBits (s.shadowWord n w) lo wd (new % 2 ^
      wd).toNat).toNat &&& bankMask n (w % 64)) ∧ (bitsOf (t.shadowWord n w).toNat lo wd = new.toNat ∨ bankMask n (w % 64) &&& ((2 ^ wd - 1) * 2 ^ lo) ≠ (2 ^ wd - 1) * 2 ^
      lo) ∧ t.flags (.ls n) = ((s.flags (.ls n)).nzv (false) (decide (new = 0)) (decide (new ≠ old + (s.reg (.ls n) a).toInt))) ∧ t.pcOf (.ls n) = s.pcOf (.ls n) + 4#32 ∧
      t.gpr = s.gpr ∧ s.Only [bankAddr n (!s.bankB n) w] t) ∧
  (∀ (n : Fin 48) (d : Fin 16) (grp : Bool) (s : State), s.coreOn (.ls n) = true → s.paused n = false → (grp = true → s.hasGroups n = true) → Completes (.cmt n d grp) s
      fun t => (t.seq n).cmt = some (d.val, grp) ∧ t.pcOf (.ls n) = s.pcOf (.ls n) ∧ t.gpr = s.gpr ∧ s.Only [] t) ∧
  (∀ (n : Fin 48) (d : Fin 16) (grp : Bool) (s : State), s.coreOn (.ls n) = true → s.paused n = true ∨ grp = true ∧ s.hasGroups n = false → Completes (.cmt n d grp) s
      fun t => s.Computed (.ls n) d (if s.paused n then 1#32 else 2#32) { s.flags (.ls n) with z := false, n := false } t ∧ (t.seq n).cmt = none) ∧
  (∀ (n : Fin 48) (imm : BitVec 12) (s : State), s.coreOn (.ls n) = true → n.val < 8 ∨ 16 ≤ n.val ∧ n.val < 32 → imm.toNat < 64 → Completes (.cstart n imm) s fun t =>
      (t.lane n).corrGo = true ∧ t.fld ⟨corrCtl n, 0, 5⟩ = imm.toNat % 32 ∧ t.is (F.LRX_CORR_CTL_HIST_SRC n) = (if n.val < 8 then bitAt imm.toNat 5 else s.is
      (F.LRX_CORR_CTL_HIST_SRC n)) ∧ t.pcOf (.ls n) = s.pcOf (.ls n) + 4#32 ∧ t.flags (.ls n) = s.flags (.ls n) ∧ t.gpr = s.gpr ∧ s.Only [corrCtl n] t) ∧
  (∀ (n : Fin 48) (d a : Fin 16) (imm : BitVec 12) (i : Nat) (s : State), s.coreOn (.ls n) = true → n.val < 8 ∨ 16 ≤ n.val ∧ n.val < 32 → imm.toNat < 128 → i = (s.reg
      (.ls n) a + imm.setWidth 32).toNat → i < (if n.val < 8 then 66 else 13) → Completes (.csgn n d a imm) s fun t => s.Computed (.ls n) d (BitVec.ofInt 32 (s.rd (if
      n.val < 8 then R.LRX_CORR n i else R.HRX_CORR n i)).toInt.sign) ((s.flags (.ls n)).nzv ((s.rd (if n.val < 8 then R.LRX_CORR n i else R.HRX_CORR n i)).msb) (s.rd (if
      n.val < 8 then R.LRX_CORR n i else R.HRX_CORR n i) == 0#32) (false)) t) ∧
  (∀ (n : Fin 48) (d a : Fin 16) (imm : BitVec 12) (s : State), s.coreOn (.ls n) = true → n.val < 8 ∨ 16 ≤ n.val ∧ n.val < 32 → imm.toNat < 128 → (if n.val < 8 then 66
      else 13) ≤ (s.reg (.ls n) a + imm.setWidth 32).toNat → Completes (.csgn n d a imm) s fun t => s.Computed (.ls n) d 0#32 ((s.flags (.ls n)).nzv false true true) t) ∧
  (∀ (n : Fin 48) (d a : Fin 16) (imm : BitVec 12) (b0 bins sum : Nat) (s : State), s.coreOn (.ls n) = true → n.val < 8 ∧ bins = 256 ∨ 16 ≤ n.val ∧ n.val < 32 ∧ bins =
      64 → imm.toNat < 256 → b0 = (s.reg (.ls n) a).toNat → b0 < bins → sum = ((List.range (min (imm.toNat + 1) (bins - b0))).map fun j => (s.rd (if n.val < 8 then
      R.LRX_HIST n (b0 + j) else R.HRX_HIST n (b0 + j))).toNat).sum → Completes (.hsum n d a imm) s fun t => s.Computed (.ls n) d (BitVec.ofNat 32 (min sum 0xFFFFFFFF))
      ((s.flags (.ls n)).nzv ((BitVec.ofNat 32 (min sum 0xFFFFFFFF)).msb) (BitVec.ofNat 32 (min sum 0xFFFFFFFF) == 0#32) (decide (0xFFFFFFFF < sum))) t) ∧
  (∀ (n : Fin 48) (d a : Fin 16) (imm : BitVec 12) (s : State), s.coreOn (.ls n) = true → n.val < 8 ∨ 16 ≤ n.val ∧ n.val < 32 → imm.toNat < 256 → (if n.val < 8 then 256
      else 64) ≤ (s.reg (.ls n) a).toNat → Completes (.hsum n d a imm) s fun t => s.Computed (.ls n) d 0#32 ((s.flags (.ls n)).nzv false true true) t) ∧
  (∀ (n : Fin 48) (imm : BitVec 12) (s : State), s.coreOn (.ls n) = true → 8 ≤ n.val ∧ n.val < 16 ∨ 32 ≤ n.val ∨ 64 ≤ imm.toNat → Completes (.cstart n imm) s fun t =>
      s.Trapped (.ls n) 1 0 (s.pcOf (.ls n)) (BitVec.ofNat 32 (0x30 * 2 ^ 26 + 8 * 2 ^ 12 + imm.toNat)) t) ∧
  (∀ (n : Fin 48) (d a : Fin 16) (imm : BitVec 12) (s : State), s.coreOn (.ls n) = true → bitsOf imm.toNat 6 5 ≠ 0 → Completes (.cld n d a imm) s fun t => s.Trapped
      (.ls n) 1 0 (s.pcOf (.ls n)) (BitVec.ofNat 32 (0x30 * 2 ^ 26 + d.val * 2 ^ 22 + a.val * 2 ^ 18 + 0 * 2 ^ 12 + imm.toNat)) t) ∧
  (∀ (n : Fin 48) (d a : Fin 16) (imm : BitVec 12) (s : State), s.coreOn (.ls n) = true → 64 ≤ imm.toNat → Completes (.cst n d a imm) s fun t => s.Trapped (.ls n) 1 0
      (s.pcOf (.ls n)) (BitVec.ofNat 32 (0x30 * 2 ^ 26 + d.val * 2 ^ 22 + a.val * 2 ^ 18 + 1 * 2 ^ 12 + imm.toNat)) t) ∧
  (∀ (n : Fin 48) (d a : Fin 16) (imm : BitVec 12) (s : State), s.coreOn (.ls n) = true → 32 < 8 * bitsOf imm.toNat 6 2 + (bitsOf imm.toNat 8 4 + 1) → Completes (.cupd
      n d a imm) s fun t => s.Trapped (.ls n) 1 0 (s.pcOf (.ls n)) (BitVec.ofNat 32 (0x30 * 2 ^ 26 + d.val * 2 ^ 22 + a.val * 2 ^ 18 + 2 * 2 ^ 12 + imm.toNat)) t) ∧
  (∀ (n : Fin 48) (d a : Fin 16) (imm : BitVec 12) (s : State), s.coreOn (.ls n) = true → 32 < 8 * bitsOf imm.toNat 6 2 + (bitsOf imm.toNat 8 4 + 1) → Completes (.cupdu
      n d a imm) s fun t => s.Trapped (.ls n) 1 0 (s.pcOf (.ls n)) (BitVec.ofNat 32 (0x30 * 2 ^ 26 + d.val * 2 ^ 22 + a.val * 2 ^ 18 + 3 * 2 ^ 12 + imm.toNat)) t) ∧
  (∀ (n : Fin 48) (d a : Fin 16) (imm : BitVec 12) (s : State), s.coreOn (.ls n) = true → 8 ≤ n.val ∧ n.val < 16 ∨ 32 ≤ n.val ∨ 128 ≤ imm.toNat → Completes (.csgn n d a
      imm) s fun t => s.Trapped (.ls n) 1 0 (s.pcOf (.ls n)) (BitVec.ofNat 32 (0x30 * 2 ^ 26 + d.val * 2 ^ 22 + a.val * 2 ^ 18 + 9 * 2 ^ 12 + imm.toNat)) t) ∧
  (∀ (n : Fin 48) (d a : Fin 16) (imm : BitVec 12) (s : State), s.coreOn (.ls n) = true → 8 ≤ n.val ∧ n.val < 16 ∨ 32 ≤ n.val ∨ 256 ≤ imm.toNat → Completes (.hsum n d a
      imm) s fun t => s.Trapped (.ls n) 1 0 (s.pcOf (.ls n)) (BitVec.ofNat 32 (0x30 * 2 ^ 26 + d.val * 2 ^ 22 + a.val * 2 ^ 18 + 10 * 2 ^ 12 + imm.toNat)) t)

/-- WFE completes at once when a masked line is set, or with mask 0 and no timeout; else the sequencer waits until a masked line is set or the timeout expires; either way rd gets
the lines consumed, with Z and N. A release without a masked line, and a timeout of a sequencer that waits without one, change nothing. MPOST appends a notice of the lane's
channel and tells ARRIVE, or says in Z that the channel holds four; a post with tag 0x01 while an HRX is in ACQ is its program's ready; MPOST with imm not 0 is ILLEGAL. MTAKE
returns the oldest notice of its own channel and tells SPACE, or leaves its registers alone with Z = 0; both halves into one register other than g0 is ILLEGAL. (Rests on
09_ecnak_isa.md, 10_lane_programs_supervisor.md.) -/
def Obligations.EventsAndNoticesOfASequencer : Prop :=
  (∀ (n : Fin 48) (d a : Fin 16) (imm : BitVec 12) (s : State), s.coreOn (.ls n) = true → s.rd (R.LRX_SEQ_EVT n) &&& s.reg (.ls n) a ≠ 0#32 ∨ s.reg (.ls n) a = 0#32 ∧
      imm = 0#12 → Completes (.wfe n d a imm) s fun t => t.reg (.ls n) d = written d (s.rd (R.LRX_SEQ_EVT n) &&& s.reg (.ls n) a) ∧ t.rd (R.LRX_SEQ_EVT n) = s.rd
      (R.LRX_SEQ_EVT n) &&& ~~~(s.reg (.ls n) a) ∧ t.flags (.ls n) = (s.flags (.ls n)).nz (s.rd (R.LRX_SEQ_EVT n) &&& s.reg (.ls n) a) ∧ t.pcOf (.ls n) = s.pcOf (.ls n) +
      4#32 ∧ s.Only [R.LRX_SEQ_EVT n] t) ∧
  (∀ (n : Fin 48) (d a : Fin 16) (imm : BitVec 12) (s : State), s.coreOn (.ls n) = true → s.rd (R.LRX_SEQ_EVT n) &&& s.reg (.ls n) a = 0#32 → s.reg (.ls n) a ≠ 0#32 ∨
      imm ≠ 0#12 → Completes (.wfe n d a imm) s fun t => t.fld (F.LRX_SEQ_STAT_STATE n) = 2 ∧ (t.seq n).wait = some ⟨d.val, s.reg (.ls n) a, imm.toNat, s.clock⟩ ∧ t.pcOf
      (.ls n) = s.pcOf (.ls n) ∧ t.gpr = s.gpr ∧ s.Only [R.LRX_SEQ_STAT n] t) ∧
  (∀ (n : Fin 48) (d : Fin 16) (mask : Word) (lim at0 : Nat) (s : State), (s.seq n).wait = some ⟨d.val, mask, lim, at0⟩ → s.rd (R.LRX_SEQ_EVT n) &&& mask ≠ 0#32 →
      Completes (.wfeRelease n) s fun t => t.reg (.ls n) d = written d (s.rd (R.LRX_SEQ_EVT n) &&& mask) ∧ t.rd (R.LRX_SEQ_EVT n) = s.rd (R.LRX_SEQ_EVT n) &&& ~~~mask ∧
      t.fld (F.LRX_SEQ_STAT_STATE n) = 1 ∧ t.flags (.ls n) = { s.flags (.ls n) with z := false, n := (s.rd (R.LRX_SEQ_EVT n) &&& mask).msb } ∧ t.pcOf (.ls n) = s.pcOf (.ls
      n) + 4#32 ∧ (t.seq n).wait = none ∧ s.Only [R.LRX_SEQ_EVT n, R.LRX_SEQ_STAT n] t) ∧
  (∀ (n : Fin 48) (d : Fin 16) (mask : Word) (lim at0 : Nat) (s : State), (s.seq n).wait = some ⟨d.val, mask, lim, at0⟩ → lim ≠ 0 → s.rd (R.LRX_SEQ_EVT n) &&& mask =
      0#32 → Completes (.wfeTimeout n) s fun t => t.reg (.ls n) d = 0#32 ∧ t.fld (F.LRX_SEQ_STAT_STATE n) = 1 ∧ t.flags (.ls n) =
      { s.flags (.ls n) with z := true, n := false } ∧ t.pcOf (.ls n) = s.pcOf (.ls n) + 4#32 ∧ s.Only [R.LRX_SEQ_STAT n] t) ∧
  (∀ (n : Fin 48) (s : State), (s.seq n).wait = none → s.IrqRemembered → Completes (.wfeRelease n) s fun t => t = s) ∧
  (∀ (n : Fin 48) (d : Nat) (mask : Word) (lim at0 : Nat) (s : State), (s.seq n).wait = some ⟨d, mask, lim, at0⟩ → s.rd (R.LRX_SEQ_EVT n) &&& mask = 0#32 →
      s.IrqRemembered → Completes (.wfeRelease n) s fun t => t = s) ∧
  (∀ (n : Fin 48) (s : State), (s.seq n).wait = none → s.IrqRemembered → Completes (.wfeTimeout n) s fun t => t = s) ∧
  (∀ (n : Fin 48) (d : Nat) (mask : Word) (at0 : Nat) (s : State), (s.seq n).wait = some ⟨d, mask, 0, at0⟩ → s.IrqRemembered → Completes (.wfeTimeout n) s fun t => t =
      s) ∧
  (∀ (n : Fin 48) (d a : Fin 16) (s : State), s.coreOn (.ls n) = true → (s.chan (8 + n)).q.length < 4 → Completes (.mpost n d a 0) s fun t => (t.chan (8 + n)).q =
      (s.chan (8 + n)).q ++ [(s.reg (.ls n) a, (s.reg (.ls n) d &&& 0x3FFFFFFF#32) ||| 0x40000000#32)] ∧ bitAt (t.rd (R.MBOX_ARRIVE ((8 + n) / 32))).toNat ((8 + n) % 32) =
      true ∧ (t.lane n).ready = ((s.lane n).ready || decide (bitsOf (s.reg (.ls n) d).toNat 16 8 = 1 ∧ 16 ≤ n.val ∧ n.val < 32 ∧ s.fld (F.HRX_STATUS_STATE n) = 1)) ∧
      t.flags (.ls n) = { s.flags (.ls n) with z := true } ∧ t.pcOf (.ls n) = s.pcOf (.ls n) + 4#32 ∧ t.gpr = s.gpr ∧ s.Only [R.MBOX_CH_STAT (8 + n), R.MBOX_ARRIVE ((8 +
      n) / 32)] t) ∧
  (∀ (n : Fin 48) (d a : Fin 16) (s : State), s.coreOn (.ls n) = true → 4 ≤ (s.chan (8 + n)).q.length → Completes (.mpost n d a 0) s fun t => t.chans = s.chans ∧
      t.flags (.ls n) = { s.flags (.ls n) with z := false } ∧ t.pcOf (.ls n) = s.pcOf (.ls n) + 4#32 ∧ t.gpr = s.gpr ∧ s.Only [R.MBOX_CH_STAT (8 + n)] t) ∧
  (∀ (n : Fin 48) (d a : Fin 16) (imm : BitVec 12) (s : State), s.coreOn (.ls n) = true → imm ≠ 0#12 → Completes (.mpost n d a imm) s fun t => s.Trapped (.ls n) 1 0
      (s.pcOf (.ls n)) (BitVec.ofNat 32 (0x30 * 2 ^ 26 + d.val * 2 ^ 22 + a.val * 2 ^ 18 + 24 * 2 ^ 12 + imm.toNat)) t) ∧
  (∀ (n : Fin 48) (d a : Fin 16) (lo hi : Word) (rest : List (Word × Word)) (s : State), s.coreOn (.ls n) = true → d ≠ a ∨ d = 0 → (s.chan (56 + n)).q = (lo, hi) ::
      rest → Completes (.mtake n d a) s fun t => (t.chan (56 + n)).q = rest ∧ t.reg (.ls n) d = written d lo ∧ t.reg (.ls n) a = written a hi ∧ bitAt (t.rd (R.MBOX_SPACE
      ((56 + n) / 32))).toNat ((56 + n) % 32) = true ∧ t.flags (.ls n) = { s.flags (.ls n) with z := true } ∧ t.pcOf (.ls n) = s.pcOf (.ls n) + 4#32 ∧ s.Only [R.MBOX_SPACE
      ((56 + n) / 32)] t) ∧
  (∀ (n : Fin 48) (d a : Fin 16) (s : State), s.coreOn (.ls n) = true → d ≠ a ∨ d = 0 → (s.chan (56 + n)).q = [] → Completes (.mtake n d a) s fun t => t.flags (.ls n) =
      { s.flags (.ls n) with z := false } ∧ t.pcOf (.ls n) = s.pcOf (.ls n) + 4#32 ∧ t.gpr = s.gpr ∧ t.chans = s.chans ∧ s.Only [] t) ∧
  (∀ (n : Fin 48) (d : Fin 16) (s : State), s.coreOn (.ls n) = true → d ≠ 0 → Completes (.mtake n d d) s fun t => s.Trapped (.ls n) 1 0 (s.pcOf (.ls n)) (BitVec.ofNat
      32 (0x30 * 2 ^ 26 + d.val * 2 ^ 22 + d.val * 2 ^ 18 + 0x19 * 2 ^ 12)) t)

/-- A permitted read of a free semaphore returns 0 and grants it with its holder, one of a held semaphore returns it as it stands, a read not permitted returns 1, is logged and
refused; a release from the holder, with the SEC it was taken with where that is 0x6, or from 0x1 frees it (R256, R258), any other is logged and refused, and a write of HELD =
1 is ignored. A receiver's read of CH_LO returns and removes the oldest notice and latches its high word, 0 when the channel is empty; the sender reads what it staged, a
stranger is refused and logged, channels 6 and 7 read as 0. A read of CH_HI returns what was latched. Bits 24 to 31 of SEQ_EVT_SET from 0x1 and 0x3 set those lines (R240);
other masters are refused. The refusals are R250; what a sender reads at CH_LO, and the release of a free semaphore by 0x1, are log entry 48. (Rests on
10_lane_programs_supervisor.md.) -/
def Obligations.SemaphoresAndNoticesAreTaken : Prop :=
  (∀ (m : Master) (i : Fin 32) (s : State), s.Reached m (R.MBOX_SEM i) → if i.val < 16 then m.code = 1 ∨ m.code = 3 else 1 ≤ m.code ∧ m.code ≤ 5 → s.is (F.MBOX_SEM_HELD
      i) = false → Completes (.semaphoreRead m i) s fun t => s.Returned m 0 0#32 t ∧ t.is (F.MBOX_SEM_HELD i) = true ∧ t.fld (F.MBOX_SEM_HOLDER i) = m.holder ∧ t.is
      (F.MBOX_SEM_HOLDER_SEC i) = (m.holder == 6 && m.secBit) ∧ s.Only [R.MBOX_SEM i] t) ∧
  (∀ (m : Master) (i : Fin 32) (s : State), s.Reached m (R.MBOX_SEM i) → if i.val < 16 then m.code = 1 ∨ m.code = 3 else 1 ≤ m.code ∧ m.code ≤ 5 → s.is (F.MBOX_SEM_HELD
      i) = true → Completes (.semaphoreRead m i) s fun t => s.Returned m 0 (s.rd (R.MBOX_SEM i)) t ∧ s.Only [] t) ∧
  (∀ (m : Master) (i : Fin 32) (s : State), s.Reached m (R.MBOX_SEM i) → ¬ (if i.val < 16 then m.code = 1 ∨ m.code = 3 else 1 ≤ m.code ∧ m.code ≤ 5) → Completes
      (.semaphoreRead m i) s fun t => s.Returned m 2 1#32 t ∧ t.fld F.MBOX_ACC_LOG_COUNT = min (s.fld F.MBOX_ACC_LOG_COUNT + 1) 65535 ∧ t.fld F.MBOX_ACC_LOG_INDEX = i.val
      ∧ t.is F.MBOX_ACC_LOG_KIND = true ∧ t.fld F.MBOX_ACC_LOG_MASTER = m.holder ∧ s.Only [R.MBOX_ACC_LOG] t) ∧
  (∀ (m : Master) (i : Fin 32) (s : State), s.Reached m (R.MBOX_SEM i) → m.holder = 1 ∨ s.is (F.MBOX_SEM_HELD i) = true ∧ m.holder = s.fld (F.MBOX_SEM_HOLDER i) ∧
      (m.holder = 6 → m.secBit = s.is (F.MBOX_SEM_HOLDER_SEC i)) → (m.holder ≠ 1 → m.holder ≠ 6 → s.is (F.MBOX_SEM_HOLDER_SEC i) = false) → Completes (.semaphoreRelease m
      i) s fun t => s.Answered m 0 t ∧ t.rd (R.MBOX_SEM i) = 0#32 ∧ s.Only [R.MBOX_SEM i] t) ∧
  (∀ (m : Master) (i : Fin 32) (s : State), s.Reached m (R.MBOX_SEM i) → m.holder ≠ 1 → s.is (F.MBOX_SEM_HELD i) = false ∨ m.holder ≠ s.fld (F.MBOX_SEM_HOLDER i) ∨
      m.holder = 6 ∧ m.secBit ≠ s.is (F.MBOX_SEM_HOLDER_SEC i) → Completes (.semaphoreRelease m i) s fun t => s.Answered m 2 t ∧ t.fld F.MBOX_ACC_LOG_COUNT = min (s.fld
      F.MBOX_ACC_LOG_COUNT + 1) 65535 ∧ t.fld F.MBOX_ACC_LOG_INDEX = i.val ∧ t.is F.MBOX_ACC_LOG_KIND = true ∧ t.fld F.MBOX_ACC_LOG_MASTER = m.holder ∧ s.Only
      [R.MBOX_ACC_LOG] t) ∧
  (∀ (m : Master) (i : Fin 32) (v : Word) (s : State), s.Reached m (R.MBOX_SEM i) → bitAt v.toNat 0 = true → Completes (.registerWrite m (R.MBOX_SEM i) v) s fun t =>
      s.Answered m 0 t ∧ s.Only [] t) ∧
  (∀ (m : Master) (c : Fin 104) (lo hi : Word) (rest : List (Word × Word)) (s : State), s.Reached m (R.MBOX_CH_LO c) → c.val ≠ 6 ∧ c.val ≠ 7 → mayTake m c = true →
      (s.chan c).q = (lo, hi) :: rest → Completes (.mailboxTake m c) s fun t => s.Returned m 0 lo t ∧ (t.chan c).q = rest ∧ (t.chan c).latch = hi ∧ (c.val < 8 ∨ 56 ≤ c.val
      → bitAt (t.rd (R.MBOX_SPACE (c / 32))).toNat (c % 32) = true) ∧ (8 ≤ c.val ∧ c.val < 56 → rest.length = 3 → s.laneOn (c - 8) = true → bitAt (t.fld
      (F.LRX_SEQ_EVT_LINES (c - 8))) 17 = true) ∧ s.OnlyBlocks [blockOf (R.MBOX_CH_LO 0), blockOf (R.LRX_SEQ_CTL (c - 8))] t) ∧
  (∀ (m : Master) (c : Fin 104) (s : State), s.Reached m (R.MBOX_CH_LO c) → c.val ≠ 6 ∧ c.val ≠ 7 → mayTake m c = true → (s.chan c).q = [] → Completes (.mailboxTake m
      c) s fun t => s.Returned m 0 0#32 t ∧ (t.chan c).q = [] ∧ (t.chan c).latch = 0#32 ∧ s.Only [] t) ∧
  (∀ (m : Master) (c : Fin 104) (s : State), s.Reached m (R.MBOX_CH_LO c) → c.val ≠ 6 ∧ c.val ≠ 7 → mayTake m c = false → mayPost m c = true → Completes (.mailboxTake m
      c) s fun t => s.Returned m 0 (s.chan c).staged t ∧ t.chans = s.chans ∧ s.Only [] t) ∧
  (∀ (m : Master) (c : Fin 104) (s : State), s.Reached m (R.MBOX_CH_LO c) → c.val ≠ 6 ∧ c.val ≠ 7 → mayTake m c = false → mayPost m c = false → Completes (.mailboxTake
      m c) s fun t => s.Returned m 2 0#32 t ∧ t.chans = s.chans ∧ t.fld F.MBOX_ACC_LOG_COUNT = min (s.fld F.MBOX_ACC_LOG_COUNT + 1) 65535 ∧ t.fld F.MBOX_ACC_LOG_INDEX =
      c.val ∧ t.is F.MBOX_ACC_LOG_KIND = false ∧ t.fld F.MBOX_ACC_LOG_MASTER = m.holder ∧ s.Only [R.MBOX_ACC_LOG] t) ∧
  (∀ (m : Master) (c : Fin 104) (s : State), s.Reached m (R.MBOX_CH_LO c) → c.val = 6 ∨ c.val = 7 → Completes (.mailboxTake m c) s fun t => s.Returned m 0 0#32 t ∧
      t.chans = s.chans ∧ s.Only [] t) ∧
  (∀ (m : Master) (c : Fin 104) (s : State), s.Reached m (R.MBOX_CH_HI c) → c.val ≠ 6 ∧ c.val ≠ 7 → mayTake m c = true ∨ mayPost m c = true → Completes (.readClear m
      (R.MBOX_CH_HI c)) s fun t => s.Returned m 0 (s.chan c).latch t ∧ t.chans = s.chans ∧ s.Only [] t) ∧
  (∀ (m : Master) (n : Fin 48) (v : Word) (s : State), s.Reached m (R.LRX_SEQ_EVT_SET n) → m.code = 1 ∨ m.code = 3 → Completes (.seqEvtSet m n v) s fun t => s.Answered
      m 0 t ∧ t.rd (R.LRX_SEQ_EVT n) = s.rd (R.LRX_SEQ_EVT n) ||| (v &&& 0xFF000000#32) ∧ s.Only [R.LRX_SEQ_EVT n] t) ∧
  (∀ (m : Master) (n : Fin 48) (v : Word) (s : State), s.Reached m (R.LRX_SEQ_EVT_SET n) → m.code ≠ 1 → m.code ≠ 3 → Completes (.seqEvtSet m n v) s fun t => s.Answered
      m (if m.code = 7 then 1 else 2) t ∧ s.Only [] t)

/-- From masters 0x1 and 0x3: START runs the loaded program from ENTRY with cleared registers, STOP leaves it STOPPED, RESUME goes on at SEQ_PC, SAFE requests a safe point, LOADED
marks the program; one refused by the sequencer's state, or from another master, says so in REASON and changes nothing else; STOP of a stopped sequencer and SAFE of a stopped
one or with SAFE_PEND set change nothing; STOP during a CMT's wait completes the CMT first. An expired safe point stops the sequencer. A write of a stopped sequencer's
instruction memory from 0x1 stores the word, clears LOADED and sets IMEM_DIRTY; a broadcast write does so for every stopped powered lane of its type, at whatever offset of the
window (R237). How a refusal is answered and the offsets of a broadcast are read as in log entry 44, the CMT that a STOP completes as in log entry 26. (Rests on
10_lane_programs_supervisor.md.) -/
def Obligations.SequencersAreControlledAndLoaded : Prop :=
  (∀ (m : Master) (n : Fin 48) (s : State), s.Reached m (R.LRX_SEQ_CTL n) → m.code = 1 ∨ m.code = 3 → s.seqStopped n = true → s.is (F.LRX_SEQ_STAT_LOADED n) = true →
      s.laneOn n = true → s.oos n = false → Completes (.seqStart m n) s fun t => s.Answered m 0 t ∧ t.fld (F.LRX_SEQ_STAT_STATE n) = 1 ∧ (t.seq n).pc = s.rd
      (R.LRX_SEQ_ENTRY n) ∧ t.flags (.ls n) = ⟨false, false, false, false⟩ ∧ (∀ r : Fin 16, t.reg (.ls n) r = 0#32) ∧ t.is (F.LRX_SEQ_STAT_IMEM_DIRTY n) = false ∧ t.fld
      (F.LRX_SEQ_STAT_START_COUNT n) = (s.fld (F.LRX_SEQ_STAT_START_COUNT n) + 1) % 65536 ∧ (t.chan (8 + n)).q = [] ∧ s.OnlyBlocks [blockOf (R.LRX_SEQ_CTL n), blockOf
      (R.MBOX_CH_LO 0)] t) ∧
  (∀ (m : Master) (n : Fin 48) (s : State), s.Reached m (R.LRX_SEQ_CTL n) → m.code = 1 ∨ m.code = 3 → s.seqStopped n = true → s.is (F.LRX_SEQ_STAT_LOADED n) = false ∨
      s.laneOn n = false ∨ s.oos n = true → Completes (.seqStart m n) s fun t => s.Answered m 1 t ∧ t.fld (F.LRX_SEQ_STAT_REASON n) = (if s.is (F.LRX_SEQ_STAT_LOADED n)
      then 4 else 3) ∧ t.is (F.LRX_SEQ_EVENT_CMD_REFUSED n) = true ∧ s.Only [R.LRX_SEQ_STAT n, R.LRX_SEQ_EVENT n] t) ∧
  (∀ (m : Master) (n : Fin 48) (s : State), s.Reached m (R.LRX_SEQ_CTL n) → m.code = 1 ∨ m.code = 3 → s.seqStopped n = false → (s.seq n).cmt = none → Completes
      (.seqStop m n) s fun t => s.Answered m 0 t ∧ t.fld (F.LRX_SEQ_STAT_STATE n) = 0 ∧ t.rd (R.LRX_SEQ_PC n) = s.pcOf (.ls n) ∧ (t.seq n).wait = none ∧ t.is
      (F.LRX_SEQ_EVENT_STOPPED n) = true ∧ t.is (F.LRX_SEQ_STAT_SAFE_PEND n) = false ∧ t.gpr = s.gpr ∧ s.Only [R.LRX_SEQ_STAT n, R.LRX_SEQ_EVENT n, R.LRX_SEQ_PC n] t) ∧
  (∀ (m : Master) (n : Fin 48) (s : State), s.Reached m (R.LRX_SEQ_CTL n) → m.code = 1 ∨ m.code = 3 → s.fld (F.LRX_SEQ_STAT_STATE n) = 0 → (s.seq n).byReset = false →
      s.is (F.LRX_SEQ_STAT_IMEM_DIRTY n) = false → s.laneOn n = true → s.oos n = false → Completes (.seqResume m n) s fun t => s.Answered m 0 t ∧ t.fld
      (F.LRX_SEQ_STAT_STATE n) = 1 ∧ (t.seq n).pc = s.rd (R.LRX_SEQ_PC n) ∧ t.gpr = s.gpr ∧ t.flags (.ls n) = s.flags (.ls n) ∧ s.Only [R.LRX_SEQ_STAT n] t) ∧
  (∀ (m : Master) (n : Fin 48) (s : State), s.Reached m (R.LRX_SEQ_CTL n) → m.code = 1 ∨ m.code = 3 → s.seqStopped n = false → s.is (F.LRX_SEQ_STAT_SAFE_PEND n) = false
      → Completes (.seqSafe m n) s fun t => s.Answered m 0 t ∧ t.is (F.LRX_SEQ_STAT_SAFE_PEND n) = true ∧ (s.laneOn n = true → bitAt (t.fld (F.LRX_SEQ_EVT_LINES n)) 20 =
      true) ∧ (t.seq n).safeAt = s.clock ∧ s.Only [R.LRX_SEQ_STAT n, R.LRX_SEQ_EVT n] t) ∧
  (∀ (m : Master) (n : Fin 48) (s : State), s.Reached m (R.LRX_SEQ_CTL n) → m.code = 1 ∨ m.code = 3 → s.seqStopped n = true → Completes (.seqLoaded m n) s fun t =>
      s.Answered m 0 t ∧ t.is (F.LRX_SEQ_STAT_LOADED n) = true ∧ s.Only [R.LRX_SEQ_STAT n] t) ∧
  (∀ (m : Master) (n : Fin 48) (s : State), s.Reached m (R.LRX_SEQ_CTL n) → m.code ≠ 1 → m.code ≠ 3 → Completes (.seqStart m n) s fun t => s.Answered m 2 t ∧ t.fld
      (F.LRX_SEQ_STAT_REASON n) = 1 ∧ t.is (F.LRX_SEQ_EVENT_CMD_REFUSED n) = true ∧ t.fld (F.LRX_SEQ_STAT_STATE n) = s.fld (F.LRX_SEQ_STAT_STATE n) ∧ s.Only
      [R.LRX_SEQ_STAT n, R.LRX_SEQ_EVENT n] t) ∧
  (∀ (m : Master) (n : Fin 48) (s : State), s.Reached m (R.LRX_SEQ_CTL n) → m.code ≠ 1 → m.code ≠ 3 → Completes (.seqStop m n) s fun t => s.Answered m 2 t ∧ t.fld
      (F.LRX_SEQ_STAT_REASON n) = 1 ∧ t.is (F.LRX_SEQ_EVENT_CMD_REFUSED n) = true ∧ t.fld (F.LRX_SEQ_STAT_STATE n) = s.fld (F.LRX_SEQ_STAT_STATE n) ∧ s.Only
      [R.LRX_SEQ_STAT n, R.LRX_SEQ_EVENT n] t) ∧
  (∀ (m : Master) (n : Fin 48) (s : State), s.Reached m (R.LRX_SEQ_CTL n) → m.code ≠ 1 → m.code ≠ 3 → Completes (.seqResume m n) s fun t => s.Answered m 2 t ∧ t.fld
      (F.LRX_SEQ_STAT_REASON n) = 1 ∧ t.is (F.LRX_SEQ_EVENT_CMD_REFUSED n) = true ∧ t.fld (F.LRX_SEQ_STAT_STATE n) = s.fld (F.LRX_SEQ_STAT_STATE n) ∧ s.Only
      [R.LRX_SEQ_STAT n, R.LRX_SEQ_EVENT n] t) ∧
  (∀ (m : Master) (n : Fin 48) (s : State), s.Reached m (R.LRX_SEQ_CTL n) → m.code ≠ 1 → m.code ≠ 3 → Completes (.seqSafe m n) s fun t => s.Answered m 2 t ∧ t.fld
      (F.LRX_SEQ_STAT_REASON n) = 1 ∧ t.is (F.LRX_SEQ_EVENT_CMD_REFUSED n) = true ∧ t.fld (F.LRX_SEQ_STAT_STATE n) = s.fld (F.LRX_SEQ_STAT_STATE n) ∧ s.Only
      [R.LRX_SEQ_STAT n, R.LRX_SEQ_EVENT n] t) ∧
  (∀ (m : Master) (n : Fin 48) (s : State), s.Reached m (R.LRX_SEQ_CTL n) → m.code ≠ 1 → m.code ≠ 3 → Completes (.seqLoaded m n) s fun t => s.Answered m 2 t ∧ t.fld
      (F.LRX_SEQ_STAT_REASON n) = 1 ∧ t.is (F.LRX_SEQ_EVENT_CMD_REFUSED n) = true ∧ t.fld (F.LRX_SEQ_STAT_STATE n) = s.fld (F.LRX_SEQ_STAT_STATE n) ∧ s.Only
      [R.LRX_SEQ_STAT n, R.LRX_SEQ_EVENT n] t) ∧
  (∀ (m : Master) (n : Fin 48) (s : State), s.Reached m (R.LRX_SEQ_CTL n) → m.code = 1 ∨ m.code = 3 → s.seqStopped n = false → Completes (.seqStart m n) s fun t =>
      s.Answered m 1 t ∧ t.fld (F.LRX_SEQ_STAT_REASON n) = 2 ∧ t.is (F.LRX_SEQ_EVENT_CMD_REFUSED n) = true ∧ (t.seq n).pc = (s.seq n).pc ∧ t.gpr = s.gpr ∧ s.Only
      [R.LRX_SEQ_STAT n, R.LRX_SEQ_EVENT n] t) ∧
  (∀ (m : Master) (n : Fin 48) (s : State), s.Reached m (R.LRX_SEQ_CTL n) → m.code = 1 ∨ m.code = 3 → s.seqStopped n = false → Completes (.seqLoaded m n) s fun t =>
      s.Answered m 1 t ∧ t.fld (F.LRX_SEQ_STAT_REASON n) = 2 ∧ t.is (F.LRX_SEQ_EVENT_CMD_REFUSED n) = true ∧ (t.seq n).pc = (s.seq n).pc ∧ t.gpr = s.gpr ∧ s.Only
      [R.LRX_SEQ_STAT n, R.LRX_SEQ_EVENT n] t) ∧
  (∀ (m : Master) (n : Fin 48) (s : State), s.Reached m (R.LRX_SEQ_CTL n) → m.code = 1 ∨ m.code = 3 → s.fld (F.LRX_SEQ_STAT_STATE n) ≠ 0 ∨ (s.seq n).byReset = true ∨
      s.is (F.LRX_SEQ_STAT_IMEM_DIRTY n) = true ∨ s.laneOn n = false ∨ s.oos n = true → Completes (.seqResume m n) s fun t => s.Answered m 1 t ∧ t.fld
      (F.LRX_SEQ_STAT_REASON n) = (if s.fld (F.LRX_SEQ_STAT_STATE n) ≠ 0 ∨ (s.seq n).byReset = true then 2 else if s.is (F.LRX_SEQ_STAT_IMEM_DIRTY n) = true then 5 else 4)
      ∧ t.is (F.LRX_SEQ_EVENT_CMD_REFUSED n) = true ∧ (t.seq n).pc = (s.seq n).pc ∧ t.gpr = s.gpr ∧ s.Only [R.LRX_SEQ_STAT n, R.LRX_SEQ_EVENT n] t) ∧
  (∀ (m : Master) (n : Fin 48) (s : State), s.Reached m (R.LRX_SEQ_CTL n) → m.code = 1 ∨ m.code = 3 → s.seqStopped n = true → Completes (.seqStop m n) s fun t =>
      s.Answered m 0 t ∧ t.seqs = s.seqs ∧ s.Only [] t) ∧
  (∀ (m : Master) (n : Fin 48) (s : State), s.Reached m (R.LRX_SEQ_CTL n) → m.code = 1 ∨ m.code = 3 → s.seqStopped n = true ∨ s.is (F.LRX_SEQ_STAT_SAFE_PEND n) = true →
      Completes (.seqSafe m n) s fun t => s.Answered m 0 t ∧ t.seqs = s.seqs ∧ s.Only [] t) ∧
  (∀ (m : Master) (n : Fin 48) (d : Fin 16) (grp : Bool) (s : State), s.Reached m (R.LRX_SEQ_CTL n) → m.code = 1 ∨ m.code = 3 → s.seqStopped n = false → (s.seq n).cmt =
      some (d.val, grp) → Completes (.seqStop m n) s fun t => t.out.head? = some (.response m 0 0) ∧ t.fld (F.LRX_SEQ_STAT_STATE n) = 0 ∧ t.rd (R.LRX_SEQ_PC n) = s.pcOf
      (.ls n) + 4#32 ∧ (t.seq n).cmt = none ∧ t.reg (.ls n) d = written d (if s.paused n = true then 1#32 else if grp = true ∧ s.hasGroups n = false then 2#32 else if
      s.shadowOk n = true then 0#32 else 3#32) ∧ t.is (F.LRX_BANK_ACTIVE n) = (s.is (F.LRX_BANK_ACTIVE n) != decide (s.paused n = false ∧ (grp = true → s.hasGroups n =
      true) ∧ s.shadowOk n = true)) ∧ t.is (F.LRX_SEQ_EVENT_STOPPED n) = true) ∧
  (∀ (n : Fin 48) (s : State), s.is (F.LRX_SEQ_STAT_SAFE_PEND n) = true → s.seqStopped n = false → (s.seq n).cmt = none → Completes (.safeTimeout n) s fun t => t.fld
      (F.LRX_SEQ_STAT_STATE n) = 0 ∧ t.is (F.LRX_SEQ_EVENT_SAFE_FORCED n) = true ∧ t.is (F.LRX_SEQ_EVENT_STOPPED n) = true ∧ t.is (F.LRX_SEQ_STAT_SAFE_PEND n) = false ∧
      t.rd (R.LRX_SEQ_PC n) = s.pcOf (.ls n) ∧ s.Only [R.LRX_SEQ_STAT n, R.LRX_SEQ_EVENT n, R.LRX_SEQ_PC n] t) ∧
  (∀ (n : Fin 48) (s : State), s.is (F.LRX_SEQ_STAT_SAFE_PEND n) = false → s.IrqRemembered → Completes (.safeTimeout n) s fun t => t = s) ∧
  (∀ (m : Master) (n : Fin 48) (w : Fin 4096) (v : Word) (s : State), m.code = 1 → s.seqStopped n = true → s.memGate (0x03000000 + n * 0x8000 + 4 * w) = none →
      Completes (.imemWrite m n w v) s fun t => s.Answered m 0 t ∧ t.bytesAt (0x03000000 + n * 0x8000 + 4 * w) 4 = leBytes 4 v.toNat ∧ t.is (F.LRX_SEQ_STAT_LOADED n) =
      false ∧ t.is (F.LRX_SEQ_STAT_IMEM_DIRTY n) = true ∧ s.Only [R.LRX_SEQ_STAT n] t) ∧
  (∀ (m : Master) (n : Fin 48) (w : Fin 4096) (v : Word) (s : State), m.code ≠ 1 ∨ s.seqStopped n = false → s.laneOn n = true → Completes (.imemWrite m n w v) s fun t
      => s.Answered m (if m.code = 1 then 1 else 2) t ∧ t.mem = s.mem ∧ s.Only [] t) ∧
  (∀ (m : Master) (t' : Fin 4) (off : Fin 32768) (z : Size) (v : Word) (s : State), m.code = 1 → (z = .word → off.val % 4 = 0) ∧ (z = .half → off.val % 2 = 0) → off.val
      < 0x6000 → (∀ n ∈ lanesOfType t', s.laneOn n = true → s.seqStopped n = true → s.memGate (0x03000000 + n * 0x8000 + off) = none ∧ s.Sound (0x03000000 + n * 0x8000 +
      off)) → Completes (.broadcastWrite m t' off z v) s fun t => s.Answered m 0 t ∧ (∀ n ∈ lanesOfType t', s.laneOn n = true → s.seqStopped n = true → t.bytesAt
      (0x03000000 + n * 0x8000 + off) (match z with | .byte => 1 | .half => 2 | .word => 4) = leBytes (match z with | .byte => 1 | .half => 2 | .word => 4) v.toNat ∧ t.is
      (F.LRX_SEQ_STAT_LOADED n) = false ∧ t.is (F.LRX_SEQ_STAT_IMEM_DIRTY n) = true) ∧ (∀ n ∈ lanesOfType t', s.laneOn n = false ∨ s.seqStopped n = false → t.rd
      (R.LRX_SEQ_STAT n) = s.rd (R.LRX_SEQ_STAT n) ∧ t.bytesAt (0x03000000 + n * 0x8000 + off) 4 = s.bytesAt (0x03000000 + n * 0x8000 + off) 4) ∧ s.Only ((lanesOfType
      t').map R.LRX_SEQ_STAT) t) ∧
  (∀ (m : Master) (t' : Fin 4) (off : Fin 32768) (z : Size) (v : Word) (s : State), m.code ≠ 1 ∨ 0x6000 ≤ off.val → Completes (.broadcastWrite m t' off z v) s fun t =>
      s.Answered m (if m.code = 1 then 1 else 2) t ∧ t.mem = s.mem ∧ s.Only [] t) ∧
  (∀ (m : Master) (n : Fin 48) (w : Fin 4096) (v : Word) (s : State), s.laneOn n = false → Completes (.imemWrite m n w v) s fun t => s.Answered m 6 t ∧ t.mem = s.mem ∧
      s.Only [] t)

/-- A sender's write of CH_HI posts the staged pointer with the notice's high word, or is refused on a full channel and counted; one from another master is logged and refused, and
reserved channels ignore it. A reset declared by a party marks the notices pending to it and withdraws those it sent; one declared for another party is refused. A due MSI-X
vector is issued once, or held pending in the PBA where it is masked (R269), told to the head by a device on a ring that is not its head (R297), and then in service until
HOST_EOI; while the gate of the PCIe controller is off one that is to be issued stays due (log entry 112). SOFT_SET and SOFT_CLR set and clear soft bits. Who may write
RESET_DECL, HOST_EOI and the SOFT bits, and what is refused, is read as in log entry 48; writes of bits with no effect are answered as in log entry 11. (Rests on
10_lane_programs_supervisor.md, 11_management_ports.md, 12_clocks_power_time.md.) -/
def Obligations.MailboxPostsResetsAndInterrupts : Prop :=
  (∀ (m : Master) (c : Fin 104) (v : Word) (s : State), s.Reached m (R.MBOX_CH_HI c) → c.val ≠ 6 ∧ c.val ≠ 7 → mayPost m c = true → (s.chan c).q.length < 4 → Completes
      (.mailboxPost m c v) s fun t => s.Answered m 0 t ∧ (t.chan c).q = (s.chan c).q ++ [((s.chan c).staged, (v &&& 0x3FFFFFFF#32) ||| 0x40000000#32)] ∧ t.fld
      (F.MBOX_CH_STAT_POSTED c) = (s.fld (F.MBOX_CH_STAT_POSTED c) + 1) % 256 ∧ (c.val < 56 → bitAt (t.rd (R.MBOX_ARRIVE (c / 32))).toNat (c % 32) = true) ∧ (56 ≤ c.val →
      s.laneOn (c - 56) = true → bitAt (t.fld (F.LRX_SEQ_EVT_LINES (c - 56))) 16 = true)) ∧
  (∀ (m : Master) (c : Fin 104) (v : Word) (s : State), s.Reached m (R.MBOX_CH_HI c) → c.val ≠ 6 ∧ c.val ≠ 7 → mayPost m c = true → 4 ≤ (s.chan c).q.length → Completes
      (.mailboxPost m c v) s fun t => s.Answered m 1 t ∧ t.chans = s.chans ∧ t.fld (F.MBOX_CH_STAT_REFUSED c) = (s.fld (F.MBOX_CH_STAT_REFUSED c) + 1) % 256 ∧ s.Only
      [R.MBOX_CH_STAT c] t) ∧
  (∀ (m : Master) (c : Fin 104) (v : Word) (s : State), s.Reached m (R.MBOX_CH_HI c) → c.val ≠ 6 ∧ c.val ≠ 7 → mayPost m c = false → Completes (.mailboxPost m c v) s
      fun t => s.Answered m 2 t ∧ t.chans = s.chans ∧ t.fld F.MBOX_ACC_LOG_COUNT = min (s.fld F.MBOX_ACC_LOG_COUNT + 1) 65535 ∧ t.fld F.MBOX_ACC_LOG_INDEX = c.val ∧ t.is
      F.MBOX_ACC_LOG_KIND = false ∧ t.fld F.MBOX_ACC_LOG_MASTER = m.holder ∧ s.Only [R.MBOX_ACC_LOG] t) ∧
  (∀ (m : Master) (c : Fin 104) (v : Word) (s : State), s.Reached m (R.MBOX_CH_HI c) → c.val = 6 ∨ c.val = 7 → Completes (.mailboxPost m c v) s fun t => s.Answered m 0
      t ∧ t.chans = s.chans ∧ s.Only [] t) ∧
  (∀ (m : Master) (v : Word) (k : Nat) (s : State), s.Reached m R.MBOX_RESET_DECL → m.code = 3 ∧ k = 0 ∨ m.code = 4 ∧ k = 1 ∨ m.code = 5 ∧ k = 2 → bitAt v.toNat k =
      true → Completes (.resetDecl m v) s fun t => s.Answered m (if v.toNat % 8 = 2 ^ k then 0 else 2) t ∧ (t.chan (2 * k)).q = [] ∧ (t.chan (2 * k + 1)).q = (s.chan (2 *
      k + 1)).q.map (fun x => (x.1, x.2 ||| 0x80000000#32)) ∧ t.fld (F.MBOX_CH_STAT_WITHDRAWN (2 * k)) = (s.fld (F.MBOX_CH_STAT_WITHDRAWN (2 * k)) + (s.chan (2 *
      k)).q.length) % 256 ∧ bitAt (t.rd (R.MBOX_SRESET 0)).toNat (2 * k) = true ∧ (∀ c : Fin 104, c.val ≠ 2 * k → c.val ≠ 2 * k + 1 → t.chan c = s.chan c) ∧ s.Only
      [R.MBOX_CH_STAT (2 * k), R.MBOX_SRESET 0] t) ∧
  (∀ (m : Master) (v : Word) (s : State), s.Reached m R.MBOX_RESET_DECL → (bitAt v.toNat 0 = true → m.code ≠ 3) → (bitAt v.toNat 1 = true → m.code ≠ 4) → (bitAt v.toNat
      2 = true → m.code ≠ 5) → Completes (.resetDecl m v) s fun t => s.Answered m (if v.toNat % 8 = 0 then 0 else 2) t ∧ t.chans = s.chans ∧ s.Only [] t) ∧
  (∀ (m : Master) (v : Fin 64) (s : State), s.Reached m R.IRQ_HOST_EOI → Completes (.hostEoi m v) s fun t => s.Answered m 0 t ∧ BitVec.ofNat 64 (t.pair
      R.IRQ_HOST_INSERV_LO) = BitVec.ofNat 64 (s.pair R.IRQ_HOST_INSERV_LO) &&& ~~~(BitVec.ofNat 64 (2 ^ v.val)) ∧ s.Only [R.IRQ_HOST_INSERV_LO, R.IRQ_HOST_INSERV_HI] t) ∧
  (∀ (v : Fin 64) (s : State), s.msixDue.getLsbD v = true → s.domOn 1 = true → s.isMember = false → s.msixMasked v = false → s.is (F.CLK_GATE_RUN 7) = true → Completes
      (.msixIssue v) s fun t => t.out = .msix v :: s.out ∧ bitAt (t.pair R.IRQ_HOST_INSERV_LO) v = true ∧ t.msixDue.getLsbD v = false ∧ t.is (F.CLK_GATE_OPEN 7) = true ∧
      s.Only [R.IRQ_HOST_INSERV_LO, R.IRQ_HOST_INSERV_HI, R.CLK_GATE 7] t) ∧
  (∀ (v : Fin 64) (s : State), s.msixDue.getLsbD v = true → s.domOn 1 = true → s.isMember = false → s.msixMasked v = true → Completes (.msixIssue v) s fun t => t.out =
      s.out ∧ t.pcie.pba.getLsbD v = true ∧ bitAt (t.pair R.IRQ_HOST_INSERV_LO) v = true ∧ t.msixDue.getLsbD v = false ∧ s.Only [R.IRQ_HOST_INSERV_LO,
      R.IRQ_HOST_INSERV_HI] t) ∧
  (∀ (v : Fin 64) (s : State), s.msixDue.getLsbD v = false ∨ s.domOn 1 = false ∨ s.isMember = false ∧ s.msixMasked v = false ∧ s.is (F.CLK_GATE_RUN 7) = false →
      s.IrqRemembered → Completes (.msixIssue v) s fun t => t = s) ∧
  (∀ (v : Fin 64) (k : TowPkt) (s : State), s.msixDue.getLsbD v = true → s.domOn 1 = true → s.isMember = true → s.carries 1 = true → s.is (F.TOW_PORT_STAT_TX_SLEEP 1) =
      false → k = plainPkt 6 0 (s.fld F.TOW_ID_ID) 1 v.val → Completes (.msixIssue v) s fun t => t.out = s.packetOut 1 k ++ s.out ∧ bitAt (t.pair R.IRQ_HOST_INSERV_LO) v =
      true ∧ t.msixDue.getLsbD v = false ∧ t.pcie = s.pcie ∧ s.Only [R.IRQ_HOST_INSERV_LO, R.IRQ_HOST_INSERV_HI] t) ∧
  (∀ (m : Master) (v : Word) (s : State), s.Reached m R.IRQ_SOFT_SET → Completes (.softSet m v) s fun t => s.Answered m 0 t ∧ t.rd R.IRQ_SOFT_SET = s.rd R.IRQ_SOFT_SET
      ||| v ∧ s.Only [R.IRQ_SOFT_SET] t) ∧
  (∀ (m : Master) (v : Word) (s : State), s.Reached m R.IRQ_SOFT_CLR → Completes (.softClr m v) s fun t => s.Answered m 0 t ∧ t.rd R.IRQ_SOFT_SET = s.rd R.IRQ_SOFT_SET
      &&& ~~~v ∧ s.Only [R.IRQ_SOFT_SET] t)

/-- While the endpoint is powered, awake and switched on: a BAR0 read or write of shared SRAM returns or stores its bytes with the world's master; BAR2 pages alias the MBOX
registers and HOST_EOI; BAR4 shows the MSI-X table, which a write changes, and the pending bits, which it does not. An access beyond a BAR's contents (cause 3), of a register
without a whole aligned word (4), over a boundary (5), of a page or function that is switched off (2, 1) or of a memory that answers with an error is completed with CA or
dropped, recorded and reported through AER. In D3hot a read is answered UR (7, the model's code) and a write dropped. A TLP returns the link to L0; a link or power state
change stands in PCIE.STAT with its event. With PD_PCIE off nothing happens. The order of the BAR checks is log entry 49, cause 1 of a gate (R315 of chapter 12) log entry 50,
the answer 7 and the link's state log entries 9 and 102; the user page of the counters is of chapter 15. (Rests on 11_management_ports.md, 12_clocks_power_time.md,
15_counters.md.) -/
def Obligations.PcieReachesTheLocalMap : Prop :=
  (∀ (off : BitVec 32) (s : State), s.domOn 14 = true → s.is F.PCIE_STAT_D3HOT = false → s.is (F.CLK_GATE_RUN 7) = true → 0x02000000 ≤ off.toNat → off.toNat <
      0x02400000 → off.toNat % 4 = 0 → s.Sound off.toNat → Completes (.pcieRead 0 off 4) s fun t => t.out = .data s.barMaster 0 (s.bytesAt off.toNat 4) :: s.out ∧ t.mem =
      s.mem ∧ t.fld F.PCIE_STAT_ASPM = 0 ∧ s.Only [R.CLK_GATE 7, R.PCIE_STAT] t) ∧
  (∀ (off : BitVec 32) (n : Nat) (s : State), s.domOn 14 = true → s.is F.PCIE_STAT_D3HOT = false → s.is (F.CLK_GATE_RUN 7) = true → 0x02000000 ≤ off.toNat → 0 < n →
      off.toNat + n ≤ 0x02400000 → (s.memRead (busReader s.barMaster) off.toNat n).2.1 = .done → Completes (.pcieRead 0 off n) s fun t => t.out.head? = some (.data
      s.barMaster 0 (s.memRead (busReader s.barMaster) off.toNat n).2.2) ∧ t.fld F.PCIE_STAT_ASPM = 0) ∧
  (∀ (off : BitVec 32) (v : Word) (s : State), s.domOn 14 = true → s.is F.PCIE_STAT_D3HOT = false → s.is (F.CLK_GATE_RUN 7) = true → 0x02000000 ≤ off.toNat → off.toNat
      < 0x02400000 → off.toNat % 4 = 0 → s.Sound off.toNat → Completes (.pcieWrite 0 off (leBytes 4 v.toNat) [true, true, true, true]) s fun t => s.Stored off.toNat 4 v t
      ∧ t.out = s.out ∧ s.Only [R.CLK_GATE 7, R.PCIE_STAT] t) ∧
  (∀ (off : BitVec 32) (v : Word) (s : State), s.domOn 14 = true → s.is F.PCIE_STAT_D3HOT = false → s.is (F.CLK_GATE_RUN 7) = true → 0x02000000 ≤ off.toNat → off.toNat
      < 0x02400000 → off.toNat % 4 = 0 → s.Sound off.toNat → Completes (.pcieWrite 0 off (leBytes 4 v.toNat) [false, true, false, false]) s fun t => s.Stored (off.toNat +
      1) 1 (v >>> 8) t ∧ t.out = s.out ∧ s.Only [R.CLK_GATE 7, R.PCIE_STAT] t) ∧
  (∀ (off : BitVec 32) (s : State), s.domOn 14 = true → s.is F.PCIE_STAT_D3HOT = false → s.is (F.CLK_GATE_RUN 7) = true → off.toNat = 0x04000000 → seesBlock s.barMaster
      0x04000000 = true → Completes (.pcieRead 0 off 4) s fun t => t.out = .data s.barMaster 0 (leBytes 4 (s.rd 0x04000000).toNat) :: s.out ∧ s.Only [R.CLK_GATE 7,
      R.PCIE_STAT] t) ∧
  (∀ (page : Bool) (s : State), s.domOn 14 = true → s.is F.PCIE_STAT_D3HOT = false → s.is (F.CLK_GATE_RUN 7) = true → page = true ∨ s.is F.PCIE_WORLD_BAR2S_EN = true →
      Completes (.pcieRead 1 (BitVec.ofNat 32 ((if page then 0x2000 else 0) + 0x980)) 4) s fun t => t.out = .data (if page then .hostNS else .hostS) 0 (leBytes 4
      s.semView.toNat) :: s.out ∧ s.Only [R.CLK_GATE 7, R.PCIE_STAT] t) ∧
  (∀ (page : Bool) (v : Fin 64) (s : State), s.domOn 14 = true → s.is F.PCIE_STAT_D3HOT = false → s.is (F.CLK_GATE_RUN 7) = true → page = true ∨ s.is
      F.PCIE_WORLD_BAR2S_EN = true → Completes (.pcieWrite 1 (BitVec.ofNat 32 ((if page then 0x2000 else 0) + 0xA00)) (leBytes 4 v.val) [true, true, true, true]) s fun t
      => BitVec.ofNat 64 (t.pair R.IRQ_HOST_INSERV_LO) = BitVec.ofNat 64 (s.pair R.IRQ_HOST_INSERV_LO) &&& ~~~(BitVec.ofNat 64 (2 ^ v.val)) ∧ t.out = s.out ∧ s.Only
      [R.CLK_GATE 7, R.PCIE_STAT, R.IRQ_HOST_INSERV_LO, R.IRQ_HOST_INSERV_HI] t) ∧
  (∀ (i : Fin 256) (s : State), s.domOn 14 = true → s.is F.PCIE_STAT_D3HOT = false → s.is (F.CLK_GATE_RUN 7) = true → Completes (.pcieRead 2 (BitVec.ofNat 32 (4 *
      i.val)) 4) s fun t => t.out = .data .hostS 0 (leBytes 4 (s.msixWord i).toNat) :: s.out ∧ s.Only [R.CLK_GATE 7, R.PCIE_STAT] t) ∧
  (∀ (s : State), s.domOn 14 = true → s.is F.PCIE_STAT_D3HOT = false → s.is (F.CLK_GATE_RUN 7) = true → Completes (.pcieRead 2 0x1000#32 8) s fun t => t.out = .data
      .hostS 0 (leBytes 8 s.pcie.pba.toNat) :: s.out ∧ s.Only [R.CLK_GATE 7, R.PCIE_STAT] t) ∧
  (∀ (i : Fin 256) (v : Word) (s : State), s.domOn 14 = true → s.is F.PCIE_STAT_D3HOT = false → s.is (F.CLK_GATE_RUN 7) = true → i.val % 4 ≠ 3 ∨ bitAt v.toNat 0 = true
      ∨ s.pcie.pba.getLsbD (i.val / 4) = false → (∀ w : Fin 64, s.msixMasked w = true ∨ s.pcie.pba.getLsbD w = false) → Completes (.pcieWrite 2 (BitVec.ofNat 32 (4 *
      i.val)) (leBytes 4 v.toNat) [true, true, true, true]) s fun t => t.msixWord i = v ∧ (∀ j : Fin 256, j ≠ i → t.msixWord j = s.msixWord j) ∧ t.pcie.pba = s.pcie.pba ∧
      t.out = s.out ∧ s.Only [R.CLK_GATE 7, R.PCIE_STAT] t) ∧
  (∀ (v : Fin 64) (s : State), s.domOn 14 = true → s.is F.PCIE_STAT_D3HOT = false → s.is (F.CLK_GATE_RUN 7) = true → s.pcie.pba.getLsbD v = true → (∀ w : Fin 64, w ≠ v
      → s.msixMasked w = true ∨ s.pcie.pba.getLsbD w = false) → Completes (.pcieWrite 2 (BitVec.ofNat 32 (16 * v.val + 12)) (leBytes 4 0) [true, true, true, true]) s fun t
      => t.out = .msix v :: s.out ∧ t.pcie.pba = s.pcie.pba &&& ~~~(BitVec.ofNat 64 (2 ^ v.val)) ∧ t.msixMasked v = false ∧ s.Only [R.CLK_GATE 7, R.PCIE_STAT] t) ∧
  (∀ (bytes : List (BitVec 8)) (be : List Bool) (s : State), s.domOn 14 = true → s.is F.PCIE_STAT_D3HOT = false → s.is (F.CLK_GATE_RUN 7) = true → bytes.length =
      be.length → bytes.length ≤ 8 → Completes (.pcieWrite 2 0x1000#32 bytes be) s fun t => t.pcie = s.pcie ∧ t.out = s.out ∧ s.Only [R.CLK_GATE 7, R.PCIE_STAT] t) ∧
  (∀ (off : BitVec 32) (n : Nat) (s : State), s.domOn 14 = true → s.is F.PCIE_STAT_D3HOT = false → s.is (F.CLK_GATE_RUN 7) = true → 0x08000000 ≤ off.toNat → Completes
      (.pcieRead 0 off n) s fun t => t.out = .data s.barMaster 3 [] :: .aer false 0 off.toNat :: s.out ∧ t.rd R.PCIE_ERR_ADDR = off ∧ t.fld F.PCIE_ERR_INFO_CAUSE = 3 ∧
      t.fld F.PCIE_ERR_INFO_BAR = 0 ∧ t.is F.PCIE_ERR_INFO_WRITE = false ∧ t.fld F.PCIE_ERR_INFO_COUNT = min (s.fld F.PCIE_ERR_INFO_COUNT + 1) 65535 ∧ t.is
      F.PCIE_EVENT_REFUSED = true ∧ t.pcie.aer = some ⟨false, 0, off.toNat⟩ ∧ t.mem = s.mem ∧ s.Only [R.CLK_GATE 7, R.PCIE_STAT, R.PCIE_ERR_ADDR, R.PCIE_ERR_INFO,
      R.PCIE_EVENT] t) ∧
  (∀ (off : BitVec 32) (bytes : List (BitVec 8)) (be : List Bool) (s : State), s.domOn 14 = true → s.is F.PCIE_STAT_D3HOT = false → s.is (F.CLK_GATE_RUN 7) = true →
      bytes.length = be.length → 0x08000000 ≤ off.toNat → Completes (.pcieWrite 0 off bytes be) s fun t => t.out = .aer true 0 off.toNat :: s.out ∧ t.rd R.PCIE_ERR_ADDR =
      off ∧ t.fld F.PCIE_ERR_INFO_CAUSE = 3 ∧ t.fld F.PCIE_ERR_INFO_BAR = 0 ∧ t.is F.PCIE_ERR_INFO_WRITE = true ∧ t.fld F.PCIE_ERR_INFO_COUNT = min (s.fld
      F.PCIE_ERR_INFO_COUNT + 1) 65535 ∧ t.is F.PCIE_EVENT_REFUSED = true ∧ t.pcie.aer = some ⟨true, 0, off.toNat⟩ ∧ t.mem = s.mem ∧ s.Only [R.CLK_GATE 7, R.PCIE_STAT,
      R.PCIE_ERR_ADDR, R.PCIE_ERR_INFO, R.PCIE_EVENT] t) ∧
  (∀ (off : BitVec 32) (n : Nat) (s : State), s.domOn 14 = true → s.is F.PCIE_STAT_D3HOT = false → s.is (F.CLK_GATE_RUN 7) = true → off.toNat < 0x02400000 → 0x02400000
      < off.toNat + n → 0x02000000 ≤ off.toNat → Completes (.pcieRead 0 off n) s fun t => t.out = .data s.barMaster 5 [] :: .aer false 0 off.toNat :: s.out ∧ t.rd
      R.PCIE_ERR_ADDR = off ∧ t.fld F.PCIE_ERR_INFO_CAUSE = 5 ∧ t.fld F.PCIE_ERR_INFO_BAR = 0 ∧ t.is F.PCIE_ERR_INFO_WRITE = false ∧ t.fld F.PCIE_ERR_INFO_COUNT = min
      (s.fld F.PCIE_ERR_INFO_COUNT + 1) 65535 ∧ t.is F.PCIE_EVENT_REFUSED = true ∧ t.pcie.aer = some ⟨false, 0, off.toNat⟩ ∧ t.mem = s.mem ∧ s.Only [R.CLK_GATE 7,
      R.PCIE_STAT, R.PCIE_ERR_ADDR, R.PCIE_ERR_INFO, R.PCIE_EVENT] t) ∧
  (∀ (off : BitVec 32) (n : Nat) (s : State), s.domOn 14 = true → s.is F.PCIE_STAT_D3HOT = false → s.is (F.CLK_GATE_RUN 7) = true → blockOf off.toNat = 0x04000 →
      off.toNat % 4 ≠ 0 ∧ off.toNat % 4096 + n ≤ 4096 ∨ n = 1 ∨ n = 2 → Completes (.pcieRead 0 off n) s fun t => t.out = .data s.barMaster 4 [] :: .aer false 0 off.toNat
      :: s.out ∧ t.rd R.PCIE_ERR_ADDR = off ∧ t.fld F.PCIE_ERR_INFO_CAUSE = 4 ∧ t.fld F.PCIE_ERR_INFO_BAR = 0 ∧ t.is F.PCIE_ERR_INFO_WRITE = false ∧ t.fld
      F.PCIE_ERR_INFO_COUNT = min (s.fld F.PCIE_ERR_INFO_COUNT + 1) 65535 ∧ t.is F.PCIE_EVENT_REFUSED = true ∧ t.pcie.aer = some ⟨false, 0, off.toNat⟩ ∧ t.mem = s.mem ∧
      s.Only [R.CLK_GATE 7, R.PCIE_STAT, R.PCIE_ERR_ADDR, R.PCIE_ERR_INFO, R.PCIE_EVENT] t) ∧
  (∀ (off : BitVec 32) (n : Nat) (s : State), s.domOn 14 = true → s.is F.PCIE_STAT_D3HOT = false → s.is (F.CLK_GATE_RUN 7) = true → 0x4000 ≤ off.toNat ∨ 0x2A04 ≤
      off.toNat ∨ off.toNat < 0x2000 ∧ 0xA04 ≤ off.toNat ∧ s.is F.PCIE_WORLD_BAR2S_EN = true → Completes (.pcieRead 1 off n) s fun t => t.out = .data .hostS 3 [] :: .aer
      false 1 off.toNat :: s.out ∧ t.rd R.PCIE_ERR_ADDR = off ∧ t.fld F.PCIE_ERR_INFO_CAUSE = 3 ∧ t.fld F.PCIE_ERR_INFO_BAR = 1 ∧ t.is F.PCIE_ERR_INFO_WRITE = false ∧
      t.fld F.PCIE_ERR_INFO_COUNT = min (s.fld F.PCIE_ERR_INFO_COUNT + 1) 65535 ∧ t.is F.PCIE_EVENT_REFUSED = true ∧ t.pcie.aer = some ⟨false, 1, off.toNat⟩ ∧ t.mem =
      s.mem ∧ s.Only [R.CLK_GATE 7, R.PCIE_STAT, R.PCIE_ERR_ADDR, R.PCIE_ERR_INFO, R.PCIE_EVENT] t) ∧
  (∀ (off : BitVec 32) (bytes : List (BitVec 8)) (be : List Bool) (s : State), s.domOn 14 = true → s.is F.PCIE_STAT_D3HOT = false → s.is (F.CLK_GATE_RUN 7) = true →
      bytes.length = be.length → 0x4000 ≤ off.toNat ∨ 0x2A04 ≤ off.toNat ∨ off.toNat < 0x2000 ∧ 0xA04 ≤ off.toNat ∧ s.is F.PCIE_WORLD_BAR2S_EN = true → Completes
      (.pcieWrite 1 off bytes be) s fun t => t.out = .aer true 1 off.toNat :: s.out ∧ t.rd R.PCIE_ERR_ADDR = off ∧ t.fld F.PCIE_ERR_INFO_CAUSE = 3 ∧ t.fld
      F.PCIE_ERR_INFO_BAR = 1 ∧ t.is F.PCIE_ERR_INFO_WRITE = true ∧ t.fld F.PCIE_ERR_INFO_COUNT = min (s.fld F.PCIE_ERR_INFO_COUNT + 1) 65535 ∧ t.is F.PCIE_EVENT_REFUSED =
      true ∧ t.pcie.aer = some ⟨true, 1, off.toNat⟩ ∧ t.mem = s.mem ∧ s.Only [R.CLK_GATE 7, R.PCIE_STAT, R.PCIE_ERR_ADDR, R.PCIE_ERR_INFO, R.PCIE_EVENT] t) ∧
  (∀ (off : BitVec 32) (n : Nat) (s : State), s.domOn 14 = true → s.is F.PCIE_STAT_D3HOT = false → s.is (F.CLK_GATE_RUN 7) = true → off.toNat < 0x2000 → s.is
      F.PCIE_WORLD_BAR2S_EN = false → Completes (.pcieRead 1 off n) s fun t => t.out = .data .hostS 2 [] :: .aer false 1 off.toNat :: s.out ∧ t.rd R.PCIE_ERR_ADDR = off ∧
      t.fld F.PCIE_ERR_INFO_CAUSE = 2 ∧ t.fld F.PCIE_ERR_INFO_BAR = 1 ∧ t.is F.PCIE_ERR_INFO_WRITE = false ∧ t.fld F.PCIE_ERR_INFO_COUNT = min (s.fld F.PCIE_ERR_INFO_COUNT
      + 1) 65535 ∧ t.is F.PCIE_EVENT_REFUSED = true ∧ t.pcie.aer = some ⟨false, 1, off.toNat⟩ ∧ t.mem = s.mem ∧ s.Only [R.CLK_GATE 7, R.PCIE_STAT, R.PCIE_ERR_ADDR,
      R.PCIE_ERR_INFO, R.PCIE_EVENT] t) ∧
  (∀ (off : BitVec 32) (bytes : List (BitVec 8)) (be : List Bool) (s : State), s.domOn 14 = true → s.is F.PCIE_STAT_D3HOT = false → s.is (F.CLK_GATE_RUN 7) = true →
      bytes.length = be.length → off.toNat < 0x2000 → s.is F.PCIE_WORLD_BAR2S_EN = false → Completes (.pcieWrite 1 off bytes be) s fun t => t.out = .aer true 1 off.toNat
      :: s.out ∧ t.rd R.PCIE_ERR_ADDR = off ∧ t.fld F.PCIE_ERR_INFO_CAUSE = 2 ∧ t.fld F.PCIE_ERR_INFO_BAR = 1 ∧ t.is F.PCIE_ERR_INFO_WRITE = true ∧ t.fld
      F.PCIE_ERR_INFO_COUNT = min (s.fld F.PCIE_ERR_INFO_COUNT + 1) 65535 ∧ t.is F.PCIE_EVENT_REFUSED = true ∧ t.pcie.aer = some ⟨true, 1, off.toNat⟩ ∧ t.mem = s.mem ∧
      s.Only [R.CLK_GATE 7, R.PCIE_STAT, R.PCIE_ERR_ADDR, R.PCIE_ERR_INFO, R.PCIE_EVENT] t) ∧
  (∀ (off : BitVec 32) (n : Nat) (s : State), s.domOn 14 = true → s.is F.PCIE_STAT_D3HOT = false → s.is (F.CLK_GATE_RUN 7) = true → 0x2000 ≤ off.toNat → off.toNat <
      0x2A04 → off.toNat % 4 ≠ 0 ∨ n ≠ 4 → Completes (.pcieRead 1 off n) s fun t => t.out = .data .hostS 4 [] :: .aer false 1 off.toNat :: s.out ∧ t.rd R.PCIE_ERR_ADDR =
      off ∧ t.fld F.PCIE_ERR_INFO_CAUSE = 4 ∧ t.fld F.PCIE_ERR_INFO_BAR = 1 ∧ t.is F.PCIE_ERR_INFO_WRITE = false ∧ t.fld F.PCIE_ERR_INFO_COUNT = min (s.fld
      F.PCIE_ERR_INFO_COUNT + 1) 65535 ∧ t.is F.PCIE_EVENT_REFUSED = true ∧ t.pcie.aer = some ⟨false, 1, off.toNat⟩ ∧ t.mem = s.mem ∧ s.Only [R.CLK_GATE 7, R.PCIE_STAT,
      R.PCIE_ERR_ADDR, R.PCIE_ERR_INFO, R.PCIE_EVENT] t) ∧
  (∀ (off : BitVec 32) (bytes : List (BitVec 8)) (be : List Bool) (s : State), s.domOn 14 = true → s.is F.PCIE_STAT_D3HOT = false → s.is (F.CLK_GATE_RUN 7) = true →
      bytes.length = be.length → 0x2000 ≤ off.toNat → off.toNat < 0x2A04 → off.toNat % 4 ≠ 0 ∨ be ≠ [true, true, true, true] → Completes (.pcieWrite 1 off bytes be) s fun
      t => t.out = .aer true 1 off.toNat :: s.out ∧ t.rd R.PCIE_ERR_ADDR = off ∧ t.fld F.PCIE_ERR_INFO_CAUSE = 4 ∧ t.fld F.PCIE_ERR_INFO_BAR = 1 ∧ t.is
      F.PCIE_ERR_INFO_WRITE = true ∧ t.fld F.PCIE_ERR_INFO_COUNT = min (s.fld F.PCIE_ERR_INFO_COUNT + 1) 65535 ∧ t.is F.PCIE_EVENT_REFUSED = true ∧ t.pcie.aer = some
      ⟨true, 1, off.toNat⟩ ∧ t.mem = s.mem ∧ s.Only [R.CLK_GATE 7, R.PCIE_STAT, R.PCIE_ERR_ADDR, R.PCIE_ERR_INFO, R.PCIE_EVENT] t) ∧
  (∀ (off : BitVec 32) (n : Nat) (s : State), s.domOn 14 = true → s.is F.PCIE_STAT_D3HOT = false → s.is (F.CLK_GATE_RUN 7) = true → 0x3000 ≤ off.toNat ∨ 0x1008 ≤
      off.toNat ∧ off.toNat < 0x2000 ∨ 0x400 ≤ off.toNat ∧ off.toNat < 0x1000 → Completes (.pcieRead 2 off n) s fun t => t.out = .data .hostS 3 [] :: .aer false 2
      off.toNat :: s.out ∧ t.rd R.PCIE_ERR_ADDR = off ∧ t.fld F.PCIE_ERR_INFO_CAUSE = 3 ∧ t.fld F.PCIE_ERR_INFO_BAR = 2 ∧ t.is F.PCIE_ERR_INFO_WRITE = false ∧ t.fld
      F.PCIE_ERR_INFO_COUNT = min (s.fld F.PCIE_ERR_INFO_COUNT + 1) 65535 ∧ t.is F.PCIE_EVENT_REFUSED = true ∧ t.pcie.aer = some ⟨false, 2, off.toNat⟩ ∧ t.mem = s.mem ∧
      s.Only [R.CLK_GATE 7, R.PCIE_STAT, R.PCIE_ERR_ADDR, R.PCIE_ERR_INFO, R.PCIE_EVENT] t) ∧
  (∀ (off : BitVec 32) (n : Nat) (s : State), s.domOn 14 = true → s.is F.PCIE_STAT_D3HOT = false → s.is (F.CLK_GATE_RUN 7) = true → 0x2000 ≤ off.toNat → off.toNat <
      0x3000 → off.toNat % 4 ≠ 0 ∨ n ≠ 4 → Completes (.pcieRead 2 off n) s fun t => t.out = .data .hostNS 4 [] :: .aer false 2 off.toNat :: s.out ∧ t.rd R.PCIE_ERR_ADDR =
      off ∧ t.fld F.PCIE_ERR_INFO_CAUSE = 4 ∧ t.fld F.PCIE_ERR_INFO_BAR = 2 ∧ t.is F.PCIE_ERR_INFO_WRITE = false ∧ t.fld F.PCIE_ERR_INFO_COUNT = min (s.fld
      F.PCIE_ERR_INFO_COUNT + 1) 65535 ∧ t.is F.PCIE_EVENT_REFUSED = true ∧ t.pcie.aer = some ⟨false, 2, off.toNat⟩ ∧ t.mem = s.mem ∧ s.Only [R.CLK_GATE 7, R.PCIE_STAT,
      R.PCIE_ERR_ADDR, R.PCIE_ERR_INFO, R.PCIE_EVENT] t) ∧
  (∀ (off : BitVec 32) (n : Nat) (s : State), s.domOn 14 = true → s.is F.PCIE_STAT_D3HOT = false → s.is (F.CLK_GATE_RUN 7) = true → off.toNat < 0x400 → 0x400 <
      off.toNat + n → Completes (.pcieRead 2 off n) s fun t => t.out = .data .hostS 5 [] :: .aer false 2 off.toNat :: s.out ∧ t.rd R.PCIE_ERR_ADDR = off ∧ t.fld
      F.PCIE_ERR_INFO_CAUSE = 5 ∧ t.fld F.PCIE_ERR_INFO_BAR = 2 ∧ t.is F.PCIE_ERR_INFO_WRITE = false ∧ t.fld F.PCIE_ERR_INFO_COUNT = min (s.fld F.PCIE_ERR_INFO_COUNT + 1)
      65535 ∧ t.is F.PCIE_EVENT_REFUSED = true ∧ t.pcie.aer = some ⟨false, 2, off.toNat⟩ ∧ t.mem = s.mem ∧ s.Only [R.CLK_GATE 7, R.PCIE_STAT, R.PCIE_ERR_ADDR,
      R.PCIE_ERR_INFO, R.PCIE_EVENT] t) ∧
  (∀ (off : BitVec 32) (bytes : List (BitVec 8)) (be : List Bool) (s : State), s.domOn 14 = true → s.is F.PCIE_STAT_D3HOT = false → s.is (F.CLK_GATE_RUN 7) = true →
      bytes.length = be.length → 0x2000 ≤ off.toNat → off.toNat < 0x3000 → Completes (.pcieWrite 2 off bytes be) s fun t => t.out = .aer true 2 off.toNat :: s.out ∧ t.rd
      R.PCIE_ERR_ADDR = off ∧ t.fld F.PCIE_ERR_INFO_CAUSE = 2 ∧ t.fld F.PCIE_ERR_INFO_BAR = 2 ∧ t.is F.PCIE_ERR_INFO_WRITE = true ∧ t.fld F.PCIE_ERR_INFO_COUNT = min
      (s.fld F.PCIE_ERR_INFO_COUNT + 1) 65535 ∧ t.is F.PCIE_EVENT_REFUSED = true ∧ t.pcie.aer = some ⟨true, 2, off.toNat⟩ ∧ t.mem = s.mem ∧ s.Only [R.CLK_GATE 7,
      R.PCIE_STAT, R.PCIE_ERR_ADDR, R.PCIE_ERR_INFO, R.PCIE_EVENT] t) ∧
  (∀ (off : BitVec 32) (bytes : List (BitVec 8)) (be : List Bool) (s : State), s.domOn 14 = true → s.is F.PCIE_STAT_D3HOT = false → s.is (F.CLK_GATE_RUN 7) = true →
      bytes.length = be.length → 0x3000 ≤ off.toNat ∨ 0x1008 ≤ off.toNat ∧ off.toNat < 0x2000 ∨ 0x400 ≤ off.toNat ∧ off.toNat < 0x1000 → Completes (.pcieWrite 2 off bytes
      be) s fun t => t.out = .aer true 2 off.toNat :: s.out ∧ t.rd R.PCIE_ERR_ADDR = off ∧ t.fld F.PCIE_ERR_INFO_CAUSE = 3 ∧ t.fld F.PCIE_ERR_INFO_BAR = 2 ∧ t.is
      F.PCIE_ERR_INFO_WRITE = true ∧ t.fld F.PCIE_ERR_INFO_COUNT = min (s.fld F.PCIE_ERR_INFO_COUNT + 1) 65535 ∧ t.is F.PCIE_EVENT_REFUSED = true ∧ t.pcie.aer = some
      ⟨true, 2, off.toNat⟩ ∧ t.mem = s.mem ∧ s.Only [R.CLK_GATE 7, R.PCIE_STAT, R.PCIE_ERR_ADDR, R.PCIE_ERR_INFO, R.PCIE_EVENT] t) ∧
  (∀ (bar : Fin 3) (off : BitVec 32) (n : Nat) (s : State), s.domOn 14 = true → s.is F.PCIE_STAT_D3HOT = false → s.is (F.CLK_GATE_RUN 7) = false → Completes (.pcieRead
      bar off n) s fun t => t.out = .data s.barMaster 1 [] :: .aer false bar off.toNat :: s.out ∧ t.rd R.PCIE_ERR_ADDR = off ∧ t.fld F.PCIE_ERR_INFO_CAUSE = 1 ∧ t.fld
      F.PCIE_ERR_INFO_BAR = bar ∧ t.is F.PCIE_ERR_INFO_WRITE = false ∧ t.fld F.PCIE_ERR_INFO_COUNT = min (s.fld F.PCIE_ERR_INFO_COUNT + 1) 65535 ∧ t.is
      F.PCIE_EVENT_REFUSED = true ∧ t.pcie.aer = some ⟨false, bar, off.toNat⟩ ∧ t.mem = s.mem ∧ s.Only [R.PCIE_STAT, R.PCIE_ERR_ADDR, R.PCIE_ERR_INFO, R.PCIE_EVENT] t) ∧
  (∀ (bar : Fin 3) (off : BitVec 32) (bytes : List (BitVec 8)) (be : List Bool) (s : State), s.domOn 14 = true → s.is F.PCIE_STAT_D3HOT = false → s.is (F.CLK_GATE_RUN
      7) = false → bytes.length = be.length → Completes (.pcieWrite bar off bytes be) s fun t => t.out = .aer true bar off.toNat :: s.out ∧ t.rd R.PCIE_ERR_ADDR = off ∧
      t.fld F.PCIE_ERR_INFO_CAUSE = 1 ∧ t.fld F.PCIE_ERR_INFO_BAR = bar ∧ t.is F.PCIE_ERR_INFO_WRITE = true ∧ t.fld F.PCIE_ERR_INFO_COUNT = min (s.fld
      F.PCIE_ERR_INFO_COUNT + 1) 65535 ∧ t.is F.PCIE_EVENT_REFUSED = true ∧ t.pcie.aer = some ⟨true, bar, off.toNat⟩ ∧ t.mem = s.mem ∧ s.Only [R.PCIE_STAT,
      R.PCIE_ERR_ADDR, R.PCIE_ERR_INFO, R.PCIE_EVENT] t) ∧
  (∀ (bar : Fin 3) (off : BitVec 32) (n : Nat) (s : State), s.domOn 14 = true → s.is F.PCIE_STAT_D3HOT = true → Completes (.pcieRead bar off n) s fun t => t.out = .data
      s.barMaster 7 [] :: s.out ∧ t.mem = s.mem ∧ t.pcie = s.pcie ∧ t.fld F.PCIE_STAT_ASPM = 0 ∧ s.Only [R.PCIE_STAT] t) ∧
  (∀ (bar : Fin 3) (off : BitVec 32) (bytes : List (BitVec 8)) (be : List Bool) (s : State), s.domOn 14 = true → s.is F.PCIE_STAT_D3HOT = true → bytes.length =
      be.length → Completes (.pcieWrite bar off bytes be) s fun t => t.out = s.out ∧ t.mem = s.mem ∧ t.pcie = s.pcie ∧ s.Only [R.PCIE_STAT] t) ∧
  (∀ (bar : Fin 3) (off : BitVec 32) (n : Nat) (s : State), s.domOn 14 = false → s.IrqRemembered → Completes (.pcieRead bar off n) s fun t => t = s) ∧
  (∀ (bar : Fin 3) (off : BitVec 32) (bytes : List (BitVec 8)) (be : List Bool) (s : State), s.domOn 14 = false → bytes.length = be.length → s.IrqRemembered → Completes
      (.pcieWrite bar off bytes be) s fun t => t = s) ∧
  (∀ (link : Option (Fin 4 × PcieSet)) (speed width : Fin 8) (s : State), s.domOn 14 = true → (link.isSome = true → 1 ≤ speed.val ∧ speed.val ≤ 5 ∧ (width.val = 1 ∨
      width.val = 2 ∨ width.val = 4)) → Completes (.pcieLinkChange link speed width) s fun t => t.is F.PCIE_STAT_LINK_UP = link.isSome ∧ t.fld F.PCIE_STAT_SPEED = (if
      link.isSome then speed.val else 0) ∧ t.fld F.PCIE_STAT_WIDTH = (if link.isSome then width.val else 0) ∧ t.fld F.PCIE_STAT_ASPM = (link.map (·.1.val)).getD 0 ∧ t.pcie
      = { s.pcie with set := t.pcie.set } ∧ (link = none → t.pcie.set = s.pcie.set) ∧ (∀ l ∈ link, t.pcie.set.payload = (if l.2.payload.val ≤ 2 then l.2.payload else
      s.pcie.set.payload) ∧ t.pcie.set.timeout = (if l.2.timeout.val ∈ [0, 1, 2, 5, 6] then l.2.timeout else s.pcie.set.timeout)) ∧ (∀ l ∈ link, t.pcie.set.readReq =
      l.2.readReq ∧ t.pcie.set.timeoutOff = l.2.timeoutOff ∧ t.pcie.set.ltr = l.2.ltr ∧ t.pcie.set.ecrcGen = l.2.ecrcGen ∧ t.pcie.set.ecrcCheck = l.2.ecrcCheck) ∧ t.is
      F.PCIE_STAT_D3HOT = s.is F.PCIE_STAT_D3HOT ∧ t.is F.PCIE_EVENT_LINK_UP = (s.is F.PCIE_EVENT_LINK_UP || link.isSome && !s.is F.PCIE_STAT_LINK_UP) ∧ t.is
      F.PCIE_EVENT_LINK_DOWN = (s.is F.PCIE_EVENT_LINK_DOWN || link.isNone && s.is F.PCIE_STAT_LINK_UP) ∧ t.out = s.out ∧ s.Only [R.PCIE_STAT, R.PCIE_EVENT] t) ∧
  (∀ (link : Option (Fin 4 × PcieSet)) (speed width : Fin 8) (s : State), s.domOn 14 = false ∨ link.isSome = true ∧ (speed.val < 1 ∨ 5 < speed.val ∨ width.val ≠ 1 ∧
      width.val ≠ 2 ∧ width.val ≠ 4) → s.IrqRemembered → Completes (.pcieLinkChange link speed width) s fun t => t = s) ∧
  (∀ (d3 : Bool) (s : State), s.domOn 14 = true → Completes (.pciePowerStateChange d3) s fun t => t.is F.PCIE_STAT_D3HOT = d3 ∧ t.is F.PCIE_STAT_LINK_UP = s.is
      F.PCIE_STAT_LINK_UP ∧ t.fld F.PCIE_STAT_ASPM = s.fld F.PCIE_STAT_ASPM ∧ t.out = s.out ∧ s.Only [R.PCIE_STAT] t) ∧
  (∀ (d3 : Bool) (s : State), s.domOn 14 = false → s.IrqRemembered → Completes (.pciePowerStateChange d3) s fun t => t = s)

/-- START on an idle channel fetches its descriptor and, from the host, asks for its data; one on a running channel, from another master or behind a gate that is switched off is
refused; a descriptor or buffer outside capture and shared SRAM halts with code 4, a bad descriptor with 5. STOP halts with 6, a failed or missing completion with 2 or 3, a
bad local word with 1; each halt writes CODE, FAIL, the event and the descriptor's STATUS. Data of the oldest request lands at the descriptor's place, that of a halted channel
is discarded. A finished descriptor writes its STATUS and count and goes on to NEXT, or idle at the last one; one to the host is sent first. The order of the checks and the
sizes of requests are log entry 51, the gate (R315 of chapter 12) log entry 50. (Rests on 11_management_ports.md, 13_memory_integrity_selftest.md, 12_clocks_power_time.md.) -/
def Obligations.DmaChannelsRunTheirDescriptors : Prop :=
  (∀ (m : Master) (ch : Fin 8) (b : List (BitVec 8)) (s : State), s.Reached m (R.DMA_CH_CTL ch) → m.code ∈ dmaMasters ch → s.fld (F.DMA_CH_STAT_STATE ch) ≠ 1 → s.is
      (F.CLK_GATE_RUN 8) = true → dmaLocal (s.fld (F.DMA_CH_DESC_ADDR ch) * 32) 32 = true → s.memRead dmaReader (s.fld (F.DMA_CH_DESC_ADDR ch) * 32) 32 = (s, .done, b) →
      dmaLocal (descOf 0 b).local_ (descOf 0 b).len = true → Completes (.dmaStart m ch) s fun t => t.fld (F.DMA_CH_STAT_STATE ch) = 1 ∧
      { t.dmaChan ch with asked := 0, reqs := [] } = descOf (s.fld (F.DMA_CH_DESC_ADDR ch) * 32) b ∧ t.mem = s.mem ∧ s.Only [R.DMA_CH_STAT ch, R.CLK_GATE 8] t) ∧
  (∀ (m : Master) (ch : Fin 8) (b : List (BitVec 8)) (s : State), s.Reached m (R.DMA_CH_CTL ch) → m.code ∈ dmaMasters ch → s.fld (F.DMA_CH_STAT_STATE ch) ≠ 1 → s.is
      (F.CLK_GATE_RUN 8) = true → dmaLocal (s.fld (F.DMA_CH_DESC_ADDR ch) * 32) 32 = true → s.memRead dmaReader (s.fld (F.DMA_CH_DESC_ADDR ch) * 32) 32 = (s, .done, b) →
      dmaLocal (descOf 0 b).local_ (descOf 0 b).len = true → (descOf 0 b).dir = true → Completes (.dmaStart m ch) s fun t => s.Answered m 0 t ∧ (t.dmaChan ch).asked = 0 ∧
      (t.dmaChan ch).reqs = (s.dmaChan ch).reqs) ∧
  (∀ (m : Master) (ch : Fin 8) (b : List (BitVec 8)) (s : State), s.Reached m (R.DMA_CH_CTL ch) → m.code ∈ dmaMasters ch → s.fld (F.DMA_CH_STAT_STATE ch) ≠ 1 → s.is
      (F.CLK_GATE_RUN 8) = true → dmaLocal (s.fld (F.DMA_CH_DESC_ADDR ch) * 32) 32 = true → s.memRead dmaReader (s.fld (F.DMA_CH_DESC_ADDR ch) * 32) 32 = (s, .done, b) →
      dmaLocal (descOf 0 b).local_ (descOf 0 b).len = true → (descOf 0 b).dir = false → 0 < (descOf 0 b).len → (descOf 0 b).len ≤ s.readMax → (s.dmaChan ch).reqs.length <
      8 → s.dmaOutstanding < 32 → Completes (.dmaStart m ch) s fun t => t.out = .response m 0 0 :: .hostDma false (descOf 0 b).host (descOf 0 b).len [] :: s.out ∧
      (t.dmaChan ch).asked = (descOf 0 b).len ∧ (t.dmaChan ch).reqs = (s.dmaChan ch).reqs ++ [(true, (descOf 0 b).len)]) ∧
  (∀ (m : Master) (ch : Fin 8) (s : State), s.Reached m (R.DMA_CH_CTL ch) → m.code ∈ dmaMasters ch → s.fld (F.DMA_CH_STAT_STATE ch) ≠ 1 → s.is (F.CLK_GATE_RUN 8) = true
      → dmaLocal (s.fld (F.DMA_CH_DESC_ADDR ch) * 32) 32 = false → Completes (.dmaStart m ch) s fun t => s.Answered m 0 t ∧ t.fld (F.DMA_CH_STAT_STATE ch) = 2 ∧ t.fld
      (F.DMA_CH_STAT_CODE ch) = 4 ∧ t.rd (R.DMA_CH_FAIL ch) = BitVec.ofNat 32 ((s.fld (F.DMA_CH_DESC_ADDR ch) * 32)) ∧ bitAt (t.fld F.DMA_EVENT_HALT) ch = true ∧ t.mem =
      s.mem ∧ s.Only [R.DMA_CH_STAT ch, R.DMA_CH_FAIL ch, R.DMA_EVENT, R.CLK_GATE 8] t) ∧
  (∀ (m : Master) (ch : Fin 8) (b : List (BitVec 8)) (s : State), s.Reached m (R.DMA_CH_CTL ch) → m.code ∈ dmaMasters ch → s.fld (F.DMA_CH_STAT_STATE ch) ≠ 1 → s.is
      (F.CLK_GATE_RUN 8) = true → dmaLocal (s.fld (F.DMA_CH_DESC_ADDR ch) * 32) 32 = true → s.memRead dmaReader (s.fld (F.DMA_CH_DESC_ADDR ch) * 32) 32 = (s, .done, b) →
      dmaLocal (descOf 0 b).local_ (descOf 0 b).len = false → Completes (.dmaStart m ch) s fun t => s.Answered m 0 t ∧ t.fld (F.DMA_CH_STAT_STATE ch) = 2 ∧ t.fld
      (F.DMA_CH_STAT_CODE ch) = 4 ∧ t.rd (R.DMA_CH_FAIL ch) = BitVec.ofNat 32 (if dmaLocal (descOf 0 b).local_ 1 then 0x02800000 else (descOf 0 b).local_) ∧ bitAt (t.fld
      F.DMA_EVENT_HALT) ch = true ∧ s.Only [R.DMA_CH_STAT ch, R.DMA_CH_FAIL ch, R.DMA_EVENT, R.CLK_GATE 8] t) ∧
  (∀ (m : Master) (ch : Fin 8) (s : State), s.Reached m (R.DMA_CH_CTL ch) → m.code ∈ dmaMasters ch → s.fld (F.DMA_CH_STAT_STATE ch) ≠ 1 → s.is (F.CLK_GATE_RUN 8) = true
      → dmaLocal (s.fld (F.DMA_CH_DESC_ADDR ch) * 32) 32 = true → (s.memRead dmaReader (s.fld (F.DMA_CH_DESC_ADDR ch) * 32) 32).2.1 = .bad → Completes (.dmaStart m ch) s
      fun t => t.fld (F.DMA_CH_STAT_STATE ch) = 2 ∧ t.fld (F.DMA_CH_STAT_CODE ch) = 5 ∧ t.rd (R.DMA_CH_FAIL ch) = BitVec.ofNat 32 ((s.fld (F.DMA_CH_DESC_ADDR ch) * 32)) ∧
      bitAt (t.fld F.DMA_EVENT_HALT) ch = true) ∧
  (∀ (m : Master) (ch : Fin 8) (s : State), s.Reached m (R.DMA_CH_CTL ch) → m.code ∈ dmaMasters ch → s.fld (F.DMA_CH_STAT_STATE ch) = 1 → Completes (.dmaStart m ch) s
      fun t => s.Answered m 1 t ∧ t.is F.DMA_EVENT_REFUSED = true ∧ t.dma = s.dma ∧ s.Only [R.DMA_EVENT] t) ∧
  (∀ (m : Master) (ch : Fin 8) (s : State), s.Reached m (R.DMA_CH_CTL ch) → m.code ∈ dmaMasters ch → s.fld (F.DMA_CH_STAT_STATE ch) ≠ 1 → s.is (F.CLK_GATE_RUN 8) =
      false → Completes (.dmaStart m ch) s fun t => s.Answered m 1 t ∧ t.dma = s.dma ∧ s.Only [] t) ∧
  (∀ (m : Master) (ch : Fin 8) (s : State), s.Reached m (R.DMA_CH_CTL ch) → m.code ∉ dmaMasters ch → Completes (.dmaStart m ch) s fun t => s.Answered m 2 t ∧ t.dma =
      s.dma ∧ s.Only [] t) ∧
  (∀ (m : Master) (ch : Fin 8) (s : State), s.Reached m (R.DMA_CH_CTL ch) → m.code ∉ dmaMasters ch → Completes (.dmaStop m ch) s fun t => s.Answered m 2 t ∧ t.dma =
      s.dma ∧ s.Only [] t) ∧
  (∀ (m : Master) (ch : Fin 8) (s : State), s.Reached m (R.DMA_CH_CTL ch) → m.code ∈ dmaMasters ch → s.fld (F.DMA_CH_STAT_STATE ch) ≠ 1 → Completes (.dmaStop m ch) s
      fun t => s.Answered m 0 t ∧ t.dma = s.dma ∧ s.Only [] t) ∧
  (∀ (m : Master) (ch : Fin 8) (s : State), s.Reached m (R.DMA_CH_CTL ch) → m.code ∈ dmaMasters ch → s.fld (F.DMA_CH_STAT_STATE ch) = 1 → dmaLocal (s.dmaChan ch).desc
      32 = false → Completes (.dmaStop m ch) s fun t => s.Answered m 0 t ∧ t.fld (F.DMA_CH_STAT_STATE ch) = 2 ∧ t.fld (F.DMA_CH_STAT_CODE ch) = 6 ∧ t.rd (R.DMA_CH_FAIL ch)
      = BitVec.ofNat 32 ((s.dmaChan ch).local_ + (s.dmaChan ch).moved) ∧ bitAt (t.fld F.DMA_EVENT_HALT) ch = true ∧ (t.dmaChan ch).reqs = (s.dmaChan ch).reqs.map (fun r =>
      (false, r.2)) ∧ t.mem = s.mem ∧ s.Only [R.DMA_CH_STAT ch, R.DMA_CH_FAIL ch, R.DMA_EVENT, R.CLK_GATE 8] t) ∧
  (∀ (m : Master) (ch : Fin 8) (s : State), s.Reached m (R.DMA_CH_CTL ch) → m.code ∈ dmaMasters ch → s.fld (F.DMA_CH_STAT_STATE ch) = 1 → dmaLocal (s.dmaChan ch).desc
      32 = true → (s.dmaChan ch).desc % 32 = 0 → s.Sound ((s.dmaChan ch).desc + 20) → Completes (.dmaStop m ch) s fun t => s.Answered m 0 t ∧ t.fld (F.DMA_CH_STAT_STATE
      ch) = 2 ∧ t.fld (F.DMA_CH_STAT_CODE ch) = 6 ∧ t.rd (R.DMA_CH_FAIL ch) = BitVec.ofNat 32 ((s.dmaChan ch).local_ + (s.dmaChan ch).moved) ∧ bitAt (t.fld
      F.DMA_EVENT_HALT) ch = true ∧ (t.dmaChan ch).reqs = (s.dmaChan ch).reqs.map (fun r => (false, r.2)) ∧ s.Stored ((s.dmaChan ch).desc + 20) 4 6#32 t ∧ s.Only
      [R.DMA_CH_STAT ch, R.DMA_CH_FAIL ch, R.DMA_EVENT, R.CLK_GATE 8] t) ∧
  (∀ (ch : Fin 8) (bytes : List (BitVec 8)) (n : Nat) (rest : List (Bool × Nat)) (s : State), s.dmaRuns ch = true → (s.dmaChan ch).reqs = (true, n) :: rest →
      bytes.length = 8 → 8 ≤ n → ((s.dmaChan ch).local_ + (s.dmaChan ch).moved) % 8 = 0 → s.memGate ((s.dmaChan ch).local_ + (s.dmaChan ch).moved) = none → dmaLocal
      ((s.dmaChan ch).local_ + (s.dmaChan ch).moved) 8 = true → Completes (.dmaHostCompletion ch true bytes) s fun t => t.bytesAt ((s.dmaChan ch).local_ + (s.dmaChan
      ch).moved) 8 = bytes ∧ (∀ a, ¬ ((s.dmaChan ch).local_ + (s.dmaChan ch).moved ≤ a ∧ a < (s.dmaChan ch).local_ + (s.dmaChan ch).moved + 8) → t.byteAt a = s.byteAt a) ∧
      (t.dmaChan ch).moved = (s.dmaChan ch).moved + 8 ∧ ((s.dmaChan ch).len ≤ (s.dmaChan ch).asked → (t.dmaChan ch).reqs = (if 8 < n then (true, n - 8) :: rest else rest))
      ∧ s.Only [] t) ∧
  (∀ (ch : Fin 8) (ok : Bool) (bytes : List (BitVec 8)) (n : Nat) (rest : List (Bool × Nat)) (s : State), s.domOn 14 = true → (s.dmaChan ch).reqs = (false, n) :: rest →
      Completes (.dmaHostCompletion ch ok bytes) s fun t => t.mem = s.mem ∧ (t.dmaChan ch).moved = (s.dmaChan ch).moved ∧ (s.dmaRuns ch = false → (t.dmaChan ch).reqs = (if
      ok = true ∧ bytes.length < n then (false, n - bytes.length) :: rest else rest)) ∧ s.Only [] t) ∧
  (∀ (ch : Fin 8) (ok : Bool) (bytes : List (BitVec 8)) (s : State), (s.dmaChan ch).reqs = [] ∨ s.domOn 14 = false → Completes (.dmaHostCompletion ch ok bytes) s fun t
      => t.dma = s.dma ∧ t.mem = s.mem ∧ t.out = s.out ∧ s.Only [] t) ∧
  (∀ (ch : Fin 8) (bytes : List (BitVec 8)) (n : Nat) (rest : List (Bool × Nat)) (s : State), s.dmaRuns ch = true → (s.dmaChan ch).reqs = (true, n) :: rest → dmaLocal
      (s.dmaChan ch).desc 32 = false → Completes (.dmaHostCompletion ch false bytes) s fun t => t.fld (F.DMA_CH_STAT_STATE ch) = 2 ∧ t.fld (F.DMA_CH_STAT_CODE ch) = 2 ∧
      t.rd (R.DMA_CH_FAIL ch) = BitVec.ofNat 32 ((s.dmaChan ch).local_ + (s.dmaChan ch).moved) ∧ bitAt (t.fld F.DMA_EVENT_HALT) ch = true ∧ (t.dmaChan ch).reqs = rest.map
      (fun r => (false, r.2)) ∧ t.mem = s.mem ∧ s.Only [R.DMA_CH_STAT ch, R.DMA_CH_FAIL ch, R.DMA_EVENT, R.CLK_GATE 8] t) ∧
  (∀ (ch : Fin 8) (n : Nat) (rest : List (Bool × Nat)) (s : State), s.dmaRuns ch = true → (s.dmaChan ch).reqs = (true, n) :: rest → dmaLocal (s.dmaChan ch).desc 32 =
      false → Completes (.dmaCompletionTimeout ch) s fun t => t.fld (F.DMA_CH_STAT_STATE ch) = 2 ∧ t.fld (F.DMA_CH_STAT_CODE ch) = 3 ∧ t.rd (R.DMA_CH_FAIL ch) =
      BitVec.ofNat 32 ((s.dmaChan ch).local_ + (s.dmaChan ch).moved) ∧ bitAt (t.fld F.DMA_EVENT_HALT) ch = true ∧ (t.dmaChan ch).reqs = rest.map (fun r => (false, r.2)) ∧
      t.mem = s.mem ∧ s.Only [R.DMA_CH_STAT ch, R.DMA_CH_FAIL ch, R.DMA_EVENT, R.CLK_GATE 8] t) ∧
  (∀ (ch : Fin 8) (s : State), (s.dmaChan ch).reqs = [] → s.IrqRemembered → Completes (.dmaCompletionTimeout ch) s fun t => t = s) ∧
  (∀ (ch : Fin 8) (n : Nat) (rest : List (Bool × Nat)) (s : State), (s.dmaChan ch).reqs = (false, n) :: rest → s.dmaRuns ch = false → Completes (.dmaCompletionTimeout
      ch) s fun t => (t.dmaChan ch).reqs = rest ∧ t.mem = s.mem ∧ s.Only [] t) ∧
  (∀ (ch : Fin 8) (s : State), s.dmaRuns ch = false ∨ (s.dmaChan ch).dir = false ∧ (s.dmaChan ch).moved < (s.dmaChan ch).len → s.IrqRemembered → Completes
      (.dmaDescriptorDone ch) s fun t => t = s) ∧
  (∀ (ch : Fin 8) (s : State), s.dmaRuns ch = true → (s.dmaChan ch).dir = false → (s.dmaChan ch).len ≤ (s.dmaChan ch).moved → (s.dmaChan ch).last = true → dmaLocal
      (s.dmaChan ch).desc 32 = true → (s.dmaChan ch).desc % 32 = 0 → s.Sound ((s.dmaChan ch).desc + 20) → Completes (.dmaDescriptorDone ch) s fun t => t.fld
      (F.DMA_CH_STAT_STATE ch) = 0 ∧ t.fld (F.DMA_CH_STAT_DONE ch) = (s.fld (F.DMA_CH_STAT_DONE ch) + 1) % 65536 ∧ s.Stored ((s.dmaChan ch).desc + 20) 4 0x80000000#32 t ∧
      bitAt (t.fld F.DMA_EVENT_DONE) ch = (bitAt (s.fld F.DMA_EVENT_DONE) ch || (s.dmaChan ch).irq) ∧ t.out = s.out ∧ s.Only [R.DMA_CH_STAT ch, R.DMA_EVENT, R.CLK_GATE 8]
      t) ∧
  (∀ (ch : Fin 8) (next : Nat) (s : State), s.dmaRuns ch = true → (s.dmaChan ch).dir = false → (s.dmaChan ch).len ≤ (s.dmaChan ch).moved → (s.dmaChan ch).last = false →
      dmaLocal (s.dmaChan ch).desc 32 = true → (s.dmaChan ch).desc % 32 = 0 → s.Sound ((s.dmaChan ch).desc + 20) → next = (s.dmaChan ch).next - (s.dmaChan ch).next % 32 →
      dmaLocal next 32 = false → Completes (.dmaDescriptorDone ch) s fun t => t.fld (F.DMA_CH_STAT_STATE ch) = 2 ∧ t.fld (F.DMA_CH_STAT_CODE ch) = 4 ∧ t.rd (R.DMA_CH_FAIL
      ch) = BitVec.ofNat 32 (next) ∧ bitAt (t.fld F.DMA_EVENT_HALT) ch = true ∧ s.Stored ((s.dmaChan ch).desc + 20) 4 0x80000000#32 t ∧ t.fld (F.DMA_CH_STAT_DONE ch) =
      (s.fld (F.DMA_CH_STAT_DONE ch) + 1) % 65536 ∧ s.Only [R.DMA_CH_STAT ch, R.DMA_CH_FAIL ch, R.DMA_EVENT, R.CLK_GATE 8] t) ∧
  (∀ (ch : Fin 8) (b : List (BitVec 8)) (next : Nat) (s : State), s.dmaRuns ch = true → (s.dmaChan ch).dir = false → (s.dmaChan ch).len ≤ (s.dmaChan ch).moved →
      (s.dmaChan ch).last = false → dmaLocal (s.dmaChan ch).desc 32 = false → next = (s.dmaChan ch).next - (s.dmaChan ch).next % 32 → dmaLocal next 32 = true → s.memRead
      dmaReader next 32 = (s, .done, b) → dmaLocal (descOf 0 b).local_ (descOf 0 b).len = true → Completes (.dmaDescriptorDone ch) s fun t => t.fld (F.DMA_CH_STAT_STATE
      ch) = 1 ∧ { t.dmaChan ch with asked := 0, reqs := [] } = descOf next b ∧ t.fld (F.DMA_CH_STAT_DONE ch) = (s.fld (F.DMA_CH_STAT_DONE ch) + 1) % 65536 ∧ t.mem = s.mem
      ∧ s.Only [R.DMA_CH_STAT ch, R.DMA_EVENT] t) ∧
  (∀ (ch : Fin 8) (n : Nat) (s : State), s.dmaRuns ch = true → (s.dmaChan ch).dir = true → (s.dmaChan ch).last = true → dmaLocal (s.dmaChan ch).desc 32 = true →
      (s.dmaChan ch).desc % 32 = 0 → s.Sound ((s.dmaChan ch).desc + 20) → n = (s.dmaChan ch).len - (s.dmaChan ch).moved → 0 < n → n ≤ s.payloadMax → (s.dmaChan ch).moved ≤
      (s.dmaChan ch).len → s.memRead dmaReader ((s.dmaChan ch).local_ + (s.dmaChan ch).moved) n = (s, .done, s.bytesAt ((s.dmaChan ch).local_ + (s.dmaChan ch).moved) n) →
      Completes (.dmaDescriptorDone ch) s fun t => t.out = .hostDma true ((s.dmaChan ch).host + (s.dmaChan ch).moved) n (s.bytesAt ((s.dmaChan ch).local_ + (s.dmaChan
      ch).moved) n) :: s.out ∧ t.fld (F.DMA_CH_STAT_STATE ch) = 0 ∧ t.fld (F.DMA_CH_STAT_DONE ch) = (s.fld (F.DMA_CH_STAT_DONE ch) + 1) % 65536 ∧ s.Stored ((s.dmaChan
      ch).desc + 20) 4 0x80000000#32 t ∧ s.Only [R.DMA_CH_STAT ch, R.DMA_EVENT, R.CLK_GATE 8] t) ∧
  (∀ (ch : Fin 8) (n : Nat) (s : State), s.dmaRuns ch = true → (s.dmaChan ch).dir = true → dmaLocal (s.dmaChan ch).desc 32 = false → n = (s.dmaChan ch).len - (s.dmaChan
      ch).moved → 0 < n → n ≤ s.payloadMax → (s.memRead dmaReader ((s.dmaChan ch).local_ + (s.dmaChan ch).moved) n).2.1 = .bad → Completes (.dmaDescriptorDone ch) s fun t
      => t.fld (F.DMA_CH_STAT_STATE ch) = 2 ∧ t.fld (F.DMA_CH_STAT_CODE ch) = 1 ∧ bitAt (t.fld F.DMA_EVENT_HALT) ch = true ∧ t.out = s.out ∧ (t.dmaChan ch).moved =
      (s.dmaChan ch).moved)

/-- While PD_SUP is on and the port's gate runs, in the native persona: a write transfer sets the pointer and stores whole words at successive addresses (an incomplete word sets
PARTIAL); a read returns words from the pointer on, under I3C the one fetched ahead first; misaligned or out-of-range addresses, refused writes, refused or early reads are
told by NACK or, under I3C, by AERR, WERR and READ_NACK, and counted. The common command codes set and return the port's parameters under a dynamic address and are refused by
NACK without one; ENTDAA and SETDASA give one where I3C_EN allows. GETSTATUS beside its protocol bit, and GETMXDS, return a free value (the model's). In the forerunner persona
the window's index and IND_ADDR advance, IND_DATA reaches the address and IND_STAT remembers a refusal. The gate switched off is a NACK; PD_SUP off, nothing. Outside the awake
device an address match is a NACK and a wake source. The wakes are R320 to R323 of chapter 12. Details of I3C are PRESUMED (log entry 53); refusals, counts and the window are
read as in log entries 52 and 54. (Rests on 11_management_ports.md, 12_clocks_power_time.md.) -/
def Obligations.SerialPortTransfers : Prop :=
  (∀ (a v : Word) (s : State), s.domOn 1 = true → s.is (F.CLK_GATE_RUN 6) = true → s.is F.MODE_PERSONA_ACTIVE = false → a.toNat % 4 = 0 → 0x02000000 ≤ a.toNat → a.toNat
      < 0x02400000 → s.Sound a.toNat → Completes (.smpWrite a (leBytes 4 v.toNat)) s fun t => s.Stored a.toNat 4 v t ∧ t.smp.ptr = a.toNat + 4 ∧ t.out = (if s.i3c then
      s.out else .response .smp 0 0 :: s.out) ∧ s.Only [R.CLK_GATE 6] t) ∧
  (∀ (ad v w : Word) (s : State), s.domOn 1 = true → s.is (F.CLK_GATE_RUN 6) = true → s.is F.MODE_PERSONA_ACTIVE = false → ad.toNat % 4 = 0 → 0x02000000 ≤ ad.toNat →
      ad.toNat < 0x02400000 → s.Sound ad.toNat → ad.toNat + 4 < 0x02400000 → s.Sound (ad.toNat + 4) → Completes (.smpWrite ad (leBytes 4 v.toNat ++ leBytes 4 w.toNat)) s
      fun t => t.bytesAt ad.toNat 8 = leBytes 4 v.toNat ++ leBytes 4 w.toNat ∧ (∀ a, ¬ (ad.toNat ≤ a ∧ a < ad.toNat + 8) → t.byteAt a = s.byteAt a) ∧ t.smp.ptr = ad.toNat
      + 8 ∧ s.Only [R.CLK_GATE 6] t) ∧
  (∀ (a v : Word) (x : List (BitVec 8)) (s : State), s.domOn 1 = true → s.is (F.CLK_GATE_RUN 6) = true → s.is F.MODE_PERSONA_ACTIVE = false → a.toNat % 4 = 0 →
      0x02000000 ≤ a.toNat → a.toNat < 0x02400000 → s.Sound a.toNat → 0 < x.length → x.length < 4 → Completes (.smpWrite a (leBytes 4 v.toNat ++ x)) s fun t => s.Stored
      a.toNat 4 v t ∧ t.smp.ptr = a.toNat + 4 ∧ t.is F.SMP_EVENT_PARTIAL = true ∧ s.Only [R.CLK_GATE 6, R.SMP_EVENT] t) ∧
  (∀ (a : Word) (s : State), s.domOn 1 = true → s.is (F.CLK_GATE_RUN 6) = true → s.is F.MODE_PERSONA_ACTIVE = false → a.toNat % 4 = 0 → a.toNat < 0x08000000 → s.i3c =
      false → Completes (.smpWrite a []) s fun t => t.smp = { s.smp with ptr := a.toNat, fetch := .none } ∧ t.mem = s.mem ∧ t.out = s.out ∧ s.Only [R.CLK_GATE 6] t) ∧
  (∀ (a : Word) (s : State), s.domOn 1 = true → s.is (F.CLK_GATE_RUN 6) = true → s.is F.MODE_PERSONA_ACTIVE = false → a.toNat % 4 = 0 → 0x02000000 ≤ a.toNat → a.toNat <
      0x02400000 → s.Sound a.toNat → s.i3c = true → Completes (.smpWrite a []) s fun t => t.smp = { s.smp with ptr := a.toNat, fetch := .word 0 (s.bytesAt a.toNat 4) } ∧
      t.mem = s.mem ∧ t.out = s.out ∧ s.Only [R.CLK_GATE 6] t) ∧
  (∀ (a : Word) (bytes : List (BitVec 8)) (s : State), s.domOn 1 = true → s.is (F.CLK_GATE_RUN 6) = true → s.is F.MODE_PERSONA_ACTIVE = false → a.toNat % 4 ≠ 0 ∨
      0x08000000 ≤ a.toNat → Completes (.smpWrite a bytes) s fun t => t.fld F.SMP_ERR_COUNT_COUNT = min (s.fld F.SMP_ERR_COUNT_COUNT + 1) 65535 ∧ t.is F.SMP_EVENT_AERR =
      (s.is F.SMP_EVENT_AERR || s.i3c) ∧ t.out = (if s.i3c then s.out else .nack :: s.out) ∧ t.mem = s.mem ∧ t.smp = s.smp ∧ s.Only [R.CLK_GATE 6, R.SMP_EVENT,
      R.SMP_ERR_COUNT] t) ∧
  (∀ (a v : Word) (s : State), s.domOn 1 = true → s.is (F.CLK_GATE_RUN 6) = true → s.is F.MODE_PERSONA_ACTIVE = false → a.toNat % 4 = 0 → a.toNat < 0x08000000 →
      regionOf a.toNat = none → Completes (.smpWrite a (leBytes 4 v.toNat)) s fun t => t.fld F.SMP_ERR_COUNT_COUNT = min (s.fld F.SMP_ERR_COUNT_COUNT + 1) 65535 ∧ t.is
      F.SMP_EVENT_WERR = (s.is F.SMP_EVENT_WERR || s.i3c) ∧ t.smp.protErr = (s.smp.protErr || s.i3c) ∧ t.out = (if s.i3c then s.out else .nack :: s.out) ∧ t.mem = s.mem ∧
      s.Only [R.CLK_GATE 6, R.SMP_EVENT, R.SMP_ERR_COUNT] t) ∧
  (∀ (s : State), s.domOn 1 = true → s.is (F.CLK_GATE_RUN 6) = true → s.is F.MODE_PERSONA_ACTIVE = false → s.smp.ptr % 4 = 0 → 0x02000000 ≤ s.smp.ptr → s.smp.ptr <
      0x02400000 → s.Sound s.smp.ptr → s.smp.fetch = .none → Completes (.smpRead 1) s fun t => t.out = .data .smp 0 (s.bytesAt s.smp.ptr 4) :: s.out ∧ t.smp =
      { s.smp with ptr := s.smp.ptr + 4 } ∧ t.mem = s.mem ∧ s.Only [R.CLK_GATE 6] t) ∧
  (∀ (s : State), s.domOn 1 = true → s.is (F.CLK_GATE_RUN 6) = true → s.is F.MODE_PERSONA_ACTIVE = false → s.smp.ptr % 4 = 0 → 0x02000000 ≤ s.smp.ptr → s.smp.ptr <
      0x02400000 → s.Sound s.smp.ptr → s.smp.fetch = .none → s.smp.ptr + 4 < 0x02400000 → s.Sound (s.smp.ptr + 4) → Completes (.smpRead 2) s fun t => t.out = .data .smp 0
      (s.bytesAt (s.smp.ptr + 4) 4) :: .data .smp 0 (s.bytesAt s.smp.ptr 4) :: s.out ∧ t.smp = { s.smp with ptr := s.smp.ptr + 8 } ∧ s.Only [R.CLK_GATE 6] t) ∧
  (∀ (b : List (BitVec 8)) (s : State), s.domOn 1 = true → s.is (F.CLK_GATE_RUN 6) = true → s.is F.MODE_PERSONA_ACTIVE = false → s.i3c = true → s.smp.fetch = .word 0 b
      → Completes (.smpRead 1) s fun t => t.out = .data .smp 0 b :: s.out ∧ t.smp = { s.smp with ptr := s.smp.ptr + 4, fetch := .none } ∧ s.Only [R.CLK_GATE 6] t) ∧
  (∀ (b : List (BitVec 8)) (n : Nat) (s : State), s.domOn 1 = true → s.is (F.CLK_GATE_RUN 6) = true → s.is F.MODE_PERSONA_ACTIVE = false → s.i3c = true → s.smp.fetch =
      .word 0 b → isRegAddr s.smp.ptr = true → 0 < n → Completes (.smpRead n) s fun t => t.out = .data .smp 0 b :: s.out ∧ t.smp.fetch = .none ∧ s.Only [R.CLK_GATE 6] t) ∧
  (∀ (n : Nat) (s : State), s.domOn 1 = true → s.is (F.CLK_GATE_RUN 6) = true → s.is F.MODE_PERSONA_ACTIVE = false → s.i3c = true → s.smp.fetch = .waiting ∨ n = 0 →
      Completes (.smpRead n) s fun t => t.out = .nack :: s.out ∧ t.is F.SMP_EVENT_READ_NACK = true ∧ t.smp = s.smp ∧ s.Only [R.CLK_GATE 6, R.SMP_EVENT] t) ∧
  (∀ (n c : Nat) (s : State), s.domOn 1 = true → s.is (F.CLK_GATE_RUN 6) = true → s.is F.MODE_PERSONA_ACTIVE = false → s.i3c = true → 0 < n → 0 < c → s.smp.fetch =
      .word c [] → Completes (.smpRead n) s fun t => t.fld F.SMP_ERR_COUNT_COUNT = min (s.fld F.SMP_ERR_COUNT_COUNT + 1) 65535 ∧ t.out = .nack :: s.out ∧ t.is
      F.SMP_EVENT_READ_NACK = true ∧ t.smp = { s.smp with fetch := .none } ∧ s.Only [R.CLK_GATE 6, R.SMP_EVENT, R.SMP_ERR_COUNT] t) ∧
  (∀ (n : Nat) (s : State), s.domOn 1 = true → s.is (F.CLK_GATE_RUN 6) = true → s.is F.MODE_PERSONA_ACTIVE = false → 0 < n → s.smp.fetch = .none → regionOf s.smp.ptr =
      none → Completes (.smpRead n) s fun t => t.fld F.SMP_ERR_COUNT_COUNT = min (s.fld F.SMP_ERR_COUNT_COUNT + 1) 65535 ∧ t.out = .nack :: s.out ∧ t.is
      F.SMP_EVENT_READ_NACK = (s.is F.SMP_EVENT_READ_NACK || s.i3c) ∧ t.mem = s.mem ∧ s.Only [R.CLK_GATE 6, R.SMP_EVENT, R.SMP_ERR_COUNT] t) ∧
  (∀ (s : State), s.domOn 1 = true → s.is (F.CLK_GATE_RUN 6) = true → s.is F.MODE_PERSONA_ACTIVE = false → s.i3c = false → Completes (.smpRead 0) s fun t => t.out =
      s.out ∧ t.smp = s.smp ∧ s.Only [R.CLK_GATE 6] t) ∧
  (∀ (n : Nat) (s : State), s.domOn 1 = true → s.is (F.CLK_GATE_RUN 6) = true → s.is F.MODE_PERSONA_ACTIVE = false → s.i3c = false → 16 < n → (s.smpReads true 16).2 =
      true → Completes (.smpRead n) s fun t => t.out.head? = some (.data .smp 0 (List.replicate (4 * (n - 16)) 0xFF#8))) ∧
  (∀ (n : Nat) (s : State), s.domOn 1 = true → s.is (F.CLK_GATE_RUN 6) = true → s.is F.MODE_PERSONA_ACTIVE = true → Completes (.smpRead n) s fun t => t.out = s.out ∧
      t.smp = s.smp ∧ t.mem = s.mem ∧ s.Only [R.CLK_GATE 6] t) ∧
  (∀ (a : Word) (bytes : List (BitVec 8)) (s : State), s.domOn 1 = true → s.is (F.CLK_GATE_RUN 6) = true → s.is F.MODE_PERSONA_ACTIVE = true → Completes (.smpWrite a
      bytes) s fun t => t.out = s.out ∧ t.smp = s.smp ∧ t.mem = s.mem ∧ s.Only [R.CLK_GATE 6] t) ∧
  (∀ (ev : BitVec 8) (s : State), s.domOn 1 = true → s.is (F.CLK_GATE_RUN 6) = true → s.i3c = true → Completes (.enec ev) s fun t => t.is F.SMP_STAT_IBI_EN = (s.is
      F.SMP_STAT_IBI_EN || ev.getLsbD 0) ∧ t.smp = s.smp ∧ t.out = s.out ∧ s.Only [R.CLK_GATE 6, R.SMP_STAT] t) ∧
  (∀ (ev : BitVec 8) (s : State), s.domOn 1 = true → s.is (F.CLK_GATE_RUN 6) = true → s.i3c = false → Completes (.enec ev) s fun t => t.out = .nack :: s.out ∧ t.smp =
      s.smp ∧ s.Only [R.CLK_GATE 6] t) ∧
  (∀ (ev : BitVec 8) (s : State), s.domOn 1 = true → s.is (F.CLK_GATE_RUN 6) = true → s.i3c = true → Completes (.disec ev) s fun t => t.is F.SMP_STAT_IBI_EN = (s.is
      F.SMP_STAT_IBI_EN && !ev.getLsbD 0) ∧ t.smp = s.smp ∧ t.out = s.out ∧ s.Only [R.CLK_GATE 6, R.SMP_STAT] t) ∧
  (∀ (ev : BitVec 8) (s : State), s.domOn 1 = true → s.is (F.CLK_GATE_RUN 6) = true → s.i3c = false → Completes (.disec ev) s fun t => t.out = .nack :: s.out ∧ t.smp =
      s.smp ∧ s.Only [R.CLK_GATE 6] t) ∧
  (∀ (da : BitVec 7) (s : State), s.domOn 1 = true → s.is (F.CLK_GATE_RUN 6) = true → s.i3c = true → Completes (.setnewda da) s fun t => t.smp = (if s.is
      F.SMP_CFG_I3C_EN = true then { s.smp with dyn := some da } else s.smp) ∧ t.out = s.out ∧ s.Only [R.CLK_GATE 6] t) ∧
  (∀ (da : BitVec 7) (s : State), s.domOn 1 = true → s.is (F.CLK_GATE_RUN 6) = true → s.i3c = false → Completes (.setnewda da) s fun t => t.out = .nack :: s.out ∧ t.smp
      = s.smp ∧ s.Only [R.CLK_GATE 6] t) ∧
  (∀ (len : BitVec 16) (s : State), s.domOn 1 = true → s.is (F.CLK_GATE_RUN 6) = true → s.i3c = true → Completes (.setmwl len) s fun t => t.smp =
      { s.smp with mwl := len.toNat } ∧ t.out = s.out ∧ s.Only [R.CLK_GATE 6] t) ∧
  (∀ (len : BitVec 16) (s : State), s.domOn 1 = true → s.is (F.CLK_GATE_RUN 6) = true → s.i3c = false → Completes (.setmwl len) s fun t => t.out = .nack :: s.out ∧
      t.smp = s.smp ∧ s.Only [R.CLK_GATE 6] t) ∧
  (∀ (len : BitVec 16) (s : State), s.domOn 1 = true → s.is (F.CLK_GATE_RUN 6) = true → s.i3c = true → Completes (.setmrl len) s fun t => t.smp =
      { s.smp with mrl := len.toNat } ∧ t.out = s.out ∧ s.Only [R.CLK_GATE 6] t) ∧
  (∀ (len : BitVec 16) (s : State), s.domOn 1 = true → s.is (F.CLK_GATE_RUN 6) = true → s.i3c = false → Completes (.setmrl len) s fun t => t.out = .nack :: s.out ∧
      t.smp = s.smp ∧ s.Only [R.CLK_GATE 6] t) ∧
  (∀ (s : State), s.domOn 1 = true → s.is (F.CLK_GATE_RUN 6) = true → s.i3c = true → Completes (.getmwl) s fun t => t.out = .data .smp 0 (beBytes 2 s.smp.mwl) :: s.out
      ∧ t.smp = s.smp ∧ s.Only [R.CLK_GATE 6] t) ∧
  (∀ (s : State), s.domOn 1 = true → s.is (F.CLK_GATE_RUN 6) = true → s.i3c = false → Completes (.getmwl) s fun t => t.out = .nack :: s.out ∧ t.smp = s.smp ∧ s.Only
      [R.CLK_GATE 6] t) ∧
  (∀ (s : State), s.domOn 1 = true → s.is (F.CLK_GATE_RUN 6) = true → s.i3c = true → Completes (.getmrl) s fun t => t.out = .data .smp 0 (beBytes 2 s.smp.mrl ++ [1#8])
      :: s.out ∧ t.smp = s.smp ∧ s.Only [R.CLK_GATE 6] t) ∧
  (∀ (s : State), s.domOn 1 = true → s.is (F.CLK_GATE_RUN 6) = true → s.i3c = false → Completes (.getmrl) s fun t => t.out = .nack :: s.out ∧ t.smp = s.smp ∧ s.Only
      [R.CLK_GATE 6] t) ∧
  (∀ (s : State), s.domOn 1 = true → s.is (F.CLK_GATE_RUN 6) = true → s.i3c = true → Completes (.getpid) s fun t => t.out = .data .smp 0 (beBytes 6 (0x2E7 * 2 ^ 33 +
      0x3208 * 2 ^ 16 + s.pins.addr * 2 ^ 12 + 0x0A1)) :: s.out ∧ t.smp = s.smp ∧ s.Only [R.CLK_GATE 6] t) ∧
  (∀ (s : State), s.domOn 1 = true → s.is (F.CLK_GATE_RUN 6) = true → s.i3c = false → Completes (.getpid) s fun t => t.out = .nack :: s.out ∧ t.smp = s.smp ∧ s.Only
      [R.CLK_GATE 6] t) ∧
  (∀ (s : State), s.domOn 1 = true → s.is (F.CLK_GATE_RUN 6) = true → s.i3c = true → Completes (.getbcr) s fun t => t.out = .data .smp 0 [0x06#8] :: s.out ∧ t.smp =
      s.smp ∧ s.Only [R.CLK_GATE 6] t) ∧
  (∀ (s : State), s.domOn 1 = true → s.is (F.CLK_GATE_RUN 6) = true → s.i3c = false → Completes (.getbcr) s fun t => t.out = .nack :: s.out ∧ t.smp = s.smp ∧ s.Only
      [R.CLK_GATE 6] t) ∧
  (∀ (s : State), s.domOn 1 = true → s.is (F.CLK_GATE_RUN 6) = true → s.i3c = true → Completes (.getdcr) s fun t => t.out = .data .smp 0 [0x00#8] :: s.out ∧ t.smp =
      s.smp ∧ s.Only [R.CLK_GATE 6] t) ∧
  (∀ (s : State), s.domOn 1 = true → s.is (F.CLK_GATE_RUN 6) = true → s.i3c = false → Completes (.getdcr) s fun t => t.out = .nack :: s.out ∧ t.smp = s.smp ∧ s.Only
      [R.CLK_GATE 6] t) ∧
  (∀ (s : State), s.domOn 1 = true → s.is (F.CLK_GATE_RUN 6) = true → s.i3c = true → Completes (.getstatus) s fun t => t.smp = { s.smp with protErr := false } ∧ t.free
      = s.free + 1 ∧ (∃ w : Word, w.getLsbD 5 = s.smp.protErr ∧ t.out = .data .smp 0 (beBytes 2 w.toNat) :: s.out) ∧ s.Only [R.CLK_GATE 6] t) ∧
  (∀ (s : State), s.domOn 1 = true → s.is (F.CLK_GATE_RUN 6) = true → s.i3c = false → Completes (.getstatus) s fun t => t.out = .nack :: s.out ∧ t.smp = s.smp ∧ s.Only
      [R.CLK_GATE 6] t) ∧
  (∀ (s : State), s.domOn 1 = true → s.is (F.CLK_GATE_RUN 6) = true → s.i3c = true → Completes (.getmxds) s fun t => t.free = s.free + 1 ∧ (∃ w : Word, t.out = .data
      .smp 0 (beBytes 2 w.toNat) :: s.out) ∧ t.smp = s.smp ∧ s.Only [R.CLK_GATE 6] t) ∧
  (∀ (s : State), s.domOn 1 = true → s.is (F.CLK_GATE_RUN 6) = true → s.i3c = false → Completes (.getmxds) s fun t => t.out = .nack :: s.out ∧ t.smp = s.smp ∧ s.Only
      [R.CLK_GATE 6] t) ∧
  (∀ (s : State), s.domOn 1 = true → s.is (F.CLK_GATE_RUN 6) = true → Completes (.rstdaa) s fun t => t.smp = { s.smp with dyn := none } ∧ t.out = s.out ∧ s.Only
      [R.CLK_GATE 6] t) ∧
  (∀ (da : BitVec 7) (s : State), s.domOn 1 = true → s.is (F.CLK_GATE_RUN 6) = true → s.i3c = false → s.is F.SMP_CFG_I3C_EN = true → Completes (.entdaa da) s fun t =>
      t.smp = { s.smp with dyn := some da } ∧ t.out = .data .smp 0 (beBytes 6 (0x2E7 * 2 ^ 33 + 0x3208 * 2 ^ 16 + s.pins.addr * 2 ^ 12 + 0x0A1) ++ [0x06#8, 0x00#8]) ::
      s.out ∧ s.Only [R.CLK_GATE 6] t) ∧
  (∀ (da : BitVec 7) (s : State), s.domOn 1 = true → s.is (F.CLK_GATE_RUN 6) = true → s.i3c = true ∨ s.is F.SMP_CFG_I3C_EN = false → Completes (.entdaa da) s fun t =>
      t.smp = s.smp ∧ t.out = s.out ∧ s.Only [R.CLK_GATE 6] t) ∧
  (∀ (da : BitVec 7) (s : State), s.domOn 1 = true → s.is (F.CLK_GATE_RUN 6) = true → s.i3c = false → s.is F.SMP_CFG_I3C_EN = true → Completes (.setdasa da) s fun t =>
      t.smp = { s.smp with dyn := some da } ∧ t.out = s.out ∧ s.Only [R.CLK_GATE 6] t) ∧
  (∀ (da : BitVec 7) (s : State), s.domOn 1 = true → s.is (F.CLK_GATE_RUN 6) = true → s.i3c = true ∨ s.is F.SMP_CFG_I3C_EN = false → Completes (.setdasa da) s fun t =>
      t.smp = s.smp ∧ t.out = s.out ∧ s.Only [R.CLK_GATE 6] t) ∧
  (∀ (code : BitVec 8) (s : State), s.domOn 1 = true → s.is (F.CLK_GATE_RUN 6) = true → Completes (.cccUnsupported code) s fun t => t.out = .nack :: s.out ∧ t.smp =
      s.smp ∧ s.Only [R.CLK_GATE 6] t) ∧
  (∀ (ev : BitVec 8) (s : State), s.domOn 1 = true → s.is (F.CLK_GATE_RUN 6) = false → Completes (.enec ev) s fun t => t.out = .nack :: s.out ∧ t.smp = s.smp ∧ s.Only
      [] t) ∧
  (∀ (ev : BitVec 8) (s : State), s.domOn 1 = false → s.IrqRemembered → Completes (.enec ev) s fun t => t = s) ∧
  (∀ (ev : BitVec 8) (s : State), s.domOn 1 = true → s.is (F.CLK_GATE_RUN 6) = false → Completes (.disec ev) s fun t => t.out = .nack :: s.out ∧ t.smp = s.smp ∧ s.Only
      [] t) ∧
  (∀ (ev : BitVec 8) (s : State), s.domOn 1 = false → s.IrqRemembered → Completes (.disec ev) s fun t => t = s) ∧
  (∀ (da : BitVec 7) (s : State), s.domOn 1 = true → s.is (F.CLK_GATE_RUN 6) = false → Completes (.setnewda da) s fun t => t.out = .nack :: s.out ∧ t.smp = s.smp ∧
      s.Only [] t) ∧
  (∀ (da : BitVec 7) (s : State), s.domOn 1 = false → s.IrqRemembered → Completes (.setnewda da) s fun t => t = s) ∧
  (∀ (len : BitVec 16) (s : State), s.domOn 1 = true → s.is (F.CLK_GATE_RUN 6) = false → Completes (.setmwl len) s fun t => t.out = .nack :: s.out ∧ t.smp = s.smp ∧
      s.Only [] t) ∧
  (∀ (len : BitVec 16) (s : State), s.domOn 1 = false → s.IrqRemembered → Completes (.setmwl len) s fun t => t = s) ∧
  (∀ (len : BitVec 16) (s : State), s.domOn 1 = true → s.is (F.CLK_GATE_RUN 6) = false → Completes (.setmrl len) s fun t => t.out = .nack :: s.out ∧ t.smp = s.smp ∧
      s.Only [] t) ∧
  (∀ (len : BitVec 16) (s : State), s.domOn 1 = false → s.IrqRemembered → Completes (.setmrl len) s fun t => t = s) ∧
  (∀ (s : State), s.domOn 1 = true → s.is (F.CLK_GATE_RUN 6) = false → Completes (.getmwl) s fun t => t.out = .nack :: s.out ∧ t.smp = s.smp ∧ s.Only [] t) ∧
  (∀ (s : State), s.domOn 1 = false → s.IrqRemembered → Completes (.getmwl) s fun t => t = s) ∧
  (∀ (s : State), s.domOn 1 = true → s.is (F.CLK_GATE_RUN 6) = false → Completes (.getmrl) s fun t => t.out = .nack :: s.out ∧ t.smp = s.smp ∧ s.Only [] t) ∧
  (∀ (s : State), s.domOn 1 = false → s.IrqRemembered → Completes (.getmrl) s fun t => t = s) ∧
  (∀ (s : State), s.domOn 1 = true → s.is (F.CLK_GATE_RUN 6) = false → Completes (.getpid) s fun t => t.out = .nack :: s.out ∧ t.smp = s.smp ∧ s.Only [] t) ∧
  (∀ (s : State), s.domOn 1 = false → s.IrqRemembered → Completes (.getpid) s fun t => t = s) ∧
  (∀ (s : State), s.domOn 1 = true → s.is (F.CLK_GATE_RUN 6) = false → Completes (.getbcr) s fun t => t.out = .nack :: s.out ∧ t.smp = s.smp ∧ s.Only [] t) ∧
  (∀ (s : State), s.domOn 1 = false → s.IrqRemembered → Completes (.getbcr) s fun t => t = s) ∧
  (∀ (s : State), s.domOn 1 = true → s.is (F.CLK_GATE_RUN 6) = false → Completes (.getdcr) s fun t => t.out = .nack :: s.out ∧ t.smp = s.smp ∧ s.Only [] t) ∧
  (∀ (s : State), s.domOn 1 = false → s.IrqRemembered → Completes (.getdcr) s fun t => t = s) ∧
  (∀ (s : State), s.domOn 1 = true → s.is (F.CLK_GATE_RUN 6) = false → Completes (.getstatus) s fun t => t.out = .nack :: s.out ∧ t.smp = s.smp ∧ s.Only [] t) ∧
  (∀ (s : State), s.domOn 1 = false → s.IrqRemembered → Completes (.getstatus) s fun t => t = s) ∧
  (∀ (s : State), s.domOn 1 = true → s.is (F.CLK_GATE_RUN 6) = false → Completes (.getmxds) s fun t => t.out = .nack :: s.out ∧ t.smp = s.smp ∧ s.Only [] t) ∧
  (∀ (s : State), s.domOn 1 = false → s.IrqRemembered → Completes (.getmxds) s fun t => t = s) ∧
  (∀ (s : State), s.domOn 1 = true → s.is (F.CLK_GATE_RUN 6) = false → Completes (.rstdaa) s fun t => t.out = .nack :: s.out ∧ t.smp = s.smp ∧ s.Only [] t) ∧
  (∀ (s : State), s.domOn 1 = false → s.IrqRemembered → Completes (.rstdaa) s fun t => t = s) ∧
  (∀ (da : BitVec 7) (s : State), s.domOn 1 = true → s.is (F.CLK_GATE_RUN 6) = false → Completes (.entdaa da) s fun t => t.out = .nack :: s.out ∧ t.smp = s.smp ∧ s.Only
      [] t) ∧
  (∀ (da : BitVec 7) (s : State), s.domOn 1 = false → s.IrqRemembered → Completes (.entdaa da) s fun t => t = s) ∧
  (∀ (da : BitVec 7) (s : State), s.domOn 1 = true → s.is (F.CLK_GATE_RUN 6) = false → Completes (.setdasa da) s fun t => t.out = .nack :: s.out ∧ t.smp = s.smp ∧
      s.Only [] t) ∧
  (∀ (da : BitVec 7) (s : State), s.domOn 1 = false → s.IrqRemembered → Completes (.setdasa da) s fun t => t = s) ∧
  (∀ (code : BitVec 8) (s : State), s.domOn 1 = true → s.is (F.CLK_GATE_RUN 6) = false → Completes (.cccUnsupported code) s fun t => t.out = .nack :: s.out ∧ t.smp =
      s.smp ∧ s.Only [] t) ∧
  (∀ (code : BitVec 8) (s : State), s.domOn 1 = false → s.IrqRemembered → Completes (.cccUnsupported code) s fun t => t = s) ∧
  (∀ (n : Nat) (s : State), s.domOn 1 = true → s.is (F.CLK_GATE_RUN 6) = false → Completes (.smpRead n) s fun t => t.out = .nack :: s.out ∧ t.smp = s.smp ∧ s.Only [] t) ∧
  (∀ (n : Nat) (s : State), s.domOn 1 = false → s.IrqRemembered → Completes (.smpRead n) s fun t => t = s) ∧
  (∀ (a : Word) (bytes : List (BitVec 8)) (s : State), s.domOn 1 = true → s.is (F.CLK_GATE_RUN 6) = false → Completes (.smpWrite a bytes) s fun t => t.out = .nack ::
      s.out ∧ t.smp = s.smp ∧ s.Only [] t) ∧
  (∀ (a : Word) (bytes : List (BitVec 8)) (s : State), s.domOn 1 = false → s.IrqRemembered → Completes (.smpWrite a bytes) s fun t => t = s) ∧
  (∀ (idx : BitVec 8) (x : SmpXfer) (s : State), s.domOn 1 = true → s.is (F.CLK_GATE_RUN 6) = false → Completes (.forerunnerWindowAccess idx x) s fun t => t.out = .nack
      :: s.out ∧ t.smp = s.smp ∧ s.Only [] t) ∧
  (∀ (idx : BitVec 8) (x : SmpXfer) (s : State), s.domOn 1 = false → s.IrqRemembered → Completes (.forerunnerWindowAccess idx x) s fun t => t = s) ∧
  (∀ (w : Option Word) (s : State), s.domOn 1 = true → s.is (F.CLK_GATE_RUN 6) = false → Completes (.indData w) s fun t => t.out = .nack :: s.out ∧ t.smp = s.smp ∧
      s.Only [] t) ∧
  (∀ (w : Option Word) (s : State), s.domOn 1 = false → s.IrqRemembered → Completes (.indData w) s fun t => t = s) ∧
  (∀ (s : State), s.domOn 1 = true → s.is (F.CLK_GATE_RUN 6) = false → Completes (.indStatRead) s fun t => t.out = .nack :: s.out ∧ t.smp = s.smp ∧ s.Only [] t) ∧
  (∀ (s : State), s.domOn 1 = false → s.IrqRemembered → Completes (.indStatRead) s fun t => t = s) ∧
  (∀ (s : State), s.domOn 1 = true → s.is (F.CLK_GATE_RUN 6) = false → Completes (.ibi) s fun t => t.out = .nack :: s.out ∧ t.smp = s.smp ∧ s.Only [] t) ∧
  (∀ (s : State), s.domOn 1 = false → s.IrqRemembered → Completes (.ibi) s fun t => t = s) ∧
  (∀ (i : Nat) (s : State), s.domOn 1 = true → s.is (F.CLK_GATE_RUN 6) = true → s.attention = some i → s.i3c = true → s.is F.SMP_STAT_IBI_EN = true → Completes (.ibi) s
      fun t => t.out = .ibi i :: s.out ∧ t.smp = s.smp ∧ s.Only [R.CLK_GATE 6] t) ∧
  (∀ (s : State), s.domOn 1 = true → s.is (F.CLK_GATE_RUN 6) = true → s.attention = none ∨ s.i3c = false ∨ s.is F.SMP_STAT_IBI_EN = false → Completes (.ibi) s fun t =>
      t.out = s.out ∧ t.smp = s.smp ∧ s.Only [R.CLK_GATE 6] t) ∧
  (∀ (s : State), s.dorm.phase = .asleep → s.domOn 0 = true → Completes (.smpAddressMatch) s fun t => t.out = .nack :: s.out ∧ t.dorm.phase = .waking ∧ t.domOn 1 = true
      ∧ t.is F.PWR_WAKE_CAUSE_SMP = true ∧ t.fld F.PWR_WAKE_FIRST_SRC = 26 ∧ t.is F.SMP_EVENT_WAKE = true ∧ t.sup.released = true) ∧
  (∀ (s : State), s.dorm.phase = .waking → s.domOn 1 = true → Completes (.smpAddressMatch) s fun t => t.out = .nack :: s.out ∧ t.dorm = s.dorm ∧ t.is
      F.PWR_WAKE_CAUSE_SMP = true ∧ t.is F.SMP_EVENT_WAKE = true ∧ s.Only [R.SMP_EVENT, R.PWR_WAKE_CAUSE] t) ∧
  (∀ (s : State), s.dorm.phase = .awake → s.IrqRemembered → Completes (.smpAddressMatch) s fun t => t = s) ∧
  (∀ (idx : BitVec 8) (x : SmpXfer) (s : State), s.domOn 1 = true → s.is (F.CLK_GATE_RUN 6) = true → s.is F.MODE_PERSONA_ACTIVE = true → 0x3F < idx.toNat → Completes
      (.forerunnerWindowAccess idx x) s fun t => t.fld F.SMP_ERR_COUNT_COUNT = min (s.fld F.SMP_ERR_COUNT_COUNT + 1) 65535 ∧ t.is F.SMP_EVENT_AERR = (s.is F.SMP_EVENT_AERR
      || s.i3c) ∧ t.out = (if s.i3c then s.out else .nack :: s.out) ∧ t.smp = s.smp ∧ s.Only [R.CLK_GATE 6, R.SMP_EVENT, R.SMP_ERR_COUNT] t) ∧
  (∀ (w : Word) (s : State), s.domOn 1 = true → s.is (F.CLK_GATE_RUN 6) = true → s.is F.MODE_PERSONA_ACTIVE = true → Completes (.forerunnerWindowAccess 0x3C (.write
      [w])) s fun t => t.smp = { s.smp with indAddr := w } ∧ t.out = s.out ∧ s.Only [R.CLK_GATE 6] t) ∧
  (∀ (s : State), s.domOn 1 = true → s.is (F.CLK_GATE_RUN 6) = true → s.is F.MODE_PERSONA_ACTIVE = true → Completes (.forerunnerWindowAccess 0x3C (.read 1)) s fun t =>
      t.out = .data .smp 0 (leBytes 4 s.smp.indAddr.toNat) :: s.out ∧ t.smp = s.smp ∧ s.Only [R.CLK_GATE 6] t) ∧
  (∀ (s : State), s.domOn 1 = true → s.is (F.CLK_GATE_RUN 6) = true → s.is F.MODE_PERSONA_ACTIVE = true → Completes (.forerunnerWindowAccess 0x3E (.read 2)) s fun t =>
      t.out = .data .smp 0 (leBytes 4 0x16080040) :: .data .smp 0 (leBytes 4 (b2n s.smp.indStat)) :: s.out ∧ t.smp = { s.smp with indStat := false } ∧ s.Only [R.CLK_GATE
      6] t) ∧
  (∀ (s : State), s.domOn 1 = true → s.is (F.CLK_GATE_RUN 6) = true → s.is F.MODE_PERSONA_ACTIVE = true → Completes (.forerunnerWindowAccess 0x3F (.read 2)) s fun t =>
      t.fld F.SMP_ERR_COUNT_COUNT = min (s.fld F.SMP_ERR_COUNT_COUNT + 1) 65535 ∧ t.is F.SMP_EVENT_AERR = (s.is F.SMP_EVENT_AERR || s.i3c) ∧ t.out = (if s.i3c then [] else
      [.nack]) ++ .data .smp 0 (leBytes 4 0x16080040) :: s.out ∧ t.smp = s.smp ∧ s.Only [R.CLK_GATE 6, R.SMP_EVENT, R.SMP_ERR_COUNT] t) ∧
  (∀ (i : Fin 4) (s : State), s.domOn 1 = true → s.is (F.CLK_GATE_RUN 6) = true → s.is F.MODE_PERSONA_ACTIVE = true → Completes (.forerunnerWindowAccess (BitVec.ofNat 8
      i) (.read 1)) s fun t => t.out = .data .smp 0 (leBytes 4 (s.rd (0x04000000 + 4 * i)).toNat) :: s.out ∧ t.smp.indAddr = s.smp.indAddr ∧ s.Only [R.CLK_GATE 6] t) ∧
  (∀ (s : State), s.domOn 1 = true → s.is (F.CLK_GATE_RUN 6) = true → s.is F.MODE_PERSONA_ACTIVE = true → Completes (.forerunnerWindowAccess 0x2E (.read 2)) s fun t =>
      t.out = .data .smp 0 (leBytes 4 (s.raw / 2 ^ 32)) :: .data .smp 0 (leBytes 4 s.raw) :: s.out ∧ s.Only [R.CLK_GATE 6] t) ∧
  (∀ (n : Fin 8) (s : State), s.domOn 1 = true → s.is (F.CLK_GATE_RUN 6) = true → s.is F.MODE_PERSONA_ACTIVE = true → s.laneOn n = true → Completes
      (.forerunnerWindowAccess (BitVec.ofNat 8 (0x08 + n.val)) (.read 1)) s fun t => t.out = .data .smp 0 (leBytes 4 (s.rd (R.LRX_STATUS n)).toNat) :: s.out ∧ s.Only
      [R.CLK_GATE 6] t) ∧
  (∀ (w v : Word) (s : State), s.domOn 1 = true → s.is (F.CLK_GATE_RUN 6) = true → s.is F.MODE_PERSONA_ACTIVE = true → w.toNat % 4 = 0 → 0x02000000 ≤ w.toNat → w.toNat
      < 0x02400000 → s.Sound w.toNat → Completes (.forerunnerWindowAccess 0x3C (.write [w, v])) s fun t => s.Stored w.toNat 4 v t ∧ t.smp =
      { s.smp with indAddr := w + 4#32 } ∧ s.Only [R.CLK_GATE 6] t) ∧
  (∀ (idx : BitVec 8) (x : SmpXfer) (s : State), s.domOn 1 = true → s.is (F.CLK_GATE_RUN 6) = true → s.is F.MODE_PERSONA_ACTIVE = false → Completes
      (.forerunnerWindowAccess idx x) s fun t => t.out = s.out ∧ t.smp = s.smp ∧ t.mem = s.mem ∧ s.Only [R.CLK_GATE 6] t) ∧
  (∀ (w : Option Word) (s : State), s.domOn 1 = true → s.is (F.CLK_GATE_RUN 6) = true → s.is F.MODE_PERSONA_ACTIVE = false → Completes (.indData w) s fun t => t.out =
      s.out ∧ t.smp = s.smp ∧ t.mem = s.mem ∧ s.Only [R.CLK_GATE 6] t) ∧
  (∀ (s : State), s.domOn 1 = true → s.is (F.CLK_GATE_RUN 6) = true → s.is F.MODE_PERSONA_ACTIVE = false → Completes (.indStatRead) s fun t => t.out = s.out ∧ t.smp =
      s.smp ∧ s.Only [R.CLK_GATE 6] t) ∧
  (∀ (s : State), s.domOn 1 = true → s.is (F.CLK_GATE_RUN 6) = true → s.is F.MODE_PERSONA_ACTIVE = true → s.smp.indAddr.toNat % 4 = 0 → 0x02000000 ≤ s.smp.indAddr.toNat
      → s.smp.indAddr.toNat < 0x02400000 → s.Sound s.smp.indAddr.toNat → Completes (.indData none) s fun t => t.out = .data .smp 0 (s.bytesAt s.smp.indAddr.toNat 4) ::
      s.out ∧ t.smp = { s.smp with indAddr := s.smp.indAddr + 4#32 } ∧ t.mem = s.mem ∧ s.Only [R.CLK_GATE 6] t) ∧
  (∀ (w : Word) (s : State), s.domOn 1 = true → s.is (F.CLK_GATE_RUN 6) = true → s.is F.MODE_PERSONA_ACTIVE = true → s.smp.indAddr.toNat % 4 = 0 → 0x02000000 ≤
      s.smp.indAddr.toNat → s.smp.indAddr.toNat < 0x02400000 → s.Sound s.smp.indAddr.toNat → Completes (.indData (some w)) s fun t => s.Stored s.smp.indAddr.toNat 4 w t ∧
      t.smp = { s.smp with indAddr := s.smp.indAddr + 4#32 } ∧ t.out = (if s.i3c then s.out else .response .smp 0 0 :: s.out) ∧ s.Only [R.CLK_GATE 6] t) ∧
  (∀ (s : State), s.domOn 1 = true → s.is (F.CLK_GATE_RUN 6) = true → s.is F.MODE_PERSONA_ACTIVE = true → regionOf s.smp.indAddr.toNat = none → Completes (.indData
      none) s fun t => t.out = .data .smp 0 (leBytes 4 0) :: s.out ∧ t.smp = { s.smp with indAddr := s.smp.indAddr + 4#32, indStat := true } ∧ s.Only [R.CLK_GATE 6] t) ∧
  (∀ (w : Word) (s : State), s.domOn 1 = true → s.is (F.CLK_GATE_RUN 6) = true → s.is F.MODE_PERSONA_ACTIVE = true → regionOf s.smp.indAddr.toNat = none → Completes
      (.indData (some w)) s fun t => t.fld F.SMP_ERR_COUNT_COUNT = min (s.fld F.SMP_ERR_COUNT_COUNT + 1) 65535 ∧ t.is F.SMP_EVENT_WERR = (s.is F.SMP_EVENT_WERR || s.i3c) ∧
      t.out = (if s.i3c then s.out else .nack :: s.out) ∧ t.smp = { s.smp with indAddr := s.smp.indAddr + 4#32, indStat := true, protErr := s.smp.protErr || s.i3c } ∧
      s.Only [R.CLK_GATE 6, R.SMP_EVENT, R.SMP_ERR_COUNT] t) ∧
  (∀ (s : State), s.domOn 1 = true → s.is (F.CLK_GATE_RUN 6) = true → s.is F.MODE_PERSONA_ACTIVE = true → Completes (.indStatRead) s fun t => t.out = .data .smp 0
      (leBytes 4 (b2n s.smp.indStat)) :: s.out ∧ t.smp = { s.smp with indStat := false } ∧ s.Only [R.CLK_GATE 6] t)

/-- An SOF sent carries the ordered set of R284 in 8b/10b, and a due step of speed follows it; one received shows the partner's speed and sleep, and after eight a step that both
ends allow is due; a step that confirms stays, one that times out goes back with SPEED_FAIL. A port up or lost is its event, told to the ring; a lost port restarts; no loss
while the partner sleeps. A sleeping transmitter wakes with its ordered set; a bad packet is counted and dropped; in TEST a port sends its pattern's bits. Where a command
finds nothing to do, nothing changes. The partner's sleep permission in the SOF and the link delay are free values (the model's). The 8b/10b code and the wake's length are
PRESUMED (log entry 101), the test patterns' generators too (log entry 97); ports, SOFs and bad packets are read as in log entry 55, code-group synchronisation as in log entry
122. (Rests on 11_management_ports.md.) -/
def Obligations.TowpathPortsComeUpAndSleep : Prop :=
  (∀ (p : Fin 2) (s : State), s.towOn = true → s.is (F.TOW_PORT_CTL_TEST p) = false → s.is (F.TOW_PORT_STAT_TX_SLEEP p) = false → s.is (F.CLK_GATE_RUN (1 + p)) = true →
      (s.port p).due = false → Completes (.sofSend p) s fun t => t.free = s.free + 1 ∧ (∃ d, t.out = .ordered p "SOF" d (codeRun (s.port p).disp (sofChars d)).1 :: s.out ∧
      d % 4 = s.ownCap ∧ d / 8 % 2 = 0 ∧ d / 16 = b2n s.isHead) ∧ { t.port p with disp := false } = { s.port p with disp := false } ∧ s.Only [] t) ∧
  (∀ (p : Fin 2) (s : State), s.towOn = true → s.is (F.TOW_PORT_CTL_TEST p) = false → s.is (F.TOW_PORT_STAT_TX_SLEEP p) = false → s.is (F.CLK_GATE_RUN (1 + p)) = true →
      (s.port p).due = true → Completes (.sofSend p) s fun t => t.free = s.free + 1 ∧ (∃ d, t.out = .ordered p "SOF" d (codeRun (s.port p).disp (sofChars d)).1 :: s.out ∧
      d % 4 = s.ownCap ∧ d / 8 % 2 = 0 ∧ d / 16 = b2n s.isHead) ∧ t.fld (F.TOW_PORT_STAT_SPEED p) = (s.fld (F.TOW_PORT_STAT_SPEED p) + 1) % 4 ∧
      { t.port p with disp := false } = { s.port p with disp := false, due := false, trying := true, good := 0 } ∧ s.Only [R.TOW_PORT_STAT p] t) ∧
  (∀ (p : Fin 2) (s : State), s.towOn = false ∨ s.is (F.TOW_PORT_CTL_TEST p) = false ∧ (s.is (F.TOW_PORT_STAT_TX_SLEEP p) = true ∨ s.is (F.CLK_GATE_RUN (1 + p)) =
      false) ∨ s.is (F.TOW_PORT_CTL_TEST p) = true ∧ s.fld (F.TOW_PORT_CTL_PRBS p) = 0 → s.IrqRemembered → Completes (.sofSend p) s fun t => t = s) ∧
  (∀ (p : Fin 2) (n : Nat) (s : State), s.towOn = true → s.is (F.TOW_PORT_CTL_TEST p) = true → n = [0, 7, 15, 31].getD (s.fld (F.TOW_PORT_CTL_PRBS p)) 0 → n ≠ 0 →
      (s.port p).prbs ≠ 0 → (s.port p).inject = false → Completes (.sofSend p) s fun t => t.out = .testBits p (prbsRun n (prbsShape n) (3200 * 2 ^ s.fld
      (F.TOW_PORT_STAT_SPEED p)) (s.port p).prbs).1 :: s.out ∧ (t.port p).prbs = (prbsRun n (prbsShape n) (3200 * 2 ^ s.fld (F.TOW_PORT_STAT_SPEED p)) (s.port p).prbs).2 ∧
      s.Only [] t) ∧
  (∀ (p : Fin 2) (d : BitVec 8) (s : State), s.portHears p = true → Completes (.sofReceive p d) s fun t => t.fld (F.TOW_PORT_STAT_PARTNER_CAP p) = d.toNat % 4 ∧ t.is
      (F.TOW_PORT_STAT_RX_SLEEP p) = (s.is (F.TOW_PORT_STAT_RX_SLEEP p) || d.getLsbD 3) ∧ (t.port p).good = min ((s.port p).good + 1) 8 ∧ (t.port p).sleepOk = d.getLsbD 2
      ∧ (t.port p).sync = !d.getLsbD 3 ∧ (t.port p).due = ((s.port p).due || decide (7 ≤ (s.port p).good ∧ (s.port p).trying = false ∧ s.is (F.TOW_PORT_STAT_SPEED_FAIL p)
      = false ∧ s.fld (F.TOW_PORT_STAT_SPEED p) < min (d.toNat % 4) s.ownCap)) ∧ t.out = s.out ∧ s.Only [R.TOW_PORT_STAT p] t) ∧
  (∀ (p : Fin 2) (d : BitVec 8) (s : State), s.portHears p = false → s.IrqRemembered → Completes (.sofReceive p d) s fun t => t = s) ∧
  (∀ (p : Fin 2) (s : State), s.towOn = true → (s.port p).trying = true → 8 ≤ (s.port p).good → Completes (.speedStepConfirm p) s fun t => (t.port p).trying = false ∧
      (t.port p).good = (s.port p).good ∧ (t.port p).due = ((s.port p).due || decide (s.is (F.TOW_PORT_STAT_SPEED_FAIL p) = false ∧ s.fld (F.TOW_PORT_STAT_SPEED p) < min
      (s.fld (F.TOW_PORT_STAT_PARTNER_CAP p)) s.ownCap)) ∧ t.out = s.out ∧ s.Only [] t) ∧
  (∀ (p : Fin 2) (s : State), s.towOn = false ∨ (s.port p).trying = false ∨ (s.port p).good < 8 → s.IrqRemembered → Completes (.speedStepConfirm p) s fun t => t = s) ∧
  (∀ (p : Fin 2) (s : State), s.towOn = true → (s.port p).trying = true → 0 < s.fld (F.TOW_PORT_STAT_SPEED p) → Completes (.speedStepTimeout p) s fun t => t.port p =
      { s.port p with trying := false, good := 0 } ∧ t.fld (F.TOW_PORT_STAT_SPEED p) = s.fld (F.TOW_PORT_STAT_SPEED p) - 1 ∧ t.is (F.TOW_PORT_STAT_SPEED_FAIL p) = true ∧
      t.out = s.out ∧ s.Only [R.TOW_PORT_STAT p] t) ∧
  (∀ (p : Fin 2) (s : State), s.towOn = false ∨ (s.port p).trying = false → s.IrqRemembered → Completes (.speedStepTimeout p) s fun t => t = s) ∧
  (∀ (p : Fin 2) (s : State), s.towOn = true → s.is (F.CLK_GATE_RUN (1 + p)) = true → s.is (F.TOW_PORT_STAT_UP p) = false → (s.isHead = false ∨ s.fld F.TOW_STAT_N = 0)
      ∧ s.isMember = false → Completes (.portUp p) s fun t => t.is (F.TOW_PORT_STAT_UP p) = true ∧ t.is (F.CLK_GATE_OPEN (1 + p)) = true ∧ bitAt (t.fld F.TOW_EVENT_BITS)
      (2 + p) = true ∧ t.out = s.out ∧ s.Only [R.TOW_PORT_STAT p, R.TOW_EVENT, R.TOW_PORT_DELAY p, R.CLK_GATE (1 + p)] t) ∧
  (∀ (p : Fin 2) (k : TowPkt) (s : State), s.towOn = true → s.is (F.CLK_GATE_RUN (1 + p)) = true → s.is (F.TOW_PORT_STAT_UP p) = false → s.isMember = true → s.is
      (F.TOW_PORT_CTL_TEST p) = false → s.carries (1 - p.val) = true → s.is (F.TOW_PORT_STAT_TX_SLEEP (1 - p.val)) = false → k = plainPkt 6 0 (s.fld F.TOW_ID_ID) 3 p.val →
      Completes (.portUp p) s fun t => t.is (F.TOW_PORT_STAT_UP p) = true ∧ bitAt (t.fld F.TOW_EVENT_BITS) (2 + p) = true ∧ t.out = s.packetOut (1 - p.val) k ++ s.out ∧
      s.Only [R.TOW_PORT_STAT p, R.TOW_EVENT, R.TOW_PORT_DELAY p, R.CLK_GATE (1 + p)] t) ∧
  (∀ (p : Fin 2) (s : State), s.towOn = false ∨ s.is (F.TOW_PORT_STAT_UP p) = true ∨ s.is (F.CLK_GATE_RUN (1 + p)) = false → s.IrqRemembered → Completes (.portUp p) s
      fun t => t = s) ∧
  (∀ (p : Fin 2) (s : State), s.towOn = true → s.is (F.TOW_PORT_STAT_RX_SLEEP p) = false → (s.isHead = false ∨ s.fld F.TOW_STAT_N = 0) ∧ s.isMember = false → Completes
      (.linkLoss p) s fun t => t.rd (R.TOW_PORT_STAT p) = 0#32 ∧ t.port p = Port.init ∧ bitAt (t.fld F.TOW_EVENT_BITS) p = (bitAt (s.fld F.TOW_EVENT_BITS) p || s.is
      (F.TOW_PORT_STAT_UP p)) ∧ t.out = s.out ∧ s.Only [R.TOW_PORT_STAT p, R.TOW_EVENT] t) ∧
  (∀ (p : Fin 2) (k : TowPkt) (s : State), s.towOn = true → s.is (F.TOW_PORT_STAT_RX_SLEEP p) = false → s.carries p = true → s.isMember = true → s.is
      (F.TOW_PORT_CTL_TEST p) = false → s.carries (1 - p.val) = true → s.is (F.TOW_PORT_STAT_TX_SLEEP (1 - p.val)) = false → k = plainPkt 6 0 (s.fld F.TOW_ID_ID) 2 p.val →
      Completes (.linkLoss p) s fun t => t.rd (R.TOW_PORT_STAT p) = 0#32 ∧ bitAt (t.fld F.TOW_EVENT_BITS) p = true ∧ t.out = s.packetOut (1 - p.val) k ++ s.out ∧ s.Only
      [R.TOW_PORT_STAT p, R.TOW_EVENT] t) ∧
  (∀ (p : Fin 2) (n : Nat) (s : State), s.is (F.TOW_PORT_STAT_RX_SLEEP p) = false → s.isHead = true → n = s.fld F.TOW_STAT_N → 2 ≤ n → n < 64 → s.tow.openEnd = false →
      s.tow.breaks = [] → s.carries 0 = true → s.carries 1 = true → Completes (.linkLoss p) s fun t => (∀ d : Fin 64, 0 < d.val → d.val < n → t.pairBit R.TOW_ROUTE_LO d =
      (p == 0)) ∧ (∀ d : Fin 64, t.pairBit R.TOW_REACH_LO d = decide (0 < d.val ∧ d.val < n)) ∧ t.is F.TOW_STAT_OPEN = true ∧ bitAt (t.fld F.TOW_EVENT_BITS) 4 = (bitAt
      (s.fld F.TOW_EVENT_BITS) 4 || !s.is F.TOW_STAT_OPEN) ∧ t.out = s.out ∧ s.Only [R.TOW_PORT_STAT p, R.TOW_EVENT, R.TOW_STAT, R.TOW_ROUTE_LO, R.TOW_ROUTE_HI,
      R.TOW_REACH_LO, R.TOW_REACH_HI] t) ∧
  (∀ (p : Fin 2) (s : State), s.towOn = false ∨ s.is (F.TOW_PORT_STAT_RX_SLEEP p) = true → s.IrqRemembered → Completes (.linkLoss p) s fun t => t = s) ∧
  (∀ (p : Fin 2) (s : State), s.carries p = true → s.is (F.TOW_PORT_CTL_SLEEP_EN p) = true → (s.port p).sleepOk = true → s.is (F.TOW_PORT_STAT_TX_SLEEP p) = false →
      Completes (.txSleep p) s fun t => t.is (F.TOW_PORT_STAT_TX_SLEEP p) = true ∧ (∃ d, t.out = .ordered p "SOF" d (codeRun (s.port p).disp (sofChars d)).1 :: s.out ∧ d %
      4 = s.ownCap ∧ d / 8 % 2 = 1 ∧ d / 16 = b2n s.isHead) ∧ s.Only [R.TOW_PORT_STAT p] t) ∧
  (∀ (p : Fin 2) (s : State), s.carries p = false ∨ s.is (F.TOW_PORT_CTL_SLEEP_EN p) = false ∨ (s.port p).sleepOk = false ∨ s.is (F.TOW_PORT_STAT_TX_SLEEP p) = true →
      s.IrqRemembered → Completes (.txSleep p) s fun t => t = s) ∧
  (∀ (p : Fin 2) (s : State), s.towOn = true → s.is (F.TOW_PORT_STAT_TX_SLEEP p) = true → Completes (.txWake p) s fun t => t.is (F.TOW_PORT_STAT_TX_SLEEP p) = false ∧
      t.out = s.wakeOrder p ++ s.out ∧ s.Only [R.TOW_PORT_STAT p] t) ∧
  (∀ (p : Fin 2) (s : State), s.towOn = false ∨ s.is (F.TOW_PORT_STAT_TX_SLEEP p) = false → s.IrqRemembered → Completes (.txWake p) s fun t => t = s) ∧
  (∀ (p : Fin 2) (s : State), s.towOn = true → Completes (.towpathRxWake p) s fun t => t.is (F.TOW_PORT_STAT_RX_SLEEP p) = false ∧ t.out = s.out ∧ s.Only
      [R.TOW_PORT_STAT p] t) ∧
  (∀ (p : Fin 2) (s : State), s.towOn = false → s.IrqRemembered → Completes (.towpathRxWake p) s fun t => t = s) ∧
  (∀ (p : Fin 2) (s : State), s.hears p = true → Completes (.towBadPacket p) s fun t => t.fld (F.TOW_PORT_CRC_COUNT p) = min (s.fld (F.TOW_PORT_CRC_COUNT p) + 1) 65535
      ∧ t.tow = s.tow ∧ t.out = s.out ∧ s.Only [R.TOW_PORT_CRC p] t) ∧
  (∀ (p : Fin 2) (s : State), s.hears p = false → s.IrqRemembered → Completes (.towBadPacket p) s fun t => t = s)

/-- A device that is not the head answers a read or write for its ID, with an error status where it cannot, and forwards any other packet with HOPS one lower; at HOPS 0, at the
head for another device, or at a port that carries none it is dropped. The head takes responses by tag, events and HELLO. ENUMERATE starts a pass; an ENUM that comes back ends
it as a closed ring, an unexpected one is a conflict; a device takes its ID from ENUM. HEAD, ENUM and SYNC are taken from 0x1 and PCIe 0x3 only. A window access by its owner
is sent as a packet and its answer, error or timeout returned; another is refused, and so (the model's choice, log 56) is a read behind an outstanding one. A SYNC is sent out
of both ports, repeated once by each device and acted on, late ones at once. What an open ring's passes found, and a SYNC's time in a device, are free values (the model's).
Rings and enumeration are read as in log entry 55, packets and windows as in log entry 56. (Rests on 11_management_ports.md, 12_clocks_power_time.md.) -/
def Obligations.TowpathPacketsAreRoutedAndAnswered : Prop :=
  (∀ (p : Fin 2) (k r : TowPkt) (s : State), s.hears p = true → s.is F.TOW_CTL_HEAD = false → s.is F.TOW_ID_VALID = true → k.dst % 64 = s.fld F.TOW_ID_ID → k.len = 4 →
      k.addr % 4 = 0 → 0x02000000 ≤ k.addr → k.addr < 0x02400000 → s.Sound k.addr → s.is (F.TOW_PORT_STAT_TX_SLEEP p) = false → r =
      { typ := 3, dst := k.src % 64, src := s.fld F.TOW_ID_ID, hops := 63, sec := k.sec, tag := k.tag, len := 4, addr := 0, stat := 0, data := s.bytesAt k.addr 4 } →
      Completes (.towRd p k) s fun t => t.out = s.packetOut p r ++ s.out ∧ t.mem = s.mem ∧ s.Only [] t) ∧
  (∀ (p : Fin 2) (k r : TowPkt) (s : State), s.hears p = true → s.is F.TOW_CTL_HEAD = false → s.is F.TOW_ID_VALID = true → k.dst % 64 = s.fld F.TOW_ID_ID → k.len % 4 =
      0 → 0 < k.len → k.len ≤ 64 → 0x02000000 ≤ k.addr → k.addr + k.len ≤ 0x02400000 → (s.memRead (busReader (.tow k.sec)) k.addr k.len).2.1 = .done → s.is
      (F.TOW_PORT_STAT_TX_SLEEP p) = false → r =
      { typ := 3, dst := k.src % 64, src := s.fld F.TOW_ID_ID, hops := 63, sec := k.sec, tag := k.tag, len := k.len, addr := 0, stat := 0, data := (s.memRead (busReader (.tow k.sec)) k.addr k.len).2.2 }
      → Completes (.towRd p k) s fun t => t.out = s.packetOut p r ++ s.out) ∧
  (∀ (p : Fin 2) (k r : TowPkt) (s : State), s.hears p = true → s.is F.TOW_CTL_HEAD = false → s.is F.TOW_ID_VALID = true → k.dst % 64 = s.fld F.TOW_ID_ID → k.len % 4 ≠
      0 ∨ 64 < k.len → s.is (F.TOW_PORT_STAT_TX_SLEEP p) = false → r =
      { typ := 3, dst := k.src % 64, src := s.fld F.TOW_ID_ID, hops := 63, sec := k.sec, tag := k.tag, len := 0, addr := 0, stat := 1, data := [] } → Completes (.towRd p
      k) s fun t => t.out = s.packetOut p r ++ s.out ∧ t.mem = s.mem ∧ s.Only [] t) ∧
  (∀ (p : Fin 2) (k r : TowPkt) (s : State), s.hears p = true → s.is F.TOW_CTL_HEAD = false → s.is F.TOW_ID_VALID = true → k.dst % 64 = s.fld F.TOW_ID_ID → k.len % 4 =
      0 → k.len ≤ 64 → regionOf k.addr = none → s.is (F.TOW_PORT_STAT_TX_SLEEP p) = false → r =
      { typ := 3, dst := k.src % 64, src := s.fld F.TOW_ID_ID, hops := 63, sec := k.sec, tag := k.tag, len := 0, addr := 0, stat := 3, data := [] } → Completes (.towRd p
      k) s fun t => t.out = s.packetOut p r ++ s.out ∧ t.mem = s.mem ∧ s.Only [] t) ∧
  (∀ (p : Fin 2) (k r : TowPkt) (v : Word) (s : State), s.hears p = true → s.is F.TOW_CTL_HEAD = false → s.is F.TOW_ID_VALID = true → k.dst % 64 = s.fld F.TOW_ID_ID →
      k.data = leBytes 4 v.toNat → k.addr % 4 = 0 → 0x02000000 ≤ k.addr → k.addr < 0x02400000 → s.Sound k.addr → s.is (F.TOW_PORT_STAT_TX_SLEEP p) = false → r =
      { typ := 4, dst := k.src % 64, src := s.fld F.TOW_ID_ID, hops := 63, sec := k.sec, tag := k.tag, len := 0, addr := 0, stat := 0, data := [] } → Completes (.towWr p
      k) s fun t => t.out = s.packetOut p r ++ s.out ∧ s.Stored k.addr 4 v t ∧ s.Only [] t) ∧
  (∀ (p : Fin 2) (k r : TowPkt) (s : State), s.hears p = true → s.is F.TOW_CTL_HEAD = false → s.is F.TOW_ID_VALID = true → k.dst % 64 = s.fld F.TOW_ID_ID →
      k.data.length % 4 ≠ 0 ∨ 64 < k.data.length → s.is (F.TOW_PORT_STAT_TX_SLEEP p) = false → r =
      { typ := 4, dst := k.src % 64, src := s.fld F.TOW_ID_ID, hops := 63, sec := k.sec, tag := k.tag, len := 0, addr := 0, stat := 1, data := [] } → Completes (.towWr p
      k) s fun t => t.out = s.packetOut p r ++ s.out ∧ t.mem = s.mem ∧ s.Only [] t) ∧
  (∀ (p : Fin 2) (k r : TowPkt) (s : State), s.hears p = true → s.is F.TOW_CTL_HEAD = false → s.is F.TOW_ID_VALID = true → k.dst % 64 = s.fld F.TOW_ID_ID →
      k.data.length % 4 = 0 → k.data.length ≤ 64 → regionOf k.addr = none → s.is (F.TOW_PORT_STAT_TX_SLEEP p) = false → r =
      { typ := 4, dst := k.src % 64, src := s.fld F.TOW_ID_ID, hops := 63, sec := k.sec, tag := k.tag, len := 0, addr := 0, stat := 3, data := [] } → Completes (.towWr p
      k) s fun t => t.out = s.packetOut p r ++ s.out ∧ t.mem = s.mem ∧ s.Only [] t) ∧
  (∀ (p : Fin 2) (k r : TowPkt) (s : State), s.hears p = true → s.is F.TOW_CTL_HEAD = false → s.carries (1 - p.val) = true → 0 < k.hops → s.is (F.TOW_PORT_STAT_TX_SLEEP
      (1 - p.val)) = false → s.is F.TOW_ID_VALID = false ∨ k.dst % 64 ≠ s.fld F.TOW_ID_ID → r = { k with typ := 1, hops := k.hops - 1 } → Completes (.towRd p k) s fun t =>
      t.out = s.packetOut (1 - p.val) r ++ s.out ∧ t.mem = s.mem ∧ t.tow.wins = s.tow.wins ∧ s.Only [] t) ∧
  (∀ (p : Fin 2) (k : TowPkt) (s : State), s.hears p = false ∨ s.is F.TOW_CTL_HEAD = false ∧ k.hops = 0 ∧ (s.is F.TOW_ID_VALID = false ∨ k.dst % 64 ≠ s.fld F.TOW_ID_ID)
      ∨ s.is F.TOW_CTL_HEAD = true → Completes (.towRd p k) s fun t => t.out = s.out ∧ t.mem = s.mem ∧ t.tow = s.tow ∧ s.Only [] t) ∧
  (∀ (p : Fin 2) (k r : TowPkt) (s : State), s.hears p = true → s.is F.TOW_CTL_HEAD = false → s.carries (1 - p.val) = true → 0 < k.hops → s.is (F.TOW_PORT_STAT_TX_SLEEP
      (1 - p.val)) = false → s.is F.TOW_ID_VALID = false ∨ k.dst % 64 ≠ s.fld F.TOW_ID_ID → r = { k with typ := 2, hops := k.hops - 1 } → Completes (.towWr p k) s fun t =>
      t.out = s.packetOut (1 - p.val) r ++ s.out ∧ t.mem = s.mem ∧ t.tow.wins = s.tow.wins ∧ s.Only [] t) ∧
  (∀ (p : Fin 2) (k : TowPkt) (s : State), s.hears p = false ∨ s.is F.TOW_CTL_HEAD = false ∧ k.hops = 0 ∧ (s.is F.TOW_ID_VALID = false ∨ k.dst % 64 ≠ s.fld F.TOW_ID_ID)
      ∨ s.is F.TOW_CTL_HEAD = true → Completes (.towWr p k) s fun t => t.out = s.out ∧ t.mem = s.mem ∧ t.tow = s.tow ∧ s.Only [] t) ∧
  (∀ (p : Fin 2) (k r : TowPkt) (s : State), s.hears p = true → s.is F.TOW_CTL_HEAD = false → s.carries (1 - p.val) = true → 0 < k.hops → s.is (F.TOW_PORT_STAT_TX_SLEEP
      (1 - p.val)) = false → r = { k with typ := 3, hops := k.hops - 1 } → Completes (.towRdRsp p k) s fun t => t.out = s.packetOut (1 - p.val) r ++ s.out ∧ t.mem = s.mem
      ∧ t.tow.wins = s.tow.wins ∧ s.Only [] t) ∧
  (∀ (p : Fin 2) (k : TowPkt) (s : State), s.hears p = false ∨ s.is F.TOW_CTL_HEAD = false ∧ k.hops = 0 ∨ s.is F.TOW_CTL_HEAD = true ∧ k.dst ≠ 0 → Completes (.towRdRsp
      p k) s fun t => t.out = s.out ∧ t.mem = s.mem ∧ t.tow = s.tow ∧ s.Only [] t) ∧
  (∀ (p : Fin 2) (k r : TowPkt) (s : State), s.hears p = true → s.is F.TOW_CTL_HEAD = false → s.carries (1 - p.val) = true → 0 < k.hops → s.is (F.TOW_PORT_STAT_TX_SLEEP
      (1 - p.val)) = false → r = { k with typ := 4, hops := k.hops - 1 } → Completes (.towWrAck p k) s fun t => t.out = s.packetOut (1 - p.val) r ++ s.out ∧ t.mem = s.mem
      ∧ t.tow.wins = s.tow.wins ∧ s.Only [] t) ∧
  (∀ (p : Fin 2) (k : TowPkt) (s : State), s.hears p = false ∨ s.is F.TOW_CTL_HEAD = false ∧ k.hops = 0 ∨ s.is F.TOW_CTL_HEAD = true ∧ k.dst ≠ 0 → Completes (.towWrAck
      p k) s fun t => t.out = s.out ∧ t.mem = s.mem ∧ t.tow = s.tow ∧ s.Only [] t) ∧
  (∀ (p : Fin 2) (k r : TowPkt) (s : State), s.hears p = true → s.is F.TOW_CTL_HEAD = false → s.carries (1 - p.val) = true → 0 < k.hops → s.is (F.TOW_PORT_STAT_TX_SLEEP
      (1 - p.val)) = false → r = { k with typ := 6, hops := k.hops - 1 } → Completes (.towEvent p k) s fun t => t.out = s.packetOut (1 - p.val) r ++ s.out ∧ t.mem = s.mem
      ∧ t.tow.wins = s.tow.wins ∧ s.Only [] t) ∧
  (∀ (p : Fin 2) (k : TowPkt) (s : State), s.hears p = false ∨ s.is F.TOW_CTL_HEAD = false ∧ k.hops = 0 ∨ s.is F.TOW_CTL_HEAD = true ∧ k.dst ≠ 0 → Completes (.towEvent
      p k) s fun t => t.out = s.out ∧ t.mem = s.mem ∧ t.tow = s.tow ∧ s.Only [] t) ∧
  (∀ (p : Fin 2) (k r : TowPkt) (s : State), s.hears p = true → s.is F.TOW_CTL_HEAD = false → s.carries (1 - p.val) = true → 0 < k.hops → s.is (F.TOW_PORT_STAT_TX_SLEEP
      (1 - p.val)) = false → r = { k with typ := 7, hops := k.hops - 1 } → Completes (.towHello p k) s fun t => t.out = s.packetOut (1 - p.val) r ++ s.out ∧ t.mem = s.mem
      ∧ t.tow.wins = s.tow.wins ∧ s.Only [] t) ∧
  (∀ (p : Fin 2) (k : TowPkt) (s : State), s.hears p = false ∨ s.is F.TOW_CTL_HEAD = false ∧ k.hops = 0 ∨ s.is F.TOW_CTL_HEAD = true ∧ k.dst ≠ 0 → Completes (.towHello
      p k) s fun t => t.out = s.out ∧ t.mem = s.mem ∧ t.tow = s.tow ∧ s.Only [] t) ∧
  (∀ (p : Fin 2) (k r : TowPkt) (s : State), s.hears p = true → s.is F.TOW_CTL_HEAD = false → s.carries (1 - p.val) = true → 0 < k.hops → s.is (F.TOW_PORT_STAT_TX_SLEEP
      (1 - p.val)) = true → r = { k with typ := 7, hops := k.hops - 1 } → Completes (.towHello p k) s fun t => t.is (F.TOW_PORT_STAT_TX_SLEEP (1 - p.val)) = false ∧ t.out
      = packetRun (s.wakeDisp (1 - p.val)) (1 - p.val) r ++ s.wakeOrder (1 - p.val) ++ s.out ∧ s.Only [R.TOW_PORT_STAT (1 - p.val)] t) ∧
  (∀ (p : Fin 2) (k : TowPkt) (s : State), s.hears p = true → s.is F.TOW_CTL_HEAD = true → k.dst = 0 → k.stat = 1 → k.src < 64 → Completes (.towEvent p k) s fun t =>
      t.pairBit R.TOW_REMOTE_IRQ_LO k.src = true ∧ t.out = s.out ∧ t.tow = s.tow ∧ s.Only [R.TOW_REMOTE_IRQ_LO, R.TOW_REMOTE_IRQ_HI] t) ∧
  (∀ (p : Fin 2) (k : TowPkt) (s : State), s.hears p = true → s.is F.TOW_CTL_HEAD = true → k.dst = 0 → k.stat = 2 ∨ k.stat = 3 → k.src < 64 → s.fld F.TOW_STAT_N = 0 →
      Completes (.towEvent p k) s fun t => t.tow.breaks = (if k.stat = 2 then [if k.addr % 2 = 0 then k.src else k.src - 1] else []) ++ s.tow.breaks.filter (fun l => l !=
      (if k.addr % 2 = 0 then k.src else k.src - 1)) ∧ t.out = s.out ∧ s.Only [] t) ∧
  (∀ (p : Fin 2) (k : TowPkt) (n l : Nat) (s : State), s.hears p = true → s.is F.TOW_CTL_HEAD = true → k.dst = 0 → k.stat = 2 → l = (if k.addr % 2 = 0 then k.src else
      k.src - 1) → n = s.fld F.TOW_STAT_N → 0 < k.src → k.src < n → n < 64 → s.towOn = true → s.tow.openEnd = false → s.tow.breaks = [] → s.carries 0 = true → s.carries 1
      = true → Completes (.towEvent p k) s fun t => (∀ d : Fin 64, 0 < d.val → d.val < n → t.pairBit R.TOW_ROUTE_LO d = decide (l < d.val)) ∧ (∀ d : Fin 64, t.pairBit
      R.TOW_REACH_LO d = decide (0 < d.val ∧ d.val < n)) ∧ t.is F.TOW_STAT_OPEN = true ∧ s.Only [R.TOW_EVENT, R.TOW_STAT, R.TOW_ROUTE_LO, R.TOW_ROUTE_HI, R.TOW_REACH_LO,
      R.TOW_REACH_HI] t) ∧
  (∀ (p : Fin 2) (k : TowPkt) (s : State), s.hears p = true → s.is F.TOW_CTL_HEAD = true → k.dst = 0 → k.stat = 0 ∨ 3 < k.stat → Completes (.towEvent p k) s fun t =>
      t.out = s.out ∧ t.tow = s.tow ∧ s.Only [] t) ∧
  (∀ (p : Fin 2) (k : TowPkt) (s : State), s.hears p = true → s.is F.TOW_CTL_HEAD = true → k.dst = 0 → Completes (.towHello p k) s fun t => bitAt (t.fld
      F.TOW_EVENT_BITS) 6 = (bitAt (s.fld F.TOW_EVENT_BITS) 6 || !s.tow.hello) ∧ t.tow = { s.tow with hello := true } ∧ t.out = s.out ∧ s.Only [R.TOW_EVENT] t) ∧
  (∀ (s : State), s.carries 0 = true → s.carries 1 = true → s.is (F.TOW_PORT_STAT_TX_SLEEP 0) = false → s.is (F.TOW_PORT_STAT_TX_SLEEP 1) = false → s.is F.TOW_CTL_HEAD
      = false → s.is F.TOW_ID_VALID = false → Completes (.helloSend) s fun t => t.out = s.packetOut 1 (plainPkt 7 0 0 0 0) ++ s.packetOut 0 (plainPkt 7 0 0 0 0) ++ s.out ∧
      s.Only [] t) ∧
  (∀ (s : State), s.towOn = false ∨ s.is F.TOW_CTL_HEAD = true ∨ s.is F.TOW_ID_VALID = true → s.IrqRemembered → Completes (.helloSend) s fun t => t = s) ∧
  (∀ (p : Fin 2) (k r : TowPkt) (s : State), s.hears p = true → s.is F.TOW_CTL_HEAD = false → s.carries (1 - p.val) = true → s.is (F.TOW_PORT_STAT_TX_SLEEP (1 - p.val))
      = false → 0 < k.hops → r = { k with typ := 5, hops := k.hops - 1, dst := (if p.val = 1 then k.dst + 1 else k.dst + 63) % 64 } → Completes (.towEnum p k) s fun t =>
      t.is F.TOW_ID_VALID = true ∧ t.fld F.TOW_ID_ID = k.dst % 64 ∧ t.out = s.packetOut (1 - p.val) r ++ s.out ∧ s.Only [R.TOW_ID] t) ∧
  (∀ (p : Fin 2) (k : TowPkt) (s : State), s.hears p = true → s.is F.TOW_CTL_HEAD = false → s.carries (1 - p.val) = false ∨ k.hops = 0 → Completes (.towEnum p k) s fun
      t => t.is F.TOW_ID_VALID = true ∧ t.fld F.TOW_ID_ID = k.dst % 64 ∧ t.out = s.out ∧ s.Only [R.TOW_ID] t) ∧
  (∀ (k : TowPkt) (s : State), s.carries 1 = true → s.is F.TOW_CTL_HEAD = true → s.is F.TOW_STAT_ENUM_BUSY = true → s.tow.pass = 1 → Completes (.towEnum 1 k) s fun t =>
      t.is F.TOW_STAT_ENUM_BUSY = false ∧ t.fld F.TOW_STAT_N = (if k.dst % 64 = 0 then 64 else k.dst % 64) ∧ t.fld F.TOW_STAT_NB = 0 ∧ t.tow.openEnd = false ∧ t.tow.breaks
      = [] ∧ t.tow.pass = 0 ∧ t.out = s.out ∧ s.Only [R.TOW_STAT, R.TOW_EVENT, R.TOW_ROUTE_LO, R.TOW_ROUTE_HI, R.TOW_REACH_LO, R.TOW_REACH_HI] t) ∧
  (∀ (k : TowPkt) (n : Nat) (s : State), s.carries 0 = true → s.carries 1 = true → s.is F.TOW_CTL_HEAD = true → s.is F.TOW_STAT_ENUM_BUSY = true → s.tow.pass = 1 → n =
      k.dst % 64 → 2 ≤ n → Completes (.towEnum 1 k) s fun t => (∀ d : Fin 64, 0 < d.val → d.val < n → t.pairBit R.TOW_ROUTE_LO d = decide (n < 2 * d.val)) ∧ (∀ d : Fin 64,
      t.pairBit R.TOW_REACH_LO d = decide (0 < d.val ∧ d.val < n)) ∧ t.is F.TOW_STAT_OPEN = false) ∧
  (∀ (k : TowPkt) (s : State), s.carries 0 = true → s.is F.TOW_CTL_HEAD = true → s.is F.TOW_STAT_ENUM_BUSY = true → s.tow.pass = 2 → Completes (.towEnum 0 k) s fun t =>
      t.is F.TOW_STAT_ENUM_BUSY = false ∧ t.fld F.TOW_STAT_NB = 63 - k.dst % 64 ∧ t.tow.openEnd = true ∧ t.is F.TOW_STAT_OPEN = true ∧ t.free = s.free + 1 ∧ t.out = s.out
      ∧ s.Only [R.TOW_STAT, R.TOW_EVENT, R.TOW_ROUTE_LO, R.TOW_ROUTE_HI, R.TOW_REACH_LO, R.TOW_REACH_HI] t) ∧
  (∀ (p : Fin 2) (k : TowPkt) (s : State), s.hears p = true → s.is F.TOW_CTL_HEAD = true → s.is F.TOW_STAT_ENUM_BUSY = false ∨ s.tow.pass + p.val ≠ 2 → Completes
      (.towEnum p k) s fun t => bitAt (t.fld F.TOW_EVENT_BITS) 7 = true ∧ t.tow = s.tow ∧ t.out = s.out ∧ s.Only [R.TOW_EVENT] t) ∧
  (∀ (p : Fin 2) (k : TowPkt) (s : State), s.hears p = false → s.IrqRemembered → Completes (.towEnum p k) s fun t => t = s) ∧
  (∀ (m : Master) (s : State), s.Reached m R.TOW_CTL → m = .supS ∨ m = .hostS → s.isHead = true → s.pins.bootSel ≠ 3 → s.is F.TOW_STAT_ENUM_BUSY = false → s.carries 0 =
      true → s.is (F.TOW_PORT_STAT_TX_SLEEP 0) = false → Completes (.enumerate m) s fun t => t.is F.TOW_STAT_ENUM_BUSY = true ∧ t.tow.pass = 1 ∧ t.tow.hello = false ∧
      t.out = .response m 0 0 :: s.packetOut 0 (plainPkt 5 1 0 0 0) ++ s.out ∧ s.Only [R.TOW_STAT, R.CLK_GATE 1] t) ∧
  (∀ (m : Master) (s : State), s.Reached m R.TOW_CTL → m = .supS ∨ m = .hostS → s.isHead = true → s.pins.bootSel ≠ 3 → s.is F.TOW_STAT_ENUM_BUSY = false → s.carries 0 =
      false → s.is (F.CLK_GATE_RUN 1) = true → Completes (.enumerate m) s fun t => t.is F.TOW_STAT_ENUM_BUSY = true ∧ t.tow.pass = 1 ∧ s.Answered m 0 t ∧ s.Only
      [R.TOW_STAT, R.CLK_GATE 1] t) ∧
  (∀ (m : Master) (s : State), s.Reached m R.TOW_CTL → m = .supS ∨ m = .hostS → s.is (F.CLK_GATE_RUN 1) = true → s.is F.TOW_CTL_HEAD = false ∨ s.pins.bootSel ≠ 3 ∧ s.is
      F.TOW_STAT_ENUM_BUSY = true → Completes (.enumerate m) s fun t => s.Answered m 0 t ∧ t.tow = s.tow ∧ s.Only [R.CLK_GATE 1] t) ∧
  (∀ (m : Master) (s : State), s.Reached m R.TOW_CTL → m = .supS ∨ m = .hostS → s.is F.TOW_CTL_HEAD = true ∧ s.pins.bootSel = 3 ∨ s.is (F.CLK_GATE_RUN 1) = false →
      Completes (.enumerate m) s fun t => s.Answered m 1 t ∧ t.tow = s.tow ∧ s.Only [] t) ∧
  (∀ (s : State), s.towOn = true → s.is F.TOW_STAT_ENUM_BUSY = true → s.tow.pass = 1 → s.carries 1 = true → s.is (F.TOW_PORT_STAT_TX_SLEEP 1) = false → Completes
      (.enumTimeout) s fun t => t.tow.pass = 2 ∧ t.is F.TOW_STAT_ENUM_BUSY = true ∧ t.out = s.packetOut 1 (plainPkt 5 63 0 1 0) ++ s.out ∧ s.Only [] t) ∧
  (∀ (s : State), s.towOn = true → s.is F.TOW_STAT_ENUM_BUSY = true → s.tow.pass ≠ 1 → Completes (.enumTimeout) s fun t => t.tow.pass = 0 ∧ t.is F.TOW_STAT_ENUM_BUSY =
      false ∧ t.tow.openEnd = true ∧ 0 < t.fld F.TOW_STAT_N ∧ t.free = s.free + 1 ∧ t.out = s.out ∧ s.Only [R.TOW_STAT, R.TOW_EVENT, R.TOW_ROUTE_LO, R.TOW_ROUTE_HI,
      R.TOW_REACH_LO, R.TOW_REACH_HI] t) ∧
  (∀ (s : State), s.towOn = false ∨ s.is F.TOW_STAT_ENUM_BUSY = false → s.IrqRemembered → Completes (.enumTimeout) s fun t => t = s) ∧
  (∀ (m : Master) (on : Bool) (s : State), s.Reached m R.TOW_CTL → m = .supS ∨ m = .hostS → on = false ∨ s.pins.bootSel ≠ 3 → Completes (.headWrite m on) s fun t =>
      s.Answered m 0 t ∧ t.is F.TOW_CTL_HEAD = on ∧ t.rd R.TOW_ID = s.rd R.TOW_ID ∧ s.Only [R.TOW_CTL] t) ∧
  (∀ (m : Master) (on : Bool) (s : State), s.Reached m R.TOW_CTL → m = .supS ∨ m = .hostS → on = true → s.pins.bootSel = 3 → Completes (.headWrite m on) s fun t =>
      s.Answered m 1 t ∧ s.Only [] t) ∧
  (∀ (m : Master) (on : Bool) (s : State), s.Reached m R.TOW_CTL → m ≠ .supS ∧ m ≠ .hostS → Completes (.headWrite m on) s fun t => s.Answered m 2 t ∧ t.tow = s.tow ∧
      s.Only [] t) ∧
  (∀ (m : Master) (s : State), s.Reached m R.TOW_CTL → m ≠ .supS ∧ m ≠ .hostS → Completes (.enumerate m) s fun t => s.Answered m 2 t ∧ t.tow = s.tow ∧ s.Only [] t) ∧
  (∀ (m : Master) (s : State), s.Reached m R.TOW_CTL → m ≠ .supS ∧ m ≠ .hostS → Completes (.syncCommand m) s fun t => s.Answered m 2 t ∧ t.tow = s.tow ∧ s.Only [] t) ∧
  (∀ (m : Master) (w : Fin 4) (off : Fin 512) (k : TowPkt) (s : State), s.Reached m (0x04010800 + 0x200 * w.val + off.val) → m.code = windowOwner w → off.val % 4 = 0 →
      off.val % 64 ≤ 60 → s.isHead = true → s.pairBit R.TOW_REACH_LO (s.fld (F.TOW_RWIN_DEV_DEV w)) = true → s.carries (s.routePort (s.fld (F.TOW_RWIN_DEV_DEV w))) = true
      → s.is (F.TOW_PORT_STAT_TX_SLEEP (s.routePort (s.fld (F.TOW_RWIN_DEV_DEV w)))) = false → s.win w = Win.init → k =
      { typ := 1, dst := s.fld (F.TOW_RWIN_DEV_DEV w), src := 0, hops := 63, sec := w.val != 2, tag := s.tow.tag, len := 4, addr := s.fld (F.TOW_RWIN_SEL_BASE w) + off.val, stat := 0, data := [] }
      → Completes (.remoteWindowAccess m w off none) s fun t => t.out = s.packetOut (s.routePort (s.fld (F.TOW_RWIN_DEV_DEV w))) k ++ s.out ∧ (t.win w).sent = [(s.tow.tag,
      ⟨s.fld (F.TOW_RWIN_SEL_BASE w) + off.val, 0x04010800 + 0x200 * w.val + off.val, 4, some (.port m), []⟩)] ∧ t.tow.tag = (s.tow.tag + 1) % 256 ∧ s.Only [] t) ∧
  (∀ (m : Master) (w : Fin 4) (off : Fin 512) (v : Word) (k : TowPkt) (s : State), s.Reached m (0x04010800 + 0x200 * w.val + off.val) → m.code = windowOwner w → off.val
      % 4 = 0 → off.val % 64 ≤ 60 → s.isHead = true → s.pairBit R.TOW_REACH_LO (s.fld (F.TOW_RWIN_DEV_DEV w)) = true → s.carries (s.routePort (s.fld (F.TOW_RWIN_DEV_DEV
      w))) = true → s.is (F.TOW_PORT_STAT_TX_SLEEP (s.routePort (s.fld (F.TOW_RWIN_DEV_DEV w)))) = false → s.win w = Win.init → k =
      { typ := 2, dst := s.fld (F.TOW_RWIN_DEV_DEV w), src := 0, hops := 63, sec := w.val != 2, tag := s.tow.tag, len := 4, addr := s.fld (F.TOW_RWIN_SEL_BASE w) + off.val, stat := 0, data := leBytes 4 v.toNat }
      → Completes (.remoteWindowAccess m w off (some v)) s fun t => t.out = .response m 0 0 :: s.packetOut (s.routePort (s.fld (F.TOW_RWIN_DEV_DEV w))) k ++ s.out ∧ (t.win
      w).sent = [(s.tow.tag, ⟨s.fld (F.TOW_RWIN_SEL_BASE w) + off.val, 0x04010800 + 0x200 * w.val + off.val, 4, none, leBytes 4 v.toNat⟩)] ∧ t.tow.tag = (s.tow.tag + 1) %
      256 ∧ s.Only [] t) ∧
  (∀ (m : Master) (w : Fin 4) (off : Fin 512) (o : WinOp) (tag : Nat) (s : State), s.Reached m (0x04010800 + 0x200 * w.val + off.val) → m.code = windowOwner w → off.val
      % 4 = 0 → off.val % 64 ≤ 60 → s.isHead = true → s.pairBit R.TOW_REACH_LO (s.fld (F.TOW_RWIN_DEV_DEV w)) = true → s.is (F.CLK_GATE_RUN (1 + s.routePort (s.fld
      (F.TOW_RWIN_DEV_DEV w)))) = true → s.win w = { sent := [(tag, o)], waiting := [] } → o.ask.isSome = true → Completes (.remoteWindowAccess m w off none) s fun t =>
      t.out = .response m 1 0 :: s.out ∧ t.tow = s.tow ∧ s.Only [] t) ∧
  (∀ (m : Master) (w : Fin 4) (off : Fin 512) (s : State), s.Reached m (0x04010800 + 0x200 * w.val + off.val) → m.code ≠ windowOwner w ∨ off.val % 4 ≠ 0 ∨ s.isHead =
      false ∨ s.pairBit R.TOW_REACH_LO (s.fld (F.TOW_RWIN_DEV_DEV w)) = false → off.val + 4 ≤ 512 → Completes (.remoteWindowAccess m w off none) s fun t => t.out =
      .response m (if m.code ≠ windowOwner w then 2 else if off.val % 4 ≠ 0 then 4 else 1) 0 :: s.out ∧ t.tow = s.tow ∧ s.Only [] t) ∧
  (∀ (m : Master) (w : Fin 4) (off : Fin 512) (v : Word) (s : State), s.Reached m (0x04010800 + 0x200 * w.val + off.val) → m.code ≠ windowOwner w ∨ off.val % 4 ≠ 0 ∨
      s.isHead = false ∨ s.pairBit R.TOW_REACH_LO (s.fld (F.TOW_RWIN_DEV_DEV w)) = false → Completes (.remoteWindowAccess m w off (some v)) s fun t => s.Answered m (if
      m.code ≠ windowOwner w then 2 else if off.val % 4 ≠ 0 then 4 else 1) t ∧ t.is (F.TOW_RWIN_STAT_ERR w) = true ∧ t.tow = s.tow ∧ s.Only [R.TOW_RWIN_STAT w] t) ∧
  (∀ (p : Fin 2) (k : TowPkt) (w : Fin 4) (o : WinOp) (m : Master) (s : State), s.hears p = true → s.is F.TOW_CTL_HEAD = true → k.dst = 0 → k.stat < 4 → s.winOf k.tag
      true = some (w.val, o) → o.ask = some (.port m) → m ≠ .smp ∧ m ≠ .supS → (s.win w).waiting = [] → Completes (.towRdRsp p k) s fun t => t.out = .data m k.stat k.data
      :: s.out ∧ t.fld (F.TOW_RWIN_STAT_STATUS w) = k.stat ∧ (t.win w).sent = (s.win w).sent.filter (fun e => e.1 != k.tag) ∧ s.Only [R.TOW_RWIN_STAT w] t) ∧
  (∀ (p : Fin 2) (k : TowPkt) (w : Fin 4) (o : WinOp) (s : State), s.hears p = true → s.is F.TOW_CTL_HEAD = true → k.dst = 0 → s.winOf k.tag false = some (w.val, o) →
      o.ask = none → (s.win w).waiting = [] → Completes (.towWrAck p k) s fun t => t.out = s.out ∧ t.fld (F.TOW_RWIN_STAT_STATUS w) = k.stat % 8 ∧ t.is
      (F.TOW_RWIN_STAT_ERR w) = (s.is (F.TOW_RWIN_STAT_ERR w) || k.stat % 4 != 0) ∧ (t.win w).sent = (s.win w).sent.filter (fun e => e.1 != k.tag) ∧ s.Only
      [R.TOW_RWIN_STAT w] t) ∧
  (∀ (p : Fin 2) (k : TowPkt) (s : State), s.hears p = true → s.is F.TOW_CTL_HEAD = true → k.dst = 0 → s.winOf k.tag true = none → Completes (.towRdRsp p k) s fun t =>
      t.out = s.out ∧ t.tow = s.tow ∧ s.Only [] t) ∧
  (∀ (p : Fin 2) (k : TowPkt) (s : State), s.hears p = true → s.is F.TOW_CTL_HEAD = true → k.dst = 0 → s.winOf k.tag false = none → Completes (.towWrAck p k) s fun t =>
      t.out = s.out ∧ t.tow = s.tow ∧ s.Only [] t) ∧
  (∀ (w : Fin 4) (tag : Nat) (o : WinOp) (rest : List (Nat × WinOp)) (s : State), s.towOn = true → s.win w = { sent := (tag, o) :: rest, waiting := [] } → o.ask = none
      → Completes (.remoteWindowTimeout w) s fun t => t.is (F.TOW_RWIN_STAT_ERR w) = true ∧ bitAt (t.fld F.TOW_EVENT_BITS) 8 = true ∧ (t.win w).sent = rest.filter (fun e
      => e.1 != tag) ∧ t.out = s.out ∧ s.Only [R.TOW_RWIN_STAT w, R.TOW_EVENT] t) ∧
  (∀ (w : Fin 4) (tag : Nat) (o : WinOp) (m : Master) (rest : List (Nat × WinOp)) (s : State), s.towOn = true → s.win w = { sent := (tag, o) :: rest, waiting := [] } →
      o.ask = some (.port m) → m ≠ .smp ∧ m ≠ .supS → Completes (.remoteWindowTimeout w) s fun t => bitAt (t.fld F.TOW_EVENT_BITS) 8 = true ∧ (t.win w).sent = rest.filter
      (fun e => e.1 != tag) ∧ t.out = .data m 1 [] :: s.out ∧ s.Only [R.TOW_EVENT] t) ∧
  (∀ (w : Fin 4) (s : State), s.towOn = false ∨ (s.win w).sent = [] → s.IrqRemembered → Completes (.remoteWindowTimeout w) s fun t => t = s) ∧
  (∀ (m : Master) (s : State), s.Reached m R.TOW_CTL → m = .supS ∨ m = .hostS → s.isHead = true → s.pins.bootSel ≠ 3 → s.carries 0 = true → s.carries 1 = true →
      Completes (.syncCommand m) s fun t => t.out = .response m 0 0 :: .ordered 1 "SYNC" ((s.tow.sent + 1) % 4) (codeRun (s.port 1).disp (syncChars 0 ((s.tow.sent + 1) %
      4))).1 :: .ordered 0 "SYNC" ((s.tow.sent + 1) % 4) (codeRun (s.port 0).disp (syncChars 0 ((s.tow.sent + 1) % 4))).1 :: s.out ∧ t.tow.syncDue = true ∧ t.tow.seen =
      some ((s.tow.sent + 1) % 4) ∧ t.tow.sent = ((s.tow.sent + 1) % 4) ∧ s.Only [R.CLK_GATE 1, R.CLK_GATE 2] t) ∧
  (∀ (m : Master) (s : State), s.Reached m R.TOW_CTL → m = .supS ∨ m = .hostS → s.is F.TOW_CTL_HEAD = false → s.is (F.CLK_GATE_RUN 1) = true → s.is (F.CLK_GATE_RUN 2) =
      true → Completes (.syncCommand m) s fun t => s.Answered m 0 t ∧ t.tow = s.tow ∧ s.Only [R.CLK_GATE 1, R.CLK_GATE 2] t) ∧
  (∀ (m : Master) (s : State), s.Reached m R.TOW_CTL → m = .supS ∨ m = .hostS → s.is F.TOW_CTL_HEAD = true ∧ s.pins.bootSel = 3 ∨ s.is (F.CLK_GATE_RUN 1) = false ∨ s.is
      (F.CLK_GATE_RUN 2) = false → Completes (.syncCommand m) s fun t => s.Answered m 1 t ∧ t.tow = s.tow ∧ s.Only [] t) ∧
  (∀ (p : Fin 2) (e : BitVec 16) (f : BitVec 8) (s : State), s.portHears p = true → s.carries (1 - p.val) = true → f.getLsbD 7 = false → s.tow.seen ≠ some (f.toNat % 4)
      → e.toNat + s.fld (F.TOW_PORT_DELAY_TICKS p) / 16 ≤ s.fld F.TOW_SYNC_CFG_LEAD → Completes (.towSync p e f) s fun t => t.tow.syncDue = true ∧ t.tow.seen = some
      (f.toNat % 4) ∧ (∃ x, t.out = .ordered (1 - p.val) "SYNC" (x % 65536 * 256 + f.toNat) (codeRun (s.port (1 - p.val)).disp (syncChars x f.toNat)).1 :: s.out ∧ e.toNat
      + s.fld (F.TOW_PORT_DELAY_TICKS p) / 16 ≤ x) ∧ s.Only [] t) ∧
  (∀ (p : Fin 2) (e : BitVec 16) (f : BitVec 8) (s : State), s.portHears p = true → s.carries (1 - p.val) = false → f.getLsbD 7 = false → s.tow.seen ≠ some (f.toNat %
      4) → e.toNat + s.fld (F.TOW_PORT_DELAY_TICKS p) / 16 ≤ s.fld F.TOW_SYNC_CFG_LEAD → Completes (.towSync p e f) s fun t => t.tow.syncDue = true ∧ t.tow.seen = some
      (f.toNat % 4) ∧ t.out = s.out ∧ s.Only [] t) ∧
  (∀ (p : Fin 2) (e : BitVec 16) (f : BitVec 8) (s : State), s.portHears p = true → f.getLsbD 7 = false → s.tow.seen ≠ some (f.toNat % 4) → s.fld F.TOW_SYNC_CFG_LEAD <
      e.toNat + s.fld (F.TOW_PORT_DELAY_TICKS p) / 16 → s.monPower = false → s.is F.TIME_CTL_SYNC_LOAD = false → Completes (.towSync p e f) s fun t => t.tow.syncDue =
      false ∧ t.tow.seen = some (f.toNat % 4) ∧ bitAt (t.fld F.TOW_EVENT_BITS) 9 = true ∧ t.is F.TIME_EVENT_SYNC = true ∧ t.rd R.TIME_SYNC_CAP_LO = s.tb.setWidth 32 ∧
      s.Only [R.TIME_SYNC_CAP_LO, R.TIME_SYNC_CAP_HI, R.TIME_EVENT, R.TOW_EVENT] t) ∧
  (∀ (p : Fin 2) (e : BitVec 16) (f : BitVec 8) (s : State), s.portHears p = false ∨ f.getLsbD 7 = true ∨ s.tow.seen = some (f.toNat % 4) → s.IrqRemembered → Completes
      (.towSync p e f) s fun t => t = s) ∧
  (∀ (s : State), s.tow.syncDue = true → s.monPower = false → s.is F.TIME_CTL_SYNC_LOAD = false → Completes (.syncAct) s fun t => t.rd R.TIME_SYNC_CAP_LO =
      s.tb.setWidth 32 ∧ t.rd R.TIME_SYNC_CAP_HI = (s.tb >>> 32).setWidth 32 ∧ t.is F.TIME_EVENT_SYNC = true ∧ t.tow.syncDue = false ∧ t.tb = s.tb ∧ t.out = s.out ∧ s.Only
      [R.TIME_SYNC_CAP_LO, R.TIME_SYNC_CAP_HI, R.TIME_EVENT] t) ∧
  (∀ (s : State), s.tow.syncDue = true → s.is F.TIME_CTL_SYNC_LOAD = true → Completes (.syncAct) s fun t => t.rd R.TIME_SYNC_CAP_LO = s.tb.setWidth 32 ∧ t.rd
      R.TIME_SYNC_CAP_HI = (s.tb >>> 32).setWidth 32 ∧ t.is F.TIME_EVENT_SYNC = true ∧ t.tow.syncDue = false ∧ t.tb = BitVec.ofNat 64 (s.pair R.TIME_SYNC_LOAD_LO) ∧ t.fld
      F.TIME_UNCERT_US = 0 ∧ t.is F.TIME_STAT_SLEPT = false) ∧
  (∀ (s : State), s.tow.syncDue = false → s.IrqRemembered → Completes (.syncAct) s fun t => t = s)

/-- An amplitude above the detector's limit for 1 us sets SIG_DET and below 40 mVppd clears it. In Dormant an enabled source records its cause as the first one, powers PD_SUP and
releases the supervisor; in the wake it records its cause; on the way into Dormant it waits; in Standby with no transition it records its cause and sets ACTIVITY; else, or
disabled, nothing follows. WAKE_N cannot be disabled: a pulse shorter than 100 ns does nothing, one of 200 ns wakes. Between the limits of a detector the outcome is free. The
wake resumes at the resume word where it is sound and in supervisor SRAM, else the power-on boot path runs. DORMANT_ENTRY of a transition to Dormant, once the ramp is done and
the lane domains are off, leaves only PD_AON powered, stops the timebase and keeps memory; a wake or (the model's reading, log entry 17) a waiting request that starts brings
PD_SUP back at once. A lane domain that is on outside the data modes powers down and its lanes lose their state; one that is off powers up with a usable lane in a data mode,
its memories filled with zero. Readings: log entries 61 (domains), 62 (sources), 63 (resume, R243 of chapter 10), 25 (the open band); the zeroed memories are R339 of chapter
13. (Rests on 12_clocks_power_time.md, 03_host_lanes.md, 04_line_receive.md, 01_operating_modes.md, 10_lane_programs_supervisor.md, 13_memory_integrity_selftest.md.) -/
def Obligations.WakeSourcesAndPowerDomains : Prop :=
  (∀ (n : Fin 8) (mv : Nat) (s : State), 100 < mv → bitAt (s.fld F.PWR_WAKE_EN_EN) n.val = false → Completes (.lrxEnergyDetect n mv) s fun t => t.is
      (F.LRX_STATUS_SIG_DET n) = true ∧ t.dorm = s.dorm ∧ t.out = s.out ∧ s.Only [R.LRX_STATUS n] t) ∧
  (∀ (n : Fin 8) (mv : Nat) (s : State), 100 < mv → s.dorm.phase = .awake → s.entering = false → s.mode ≠ 1 → Completes (.lrxEnergyDetect n mv) s fun t => t.is
      (F.LRX_STATUS_SIG_DET n) = true ∧ t.dorm = s.dorm ∧ t.out = s.out ∧ s.Only [R.LRX_STATUS n] t) ∧
  (∀ (n : Fin 8) (mv : Nat) (s : State), 100 < mv → s.dorm.phase = .awake → s.mode = 1 → s.entering = false → bitAt (s.fld F.PWR_WAKE_EN_EN) n.val = true → Completes
      (.lrxEnergyDetect n mv) s fun t => t.is (F.LRX_STATUS_SIG_DET n) = true ∧ bitAt (t.fld F.PWR_WAKE_CAUSE_SRC) n.val = true ∧ t.is F.PWR_EVENT_ACTIVITY = true ∧ t.dorm
      = s.dorm ∧ t.out = s.out ∧ s.Only [R.LRX_STATUS n, R.PWR_WAKE_CAUSE, R.PWR_EVENT] t) ∧
  (∀ (n : Fin 8) (mv : Nat) (s : State), 100 < mv → s.dorm.phase = .awake → s.entering = true → bitAt (s.fld F.PWR_WAKE_EN_EN) n.val = true → Completes
      (.lrxEnergyDetect n mv) s fun t => t.is (F.LRX_STATUS_SIG_DET n) = true ∧ bitAt (t.fld F.PWR_WAKE_CAUSE_SRC) n.val = true ∧ t.dorm = { s.dorm with pending := true }
      ∧ t.fld F.PWR_WAKE_FIRST_SRC = (if s.dorm.pending then s.fld F.PWR_WAKE_FIRST_SRC else n.val) ∧ t.out = s.out ∧ s.Only [R.LRX_STATUS n, R.PWR_WAKE_CAUSE,
      R.PWR_WAKE_FIRST] t) ∧
  (∀ (n : Fin 8) (mv : Nat) (s : State), 100 < mv → s.dorm.phase = .waking → bitAt (s.fld F.PWR_WAKE_EN_EN) n.val = true → Completes (.lrxEnergyDetect n mv) s fun t =>
      t.is (F.LRX_STATUS_SIG_DET n) = true ∧ bitAt (t.fld F.PWR_WAKE_CAUSE_SRC) n.val = true ∧ t.dorm = s.dorm ∧ t.out = s.out ∧ s.Only [R.LRX_STATUS n, R.PWR_WAKE_CAUSE]
      t) ∧
  (∀ (n : Fin 8) (mv : Nat) (s : State), 100 < mv → s.dorm.phase = .asleep → bitAt (s.fld F.PWR_WAKE_EN_EN) n.val = true → s.domOn 0 = true → Completes
      (.lrxEnergyDetect n mv) s fun t => t.is (F.LRX_STATUS_SIG_DET n) = true ∧ bitAt (t.fld F.PWR_WAKE_CAUSE_SRC) n.val = true ∧ t.fld F.PWR_WAKE_FIRST_SRC = n.val ∧ t.is
      F.PWR_WAKE_FIRST_VALID = true ∧ t.is F.PWR_EVENT_WOKE = true ∧ t.domOn 1 = true ∧ t.dorm.phase = .waking ∧ t.sup.released = true ∧ t.out = s.out) ∧
  (∀ (k : Fin 16) (mv : Nat) (s : State), 120 < mv → bitAt (s.fld F.PWR_WAKE_EN_EN) (8 + k.val) = false → Completes (.hrxEnergyDetect k mv) s fun t => t.is
      (F.HRX_STATUS_SIG_DET (16 + k)) = true ∧ t.dorm = s.dorm ∧ t.out = s.out ∧ s.Only [R.HRX_STATUS (16 + k)] t) ∧
  (∀ (k : Fin 16) (mv : Nat) (s : State), 120 < mv → s.dorm.phase = .awake → s.entering = false → s.mode ≠ 1 → Completes (.hrxEnergyDetect k mv) s fun t => t.is
      (F.HRX_STATUS_SIG_DET (16 + k)) = true ∧ t.dorm = s.dorm ∧ t.out = s.out ∧ s.Only [R.HRX_STATUS (16 + k)] t) ∧
  (∀ (k : Fin 16) (mv : Nat) (s : State), 120 < mv → s.dorm.phase = .awake → s.mode = 1 → s.entering = false → bitAt (s.fld F.PWR_WAKE_EN_EN) (8 + k.val) = true →
      Completes (.hrxEnergyDetect k mv) s fun t => t.is (F.HRX_STATUS_SIG_DET (16 + k)) = true ∧ bitAt (t.fld F.PWR_WAKE_CAUSE_SRC) (8 + k.val) = true ∧ t.is
      F.PWR_EVENT_ACTIVITY = true ∧ t.dorm = s.dorm ∧ t.out = s.out ∧ s.Only [R.HRX_STATUS (16 + k), R.PWR_WAKE_CAUSE, R.PWR_EVENT] t) ∧
  (∀ (k : Fin 16) (mv : Nat) (s : State), 120 < mv → s.dorm.phase = .awake → s.entering = true → bitAt (s.fld F.PWR_WAKE_EN_EN) (8 + k.val) = true → Completes
      (.hrxEnergyDetect k mv) s fun t => t.is (F.HRX_STATUS_SIG_DET (16 + k)) = true ∧ bitAt (t.fld F.PWR_WAKE_CAUSE_SRC) (8 + k.val) = true ∧ t.dorm =
      { s.dorm with pending := true } ∧ t.fld F.PWR_WAKE_FIRST_SRC = (if s.dorm.pending then s.fld F.PWR_WAKE_FIRST_SRC else (8 + k.val)) ∧ t.out = s.out ∧ s.Only
      [R.HRX_STATUS (16 + k), R.PWR_WAKE_CAUSE, R.PWR_WAKE_FIRST] t) ∧
  (∀ (k : Fin 16) (mv : Nat) (s : State), 120 < mv → s.dorm.phase = .waking → bitAt (s.fld F.PWR_WAKE_EN_EN) (8 + k.val) = true → Completes (.hrxEnergyDetect k mv) s
      fun t => t.is (F.HRX_STATUS_SIG_DET (16 + k)) = true ∧ bitAt (t.fld F.PWR_WAKE_CAUSE_SRC) (8 + k.val) = true ∧ t.dorm = s.dorm ∧ t.out = s.out ∧ s.Only [R.HRX_STATUS
      (16 + k), R.PWR_WAKE_CAUSE] t) ∧
  (∀ (k : Fin 16) (mv : Nat) (s : State), 120 < mv → s.dorm.phase = .asleep → bitAt (s.fld F.PWR_WAKE_EN_EN) (8 + k.val) = true → s.domOn 0 = true → Completes
      (.hrxEnergyDetect k mv) s fun t => t.is (F.HRX_STATUS_SIG_DET (16 + k)) = true ∧ bitAt (t.fld F.PWR_WAKE_CAUSE_SRC) (8 + k.val) = true ∧ t.fld F.PWR_WAKE_FIRST_SRC =
      (8 + k.val) ∧ t.is F.PWR_WAKE_FIRST_VALID = true ∧ t.is F.PWR_EVENT_WOKE = true ∧ t.domOn 1 = true ∧ t.dorm.phase = .waking ∧ t.sup.released = true ∧ t.out = s.out) ∧
  (∀ (p : Fin 2) (s : State), bitAt (s.fld F.PWR_WAKE_EN_EN) (24 + p.val) = false → Completes (.towpathEnergyDetect p) s fun t => t.dorm = s.dorm ∧ t.out = s.out ∧
      s.Only [] t) ∧
  (∀ (p : Fin 2) (s : State), s.dorm.phase = .awake → s.entering = false → s.mode ≠ 1 → Completes (.towpathEnergyDetect p) s fun t => t.dorm = s.dorm ∧ t.out = s.out ∧
      s.Only [] t) ∧
  (∀ (p : Fin 2) (s : State), s.dorm.phase = .awake → s.mode = 1 → s.entering = false → bitAt (s.fld F.PWR_WAKE_EN_EN) (24 + p.val) = true → Completes
      (.towpathEnergyDetect p) s fun t => bitAt (t.fld F.PWR_WAKE_CAUSE_SRC) (24 + p.val) = true ∧ t.is F.PWR_EVENT_ACTIVITY = true ∧ t.dorm = s.dorm ∧ t.out = s.out ∧
      s.Only [R.PWR_WAKE_CAUSE, R.PWR_EVENT] t) ∧
  (∀ (p : Fin 2) (s : State), s.dorm.phase = .awake → s.entering = true → bitAt (s.fld F.PWR_WAKE_EN_EN) (24 + p.val) = true → Completes (.towpathEnergyDetect p) s fun
      t => bitAt (t.fld F.PWR_WAKE_CAUSE_SRC) (24 + p.val) = true ∧ t.dorm = { s.dorm with pending := true } ∧ t.fld F.PWR_WAKE_FIRST_SRC = (if s.dorm.pending then s.fld
      F.PWR_WAKE_FIRST_SRC else (24 + p.val)) ∧ t.out = s.out ∧ s.Only [R.PWR_WAKE_CAUSE, R.PWR_WAKE_FIRST] t) ∧
  (∀ (p : Fin 2) (s : State), s.dorm.phase = .waking → bitAt (s.fld F.PWR_WAKE_EN_EN) (24 + p.val) = true → Completes (.towpathEnergyDetect p) s fun t => bitAt (t.fld
      F.PWR_WAKE_CAUSE_SRC) (24 + p.val) = true ∧ t.dorm = s.dorm ∧ t.out = s.out ∧ s.Only [R.PWR_WAKE_CAUSE] t) ∧
  (∀ (p : Fin 2) (s : State), s.dorm.phase = .asleep → bitAt (s.fld F.PWR_WAKE_EN_EN) (24 + p.val) = true → s.domOn 0 = true → Completes (.towpathEnergyDetect p) s fun
      t => bitAt (t.fld F.PWR_WAKE_CAUSE_SRC) (24 + p.val) = true ∧ t.fld F.PWR_WAKE_FIRST_SRC = (24 + p.val) ∧ t.is F.PWR_WAKE_FIRST_VALID = true ∧ t.is F.PWR_EVENT_WOKE
      = true ∧ t.domOn 1 = true ∧ t.dorm.phase = .waking ∧ t.sup.released = true ∧ t.out = s.out) ∧
  (∀ (ns : Nat) (s : State), 200 ≤ ns → s.dorm.phase = .awake → s.entering = false → s.mode ≠ 1 → Completes (.wakeNFall ns) s fun t => t.dorm = s.dorm ∧ t.out = s.out ∧
      s.Only [] t) ∧
  (∀ (ns : Nat) (s : State), 200 ≤ ns → s.dorm.phase = .awake → s.mode = 1 → s.entering = false → Completes (.wakeNFall ns) s fun t => t.is F.PWR_WAKE_CAUSE_PIN = true
      ∧ t.is F.PWR_EVENT_ACTIVITY = true ∧ t.dorm = s.dorm ∧ t.out = s.out ∧ s.Only [R.PWR_WAKE_CAUSE, R.PWR_EVENT] t) ∧
  (∀ (ns : Nat) (s : State), 200 ≤ ns → s.dorm.phase = .awake → s.entering = true → Completes (.wakeNFall ns) s fun t => t.is F.PWR_WAKE_CAUSE_PIN = true ∧ t.dorm =
      { s.dorm with pending := true } ∧ t.fld F.PWR_WAKE_FIRST_SRC = (if s.dorm.pending then s.fld F.PWR_WAKE_FIRST_SRC else 27) ∧ t.out = s.out ∧ s.Only
      [R.PWR_WAKE_CAUSE, R.PWR_WAKE_FIRST] t) ∧
  (∀ (ns : Nat) (s : State), 200 ≤ ns → s.dorm.phase = .waking → Completes (.wakeNFall ns) s fun t => t.is F.PWR_WAKE_CAUSE_PIN = true ∧ t.dorm = s.dorm ∧ t.out = s.out
      ∧ s.Only [R.PWR_WAKE_CAUSE] t) ∧
  (∀ (ns : Nat) (s : State), 200 ≤ ns → s.dorm.phase = .asleep → s.domOn 0 = true → Completes (.wakeNFall ns) s fun t => t.is F.PWR_WAKE_CAUSE_PIN = true ∧ t.fld
      F.PWR_WAKE_FIRST_SRC = 27 ∧ t.is F.PWR_WAKE_FIRST_VALID = true ∧ t.is F.PWR_EVENT_WOKE = true ∧ t.domOn 1 = true ∧ t.dorm.phase = .waking ∧ t.sup.released = true ∧
      t.out = s.out) ∧
  (∀ (ns : Nat) (a : Nat) (s : State), 200 ≤ ns → s.dorm.phase = .asleep → s.ecc 0x01000080 = .clean → (s.setBit F.PWR_DOM_STAT_ON 1).memGate 0x01000080 = none → a =
      leValue (s.bytesAt 0x01000080 4) → 0x01000000 ≤ a → a < 0x01800000 → s.domOn 0 = true → Completes (.wakeNFall ns) s fun t => t.sup.pc = BitVec.ofNat 32 a ∧
      t.sup.released = true ∧ t.is F.BIST_POST_STAT_DONE = s.is F.BIST_POST_STAT_DONE) ∧
  (∀ (ns : Nat) (a : Nat) (s : State), 200 ≤ ns → s.dorm.phase = .asleep → a = leValue (s.bytesAt 0x01000080 4) → ¬ (0x01000000 ≤ a ∧ a < 0x01800000) → s.domOn 0 = true
      → Completes (.wakeNFall ns) s fun t => t.sup.pc = 0#32 ∧ t.sup.released = true ∧ t.is F.BIST_POST_STAT_DONE = false) ∧
  (∀ (n : Fin 8) (mv : Nat) (s : State), mv < 40 → Completes (.lrxEnergyDetect n mv) s fun t => t.is (F.LRX_STATUS_SIG_DET n) = false ∧ t.dorm = s.dorm ∧ t.out = s.out
      ∧ s.Only [R.LRX_STATUS n] t) ∧
  (∀ (k : Fin 16) (mv : Nat) (s : State), mv < 40 → Completes (.hrxEnergyDetect k mv) s fun t => t.is (F.HRX_STATUS_SIG_DET (16 + k)) = false ∧ t.dorm = s.dorm ∧ t.out
      = s.out ∧ s.Only [R.HRX_STATUS (16 + k)] t) ∧
  (∀ (n : Fin 8) (mv : Nat) (s : State), 40 ≤ mv → mv ≤ 100 → s.dorm.phase = .awake → s.entering = false → s.mode ≠ 1 → Completes (.lrxEnergyDetect n mv) s fun t =>
      t.free = s.free + 1 ∧ t.out = s.out ∧ s.Only [R.LRX_STATUS n] t) ∧
  (∀ (k : Fin 16) (mv : Nat) (s : State), 40 ≤ mv → mv ≤ 120 → s.dorm.phase = .awake → s.entering = false → s.mode ≠ 1 → Completes (.hrxEnergyDetect k mv) s fun t =>
      t.free = s.free + 1 ∧ t.out = s.out ∧ s.Only [R.HRX_STATUS (16 + k)] t) ∧
  (∀ (ns : Nat) (s : State), 100 ≤ ns → ns < 200 → s.dorm.phase = .awake → s.entering = false → s.mode ≠ 1 → Completes (.wakeNFall ns) s fun t => t.free = s.free + 1 ∧
      t.out = s.out ∧ s.Only [] t) ∧
  (∀ (ns : Nat) (s : State), ns < 100 → s.IrqRemembered → Completes (.wakeNFall ns) s fun t => t = s) ∧
  (∀ (s : State), s.dorm.phase = .awake → s.entering = true → s.trans.ramping = false → s.fld F.PWR_DOM_STAT_ON / 4 % 4096 = 0 → s.dorm.pending = false → s.is
      F.MODE_STATUS_WAITING = false → Completes (.dormantEntry) s fun t => t.dorm.phase = .asleep ∧ t.dorm.stopped = true ∧ t.dorm.t0 = s.tb.toNat ∧ t.sup.released = false
      ∧ t.domOn 0 = s.domOn 0 ∧ (∀ d : Fin 16, t.domOn (1 + d) = false) ∧ bitsOf (t.fld F.PWR_ISO_STAT_CLAMPED) 14 3 = 7 ∧ t.mem = s.mem ∧ t.tb = s.tb ∧ t.out = s.out) ∧
  (∀ (s : State), s.dorm.phase = .awake → s.entering = true → s.trans.ramping = false → s.fld F.PWR_DOM_STAT_ON / 4 % 4096 = 0 → s.dorm.pending = true → s.is
      F.MODE_STATUS_WAITING = false → Completes (.dormantEntry) s fun t => t.dorm.phase = .waking ∧ t.dorm.pending = false ∧ t.domOn 1 = true ∧ t.sup.released = true ∧ (∀
      d : Fin 15, t.domOn (2 + d) = false) ∧ t.is F.PWR_EVENT_WOKE = true ∧ t.is F.MODE_STATUS_BUSY = false ∧ t.out = s.out) ∧
  (∀ (w : Nat) (s : State), s.dorm.phase = .awake → s.entering = true → s.trans.ramping = false → s.fld F.PWR_DOM_STAT_ON / 4 % 4096 = 0 → s.is F.MODE_STATUS_WAITING =
      true → w = s.fld F.MODE_STATUS_WAIT_TARGET → 1 ≤ w → w < 5 → Completes (.dormantEntry) s fun t => t.dorm.phase = .waking ∧ t.domOn 1 = true ∧ t.sup.released = true ∧
      t.is F.MODE_STATUS_BUSY = true ∧ t.fld F.MODE_STATUS_IN_TARGET = w ∧ t.is F.MODE_STATUS_WAITING = false ∧ (∀ d : Fin 15, t.domOn (2 + d) = false)) ∧
  (∀ (s : State), s.dorm.phase ≠ .awake ∨ s.entering = false ∨ s.trans.ramping = true ∨ s.fld F.PWR_DOM_STAT_ON / 4 % 4096 ≠ 0 → s.IrqRemembered → Completes
      (.dormantEntry) s fun t => t = s) ∧
  (∀ (d : Fin 17) (s : State), 2 ≤ d.val → d.val < 14 → s.domOn 1 = true → s.domOn d = true → s.lanesOff = true → Completes (.domainPowerDown d) s fun t => t.domOn d =
      false ∧ bitAt (t.fld F.PWR_ISO_STAT_CLAMPED) d = true ∧ (∀ e : Fin 17, e ≠ d → t.domOn e = s.domOn e) ∧ (∀ n ∈ domainLanes d, t.lane n = Lane.init ∧ t.seq n =
      Seq.init) ∧ t.mem = s.mem) ∧
  (∀ (d : Fin 17) (s : State), d.val < 2 ∨ 14 ≤ d.val ∨ s.domOn 1 = false ∨ s.domOn d = false ∨ s.lanesOff = false → s.IrqRemembered → Completes (.domainPowerDown d) s
      fun t => t = s) ∧
  (∀ (d : Fin 17) (s : State), 2 ≤ d.val → d.val < 14 → s.domOn 1 = true → s.domOn d = false → s.acting = true → (domainLanes d).any (fun n => !s.unusable n) = true →
      Completes (.domainPowerUp d) s fun t => t.domOn d = true ∧ bitAt (t.fld F.PWR_ISO_STAT_CLAMPED) d = false ∧ (∀ e : Fin 17, e ≠ d → t.domOn e = s.domOn e) ∧ (∀ n ∈
      domainLanes d, ∀ o : Fin 0x6000, t.byteAt (0x03000000 + n * 0x8000 + o) = 0#8)) ∧
  (∀ (d : Fin 17) (s : State), 14 ≤ d.val → s.domOn 1 = true → s.domOn d = false → Completes (.domainPowerUp d) s fun t => t.domOn d = true ∧ bitAt (t.fld
      F.PWR_ISO_STAT_CLAMPED) d = false ∧ (∀ e : Fin 17, e ≠ d → t.domOn e = s.domOn e) ∧ t.mem = s.mem ∧ t.out = s.out) ∧
  (∀ (d : Fin 17) (s : State), s.domOn 1 = false ∨ s.domOn d = true ∨ d.val < 14 ∧ (s.acting = false ∨ (domainLanes d).any (fun n => !s.unusable n) = false) →
      s.IrqRemembered → Completes (.domainPowerUp d) s fun t => t = s)

/-- Power-on reset, RESET_N of at least 1 us, PWR.RESET.DEVICE and the reset of a lifecycle change hold the supervisor, empty volatile memory and set their cause, the registers
that load from OTP loaded (identity, LIFE.STATE, nonce and the debug level of the lifecycle bits) and every other register of the lanes and the device standing at its reset
value (the values that the model names among them); only the first two sample the pins. PWR.RESET.SUP from 0x3 or 0x5 stops a transition and leaves the power domains, the mode
and memory outside the vector table. A PCIe reset clears the endpoint and the DMA engine and ends the host's interrupts in service, an FLR keeping the link; with PD_PCIE off
it resets the host parties alone. The fill of memory releases the supervisor where boot ROM is sound, and the self-test's result stands in its registers, its failed lanes out
of service. A reset from another master is refused, and a shorter pulse or a command that finds nothing to do changes nothing. Readings: log entries 64, 50, 66 and 121; the
parties' resets are R251 to R253 and R266 of chapter 10, the endpoint's R275 of chapter 11. (Rests on 12_clocks_power_time.md, 01_operating_modes.md,
13_memory_integrity_selftest.md, 17_lifecycle_identity.md, 10_lane_programs_supervisor.md, 11_management_ports.md.) -/
def Obligations.ResetsLeaveTheirState : Prop :=
  (∀ (v : Supplies) (frm : Bool) (boot : Fin 4) (addr : Fin 8) (s : State), 700 ≤ v.core ∧ v.core ≤ 800 ∧ 700 ≤ v.aon ∧ v.aon ≤ 800 → 870 ≤ v.ana ∧ v.ana ≤ 930 ∧ 1164 ≤
      v.hv ∧ v.hv ≤ 1236 ∧ 1710 ≤ v.io ∧ v.io ≤ 1890 → Completes (.powerOnReset v frm ⟨boot, addr⟩) s fun t => t.supply = v ∧ t.rd R.PWR_RESET_CAUSE = 1#32 ∧ t.is
      F.MODE_PERSONA_PIN = frm ∧ t.pins.bootSel = boot ∧ t.pins.addr = addr ∧ t.sup = State.reset.sup ∧ t.gpr = [] ∧ t.cregs = [] ∧ t.lanes = [] ∧ t.seqs = [] ∧ t.chans =
      [] ∧ t.dma = [] ∧ State.reset.Only [R.PWR_RESET_CAUSE, R.MODE_PERSONA, R.MODE_REQ, R.MODE_WAKE_TARGET, R.MODE_STATUS, R.LIFE_STATE, R.LIFE_DBG_STAT, R.LIFE_NONCE 0,
      R.LIFE_NONCE 1, R.LIFE_NONCE 2, R.LIFE_NONCE 3, R.IDENT_REV, R.IDENT_LOT_LO, R.IDENT_LOT_HI, R.IDENT_DIE] t ∧ t.is F.IDENT_DIE_VALID = true ∧ t.fld
      F.LIFE_DBG_STAT_LEVEL = debugLevel t.lifeBits ∧ (∀ a, 0x20000 ≤ a → inOtp a = false → t.byteAt a = 0#8) ∧ t.out = s.out) ∧
  (∀ (v : Supplies) (frm : Bool) (boot : Fin 4) (addr : Fin 8) (s : State), v.core < 640 ∨ 860 < v.core ∨ v.aon < 640 ∨ 860 < v.aon ∨ v.ana < 870 ∨ 930 < v.ana ∨ v.hv <
      1164 ∨ 1236 < v.hv ∨ v.io < 1710 ∨ 1890 < v.io → Completes (.powerOnReset v frm ⟨boot, addr⟩) s fun t => t.supply = v ∧ t.rd R.PWR_DOM_STAT = 0#32 ∧ t.rd
      R.PWR_ISO_STAT = 0x1FFFF#32 ∧ t.sup = State.reset.sup ∧ t.lanes = [] ∧ t.seqs = [] ∧ (∀ a, 0x20000 ≤ a → inOtp a = false → t.byteAt a = 0#8) ∧ t.out = s.out) ∧
  (∀ (us : Nat) (frm : Bool) (boot : Fin 4) (addr : Fin 8) (s : State), 1 ≤ us → Completes (.resetN us frm boot addr) s fun t => t.is F.PWR_RESET_CAUSE_PIN = true ∧
      t.is F.PWR_RESET_CAUSE_POR = s.is F.PWR_RESET_CAUSE_POR ∧ t.is F.MODE_PERSONA_PIN = frm ∧ t.pins.bootSel = boot ∧ t.pins.addr = addr ∧ t.sup = State.reset.sup ∧
      t.gpr = [] ∧ t.cregs = [] ∧ t.lanes = [] ∧ t.seqs = [] ∧ t.chans = [] ∧ t.dma = [] ∧ State.reset.Only [R.PWR_RESET_CAUSE, R.MODE_PERSONA, R.MODE_REQ,
      R.MODE_WAKE_TARGET, R.MODE_STATUS, R.LIFE_STATE, R.LIFE_DBG_STAT, R.LIFE_NONCE 0, R.LIFE_NONCE 1, R.LIFE_NONCE 2, R.LIFE_NONCE 3, R.IDENT_REV, R.IDENT_LOT_LO,
      R.IDENT_LOT_HI, R.IDENT_DIE] t ∧ t.is F.IDENT_DIE_VALID = true ∧ t.fld F.LIFE_DBG_STAT_LEVEL = debugLevel t.lifeBits ∧ (∀ a, 0x20000 ≤ a → inOtp a = false → t.byteAt
      a = 0#8) ∧ t.out = s.out) ∧
  (∀ (frm : Bool) (boot : Fin 4) (addr : Fin 8) (s : State), s.IrqRemembered → Completes (.resetN 0 frm boot addr) s fun t => t = s) ∧
  (∀ (m : Master) (s : State), s.Reached m R.PWR_RESET → m.code = 1 ∨ m.code = 3 ∨ m.code = 5 → Completes (.pwrResetDevice m) s fun t => t.is F.PWR_RESET_CAUSE_DEVICE =
      true ∧ t.is F.PWR_RESET_CAUSE_POR = s.is F.PWR_RESET_CAUSE_POR ∧ t.pins = s.pins ∧ t.rd R.MODE_PERSONA = s.rd R.MODE_PERSONA ∧ t.sup = State.reset.sup ∧ t.gpr = [] ∧
      t.cregs = [] ∧ t.lanes = [] ∧ t.seqs = [] ∧ t.chans = [] ∧ t.dma = [] ∧ State.reset.Only [R.PWR_RESET_CAUSE, R.MODE_PERSONA, R.MODE_REQ, R.MODE_WAKE_TARGET,
      R.MODE_STATUS, R.LIFE_STATE, R.LIFE_DBG_STAT, R.LIFE_NONCE 0, R.LIFE_NONCE 1, R.LIFE_NONCE 2, R.LIFE_NONCE 3, R.IDENT_REV, R.IDENT_LOT_LO, R.IDENT_LOT_HI,
      R.IDENT_DIE] t ∧ t.is F.IDENT_DIE_VALID = true ∧ t.fld F.LIFE_DBG_STAT_LEVEL = debugLevel t.lifeBits ∧ (∀ a, 0x20000 ≤ a → inOtp a = false → t.byteAt a = 0#8) ∧
      s.Answered m 0 t) ∧
  (∀ (m : Master) (s : State), s.Reached m R.PWR_RESET → m.code ≠ 1 → m.code ≠ 3 → m.code ≠ 5 → Completes (.pwrResetDevice m) s fun t => s.Answered m 2 t ∧ t.mem =
      s.mem ∧ t.sup = s.sup ∧ s.Only [] t) ∧
  (∀ (m : Master) (s : State), s.Reached m R.PWR_RESET → m.code ≠ 3 → m.code ≠ 5 → Completes (.pwrResetSup m) s fun t => s.Answered m 2 t ∧ t.mem = s.mem ∧ t.sup =
      s.sup ∧ s.Only [] t) ∧
  (∀ (m : Master) (s : State), s.Reached m R.PWR_RESET → m.code = 3 ∨ m.code = 5 → Completes (.pwrResetSup m) s fun t => t.is F.PWR_RESET_CAUSE_SUP = true ∧ t.is
      F.MODE_STATUS_BUSY = false ∧ t.is F.MODE_STATUS_WAITING = false ∧ t.fld F.MODE_STATUS_CURRENT = s.fld F.MODE_STATUS_CURRENT ∧ t.rd R.PWR_DOM_STAT = s.rd
      R.PWR_DOM_STAT ∧ t.sup.released = s.sup.released ∧ t.level = 0 ∧ (∀ a, ¬ (0x01000000 ≤ a ∧ a < 0x01000040) → t.byteAt a = s.byteAt a) ∧ t.out.head? = some (.response
      m 0 0)) ∧
  (∀ (kind : Fin 3) (s : State), s.domOn 1 = true → s.domOn 14 = true → Completes (.pcieReset kind) s fun t => t.is F.PCIE_EVENT_RESET = true ∧ t.dma = [] ∧ t.pcie =
      Pcie.init ∧ (∀ ch : Fin 8, t.rd (R.DMA_CH_STAT ch) = 0#32) ∧ t.is F.PCIE_STAT_LINK_UP = (decide (kind.val = 2) && s.is F.PCIE_STAT_LINK_UP) ∧ t.rd
      R.IRQ_HOST_INSERV_LO = 0#32 ∧ t.rd R.IRQ_HOST_INSERV_HI = 0#32 ∧ (t.chan 0).q = [] ∧ (t.chan 2).q = [] ∧ t.out = s.out) ∧
  (∀ (kind : Fin 3) (ch : Fin 8) (s : State), s.domOn 1 = true → s.domOn 14 = true → (∀ c : Fin 8, s.fld (F.DMA_CH_STAT_STATE c) = 1 ↔ c = ch) → dmaLocal (s.dmaChan
      ch).desc 32 = true → (s.dmaChan ch).desc % 32 = 0 → s.Sound ((s.dmaChan ch).desc + 20) → Completes (.pcieReset kind) s fun t => s.Stored ((s.dmaChan ch).desc + 20) 4
      6#32 t) ∧
  (∀ (kind : Fin 3) (s : State), s.domOn 1 = true → s.domOn 14 = false → Completes (.pcieReset kind) s fun t => t.rd R.IRQ_HOST_INSERV_LO = 0#32 ∧ t.rd
      R.IRQ_HOST_INSERV_HI = 0#32 ∧ (t.chan 0).q = [] ∧ (t.chan 2).q = [] ∧ (t.chan 1).q = (s.chan 1).q.map (fun x => (x.1, x.2 ||| 0x80000000#32)) ∧ (t.chan 3).q =
      (s.chan 3).q.map (fun x => (x.1, x.2 ||| 0x80000000#32)) ∧ t.out = s.out ∧ s.Only [R.IRQ_HOST_INSERV_LO, R.IRQ_HOST_INSERV_HI, R.MBOX_CH_STAT 0, R.MBOX_CH_STAT 2,
      R.MBOX_SRESET 0] t) ∧
  (∀ (kind : Fin 3) (s : State), s.domOn 1 = false → s.IrqRemembered → Completes (.pcieReset kind) s fun t => t = s) ∧
  (∀ (s : State), s.life.resetDue = true → Completes (.lifecycleReset) s fun t => t.is F.PWR_RESET_CAUSE_DEVICE = true ∧ t.is F.PWR_RESET_CAUSE_POR = s.is
      F.PWR_RESET_CAUSE_POR ∧ t.life.resetDue = false ∧ t.pins = s.pins ∧ t.sup = State.reset.sup ∧ t.gpr = [] ∧ t.cregs = [] ∧ t.lanes = [] ∧ t.seqs = [] ∧ t.chans = [] ∧
      t.dma = [] ∧ State.reset.Only [R.PWR_RESET_CAUSE, R.MODE_PERSONA, R.MODE_REQ, R.MODE_WAKE_TARGET, R.MODE_STATUS, R.LIFE_STATE, R.LIFE_DBG_STAT, R.LIFE_NONCE 0,
      R.LIFE_NONCE 1, R.LIFE_NONCE 2, R.LIFE_NONCE 3, R.IDENT_REV, R.IDENT_LOT_LO, R.IDENT_LOT_HI, R.IDENT_DIE] t ∧ t.is F.IDENT_DIE_VALID = true ∧ t.fld
      F.LIFE_DBG_STAT_LEVEL = debugLevel t.lifeBits ∧ (∀ a, 0x20000 ≤ a → inOtp a = false → t.byteAt a = 0#8) ∧ t.out = s.out) ∧
  (∀ (s : State), s.life.resetDue = false → s.IrqRemembered → Completes (.lifecycleReset) s fun t => t = s) ∧
  (∀ (s : State), s.domOn 1 = true → s.is F.MEMX_STAT_FILLED = false → Completes (.memoryFillComplete true) s fun t => t.is F.MEMX_STAT_FILLED = true ∧ t.sup.released =
      true ∧ t.sup.pc = 0#32 ∧ (∀ a, inSram a = true → t.byteAt a = 0#8) ∧ t.out = s.out) ∧
  (∀ (s : State), s.domOn 1 = true → s.is F.MEMX_STAT_FILLED = false → Completes (.memoryFillComplete false) s fun t => t.is F.MEMX_STAT_FILLED = true ∧ t.is
      F.BIST_POST_STAT_ROM_FAIL = true ∧ t.sup = s.sup ∧ (∀ a, inSram a = true → t.byteAt a = 0#8) ∧ bitAt (t.fld F.FAULT_DEV_ACTIVE_CLASS) 2 = true) ∧
  (∀ (rom : Bool) (s : State), s.domOn 1 = false ∨ s.is F.MEMX_STAT_FILLED = true → s.IrqRemembered → Completes (.memoryFillComplete rom) s fun t => t = s) ∧
  (∀ (r : PostResult) (s : State), s.postDue = true → Completes (.postComplete r) s fun t => t.is F.BIST_POST_STAT_DONE = true ∧ t.rd R.BIST_POST_BANKS_LO =
      r.banks.setWidth 32 ∧ t.rd R.BIST_POST_BANKS_HI = (r.banks >>> 32).setWidth 32 ∧ t.rd R.BIST_POST_LANES_LO = r.lanes.setWidth 32 ∧ t.rd R.BIST_POST_LANES_HI =
      (r.lanes >>> 32).setWidth 32 ∧ t.rd R.BIST_POST_SPARES = r.spares.setWidth 32 ∧ t.rd R.BIST_POST_SENS = r.sensors.setWidth 32 ∧ t.rd R.BIST_POST_MON =
      r.monitors.setWidth 32 ∧ t.is F.BIST_POST_STAT_LANE_FAIL = (r.lanes != 0#48 || !r.rows.isEmpty || r.rowSpares != 0#48) ∧ t.fld F.BIST_POST_STAT_TIME_US = r.us.toNat
      ∧ t.fld F.MON_FAILED_CH = r.monitors.toNat ∧ (∀ n : Fin 48, r.lanes.getLsbD n = true → t.oos n = true) ∧ (∀ c : Fin 24, r.monitors.getLsbD c = true → t.rd
      (R.MON_CH_COARSE c) = 0#32)) ∧
  (∀ (r : PostResult) (s : State), s.postDue = false → s.IrqRemembered → Completes (.postComplete r) s fun t => t = s)

/-- Each clock is judged on a count per window against its expected count: one not stable becomes so at the eighth window in a row inside the tolerance (the root only while REFCLK
is stable); a stable one is lost at a window outside twice the tolerance or at the second in a row outside the tolerance. A lost root moves the clocked domains to the FRO and
unlocks the LTX synthesisers that run from it. A window of the slow oscillator also stores its period. CLK.SRC takes the root from 0x1 only while it is stable. A trim
measurement against the reference in use sets ERR and TRIMMED; the new code is free. ROOT_WAIT_EXPIRY hands a starting transition's lanes to their ladders while the FRO drives
the domains. An idle gate with SLEEP closes; one with DEEP, or at throttle level 2, stops its dividers. A gate whose function is switched off, or goes with the way into
Dormant, and still runs an access closes by force, is logged with the initiator, and what ran behind it ends with an error. A command that finds nothing to do changes nothing.
Readings: log entries 59 (clocks) and 103 (gates); the throttle level is R373 of chapter 14, the ladders chapter 16. (Rests on 12_clocks_power_time.md, 05_line_transmit.md,
14_monitor_thermal.md, 16_faults_recovery.md.) -/
def Obligations.ClocksAndGatesAreJudgedAndClosed : Prop :=
  (∀ (count : Nat) (s : State), s.domOn 1 = true → s.is F.CLK_STAT_REF_OK = false → 7 ≤ s.clk.ref.good → 2509 ≤ count → count ≤ 2611 → Completes (.clockCheckWindow 0
      count) s fun t => t.is F.CLK_STAT_REF_OK = true ∧ t.clk.ref = ⟨8, 0⟩ ∧ t.is F.CLK_SRC_SEL = s.is F.CLK_SRC_SEL ∧ t.out = s.out ∧ s.Only [R.CLK_STAT] t) ∧
  (∀ (count : Nat) (s : State), s.domOn 1 = true → s.is F.CLK_STAT_REF_OK = false → s.clk.ref.good < 7 → 2509 ≤ count → count ≤ 2611 → Completes (.clockCheckWindow 0
      count) s fun t => t.is F.CLK_STAT_REF_OK = false ∧ t.clk.ref = ⟨s.clk.ref.good + 1, 0⟩ ∧ t.out = s.out ∧ s.Only [R.CLK_STAT] t) ∧
  (∀ (count : Nat) (s : State), s.domOn 1 = true → s.is F.CLK_STAT_REF_OK = false → count < 2509 ∨ 2611 < count → Completes (.clockCheckWindow 0 count) s fun t => t.is
      F.CLK_STAT_REF_OK = false ∧ t.clk.ref.good = 0 ∧ t.out = s.out ∧ s.Only [R.CLK_STAT] t) ∧
  (∀ (count : Nat) (s : State), s.domOn 1 = true → s.is F.CLK_STAT_REF_OK = true → 2509 ≤ count → count ≤ 2611 → Completes (.clockCheckWindow 0 count) s fun t => t.is
      F.CLK_STAT_REF_OK = true ∧ t.clk.ref.bad = 0 ∧ t.out = s.out ∧ s.Only [R.CLK_STAT] t) ∧
  (∀ (count : Nat) (s : State), s.domOn 1 = true → s.is F.CLK_STAT_REF_OK = true → s.clk.ref.bad = 0 → count < 2509 ∧ 2458 ≤ count ∨ 2611 < count ∧ count ≤ 2662 →
      Completes (.clockCheckWindow 0 count) s fun t => t.is F.CLK_STAT_REF_OK = true ∧ t.clk.ref = ⟨0, 1⟩ ∧ t.out = s.out ∧ s.Only [R.CLK_STAT] t) ∧
  (∀ (count : Nat) (s : State), s.domOn 1 = true → s.is F.CLK_STAT_REF_OK = true → count < 2458 ∨ 2662 < count ∨ 0 < s.clk.ref.bad ∧ (count < 2509 ∨ 2611 < count) →
      Completes (.clockCheckWindow 0 count) s fun t => t.is F.CLK_STAT_REF_OK = false ∧ t.is F.CLK_EVENT_REF_LOST = true ∧ t.is F.CLK_STAT_ROOT_OK = s.is
      F.CLK_STAT_ROOT_OK ∧ t.is F.CLK_SRC_SEL = s.is F.CLK_SRC_SEL ∧ t.out = s.out ∧ s.Only [R.CLK_STAT, R.CLK_EVENT] t) ∧
  (∀ (count : Nat) (s : State), s.domOn 1 = true → s.is F.CLK_STAT_ROOT_OK = false → s.is F.CLK_STAT_REF_OK = true → 7 ≤ s.clk.root.good → 40958 ≤ count → count ≤ 40962
      → Completes (.clockCheckWindow 1 count) s fun t => t.is F.CLK_STAT_ROOT_OK = true ∧ t.is F.CLK_EVENT_ROOT_STABLE = true ∧ t.clk.root = ⟨8, 0⟩ ∧ t.is F.CLK_SRC_SEL =
      s.is F.CLK_SRC_SEL ∧ t.out = s.out ∧ s.Only [R.CLK_STAT, R.CLK_EVENT] t) ∧
  (∀ (count : Nat) (s : State), s.domOn 1 = true → s.is F.CLK_STAT_ROOT_OK = false → s.is F.CLK_STAT_REF_OK = false → Completes (.clockCheckWindow 1 count) s fun t =>
      t.is F.CLK_STAT_ROOT_OK = false ∧ t.out = s.out ∧ s.Only [R.CLK_STAT] t) ∧
  (∀ (count : Nat) (s : State), s.domOn 1 = true → s.is F.CLK_STAT_ROOT_OK = false → s.clk.root.good < 7 → 40958 ≤ count → count ≤ 40962 → Completes (.clockCheckWindow
      1 count) s fun t => t.is F.CLK_STAT_ROOT_OK = false ∧ t.clk.root = ⟨s.clk.root.good + 1, 0⟩ ∧ t.out = s.out ∧ s.Only [R.CLK_STAT] t) ∧
  (∀ (count : Nat) (s : State), s.domOn 1 = true → s.is F.CLK_STAT_ROOT_OK = false → count < 40958 ∨ 40962 < count → Completes (.clockCheckWindow 1 count) s fun t =>
      t.is F.CLK_STAT_ROOT_OK = false ∧ t.clk.root.good = 0 ∧ t.out = s.out ∧ s.Only [R.CLK_STAT] t) ∧
  (∀ (count : Nat) (s : State), s.domOn 1 = true → s.is F.CLK_STAT_ROOT_OK = true → 40958 ≤ count → count ≤ 40962 → Completes (.clockCheckWindow 1 count) s fun t =>
      t.is F.CLK_STAT_ROOT_OK = true ∧ t.clk.root.bad = 0 ∧ t.out = s.out ∧ s.Only [R.CLK_STAT] t) ∧
  (∀ (count : Nat) (s : State), s.domOn 1 = true → s.is F.CLK_STAT_ROOT_OK = true → s.clk.root.bad = 0 → count < 40958 ∧ 40956 ≤ count ∨ 40962 < count ∧ count ≤ 40964 →
      Completes (.clockCheckWindow 1 count) s fun t => t.is F.CLK_STAT_ROOT_OK = true ∧ t.clk.root = ⟨0, 1⟩ ∧ t.out = s.out ∧ s.Only [R.CLK_STAT] t) ∧
  (∀ (count : Nat) (s : State), s.domOn 1 = true → s.is F.CLK_STAT_ROOT_OK = true → count < 40956 ∨ 40964 < count ∨ 0 < s.clk.root.bad ∧ (count < 40958 ∨ 40962 < count)
      → Completes (.clockCheckWindow 1 count) s fun t => t.is F.CLK_STAT_ROOT_OK = false ∧ t.is F.CLK_SRC_SEL = false ∧ t.is F.CLK_EVENT_ROOT_LOST = true ∧ (∀ n : Fin 8,
      s.domOn (2 + n) = true → s.fld (F.LTX_STATUS_FREQ_SRC (8 + n)) = 0 → t.is (F.LTX_STATUS_SYNTH_LOCK (8 + n)) = false) ∧ (∀ n : Fin 8, s.domOn (2 + n) = true → s.fld
      (F.LTX_STATUS_FREQ_SRC (8 + n)) = 0 → s.is (F.LTX_STATUS_SYNTH_LOCK (8 + n)) = true → t.is (F.LTX_EVENT_SYNTH_UNLOCK (8 + n)) = true) ∧ t.mem = s.mem ∧ t.tb = s.tb) ∧
  (∀ (count : Nat) (s : State), s.domOn 1 = true → s.is F.CLK_STAT_ROOT_OK = true → count < 40956 ∨ 40964 < count ∨ 0 < s.clk.root.bad ∧ (count < 40958 ∨ 40962 < count)
      → (∀ n : Fin 8, s.domOn (2 + n) = false ∨ s.fld (F.LTX_STATUS_FREQ_SRC (8 + n)) ≠ 0 ∨ s.is (F.LTX_STATUS_SYNTH_LOCK (8 + n)) = false) → Completes (.clockCheckWindow
      1 count) s fun t => t.is F.CLK_STAT_ROOT_OK = false ∧ t.is F.CLK_SRC_SEL = false ∧ t.is F.CLK_EVENT_ROOT_LOST = true ∧ t.out = s.out ∧ s.Only [R.CLK_STAT, R.CLK_SRC,
      R.CLK_EVENT] t) ∧
  (∀ (count : Nat) (s : State), s.domOn 1 = true → s.is F.CLK_STAT_SLOW_OK = false → 7 ≤ s.clk.slow.good → 29687500 ≤ count → count ≤ 32812500 → Completes
      (.clockCheckWindow 2 count) s fun t => t.is F.CLK_STAT_SLOW_OK = true ∧ t.fld F.TIME_SLOW_CAL_PERIOD = min (count / 64) 0xFFFFFF ∧ t.clk.slow = ⟨8, 0⟩ ∧ t.is
      F.CLK_SRC_SEL = s.is F.CLK_SRC_SEL ∧ t.out = s.out ∧ s.Only [R.CLK_STAT, R.TIME_SLOW_CAL] t) ∧
  (∀ (count : Nat) (s : State), s.domOn 1 = true → s.is F.CLK_STAT_SLOW_OK = false → s.clk.slow.good < 7 → 29687500 ≤ count → count ≤ 32812500 → Completes
      (.clockCheckWindow 2 count) s fun t => t.is F.CLK_STAT_SLOW_OK = false ∧ t.fld F.TIME_SLOW_CAL_PERIOD = min (count / 64) 0xFFFFFF ∧ t.clk.slow = ⟨s.clk.slow.good +
      1, 0⟩ ∧ t.out = s.out ∧ s.Only [R.CLK_STAT, R.TIME_SLOW_CAL] t) ∧
  (∀ (count : Nat) (s : State), s.domOn 1 = true → s.is F.CLK_STAT_SLOW_OK = false → count < 29687500 ∨ 32812500 < count → Completes (.clockCheckWindow 2 count) s fun t
      => t.is F.CLK_STAT_SLOW_OK = false ∧ t.fld F.TIME_SLOW_CAL_PERIOD = min (count / 64) 0xFFFFFF ∧ t.clk.slow.good = 0 ∧ t.out = s.out ∧ s.Only [R.CLK_STAT,
      R.TIME_SLOW_CAL] t) ∧
  (∀ (count : Nat) (s : State), s.domOn 1 = true → s.is F.CLK_STAT_SLOW_OK = true → 29687500 ≤ count → count ≤ 32812500 → Completes (.clockCheckWindow 2 count) s fun t
      => t.is F.CLK_STAT_SLOW_OK = true ∧ t.fld F.TIME_SLOW_CAL_PERIOD = min (count / 64) 0xFFFFFF ∧ t.clk.slow.bad = 0 ∧ t.out = s.out ∧ s.Only [R.CLK_STAT,
      R.TIME_SLOW_CAL] t) ∧
  (∀ (count : Nat) (s : State), s.domOn 1 = true → s.is F.CLK_STAT_SLOW_OK = true → s.clk.slow.bad = 0 → count < 29687500 ∧ 28125000 ≤ count ∨ 32812500 < count ∧ count
      ≤ 34375000 → Completes (.clockCheckWindow 2 count) s fun t => t.is F.CLK_STAT_SLOW_OK = true ∧ t.fld F.TIME_SLOW_CAL_PERIOD = min (count / 64) 0xFFFFFF ∧ t.clk.slow
      = ⟨0, 1⟩ ∧ t.out = s.out ∧ s.Only [R.CLK_STAT, R.TIME_SLOW_CAL] t) ∧
  (∀ (count : Nat) (s : State), s.domOn 1 = true → s.is F.CLK_STAT_SLOW_OK = true → count < 28125000 ∨ 34375000 < count ∨ 0 < s.clk.slow.bad ∧ (count < 29687500 ∨
      32812500 < count) → Completes (.clockCheckWindow 2 count) s fun t => t.is F.CLK_STAT_SLOW_OK = false ∧ t.fld F.TIME_SLOW_CAL_PERIOD = min (count / 64) 0xFFFFFF ∧
      t.out = s.out ∧ s.Only [R.CLK_STAT, R.TIME_SLOW_CAL] t) ∧
  (∀ (clk : Fin 3) (count : Nat) (s : State), s.domOn 1 = false → s.IrqRemembered → Completes (.clockCheckWindow clk count) s fun t => t = s) ∧
  (∀ (ref : Fin 4) (err : BitVec 16) (s : State), s.domOn 1 = true → ref.val ≠ 0 → ref.val = (if s.is F.CLK_STAT_REF_OK then 1 else if s.domOn 15 && s.is
      (F.TOW_PORT_STAT_UP 0) then 2 else if s.domOn 15 && s.is (F.TOW_PORT_STAT_UP 1) then 3 else 0) → Completes (.froTrimMeasure ref err) s fun t => t.fld
      F.CLK_FRO_TRIM_ERR = err.toNat ∧ t.is F.CLK_STAT_TRIMMED = decide (-50 ≤ err.toInt ∧ err.toInt ≤ 50) ∧ t.is F.CLK_EVENT_UNTRIMMED = (s.is F.CLK_EVENT_UNTRIMMED ||
      s.is F.CLK_STAT_TRIMMED && !t.is F.CLK_STAT_TRIMMED) ∧ t.clk.trim = some (Config.froStep s.free ((s.clk.trim.getD Config.froCode).setWidth 32 ||| (err.setWidth 32
      <<< 16))) ∧ t.free = s.free + 1 ∧ t.out = s.out ∧ s.Only [R.CLK_STAT, R.CLK_FRO_TRIM, R.CLK_EVENT] t) ∧
  (∀ (ref : Fin 4) (err : BitVec 16) (s : State), s.domOn 1 = false ∨ ref.val = 0 ∨ ref.val ≠ (if s.is F.CLK_STAT_REF_OK then 1 else if s.domOn 15 && s.is
      (F.TOW_PORT_STAT_UP 0) then 2 else if s.domOn 15 && s.is (F.TOW_PORT_STAT_UP 1) then 3 else 0) → s.IrqRemembered → Completes (.froTrimMeasure ref err) s fun t => t =
      s) ∧
  (∀ (m : Master) (root : Bool) (s : State), s.Reached m R.CLK_SRC → m.code = 1 → root = false ∨ s.is F.CLK_STAT_ROOT_OK = true → Completes (.clockSourceSelect m root)
      s fun t => s.Answered m 0 t ∧ t.is F.CLK_SRC_SEL = root ∧ s.Only [R.CLK_SRC] t) ∧
  (∀ (m : Master) (s : State), s.Reached m R.CLK_SRC → m.code = 1 → s.is F.CLK_STAT_ROOT_OK = false → Completes (.clockSourceSelect m true) s fun t => s.Answered m 1 t
      ∧ t.is F.CLK_EVENT_SRC_REFUSED = true ∧ s.Only [R.CLK_EVENT] t) ∧
  (∀ (m : Master) (root : Bool) (s : State), s.Reached m R.CLK_SRC → m.code ≠ 1 → Completes (.clockSourceSelect m root) s fun t => s.Answered m 2 t ∧ s.Only [] t) ∧
  (∀ (n : Nat) (s : State), s.is F.MODE_STATUS_BUSY = true → 2 ≤ s.fld F.MODE_STATUS_IN_TARGET → s.fld F.MODE_STATUS_IN_TARGET ≤ 5 → s.trans.ramping = false → s.is
      F.CLK_SRC_SEL = false → s.dorm.phase = .awake → n < 48 → n ∈ s.trans.waitFor → s.oos n = false → n ∉ s.trans.late → Completes (.rootWaitExpiry) s fun t =>
      t.trans.degraded = true ∧ n ∉ t.trans.waitFor ∧ t.fld F.MODE_STATUS_CURRENT = s.fld F.MODE_STATUS_CURRENT ∧ t.mem = s.mem ∧ t.tb = s.tb ∧ t.is F.CLK_SRC_SEL = false) ∧
  (∀ (k : Fin 16) (s : State), s.is F.MODE_STATUS_BUSY = true → 2 ≤ s.fld F.MODE_STATUS_IN_TARGET → s.fld F.MODE_STATUS_IN_TARGET ≤ 5 → s.trans.ramping = false → s.is
      F.CLK_SRC_SEL = false → s.dorm.phase = .awake → s.oos (16 + k) = false → s.firstFault (16 + k) → Completes (.rootWaitExpiry) s fun t => t.fld
      (F.FAULT_LADDER_LAST_CAUSE (16 + k)) = 14 ∧ t.fld (F.FAULT_LADDER_FAULTS (16 + k)) = min (s.fld (F.FAULT_LADDER_FAULTS (16 + k)) + 1) 255) ∧
  (∀ (s : State), s.is F.MODE_STATUS_BUSY = false ∨ s.fld F.MODE_STATUS_IN_TARGET < 2 ∨ 5 < s.fld F.MODE_STATUS_IN_TARGET ∨ s.trans.ramping = true ∨ s.is F.CLK_SRC_SEL
      = true → s.IrqRemembered → Completes (.rootWaitExpiry) s fun t => t = s) ∧
  (∀ (b : Fin 10) (s : State), s.domOn 1 = true → s.is (F.CLK_GATE_RUN b) = true → s.is (F.CLK_GATE_SLEEP b) = true → s.gateBusy b = false → Completes (.gateSleep b) s
      fun t => t.is (F.CLK_GATE_OPEN b) = false ∧ t.out = s.out ∧ s.Only [R.CLK_GATE b] t) ∧
  (∀ (b : Fin 10) (s : State), s.domOn 1 = false ∨ s.is (F.CLK_GATE_RUN b) = false ∨ s.is (F.CLK_GATE_SLEEP b) = false ∨ s.gateBusy b = true → s.IrqRemembered →
      Completes (.gateSleep b) s fun t => t = s) ∧
  (∀ (b : Fin 10) (s : State), s.domOn 1 = true → s.is (F.CLK_GATE_RUN b) = true → s.is (F.CLK_GATE_DEEP b) = true ∨ 2 ≤ s.fld F.THERM_STAT_LEVEL → s.gateBusy b = false
      → Completes (.gateDeepSleep b) s fun t => (∀ c : Fin 10, t.clk.deep.getLsbD c = (decide (c = b) || s.clk.deep.getLsbD c)) ∧ t.is (F.CLK_GATE_OPEN b) = (s.is
      (F.CLK_GATE_OPEN b) && !s.is (F.CLK_GATE_SLEEP b)) ∧ t.out = s.out ∧ s.Only [R.CLK_GATE b] t) ∧
  (∀ (b : Fin 10) (s : State), s.domOn 1 = false ∨ s.is (F.CLK_GATE_RUN b) = false ∨ s.is (F.CLK_GATE_DEEP b) = false ∧ s.fld F.THERM_STAT_LEVEL < 2 ∨ s.gateBusy b =
      true → s.IrqRemembered → Completes (.gateDeepSleep b) s fun t => t = s) ∧
  (∀ (b : Fin 10) (m : Master) (s : State), s.domOn 1 = true → s.is (F.CLK_GATE_RUN b) = false ∨ s.entering = true → s.midAccess b = true → s.is (F.CLK_GATE_OPEN b) =
      true → Completes (.gateQuiesceTimeout b m) s fun t => t.is (F.CLK_GATE_OPEN b) = false ∧ t.fld F.CLK_FORCE_LOG_GATE = b ∧ t.fld F.CLK_FORCE_LOG_MASTER = m.holder ∧
      t.fld F.CLK_FORCE_LOG_COUNT = min (s.fld F.CLK_FORCE_LOG_COUNT + 1) 65535 ∧ t.is F.CLK_EVENT_FORCED = true ∧ t.tb = s.tb) ∧
  (∀ (m : Master) (s : State), s.domOn 1 = true → s.is (F.CLK_GATE_RUN 5) = false ∨ s.entering = true → s.midAccess 5 = true → s.is (F.CLK_GATE_OPEN 5) = true →
      Completes (.gateQuiesceTimeout 5 m) s fun t => t.is (F.CLK_GATE_OPEN 5) = false ∧ t.fld F.CLK_FORCE_LOG_GATE = 5 ∧ t.fld F.CLK_FORCE_LOG_MASTER = m.holder ∧ t.fld
      F.CLK_FORCE_LOG_COUNT = min (s.fld F.CLK_FORCE_LOG_COUNT + 1) 65535 ∧ t.is F.CLK_EVENT_FORCED = true ∧ s.Answered m 1 t ∧ t.is F.FLASH_STAT_BUSY = false ∧ t.fld
      F.FLASH_STAT_CODE = s.fld F.FLASH_STAT_CODE ∧ t.is F.FLASH_STAT_DONE = (s.is F.FLASH_STAT_DONE || s.is F.FLASH_STAT_BUSY) ∧ s.Only [R.CLK_GATE 5, R.CLK_FORCE_LOG,
      R.CLK_EVENT, R.FLASH_STAT] t) ∧
  (∀ (m : Master) (s : State), s.domOn 1 = true → s.is (F.CLK_GATE_RUN 9) = false ∨ s.entering = true → s.midAccess 9 = true → s.is (F.CLK_GATE_OPEN 9) = true →
      Completes (.gateQuiesceTimeout 9 m) s fun t => t.is (F.CLK_GATE_OPEN 9) = false ∧ t.fld F.CLK_FORCE_LOG_GATE = 9 ∧ t.fld F.CLK_FORCE_LOG_MASTER = m.holder ∧ t.fld
      F.CLK_FORCE_LOG_COUNT = min (s.fld F.CLK_FORCE_LOG_COUNT + 1) 65535 ∧ t.is F.CLK_EVENT_FORCED = true ∧ s.Answered m 1 t ∧ (∀ i : Fin 4, t.is (F.TIME_GT_CTL_ARMED i)
      = false) ∧ (∀ i : Fin 4, t.is (F.TIME_GT_CTL_FIRED i) = s.is (F.TIME_GT_CTL_FIRED i)) ∧ s.Only [R.CLK_GATE 9, R.CLK_FORCE_LOG, R.CLK_EVENT, R.TIME_GT_CTL 0,
      R.TIME_GT_CTL 1, R.TIME_GT_CTL 2, R.TIME_GT_CTL 3] t) ∧
  (∀ (m : Master) (s : State), s.domOn 1 = true → s.is (F.CLK_GATE_RUN 8) = false ∨ s.entering = true → s.midAccess 8 = true → s.is (F.CLK_GATE_OPEN 8) = true →
      Completes (.gateQuiesceTimeout 8 m) s fun t => t.is (F.CLK_GATE_OPEN 8) = false ∧ t.fld F.CLK_FORCE_LOG_GATE = 8 ∧ t.fld F.CLK_FORCE_LOG_MASTER = m.holder ∧ t.fld
      F.CLK_FORCE_LOG_COUNT = min (s.fld F.CLK_FORCE_LOG_COUNT + 1) 65535 ∧ t.is F.CLK_EVENT_FORCED = true ∧ t.out.head? = some (.response m 1 0) ∧ (∀ c : Fin 8, t.fld
      (F.DMA_CH_STAT_STATE c) = (if s.fld (F.DMA_CH_STAT_STATE c) = 1 then 2 else s.fld (F.DMA_CH_STAT_STATE c))) ∧ (∀ c : Fin 8, s.fld (F.DMA_CH_STAT_STATE c) = 1 → t.fld
      (F.DMA_CH_STAT_CODE c) = 6)) ∧
  (∀ (p : Fin 2) (m : Master) (s : State), s.domOn 1 = true → s.domOn 15 = true → s.is (F.CLK_GATE_RUN (1 + p)) = false ∨ s.entering = true → s.midAccess (1 + p) = true
      → s.is (F.CLK_GATE_OPEN (1 + p)) = true → Completes (.gateQuiesceTimeout (1 + p.castLE (by decide)) m) s fun t => t.rd (R.TOW_PORT_STAT p) = 0#32 ∧ t.port p =
      Port.init ∧ bitAt (t.fld F.TOW_EVENT_BITS) p = true ∧ (∀ w : Fin 4, s.winVia p w = true → (t.win w).sent = [] ∧ (t.win w).waiting = []) ∧ (∀ w : Fin 4, s.winVia p w
      = true → ∀ e ∈ (s.win w).sent, e.2.ask = none → t.is (F.TOW_RWIN_STAT_ERR w) = true) ∧ (∀ w : Fin 4, s.winVia p w = true → ∀ e ∈ (s.win w).sent, e.2.ask = some
      (.port .hostS) → .data .hostS 1 [] ∈ t.out)) ∧
  (∀ (b : Fin 10) (m : Master) (s : State), s.domOn 1 = false ∨ s.is (F.CLK_GATE_RUN b) = true ∧ s.entering = false ∨ s.is (F.CLK_GATE_OPEN b) = false ∨ s.midAccess b =
      false → s.IrqRemembered → Completes (.gateQuiesceTimeout b m) s fun t => t = s)

/-- The restart in the wake adds the sleep of S periods to the value kept at the entry, an exact half rounded upward, and grows the uncertainty; a full sleep counter saturates it.
The uncertainty grows at the end of a period on the FRO, not on the root. A read of the low word latches the high word for that master alone. A load and UNCERT_CLR are taken
from 0x1 and 0x3, other masters are refused. Whenever a restart or a load moves the timebase forwards it fires once every armed timer whose value it reaches or passes;
backwards it fires none. A pulse of the chosen polarity at the claimed ball is captured, one within 0.5 s of the last accepted one is flagged only. ARM is accepted from the
claim's holder while the timers' gate runs: a value already passed fires at once; else a claim error or an error follows. A timer fires once the timebase has reached its
compare value. A command that finds nothing to do changes nothing. Readings: log entry 60. (Rests on 12_clocks_power_time.md, 01_operating_modes.md.) -/
def Obligations.TimebaseAndTimersFollowTheirRules : Prop :=
  (∀ (n : BitVec 32) (s : State), s.dorm.phase = .waking → s.dorm.stopped = true → n ≠ 0xFFFFFFFF#32 → (∀ i : Fin 4, s.is (F.TIME_GT_CTL_ARMED i) = false) → Completes
      (.timebaseRestart n) s fun t => t.tb = BitVec.ofNat 64 (s.dorm.t0 + (2 * n.toNat * s.dorm.period * 25 + 512) / 1024) ∧ t.fld F.TIME_SLEEP_LAST_COUNT = n.toNat ∧ t.is
      F.TIME_STAT_SLEPT = true ∧ t.is F.TIME_EVENT_WOKE = true ∧ t.dorm.stopped = false ∧ t.dorm.phase = .waking ∧ t.out = s.out ∧ t.fld F.TIME_UNCERT_US = min (s.fld
      F.TIME_UNCERT_US + (2 * n.toNat * s.dorm.period + 100 * s.dorm.period + 1599999) / 1600000) 0xFFFFFFFF ∧ t.is F.TIME_STAT_SLEEP_OVF = s.is F.TIME_STAT_SLEEP_OVF ∧
      s.Only [R.TIME_SLEEP_LAST, R.TIME_STAT, R.TIME_EVENT, R.TIME_UNCERT] t) ∧
  (∀ (n : BitVec 32) (s : State), s.dorm.phase = .waking → s.dorm.stopped = true → s.tb.toNat ≤ (BitVec.ofNat 64 (s.dorm.t0 + (2 * n.toNat * s.dorm.period * 25 + 512) /
      1024)).toNat → Completes (.timebaseRestart n) s fun t => t.tb = BitVec.ofNat 64 (s.dorm.t0 + (2 * n.toNat * s.dorm.period * 25 + 512) / 1024) ∧ t.fld
      F.TIME_SLEEP_LAST_COUNT = n.toNat ∧ t.is F.TIME_STAT_SLEPT = true ∧ t.is F.TIME_EVENT_WOKE = true ∧ t.dorm.stopped = false ∧ t.dorm.phase = .waking ∧ t.out = s.out ∧
      (∀ i : Fin 4, s.is (F.TIME_GT_CTL_ARMED i) = true → s.gtCmp i ≤ t.tb.toNat → t.is (F.TIME_GT_CTL_ARMED i) = false ∧ t.is (F.TIME_GT_CTL_FIRED i) = true ∧ bitAt
      (t.fld F.TIME_EVENT_GT) i = true) ∧ (∀ i : Fin 4, (s.is (F.TIME_GT_CTL_ARMED i) = false ∨ t.tb.toNat < s.gtCmp i) → t.is (F.TIME_GT_CTL_ARMED i) = s.is
      (F.TIME_GT_CTL_ARMED i) ∧ t.is (F.TIME_GT_CTL_FIRED i) = s.is (F.TIME_GT_CTL_FIRED i)) ∧ s.Only [R.TIME_SLEEP_LAST, R.TIME_STAT, R.TIME_UNCERT, R.TIME_GT_CTL 0,
      R.TIME_GT_CTL 1, R.TIME_GT_CTL 2, R.TIME_GT_CTL 3, R.TIME_EVENT, R.CLK_GATE 9] t) ∧
  (∀ (s : State), s.dorm.phase = .waking → s.dorm.stopped = true → Completes (.timebaseRestart 0xFFFFFFFF#32) s fun t => t.fld F.TIME_UNCERT_US = 0xFFFFFFFF ∧ t.is
      F.TIME_STAT_SLEEP_OVF = true ∧ t.dorm.stopped = false ∧ t.fld F.TIME_SLEEP_LAST_COUNT = 0xFFFFFFFF ∧ t.tb = BitVec.ofNat 64 (s.dorm.t0 + (2 * 0xFFFFFFFF *
      s.dorm.period * 25 + 512) / 1024)) ∧
  (∀ (n : BitVec 32) (s : State), s.dorm.phase ≠ .waking ∨ s.dorm.stopped = false → s.IrqRemembered → Completes (.timebaseRestart n) s fun t => t = s) ∧
  (∀ (s : State), s.domOn 1 = true → Completes (.uncertStep) s fun t => t.fld F.TIME_UNCERT_US = (if s.is F.CLK_SRC_SEL then s.fld F.TIME_UNCERT_US else min (s.fld
      F.TIME_UNCERT_US + 1) 4294967295) ∧ t.out = s.out ∧ s.Only [R.TIME_UNCERT] t) ∧
  (∀ (s : State), s.domOn 1 = false → s.IrqRemembered → Completes (.uncertStep) s fun t => t = s) ∧
  (∀ (m : Master) (s : State), s.Reached m R.TIME_TB_LO → Completes (.timebaseRead m) s fun t => s.Returned m 0 (s.tb.setWidth 32) t ∧ t.tbHigh (latchKey m) = (s.tb >>>
      32).setWidth 32 ∧ (∀ j : Fin 64, j.val ≠ latchKey m → t.tbHigh j = s.tbHigh j) ∧ t.tb = s.tb ∧ s.Only [] t) ∧
  (∀ (m : Master) (s : State), s.Reached m R.TIME_CTL → m.code = 1 ∨ m.code = 3 → (s.rd R.TIME_SYNC_LOAD_HI ++ s.rd R.TIME_SYNC_LOAD_LO).toNat < s.tb.toNat ∨ (∀ i : Fin
      4, s.is (F.TIME_GT_CTL_ARMED i) = false) → Completes (.timebaseLoad m) s fun t => s.Answered m 0 t ∧ t.tb = s.rd R.TIME_SYNC_LOAD_HI ++ s.rd R.TIME_SYNC_LOAD_LO ∧
      t.fld F.TIME_UNCERT_US = 0 ∧ t.is F.TIME_STAT_SLEEP_OVF = false ∧ t.is F.TIME_STAT_SLEPT = false ∧ s.Only [R.TIME_UNCERT, R.TIME_STAT] t) ∧
  (∀ (m : Master) (s : State), s.Reached m R.TIME_CTL → m.code = 1 ∨ m.code = 3 → s.tb.toNat ≤ (s.rd R.TIME_SYNC_LOAD_HI ++ s.rd R.TIME_SYNC_LOAD_LO).toNat → Completes
      (.timebaseLoad m) s fun t => s.Answered m 0 t ∧ t.tb = s.rd R.TIME_SYNC_LOAD_HI ++ s.rd R.TIME_SYNC_LOAD_LO ∧ t.fld F.TIME_UNCERT_US = 0 ∧ t.is F.TIME_STAT_SLEEP_OVF
      = false ∧ t.is F.TIME_STAT_SLEPT = false ∧ (∀ i : Fin 4, s.is (F.TIME_GT_CTL_ARMED i) = true → s.gtCmp i ≤ t.tb.toNat → t.is (F.TIME_GT_CTL_ARMED i) = false ∧ t.is
      (F.TIME_GT_CTL_FIRED i) = true ∧ bitAt (t.fld F.TIME_EVENT_GT) i = true) ∧ (∀ i : Fin 4, (s.is (F.TIME_GT_CTL_ARMED i) = false ∨ t.tb.toNat < s.gtCmp i) → t.is
      (F.TIME_GT_CTL_ARMED i) = s.is (F.TIME_GT_CTL_ARMED i) ∧ t.is (F.TIME_GT_CTL_FIRED i) = s.is (F.TIME_GT_CTL_FIRED i)) ∧ s.Only [R.TIME_UNCERT, R.TIME_STAT,
      R.TIME_GT_CTL 0, R.TIME_GT_CTL 1, R.TIME_GT_CTL 2, R.TIME_GT_CTL 3, R.TIME_EVENT, R.CLK_GATE 9] t) ∧
  (∀ (m : Master) (s : State), s.Reached m R.TIME_CTL → m.code ≠ 1 → m.code ≠ 3 → Completes (.timebaseLoad m) s fun t => s.Answered m 2 t ∧ t.tb = s.tb ∧ s.Only [] t) ∧
  (∀ (m : Master) (s : State), s.Reached m R.TIME_CTL → m.code = 1 ∨ m.code = 3 → Completes (.uncertClr m) s fun t => s.Answered m 0 t ∧ t.fld F.TIME_UNCERT_US = 0 ∧
      t.is F.TIME_STAT_SLEEP_OVF = false ∧ t.is F.TIME_STAT_SLEPT = s.is F.TIME_STAT_SLEPT ∧ t.tb = s.tb ∧ s.Only [R.TIME_UNCERT, R.TIME_STAT] t) ∧
  (∀ (m : Master) (s : State), s.Reached m R.TIME_CTL → m.code ≠ 1 → m.code ≠ 3 → Completes (.uncertClr m) s fun t => s.Answered m 2 t ∧ t.tb = s.tb ∧ s.Only [] t) ∧
  (∀ (rising : Bool) (s : State), s.claimUse 0 = 2 → s.domOn 1 = true → rising = !s.is F.TIME_CTL_PPS_EDGE → s.clk.ppsAt = none → Completes (.ppsEdge rising) s fun t =>
      t.rd R.TIME_PPS_CAP_LO = s.tb.setWidth 32 ∧ t.rd R.TIME_PPS_CAP_HI = (s.tb >>> 32).setWidth 32 ∧ t.is F.TIME_EVENT_PPS = true ∧ t.clk.ppsAt = some s.clock ∧ t.tb =
      s.tb ∧ t.out = s.out ∧ s.Only [R.TIME_PPS_CAP_LO, R.TIME_PPS_CAP_HI, R.TIME_EVENT] t) ∧
  (∀ (rising : Bool) (s : State) (at' : Nat), s.claimUse 0 = 2 → s.domOn 1 = true → rising = !s.is F.TIME_CTL_PPS_EDGE → s.clk.ppsAt = some at' → at' + 390625000 ≤
      s.clock → Completes (.ppsEdge rising) s fun t => t.rd R.TIME_PPS_CAP_LO = s.tb.setWidth 32 ∧ t.rd R.TIME_PPS_CAP_HI = (s.tb >>> 32).setWidth 32 ∧ t.is
      F.TIME_EVENT_PPS = true ∧ t.clk.ppsAt = some s.clock ∧ t.tb = s.tb ∧ t.out = s.out ∧ s.Only [R.TIME_PPS_CAP_LO, R.TIME_PPS_CAP_HI, R.TIME_EVENT] t) ∧
  (∀ (rising : Bool) (s : State) (at' : Nat), s.claimUse 0 = 2 → s.domOn 1 = true → rising = !s.is F.TIME_CTL_PPS_EDGE → s.clk.ppsAt = some at' → s.clock < at' +
      390625000 → Completes (.ppsEdge rising) s fun t => t.is F.TIME_EVENT_PPS_EXTRA = true ∧ t.clk = s.clk ∧ t.out = s.out ∧ s.Only [R.TIME_EVENT] t) ∧
  (∀ (rising : Bool) (s : State), s.claimUse 0 ≠ 2 ∨ s.domOn 1 = false ∨ rising = s.is F.TIME_CTL_PPS_EDGE → s.IrqRemembered → Completes (.ppsEdge rising) s fun t => t
      = s) ∧
  (∀ (m : Master) (i : Fin 4) (s : State), s.Reached m (R.TIME_GT_CTL i) → s.fld (F.MODE_CLAIM_TIMER_USE i) = 1 → s.fld (F.MODE_CLAIM_TIMER_HOLDER i) = m.holder → s.is
      (F.MODE_CLAIM_TIMER_HOLDER_SEC i) = m.secBit → s.is (F.CLK_GATE_RUN 9) = true → s.tb.toNat < s.gtCmp i → Completes (.gtArm m i) s fun t => s.Answered m 0 t ∧ t.is
      (F.TIME_GT_CTL_ARMED i) = true ∧ t.is (F.TIME_GT_CTL_FIRED i) = s.is (F.TIME_GT_CTL_FIRED i) ∧ t.is (F.CLK_GATE_OPEN 9) = true ∧ s.Only [R.TIME_GT_CTL i, R.CLK_GATE
      9] t) ∧
  (∀ (m : Master) (i : Fin 4) (s : State), s.Reached m (R.TIME_GT_CTL i) → s.fld (F.MODE_CLAIM_TIMER_USE i) = 1 → s.fld (F.MODE_CLAIM_TIMER_HOLDER i) = m.holder → s.is
      (F.MODE_CLAIM_TIMER_HOLDER_SEC i) = m.secBit → s.is (F.CLK_GATE_RUN 9) = true → s.gtCmp i ≤ s.tb.toNat → Completes (.gtArm m i) s fun t => s.Answered m 0 t ∧ t.is
      (F.TIME_GT_CTL_ARMED i) = false ∧ t.is (F.TIME_GT_CTL_FIRED i) = true ∧ bitAt (t.fld F.TIME_EVENT_GT) i = true ∧ t.is (F.CLK_GATE_OPEN 9) = true ∧ s.Only
      [R.TIME_GT_CTL i, R.CLK_GATE 9, R.TIME_EVENT] t) ∧
  (∀ (m : Master) (i : Fin 4) (s : State), s.Reached m (R.TIME_GT_CTL i) → s.fld (F.MODE_CLAIM_TIMER_USE i) = 1 → s.fld (F.MODE_CLAIM_TIMER_HOLDER i) = m.holder → s.is
      (F.MODE_CLAIM_TIMER_HOLDER_SEC i) = m.secBit → s.is (F.CLK_GATE_RUN 9) = false → Completes (.gtArm m i) s fun t => s.Answered m 1 t ∧ s.Only [] t) ∧
  (∀ (m : Master) (i : Fin 4) (s : State), s.Reached m (R.TIME_GT_CTL i) → s.fld (F.MODE_CLAIM_TIMER_USE i) ≠ 1 ∨ s.fld (F.MODE_CLAIM_TIMER_HOLDER i) ≠ m.holder ∨ s.is
      (F.MODE_CLAIM_TIMER_HOLDER_SEC i) ≠ m.secBit → Completes (.gtArm m i) s fun t => s.Answered m 1 t ∧ t.fld F.MODE_CLAIM_ERR_MASTER = m.holder ∧ t.is
      F.MODE_EVENT_CONFIG_ERR = true ∧ s.Only [R.MODE_CLAIM_ERR, R.MODE_EVENT] t) ∧
  (∀ (i : Fin 4) (s : State), s.is (F.TIME_GT_CTL_ARMED i) = true → s.gtCmp i ≤ s.tb.toNat → Completes (.gtFire i) s fun t => t.is (F.TIME_GT_CTL_ARMED i) = false ∧
      t.is (F.TIME_GT_CTL_FIRED i) = true ∧ bitAt (t.fld F.TIME_EVENT_GT) i = true ∧ t.tb = s.tb ∧ t.out = s.out ∧ s.Only [R.TIME_GT_CTL i, R.TIME_EVENT, R.CLK_GATE 9] t) ∧
  (∀ (i : Fin 4) (s : State), s.is (F.TIME_GT_CTL_ARMED i) = false ∨ s.tb.toNat < s.gtCmp i → s.IrqRemembered → Completes (.gtFire i) s fun t => t = s)

/-- BOOT_DOOR with GO from the boot source's master hands over the waiting ROM's image; another master is refused. An image of the flash slot read, or one delivered to shared
SRAM, is judged by the lifecycle state: refused where its format is wrong, where the state loads none, where its signature, its key or in Deployed its version does not do,
with the reason in LIFE.AUTH; after slot 0 slot 1 is read, then none, and the other sources wait again. In Maker an image without a key runs where its digest fits; elsewhere
it is refused. An accepted image's body stands at 0x01001000 and the supervisor at its entry. Digest and signature are SHA-384 and ECDSA P-384; the digest of the Vangoft key
is a constant that the model leaves open. A flash command from 0x1 runs while the engine is free, with the address and data phases selected; it is refused with CODE 4, 1 or 2,
and with no code while its gate is off. Its end stores what it read and gives CODE 0, after polls where POLL asks; a time-out CODE 3. A command that finds nothing to do
changes nothing. Readings: log entries 78 (images), 58 (flash), 65 and 79 (the boot path), 16 (the functions). (Rests on 11_management_ports.md, 17_lifecycle_identity.md.) -/
def Obligations.BootSourcesDeliverImages : Prop :=
  (∀ (m : Master) (v : Word) (s : State), s.Reached m R.FLASH_BOOT_DOOR → m = .hostS ∧ s.pins.bootSel = 1 ∨ m = .smp ∧ s.pins.bootSel = 2 ∨ m = .tow true ∧
      s.pins.bootSel = 3 → s.fld F.FLASH_BOOT_STAT_PHASE = 1 → Completes (.bootDoor m v) s fun t => s.Answered m 0 t ∧ t.fld F.FLASH_BOOT_DOOR_LENGTH = bitsOf v.toNat 0 23
      ∧ t.pins = s.pins ∧ t.fld F.FLASH_BOOT_STAT_PHASE = 2 ∧ s.Only [R.FLASH_BOOT_DOOR, R.FLASH_BOOT_STAT] t) ∧
  (∀ (m : Master) (v : Word) (s : State), s.Reached m R.FLASH_BOOT_DOOR → m = .hostS ∧ s.pins.bootSel = 1 ∨ m = .smp ∧ s.pins.bootSel = 2 ∨ m = .tow true ∧
      s.pins.bootSel = 3 → s.fld F.FLASH_BOOT_STAT_PHASE ≠ 1 → Completes (.bootDoor m v) s fun t => s.Answered m 0 t ∧ t.fld F.FLASH_BOOT_DOOR_LENGTH = bitsOf v.toNat 0 23
      ∧ t.pins = s.pins ∧ t.fld F.FLASH_BOOT_STAT_PHASE = s.fld F.FLASH_BOOT_STAT_PHASE ∧ s.Only [R.FLASH_BOOT_DOOR] t) ∧
  (∀ (m : Master) (v : Word) (s : State), s.Reached m R.FLASH_BOOT_DOOR → ¬ (m = .hostS ∧ s.pins.bootSel = 1 ∨ m = .smp ∧ s.pins.bootSel = 2 ∨ m = .tow true ∧
      s.pins.bootSel = 3) → Completes (.bootDoor m v) s fun t => s.Answered m 2 t ∧ s.Only [] t) ∧
  (∀ (slot : Fin 2) (image : List (BitVec 8)) (s : State), s.domOn 1 = true → s.fld F.FLASH_BOOT_STAT_PHASE = 2 → s.pins.bootSel = 0 → slot.val = s.fld
      F.FLASH_BOOT_STAT_SLOT → s.fld F.LIFE_STATE_STATE = 5 ∨ imageFormed image = false ∨ s.fld F.LIFE_STATE_STATE ≠ 1 ∧ allZero (slice image 0x20 97) = true → Completes
      (.imageAuthenticate slot image) s fun t => t.fld F.LIFE_AUTH_FAIL = (if s.fld F.LIFE_STATE_STATE ≠ 5 ∧ imageFormed image = false then 1 else 5) ∧ t.fld
      F.LIFE_AUTH_MODE = 0 ∧ t.fld F.LIFE_AUTH_IMAGE_VER = 0 ∧ t.sup = s.sup ∧ t.mem = s.mem ∧ s.Only [R.LIFE_AUTH, R.FLASH_BOOT_STAT] t ∧ t.is F.FLASH_BOOT_STAT_SLOT =
      true ∧ t.fld F.FLASH_BOOT_STAT_PHASE = (if slot.val = 0 then 2 else 4) ∧ t.out = (if slot.val = 0 then [.flashImage 0x00800000 (if s.is F.FLASH_SFDP_ADDR4 then 4
      else 3) (s.fld F.FLASH_SFDP_READ)] else []) ++ s.out) ∧
  (∀ (slot : Fin 2) (image : List (BitVec 8)) (s : State), s.domOn 1 = true → s.fld F.FLASH_BOOT_STAT_PHASE = 2 → s.pins.bootSel = 0 → slot.val = s.fld
      F.FLASH_BOOT_STAT_SLOT → s.fld F.LIFE_STATE_STATE = 1 → imageFormed image = true → allZero (slice image 0x20 97) = true → s.is F.MEMX_STAT_FILLED = true → s.rd
      R.MEMX_REMOVED_LO = 0#32 → s.integ.test = none → s.ecc (eccBase (0x01001000 + (wordOf image 0xC - 1))) = .clean → Completes (.imageAuthenticate slot image) s fun t
      => t.fld F.LIFE_AUTH_FAIL = (if (slice image 0x88 96).take 48 = sha384 (image.take 0x88 ++ slice image 0x100 (wordOf image 0xC)) then 0 else 2) ∧ (t.fld
      F.LIFE_AUTH_FAIL ≠ 0 → t.sup = s.sup ∧ t.mem = s.mem ∧ t.fld F.LIFE_AUTH_MODE = 0 ∧ t.fld F.LIFE_AUTH_IMAGE_VER = 0 ∧ t.fld F.FLASH_BOOT_STAT_PHASE = (if slot.val =
      0 then 2 else 4) ∧ t.out = (if slot.val = 0 then [.flashImage 0x00800000 (if s.is F.FLASH_SFDP_ADDR4 then 4 else 3) (s.fld F.FLASH_SFDP_READ)] else []) ++ s.out) ∧
      (t.fld F.LIFE_AUTH_FAIL = 0 → t.fld F.LIFE_AUTH_MODE = 3 ∧ t.is F.LIFE_AUTH_SLOT = false ∧ t.fld F.LIFE_AUTH_IMAGE_VER = wordOf image 8 ∧ t.fld
      F.FLASH_BOOT_STAT_PHASE = 3 ∧ t.sup = { s.sup with pc := BitVec.ofNat 32 (0x01001000 + wordOf image 0x10) } ∧ t.bytesAt 0x01001000 (wordOf image 0xC) = slice image
      0x100 (wordOf image 0xC) ∧ t.out = s.out) ∧ (∀ a, ¬ (0x01001000 ≤ a ∧ a < 0x01001000 + wordOf image 0xC) → t.byteAt a = s.byteAt a) ∧ s.Only [R.LIFE_AUTH,
      R.FLASH_BOOT_STAT] t) ∧
  (∀ (slot : Fin 2) (image : List (BitVec 8)) (s : State), s.domOn 1 = true → s.fld F.FLASH_BOOT_STAT_PHASE = 2 → s.pins.bootSel = 0 → slot.val = s.fld
      F.FLASH_BOOT_STAT_SLOT → s.fld F.LIFE_STATE_STATE ≤ 4 → imageFormed image = true → allZero (slice image 0x20 97) = false → s.is F.MEMX_STAT_FILLED = true → s.rd
      R.MEMX_REMOVED_LO = 0#32 → s.integ.test = none → s.ecc (eccBase (0x01001000 + (wordOf image 0xC - 1))) = .clean → Completes (.imageAuthenticate slot image) s fun t
      => t.fld F.LIFE_AUTH_FAIL = (if ecdsaP384 (sha384 (image.take 0x88 ++ slice image 0x100 (wordOf image 0xC))) (slice image 0x20 97) (slice image 0x88 96) = false then
      2 else if ¬ (s.keyOf (slice image 0x20 97) = 1 ∧ (s.fld F.LIFE_STATE_STATE = 0 ∨ s.fld F.LIFE_STATE_STATE = 4) ∨ s.fld F.LIFE_STATE_STATE = 1 ∨ 2 ≤ s.keyOf (slice
      image 0x20 97) ∧ (s.fld F.LIFE_STATE_STATE = 2 ∨ s.fld F.LIFE_STATE_STATE = 3)) then 3 else if s.fld F.LIFE_STATE_STATE = 3 ∧ wordOf image 8 < s.rollbackCount then 4
      else 0) ∧ (t.fld F.LIFE_AUTH_FAIL ≠ 0 → t.sup = s.sup ∧ t.mem = s.mem ∧ t.fld F.LIFE_AUTH_MODE = 0 ∧ t.fld F.LIFE_AUTH_IMAGE_VER = 0 ∧ t.fld F.FLASH_BOOT_STAT_PHASE
      = (if slot.val = 0 then 2 else 4) ∧ t.out = (if slot.val = 0 then [.flashImage 0x00800000 (if s.is F.FLASH_SFDP_ADDR4 then 4 else 3) (s.fld F.FLASH_SFDP_READ)] else
      []) ++ s.out) ∧ (t.fld F.LIFE_AUTH_FAIL = 0 → t.fld F.LIFE_AUTH_MODE = (if s.keyOf (slice image 0x20 97) = 1 then 1 else 2) ∧ t.is F.LIFE_AUTH_SLOT = decide (s.keyOf
      (slice image 0x20 97) = 3) ∧ t.fld F.LIFE_AUTH_IMAGE_VER = wordOf image 8 ∧ t.fld F.FLASH_BOOT_STAT_PHASE = 3 ∧ t.sup =
      { s.sup with pc := BitVec.ofNat 32 (0x01001000 + wordOf image 0x10) } ∧ t.bytesAt 0x01001000 (wordOf image 0xC) = slice image 0x100 (wordOf image 0xC) ∧ t.out =
      s.out) ∧ (∀ a, ¬ (0x01001000 ≤ a ∧ a < 0x01001000 + wordOf image 0xC) → t.byteAt a = s.byteAt a) ∧ s.Only [R.LIFE_AUTH, R.FLASH_BOOT_STAT] t) ∧
  (∀ (slot : Fin 2) (given : List (BitVec 8)) (image : List (BitVec 8)) (s : State), s.domOn 1 = true → s.fld F.FLASH_BOOT_STAT_PHASE = 2 → s.pins.bootSel ≠ 0 → s.fld
      F.FLASH_BOOT_DOOR_LENGTH ≤ 0x400000 → s.memRead ⟨2, 1⟩ 0x02000000 (s.fld F.FLASH_BOOT_DOOR_LENGTH) = (s, .done, image) → s.fld F.LIFE_STATE_STATE = 5 ∨ imageFormed
      image = false ∨ s.fld F.LIFE_STATE_STATE ≠ 1 ∧ allZero (slice image 0x20 97) = true → Completes (.imageAuthenticate slot given) s fun t => t.fld F.LIFE_AUTH_FAIL =
      (if s.fld F.LIFE_STATE_STATE ≠ 5 ∧ imageFormed image = false then 1 else 5) ∧ t.fld F.LIFE_AUTH_MODE = 0 ∧ t.fld F.LIFE_AUTH_IMAGE_VER = 0 ∧ t.sup = s.sup ∧ t.mem =
      s.mem ∧ s.Only [R.LIFE_AUTH, R.FLASH_BOOT_STAT] t ∧ t.fld F.FLASH_BOOT_STAT_PHASE = 1 ∧ t.out = s.out) ∧
  (∀ (slot : Fin 2) (given : List (BitVec 8)) (image : List (BitVec 8)) (s : State), s.domOn 1 = true → s.fld F.FLASH_BOOT_STAT_PHASE = 2 → s.pins.bootSel ≠ 0 → s.fld
      F.FLASH_BOOT_DOOR_LENGTH ≤ 0x400000 → s.memRead ⟨2, 1⟩ 0x02000000 (s.fld F.FLASH_BOOT_DOOR_LENGTH) = (s, .done, image) → s.fld F.LIFE_STATE_STATE = 1 → imageFormed
      image = true → allZero (slice image 0x20 97) = true → s.is F.MEMX_STAT_FILLED = true → s.rd R.MEMX_REMOVED_LO = 0#32 → s.integ.test = none → s.ecc (eccBase
      (0x01001000 + (wordOf image 0xC - 1))) = .clean → Completes (.imageAuthenticate slot given) s fun t => t.fld F.LIFE_AUTH_FAIL = (if (slice image 0x88 96).take 48 =
      sha384 (image.take 0x88 ++ slice image 0x100 (wordOf image 0xC)) then 0 else 2) ∧ (t.fld F.LIFE_AUTH_FAIL ≠ 0 → t.sup = s.sup ∧ t.mem = s.mem ∧ t.fld
      F.LIFE_AUTH_MODE = 0 ∧ t.fld F.LIFE_AUTH_IMAGE_VER = 0 ∧ t.fld F.FLASH_BOOT_STAT_PHASE = 1 ∧ t.out = s.out) ∧ (t.fld F.LIFE_AUTH_FAIL = 0 → t.fld F.LIFE_AUTH_MODE =
      3 ∧ t.is F.LIFE_AUTH_SLOT = false ∧ t.fld F.LIFE_AUTH_IMAGE_VER = wordOf image 8 ∧ t.fld F.FLASH_BOOT_STAT_PHASE = 3 ∧ t.sup =
      { s.sup with pc := BitVec.ofNat 32 (0x01001000 + wordOf image 0x10) } ∧ t.bytesAt 0x01001000 (wordOf image 0xC) = slice image 0x100 (wordOf image 0xC) ∧ t.out =
      s.out) ∧ (∀ a, ¬ (0x01001000 ≤ a ∧ a < 0x01001000 + wordOf image 0xC) → t.byteAt a = s.byteAt a) ∧ s.Only [R.LIFE_AUTH, R.FLASH_BOOT_STAT] t) ∧
  (∀ (slot : Fin 2) (given : List (BitVec 8)) (image : List (BitVec 8)) (s : State), s.domOn 1 = true → s.fld F.FLASH_BOOT_STAT_PHASE = 2 → s.pins.bootSel ≠ 0 → s.fld
      F.FLASH_BOOT_DOOR_LENGTH ≤ 0x400000 → s.memRead ⟨2, 1⟩ 0x02000000 (s.fld F.FLASH_BOOT_DOOR_LENGTH) = (s, .done, image) → s.fld F.LIFE_STATE_STATE ≤ 4 → imageFormed
      image = true → allZero (slice image 0x20 97) = false → s.is F.MEMX_STAT_FILLED = true → s.rd R.MEMX_REMOVED_LO = 0#32 → s.integ.test = none → s.ecc (eccBase
      (0x01001000 + (wordOf image 0xC - 1))) = .clean → Completes (.imageAuthenticate slot given) s fun t => t.fld F.LIFE_AUTH_FAIL = (if ecdsaP384 (sha384 (image.take
      0x88 ++ slice image 0x100 (wordOf image 0xC))) (slice image 0x20 97) (slice image 0x88 96) = false then 2 else if ¬ (s.keyOf (slice image 0x20 97) = 1 ∧ (s.fld
      F.LIFE_STATE_STATE = 0 ∨ s.fld F.LIFE_STATE_STATE = 4) ∨ s.fld F.LIFE_STATE_STATE = 1 ∨ 2 ≤ s.keyOf (slice image 0x20 97) ∧ (s.fld F.LIFE_STATE_STATE = 2 ∨ s.fld
      F.LIFE_STATE_STATE = 3)) then 3 else if s.fld F.LIFE_STATE_STATE = 3 ∧ wordOf image 8 < s.rollbackCount then 4 else 0) ∧ (t.fld F.LIFE_AUTH_FAIL ≠ 0 → t.sup = s.sup
      ∧ t.mem = s.mem ∧ t.fld F.LIFE_AUTH_MODE = 0 ∧ t.fld F.LIFE_AUTH_IMAGE_VER = 0 ∧ t.fld F.FLASH_BOOT_STAT_PHASE = 1 ∧ t.out = s.out) ∧ (t.fld F.LIFE_AUTH_FAIL = 0 →
      t.fld F.LIFE_AUTH_MODE = (if s.keyOf (slice image 0x20 97) = 1 then 1 else 2) ∧ t.is F.LIFE_AUTH_SLOT = decide (s.keyOf (slice image 0x20 97) = 3) ∧ t.fld
      F.LIFE_AUTH_IMAGE_VER = wordOf image 8 ∧ t.fld F.FLASH_BOOT_STAT_PHASE = 3 ∧ t.sup = { s.sup with pc := BitVec.ofNat 32 (0x01001000 + wordOf image 0x10) } ∧
      t.bytesAt 0x01001000 (wordOf image 0xC) = slice image 0x100 (wordOf image 0xC) ∧ t.out = s.out) ∧ (∀ a, ¬ (0x01001000 ≤ a ∧ a < 0x01001000 + wordOf image 0xC) →
      t.byteAt a = s.byteAt a) ∧ s.Only [R.LIFE_AUTH, R.FLASH_BOOT_STAT] t) ∧
  (∀ (slot : Fin 2) (image : List (BitVec 8)) (s : State), s.domOn 1 = true → s.fld F.FLASH_BOOT_STAT_PHASE = 2 → s.pins.bootSel ≠ 0 → 0x400000 < s.fld
      F.FLASH_BOOT_DOOR_LENGTH → Completes (.imageAuthenticate slot image) s fun t => t.fld F.LIFE_AUTH_FAIL = 1 ∧ t.fld F.LIFE_AUTH_MODE = 0 ∧ t.fld F.LIFE_AUTH_IMAGE_VER
      = 0 ∧ t.sup = s.sup ∧ t.mem = s.mem ∧ s.Only [R.LIFE_AUTH, R.FLASH_BOOT_STAT] t ∧ t.fld F.FLASH_BOOT_STAT_PHASE = 1 ∧ t.out = s.out) ∧
  (∀ (slot : Fin 2) (image : List (BitVec 8)) (s : State), s.domOn 1 = false ∨ s.fld F.FLASH_BOOT_STAT_PHASE ≠ 2 ∨ s.pins.bootSel = 0 ∧ slot.val ≠ s.fld
      F.FLASH_BOOT_STAT_SLOT → s.IrqRemembered → Completes (.imageAuthenticate slot image) s fun t => t = s) ∧
  (∀ (m : Master) (v : Word) (s : State), s.Reached m R.FLASH_CMD → m.code = 1 → s.is F.FLASH_STAT_BUSY = false → s.is (F.CLK_GATE_RUN 5) = true → bitsOf v.toNat 10 2 =
      0 ∨ bitsOf v.toNat 10 2 = 3 → 0x02000000 ≤ (s.rd R.FLASH_BUF).toNat → (s.rd R.FLASH_BUF).toNat < 0x02400000 → Completes (.flashCommand m v) s fun t => t.is
      F.FLASH_STAT_BUSY = true ∧ t.fld F.FLASH_STAT_CODE = 0 ∧ t.fld F.FLASH_CMD_OPCODE = v.toNat % 256 ∧ t.is (F.CLK_GATE_OPEN 5) = true ∧ t.flash = some ⟨0, (s.rd
      R.FLASH_BUF).toNat, s.fld F.FLASH_LEN_LEN, v.getLsbD 13⟩ ∧ t.mem = s.mem ∧ t.out = .response m 0 0 :: .flash (v.toNat % 256) (if bitsOf v.toNat 8 2 = 1 then 3 else
      if bitsOf v.toNat 8 2 = 2 then 4 else 0) (if bitsOf v.toNat 8 2 = 1 then s.fld F.FLASH_ADDR_ADDR % 2 ^ 24 else if bitsOf v.toNat 8 2 = 2 then s.fld F.FLASH_ADDR_ADDR
      else 0) (v.getLsbD 12) 0 [] :: s.out ∧ s.Only [R.FLASH_CMD, R.FLASH_STAT, R.CLK_GATE 5] t) ∧
  (∀ (m : Master) (v : Word) (s : State), s.Reached m R.FLASH_CMD → m.code = 1 → s.is F.FLASH_STAT_BUSY = false → s.is (F.CLK_GATE_RUN 5) = true → bitsOf v.toNat 10 2 =
      1 → 0x02000000 ≤ (s.rd R.FLASH_BUF).toNat → (s.rd R.FLASH_BUF).toNat + s.fld F.FLASH_LEN_LEN ≤ 0x02400000 → s.fld F.FLASH_LEN_LEN ≤ 65536 → Completes (.flashCommand
      m v) s fun t => t.is F.FLASH_STAT_BUSY = true ∧ t.fld F.FLASH_STAT_CODE = 0 ∧ t.fld F.FLASH_CMD_OPCODE = v.toNat % 256 ∧ t.is (F.CLK_GATE_OPEN 5) = true ∧ t.flash =
      some ⟨1, (s.rd R.FLASH_BUF).toNat, s.fld F.FLASH_LEN_LEN, v.getLsbD 13⟩ ∧ t.mem = s.mem ∧ t.out = .response m 0 0 :: .flash (v.toNat % 256) (if bitsOf v.toNat 8 2 =
      1 then 3 else if bitsOf v.toNat 8 2 = 2 then 4 else 0) (if bitsOf v.toNat 8 2 = 1 then s.fld F.FLASH_ADDR_ADDR % 2 ^ 24 else if bitsOf v.toNat 8 2 = 2 then s.fld
      F.FLASH_ADDR_ADDR else 0) (v.getLsbD 12) (s.fld F.FLASH_LEN_LEN) [] :: s.out ∧ s.Only [R.FLASH_CMD, R.FLASH_STAT, R.CLK_GATE 5] t) ∧
  (∀ (m : Master) (v : Word) (data : List (BitVec 8)) (s : State), s.Reached m R.FLASH_CMD → m.code = 1 → s.is F.FLASH_STAT_BUSY = false → s.is (F.CLK_GATE_RUN 5) =
      true → bitsOf v.toNat 10 2 = 2 → 0x02000000 ≤ (s.rd R.FLASH_BUF).toNat → (s.rd R.FLASH_BUF).toNat + s.fld F.FLASH_LEN_LEN ≤ 0x02400000 → s.fld F.FLASH_LEN_LEN ≤
      65536 → s.memRead ⟨2, 1⟩ (s.rd R.FLASH_BUF).toNat (s.fld F.FLASH_LEN_LEN) = (s, .done, data) → Completes (.flashCommand m v) s fun t => t.is F.FLASH_STAT_BUSY = true
      ∧ t.fld F.FLASH_STAT_CODE = 0 ∧ t.fld F.FLASH_CMD_OPCODE = v.toNat % 256 ∧ t.is (F.CLK_GATE_OPEN 5) = true ∧ t.flash = some ⟨2, (s.rd R.FLASH_BUF).toNat, s.fld
      F.FLASH_LEN_LEN, v.getLsbD 13⟩ ∧ t.mem = s.mem ∧ t.out = .response m 0 0 :: .flash (v.toNat % 256) (if bitsOf v.toNat 8 2 = 1 then 3 else if bitsOf v.toNat 8 2 = 2
      then 4 else 0) (if bitsOf v.toNat 8 2 = 1 then s.fld F.FLASH_ADDR_ADDR % 2 ^ 24 else if bitsOf v.toNat 8 2 = 2 then s.fld F.FLASH_ADDR_ADDR else 0) (v.getLsbD 12) 0
      data :: s.out ∧ s.Only [R.FLASH_CMD, R.FLASH_STAT, R.CLK_GATE 5] t) ∧
  (∀ (m : Master) (v : Word) (s : State), s.Reached m R.FLASH_CMD → m.code ≠ 1 → Completes (.flashCommand m v) s fun t => s.Answered m 2 t ∧ t.fld F.FLASH_STAT_CODE = 4
      ∧ t.flash = s.flash ∧ s.Only [R.FLASH_STAT] t) ∧
  (∀ (m : Master) (v : Word) (s : State), s.Reached m R.FLASH_CMD → m.code = 1 → s.is F.FLASH_STAT_BUSY = true → Completes (.flashCommand m v) s fun t => s.Answered m 1
      t ∧ t.fld F.FLASH_STAT_CODE = 1 ∧ t.flash = s.flash ∧ s.Only [R.FLASH_STAT] t) ∧
  (∀ (m : Master) (v : Word) (s : State), s.Reached m R.FLASH_CMD → m.code = 1 → s.is F.FLASH_STAT_BUSY = false → (s.rd R.FLASH_BUF).toNat < 0x02000000 ∨ 0x02400000 ≤
      (s.rd R.FLASH_BUF).toNat ∧ (bitsOf v.toNat 10 2 = 0 ∨ bitsOf v.toNat 10 2 = 3) ∨ (bitsOf v.toNat 10 2 = 1 ∨ bitsOf v.toNat 10 2 = 2) ∧ (65536 < s.fld F.FLASH_LEN_LEN
      ∨ 0x02400000 < (s.rd R.FLASH_BUF).toNat + s.fld F.FLASH_LEN_LEN) → Completes (.flashCommand m v) s fun t => s.Answered m 1 t ∧ t.fld F.FLASH_STAT_CODE = 2 ∧ t.flash
      = s.flash ∧ s.Only [R.FLASH_STAT] t) ∧
  (∀ (m : Master) (v : Word) (s : State), s.Reached m R.FLASH_CMD → m.code = 1 → s.is F.FLASH_STAT_BUSY = false → s.is (F.CLK_GATE_RUN 5) = false → 0x02000000 ≤ (s.rd
      R.FLASH_BUF).toNat → (bitsOf v.toNat 10 2 = 0 ∨ bitsOf v.toNat 10 2 = 3) ∧ (s.rd R.FLASH_BUF).toNat < 0x02400000 ∨ s.fld F.FLASH_LEN_LEN ≤ 65536 ∧ (bitsOf v.toNat 10
      2 = 1 ∨ bitsOf v.toNat 10 2 = 2) ∧ (s.rd R.FLASH_BUF).toNat + s.fld F.FLASH_LEN_LEN ≤ 0x02400000 → Completes (.flashCommand m v) s fun t => s.Answered m 1 t ∧
      t.flash = s.flash ∧ s.Only [] t) ∧
  (∀ (answer : List (BitVec 8) × List (BitVec 8)) (r : FlashRun) (s : State), s.flash = some r → r.poll = false → r.dir ≠ 1 → Completes (.flashCommandEnd answer) s fun
      t => t.is F.FLASH_STAT_BUSY = false ∧ t.is F.FLASH_STAT_DONE = true ∧ t.fld F.FLASH_STAT_CODE = 0 ∧ t.flash = none ∧ t.mem = s.mem ∧ t.out = s.out ∧ s.Only
      [R.FLASH_STAT, R.CLK_GATE 5] t) ∧
  (∀ (answer : List (BitVec 8) × List (BitVec 8)) (r : FlashRun) (s : State), s.flash = some r → r.poll = false → r.dir = 1 → r.len = 4 → answer.1.length = 4 → r.buf %
      4 = 0 → 0x02000000 ≤ r.buf → r.buf + 4 ≤ 0x02400000 → s.Sound r.buf → Completes (.flashCommandEnd answer) s fun t => t.is F.FLASH_STAT_BUSY = false ∧ t.is
      F.FLASH_STAT_DONE = true ∧ t.fld F.FLASH_STAT_CODE = 0 ∧ t.flash = none ∧ t.bytesAt r.buf 4 = answer.1 ∧ (∀ a, ¬ (r.buf ≤ a ∧ a < r.buf + 4) → t.byteAt a = s.byteAt
      a) ∧ t.out = s.out ∧ s.Only [R.FLASH_STAT, R.CLK_GATE 5] t) ∧
  (∀ (answer : List (BitVec 8) × List (BitVec 8)) (r : FlashRun) (s : State), s.flash = some r → r.poll = true → r.dir ≠ 1 → answer.2 = [] → Completes (.flashCommandEnd
      answer) s fun t => t.is F.FLASH_STAT_BUSY = s.is F.FLASH_STAT_BUSY ∧ t.flash = some ⟨0, r.buf, r.len, true⟩ ∧ t.mem = s.mem ∧ t.out = s.out ∧ s.Only [] t) ∧
  (∀ (bytes : List (BitVec 8)) (p0 p1 : BitVec 8) (r : FlashRun) (s : State), s.flash = some r → r.poll = true → r.dir ≠ 1 → p0.getLsbD 0 = true → p1.getLsbD 0 = false
      → Completes (.flashCommandEnd (bytes, [p0, p1])) s fun t => t.is F.FLASH_STAT_BUSY = false ∧ t.is F.FLASH_STAT_DONE = true ∧ t.fld F.FLASH_STAT_CODE = 0 ∧ t.flash =
      none ∧ t.mem = s.mem ∧ t.out = .flash 0x05 0 0 false 1 [] :: .flash 0x05 0 0 false 1 [] :: s.out ∧ s.Only [R.FLASH_STAT, R.CLK_GATE 5] t) ∧
  (∀ (bytes : List (BitVec 8)) (p0 p1 : BitVec 8) (r : FlashRun) (s : State), s.flash = some r → r.poll = true → r.dir ≠ 1 → p0.getLsbD 0 = true → p1.getLsbD 0 = true →
      Completes (.flashCommandEnd (bytes, [p0, p1])) s fun t => t.is F.FLASH_STAT_BUSY = s.is F.FLASH_STAT_BUSY ∧ t.flash = some ⟨0, r.buf, r.len, true⟩ ∧ t.mem = s.mem ∧
      t.out = .flash 0x05 0 0 false 1 [] :: .flash 0x05 0 0 false 1 [] :: s.out ∧ s.Only [] t) ∧
  (∀ (bytes : List (BitVec 8)) (p0 p1 : BitVec 8) (r : FlashRun) (s : State), s.flash = some r → r.poll = true → r.dir ≠ 1 → p0.getLsbD 0 = false → Completes
      (.flashCommandEnd (bytes, [p0, p1])) s fun t => t.is F.FLASH_STAT_BUSY = false ∧ t.is F.FLASH_STAT_DONE = true ∧ t.fld F.FLASH_STAT_CODE = 0 ∧ t.flash = none ∧ t.mem
      = s.mem ∧ t.out = .flash 0x05 0 0 false 1 [] :: s.out ∧ s.Only [R.FLASH_STAT, R.CLK_GATE 5] t) ∧
  (∀ (answer : List (BitVec 8) × List (BitVec 8)) (s : State), s.flash = none → s.IrqRemembered → Completes (.flashCommandEnd answer) s fun t => t = s) ∧
  (∀ (s : State), s.is F.FLASH_STAT_BUSY = true → Completes (.flashCommandTimeout) s fun t => t.is F.FLASH_STAT_BUSY = false ∧ t.is F.FLASH_STAT_DONE = true ∧ t.fld
      F.FLASH_STAT_CODE = 3 ∧ t.flash = none ∧ t.mem = s.mem ∧ t.out = s.out ∧ s.Only [R.FLASH_STAT, R.CLK_GATE 5] t) ∧
  (∀ (s : State), s.is F.FLASH_STAT_BUSY = false → s.IrqRemembered → Completes (.flashCommandTimeout) s fun t => t = s)

/-- A LIFE.CMD with GO is taken when no command runs, the master and the lifecycle state allow the operation and target, a usable key remains and its data lies in shared SRAM: it
makes BUSY 1 and is noted. Otherwise RESULT names the first reason of the model's order (log entry 76) - busy 1, master 2, state 3, key 4, address 6, value 8 - and nothing
else changes. When an accepted command is done its bits are burned over those burned before and RESULT says 0; a failed burn leaves a free part of them burned and says 7. An
advance shows at the burn, into Deployed with the debug level lowered; one to Retired, and an accepted Maker-return token, make the device reset due and keep the state of
LIFE.STATE until it, and TORN shows at once. A token that does not fit ends with 5, burns nothing and keeps the nonce; an accepted one draws a new nonce, and a debug token
raises the level. Data that cannot be read burns nothing. (Rests on 17_lifecycle_identity.md.) -/
def Obligations.LifecycleCommandsBurnWhatTheyMay : Prop :=
  (∀ (m : Master) (v : Word) (s : State), s.Reached m R.LIFE_CMD → s.is F.LIFE_STAT_BUSY = true → Completes (.advance m v) s fun t => s.Answered m 1 t ∧ t.fld
      F.LIFE_STAT_RESULT = 1 ∧ t.life = s.life ∧ t.mem = s.mem ∧ s.Only [R.LIFE_STAT] t) ∧
  (∀ (m : Master) (v : Word) (s : State), s.Reached m R.LIFE_CMD → s.is F.LIFE_STAT_BUSY = false → m.code ≠ 1 → Completes (.advance m v) s fun t => s.Answered m 2 t ∧
      t.fld F.LIFE_STAT_RESULT = 2 ∧ t.life = s.life ∧ t.mem = s.mem ∧ s.Only [R.LIFE_STAT] t) ∧
  (∀ (m : Master) (v : Word) (s : State), s.Reached m R.LIFE_CMD → s.is F.LIFE_STAT_BUSY = false → m.code = 1 → ¬ (bitsOf v.toNat 4 3 = 2 ∧ s.fld F.LIFE_STATE_STATE = 1
      ∨ bitsOf v.toNat 4 3 = 3 ∧ s.fld F.LIFE_STATE_STATE = 2 ∨ bitsOf v.toNat 4 3 = 5 ∧ 1 ≤ s.fld F.LIFE_STATE_STATE ∧ s.fld F.LIFE_STATE_STATE ≤ 4) → Completes (.advance
      m v) s fun t => s.Answered m 1 t ∧ t.fld F.LIFE_STAT_RESULT = 3 ∧ t.life = s.life ∧ t.mem = s.mem ∧ s.Only [R.LIFE_STAT] t) ∧
  (∀ (m : Master) (v : Word) (s : State), s.Reached m R.LIFE_CMD → s.is F.LIFE_STAT_BUSY = false → m.code = 1 → bitsOf v.toNat 4 3 = 2 ∧ s.fld F.LIFE_STATE_STATE = 1 ∨
      bitsOf v.toNat 4 3 = 3 ∧ s.fld F.LIFE_STATE_STATE = 2 ∨ bitsOf v.toNat 4 3 = 5 ∧ 1 ≤ s.fld F.LIFE_STATE_STATE ∧ s.fld F.LIFE_STATE_STATE ≤ 4 → bitsOf v.toNat 4 3 = 2
      → s.slotFull 0 = false → Completes (.advance m v) s fun t => s.Answered m 1 t ∧ t.fld F.LIFE_STAT_RESULT = 4 ∧ t.life = s.life ∧ t.mem = s.mem ∧ s.Only [R.LIFE_STAT]
      t) ∧
  (∀ (m : Master) (v : Word) (s : State), s.Reached m R.LIFE_CMD → s.is F.LIFE_STAT_BUSY = false → m.code = 1 → bitsOf v.toNat 4 3 = 2 ∧ s.fld F.LIFE_STATE_STATE = 1 ∨
      bitsOf v.toNat 4 3 = 3 ∧ s.fld F.LIFE_STATE_STATE = 2 ∨ bitsOf v.toNat 4 3 = 5 ∧ 1 ≤ s.fld F.LIFE_STATE_STATE ∧ s.fld F.LIFE_STATE_STATE ≤ 4 → bitsOf v.toNat 4 3 ≠ 2
      ∨ s.slotFull 0 = true → Completes (.advance m v) s fun t => s.Answered m 0 t ∧ t.is F.LIFE_STAT_BUSY = true ∧ t.is F.LIFE_STAT_DONE = s.is F.LIFE_STAT_DONE ∧
      t.life.run = some ⟨1, bitsOf v.toNat 4 3, bitsOf v.toNat 8 1, bitsOf v.toNat 16 7, (s.rd R.LIFE_ARG).toNat, m.code⟩ ∧ t.life.resetDue = s.life.resetDue ∧ t.mem =
      s.mem ∧ s.Only [R.LIFE_CMD, R.LIFE_STAT] t) ∧
  (∀ (m : Master) (v : Word) (s : State), s.Reached m R.LIFE_CMD → s.is F.LIFE_STAT_BUSY = true → Completes (.keyprog m v) s fun t => s.Answered m 1 t ∧ t.fld
      F.LIFE_STAT_RESULT = 1 ∧ t.life = s.life ∧ t.mem = s.mem ∧ s.Only [R.LIFE_STAT] t) ∧
  (∀ (m : Master) (v : Word) (s : State), s.Reached m R.LIFE_CMD → s.is F.LIFE_STAT_BUSY = false → m.code ≠ 1 → Completes (.keyprog m v) s fun t => s.Answered m 2 t ∧
      t.fld F.LIFE_STAT_RESULT = 2 ∧ t.life = s.life ∧ t.mem = s.mem ∧ s.Only [R.LIFE_STAT] t) ∧
  (∀ (m : Master) (v : Word) (s : State), s.Reached m R.LIFE_CMD → s.is F.LIFE_STAT_BUSY = false → m.code = 1 → ¬ (s.fld F.LIFE_STATE_STATE = 1 ∨ s.fld
      F.LIFE_STATE_STATE = 2 ∨ bitsOf v.toNat 8 1 = 1 ∧ s.fld F.LIFE_STATE_STATE = 3) → Completes (.keyprog m v) s fun t => s.Answered m 1 t ∧ t.fld F.LIFE_STAT_RESULT = 3
      ∧ t.life = s.life ∧ t.mem = s.mem ∧ s.Only [R.LIFE_STAT] t) ∧
  (∀ (m : Master) (v : Word) (s : State), s.Reached m R.LIFE_CMD → s.is F.LIFE_STAT_BUSY = false → m.code = 1 → s.fld F.LIFE_STATE_STATE = 1 ∨ s.fld F.LIFE_STATE_STATE
      = 2 ∨ bitsOf v.toNat 8 1 = 1 ∧ s.fld F.LIFE_STATE_STATE = 3 → (s.rd R.LIFE_ARG).toNat < 0x02000000 ∨ 0x02400000 < (s.rd R.LIFE_ARG).toNat + 48 → Completes (.keyprog
      m v) s fun t => s.Answered m 1 t ∧ t.fld F.LIFE_STAT_RESULT = 6 ∧ t.life = s.life ∧ t.mem = s.mem ∧ s.Only [R.LIFE_STAT] t) ∧
  (∀ (m : Master) (v : Word) (s : State), s.Reached m R.LIFE_CMD → s.is F.LIFE_STAT_BUSY = false → m.code = 1 → s.fld F.LIFE_STATE_STATE = 1 ∨ s.fld F.LIFE_STATE_STATE
      = 2 ∨ bitsOf v.toNat 8 1 = 1 ∧ s.fld F.LIFE_STATE_STATE = 3 → 0x02000000 ≤ (s.rd R.LIFE_ARG).toNat → (s.rd R.LIFE_ARG).toNat + 48 ≤ 0x02400000 → s.slotFull (bitsOf
      v.toNat 8 1) = true → Completes (.keyprog m v) s fun t => s.Answered m 1 t ∧ t.fld F.LIFE_STAT_RESULT = 8 ∧ t.life = s.life ∧ t.mem = s.mem ∧ s.Only [R.LIFE_STAT] t) ∧
  (∀ (m : Master) (v : Word) (s : State), s.Reached m R.LIFE_CMD → s.is F.LIFE_STAT_BUSY = false → m.code = 1 → s.fld F.LIFE_STATE_STATE = 1 ∨ s.fld F.LIFE_STATE_STATE
      = 2 ∨ bitsOf v.toNat 8 1 = 1 ∧ s.fld F.LIFE_STATE_STATE = 3 → 0x02000000 ≤ (s.rd R.LIFE_ARG).toNat → (s.rd R.LIFE_ARG).toNat + 48 ≤ 0x02400000 → s.slotFull (bitsOf
      v.toNat 8 1) = false → Completes (.keyprog m v) s fun t => s.Answered m 0 t ∧ t.is F.LIFE_STAT_BUSY = true ∧ t.is F.LIFE_STAT_DONE = s.is F.LIFE_STAT_DONE ∧
      t.life.run = some ⟨2, bitsOf v.toNat 4 3, bitsOf v.toNat 8 1, bitsOf v.toNat 16 7, (s.rd R.LIFE_ARG).toNat, m.code⟩ ∧ t.life.resetDue = s.life.resetDue ∧ t.mem =
      s.mem ∧ s.Only [R.LIFE_CMD, R.LIFE_STAT] t) ∧
  (∀ (m : Master) (v : Word) (s : State), s.Reached m R.LIFE_CMD → s.is F.LIFE_STAT_BUSY = true → Completes (.revoke m v) s fun t => s.Answered m 1 t ∧ t.fld
      F.LIFE_STAT_RESULT = 1 ∧ t.life = s.life ∧ t.mem = s.mem ∧ s.Only [R.LIFE_STAT] t) ∧
  (∀ (m : Master) (v : Word) (s : State), s.Reached m R.LIFE_CMD → s.is F.LIFE_STAT_BUSY = false → m.code ≠ 1 → Completes (.revoke m v) s fun t => s.Answered m 2 t ∧
      t.fld F.LIFE_STAT_RESULT = 2 ∧ t.life = s.life ∧ t.mem = s.mem ∧ s.Only [R.LIFE_STAT] t) ∧
  (∀ (m : Master) (v : Word) (s : State), s.Reached m R.LIFE_CMD → s.is F.LIFE_STAT_BUSY = false → m.code = 1 → ¬ (s.fld F.LIFE_STATE_STATE = 2 ∨ s.fld
      F.LIFE_STATE_STATE = 3) → Completes (.revoke m v) s fun t => s.Answered m 1 t ∧ t.fld F.LIFE_STAT_RESULT = 3 ∧ t.life = s.life ∧ t.mem = s.mem ∧ s.Only [R.LIFE_STAT]
      t) ∧
  (∀ (m : Master) (v : Word) (s : State), s.Reached m R.LIFE_CMD → s.is F.LIFE_STAT_BUSY = false → m.code = 1 → s.fld F.LIFE_STATE_STATE = 2 ∨ s.fld F.LIFE_STATE_STATE
      = 3 → s.slotFull (1 - bitsOf v.toNat 8 1) = false ∨ s.slotRevoked (1 - bitsOf v.toNat 8 1) = true → Completes (.revoke m v) s fun t => s.Answered m 1 t ∧ t.fld
      F.LIFE_STAT_RESULT = 4 ∧ t.life = s.life ∧ t.mem = s.mem ∧ s.Only [R.LIFE_STAT] t) ∧
  (∀ (m : Master) (v : Word) (s : State), s.Reached m R.LIFE_CMD → s.is F.LIFE_STAT_BUSY = false → m.code = 1 → s.fld F.LIFE_STATE_STATE = 2 ∨ s.fld F.LIFE_STATE_STATE
      = 3 → s.slotFull (1 - bitsOf v.toNat 8 1) = true → s.slotRevoked (1 - bitsOf v.toNat 8 1) = false → Completes (.revoke m v) s fun t => s.Answered m 0 t ∧ t.is
      F.LIFE_STAT_BUSY = true ∧ t.is F.LIFE_STAT_DONE = s.is F.LIFE_STAT_DONE ∧ t.life.run = some ⟨3, bitsOf v.toNat 4 3, bitsOf v.toNat 8 1, bitsOf v.toNat 16 7, (s.rd
      R.LIFE_ARG).toNat, m.code⟩ ∧ t.life.resetDue = s.life.resetDue ∧ t.mem = s.mem ∧ s.Only [R.LIFE_CMD, R.LIFE_STAT] t) ∧
  (∀ (m : Master) (v : Word) (s : State), s.Reached m R.LIFE_CMD → s.is F.LIFE_STAT_BUSY = true → Completes (.rollback m v) s fun t => s.Answered m 1 t ∧ t.fld
      F.LIFE_STAT_RESULT = 1 ∧ t.life = s.life ∧ t.mem = s.mem ∧ s.Only [R.LIFE_STAT] t) ∧
  (∀ (m : Master) (v : Word) (s : State), s.Reached m R.LIFE_CMD → s.is F.LIFE_STAT_BUSY = false → m.code ≠ 1 → Completes (.rollback m v) s fun t => s.Answered m 2 t ∧
      t.fld F.LIFE_STAT_RESULT = 2 ∧ t.life = s.life ∧ t.mem = s.mem ∧ s.Only [R.LIFE_STAT] t) ∧
  (∀ (m : Master) (v : Word) (s : State), s.Reached m R.LIFE_CMD → s.is F.LIFE_STAT_BUSY = false → m.code = 1 → bitsOf v.toNat 16 7 < s.rollbackCount ∨ 64 < bitsOf
      v.toNat 16 7 → Completes (.rollback m v) s fun t => s.Answered m 1 t ∧ t.fld F.LIFE_STAT_RESULT = 8 ∧ t.life = s.life ∧ t.mem = s.mem ∧ s.Only [R.LIFE_STAT] t) ∧
  (∀ (m : Master) (v : Word) (s : State), s.Reached m R.LIFE_CMD → s.is F.LIFE_STAT_BUSY = false → m.code = 1 → s.rollbackCount ≤ bitsOf v.toNat 16 7 → bitsOf v.toNat
      16 7 ≤ 64 → Completes (.rollback m v) s fun t => s.Answered m 0 t ∧ t.is F.LIFE_STAT_BUSY = true ∧ t.is F.LIFE_STAT_DONE = s.is F.LIFE_STAT_DONE ∧ t.life.run = some
      ⟨4, bitsOf v.toNat 4 3, bitsOf v.toNat 8 1, bitsOf v.toNat 16 7, (s.rd R.LIFE_ARG).toNat, m.code⟩ ∧ t.life.resetDue = s.life.resetDue ∧ t.mem = s.mem ∧ s.Only
      [R.LIFE_CMD, R.LIFE_STAT] t) ∧
  (∀ (m : Master) (v : Word) (s : State), s.Reached m R.LIFE_CMD → s.is F.LIFE_STAT_BUSY = true → Completes (.token m v) s fun t => s.Answered m 1 t ∧ t.fld
      F.LIFE_STAT_RESULT = 1 ∧ t.life = s.life ∧ t.mem = s.mem ∧ s.Only [R.LIFE_STAT] t) ∧
  (∀ (m : Master) (v : Word) (s : State), s.Reached m R.LIFE_CMD → s.is F.LIFE_STAT_BUSY = false → m.code ≠ 1 → m.code ≠ 3 → m.code ≠ 5 → Completes (.token m v) s fun t
      => s.Answered m 2 t ∧ t.fld F.LIFE_STAT_RESULT = 2 ∧ t.life = s.life ∧ t.mem = s.mem ∧ s.Only [R.LIFE_STAT] t) ∧
  (∀ (m : Master) (v : Word) (s : State), s.Reached m R.LIFE_CMD → s.is F.LIFE_STAT_BUSY = false → m.code = 1 ∨ m.code = 3 ∨ m.code = 5 → (s.rd R.LIFE_ARG).toNat <
      0x02000000 ∨ 0x02400000 < (s.rd R.LIFE_ARG).toNat + 264 → Completes (.token m v) s fun t => s.Answered m 1 t ∧ t.fld F.LIFE_STAT_RESULT = 6 ∧ t.life = s.life ∧ t.mem
      = s.mem ∧ s.Only [R.LIFE_STAT] t) ∧
  (∀ (m : Master) (v : Word) (s : State), s.Reached m R.LIFE_CMD → s.is F.LIFE_STAT_BUSY = false → m.code = 1 ∨ m.code = 3 ∨ m.code = 5 → 0x02000000 ≤ (s.rd
      R.LIFE_ARG).toNat → (s.rd R.LIFE_ARG).toNat + 264 ≤ 0x02400000 → Completes (.token m v) s fun t => s.Answered m 0 t ∧ t.is F.LIFE_STAT_BUSY = true ∧ t.is
      F.LIFE_STAT_DONE = s.is F.LIFE_STAT_DONE ∧ t.life.run = some ⟨5, bitsOf v.toNat 4 3, bitsOf v.toNat 8 1, bitsOf v.toNat 16 7, (s.rd R.LIFE_ARG).toNat, m.code⟩ ∧
      t.life.resetDue = s.life.resetDue ∧ t.mem = s.mem ∧ s.Only [R.LIFE_CMD, R.LIFE_STAT] t) ∧
  (∀ (m : Master) (v : Word) (s : State), s.Reached m R.LIFE_CMD → s.is F.LIFE_STAT_BUSY = true → Completes (.cfgprog m v) s fun t => s.Answered m 1 t ∧ t.fld
      F.LIFE_STAT_RESULT = 1 ∧ t.life = s.life ∧ t.mem = s.mem ∧ s.Only [R.LIFE_STAT] t) ∧
  (∀ (m : Master) (v : Word) (s : State), s.Reached m R.LIFE_CMD → s.is F.LIFE_STAT_BUSY = false → m.code ≠ 1 → Completes (.cfgprog m v) s fun t => s.Answered m 2 t ∧
      t.fld F.LIFE_STAT_RESULT = 2 ∧ t.life = s.life ∧ t.mem = s.mem ∧ s.Only [R.LIFE_STAT] t) ∧
  (∀ (m : Master) (v : Word) (s : State), s.Reached m R.LIFE_CMD → s.is F.LIFE_STAT_BUSY = false → m.code = 1 → ¬ (s.fld F.LIFE_STATE_STATE = 1 ∨ s.fld
      F.LIFE_STATE_STATE = 2) → Completes (.cfgprog m v) s fun t => s.Answered m 1 t ∧ t.fld F.LIFE_STAT_RESULT = 3 ∧ t.life = s.life ∧ t.mem = s.mem ∧ s.Only
      [R.LIFE_STAT] t) ∧
  (∀ (m : Master) (v : Word) (s : State), s.Reached m R.LIFE_CMD → s.is F.LIFE_STAT_BUSY = false → m.code = 1 → s.fld F.LIFE_STATE_STATE = 1 ∨ s.fld F.LIFE_STATE_STATE
      = 2 → (s.rd R.LIFE_ARG).toNat < 0x02000000 ∨ 0x02400000 < (s.rd R.LIFE_ARG).toNat + 4 → Completes (.cfgprog m v) s fun t => s.Answered m 1 t ∧ t.fld
      F.LIFE_STAT_RESULT = 6 ∧ t.life = s.life ∧ t.mem = s.mem ∧ s.Only [R.LIFE_STAT] t) ∧
  (∀ (m : Master) (v : Word) (s : State), s.Reached m R.LIFE_CMD → s.is F.LIFE_STAT_BUSY = false → m.code = 1 → s.fld F.LIFE_STATE_STATE = 1 ∨ s.fld F.LIFE_STATE_STATE
      = 2 → 0x02000000 ≤ (s.rd R.LIFE_ARG).toNat → (s.rd R.LIFE_ARG).toNat + 4 ≤ 0x02400000 → Completes (.cfgprog m v) s fun t => s.Answered m 0 t ∧ t.is F.LIFE_STAT_BUSY
      = true ∧ t.is F.LIFE_STAT_DONE = s.is F.LIFE_STAT_DONE ∧ t.life.run = some ⟨6, bitsOf v.toNat 4 3, bitsOf v.toNat 8 1, bitsOf v.toNat 16 7, (s.rd R.LIFE_ARG).toNat,
      m.code⟩ ∧ t.life.resetDue = s.life.resetDue ∧ t.mem = s.mem ∧ s.Only [R.LIFE_CMD, R.LIFE_STAT] t) ∧
  (∀ (r : LifeRun) (s : State), s.domOn 1 = true → s.life.run = some r → r.op = 1 → 2 ≤ r.target → r.target ≤ 5 → Completes (.lifeCommandDone true) s fun t =>
      t.life.run = none ∧ t.is F.LIFE_STAT_BUSY = false ∧ t.is F.LIFE_STAT_DONE = true ∧ t.fld F.LIFE_STAT_RESULT = 0 ∧ (∀ j : Fin 3, t.byteAt (0x05000100 + j) = s.byteAt
      (0x05000100 + j) ||| BitVec.ofNat 8 (2 ^ (r.target - 1))) ∧ (∀ a, ¬ (0x05000100 ≤ a ∧ a < 0x05000100 + 3) → t.byteAt a = s.byteAt a) ∧ t.life.resetDue =
      (s.life.resetDue || decide (4 ≤ t.lifeBits ∧ t.lifeBits ≠ s.fld F.LIFE_STATE_STATE)) ∧ (t.lifeBits ≤ 3 → t.fld F.LIFE_STATE_STATE = t.lifeBits ∧ t.is
      F.LIFE_STATE_TORN = t.lifeTorn) ∧ (4 ≤ t.lifeBits → t.fld F.LIFE_STATE_STATE = s.fld F.LIFE_STATE_STATE ∧ t.is F.LIFE_STATE_TORN = t.lifeTorn) ∧ t.fld
      F.LIFE_DBG_STAT_LEVEL = (if t.lifeBits = 3 ∧ s.fld F.LIFE_STATE_STATE ≠ 3 then 0 else s.fld F.LIFE_DBG_STAT_LEVEL) ∧ t.out = s.out ∧ s.Only [R.LIFE_STAT,
      R.LIFE_STATE, R.LIFE_DBG_STAT] t) ∧
  (∀ (r : LifeRun) (s : State), s.domOn 1 = true → s.life.run = some r → r.op = 1 → 2 ≤ r.target → r.target ≤ 5 → Completes (.lifeCommandDone false) s fun t =>
      t.life.run = none ∧ t.is F.LIFE_STAT_BUSY = false ∧ t.is F.LIFE_STAT_DONE = true ∧ t.fld F.LIFE_STAT_RESULT = 7 ∧ (∀ j : Fin 3, t.byteAt (0x05000100 + j) = s.byteAt
      (0x05000100 + j) ||| (BitVec.ofNat 8 (2 ^ (r.target - 1)) &&& (Config.freeWord (s.free + j)).setWidth 8)) ∧ (∀ a, ¬ (0x05000100 ≤ a ∧ a < 0x05000100 + 3) → t.byteAt
      a = s.byteAt a) ∧ t.life.resetDue = (s.life.resetDue || decide (4 ≤ t.lifeBits ∧ t.lifeBits ≠ s.fld F.LIFE_STATE_STATE)) ∧ (t.lifeBits ≤ 3 → t.fld F.LIFE_STATE_STATE
      = t.lifeBits ∧ t.is F.LIFE_STATE_TORN = t.lifeTorn) ∧ (4 ≤ t.lifeBits → t.fld F.LIFE_STATE_STATE = s.fld F.LIFE_STATE_STATE ∧ t.is F.LIFE_STATE_TORN = t.lifeTorn) ∧
      t.fld F.LIFE_DBG_STAT_LEVEL = (if t.lifeBits = 3 ∧ s.fld F.LIFE_STATE_STATE ≠ 3 then 0 else s.fld F.LIFE_DBG_STAT_LEVEL) ∧ t.out = s.out ∧ t.free = s.free + 3) ∧
  (∀ (r : LifeRun) (s : State), s.domOn 1 = true → s.life.run = some r → r.op = 2 → r.slot < 2 → (s.memRead ⟨2, 1⟩ r.addr 48).2.1 = .done → Completes (.lifeCommandDone
      true) s fun t => t.life.run = none ∧ t.is F.LIFE_STAT_BUSY = false ∧ t.is F.LIFE_STAT_DONE = true ∧ t.fld F.LIFE_STAT_RESULT = 0 ∧ (∀ j : Fin 48, t.byteAt
      ((0x05000200 + 0x30 * r.slot) + j) = s.byteAt ((0x05000200 + 0x30 * r.slot) + j) ||| (s.memRead ⟨2, 1⟩ r.addr 48).2.2.getD j 0#8) ∧ (∀ a, ¬ ((0x05000200 + 0x30 *
      r.slot) ≤ a ∧ a < (0x05000200 + 0x30 * r.slot) + 48) → t.byteAt a = s.byteAt a) ∧ t.life.resetDue = (s.life.resetDue || decide (4 ≤ t.lifeBits ∧ t.lifeBits ≠ s.fld
      F.LIFE_STATE_STATE)) ∧ (t.lifeBits ≤ 3 → t.fld F.LIFE_STATE_STATE = t.lifeBits ∧ t.is F.LIFE_STATE_TORN = t.lifeTorn) ∧ (4 ≤ t.lifeBits → t.fld F.LIFE_STATE_STATE =
      s.fld F.LIFE_STATE_STATE ∧ t.is F.LIFE_STATE_TORN = t.lifeTorn) ∧ t.fld F.LIFE_DBG_STAT_LEVEL = (if t.lifeBits = 3 ∧ s.fld F.LIFE_STATE_STATE ≠ 3 then 0 else s.fld
      F.LIFE_DBG_STAT_LEVEL) ∧ t.out = s.out ∧ s.OnlyBlocks [blockOf R.LIFE_STAT, blockOf R.MEMX_STAT] t) ∧
  (∀ (r : LifeRun) (s : State), s.domOn 1 = true → s.life.run = some r → r.op = 2 → r.slot < 2 → (s.memRead ⟨2, 1⟩ r.addr 48).2.1 = .done → Completes (.lifeCommandDone
      false) s fun t => t.life.run = none ∧ t.is F.LIFE_STAT_BUSY = false ∧ t.is F.LIFE_STAT_DONE = true ∧ t.fld F.LIFE_STAT_RESULT = 7 ∧ (∀ j : Fin 48, t.byteAt
      ((0x05000200 + 0x30 * r.slot) + j) = s.byteAt ((0x05000200 + 0x30 * r.slot) + j) ||| ((s.memRead ⟨2, 1⟩ r.addr 48).2.2.getD j 0#8 &&& (Config.freeWord (s.free +
      j)).setWidth 8)) ∧ (∀ a, ¬ ((0x05000200 + 0x30 * r.slot) ≤ a ∧ a < (0x05000200 + 0x30 * r.slot) + 48) → t.byteAt a = s.byteAt a) ∧ t.life.resetDue = (s.life.resetDue
      || decide (4 ≤ t.lifeBits ∧ t.lifeBits ≠ s.fld F.LIFE_STATE_STATE)) ∧ (t.lifeBits ≤ 3 → t.fld F.LIFE_STATE_STATE = t.lifeBits ∧ t.is F.LIFE_STATE_TORN = t.lifeTorn)
      ∧ (4 ≤ t.lifeBits → t.fld F.LIFE_STATE_STATE = s.fld F.LIFE_STATE_STATE ∧ t.is F.LIFE_STATE_TORN = t.lifeTorn) ∧ t.fld F.LIFE_DBG_STAT_LEVEL = (if t.lifeBits = 3 ∧
      s.fld F.LIFE_STATE_STATE ≠ 3 then 0 else s.fld F.LIFE_DBG_STAT_LEVEL) ∧ t.out = s.out ∧ t.free = s.free + 48) ∧
  (∀ (ok : Bool) (r : LifeRun) (s : State), s.domOn 1 = true → s.life.run = some r → r.op = 2 → r.slot < 2 → (s.memRead ⟨2, 1⟩ r.addr 48).2.1 ≠ .done → Completes
      (.lifeCommandDone ok) s fun t => t.life.run = none ∧ t.is F.LIFE_STAT_BUSY = false ∧ t.is F.LIFE_STAT_DONE = true ∧ t.fld F.LIFE_STAT_RESULT = 7 ∧ (∀ a, t.byteAt a =
      s.byteAt a) ∧ t.life.resetDue = s.life.resetDue ∧ t.out = s.out) ∧
  (∀ (r : LifeRun) (s : State), s.domOn 1 = true → s.life.run = some r → r.op = 3 → r.slot < 2 → Completes (.lifeCommandDone true) s fun t => t.life.run = none ∧ t.is
      F.LIFE_STAT_BUSY = false ∧ t.is F.LIFE_STAT_DONE = true ∧ t.fld F.LIFE_STAT_RESULT = 0 ∧ (∀ j : Fin 1, t.byteAt (0x05000260 + j) = s.byteAt (0x05000260 + j) |||
      BitVec.ofNat 8 (2 ^ r.slot)) ∧ (∀ a, ¬ (0x05000260 ≤ a ∧ a < 0x05000260 + 1) → t.byteAt a = s.byteAt a) ∧ t.life.resetDue = (s.life.resetDue || decide (4 ≤
      t.lifeBits ∧ t.lifeBits ≠ s.fld F.LIFE_STATE_STATE)) ∧ (t.lifeBits ≤ 3 → t.fld F.LIFE_STATE_STATE = t.lifeBits ∧ t.is F.LIFE_STATE_TORN = t.lifeTorn) ∧ (4 ≤
      t.lifeBits → t.fld F.LIFE_STATE_STATE = s.fld F.LIFE_STATE_STATE ∧ t.is F.LIFE_STATE_TORN = t.lifeTorn) ∧ t.fld F.LIFE_DBG_STAT_LEVEL = (if t.lifeBits = 3 ∧ s.fld
      F.LIFE_STATE_STATE ≠ 3 then 0 else s.fld F.LIFE_DBG_STAT_LEVEL) ∧ t.out = s.out ∧ s.Only [R.LIFE_STAT, R.LIFE_STATE, R.LIFE_DBG_STAT] t) ∧
  (∀ (r : LifeRun) (s : State), s.domOn 1 = true → s.life.run = some r → r.op = 3 → r.slot < 2 → Completes (.lifeCommandDone false) s fun t => t.life.run = none ∧ t.is
      F.LIFE_STAT_BUSY = false ∧ t.is F.LIFE_STAT_DONE = true ∧ t.fld F.LIFE_STAT_RESULT = 7 ∧ (∀ j : Fin 1, t.byteAt (0x05000260 + j) = s.byteAt (0x05000260 + j) |||
      (BitVec.ofNat 8 (2 ^ r.slot) &&& (Config.freeWord (s.free + j)).setWidth 8)) ∧ (∀ a, ¬ (0x05000260 ≤ a ∧ a < 0x05000260 + 1) → t.byteAt a = s.byteAt a) ∧
      t.life.resetDue = (s.life.resetDue || decide (4 ≤ t.lifeBits ∧ t.lifeBits ≠ s.fld F.LIFE_STATE_STATE)) ∧ (t.lifeBits ≤ 3 → t.fld F.LIFE_STATE_STATE = t.lifeBits ∧
      t.is F.LIFE_STATE_TORN = t.lifeTorn) ∧ (4 ≤ t.lifeBits → t.fld F.LIFE_STATE_STATE = s.fld F.LIFE_STATE_STATE ∧ t.is F.LIFE_STATE_TORN = t.lifeTorn) ∧ t.fld
      F.LIFE_DBG_STAT_LEVEL = (if t.lifeBits = 3 ∧ s.fld F.LIFE_STATE_STATE ≠ 3 then 0 else s.fld F.LIFE_DBG_STAT_LEVEL) ∧ t.out = s.out ∧ t.free = s.free + 1) ∧
  (∀ (r : LifeRun) (s : State), s.domOn 1 = true → s.life.run = some r → r.op = 4 → Completes (.lifeCommandDone true) s fun t => t.life.run = none ∧ t.is
      F.LIFE_STAT_BUSY = false ∧ t.is F.LIFE_STAT_DONE = true ∧ t.fld F.LIFE_STAT_RESULT = 0 ∧ (∀ j : Fin 8, t.byteAt (0x05000268 + j) = s.byteAt (0x05000268 + j) |||
      (leBytes 8 (2 ^ r.value - 1)).getD j 0#8) ∧ (∀ a, ¬ (0x05000268 ≤ a ∧ a < 0x05000268 + 8) → t.byteAt a = s.byteAt a) ∧ t.life.resetDue = (s.life.resetDue || decide
      (4 ≤ t.lifeBits ∧ t.lifeBits ≠ s.fld F.LIFE_STATE_STATE)) ∧ (t.lifeBits ≤ 3 → t.fld F.LIFE_STATE_STATE = t.lifeBits ∧ t.is F.LIFE_STATE_TORN = t.lifeTorn) ∧ (4 ≤
      t.lifeBits → t.fld F.LIFE_STATE_STATE = s.fld F.LIFE_STATE_STATE ∧ t.is F.LIFE_STATE_TORN = t.lifeTorn) ∧ t.fld F.LIFE_DBG_STAT_LEVEL = (if t.lifeBits = 3 ∧ s.fld
      F.LIFE_STATE_STATE ≠ 3 then 0 else s.fld F.LIFE_DBG_STAT_LEVEL) ∧ t.out = s.out ∧ s.Only [R.LIFE_STAT, R.LIFE_STATE, R.LIFE_DBG_STAT] t) ∧
  (∀ (r : LifeRun) (s : State), s.domOn 1 = true → s.life.run = some r → r.op = 4 → Completes (.lifeCommandDone false) s fun t => t.life.run = none ∧ t.is
      F.LIFE_STAT_BUSY = false ∧ t.is F.LIFE_STAT_DONE = true ∧ t.fld F.LIFE_STAT_RESULT = 7 ∧ (∀ j : Fin 8, t.byteAt (0x05000268 + j) = s.byteAt (0x05000268 + j) |||
      ((leBytes 8 (2 ^ r.value - 1)).getD j 0#8 &&& (Config.freeWord (s.free + j)).setWidth 8)) ∧ (∀ a, ¬ (0x05000268 ≤ a ∧ a < 0x05000268 + 8) → t.byteAt a = s.byteAt a)
      ∧ t.life.resetDue = (s.life.resetDue || decide (4 ≤ t.lifeBits ∧ t.lifeBits ≠ s.fld F.LIFE_STATE_STATE)) ∧ (t.lifeBits ≤ 3 → t.fld F.LIFE_STATE_STATE = t.lifeBits ∧
      t.is F.LIFE_STATE_TORN = t.lifeTorn) ∧ (4 ≤ t.lifeBits → t.fld F.LIFE_STATE_STATE = s.fld F.LIFE_STATE_STATE ∧ t.is F.LIFE_STATE_TORN = t.lifeTorn) ∧ t.fld
      F.LIFE_DBG_STAT_LEVEL = (if t.lifeBits = 3 ∧ s.fld F.LIFE_STATE_STATE ≠ 3 then 0 else s.fld F.LIFE_DBG_STAT_LEVEL) ∧ t.out = s.out ∧ t.free = s.free + 8) ∧
  (∀ (r : LifeRun) (s : State), s.domOn 1 = true → s.life.run = some r → r.op = 6 → r.slot < 2 → (s.memRead ⟨2, 1⟩ r.addr 4).2.1 = .done → Completes (.lifeCommandDone
      true) s fun t => t.life.run = none ∧ t.is F.LIFE_STAT_BUSY = false ∧ t.is F.LIFE_STAT_DONE = true ∧ t.fld F.LIFE_STAT_RESULT = 0 ∧ (∀ j : Fin 4, t.byteAt
      ((0x05000270 + 4 * r.slot) + j) = s.byteAt ((0x05000270 + 4 * r.slot) + j) ||| (s.memRead ⟨2, 1⟩ r.addr 4).2.2.getD j 0#8) ∧ (∀ a, ¬ ((0x05000270 + 4 * r.slot) ≤ a ∧
      a < (0x05000270 + 4 * r.slot) + 4) → t.byteAt a = s.byteAt a) ∧ t.life.resetDue = (s.life.resetDue || decide (4 ≤ t.lifeBits ∧ t.lifeBits ≠ s.fld
      F.LIFE_STATE_STATE)) ∧ (t.lifeBits ≤ 3 → t.fld F.LIFE_STATE_STATE = t.lifeBits ∧ t.is F.LIFE_STATE_TORN = t.lifeTorn) ∧ (4 ≤ t.lifeBits → t.fld F.LIFE_STATE_STATE =
      s.fld F.LIFE_STATE_STATE ∧ t.is F.LIFE_STATE_TORN = t.lifeTorn) ∧ t.fld F.LIFE_DBG_STAT_LEVEL = (if t.lifeBits = 3 ∧ s.fld F.LIFE_STATE_STATE ≠ 3 then 0 else s.fld
      F.LIFE_DBG_STAT_LEVEL) ∧ t.out = s.out ∧ s.OnlyBlocks [blockOf R.LIFE_STAT, blockOf R.MEMX_STAT] t) ∧
  (∀ (r : LifeRun) (s : State), s.domOn 1 = true → s.life.run = some r → r.op = 6 → r.slot < 2 → (s.memRead ⟨2, 1⟩ r.addr 4).2.1 = .done → Completes (.lifeCommandDone
      false) s fun t => t.life.run = none ∧ t.is F.LIFE_STAT_BUSY = false ∧ t.is F.LIFE_STAT_DONE = true ∧ t.fld F.LIFE_STAT_RESULT = 7 ∧ (∀ j : Fin 4, t.byteAt
      ((0x05000270 + 4 * r.slot) + j) = s.byteAt ((0x05000270 + 4 * r.slot) + j) ||| ((s.memRead ⟨2, 1⟩ r.addr 4).2.2.getD j 0#8 &&& (Config.freeWord (s.free +
      j)).setWidth 8)) ∧ (∀ a, ¬ ((0x05000270 + 4 * r.slot) ≤ a ∧ a < (0x05000270 + 4 * r.slot) + 4) → t.byteAt a = s.byteAt a) ∧ t.life.resetDue = (s.life.resetDue ||
      decide (4 ≤ t.lifeBits ∧ t.lifeBits ≠ s.fld F.LIFE_STATE_STATE)) ∧ (t.lifeBits ≤ 3 → t.fld F.LIFE_STATE_STATE = t.lifeBits ∧ t.is F.LIFE_STATE_TORN = t.lifeTorn) ∧
      (4 ≤ t.lifeBits → t.fld F.LIFE_STATE_STATE = s.fld F.LIFE_STATE_STATE ∧ t.is F.LIFE_STATE_TORN = t.lifeTorn) ∧ t.fld F.LIFE_DBG_STAT_LEVEL = (if t.lifeBits = 3 ∧
      s.fld F.LIFE_STATE_STATE ≠ 3 then 0 else s.fld F.LIFE_DBG_STAT_LEVEL) ∧ t.out = s.out ∧ t.free = s.free + 4) ∧
  (∀ (ok : Bool) (r : LifeRun) (s : State), s.domOn 1 = true → s.life.run = some r → r.op = 6 → r.slot < 2 → (s.memRead ⟨2, 1⟩ r.addr 4).2.1 ≠ .done → Completes
      (.lifeCommandDone ok) s fun t => t.life.run = none ∧ t.is F.LIFE_STAT_BUSY = false ∧ t.is F.LIFE_STAT_DONE = true ∧ t.fld F.LIFE_STAT_RESULT = 7 ∧ (∀ a, t.byteAt a =
      s.byteAt a) ∧ t.life.resetDue = s.life.resetDue ∧ t.out = s.out) ∧
  (∀ (ok : Bool) (r : LifeRun) (data : List (BitVec 8)) (s : State), s.domOn 1 = true → s.life.run = some r → r.op = 5 → s.memRead ⟨2, 1⟩ r.addr 264 = (s, .done, data)
      → s.tokenOk data r.master = false → Completes (.lifeCommandDone ok) s fun t => t.life.run = none ∧ t.is F.LIFE_STAT_BUSY = false ∧ t.is F.LIFE_STAT_DONE = true ∧
      t.fld F.LIFE_STAT_RESULT = 5 ∧ t.life.resetDue = s.life.resetDue ∧ t.mem = s.mem ∧ t.out = s.out ∧ s.Only [R.LIFE_STAT] t) ∧
  (∀ (r : LifeRun) (data : List (BitVec 8)) (acc : Bool) (s : State), s.domOn 1 = true → s.life.run = some r → r.op = 5 → s.memRead ⟨2, 1⟩ r.addr 264 = (s, .done, data)
      → wordOf data 0 = 0x4B545256 → wordOf data 8 = (s.rd R.IDENT_LOT_LO).toNat → wordOf data 0xC = (s.rd R.IDENT_LOT_HI).toNat → wordOf data 0x10 = (s.rd
      R.IDENT_DIE).toNat % 65536 → (∀ i : Fin 4, wordOf data (0x14 + 4 * i) = (s.rd (R.LIFE_NONCE i)).toNat) → slice data 0x28 24 = List.replicate 24 0#8 → slice data 0xA1
      7 = List.replicate 7 0#8 → wordOf data 4 = 1 → acc = decide (wordOf data 0x24 = 0 ∧ (s.fld F.LIFE_STATE_STATE = 2 ∨ s.fld F.LIFE_STATE_STATE = 3) ∧ s.keyOf (slice
      data 0x40 97) = 1 ∧ ecdsaP384 (sha384 (data.take 64)) (slice data 0x40 97) (slice data 0xA8 96) = true) → Completes (.lifeCommandDone true) s fun t => t.fld
      F.LIFE_STAT_RESULT = (if acc then 0 else 5) ∧ (∀ i : Fin 4, t.rd (R.LIFE_NONCE i) = (if acc then Config.nonce s.free i else s.rd (R.LIFE_NONCE i))) ∧ (∀ j : Fin 3,
      t.byteAt (0x05000100 + j) = (if acc then s.byteAt (0x05000100 + j) ||| 8#8 else s.byteAt (0x05000100 + j))) ∧ (∀ a, ¬ (0x05000100 ≤ a ∧ a < 0x05000103) → t.byteAt a
      = s.byteAt a) ∧ t.life.run = none ∧ t.is F.LIFE_STAT_BUSY = false ∧ t.is F.LIFE_STAT_DONE = true ∧ t.life.resetDue = (s.life.resetDue || acc) ∧ t.fld
      F.LIFE_STATE_STATE = s.fld F.LIFE_STATE_STATE ∧ t.is F.LIFE_STATE_TORN = (if acc then t.lifeTorn else s.is F.LIFE_STATE_TORN) ∧ t.rd R.LIFE_DBG_STAT = s.rd
      R.LIFE_DBG_STAT ∧ s.Only [R.LIFE_STAT, R.LIFE_STATE, R.LIFE_NONCE 0, R.LIFE_NONCE 1, R.LIFE_NONCE 2, R.LIFE_NONCE 3] t ∧ t.out = s.out) ∧
  (∀ (r : LifeRun) (data : List (BitVec 8)) (acc : Bool) (s : State), s.domOn 1 = true → s.life.run = some r → r.op = 5 → s.memRead ⟨2, 1⟩ r.addr 264 = (s, .done, data)
      → wordOf data 0 = 0x4B545256 → wordOf data 8 = (s.rd R.IDENT_LOT_LO).toNat → wordOf data 0xC = (s.rd R.IDENT_LOT_HI).toNat → wordOf data 0x10 = (s.rd
      R.IDENT_DIE).toNat % 65536 → (∀ i : Fin 4, wordOf data (0x14 + 4 * i) = (s.rd (R.LIFE_NONCE i)).toNat) → slice data 0x28 24 = List.replicate 24 0#8 → slice data 0xA1
      7 = List.replicate 7 0#8 → wordOf data 4 = 1 → acc = decide (wordOf data 0x24 = 0 ∧ (s.fld F.LIFE_STATE_STATE = 2 ∨ s.fld F.LIFE_STATE_STATE = 3) ∧ s.keyOf (slice
      data 0x40 97) = 1 ∧ ecdsaP384 (sha384 (data.take 64)) (slice data 0x40 97) (slice data 0xA8 96) = true) → Completes (.lifeCommandDone false) s fun t => t.fld
      F.LIFE_STAT_RESULT = (if acc then 7 else 5) ∧ (∀ i : Fin 4, t.rd (R.LIFE_NONCE i) = (if acc then Config.nonce s.free i else s.rd (R.LIFE_NONCE i))) ∧ (∀ j : Fin 3,
      t.byteAt (0x05000100 + j) = (if acc then s.byteAt (0x05000100 + j) ||| (8#8 &&& (Config.freeWord (s.free + 1 + j)).setWidth 8) else s.byteAt (0x05000100 + j))) ∧ (∀
      a, ¬ (0x05000100 ≤ a ∧ a < 0x05000103) → t.byteAt a = s.byteAt a) ∧ t.life.run = none ∧ t.is F.LIFE_STAT_BUSY = false ∧ t.is F.LIFE_STAT_DONE = true ∧
      t.life.resetDue = (s.life.resetDue || decide (acc = true ∧ 4 ≤ t.lifeBits ∧ t.lifeBits ≠ s.fld F.LIFE_STATE_STATE)) ∧ t.fld F.LIFE_STATE_STATE = (if acc = true ∧
      t.lifeBits ≤ 3 then t.lifeBits else s.fld F.LIFE_STATE_STATE) ∧ t.is F.LIFE_STATE_TORN = (if acc then t.lifeTorn else s.is F.LIFE_STATE_TORN) ∧ t.fld
      F.LIFE_DBG_STAT_LEVEL = (if acc = true ∧ t.lifeBits = 3 ∧ s.fld F.LIFE_STATE_STATE ≠ 3 then 0 else s.fld F.LIFE_DBG_STAT_LEVEL) ∧ s.Only [R.LIFE_STAT, R.LIFE_STATE,
      R.LIFE_DBG_STAT, R.LIFE_NONCE 0, R.LIFE_NONCE 1, R.LIFE_NONCE 2, R.LIFE_NONCE 3] t ∧ t.out = s.out) ∧
  (∀ (ok : Bool) (r : LifeRun) (data : List (BitVec 8)) (s : State), s.domOn 1 = true → s.life.run = some r → r.op = 5 → s.memRead ⟨2, 1⟩ r.addr 264 = (s, .done, data)
      → wordOf data 0 = 0x4B545256 → wordOf data 8 = (s.rd R.IDENT_LOT_LO).toNat → wordOf data 0xC = (s.rd R.IDENT_LOT_HI).toNat → wordOf data 0x10 = (s.rd
      R.IDENT_DIE).toNat % 65536 → (∀ i : Fin 4, wordOf data (0x14 + 4 * i) = (s.rd (R.LIFE_NONCE i)).toNat) → slice data 0x28 24 = List.replicate 24 0#8 → slice data 0xA1
      7 = List.replicate 7 0#8 → wordOf data 4 = 2 → Completes (.lifeCommandDone ok) s fun t => t.fld F.LIFE_STAT_RESULT = (if ecdsaP384 (sha384 (data.take 64)) (slice
      data 0x40 97) (slice data 0xA8 96) = true ∧ (wordOf data 0x24 = 1 ∨ wordOf data 0x24 = 2) ∧ 2 ≤ s.keyOf (slice data 0x40 97) ∧ s.fld F.LIFE_STATE_STATE = 3 ∧
      (r.master = 3 ∨ r.master = 5) then 0 else 5) ∧ (∀ i : Fin 4, t.rd (R.LIFE_NONCE i) = (if ecdsaP384 (sha384 (data.take 64)) (slice data 0x40 97) (slice data 0xA8 96)
      = true ∧ (wordOf data 0x24 = 1 ∨ wordOf data 0x24 = 2) ∧ 2 ≤ s.keyOf (slice data 0x40 97) ∧ s.fld F.LIFE_STATE_STATE = 3 ∧ (r.master = 3 ∨ r.master = 5) then
      Config.nonce s.free i else s.rd (R.LIFE_NONCE i))) ∧ t.fld F.LIFE_DBG_STAT_LEVEL = (if ecdsaP384 (sha384 (data.take 64)) (slice data 0x40 97) (slice data 0xA8 96) =
      true ∧ (wordOf data 0x24 = 1 ∨ wordOf data 0x24 = 2) ∧ 2 ≤ s.keyOf (slice data 0x40 97) ∧ s.fld F.LIFE_STATE_STATE = 3 ∧ (r.master = 3 ∨ r.master = 5) then max
      (s.fld F.LIFE_DBG_STAT_LEVEL) (wordOf data 0x24) else s.fld F.LIFE_DBG_STAT_LEVEL) ∧ t.life.run = none ∧ t.life.resetDue = s.life.resetDue ∧ t.is F.LIFE_STAT_BUSY =
      false ∧ t.is F.LIFE_STAT_DONE = true ∧ t.mem = s.mem ∧ t.out = s.out ∧ s.Only [R.LIFE_STAT, R.LIFE_DBG_STAT, R.LIFE_NONCE 0, R.LIFE_NONCE 1, R.LIFE_NONCE 2,
      R.LIFE_NONCE 3] t) ∧
  (∀ (ok : Bool) (r : LifeRun) (s : State), s.domOn 1 = true → s.life.run = some r → r.op = 5 → (s.memRead ⟨2, 1⟩ r.addr 264).2.1 ≠ .done → Completes (.lifeCommandDone
      ok) s fun t => t.life.run = none ∧ t.is F.LIFE_STAT_BUSY = false ∧ t.is F.LIFE_STAT_DONE = true ∧ t.fld F.LIFE_STAT_RESULT = 5 ∧ (∀ a, t.byteAt a = s.byteAt a) ∧
      t.life.resetDue = s.life.resetDue ∧ (∀ i : Fin 4, t.rd (R.LIFE_NONCE i) = s.rd (R.LIFE_NONCE i)) ∧ t.fld F.LIFE_DBG_STAT_LEVEL = s.fld F.LIFE_DBG_STAT_LEVEL ∧ t.out
      = s.out) ∧
  (∀ (ok : Bool) (s : State), s.domOn 1 = false ∨ s.life.run = none → s.IrqRemembered → Completes (.lifeCommandDone ok) s fun t => t = s)

/-- MEMX.CLR from 0x1 zeroes one ECC word of a memory and makes it sound; another master, another address, ROM and the OTP shadow are refused. A scrubber access of a word, of
which the flips given have turned some bits, corrects it where its class is correctable, poisons it where it is not, logging each, and passes a poisoned one by; a full log
drops or replaces by its rule; a lap that ends records its time and clears STALL when it took under 60 s; an idle scrubber reads nothing. RETIRE starts a copy where a spare is
left, else removes the target and its contents, or is refused with the first reason (log entry 69); a finished copy retires the target and uses up the spare. A word of the OTP
shadow is clean once reloaded. BIST from 0x1 or 0x3 copies its target into the save area, or is refused with the first reason, and its end is recorded; the words that fail to
restore are poisoned and logged in order, with the rule of a full log. A command that finds nothing to do changes nothing. That ROM and OTP shadow refuse CLR, and when spares
fall, is log entry 68, flips by operand while the scrubber is off log entry 67 (model's choice), self-tested lanes log entry 106; an address outside the memories is R431 of
chapter 18. (Rests on 13_memory_integrity_selftest.md, 18_register_map.md.) -/
def Obligations.MemoryIntegrityIsKept : Prop :=
  (∀ (m : Master) (v : Word) (s : State), s.Reached m R.MEMX_CLR → m.code = 1 → 0x01000000 ≤ v.toNat ∧ v.toNat < 0x01800000 ∨ 0x02000000 ≤ v.toNat ∧ v.toNat <
      0x02800000 → s.memGate (v.toNat - v.toNat % 8) = none → s.memGate ((v.toNat - v.toNat % 8) + 7) = none → Completes (.memxClr m v) s fun t => s.Answered m 0 t ∧
      t.bytesAt (v.toNat - v.toNat % 8) 8 = List.replicate 8 0#8 ∧ t.flipsAt (v.toNat - v.toNat % 8) = 0 ∧ (∀ a, ¬ ((v.toNat - v.toNat % 8) ≤ a ∧ a < (v.toNat - v.toNat %
      8) + 8) → t.byteAt a = s.byteAt a ∧ (a ≠ (v.toNat - v.toNat % 8) → t.flipsAt a = s.flipsAt a)) ∧ t.integ.log = s.integ.log ∧ s.Only [] t) ∧
  (∀ (m : Master) (v : Word) (s : State), s.Reached m R.MEMX_CLR → m.code = 1 → 0x03000000 ≤ v.toNat ∧ v.toNat < 0x03180000 ∧ v.toNat % 0x8000 < 0x6000 → s.memGate
      (v.toNat - v.toNat % 4) = none → s.memGate ((v.toNat - v.toNat % 4) + 3) = none → Completes (.memxClr m v) s fun t => s.Answered m 0 t ∧ t.bytesAt (v.toNat - v.toNat
      % 4) 4 = List.replicate 4 0#8 ∧ t.flipsAt (v.toNat - v.toNat % 4) = 0 ∧ (∀ a, ¬ ((v.toNat - v.toNat % 4) ≤ a ∧ a < (v.toNat - v.toNat % 4) + 4) → t.byteAt a =
      s.byteAt a ∧ (a ≠ (v.toNat - v.toNat % 4) → t.flipsAt a = s.flipsAt a)) ∧ t.integ.log = s.integ.log ∧ s.Only [] t) ∧
  (∀ (m : Master) (v : Word) (s : State), s.Reached m R.MEMX_CLR → m.code ≠ 1 → Completes (.memxClr m v) s fun t => s.Answered m 2 t ∧ t.mem = s.mem ∧ t.integ = s.integ
      ∧ s.Only [] t) ∧
  (∀ (m : Master) (v : Word) (s : State), s.Reached m R.MEMX_CLR → m.code = 1 → areaOf (v.toNat - v.toNat % 4) = none ∨ v.toNat < 0x20000 ∨ 0x05000000 ≤ v.toNat ∧
      v.toNat < 0x05001000 ∨ s.memGate (eccBase (v.toNat - v.toNat % 4)) ≠ none → Completes (.memxClr m v) s fun t => s.Answered m 1 t ∧ t.mem = s.mem ∧ t.integ = s.integ
      ∧ s.Only [] t) ∧
  (∀ (r : Fin 5) (lane : Fin 48) (flips : BitVec 72) (i w v : Nat) (s : State), s.scrubOn r lane = true → s.scrubWord r lane = some i → w = (if r.val = 0 then
      0x01000000 else if r.val = 1 then 0x02000000 else if r.val = 2 then 0x02400000 else if r.val = 3 then 0x05000000 else 0x03000000 + lane.val * 0x8000) + i * (if r.val
      = 4 then 4 else 8) → v = s.flipsAt w ^^^ flips.toNat % 2 ^ (if r.val = 4 then 39 else 72) → s.is F.MEMX_CTL_SCRUB_EN = true → eccClass (r.val == 4) v = .clean →
      Completes (.scrubAccess r lane flips) s fun t => (∀ j : Fin 8, j.val < (if r.val = 4 then 4 else 8) → t.byteAt (w + j) = s.byteAt (w + j) ^^^ BitVec.ofNat 8 (v / 2 ^
      (8 * j.val))) ∧ (∀ a, ¬ (w ≤ a ∧ a < w + (if r.val = 4 then 4 else 8)) → t.byteAt a = s.byteAt a ∧ t.flipsAt a = s.flipsAt a) ∧ t.flipsAt w = 0 ∧ t.integ.log =
      s.integ.log ∧ t.out = s.out ∧ s.Only [R.MEMX_SCRUB_STAT, R.MEMX_SCRUB_LAP r] t) ∧
  (∀ (r : Fin 5) (lane : Fin 48) (flips : BitVec 72) (i w v : Nat) (b : Nat) (syn : BitVec 8) (s : State), s.scrubOn r lane = true → s.scrubWord r lane = some i → w =
      (if r.val = 0 then 0x01000000 else if r.val = 1 then 0x02000000 else if r.val = 2 then 0x02400000 else if r.val = 3 then 0x05000000 else 0x03000000 + lane.val *
      0x8000) + i * (if r.val = 4 then 4 else 8) → v = s.flipsAt w ^^^ flips.toNat % 2 ^ (if r.val = 4 then 39 else 72) → s.is F.MEMX_CTL_SCRUB_EN = true → eccClass (r.val
      == 4) v = .ce b syn → s.integ.log.length < 16 → Completes (.scrubAccess r lane flips) s fun t => (∀ j : Fin 8, j.val < (if r.val = 4 then 4 else 8) → t.byteAt (w +
      j) = s.byteAt (w + j) ^^^ BitVec.ofNat 8 ((v ^^^ 2 ^ b) / 2 ^ (8 * j.val))) ∧ (∀ a, ¬ (w ≤ a ∧ a < w + (if r.val = 4 then 4 else 8)) → t.byteAt a = s.byteAt a ∧
      t.flipsAt a = s.flipsAt a) ∧ t.flipsAt w = 0 ∧ t.is F.MEMX_EVENT_CE = true ∧ (r.val < 3 → t.fld ⟨R.MEMX_BANK_CE (bankOf w / 4), 8 * (bankOf w % 4), 8⟩ = min (s.fld
      ⟨R.MEMX_BANK_CE (bankOf w / 4), 8 * (bankOf w % 4), 8⟩ + 1) 255) ∧ (r.val = 4 → t.fld ⟨R.MEMX_LANE_CE (lane.val / 4), 8 * (lane.val % 4), 8⟩ = min (s.fld
      ⟨R.MEMX_LANE_CE (lane.val / 4), 8 * (lane.val % 4), 8⟩ + 1) 255) ∧ t.integ.log = s.integ.log ++ [⟨s.tb.toNat, BitVec.ofNat 32 (0 + 8 * (r.val + 1) + 32768 *
      syn.toNat + 8388608 * b), BitVec.ofNat 32 w⟩] ∧ t.rd R.MEMX_LOG_DROP = s.rd R.MEMX_LOG_DROP ∧ t.out = s.out ∧ s.Only [R.MEMX_EVENT, R.MEMX_LOG_DROP, R.MEMX_BANK_CE
      (bankOf w / 4), R.MEMX_LANE_CE (lane.val / 4), R.MEMX_SCRUB_STAT, R.MEMX_SCRUB_LAP r] t) ∧
  (∀ (r : Fin 5) (lane : Fin 48) (flips : BitVec 72) (i w v : Nat) (b : Nat) (syn : BitVec 8) (s : State), s.scrubOn r lane = true → s.scrubWord r lane = some i → w =
      (if r.val = 0 then 0x01000000 else if r.val = 1 then 0x02000000 else if r.val = 2 then 0x02400000 else if r.val = 3 then 0x05000000 else 0x03000000 + lane.val *
      0x8000) + i * (if r.val = 4 then 4 else 8) → v = s.flipsAt w ^^^ flips.toNat % 2 ^ (if r.val = 4 then 39 else 72) → s.is F.MEMX_CTL_SCRUB_EN = true → eccClass (r.val
      == 4) v = .ce b syn → s.integ.log.length = 16 → Completes (.scrubAccess r lane flips) s fun t => (∀ j : Fin 8, j.val < (if r.val = 4 then 4 else 8) → t.byteAt (w +
      j) = s.byteAt (w + j) ^^^ BitVec.ofNat 8 ((v ^^^ 2 ^ b) / 2 ^ (8 * j.val))) ∧ (∀ a, ¬ (w ≤ a ∧ a < w + (if r.val = 4 then 4 else 8)) → t.byteAt a = s.byteAt a ∧
      t.flipsAt a = s.flipsAt a) ∧ t.flipsAt w = 0 ∧ t.is F.MEMX_EVENT_CE = true ∧ (r.val < 3 → t.fld ⟨R.MEMX_BANK_CE (bankOf w / 4), 8 * (bankOf w % 4), 8⟩ = min (s.fld
      ⟨R.MEMX_BANK_CE (bankOf w / 4), 8 * (bankOf w % 4), 8⟩ + 1) 255) ∧ (r.val = 4 → t.fld ⟨R.MEMX_LANE_CE (lane.val / 4), 8 * (lane.val % 4), 8⟩ = min (s.fld
      ⟨R.MEMX_LANE_CE (lane.val / 4), 8 * (lane.val % 4), 8⟩ + 1) 255) ∧ t.integ.log = s.integ.log ∧ t.fld F.MEMX_LOG_DROP_CE = min (s.fld F.MEMX_LOG_DROP_CE + 1) 65535 ∧
      t.is F.MEMX_EVENT_LOG_FULL = true ∧ t.out = s.out ∧ s.Only [R.MEMX_EVENT, R.MEMX_LOG_DROP, R.MEMX_BANK_CE (bankOf w / 4), R.MEMX_LANE_CE (lane.val / 4),
      R.MEMX_SCRUB_STAT, R.MEMX_SCRUB_LAP r] t) ∧
  (∀ (r : Fin 5) (lane : Fin 48) (flips : BitVec 72) (i w v : Nat) (syn : BitVec 8) (s : State), s.scrubOn r lane = true → s.scrubWord r lane = some i → w = (if r.val =
      0 then 0x01000000 else if r.val = 1 then 0x02000000 else if r.val = 2 then 0x02400000 else if r.val = 3 then 0x05000000 else 0x03000000 + lane.val * 0x8000) + i *
      (if r.val = 4 then 4 else 8) → v = s.flipsAt w ^^^ flips.toNat % 2 ^ (if r.val = 4 then 39 else 72) → s.is F.MEMX_CTL_SCRUB_EN = true → eccClass (r.val == 4) v = .ue
      syn → s.integ.log.length < 16 → Completes (.scrubAccess r lane flips) s fun t => (∀ j : Fin 8, j.val < (if r.val = 4 then 4 else 8) → t.byteAt (w + j) = s.byteAt (w
      + j) ^^^ BitVec.ofNat 8 (0 / 2 ^ (8 * j.val))) ∧ (∀ a, ¬ (w ≤ a ∧ a < w + (if r.val = 4 then 4 else 8)) → t.byteAt a = s.byteAt a ∧ t.flipsAt a = s.flipsAt a) ∧
      t.flipsAt w = poisonFlips (r.val == 4) ∧ t.is F.MEMX_EVENT_SCRUB_UE = true ∧ t.integ.log = s.integ.log ++ [⟨s.tb.toNat, BitVec.ofNat 32 (3 + 8 * (r.val + 1) + 32768
      * syn.toNat), BitVec.ofNat 32 w⟩] ∧ t.rd R.MEMX_LOG_DROP = s.rd R.MEMX_LOG_DROP ∧ t.out = s.out ∧ s.Only [R.MEMX_EVENT, R.MEMX_LOG_DROP, R.MEMX_SCRUB_STAT,
      R.MEMX_SCRUB_LAP r] t) ∧
  (∀ (r : Fin 5) (lane : Fin 48) (flips : BitVec 72) (i w v : Nat) (syn : BitVec 8) (s : State), s.scrubOn r lane = true → s.scrubWord r lane = some i → w = (if r.val =
      0 then 0x01000000 else if r.val = 1 then 0x02000000 else if r.val = 2 then 0x02400000 else if r.val = 3 then 0x05000000 else 0x03000000 + lane.val * 0x8000) + i *
      (if r.val = 4 then 4 else 8) → v = s.flipsAt w ^^^ flips.toNat % 2 ^ (if r.val = 4 then 39 else 72) → s.is F.MEMX_CTL_SCRUB_EN = true → eccClass (r.val == 4) v = .ue
      syn → s.integ.log.length = 16 → s.integ.log.all (fun e => e.info.toNat % 4 != 0) = true → Completes (.scrubAccess r lane flips) s fun t => (∀ j : Fin 8, j.val < (if
      r.val = 4 then 4 else 8) → t.byteAt (w + j) = s.byteAt (w + j) ^^^ BitVec.ofNat 8 (0 / 2 ^ (8 * j.val))) ∧ (∀ a, ¬ (w ≤ a ∧ a < w + (if r.val = 4 then 4 else 8)) →
      t.byteAt a = s.byteAt a ∧ t.flipsAt a = s.flipsAt a) ∧ t.flipsAt w = poisonFlips (r.val == 4) ∧ t.is F.MEMX_EVENT_SCRUB_UE = true ∧ t.integ.log = s.integ.log ∧ t.fld
      F.MEMX_LOG_DROP_UE = min (s.fld F.MEMX_LOG_DROP_UE + 1) 65535 ∧ t.is F.MEMX_EVENT_LOG_FULL = true ∧ t.out = s.out ∧ s.Only [R.MEMX_EVENT, R.MEMX_LOG_DROP,
      R.MEMX_SCRUB_STAT, R.MEMX_SCRUB_LAP r] t) ∧
  (∀ (r : Fin 5) (lane : Fin 48) (flips : BitVec 72) (i w v : Nat) (syn : BitVec 8) (pre post : List LogEntry) (e : LogEntry) (s : State), s.scrubOn r lane = true →
      s.scrubWord r lane = some i → w = (if r.val = 0 then 0x01000000 else if r.val = 1 then 0x02000000 else if r.val = 2 then 0x02400000 else if r.val = 3 then 0x05000000
      else 0x03000000 + lane.val * 0x8000) + i * (if r.val = 4 then 4 else 8) → v = s.flipsAt w ^^^ flips.toNat % 2 ^ (if r.val = 4 then 39 else 72) → s.is
      F.MEMX_CTL_SCRUB_EN = true → eccClass (r.val == 4) v = .ue syn → s.integ.log.length = 16 → s.integ.log = pre ++ e :: post → e.info.toNat % 4 = 0 → post.all (fun e =>
      e.info.toNat % 4 != 0) = true → Completes (.scrubAccess r lane flips) s fun t => (∀ j : Fin 8, j.val < (if r.val = 4 then 4 else 8) → t.byteAt (w + j) = s.byteAt (w
      + j) ^^^ BitVec.ofNat 8 (0 / 2 ^ (8 * j.val))) ∧ (∀ a, ¬ (w ≤ a ∧ a < w + (if r.val = 4 then 4 else 8)) → t.byteAt a = s.byteAt a ∧ t.flipsAt a = s.flipsAt a) ∧
      t.flipsAt w = poisonFlips (r.val == 4) ∧ t.is F.MEMX_EVENT_SCRUB_UE = true ∧ t.integ.log = pre ++ post ++ [⟨s.tb.toNat, BitVec.ofNat 32 (3 + 8 * (r.val + 1) + 32768
      * syn.toNat), BitVec.ofNat 32 w⟩] ∧ t.rd R.MEMX_LOG_DROP = s.rd R.MEMX_LOG_DROP ∧ t.is F.MEMX_EVENT_LOG_FULL = true ∧ t.out = s.out ∧ s.Only [R.MEMX_EVENT,
      R.MEMX_LOG_DROP, R.MEMX_SCRUB_STAT, R.MEMX_SCRUB_LAP r] t) ∧
  (∀ (r : Fin 5) (lane : Fin 48) (flips : BitVec 72) (i w v : Nat) (s : State), s.scrubOn r lane = true → s.scrubWord r lane = some i → w = (if r.val = 0 then
      0x01000000 else if r.val = 1 then 0x02000000 else if r.val = 2 then 0x02400000 else if r.val = 3 then 0x05000000 else 0x03000000 + lane.val * 0x8000) + i * (if r.val
      = 4 then 4 else 8) → v = s.flipsAt w ^^^ flips.toNat % 2 ^ (if r.val = 4 then 39 else 72) → s.is F.MEMX_CTL_SCRUB_EN = true → eccClass (r.val == 4) v = .poison →
      Completes (.scrubAccess r lane flips) s fun t => (∀ j : Fin 8, j.val < (if r.val = 4 then 4 else 8) → t.byteAt (w + j) = s.byteAt (w + j) ^^^ BitVec.ofNat 8 (0 / 2 ^
      (8 * j.val))) ∧ (∀ a, ¬ (w ≤ a ∧ a < w + (if r.val = 4 then 4 else 8)) → t.byteAt a = s.byteAt a ∧ t.flipsAt a = s.flipsAt a) ∧ t.flipsAt w = v ∧ t.integ.log =
      s.integ.log ∧ t.out = s.out ∧ s.Only [R.MEMX_SCRUB_STAT, R.MEMX_SCRUB_LAP r] t) ∧
  (∀ (r : Fin 5) (lane : Fin 48) (flips : BitVec 72) (i w v : Nat) (s : State), s.scrubOn r lane = true → s.scrubWord r lane = some i → w = (if r.val = 0 then
      0x01000000 else if r.val = 1 then 0x02000000 else if r.val = 2 then 0x02400000 else if r.val = 3 then 0x05000000 else 0x03000000 + lane.val * 0x8000) + i * (if r.val
      = 4 then 4 else 8) → v = s.flipsAt w ^^^ flips.toNat % 2 ^ (if r.val = 4 then 39 else 72) → s.is F.MEMX_CTL_SCRUB_EN = false → Completes (.scrubAccess r lane flips)
      s fun t => t.flipsAt w = (match eccClass (r.val == 4) v with | .clean => 0 | .ce b _ => 2 ^ b | _ => v) ∧ (∀ j : Fin 8, j.val < (if r.val = 4 then 4 else 8) →
      t.byteAt (w + j) = s.byteAt (w + j) ^^^ BitVec.ofNat 8 ((v ^^^ (match eccClass (r.val == 4) v with | .clean => 0 | .ce b _ => 2 ^ b | _ => v)) / 2 ^ (8 * j.val))) ∧
      (∀ a, ¬ (w ≤ a ∧ a < w + (if r.val = 4 then 4 else 8)) → t.byteAt a = s.byteAt a ∧ t.flipsAt a = s.flipsAt a) ∧ t.integ.log = s.integ.log ∧ t.integ.scrubAt =
      s.integ.scrubAt ∧ t.out = s.out ∧ s.Only [] t) ∧
  (∀ (r : Fin 5) (lane : Fin 48) (flips : BitVec 72) (i old us : Nat) (s : State), s.scrubOn r lane = true → s.scrubWord r lane = some i → s.is F.MEMX_CTL_SCRUB_EN =
      true → old = tabGet (fun _ => 0) s.integ.scrubAt (if r.val = 4 then 4 + lane.val else r.val) → us = usOf (s.clock - max s.integ.lapFrom (tabGet (fun _ => 0)
      s.integ.lapAt (if r.val = 4 then 4 + lane.val else r.val))) → old < (i + 1) % (if r.val = 0 then 1048576 else if r.val = 3 then 512 else if r.val = 4 then 6144 else
      524288) → Completes (.scrubAccess r lane flips) s fun t => tabGet (fun _ => 0) t.integ.scrubAt (if r.val = 4 then 4 + lane.val else r.val) = (i + 1) % (if r.val = 0
      then 1048576 else if r.val = 3 then 512 else if r.val = 4 then 6144 else 524288) ∧ t.integ.lapAt = s.integ.lapAt ∧ t.rd R.MEMX_SCRUB_STAT = s.rd R.MEMX_SCRUB_STAT ∧
      t.rd (R.MEMX_SCRUB_LAP r) = s.rd (R.MEMX_SCRUB_LAP r)) ∧
  (∀ (r : Fin 5) (lane : Fin 48) (flips : BitVec 72) (i old us : Nat) (s : State), s.scrubOn r lane = true → s.scrubWord r lane = some i → s.is F.MEMX_CTL_SCRUB_EN =
      true → old = tabGet (fun _ => 0) s.integ.scrubAt (if r.val = 4 then 4 + lane.val else r.val) → us = usOf (s.clock - max s.integ.lapFrom (tabGet (fun _ => 0)
      s.integ.lapAt (if r.val = 4 then 4 + lane.val else r.val))) → (i + 1) % (if r.val = 0 then 1048576 else if r.val = 3 then 512 else if r.val = 4 then 6144 else
      524288) ≤ old → r.val < 4 → Completes (.scrubAccess r lane flips) s fun t => tabGet (fun _ => 0) t.integ.scrubAt (if r.val = 4 then 4 + lane.val else r.val) = (i +
      1) % (if r.val = 0 then 1048576 else if r.val = 3 then 512 else if r.val = 4 then 6144 else 524288) ∧ tabGet (fun _ => 0) t.integ.lapAt (if r.val = 4 then 4 +
      lane.val else r.val) = s.clock ∧ bitAt (t.fld F.MEMX_SCRUB_STAT_STALL) r = (if 60000000 ≤ us then bitAt (s.fld F.MEMX_SCRUB_STAT_STALL) r else false) ∧ t.fld
      (F.MEMX_SCRUB_LAP_US r) = min us 0xFFFFFFFF ∧ t.fld F.MEMX_SCRUB_STAT_LANE = s.fld F.MEMX_SCRUB_STAT_LANE) ∧
  (∀ (r : Fin 5) (lane : Fin 48) (flips : BitVec 72) (i old us : Nat) (s : State), s.scrubOn r lane = true → s.scrubWord r lane = some i → s.is F.MEMX_CTL_SCRUB_EN =
      true → old = tabGet (fun _ => 0) s.integ.scrubAt (if r.val = 4 then 4 + lane.val else r.val) → us = usOf (s.clock - max s.integ.lapFrom (tabGet (fun _ => 0)
      s.integ.lapAt (if r.val = 4 then 4 + lane.val else r.val))) → (i + 1) % (if r.val = 0 then 1048576 else if r.val = 3 then 512 else if r.val = 4 then 6144 else
      524288) ≤ old → r.val = 4 → (∀ n : Fin 48, n ≠ lane → tabGet (fun _ => 0) s.integ.lapUs n ≤ us) → Completes (.scrubAccess r lane flips) s fun t => tabGet (fun _ =>
      0) t.integ.scrubAt (if r.val = 4 then 4 + lane.val else r.val) = (i + 1) % (if r.val = 0 then 1048576 else if r.val = 3 then 512 else if r.val = 4 then 6144 else
      524288) ∧ tabGet (fun _ => 0) t.integ.lapAt (if r.val = 4 then 4 + lane.val else r.val) = s.clock ∧ bitAt (t.fld F.MEMX_SCRUB_STAT_STALL) r = (if 60000000 ≤ us then
      bitAt (s.fld F.MEMX_SCRUB_STAT_STALL) r else false) ∧ t.fld (F.MEMX_SCRUB_LAP_US 4) = min us 0xFFFFFFFF ∧ t.fld F.MEMX_SCRUB_STAT_LANE = lane.val ∧ tabGet (fun _ =>
      0) t.integ.lapUs lane = us) ∧
  (∀ (r : Fin 5) (lane : Fin 48) (flips : BitVec 72) (i old us : Nat) (n : Fin 48) (s : State), s.scrubOn r lane = true → s.scrubWord r lane = some i → s.is
      F.MEMX_CTL_SCRUB_EN = true → old = tabGet (fun _ => 0) s.integ.scrubAt (if r.val = 4 then 4 + lane.val else r.val) → us = usOf (s.clock - max s.integ.lapFrom (tabGet
      (fun _ => 0) s.integ.lapAt (if r.val = 4 then 4 + lane.val else r.val))) → (i + 1) % (if r.val = 0 then 1048576 else if r.val = 3 then 512 else if r.val = 4 then
      6144 else 524288) ≤ old → r.val = 4 → n ≠ lane → us < tabGet (fun _ => 0) s.integ.lapUs n → (∀ k : Fin 48, k ≠ n → k ≠ lane → tabGet (fun _ => 0) s.integ.lapUs k <
      tabGet (fun _ => 0) s.integ.lapUs n) → Completes (.scrubAccess r lane flips) s fun t => tabGet (fun _ => 0) t.integ.scrubAt (if r.val = 4 then 4 + lane.val else
      r.val) = (i + 1) % (if r.val = 0 then 1048576 else if r.val = 3 then 512 else if r.val = 4 then 6144 else 524288) ∧ tabGet (fun _ => 0) t.integ.lapAt (if r.val = 4
      then 4 + lane.val else r.val) = s.clock ∧ bitAt (t.fld F.MEMX_SCRUB_STAT_STALL) r = (if 60000000 ≤ us then bitAt (s.fld F.MEMX_SCRUB_STAT_STALL) r else false) ∧
      t.fld (F.MEMX_SCRUB_LAP_US 4) = min (tabGet (fun _ => 0) s.integ.lapUs n) 0xFFFFFFFF ∧ t.fld F.MEMX_SCRUB_STAT_LANE = n.val ∧ tabGet (fun _ => 0) t.integ.lapUs lane
      = us) ∧
  (∀ (r : Fin 5) (lane : Fin 48) (flips : BitVec 72) (s : State), s.scrubOn r lane = false ∨ s.scrubWord r lane = none → s.IrqRemembered → Completes (.scrubAccess r
      lane flips) s fun t => t = s) ∧
  (∀ (r : Fin 5) (s : State), s.domOn 1 = true → s.is F.MEMX_CTL_SCRUB_EN = true → Completes (.scrubLapStall r) s fun t => (∀ j : Fin 5, bitAt (t.fld
      F.MEMX_SCRUB_STAT_STALL) j = (decide (j = r) || bitAt (s.fld F.MEMX_SCRUB_STAT_STALL) j)) ∧ t.is F.MEMX_EVENT_STALL = true ∧ t.out = s.out ∧ s.Only
      [R.MEMX_SCRUB_STAT, R.MEMX_EVENT] t) ∧
  (∀ (r : Fin 5) (s : State), s.domOn 1 = false ∨ s.is F.MEMX_CTL_SCRUB_EN = false → s.IrqRemembered → Completes (.scrubLapStall r) s fun t => t = s) ∧
  (∀ (m : Master) (s : State), s.Reached m R.MEMX_LOG_CTL → m.code = 1 → Completes (.memxLogPop m) s fun t => s.Answered m 0 t ∧ t.integ.log = s.integ.log.drop 1 ∧
      t.integ.flips = s.integ.flips ∧ s.Only [] t) ∧
  (∀ (m : Master) (s : State), s.Reached m R.MEMX_LOG_CTL → m.code ≠ 1 → Completes (.memxLogPop m) s fun t => s.Answered m 2 t ∧ t.integ = s.integ ∧ s.Only [] t) ∧
  (∀ (m : Master) (v : Word) (s : State), s.Reached m R.MEMX_RETIRE → s.integ.copy ≠ none → Completes (.memxRetire m v) s fun t => s.Answered m 1 t ∧ t.fld
      F.MEMX_RETIRE_STAT_RESULT = 3 ∧ t.is F.MEMX_EVENT_RETIRE_REFUSED = true ∧ t.fld F.MEMX_RETIRE_TARGET = (if m.code = 1 then bitsOf v.toNat 0 7 else s.fld
      F.MEMX_RETIRE_TARGET) ∧ t.integ = s.integ ∧ t.mem = s.mem ∧ s.Only [R.MEMX_RETIRE, R.MEMX_RETIRE_STAT, R.MEMX_EVENT] t) ∧
  (∀ (m : Master) (v : Word) (s : State), s.Reached m R.MEMX_RETIRE → s.integ.copy = none → 111 < bitsOf v.toNat 0 7 ∨ 64 ≤ bitsOf v.toNat 0 7 ∧ 23 < bitsOf v.toNat 8 5
      → Completes (.memxRetire m v) s fun t => s.Answered m 1 t ∧ t.fld F.MEMX_RETIRE_STAT_RESULT = 4 ∧ t.is F.MEMX_EVENT_RETIRE_REFUSED = true ∧ t.fld
      F.MEMX_RETIRE_TARGET = (if m.code = 1 then bitsOf v.toNat 0 7 else s.fld F.MEMX_RETIRE_TARGET) ∧ t.integ = s.integ ∧ t.mem = s.mem ∧ s.Only [R.MEMX_RETIRE,
      R.MEMX_RETIRE_STAT, R.MEMX_EVENT] t) ∧
  (∀ (m : Master) (v : Word) (s : State), s.Reached m R.MEMX_RETIRE → s.integ.copy = none → bitsOf v.toNat 0 7 < 64 ∨ bitsOf v.toNat 0 7 ≤ 111 ∧ bitsOf v.toNat 8 5 ≤ 23
      → s.isRetired (bitsOf v.toNat 0 7) (bitsOf v.toNat 8 5) = true → Completes (.memxRetire m v) s fun t => s.Answered m 1 t ∧ t.fld F.MEMX_RETIRE_STAT_RESULT = 5 ∧ t.is
      F.MEMX_EVENT_RETIRE_REFUSED = true ∧ t.fld F.MEMX_RETIRE_TARGET = (if m.code = 1 then bitsOf v.toNat 0 7 else s.fld F.MEMX_RETIRE_TARGET) ∧ t.integ = s.integ ∧ t.mem
      = s.mem ∧ s.Only [R.MEMX_RETIRE, R.MEMX_RETIRE_STAT, R.MEMX_EVENT] t) ∧
  (∀ (m : Master) (v : Word) (s : State), s.Reached m R.MEMX_RETIRE → s.integ.copy = none → bitsOf v.toNat 0 7 < 64 ∨ bitsOf v.toNat 0 7 ≤ 111 ∧ bitsOf v.toNat 8 5 ≤ 23
      → s.isRetired (bitsOf v.toNat 0 7) (bitsOf v.toNat 8 5) = false → m.code ≠ 1 → Completes (.memxRetire m v) s fun t => s.Answered m 2 t ∧ t.fld
      F.MEMX_RETIRE_STAT_RESULT = 6 ∧ t.is F.MEMX_EVENT_RETIRE_REFUSED = true ∧ t.fld F.MEMX_RETIRE_TARGET = (if m.code = 1 then bitsOf v.toNat 0 7 else s.fld
      F.MEMX_RETIRE_TARGET) ∧ t.integ = s.integ ∧ t.mem = s.mem ∧ s.Only [R.MEMX_RETIRE_STAT, R.MEMX_EVENT] t) ∧
  (∀ (m : Master) (v : Word) (s : State), s.Reached m R.MEMX_RETIRE → s.integ.copy = none → bitsOf v.toNat 0 7 < 64 ∨ bitsOf v.toNat 0 7 ≤ 111 ∧ bitsOf v.toNat 8 5 ≤ 23
      → s.isRetired (bitsOf v.toNat 0 7) (bitsOf v.toNat 8 5) = false → m.code = 1 → 64 ≤ bitsOf v.toNat 0 7 → s.seqStopped (bitsOf v.toNat 0 7 - 64) = false → Completes
      (.memxRetire m v) s fun t => s.Answered m 1 t ∧ t.fld F.MEMX_RETIRE_STAT_RESULT = 7 ∧ t.is F.MEMX_EVENT_RETIRE_REFUSED = true ∧ t.fld F.MEMX_RETIRE_TARGET = (if
      m.code = 1 then bitsOf v.toNat 0 7 else s.fld F.MEMX_RETIRE_TARGET) ∧ t.integ = s.integ ∧ t.mem = s.mem ∧ s.Only [R.MEMX_RETIRE, R.MEMX_RETIRE_STAT, R.MEMX_EVENT] t) ∧
  (∀ (m : Master) (v : Word) (s : State), s.Reached m R.MEMX_RETIRE → s.integ.copy = none → bitsOf v.toNat 0 7 < 64 ∨ bitsOf v.toNat 0 7 ≤ 111 ∧ bitsOf v.toNat 8 5 ≤ 23
      → s.isRetired (bitsOf v.toNat 0 7) (bitsOf v.toNat 8 5) = false → m.code = 1 → bitsOf v.toNat 0 7 = 0 → s.fld F.MEMX_STAT_SPARES0 = 0 → Completes (.memxRetire m v) s
      fun t => s.Answered m 1 t ∧ t.fld F.MEMX_RETIRE_STAT_RESULT = 8 ∧ t.is F.MEMX_EVENT_RETIRE_REFUSED = true ∧ t.fld F.MEMX_RETIRE_TARGET = (if m.code = 1 then bitsOf
      v.toNat 0 7 else s.fld F.MEMX_RETIRE_TARGET) ∧ t.integ = s.integ ∧ t.mem = s.mem ∧ s.Only [R.MEMX_RETIRE, R.MEMX_RETIRE_STAT, R.MEMX_EVENT] t) ∧
  (∀ (m : Master) (v : Word) (s : State), s.Reached m R.MEMX_RETIRE → s.integ.copy = none → bitsOf v.toNat 0 7 < 64 ∨ bitsOf v.toNat 0 7 ≤ 111 ∧ bitsOf v.toNat 8 5 ≤ 23
      → s.isRetired (bitsOf v.toNat 0 7) (bitsOf v.toNat 8 5) = false → m.code = 1 → bitsOf v.toNat 0 7 < 64 ∨ s.seqStopped (bitsOf v.toNat 0 7 - 64) = true → bitsOf
      v.toNat 0 7 < 32 ∧ s.fld F.MEMX_STAT_SPARES0 ≠ 0 ∨ 32 ≤ bitsOf v.toNat 0 7 ∧ bitsOf v.toNat 0 7 < 64 ∧ s.fld F.MEMX_STAT_SPARES1 ≠ 0 ∨ 64 ≤ bitsOf v.toNat 0 7 ∧ s.is
      (F.MEMX_LANE_LOSS_SPARE_USED (bitsOf v.toNat 0 7 - 64)) = false ∧ s.integ.noSpare.getLsbD (bitsOf v.toNat 0 7 - 64) = false → Completes (.memxRetire m v) s fun t =>
      s.Answered m 0 t ∧ t.fld F.MEMX_RETIRE_TARGET = bitsOf v.toNat 0 7 ∧ t.fld F.MEMX_RETIRE_ROW = bitsOf v.toNat 8 5 ∧ t.integ =
      { s.integ with copy := some (bitsOf v.toNat 0 7, bitsOf v.toNat 8 5) } ∧ t.is F.MEMX_STAT_RETIRE_BUSY = true ∧ t.mem = s.mem ∧ s.Only [R.MEMX_RETIRE, R.MEMX_STAT] t) ∧
  (∀ (m : Master) (v : Word) (s : State), s.Reached m R.MEMX_RETIRE → s.integ.copy = none → bitsOf v.toNat 0 7 < 64 ∨ bitsOf v.toNat 0 7 ≤ 111 ∧ bitsOf v.toNat 8 5 ≤ 23
      → s.isRetired (bitsOf v.toNat 0 7) (bitsOf v.toNat 8 5) = false → m.code = 1 → bitsOf v.toNat 0 7 < 64 ∨ s.seqStopped (bitsOf v.toNat 0 7 - 64) = true → 0 < bitsOf
      v.toNat 0 7 ∧ bitsOf v.toNat 0 7 < 32 ∧ s.fld F.MEMX_STAT_SPARES0 = 0 ∨ 32 ≤ bitsOf v.toNat 0 7 ∧ bitsOf v.toNat 0 7 < 64 ∧ s.fld F.MEMX_STAT_SPARES1 = 0 → Completes
      (.memxRetire m v) s fun t => s.Answered m 0 t ∧ t.fld F.MEMX_RETIRE_TARGET = bitsOf v.toNat 0 7 ∧ t.fld F.MEMX_RETIRE_ROW = bitsOf v.toNat 8 5 ∧ t.fld
      F.MEMX_RETIRE_STAT_RESULT = 2 ∧ t.is F.MEMX_EVENT_CAP_LOSS = true ∧ t.fld F.MEMX_CAP_LIMIT_SAMPLES = t.capLimit ∧ t.integ.copy = none ∧ t.pairBit R.MEMX_REMOVED_LO
      (bitsOf v.toNat 0 7) = true ∧ (∀ j : Fin 64, j.val ≠ bitsOf v.toNat 0 7 → t.pairBit R.MEMX_REMOVED_LO j = s.pairBit R.MEMX_REMOVED_LO j) ∧ (∀ a, t.byteAt a = (if
      bankBase (bitsOf v.toNat 0 7) ≤ a ∧ a < bankBase (bitsOf v.toNat 0 7) + 0x40000 then 0#8 else s.byteAt a)) ∧ s.Only [R.MEMX_RETIRE, R.MEMX_RETIRE_STAT, R.MEMX_EVENT,
      R.MEMX_REMOVED_LO, R.MEMX_REMOVED_HI, R.MEMX_CAP_LIMIT] t) ∧
  (∀ (m : Master) (v : Word) (s : State), s.Reached m R.MEMX_RETIRE → s.integ.copy = none → bitsOf v.toNat 0 7 < 64 ∨ bitsOf v.toNat 0 7 ≤ 111 ∧ bitsOf v.toNat 8 5 ≤ 23
      → s.isRetired (bitsOf v.toNat 0 7) (bitsOf v.toNat 8 5) = false → m.code = 1 → bitsOf v.toNat 0 7 < 64 ∨ s.seqStopped (bitsOf v.toNat 0 7 - 64) = true → 64 ≤ bitsOf
      v.toNat 0 7 → ¬ (s.is (F.MEMX_LANE_LOSS_SPARE_USED (bitsOf v.toNat 0 7 - 64)) = false ∧ s.integ.noSpare.getLsbD (bitsOf v.toNat 0 7 - 64) = false) → Completes
      (.memxRetire m v) s fun t => s.Answered m 0 t ∧ t.fld F.MEMX_RETIRE_TARGET = bitsOf v.toNat 0 7 ∧ t.fld F.MEMX_RETIRE_ROW = bitsOf v.toNat 8 5 ∧ t.fld
      F.MEMX_RETIRE_STAT_RESULT = 2 ∧ t.is F.MEMX_EVENT_CAP_LOSS = true ∧ t.fld F.MEMX_CAP_LIMIT_SAMPLES = t.capLimit ∧ t.integ.copy = none ∧ (∀ j : Fin 24, bitAt (t.fld
      (F.MEMX_LANE_LOSS_REMOVED (bitsOf v.toNat 0 7 - 64))) j = (decide (j.val = bitsOf v.toNat 8 5) || bitAt (s.fld (F.MEMX_LANE_LOSS_REMOVED (bitsOf v.toNat 0 7 - 64)))
      j)) ∧ (∀ a, t.byteAt a = (if 0x03000000 + (bitsOf v.toNat 0 7 - 64) * 0x8000 + bitsOf v.toNat 8 5 * 0x400 ≤ a ∧ a < 0x03000000 + (bitsOf v.toNat 0 7 - 64) * 0x8000 +
      bitsOf v.toNat 8 5 * 0x400 + 0x400 then 0#8 else s.byteAt a)) ∧ s.Only [R.MEMX_RETIRE, R.MEMX_RETIRE_STAT, R.MEMX_EVENT, R.MEMX_LANE_LOSS (bitsOf v.toNat 0 7 - 64),
      R.MEMX_CAP_LIMIT] t) ∧
  (∀ (s : State), (∀ b : Fin 16, s.pairBit R.MEMX_REMOVED_LO (48 + b) = false) → s.Reached .supS R.MEMX_RETIRE → s.integ.copy = none → s.isRetired 50 0 = false → s.fld
      F.MEMX_STAT_SPARES1 = 0 → Completes (.memxRetire .supS 50#32) s fun t => t.fld F.MEMX_CAP_LIMIT_SAMPLES = 524288) ∧
  (∀ (b row : Nat) (s : State), s.integ.copy = some (b, row) → b < 32 → 0 < s.fld F.MEMX_STAT_SPARES0 → Completes (.retireCopyDone) s fun t => t.integ.copy = none ∧
      t.is F.MEMX_STAT_RETIRE_BUSY = false ∧ t.fld F.MEMX_RETIRE_STAT_RESULT = 1 ∧ t.is F.MEMX_EVENT_RETIRE_DONE = true ∧ (∀ a, (∀ (i : Fin 8) (syn : BitVec 8), s.ecc (a -
      i) ≠ .ue syn) → t.byteAt a = s.byteAt a) ∧ t.out = s.out ∧ t.pairBit R.MEMX_RETIRED_LO b = true ∧ (∀ j : Fin 64, j.val ≠ b → t.pairBit R.MEMX_RETIRED_LO j =
      s.pairBit R.MEMX_RETIRED_LO j) ∧ t.fld F.MEMX_STAT_SPARES0 = s.fld F.MEMX_STAT_SPARES0 - 1 ∧ t.is F.MEMX_EVENT_SPARE_OUT = (s.is F.MEMX_EVENT_SPARE_OUT || decide
      (s.fld F.MEMX_STAT_SPARES0 = 1)) ∧ s.OnlyBlocks [blockOf R.MEMX_STAT] t) ∧
  (∀ (b row : Nat) (s : State), s.integ.copy = some (b, row) → b < 32 → 0 < s.fld F.MEMX_STAT_SPARES0 → (∀ x ∈ s.integ.flips, inRange (retireRange b row) x.1 = false) →
      Completes (.retireCopyDone) s fun t => t.integ.copy = none ∧ t.is F.MEMX_STAT_RETIRE_BUSY = false ∧ t.fld F.MEMX_RETIRE_STAT_RESULT = 1 ∧ t.is
      F.MEMX_EVENT_RETIRE_DONE = true ∧ (∀ a, t.byteAt a = s.byteAt a) ∧ t.out = s.out ∧ t.pairBit R.MEMX_RETIRED_LO b = true ∧ (∀ j : Fin 64, j.val ≠ b → t.pairBit
      R.MEMX_RETIRED_LO j = s.pairBit R.MEMX_RETIRED_LO j) ∧ t.fld F.MEMX_STAT_SPARES0 = s.fld F.MEMX_STAT_SPARES0 - 1 ∧ t.is F.MEMX_EVENT_SPARE_OUT = (s.is
      F.MEMX_EVENT_SPARE_OUT || decide (s.fld F.MEMX_STAT_SPARES0 = 1)) ∧ t.integ = { s.integ with copy := none } ∧ s.Only [R.MEMX_STAT, R.MEMX_RETIRED_LO,
      R.MEMX_RETIRED_HI, R.MEMX_RETIRE_STAT, R.MEMX_EVENT] t) ∧
  (∀ (b row : Nat) (s : State), s.integ.copy = some (b, row) → 32 ≤ b → b < 64 → 0 < s.fld F.MEMX_STAT_SPARES1 → Completes (.retireCopyDone) s fun t => t.integ.copy =
      none ∧ t.is F.MEMX_STAT_RETIRE_BUSY = false ∧ t.fld F.MEMX_RETIRE_STAT_RESULT = 1 ∧ t.is F.MEMX_EVENT_RETIRE_DONE = true ∧ (∀ a, (∀ (i : Fin 8) (syn : BitVec 8),
      s.ecc (a - i) ≠ .ue syn) → t.byteAt a = s.byteAt a) ∧ t.out = s.out ∧ t.pairBit R.MEMX_RETIRED_LO b = true ∧ (∀ j : Fin 64, j.val ≠ b → t.pairBit R.MEMX_RETIRED_LO j
      = s.pairBit R.MEMX_RETIRED_LO j) ∧ t.fld F.MEMX_STAT_SPARES1 = s.fld F.MEMX_STAT_SPARES1 - 1 ∧ t.is F.MEMX_EVENT_SPARE_OUT = (s.is F.MEMX_EVENT_SPARE_OUT || decide
      (s.fld F.MEMX_STAT_SPARES1 = 1)) ∧ s.OnlyBlocks [blockOf R.MEMX_STAT] t) ∧
  (∀ (b row : Nat) (s : State), s.integ.copy = some (b, row) → 32 ≤ b → b < 64 → 0 < s.fld F.MEMX_STAT_SPARES1 → (∀ x ∈ s.integ.flips, inRange (retireRange b row) x.1 =
      false) → Completes (.retireCopyDone) s fun t => t.integ.copy = none ∧ t.is F.MEMX_STAT_RETIRE_BUSY = false ∧ t.fld F.MEMX_RETIRE_STAT_RESULT = 1 ∧ t.is
      F.MEMX_EVENT_RETIRE_DONE = true ∧ (∀ a, t.byteAt a = s.byteAt a) ∧ t.out = s.out ∧ t.pairBit R.MEMX_RETIRED_LO b = true ∧ (∀ j : Fin 64, j.val ≠ b → t.pairBit
      R.MEMX_RETIRED_LO j = s.pairBit R.MEMX_RETIRED_LO j) ∧ t.fld F.MEMX_STAT_SPARES1 = s.fld F.MEMX_STAT_SPARES1 - 1 ∧ t.is F.MEMX_EVENT_SPARE_OUT = (s.is
      F.MEMX_EVENT_SPARE_OUT || decide (s.fld F.MEMX_STAT_SPARES1 = 1)) ∧ t.integ = { s.integ with copy := none } ∧ s.Only [R.MEMX_STAT, R.MEMX_RETIRED_LO,
      R.MEMX_RETIRED_HI, R.MEMX_RETIRE_STAT, R.MEMX_EVENT] t) ∧
  (∀ (b row : Nat) (s : State), s.integ.copy = some (b, row) → 64 ≤ b → b < 112 → row < 24 → Completes (.retireCopyDone) s fun t => t.integ.copy = none ∧ t.is
      F.MEMX_STAT_RETIRE_BUSY = false ∧ t.fld F.MEMX_RETIRE_STAT_RESULT = 1 ∧ t.is F.MEMX_EVENT_RETIRE_DONE = true ∧ (∀ a, (∀ (i : Fin 8) (syn : BitVec 8), s.ecc (a - i) ≠
      .ue syn) → t.byteAt a = s.byteAt a) ∧ t.out = s.out ∧ t.is (F.MEMX_LANE_LOSS_SPARE_USED (b - 64)) = true ∧ t.fld (F.MEMX_LANE_LOSS_SPARE_ROW (b - 64)) = row ∧ t.is
      F.MEMX_EVENT_SPARE_OUT = true ∧ s.OnlyBlocks [blockOf R.MEMX_STAT] t) ∧
  (∀ (b row w : Nat) (s : State), s.integ.copy = some (b, row) → inRange (retireRange b row) w = true → b < 112 → row < 24 → Completes (.retireCopyDone) s fun t =>
      t.flipsAt w = (match s.ecc w with | .clean => s.flipsAt w | .ce _ _ => 0 | _ => (if s.ecc w = .poison then s.flipsAt w else poisonFlips (laneWord w)))) ∧
  (∀ (s : State), s.integ.copy = none → s.IrqRemembered → Completes (.retireCopyDone) s fun t => t = s) ∧
  (∀ (w : Fin 512) (s : State), Completes (.otpReload w) s fun t => t.flipsAt (0x05000000 + 8 * w) = 0 ∧ (∀ j : Fin 512, j ≠ w → t.flipsAt (0x05000000 + 8 * j) =
      s.flipsAt (0x05000000 + 8 * j)) ∧ t.mem = s.mem ∧ t.integ.log = s.integ.log ∧ t.out = s.out ∧ s.Only [] t) ∧
  (∀ (m : Master) (v : Word) (s : State), s.Reached m R.BIST_CMD → s.fld F.LIFE_STATE_STATE ≠ 1 → s.fld F.LIFE_STATE_STATE ≠ 4 → Completes (.bistCmd m v) s fun t =>
      s.Answered m 1 t ∧ t.fld F.BIST_RUN_STAT_REASON = 1 ∧ t.is F.BIST_EVENT_REFUSED = true ∧ t.is F.BIST_RUN_STAT_BUSY = s.is F.BIST_RUN_STAT_BUSY ∧ t.mem = s.mem ∧
      t.integ = s.integ ∧ s.Only [R.BIST_CMD, R.BIST_RUN_STAT, R.BIST_EVENT] t) ∧
  (∀ (m : Master) (v : Word) (s : State), s.Reached m R.BIST_CMD → s.fld F.LIFE_STATE_STATE = 1 ∨ s.fld F.LIFE_STATE_STATE = 4 → m.code ≠ 1 → m.code ≠ 3 → Completes
      (.bistCmd m v) s fun t => s.Answered m 2 t ∧ t.fld F.BIST_RUN_STAT_REASON = 2 ∧ t.is F.BIST_EVENT_REFUSED = true ∧ t.is F.BIST_RUN_STAT_BUSY = s.is
      F.BIST_RUN_STAT_BUSY ∧ t.mem = s.mem ∧ t.integ = s.integ ∧ s.Only [R.BIST_CMD, R.BIST_RUN_STAT, R.BIST_EVENT] t) ∧
  (∀ (m : Master) (v : Word) (s : State), s.Reached m R.BIST_CMD → s.fld F.LIFE_STATE_STATE = 1 ∨ s.fld F.LIFE_STATE_STATE = 4 → m.code = 1 ∨ m.code = 3 → s.integ.test
      ≠ none → Completes (.bistCmd m v) s fun t => s.Answered m 1 t ∧ t.fld F.BIST_RUN_STAT_REASON = 3 ∧ t.is F.BIST_EVENT_REFUSED = true ∧ t.is F.BIST_RUN_STAT_BUSY =
      s.is F.BIST_RUN_STAT_BUSY ∧ t.mem = s.mem ∧ t.integ = s.integ ∧ s.Only [R.BIST_CMD, R.BIST_RUN_STAT, R.BIST_EVENT] t) ∧
  (∀ (m : Master) (v : Word) (s : State), s.Reached m R.BIST_CMD → s.fld F.LIFE_STATE_STATE = 1 ∨ s.fld F.LIFE_STATE_STATE = 4 → m.code = 1 ∨ m.code = 3 → s.integ.test
      = none → 111 < bitsOf v.toNat 0 7 ∨ bitsOf v.toNat 0 7 = 0 ∨ bitsOf v.toNat 0 7 < 64 ∧ s.pairBit R.MEMX_REMOVED_LO (bitsOf v.toNat 0 7) = true ∨ 64 ≤ bitsOf v.toNat
      0 7 ∧ s.laneOn (bitsOf v.toNat 0 7 - 64) = false → Completes (.bistCmd m v) s fun t => s.Answered m 1 t ∧ t.fld F.BIST_RUN_STAT_REASON = 4 ∧ t.is
      F.BIST_EVENT_REFUSED = true ∧ t.is F.BIST_RUN_STAT_BUSY = s.is F.BIST_RUN_STAT_BUSY ∧ t.mem = s.mem ∧ t.integ = s.integ ∧ s.Only [R.BIST_CMD, R.BIST_RUN_STAT,
      R.BIST_EVENT] t) ∧
  (∀ (m : Master) (v : Word) (s : State), s.Reached m R.BIST_CMD → s.fld F.LIFE_STATE_STATE = 1 ∨ s.fld F.LIFE_STATE_STATE = 4 → m.code = 1 ∨ m.code = 3 → s.integ.test
      = none → 0 < bitsOf v.toNat 0 7 → bitsOf v.toNat 0 7 ≤ 111 → 64 ≤ bitsOf v.toNat 0 7 ∨ s.pairBit R.MEMX_REMOVED_LO (bitsOf v.toNat 0 7) = false → bitsOf v.toNat 0 7
      < 64 ∨ s.laneOn (bitsOf v.toNat 0 7 - 64) = true → s.fld F.BIST_SAVE_ADDR * 0x40000 < 0x02000000 ∨ 0x02400000 ≤ s.fld F.BIST_SAVE_ADDR * 0x40000 ∨ bitsOf v.toNat 0 7
      < 64 ∧ s.fld F.BIST_SAVE_ADDR * 0x40000 = bankBase (bitsOf v.toNat 0 7) ∨ s.pairBit R.MEMX_REMOVED_LO (bankOf (s.fld F.BIST_SAVE_ADDR * 0x40000)) = true → Completes
      (.bistCmd m v) s fun t => s.Answered m 1 t ∧ t.fld F.BIST_RUN_STAT_REASON = 5 ∧ t.is F.BIST_EVENT_REFUSED = true ∧ t.is F.BIST_RUN_STAT_BUSY = s.is
      F.BIST_RUN_STAT_BUSY ∧ t.mem = s.mem ∧ t.integ = s.integ ∧ s.Only [R.BIST_CMD, R.BIST_RUN_STAT, R.BIST_EVENT] t) ∧
  (∀ (m : Master) (v : Word) (s : State), s.Reached m R.BIST_CMD → s.fld F.LIFE_STATE_STATE = 1 ∨ s.fld F.LIFE_STATE_STATE = 4 → m.code = 1 ∨ m.code = 3 → s.integ.test
      = none → 0 < bitsOf v.toNat 0 7 → bitsOf v.toNat 0 7 ≤ 111 → 64 ≤ bitsOf v.toNat 0 7 ∨ s.pairBit R.MEMX_REMOVED_LO (bitsOf v.toNat 0 7) = false → bitsOf v.toNat 0 7
      < 64 ∨ s.laneOn (bitsOf v.toNat 0 7 - 64) = true → 0x02000000 ≤ s.fld F.BIST_SAVE_ADDR * 0x40000 → s.fld F.BIST_SAVE_ADDR * 0x40000 < 0x02400000 → 64 ≤ bitsOf
      v.toNat 0 7 ∨ s.fld F.BIST_SAVE_ADDR * 0x40000 ≠ bankBase (bitsOf v.toNat 0 7) → s.pairBit R.MEMX_REMOVED_LO (bankOf (s.fld F.BIST_SAVE_ADDR * 0x40000)) = false → 64
      ≤ bitsOf v.toNat 0 7 → s.seqStopped (bitsOf v.toNat 0 7 - 64) = false → Completes (.bistCmd m v) s fun t => s.Answered m 1 t ∧ t.fld F.BIST_RUN_STAT_REASON = 6 ∧
      t.is F.BIST_EVENT_REFUSED = true ∧ t.is F.BIST_RUN_STAT_BUSY = s.is F.BIST_RUN_STAT_BUSY ∧ t.mem = s.mem ∧ t.integ = s.integ ∧ s.Only [R.BIST_CMD, R.BIST_RUN_STAT,
      R.BIST_EVENT] t) ∧
  (∀ (m : Master) (v : Word) (s : State), s.Reached m R.BIST_CMD → s.fld F.LIFE_STATE_STATE = 1 ∨ s.fld F.LIFE_STATE_STATE = 4 → m.code = 1 ∨ m.code = 3 → s.integ.test
      = none → 0 < bitsOf v.toNat 0 7 → bitsOf v.toNat 0 7 ≤ 111 → 64 ≤ bitsOf v.toNat 0 7 ∨ s.pairBit R.MEMX_REMOVED_LO (bitsOf v.toNat 0 7) = false → bitsOf v.toNat 0 7
      < 64 ∨ s.laneOn (bitsOf v.toNat 0 7 - 64) = true → 0x02000000 ≤ s.fld F.BIST_SAVE_ADDR * 0x40000 → s.fld F.BIST_SAVE_ADDR * 0x40000 < 0x02400000 → 64 ≤ bitsOf
      v.toNat 0 7 ∨ s.fld F.BIST_SAVE_ADDR * 0x40000 ≠ bankBase (bitsOf v.toNat 0 7) → s.pairBit R.MEMX_REMOVED_LO (bankOf (s.fld F.BIST_SAVE_ADDR * 0x40000)) = false →
      bitsOf v.toNat 0 7 < 64 ∨ s.seqStopped (bitsOf v.toNat 0 7 - 64) = true → (∀ x ∈ s.integ.flips, ¬ ((if bitsOf v.toNat 0 7 < 64 then bankBase (bitsOf v.toNat 0 7)
      else 0x03000000 + (bitsOf v.toNat 0 7 - 64) * 0x8000) ≤ x.1 ∧ x.1 < (if bitsOf v.toNat 0 7 < 64 then bankBase (bitsOf v.toNat 0 7) else 0x03000000 + (bitsOf v.toNat
      0 7 - 64) * 0x8000) + (if bitsOf v.toNat 0 7 < 64 then 0x40000 else 0x6000))) → Memory.wf s.mem = true → Completes (.bistCmd m v) s fun t => s.Answered m 0 t ∧ t.is
      F.BIST_RUN_STAT_BUSY = true ∧ t.fld F.BIST_CMD_TARGET = bitsOf v.toNat 0 7 ∧ t.fld F.BIST_CMD_TEST = bitsOf v.toNat 8 2 ∧ t.integ.test = some ⟨bitsOf v.toNat 0 7,
      s.fld F.BIST_SAVE_ADDR * 0x40000⟩ ∧ (∀ a, t.byteAt a = (if s.fld F.BIST_SAVE_ADDR * 0x40000 ≤ a ∧ a < s.fld F.BIST_SAVE_ADDR * 0x40000 + (if bitsOf v.toNat 0 7 < 64
      then 0x40000 else 0x6000) then s.byteAt (a - s.fld F.BIST_SAVE_ADDR * 0x40000 + (if bitsOf v.toNat 0 7 < 64 then bankBase (bitsOf v.toNat 0 7) else 0x03000000 +
      (bitsOf v.toNat 0 7 - 64) * 0x8000)) else s.byteAt a)) ∧ t.integ.log = s.integ.log ∧ (∀ a, t.flipsAt a = (if s.fld F.BIST_SAVE_ADDR * 0x40000 ≤ a ∧ a < s.fld
      F.BIST_SAVE_ADDR * 0x40000 + (if bitsOf v.toNat 0 7 < 64 then 0x40000 else 0x6000) then 0 else s.flipsAt a)) ∧ s.Only [R.BIST_CMD, R.BIST_RUN_STAT] t) ∧
  (∀ (m : Master) (v : Word) (w : Nat) (s : State), s.Reached m R.BIST_CMD → s.fld F.LIFE_STATE_STATE = 1 ∨ s.fld F.LIFE_STATE_STATE = 4 → m.code = 1 ∨ m.code = 3 →
      s.integ.test = none → 0 < bitsOf v.toNat 0 7 → bitsOf v.toNat 0 7 ≤ 111 → 64 ≤ bitsOf v.toNat 0 7 ∨ s.pairBit R.MEMX_REMOVED_LO (bitsOf v.toNat 0 7) = false → bitsOf
      v.toNat 0 7 < 64 ∨ s.laneOn (bitsOf v.toNat 0 7 - 64) = true → 0x02000000 ≤ s.fld F.BIST_SAVE_ADDR * 0x40000 → s.fld F.BIST_SAVE_ADDR * 0x40000 < 0x02400000 → 64 ≤
      bitsOf v.toNat 0 7 ∨ s.fld F.BIST_SAVE_ADDR * 0x40000 ≠ bankBase (bitsOf v.toNat 0 7) → s.pairBit R.MEMX_REMOVED_LO (bankOf (s.fld F.BIST_SAVE_ADDR * 0x40000)) =
      false → bitsOf v.toNat 0 7 < 64 ∨ s.seqStopped (bitsOf v.toNat 0 7 - 64) = true → (if bitsOf v.toNat 0 7 < 64 then bankBase (bitsOf v.toNat 0 7) else 0x03000000 +
      (bitsOf v.toNat 0 7 - 64) * 0x8000) ≤ w → w < (if bitsOf v.toNat 0 7 < 64 then bankBase (bitsOf v.toNat 0 7) else 0x03000000 + (bitsOf v.toNat 0 7 - 64) * 0x8000) +
      (if bitsOf v.toNat 0 7 < 64 then 0x40000 else 0x6000) → s.ecc w = .poison → Memory.wf s.mem = true → Completes (.bistCmd m v) s fun t => s.Answered m 0 t ∧ t.is
      F.BIST_RUN_STAT_BUSY = true ∧ t.fld F.BIST_CMD_TARGET = bitsOf v.toNat 0 7 ∧ t.fld F.BIST_CMD_TEST = bitsOf v.toNat 8 2 ∧ t.integ.test = some ⟨bitsOf v.toNat 0 7,
      s.fld F.BIST_SAVE_ADDR * 0x40000⟩ ∧ (∀ a, (s.fld F.BIST_SAVE_ADDR * 0x40000 ≤ a ∧ a < s.fld F.BIST_SAVE_ADDR * 0x40000 + (if bitsOf v.toNat 0 7 < 64 then 0x40000
      else 0x6000)) → t.byteAt a = t.byteAt (a - s.fld F.BIST_SAVE_ADDR * 0x40000 + (if bitsOf v.toNat 0 7 < 64 then bankBase (bitsOf v.toNat 0 7) else 0x03000000 +
      (bitsOf v.toNat 0 7 - 64) * 0x8000))) ∧ (∀ a, ¬ (s.fld F.BIST_SAVE_ADDR * 0x40000 ≤ a ∧ a < s.fld F.BIST_SAVE_ADDR * 0x40000 + (if bitsOf v.toNat 0 7 < 64 then
      0x40000 else 0x6000)) → (∀ (i : Fin 8) (syn : BitVec 8), s.ecc (a - i) ≠ .ue syn) → t.byteAt a = s.byteAt a) ∧ t.flipsAt w = s.flipsAt w ∧ t.ecc (eccBase (w - (if
      bitsOf v.toNat 0 7 < 64 then bankBase (bitsOf v.toNat 0 7) else 0x03000000 + (bitsOf v.toNat 0 7 - 64) * 0x8000) + s.fld F.BIST_SAVE_ADDR * 0x40000)) = .poison) ∧
  (∀ (m : Master) (v : Word) (w b : Nat) (syn : BitVec 8) (s : State), s.Reached m R.BIST_CMD → s.fld F.LIFE_STATE_STATE = 1 ∨ s.fld F.LIFE_STATE_STATE = 4 → m.code = 1
      ∨ m.code = 3 → s.integ.test = none → 0 < bitsOf v.toNat 0 7 → bitsOf v.toNat 0 7 ≤ 111 → 64 ≤ bitsOf v.toNat 0 7 ∨ s.pairBit R.MEMX_REMOVED_LO (bitsOf v.toNat 0 7) =
      false → bitsOf v.toNat 0 7 < 64 ∨ s.laneOn (bitsOf v.toNat 0 7 - 64) = true → 0x02000000 ≤ s.fld F.BIST_SAVE_ADDR * 0x40000 → s.fld F.BIST_SAVE_ADDR * 0x40000 <
      0x02400000 → 64 ≤ bitsOf v.toNat 0 7 ∨ s.fld F.BIST_SAVE_ADDR * 0x40000 ≠ bankBase (bitsOf v.toNat 0 7) → s.pairBit R.MEMX_REMOVED_LO (bankOf (s.fld F.BIST_SAVE_ADDR
      * 0x40000)) = false → bitsOf v.toNat 0 7 < 64 ∨ s.seqStopped (bitsOf v.toNat 0 7 - 64) = true → (if bitsOf v.toNat 0 7 < 64 then bankBase (bitsOf v.toNat 0 7) else
      0x03000000 + (bitsOf v.toNat 0 7 - 64) * 0x8000) ≤ w → w < (if bitsOf v.toNat 0 7 < 64 then bankBase (bitsOf v.toNat 0 7) else 0x03000000 + (bitsOf v.toNat 0 7 - 64)
      * 0x8000) + (if bitsOf v.toNat 0 7 < 64 then 0x40000 else 0x6000) → s.ecc w = .ce b syn → Memory.wf s.mem = true → Completes (.bistCmd m v) s fun t => s.Answered m 0
      t ∧ t.is F.BIST_RUN_STAT_BUSY = true ∧ t.fld F.BIST_CMD_TARGET = bitsOf v.toNat 0 7 ∧ t.fld F.BIST_CMD_TEST = bitsOf v.toNat 8 2 ∧ t.integ.test = some ⟨bitsOf
      v.toNat 0 7, s.fld F.BIST_SAVE_ADDR * 0x40000⟩ ∧ (∀ a, (s.fld F.BIST_SAVE_ADDR * 0x40000 ≤ a ∧ a < s.fld F.BIST_SAVE_ADDR * 0x40000 + (if bitsOf v.toNat 0 7 < 64
      then 0x40000 else 0x6000)) → t.byteAt a = t.byteAt (a - s.fld F.BIST_SAVE_ADDR * 0x40000 + (if bitsOf v.toNat 0 7 < 64 then bankBase (bitsOf v.toNat 0 7) else
      0x03000000 + (bitsOf v.toNat 0 7 - 64) * 0x8000))) ∧ (∀ a, ¬ (s.fld F.BIST_SAVE_ADDR * 0x40000 ≤ a ∧ a < s.fld F.BIST_SAVE_ADDR * 0x40000 + (if bitsOf v.toNat 0 7 <
      64 then 0x40000 else 0x6000)) → (∀ (i : Fin 8) (syn : BitVec 8), s.ecc (a - i) ≠ .ue syn) → t.byteAt a = s.byteAt a) ∧ t.flipsAt w = 0 ∧ t.is F.MEMX_EVENT_CE = true) ∧
  (∀ (pass : Bool) (addr : Word) (x : BankTest) (s : State), s.integ.test = some x → Completes (.bistDone pass addr []) s fun t => t.integ.test = none ∧ t.is
      F.BIST_RUN_STAT_BUSY = false ∧ t.is F.BIST_RUN_STAT_PASS = pass ∧ t.is F.BIST_RUN_STAT_FAIL = !pass ∧ t.rd R.BIST_FAIL_ADDR = (if pass then s.rd R.BIST_FAIL_ADDR
      else addr) ∧ t.is F.BIST_EVENT_DONE = true ∧ t.mem = s.mem ∧ t.out = s.out ∧ t.integ = { s.integ with test := none } ∧ s.Only [R.BIST_RUN_STAT, R.BIST_FAIL_ADDR,
      R.BIST_EVENT] t) ∧
  (∀ (pass : Bool) (addr : Word) (x : BankTest) (bad : List Word) (s : State), s.integ.test = some x → 0 < x.target → x.target < 112 → (∀ w ∈ bad, x.target < 64 ∧
      bankBase x.target ≤ w.toNat ∧ w.toNat < bankBase x.target + 0x40000 ∨ 64 ≤ x.target ∧ 0x03000000 + (x.target - 64) * 0x8000 ≤ w.toNat ∧ w.toNat < 0x03000000 +
      (x.target - 64) * 0x8000 + 0x6000) → s.integ.log.length + bad.length ≤ 16 → Completes (.bistDone pass addr bad) s fun t => t.integ.test = none ∧ t.is
      F.BIST_RUN_STAT_BUSY = false ∧ t.is F.BIST_RUN_STAT_PASS = pass ∧ t.is F.BIST_RUN_STAT_FAIL = !pass ∧ t.rd R.BIST_FAIL_ADDR = (if pass then s.rd R.BIST_FAIL_ADDR
      else addr) ∧ t.is F.BIST_EVENT_DONE = true ∧ t.out = s.out ∧ (∀ w ∈ bad, t.ecc (eccBase w.toNat) = .poison) ∧ (∀ a, (∀ w ∈ bad, ¬ (eccBase w.toNat ≤ a ∧ a < eccBase
      w.toNat + (if x.target < 64 then 8 else 4))) → t.byteAt a = s.byteAt a) ∧ t.is F.MEMX_EVENT_UE = (s.is F.MEMX_EVENT_UE || !bad.isEmpty) ∧ t.integ.log.take
      s.integ.log.length = s.integ.log ∧ (t.integ.log.drop s.integ.log.length).map (·.data) = bad.map (fun w => BitVec.ofNat 32 (eccBase w.toNat)) ∧ (∀ e ∈
      t.integ.log.drop s.integ.log.length, e.info.toNat % 4 = 1 ∧ e.info.toNat / 128 % 16 = 10 ∧ e.ts = s.tb.toNat) ∧ s.Only [R.BIST_RUN_STAT, R.BIST_FAIL_ADDR,
      R.BIST_EVENT, R.MEMX_EVENT] t) ∧
  (∀ (pass : Bool) (addr : Word) (x : BankTest) (bad : List Word) (s : State), s.integ.test = some x → 0 < x.target → x.target < 112 → (∀ w ∈ bad, x.target < 64 ∧
      bankBase x.target ≤ w.toNat ∧ w.toNat < bankBase x.target + 0x40000 ∨ 64 ≤ x.target ∧ 0x03000000 + (x.target - 64) * 0x8000 ≤ w.toNat ∧ w.toNat < 0x03000000 +
      (x.target - 64) * 0x8000 + 0x6000) → s.integ.log.length = 16 → (∀ e ∈ s.integ.log, e.info.toNat % 4 ≠ 0) → Completes (.bistDone pass addr bad) s fun t =>
      t.integ.test = none ∧ t.is F.BIST_RUN_STAT_BUSY = false ∧ t.is F.BIST_RUN_STAT_PASS = pass ∧ t.is F.BIST_RUN_STAT_FAIL = !pass ∧ t.rd R.BIST_FAIL_ADDR = (if pass
      then s.rd R.BIST_FAIL_ADDR else addr) ∧ t.is F.BIST_EVENT_DONE = true ∧ t.out = s.out ∧ (∀ w ∈ bad, t.ecc (eccBase w.toNat) = .poison) ∧ (∀ a, (∀ w ∈ bad, ¬ (eccBase
      w.toNat ≤ a ∧ a < eccBase w.toNat + (if x.target < 64 then 8 else 4))) → t.byteAt a = s.byteAt a) ∧ t.is F.MEMX_EVENT_UE = (s.is F.MEMX_EVENT_UE || !bad.isEmpty) ∧
      t.integ.log = s.integ.log ∧ t.fld F.MEMX_LOG_DROP_UE = (if bad.isEmpty then s.fld F.MEMX_LOG_DROP_UE else min (s.fld F.MEMX_LOG_DROP_UE + bad.length) 65535) ∧ t.is
      F.MEMX_EVENT_LOG_FULL = (s.is F.MEMX_EVENT_LOG_FULL || !bad.isEmpty) ∧ s.Only [R.BIST_RUN_STAT, R.BIST_FAIL_ADDR, R.BIST_EVENT, R.MEMX_EVENT, R.MEMX_LOG_DROP] t) ∧
  (∀ (pass : Bool) (addr : Word) (x : BankTest) (w : Word) (l : List LogEntry) (s : State), s.integ.test = some x → 0 < x.target → x.target < 112 → x.target < 64 ∧
      bankBase x.target ≤ w.toNat ∧ w.toNat < bankBase x.target + 0x40000 ∨ 64 ≤ x.target ∧ 0x03000000 + (x.target - 64) * 0x8000 ≤ w.toNat ∧ w.toNat < 0x03000000 +
      (x.target - 64) * 0x8000 + 0x6000 → s.integ.log.length = 16 → dropNewestCe s.integ.log = some l → Completes (.bistDone pass addr [w]) s fun t => t.ecc (eccBase
      w.toNat) = .poison ∧ t.integ.log.take l.length = l ∧ (t.integ.log.drop l.length).map (·.data) = [BitVec.ofNat 32 (eccBase w.toNat)] ∧ t.is F.MEMX_EVENT_LOG_FULL =
      true ∧ s.Only [R.BIST_RUN_STAT, R.BIST_FAIL_ADDR, R.BIST_EVENT, R.MEMX_EVENT] t) ∧
  (∀ (pass : Bool) (addr : Word) (x : BankTest) (w : Word) (s : State), s.integ.test = some x → x.target < 64 → w.toNat < bankBase x.target ∨ bankBase x.target +
      0x40000 ≤ w.toNat → Completes (.bistDone pass addr [w]) s fun t => t.integ.test = none ∧ t.is F.BIST_RUN_STAT_BUSY = false ∧ t.is F.BIST_RUN_STAT_PASS = pass ∧ t.is
      F.BIST_RUN_STAT_FAIL = !pass ∧ t.rd R.BIST_FAIL_ADDR = (if pass then s.rd R.BIST_FAIL_ADDR else addr) ∧ t.is F.BIST_EVENT_DONE = true ∧ t.mem = s.mem ∧ t.out = s.out
      ∧ t.integ = { s.integ with test := none } ∧ s.Only [R.BIST_RUN_STAT, R.BIST_FAIL_ADDR, R.BIST_EVENT] t) ∧
  (∀ (pass : Bool) (addr : Word) (bad : List Word) (s : State), s.integ.test = none → s.IrqRemembered → Completes (.bistDone pass addr bad) s fun t => t = s)

/-- From the fifth coarse output after a restart on the value is shown with VALID and the weirs of the coarse path are judged; a fine output is the FIR's sum rounded (log entry
70) and clamped, shown, counted, accumulated and judged once 4 + ceil(T/D) outputs have passed, and reads 0 before. A rise of a weir is an event, a reserved bias weir trips
its lane. Configuration is stored, or refused with the first reason of the order 5, 4, 3, 2, 1 and recorded; so is the coefficient pool, another master apart. An accepted edge
of 200 ns or more at the claimed ball, or MON.CTL.SYNC, restarts all decimators; a source within one modulator clock of the last names the lower code only. A read of ACC_N
latches and restarts the sum. A channel that failed or has no power delivers nothing. The trip of the bias weir is log entry 34, R123 and R124 of chapter 05; the received
power's weirs are of chapter 04. (Rests on 14_monitor_thermal.md, 01_operating_modes.md, 04_line_receive.md, 05_line_transmit.md.) -/
def Obligations.MonitorChannelsConvertAndAccumulate : Prop :=
  (∀ (ch : Fin 24) (v : BitVec 10) (s : State), s.monPower = true → s.monFailed ch = false → 4 ≤ (s.monChan ch).coarse → (∀ w : Fin 4, s.weirOn ch w = false ∧ s.is
      (weirFld ch w) = false) → Completes (.coarseOutput ch v) s fun t => t.fld (F.MON_CH_COARSE_VALUE ch) = v.toNat ∧ t.is (F.MON_CH_COARSE_VALID ch) = true ∧ t.monChan
      ch = { s.monChan ch with coarse := 5 } ∧ t.out = s.out ∧ s.Only [R.MON_CH_COARSE ch] t) ∧
  (∀ (ch : Fin 24) (v : BitVec 10) (s : State), s.monPower = true → s.monFailed ch = false → (s.monChan ch).coarse < 4 → Completes (.coarseOutput ch v) s fun t =>
      t.monChan ch = { s.monChan ch with coarse := (s.monChan ch).coarse + 1 } ∧ t.out = s.out ∧ s.Only [] t) ∧
  (∀ (ch : Fin 24) (v : BitVec 10) (s : State), s.monPower = false ∨ s.monFailed ch = true → s.IrqRemembered → Completes (.coarseOutput ch v) s fun t => t = s) ∧
  (∀ (ch : Fin 24) (v : BitVec 10) (w : Fin 4) (s : State), s.monPower = true → s.monFailed ch = false → 4 ≤ (s.monChan ch).coarse → s.weirOn ch w = true → s.is
      ⟨weirReg ch w, 28, 1⟩ = false ∨ s.weirForced ch w = true → s.is ⟨weirReg ch w, 29, 1⟩ = false ∨ s.weirForced ch w = true → Completes (.coarseOutput ch v) s fun t =>
      t.is (weirFld ch w) = (if s.fld ⟨weirReg ch w, 0, 20⟩ ≤ v.toNat * 1024 then true else if v.toNat * 1024 + s.fld ⟨weirReg ch w, 20, 8⟩ * 1024 < s.fld ⟨weirReg ch w,
      0, 20⟩ then false else s.is (weirFld ch w)) ∧ bitAt (t.fld (F.MON_WEIR_EVT_BITS ((4 * ch.val + w.val) / 32))) ((4 * ch.val + w.val) % 32) = (bitAt (s.fld
      (F.MON_WEIR_EVT_BITS ((4 * ch.val + w.val) / 32))) ((4 * ch.val + w.val) % 32) || t.is (weirFld ch w) && !s.is (weirFld ch w))) ∧
  (∀ (ch : Fin 24) (v : BitVec 10) (w : Fin 4) (s : State), s.monPower = true → s.monFailed ch = false → 4 ≤ (s.monChan ch).coarse → s.weirOn ch w = true → s.is
      ⟨weirReg ch w, 28, 1⟩ = false ∨ s.weirForced ch w = true → s.is ⟨weirReg ch w, 29, 1⟩ = true → s.weirForced ch w = false → Completes (.coarseOutput ch v) s fun t =>
      t.is (weirFld ch w) = (if v.toNat * 1024 ≤ s.fld ⟨weirReg ch w, 0, 20⟩ then true else if s.fld ⟨weirReg ch w, 0, 20⟩ + s.fld ⟨weirReg ch w, 20, 8⟩ * 1024 < v.toNat *
      1024 then false else s.is (weirFld ch w))) ∧
  (∀ (ch : Fin 24) (v : BitVec 10) (w : Fin 4) (s : State), s.monPower = true → s.monFailed ch = false → 4 ≤ (s.monChan ch).coarse → s.weirOn ch w = true → s.weirForced
      ch w = false → s.is ⟨weirReg ch w, 28, 1⟩ = true → Completes (.coarseOutput ch v) s fun t => t.is (weirFld ch w) = s.is (weirFld ch w)) ∧
  (∀ (ch : Fin 24) (v : BitVec 10) (w : Fin 4) (s : State), s.monPower = true → s.monFailed ch = false → 4 ≤ (s.monChan ch).coarse → s.weirOn ch w = false → Completes
      (.coarseOutput ch v) s fun t => t.is (weirFld ch w) = false) ∧
  (∀ (ch : Fin 24) (v : BitVec 10) (s : State), s.monPower = true → s.monFailed ch = false → 4 ≤ (s.monChan ch).coarse → 8 ≤ ch.val → ch.val < 16 → s.weirOn ch 0 = true
      → s.weirForced ch 0 = true ∨ s.is ⟨weirReg ch 0, 28, 1⟩ = false ∧ s.is ⟨weirReg ch 0, 29, 1⟩ = false → s.is (weirFld ch 0) = false → s.fld ⟨weirReg ch 0, 0, 20⟩ ≤
      v.toNat * 1024 → s.domOn (ch.val - 6) = true → Completes (.coarseOutput ch v) s fun t => t.is (F.LTX_FAULT_CAUSE_BIAS_TRIP ch) = true ∧ t.is (weirFld ch 0) = true ∧
      (s.fld (F.LTX_STATUS_STATE ch) = 4 → t.is (F.LTX_CTL_SQUELCH ch) = true)) ∧
  (∀ (ch : Fin 24) (v : BitVec 10) (s : State), s.monPower = true → s.monFailed ch = false → 4 ≤ (s.monChan ch).coarse → ch.val < 8 → s.domOn (ch.val + 2) = true →
      Completes (.coarseOutput ch v) s fun t => (t.is (weirFld ch 0) ≠ s.is (weirFld ch 0) → t.is (F.LRX_STATUS_PWR_WEIR ch) = t.weir ch 0)) ∧
  (∀ (ch : Fin 24) (us : List Nat) (n d r b v : Nat) (y : Int) (dl : List Nat) (s : State), s.monPower = true → s.monFailed ch = false → s.is (F.MON_CH_CFG_EN ch) =
      true → dl.length ≤ 256 → n = (s.monConf ch).taps → d = (s.monConf ch).d → r = (s.monConf ch).r → b = (s.monConf ch).base → dl = ((us.take d).map (min (r ^
      4))).reverse ++ (s.monChan ch).delay → y = (if n = 0 then ((1048576 * dl.getD 0 0 : Nat) : Int) else 8 * (List.range n).foldl (fun a i => a + s.sfld
      (F.MON_COEF_VALUE ((b + i) % 512)) * (dl.getD i 0 : Nat)) (0 : Int)) → v = min 0xFFFFF ((2 * y.toNat + r ^ 4) / (2 * r ^ 4)) → 4 + (n + d - 1) / d ≤ (s.monChan
      ch).fine → (∀ w : Fin 4, s.weirOn ch w = false ∧ s.is (weirFld ch w) = false) → Completes (.fineOutput ch us) s fun t => t.fld (F.MON_CH_FINE_VALUE ch) = v ∧ t.is
      (F.MON_CH_FINE_VALID ch) = true ∧ t.fld (F.MON_CH_FINE_SEQ ch) = (s.fld (F.MON_CH_FINE_SEQ ch) + 1) % 256 ∧ t.fld (F.MON_CH_ACC_N_COUNT ch) = min (s.fld
      (F.MON_CH_ACC_N_COUNT ch) + 1) 65535 ∧ (t.monChan ch).sum = min ((s.monChan ch).sum + v) (2 ^ 48 - 1) ∧ (t.monChan ch).delay = dl ∧ t.out = s.out ∧ s.Only
      [R.MON_CH_FINE ch, R.MON_CH_ACC_N ch] t) ∧
  (∀ (ch : Fin 24) (us : List Nat) (n d r b v : Nat) (y : Int) (dl : List Nat) (s : State), s.monPower = true → s.monFailed ch = false → s.is (F.MON_CH_CFG_EN ch) =
      true → dl.length ≤ 256 → n = (s.monConf ch).taps → d = (s.monConf ch).d → r = (s.monConf ch).r → b = (s.monConf ch).base → dl = ((us.take d).map (min (r ^
      4))).reverse ++ (s.monChan ch).delay → y = (if n = 0 then ((1048576 * dl.getD 0 0 : Nat) : Int) else 8 * (List.range n).foldl (fun a i => a + s.sfld
      (F.MON_COEF_VALUE ((b + i) % 512)) * (dl.getD i 0 : Nat)) (0 : Int)) → v = min 0xFFFFF ((2 * y.toNat + r ^ 4) / (2 * r ^ 4)) → 4 + (n + d - 1) / d ≤ (s.monChan
      ch).fine → Completes (.fineOutput ch us) s fun t => t.fld (F.MON_CH_FINE_VALUE ch) = v ∧ t.is (F.MON_CH_FINE_VALID ch) = true ∧ t.fld (F.MON_CH_FINE_SEQ ch) = (s.fld
      (F.MON_CH_FINE_SEQ ch) + 1) % 256 ∧ t.fld (F.MON_CH_ACC_N_COUNT ch) = min (s.fld (F.MON_CH_ACC_N_COUNT ch) + 1) 65535 ∧ (t.monChan ch).sum = min ((s.monChan ch).sum
      + v) (2 ^ 48 - 1) ∧ (t.monChan ch).delay = dl) ∧
  (∀ (ch : Fin 24) (us : List Nat) (n d r b v : Nat) (y : Int) (dl : List Nat) (s : State), s.monPower = true → s.monFailed ch = false → s.is (F.MON_CH_CFG_EN ch) =
      true → dl.length ≤ 256 → n = (s.monConf ch).taps → d = (s.monConf ch).d → r = (s.monConf ch).r → b = (s.monConf ch).base → dl = ((us.take d).map (min (r ^
      4))).reverse ++ (s.monChan ch).delay → y = (if n = 0 then ((1048576 * dl.getD 0 0 : Nat) : Int) else 8 * (List.range n).foldl (fun a i => a + s.sfld
      (F.MON_COEF_VALUE ((b + i) % 512)) * (dl.getD i 0 : Nat)) (0 : Int)) → v = min 0xFFFFF ((2 * y.toNat + r ^ 4) / (2 * r ^ 4)) → (s.monChan ch).fine < 4 + (n + d - 1)
      / d → Completes (.fineOutput ch us) s fun t => t.fld (F.MON_CH_FINE_VALUE ch) = 0 ∧ t.is (F.MON_CH_FINE_VALID ch) = false ∧ t.fld (F.MON_CH_FINE_SEQ ch) = (s.fld
      (F.MON_CH_FINE_SEQ ch) + 1) % 256 ∧ t.monChan ch = { s.monChan ch with fine := (s.monChan ch).fine + 1, delay := dl } ∧ t.out = s.out ∧ s.Only [R.MON_CH_FINE ch] t) ∧
  (∀ (ch : Fin 24) (us : List Nat) (s : State), s.monPower = false ∨ s.monFailed ch = true ∨ s.is (F.MON_CH_CFG_EN ch) = false → s.IrqRemembered → Completes
      (.fineOutput ch us) s fun t => t = s) ∧
  (∀ (ch : Fin 24) (us : List Nat) (n d r b v : Nat) (y : Int) (dl : List Nat) (w : Fin 4) (s : State), s.monPower = true → s.monFailed ch = false → s.is
      (F.MON_CH_CFG_EN ch) = true → dl.length ≤ 256 → n = (s.monConf ch).taps → d = (s.monConf ch).d → r = (s.monConf ch).r → b = (s.monConf ch).base → dl = ((us.take
      d).map (min (r ^ 4))).reverse ++ (s.monChan ch).delay → y = (if n = 0 then ((1048576 * dl.getD 0 0 : Nat) : Int) else 8 * (List.range n).foldl (fun a i => a + s.sfld
      (F.MON_COEF_VALUE ((b + i) % 512)) * (dl.getD i 0 : Nat)) (0 : Int)) → v = min 0xFFFFF ((2 * y.toNat + r ^ 4) / (2 * r ^ 4)) → 4 + (n + d - 1) / d ≤ (s.monChan
      ch).fine → s.weirOn ch w = true → s.weirForced ch w = false → s.is ⟨weirReg ch w, 28, 1⟩ = true → s.is ⟨weirReg ch w, 29, 1⟩ = false → Completes (.fineOutput ch us)
      s fun t => t.is (weirFld ch w) = (if s.fld ⟨weirReg ch w, 0, 20⟩ ≤ v then true else if v + s.fld ⟨weirReg ch w, 20, 8⟩ * 1024 < s.fld ⟨weirReg ch w, 0, 20⟩ then
      false else s.is (weirFld ch w)) ∧ bitAt (t.fld (F.MON_WEIR_EVT_BITS ((4 * ch.val + w.val) / 32))) ((4 * ch.val + w.val) % 32) = (bitAt (s.fld (F.MON_WEIR_EVT_BITS
      ((4 * ch.val + w.val) / 32))) ((4 * ch.val + w.val) % 32) || t.is (weirFld ch w) && !s.is (weirFld ch w))) ∧
  (∀ (ch : Fin 24) (us : List Nat) (n d r b v : Nat) (y : Int) (dl : List Nat) (w : Fin 4) (s : State), s.monPower = true → s.monFailed ch = false → s.is
      (F.MON_CH_CFG_EN ch) = true → dl.length ≤ 256 → n = (s.monConf ch).taps → d = (s.monConf ch).d → r = (s.monConf ch).r → b = (s.monConf ch).base → dl = ((us.take
      d).map (min (r ^ 4))).reverse ++ (s.monChan ch).delay → y = (if n = 0 then ((1048576 * dl.getD 0 0 : Nat) : Int) else 8 * (List.range n).foldl (fun a i => a + s.sfld
      (F.MON_COEF_VALUE ((b + i) % 512)) * (dl.getD i 0 : Nat)) (0 : Int)) → v = min 0xFFFFF ((2 * y.toNat + r ^ 4) / (2 * r ^ 4)) → 4 + (n + d - 1) / d ≤ (s.monChan
      ch).fine → s.weirOn ch w = true → s.weirForced ch w = false → s.is ⟨weirReg ch w, 28, 1⟩ = true → s.is ⟨weirReg ch w, 29, 1⟩ = true → s.weirForced ch w = false →
      Completes (.fineOutput ch us) s fun t => t.is (weirFld ch w) = (if v ≤ s.fld ⟨weirReg ch w, 0, 20⟩ then true else if s.fld ⟨weirReg ch w, 0, 20⟩ + s.fld ⟨weirReg ch
      w, 20, 8⟩ * 1024 < v then false else s.is (weirFld ch w))) ∧
  (∀ (ch : Fin 24) (us : List Nat) (n d r b v : Nat) (y : Int) (dl : List Nat) (w : Fin 4) (s : State), s.monPower = true → s.monFailed ch = false → s.is
      (F.MON_CH_CFG_EN ch) = true → dl.length ≤ 256 → n = (s.monConf ch).taps → d = (s.monConf ch).d → r = (s.monConf ch).r → b = (s.monConf ch).base → dl = ((us.take
      d).map (min (r ^ 4))).reverse ++ (s.monChan ch).delay → y = (if n = 0 then ((1048576 * dl.getD 0 0 : Nat) : Int) else 8 * (List.range n).foldl (fun a i => a + s.sfld
      (F.MON_COEF_VALUE ((b + i) % 512)) * (dl.getD i 0 : Nat)) (0 : Int)) → v = min 0xFFFFF ((2 * y.toNat + r ^ 4) / (2 * r ^ 4)) → 4 + (n + d - 1) / d ≤ (s.monChan
      ch).fine → s.weirOn ch w = true → s.is ⟨weirReg ch w, 28, 1⟩ = false ∨ s.weirForced ch w = true → Completes (.fineOutput ch us) s fun t => t.is (weirFld ch w) = s.is
      (weirFld ch w)) ∧
  (∀ (ch : Fin 24) (us : List Nat) (n d r b v : Nat) (y : Int) (dl : List Nat) (w : Fin 4) (s : State), s.monPower = true → s.monFailed ch = false → s.is
      (F.MON_CH_CFG_EN ch) = true → dl.length ≤ 256 → n = (s.monConf ch).taps → d = (s.monConf ch).d → r = (s.monConf ch).r → b = (s.monConf ch).base → dl = ((us.take
      d).map (min (r ^ 4))).reverse ++ (s.monChan ch).delay → y = (if n = 0 then ((1048576 * dl.getD 0 0 : Nat) : Int) else 8 * (List.range n).foldl (fun a i => a + s.sfld
      (F.MON_COEF_VALUE ((b + i) % 512)) * (dl.getD i 0 : Nat)) (0 : Int)) → v = min 0xFFFFF ((2 * y.toNat + r ^ 4) / (2 * r ^ 4)) → 4 + (n + d - 1) / d ≤ (s.monChan
      ch).fine → s.weirOn ch w = false → Completes (.fineOutput ch us) s fun t => t.is (weirFld ch w) = false) ∧
  (∀ (m : Master) (ch : Fin 24) (fir : Bool) (v : Word) (c f : Nat) (s : State), s.Reached m (if fir then R.MON_CH_FIR ch else R.MON_CH_CFG ch) → c = (if fir then (s.rd
      (R.MON_CH_CFG ch)).toNat else v.toNat % 0x20000) → f = (if fir then (v &&& 0x01FF01FF#32).toNat else (s.rd (R.MON_CH_FIR ch)).toNat) → m.code ≠ 1 → m.code ≠ 3 →
      m.code ≠ 5 → Completes (.monChannelConfig m ch fir v) s fun t => s.Answered m 2 t ∧ t.fld F.MON_REFUSE_CHANNEL = ch ∧ t.fld F.MON_REFUSE_REASON = 5 ∧ t.fld
      F.MON_REFUSE_COUNT = min (s.fld F.MON_REFUSE_COUNT + 1) 65535 ∧ bitAt (t.fld F.MON_EVENT_BITS) 1 = true ∧ t.mons = s.mons ∧ s.Only [R.MON_REFUSE, R.MON_EVENT] t) ∧
  (∀ (m : Master) (ch : Fin 24) (fir : Bool) (v : Word) (c f : Nat) (s : State), s.Reached m (if fir then R.MON_CH_FIR ch else R.MON_CH_CFG ch) → c = (if fir then (s.rd
      (R.MON_CH_CFG ch)).toNat else v.toNat % 0x20000) → f = (if fir then (v &&& 0x01FF01FF#32).toNat else (s.rd (R.MON_CH_FIR ch)).toNat) → m.code = 1 ∨ m.code = 3 ∨
      m.code = 5 → s.is (F.MON_CH_CFG_EN ch) = true ∧ (c / 2 ≠ (s.rd (R.MON_CH_CFG ch)).toNat / 2 ∨ f ≠ (s.rd (R.MON_CH_FIR ch)).toNat) → Completes (.monChannelConfig m ch
      fir v) s fun t => s.Answered m 1 t ∧ t.fld F.MON_REFUSE_CHANNEL = ch ∧ t.fld F.MON_REFUSE_REASON = 4 ∧ t.fld F.MON_REFUSE_COUNT = min (s.fld F.MON_REFUSE_COUNT + 1)
      65535 ∧ bitAt (t.fld F.MON_EVENT_BITS) 1 = true ∧ t.mons = s.mons ∧ s.Only [R.MON_REFUSE, R.MON_EVENT] t) ∧
  (∀ (m : Master) (ch : Fin 24) (fir : Bool) (v : Word) (c f : Nat) (s : State), s.Reached m (if fir then R.MON_CH_FIR ch else R.MON_CH_CFG ch) → c = (if fir then (s.rd
      (R.MON_CH_CFG ch)).toNat else v.toNat % 0x20000) → f = (if fir then (v &&& 0x01FF01FF#32).toNat else (s.rd (R.MON_CH_FIR ch)).toNat) → m.code = 1 ∨ m.code = 3 ∨
      m.code = 5 → ¬ (s.is (F.MON_CH_CFG_EN ch) = true ∧ (c / 2 ≠ (s.rd (R.MON_CH_CFG ch)).toNat / 2 ∨ f ≠ (s.rd (R.MON_CH_FIR ch)).toNat)) → s.monFailed ch = true → fir =
      false → c % 2 = 1 → Completes (.monChannelConfig m ch fir v) s fun t => s.Answered m 1 t ∧ t.fld F.MON_REFUSE_CHANNEL = ch ∧ t.fld F.MON_REFUSE_REASON = 3 ∧ t.fld
      F.MON_REFUSE_COUNT = min (s.fld F.MON_REFUSE_COUNT + 1) 65535 ∧ bitAt (t.fld F.MON_EVENT_BITS) 1 = true ∧ t.mons = s.mons ∧ s.Only [R.MON_REFUSE, R.MON_EVENT] t) ∧
  (∀ (m : Master) (ch : Fin 24) (fir : Bool) (v : Word) (c f : Nat) (s : State), s.Reached m (if fir then R.MON_CH_FIR ch else R.MON_CH_CFG ch) → c = (if fir then (s.rd
      (R.MON_CH_CFG ch)).toNat else v.toNat % 0x20000) → f = (if fir then (v &&& 0x01FF01FF#32).toNat else (s.rd (R.MON_CH_FIR ch)).toNat) → m.code = 1 ∨ m.code = 3 ∨
      m.code = 5 → ¬ (s.is (F.MON_CH_CFG_EN ch) = true ∧ (c / 2 ≠ (s.rd (R.MON_CH_CFG ch)).toNat / 2 ∨ f ≠ (s.rd (R.MON_CH_FIR ch)).toNat)) → ¬ (s.monFailed ch = true ∧
      fir = false ∧ c % 2 = 1) → 512 < bitsOf f 16 9 + min 256 (bitsOf f 0 9) → Completes (.monChannelConfig m ch fir v) s fun t => s.Answered m 1 t ∧ t.fld
      F.MON_REFUSE_CHANNEL = ch ∧ t.fld F.MON_REFUSE_REASON = 2 ∧ t.fld F.MON_REFUSE_COUNT = min (s.fld F.MON_REFUSE_COUNT + 1) 65535 ∧ bitAt (t.fld F.MON_EVENT_BITS) 1 =
      true ∧ t.mons = s.mons ∧ s.Only [R.MON_REFUSE, R.MON_EVENT] t) ∧
  (∀ (m : Master) (ch : Fin 24) (fir : Bool) (v : Word) (c f : Nat) (s : State), s.Reached m (if fir then R.MON_CH_FIR ch else R.MON_CH_CFG ch) → c = (if fir then (s.rd
      (R.MON_CH_CFG ch)).toNat else v.toNat % 0x20000) → f = (if fir then (v &&& 0x01FF01FF#32).toNat else (s.rd (R.MON_CH_FIR ch)).toNat) → m.code = 1 ∨ m.code = 3 ∨
      m.code = 5 → ¬ (s.is (F.MON_CH_CFG_EN ch) = true ∧ (c / 2 ≠ (s.rd (R.MON_CH_CFG ch)).toNat / 2 ∨ f ≠ (s.rd (R.MON_CH_FIR ch)).toNat)) → ¬ (s.monFailed ch = true ∧
      fir = false ∧ c % 2 = 1) → bitsOf f 16 9 + min 256 (bitsOf f 0 9) ≤ 512 → c % 2 = 1 → 40 * (s.monDemand ch (Machine.monConf c f)).2 < (s.monDemand ch
      (Machine.monConf c f)).1 → Completes (.monChannelConfig m ch fir v) s fun t => s.Answered m 1 t ∧ t.fld F.MON_REFUSE_CHANNEL = ch ∧ t.fld F.MON_REFUSE_REASON = 1 ∧
      t.fld F.MON_REFUSE_COUNT = min (s.fld F.MON_REFUSE_COUNT + 1) 65535 ∧ bitAt (t.fld F.MON_EVENT_BITS) 1 = true ∧ t.mons = s.mons ∧ s.Only [R.MON_REFUSE, R.MON_EVENT]
      t) ∧
  (∀ (m : Master) (ch : Fin 24) (fir : Bool) (v : Word) (c f : Nat) (s : State), s.Reached m (if fir then R.MON_CH_FIR ch else R.MON_CH_CFG ch) → c = (if fir then (s.rd
      (R.MON_CH_CFG ch)).toNat else v.toNat % 0x20000) → f = (if fir then (v &&& 0x01FF01FF#32).toNat else (s.rd (R.MON_CH_FIR ch)).toNat) → m.code = 1 ∨ m.code = 3 ∨
      m.code = 5 → ¬ (s.is (F.MON_CH_CFG_EN ch) = true ∧ (c / 2 ≠ (s.rd (R.MON_CH_CFG ch)).toNat / 2 ∨ f ≠ (s.rd (R.MON_CH_FIR ch)).toNat)) → ¬ (s.monFailed ch = true ∧
      fir = false ∧ c % 2 = 1) → bitsOf f 16 9 + min 256 (bitsOf f 0 9) ≤ 512 → c % 2 = 0 ∨ (s.monDemand ch (Machine.monConf c f)).1 ≤ 40 * (s.monDemand ch
      (Machine.monConf c f)).2 → c % 2 = 0 ∨ s.is (F.MON_CH_CFG_EN ch) = true → Completes (.monChannelConfig m ch fir v) s fun t => s.Answered m 0 t ∧ t.rd (R.MON_CH_CFG
      ch) = BitVec.ofNat 32 c ∧ t.rd (R.MON_CH_FIR ch) = BitVec.ofNat 32 f ∧ t.mons = s.mons ∧ s.Only [R.MON_CH_CFG ch, R.MON_CH_FIR ch] t) ∧
  (∀ (m : Master) (ch : Fin 24) (fir : Bool) (v : Word) (c f : Nat) (s : State), s.Reached m (if fir then R.MON_CH_FIR ch else R.MON_CH_CFG ch) → c = (if fir then (s.rd
      (R.MON_CH_CFG ch)).toNat else v.toNat % 0x20000) → f = (if fir then (v &&& 0x01FF01FF#32).toNat else (s.rd (R.MON_CH_FIR ch)).toNat) → m.code = 1 ∨ m.code = 3 ∨
      m.code = 5 → ¬ (s.is (F.MON_CH_CFG_EN ch) = true ∧ (c / 2 ≠ (s.rd (R.MON_CH_CFG ch)).toNat / 2 ∨ f ≠ (s.rd (R.MON_CH_FIR ch)).toNat)) → ¬ (s.monFailed ch = true ∧
      fir = false ∧ c % 2 = 1) → bitsOf f 16 9 + min 256 (bitsOf f 0 9) ≤ 512 → c % 2 = 0 ∨ (s.monDemand ch (Machine.monConf c f)).1 ≤ 40 * (s.monDemand ch
      (Machine.monConf c f)).2 → c % 2 = 1 → s.is (F.MON_CH_CFG_EN ch) = false → Completes (.monChannelConfig m ch fir v) s fun t => s.Answered m 0 t ∧ t.rd (R.MON_CH_CFG
      ch) = BitVec.ofNat 32 c ∧ t.rd (R.MON_CH_FIR ch) = BitVec.ofNat 32 f ∧ t.monChan ch = { s.monChan ch with delay := [] } ∧ ((s.monChan ch).fine ≤ 4 + (min 256 (bitsOf
      f 0 9) + (Machine.monConf c f).d - 1) / (Machine.monConf c f).d → t.fld (F.MON_CH_FINE_VALUE ch) = 0 ∧ t.is (F.MON_CH_FINE_VALID ch) = false) ∧ (4 + (min 256 (bitsOf
      f 0 9) + (Machine.monConf c f).d - 1) / (Machine.monConf c f).d < (s.monChan ch).fine → t.rd (R.MON_CH_FINE ch) = s.rd (R.MON_CH_FINE ch)) ∧ s.Only [R.MON_CH_CFG ch,
      R.MON_CH_FIR ch, R.MON_CH_FINE ch] t) ∧
  (∀ (m : Master) (i : Fin 512) (v : Word) (s : State), s.Reached m (R.MON_COEF i) → m.code = 1 ∨ m.code = 3 ∨ m.code = 5 → (∀ c : Fin 24, ¬ (s.is (F.MON_CH_CFG_EN c) =
      true ∧ (s.monConf c).base ≤ i.val ∧ i.val < (s.monConf c).base + (s.monConf c).taps)) → Completes (.monCoefWrite m i v) s fun t => s.Answered m 0 t ∧ t.fld
      (F.MON_COEF_VALUE i) = v.toNat % 262144 ∧ s.Only [R.MON_COEF i] t) ∧
  (∀ (m : Master) (i : Fin 512) (v : Word) (c : Fin 24) (s : State), s.Reached m (R.MON_COEF i) → m.code = 1 ∨ m.code = 3 ∨ m.code = 5 → s.is (F.MON_CH_CFG_EN c) = true
      → (s.monConf c).base ≤ i.val → i.val < (s.monConf c).base + (s.monConf c).taps → (∀ k : Fin 24, k < c → ¬ (s.is (F.MON_CH_CFG_EN k) = true ∧ (s.monConf k).base ≤
      i.val ∧ i.val < (s.monConf k).base + (s.monConf k).taps)) → Completes (.monCoefWrite m i v) s fun t => s.Answered m 1 t ∧ t.fld F.MON_REFUSE_CHANNEL = c ∧ t.fld
      F.MON_REFUSE_REASON = 4 ∧ t.fld F.MON_REFUSE_COUNT = min (s.fld F.MON_REFUSE_COUNT + 1) 65535 ∧ bitAt (t.fld F.MON_EVENT_BITS) 1 = true ∧ t.mons = s.mons ∧ s.Only
      [R.MON_REFUSE, R.MON_EVENT] t) ∧
  (∀ (m : Master) (i : Fin 512) (v : Word) (s : State), s.Reached m (R.MON_COEF i) → m.code ≠ 1 → m.code ≠ 3 → m.code ≠ 5 → Completes (.monCoefWrite m i v) s fun t =>
      s.Answered m 2 t ∧ s.Only [] t) ∧
  (∀ (edge : Bool × Nat) (s : State), s.monPower = true → s.claimUse 0 = 1 → edge.1 = !s.is F.MON_CTL_SYNC_EDGE → 200 ≤ edge.2 → s.monAt = none → Completes
      (.monSyncEdge edge) s fun t => t.fld F.MON_SYNC_STAT_COUNT = min (s.fld F.MON_SYNC_STAT_COUNT + 1) 65535 ∧ t.fld F.MON_SYNC_STAT_LAST_SRC = 1 ∧ bitAt (t.fld
      F.MON_EVENT_BITS) 0 = true ∧ (∀ c : Fin 24, t.rd (R.MON_CH_COARSE c) = 0#32 ∧ t.rd (R.MON_CH_FINE c) = 0#32 ∧ t.monChan c =
      { s.monChan c with coarse := 0, fine := 0, delay := [] }) ∧ t.monAt = some s.clock ∧ s.OnlyBlocks [blockOf R.MON_CTL] t ∧ (∀ i : Fin 3, t.rd (R.MON_WEIR_STATE i) =
      s.rd (R.MON_WEIR_STATE i) ∧ t.rd (R.MON_WEIR_EVT i) = s.rd (R.MON_WEIR_EVT i)) ∧ t.out = s.out) ∧
  (∀ (edge : Bool × Nat) (a : Nat) (s : State), s.monPower = true → s.claimUse 0 = 1 → edge.1 = !s.is F.MON_CTL_SYNC_EDGE → 200 ≤ edge.2 → s.monAt = some a → (if s.is
      F.CLK_SRC_SEL then 8000 else 8064) ≤ (s.clock - a) * 128 → Completes (.monSyncEdge edge) s fun t => t.fld F.MON_SYNC_STAT_COUNT = min (s.fld F.MON_SYNC_STAT_COUNT +
      1) 65535 ∧ t.fld F.MON_SYNC_STAT_LAST_SRC = 1 ∧ bitAt (t.fld F.MON_EVENT_BITS) 0 = true ∧ (∀ c : Fin 24, t.rd (R.MON_CH_COARSE c) = 0#32 ∧ t.rd (R.MON_CH_FINE c) =
      0#32 ∧ t.monChan c = { s.monChan c with coarse := 0, fine := 0, delay := [] }) ∧ t.monAt = some s.clock ∧ s.OnlyBlocks [blockOf R.MON_CTL] t ∧ (∀ i : Fin 3, t.rd
      (R.MON_WEIR_STATE i) = s.rd (R.MON_WEIR_STATE i) ∧ t.rd (R.MON_WEIR_EVT i) = s.rd (R.MON_WEIR_EVT i)) ∧ t.out = s.out) ∧
  (∀ (edge : Bool × Nat) (a : Nat) (s : State), s.monPower = true → s.claimUse 0 = 1 → edge.1 = !s.is F.MON_CTL_SYNC_EDGE → 200 ≤ edge.2 → s.monAt = some a → (s.clock -
      a) * 128 < (if s.is F.CLK_SRC_SEL then 8000 else 8064) → Completes (.monSyncEdge edge) s fun t => t.fld F.MON_SYNC_STAT_LAST_SRC = min 1 (s.fld
      F.MON_SYNC_STAT_LAST_SRC) ∧ t.fld F.MON_SYNC_STAT_COUNT = s.fld F.MON_SYNC_STAT_COUNT ∧ t.mons = s.mons ∧ t.monAt = s.monAt ∧ t.out = s.out ∧ s.Only
      [R.MON_SYNC_STAT] t) ∧
  (∀ (edge : Bool × Nat) (s : State), s.monPower = false ∨ s.claimUse 0 ≠ 1 ∨ edge.1 = s.is F.MON_CTL_SYNC_EDGE ∨ edge.2 < 200 → s.IrqRemembered → Completes
      (.monSyncEdge edge) s fun t => t = s) ∧
  (∀ (m : Master) (s : State), s.Reached m R.MON_CTL → m.code = 1 ∨ m.code = 3 ∨ m.code = 5 → s.monPower = true → s.monAt = none → Completes (.monSyncCommand m) s fun t
      => s.Answered m 0 t ∧ t.is F.MON_CTL_SYNC_EDGE = s.is F.MON_CTL_SYNC_EDGE ∧ t.fld F.MON_SYNC_STAT_COUNT = min (s.fld F.MON_SYNC_STAT_COUNT + 1) 65535 ∧ t.fld
      F.MON_SYNC_STAT_LAST_SRC = 2 ∧ bitAt (t.fld F.MON_EVENT_BITS) 0 = true ∧ (∀ c : Fin 24, t.rd (R.MON_CH_COARSE c) = 0#32 ∧ t.rd (R.MON_CH_FINE c) = 0#32 ∧ t.monChan c
      = { s.monChan c with coarse := 0, fine := 0, delay := [] }) ∧ t.monAt = some s.clock ∧ s.OnlyBlocks [blockOf R.MON_CTL] t ∧ (∀ i : Fin 3, t.rd (R.MON_WEIR_STATE i) =
      s.rd (R.MON_WEIR_STATE i) ∧ t.rd (R.MON_WEIR_EVT i) = s.rd (R.MON_WEIR_EVT i))) ∧
  (∀ (m : Master) (a : Nat) (s : State), s.Reached m R.MON_CTL → m.code = 1 ∨ m.code = 3 ∨ m.code = 5 → s.monPower = true → s.monAt = some a → (if s.is F.CLK_SRC_SEL
      then 8000 else 8064) ≤ (s.clock - a) * 128 → Completes (.monSyncCommand m) s fun t => s.Answered m 0 t ∧ t.fld F.MON_SYNC_STAT_COUNT = min (s.fld
      F.MON_SYNC_STAT_COUNT + 1) 65535 ∧ t.fld F.MON_SYNC_STAT_LAST_SRC = 2 ∧ bitAt (t.fld F.MON_EVENT_BITS) 0 = true ∧ (∀ c : Fin 24, t.rd (R.MON_CH_COARSE c) = 0#32 ∧
      t.rd (R.MON_CH_FINE c) = 0#32 ∧ t.monChan c = { s.monChan c with coarse := 0, fine := 0, delay := [] }) ∧ t.monAt = some s.clock ∧ s.OnlyBlocks [blockOf R.MON_CTL] t
      ∧ (∀ i : Fin 3, t.rd (R.MON_WEIR_STATE i) = s.rd (R.MON_WEIR_STATE i) ∧ t.rd (R.MON_WEIR_EVT i) = s.rd (R.MON_WEIR_EVT i))) ∧
  (∀ (m : Master) (a : Nat) (s : State), s.Reached m R.MON_CTL → m.code = 1 ∨ m.code = 3 ∨ m.code = 5 → s.monPower = true → s.monAt = some a → (s.clock - a) * 128 < (if
      s.is F.CLK_SRC_SEL then 8000 else 8064) → Completes (.monSyncCommand m) s fun t => s.Answered m 0 t ∧ t.fld F.MON_SYNC_STAT_LAST_SRC = min 2 (s.fld
      F.MON_SYNC_STAT_LAST_SRC) ∧ t.fld F.MON_SYNC_STAT_COUNT = s.fld F.MON_SYNC_STAT_COUNT ∧ t.mons = s.mons ∧ t.monAt = s.monAt ∧ s.Only [R.MON_SYNC_STAT] t) ∧
  (∀ (m : Master) (s : State), s.Reached m R.MON_CTL → m.code = 1 ∨ m.code = 3 ∨ m.code = 5 → s.monPower = false → Completes (.monSyncCommand m) s fun t => s.Answered m
      0 t ∧ t.mons = s.mons ∧ s.Only [] t) ∧
  (∀ (m : Master) (s : State), s.Reached m R.MON_CTL → m.code ≠ 1 → m.code ≠ 3 → m.code ≠ 5 → Completes (.monSyncCommand m) s fun t => s.Answered m 2 t ∧ t.mons =
      s.mons ∧ s.Only [] t) ∧
  (∀ (m : Master) (ch : Fin 24) (s : State), s.Reached m (R.MON_CH_ACC_N ch) → Completes (.accRead m ch) s fun t => s.Returned m 0 (s.rd (R.MON_CH_ACC_N ch)) t ∧ t.fld
      (F.MON_CH_ACC_LO_SUM ch) = (s.monChan ch).sum % 2 ^ 32 ∧ t.fld (F.MON_CH_ACC_HI_SUM ch) = (s.monChan ch).sum / 2 ^ 32 % 2 ^ 16 ∧ t.monChan ch =
      { s.monChan ch with sum := 0 } ∧ t.rd (R.MON_CH_ACC_N ch) = 0#32 ∧ s.Only [R.MON_CH_ACC_LO ch, R.MON_CH_ACC_HI ch, R.MON_CH_ACC_N ch] t)

/-- An update judges each sensor by range, stuck code and disagreement, flags those that fail with the lowest cause (the median of an even count being the model's choice, log
entry 71) and admits those that are neither broken nor on probation and in range; MAX is the highest admitted reading or substitute, its sensor the lowest index that gives it,
PEAK and WARN follow, and the level moves by at most one, or down to its limit. Without an admitted sensor the hold is set; so it is at the second update in a row at the
shutdown limit and at the first after a reset near it; then a data mode ends in Standby with every powered LTX lane held by THERMAL. A fall takes one level back and counts the
time above level 0. Broken sensors return on probation; FAIL_ACK ends the freeze; HOLD_CLR is refused while hot, unordered limits and other masters are refused with
EVENT.CFG_REFUSED. A command that finds nothing to do changes nothing. Trusted times and the hold after a reset are log entry 72, shutdowns log entry 21. (Rests on
14_monitor_thermal.md, 01_operating_modes.md, 05_line_transmit.md.) -/
def Obligations.TemperaturesThrottleAndShutDown : Prop :=
  (∀ (rd : List (Int × Nat)) (s : State), s.domOn 1 = true → rd.length = 12 → rd.all (fun r => decide (-512 ≤ r.1) && decide (r.1 ≤ 511) && decide (r.2 < 4096)) = true
      → Completes (.sensorUpdate rd) s fun t => (∀ i : Fin 12, (t.sensor i).code = (rd.getD i.val (0, 0)).2) ∧ (∀ i : Fin 12, (t.sensor i).outN = (if -80 ≤ (rd.getD i.val
      (0, 0)).1 ∧ (rd.getD i.val (0, 0)).1 ≤ 300 then 0 else min ((s.sensor i).outN + 1) 2)) ∧ (∀ i : Fin 12, (t.sensor i).same = (if (s.sensor i).same ≠ 0 ∧ (s.sensor
      i).code = (rd.getD i.val (0, 0)).2 then min ((s.sensor i).same + 1) 64 else 1)) ∧ (∀ i : Fin 12, (t.sensor i).disN = (if disagrees (rd.getD i.val (0, 0)).1
      (((neighbours i).filter fun j => !s.broken j && !s.is (F.THERM_READ_PROBATION j) && tempOk (rd.getD j (0, 0)).1).map fun j => (rd.getD j (0, 0)).1) then min
      ((s.sensor i).disN + 1) 16 else 0)) ∧ (∀ i : Fin 12, s.broken i = true → t.broken i = true ∧ t.fld (F.THERM_READ_CAUSE i) = s.fld (F.THERM_READ_CAUSE i)) ∧ (∀ i :
      Fin 12, s.broken i = false → t.broken i = (decide (2 ≤ (t.sensor i).outN) || decide (64 ≤ (t.sensor i).same) || decide (16 ≤ (t.sensor i).disN))) ∧ (∀ i : Fin 12,
      s.broken i = false → t.broken i = true → t.fld (F.THERM_READ_CAUSE i) = (if 2 ≤ (t.sensor i).outN then 1 else if 64 ≤ (t.sensor i).same then 2 else 3) ∧ bitAt (t.fld
      F.THERM_EVENT_BITS) 5 = true ∧ t.is (F.THERM_READ_PROBATION i) = false) ∧ (∀ i : Fin 12, s.broken i = false → t.broken i = false → s.is (F.THERM_READ_PROBATION i) =
      true → t.is (F.THERM_READ_PROBATION i) = decide ((s.sensor i).passed < 15)) ∧ (∀ i : Fin 12, s.broken i = false → t.broken i = true → s.fld F.THERM_STAT_LEVEL ≠ 0 →
      (s.sensor i).wasMax = true → (t.sensor i).subst = true ∧ t.is F.THERM_STAT_FROZEN = true ∧ bitAt (t.fld F.THERM_EVENT_BITS) 6 = true)) ∧
  (∀ (rd : List (Int × Nat)) (s : State), s.domOn 1 = true → rd.length = 12 → rd.all (fun r => decide (-512 ≤ r.1) && decide (r.1 ≤ 511) && decide (r.2 < 4096)) = true
      → (∀ i : Fin 12, (rd.getD i.val (0, 0)).1 ≤ 300 ∨ (s.sensor i).subst = false) → Completes (.sensorUpdate rd) s fun t => (∀ i : Fin 12, (t.sensor i).subst = false →
      t.is (F.THERM_READ_ADMITTED i) = decide (t.broken i = false ∧ t.is (F.THERM_READ_PROBATION i) = false ∧ -80 ≤ (rd.getD i.val (0, 0)).1 ∧ (rd.getD i.val (0, 0)).1 ≤
      300) ∧ t.sfld (F.THERM_READ_TEMP i) = (rd.getD i.val (0, 0)).1 ∧ t.is (F.THERM_READ_SUBST i) = false) ∧ t.fld F.THERM_STAT_ADMITTED = ((List.range 12).filter fun i
      => t.is (F.THERM_READ_ADMITTED i)).length ∧ (t.fld F.THERM_STAT_ADMITTED = 0 → t.fld F.THERM_STAT_MAX = s.fld F.THERM_STAT_MAX ∧ t.fld F.THERM_STAT_MAX_SENSOR =
      s.fld F.THERM_STAT_MAX_SENSOR) ∧ (∀ i : Fin 12, t.is (F.THERM_READ_ADMITTED i) = true → t.sfld (F.THERM_READ_TEMP i) ≤ t.sfld F.THERM_STAT_MAX) ∧ (t.fld
      F.THERM_STAT_ADMITTED ≠ 0 → t.is (F.THERM_READ_ADMITTED (t.fld F.THERM_STAT_MAX_SENSOR)) = true ∧ t.sfld (F.THERM_READ_TEMP (t.fld F.THERM_STAT_MAX_SENSOR)) = t.sfld
      F.THERM_STAT_MAX) ∧ (∀ i : Fin 12, i.val < t.fld F.THERM_STAT_MAX_SENSOR → t.fld F.THERM_STAT_ADMITTED ≠ 0 → t.is (F.THERM_READ_ADMITTED i) = true → t.sfld
      (F.THERM_READ_TEMP i) < t.sfld F.THERM_STAT_MAX) ∧ (t.fld F.THERM_STAT_ADMITTED ≠ 0 → t.sfld F.THERM_PEAK_MAX = max (s.sfld F.THERM_PEAK_MAX) (t.sfld
      F.THERM_STAT_MAX))) ∧
  (∀ (rd : List (Int × Nat)) (i : Fin 12) (x : Int) (s : State), s.domOn 1 = true → rd.length = 12 → rd.all (fun r => decide (-512 ≤ r.1) && decide (r.1 ≤ 511) &&
      decide (r.2 < 4096)) = true → (s.sensor i).subst = true → (∀ k : Fin 12, k ≠ i → (s.sensor k).subst = false ∧ s.broken k = false ∧ s.is (F.THERM_READ_PROBATION k) =
      false ∧ (s.sensor k).outN = 0 ∧ (s.sensor k).same < 63 ∧ (s.sensor k).disN < 15) → s.broken i = true → (∀ k : Fin 12, k ≠ i → -80 ≤ (rd.getD k.val (0, 0)).1 ∧
      (rd.getD k.val (0, 0)).1 ≤ x) → x ≤ 300 → (rd.getD (if i.val = 0 then 1 else 0) (0, 0)).1 = x → Completes (.sensorUpdate rd) s fun t => t.is (F.THERM_READ_SUBST i) =
      true ∧ t.is (F.THERM_READ_ADMITTED i) = true ∧ t.sfld (F.THERM_READ_TEMP i) = x + 16 ∧ t.sfld F.THERM_STAT_MAX = x + 16 ∧ t.fld F.THERM_STAT_MAX_SENSOR = i ∧ t.sfld
      F.THERM_SUBST_VALUE = x + 16 ∧ t.fld F.THERM_SUBST_SENSOR = i ∧ t.is F.THERM_SUBST_ACTIVE = true ∧ t.fld F.THERM_STAT_ADMITTED = 12) ∧
  (∀ (rd : List (Int × Nat)) (s : State), s.domOn 1 = true → rd.length = 12 → rd.all (fun r => decide (-512 ≤ r.1) && decide (r.1 ≤ 511) && decide (r.2 < 4096)) = true
      → Completes (.sensorUpdate rd) s fun t => (t.fld F.THERM_STAT_ADMITTED ≠ 0 → t.is F.THERM_STAT_WARN = (if s.is F.THERM_STAT_WARN then decide (2 * (s.fld
      F.THERM_THRESH_WARN : Int) - 2 * (s.fld F.THERM_THRESH_HYST : Int) < t.sfld F.THERM_STAT_MAX) else decide (2 * (s.fld F.THERM_THRESH_WARN : Int) ≤ t.sfld
      F.THERM_STAT_MAX))) ∧ (s.is F.THERM_CTL_THROT_EN = false → t.fld F.THERM_STAT_LEVEL = 0) ∧ (s.is F.THERM_CTL_THROT_EN = true → (min (s.fld F.THERM_CTL_MAX_LEVEL) 4)
      < s.fld F.THERM_STAT_LEVEL → t.fld F.THERM_STAT_LEVEL = (min (s.fld F.THERM_CTL_MAX_LEVEL) 4)) ∧ (s.is F.THERM_CTL_THROT_EN = true → s.fld F.THERM_STAT_LEVEL ≤ (min
      (s.fld F.THERM_CTL_MAX_LEVEL) 4) → t.fld F.THERM_STAT_LEVEL = (if t.fld F.THERM_STAT_ADMITTED ≠ 0 ∧ 2 * (s.fld F.THERM_THRESH_THROTTLE : Int) ≤ t.sfld
      F.THERM_STAT_MAX ∧ s.fld F.THERM_STAT_LEVEL < (min (s.fld F.THERM_CTL_MAX_LEVEL) 4) ∧ (s.fld F.THERM_STAT_LEVEL = 0 ∨ s.since s.therm.changed (s.fld
      F.THERM_CTL_STEP_MS) = true) then s.fld F.THERM_STAT_LEVEL + 1 else s.fld F.THERM_STAT_LEVEL)) ∧ (t.fld F.THERM_STAT_LEVEL ≠ s.fld F.THERM_STAT_LEVEL → bitAt (t.fld
      F.THERM_EVENT_BITS) (if s.fld F.THERM_STAT_LEVEL < t.fld F.THERM_STAT_LEVEL then 2 else 3) = true ∧ t.therm.changed = some s.clock) ∧ (t.is F.THERM_STAT_WARN ≠ s.is
      F.THERM_STAT_WARN → bitAt (t.fld F.THERM_EVENT_BITS) (if t.is F.THERM_STAT_WARN then 0 else 1) = true) ∧ t.is F.MODE_STATUS_THERM_HOLD = (s.is
      F.MODE_STATUS_THERM_HOLD || decide (t.fld F.THERM_STAT_ADMITTED = 0) || decide (2 * (s.fld F.THERM_THRESH_SHUTDOWN : Int) ≤ t.sfld F.THERM_STAT_MAX ∧ 1 ≤
      s.therm.hot) || decide (2 * (s.fld F.THERM_THRESH_SHUTDOWN : Int) - 2 * (s.fld F.THERM_THRESH_HYST : Int) ≤ t.sfld F.THERM_STAT_MAX) && s.therm.fresh) ∧ t.mem =
      s.mem ∧ t.out = s.out) ∧
  (∀ (rd : List (Int × Nat)) (s : State), s.domOn 1 = true → rd.length = 12 → rd.all (fun r => decide (-512 ≤ r.1) && decide (r.1 ≤ 511) && decide (r.2 < 4096)) = true
      → 1 ≤ s.therm.hot → (∀ i : Fin 12, s.broken i = false ∧ s.is (F.THERM_READ_PROBATION i) = false ∧ (s.sensor i).outN = 0 ∧ (s.sensor i).same < 63 ∧ (s.sensor i).disN
      < 15 ∧ (s.sensor i).subst = false) → (∀ i : Fin 12, 2 * (s.fld F.THERM_THRESH_SHUTDOWN : Int) ≤ (rd.getD i.val (0, 0)).1 ∧ (rd.getD i.val (0, 0)).1 ≤ 300) → s.is
      F.MODE_STATUS_BUSY = false → 2 ≤ s.mode → Completes (.sensorUpdate rd) s fun t => t.is F.MODE_STATUS_THERM_HOLD = true ∧ t.fld F.MODE_STATUS_CURRENT = 1 ∧ bitAt
      (t.fld F.THERM_EVENT_BITS) 4 = true ∧ (∀ n : Fin 8, s.domOn (2 + n) = true → t.is (F.LTX_FAULT_CAUSE_THERMAL (8 + n)) = true ∧ t.fld (F.LTX_STATUS_STATE (8 + n)) ≠
      4) ∧ (∀ n : Fin 8, s.domOn (2 + n) = false → t.is (F.LTX_FAULT_CAUSE_THERMAL (8 + n)) = s.is (F.LTX_FAULT_CAUSE_THERMAL (8 + n))) ∧ (∀ n : Fin 48, s.laneOn n = true
      → t.fld (F.LRX_SEQ_STAT_STATE n) ≠ 1) ∧ (∀ k : Fin 16, s.laneOn (32 + k) = true → t.is (F.HTX_STATUS_SQUELCHED (32 + k)) = true) ∧ t.mem = s.mem) ∧
  (∀ (rd : List (Int × Nat)) (s : State), s.domOn 1 = true → rd.length = 12 → rd.all (fun r => decide (-512 ≤ r.1) && decide (r.1 ≤ 511) && decide (r.2 < 4096)) = true
      → 1 ≤ s.therm.hot → (∀ i : Fin 12, s.broken i = false ∧ s.is (F.THERM_READ_PROBATION i) = false ∧ (s.sensor i).outN = 0 ∧ (s.sensor i).same < 63 ∧ (s.sensor i).disN
      < 15 ∧ (s.sensor i).subst = false) → (∀ i : Fin 12, 2 * (s.fld F.THERM_THRESH_SHUTDOWN : Int) ≤ (rd.getD i.val (0, 0)).1 ∧ (rd.getD i.val (0, 0)).1 ≤ 300) → s.is
      F.MODE_STATUS_BUSY = false → s.is F.MODE_STATUS_WAITING = false → s.mode = 1 → s.is F.CAL_CTL_TEMP_EN = false → s.is F.THERM_CTL_THROT_EN = false → s.fld
      F.THERM_STAT_LEVEL = 0 → Completes (.sensorUpdate rd) s fun t => t.is F.MODE_STATUS_THERM_HOLD = true ∧ t.fld F.MODE_STATUS_CURRENT = 1 ∧ (∀ n : Fin 48, t.lane n =
      s.lane n) ∧ s.OnlyBlocks [blockOf R.THERM_STAT, blockOf R.CAL_CTL, blockOf R.MODE_STATUS] t) ∧
  (∀ (rd : List (Int × Nat)) (s : State), s.domOn 1 = true → rd.length = 12 → rd.all (fun r => decide (-512 ≤ r.1) && decide (r.1 ≤ 511) && decide (r.2 < 4096)) = true
      → (∀ i : Fin 12, (s.sensor i).subst = false) → (∀ i : Fin 12, (rd.getD i.val (0, 0)).1 < -80 ∨ 300 < (rd.getD i.val (0, 0)).1) → s.is F.MODE_STATUS_BUSY = false → 2
      ≤ s.mode → Completes (.sensorUpdate rd) s fun t => t.is F.MODE_STATUS_THERM_HOLD = true ∧ t.fld F.MODE_STATUS_CURRENT = 1 ∧ bitAt (t.fld F.THERM_EVENT_BITS) 4 = true
      ∧ (∀ n : Fin 8, s.domOn (2 + n) = true → t.is (F.LTX_FAULT_CAUSE_THERMAL (8 + n)) = true ∧ t.fld (F.LTX_STATUS_STATE (8 + n)) ≠ 4) ∧ (∀ n : Fin 8, s.domOn (2 + n) =
      false → t.is (F.LTX_FAULT_CAUSE_THERMAL (8 + n)) = s.is (F.LTX_FAULT_CAUSE_THERMAL (8 + n))) ∧ (∀ n : Fin 48, s.laneOn n = true → t.fld (F.LRX_SEQ_STAT_STATE n) ≠ 1)
      ∧ (∀ k : Fin 16, s.laneOn (32 + k) = true → t.is (F.HTX_STATUS_SQUELCHED (32 + k)) = true) ∧ t.mem = s.mem) ∧
  (∀ (rd : List (Int × Nat)) (s : State), s.domOn 1 = true → rd.length = 12 → rd.all (fun r => decide (-512 ≤ r.1) && decide (r.1 ≤ 511) && decide (r.2 < 4096)) = true
      → (∀ i : Fin 12, (s.sensor i).subst = false) → (∀ i : Fin 12, (rd.getD i.val (0, 0)).1 < -80 ∨ 300 < (rd.getD i.val (0, 0)).1) → s.is F.MODE_STATUS_BUSY = false →
      s.is F.MODE_STATUS_WAITING = false → s.mode = 1 → s.is F.CAL_CTL_TEMP_EN = false → s.is F.THERM_CTL_THROT_EN = false → s.fld F.THERM_STAT_LEVEL = 0 → Completes
      (.sensorUpdate rd) s fun t => t.is F.MODE_STATUS_THERM_HOLD = true ∧ t.fld F.MODE_STATUS_CURRENT = 1 ∧ (∀ n : Fin 48, t.lane n = s.lane n) ∧ s.OnlyBlocks [blockOf
      R.THERM_STAT, blockOf R.CAL_CTL, blockOf R.MODE_STATUS] t) ∧
  (∀ (rd : List (Int × Nat)) (s : State), s.domOn 1 = true → rd.length = 12 → rd.all (fun r => decide (-512 ≤ r.1) && decide (r.1 ≤ 511) && decide (r.2 < 4096)) = true
      → s.is F.MODE_STATUS_BUSY = true → 2 ≤ s.fld F.MODE_STATUS_IN_TARGET → s.fld F.MODE_STATUS_IN_TARGET ≤ 5 → (∀ i : Fin 12, (s.sensor i).subst = false) → (∀ i : Fin
      12, (rd.getD i.val (0, 0)).1 < -80 ∨ 300 < (rd.getD i.val (0, 0)).1) → Completes (.sensorUpdate rd) s fun t => t.is F.MODE_STATUS_THERM_HOLD = true ∧ t.is
      F.MODE_STATUS_BUSY = false ∧ t.fld F.MODE_STATUS_CURRENT = 1 ∧ t.is F.MODE_STATUS_WAITING = false ∧ (s.is F.MODE_STATUS_WAITING = false → t.fld F.MODE_RESULT_CODE =
      6)) ∧
  (∀ (rd : List (Int × Nat)) (s : State), s.domOn 1 = true → rd.length = 12 → rd.all (fun r => decide (-512 ≤ r.1) && decide (r.1 ≤ 511) && decide (r.2 < 4096)) = true
      → s.is F.MODE_STATUS_BUSY = true → s.fld F.MODE_STATUS_IN_TARGET < 2 → (∀ i : Fin 12, (s.sensor i).subst = false) → (∀ i : Fin 12, (rd.getD i.val (0, 0)).1 < -80 ∨
      300 < (rd.getD i.val (0, 0)).1) → Completes (.sensorUpdate rd) s fun t => t.is F.MODE_STATUS_THERM_HOLD = true ∧ t.fld F.MODE_STATUS_IN_TARGET = s.fld
      F.MODE_STATUS_IN_TARGET ∧ t.is F.MODE_STATUS_WAITING = (s.is F.MODE_STATUS_WAITING && s.is F.MODE_STATUS_THERM_HOLD && ltxLanes.all fun n => !s.laneOn n || s.is
      (F.LTX_FAULT_CAUSE_THERMAL n)) ∧ (∀ n : Fin 8, s.domOn (2 + n) = true → t.is (F.LTX_FAULT_CAUSE_THERMAL (8 + n)) = true) ∧ (s.is F.MODE_STATUS_THERM_HOLD = false →
      bitAt (t.fld F.THERM_EVENT_BITS) 4 = true)) ∧
  (∀ (rd : List (Int × Nat)) (s : State), s.domOn 1 = true → rd.length = 12 → rd.all (fun r => decide (-512 ≤ r.1) && decide (r.1 ≤ 511) && decide (r.2 < 4096)) = true
      → s.is F.CAL_CTL_TEMP_EN = false → s.is F.THERM_CTL_THROT_EN = false → s.fld F.THERM_STAT_LEVEL = 0 → s.therm.hot = 0 → s.therm.fresh = false → (∀ i : Fin 12,
      s.broken i = false ∧ s.is (F.THERM_READ_PROBATION i) = false ∧ (s.sensor i).same < 63 ∧ (s.sensor i).disN < 15 ∧ (s.sensor i).subst = false) → (∀ i : Fin 12, -80 ≤
      (rd.getD i.val (0, 0)).1 ∧ (rd.getD i.val (0, 0)).1 ≤ 300) → Completes (.sensorUpdate rd) s fun t => t.rd R.MODE_STATUS = s.rd R.MODE_STATUS ∧ t.mem = s.mem ∧ t.out
      = s.out ∧ (∀ n : Fin 48, t.lane n = s.lane n) ∧ s.OnlyBlocks [blockOf R.THERM_STAT, blockOf R.CAL_CTL] t) ∧
  (∀ (rd : List (Int × Nat)) (s : State), rd.length = 12 → rd.all (fun r => decide (-512 ≤ r.1) && decide (r.1 ≤ 511) && decide (r.2 < 4096)) = true → s.domOn 1 = false
      → s.IrqRemembered → Completes (.sensorUpdate rd) s fun t => t = s) ∧
  (∀ (s : State), s.domOn 1 = true → s.is F.THERM_CTL_THROT_EN = true → s.fld F.THERM_STAT_LEVEL ≠ 0 → s.is F.THERM_STAT_FROZEN = false → s.therm.below.isSome = true →
      Completes (.throttleFall) s fun t => t.fld F.THERM_STAT_LEVEL = s.fld F.THERM_STAT_LEVEL - 1 ∧ bitAt (t.fld F.THERM_EVENT_BITS) 3 = true ∧ t.therm.changed = some
      s.clock ∧ (∀ n : Fin 8, s.hasGroups n = false → (t.lane n).saver = s.fld F.THERM_STAT_LEVEL - 1) ∧ (∀ n : Fin 8, s.hasGroups n = true → (t.lane n).saver = (s.lane
      n).saver) ∧ t.mem = s.mem ∧ t.out = s.out ∧ t.fld F.THERM_THROT_MS_MS = s.throtTime.fld F.THERM_THROT_MS_MS ∧ t.therm.upTo = s.clock ∧ s.Only [R.THERM_STAT,
      R.THERM_EVENT, R.THERM_THROT_MS] t) ∧
  (∀ (s : State), s.domOn 1 = false ∨ s.is F.THERM_CTL_THROT_EN = false ∨ s.fld F.THERM_STAT_LEVEL = 0 ∨ s.is F.THERM_STAT_FROZEN = true ∨ s.therm.below = none →
      s.IrqRemembered → Completes (.throttleFall) s fun t => t = s) ∧
  (∀ (m : Master) (v : Word) (i : Fin 12) (s : State), s.Reached m R.THERM_BROKEN → m.code = 1 ∨ m.code = 3 ∨ m.code = 5 → Completes (.sensorReadmit m v) s fun t =>
      s.Answered m 0 t ∧ bitAt (t.fld F.THERM_BROKEN_TS) i = (bitAt (s.fld F.THERM_BROKEN_TS) i && !v.getLsbD i) ∧ (v.getLsbD i = true → bitAt (s.fld F.THERM_BROKEN_TS) i
      = true → t.is (F.THERM_READ_PROBATION i) = true ∧ t.fld (F.THERM_READ_CAUSE i) = 0 ∧ (t.sensor i).passed = 0 ∧ (t.sensor i).subst = false) ∧ (v.getLsbD i = false ∨
      bitAt (s.fld F.THERM_BROKEN_TS) i = false → t.rd (R.THERM_READ i) = s.rd (R.THERM_READ i) ∧ t.sensor i = s.sensor i) ∧ s.Only (R.THERM_BROKEN :: (List.range 12).map
      R.THERM_READ) t) ∧
  (∀ (m : Master) (v : Word) (s : State), s.Reached m R.THERM_BROKEN → m.code ≠ 1 → m.code ≠ 3 → m.code ≠ 5 → Completes (.sensorReadmit m v) s fun t => s.Answered m 2 t
      ∧ t.therm = s.therm ∧ s.Only [] t) ∧
  (∀ (m : Master) (s : State), s.Reached m R.THERM_ACK → m.code = 1 ∨ m.code = 3 ∨ m.code = 5 → Completes (.failAck m) s fun t => s.Answered m 0 t ∧ t.is
      F.THERM_STAT_FROZEN = false ∧ t.therm = s.therm ∧ s.Only [R.THERM_STAT] t) ∧
  (∀ (m : Master) (s : State), s.Reached m R.THERM_ACK → m.code ≠ 1 → m.code ≠ 3 → m.code ≠ 5 → Completes (.failAck m) s fun t => s.Answered m 2 t ∧ s.Only [] t) ∧
  (∀ (m : Master) (s : State), s.Reached m R.THERM_ACK → m.code = 1 ∨ m.code = 3 ∨ m.code = 5 → s.sfld F.THERM_STAT_MAX ≤ 2 * (s.fld F.THERM_THRESH_SHUTDOWN : Int) - 2
      * (s.fld F.THERM_THRESH_HYST : Int) → Completes (.holdClr m) s fun t => s.Answered m 0 t ∧ t.is F.MODE_STATUS_THERM_HOLD = false ∧ (∀ n : Fin 8, t.is
      (F.LTX_FAULT_CAUSE_THERMAL (8 + n)) = false) ∧ t.fld F.MODE_STATUS_CURRENT = s.fld F.MODE_STATUS_CURRENT ∧ s.Only (R.MODE_STATUS :: ltxLanes.map R.LTX_FAULT_CAUSE)
      t) ∧
  (∀ (m : Master) (s : State), s.Reached m R.THERM_ACK → m.code = 1 ∨ m.code = 3 ∨ m.code = 5 → 2 * (s.fld F.THERM_THRESH_SHUTDOWN : Int) - 2 * (s.fld
      F.THERM_THRESH_HYST : Int) < s.sfld F.THERM_STAT_MAX → Completes (.holdClr m) s fun t => s.Answered m 1 t ∧ bitAt (t.fld F.THERM_EVENT_BITS) 8 = true ∧ t.is
      F.MODE_STATUS_THERM_HOLD = s.is F.MODE_STATUS_THERM_HOLD ∧ s.Only [R.THERM_EVENT] t) ∧
  (∀ (m : Master) (s : State), s.Reached m R.THERM_ACK → m.code ≠ 1 → m.code ≠ 3 → m.code ≠ 5 → Completes (.holdClr m) s fun t => s.Answered m 2 t ∧ bitAt (t.fld
      F.THERM_EVENT_BITS) 8 = true ∧ t.is F.MODE_STATUS_THERM_HOLD = s.is F.MODE_STATUS_THERM_HOLD ∧ s.Only [R.THERM_EVENT] t) ∧
  (∀ (m : Master) (v : Word) (s : State), s.Reached m R.THERM_THRESH → m.code = 1 ∨ m.code = 3 ∨ m.code = 5 → bitsOf v.toNat 0 8 ≤ bitsOf v.toNat 8 8 → bitsOf v.toNat 8
      8 < max 100 (min 122 (bitsOf v.toNat 16 8)) → Completes (.threshWrite m v) s fun t => s.Answered m 0 t ∧ t.fld F.THERM_THRESH_WARN = bitsOf v.toNat 0 8 ∧ t.fld
      F.THERM_THRESH_THROTTLE = bitsOf v.toNat 8 8 ∧ t.fld F.THERM_THRESH_SHUTDOWN = max 100 (min 122 (bitsOf v.toNat 16 8)) ∧ t.fld F.THERM_THRESH_HYST = max 3 (min 10
      (bitsOf v.toNat 24 4)) ∧ s.Only [R.THERM_THRESH] t) ∧
  (∀ (m : Master) (v : Word) (s : State), s.Reached m R.THERM_THRESH → m.code = 1 ∨ m.code = 3 ∨ m.code = 5 → bitsOf v.toNat 8 8 < bitsOf v.toNat 0 8 ∨ max 100 (min 122
      (bitsOf v.toNat 16 8)) ≤ bitsOf v.toNat 8 8 → Completes (.threshWrite m v) s fun t => s.Answered m 1 t ∧ bitAt (t.fld F.THERM_EVENT_BITS) 7 = true ∧ s.Only
      [R.THERM_EVENT] t) ∧
  (∀ (m : Master) (v : Word) (s : State), s.Reached m R.THERM_THRESH → m.code ≠ 1 → m.code ≠ 3 → m.code ≠ 5 → Completes (.threshWrite m v) s fun t => s.Answered m 2 t ∧
      bitAt (t.fld F.THERM_EVENT_BITS) 7 = true ∧ s.Only [R.THERM_EVENT] t) ∧
  (∀ (m : Master) (s : State), s.Reached m R.THERM_PEAK → Completes (.peakClr m) s fun t => s.Answered m 0 t ∧ t.fld F.THERM_PEAK_MAX = s.fld F.THERM_STAT_MAX ∧ s.Only
      [R.THERM_PEAK] t)

/-- Events are counted at the end of their tick. A counter that the events of the tick take past its end, FREEZE not in force, continues from the remainder, sets its WRAP bit,
EVENT.WRAP if WRAP_IRQ is 1 (which bit the interrupt enable gates is log entry 73), and FREEZE with WRAP_FREEZE; else it does nothing. A low-word read returns the word and
latches the high one for that reader alone; a write of the high word loads it with the staged low word, and an access the counter itself counts is counted after the load.
FREEZE and SNAP are taken for the next tick boundary, CLEAR_ALL loads all counters with 0. A master that may not write, and a write that changes the class, filter, range or
lanes of an enabled counter, is refused and recorded; a write that changes only EN or WRAP_IRQ is not. A bandwidth window ends when its last tick has come: it latches units of
64 bytes and carries the rest, and a changed WINDOW counts from then; before that nothing happens. The clock of the windows is log entry 124. Nothing else changes but the
events staged. (Rests on 15_counters.md.) -/
def Obligations.CountersAreReadLoadedAndFrozen : Prop :=
  (∀ (i : Fin 32) (s : State), s.domOn 1 = true → s.perf.frozen = false → 2 ^ 48 ≤ s.counter i + s.countPart i → Completes (.counterWrap i ()) s fun t => t.rd
      (R.PERF_CNT_LO i) = BitVec.ofNat 32 (s.counter i + s.countPart i) ∧ t.fld (F.PERF_CNT_HI_COUNT i) = (s.counter i + s.countPart i) / 2 ^ 32 % 65536 ∧ t.countPart i =
      0 ∧ (∀ j : Fin 32, j ≠ i → t.countPart j = s.countPart j) ∧ bitAt (t.fld F.PERF_WRAP_CNT) i = true ∧ (∀ j : Fin 32, j ≠ i → bitAt (t.fld F.PERF_WRAP_CNT) j = bitAt
      (s.fld F.PERF_WRAP_CNT) j) ∧ t.is F.PERF_EVENT_WRAP = (s.is F.PERF_EVENT_WRAP || s.is (F.PERF_CNT_CTL_WRAP_IRQ i)) ∧ t.is F.PERF_EVENT_WINDOW = s.is
      F.PERF_EVENT_WINDOW ∧ t.is F.PERF_EVENT_CFG_REFUSED = s.is F.PERF_EVENT_CFG_REFUSED ∧ t.is F.PERF_CTL_FREEZE = (s.is F.PERF_CTL_FREEZE || s.is
      F.PERF_CTL_WRAP_FREEZE) ∧ t.is F.PERF_CTL_WRAP_FREEZE = s.is F.PERF_CTL_WRAP_FREEZE ∧ t.latch = s.latch ∧ t.perf = { s.perf with part := t.perf.part } ∧ t.out =
      s.out ∧ s.Only [R.PERF_CNT_LO i, R.PERF_CNT_HI i, R.PERF_WRAP, R.PERF_EVENT, R.PERF_CTL] t) ∧
  (∀ (i : Fin 32) (s : State), s.domOn 1 = false ∨ s.perf.frozen = true ∨ s.counter i + s.countPart i < 2 ^ 48 → s.IrqRemembered → Completes (.counterWrap i ()) s fun t
      => t = s) ∧
  (∀ (m : Master) (i : Fin 32) (s : State), s.Reached m (R.PERF_CNT_LO i) → Completes (.counterRead m i) s fun t => s.Returned m 0 (s.rd (R.PERF_CNT_LO i)) t ∧
      t.counterHigh i (latchKey m) = s.rd (R.PERF_CNT_HI i) ∧ (∀ (j : Fin 32) (k : Fin 64), j ≠ i ∨ k.val ≠ latchKey m → t.counterHigh j k = s.counterHigh j k) ∧ (∀ k :
      Fin 64, t.tbHigh k = s.tbHigh k) ∧ t.perf = { s.perf with part := t.perf.part } ∧ s.Only [] t) ∧
  (∀ (m : Master) (i : Fin 32) (hi : Word) (s : State), s.Reached m (R.PERF_CNT_HI i) → m.code = 1 ∨ m.code = 3 ∨ 16 ≤ i.val ∧ (m.code = 2 ∨ m.code = 4) → Completes
      (.counterLoad m i hi) s fun t => s.Answered m 0 t ∧ t.rd (R.PERF_CNT_LO i) = tabGet (fun _ => 0#32) s.perf.staged i ∧ t.fld (F.PERF_CNT_HI_COUNT i) = hi.toNat %
      65536 ∧ t.perf = { s.perf with part := t.perf.part } ∧ t.latch = s.latch ∧ s.Only [R.PERF_CNT_LO i, R.PERF_CNT_HI i] t) ∧
  (∀ (m : Master) (i : Fin 32) (hi : Word) (s : State), s.Reached m (R.PERF_CNT_HI i) → m.code = 1 ∨ m.code = 3 ∨ 16 ≤ i.val ∧ (m.code = 2 ∨ m.code = 4) →
      (s.counting.filter fun c => s.selects c.1 c.2 (s.masterEvent 2 m.code (some (R.PERF_CNT_HI i)))).map (fun c => c.1) = [i.val] → Completes (.counterLoad m i hi) s fun
      t => s.Answered m 0 t ∧ t.counter i = (tabGet (fun _ => 0#32) s.perf.staged i).toNat + 2 ^ 32 * (hi.toNat % 65536) ∧ t.countPart i = s.countPart i + 1 ∧ s.Only
      [R.PERF_CNT_LO i, R.PERF_CNT_HI i] t) ∧
  (∀ (m : Master) (i : Fin 32) (hi : Word) (s : State), s.Reached m (R.PERF_CNT_HI i) → m.code ≠ 1 → m.code ≠ 3 → i.val < 16 ∨ m.code ≠ 2 ∧ m.code ≠ 4 → Completes
      (.counterLoad m i hi) s fun t => s.Answered m 2 t ∧ t.fld F.PERF_REFUSE_CNT = i.val ∧ t.fld F.PERF_REFUSE_MASTER = m.holder ∧ t.fld F.PERF_REFUSE_COUNT = min (s.fld
      F.PERF_REFUSE_COUNT + 1) 65535 ∧ t.is F.PERF_EVENT_CFG_REFUSED = true ∧ t.is F.PERF_EVENT_WINDOW = s.is F.PERF_EVENT_WINDOW ∧ t.perf =
      { s.perf with part := t.perf.part } ∧ t.latch = s.latch ∧ s.Only [R.PERF_REFUSE, R.PERF_EVENT] t ∧ t.is F.PERF_EVENT_WRAP = s.is F.PERF_EVENT_WRAP) ∧
  (∀ (m : Master) (on : Bool) (s : State), s.Reached m R.PERF_CTL → m.code = 1 ∨ m.code = 3 → Completes (.freeze m on) s fun t => s.Answered m 0 t ∧ t.is
      F.PERF_CTL_FREEZE = on ∧ t.is F.PERF_CTL_WRAP_FREEZE = s.is F.PERF_CTL_WRAP_FREEZE ∧ t.perf = { s.perf with part := t.perf.part } ∧ t.latch = s.latch ∧ s.Only
      [R.PERF_CTL] t) ∧
  (∀ (m : Master) (on : Bool) (s : State), s.Reached m R.PERF_CTL → m.code ≠ 1 → m.code ≠ 3 → Completes (.freeze m on) s fun t => s.Answered m 2 t ∧ t.fld
      F.PERF_REFUSE_CNT = 31 ∧ t.fld F.PERF_REFUSE_MASTER = m.holder ∧ t.fld F.PERF_REFUSE_COUNT = min (s.fld F.PERF_REFUSE_COUNT + 1) 65535 ∧ t.is
      F.PERF_EVENT_CFG_REFUSED = true ∧ t.is F.PERF_EVENT_WINDOW = s.is F.PERF_EVENT_WINDOW ∧ t.perf = { s.perf with part := t.perf.part } ∧ t.latch = s.latch ∧ s.Only
      [R.PERF_REFUSE, R.PERF_EVENT] t ∧ t.is F.PERF_EVENT_WRAP = s.is F.PERF_EVENT_WRAP) ∧
  (∀ (m : Master) (s : State), s.Reached m R.PERF_CTL → m.code = 1 ∨ m.code = 3 → Completes (.snap m) s fun t => s.Answered m 0 t ∧ t.perf =
      { s.perf with part := t.perf.part, snap := true } ∧ t.latch = s.latch ∧ s.Only [] t) ∧
  (∀ (m : Master) (s : State), s.Reached m R.PERF_CTL → m.code ≠ 1 → m.code ≠ 3 → Completes (.snap m) s fun t => s.Answered m 2 t ∧ t.fld F.PERF_REFUSE_CNT = 31 ∧ t.fld
      F.PERF_REFUSE_MASTER = m.holder ∧ t.fld F.PERF_REFUSE_COUNT = min (s.fld F.PERF_REFUSE_COUNT + 1) 65535 ∧ t.is F.PERF_EVENT_CFG_REFUSED = true ∧ t.is
      F.PERF_EVENT_WINDOW = s.is F.PERF_EVENT_WINDOW ∧ t.perf = { s.perf with part := t.perf.part } ∧ t.latch = s.latch ∧ s.Only [R.PERF_REFUSE, R.PERF_EVENT] t ∧ t.is
      F.PERF_EVENT_WRAP = s.is F.PERF_EVENT_WRAP) ∧
  (∀ (m : Master) (s : State), s.Reached m R.PERF_CTL → m.code = 1 ∨ m.code = 3 → Completes (.clearAll m) s fun t => s.Answered m 0 t ∧ (∀ i : Fin 32, t.rd
      (R.PERF_CNT_LO i) = 0#32 ∧ t.rd (R.PERF_CNT_HI i) = 0#32) ∧ t.perf = { s.perf with part := t.perf.part } ∧ t.latch = s.latch ∧ (∀ a, (∀ i : Fin 32, a ≠ R.PERF_CNT_LO
      i ∧ a ≠ R.PERF_CNT_HI i) → t.rd a = s.rd a)) ∧
  (∀ (m : Master) (s : State), s.Reached m R.PERF_CTL → m.code ≠ 1 → m.code ≠ 3 → Completes (.clearAll m) s fun t => s.Answered m 2 t ∧ t.fld F.PERF_REFUSE_CNT = 31 ∧
      t.fld F.PERF_REFUSE_MASTER = m.holder ∧ t.fld F.PERF_REFUSE_COUNT = min (s.fld F.PERF_REFUSE_COUNT + 1) 65535 ∧ t.is F.PERF_EVENT_CFG_REFUSED = true ∧ t.is
      F.PERF_EVENT_WINDOW = s.is F.PERF_EVENT_WINDOW ∧ t.perf = { s.perf with part := t.perf.part } ∧ t.latch = s.latch ∧ s.Only [R.PERF_REFUSE, R.PERF_EVENT] t ∧ t.is
      F.PERF_EVENT_WRAP = s.is F.PERF_EVENT_WRAP) ∧
  (∀ (m : Master) (i : Fin 32) (v : Word) (s : State), s.Reached m (R.PERF_CNT_CTL i) → m.code = 1 ∨ m.code = 3 ∨ 16 ≤ i.val ∧ (m.code = 2 ∨ m.code = 4) → s.is
      (F.PERF_CNT_CTL_EN i) = false ∨ (if s.is F.MODE_PERSONA_ACTIVE then v.toNat % 256 else v.toNat % 32) = s.fld (F.PERF_CNT_CTL_CLASS i) → Completes (.perfConfigWrite m
      i 0 v) s fun t => s.Answered m 0 t ∧ t.fld (F.PERF_CNT_CTL_CLASS i) = (if s.is F.MODE_PERSONA_ACTIVE then v.toNat % 256 else v.toNat % 32) ∧ t.is (F.PERF_CNT_CTL_EN
      i) = bitAt v.toNat 8 ∧ t.is (F.PERF_CNT_CTL_WRAP_IRQ i) = bitAt v.toNat 9 ∧ t.perf = { s.perf with part := t.perf.part } ∧ t.latch = s.latch ∧ s.Only [R.PERF_CNT_CTL
      i] t) ∧
  (∀ (m : Master) (i : Fin 32) (v : Word) (s : State), s.Reached m (R.PERF_CNT_CTL i) → m.code = 1 ∨ m.code = 3 ∨ 16 ≤ i.val ∧ (m.code = 2 ∨ m.code = 4) → s.is
      (F.PERF_CNT_CTL_EN i) = true → (if s.is F.MODE_PERSONA_ACTIVE then v.toNat % 256 else v.toNat % 32) ≠ s.fld (F.PERF_CNT_CTL_CLASS i) → Completes (.perfConfigWrite m
      i 0 v) s fun t => s.Answered m 2 t ∧ t.fld F.PERF_REFUSE_CNT = i.val ∧ t.fld F.PERF_REFUSE_MASTER = m.holder ∧ t.fld F.PERF_REFUSE_COUNT = min (s.fld
      F.PERF_REFUSE_COUNT + 1) 65535 ∧ t.is F.PERF_EVENT_CFG_REFUSED = true ∧ t.is F.PERF_EVENT_WINDOW = s.is F.PERF_EVENT_WINDOW ∧ t.perf =
      { s.perf with part := t.perf.part } ∧ t.latch = s.latch ∧ s.Only [R.PERF_REFUSE, R.PERF_EVENT] t ∧ t.is F.PERF_EVENT_WRAP = s.is F.PERF_EVENT_WRAP) ∧
  (∀ (m : Master) (i : Fin 32) (r : Fin 6) (v : Word) (s : State), s.Reached m (R.PERF_CNT_CTL i) → r ≠ 0 → m.code = 1 ∨ m.code = 3 ∨ 16 ≤ i.val ∧ (m.code = 2 ∨ m.code
      = 4) → s.is (F.PERF_CNT_CTL_EN i) = false ∨ (if r.val = 1 ∧ 16 ≤ i.val then v &&& 0xEFF#32 else v &&& [0xFFF#32, 0xFFFFFFFF#32, 0xFFFFFFFF#32, 0xFFFFFFFF#32,
      0xFFFF#32].getD (r.val - 1) 0#32) = s.rd (R.PERF_CNT_CTL i + [0x00, 0x0C, 0x10, 0x14, 0x18, 0x1C].getD r.val 0) → Completes (.perfConfigWrite m i r v) s fun t =>
      s.Answered m 0 t ∧ t.rd (R.PERF_CNT_CTL i + [0x00, 0x0C, 0x10, 0x14, 0x18, 0x1C].getD r.val 0) = (if r.val = 1 ∧ 16 ≤ i.val then v &&& 0xEFF#32 else v &&& [0xFFF#32,
      0xFFFFFFFF#32, 0xFFFFFFFF#32, 0xFFFFFFFF#32, 0xFFFF#32].getD (r.val - 1) 0#32) ∧ t.perf = { s.perf with part := t.perf.part } ∧ t.latch = s.latch ∧ s.Only
      [R.PERF_CNT_CTL i + [0x00, 0x0C, 0x10, 0x14, 0x18, 0x1C].getD r.val 0] t) ∧
  (∀ (m : Master) (i : Fin 32) (r : Fin 6) (v : Word) (s : State), s.Reached m (R.PERF_CNT_CTL i) → r ≠ 0 → m.code = 1 ∨ m.code = 3 ∨ 16 ≤ i.val ∧ (m.code = 2 ∨ m.code
      = 4) → s.is (F.PERF_CNT_CTL_EN i) = true → (if r.val = 1 ∧ 16 ≤ i.val then v &&& 0xEFF#32 else v &&& [0xFFF#32, 0xFFFFFFFF#32, 0xFFFFFFFF#32, 0xFFFFFFFF#32,
      0xFFFF#32].getD (r.val - 1) 0#32) ≠ s.rd (R.PERF_CNT_CTL i + [0x00, 0x0C, 0x10, 0x14, 0x18, 0x1C].getD r.val 0) → Completes (.perfConfigWrite m i r v) s fun t =>
      s.Answered m 2 t ∧ t.fld F.PERF_REFUSE_CNT = i.val ∧ t.fld F.PERF_REFUSE_MASTER = m.holder ∧ t.fld F.PERF_REFUSE_COUNT = min (s.fld F.PERF_REFUSE_COUNT + 1) 65535 ∧
      t.is F.PERF_EVENT_CFG_REFUSED = true ∧ t.is F.PERF_EVENT_WINDOW = s.is F.PERF_EVENT_WINDOW ∧ t.perf = { s.perf with part := t.perf.part } ∧ t.latch = s.latch ∧
      s.Only [R.PERF_REFUSE, R.PERF_EVENT] t ∧ t.is F.PERF_EVENT_WRAP = s.is F.PERF_EVENT_WRAP) ∧
  (∀ (m : Master) (i : Fin 32) (r : Fin 6) (v : Word) (s : State), s.Reached m (R.PERF_CNT_CTL i) → m.code ≠ 1 → m.code ≠ 3 → i.val < 16 ∨ m.code ≠ 2 ∧ m.code ≠ 4 →
      Completes (.perfConfigWrite m i r v) s fun t => s.Answered m 2 t ∧ t.fld F.PERF_REFUSE_CNT = i.val ∧ t.fld F.PERF_REFUSE_MASTER = m.holder ∧ t.fld
      F.PERF_REFUSE_COUNT = min (s.fld F.PERF_REFUSE_COUNT + 1) 65535 ∧ t.is F.PERF_EVENT_CFG_REFUSED = true ∧ t.is F.PERF_EVENT_WINDOW = s.is F.PERF_EVENT_WINDOW ∧ t.perf
      = { s.perf with part := t.perf.part } ∧ t.latch = s.latch ∧ s.Only [R.PERF_REFUSE, R.PERF_EVENT] t ∧ t.is F.PERF_EVENT_WRAP = s.is F.PERF_EVENT_WRAP) ∧
  (∀ (m : Master) (v : Word) (s : State), s.Reached m R.PERF_BW_CTL → m.code = 1 ∨ m.code = 3 → Completes (.bandwidthRun m v) s fun t => s.Answered m 0 t ∧ t.fld
      F.PERF_BW_CTL_WINDOW = bitsOf v.toNat 0 22 ∧ t.is F.PERF_BW_CTL_USER = bitAt v.toNat 30 ∧ t.is F.PERF_BW_CTL_RUN = bitAt v.toNat 31 ∧ t.perf =
      { (if bitAt v.toNat 31 = true ∧ s.is F.PERF_BW_CTL_RUN = false then { s.perf with bytes := [], carry := [], start := s.clock, ended := 0, window := max 1 (min 4000000 (bitsOf v.toNat 0 22)) } else s.perf) with part := t.perf.part }
      ∧ t.latch = s.latch ∧ s.Only [R.PERF_BW_CTL] t) ∧
  (∀ (m : Master) (v : Word) (s : State), s.Reached m R.PERF_BW_CTL → m.code ≠ 1 → m.code ≠ 3 → Completes (.bandwidthRun m v) s fun t => s.Answered m 2 t ∧ t.fld
      F.PERF_REFUSE_CNT = 31 ∧ t.fld F.PERF_REFUSE_MASTER = m.holder ∧ t.fld F.PERF_REFUSE_COUNT = min (s.fld F.PERF_REFUSE_COUNT + 1) 65535 ∧ t.is
      F.PERF_EVENT_CFG_REFUSED = true ∧ t.is F.PERF_EVENT_WINDOW = s.is F.PERF_EVENT_WINDOW ∧ t.perf = { s.perf with part := t.perf.part } ∧ t.latch = s.latch ∧ s.Only
      [R.PERF_REFUSE, R.PERF_EVENT] t ∧ t.is F.PERF_EVENT_WRAP = s.is F.PERF_EVENT_WRAP) ∧
  (∀ (s : State), s.domOn 1 = true → s.is F.PERF_BW_CTL_RUN = true → s.perf.start + (s.perf.ended + 1) * s.perf.window * 3125 / 4 ≤ s.clock → Completes
      (.bandwidthWindowEnd ()) s fun t => (∀ p : Fin 26, t.rd (R.PERF_BW_RX p) = BitVec.ofNat 32 ((tabGet (fun _ => 0) s.perf.bytes p + tabGet (fun _ => 0) s.perf.carry p)
      / 64)) ∧ (∀ p : Fin 26, t.rd (R.PERF_BW_TX p) = BitVec.ofNat 32 ((tabGet (fun _ => 0) s.perf.bytes (26 + p) + tabGet (fun _ => 0) s.perf.carry (26 + p)) / 64)) ∧ (∀
      j : Fin 52, tabGet (fun _ => 0) t.perf.carry j = (tabGet (fun _ => 0) s.perf.bytes j + tabGet (fun _ => 0) s.perf.carry j) % 64) ∧ t.perf =
      { s.perf with bytes := [], carry := t.perf.carry, start := t.perf.start, ended := t.perf.ended, window := t.perf.window } ∧ t.perf.window = max 1 (min 4000000 (s.fld
      F.PERF_BW_CTL_WINDOW)) ∧ t.perf.start = (if t.perf.window = s.perf.window then s.perf.start else s.perf.start + (s.perf.ended + 1) * s.perf.window * 3125 / 4) ∧
      t.perf.ended = (if t.perf.window = s.perf.window then s.perf.ended + 1 else 0) ∧ t.fld F.PERF_BW_STAT_SEQ = (s.fld F.PERF_BW_STAT_SEQ + 1) % 65536 ∧ t.is
      F.PERF_EVENT_WINDOW = true ∧ t.is F.PERF_EVENT_WRAP = s.is F.PERF_EVENT_WRAP ∧ t.is F.PERF_EVENT_CFG_REFUSED = s.is F.PERF_EVENT_CFG_REFUSED ∧ t.latch = s.latch ∧
      t.out = s.out ∧ (∀ a, a < R.PERF_BW_RX 0 ∨ R.PERF_BW_TX 25 < a → a ∉ [R.PERF_BW_STAT, R.PERF_EVENT] → t.rd a = s.rd a)) ∧
  (∀ (s : State), s.domOn 1 = false ∨ s.is F.PERF_BW_CTL_RUN = false ∨ s.clock < s.perf.start + (s.perf.ended + 1) * s.perf.window * 3125 / 4 → s.IrqRemembered →
      Completes (.bandwidthWindowEnd ()) s fun t => t = s)

/-- A report of a cause and lane that exist, from 0x1 or for cause 0x0F from 0x3, is recorded in its ladder, counted and logged. On a lane out of service, unpowered or outside
traffic nothing follows; while the device is faulted an idle ladder holds the highest; an idle ladder enters at its level, and in a step the level above starts, 4 putting the
lanes out of service; causes that a level 2 or 3 step has as its own are not counted. A second report at the clock of one already counted is no fault of its own (R405; the
instant is log 107): of a higher entry level it takes the place of the first, else nothing follows. Other reports are refused with the event. STEP notes a level 1 step as
done. A declaration raises its class, asserts FAULT_N, freezes the ladders, preempts a transition into traffic and the waiting request, and shuts transmitters down when asked;
DEV_CLR clears what its master may, and with the last class the ladders restart their steps or take what they held. A full log drops a lane entry, and gives a device entry the
place of the newest lane entry. A pop from any master removes the oldest entry. What a log entry carries beside its kind, ladder and level is log entry 74. (Rests on
16_faults_recovery.md, 01_operating_modes.md.) -/
def Obligations.FaultsAreReportedDeclaredAndLogged : Prop :=
  (∀ (m : Master) (v : Word) (i c e : Nat) (s : State), s.Reached m R.FAULT_REPORT → i = ladderOf (bitsOf v.toNat 0 6) → c = bitsOf v.toNat 8 7 → e = (if c = 15 then
      bitsOf v.toNat 16 3 else entryLevel c) → m.code = 1 ∨ m.code = 3 ∧ c = 15 → bitsOf v.toNat 0 6 < 48 → 1 ≤ c → c ≤ 15 → (c = 15 → 1 ≤ e ∧ e ≤ 4) → s.is
      (F.FAULT_LADDER_ACTIVE i) = true → s.fld (F.FAULT_LADDER_LEVEL i) = 2 ∨ s.fld (F.FAULT_LADDER_LEVEL i) = 3 → c = 2 ∨ c = 4 ∨ c = 5 → Completes (.faultReport m v) s
      fun t => s.Answered m 0 t ∧ t.ladders = s.ladders ∧ t.faultLog = s.faultLog ∧ s.Only [] t) ∧
  (∀ (m : Master) (v : Word) (i c e : Nat) (s : State), s.Reached m R.FAULT_REPORT → i = ladderOf (bitsOf v.toNat 0 6) → c = bitsOf v.toNat 8 7 → e = (if c = 15 then
      bitsOf v.toNat 16 3 else entryLevel c) → m.code = 1 ∨ m.code = 3 ∧ c = 15 → bitsOf v.toNat 0 6 < 48 → 1 ≤ c → c ≤ 15 → (c = 15 → 1 ≤ e ∧ e ≤ 4) → ¬ (s.is
      (F.FAULT_LADDER_ACTIVE i) = true ∧ (s.fld (F.FAULT_LADDER_LEVEL i) = 2 ∨ s.fld (F.FAULT_LADDER_LEVEL i) = 3) ∧ (c = 2 ∨ c = 4 ∨ c = 5)) → s.ladderActs i = false →
      s.firstFault i → Completes (.faultReport m v) s fun t => s.Answered m 0 t ∧ t.fld (F.FAULT_LADDER_LAST_CAUSE i) = c ∧ t.fld (F.FAULT_LADDER_FAULTS i) = (s.fld
      (F.FAULT_LADDER_FAULTS i) + 1) % 256 ∧ bitAt (t.fld F.FAULT_EVENT_BITS) 0 = true ∧ t.faultLog = (if s.faultLog.length < 16 then s.faultLog ++ [⟨s.tb.toNat, logInfo 1
      i c e 0, 0#32⟩] else s.faultLog) ∧ t.fld F.FAULT_LOG_DROP_COUNT = (if s.faultLog.length < 16 then s.fld F.FAULT_LOG_DROP_COUNT else min (s.fld F.FAULT_LOG_DROP_COUNT
      + 1) 65535) ∧ bitAt (t.fld F.FAULT_EVENT_BITS) 7 = (bitAt (s.fld F.FAULT_EVENT_BITS) 7 || decide (16 ≤ s.faultLog.length)) ∧ t.fld (F.FAULT_LADDER_LEVEL i) = s.fld
      (F.FAULT_LADDER_LEVEL i) ∧ t.is (F.FAULT_LADDER_ACTIVE i) = s.is (F.FAULT_LADDER_ACTIVE i) ∧ s.Only [R.FAULT_LADDER i, R.FAULT_EVENT, R.FAULT_LOG_DROP] t ∧ t.ladder
      i = { s.ladder i with mark := some ⟨s.clock, e, !s.is (F.FAULT_LADDER_ACTIVE i)⟩ } ∧ (∀ j : Fin 48, j.val ≠ i → t.ladder j = s.ladder j)) ∧
  (∀ (m : Master) (v : Word) (i c e : Nat) (s : State), s.Reached m R.FAULT_REPORT → i = ladderOf (bitsOf v.toNat 0 6) → c = bitsOf v.toNat 8 7 → e = (if c = 15 then
      bitsOf v.toNat 16 3 else entryLevel c) → m.code = 1 ∨ m.code = 3 ∧ c = 15 → bitsOf v.toNat 0 6 < 48 → 1 ≤ c → c ≤ 15 → (c = 15 → 1 ≤ e ∧ e ≤ 4) → ¬ (s.is
      (F.FAULT_LADDER_ACTIVE i) = true ∧ (s.fld (F.FAULT_LADDER_LEVEL i) = 2 ∨ s.fld (F.FAULT_LADDER_LEVEL i) = 3) ∧ (c = 2 ∨ c = 4 ∨ c = 5)) → s.ladderActs i = true →
      s.devFaulted = true → s.firstFault i → Completes (.faultReport m v) s fun t => s.Answered m 0 t ∧ t.fld (F.FAULT_LADDER_LAST_CAUSE i) = c ∧ t.fld
      (F.FAULT_LADDER_FAULTS i) = (s.fld (F.FAULT_LADDER_FAULTS i) + 1) % 256 ∧ bitAt (t.fld F.FAULT_EVENT_BITS) 0 = true ∧ t.faultLog = (if s.faultLog.length < 16 then
      s.faultLog ++ [⟨s.tb.toNat, logInfo 1 i c e 0, 0#32⟩] else s.faultLog) ∧ t.fld F.FAULT_LOG_DROP_COUNT = (if s.faultLog.length < 16 then s.fld F.FAULT_LOG_DROP_COUNT
      else min (s.fld F.FAULT_LOG_DROP_COUNT + 1) 65535) ∧ bitAt (t.fld F.FAULT_EVENT_BITS) 7 = (bitAt (s.fld F.FAULT_EVENT_BITS) 7 || decide (16 ≤ s.faultLog.length)) ∧
      t.fld (F.FAULT_LADDER_LEVEL i) = s.fld (F.FAULT_LADDER_LEVEL i) ∧ t.is (F.FAULT_LADDER_ACTIVE i) = s.is (F.FAULT_LADDER_ACTIVE i) ∧ s.Only [R.FAULT_LADDER i,
      R.FAULT_EVENT, R.FAULT_LOG_DROP] t ∧ t.ladder i =
      { (if s.fld (F.FAULT_LADDER_LEVEL i) = 0 ∧ (s.ladder i).held < s.entryAt i e then { s.ladder i with held := s.entryAt i e, heldCause := c } else s.ladder i) with mark := some ⟨s.clock, e, !s.is (F.FAULT_LADDER_ACTIVE i)⟩ }
      ∧ (∀ j : Fin 48, j.val ≠ i → t.ladder j = s.ladder j)) ∧
  (∀ (m : Master) (v : Word) (i c e : Nat) (s : State), s.Reached m R.FAULT_REPORT → i = ladderOf (bitsOf v.toNat 0 6) → c = bitsOf v.toNat 8 7 → e = (if c = 15 then
      bitsOf v.toNat 16 3 else entryLevel c) → m.code = 1 ∨ m.code = 3 ∧ c = 15 → bitsOf v.toNat 0 6 < 48 → 1 ≤ c → c ≤ 15 → (c = 15 → 1 ≤ e ∧ e ≤ 4) → s.ladderActs i =
      true → s.devFaulted = false → s.is (F.FAULT_LADDER_ACTIVE i) = false → s.entryAt i e < 4 → s.firstFault i → Completes (.faultReport m v) s fun t => t.fld
      (F.FAULT_LADDER_LAST_CAUSE i) = c ∧ t.fld (F.FAULT_LADDER_FAULTS i) = (s.fld (F.FAULT_LADDER_FAULTS i) + 1) % 256 ∧ bitAt (t.fld F.FAULT_EVENT_BITS) 0 = true ∧ t.fld
      (F.FAULT_LADDER_LEVEL i) = s.entryAt i e ∧ t.is (F.FAULT_LADDER_ACTIVE i) = true ∧ bitAt (t.fld F.FAULT_EVENT_BITS) 1 = true ∧ (t.ladder i).cause = c ∧
      (s.faultLog.length + 2 ≤ 16 → t.faultLog = s.faultLog ++ [⟨s.tb.toNat, logInfo 1 i c e 0, 0#32⟩, ⟨s.tb.toNat, logInfo 2 i c (s.entryAt i e) 0, 0#32⟩])) ∧
  (∀ (m : Master) (v : Word) (i c e : Nat) (s : State), s.Reached m R.FAULT_REPORT → i = ladderOf (bitsOf v.toNat 0 6) → c = bitsOf v.toNat 8 7 → e = (if c = 15 then
      bitsOf v.toNat 16 3 else entryLevel c) → m.code = 1 ∨ m.code = 3 ∧ c = 15 → bitsOf v.toNat 0 6 < 48 → 1 ≤ c → c ≤ 15 → (c = 15 → 1 ≤ e ∧ e ≤ 4) → s.ladderActs i =
      true → s.devFaulted = false → s.is (F.FAULT_LADDER_ACTIVE i) = false → 4 ≤ s.entryAt i e → s.firstFault i → Completes (.faultReport m v) s fun t => t.fld
      (F.FAULT_LADDER_LAST_CAUSE i) = c ∧ t.fld (F.FAULT_LADDER_FAULTS i) = (s.fld (F.FAULT_LADDER_FAULTS i) + 1) % 256 ∧ bitAt (t.fld F.FAULT_EVENT_BITS) 0 = true ∧ t.fld
      (F.FAULT_LADDER_LEVEL i) = 4 ∧ t.is (F.FAULT_LADDER_ACTIVE i) = false ∧ bitAt (t.fld F.FAULT_EVENT_BITS) 4 = true ∧ (∀ n : Fin 48, ladderOf n = i → t.oos n = true) ∧
      (s.faultLog.length + 1 ≤ 16 → t.faultLog = s.faultLog ++ [⟨s.tb.toNat, logInfo 1 i c e 0, 0#32⟩])) ∧
  (∀ (m : Master) (v : Word) (i c e : Nat) (s : State), s.Reached m R.FAULT_REPORT → i = ladderOf (bitsOf v.toNat 0 6) → c = bitsOf v.toNat 8 7 → e = (if c = 15 then
      bitsOf v.toNat 16 3 else entryLevel c) → m.code = 1 ∨ m.code = 3 ∧ c = 15 → bitsOf v.toNat 0 6 < 48 → 1 ≤ c → c ≤ 15 → (c = 15 → 1 ≤ e ∧ e ≤ 4) → s.ladderActs i =
      true → s.devFaulted = false → ¬ (s.is (F.FAULT_LADDER_ACTIVE i) = true ∧ (s.fld (F.FAULT_LADDER_LEVEL i) = 2 ∨ s.fld (F.FAULT_LADDER_LEVEL i) = 3) ∧ (c = 2 ∨ c = 4 ∨
      c = 5)) → s.is (F.FAULT_LADDER_ACTIVE i) = true → s.fld (F.FAULT_LADDER_LEVEL i) < 3 → s.firstFault i → Completes (.faultReport m v) s fun t => t.fld
      (F.FAULT_LADDER_LAST_CAUSE i) = c ∧ t.fld (F.FAULT_LADDER_FAULTS i) = (s.fld (F.FAULT_LADDER_FAULTS i) + 1) % 256 ∧ bitAt (t.fld F.FAULT_EVENT_BITS) 0 = true ∧ t.fld
      (F.FAULT_LADDER_LEVEL i) = s.fld (F.FAULT_LADDER_LEVEL i) + 1 ∧ t.is (F.FAULT_LADDER_ACTIVE i) = true ∧ bitAt (t.fld F.FAULT_EVENT_BITS) 1 = true ∧ bitAt (t.fld
      F.FAULT_EVENT_BITS) 3 = true ∧ (s.faultLog.length + 3 ≤ 16 → t.faultLog = s.faultLog ++ [⟨s.tb.toNat, logInfo 1 i c e 0, 0#32⟩, ⟨s.tb.toNat, logInfo 4 i c (s.fld
      (F.FAULT_LADDER_LEVEL i)) 0, 0#32⟩, ⟨s.tb.toNat, logInfo 2 i c (s.fld (F.FAULT_LADDER_LEVEL i) + 1) 0, 0#32⟩])) ∧
  (∀ (m : Master) (v : Word) (i c e : Nat) (s : State), s.Reached m R.FAULT_REPORT → i = ladderOf (bitsOf v.toNat 0 6) → c = bitsOf v.toNat 8 7 → e = (if c = 15 then
      bitsOf v.toNat 16 3 else entryLevel c) → m.code = 1 ∨ m.code = 3 ∧ c = 15 → bitsOf v.toNat 0 6 < 48 → 1 ≤ c → c ≤ 15 → (c = 15 → 1 ≤ e ∧ e ≤ 4) → s.ladderActs i =
      true → s.devFaulted = false → ¬ (s.is (F.FAULT_LADDER_ACTIVE i) = true ∧ (s.fld (F.FAULT_LADDER_LEVEL i) = 2 ∨ s.fld (F.FAULT_LADDER_LEVEL i) = 3) ∧ (c = 2 ∨ c = 4 ∨
      c = 5)) → s.is (F.FAULT_LADDER_ACTIVE i) = true → 3 ≤ s.fld (F.FAULT_LADDER_LEVEL i) → s.firstFault i → Completes (.faultReport m v) s fun t => t.fld
      (F.FAULT_LADDER_LAST_CAUSE i) = c ∧ t.fld (F.FAULT_LADDER_FAULTS i) = (s.fld (F.FAULT_LADDER_FAULTS i) + 1) % 256 ∧ bitAt (t.fld F.FAULT_EVENT_BITS) 0 = true ∧ t.fld
      (F.FAULT_LADDER_LEVEL i) = 4 ∧ t.is (F.FAULT_LADDER_ACTIVE i) = false ∧ bitAt (t.fld F.FAULT_EVENT_BITS) 3 = true ∧ bitAt (t.fld F.FAULT_EVENT_BITS) 4 = true ∧ (∀ n
      : Fin 48, ladderOf n = i → t.oos n = true) ∧ (s.faultLog.length + 2 ≤ 16 → t.faultLog = s.faultLog ++ [⟨s.tb.toNat, logInfo 1 i c e 0, 0#32⟩, ⟨s.tb.toNat, logInfo 4
      i c (s.fld (F.FAULT_LADDER_LEVEL i)) 0, 0#32⟩])) ∧
  (∀ (m : Master) (v : Word) (i c e : Nat) (k : Mark) (s : State), s.Reached m R.FAULT_REPORT → i = ladderOf (bitsOf v.toNat 0 6) → c = bitsOf v.toNat 8 7 → e = (if c =
      15 then bitsOf v.toNat 16 3 else entryLevel c) → m.code = 1 ∨ m.code = 3 ∧ c = 15 → bitsOf v.toNat 0 6 < 48 → 1 ≤ c → c ≤ 15 → (c = 15 → 1 ≤ e ∧ e ≤ 4) → (s.ladder
      i).mark = some k → k.clock = s.clock → e ≤ k.entry → Completes (.faultReport m v) s fun t => s.Answered m 0 t ∧ t.ladders = s.ladders ∧ t.faultLog = s.faultLog ∧
      s.Only [] t) ∧
  (∀ (m : Master) (v : Word) (i c e : Nat) (k : Mark) (s : State), s.Reached m R.FAULT_REPORT → i = ladderOf (bitsOf v.toNat 0 6) → c = bitsOf v.toNat 8 7 → e = (if c =
      15 then bitsOf v.toNat 16 3 else entryLevel c) → m.code = 1 ∨ m.code = 3 ∧ c = 15 → bitsOf v.toNat 0 6 < 48 → 1 ≤ c → c ≤ 15 → (c = 15 → 1 ≤ e ∧ e ≤ 4) → (s.ladder
      i).mark = some k → k.clock = s.clock → k.entry < e → k.idle = true → s.ladderActs i = true → s.devFaulted = false → ¬ (s.is (F.FAULT_LADDER_ACTIVE i) = true ∧ (s.fld
      (F.FAULT_LADDER_LEVEL i) = 2 ∨ s.fld (F.FAULT_LADDER_LEVEL i) = 3) ∧ (c = 2 ∨ c = 4 ∨ c = 5)) → s.fld (F.FAULT_LADDER_LEVEL i) < s.entryAt i e → s.entryAt i e < 4 →
      Completes (.faultReport m v) s fun t => t.fld (F.FAULT_LADDER_LAST_CAUSE i) = c ∧ t.fld (F.FAULT_LADDER_FAULTS i) = s.fld (F.FAULT_LADDER_FAULTS i) ∧ t.fld
      (F.FAULT_LADDER_LEVEL i) = s.entryAt i e ∧ t.is (F.FAULT_LADDER_ACTIVE i) = true ∧ (t.ladder i).cause = c ∧ (t.ladder i).mark = some { k with entry := e } ∧ bitAt
      (t.fld F.FAULT_EVENT_BITS) 3 = bitAt (s.fld F.FAULT_EVENT_BITS) 3 ∧ (s.faultLog.length < 16 → t.faultLog = s.faultLog ++ [⟨s.tb.toNat, logInfo 2 i c (s.entryAt i e)
      0, 0#32⟩])) ∧
  (∀ (m : Master) (v : Word) (s : State), s.Reached m R.FAULT_REPORT → m.code ≠ 1 → m.code ≠ 3 ∨ bitsOf v.toNat 8 7 ≠ 15 → Completes (.faultReport m v) s fun t =>
      s.Answered m 2 t ∧ bitAt (t.fld F.FAULT_EVENT_BITS) 8 = true ∧ (∀ j : Fin 8, bitAt (t.fld F.FAULT_EVENT_BITS) j = bitAt (s.fld F.FAULT_EVENT_BITS) j) ∧ t.ladders =
      s.ladders ∧ t.faultLog = s.faultLog ∧ s.Only [R.FAULT_EVENT] t) ∧
  (∀ (m : Master) (v : Word) (s : State), s.Reached m R.FAULT_REPORT → m.code = 1 ∨ m.code = 3 ∧ bitsOf v.toNat 8 7 = 15 → 47 < bitsOf v.toNat 0 6 ∨ bitsOf v.toNat 8 7
      = 0 ∨ 15 < bitsOf v.toNat 8 7 ∨ bitsOf v.toNat 8 7 = 15 ∧ (bitsOf v.toNat 16 3 = 0 ∨ 4 < bitsOf v.toNat 16 3) → Completes (.faultReport m v) s fun t => s.Answered m
      1 t ∧ bitAt (t.fld F.FAULT_EVENT_BITS) 8 = true ∧ (∀ j : Fin 8, bitAt (t.fld F.FAULT_EVENT_BITS) j = bitAt (s.fld F.FAULT_EVENT_BITS) j) ∧ t.ladders = s.ladders ∧
      t.faultLog = s.faultLog ∧ s.Only [R.FAULT_EVENT] t) ∧
  (∀ (n : Fin 48) (s : State), s.is (F.FAULT_LADDER_ACTIVE (ladderOf n)) = false → s.IrqRemembered → Completes (.ladderStepTimeout n) s fun t => t = s) ∧
  (∀ (n : Fin 48) (s : State), s.is (F.FAULT_LADDER_ACTIVE (ladderOf n)) = false ∨ s.stepReady (ladderOf n) = false → s.IrqRemembered → Completes (.ladderStepComplete
      n) s fun t => t = s) ∧
  (∀ (m : Master) (n : Fin 64) (s : State), s.Reached m R.FAULT_STEP → m.code = 1 → n.val < 48 → s.is (F.FAULT_LADDER_ACTIVE (ladderOf n)) = true → s.fld
      (F.FAULT_LADDER_LEVEL (ladderOf n)) = 1 → Completes (.stepDone m n) s fun t => s.Answered m 0 t ∧ t.ladder (ladderOf n) = { s.ladder (ladderOf n) with done := true }
      ∧ (∀ i : Fin 48, i.val ≠ ladderOf n → t.ladder i = s.ladder i) ∧ s.Only [] t) ∧
  (∀ (m : Master) (n : Fin 64) (s : State), s.Reached m R.FAULT_STEP → m.code = 1 → ¬ (n.val < 48 ∧ s.is (F.FAULT_LADDER_ACTIVE (ladderOf n)) = true ∧ s.fld
      (F.FAULT_LADDER_LEVEL (ladderOf n)) = 1) → Completes (.stepDone m n) s fun t => s.Answered m 0 t ∧ t.ladders = s.ladders ∧ s.Only [] t) ∧
  (∀ (m : Master) (n : Fin 64) (s : State), s.Reached m R.FAULT_STEP → m.code ≠ 1 → Completes (.stepDone m n) s fun t => s.Answered m 2 t ∧ t.ladders = s.ladders ∧
      s.Only [] t) ∧
  (∀ (m : Master) (v : Word) (k : Nat) (s : State), s.Reached m R.FAULT_DECLARE → k = bitsOf v.toNat 0 3 → k = 4 ∧ m.code = 1 ∨ k = 5 ∧ (m.code = 3 ∨ m.code = 5) →
      s.faultLog.length < 16 → Completes (.declare m v) s fun t => t.faultLog = s.faultLog ++ [⟨s.tb.toNat, logInfo 5 0 k 0 0, BitVec.ofNat 32 (bitsOf v.toNat 16 16)⟩] ∧
      t.fld F.FAULT_LOG_DROP_COUNT = s.fld F.FAULT_LOG_DROP_COUNT) ∧
  (∀ (m : Master) (v : Word) (k : Nat) (l l2 : List LogEntry) (e : LogEntry) (s : State), s.Reached m R.FAULT_DECLARE → k = bitsOf v.toNat 0 3 → k = 4 ∧ m.code = 1 ∨ k
      = 5 ∧ (m.code = 3 ∨ m.code = 5) → s.faultLog = l ++ e :: l2 → 16 ≤ s.faultLog.length → e.isDev = false → l2.all LogEntry.isDev = true → Completes (.declare m v) s
      fun t => t.faultLog = l ++ l2 ++ [⟨s.tb.toNat, logInfo 5 0 k 0 0, BitVec.ofNat 32 (bitsOf v.toNat 16 16)⟩] ∧ bitAt (t.fld F.FAULT_EVENT_BITS) 7 = true ∧ t.fld
      F.FAULT_LOG_DROP_COUNT = s.fld F.FAULT_LOG_DROP_COUNT) ∧
  (∀ (m : Master) (v : Word) (k : Nat) (s : State), s.Reached m R.FAULT_DECLARE → k = bitsOf v.toNat 0 3 → k = 4 ∧ m.code = 1 ∨ k = 5 ∧ (m.code = 3 ∨ m.code = 5) → 16 ≤
      s.faultLog.length → s.faultLog.all LogEntry.isDev = true → Completes (.declare m v) s fun t => t.faultLog = s.faultLog ∧ bitAt (t.fld F.FAULT_EVENT_BITS) 7 = true ∧
      t.fld F.FAULT_LOG_DROP_COUNT = min (s.fld F.FAULT_LOG_DROP_COUNT + 1) 65535) ∧
  (∀ (m : Master) (v : Word) (k : Nat) (s : State), s.Reached m R.FAULT_DECLARE → k = bitsOf v.toNat 0 3 → k = 4 ∧ m.code = 1 ∨ k = 5 ∧ (m.code = 3 ∨ m.code = 5) →
      bitAt v.toNat 3 = false → s.is F.MODE_STATUS_WAITING = false → ¬ (s.is F.MODE_STATUS_BUSY = true ∧ isData (s.fld F.MODE_STATUS_IN_TARGET) = true) → Completes
      (.declare m v) s fun t => s.Answered m 0 t ∧ t.fld F.FAULT_DEV_ACTIVE_CLASS = s.fld F.FAULT_DEV_ACTIVE_CLASS ||| 2 ^ (k - 1) ∧ bitAt (t.fld F.FAULT_EVENT_BITS) 5 =
      true ∧ t.faultPin = true ∧ (∀ i : Fin 48, t.is (F.FAULT_LADDER_FROZEN (ladderOf i)) = true ∧ t.is (F.FAULT_LADDER_ACTIVE (ladderOf i)) = false) ∧ (∀ i : Fin 48,
      t.ladder (ladderOf i) = { s.ladder (ladderOf i) with paused := (s.ladder (ladderOf i)).paused || s.is (F.FAULT_LADDER_ACTIVE (ladderOf i)) }) ∧ (∀ i : Fin 48, t.fld
      (F.FAULT_LADDER_LEVEL (ladderOf i)) = s.fld (F.FAULT_LADDER_LEVEL (ladderOf i))) ∧ t.fld F.MODE_STATUS_CURRENT = s.fld F.MODE_STATUS_CURRENT ∧ t.is
      F.MODE_STATUS_WAITING = false ∧ t.is F.MODE_STATUS_BUSY = s.is F.MODE_STATUS_BUSY ∧ t.rd R.MODE_RESULT = s.rd R.MODE_RESULT ∧ t.shutdown = s.shutdown ∧ s.Only
      (R.FAULT_DEV_ACTIVE :: R.FAULT_EVENT :: R.FAULT_LOG_DROP :: (List.range 48).map R.FAULT_LADDER) t) ∧
  (∀ (m : Master) (v : Word) (k : Nat) (s : State), s.Reached m R.FAULT_DECLARE → k = bitsOf v.toNat 0 3 → k = 4 ∧ m.code = 1 ∨ k = 5 ∧ (m.code = 3 ∨ m.code = 5) → s.is
      F.MODE_STATUS_WAITING = false → s.is F.MODE_STATUS_BUSY = true → isData (s.fld F.MODE_STATUS_IN_TARGET) = true → Completes (.declare m v) s fun t => s.Answered m 0 t
      ∧ t.fld F.FAULT_DEV_ACTIVE_CLASS = s.fld F.FAULT_DEV_ACTIVE_CLASS ||| 2 ^ (k - 1) ∧ bitAt (t.fld F.FAULT_EVENT_BITS) 5 = true ∧ t.faultPin = true ∧ (∀ i : Fin 48,
      t.is (F.FAULT_LADDER_FROZEN (ladderOf i)) = true ∧ t.is (F.FAULT_LADDER_ACTIVE (ladderOf i)) = false) ∧ (∀ i : Fin 48, t.ladder (ladderOf i) =
      { s.ladder (ladderOf i) with paused := (s.ladder (ladderOf i)).paused || s.is (F.FAULT_LADDER_ACTIVE (ladderOf i)) }) ∧ (∀ i : Fin 48, t.fld (F.FAULT_LADDER_LEVEL
      (ladderOf i)) = s.fld (F.FAULT_LADDER_LEVEL (ladderOf i))) ∧ t.fld F.MODE_STATUS_CURRENT = s.fld F.MODE_STATUS_CURRENT ∧ t.is F.MODE_STATUS_WAITING = false ∧ t.is
      F.MODE_STATUS_BUSY = false ∧ t.trans.waitFor = [] ∧ t.trans.ramping = false ∧ t.fld F.MODE_RESULT_CODE = 6 ∧ t.fld F.MODE_RESULT_SOURCE = s.trans.source % 16 ∧ t.fld
      F.MODE_RESULT_SEQ = (s.fld F.MODE_RESULT_SEQ + 1) % 2 ^ (F.MODE_RESULT_SEQ).wd ∧ t.is F.MODE_EVENT_RESULT = true) ∧
  (∀ (m : Master) (v : Word) (k : Nat) (s : State), s.Reached m R.FAULT_DECLARE → k = bitsOf v.toNat 0 3 → k = 4 ∧ m.code = 1 ∨ k = 5 ∧ (m.code = 3 ∨ m.code = 5) → s.is
      F.MODE_STATUS_WAITING = true → Completes (.declare m v) s fun t => s.Answered m 0 t ∧ t.fld F.FAULT_DEV_ACTIVE_CLASS = s.fld F.FAULT_DEV_ACTIVE_CLASS ||| 2 ^ (k - 1)
      ∧ bitAt (t.fld F.FAULT_EVENT_BITS) 5 = true ∧ t.faultPin = true ∧ (∀ i : Fin 48, t.is (F.FAULT_LADDER_FROZEN (ladderOf i)) = true ∧ t.is (F.FAULT_LADDER_ACTIVE
      (ladderOf i)) = false) ∧ (∀ i : Fin 48, t.ladder (ladderOf i) =
      { s.ladder (ladderOf i) with paused := (s.ladder (ladderOf i)).paused || s.is (F.FAULT_LADDER_ACTIVE (ladderOf i)) }) ∧ (∀ i : Fin 48, t.fld (F.FAULT_LADDER_LEVEL
      (ladderOf i)) = s.fld (F.FAULT_LADDER_LEVEL (ladderOf i))) ∧ t.fld F.MODE_STATUS_CURRENT = s.fld F.MODE_STATUS_CURRENT ∧ t.is F.MODE_STATUS_WAITING = false ∧ t.is
      F.MODE_STATUS_BUSY = (s.is F.MODE_STATUS_BUSY && !(isData (s.fld F.MODE_STATUS_IN_TARGET))) ∧ t.fld F.MODE_RESULT_CODE = 6 ∧ t.fld F.MODE_RESULT_SOURCE =
      s.trans.waitSrc % 16 ∧ t.fld F.MODE_RESULT_SEQ = (s.fld F.MODE_RESULT_SEQ + (if s.is F.MODE_STATUS_BUSY = true ∧ isData (s.fld F.MODE_STATUS_IN_TARGET) = true then 2
      else 1)) % 2 ^ (F.MODE_RESULT_SEQ).wd ∧ t.is F.MODE_EVENT_RESULT = true) ∧
  (∀ (m : Master) (v : Word) (k : Nat) (s : State), s.Reached m R.FAULT_DECLARE → k = bitsOf v.toNat 0 3 → k = 4 ∧ m.code = 1 ∨ k = 5 ∧ (m.code = 3 ∨ m.code = 5) →
      bitAt v.toNat 3 = true → Completes (.declare m v) s fun t => s.Answered m 0 t ∧ t.fld F.FAULT_DEV_ACTIVE_CLASS = s.fld F.FAULT_DEV_ACTIVE_CLASS ||| 2 ^ (k - 1) ∧
      bitAt (t.fld F.FAULT_EVENT_BITS) 5 = true ∧ t.faultPin = true ∧ (∀ i : Fin 48, t.is (F.FAULT_LADDER_FROZEN (ladderOf i)) = true ∧ t.is (F.FAULT_LADDER_ACTIVE
      (ladderOf i)) = false) ∧ (∀ i : Fin 48, t.ladder (ladderOf i) =
      { s.ladder (ladderOf i) with paused := (s.ladder (ladderOf i)).paused || s.is (F.FAULT_LADDER_ACTIVE (ladderOf i)) }) ∧ (∀ i : Fin 48, t.fld (F.FAULT_LADDER_LEVEL
      (ladderOf i)) = s.fld (F.FAULT_LADDER_LEVEL (ladderOf i))) ∧ t.fld F.MODE_STATUS_CURRENT = s.fld F.MODE_STATUS_CURRENT ∧ t.is F.MODE_STATUS_WAITING = false ∧
      t.shutdown = s.shutdown ||| BitVec.ofNat 6 (2 ^ k) ∧ (∀ n : Fin 8, t.is (F.LTX_FAULT_CAUSE_DEVICE (8 + n)) = true) ∧ (∀ n : Fin 8, 2 ≤ s.fld (F.LTX_STATUS_STATE (8 +
      n)) → s.fld (F.LTX_STATUS_STATE (8 + n)) ≤ 4 → t.is (F.LTX_CTL_SQUELCH (8 + n)) = true ∧ t.fld (F.LTX_STATUS_STATE (8 + n)) = 5)) ∧
  (∀ (m : Master) (v : Word) (k : Nat) (s : State), s.Reached m R.FAULT_DECLARE → k = bitsOf v.toNat 0 3 → k = 4 ∧ m.code ≠ 1 ∨ k = 5 ∧ m.code ≠ 3 ∧ m.code ≠ 5 →
      Completes (.declare m v) s fun t => s.Answered m 2 t ∧ bitAt (t.fld F.FAULT_EVENT_BITS) 8 = true ∧ (∀ j : Fin 8, bitAt (t.fld F.FAULT_EVENT_BITS) j = bitAt (s.fld
      F.FAULT_EVENT_BITS) j) ∧ t.ladders = s.ladders ∧ t.faultLog = s.faultLog ∧ s.Only [R.FAULT_EVENT] t ∧ t.shutdown = s.shutdown) ∧
  (∀ (m : Master) (v : Word) (k : Nat) (s : State), s.Reached m R.FAULT_DECLARE → k = bitsOf v.toNat 0 3 → k ≠ 4 → k ≠ 5 → Completes (.declare m v) s fun t =>
      s.Answered m 1 t ∧ bitAt (t.fld F.FAULT_EVENT_BITS) 8 = true ∧ (∀ j : Fin 8, bitAt (t.fld F.FAULT_EVENT_BITS) j = bitAt (s.fld F.FAULT_EVENT_BITS) j) ∧ t.ladders =
      s.ladders ∧ t.faultLog = s.faultLog ∧ s.Only [R.FAULT_EVENT] t ∧ t.shutdown = s.shutdown) ∧
  (∀ (m : Master) (v : Word) (s : State), s.Reached m R.FAULT_DEV_CLR → Completes (.devClr m v) s fun t => (∀ c : Fin 6, 1 ≤ c.val → bitAt (t.fld
      F.FAULT_DEV_ACTIVE_CLASS) (c - 1) = (bitAt (s.fld F.FAULT_DEV_ACTIVE_CLASS) (c - 1) && !(decide (bitAt v.toNat c.val = true ∧ bitAt (s.fld F.FAULT_DEV_ACTIVE_CLASS)
      (c.val - 1) = true ∧ (c.val = 2 ∧ s.is F.FAB_STATUS_MARGIN_CRIT = false ∨ c.val = 4 ∧ m.code = 1 ∨ c.val = 5 ∧ (m.code = 1 ∨ m.code = 3 ∨ m.code = 5))))))) ∧
  (∀ (m : Master) (v : Word) (s : State), s.Reached m R.FAULT_DEV_CLR → (∀ c : Fin 6, 1 ≤ c.val → ¬ (bitAt v.toNat c.val = true ∧ bitAt (s.fld F.FAULT_DEV_ACTIVE_CLASS)
      (c.val - 1) = true ∧ (c.val = 2 ∧ s.is F.FAB_STATUS_MARGIN_CRIT = false ∨ c.val = 4 ∧ m.code = 1 ∨ c.val = 5 ∧ (m.code = 1 ∨ m.code = 3 ∨ m.code = 5)))) → Completes
      (.devClr m v) s fun t => s.Answered m 0 t ∧ t.ladders = s.ladders ∧ t.faultLog = s.faultLog ∧ t.shutdown = s.shutdown ∧ s.Only [] t) ∧
  (∀ (m : Master) (v : Word) (c : Fin 6) (s : State), s.Reached m R.FAULT_DEV_CLR → 1 ≤ c.val → (bitAt v.toNat c.val = true ∧ bitAt (s.fld F.FAULT_DEV_ACTIVE_CLASS)
      (c.val - 1) = true ∧ (c.val = 2 ∧ s.is F.FAB_STATUS_MARGIN_CRIT = false ∨ c.val = 4 ∧ m.code = 1 ∨ c.val = 5 ∧ (m.code = 1 ∨ m.code = 3 ∨ m.code = 5))) → (∀ k : Fin
      6, 1 ≤ k.val → k ≠ c → ¬ (bitAt v.toNat k.val = true ∧ bitAt (s.fld F.FAULT_DEV_ACTIVE_CLASS) (k.val - 1) = true ∧ (k.val = 2 ∧ s.is F.FAB_STATUS_MARGIN_CRIT = false
      ∨ k.val = 4 ∧ m.code = 1 ∨ k.val = 5 ∧ (m.code = 1 ∨ m.code = 3 ∨ m.code = 5)))) → s.fld F.FAULT_DEV_ACTIVE_CLASS ≠ 2 ^ (c.val - 1) → Completes (.devClr m v) s fun t
      => s.Answered m 0 t ∧ bitAt (t.fld F.FAULT_EVENT_BITS) 6 = true ∧ t.shutdown = s.shutdown &&& ~~~(BitVec.ofNat 6 (2 ^ c.val)) ∧ t.fld F.FAULT_DEV_ACTIVE_CLASS =
      s.fld F.FAULT_DEV_ACTIVE_CLASS - 2 ^ (c.val - 1) ∧ t.ladders = s.ladders ∧ (s.faultLog.length < 16 → t.faultLog = s.faultLog ++ [⟨s.tb.toNat, logInfo 6 0 c 0 0,
      0#32⟩]) ∧ s.Only [R.FAULT_DEV_ACTIVE, R.FAULT_EVENT, R.FAULT_LOG_DROP] t) ∧
  (∀ (m : Master) (v : Word) (c : Fin 6) (s : State), s.Reached m R.FAULT_DEV_CLR → 1 ≤ c.val → (bitAt v.toNat c.val = true ∧ bitAt (s.fld F.FAULT_DEV_ACTIVE_CLASS)
      (c.val - 1) = true ∧ (c.val = 2 ∧ s.is F.FAB_STATUS_MARGIN_CRIT = false ∨ c.val = 4 ∧ m.code = 1 ∨ c.val = 5 ∧ (m.code = 1 ∨ m.code = 3 ∨ m.code = 5))) → (∀ k : Fin
      6, 1 ≤ k.val → k ≠ c → ¬ (bitAt v.toNat k.val = true ∧ bitAt (s.fld F.FAULT_DEV_ACTIVE_CLASS) (k.val - 1) = true ∧ (k.val = 2 ∧ s.is F.FAB_STATUS_MARGIN_CRIT = false
      ∨ k.val = 4 ∧ m.code = 1 ∨ k.val = 5 ∧ (m.code = 1 ∨ m.code = 3 ∨ m.code = 5)))) → s.fld F.FAULT_DEV_ACTIVE_CLASS = 2 ^ (c.val - 1) → (∀ i : Fin 48, (s.ladder
      (ladderOf i)).paused = false ∧ (s.ladder (ladderOf i)).held = 0) → Completes (.devClr m v) s fun t => s.Answered m 0 t ∧ bitAt (t.fld F.FAULT_EVENT_BITS) 6 = true ∧
      t.shutdown = s.shutdown &&& ~~~(BitVec.ofNat 6 (2 ^ c.val)) ∧ t.fld F.FAULT_DEV_ACTIVE_CLASS = 0 ∧ (∀ i : Fin 48, t.is (F.FAULT_LADDER_FROZEN (ladderOf i)) = false ∧
      t.fld (F.FAULT_LADDER_LEVEL (ladderOf i)) = s.fld (F.FAULT_LADDER_LEVEL (ladderOf i)) ∧ t.is (F.FAULT_LADDER_ACTIVE (ladderOf i)) = s.is (F.FAULT_LADDER_ACTIVE
      (ladderOf i))) ∧ (s.faultLog.length < 16 → t.faultLog = s.faultLog ++ [⟨s.tb.toNat, logInfo 6 0 c 0 0, 0#32⟩]) ∧ s.Only (R.FAULT_DEV_ACTIVE :: R.FAULT_EVENT ::
      R.FAULT_LOG_DROP :: (List.range 48).map R.FAULT_LADDER) t) ∧
  (∀ (m : Master) (v : Word) (c : Fin 6) (i : Fin 48) (s : State), s.Reached m R.FAULT_DEV_CLR → 1 ≤ c.val → (bitAt v.toNat c.val = true ∧ bitAt (s.fld
      F.FAULT_DEV_ACTIVE_CLASS) (c.val - 1) = true ∧ (c.val = 2 ∧ s.is F.FAB_STATUS_MARGIN_CRIT = false ∨ c.val = 4 ∧ m.code = 1 ∨ c.val = 5 ∧ (m.code = 1 ∨ m.code = 3 ∨
      m.code = 5))) → (∀ k : Fin 6, 1 ≤ k.val → k ≠ c → ¬ (bitAt v.toNat k.val = true ∧ bitAt (s.fld F.FAULT_DEV_ACTIVE_CLASS) (k.val - 1) = true ∧ (k.val = 2 ∧ s.is
      F.FAB_STATUS_MARGIN_CRIT = false ∨ k.val = 4 ∧ m.code = 1 ∨ k.val = 5 ∧ (m.code = 1 ∨ m.code = 3 ∨ m.code = 5)))) → s.fld F.FAULT_DEV_ACTIVE_CLASS = 2 ^ (c.val - 1)
      → (s.ladder (ladderOf i)).paused = true → s.fld (F.FAULT_LADDER_LEVEL (ladderOf i)) < 4 → Completes (.devClr m v) s fun t => t.fld (F.FAULT_LADDER_LEVEL (ladderOf
      i)) = s.fld (F.FAULT_LADDER_LEVEL (ladderOf i)) ∧ t.is (F.FAULT_LADDER_ACTIVE (ladderOf i)) = true ∧ t.is (F.FAULT_LADDER_FROZEN (ladderOf i)) = false ∧ (t.ladder
      (ladderOf i)).paused = false ∧ bitAt (t.fld F.FAULT_EVENT_BITS) 1 = true) ∧
  (∀ (m : Master) (v : Word) (c : Fin 6) (i : Fin 48) (s : State), s.Reached m R.FAULT_DEV_CLR → 1 ≤ c.val → (bitAt v.toNat c.val = true ∧ bitAt (s.fld
      F.FAULT_DEV_ACTIVE_CLASS) (c.val - 1) = true ∧ (c.val = 2 ∧ s.is F.FAB_STATUS_MARGIN_CRIT = false ∨ c.val = 4 ∧ m.code = 1 ∨ c.val = 5 ∧ (m.code = 1 ∨ m.code = 3 ∨
      m.code = 5))) → (∀ k : Fin 6, 1 ≤ k.val → k ≠ c → ¬ (bitAt v.toNat k.val = true ∧ bitAt (s.fld F.FAULT_DEV_ACTIVE_CLASS) (k.val - 1) = true ∧ (k.val = 2 ∧ s.is
      F.FAB_STATUS_MARGIN_CRIT = false ∨ k.val = 4 ∧ m.code = 1 ∨ k.val = 5 ∧ (m.code = 1 ∨ m.code = 3 ∨ m.code = 5)))) → s.fld F.FAULT_DEV_ACTIVE_CLASS = 2 ^ (c.val - 1)
      → (s.ladder (ladderOf i)).paused = false → (s.ladder (ladderOf i)).held ≠ 0 → s.ladderActs (ladderOf i) = true → Completes (.devClr m v) s fun t => t.fld
      (F.FAULT_LADDER_LEVEL (ladderOf i)) = (if (s.ladder (ladderOf i)).held < 4 then (s.ladder (ladderOf i)).held % 8 else 4) ∧ ((s.ladder (ladderOf i)).held < 4 → t.is
      (F.FAULT_LADDER_ACTIVE (ladderOf i)) = true) ∧ (4 ≤ (s.ladder (ladderOf i)).held → t.oos i = true) ∧ (t.ladder (ladderOf i)).held = 0 ∧ t.is (F.FAULT_LADDER_FROZEN
      (ladderOf i)) = false) ∧
  (∀ (m : Master) (s : State), s.Reached m R.FAULT_LOG_CTL → Completes (.faultLogPop m) s fun t => s.Answered m 0 t ∧ t.faultLog = s.faultLog.drop 1 ∧ t.ladders =
      s.ladders ∧ s.Only [] t)

/-- From 0x3 and 0x5 at level FULL: HALT halts at once, STEP lets a halted supervisor run one instruction, after which it is halted as before (shown of ADD), RESUME lets it run;
at level NS a halt in the secure kernel is held until it is taken at the next boundary outside it, or withdrawn and noted. While halted DBG_DATA reads and writes the general
register, pc or control register that DBG_SEL names; at level NS not the secure kernel's. DBG_MDATA reads and writes the word at DBG_MADDR, at level FULL past the MPU as the
secure kernel, at level NS as the MPU lets the non-secure kernel: supervisor, shared and capture SRAM hold what they are given, and every other address, a register or a hole,
does and answers what that level's own access does. Refused with an error and no effect are other masters and level NONE, a running core's data, reserved registers and a
misaligned address (which error is log entry 77). (Rests on 17_lifecycle_identity.md.) -/
def Obligations.DebugUnitControlsTheSupervisor : Prop :=
  (∀ (m : Master) (s : State), s.Reached m R.LIFE_DBG_CTL → m.code = 3 ∨ m.code = 5 → s.fld F.LIFE_DBG_STAT_LEVEL ≠ 0 → s.sup.halted = false → s.fld
      F.LIFE_DBG_STAT_LEVEL = 2 ∨ s.level ≠ 0 → Completes (.dbgHalt m) s fun t => s.Answered m 0 t ∧ t.sup = { s.sup with halted := true, stepping := false } ∧ t.is
      F.LIFE_DBG_STAT_HALT_PEND = false ∧ t.is F.LIFE_DBG_STAT_HALT_TO = false ∧ t.fld F.LIFE_DBG_STAT_LEVEL = s.fld F.LIFE_DBG_STAT_LEVEL ∧ t.gpr = s.gpr ∧ t.cregs =
      s.cregs ∧ t.mem = s.mem ∧ s.Only [R.LIFE_DBG_STAT] t) ∧
  (∀ (m : Master) (s : State), s.Reached m R.LIFE_DBG_CTL → m.code = 3 ∨ m.code = 5 → s.fld F.LIFE_DBG_STAT_LEVEL ≠ 0 → s.sup.halted = false → s.fld
      F.LIFE_DBG_STAT_LEVEL ≠ 2 → s.level = 0 → Completes (.dbgHalt m) s fun t => s.Answered m 0 t ∧ t.sup = s.sup ∧ t.is F.LIFE_DBG_STAT_HALT_PEND = true ∧ t.is
      F.LIFE_DBG_STAT_HALT_TO = false ∧ t.fld F.LIFE_DBG_STAT_LEVEL = s.fld F.LIFE_DBG_STAT_LEVEL ∧ t.gpr = s.gpr ∧ t.cregs = s.cregs ∧ t.mem = s.mem ∧ s.Only
      [R.LIFE_DBG_STAT] t) ∧
  (∀ (m : Master) (s : State), s.Reached m R.LIFE_DBG_CTL → m.code = 3 ∨ m.code = 5 → s.fld F.LIFE_DBG_STAT_LEVEL ≠ 0 → s.sup.halted = true → Completes (.dbgHalt m) s
      fun t => s.Answered m 0 t ∧ t.sup = s.sup ∧ t.gpr = s.gpr ∧ t.cregs = s.cregs ∧ t.mem = s.mem ∧ s.Only [] t) ∧
  (∀ (m : Master) (s : State), s.Reached m R.LIFE_DBG_CTL → m.code ≠ 3 ∧ m.code ≠ 5 ∨ s.fld F.LIFE_DBG_STAT_LEVEL = 0 → Completes (.dbgHalt m) s fun t => s.Answered m 2
      t ∧ t.sup = s.sup ∧ t.gpr = s.gpr ∧ t.cregs = s.cregs ∧ t.mem = s.mem ∧ s.Only [] t) ∧
  (∀ (m : Master) (s : State), s.Reached m R.LIFE_DBG_CTL → m.code ≠ 3 ∧ m.code ≠ 5 ∨ s.fld F.LIFE_DBG_STAT_LEVEL = 0 → Completes (.dbgResume m) s fun t => s.Answered m
      2 t ∧ t.sup = s.sup ∧ t.gpr = s.gpr ∧ t.cregs = s.cregs ∧ t.mem = s.mem ∧ s.Only [] t) ∧
  (∀ (m : Master) (s : State), s.Reached m R.LIFE_DBG_CTL → m.code ≠ 3 ∧ m.code ≠ 5 ∨ s.fld F.LIFE_DBG_STAT_LEVEL = 0 → Completes (.dbgStep m) s fun t => s.Answered m 2
      t ∧ t.sup = s.sup ∧ t.gpr = s.gpr ∧ t.cregs = s.cregs ∧ t.mem = s.mem ∧ s.Only [] t) ∧
  (∀ (s : State), s.is F.LIFE_DBG_STAT_HALT_PEND = true → s.level ≠ 0 → Completes (.dbgHaltTaken) s fun t => t.sup = { s.sup with halted := true, stepping := false } ∧
      t.is F.LIFE_DBG_STAT_HALT_PEND = false ∧ t.is F.LIFE_DBG_STAT_HALT_TO = s.is F.LIFE_DBG_STAT_HALT_TO ∧ t.out = s.out ∧ t.gpr = s.gpr ∧ t.cregs = s.cregs ∧ t.mem =
      s.mem ∧ s.Only [R.LIFE_DBG_STAT] t) ∧
  (∀ (s : State), s.is F.LIFE_DBG_STAT_HALT_PEND = false ∨ s.level = 0 → s.IrqRemembered → Completes (.dbgHaltTaken) s fun t => t = s) ∧
  (∀ (s : State), s.is F.LIFE_DBG_STAT_HALT_PEND = true → Completes (.dbgHaltTimeout) s fun t => t.sup = s.sup ∧ t.is F.LIFE_DBG_STAT_HALT_PEND = false ∧ t.is
      F.LIFE_DBG_STAT_HALT_TO = true ∧ t.out = s.out ∧ t.gpr = s.gpr ∧ t.cregs = s.cregs ∧ t.mem = s.mem ∧ s.Only [R.LIFE_DBG_STAT] t) ∧
  (∀ (s : State), s.is F.LIFE_DBG_STAT_HALT_PEND = false → s.IrqRemembered → Completes (.dbgHaltTimeout) s fun t => t = s) ∧
  (∀ (m : Master) (s : State), s.Reached m R.LIFE_DBG_CTL → m.code = 3 ∨ m.code = 5 → s.fld F.LIFE_DBG_STAT_LEVEL ≠ 0 → Completes (.dbgResume m) s fun t => s.Answered m
      0 t ∧ t.sup = { s.sup with halted := false, stepping := false } ∧ t.gpr = s.gpr ∧ t.cregs = s.cregs ∧ t.mem = s.mem ∧ s.Only [] t) ∧
  (∀ (m : Master) (s : State), s.Reached m R.LIFE_DBG_CTL → m.code = 3 ∨ m.code = 5 → s.fld F.LIFE_DBG_STAT_LEVEL ≠ 0 → Completes (.dbgStep m) s fun t => s.Answered m 0
      t ∧ t.sup = { s.sup with stepping := s.sup.halted || s.sup.stepping } ∧ t.gpr = s.gpr ∧ t.cregs = s.cregs ∧ t.mem = s.mem ∧ s.Only [] t) ∧
  (∀ (m : Master) (r : Fin 16) (s : State), s.Reached m R.LIFE_DBG_DATA → m.code = 3 ∨ m.code = 5 → s.fld F.LIFE_DBG_STAT_LEVEL ≠ 0 → s.sup.halted = true → s.fld
      F.LIFE_DBG_SEL_REG = r.val → Completes (.dbgDataAccess m none) s fun t => s.Returned m 0 (s.g 48 r) t ∧ t.sup = s.sup ∧ t.gpr = s.gpr ∧ t.cregs = s.cregs ∧ t.mem =
      s.mem ∧ s.Only [] t) ∧
  (∀ (m : Master) (s : State), s.Reached m R.LIFE_DBG_DATA → m.code = 3 ∨ m.code = 5 → s.fld F.LIFE_DBG_STAT_LEVEL ≠ 0 → s.sup.halted = true → s.fld F.LIFE_DBG_SEL_REG
      = 16 → Completes (.dbgDataAccess m none) s fun t => s.Returned m 0 s.sup.pc t ∧ t.sup = s.sup ∧ t.gpr = s.gpr ∧ t.cregs = s.cregs ∧ t.mem = s.mem ∧ s.Only [] t) ∧
  (∀ (m : Master) (c : Fin 32) (s : State), s.Reached m R.LIFE_DBG_DATA → m.code = 3 ∨ m.code = 5 → s.fld F.LIFE_DBG_STAT_LEVEL ≠ 0 → s.sup.halted = true → s.fld
      F.LIFE_DBG_SEL_REG = 32 + c.val → c.val ≤ 13 ∨ 16 ≤ c.val ∧ c.val ≤ 19 ∨ c.val = 21 ∨ c.val = 22 → s.fld F.LIFE_DBG_STAT_LEVEL = 2 ∨ ¬ (c.val ≤ 5 ∧ 1 ≤ c.val ∨ c.val
      = 11 ∨ 16 ≤ c.val ∧ c.val ≤ 19) → Completes (.dbgDataAccess m none) s fun t => s.Returned m 0 (s.cregValue c) t ∧ t.sup = s.sup ∧ t.gpr = s.gpr ∧ t.cregs = s.cregs ∧
      t.mem = s.mem ∧ s.Only [] t) ∧
  (∀ (m : Master) (r : Fin 16) (w : Word) (s : State), s.Reached m R.LIFE_DBG_DATA → m.code = 3 ∨ m.code = 5 → s.fld F.LIFE_DBG_STAT_LEVEL ≠ 0 → s.sup.halted = true →
      s.fld F.LIFE_DBG_SEL_REG = r.val → Completes (.dbgDataAccess m (some w)) s fun t => s.Answered m 0 t ∧ t.g 48 r = (if r.val = 0 then 0#32 else w) ∧ (∀ (k : Fin 49)
      (j : Fin 16), k.val ≠ 48 ∨ j ≠ r → t.g k j = s.g k j) ∧ t.sup = s.sup ∧ t.cregs = s.cregs ∧ t.mem = s.mem ∧ s.Only [] t) ∧
  (∀ (m : Master) (w : Word) (s : State), s.Reached m R.LIFE_DBG_DATA → m.code = 3 ∨ m.code = 5 → s.fld F.LIFE_DBG_STAT_LEVEL ≠ 0 → s.sup.halted = true → s.fld
      F.LIFE_DBG_SEL_REG = 16 → Completes (.dbgDataAccess m (some w)) s fun t => s.Answered m 0 t ∧ t.sup = { s.sup with pc := w &&& 0xFFFFFFFC#32 } ∧ t.gpr = s.gpr ∧
      t.cregs = s.cregs ∧ t.mem = s.mem ∧ s.Only [] t) ∧
  (∀ (m : Master) (c : Fin 32) (w : Word) (s : State), s.Reached m R.LIFE_DBG_DATA → m.code = 3 ∨ m.code = 5 → s.fld F.LIFE_DBG_STAT_LEVEL ≠ 0 → s.sup.halted = true →
      s.fld F.LIFE_DBG_SEL_REG = 32 + c.val → c.val ≤ 13 ∨ 16 ≤ c.val ∧ c.val ≤ 19 ∨ c.val = 21 ∨ c.val = 22 → s.fld F.LIFE_DBG_STAT_LEVEL = 2 ∨ ¬ (c.val ≤ 5 ∧ 1 ≤ c.val ∨
      c.val = 11 ∨ 16 ≤ c.val ∧ c.val ≤ 19) → Completes (.dbgDataAccess m (some w)) s fun t => s.Answered m 0 t ∧ t.cregs = (s.cregWriteAt (if s.fld F.LIFE_DBG_STAT_LEVEL
      = 2 then 0 else 1) c w).cregs ∧ t.sup = s.sup ∧ t.gpr = s.gpr ∧ t.mem = s.mem ∧ s.Only [] t) ∧
  (∀ (m : Master) (w : Option Word) (s : State), s.Reached m R.LIFE_DBG_DATA → m.code = 3 ∨ m.code = 5 → s.fld F.LIFE_DBG_STAT_LEVEL ≠ 0 → s.sup.halted = false →
      Completes (.dbgDataAccess m w) s fun t => s.Answered m 1 t ∧ t.sup = s.sup ∧ t.gpr = s.gpr ∧ t.cregs = s.cregs ∧ t.mem = s.mem ∧ s.Only [] t) ∧
  (∀ (m : Master) (w : Option Word) (s : State), s.Reached m R.LIFE_DBG_DATA → m.code = 3 ∨ m.code = 5 → s.fld F.LIFE_DBG_STAT_LEVEL ≠ 0 → s.sup.halted = true → 17 ≤
      s.fld F.LIFE_DBG_SEL_REG → s.fld F.LIFE_DBG_SEL_REG < 32 ∨ s.fld F.LIFE_DBG_SEL_REG = 46 ∨ s.fld F.LIFE_DBG_SEL_REG = 47 ∨ s.fld F.LIFE_DBG_SEL_REG = 52 ∨ 55 ≤ s.fld
      F.LIFE_DBG_SEL_REG → Completes (.dbgDataAccess m w) s fun t => s.Answered m 1 t ∧ t.sup = s.sup ∧ t.gpr = s.gpr ∧ t.cregs = s.cregs ∧ t.mem = s.mem ∧ s.Only [] t) ∧
  (∀ (m : Master) (w : Option Word) (s : State), s.Reached m R.LIFE_DBG_DATA → m.code = 3 ∨ m.code = 5 → s.fld F.LIFE_DBG_STAT_LEVEL ≠ 0 → s.sup.halted = true → s.fld
      F.LIFE_DBG_STAT_LEVEL ≠ 2 → 33 ≤ s.fld F.LIFE_DBG_SEL_REG ∧ s.fld F.LIFE_DBG_SEL_REG ≤ 37 ∨ s.fld F.LIFE_DBG_SEL_REG = 43 ∨ 48 ≤ s.fld F.LIFE_DBG_SEL_REG ∧ s.fld
      F.LIFE_DBG_SEL_REG ≤ 51 → Completes (.dbgDataAccess m w) s fun t => s.Answered m 2 t ∧ t.sup = s.sup ∧ t.gpr = s.gpr ∧ t.cregs = s.cregs ∧ t.mem = s.mem ∧ s.Only []
      t) ∧
  (∀ (m : Master) (w : Option Word) (s : State), s.Reached m R.LIFE_DBG_DATA → m.code ≠ 3 ∧ m.code ≠ 5 ∨ s.fld F.LIFE_DBG_STAT_LEVEL = 0 → Completes (.dbgDataAccess m
      w) s fun t => s.Answered m 2 t ∧ t.sup = s.sup ∧ t.gpr = s.gpr ∧ t.cregs = s.cregs ∧ t.mem = s.mem ∧ s.Only [] t) ∧
  (∀ (m : Master) (s : State), s.Reached m R.LIFE_DBG_MDATA → m.code = 3 ∨ m.code = 5 → s.fld F.LIFE_DBG_STAT_LEVEL ≠ 0 → (s.rd R.LIFE_DBG_MADDR).toNat % 4 = 0 → s.fld
      F.LIFE_DBG_STAT_LEVEL = 2 ∨ s.mpuAllows 1 (s.rd R.LIFE_DBG_MADDR).toNat 0 = true → areaOf (s.rd R.LIFE_DBG_MADDR).toNat = some .sup ∨ areaOf (s.rd
      R.LIFE_DBG_MADDR).toNat = some .shared ∨ areaOf (s.rd R.LIFE_DBG_MADDR).toNat = some .cap → s.Sound (s.rd R.LIFE_DBG_MADDR).toNat → Completes (.dbgMemoryAccess m
      none) s fun t => s.Returned m 0 (BitVec.ofNat 32 (leValue (s.bytesAt (s.rd R.LIFE_DBG_MADDR).toNat 4))) t ∧ t.mem = s.mem ∧ t.sup = s.sup ∧ t.gpr = s.gpr ∧ t.cregs =
      s.cregs ∧ s.Only [] t) ∧
  (∀ (m : Master) (w : Word) (s : State), s.Reached m R.LIFE_DBG_MDATA → m.code = 3 ∨ m.code = 5 → s.fld F.LIFE_DBG_STAT_LEVEL ≠ 0 → (s.rd R.LIFE_DBG_MADDR).toNat % 4 =
      0 → s.fld F.LIFE_DBG_STAT_LEVEL = 2 ∨ s.mpuAllows 1 (s.rd R.LIFE_DBG_MADDR).toNat 1 = true → areaOf (s.rd R.LIFE_DBG_MADDR).toNat = some .sup ∨ areaOf (s.rd
      R.LIFE_DBG_MADDR).toNat = some .shared ∨ areaOf (s.rd R.LIFE_DBG_MADDR).toNat = some .cap → s.Sound (s.rd R.LIFE_DBG_MADDR).toNat → Completes (.dbgMemoryAccess m
      (some w)) s fun t => s.Answered m 0 t ∧ s.Stored (s.rd R.LIFE_DBG_MADDR).toNat 4 w t ∧ t.sup = s.sup ∧ t.gpr = s.gpr ∧ t.cregs = s.cregs ∧ s.Only [] t) ∧
  (∀ (m : Master) (w : Option Word) (s : State), s.Reached m R.LIFE_DBG_MDATA → m.code ≠ 3 ∧ m.code ≠ 5 ∨ s.fld F.LIFE_DBG_STAT_LEVEL = 0 → Completes (.dbgMemoryAccess
      m w) s fun t => s.Answered m 2 t ∧ t.sup = s.sup ∧ t.gpr = s.gpr ∧ t.cregs = s.cregs ∧ t.mem = s.mem ∧ s.Only [] t) ∧
  (∀ (m : Master) (w : Option Word) (s : State), s.Reached m R.LIFE_DBG_MDATA → m.code = 3 ∨ m.code = 5 → s.fld F.LIFE_DBG_STAT_LEVEL ≠ 0 → (s.rd
      R.LIFE_DBG_MADDR).toNat % 4 ≠ 0 → Completes (.dbgMemoryAccess m w) s fun t => s.Answered m 1 t ∧ t.sup = s.sup ∧ t.gpr = s.gpr ∧ t.cregs = s.cregs ∧ t.mem = s.mem ∧
      s.Only [] t) ∧
  (∀ (m : Master) (w : Option Word) (s : State), s.Reached m R.LIFE_DBG_MDATA → m.code = 3 ∨ m.code = 5 → s.fld F.LIFE_DBG_STAT_LEVEL ≠ 0 → (s.rd
      R.LIFE_DBG_MADDR).toNat % 4 = 0 → s.fld F.LIFE_DBG_STAT_LEVEL ≠ 2 → s.mpuAllows 1 (s.rd R.LIFE_DBG_MADDR).toNat (if w = none then 0 else 1) = false → Completes
      (.dbgMemoryAccess m w) s fun t => s.Answered m 2 t ∧ t.sup = s.sup ∧ t.gpr = s.gpr ∧ t.cregs = s.cregs ∧ t.mem = s.mem ∧ s.Only [] t) ∧
  (∀ (m d : Master) (a : Nat) (x : State × ReadRes × List (BitVec 8)) (k : MemRes) (s : State), s.Reached m R.LIFE_DBG_MDATA → m.code = 3 ∨ m.code = 5 → s.fld
      F.LIFE_DBG_STAT_LEVEL ≠ 0 → (s.rd R.LIFE_DBG_MADDR).toNat % 4 = 0 → a = (s.rd R.LIFE_DBG_MADDR).toNat → d = (if s.fld F.LIFE_DBG_STAT_LEVEL = 2 then .supS else
      .supNS) → s.fld F.LIFE_DBG_STAT_LEVEL = 2 ∨ s.mpuAllows 1 a 0 = true → x = s.coreRead d (busReader d) (.port m) a 4 → x.2.1 = some k → Completes (.dbgMemoryAccess m
      none) s fun t => t.out = .response m k.resp.code (leValue x.2.2) :: x.1.out ∧ t.mem = x.1.mem ∧ t.sup = x.1.sup ∧ t.gpr = x.1.gpr ∧ x.1.Only [] t) ∧
  (∀ (m d : Master) (a : Nat) (v : Word) (x : State × MemRes) (s : State), s.Reached m R.LIFE_DBG_MDATA → m.code = 3 ∨ m.code = 5 → s.fld F.LIFE_DBG_STAT_LEVEL ≠ 0 →
      (s.rd R.LIFE_DBG_MADDR).toNat % 4 = 0 → a = (s.rd R.LIFE_DBG_MADDR).toNat → d = (if s.fld F.LIFE_DBG_STAT_LEVEL = 2 then .supS else .supNS) → s.fld
      F.LIFE_DBG_STAT_LEVEL = 2 ∨ s.mpuAllows 1 a 1 = true → x = s.coreWrite d (busReader d) a ((leBytes 4 v.toNat).map some) → Completes (.dbgMemoryAccess m (some v)) s
      fun t => t.out = .response m x.2.resp.code 0 :: x.1.out ∧ t.mem = x.1.mem ∧ t.sup = x.1.sup ∧ t.gpr = x.1.gpr ∧ x.1.Only [] t) ∧
  (∀ (d a b : Fin 16) (s : State), s.domOn 1 = true → s.sup =
      { s.sup with released := true, wfi := false, lockup := false, stall := false, halted := true, stepping := true } → Completes (.add .sup d a b) s fun t => t.reg .sup
      d = written d (s.reg .sup a + s.reg .sup b) ∧ t.sup = { s.sup with pc := s.sup.pc + 4#32, stepping := false } ∧ t.coreOn .sup = false ∧ s.CoreOnly .sup [d.val] t) ∧
  (∀ (d a b : Fin 16) (s : State), s.sup.halted = true → s.sup.stepping = false → s.IrqRemembered → Completes (.add .sup d a b) s fun t => t = s)

/-- For every command, queue and state: the step of the state whose queue is the command followed by the rest is exec of the command on the same state with the rest as its queue.
That commands wait in one queue, first in first out, is the model's form (log entry 1). (Rests on 00_scope.md.) -/
def Obligations.StepRunsTheFrontCommand : Prop :=
 ∀ (c : Instr) (rest : List Instr) (s : State), step { s with pending := c :: rest } = exec c { s with pending := rest }

/-- A step on an empty queue always answers a next state, with the queue empty, the clock one tick on, and the timebase one tick on where it runs and unmoved where it does not;
memory, the cores' registers, the power domains and the mode in force stay. Where the timebase runs and the tables are canonical, the events of the tick are added to each
counter that counts neither ticks nor WAITING, unless FREEZE was in force; FREEZE takes effect as it then stands, and a snapshot that waits copies every counter and the tick.
That a tick is what the empty queue does is the model's choice (log entry 2), and so is where its boundary lies (log entry 124); what a tick does are R38, R327, R333, R385 and
R391 to R393. (Rests on 12_clocks_power_time.md, 02_self_timed_fabric.md, 15_counters.md.) -/
def Obligations.EmptyQueueLetsOneTickPass : Prop :=
 ∀ s : State, s.pending = [] → ∃ t, step s = .next t ∧ t.pending = [] ∧ t.clock = s.clock + 1 ∧
      t.tb = (if s.domOn 1 = true ∧ s.dorm.stopped = false then s.tb + 1#64 else s.tb) ∧
      t.mem = s.mem ∧ t.gpr = s.gpr ∧ t.cregs = s.cregs ∧ t.sup = s.sup ∧ t.rd R.PWR_DOM_STAT = s.rd R.PWR_DOM_STAT ∧
      t.fld F.MODE_STATUS_CURRENT = s.fld F.MODE_STATUS_CURRENT ∧
      (s.Canonical → ∀ i : Fin 32, (s.is (F.PERF_CNT_CTL_EN i) = false ∨ s.is F.MODE_PERSONA_ACTIVE = false ∧ s.fld (F.PERF_CNT_CTL_CLASS i) % 32 ≠ 1 ∧ s.fld (F.PERF_CNT_CTL_CLASS i) % 32 ≠ 7) →
        t.counter i % 2 ^ 48 = (s.counter i + if s.tbRuns && !s.perf.frozen then s.countPart i else 0) % 2 ^ 48) ∧
      (s.tbRuns = true → t.perf.frozen = t.is F.PERF_CTL_FREEZE ∧ t.perf.snap = false) ∧
      (s.tbRuns = true → s.perf.snap = true → t.fld F.PERF_SNAP_TS_LO_TICK = t.tb.toNat % 2 ^ 32 ∧ t.fld F.PERF_STAT_SNAP_SEQ = (s.fld F.PERF_STAT_SNAP_SEQ + 1) % 256 ∧
        ∀ i : Fin 32, t.rd (R.PERF_SNAP_LO i) = t.rd (R.PERF_CNT_LO i) ∧ t.rd (R.PERF_SNAP_HI i) = t.rd (R.PERF_CNT_HI i))

/-- Right after the power-on reset every table is in canonical form and no due interrupt is forgotten; the queue is empty, the supervisor is held, the mode is Standby with no
transition, memory is not filled and lists nothing, the lane domains are off and clamped, no fault is active, the timebase is 0, and so is every general register of every
core. That memory that nothing has written reads 0 is the model's choice (log entry 4). (Rests on 12_clocks_power_time.md, 01_operating_modes.md,
13_memory_integrity_selftest.md, 18_register_map.md.) -/
def Obligations.ResetMeetsTheInvariants : Prop :=
 State.reset.Canonical ∧ State.reset.IrqRemembered ∧ State.reset.pending = [] ∧ State.reset.sup.released = false ∧
      State.reset.fld F.MODE_STATUS_CURRENT = 1 ∧ State.reset.is F.MODE_STATUS_BUSY = false ∧ State.reset.is F.MEMX_STAT_FILLED = false ∧
      State.reset.mem = [] ∧ (∀ d : Fin 12, State.reset.domOn (2 + d) = false ∧ bitAt (State.reset.fld F.PWR_ISO_STAT_CLAMPED) (2 + d) = true) ∧
      State.reset.domOn 0 = true ∧ State.reset.domOn 1 = true ∧ State.reset.fld F.FAULT_DEV_ACTIVE_CLASS = 0 ∧ State.reset.tb = 0#64 ∧
      (∀ (k : Core) (r : Fin 16), State.reset.reg k r = 0#32)

/-- From every state whose tables have strictly rising keys and no entry equal to what an unlisted key reads as, a step leads to such a state: equal memories and equal register
files stay equal data through every command and tick. (Rests on 13_memory_integrity_selftest.md, 18_register_map.md.) -/
def Obligations.EveryStepKeepsTheCanonicalForm : Prop :=
 ∀ s t : State, s.Canonical → step s = .next t → t.Canonical

/-- Whatever state a step starts from, in the state it leads to each vector whose source is raised and enabled and whose last message is not in service is marked as due, so that
it is issued even if its condition falls back before. (Rests on 10_lane_programs_supervisor.md.) -/
def Obligations.EveryStepRemembersDueInterrupts : Prop :=
 ∀ s t : State, step s = .next t → t.IrqRemembered

/-- For every state: a well-formed command answers a next state, in which the queue and every part outside the command's list are as before; one that is not well-formed is a
fault, named malformed, and nothing else stops. That fault is the interface's choice (log entry 7), no rule of the spec. (Rests on 00_scope.md, 18_register_map.md.) -/
def Obligations.CommandsCompleteAndChangeOnlyTheirParts : Prop :=
 ∀ (c : Instr) (s : State),
      (c.wellFormed = true → ∃ t, exec c s = .next t ∧ t.pending = s.pending ∧ ∀ p : Part, p ∉ c.mayChange → State.Same p s t) ∧
      (c.wellFormed = false → exec c s = .fault .malformed)
end

