-- ==== Sys2Proof/Laws/Sparse.lean ====
section
/-! SUPPORT. Sys2Proof/Laws/Sparse.lean: reads, writes and the canonical form of sparse tables. The read laws hold of every list; only the canonical form
needs the premise that the table had it. -/

namespace Sys2Proof.Machine

section
variable {α : Type} {dflt : Nat → α}

/-- A table that lists no pair of a key reads its unlisted value there. -/
theorem tabGet_unlisted (m : List (Nat × α)) (a : Nat) (h : ∀ c ∈ m, c.1 ≠ a) : tabGet dflt m a = dflt a := by
  induction m with
  | nil => rfl
  | cons c m ih =>
    rw [tabGet, if_neg (Ne.symm (h c List.mem_cons_self)), ih fun d hd => h d (List.mem_cons_of_mem _ hd)]

/-- Pairs whose key fails a test leave the reads of the other keys. -/
theorem tabGet_filter (p : Nat → Bool) (m : List (Nat × α)) (a : Nat) (h : p a = true) :
    tabGet dflt (m.filter fun c => p c.1) a = tabGet dflt m a := by
  induction m with
  | nil => rfl
  | cons c m ih =>
    by_cases hc : p c.1 = true
    · rw [List.filter_cons_of_pos (by exact hc), tabGet, tabGet, ih]
    · have : a ≠ c.1 := fun e => hc (e ▸ h)
      rw [List.filter_cons_of_neg (by exact hc), ih, tabGet, if_neg this]

theorem tabGet_insert_same (m : List (Nat × α)) (a : Nat) (v : α) (h : ∀ c ∈ m, c.1 ≠ a) :
    tabGet dflt (tabInsert m a v) a = v := by
  induction m with
  | nil => simp [tabInsert, tabGet]
  | cons c m ih =>
    rw [tabInsert]
    split
    · simp [tabGet]
    · rw [tabGet, if_neg (Ne.symm (h c List.mem_cons_self)), ih fun d hd => h d (List.mem_cons_of_mem _ hd)]

theorem tabGet_insert_ne (m : List (Nat × α)) {a b : Nat} (v : α) (h : b ≠ a) :
    tabGet dflt (tabInsert m a v) b = tabGet dflt m b := by
  induction m with
  | nil => simp [tabInsert, tabGet, h]
  | cons c m ih =>
    rw [tabInsert]
    split
    · rw [tabGet, if_neg h]
    · rw [tabGet, tabGet, ih]

/-- A clear puts the keys of its test back at their unlisted values. -/
theorem tabGet_clear (p : Nat → Bool) (m : List (Nat × α)) (a : Nat) :
    tabGet dflt (tabClear p m) a = if p a then dflt a else tabGet dflt m a := by
  unfold tabClear
  split
  · exact tabGet_unlisted _ _ fun c hc e => by have := (List.mem_filter.1 hc).2; simp_all
  · exact tabGet_filter (fun k => !p k) m a (by simp_all)

variable [DecidableEq α]

/-- A read after a write: the written value at its key, the old value at every other. -/
theorem tabGet_put (m : List (Nat × α)) (a b : Nat) (v : α) :
    tabGet dflt (tabPut dflt m a v) b = if b = a then v else tabGet dflt m b := by
  have drop : ∀ c ∈ m.filter (fun c => c.1 != a), c.1 ≠ a := fun c hc => by simpa using (List.mem_filter.1 hc).2
  have keep (h : b ≠ a) : tabGet dflt (m.filter fun c => c.1 != a) b = tabGet dflt m b :=
    tabGet_filter (fun k => k != a) m b (by simpa using h)
  unfold tabPut
  split <;> split
  · subst_vars; rw [tabGet_unlisted _ _ drop]
  · exact keep ‹_›
  · subst_vars; exact tabGet_insert_same _ _ _ drop
  · rw [tabGet_insert_ne _ _ ‹_›]; exact keep ‹_›

/-! ## The canonical form -/

theorem tabWfFrom_mono (m : List (Nat × α)) {lo hi : Nat} (h : lo ≤ hi) (w : tabWfFrom dflt hi m = true) : tabWfFrom dflt lo m = true := by
  cases m with
  | nil => rfl
  | cons c m =>
    simp only [tabWfFrom, Bool.and_eq_true, decide_eq_true_eq] at *
    exact ⟨⟨Nat.le_trans h w.1.1, w.1.2⟩, w.2⟩

theorem tabWfFrom_filter (p : Nat × α → Bool) (m : List (Nat × α)) (lo : Nat) (w : tabWfFrom dflt lo m = true) :
    tabWfFrom dflt lo (m.filter p) = true := by
  induction m generalizing lo with
  | nil => rfl
  | cons c m ih =>
    simp only [tabWfFrom, Bool.and_eq_true, decide_eq_true_eq] at w
    have t := ih _ w.2
    by_cases hc : p c = true
    · rw [List.filter_cons_of_pos hc]
      simp only [tabWfFrom, Bool.and_eq_true, decide_eq_true_eq]
      exact ⟨w.1, t⟩
    · rw [List.filter_cons_of_neg hc]
      exact tabWfFrom_mono _ (Nat.le_succ_of_le w.1.1) t

theorem tabWfFrom_insert (m : List (Nat × α)) {lo a : Nat} {v : α} (w : tabWfFrom dflt lo m = true) (hl : lo ≤ a) (hv : v ≠ dflt a)
    (h : ∀ c ∈ m, c.1 ≠ a) : tabWfFrom dflt lo (tabInsert m a v) = true := by
  induction m generalizing lo with
  | nil => simp [tabInsert, tabWfFrom, hl, hv]
  | cons c m ih =>
    simp only [tabWfFrom, Bool.and_eq_true, decide_eq_true_eq] at w
    have hc : c.1 ≠ a := h c List.mem_cons_self
    rw [tabInsert]
    split
    · simp only [tabWfFrom, Bool.and_eq_true, decide_eq_true_eq]
      exact ⟨⟨hl, hv⟩, ⟨by omega, w.1.2⟩, w.2⟩
    · simp only [tabWfFrom, Bool.and_eq_true, decide_eq_true_eq]
      exact ⟨w.1, ih w.2 (by omega) fun d hd => h d (List.mem_cons_of_mem _ hd)⟩

theorem tabWf_nil : tabWf dflt [] = true := rfl

/-- A write keeps the canonical form. -/
theorem tabWf_put (m : List (Nat × α)) (a : Nat) (v : α) (w : tabWf dflt m = true) : tabWf dflt (tabPut dflt m a v) = true := by
  have f := tabWfFrom_filter (fun c => c.1 != a) m 0 w
  unfold tabPut tabWf
  split
  · exact f
  · exact tabWfFrom_insert _ f (Nat.zero_le _) ‹_› fun c hc => by simpa using (List.mem_filter.1 hc).2

/-- A clear keeps the canonical form. -/
theorem tabWf_clear (p : Nat → Bool) (m : List (Nat × α)) (w : tabWf dflt m = true) : tabWf dflt (tabClear p m) = true :=
  tabWfFrom_filter _ m 0 w

/-- A run of writes keeps the canonical form. -/
theorem tabWf_putAll (vs : List α) (m : List (Nat × α)) (a : Nat) (w : tabWf dflt m = true) : tabWf dflt (tabPutAll dflt m a vs) = true := by
  induction vs generalizing m a with
  | nil => exact w
  | cons v vs ih => exact ih _ _ (tabWf_put m a v w)

/-- A read after a run of writes. -/
theorem tabGet_putAll (vs : List α) (m : List (Nat × α)) (a b : Nat) :
    tabGet dflt (tabPutAll dflt m a vs) b = if a ≤ b then (vs[b - a]?).getD (tabGet dflt m b) else tabGet dflt m b := by
  induction vs generalizing m a with
  | nil => simp [tabPutAll]
  | cons v vs ih =>
    rw [tabPutAll, ih, tabGet_put]
    by_cases h : a ≤ b
    · rcases Nat.eq_or_lt_of_le h with rfl | h'
      · rw [if_neg (by omega)]; simp
      · have e : b - a = (b - (a + 1)) + 1 := by omega
        rw [if_pos (show a + 1 ≤ b by omega), if_pos h, if_neg (show ¬ b = a by omega), e, List.getElem?_cons_succ]
    · rw [if_neg (show ¬ a + 1 ≤ b by omega), if_neg (show ¬ b = a by omega), if_neg h]

end

end Sys2Proof.Machine
end

