-- ==== Sys2Proof/Laws/State.lean ====
section
/-! SUPPORT. Sys2Proof/Laws/State.lean: each update of State, one lemma per field, so that no later proof unfolds a record update. -/

namespace Sys2Proof.Machine

variable (s : State)

/-! ## wr -/

@[simp] theorem State.wr_pending (a : Nat) (w : Word) : (s.wr a w).pending = s.pending := rfl
@[simp] theorem State.wr_regs (a : Nat) (w : Word) : (s.wr a w).regs = tabPut regReset s.regs a w := rfl
@[simp] theorem State.wr_lanes (a : Nat) (w : Word) : (s.wr a w).lanes = s.lanes := rfl
@[simp] theorem State.wr_seqs (a : Nat) (w : Word) : (s.wr a w).seqs = s.seqs := rfl
@[simp] theorem State.wr_gpr (a : Nat) (w : Word) : (s.wr a w).gpr = s.gpr := rfl
@[simp] theorem State.wr_sup (a : Nat) (w : Word) : (s.wr a w).sup = s.sup := rfl
@[simp] theorem State.wr_cregs (a : Nat) (w : Word) : (s.wr a w).cregs = s.cregs := rfl
@[simp] theorem State.wr_chans (a : Nat) (w : Word) : (s.wr a w).chans = s.chans := rfl
@[simp] theorem State.wr_ladders (a : Nat) (w : Word) : (s.wr a w).ladders = s.ladders := rfl
@[simp] theorem State.wr_faultLog (a : Nat) (w : Word) : (s.wr a w).faultLog = s.faultLog := rfl
@[simp] theorem State.wr_shutdown (a : Nat) (w : Word) : (s.wr a w).shutdown = s.shutdown := rfl
@[simp] theorem State.wr_fab (a : Nat) (w : Word) : (s.wr a w).fab = s.fab := rfl
@[simp] theorem State.wr_clk (a : Nat) (w : Word) : (s.wr a w).clk = s.clk := rfl
@[simp] theorem State.wr_integ (a : Nat) (w : Word) : (s.wr a w).integ = s.integ := rfl
@[simp] theorem State.wr_mons (a : Nat) (w : Word) : (s.wr a w).mons = s.mons := rfl
@[simp] theorem State.wr_monAt (a : Nat) (w : Word) : (s.wr a w).monAt = s.monAt := rfl
@[simp] theorem State.wr_therm (a : Nat) (w : Word) : (s.wr a w).therm = s.therm := rfl
@[simp] theorem State.wr_perf (a : Nat) (w : Word) : (s.wr a w).perf = s.perf := rfl
@[simp] theorem State.wr_life (a : Nat) (w : Word) : (s.wr a w).life = s.life := rfl
@[simp] theorem State.wr_dma (a : Nat) (w : Word) : (s.wr a w).dma = s.dma := rfl
@[simp] theorem State.wr_pcie (a : Nat) (w : Word) : (s.wr a w).pcie = s.pcie := rfl
@[simp] theorem State.wr_smp (a : Nat) (w : Word) : (s.wr a w).smp = s.smp := rfl
@[simp] theorem State.wr_tow (a : Nat) (w : Word) : (s.wr a w).tow = s.tow := rfl
@[simp] theorem State.wr_flash (a : Nat) (w : Word) : (s.wr a w).flash = s.flash := rfl
@[simp] theorem State.wr_trans (a : Nat) (w : Word) : (s.wr a w).trans = s.trans := rfl
@[simp] theorem State.wr_dorm (a : Nat) (w : Word) : (s.wr a w).dorm = s.dorm := rfl
@[simp] theorem State.wr_pins (a : Nat) (w : Word) : (s.wr a w).pins = s.pins := rfl
@[simp] theorem State.wr_supply (a : Nat) (w : Word) : (s.wr a w).supply = s.supply := rfl
@[simp] theorem State.wr_clock (a : Nat) (w : Word) : (s.wr a w).clock = s.clock := rfl
@[simp] theorem State.wr_tb (a : Nat) (w : Word) : (s.wr a w).tb = s.tb := rfl
@[simp] theorem State.wr_latch (a : Nat) (w : Word) : (s.wr a w).latch = s.latch := rfl
@[simp] theorem State.wr_msixDue (a : Nat) (w : Word) : (s.wr a w).msixDue = s.msixDue := rfl
@[simp] theorem State.wr_mem (a : Nat) (w : Word) : (s.wr a w).mem = s.mem := rfl
@[simp] theorem State.wr_free (a : Nat) (w : Word) : (s.wr a w).free = s.free := rfl
@[simp] theorem State.wr_out (a : Nat) (w : Word) : (s.wr a w).out = s.out := rfl

/-! ## setFld -/

@[simp] theorem State.setFld_pending (f : Fld) (v : Nat) : (s.setFld f v).pending = s.pending := rfl
@[simp] theorem State.setFld_lanes (f : Fld) (v : Nat) : (s.setFld f v).lanes = s.lanes := rfl
@[simp] theorem State.setFld_seqs (f : Fld) (v : Nat) : (s.setFld f v).seqs = s.seqs := rfl
@[simp] theorem State.setFld_gpr (f : Fld) (v : Nat) : (s.setFld f v).gpr = s.gpr := rfl
@[simp] theorem State.setFld_sup (f : Fld) (v : Nat) : (s.setFld f v).sup = s.sup := rfl
@[simp] theorem State.setFld_cregs (f : Fld) (v : Nat) : (s.setFld f v).cregs = s.cregs := rfl
@[simp] theorem State.setFld_chans (f : Fld) (v : Nat) : (s.setFld f v).chans = s.chans := rfl
@[simp] theorem State.setFld_ladders (f : Fld) (v : Nat) : (s.setFld f v).ladders = s.ladders := rfl
@[simp] theorem State.setFld_faultLog (f : Fld) (v : Nat) : (s.setFld f v).faultLog = s.faultLog := rfl
@[simp] theorem State.setFld_shutdown (f : Fld) (v : Nat) : (s.setFld f v).shutdown = s.shutdown := rfl
@[simp] theorem State.setFld_fab (f : Fld) (v : Nat) : (s.setFld f v).fab = s.fab := rfl
@[simp] theorem State.setFld_clk (f : Fld) (v : Nat) : (s.setFld f v).clk = s.clk := rfl
@[simp] theorem State.setFld_integ (f : Fld) (v : Nat) : (s.setFld f v).integ = s.integ := rfl
@[simp] theorem State.setFld_mons (f : Fld) (v : Nat) : (s.setFld f v).mons = s.mons := rfl
@[simp] theorem State.setFld_monAt (f : Fld) (v : Nat) : (s.setFld f v).monAt = s.monAt := rfl
@[simp] theorem State.setFld_therm (f : Fld) (v : Nat) : (s.setFld f v).therm = s.therm := rfl
@[simp] theorem State.setFld_perf (f : Fld) (v : Nat) : (s.setFld f v).perf = s.perf := rfl
@[simp] theorem State.setFld_life (f : Fld) (v : Nat) : (s.setFld f v).life = s.life := rfl
@[simp] theorem State.setFld_dma (f : Fld) (v : Nat) : (s.setFld f v).dma = s.dma := rfl
@[simp] theorem State.setFld_pcie (f : Fld) (v : Nat) : (s.setFld f v).pcie = s.pcie := rfl
@[simp] theorem State.setFld_smp (f : Fld) (v : Nat) : (s.setFld f v).smp = s.smp := rfl
@[simp] theorem State.setFld_tow (f : Fld) (v : Nat) : (s.setFld f v).tow = s.tow := rfl
@[simp] theorem State.setFld_flash (f : Fld) (v : Nat) : (s.setFld f v).flash = s.flash := rfl
@[simp] theorem State.setFld_trans (f : Fld) (v : Nat) : (s.setFld f v).trans = s.trans := rfl
@[simp] theorem State.setFld_dorm (f : Fld) (v : Nat) : (s.setFld f v).dorm = s.dorm := rfl
@[simp] theorem State.setFld_pins (f : Fld) (v : Nat) : (s.setFld f v).pins = s.pins := rfl
@[simp] theorem State.setFld_supply (f : Fld) (v : Nat) : (s.setFld f v).supply = s.supply := rfl
@[simp] theorem State.setFld_clock (f : Fld) (v : Nat) : (s.setFld f v).clock = s.clock := rfl
@[simp] theorem State.setFld_tb (f : Fld) (v : Nat) : (s.setFld f v).tb = s.tb := rfl
@[simp] theorem State.setFld_latch (f : Fld) (v : Nat) : (s.setFld f v).latch = s.latch := rfl
@[simp] theorem State.setFld_msixDue (f : Fld) (v : Nat) : (s.setFld f v).msixDue = s.msixDue := rfl
@[simp] theorem State.setFld_mem (f : Fld) (v : Nat) : (s.setFld f v).mem = s.mem := rfl
@[simp] theorem State.setFld_free (f : Fld) (v : Nat) : (s.setFld f v).free = s.free := rfl
@[simp] theorem State.setFld_out (f : Fld) (v : Nat) : (s.setFld f v).out = s.out := rfl

/-! ## put -/

@[simp] theorem State.put_pending (f : Fld) (b : Bool) : (s.put f b).pending = s.pending := rfl
@[simp] theorem State.put_lanes (f : Fld) (b : Bool) : (s.put f b).lanes = s.lanes := rfl
@[simp] theorem State.put_seqs (f : Fld) (b : Bool) : (s.put f b).seqs = s.seqs := rfl
@[simp] theorem State.put_gpr (f : Fld) (b : Bool) : (s.put f b).gpr = s.gpr := rfl
@[simp] theorem State.put_sup (f : Fld) (b : Bool) : (s.put f b).sup = s.sup := rfl
@[simp] theorem State.put_cregs (f : Fld) (b : Bool) : (s.put f b).cregs = s.cregs := rfl
@[simp] theorem State.put_chans (f : Fld) (b : Bool) : (s.put f b).chans = s.chans := rfl
@[simp] theorem State.put_ladders (f : Fld) (b : Bool) : (s.put f b).ladders = s.ladders := rfl
@[simp] theorem State.put_faultLog (f : Fld) (b : Bool) : (s.put f b).faultLog = s.faultLog := rfl
@[simp] theorem State.put_shutdown (f : Fld) (b : Bool) : (s.put f b).shutdown = s.shutdown := rfl
@[simp] theorem State.put_fab (f : Fld) (b : Bool) : (s.put f b).fab = s.fab := rfl
@[simp] theorem State.put_clk (f : Fld) (b : Bool) : (s.put f b).clk = s.clk := rfl
@[simp] theorem State.put_integ (f : Fld) (b : Bool) : (s.put f b).integ = s.integ := rfl
@[simp] theorem State.put_mons (f : Fld) (b : Bool) : (s.put f b).mons = s.mons := rfl
@[simp] theorem State.put_monAt (f : Fld) (b : Bool) : (s.put f b).monAt = s.monAt := rfl
@[simp] theorem State.put_therm (f : Fld) (b : Bool) : (s.put f b).therm = s.therm := rfl
@[simp] theorem State.put_perf (f : Fld) (b : Bool) : (s.put f b).perf = s.perf := rfl
@[simp] theorem State.put_life (f : Fld) (b : Bool) : (s.put f b).life = s.life := rfl
@[simp] theorem State.put_dma (f : Fld) (b : Bool) : (s.put f b).dma = s.dma := rfl
@[simp] theorem State.put_pcie (f : Fld) (b : Bool) : (s.put f b).pcie = s.pcie := rfl
@[simp] theorem State.put_smp (f : Fld) (b : Bool) : (s.put f b).smp = s.smp := rfl
@[simp] theorem State.put_tow (f : Fld) (b : Bool) : (s.put f b).tow = s.tow := rfl
@[simp] theorem State.put_flash (f : Fld) (b : Bool) : (s.put f b).flash = s.flash := rfl
@[simp] theorem State.put_trans (f : Fld) (b : Bool) : (s.put f b).trans = s.trans := rfl
@[simp] theorem State.put_dorm (f : Fld) (b : Bool) : (s.put f b).dorm = s.dorm := rfl
@[simp] theorem State.put_pins (f : Fld) (b : Bool) : (s.put f b).pins = s.pins := rfl
@[simp] theorem State.put_supply (f : Fld) (b : Bool) : (s.put f b).supply = s.supply := rfl
@[simp] theorem State.put_clock (f : Fld) (b : Bool) : (s.put f b).clock = s.clock := rfl
@[simp] theorem State.put_tb (f : Fld) (b : Bool) : (s.put f b).tb = s.tb := rfl
@[simp] theorem State.put_latch (f : Fld) (b : Bool) : (s.put f b).latch = s.latch := rfl
@[simp] theorem State.put_msixDue (f : Fld) (b : Bool) : (s.put f b).msixDue = s.msixDue := rfl
@[simp] theorem State.put_mem (f : Fld) (b : Bool) : (s.put f b).mem = s.mem := rfl
@[simp] theorem State.put_free (f : Fld) (b : Bool) : (s.put f b).free = s.free := rfl
@[simp] theorem State.put_out (f : Fld) (b : Bool) : (s.put f b).out = s.out := rfl

/-! ## bump -/

@[simp] theorem State.bump_pending (f : Fld) (n : Nat) : (s.bump f n).pending = s.pending := rfl
@[simp] theorem State.bump_lanes (f : Fld) (n : Nat) : (s.bump f n).lanes = s.lanes := rfl
@[simp] theorem State.bump_seqs (f : Fld) (n : Nat) : (s.bump f n).seqs = s.seqs := rfl
@[simp] theorem State.bump_gpr (f : Fld) (n : Nat) : (s.bump f n).gpr = s.gpr := rfl
@[simp] theorem State.bump_sup (f : Fld) (n : Nat) : (s.bump f n).sup = s.sup := rfl
@[simp] theorem State.bump_cregs (f : Fld) (n : Nat) : (s.bump f n).cregs = s.cregs := rfl
@[simp] theorem State.bump_chans (f : Fld) (n : Nat) : (s.bump f n).chans = s.chans := rfl
@[simp] theorem State.bump_ladders (f : Fld) (n : Nat) : (s.bump f n).ladders = s.ladders := rfl
@[simp] theorem State.bump_faultLog (f : Fld) (n : Nat) : (s.bump f n).faultLog = s.faultLog := rfl
@[simp] theorem State.bump_shutdown (f : Fld) (n : Nat) : (s.bump f n).shutdown = s.shutdown := rfl
@[simp] theorem State.bump_fab (f : Fld) (n : Nat) : (s.bump f n).fab = s.fab := rfl
@[simp] theorem State.bump_clk (f : Fld) (n : Nat) : (s.bump f n).clk = s.clk := rfl
@[simp] theorem State.bump_integ (f : Fld) (n : Nat) : (s.bump f n).integ = s.integ := rfl
@[simp] theorem State.bump_mons (f : Fld) (n : Nat) : (s.bump f n).mons = s.mons := rfl
@[simp] theorem State.bump_monAt (f : Fld) (n : Nat) : (s.bump f n).monAt = s.monAt := rfl
@[simp] theorem State.bump_therm (f : Fld) (n : Nat) : (s.bump f n).therm = s.therm := rfl
@[simp] theorem State.bump_perf (f : Fld) (n : Nat) : (s.bump f n).perf = s.perf := rfl
@[simp] theorem State.bump_life (f : Fld) (n : Nat) : (s.bump f n).life = s.life := rfl
@[simp] theorem State.bump_dma (f : Fld) (n : Nat) : (s.bump f n).dma = s.dma := rfl
@[simp] theorem State.bump_pcie (f : Fld) (n : Nat) : (s.bump f n).pcie = s.pcie := rfl
@[simp] theorem State.bump_smp (f : Fld) (n : Nat) : (s.bump f n).smp = s.smp := rfl
@[simp] theorem State.bump_tow (f : Fld) (n : Nat) : (s.bump f n).tow = s.tow := rfl
@[simp] theorem State.bump_flash (f : Fld) (n : Nat) : (s.bump f n).flash = s.flash := rfl
@[simp] theorem State.bump_trans (f : Fld) (n : Nat) : (s.bump f n).trans = s.trans := rfl
@[simp] theorem State.bump_dorm (f : Fld) (n : Nat) : (s.bump f n).dorm = s.dorm := rfl
@[simp] theorem State.bump_pins (f : Fld) (n : Nat) : (s.bump f n).pins = s.pins := rfl
@[simp] theorem State.bump_supply (f : Fld) (n : Nat) : (s.bump f n).supply = s.supply := rfl
@[simp] theorem State.bump_clock (f : Fld) (n : Nat) : (s.bump f n).clock = s.clock := rfl
@[simp] theorem State.bump_tb (f : Fld) (n : Nat) : (s.bump f n).tb = s.tb := rfl
@[simp] theorem State.bump_latch (f : Fld) (n : Nat) : (s.bump f n).latch = s.latch := rfl
@[simp] theorem State.bump_msixDue (f : Fld) (n : Nat) : (s.bump f n).msixDue = s.msixDue := rfl
@[simp] theorem State.bump_mem (f : Fld) (n : Nat) : (s.bump f n).mem = s.mem := rfl
@[simp] theorem State.bump_free (f : Fld) (n : Nat) : (s.bump f n).free = s.free := rfl
@[simp] theorem State.bump_out (f : Fld) (n : Nat) : (s.bump f n).out = s.out := rfl

/-! ## incr -/

@[simp] theorem State.incr_pending (f : Fld) : (s.incr f).pending = s.pending := rfl
@[simp] theorem State.incr_lanes (f : Fld) : (s.incr f).lanes = s.lanes := rfl
@[simp] theorem State.incr_seqs (f : Fld) : (s.incr f).seqs = s.seqs := rfl
@[simp] theorem State.incr_gpr (f : Fld) : (s.incr f).gpr = s.gpr := rfl
@[simp] theorem State.incr_sup (f : Fld) : (s.incr f).sup = s.sup := rfl
@[simp] theorem State.incr_cregs (f : Fld) : (s.incr f).cregs = s.cregs := rfl
@[simp] theorem State.incr_chans (f : Fld) : (s.incr f).chans = s.chans := rfl
@[simp] theorem State.incr_ladders (f : Fld) : (s.incr f).ladders = s.ladders := rfl
@[simp] theorem State.incr_faultLog (f : Fld) : (s.incr f).faultLog = s.faultLog := rfl
@[simp] theorem State.incr_shutdown (f : Fld) : (s.incr f).shutdown = s.shutdown := rfl
@[simp] theorem State.incr_fab (f : Fld) : (s.incr f).fab = s.fab := rfl
@[simp] theorem State.incr_clk (f : Fld) : (s.incr f).clk = s.clk := rfl
@[simp] theorem State.incr_integ (f : Fld) : (s.incr f).integ = s.integ := rfl
@[simp] theorem State.incr_mons (f : Fld) : (s.incr f).mons = s.mons := rfl
@[simp] theorem State.incr_monAt (f : Fld) : (s.incr f).monAt = s.monAt := rfl
@[simp] theorem State.incr_therm (f : Fld) : (s.incr f).therm = s.therm := rfl
@[simp] theorem State.incr_perf (f : Fld) : (s.incr f).perf = s.perf := rfl
@[simp] theorem State.incr_life (f : Fld) : (s.incr f).life = s.life := rfl
@[simp] theorem State.incr_dma (f : Fld) : (s.incr f).dma = s.dma := rfl
@[simp] theorem State.incr_pcie (f : Fld) : (s.incr f).pcie = s.pcie := rfl
@[simp] theorem State.incr_smp (f : Fld) : (s.incr f).smp = s.smp := rfl
@[simp] theorem State.incr_tow (f : Fld) : (s.incr f).tow = s.tow := rfl
@[simp] theorem State.incr_flash (f : Fld) : (s.incr f).flash = s.flash := rfl
@[simp] theorem State.incr_trans (f : Fld) : (s.incr f).trans = s.trans := rfl
@[simp] theorem State.incr_dorm (f : Fld) : (s.incr f).dorm = s.dorm := rfl
@[simp] theorem State.incr_pins (f : Fld) : (s.incr f).pins = s.pins := rfl
@[simp] theorem State.incr_supply (f : Fld) : (s.incr f).supply = s.supply := rfl
@[simp] theorem State.incr_clock (f : Fld) : (s.incr f).clock = s.clock := rfl
@[simp] theorem State.incr_tb (f : Fld) : (s.incr f).tb = s.tb := rfl
@[simp] theorem State.incr_latch (f : Fld) : (s.incr f).latch = s.latch := rfl
@[simp] theorem State.incr_msixDue (f : Fld) : (s.incr f).msixDue = s.msixDue := rfl
@[simp] theorem State.incr_mem (f : Fld) : (s.incr f).mem = s.mem := rfl
@[simp] theorem State.incr_free (f : Fld) : (s.incr f).free = s.free := rfl
@[simp] theorem State.incr_out (f : Fld) : (s.incr f).out = s.out := rfl

/-! ## emit -/

@[simp] theorem State.emit_pending (o : Out) : (s.emit o).pending = s.pending := rfl
@[simp] theorem State.emit_regs (o : Out) : (s.emit o).regs = s.regs := rfl
@[simp] theorem State.emit_lanes (o : Out) : (s.emit o).lanes = s.lanes := rfl
@[simp] theorem State.emit_seqs (o : Out) : (s.emit o).seqs = s.seqs := rfl
@[simp] theorem State.emit_gpr (o : Out) : (s.emit o).gpr = s.gpr := rfl
@[simp] theorem State.emit_sup (o : Out) : (s.emit o).sup = s.sup := rfl
@[simp] theorem State.emit_cregs (o : Out) : (s.emit o).cregs = s.cregs := rfl
@[simp] theorem State.emit_chans (o : Out) : (s.emit o).chans = s.chans := rfl
@[simp] theorem State.emit_ladders (o : Out) : (s.emit o).ladders = s.ladders := rfl
@[simp] theorem State.emit_faultLog (o : Out) : (s.emit o).faultLog = s.faultLog := rfl
@[simp] theorem State.emit_shutdown (o : Out) : (s.emit o).shutdown = s.shutdown := rfl
@[simp] theorem State.emit_fab (o : Out) : (s.emit o).fab = s.fab := rfl
@[simp] theorem State.emit_clk (o : Out) : (s.emit o).clk = s.clk := rfl
@[simp] theorem State.emit_integ (o : Out) : (s.emit o).integ = s.integ := rfl
@[simp] theorem State.emit_mons (o : Out) : (s.emit o).mons = s.mons := rfl
@[simp] theorem State.emit_monAt (o : Out) : (s.emit o).monAt = s.monAt := rfl
@[simp] theorem State.emit_therm (o : Out) : (s.emit o).therm = s.therm := rfl
@[simp] theorem State.emit_perf (o : Out) : (s.emit o).perf = s.perf := rfl
@[simp] theorem State.emit_life (o : Out) : (s.emit o).life = s.life := rfl
@[simp] theorem State.emit_dma (o : Out) : (s.emit o).dma = s.dma := rfl
@[simp] theorem State.emit_pcie (o : Out) : (s.emit o).pcie = s.pcie := rfl
@[simp] theorem State.emit_smp (o : Out) : (s.emit o).smp = s.smp := rfl
@[simp] theorem State.emit_tow (o : Out) : (s.emit o).tow = s.tow := rfl
@[simp] theorem State.emit_flash (o : Out) : (s.emit o).flash = s.flash := rfl
@[simp] theorem State.emit_trans (o : Out) : (s.emit o).trans = s.trans := rfl
@[simp] theorem State.emit_dorm (o : Out) : (s.emit o).dorm = s.dorm := rfl
@[simp] theorem State.emit_pins (o : Out) : (s.emit o).pins = s.pins := rfl
@[simp] theorem State.emit_supply (o : Out) : (s.emit o).supply = s.supply := rfl
@[simp] theorem State.emit_clock (o : Out) : (s.emit o).clock = s.clock := rfl
@[simp] theorem State.emit_tb (o : Out) : (s.emit o).tb = s.tb := rfl
@[simp] theorem State.emit_latch (o : Out) : (s.emit o).latch = s.latch := rfl
@[simp] theorem State.emit_msixDue (o : Out) : (s.emit o).msixDue = s.msixDue := rfl
@[simp] theorem State.emit_mem (o : Out) : (s.emit o).mem = s.mem := rfl
@[simp] theorem State.emit_free (o : Out) : (s.emit o).free = s.free := rfl
@[simp] theorem State.emit_out (o : Out) : (s.emit o).out = o :: s.out := rfl
@[simp] theorem State.emit_rd (o : Out) (k : Nat) : (s.emit o).rd k = s.rd k := rfl
@[simp] theorem State.emit_fld (o : Out) (e : Fld) : (s.emit o).fld e = s.fld e := rfl
@[simp] theorem State.emit_is (o : Out) (e : Fld) : (s.emit o).is e = s.is e := rfl

/-! ## use -/

@[simp] theorem State.use_pending  : (s.use).pending = s.pending := rfl
@[simp] theorem State.use_regs  : (s.use).regs = s.regs := rfl
@[simp] theorem State.use_lanes  : (s.use).lanes = s.lanes := rfl
@[simp] theorem State.use_seqs  : (s.use).seqs = s.seqs := rfl
@[simp] theorem State.use_gpr  : (s.use).gpr = s.gpr := rfl
@[simp] theorem State.use_sup  : (s.use).sup = s.sup := rfl
@[simp] theorem State.use_cregs  : (s.use).cregs = s.cregs := rfl
@[simp] theorem State.use_chans  : (s.use).chans = s.chans := rfl
@[simp] theorem State.use_ladders  : (s.use).ladders = s.ladders := rfl
@[simp] theorem State.use_faultLog  : (s.use).faultLog = s.faultLog := rfl
@[simp] theorem State.use_shutdown  : (s.use).shutdown = s.shutdown := rfl
@[simp] theorem State.use_fab  : (s.use).fab = s.fab := rfl
@[simp] theorem State.use_clk  : (s.use).clk = s.clk := rfl
@[simp] theorem State.use_integ  : (s.use).integ = s.integ := rfl
@[simp] theorem State.use_mons  : (s.use).mons = s.mons := rfl
@[simp] theorem State.use_monAt  : (s.use).monAt = s.monAt := rfl
@[simp] theorem State.use_therm  : (s.use).therm = s.therm := rfl
@[simp] theorem State.use_perf  : (s.use).perf = s.perf := rfl
@[simp] theorem State.use_life  : (s.use).life = s.life := rfl
@[simp] theorem State.use_dma  : (s.use).dma = s.dma := rfl
@[simp] theorem State.use_pcie  : (s.use).pcie = s.pcie := rfl
@[simp] theorem State.use_smp  : (s.use).smp = s.smp := rfl
@[simp] theorem State.use_tow  : (s.use).tow = s.tow := rfl
@[simp] theorem State.use_flash  : (s.use).flash = s.flash := rfl
@[simp] theorem State.use_trans  : (s.use).trans = s.trans := rfl
@[simp] theorem State.use_dorm  : (s.use).dorm = s.dorm := rfl
@[simp] theorem State.use_pins  : (s.use).pins = s.pins := rfl
@[simp] theorem State.use_supply  : (s.use).supply = s.supply := rfl
@[simp] theorem State.use_clock  : (s.use).clock = s.clock := rfl
@[simp] theorem State.use_tb  : (s.use).tb = s.tb := rfl
@[simp] theorem State.use_latch  : (s.use).latch = s.latch := rfl
@[simp] theorem State.use_msixDue  : (s.use).msixDue = s.msixDue := rfl
@[simp] theorem State.use_mem  : (s.use).mem = s.mem := rfl
@[simp] theorem State.use_free  : (s.use).free = s.free + 1 := rfl
@[simp] theorem State.use_out  : (s.use).out = s.out := rfl
@[simp] theorem State.use_rd (k : Nat) : (s.use).rd k = s.rd k := rfl
@[simp] theorem State.use_fld (e : Fld) : (s.use).fld e = s.fld e := rfl
@[simp] theorem State.use_is (e : Fld) : (s.use).is e = s.is e := rfl

/-! ## setLane -/

@[simp] theorem State.setLane_pending (n : Nat) (l : Lane) : (s.setLane n l).pending = s.pending := rfl
@[simp] theorem State.setLane_regs (n : Nat) (l : Lane) : (s.setLane n l).regs = s.regs := rfl
@[simp] theorem State.setLane_lanes (n : Nat) (l : Lane) : (s.setLane n l).lanes = tabPut (fun _ => Lane.init) s.lanes n l := rfl
@[simp] theorem State.setLane_seqs (n : Nat) (l : Lane) : (s.setLane n l).seqs = s.seqs := rfl
@[simp] theorem State.setLane_gpr (n : Nat) (l : Lane) : (s.setLane n l).gpr = s.gpr := rfl
@[simp] theorem State.setLane_sup (n : Nat) (l : Lane) : (s.setLane n l).sup = s.sup := rfl
@[simp] theorem State.setLane_cregs (n : Nat) (l : Lane) : (s.setLane n l).cregs = s.cregs := rfl
@[simp] theorem State.setLane_chans (n : Nat) (l : Lane) : (s.setLane n l).chans = s.chans := rfl
@[simp] theorem State.setLane_ladders (n : Nat) (l : Lane) : (s.setLane n l).ladders = s.ladders := rfl
@[simp] theorem State.setLane_faultLog (n : Nat) (l : Lane) : (s.setLane n l).faultLog = s.faultLog := rfl
@[simp] theorem State.setLane_shutdown (n : Nat) (l : Lane) : (s.setLane n l).shutdown = s.shutdown := rfl
@[simp] theorem State.setLane_fab (n : Nat) (l : Lane) : (s.setLane n l).fab = s.fab := rfl
@[simp] theorem State.setLane_clk (n : Nat) (l : Lane) : (s.setLane n l).clk = s.clk := rfl
@[simp] theorem State.setLane_integ (n : Nat) (l : Lane) : (s.setLane n l).integ = s.integ := rfl
@[simp] theorem State.setLane_mons (n : Nat) (l : Lane) : (s.setLane n l).mons = s.mons := rfl
@[simp] theorem State.setLane_monAt (n : Nat) (l : Lane) : (s.setLane n l).monAt = s.monAt := rfl
@[simp] theorem State.setLane_therm (n : Nat) (l : Lane) : (s.setLane n l).therm = s.therm := rfl
@[simp] theorem State.setLane_perf (n : Nat) (l : Lane) : (s.setLane n l).perf = s.perf := rfl
@[simp] theorem State.setLane_life (n : Nat) (l : Lane) : (s.setLane n l).life = s.life := rfl
@[simp] theorem State.setLane_dma (n : Nat) (l : Lane) : (s.setLane n l).dma = s.dma := rfl
@[simp] theorem State.setLane_pcie (n : Nat) (l : Lane) : (s.setLane n l).pcie = s.pcie := rfl
@[simp] theorem State.setLane_smp (n : Nat) (l : Lane) : (s.setLane n l).smp = s.smp := rfl
@[simp] theorem State.setLane_tow (n : Nat) (l : Lane) : (s.setLane n l).tow = s.tow := rfl
@[simp] theorem State.setLane_flash (n : Nat) (l : Lane) : (s.setLane n l).flash = s.flash := rfl
@[simp] theorem State.setLane_trans (n : Nat) (l : Lane) : (s.setLane n l).trans = s.trans := rfl
@[simp] theorem State.setLane_dorm (n : Nat) (l : Lane) : (s.setLane n l).dorm = s.dorm := rfl
@[simp] theorem State.setLane_pins (n : Nat) (l : Lane) : (s.setLane n l).pins = s.pins := rfl
@[simp] theorem State.setLane_supply (n : Nat) (l : Lane) : (s.setLane n l).supply = s.supply := rfl
@[simp] theorem State.setLane_clock (n : Nat) (l : Lane) : (s.setLane n l).clock = s.clock := rfl
@[simp] theorem State.setLane_tb (n : Nat) (l : Lane) : (s.setLane n l).tb = s.tb := rfl
@[simp] theorem State.setLane_latch (n : Nat) (l : Lane) : (s.setLane n l).latch = s.latch := rfl
@[simp] theorem State.setLane_msixDue (n : Nat) (l : Lane) : (s.setLane n l).msixDue = s.msixDue := rfl
@[simp] theorem State.setLane_mem (n : Nat) (l : Lane) : (s.setLane n l).mem = s.mem := rfl
@[simp] theorem State.setLane_free (n : Nat) (l : Lane) : (s.setLane n l).free = s.free := rfl
@[simp] theorem State.setLane_out (n : Nat) (l : Lane) : (s.setLane n l).out = s.out := rfl
@[simp] theorem State.setLane_rd (n : Nat) (l : Lane) (k : Nat) : (s.setLane n l).rd k = s.rd k := rfl
@[simp] theorem State.setLane_fld (n : Nat) (l : Lane) (e : Fld) : (s.setLane n l).fld e = s.fld e := rfl
@[simp] theorem State.setLane_is (n : Nat) (l : Lane) (e : Fld) : (s.setLane n l).is e = s.is e := rfl

/-! ## onLane -/

@[simp] theorem State.onLane_pending (n : Nat) (f : Lane → Lane) : (s.onLane n f).pending = s.pending := rfl
@[simp] theorem State.onLane_regs (n : Nat) (f : Lane → Lane) : (s.onLane n f).regs = s.regs := rfl
@[simp] theorem State.onLane_seqs (n : Nat) (f : Lane → Lane) : (s.onLane n f).seqs = s.seqs := rfl
@[simp] theorem State.onLane_gpr (n : Nat) (f : Lane → Lane) : (s.onLane n f).gpr = s.gpr := rfl
@[simp] theorem State.onLane_sup (n : Nat) (f : Lane → Lane) : (s.onLane n f).sup = s.sup := rfl
@[simp] theorem State.onLane_cregs (n : Nat) (f : Lane → Lane) : (s.onLane n f).cregs = s.cregs := rfl
@[simp] theorem State.onLane_chans (n : Nat) (f : Lane → Lane) : (s.onLane n f).chans = s.chans := rfl
@[simp] theorem State.onLane_ladders (n : Nat) (f : Lane → Lane) : (s.onLane n f).ladders = s.ladders := rfl
@[simp] theorem State.onLane_faultLog (n : Nat) (f : Lane → Lane) : (s.onLane n f).faultLog = s.faultLog := rfl
@[simp] theorem State.onLane_shutdown (n : Nat) (f : Lane → Lane) : (s.onLane n f).shutdown = s.shutdown := rfl
@[simp] theorem State.onLane_fab (n : Nat) (f : Lane → Lane) : (s.onLane n f).fab = s.fab := rfl
@[simp] theorem State.onLane_clk (n : Nat) (f : Lane → Lane) : (s.onLane n f).clk = s.clk := rfl
@[simp] theorem State.onLane_integ (n : Nat) (f : Lane → Lane) : (s.onLane n f).integ = s.integ := rfl
@[simp] theorem State.onLane_mons (n : Nat) (f : Lane → Lane) : (s.onLane n f).mons = s.mons := rfl
@[simp] theorem State.onLane_monAt (n : Nat) (f : Lane → Lane) : (s.onLane n f).monAt = s.monAt := rfl
@[simp] theorem State.onLane_therm (n : Nat) (f : Lane → Lane) : (s.onLane n f).therm = s.therm := rfl
@[simp] theorem State.onLane_perf (n : Nat) (f : Lane → Lane) : (s.onLane n f).perf = s.perf := rfl
@[simp] theorem State.onLane_life (n : Nat) (f : Lane → Lane) : (s.onLane n f).life = s.life := rfl
@[simp] theorem State.onLane_dma (n : Nat) (f : Lane → Lane) : (s.onLane n f).dma = s.dma := rfl
@[simp] theorem State.onLane_pcie (n : Nat) (f : Lane → Lane) : (s.onLane n f).pcie = s.pcie := rfl
@[simp] theorem State.onLane_smp (n : Nat) (f : Lane → Lane) : (s.onLane n f).smp = s.smp := rfl
@[simp] theorem State.onLane_tow (n : Nat) (f : Lane → Lane) : (s.onLane n f).tow = s.tow := rfl
@[simp] theorem State.onLane_flash (n : Nat) (f : Lane → Lane) : (s.onLane n f).flash = s.flash := rfl
@[simp] theorem State.onLane_trans (n : Nat) (f : Lane → Lane) : (s.onLane n f).trans = s.trans := rfl
@[simp] theorem State.onLane_dorm (n : Nat) (f : Lane → Lane) : (s.onLane n f).dorm = s.dorm := rfl
@[simp] theorem State.onLane_pins (n : Nat) (f : Lane → Lane) : (s.onLane n f).pins = s.pins := rfl
@[simp] theorem State.onLane_supply (n : Nat) (f : Lane → Lane) : (s.onLane n f).supply = s.supply := rfl
@[simp] theorem State.onLane_clock (n : Nat) (f : Lane → Lane) : (s.onLane n f).clock = s.clock := rfl
@[simp] theorem State.onLane_tb (n : Nat) (f : Lane → Lane) : (s.onLane n f).tb = s.tb := rfl
@[simp] theorem State.onLane_latch (n : Nat) (f : Lane → Lane) : (s.onLane n f).latch = s.latch := rfl
@[simp] theorem State.onLane_msixDue (n : Nat) (f : Lane → Lane) : (s.onLane n f).msixDue = s.msixDue := rfl
@[simp] theorem State.onLane_mem (n : Nat) (f : Lane → Lane) : (s.onLane n f).mem = s.mem := rfl
@[simp] theorem State.onLane_free (n : Nat) (f : Lane → Lane) : (s.onLane n f).free = s.free := rfl
@[simp] theorem State.onLane_out (n : Nat) (f : Lane → Lane) : (s.onLane n f).out = s.out := rfl
@[simp] theorem State.onLane_rd (n : Nat) (f : Lane → Lane) (k : Nat) : (s.onLane n f).rd k = s.rd k := rfl
@[simp] theorem State.onLane_fld (n : Nat) (g : Lane → Lane) (e : Fld) : (s.onLane n g).fld e = s.fld e := rfl
@[simp] theorem State.onLane_is (n : Nat) (g : Lane → Lane) (e : Fld) : (s.onLane n g).is e = s.is e := rfl

/-! ## setSeq -/

@[simp] theorem State.setSeq_pending (n : Nat) (q : Seq) : (s.setSeq n q).pending = s.pending := rfl
@[simp] theorem State.setSeq_regs (n : Nat) (q : Seq) : (s.setSeq n q).regs = s.regs := rfl
@[simp] theorem State.setSeq_lanes (n : Nat) (q : Seq) : (s.setSeq n q).lanes = s.lanes := rfl
@[simp] theorem State.setSeq_seqs (n : Nat) (q : Seq) : (s.setSeq n q).seqs = tabPut (fun _ => Seq.init) s.seqs n q := rfl
@[simp] theorem State.setSeq_gpr (n : Nat) (q : Seq) : (s.setSeq n q).gpr = s.gpr := rfl
@[simp] theorem State.setSeq_sup (n : Nat) (q : Seq) : (s.setSeq n q).sup = s.sup := rfl
@[simp] theorem State.setSeq_cregs (n : Nat) (q : Seq) : (s.setSeq n q).cregs = s.cregs := rfl
@[simp] theorem State.setSeq_chans (n : Nat) (q : Seq) : (s.setSeq n q).chans = s.chans := rfl
@[simp] theorem State.setSeq_ladders (n : Nat) (q : Seq) : (s.setSeq n q).ladders = s.ladders := rfl
@[simp] theorem State.setSeq_faultLog (n : Nat) (q : Seq) : (s.setSeq n q).faultLog = s.faultLog := rfl
@[simp] theorem State.setSeq_shutdown (n : Nat) (q : Seq) : (s.setSeq n q).shutdown = s.shutdown := rfl
@[simp] theorem State.setSeq_fab (n : Nat) (q : Seq) : (s.setSeq n q).fab = s.fab := rfl
@[simp] theorem State.setSeq_clk (n : Nat) (q : Seq) : (s.setSeq n q).clk = s.clk := rfl
@[simp] theorem State.setSeq_integ (n : Nat) (q : Seq) : (s.setSeq n q).integ = s.integ := rfl
@[simp] theorem State.setSeq_mons (n : Nat) (q : Seq) : (s.setSeq n q).mons = s.mons := rfl
@[simp] theorem State.setSeq_monAt (n : Nat) (q : Seq) : (s.setSeq n q).monAt = s.monAt := rfl
@[simp] theorem State.setSeq_therm (n : Nat) (q : Seq) : (s.setSeq n q).therm = s.therm := rfl
@[simp] theorem State.setSeq_perf (n : Nat) (q : Seq) : (s.setSeq n q).perf = s.perf := rfl
@[simp] theorem State.setSeq_life (n : Nat) (q : Seq) : (s.setSeq n q).life = s.life := rfl
@[simp] theorem State.setSeq_dma (n : Nat) (q : Seq) : (s.setSeq n q).dma = s.dma := rfl
@[simp] theorem State.setSeq_pcie (n : Nat) (q : Seq) : (s.setSeq n q).pcie = s.pcie := rfl
@[simp] theorem State.setSeq_smp (n : Nat) (q : Seq) : (s.setSeq n q).smp = s.smp := rfl
@[simp] theorem State.setSeq_tow (n : Nat) (q : Seq) : (s.setSeq n q).tow = s.tow := rfl
@[simp] theorem State.setSeq_flash (n : Nat) (q : Seq) : (s.setSeq n q).flash = s.flash := rfl
@[simp] theorem State.setSeq_trans (n : Nat) (q : Seq) : (s.setSeq n q).trans = s.trans := rfl
@[simp] theorem State.setSeq_dorm (n : Nat) (q : Seq) : (s.setSeq n q).dorm = s.dorm := rfl
@[simp] theorem State.setSeq_pins (n : Nat) (q : Seq) : (s.setSeq n q).pins = s.pins := rfl
@[simp] theorem State.setSeq_supply (n : Nat) (q : Seq) : (s.setSeq n q).supply = s.supply := rfl
@[simp] theorem State.setSeq_clock (n : Nat) (q : Seq) : (s.setSeq n q).clock = s.clock := rfl
@[simp] theorem State.setSeq_tb (n : Nat) (q : Seq) : (s.setSeq n q).tb = s.tb := rfl
@[simp] theorem State.setSeq_latch (n : Nat) (q : Seq) : (s.setSeq n q).latch = s.latch := rfl
@[simp] theorem State.setSeq_msixDue (n : Nat) (q : Seq) : (s.setSeq n q).msixDue = s.msixDue := rfl
@[simp] theorem State.setSeq_mem (n : Nat) (q : Seq) : (s.setSeq n q).mem = s.mem := rfl
@[simp] theorem State.setSeq_free (n : Nat) (q : Seq) : (s.setSeq n q).free = s.free := rfl
@[simp] theorem State.setSeq_out (n : Nat) (q : Seq) : (s.setSeq n q).out = s.out := rfl
@[simp] theorem State.setSeq_rd (n : Nat) (q : Seq) (k : Nat) : (s.setSeq n q).rd k = s.rd k := rfl
@[simp] theorem State.setSeq_fld (n : Nat) (q : Seq) (e : Fld) : (s.setSeq n q).fld e = s.fld e := rfl
@[simp] theorem State.setSeq_is (n : Nat) (q : Seq) (e : Fld) : (s.setSeq n q).is e = s.is e := rfl

/-! ## setChan -/

@[simp] theorem State.setChan_pending (c : Nat) (h : Chan) : (s.setChan c h).pending = s.pending := rfl
@[simp] theorem State.setChan_regs (c : Nat) (h : Chan) : (s.setChan c h).regs = s.regs := rfl
@[simp] theorem State.setChan_lanes (c : Nat) (h : Chan) : (s.setChan c h).lanes = s.lanes := rfl
@[simp] theorem State.setChan_seqs (c : Nat) (h : Chan) : (s.setChan c h).seqs = s.seqs := rfl
@[simp] theorem State.setChan_gpr (c : Nat) (h : Chan) : (s.setChan c h).gpr = s.gpr := rfl
@[simp] theorem State.setChan_sup (c : Nat) (h : Chan) : (s.setChan c h).sup = s.sup := rfl
@[simp] theorem State.setChan_cregs (c : Nat) (h : Chan) : (s.setChan c h).cregs = s.cregs := rfl
@[simp] theorem State.setChan_chans (c : Nat) (h : Chan) : (s.setChan c h).chans = tabPut (fun _ => Chan.init) s.chans c h := rfl
@[simp] theorem State.setChan_ladders (c : Nat) (h : Chan) : (s.setChan c h).ladders = s.ladders := rfl
@[simp] theorem State.setChan_faultLog (c : Nat) (h : Chan) : (s.setChan c h).faultLog = s.faultLog := rfl
@[simp] theorem State.setChan_shutdown (c : Nat) (h : Chan) : (s.setChan c h).shutdown = s.shutdown := rfl
@[simp] theorem State.setChan_fab (c : Nat) (h : Chan) : (s.setChan c h).fab = s.fab := rfl
@[simp] theorem State.setChan_clk (c : Nat) (h : Chan) : (s.setChan c h).clk = s.clk := rfl
@[simp] theorem State.setChan_integ (c : Nat) (h : Chan) : (s.setChan c h).integ = s.integ := rfl
@[simp] theorem State.setChan_mons (c : Nat) (h : Chan) : (s.setChan c h).mons = s.mons := rfl
@[simp] theorem State.setChan_monAt (c : Nat) (h : Chan) : (s.setChan c h).monAt = s.monAt := rfl
@[simp] theorem State.setChan_therm (c : Nat) (h : Chan) : (s.setChan c h).therm = s.therm := rfl
@[simp] theorem State.setChan_perf (c : Nat) (h : Chan) : (s.setChan c h).perf = s.perf := rfl
@[simp] theorem State.setChan_life (c : Nat) (h : Chan) : (s.setChan c h).life = s.life := rfl
@[simp] theorem State.setChan_dma (c : Nat) (h : Chan) : (s.setChan c h).dma = s.dma := rfl
@[simp] theorem State.setChan_pcie (c : Nat) (h : Chan) : (s.setChan c h).pcie = s.pcie := rfl
@[simp] theorem State.setChan_smp (c : Nat) (h : Chan) : (s.setChan c h).smp = s.smp := rfl
@[simp] theorem State.setChan_tow (c : Nat) (h : Chan) : (s.setChan c h).tow = s.tow := rfl
@[simp] theorem State.setChan_flash (c : Nat) (h : Chan) : (s.setChan c h).flash = s.flash := rfl
@[simp] theorem State.setChan_trans (c : Nat) (h : Chan) : (s.setChan c h).trans = s.trans := rfl
@[simp] theorem State.setChan_dorm (c : Nat) (h : Chan) : (s.setChan c h).dorm = s.dorm := rfl
@[simp] theorem State.setChan_pins (c : Nat) (h : Chan) : (s.setChan c h).pins = s.pins := rfl
@[simp] theorem State.setChan_supply (c : Nat) (h : Chan) : (s.setChan c h).supply = s.supply := rfl
@[simp] theorem State.setChan_clock (c : Nat) (h : Chan) : (s.setChan c h).clock = s.clock := rfl
@[simp] theorem State.setChan_tb (c : Nat) (h : Chan) : (s.setChan c h).tb = s.tb := rfl
@[simp] theorem State.setChan_latch (c : Nat) (h : Chan) : (s.setChan c h).latch = s.latch := rfl
@[simp] theorem State.setChan_msixDue (c : Nat) (h : Chan) : (s.setChan c h).msixDue = s.msixDue := rfl
@[simp] theorem State.setChan_mem (c : Nat) (h : Chan) : (s.setChan c h).mem = s.mem := rfl
@[simp] theorem State.setChan_free (c : Nat) (h : Chan) : (s.setChan c h).free = s.free := rfl
@[simp] theorem State.setChan_out (c : Nat) (h : Chan) : (s.setChan c h).out = s.out := rfl
@[simp] theorem State.setChan_rd (c : Nat) (h : Chan) (k : Nat) : (s.setChan c h).rd k = s.rd k := rfl
@[simp] theorem State.setChan_fld (c : Nat) (h : Chan) (e : Fld) : (s.setChan c h).fld e = s.fld e := rfl
@[simp] theorem State.setChan_is (c : Nat) (h : Chan) (e : Fld) : (s.setChan c h).is e = s.is e := rfl

/-! ## setLadder -/

@[simp] theorem State.setLadder_pending (n : Nat) (l : Ladder) : (s.setLadder n l).pending = s.pending := rfl
@[simp] theorem State.setLadder_regs (n : Nat) (l : Ladder) : (s.setLadder n l).regs = s.regs := rfl
@[simp] theorem State.setLadder_lanes (n : Nat) (l : Ladder) : (s.setLadder n l).lanes = s.lanes := rfl
@[simp] theorem State.setLadder_seqs (n : Nat) (l : Ladder) : (s.setLadder n l).seqs = s.seqs := rfl
@[simp] theorem State.setLadder_gpr (n : Nat) (l : Ladder) : (s.setLadder n l).gpr = s.gpr := rfl
@[simp] theorem State.setLadder_sup (n : Nat) (l : Ladder) : (s.setLadder n l).sup = s.sup := rfl
@[simp] theorem State.setLadder_cregs (n : Nat) (l : Ladder) : (s.setLadder n l).cregs = s.cregs := rfl
@[simp] theorem State.setLadder_chans (n : Nat) (l : Ladder) : (s.setLadder n l).chans = s.chans := rfl
@[simp] theorem State.setLadder_ladders (n : Nat) (l : Ladder) : (s.setLadder n l).ladders = tabPut (fun _ => Ladder.init) s.ladders n l := rfl
@[simp] theorem State.setLadder_faultLog (n : Nat) (l : Ladder) : (s.setLadder n l).faultLog = s.faultLog := rfl
@[simp] theorem State.setLadder_shutdown (n : Nat) (l : Ladder) : (s.setLadder n l).shutdown = s.shutdown := rfl
@[simp] theorem State.setLadder_fab (n : Nat) (l : Ladder) : (s.setLadder n l).fab = s.fab := rfl
@[simp] theorem State.setLadder_clk (n : Nat) (l : Ladder) : (s.setLadder n l).clk = s.clk := rfl
@[simp] theorem State.setLadder_integ (n : Nat) (l : Ladder) : (s.setLadder n l).integ = s.integ := rfl
@[simp] theorem State.setLadder_mons (n : Nat) (l : Ladder) : (s.setLadder n l).mons = s.mons := rfl
@[simp] theorem State.setLadder_monAt (n : Nat) (l : Ladder) : (s.setLadder n l).monAt = s.monAt := rfl
@[simp] theorem State.setLadder_therm (n : Nat) (l : Ladder) : (s.setLadder n l).therm = s.therm := rfl
@[simp] theorem State.setLadder_perf (n : Nat) (l : Ladder) : (s.setLadder n l).perf = s.perf := rfl
@[simp] theorem State.setLadder_life (n : Nat) (l : Ladder) : (s.setLadder n l).life = s.life := rfl
@[simp] theorem State.setLadder_dma (n : Nat) (l : Ladder) : (s.setLadder n l).dma = s.dma := rfl
@[simp] theorem State.setLadder_pcie (n : Nat) (l : Ladder) : (s.setLadder n l).pcie = s.pcie := rfl
@[simp] theorem State.setLadder_smp (n : Nat) (l : Ladder) : (s.setLadder n l).smp = s.smp := rfl
@[simp] theorem State.setLadder_tow (n : Nat) (l : Ladder) : (s.setLadder n l).tow = s.tow := rfl
@[simp] theorem State.setLadder_flash (n : Nat) (l : Ladder) : (s.setLadder n l).flash = s.flash := rfl
@[simp] theorem State.setLadder_trans (n : Nat) (l : Ladder) : (s.setLadder n l).trans = s.trans := rfl
@[simp] theorem State.setLadder_dorm (n : Nat) (l : Ladder) : (s.setLadder n l).dorm = s.dorm := rfl
@[simp] theorem State.setLadder_pins (n : Nat) (l : Ladder) : (s.setLadder n l).pins = s.pins := rfl
@[simp] theorem State.setLadder_supply (n : Nat) (l : Ladder) : (s.setLadder n l).supply = s.supply := rfl
@[simp] theorem State.setLadder_clock (n : Nat) (l : Ladder) : (s.setLadder n l).clock = s.clock := rfl
@[simp] theorem State.setLadder_tb (n : Nat) (l : Ladder) : (s.setLadder n l).tb = s.tb := rfl
@[simp] theorem State.setLadder_latch (n : Nat) (l : Ladder) : (s.setLadder n l).latch = s.latch := rfl
@[simp] theorem State.setLadder_msixDue (n : Nat) (l : Ladder) : (s.setLadder n l).msixDue = s.msixDue := rfl
@[simp] theorem State.setLadder_mem (n : Nat) (l : Ladder) : (s.setLadder n l).mem = s.mem := rfl
@[simp] theorem State.setLadder_free (n : Nat) (l : Ladder) : (s.setLadder n l).free = s.free := rfl
@[simp] theorem State.setLadder_out (n : Nat) (l : Ladder) : (s.setLadder n l).out = s.out := rfl
@[simp] theorem State.setLadder_rd (n : Nat) (l : Ladder) (k : Nat) : (s.setLadder n l).rd k = s.rd k := rfl
@[simp] theorem State.setLadder_fld (n : Nat) (l : Ladder) (e : Fld) : (s.setLadder n l).fld e = s.fld e := rfl
@[simp] theorem State.setLadder_is (n : Nat) (l : Ladder) (e : Fld) : (s.setLadder n l).is e = s.is e := rfl

/-! ## setCreg -/

@[simp] theorem State.setCreg_pending (n : Nat) (v : Word) : (s.setCreg n v).pending = s.pending := rfl
@[simp] theorem State.setCreg_regs (n : Nat) (v : Word) : (s.setCreg n v).regs = s.regs := rfl
@[simp] theorem State.setCreg_lanes (n : Nat) (v : Word) : (s.setCreg n v).lanes = s.lanes := rfl
@[simp] theorem State.setCreg_seqs (n : Nat) (v : Word) : (s.setCreg n v).seqs = s.seqs := rfl
@[simp] theorem State.setCreg_gpr (n : Nat) (v : Word) : (s.setCreg n v).gpr = s.gpr := rfl
@[simp] theorem State.setCreg_sup (n : Nat) (v : Word) : (s.setCreg n v).sup = s.sup := rfl
@[simp] theorem State.setCreg_cregs (n : Nat) (v : Word) : (s.setCreg n v).cregs = tabPut cregReset s.cregs n v := rfl
@[simp] theorem State.setCreg_chans (n : Nat) (v : Word) : (s.setCreg n v).chans = s.chans := rfl
@[simp] theorem State.setCreg_ladders (n : Nat) (v : Word) : (s.setCreg n v).ladders = s.ladders := rfl
@[simp] theorem State.setCreg_faultLog (n : Nat) (v : Word) : (s.setCreg n v).faultLog = s.faultLog := rfl
@[simp] theorem State.setCreg_shutdown (n : Nat) (v : Word) : (s.setCreg n v).shutdown = s.shutdown := rfl
@[simp] theorem State.setCreg_fab (n : Nat) (v : Word) : (s.setCreg n v).fab = s.fab := rfl
@[simp] theorem State.setCreg_clk (n : Nat) (v : Word) : (s.setCreg n v).clk = s.clk := rfl
@[simp] theorem State.setCreg_integ (n : Nat) (v : Word) : (s.setCreg n v).integ = s.integ := rfl
@[simp] theorem State.setCreg_mons (n : Nat) (v : Word) : (s.setCreg n v).mons = s.mons := rfl
@[simp] theorem State.setCreg_monAt (n : Nat) (v : Word) : (s.setCreg n v).monAt = s.monAt := rfl
@[simp] theorem State.setCreg_therm (n : Nat) (v : Word) : (s.setCreg n v).therm = s.therm := rfl
@[simp] theorem State.setCreg_perf (n : Nat) (v : Word) : (s.setCreg n v).perf = s.perf := rfl
@[simp] theorem State.setCreg_life (n : Nat) (v : Word) : (s.setCreg n v).life = s.life := rfl
@[simp] theorem State.setCreg_dma (n : Nat) (v : Word) : (s.setCreg n v).dma = s.dma := rfl
@[simp] theorem State.setCreg_pcie (n : Nat) (v : Word) : (s.setCreg n v).pcie = s.pcie := rfl
@[simp] theorem State.setCreg_smp (n : Nat) (v : Word) : (s.setCreg n v).smp = s.smp := rfl
@[simp] theorem State.setCreg_tow (n : Nat) (v : Word) : (s.setCreg n v).tow = s.tow := rfl
@[simp] theorem State.setCreg_flash (n : Nat) (v : Word) : (s.setCreg n v).flash = s.flash := rfl
@[simp] theorem State.setCreg_trans (n : Nat) (v : Word) : (s.setCreg n v).trans = s.trans := rfl
@[simp] theorem State.setCreg_dorm (n : Nat) (v : Word) : (s.setCreg n v).dorm = s.dorm := rfl
@[simp] theorem State.setCreg_pins (n : Nat) (v : Word) : (s.setCreg n v).pins = s.pins := rfl
@[simp] theorem State.setCreg_supply (n : Nat) (v : Word) : (s.setCreg n v).supply = s.supply := rfl
@[simp] theorem State.setCreg_clock (n : Nat) (v : Word) : (s.setCreg n v).clock = s.clock := rfl
@[simp] theorem State.setCreg_tb (n : Nat) (v : Word) : (s.setCreg n v).tb = s.tb := rfl
@[simp] theorem State.setCreg_latch (n : Nat) (v : Word) : (s.setCreg n v).latch = s.latch := rfl
@[simp] theorem State.setCreg_msixDue (n : Nat) (v : Word) : (s.setCreg n v).msixDue = s.msixDue := rfl
@[simp] theorem State.setCreg_mem (n : Nat) (v : Word) : (s.setCreg n v).mem = s.mem := rfl
@[simp] theorem State.setCreg_free (n : Nat) (v : Word) : (s.setCreg n v).free = s.free := rfl
@[simp] theorem State.setCreg_out (n : Nat) (v : Word) : (s.setCreg n v).out = s.out := rfl
@[simp] theorem State.setCreg_rd (n : Nat) (v : Word) (k : Nat) : (s.setCreg n v).rd k = s.rd k := rfl
@[simp] theorem State.setCreg_fld (n : Nat) (v : Word) (e : Fld) : (s.setCreg n v).fld e = s.fld e := rfl
@[simp] theorem State.setCreg_is (n : Nat) (v : Word) (e : Fld) : (s.setCreg n v).is e = s.is e := rfl

/-! ## setSupPc -/

@[simp] theorem State.setSupPc_pending (pc : Word) : (s.setSupPc pc).pending = s.pending := rfl
@[simp] theorem State.setSupPc_regs (pc : Word) : (s.setSupPc pc).regs = s.regs := rfl
@[simp] theorem State.setSupPc_lanes (pc : Word) : (s.setSupPc pc).lanes = s.lanes := rfl
@[simp] theorem State.setSupPc_seqs (pc : Word) : (s.setSupPc pc).seqs = s.seqs := rfl
@[simp] theorem State.setSupPc_gpr (pc : Word) : (s.setSupPc pc).gpr = s.gpr := rfl
@[simp] theorem State.setSupPc_cregs (pc : Word) : (s.setSupPc pc).cregs = s.cregs := rfl
@[simp] theorem State.setSupPc_chans (pc : Word) : (s.setSupPc pc).chans = s.chans := rfl
@[simp] theorem State.setSupPc_ladders (pc : Word) : (s.setSupPc pc).ladders = s.ladders := rfl
@[simp] theorem State.setSupPc_faultLog (pc : Word) : (s.setSupPc pc).faultLog = s.faultLog := rfl
@[simp] theorem State.setSupPc_shutdown (pc : Word) : (s.setSupPc pc).shutdown = s.shutdown := rfl
@[simp] theorem State.setSupPc_fab (pc : Word) : (s.setSupPc pc).fab = s.fab := rfl
@[simp] theorem State.setSupPc_clk (pc : Word) : (s.setSupPc pc).clk = s.clk := rfl
@[simp] theorem State.setSupPc_integ (pc : Word) : (s.setSupPc pc).integ = s.integ := rfl
@[simp] theorem State.setSupPc_mons (pc : Word) : (s.setSupPc pc).mons = s.mons := rfl
@[simp] theorem State.setSupPc_monAt (pc : Word) : (s.setSupPc pc).monAt = s.monAt := rfl
@[simp] theorem State.setSupPc_therm (pc : Word) : (s.setSupPc pc).therm = s.therm := rfl
@[simp] theorem State.setSupPc_perf (pc : Word) : (s.setSupPc pc).perf = s.perf := rfl
@[simp] theorem State.setSupPc_life (pc : Word) : (s.setSupPc pc).life = s.life := rfl
@[simp] theorem State.setSupPc_dma (pc : Word) : (s.setSupPc pc).dma = s.dma := rfl
@[simp] theorem State.setSupPc_pcie (pc : Word) : (s.setSupPc pc).pcie = s.pcie := rfl
@[simp] theorem State.setSupPc_smp (pc : Word) : (s.setSupPc pc).smp = s.smp := rfl
@[simp] theorem State.setSupPc_tow (pc : Word) : (s.setSupPc pc).tow = s.tow := rfl
@[simp] theorem State.setSupPc_flash (pc : Word) : (s.setSupPc pc).flash = s.flash := rfl
@[simp] theorem State.setSupPc_trans (pc : Word) : (s.setSupPc pc).trans = s.trans := rfl
@[simp] theorem State.setSupPc_dorm (pc : Word) : (s.setSupPc pc).dorm = s.dorm := rfl
@[simp] theorem State.setSupPc_pins (pc : Word) : (s.setSupPc pc).pins = s.pins := rfl
@[simp] theorem State.setSupPc_supply (pc : Word) : (s.setSupPc pc).supply = s.supply := rfl
@[simp] theorem State.setSupPc_clock (pc : Word) : (s.setSupPc pc).clock = s.clock := rfl
@[simp] theorem State.setSupPc_tb (pc : Word) : (s.setSupPc pc).tb = s.tb := rfl
@[simp] theorem State.setSupPc_latch (pc : Word) : (s.setSupPc pc).latch = s.latch := rfl
@[simp] theorem State.setSupPc_msixDue (pc : Word) : (s.setSupPc pc).msixDue = s.msixDue := rfl
@[simp] theorem State.setSupPc_mem (pc : Word) : (s.setSupPc pc).mem = s.mem := rfl
@[simp] theorem State.setSupPc_free (pc : Word) : (s.setSupPc pc).free = s.free := rfl
@[simp] theorem State.setSupPc_out (pc : Word) : (s.setSupPc pc).out = s.out := rfl
@[simp] theorem State.setSupPc_rd (pc : Word) (k : Nat) : (s.setSupPc pc).rd k = s.rd k := rfl
@[simp] theorem State.setSupPc_fld (pc : Word) (e : Fld) : (s.setSupPc pc).fld e = s.fld e := rfl
@[simp] theorem State.setSupPc_is (pc : Word) (e : Fld) : (s.setSupPc pc).is e = s.is e := rfl

/-! ## setFlips -/

@[simp] theorem State.setFlips_pending (w : Nat) (v : Nat) : (s.setFlips w v).pending = s.pending := rfl
@[simp] theorem State.setFlips_regs (w : Nat) (v : Nat) : (s.setFlips w v).regs = s.regs := rfl
@[simp] theorem State.setFlips_lanes (w : Nat) (v : Nat) : (s.setFlips w v).lanes = s.lanes := rfl
@[simp] theorem State.setFlips_seqs (w : Nat) (v : Nat) : (s.setFlips w v).seqs = s.seqs := rfl
@[simp] theorem State.setFlips_gpr (w : Nat) (v : Nat) : (s.setFlips w v).gpr = s.gpr := rfl
@[simp] theorem State.setFlips_sup (w : Nat) (v : Nat) : (s.setFlips w v).sup = s.sup := rfl
@[simp] theorem State.setFlips_cregs (w : Nat) (v : Nat) : (s.setFlips w v).cregs = s.cregs := rfl
@[simp] theorem State.setFlips_chans (w : Nat) (v : Nat) : (s.setFlips w v).chans = s.chans := rfl
@[simp] theorem State.setFlips_ladders (w : Nat) (v : Nat) : (s.setFlips w v).ladders = s.ladders := rfl
@[simp] theorem State.setFlips_faultLog (w : Nat) (v : Nat) : (s.setFlips w v).faultLog = s.faultLog := rfl
@[simp] theorem State.setFlips_shutdown (w : Nat) (v : Nat) : (s.setFlips w v).shutdown = s.shutdown := rfl
@[simp] theorem State.setFlips_fab (w : Nat) (v : Nat) : (s.setFlips w v).fab = s.fab := rfl
@[simp] theorem State.setFlips_clk (w : Nat) (v : Nat) : (s.setFlips w v).clk = s.clk := rfl
@[simp] theorem State.setFlips_mons (w : Nat) (v : Nat) : (s.setFlips w v).mons = s.mons := rfl
@[simp] theorem State.setFlips_monAt (w : Nat) (v : Nat) : (s.setFlips w v).monAt = s.monAt := rfl
@[simp] theorem State.setFlips_therm (w : Nat) (v : Nat) : (s.setFlips w v).therm = s.therm := rfl
@[simp] theorem State.setFlips_perf (w : Nat) (v : Nat) : (s.setFlips w v).perf = s.perf := rfl
@[simp] theorem State.setFlips_life (w : Nat) (v : Nat) : (s.setFlips w v).life = s.life := rfl
@[simp] theorem State.setFlips_dma (w : Nat) (v : Nat) : (s.setFlips w v).dma = s.dma := rfl
@[simp] theorem State.setFlips_pcie (w : Nat) (v : Nat) : (s.setFlips w v).pcie = s.pcie := rfl
@[simp] theorem State.setFlips_smp (w : Nat) (v : Nat) : (s.setFlips w v).smp = s.smp := rfl
@[simp] theorem State.setFlips_tow (w : Nat) (v : Nat) : (s.setFlips w v).tow = s.tow := rfl
@[simp] theorem State.setFlips_flash (w : Nat) (v : Nat) : (s.setFlips w v).flash = s.flash := rfl
@[simp] theorem State.setFlips_trans (w : Nat) (v : Nat) : (s.setFlips w v).trans = s.trans := rfl
@[simp] theorem State.setFlips_dorm (w : Nat) (v : Nat) : (s.setFlips w v).dorm = s.dorm := rfl
@[simp] theorem State.setFlips_pins (w : Nat) (v : Nat) : (s.setFlips w v).pins = s.pins := rfl
@[simp] theorem State.setFlips_supply (w : Nat) (v : Nat) : (s.setFlips w v).supply = s.supply := rfl
@[simp] theorem State.setFlips_clock (w : Nat) (v : Nat) : (s.setFlips w v).clock = s.clock := rfl
@[simp] theorem State.setFlips_tb (w : Nat) (v : Nat) : (s.setFlips w v).tb = s.tb := rfl
@[simp] theorem State.setFlips_latch (w : Nat) (v : Nat) : (s.setFlips w v).latch = s.latch := rfl
@[simp] theorem State.setFlips_msixDue (w : Nat) (v : Nat) : (s.setFlips w v).msixDue = s.msixDue := rfl
@[simp] theorem State.setFlips_mem (w : Nat) (v : Nat) : (s.setFlips w v).mem = s.mem := rfl
@[simp] theorem State.setFlips_free (w : Nat) (v : Nat) : (s.setFlips w v).free = s.free := rfl
@[simp] theorem State.setFlips_out (w : Nat) (v : Nat) : (s.setFlips w v).out = s.out := rfl
@[simp] theorem State.setFlips_rd (w : Nat) (v : Nat) (k : Nat) : (s.setFlips w v).rd k = s.rd k := rfl
@[simp] theorem State.setFlips_fld (w : Nat) (v : Nat) (e : Fld) : (s.setFlips w v).fld e = s.fld e := rfl
@[simp] theorem State.setFlips_is (w : Nat) (v : Nat) (e : Fld) : (s.setFlips w v).is e = s.is e := rfl

/-! ## setByte -/

@[simp] theorem State.setByte_pending (a : Nat) (b : BitVec 8) : (s.setByte a b).pending = s.pending := rfl
@[simp] theorem State.setByte_regs (a : Nat) (b : BitVec 8) : (s.setByte a b).regs = s.regs := rfl
@[simp] theorem State.setByte_lanes (a : Nat) (b : BitVec 8) : (s.setByte a b).lanes = s.lanes := rfl
@[simp] theorem State.setByte_seqs (a : Nat) (b : BitVec 8) : (s.setByte a b).seqs = s.seqs := rfl
@[simp] theorem State.setByte_gpr (a : Nat) (b : BitVec 8) : (s.setByte a b).gpr = s.gpr := rfl
@[simp] theorem State.setByte_sup (a : Nat) (b : BitVec 8) : (s.setByte a b).sup = s.sup := rfl
@[simp] theorem State.setByte_cregs (a : Nat) (b : BitVec 8) : (s.setByte a b).cregs = s.cregs := rfl
@[simp] theorem State.setByte_chans (a : Nat) (b : BitVec 8) : (s.setByte a b).chans = s.chans := rfl
@[simp] theorem State.setByte_ladders (a : Nat) (b : BitVec 8) : (s.setByte a b).ladders = s.ladders := rfl
@[simp] theorem State.setByte_faultLog (a : Nat) (b : BitVec 8) : (s.setByte a b).faultLog = s.faultLog := rfl
@[simp] theorem State.setByte_shutdown (a : Nat) (b : BitVec 8) : (s.setByte a b).shutdown = s.shutdown := rfl
@[simp] theorem State.setByte_fab (a : Nat) (b : BitVec 8) : (s.setByte a b).fab = s.fab := rfl
@[simp] theorem State.setByte_clk (a : Nat) (b : BitVec 8) : (s.setByte a b).clk = s.clk := rfl
@[simp] theorem State.setByte_integ (a : Nat) (b : BitVec 8) : (s.setByte a b).integ = s.integ := rfl
@[simp] theorem State.setByte_mons (a : Nat) (b : BitVec 8) : (s.setByte a b).mons = s.mons := rfl
@[simp] theorem State.setByte_monAt (a : Nat) (b : BitVec 8) : (s.setByte a b).monAt = s.monAt := rfl
@[simp] theorem State.setByte_therm (a : Nat) (b : BitVec 8) : (s.setByte a b).therm = s.therm := rfl
@[simp] theorem State.setByte_perf (a : Nat) (b : BitVec 8) : (s.setByte a b).perf = s.perf := rfl
@[simp] theorem State.setByte_life (a : Nat) (b : BitVec 8) : (s.setByte a b).life = s.life := rfl
@[simp] theorem State.setByte_dma (a : Nat) (b : BitVec 8) : (s.setByte a b).dma = s.dma := rfl
@[simp] theorem State.setByte_pcie (a : Nat) (b : BitVec 8) : (s.setByte a b).pcie = s.pcie := rfl
@[simp] theorem State.setByte_smp (a : Nat) (b : BitVec 8) : (s.setByte a b).smp = s.smp := rfl
@[simp] theorem State.setByte_tow (a : Nat) (b : BitVec 8) : (s.setByte a b).tow = s.tow := rfl
@[simp] theorem State.setByte_flash (a : Nat) (b : BitVec 8) : (s.setByte a b).flash = s.flash := rfl
@[simp] theorem State.setByte_trans (a : Nat) (b : BitVec 8) : (s.setByte a b).trans = s.trans := rfl
@[simp] theorem State.setByte_dorm (a : Nat) (b : BitVec 8) : (s.setByte a b).dorm = s.dorm := rfl
@[simp] theorem State.setByte_pins (a : Nat) (b : BitVec 8) : (s.setByte a b).pins = s.pins := rfl
@[simp] theorem State.setByte_supply (a : Nat) (b : BitVec 8) : (s.setByte a b).supply = s.supply := rfl
@[simp] theorem State.setByte_clock (a : Nat) (b : BitVec 8) : (s.setByte a b).clock = s.clock := rfl
@[simp] theorem State.setByte_tb (a : Nat) (b : BitVec 8) : (s.setByte a b).tb = s.tb := rfl
@[simp] theorem State.setByte_latch (a : Nat) (b : BitVec 8) : (s.setByte a b).latch = s.latch := rfl
@[simp] theorem State.setByte_msixDue (a : Nat) (b : BitVec 8) : (s.setByte a b).msixDue = s.msixDue := rfl
@[simp] theorem State.setByte_mem (a : Nat) (b : BitVec 8) : (s.setByte a b).mem = tabPut (fun _ => 0#8) s.mem a b := rfl
@[simp] theorem State.setByte_free (a : Nat) (b : BitVec 8) : (s.setByte a b).free = s.free := rfl
@[simp] theorem State.setByte_out (a : Nat) (b : BitVec 8) : (s.setByte a b).out = s.out := rfl
@[simp] theorem State.setByte_rd (a : Nat) (b : BitVec 8) (k : Nat) : (s.setByte a b).rd k = s.rd k := rfl
@[simp] theorem State.setByte_fld (a : Nat) (b : BitVec 8) (e : Fld) : (s.setByte a b).fld e = s.fld e := rfl
@[simp] theorem State.setByte_is (a : Nat) (b : BitVec 8) (e : Fld) : (s.setByte a b).is e = s.is e := rfl

/-! ## lanesDone -/

@[simp] theorem State.lanesDone_pending (l : List Nat) : (s.lanesDone l).pending = s.pending := rfl
@[simp] theorem State.lanesDone_regs (l : List Nat) : (s.lanesDone l).regs = s.regs := rfl
@[simp] theorem State.lanesDone_lanes (l : List Nat) : (s.lanesDone l).lanes = s.lanes := rfl
@[simp] theorem State.lanesDone_seqs (l : List Nat) : (s.lanesDone l).seqs = s.seqs := rfl
@[simp] theorem State.lanesDone_gpr (l : List Nat) : (s.lanesDone l).gpr = s.gpr := rfl
@[simp] theorem State.lanesDone_sup (l : List Nat) : (s.lanesDone l).sup = s.sup := rfl
@[simp] theorem State.lanesDone_cregs (l : List Nat) : (s.lanesDone l).cregs = s.cregs := rfl
@[simp] theorem State.lanesDone_chans (l : List Nat) : (s.lanesDone l).chans = s.chans := rfl
@[simp] theorem State.lanesDone_ladders (l : List Nat) : (s.lanesDone l).ladders = s.ladders := rfl
@[simp] theorem State.lanesDone_faultLog (l : List Nat) : (s.lanesDone l).faultLog = s.faultLog := rfl
@[simp] theorem State.lanesDone_shutdown (l : List Nat) : (s.lanesDone l).shutdown = s.shutdown := rfl
@[simp] theorem State.lanesDone_fab (l : List Nat) : (s.lanesDone l).fab = s.fab := rfl
@[simp] theorem State.lanesDone_clk (l : List Nat) : (s.lanesDone l).clk = s.clk := rfl
@[simp] theorem State.lanesDone_integ (l : List Nat) : (s.lanesDone l).integ = s.integ := rfl
@[simp] theorem State.lanesDone_mons (l : List Nat) : (s.lanesDone l).mons = s.mons := rfl
@[simp] theorem State.lanesDone_monAt (l : List Nat) : (s.lanesDone l).monAt = s.monAt := rfl
@[simp] theorem State.lanesDone_therm (l : List Nat) : (s.lanesDone l).therm = s.therm := rfl
@[simp] theorem State.lanesDone_perf (l : List Nat) : (s.lanesDone l).perf = s.perf := rfl
@[simp] theorem State.lanesDone_life (l : List Nat) : (s.lanesDone l).life = s.life := rfl
@[simp] theorem State.lanesDone_dma (l : List Nat) : (s.lanesDone l).dma = s.dma := rfl
@[simp] theorem State.lanesDone_pcie (l : List Nat) : (s.lanesDone l).pcie = s.pcie := rfl
@[simp] theorem State.lanesDone_smp (l : List Nat) : (s.lanesDone l).smp = s.smp := rfl
@[simp] theorem State.lanesDone_tow (l : List Nat) : (s.lanesDone l).tow = s.tow := rfl
@[simp] theorem State.lanesDone_flash (l : List Nat) : (s.lanesDone l).flash = s.flash := rfl
@[simp] theorem State.lanesDone_dorm (l : List Nat) : (s.lanesDone l).dorm = s.dorm := rfl
@[simp] theorem State.lanesDone_pins (l : List Nat) : (s.lanesDone l).pins = s.pins := rfl
@[simp] theorem State.lanesDone_supply (l : List Nat) : (s.lanesDone l).supply = s.supply := rfl
@[simp] theorem State.lanesDone_clock (l : List Nat) : (s.lanesDone l).clock = s.clock := rfl
@[simp] theorem State.lanesDone_tb (l : List Nat) : (s.lanesDone l).tb = s.tb := rfl
@[simp] theorem State.lanesDone_latch (l : List Nat) : (s.lanesDone l).latch = s.latch := rfl
@[simp] theorem State.lanesDone_msixDue (l : List Nat) : (s.lanesDone l).msixDue = s.msixDue := rfl
@[simp] theorem State.lanesDone_mem (l : List Nat) : (s.lanesDone l).mem = s.mem := rfl
@[simp] theorem State.lanesDone_free (l : List Nat) : (s.lanesDone l).free = s.free := rfl
@[simp] theorem State.lanesDone_out (l : List Nat) : (s.lanesDone l).out = s.out := rfl
@[simp] theorem State.lanesDone_rd (l : List Nat) (k : Nat) : (s.lanesDone l).rd k = s.rd k := rfl
@[simp] theorem State.lanesDone_fld (l : List Nat) (e : Fld) : (s.lanesDone l).fld e = s.fld e := rfl
@[simp] theorem State.lanesDone_is (l : List Nat) (e : Fld) : (s.lanesDone l).is e = s.is e := rfl

/-! ## settle -/

@[simp] theorem settle_pending : (settle s).pending = s.pending := rfl
@[simp] theorem settle_regs : (settle s).regs = s.regs := rfl
@[simp] theorem settle_lanes : (settle s).lanes = s.lanes := rfl
@[simp] theorem settle_seqs : (settle s).seqs = s.seqs := rfl
@[simp] theorem settle_gpr : (settle s).gpr = s.gpr := rfl
@[simp] theorem settle_sup : (settle s).sup = s.sup := rfl
@[simp] theorem settle_cregs : (settle s).cregs = s.cregs := rfl
@[simp] theorem settle_chans : (settle s).chans = s.chans := rfl
@[simp] theorem settle_ladders : (settle s).ladders = s.ladders := rfl
@[simp] theorem settle_faultLog : (settle s).faultLog = s.faultLog := rfl
@[simp] theorem settle_shutdown : (settle s).shutdown = s.shutdown := rfl
@[simp] theorem settle_fab : (settle s).fab = s.fab := rfl
@[simp] theorem settle_clk : (settle s).clk = s.clk := rfl
@[simp] theorem settle_integ : (settle s).integ = s.integ := rfl
@[simp] theorem settle_mons : (settle s).mons = s.mons := rfl
@[simp] theorem settle_monAt : (settle s).monAt = s.monAt := rfl
@[simp] theorem settle_therm : (settle s).therm = s.therm := rfl
@[simp] theorem settle_perf : (settle s).perf = s.perf := rfl
@[simp] theorem settle_life : (settle s).life = s.life := rfl
@[simp] theorem settle_dma : (settle s).dma = s.dma := rfl
@[simp] theorem settle_pcie : (settle s).pcie = s.pcie := rfl
@[simp] theorem settle_smp : (settle s).smp = s.smp := rfl
@[simp] theorem settle_tow : (settle s).tow = s.tow := rfl
@[simp] theorem settle_flash : (settle s).flash = s.flash := rfl
@[simp] theorem settle_trans : (settle s).trans = s.trans := rfl
@[simp] theorem settle_dorm : (settle s).dorm = s.dorm := rfl
@[simp] theorem settle_pins : (settle s).pins = s.pins := rfl
@[simp] theorem settle_supply : (settle s).supply = s.supply := rfl
@[simp] theorem settle_clock : (settle s).clock = s.clock := rfl
@[simp] theorem settle_tb : (settle s).tb = s.tb := rfl
@[simp] theorem settle_latch : (settle s).latch = s.latch := rfl
@[simp] theorem settle_mem : (settle s).mem = s.mem := rfl
@[simp] theorem settle_free : (settle s).free = s.free := rfl
@[simp] theorem settle_out : (settle s).out = s.out := rfl
@[simp] theorem settle_rd (b : Nat) : (settle s).rd b = s.rd b := rfl
@[simp] theorem settle_fld (e : Fld) : (settle s).fld e = s.fld e := rfl
@[simp] theorem settle_is (e : Fld) : (settle s).is e = s.is e := rfl

end Sys2Proof.Machine
end

