-- ==== Sys2Proof/Laws/Regs.lean ====
section
/-! SUPPORT. Sys2Proof/Laws/Regs.lean: registers and fields read after a write: the written value where it was written, the old value everywhere else; the counters' events
change PERF registers only. -/

namespace Sys2Proof.Machine

/-! ## Bits of a word -/

theorem bitsOf_lt (v lo w : Nat) : bitsOf v lo w < 2 ^ w := Nat.mod_lt _ (Nat.two_pow_pos w)

theorem bitsOf_testBit (v lo w i : Nat) : (bitsOf v lo w).testBit i = (decide (i < w) && v.testBit (lo + i)) := by
  unfold bitsOf
  rw [Nat.testBit_mod_two_pow, Nat.testBit_div_two_pow, Nat.add_comm]

/-- A word with a field replaced: what stood below it, the new value, what stood above it. -/
theorem setBits_toNat (w : Word) (lo wd v : Nat) (h : lo + wd ≤ 32) :
    (setBits w lo wd v).toNat = 2 ^ lo * (2 ^ wd * (w.toNat / 2 ^ (lo + wd)) + v % 2 ^ wd) + w.toNat % 2 ^ lo := by
  have hv : v % 2 ^ wd < 2 ^ wd := Nat.mod_lt _ (Nat.two_pow_pos _)
  have hl : w.toNat % 2 ^ lo < 2 ^ lo := Nat.mod_lt _ (Nat.two_pow_pos _)
  have e1 := Nat.div_add_mod w.toNat (2 ^ lo)
  have e2 := Nat.div_add_mod (w.toNat / 2 ^ lo) (2 ^ wd)
  rw [Nat.div_div_eq_div_mul, ← Nat.pow_add] at e2
  have hq : w.toNat / 2 ^ (lo + wd) < 2 ^ (32 - (lo + wd)) := by
    rw [Nat.div_lt_iff_lt_mul (Nat.two_pow_pos _), ← Nat.pow_add, show 32 - (lo + wd) + (lo + wd) = 32 by omega]
    exact w.isLt
  have hp : 2 ^ (32 - (lo + wd)) * (2 ^ wd * 2 ^ lo) = 2 ^ 32 := by
    rw [← Nat.pow_add, ← Nat.pow_add]
    congr 1
    omega
  unfold setBits bitsOf
  generalize w.toNat / 2 ^ (lo + wd) = q at *
  generalize w.toNat / 2 ^ lo % 2 ^ wd = f at *
  generalize w.toNat % 2 ^ lo = l at *
  generalize v % 2 ^ wd = x at *
  rw [← e1, ← e2]
  have e : 2 ^ lo * (2 ^ wd * q + f) + l - f * 2 ^ lo = 2 ^ lo * (2 ^ wd * q) + l := by
    rw [Nat.mul_add, Nat.mul_comm f]
    omega
  rw [e, BitVec.toNat_ofNat, Nat.mod_eq_of_lt]
  · ring
  · generalize 2 ^ (32 - (lo + wd)) = k at *
    generalize 2 ^ lo = a at *
    generalize 2 ^ wd = b at *
    rw [← hp]
    calc a * (b * q) + l + x * a < a * (b * q) + a + x * a := by omega
      _ = a * (b * q) + (x + 1) * a := by ring
      _ ≤ a * (b * q) + b * a := Nat.add_le_add_left (Nat.mul_le_mul_right a hv) _
      _ = (q + 1) * (b * a) := by ring
      _ ≤ k * (b * a) := Nat.mul_le_mul_right _ hq

theorem setBits_testBit (w : Word) (lo wd v i : Nat) (h : lo + wd ≤ 32) :
    (setBits w lo wd v).toNat.testBit i = if lo ≤ i ∧ i < lo + wd then v.testBit (i - lo) else w.toNat.testBit i := by
  rw [setBits_toNat w lo wd v h, Nat.testBit_two_pow_mul_add _ (Nat.mod_lt _ (Nat.two_pow_pos lo)),
    Nat.testBit_two_pow_mul_add _ (Nat.mod_lt _ (Nat.two_pow_pos wd))]
  simp only [Nat.testBit_mod_two_pow, Nat.testBit_div_two_pow]
  by_cases h1 : i < lo
  · simp [h1]
  · by_cases h2 : i - lo < wd
    · simp [h1, h2, show lo ≤ i by omega, show i < lo + wd by omega]
    · simp [h1, h2, show ¬ i < lo + wd by omega, show i - lo - wd + (lo + wd) = i by omega]

/-- The field itself after it was replaced. -/
theorem bitsOf_setBits_same (w : Word) (lo wd v : Nat) (h : lo + wd ≤ 32) : bitsOf (setBits w lo wd v).toNat lo wd = v % 2 ^ wd := by
  refine Nat.eq_of_testBit_eq fun i => ?_
  rw [bitsOf_testBit, setBits_testBit w lo wd v _ h, Nat.testBit_mod_two_pow]
  by_cases hi : i < wd <;> simp [hi]

/-- A field beside the one replaced. -/
theorem bitsOf_setBits_other (w : Word) (lo wd v lo' wd' : Nat) (h : lo + wd ≤ 32) (d : lo' + wd' ≤ lo ∨ lo + wd ≤ lo') :
    bitsOf (setBits w lo wd v).toNat lo' wd' = bitsOf w.toNat lo' wd' := by
  refine Nat.eq_of_testBit_eq fun i => ?_
  rw [bitsOf_testBit, bitsOf_testBit, setBits_testBit w lo wd v _ h]
  by_cases hi : i < wd'
  · rw [if_neg (by omega)]
  · simp [hi]

/-! ## Registers -/

variable (s : State)

theorem State.wr_rd (a b : Nat) (w : Word) : (s.wr a w).rd b = if b = a then w else s.rd b := tabGet_put ..

@[simp] theorem State.wr_rd_same (a : Nat) (w : Word) : (s.wr a w).rd a = w := by rw [State.wr_rd, if_pos rfl]

theorem State.wr_rd_ne {a b : Nat} (w : Word) (h : b ≠ a) : (s.wr a w).rd b = s.rd b := by rw [State.wr_rd, if_neg h]

theorem State.wr_fld_ne {a : Nat} (w : Word) (e : Fld) (h : e.addr ≠ a) : (s.wr a w).fld e = s.fld e := by
  unfold State.fld
  rw [State.wr_rd_ne s w h]

theorem State.setFld_rd_ne (f : Fld) (v : Nat) {b : Nat} (h : b ≠ f.addr) : (s.setFld f v).rd b = s.rd b := State.wr_rd_ne s _ h

theorem State.put_rd_ne (f : Fld) (v : Bool) {b : Nat} (h : b ≠ f.addr) : (s.put f v).rd b = s.rd b := State.wr_rd_ne s _ h

theorem State.bump_rd_ne (f : Fld) (v : Nat) {b : Nat} (h : b ≠ f.addr) : (s.bump f v).rd b = s.rd b := State.wr_rd_ne s _ h

theorem State.incr_rd_ne (f : Fld) {b : Nat} (h : b ≠ f.addr) : (s.incr f).rd b = s.rd b := State.wr_rd_ne s _ h

theorem State.setBit_rd_ne (f : Fld) (i : Nat) {b : Nat} (h : b ≠ f.addr) : (s.setBit f i).rd b = s.rd b := by
  unfold State.setBit
  split
  · rfl
  · exact State.setFld_rd_ne s f _ h

theorem State.clrBit_rd_ne (f : Fld) (i : Nat) {b : Nat} (h : b ≠ f.addr) : (s.clrBit f i).rd b = s.rd b := by
  unfold State.clrBit
  split
  · exact State.setFld_rd_ne s f _ h
  · rfl

/-- An event line is a bit of the lane's own block. -/
theorem State.line_rd_ne (n i : Nat) {b : Nat} (h : b ≠ (F.LRX_SEQ_EVT_LINES n).addr) : (s.line n i).rd b = s.rd b := by
  unfold State.line
  split
  · exact State.setBit_rd_ne s _ _ h
  · rfl

theorem each_rd (l : List Nat) (f : Nat → State → State) (b : Nat) (h : ∀ s : State, ∀ n ∈ l, (f n s).rd b = s.rd b) : (each l f s).rd b = s.rd b := by
  unfold each
  induction l generalizing s with
  | nil => rfl
  | cons n l ih =>
    exact (ih _ fun s k hk => h s k (List.mem_cons_of_mem _ hk)).trans (h s n List.mem_cons_self)

/-! ## Fields -/

/-- A field of a register. -/
abbrev Fld.Fits (f : Fld) : Prop := f.lo + f.wd ≤ 32

/-- Two fields that share no bit. -/
abbrev Fld.Apart (e f : Fld) : Prop := e.addr ≠ f.addr ∨ e.lo + e.wd ≤ f.lo ∨ f.lo + f.wd ≤ e.lo

theorem State.setFld_fld_same (f : Fld) (v : Nat) (h : f.Fits) : (s.setFld f v).fld f = v % 2 ^ f.wd := by
  unfold State.setFld State.fld
  rw [State.wr_rd_same]
  exact bitsOf_setBits_same _ _ _ _ h

/-- A register that stays keeps its fields. -/
theorem State.fld_congr {s t : State} {f : Fld} (h : t.rd f.addr = s.rd f.addr) : t.fld f = s.fld f := by
  unfold State.fld
  rw [h]

theorem State.is_congr {s t : State} {f : Fld} (h : t.rd f.addr = s.rd f.addr) : t.is f = s.is f := by
  unfold State.is
  rw [State.fld_congr h]

theorem State.setFld_fld_apart (f : Fld) (v : Nat) (e : Fld) (h : f.Fits) (d : e.Apart f) : (s.setFld f v).fld e = s.fld e := by
  unfold State.setFld State.fld
  by_cases ha : e.addr = f.addr
  · rw [ha, State.wr_rd_same]
    exact bitsOf_setBits_other _ _ _ _ _ _ h (d.resolve_left (not_not_intro ha))
  · rw [State.wr_rd_ne s _ ha]

theorem State.put_fld_same (f : Fld) (b : Bool) (h : f.Fits) (h1 : f.wd = 1) : (s.put f b).fld f = b2n b := by
  unfold State.put
  rw [State.setFld_fld_same s f _ h, h1]
  cases b <;> rfl

theorem State.put_is_same (f : Fld) (b : Bool) (h : f.Fits) (h1 : f.wd = 1) : (s.put f b).is f = b := by
  unfold State.is
  rw [State.put_fld_same s f b h h1]
  cases b <;> rfl

theorem State.setFld_is_apart (f : Fld) (v : Nat) (e : Fld) (h : f.Fits) (d : e.Apart f) : (s.setFld f v).is e = s.is e := by
  unfold State.is
  rw [State.setFld_fld_apart s f v e h d]

theorem State.put_is_apart (f : Fld) (b : Bool) (e : Fld) (h : f.Fits) (d : e.Apart f) : (s.put f b).is e = s.is e :=
  State.setFld_is_apart s f _ e h d

theorem State.put_fld_apart (f : Fld) (b : Bool) (e : Fld) (h : f.Fits) (d : e.Apart f) : (s.put f b).fld e = s.fld e :=
  State.setFld_fld_apart s f _ e h d

theorem State.bump_fld_same (f : Fld) (n : Nat) (h : f.Fits) : (s.bump f n).fld f = min (s.fld f + n) (2 ^ f.wd - 1) := by
  unfold State.bump
  rw [State.setFld_fld_same s f _ h, Nat.mod_eq_of_lt]
  have := Nat.two_pow_pos f.wd
  omega

theorem State.bump_fld_apart (f : Fld) (n : Nat) (e : Fld) (h : f.Fits) (d : e.Apart f) : (s.bump f n).fld e = s.fld e :=
  State.setFld_fld_apart s f _ e h d

theorem State.incr_fld_same (f : Fld) (h : f.Fits) : (s.incr f).fld f = (s.fld f + 1) % 2 ^ f.wd := State.setFld_fld_same s f _ h

theorem State.incr_fld_apart (f : Fld) (e : Fld) (h : f.Fits) (d : e.Apart f) : (s.incr f).fld e = s.fld e :=
  State.setFld_fld_apart s f _ e h d

theorem State.bump_is_apart (f : Fld) (n : Nat) (e : Fld) (h : f.Fits) (d : e.Apart f) : (s.bump f n).is e = s.is e :=
  State.setFld_is_apart s f _ e h d

theorem State.incr_is_apart (f : Fld) (e : Fld) (h : f.Fits) (d : e.Apart f) : (s.incr f).is e = s.is e := State.setFld_is_apart s f _ e h d

/-! ## Counted events: staged until the tick ends -/

/-- Two states that differ in the events staged of the tick in hand and in nothing else (R385). -/
def State.ButCount (s t : State) : Prop := ∃ p, t = { s with perf := { s.perf with part := p } }

theorem State.ButCount.refl : s.ButCount s := ⟨s.perf.part, rfl⟩

theorem State.ButCount.trans {s t u : State} (h : s.ButCount t) (k : t.ButCount u) : s.ButCount u := by
  obtain ⟨p, rfl⟩ := h
  obtain ⟨q, rfl⟩ := k
  exact ⟨q, rfl⟩

theorem State.ButCount.ite {c : Prop} [Decidable c] {s t u : State} (h : s.ButCount t) (k : s.ButCount u) :
    s.ButCount (if c then t else u) := by
  split
  · exact h
  · exact k

/-- An event counted is staged: nothing else changes. -/
theorem State.tally_butCount (e : Event) : s.ButCount (s.tally e) := by
  unfold State.tally
  generalize s.counting.filter (fun c => s.selects c.1 c.2 e) = l
  induction l generalizing s with
  | nil => exact State.ButCount.refl s
  | cons c l ih => exact State.ButCount.trans ⟨_, rfl⟩ (ih _)

/-- A bus access counted is staged: nothing else changes. -/
theorem State.busTally_butCount (m : Master) (a : Nat) (r : Resp) : s.ButCount (s.busTally m a r) := by
  have acc (t : State) : t.ButCount (if r.code = 3 ∨ r.code = 5 ∨ r.code = 6 then t else t.tally (t.masterEvent 2 m.code (some a))) :=
    (State.ButCount.refl t).ite (State.tally_butCount t _)
  have err (t : State) : t.ButCount (if r.code = 0 then t else t.tally (t.masterEvent 3 m.code (some a))) :=
    (State.ButCount.refl t).ite (State.tally_butCount t _)
  exact (acc s).trans (err _)

end Sys2Proof.Machine
end

