-- ==== Sys2Proof/Laws/Access.lean ====
section
/-! SUPPORT. Sys2Proof/Laws/Access.lean: what every accepted access of a register block does: the target's effect, its count staged in the PERF block, its answer. -/

namespace Sys2Proof.Machine

variable {s : State} {m : Master} {a : Nat}

theorem State.Reached.gate (h : s.Reached m a) : s.blockGate m a = none := by
  unfold State.blockGate
  rw [h.1, h.2]
  rfl

/-- Two states that differ in the events staged of the tick in hand, in what was sent and in the remembered interrupts only. -/
def State.Apart (s t : State) : Prop := ∃ p o d, t = { s with perf := { s.perf with part := p }, out := o, msixDue := d }

theorem State.Apart.rd {t : State} (h : s.Apart t) (b : Nat) : t.rd b = s.rd b := by
  obtain ⟨p, o, d, rfl⟩ := h
  rfl

theorem State.Apart.fld {t : State} (h : s.Apart t) (f : Fld) : t.fld f = s.fld f := by
  unfold State.fld
  rw [h.rd]

theorem State.Apart.is {t : State} (h : s.Apart t) (f : Fld) : t.is f = s.is f := by
  unfold State.is
  rw [h.fld]

/-- An access that reaches its target: the target's effect, and the answer sent. -/
theorem via_spec (f : State → State × Resp) (h : s.Reached m a) :
    (f s).1.Apart (settle (s.via a m f)) ∧ (settle (s.via a m f)).out = .response m (f s).2.code 0 :: (f s).1.out := by
  unfold State.via State.onBus
  rw [h.gate]
  obtain ⟨p, hr⟩ := State.busTally_butCount (f s).1 m a (f s).2
  unfold answer State.emit settle
  dsimp only
  rw [hr]
  exact ⟨⟨_, _, _, rfl⟩, rfl⟩

/-- The same for a read. -/
theorem viaRead_spec (f : State → State × Resp × Word) (h : s.Reached m a) :
    (f s).1.Apart (settle (s.viaRead a m f)) ∧
      (settle (s.viaRead a m f)).out = .response m (f s).2.1.code (f s).2.2.toNat :: (f s).1.out := by
  unfold State.viaRead State.onBusRead
  rw [h.gate]
  obtain ⟨p, hr⟩ := State.busTally_butCount (f s).1 m a (f s).2.1
  unfold answerRead State.emit settle
  dsimp only
  rw [hr]
  exact ⟨⟨_, _, _, rfl⟩, rfl⟩

/-- A write command completes when its access reaches the target. -/
theorem via_completes {c : Instr} {f : State → State × Resp} {q : State → Prop} (e : exec c s = done (s.via a m f)) (h : s.Reached m a)
    (k : ∀ t, (f s).1.Apart t → t.out = .response m (f s).2.code 0 :: (f s).1.out → q t) : Completes c s q :=
  ⟨_, e, k _ (via_spec f h).1 (via_spec f h).2⟩

theorem viaRead_completes {c : Instr} {f : State → State × Resp × Word} {q : State → Prop} (e : exec c s = done (s.viaRead a m f)) (h : s.Reached m a)
    (k : ∀ t, (f s).1.Apart t → t.out = .response m (f s).2.1.code (f s).2.2.toNat :: (f s).1.out → q t) : Completes c s q :=
  ⟨_, e, k _ (viaRead_spec f h).1 (viaRead_spec f h).2⟩

/-- An event completes with its effect. -/
theorem done_completes {c : Instr} {u : State} {q : State → Prop} (e : exec c s = done u) (k : q (settle u)) : Completes c s q := ⟨_, e, k⟩


theorem settle_apart (s : State) : s.Apart (settle s) := ⟨_, _, _, rfl⟩

/-! ## What outcomes and configuration errors write -/

theorem Master.holder_lt (m : Master) : m.holder < 16 := by
  cases m <;> exact Nat.le_of_ble_eq_true rfl

theorem each_out (l : List Nat) (f : Nat → State → State) (s : State) (h : ∀ s n, (f n s).out = s.out) : (each l f s).out = s.out := by
  unfold each
  induction l generalizing s with
  | nil => rfl
  | cons n l ih => exact (ih _).trans (h s n)

theorem State.line_out (s : State) (n i : Nat) : (s.line n i).out = s.out := by
  unfold State.line State.setBit
  split
  · split
    · rfl
    · exact State.setFld_out ..
  · rfl

theorem State.line_rd_dev (s : State) (n i : Nat) {b : Nat} (h : b < 0x04100000) : (s.line n i).rd b = s.rd b :=
  State.line_rd_ne s n i (by simp only [F.LRX_SEQ_EVT_LINES, R.LRX_SEQ_EVT, laneBase]; omega)

/-- MODE.RESULT and its event, among the device registers. -/
theorem State.outcome_rd (s : State) (c r : Nat) {b : Nat} (h : b < 0x04100000) :
    (s.outcome c r).rd b = ((((s.setFld F.MODE_RESULT_CODE c).setFld F.MODE_RESULT_SOURCE r).incr F.MODE_RESULT_SEQ).put F.MODE_EVENT_RESULT true).rd b := by
  unfold State.outcome
  dsimp only
  rw [each_rd _ _ _ _ fun s n _ => State.line_rd_dev s n 19 h]

theorem State.outcome_fld (s : State) (c r : Nat) (f : Fld) (h : f.addr < 0x04100000) :
    (s.outcome c r).fld f = ((((s.setFld F.MODE_RESULT_CODE c).setFld F.MODE_RESULT_SOURCE r).incr F.MODE_RESULT_SEQ).put F.MODE_EVENT_RESULT true).fld f :=
  State.fld_congr (State.outcome_rd s c r h)

theorem State.outcome_is (s : State) (c r : Nat) (f : Fld) (h : f.addr < 0x04100000) :
    (s.outcome c r).is f = ((((s.setFld F.MODE_RESULT_CODE c).setFld F.MODE_RESULT_SOURCE r).incr F.MODE_RESULT_SEQ).put F.MODE_EVENT_RESULT true).is f :=
  State.is_congr (State.outcome_rd s c r h)

theorem State.outcome_rd_ne (s : State) (c r : Nat) {b : Nat} (h : b < 0x04100000) (h1 : b ≠ R.MODE_RESULT) (h2 : b ≠ R.MODE_EVENT) :
    (s.outcome c r).rd b = s.rd b := by
  rw [State.outcome_rd s c r h, State.put_rd_ne _ _ _ h2, State.incr_rd_ne _ _ h1, State.setFld_rd_ne _ _ _ h1, State.setFld_rd_ne _ _ _ h1]

theorem State.outcome_out (s : State) (c r : Nat) : (s.outcome c r).out = s.out := by
  unfold State.outcome
  dsimp only
  rw [each_out _ _ _ fun s n => State.line_out s n 19]
  rfl

/-- The code of a refused mode request fits its field. -/
theorem State.requestRefusal_lt {s : State} {m : Master} {t c : Nat} {fx rt : Bool} (h : s.requestRefusal m t fx rt = some c) : c < 16 := by
  unfold State.requestRefusal at h
  dsimp only at h
  repeat' split at h
  all_goals first | (cases h; decide) | cases h

end Sys2Proof.Machine
end

