-- ==== Sys2Proof/Laws/Closed.lean ====
section
/-! SUPPORT. Sys2Proof/Laws/Closed.lean: the updates every meaning is made of, one for each part of State, as closure conditions of a predicate on states. A predicate closed
under the updates of a set of parts is kept by every operation that changes no other part (Sys2Proof/Laws/Keeps*.lean), and so by every command and every step. -/

namespace Sys2Proof.Machine

/-- One set of parts, as a mask of `Part.bit`, lies in another. -/
def Sub (a b : Nat) : Prop := a &&& b = a

theorem Sub.sub {a b k : Nat} (h : Sub b k) (e : a &&& b = a) : Sub a k := by
  unfold Sub at *
  rw [← e, Nat.and_assoc, h]

theorem Sub.refl (a : Nat) : Sub a a := Nat.and_self a

/-- A predicate that survives every update of the parts in `k`: a table or a part with its own tables in their form, and any value for the rest. The queue is no part. -/
structure Closed (k : Nat) (P : State → Prop) : Prop where
  regs : Sub 0x1 k → ∀ {s : State} {x}, P s → (tabWf regReset s.regs = true → tabWf regReset x = true) → P { s with regs := x }
  lanes : Sub 0x2 k → ∀ {s : State} {x}, P s → (tabWf (fun _ => Lane.init) s.lanes = true → tabWf (fun _ => Lane.init) x = true) → P { s with lanes := x }
  seqs : Sub 0x4 k → ∀ {s : State} {x}, P s → (tabWf (fun _ => Seq.init) s.seqs = true → tabWf (fun _ => Seq.init) x = true) → P { s with seqs := x }
  gpr : Sub 0x8 k → ∀ {s : State} {x}, P s → (tabWf (fun _ => 0#32) s.gpr = true → tabWf (fun _ => 0#32) x = true) → P { s with gpr := x }
  sup : Sub 0x10 k → ∀ {s : State} {x : Sup}, P s → P { s with sup := x }
  cregs : Sub 0x20 k → ∀ {s : State} {x}, P s → (tabWf cregReset s.cregs = true → tabWf cregReset x = true) → P { s with cregs := x }
  chans : Sub 0x40 k → ∀ {s : State} {x}, P s → (tabWf (fun _ => Chan.init) s.chans = true → tabWf (fun _ => Chan.init) x = true) → P { s with chans := x }
  ladders : Sub 0x80 k → ∀ {s : State} {x}, P s → (tabWf (fun _ => Ladder.init) s.ladders = true → tabWf (fun _ => Ladder.init) x = true) → P { s with ladders := x }
  faultLog : Sub 0x100 k → ∀ {s : State} {x : List LogEntry}, P s → P { s with faultLog := x }
  shutdown : Sub 0x200 k → ∀ {s : State} {x : BitVec 6}, P s → P { s with shutdown := x }
  fab : Sub 0x400 k → ∀ {s : State} {x : Fabric}, P s → (s.fab.wf = true → x.wf = true) → P { s with fab := x }
  clk : Sub 0x800 k → ∀ {s : State} {x : Clocks}, P s → P { s with clk := x }
  integ : Sub 0x1000 k → ∀ {s : State} {x : Integ}, P s → (s.integ.wf = true → x.wf = true) → P { s with integ := x }
  mons : Sub 0x2000 k → ∀ {s : State} {x}, P s → (tabWf (fun _ => MonChan.init) s.mons = true → tabWf (fun _ => MonChan.init) x = true) → P { s with mons := x }
  monAt : Sub 0x4000 k → ∀ {s : State} {x : Option Nat}, P s → P { s with monAt := x }
  therm : Sub 0x8000 k → ∀ {s : State} {x : Therm}, P s → (s.therm.wf = true → x.wf = true) → P { s with therm := x }
  perf : Sub 0x10000 k → ∀ {s : State} {x : Perf}, P s → (s.perf.wf = true → x.wf = true) → P { s with perf := x }
  life : Sub 0x20000 k → ∀ {s : State} {x : Life}, P s → P { s with life := x }
  dma : Sub 0x40000 k → ∀ {s : State} {x}, P s → (tabWf (fun _ => DmaChan.init) s.dma = true → tabWf (fun _ => DmaChan.init) x = true) → P { s with dma := x }
  pcie : Sub 0x80000 k → ∀ {s : State} {x : Pcie}, P s → (s.pcie.wf = true → x.wf = true) → P { s with pcie := x }
  smp : Sub 0x100000 k → ∀ {s : State} {x : Smp}, P s → P { s with smp := x }
  tow : Sub 0x200000 k → ∀ {s : State} {x : Tow}, P s → (s.tow.wf = true → x.wf = true) → P { s with tow := x }
  flash : Sub 0x400000 k → ∀ {s : State} {x : Option FlashRun}, P s → P { s with flash := x }
  trans : Sub 0x800000 k → ∀ {s : State} {x : Trans}, P s → P { s with trans := x }
  dorm : Sub 0x1000000 k → ∀ {s : State} {x : Dorm}, P s → P { s with dorm := x }
  pins : Sub 0x2000000 k → ∀ {s : State} {x : Pins}, P s → P { s with pins := x }
  supply : Sub 0x4000000 k → ∀ {s : State} {x : Supplies}, P s → P { s with supply := x }
  clock : Sub 0x8000000 k → ∀ {s : State} {x : Nat}, P s → P { s with clock := x }
  tb : Sub 0x10000000 k → ∀ {s : State} {x : BitVec 64}, P s → P { s with tb := x }
  latch : Sub 0x20000000 k → ∀ {s : State} {x}, P s → (tabWf (fun _ => 0#32) s.latch = true → tabWf (fun _ => 0#32) x = true) → P { s with latch := x }
  msixDue : Sub 0x40000000 k → ∀ {s : State} {x : BitVec 64}, P s → P { s with msixDue := x }
  mem : Sub 0x80000000 k → ∀ {s : State} {x}, P s → (tabWf (fun _ => 0#8) s.mem = true → tabWf (fun _ => 0#8) x = true) → P { s with mem := x }
  free : Sub 0x100000000 k → ∀ {s : State} {x : Nat}, P s → P { s with free := x }
  out : Sub 0x200000000 k → ∀ {s : State} {x : List Out}, P s → P { s with out := x }

variable {P : State → Prop} {K : Nat}

/-! ## Branches and runs -/

theorem closed_ite {c : Prop} [Decidable c] {a b : State} (ha : P a) (hb : P b) : P (if c then a else b) := by
  split
  · exact ha
  · exact hb

theorem closed_ite_fst {α : Type} {c : Prop} [Decidable c] {a b : State × α} (ha : P a.1) (hb : P b.1) : P (if c then a else b).1 := by
  split
  · exact ha
  · exact hb

theorem closed_foldl {α : Type} {f : State → α → State} (l : List α) {s : State} (h : P s) (hf : ∀ s a, P s → P (f s a)) : P (l.foldl f s) := by
  induction l generalizing s with
  | nil => exact h
  | cons a l ih => exact ih (hf s a h)

theorem closed_foldl_fst {α β : Type} {f : State × β → α → State × β} (l : List α) {x : State × β} (h : P x.1)
    (hf : ∀ x a, P x.1 → P (f x a).1) : P (l.foldl f x).1 := by
  induction l generalizing x with
  | nil => exact h
  | cons a l ih => exact ih (hf x a h)

theorem closed_each {f : Nat → State → State} (l : List Nat) {s : State} (h : P s) (hf : ∀ n s, P s → P (f n s)) : P (each l f s) :=
  closed_foldl l h fun s n => hf n s

/-- A state with the same queue whose tables keep their form, when every part may change. -/
theorem closed_of (C : Closed K P) (hK : Sub 0x3ffffffff K) {s t : State} (h : P s) (pending : t.pending = s.pending)
    (regs : tabWf regReset s.regs = true → tabWf regReset t.regs = true)
    (lanes : tabWf (fun _ => Lane.init) s.lanes = true → tabWf (fun _ => Lane.init) t.lanes = true)
    (seqs : tabWf (fun _ => Seq.init) s.seqs = true → tabWf (fun _ => Seq.init) t.seqs = true)
    (gpr : tabWf (fun _ => 0#32) s.gpr = true → tabWf (fun _ => 0#32) t.gpr = true)
    (cregs : tabWf cregReset s.cregs = true → tabWf cregReset t.cregs = true)
    (chans : tabWf (fun _ => Chan.init) s.chans = true → tabWf (fun _ => Chan.init) t.chans = true)
    (ladders : tabWf (fun _ => Ladder.init) s.ladders = true → tabWf (fun _ => Ladder.init) t.ladders = true)
    (mons : tabWf (fun _ => MonChan.init) s.mons = true → tabWf (fun _ => MonChan.init) t.mons = true)
    (dma : tabWf (fun _ => DmaChan.init) s.dma = true → tabWf (fun _ => DmaChan.init) t.dma = true)
    (latch : tabWf (fun _ => 0#32) s.latch = true → tabWf (fun _ => 0#32) t.latch = true)
    (mem : tabWf (fun _ => 0#8) s.mem = true → tabWf (fun _ => 0#8) t.mem = true)
    (fab : s.fab.wf = true → t.fab.wf = true)
    (integ : s.integ.wf = true → t.integ.wf = true)
    (therm : s.therm.wf = true → t.therm.wf = true)
    (perf : s.perf.wf = true → t.perf.wf = true)
    (pcie : s.pcie.wf = true → t.pcie.wf = true)
    (tow : s.tow.wf = true → t.tow.wf = true) : P t := by
  have h := C.regs (hK.sub rfl) h regs
  have h := C.lanes (hK.sub rfl) h lanes
  have h := C.seqs (hK.sub rfl) h seqs
  have h := C.gpr (hK.sub rfl) h gpr
  have h := C.sup (hK.sub rfl) (x := t.sup) h
  have h := C.cregs (hK.sub rfl) h cregs
  have h := C.chans (hK.sub rfl) h chans
  have h := C.ladders (hK.sub rfl) h ladders
  have h := C.faultLog (hK.sub rfl) (x := t.faultLog) h
  have h := C.shutdown (hK.sub rfl) (x := t.shutdown) h
  have h := C.fab (hK.sub rfl) h fab
  have h := C.clk (hK.sub rfl) (x := t.clk) h
  have h := C.integ (hK.sub rfl) h integ
  have h := C.mons (hK.sub rfl) h mons
  have h := C.monAt (hK.sub rfl) (x := t.monAt) h
  have h := C.therm (hK.sub rfl) h therm
  have h := C.perf (hK.sub rfl) h perf
  have h := C.life (hK.sub rfl) (x := t.life) h
  have h := C.dma (hK.sub rfl) h dma
  have h := C.pcie (hK.sub rfl) h pcie
  have h := C.smp (hK.sub rfl) (x := t.smp) h
  have h := C.tow (hK.sub rfl) h tow
  have h := C.flash (hK.sub rfl) (x := t.flash) h
  have h := C.trans (hK.sub rfl) (x := t.trans) h
  have h := C.dorm (hK.sub rfl) (x := t.dorm) h
  have h := C.pins (hK.sub rfl) (x := t.pins) h
  have h := C.supply (hK.sub rfl) (x := t.supply) h
  have h := C.clock (hK.sub rfl) (x := t.clock) h
  have h := C.tb (hK.sub rfl) (x := t.tb) h
  have h := C.latch (hK.sub rfl) h latch
  have h := C.msixDue (hK.sub rfl) (x := t.msixDue) h
  have h := C.mem (hK.sub rfl) h mem
  have h := C.free (hK.sub rfl) (x := t.free) h
  have h := C.out (hK.sub rfl) (x := t.out) h
  obtain ⟨⟩ := t
  cases pending
  exact h

/-! ## The canonical form of parts -/

theorem tabWf_move {α : Type} [DecidableEq α] (dflt : Nat → α) (l : List (Nat × α)) (src dst n : Nat) (w : tabWf dflt l = true) :
    tabWf dflt (tabMove dflt l src dst n) = true := by
  unfold tabMove
  generalize l.filter _ = m
  have := tabWf_clear (inRange (dst, n)) l w
  generalize tabClear _ l = b at this
  induction m generalizing b with
  | nil => exact this
  | cons c m ih => exact ih _ (tabWf_put _ _ _ this)

end Sys2Proof.Machine
end

