-- ==== Sys2Proof/Laws/KeepsA.lean ====
section
/-! SUPPORT. Sys2Proof/Laws/KeepsA.lean: what each operation keeps: a predicate closed under the updates of
Sys2Proof/Laws/Closed.lean that the operation makes holds after it. Here: registers, memories, the lanes, faults, modes and the receivers. -/

namespace Sys2Proof.Machine

variable {P : State → Prop} {K : Nat}

theorem State.wr_closed (C : Closed K P) (hK : Sub 0x1 K) (s : State) (a : Nat) (w : Word) (hP : P s) : P (State.wr s a w) := by
  unfold State.wr
  try dsimp only
  repeat' (first | with_reducible assumption | with_reducible exact fun w => w | with_reducible exact fun w => tabWf_put _ _ _ w | with_reducible apply C.regs (hK.sub rfl))

theorem State.setFld_closed (C : Closed K P) (hK : Sub 0x1 K) (s : State) (f : Fld) (v : Nat) (hP : P s) : P (State.setFld s f v) := by
  unfold State.setFld
  try dsimp only
  repeat' (first | with_reducible assumption | with_reducible apply State.wr_closed C (hK.sub rfl))

theorem State.put_closed (C : Closed K P) (hK : Sub 0x1 K) (s : State) (f : Fld) (b : Bool) (hP : P s) : P (State.put s f b) := by
  unfold State.put
  try dsimp only
  repeat' (first | with_reducible assumption | with_reducible apply State.setFld_closed C (hK.sub rfl))

theorem State.setBit_closed (C : Closed K P) (hK : Sub 0x1 K) (s : State) (f : Fld) (i : Nat) (hP : P s) : P (State.setBit s f i) := by
  unfold State.setBit
  try dsimp only
  repeat' (first | with_reducible assumption | with_reducible apply State.setFld_closed C (hK.sub rfl) | with_reducible apply closed_ite)

theorem State.clrBit_closed (C : Closed K P) (hK : Sub 0x1 K) (s : State) (f : Fld) (i : Nat) (hP : P s) : P (State.clrBit s f i) := by
  unfold State.clrBit
  try dsimp only
  repeat' (first | with_reducible assumption | with_reducible apply State.setFld_closed C (hK.sub rfl) | with_reducible apply closed_ite)

theorem State.bump_closed (C : Closed K P) (hK : Sub 0x1 K) (s : State) (f : Fld) (n : Nat) (hP : P s) : P (State.bump s f n) := by
  unfold State.bump
  try dsimp only
  repeat' (first | with_reducible assumption | with_reducible apply State.setFld_closed C (hK.sub rfl))

theorem State.incr_closed (C : Closed K P) (hK : Sub 0x1 K) (s : State) (f : Fld) (hP : P s) : P (State.incr s f) := by
  unfold State.incr
  try dsimp only
  repeat' (first | with_reducible assumption | with_reducible apply State.setFld_closed C (hK.sub rfl))

theorem State.resetRegs_closed (C : Closed K P) (hK : Sub 0x1 K) (s : State) (p : ResetDomain → Bool) (hP : P s) : P (State.resetRegs s p) := by
  unfold State.resetRegs
  try dsimp only
  repeat' (first | with_reducible assumption | with_reducible exact fun w => w | with_reducible exact fun w => tabWf_clear _ _ w | intro _ | with_reducible apply C.regs (hK.sub rfl))

theorem State.emit_closed (C : Closed K P) (hK : Sub 0x200000000 K) (s : State) (o : Out) (hP : P s) : P (State.emit s o) := by
  unfold State.emit
  try dsimp only
  repeat' (first | with_reducible assumption | with_reducible apply C.out (hK.sub rfl))

theorem State.use_closed (C : Closed K P) (hK : Sub 0x100000000 K) (s : State) (hP : P s) : P (State.use s) := by
  unfold State.use
  try dsimp only
  repeat' (first | with_reducible assumption | with_reducible apply C.free (hK.sub rfl))

theorem State.setLane_closed (C : Closed K P) (hK : Sub 0x2 K) (s : State) (n : Nat) (l : Lane) (hP : P s) : P (State.setLane s n l) := by
  unfold State.setLane
  try dsimp only
  repeat' (first | with_reducible assumption | with_reducible exact fun w => w | with_reducible exact fun w => tabWf_put _ _ _ w | intro _ | with_reducible apply C.lanes (hK.sub rfl))

theorem State.setSeq_closed (C : Closed K P) (hK : Sub 0x4 K) (s : State) (n : Nat) (q : Seq) (hP : P s) : P (State.setSeq s n q) := by
  unfold State.setSeq
  try dsimp only
  repeat' (first | with_reducible assumption | with_reducible exact fun w => w | with_reducible exact fun w => tabWf_put _ _ _ w | intro _ | with_reducible apply C.seqs (hK.sub rfl))

theorem State.setChan_closed (C : Closed K P) (hK : Sub 0x40 K) (s : State) (c : Nat) (h : Chan) (hP : P s) : P (State.setChan s c h) := by
  unfold State.setChan
  try dsimp only
  repeat' (first | with_reducible assumption | with_reducible exact fun w => w | with_reducible exact fun w => tabWf_put _ _ _ w | intro _ | with_reducible apply C.chans (hK.sub rfl))

theorem State.setLadder_closed (C : Closed K P) (hK : Sub 0x80 K) (s : State) (n : Nat) (l : Ladder) (hP : P s) : P (State.setLadder s n l) := by
  unfold State.setLadder
  try dsimp only
  repeat' (first | with_reducible assumption | with_reducible exact fun w => w | with_reducible exact fun w => tabWf_put _ _ _ w | intro _ | with_reducible apply C.ladders (hK.sub rfl))

theorem answer_closed (C : Closed K P) (hK : Sub 0x200000000 K) (m : Master) (x : State × Resp) (hP : P x.1) : P (answer m x) := by
  unfold answer
  try dsimp only
  repeat' (first | with_reducible assumption | with_reducible apply State.emit_closed C (hK.sub rfl))

theorem answerRead_closed (C : Closed K P) (hK : Sub 0x200000000 K) (m : Master) (x : State × Resp × Word) (hP : P x.1) : P (answerRead m x) := by
  unfold answerRead
  try dsimp only
  repeat' (first | with_reducible assumption | with_reducible apply State.emit_closed C (hK.sub rfl))

theorem State.setCreg_closed (C : Closed K P) (hK : Sub 0x20 K) (s : State) (n : Nat) (v : Word) (hP : P s) : P (State.setCreg s n v) := by
  unfold State.setCreg
  try dsimp only
  repeat' (first | with_reducible assumption | with_reducible exact fun w => w | with_reducible exact fun w => tabWf_put _ _ _ w | with_reducible apply C.cregs (hK.sub rfl))

theorem State.setCounter_closed (C : Closed K P) (hK : Sub 0x1 K) (s : State) (i v : Nat) (hP : P s) : P (State.setCounter s i v) := by
  unfold State.setCounter
  try dsimp only
  repeat' (first | with_reducible assumption | with_reducible apply State.wr_closed C (hK.sub rfl))

theorem State.wrapped_closed (C : Closed K P) (hK : Sub 0x1 K) (s : State) (i : Nat) (hP : P s) : P (State.wrapped s i) := by
  unfold State.wrapped
  try dsimp only
  repeat' (first | with_reducible assumption | with_reducible apply State.setBit_closed C (hK.sub rfl) | with_reducible apply State.put_closed C (hK.sub rfl) | with_reducible apply closed_ite)

theorem State.addCount_closed (C : Closed K P) (hK : Sub 0x1 K) (s : State) (i n : Nat) (hP : P s) : P (State.addCount s i n) := by
  unfold State.addCount
  try dsimp only
  repeat' (first | with_reducible assumption | with_reducible apply State.wrapped_closed C (hK.sub rfl) | with_reducible apply State.setCounter_closed C (hK.sub rfl) | with_reducible apply closed_ite)

theorem State.setPart_closed (C : Closed K P) (hK : Sub 0x10000 K) (s : State) (i n : Nat) (hP : P s) : P (State.setPart s i n) := by
  unfold State.setPart
  try dsimp only
  repeat' (first | with_reducible assumption | with_reducible exact fun w => w | with_reducible exact fun w => tabWf_put _ _ _ w | exact fun w => w | (intro w; simp only [Perf.wf, Bool.and_eq_true] at w ⊢; simp only [w, tabWf_put, and_self]) | intro _ | with_reducible apply C.perf (hK.sub rfl))

theorem State.tally_closed (C : Closed K P) (hK : Sub 0x10000 K) (s : State) (e : Event) (hP : P s) : P (State.tally s e) := by
  unfold State.tally
  try dsimp only
  repeat' (first | with_reducible assumption | intro _ | with_reducible apply State.setPart_closed C (hK.sub rfl) | with_reducible apply closed_foldl | with_reducible apply closed_foldl_fst)

theorem State.bwCount_closed (C : Closed K P) (hK : Sub 0x10000 K) (s : State) (k n : Nat) (hP : P s) : P (State.bwCount s k n) := by
  unfold State.bwCount
  try dsimp only
  repeat' (first | with_reducible assumption | with_reducible exact fun w => w | with_reducible exact fun w => tabWf_put _ _ _ w | exact fun w => w | (intro w; simp only [Perf.wf, Bool.and_eq_true] at w ⊢; simp only [w, tabWf_put, and_self]) | intro _ | with_reducible apply closed_ite | with_reducible apply C.perf (hK.sub rfl))

theorem State.busTally_closed (C : Closed K P) (hK : Sub 0x10000 K) (s : State) (m : Master) (a : Nat) (r : Resp) (hP : P s) : P (State.busTally s m a r) := by
  unfold State.busTally
  try dsimp only
  repeat' (first | with_reducible assumption | with_reducible apply State.tally_closed C (hK.sub rfl) | with_reducible apply closed_ite)

theorem each_closed (_ : Closed K P) (_ : Sub 0x0 K) (l : List Nat) (f : Nat → State → State) (s : State) (h : P s) (hf : ∀ n s, P s → P (f n s)) : P (each l f s) :=
  closed_each l h hf

theorem State.line_closed (C : Closed K P) (hK : Sub 0x1 K) (s : State) (n i : Nat) (hP : P s) : P (State.line s n i) := by
  unfold State.line
  try dsimp only
  repeat' (first | with_reducible assumption | with_reducible apply State.setBit_closed C (hK.sub rfl) | with_reducible apply closed_ite)

theorem State.pairLine_closed (C : Closed K P) (hK : Sub 0x1 K) (s : State) (n i : Nat) (hP : P s) : P (State.pairLine s n i) := by
  unfold State.pairLine
  try dsimp only
  repeat' (first | with_reducible assumption | with_reducible apply State.line_closed C (hK.sub rfl))

theorem settle_closed (C : Closed K P) (hK : Sub 0x40000000 K) (s : State) (hP : P s) : P (settle s) := by
  unfold settle
  try dsimp only
  repeat' (first | with_reducible assumption | with_reducible apply C.msixDue (hK.sub rfl))

theorem State.arrived_closed (C : Closed K P) (hK : Sub 0x1 K) (s : State) (c : Nat) (hP : P s) : P (State.arrived s c) := by
  unfold State.arrived
  try dsimp only
  repeat' (first | with_reducible assumption | with_reducible apply State.line_closed C (hK.sub rfl) | with_reducible apply State.setBit_closed C (hK.sub rfl) | with_reducible apply closed_ite)

theorem State.spaced_closed (C : Closed K P) (hK : Sub 0x1 K) (s : State) (c : Nat) (hP : P s) : P (State.spaced s c) := by
  unfold State.spaced
  try dsimp only
  repeat' (first | with_reducible assumption | with_reducible apply State.line_closed C (hK.sub rfl) | with_reducible apply State.setBit_closed C (hK.sub rfl) | with_reducible apply closed_ite)

theorem State.post_closed (C : Closed K P) (hK : Sub 0x41 K) (s : State) (c : Nat) (lo hi : Word) (hP : P s) : P (State.post s c lo hi).1 := by
  unfold State.post
  try dsimp only
  repeat' (first | with_reducible assumption | with_reducible apply State.arrived_closed C (hK.sub rfl) | with_reducible apply State.setChan_closed C (hK.sub rfl) | with_reducible apply State.incr_closed C (hK.sub rfl) | with_reducible apply State.setFld_closed C (hK.sub rfl) | with_reducible apply closed_ite | with_reducible apply closed_ite_fst)

theorem State.take_closed (C : Closed K P) (hK : Sub 0x41 K) (s : State) (c : Nat) (hP : P s) : P (State.take s c).1 := by
  unfold State.take
  try dsimp only
  repeat' (first | with_reducible assumption | with_reducible apply State.spaced_closed C (hK.sub rfl) | with_reducible apply State.setChan_closed C (hK.sub rfl) | with_reducible apply closed_ite | with_reducible apply closed_ite_fst | split)

theorem State.receiverReset_closed (C : Closed K P) (hK : Sub 0x40 K) (s : State) (c : Nat) (hP : P s) : P (State.receiverReset s c) := by
  unfold State.receiverReset
  try dsimp only
  repeat' (first | with_reducible assumption | intro _ | with_reducible apply State.setChan_closed C (hK.sub rfl))

theorem State.withdraw_closed (C : Closed K P) (hK : Sub 0x41 K) (s : State) (c : Nat) (hP : P s) : P (State.withdraw s c) := by
  unfold State.withdraw
  try dsimp only
  repeat' (first | with_reducible assumption | with_reducible apply State.setChan_closed C (hK.sub rfl) | with_reducible apply State.setFld_closed C (hK.sub rfl))

theorem State.senderReset_closed (C : Closed K P) (hK : Sub 0x41 K) (s : State) (c : Nat) (hP : P s) : P (State.senderReset s c) := by
  unfold State.senderReset
  try dsimp only
  repeat' (first | with_reducible assumption | with_reducible apply State.withdraw_closed C (hK.sub rfl) | with_reducible apply State.line_closed C (hK.sub rfl) | with_reducible apply State.setBit_closed C (hK.sub rfl) | with_reducible apply closed_ite)

theorem State.lanePartyReset_closed (C : Closed K P) (hK : Sub 0x41 K) (s : State) (n : Nat) (hP : P s) : P (State.lanePartyReset s n) := by
  unfold State.lanePartyReset
  try dsimp only
  repeat' (first | with_reducible assumption | with_reducible apply State.senderReset_closed C (hK.sub rfl) | with_reducible apply State.receiverReset_closed C (hK.sub rfl))

theorem State.partyReset_closed (C : Closed K P) (hK : Sub 0x41 K) (s : State) (sends takes : Nat) (hP : P s) : P (State.partyReset s sends takes) := by
  unfold State.partyReset
  try dsimp only
  repeat' (first | with_reducible assumption | with_reducible apply State.senderReset_closed C (hK.sub rfl) | with_reducible apply State.receiverReset_closed C (hK.sub rfl))

theorem State.supPartyReset_closed (C : Closed K P) (hK : Sub 0x41 K) (s : State) (hP : P s) : P (State.supPartyReset s) := by
  unfold State.supPartyReset
  try dsimp only
  repeat' (first | with_reducible assumption | with_reducible apply State.senderReset_closed C (hK.sub rfl) | with_reducible apply State.receiverReset_closed C (hK.sub rfl) | with_reducible apply closed_foldl | with_reducible apply closed_foldl_fst)

theorem State.setShadow_closed (C : Closed K P) (hK : Sub 0x1 K) (s : State) (n w : Nat) (v : Word) (hP : P s) : P (State.setShadow s n w v) := by
  unfold State.setShadow
  try dsimp only
  repeat' (first | with_reducible assumption | with_reducible apply State.wr_closed C (hK.sub rfl))

theorem State.showCursor_closed (C : Closed K P) (hK : Sub 0x1 K) (s : State) (n : Nat) (hP : P s) : P (State.showCursor s n) := by
  unfold State.showCursor
  try dsimp only
  repeat' (first | with_reducible assumption | with_reducible apply State.setFld_closed C (hK.sub rfl) | with_reducible apply closed_ite)

theorem State.showPeaking_closed (C : Closed K P) (hK : Sub 0x200000000 K) (s : State) (n : Nat) (hP : P s) : P (State.showPeaking s n) := by
  unfold State.showPeaking
  try dsimp only
  repeat' (first | with_reducible assumption | with_reducible apply State.emit_closed C (hK.sub rfl) | with_reducible apply closed_ite)

theorem State.swapBanks_closed (C : Closed K P) (hK : Sub 0x200000001 K) (s : State) (n : Nat) (hP : P s) : P (State.swapBanks s n) := by
  unfold State.swapBanks
  try dsimp only
  repeat' (first | with_reducible assumption | intro _ | with_reducible apply State.showPeaking_closed C (hK.sub rfl) | with_reducible apply State.showCursor_closed C (hK.sub rfl) | with_reducible apply State.setFld_closed C (hK.sub rfl) | with_reducible apply State.wr_closed C (hK.sub rfl) | with_reducible apply closed_foldl | with_reducible apply closed_foldl_fst | with_reducible apply closed_ite)

theorem State.commit_closed (C : Closed K P) (hK : Sub 0x200010001 K) (s : State) (n : Nat) (hP : P s) : P (State.commit s n).1 := by
  unfold State.commit
  try dsimp only
  repeat' (first | with_reducible assumption | with_reducible apply State.swapBanks_closed C (hK.sub rfl) | with_reducible apply State.tally_closed C (hK.sub rfl) | with_reducible apply State.put_closed C (hK.sub rfl) | with_reducible apply closed_ite | with_reducible apply closed_ite_fst)

theorem State.setG_closed (C : Closed K P) (hK : Sub 0x8 K) (s : State) (k r : Nat) (v : Word) (hP : P s) : P (State.setG s k r v) := by
  unfold State.setG
  try dsimp only
  repeat' (first | with_reducible assumption | with_reducible exact fun w => w | with_reducible exact fun w => tabWf_put _ _ _ w | intro _ | with_reducible apply closed_ite | with_reducible apply C.gpr (hK.sub rfl))

theorem State.clearG_closed (C : Closed K P) (hK : Sub 0x8 K) (s : State) (k : Nat) (hP : P s) : P (State.clearG s k) := by
  unfold State.clearG
  try dsimp only
  repeat' (first | with_reducible assumption | with_reducible exact fun w => w | with_reducible exact fun w => tabWf_clear _ _ w | intro _ | with_reducible apply C.gpr (hK.sub rfl))

theorem State.cmtDone_closed (C : Closed K P) (hK : Sub 0x1000c K) (s : State) (n d outcome : Nat) (hP : P s) : P (State.cmtDone s n d outcome) := by
  unfold State.cmtDone
  try dsimp only
  repeat' (first | with_reducible assumption | with_reducible apply State.setG_closed C (hK.sub rfl) | with_reducible apply State.tally_closed C (hK.sub rfl) | with_reducible apply State.setSeq_closed C (hK.sub rfl) | with_reducible apply closed_ite)

theorem State.cmtResolve_closed (C : Closed K P) (hK : Sub 0x20001000d K) (s : State) (n : Nat) (hP : P s) : P (State.cmtResolve s n) := by
  unfold State.cmtResolve
  try dsimp only
  repeat' (first | with_reducible assumption | with_reducible apply State.cmtDone_closed C (hK.sub rfl) | with_reducible apply State.commit_closed C (hK.sub rfl) | with_reducible apply closed_ite | with_reducible apply closed_ite_fst | split)

theorem State.cmtCheck_closed (C : Closed K P) (hK : Sub 0x20001000d K) (s : State) (n : Nat) (hP : P s) : P (State.cmtCheck s n) := by
  unfold State.cmtCheck
  try dsimp only
  repeat' (first | with_reducible assumption | with_reducible apply State.cmtResolve_closed C (hK.sub rfl) | with_reducible apply closed_ite | split)

theorem State.endSafe_closed (C : Closed K P) (hK : Sub 0x1 K) (s : State) (n : Nat) (hP : P s) : P (State.endSafe s n) := by
  unfold State.endSafe
  try dsimp only
  repeat' (first | with_reducible assumption | with_reducible apply State.put_closed C (hK.sub rfl))

theorem State.seqHalt_closed (C : Closed K P) (hK : Sub 0x20001000d K) (s : State) (n : Nat) (hP : P s) : P (State.seqHalt s n) := by
  unfold State.seqHalt
  try dsimp only
  repeat' (first | with_reducible assumption | with_reducible apply State.endSafe_closed C (hK.sub rfl) | with_reducible apply State.cmtResolve_closed C (hK.sub rfl) | with_reducible apply State.setSeq_closed C (hK.sub rfl) | with_reducible apply State.put_closed C (hK.sub rfl) | with_reducible apply State.setFld_closed C (hK.sub rfl) | with_reducible apply State.wr_closed C (hK.sub rfl) | with_reducible apply closed_ite)

theorem State.seqReset_closed (C : Closed K P) (hK : Sub 0x4d K) (s : State) (n : Nat) (hP : P s) : P (State.seqReset s n) := by
  unfold State.seqReset
  try dsimp only
  repeat' (first | with_reducible assumption | with_reducible apply State.endSafe_closed C (hK.sub rfl) | with_reducible apply State.clearG_closed C (hK.sub rfl) | with_reducible apply State.lanePartyReset_closed C (hK.sub rfl) | with_reducible apply State.setSeq_closed C (hK.sub rfl) | with_reducible apply State.put_closed C (hK.sub rfl) | with_reducible apply State.setFld_closed C (hK.sub rfl))

theorem State.seqLaunch_closed (C : Closed K P) (hK : Sub 0x4d K) (s : State) (n : Nat) (hP : P s) : P (State.seqLaunch s n) := by
  unfold State.seqLaunch
  try dsimp only
  repeat' (first | with_reducible assumption | with_reducible apply State.clearG_closed C (hK.sub rfl) | with_reducible apply State.lanePartyReset_closed C (hK.sub rfl) | with_reducible apply State.setSeq_closed C (hK.sub rfl) | with_reducible apply State.incr_closed C (hK.sub rfl) | with_reducible apply State.put_closed C (hK.sub rfl) | with_reducible apply State.setFld_closed C (hK.sub rfl) | with_reducible apply closed_ite)

theorem State.seqLaneStart_closed (C : Closed K P) (hK : Sub 0x4d K) (s : State) (n : Nat) (hP : P s) : P (State.seqLaneStart s n) := by
  unfold State.seqLaneStart
  try dsimp only
  repeat' (first | with_reducible assumption | with_reducible apply State.seqLaunch_closed C (hK.sub rfl) | with_reducible apply State.put_closed C (hK.sub rfl) | with_reducible apply closed_ite)

theorem State.wfeRelease_closed (C : Closed K P) (hK : Sub 0x1000d K) (s : State) (n : Nat) (hP : P s) : P (State.wfeRelease s n) := by
  unfold State.wfeRelease
  try dsimp only
  repeat' (first | with_reducible assumption | with_reducible apply State.setG_closed C (hK.sub rfl) | with_reducible apply State.tally_closed C (hK.sub rfl) | with_reducible apply State.setSeq_closed C (hK.sub rfl) | with_reducible apply State.setFld_closed C (hK.sub rfl) | with_reducible apply State.wr_closed C (hK.sub rfl) | with_reducible apply closed_ite | split)

theorem State.putPairBit_closed (C : Closed K P) (hK : Sub 0x1 K) (s : State) (lo i : Nat) (b : Bool) (hP : P s) : P (State.putPairBit s lo i b) := by
  unfold State.putPairBit
  try dsimp only
  repeat' (first | with_reducible assumption | with_reducible apply State.put_closed C (hK.sub rfl))

theorem State.setFlips_closed (C : Closed K P) (hK : Sub 0x1000 K) (s : State) (w v : Nat) (hP : P s) : P (State.setFlips s w v) := by
  unfold State.setFlips
  try dsimp only
  repeat' (first | with_reducible assumption | with_reducible exact fun w => w | with_reducible exact fun w => tabWf_put _ _ _ w | exact fun w => w | (intro w; simp only [Integ.wf, Bool.and_eq_true] at w ⊢; simp only [w, tabWf_put, and_self]) | intro _ | with_reducible apply C.integ (hK.sub rfl))

theorem State.soundWord_closed (C : Closed K P) (hK : Sub 0x1000 K) (s : State) (w : Nat) (hP : P s) : P (State.soundWord s w) := by
  unfold State.soundWord
  try dsimp only
  repeat' (first | with_reducible assumption | with_reducible apply State.setFlips_closed C (hK.sub rfl))

theorem State.setByte_closed (C : Closed K P) (hK : Sub 0x80000000 K) (s : State) (a : Nat) (b : BitVec 8) (hP : P s) : P (State.setByte s a b) := by
  unfold State.setByte
  try dsimp only
  repeat' (first | with_reducible assumption | with_reducible exact fun w => w | with_reducible exact fun w => tabWf_put _ _ _ w | intro _ | with_reducible apply C.mem (hK.sub rfl))

theorem State.fill_closed (C : Closed K P) (hK : Sub 0x80001000 K) (s : State) (p : Nat → Bool) (hP : P s) : P (State.fill s p) := by
  have h := C.integ (hK.sub rfl) (x := { s.integ with flips := tabClear p s.integ.flips }) hP (fun w => by
    simp only [Integ.wf, Bool.and_eq_true] at *
    exact ⟨⟨⟨tabWf_clear _ _ w.1.1.1, w.1.1.2⟩, w.1.2⟩, w.2⟩)
  exact C.mem (hK.sub rfl) h fun w => tabWf_clear _ _ w

theorem State.setMemLog_closed (C : Closed K P) (hK : Sub 0x1000 K) (s : State) (l : List LogEntry) (hP : P s) : P (State.setMemLog s l) := by
  unfold State.setMemLog
  try dsimp only
  repeat' (first | with_reducible assumption | with_reducible exact fun w => w | exact fun w => w | with_reducible apply C.integ (hK.sub rfl))

theorem State.countCe_closed (C : Closed K P) (hK : Sub 0x1 K) (s : State) (a : Nat) (hP : P s) : P (State.countCe s a) := by
  unfold State.countCe
  try dsimp only
  repeat' (first | with_reducible assumption | with_reducible apply State.bump_closed C (hK.sub rfl) | split)

theorem State.memLog_closed (C : Closed K P) (hK : Sub 0x11001 K) (s : State) (k : EccKind) (write : Bool) (w : Nat) (r : Reader) (syn : BitVec 8) (bit : Nat) (hP : P s) : P (State.memLog s k write w r syn bit) := by
  unfold State.memLog
  try dsimp only
  repeat' (first | with_reducible assumption | with_reducible exact fun w => w | with_reducible apply State.countCe_closed C (hK.sub rfl) | with_reducible apply State.setMemLog_closed C (hK.sub rfl) | with_reducible apply State.tally_closed C (hK.sub rfl) | with_reducible apply State.bump_closed C (hK.sub rfl) | with_reducible apply State.put_closed C (hK.sub rfl) | with_reducible apply closed_ite | split | with_reducible apply C.mem (hK.sub rfl))

theorem State.flipByte_closed (C : Closed K P) (hK : Sub 0x80001000 K) (s : State) (a : Nat) (x : BitVec 8) (hP : P s) : P (State.flipByte s a x) := by
  unfold State.flipByte
  try dsimp only
  repeat' (first | with_reducible assumption | with_reducible exact fun w => w | with_reducible exact fun w => tabWf_put _ _ _ w | exact fun w => w | (intro w; simp only [Integ.wf, Bool.and_eq_true] at w ⊢; simp only [w, tabWf_put, and_self]) | intro _ | with_reducible apply State.setByte_closed C (hK.sub rfl) | with_reducible apply closed_ite | with_reducible apply C.integ (hK.sub rfl))

theorem State.flipData_closed (C : Closed K P) (hK : Sub 0x80001000 K) (s : State) (w v : Nat) (hP : P s) : P (State.flipData s w v) := by
  unfold State.flipData
  try dsimp only
  repeat' (first | with_reducible assumption | intro _ | with_reducible apply State.flipByte_closed C (hK.sub rfl) | with_reducible apply closed_foldl | with_reducible apply closed_foldl_fst)

theorem State.poisonWord_closed (C : Closed K P) (hK : Sub 0x80001000 K) (s : State) (w : Nat) (hP : P s) : P (State.poisonWord s w) := by
  unfold State.poisonWord
  try dsimp only
  repeat' (first | with_reducible assumption | with_reducible apply State.flipData_closed C (hK.sub rfl) | with_reducible apply State.setFlips_closed C (hK.sub rfl))

theorem State.otpReload_closed (C : Closed K P) (hK : Sub 0x1000 K) (s : State) (w : Nat) (hP : P s) : P (State.otpReload s w) := by
  unfold State.otpReload
  try dsimp only
  repeat' (first | with_reducible assumption | with_reducible exact fun w => w | with_reducible exact fun w => tabWf_clear _ _ w | exact fun w => w | with_reducible apply State.soundWord_closed C (hK.sub rfl) | with_reducible apply C.integ (hK.sub rfl))

theorem State.upset_closed (C : Closed K P) (hK : Sub 0x80001000 K) (s : State) (w v : Nat) (hP : P s) : P (State.upset s w v) := by
  unfold State.upset
  try dsimp only
  repeat' (first | with_reducible assumption | with_reducible apply State.flipData_closed C (hK.sub rfl) | with_reducible apply State.soundWord_closed C (hK.sub rfl) | with_reducible apply State.setFlips_closed C (hK.sub rfl) | with_reducible apply closed_ite | split)

theorem State.eccRead_closed (C : Closed K P) (hK : Sub 0x80011001 K) (s : State) (r : Reader) (w : Nat) (hP : P s) : P (State.eccRead s r w).1 := by
  unfold State.eccRead
  try dsimp only
  repeat' (first | with_reducible assumption | with_reducible apply State.poisonWord_closed C (hK.sub rfl) | with_reducible apply State.memLog_closed C (hK.sub rfl) | with_reducible apply State.soundWord_closed C (hK.sub rfl) | with_reducible apply closed_ite | with_reducible apply closed_ite_fst | split)

theorem State.memRead_closed (C : Closed K P) (hK : Sub 0x80011001 K) (s : State) (r : Reader) (a n : Nat) (hP : P s) : P (State.memRead s r a n).1 := by
  unfold State.memRead
  try dsimp only
  repeat' (first | with_reducible assumption | intro _ | with_reducible apply State.eccRead_closed C (hK.sub rfl) | with_reducible apply closed_foldl | with_reducible apply closed_foldl_fst | with_reducible apply closed_ite | with_reducible apply closed_ite_fst | split)

theorem State.eccWrite_closed (C : Closed K P) (hK : Sub 0x80011001 K) (s : State) (r : Reader) (w : Nat) (whole : Bool) (hP : P s) : P (State.eccWrite s r w whole).1 := by
  unfold State.eccWrite
  try dsimp only
  repeat' (first | with_reducible assumption | with_reducible apply State.poisonWord_closed C (hK.sub rfl) | with_reducible apply State.memLog_closed C (hK.sub rfl) | with_reducible apply State.soundWord_closed C (hK.sub rfl) | with_reducible apply closed_ite | with_reducible apply closed_ite_fst | split)

theorem State.memWrite_closed (C : Closed K P) (hK : Sub 0x80011001 K) (s : State) (r : Reader) (a : Nat) (bs : List (Option (BitVec 8))) (hP : P s) : P (State.memWrite s r a bs).1 := by
  unfold State.memWrite
  try dsimp only
  repeat' (first | with_reducible assumption | intro _ | with_reducible apply State.eccWrite_closed C (hK.sub rfl) | with_reducible apply State.setByte_closed C (hK.sub rfl) | with_reducible apply closed_foldl | with_reducible apply closed_foldl_fst | with_reducible apply closed_ite | with_reducible apply closed_ite_fst | split)

theorem State.putWords_closed (C : Closed K P) (hK : Sub 0x80011001 K) (s : State) (r : Reader) (a : Nat) (bs : List (BitVec 8)) (hP : P s) : P (State.putWords s r a bs) := by
  unfold State.putWords
  try dsimp only
  repeat' (first | with_reducible assumption | intro _ | with_reducible apply State.memWrite_closed C (hK.sub rfl) | with_reducible apply State.take_closed C (hK.sub rfl) | with_reducible apply closed_foldl | with_reducible apply closed_foldl_fst)

theorem State.copyRead_closed (C : Closed K P) (hK : Sub 0x80011001 K) (s : State) (r : Reader) (range : Nat × Nat) (hP : P s) : P (State.copyRead s r range) := by
  unfold State.copyRead
  try dsimp only
  repeat' (first | with_reducible assumption | intro _ | with_reducible apply State.eccRead_closed C (hK.sub rfl) | with_reducible apply closed_foldl | with_reducible apply closed_foldl_fst)

theorem State.copyRange_closed (C : Closed K P) (hK : Sub 0x80011001 K) (s : State) (r : Reader) (src dst n : Nat) (hP : P s) : P (State.copyRange s r src dst n) := by
  have h := State.copyRead_closed C (hK.sub rfl) s r (src, n) hP
  unfold State.copyRange
  refine closed_foldl _ ?_ fun s w h => State.poisonWord_closed C (hK.sub rfl) _ _ h
  generalize State.copyRead s r (src, n) = s at h
  have h := C.integ (hK.sub rfl) (x := { s.integ with flips := tabClear (inRange (dst, n)) s.integ.flips }) h (fun w => by
    simp only [Integ.wf, Bool.and_eq_true] at *
    exact ⟨⟨⟨tabWf_clear _ _ w.1.1.1, w.1.1.2⟩, w.1.2⟩, w.2⟩)
  exact C.mem (hK.sub rfl) h fun w => tabWf_move _ _ _ _ _ w

theorem State.onLane_closed (C : Closed K P) (hK : Sub 0x2 K) (s : State) (n : Nat) (f : Lane → Lane) (hP : P s) : P (State.onLane s n f) := by
  unfold State.onLane
  try dsimp only
  repeat' (first | with_reducible assumption | with_reducible apply State.setLane_closed C (hK.sub rfl))

theorem State.endPause_closed (C : Closed K P) (hK : Sub 0x1 K) (s : State) (n : Nat) (hP : P s) : P (State.endPause s n) := by
  unfold State.endPause
  try dsimp only
  repeat' (first | with_reducible assumption | with_reducible apply State.line_closed C (hK.sub rfl) | with_reducible apply State.setFld_closed C (hK.sub rfl))

theorem State.calAbort_closed (C : Closed K P) (hK : Sub 0x1 K) (s : State) (n : Nat) (hP : P s) : P (State.calAbort s n) := by
  unfold State.calAbort
  try dsimp only
  repeat' (first | with_reducible assumption | with_reducible apply State.endPause_closed C (hK.sub rfl) | with_reducible apply State.put_closed C (hK.sub rfl) | with_reducible apply State.setFld_closed C (hK.sub rfl) | with_reducible apply closed_ite)

theorem State.calCheck_closed (C : Closed K P) (hK : Sub 0x1 K) (s : State) (n : Nat) (hP : P s) : P (State.calCheck s n) := by
  unfold State.calCheck
  try dsimp only
  repeat' (first | with_reducible assumption | with_reducible apply State.calAbort_closed C (hK.sub rfl) | with_reducible apply closed_ite)

theorem State.rsStart_closed (C : Closed K P) (hK : Sub 0x3 K) (s : State) (n u : Nat) (aligned : Bool) (hP : P s) : P (State.rsStart s n u aligned) := by
  unfold State.rsStart
  try dsimp only
  repeat' (first | with_reducible assumption | intro _ | with_reducible apply State.onLane_closed C (hK.sub rfl) | with_reducible apply State.put_closed C (hK.sub rfl) | with_reducible apply closed_ite | with_reducible apply closed_ite_fst)

theorem State.rsDrop_closed (C : Closed K P) (hK : Sub 0x3 K) (s : State) (base slot : Nat) (hP : P s) : P (State.rsDrop s base slot) := by
  unfold State.rsDrop
  try dsimp only
  repeat' (first | with_reducible assumption | intro _ | with_reducible apply State.rsStart_closed C (hK.sub rfl) | with_reducible apply each_closed C (hK.sub rfl))

theorem State.rsRead_closed (C : Closed K P) (hK : Sub 0x2 K) (s : State) (base slot bits : Nat) (hP : P s) : P (State.rsRead s base slot bits) := by
  unfold State.rsRead
  try dsimp only
  repeat' (first | with_reducible assumption | intro _ | with_reducible apply State.onLane_closed C (hK.sub rfl) | with_reducible apply each_closed C (hK.sub rfl) | with_reducible apply closed_ite)

theorem State.syncPair_closed (C : Closed K P) (hK : Sub 0x20001000f K) (s : State) (n : Nat) (hP : P s) : P (State.syncPair s n) := by
  unfold State.syncPair
  try dsimp only
  repeat' (first | with_reducible assumption | intro _ | with_reducible apply State.rsDrop_closed C (hK.sub rfl) | with_reducible apply State.calCheck_closed C (hK.sub rfl) | with_reducible apply State.cmtCheck_closed C (hK.sub rfl) | with_reducible apply State.put_closed C (hK.sub rfl) | with_reducible apply closed_foldl | with_reducible apply closed_foldl_fst | with_reducible apply closed_ite)

theorem State.syncHtx_closed (C : Closed K P) (hK : Sub 0x1 K) (s : State) (k : Nat) (hP : P s) : P (State.syncHtx s k) := by
  unfold State.syncHtx
  try dsimp only
  repeat' (first | with_reducible assumption | with_reducible apply State.line_closed C (hK.sub rfl) | with_reducible apply State.put_closed C (hK.sub rfl) | with_reducible apply closed_ite)

theorem State.syncFreq_closed (C : Closed K P) (hK : Sub 0x3 K) (s : State) (n : Nat) (hP : P s) : P (State.syncFreq s n) := by
  unfold State.syncFreq
  try dsimp only
  repeat' (first | with_reducible assumption | intro _ | with_reducible apply State.onLane_closed C (hK.sub rfl) | with_reducible apply State.setFld_closed C (hK.sub rfl) | with_reducible apply closed_ite)

theorem State.setPound_closed (C : Closed K P) (hK : Sub 0x400 K) (s : State) (p : Nat) (l : List Barge) (hP : P s) : P (State.setPound s p l) := by
  unfold State.setPound
  try dsimp only
  repeat' (first | with_reducible assumption | with_reducible exact fun w => w | with_reducible exact fun w => tabWf_put _ _ _ w | exact fun w => w | (intro w; simp only [Fabric.wf, Bool.and_eq_true] at w ⊢; simp only [w, tabWf_put, and_self]) | intro _ | with_reducible apply C.fab (hK.sub rfl))

theorem State.setStore_closed (C : Closed K P) (hK : Sub 0x400 K) (s : State) (j : Nat) (l : List Barge) (hP : P s) : P (State.setStore s j l) := by
  unfold State.setStore
  try dsimp only
  repeat' (first | with_reducible assumption | with_reducible exact fun w => w | with_reducible exact fun w => tabWf_put _ _ _ w | exact fun w => w | (intro w; simp only [Fabric.wf, Bool.and_eq_true] at w ⊢; simp only [w, tabWf_put, and_self]) | intro _ | with_reducible apply C.fab (hK.sub rfl))

theorem State.setCrossing_closed (C : Closed K P) (hK : Sub 0x400 K) (s : State) (n : Nat) (c : Nat × Bool) (hP : P s) : P (State.setCrossing s n c) := by
  unfold State.setCrossing
  try dsimp only
  repeat' (first | with_reducible assumption | with_reducible exact fun w => w | with_reducible exact fun w => tabWf_put _ _ _ w | exact fun w => w | (intro w; simp only [Fabric.wf, Bool.and_eq_true] at w ⊢; simp only [w, tabWf_put, and_self]) | intro _ | with_reducible apply C.fab (hK.sub rfl))

theorem State.xdrop_closed (C : Closed K P) (hK : Sub 0x10001 K) (s : State) (n k : Nat) (hP : P s) : P (State.xdrop s n k) := by
  unfold State.xdrop
  try dsimp only
  repeat' (first | with_reducible assumption | with_reducible apply State.tally_closed C (hK.sub rfl) | with_reducible apply State.bump_closed C (hK.sub rfl) | with_reducible apply State.put_closed C (hK.sub rfl) | with_reducible apply closed_ite)

theorem State.dropPound_closed (C : Closed K P) (hK : Sub 0x10401 K) (s : State) (n : Nat) (hP : P s) : P (State.dropPound s n) := by
  unfold State.dropPound
  try dsimp only
  repeat' (first | with_reducible assumption | with_reducible apply State.xdrop_closed C (hK.sub rfl) | with_reducible apply State.setStore_closed C (hK.sub rfl) | with_reducible apply State.setPound_closed C (hK.sub rfl) | with_reducible apply closed_ite)

theorem State.crossReset_closed (C : Closed K P) (hK : Sub 0x10401 K) (s : State) (n : Nat) (hP : P s) : P (State.crossReset s n) := by
  unfold State.crossReset
  try dsimp only
  repeat' (first | with_reducible assumption | with_reducible apply State.dropPound_closed C (hK.sub rfl) | with_reducible apply State.setCrossing_closed C (hK.sub rfl))

theorem State.crossReady_closed (C : Closed K P) (hK : Sub 0x400 K) (s : State) (n : Nat) (hP : P s) : P (State.crossReady s n) := by
  unfold State.crossReady
  try dsimp only
  repeat' (first | with_reducible assumption | with_reducible apply State.setCrossing_closed C (hK.sub rfl))

theorem State.cwStop_closed (C : Closed K P) (hK : Sub 0x3 K) (s : State) (n : Nat) (hP : P s) : P (State.cwStop s n) := by
  unfold State.cwStop
  try dsimp only
  repeat' (first | with_reducible assumption | intro _ | with_reducible apply State.onLane_closed C (hK.sub rfl) | with_reducible apply State.wr_closed C (hK.sub rfl))

theorem State.cwHunt_closed (C : Closed K P) (hK : Sub 0x3 K) (s : State) (n off : Nat) (hP : P s) : P (State.cwHunt s n off) := by
  unfold State.cwHunt
  try dsimp only
  repeat' (first | with_reducible assumption | with_reducible apply State.cwStop_closed C (hK.sub rfl) | with_reducible apply State.put_closed C (hK.sub rfl) | with_reducible apply State.setFld_closed C (hK.sub rfl) | with_reducible apply closed_ite)

theorem State.cwSeek_closed (C : Closed K P) (hK : Sub 0x3 K) (s : State) (n off : Nat) (hP : P s) : P (State.cwSeek s n off) := by
  unfold State.cwSeek
  try dsimp only
  repeat' (first | with_reducible assumption | intro _ | with_reducible apply State.onLane_closed C (hK.sub rfl) | with_reducible apply State.put_closed C (hK.sub rfl) | with_reducible apply State.setFld_closed C (hK.sub rfl))

theorem State.wcapAbort_closed (C : Closed K P) (hK : Sub 0x1 K) (s : State) (n : Nat) (hP : P s) : P (State.wcapAbort s n) := by
  unfold State.wcapAbort
  try dsimp only
  repeat' (first | with_reducible assumption | with_reducible apply State.put_closed C (hK.sub rfl) | with_reducible apply State.setFld_closed C (hK.sub rfl) | with_reducible apply closed_ite)

theorem State.trnSet_closed (C : Closed K P) (hK : Sub 0x3 K) (s : State) (n st : Nat) (hP : P s) : P (State.trnSet s n st) := by
  unfold State.trnSet
  try dsimp only
  repeat' (first | with_reducible assumption | intro _ | with_reducible apply State.onLane_closed C (hK.sub rfl) | with_reducible apply State.pairLine_closed C (hK.sub rfl) | with_reducible apply State.put_closed C (hK.sub rfl) | with_reducible apply State.setFld_closed C (hK.sub rfl) | with_reducible apply closed_ite)

theorem State.timerStop_closed (C : Closed K P) (hK : Sub 0x1 K) (s : State) (n : Nat) (hP : P s) : P (State.timerStop s n) := by
  unfold State.timerStop
  try dsimp only
  repeat' (first | with_reducible assumption | with_reducible apply State.put_closed C (hK.sub rfl) | with_reducible apply State.setFld_closed C (hK.sub rfl))

theorem State.trnStop_closed (C : Closed K P) (hK : Sub 0x20001000f K) (s : State) (n : Nat) (hP : P s) : P (State.trnStop s n) := by
  unfold State.trnStop
  try dsimp only
  repeat' (first | with_reducible assumption | intro _ | with_reducible apply State.timerStop_closed C (hK.sub rfl) | with_reducible apply State.trnSet_closed C (hK.sub rfl) | with_reducible apply State.cwStop_closed C (hK.sub rfl) | with_reducible apply State.syncPair_closed C (hK.sub rfl) | with_reducible apply State.onLane_closed C (hK.sub rfl) | with_reducible apply State.pairLine_closed C (hK.sub rfl) | with_reducible apply State.put_closed C (hK.sub rfl) | with_reducible apply State.setFld_closed C (hK.sub rfl) | with_reducible apply closed_ite)

theorem State.setBias_closed (C : Closed K P) (hK : Sub 0x1 K) (s : State) (n v : Nat) (hP : P s) : P (State.setBias s n v) := by
  unfold State.setBias
  try dsimp only
  repeat' (first | with_reducible assumption | with_reducible apply State.setFld_closed C (hK.sub rfl))

theorem State.setStep_closed (C : Closed K P) (hK : Sub 0x1 K) (s : State) (n k : Nat) (hP : P s) : P (State.setStep s n k) := by
  unfold State.setStep
  try dsimp only
  repeat' (first | with_reducible assumption | with_reducible apply State.setBias_closed C (hK.sub rfl) | with_reducible apply State.setFld_closed C (hK.sub rfl))

theorem State.ltxSet_closed (C : Closed K P) (hK : Sub 0x1 K) (s : State) (n st : Nat) (hP : P s) : P (State.ltxSet s n st) := by
  unfold State.ltxSet
  try dsimp only
  repeat' (first | with_reducible assumption | with_reducible apply State.pairLine_closed C (hK.sub rfl) | with_reducible apply State.line_closed C (hK.sub rfl) | with_reducible apply State.setFld_closed C (hK.sub rfl) | with_reducible apply closed_ite)

theorem State.squelch_closed (C : Closed K P) (hK : Sub 0x3 K) (s : State) (n : Nat) (hP : P s) : P (State.squelch s n) := by
  unfold State.squelch
  try dsimp only
  repeat' (first | with_reducible assumption | intro _ | with_reducible apply State.ltxSet_closed C (hK.sub rfl) | with_reducible apply State.onLane_closed C (hK.sub rfl) | with_reducible apply State.put_closed C (hK.sub rfl) | with_reducible apply closed_ite)

theorem State.light_closed (C : Closed K P) (hK : Sub 0x3 K) (s : State) (n : Nat) (hP : P s) : P (State.light s n) := by
  unfold State.light
  try dsimp only
  repeat' (first | with_reducible assumption | intro _ | with_reducible apply State.ltxSet_closed C (hK.sub rfl) | with_reducible apply State.setStep_closed C (hK.sub rfl) | with_reducible apply State.onLane_closed C (hK.sub rfl) | with_reducible apply State.put_closed C (hK.sub rfl) | with_reducible apply closed_ite)

theorem State.unsquelch_closed (C : Closed K P) (hK : Sub 0x3 K) (s : State) (n : Nat) (hP : P s) : P (State.unsquelch s n).1 := by
  unfold State.unsquelch
  try dsimp only
  repeat' (first | with_reducible assumption | with_reducible apply State.light_closed C (hK.sub rfl) | with_reducible apply State.put_closed C (hK.sub rfl) | with_reducible apply closed_ite | with_reducible apply closed_ite_fst)

theorem State.faultDark_closed (C : Closed K P) (hK : Sub 0x3 K) (s : State) (n : Nat) (hP : P s) : P (State.faultDark s n) := by
  unfold State.faultDark
  try dsimp only
  repeat' (first | with_reducible assumption | intro _ | with_reducible apply State.ltxSet_closed C (hK.sub rfl) | with_reducible apply State.setBias_closed C (hK.sub rfl) | with_reducible apply State.onLane_closed C (hK.sub rfl) | with_reducible apply State.put_closed C (hK.sub rfl) | with_reducible apply State.setFld_closed C (hK.sub rfl))

theorem State.ltxFault_closed (C : Closed K P) (hK : Sub 0x20001000f K) (s : State) (n : Nat) (cause : Fld) (hP : P s) : P (State.ltxFault s n cause) := by
  unfold State.ltxFault
  try dsimp only
  repeat' (first | with_reducible assumption | intro _ | with_reducible apply State.faultDark_closed C (hK.sub rfl) | with_reducible apply State.ltxSet_closed C (hK.sub rfl) | with_reducible apply State.trnStop_closed C (hK.sub rfl) | with_reducible apply State.onLane_closed C (hK.sub rfl) | with_reducible apply State.put_closed C (hK.sub rfl) | with_reducible apply closed_ite)

theorem State.corrStop_closed (C : Closed K P) (hK : Sub 0x2 K) (s : State) (n : Nat) (hP : P s) : P (State.corrStop s n) := by
  unfold State.corrStop
  try dsimp only
  repeat' (first | with_reducible assumption | intro _ | with_reducible apply State.onLane_closed C (hK.sub rfl))

theorem State.cdrDrop_closed (C : Closed K P) (hK : Sub 0x1 K) (s : State) (n : Nat) (hP : P s) : P (State.cdrDrop s n) := by
  unfold State.cdrDrop
  try dsimp only
  repeat' (first | with_reducible assumption | with_reducible apply State.line_closed C (hK.sub rfl) | with_reducible apply State.put_closed C (hK.sub rfl) | with_reducible apply closed_ite)

theorem State.lrxSet_closed (C : Closed K P) (hK : Sub 0x20001000f K) (s : State) (n st : Nat) (hP : P s) : P (State.lrxSet s n st) := by
  unfold State.lrxSet
  try dsimp only
  repeat' (first | with_reducible assumption | with_reducible apply State.cdrDrop_closed C (hK.sub rfl) | with_reducible apply State.trnSet_closed C (hK.sub rfl) | with_reducible apply State.syncPair_closed C (hK.sub rfl) | with_reducible apply State.line_closed C (hK.sub rfl) | with_reducible apply State.put_closed C (hK.sub rfl) | with_reducible apply State.setFld_closed C (hK.sub rfl) | with_reducible apply closed_ite)

theorem State.lrxClear_closed (C : Closed K P) (hK : Sub 0x1 K) (s : State) (n : Nat) (hP : P s) : P (State.lrxClear s n) := by
  unfold State.lrxClear
  try dsimp only
  repeat' (first | with_reducible assumption | with_reducible apply State.put_closed C (hK.sub rfl) | with_reducible apply State.setFld_closed C (hK.sub rfl))

theorem State.lrxStop_closed (C : Closed K P) (hK : Sub 0x20001000f K) (s : State) (n : Nat) (hP : P s) : P (State.lrxStop s n) := by
  unfold State.lrxStop
  try dsimp only
  repeat' (first | with_reducible assumption | intro _ | with_reducible apply State.lrxClear_closed C (hK.sub rfl) | with_reducible apply State.lrxSet_closed C (hK.sub rfl) | with_reducible apply State.corrStop_closed C (hK.sub rfl) | with_reducible apply State.wcapAbort_closed C (hK.sub rfl) | with_reducible apply State.cwStop_closed C (hK.sub rfl) | with_reducible apply State.syncPair_closed C (hK.sub rfl) | with_reducible apply State.onLane_closed C (hK.sub rfl) | with_reducible apply State.put_closed C (hK.sub rfl))

theorem State.ltxStop_closed (C : Closed K P) (hK : Sub 0x3 K) (s : State) (n : Nat) (hP : P s) : P (State.ltxStop s n) := by
  unfold State.ltxStop
  try dsimp only
  repeat' (first | with_reducible assumption | intro _ | with_reducible apply State.ltxSet_closed C (hK.sub rfl) | with_reducible apply State.setBias_closed C (hK.sub rfl) | with_reducible apply State.calCheck_closed C (hK.sub rfl) | with_reducible apply State.onLane_closed C (hK.sub rfl) | with_reducible apply State.line_closed C (hK.sub rfl) | with_reducible apply State.put_closed C (hK.sub rfl) | with_reducible apply State.setFld_closed C (hK.sub rfl) | with_reducible apply closed_ite)

theorem State.hrxDown_closed (C : Closed K P) (hK : Sub 0x3 K) (s : State) (n st : Nat) (hP : P s) : P (State.hrxDown s n st) := by
  unfold State.hrxDown
  try dsimp only
  repeat' (first | with_reducible assumption | with_reducible apply State.rsDrop_closed C (hK.sub rfl) | with_reducible apply State.setFld_closed C (hK.sub rfl) | with_reducible apply closed_ite)

theorem State.hrxStop_closed (C : Closed K P) (hK : Sub 0x3 K) (s : State) (n : Nat) (hP : P s) : P (State.hrxStop s n) := by
  unfold State.hrxStop
  try dsimp only
  repeat' (first | with_reducible assumption | intro _ | with_reducible apply State.hrxDown_closed C (hK.sub rfl) | with_reducible apply State.corrStop_closed C (hK.sub rfl) | with_reducible apply State.syncFreq_closed C (hK.sub rfl) | with_reducible apply State.calCheck_closed C (hK.sub rfl) | with_reducible apply State.onLane_closed C (hK.sub rfl) | with_reducible apply State.line_closed C (hK.sub rfl) | with_reducible apply State.put_closed C (hK.sub rfl) | with_reducible apply closed_ite)

theorem State.htxStop_closed (C : Closed K P) (hK : Sub 0x3 K) (s : State) (n : Nat) (hP : P s) : P (State.htxStop s n) := by
  unfold State.htxStop
  try dsimp only
  repeat' (first | with_reducible assumption | intro _ | with_reducible apply State.syncHtx_closed C (hK.sub rfl) | with_reducible apply State.calCheck_closed C (hK.sub rfl) | with_reducible apply State.onLane_closed C (hK.sub rfl) | with_reducible apply State.line_closed C (hK.sub rfl) | with_reducible apply State.put_closed C (hK.sub rfl) | with_reducible apply closed_ite)

theorem State.laneStop_closed (C : Closed K P) (hK : Sub 0x20001000f K) (s : State) (n : Nat) (hP : P s) : P (State.laneStop s n) := by
  unfold State.laneStop
  try dsimp only
  repeat' (first | with_reducible assumption | with_reducible apply State.htxStop_closed C (hK.sub rfl) | with_reducible apply State.hrxStop_closed C (hK.sub rfl) | with_reducible apply State.ltxStop_closed C (hK.sub rfl) | with_reducible apply State.lrxStop_closed C (hK.sub rfl) | with_reducible apply closed_ite)

theorem State.lockOff_closed (C : Closed K P) (hK : Sub 0x1 K) (s : State) (n : Nat) (hP : P s) : P (State.lockOff s n) := by
  unfold State.lockOff
  try dsimp only
  repeat' (first | with_reducible assumption | with_reducible apply State.put_closed C (hK.sub rfl) | with_reducible apply State.setFld_closed C (hK.sub rfl) | with_reducible apply closed_ite)

theorem State.lockEpoch_closed (C : Closed K P) (hK : Sub 0x1 K) (s : State) (n : Nat) (hP : P s) : P (State.lockEpoch s n) := by
  unfold State.lockEpoch
  try dsimp only
  repeat' (first | with_reducible assumption | with_reducible apply State.put_closed C (hK.sub rfl) | with_reducible apply closed_ite)

theorem State.laneReset_closed (C : Closed K P) (hK : Sub 0x20001040f K) (s : State) (n : Nat) (hP : P s) : P (State.laneReset s n) := by
  unfold State.laneReset
  try dsimp only
  repeat' (first | with_reducible assumption | with_reducible apply State.lockEpoch_closed C (hK.sub rfl) | with_reducible apply State.laneStop_closed C (hK.sub rfl) | with_reducible apply State.crossReady_closed C (hK.sub rfl) | with_reducible apply State.crossReset_closed C (hK.sub rfl) | with_reducible apply State.seqHalt_closed C (hK.sub rfl))

theorem State.lrxDark_closed (C : Closed K P) (hK : Sub 0x20001000f K) (s : State) (n st : Nat) (hP : P s) : P (State.lrxDark s n st) := by
  unfold State.lrxDark
  try dsimp only
  repeat' (first | with_reducible assumption | with_reducible apply State.lrxSet_closed C (hK.sub rfl) | with_reducible apply State.put_closed C (hK.sub rfl))

theorem State.lrxCdr_closed (C : Closed K P) (hK : Sub 0x20001000f K) (s : State) (n : Nat) (hP : P s) : P (State.lrxCdr s n) := by
  unfold State.lrxCdr
  try dsimp only
  repeat' (first | with_reducible assumption | with_reducible apply State.lrxSet_closed C (hK.sub rfl) | with_reducible apply State.setFld_closed C (hK.sub rfl))

theorem State.outcome_closed (C : Closed K P) (hK : Sub 0x1 K) (s : State) (code src : Nat) (hP : P s) : P (State.outcome s code src) := by
  unfold State.outcome
  try dsimp only
  repeat' (first | with_reducible assumption | intro _ | with_reducible apply State.line_closed C (hK.sub rfl) | with_reducible apply each_closed C (hK.sub rfl) | with_reducible apply State.incr_closed C (hK.sub rfl) | with_reducible apply State.put_closed C (hK.sub rfl) | with_reducible apply State.setFld_closed C (hK.sub rfl))

theorem State.configError_closed (C : Closed K P) (hK : Sub 0x1 K) (s : State) (res master : Nat) (hP : P s) : P (State.configError s res master) := by
  unfold State.configError
  try dsimp only
  repeat' (first | with_reducible assumption | with_reducible apply State.bump_closed C (hK.sub rfl) | with_reducible apply State.put_closed C (hK.sub rfl) | with_reducible apply State.setFld_closed C (hK.sub rfl))

theorem State.logPut_closed (C : Closed K P) (hK : Sub 0x101 K) (s : State) (e : LogEntry) (hP : P s) : P (State.logPut s e) := by
  unfold State.logPut
  try dsimp only
  repeat' (first | with_reducible assumption | with_reducible apply State.bump_closed C (hK.sub rfl) | with_reducible apply State.setBit_closed C (hK.sub rfl) | with_reducible apply closed_ite | split | with_reducible apply C.faultLog (hK.sub rfl))

theorem State.logLane_closed (C : Closed K P) (hK : Sub 0x101 K) (s : State) (kind i cause level : Nat) (hP : P s) : P (State.logLane s kind i cause level) := by
  unfold State.logLane
  try dsimp only
  repeat' (first | with_reducible assumption | with_reducible apply State.logPut_closed C (hK.sub rfl))

theorem State.lanesDone_closed (C : Closed K P) (hK : Sub 0x800000 K) (s : State) (l : List Nat) (hP : P s) : P (State.lanesDone s l) := by
  unfold State.lanesDone
  try dsimp only
  repeat' (first | with_reducible assumption | intro _ | with_reducible apply C.trans (hK.sub rfl))

theorem State.handed_closed (C : Closed K P) (hK : Sub 0x800000 K) (s : State) (l : List Nat) (hP : P s) : P (State.handed s l) := by
  unfold State.handed
  try dsimp only
  repeat' (first | with_reducible assumption | intro _ | with_reducible apply State.lanesDone_closed C (hK.sub rfl) | with_reducible apply closed_ite | with_reducible apply C.trans (hK.sub rfl))

theorem State.halfDone_closed (C : Closed K P) (hK : Sub 0x800000 K) (s : State) (n : Nat) (hP : P s) : P (State.halfDone s n) := by
  unfold State.halfDone
  try dsimp only
  repeat' (first | with_reducible assumption | with_reducible apply State.lanesDone_closed C (hK.sub rfl) | with_reducible apply closed_ite)

theorem State.putOos_closed (C : Closed K P) (hK : Sub 0x1 K) (s : State) (n : Nat) (b : Bool) (hP : P s) : P (State.putOos s n b) := by
  unfold State.putOos
  try dsimp only
  repeat' (first | with_reducible assumption | with_reducible apply State.wr_closed C (hK.sub rfl) | with_reducible apply closed_ite)

theorem State.halfHold_closed (C : Closed K P) (hK : Sub 0x20001000f K) (s : State) (n : Nat) (hP : P s) : P (State.halfHold s n) := by
  unfold State.halfHold
  try dsimp only
  repeat' (first | with_reducible assumption | intro _ | with_reducible apply State.lrxDark_closed C (hK.sub rfl) | with_reducible apply State.lrxClear_closed C (hK.sub rfl) | with_reducible apply State.corrStop_closed C (hK.sub rfl) | with_reducible apply State.squelch_closed C (hK.sub rfl) | with_reducible apply State.cwStop_closed C (hK.sub rfl) | with_reducible apply State.syncPair_closed C (hK.sub rfl) | with_reducible apply State.onLane_closed C (hK.sub rfl) | with_reducible apply closed_ite)

theorem State.oosTake_closed (C : Closed K P) (hK : Sub 0x20081000f K) (s : State) (n : Nat) (hP : P s) : P (State.oosTake s n) := by
  unfold State.oosTake
  try dsimp only
  repeat' (first | with_reducible assumption | intro _ | with_reducible apply State.halfHold_closed C (hK.sub rfl) | with_reducible apply State.putOos_closed C (hK.sub rfl) | with_reducible apply State.halfDone_closed C (hK.sub rfl) | with_reducible apply State.lanesDone_closed C (hK.sub rfl) | with_reducible apply State.hrxStop_closed C (hK.sub rfl) | with_reducible apply State.lrxStop_closed C (hK.sub rfl) | with_reducible apply State.squelch_closed C (hK.sub rfl) | with_reducible apply State.trnStop_closed C (hK.sub rfl) | with_reducible apply State.syncHtx_closed C (hK.sub rfl) | with_reducible apply State.calAbort_closed C (hK.sub rfl) | with_reducible apply State.seqHalt_closed C (hK.sub rfl) | with_reducible apply each_closed C (hK.sub rfl) | with_reducible apply closed_ite)

theorem State.ladderReset_closed (C : Closed K P) (hK : Sub 0x20001040f K) (s : State) (i : Nat) (hP : P s) : P (State.ladderReset s i) := by
  unfold State.ladderReset
  try dsimp only
  repeat' (first | with_reducible assumption | intro _ | with_reducible apply State.laneReset_closed C (hK.sub rfl) | with_reducible apply State.onLane_closed C (hK.sub rfl) | with_reducible apply each_closed C (hK.sub rfl) | with_reducible apply closed_ite)

theorem State.retrain_closed (C : Closed K P) (hK : Sub 0x20001040f K) (s : State) (i : Nat) (hP : P s) : P (State.retrain s i) := by
  unfold State.retrain
  try dsimp only
  repeat' (first | with_reducible assumption | intro _ | with_reducible apply State.ladderReset_closed C (hK.sub rfl) | with_reducible apply State.squelch_closed C (hK.sub rfl) | with_reducible apply State.trnStop_closed C (hK.sub rfl) | with_reducible apply State.onLane_closed C (hK.sub rfl) | with_reducible apply closed_ite)

theorem State.stepOpen_closed (C : Closed K P) (hK : Sub 0x181 K) (s : State) (i lvl : Nat) (hP : P s) : P (State.stepOpen s i lvl) := by
  unfold State.stepOpen
  try dsimp only
  repeat' (first | with_reducible assumption | with_reducible apply State.logLane_closed C (hK.sub rfl) | with_reducible apply State.setLadder_closed C (hK.sub rfl) | with_reducible apply State.setBit_closed C (hK.sub rfl) | with_reducible apply State.put_closed C (hK.sub rfl) | with_reducible apply State.setFld_closed C (hK.sub rfl))

theorem State.stepClose_closed (C : Closed K P) (hK : Sub 0x81 K) (s : State) (i : Nat) (hP : P s) : P (State.stepClose s i) := by
  unfold State.stepClose
  try dsimp only
  repeat' (first | with_reducible assumption | with_reducible apply State.setLadder_closed C (hK.sub rfl) | with_reducible apply State.put_closed C (hK.sub rfl))

theorem State.ladder4_closed (C : Closed K P) (hK : Sub 0x20081008f K) (s : State) (i : Nat) (hP : P s) : P (State.ladder4 s i) := by
  unfold State.ladder4
  try dsimp only
  repeat' (first | with_reducible assumption | intro _ | with_reducible apply State.stepClose_closed C (hK.sub rfl) | with_reducible apply State.oosTake_closed C (hK.sub rfl) | with_reducible apply each_closed C (hK.sub rfl) | with_reducible apply State.setBit_closed C (hK.sub rfl) | with_reducible apply State.setFld_closed C (hK.sub rfl))

theorem State.ladderAct_closed (C : Closed K P) (hK : Sub 0x20001040f K) (s : State) (i lvl : Nat) (hP : P s) : P (State.ladderAct s i lvl) := by
  unfold State.ladderAct
  try dsimp only
  repeat' (first | with_reducible assumption | intro _ | with_reducible apply State.retrain_closed C (hK.sub rfl) | with_reducible apply State.lrxCdr_closed C (hK.sub rfl) | with_reducible apply State.hrxDown_closed C (hK.sub rfl) | with_reducible apply State.syncFreq_closed C (hK.sub rfl) | with_reducible apply State.calCheck_closed C (hK.sub rfl) | with_reducible apply State.onLane_closed C (hK.sub rfl) | with_reducible apply State.line_closed C (hK.sub rfl) | with_reducible apply each_closed C (hK.sub rfl) | with_reducible apply closed_ite)

theorem State.ladderStart_closed (C : Closed K P) (hK : Sub 0x20081058f K) (s : State) (i lvl : Nat) (hP : P s) : P (State.ladderStart s i lvl) := by
  unfold State.ladderStart
  try dsimp only
  repeat' (first | with_reducible assumption | with_reducible apply State.ladderAct_closed C (hK.sub rfl) | with_reducible apply State.ladder4_closed C (hK.sub rfl) | with_reducible apply State.stepOpen_closed C (hK.sub rfl) | with_reducible apply closed_ite)

theorem State.stepFail_closed (C : Closed K P) (hK : Sub 0x20081058f K) (s : State) (i : Nat) (hP : P s) : P (State.stepFail s i) := by
  unfold State.stepFail
  try dsimp only
  repeat' (first | with_reducible assumption | with_reducible apply State.ladderStart_closed C (hK.sub rfl) | with_reducible apply State.stepClose_closed C (hK.sub rfl) | with_reducible apply State.logLane_closed C (hK.sub rfl) | with_reducible apply State.setBit_closed C (hK.sub rfl))

theorem State.stepComplete_closed (C : Closed K P) (hK : Sub 0x181 K) (s : State) (i : Nat) (hP : P s) : P (State.stepComplete s i) := by
  unfold State.stepComplete
  try dsimp only
  repeat' (first | with_reducible assumption | with_reducible apply State.stepClose_closed C (hK.sub rfl) | with_reducible apply State.logLane_closed C (hK.sub rfl) | with_reducible apply State.setLadder_closed C (hK.sub rfl) | with_reducible apply State.setBit_closed C (hK.sub rfl) | with_reducible apply State.setFld_closed C (hK.sub rfl))

theorem State.hold_closed (C : Closed K P) (hK : Sub 0x80 K) (s : State) (i cause entry : Nat) (hP : P s) : P (State.hold s i cause entry) := by
  unfold State.hold
  try dsimp only
  repeat' (first | with_reducible assumption | with_reducible apply State.setLadder_closed C (hK.sub rfl) | with_reducible apply closed_ite)

theorem State.faultJoin_closed (C : Closed K P) (hK : Sub 0x20081058f K) (s : State) (i cause entry : Nat) (k : Mark) (hP : P s) : P (State.faultJoin s i cause entry k) := by
  unfold State.faultJoin
  try dsimp only
  repeat' (first | with_reducible assumption | with_reducible apply State.hold_closed C (hK.sub rfl) | with_reducible apply State.ladderStart_closed C (hK.sub rfl) | with_reducible apply State.stepClose_closed C (hK.sub rfl) | with_reducible apply State.setLadder_closed C (hK.sub rfl) | with_reducible apply State.setFld_closed C (hK.sub rfl) | with_reducible apply closed_ite)

theorem State.faultFirst_closed (C : Closed K P) (hK : Sub 0x20081058f K) (s : State) (i cause entry : Nat) (hP : P s) : P (State.faultFirst s i cause entry) := by
  unfold State.faultFirst
  try dsimp only
  repeat' (first | with_reducible assumption | with_reducible apply State.hold_closed C (hK.sub rfl) | with_reducible apply State.stepFail_closed C (hK.sub rfl) | with_reducible apply State.ladderStart_closed C (hK.sub rfl) | with_reducible apply State.handed_closed C (hK.sub rfl) | with_reducible apply State.logLane_closed C (hK.sub rfl) | with_reducible apply State.setLadder_closed C (hK.sub rfl) | with_reducible apply State.incr_closed C (hK.sub rfl) | with_reducible apply State.setBit_closed C (hK.sub rfl) | with_reducible apply State.setFld_closed C (hK.sub rfl) | with_reducible apply closed_ite)

theorem State.fault_closed (C : Closed K P) (hK : Sub 0x20081058f K) (s : State) (i cause entry : Nat) (hP : P s) : P (State.fault s i cause entry) := by
  unfold State.fault
  try dsimp only
  repeat' (first | with_reducible assumption | with_reducible apply State.faultFirst_closed C (hK.sub rfl) | with_reducible apply State.faultJoin_closed C (hK.sub rfl) | with_reducible apply closed_ite | split)

theorem State.report_closed (C : Closed K P) (hK : Sub 0x20081058f K) (s : State) (n cause : Nat) (hP : P s) : P (State.report s n cause) := by
  unfold State.report
  try dsimp only
  repeat' (first | with_reducible assumption | with_reducible apply State.fault_closed C (hK.sub rfl) | with_reducible apply closed_ite)

theorem State.timedOut_closed (C : Closed K P) (hK : Sub 0x20081058f K) (s : State) (n cause : Nat) (hP : P s) : P (State.timedOut s n cause) := by
  unfold State.timedOut
  try dsimp only
  repeat' (first | with_reducible assumption | with_reducible apply State.report_closed C (hK.sub rfl) | with_reducible apply State.stepFail_closed C (hK.sub rfl) | with_reducible apply closed_ite)

theorem State.laneStart_closed (C : Closed K P) (hK : Sub 0x2008105cf K) (s : State) (n : Nat) (hP : P s) : P (State.laneStart s n) := by
  unfold State.laneStart
  try dsimp only
  repeat' (first | with_reducible assumption | with_reducible apply State.report_closed C (hK.sub rfl) | with_reducible apply State.seqLaneStart_closed C (hK.sub rfl) | with_reducible apply closed_ite)

theorem State.ladderIdle_closed (C : Closed K P) (hK : Sub 0x83 K) (s : State) (i : Nat) (hP : P s) : P (State.ladderIdle s i) := by
  unfold State.ladderIdle
  try dsimp only
  repeat' (first | with_reducible assumption | intro _ | with_reducible apply State.stepClose_closed C (hK.sub rfl) | with_reducible apply State.retrain_closed C (hK.sub rfl) | with_reducible apply State.onLane_closed C (hK.sub rfl) | with_reducible apply State.setLadder_closed C (hK.sub rfl) | with_reducible apply State.setFld_closed C (hK.sub rfl) | with_reducible apply closed_ite)

theorem State.oosRetrain_closed (C : Closed K P) (hK : Sub 0x20081058f K) (s : State) (i : Nat) (hP : P s) : P (State.oosRetrain s i) := by
  unfold State.oosRetrain
  try dsimp only
  repeat' (first | with_reducible assumption | with_reducible apply State.ladderStart_closed C (hK.sub rfl) | with_reducible apply State.stepClose_closed C (hK.sub rfl) | with_reducible apply State.setLadder_closed C (hK.sub rfl) | with_reducible apply closed_ite)

theorem State.preempt_closed (C : Closed K P) (hK : Sub 0x800001 K) (s : State) (hP : P s) : P (State.preempt s) := by
  unfold State.preempt
  try dsimp only
  repeat' (first | with_reducible assumption | with_reducible apply State.outcome_closed C (hK.sub rfl) | with_reducible apply State.put_closed C (hK.sub rfl) | with_reducible apply closed_ite | with_reducible apply C.trans (hK.sub rfl))

theorem State.freeze_closed (C : Closed K P) (hK : Sub 0x83 K) (s : State) (i : Nat) (hP : P s) : P (State.freeze s i) := by
  unfold State.freeze
  try dsimp only
  repeat' (first | with_reducible assumption | intro _ | with_reducible apply State.retrain_closed C (hK.sub rfl) | with_reducible apply State.onLane_closed C (hK.sub rfl) | with_reducible apply State.setLadder_closed C (hK.sub rfl) | with_reducible apply State.put_closed C (hK.sub rfl) | with_reducible apply closed_ite)

theorem State.thaw_closed (C : Closed K P) (hK : Sub 0x20081058f K) (s : State) (i : Nat) (hP : P s) : P (State.thaw s i) := by
  unfold State.thaw
  try dsimp only
  repeat' (first | with_reducible assumption | with_reducible apply State.ladderStart_closed C (hK.sub rfl) | with_reducible apply State.handed_closed C (hK.sub rfl) | with_reducible apply State.setLadder_closed C (hK.sub rfl) | with_reducible apply State.put_closed C (hK.sub rfl) | with_reducible apply closed_ite)

theorem State.devRaise_closed (C : Closed K P) (hK : Sub 0x20081038f K) (s : State) (cls : Nat) (shut : Bool) (detail data : Nat) (hP : P s) : P (State.devRaise s cls shut detail data) := by
  unfold State.devRaise
  try dsimp only
  repeat' (first | with_reducible assumption | intro _ | with_reducible apply State.freeze_closed C (hK.sub rfl) | with_reducible apply State.preempt_closed C (hK.sub rfl) | with_reducible apply State.logPut_closed C (hK.sub rfl) | with_reducible apply State.ltxFault_closed C (hK.sub rfl) | with_reducible apply each_closed C (hK.sub rfl) | with_reducible apply State.setBit_closed C (hK.sub rfl) | with_reducible apply State.setFld_closed C (hK.sub rfl) | with_reducible apply closed_ite | with_reducible apply C.shutdown (hK.sub rfl))

theorem State.devClear_closed (C : Closed K P) (hK : Sub 0x20081078f K) (s : State) (cls : Nat) (hP : P s) : P (State.devClear s cls) := by
  unfold State.devClear
  try dsimp only
  repeat' (first | with_reducible assumption | intro _ | with_reducible apply State.thaw_closed C (hK.sub rfl) | with_reducible apply State.logPut_closed C (hK.sub rfl) | with_reducible apply each_closed C (hK.sub rfl) | with_reducible apply State.setBit_closed C (hK.sub rfl) | with_reducible apply State.setFld_closed C (hK.sub rfl) | with_reducible apply closed_ite | with_reducible apply C.shutdown (hK.sub rfl))

theorem State.onBus_closed (C : Closed K P) (hK : Sub 0x10000 K) (s : State) (m : Master) (a : Nat) (f : State → State × Resp) (hP : P s) (hPf : ∀ s, P s → P (f s).1) : P (State.onBus s m a f).1 := by
  unfold State.onBus
  try dsimp only
  repeat' (first | with_reducible assumption | with_reducible apply State.busTally_closed C (hK.sub rfl) | with_reducible apply hPf | split)

theorem State.onBusRead_closed (C : Closed K P) (hK : Sub 0x10000 K) (s : State) (m : Master) (a : Nat) (f : State → State × Resp × Word) (hP : P s) (hPf : ∀ s, P s → P (f s).1) : P (State.onBusRead s m a f).1 := by
  unfold State.onBusRead
  try dsimp only
  repeat' (first | with_reducible assumption | with_reducible apply State.busTally_closed C (hK.sub rfl) | with_reducible apply hPf | split)

theorem State.via_closed (C : Closed K P) (hK : Sub 0x200010000 K) (s : State) (a : Nat) (m : Master) (f : State → State × Resp) (hP : P s) (hPf : ∀ s, P s → P (f s).1) : P (State.via s a m f) := by
  unfold State.via
  try dsimp only
  repeat' (first | with_reducible assumption | with_reducible apply State.onBus_closed C (hK.sub rfl) | with_reducible apply answer_closed C (hK.sub rfl) | with_reducible apply hPf)

theorem State.viaRead_closed (C : Closed K P) (hK : Sub 0x200010000 K) (s : State) (a : Nat) (m : Master) (f : State → State × Resp × Word) (hP : P s) (hPf : ∀ s, P s → P (f s).1) : P (State.viaRead s a m f) := by
  unfold State.viaRead
  try dsimp only
  repeat' (first | with_reducible assumption | with_reducible apply State.onBusRead_closed C (hK.sub rfl) | with_reducible apply answerRead_closed C (hK.sub rfl) | with_reducible apply hPf)

theorem State.takeMap_closed (C : Closed K P) (hK : Sub 0x1 K) (s : State) (base : Nat) (hP : P s) : P (State.takeMap s base) := by
  unfold State.takeMap
  try dsimp only
  repeat' (first | with_reducible assumption | with_reducible exact fun w => w | intro _ | with_reducible apply each_closed C (hK.sub rfl) | with_reducible apply State.put_closed C (hK.sub rfl) | with_reducible apply State.setFld_closed C (hK.sub rfl) | with_reducible apply closed_ite | with_reducible apply C.lanes (hK.sub rfl))

theorem State.takeMaps_closed (C : Closed K P) (hK : Sub 0x1 K) (s : State) (hP : P s) : P (State.takeMaps s) := by
  unfold State.takeMaps
  try dsimp only
  repeat' (first | with_reducible assumption | intro _ | with_reducible apply State.takeMap_closed C (hK.sub rfl) | with_reducible apply State.syncHtx_closed C (hK.sub rfl) | with_reducible apply each_closed C (hK.sub rfl))

theorem State.takeTarget_closed (C : Closed K P) (hK : Sub 0x401 K) (s : State) (host : Bool) (t : Nat) (rate : Bool) (hP : P s) : P (State.takeTarget s host t rate) := by
  unfold State.takeTarget
  dsimp only
  refine C.fab (hK.sub rfl) ?_ fun w => ?_
  · repeat' (first | with_reducible assumption | with_reducible apply State.put_closed C (hK.sub rfl) | with_reducible apply closed_ite)
  · cases host <;> exact w

theorem State.takeTargets_closed (C : Closed K P) (hK : Sub 0x401 K) (s : State) (t : Nat) (rate : Bool) (hP : P s) : P (State.takeTargets s t rate) := by
  unfold State.takeTargets
  try dsimp only
  repeat' (first | with_reducible assumption | with_reducible apply State.takeTarget_closed C (hK.sub rfl))

theorem State.lockAttr_closed (C : Closed K P) (hK : Sub 0x1 K) (s : State) (fx : Bool) (hP : P s) : P (State.lockAttr s fx) := by
  unfold State.lockAttr
  try dsimp only
  repeat' (first | with_reducible assumption | intro _ | with_reducible apply each_closed C (hK.sub rfl) | with_reducible apply State.setFld_closed C (hK.sub rfl) | with_reducible apply closed_ite)

theorem State.lockStart_closed (C : Closed K P) (hK : Sub 0x1 K) (s : State) (n : Nat) (hP : P s) : P (State.lockStart s n) := by
  unfold State.lockStart
  try dsimp only
  repeat' (first | with_reducible assumption | with_reducible apply State.setFld_closed C (hK.sub rfl) | with_reducible apply closed_ite)

theorem State.startUp_closed (C : Closed K P) (hK : Sub 0x800001 K) (s : State) (hP : P s) : P (State.startUp s) := by
  unfold State.startUp
  try dsimp only
  repeat' (first | with_reducible assumption | with_reducible apply State.takeMaps_closed C (hK.sub rfl) | with_reducible apply C.trans (hK.sub rfl))

theorem State.afterRamp_closed (C : Closed K P) (hK : Sub 0x20081048f K) (s : State) (hP : P s) : P (State.afterRamp s) := by
  unfold State.afterRamp
  try dsimp only
  repeat' (first | with_reducible assumption | intro _ | with_reducible apply State.startUp_closed C (hK.sub rfl) | with_reducible apply State.ladderIdle_closed C (hK.sub rfl) | with_reducible apply State.laneReset_closed C (hK.sub rfl) | with_reducible apply State.lockOff_closed C (hK.sub rfl) | with_reducible apply each_closed C (hK.sub rfl) | with_reducible apply closed_ite | with_reducible apply C.trans (hK.sub rfl))

theorem State.rampCheck_closed (C : Closed K P) (hK : Sub 0x20081048f K) (s : State) (hP : P s) : P (State.rampCheck s) := by
  unfold State.rampCheck
  try dsimp only
  repeat' (first | with_reducible assumption | with_reducible apply State.afterRamp_closed C (hK.sub rfl) | with_reducible apply closed_ite)

theorem State.stopTraffic_closed (C : Closed K P) (hK : Sub 0x20001008f K) (s : State) (hP : P s) : P (State.stopTraffic s) := by
  unfold State.stopTraffic
  try dsimp only
  repeat' (first | with_reducible assumption | intro _ | with_reducible apply State.ladderIdle_closed C (hK.sub rfl) | with_reducible apply State.squelch_closed C (hK.sub rfl) | with_reducible apply State.trnStop_closed C (hK.sub rfl) | with_reducible apply State.wcapAbort_closed C (hK.sub rfl) | with_reducible apply State.rsDrop_closed C (hK.sub rfl) | with_reducible apply State.calAbort_closed C (hK.sub rfl) | with_reducible apply each_closed C (hK.sub rfl))

theorem State.opened_closed (C : Closed K P) (hK : Sub 0x800001 K) (s : State) (t : Nat) (fx rt : Bool) (src : Nat) (hP : P s) : P (State.opened s t fx rt src) := by
  unfold State.opened
  try dsimp only
  repeat' (first | with_reducible assumption | with_reducible apply State.put_closed C (hK.sub rfl) | with_reducible apply State.setFld_closed C (hK.sub rfl) | with_reducible apply C.trans (hK.sub rfl))

theorem State.openedAsleep_closed (C : Closed K P) (hK : Sub 0x800001 K) (s : State) (t : Nat) (fx rt : Bool) (src : Nat) (hP : P s) : P (State.openedAsleep s t fx rt src) := by
  unfold State.openedAsleep
  try dsimp only
  repeat' (first | with_reducible assumption | with_reducible apply State.opened_closed C (hK.sub rfl) | with_reducible apply closed_ite | with_reducible apply C.trans (hK.sub rfl))

theorem State.launch_closed (C : Closed K P) (hK : Sub 0x20081048f K) (s : State) (t : Nat) (fx rt : Bool) (base loop : Nat) (hP : P s) : P (State.launch s t fx rt base loop) := by
  unfold State.launch
  try dsimp only
  repeat' (first | with_reducible assumption | with_reducible apply State.stopTraffic_closed C (hK.sub rfl) | with_reducible apply State.rampCheck_closed C (hK.sub rfl) | with_reducible apply State.startUp_closed C (hK.sub rfl) | with_reducible apply State.lockAttr_closed C (hK.sub rfl) | with_reducible apply State.takeTargets_closed C (hK.sub rfl) | with_reducible apply State.setFld_closed C (hK.sub rfl) | with_reducible apply closed_ite | with_reducible apply C.trans (hK.sub rfl))

theorem State.begin_closed (C : Closed K P) (hK : Sub 0x20081048f K) (s : State) (t : Nat) (fx rt : Bool) (src : Nat) (hP : P s) : P (State.begin s t fx rt src) := by
  unfold State.begin
  try dsimp only
  repeat' (first | with_reducible assumption | with_reducible apply State.launch_closed C (hK.sub rfl) | with_reducible apply State.opened_closed C (hK.sub rfl))

theorem State.takeWaiting_closed (C : Closed K P) (hK : Sub 0x1 K) (s : State) (start : State → Nat → Bool → Bool → Nat → State) (hP : P s) (hPstart : ∀ s a1 a2 a3 a4, P s → P (start s a1 a2 a3 a4)) : P (State.takeWaiting s start) := by
  unfold State.takeWaiting
  try dsimp only
  repeat' (first | with_reducible assumption | with_reducible apply State.outcome_closed C (hK.sub rfl) | with_reducible apply State.put_closed C (hK.sub rfl) | with_reducible apply hPstart | with_reducible apply closed_ite)

theorem State.runWaiting_closed (C : Closed K P) (hK : Sub 0x20081048f K) (s : State) (hP : P s) : P (State.runWaiting s) := by
  unfold State.runWaiting
  try dsimp only
  repeat' (first | with_reducible assumption | with_reducible apply State.takeWaiting_closed C (hK.sub rfl) | with_reducible apply State.begin_closed C (hK.sub rfl))

theorem State.request_closed (C : Closed K P) (hK : Sub 0x20081048f K) (s : State) (m : Master) (v : Word) (hP : P s) : P (State.request s m v).1 := by
  unfold State.request
  try dsimp only
  repeat' (first | with_reducible assumption | with_reducible apply State.begin_closed C (hK.sub rfl) | with_reducible apply State.outcome_closed C (hK.sub rfl) | with_reducible apply State.bump_closed C (hK.sub rfl) | with_reducible apply State.put_closed C (hK.sub rfl) | with_reducible apply State.setFld_closed C (hK.sub rfl) | with_reducible apply State.wr_closed C (hK.sub rfl) | with_reducible apply closed_ite | with_reducible apply closed_ite_fst | split | with_reducible apply C.trans (hK.sub rfl))

theorem State.transEnd_closed (C : Closed K P) (hK : Sub 0x800001 K) (s : State) (hP : P s) : P (State.transEnd s) := by
  unfold State.transEnd
  try dsimp only
  repeat' (first | with_reducible assumption | with_reducible apply State.outcome_closed C (hK.sub rfl) | with_reducible apply State.put_closed C (hK.sub rfl) | with_reducible apply State.setFld_closed C (hK.sub rfl) | with_reducible apply closed_ite | with_reducible apply C.trans (hK.sub rfl))

theorem State.wakeRequest_closed (C : Closed K P) (hK : Sub 0x20081048f K) (s : State) (hP : P s) : P (State.wakeRequest s) := by
  unfold State.wakeRequest
  try dsimp only
  repeat' (first | with_reducible assumption | with_reducible apply State.request_closed C (hK.sub rfl) | with_reducible apply closed_ite | with_reducible apply closed_ite_fst)

theorem State.wakeReached_closed (C : Closed K P) (hK : Sub 0x20181048f K) (s : State) (hP : P s) : P (State.wakeReached s) := by
  unfold State.wakeReached
  try dsimp only
  repeat' (first | with_reducible assumption | with_reducible apply State.wakeRequest_closed C (hK.sub rfl) | with_reducible apply State.transEnd_closed C (hK.sub rfl) | with_reducible apply State.runWaiting_closed C (hK.sub rfl) | with_reducible apply State.launch_closed C (hK.sub rfl) | with_reducible apply closed_ite | with_reducible apply C.dorm (hK.sub rfl))

theorem transitionCompleteEffect_closed (C : Closed K P) (hK : Sub 0x20181048f K) (s : State) (hP : P s) : P (transitionCompleteEffect s) := by
  unfold transitionCompleteEffect
  try dsimp only
  repeat' (first | with_reducible assumption | with_reducible apply State.wakeReached_closed C (hK.sub rfl) | with_reducible apply State.transEnd_closed C (hK.sub rfl) | with_reducible apply State.runWaiting_closed C (hK.sub rfl) | with_reducible apply closed_ite)

theorem State.oosGive_closed (C : Closed K P) (hK : Sub 0x20081058f K) (s : State) (n : Nat) (hP : P s) : P (State.oosGive s n) := by
  unfold State.oosGive
  try dsimp only
  repeat' (first | with_reducible assumption | intro _ | with_reducible apply State.oosRetrain_closed C (hK.sub rfl) | with_reducible apply State.putOos_closed C (hK.sub rfl) | with_reducible apply State.lanesDone_closed C (hK.sub rfl) | with_reducible apply State.syncHtx_closed C (hK.sub rfl) | with_reducible apply each_closed C (hK.sub rfl) | with_reducible apply closed_ite | with_reducible apply C.trans (hK.sub rfl))

theorem State.oosWrite_closed (C : Closed K P) (hK : Sub 0x20081058f K) (s : State) (m : Master) (base count : Nat) (v : Nat) (hP : P s) : P (State.oosWrite s m base count v).1 := by
  unfold State.oosWrite
  try dsimp only
  repeat' (first | with_reducible assumption | with_reducible exact fun w => w | intro _ | with_reducible apply State.oosGive_closed C (hK.sub rfl) | with_reducible apply State.oosTake_closed C (hK.sub rfl) | with_reducible apply State.configError_closed C (hK.sub rfl) | with_reducible apply each_closed C (hK.sub rfl) | with_reducible apply closed_ite | with_reducible apply closed_ite_fst | with_reducible apply C.lanes (hK.sub rfl))

theorem State.oosWriteBit_closed (C : Closed K P) (hK : Sub 0x20081058f K) (s : State) (m : Master) (n : Nat) (b : Bool) (hP : P s) : P (State.oosWriteBit s m n b).1 := by
  unfold State.oosWriteBit
  try dsimp only
  repeat' (first | with_reducible assumption | with_reducible apply State.oosWrite_closed C (hK.sub rfl) | with_reducible apply closed_ite | with_reducible apply closed_ite_fst)

theorem State.claimRefuse_closed (C : Closed K P) (hK : Sub 0x1 K) (s : State) (m : Master) (res : Nat) (hP : P s) : P (State.claimRefuse s m res).1 := by
  unfold State.claimRefuse
  try dsimp only
  repeat' (first | with_reducible assumption | with_reducible apply State.configError_closed C (hK.sub rfl) | with_reducible apply State.put_closed C (hK.sub rfl))

theorem State.claimWrite_closed (C : Closed K P) (hK : Sub 0x1 K) (s : State) (m : Master) (res use : Nat) (hP : P s) : P (State.claimWrite s m res use).1 := by
  unfold State.claimWrite
  try dsimp only
  repeat' (first | with_reducible assumption | intro _ | with_reducible apply State.claimRefuse_closed C (hK.sub rfl) | with_reducible apply State.wcapAbort_closed C (hK.sub rfl) | with_reducible apply each_closed C (hK.sub rfl) | with_reducible apply State.use_closed C (hK.sub rfl) | with_reducible apply State.put_closed C (hK.sub rfl) | with_reducible apply State.setFld_closed C (hK.sub rfl) | with_reducible apply closed_ite | with_reducible apply closed_ite_fst)

theorem State.fillNext_closed (C : Closed K P) (hK : Sub 0x2 K) (s : State) (lane k : Nat) (hP : P s) : P (State.fillNext s lane k).1 := by
  unfold State.fillNext
  try dsimp only
  repeat' (first | with_reducible assumption | intro _ | with_reducible apply State.onLane_closed C (hK.sub rfl) | with_reducible apply State.fill_closed C (hK.sub rfl))

theorem State.fillData_closed (C : Closed K P) (hK : Sub 0x2 K) (s : State) (lane : Nat) (hP : P s) : P (State.fillData s lane).1 := by
  unfold State.fillData
  try dsimp only
  repeat' (first | with_reducible assumption | with_reducible apply State.fillNext_closed C (hK.sub rfl))

theorem State.fillSlot_closed (C : Closed K P) (hK : Sub 0x2 K) (s : State) (lane slot : Nat) (hP : P s) : P (State.fillSlot s lane slot).1 := by
  unfold State.fillSlot
  try dsimp only
  repeat' (first | with_reducible assumption | with_reducible apply State.fillNext_closed C (hK.sub rfl))

theorem State.intoPound_closed (C : Closed K P) (hK : Sub 0x10401 K) (s : State) (n : Nat) (b : Barge) (hP : P s) : P (State.intoPound s n b) := by
  unfold State.intoPound
  try dsimp only
  repeat' (first | with_reducible assumption | with_reducible apply State.xdrop_closed C (hK.sub rfl) | with_reducible apply State.setPound_closed C (hK.sub rfl) | with_reducible apply closed_ite)

theorem State.bargeOut_closed (C : Closed K P) (hK : Sub 0x10403 K) (s : State) (n after : Nat) (hP : P s) : P (State.bargeOut s n after) := by
  unfold State.bargeOut
  try dsimp only
  repeat' (first | with_reducible assumption | intro _ | with_reducible apply State.intoPound_closed C (hK.sub rfl) | with_reducible apply State.onLane_closed C (hK.sub rfl) | with_reducible apply State.take_closed C (hK.sub rfl) | with_reducible apply closed_ite)

theorem State.lineDetect_closed (C : Closed K P) (hK : Sub 0x10403 K) (s : State) (n : Nat) (codes : List Int) (stamp : Option Nat) (hP : P s) : P (State.lineDetect s n codes stamp) := by
  unfold State.lineDetect
  try dsimp only
  repeat' (first | with_reducible assumption | intro _ | with_reducible apply State.bargeOut_closed C (hK.sub rfl) | with_reducible apply State.onLane_closed C (hK.sub rfl) | with_reducible apply closed_foldl | with_reducible apply closed_foldl_fst | with_reducible apply closed_ite | split)

theorem State.lineRun_closed (C : Closed K P) (hK : Sub 0x10403 K) (s : State) (n k : Nat) (codes : List Int) (hP : P s) : P (State.lineRun s n k codes) := by
  induction k generalizing s codes with
  | zero => exact hP
  | succ k ih => exact ih _ _ (State.lineDetect_closed C (hK.sub rfl) _ _ _ _ hP)

theorem State.fillBarge_closed (C : Closed K P) (hK : Sub 0x2 K) (s : State) (n stamp : Nat) (hP : P s) : P (State.fillBarge s n stamp).1 := by
  unfold State.fillBarge
  try dsimp only
  repeat' (first | with_reducible assumption | with_reducible apply State.fillData_closed C (hK.sub rfl))

theorem State.slotFill_closed (C : Closed K P) (hK : Sub 0x2 K) (s : State) (slot stamp : Nat) (hP : P s) : P (State.slotFill s slot stamp).1 := by
  unfold State.slotFill
  try dsimp only
  repeat' (first | with_reducible assumption | with_reducible apply State.fillSlot_closed C (hK.sub rfl))

theorem State.hostInput_closed (C : Closed K P) (hK : Sub 0x10403 K) (s : State) (k : Nat) (codes : List (BitVec 6)) (stamp : Nat) (hP : P s) : P (State.hostInput s k codes stamp) := by
  unfold State.hostInput
  try dsimp only
  repeat' (first | with_reducible assumption | intro _ | with_reducible apply State.slotFill_closed C (hK.sub rfl) | with_reducible apply State.intoPound_closed C (hK.sub rfl) | with_reducible apply State.xdrop_closed C (hK.sub rfl) | with_reducible apply State.onLane_closed C (hK.sub rfl) | with_reducible apply State.bwCount_closed C (hK.sub rfl) | with_reducible apply closed_foldl | with_reducible apply closed_foldl_fst | with_reducible apply closed_ite | with_reducible apply closed_ite_fst)

end Sys2Proof.Machine
end

