-- ==== Sys2Proof/Laws/KeepsB.lean ====
section
/-! SUPPORT. Sys2Proof/Laws/KeepsB.lean: what each operation keeps: a predicate closed under the updates of
Sys2Proof/Laws/Closed.lean that the operation makes holds after it. Here: host and line lanes, the fabric, codes, training, calibration, fault commands and clocks. -/

namespace Sys2Proof.Machine

variable {P : State → Prop} {K : Nat}

theorem State.bankCommit_closed (C : Closed K P) (hK : Sub 0x200010001 K) (s : State) (n : Nat) (hP : P s) : P (State.bankCommit s n).1 := by
  unfold State.bankCommit
  try dsimp only
  repeat' (first | with_reducible assumption | with_reducible apply State.commit_closed C (hK.sub rfl) | with_reducible apply State.tally_closed C (hK.sub rfl) | with_reducible apply State.put_closed C (hK.sub rfl) | with_reducible apply closed_ite | with_reducible apply closed_ite_fst)

theorem State.bankWrite_closed (C : Closed K P) (hK : Sub 0x1 K) (s : State) (n : Nat) (b : Bool) (w : Nat) (v : Word) (hP : P s) : P (State.bankWrite s n b w v).1 := by
  unfold State.bankWrite
  try dsimp only
  repeat' (first | with_reducible assumption | with_reducible apply State.setShadow_closed C (hK.sub rfl) | with_reducible apply closed_ite | with_reducible apply closed_ite_fst)

theorem State.hrxSet_closed (C : Closed K P) (hK : Sub 0x3 K) (s : State) (n st : Nat) (hP : P s) : P (State.hrxSet s n st) := by
  unfold State.hrxSet
  try dsimp only
  repeat' (first | with_reducible assumption | intro _ | with_reducible apply State.hrxDown_closed C (hK.sub rfl) | with_reducible apply State.syncFreq_closed C (hK.sub rfl) | with_reducible apply State.calCheck_closed C (hK.sub rfl) | with_reducible apply State.onLane_closed C (hK.sub rfl) | with_reducible apply State.line_closed C (hK.sub rfl) | with_reducible apply closed_ite)

theorem State.hrxUp_closed (C : Closed K P) (hK : Sub 0x800003 K) (s : State) (n : Nat) (hP : P s) : P (State.hrxUp s n) := by
  unfold State.hrxUp
  try dsimp only
  repeat' (first | with_reducible assumption | with_reducible apply State.hrxSet_closed C (hK.sub rfl) | with_reducible apply State.lanesDone_closed C (hK.sub rfl) | with_reducible apply closed_ite)

theorem State.noSignal_closed (C : Closed K P) (hK : Sub 0x100000000 K) (s : State) (mv : Nat) (hP : P s) : P (State.noSignal s mv).1 := by
  unfold State.noSignal
  try dsimp only
  repeat' (first | with_reducible assumption | with_reducible apply State.use_closed C (hK.sub rfl) | with_reducible apply closed_ite | with_reducible apply closed_ite_fst)

theorem State.hrxLos_closed (C : Closed K P) (hK : Sub 0x100000003 K) (s : State) (n mv : Nat) (unlocked : Bool) (hP : P s) : P (State.hrxLos s n mv unlocked) := by
  unfold State.hrxLos
  try dsimp only
  repeat' (first | with_reducible assumption | with_reducible apply State.noSignal_closed C (hK.sub rfl) | with_reducible apply State.hrxSet_closed C (hK.sub rfl) | with_reducible apply State.line_closed C (hK.sub rfl) | with_reducible apply State.put_closed C (hK.sub rfl) | with_reducible apply closed_ite | with_reducible apply closed_ite_fst)

theorem State.hrxBack_closed (C : Closed K P) (hK : Sub 0x100000003 K) (s : State) (n mv : Nat) (hP : P s) : P (State.hrxBack s n mv) := by
  unfold State.hrxBack
  try dsimp only
  repeat' (first | with_reducible assumption | with_reducible apply State.noSignal_closed C (hK.sub rfl) | with_reducible apply State.hrxSet_closed C (hK.sub rfl) | with_reducible apply State.line_closed C (hK.sub rfl) | with_reducible apply State.put_closed C (hK.sub rfl) | with_reducible apply closed_ite | with_reducible apply closed_ite_fst)

theorem State.cdrLocked_closed (C : Closed K P) (hK : Sub 0x20001000f K) (s : State) (r : Nat) (ofs : List Int) (hP : P s) : P (State.cdrLocked s r ofs) := by
  unfold State.cdrLocked
  try dsimp only
  repeat' (first | with_reducible assumption | with_reducible apply State.lrxSet_closed C (hK.sub rfl) | with_reducible apply State.line_closed C (hK.sub rfl) | with_reducible apply State.put_closed C (hK.sub rfl) | with_reducible apply State.setFld_closed C (hK.sub rfl) | with_reducible apply closed_ite)

theorem State.cdrUnlocked_closed (C : Closed K P) (hK : Sub 0x1 K) (s : State) (r : Nat) (was now : Int) (hP : P s) : P (State.cdrUnlocked s r was now) := by
  unfold State.cdrUnlocked
  try dsimp only
  repeat' (first | with_reducible assumption | with_reducible apply State.cdrDrop_closed C (hK.sub rfl) | with_reducible apply State.line_closed C (hK.sub rfl) | with_reducible apply State.put_closed C (hK.sub rfl) | with_reducible apply State.setFld_closed C (hK.sub rfl) | with_reducible apply closed_ite)

theorem State.htxSquelch_closed (C : Closed K P) (hK : Sub 0x1 K) (s : State) (n : Nat) (on : Bool) (hP : P s) : P (State.htxSquelch s n on).1 := by
  unfold State.htxSquelch
  try dsimp only
  repeat' (first | with_reducible assumption | with_reducible apply State.syncHtx_closed C (hK.sub rfl) | with_reducible apply State.put_closed C (hK.sub rfl))

theorem State.patInject_closed (C : Closed K P) (hK : Sub 0x2 K) (s : State) (n : Nat) (hP : P s) : P (State.patInject s n).1 := by
  unfold State.patInject
  try dsimp only
  repeat' (first | with_reducible assumption | intro _ | with_reducible apply State.onLane_closed C (hK.sub rfl) | with_reducible apply closed_ite | with_reducible apply closed_ite_fst)

theorem State.patErrors_closed (C : Closed K P) (hK : Sub 0x1 K) (s : State) (n errs : Nat) (hP : P s) : P (State.patErrors s n errs) := by
  unfold State.patErrors
  try dsimp only
  repeat' (first | with_reducible assumption | with_reducible apply State.line_closed C (hK.sub rfl) | with_reducible apply State.bump_closed C (hK.sub rfl) | with_reducible apply State.put_closed C (hK.sub rfl) | with_reducible apply closed_ite)

theorem State.patCheck_closed (C : Closed K P) (hK : Sub 0x3 K) (s : State) (n : Nat) (hP : P s) : P (State.patCheck s n) := by
  unfold State.patCheck
  try dsimp only
  repeat' (first | with_reducible assumption | intro _ | with_reducible apply State.patErrors_closed C (hK.sub rfl) | with_reducible apply State.onLane_closed C (hK.sub rfl) | with_reducible apply State.put_closed C (hK.sub rfl) | with_reducible apply closed_ite | with_reducible apply closed_ite_fst)

theorem State.corrStart_closed (C : Closed K P) (hK : Sub 0x2 K) (s : State) (n : Nat) (hP : P s) : P (State.corrStart s n) := by
  unfold State.corrStart
  try dsimp only
  repeat' (first | with_reducible assumption | intro _ | with_reducible apply State.onLane_closed C (hK.sub rfl))

theorem State.corrWrite_closed (C : Closed K P) (hK : Sub 0x3 K) (s : State) (n : Nat) (v : Word) (hP : P s) : P (State.corrWrite s n v).1 := by
  unfold State.corrWrite
  try dsimp only
  repeat' (first | with_reducible assumption | with_reducible apply State.corrStart_closed C (hK.sub rfl) | with_reducible apply State.setFld_closed C (hK.sub rfl) | with_reducible apply closed_ite | with_reducible apply closed_ite_fst)

theorem State.wrAll_closed (C : Closed K P) (hK : Sub 0x1 K) (s : State) (a : Nat) (l : List Word) (hP : P s) : P (State.wrAll s a l) := by
  induction l generalizing s a with
  | nil => exact hP
  | cons w l ih => exact ih _ _ (State.wr_closed C (hK.sub rfl) _ _ _ hP)

theorem State.corrEnd_closed (C : Closed K P) (hK : Sub 0x3 K) (s : State) (n : Nat) (hP : P s) : P (State.corrEnd s n) := by
  unfold State.corrEnd
  try dsimp only
  repeat' (first | with_reducible assumption | intro _ | with_reducible apply State.wrAll_closed C (hK.sub rfl) | with_reducible apply State.onLane_closed C (hK.sub rfl) | with_reducible apply State.line_closed C (hK.sub rfl) | with_reducible apply State.put_closed C (hK.sub rfl) | with_reducible apply State.setFld_closed C (hK.sub rfl) | with_reducible apply closed_ite)

theorem State.becameDark_closed (C : Closed K P) (hK : Sub 0x20081048f K) (s : State) (n : Nat) (hP : P s) : P (State.becameDark s n) := by
  unfold State.becameDark
  try dsimp only
  repeat' (first | with_reducible assumption | with_reducible apply State.rampCheck_closed C (hK.sub rfl) | with_reducible apply State.retrain_closed C (hK.sub rfl) | with_reducible apply State.ladderReset_closed C (hK.sub rfl) | with_reducible apply closed_ite)

theorem State.forceDark_closed (C : Closed K P) (hK : Sub 0x20081048f K) (s : State) (n : Nat) (hP : P s) : P (State.forceDark s n) := by
  unfold State.forceDark
  try dsimp only
  repeat' (first | with_reducible assumption | intro _ | with_reducible apply State.becameDark_closed C (hK.sub rfl) | with_reducible apply State.ltxFault_closed C (hK.sub rfl) | with_reducible apply State.onLane_closed C (hK.sub rfl))

theorem State.ltxCtl_closed (C : Closed K P) (hK : Sub 0x20081048f K) (s : State) (n : Nat) (v : Word) (hP : P s) : P (State.ltxCtl s n v).1 := by
  unfold State.ltxCtl
  try dsimp only
  repeat' (first | with_reducible assumption | with_reducible apply State.forceDark_closed C (hK.sub rfl) | with_reducible apply State.unsquelch_closed C (hK.sub rfl) | with_reducible apply State.squelch_closed C (hK.sub rfl) | with_reducible apply State.setFld_closed C (hK.sub rfl) | with_reducible apply closed_ite | with_reducible apply closed_ite_fst)

theorem State.rampTick_closed (C : Closed K P) (hK : Sub 0x20081048f K) (s : State) (n : Nat) (hP : P s) : P (State.rampTick s n) := by
  unfold State.rampTick
  try dsimp only
  repeat' (first | with_reducible assumption | intro _ | with_reducible apply State.becameDark_closed C (hK.sub rfl) | with_reducible apply State.ltxSet_closed C (hK.sub rfl) | with_reducible apply State.setStep_closed C (hK.sub rfl) | with_reducible apply State.onLane_closed C (hK.sub rfl) | with_reducible apply State.put_closed C (hK.sub rfl) | with_reducible apply closed_ite)

theorem State.faultTick_closed (C : Closed K P) (hK : Sub 0x20081048f K) (s : State) (n : Nat) (hP : P s) : P (State.faultTick s n) := by
  unfold State.faultTick
  try dsimp only
  repeat' (first | with_reducible assumption | with_reducible apply State.becameDark_closed C (hK.sub rfl) | with_reducible apply State.faultDark_closed C (hK.sub rfl) | with_reducible apply State.setBias_closed C (hK.sub rfl) | with_reducible apply State.setFld_closed C (hK.sub rfl) | with_reducible apply closed_ite)

theorem State.biasWrite_closed (C : Closed K P) (hK : Sub 0x1 K) (s : State) (n : Nat) (v : Word) (hP : P s) : P (State.biasWrite s n v).1 := by
  unfold State.biasWrite
  try dsimp only
  repeat' (first | with_reducible assumption | with_reducible apply State.setBias_closed C (hK.sub rfl) | with_reducible apply State.setFld_closed C (hK.sub rfl) | with_reducible apply closed_ite | with_reducible apply closed_ite_fst)

theorem State.biasStep_closed (C : Closed K P) (hK : Sub 0x1 K) (s : State) (n : Nat) (hP : P s) : P (State.biasStep s n) := by
  unfold State.biasStep
  try dsimp only
  repeat' (first | with_reducible assumption | with_reducible apply State.setBias_closed C (hK.sub rfl) | with_reducible apply closed_ite)

theorem State.causeClear_closed (C : Closed K P) (hK : Sub 0x1 K) (s : State) (n : Nat) (v : Word) (hP : P s) : P (State.causeClear s n v).1 := by
  unfold State.causeClear
  try dsimp only
  repeat' (first | with_reducible assumption | with_reducible apply State.wr_closed C (hK.sub rfl))

theorem State.synthLost_closed (C : Closed K P) (hK : Sub 0x20081058f K) (s : State) (n : Nat) (hP : P s) : P (State.synthLost s n) := by
  unfold State.synthLost
  try dsimp only
  repeat' (first | with_reducible assumption | with_reducible apply State.becameDark_closed C (hK.sub rfl) | with_reducible apply State.report_closed C (hK.sub rfl) | with_reducible apply State.ltxFault_closed C (hK.sub rfl) | with_reducible apply State.line_closed C (hK.sub rfl) | with_reducible apply State.put_closed C (hK.sub rfl) | with_reducible apply closed_ite)

theorem State.presenceCheck_closed (C : Closed K P) (hK : Sub 0x1 K) (s : State) (n : Nat) (hP : P s) : P (State.presenceCheck s n) := by
  unfold State.presenceCheck
  try dsimp only
  repeat' (first | with_reducible assumption | with_reducible apply State.put_closed C (hK.sub rfl) | with_reducible apply closed_ite)

theorem State.followWeir_closed (C : Closed K P) (hK : Sub 0x1 K) (s : State) (n : Nat) (hP : P s) : P (State.followWeir s n) := by
  unfold State.followWeir
  try dsimp only
  repeat' (first | with_reducible assumption | with_reducible apply State.presenceCheck_closed C (hK.sub rfl) | with_reducible apply State.put_closed C (hK.sub rfl) | with_reducible apply closed_ite)

theorem State.detect_closed (C : Closed K P) (hK : Sub 0x1 K) (s : State) (n mv : Nat) (hP : P s) : P (State.detect s n mv) := by
  unfold State.detect
  try dsimp only
  repeat' (first | with_reducible assumption | with_reducible apply State.presenceCheck_closed C (hK.sub rfl) | with_reducible apply State.put_closed C (hK.sub rfl) | with_reducible apply closed_ite | with_reducible apply closed_ite_fst)

theorem State.expectFrames_closed (C : Closed K P) (hK : Sub 0x2 K) (s : State) (n : Nat) (hP : P s) : P (State.expectFrames s n) := by
  unfold State.expectFrames
  try dsimp only
  repeat' (first | with_reducible assumption | intro _ | with_reducible apply State.onLane_closed C (hK.sub rfl))

theorem State.present_closed (C : Closed K P) (hK : Sub 0x20001000f K) (s : State) (n : Nat) (hP : P s) : P (State.present s n) := by
  unfold State.present
  try dsimp only
  repeat' (first | with_reducible assumption | with_reducible apply State.expectFrames_closed C (hK.sub rfl) | with_reducible apply State.lrxCdr_closed C (hK.sub rfl) | with_reducible apply State.line_closed C (hK.sub rfl) | with_reducible apply State.put_closed C (hK.sub rfl) | with_reducible apply closed_ite)

theorem State.acqFail_closed (C : Closed K P) (hK : Sub 0x20081058f K) (s : State) (n : Nat) (timeout : Bool) (hP : P s) : P (State.acqFail s n timeout) := by
  unfold State.acqFail
  try dsimp only
  repeat' (first | with_reducible assumption | with_reducible apply State.timedOut_closed C (hK.sub rfl) | with_reducible apply State.report_closed C (hK.sub rfl) | with_reducible apply State.lrxDark_closed C (hK.sub rfl) | with_reducible apply State.put_closed C (hK.sub rfl) | with_reducible apply closed_ite)

theorem State.acqTimeout_closed (C : Closed K P) (hK : Sub 0x20081058f K) (s : State) (n st : Nat) (hP : P s) : P (State.acqTimeout s n st) := by
  unfold State.acqTimeout
  try dsimp only
  repeat' (first | with_reducible assumption | with_reducible apply State.acqFail_closed C (hK.sub rfl) | with_reducible apply closed_ite)

theorem State.seek_closed (C : Closed K P) (hK : Sub 0x20001000f K) (s : State) (n : Nat) (hP : P s) : P (State.seek s n) := by
  unfold State.seek
  try dsimp only
  repeat' (first | with_reducible assumption | intro _ | with_reducible apply State.lrxSet_closed C (hK.sub rfl) | with_reducible apply State.onLane_closed C (hK.sub rfl))

theorem State.progReady_closed (C : Closed K P) (hK : Sub 0x20001000f K) (s : State) (n : Nat) (hP : P s) : P (State.progReady s n) := by
  unfold State.progReady
  try dsimp only
  repeat' (first | with_reducible assumption | with_reducible apply State.seek_closed C (hK.sub rfl) | with_reducible apply State.put_closed C (hK.sub rfl) | with_reducible apply closed_ite)

theorem State.acqQualified_closed (C : Closed K P) (hK : Sub 0x20001000f K) (s : State) (n : Nat) (hP : P s) : P (State.acqQualified s n) := by
  unfold State.acqQualified
  try dsimp only
  repeat' (first | with_reducible assumption | with_reducible apply State.lrxSet_closed C (hK.sub rfl) | with_reducible apply State.put_closed C (hK.sub rfl) | with_reducible apply closed_ite)

theorem State.acqCmd_closed (C : Closed K P) (hK : Sub 0x20001000f K) (s : State) (n : Nat) (v : Word) (hP : P s) : P (State.acqCmd s n v).1 := by
  unfold State.acqCmd
  try dsimp only
  repeat' (first | with_reducible assumption | with_reducible apply State.acqQualified_closed C (hK.sub rfl) | with_reducible apply State.progReady_closed C (hK.sub rfl) | with_reducible apply closed_ite | with_reducible apply closed_ite_fst)

theorem State.markerQualified_closed (C : Closed K P) (hK : Sub 0x20001000f K) (s : State) (n pos1 pos2 p1 p2 : Nat) (hP : P s) : P (State.markerQualified s n pos1 pos2 p1 p2) := by
  unfold State.markerQualified
  try dsimp only
  repeat' (first | with_reducible assumption | intro _ | with_reducible apply State.lrxSet_closed C (hK.sub rfl) | with_reducible apply State.onLane_closed C (hK.sub rfl) | with_reducible apply State.setFld_closed C (hK.sub rfl) | with_reducible apply closed_ite)

theorem State.capRatio_closed (C : Closed K P) (hK : Sub 0x100000000 K) (s : State) (held p : Nat) (hP : P s) : P (State.capRatio s held p).1 := by
  unfold State.capRatio
  try dsimp only
  repeat' (first | with_reducible assumption | with_reducible apply State.use_closed C (hK.sub rfl) | with_reducible apply closed_ite | with_reducible apply closed_ite_fst)

theorem State.capturePeak_closed (C : Closed K P) (hK : Sub 0x30081058f K) (s : State) (n pos p : Nat) (hP : P s) : P (State.capturePeak s n pos p) := by
  unfold State.capturePeak
  try dsimp only
  repeat' (first | with_reducible assumption | with_reducible apply State.capRatio_closed C (hK.sub rfl) | with_reducible apply State.acqFail_closed C (hK.sub rfl) | with_reducible apply State.expectFrames_closed C (hK.sub rfl) | with_reducible apply State.wrAll_closed C (hK.sub rfl) | with_reducible apply State.lrxSet_closed C (hK.sub rfl) | with_reducible apply State.incr_closed C (hK.sub rfl) | with_reducible apply State.bump_closed C (hK.sub rfl) | with_reducible apply State.put_closed C (hK.sub rfl) | with_reducible apply State.setFld_closed C (hK.sub rfl) | with_reducible apply closed_ite | with_reducible apply closed_ite_fst)

theorem State.peakMissing_closed (C : Closed K P) (hK : Sub 0x20001000f K) (s : State) (n : Nat) (hP : P s) : P (State.peakMissing s n) := by
  unfold State.peakMissing
  try dsimp only
  repeat' (first | with_reducible assumption | with_reducible apply State.seek_closed C (hK.sub rfl) | with_reducible apply closed_ite)

theorem State.windowEnd_closed (C : Closed K P) (hK : Sub 0x20001000f K) (s : State) (n : Nat) (hP : P s) : P (State.windowEnd s n) := by
  unfold State.windowEnd
  try dsimp only
  repeat' (first | with_reducible assumption | with_reducible apply State.lrxSet_closed C (hK.sub rfl) | with_reducible apply closed_ite)

theorem State.lrxLos_closed (C : Closed K P) (hK : Sub 0x20001000f K) (s : State) (n cause mv : Nat) (hP : P s) : P (State.lrxLos s n cause mv) := by
  unfold State.lrxLos
  try dsimp only
  repeat' (first | with_reducible assumption | with_reducible apply State.lrxDark_closed C (hK.sub rfl) | with_reducible apply State.line_closed C (hK.sub rfl) | with_reducible apply State.put_closed C (hK.sub rfl) | with_reducible apply closed_ite)

theorem State.trnFinish_closed (C : Closed K P) (hK : Sub 0x800001 K) (s : State) (n : Nat) (hP : P s) : P (State.trnFinish s n) := by
  unfold State.trnFinish
  try dsimp only
  repeat' (first | with_reducible assumption | with_reducible apply State.lanesDone_closed C (hK.sub rfl) | with_reducible apply State.timerStop_closed C (hK.sub rfl) | with_reducible apply closed_ite)

theorem State.rxData_closed (C : Closed K P) (hK : Sub 0x20081040f K) (s : State) (n : Nat) (hP : P s) : P (State.rxData s n) := by
  unfold State.rxData
  try dsimp only
  repeat' (first | with_reducible assumption | intro _ | with_reducible apply State.trnFinish_closed C (hK.sub rfl) | with_reducible apply State.cwHunt_closed C (hK.sub rfl) | with_reducible apply State.setPound_closed C (hK.sub rfl) | with_reducible apply State.syncPair_closed C (hK.sub rfl) | with_reducible apply State.onLane_closed C (hK.sub rfl) | with_reducible apply State.pairLine_closed C (hK.sub rfl) | with_reducible apply State.put_closed C (hK.sub rfl))

theorem State.nearLocked_closed (C : Closed K P) (hK : Sub 0x2008105cf K) (s : State) (n : Nat) (hP : P s) : P (State.nearLocked s n) := by
  unfold State.nearLocked
  try dsimp only
  repeat' (first | with_reducible assumption | intro _ | with_reducible apply State.rxData_closed C (hK.sub rfl) | with_reducible apply State.laneStart_closed C (hK.sub rfl) | with_reducible apply State.halfDone_closed C (hK.sub rfl) | with_reducible apply State.lrxSet_closed C (hK.sub rfl) | with_reducible apply State.trnSet_closed C (hK.sub rfl) | with_reducible apply State.onLane_closed C (hK.sub rfl) | with_reducible apply closed_ite)

theorem State.wcapStart_closed (C : Closed K P) (hK : Sub 0x3 K) (s : State) (n : Nat) (v : Word) (m : Master) (hP : P s) : P (State.wcapStart s n v m).1 := by
  unfold State.wcapStart
  try dsimp only
  repeat' (first | with_reducible assumption | intro _ | with_reducible apply State.configError_closed C (hK.sub rfl) | with_reducible apply State.onLane_closed C (hK.sub rfl) | with_reducible apply State.put_closed C (hK.sub rfl) | with_reducible apply State.setFld_closed C (hK.sub rfl) | with_reducible apply closed_ite | with_reducible apply closed_ite_fst | split)

theorem State.wcapRun_closed (C : Closed K P) (hK : Sub 0x180011003 K) (s : State) (n : Nat) (hP : P s) : P (State.wcapRun s n) := by
  unfold State.wcapRun
  try dsimp only
  repeat' (first | with_reducible assumption | intro _ | with_reducible apply State.onLane_closed C (hK.sub rfl) | with_reducible apply State.putWords_closed C (hK.sub rfl) | with_reducible apply State.take_closed C (hK.sub rfl) | with_reducible apply State.line_closed C (hK.sub rfl) | with_reducible apply State.use_closed C (hK.sub rfl) | with_reducible apply State.put_closed C (hK.sub rfl) | with_reducible apply State.setFld_closed C (hK.sub rfl) | with_reducible apply closed_ite)

theorem State.toStore_closed (C : Closed K P) (hK : Sub 0x10401 K) (s : State) (n : Nat) (b : Barge) (hP : P s) : P (State.toStore s n b) := by
  unfold State.toStore
  try dsimp only
  repeat' (first | with_reducible assumption | with_reducible apply State.xdrop_closed C (hK.sub rfl) | with_reducible apply State.setStore_closed C (hK.sub rfl) | with_reducible apply closed_ite)

theorem State.toSlots_closed (C : Closed K P) (hK : Sub 0x10401 K) (s : State) (n : Nat) (b : Barge) (hP : P s) : P (State.toSlots s n b) := by
  unfold State.toSlots
  try dsimp only
  repeat' (first | with_reducible assumption | with_reducible apply State.toStore_closed C (hK.sub rfl))

theorem State.rsLine_closed (C : Closed K P) (hK : Sub 0x2 K) (s : State) (n : Nat) (b : Barge) (hP : P s) : P (State.rsLine s n b) := by
  unfold State.rsLine
  try dsimp only
  repeat' (first | with_reducible assumption | intro _ | with_reducible apply State.rsRead_closed C (hK.sub rfl) | with_reducible apply each_closed C (hK.sub rfl) | with_reducible apply closed_ite)

theorem State.rsHost_closed (C : Closed K P) (hK : Sub 0x2 K) (s : State) (n : Nat) (b : Barge) (hP : P s) : P (State.rsHost s n b) := by
  unfold State.rsHost
  try dsimp only
  repeat' (first | with_reducible assumption | intro _ | with_reducible apply State.rsRead_closed C (hK.sub rfl) | with_reducible apply each_closed C (hK.sub rfl) | with_reducible apply closed_ite)

theorem State.deliver_closed (C : Closed K P) (hK : Sub 0x10403 K) (s : State) (n : Nat) (b : Barge) (hP : P s) : P (State.deliver s n b) := by
  unfold State.deliver
  try dsimp only
  repeat' (first | with_reducible assumption | with_reducible apply State.rsLine_closed C (hK.sub rfl) | with_reducible apply State.toSlots_closed C (hK.sub rfl) | with_reducible apply State.toStore_closed C (hK.sub rfl) | with_reducible apply State.bwCount_closed C (hK.sub rfl) | with_reducible apply closed_ite)

theorem State.deliverHost_closed (C : Closed K P) (hK : Sub 0x10401 K) (s : State) (n : Nat) (b : Barge) (hP : P s) : P (State.deliverHost s n b) := by
  unfold State.deliverHost
  try dsimp only
  repeat' (first | with_reducible assumption | with_reducible apply State.toSlots_closed C (hK.sub rfl) | with_reducible apply State.toStore_closed C (hK.sub rfl) | with_reducible apply closed_ite)

theorem State.slotTake_closed (C : Closed K P) (hK : Sub 0x402 K) (s : State) (slot stamp : Nat) (hP : P s) : P (State.slotTake s slot stamp).1 := by
  unfold State.slotTake
  try dsimp only
  repeat' (first | with_reducible assumption | with_reducible apply State.slotFill_closed C (hK.sub rfl) | with_reducible apply State.setPound_closed C (hK.sub rfl) | split)

theorem State.joinSlots_closed (C : Closed K P) (hK : Sub 0x402 K) (s : State) (n stamp : Nat) (hP : P s) : P (State.joinSlots s n stamp).1 := by
  unfold State.joinSlots
  try dsimp only
  repeat' (first | with_reducible assumption | intro _ | with_reducible apply State.slotTake_closed C (hK.sub rfl) | with_reducible apply closed_ite | with_reducible apply closed_ite_fst)

theorem State.hostStep_closed (C : Closed K P) (hK : Sub 0x10403 K) (s : State) (n stamp : Nat) (hP : P s) : P (State.hostStep s n stamp) := by
  unfold State.hostStep
  try dsimp only
  repeat' (first | with_reducible assumption | with_reducible apply State.joinSlots_closed C (hK.sub rfl) | with_reducible apply State.deliverHost_closed C (hK.sub rfl) | with_reducible apply State.rsHost_closed C (hK.sub rfl))

theorem State.lineInput_closed (C : Closed K P) (hK : Sub 0x10403 K) (s : State) (n : Nat) (codes : List Int) (stamp : Nat) (hP : P s) : P (State.lineInput s n codes stamp) := by
  unfold State.lineInput
  try dsimp only
  repeat' (first | with_reducible assumption | with_reducible apply State.deliver_closed C (hK.sub rfl) | with_reducible apply State.fillBarge_closed C (hK.sub rfl) | with_reducible apply State.lineDetect_closed C (hK.sub rfl) | with_reducible apply State.intoPound_closed C (hK.sub rfl) | with_reducible apply State.xdrop_closed C (hK.sub rfl) | with_reducible apply closed_ite | with_reducible apply closed_ite_fst)

theorem State.inputBarge_closed (C : Closed K P) (hK : Sub 0x10403 K) (s : State) (src : InBarge) (sym : BitVec 17) (frac : BitVec 4) (hP : P s) : P (State.inputBarge s src sym frac) := by
  unfold State.inputBarge
  try dsimp only
  repeat' (first | with_reducible assumption | with_reducible apply State.lineInput_closed C (hK.sub rfl) | with_reducible apply State.hostStep_closed C (hK.sub rfl) | with_reducible apply State.hostInput_closed C (hK.sub rfl) | with_reducible apply State.line_closed C (hK.sub rfl) | with_reducible apply closed_ite | split)

theorem State.toDecoder_closed (C : Closed K P) (hK : Sub 0x2 K) (s : State) (n : Nat) (b : Barge) (hP : P s) : P (State.toDecoder s n b) := by
  unfold State.toDecoder
  try dsimp only
  repeat' (first | with_reducible assumption | intro _ | with_reducible apply State.onLane_closed C (hK.sub rfl) | with_reducible apply closed_ite)

theorem State.drainLine_closed (C : Closed K P) (hK : Sub 0x10403 K) (s : State) (n : Nat) (hP : P s) : P (State.drainLine s n) := by
  unfold State.drainLine
  try dsimp only
  repeat' (first | with_reducible assumption | with_reducible apply State.toDecoder_closed C (hK.sub rfl) | with_reducible apply State.deliver_closed C (hK.sub rfl) | with_reducible apply State.fillBarge_closed C (hK.sub rfl) | with_reducible apply State.setPound_closed C (hK.sub rfl) | with_reducible apply closed_ite | with_reducible apply closed_ite_fst | split)

theorem State.drainHost_closed (C : Closed K P) (hK : Sub 0x10403 K) (s : State) (n : Nat) (hP : P s) : P (State.drainHost s n) := by
  unfold State.drainHost
  try dsimp only
  repeat' (first | with_reducible assumption | with_reducible apply State.hostStep_closed C (hK.sub rfl) | with_reducible apply closed_ite)

theorem State.drain_closed (C : Closed K P) (hK : Sub 0x10403 K) (s : State) (hP : P s) : P (State.drain s) := by
  unfold State.drain
  try dsimp only
  repeat' (first | with_reducible assumption | intro _ | with_reducible apply State.drainHost_closed C (hK.sub rfl) | with_reducible apply State.drainLine_closed C (hK.sub rfl) | with_reducible apply each_closed C (hK.sub rfl) | with_reducible apply closed_ite)

theorem State.keepTail_closed (C : Closed K P) (hK : Sub 0x2 K) (s : State) (n keep swing : Nat) (ls : List Nat) (hP : P s) : P (State.keepTail s n keep swing ls) := by
  unfold State.keepTail
  try dsimp only
  repeat' (first | with_reducible assumption | intro _ | with_reducible apply State.onLane_closed C (hK.sub rfl))

theorem State.sendLevels_closed (C : Closed K P) (hK : Sub 0x200010403 K) (s : State) (n : Nat) (ls : List Nat) (hP : P s) : P (State.sendLevels s n ls) := by
  unfold State.sendLevels
  try dsimp only
  repeat' (first | with_reducible assumption | with_reducible apply State.keepTail_closed C (hK.sub rfl) | with_reducible apply State.lineRun_closed C (hK.sub rfl) | with_reducible apply State.take_closed C (hK.sub rfl) | with_reducible apply State.emit_closed C (hK.sub rfl) | with_reducible apply closed_ite)

theorem State.driveHtx_closed (C : Closed K P) (hK : Sub 0x200000002 K) (s : State) (k : Nat) (ls : List Nat) (hP : P s) : P (State.driveHtx s k ls) := by
  unfold State.driveHtx
  try dsimp only
  repeat' (first | with_reducible assumption | with_reducible apply State.keepTail_closed C (hK.sub rfl) | with_reducible apply State.take_closed C (hK.sub rfl) | with_reducible apply State.emit_closed C (hK.sub rfl))

theorem State.patternNext_closed (C : Closed K P) (hK : Sub 0x300000002 K) (s : State) (n k : Nat) (hP : P s) : P (State.patternNext s n k).1 := by
  unfold State.patternNext
  try dsimp only
  repeat' (first | with_reducible assumption | intro _ | with_reducible apply State.onLane_closed C (hK.sub rfl) | with_reducible apply State.use_closed C (hK.sub rfl) | with_reducible apply State.emit_closed C (hK.sub rfl) | with_reducible apply closed_ite | with_reducible apply closed_ite_fst | split)

theorem State.sendHtx_closed (C : Closed K P) (hK : Sub 0x300000002 K) (s : State) (k v : Nat) (hP : P s) : P (State.sendHtx s k v) := by
  unfold State.sendHtx
  try dsimp only
  repeat' (first | with_reducible assumption | intro _ | with_reducible apply State.patternNext_closed C (hK.sub rfl) | with_reducible apply State.driveHtx_closed C (hK.sub rfl) | with_reducible apply closed_ite | with_reducible apply closed_ite_fst)

theorem State.sendData_closed (C : Closed K P) (hK : Sub 0x200010403 K) (s : State) (n : Nat) (gs : List Nat) (hP : P s) : P (State.sendData s n gs) := by
  unfold State.sendData
  try dsimp only
  repeat' (first | with_reducible assumption | intro _ | with_reducible apply State.sendLevels_closed C (hK.sub rfl) | with_reducible apply State.onLane_closed C (hK.sub rfl) | with_reducible apply closed_ite)

theorem State.sendGroup_closed (C : Closed K P) (hK : Sub 0x200010403 K) (s : State) (n payload : Nat) (hP : P s) : P (State.sendGroup s n payload) := by
  unfold State.sendGroup
  try dsimp only
  repeat' (first | with_reducible assumption | intro _ | with_reducible apply State.sendData_closed C (hK.sub rfl) | with_reducible apply State.onLane_closed C (hK.sub rfl) | with_reducible apply closed_ite)

theorem State.sendLtx_closed (C : Closed K P) (hK : Sub 0x300010403 K) (s : State) (n v : Nat) (hP : P s) : P (State.sendLtx s n v) := by
  unfold State.sendLtx
  try dsimp only
  repeat' (first | with_reducible assumption | intro _ | with_reducible apply State.sendGroup_closed C (hK.sub rfl) | with_reducible apply State.sendData_closed C (hK.sub rfl) | with_reducible apply State.patternNext_closed C (hK.sub rfl) | with_reducible apply State.sendLevels_closed C (hK.sub rfl) | with_reducible apply State.onLane_closed C (hK.sub rfl) | with_reducible apply closed_ite | with_reducible apply closed_ite_fst | split)

theorem State.sendBarge_closed (C : Closed K P) (hK : Sub 0x300010403 K) (s : State) (j v : Nat) (hP : P s) : P (State.sendBarge s j v) := by
  unfold State.sendBarge
  try dsimp only
  repeat' (first | with_reducible assumption | with_reducible apply State.sendLtx_closed C (hK.sub rfl) | with_reducible apply State.sendHtx_closed C (hK.sub rfl) | with_reducible apply closed_ite)

theorem State.outFill_closed (C : Closed K P) (hK : Sub 0x2 K) (s : State) (j : Nat) (hP : P s) : P (State.outFill s j).1 := by
  unfold State.outFill
  try dsimp only
  repeat' (first | with_reducible assumption | with_reducible apply State.fillSlot_closed C (hK.sub rfl) | with_reducible apply State.fillData_closed C (hK.sub rfl) | with_reducible apply closed_ite | with_reducible apply closed_ite_fst)

theorem State.underrun_closed (C : Closed K P) (hK : Sub 0x300010403 K) (s : State) (j : Nat) (hP : P s) : P (State.underrun s j) := by
  unfold State.underrun
  try dsimp only
  repeat' (first | with_reducible assumption | with_reducible apply State.outFill_closed C (hK.sub rfl) | with_reducible apply State.sendBarge_closed C (hK.sub rfl) | with_reducible apply State.fill_closed C (hK.sub rfl) | with_reducible apply State.tally_closed C (hK.sub rfl) | with_reducible apply State.emit_closed C (hK.sub rfl) | with_reducible apply State.bump_closed C (hK.sub rfl) | with_reducible apply State.put_closed C (hK.sub rfl))

theorem State.marginTest_closed (C : Closed K P) (hK : Sub 0x1 K) (s : State) (m thr : Int) (hyst : Nat) (stat ev : Fld) (hP : P s) : P (State.marginTest s m thr hyst stat ev).1 := by
  unfold State.marginTest
  try dsimp only
  repeat' (first | with_reducible assumption | with_reducible apply State.put_closed C (hK.sub rfl) | with_reducible apply closed_ite | with_reducible apply closed_ite_fst)

theorem State.speedWindow_closed (C : Closed K P) (hK : Sub 0x20081038f K) (s : State) (l : List Int) (hP : P s) : P (State.speedWindow s l) := by
  unfold State.speedWindow
  try dsimp only
  repeat' (first | with_reducible assumption | intro _ | with_reducible apply State.marginTest_closed C (hK.sub rfl) | with_reducible apply State.devRaise_closed C (hK.sub rfl) | with_reducible apply each_closed C (hK.sub rfl) | with_reducible apply State.put_closed C (hK.sub rfl) | with_reducible apply State.setFld_closed C (hK.sub rfl) | with_reducible apply closed_ite | with_reducible apply closed_ite_fst)

theorem State.lowClear_closed (C : Closed K P) (hK : Sub 0x1 K) (s : State) (hP : P s) : P (State.lowClear s) := by
  unfold State.lowClear
  try dsimp only
  repeat' (first | with_reducible assumption | with_reducible apply State.setFld_closed C (hK.sub rfl))

theorem State.retarget_closed (C : Closed K P) (hK : Sub 0x401 K) (s : State) (host : Bool) (hP : P s) : P (State.retarget s host) := by
  unfold State.retarget
  try dsimp only
  repeat' (first | with_reducible assumption | with_reducible apply State.takeTarget_closed C (hK.sub rfl) | with_reducible apply closed_ite | with_reducible apply closed_ite_fst)

theorem State.targetWrite_closed (C : Closed K P) (hK : Sub 0x401 K) (s : State) (host : Bool) (v : Word) (hP : P s) : P (State.targetWrite s host v).1 := by
  unfold State.targetWrite
  try dsimp only
  repeat' (first | with_reducible assumption | intro _ | with_reducible apply State.retarget_closed C (hK.sub rfl) | with_reducible apply each_closed C (hK.sub rfl) | with_reducible apply State.setFld_closed C (hK.sub rfl) | with_reducible apply closed_ite | with_reducible apply closed_ite_fst)

theorem State.measured_closed (C : Closed K P) (hK : Sub 0x1 K) (s : State) (j : Nat) (lat : BitVec 24) (hP : P s) : P (State.measured s j lat) := by
  unfold State.measured
  try dsimp only
  repeat' (first | with_reducible assumption | with_reducible apply State.put_closed C (hK.sub rfl) | with_reducible apply State.setFld_closed C (hK.sub rfl))

theorem State.slewDone_closed (C : Closed K P) (hK : Sub 0x1 K) (s : State) (j : Nat) (lat : BitVec 24) (hP : P s) : P (State.slewDone s j lat) := by
  unfold State.slewDone
  try dsimp only
  repeat' (first | with_reducible assumption | with_reducible apply State.measured_closed C (hK.sub rfl) | with_reducible apply State.setFld_closed C (hK.sub rfl) | with_reducible apply closed_ite)

theorem State.lockLost_closed (C : Closed K P) (hK : Sub 0x1 K) (s : State) (j : Nat) (lat : BitVec 24) (hP : P s) : P (State.lockLost s j lat) := by
  unfold State.lockLost
  try dsimp only
  repeat' (first | with_reducible assumption | with_reducible apply State.measured_closed C (hK.sub rfl) | with_reducible apply State.put_closed C (hK.sub rfl) | with_reducible apply State.setFld_closed C (hK.sub rfl) | with_reducible apply closed_ite)

theorem State.released_closed (C : Closed K P) (hK : Sub 0x1 K) (s : State) (j : Nat) (lat : BitVec 24) (hP : P s) : P (State.released s j lat) := by
  unfold State.released
  try dsimp only
  repeat' (first | with_reducible assumption | with_reducible apply State.lockLost_closed C (hK.sub rfl) | with_reducible apply State.slewDone_closed C (hK.sub rfl) | with_reducible apply State.measured_closed C (hK.sub rfl))

theorem State.releaseBarge_closed (C : Closed K P) (hK : Sub 0x300010403 K) (s : State) (j : Nat) (b : Barge) (rest : List Barge) (upset : BitVec 32) (lat : BitVec 24) (hP : P s) : P (State.releaseBarge s j b rest upset lat) := by
  unfold State.releaseBarge
  try dsimp only
  repeat' (first | with_reducible assumption | with_reducible apply State.released_closed C (hK.sub rfl) | with_reducible apply State.underrun_closed C (hK.sub rfl) | with_reducible apply State.sendBarge_closed C (hK.sub rfl) | with_reducible apply State.setStore_closed C (hK.sub rfl) | with_reducible apply State.upset_closed C (hK.sub rfl) | with_reducible apply State.bwCount_closed C (hK.sub rfl) | with_reducible apply State.tally_closed C (hK.sub rfl) | with_reducible apply State.emit_closed C (hK.sub rfl) | with_reducible apply State.put_closed C (hK.sub rfl) | with_reducible apply closed_ite)

theorem State.release_closed (C : Closed K P) (hK : Sub 0x300010403 K) (s : State) (j : Nat) (upset : BitVec 32) (lat : BitVec 24) (hP : P s) : P (State.release s j upset lat) := by
  unfold State.release
  try dsimp only
  repeat' (first | with_reducible assumption | with_reducible apply State.releaseBarge_closed C (hK.sub rfl) | with_reducible apply State.underrun_closed C (hK.sub rfl) | with_reducible apply State.sendBarge_closed C (hK.sub rfl) | with_reducible apply State.setStore_closed C (hK.sub rfl) | with_reducible apply State.upset_closed C (hK.sub rfl) | with_reducible apply closed_ite | split)

theorem State.groupOut_closed (C : Closed K P) (hK : Sub 0x10403 K) (s : State) (n payload : Nat) (fail corr : Bool) (hP : P s) : P (State.groupOut s n payload fail corr) := by
  unfold State.groupOut
  try dsimp only
  repeat' (first | with_reducible assumption | with_reducible apply State.deliver_closed C (hK.sub rfl) | with_reducible apply State.take_closed C (hK.sub rfl) | with_reducible apply closed_ite)

theorem State.groupIn_closed (C : Closed K P) (hK : Sub 0x10403 K) (s : State) (n len msg : Nat) (fail corr : Bool) (hP : P s) : P (State.groupIn s n len msg fail corr) := by
  unfold State.groupIn
  try dsimp only
  repeat' (first | with_reducible assumption | intro _ | with_reducible apply State.groupOut_closed C (hK.sub rfl) | with_reducible apply State.onLane_closed C (hK.sub rfl) | with_reducible apply closed_ite | with_reducible apply closed_ite_fst)

theorem State.crossAck_closed (C : Closed K P) (hK : Sub 0x10401 K) (s : State) (n : Nat) (hP : P s) : P (State.crossAck s n) := by
  unfold State.crossAck
  try dsimp only
  repeat' (first | with_reducible assumption | with_reducible apply State.dropPound_closed C (hK.sub rfl) | with_reducible apply State.setCrossing_closed C (hK.sub rfl) | with_reducible apply closed_ite | with_reducible apply closed_ite_fst)

theorem State.cwJudge_closed (C : Closed K P) (hK : Sub 0x3 K) (s : State) (n : Nat) (zeros : List Bool) (hP : P s) : P (State.cwJudge s n zeros) := by
  unfold State.cwJudge
  try dsimp only
  repeat' (first | with_reducible assumption | intro _ | with_reducible apply State.onLane_closed C (hK.sub rfl) | with_reducible apply State.take_closed C (hK.sub rfl) | with_reducible apply State.setFld_closed C (hK.sub rfl))

theorem State.cwTake_closed (C : Closed K P) (hK : Sub 0x2 K) (s : State) (n k : Nat) (hP : P s) : P (State.cwTake s n k) := by
  unfold State.cwTake
  try dsimp only
  repeat' (first | with_reducible assumption | intro _ | with_reducible apply State.onLane_closed C (hK.sub rfl))

theorem State.cwLoss_closed (C : Closed K P) (hK : Sub 0x20081058f K) (s : State) (n : Nat) (hP : P s) : P (State.cwLoss s n) := by
  unfold State.cwLoss
  try dsimp only
  repeat' (first | with_reducible assumption | with_reducible apply State.cwTake_closed C (hK.sub rfl) | with_reducible apply State.report_closed C (hK.sub rfl) | with_reducible apply State.cwSeek_closed C (hK.sub rfl) | with_reducible apply State.syncPair_closed C (hK.sub rfl) | with_reducible apply State.pairLine_closed C (hK.sub rfl) | with_reducible apply State.bump_closed C (hK.sub rfl) | with_reducible apply State.put_closed C (hK.sub rfl) | with_reducible apply closed_ite)

theorem State.cwResult_closed (C : Closed K P) (hK : Sub 0x10403 K) (s : State) (n w : Nat) (r : Option (List Nat)) (hP : P s) : P (State.cwResult s n w r) := by
  unfold State.cwResult
  try dsimp only
  repeat' (first | with_reducible assumption | intro _ | with_reducible apply State.groupIn_closed C (hK.sub rfl) | with_reducible apply State.tally_closed C (hK.sub rfl) | with_reducible apply State.bump_closed C (hK.sub rfl) | with_reducible apply State.put_closed C (hK.sub rfl) | split)

theorem State.cwDecode_closed (C : Closed K P) (hK : Sub 0x20081058f K) (s : State) (n : Nat) (hP : P s) : P (State.cwDecode s n) := by
  unfold State.cwDecode
  try dsimp only
  repeat' (first | with_reducible assumption | with_reducible apply State.cwResult_closed C (hK.sub rfl) | with_reducible apply State.cwLoss_closed C (hK.sub rfl) | with_reducible apply State.cwJudge_closed C (hK.sub rfl) | with_reducible apply closed_ite)

theorem State.cwLocked_closed (C : Closed K P) (hK : Sub 0x20001000f K) (s : State) (n : Nat) (hP : P s) : P (State.cwLocked s n) := by
  unfold State.cwLocked
  try dsimp only
  repeat' (first | with_reducible assumption | with_reducible apply State.cwTake_closed C (hK.sub rfl) | with_reducible apply State.cwJudge_closed C (hK.sub rfl) | with_reducible apply State.syncPair_closed C (hK.sub rfl) | with_reducible apply State.pairLine_closed C (hK.sub rfl) | with_reducible apply State.put_closed C (hK.sub rfl) | with_reducible apply closed_ite | split)

theorem State.offsetAbandon_closed (C : Closed K P) (hK : Sub 0x3 K) (s : State) (n : Nat) (hP : P s) : P (State.offsetAbandon s n) := by
  unfold State.offsetAbandon
  try dsimp only
  repeat' (first | with_reducible assumption | with_reducible apply State.cwTake_closed C (hK.sub rfl) | with_reducible apply State.cwJudge_closed C (hK.sub rfl) | with_reducible apply State.setFld_closed C (hK.sub rfl) | with_reducible apply closed_ite | split)

theorem State.cwLost_closed (C : Closed K P) (hK : Sub 0x20081058f K) (s : State) (n : Nat) (hP : P s) : P (State.cwLost s n) := by
  unfold State.cwLost
  try dsimp only
  repeat' (first | with_reducible assumption | with_reducible apply State.cwLoss_closed C (hK.sub rfl) | with_reducible apply closed_ite)

theorem State.cwCtl_closed (C : Closed K P) (hK : Sub 0x20001000f K) (s : State) (n : Nat) (v : Word) (hP : P s) : P (State.cwCtl s n v).1 := by
  unfold State.cwCtl
  try dsimp only
  repeat' (first | with_reducible assumption | intro _ | with_reducible apply State.cwSeek_closed C (hK.sub rfl) | with_reducible apply State.syncPair_closed C (hK.sub rfl) | with_reducible apply State.onLane_closed C (hK.sub rfl) | with_reducible apply closed_ite | with_reducible apply closed_ite_fst)

theorem State.cwInjWrite_closed (C : Closed K P) (hK : Sub 0x1 K) (s : State) (n : Nat) (v : Word) (hP : P s) : P (State.cwInjWrite s n v).1 := by
  unfold State.cwInjWrite
  try dsimp only
  repeat' (first | with_reducible assumption | with_reducible apply State.put_closed C (hK.sub rfl) | with_reducible apply State.setFld_closed C (hK.sub rfl) | with_reducible apply closed_ite | with_reducible apply closed_ite_fst)

theorem State.rsAlign_closed (C : Closed K P) (hK : Sub 0x3 K) (s : State) (n u : Nat) (hP : P s) : P (State.rsAlign s n u) := by
  unfold State.rsAlign
  try dsimp only
  repeat' (first | with_reducible assumption | with_reducible apply State.rsStart_closed C (hK.sub rfl) | with_reducible apply closed_ite)

theorem State.rsNoAlign_closed (C : Closed K P) (hK : Sub 0x1 K) (s : State) (n u : Nat) (hP : P s) : P (State.rsNoAlign s n u) := by
  unfold State.rsNoAlign
  try dsimp only
  repeat' (first | with_reducible assumption | with_reducible apply State.put_closed C (hK.sub rfl) | with_reducible apply closed_ite)

theorem State.rsCount_closed (C : Closed K P) (hK : Sub 0x1 K) (s : State) (n u : Nat) (errs : Option Nat) (hP : P s) : P (State.rsCount s n u errs) := by
  unfold State.rsCount
  try dsimp only
  repeat' (first | with_reducible assumption | with_reducible apply State.bump_closed C (hK.sub rfl) | with_reducible apply State.setFld_closed C (hK.sub rfl) | split)

theorem State.rsCodeword_closed (C : Closed K P) (hK : Sub 0x3 K) (s : State) (n u : Nat) (hP : P s) : P (State.rsCodeword s n u) := by
  unfold State.rsCodeword
  try dsimp only
  repeat' (first | with_reducible assumption | intro _ | with_reducible apply State.rsCount_closed C (hK.sub rfl) | with_reducible apply State.onLane_closed C (hK.sub rfl) | with_reducible apply closed_ite | with_reducible apply closed_ite_fst)

theorem State.rsCtl_closed (C : Closed K P) (hK : Sub 0x3 K) (s : State) (n u : Nat) (v : Word) (hP : P s) : P (State.rsCtl s n u v).1 := by
  unfold State.rsCtl
  try dsimp only
  repeat' (first | with_reducible assumption | with_reducible apply State.rsStart_closed C (hK.sub rfl) | with_reducible apply State.wr_closed C (hK.sub rfl) | with_reducible apply closed_ite | with_reducible apply closed_ite_fst)

theorem State.trainStart_closed (C : Closed K P) (hK : Sub 0x20081058f K) (s : State) (n : Nat) (wake : Bool) (hP : P s) : P (State.trainStart s n wake) := by
  unfold State.trainStart
  try dsimp only
  repeat' (first | with_reducible assumption | intro _ | with_reducible apply State.report_closed C (hK.sub rfl) | with_reducible apply State.unsquelch_closed C (hK.sub rfl) | with_reducible apply State.trnSet_closed C (hK.sub rfl) | with_reducible apply State.onLane_closed C (hK.sub rfl) | with_reducible apply State.put_closed C (hK.sub rfl) | with_reducible apply State.setFld_closed C (hK.sub rfl) | with_reducible apply closed_ite | with_reducible apply closed_ite_fst)

theorem State.trainCheck_closed (C : Closed K P) (hK : Sub 0x20081058f K) (s : State) (n : Nat) (hP : P s) : P (State.trainCheck s n) := by
  unfold State.trainCheck
  try dsimp only
  repeat' (first | with_reducible assumption | with_reducible apply State.trainStart_closed C (hK.sub rfl) | with_reducible apply closed_ite)

theorem State.laneUp_closed (C : Closed K P) (hK : Sub 0x20081000f K) (s : State) (n : Nat) (hP : P s) : P (State.laneUp s n) := by
  unfold State.laneUp
  try dsimp only
  repeat' (first | with_reducible assumption | intro _ | with_reducible apply State.hrxSet_closed C (hK.sub rfl) | with_reducible apply State.lockStart_closed C (hK.sub rfl) | with_reducible apply State.halfDone_closed C (hK.sub rfl) | with_reducible apply State.lanesDone_closed C (hK.sub rfl) | with_reducible apply State.lrxDark_closed C (hK.sub rfl) | with_reducible apply State.ltxSet_closed C (hK.sub rfl) | with_reducible apply State.setBias_closed C (hK.sub rfl) | with_reducible apply State.syncHtx_closed C (hK.sub rfl) | with_reducible apply State.onLane_closed C (hK.sub rfl) | with_reducible apply State.put_closed C (hK.sub rfl) | with_reducible apply closed_ite)

theorem State.halfStep_closed (C : Closed K P) (hK : Sub 0x181 K) (s : State) (n : Nat) (hP : P s) : P (State.halfStep s n) := by
  unfold State.halfStep
  try dsimp only
  repeat' (first | with_reducible assumption | with_reducible apply State.stepComplete_closed C (hK.sub rfl) | with_reducible apply closed_ite)

theorem State.trimsDone_closed (C : Closed K P) (hK : Sub 0x3008105cf K) (s : State) (n : Nat) (t : Int) (hP : P s) : P (State.trimsDone s n t) := by
  unfold State.trimsDone
  try dsimp only
  repeat' (first | with_reducible assumption | intro _ | with_reducible apply State.halfStep_closed C (hK.sub rfl) | with_reducible apply State.laneUp_closed C (hK.sub rfl) | with_reducible apply State.trainCheck_closed C (hK.sub rfl) | with_reducible apply State.laneStart_closed C (hK.sub rfl) | with_reducible apply State.syncFreq_closed C (hK.sub rfl) | with_reducible apply State.onLane_closed C (hK.sub rfl) | with_reducible apply State.use_closed C (hK.sub rfl) | with_reducible apply State.setFld_closed C (hK.sub rfl) | with_reducible apply closed_ite)

theorem State.synthLocked_closed (C : Closed K P) (hK : Sub 0x1 K) (s : State) (n : Nat) (hP : P s) : P (State.synthLocked s n) := by
  unfold State.synthLocked
  try dsimp only
  repeat' (first | with_reducible assumption | with_reducible apply State.line_closed C (hK.sub rfl) | with_reducible apply State.put_closed C (hK.sub rfl) | with_reducible apply closed_ite)

theorem State.wakeEnd_closed (C : Closed K P) (hK : Sub 0x3 K) (s : State) (n : Nat) (hP : P s) : P (State.wakeEnd s n) := by
  unfold State.wakeEnd
  try dsimp only
  repeat' (first | with_reducible assumption | with_reducible apply State.trnSet_closed C (hK.sub rfl) | with_reducible apply State.setFld_closed C (hK.sub rfl) | with_reducible apply closed_ite)

theorem State.dataStart_closed (C : Closed K P) (hK : Sub 0x800003 K) (s : State) (n : Nat) (hP : P s) : P (State.dataStart s n) := by
  unfold State.dataStart
  try dsimp only
  repeat' (first | with_reducible assumption | intro _ | with_reducible apply State.trnFinish_closed C (hK.sub rfl) | with_reducible apply State.trnSet_closed C (hK.sub rfl) | with_reducible apply State.calCheck_closed C (hK.sub rfl) | with_reducible apply State.onLane_closed C (hK.sub rfl) | with_reducible apply State.put_closed C (hK.sub rfl) | with_reducible apply State.setFld_closed C (hK.sub rfl))

theorem State.frameSend_closed (C : Closed K P) (hK : Sub 0x200810403 K) (s : State) (n : Nat) (hP : P s) : P (State.frameSend s n) := by
  unfold State.frameSend
  try dsimp only
  repeat' (first | with_reducible assumption | intro _ | with_reducible apply State.dataStart_closed C (hK.sub rfl) | with_reducible apply State.sendLevels_closed C (hK.sub rfl) | with_reducible apply State.onLane_closed C (hK.sub rfl) | with_reducible apply State.emit_closed C (hK.sub rfl) | with_reducible apply State.setFld_closed C (hK.sub rfl) | with_reducible apply closed_ite)

theorem State.frameDiscard_closed (C : Closed K P) (hK : Sub 0x20081058f K) (s : State) (n : Nat) (hP : P s) : P (State.frameDiscard s n) := by
  unfold State.frameDiscard
  try dsimp only
  repeat' (first | with_reducible assumption | intro _ | with_reducible apply State.report_closed C (hK.sub rfl) | with_reducible apply State.onLane_closed C (hK.sub rfl) | with_reducible apply State.bump_closed C (hK.sub rfl) | with_reducible apply State.put_closed C (hK.sub rfl) | with_reducible apply closed_ite)

theorem State.peerOk_closed (C : Closed K P) (hK : Sub 0x1 K) (s : State) (n : Nat) (b : Bool) (hP : P s) : P (State.peerOk s n b) := by
  unfold State.peerOk
  try dsimp only
  repeat' (first | with_reducible assumption | with_reducible apply State.pairLine_closed C (hK.sub rfl) | with_reducible apply State.put_closed C (hK.sub rfl) | with_reducible apply closed_ite)

theorem State.frameReady_closed (C : Closed K P) (hK : Sub 0x3 K) (s : State) (n : Nat) (ready mismatch : Bool) (hP : P s) : P (State.frameReady s n ready mismatch) := by
  unfold State.frameReady
  try dsimp only
  repeat' (first | with_reducible assumption | intro _ | with_reducible apply State.peerOk_closed C (hK.sub rfl) | with_reducible apply State.onLane_closed C (hK.sub rfl) | with_reducible apply closed_ite | split)

theorem State.frameRequest_closed (C : Closed K P) (hK : Sub 0x3 K) (s : State) (n q : Nat) (hP : P s) : P (State.frameRequest s n q) := by
  unfold State.frameRequest
  try dsimp only
  repeat' (first | with_reducible assumption | intro _ | with_reducible apply State.onLane_closed C (hK.sub rfl) | with_reducible apply State.pairLine_closed C (hK.sub rfl) | with_reducible apply closed_ite)

theorem State.frameAccept_closed (C : Closed K P) (hK : Sub 0x3 K) (s : State) (n : Nat) (c : BitVec 128) (hP : P s) : P (State.frameAccept s n c) := by
  unfold State.frameAccept
  try dsimp only
  repeat' (first | with_reducible assumption | intro _ | with_reducible apply State.frameRequest_closed C (hK.sub rfl) | with_reducible apply State.frameReady_closed C (hK.sub rfl) | with_reducible apply State.onLane_closed C (hK.sub rfl) | with_reducible apply State.pairLine_closed C (hK.sub rfl) | with_reducible apply State.bump_closed C (hK.sub rfl) | with_reducible apply State.put_closed C (hK.sub rfl) | with_reducible apply State.setFld_closed C (hK.sub rfl) | with_reducible apply closed_ite)

theorem State.frameIn_closed (C : Closed K P) (hK : Sub 0x20081058f K) (s : State) (n : Nat) (c : BitVec 128) (crc : BitVec 16) (pos : Nat) (hP : P s) : P (State.frameIn s n c crc pos) := by
  unfold State.frameIn
  try dsimp only
  repeat' (first | with_reducible assumption | intro _ | with_reducible apply State.frameAccept_closed C (hK.sub rfl) | with_reducible apply State.frameDiscard_closed C (hK.sub rfl) | with_reducible apply State.onLane_closed C (hK.sub rfl) | with_reducible apply State.bump_closed C (hK.sub rfl) | with_reducible apply closed_ite)

theorem State.peerStart_closed (C : Closed K P) (hK : Sub 0x20081040f K) (s : State) (n : Nat) (hP : P s) : P (State.peerStart s n) := by
  unfold State.peerStart
  try dsimp only
  repeat' (first | with_reducible assumption | with_reducible apply State.rxData_closed C (hK.sub rfl) | with_reducible apply State.put_closed C (hK.sub rfl) | with_reducible apply closed_ite)

theorem State.trnProgram_closed (C : Closed K P) (hK : Sub 0x3 K) (s : State) (n want : Nat) (hP : P s) : P (State.trnProgram s n want) := by
  unfold State.trnProgram
  try dsimp only
  repeat' (first | with_reducible assumption | with_reducible apply State.trnSet_closed C (hK.sub rfl) | with_reducible apply State.put_closed C (hK.sub rfl) | with_reducible apply State.setFld_closed C (hK.sub rfl) | with_reducible apply closed_ite)

theorem State.handover_closed (C : Closed K P) (hK : Sub 0x3 K) (s : State) (n : Nat) (hP : P s) : P (State.handover s n) := by
  unfold State.handover
  try dsimp only
  repeat' (first | with_reducible assumption | intro _ | with_reducible apply State.trnSet_closed C (hK.sub rfl) | with_reducible apply State.onLane_closed C (hK.sub rfl) | with_reducible apply State.put_closed C (hK.sub rfl) | with_reducible apply closed_ite)

theorem State.trnWake_closed (C : Closed K P) (hK : Sub 0x20081058f K) (s : State) (n : Nat) (hP : P s) : P (State.trnWake s n) := by
  unfold State.trnWake
  try dsimp only
  repeat' (first | with_reducible assumption | with_reducible apply State.trainStart_closed C (hK.sub rfl) | with_reducible apply State.trnStop_closed C (hK.sub rfl) | with_reducible apply closed_ite)

theorem State.trnCtl_closed (C : Closed K P) (hK : Sub 0x20081058f K) (s : State) (n : Nat) (v : Word) (hP : P s) : P (State.trnCtl s n v).1 := by
  unfold State.trnCtl
  try dsimp only
  repeat' (first | with_reducible assumption | with_reducible apply State.trnWake_closed C (hK.sub rfl) | with_reducible apply State.handover_closed C (hK.sub rfl) | with_reducible apply State.trnProgram_closed C (hK.sub rfl) | with_reducible apply State.put_closed C (hK.sub rfl) | with_reducible apply closed_ite | with_reducible apply closed_ite_fst)

theorem State.trnAct_closed (C : Closed K P) (hK : Sub 0x20081058f K) (s : State) (n : Nat) (bits : Nat) (hP : P s) : P (State.trnAct s n bits).1 := by
  unfold State.trnAct
  try dsimp only
  repeat' (first | with_reducible assumption | with_reducible apply State.trnCtl_closed C (hK.sub rfl))

theorem State.trnExpire_closed (C : Closed K P) (hK : Sub 0x20081058f K) (s : State) (n : Nat) (hP : P s) : P (State.trnExpire s n) := by
  unfold State.trnExpire
  try dsimp only
  repeat' (first | with_reducible assumption | with_reducible apply State.timedOut_closed C (hK.sub rfl) | with_reducible apply State.timerStop_closed C (hK.sub rfl) | with_reducible apply State.put_closed C (hK.sub rfl) | with_reducible apply closed_ite)

theorem State.rxfRead_closed (C : Closed K P) (hK : Sub 0x2 K) (s : State) (n w : Nat) (hP : P s) : P (State.rxfRead s n w).1 := by
  unfold State.rxfRead
  try dsimp only
  repeat' (first | with_reducible assumption | intro _ | with_reducible apply State.onLane_closed C (hK.sub rfl) | with_reducible apply closed_ite | with_reducible apply closed_ite_fst)

theorem State.attempt_closed (C : Closed K P) (hK : Sub 0x20001000f K) (s : State) (n : Nat) (hP : P s) : P (State.attempt s n) := by
  unfold State.attempt
  try dsimp only
  repeat' (first | with_reducible assumption | intro _ | with_reducible apply State.onLane_closed C (hK.sub rfl) | with_reducible apply State.cmtCheck_closed C (hK.sub rfl) | with_reducible apply State.line_closed C (hK.sub rfl) | with_reducible apply State.setFld_closed C (hK.sub rfl))

theorem State.trigger_closed (C : Closed K P) (hK : Sub 0x20001000f K) (s : State) (n : Nat) (hP : P s) : P (State.trigger s n) := by
  unfold State.trigger
  try dsimp only
  repeat' (first | with_reducible assumption | with_reducible apply State.attempt_closed C (hK.sub rfl) | with_reducible apply State.setFld_closed C (hK.sub rfl))

theorem State.triggerOrDefer_closed (C : Closed K P) (hK : Sub 0x20001000f K) (s : State) (n : Nat) (hP : P s) : P (State.triggerOrDefer s n) := by
  unfold State.triggerOrDefer
  try dsimp only
  repeat' (first | with_reducible assumption | with_reducible apply State.trigger_closed C (hK.sub rfl) | with_reducible apply State.setFld_closed C (hK.sub rfl) | with_reducible apply closed_ite)

theorem State.calCommit_closed (C : Closed K P) (hK : Sub 0x3 K) (s : State) (n : Nat) (step : Bool) (hP : P s) : P (State.calCommit s n step) := by
  unfold State.calCommit
  try dsimp only
  repeat' (first | with_reducible assumption | intro _ | with_reducible apply State.onLane_closed C (hK.sub rfl) | with_reducible apply State.bump_closed C (hK.sub rfl) | with_reducible apply State.put_closed C (hK.sub rfl) | with_reducible apply State.setFld_closed C (hK.sub rfl))

theorem State.stepIn_closed (C : Closed K P) (hK : Sub 0x3 K) (s : State) (n : Nat) (hP : P s) : P (State.stepIn s n) := by
  unfold State.stepIn
  try dsimp only
  repeat' (first | with_reducible assumption | with_reducible apply State.calCommit_closed C (hK.sub rfl) | with_reducible apply State.bump_closed C (hK.sub rfl) | with_reducible apply State.put_closed C (hK.sub rfl))

theorem State.unfit_closed (C : Closed K P) (hK : Sub 0x1 K) (s : State) (n : Nat) (hP : P s) : P (State.unfit s n) := by
  unfold State.unfit
  try dsimp only
  repeat' (first | with_reducible assumption | with_reducible apply State.endPause_closed C (hK.sub rfl) | with_reducible apply State.setBit_closed C (hK.sub rfl) | with_reducible apply State.put_closed C (hK.sub rfl) | with_reducible apply State.setFld_closed C (hK.sub rfl) | with_reducible apply closed_ite)

theorem State.fitness_closed (C : Closed K P) (hK : Sub 0x3 K) (s : State) (n : Nat) (levels : List Nat) (acorr : List Int) (hP : P s) : P (State.fitness s n levels acorr) := by
  unfold State.fitness
  try dsimp only
  repeat' (first | with_reducible assumption | intro _ | with_reducible apply State.unfit_closed C (hK.sub rfl) | with_reducible apply State.onLane_closed C (hK.sub rfl) | with_reducible apply closed_ite)

theorem State.measureEnd_closed (C : Closed K P) (hK : Sub 0x100000003 K) (s : State) (n us : Nat) (hP : P s) : P (State.measureEnd s n us) := by
  unfold State.measureEnd
  try dsimp only
  repeat' (first | with_reducible assumption | intro _ | with_reducible apply State.stepIn_closed C (hK.sub rfl) | with_reducible apply State.onLane_closed C (hK.sub rfl) | with_reducible apply State.line_closed C (hK.sub rfl) | with_reducible apply State.use_closed C (hK.sub rfl) | with_reducible apply State.setFld_closed C (hK.sub rfl) | with_reducible apply closed_ite)

theorem State.retry_closed (C : Closed K P) (hK : Sub 0x20001000f K) (s : State) (n : Nat) (hP : P s) : P (State.retry s n) := by
  unfold State.retry
  try dsimp only
  repeat' (first | with_reducible assumption | with_reducible apply State.attempt_closed C (hK.sub rfl) | with_reducible apply State.incr_closed C (hK.sub rfl) | with_reducible apply State.setFld_closed C (hK.sub rfl) | with_reducible apply closed_ite)

theorem State.calCmd_closed (C : Closed K P) (hK : Sub 0x20001000f K) (s : State) (v : Word) (hP : P s) : P (State.calCmd s v).1 := by
  unfold State.calCmd
  try dsimp only
  repeat' (first | with_reducible assumption | with_reducible apply State.trigger_closed C (hK.sub rfl) | with_reducible apply State.put_closed C (hK.sub rfl) | with_reducible apply State.setFld_closed C (hK.sub rfl) | with_reducible apply closed_ite | with_reducible apply closed_ite_fst | split)

theorem State.branchEdge_closed (C : Closed K P) (hK : Sub 0x2 K) (s : State) (n : Nat) (hP : P s) : P (State.branchEdge s n) := by
  unfold State.branchEdge
  try dsimp only
  repeat' (first | with_reducible assumption | intro _ | with_reducible apply State.onLane_closed C (hK.sub rfl) | with_reducible apply closed_ite)

theorem State.background_closed (C : Closed K P) (hK : Sub 0x3 K) (s : State) (n : Nat) (levels : List Nat) (acorr : List Int) (stats : List (Int × Int × Int)) (lapUs : Nat) (hP : P s) : P (State.background s n levels acorr stats lapUs) := by
  unfold State.background
  try dsimp only
  repeat' (first | with_reducible assumption | intro _ | with_reducible apply State.onLane_closed C (hK.sub rfl) | with_reducible apply State.bump_closed C (hK.sub rfl) | with_reducible apply State.setFld_closed C (hK.sub rfl) | with_reducible apply closed_ite)

theorem State.faultRefuse_closed (C : Closed K P) (hK : Sub 0x1 K) (s : State) (code : Nat) (hP : P s) : P (State.faultRefuse s code).1 := by
  unfold State.faultRefuse
  try dsimp only
  repeat' (first | with_reducible assumption | with_reducible apply State.setBit_closed C (hK.sub rfl))

theorem State.faultReport_closed (C : Closed K P) (hK : Sub 0x20081058f K) (s : State) (m : Master) (v : Word) (hP : P s) : P (State.faultReport s m v).1 := by
  unfold State.faultReport
  try dsimp only
  repeat' (first | with_reducible assumption | with_reducible apply State.faultRefuse_closed C (hK.sub rfl) | with_reducible apply State.fault_closed C (hK.sub rfl) | with_reducible apply closed_ite | with_reducible apply closed_ite_fst)

theorem State.stepFinish_closed (C : Closed K P) (hK : Sub 0x181 K) (s : State) (i : Nat) (hP : P s) : P (State.stepFinish s i) := by
  unfold State.stepFinish
  try dsimp only
  repeat' (first | with_reducible assumption | with_reducible apply State.stepComplete_closed C (hK.sub rfl) | with_reducible apply closed_ite)

theorem State.stepExpire_closed (C : Closed K P) (hK : Sub 0x20081058f K) (s : State) (i : Nat) (hP : P s) : P (State.stepExpire s i) := by
  unfold State.stepExpire
  try dsimp only
  repeat' (first | with_reducible assumption | with_reducible apply State.stepFail_closed C (hK.sub rfl) | with_reducible apply closed_ite)

theorem State.stepWrite_closed (C : Closed K P) (hK : Sub 0x80 K) (s : State) (m : Master) (v : Word) (hP : P s) : P (State.stepWrite s m v).1 := by
  unfold State.stepWrite
  try dsimp only
  repeat' (first | with_reducible assumption | with_reducible apply State.setLadder_closed C (hK.sub rfl) | with_reducible apply closed_ite | with_reducible apply closed_ite_fst)

theorem State.declare_closed (C : Closed K P) (hK : Sub 0x20081038f K) (s : State) (m : Master) (v : Word) (hP : P s) : P (State.declare s m v).1 := by
  unfold State.declare
  try dsimp only
  repeat' (first | with_reducible assumption | with_reducible apply State.faultRefuse_closed C (hK.sub rfl) | with_reducible apply State.devRaise_closed C (hK.sub rfl) | with_reducible apply closed_ite | with_reducible apply closed_ite_fst)

theorem State.devClrWrite_closed (C : Closed K P) (hK : Sub 0x20081078f K) (s : State) (m : Master) (v : Word) (hP : P s) : P (State.devClrWrite s m v).1 := by
  unfold State.devClrWrite
  try dsimp only
  repeat' (first | with_reducible assumption | intro _ | with_reducible apply State.devClear_closed C (hK.sub rfl) | with_reducible apply each_closed C (hK.sub rfl) | with_reducible apply closed_ite | with_reducible apply closed_ite_fst)

theorem State.faultPop_closed (C : Closed K P) (hK : Sub 0x100 K) (s : State) (v : Word) (hP : P s) : P (State.faultPop s v).1 := by
  unfold State.faultPop
  try dsimp only
  repeat' (first | with_reducible assumption | with_reducible apply closed_ite | with_reducible apply closed_ite_fst | with_reducible apply C.faultLog (hK.sub rfl))

theorem State.rootLost_closed (C : Closed K P) (hK : Sub 0x20081058f K) (s : State) (hP : P s) : P (State.rootLost s) := by
  unfold State.rootLost
  try dsimp only
  repeat' (first | with_reducible assumption | intro _ | with_reducible apply State.synthLost_closed C (hK.sub rfl) | with_reducible apply each_closed C (hK.sub rfl) | with_reducible apply State.put_closed C (hK.sub rfl))

theorem State.clockWindow_closed (C : Closed K P) (hK : Sub 0x200810d8f K) (s : State) (clk count : Nat) (hP : P s) : P (State.clockWindow s clk count) := by
  unfold State.clockWindow
  try dsimp only
  repeat' (first | with_reducible assumption | with_reducible apply State.rootLost_closed C (hK.sub rfl) | with_reducible apply State.put_closed C (hK.sub rfl) | with_reducible apply State.setFld_closed C (hK.sub rfl) | with_reducible apply closed_ite | with_reducible apply C.clk (hK.sub rfl))

theorem State.froMeasure_closed (C : Closed K P) (hK : Sub 0x100000801 K) (s : State) (ref : Nat) (err : BitVec 16) (hP : P s) : P (State.froMeasure s ref err) := by
  unfold State.froMeasure
  try dsimp only
  repeat' (first | with_reducible assumption | with_reducible apply State.use_closed C (hK.sub rfl) | with_reducible apply State.put_closed C (hK.sub rfl) | with_reducible apply State.setFld_closed C (hK.sub rfl) | with_reducible apply closed_ite | with_reducible apply C.clk (hK.sub rfl))

theorem State.sourceSelect_closed (C : Closed K P) (hK : Sub 0x1 K) (s : State) (m : Master) (root : Bool) (hP : P s) : P (State.sourceSelect s m root).1 := by
  unfold State.sourceSelect
  try dsimp only
  repeat' (first | with_reducible assumption | with_reducible apply State.put_closed C (hK.sub rfl) | with_reducible apply closed_ite | with_reducible apply closed_ite_fst)

theorem State.rootExpiry_closed (C : Closed K P) (hK : Sub 0x20081058f K) (s : State) (hP : P s) : P (State.rootExpiry s) := by
  unfold State.rootExpiry
  try dsimp only
  repeat' (first | with_reducible assumption | intro _ | with_reducible apply State.report_closed C (hK.sub rfl) | with_reducible apply State.handed_closed C (hK.sub rfl) | with_reducible apply each_closed C (hK.sub rfl) | with_reducible apply closed_ite)

theorem State.gateSleep_closed (C : Closed K P) (hK : Sub 0x1 K) (s : State) (b : Nat) (hP : P s) : P (State.gateSleep s b) := by
  unfold State.gateSleep
  try dsimp only
  repeat' (first | with_reducible assumption | with_reducible apply State.put_closed C (hK.sub rfl) | with_reducible apply closed_ite)

theorem State.gateDeep_closed (C : Closed K P) (hK : Sub 0x801 K) (s : State) (b : Nat) (hP : P s) : P (State.gateDeep s b) := by
  unfold State.gateDeep
  try dsimp only
  repeat' (first | with_reducible assumption | with_reducible apply State.gateSleep_closed C (hK.sub rfl) | with_reducible apply closed_ite | with_reducible apply C.clk (hK.sub rfl))

theorem State.gateOpen_closed (C : Closed K P) (hK : Sub 0x801 K) (s : State) (b : Nat) (hP : P s) : P (State.gateOpen s b) := by
  unfold State.gateOpen
  try dsimp only
  repeat' (first | with_reducible assumption | with_reducible apply State.put_closed C (hK.sub rfl) | with_reducible apply C.clk (hK.sub rfl))

theorem State.gateRequest_closed (C : Closed K P) (hK : Sub 0x801 K) (s : State) (b : Nat) (hP : P s) : P (State.gateRequest s b).1 := by
  unfold State.gateRequest
  try dsimp only
  repeat' (first | with_reducible assumption | with_reducible apply State.gateOpen_closed C (hK.sub rfl) | with_reducible apply closed_ite | with_reducible apply closed_ite_fst)

theorem State.gateRest_closed (C : Closed K P) (hK : Sub 0x1 K) (s : State) (b : Nat) (hP : P s) : P (State.gateRest s b) := by
  unfold State.gateRest
  try dsimp only
  repeat' (first | with_reducible assumption | with_reducible apply State.put_closed C (hK.sub rfl) | with_reducible apply closed_ite)

theorem State.gateWrite_closed (C : Closed K P) (hK : Sub 0x801 K) (s : State) (m : Master) (b : Nat) (v : Word) (hP : P s) : P (State.gateWrite s m b v).1 := by
  unfold State.gateWrite
  try dsimp only
  repeat' (first | with_reducible assumption | with_reducible apply State.gateOpen_closed C (hK.sub rfl) | with_reducible apply State.put_closed C (hK.sub rfl) | with_reducible apply closed_ite | with_reducible apply closed_ite_fst)

theorem State.gtShot_closed (C : Closed K P) (hK : Sub 0x1 K) (s : State) (t : Nat) (hP : P s) : P (State.gtShot s t) := by
  unfold State.gtShot
  try dsimp only
  repeat' (first | with_reducible assumption | with_reducible apply State.gateRest_closed C (hK.sub rfl) | with_reducible apply State.setBit_closed C (hK.sub rfl) | with_reducible apply State.put_closed C (hK.sub rfl))

theorem State.setTb_closed (C : Closed K P) (hK : Sub 0x10000001 K) (s : State) (v : BitVec 64) (hP : P s) : P (State.setTb s v) := by
  unfold State.setTb
  try dsimp only
  repeat' (first | with_reducible assumption | intro _ | with_reducible apply State.gtShot_closed C (hK.sub rfl) | with_reducible apply each_closed C (hK.sub rfl) | with_reducible apply closed_ite | with_reducible apply C.tb (hK.sub rfl))

theorem State.loadTb_closed (C : Closed K P) (hK : Sub 0x10000001 K) (s : State) (hP : P s) : P (State.loadTb s) := by
  unfold State.loadTb
  try dsimp only
  repeat' (first | with_reducible assumption | with_reducible apply State.setTb_closed C (hK.sub rfl) | with_reducible apply State.put_closed C (hK.sub rfl) | with_reducible apply State.setFld_closed C (hK.sub rfl))

theorem State.timeCtl_closed (C : Closed K P) (hK : Sub 0x10000001 K) (s : State) (m : Master) (v : Word) (hP : P s) : P (State.timeCtl s m v).1 := by
  unfold State.timeCtl
  try dsimp only
  repeat' (first | with_reducible assumption | with_reducible apply State.loadTb_closed C (hK.sub rfl) | with_reducible apply State.put_closed C (hK.sub rfl) | with_reducible apply State.setFld_closed C (hK.sub rfl) | with_reducible apply closed_ite | with_reducible apply closed_ite_fst)

theorem State.timeAct_closed (C : Closed K P) (hK : Sub 0x10000001 K) (s : State) (m : Master) (bits : Nat) (hP : P s) : P (State.timeAct s m bits).1 := by
  unfold State.timeAct
  try dsimp only
  repeat' (first | with_reducible assumption | with_reducible apply State.timeCtl_closed C (hK.sub rfl))

theorem State.tbLow_closed (C : Closed K P) (hK : Sub 0x20000000 K) (s : State) (k : Nat) (hP : P s) : P (State.tbLow s k).1 := by
  unfold State.tbLow
  try dsimp only
  repeat' (first | with_reducible assumption | with_reducible exact fun w => w | with_reducible exact fun w => tabWf_put _ _ _ w | intro _ | with_reducible apply C.latch (hK.sub rfl))

theorem State.tbRestart_closed (C : Closed K P) (hK : Sub 0x11000001 K) (s : State) (n : Nat) (hP : P s) : P (State.tbRestart s n) := by
  unfold State.tbRestart
  try dsimp only
  repeat' (first | with_reducible assumption | with_reducible apply State.setTb_closed C (hK.sub rfl) | with_reducible apply State.bump_closed C (hK.sub rfl) | with_reducible apply State.put_closed C (hK.sub rfl) | with_reducible apply State.setFld_closed C (hK.sub rfl) | with_reducible apply closed_ite | with_reducible apply C.dorm (hK.sub rfl))

theorem State.ppsEdge_closed (C : Closed K P) (hK : Sub 0x801 K) (s : State) (rising : Bool) (hP : P s) : P (State.ppsEdge s rising) := by
  unfold State.ppsEdge
  try dsimp only
  repeat' (first | with_reducible assumption | with_reducible apply State.put_closed C (hK.sub rfl) | with_reducible apply State.setFld_closed C (hK.sub rfl) | with_reducible apply closed_ite | split | with_reducible apply C.clk (hK.sub rfl))

theorem State.gtCtl_closed (C : Closed K P) (hK : Sub 0x801 K) (s : State) (m : Master) (t : Nat) (v : Word) (hP : P s) : P (State.gtCtl s m t v).1 := by
  unfold State.gtCtl
  try dsimp only
  repeat' (first | with_reducible assumption | with_reducible apply State.gtShot_closed C (hK.sub rfl) | with_reducible apply State.gateRequest_closed C (hK.sub rfl) | with_reducible apply State.configError_closed C (hK.sub rfl) | with_reducible apply State.put_closed C (hK.sub rfl) | with_reducible apply closed_ite | with_reducible apply closed_ite_fst)

theorem State.gtCmpWrite_closed (C : Closed K P) (hK : Sub 0x1 K) (s : State) (m : Master) (t a : Nat) (v : Word) (hP : P s) : P (State.gtCmpWrite s m t a v).1 := by
  unfold State.gtCmpWrite
  try dsimp only
  repeat' (first | with_reducible assumption | with_reducible apply State.wr_closed C (hK.sub rfl) | with_reducible apply closed_ite | with_reducible apply closed_ite_fst)

end Sys2Proof.Machine
end

