-- ==== Sys2Proof/Laws/KeepsC.lean ====
section
/-! SUPPORT. Sys2Proof/Laws/KeepsC.lean: what each operation keeps: a predicate closed under the updates of
Sys2Proof/Laws/Closed.lean that the operation makes holds after it. Here: memory integrity, the monitor, temperature, cores and sequencers, mailboxes and counters. -/

namespace Sys2Proof.Machine

variable {P : State → Prop} {K : Nat}

theorem State.memxPop_closed (C : Closed K P) (hK : Sub 0x1000 K) (s : State) (m : Master) (v : Word) (hP : P s) : P (State.memxPop s m v).1 := by
  unfold State.memxPop
  try dsimp only
  repeat' (first | with_reducible assumption | with_reducible apply State.setMemLog_closed C (hK.sub rfl) | with_reducible apply closed_ite | with_reducible apply closed_ite_fst)

theorem State.memxClr_closed (C : Closed K P) (hK : Sub 0x80011001 K) (s : State) (m : Master) (v : Word) (hP : P s) : P (State.memxClr s m v).1 := by
  unfold State.memxClr
  try dsimp only
  repeat' (first | with_reducible assumption | with_reducible apply State.memWrite_closed C (hK.sub rfl) | with_reducible apply closed_ite | with_reducible apply closed_ite_fst | split)

theorem State.remove_closed (C : Closed K P) (hK : Sub 0x80001001 K) (s : State) (t row : Nat) (hP : P s) : P (State.remove s t row) := by
  unfold State.remove
  try dsimp only
  repeat' (first | with_reducible assumption | with_reducible apply State.fill_closed C (hK.sub rfl) | with_reducible apply State.putPairBit_closed C (hK.sub rfl) | with_reducible apply State.setBit_closed C (hK.sub rfl) | with_reducible apply State.setFld_closed C (hK.sub rfl) | with_reducible apply closed_ite)

theorem State.useSpare_closed (C : Closed K P) (hK : Sub 0x1 K) (s : State) (t row : Nat) (hP : P s) : P (State.useSpare s t row) := by
  unfold State.useSpare
  try dsimp only
  repeat' (first | with_reducible assumption | with_reducible apply State.putPairBit_closed C (hK.sub rfl) | with_reducible apply State.put_closed C (hK.sub rfl) | with_reducible apply State.setFld_closed C (hK.sub rfl) | with_reducible apply closed_ite)

theorem State.setCopy_closed (C : Closed K P) (hK : Sub 0x1001 K) (s : State) (c : Option (Nat × Nat)) (hP : P s) : P (State.setCopy s c) := by
  unfold State.setCopy
  try dsimp only
  repeat' (first | with_reducible assumption | with_reducible exact fun w => w | exact fun w => w | with_reducible apply State.put_closed C (hK.sub rfl) | with_reducible apply C.integ (hK.sub rfl))

theorem State.memxRetire_closed (C : Closed K P) (hK : Sub 0x80001001 K) (s : State) (m : Master) (v : Word) (hP : P s) : P (State.memxRetire s m v).1 := by
  unfold State.memxRetire
  try dsimp only
  repeat' (first | with_reducible assumption | with_reducible apply State.setCopy_closed C (hK.sub rfl) | with_reducible apply State.remove_closed C (hK.sub rfl) | with_reducible apply State.put_closed C (hK.sub rfl) | with_reducible apply State.setFld_closed C (hK.sub rfl) | with_reducible apply closed_ite | with_reducible apply closed_ite_fst | split)

theorem State.copyDone_closed (C : Closed K P) (hK : Sub 0x80011001 K) (s : State) (hP : P s) : P (State.copyDone s) := by
  unfold State.copyDone
  try dsimp only
  repeat' (first | with_reducible assumption | with_reducible apply State.setCopy_closed C (hK.sub rfl) | with_reducible apply State.useSpare_closed C (hK.sub rfl) | with_reducible apply State.copyRead_closed C (hK.sub rfl) | with_reducible apply State.put_closed C (hK.sub rfl) | with_reducible apply State.setFld_closed C (hK.sub rfl) | with_reducible apply closed_ite | split)

theorem State.lapEnd_closed (C : Closed K P) (hK : Sub 0x1001 K) (s : State) (r lane : Nat) (hP : P s) : P (State.lapEnd s r lane) := by
  unfold State.lapEnd
  try dsimp only
  repeat' (first | with_reducible assumption | with_reducible exact fun w => w | with_reducible exact fun w => tabWf_put _ _ _ w | exact fun w => w | (intro w; simp only [Integ.wf, Bool.and_eq_true] at w ⊢; simp only [w, tabWf_put, and_self]) | intro _ | with_reducible apply State.clrBit_closed C (hK.sub rfl) | with_reducible apply State.setFld_closed C (hK.sub rfl) | with_reducible apply closed_foldl | with_reducible apply closed_foldl_fst | with_reducible apply closed_ite | with_reducible apply closed_ite_fst | with_reducible apply C.integ (hK.sub rfl))

theorem State.scrubMove_closed (C : Closed K P) (hK : Sub 0x1001 K) (s : State) (r lane w : Nat) (hP : P s) : P (State.scrubMove s r lane w) := by
  unfold State.scrubMove
  try dsimp only
  repeat' (first | with_reducible assumption | with_reducible exact fun w => w | with_reducible exact fun w => tabWf_put _ _ _ w | exact fun w => w | (intro w; simp only [Integ.wf, Bool.and_eq_true] at w ⊢; simp only [w, tabWf_put, and_self]) | intro _ | with_reducible apply State.lapEnd_closed C (hK.sub rfl) | with_reducible apply closed_ite | with_reducible apply closed_ite_fst | with_reducible apply C.integ (hK.sub rfl))

theorem State.scrubRead_closed (C : Closed K P) (hK : Sub 0x80011001 K) (s : State) (w : Nat) (hP : P s) : P (State.scrubRead s w) := by
  unfold State.scrubRead
  try dsimp only
  repeat' (first | with_reducible assumption | with_reducible apply State.eccRead_closed C (hK.sub rfl) | with_reducible apply State.poisonWord_closed C (hK.sub rfl) | with_reducible apply State.memLog_closed C (hK.sub rfl) | split)

theorem State.scrub_closed (C : Closed K P) (hK : Sub 0x80011001 K) (s : State) (r lane flips : Nat) (hP : P s) : P (State.scrub s r lane flips) := by
  unfold State.scrub
  try dsimp only
  repeat' (first | with_reducible assumption | with_reducible apply State.scrubRead_closed C (hK.sub rfl) | with_reducible apply State.scrubMove_closed C (hK.sub rfl) | with_reducible apply State.upset_closed C (hK.sub rfl) | with_reducible apply closed_ite | with_reducible apply closed_ite_fst | split)

theorem State.bistCmd_closed (C : Closed K P) (hK : Sub 0x80011001 K) (s : State) (m : Master) (v : Word) (hP : P s) : P (State.bistCmd s m v).1 := by
  unfold State.bistCmd
  try dsimp only
  repeat' (first | with_reducible assumption | with_reducible exact fun w => w | exact fun w => w | with_reducible apply State.copyRange_closed C (hK.sub rfl) | with_reducible apply State.put_closed C (hK.sub rfl) | with_reducible apply State.setFld_closed C (hK.sub rfl) | with_reducible apply closed_ite | with_reducible apply closed_ite_fst | split | with_reducible apply C.integ (hK.sub rfl))

theorem State.bistDone_closed (C : Closed K P) (hK : Sub 0x80011001 K) (s : State) (pass : Bool) (addr : Nat) (bad : List Nat) (hP : P s) : P (State.bistDone s pass addr bad) := by
  unfold State.bistDone
  try dsimp only
  repeat' (first | with_reducible assumption | with_reducible exact fun w => w | exact fun w => w | intro _ | with_reducible apply State.poisonWord_closed C (hK.sub rfl) | with_reducible apply State.memLog_closed C (hK.sub rfl) | with_reducible apply State.put_closed C (hK.sub rfl) | with_reducible apply State.setFld_closed C (hK.sub rfl) | with_reducible apply closed_foldl | with_reducible apply closed_foldl_fst | with_reducible apply closed_ite | split | with_reducible apply C.integ (hK.sub rfl))

theorem State.setMonChan_closed (C : Closed K P) (hK : Sub 0x2000 K) (s : State) (c : Nat) (x : MonChan) (hP : P s) : P (State.setMonChan s c x) := by
  unfold State.setMonChan
  try dsimp only
  repeat' (first | with_reducible assumption | with_reducible exact fun w => w | with_reducible exact fun w => tabWf_put _ _ _ w | intro _ | with_reducible apply C.mons (hK.sub rfl))

theorem State.putWeir_closed (C : Closed K P) (hK : Sub 0x20081048f K) (s : State) (c w : Nat) (b : Bool) (hP : P s) : P (State.putWeir s c w b) := by
  unfold State.putWeir
  try dsimp only
  repeat' (first | with_reducible assumption | with_reducible apply State.followWeir_closed C (hK.sub rfl) | with_reducible apply State.becameDark_closed C (hK.sub rfl) | with_reducible apply State.ltxFault_closed C (hK.sub rfl) | with_reducible apply State.setBit_closed C (hK.sub rfl) | with_reducible apply State.put_closed C (hK.sub rfl) | with_reducible apply closed_ite)

theorem State.weirs_closed (C : Closed K P) (hK : Sub 0x20081048f K) (s : State) (c : Nat) (fine : Bool) (v : Nat) (hP : P s) : P (State.weirs s c fine v) := by
  unfold State.weirs
  try dsimp only
  repeat' (first | with_reducible assumption | intro _ | with_reducible apply State.putWeir_closed C (hK.sub rfl) | with_reducible apply each_closed C (hK.sub rfl) | with_reducible apply closed_ite)

theorem State.weirWrite_closed (C : Closed K P) (hK : Sub 0x20081048f K) (s : State) (m : Master) (c w : Nat) (v : Word) (hP : P s) : P (State.weirWrite s m c w v).1 := by
  unfold State.weirWrite
  try dsimp only
  repeat' (first | with_reducible assumption | with_reducible apply State.putWeir_closed C (hK.sub rfl) | with_reducible apply State.wr_closed C (hK.sub rfl) | with_reducible apply closed_ite | with_reducible apply closed_ite_fst)

theorem State.coarseOut_closed (C : Closed K P) (hK : Sub 0x20081248f K) (s : State) (c v : Nat) (hP : P s) : P (State.coarseOut s c v) := by
  unfold State.coarseOut
  try dsimp only
  repeat' (first | with_reducible assumption | with_reducible apply State.weirs_closed C (hK.sub rfl) | with_reducible apply State.setMonChan_closed C (hK.sub rfl) | with_reducible apply State.wr_closed C (hK.sub rfl) | with_reducible apply closed_ite)

theorem State.fineHidden_closed (C : Closed K P) (hK : Sub 0x1 K) (s : State) (c : Nat) (hP : P s) : P (State.fineHidden s c) := by
  unfold State.fineHidden
  try dsimp only
  repeat' (first | with_reducible assumption | with_reducible apply State.put_closed C (hK.sub rfl) | with_reducible apply State.setFld_closed C (hK.sub rfl))

theorem State.fineOut_closed (C : Closed K P) (hK : Sub 0x20081248f K) (s : State) (c : Nat) (us : List Nat) (hP : P s) : P (State.fineOut s c us) := by
  unfold State.fineOut
  try dsimp only
  repeat' (first | with_reducible assumption | with_reducible apply State.fineHidden_closed C (hK.sub rfl) | with_reducible apply State.weirs_closed C (hK.sub rfl) | with_reducible apply State.setMonChan_closed C (hK.sub rfl) | with_reducible apply State.take_closed C (hK.sub rfl) | with_reducible apply settle_closed C (hK.sub rfl) | with_reducible apply State.incr_closed C (hK.sub rfl) | with_reducible apply State.bump_closed C (hK.sub rfl) | with_reducible apply State.put_closed C (hK.sub rfl) | with_reducible apply State.setFld_closed C (hK.sub rfl) | with_reducible apply closed_ite)

theorem State.accRead_closed (C : Closed K P) (hK : Sub 0x2001 K) (s : State) (c : Nat) (hP : P s) : P (State.accRead s c).1 := by
  unfold State.accRead
  try dsimp only
  repeat' (first | with_reducible assumption | with_reducible apply State.setMonChan_closed C (hK.sub rfl) | with_reducible apply State.setFld_closed C (hK.sub rfl) | with_reducible apply State.wr_closed C (hK.sub rfl))

theorem State.monRestart_closed (C : Closed K P) (hK : Sub 0x6001 K) (s : State) (src : Nat) (hP : P s) : P (State.monRestart s src) := by
  unfold State.monRestart
  try dsimp only
  repeat' (first | with_reducible assumption | intro _ | with_reducible apply State.setMonChan_closed C (hK.sub rfl) | with_reducible apply each_closed C (hK.sub rfl) | with_reducible apply State.bump_closed C (hK.sub rfl) | with_reducible apply State.setBit_closed C (hK.sub rfl) | with_reducible apply State.setFld_closed C (hK.sub rfl) | with_reducible apply State.wr_closed C (hK.sub rfl) | with_reducible apply closed_ite | with_reducible apply C.monAt (hK.sub rfl))

theorem State.monEdge_closed (C : Closed K P) (hK : Sub 0x6001 K) (s : State) (rising : Bool) (ns : Nat) (hP : P s) : P (State.monEdge s rising ns) := by
  unfold State.monEdge
  try dsimp only
  repeat' (first | with_reducible assumption | with_reducible apply State.monRestart_closed C (hK.sub rfl) | with_reducible apply closed_ite)

theorem State.monCtl_closed (C : Closed K P) (hK : Sub 0x6001 K) (s : State) (m : Master) (v : Word) (hP : P s) : P (State.monCtl s m v).1 := by
  unfold State.monCtl
  try dsimp only
  repeat' (first | with_reducible assumption | with_reducible apply State.monRestart_closed C (hK.sub rfl) | with_reducible apply State.put_closed C (hK.sub rfl) | with_reducible apply closed_ite | with_reducible apply closed_ite_fst)

theorem State.monSync_closed (C : Closed K P) (hK : Sub 0x6001 K) (s : State) (m : Master) (hP : P s) : P (State.monSync s m).1 := by
  unfold State.monSync
  try dsimp only
  repeat' (first | with_reducible assumption | with_reducible apply State.monCtl_closed C (hK.sub rfl))

theorem State.monRefuse_closed (C : Closed K P) (hK : Sub 0x1 K) (s : State) (c reason : Nat) (hP : P s) : P (State.monRefuse s c reason).1 := by
  unfold State.monRefuse
  try dsimp only
  repeat' (first | with_reducible assumption | with_reducible apply State.bump_closed C (hK.sub rfl) | with_reducible apply State.setBit_closed C (hK.sub rfl) | with_reducible apply State.setFld_closed C (hK.sub rfl) | with_reducible apply closed_ite | with_reducible apply closed_ite_fst)

theorem State.monConfig_closed (C : Closed K P) (hK : Sub 0x2001 K) (s : State) (m : Master) (c : Nat) (fir : Bool) (v : Word) (hP : P s) : P (State.monConfig s m c fir v).1 := by
  unfold State.monConfig
  try dsimp only
  repeat' (first | with_reducible assumption | with_reducible apply State.monRefuse_closed C (hK.sub rfl) | with_reducible apply State.fineHidden_closed C (hK.sub rfl) | with_reducible apply State.setMonChan_closed C (hK.sub rfl) | with_reducible apply settle_closed C (hK.sub rfl) | with_reducible apply State.wr_closed C (hK.sub rfl) | with_reducible apply closed_ite | with_reducible apply closed_ite_fst | split)

theorem State.coefWrite_closed (C : Closed K P) (hK : Sub 0x1 K) (s : State) (m : Master) (i : Nat) (v : Word) (hP : P s) : P (State.coefWrite s m i v).1 := by
  unfold State.coefWrite
  try dsimp only
  repeat' (first | with_reducible assumption | intro _ | with_reducible apply State.monRefuse_closed C (hK.sub rfl) | with_reducible apply State.setFld_closed C (hK.sub rfl) | with_reducible apply closed_ite | with_reducible apply closed_ite_fst | split)

theorem State.setSensor_closed (C : Closed K P) (hK : Sub 0x8000 K) (s : State) (i : Nat) (x : Sensor) (hP : P s) : P (State.setSensor s i x) := by
  unfold State.setSensor
  try dsimp only
  repeat' (first | with_reducible assumption | with_reducible exact fun w => w | with_reducible exact fun w => tabWf_put _ _ _ w | exact fun w => w | exact fun w => tabWf_put _ _ _ w | intro _ | with_reducible apply C.therm (hK.sub rfl))

theorem State.flagBroken_closed (C : Closed K P) (hK : Sub 0x8001 K) (s : State) (i cause : Nat) (hP : P s) : P (State.flagBroken s i cause) := by
  unfold State.flagBroken
  try dsimp only
  repeat' (first | with_reducible assumption | with_reducible apply State.setSensor_closed C (hK.sub rfl) | with_reducible apply State.setBit_closed C (hK.sub rfl) | with_reducible apply State.put_closed C (hK.sub rfl) | with_reducible apply State.setFld_closed C (hK.sub rfl) | with_reducible apply closed_ite)

theorem State.sensorJudge_closed (C : Closed K P) (hK : Sub 0x8001 K) (s : State) (i : Nat) (hP : P s) : P (State.sensorJudge s i) := by
  unfold State.sensorJudge
  try dsimp only
  repeat' (first | with_reducible assumption | with_reducible apply State.flagBroken_closed C (hK.sub rfl) | with_reducible apply State.setSensor_closed C (hK.sub rfl) | with_reducible apply State.put_closed C (hK.sub rfl) | with_reducible apply closed_ite | split)

theorem State.throtTime_closed (C : Closed K P) (hK : Sub 0x8001 K) (s : State) (hP : P s) : P (State.throtTime s) := by
  unfold State.throtTime
  try dsimp only
  repeat' (first | with_reducible assumption | with_reducible exact fun w => w | exact fun w => w | with_reducible apply State.bump_closed C (hK.sub rfl) | with_reducible apply closed_ite | with_reducible apply C.therm (hK.sub rfl))

theorem State.setLevel_closed (C : Closed K P) (hK : Sub 0x8003 K) (s : State) (lvl : Nat) (hP : P s) : P (State.setLevel s lvl) := by
  unfold State.setLevel
  try dsimp only
  repeat' (first | with_reducible assumption | with_reducible exact fun w => w | exact fun w => w | intro _ | with_reducible apply State.throtTime_closed C (hK.sub rfl) | with_reducible apply State.onLane_closed C (hK.sub rfl) | with_reducible apply each_closed C (hK.sub rfl) | with_reducible apply State.setBit_closed C (hK.sub rfl) | with_reducible apply State.setFld_closed C (hK.sub rfl) | with_reducible apply closed_ite | with_reducible apply C.therm (hK.sub rfl))

theorem State.throttle_closed (C : Closed K P) (hK : Sub 0x8003 K) (s : State) (t : Int) (hP : P s) : P (State.throttle s t) := by
  unfold State.throttle
  try dsimp only
  repeat' (first | with_reducible assumption | with_reducible exact fun w => w | exact fun w => w | with_reducible apply State.setLevel_closed C (hK.sub rfl) | with_reducible apply closed_ite | split | with_reducible apply C.therm (hK.sub rfl))

theorem State.throttleFall_closed (C : Closed K P) (hK : Sub 0x8003 K) (s : State) (hP : P s) : P (State.throttleFall s) := by
  unfold State.throttleFall
  try dsimp only
  repeat' (first | with_reducible assumption | with_reducible apply State.setLevel_closed C (hK.sub rfl) | with_reducible apply closed_ite)

theorem State.warn_closed (C : Closed K P) (hK : Sub 0x1 K) (s : State) (t : Int) (hP : P s) : P (State.warn s t) := by
  unfold State.warn
  try dsimp only
  repeat' (first | with_reducible assumption | with_reducible apply State.setBit_closed C (hK.sub rfl) | with_reducible apply State.put_closed C (hK.sub rfl) | with_reducible apply closed_ite)

theorem State.shutDown_closed (C : Closed K P) (hK : Sub 0x20081048f K) (s : State) (hP : P s) : P (State.shutDown s) := by
  unfold State.shutDown
  try dsimp only
  repeat' (first | with_reducible assumption | intro _ | with_reducible apply State.becameDark_closed C (hK.sub rfl) | with_reducible apply State.lockAttr_closed C (hK.sub rfl) | with_reducible apply State.preempt_closed C (hK.sub rfl) | with_reducible apply State.ladderIdle_closed C (hK.sub rfl) | with_reducible apply State.laneStop_closed C (hK.sub rfl) | with_reducible apply State.ltxFault_closed C (hK.sub rfl) | with_reducible apply State.trnStop_closed C (hK.sub rfl) | with_reducible apply State.wcapAbort_closed C (hK.sub rfl) | with_reducible apply State.calAbort_closed C (hK.sub rfl) | with_reducible apply State.seqHalt_closed C (hK.sub rfl) | with_reducible apply each_closed C (hK.sub rfl) | with_reducible apply State.setBit_closed C (hK.sub rfl) | with_reducible apply State.put_closed C (hK.sub rfl) | with_reducible apply State.setFld_closed C (hK.sub rfl) | with_reducible apply closed_ite)

theorem State.calUpdate_closed (C : Closed K P) (hK : Sub 0x20001000f K) (s : State) (n : Nat) (temps : List (Nat × Int)) (hP : P s) : P (State.calUpdate s n temps) := by
  unfold State.calUpdate
  try dsimp only
  repeat' (first | with_reducible assumption | with_reducible apply State.triggerOrDefer_closed C (hK.sub rfl) | with_reducible apply State.put_closed C (hK.sub rfl) | with_reducible apply State.setFld_closed C (hK.sub rfl) | with_reducible apply closed_ite | split)

theorem State.maxUpdate_closed (C : Closed K P) (hK : Sub 0x20081848f K) (s : State) (eff : List (Nat × Int)) (i : Nat) (t : Int) (hP : P s) : P (State.maxUpdate s eff i t) := by
  unfold State.maxUpdate
  try dsimp only
  repeat' (first | with_reducible assumption | with_reducible exact fun w => w | exact fun w => w | intro _ | with_reducible apply State.shutDown_closed C (hK.sub rfl) | with_reducible apply State.warn_closed C (hK.sub rfl) | with_reducible apply State.throttle_closed C (hK.sub rfl) | with_reducible apply State.setSensor_closed C (hK.sub rfl) | with_reducible apply each_closed C (hK.sub rfl) | with_reducible apply State.put_closed C (hK.sub rfl) | with_reducible apply State.setFld_closed C (hK.sub rfl) | with_reducible apply closed_ite | with_reducible apply closed_ite_fst | with_reducible apply C.therm (hK.sub rfl))

theorem State.judgeAll_closed (C : Closed K P) (hK : Sub 0x8001 K) (s : State) (rd : List (Int × Nat)) (hP : P s) : P (State.judgeAll s rd) := by
  unfold State.judgeAll
  try dsimp only
  repeat' (first | with_reducible assumption | intro _ | with_reducible apply State.sensorJudge_closed C (hK.sub rfl) | with_reducible apply State.setSensor_closed C (hK.sub rfl) | with_reducible apply each_closed C (hK.sub rfl))

theorem State.showTemp_closed (C : Closed K P) (hK : Sub 0x1 K) (s : State) (rd : List (Int × Nat)) (eff : List (Nat × Int)) (i : Nat) (hP : P s) : P (State.showTemp s rd eff i) := by
  unfold State.showTemp
  try dsimp only
  repeat' (first | with_reducible assumption | intro _ | with_reducible apply State.put_closed C (hK.sub rfl) | with_reducible apply State.setFld_closed C (hK.sub rfl) | with_reducible apply closed_ite | with_reducible apply closed_ite_fst)

theorem State.showSubst_closed (C : Closed K P) (hK : Sub 0x1 K) (s : State) (eff : List (Nat × Int)) (hP : P s) : P (State.showSubst s eff) := by
  unfold State.showSubst
  try dsimp only
  repeat' (first | with_reducible assumption | intro _ | with_reducible apply State.put_closed C (hK.sub rfl) | with_reducible apply State.setFld_closed C (hK.sub rfl) | split)

theorem State.decideMax_closed (C : Closed K P) (hK : Sub 0x20081848f K) (s : State) (eff : List (Nat × Int)) (hP : P s) : P (State.decideMax s eff) := by
  unfold State.decideMax
  try dsimp only
  repeat' (first | with_reducible assumption | intro _ | with_reducible apply State.maxUpdate_closed C (hK.sub rfl) | with_reducible apply State.shutDown_closed C (hK.sub rfl) | with_reducible apply State.setLevel_closed C (hK.sub rfl) | with_reducible apply closed_foldl | with_reducible apply closed_foldl_fst | with_reducible apply closed_ite | split)

theorem State.sensorUpdate_closed (C : Closed K P) (hK : Sub 0x20081848f K) (s : State) (rd : List (Int × Nat)) (hP : P s) : P (State.sensorUpdate s rd) := by
  unfold State.sensorUpdate
  try dsimp only
  repeat' (first | with_reducible assumption | intro _ | with_reducible apply State.decideMax_closed C (hK.sub rfl) | with_reducible apply State.showSubst_closed C (hK.sub rfl) | with_reducible apply State.showTemp_closed C (hK.sub rfl) | with_reducible apply State.judgeAll_closed C (hK.sub rfl) | with_reducible apply State.calUpdate_closed C (hK.sub rfl) | with_reducible apply State.throtTime_closed C (hK.sub rfl) | with_reducible apply each_closed C (hK.sub rfl) | with_reducible apply State.setFld_closed C (hK.sub rfl))

theorem State.brokenWrite_closed (C : Closed K P) (hK : Sub 0x8001 K) (s : State) (m : Master) (v : Word) (hP : P s) : P (State.brokenWrite s m v).1 := by
  unfold State.brokenWrite
  try dsimp only
  repeat' (first | with_reducible assumption | intro _ | with_reducible apply State.setSensor_closed C (hK.sub rfl) | with_reducible apply each_closed C (hK.sub rfl) | with_reducible apply State.clrBit_closed C (hK.sub rfl) | with_reducible apply State.put_closed C (hK.sub rfl) | with_reducible apply State.setFld_closed C (hK.sub rfl) | with_reducible apply closed_ite | with_reducible apply closed_ite_fst)

theorem State.thermAck_closed (C : Closed K P) (hK : Sub 0x1 K) (s : State) (m : Master) (v : Word) (hP : P s) : P (State.thermAck s m v).1 := by
  unfold State.thermAck
  try dsimp only
  repeat' (first | with_reducible assumption | intro _ | with_reducible apply each_closed C (hK.sub rfl) | with_reducible apply State.setBit_closed C (hK.sub rfl) | with_reducible apply State.put_closed C (hK.sub rfl) | with_reducible apply closed_ite | with_reducible apply closed_ite_fst)

theorem State.threshWrite_closed (C : Closed K P) (hK : Sub 0x1 K) (s : State) (m : Master) (v : Word) (hP : P s) : P (State.threshWrite s m v).1 := by
  unfold State.threshWrite
  try dsimp only
  repeat' (first | with_reducible assumption | with_reducible apply State.warn_closed C (hK.sub rfl) | with_reducible apply State.setBit_closed C (hK.sub rfl) | with_reducible apply State.setFld_closed C (hK.sub rfl) | with_reducible apply closed_ite | with_reducible apply closed_ite_fst)

theorem State.peakWrite_closed (C : Closed K P) (hK : Sub 0x1 K) (s : State) (v : Word) (hP : P s) : P (State.peakWrite s v).1 := by
  unfold State.peakWrite
  try dsimp only
  repeat' (first | with_reducible assumption | with_reducible apply State.setFld_closed C (hK.sub rfl) | with_reducible apply closed_ite | with_reducible apply closed_ite_fst)

theorem State.takeSettings_closed (C : Closed K P) (hK : Sub 0x3 K) (s : State) (n : Nat) (hP : P s) : P (State.takeSettings s n) := by
  unfold State.takeSettings
  try dsimp only
  repeat' (first | with_reducible assumption | intro _ | with_reducible apply State.onLane_closed C (hK.sub rfl) | with_reducible apply State.put_closed C (hK.sub rfl) | with_reducible apply closed_ite)

theorem State.takeCorr_closed (C : Closed K P) (hK : Sub 0x2 K) (s : State) (n : Nat) (hP : P s) : P (State.takeCorr s n) := by
  unfold State.takeCorr
  try dsimp only
  repeat' (first | with_reducible assumption | intro _ | with_reducible apply State.onLane_closed C (hK.sub rfl) | with_reducible apply closed_ite)

theorem State.bargeEdge_closed (C : Closed K P) (hK : Sub 0x20001000f K) (s : State) (n : Nat) (hP : P s) : P (State.bargeEdge s n) := by
  unfold State.bargeEdge
  try dsimp only
  repeat' (first | with_reducible assumption | intro _ | with_reducible apply State.takeCorr_closed C (hK.sub rfl) | with_reducible apply State.takeSettings_closed C (hK.sub rfl) | with_reducible apply State.branchEdge_closed C (hK.sub rfl) | with_reducible apply State.cmtCheck_closed C (hK.sub rfl) | with_reducible apply State.cmtResolve_closed C (hK.sub rfl) | with_reducible apply each_closed C (hK.sub rfl) | with_reducible apply closed_ite | split)

theorem State.groupEdge_closed (C : Closed K P) (hK : Sub 0x20001000f K) (s : State) (n : Nat) (hP : P s) : P (State.groupEdge s n) := by
  unfold State.groupEdge
  try dsimp only
  repeat' (first | with_reducible assumption | intro _ | with_reducible apply State.calCommit_closed C (hK.sub rfl) | with_reducible apply State.onLane_closed C (hK.sub rfl) | with_reducible apply State.cmtResolve_closed C (hK.sub rfl) | with_reducible apply State.line_closed C (hK.sub rfl) | with_reducible apply State.put_closed C (hK.sub rfl) | with_reducible apply closed_ite | split)

theorem State.setReg_closed (C : Closed K P) (hK : Sub 0x8 K) (s : State) (k : Core) (r : Nat) (v : Word) (hP : P s) : P (State.setReg s k r v) := by
  unfold State.setReg
  try dsimp only
  repeat' (first | with_reducible assumption | with_reducible apply State.setG_closed C (hK.sub rfl))

theorem State.putCbit_closed (C : Closed K P) (hK : Sub 0x20 K) (s : State) (n i : Nat) (b : Bool) (hP : P s) : P (State.putCbit s n i b) := by
  unfold State.putCbit
  try dsimp only
  repeat' (first | with_reducible assumption | with_reducible apply State.setCreg_closed C (hK.sub rfl))

theorem State.setFlags_closed (C : Closed K P) (hK : Sub 0x24 K) (s : State) (k : Core) (f : Flags) (hP : P s) : P (State.setFlags s k f) := by
  unfold State.setFlags
  try dsimp only
  repeat' (first | with_reducible assumption | with_reducible apply State.setCreg_closed C (hK.sub rfl) | with_reducible apply State.setSeq_closed C (hK.sub rfl) | split)

theorem State.setSupPc_closed (C : Closed K P) (hK : Sub 0x10 K) (s : State) (pc : Word) (hP : P s) : P (State.setSupPc s pc) := by
  unfold State.setSupPc
  try dsimp only
  repeat' (first | with_reducible assumption | with_reducible apply C.sup (hK.sub rfl))

theorem State.setPc_closed (C : Closed K P) (hK : Sub 0x10014 K) (s : State) (k : Core) (pc : Word) (hP : P s) : P (State.setPc s k pc) := by
  unfold State.setPc
  try dsimp only
  repeat' (first | with_reducible assumption | with_reducible apply State.setSupPc_closed C (hK.sub rfl) | with_reducible apply State.tally_closed C (hK.sub rfl) | with_reducible apply State.setSeq_closed C (hK.sub rfl) | split)

theorem State.advance_closed (C : Closed K P) (hK : Sub 0x10014 K) (s : State) (k : Core) (hP : P s) : P (State.advance s k) := by
  unfold State.advance
  try dsimp only
  repeat' (first | with_reducible assumption | with_reducible apply State.setPc_closed C (hK.sub rfl))

theorem State.seqTrap_closed (C : Closed K P) (hK : Sub 0x5 K) (s : State) (n cause detail : Nat) (epc tval : Word) (hP : P s) : P (State.seqTrap s n cause detail epc tval) := by
  unfold State.seqTrap
  try dsimp only
  repeat' (first | with_reducible assumption | with_reducible apply State.endSafe_closed C (hK.sub rfl) | with_reducible apply State.setSeq_closed C (hK.sub rfl) | with_reducible apply State.put_closed C (hK.sub rfl) | with_reducible apply State.setFld_closed C (hK.sub rfl) | with_reducible apply State.wr_closed C (hK.sub rfl))

theorem State.lockUp_closed (C : Closed K P) (hK : Sub 0x20081039f K) (s : State) (cause : Nat) (hP : P s) : P (State.lockUp s cause) := by
  unfold State.lockUp
  try dsimp only
  repeat' (first | with_reducible assumption | with_reducible apply State.devRaise_closed C (hK.sub rfl) | with_reducible apply C.sup (hK.sub rfl))

theorem State.enterTrap_closed (C : Closed K P) (hK : Sub 0x10030 K) (s : State) (secure : Bool) (cause detail : Nat) (epc tval : Word) (hP : P s) : P (State.enterTrap s secure cause detail epc tval) := by
  unfold State.enterTrap
  try dsimp only
  repeat' (first | with_reducible assumption | with_reducible apply State.setSupPc_closed C (hK.sub rfl) | with_reducible apply State.putCbit_closed C (hK.sub rfl) | with_reducible apply State.tally_closed C (hK.sub rfl) | with_reducible apply State.setCreg_closed C (hK.sub rfl) | with_reducible apply closed_ite)

theorem State.supTrap_closed (C : Closed K P) (hK : Sub 0x2008103bf K) (s : State) (cause detail : Nat) (epc tval : Word) (hP : P s) : P (State.supTrap s cause detail epc tval) := by
  unfold State.supTrap
  try dsimp only
  repeat' (first | with_reducible assumption | with_reducible apply State.enterTrap_closed C (hK.sub rfl) | with_reducible apply State.lockUp_closed C (hK.sub rfl) | with_reducible apply closed_ite)

theorem State.trap_closed (C : Closed K P) (hK : Sub 0x2008103bf K) (s : State) (k : Core) (cause detail : Nat) (epc tval : Word) (hP : P s) : P (State.trap s k cause detail epc tval) := by
  unfold State.trap
  try dsimp only
  repeat' (first | with_reducible assumption | with_reducible apply State.supTrap_closed C (hK.sub rfl) | with_reducible apply State.seqTrap_closed C (hK.sub rfl) | split)

theorem State.illegal_closed (C : Closed K P) (hK : Sub 0x2008103bf K) (s : State) (k : Core) (w : Word) (hP : P s) : P (State.illegal s k w) := by
  unfold State.illegal
  try dsimp only
  repeat' (first | with_reducible assumption | with_reducible apply State.trap_closed C (hK.sub rfl))

theorem State.priv_closed (C : Closed K P) (hK : Sub 0x2008103bf K) (s : State) (w : Word) (hP : P s) : P (State.priv s w) := by
  unfold State.priv
  try dsimp only
  repeat' (first | with_reducible assumption | with_reducible apply State.supTrap_closed C (hK.sub rfl))

theorem State.takeInterrupt_closed (C : Closed K P) (hK : Sub 0x10030 K) (s : State) (secure : Bool) (hP : P s) : P (State.takeInterrupt s secure) := by
  unfold State.takeInterrupt
  try dsimp only
  repeat' (first | with_reducible assumption | with_reducible apply State.enterTrap_closed C (hK.sub rfl) | with_reducible apply closed_ite)

theorem State.fetch_closed (C : Closed K P) (hK : Sub 0x80011001 K) (s : State) (k : Core) (hP : P s) : P (State.fetch s k).1 := by
  unfold State.fetch
  try dsimp only
  repeat' (first | with_reducible assumption | with_reducible apply State.memRead_closed C (hK.sub rfl) | with_reducible apply closed_ite | with_reducible apply closed_ite_fst | split)

theorem State.fetchTrap_closed (C : Closed K P) (hK : Sub 0x2808113bf K) (s : State) (k : Core) (hP : P s) : P (State.fetchTrap s k) := by
  unfold State.fetchTrap
  try dsimp only
  repeat' (first | with_reducible assumption | with_reducible apply State.fetch_closed C (hK.sub rfl) | with_reducible apply State.trap_closed C (hK.sub rfl) | with_reducible apply closed_ite | with_reducible apply closed_ite_fst | split)

theorem State.runAlu_closed (C : Closed K P) (hK : Sub 0x1003c K) (s : State) (k : Core) (d : Nat) (r : Res) (hP : P s) : P (State.runAlu s k d r) := by
  unfold State.runAlu
  try dsimp only
  repeat' (first | with_reducible assumption | with_reducible apply State.advance_closed C (hK.sub rfl) | with_reducible apply State.setFlags_closed C (hK.sub rfl) | with_reducible apply State.setReg_closed C (hK.sub rfl) | with_reducible apply closed_ite)

theorem State.runCmp_closed (C : Closed K P) (hK : Sub 0x10034 K) (s : State) (k : Core) (r : Res) (hP : P s) : P (State.runCmp s k r) := by
  unfold State.runCmp
  try dsimp only
  repeat' (first | with_reducible assumption | with_reducible apply State.advance_closed C (hK.sub rfl) | with_reducible apply State.setFlags_closed C (hK.sub rfl) | with_reducible apply closed_ite)

theorem State.runJalr_closed (C : Closed K P) (hK : Sub 0x2008103bf K) (s : State) (k : Core) (d a : Nat) (hP : P s) : P (State.runJalr s k d a) := by
  unfold State.runJalr
  try dsimp only
  repeat' (first | with_reducible assumption | with_reducible apply State.trap_closed C (hK.sub rfl) | with_reducible apply State.setPc_closed C (hK.sub rfl) | with_reducible apply State.setReg_closed C (hK.sub rfl) | with_reducible apply closed_ite)

theorem State.runBranch_closed (C : Closed K P) (hK : Sub 0x2008103bf K) (s : State) (k : Core) (cond : Nat) (off : BitVec 20) (link : Bool) (hP : P s) : P (State.runBranch s k cond off link) := by
  unfold State.runBranch
  try dsimp only
  repeat' (first | with_reducible assumption | with_reducible apply State.illegal_closed C (hK.sub rfl) | with_reducible apply State.advance_closed C (hK.sub rfl) | with_reducible apply State.setPc_closed C (hK.sub rfl) | with_reducible apply State.setReg_closed C (hK.sub rfl) | with_reducible apply closed_ite)

theorem State.runEret_closed (C : Closed K P) (hK : Sub 0x2008103bf K) (s : State) (hP : P s) : P (State.runEret s) := by
  unfold State.runEret
  try dsimp only
  repeat' (first | with_reducible assumption | with_reducible apply State.priv_closed C (hK.sub rfl) | with_reducible apply State.setPc_closed C (hK.sub rfl) | with_reducible apply State.putCbit_closed C (hK.sub rfl) | with_reducible apply State.setCreg_closed C (hK.sub rfl) | with_reducible apply closed_ite)

theorem State.runWfi_closed (C : Closed K P) (hK : Sub 0x2008103bf K) (s : State) (hP : P s) : P (State.runWfi s) := by
  unfold State.runWfi
  try dsimp only
  repeat' (first | with_reducible assumption | with_reducible apply State.priv_closed C (hK.sub rfl) | with_reducible apply State.advance_closed C (hK.sub rfl) | with_reducible apply closed_ite | with_reducible apply C.sup (hK.sub rfl))

theorem State.wakeWfi_closed (C : Closed K P) (hK : Sub 0x10 K) (s : State) (hP : P s) : P (State.wakeWfi s) := by
  unfold State.wakeWfi
  try dsimp only
  repeat' (first | with_reducible assumption | with_reducible apply closed_ite | with_reducible apply C.sup (hK.sub rfl))

theorem State.movcIn_closed (C : Closed K P) (hK : Sub 0x20000008 K) (s : State) (d c : Nat) (hP : P s) : P (State.movcIn s d c) := by
  unfold State.movcIn
  try dsimp only
  repeat' (first | with_reducible assumption | with_reducible apply State.setReg_closed C (hK.sub rfl) | with_reducible apply State.tbLow_closed C (hK.sub rfl) | with_reducible apply closed_ite | with_reducible apply closed_ite_fst)

theorem State.cregWriteAt_closed (C : Closed K P) (hK : Sub 0x20 K) (s : State) (lvl c : Nat) (v : Word) (hP : P s) : P (State.cregWriteAt s lvl c v) := by
  unfold State.cregWriteAt
  try dsimp only
  repeat' (first | with_reducible assumption | with_reducible apply State.setCreg_closed C (hK.sub rfl) | with_reducible apply closed_ite)

theorem State.cregWrite_closed (C : Closed K P) (hK : Sub 0x20 K) (s : State) (c : Nat) (v : Word) (hP : P s) : P (State.cregWrite s c v) := by
  unfold State.cregWrite
  try dsimp only
  repeat' (first | with_reducible assumption | with_reducible apply State.cregWriteAt_closed C (hK.sub rfl))

theorem State.runMovc_closed (C : Closed K P) (hK : Sub 0x2008103bf K) (s : State) (c : Nat) (w : Word) (f : State → State) (hP : P s) (hPf : ∀ s, P s → P (f s)) : P (State.runMovc s c w f) := by
  unfold State.runMovc
  try dsimp only
  repeat' (first | with_reducible assumption | with_reducible apply State.priv_closed C (hK.sub rfl) | with_reducible apply State.illegal_closed C (hK.sub rfl) | with_reducible apply State.advance_closed C (hK.sub rfl) | with_reducible apply hPf | with_reducible apply closed_ite | split)

theorem State.runExt_closed (C : Closed K P) (hK : Sub 0x2008103bf K) (s : State) (n : Fin 48) (legal : Bool) (w : Word) (f : State → State) (hP : P s) (hPf : ∀ s, P s → P (f s)) : P (State.runExt s n legal w f) := by
  unfold State.runExt
  try dsimp only
  repeat' (first | with_reducible assumption | with_reducible apply State.illegal_closed C (hK.sub rfl) | with_reducible apply State.advance_closed C (hK.sub rfl) | with_reducible apply hPf | with_reducible apply closed_ite)

theorem State.statFlags_closed (C : Closed K P) (hK : Sub 0x24 K) (s : State) (n : Fin 48) (v : Word) (past : Bool) (hP : P s) : P (State.statFlags s n v past) := by
  unfold State.statFlags
  try dsimp only
  repeat' (first | with_reducible assumption | with_reducible apply State.setFlags_closed C (hK.sub rfl))

theorem State.bankUpdate_closed (C : Closed K P) (hK : Sub 0x25 K) (s : State) (n : Fin 48) (signed : Bool) (w lo wd : Nat) (delta : Int) (hP : P s) : P (State.bankUpdate s n signed w lo wd delta) := by
  unfold State.bankUpdate
  try dsimp only
  repeat' (first | with_reducible assumption | with_reducible apply State.setFlags_closed C (hK.sub rfl) | with_reducible apply State.setShadow_closed C (hK.sub rfl))

theorem State.runUpdate_closed (C : Closed K P) (hK : Sub 0x2008103bf K) (s : State) (n : Fin 48) (signed : Bool) (d a : Nat) (imm : BitVec 12) (hP : P s) : P (State.runUpdate s n signed d a imm) := by
  unfold State.runUpdate
  try dsimp only
  repeat' (first | with_reducible assumption | intro _ | with_reducible apply State.bankUpdate_closed C (hK.sub rfl) | with_reducible apply State.runExt_closed C (hK.sub rfl) | with_reducible apply closed_ite)

theorem State.runCmt_closed (C : Closed K P) (hK : Sub 0x20001000d K) (s : State) (n : Fin 48) (d : Nat) (grp : Bool) (hP : P s) : P (State.runCmt s n d grp) := by
  unfold State.runCmt
  try dsimp only
  repeat' (first | with_reducible assumption | with_reducible apply State.cmtCheck_closed C (hK.sub rfl) | with_reducible apply State.setSeq_closed C (hK.sub rfl) | with_reducible apply closed_ite)

theorem State.runCstart_closed (C : Closed K P) (hK : Sub 0x2008103bf K) (s : State) (n : Fin 48) (i : Nat) (hP : P s) : P (State.runCstart s n i) := by
  unfold State.runCstart
  try dsimp only
  repeat' (first | with_reducible assumption | intro _ | with_reducible apply State.runExt_closed C (hK.sub rfl) | with_reducible apply State.corrWrite_closed C (hK.sub rfl))

theorem State.runCsgn_closed (C : Closed K P) (hK : Sub 0x2008103bf K) (s : State) (n : Fin 48) (d a i : Nat) (hP : P s) : P (State.runCsgn s n d a i) := by
  unfold State.runCsgn
  try dsimp only
  repeat' (first | with_reducible assumption | intro _ | with_reducible apply State.statFlags_closed C (hK.sub rfl) | with_reducible apply State.runExt_closed C (hK.sub rfl) | with_reducible apply State.setReg_closed C (hK.sub rfl) | with_reducible apply closed_ite)

theorem State.runHsum_closed (C : Closed K P) (hK : Sub 0x2008103bf K) (s : State) (n : Fin 48) (d a i : Nat) (hP : P s) : P (State.runHsum s n d a i) := by
  unfold State.runHsum
  try dsimp only
  repeat' (first | with_reducible assumption | intro _ | with_reducible apply State.statFlags_closed C (hK.sub rfl) | with_reducible apply State.runExt_closed C (hK.sub rfl) | with_reducible apply State.setReg_closed C (hK.sub rfl) | with_reducible apply closed_foldl | with_reducible apply closed_foldl_fst | with_reducible apply closed_ite)

theorem State.wfeEnd_closed (C : Closed K P) (hK : Sub 0x1003d K) (s : State) (n : Fin 48) (d : Nat) (mask : Word) (hP : P s) : P (State.wfeEnd s n d mask) := by
  unfold State.wfeEnd
  try dsimp only
  repeat' (first | with_reducible assumption | with_reducible apply State.advance_closed C (hK.sub rfl) | with_reducible apply State.setFlags_closed C (hK.sub rfl) | with_reducible apply State.setReg_closed C (hK.sub rfl) | with_reducible apply State.wr_closed C (hK.sub rfl))

theorem State.runWfe_closed (C : Closed K P) (hK : Sub 0x1003d K) (s : State) (n : Fin 48) (d a lim : Nat) (hP : P s) : P (State.runWfe s n d a lim) := by
  unfold State.runWfe
  try dsimp only
  repeat' (first | with_reducible assumption | with_reducible apply State.wfeEnd_closed C (hK.sub rfl) | with_reducible apply State.setSeq_closed C (hK.sub rfl) | with_reducible apply State.setFld_closed C (hK.sub rfl) | with_reducible apply closed_ite)

theorem State.wfeExpire_closed (C : Closed K P) (hK : Sub 0x1003d K) (s : State) (n : Fin 48) (hP : P s) : P (State.wfeExpire s n) := by
  unfold State.wfeExpire
  try dsimp only
  repeat' (first | with_reducible assumption | with_reducible apply State.wfeEnd_closed C (hK.sub rfl) | with_reducible apply State.setSeq_closed C (hK.sub rfl) | with_reducible apply State.setFld_closed C (hK.sub rfl) | with_reducible apply closed_ite | split)

theorem State.zFlag_closed (C : Closed K P) (hK : Sub 0x24 K) (s : State) (n : Fin 48) (z : Bool) (hP : P s) : P (State.zFlag s n z) := by
  unfold State.zFlag
  try dsimp only
  repeat' (first | with_reducible assumption | with_reducible apply State.setFlags_closed C (hK.sub rfl))

theorem State.runMpost_closed (C : Closed K P) (hK : Sub 0x2008103ff K) (s : State) (n : Fin 48) (d a i : Nat) (hP : P s) : P (State.runMpost s n d a i) := by
  unfold State.runMpost
  try dsimp only
  repeat' (first | with_reducible assumption | intro _ | with_reducible apply State.zFlag_closed C (hK.sub rfl) | with_reducible apply State.runExt_closed C (hK.sub rfl) | with_reducible apply State.onLane_closed C (hK.sub rfl) | with_reducible apply State.post_closed C (hK.sub rfl) | with_reducible apply State.tally_closed C (hK.sub rfl) | with_reducible apply closed_ite | with_reducible apply closed_ite_fst)

theorem State.runMtake_closed (C : Closed K P) (hK : Sub 0x2008103ff K) (s : State) (n : Fin 48) (d a : Nat) (hP : P s) : P (State.runMtake s n d a) := by
  unfold State.runMtake
  try dsimp only
  repeat' (first | with_reducible assumption | intro _ | with_reducible apply State.zFlag_closed C (hK.sub rfl) | with_reducible apply State.runExt_closed C (hK.sub rfl) | with_reducible apply State.setReg_closed C (hK.sub rfl) | with_reducible apply State.take_closed C (hK.sub rfl) | split)

theorem State.plainWrite_closed (C : Closed K P) (hK : Sub 0x1 K) (s : State) (a : Nat) (v : Word) (hP : P s) : P (State.plainWrite s a v) := by
  unfold State.plainWrite
  try dsimp only
  repeat' (first | with_reducible assumption | with_reducible apply State.wr_closed C (hK.sub rfl) | with_reducible apply closed_foldl | with_reducible apply closed_foldl_fst | split)

theorem State.plainRead_closed (C : Closed K P) (hK : Sub 0x1 K) (s : State) (a : Nat) (hP : P s) : P (State.plainRead s a).1 := by
  unfold State.plainRead
  try dsimp only
  repeat' (first | with_reducible assumption | with_reducible apply State.wr_closed C (hK.sub rfl) | with_reducible apply closed_foldl | with_reducible apply closed_foldl_fst | split)

theorem State.only_closed (_ : Closed K P) (_ : Sub 0x0 K) (s : State) (m : Master) (codes : List Nat) (f : State → State × Resp) (hP : P s) (hPf : ∀ s, P s → P (f s).1) :
    P (State.only s m codes f).1 := by
  unfold State.only
  split
  · exact hPf _ hP
  · exact hP

theorem State.seqRefuse_closed (C : Closed K P) (hK : Sub 0x1 K) (s : State) (n reason : Nat) (hP : P s) : P (State.seqRefuse s n reason) := by
  unfold State.seqRefuse
  try dsimp only
  repeat' (first | with_reducible assumption | with_reducible apply State.put_closed C (hK.sub rfl) | with_reducible apply State.setFld_closed C (hK.sub rfl))

theorem State.seqCommand_closed (C : Closed K P) (hK : Sub 0x20001004d K) (s : State) (n bit : Nat) (hP : P s) : P (State.seqCommand s n bit).1 := by
  unfold State.seqCommand
  try dsimp only
  repeat' (first | with_reducible assumption | with_reducible apply State.seqRefuse_closed C (hK.sub rfl) | with_reducible apply State.seqLaunch_closed C (hK.sub rfl) | with_reducible apply State.seqHalt_closed C (hK.sub rfl) | with_reducible apply State.line_closed C (hK.sub rfl) | with_reducible apply State.setSeq_closed C (hK.sub rfl) | with_reducible apply State.put_closed C (hK.sub rfl) | with_reducible apply State.setFld_closed C (hK.sub rfl) | with_reducible apply closed_ite | with_reducible apply closed_ite_fst)

theorem State.seqCtl_closed (C : Closed K P) (hK : Sub 0x20001004d K) (s : State) (m : Master) (n : Nat) (v : Word) (hP : P s) : P (State.seqCtl s m n v).1 := by
  unfold State.seqCtl
  try dsimp only
  repeat' (first | with_reducible assumption | intro _ | with_reducible apply State.seqCommand_closed C (hK.sub rfl) | with_reducible apply State.seqRefuse_closed C (hK.sub rfl) | with_reducible apply closed_foldl | with_reducible apply closed_foldl_fst | with_reducible apply closed_ite | with_reducible apply closed_ite_fst)

theorem State.safeExpire_closed (C : Closed K P) (hK : Sub 0x20001000d K) (s : State) (n : Nat) (hP : P s) : P (State.safeExpire s n) := by
  unfold State.safeExpire
  try dsimp only
  repeat' (first | with_reducible assumption | with_reducible apply State.seqHalt_closed C (hK.sub rfl) | with_reducible apply State.put_closed C (hK.sub rfl) | with_reducible apply closed_ite)

theorem State.evtSet_closed (C : Closed K P) (hK : Sub 0x1 K) (s : State) (m : Master) (n : Nat) (v : Word) (hP : P s) : P (State.evtSet s m n v).1 := by
  unfold State.evtSet
  try dsimp only
  repeat' (first | with_reducible assumption | intro _ | with_reducible apply State.only_closed C (hK.sub rfl) | with_reducible apply State.line_closed C (hK.sub rfl) | with_reducible apply each_closed C (hK.sub rfl))

theorem State.seqWrite_closed (C : Closed K P) (hK : Sub 0x20001004d K) (s : State) (m : Master) (n off : Nat) (v : Word) (hP : P s) : P (State.seqWrite s m n off v).1 := by
  unfold State.seqWrite
  try dsimp only
  repeat' (first | with_reducible assumption | intro _ | with_reducible apply State.evtSet_closed C (hK.sub rfl) | with_reducible apply State.seqCtl_closed C (hK.sub rfl) | with_reducible apply State.only_closed C (hK.sub rfl) | with_reducible apply State.plainWrite_closed C (hK.sub rfl) | with_reducible apply closed_ite | with_reducible apply closed_ite_fst)

theorem State.imemTouched_closed (C : Closed K P) (hK : Sub 0x1 K) (s : State) (n : Nat) (hP : P s) : P (State.imemTouched s n) := by
  unfold State.imemTouched
  try dsimp only
  repeat' (first | with_reducible assumption | with_reducible apply State.put_closed C (hK.sub rfl))

theorem State.windowWrite_closed (C : Closed K P) (hK : Sub 0x80011001 K) (s : State) (m : Master) (r : Reader) (n off : Nat) (bs : List (Option (BitVec 8))) (hP : P s) : P (State.windowWrite s m r n off bs).1 := by
  unfold State.windowWrite
  try dsimp only
  repeat' (first | with_reducible assumption | with_reducible apply State.imemTouched_closed C (hK.sub rfl) | with_reducible apply State.memWrite_closed C (hK.sub rfl) | with_reducible apply closed_ite | with_reducible apply closed_ite_fst | split)

theorem State.windowRead_closed (C : Closed K P) (hK : Sub 0x80011001 K) (s : State) (m : Master) (r : Reader) (n off len : Nat) (hP : P s) : P (State.windowRead s m r n off len).1 := by
  unfold State.windowRead
  try dsimp only
  repeat' (first | with_reducible assumption | with_reducible apply State.memRead_closed C (hK.sub rfl) | with_reducible apply closed_ite | with_reducible apply closed_ite_fst)

theorem State.broadcast_closed (C : Closed K P) (hK : Sub 0x80011001 K) (s : State) (m : Master) (r : Reader) (t off : Nat) (bs : List (Option (BitVec 8))) (hP : P s) : P (State.broadcast s m r t off bs).1 := by
  unfold State.broadcast
  try dsimp only
  repeat' (first | with_reducible assumption | with_reducible exact fun w => w | intro _ | with_reducible apply State.imemTouched_closed C (hK.sub rfl) | with_reducible apply State.memWrite_closed C (hK.sub rfl) | with_reducible apply closed_foldl | with_reducible apply closed_foldl_fst | with_reducible apply closed_ite | with_reducible apply closed_ite_fst | split | with_reducible apply C.lanes (hK.sub rfl))

theorem State.accLog_closed (C : Closed K P) (hK : Sub 0x1 K) (s : State) (m : Master) (sem : Bool) (i : Nat) (hP : P s) : P (State.accLog s m sem i) := by
  unfold State.accLog
  try dsimp only
  repeat' (first | with_reducible assumption | with_reducible apply State.bump_closed C (hK.sub rfl) | with_reducible apply State.put_closed C (hK.sub rfl) | with_reducible apply State.setFld_closed C (hK.sub rfl))

theorem State.stage_closed (C : Closed K P) (hK : Sub 0x41 K) (s : State) (m : Master) (c : Nat) (v : Word) (hP : P s) : P (State.stage s m c v).1 := by
  unfold State.stage
  try dsimp only
  repeat' (first | with_reducible assumption | with_reducible apply State.accLog_closed C (hK.sub rfl) | with_reducible apply State.setChan_closed C (hK.sub rfl) | with_reducible apply closed_ite | with_reducible apply closed_ite_fst)

theorem State.postHi_closed (C : Closed K P) (hK : Sub 0x10041 K) (s : State) (m : Master) (c : Nat) (v : Word) (hP : P s) : P (State.postHi s m c v).1 := by
  unfold State.postHi
  try dsimp only
  repeat' (first | with_reducible assumption | with_reducible apply State.accLog_closed C (hK.sub rfl) | with_reducible apply State.post_closed C (hK.sub rfl) | with_reducible apply State.tally_closed C (hK.sub rfl) | with_reducible apply closed_ite | with_reducible apply closed_ite_fst)

theorem State.takeLo_closed (C : Closed K P) (hK : Sub 0x41 K) (s : State) (m : Master) (c : Nat) (hP : P s) : P (State.takeLo s m c).1 := by
  unfold State.takeLo
  try dsimp only
  repeat' (first | with_reducible assumption | with_reducible exact fun w => w | with_reducible apply State.accLog_closed C (hK.sub rfl) | with_reducible apply State.take_closed C (hK.sub rfl) | with_reducible apply State.setChan_closed C (hK.sub rfl) | with_reducible apply closed_ite | with_reducible apply closed_ite_fst | split | with_reducible apply C.latch (hK.sub rfl))

theorem State.readHi_closed (C : Closed K P) (hK : Sub 0x1 K) (s : State) (m : Master) (c : Nat) (hP : P s) : P (State.readHi s m c).1 := by
  unfold State.readHi
  try dsimp only
  repeat' (first | with_reducible assumption | with_reducible apply State.accLog_closed C (hK.sub rfl) | with_reducible apply closed_ite | with_reducible apply closed_ite_fst)

theorem State.readChStat_closed (C : Closed K P) (hK : Sub 0x1 K) (s : State) (m : Master) (c : Nat) (hP : P s) : P (State.readChStat s m c).1 := by
  unfold State.readChStat
  try dsimp only
  repeat' (first | with_reducible assumption | with_reducible apply State.accLog_closed C (hK.sub rfl) | with_reducible apply closed_ite | with_reducible apply closed_ite_fst)

theorem State.clearEvents_closed (C : Closed K P) (hK : Sub 0x1 K) (s : State) (m : Master) (a w : Nat) (v : Word) (hP : P s) : P (State.clearEvents s m a w v).1 := by
  unfold State.clearEvents
  try dsimp only
  repeat' (first | with_reducible assumption | intro _ | with_reducible apply State.plainWrite_closed C (hK.sub rfl) | with_reducible apply closed_foldl | with_reducible apply closed_foldl_fst | with_reducible apply closed_ite | with_reducible apply closed_ite_fst)

theorem State.resetDecl_closed (C : Closed K P) (hK : Sub 0x41 K) (s : State) (m : Master) (v : Word) (hP : P s) : P (State.resetDecl s m v).1 := by
  unfold State.resetDecl
  try dsimp only
  repeat' (first | with_reducible assumption | with_reducible apply State.partyReset_closed C (hK.sub rfl) | with_reducible apply closed_ite | with_reducible apply closed_ite_fst)

theorem State.semRead_closed (C : Closed K P) (hK : Sub 0x1 K) (s : State) (m : Master) (i : Nat) (hP : P s) : P (State.semRead s m i).1 := by
  unfold State.semRead
  try dsimp only
  repeat' (first | with_reducible assumption | with_reducible apply State.accLog_closed C (hK.sub rfl) | with_reducible apply State.wr_closed C (hK.sub rfl) | with_reducible apply closed_ite | with_reducible apply closed_ite_fst)

theorem State.semWrite_closed (C : Closed K P) (hK : Sub 0x1 K) (s : State) (m : Master) (i : Nat) (v : Word) (hP : P s) : P (State.semWrite s m i v).1 := by
  unfold State.semWrite
  try dsimp only
  repeat' (first | with_reducible assumption | with_reducible apply State.accLog_closed C (hK.sub rfl) | with_reducible apply State.wr_closed C (hK.sub rfl) | with_reducible apply closed_ite | with_reducible apply closed_ite_fst)

theorem State.mboxWrite_closed (C : Closed K P) (hK : Sub 0x10041 K) (s : State) (m : Master) (off : Nat) (v : Word) (hP : P s) : P (State.mboxWrite s m off v).1 := by
  unfold State.mboxWrite
  try dsimp only
  repeat' (first | with_reducible assumption | with_reducible apply State.semWrite_closed C (hK.sub rfl) | with_reducible apply State.resetDecl_closed C (hK.sub rfl) | with_reducible apply State.clearEvents_closed C (hK.sub rfl) | with_reducible apply State.postHi_closed C (hK.sub rfl) | with_reducible apply State.stage_closed C (hK.sub rfl) | with_reducible apply State.accLog_closed C (hK.sub rfl) | with_reducible apply closed_ite | with_reducible apply closed_ite_fst)

theorem State.mboxRead_closed (C : Closed K P) (hK : Sub 0x41 K) (s : State) (m : Master) (off : Nat) (hP : P s) : P (State.mboxRead s m off).1 := by
  unfold State.mboxRead
  try dsimp only
  repeat' (first | with_reducible assumption | with_reducible apply State.semRead_closed C (hK.sub rfl) | with_reducible apply State.readChStat_closed C (hK.sub rfl) | with_reducible apply State.readHi_closed C (hK.sub rfl) | with_reducible apply State.takeLo_closed C (hK.sub rfl) | with_reducible apply State.plainRead_closed C (hK.sub rfl) | with_reducible apply closed_ite | with_reducible apply closed_ite_fst)

theorem State.hostEoi_closed (C : Closed K P) (hK : Sub 0x1 K) (s : State) (v : Nat) (hP : P s) : P (State.hostEoi s v) := by
  unfold State.hostEoi
  try dsimp only
  repeat' (first | with_reducible assumption | with_reducible apply State.putPairBit_closed C (hK.sub rfl))

theorem State.irqWrite_closed (C : Closed K P) (hK : Sub 0x1 K) (s : State) (m : Master) (off : Nat) (v : Word) (hP : P s) : P (State.irqWrite s m off v).1 := by
  unfold State.irqWrite
  try dsimp only
  repeat' (first | with_reducible assumption | intro _ | with_reducible apply State.hostEoi_closed C (hK.sub rfl) | with_reducible apply State.only_closed C (hK.sub rfl) | with_reducible apply State.plainWrite_closed C (hK.sub rfl) | with_reducible apply State.wr_closed C (hK.sub rfl) | with_reducible apply closed_ite | with_reducible apply closed_ite_fst)

theorem State.irqRead_closed (C : Closed K P) (hK : Sub 0x1 K) (s : State) (off : Nat) (hP : P s) : P (State.irqRead s off).1 := by
  unfold State.irqRead
  try dsimp only
  repeat' (first | with_reducible assumption | with_reducible apply State.plainRead_closed C (hK.sub rfl) | with_reducible apply closed_ite | with_reducible apply closed_ite_fst)

theorem State.perfRefuse_closed (C : Closed K P) (hK : Sub 0x1 K) (s : State) (m : Master) (i : Nat) (hP : P s) : P (State.perfRefuse s m i).1 := by
  unfold State.perfRefuse
  try dsimp only
  repeat' (first | with_reducible assumption | with_reducible apply State.bump_closed C (hK.sub rfl) | with_reducible apply State.put_closed C (hK.sub rfl) | with_reducible apply State.setFld_closed C (hK.sub rfl))

theorem State.perfGlobal_closed (C : Closed K P) (hK : Sub 0x1 K) (s : State) (m : Master) (f : State → State) (hP : P s) (hPf : ∀ s, P s → P (f s)) : P (State.perfGlobal s m f).1 := by
  unfold State.perfGlobal
  try dsimp only
  repeat' (first | with_reducible assumption | with_reducible apply State.perfRefuse_closed C (hK.sub rfl) | with_reducible apply hPf | with_reducible apply closed_ite | with_reducible apply closed_ite_fst)

theorem State.perfConfig_closed (C : Closed K P) (hK : Sub 0x1 K) (s : State) (m : Master) (i off : Nat) (v : Word) (hP : P s) : P (State.perfConfig s m i off v).1 := by
  unfold State.perfConfig
  try dsimp only
  repeat' (first | with_reducible assumption | with_reducible apply State.perfRefuse_closed C (hK.sub rfl) | with_reducible apply State.plainWrite_closed C (hK.sub rfl) | with_reducible apply closed_ite | with_reducible apply closed_ite_fst)

theorem State.counterStage_closed (C : Closed K P) (hK : Sub 0x10001 K) (s : State) (m : Master) (i : Nat) (v : Word) (hP : P s) : P (State.counterStage s m i v).1 := by
  unfold State.counterStage
  try dsimp only
  repeat' (first | with_reducible assumption | with_reducible exact fun w => w | with_reducible exact fun w => tabWf_put _ _ _ w | exact fun w => w | (intro w; simp only [Perf.wf, Bool.and_eq_true] at w ⊢; simp only [w, tabWf_put, and_self]) | intro _ | with_reducible apply State.perfRefuse_closed C (hK.sub rfl) | with_reducible apply closed_ite | with_reducible apply closed_ite_fst | with_reducible apply C.perf (hK.sub rfl))

theorem State.counterLoad_closed (C : Closed K P) (hK : Sub 0x1 K) (s : State) (m : Master) (i : Nat) (hi : Word) (hP : P s) : P (State.counterLoad s m i hi).1 := by
  unfold State.counterLoad
  try dsimp only
  repeat' (first | with_reducible assumption | intro _ | with_reducible apply State.perfRefuse_closed C (hK.sub rfl) | with_reducible apply State.setCounter_closed C (hK.sub rfl) | with_reducible apply closed_ite | with_reducible apply closed_ite_fst)

theorem State.counterLow_closed (C : Closed K P) (hK : Sub 0x20000000 K) (s : State) (i k : Nat) (hP : P s) : P (State.counterLow s i k).1 := by
  unfold State.counterLow
  try dsimp only
  repeat' (first | with_reducible assumption | with_reducible exact fun w => w | with_reducible exact fun w => tabWf_put _ _ _ w | intro _ | with_reducible apply C.latch (hK.sub rfl))

theorem State.snapshot_closed (C : Closed K P) (hK : Sub 0x1 K) (s : State) (hP : P s) : P (State.snapshot s) := by
  unfold State.snapshot
  try dsimp only
  repeat' (first | with_reducible assumption | intro _ | with_reducible apply each_closed C (hK.sub rfl) | with_reducible apply State.incr_closed C (hK.sub rfl) | with_reducible apply State.setFld_closed C (hK.sub rfl) | with_reducible apply State.wr_closed C (hK.sub rfl))

theorem State.countTick_closed (C : Closed K P) (hK : Sub 0x10001 K) (s : State) (hP : P s) : P (State.countTick s) := by
  unfold State.countTick
  try dsimp only
  repeat' (first | with_reducible assumption | with_reducible exact fun w => w | exact fun w => w | (intro w; simp only [Perf.wf, Bool.and_eq_true] at w ⊢; simp only [w, tabWf_nil, and_self]) | intro _ | with_reducible apply State.snapshot_closed C (hK.sub rfl) | with_reducible apply State.addCount_closed C (hK.sub rfl) | with_reducible apply closed_foldl | with_reducible apply closed_foldl_fst | with_reducible apply closed_ite | with_reducible apply closed_ite_fst | with_reducible apply C.perf (hK.sub rfl))

theorem State.perfCtl_closed (C : Closed K P) (hK : Sub 0x10001 K) (s : State) (m : Master) (v : Word) (hP : P s) : P (State.perfCtl s m v).1 := by
  unfold State.perfCtl
  try dsimp only
  repeat' (first | with_reducible assumption | with_reducible exact fun w => w | exact fun w => w | intro _ | with_reducible apply State.perfGlobal_closed C (hK.sub rfl) | with_reducible apply each_closed C (hK.sub rfl) | with_reducible apply State.setCounter_closed C (hK.sub rfl) | with_reducible apply State.put_closed C (hK.sub rfl) | with_reducible apply closed_ite | with_reducible apply closed_ite_fst | with_reducible apply C.perf (hK.sub rfl))

theorem State.perfAct_closed (C : Closed K P) (hK : Sub 0x10001 K) (s : State) (m : Master) (bits : Nat) (hP : P s) : P (State.perfAct s m bits).1 := by
  unfold State.perfAct
  try dsimp only
  repeat' (first | with_reducible assumption | with_reducible apply State.perfCtl_closed C (hK.sub rfl))

theorem State.bwCtl_closed (C : Closed K P) (hK : Sub 0x10001 K) (s : State) (m : Master) (v : Word) (hP : P s) : P (State.bwCtl s m v).1 := by
  unfold State.bwCtl
  try dsimp only
  repeat' (first | with_reducible assumption | with_reducible exact fun w => w | exact fun w => w | (intro w; simp only [Perf.wf, Bool.and_eq_true] at w ⊢; simp only [w, tabWf_nil, and_self]) | intro _ | with_reducible apply State.perfGlobal_closed C (hK.sub rfl) | with_reducible apply State.plainWrite_closed C (hK.sub rfl) | with_reducible apply closed_ite | with_reducible apply closed_ite_fst | with_reducible apply C.perf (hK.sub rfl))

theorem State.bwNext_closed (C : Closed K P) (hK : Sub 0x10000 K) (s : State) (hP : P s) : P (State.bwNext s) := by
  unfold State.bwNext
  try dsimp only
  repeat' (first | with_reducible assumption | with_reducible exact fun w => w | exact fun w => w | with_reducible apply closed_ite | with_reducible apply C.perf (hK.sub rfl))

theorem State.bwEnd_closed (C : Closed K P) (hK : Sub 0x10001 K) (s : State) (hP : P s) : P (State.bwEnd s) := by
  unfold State.bwEnd
  try dsimp only
  repeat' (first | with_reducible assumption | with_reducible exact fun w => w | with_reducible exact fun w => tabWf_put _ _ _ w | exact fun w => w | (intro w; simp only [Perf.wf, Bool.and_eq_true] at w ⊢; simp only [w, tabWf_put, tabWf_nil, and_self]) | intro _ | with_reducible apply State.bwNext_closed C (hK.sub rfl) | with_reducible apply each_closed C (hK.sub rfl) | with_reducible apply State.incr_closed C (hK.sub rfl) | with_reducible apply State.put_closed C (hK.sub rfl) | with_reducible apply State.wr_closed C (hK.sub rfl) | with_reducible apply closed_ite | with_reducible apply C.perf (hK.sub rfl))

theorem State.counterWrap_closed (C : Closed K P) (hK : Sub 0x10001 K) (s : State) (i : Nat) (hP : P s) : P (State.counterWrap s i) := by
  unfold State.counterWrap
  try dsimp only
  repeat' (first | with_reducible assumption | with_reducible apply State.setPart_closed C (hK.sub rfl) | with_reducible apply State.addCount_closed C (hK.sub rfl) | with_reducible apply closed_ite)

theorem State.perfWrite_closed (C : Closed K P) (hK : Sub 0x10001 K) (s : State) (m : Master) (off : Nat) (v : Word) (hP : P s) : P (State.perfWrite s m off v).1 := by
  unfold State.perfWrite
  try dsimp only
  repeat' (first | with_reducible assumption | intro _ | with_reducible apply State.bwCtl_closed C (hK.sub rfl) | with_reducible apply State.perfCtl_closed C (hK.sub rfl) | with_reducible apply State.counterLoad_closed C (hK.sub rfl) | with_reducible apply State.counterStage_closed C (hK.sub rfl) | with_reducible apply State.perfConfig_closed C (hK.sub rfl) | with_reducible apply State.perfGlobal_closed C (hK.sub rfl) | with_reducible apply State.plainWrite_closed C (hK.sub rfl) | with_reducible apply closed_ite | with_reducible apply closed_ite_fst)

theorem State.perfRead_closed (C : Closed K P) (hK : Sub 0x20000001 K) (s : State) (m : Master) (off : Nat) (hP : P s) : P (State.perfRead s m off).1 := by
  unfold State.perfRead
  try dsimp only
  repeat' (first | with_reducible assumption | with_reducible apply State.counterLow_closed C (hK.sub rfl) | with_reducible apply State.plainRead_closed C (hK.sub rfl) | with_reducible apply closed_ite | with_reducible apply closed_ite_fst)

theorem State.userPage_closed (C : Closed K P) (hK : Sub 0x20000000 K) (s : State) (off : Nat) (hP : P s) : P (State.userPage s off).1 := by
  unfold State.userPage
  try dsimp only
  repeat' (first | with_reducible assumption | with_reducible apply State.counterLow_closed C (hK.sub rfl) | with_reducible apply closed_ite | with_reducible apply closed_ite_fst)

end Sys2Proof.Machine
end

