-- ==== Sys2Proof/Laws/KeepsD.lean ====
section
/-! SUPPORT. Sys2Proof/Laws/KeepsD.lean: what each operation keeps: a predicate closed under the updates of
Sys2Proof/Laws/Closed.lean that the operation makes holds after it. Here: lifecycle, flash, DMA, the towpath, power, the bus and its ports, loads and stores, and the tick. -/

namespace Sys2Proof.Machine

variable {P : State → Prop} {K : Nat}

theorem State.burn_closed (C : Closed K P) (hK : Sub 0x80000000 K) (s : State) (off : Nat) (bs : List (BitVec 8)) (hP : P s) : P (State.burn s off bs) := by
  unfold State.burn
  try dsimp only
  repeat' (first | with_reducible assumption | intro _ | with_reducible apply State.setByte_closed C (hK.sub rfl) | with_reducible apply closed_foldl | with_reducible apply closed_foldl_fst)

theorem State.burnPart_closed (C : Closed K P) (hK : Sub 0x180000000 K) (s : State) (off : Nat) (bs : List (BitVec 8)) (hP : P s) : P (State.burnPart s off bs) := by
  unfold State.burnPart
  try dsimp only
  repeat' (first | with_reducible assumption | intro _ | with_reducible apply State.setByte_closed C (hK.sub rfl) | with_reducible apply State.use_closed C (hK.sub rfl) | with_reducible apply closed_foldl | with_reducible apply closed_foldl_fst)

theorem State.newNonce_closed (C : Closed K P) (hK : Sub 0x100000001 K) (s : State) (hP : P s) : P (State.newNonce s) := by
  unfold State.newNonce
  try dsimp only
  repeat' (first | with_reducible assumption | intro _ | with_reducible apply State.use_closed C (hK.sub rfl) | with_reducible apply State.wr_closed C (hK.sub rfl) | with_reducible apply closed_foldl | with_reducible apply closed_foldl_fst)

theorem State.lifeShow_closed (C : Closed K P) (hK : Sub 0x1 K) (s : State) (hP : P s) : P (State.lifeShow s) := by
  unfold State.lifeShow
  try dsimp only
  repeat' (first | with_reducible assumption | with_reducible apply State.put_closed C (hK.sub rfl) | with_reducible apply State.setFld_closed C (hK.sub rfl))

theorem State.otpLoad_closed (C : Closed K P) (hK : Sub 0x180000001 K) (s : State) (hP : P s) : P (State.otpLoad s) := by
  unfold State.otpLoad
  try dsimp only
  repeat' (first | with_reducible assumption | intro _ | with_reducible apply State.lifeShow_closed C (hK.sub rfl) | with_reducible apply State.newNonce_closed C (hK.sub rfl) | with_reducible apply State.burn_closed C (hK.sub rfl) | with_reducible apply State.setFld_closed C (hK.sub rfl) | with_reducible apply State.wr_closed C (hK.sub rfl) | with_reducible apply closed_foldl | with_reducible apply closed_foldl_fst | with_reducible apply closed_ite)

theorem State.lifeCmd_closed (C : Closed K P) (hK : Sub 0x20001 K) (s : State) (m : Master) (v : Word) (hP : P s) : P (State.lifeCmd s m v).1 := by
  unfold State.lifeCmd
  try dsimp only
  repeat' (first | with_reducible assumption | with_reducible apply State.plainWrite_closed C (hK.sub rfl) | with_reducible apply State.put_closed C (hK.sub rfl) | with_reducible apply State.setFld_closed C (hK.sub rfl) | with_reducible apply closed_ite | with_reducible apply closed_ite_fst | split | with_reducible apply C.life (hK.sub rfl))

theorem State.lifeEnd_closed (C : Closed K P) (hK : Sub 0x20001 K) (s : State) (result : Nat) (hP : P s) : P (State.lifeEnd s result) := by
  unfold State.lifeEnd
  try dsimp only
  repeat' (first | with_reducible assumption | with_reducible apply State.put_closed C (hK.sub rfl) | with_reducible apply State.setFld_closed C (hK.sub rfl) | with_reducible apply C.life (hK.sub rfl))

theorem State.lifeMoved_closed (C : Closed K P) (hK : Sub 0x20001 K) (s : State) (hP : P s) : P (State.lifeMoved s) := by
  unfold State.lifeMoved
  try dsimp only
  repeat' (first | with_reducible assumption | with_reducible apply State.lifeShow_closed C (hK.sub rfl) | with_reducible apply State.put_closed C (hK.sub rfl) | with_reducible apply State.setFld_closed C (hK.sub rfl) | with_reducible apply closed_ite | with_reducible apply C.life (hK.sub rfl))

theorem State.lifeBurn_closed (C : Closed K P) (hK : Sub 0x180020001 K) (s : State) (r : LifeRun) (data : List (BitVec 8)) (ok : Bool) (hP : P s) : P (State.lifeBurn s r data ok) := by
  unfold State.lifeBurn
  try dsimp only
  repeat' (first | with_reducible assumption | with_reducible apply State.lifeMoved_closed C (hK.sub rfl) | with_reducible apply State.lifeEnd_closed C (hK.sub rfl) | with_reducible apply State.burnPart_closed C (hK.sub rfl) | with_reducible apply State.burn_closed C (hK.sub rfl) | with_reducible apply closed_ite | with_reducible apply closed_ite_fst)

theorem State.lifeDone_closed (C : Closed K P) (hK : Sub 0x180031001 K) (s : State) (ok : Bool) (hP : P s) : P (State.lifeDone s ok) := by
  unfold State.lifeDone
  try dsimp only
  repeat' (first | with_reducible assumption | with_reducible apply State.lifeBurn_closed C (hK.sub rfl) | with_reducible apply State.lifeEnd_closed C (hK.sub rfl) | with_reducible apply State.newNonce_closed C (hK.sub rfl) | with_reducible apply State.memRead_closed C (hK.sub rfl) | with_reducible apply State.setFld_closed C (hK.sub rfl) | with_reducible apply closed_ite | with_reducible apply closed_ite_fst | split)

theorem State.lifeCut_closed (C : Closed K P) (hK : Sub 0x180031001 K) (s : State) (hP : P s) : P (State.lifeCut s) := by
  unfold State.lifeCut
  try dsimp only
  repeat' (first | with_reducible assumption | with_reducible apply State.burnPart_closed C (hK.sub rfl) | with_reducible apply State.memRead_closed C (hK.sub rfl) | with_reducible apply closed_ite | with_reducible apply closed_ite_fst | split | with_reducible apply C.life (hK.sub rfl))

theorem State.burnKeys_closed (C : Closed K P) (hK : Sub 0x80000000 K) (s : State) (hP : P s) : P (State.burnKeys s) := by
  unfold State.burnKeys
  try dsimp only
  repeat' (first | with_reducible assumption | with_reducible apply State.burn_closed C (hK.sub rfl))

theorem State.dbgStop_closed (C : Closed K P) (hK : Sub 0x11 K) (s : State) (hP : P s) : P (State.dbgStop s) := by
  unfold State.dbgStop
  try dsimp only
  repeat' (first | with_reducible assumption | with_reducible apply State.put_closed C (hK.sub rfl) | with_reducible apply C.sup (hK.sub rfl))

theorem State.dbgCtl_closed (C : Closed K P) (hK : Sub 0x11 K) (s : State) (v : Word) (hP : P s) : P (State.dbgCtl s v) := by
  unfold State.dbgCtl
  try dsimp only
  repeat' (first | with_reducible assumption | with_reducible apply State.dbgStop_closed C (hK.sub rfl) | with_reducible apply State.put_closed C (hK.sub rfl) | with_reducible apply closed_ite | with_reducible apply C.sup (hK.sub rfl))

theorem State.dbgSet_closed (C : Closed K P) (hK : Sub 0x38 K) (s : State) (v : Word) (hP : P s) : P (State.dbgSet s v) := by
  unfold State.dbgSet
  try dsimp only
  repeat' (first | with_reducible assumption | with_reducible apply State.cregWriteAt_closed C (hK.sub rfl) | with_reducible apply State.setG_closed C (hK.sub rfl) | with_reducible apply closed_ite | with_reducible apply C.sup (hK.sub rfl))

theorem State.dbgWrite_closed (C : Closed K P) (hK : Sub 0x38 K) (s : State) (v : Word) (hP : P s) : P (State.dbgWrite s v).1 := by
  unfold State.dbgWrite
  try dsimp only
  repeat' (first | with_reducible assumption | with_reducible apply State.dbgSet_closed C (hK.sub rfl) | split)

theorem State.dbgRead_closed (_ : Closed K P) (_ : Sub 0x0 K) (s : State) (hP : P s) : P (State.dbgRead s).1 := by
  unfold State.dbgRead
  try dsimp only
  repeat' (first | with_reducible assumption | split)

theorem State.lifeWrite_closed (C : Closed K P) (hK : Sub 0x20039 K) (s : State) (m : Master) (off : Nat) (v : Word) (hP : P s) : P (State.lifeWrite s m off v).1 := by
  unfold State.lifeWrite
  try dsimp only
  repeat' (first | with_reducible assumption | with_reducible apply State.dbgWrite_closed C (hK.sub rfl) | with_reducible apply State.dbgCtl_closed C (hK.sub rfl) | with_reducible apply State.lifeCmd_closed C (hK.sub rfl) | with_reducible apply State.plainWrite_closed C (hK.sub rfl) | with_reducible apply closed_ite | with_reducible apply closed_ite_fst)

theorem State.lifeRead_closed (C : Closed K P) (hK : Sub 0x1 K) (s : State) (m : Master) (off : Nat) (hP : P s) : P (State.lifeRead s m off).1 := by
  unfold State.lifeRead
  try dsimp only
  repeat' (first | with_reducible assumption | with_reducible apply State.dbgRead_closed C (hK.sub rfl) | with_reducible apply State.plainRead_closed C (hK.sub rfl) | with_reducible apply closed_ite | with_reducible apply closed_ite_fst)

theorem State.lifeGo_closed (C : Closed K P) (hK : Sub 0x200030001 K) (s : State) (m : Master) (op : Nat) (v : Word) (hP : P s) : P (State.lifeGo s m op v) := by
  unfold State.lifeGo
  try dsimp only
  repeat' (first | with_reducible assumption | intro _ | with_reducible apply State.lifeCmd_closed C (hK.sub rfl) | with_reducible apply State.via_closed C (hK.sub rfl))

theorem State.bootDoor_closed (C : Closed K P) (hK : Sub 0x1 K) (s : State) (m : Master) (v : Word) (hP : P s) : P (State.bootDoor s m v).1 := by
  unfold State.bootDoor
  try dsimp only
  repeat' (first | with_reducible assumption | with_reducible apply State.plainWrite_closed C (hK.sub rfl) | with_reducible apply State.setFld_closed C (hK.sub rfl) | with_reducible apply closed_ite | with_reducible apply closed_ite_fst)

theorem State.slotRead_closed (C : Closed K P) (hK : Sub 0x200000000 K) (s : State) (slot : Nat) (hP : P s) : P (State.slotRead s slot) := by
  unfold State.slotRead
  try dsimp only
  repeat' (first | with_reducible assumption | with_reducible apply State.emit_closed C (hK.sub rfl) | with_reducible apply closed_ite)

theorem State.bootWait_closed (C : Closed K P) (hK : Sub 0x300000001 K) (s : State) (hP : P s) : P (State.bootWait s) := by
  unfold State.bootWait
  try dsimp only
  repeat' (first | with_reducible assumption | with_reducible apply State.slotRead_closed C (hK.sub rfl) | with_reducible apply State.use_closed C (hK.sub rfl) | with_reducible apply State.emit_closed C (hK.sub rfl) | with_reducible apply State.put_closed C (hK.sub rfl) | with_reducible apply State.setFld_closed C (hK.sub rfl) | with_reducible apply State.wr_closed C (hK.sub rfl) | with_reducible apply closed_ite)

theorem State.imageRun_closed (C : Closed K P) (hK : Sub 0x80011011 K) (s : State) (i : List (BitVec 8)) (mode slot : Nat) (hP : P s) : P (State.imageRun s i mode slot) := by
  unfold State.imageRun
  try dsimp only
  repeat' (first | with_reducible assumption | with_reducible apply State.putWords_closed C (hK.sub rfl) | with_reducible apply State.setFld_closed C (hK.sub rfl) | with_reducible apply State.wr_closed C (hK.sub rfl) | with_reducible apply C.sup (hK.sub rfl))

theorem State.imageFail_closed (C : Closed K P) (hK : Sub 0x200000001 K) (s : State) (fail : Nat) (hP : P s) : P (State.imageFail s fail) := by
  unfold State.imageFail
  try dsimp only
  repeat' (first | with_reducible assumption | with_reducible apply State.slotRead_closed C (hK.sub rfl) | with_reducible apply State.put_closed C (hK.sub rfl) | with_reducible apply State.setFld_closed C (hK.sub rfl) | with_reducible apply State.wr_closed C (hK.sub rfl) | with_reducible apply closed_ite)

theorem State.authenticate_closed (C : Closed K P) (hK : Sub 0x280011011 K) (s : State) (slot : Nat) (image : List (BitVec 8)) (hP : P s) : P (State.authenticate s slot image) := by
  unfold State.authenticate
  try dsimp only
  repeat' (first | with_reducible assumption | with_reducible apply State.imageFail_closed C (hK.sub rfl) | with_reducible apply State.imageRun_closed C (hK.sub rfl) | with_reducible apply State.memRead_closed C (hK.sub rfl) | with_reducible apply closed_ite | with_reducible apply closed_ite_fst | split)

theorem State.flashRefuse_closed (C : Closed K P) (hK : Sub 0x1 K) (s : State) (code err : Nat) (hP : P s) : P (State.flashRefuse s code err).1 := by
  unfold State.flashRefuse
  try dsimp only
  repeat' (first | with_reducible assumption | with_reducible apply State.setFld_closed C (hK.sub rfl))

theorem State.flashCmd_closed (C : Closed K P) (hK : Sub 0x280411801 K) (s : State) (m : Master) (v : Word) (hP : P s) : P (State.flashCmd s m v).1 := by
  unfold State.flashCmd
  try dsimp only
  repeat' (first | with_reducible assumption | with_reducible apply State.flashRefuse_closed C (hK.sub rfl) | with_reducible apply State.plainWrite_closed C (hK.sub rfl) | with_reducible apply State.gateRequest_closed C (hK.sub rfl) | with_reducible apply State.memRead_closed C (hK.sub rfl) | with_reducible apply State.emit_closed C (hK.sub rfl) | with_reducible apply State.put_closed C (hK.sub rfl) | with_reducible apply State.setFld_closed C (hK.sub rfl) | with_reducible apply closed_ite | with_reducible apply closed_ite_fst | with_reducible apply C.flash (hK.sub rfl))

theorem State.flashStop_closed (C : Closed K P) (hK : Sub 0x400001 K) (s : State) (code : Nat) (hP : P s) : P (State.flashStop s code) := by
  unfold State.flashStop
  try dsimp only
  repeat' (first | with_reducible assumption | with_reducible apply State.gateRest_closed C (hK.sub rfl) | with_reducible apply State.put_closed C (hK.sub rfl) | with_reducible apply State.setFld_closed C (hK.sub rfl) | with_reducible apply C.flash (hK.sub rfl))

theorem State.flashPoll_closed (C : Closed K P) (hK : Sub 0x200400001 K) (s : State) (l : List (BitVec 8)) (hP : P s) : P (State.flashPoll s l) := by
  induction l generalizing s with
  | nil => exact hP
  | cons b l ih =>
    have h := State.emit_closed C (hK.sub rfl) s (.flash 0x05 0 0 false 1 []) hP
    exact closed_ite (ih _ h) (State.flashStop_closed C (hK.sub rfl) _ _ h)

theorem State.flashEnd_closed (C : Closed K P) (hK : Sub 0x280411001 K) (s : State) (bytes polls : List (BitVec 8)) (hP : P s) : P (State.flashEnd s bytes polls) := by
  unfold State.flashEnd
  try dsimp only
  repeat' (first | with_reducible assumption | with_reducible apply State.flashPoll_closed C (hK.sub rfl) | with_reducible apply State.flashStop_closed C (hK.sub rfl) | with_reducible apply State.memWrite_closed C (hK.sub rfl) | with_reducible apply State.take_closed C (hK.sub rfl) | with_reducible apply closed_ite | with_reducible apply closed_ite_fst | split | with_reducible apply C.flash (hK.sub rfl))

theorem State.flashWrite_closed (C : Closed K P) (hK : Sub 0x280411801 K) (s : State) (m : Master) (off : Nat) (v : Word) (hP : P s) : P (State.flashWrite s m off v).1 := by
  unfold State.flashWrite
  try dsimp only
  repeat' (first | with_reducible assumption | with_reducible apply State.flashCmd_closed C (hK.sub rfl) | with_reducible apply State.bootDoor_closed C (hK.sub rfl) | with_reducible apply State.plainWrite_closed C (hK.sub rfl) | with_reducible apply closed_ite | with_reducible apply closed_ite_fst)

theorem State.flashRead_closed (C : Closed K P) (hK : Sub 0x1 K) (s : State) (off : Nat) (hP : P s) : P (State.flashRead s off).1 := by
  unfold State.flashRead
  try dsimp only
  repeat' (first | with_reducible assumption | with_reducible apply State.plainRead_closed C (hK.sub rfl) | with_reducible apply closed_ite | with_reducible apply closed_ite_fst)

theorem State.setDmaChan_closed (C : Closed K P) (hK : Sub 0x40000 K) (s : State) (c : Nat) (d : DmaChan) (hP : P s) : P (State.setDmaChan s c d) := by
  unfold State.setDmaChan
  try dsimp only
  repeat' (first | with_reducible assumption | with_reducible exact fun w => w | with_reducible exact fun w => tabWf_put _ _ _ w | intro _ | with_reducible apply C.dma (hK.sub rfl))

theorem State.dmaStatus_closed (C : Closed K P) (hK : Sub 0x80011001 K) (s : State) (c v : Nat) (hP : P s) : P (State.dmaStatus s c v) := by
  unfold State.dmaStatus
  try dsimp only
  repeat' (first | with_reducible assumption | with_reducible apply State.memWrite_closed C (hK.sub rfl) | with_reducible apply closed_ite | with_reducible apply closed_ite_fst)

theorem State.dmaHalt_closed (C : Closed K P) (hK : Sub 0x80051001 K) (s : State) (c code addr : Nat) (hP : P s) : P (State.dmaHalt s c code addr) := by
  unfold State.dmaHalt
  try dsimp only
  repeat' (first | with_reducible assumption | intro _ | with_reducible apply State.dmaStatus_closed C (hK.sub rfl) | with_reducible apply State.setDmaChan_closed C (hK.sub rfl) | with_reducible apply State.gateRest_closed C (hK.sub rfl) | with_reducible apply State.setBit_closed C (hK.sub rfl) | with_reducible apply State.setFld_closed C (hK.sub rfl) | with_reducible apply State.wr_closed C (hK.sub rfl))

theorem State.dmaAsk_closed (C : Closed K P) (hK : Sub 0x280051801 K) (s : State) (c fuel : Nat) (hP : P s) : P (State.dmaAsk s c fuel) := by
  induction fuel generalizing s with
  | zero => exact hP
  | succ fuel ih => exact closed_ite hP (closed_ite (State.dmaHalt_closed C (hK.sub rfl) _ _ _ _ hP)
    (ih _ (State.emit_closed C (hK.sub rfl) _ _ (State.setDmaChan_closed C (hK.sub rfl) _ _ _ (State.gateOpen_closed C (hK.sub rfl) _ _ hP)))))

theorem State.dmaPump_closed (C : Closed K P) (hK : Sub 0x280051801 K) (s : State) (hP : P s) : P (State.dmaPump s) := by
  unfold State.dmaPump
  try dsimp only
  repeat' (first | with_reducible assumption | intro _ | with_reducible apply State.dmaAsk_closed C (hK.sub rfl) | with_reducible apply each_closed C (hK.sub rfl))

theorem State.dmaFetch_closed (C : Closed K P) (hK : Sub 0x280051801 K) (s : State) (c a : Nat) (hP : P s) : P (State.dmaFetch s c a) := by
  unfold State.dmaFetch
  try dsimp only
  repeat' (first | with_reducible assumption | with_reducible apply State.dmaAsk_closed C (hK.sub rfl) | with_reducible apply State.dmaHalt_closed C (hK.sub rfl) | with_reducible apply State.setDmaChan_closed C (hK.sub rfl) | with_reducible apply State.memRead_closed C (hK.sub rfl) | with_reducible apply closed_ite | with_reducible apply closed_ite_fst | split)

theorem State.dmaBegin_closed (C : Closed K P) (hK : Sub 0x280051801 K) (s : State) (c : Nat) (hP : P s) : P (State.dmaBegin s c).1 := by
  unfold State.dmaBegin
  try dsimp only
  repeat' (first | with_reducible assumption | with_reducible apply State.dmaFetch_closed C (hK.sub rfl) | with_reducible apply State.gateRequest_closed C (hK.sub rfl) | with_reducible apply State.put_closed C (hK.sub rfl) | with_reducible apply State.setFld_closed C (hK.sub rfl) | with_reducible apply closed_ite | with_reducible apply closed_ite_fst)

theorem State.dmaCut_closed (C : Closed K P) (hK : Sub 0x80051001 K) (s : State) (c : Nat) (hP : P s) : P (State.dmaCut s c) := by
  unfold State.dmaCut
  try dsimp only
  repeat' (first | with_reducible assumption | with_reducible apply State.dmaHalt_closed C (hK.sub rfl) | with_reducible apply closed_ite)

theorem State.dmaCtl_closed (C : Closed K P) (hK : Sub 0x280051801 K) (s : State) (m : Master) (c : Nat) (v : Word) (hP : P s) : P (State.dmaCtl s m c v).1 := by
  unfold State.dmaCtl
  try dsimp only
  repeat' (first | with_reducible assumption | intro _ | with_reducible apply State.dmaCut_closed C (hK.sub rfl) | with_reducible apply State.dmaBegin_closed C (hK.sub rfl) | with_reducible apply State.only_closed C (hK.sub rfl) | with_reducible apply closed_ite | with_reducible apply closed_ite_fst)

theorem State.dmaFinish_closed (C : Closed K P) (hK : Sub 0x280051801 K) (s : State) (c : Nat) (hP : P s) : P (State.dmaFinish s c) := by
  unfold State.dmaFinish
  try dsimp only
  repeat' (first | with_reducible assumption | with_reducible apply State.dmaFetch_closed C (hK.sub rfl) | with_reducible apply State.dmaStatus_closed C (hK.sub rfl) | with_reducible apply State.gateRest_closed C (hK.sub rfl) | with_reducible apply State.incr_closed C (hK.sub rfl) | with_reducible apply State.setBit_closed C (hK.sub rfl) | with_reducible apply State.setFld_closed C (hK.sub rfl) | with_reducible apply closed_ite)

theorem State.dmaMoved_closed (C : Closed K P) (hK : Sub 0x50000 K) (s : State) (c n : Nat) (hP : P s) : P (State.dmaMoved s c n) := by
  unfold State.dmaMoved
  try dsimp only
  repeat' (first | with_reducible assumption | with_reducible apply State.setDmaChan_closed C (hK.sub rfl) | with_reducible apply State.tally_closed C (hK.sub rfl))

theorem State.dmaSend_closed (C : Closed K P) (hK : Sub 0x280051801 K) (s : State) (c : Nat) (hP : P s) : P (State.dmaSend s c) := by
  unfold State.dmaSend
  try dsimp only
  repeat' (first | with_reducible assumption | with_reducible apply State.dmaMoved_closed C (hK.sub rfl) | with_reducible apply State.dmaHalt_closed C (hK.sub rfl) | with_reducible apply State.gateOpen_closed C (hK.sub rfl) | with_reducible apply State.memRead_closed C (hK.sub rfl) | with_reducible apply State.bwCount_closed C (hK.sub rfl) | with_reducible apply State.emit_closed C (hK.sub rfl) | with_reducible apply closed_ite | with_reducible apply closed_ite_fst | split)

theorem State.dmaDone_closed (C : Closed K P) (hK : Sub 0x280051801 K) (s : State) (c : Nat) (hP : P s) : P (State.dmaDone s c) := by
  unfold State.dmaDone
  try dsimp only
  repeat' (first | with_reducible assumption | intro _ | with_reducible apply State.dmaSend_closed C (hK.sub rfl) | with_reducible apply State.dmaFinish_closed C (hK.sub rfl) | with_reducible apply closed_foldl | with_reducible apply closed_foldl_fst | with_reducible apply closed_ite)

theorem State.dmaTake_closed (C : Closed K P) (hK : Sub 0x80051001 K) (s : State) (c : Nat) (ok : Bool) (bs : List (BitVec 8)) (hP : P s) : P (State.dmaTake s c ok bs) := by
  unfold State.dmaTake
  try dsimp only
  repeat' (first | with_reducible assumption | with_reducible apply State.dmaMoved_closed C (hK.sub rfl) | with_reducible apply State.dmaHalt_closed C (hK.sub rfl) | with_reducible apply State.memWrite_closed C (hK.sub rfl) | with_reducible apply closed_ite | with_reducible apply closed_ite_fst | split)

theorem State.dmaGot_closed (C : Closed K P) (hK : Sub 0x280051801 K) (s : State) (c : Nat) (ok : Bool) (bytes : List (BitVec 8)) (hP : P s) : P (State.dmaGot s c ok bytes) := by
  unfold State.dmaGot
  try dsimp only
  repeat' (first | with_reducible assumption | with_reducible apply State.dmaTake_closed C (hK.sub rfl) | with_reducible apply State.dmaPump_closed C (hK.sub rfl) | with_reducible apply State.setDmaChan_closed C (hK.sub rfl) | with_reducible apply State.take_closed C (hK.sub rfl) | with_reducible apply State.bwCount_closed C (hK.sub rfl) | with_reducible apply State.tally_closed C (hK.sub rfl) | with_reducible apply closed_ite | split)

theorem State.dmaExpire_closed (C : Closed K P) (hK : Sub 0x280051801 K) (s : State) (c : Nat) (hP : P s) : P (State.dmaExpire s c) := by
  unfold State.dmaExpire
  try dsimp only
  repeat' (first | with_reducible assumption | with_reducible apply State.dmaPump_closed C (hK.sub rfl) | with_reducible apply State.dmaHalt_closed C (hK.sub rfl) | with_reducible apply State.setDmaChan_closed C (hK.sub rfl) | with_reducible apply closed_ite | split)

theorem State.dmaWrite_closed (C : Closed K P) (hK : Sub 0x280051801 K) (s : State) (m : Master) (off : Nat) (v : Word) (hP : P s) : P (State.dmaWrite s m off v).1 := by
  unfold State.dmaWrite
  try dsimp only
  repeat' (first | with_reducible assumption | intro _ | with_reducible apply State.dmaCtl_closed C (hK.sub rfl) | with_reducible apply State.only_closed C (hK.sub rfl) | with_reducible apply State.plainWrite_closed C (hK.sub rfl) | with_reducible apply closed_ite | with_reducible apply closed_ite_fst)

theorem State.setPort_closed (C : Closed K P) (hK : Sub 0x200000 K) (s : State) (p : Nat) (x : Port) (hP : P s) : P (State.setPort s p x) := by
  unfold State.setPort
  try dsimp only
  repeat' (first | with_reducible assumption | with_reducible exact fun w => w | with_reducible exact fun w => tabWf_put _ _ _ w | exact fun w => w | (intro w; simp only [Tow.wf, Bool.and_eq_true] at w ⊢; simp only [w, tabWf_put, and_self]) | intro _ | with_reducible apply C.tow (hK.sub rfl))

theorem State.setWin_closed (C : Closed K P) (hK : Sub 0x200000 K) (s : State) (w : Nat) (x : Win) (hP : P s) : P (State.setWin s w x) := by
  unfold State.setWin
  try dsimp only
  repeat' (first | with_reducible assumption | with_reducible exact fun w => w | with_reducible exact fun w => tabWf_put _ _ _ w | exact fun w => w | (intro w; simp only [Tow.wf, Bool.and_eq_true] at w ⊢; simp only [w, tabWf_put, and_self]) | intro _ | with_reducible apply C.tow (hK.sub rfl))

theorem State.towCount_closed (C : Closed K P) (hK : Sub 0x10000 K) (s : State) (sent : Bool) (k : TowPkt) (hP : P s) : P (State.towCount s sent k) := by
  unfold State.towCount
  try dsimp only
  repeat' (first | with_reducible assumption | with_reducible apply State.bwCount_closed C (hK.sub rfl) | with_reducible apply State.tally_closed C (hK.sub rfl))

theorem State.coded10_closed (C : Closed K P) (hK : Sub 0x200000 K) (s : State) (p : Nat) (cs : List TowChar) (hP : P s) : P (State.coded10 s p cs).1 := by
  unfold State.coded10
  try dsimp only
  repeat' (first | with_reducible assumption | with_reducible apply State.setPort_closed C (hK.sub rfl))

theorem State.orderedOut_closed (C : Closed K P) (hK : Sub 0x200200000 K) (s : State) (p : Nat) (name : String) (arg : Nat) (cs : List TowChar) (hP : P s) : P (State.orderedOut s p name arg cs) := by
  unfold State.orderedOut
  try dsimp only
  repeat' (first | with_reducible assumption | with_reducible apply State.coded10_closed C (hK.sub rfl) | with_reducible apply State.emit_closed C (hK.sub rfl))

theorem State.idleOut_closed (C : Closed K P) (hK : Sub 0x200200000 K) (s : State) (p : Nat) (hP : P s) : P (State.idleOut s p) := by
  unfold State.idleOut
  try dsimp only
  repeat' (first | with_reducible assumption | with_reducible apply State.orderedOut_closed C (hK.sub rfl))

theorem State.wakeOut_closed (C : Closed K P) (hK : Sub 0x200200000 K) (s : State) (p : Nat) (hP : P s) : P (State.wakeOut s p) := by
  unfold State.wakeOut
  try dsimp only
  repeat' (first | with_reducible assumption | with_reducible apply State.idleOut_closed C (hK.sub rfl) | with_reducible apply State.orderedOut_closed C (hK.sub rfl))

theorem State.towSend_closed (C : Closed K P) (hK : Sub 0x200210001 K) (s : State) (p : Nat) (k : TowPkt) (hP : P s) : P (State.towSend s p k) := by
  unfold State.towSend
  try dsimp only
  repeat' (first | with_reducible assumption | with_reducible apply State.wakeOut_closed C (hK.sub rfl) | with_reducible apply State.idleOut_closed C (hK.sub rfl) | with_reducible apply State.coded10_closed C (hK.sub rfl) | with_reducible apply State.towCount_closed C (hK.sub rfl) | with_reducible apply State.emit_closed C (hK.sub rfl) | with_reducible apply State.put_closed C (hK.sub rfl) | with_reducible apply closed_ite | with_reducible apply closed_ite_fst)

theorem State.towForward_closed (C : Closed K P) (hK : Sub 0x200210001 K) (s : State) (p : Nat) (k : TowPkt) (hP : P s) : P (State.towForward s p k) := by
  unfold State.towForward
  try dsimp only
  repeat' (first | with_reducible assumption | with_reducible apply State.towSend_closed C (hK.sub rfl) | with_reducible apply closed_ite)

theorem State.reroute_closed (C : Closed K P) (hK : Sub 0x1 K) (s : State) (hP : P s) : P (State.reroute s) := by
  unfold State.reroute
  try dsimp only
  repeat' (first | with_reducible assumption | intro _ | with_reducible apply State.setBit_closed C (hK.sub rfl) | with_reducible apply State.put_closed C (hK.sub rfl) | with_reducible apply State.wr_closed C (hK.sub rfl) | with_reducible apply closed_foldl | with_reducible apply closed_foldl_fst | with_reducible apply closed_ite)

theorem State.linkReport_closed (C : Closed K P) (hK : Sub 0x200001 K) (s : State) (d port : Nat) (up : Bool) (hP : P s) : P (State.linkReport s d port up) := by
  unfold State.linkReport
  try dsimp only
  repeat' (first | with_reducible assumption | with_reducible exact fun w => w | exact fun w => w | intro _ | with_reducible apply State.reroute_closed C (hK.sub rfl) | with_reducible apply closed_ite | with_reducible apply C.tow (hK.sub rfl))

theorem State.portReport_closed (C : Closed K P) (hK : Sub 0x200210001 K) (s : State) (p : Nat) (up : Bool) (hP : P s) : P (State.portReport s p up) := by
  unfold State.portReport
  try dsimp only
  repeat' (first | with_reducible assumption | with_reducible apply State.reroute_closed C (hK.sub rfl) | with_reducible apply State.towSend_closed C (hK.sub rfl) | with_reducible apply closed_ite)

theorem State.stepDue_closed (C : Closed K P) (hK : Sub 0x200000 K) (s : State) (p : Nat) (hP : P s) : P (State.stepDue s p) := by
  unfold State.stepDue
  try dsimp only
  repeat' (first | with_reducible assumption | with_reducible apply State.setPort_closed C (hK.sub rfl) | with_reducible apply closed_ite)

theorem State.testSend_closed (C : Closed K P) (hK : Sub 0x200200000 K) (s : State) (p : Nat) (hP : P s) : P (State.testSend s p) := by
  unfold State.testSend
  try dsimp only
  repeat' (first | with_reducible assumption | with_reducible apply State.setPort_closed C (hK.sub rfl) | with_reducible apply State.emit_closed C (hK.sub rfl) | with_reducible apply closed_ite | with_reducible apply closed_ite_fst | split)

theorem State.sofSend_closed (C : Closed K P) (hK : Sub 0x300200801 K) (s : State) (p : Nat) (hP : P s) : P (State.sofSend s p) := by
  unfold State.sofSend
  try dsimp only
  repeat' (first | with_reducible assumption | with_reducible apply State.testSend_closed C (hK.sub rfl) | with_reducible apply State.orderedOut_closed C (hK.sub rfl) | with_reducible apply State.setPort_closed C (hK.sub rfl) | with_reducible apply State.gateOpen_closed C (hK.sub rfl) | with_reducible apply State.use_closed C (hK.sub rfl) | with_reducible apply State.setFld_closed C (hK.sub rfl) | with_reducible apply closed_ite)

theorem State.sofReceive_closed (C : Closed K P) (hK : Sub 0x200001 K) (s : State) (p d : Nat) (hP : P s) : P (State.sofReceive s p d) := by
  unfold State.sofReceive
  try dsimp only
  repeat' (first | with_reducible assumption | with_reducible apply State.stepDue_closed C (hK.sub rfl) | with_reducible apply State.setPort_closed C (hK.sub rfl) | with_reducible apply State.put_closed C (hK.sub rfl) | with_reducible apply State.setFld_closed C (hK.sub rfl) | with_reducible apply closed_ite)

theorem State.stepKept_closed (C : Closed K P) (hK : Sub 0x200000 K) (s : State) (p : Nat) (hP : P s) : P (State.stepKept s p) := by
  unfold State.stepKept
  try dsimp only
  repeat' (first | with_reducible assumption | with_reducible apply State.stepDue_closed C (hK.sub rfl) | with_reducible apply State.setPort_closed C (hK.sub rfl) | with_reducible apply closed_ite)

theorem State.stepLost_closed (C : Closed K P) (hK : Sub 0x200001 K) (s : State) (p : Nat) (hP : P s) : P (State.stepLost s p) := by
  unfold State.stepLost
  try dsimp only
  repeat' (first | with_reducible assumption | with_reducible apply State.setPort_closed C (hK.sub rfl) | with_reducible apply State.put_closed C (hK.sub rfl) | with_reducible apply State.setFld_closed C (hK.sub rfl) | with_reducible apply closed_ite)

theorem State.portRise_closed (C : Closed K P) (hK : Sub 0x300210801 K) (s : State) (p : Nat) (hP : P s) : P (State.portRise s p) := by
  unfold State.portRise
  try dsimp only
  repeat' (first | with_reducible assumption | with_reducible apply State.portReport_closed C (hK.sub rfl) | with_reducible apply State.setPort_closed C (hK.sub rfl) | with_reducible apply State.gateOpen_closed C (hK.sub rfl) | with_reducible apply State.use_closed C (hK.sub rfl) | with_reducible apply State.setBit_closed C (hK.sub rfl) | with_reducible apply State.put_closed C (hK.sub rfl) | with_reducible apply State.setFld_closed C (hK.sub rfl) | with_reducible apply closed_ite)

theorem State.portDown_closed (C : Closed K P) (hK : Sub 0x200210001 K) (s : State) (p : Nat) (hP : P s) : P (State.portDown s p) := by
  unfold State.portDown
  try dsimp only
  repeat' (first | with_reducible assumption | with_reducible apply State.portReport_closed C (hK.sub rfl) | with_reducible apply State.setPort_closed C (hK.sub rfl) | with_reducible apply State.setBit_closed C (hK.sub rfl) | with_reducible apply State.wr_closed C (hK.sub rfl) | with_reducible apply closed_ite)

theorem State.portFall_closed (C : Closed K P) (hK : Sub 0x200210001 K) (s : State) (p : Nat) (hP : P s) : P (State.portFall s p) := by
  unfold State.portFall
  try dsimp only
  repeat' (first | with_reducible assumption | with_reducible apply State.portDown_closed C (hK.sub rfl) | with_reducible apply closed_ite)

theorem State.portRest_closed (C : Closed K P) (hK : Sub 0x200210001 K) (s : State) (p : Nat) (hP : P s) : P (State.portRest s p) := by
  unfold State.portRest
  try dsimp only
  repeat' (first | with_reducible assumption | with_reducible apply State.portDown_closed C (hK.sub rfl) | with_reducible apply State.put_closed C (hK.sub rfl) | with_reducible apply closed_ite)

theorem State.gateSwitch_closed (C : Closed K P) (hK : Sub 0x200210801 K) (s : State) (m : Master) (b : Nat) (v : Word) (hP : P s) : P (State.gateSwitch s m b v).1 := by
  unfold State.gateSwitch
  try dsimp only
  repeat' (first | with_reducible assumption | with_reducible apply State.portRest_closed C (hK.sub rfl) | with_reducible apply State.gateWrite_closed C (hK.sub rfl) | with_reducible apply closed_ite | with_reducible apply closed_ite_fst)

theorem State.txSleep_closed (C : Closed K P) (hK : Sub 0x300200001 K) (s : State) (p : Nat) (hP : P s) : P (State.txSleep s p) := by
  unfold State.txSleep
  try dsimp only
  repeat' (first | with_reducible assumption | with_reducible apply State.orderedOut_closed C (hK.sub rfl) | with_reducible apply State.use_closed C (hK.sub rfl) | with_reducible apply State.put_closed C (hK.sub rfl) | with_reducible apply closed_ite)

theorem State.txWake_closed (C : Closed K P) (hK : Sub 0x200200001 K) (s : State) (p : Nat) (hP : P s) : P (State.txWake s p) := by
  unfold State.txWake
  try dsimp only
  repeat' (first | with_reducible assumption | with_reducible apply State.wakeOut_closed C (hK.sub rfl) | with_reducible apply State.put_closed C (hK.sub rfl) | with_reducible apply closed_ite)

theorem State.enumSend_closed (C : Closed K P) (hK : Sub 0x200210001 K) (s : State) (pass : Nat) (hP : P s) : P (State.enumSend s pass) := by
  unfold State.enumSend
  try dsimp only
  repeat' (first | with_reducible assumption | with_reducible exact fun w => w | exact fun w => w | with_reducible apply State.towSend_closed C (hK.sub rfl) | with_reducible apply closed_ite | with_reducible apply C.tow (hK.sub rfl))

theorem State.enumBegin_closed (C : Closed K P) (hK : Sub 0x200210001 K) (s : State) (hP : P s) : P (State.enumBegin s) := by
  unfold State.enumBegin
  try dsimp only
  repeat' (first | with_reducible assumption | with_reducible exact fun w => w | exact fun w => w | with_reducible apply State.enumSend_closed C (hK.sub rfl) | with_reducible apply State.put_closed C (hK.sub rfl) | with_reducible apply closed_ite | with_reducible apply C.tow (hK.sub rfl))

theorem State.enumEnd_closed (C : Closed K P) (hK : Sub 0x200001 K) (s : State) (openEnd : Bool) (n nb : Nat) (hP : P s) : P (State.enumEnd s openEnd n nb) := by
  unfold State.enumEnd
  try dsimp only
  repeat' (first | with_reducible assumption | with_reducible exact fun w => w | exact fun w => w | (intro w; simp only [Tow.wf, Bool.and_eq_true] at w ⊢; simp only [w, tabWf_nil, and_self]) | with_reducible apply State.reroute_closed C (hK.sub rfl) | with_reducible apply State.setBit_closed C (hK.sub rfl) | with_reducible apply State.put_closed C (hK.sub rfl) | with_reducible apply State.setFld_closed C (hK.sub rfl) | with_reducible apply closed_ite | with_reducible apply C.tow (hK.sub rfl))

theorem State.enumExpire_closed (C : Closed K P) (hK : Sub 0x300210001 K) (s : State) (hP : P s) : P (State.enumExpire s) := by
  unfold State.enumExpire
  try dsimp only
  repeat' (first | with_reducible assumption | with_reducible apply State.enumEnd_closed C (hK.sub rfl) | with_reducible apply State.enumSend_closed C (hK.sub rfl) | with_reducible apply State.use_closed C (hK.sub rfl) | with_reducible apply closed_ite)

theorem State.enumReceive_closed (C : Closed K P) (hK : Sub 0x300210001 K) (s : State) (p : Nat) (k : TowPkt) (hP : P s) : P (State.enumReceive s p k) := by
  unfold State.enumReceive
  try dsimp only
  repeat' (first | with_reducible assumption | with_reducible apply State.enumEnd_closed C (hK.sub rfl) | with_reducible apply State.towForward_closed C (hK.sub rfl) | with_reducible apply State.use_closed C (hK.sub rfl) | with_reducible apply State.setBit_closed C (hK.sub rfl) | with_reducible apply State.wr_closed C (hK.sub rfl) | with_reducible apply closed_ite)

theorem State.eventTake_closed (C : Closed K P) (hK : Sub 0x200001 K) (s : State) (k : TowPkt) (hP : P s) : P (State.eventTake s k) := by
  unfold State.eventTake
  try dsimp only
  repeat' (first | with_reducible assumption | with_reducible apply State.linkReport_closed C (hK.sub rfl) | with_reducible apply State.putPairBit_closed C (hK.sub rfl) | with_reducible apply closed_ite)

theorem State.helloTake_closed (C : Closed K P) (hK : Sub 0x200001 K) (s : State) (hP : P s) : P (State.helloTake s) := by
  unfold State.helloTake
  try dsimp only
  repeat' (first | with_reducible assumption | with_reducible exact fun w => w | exact fun w => w | with_reducible apply State.setBit_closed C (hK.sub rfl) | with_reducible apply closed_ite | with_reducible apply C.tow (hK.sub rfl))

theorem State.helloSend_closed (C : Closed K P) (hK : Sub 0x200210001 K) (s : State) (hP : P s) : P (State.helloSend s) := by
  unfold State.helloSend
  try dsimp only
  repeat' (first | with_reducible assumption | with_reducible apply State.towSend_closed C (hK.sub rfl) | with_reducible apply closed_ite)

theorem State.pcieRefuse_closed (C : Closed K P) (hK : Sub 0x200080001 K) (s : State) (write : Bool) (bar off cause : Nat) (hP : P s) : P (State.pcieRefuse s write bar off cause) := by
  unfold State.pcieRefuse
  try dsimp only
  repeat' (first | with_reducible assumption | with_reducible exact fun w => w | exact fun w => w | with_reducible apply State.emit_closed C (hK.sub rfl) | with_reducible apply State.bump_closed C (hK.sub rfl) | with_reducible apply State.put_closed C (hK.sub rfl) | with_reducible apply State.setFld_closed C (hK.sub rfl) | with_reducible apply State.wr_closed C (hK.sub rfl) | with_reducible apply closed_ite | with_reducible apply C.pcie (hK.sub rfl))

theorem State.reply_closed (C : Closed K P) (hK : Sub 0x2009903bf K) (s : State) (k : Asker) (err : Nat) (data : List (BitVec 8)) (hP : P s) : P (State.reply s k err data) := by
  unfold State.reply
  try dsimp only
  repeat' (first | with_reducible assumption | with_reducible apply State.pcieRefuse_closed C (hK.sub rfl) | with_reducible apply State.fetch_closed C (hK.sub rfl) | with_reducible apply State.supTrap_closed C (hK.sub rfl) | with_reducible apply State.advance_closed C (hK.sub rfl) | with_reducible apply State.setReg_closed C (hK.sub rfl) | with_reducible apply State.bwCount_closed C (hK.sub rfl) | with_reducible apply State.emit_closed C (hK.sub rfl) | with_reducible apply closed_ite | split | with_reducible apply C.sup (hK.sub rfl) | with_reducible apply C.smp (hK.sub rfl))

theorem State.winSend_closed (C : Closed K P) (hK : Sub 0x200210001 K) (s : State) (w : Nat) (o : WinOp) (hP : P s) : P (State.winSend s w o) := by
  unfold State.winSend
  try dsimp only
  repeat' (first | with_reducible assumption | with_reducible exact fun w => w | exact fun w => w | with_reducible apply State.towSend_closed C (hK.sub rfl) | with_reducible apply State.setWin_closed C (hK.sub rfl) | with_reducible apply closed_ite | with_reducible apply C.tow (hK.sub rfl))

theorem State.winPump_closed (C : Closed K P) (hK : Sub 0x200210001 K) (s : State) (w fuel : Nat) (hP : P s) : P (State.winPump s w fuel) := by
  induction fuel generalizing s with
  | zero => exact hP
  | succ fuel ih =>
    unfold State.winPump
    dsimp only
    split
    · exact hP
    · exact closed_ite hP (ih _ (State.winSend_closed C (hK.sub rfl) _ _ _ (State.setWin_closed C (hK.sub rfl) _ _ _ hP)))

theorem State.winRun_closed (C : Closed K P) (hK : Sub 0x200210001 K) (s : State) (w : Nat) (hP : P s) : P (State.winRun s w) := by
  unfold State.winRun
  try dsimp only
  repeat' (first | with_reducible assumption | with_reducible apply State.winPump_closed C (hK.sub rfl))

theorem State.winRead_closed (C : Closed K P) (hK : Sub 0x200210001 K) (s : State) (m : Master) (w x n : Nat) (ask : Asker) (hP : P s) : P (State.winRead s m w x n ask).1 := by
  unfold State.winRead
  try dsimp only
  repeat' (first | with_reducible assumption | intro _ | with_reducible apply State.winSend_closed C (hK.sub rfl) | with_reducible apply closed_ite | with_reducible apply closed_ite_fst | split)

theorem State.winDeny_closed (C : Closed K P) (hK : Sub 0x1 K) (s : State) (w c : Nat) (hP : P s) : P (State.winDeny s w c).1 := by
  unfold State.winDeny
  try dsimp only
  repeat' (first | with_reducible assumption | with_reducible apply State.put_closed C (hK.sub rfl))

theorem State.winWrite_closed (C : Closed K P) (hK : Sub 0x200210001 K) (s : State) (m : Master) (w x : Nat) (bs : List (BitVec 8)) (hP : P s) : P (State.winWrite s m w x bs).1 := by
  unfold State.winWrite
  try dsimp only
  repeat' (first | with_reducible assumption | with_reducible apply State.winDeny_closed C (hK.sub rfl) | with_reducible apply State.winRun_closed C (hK.sub rfl) | with_reducible apply State.setWin_closed C (hK.sub rfl) | split)

theorem State.winDrop_closed (C : Closed K P) (hK : Sub 0x200210001 K) (s : State) (w tag : Nat) (hP : P s) : P (State.winDrop s w tag) := by
  unfold State.winDrop
  try dsimp only
  repeat' (first | with_reducible assumption | intro _ | with_reducible apply State.winRun_closed C (hK.sub rfl) | with_reducible apply State.setWin_closed C (hK.sub rfl))

theorem State.askRest_closed (C : Closed K P) (hK : Sub 0x1 K) (s : State) (k : Asker) (hP : P s) : P (State.askRest s k) := by
  unfold State.askRest
  try dsimp only
  repeat' (first | with_reducible assumption | with_reducible apply State.gateRest_closed C (hK.sub rfl) | with_reducible apply closed_ite)

theorem State.winEnd_closed (C : Closed K P) (hK : Sub 0x2009903bf K) (s : State) (w : Nat) (o : WinOp) (err : Nat) (data : List (BitVec 8)) (hP : P s) : P (State.winEnd s w o err data) := by
  unfold State.winEnd
  try dsimp only
  repeat' (first | with_reducible assumption | with_reducible apply State.askRest_closed C (hK.sub rfl) | with_reducible apply State.reply_closed C (hK.sub rfl) | with_reducible apply State.busTally_closed C (hK.sub rfl) | with_reducible apply State.put_closed C (hK.sub rfl) | with_reducible apply closed_ite | split)

theorem State.winResponse_closed (C : Closed K P) (hK : Sub 0x200b903bf K) (s : State) (k : TowPkt) (read : Bool) (hP : P s) : P (State.winResponse s k read) := by
  unfold State.winResponse
  try dsimp only
  repeat' (first | with_reducible assumption | with_reducible apply State.winEnd_closed C (hK.sub rfl) | with_reducible apply State.winDrop_closed C (hK.sub rfl) | with_reducible apply State.portRest_closed C (hK.sub rfl) | with_reducible apply State.setFld_closed C (hK.sub rfl) | split)

theorem State.winExpire_closed (C : Closed K P) (hK : Sub 0x200b903bf K) (s : State) (w : Nat) (hP : P s) : P (State.winExpire s w) := by
  unfold State.winExpire
  try dsimp only
  repeat' (first | with_reducible assumption | with_reducible apply State.winEnd_closed C (hK.sub rfl) | with_reducible apply State.winDrop_closed C (hK.sub rfl) | with_reducible apply State.portRest_closed C (hK.sub rfl) | with_reducible apply State.setBit_closed C (hK.sub rfl) | split)

theorem State.syncDo_closed (C : Closed K P) (hK : Sub 0x10206001 K) (s : State) (hP : P s) : P (State.syncDo s) := by
  unfold State.syncDo
  try dsimp only
  repeat' (first | with_reducible assumption | with_reducible exact fun w => w | exact fun w => w | with_reducible apply State.monRestart_closed C (hK.sub rfl) | with_reducible apply State.loadTb_closed C (hK.sub rfl) | with_reducible apply State.put_closed C (hK.sub rfl) | with_reducible apply State.wr_closed C (hK.sub rfl) | with_reducible apply closed_ite | with_reducible apply C.tow (hK.sub rfl))

theorem State.syncSend_closed (C : Closed K P) (hK : Sub 0x200200000 K) (s : State) (p e f : Nat) (hP : P s) : P (State.syncSend s p e f) := by
  unfold State.syncSend
  try dsimp only
  repeat' (first | with_reducible assumption | with_reducible apply State.orderedOut_closed C (hK.sub rfl) | with_reducible apply closed_ite)

theorem State.syncBegin_closed (C : Closed K P) (hK : Sub 0x200200000 K) (s : State) (hP : P s) : P (State.syncBegin s) := by
  unfold State.syncBegin
  try dsimp only
  repeat' (first | with_reducible assumption | with_reducible exact fun w => w | exact fun w => w | with_reducible apply State.syncSend_closed C (hK.sub rfl) | with_reducible apply closed_ite | with_reducible apply C.tow (hK.sub rfl))

theorem State.syncReceive_closed (C : Closed K P) (hK : Sub 0x310206001 K) (s : State) (p e f : Nat) (hP : P s) : P (State.syncReceive s p e f) := by
  unfold State.syncReceive
  try dsimp only
  repeat' (first | with_reducible assumption | with_reducible exact fun w => w | exact fun w => w | with_reducible apply State.syncSend_closed C (hK.sub rfl) | with_reducible apply State.syncDo_closed C (hK.sub rfl) | with_reducible apply State.use_closed C (hK.sub rfl) | with_reducible apply State.setBit_closed C (hK.sub rfl) | with_reducible apply closed_ite | with_reducible apply C.tow (hK.sub rfl))

theorem State.towCtl_closed (C : Closed K P) (hK : Sub 0x200210801 K) (s : State) (m : Master) (v : Word) (hP : P s) : P (State.towCtl s m v).1 := by
  unfold State.towCtl
  try dsimp only
  repeat' (first | with_reducible assumption | intro _ | with_reducible apply State.syncBegin_closed C (hK.sub rfl) | with_reducible apply State.enumBegin_closed C (hK.sub rfl) | with_reducible apply State.gateOpen_closed C (hK.sub rfl) | with_reducible apply each_closed C (hK.sub rfl) | with_reducible apply State.put_closed C (hK.sub rfl) | with_reducible apply closed_ite | with_reducible apply closed_ite_fst)

theorem State.portCtl_closed (C : Closed K P) (hK : Sub 0x300210001 K) (s : State) (p : Nat) (v : Word) (hP : P s) : P (State.portCtl s p v) := by
  unfold State.portCtl
  try dsimp only
  repeat' (first | with_reducible assumption | with_reducible apply State.portReport_closed C (hK.sub rfl) | with_reducible apply State.setPort_closed C (hK.sub rfl) | with_reducible apply State.plainWrite_closed C (hK.sub rfl) | with_reducible apply State.use_closed C (hK.sub rfl) | with_reducible apply State.wr_closed C (hK.sub rfl) | with_reducible apply closed_ite)

theorem State.towWrite_closed (C : Closed K P) (hK : Sub 0x300210801 K) (s : State) (m : Master) (off : Nat) (v : Word) (hP : P s) : P (State.towWrite s m off v).1 := by
  unfold State.towWrite
  try dsimp only
  repeat' (first | with_reducible assumption | with_reducible apply State.portCtl_closed C (hK.sub rfl) | with_reducible apply State.towCtl_closed C (hK.sub rfl) | with_reducible apply State.plainWrite_closed C (hK.sub rfl) | with_reducible apply closed_ite | with_reducible apply closed_ite_fst)

theorem State.towRead_closed (C : Closed K P) (hK : Sub 0x100000001 K) (s : State) (off : Nat) (hP : P s) : P (State.towRead s off).1 := by
  unfold State.towRead
  try dsimp only
  repeat' (first | with_reducible assumption | with_reducible apply State.plainRead_closed C (hK.sub rfl) | with_reducible apply State.use_closed C (hK.sub rfl) | with_reducible apply closed_ite | with_reducible apply closed_ite_fst)

theorem State.msixIssue_closed (C : Closed K P) (hK : Sub 0x240290801 K) (s : State) (v : Nat) (hP : P s) : P (State.msixIssue s v) := by
  have h := C.msixDue (hK.sub rfl) (x := s.msixDue &&& ~~~(BitVec.ofNat 64 (2 ^ v))) (State.putPairBit_closed C (hK.sub rfl) s R.IRQ_HOST_INSERV_LO v true hP)
  unfold State.msixIssue
  dsimp only
  repeat' (first | with_reducible assumption | with_reducible apply closed_ite | with_reducible apply State.towSend_closed C (hK.sub rfl) | with_reducible apply State.emit_closed C (hK.sub rfl) | with_reducible apply State.gateOpen_closed C (hK.sub rfl) | with_reducible apply State.bwCount_closed C (hK.sub rfl))
  exact C.pcie (hK.sub rfl) h fun w => w

theorem State.arrives_closed (C : Closed K P) (hK : Sub 0x10000 K) (s : State) (p : Nat) (k : TowPkt) (f : State → State) (hP : P s) (hPf : ∀ s, P s → P (f s)) : P (State.arrives s p k f) := by
  unfold State.arrives
  try dsimp only
  repeat' (first | with_reducible assumption | with_reducible apply State.towCount_closed C (hK.sub rfl) | with_reducible apply hPf | with_reducible apply closed_ite)

theorem State.toHead_closed (C : Closed K P) (hK : Sub 0x200210001 K) (s : State) (p : Nat) (k : TowPkt) (f : State → State) (hP : P s) (hPf : ∀ s, P s → P (f s)) : P (State.toHead s p k f) := by
  unfold State.toHead
  try dsimp only
  repeat' (first | with_reducible assumption | with_reducible apply State.towForward_closed C (hK.sub rfl) | with_reducible apply hPf | with_reducible apply closed_ite)

theorem State.winCut_closed (C : Closed K P) (hK : Sub 0x200b903bf K) (s : State) (f : WinOp → Bool) (w : Nat) (hP : P s) : P (State.winCut s f w) := by
  unfold State.winCut
  try dsimp only
  repeat' (first | with_reducible assumption | intro _ | with_reducible apply State.winEnd_closed C (hK.sub rfl) | with_reducible apply State.winRun_closed C (hK.sub rfl) | with_reducible apply State.setWin_closed C (hK.sub rfl) | with_reducible apply closed_foldl | with_reducible apply closed_foldl_fst)

theorem State.portCut_closed (C : Closed K P) (hK : Sub 0x200b903bf K) (s : State) (p : Nat) (hP : P s) : P (State.portCut s p) := by
  unfold State.portCut
  try dsimp only
  repeat' (first | with_reducible assumption | intro _ | with_reducible apply State.winCut_closed C (hK.sub rfl) | with_reducible apply each_closed C (hK.sub rfl))

theorem State.gateStop_closed (C : Closed K P) (hK : Sub 0x280fd13bf K) (s : State) (b : Nat) (hP : P s) : P (State.gateStop s b) := by
  unfold State.gateStop
  try dsimp only
  repeat' (first | with_reducible assumption | intro _ | with_reducible apply State.portCut_closed C (hK.sub rfl) | with_reducible apply State.winCut_closed C (hK.sub rfl) | with_reducible apply State.portDown_closed C (hK.sub rfl) | with_reducible apply State.dmaCut_closed C (hK.sub rfl) | with_reducible apply State.flashStop_closed C (hK.sub rfl) | with_reducible apply each_closed C (hK.sub rfl) | with_reducible apply State.put_closed C (hK.sub rfl) | with_reducible apply closed_ite)

theorem State.gateCut_closed (C : Closed K P) (hK : Sub 0x280fd13bf K) (s : State) (b : Nat) (m : Master) (hP : P s) : P (State.gateCut s b m) := by
  unfold State.gateCut
  try dsimp only
  repeat' (first | with_reducible assumption | with_reducible apply State.gateStop_closed C (hK.sub rfl) | with_reducible apply State.tally_closed C (hK.sub rfl) | with_reducible apply State.emit_closed C (hK.sub rfl) | with_reducible apply closed_ite)

theorem State.gateForce_closed (C : Closed K P) (hK : Sub 0x280fd13bf K) (s : State) (b : Nat) (m : Master) (hP : P s) : P (State.gateForce s b m) := by
  unfold State.gateForce
  try dsimp only
  repeat' (first | with_reducible assumption | with_reducible apply State.gateCut_closed C (hK.sub rfl) | with_reducible apply State.bump_closed C (hK.sub rfl) | with_reducible apply State.put_closed C (hK.sub rfl) | with_reducible apply State.setFld_closed C (hK.sub rfl) | with_reducible apply closed_ite)

theorem State.gatesShut_closed (C : Closed K P) (hK : Sub 0x280fd13bf K) (s : State) (hP : P s) : P (State.gatesShut s) := by
  unfold State.gatesShut
  try dsimp only
  repeat' (first | with_reducible assumption | intro _ | with_reducible apply State.gateStop_closed C (hK.sub rfl) | with_reducible apply each_closed C (hK.sub rfl))

theorem State.laneRegs_closed (C : Closed K P) (hK : Sub 0x1 K) (s : State) (d : Nat) (hP : P s) : P (State.laneRegs s d) := by
  unfold State.laneRegs
  try dsimp only
  repeat' (first | with_reducible assumption | intro _ | with_reducible apply State.resetRegs_closed C (hK.sub rfl) | with_reducible apply State.wr_closed C (hK.sub rfl) | with_reducible apply closed_foldl | with_reducible apply closed_foldl_fst | with_reducible apply closed_ite | with_reducible apply closed_ite_fst)

theorem State.laneDark_closed (C : Closed K P) (hK : Sub 0x20001044f K) (s : State) (n : Nat) (hP : P s) : P (State.laneDark s n) := by
  unfold State.laneDark
  try dsimp only
  repeat' (first | with_reducible assumption | with_reducible exact fun w => w | with_reducible exact fun w => tabWf_clear _ _ w | intro _ | with_reducible apply State.lockOff_closed C (hK.sub rfl) | with_reducible apply State.laneStop_closed C (hK.sub rfl) | with_reducible apply State.trnStop_closed C (hK.sub rfl) | with_reducible apply State.wcapAbort_closed C (hK.sub rfl) | with_reducible apply State.crossReset_closed C (hK.sub rfl) | with_reducible apply State.calAbort_closed C (hK.sub rfl) | with_reducible apply State.seqReset_closed C (hK.sub rfl) | with_reducible apply closed_ite | with_reducible apply C.regs (hK.sub rfl))

theorem State.putDomain_closed (C : Closed K P) (hK : Sub 0x1 K) (s : State) (d : Nat) (on : Bool) (hP : P s) : P (State.putDomain s d on) := by
  unfold State.putDomain
  try dsimp only
  repeat' (first | with_reducible assumption | with_reducible apply State.clrBit_closed C (hK.sub rfl) | with_reducible apply State.setBit_closed C (hK.sub rfl) | with_reducible apply closed_ite)

theorem State.laneDomainDown_closed (C : Closed K P) (hK : Sub 0x20001044f K) (s : State) (d : Nat) (hP : P s) : P (State.laneDomainDown s d) := by
  unfold State.laneDomainDown
  try dsimp only
  repeat' (first | with_reducible assumption | intro _ | with_reducible apply State.putDomain_closed C (hK.sub rfl) | with_reducible apply State.laneDark_closed C (hK.sub rfl) | with_reducible apply State.laneRegs_closed C (hK.sub rfl) | with_reducible apply each_closed C (hK.sub rfl) | with_reducible apply State.setLane_closed C (hK.sub rfl))

theorem State.ltxCauses_closed (C : Closed K P) (hK : Sub 0x20001000f K) (s : State) (n : Nat) (hP : P s) : P (State.ltxCauses s n) := by
  unfold State.ltxCauses
  try dsimp only
  repeat' (first | with_reducible assumption | with_reducible apply State.ltxFault_closed C (hK.sub rfl) | with_reducible apply closed_ite)

theorem State.laneWakes_closed (C : Closed K P) (hK : Sub 0x20001040f K) (s : State) (n : Nat) (hP : P s) : P (State.laneWakes s n) := by
  unfold State.laneWakes
  try dsimp only
  repeat' (first | with_reducible assumption | with_reducible apply State.ltxCauses_closed C (hK.sub rfl) | with_reducible apply State.followWeir_closed C (hK.sub rfl) | with_reducible apply State.crossReady_closed C (hK.sub rfl) | with_reducible apply State.syncHtx_closed C (hK.sub rfl) | with_reducible apply State.put_closed C (hK.sub rfl) | with_reducible apply closed_ite)

theorem State.scrubFrom_closed (C : Closed K P) (hK : Sub 0x1000 K) (s : State) (n : Nat) (hP : P s) : P (State.scrubFrom s n) := by
  unfold State.scrubFrom
  try dsimp only
  repeat' (first | with_reducible assumption | with_reducible exact fun w => w | with_reducible exact fun w => tabWf_put _ _ _ w | exact fun w => w | (intro w; simp only [Integ.wf, Bool.and_eq_true] at w ⊢; simp only [w, tabWf_put, and_self]) | intro _ | with_reducible apply C.integ (hK.sub rfl))

theorem State.laneDomainUp_closed (C : Closed K P) (hK : Sub 0x28001140f K) (s : State) (d : Nat) (hP : P s) : P (State.laneDomainUp s d) := by
  unfold State.laneDomainUp
  try dsimp only
  repeat' (first | with_reducible assumption | intro _ | with_reducible apply State.scrubFrom_closed C (hK.sub rfl) | with_reducible apply State.laneWakes_closed C (hK.sub rfl) | with_reducible apply State.putDomain_closed C (hK.sub rfl) | with_reducible apply State.laneRegs_closed C (hK.sub rfl) | with_reducible apply State.onLane_closed C (hK.sub rfl) | with_reducible apply State.fill_closed C (hK.sub rfl) | with_reducible apply each_closed C (hK.sub rfl) | with_reducible apply closed_ite)

theorem State.portDomainClear_closed (C : Closed K P) (hK : Sub 0x2c6001 K) (s : State) (d : Nat) (hP : P s) : P (State.portDomainClear s d) := by
  have h := State.resetRegs_closed C (hK.sub rfl) s (domainRegs d) hP
  unfold State.portDomainClear
  dsimp only
  refine closed_ite ?_ (closed_ite ?_ ?_)
  · have h := C.dma (hK.sub rfl) (x := []) h fun _ => rfl
    have h := C.pcie (hK.sub rfl) (x := Pcie.init) h fun _ => rfl
    exact h
  · exact C.tow (hK.sub rfl) h fun _ => rfl
  · have h := C.mons (hK.sub rfl) (x := []) h fun _ => rfl
    have h := C.monAt (hK.sub rfl) (x := none) h
    exact h

theorem State.portDomainUp_closed (C : Closed K P) (hK : Sub 0x2c6001 K) (s : State) (d : Nat) (hP : P s) : P (State.portDomainUp s d) := by
  unfold State.portDomainUp
  try dsimp only
  repeat' (first | with_reducible assumption | with_reducible apply State.portDomainClear_closed C (hK.sub rfl) | with_reducible apply State.putDomain_closed C (hK.sub rfl) | with_reducible apply State.monRestart_closed C (hK.sub rfl) | with_reducible apply closed_ite)

theorem State.powerDown_closed (C : Closed K P) (hK : Sub 0x20001044f K) (s : State) (d : Nat) (hP : P s) : P (State.powerDown s d) := by
  unfold State.powerDown
  try dsimp only
  repeat' (first | with_reducible assumption | intro _ | with_reducible apply State.laneDomainDown_closed C (hK.sub rfl) | with_reducible apply closed_ite)

theorem State.powerUp_closed (C : Closed K P) (hK : Sub 0x2802d740f K) (s : State) (d : Nat) (hP : P s) : P (State.powerUp s d) := by
  unfold State.powerUp
  try dsimp only
  repeat' (first | with_reducible assumption | intro _ | with_reducible apply State.portDomainUp_closed C (hK.sub rfl) | with_reducible apply State.laneDomainUp_closed C (hK.sub rfl) | with_reducible apply closed_ite)

theorem State.postFound_closed (C : Closed K P) (hK : Sub 0x1 K) (s : State) (hP : P s) : P (State.postFound s) := by
  unfold State.postFound
  try dsimp only
  repeat' (first | with_reducible assumption | intro _ | with_reducible apply each_closed C (hK.sub rfl) | with_reducible apply State.setBit_closed C (hK.sub rfl) | with_reducible apply State.setFld_closed C (hK.sub rfl) | with_reducible apply State.wr_closed C (hK.sub rfl) | with_reducible apply closed_ite)

theorem State.rateReset_closed (C : Closed K P) (hK : Sub 0x1 K) (s : State) (hP : P s) : P (State.rateReset s) := by
  unfold State.rateReset
  try dsimp only
  repeat' (first | with_reducible assumption | with_reducible apply State.put_closed C (hK.sub rfl) | with_reducible apply closed_ite)

theorem State.supLogic_closed (C : Closed K P) (hK : Sub 0x1a0539ab9 K) (s : State) (hP : P s) : P (State.supLogic s) := by
  have h := State.clearG_closed C (hK.sub rfl) _ 48 (State.lifeCut_closed C (hK.sub rfl) s hP)
  have h := C.sup (hK.sub rfl) (x := { (s.lifeCut.clearG 48).sup with pc := 0#32, wfi := false, lockup := false, halted := false, stepping := false, stall := false }) h
  have h := C.cregs (hK.sub rfl) (x := []) h (fun _ => rfl)
  have h := C.ladders (hK.sub rfl) (x := []) h (fun _ => rfl)
  have h := C.shutdown (hK.sub rfl) (x := 0#6) h
  have h := C.latch (hK.sub rfl) (x := []) h (fun _ => rfl)
  have h := C.therm (hK.sub rfl) (x := Therm.init) h (fun _ => rfl)
  have h := C.perf (hK.sub rfl) (x := Perf.init) h (fun _ => rfl)
  have h := C.flash (hK.sub rfl) (x := none) h
  have h := C.life (hK.sub rfl) (x := { (s.lifeCut.clearG 48).life with run := none }) h
  have h := C.smp (hK.sub rfl) (x := { Smp.init with dyn := (s.lifeCut.clearG 48).smp.dyn }) h
  have h := C.clk (hK.sub rfl) (x := { (s.lifeCut.clearG 48).clk with deep := 0#10, ppsAt := none }) h
  have h := C.integ (hK.sub rfl) (x := { (s.lifeCut.clearG 48).integ with log := [], copy := none, test := none, lapFrom := (s.lifeCut.clearG 48).clock, scrubAt := [], lapAt := [], lapUs := [] }) h (fun w => by
    simp only [Integ.wf, Bool.and_eq_true] at *
    exact ⟨⟨⟨w.1.1.1, rfl⟩, rfl⟩, rfl⟩)
  exact h

theorem State.supRegs_closed (C : Closed K P) (hK : Sub 0x80000003 K) (s : State) (held : Bool) (hP : P s) : P (State.supRegs s held) := by
  unfold State.supRegs
  try dsimp only
  repeat' (first | with_reducible assumption | with_reducible exact fun w => w | with_reducible exact fun w => tabWf_clear _ _ w | intro _ | with_reducible apply State.rateReset_closed C (hK.sub rfl) | with_reducible apply State.onLane_closed C (hK.sub rfl) | with_reducible apply each_closed C (hK.sub rfl) | with_reducible apply State.resetRegs_closed C (hK.sub rfl) | with_reducible apply State.put_closed C (hK.sub rfl) | with_reducible apply State.wr_closed C (hK.sub rfl) | with_reducible apply closed_ite | with_reducible apply C.regs (hK.sub rfl) | with_reducible apply C.mem (hK.sub rfl))

theorem State.bootPath_closed (C : Closed K P) (hK : Sub 0x380011001 K) (s : State) (hP : P s) : P (State.bootPath s) := by
  unfold State.bootPath
  try dsimp only
  repeat' (first | with_reducible assumption | intro _ | with_reducible apply State.bootWait_closed C (hK.sub rfl) | with_reducible apply State.memWrite_closed C (hK.sub rfl) | with_reducible apply closed_foldl | with_reducible apply closed_foldl_fst)

theorem State.supCut_closed (C : Closed K P) (hK : Sub 0x800001 K) (s : State) (hP : P s) : P (State.supCut s).1 := by
  unfold State.supCut
  try dsimp only
  repeat' (first | with_reducible assumption | with_reducible apply State.put_closed C (hK.sub rfl) | with_reducible apply closed_ite | with_reducible apply closed_ite_fst | with_reducible apply C.trans (hK.sub rfl))

theorem State.frozenKept_closed (C : Closed K P) (hK : Sub 0x81 K) (s : State) (old : State) (i : Nat) (hP : P s) : P (State.frozenKept s old i) := by
  unfold State.frozenKept
  try dsimp only
  repeat' (first | with_reducible assumption | with_reducible apply State.setLadder_closed C (hK.sub rfl) | with_reducible apply State.put_closed C (hK.sub rfl) | with_reducible apply State.setFld_closed C (hK.sub rfl) | with_reducible apply closed_ite)

theorem State.resetSup_closed (C : Closed K P) (hK : Sub 0x3a0d39fff K) (s : State) (hP : P s) : P (State.resetSup s) := by
  unfold State.resetSup
  try dsimp only
  repeat' (first | with_reducible assumption | intro _ | with_reducible apply State.frozenKept_closed C (hK.sub rfl) | with_reducible apply State.supCut_closed C (hK.sub rfl) | with_reducible apply State.bootPath_closed C (hK.sub rfl) | with_reducible apply State.supRegs_closed C (hK.sub rfl) | with_reducible apply State.supLogic_closed C (hK.sub rfl) | with_reducible apply State.postFound_closed C (hK.sub rfl) | with_reducible apply State.otpLoad_closed C (hK.sub rfl) | with_reducible apply State.released_closed C (hK.sub rfl) | with_reducible apply State.devClear_closed C (hK.sub rfl) | with_reducible apply State.retrain_closed C (hK.sub rfl) | with_reducible apply State.outcome_closed C (hK.sub rfl) | with_reducible apply State.wcapAbort_closed C (hK.sub rfl) | with_reducible apply State.onLane_closed C (hK.sub rfl) | with_reducible apply State.supPartyReset_closed C (hK.sub rfl) | with_reducible apply each_closed C (hK.sub rfl) | with_reducible apply State.put_closed C (hK.sub rfl) | with_reducible apply State.setFld_closed C (hK.sub rfl) | with_reducible apply closed_foldl | with_reducible apply closed_foldl_fst | with_reducible apply closed_ite | with_reducible apply closed_ite_fst)

theorem State.resetDevice_closed (C : Closed K P) (hK : Sub 0x1f5ffffff K) (s : State) (hP : P s) : P (State.resetDevice s) := by
  have h : P (if s.lifeCut.life.resetDue then s.lifeCut.burnKeys else s.lifeCut) :=
    closed_ite (State.burnKeys_closed C (hK.sub rfl) _ (State.lifeCut_closed C (hK.sub rfl) s hP)) (State.lifeCut_closed C (hK.sub rfl) s hP)
  unfold State.resetDevice
  dsimp only
  refine State.otpLoad_closed C (hK.sub rfl) _ (State.wr_closed C (hK.sub rfl) _ _ _ ?_)
  have h := C.regs (hK.sub rfl) (x := State.reset.regs) h fun _ => rfl
  have h := C.lanes (hK.sub rfl) (x := State.reset.lanes) h fun _ => rfl
  have h := C.seqs (hK.sub rfl) (x := State.reset.seqs) h fun _ => rfl
  have h := C.gpr (hK.sub rfl) (x := State.reset.gpr) h fun _ => rfl
  have h := C.sup (hK.sub rfl) (x := State.reset.sup) h
  have h := C.cregs (hK.sub rfl) (x := State.reset.cregs) h fun _ => rfl
  have h := C.chans (hK.sub rfl) (x := State.reset.chans) h fun _ => rfl
  have h := C.ladders (hK.sub rfl) (x := State.reset.ladders) h fun _ => rfl
  have h := C.faultLog (hK.sub rfl) (x := State.reset.faultLog) h
  have h := C.shutdown (hK.sub rfl) (x := State.reset.shutdown) h
  have h := C.fab (hK.sub rfl) (x := State.reset.fab) h fun _ => rfl
  have h := C.clk (hK.sub rfl) (x := State.reset.clk) h
  have h := C.integ (hK.sub rfl) (x := { Integ.init with lapFrom := (if s.lifeCut.life.resetDue then s.lifeCut.burnKeys else s.lifeCut).clock }) h fun _ => rfl
  have h := C.mons (hK.sub rfl) (x := State.reset.mons) h fun _ => rfl
  have h := C.monAt (hK.sub rfl) (x := State.reset.monAt) h
  have h := C.therm (hK.sub rfl) (x := State.reset.therm) h fun _ => rfl
  have h := C.perf (hK.sub rfl) (x := State.reset.perf) h fun _ => rfl
  have h := C.life (hK.sub rfl) (x := State.reset.life) h
  have h := C.dma (hK.sub rfl) (x := State.reset.dma) h fun _ => rfl
  have h := C.pcie (hK.sub rfl) (x := State.reset.pcie) h fun _ => rfl
  have h := C.smp (hK.sub rfl) (x := State.reset.smp) h
  have h := C.tow (hK.sub rfl) (x := State.reset.tow) h fun _ => rfl
  have h := C.flash (hK.sub rfl) (x := State.reset.flash) h
  have h := C.trans (hK.sub rfl) (x := State.reset.trans) h
  have h := C.dorm (hK.sub rfl) (x := State.reset.dorm) h
  have h := C.tb (hK.sub rfl) (x := State.reset.tb) h
  have h := C.latch (hK.sub rfl) (x := State.reset.latch) h fun _ => rfl
  have h := C.msixDue (hK.sub rfl) (x := State.reset.msixDue) h
  have h := C.mem (hK.sub rfl) h fun w => tabWfFrom_filter (fun c => inOtp c.1) _ _ w
  exact h

theorem State.sample_closed (C : Closed K P) (hK : Sub 0x2000001 K) (s : State) (frm : Bool) (boot addr : Nat) (hP : P s) : P (State.sample s frm boot addr) := by
  unfold State.sample
  try dsimp only
  repeat' (first | with_reducible assumption | with_reducible apply State.rateReset_closed C (hK.sub rfl) | with_reducible apply State.put_closed C (hK.sub rfl) | with_reducible apply C.pins (hK.sub rfl))

theorem State.rateAon_closed (C : Closed K P) (hK : Sub 0x1 K) (s : State) (hP : P s) : P (State.rateAon s) := by
  unfold State.rateAon
  try dsimp only
  repeat' (first | with_reducible assumption | with_reducible apply State.put_closed C (hK.sub rfl) | with_reducible apply closed_ite)

theorem State.railOk_closed (C : Closed K P) (hK : Sub 0x100000000 K) (s : State) (mv : Nat) (hP : P s) : P (State.railOk s mv).1 := by
  unfold State.railOk
  try dsimp only
  repeat' (first | with_reducible assumption | with_reducible apply State.use_closed C (hK.sub rfl) | with_reducible apply closed_ite | with_reducible apply closed_ite_fst)

theorem State.powerHeld_closed (C : Closed K P) (hK : Sub 0x1 K) (s : State) (hP : P s) : P (State.powerHeld s) := by
  unfold State.powerHeld
  try dsimp only
  repeat' (first | with_reducible assumption | with_reducible apply State.wr_closed C (hK.sub rfl))

theorem State.powerOn_closed (C : Closed K P) (hK : Sub 0x1f7ffffff K) (s : State) (v : Supplies) (frm : Bool) (boot addr : Nat) (hP : P s) : P (State.powerOn s v frm boot addr) := by
  unfold State.powerOn
  try dsimp only
  repeat' (first | with_reducible assumption | with_reducible apply State.powerHeld_closed C (hK.sub rfl) | with_reducible apply State.railOk_closed C (hK.sub rfl) | with_reducible apply State.rateAon_closed C (hK.sub rfl) | with_reducible apply State.sample_closed C (hK.sub rfl) | with_reducible apply State.resetDevice_closed C (hK.sub rfl) | with_reducible apply State.wr_closed C (hK.sub rfl) | with_reducible apply closed_ite | with_reducible apply closed_ite_fst | with_reducible apply C.supply (hK.sub rfl))

theorem State.pinReset_closed (C : Closed K P) (hK : Sub 0x1f7ffffff K) (s : State) (us : Nat) (frm : Bool) (boot addr : Nat) (hP : P s) : P (State.pinReset s us frm boot addr) := by
  unfold State.pinReset
  try dsimp only
  repeat' (first | with_reducible assumption | with_reducible apply State.rateAon_closed C (hK.sub rfl) | with_reducible apply State.sample_closed C (hK.sub rfl) | with_reducible apply State.resetDevice_closed C (hK.sub rfl) | with_reducible apply State.put_closed C (hK.sub rfl) | with_reducible apply closed_ite)

theorem State.commandReset_closed (C : Closed K P) (hK : Sub 0x1f5ffffff K) (s : State) (hP : P s) : P (State.commandReset s) := by
  unfold State.commandReset
  try dsimp only
  repeat' (first | with_reducible assumption | with_reducible apply State.rateAon_closed C (hK.sub rfl) | with_reducible apply State.resetDevice_closed C (hK.sub rfl) | with_reducible apply State.rateReset_closed C (hK.sub rfl) | with_reducible apply State.put_closed C (hK.sub rfl) | with_reducible apply State.wr_closed C (hK.sub rfl))

theorem State.resetWrite_closed (C : Closed K P) (hK : Sub 0x3f5ffffff K) (s : State) (m : Master) (v : Word) (hP : P s) : P (State.resetWrite s m v).1 := by
  unfold State.resetWrite
  try dsimp only
  repeat' (first | with_reducible assumption | with_reducible apply State.commandReset_closed C (hK.sub rfl) | with_reducible apply State.resetSup_closed C (hK.sub rfl) | with_reducible apply closed_ite | with_reducible apply closed_ite_fst | with_reducible apply C.sup (hK.sub rfl))

theorem State.hostParties_closed (C : Closed K P) (hK : Sub 0x41 K) (s : State) (hP : P s) : P (State.hostParties s) := by
  unfold State.hostParties
  try dsimp only
  repeat' (first | with_reducible assumption | with_reducible apply State.partyReset_closed C (hK.sub rfl) | with_reducible apply State.wr_closed C (hK.sub rfl))

theorem State.resetPcie_closed (C : Closed K P) (hK : Sub 0x802d7041 K) (s : State) (kind : Nat) (hP : P s) : P (State.resetPcie s kind) := by
  unfold State.resetPcie
  try dsimp only
  repeat' (first | with_reducible assumption | intro _ | with_reducible apply State.hostParties_closed C (hK.sub rfl) | with_reducible apply State.portDomainClear_closed C (hK.sub rfl) | with_reducible apply State.dmaCut_closed C (hK.sub rfl) | with_reducible apply each_closed C (hK.sub rfl) | with_reducible apply State.put_closed C (hK.sub rfl) | with_reducible apply State.wr_closed C (hK.sub rfl) | with_reducible apply closed_ite)

theorem State.monAwake_closed (C : Closed K P) (hK : Sub 0x1 K) (s : State) (hP : P s) : P (State.monAwake s) := by
  unfold State.monAwake
  try dsimp only
  repeat' (first | with_reducible assumption | with_reducible apply State.bump_closed C (hK.sub rfl) | with_reducible apply State.setBit_closed C (hK.sub rfl))

theorem State.lapStart_closed (C : Closed K P) (hK : Sub 0x1000 K) (s : State) (hP : P s) : P (State.lapStart s) := by
  refine C.integ (hK.sub rfl) hP fun w => ?_
  have put (l : List Nat) (t : List (Nat × Nat)) (v : Nat) (h : tabWf (fun _ => 0) t = true) :
      tabWf (fun _ => 0) (l.foldl (fun t k => tabPut (fun _ => 0) t k v) t) = true := by
    induction l generalizing t with
    | nil => exact h
    | cons k l ih => exact ih _ (tabWf_put _ _ _ h)
  simp only [Integ.wf, Bool.and_eq_true] at w ⊢
  exact ⟨⟨⟨w.1.1.1, w.1.1.2⟩, put _ _ _ w.1.2⟩, w.2⟩

theorem State.otpThere_closed (C : Closed K P) (hK : Sub 0x180000001 K) (s : State) (hP : P s) : P (State.otpThere s) := by
  unfold State.otpThere
  try dsimp only
  repeat' (first | with_reducible assumption | with_reducible apply State.otpLoad_closed C (hK.sub rfl) | with_reducible apply closed_ite)

theorem State.fillDone_closed (C : Closed K P) (hK : Sub 0x38081139f K) (s : State) (rom : Bool) (hP : P s) : P (State.fillDone s rom) := by
  unfold State.fillDone
  try dsimp only
  repeat' (first | with_reducible assumption | with_reducible apply State.otpThere_closed C (hK.sub rfl) | with_reducible apply State.lapStart_closed C (hK.sub rfl) | with_reducible apply State.monAwake_closed C (hK.sub rfl) | with_reducible apply State.released_closed C (hK.sub rfl) | with_reducible apply State.devRaise_closed C (hK.sub rfl) | with_reducible apply State.fill_closed C (hK.sub rfl) | with_reducible apply State.put_closed C (hK.sub rfl) | with_reducible apply closed_ite | with_reducible apply C.sup (hK.sub rfl))

theorem State.postBank_closed (C : Closed K P) (hK : Sub 0x80001001 K) (s : State) (t : Nat) (hP : P s) : P (State.postBank s t) := by
  unfold State.postBank
  try dsimp only
  repeat' (first | with_reducible assumption | with_reducible apply State.useSpare_closed C (hK.sub rfl) | with_reducible apply State.remove_closed C (hK.sub rfl) | with_reducible apply State.put_closed C (hK.sub rfl) | with_reducible apply State.setFld_closed C (hK.sub rfl) | with_reducible apply closed_ite)

theorem State.postRow_closed (C : Closed K P) (hK : Sub 0x80001001 K) (s : State) (n row : Nat) (hP : P s) : P (State.postRow s n row) := by
  unfold State.postRow
  try dsimp only
  repeat' (first | with_reducible assumption | with_reducible apply State.useSpare_closed C (hK.sub rfl) | with_reducible apply State.remove_closed C (hK.sub rfl) | with_reducible apply State.put_closed C (hK.sub rfl) | with_reducible apply State.setFld_closed C (hK.sub rfl) | with_reducible apply closed_ite)

theorem State.postLane_closed (C : Closed K P) (hK : Sub 0x1 K) (s : State) (n : Nat) (hP : P s) : P (State.postLane s n) := by
  unfold State.postLane
  try dsimp only
  repeat' (first | with_reducible assumption | with_reducible apply State.putOos_closed C (hK.sub rfl) | with_reducible apply State.setBit_closed C (hK.sub rfl) | with_reducible apply closed_ite)

theorem State.postDone_closed (C : Closed K P) (hK : Sub 0x380011001 K) (s : State) (r : PostResult) (hP : P s) : P (State.postDone s r) := by
  unfold State.postDone
  try dsimp only
  repeat' (first | with_reducible assumption | with_reducible exact fun w => w | exact fun w => w | intro _ | with_reducible apply State.postLane_closed C (hK.sub rfl) | with_reducible apply State.postRow_closed C (hK.sub rfl) | with_reducible apply State.postBank_closed C (hK.sub rfl) | with_reducible apply State.bootPath_closed C (hK.sub rfl) | with_reducible apply State.postFound_closed C (hK.sub rfl) | with_reducible apply State.fill_closed C (hK.sub rfl) | with_reducible apply each_closed C (hK.sub rfl) | with_reducible apply State.setBit_closed C (hK.sub rfl) | with_reducible apply State.setFld_closed C (hK.sub rfl) | with_reducible apply State.wr_closed C (hK.sub rfl) | with_reducible apply closed_foldl | with_reducible apply closed_foldl_fst | with_reducible apply closed_ite | with_reducible apply closed_ite_fst | with_reducible apply C.integ (hK.sub rfl))

theorem State.wakeClear_closed (C : Closed K P) (hK : Sub 0x1004900 K) (s : State) (hP : P s) : P (State.wakeClear s) := by
  have h := hP
  have h := C.faultLog (hK.sub rfl) (x := []) h
  have h := C.clk (hK.sub rfl) (x := Clocks.init) h
  have h := C.monAt (hK.sub rfl) (x := none) h
  have h := C.dorm (hK.sub rfl) (x := { s.dorm with phase := .waking }) h
  exact h

theorem State.wakeSup_closed (C : Closed K P) (hK : Sub 0x1a153dbbb K) (s : State) (hP : P s) : P (State.wakeSup s) := by
  unfold State.wakeSup
  try dsimp only
  repeat' (first | with_reducible assumption | with_reducible apply State.wakeClear_closed C (hK.sub rfl) | with_reducible apply State.supRegs_closed C (hK.sub rfl) | with_reducible apply State.supLogic_closed C (hK.sub rfl) | with_reducible apply State.postFound_closed C (hK.sub rfl) | with_reducible apply State.putDomain_closed C (hK.sub rfl) | with_reducible apply State.otpLoad_closed C (hK.sub rfl) | with_reducible apply State.put_closed C (hK.sub rfl) | with_reducible apply closed_ite)

theorem State.wakeUp_closed (C : Closed K P) (hK : Sub 0x1a153dbbb K) (s : State) (hP : P s) : P (State.wakeUp s) := by
  unfold State.wakeUp
  try dsimp only
  repeat' (first | with_reducible assumption | with_reducible apply State.wakeSup_closed C (hK.sub rfl) | with_reducible apply State.released_closed C (hK.sub rfl) | with_reducible apply State.memRead_closed C (hK.sub rfl) | with_reducible apply State.put_closed C (hK.sub rfl) | with_reducible apply closed_ite | with_reducible apply closed_ite_fst | with_reducible apply C.sup (hK.sub rfl))

theorem State.wakeCause_closed (C : Closed K P) (hK : Sub 0x1 K) (s : State) (b : Nat) (hP : P s) : P (State.wakeCause s b) := by
  unfold State.wakeCause
  try dsimp only
  repeat' (first | with_reducible assumption | with_reducible apply State.setBit_closed C (hK.sub rfl))

theorem State.wakeFirst_closed (C : Closed K P) (hK : Sub 0x1 K) (s : State) (b : Nat) (hP : P s) : P (State.wakeFirst s b) := by
  unfold State.wakeFirst
  try dsimp only
  repeat' (first | with_reducible assumption | with_reducible apply State.put_closed C (hK.sub rfl) | with_reducible apply State.setFld_closed C (hK.sub rfl))

theorem State.wakeSource_closed (C : Closed K P) (hK : Sub 0x1a153dbbb K) (s : State) (b : Nat) (hP : P s) : P (State.wakeSource s b) := by
  unfold State.wakeSource
  try dsimp only
  repeat' (first | with_reducible assumption | with_reducible apply State.wakeFirst_closed C (hK.sub rfl) | with_reducible apply State.wakeCause_closed C (hK.sub rfl) | with_reducible apply State.wakeUp_closed C (hK.sub rfl) | with_reducible apply State.put_closed C (hK.sub rfl) | with_reducible apply closed_ite | split | with_reducible apply C.dorm (hK.sub rfl))

theorem State.fallAsleep_closed (C : Closed K P) (hK : Sub 0x1000010 K) (s : State) (hP : P s) : P (State.fallAsleep s) := by
  have h := hP
  have h := C.sup (hK.sub rfl) (x := { s.sup with released := false }) h
  have h := C.dorm (hK.sub rfl) (x := { s.dorm with phase := .asleep, pending := false }) h
  exact h

theorem State.sleep_closed (C : Closed K P) (hK : Sub 0x3a1fffbbf K) (s : State) (hP : P s) : P (State.sleep s) := by
  unfold State.sleep
  try dsimp only
  repeat' (first | with_reducible assumption | intro _ | with_reducible apply State.fallAsleep_closed C (hK.sub rfl) | with_reducible apply State.wakeUp_closed C (hK.sub rfl) | with_reducible apply State.portDomainClear_closed C (hK.sub rfl) | with_reducible apply State.putDomain_closed C (hK.sub rfl) | with_reducible apply State.gatesShut_closed C (hK.sub rfl) | with_reducible apply State.transEnd_closed C (hK.sub rfl) | with_reducible apply State.takeWaiting_closed C (hK.sub rfl) | with_reducible apply State.openedAsleep_closed C (hK.sub rfl) | with_reducible apply State.put_closed C (hK.sub rfl) | with_reducible apply State.setFld_closed C (hK.sub rfl) | with_reducible apply closed_foldl | with_reducible apply closed_foldl_fst | with_reducible apply closed_ite | with_reducible apply C.dorm (hK.sub rfl))

theorem State.wakePin_closed (C : Closed K P) (hK : Sub 0x1a153dbbb K) (s : State) (ns : Nat) (hP : P s) : P (State.wakePin s ns) := by
  unfold State.wakePin
  try dsimp only
  repeat' (first | with_reducible assumption | with_reducible apply State.wakeSource_closed C (hK.sub rfl) | with_reducible apply State.use_closed C (hK.sub rfl) | with_reducible apply closed_ite)

theorem State.activity_closed (C : Closed K P) (hK : Sub 0x100000000 K) (s : State) (hi mv : Nat) (hP : P s) : P (State.activity s hi mv).1 := by
  unfold State.activity
  try dsimp only
  repeat' (first | with_reducible assumption | with_reducible apply State.use_closed C (hK.sub rfl) | with_reducible apply closed_ite | with_reducible apply closed_ite_fst)

theorem State.energy_closed (C : Closed K P) (hK : Sub 0x1a153dbbb K) (s : State) (sig : Fld) (hi mv b : Nat) (hP : P s) : P (State.energy s sig hi mv b) := by
  unfold State.energy
  try dsimp only
  repeat' (first | with_reducible assumption | with_reducible apply State.activity_closed C (hK.sub rfl) | with_reducible apply State.wakeSource_closed C (hK.sub rfl) | with_reducible apply State.put_closed C (hK.sub rfl) | with_reducible apply closed_ite | with_reducible apply closed_ite_fst)

theorem State.modeWrite_closed (C : Closed K P) (hK : Sub 0x20081058f K) (s : State) (m : Master) (off : Nat) (v : Word) (hP : P s) : P (State.modeWrite s m off v).1 := by
  unfold State.modeWrite
  try dsimp only
  repeat' (first | with_reducible assumption | with_reducible apply State.plainWrite_closed C (hK.sub rfl) | with_reducible apply State.claimWrite_closed C (hK.sub rfl) | with_reducible apply State.oosWrite_closed C (hK.sub rfl) | with_reducible apply State.request_closed C (hK.sub rfl) | with_reducible apply State.put_closed C (hK.sub rfl) | with_reducible apply closed_ite | with_reducible apply closed_ite_fst)

theorem State.clkWrite_closed (C : Closed K P) (hK : Sub 0x200210801 K) (s : State) (m : Master) (off : Nat) (v : Word) (hP : P s) : P (State.clkWrite s m off v).1 := by
  unfold State.clkWrite
  try dsimp only
  repeat' (first | with_reducible assumption | with_reducible apply State.gateSwitch_closed C (hK.sub rfl) | with_reducible apply State.plainWrite_closed C (hK.sub rfl) | with_reducible apply State.sourceSelect_closed C (hK.sub rfl) | with_reducible apply closed_ite | with_reducible apply closed_ite_fst)

theorem State.pwrWrite_closed (C : Closed K P) (hK : Sub 0x3f5ffffff K) (s : State) (m : Master) (off : Nat) (v : Word) (hP : P s) : P (State.pwrWrite s m off v).1 := by
  unfold State.pwrWrite
  try dsimp only
  repeat' (first | with_reducible assumption | intro _ | with_reducible apply State.resetWrite_closed C (hK.sub rfl) | with_reducible apply State.only_closed C (hK.sub rfl) | with_reducible apply State.plainWrite_closed C (hK.sub rfl) | with_reducible apply closed_ite | with_reducible apply closed_ite_fst)

theorem State.timeWrite_closed (C : Closed K P) (hK : Sub 0x10000801 K) (s : State) (m : Master) (off : Nat) (v : Word) (hP : P s) : P (State.timeWrite s m off v).1 := by
  unfold State.timeWrite
  try dsimp only
  repeat' (first | with_reducible assumption | with_reducible apply State.plainWrite_closed C (hK.sub rfl) | with_reducible apply State.gtCmpWrite_closed C (hK.sub rfl) | with_reducible apply State.gtCtl_closed C (hK.sub rfl) | with_reducible apply State.timeCtl_closed C (hK.sub rfl) | with_reducible apply closed_ite | with_reducible apply closed_ite_fst)

theorem State.memxWrite_closed (C : Closed K P) (hK : Sub 0x80011001 K) (s : State) (m : Master) (off : Nat) (v : Word) (hP : P s) : P (State.memxWrite s m off v).1 := by
  unfold State.memxWrite
  try dsimp only
  repeat' (first | with_reducible assumption | intro _ | with_reducible apply State.only_closed C (hK.sub rfl) | with_reducible apply State.plainWrite_closed C (hK.sub rfl) | with_reducible apply State.memxRetire_closed C (hK.sub rfl) | with_reducible apply State.memxClr_closed C (hK.sub rfl) | with_reducible apply State.memxPop_closed C (hK.sub rfl) | with_reducible apply closed_ite | with_reducible apply closed_ite_fst)

theorem State.bistWrite_closed (C : Closed K P) (hK : Sub 0x80011001 K) (s : State) (m : Master) (off : Nat) (v : Word) (hP : P s) : P (State.bistWrite s m off v).1 := by
  unfold State.bistWrite
  try dsimp only
  repeat' (first | with_reducible assumption | with_reducible apply State.plainWrite_closed C (hK.sub rfl) | with_reducible apply State.bistCmd_closed C (hK.sub rfl) | with_reducible apply closed_ite | with_reducible apply closed_ite_fst)

theorem State.thermWrite_closed (C : Closed K P) (hK : Sub 0x8001 K) (s : State) (m : Master) (off : Nat) (v : Word) (hP : P s) : P (State.thermWrite s m off v).1 := by
  unfold State.thermWrite
  try dsimp only
  repeat' (first | with_reducible assumption | intro _ | with_reducible apply State.only_closed C (hK.sub rfl) | with_reducible apply State.plainWrite_closed C (hK.sub rfl) | with_reducible apply State.peakWrite_closed C (hK.sub rfl) | with_reducible apply State.threshWrite_closed C (hK.sub rfl) | with_reducible apply State.thermAck_closed C (hK.sub rfl) | with_reducible apply State.brokenWrite_closed C (hK.sub rfl) | with_reducible apply closed_ite | with_reducible apply closed_ite_fst)

theorem State.monWrite_closed (C : Closed K P) (hK : Sub 0x20081648f K) (s : State) (m : Master) (off : Nat) (v : Word) (hP : P s) : P (State.monWrite s m off v).1 := by
  unfold State.monWrite
  try dsimp only
  repeat' (first | with_reducible assumption | intro _ | with_reducible apply State.only_closed C (hK.sub rfl) | with_reducible apply State.plainWrite_closed C (hK.sub rfl) | with_reducible apply State.coefWrite_closed C (hK.sub rfl) | with_reducible apply State.monConfig_closed C (hK.sub rfl) | with_reducible apply State.monCtl_closed C (hK.sub rfl) | with_reducible apply State.weirWrite_closed C (hK.sub rfl) | with_reducible apply closed_ite | with_reducible apply closed_ite_fst)

theorem State.faultWrite_closed (C : Closed K P) (hK : Sub 0x20081078f K) (s : State) (m : Master) (off : Nat) (v : Word) (hP : P s) : P (State.faultWrite s m off v).1 := by
  unfold State.faultWrite
  try dsimp only
  repeat' (first | with_reducible assumption | intro _ | with_reducible apply State.only_closed C (hK.sub rfl) | with_reducible apply State.plainWrite_closed C (hK.sub rfl) | with_reducible apply State.faultPop_closed C (hK.sub rfl) | with_reducible apply State.devClrWrite_closed C (hK.sub rfl) | with_reducible apply State.declare_closed C (hK.sub rfl) | with_reducible apply State.stepWrite_closed C (hK.sub rfl) | with_reducible apply State.faultReport_closed C (hK.sub rfl) | with_reducible apply closed_ite | with_reducible apply closed_ite_fst)

theorem State.fabWrite_closed (C : Closed K P) (hK : Sub 0x401 K) (s : State) (off : Nat) (v : Word) (hP : P s) : P (State.fabWrite s off v).1 := by
  unfold State.fabWrite
  try dsimp only
  repeat' (first | with_reducible assumption | intro _ | with_reducible apply State.plainWrite_closed C (hK.sub rfl) | with_reducible apply State.targetWrite_closed C (hK.sub rfl) | with_reducible apply State.lowClear_closed C (hK.sub rfl) | with_reducible apply each_closed C (hK.sub rfl) | with_reducible apply State.put_closed C (hK.sub rfl) | with_reducible apply closed_ite | with_reducible apply closed_ite_fst)

theorem State.bankOffset_closed (C : Closed K P) (hK : Sub 0x1 K) (s : State) (n off : Nat) (v : Word) (hP : P s) : P (State.bankOffset s n off v).1 := by
  unfold State.bankOffset
  try dsimp only
  repeat' (first | with_reducible assumption | with_reducible apply State.bankWrite_closed C (hK.sub rfl))

theorem State.bankReg_closed (C : Closed K P) (hK : Sub 0x200010001 K) (s : State) (n : Nat) (v : Word) (hP : P s) : P (State.bankReg s n v).1 := by
  unfold State.bankReg
  try dsimp only
  repeat' (first | with_reducible assumption | with_reducible apply State.plainWrite_closed C (hK.sub rfl) | with_reducible apply State.bankCommit_closed C (hK.sub rfl) | with_reducible apply closed_ite | with_reducible apply closed_ite_fst)

theorem State.lrxWrite_closed (C : Closed K P) (hK : Sub 0x20081058f K) (s : State) (m : Master) (n off : Nat) (v : Word) (hP : P s) : P (State.lrxWrite s m n off v).1 := by
  unfold State.lrxWrite
  try dsimp only
  repeat' (first | with_reducible assumption | with_reducible apply State.plainWrite_closed C (hK.sub rfl) | with_reducible apply State.trnCtl_closed C (hK.sub rfl) | with_reducible apply State.rsCtl_closed C (hK.sub rfl) | with_reducible apply State.cwCtl_closed C (hK.sub rfl) | with_reducible apply State.wcapStart_closed C (hK.sub rfl) | with_reducible apply State.acqCmd_closed C (hK.sub rfl) | with_reducible apply State.corrWrite_closed C (hK.sub rfl) | with_reducible apply closed_ite | with_reducible apply closed_ite_fst)

theorem State.ltxWrite_closed (C : Closed K P) (hK : Sub 0x20081048f K) (s : State) (n off : Nat) (v : Word) (hP : P s) : P (State.ltxWrite s n off v).1 := by
  unfold State.ltxWrite
  try dsimp only
  repeat' (first | with_reducible assumption | with_reducible apply State.plainWrite_closed C (hK.sub rfl) | with_reducible apply State.rsCtl_closed C (hK.sub rfl) | with_reducible apply State.cwInjWrite_closed C (hK.sub rfl) | with_reducible apply State.causeClear_closed C (hK.sub rfl) | with_reducible apply State.biasWrite_closed C (hK.sub rfl) | with_reducible apply State.ltxCtl_closed C (hK.sub rfl) | with_reducible apply State.patInject_closed C (hK.sub rfl) | with_reducible apply closed_ite | with_reducible apply closed_ite_fst)

theorem State.hrxWrite_closed (C : Closed K P) (hK : Sub 0x3 K) (s : State) (n off : Nat) (v : Word) (hP : P s) : P (State.hrxWrite s n off v).1 := by
  unfold State.hrxWrite
  try dsimp only
  repeat' (first | with_reducible assumption | with_reducible apply State.plainWrite_closed C (hK.sub rfl) | with_reducible apply State.corrWrite_closed C (hK.sub rfl) | with_reducible apply closed_ite | with_reducible apply closed_ite_fst)

theorem State.htxWrite_closed (C : Closed K P) (hK : Sub 0x3 K) (s : State) (n off : Nat) (v : Word) (hP : P s) : P (State.htxWrite s n off v).1 := by
  unfold State.htxWrite
  try dsimp only
  repeat' (first | with_reducible assumption | with_reducible apply State.plainWrite_closed C (hK.sub rfl) | with_reducible apply State.patInject_closed C (hK.sub rfl) | with_reducible apply State.htxSquelch_closed C (hK.sub rfl) | with_reducible apply closed_ite | with_reducible apply closed_ite_fst)

theorem State.laneWrite_closed (C : Closed K P) (hK : Sub 0x2008105cf K) (s : State) (m : Master) (b : Block) (n off : Nat) (v : Word) (hP : P s) : P (State.laneWrite s m b n off v).1 := by
  unfold State.laneWrite
  try dsimp only
  repeat' (first | with_reducible assumption | with_reducible apply State.htxWrite_closed C (hK.sub rfl) | with_reducible apply State.hrxWrite_closed C (hK.sub rfl) | with_reducible apply State.ltxWrite_closed C (hK.sub rfl) | with_reducible apply State.lrxWrite_closed C (hK.sub rfl) | with_reducible apply State.bankReg_closed C (hK.sub rfl) | with_reducible apply State.bankOffset_closed C (hK.sub rfl) | with_reducible apply State.seqWrite_closed C (hK.sub rfl) | with_reducible apply State.fault_closed C (hK.sub rfl) | with_reducible apply closed_ite | with_reducible apply closed_ite_fst | split)

theorem State.regWrite_closed (C : Closed K P) (hK : Sub 0x3f5ffffff K) (s : State) (m : Master) (p : Place) (v : Word) (hP : P s) : P (State.regWrite s m p v).1 := by
  unfold State.regWrite
  try dsimp only
  repeat' (first | with_reducible assumption | intro _ | with_reducible apply State.laneWrite_closed C (hK.sub rfl) | with_reducible apply State.fabWrite_closed C (hK.sub rfl) | with_reducible apply State.faultWrite_closed C (hK.sub rfl) | with_reducible apply State.monWrite_closed C (hK.sub rfl) | with_reducible apply State.thermWrite_closed C (hK.sub rfl) | with_reducible apply State.bistWrite_closed C (hK.sub rfl) | with_reducible apply State.memxWrite_closed C (hK.sub rfl) | with_reducible apply State.timeWrite_closed C (hK.sub rfl) | with_reducible apply State.pwrWrite_closed C (hK.sub rfl) | with_reducible apply State.clkWrite_closed C (hK.sub rfl) | with_reducible apply State.modeWrite_closed C (hK.sub rfl) | with_reducible apply State.towWrite_closed C (hK.sub rfl) | with_reducible apply State.dmaWrite_closed C (hK.sub rfl) | with_reducible apply State.flashWrite_closed C (hK.sub rfl) | with_reducible apply State.lifeWrite_closed C (hK.sub rfl) | with_reducible apply State.perfWrite_closed C (hK.sub rfl) | with_reducible apply State.irqWrite_closed C (hK.sub rfl) | with_reducible apply State.mboxWrite_closed C (hK.sub rfl) | with_reducible apply State.only_closed C (hK.sub rfl) | with_reducible apply State.plainWrite_closed C (hK.sub rfl) | with_reducible apply State.calCmd_closed C (hK.sub rfl) | with_reducible apply State.fault_closed C (hK.sub rfl) | with_reducible apply closed_ite | with_reducible apply closed_ite_fst | split)

theorem State.plainOk_closed (C : Closed K P) (hK : Sub 0x1 K) (s : State) (a : Nat) (hP : P s) : P (State.plainOk s a).1 := by
  unfold State.plainOk
  try dsimp only
  repeat' (first | with_reducible assumption | with_reducible apply State.plainRead_closed C (hK.sub rfl))

theorem State.clkRead_closed (C : Closed K P) (hK : Sub 0x1 K) (s : State) (off : Nat) (hP : P s) : P (State.clkRead s off).1 := by
  unfold State.clkRead
  try dsimp only
  repeat' (first | with_reducible assumption | with_reducible apply State.plainOk_closed C (hK.sub rfl) | with_reducible apply closed_ite | with_reducible apply closed_ite_fst)

theorem State.timeRead_closed (C : Closed K P) (hK : Sub 0x20000001 K) (s : State) (m : Master) (off : Nat) (hP : P s) : P (State.timeRead s m off).1 := by
  unfold State.timeRead
  try dsimp only
  repeat' (first | with_reducible assumption | with_reducible apply State.plainOk_closed C (hK.sub rfl) | with_reducible apply State.tbLow_closed C (hK.sub rfl) | with_reducible apply closed_ite | with_reducible apply closed_ite_fst)

theorem State.memxRead_closed (C : Closed K P) (hK : Sub 0x1 K) (s : State) (m : Master) (off : Nat) (hP : P s) : P (State.memxRead s m off).1 := by
  unfold State.memxRead
  try dsimp only
  repeat' (first | with_reducible assumption | with_reducible apply State.plainOk_closed C (hK.sub rfl) | with_reducible apply closed_ite | with_reducible apply closed_ite_fst)

theorem State.thermRead_closed (C : Closed K P) (hK : Sub 0x8001 K) (s : State) (off : Nat) (hP : P s) : P (State.thermRead s off).1 := by
  unfold State.thermRead
  try dsimp only
  repeat' (first | with_reducible assumption | with_reducible apply State.plainOk_closed C (hK.sub rfl) | with_reducible apply State.throtTime_closed C (hK.sub rfl) | with_reducible apply closed_ite | with_reducible apply closed_ite_fst)

theorem State.monRead_closed (C : Closed K P) (hK : Sub 0x2001 K) (s : State) (off : Nat) (hP : P s) : P (State.monRead s off).1 := by
  unfold State.monRead
  try dsimp only
  repeat' (first | with_reducible assumption | with_reducible apply State.plainOk_closed C (hK.sub rfl) | with_reducible apply State.accRead_closed C (hK.sub rfl) | with_reducible apply closed_ite | with_reducible apply closed_ite_fst)

theorem State.faultRead_closed (C : Closed K P) (hK : Sub 0x1 K) (s : State) (off : Nat) (hP : P s) : P (State.faultRead s off).1 := by
  unfold State.faultRead
  try dsimp only
  repeat' (first | with_reducible assumption | with_reducible apply State.plainOk_closed C (hK.sub rfl) | with_reducible apply closed_ite | with_reducible apply closed_ite_fst)

theorem State.fabRead_closed (C : Closed K P) (hK : Sub 0x1 K) (s : State) (off : Nat) (hP : P s) : P (State.fabRead s off).1 := by
  unfold State.fabRead
  try dsimp only
  repeat' (first | with_reducible assumption | intro _ | with_reducible apply State.plainOk_closed C (hK.sub rfl) | with_reducible apply closed_foldl | with_reducible apply closed_foldl_fst | with_reducible apply closed_ite | with_reducible apply closed_ite_fst)

theorem State.lineRead_closed (C : Closed K P) (hK : Sub 0x3 K) (s : State) (n off : Nat) (hP : P s) : P (State.lineRead s n off).1 := by
  unfold State.lineRead
  try dsimp only
  repeat' (first | with_reducible assumption | with_reducible apply State.plainOk_closed C (hK.sub rfl) | with_reducible apply State.rxfRead_closed C (hK.sub rfl) | with_reducible apply closed_ite | with_reducible apply closed_ite_fst)

theorem State.regRead_closed (C : Closed K P) (hK : Sub 0x12000a043 K) (s : State) (m : Master) (p : Place) (hP : P s) : P (State.regRead s m p).1 := by
  unfold State.regRead
  try dsimp only
  repeat' (first | with_reducible assumption | with_reducible apply State.lineRead_closed C (hK.sub rfl) | with_reducible apply State.fabRead_closed C (hK.sub rfl) | with_reducible apply State.faultRead_closed C (hK.sub rfl) | with_reducible apply State.monRead_closed C (hK.sub rfl) | with_reducible apply State.thermRead_closed C (hK.sub rfl) | with_reducible apply State.memxRead_closed C (hK.sub rfl) | with_reducible apply State.timeRead_closed C (hK.sub rfl) | with_reducible apply State.clkRead_closed C (hK.sub rfl) | with_reducible apply State.plainOk_closed C (hK.sub rfl) | with_reducible apply State.towRead_closed C (hK.sub rfl) | with_reducible apply State.flashRead_closed C (hK.sub rfl) | with_reducible apply State.lifeRead_closed C (hK.sub rfl) | with_reducible apply State.perfRead_closed C (hK.sub rfl) | with_reducible apply State.irqRead_closed C (hK.sub rfl) | with_reducible apply State.mboxRead_closed C (hK.sub rfl) | with_reducible apply State.fault_closed C (hK.sub rfl) | with_reducible apply closed_ite | with_reducible apply closed_ite_fst | split)

theorem State.regPut_closed (C : Closed K P) (hK : Sub 0x3f5ffffff K) (s : State) (m : Master) (a : Nat) (v : Word) (hP : P s) : P (State.regPut s m a v).1 := by
  unfold State.regPut
  try dsimp only
  repeat' (first | with_reducible assumption | intro _ | with_reducible apply State.regWrite_closed C (hK.sub rfl) | with_reducible apply State.onBus_closed C (hK.sub rfl) | split)

theorem State.regGet_closed (C : Closed K P) (hK : Sub 0x12001a043 K) (s : State) (m : Master) (a : Nat) (hP : P s) : P (State.regGet s m a).1 := by
  unfold State.regGet
  try dsimp only
  repeat' (first | with_reducible assumption | intro _ | with_reducible apply State.regRead_closed C (hK.sub rfl) | with_reducible apply State.onBusRead_closed C (hK.sub rfl) | split)

theorem State.areaRead_closed (C : Closed K P) (hK : Sub 0x80011001 K) (s : State) (m : Master) (r : Reader) (g : Region) (a n : Nat) (hP : P s) : P (State.areaRead s m r g a n).1 := by
  unfold State.areaRead
  try dsimp only
  repeat' (first | with_reducible assumption | intro _ | with_reducible apply State.broadcast_closed C (hK.sub rfl) | with_reducible apply State.windowRead_closed C (hK.sub rfl) | with_reducible apply State.memRead_closed C (hK.sub rfl) | with_reducible apply closed_ite | with_reducible apply closed_ite_fst | split)

theorem State.areaWrite_closed (C : Closed K P) (hK : Sub 0x80011001 K) (s : State) (m : Master) (r : Reader) (g : Region) (a : Nat) (bs : List (Option (BitVec 8))) (hP : P s) : P (State.areaWrite s m r g a bs).1 := by
  unfold State.areaWrite
  try dsimp only
  repeat' (first | with_reducible assumption | with_reducible apply State.broadcast_closed C (hK.sub rfl) | with_reducible apply State.windowWrite_closed C (hK.sub rfl) | with_reducible apply State.memWrite_closed C (hK.sub rfl) | with_reducible apply closed_ite | with_reducible apply closed_ite_fst | split)

theorem State.memTally_closed (C : Closed K P) (hK : Sub 0x10000 K) (s : State) (m : Master) (a : Nat) (x : MemRes) (hP : P s) : P (State.memTally s m a x) := by
  unfold State.memTally
  try dsimp only
  repeat' (first | with_reducible assumption | with_reducible apply State.busTally_closed C (hK.sub rfl))

theorem State.badWidth_closed (C : Closed K P) (hK : Sub 0x10000 K) (s : State) (m : Master) (a : Nat) (hP : P s) : P (State.badWidth s m a) := by
  unfold State.badWidth
  try dsimp only
  repeat' (first | with_reducible assumption | with_reducible apply State.memTally_closed C (hK.sub rfl))

theorem State.apertureRead_closed (C : Closed K P) (hK : Sub 0x200210001 K) (s : State) (m : Master) (a w x n : Nat) (ask : Asker) (hP : P s) : P (State.apertureRead s m a w x n ask).1 := by
  unfold State.apertureRead
  try dsimp only
  repeat' (first | with_reducible assumption | with_reducible apply State.memTally_closed C (hK.sub rfl) | with_reducible apply State.winRead_closed C (hK.sub rfl) | split)

theorem State.regBytes_closed (C : Closed K P) (hK : Sub 0x12001a043 K) (s : State) (m : Master) (a : Nat) (hP : P s) : P (State.regBytes s m a).1 := by
  unfold State.regBytes
  try dsimp only
  repeat' (first | with_reducible assumption | with_reducible apply State.regGet_closed C (hK.sub rfl))

theorem State.coreRead_closed (C : Closed K P) (hK : Sub 0x3a021b043 K) (s : State) (m : Master) (r : Reader) (ask : Asker) (a n : Nat) (hP : P s) : P (State.coreRead s m r ask a n).1 := by
  unfold State.coreRead
  try dsimp only
  repeat' (first | with_reducible assumption | with_reducible apply State.regBytes_closed C (hK.sub rfl) | with_reducible apply State.apertureRead_closed C (hK.sub rfl) | with_reducible apply State.badWidth_closed C (hK.sub rfl) | with_reducible apply State.memTally_closed C (hK.sub rfl) | with_reducible apply State.areaRead_closed C (hK.sub rfl) | with_reducible apply closed_ite | with_reducible apply closed_ite_fst | split)

theorem State.apertureWrite_closed (C : Closed K P) (hK : Sub 0x200210001 K) (s : State) (m : Master) (a w x : Nat) (bs : List (Option (BitVec 8))) (hP : P s) : P (State.apertureWrite s m a w x bs).1 := by
  unfold State.apertureWrite
  try dsimp only
  repeat' (first | with_reducible assumption | intro _ | with_reducible apply State.winWrite_closed C (hK.sub rfl) | with_reducible apply State.winDeny_closed C (hK.sub rfl) | with_reducible apply State.onBus_closed C (hK.sub rfl) | with_reducible apply closed_ite | with_reducible apply closed_ite_fst)

theorem State.coreWrite_closed (C : Closed K P) (hK : Sub 0x3f5ffffff K) (s : State) (m : Master) (r : Reader) (a : Nat) (bs : List (Option (BitVec 8))) (hP : P s) : P (State.coreWrite s m r a bs).1 := by
  unfold State.coreWrite
  try dsimp only
  repeat' (first | with_reducible assumption | with_reducible apply State.apertureWrite_closed C (hK.sub rfl) | with_reducible apply State.badWidth_closed C (hK.sub rfl) | with_reducible apply State.memTally_closed C (hK.sub rfl) | with_reducible apply State.areaWrite_closed C (hK.sub rfl) | with_reducible apply State.regPut_closed C (hK.sub rfl) | with_reducible apply closed_ite | with_reducible apply closed_ite_fst | split)

theorem State.dbgMemRead_closed (C : Closed K P) (hK : Sub 0x3a021b043 K) (s : State) (m : Master) (ask : Asker) (hP : P s) : P (State.dbgMemRead s m ask).1 := by
  unfold State.dbgMemRead
  try dsimp only
  repeat' (first | with_reducible assumption | with_reducible apply State.coreRead_closed C (hK.sub rfl) | with_reducible apply State.memTally_closed C (hK.sub rfl) | split)

theorem State.dbgMemWrite_closed (C : Closed K P) (hK : Sub 0x3f5ffffff K) (s : State) (m : Master) (v : Word) (hP : P s) : P (State.dbgMemWrite s m v).1 := by
  unfold State.dbgMemWrite
  try dsimp only
  repeat' (first | with_reducible assumption | with_reducible apply State.coreWrite_closed C (hK.sub rfl) | with_reducible apply State.memTally_closed C (hK.sub rfl) | split)

theorem State.busRead_closed (C : Closed K P) (hK : Sub 0x3a021b043 K) (s : State) (m : Master) (r : Reader) (ask : Asker) (a n : Nat) (hP : P s) : P (State.busRead s m r ask a n).1 := by
  unfold State.busRead
  try dsimp only
  repeat' (first | with_reducible assumption | with_reducible apply State.dbgMemRead_closed C (hK.sub rfl) | with_reducible apply State.coreRead_closed C (hK.sub rfl) | with_reducible apply closed_ite | with_reducible apply closed_ite_fst)

theorem State.busWrite_closed (C : Closed K P) (hK : Sub 0x3f5ffffff K) (s : State) (m : Master) (r : Reader) (a : Nat) (bs : List (Option (BitVec 8))) (hP : P s) : P (State.busWrite s m r a bs).1 := by
  unfold State.busWrite
  try dsimp only
  repeat' (first | with_reducible assumption | with_reducible apply State.dbgMemWrite_closed C (hK.sub rfl) | with_reducible apply State.coreWrite_closed C (hK.sub rfl) | with_reducible apply State.badWidth_closed C (hK.sub rfl) | with_reducible apply closed_ite | with_reducible apply closed_ite_fst | split)

theorem State.wordPut_closed (C : Closed K P) (hK : Sub 0x3f5ffffff K) (s : State) (m : Master) (a : Nat) (v : Word) (hP : P s) : P (State.wordPut s m a v).1 := by
  unfold State.wordPut
  try dsimp only
  repeat' (first | with_reducible assumption | with_reducible apply State.busWrite_closed C (hK.sub rfl))

theorem State.wordGet_closed (C : Closed K P) (hK : Sub 0x3a021b043 K) (s : State) (m : Master) (a : Nat) (hP : P s) : P (State.wordGet s m a) := by
  unfold State.wordGet
  try dsimp only
  repeat' (first | with_reducible assumption | with_reducible apply State.busRead_closed C (hK.sub rfl) | with_reducible apply State.emit_closed C (hK.sub rfl) | split)

theorem State.wordSend_closed (C : Closed K P) (hK : Sub 0x3f5ffffff K) (s : State) (m : Master) (a : Nat) (v : Word) (hP : P s) : P (State.wordSend s m a v) := by
  unfold State.wordSend
  try dsimp only
  repeat' (first | with_reducible assumption | with_reducible apply State.wordPut_closed C (hK.sub rfl) | with_reducible apply answer_closed C (hK.sub rfl))

theorem State.laneRead_closed (C : Closed K P) (hK : Sub 0x1a001b043 K) (s : State) (n : Fin 48) (a : Nat) (z : Size) (hP : P s) : P (State.laneRead s n a z).1 := by
  unfold State.laneRead
  try dsimp only
  repeat' (first | with_reducible assumption | with_reducible apply State.memTally_closed C (hK.sub rfl) | with_reducible apply State.regGet_closed C (hK.sub rfl) | with_reducible apply State.tbLow_closed C (hK.sub rfl) | with_reducible apply State.fault_closed C (hK.sub rfl) | with_reducible apply State.memRead_closed C (hK.sub rfl) | with_reducible apply closed_ite | with_reducible apply closed_ite_fst | split)

theorem State.laneStore_closed (C : Closed K P) (hK : Sub 0x3f5ffffff K) (s : State) (n : Fin 48) (a : Nat) (z : Size) (v : Word) (hP : P s) : P (State.laneStore s n a z v).1 := by
  unfold State.laneStore
  try dsimp only
  repeat' (first | with_reducible assumption | with_reducible apply State.memTally_closed C (hK.sub rfl) | with_reducible apply State.regPut_closed C (hK.sub rfl) | with_reducible apply State.fault_closed C (hK.sub rfl) | with_reducible apply State.memWrite_closed C (hK.sub rfl) | with_reducible apply State.wr_closed C (hK.sub rfl) | with_reducible apply closed_ite | with_reducible apply closed_ite_fst | split)

theorem State.dataRead_closed (C : Closed K P) (hK : Sub 0x3a021b053 K) (s : State) (k : Core) (rd a : Nat) (z : Size) (hP : P s) : P (State.dataRead s k rd a z).1 := by
  unfold State.dataRead
  try dsimp only
  repeat' (first | with_reducible assumption | with_reducible apply State.laneRead_closed C (hK.sub rfl) | with_reducible apply State.busRead_closed C (hK.sub rfl) | with_reducible apply State.fault_closed C (hK.sub rfl) | with_reducible apply closed_ite | with_reducible apply closed_ite_fst | split | with_reducible apply C.sup (hK.sub rfl))

theorem State.dataWrite_closed (C : Closed K P) (hK : Sub 0x3f5ffffff K) (s : State) (k : Core) (a : Nat) (z : Size) (v : Word) (hP : P s) : P (State.dataWrite s k a z v).1 := by
  unfold State.dataWrite
  try dsimp only
  repeat' (first | with_reducible assumption | with_reducible apply State.laneStore_closed C (hK.sub rfl) | with_reducible apply State.busWrite_closed C (hK.sub rfl) | with_reducible apply State.fault_closed C (hK.sub rfl) | with_reducible apply closed_ite | with_reducible apply closed_ite_fst | split)

theorem State.goOn_closed (C : Closed K P) (hK : Sub 0x10014 K) (s : State) (k : Core) (hP : P s) : P (State.goOn s k) := by
  unfold State.goOn
  try dsimp only
  repeat' (first | with_reducible assumption | with_reducible apply State.advance_closed C (hK.sub rfl) | with_reducible apply closed_ite)

theorem State.runLoad_closed (C : Closed K P) (hK : Sub 0x3a0a1b3ff K) (s : State) (k : Core) (d a : Nat) (imm : BitVec 16) (z : Size) (f : Nat → Word) (hP : P s) : P (State.runLoad s k d a imm z f) := by
  unfold State.runLoad
  try dsimp only
  repeat' (first | with_reducible assumption | with_reducible apply State.goOn_closed C (hK.sub rfl) | with_reducible apply State.dataRead_closed C (hK.sub rfl) | with_reducible apply State.trap_closed C (hK.sub rfl) | with_reducible apply State.setReg_closed C (hK.sub rfl) | with_reducible apply State.fault_closed C (hK.sub rfl) | with_reducible apply closed_ite | with_reducible apply closed_ite_fst | split)

theorem State.runStore_closed (C : Closed K P) (hK : Sub 0x3f5ffffff K) (s : State) (k : Core) (d a : Nat) (imm : BitVec 16) (z : Size) (hP : P s) : P (State.runStore s k d a imm z) := by
  unfold State.runStore
  try dsimp only
  repeat' (first | with_reducible assumption | with_reducible apply State.goOn_closed C (hK.sub rfl) | with_reducible apply State.dataWrite_closed C (hK.sub rfl) | with_reducible apply State.trap_closed C (hK.sub rfl) | with_reducible apply State.fault_closed C (hK.sub rfl) | with_reducible apply closed_ite | with_reducible apply closed_ite_fst | split)

theorem State.storeFlag_closed (C : Closed K P) (hK : Sub 0x24 K) (s : State) (k : Core) (z : Bool) (hP : P s) : P (State.storeFlag s k z) := by
  unfold State.storeFlag
  try dsimp only
  repeat' (first | with_reducible assumption | with_reducible apply State.setFlags_closed C (hK.sub rfl))

theorem State.runStwc_closed (C : Closed K P) (hK : Sub 0x3f5ffffff K) (s : State) (k : Core) (d a : Nat) (imm : BitVec 16) (hP : P s) : P (State.runStwc s k d a imm) := by
  unfold State.runStwc
  try dsimp only
  repeat' (first | with_reducible assumption | with_reducible apply State.storeFlag_closed C (hK.sub rfl) | with_reducible apply State.dataWrite_closed C (hK.sub rfl) | with_reducible apply State.trap_closed C (hK.sub rfl) | with_reducible apply State.advance_closed C (hK.sub rfl) | with_reducible apply State.fault_closed C (hK.sub rfl) | with_reducible apply closed_ite | with_reducible apply closed_ite_fst | split)

theorem State.complete_closed (C : Closed K P) (hK : Sub 0x200010000 K) (s : State) (m : Master) (bytes : List (BitVec 8)) (hP : P s) : P (State.complete s m bytes) := by
  unfold State.complete
  try dsimp only
  repeat' (first | with_reducible assumption | with_reducible apply State.bwCount_closed C (hK.sub rfl) | with_reducible apply State.emit_closed C (hK.sub rfl))

theorem State.barDeny_closed (C : Closed K P) (hK : Sub 0x200080001 K) (s : State) (m : Master) (bar off cause : Nat) (hP : P s) : P (State.barDeny s m bar off cause) := by
  unfold State.barDeny
  try dsimp only
  repeat' (first | with_reducible assumption | with_reducible apply State.pcieRefuse_closed C (hK.sub rfl) | with_reducible apply State.emit_closed C (hK.sub rfl))

theorem State.bar0Read_closed (C : Closed K P) (hK : Sub 0x3a029b043 K) (s : State) (off n : Nat) (hP : P s) : P (State.bar0Read s off n) := by
  unfold State.bar0Read
  try dsimp only
  repeat' (first | with_reducible assumption | with_reducible apply State.barDeny_closed C (hK.sub rfl) | with_reducible apply State.complete_closed C (hK.sub rfl) | with_reducible apply State.busRead_closed C (hK.sub rfl) | with_reducible apply closed_ite | with_reducible apply closed_ite_fst | split)

theorem State.bar2Read_closed (C : Closed K P) (hK : Sub 0x32009a043 K) (s : State) (off n : Nat) (hP : P s) : P (State.bar2Read s off n) := by
  unfold State.bar2Read
  try dsimp only
  repeat' (first | with_reducible assumption | with_reducible apply State.barDeny_closed C (hK.sub rfl) | with_reducible apply State.complete_closed C (hK.sub rfl) | with_reducible apply State.regGet_closed C (hK.sub rfl) | with_reducible apply closed_ite | with_reducible apply closed_ite_fst | split)

theorem State.bar4Read_closed (C : Closed K P) (hK : Sub 0x220090001 K) (s : State) (off n : Nat) (hP : P s) : P (State.bar4Read s off n) := by
  unfold State.bar4Read
  try dsimp only
  repeat' (first | with_reducible assumption | intro _ | with_reducible apply State.barDeny_closed C (hK.sub rfl) | with_reducible apply State.complete_closed C (hK.sub rfl) | with_reducible apply State.userPage_closed C (hK.sub rfl) | with_reducible apply closed_ite | with_reducible apply closed_ite_fst)

theorem State.tlp_closed (C : Closed K P) (hK : Sub 0x10801 K) (s : State) (n : Nat) (ur : State → State) (off_ : State → State) (f : State → State) (hP : P s) (hPur : ∀ s, P s → P (ur s)) (hPoff_ : ∀ s, P s → P (off_ s)) (hPf : ∀ s, P s → P (f s)) : P (State.tlp s n ur off_ f) := by
  unfold State.tlp
  try dsimp only
  repeat' (first | with_reducible assumption | with_reducible apply State.gateRequest_closed C (hK.sub rfl) | with_reducible apply State.bwCount_closed C (hK.sub rfl) | with_reducible apply State.tally_closed C (hK.sub rfl) | with_reducible apply State.setFld_closed C (hK.sub rfl) | with_reducible apply hPur | with_reducible apply hPoff_ | with_reducible apply hPf | with_reducible apply closed_ite | with_reducible apply closed_ite_fst)

theorem State.barRead_closed (C : Closed K P) (hK : Sub 0x3a029b843 K) (s : State) (bar off n : Nat) (hP : P s) : P (State.barRead s bar off n) := by
  unfold State.barRead
  try dsimp only
  repeat' (first | with_reducible assumption | intro _ | with_reducible apply State.tlp_closed C (hK.sub rfl) | with_reducible apply State.bar4Read_closed C (hK.sub rfl) | with_reducible apply State.bar2Read_closed C (hK.sub rfl) | with_reducible apply State.bar0Read_closed C (hK.sub rfl) | with_reducible apply State.barDeny_closed C (hK.sub rfl) | with_reducible apply State.emit_closed C (hK.sub rfl) | with_reducible apply closed_ite)

theorem State.barEnd_closed (C : Closed K P) (hK : Sub 0x200080001 K) (x : State × MemRes) (bar off : Nat) (hP : P x.1) : P (State.barEnd x bar off) := by
  unfold State.barEnd
  try dsimp only
  repeat' (first | with_reducible assumption | with_reducible apply State.pcieRefuse_closed C (hK.sub rfl) | split)

theorem State.msixUnmask_closed (C : Closed K P) (hK : Sub 0x200090000 K) (s : State) (v : Nat) (hP : P s) : P (State.msixUnmask s v) := by
  unfold State.msixUnmask
  try dsimp only
  repeat' (first | with_reducible assumption | with_reducible exact fun w => w | exact fun w => w | with_reducible apply State.bwCount_closed C (hK.sub rfl) | with_reducible apply State.emit_closed C (hK.sub rfl) | with_reducible apply closed_ite | with_reducible apply C.pcie (hK.sub rfl))

theorem State.tablePut_closed (C : Closed K P) (hK : Sub 0x80000 K) (s : State) (i : Nat) (b : BitVec 8) (hP : P s) : P (State.tablePut s i b) := by
  unfold State.tablePut
  try dsimp only
  repeat' (first | with_reducible assumption | with_reducible exact fun w => w | with_reducible exact fun w => tabWf_put _ _ _ w | exact fun w => w | exact fun w => tabWf_put _ _ _ w | with_reducible apply C.pcie (hK.sub rfl))

theorem State.bar4Write_closed (C : Closed K P) (hK : Sub 0x200090001 K) (s : State) (off : Nat) (bs : List (Option (BitVec 8))) (hP : P s) : P (State.bar4Write s off bs) := by
  unfold State.bar4Write
  try dsimp only
  repeat' (first | with_reducible assumption | intro _ | with_reducible apply State.tablePut_closed C (hK.sub rfl) | with_reducible apply State.msixUnmask_closed C (hK.sub rfl) | with_reducible apply State.pcieRefuse_closed C (hK.sub rfl) | with_reducible apply each_closed C (hK.sub rfl) | with_reducible apply closed_foldl | with_reducible apply closed_foldl_fst | with_reducible apply closed_ite | with_reducible apply closed_ite_fst | split)

theorem State.barWrite_closed (C : Closed K P) (hK : Sub 0x3f5ffffff K) (s : State) (bar off : Nat) (bs : List (Option (BitVec 8))) (hP : P s) : P (State.barWrite s bar off bs) := by
  unfold State.barWrite
  try dsimp only
  repeat' (first | with_reducible assumption | intro _ | with_reducible apply State.bar4Write_closed C (hK.sub rfl) | with_reducible apply State.barEnd_closed C (hK.sub rfl) | with_reducible apply State.tlp_closed C (hK.sub rfl) | with_reducible apply State.busWrite_closed C (hK.sub rfl) | with_reducible apply State.regPut_closed C (hK.sub rfl) | with_reducible apply State.pcieRefuse_closed C (hK.sub rfl) | with_reducible apply closed_ite | with_reducible apply closed_ite_fst | split)

theorem State.linkChange_closed (C : Closed K P) (hK : Sub 0x80001 K) (s : State) (up : Bool) (set : PcieSet) (speed width aspm : Nat) (hP : P s) : P (State.linkChange s up set speed width aspm) := by
  unfold State.linkChange
  try dsimp only
  repeat' (first | with_reducible assumption | with_reducible exact fun w => w | exact fun w => w | with_reducible apply State.put_closed C (hK.sub rfl) | with_reducible apply State.setFld_closed C (hK.sub rfl) | with_reducible apply closed_ite | with_reducible apply C.pcie (hK.sub rfl))

theorem State.smpDo_closed (C : Closed K P) (hK : Sub 0x200000801 K) (s : State) (f : State → State) (hP : P s) (hPf : ∀ s, P s → P (f s)) : P (State.smpDo s f) := by
  unfold State.smpDo
  try dsimp only
  repeat' (first | with_reducible assumption | with_reducible apply State.gateRequest_closed C (hK.sub rfl) | with_reducible apply State.emit_closed C (hK.sub rfl) | with_reducible apply hPf | with_reducible apply closed_ite | with_reducible apply closed_ite_fst)

theorem State.smpCount_closed (C : Closed K P) (hK : Sub 0x1 K) (s : State) (hP : P s) : P (State.smpCount s) := by
  unfold State.smpCount
  try dsimp only
  repeat' (first | with_reducible assumption | with_reducible apply State.bump_closed C (hK.sub rfl))

theorem State.smpWriteRefused_closed (C : Closed K P) (hK : Sub 0x200100001 K) (s : State) (hP : P s) : P (State.smpWriteRefused s) := by
  unfold State.smpWriteRefused
  try dsimp only
  repeat' (first | with_reducible assumption | with_reducible apply State.smpCount_closed C (hK.sub rfl) | with_reducible apply State.emit_closed C (hK.sub rfl) | with_reducible apply State.put_closed C (hK.sub rfl) | with_reducible apply closed_ite | with_reducible apply C.smp (hK.sub rfl))

theorem State.smpBadAddr_closed (C : Closed K P) (hK : Sub 0x200000001 K) (s : State) (hP : P s) : P (State.smpBadAddr s) := by
  unfold State.smpBadAddr
  try dsimp only
  repeat' (first | with_reducible assumption | with_reducible apply State.smpCount_closed C (hK.sub rfl) | with_reducible apply State.emit_closed C (hK.sub rfl) | with_reducible apply State.put_closed C (hK.sub rfl) | with_reducible apply closed_ite)

theorem State.smpPut_closed (C : Closed K P) (hK : Sub 0x3f5ffffff K) (s : State) (a : Nat) (v : Word) (hP : P s) : P (State.smpPut s a v).1 := by
  unfold State.smpPut
  try dsimp only
  repeat' (first | with_reducible assumption | with_reducible apply State.smpWriteRefused_closed C (hK.sub rfl) | with_reducible apply State.wordPut_closed C (hK.sub rfl) | with_reducible apply State.emit_closed C (hK.sub rfl) | with_reducible apply closed_ite | with_reducible apply closed_ite_fst)

theorem State.smpPtr_closed (C : Closed K P) (hK : Sub 0x100000 K) (s : State) (a : Nat) (hP : P s) : P (State.smpPtr s a) := by
  unfold State.smpPtr
  try dsimp only
  repeat' (first | with_reducible assumption | with_reducible apply C.smp (hK.sub rfl))

theorem State.smpWords_closed (C : Closed K P) (hK : Sub 0x3f5ffffff K) (s : State) (l : List (BitVec 8)) (hP : P s) : P (State.smpWords s l) := by
  match l with
  | a :: b :: c :: d :: rest =>
    unfold State.smpWords
    dsimp only
    have h := State.smpPut_closed C (hK.sub rfl) _ s.smp.ptr (BitVec.ofNat 32 (leValue [a, b, c, d])) (State.smpPtr_closed C (hK.sub rfl) _ (s.smp.ptr + 4) hP)
    exact closed_ite (State.smpWords_closed C hK _ rest h) h
  | [] => exact hP
  | [_] => exact State.put_closed C (hK.sub rfl) _ _ _ hP
  | [_, _] => exact State.put_closed C (hK.sub rfl) _ _ _ hP
  | [_, _, _] => exact State.put_closed C (hK.sub rfl) _ _ _ hP

theorem State.setFetch_closed (C : Closed K P) (hK : Sub 0x100000 K) (s : State) (x : SmpFetch) (hP : P s) : P (State.setFetch s x) := by
  unfold State.setFetch
  try dsimp only
  repeat' (first | with_reducible assumption | with_reducible apply State.fetch_closed C (hK.sub rfl) | with_reducible apply C.smp (hK.sub rfl))

theorem State.smpFetchAt_closed (C : Closed K P) (hK : Sub 0x3a031b043 K) (s : State) (a : Nat) (hP : P s) : P (State.smpFetchAt s a) := by
  unfold State.smpFetchAt
  try dsimp only
  repeat' (first | with_reducible assumption | with_reducible apply State.setFetch_closed C (hK.sub rfl) | with_reducible apply State.smpCount_closed C (hK.sub rfl) | with_reducible apply State.busRead_closed C (hK.sub rfl) | split)

theorem State.smpWrite_closed (C : Closed K P) (hK : Sub 0x3f5ffffff K) (s : State) (a : Nat) (bytes : List (BitVec 8)) (hP : P s) : P (State.smpWrite s a bytes) := by
  unfold State.smpWrite
  try dsimp only
  repeat' (first | with_reducible assumption | intro _ | with_reducible apply State.smpFetchAt_closed C (hK.sub rfl) | with_reducible apply State.setFetch_closed C (hK.sub rfl) | with_reducible apply State.smpWords_closed C (hK.sub rfl) | with_reducible apply State.smpPtr_closed C (hK.sub rfl) | with_reducible apply State.smpBadAddr_closed C (hK.sub rfl) | with_reducible apply State.smpDo_closed C (hK.sub rfl) | with_reducible apply State.take_closed C (hK.sub rfl) | with_reducible apply closed_ite)

theorem State.smpReadNack_closed (C : Closed K P) (hK : Sub 0x200000001 K) (s : State) (hP : P s) : P (State.smpReadNack s) := by
  unfold State.smpReadNack
  try dsimp only
  repeat' (first | with_reducible assumption | with_reducible apply State.emit_closed C (hK.sub rfl) | with_reducible apply State.put_closed C (hK.sub rfl) | with_reducible apply closed_ite)

theorem State.smpGet_closed (C : Closed K P) (hK : Sub 0x3a021b043 K) (s : State) (a : Nat) (hP : P s) : P (State.smpGet s a).1 := by
  unfold State.smpGet
  try dsimp only
  repeat' (first | with_reducible assumption | with_reducible apply State.smpCount_closed C (hK.sub rfl) | with_reducible apply State.busRead_closed C (hK.sub rfl) | with_reducible apply State.emit_closed C (hK.sub rfl) | split)

theorem State.smpReads_closed (C : Closed K P) (hK : Sub 0x3a031b043 K) (s : State) (first : Bool) (n : Nat) (hP : P s) : P (State.smpReads s first n).1 := by
  induction n generalizing s first with
  | zero => exact hP
  | succ n ih =>
    unfold State.smpReads
    dsimp only
    have h := State.smpGet_closed C (hK.sub rfl) _ s.smp.ptr (State.smpPtr_closed C (hK.sub rfl) _ (s.smp.ptr + 4) hP)
    split
    · exact ih _ _ h
    · split
      · exact State.smpReadNack_closed C (hK.sub rfl) _ h
      · exact h

theorem State.smpReadI3c_closed (C : Closed K P) (hK : Sub 0x3a031b043 K) (s : State) (words : Nat) (hP : P s) : P (State.smpReadI3c s words) := by
  unfold State.smpReadI3c
  try dsimp only
  repeat' (first | with_reducible assumption | with_reducible apply State.smpReads_closed C (hK.sub rfl) | with_reducible apply State.smpReadNack_closed C (hK.sub rfl) | with_reducible apply State.setFetch_closed C (hK.sub rfl) | with_reducible apply State.smpPtr_closed C (hK.sub rfl) | with_reducible apply State.smpCount_closed C (hK.sub rfl) | with_reducible apply State.fetch_closed C (hK.sub rfl) | with_reducible apply State.emit_closed C (hK.sub rfl) | split)

theorem State.smpRead_closed (C : Closed K P) (hK : Sub 0x3a031b843 K) (s : State) (words : Nat) (hP : P s) : P (State.smpRead s words) := by
  unfold State.smpRead
  try dsimp only
  repeat' (first | with_reducible assumption | intro _ | with_reducible apply State.smpReadI3c_closed C (hK.sub rfl) | with_reducible apply State.smpReads_closed C (hK.sub rfl) | with_reducible apply State.smpReadNack_closed C (hK.sub rfl) | with_reducible apply State.smpDo_closed C (hK.sub rfl) | with_reducible apply State.emit_closed C (hK.sub rfl) | with_reducible apply closed_ite | with_reducible apply closed_ite_fst)

theorem State.ccc_closed (C : Closed K P) (hK : Sub 0x200000801 K) (s : State) (f : State → State) (hP : P s) (hPf : ∀ s, P s → P (f s)) : P (State.ccc s f) := by
  unfold State.ccc
  try dsimp only
  repeat' (first | with_reducible assumption | intro _ | with_reducible apply State.smpDo_closed C (hK.sub rfl) | with_reducible apply State.emit_closed C (hK.sub rfl) | with_reducible apply hPf | with_reducible apply closed_ite)

theorem State.cccData_closed (C : Closed K P) (hK : Sub 0x200000801 K) (s : State) (bytes : List (BitVec 8)) (hP : P s) : P (State.cccData s bytes) := by
  unfold State.cccData
  try dsimp only
  repeat' (first | with_reducible assumption | intro _ | with_reducible apply State.ccc_closed C (hK.sub rfl) | with_reducible apply State.emit_closed C (hK.sub rfl))

theorem State.assign_closed (C : Closed K P) (hK : Sub 0x100000 K) (s : State) (da : BitVec 7) (hP : P s) : P (State.assign s da) := by
  unfold State.assign
  try dsimp only
  repeat' (first | with_reducible assumption | with_reducible apply C.smp (hK.sub rfl))

theorem State.assignNew_closed (C : Closed K P) (hK : Sub 0x200100801 K) (s : State) (da : BitVec 7) (ask : Bool) (hP : P s) : P (State.assignNew s da ask) := by
  unfold State.assignNew
  try dsimp only
  repeat' (first | with_reducible assumption | intro _ | with_reducible apply State.assign_closed C (hK.sub rfl) | with_reducible apply State.smpDo_closed C (hK.sub rfl) | with_reducible apply State.emit_closed C (hK.sub rfl) | with_reducible apply closed_ite)

theorem State.ibiSend_closed (C : Closed K P) (hK : Sub 0x200000801 K) (s : State) (hP : P s) : P (State.ibiSend s) := by
  unfold State.ibiSend
  try dsimp only
  repeat' (first | with_reducible assumption | intro _ | with_reducible apply State.smpDo_closed C (hK.sub rfl) | with_reducible apply State.emit_closed C (hK.sub rfl) | with_reducible apply closed_ite | split)

theorem State.getStatus_closed (C : Closed K P) (hK : Sub 0x300100801 K) (s : State) (hP : P s) : P (State.getStatus s) := by
  unfold State.getStatus
  try dsimp only
  repeat' (first | with_reducible assumption | intro _ | with_reducible apply State.ccc_closed C (hK.sub rfl) | with_reducible apply State.use_closed C (hK.sub rfl) | with_reducible apply State.emit_closed C (hK.sub rfl) | with_reducible apply C.smp (hK.sub rfl))

theorem State.getMxds_closed (C : Closed K P) (hK : Sub 0x300000801 K) (s : State) (hP : P s) : P (State.getMxds s) := by
  unfold State.getMxds
  try dsimp only
  repeat' (first | with_reducible assumption | intro _ | with_reducible apply State.ccc_closed C (hK.sub rfl) | with_reducible apply State.use_closed C (hK.sub rfl) | with_reducible apply State.emit_closed C (hK.sub rfl))

theorem State.addressMatch_closed (C : Closed K P) (hK : Sub 0x3a153dbbb K) (s : State) (hP : P s) : P (State.addressMatch s) := by
  unfold State.addressMatch
  try dsimp only
  repeat' (first | with_reducible assumption | with_reducible apply State.wakeSource_closed C (hK.sub rfl) | with_reducible apply State.emit_closed C (hK.sub rfl) | with_reducible apply State.put_closed C (hK.sub rfl) | with_reducible apply closed_ite)

theorem State.indNext_closed (C : Closed K P) (hK : Sub 0x100000 K) (s : State) (hP : P s) : P (State.indNext s) := by
  unfold State.indNext
  try dsimp only
  repeat' (first | with_reducible assumption | with_reducible apply C.smp (hK.sub rfl))

theorem State.indRefused_closed (C : Closed K P) (hK : Sub 0x100000 K) (s : State) (hP : P s) : P (State.indRefused s) := by
  unfold State.indRefused
  try dsimp only
  repeat' (first | with_reducible assumption | with_reducible apply C.smp (hK.sub rfl))

theorem State.indAccess_closed (C : Closed K P) (hK : Sub 0x3f5ffffff K) (s : State) (w : Option Word) (hP : P s) : P (State.indAccess s w).1 := by
  unfold State.indAccess
  try dsimp only
  repeat' (first | with_reducible assumption | with_reducible apply State.indRefused_closed C (hK.sub rfl) | with_reducible apply State.indNext_closed C (hK.sub rfl) | with_reducible apply State.smpPut_closed C (hK.sub rfl) | with_reducible apply State.smpCount_closed C (hK.sub rfl) | with_reducible apply State.busRead_closed C (hK.sub rfl) | with_reducible apply State.emit_closed C (hK.sub rfl) | with_reducible apply closed_ite | with_reducible apply closed_ite_fst | split)

theorem State.indStatGet_closed (C : Closed K P) (hK : Sub 0x200100000 K) (s : State) (hP : P s) : P (State.indStatGet s) := by
  unfold State.indStatGet
  try dsimp only
  repeat' (first | with_reducible assumption | with_reducible apply State.emit_closed C (hK.sub rfl) | with_reducible apply C.smp (hK.sub rfl))

theorem State.windowWord_closed (C : Closed K P) (hK : Sub 0x3f5ffffff K) (s : State) (i : Nat) (w : Option Word) (first : Bool) (hP : P s) : P (State.windowWord s i w first).1 := by
  unfold State.windowWord
  try dsimp only
  repeat' (first | with_reducible assumption | with_reducible apply State.indStatGet_closed C (hK.sub rfl) | with_reducible apply State.indAccess_closed C (hK.sub rfl) | with_reducible apply State.smpGet_closed C (hK.sub rfl) | with_reducible apply State.smpReadNack_closed C (hK.sub rfl) | with_reducible apply State.smpPut_closed C (hK.sub rfl) | with_reducible apply State.emit_closed C (hK.sub rfl) | with_reducible apply closed_ite | with_reducible apply closed_ite_fst | split | with_reducible apply C.smp (hK.sub rfl))

theorem State.windowRun_closed (C : Closed K P) (hK : Sub 0x3f5ffffff K) (s : State) (i : Nat) (first : Bool) (l : List (Option Word)) (hP : P s) : P (State.windowRun s i first l) := by
  induction l generalizing s i first with
  | nil => exact hP
  | cons w l ih =>
    have h := State.windowWord_closed C (hK.sub rfl) s i w first hP
    exact closed_ite (State.smpBadAddr_closed C (hK.sub rfl) _ hP) (closed_ite (ih _ _ _ h) h)

theorem State.windowXfer_closed (C : Closed K P) (hK : Sub 0x3f5ffffff K) (s : State) (i : Nat) (x : SmpXfer) (hP : P s) : P (State.windowXfer s i x) := by
  unfold State.windowXfer
  try dsimp only
  repeat' (first | with_reducible assumption | with_reducible apply State.windowRun_closed C (hK.sub rfl) | with_reducible apply State.smpBadAddr_closed C (hK.sub rfl) | with_reducible apply closed_ite)

theorem State.forerunner_closed (C : Closed K P) (hK : Sub 0x200000801 K) (s : State) (f : State → State) (hP : P s) (hPf : ∀ s, P s → P (f s)) : P (State.forerunner s f) := by
  unfold State.forerunner
  try dsimp only
  repeat' (first | with_reducible assumption | intro _ | with_reducible apply State.smpDo_closed C (hK.sub rfl) | with_reducible apply hPf | with_reducible apply closed_ite)

theorem State.forMe_closed (C : Closed K P) (hK : Sub 0x200210001 K) (s : State) (p : Nat) (k : TowPkt) (f : State → State) (hP : P s) (hPf : ∀ s, P s → P (f s)) : P (State.forMe s p k f) := by
  unfold State.forMe
  try dsimp only
  repeat' (first | with_reducible assumption | with_reducible apply State.towForward_closed C (hK.sub rfl) | with_reducible apply hPf | with_reducible apply closed_ite)

theorem State.respond_closed (C : Closed K P) (hK : Sub 0x200210001 K) (s : State) (p : Nat) (k : TowPkt) (typ : Nat) (r : MemRes) (data : List (BitVec 8)) (hP : P s) : P (State.respond s p k typ r data) := by
  unfold State.respond
  try dsimp only
  repeat' (first | with_reducible assumption | with_reducible apply State.towSend_closed C (hK.sub rfl))

theorem State.towReadMe_closed (C : Closed K P) (hK : Sub 0x3a021b043 K) (s : State) (p : Nat) (k : TowPkt) (hP : P s) : P (State.towReadMe s p k) := by
  unfold State.towReadMe
  try dsimp only
  repeat' (first | with_reducible assumption | with_reducible apply State.respond_closed C (hK.sub rfl) | with_reducible apply State.busRead_closed C (hK.sub rfl) | with_reducible apply closed_ite | with_reducible apply closed_ite_fst)

theorem State.towWriteMe_closed (C : Closed K P) (hK : Sub 0x3f5ffffff K) (s : State) (p : Nat) (k : TowPkt) (hP : P s) : P (State.towWriteMe s p k) := by
  unfold State.towWriteMe
  try dsimp only
  repeat' (first | with_reducible assumption | with_reducible apply State.respond_closed C (hK.sub rfl) | with_reducible apply State.busWrite_closed C (hK.sub rfl) | with_reducible apply closed_ite | with_reducible apply closed_ite_fst)

theorem State.tick_closed (C : Closed K P) (hK : Sub 0x18010403 K) (s : State) (hP : P s) : P (State.tick s) := by
  unfold State.tick
  try dsimp only
  repeat' (first | with_reducible assumption | intro _ | with_reducible apply State.countTick_closed C (hK.sub rfl) | with_reducible apply State.setTb_closed C (hK.sub rfl) | with_reducible apply State.drain_closed C (hK.sub rfl) | with_reducible apply each_closed C (hK.sub rfl) | with_reducible apply State.tally_closed C (hK.sub rfl) | with_reducible apply closed_ite | with_reducible apply C.clock (hK.sub rfl))

end Sys2Proof.Machine
end

