-- ==== Sys2Proof/Laws/Step.lean ====
section
/-! SUPPORT. Sys2Proof/Laws/Step.lean: what every meaning and every step keep: a predicate closed under the updates of Sys2Proof/Laws/Closed.lean, and the memory of
the interrupts that are due (R261); no command stops but for an operand that no sender can form. -/

namespace Sys2Proof.Machine

variable {P : State → Prop} {K : Nat}

theorem done_closed (C : Closed K P) (hK : Sub 0x40000000 K) {s t : State} (e : done s = .next t) (h : P s) : P t := by
  cases e
  exact settle_closed C hK _ h

theorem doneIf_closed (C : Closed K P) (hK : Sub 0x40000000 K) {b : Bool} {s t : State} (e : doneIf b s = .next t) (h : P s) : P t := by
  unfold doneIf at e
  split at e
  · exact done_closed C hK e h
  · cases e

theorem execModeRequest_closed (C : Closed K P) (hK : Sub 0x24081048f K) (m : Master) (v : Word) (s : State) {t' : State} (e : execModeRequest m v s = .next t') (hP : P s) : P t' := by
  unfold execModeRequest at e
  refine done_closed C (hK.sub rfl) e ?_
  try dsimp only
  repeat' (first | with_reducible assumption | intro _ | with_reducible apply State.request_closed C (hK.sub rfl) | with_reducible apply State.via_closed C (hK.sub rfl))

theorem execTransitionComplete_closed (C : Closed K P) (hK : Sub 0x24181048f K) (s : State) {t' : State} (e : execTransitionComplete s = .next t') (hP : P s) : P t' := by
  unfold execTransitionComplete at e
  refine done_closed C (hK.sub rfl) e ?_
  try dsimp only
  repeat' (first | with_reducible assumption | with_reducible apply transitionCompleteEffect_closed C (hK.sub rfl))

theorem execOosSet_closed (C : Closed K P) (hK : Sub 0x24081058f K) (m : Master) (n : Fin 48) (s : State) {t' : State} (e : execOosSet m n s = .next t') (hP : P s) : P t' := by
  unfold execOosSet at e
  refine done_closed C (hK.sub rfl) e ?_
  try dsimp only
  repeat' (first | with_reducible assumption | intro _ | with_reducible apply State.oosWriteBit_closed C (hK.sub rfl) | with_reducible apply State.via_closed C (hK.sub rfl) | with_reducible apply closed_ite | with_reducible apply closed_ite_fst)

theorem execOosClear_closed (C : Closed K P) (hK : Sub 0x24081058f K) (m : Master) (n : Fin 48) (s : State) {t' : State} (e : execOosClear m n s = .next t') (hP : P s) : P t' := by
  unfold execOosClear at e
  refine done_closed C (hK.sub rfl) e ?_
  try dsimp only
  repeat' (first | with_reducible assumption | intro _ | with_reducible apply State.oosWriteBit_closed C (hK.sub rfl) | with_reducible apply State.via_closed C (hK.sub rfl) | with_reducible apply closed_ite | with_reducible apply closed_ite_fst)

theorem execClaim_closed (C : Closed K P) (hK : Sub 0x240010001 K) (m : Master) (res : Fin 6) (use : Fin 4) (s : State) {t' : State} (e : execClaim m res use s = .next t') (hP : P s) : P t' := by
  unfold execClaim at e
  refine done_closed C (hK.sub rfl) e ?_
  try dsimp only
  repeat' (first | with_reducible assumption | intro _ | with_reducible apply State.claimWrite_closed C (hK.sub rfl) | with_reducible apply State.via_closed C (hK.sub rfl) | with_reducible apply State.use_closed C (hK.sub rfl))

theorem execClaimRelease_closed (C : Closed K P) (hK : Sub 0x240010001 K) (m : Master) (res : Fin 6) (s : State) {t' : State} (e : execClaimRelease m res s = .next t') (hP : P s) : P t' := by
  unfold execClaimRelease at e
  refine done_closed C (hK.sub rfl) e ?_
  try dsimp only
  repeat' (first | with_reducible assumption | intro _ | with_reducible apply State.claimWrite_closed C (hK.sub rfl) | with_reducible apply State.via_closed C (hK.sub rfl))

theorem execBankCommit_closed (C : Closed K P) (hK : Sub 0x240010001 K) (m : Master) (n : Fin 48) (s : State) {t' : State} (e : execBankCommit m n s = .next t') (hP : P s) : P t' := by
  unfold execBankCommit at e
  refine done_closed C (hK.sub rfl) e ?_
  try dsimp only
  repeat' (first | with_reducible assumption | intro _ | with_reducible apply State.bankCommit_closed C (hK.sub rfl) | with_reducible apply State.via_closed C (hK.sub rfl))

theorem execBankWrite_closed (C : Closed K P) (hK : Sub 0x240010001 K) (m : Master) (n : Fin 48) (b : Bool) (w : Fin 64) (v : Word) (s : State) {t' : State} (e : execBankWrite m n b w v s = .next t') (hP : P s) : P t' := by
  unfold execBankWrite at e
  refine done_closed C (hK.sub rfl) e ?_
  try dsimp only
  repeat' (first | with_reducible assumption | intro _ | with_reducible apply State.bankWrite_closed C (hK.sub rfl) | with_reducible apply State.via_closed C (hK.sub rfl))

theorem execHrxLaneUp_closed (C : Closed K P) (hK : Sub 0x40800003 K) (k : Fin 16) (s : State) {t' : State} (e : execHrxLaneUp k s = .next t') (hP : P s) : P t' := by
  unfold execHrxLaneUp at e
  refine done_closed C (hK.sub rfl) e ?_
  try dsimp only
  repeat' (first | with_reducible assumption | with_reducible apply State.hrxUp_closed C (hK.sub rfl))

theorem execHrxAcqTimeout_closed (C : Closed K P) (hK : Sub 0x24081058f K) (k : Fin 16) (s : State) {t' : State} (e : execHrxAcqTimeout k s = .next t') (hP : P s) : P t' := by
  unfold execHrxAcqTimeout at e
  refine done_closed C (hK.sub rfl) e ?_
  try dsimp only
  repeat' (first | with_reducible assumption | with_reducible apply State.timedOut_closed C (hK.sub rfl) | with_reducible apply closed_ite | with_reducible apply closed_ite_fst)

theorem execHrxLos_closed (C : Closed K P) (hK : Sub 0x140000003 K) (k : Fin 16) (mv : Nat) (unlocked : Bool) (s : State) {t' : State} (e : execHrxLos k mv unlocked s = .next t') (hP : P s) : P t' := by
  unfold execHrxLos at e
  refine done_closed C (hK.sub rfl) e ?_
  try dsimp only
  repeat' (first | with_reducible assumption | with_reducible apply State.hrxLos_closed C (hK.sub rfl))

theorem execHrxLosExit_closed (C : Closed K P) (hK : Sub 0x140000003 K) (k : Fin 16) (mv : Nat) (s : State) {t' : State} (e : execHrxLosExit k mv s = .next t') (hP : P s) : P t' := by
  unfold execHrxLosExit at e
  refine done_closed C (hK.sub rfl) e ?_
  try dsimp only
  repeat' (first | with_reducible assumption | with_reducible apply State.hrxBack_closed C (hK.sub rfl))

theorem execHrxLosTimeout_closed (C : Closed K P) (hK : Sub 0x24081058f K) (k : Fin 16) (s : State) {t' : State} (e : execHrxLosTimeout k s = .next t') (hP : P s) : P t' := by
  unfold execHrxLosTimeout at e
  refine done_closed C (hK.sub rfl) e ?_
  try dsimp only
  repeat' (first | with_reducible assumption | with_reducible apply State.report_closed C (hK.sub rfl) | with_reducible apply closed_ite | with_reducible apply closed_ite_fst)

theorem execCdrLock_closed (C : Closed K P) (hK : Sub 0x24001000f K) (r : Fin 24) (ofs : List Int) (s : State) {t' : State} (e : execCdrLock r ofs s = .next t') (hP : P s) : P t' := by
  unfold execCdrLock at e
  refine doneIf_closed C (hK.sub rfl) e ?_
  try dsimp only
  repeat' (first | with_reducible assumption | with_reducible apply State.cdrLocked_closed C (hK.sub rfl))

theorem execCdrUnlock_closed (C : Closed K P) (hK : Sub 0x40000001 K) (r : Fin 24) (ofs : Int × Int) (s : State) {t' : State} (e : execCdrUnlock r ofs s = .next t') (hP : P s) : P t' := by
  unfold execCdrUnlock at e
  refine done_closed C (hK.sub rfl) e ?_
  try dsimp only
  repeat' (first | with_reducible assumption | with_reducible apply State.cdrUnlocked_closed C (hK.sub rfl))

theorem execHtxSquelch_closed (C : Closed K P) (hK : Sub 0x240010001 K) (m : Master) (k : Fin 16) (on : Bool) (s : State) {t' : State} (e : execHtxSquelch m k on s = .next t') (hP : P s) : P t' := by
  unfold execHtxSquelch at e
  refine done_closed C (hK.sub rfl) e ?_
  try dsimp only
  repeat' (first | with_reducible assumption | intro _ | with_reducible apply State.htxSquelch_closed C (hK.sub rfl) | with_reducible apply State.via_closed C (hK.sub rfl))

theorem execPatternInject_closed (C : Closed K P) (hK : Sub 0x240010002 K) (m : Master) (t : Fin 24) (s : State) {t' : State} (e : execPatternInject m t s = .next t') (hP : P s) : P t' := by
  unfold execPatternInject at e
  refine done_closed C (hK.sub rfl) e ?_
  try dsimp only
  repeat' (first | with_reducible assumption | intro _ | with_reducible apply State.patInject_closed C (hK.sub rfl) | with_reducible apply State.via_closed C (hK.sub rfl) | with_reducible apply closed_ite | with_reducible apply closed_ite_fst)

theorem execCorrelatorStart_closed (C : Closed K P) (hK : Sub 0x240010003 K) (m : Master) (r : Fin 24) (v : Word) (s : State) {t' : State} (e : execCorrelatorStart m r v s = .next t') (hP : P s) : P t' := by
  unfold execCorrelatorStart at e
  refine done_closed C (hK.sub rfl) e ?_
  try dsimp only
  repeat' (first | with_reducible assumption | intro _ | with_reducible apply State.corrWrite_closed C (hK.sub rfl) | with_reducible apply State.via_closed C (hK.sub rfl))

theorem execCorrelatorWindowEnd_closed (C : Closed K P) (hK : Sub 0x40000003 K) (r : Fin 24) (_sums _errsq _bins : Unit) (s : State) {t' : State} (e : execCorrelatorWindowEnd r _sums _errsq _bins s = .next t') (hP : P s) : P t' := by
  unfold execCorrelatorWindowEnd at e
  refine done_closed C (hK.sub rfl) e ?_
  try dsimp only
  repeat' (first | with_reducible assumption | with_reducible apply State.corrEnd_closed C (hK.sub rfl))

theorem execPatternChecker_closed (C : Closed K P) (hK : Sub 0x40000003 K) (r : Fin 24) (_sync _errs : Unit) (s : State) {t' : State} (e : execPatternChecker r _sync _errs s = .next t') (hP : P s) : P t' := by
  unfold execPatternChecker at e
  refine done_closed C (hK.sub rfl) e ?_
  try dsimp only
  repeat' (first | with_reducible assumption | with_reducible apply State.patCheck_closed C (hK.sub rfl))

theorem execSquelchClear_closed (C : Closed K P) (hK : Sub 0x24081048f K) (m : Master) (n : Fin 8) (v : Word) (s : State) {t' : State} (e : execSquelchClear m n v s = .next t') (hP : P s) : P t' := by
  unfold execSquelchClear at e
  refine done_closed C (hK.sub rfl) e ?_
  try dsimp only
  repeat' (first | with_reducible assumption | intro _ | with_reducible apply State.ltxCtl_closed C (hK.sub rfl) | with_reducible apply State.via_closed C (hK.sub rfl))

theorem execSquelchSet_closed (C : Closed K P) (hK : Sub 0x24081048f K) (m : Master) (n : Fin 8) (s : State) {t' : State} (e : execSquelchSet m n s = .next t') (hP : P s) : P t' := by
  unfold execSquelchSet at e
  refine done_closed C (hK.sub rfl) e ?_
  try dsimp only
  repeat' (first | with_reducible assumption | intro _ | with_reducible apply State.ltxCtl_closed C (hK.sub rfl) | with_reducible apply State.via_closed C (hK.sub rfl))

theorem execForceOff_closed (C : Closed K P) (hK : Sub 0x24081048f K) (m : Master) (n : Fin 8) (s : State) {t' : State} (e : execForceOff m n s = .next t') (hP : P s) : P t' := by
  unfold execForceOff at e
  refine done_closed C (hK.sub rfl) e ?_
  try dsimp only
  repeat' (first | with_reducible assumption | intro _ | with_reducible apply State.forceDark_closed C (hK.sub rfl) | with_reducible apply State.via_closed C (hK.sub rfl))

theorem execRampStep_closed (C : Closed K P) (hK : Sub 0x24081048f K) (n : Fin 8) (s : State) {t' : State} (e : execRampStep n s = .next t') (hP : P s) : P t' := by
  unfold execRampStep at e
  refine done_closed C (hK.sub rfl) e ?_
  try dsimp only
  repeat' (first | with_reducible assumption | with_reducible apply State.rampTick_closed C (hK.sub rfl))

theorem execFaultRampStep_closed (C : Closed K P) (hK : Sub 0x24081048f K) (n : Fin 8) (s : State) {t' : State} (e : execFaultRampStep n s = .next t') (hP : P s) : P t' := by
  unfold execFaultRampStep at e
  refine done_closed C (hK.sub rfl) e ?_
  try dsimp only
  repeat' (first | with_reducible assumption | with_reducible apply State.faultTick_closed C (hK.sub rfl))

theorem execSynthUnlock_closed (C : Closed K P) (hK : Sub 0x24081058f K) (t : Fin 24) (s : State) {t' : State} (e : execSynthUnlock t s = .next t') (hP : P s) : P t' := by
  unfold execSynthUnlock at e
  refine done_closed C (hK.sub rfl) e ?_
  try dsimp only
  repeat' (first | with_reducible assumption | with_reducible apply State.synthLost_closed C (hK.sub rfl))

theorem execBiasWrite_closed (C : Closed K P) (hK : Sub 0x240010001 K) (m : Master) (n : Fin 8) (v : Word) (s : State) {t' : State} (e : execBiasWrite m n v s = .next t') (hP : P s) : P t' := by
  unfold execBiasWrite at e
  refine done_closed C (hK.sub rfl) e ?_
  try dsimp only
  repeat' (first | with_reducible assumption | intro _ | with_reducible apply State.biasWrite_closed C (hK.sub rfl) | with_reducible apply State.via_closed C (hK.sub rfl))

theorem execBiasStep_closed (C : Closed K P) (hK : Sub 0x40000001 K) (n : Fin 8) (s : State) {t' : State} (e : execBiasStep n s = .next t') (hP : P s) : P t' := by
  unfold execBiasStep at e
  refine done_closed C (hK.sub rfl) e ?_
  try dsimp only
  repeat' (first | with_reducible assumption | with_reducible apply State.biasStep_closed C (hK.sub rfl))

theorem execFaultCauseClear_closed (C : Closed K P) (hK : Sub 0x240010001 K) (m : Master) (n : Fin 8) (v : Word) (s : State) {t' : State} (e : execFaultCauseClear m n v s = .next t') (hP : P s) : P t' := by
  unfold execFaultCauseClear at e
  refine done_closed C (hK.sub rfl) e ?_
  try dsimp only
  repeat' (first | with_reducible assumption | intro _ | with_reducible apply State.causeClear_closed C (hK.sub rfl) | with_reducible apply State.via_closed C (hK.sub rfl))

theorem execPresenceQualified_closed (C : Closed K P) (hK : Sub 0x24001000f K) (n : Fin 8) (s : State) {t' : State} (e : execPresenceQualified n s = .next t') (hP : P s) : P t' := by
  unfold execPresenceQualified at e
  refine done_closed C (hK.sub rfl) e ?_
  try dsimp only
  repeat' (first | with_reducible assumption | with_reducible apply State.present_closed C (hK.sub rfl))

theorem execAmplitudeDetectorChange_closed (C : Closed K P) (hK : Sub 0x40000001 K) (n : Fin 8) (mv : Nat) (s : State) {t' : State} (e : execAmplitudeDetectorChange n mv s = .next t') (hP : P s) : P t' := by
  unfold execAmplitudeDetectorChange at e
  refine done_closed C (hK.sub rfl) e ?_
  try dsimp only
  repeat' (first | with_reducible assumption | with_reducible apply State.detect_closed C (hK.sub rfl))

theorem execLrxCdrTimeout_closed (C : Closed K P) (hK : Sub 0x24081058f K) (n : Fin 8) (s : State) {t' : State} (e : execLrxCdrTimeout n s = .next t') (hP : P s) : P t' := by
  unfold execLrxCdrTimeout at e
  refine done_closed C (hK.sub rfl) e ?_
  try dsimp only
  repeat' (first | with_reducible assumption | with_reducible apply State.acqTimeout_closed C (hK.sub rfl))

theorem execProgReady_closed (C : Closed K P) (hK : Sub 0x24001000f K) (m : Master) (n : Fin 8) (s : State) {t' : State} (e : execProgReady m n s = .next t') (hP : P s) : P t' := by
  unfold execProgReady at e
  refine done_closed C (hK.sub rfl) e ?_
  try dsimp only
  repeat' (first | with_reducible assumption | intro _ | with_reducible apply State.acqCmd_closed C (hK.sub rfl) | with_reducible apply State.via_closed C (hK.sub rfl))

theorem execLrxAdaptTimeout_closed (C : Closed K P) (hK : Sub 0x24081058f K) (n : Fin 8) (s : State) {t' : State} (e : execLrxAdaptTimeout n s = .next t') (hP : P s) : P t' := by
  unfold execLrxAdaptTimeout at e
  refine done_closed C (hK.sub rfl) e ?_
  try dsimp only
  repeat' (first | with_reducible assumption | with_reducible apply State.acqTimeout_closed C (hK.sub rfl))

theorem execMarkerAlignmentQualified_closed (C : Closed K P) (hK : Sub 0x24001000f K) (n : Fin 8) (pos1 pos2 p1 p2 : Nat) (s : State) {t' : State} (e : execMarkerAlignmentQualified n pos1 pos2 p1 p2 s = .next t') (hP : P s) : P t' := by
  unfold execMarkerAlignmentQualified at e
  refine done_closed C (hK.sub rfl) e ?_
  try dsimp only
  repeat' (first | with_reducible assumption | with_reducible apply State.markerQualified_closed C (hK.sub rfl))

theorem execAcqQualified_closed (C : Closed K P) (hK : Sub 0x24001000f K) (m : Master) (n : Fin 8) (s : State) {t' : State} (e : execAcqQualified m n s = .next t') (hP : P s) : P t' := by
  unfold execAcqQualified at e
  refine done_closed C (hK.sub rfl) e ?_
  try dsimp only
  repeat' (first | with_reducible assumption | intro _ | with_reducible apply State.acqCmd_closed C (hK.sub rfl) | with_reducible apply State.via_closed C (hK.sub rfl))

theorem execLrxSeekTimeout_closed (C : Closed K P) (hK : Sub 0x24081058f K) (n : Fin 8) (s : State) {t' : State} (e : execLrxSeekTimeout n s = .next t') (hP : P s) : P t' := by
  unfold execLrxSeekTimeout at e
  refine done_closed C (hK.sub rfl) e ?_
  try dsimp only
  repeat' (first | with_reducible assumption | with_reducible apply State.acqTimeout_closed C (hK.sub rfl))

theorem execCapture_closed (C : Closed K P) (hK : Sub 0x34081058f K) (n : Fin 8) (pos p : Nat) (s : State) {t' : State} (e : execCapture n pos p s = .next t') (hP : P s) : P t' := by
  unfold execCapture at e
  refine done_closed C (hK.sub rfl) e ?_
  try dsimp only
  repeat' (first | with_reducible assumption | with_reducible apply State.capturePeak_closed C (hK.sub rfl))

theorem execMarkerPeakMissing_closed (C : Closed K P) (hK : Sub 0x24001000f K) (n : Fin 8) (s : State) {t' : State} (e : execMarkerPeakMissing n s = .next t') (hP : P s) : P t' := by
  unfold execMarkerPeakMissing at e
  refine done_closed C (hK.sub rfl) e ?_
  try dsimp only
  repeat' (first | with_reducible assumption | with_reducible apply State.peakMissing_closed C (hK.sub rfl))

theorem execCaptureWindowEnd_closed (C : Closed K P) (hK : Sub 0x24001000f K) (n : Fin 8) (s : State) {t' : State} (e : execCaptureWindowEnd n s = .next t') (hP : P s) : P t' := by
  unfold execCaptureWindowEnd at e
  refine done_closed C (hK.sub rfl) e ?_
  try dsimp only
  repeat' (first | with_reducible assumption | with_reducible apply State.windowEnd_closed C (hK.sub rfl))

theorem execLrxLos_closed (C : Closed K P) (hK : Sub 0x24001000f K) (n : Fin 8) (cause : Fin 3) (mv : Nat) (s : State) {t' : State} (e : execLrxLos n cause mv s = .next t') (hP : P s) : P t' := by
  unfold execLrxLos at e
  refine done_closed C (hK.sub rfl) e ?_
  try dsimp only
  repeat' (first | with_reducible assumption | with_reducible apply State.lrxLos_closed C (hK.sub rfl))

theorem execLrxLosTimeout_closed (C : Closed K P) (hK : Sub 0x24081058f K) (n : Fin 8) (s : State) {t' : State} (e : execLrxLosTimeout n s = .next t') (hP : P s) : P t' := by
  unfold execLrxLosTimeout at e
  refine done_closed C (hK.sub rfl) e ?_
  try dsimp only
  repeat' (first | with_reducible assumption | with_reducible apply State.report_closed C (hK.sub rfl) | with_reducible apply State.lrxDark_closed C (hK.sub rfl) | with_reducible apply closed_ite | with_reducible apply closed_ite_fst)

theorem execNearEndLocked_closed (C : Closed K P) (hK : Sub 0x2408105cf K) (n : Fin 8) (s : State) {t' : State} (e : execNearEndLocked n s = .next t') (hP : P s) : P t' := by
  unfold execNearEndLocked at e
  refine done_closed C (hK.sub rfl) e ?_
  try dsimp only
  repeat' (first | with_reducible assumption | with_reducible apply State.nearLocked_closed C (hK.sub rfl))

theorem execWcapStart_closed (C : Closed K P) (hK : Sub 0x240010003 K) (m : Master) (n : Fin 8) (v : Word) (s : State) {t' : State} (e : execWcapStart m n v s = .next t') (hP : P s) : P t' := by
  unfold execWcapStart at e
  refine done_closed C (hK.sub rfl) e ?_
  try dsimp only
  repeat' (first | with_reducible assumption | intro _ | with_reducible apply State.wcapStart_closed C (hK.sub rfl) | with_reducible apply State.via_closed C (hK.sub rfl))

theorem execWcapComplete_closed (C : Closed K P) (hK : Sub 0x1c0011003 K) (n : Fin 8) (_samples : Unit) (s : State) {t' : State} (e : execWcapComplete n _samples s = .next t') (hP : P s) : P t' := by
  unfold execWcapComplete at e
  refine done_closed C (hK.sub rfl) e ?_
  try dsimp only
  repeat' (first | with_reducible assumption | with_reducible apply State.wcapRun_closed C (hK.sub rfl))

theorem execSpeedMonitorWindow_closed (C : Closed K P) (hK : Sub 0x24081038f K) (margins : List Int) (s : State) {t' : State} (e : execSpeedMonitorWindow margins s = .next t') (hP : P s) : P t' := by
  unfold execSpeedMonitorWindow at e
  refine doneIf_closed C (hK.sub rfl) e ?_
  try dsimp only
  repeat' (first | with_reducible assumption | with_reducible apply State.speedWindow_closed C (hK.sub rfl))

theorem execMarginLowClear_closed (C : Closed K P) (hK : Sub 0x240010001 K) (m : Master) (s : State) {t' : State} (e : execMarginLowClear m s = .next t') (hP : P s) : P t' := by
  unfold execMarginLowClear at e
  refine done_closed C (hK.sub rfl) e ?_
  try dsimp only
  repeat' (first | with_reducible assumption | intro _ | with_reducible apply State.lowClear_closed C (hK.sub rfl) | with_reducible apply State.via_closed C (hK.sub rfl))

theorem execInputBargeComplete_closed (C : Closed K P) (hK : Sub 0x40010403 K) (src : InBarge) (_slicer : Unit) (sym : BitVec 17) (frac : BitVec 4) (s : State) {t' : State} (e : execInputBargeComplete src _slicer sym frac s = .next t') (hP : P s) : P t' := by
  unfold execInputBargeComplete at e
  refine doneIf_closed C (hK.sub rfl) e ?_
  try dsimp only
  repeat' (first | with_reducible assumption | with_reducible apply State.inputBarge_closed C (hK.sub rfl))

theorem execBargeRelease_closed (C : Closed K P) (hK : Sub 0x340010403 K) (j : Fin 24) (upset : BitVec 32) (lat : BitVec 24) (s : State) {t' : State} (e : execBargeRelease j upset lat s = .next t') (hP : P s) : P t' := by
  unfold execBargeRelease at e
  refine done_closed C (hK.sub rfl) e ?_
  try dsimp only
  repeat' (first | with_reducible assumption | with_reducible apply State.release_closed C (hK.sub rfl) | with_reducible apply State.upset_closed C (hK.sub rfl))

theorem execFlTargetWrite_closed (C : Closed K P) (hK : Sub 0x240010401 K) (m : Master) (host : Bool) (v : Word) (s : State) {t' : State} (e : execFlTargetWrite m host v s = .next t') (hP : P s) : P t' := by
  unfold execFlTargetWrite at e
  refine done_closed C (hK.sub rfl) e ?_
  try dsimp only
  repeat' (first | with_reducible assumption | intro _ | with_reducible apply State.targetWrite_closed C (hK.sub rfl) | with_reducible apply State.via_closed C (hK.sub rfl) | with_reducible apply closed_ite | with_reducible apply closed_ite_fst)

theorem execSlewComplete_closed (C : Closed K P) (hK : Sub 0x40000001 K) (j : Fin 24) (lat : BitVec 24) (s : State) {t' : State} (e : execSlewComplete j lat s = .next t') (hP : P s) : P t' := by
  unfold execSlewComplete at e
  refine done_closed C (hK.sub rfl) e ?_
  try dsimp only
  repeat' (first | with_reducible assumption | with_reducible apply State.slewDone_closed C (hK.sub rfl))

theorem execLockLost_closed (C : Closed K P) (hK : Sub 0x40000001 K) (j : Fin 24) (lat : BitVec 24) (s : State) {t' : State} (e : execLockLost j lat s = .next t') (hP : P s) : P t' := by
  unfold execLockLost at e
  refine done_closed C (hK.sub rfl) e ?_
  try dsimp only
  repeat' (first | with_reducible assumption | with_reducible apply State.lockLost_closed C (hK.sub rfl))

theorem execCrossingAck_closed (C : Closed K P) (hK : Sub 0x40010401 K) (n : Fin 48) (s : State) {t' : State} (e : execCrossingAck n s = .next t') (hP : P s) : P t' := by
  unfold execCrossingAck at e
  refine done_closed C (hK.sub rfl) e ?_
  try dsimp only
  repeat' (first | with_reducible assumption | with_reducible apply State.crossAck_closed C (hK.sub rfl))

theorem execCodewordDecode_closed (C : Closed K P) (hK : Sub 0x24081058f K) (n : Fin 8) (_word _rel : Unit) (s : State) {t' : State} (e : execCodewordDecode n _word _rel s = .next t') (hP : P s) : P t' := by
  unfold execCodewordDecode at e
  refine done_closed C (hK.sub rfl) e ?_
  try dsimp only
  repeat' (first | with_reducible assumption | with_reducible apply State.cwDecode_closed C (hK.sub rfl))

theorem execCodewordLock_closed (C : Closed K P) (hK : Sub 0x24001000f K) (n : Fin 8) (_zeros : Unit) (s : State) {t' : State} (e : execCodewordLock n _zeros s = .next t') (hP : P s) : P t' := by
  unfold execCodewordLock at e
  refine done_closed C (hK.sub rfl) e ?_
  try dsimp only
  repeat' (first | with_reducible assumption | with_reducible apply State.cwLocked_closed C (hK.sub rfl))

theorem execOffsetAbandon_closed (C : Closed K P) (hK : Sub 0x40000003 K) (n : Fin 8) (_failing : Unit) (s : State) {t' : State} (e : execOffsetAbandon n _failing s = .next t') (hP : P s) : P t' := by
  unfold execOffsetAbandon at e
  refine done_closed C (hK.sub rfl) e ?_
  try dsimp only
  repeat' (first | with_reducible assumption | with_reducible apply State.offsetAbandon_closed C (hK.sub rfl))

theorem execCodewordLockLoss_closed (C : Closed K P) (hK : Sub 0x24081058f K) (n : Fin 8) (s : State) {t' : State} (e : execCodewordLockLoss n s = .next t') (hP : P s) : P t' := by
  unfold execCodewordLockLoss at e
  refine done_closed C (hK.sub rfl) e ?_
  try dsimp only
  repeat' (first | with_reducible assumption | with_reducible apply State.cwLost_closed C (hK.sub rfl))

theorem execCwRestart_closed (C : Closed K P) (hK : Sub 0x24001000f K) (m : Master) (n : Fin 8) (s : State) {t' : State} (e : execCwRestart m n s = .next t') (hP : P s) : P t' := by
  unfold execCwRestart at e
  refine done_closed C (hK.sub rfl) e ?_
  try dsimp only
  repeat' (first | with_reducible assumption | intro _ | with_reducible apply State.cwCtl_closed C (hK.sub rfl) | with_reducible apply State.via_closed C (hK.sub rfl))

theorem execCwInject_closed (C : Closed K P) (hK : Sub 0x240010001 K) (m : Master) (n : Fin 8) (v : Word) (s : State) {t' : State} (e : execCwInject m n v s = .next t') (hP : P s) : P t' := by
  unfold execCwInject at e
  refine done_closed C (hK.sub rfl) e ?_
  try dsimp only
  repeat' (first | with_reducible assumption | intro _ | with_reducible apply State.cwInjWrite_closed C (hK.sub rfl) | with_reducible apply State.via_closed C (hK.sub rfl))

theorem execRsCodeword_closed (C : Closed K P) (hK : Sub 0x40000003 K) (t : Fin 16) (u : Fin 2) (_errs : Unit) (s : State) {t' : State} (e : execRsCodeword t u _errs s = .next t') (hP : P s) : P t' := by
  unfold execRsCodeword at e
  refine done_closed C (hK.sub rfl) e ?_
  try dsimp only
  repeat' (first | with_reducible assumption | with_reducible apply State.rsCodeword_closed C (hK.sub rfl))

theorem execRsAlign_closed (C : Closed K P) (hK : Sub 0x40000003 K) (t : Fin 16) (u : Fin 2) (s : State) {t' : State} (e : execRsAlign t u s = .next t') (hP : P s) : P t' := by
  unfold execRsAlign at e
  refine done_closed C (hK.sub rfl) e ?_
  try dsimp only
  repeat' (first | with_reducible assumption | with_reducible apply State.rsAlign_closed C (hK.sub rfl))

theorem execRsNoAlign_closed (C : Closed K P) (hK : Sub 0x40000001 K) (t : Fin 16) (u : Fin 2) (s : State) {t' : State} (e : execRsNoAlign t u s = .next t') (hP : P s) : P t' := by
  unfold execRsNoAlign at e
  refine done_closed C (hK.sub rfl) e ?_
  try dsimp only
  repeat' (first | with_reducible assumption | with_reducible apply State.rsNoAlign_closed C (hK.sub rfl))

theorem execRsCtlWrite_closed (C : Closed K P) (hK : Sub 0x240010003 K) (m : Master) (t : Fin 16) (u : Fin 2) (v : Word) (s : State) {t' : State} (e : execRsCtlWrite m t u v s = .next t') (hP : P s) : P t' := by
  unfold execRsCtlWrite at e
  refine done_closed C (hK.sub rfl) e ?_
  try dsimp only
  repeat' (first | with_reducible assumption | intro _ | with_reducible apply State.rsCtl_closed C (hK.sub rfl) | with_reducible apply State.via_closed C (hK.sub rfl))

theorem execStartUpTrimsDone_closed (C : Closed K P) (hK : Sub 0x3408105cf K) (n : Fin 48) (t : Int) (s : State) {t' : State} (e : execStartUpTrimsDone n t s = .next t') (hP : P s) : P t' := by
  unfold execStartUpTrimsDone at e
  refine done_closed C (hK.sub rfl) e ?_
  try dsimp only
  repeat' (first | with_reducible assumption | with_reducible apply State.trimsDone_closed C (hK.sub rfl))

theorem execSynthLock_closed (C : Closed K P) (hK : Sub 0x40000001 K) (t : Fin 24) (s : State) {t' : State} (e : execSynthLock t s = .next t') (hP : P s) : P t' := by
  unfold execSynthLock at e
  refine done_closed C (hK.sub rfl) e ?_
  try dsimp only
  repeat' (first | with_reducible assumption | with_reducible apply State.synthLocked_closed C (hK.sub rfl))

theorem execWakePatternEnd_closed (C : Closed K P) (hK : Sub 0x40000003 K) (n : Fin 8) (s : State) {t' : State} (e : execWakePatternEnd n s = .next t') (hP : P s) : P t' := by
  unfold execWakePatternEnd at e
  refine done_closed C (hK.sub rfl) e ?_
  try dsimp only
  repeat' (first | with_reducible assumption | with_reducible apply State.wakeEnd_closed C (hK.sub rfl))

theorem execTrainingFrameReceived_closed (C : Closed K P) (hK : Sub 0x24081058f K) (n : Fin 8) (ctrl : BitVec 128) (crc : BitVec 16) (pos : Nat) (s : State) {t' : State} (e : execTrainingFrameReceived n ctrl crc pos s = .next t') (hP : P s) : P t' := by
  unfold execTrainingFrameReceived at e
  refine done_closed C (hK.sub rfl) e ?_
  try dsimp only
  repeat' (first | with_reducible assumption | with_reducible apply State.frameIn_closed C (hK.sub rfl))

theorem execTrainingFrameSend_closed (C : Closed K P) (hK : Sub 0x240810403 K) (n : Fin 8) (s : State) {t' : State} (e : execTrainingFrameSend n s = .next t') (hP : P s) : P t' := by
  unfold execTrainingFrameSend at e
  refine done_closed C (hK.sub rfl) e ?_
  try dsimp only
  repeat' (first | with_reducible assumption | with_reducible apply State.frameSend_closed C (hK.sub rfl))

theorem execTrnStateWrite_closed (C : Closed K P) (hK : Sub 0x24081058f K) (m : Master) (n : Fin 8) (v : Word) (s : State) {t' : State} (e : execTrnStateWrite m n v s = .next t') (hP : P s) : P t' := by
  unfold execTrnStateWrite at e
  refine done_closed C (hK.sub rfl) e ?_
  try dsimp only
  repeat' (first | with_reducible assumption | intro _ | with_reducible apply State.trnCtl_closed C (hK.sub rfl) | with_reducible apply State.via_closed C (hK.sub rfl))

theorem execHandover_closed (C : Closed K P) (hK : Sub 0x24081058f K) (m : Master) (n : Fin 8) (s : State) {t' : State} (e : execHandover m n s = .next t') (hP : P s) : P t' := by
  unfold execHandover at e
  refine done_closed C (hK.sub rfl) e ?_
  try dsimp only
  repeat' (first | with_reducible assumption | intro _ | with_reducible apply State.trnAct_closed C (hK.sub rfl) | with_reducible apply State.via_closed C (hK.sub rfl))

theorem execTrnWake_closed (C : Closed K P) (hK : Sub 0x24081058f K) (m : Master) (n : Fin 8) (s : State) {t' : State} (e : execTrnWake m n s = .next t') (hP : P s) : P t' := by
  unfold execTrnWake at e
  refine done_closed C (hK.sub rfl) e ?_
  try dsimp only
  repeat' (first | with_reducible assumption | intro _ | with_reducible apply State.trnAct_closed C (hK.sub rfl) | with_reducible apply State.via_closed C (hK.sub rfl))

theorem execAckTo_closed (C : Closed K P) (hK : Sub 0x24081058f K) (m : Master) (n : Fin 8) (s : State) {t' : State} (e : execAckTo m n s = .next t') (hP : P s) : P t' := by
  unfold execAckTo at e
  refine done_closed C (hK.sub rfl) e ?_
  try dsimp only
  repeat' (first | with_reducible assumption | intro _ | with_reducible apply State.trnAct_closed C (hK.sub rfl) | with_reducible apply State.via_closed C (hK.sub rfl))

theorem execPeerDataStart_closed (C : Closed K P) (hK : Sub 0x24081040f K) (n : Fin 8) (s : State) {t' : State} (e : execPeerDataStart n s = .next t') (hP : P s) : P t' := by
  unfold execPeerDataStart at e
  refine done_closed C (hK.sub rfl) e ?_
  try dsimp only
  repeat' (first | with_reducible assumption | with_reducible apply State.peerStart_closed C (hK.sub rfl))

theorem execTrainingTimeout_closed (C : Closed K P) (hK : Sub 0x24081058f K) (n : Fin 8) (s : State) {t' : State} (e : execTrainingTimeout n s = .next t') (hP : P s) : P t' := by
  unfold execTrainingTimeout at e
  refine done_closed C (hK.sub rfl) e ?_
  try dsimp only
  repeat' (first | with_reducible assumption | with_reducible apply State.trnExpire_closed C (hK.sub rfl))

theorem execTrnRxfRead_closed (C : Closed K P) (hK : Sub 0x240010002 K) (m : Master) (n : Fin 8) (s : State) {t' : State} (e : execTrnRxfRead m n s = .next t') (hP : P s) : P t' := by
  unfold execTrnRxfRead at e
  refine done_closed C (hK.sub rfl) e ?_
  try dsimp only
  repeat' (first | with_reducible assumption | intro _ | with_reducible apply State.rxfRead_closed C (hK.sub rfl) | with_reducible apply State.viaRead_closed C (hK.sub rfl))

theorem execBackgroundCalWindow_closed (C : Closed K P) (hK : Sub 0x40000003 K) (r : Fin 24) (levels : List Nat) (sums : List Int × List (Int × Int × Int)) (lapUs : Nat) (s : State) {t' : State} (e : execBackgroundCalWindow r levels sums lapUs s = .next t') (hP : P s) : P t' := by
  unfold execBackgroundCalWindow at e
  refine doneIf_closed C (hK.sub rfl) e ?_
  try dsimp only
  repeat' (first | with_reducible assumption | with_reducible apply State.background_closed C (hK.sub rfl))

theorem execDeferredRecalStart_closed (C : Closed K P) (hK : Sub 0x24001000f K) (n : Fin 48) (s : State) {t' : State} (e : execDeferredRecalStart n s = .next t') (hP : P s) : P t' := by
  unfold execDeferredRecalStart at e
  refine done_closed C (hK.sub rfl) e ?_
  try dsimp only
  repeat' (first | with_reducible assumption | with_reducible apply State.trigger_closed C (hK.sub rfl) | with_reducible apply closed_ite | with_reducible apply closed_ite_fst)

theorem execFitnessWindowEnd_closed (C : Closed K P) (hK : Sub 0x40000003 K) (n : Fin 48) (levels : List Nat) (acorr : List Int) (s : State) {t' : State} (e : execFitnessWindowEnd n levels acorr s = .next t') (hP : P s) : P t' := by
  unfold execFitnessWindowEnd at e
  refine doneIf_closed C (hK.sub rfl) e ?_
  try dsimp only
  repeat' (first | with_reducible assumption | with_reducible apply State.fitness_closed C (hK.sub rfl))

theorem execRecalMeasureEnd_closed (C : Closed K P) (hK : Sub 0x140000003 K) (n : Fin 48) (us : Nat) (s : State) {t' : State} (e : execRecalMeasureEnd n us s = .next t') (hP : P s) : P t' := by
  unfold execRecalMeasureEnd at e
  refine done_closed C (hK.sub rfl) e ?_
  try dsimp only
  repeat' (first | with_reducible assumption | with_reducible apply State.measureEnd_closed C (hK.sub rfl))

theorem execRecalStepTimeout_closed (C : Closed K P) (hK : Sub 0x40000003 K) (n : Fin 48) (s : State) {t' : State} (e : execRecalStepTimeout n s = .next t') (hP : P s) : P t' := by
  unfold execRecalStepTimeout at e
  refine done_closed C (hK.sub rfl) e ?_
  try dsimp only
  repeat' (first | with_reducible assumption | with_reducible apply State.stepIn_closed C (hK.sub rfl) | with_reducible apply closed_ite | with_reducible apply closed_ite_fst)

theorem execRecalRetry_closed (C : Closed K P) (hK : Sub 0x24001000f K) (n : Fin 48) (s : State) {t' : State} (e : execRecalRetry n s = .next t') (hP : P s) : P t' := by
  unfold execRecalRetry at e
  refine done_closed C (hK.sub rfl) e ?_
  try dsimp only
  repeat' (first | with_reducible assumption | with_reducible apply State.retry_closed C (hK.sub rfl))

theorem execCalCmd_closed (C : Closed K P) (hK : Sub 0x24001000f K) (m : Master) (v : Word) (s : State) {t' : State} (e : execCalCmd m v s = .next t') (hP : P s) : P t' := by
  unfold execCalCmd at e
  refine done_closed C (hK.sub rfl) e ?_
  try dsimp only
  repeat' (first | with_reducible assumption | intro _ | with_reducible apply State.calCmd_closed C (hK.sub rfl) | with_reducible apply State.via_closed C (hK.sub rfl))

theorem execFaultReport_closed (C : Closed K P) (hK : Sub 0x24081058f K) (m : Master) (v : Word) (s : State) {t' : State} (e : execFaultReport m v s = .next t') (hP : P s) : P t' := by
  unfold execFaultReport at e
  refine done_closed C (hK.sub rfl) e ?_
  try dsimp only
  repeat' (first | with_reducible assumption | intro _ | with_reducible apply State.faultReport_closed C (hK.sub rfl) | with_reducible apply State.via_closed C (hK.sub rfl))

theorem execLadderStepTimeout_closed (C : Closed K P) (hK : Sub 0x24081058f K) (n : Fin 48) (s : State) {t' : State} (e : execLadderStepTimeout n s = .next t') (hP : P s) : P t' := by
  unfold execLadderStepTimeout at e
  refine done_closed C (hK.sub rfl) e ?_
  try dsimp only
  repeat' (first | with_reducible assumption | with_reducible apply State.stepExpire_closed C (hK.sub rfl))

theorem execLadderStepComplete_closed (C : Closed K P) (hK : Sub 0x40000181 K) (n : Fin 48) (s : State) {t' : State} (e : execLadderStepComplete n s = .next t') (hP : P s) : P t' := by
  unfold execLadderStepComplete at e
  refine done_closed C (hK.sub rfl) e ?_
  try dsimp only
  repeat' (first | with_reducible assumption | with_reducible apply State.stepFinish_closed C (hK.sub rfl))

theorem execStepDone_closed (C : Closed K P) (hK : Sub 0x240010080 K) (m : Master) (n : Fin 64) (s : State) {t' : State} (e : execStepDone m n s = .next t') (hP : P s) : P t' := by
  unfold execStepDone at e
  refine done_closed C (hK.sub rfl) e ?_
  try dsimp only
  repeat' (first | with_reducible assumption | intro _ | with_reducible apply State.stepWrite_closed C (hK.sub rfl) | with_reducible apply State.via_closed C (hK.sub rfl))

theorem execDeclare_closed (C : Closed K P) (hK : Sub 0x24081038f K) (m : Master) (v : Word) (s : State) {t' : State} (e : execDeclare m v s = .next t') (hP : P s) : P t' := by
  unfold execDeclare at e
  refine done_closed C (hK.sub rfl) e ?_
  try dsimp only
  repeat' (first | with_reducible assumption | intro _ | with_reducible apply State.declare_closed C (hK.sub rfl) | with_reducible apply State.via_closed C (hK.sub rfl))

theorem execDevClr_closed (C : Closed K P) (hK : Sub 0x24081078f K) (m : Master) (v : Word) (s : State) {t' : State} (e : execDevClr m v s = .next t') (hP : P s) : P t' := by
  unfold execDevClr at e
  refine done_closed C (hK.sub rfl) e ?_
  try dsimp only
  repeat' (first | with_reducible assumption | intro _ | with_reducible apply State.devClrWrite_closed C (hK.sub rfl) | with_reducible apply State.via_closed C (hK.sub rfl))

theorem execFaultLogPop_closed (C : Closed K P) (hK : Sub 0x240010100 K) (m : Master) (s : State) {t' : State} (e : execFaultLogPop m s = .next t') (hP : P s) : P t' := by
  unfold execFaultLogPop at e
  refine done_closed C (hK.sub rfl) e ?_
  try dsimp only
  repeat' (first | with_reducible assumption | intro _ | with_reducible apply State.faultPop_closed C (hK.sub rfl) | with_reducible apply State.via_closed C (hK.sub rfl))

theorem execClockCheckWindow_closed (C : Closed K P) (hK : Sub 0x240810d8f K) (clk : Fin 3) (count : Nat) (s : State) {t' : State} (e : execClockCheckWindow clk count s = .next t') (hP : P s) : P t' := by
  unfold execClockCheckWindow at e
  refine done_closed C (hK.sub rfl) e ?_
  try dsimp only
  repeat' (first | with_reducible assumption | with_reducible apply State.clockWindow_closed C (hK.sub rfl) | with_reducible apply closed_ite | with_reducible apply closed_ite_fst)

theorem execFroTrimMeasure_closed (C : Closed K P) (hK : Sub 0x140000801 K) (ref : Fin 4) (err : BitVec 16) (s : State) {t' : State} (e : execFroTrimMeasure ref err s = .next t') (hP : P s) : P t' := by
  unfold execFroTrimMeasure at e
  refine done_closed C (hK.sub rfl) e ?_
  try dsimp only
  repeat' (first | with_reducible assumption | with_reducible apply State.froMeasure_closed C (hK.sub rfl) | with_reducible apply closed_ite | with_reducible apply closed_ite_fst)

theorem execClockSourceSelect_closed (C : Closed K P) (hK : Sub 0x240010001 K) (m : Master) (root : Bool) (s : State) {t' : State} (e : execClockSourceSelect m root s = .next t') (hP : P s) : P t' := by
  unfold execClockSourceSelect at e
  refine done_closed C (hK.sub rfl) e ?_
  try dsimp only
  repeat' (first | with_reducible assumption | intro _ | with_reducible apply State.sourceSelect_closed C (hK.sub rfl) | with_reducible apply State.via_closed C (hK.sub rfl))

theorem execRootWaitExpiry_closed (C : Closed K P) (hK : Sub 0x24081058f K) (s : State) {t' : State} (e : execRootWaitExpiry s = .next t') (hP : P s) : P t' := by
  unfold execRootWaitExpiry at e
  refine done_closed C (hK.sub rfl) e ?_
  try dsimp only
  repeat' (first | with_reducible assumption | with_reducible apply State.rootExpiry_closed C (hK.sub rfl))

theorem execGateSleep_closed (C : Closed K P) (hK : Sub 0x40000001 K) (b : Fin 10) (s : State) {t' : State} (e : execGateSleep b s = .next t') (hP : P s) : P t' := by
  unfold execGateSleep at e
  refine done_closed C (hK.sub rfl) e ?_
  try dsimp only
  repeat' (first | with_reducible assumption | with_reducible apply State.gateSleep_closed C (hK.sub rfl) | with_reducible apply closed_ite | with_reducible apply closed_ite_fst)

theorem execGateDeepSleep_closed (C : Closed K P) (hK : Sub 0x40000801 K) (b : Fin 10) (s : State) {t' : State} (e : execGateDeepSleep b s = .next t') (hP : P s) : P t' := by
  unfold execGateDeepSleep at e
  refine done_closed C (hK.sub rfl) e ?_
  try dsimp only
  repeat' (first | with_reducible assumption | with_reducible apply State.gateDeep_closed C (hK.sub rfl) | with_reducible apply closed_ite | with_reducible apply closed_ite_fst)

theorem execTimebaseRestart_closed (C : Closed K P) (hK : Sub 0x51000001 K) (n : BitVec 32) (s : State) {t' : State} (e : execTimebaseRestart n s = .next t') (hP : P s) : P t' := by
  unfold execTimebaseRestart at e
  refine done_closed C (hK.sub rfl) e ?_
  try dsimp only
  repeat' (first | with_reducible assumption | with_reducible apply State.tbRestart_closed C (hK.sub rfl))

theorem execUncertStep_closed (C : Closed K P) (hK : Sub 0x40000001 K) (s : State) {t' : State} (e : execUncertStep s = .next t') (hP : P s) : P t' := by
  unfold execUncertStep at e
  refine done_closed C (hK.sub rfl) e ?_
  try dsimp only
  repeat' (first | with_reducible assumption | with_reducible apply State.bump_closed C (hK.sub rfl) | with_reducible apply closed_ite | with_reducible apply closed_ite_fst)

theorem execTimebaseRead_closed (C : Closed K P) (hK : Sub 0x260010000 K) (m : Master) (s : State) {t' : State} (e : execTimebaseRead m s = .next t') (hP : P s) : P t' := by
  unfold execTimebaseRead at e
  refine done_closed C (hK.sub rfl) e ?_
  try dsimp only
  repeat' (first | with_reducible assumption | intro _ | with_reducible apply State.tbLow_closed C (hK.sub rfl) | with_reducible apply State.viaRead_closed C (hK.sub rfl))

theorem execTimebaseLoad_closed (C : Closed K P) (hK : Sub 0x250010001 K) (m : Master) (s : State) {t' : State} (e : execTimebaseLoad m s = .next t') (hP : P s) : P t' := by
  unfold execTimebaseLoad at e
  refine done_closed C (hK.sub rfl) e ?_
  try dsimp only
  repeat' (first | with_reducible assumption | intro _ | with_reducible apply State.timeAct_closed C (hK.sub rfl) | with_reducible apply State.via_closed C (hK.sub rfl))

theorem execUncertClr_closed (C : Closed K P) (hK : Sub 0x250010001 K) (m : Master) (s : State) {t' : State} (e : execUncertClr m s = .next t') (hP : P s) : P t' := by
  unfold execUncertClr at e
  refine done_closed C (hK.sub rfl) e ?_
  try dsimp only
  repeat' (first | with_reducible assumption | intro _ | with_reducible apply State.timeAct_closed C (hK.sub rfl) | with_reducible apply State.via_closed C (hK.sub rfl))

theorem execPpsEdge_closed (C : Closed K P) (hK : Sub 0x40000801 K) (rising : Bool) (s : State) {t' : State} (e : execPpsEdge rising s = .next t') (hP : P s) : P t' := by
  unfold execPpsEdge at e
  refine done_closed C (hK.sub rfl) e ?_
  try dsimp only
  repeat' (first | with_reducible assumption | with_reducible apply State.ppsEdge_closed C (hK.sub rfl))

theorem execGtArm_closed (C : Closed K P) (hK : Sub 0x240010801 K) (m : Master) (t : Fin 4) (s : State) {t' : State} (e : execGtArm m t s = .next t') (hP : P s) : P t' := by
  unfold execGtArm at e
  refine done_closed C (hK.sub rfl) e ?_
  try dsimp only
  repeat' (first | with_reducible assumption | intro _ | with_reducible apply State.gtCtl_closed C (hK.sub rfl) | with_reducible apply State.via_closed C (hK.sub rfl))

theorem execGtFire_closed (C : Closed K P) (hK : Sub 0x40000001 K) (t : Fin 4) (s : State) {t' : State} (e : execGtFire t s = .next t') (hP : P s) : P t' := by
  unfold execGtFire at e
  refine done_closed C (hK.sub rfl) e ?_
  try dsimp only
  repeat' (first | with_reducible assumption | with_reducible apply State.gtShot_closed C (hK.sub rfl) | with_reducible apply closed_ite | with_reducible apply closed_ite_fst)

theorem execMemxClr_closed (C : Closed K P) (hK : Sub 0x2c0011001 K) (m : Master) (v : Word) (s : State) {t' : State} (e : execMemxClr m v s = .next t') (hP : P s) : P t' := by
  unfold execMemxClr at e
  refine done_closed C (hK.sub rfl) e ?_
  try dsimp only
  repeat' (first | with_reducible assumption | intro _ | with_reducible apply State.memxClr_closed C (hK.sub rfl) | with_reducible apply State.via_closed C (hK.sub rfl))

theorem execScrubAccess_closed (C : Closed K P) (hK : Sub 0xc0011001 K) (r : Fin 5) (lane : Fin 48) (flips : BitVec 72) (s : State) {t' : State} (e : execScrubAccess r lane flips s = .next t') (hP : P s) : P t' := by
  unfold execScrubAccess at e
  refine done_closed C (hK.sub rfl) e ?_
  try dsimp only
  repeat' (first | with_reducible assumption | with_reducible apply State.scrub_closed C (hK.sub rfl))

theorem execScrubLapStall_closed (C : Closed K P) (hK : Sub 0x40000001 K) (r : Fin 5) (s : State) {t' : State} (e : execScrubLapStall r s = .next t') (hP : P s) : P t' := by
  unfold execScrubLapStall at e
  refine done_closed C (hK.sub rfl) e ?_
  try dsimp only
  repeat' (first | with_reducible assumption | with_reducible apply State.setBit_closed C (hK.sub rfl) | with_reducible apply State.put_closed C (hK.sub rfl) | with_reducible apply closed_ite | with_reducible apply closed_ite_fst)

theorem execMemxLogPop_closed (C : Closed K P) (hK : Sub 0x240011000 K) (m : Master) (s : State) {t' : State} (e : execMemxLogPop m s = .next t') (hP : P s) : P t' := by
  unfold execMemxLogPop at e
  refine done_closed C (hK.sub rfl) e ?_
  try dsimp only
  repeat' (first | with_reducible assumption | intro _ | with_reducible apply State.memxPop_closed C (hK.sub rfl) | with_reducible apply State.via_closed C (hK.sub rfl))

theorem execMemxRetire_closed (C : Closed K P) (hK : Sub 0x2c0011001 K) (m : Master) (v : Word) (s : State) {t' : State} (e : execMemxRetire m v s = .next t') (hP : P s) : P t' := by
  unfold execMemxRetire at e
  refine done_closed C (hK.sub rfl) e ?_
  try dsimp only
  repeat' (first | with_reducible assumption | intro _ | with_reducible apply State.memxRetire_closed C (hK.sub rfl) | with_reducible apply State.via_closed C (hK.sub rfl))

theorem execRetireCopyDone_closed (C : Closed K P) (hK : Sub 0xc0011001 K) (s : State) {t' : State} (e : execRetireCopyDone s = .next t') (hP : P s) : P t' := by
  unfold execRetireCopyDone at e
  refine done_closed C (hK.sub rfl) e ?_
  try dsimp only
  repeat' (first | with_reducible assumption | with_reducible apply State.copyDone_closed C (hK.sub rfl))

theorem execOtpReload_closed (C : Closed K P) (hK : Sub 0x40001000 K) (w : Fin 512) (s : State) {t' : State} (e : execOtpReload w s = .next t') (hP : P s) : P t' := by
  unfold execOtpReload at e
  refine done_closed C (hK.sub rfl) e ?_
  try dsimp only
  repeat' (first | with_reducible assumption | with_reducible apply State.otpReload_closed C (hK.sub rfl))

theorem execBistCmd_closed (C : Closed K P) (hK : Sub 0x2c0011001 K) (m : Master) (v : Word) (s : State) {t' : State} (e : execBistCmd m v s = .next t') (hP : P s) : P t' := by
  unfold execBistCmd at e
  refine done_closed C (hK.sub rfl) e ?_
  try dsimp only
  repeat' (first | with_reducible assumption | intro _ | with_reducible apply State.bistCmd_closed C (hK.sub rfl) | with_reducible apply State.via_closed C (hK.sub rfl))

theorem execBistDone_closed (C : Closed K P) (hK : Sub 0xc0011001 K) (pass : Bool) (addr : Word) (bad : List Word) (s : State) {t' : State} (e : execBistDone pass addr bad s = .next t') (hP : P s) : P t' := by
  unfold execBistDone at e
  refine done_closed C (hK.sub rfl) e ?_
  try dsimp only
  repeat' (first | with_reducible assumption | with_reducible apply State.bistDone_closed C (hK.sub rfl))

theorem execCoarseOutput_closed (C : Closed K P) (hK : Sub 0x24081248f K) (ch : Fin 24) (v : BitVec 10) (s : State) {t' : State} (e : execCoarseOutput ch v s = .next t') (hP : P s) : P t' := by
  unfold execCoarseOutput at e
  refine done_closed C (hK.sub rfl) e ?_
  try dsimp only
  repeat' (first | with_reducible assumption | with_reducible apply State.coarseOut_closed C (hK.sub rfl))

theorem execFineOutput_closed (C : Closed K P) (hK : Sub 0x24081248f K) (ch : Fin 24) (us : List Nat) (s : State) {t' : State} (e : execFineOutput ch us s = .next t') (hP : P s) : P t' := by
  unfold execFineOutput at e
  refine done_closed C (hK.sub rfl) e ?_
  try dsimp only
  repeat' (first | with_reducible assumption | with_reducible apply State.fineOut_closed C (hK.sub rfl))

theorem execMonChannelConfig_closed (C : Closed K P) (hK : Sub 0x240012001 K) (m : Master) (ch : Fin 24) (fir : Bool) (v : Word) (s : State) {t' : State} (e : execMonChannelConfig m ch fir v s = .next t') (hP : P s) : P t' := by
  unfold execMonChannelConfig at e
  refine done_closed C (hK.sub rfl) e ?_
  try dsimp only
  repeat' (first | with_reducible assumption | intro _ | with_reducible apply State.monConfig_closed C (hK.sub rfl) | with_reducible apply State.via_closed C (hK.sub rfl) | with_reducible apply closed_ite | with_reducible apply closed_ite_fst)

theorem execMonCoefWrite_closed (C : Closed K P) (hK : Sub 0x240010001 K) (m : Master) (i : Fin 512) (v : Word) (s : State) {t' : State} (e : execMonCoefWrite m i v s = .next t') (hP : P s) : P t' := by
  unfold execMonCoefWrite at e
  refine done_closed C (hK.sub rfl) e ?_
  try dsimp only
  repeat' (first | with_reducible assumption | intro _ | with_reducible apply State.coefWrite_closed C (hK.sub rfl) | with_reducible apply State.via_closed C (hK.sub rfl))

theorem execMonSyncEdge_closed (C : Closed K P) (hK : Sub 0x40006001 K) (edge : Bool × Nat) (s : State) {t' : State} (e : execMonSyncEdge edge s = .next t') (hP : P s) : P t' := by
  unfold execMonSyncEdge at e
  refine done_closed C (hK.sub rfl) e ?_
  try dsimp only
  repeat' (first | with_reducible assumption | with_reducible apply State.monEdge_closed C (hK.sub rfl))

theorem execMonSyncCommand_closed (C : Closed K P) (hK : Sub 0x240016001 K) (m : Master) (s : State) {t' : State} (e : execMonSyncCommand m s = .next t') (hP : P s) : P t' := by
  unfold execMonSyncCommand at e
  refine done_closed C (hK.sub rfl) e ?_
  try dsimp only
  repeat' (first | with_reducible assumption | intro _ | with_reducible apply State.monSync_closed C (hK.sub rfl) | with_reducible apply State.via_closed C (hK.sub rfl))

theorem execAccRead_closed (C : Closed K P) (hK : Sub 0x240012001 K) (m : Master) (ch : Fin 24) (s : State) {t' : State} (e : execAccRead m ch s = .next t') (hP : P s) : P t' := by
  unfold execAccRead at e
  refine done_closed C (hK.sub rfl) e ?_
  try dsimp only
  repeat' (first | with_reducible assumption | intro _ | with_reducible apply State.accRead_closed C (hK.sub rfl) | with_reducible apply State.viaRead_closed C (hK.sub rfl))

theorem execSensorUpdate_closed (C : Closed K P) (hK : Sub 0x24081848f K) (readings : List (Int × Nat)) (s : State) {t' : State} (e : execSensorUpdate readings s = .next t') (hP : P s) : P t' := by
  unfold execSensorUpdate at e
  refine doneIf_closed C (hK.sub rfl) e ?_
  try dsimp only
  repeat' (first | with_reducible assumption | intro _ | with_reducible apply State.sensorUpdate_closed C (hK.sub rfl) | with_reducible apply closed_ite | with_reducible apply closed_ite_fst)

theorem execThrottleFall_closed (C : Closed K P) (hK : Sub 0x40008003 K) (s : State) {t' : State} (e : execThrottleFall s = .next t') (hP : P s) : P t' := by
  unfold execThrottleFall at e
  refine done_closed C (hK.sub rfl) e ?_
  try dsimp only
  repeat' (first | with_reducible assumption | with_reducible apply State.throttleFall_closed C (hK.sub rfl) | with_reducible apply closed_ite | with_reducible apply closed_ite_fst)

theorem execSensorReadmit_closed (C : Closed K P) (hK : Sub 0x240018001 K) (m : Master) (v : Word) (s : State) {t' : State} (e : execSensorReadmit m v s = .next t') (hP : P s) : P t' := by
  unfold execSensorReadmit at e
  refine done_closed C (hK.sub rfl) e ?_
  try dsimp only
  repeat' (first | with_reducible assumption | intro _ | with_reducible apply State.brokenWrite_closed C (hK.sub rfl) | with_reducible apply State.via_closed C (hK.sub rfl))

theorem execFailAck_closed (C : Closed K P) (hK : Sub 0x240010001 K) (m : Master) (s : State) {t' : State} (e : execFailAck m s = .next t') (hP : P s) : P t' := by
  unfold execFailAck at e
  refine done_closed C (hK.sub rfl) e ?_
  try dsimp only
  repeat' (first | with_reducible assumption | intro _ | with_reducible apply State.thermAck_closed C (hK.sub rfl) | with_reducible apply State.via_closed C (hK.sub rfl))

theorem execHoldClr_closed (C : Closed K P) (hK : Sub 0x240010001 K) (m : Master) (s : State) {t' : State} (e : execHoldClr m s = .next t') (hP : P s) : P t' := by
  unfold execHoldClr at e
  refine done_closed C (hK.sub rfl) e ?_
  try dsimp only
  repeat' (first | with_reducible assumption | intro _ | with_reducible apply State.thermAck_closed C (hK.sub rfl) | with_reducible apply State.via_closed C (hK.sub rfl))

theorem execThreshWrite_closed (C : Closed K P) (hK : Sub 0x240010001 K) (m : Master) (v : Word) (s : State) {t' : State} (e : execThreshWrite m v s = .next t') (hP : P s) : P t' := by
  unfold execThreshWrite at e
  refine done_closed C (hK.sub rfl) e ?_
  try dsimp only
  repeat' (first | with_reducible assumption | intro _ | with_reducible apply State.threshWrite_closed C (hK.sub rfl) | with_reducible apply State.via_closed C (hK.sub rfl))

theorem execPeakClr_closed (C : Closed K P) (hK : Sub 0x240010001 K) (m : Master) (s : State) {t' : State} (e : execPeakClr m s = .next t') (hP : P s) : P t' := by
  unfold execPeakClr at e
  refine done_closed C (hK.sub rfl) e ?_
  try dsimp only
  repeat' (first | with_reducible assumption | intro _ | with_reducible apply State.peakWrite_closed C (hK.sub rfl) | with_reducible apply State.via_closed C (hK.sub rfl))

theorem execBargeBoundary_closed (C : Closed K P) (hK : Sub 0x24001000f K) (n : Fin 48) (s : State) {t' : State} (e : execBargeBoundary n s = .next t') (hP : P s) : P t' := by
  unfold execBargeBoundary at e
  refine done_closed C (hK.sub rfl) e ?_
  try dsimp only
  repeat' (first | with_reducible assumption | with_reducible apply State.bargeEdge_closed C (hK.sub rfl))

theorem execGroupBoundary_closed (C : Closed K P) (hK : Sub 0x24001000f K) (n : Fin 48) (s : State) {t' : State} (e : execGroupBoundary n s = .next t') (hP : P s) : P t' := by
  unfold execGroupBoundary at e
  refine done_closed C (hK.sub rfl) e ?_
  try dsimp only
  repeat' (first | with_reducible assumption | with_reducible apply State.groupEdge_closed C (hK.sub rfl))

theorem execAdd_closed (C : Closed K P) (hK : Sub 0x4001003c K) (k : Core) (d a b : Fin 16) (s : State) {t' : State} (e : execAdd k d a b s = .next t') (hP : P s) : P t' := by
  unfold execAdd at e
  refine done_closed C (hK.sub rfl) e ?_
  try dsimp only
  repeat' (first | with_reducible assumption | with_reducible apply State.runAlu_closed C (hK.sub rfl))

theorem execSub_closed (C : Closed K P) (hK : Sub 0x4001003c K) (k : Core) (d a b : Fin 16) (s : State) {t' : State} (e : execSub k d a b s = .next t') (hP : P s) : P t' := by
  unfold execSub at e
  refine done_closed C (hK.sub rfl) e ?_
  try dsimp only
  repeat' (first | with_reducible assumption | with_reducible apply State.runAlu_closed C (hK.sub rfl))

theorem execAnd_closed (C : Closed K P) (hK : Sub 0x4001003c K) (k : Core) (d a b : Fin 16) (s : State) {t' : State} (e : execAnd k d a b s = .next t') (hP : P s) : P t' := by
  unfold execAnd at e
  refine done_closed C (hK.sub rfl) e ?_
  try dsimp only
  repeat' (first | with_reducible assumption | with_reducible apply State.runAlu_closed C (hK.sub rfl))

theorem execOr_closed (C : Closed K P) (hK : Sub 0x4001003c K) (k : Core) (d a b : Fin 16) (s : State) {t' : State} (e : execOr k d a b s = .next t') (hP : P s) : P t' := by
  unfold execOr at e
  refine done_closed C (hK.sub rfl) e ?_
  try dsimp only
  repeat' (first | with_reducible assumption | with_reducible apply State.runAlu_closed C (hK.sub rfl))

theorem execXor_closed (C : Closed K P) (hK : Sub 0x4001003c K) (k : Core) (d a b : Fin 16) (s : State) {t' : State} (e : execXor k d a b s = .next t') (hP : P s) : P t' := by
  unfold execXor at e
  refine done_closed C (hK.sub rfl) e ?_
  try dsimp only
  repeat' (first | with_reducible assumption | with_reducible apply State.runAlu_closed C (hK.sub rfl))

theorem execShl_closed (C : Closed K P) (hK : Sub 0x4001003c K) (k : Core) (d a b : Fin 16) (s : State) {t' : State} (e : execShl k d a b s = .next t') (hP : P s) : P t' := by
  unfold execShl at e
  refine done_closed C (hK.sub rfl) e ?_
  try dsimp only
  repeat' (first | with_reducible assumption | with_reducible apply State.runAlu_closed C (hK.sub rfl))

theorem execShr_closed (C : Closed K P) (hK : Sub 0x4001003c K) (k : Core) (d a b : Fin 16) (s : State) {t' : State} (e : execShr k d a b s = .next t') (hP : P s) : P t' := by
  unfold execShr at e
  refine done_closed C (hK.sub rfl) e ?_
  try dsimp only
  repeat' (first | with_reducible assumption | with_reducible apply State.runAlu_closed C (hK.sub rfl))

theorem execSar_closed (C : Closed K P) (hK : Sub 0x4001003c K) (k : Core) (d a b : Fin 16) (s : State) {t' : State} (e : execSar k d a b s = .next t') (hP : P s) : P t' := by
  unfold execSar at e
  refine done_closed C (hK.sub rfl) e ?_
  try dsimp only
  repeat' (first | with_reducible assumption | with_reducible apply State.runAlu_closed C (hK.sub rfl))

theorem execMul_closed (C : Closed K P) (hK : Sub 0x4001003c K) (k : Core) (d a b : Fin 16) (s : State) {t' : State} (e : execMul k d a b s = .next t') (hP : P s) : P t' := by
  unfold execMul at e
  refine done_closed C (hK.sub rfl) e ?_
  try dsimp only
  repeat' (first | with_reducible assumption | with_reducible apply State.runAlu_closed C (hK.sub rfl))

theorem execMulh_closed (C : Closed K P) (hK : Sub 0x4001003c K) (k : Core) (d a b : Fin 16) (s : State) {t' : State} (e : execMulh k d a b s = .next t') (hP : P s) : P t' := by
  unfold execMulh at e
  refine done_closed C (hK.sub rfl) e ?_
  try dsimp only
  repeat' (first | with_reducible assumption | with_reducible apply State.runAlu_closed C (hK.sub rfl))

theorem execMulhu_closed (C : Closed K P) (hK : Sub 0x4001003c K) (k : Core) (d a b : Fin 16) (s : State) {t' : State} (e : execMulhu k d a b s = .next t') (hP : P s) : P t' := by
  unfold execMulhu at e
  refine done_closed C (hK.sub rfl) e ?_
  try dsimp only
  repeat' (first | with_reducible assumption | with_reducible apply State.runAlu_closed C (hK.sub rfl))

theorem execCmp_closed (C : Closed K P) (hK : Sub 0x40010034 K) (k : Core) (a b : Fin 16) (s : State) {t' : State} (e : execCmp k a b s = .next t') (hP : P s) : P t' := by
  unfold execCmp at e
  refine done_closed C (hK.sub rfl) e ?_
  try dsimp only
  repeat' (first | with_reducible assumption | with_reducible apply State.runCmp_closed C (hK.sub rfl))

theorem execMin_closed (C : Closed K P) (hK : Sub 0x4001003c K) (k : Core) (d a b : Fin 16) (s : State) {t' : State} (e : execMin k d a b s = .next t') (hP : P s) : P t' := by
  unfold execMin at e
  refine done_closed C (hK.sub rfl) e ?_
  try dsimp only
  repeat' (first | with_reducible assumption | with_reducible apply State.runAlu_closed C (hK.sub rfl) | with_reducible apply closed_ite | with_reducible apply closed_ite_fst)

theorem execMax_closed (C : Closed K P) (hK : Sub 0x4001003c K) (k : Core) (d a b : Fin 16) (s : State) {t' : State} (e : execMax k d a b s = .next t') (hP : P s) : P t' := by
  unfold execMax at e
  refine done_closed C (hK.sub rfl) e ?_
  try dsimp only
  repeat' (first | with_reducible assumption | with_reducible apply State.runAlu_closed C (hK.sub rfl) | with_reducible apply closed_ite | with_reducible apply closed_ite_fst)

theorem execAdds_closed (C : Closed K P) (hK : Sub 0x4001003c K) (k : Core) (d a b : Fin 16) (s : State) {t' : State} (e : execAdds k d a b s = .next t') (hP : P s) : P t' := by
  unfold execAdds at e
  refine done_closed C (hK.sub rfl) e ?_
  try dsimp only
  repeat' (first | with_reducible assumption | with_reducible apply State.runAlu_closed C (hK.sub rfl))

theorem execSubs_closed (C : Closed K P) (hK : Sub 0x4001003c K) (k : Core) (d a b : Fin 16) (s : State) {t' : State} (e : execSubs k d a b s = .next t') (hP : P s) : P t' := by
  unfold execSubs at e
  refine done_closed C (hK.sub rfl) e ?_
  try dsimp only
  repeat' (first | with_reducible assumption | with_reducible apply State.runAlu_closed C (hK.sub rfl))

theorem execJalr_closed (C : Closed K P) (hK : Sub 0x2408103bf K) (k : Core) (d a : Fin 16) (s : State) {t' : State} (e : execJalr k d a s = .next t') (hP : P s) : P t' := by
  unfold execJalr at e
  refine done_closed C (hK.sub rfl) e ?_
  try dsimp only
  repeat' (first | with_reducible assumption | with_reducible apply State.runJalr_closed C (hK.sub rfl))

theorem execAddi_closed (C : Closed K P) (hK : Sub 0x4001003c K) (k : Core) (d a : Fin 16) (imm : BitVec 16) (s : State) {t' : State} (e : execAddi k d a imm s = .next t') (hP : P s) : P t' := by
  unfold execAddi at e
  refine done_closed C (hK.sub rfl) e ?_
  try dsimp only
  repeat' (first | with_reducible assumption | with_reducible apply State.runAlu_closed C (hK.sub rfl))

theorem execAndi_closed (C : Closed K P) (hK : Sub 0x4001003c K) (k : Core) (d a : Fin 16) (imm : BitVec 16) (s : State) {t' : State} (e : execAndi k d a imm s = .next t') (hP : P s) : P t' := by
  unfold execAndi at e
  refine done_closed C (hK.sub rfl) e ?_
  try dsimp only
  repeat' (first | with_reducible assumption | with_reducible apply State.runAlu_closed C (hK.sub rfl))

theorem execOri_closed (C : Closed K P) (hK : Sub 0x4001003c K) (k : Core) (d a : Fin 16) (imm : BitVec 16) (s : State) {t' : State} (e : execOri k d a imm s = .next t') (hP : P s) : P t' := by
  unfold execOri at e
  refine done_closed C (hK.sub rfl) e ?_
  try dsimp only
  repeat' (first | with_reducible assumption | with_reducible apply State.runAlu_closed C (hK.sub rfl))

theorem execXori_closed (C : Closed K P) (hK : Sub 0x4001003c K) (k : Core) (d a : Fin 16) (imm : BitVec 16) (s : State) {t' : State} (e : execXori k d a imm s = .next t') (hP : P s) : P t' := by
  unfold execXori at e
  refine done_closed C (hK.sub rfl) e ?_
  try dsimp only
  repeat' (first | with_reducible assumption | with_reducible apply State.runAlu_closed C (hK.sub rfl))

theorem execShli_closed (C : Closed K P) (hK : Sub 0x4001003c K) (k : Core) (d a : Fin 16) (amt : Fin 32) (s : State) {t' : State} (e : execShli k d a amt s = .next t') (hP : P s) : P t' := by
  unfold execShli at e
  refine done_closed C (hK.sub rfl) e ?_
  try dsimp only
  repeat' (first | with_reducible assumption | with_reducible apply State.runAlu_closed C (hK.sub rfl))

theorem execShri_closed (C : Closed K P) (hK : Sub 0x4001003c K) (k : Core) (d a : Fin 16) (amt : Fin 32) (s : State) {t' : State} (e : execShri k d a amt s = .next t') (hP : P s) : P t' := by
  unfold execShri at e
  refine done_closed C (hK.sub rfl) e ?_
  try dsimp only
  repeat' (first | with_reducible assumption | with_reducible apply State.runAlu_closed C (hK.sub rfl))

theorem execSari_closed (C : Closed K P) (hK : Sub 0x4001003c K) (k : Core) (d a : Fin 16) (amt : Fin 32) (s : State) {t' : State} (e : execSari k d a amt s = .next t') (hP : P s) : P t' := by
  unfold execSari at e
  refine done_closed C (hK.sub rfl) e ?_
  try dsimp only
  repeat' (first | with_reducible assumption | with_reducible apply State.runAlu_closed C (hK.sub rfl))

theorem execLui_closed (C : Closed K P) (hK : Sub 0x4001003c K) (k : Core) (d : Fin 16) (imm : BitVec 16) (s : State) {t' : State} (e : execLui k d imm s = .next t') (hP : P s) : P t' := by
  unfold execLui at e
  refine done_closed C (hK.sub rfl) e ?_
  try dsimp only
  repeat' (first | with_reducible assumption | with_reducible apply State.runAlu_closed C (hK.sub rfl))

theorem execCmpi_closed (C : Closed K P) (hK : Sub 0x40010034 K) (k : Core) (a : Fin 16) (imm : BitVec 16) (s : State) {t' : State} (e : execCmpi k a imm s = .next t') (hP : P s) : P t' := by
  unfold execCmpi at e
  refine done_closed C (hK.sub rfl) e ?_
  try dsimp only
  repeat' (first | with_reducible assumption | with_reducible apply State.runCmp_closed C (hK.sub rfl))

theorem execB_closed (C : Closed K P) (hK : Sub 0x2408103bf K) (k : Core) (cond : Fin 16) (off : BitVec 20) (s : State) {t' : State} (e : execB k cond off s = .next t') (hP : P s) : P t' := by
  unfold execB at e
  refine done_closed C (hK.sub rfl) e ?_
  try dsimp only
  repeat' (first | with_reducible assumption | with_reducible apply State.runBranch_closed C (hK.sub rfl))

theorem execBl_closed (C : Closed K P) (hK : Sub 0x2408103bf K) (k : Core) (cond : Fin 16) (off : BitVec 20) (s : State) {t' : State} (e : execBl k cond off s = .next t') (hP : P s) : P t' := by
  unfold execBl at e
  refine done_closed C (hK.sub rfl) e ?_
  try dsimp only
  repeat' (first | with_reducible assumption | with_reducible apply State.runBranch_closed C (hK.sub rfl))

theorem execSvc_closed (C : Closed K P) (hK : Sub 0x2408103bf K) (imm : BitVec 16) (s : State) {t' : State} (e : execSvc imm s = .next t') (hP : P s) : P t' := by
  unfold execSvc at e
  refine done_closed C (hK.sub rfl) e ?_
  try dsimp only
  repeat' (first | with_reducible assumption | with_reducible apply State.supTrap_closed C (hK.sub rfl) | with_reducible apply closed_ite | with_reducible apply closed_ite_fst)

theorem execEret_closed (C : Closed K P) (hK : Sub 0x2408103bf K) (s : State) {t' : State} (e : execEret s = .next t') (hP : P s) : P t' := by
  unfold execEret at e
  refine done_closed C (hK.sub rfl) e ?_
  try dsimp only
  repeat' (first | with_reducible assumption | with_reducible apply State.runEret_closed C (hK.sub rfl))

theorem execWfi_closed (C : Closed K P) (hK : Sub 0x2408103bf K) (s : State) {t' : State} (e : execWfi s = .next t') (hP : P s) : P t' := by
  unfold execWfi at e
  refine done_closed C (hK.sub rfl) e ?_
  try dsimp only
  repeat' (first | with_reducible assumption | with_reducible apply State.runWfi_closed C (hK.sub rfl))

theorem execWfiWake_closed (C : Closed K P) (hK : Sub 0x40000010 K) (s : State) {t' : State} (e : execWfiWake s = .next t') (hP : P s) : P t' := by
  unfold execWfiWake at e
  refine done_closed C (hK.sub rfl) e ?_
  try dsimp only
  repeat' (first | with_reducible assumption | with_reducible apply State.wakeWfi_closed C (hK.sub rfl))

theorem execIllegalInstruction_closed (C : Closed K P) (hK : Sub 0x2408103bf K) (k : Core) (w : Word) (s : State) {t' : State} (e : execIllegalInstruction k w s = .next t') (hP : P s) : P t' := by
  unfold execIllegalInstruction at e
  refine done_closed C (hK.sub rfl) e ?_
  try dsimp only
  repeat' (first | with_reducible assumption | with_reducible apply State.illegal_closed C (hK.sub rfl) | with_reducible apply closed_ite | with_reducible apply closed_ite_fst)

theorem execInterruptTaken_closed (C : Closed K P) (hK : Sub 0x40010030 K) (secure : Bool) (s : State) {t' : State} (e : execInterruptTaken secure s = .next t') (hP : P s) : P t' := by
  unfold execInterruptTaken at e
  refine done_closed C (hK.sub rfl) e ?_
  try dsimp only
  repeat' (first | with_reducible assumption | with_reducible apply State.takeInterrupt_closed C (hK.sub rfl))

theorem execMovcRead_closed (C : Closed K P) (hK : Sub 0x2608103bf K) (d : Fin 16) (c : Fin 32) (s : State) {t' : State} (e : execMovcRead d c s = .next t') (hP : P s) : P t' := by
  unfold execMovcRead at e
  refine done_closed C (hK.sub rfl) e ?_
  try dsimp only
  repeat' (first | with_reducible assumption | intro _ | with_reducible apply State.runMovc_closed C (hK.sub rfl) | with_reducible apply State.movcIn_closed C (hK.sub rfl))

theorem execMovcWrite_closed (C : Closed K P) (hK : Sub 0x2408103bf K) (c : Fin 32) (a : Fin 16) (s : State) {t' : State} (e : execMovcWrite c a s = .next t') (hP : P s) : P t' := by
  unfold execMovcWrite at e
  refine done_closed C (hK.sub rfl) e ?_
  try dsimp only
  repeat' (first | with_reducible assumption | intro _ | with_reducible apply State.runMovc_closed C (hK.sub rfl) | with_reducible apply State.cregWrite_closed C (hK.sub rfl))

theorem execInstructionFetchTrap_closed (C : Closed K P) (hK : Sub 0x2c08113bf K) (k : Core) (s : State) {t' : State} (e : execInstructionFetchTrap k s = .next t') (hP : P s) : P t' := by
  unfold execInstructionFetchTrap at e
  refine done_closed C (hK.sub rfl) e ?_
  try dsimp only
  repeat' (first | with_reducible assumption | with_reducible apply State.fetchTrap_closed C (hK.sub rfl))

theorem execCld_closed (C : Closed K P) (hK : Sub 0x2408103bf K) (n : Fin 48) (d a : Fin 16) (imm : BitVec 12) (s : State) {t' : State} (e : execCld n d a imm s = .next t') (hP : P s) : P t' := by
  unfold execCld at e
  refine done_closed C (hK.sub rfl) e ?_
  try dsimp only
  repeat' (first | with_reducible assumption | intro _ | with_reducible apply State.runExt_closed C (hK.sub rfl) | with_reducible apply State.setReg_closed C (hK.sub rfl) | with_reducible apply closed_ite | with_reducible apply closed_ite_fst)

theorem execCst_closed (C : Closed K P) (hK : Sub 0x2408103bf K) (n : Fin 48) (d a : Fin 16) (imm : BitVec 12) (s : State) {t' : State} (e : execCst n d a imm s = .next t') (hP : P s) : P t' := by
  unfold execCst at e
  refine done_closed C (hK.sub rfl) e ?_
  try dsimp only
  repeat' (first | with_reducible assumption | intro _ | with_reducible apply State.runExt_closed C (hK.sub rfl) | with_reducible apply State.setShadow_closed C (hK.sub rfl))

theorem execCupd_closed (C : Closed K P) (hK : Sub 0x2408103bf K) (n : Fin 48) (d a : Fin 16) (imm : BitVec 12) (s : State) {t' : State} (e : execCupd n d a imm s = .next t') (hP : P s) : P t' := by
  unfold execCupd at e
  refine done_closed C (hK.sub rfl) e ?_
  try dsimp only
  repeat' (first | with_reducible assumption | with_reducible apply State.runUpdate_closed C (hK.sub rfl))

theorem execCupdu_closed (C : Closed K P) (hK : Sub 0x2408103bf K) (n : Fin 48) (d a : Fin 16) (imm : BitVec 12) (s : State) {t' : State} (e : execCupdu n d a imm s = .next t') (hP : P s) : P t' := by
  unfold execCupdu at e
  refine done_closed C (hK.sub rfl) e ?_
  try dsimp only
  repeat' (first | with_reducible assumption | with_reducible apply State.runUpdate_closed C (hK.sub rfl))

theorem execCmt_closed (C : Closed K P) (hK : Sub 0x24001000d K) (n : Fin 48) (d : Fin 16) (group : Bool) (s : State) {t' : State} (e : execCmt n d group s = .next t') (hP : P s) : P t' := by
  unfold execCmt at e
  refine done_closed C (hK.sub rfl) e ?_
  try dsimp only
  repeat' (first | with_reducible assumption | with_reducible apply State.runCmt_closed C (hK.sub rfl))

theorem execCstart_closed (C : Closed K P) (hK : Sub 0x2408103bf K) (n : Fin 48) (imm : BitVec 12) (s : State) {t' : State} (e : execCstart n imm s = .next t') (hP : P s) : P t' := by
  unfold execCstart at e
  refine done_closed C (hK.sub rfl) e ?_
  try dsimp only
  repeat' (first | with_reducible assumption | with_reducible apply State.runCstart_closed C (hK.sub rfl))

theorem execCsgn_closed (C : Closed K P) (hK : Sub 0x2408103bf K) (n : Fin 48) (d a : Fin 16) (imm : BitVec 12) (s : State) {t' : State} (e : execCsgn n d a imm s = .next t') (hP : P s) : P t' := by
  unfold execCsgn at e
  refine done_closed C (hK.sub rfl) e ?_
  try dsimp only
  repeat' (first | with_reducible assumption | with_reducible apply State.runCsgn_closed C (hK.sub rfl))

theorem execHsum_closed (C : Closed K P) (hK : Sub 0x2408103bf K) (n : Fin 48) (d a : Fin 16) (imm : BitVec 12) (s : State) {t' : State} (e : execHsum n d a imm s = .next t') (hP : P s) : P t' := by
  unfold execHsum at e
  refine done_closed C (hK.sub rfl) e ?_
  try dsimp only
  repeat' (first | with_reducible assumption | with_reducible apply State.runHsum_closed C (hK.sub rfl))

theorem execWfe_closed (C : Closed K P) (hK : Sub 0x4001003d K) (n : Fin 48) (d a : Fin 16) (imm : BitVec 12) (s : State) {t' : State} (e : execWfe n d a imm s = .next t') (hP : P s) : P t' := by
  unfold execWfe at e
  refine done_closed C (hK.sub rfl) e ?_
  try dsimp only
  repeat' (first | with_reducible assumption | with_reducible apply State.runWfe_closed C (hK.sub rfl))

theorem execWfeRelease_closed (C : Closed K P) (hK : Sub 0x4001000d K) (n : Fin 48) (s : State) {t' : State} (e : execWfeRelease n s = .next t') (hP : P s) : P t' := by
  unfold execWfeRelease at e
  refine done_closed C (hK.sub rfl) e ?_
  try dsimp only
  repeat' (first | with_reducible assumption | with_reducible apply State.wfeRelease_closed C (hK.sub rfl))

theorem execWfeTimeout_closed (C : Closed K P) (hK : Sub 0x4001003d K) (n : Fin 48) (s : State) {t' : State} (e : execWfeTimeout n s = .next t') (hP : P s) : P t' := by
  unfold execWfeTimeout at e
  refine done_closed C (hK.sub rfl) e ?_
  try dsimp only
  repeat' (first | with_reducible assumption | with_reducible apply State.wfeExpire_closed C (hK.sub rfl))

theorem execMpost_closed (C : Closed K P) (hK : Sub 0x2408103ff K) (n : Fin 48) (d a : Fin 16) (imm : BitVec 12) (s : State) {t' : State} (e : execMpost n d a imm s = .next t') (hP : P s) : P t' := by
  unfold execMpost at e
  refine done_closed C (hK.sub rfl) e ?_
  try dsimp only
  repeat' (first | with_reducible assumption | with_reducible apply State.runMpost_closed C (hK.sub rfl))

theorem execMtake_closed (C : Closed K P) (hK : Sub 0x2408103ff K) (n : Fin 48) (d a : Fin 16) (s : State) {t' : State} (e : execMtake n d a s = .next t') (hP : P s) : P t' := by
  unfold execMtake at e
  refine done_closed C (hK.sub rfl) e ?_
  try dsimp only
  repeat' (first | with_reducible assumption | with_reducible apply State.runMtake_closed C (hK.sub rfl))

theorem execStop_closed (C : Closed K P) (hK : Sub 0x24001001d K) (n : Fin 48) (s : State) {t' : State} (e : execStop n s = .next t') (hP : P s) : P t' := by
  unfold execStop at e
  refine done_closed C (hK.sub rfl) e ?_
  try dsimp only
  repeat' (first | with_reducible assumption | with_reducible apply State.advance_closed C (hK.sub rfl) | with_reducible apply State.seqHalt_closed C (hK.sub rfl) | with_reducible apply closed_ite | with_reducible apply closed_ite_fst)

theorem execSeqStart_closed (C : Closed K P) (hK : Sub 0x24001004d K) (m : Master) (n : Fin 48) (s : State) {t' : State} (e : execSeqStart m n s = .next t') (hP : P s) : P t' := by
  unfold execSeqStart at e
  refine done_closed C (hK.sub rfl) e ?_
  try dsimp only
  repeat' (first | with_reducible assumption | intro _ | with_reducible apply State.seqCtl_closed C (hK.sub rfl) | with_reducible apply State.via_closed C (hK.sub rfl))

theorem execSeqResume_closed (C : Closed K P) (hK : Sub 0x24001004d K) (m : Master) (n : Fin 48) (s : State) {t' : State} (e : execSeqResume m n s = .next t') (hP : P s) : P t' := by
  unfold execSeqResume at e
  refine done_closed C (hK.sub rfl) e ?_
  try dsimp only
  repeat' (first | with_reducible assumption | intro _ | with_reducible apply State.seqCtl_closed C (hK.sub rfl) | with_reducible apply State.via_closed C (hK.sub rfl))

theorem execSeqStop_closed (C : Closed K P) (hK : Sub 0x24001004d K) (m : Master) (n : Fin 48) (s : State) {t' : State} (e : execSeqStop m n s = .next t') (hP : P s) : P t' := by
  unfold execSeqStop at e
  refine done_closed C (hK.sub rfl) e ?_
  try dsimp only
  repeat' (first | with_reducible assumption | intro _ | with_reducible apply State.seqCtl_closed C (hK.sub rfl) | with_reducible apply State.via_closed C (hK.sub rfl))

theorem execSeqSafe_closed (C : Closed K P) (hK : Sub 0x24001004d K) (m : Master) (n : Fin 48) (s : State) {t' : State} (e : execSeqSafe m n s = .next t') (hP : P s) : P t' := by
  unfold execSeqSafe at e
  refine done_closed C (hK.sub rfl) e ?_
  try dsimp only
  repeat' (first | with_reducible assumption | intro _ | with_reducible apply State.seqCtl_closed C (hK.sub rfl) | with_reducible apply State.via_closed C (hK.sub rfl))

theorem execSeqLoaded_closed (C : Closed K P) (hK : Sub 0x24001004d K) (m : Master) (n : Fin 48) (s : State) {t' : State} (e : execSeqLoaded m n s = .next t') (hP : P s) : P t' := by
  unfold execSeqLoaded at e
  refine done_closed C (hK.sub rfl) e ?_
  try dsimp only
  repeat' (first | with_reducible assumption | intro _ | with_reducible apply State.seqCtl_closed C (hK.sub rfl) | with_reducible apply State.via_closed C (hK.sub rfl))

theorem execSafeTimeout_closed (C : Closed K P) (hK : Sub 0x24001000d K) (n : Fin 48) (s : State) {t' : State} (e : execSafeTimeout n s = .next t') (hP : P s) : P t' := by
  unfold execSafeTimeout at e
  refine done_closed C (hK.sub rfl) e ?_
  try dsimp only
  repeat' (first | with_reducible assumption | with_reducible apply State.safeExpire_closed C (hK.sub rfl))

theorem execImemWrite_closed (C : Closed K P) (hK : Sub 0x2c0011001 K) (m : Master) (n : Fin 48) (w : Fin 4096) (v : Word) (s : State) {t' : State} (e : execImemWrite m n w v s = .next t') (hP : P s) : P t' := by
  unfold execImemWrite at e
  refine done_closed C (hK.sub rfl) e ?_
  try dsimp only
  repeat' (first | with_reducible assumption | with_reducible apply State.windowWrite_closed C (hK.sub rfl) | with_reducible apply State.busTally_closed C (hK.sub rfl) | with_reducible apply answer_closed C (hK.sub rfl))

theorem execBroadcastWrite_closed (C : Closed K P) (hK : Sub 0x2c0011001 K) (m : Master) (t : Fin 4) (off : Fin 32768) (size : Size) (v : Word) (s : State) {t' : State} (e : execBroadcastWrite m t off size v s = .next t') (hP : P s) : P t' := by
  unfold execBroadcastWrite at e
  refine done_closed C (hK.sub rfl) e ?_
  try dsimp only
  repeat' (first | with_reducible assumption | with_reducible apply State.broadcast_closed C (hK.sub rfl) | with_reducible apply State.busTally_closed C (hK.sub rfl) | with_reducible apply answer_closed C (hK.sub rfl))

theorem execSeqEvtSet_closed (C : Closed K P) (hK : Sub 0x240010001 K) (m : Master) (n : Fin 48) (v : Word) (s : State) {t' : State} (e : execSeqEvtSet m n v s = .next t') (hP : P s) : P t' := by
  unfold execSeqEvtSet at e
  refine done_closed C (hK.sub rfl) e ?_
  try dsimp only
  repeat' (first | with_reducible assumption | intro _ | with_reducible apply State.evtSet_closed C (hK.sub rfl) | with_reducible apply State.via_closed C (hK.sub rfl) | with_reducible apply closed_ite | with_reducible apply closed_ite_fst)

theorem execMailboxPost_closed (C : Closed K P) (hK : Sub 0x240010041 K) (m : Master) (c : Fin 104) (v : Word) (s : State) {t' : State} (e : execMailboxPost m c v s = .next t') (hP : P s) : P t' := by
  unfold execMailboxPost at e
  refine done_closed C (hK.sub rfl) e ?_
  try dsimp only
  repeat' (first | with_reducible assumption | intro _ | with_reducible apply State.postHi_closed C (hK.sub rfl) | with_reducible apply State.via_closed C (hK.sub rfl))

theorem execMailboxTake_closed (C : Closed K P) (hK : Sub 0x240010041 K) (m : Master) (c : Fin 104) (s : State) {t' : State} (e : execMailboxTake m c s = .next t') (hP : P s) : P t' := by
  unfold execMailboxTake at e
  refine done_closed C (hK.sub rfl) e ?_
  try dsimp only
  repeat' (first | with_reducible assumption | intro _ | with_reducible apply State.takeLo_closed C (hK.sub rfl) | with_reducible apply State.viaRead_closed C (hK.sub rfl))

theorem execResetDecl_closed (C : Closed K P) (hK : Sub 0x240010041 K) (m : Master) (v : Word) (s : State) {t' : State} (e : execResetDecl m v s = .next t') (hP : P s) : P t' := by
  unfold execResetDecl at e
  refine done_closed C (hK.sub rfl) e ?_
  try dsimp only
  repeat' (first | with_reducible assumption | intro _ | with_reducible apply State.resetDecl_closed C (hK.sub rfl) | with_reducible apply State.via_closed C (hK.sub rfl))

theorem execSemaphoreRead_closed (C : Closed K P) (hK : Sub 0x240010001 K) (m : Master) (i : Fin 32) (s : State) {t' : State} (e : execSemaphoreRead m i s = .next t') (hP : P s) : P t' := by
  unfold execSemaphoreRead at e
  refine done_closed C (hK.sub rfl) e ?_
  try dsimp only
  repeat' (first | with_reducible assumption | intro _ | with_reducible apply State.semRead_closed C (hK.sub rfl) | with_reducible apply State.viaRead_closed C (hK.sub rfl))

theorem execSemaphoreRelease_closed (C : Closed K P) (hK : Sub 0x240010001 K) (m : Master) (i : Fin 32) (s : State) {t' : State} (e : execSemaphoreRelease m i s = .next t') (hP : P s) : P t' := by
  unfold execSemaphoreRelease at e
  refine done_closed C (hK.sub rfl) e ?_
  try dsimp only
  repeat' (first | with_reducible assumption | intro _ | with_reducible apply State.semWrite_closed C (hK.sub rfl) | with_reducible apply State.via_closed C (hK.sub rfl))

theorem execHostEoi_closed (C : Closed K P) (hK : Sub 0x240010001 K) (m : Master) (v : Fin 64) (s : State) {t' : State} (e : execHostEoi m v s = .next t') (hP : P s) : P t' := by
  unfold execHostEoi at e
  refine done_closed C (hK.sub rfl) e ?_
  try dsimp only
  repeat' (first | with_reducible assumption | intro _ | with_reducible apply State.hostEoi_closed C (hK.sub rfl) | with_reducible apply State.via_closed C (hK.sub rfl))

theorem execSoftSet_closed (C : Closed K P) (hK : Sub 0x240010001 K) (m : Master) (v : Word) (s : State) {t' : State} (e : execSoftSet m v s = .next t') (hP : P s) : P t' := by
  unfold execSoftSet at e
  refine done_closed C (hK.sub rfl) e ?_
  try dsimp only
  repeat' (first | with_reducible assumption | intro _ | with_reducible apply State.irqWrite_closed C (hK.sub rfl) | with_reducible apply State.via_closed C (hK.sub rfl))

theorem execSoftClr_closed (C : Closed K P) (hK : Sub 0x240010001 K) (m : Master) (v : Word) (s : State) {t' : State} (e : execSoftClr m v s = .next t') (hP : P s) : P t' := by
  unfold execSoftClr at e
  refine done_closed C (hK.sub rfl) e ?_
  try dsimp only
  repeat' (first | with_reducible assumption | intro _ | with_reducible apply State.irqWrite_closed C (hK.sub rfl) | with_reducible apply State.via_closed C (hK.sub rfl))

theorem execCounterWrap_closed (C : Closed K P) (hK : Sub 0x40010001 K) (i : Fin 32) (_past : Unit) (s : State) {t' : State} (e : execCounterWrap i _past s = .next t') (hP : P s) : P t' := by
  unfold execCounterWrap at e
  refine done_closed C (hK.sub rfl) e ?_
  try dsimp only
  repeat' (first | with_reducible assumption | with_reducible apply State.counterWrap_closed C (hK.sub rfl))

theorem execCounterRead_closed (C : Closed K P) (hK : Sub 0x260010000 K) (m : Master) (i : Fin 32) (s : State) {t' : State} (e : execCounterRead m i s = .next t') (hP : P s) : P t' := by
  unfold execCounterRead at e
  refine done_closed C (hK.sub rfl) e ?_
  try dsimp only
  repeat' (first | with_reducible assumption | intro _ | with_reducible apply State.counterLow_closed C (hK.sub rfl) | with_reducible apply State.viaRead_closed C (hK.sub rfl))

theorem execCounterLoad_closed (C : Closed K P) (hK : Sub 0x240010001 K) (m : Master) (i : Fin 32) (hi : Word) (s : State) {t' : State} (e : execCounterLoad m i hi s = .next t') (hP : P s) : P t' := by
  unfold execCounterLoad at e
  refine done_closed C (hK.sub rfl) e ?_
  try dsimp only
  repeat' (first | with_reducible assumption | intro _ | with_reducible apply State.counterLoad_closed C (hK.sub rfl) | with_reducible apply State.via_closed C (hK.sub rfl))

theorem execFreeze_closed (C : Closed K P) (hK : Sub 0x240010001 K) (m : Master) (on : Bool) (s : State) {t' : State} (e : execFreeze m on s = .next t') (hP : P s) : P t' := by
  unfold execFreeze at e
  refine done_closed C (hK.sub rfl) e ?_
  try dsimp only
  repeat' (first | with_reducible assumption | intro _ | with_reducible apply State.perfCtl_closed C (hK.sub rfl) | with_reducible apply State.via_closed C (hK.sub rfl))

theorem execSnap_closed (C : Closed K P) (hK : Sub 0x240010001 K) (m : Master) (s : State) {t' : State} (e : execSnap m s = .next t') (hP : P s) : P t' := by
  unfold execSnap at e
  refine done_closed C (hK.sub rfl) e ?_
  try dsimp only
  repeat' (first | with_reducible assumption | intro _ | with_reducible apply State.perfAct_closed C (hK.sub rfl) | with_reducible apply State.via_closed C (hK.sub rfl))

theorem execClearAll_closed (C : Closed K P) (hK : Sub 0x240010001 K) (m : Master) (s : State) {t' : State} (e : execClearAll m s = .next t') (hP : P s) : P t' := by
  unfold execClearAll at e
  refine done_closed C (hK.sub rfl) e ?_
  try dsimp only
  repeat' (first | with_reducible assumption | intro _ | with_reducible apply State.perfAct_closed C (hK.sub rfl) | with_reducible apply State.via_closed C (hK.sub rfl))

theorem execPerfConfigWrite_closed (C : Closed K P) (hK : Sub 0x240010001 K) (m : Master) (i : Fin 32) (r : Fin 6) (v : Word) (s : State) {t' : State} (e : execPerfConfigWrite m i r v s = .next t') (hP : P s) : P t' := by
  unfold execPerfConfigWrite at e
  refine done_closed C (hK.sub rfl) e ?_
  try dsimp only
  repeat' (first | with_reducible assumption | intro _ | with_reducible apply State.perfConfig_closed C (hK.sub rfl) | with_reducible apply State.via_closed C (hK.sub rfl) | with_reducible apply closed_ite | with_reducible apply closed_ite_fst)

theorem execBandwidthRun_closed (C : Closed K P) (hK : Sub 0x240010001 K) (m : Master) (v : Word) (s : State) {t' : State} (e : execBandwidthRun m v s = .next t') (hP : P s) : P t' := by
  unfold execBandwidthRun at e
  refine done_closed C (hK.sub rfl) e ?_
  try dsimp only
  repeat' (first | with_reducible assumption | intro _ | with_reducible apply State.bwCtl_closed C (hK.sub rfl) | with_reducible apply State.via_closed C (hK.sub rfl))

theorem execBandwidthWindowEnd_closed (C : Closed K P) (hK : Sub 0x40010001 K) (_bytes : Unit) (s : State) {t' : State} (e : execBandwidthWindowEnd _bytes s = .next t') (hP : P s) : P t' := by
  unfold execBandwidthWindowEnd at e
  refine done_closed C (hK.sub rfl) e ?_
  try dsimp only
  repeat' (first | with_reducible assumption | with_reducible apply State.bwEnd_closed C (hK.sub rfl))

theorem execAdvance_closed (C : Closed K P) (hK : Sub 0x240030001 K) (m : Master) (v : Word) (s : State) {t' : State} (e : execAdvance m v s = .next t') (hP : P s) : P t' := by
  unfold execAdvance at e
  refine done_closed C (hK.sub rfl) e ?_
  try dsimp only
  repeat' (first | with_reducible assumption | with_reducible apply State.lifeGo_closed C (hK.sub rfl))

theorem execKeyprog_closed (C : Closed K P) (hK : Sub 0x240030001 K) (m : Master) (v : Word) (s : State) {t' : State} (e : execKeyprog m v s = .next t') (hP : P s) : P t' := by
  unfold execKeyprog at e
  refine done_closed C (hK.sub rfl) e ?_
  try dsimp only
  repeat' (first | with_reducible assumption | with_reducible apply State.lifeGo_closed C (hK.sub rfl))

theorem execRevoke_closed (C : Closed K P) (hK : Sub 0x240030001 K) (m : Master) (v : Word) (s : State) {t' : State} (e : execRevoke m v s = .next t') (hP : P s) : P t' := by
  unfold execRevoke at e
  refine done_closed C (hK.sub rfl) e ?_
  try dsimp only
  repeat' (first | with_reducible assumption | with_reducible apply State.lifeGo_closed C (hK.sub rfl))

theorem execRollback_closed (C : Closed K P) (hK : Sub 0x240030001 K) (m : Master) (v : Word) (s : State) {t' : State} (e : execRollback m v s = .next t') (hP : P s) : P t' := by
  unfold execRollback at e
  refine done_closed C (hK.sub rfl) e ?_
  try dsimp only
  repeat' (first | with_reducible assumption | with_reducible apply State.lifeGo_closed C (hK.sub rfl))

theorem execToken_closed (C : Closed K P) (hK : Sub 0x240030001 K) (m : Master) (v : Word) (s : State) {t' : State} (e : execToken m v s = .next t') (hP : P s) : P t' := by
  unfold execToken at e
  refine done_closed C (hK.sub rfl) e ?_
  try dsimp only
  repeat' (first | with_reducible assumption | with_reducible apply State.lifeGo_closed C (hK.sub rfl))

theorem execCfgprog_closed (C : Closed K P) (hK : Sub 0x240030001 K) (m : Master) (v : Word) (s : State) {t' : State} (e : execCfgprog m v s = .next t') (hP : P s) : P t' := by
  unfold execCfgprog at e
  refine done_closed C (hK.sub rfl) e ?_
  try dsimp only
  repeat' (first | with_reducible assumption | with_reducible apply State.lifeGo_closed C (hK.sub rfl))

theorem execLifeCommandDone_closed (C : Closed K P) (hK : Sub 0x1c0031001 K) (ok : Bool) (s : State) {t' : State} (e : execLifeCommandDone ok s = .next t') (hP : P s) : P t' := by
  unfold execLifeCommandDone at e
  refine done_closed C (hK.sub rfl) e ?_
  try dsimp only
  repeat' (first | with_reducible assumption | with_reducible apply State.lifeDone_closed C (hK.sub rfl) | with_reducible apply closed_ite | with_reducible apply closed_ite_fst)

theorem execDbgHalt_closed (C : Closed K P) (hK : Sub 0x240030039 K) (m : Master) (s : State) {t' : State} (e : execDbgHalt m s = .next t') (hP : P s) : P t' := by
  unfold execDbgHalt at e
  refine done_closed C (hK.sub rfl) e ?_
  try dsimp only
  repeat' (first | with_reducible assumption | intro _ | with_reducible apply State.lifeWrite_closed C (hK.sub rfl) | with_reducible apply State.via_closed C (hK.sub rfl))

theorem execDbgHaltTaken_closed (C : Closed K P) (hK : Sub 0x40000011 K) (s : State) {t' : State} (e : execDbgHaltTaken s = .next t') (hP : P s) : P t' := by
  unfold execDbgHaltTaken at e
  refine done_closed C (hK.sub rfl) e ?_
  try dsimp only
  repeat' (first | with_reducible assumption | with_reducible apply State.dbgStop_closed C (hK.sub rfl) | with_reducible apply closed_ite | with_reducible apply closed_ite_fst)

theorem execDbgHaltTimeout_closed (C : Closed K P) (hK : Sub 0x40000001 K) (s : State) {t' : State} (e : execDbgHaltTimeout s = .next t') (hP : P s) : P t' := by
  unfold execDbgHaltTimeout at e
  refine done_closed C (hK.sub rfl) e ?_
  try dsimp only
  repeat' (first | with_reducible assumption | with_reducible apply State.put_closed C (hK.sub rfl) | with_reducible apply closed_ite | with_reducible apply closed_ite_fst)

theorem execDbgResume_closed (C : Closed K P) (hK : Sub 0x240030039 K) (m : Master) (s : State) {t' : State} (e : execDbgResume m s = .next t') (hP : P s) : P t' := by
  unfold execDbgResume at e
  refine done_closed C (hK.sub rfl) e ?_
  try dsimp only
  repeat' (first | with_reducible assumption | intro _ | with_reducible apply State.lifeWrite_closed C (hK.sub rfl) | with_reducible apply State.via_closed C (hK.sub rfl))

theorem execDbgStep_closed (C : Closed K P) (hK : Sub 0x240030039 K) (m : Master) (s : State) {t' : State} (e : execDbgStep m s = .next t') (hP : P s) : P t' := by
  unfold execDbgStep at e
  refine done_closed C (hK.sub rfl) e ?_
  try dsimp only
  repeat' (first | with_reducible assumption | intro _ | with_reducible apply State.lifeWrite_closed C (hK.sub rfl) | with_reducible apply State.via_closed C (hK.sub rfl))

theorem execDbgDataAccess_closed (C : Closed K P) (hK : Sub 0x240030039 K) (m : Master) (w : Option Word) (s : State) {t' : State} (e : execDbgDataAccess m w s = .next t') (hP : P s) : P t' := by
  unfold execDbgDataAccess at e
  refine done_closed C (hK.sub rfl) e ?_
  try dsimp only
  repeat' (first | with_reducible assumption | intro _ | with_reducible apply State.lifeRead_closed C (hK.sub rfl) | with_reducible apply State.lifeWrite_closed C (hK.sub rfl) | with_reducible apply State.viaRead_closed C (hK.sub rfl) | with_reducible apply State.via_closed C (hK.sub rfl) | split)

theorem execBootDoor_closed (C : Closed K P) (hK : Sub 0x240010001 K) (m : Master) (v : Word) (s : State) {t' : State} (e : execBootDoor m v s = .next t') (hP : P s) : P t' := by
  unfold execBootDoor at e
  refine done_closed C (hK.sub rfl) e ?_
  try dsimp only
  repeat' (first | with_reducible assumption | intro _ | with_reducible apply State.bootDoor_closed C (hK.sub rfl) | with_reducible apply State.via_closed C (hK.sub rfl))

theorem execImageAuthenticate_closed (C : Closed K P) (hK : Sub 0x2c0011011 K) (slot : Fin 2) (image : List (BitVec 8)) (s : State) {t' : State} (e : execImageAuthenticate slot image s = .next t') (hP : P s) : P t' := by
  unfold execImageAuthenticate at e
  refine done_closed C (hK.sub rfl) e ?_
  try dsimp only
  repeat' (first | with_reducible assumption | with_reducible apply State.authenticate_closed C (hK.sub rfl))

theorem execFlashCommand_closed (C : Closed K P) (hK : Sub 0x2c0411801 K) (m : Master) (v : Word) (s : State) {t' : State} (e : execFlashCommand m v s = .next t') (hP : P s) : P t' := by
  unfold execFlashCommand at e
  refine done_closed C (hK.sub rfl) e ?_
  try dsimp only
  repeat' (first | with_reducible assumption | intro _ | with_reducible apply State.flashCmd_closed C (hK.sub rfl) | with_reducible apply State.via_closed C (hK.sub rfl))

theorem execFlashCommandEnd_closed (C : Closed K P) (hK : Sub 0x2c0411001 K) (answer : List (BitVec 8) × List (BitVec 8)) (s : State) {t' : State} (e : execFlashCommandEnd answer s = .next t') (hP : P s) : P t' := by
  unfold execFlashCommandEnd at e
  refine done_closed C (hK.sub rfl) e ?_
  try dsimp only
  repeat' (first | with_reducible assumption | with_reducible apply State.flashEnd_closed C (hK.sub rfl) | with_reducible apply answer_closed C (hK.sub rfl))

theorem execFlashCommandTimeout_closed (C : Closed K P) (hK : Sub 0x40400001 K) (s : State) {t' : State} (e : execFlashCommandTimeout s = .next t') (hP : P s) : P t' := by
  unfold execFlashCommandTimeout at e
  refine done_closed C (hK.sub rfl) e ?_
  try dsimp only
  repeat' (first | with_reducible assumption | with_reducible apply State.flashStop_closed C (hK.sub rfl) | with_reducible apply closed_ite | with_reducible apply closed_ite_fst)

theorem execDmaStart_closed (C : Closed K P) (hK : Sub 0x2c0051801 K) (m : Master) (ch : Fin 8) (s : State) {t' : State} (e : execDmaStart m ch s = .next t') (hP : P s) : P t' := by
  unfold execDmaStart at e
  refine done_closed C (hK.sub rfl) e ?_
  try dsimp only
  repeat' (first | with_reducible assumption | intro _ | with_reducible apply State.dmaCtl_closed C (hK.sub rfl) | with_reducible apply State.via_closed C (hK.sub rfl))

theorem execDmaStop_closed (C : Closed K P) (hK : Sub 0x2c0051801 K) (m : Master) (ch : Fin 8) (s : State) {t' : State} (e : execDmaStop m ch s = .next t') (hP : P s) : P t' := by
  unfold execDmaStop at e
  refine done_closed C (hK.sub rfl) e ?_
  try dsimp only
  repeat' (first | with_reducible assumption | intro _ | with_reducible apply State.dmaCtl_closed C (hK.sub rfl) | with_reducible apply State.via_closed C (hK.sub rfl))

theorem execDmaDescriptorDone_closed (C : Closed K P) (hK : Sub 0x2c0051801 K) (ch : Fin 8) (s : State) {t' : State} (e : execDmaDescriptorDone ch s = .next t') (hP : P s) : P t' := by
  unfold execDmaDescriptorDone at e
  refine done_closed C (hK.sub rfl) e ?_
  try dsimp only
  repeat' (first | with_reducible assumption | with_reducible apply State.dmaDone_closed C (hK.sub rfl))

theorem execDmaHostCompletion_closed (C : Closed K P) (hK : Sub 0x2c0051801 K) (ch : Fin 8) (ok : Bool) (bytes : List (BitVec 8)) (s : State) {t' : State} (e : execDmaHostCompletion ch ok bytes s = .next t') (hP : P s) : P t' := by
  unfold execDmaHostCompletion at e
  refine done_closed C (hK.sub rfl) e ?_
  try dsimp only
  repeat' (first | with_reducible assumption | with_reducible apply State.dmaGot_closed C (hK.sub rfl) | with_reducible apply closed_ite | with_reducible apply closed_ite_fst)

theorem execDmaCompletionTimeout_closed (C : Closed K P) (hK : Sub 0x2c0051801 K) (ch : Fin 8) (s : State) {t' : State} (e : execDmaCompletionTimeout ch s = .next t') (hP : P s) : P t' := by
  unfold execDmaCompletionTimeout at e
  refine done_closed C (hK.sub rfl) e ?_
  try dsimp only
  repeat' (first | with_reducible assumption | with_reducible apply State.dmaExpire_closed C (hK.sub rfl))

theorem execSofSend_closed (C : Closed K P) (hK : Sub 0x340200801 K) (p : Fin 2) (s : State) {t' : State} (e : execSofSend p s = .next t') (hP : P s) : P t' := by
  unfold execSofSend at e
  refine done_closed C (hK.sub rfl) e ?_
  try dsimp only
  repeat' (first | with_reducible assumption | with_reducible apply State.sofSend_closed C (hK.sub rfl))

theorem execSofReceive_closed (C : Closed K P) (hK : Sub 0x40200001 K) (p : Fin 2) (d : BitVec 8) (s : State) {t' : State} (e : execSofReceive p d s = .next t') (hP : P s) : P t' := by
  unfold execSofReceive at e
  refine done_closed C (hK.sub rfl) e ?_
  try dsimp only
  repeat' (first | with_reducible assumption | with_reducible apply State.sofReceive_closed C (hK.sub rfl))

theorem execPortUp_closed (C : Closed K P) (hK : Sub 0x340210801 K) (p : Fin 2) (s : State) {t' : State} (e : execPortUp p s = .next t') (hP : P s) : P t' := by
  unfold execPortUp at e
  refine done_closed C (hK.sub rfl) e ?_
  try dsimp only
  repeat' (first | with_reducible assumption | with_reducible apply State.portRise_closed C (hK.sub rfl))

theorem execSpeedStepConfirm_closed (C : Closed K P) (hK : Sub 0x40200000 K) (p : Fin 2) (s : State) {t' : State} (e : execSpeedStepConfirm p s = .next t') (hP : P s) : P t' := by
  unfold execSpeedStepConfirm at e
  refine done_closed C (hK.sub rfl) e ?_
  try dsimp only
  repeat' (first | with_reducible assumption | with_reducible apply State.stepKept_closed C (hK.sub rfl))

theorem execSpeedStepTimeout_closed (C : Closed K P) (hK : Sub 0x40200001 K) (p : Fin 2) (s : State) {t' : State} (e : execSpeedStepTimeout p s = .next t') (hP : P s) : P t' := by
  unfold execSpeedStepTimeout at e
  refine done_closed C (hK.sub rfl) e ?_
  try dsimp only
  repeat' (first | with_reducible assumption | with_reducible apply State.stepLost_closed C (hK.sub rfl))

theorem execTxSleep_closed (C : Closed K P) (hK : Sub 0x340200001 K) (p : Fin 2) (s : State) {t' : State} (e : execTxSleep p s = .next t') (hP : P s) : P t' := by
  unfold execTxSleep at e
  refine done_closed C (hK.sub rfl) e ?_
  try dsimp only
  repeat' (first | with_reducible assumption | with_reducible apply State.txSleep_closed C (hK.sub rfl))

theorem execTxWake_closed (C : Closed K P) (hK : Sub 0x240200001 K) (p : Fin 2) (s : State) {t' : State} (e : execTxWake p s = .next t') (hP : P s) : P t' := by
  unfold execTxWake at e
  refine done_closed C (hK.sub rfl) e ?_
  try dsimp only
  repeat' (first | with_reducible assumption | with_reducible apply State.txWake_closed C (hK.sub rfl))

theorem execTowpathRxWake_closed (C : Closed K P) (hK : Sub 0x40200001 K) (p : Fin 2) (s : State) {t' : State} (e : execTowpathRxWake p s = .next t') (hP : P s) : P t' := by
  unfold execTowpathRxWake at e
  refine done_closed C (hK.sub rfl) e ?_
  try dsimp only
  repeat' (first | with_reducible assumption | with_reducible apply State.setPort_closed C (hK.sub rfl) | with_reducible apply State.put_closed C (hK.sub rfl) | with_reducible apply closed_ite | with_reducible apply closed_ite_fst)

theorem execLinkLoss_closed (C : Closed K P) (hK : Sub 0x240210001 K) (p : Fin 2) (s : State) {t' : State} (e : execLinkLoss p s = .next t') (hP : P s) : P t' := by
  unfold execLinkLoss at e
  refine done_closed C (hK.sub rfl) e ?_
  try dsimp only
  repeat' (first | with_reducible assumption | with_reducible apply State.portFall_closed C (hK.sub rfl))

theorem execTowRdRsp_closed (C : Closed K P) (hK : Sub 0x240b903bf K) (p : Fin 2) (k : TowPkt) (s : State) {t' : State} (e : execTowRdRsp p k s = .next t') (hP : P s) : P t' := by
  unfold execTowRdRsp at e
  refine done_closed C (hK.sub rfl) e ?_
  try dsimp only
  repeat' (first | with_reducible assumption | intro _ | with_reducible apply State.toHead_closed C (hK.sub rfl) | with_reducible apply State.arrives_closed C (hK.sub rfl) | with_reducible apply State.winResponse_closed C (hK.sub rfl))

theorem execTowWrAck_closed (C : Closed K P) (hK : Sub 0x240b903bf K) (p : Fin 2) (k : TowPkt) (s : State) {t' : State} (e : execTowWrAck p k s = .next t') (hP : P s) : P t' := by
  unfold execTowWrAck at e
  refine done_closed C (hK.sub rfl) e ?_
  try dsimp only
  repeat' (first | with_reducible assumption | intro _ | with_reducible apply State.toHead_closed C (hK.sub rfl) | with_reducible apply State.arrives_closed C (hK.sub rfl) | with_reducible apply State.winResponse_closed C (hK.sub rfl))

theorem execTowEnum_closed (C : Closed K P) (hK : Sub 0x340210001 K) (p : Fin 2) (k : TowPkt) (s : State) {t' : State} (e : execTowEnum p k s = .next t') (hP : P s) : P t' := by
  unfold execTowEnum at e
  refine done_closed C (hK.sub rfl) e ?_
  try dsimp only
  repeat' (first | with_reducible assumption | intro _ | with_reducible apply State.arrives_closed C (hK.sub rfl) | with_reducible apply State.enumReceive_closed C (hK.sub rfl))

theorem execTowEvent_closed (C : Closed K P) (hK : Sub 0x240210001 K) (p : Fin 2) (k : TowPkt) (s : State) {t' : State} (e : execTowEvent p k s = .next t') (hP : P s) : P t' := by
  unfold execTowEvent at e
  refine done_closed C (hK.sub rfl) e ?_
  try dsimp only
  repeat' (first | with_reducible assumption | intro _ | with_reducible apply State.toHead_closed C (hK.sub rfl) | with_reducible apply State.arrives_closed C (hK.sub rfl) | with_reducible apply State.eventTake_closed C (hK.sub rfl))

theorem execTowHello_closed (C : Closed K P) (hK : Sub 0x240210001 K) (p : Fin 2) (k : TowPkt) (s : State) {t' : State} (e : execTowHello p k s = .next t') (hP : P s) : P t' := by
  unfold execTowHello at e
  refine done_closed C (hK.sub rfl) e ?_
  try dsimp only
  repeat' (first | with_reducible assumption | intro _ | with_reducible apply State.toHead_closed C (hK.sub rfl) | with_reducible apply State.arrives_closed C (hK.sub rfl) | with_reducible apply State.helloTake_closed C (hK.sub rfl))

theorem execHelloSend_closed (C : Closed K P) (hK : Sub 0x240210001 K) (s : State) {t' : State} (e : execHelloSend s = .next t') (hP : P s) : P t' := by
  unfold execHelloSend at e
  refine done_closed C (hK.sub rfl) e ?_
  try dsimp only
  repeat' (first | with_reducible assumption | with_reducible apply State.helloSend_closed C (hK.sub rfl))

theorem execTowBadPacket_closed (C : Closed K P) (hK : Sub 0x40010001 K) (p : Fin 2) (s : State) {t' : State} (e : execTowBadPacket p s = .next t') (hP : P s) : P t' := by
  unfold execTowBadPacket at e
  refine done_closed C (hK.sub rfl) e ?_
  try dsimp only
  repeat' (first | with_reducible assumption | with_reducible apply State.tally_closed C (hK.sub rfl) | with_reducible apply State.bump_closed C (hK.sub rfl) | with_reducible apply closed_ite | with_reducible apply closed_ite_fst)

theorem execEnumerate_closed (C : Closed K P) (hK : Sub 0x240210801 K) (m : Master) (s : State) {t' : State} (e : execEnumerate m s = .next t') (hP : P s) : P t' := by
  unfold execEnumerate at e
  refine done_closed C (hK.sub rfl) e ?_
  try dsimp only
  repeat' (first | with_reducible assumption | intro _ | with_reducible apply State.towCtl_closed C (hK.sub rfl) | with_reducible apply State.via_closed C (hK.sub rfl))

theorem execEnumTimeout_closed (C : Closed K P) (hK : Sub 0x340210001 K) (s : State) {t' : State} (e : execEnumTimeout s = .next t') (hP : P s) : P t' := by
  unfold execEnumTimeout at e
  refine done_closed C (hK.sub rfl) e ?_
  try dsimp only
  repeat' (first | with_reducible assumption | with_reducible apply State.enumExpire_closed C (hK.sub rfl))

theorem execHeadWrite_closed (C : Closed K P) (hK : Sub 0x240210801 K) (m : Master) (on : Bool) (s : State) {t' : State} (e : execHeadWrite m on s = .next t') (hP : P s) : P t' := by
  unfold execHeadWrite at e
  refine done_closed C (hK.sub rfl) e ?_
  try dsimp only
  repeat' (first | with_reducible assumption | intro _ | with_reducible apply State.towCtl_closed C (hK.sub rfl) | with_reducible apply State.via_closed C (hK.sub rfl))

theorem execRemoteWindowTimeout_closed (C : Closed K P) (hK : Sub 0x240b903bf K) (w : Fin 4) (s : State) {t' : State} (e : execRemoteWindowTimeout w s = .next t') (hP : P s) : P t' := by
  unfold execRemoteWindowTimeout at e
  refine done_closed C (hK.sub rfl) e ?_
  try dsimp only
  repeat' (first | with_reducible assumption | with_reducible apply State.winExpire_closed C (hK.sub rfl) | with_reducible apply closed_ite | with_reducible apply closed_ite_fst)

theorem execSyncCommand_closed (C : Closed K P) (hK : Sub 0x240210801 K) (m : Master) (s : State) {t' : State} (e : execSyncCommand m s = .next t') (hP : P s) : P t' := by
  unfold execSyncCommand at e
  refine done_closed C (hK.sub rfl) e ?_
  try dsimp only
  repeat' (first | with_reducible assumption | intro _ | with_reducible apply State.towCtl_closed C (hK.sub rfl) | with_reducible apply State.via_closed C (hK.sub rfl))

theorem execTowSync_closed (C : Closed K P) (hK : Sub 0x350206001 K) (p : Fin 2) (e : BitVec 16) (f : BitVec 8) (s : State) {t' : State} (e : execTowSync p e f s = .next t') (hP : P s) : P t' := by
  unfold execTowSync at e
  refine done_closed C (hK.sub rfl) e ?_
  try dsimp only
  repeat' (first | with_reducible assumption | with_reducible apply State.syncReceive_closed C (hK.sub rfl))

theorem execSyncAct_closed (C : Closed K P) (hK : Sub 0x50206001 K) (s : State) {t' : State} (e : execSyncAct s = .next t') (hP : P s) : P t' := by
  unfold execSyncAct at e
  refine done_closed C (hK.sub rfl) e ?_
  try dsimp only
  repeat' (first | with_reducible assumption | with_reducible apply State.syncDo_closed C (hK.sub rfl) | with_reducible apply closed_ite | with_reducible apply closed_ite_fst)

theorem execMsixIssue_closed (C : Closed K P) (hK : Sub 0x240290801 K) (v : Fin 64) (s : State) {t' : State} (e : execMsixIssue v s = .next t') (hP : P s) : P t' := by
  unfold execMsixIssue at e
  refine done_closed C (hK.sub rfl) e ?_
  try dsimp only
  repeat' (first | with_reducible assumption | with_reducible apply State.msixIssue_closed C (hK.sub rfl))

theorem execLrxEnergyDetect_closed (C : Closed K P) (hK : Sub 0x1e153dbbb K) (n : Fin 8) (mv : Nat) (s : State) {t' : State} (e : execLrxEnergyDetect n mv s = .next t') (hP : P s) : P t' := by
  unfold execLrxEnergyDetect at e
  refine done_closed C (hK.sub rfl) e ?_
  try dsimp only
  repeat' (first | with_reducible assumption | with_reducible apply State.energy_closed C (hK.sub rfl))

theorem execHrxEnergyDetect_closed (C : Closed K P) (hK : Sub 0x1e153dbbb K) (k : Fin 16) (mv : Nat) (s : State) {t' : State} (e : execHrxEnergyDetect k mv s = .next t') (hP : P s) : P t' := by
  unfold execHrxEnergyDetect at e
  refine done_closed C (hK.sub rfl) e ?_
  try dsimp only
  repeat' (first | with_reducible assumption | with_reducible apply State.energy_closed C (hK.sub rfl))

theorem execTowpathEnergyDetect_closed (C : Closed K P) (hK : Sub 0x1e153dbbb K) (p : Fin 2) (s : State) {t' : State} (e : execTowpathEnergyDetect p s = .next t') (hP : P s) : P t' := by
  unfold execTowpathEnergyDetect at e
  refine done_closed C (hK.sub rfl) e ?_
  try dsimp only
  repeat' (first | with_reducible assumption | with_reducible apply State.wakeSource_closed C (hK.sub rfl))

theorem execWakeNFall_closed (C : Closed K P) (hK : Sub 0x1e153dbbb K) (ns : Nat) (s : State) {t' : State} (e : execWakeNFall ns s = .next t') (hP : P s) : P t' := by
  unfold execWakeNFall at e
  refine done_closed C (hK.sub rfl) e ?_
  try dsimp only
  repeat' (first | with_reducible assumption | with_reducible apply State.wakePin_closed C (hK.sub rfl))

theorem execDormantEntry_closed (C : Closed K P) (hK : Sub 0x3e1fffbbf K) (s : State) {t' : State} (e : execDormantEntry s = .next t') (hP : P s) : P t' := by
  unfold execDormantEntry at e
  refine done_closed C (hK.sub rfl) e ?_
  try dsimp only
  repeat' (first | with_reducible assumption | with_reducible apply State.sleep_closed C (hK.sub rfl))

theorem execDomainPowerDown_closed (C : Closed K P) (hK : Sub 0x24001044f K) (d : Fin 17) (s : State) {t' : State} (e : execDomainPowerDown d s = .next t') (hP : P s) : P t' := by
  unfold execDomainPowerDown at e
  refine done_closed C (hK.sub rfl) e ?_
  try dsimp only
  repeat' (first | with_reducible assumption | with_reducible apply State.powerDown_closed C (hK.sub rfl))

theorem execDomainPowerUp_closed (C : Closed K P) (hK : Sub 0x2c02d740f K) (d : Fin 17) (s : State) {t' : State} (e : execDomainPowerUp d s = .next t') (hP : P s) : P t' := by
  unfold execDomainPowerUp at e
  refine done_closed C (hK.sub rfl) e ?_
  try dsimp only
  repeat' (first | with_reducible assumption | with_reducible apply State.powerUp_closed C (hK.sub rfl))

theorem execPowerOnReset_closed (C : Closed K P) (hK : Sub 0x1f7ffffff K) (v : Supplies) (frm : Bool) (straps : Straps) (s : State) {t' : State} (e : execPowerOnReset v frm straps s = .next t') (hP : P s) : P t' := by
  unfold execPowerOnReset at e
  refine done_closed C (hK.sub rfl) e ?_
  try dsimp only
  repeat' (first | with_reducible assumption | with_reducible apply State.powerOn_closed C (hK.sub rfl))

theorem execResetN_closed (C : Closed K P) (hK : Sub 0x1f7ffffff K) (us : Nat) (frm : Bool) (boot : Fin 4) (addr : Fin 8) (s : State) {t' : State} (e : execResetN us frm boot addr s = .next t') (hP : P s) : P t' := by
  unfold execResetN at e
  refine done_closed C (hK.sub rfl) e ?_
  try dsimp only
  repeat' (first | with_reducible assumption | with_reducible apply State.pinReset_closed C (hK.sub rfl))

theorem execPwrResetDevice_closed (C : Closed K P) (hK : Sub 0x3f5ffffff K) (m : Master) (s : State) {t' : State} (e : execPwrResetDevice m s = .next t') (hP : P s) : P t' := by
  unfold execPwrResetDevice at e
  refine done_closed C (hK.sub rfl) e ?_
  try dsimp only
  repeat' (first | with_reducible assumption | intro _ | with_reducible apply State.resetWrite_closed C (hK.sub rfl) | with_reducible apply State.via_closed C (hK.sub rfl))

theorem execPwrResetSup_closed (C : Closed K P) (hK : Sub 0x3f5ffffff K) (m : Master) (s : State) {t' : State} (e : execPwrResetSup m s = .next t') (hP : P s) : P t' := by
  unfold execPwrResetSup at e
  refine done_closed C (hK.sub rfl) e ?_
  try dsimp only
  repeat' (first | with_reducible assumption | intro _ | with_reducible apply State.resetWrite_closed C (hK.sub rfl) | with_reducible apply State.via_closed C (hK.sub rfl))

theorem execPcieReset_closed (C : Closed K P) (hK : Sub 0xc02d7041 K) (kind : Fin 3) (s : State) {t' : State} (e : execPcieReset kind s = .next t') (hP : P s) : P t' := by
  unfold execPcieReset at e
  refine done_closed C (hK.sub rfl) e ?_
  try dsimp only
  repeat' (first | with_reducible assumption | with_reducible apply State.resetPcie_closed C (hK.sub rfl))

theorem execLifecycleReset_closed (C : Closed K P) (hK : Sub 0x1f5ffffff K) (s : State) {t' : State} (e : execLifecycleReset s = .next t') (hP : P s) : P t' := by
  unfold execLifecycleReset at e
  refine done_closed C (hK.sub rfl) e ?_
  try dsimp only
  repeat' (first | with_reducible assumption | with_reducible apply State.commandReset_closed C (hK.sub rfl) | with_reducible apply closed_ite | with_reducible apply closed_ite_fst)

theorem execMemoryFillComplete_closed (C : Closed K P) (hK : Sub 0x3c081139f K) (rom : Bool) (s : State) {t' : State} (e : execMemoryFillComplete rom s = .next t') (hP : P s) : P t' := by
  unfold execMemoryFillComplete at e
  refine done_closed C (hK.sub rfl) e ?_
  try dsimp only
  repeat' (first | with_reducible assumption | with_reducible apply State.fillDone_closed C (hK.sub rfl))

theorem execPostComplete_closed (C : Closed K P) (hK : Sub 0x3c0011001 K) (r : PostResult) (s : State) {t' : State} (e : execPostComplete r s = .next t') (hP : P s) : P t' := by
  unfold execPostComplete at e
  refine done_closed C (hK.sub rfl) e ?_
  try dsimp only
  repeat' (first | with_reducible assumption | with_reducible apply State.postDone_closed C (hK.sub rfl))

theorem execGateQuiesceTimeout_closed (C : Closed K P) (hK : Sub 0x2c0fd13bf K) (b : Fin 10) (m : Master) (s : State) {t' : State} (e : execGateQuiesceTimeout b m s = .next t') (hP : P s) : P t' := by
  unfold execGateQuiesceTimeout at e
  refine done_closed C (hK.sub rfl) e ?_
  try dsimp only
  repeat' (first | with_reducible assumption | with_reducible apply State.gateForce_closed C (hK.sub rfl) | with_reducible apply closed_ite | with_reducible apply closed_ite_fst)

theorem execRegisterWrite_closed (C : Closed K P) (hK : Sub 0x3f5ffffff K) (m : Master) (a v : Word) (s : State) {t' : State} (e : execRegisterWrite m a v s = .next t') (hP : P s) : P t' := by
  unfold execRegisterWrite at e
  refine done_closed C (hK.sub rfl) e ?_
  try dsimp only
  repeat' (first | with_reducible assumption | with_reducible apply State.wordSend_closed C (hK.sub rfl))

theorem execReadClear_closed (C : Closed K P) (hK : Sub 0x3e021b043 K) (m : Master) (a : Word) (s : State) {t' : State} (e : execReadClear m a s = .next t') (hP : P s) : P t' := by
  unfold execReadClear at e
  refine done_closed C (hK.sub rfl) e ?_
  try dsimp only
  repeat' (first | with_reducible assumption | with_reducible apply State.wordGet_closed C (hK.sub rfl))

theorem execDbgMemoryAccess_closed (C : Closed K P) (hK : Sub 0x3f5ffffff K) (m : Master) (w : Option Word) (s : State) {t' : State} (e : execDbgMemoryAccess m w s = .next t') (hP : P s) : P t' := by
  unfold execDbgMemoryAccess at e
  refine done_closed C (hK.sub rfl) e ?_
  try dsimp only
  repeat' (first | with_reducible assumption | with_reducible apply State.wordSend_closed C (hK.sub rfl) | with_reducible apply State.wordGet_closed C (hK.sub rfl) | split)

theorem execRemoteWindowAccess_closed (C : Closed K P) (hK : Sub 0x3f5ffffff K) (m : Master) (w : Fin 4) (off : Fin 512) (v : Option Word) (s : State) {t' : State} (e : execRemoteWindowAccess m w off v s = .next t') (hP : P s) : P t' := by
  unfold execRemoteWindowAccess at e
  refine done_closed C (hK.sub rfl) e ?_
  try dsimp only
  repeat' (first | with_reducible assumption | with_reducible apply State.wordSend_closed C (hK.sub rfl) | with_reducible apply State.wordGet_closed C (hK.sub rfl) | split)

theorem execLdw_closed (C : Closed K P) (hK : Sub 0x3e0a1b3ff K) (k : Core) (d a : Fin 16) (imm : BitVec 16) (s : State) {t' : State} (e : execLdw k d a imm s = .next t') (hP : P s) : P t' := by
  unfold execLdw at e
  refine done_closed C (hK.sub rfl) e ?_
  try dsimp only
  repeat' (first | with_reducible assumption | with_reducible apply State.runLoad_closed C (hK.sub rfl))

theorem execLdh_closed (C : Closed K P) (hK : Sub 0x3e0a1b3ff K) (k : Core) (d a : Fin 16) (imm : BitVec 16) (s : State) {t' : State} (e : execLdh k d a imm s = .next t') (hP : P s) : P t' := by
  unfold execLdh at e
  refine done_closed C (hK.sub rfl) e ?_
  try dsimp only
  repeat' (first | with_reducible assumption | with_reducible apply State.runLoad_closed C (hK.sub rfl))

theorem execLdhu_closed (C : Closed K P) (hK : Sub 0x3e0a1b3ff K) (k : Core) (d a : Fin 16) (imm : BitVec 16) (s : State) {t' : State} (e : execLdhu k d a imm s = .next t') (hP : P s) : P t' := by
  unfold execLdhu at e
  refine done_closed C (hK.sub rfl) e ?_
  try dsimp only
  repeat' (first | with_reducible assumption | with_reducible apply State.runLoad_closed C (hK.sub rfl))

theorem execLdb_closed (C : Closed K P) (hK : Sub 0x3e0a1b3ff K) (k : Core) (d a : Fin 16) (imm : BitVec 16) (s : State) {t' : State} (e : execLdb k d a imm s = .next t') (hP : P s) : P t' := by
  unfold execLdb at e
  refine done_closed C (hK.sub rfl) e ?_
  try dsimp only
  repeat' (first | with_reducible assumption | with_reducible apply State.runLoad_closed C (hK.sub rfl))

theorem execLdbu_closed (C : Closed K P) (hK : Sub 0x3e0a1b3ff K) (k : Core) (d a : Fin 16) (imm : BitVec 16) (s : State) {t' : State} (e : execLdbu k d a imm s = .next t') (hP : P s) : P t' := by
  unfold execLdbu at e
  refine done_closed C (hK.sub rfl) e ?_
  try dsimp only
  repeat' (first | with_reducible assumption | with_reducible apply State.runLoad_closed C (hK.sub rfl))

theorem execStw_closed (C : Closed K P) (hK : Sub 0x3f5ffffff K) (k : Core) (d a : Fin 16) (imm : BitVec 16) (s : State) {t' : State} (e : execStw k d a imm s = .next t') (hP : P s) : P t' := by
  unfold execStw at e
  refine done_closed C (hK.sub rfl) e ?_
  try dsimp only
  repeat' (first | with_reducible assumption | with_reducible apply State.runStore_closed C (hK.sub rfl))

theorem execSth_closed (C : Closed K P) (hK : Sub 0x3f5ffffff K) (k : Core) (d a : Fin 16) (imm : BitVec 16) (s : State) {t' : State} (e : execSth k d a imm s = .next t') (hP : P s) : P t' := by
  unfold execSth at e
  refine done_closed C (hK.sub rfl) e ?_
  try dsimp only
  repeat' (first | with_reducible assumption | with_reducible apply State.runStore_closed C (hK.sub rfl))

theorem execStb_closed (C : Closed K P) (hK : Sub 0x3f5ffffff K) (k : Core) (d a : Fin 16) (imm : BitVec 16) (s : State) {t' : State} (e : execStb k d a imm s = .next t') (hP : P s) : P t' := by
  unfold execStb at e
  refine done_closed C (hK.sub rfl) e ?_
  try dsimp only
  repeat' (first | with_reducible assumption | with_reducible apply State.runStore_closed C (hK.sub rfl))

theorem execStwc_closed (C : Closed K P) (hK : Sub 0x3f5ffffff K) (k : Core) (d a : Fin 16) (imm : BitVec 16) (s : State) {t' : State} (e : execStwc k d a imm s = .next t') (hP : P s) : P t' := by
  unfold execStwc at e
  refine done_closed C (hK.sub rfl) e ?_
  try dsimp only
  repeat' (first | with_reducible assumption | with_reducible apply State.runStwc_closed C (hK.sub rfl))

theorem execPcieRead_closed (C : Closed K P) (hK : Sub 0x3e029b843 K) (bar : Fin 3) (off : BitVec 32) (n : Nat) (s : State) {t' : State} (e : execPcieRead bar off n s = .next t') (hP : P s) : P t' := by
  unfold execPcieRead at e
  refine done_closed C (hK.sub rfl) e ?_
  try dsimp only
  repeat' (first | with_reducible assumption | with_reducible apply State.barRead_closed C (hK.sub rfl))

theorem execPcieWrite_closed (C : Closed K P) (hK : Sub 0x3f5ffffff K) (bar : Fin 3) (off : BitVec 32) (bytes : List (BitVec 8)) (be : List Bool) (s : State) {t' : State} (e : execPcieWrite bar off bytes be s = .next t') (hP : P s) : P t' := by
  unfold execPcieWrite at e
  refine doneIf_closed C (hK.sub rfl) e ?_
  try dsimp only
  repeat' (first | with_reducible assumption | intro _ | with_reducible apply State.barWrite_closed C (hK.sub rfl) | with_reducible apply closed_ite | with_reducible apply closed_ite_fst)

theorem execPcieLinkChange_closed (C : Closed K P) (hK : Sub 0x40080001 K) (link : Option (Fin 4 × PcieSet)) (speed width : Fin 8) (s : State) {t' : State} (e : execPcieLinkChange link speed width s = .next t') (hP : P s) : P t' := by
  unfold execPcieLinkChange at e
  refine done_closed C (hK.sub rfl) e ?_
  try dsimp only
  repeat' (first | with_reducible assumption | with_reducible apply State.linkChange_closed C (hK.sub rfl))

theorem execPciePowerStateChange_closed (C : Closed K P) (hK : Sub 0x40000001 K) (d3 : Bool) (s : State) {t' : State} (e : execPciePowerStateChange d3 s = .next t') (hP : P s) : P t' := by
  unfold execPciePowerStateChange at e
  refine done_closed C (hK.sub rfl) e ?_
  try dsimp only
  repeat' (first | with_reducible assumption | with_reducible apply State.put_closed C (hK.sub rfl) | with_reducible apply closed_ite | with_reducible apply closed_ite_fst)

theorem execSmpWrite_closed (C : Closed K P) (hK : Sub 0x3f5ffffff K) (addr : Word) (bytes : List (BitVec 8)) (s : State) {t' : State} (e : execSmpWrite addr bytes s = .next t') (hP : P s) : P t' := by
  unfold execSmpWrite at e
  refine done_closed C (hK.sub rfl) e ?_
  try dsimp only
  repeat' (first | with_reducible assumption | with_reducible apply State.smpWrite_closed C (hK.sub rfl))

theorem execSmpRead_closed (C : Closed K P) (hK : Sub 0x3e031b843 K) (words : Nat) (s : State) {t' : State} (e : execSmpRead words s = .next t') (hP : P s) : P t' := by
  unfold execSmpRead at e
  refine done_closed C (hK.sub rfl) e ?_
  try dsimp only
  repeat' (first | with_reducible assumption | with_reducible apply State.smpRead_closed C (hK.sub rfl))

theorem execEnec_closed (C : Closed K P) (hK : Sub 0x240000801 K) (ev : BitVec 8) (s : State) {t' : State} (e : execEnec ev s = .next t') (hP : P s) : P t' := by
  unfold execEnec at e
  refine done_closed C (hK.sub rfl) e ?_
  try dsimp only
  repeat' (first | with_reducible assumption | intro _ | with_reducible apply State.ccc_closed C (hK.sub rfl) | with_reducible apply State.put_closed C (hK.sub rfl) | with_reducible apply closed_ite | with_reducible apply closed_ite_fst)

theorem execDisec_closed (C : Closed K P) (hK : Sub 0x240000801 K) (ev : BitVec 8) (s : State) {t' : State} (e : execDisec ev s = .next t') (hP : P s) : P t' := by
  unfold execDisec at e
  refine done_closed C (hK.sub rfl) e ?_
  try dsimp only
  repeat' (first | with_reducible assumption | intro _ | with_reducible apply State.ccc_closed C (hK.sub rfl) | with_reducible apply State.put_closed C (hK.sub rfl) | with_reducible apply closed_ite | with_reducible apply closed_ite_fst)

theorem execRstdaa_closed (C : Closed K P) (hK : Sub 0x240100801 K) (s : State) {t' : State} (e : execRstdaa s = .next t') (hP : P s) : P t' := by
  unfold execRstdaa at e
  refine done_closed C (hK.sub rfl) e ?_
  try dsimp only
  repeat' (first | with_reducible assumption | intro _ | with_reducible apply State.smpDo_closed C (hK.sub rfl) | with_reducible apply C.smp (hK.sub rfl))

theorem execEntdaa_closed (C : Closed K P) (hK : Sub 0x240100801 K) (da : BitVec 7) (s : State) {t' : State} (e : execEntdaa da s = .next t') (hP : P s) : P t' := by
  unfold execEntdaa at e
  refine done_closed C (hK.sub rfl) e ?_
  try dsimp only
  repeat' (first | with_reducible assumption | with_reducible apply State.assignNew_closed C (hK.sub rfl))

theorem execSetdasa_closed (C : Closed K P) (hK : Sub 0x240100801 K) (da : BitVec 7) (s : State) {t' : State} (e : execSetdasa da s = .next t') (hP : P s) : P t' := by
  unfold execSetdasa at e
  refine done_closed C (hK.sub rfl) e ?_
  try dsimp only
  repeat' (first | with_reducible assumption | with_reducible apply State.assignNew_closed C (hK.sub rfl))

theorem execSetnewda_closed (C : Closed K P) (hK : Sub 0x240100801 K) (da : BitVec 7) (s : State) {t' : State} (e : execSetnewda da s = .next t') (hP : P s) : P t' := by
  unfold execSetnewda at e
  refine done_closed C (hK.sub rfl) e ?_
  try dsimp only
  repeat' (first | with_reducible assumption | intro _ | with_reducible apply State.assign_closed C (hK.sub rfl) | with_reducible apply State.ccc_closed C (hK.sub rfl) | with_reducible apply closed_ite | with_reducible apply closed_ite_fst)

theorem execSetmwl_closed (C : Closed K P) (hK : Sub 0x240100801 K) (len : BitVec 16) (s : State) {t' : State} (e : execSetmwl len s = .next t') (hP : P s) : P t' := by
  unfold execSetmwl at e
  refine done_closed C (hK.sub rfl) e ?_
  try dsimp only
  repeat' (first | with_reducible assumption | intro _ | with_reducible apply State.ccc_closed C (hK.sub rfl) | with_reducible apply C.smp (hK.sub rfl))

theorem execSetmrl_closed (C : Closed K P) (hK : Sub 0x240100801 K) (len : BitVec 16) (s : State) {t' : State} (e : execSetmrl len s = .next t') (hP : P s) : P t' := by
  unfold execSetmrl at e
  refine done_closed C (hK.sub rfl) e ?_
  try dsimp only
  repeat' (first | with_reducible assumption | intro _ | with_reducible apply State.ccc_closed C (hK.sub rfl) | with_reducible apply C.smp (hK.sub rfl))

theorem execGetmwl_closed (C : Closed K P) (hK : Sub 0x240000801 K) (s : State) {t' : State} (e : execGetmwl s = .next t') (hP : P s) : P t' := by
  unfold execGetmwl at e
  refine done_closed C (hK.sub rfl) e ?_
  try dsimp only
  repeat' (first | with_reducible assumption | with_reducible apply State.cccData_closed C (hK.sub rfl))

theorem execGetmrl_closed (C : Closed K P) (hK : Sub 0x240000801 K) (s : State) {t' : State} (e : execGetmrl s = .next t') (hP : P s) : P t' := by
  unfold execGetmrl at e
  refine done_closed C (hK.sub rfl) e ?_
  try dsimp only
  repeat' (first | with_reducible assumption | with_reducible apply State.cccData_closed C (hK.sub rfl))

theorem execGetpid_closed (C : Closed K P) (hK : Sub 0x240000801 K) (s : State) {t' : State} (e : execGetpid s = .next t') (hP : P s) : P t' := by
  unfold execGetpid at e
  refine done_closed C (hK.sub rfl) e ?_
  try dsimp only
  repeat' (first | with_reducible assumption | with_reducible apply State.cccData_closed C (hK.sub rfl))

theorem execGetbcr_closed (C : Closed K P) (hK : Sub 0x240000801 K) (s : State) {t' : State} (e : execGetbcr s = .next t') (hP : P s) : P t' := by
  unfold execGetbcr at e
  refine done_closed C (hK.sub rfl) e ?_
  try dsimp only
  repeat' (first | with_reducible assumption | with_reducible apply State.cccData_closed C (hK.sub rfl))

theorem execGetdcr_closed (C : Closed K P) (hK : Sub 0x240000801 K) (s : State) {t' : State} (e : execGetdcr s = .next t') (hP : P s) : P t' := by
  unfold execGetdcr at e
  refine done_closed C (hK.sub rfl) e ?_
  try dsimp only
  repeat' (first | with_reducible assumption | with_reducible apply State.cccData_closed C (hK.sub rfl))

theorem execGetstatus_closed (C : Closed K P) (hK : Sub 0x340100801 K) (s : State) {t' : State} (e : execGetstatus s = .next t') (hP : P s) : P t' := by
  unfold execGetstatus at e
  refine done_closed C (hK.sub rfl) e ?_
  try dsimp only
  repeat' (first | with_reducible assumption | with_reducible apply State.getStatus_closed C (hK.sub rfl))

theorem execGetmxds_closed (C : Closed K P) (hK : Sub 0x340000801 K) (s : State) {t' : State} (e : execGetmxds s = .next t') (hP : P s) : P t' := by
  unfold execGetmxds at e
  refine done_closed C (hK.sub rfl) e ?_
  try dsimp only
  repeat' (first | with_reducible assumption | with_reducible apply State.getMxds_closed C (hK.sub rfl))

theorem execCccUnsupported_closed (C : Closed K P) (hK : Sub 0x240000801 K) (_code : BitVec 8) (s : State) {t' : State} (e : execCccUnsupported _code s = .next t') (hP : P s) : P t' := by
  unfold execCccUnsupported at e
  refine done_closed C (hK.sub rfl) e ?_
  try dsimp only
  repeat' (first | with_reducible assumption | intro _ | with_reducible apply State.smpDo_closed C (hK.sub rfl) | with_reducible apply State.emit_closed C (hK.sub rfl))

theorem execIbi_closed (C : Closed K P) (hK : Sub 0x240000801 K) (s : State) {t' : State} (e : execIbi s = .next t') (hP : P s) : P t' := by
  unfold execIbi at e
  refine done_closed C (hK.sub rfl) e ?_
  try dsimp only
  repeat' (first | with_reducible assumption | with_reducible apply State.ibiSend_closed C (hK.sub rfl))

theorem execSmpAddressMatch_closed (C : Closed K P) (hK : Sub 0x3e153dbbb K) (s : State) {t' : State} (e : execSmpAddressMatch s = .next t') (hP : P s) : P t' := by
  unfold execSmpAddressMatch at e
  refine done_closed C (hK.sub rfl) e ?_
  try dsimp only
  repeat' (first | with_reducible assumption | with_reducible apply State.addressMatch_closed C (hK.sub rfl))

theorem execForerunnerWindowAccess_closed (C : Closed K P) (hK : Sub 0x3f5ffffff K) (idx : BitVec 8) (x : SmpXfer) (s : State) {t' : State} (e : execForerunnerWindowAccess idx x s = .next t') (hP : P s) : P t' := by
  unfold execForerunnerWindowAccess at e
  refine done_closed C (hK.sub rfl) e ?_
  try dsimp only
  repeat' (first | with_reducible assumption | intro _ | with_reducible apply State.forerunner_closed C (hK.sub rfl) | with_reducible apply State.windowXfer_closed C (hK.sub rfl))

theorem execIndData_closed (C : Closed K P) (hK : Sub 0x3f5ffffff K) (w : Option Word) (s : State) {t' : State} (e : execIndData w s = .next t') (hP : P s) : P t' := by
  unfold execIndData at e
  refine done_closed C (hK.sub rfl) e ?_
  try dsimp only
  repeat' (first | with_reducible assumption | intro _ | with_reducible apply State.forerunner_closed C (hK.sub rfl) | with_reducible apply State.indAccess_closed C (hK.sub rfl))

theorem execIndStatRead_closed (C : Closed K P) (hK : Sub 0x240100801 K) (s : State) {t' : State} (e : execIndStatRead s = .next t') (hP : P s) : P t' := by
  unfold execIndStatRead at e
  refine done_closed C (hK.sub rfl) e ?_
  try dsimp only
  repeat' (first | with_reducible assumption | intro _ | with_reducible apply State.forerunner_closed C (hK.sub rfl) | with_reducible apply State.indStatGet_closed C (hK.sub rfl))

theorem execTowRd_closed (C : Closed K P) (hK : Sub 0x3e021b043 K) (p : Fin 2) (k : TowPkt) (s : State) {t' : State} (e : execTowRd p k s = .next t') (hP : P s) : P t' := by
  unfold execTowRd at e
  refine done_closed C (hK.sub rfl) e ?_
  try dsimp only
  repeat' (first | with_reducible assumption | intro _ | with_reducible apply State.towReadMe_closed C (hK.sub rfl) | with_reducible apply State.forMe_closed C (hK.sub rfl) | with_reducible apply State.arrives_closed C (hK.sub rfl))

theorem execTowWr_closed (C : Closed K P) (hK : Sub 0x3f5ffffff K) (p : Fin 2) (k : TowPkt) (s : State) {t' : State} (e : execTowWr p k s = .next t') (hP : P s) : P t' := by
  unfold execTowWr at e
  refine done_closed C (hK.sub rfl) e ?_
  try dsimp only
  repeat' (first | with_reducible assumption | intro _ | with_reducible apply State.towWriteMe_closed C (hK.sub rfl) | with_reducible apply State.forMe_closed C (hK.sub rfl) | with_reducible apply State.arrives_closed C (hK.sub rfl))

/-- A predicate closed under the updates of the parts that a command may change is kept by the command. -/
theorem exec_closed {c : Instr} (C : Closed c.mask P) {s t : State} (e : exec c s = .next t) (h : P s) : P t := by
  cases c
  case modeRequest => exact execModeRequest_closed C (Sub.refl _) _ _ _ e h
  case transitionComplete => exact execTransitionComplete_closed C (Sub.refl _) _ e h
  case oosSet => exact execOosSet_closed C (Sub.refl _) _ _ _ e h
  case oosClear => exact execOosClear_closed C (Sub.refl _) _ _ _ e h
  case claim => exact execClaim_closed C (Sub.refl _) _ _ _ _ e h
  case claimRelease => exact execClaimRelease_closed C (Sub.refl _) _ _ _ e h
  case speedMonitorWindow => exact execSpeedMonitorWindow_closed C (Sub.refl _) _ _ e h
  case marginLowClear => exact execMarginLowClear_closed C (Sub.refl _) _ _ e h
  case inputBargeComplete => exact execInputBargeComplete_closed C (Sub.refl _) _ () _ _ _ e h
  case bargeRelease => exact execBargeRelease_closed C (Sub.refl _) _ _ _ _ e h
  case flTargetWrite => exact execFlTargetWrite_closed C (Sub.refl _) _ _ _ _ e h
  case slewComplete => exact execSlewComplete_closed C (Sub.refl _) _ _ _ e h
  case lockLost => exact execLockLost_closed C (Sub.refl _) _ _ _ e h
  case crossingAck => exact execCrossingAck_closed C (Sub.refl _) _ _ e h
  case bargeBoundary => exact execBargeBoundary_closed C (Sub.refl _) _ _ e h
  case groupBoundary => exact execGroupBoundary_closed C (Sub.refl _) _ _ e h
  case bankCommit => exact execBankCommit_closed C (Sub.refl _) _ _ _ e h
  case bankWrite => exact execBankWrite_closed C (Sub.refl _) _ _ _ _ _ _ e h
  case hrxLaneUp => exact execHrxLaneUp_closed C (Sub.refl _) _ _ e h
  case hrxAcqTimeout => exact execHrxAcqTimeout_closed C (Sub.refl _) _ _ e h
  case hrxLos => exact execHrxLos_closed C (Sub.refl _) _ _ _ _ e h
  case hrxLosExit => exact execHrxLosExit_closed C (Sub.refl _) _ _ _ e h
  case hrxLosTimeout => exact execHrxLosTimeout_closed C (Sub.refl _) _ _ e h
  case cdrLock => exact execCdrLock_closed C (Sub.refl _) _ _ _ e h
  case cdrUnlock => exact execCdrUnlock_closed C (Sub.refl _) _ _ _ e h
  case htxSquelch => exact execHtxSquelch_closed C (Sub.refl _) _ _ _ _ e h
  case patternInject => exact execPatternInject_closed C (Sub.refl _) _ _ _ e h
  case correlatorStart => exact execCorrelatorStart_closed C (Sub.refl _) _ _ _ _ e h
  case correlatorWindowEnd => exact execCorrelatorWindowEnd_closed C (Sub.refl _) _ () () () _ e h
  case hrxEnergyDetect => exact execHrxEnergyDetect_closed C (Sub.refl _) _ _ _ e h
  case presenceQualified => exact execPresenceQualified_closed C (Sub.refl _) _ _ e h
  case amplitudeDetectorChange => exact execAmplitudeDetectorChange_closed C (Sub.refl _) _ _ _ e h
  case lrxCdrTimeout => exact execLrxCdrTimeout_closed C (Sub.refl _) _ _ e h
  case progReady => exact execProgReady_closed C (Sub.refl _) _ _ _ e h
  case lrxAdaptTimeout => exact execLrxAdaptTimeout_closed C (Sub.refl _) _ _ e h
  case markerAlignmentQualified => exact execMarkerAlignmentQualified_closed C (Sub.refl _) _ _ _ _ _ _ e h
  case acqQualified => exact execAcqQualified_closed C (Sub.refl _) _ _ _ e h
  case lrxSeekTimeout => exact execLrxSeekTimeout_closed C (Sub.refl _) _ _ e h
  case capture => exact execCapture_closed C (Sub.refl _) _ _ _ _ e h
  case markerPeakMissing => exact execMarkerPeakMissing_closed C (Sub.refl _) _ _ e h
  case captureWindowEnd => exact execCaptureWindowEnd_closed C (Sub.refl _) _ _ e h
  case lrxLos => exact execLrxLos_closed C (Sub.refl _) _ _ _ _ e h
  case lrxLosTimeout => exact execLrxLosTimeout_closed C (Sub.refl _) _ _ e h
  case nearEndLocked => exact execNearEndLocked_closed C (Sub.refl _) _ _ e h
  case lrxEnergyDetect => exact execLrxEnergyDetect_closed C (Sub.refl _) _ _ _ e h
  case wcapStart => exact execWcapStart_closed C (Sub.refl _) _ _ _ _ e h
  case wcapComplete => exact execWcapComplete_closed C (Sub.refl _) _ () _ e h
  case squelchClear => exact execSquelchClear_closed C (Sub.refl _) _ _ _ _ e h
  case squelchSet => exact execSquelchSet_closed C (Sub.refl _) _ _ _ e h
  case forceOff => exact execForceOff_closed C (Sub.refl _) _ _ _ e h
  case rampStep => exact execRampStep_closed C (Sub.refl _) _ _ e h
  case faultRampStep => exact execFaultRampStep_closed C (Sub.refl _) _ _ e h
  case synthUnlock => exact execSynthUnlock_closed C (Sub.refl _) _ _ e h
  case synthLock => exact execSynthLock_closed C (Sub.refl _) _ _ e h
  case biasWrite => exact execBiasWrite_closed C (Sub.refl _) _ _ _ _ e h
  case biasStep => exact execBiasStep_closed C (Sub.refl _) _ _ e h
  case faultCauseClear => exact execFaultCauseClear_closed C (Sub.refl _) _ _ _ _ e h
  case codewordDecode => exact execCodewordDecode_closed C (Sub.refl _) _ () () _ e h
  case codewordLock => exact execCodewordLock_closed C (Sub.refl _) _ () _ e h
  case offsetAbandon => exact execOffsetAbandon_closed C (Sub.refl _) _ () _ e h
  case codewordLockLoss => exact execCodewordLockLoss_closed C (Sub.refl _) _ _ e h
  case cwRestart => exact execCwRestart_closed C (Sub.refl _) _ _ _ e h
  case cwInject => exact execCwInject_closed C (Sub.refl _) _ _ _ _ e h
  case rsCodeword => exact execRsCodeword_closed C (Sub.refl _) _ _ () _ e h
  case rsAlign => exact execRsAlign_closed C (Sub.refl _) _ _ _ e h
  case rsNoAlign => exact execRsNoAlign_closed C (Sub.refl _) _ _ _ e h
  case rsCtlWrite => exact execRsCtlWrite_closed C (Sub.refl _) _ _ _ _ _ e h
  case startUpTrimsDone => exact execStartUpTrimsDone_closed C (Sub.refl _) _ _ _ e h
  case wakePatternEnd => exact execWakePatternEnd_closed C (Sub.refl _) _ _ e h
  case trainingFrameReceived => exact execTrainingFrameReceived_closed C (Sub.refl _) _ _ _ _ _ e h
  case trainingFrameSend => exact execTrainingFrameSend_closed C (Sub.refl _) _ _ e h
  case trnStateWrite => exact execTrnStateWrite_closed C (Sub.refl _) _ _ _ _ e h
  case handover => exact execHandover_closed C (Sub.refl _) _ _ _ e h
  case trnWake => exact execTrnWake_closed C (Sub.refl _) _ _ _ e h
  case ackTo => exact execAckTo_closed C (Sub.refl _) _ _ _ e h
  case peerDataStart => exact execPeerDataStart_closed C (Sub.refl _) _ _ e h
  case trainingTimeout => exact execTrainingTimeout_closed C (Sub.refl _) _ _ e h
  case backgroundCalWindow => exact execBackgroundCalWindow_closed C (Sub.refl _) _ _ _ _ _ e h
  case sensorUpdate => exact execSensorUpdate_closed C (Sub.refl _) _ _ e h
  case deferredRecalStart => exact execDeferredRecalStart_closed C (Sub.refl _) _ _ e h
  case fitnessWindowEnd => exact execFitnessWindowEnd_closed C (Sub.refl _) _ _ _ _ e h
  case recalMeasureEnd => exact execRecalMeasureEnd_closed C (Sub.refl _) _ _ _ e h
  case recalStepTimeout => exact execRecalStepTimeout_closed C (Sub.refl _) _ _ e h
  case recalRetry => exact execRecalRetry_closed C (Sub.refl _) _ _ e h
  case calCmd => exact execCalCmd_closed C (Sub.refl _) _ _ _ e h
  case add => exact execAdd_closed C (Sub.refl _) _ _ _ _ _ e h
  case sub => exact execSub_closed C (Sub.refl _) _ _ _ _ _ e h
  case and_ => exact execAnd_closed C (Sub.refl _) _ _ _ _ _ e h
  case or_ => exact execOr_closed C (Sub.refl _) _ _ _ _ _ e h
  case xor_ => exact execXor_closed C (Sub.refl _) _ _ _ _ _ e h
  case shl => exact execShl_closed C (Sub.refl _) _ _ _ _ _ e h
  case shr => exact execShr_closed C (Sub.refl _) _ _ _ _ _ e h
  case sar => exact execSar_closed C (Sub.refl _) _ _ _ _ _ e h
  case mul => exact execMul_closed C (Sub.refl _) _ _ _ _ _ e h
  case mulh => exact execMulh_closed C (Sub.refl _) _ _ _ _ _ e h
  case mulhu => exact execMulhu_closed C (Sub.refl _) _ _ _ _ _ e h
  case cmp => exact execCmp_closed C (Sub.refl _) _ _ _ _ e h
  case min => exact execMin_closed C (Sub.refl _) _ _ _ _ _ e h
  case max => exact execMax_closed C (Sub.refl _) _ _ _ _ _ e h
  case adds => exact execAdds_closed C (Sub.refl _) _ _ _ _ _ e h
  case subs => exact execSubs_closed C (Sub.refl _) _ _ _ _ _ e h
  case jalr => exact execJalr_closed C (Sub.refl _) _ _ _ _ e h
  case addi => exact execAddi_closed C (Sub.refl _) _ _ _ _ _ e h
  case andi => exact execAndi_closed C (Sub.refl _) _ _ _ _ _ e h
  case ori => exact execOri_closed C (Sub.refl _) _ _ _ _ _ e h
  case xori => exact execXori_closed C (Sub.refl _) _ _ _ _ _ e h
  case shli => exact execShli_closed C (Sub.refl _) _ _ _ _ _ e h
  case shri => exact execShri_closed C (Sub.refl _) _ _ _ _ _ e h
  case sari => exact execSari_closed C (Sub.refl _) _ _ _ _ _ e h
  case lui => exact execLui_closed C (Sub.refl _) _ _ _ _ e h
  case cmpi => exact execCmpi_closed C (Sub.refl _) _ _ _ _ e h
  case ldw => exact execLdw_closed C (Sub.refl _) _ _ _ _ _ e h
  case ldh => exact execLdh_closed C (Sub.refl _) _ _ _ _ _ e h
  case ldhu => exact execLdhu_closed C (Sub.refl _) _ _ _ _ _ e h
  case ldb => exact execLdb_closed C (Sub.refl _) _ _ _ _ _ e h
  case ldbu => exact execLdbu_closed C (Sub.refl _) _ _ _ _ _ e h
  case stw => exact execStw_closed C (Sub.refl _) _ _ _ _ _ e h
  case sth => exact execSth_closed C (Sub.refl _) _ _ _ _ _ e h
  case stb => exact execStb_closed C (Sub.refl _) _ _ _ _ _ e h
  case stwc => exact execStwc_closed C (Sub.refl _) _ _ _ _ _ e h
  case b => exact execB_closed C (Sub.refl _) _ _ _ _ e h
  case bl => exact execBl_closed C (Sub.refl _) _ _ _ _ e h
  case svc => exact execSvc_closed C (Sub.refl _) _ _ e h
  case eret => exact execEret_closed C (Sub.refl _) _ e h
  case wfi => exact execWfi_closed C (Sub.refl _) _ e h
  case wfiWake => exact execWfiWake_closed C (Sub.refl _) _ e h
  case stop => exact execStop_closed C (Sub.refl _) _ _ e h
  case illegalInstruction => exact execIllegalInstruction_closed C (Sub.refl _) _ _ _ e h
  case interruptTaken => exact execInterruptTaken_closed C (Sub.refl _) _ _ e h
  case cld => exact execCld_closed C (Sub.refl _) _ _ _ _ _ e h
  case cst => exact execCst_closed C (Sub.refl _) _ _ _ _ _ e h
  case cupd => exact execCupd_closed C (Sub.refl _) _ _ _ _ _ e h
  case cupdu => exact execCupdu_closed C (Sub.refl _) _ _ _ _ _ e h
  case cmt => exact execCmt_closed C (Sub.refl _) _ _ _ _ e h
  case cstart => exact execCstart_closed C (Sub.refl _) _ _ _ e h
  case csgn => exact execCsgn_closed C (Sub.refl _) _ _ _ _ _ e h
  case hsum => exact execHsum_closed C (Sub.refl _) _ _ _ _ _ e h
  case wfe => exact execWfe_closed C (Sub.refl _) _ _ _ _ _ e h
  case wfeRelease => exact execWfeRelease_closed C (Sub.refl _) _ _ e h
  case wfeTimeout => exact execWfeTimeout_closed C (Sub.refl _) _ _ e h
  case mpost => exact execMpost_closed C (Sub.refl _) _ _ _ _ _ e h
  case mtake => exact execMtake_closed C (Sub.refl _) _ _ _ _ e h
  case movcRead => exact execMovcRead_closed C (Sub.refl _) _ _ _ e h
  case movcWrite => exact execMovcWrite_closed C (Sub.refl _) _ _ _ e h
  case seqStart => exact execSeqStart_closed C (Sub.refl _) _ _ _ e h
  case seqResume => exact execSeqResume_closed C (Sub.refl _) _ _ _ e h
  case seqStop => exact execSeqStop_closed C (Sub.refl _) _ _ _ e h
  case seqSafe => exact execSeqSafe_closed C (Sub.refl _) _ _ _ e h
  case seqLoaded => exact execSeqLoaded_closed C (Sub.refl _) _ _ _ e h
  case safeTimeout => exact execSafeTimeout_closed C (Sub.refl _) _ _ e h
  case imemWrite => exact execImemWrite_closed C (Sub.refl _) _ _ _ _ _ e h
  case broadcastWrite => exact execBroadcastWrite_closed C (Sub.refl _) _ _ _ _ _ _ e h
  case seqEvtSet => exact execSeqEvtSet_closed C (Sub.refl _) _ _ _ _ e h
  case mailboxPost => exact execMailboxPost_closed C (Sub.refl _) _ _ _ _ e h
  case mailboxTake => exact execMailboxTake_closed C (Sub.refl _) _ _ _ e h
  case resetDecl => exact execResetDecl_closed C (Sub.refl _) _ _ _ e h
  case semaphoreRead => exact execSemaphoreRead_closed C (Sub.refl _) _ _ _ e h
  case semaphoreRelease => exact execSemaphoreRelease_closed C (Sub.refl _) _ _ _ e h
  case msixIssue => exact execMsixIssue_closed C (Sub.refl _) _ _ e h
  case hostEoi => exact execHostEoi_closed C (Sub.refl _) _ _ _ e h
  case softSet => exact execSoftSet_closed C (Sub.refl _) _ _ _ e h
  case softClr => exact execSoftClr_closed C (Sub.refl _) _ _ _ e h
  case pcieRead => exact execPcieRead_closed C (Sub.refl _) _ _ _ _ e h
  case pcieWrite => exact execPcieWrite_closed C (Sub.refl _) _ _ _ _ _ e h
  case pcieLinkChange => exact execPcieLinkChange_closed C (Sub.refl _) _ _ _ _ e h
  case dmaStart => exact execDmaStart_closed C (Sub.refl _) _ _ _ e h
  case dmaStop => exact execDmaStop_closed C (Sub.refl _) _ _ _ e h
  case dmaDescriptorDone => exact execDmaDescriptorDone_closed C (Sub.refl _) _ _ e h
  case dmaHostCompletion => exact execDmaHostCompletion_closed C (Sub.refl _) _ _ _ _ e h
  case dmaCompletionTimeout => exact execDmaCompletionTimeout_closed C (Sub.refl _) _ _ e h
  case smpWrite => exact execSmpWrite_closed C (Sub.refl _) _ _ _ e h
  case smpRead => exact execSmpRead_closed C (Sub.refl _) _ _ e h
  case enec => exact execEnec_closed C (Sub.refl _) _ _ e h
  case disec => exact execDisec_closed C (Sub.refl _) _ _ e h
  case rstdaa => exact execRstdaa_closed C (Sub.refl _) _ e h
  case entdaa => exact execEntdaa_closed C (Sub.refl _) _ _ e h
  case setdasa => exact execSetdasa_closed C (Sub.refl _) _ _ e h
  case setnewda => exact execSetnewda_closed C (Sub.refl _) _ _ e h
  case setmwl => exact execSetmwl_closed C (Sub.refl _) _ _ e h
  case setmrl => exact execSetmrl_closed C (Sub.refl _) _ _ e h
  case getmwl => exact execGetmwl_closed C (Sub.refl _) _ e h
  case getmrl => exact execGetmrl_closed C (Sub.refl _) _ e h
  case getpid => exact execGetpid_closed C (Sub.refl _) _ e h
  case getbcr => exact execGetbcr_closed C (Sub.refl _) _ e h
  case getdcr => exact execGetdcr_closed C (Sub.refl _) _ e h
  case getstatus => exact execGetstatus_closed C (Sub.refl _) _ e h
  case getmxds => exact execGetmxds_closed C (Sub.refl _) _ e h
  case cccUnsupported code => exact execCccUnsupported_closed C (Sub.refl _) code _ e h
  case ibi => exact execIbi_closed C (Sub.refl _) _ e h
  case smpAddressMatch => exact execSmpAddressMatch_closed C (Sub.refl _) _ e h
  case forerunnerWindowAccess => exact execForerunnerWindowAccess_closed C (Sub.refl _) _ _ _ e h
  case indData => exact execIndData_closed C (Sub.refl _) _ _ e h
  case indStatRead => exact execIndStatRead_closed C (Sub.refl _) _ e h
  case sofSend => exact execSofSend_closed C (Sub.refl _) _ _ e h
  case sofReceive => exact execSofReceive_closed C (Sub.refl _) _ _ _ e h
  case portUp => exact execPortUp_closed C (Sub.refl _) _ _ e h
  case speedStepConfirm => exact execSpeedStepConfirm_closed C (Sub.refl _) _ _ e h
  case speedStepTimeout => exact execSpeedStepTimeout_closed C (Sub.refl _) _ _ e h
  case txSleep => exact execTxSleep_closed C (Sub.refl _) _ _ e h
  case txWake => exact execTxWake_closed C (Sub.refl _) _ _ e h
  case linkLoss => exact execLinkLoss_closed C (Sub.refl _) _ _ e h
  case towRd => exact execTowRd_closed C (Sub.refl _) _ _ _ e h
  case towWr => exact execTowWr_closed C (Sub.refl _) _ _ _ e h
  case towRdRsp => exact execTowRdRsp_closed C (Sub.refl _) _ _ _ e h
  case towWrAck => exact execTowWrAck_closed C (Sub.refl _) _ _ _ e h
  case towEnum => exact execTowEnum_closed C (Sub.refl _) _ _ _ e h
  case towEvent => exact execTowEvent_closed C (Sub.refl _) _ _ _ e h
  case towHello => exact execTowHello_closed C (Sub.refl _) _ _ _ e h
  case helloSend => exact execHelloSend_closed C (Sub.refl _) _ e h
  case towBadPacket => exact execTowBadPacket_closed C (Sub.refl _) _ _ e h
  case enumerate => exact execEnumerate_closed C (Sub.refl _) _ _ e h
  case enumTimeout => exact execEnumTimeout_closed C (Sub.refl _) _ e h
  case headWrite => exact execHeadWrite_closed C (Sub.refl _) _ _ _ e h
  case remoteWindowAccess => exact execRemoteWindowAccess_closed C (Sub.refl _) _ _ _ _ _ e h
  case remoteWindowTimeout => exact execRemoteWindowTimeout_closed C (Sub.refl _) _ _ e h
  case syncCommand => exact execSyncCommand_closed C (Sub.refl _) _ _ e h
  case towSync => exact execTowSync_closed C (Sub.refl _) _ _ _ _ e h
  case syncAct => exact execSyncAct_closed C (Sub.refl _) _ e h
  case bootDoor => exact execBootDoor_closed C (Sub.refl _) _ _ _ e h
  case imageAuthenticate => exact execImageAuthenticate_closed C (Sub.refl _) _ _ _ e h
  case flashCommand => exact execFlashCommand_closed C (Sub.refl _) _ _ _ e h
  case flashCommandEnd => exact execFlashCommandEnd_closed C (Sub.refl _) _ _ e h
  case flashCommandTimeout => exact execFlashCommandTimeout_closed C (Sub.refl _) _ e h
  case clockCheckWindow => exact execClockCheckWindow_closed C (Sub.refl _) _ _ _ e h
  case froTrimMeasure => exact execFroTrimMeasure_closed C (Sub.refl _) _ _ _ e h
  case clockSourceSelect => exact execClockSourceSelect_closed C (Sub.refl _) _ _ _ e h
  case rootWaitExpiry => exact execRootWaitExpiry_closed C (Sub.refl _) _ e h
  case gateSleep => exact execGateSleep_closed C (Sub.refl _) _ _ e h
  case gateDeepSleep => exact execGateDeepSleep_closed C (Sub.refl _) _ _ e h
  case gateQuiesceTimeout => exact execGateQuiesceTimeout_closed C (Sub.refl _) _ _ _ e h
  case domainPowerDown => exact execDomainPowerDown_closed C (Sub.refl _) _ _ e h
  case domainPowerUp => exact execDomainPowerUp_closed C (Sub.refl _) _ _ e h
  case dormantEntry => exact execDormantEntry_closed C (Sub.refl _) _ e h
  case wakeNFall => exact execWakeNFall_closed C (Sub.refl _) _ _ e h
  case towpathEnergyDetect => exact execTowpathEnergyDetect_closed C (Sub.refl _) _ _ e h
  case powerOnReset => exact execPowerOnReset_closed C (Sub.refl _) _ _ _ _ e h
  case resetN => exact execResetN_closed C (Sub.refl _) _ _ _ _ _ e h
  case pwrResetDevice => exact execPwrResetDevice_closed C (Sub.refl _) _ _ e h
  case pwrResetSup => exact execPwrResetSup_closed C (Sub.refl _) _ _ e h
  case pcieReset => exact execPcieReset_closed C (Sub.refl _) _ _ e h
  case memoryFillComplete => exact execMemoryFillComplete_closed C (Sub.refl _) _ _ e h
  case postComplete => exact execPostComplete_closed C (Sub.refl _) _ _ e h
  case timebaseRestart => exact execTimebaseRestart_closed C (Sub.refl _) _ _ e h
  case uncertStep => exact execUncertStep_closed C (Sub.refl _) _ e h
  case timebaseRead => exact execTimebaseRead_closed C (Sub.refl _) _ _ e h
  case timebaseLoad => exact execTimebaseLoad_closed C (Sub.refl _) _ _ e h
  case uncertClr => exact execUncertClr_closed C (Sub.refl _) _ _ e h
  case ppsEdge => exact execPpsEdge_closed C (Sub.refl _) _ _ e h
  case gtArm => exact execGtArm_closed C (Sub.refl _) _ _ _ e h
  case gtFire => exact execGtFire_closed C (Sub.refl _) _ _ e h
  case memxClr => exact execMemxClr_closed C (Sub.refl _) _ _ _ e h
  case scrubAccess => exact execScrubAccess_closed C (Sub.refl _) _ _ _ _ e h
  case scrubLapStall => exact execScrubLapStall_closed C (Sub.refl _) _ _ e h
  case memxLogPop => exact execMemxLogPop_closed C (Sub.refl _) _ _ e h
  case memxRetire => exact execMemxRetire_closed C (Sub.refl _) _ _ _ e h
  case retireCopyDone => exact execRetireCopyDone_closed C (Sub.refl _) _ e h
  case otpReload => exact execOtpReload_closed C (Sub.refl _) _ _ e h
  case bistCmd => exact execBistCmd_closed C (Sub.refl _) _ _ _ e h
  case bistDone => exact execBistDone_closed C (Sub.refl _) _ _ _ _ e h
  case coarseOutput => exact execCoarseOutput_closed C (Sub.refl _) _ _ _ e h
  case fineOutput => exact execFineOutput_closed C (Sub.refl _) _ _ _ e h
  case monChannelConfig => exact execMonChannelConfig_closed C (Sub.refl _) _ _ _ _ _ e h
  case monCoefWrite => exact execMonCoefWrite_closed C (Sub.refl _) _ _ _ _ e h
  case monSyncEdge => exact execMonSyncEdge_closed C (Sub.refl _) _ _ e h
  case monSyncCommand => exact execMonSyncCommand_closed C (Sub.refl _) _ _ e h
  case accRead => exact execAccRead_closed C (Sub.refl _) _ _ _ e h
  case throttleFall => exact execThrottleFall_closed C (Sub.refl _) _ e h
  case sensorReadmit => exact execSensorReadmit_closed C (Sub.refl _) _ _ _ e h
  case failAck => exact execFailAck_closed C (Sub.refl _) _ _ e h
  case holdClr => exact execHoldClr_closed C (Sub.refl _) _ _ e h
  case threshWrite => exact execThreshWrite_closed C (Sub.refl _) _ _ _ e h
  case peakClr => exact execPeakClr_closed C (Sub.refl _) _ _ e h
  case counterWrap => exact execCounterWrap_closed C (Sub.refl _) _ () _ e h
  case counterRead => exact execCounterRead_closed C (Sub.refl _) _ _ _ e h
  case counterLoad => exact execCounterLoad_closed C (Sub.refl _) _ _ _ _ e h
  case freeze => exact execFreeze_closed C (Sub.refl _) _ _ _ e h
  case snap => exact execSnap_closed C (Sub.refl _) _ _ e h
  case clearAll => exact execClearAll_closed C (Sub.refl _) _ _ e h
  case perfConfigWrite => exact execPerfConfigWrite_closed C (Sub.refl _) _ _ _ _ _ e h
  case bandwidthRun => exact execBandwidthRun_closed C (Sub.refl _) _ _ _ e h
  case bandwidthWindowEnd => exact execBandwidthWindowEnd_closed C (Sub.refl _) () _ e h
  case faultReport => exact execFaultReport_closed C (Sub.refl _) _ _ _ e h
  case ladderStepTimeout => exact execLadderStepTimeout_closed C (Sub.refl _) _ _ e h
  case ladderStepComplete => exact execLadderStepComplete_closed C (Sub.refl _) _ _ e h
  case stepDone => exact execStepDone_closed C (Sub.refl _) _ _ _ e h
  case declare => exact execDeclare_closed C (Sub.refl _) _ _ _ e h
  case devClr => exact execDevClr_closed C (Sub.refl _) _ _ _ e h
  case faultLogPop => exact execFaultLogPop_closed C (Sub.refl _) _ _ e h
  case advance => exact execAdvance_closed C (Sub.refl _) _ _ _ e h
  case keyprog => exact execKeyprog_closed C (Sub.refl _) _ _ _ e h
  case revoke => exact execRevoke_closed C (Sub.refl _) _ _ _ e h
  case rollback => exact execRollback_closed C (Sub.refl _) _ _ _ e h
  case token => exact execToken_closed C (Sub.refl _) _ _ _ e h
  case cfgprog => exact execCfgprog_closed C (Sub.refl _) _ _ _ e h
  case lifeCommandDone => exact execLifeCommandDone_closed C (Sub.refl _) _ _ e h
  case lifecycleReset => exact execLifecycleReset_closed C (Sub.refl _) _ e h
  case dbgHalt => exact execDbgHalt_closed C (Sub.refl _) _ _ e h
  case dbgHaltTaken => exact execDbgHaltTaken_closed C (Sub.refl _) _ e h
  case dbgHaltTimeout => exact execDbgHaltTimeout_closed C (Sub.refl _) _ e h
  case dbgResume => exact execDbgResume_closed C (Sub.refl _) _ _ e h
  case dbgStep => exact execDbgStep_closed C (Sub.refl _) _ _ e h
  case dbgDataAccess => exact execDbgDataAccess_closed C (Sub.refl _) _ _ _ e h
  case dbgMemoryAccess => exact execDbgMemoryAccess_closed C (Sub.refl _) _ _ _ e h
  case trnRxfRead => exact execTrnRxfRead_closed C (Sub.refl _) _ _ _ e h
  case readClear => exact execReadClear_closed C (Sub.refl _) _ _ _ e h
  case registerWrite => exact execRegisterWrite_closed C (Sub.refl _) _ _ _ _ e h
  case instructionFetchTrap => exact execInstructionFetchTrap_closed C (Sub.refl _) _ _ e h
  case patternChecker => exact execPatternChecker_closed C (Sub.refl _) _ () () _ e h
  case pciePowerStateChange => exact execPciePowerStateChange_closed C (Sub.refl _) _ _ e h
  case towpathRxWake => exact execTowpathRxWake_closed C (Sub.refl _) _ _ e h

/-- A predicate closed under every update is kept by a tick. -/
theorem idle_closed (C : Closed K P) (hK : Sub 0x58010403 K) {s t : State} (e : idle s = .next t) (h : P s) : P t :=
  done_closed C (hK.sub rfl) e (State.tick_closed C (hK.sub rfl) s h)

end Sys2Proof.Machine
end

