-- ==== Sys2Proof/Tests/Slice0.lean ====
section
/-! SUPPORT. Sys2Proof/Tests/Slice0.lean: the author's own tests. States and operands that meet the hypotheses of every clause of every statement; ill-formed commands
that are refused; and worked examples of the spec, computed by the model. -/

set_option maxRecDepth 100000
set_option linter.unusedVariables false

namespace Sys2Proof.Tests

open Sys2Proof Sys2Proof.Machine

/-! ## States -/

/-- Every domain powered. -/
def lit : State := { State.reset with regs := [(0x04004000, 0x1FFFF#32)] }

/-- The cores with values in their registers, the supervisor released. -/
def litc : State := { lit with sup := { lit.sup with released := true, pc := 0x01000100#32 }, gpr := [(50,0x80000005#32),(51,7#32),(52,0xFFFFFFFF#32),(53,0x80000000#32),(54,0x7FFFFFFF#32),(770,0x80000005#32),(771,7#32),(772,0xFFFFFFFF#32),(773,0x80000000#32),(774,0x7FFFFFFF#32)] }

/-- Sequencer 3 running. -/
def lits : State := (litc.setFld (F.LRX_SEQ_STAT_STATE 3) 1).setSeq 3 { Seq.init with pc := 0x40#32, c := true }

/-- Memory filled, with bytes for loads. -/
def litm : State := { (lits.put F.MEMX_STAT_FILLED true).setG 3 6 0x4010#32 |>.setG 48 6 0x01000020#32 with mem := [(0x01000020,0x80#8),(0x01000021,0x91#8),(0x01000022,0xA2#8),(0x01000023,0xF3#8),(0x0301C010,0x80#8),(0x0301C011,0x91#8),(0x0301C012,0xA2#8),(0x0301C013,0xF3#8)] }

/-- Both towpath ports up; the head of a ring of three; member 5. -/
def tw : State := (((lit.put (F.TOW_PORT_STAT_UP 0) true).put (F.TOW_PORT_STAT_UP 1) true).setPort 0 { Port.init with sync := true }).setPort 1 { Port.init with sync := true }
def twh : State := ((((tw.put F.TOW_CTL_HEAD true).setFld F.TOW_STAT_N 3).wr R.TOW_REACH_LO 6#32).wr R.TOW_ROUTE_LO 4#32).put F.MEMX_STAT_FILLED true
def twm : State := (tw.wr R.TOW_ID 0x45#32).put F.MEMX_STAT_FILLED true

/-- An image of R421. -/
def img (ver entry : Nat) (pub sig body : List (BitVec 8)) : List (BitVec 8) :=
  leBytes 4 0x57464756 ++ leBytes 4 1 ++ leBytes 4 ver ++ leBytes 4 body.length ++ leBytes 4 entry ++ List.replicate 12 0#8 ++ pub ++ List.replicate 7 0#8 ++ sig ++ List.replicate 24 0#8 ++ body

def makerBody : List (BitVec 8) := [1#8, 2#8, 3#8, 4#8]

def makerImg : List (BitVec 8) :=
  img 3 4 (List.replicate 97 0#8) (sha384 ((img 3 4 (List.replicate 97 0#8) [] makerBody).take 0x88 ++ makerBody) ++ List.replicate 48 0#8) makerBody

/-- A boot that waits for an image; a lifecycle state. -/
def litb : State := (lit.put F.MEMX_STAT_FILLED true).setFld F.FLASH_BOOT_STAT_PHASE 2

def lifes (st : Nat) : State := (lit.put F.MEMX_STAT_FILLED true).setFld F.LIFE_STATE_STATE st

/-- Bytes as memory from an address on. -/
def memOf (a : Nat) (bs : List (BitVec 8)) : List Host.Cell := bs.zipIdx.filterMap fun b => if b.1 = 0#8 then none else some (a + b.2, b.1)

/-- Groups of code symbols: of four codewords of zeros, of the level 0 throughout, of a word that no trial of two flips corrects. -/
def goodGroup : List Soft := (groupLevels false (List.replicate 4 255)).map fun g => ⟨g, 7, 7, false⟩
def badGroup : List Soft := List.replicate 288 ⟨0, 7, 7, false⟩
def failGroup : List Soft := (groupLevels false (List.replicate 4 365193344472768)).map fun g => ⟨g, 3, 3, false⟩

/-! ## Runs of equal groups -/

theorem foldl_congr_mem {α β : Type} {f h : β → α → β} : ∀ (l : List α) (b : β), (∀ b, ∀ a ∈ l, f b a = h b a) → l.foldl f b = l.foldl h b
  | [], _, _ => rfl
  | a :: l, b, e => by
    rw [List.foldl_cons, List.foldl_cons, e b a (List.mem_cons_self ..)]
    exact foldl_congr_mem l _ fun b c hc => e b c (List.mem_cons_of_mem _ hc)

theorem getD_append_left {α : Type} {g y : List α} {i : Nat} (d : α) (h : i < g.length) : (g ++ y).getD i d = g.getD i d := by
  simp [List.getD, List.getElem?_append_left h]

theorem groupWord_append {deep : Bool} {g : List Soft} (y : List Soft) {w : Nat} (hg : g.length = 2 * codeLen deep) (hw : w < 4) :
    groupWord deep (g ++ y) w = groupWord deep g w := by
  refine foldl_congr_mem _ _ fun v q hq => ?_
  have h : 4 * q + w < g.length := by rw [hg]; have := List.mem_range.mp hq; omega
  rw [getD_append_left _ h]

theorem groupRels_append {deep : Bool} {g : List Soft} (y : List Soft) {w : Nat} (hg : g.length = 2 * codeLen deep) (hw : w < 4) :
    groupRels deep (g ++ y) w = groupRels deep g w := by
  refine List.map_congr_left fun p hp => ?_
  have h : 4 * ((codeLen deep - 1 - p) / 2) + w < g.length := by
    have := List.mem_range.mp hp
    have : codeLen deep % 2 = 0 := by cases deep <;> decide
    omega
  simp only [getD_append_left _ h]

/-- One more group in front adds its verdicts in front, as long as the engine tests it with the rest. -/
theorem candidates_append {deep : Bool} {g y : List Soft} (hg : g.length = 2 * codeLen deep) (hy : y.length / (2 * codeLen deep) < 16) :
    candidates deep (g ++ y) = candidates deep g ++ candidates deep y := by
  have pos : 0 < 2 * codeLen deep := by cases deep <;> decide
  have hl : (g ++ y).length / (2 * codeLen deep) = y.length / (2 * codeLen deep) + 1 := by
    rw [List.length_append, hg, Nat.add_comm, Nat.add_div_right _ pos]
  have h1 : g.length / (2 * codeLen deep) = 1 := by rw [hg, Nat.div_self pos]
  have e : 4 * min 16 (y.length / (2 * codeLen deep) + 1) = 4 + 4 * min 16 (y.length / (2 * codeLen deep)) := by omega
  unfold candidates
  simp only [hl, h1, e, List.range_add, List.map_append, List.map_map]
  congr 1
  · refine List.map_congr_left fun i hi => ?_
    have hi : i < 4 := List.mem_range.mp hi
    have hw : i % 4 < 4 := Nat.mod_lt _ (by decide)
    have h0 : i / 4 = 0 := by omega
    simp only [h0, Nat.zero_mul, List.drop_zero, groupWord_append y hg hw, groupRels_append y hg hw]
  · refine List.map_congr_left fun i _ => ?_
    have h0 : (4 + i) / 4 = i / 4 + 1 := by omega
    have hm : (4 + i) % 4 = i % 4 := by omega
    have hd : (g ++ y).drop ((i / 4 + 1) * (2 * codeLen deep)) = y.drop (i / 4 * (2 * codeLen deep)) := by
      rw [Nat.add_mul, Nat.one_mul, Nat.add_comm, ← hg, List.drop_append]
      simp
    simp only [Function.comp_apply, h0, hm, hd]

theorem candidates_flatten {deep : Bool} {g : List Soft} (hg : g.length = 2 * codeLen deep) :
    ∀ k ≤ 16, candidates deep (List.replicate k g).flatten = (List.replicate k (candidates deep g)).flatten
  | 0, _ => by simp [candidates]
  | k + 1, h => by
    have pos : 0 < 2 * codeLen deep := by cases deep <;> decide
    have hl : (List.replicate k g).flatten.length / (2 * codeLen deep) < 16 := by
      simp only [List.length_flatten, List.map_replicate, List.sum_replicate_nat, hg]
      rw [Nat.mul_div_cancel _ pos]
      omega
    rw [List.replicate_succ, List.flatten_cons, candidates_append hg hl, candidates_flatten hg k (by omega), List.replicate_succ, List.flatten_cons]

/-- The verdicts on a group of the all-zero codeword, and on one without a zero syndrome. -/
theorem goodGroup_verdicts : candidates false goodGroup = [true, true, true, true] := by decide
theorem badGroup_verdicts : candidates true badGroup = [false, false, false, false] := by decide

theorem lock_witness :
    let s := ((lit.setFld F.MODE_STATUS_CURRENT 3).put (F.LRX_CW_STAT_HUNTING 3) true).onLane 3 fun l => { l with dec := (List.replicate 12 goodGroup).flatten }
    s.coded = true ∧ s.is (F.LRX_CW_STAT_HUNTING 3) = true ∧ 47 < (candidates s.deep (s.lane 3).dec).length ∧
    ((candidates s.deep (s.lane 3).dec).take 47).count true = 47 ∧ ((candidates s.deep (s.lane 3).dec).take (47 + 1)).count true = 48 ∧
    ((candidates s.deep (s.lane 3).dec).take 47).count false ≤ 16 := by
  intro s
  have hd : (s.lane 3).dec = (List.replicate 12 goodGroup).flatten := rfl
  have hdeep : s.deep = false := by decide
  rw [hd, hdeep, candidates_flatten rfl 12 (by decide), goodGroup_verdicts]
  exact ⟨by decide, by decide, by decide, by decide, by decide, by decide⟩

theorem abandon_witness :
    let s := (((lit.setFld F.MODE_STATUS_CURRENT 4).put (F.LRX_CW_STAT_HUNTING 3) true).setFld (F.LRX_CW_STAT_OFFSET 3) 287).onLane 3
      fun l => { l with dec := (List.replicate 5 badGroup).flatten }
    s.coded = true ∧ s.is (F.LRX_CW_STAT_HUNTING 3) = true ∧ 16 < (candidates s.deep (s.lane 3).dec).length ∧
    ((candidates s.deep (s.lane 3).dec).take 16).count false = 16 ∧ ((candidates s.deep (s.lane 3).dec).take (16 + 1)).count false = 17 ∧
    ((candidates s.deep (s.lane 3).dec).take 16).count true ≤ 47 := by
  intro s
  have hd : (s.lane 3).dec = (List.replicate 5 badGroup).flatten := rfl
  have hdeep : s.deep = true := by decide
  rw [hd, hdeep, candidates_flatten rfl 5 (by decide), badGroup_verdicts]
  exact ⟨by decide, by decide, by decide, by decide, by decide, by decide⟩



/-! ## The hypotheses of the statements are met -/

theorem test_meets_ModeRequestAnswers :
    (∃ (m : Master) (v : Word) (s : State) (c : Nat), s.Reached m R.MODE_REQ ∧ s.requestRefusal m (bitsOf v.toNat 0 3) (bitAt v.toNat 3) (bitAt v.toNat 4) = some c) ∧
    (∃ (m : Master) (v : Word) (s : State), s.Reached m R.MODE_REQ ∧ s.requestRefusal m (bitsOf v.toNat 0 3) (bitAt v.toNat 3) (bitAt v.toNat 4) = none ∧
      s.inTransit = false ∧ s.sameMode (bitsOf v.toNat 0 3) (bitAt v.toNat 3) (bitAt v.toNat 4) = true) ∧
    (∃ (m : Master) (v : Word) (s : State), s.Reached m R.MODE_REQ ∧ s.requestRefusal m (bitsOf v.toNat 0 3) (bitAt v.toNat 3) (bitAt v.toNat 4) = none ∧
      s.inTransit = true) :=
  ⟨⟨.hostNS, 2#32, lit, 13, by decide⟩,
      ⟨.hostS, 1#32, lit.setFld F.MODE_STATUS_CURRENT 1, by decide⟩,
      ⟨.hostS, 2#32, lit.put F.MODE_STATUS_BUSY true, by decide⟩⟩

theorem test_meets_TransitionStartsAndCompletes :
    (∃ (m : Master) (v : Word) (s : State), s.Reached m R.MODE_REQ ∧ s.requestRefusal m (bitsOf v.toNat 0 3) (bitAt v.toNat 3) (bitAt v.toNat 4) = none ∧
      s.inTransit = false ∧ s.mode = 1 ∧ bitsOf v.toNat 0 3 ≠ 1) ∧
    (∃ (m : Master) (v : Word) (s : State), s.Reached m R.MODE_REQ ∧ s.requestRefusal m (bitsOf v.toNat 0 3) (bitAt v.toNat 3) (bitAt v.toNat 4) = none ∧
      s.inTransit = false ∧ isData s.mode = true ∧ s.sameMode (bitsOf v.toNat 0 3) (bitAt v.toNat 3) (bitAt v.toNat 4) = false ∧ (bitsOf v.toNat 0 3 = 5 ∨ bitsOf
      v.toNat 0 3 ≠ s.mode ∨ bitAt v.toNat 4 ≠ s.is F.MODE_STATUS_HOST_RATE)) ∧
    (∃ (m : Master) (v : Word) (s : State), s.Reached m R.MODE_REQ ∧ s.requestRefusal m (bitsOf v.toNat 0 3) (bitAt v.toNat 3) (bitAt v.toNat 4) = none ∧
      s.inTransit = false ∧ 2 ≤ bitsOf v.toNat 0 3 ∧ bitsOf v.toNat 0 3 ≤ 4 ∧ bitsOf v.toNat 0 3 = s.mode ∧ bitAt v.toNat 4 = s.is F.MODE_STATUS_HOST_RATE ∧ bitAt
      v.toNat 3 ≠ s.is F.MODE_STATUS_FIXLAT) ∧
    (∃ (s : State), s.dorm.phase ≠ .waking ∧ s.transReached = true ∧ s.is F.MODE_STATUS_WAITING = false) ∧
    (∃ (s : State), s.dorm.phase ≠ .waking ∧ s.transReached = true ∧ s.is F.MODE_STATUS_WAITING = true ∧ s.fld F.MODE_STATUS_WAIT_TARGET ≠ s.fld
      F.MODE_STATUS_IN_TARGET ∧ (s.fld F.MODE_STATUS_WAIT_TARGET ≠ 5 ∨ s.diagValid = true)) ∧
    (∃ (s : State), s.dorm.phase ≠ .waking ∧ s.transReached = true ∧ s.is F.MODE_STATUS_WAITING = true ∧ s.fld F.MODE_STATUS_WAIT_TARGET = 5 ∧ s.diagValid = false) ∧
    (∃ (s : State), s.dorm.phase ≠ .waking ∧ s.transReached = true ∧ s.is F.MODE_STATUS_WAITING = true ∧ s.fld F.MODE_STATUS_WAIT_TARGET = s.fld
      F.MODE_STATUS_IN_TARGET ∧ s.fld F.MODE_STATUS_IN_TARGET ≠ 5 ∧ s.is F.MODE_STATUS_WAIT_FIXLAT = s.trans.fixlat ∧ s.is F.MODE_STATUS_WAIT_HOST_RATE =
      s.trans.rate) ∧
    (∃ (s : State), s.dorm.phase = .waking ∧ s.domOn 14 = true ∧ s.domOn 15 = true ∧ s.domOn 16 = true ∧ s.is F.MODE_STATUS_BUSY = false ∧ s.is
      F.MODE_STATUS_WAITING = false ∧ s.fld F.MODE_WAKE_TARGET_TARGET = 1) ∧
    (∃ (s : State), s.dorm.phase = .waking ∧ s.domOn 14 = true ∧ s.domOn 15 = true ∧ s.domOn 16 = true ∧ s.is F.MODE_STATUS_BUSY = false ∧ s.is
      F.MODE_STATUS_WAITING = false ∧ s.mode = 1 ∧ s.fld F.MODE_WAKE_TARGET_TARGET ≠ 1 ∧ s.requestRefusal .supS (s.fld F.MODE_WAKE_TARGET_TARGET) (bitAt (s.rd
      R.MODE_WAKE_TARGET).toNat 3) (bitAt (s.rd R.MODE_WAKE_TARGET).toNat 4) = none) ∧
    (∃ (s : State), s.dorm.phase = .waking ∧ s.domOn 14 = true ∧ s.domOn 15 = true ∧ s.domOn 16 = true ∧ s.is F.MODE_STATUS_BUSY = false ∧ s.is
      F.MODE_STATUS_WAITING = true ∧ s.mode = 1 ∧ s.fld F.MODE_STATUS_WAIT_TARGET ≠ 1 ∧ (s.fld F.MODE_STATUS_WAIT_TARGET ≠ 5 ∨ s.diagValid = true) ∧ s.fld
      F.MODE_WAKE_TARGET_TARGET = 1) ∧
    (∃ (s : State), s.dorm.phase = .waking ∧ s.domOn 14 = true ∧ s.domOn 15 = true ∧ s.domOn 16 = true ∧ s.is F.MODE_STATUS_BUSY = true ∧ isData (s.fld
      F.MODE_STATUS_IN_TARGET) = true ∧ s.mode = 1 ∧ s.fld F.MODE_WAKE_TARGET_TARGET = 1) :=
  ⟨⟨.hostS, 2#32, lit.setFld F.MODE_STATUS_CURRENT 1, by decide⟩,
      ⟨.hostS, 3#32, ((lit.setFld F.MODE_STATUS_CURRENT 2).setFld (F.LTX_STATUS_STATE 11) 3).setFld (F.LRX_TRN_CTL_STATE 3) 5, by decide⟩,
      ⟨.hostS, 11#32, ((lit.setFld F.MODE_STATUS_CURRENT 3).setFld (F.LTX_STATUS_STATE 11) 3).setFld (F.LRX_TRN_CTL_STATE 3) 5, by decide⟩,
      ⟨(lit.put F.MODE_STATUS_BUSY true).setFld F.MODE_STATUS_IN_TARGET 2, by decide⟩,
      ⟨(((lit.put F.MODE_STATUS_BUSY true).setFld F.MODE_STATUS_IN_TARGET 2).put F.MODE_STATUS_WAITING true).setFld F.MODE_STATUS_WAIT_TARGET 3, by decide⟩,
      ⟨((((lit.put F.MODE_STATUS_BUSY true).setFld F.MODE_STATUS_IN_TARGET 2).put F.MODE_STATUS_WAITING true).setFld F.MODE_STATUS_WAIT_TARGET 5).setFld F.MODE_DIAG_BASE 0, by decide⟩,
      ⟨(((lit.put F.MODE_STATUS_BUSY true).setFld F.MODE_STATUS_IN_TARGET 2).put F.MODE_STATUS_WAITING true).setFld F.MODE_STATUS_WAIT_TARGET 2, by decide⟩,
      ⟨{ (lit.setFld F.MODE_WAKE_TARGET_TARGET 1) with dorm := { lit.dorm with phase := .waking } }, by decide⟩,
      ⟨{ (lit.setFld F.MODE_WAKE_TARGET_TARGET 3) with dorm := { lit.dorm with phase := .waking } }, by decide⟩,
      ⟨{ ((lit.put F.MODE_STATUS_WAITING true).setFld F.MODE_STATUS_WAIT_TARGET 4).setFld F.MODE_WAKE_TARGET_TARGET 1 with dorm := { lit.dorm with phase := .waking } }, by decide⟩,
      ⟨{ ((lit.put F.MODE_STATUS_BUSY true).setFld F.MODE_STATUS_IN_TARGET 5).setFld F.MODE_WAKE_TARGET_TARGET 1 with dorm := { lit.dorm with phase := .waking }, trans := { lit.trans with base := 3, loop := 1 } }, by decide⟩⟩

theorem test_meets_LanesLeaveAndReturnToService :
    (∃ (m : Master) (n : Fin 48) (s : State), s.Reached m R.MODE_OOS_LINE) ∧
    (∃ (m : Master) (n : Fin 48) (s : State), s.Reached m R.MODE_OOS_LINE ∧ s.unusable n = false ∧ (∀ k : Fin 48, s.unusable k = true → s.oos k = true) ∧ s.is
      F.MODE_STATUS_BUSY = false ∧ isData s.mode = false) ∧
    (∃ (m : Master) (n : Fin 48) (s : State), s.Reached m R.MODE_OOS_LINE ∧ s.unusable n = false ∧ s.oos n = true ∧ (∀ k : Fin 48, s.unusable k = true → s.oos k =
      true) ∧ s.is F.MODE_STATUS_BUSY = false ∧ isData s.mode = true ∧ s.laneOn n = true ∧ s.devFaulted = false) ∧
    (∃ (m : Master) (n : Fin 48) (s : State), s.Reached m R.MODE_OOS_LINE ∧ s.unusable n = true ∧ s.oos n = true) :=
  ⟨⟨.hostS, 3, lit, by decide⟩,
      ⟨.hostS, 3, lit.wr R.MODE_OOS_LINE 0xFF#32, by decide⟩,
      ⟨.hostS, 3, (lit.wr R.MODE_OOS_LINE 0xFF#32).setFld F.MODE_STATUS_CURRENT 2, by decide⟩,
      ⟨.hostS, 3, (lit.wr R.MODE_OOS_LINE 8#32).wr R.MODE_UNUSABLE_LINE 8#32, by decide⟩⟩

theorem test_meets_SharedResourcesClaimed :
    (∃ (m : Master) (res : Fin 6) (use : Fin 4) (s : State), s.Reached m (claimReg res) ∧ s.claimUse res = 0 ∧ 1 ≤ use.val ∧ use.val < 3 ∧ (2 ≤ res.val → use.val =
      1)) ∧
    (∃ (m : Master) (res : Fin 6) (use : Fin 4) (s : State), s.Reached m (claimReg res) ∧ 1 ≤ use.val ∧ (s.claimUse res ≠ 0 ∨ use.val = 3 ∨ 2 ≤ res.val ∧ use.val =
      2)) :=
  ⟨⟨.hostS, 0, 2, lit, by decide⟩,
      ⟨.hostS, 0, 3, lit, by decide⟩⟩

theorem test_meets_HeldClaimIsReleasedOnlyByItsHolder :
    (∃ (m : Master) (res : Fin 6) (s : State), s.Reached m (claimReg res) ∧ s.claimUse res ≠ 0 ∧ (m.holder = s.fld ⟨claimReg res, 4, 4⟩ ∧ m.secBit = s.is ⟨claimReg
      res, 9, 1⟩ ∨ m = .supS)) ∧
    (∃ (m : Master) (res : Fin 6) (s : State), s.Reached m (claimReg res) ∧ s.claimUse res ≠ 0 ∧ m ≠ .supS ∧ (m.holder ≠ s.fld ⟨claimReg res, 4, 4⟩ ∨ m.secBit ≠
      s.is ⟨claimReg res, 9, 1⟩)) ∧
    (∃ (m : Master) (res : Fin 6) (s : State), s.Reached m (claimReg res) ∧ s.claimUse res = 0) :=
  ⟨⟨.hostS, 3, lit.wr (claimReg 3) 0x31#32, by decide⟩,
      ⟨.hostNS, 3, lit.wr (claimReg 3) 0x31#32, by decide⟩,
      ⟨.hostNS, 3, lit, by decide⟩⟩

theorem test_meets_FabricMarginsTargetsAndOutputLocks :
    (∃ (margins : List Int) (s : State), margins.length = 8 ∧ s.domOn 1 = true ∧ s.is F.FAB_CTL_SPEED_EN = true ∧ s.is F.FAB_CTL_CRIT_FAULT_EN = false) ∧
    (∃ (margins : List Int) (s : State), margins.length = 8 ∧ s.domOn 1 = true ∧ s.is F.FAB_CTL_SPEED_EN = true ∧ (s.is F.FAB_STATUS_MARGIN_CRIT = true ∨ s.sfld
      F.FAB_MARGIN_THR_CRIT ≤ (lowest (margins.map (clampInt (-2048) 2047))).2)) ∧
    (∃ (margins : List Int) (s : State), margins.length = 8 ∧ s.domOn 1 = true ∧ s.is F.FAB_CTL_SPEED_EN = true ∧ s.is F.FAB_CTL_CRIT_FAULT_EN = true ∧ s.is
      F.FAB_STATUS_MARGIN_CRIT = false ∧ (lowest (margins.map (clampInt (-2048) 2047))).2 < s.sfld F.FAB_MARGIN_THR_CRIT) ∧
    (∃ (margins : List Int) (s : State), margins.length = 8 ∧ s.is F.FAB_CTL_SPEED_EN = false) ∧
    (∃ (m : Master) (s : State), s.Reached m R.FAB_MARGIN_MIN) ∧
    (∃ (m : Master) (host : Bool) (v : Word) (s : State), s.Reached m (if host then R.FAB_FL_TGT_HTX else R.FAB_FL_TGT_LTX) ∧ s.targetMode.2.2 = false ∧ s.is
      F.MODE_STATUS_FIXLAT = false) ∧
    (∃ (m : Master) (host : Bool) (v : Word) (s : State), s.Reached m (if host then R.FAB_FL_TGT_HTX else R.FAB_FL_TGT_LTX) ∧ s.targetMode.2.2 = false ∧ s.is
      F.MODE_STATUS_FIXLAT = true) ∧
    (∃ (m : Master) (host : Bool) (v : Word) (s : State), s.Reached m (if host then R.FAB_FL_TGT_HTX else R.FAB_FL_TGT_LTX) ∧ s.targetMode.2.2 = true) ∧
    (∃ (j : Fin 24) (lat : BitVec 24) (s : State), s.fld (F.FAB_LAT_STATE j) = 1 ∧ lat.toNat ≤ s.lockTarget j + 8 ∧ s.lockTarget j ≤ lat.toNat + 8) ∧
    (∃ (j : Fin 24) (lat : BitVec 24) (s : State), (s.fld (F.FAB_LAT_STATE j) ≠ 1 ∨ s.lockTarget j + 8 < lat.toNat ∨ lat.toNat + 8 < s.lockTarget j)) ∧
    (∃ (j : Fin 24) (lat : BitVec 24) (s : State), s.fld (F.FAB_LAT_STATE j) = 2 ∧ (s.lockTarget j + 8 < lat.toNat ∨ lat.toNat + 8 < s.lockTarget j)) ∧
    (∃ (j : Fin 24) (lat : BitVec 24) (s : State), (s.fld (F.FAB_LAT_STATE j) ≠ 2 ∨ lat.toNat ≤ s.lockTarget j + 8 ∧ s.lockTarget j ≤ lat.toNat + 8)) ∧
    (∃ (n : Fin 48) (s : State), (n.val < 8 ∨ 16 ≤ n.val ∧ n.val < 32) ∧ (s.crossing n).1 = 2) ∧
    (∃ (n : Fin 48) (s : State), (8 ≤ n.val ∧ n.val < 16 ∨ 32 ≤ n.val) ∧ (s.crossing n).1 = 2) ∧
    (∃ (n : Fin 48) (s : State), (s.crossing n).1 ≠ 2) :=
  ⟨⟨[30, 40, 25, 99, 5000, 31, 32, 33], lit.wr R.FAB_CTL 1#32, by decide⟩,
      ⟨[30, 40, 25, 99, 5000, 31, 32, 33], lit.wr R.FAB_CTL 0xFF#32, by decide⟩,
      ⟨[30, -40, 25, -3000, 50, 31, 32, 33], lit.wr R.FAB_CTL 0xFF#32, by decide⟩,
      ⟨[30, -40, 25, -3000, 50, 31, 32, 33], lit.wr R.FAB_CTL 0#32, by decide⟩,
      ⟨.hostS, lit.wr R.FAB_MARGIN_MIN 0x123#32, by decide⟩,
      ⟨.supS, true, 9775#32, lit.setFld (F.FAB_LAT_STATE 13) 2, by decide⟩,
      ⟨.supS, false, 9775#32, ((((lit.put F.MODE_STATUS_FIXLAT true).setFld F.MODE_STATUS_CURRENT 2).put F.MODE_STATUS_BUSY true).setFld F.MODE_STATUS_IN_TARGET 3).setFld (F.FAB_LAT_STATE 3) 2, by decide⟩,
      ⟨.supS, false, 9775#32, ((lit.put F.MODE_STATUS_FIXLAT true).setFld F.MODE_STATUS_CURRENT 2).setFld (F.FAB_LAT_STATE 3) 2, by decide⟩,
      ⟨3, 5#24, lit.setFld (F.FAB_LAT_STATE 3) 1, by decide⟩,
      ⟨3, 5#24, lit.setFld (F.FAB_LAT_STATE 3) 2, by decide⟩,
      ⟨23, 9#24, lit.setFld (F.FAB_LAT_STATE 23) 2, by decide⟩,
      ⟨23, 8#24, lit.setFld (F.FAB_LAT_STATE 23) 2, by decide⟩,
      ⟨3, (lit.setCrossing 3 (2, true)).setPound 3 [⟨1#512, 0#32, []⟩, ⟨2#512, 0#32, []⟩], by decide⟩,
      ⟨40, (lit.setCrossing 40 (2, true)).setStore 16 [⟨1#512, 0#32, []⟩, ⟨2#512, 0#32, []⟩], by decide⟩,
      ⟨20, lit.setCrossing 20 (1, true), by decide⟩⟩

theorem test_meets_BargesEnterAndLeave :
    (∃ (n : Fin 8) (codes : List (BitVec 8)) (sym : BitVec 17) (frac : BitVec 4) (s : State), s.acting = true ∧ codes.length = s.bargeSyms ∧ (codes.length = 256 ∨
      codes.length = 128) ∧ s.oos n = false ∧ s.laneOn n = true ∧ s.nearEnd = false ∧ s.running n = true ∧ s.crossOpen n = true ∧ s.coded = false ∧ s.lineMode = 2 ∧
      s.is (F.LRX_STATUS_DATA n) = true ∧ s.fld (F.LRX_STATUS_ACQ_STATE n) ≠ 7 ∧ (s.lane n).rx.q = [] ∧ (s.lane n).rx.ys = [] ∧ (s.lane n).rx.skip = 0 ∧ (s.pound
      n).length < 16) ∧
    (∃ (n : Fin 8) (codes : List (BitVec 8)) (sym : BitVec 17) (frac : BitVec 4) (s : State), s.acting = true ∧ codes.length = s.bargeSyms ∧ (codes.length = 256 ∨
      codes.length = 128) ∧ s.oos n = false ∧ s.laneOn n = true ∧ s.nearEnd = false ∧ s.running n = true ∧ s.crossOpen n = true ∧ s.coded = false ∧ s.lineMode = 2 ∧
      s.is (F.LRX_STATUS_DATA n) = true ∧ s.fld (F.LRX_STATUS_ACQ_STATE n) ≠ 7 ∧ (s.lane n).rx.q = [] ∧ (s.lane n).rx.ys = [] ∧ (s.lane n).rx.skip = 0 ∧ 16 ≤ (s.pound
      n).length) ∧
    (∃ (n : Fin 8) (codes : List (BitVec 8)) (sym : BitVec 17) (frac : BitVec 4) (s : State), s.acting = true ∧ codes.length = s.bargeSyms ∧ (codes.length = 256 ∨
      codes.length = 128) ∧ s.oos n = false ∧ s.laneOn n = true ∧ s.nearEnd = false ∧ s.running n = true ∧ s.crossOpen n = true ∧ s.gathers n = false ∧ (s.pound
      n).length < 16 ∧ (s.lane n).rx.q = []) ∧
    (∃ (k : Fin 16) (codes : List (BitVec 6)) (sym : BitVec 17) (frac : BitVec 4) (s : State), s.acting = true ∧ 2 * codes.length = s.bargeSyms ∧ (codes.length =
      128 ∨ codes.length = 64) ∧ s.slotCarries (16 + k) = true ∧ (s.pound (16 + k)).length < 16) ∧
    (∃ (k : Fin 16) (codes : List (BitVec 6)) (sym : BitVec 17) (frac : BitVec 4) (s : State), s.acting = true ∧ 2 * codes.length = s.bargeSyms ∧ (codes.length =
      128 ∨ codes.length = 64) ∧ s.slotCarries (16 + k) = true ∧ 16 ≤ (s.pound (16 + k)).length) ∧
    (∃ (k : Fin 16) (codes : List (BitVec 6)) (sym : BitVec 17) (frac : BitVec 4) (s : State), s.acting = true ∧ 2 * codes.length = s.bargeSyms ∧ (codes.length =
      128 ∨ codes.length = 64) ∧ s.slotCarries (16 + k) = false ∧ s.crossOpen (16 + k) = true ∧ s.hostOf 16 (s.slot (16 + k)) = 16 + k ∧ (s.pound (16 + k)).length <
      16) ∧
    (∃ (j : Fin 24) (upset : BitVec 32) (lat : BitVec 24) (b : Barge) (rest : List Barge) (s : State), s.acting = true ∧ s.running (laneOfOut j) = true ∧ s.laneOn
      (laneOfOut j) = true ∧ (j.val < 8 → (s.lane (8 + j)).src = 0) ∧ s.store j = b :: rest ∧ bitAt b.side.toNat 21 = true) ∧
    (∃ (j : Fin 24) (upset : BitVec 32) (lat : BitVec 24) (s : State), s.running (laneOfOut j) = true ∧ s.laneOn (laneOfOut j) = true ∧ (j.val < 8 → (s.lane (8 +
      j)).src = 0) ∧ (s.acting = false ∨ ((s.store j).all fun b => !bitAt b.side.toNat 21) = true)) ∧
    (∃ (j : Fin 24) (upset : BitVec 32) (lat : BitVec 24) (s : State), j.val < 8 ∧ s.running (laneOfOut j) = true ∧ s.laneOn (laneOfOut j) = true ∧ (s.lane (8 +
      j)).src ≠ 0) :=
  ⟨⟨2, List.replicate 256 40#8, 3#17, 1#4, ((((lit.setFld F.MODE_STATUS_CURRENT 2).setFld (F.LRX_STATUS_ACQ_STATE 2) 6).put (F.LRX_STATUS_DATA 2) true).setCrossing 2 (0, false)).wr (bankAddr 2 false 8) 0x40#32, by decide⟩,
      ⟨2, List.replicate 256 40#8, 3#17, 1#4, ((((lit.setFld F.MODE_STATUS_CURRENT 2).setFld (F.LRX_STATUS_ACQ_STATE 2) 6).put (F.LRX_STATUS_DATA 2) true).setCrossing 2 (0, false)).setPound 2 (List.replicate 16 ⟨1#512, 0#32, []⟩), by decide⟩,
      ⟨2, List.replicate 256 40#8, 3#17, 1#4, ((lit.setFld F.MODE_STATUS_CURRENT 3).setFld (F.LRX_STATUS_ACQ_STATE 2) 2).setCrossing 2 (0, false), by decide⟩,
      ⟨2, List.replicate 128 3#6, 3#17, 1#4, (((lit.setFld F.MODE_STATUS_CURRENT 2).setFld (F.HRX_STATUS_STATE 18) 2).setCrossing 18 (0, false)).onLane 18 fun l => { l with inv := true }, by decide⟩,
      ⟨3, List.replicate 128 3#6, 3#17, 1#4, (((lit.setFld F.MODE_STATUS_CURRENT 2).setFld (F.HRX_STATUS_STATE 19) 2).setCrossing 19 (0, false)).setPound 19 (List.replicate 16 ⟨1#512, 0#32, []⟩), by decide⟩,
      ⟨3, List.replicate 128 3#6, 3#17, 1#4, ((lit.setFld F.MODE_STATUS_CURRENT 2).setFld (F.HRX_STATUS_STATE 19) 1).setCrossing 19 (0, false), by decide⟩,
      ⟨2, 0#32, 1#24, ⟨77#512, 0x200000#32, []⟩, [], ((lit.setFld F.MODE_STATUS_CURRENT 2).setFld (F.LTX_STATUS_STATE 10) 3).setStore 2 [⟨77#512, 0x200000#32, []⟩], by decide⟩,
      ⟨2, 0#32, 1#24, (lit.setFld F.MODE_STATUS_CURRENT 2).setFld (F.LTX_STATUS_STATE 10) 3, by decide⟩,
      ⟨2, 0#32, 1#24, (((lit.setFld F.MODE_STATUS_CURRENT 2).setFld (F.LTX_STATUS_STATE 10) 3).onLane 10 fun l => { l with src := 1 }).setStore 2 [⟨77#512, 0x200000#32, []⟩], by decide⟩⟩

theorem test_meets_BankCommitNeedsAStoppedSequencer :
    (∃ (m : Master) (n : Fin 48) (s : State), s.Reached m (R.LRX_BANK n) ∧ s.seqStopped n = false) ∧
    (∃ (m : Master) (n : Fin 48) (s : State), s.Reached m (R.LRX_BANK n) ∧ s.seqStopped n = true ∧ s.shadowOk n = true) ∧
    (∃ (m : Master) (n : Fin 48) (s : State), s.Reached m (R.LRX_BANK n) ∧ s.seqStopped n = true ∧ s.shadowOk n = false) :=
  ⟨⟨.hostS, 3, lit.setFld (F.LRX_SEQ_STAT_STATE 3) 1, by decide⟩,
      ⟨.hostS, 20, lit.wr (bankAddr 20 true 3) 5#32, by decide⟩,
      ⟨.hostS, 3, lit.wr (bankAddr 3 true 51) 0x01010101#32, by decide⟩⟩

theorem test_meets_HostLaneStatesFollowTheirSignal :
    (∃ (k : Fin 16) (s : State), s.fld (F.HRX_STATUS_STATE (16 + k)) = 1 ∧ s.is (F.HRX_STATUS_CDR_LOCK (16 + k)) = true ∧ (s.lane (16 + k)).ready = true ∧ s.oos (16
      + k) = false) ∧
    (∃ (k : Fin 16) (mv : Nat) (unlocked : Bool) (s : State), s.fld (F.HRX_STATUS_STATE (16 + k)) = 2 ∧ (mv < 40 ∨ unlocked = true ∨ s.is (F.HRX_STATUS_CDR_LOCK (16
      + k)) = false)) ∧
    (∃ (k : Fin 16) (mv : Nat) (s : State), s.fld (F.HRX_STATUS_STATE (16 + k)) = 2 ∧ s.is (F.HRX_STATUS_CDR_LOCK (16 + k)) = true ∧ 120 < mv) ∧
    (∃ (k : Fin 16) (mv : Nat) (s : State), s.fld (F.HRX_STATUS_STATE (16 + k)) = 3 ∧ s.is (F.HRX_STATUS_CDR_LOCK (16 + k)) = true ∧ 120 < mv) ∧
    (∃ (k : Fin 16) (mv : Nat) (s : State), s.fld (F.HRX_STATUS_STATE (16 + k)) = 2 ∧ s.is (F.HRX_STATUS_CDR_LOCK (16 + k)) = true ∧ 40 ≤ mv ∧ mv ≤ 120) ∧
    (∃ (k : Fin 16) (mv : Nat) (s : State), s.fld (F.HRX_STATUS_STATE (16 + k)) = 3 ∧ (mv < 40 ∨ s.is (F.HRX_STATUS_CDR_LOCK (16 + k)) = false)) ∧
    (∃ (r : Fin 24) (ofs : List Int) (s : State), 8 ≤ r.val ∧ s.fld (F.HRX_STATUS_STATE (rxLane r)) ≠ 0 ∧ s.is (F.HRX_STATUS_CDR_LOCK (rxLane r)) = false) ∧
    (∃ (r : Fin 24) (ofs : List Int) (s : State), r.val < 8 ∧ ofs.length = 8 ∧ s.lrxRecovers r = true ∧ s.is (F.LRX_STATUS_CDR_LOCK r) = false ∧ (∀ v ∈ ofs, (8 * v
      - ofs.sum).natAbs ≤ 8 * 200 ∧ v.natAbs < 3000)) ∧
    (∃ (r : Fin 24) (ofs : List Int) (s : State), r.val < 8 ∧ ofs.length = 8 ∧ (∃ v ∈ ofs, 8 * 200 < (8 * v - ofs.sum).natAbs ∨ 3000 ≤ v.natAbs)) ∧
    (∃ (r : Fin 24) (ofs : Int × Int) (s : State), 8 ≤ r.val ∧ s.is (F.HRX_STATUS_CDR_LOCK (rxLane r)) = true) ∧
    (∃ (r : Fin 24) (ofs : Int × Int) (s : State), r.val < 8 ∧ s.lrxRecovers r = true ∧ s.is (F.LRX_STATUS_CDR_LOCK r) = true ∧ (3000 ≤ ofs.2.natAbs ∨ 500 < (ofs.2
      - ofs.1).natAbs)) ∧
    (∃ (r : Fin 24) (ofs : Int × Int) (s : State), r.val < 8 ∧ ofs.2.natAbs < 3000 ∧ (ofs.2 - ofs.1).natAbs ≤ 500) ∧
    (∃ (m : Master) (k : Fin 16) (on : Bool) (s : State), s.Reached m (R.HTX_CTL (32 + k))) :=
  ⟨⟨3, ((lit.setFld (F.HRX_STATUS_STATE 19) 1).put (F.HRX_STATUS_CDR_LOCK 19) true).onLane 19 fun l => { l with ready := true }, by decide⟩,
      ⟨3, 20, false, (lit.setFld (F.HRX_STATUS_STATE 19) 2).put (F.HRX_STATUS_CDR_LOCK 19) true, by decide⟩,
      ⟨3, 121, (lit.setFld (F.HRX_STATUS_STATE 19) 2).put (F.HRX_STATUS_CDR_LOCK 19) true, by decide⟩,
      ⟨3, 121, (lit.setFld (F.HRX_STATUS_STATE 19) 3).put (F.HRX_STATUS_CDR_LOCK 19) true, by decide⟩,
      ⟨3, 80, (lit.setFld (F.HRX_STATUS_STATE 19) 2).put (F.HRX_STATUS_CDR_LOCK 19) true, by decide⟩,
      ⟨3, 39, (lit.setFld (F.HRX_STATUS_STATE 19) 3).put (F.HRX_STATUS_CDR_LOCK 19) true, by decide⟩,
      ⟨11, [], lit.setFld (F.HRX_STATUS_STATE 19) 1, by decide⟩,
      ⟨2, [100, 110, 90, 105, 95, 100, 100, 100], lit.setFld (F.LRX_STATUS_ACQ_STATE 2) 2, by decide⟩,
      ⟨2, [3000, 3000, 3000, 3000, 3000, 3000, 3000, 3000], lit.setFld (F.LRX_STATUS_ACQ_STATE 2) 2, by decide⟩,
      ⟨11, (5, 5), lit.put (F.HRX_STATUS_CDR_LOCK 19) true, by decide⟩,
      ⟨2, (0, -501), (lit.setFld (F.LRX_STATUS_ACQ_STATE 2) 4).put (F.LRX_STATUS_CDR_LOCK 2) true, by decide⟩,
      ⟨2, (0, 500), (lit.setFld (F.LRX_STATUS_ACQ_STATE 2) 4).put (F.LRX_STATUS_CDR_LOCK 2) true, by decide⟩,
      ⟨.hostNS, 3, true, lit, by decide⟩⟩

theorem test_meets_PatternsCorrelatorsAndBankWords :
    (∃ (m : Master) (t' : Fin 24) (s : State), s.Reached m (if t'.val < 8 then R.LTX_PAT (laneOfOut t') else R.HTX_PAT (laneOfOut t'))) ∧
    (∃ (r : Fin 24) (s : State), s.checked (rxLane r) ≠ 0 ∧ (s.lane (rxLane r)).chkPat = s.checked (rxLane r) ∧ (s.lane (rxLane r)).chk ≠ 0 ∧ r.val < 8) ∧
    (∃ (r : Fin 24) (s : State), s.checked (rxLane r) ≠ 0 ∧ ((s.lane (rxLane r)).chkPat ≠ s.checked (rxLane r) ∨ (s.lane (rxLane r)).chk = 0) ∧ r.val < 8) ∧
    (∃ (r : Fin 24) (s : State), s.checked (rxLane r) = 0) ∧
    (∃ (r : Fin 24) (s : State), s.checked (rxLane r) ≠ 0 ∧ (s.lane (rxLane r)).chkPat = s.checked (rxLane r) ∧ (s.lane (rxLane r)).chk ≠ 0 ∧ 8 ≤ r.val) ∧
    (∃ (r : Fin 24) (s : State), s.checked (rxLane r) ≠ 0 ∧ ((s.lane (rxLane r)).chkPat ≠ s.checked (rxLane r) ∨ (s.lane (rxLane r)).chk = 0) ∧ 8 ≤ r.val) ∧
    (∃ (m : Master) (r : Fin 24) (v : Word) (s : State), s.Reached m (corrCtl (rxLane r))) ∧
    (∃ (r : Fin 24) (s : State), r.val < 8 ∧ (s.lane r).corrRun = true ∧ 2 ^ (s.lane r).corrLog ≤ (s.lane r).stat.n) ∧
    (∃ (r : Fin 24) (s : State), 8 ≤ r.val ∧ (s.lane (rxLane r)).corrRun = true ∧ 2 ^ (s.lane (rxLane r)).corrLog ≤ (s.lane (rxLane r)).stat.n) ∧
    (∃ (r : Fin 24) (s : State), ((s.lane (rxLane r)).corrRun = false ∨ (s.lane (rxLane r)).stat.n < 2 ^ (s.lane (rxLane r)).corrLog)) ∧
    (∃ (m : Master) (n : Fin 48) (b : Bool) (w : Fin 64) (v : Word) (s : State), s.Reached m (bankAddr n b w) ∧ s.bankB n ≠ b) ∧
    (∃ (m : Master) (n : Fin 48) (b : Bool) (w : Fin 64) (v : Word) (s : State), s.Reached m (bankAddr n b w) ∧ s.bankB n = b) :=
  ⟨⟨.hostS, 3, ((lit.setFld F.MODE_STATUS_CURRENT 5).setFld (F.LTX_STATUS_STATE 11) 3).onLane 11 fun l => { l with patEn := true }, by decide⟩,
      ⟨3, ((((lit.setFld F.MODE_STATUS_CURRENT 5).setFld (F.LRX_STATUS_ACQ_STATE 3) 6).put (F.LRX_PAT_EN 3) true).setFld (F.LRX_PAT_SEL 3) 1).onLane 3 fun l => { l with chkPat := 13, chk := 0x1234, chkLog := [0, 1, 2, 3, 3, 2] }, by decide⟩,
      ⟨3, ((lit.setFld F.MODE_STATUS_CURRENT 5).setFld (F.LRX_STATUS_ACQ_STATE 3) 6).put (F.LRX_PAT_EN 3) true, by decide⟩,
      ⟨3, lit.put (F.LRX_PAT_EN 3) true, by decide⟩,
      ⟨13, ((lit.setFld F.MODE_STATUS_CURRENT 5).setFld (F.HRX_STATUS_STATE 21) 2).onLane 21 fun l => { l with patEn := true, patSel := 1, chkPat := 7, chk := 0x1234, chkLog := [0, 1, 2, 3, 3, 2] }, by decide⟩,
      ⟨13, ((lit.setFld F.MODE_STATUS_CURRENT 5).setFld (F.HRX_STATUS_STATE 21) 2).onLane 21 fun l => { l with patEn := true, patSel := 1 }, by decide⟩,
      ⟨.hostS, 13, 12#32, lit, by decide⟩,
      ⟨3, lit.onLane 3 fun l => { l with corrRun := true, corrLog := 10, stat := ⟨1024, List.replicate 66 (-5000000), 77, [(5, 9), (7, 1015)]⟩ }, by decide⟩,
      ⟨13, lit.onLane 21 fun l => { l with corrRun := true, corrLog := 10, stat := ⟨1024, List.replicate 13 (-5000), 0, [(5, 9), (7, 1015)]⟩ }, by decide⟩,
      ⟨13, lit, by decide⟩,
      ⟨.hostS, 20, true, 3, 0xFFFFFFFF#32, lit, by decide⟩,
      ⟨.hostS, 20, false, 3, 0xFFFFFFFF#32, lit, by decide⟩⟩

theorem test_meets_LineReceiveAcquires :
    (∃ (n : Fin 8) (s : State), (s.fld (F.LRX_STATUS_ACQ_STATE n) = 1 ∨ s.fld (F.LRX_STATUS_ACQ_STATE n) = 7) ∧ s.witnessed n = true ∧ s.nearEnd = false ∧
      s.halfPair n = false) ∧
    (∃ (n : Fin 8) (mv : Nat) (s : State), s.running n = true) ∧
    (∃ (m : Master) (n : Fin 8) (s : State), s.Reached m (R.LRX_ACQ_CMD n)) ∧
    (∃ (n : Fin 8) (pos1 pos2 p1 p2 : Nat) (s : State), s.fld (F.LRX_STATUS_ACQ_STATE n) = 4 ∧ (s.lane n).frames = true ∧ pos2 = pos1 + 4096 ∧ s.fld
      (F.LRX_ACQ_CFG_MKR_THR n) ≤ p1 ∧ s.fld (F.LRX_ACQ_CFG_MKR_THR n) ≤ p2) ∧
    (∃ (m : Master) (n : Fin 8) (s : State), s.Reached m (R.LRX_ACQ_CMD n)) ∧
    (∃ (n : Fin 8) (pos p : Nat) (s : State), s.fld (F.LRX_STATUS_ACQ_STATE n) = 5 ∧ 2 < alignOff (s.lane n).align pos ∧ 2 * s.fld (F.LRX_MKR_PEAK_ALIGNED n) ≤ p ∧
      s.fld (F.LRX_STATUS_CAPTURES n) < 3 ∧ (s.lane n).seekBank.length = 64) ∧
    (∃ (n : Fin 8) (pos p : Nat) (s : State), s.fld (F.LRX_STATUS_ACQ_STATE n) = 5 ∧ 2 < alignOff (s.lane n).align pos ∧ p < 2 * s.fld (F.LRX_MKR_PEAK_ALIGNED n) ∧
      p < 65536) ∧
    (∃ (n : Fin 8) (s : State), s.fld (F.LRX_STATUS_ACQ_STATE n) = 5) ∧
    (∃ (n : Fin 8) (s : State), s.fld (F.LRX_STATUS_ACQ_STATE n) = 5) ∧
    (∃ (n : Fin 8) (cause : Fin 3) (mv : Nat) (s : State), 2 ≤ s.fld (F.LRX_STATUS_ACQ_STATE n) ∧ s.fld (F.LRX_STATUS_ACQ_STATE n) ≤ 6 ∧ s.lostBy n cause = true ∧
      (mv ≤ 120 ∨ s.is (F.LRX_STATUS_CDR_LOCK n) = false ∨ s.is (F.LRX_STATUS_PWR_WEIR n) = false) ∧ s.nearEnd = false) :=
  ⟨⟨3, ((lit.setFld (F.LRX_STATUS_ACQ_STATE 3) 1).put (F.LRX_STATUS_AMP_DET 3) true).put (F.LRX_STATUS_PWR_WEIR 3) true, by decide⟩,
      ⟨3, 99, lit.setFld (F.LRX_STATUS_ACQ_STATE 3) 1, by decide⟩,
      ⟨.ls 3, 3, lit.setFld (F.LRX_STATUS_ACQ_STATE 3) 3, by decide⟩,
      ⟨3, 7, 4103, 60000, 60001, (lit.setFld (F.LRX_STATUS_ACQ_STATE 3) 4).onLane 3 fun l => { l with frames := true }, by decide⟩,
      ⟨.ls 3, 3, lit.setFld (F.LRX_STATUS_ACQ_STATE 3) 4, by decide⟩,
      ⟨3, 9, 60000, (lit.setFld (F.LRX_STATUS_ACQ_STATE 3) 5).onLane 3 fun l => { l with seekBank := List.replicate 64 7#32 }, by decide⟩,
      ⟨3, 9, 600, ((lit.setFld (F.LRX_STATUS_ACQ_STATE 3) 5).setFld (F.LRX_MKR_PEAK_ALIGNED 3) 500), by decide⟩,
      ⟨3, lit.setFld (F.LRX_STATUS_ACQ_STATE 3) 5, by decide⟩,
      ⟨3, lit.setFld (F.LRX_STATUS_ACQ_STATE 3) 5, by decide⟩,
      ⟨3, 0, 30, lit.setFld (F.LRX_STATUS_ACQ_STATE 3) 6, by decide⟩⟩

theorem test_meets_LaneTimeoutsAreFaults :
    (∃ (k : Fin 16) (s : State), s.fld (F.HRX_STATUS_STATE (16 + k)) = 1 ∧ s.is (F.HRX_STATUS_CDR_LOCK (16 + k)) = false ∧ s.is (F.FAULT_LADDER_ACTIVE (16 + k)) =
      false ∧ s.firstFault (16 + k)) ∧
    (∃ (k : Fin 16) (s : State), s.fld (F.HRX_STATUS_STATE (16 + k)) = 3 ∧ s.is (F.FAULT_LADDER_ACTIVE (16 + k)) = false ∧ s.firstFault (16 + k)) ∧
    (∃ (n : Fin 8) (s : State), s.fld (F.LRX_STATUS_ACQ_STATE n) = 2 ∧ s.halfPair n = false ∧ s.is (F.FAULT_LADDER_ACTIVE n) = false ∧ s.firstFault n) ∧
    (∃ (n : Fin 8) (s : State), s.fld (F.LRX_STATUS_ACQ_STATE n) = 3 ∧ s.halfPair n = false ∧ s.is (F.FAULT_LADDER_ACTIVE n) = false ∧ s.firstFault n) ∧
    (∃ (n : Fin 8) (s : State), s.fld (F.LRX_STATUS_ACQ_STATE n) = 4 ∧ s.halfPair n = false ∧ s.is (F.FAULT_LADDER_ACTIVE n) = false ∧ s.firstFault n) ∧
    (∃ (n : Fin 8) (s : State), s.fld (F.LRX_STATUS_ACQ_STATE n) = 2 ∧ s.halfPair n = true) ∧
    (∃ (n : Fin 8) (s : State), s.fld (F.LRX_STATUS_ACQ_STATE n) = 3 ∧ s.halfPair n = true) ∧
    (∃ (n : Fin 8) (s : State), s.fld (F.LRX_STATUS_ACQ_STATE n) = 4 ∧ s.halfPair n = true) ∧
    (∃ (n : Fin 8) (s : State), s.fld (F.LRX_STATUS_ACQ_STATE n) = 7 ∧ s.halfPair n = true) ∧
    (∃ (n : Fin 8) (pos p : Nat) (s : State), s.fld (F.LRX_STATUS_ACQ_STATE n) = 5 ∧ 2 < alignOff (s.lane n).align pos ∧ 2 * s.fld (F.LRX_MKR_PEAK_ALIGNED n) ≤ p ∧
      s.fld (F.LRX_STATUS_CAPTURES n) = 3 ∧ s.halfPair n = false ∧ s.is (F.FAULT_LADDER_ACTIVE n) = false ∧ s.firstFault n) ∧
    (∃ (k : Fin 16) (s : State), s.fld (F.HRX_STATUS_STATE (16 + k)) = 1 ∧ s.is (F.HRX_STATUS_CDR_LOCK (16 + k)) = false ∧ s.is (F.FAULT_LADDER_ACTIVE (16 + k)) =
      true ∧ (s.fld (F.FAULT_LADDER_LEVEL (16 + k)) = 2 ∨ s.fld (F.FAULT_LADDER_LEVEL (16 + k)) = 3)) ∧
    (∃ (n : Fin 8) (s : State), s.fld (F.LRX_STATUS_ACQ_STATE n) = 2 ∧ s.halfPair n = false ∧ s.is (F.FAULT_LADDER_ACTIVE n) = true ∧ (s.fld (F.FAULT_LADDER_LEVEL
      n) = 2 ∨ s.fld (F.FAULT_LADDER_LEVEL n) = 3)) ∧
    (∃ (n : Fin 8) (s : State), s.fld (F.LRX_STATUS_ACQ_STATE n) = 3 ∧ s.halfPair n = false ∧ s.is (F.FAULT_LADDER_ACTIVE n) = true ∧ (s.fld (F.FAULT_LADDER_LEVEL
      n) = 2 ∨ s.fld (F.FAULT_LADDER_LEVEL n) = 3)) ∧
    (∃ (n : Fin 8) (s : State), s.fld (F.LRX_STATUS_ACQ_STATE n) = 4 ∧ s.halfPair n = false ∧ s.is (F.FAULT_LADDER_ACTIVE n) = true ∧ (s.fld (F.FAULT_LADDER_LEVEL
      n) = 2 ∨ s.fld (F.FAULT_LADDER_LEVEL n) = 3)) ∧
    (∃ (n : Fin 8) (s : State), s.is (F.LRX_TRN_STAT_TIMER_RUN n) = true ∧ s.halfPair n = false ∧ s.is (F.FAULT_LADDER_ACTIVE n) = true ∧ (s.fld
      (F.FAULT_LADDER_LEVEL n) = 2 ∨ s.fld (F.FAULT_LADDER_LEVEL n) = 3)) ∧
    (∃ (k : Fin 16) (e : Nat) (s : State), s.fld (F.HRX_STATUS_STATE (16 + k)) = 1 ∧ s.is (F.HRX_STATUS_CDR_LOCK (16 + k)) = false ∧ s.is (F.FAULT_LADDER_ACTIVE (16
      + k)) = false ∧ (s.ladder (16 + k)).mark.map (fun x => (x.clock, x.entry)) = some (s.clock, e) ∧ 2 ≤ e) ∧
    (∃ (n : Fin 8) (s : State), s.fld (F.LRX_STATUS_ACQ_STATE n) = 7 ∧ s.halfPair n = false ∧ s.is (F.FAULT_LADDER_ACTIVE n) = false ∧ s.firstFault n) ∧
    (∃ (n : Fin 8) (s : State), s.is (F.LRX_TRN_STAT_TIMER_RUN n) = true ∧ s.halfPair n = false ∧ s.is (F.FAULT_LADDER_ACTIVE n) = false ∧ s.firstFault n) ∧
    (∃ (n : Fin 48) (s : State), s.is (F.FAULT_LADDER_ACTIVE (ladderOf n)) = true ∧ s.fld (F.FAULT_LADDER_LEVEL (ladderOf n)) = 3) ∧
    (∃ (n : Fin 48) (s : State), s.is (F.FAULT_LADDER_ACTIVE (ladderOf n)) = true ∧ (s.fld (F.FAULT_LADDER_LEVEL (ladderOf n)) = 1 ∨ s.fld (F.FAULT_LADDER_LEVEL
      (ladderOf n)) = 2)) ∧
    (∃ (n : Fin 48) (s : State), s.is (F.FAULT_LADDER_ACTIVE (ladderOf n)) = true ∧ s.stepReady (ladderOf n) = true) :=
  ⟨⟨3, lit.setFld (F.HRX_STATUS_STATE 19) 1, by decide⟩,
      ⟨3, lit.setFld (F.HRX_STATUS_STATE 19) 3, by decide⟩,
      ⟨3, lit.setFld (F.LRX_STATUS_ACQ_STATE 3) 2, by decide⟩,
      ⟨3, lit.setFld (F.LRX_STATUS_ACQ_STATE 3) 3, by decide⟩,
      ⟨3, lit.setFld (F.LRX_STATUS_ACQ_STATE 3) 4, by decide⟩,
      ⟨3, (lit.setFld (F.LRX_STATUS_ACQ_STATE 3) 2).wr R.MODE_OOS_LINE 0x800#32, by decide⟩,
      ⟨3, (lit.setFld (F.LRX_STATUS_ACQ_STATE 3) 3).wr R.MODE_OOS_LINE 0x800#32, by decide⟩,
      ⟨3, (lit.setFld (F.LRX_STATUS_ACQ_STATE 3) 4).wr R.MODE_OOS_LINE 0x800#32, by decide⟩,
      ⟨3, (lit.setFld (F.LRX_STATUS_ACQ_STATE 3) 7).wr R.MODE_OOS_LINE 0x800#32, by decide⟩,
      ⟨3, 9, 60000, (lit.setFld (F.LRX_STATUS_ACQ_STATE 3) 5).setFld (F.LRX_STATUS_CAPTURES 3) 3, by decide⟩,
      ⟨3, ((lit.setFld (F.HRX_STATUS_STATE 19) 1).put (F.FAULT_LADDER_ACTIVE 19) true).setFld (F.FAULT_LADDER_LEVEL 19) 2, by decide⟩,
      ⟨3, ((lit.setFld (F.LRX_STATUS_ACQ_STATE 3) 2).put (F.FAULT_LADDER_ACTIVE 3) true).setFld (F.FAULT_LADDER_LEVEL 3) 2, by decide⟩,
      ⟨3, ((lit.setFld (F.LRX_STATUS_ACQ_STATE 3) 3).put (F.FAULT_LADDER_ACTIVE 3) true).setFld (F.FAULT_LADDER_LEVEL 3) 2, by decide⟩,
      ⟨3, ((lit.setFld (F.LRX_STATUS_ACQ_STATE 3) 4).put (F.FAULT_LADDER_ACTIVE 3) true).setFld (F.FAULT_LADDER_LEVEL 3) 2, by decide⟩,
      ⟨3, ((lit.put (F.LRX_TRN_STAT_TIMER_RUN 3) true).put (F.FAULT_LADDER_ACTIVE 3) true).setFld (F.FAULT_LADDER_LEVEL 3) 2, by decide⟩,
      ⟨3, 3, (lit.setFld (F.HRX_STATUS_STATE 19) 1).setLadder 19 { Ladder.init with mark := some ⟨0, 3, true⟩ }, by decide⟩,
      ⟨3, lit.setFld (F.LRX_STATUS_ACQ_STATE 3) 7, by decide⟩,
      ⟨3, lit.put (F.LRX_TRN_STAT_TIMER_RUN 3) true, by decide⟩,
      ⟨3, (lit.put (F.FAULT_LADDER_ACTIVE 3) true).setFld (F.FAULT_LADDER_LEVEL 3) 3, by decide⟩,
      ⟨3, (lit.put (F.FAULT_LADDER_ACTIVE 3) true).setFld (F.FAULT_LADDER_LEVEL 3) 1, by decide⟩,
      ⟨20, ((lit.put (F.FAULT_LADDER_ACTIVE 20) true).setFld (F.FAULT_LADDER_LEVEL 20) 3).setFld (F.HRX_STATUS_STATE 20) 2, by decide⟩⟩

theorem test_meets_WaveformCapturesAndNearEnd :
    (∃ (m : Master) (n : Fin 8) (v : Word) (s : State), s.Reached m (R.LRX_WCAP_CTL n) ∧ s.wcapRefusal n = none) ∧
    (∃ (m : Master) (n : Fin 8) (v : Word) (s : State) (c : Nat), s.Reached m (R.LRX_WCAP_CTL n) ∧ s.wcapRefusal n = some c) ∧
    (∃ (n : Fin 8) (s : State), s.is (F.LRX_WCAP_STAT_BUSY n) = true ∧ s.filled = true ∧ s.integ.test = none ∧ (∀ b : Fin 16, s.pairBit R.MEMX_REMOVED_LO (48 + b) =
      false) ∧ (s.lane n).wcapLen = (s.lane n).wcapPos + (s.lane n).wcapBuf.length ∧ (s.lane n).wcapLen ≤ s.fld F.MEMX_CAP_LIMIT_SAMPLES ∧ (s.lane n).wcapLen ≤
      4194304) ∧
    (∃ (n : Fin 8) (s : State), s.is (F.LRX_WCAP_STAT_BUSY n) = true ∧ s.filled = true ∧ s.integ.test = none ∧ (∀ b : Fin 16, s.pairBit R.MEMX_REMOVED_LO (48 + b) =
      false) ∧ (s.lane n).wcapPos + (s.lane n).wcapBuf.length < (s.lane n).wcapLen ∧ (s.lane n).wcapLen ≤ s.fld F.MEMX_CAP_LIMIT_SAMPLES ∧ (s.lane n).wcapLen ≤
      4194304) ∧
    (∃ (n : Fin 8) (s : State), s.is (F.LRX_WCAP_STAT_BUSY n) = false) ∧
    (∃ (n : Fin 8) (s : State), s.nearEnd = true ∧ s.acting = true ∧ s.laneOn n = true ∧ s.oos n = false ∧ s.halfPair n = false ∧ s.fld (F.LRX_STATUS_ACQ_STATE n) =
      1) :=
  ⟨⟨.hostS, 3, 0x803#32, (lit.setFld F.MODE_STATUS_CURRENT 5).wr (claimReg 1) 0x31#32, by decide⟩,
      ⟨.hostS, 3, 0x803#32, lit, 1, by decide⟩,
      ⟨3, ((lit.put (F.LRX_WCAP_STAT_BUSY 3) true).put F.MEMX_STAT_FILLED true).onLane 3 fun l => { l with wcapLen := 3, wcapBuf := [1#8, 2#8, 3#8] }, by decide⟩,
      ⟨3, ((lit.put (F.LRX_WCAP_STAT_BUSY 3) true).put F.MEMX_STAT_FILLED true).onLane 3 fun l => { l with wcapLen := 30, wcapBuf := List.replicate 11 5#8 }, by decide⟩,
      ⟨3, lit, by decide⟩,
      ⟨3, { (lit.setFld F.MODE_STATUS_CURRENT 5).setFld (F.LRX_STATUS_ACQ_STATE 3) 1 with trans := { lit.trans with loop := 3 } }, by decide⟩⟩

theorem test_meets_RelightIsGuardedAndSynthesisersLock :
    (∃ (m : Master) (n : Fin 8) (v : Word) (s : State), s.Reached m (R.LTX_CTL (8 + n)) ∧ bitAt v.toNat 5 = false ∧ (s.rd (R.LTX_FAULT_CAUSE (8 + n)) ≠ 0#32 ∨ s.oos
      (8 + n) = true ∨ s.fld (F.LTX_STATUS_STATE (8 + n)) = 0 ∨ s.is (F.LTX_STATUS_SYNTH_LOCK (8 + n)) = false ∨ s.darkLoop = true ∨ s.halfPair (8 + n) = true ∧
      s.runMode ≠ 5)) ∧
    (∃ (m : Master) (n : Fin 8) (v : Word) (s : State), s.Reached m (R.LTX_CTL (8 + n)) ∧ bitAt v.toNat 5 = true ∧ (s.is F.MODE_STATUS_BUSY && s.trans.ramping) =
      false ∧ (s.lane (8 + n)).retrain = false) ∧
    (∃ (m : Master) (n : Fin 8) (v : Word) (s : State), s.Reached m (R.LTX_CTL (8 + n)) ∧ bitAt v.toNat 5 = false ∧ s.mayLight (8 + n) = true ∧ (s.fld
      (F.LTX_STATUS_STATE (8 + n)) = 1 ∨ s.fld (F.LTX_STATUS_STATE (8 + n)) = 6)) ∧
    (∃ (m : Master) (n : Fin 8) (v : Word) (s : State), s.Reached m (R.LTX_CTL (8 + n)) ∧ bitAt v.toNat 5 = false ∧ s.mayLight (8 + n) = true ∧ (s.fld
      (F.LTX_STATUS_STATE (8 + n)) = 2 ∨ s.fld (F.LTX_STATUS_STATE (8 + n)) = 3 ∨ s.fld (F.LTX_STATUS_STATE (8 + n)) = 4)) ∧
    (∃ (t' : Fin 24) (s : State), s.laneOn (laneOfOut t') = true ∧ t'.val < 8 ∧ s.is (F.LTX_STATUS_SYNTH_LOCK (laneOfOut t')) = false ∧ (s.fld
      (F.LTX_STATUS_FREQ_SRC (laneOfOut t')) = 0 → s.is F.CLK_STAT_ROOT_OK = true)) ∧
    (∃ (t' : Fin 24) (s : State), s.laneOn (laneOfOut t') = true ∧ t'.val < 8 ∧ s.fld (F.LTX_STATUS_FREQ_SRC (laneOfOut t')) = 0 ∧ s.is F.CLK_STAT_ROOT_OK = false) ∧
    (∃ (t' : Fin 24) (s : State), s.laneOn (laneOfOut t') = true ∧ 8 ≤ t'.val ∧ s.is (F.HTX_STATUS_CDR_LOCK (laneOfOut t')) = false) ∧
    (∃ (t' : Fin 24) (s : State), t'.val < 8 ∧ s.is (F.LTX_STATUS_SYNTH_LOCK (laneOfOut t')) = true ∧ (s.is F.MODE_STATUS_BUSY && s.trans.ramping) = false ∧ (s.lane
      (laneOfOut t')).retrain = false ∧ s.firstFault t') ∧
    (∃ (t' : Fin 24) (s : State), 8 ≤ t'.val ∧ s.is (F.HTX_STATUS_CDR_LOCK (laneOfOut t')) = true ∧ s.firstFault (laneOfOut t')) :=
  ⟨⟨.hostS, 3, 3#32, lit, by decide⟩,
      ⟨.hostS, 3, 0x22#32, (lit.setFld (F.LTX_STATUS_STATE 11) 3).put (F.LTX_STATUS_SYNTH_LOCK 11) true, by decide⟩,
      ⟨.hostS, 3, 0#32, ((lit.setFld (F.LTX_STATUS_STATE 11) 1).put (F.LTX_STATUS_SYNTH_LOCK 11) true).wr (R.LTX_BIAS 11) 0x01000200#32, by decide⟩,
      ⟨.hostS, 3, 0#32, ((lit.setFld (F.LTX_STATUS_STATE 11) 4).put (F.LTX_STATUS_SYNTH_LOCK 11) true).wr (R.LTX_BIAS 11) 0x01000200#32, by decide⟩,
      ⟨3, lit.put F.CLK_STAT_ROOT_OK true, by decide⟩,
      ⟨3, lit.put F.CLK_STAT_ROOT_OK false, by decide⟩,
      ⟨13, lit, by decide⟩,
      ⟨3, (lit.put (F.LTX_STATUS_SYNTH_LOCK 11) true).setFld (F.LTX_STATUS_STATE 11) 3, by decide⟩,
      ⟨13, lit.put (F.HTX_STATUS_CDR_LOCK 37) true, by decide⟩⟩

theorem test_meets_RampsStepTheLaser :
    (∃ (m : Master) (n : Fin 8) (s : State), s.Reached m (R.LTX_CTL (8 + n))) ∧
    (∃ (n : Fin 8) (s : State), s.fld (F.LTX_STATUS_STATE (8 + n)) = 2 ∧ (s.lane (8 + n)).reverse = false) ∧
    (∃ (n : Fin 8) (s : State), s.fld (F.LTX_STATUS_STATE (8 + n)) = 4 ∧ (s.lane (8 + n)).reverse = false ∧ 2 ≤ s.fld (F.LTX_STATUS_STEP (8 + n))) ∧
    (∃ (n : Fin 8) (s : State), s.fld (F.LTX_STATUS_STATE (8 + n)) = 4 ∧ (s.lane (8 + n)).reverse = false ∧ s.fld (F.LTX_STATUS_STEP (8 + n)) ≤ 1 ∧ (s.lane (8 +
      n)).retrain = false ∧ (s.is F.MODE_STATUS_BUSY && s.trans.ramping) = false) ∧
    (∃ (n : Fin 8) (s : State), s.fld (F.LTX_STATUS_STATE (8 + n)) ≠ 2 ∧ s.fld (F.LTX_STATUS_STATE (8 + n)) ≠ 4) ∧
    (∃ (n : Fin 8) (s : State), (s.fld (F.LTX_STATUS_STATE (8 + n)) = 2 ∨ s.fld (F.LTX_STATUS_STATE (8 + n)) = 4) ∧ (s.lane (8 + n)).reverse = true) ∧
    (∃ (m : Master) (n : Fin 8) (s : State), s.Reached m (R.LTX_CTL (8 + n)) ∧ 2 ≤ s.fld (F.LTX_STATUS_STATE (8 + n)) ∧ s.fld (F.LTX_STATUS_STATE (8 + n)) ≤ 4) ∧
    (∃ (m : Master) (n : Fin 8) (s : State), s.Reached m (R.LTX_CTL (8 + n)) ∧ s.fld (F.LTX_STATUS_STATE (8 + n)) = 1 ∧ (s.lane (8 + n)).retrain = false ∧ (s.is
      F.MODE_STATUS_BUSY && s.trans.ramping) = false) ∧
    (∃ (m : Master) (n : Fin 8) (s : State), s.Reached m (R.LTX_CTL (8 + n)) ∧ (s.fld (F.LTX_STATUS_STATE (8 + n)) = 0 ∨ 5 ≤ s.fld (F.LTX_STATUS_STATE (8 + n))) ∧
      (s.lane (8 + n)).retrain = false ∧ (s.is F.MODE_STATUS_BUSY && s.trans.ramping) = false) ∧
    (∃ (n : Fin 8) (s : State), s.fld (F.LTX_STATUS_STATE (8 + n)) = 5 ∧ 2 ≤ s.fld (F.LTX_STATUS_STEP (8 + n))) ∧
    (∃ (n : Fin 8) (s : State), s.fld (F.LTX_STATUS_STATE (8 + n)) = 5 ∧ s.fld (F.LTX_STATUS_STEP (8 + n)) ≤ 1 ∧ (s.lane (8 + n)).retrain = false ∧ (s.is
      F.MODE_STATUS_BUSY && s.trans.ramping) = false) ∧
    (∃ (n : Fin 8) (s : State), s.fld (F.LTX_STATUS_STATE (8 + n)) ≠ 5) ∧
    (∃ (m : Master) (n : Fin 8) (v : Word) (s : State), s.Reached m (R.LTX_BIAS (8 + n))) ∧
    (∃ (n : Fin 8) (s : State), s.fld (F.LTX_STATUS_STATE (8 + n)) = 3) ∧
    (∃ (n : Fin 8) (s : State), s.fld (F.LTX_STATUS_STATE (8 + n)) ≠ 3) ∧
    (∃ (m : Master) (n : Fin 8) (v : Word) (s : State), s.Reached m (R.LTX_FAULT_CAUSE (8 + n))) :=
  ⟨⟨.hostS, 3, lit.setFld (F.LTX_STATUS_STATE 11) 3, by decide⟩,
      ⟨3, (lit.setFld (F.LTX_STATUS_STATE 11) 2).wr (R.LTX_BIAS 11) 0x01000200#32, by decide⟩,
      ⟨3, ((lit.setFld (F.LTX_STATUS_STATE 11) 4).setFld (F.LTX_STATUS_STEP 11) 63).wr (R.LTX_BIAS 11) 0x01000200#32, by decide⟩,
      ⟨3, ((lit.setFld (F.LTX_STATUS_STATE 11) 4).setFld (F.LTX_STATUS_STEP 11) 1).wr (R.LTX_BIAS 11) 0x01000200#32, by decide⟩,
      ⟨3, lit.setFld (F.LTX_STATUS_STATE 11) 3, by decide⟩,
      ⟨3, (lit.setFld (F.LTX_STATUS_STATE 11) 4).onLane 11 fun l => { l with reverse := true }, by decide⟩,
      ⟨.hostS, 3, (lit.setFld (F.LTX_STATUS_STATE 11) 3).setFld (F.LRX_TRN_CTL_STATE 3) 5, by decide⟩,
      ⟨.hostS, 3, lit.setFld (F.LTX_STATUS_STATE 11) 1, by decide⟩,
      ⟨.hostS, 3, lit, by decide⟩,
      ⟨3, ((lit.setFld (F.LTX_STATUS_STATE 11) 5).setFld (F.LTX_STATUS_STEP 11) 63).wr (R.LTX_BIAS 11) 0x01000200#32, by decide⟩,
      ⟨3, ((lit.setFld (F.LTX_STATUS_STATE 11) 5).setFld (F.LTX_STATUS_STEP 11) 1).wr (R.LTX_BIAS 11) 0x01000200#32, by decide⟩,
      ⟨3, lit.setFld (F.LTX_STATUS_STATE 11) 3, by decide⟩,
      ⟨.hostS, 3, 0x01000200#32, lit.setFld (F.LTX_STATUS_STATE 11) 1, by decide⟩,
      ⟨3, lit.setFld (F.LTX_STATUS_STATE 11) 3, by decide⟩,
      ⟨3, lit.setFld (F.LTX_STATUS_STATE 11) 2, by decide⟩,
      ⟨.hostS, 3, 0x1F#32, lit.wr (R.LTX_FAULT_CAUSE 11) 0x1F#32, by decide⟩⟩

theorem test_meets_CodewordLockDecodingAndCodeMonitors :
    (∃ (n : Fin 8) (k : Nat) (s : State), s.coded = true ∧ s.is (F.LRX_CW_STAT_HUNTING n) = true ∧ k < (candidates s.deep (s.lane n).dec).length ∧ ((candidates
      s.deep (s.lane n).dec).take k).count true = 47 ∧ ((candidates s.deep (s.lane n).dec).take (k + 1)).count true = 48 ∧ ((candidates s.deep (s.lane n).dec).take
      k).count false ≤ 16) ∧
    (∃ (n : Fin 8) (s : State), (s.coded = false ∨ s.is (F.LRX_CW_STAT_HUNTING n) = false ∨ ((candidates s.deep (s.lane n).dec).count true < 48 ∧ (candidates s.deep
      (s.lane n).dec).count false < 17))) ∧
    (∃ (n : Fin 8) (k : Nat) (s : State), s.coded = true ∧ s.is (F.LRX_CW_STAT_HUNTING n) = true ∧ k < (candidates s.deep (s.lane n).dec).length ∧ ((candidates
      s.deep (s.lane n).dec).take k).count false = 16 ∧ ((candidates s.deep (s.lane n).dec).take (k + 1)).count false = 17 ∧ ((candidates s.deep (s.lane n).dec).take
      k).count true ≤ 47) ∧
    (∃ (n : Fin 8) (s : State), s.coded = true ∧ s.is (F.LRX_CW_STAT_LOCKED n) = true ∧ (s.lane n).last64.count true < 16 ∧ s.firstFault n) ∧
    (∃ (n : Fin 8) (s : State), (s.coded = false ∨ s.is (F.LRX_CW_STAT_LOCKED n) = false ∨ 16 ≤ (s.lane n).last64.count true)) ∧
    (∃ (m : Master) (n : Fin 8) (s : State), s.Reached m (R.LRX_CW_CTL n) ∧ s.coded = true ∧ s.running n = true) ∧
    (∃ (m : Master) (n : Fin 8) (s : State), s.Reached m (R.LRX_CW_CTL n) ∧ (s.coded = false ∨ s.running n = false)) ∧
    (∃ (n : Fin 8) (w : Nat) (rel : List Nat) (s : State), s.coded = true ∧ s.is (F.LRX_CW_STAT_LOCKED n) = true ∧ 2 * codeLen s.deep ≤ (s.lane n).dec.length ∧
      s.backedUp n = false ∧ w = groupWord s.deep (s.lane n).dec (s.lane n).group.length ∧ rel = groupRels s.deep (s.lane n).dec (s.lane n).group.length ∧ decodeWord
      s.deep (lrpCount s.deep (s.lane n).saver) w rel = none) ∧
    (∃ (n : Fin 8) (w : Nat) (rel flips : List Nat) (s : State), s.coded = true ∧ s.is (F.LRX_CW_STAT_LOCKED n) = true ∧ 2 * codeLen s.deep ≤ (s.lane n).dec.length
      ∧ s.backedUp n = false ∧ w = groupWord s.deep (s.lane n).dec (s.lane n).group.length ∧ rel = groupRels s.deep (s.lane n).dec (s.lane n).group.length ∧
      decodeWord s.deep (lrpCount s.deep (s.lane n).saver) w rel = some flips ∧ 16 ≤ ((zeroSyndrome s.deep w rel :: (s.lane n).last64).take 64).count true) ∧
    (∃ (n : Fin 8) (s : State), (s.coded = false ∨ s.is (F.LRX_CW_STAT_LOCKED n) = false ∨ (s.lane n).dec.length < 2 * codeLen s.deep ∨ s.backedUp n = true)) ∧
    (∃ (m : Master) (n : Fin 8) (v : Word) (s : State), s.Reached m (R.LTX_CW_INJ (8 + n)) ∧ s.fld (F.LTX_STATUS_STATE (8 + n)) = 3 ∧ s.coded = true ∧ s.is
      (F.LTX_CW_INJ_PENDING (8 + n)) = false) ∧
    (∃ (m : Master) (n : Fin 8) (v : Word) (s : State), s.Reached m (R.LTX_CW_INJ (8 + n)) ∧ (s.fld (F.LTX_STATUS_STATE (8 + n)) ≠ 3 ∨ s.coded = false ∨ s.is
      (F.LTX_CW_INJ_PENDING (8 + n)) = true)) ∧
    (∃ (t' : Fin 16) (u : Fin 2) (s : State), s.rsActive t' u = true ∧ s.is (F.LRX_RS_STAT_ALIGNED t' u) = false) ∧
    (∃ (t' : Fin 16) (u : Fin 2) (s : State), s.rsActive t' u = true ∧ s.is (F.LRX_RS_STAT_ALIGNED t' u) = false) ∧
    (∃ (t' : Fin 16) (u : Fin 2) (s : State), s.rsActive t' u = true ∧ s.is (F.LRX_RS_STAT_ALIGNED t' u) = true ∧ 5440 * (s.rsPlace t' u + 1) ≤ s.bargeSyms *
      (s.rsBits t' u).length) ∧
    (∃ (m : Master) (t' : Fin 16) (u : Fin 2) (v : Word) (s : State), s.Reached m (R.LRX_RS_CTL t' u)) ∧
    (∃ (t' : Fin 16) (u : Fin 2) (s : State), (s.rsActive t' u = false ∨ s.is (F.LRX_RS_STAT_ALIGNED t' u) = true)) ∧
    (∃ (t' : Fin 16) (u : Fin 2) (s : State), (s.rsActive t' u = false ∨ s.is (F.LRX_RS_STAT_ALIGNED t' u) = true)) ∧
    (∃ (t' : Fin 16) (u : Fin 2) (s : State), (s.rsActive t' u = false ∨ s.is (F.LRX_RS_STAT_ALIGNED t' u) = false ∨ s.bargeSyms * (s.rsBits t' u).length < 5440 *
      (s.rsPlace t' u + 1))) :=
  ⟨⟨3, 47, ((lit.setFld F.MODE_STATUS_CURRENT 3).put (F.LRX_CW_STAT_HUNTING 3) true).onLane 3 fun l => { l with dec := (List.replicate 12 goodGroup).flatten }, lock_witness⟩,
      ⟨3, ((lit.setFld F.MODE_STATUS_CURRENT 3).put (F.LRX_CW_STAT_HUNTING 3) true).onLane 3 fun l => { l with dec := goodGroup }, by decide⟩,
      ⟨3, 16, (((lit.setFld F.MODE_STATUS_CURRENT 4).put (F.LRX_CW_STAT_HUNTING 3) true).setFld (F.LRX_CW_STAT_OFFSET 3) 287).onLane 3 fun l => { l with dec := (List.replicate 5 badGroup).flatten }, abandon_witness⟩,
      ⟨3, ((lit.setFld F.MODE_STATUS_CURRENT 4).put (F.LRX_CW_STAT_LOCKED 3) true).onLane 3 fun l => { l with last64 := List.replicate 15 true ++ List.replicate 49 false }, by decide⟩,
      ⟨3, ((lit.setFld F.MODE_STATUS_CURRENT 4).put (F.LRX_CW_STAT_LOCKED 3) true).onLane 3 fun l => { l with last64 := List.replicate 16 true ++ List.replicate 48 false }, by decide⟩,
      ⟨.hostS, 3, ((lit.setFld F.MODE_STATUS_CURRENT 4).put (F.LRX_CW_STAT_LOCKED 3) true).setFld (F.LRX_STATUS_ACQ_STATE 3) 6, by decide⟩,
      ⟨.hostS, 3, (lit.setFld F.MODE_STATUS_CURRENT 2).setFld (F.LRX_STATUS_ACQ_STATE 3) 6, by decide⟩,
      ⟨3, 365193344472768, List.replicate 136 3, ((lit.setFld F.MODE_STATUS_CURRENT 3).put (F.LRX_CW_STAT_LOCKED 3) true).onLane 3 (fun l => { l with saver := 3, dec := failGroup, last64 := List.replicate 16 true }), by decide⟩,
      ⟨3, 255, List.replicate 136 7, [], ((lit.setFld F.MODE_STATUS_CURRENT 3).put (F.LRX_CW_STAT_LOCKED 3) true).onLane 3 (fun l => { l with dec := goodGroup, last64 := List.replicate 16 true }), by decide⟩,
      ⟨3, lit, by decide⟩,
      ⟨.hostS, 3, 7#32, (lit.setFld F.MODE_STATUS_CURRENT 3).setFld (F.LTX_STATUS_STATE 11) 3, by decide⟩,
      ⟨.hostS, 3, 7#32, lit, by decide⟩,
      ⟨3, 0, (lit.setFld F.MODE_STATUS_CURRENT 3).setFld (F.LRX_RS_CTL_LAYOUT 3 0) 2, by decide⟩,
      ⟨13, 0, (lit.setFld F.MODE_STATUS_CURRENT 3).setFld (F.LRX_RS_CTL_LAYOUT 13 0) 2, by decide⟩,
      ⟨3, 0, (((lit.setFld F.MODE_STATUS_CURRENT 3).setFld (F.LRX_RS_CTL_LAYOUT 3 0) 2).put (F.LRX_RS_STAT_ALIGNED 3 0) true).onLane 3 fun l => { l with rs := List.replicate 22 (0, 6, 5#256) }, by decide⟩,
      ⟨.hostS, 3, 0, 5#32, lit.put (F.LRX_RS_STAT_ALIGNED 3 0) true, by decide⟩,
      ⟨3, 0, lit, by decide⟩,
      ⟨3, 0, lit, by decide⟩,
      ⟨3, 0, lit, by decide⟩⟩

theorem test_meets_StartUpTrimsBringLanesUp :
    (∃ (n : Fin 48) (t' : Int) (s : State), s.laneOn n = true ∧ s.oos n = false ∧ s.acting = true ∧ s.running n = true ∧ s.neverStarts = false) ∧
    (∃ (n : Fin 48) (t' : Int) (s : State), 16 ≤ n.val ∧ s.laneOn n = true ∧ s.oos n = false ∧ s.acting = true ∧ s.running n = false ∧ s.seqStopped n = true ∧ s.is
      (F.LRX_SEQ_STAT_LOADED n) = true ∧ s.neverStarts = false) ∧
    (∃ (n : Fin 48) (t' : Int) (s : State), n.val < 16 ∧ s.halfPair n = false ∧ s.fld (F.LRX_STATUS_ACQ_STATE (n % 8)) = 0 ∧ s.fld (F.LTX_STATUS_STATE (8 + n % 8))
      = 0 ∧ s.laneOn n = true ∧ s.oos n = false ∧ s.acting = true ∧ s.seqStopped n = true ∧ s.is (F.LRX_SEQ_STAT_LOADED n) = true ∧ s.neverStarts = false) ∧
    (∃ (n : Fin 48) (t' : Int) (s : State), n.val < 16 ∧ s.halfPair n = false ∧ s.running n = false ∧ s.running (if n.val < 8 then 8 + n.val else n.val % 8) = true
      ∧ s.laneOn n = true ∧ s.oos n = false ∧ s.acting = true ∧ s.nearEnd = false ∧ s.darkLoop = false ∧ s.is (F.LRX_SEQ_STAT_LOADED n) = true ∧ s.fld
      (F.LRX_TRN_CTL_STATE (n % 8)) = 0 ∧ s.is (F.LTX_STATUS_SYNTH_LOCK (8 + n % 8)) = true ∧ s.rd (R.LTX_FAULT_CAUSE (8 + n % 8)) = 0#32 ∧ s.neverStarts = false) ∧
    (∃ (n : Fin 48) (t' : Int) (s : State), 16 ≤ n.val ∧ s.laneOn n = true ∧ s.oos n = false ∧ s.acting = true ∧ s.running n = false ∧ s.is (F.LRX_SEQ_STAT_LOADED
      n) = false ∧ s.neverStarts = false ∧ s.firstFault n) ∧
    (∃ (n : Fin 48) (t' : Int) (s : State), (s.laneOn n = false ∨ s.oos n = true ∨ s.acting = false ∨ s.neverStarts = true)) :=
  ⟨⟨13, 75, (lit.setFld F.MODE_STATUS_CURRENT 3).setFld (F.LTX_STATUS_STATE 13) 3, by decide⟩,
      ⟨20, 75, ((lit.setFld F.MODE_STATUS_CURRENT 3).put (F.LRX_SEQ_STAT_LOADED 20) true).wr (R.LRX_SEQ_ENTRY 20) 0x40#32, by decide⟩,
      ⟨3, 75, ((lit.setFld F.MODE_STATUS_CURRENT 3).put (F.LRX_SEQ_STAT_LOADED 3) true).wr (R.LRX_SEQ_ENTRY 3) 0x40#32, by decide⟩,
      ⟨3, 75, (((lit.setFld F.MODE_STATUS_CURRENT 3).put (F.LRX_SEQ_STAT_LOADED 3) true).setFld (F.LTX_STATUS_STATE 11) 1).put (F.LTX_STATUS_SYNTH_LOCK 11) true, by decide⟩,
      ⟨20, 75, lit.setFld F.MODE_STATUS_CURRENT 3, by decide⟩,
      ⟨20, 75, lit, by decide⟩⟩

theorem test_meets_TrainingStartsAndTimesThePair :
    (∃ (n : Fin 48) (t' : Int) (s : State), n.val < 16 ∧ s.halfPair n = false ∧ s.running n = false ∧ s.running (if n.val < 8 then 8 + n.val else n.val % 8) = true
      ∧ s.laneOn n = true ∧ s.oos n = false ∧ s.acting = true ∧ s.nearEnd = false ∧ s.darkLoop = false ∧ s.is (F.LRX_SEQ_STAT_LOADED n) = true ∧ s.fld
      (F.LRX_TRN_CTL_STATE (n % 8)) = 0 ∧ s.neverStarts = false ∧ s.firstFault (n % 8) ∧ s.is (F.LTX_STATUS_SYNTH_LOCK (8 + n % 8)) = true ∧ s.rd (R.LTX_FAULT_CAUSE
      (8 + n % 8)) = 0#32) ∧
    (∃ (n : Fin 48) (t' : Int) (s : State), n.val < 16 ∧ s.halfPair n = false ∧ s.running n = false ∧ s.running (if n.val < 8 then 8 + n.val else n.val % 8) = true
      ∧ s.laneOn n = true ∧ s.oos n = false ∧ s.acting = true ∧ s.nearEnd = false ∧ s.darkLoop = false ∧ s.is (F.LRX_SEQ_STAT_LOADED n) = true ∧ s.fld
      (F.LRX_TRN_CTL_STATE (n % 8)) = 0 ∧ s.neverStarts = false ∧ s.firstFault (n % 8) ∧ (s.is (F.LTX_STATUS_SYNTH_LOCK (8 + n % 8)) = false ∨ s.rd (R.LTX_FAULT_CAUSE
      (8 + n % 8)) ≠ 0#32)) ∧
    (∃ (n : Fin 8) (s : State), s.fld (F.LRX_TRN_CTL_STATE n) = 6 ∧ s.fld (F.LTX_STATUS_STATE (n + 8)) = 3) ∧
    (∃ (n : Fin 8) (s : State), (s.fld (F.LRX_TRN_CTL_STATE n) ≠ 6 ∨ s.fld (F.LTX_STATUS_STATE (n + 8)) ≠ 3)) ∧
    (∃ (m : Master) (n : Fin 8) (s : State), s.Reached m (R.LRX_TRN_CTL n) ∧ s.canTrain n = true ∧ s.mayLight (n + 8) = true) ∧
    (∃ (m : Master) (n : Fin 8) (s : State), s.Reached m (R.LRX_TRN_CTL n) ∧ s.canTrain n = true ∧ s.mayLight (n + 8) = false ∧ s.firstFault n) ∧
    (∃ (m : Master) (n : Fin 8) (s : State), s.Reached m (R.LRX_TRN_CTL n) ∧ s.canTrain n = false) :=
  ⟨⟨3, 75, (((lit.setFld F.MODE_STATUS_CURRENT 3).put (F.LRX_SEQ_STAT_LOADED 3) true).setFld (F.LTX_STATUS_STATE 11) 1).put (F.LTX_STATUS_SYNTH_LOCK 11) true, by decide⟩,
      ⟨3, 75, ((lit.setFld F.MODE_STATUS_CURRENT 3).put (F.LRX_SEQ_STAT_LOADED 3) true).setFld (F.LTX_STATUS_STATE 11) 1, by decide⟩,
      ⟨3, (lit.setFld (F.LRX_TRN_CTL_STATE 3) 6).setFld (F.LTX_STATUS_STATE 11) 3, by decide⟩,
      ⟨3, (lit.setFld (F.LRX_TRN_CTL_STATE 3) 6).setFld (F.LTX_STATUS_STATE 11) 2, by decide⟩,
      ⟨.hostS, 3, (((lit.setFld F.MODE_STATUS_CURRENT 3).setFld (F.LTX_STATUS_STATE 11) 3).setFld (F.LRX_STATUS_ACQ_STATE 3) 1).put (F.LTX_STATUS_SYNTH_LOCK 11) true, by decide⟩,
      ⟨.hostS, 3, ((lit.setFld F.MODE_STATUS_CURRENT 3).setFld (F.LTX_STATUS_STATE 11) 3).setFld (F.LRX_STATUS_ACQ_STATE 3) 1, by decide⟩,
      ⟨.hostS, 3, lit, by decide⟩⟩

theorem test_meets_TrainingFramesAreSentAndChecked :
    (∃ (n : Fin 8) (s : State), (s.lane (n + 8)).src = 1 ∧ s.ltxDark (n + 8) = false ∧ s.fld (F.LRX_TRN_CTL_STATE n) ≠ 4) ∧
    (∃ (n : Fin 8) (s : State), (s.lane (n + 8)).src = 1 ∧ s.ltxDark (n + 8) = false ∧ s.fld (F.LRX_TRN_CTL_STATE n) = 4 ∧ 2 ≤ (s.lane n).cdLeft ∧ (s.lane n).cdLeft
      ≤ 16) ∧
    (∃ (n : Fin 8) (s : State), (s.lane (n + 8)).src = 1 ∧ s.ltxDark (n + 8) = false ∧ s.fld (F.LRX_TRN_CTL_STATE n) = 4 ∧ (s.lane n).cdLeft = 1) ∧
    (∃ (n : Fin 8) (s : State), ((s.lane (n + 8)).src ≠ 1 ∨ s.ltxDark (n + 8) = true)) ∧
    (∃ (n : Fin 8) (c : BitVec 128) (crc : BitVec 16) (pos : Nat) (s : State), (s.fld (F.LRX_STATUS_ACQ_STATE n) ≠ 6 ∨ (s.lane n).frames = false ∨ pos % 4096 ≠
      (s.lane n).align)) ∧
    (∃ (n : Fin 8) (c : BitVec 128) (crc : BitVec 16) (pos : Nat) (s : State), s.fld (F.LRX_STATUS_ACQ_STATE n) = 6 ∧ (s.lane n).frames = true ∧ pos % 4096 =
      (s.lane n).align ∧ crc.toNat ≠ crcOf c.toNat) ∧
    (∃ (n : Fin 8) (c : BitVec 128) (pos : Nat) (s : State), s.fld (F.LRX_STATUS_ACQ_STATE n) = 6 ∧ (s.lane n).frames = true ∧ pos % 4096 = (s.lane n).align ∧
      s.frameForeign n c = true ∧ (s.lane n).badRun < 63) ∧
    (∃ (n : Fin 8) (c : BitVec 128) (pos : Nat) (s : State), s.fld (F.LRX_STATUS_ACQ_STATE n) = 6 ∧ (s.lane n).frames = true ∧ pos % 4096 = (s.lane n).align ∧
      s.frameForeign n c = true ∧ 63 ≤ (s.lane n).badRun ∧ s.halfPair n = false ∧ s.firstFault n) ∧
    (∃ (n : Fin 8) (c : BitVec 128) (pos : Nat) (s : State), s.fld (F.LRX_STATUS_ACQ_STATE n) = 6 ∧ (s.lane n).frames = true ∧ pos % 4096 = (s.lane n).align ∧
      s.frameForeign n c = false) :=
  ⟨⟨3, (((lit.setFld (F.LRX_TRN_CTL_STATE 3) 1).setFld (F.LTX_STATUS_STATE 11) 3).onLane 11 fun l => { l with src := 1 }), by decide⟩,
      ⟨3, (((lit.setFld (F.LRX_TRN_CTL_STATE 3) 4).setFld (F.LTX_STATUS_STATE 11) 3).onLane 11 fun l => { l with src := 1 }).onLane 3 fun l => { l with cdLeft := 16 }, by decide⟩,
      ⟨3, (((lit.setFld (F.LRX_TRN_CTL_STATE 3) 4).setFld (F.LTX_STATUS_STATE 11) 3).onLane 11 fun l => { l with src := 1 }).onLane 3 fun l => { l with cdLeft := 1 }, by decide⟩,
      ⟨3, lit.onLane 11 fun l => { l with src := 1 }, by decide⟩,
      ⟨3, 5#128, 7#16, 4097, (lit.setFld (F.LRX_STATUS_ACQ_STATE 3) 6).onLane 3 fun l => { l with frames := true }, by decide⟩,
      ⟨3, 5#128, 7#16, 4096, (lit.setFld (F.LRX_STATUS_ACQ_STATE 3) 6).onLane 3 fun l => { l with frames := true }, by decide⟩,
      ⟨3, 5#128, 4096, (lit.setFld (F.LRX_STATUS_ACQ_STATE 3) 6).onLane 3 fun l => { l with frames := true }, by decide⟩,
      ⟨3, 5#128, 4096, (lit.setFld (F.LRX_STATUS_ACQ_STATE 3) 6).onLane 3 fun l => { l with frames := true, badRun := 63 }, by decide⟩,
      ⟨3, BitVec.ofNat 128 (2 ^ 124 + 3 * 2 ^ 117 + 3 * 2 ^ 105), 4096, ((lit.setFld (F.LRX_STATUS_ACQ_STATE 3) 6).setFld F.MODE_STATUS_CURRENT 3).onLane 3 fun l => { l with frames := true }, by decide⟩⟩

theorem test_meets_TrainingProgramsMoveTheState :
    (∃ (m : Master) (n : Fin 8) (v : Word) (s : State), s.Reached m (R.LRX_TRN_CTL n) ∧ bitsOf v.toNat 0 4 = 2 ∧ bitsOf v.toNat 5 3 = 0 ∧ s.fld (F.LRX_TRN_CTL_STATE
      n) = 1 ∧ s.fld (F.LRX_STATUS_ACQ_STATE n) = 6 ∧ (s.lane n).heard = true) ∧
    (∃ (m : Master) (n : Fin 8) (v : Word) (s : State), s.Reached m (R.LRX_TRN_CTL n) ∧ bitsOf v.toNat 0 4 = 3 ∧ bitsOf v.toNat 5 3 = 0 ∧ s.fld (F.LRX_TRN_CTL_STATE
      n) = 2) ∧
    (∃ (m : Master) (n : Fin 8) (v : Word) (s : State), s.Reached m (R.LRX_TRN_CTL n) ∧ bitsOf v.toNat 0 4 = 1 ∧ bitsOf v.toNat 5 3 = 0 ∧ (s.fld
      (F.LRX_TRN_CTL_STATE n) = 2 ∨ s.fld (F.LRX_TRN_CTL_STATE n) = 3)) ∧
    (∃ (m : Master) (n : Fin 8) (v : Word) (s : State), s.Reached m (R.LRX_TRN_CTL n) ∧ bitsOf v.toNat 5 3 = 0 ∧ (bitsOf v.toNat 0 4 ≠ 1 ∨ (s.fld
      (F.LRX_TRN_CTL_STATE n) ≠ 2 ∧ s.fld (F.LRX_TRN_CTL_STATE n) ≠ 3)) ∧ (bitsOf v.toNat 0 4 ≠ 2 ∨ s.fld (F.LRX_TRN_CTL_STATE n) ≠ 1 ∨ s.fld (F.LRX_STATUS_ACQ_STATE
      n) ≠ 6 ∨ (s.lane n).heard = false) ∧ (bitsOf v.toNat 0 4 ≠ 3 ∨ s.fld (F.LRX_TRN_CTL_STATE n) ≠ 2)) ∧
    (∃ (m : Master) (n : Fin 8) (s : State), s.Reached m (R.LRX_TRN_CTL n) ∧ s.fld (F.LRX_TRN_CTL_STATE n) = 3 ∧ s.is (F.LRX_TRN_STAT_PEER_OK n) = true) ∧
    (∃ (m : Master) (n : Fin 8) (s : State), s.Reached m (R.LRX_TRN_CTL n) ∧ s.is (F.LRX_TRN_STAT_PEER_OK n) = false) ∧
    (∃ (m : Master) (n : Fin 8) (s : State), s.Reached m (R.LRX_TRN_CTL n)) ∧
    (∃ (n : Fin 8) (s : State), (s.lane n).peerData = true ∧ s.is (F.LRX_TRN_STAT_RX_DATA n) = false) ∧
    (∃ (n : Fin 8) (s : State), ((s.lane n).peerData = false ∨ s.is (F.LRX_TRN_STAT_RX_DATA n) = true)) ∧
    (∃ (m : Master) (n : Fin 8) (s : State), s.Reached m (R.LRX_TRN_RXF n 0)) :=
  ⟨⟨.hostS, 3, 0x12#32, ((lit.setFld (F.LRX_STATUS_ACQ_STATE 3) 6).setFld (F.LRX_TRN_CTL_STATE 3) 1).onLane 3 fun l => { l with heard := true }, by decide⟩,
      ⟨.ls 3, 3, 0x3#32, lit.setFld (F.LRX_TRN_CTL_STATE 3) 2, by decide⟩,
      ⟨.ls 3, 3, 0x1#32, lit.setFld (F.LRX_TRN_CTL_STATE 3) 3, by decide⟩,
      ⟨.hostS, 3, 0x12#32, (lit.setFld (F.LRX_STATUS_ACQ_STATE 3) 5).setFld (F.LRX_TRN_CTL_STATE 3) 1, by decide⟩,
      ⟨.hostS, 3, (lit.setFld (F.LRX_TRN_CTL_STATE 3) 3).put (F.LRX_TRN_STAT_PEER_OK 3) true, by decide⟩,
      ⟨.hostS, 3, lit.setFld (F.LRX_TRN_CTL_STATE 3) 3, by decide⟩,
      ⟨.ls 3, 3, lit.setFld (F.LRX_TRN_CTL_STATE 3) 2, by decide⟩,
      ⟨3, (lit.setFld (F.LRX_TRN_CTL_STATE 3) 4).onLane 3 fun l => { l with peerData := true }, by decide⟩,
      ⟨3, lit, by decide⟩,
      ⟨.hostS, 3, lit.onLane 3 fun l => { l with rxf := 0x123456789ABCDEF#128 }, by decide⟩⟩

theorem test_meets_RecalibrationRunsAndIsCommanded :
    (∃ (n : Fin 48) (s : State), s.calState n = 1 ∧ s.releasing n = true ∧ s.laneOn n = true) ∧
    (∃ (n : Fin 48) (s : State), (s.calState n ≠ 1 ∨ s.releasing n = false)) ∧
    (∃ (n : Fin 48) (levels : List Nat) (acorr : List Int) (s : State), fitnessWindow levels acorr = true ∧ fitInput levels acorr = true ∧ s.calState n = 2 ∧
      (s.lane n).fit = false) ∧
    (∃ (n : Fin 48) (levels : List Nat) (acorr : List Int) (s : State), fitnessWindow levels acorr = true ∧ (s.calState n ≠ 2 ∨ (s.lane n).fit = true)) ∧
    (∃ (n : Fin 48) (levels : List Nat) (acorr : List Int) (s : State), fitnessWindow levels acorr = true ∧ fitInput levels acorr = false ∧ s.calState n = 2 ∧
      (s.lane n).fit = false) ∧
    (∃ (n : Fin 48) (us : Nat) (s : State), s.calState n = 2 ∧ (s.lane n).fit = true ∧ s.coded = false) ∧
    (∃ (n : Fin 48) (us : Nat) (s : State), s.calState n = 2 ∧ (s.lane n).fit = true ∧ s.coded = true) ∧
    (∃ (n : Fin 48) (us : Nat) (s : State), (s.calState n ≠ 2 ∨ (s.lane n).fit = false)) ∧
    (∃ (n : Fin 48) (s : State), s.calState n = 3) ∧
    (∃ (n : Fin 48) (s : State), s.calState n ≠ 3) ∧
    (∃ (n : Fin 48) (s : State), s.calState n = 4 ∧ s.releasing n = true ∧ s.fld (F.CAL_LANE_STAT_RETRIES n) < 8) ∧
    (∃ (n : Fin 48) (s : State), s.calState n = 4 ∧ s.releasing n = false) ∧
    (∃ (n : Fin 48) (s : State), s.calState n ≠ 4) ∧
    (∃ (m : Master) (v : Word) (s : State) (n : Nat), s.Reached m R.CAL_CMD ∧ n = bitsOf v.toNat 0 6 ∧ (48 ≤ n ∨ s.oos n = true ∨ s.unusable n = true ∨ s.releasing
      n = false ∨ (s.calState n ≠ 0 ∧ s.calState n ≠ 4 ∧ s.calState n ≠ 5))) ∧
    (∃ (m : Master) (v : Word) (n : Fin 48) (s : State), s.Reached m R.CAL_CMD ∧ bitsOf v.toNat 0 6 = n.val ∧ s.oos n = false ∧ s.unusable n = false ∧ s.releasing n
      = true ∧ (s.calState n = 0 ∨ s.calState n = 4 ∨ s.calState n = 5)) ∧
    (∃ (r : Fin 24) (levels : List Nat) (sums : List Int × List (Int × Int × Int)) (lapUs : Nat) (s : State), fitnessWindow levels sums.1 = true ∧ sums.2.length =
      branches (rxLane r) ∧ s.is F.CAL_CTL_BG_EN = true ∧ s.fld F.THERM_STAT_LEVEL < 2 ∧ isData s.runMode = true ∧ s.running (rxLane r) = true ∧ s.nearEnd = false ∧
      s.calState (rxLane r) ≠ 2 ∧ s.calState (rxLane r) ≠ 3) ∧
    (∃ (r : Fin 24) (levels : List Nat) (sums : List Int × List (Int × Int × Int)) (lapUs : Nat) (s : State), fitnessWindow levels sums.1 = true ∧ sums.2.length =
      branches (rxLane r) ∧ (s.is F.CAL_CTL_BG_EN = false ∨ 2 ≤ s.fld F.THERM_STAT_LEVEL ∨ isData s.runMode = false ∨ s.running (rxLane r) = false ∨ s.nearEnd = true
      ∨ s.calState (rxLane r) = 2 ∨ s.calState (rxLane r) = 3)) :=
  ⟨⟨20, (lit.setFld (F.CAL_LANE_STAT_STATE 20) 1).setFld (F.HRX_STATUS_STATE 20) 2, by decide⟩,
      ⟨20, (lit.setFld (F.CAL_LANE_STAT_STATE 20) 2).setFld (F.HRX_STATUS_STATE 20) 2, by decide⟩,
      ⟨20, [16384, 16384, 16384, 16384], List.replicate 16 1000, lit.setFld (F.CAL_LANE_STAT_STATE 20) 2, by decide⟩,
      ⟨20, [65536, 0, 0, 0], List.replicate 16 1000, lit, by decide⟩,
      ⟨40, [16384, 16384, 1, 32767], List.replicate 16 1000, lit.setFld (F.CAL_LANE_STAT_STATE 40) 2, by decide⟩,
      ⟨20, 100, (lit.setFld (F.CAL_LANE_STAT_STATE 20) 2).onLane 20 fun l => { l with fit := true, calT := 66 }, by decide⟩,
      ⟨20, 70000, ((lit.setFld (F.CAL_LANE_STAT_STATE 20) 2).setFld F.MODE_STATUS_CURRENT 3).onLane 20 fun l => { l with fit := true }, by decide⟩,
      ⟨20, 100, lit, by decide⟩,
      ⟨20, lit.setFld (F.CAL_LANE_STAT_STATE 20) 3, by decide⟩,
      ⟨20, lit, by decide⟩,
      ⟨20, (lit.setFld (F.CAL_LANE_STAT_STATE 20) 4).setFld (F.HRX_STATUS_STATE 20) 2, by decide⟩,
      ⟨20, lit.setFld (F.CAL_LANE_STAT_STATE 20) 4, by decide⟩,
      ⟨20, lit.setFld (F.CAL_LANE_STAT_STATE 20) 5, by decide⟩,
      ⟨.hostS, 48#32, lit, 48, by decide⟩,
      ⟨.hostS, 20#32, 20, lit.setFld (F.HRX_STATUS_STATE 20) 2, by decide⟩,
      ⟨12, [16384, 16384, 16384, 16384], (List.replicate 16 1000, List.replicate 31 (0, 5, 0) ++ [(9, 1, -3)]), 150, ((lit.setFld F.MODE_STATUS_CURRENT 3).setFld (F.HRX_STATUS_STATE 20) 2).put F.CAL_CTL_BG_EN true, by decide⟩,
      ⟨2, [65536, 0, 0, 0], (List.replicate 16 1000, List.replicate 64 (0, 5, 0)), 150, lit, by decide⟩⟩

theorem test_meets_BoundariesTakeWhatWaitsForThem :
    (∃ (n : Fin 48) (s : State), 8 ≤ n.val ∧ n.val < 16 ∧ s.laneOn n = true) ∧
    (∃ (n : Fin 48) (s : State), (n.val < 8 ∨ 16 ≤ n.val ∧ n.val < 32) ∧ s.laneOn n = true ∧ (s.lane n).corrGo = true) ∧
    (∃ (n : Fin 48) (s : State), (n.val < 8 ∨ 16 ≤ n.val ∧ n.val < 32) ∧ s.laneOn n = true ∧ (s.lane n).branchStep ≠ []) ∧
    (∃ (n : Fin 48) (d : Nat) (s : State), s.laneOn n = true ∧ (s.seq n).cmt = some (d, false) ∧ s.paused n = false ∧ s.shadowOk n = true) ∧
    (∃ (n : Fin 48) (s : State), s.laneOn n = false) ∧
    (∃ (n : Fin 48) (s : State), s.hasGroups n = true ∧ s.laneOn n = true ∧ s.calState n = 3) ∧
    (∃ (n : Fin 48) (s : State), s.hasGroups n = true ∧ s.laneOn n = true ∧ s.calState n ≠ 3) ∧
    (∃ (n : Fin 48) (d : Nat) (s : State), s.hasGroups n = true ∧ s.laneOn n = true ∧ (s.seq n).cmt = some (d, true) ∧ s.paused n = false ∧ s.shadowOk n = true) ∧
    (∃ (n : Fin 48) (s : State), (s.hasGroups n = false ∨ s.laneOn n = false)) :=
  ⟨⟨11, lit.wr (R.LTX_CTL 11) 0x1F#32, by decide⟩,
      ⟨20, lit.onLane 20 fun l => { l with corrGo := true }, by decide⟩,
      ⟨20, lit.onLane 20 fun l => { l with branchStep := List.replicate 32 (1, -1, 0) }, by decide⟩,
      ⟨20, 5, lit.setSeq 20 { Seq.init with cmt := some (5, false) }, by decide⟩,
      ⟨20, State.reset, by decide⟩,
      ⟨3, ((lit.setFld F.MODE_STATUS_CURRENT 3).setFld (F.CAL_LANE_STAT_STATE 3) 3).put (F.LRX_CW_STAT_LOCKED 3) true, by decide⟩,
      ⟨3, ((lit.setFld F.MODE_STATUS_CURRENT 3).setFld F.THERM_STAT_LEVEL 3).put (F.LRX_CW_STAT_LOCKED 3) true, by decide⟩,
      ⟨3, 5, ((lit.setFld F.MODE_STATUS_CURRENT 3).put (F.LRX_CW_STAT_LOCKED 3) true).setSeq 3 { Seq.init with cmt := some (5, true) }, by decide⟩,
      ⟨20, lit, by decide⟩⟩

theorem test_meets_AluInstructionsComputeTheirTable :
    (∃ (k : Core) (d a b : Fin 16) (s : State), s.coreOn k = true) ∧
    (∃ (k : Core) (d a b : Fin 16) (s : State), s.coreOn k = true) ∧
    (∃ (k : Core) (d a b : Fin 16) (s : State), s.coreOn k = true) ∧
    (∃ (k : Core) (d a b : Fin 16) (s : State), s.coreOn k = true) ∧
    (∃ (k : Core) (d a b : Fin 16) (s : State), s.coreOn k = true) ∧
    (∃ (k : Core) (d a b : Fin 16) (s : State), s.coreOn k = true) ∧
    (∃ (k : Core) (d a b : Fin 16) (s : State), s.coreOn k = true) ∧
    (∃ (k : Core) (d a b : Fin 16) (s : State), s.coreOn k = true) ∧
    (∃ (k : Core) (d a b : Fin 16) (s : State), s.coreOn k = true) ∧
    (∃ (k : Core) (d a b : Fin 16) (s : State), s.coreOn k = true) ∧
    (∃ (k : Core) (d a b : Fin 16) (s : State), s.coreOn k = true) ∧
    (∃ (k : Core) (d a b : Fin 16) (s : State), s.coreOn k = true) ∧
    (∃ (k : Core) (d a b : Fin 16) (s : State), s.coreOn k = true) ∧
    (∃ (k : Core) (d a b : Fin 16) (s : State), s.coreOn k = true) ∧
    (∃ (k : Core) (d a b : Fin 16) (s : State), s.coreOn k = true) ∧
    (∃ (k : Core) (a b : Fin 16) (s : State), s.coreOn k = true) :=
  ⟨⟨.ls 3, 5, 2, 3, lits, by decide⟩,
      ⟨.ls 3, 5, 2, 3, lits, by decide⟩,
      ⟨.ls 3, 5, 2, 3, lits, by decide⟩,
      ⟨.ls 3, 5, 2, 3, lits, by decide⟩,
      ⟨.ls 3, 5, 2, 3, lits, by decide⟩,
      ⟨.ls 3, 5, 2, 3, lits, by decide⟩,
      ⟨.ls 3, 5, 2, 3, lits, by decide⟩,
      ⟨.ls 3, 5, 2, 3, lits, by decide⟩,
      ⟨.ls 3, 5, 2, 3, lits, by decide⟩,
      ⟨.ls 3, 5, 2, 3, lits, by decide⟩,
      ⟨.ls 3, 5, 2, 3, lits, by decide⟩,
      ⟨.ls 3, 5, 2, 3, lits, by decide⟩,
      ⟨.ls 3, 5, 2, 3, lits, by decide⟩,
      ⟨.ls 3, 5, 2, 3, lits, by decide⟩,
      ⟨.ls 3, 5, 2, 3, lits, by decide⟩,
      ⟨.ls 3, 2, 3, lits, by decide⟩⟩

theorem test_meets_ImmediateInstructionsCompute :
    (∃ (k : Core) (d a : Fin 16) (imm : BitVec 16) (s : State), s.coreOn k = true) ∧
    (∃ (k : Core) (d a : Fin 16) (imm : BitVec 16) (s : State), s.coreOn k = true) ∧
    (∃ (k : Core) (d a : Fin 16) (imm : BitVec 16) (s : State), s.coreOn k = true) ∧
    (∃ (k : Core) (d a : Fin 16) (imm : BitVec 16) (s : State), s.coreOn k = true) ∧
    (∃ (k : Core) (d a : Fin 16) (amt : Fin 32) (s : State), s.coreOn k = true) ∧
    (∃ (k : Core) (d a : Fin 16) (amt : Fin 32) (s : State), s.coreOn k = true) ∧
    (∃ (k : Core) (d a : Fin 16) (amt : Fin 32) (s : State), s.coreOn k = true) ∧
    (∃ (k : Core) (d : Fin 16) (imm : BitVec 16) (s : State), s.coreOn k = true) ∧
    (∃ (k : Core) (a : Fin 16) (imm : BitVec 16) (s : State), s.coreOn k = true) :=
  ⟨⟨.ls 3, 5, 2, 0x8005#16, lits, by decide⟩,
      ⟨.ls 3, 5, 2, 0x8005#16, lits, by decide⟩,
      ⟨.ls 3, 5, 2, 0x8005#16, lits, by decide⟩,
      ⟨.ls 3, 5, 2, 0x8005#16, lits, by decide⟩,
      ⟨.ls 3, 5, 2, 0, lits, by decide⟩,
      ⟨.ls 3, 5, 2, 0, lits, by decide⟩,
      ⟨.ls 3, 5, 2, 0, lits, by decide⟩,
      ⟨.ls 3, 5, 0x8005#16, lits, by decide⟩,
      ⟨.ls 3, 5, 0x8005#16, lits, by decide⟩⟩

theorem test_meets_BranchesTestTheFlags :
    (∃ (k : Core) (cond : Fin 16) (off : BitVec 20) (s : State), s.coreOn k = true ∧ condTable (s.flags k) cond = some true) ∧
    (∃ (k : Core) (cond : Fin 16) (off : BitVec 20) (s : State), s.coreOn k = true ∧ condTable (s.flags k) cond = some true) ∧
    (∃ (k : Core) (cond : Fin 16) (off : BitVec 20) (s : State), s.coreOn k = true ∧ condTable (s.flags k) cond = some false) ∧
    (∃ (k : Core) (cond : Fin 16) (off : BitVec 20) (s : State), s.coreOn k = true ∧ condTable (s.flags k) cond = some false) ∧
    (∃ (k : Core) (off : BitVec 20) (s : State), s.coreOn k = true ∧ s.mayTrap k 1 = true) ∧
    (∃ (k : Core) (off : BitVec 20) (s : State), s.coreOn k = true ∧ s.mayTrap k 1 = true) :=
  ⟨⟨.ls 3, 3, 0xFFFF9#20, lits, by decide⟩,
      ⟨.ls 3, 3, 0xFFFF9#20, lits, by decide⟩,
      ⟨.ls 3, 11, 0xFFFF9#20, lits, by decide⟩,
      ⟨.ls 3, 14, 0xFFFF9#20, lits.setSeq 3 { Seq.init with pc := 0x40#32, n := true, v := true }, by decide⟩,
      ⟨.ls 3, 0xFFFF9#20, lits, by decide⟩,
      ⟨.ls 3, 0xFFFF9#20, lits, by decide⟩⟩

theorem test_meets_JumpsAndTrapsOfTheCores :
    (∃ (k : Core) (d a : Fin 16) (s : State), s.coreOn k = true ∧ (s.reg k a).toNat % 4 = 0) ∧
    (∃ (k : Core) (d a : Fin 16) (s : State), s.coreOn k = true ∧ (s.reg k a).toNat % 4 ≠ 0 ∧ s.mayTrap k 3 = true) ∧
    (∃ (k : Core) (w : Word) (s : State), s.coreOn k = true ∧ instrOf k w = none ∧ s.mayTrap k 1 = true) ∧
    (∃ (k : Core) (w : Word) (s : State), instrOf k w ≠ none) ∧
    (∃ (imm : BitVec 16) (s : State), s.coreOn .sup = true ∧ s.mayTrap .sup 12 = true) ∧
    (∃ (k : Core) (s : State), s.coreOn k = true ∧
      (match k with | .sup => areaOf (s.pcOf k).toNat ≠ some .rom ∧ areaOf (s.pcOf k).toNat ≠ some .sup | .ls _ => 0x4000 ≤ (s.pcOf k).toNat) ∧ s.mayTrap k 4 = true) ∧
    (∃ (s : State), s.coreOn .sup = true ∧ (areaOf s.sup.pc.toNat = some .rom ∨ areaOf s.sup.pc.toNat = some .sup) ∧ s.mpuAllows s.level s.sup.pc.toNat 2 = false ∧
      s.mayTrap .sup 4 = true) ∧
    (∃ (n : Fin 48) (p : Nat) (s : State), s.coreOn (.ls n) = true ∧ (s.pcOf (.ls n)).toNat < 0x4000 ∧ (s.pcOf (.ls n)).toNat % 4 = 0 ∧ p = 0x03000000 + n.val *
      0x8000 + (s.pcOf (.ls n)).toNat ∧ s.memGate p = none ∧ s.ecc p = .poison) ∧
    (∃ (b : Nat) (s : State), s.coreOn .sup = true ∧ areaOf s.sup.pc.toNat = some .sup ∧ s.sup.pc.toNat % 4 = 0 ∧ s.mpuAllows s.level s.sup.pc.toNat 2 = true ∧
      s.mayTrap .sup 5 = true ∧ s.memGate s.sup.pc.toNat = none ∧ s.ecc (eccBase s.sup.pc.toNat) = .poison ∧ b = (if s.toSecure 5 then 1 else 6)) ∧
    (∃ (k : Core) (x : State × Option (Nat × Nat)) (c d : Nat) (s : State), s.coreOn k = true ∧ x = s.fetch k ∧ x.2 = some (c, d) ∧ x.1.mayTrap k c = true) ∧
    (∃ (k : Core) (s : State), s.coreOn k = true ∧ (s.fetch k).2 = none ∧ s.IrqRemembered) ∧
    (∃ (n : Fin 48) (s : State), s.coreOn (.ls n) = true) :=
  ⟨⟨.ls 3, 5, 5, lits, by decide⟩,
      ⟨.ls 3, 5, 3, lits, by decide⟩,
      ⟨.ls 3, 0xFFFFFFFF#32, lits, by decide⟩,
      ⟨.ls 3, 0x0005400B#32, lits, by decide⟩,
      ⟨0x8001#16, (litc.setCreg 0 0xA000003A#32 |>.putCbit 0 5 false).setCreg 12 0x01002000#32, by decide⟩,
      ⟨.ls 3, lits.setSeq 3 { Seq.init with pc := 0x4000#32 }, by decide⟩,
      ⟨litc.setCreg 0 2, by decide⟩,
      ⟨3, 0x03018010, (lits.poisonWord 0x03018010).setSeq 3 { Seq.init with pc := 0x10#32 }, by decide⟩,
      ⟨1, { (litm.poisonWord 0x01000010) with sup := { litm.sup with pc := 0x01000014#32 } }, by decide⟩,
      ⟨.ls 3, ((lits.poisonWord 0x03018010).setSeq 3 { Seq.init with pc := 0x10#32 }).fetch (.ls 3), 5, 0, (lits.poisonWord 0x03018010).setSeq 3 { Seq.init with pc := 0x10#32 }, by decide⟩,
      ⟨.ls 3, lits, by decide⟩,
      ⟨3, lits, by decide⟩⟩

theorem test_meets_TrapReturnFollowsTheLevel :
    (∃ (s : State), s.coreOn .sup = true ∧ s.level = 0) ∧
    (∃ (s : State), s.coreOn .sup = true ∧ s.level = 1 ∧ (s.creg 7).toNat % 4 ≠ 0) ∧
    (∃ (s : State), s.coreOn .sup = true ∧ s.level = 1 ∧ (s.creg 7).toNat % 4 = 0 ∧ s.mayTrap .sup 2 = true) ∧
    (∃ (s : State), s.coreOn .sup = true ∧ 2 ≤ s.level ∧ s.mayTrap .sup 2 = true) :=
  ⟨⟨(litc.setCreg 1 0x01000044#32).setCreg 2 0xA000003E#32, by decide⟩,
      ⟨((litc.setCreg 0 0x00000035#32).setCreg 6 0x01000044#32).setCreg 7 0xA000003E#32, by decide⟩,
      ⟨litc.setCreg 0 0x00000001#32, by decide⟩,
      ⟨litc.setCreg 0 0x00000002#32, by decide⟩⟩

theorem test_meets_SupervisorTakesInterruptsAndWaits :
    (∃ (s : State), s.coreOn .sup = true ∧ s.sup.halted = false ∧ s.takesSecure = true) ∧
    (∃ (s : State), s.coreOn .sup = true ∧ s.sup.halted = false ∧ s.takesNonSecure = true) ∧
    (∃ (b : Bool) (s : State), (s.coreOn .sup = false ∨ (if b then s.takesSecure else s.takesNonSecure) = false)) ∧
    (∃ (imm : BitVec 16) (s : State), s.coreOn .sup = true ∧ s.toSecure 12 = false ∧ bitAt (s.creg 0).toNat 5 = true ∧ bitAt (s.creg 0).toNat 4 = false) ∧
    (∃ (w : Word) (s : State), s.coreOn .sup = true ∧ instrOf .sup w = none ∧ s.toSecure 1 = true ∧ bitAt (s.creg 0).toNat 4 = true) ∧
    (∃ (s : State), s.coreOn .sup = true ∧ s.level ≤ 1) ∧
    (∃ (s : State), s.coreOn .sup = true ∧ 2 ≤ s.level ∧ s.mayTrap .sup 2 = true) ∧
    (∃ (s : State), s.sup.wfi = true) :=
  ⟨⟨((litc.setCreg 0 1).wr R.IRQ_SOFT_SET 1#32).wr R.IRQ_S_EN_HI 0x80000000#32, by decide⟩,
      ⟨((((litc.setCreg 0 10).wr R.IRQ_SECURE_HI 0#32).wr R.IRQ_SOFT_SET 1#32).wr R.IRQ_NS_EN_HI 0x80000000#32).setCreg 12 0x01004000#32, by decide⟩,
      ⟨true, litc, by decide⟩,
      ⟨0x8001#16, litc.setCreg 0 0x22#32, by decide⟩,
      ⟨0xFFFFFFFF#32, litc.setCreg 0 0x10#32, by decide⟩,
      ⟨litc, by decide⟩,
      ⟨litc.setCreg 0 2, by decide⟩,
      ⟨{ litc with sup := { litc.sup with wfi := true } }, by decide⟩⟩

theorem test_meets_ControlRegistersByLevel :
    (∃ (d : Fin 16) (c : Fin 32) (s : State), s.coreOn .sup = true ∧ cregAccess c s.level ≠ none ∧ cregAccess c s.level ≠ some 0) ∧
    (∃ (c : Fin 32) (a : Fin 16) (s : State), s.coreOn .sup = true ∧ cregAccess c s.level = some 2) ∧
    (∃ (c : Fin 32) (a : Fin 16) (s : State), s.coreOn .sup = true ∧ cregAccess c s.level = some 1) ∧
    (∃ (c : Fin 32) (d : Fin 16) (s : State), s.coreOn .sup = true ∧ cregAccess c s.level = some 0 ∧ s.mayTrap .sup 2 = true) ∧
    (∃ (c : Fin 32) (a : Fin 16) (s : State), s.coreOn .sup = true ∧ cregAccess c s.level = some 0 ∧ s.mayTrap .sup 2 = true) ∧
    (∃ (c : Fin 32) (d : Fin 16) (s : State), s.coreOn .sup = true ∧ (c.val = 14 ∨ c.val = 15 ∨ c.val = 20 ∨ 23 ≤ c.val) ∧ s.mayTrap .sup 1 = true) ∧
    (∃ (c : Fin 32) (a : Fin 16) (s : State), s.coreOn .sup = true ∧ (c.val = 14 ∨ c.val = 15 ∨ c.val = 20 ∨ 23 ≤ c.val) ∧ s.mayTrap .sup 1 = true) :=
  ⟨⟨5, 21, { litc with tb := 0x123456789ABCDEF0#64 }, by decide⟩,
      ⟨0, 2, litc, by decide⟩,
      ⟨13, 2, litc, by decide⟩,
      ⟨11, 3, litc.setCreg 0 1, by decide⟩,
      ⟨11, 2, litc.setCreg 0 1, by decide⟩,
      ⟨14, 2, litc, by decide⟩,
      ⟨23, 2, litc, by decide⟩⟩

theorem test_meets_LoadsReadTheCoresOwnMemory :
    (∃ (k : Core) (d a : Fin 16) (imm : BitVec 16) (p : Nat) (s : State), s.coreOn k = true ∧ (s.reg k a + imm.signExtend 32).toNat % 4 = 0 ∧ ownData k (s.reg k a +
      imm.signExtend 32).toNat = some p ∧ s.Sound p ∧ s.mpuPasses k (s.reg k a + imm.signExtend 32).toNat 0 = true) ∧
    (∃ (k : Core) (d a : Fin 16) (imm : BitVec 16) (p : Nat) (s : State), s.coreOn k = true ∧ (s.reg k a + imm.signExtend 32).toNat % 2 = 0 ∧ ownData k (s.reg k a +
      imm.signExtend 32).toNat = some p ∧ s.Sound p ∧ s.mpuPasses k (s.reg k a + imm.signExtend 32).toNat 0 = true) ∧
    (∃ (k : Core) (d a : Fin 16) (imm : BitVec 16) (p : Nat) (s : State), s.coreOn k = true ∧ (s.reg k a + imm.signExtend 32).toNat % 2 = 0 ∧ ownData k (s.reg k a +
      imm.signExtend 32).toNat = some p ∧ s.Sound p ∧ s.mpuPasses k (s.reg k a + imm.signExtend 32).toNat 0 = true) ∧
    (∃ (k : Core) (d a : Fin 16) (imm : BitVec 16) (p : Nat) (s : State), s.coreOn k = true ∧ ownData k (s.reg k a + imm.signExtend 32).toNat = some p ∧ s.Sound p ∧
      s.mpuPasses k (s.reg k a + imm.signExtend 32).toNat 0 = true) ∧
    (∃ (k : Core) (d a : Fin 16) (imm : BitVec 16) (p : Nat) (s : State), s.coreOn k = true ∧ ownData k (s.reg k a + imm.signExtend 32).toNat = some p ∧ s.Sound p ∧
      s.mpuPasses k (s.reg k a + imm.signExtend 32).toNat 0 = true) ∧
    (∃ (n : Fin 48) (d a : Fin 16) (imm : BitVec 16) (s : State), s.coreOn (.ls n) = true ∧ (s.reg (.ls n) a + imm.signExtend 32).toNat = 0x12008) ∧
    (∃ (k : Core) (d a : Fin 16) (imm : BitVec 16) (x : State × DataRes × Nat) (s : State), s.coreOn k = true ∧ (s.reg k a + imm.signExtend 32).toNat % 4 = 0 ∧ x =
      s.dataRead k d (s.reg k a + imm.signExtend 32).toNat .word ∧ x.2.1 = .done ∧ x.1.coreOn k = true) ∧
    (∃ (k : Core) (d a : Fin 16) (imm : BitVec 16) (x : State × DataRes × Nat) (s : State), s.coreOn k = true ∧ (s.reg k a + imm.signExtend 32).toNat % 2 = 0 ∧ x =
      s.dataRead k d (s.reg k a + imm.signExtend 32).toNat .half ∧ x.2.1 = .done ∧ x.1.coreOn k = true) ∧
    (∃ (k : Core) (d a : Fin 16) (imm : BitVec 16) (x : State × DataRes × Nat) (s : State), s.coreOn k = true ∧ (s.reg k a + imm.signExtend 32).toNat % 2 = 0 ∧ x =
      s.dataRead k d (s.reg k a + imm.signExtend 32).toNat .half ∧ x.2.1 = .done ∧ x.1.coreOn k = true) ∧
    (∃ (k : Core) (d a : Fin 16) (imm : BitVec 16) (x : State × DataRes × Nat) (s : State), s.coreOn k = true ∧ x = s.dataRead k d (s.reg k a + imm.signExtend
      32).toNat .byte ∧ x.2.1 = .done ∧ x.1.coreOn k = true) ∧
    (∃ (k : Core) (d a : Fin 16) (imm : BitVec 16) (x : State × DataRes × Nat) (s : State), s.coreOn k = true ∧ x = s.dataRead k d (s.reg k a + imm.signExtend
      32).toNat .byte ∧ x.2.1 = .done ∧ x.1.coreOn k = true) ∧
    (∃ (d a : Fin 16) (imm : BitVec 16) (x : State × DataRes × Nat) (s : State), s.coreOn .sup = true ∧ (s.reg .sup a + imm.signExtend 32).toNat % 4 = 0 ∧ x =
      s.dataRead .sup d (s.reg .sup a + imm.signExtend 32).toNat .word ∧ x.2.1 = .wait) :=
  ⟨⟨.ls 3, 5, 6, 0, 0x0301C010, litm, by unfold State.Sound; decide⟩,
      ⟨.ls 3, 5, 6, 0, 0x0301C010, litm, by unfold State.Sound; decide⟩,
      ⟨.ls 3, 5, 6, 0, 0x0301C010, litm, by unfold State.Sound; decide⟩,
      ⟨.ls 3, 5, 6, 0, 0x0301C010, litm, by unfold State.Sound; decide⟩,
      ⟨.ls 3, 5, 6, 0, 0x0301C010, litm, by unfold State.Sound; decide⟩,
      ⟨3, 5, 1, 0x2008#16, (litm.setG 3 1 0x10000#32).wr (R.LRX_SEQ_EVT 3) 0x80000001#32, by decide⟩,
      ⟨.sup, 5, 6, 0x10#16, (litm.setG 48 6 0x02000000#32).dataRead .sup 5 0x02000010 .word, litm.setG 48 6 0x02000000#32, by decide⟩,
      ⟨.sup, 5, 6, 0x10#16, (litm.setG 48 6 0x02000000#32).dataRead .sup 5 0x02000010 .half, litm.setG 48 6 0x02000000#32, by decide⟩,
      ⟨.sup, 5, 6, 0x10#16, (litm.setG 48 6 0x02000000#32).dataRead .sup 5 0x02000010 .half, litm.setG 48 6 0x02000000#32, by decide⟩,
      ⟨.sup, 5, 6, 0x10#16, (litm.setG 48 6 0x02000000#32).dataRead .sup 5 0x02000010 .byte, litm.setG 48 6 0x02000000#32, by decide⟩,
      ⟨.sup, 5, 6, 0x10#16, (litm.setG 48 6 0x02000000#32).dataRead .sup 5 0x02000010 .byte, litm.setG 48 6 0x02000000#32, by decide⟩,
      ⟨5, 6, 0, ({ (twh.setFld (F.TOW_RWIN_DEV_DEV 0) 2).setG 48 6 0x04010808#32 with sup := { twh.sup with released := true } }).dataRead .sup 5 0x04010808 .word, { (twh.setFld (F.TOW_RWIN_DEV_DEV 0) 2).setG 48 6 0x04010808#32 with sup := { twh.sup with released := true } }, by decide⟩⟩

theorem test_meets_LoadsAndStoresThatFailTrap :
    (∃ (k : Core) (d a : Fin 16) (imm : BitVec 16) (s : State), s.coreOn k = true ∧ (s.reg k a + imm.signExtend 32).toNat % 4 ≠ 0 ∧ s.mayTrap k 6 = true) ∧
    (∃ (k : Core) (d a : Fin 16) (imm : BitVec 16) (s : State), s.coreOn k = true ∧ (s.reg k a + imm.signExtend 32).toNat % 2 ≠ 0 ∧ s.mayTrap k 6 = true) ∧
    (∃ (k : Core) (d a : Fin 16) (imm : BitVec 16) (s : State), s.coreOn k = true ∧ (s.reg k a + imm.signExtend 32).toNat % 2 ≠ 0 ∧ s.mayTrap k 6 = true) ∧
    (∃ (n : Fin 48) (d a : Fin 16) (imm : BitVec 16) (s : State), s.coreOn (.ls n) = true ∧ (s.reg (.ls n) a + imm.signExtend 32).toNat % 4 = 0 ∧ lanePlace n (s.reg
      (.ls n) a + imm.signExtend 32).toNat = none) ∧
    (∃ (n : Fin 48) (d a : Fin 16) (imm : BitVec 16) (s : State), s.coreOn (.ls n) = true ∧ (s.reg (.ls n) a + imm.signExtend 32).toNat % 2 = 0 ∧ lanePlace n (s.reg
      (.ls n) a + imm.signExtend 32).toNat = none) ∧
    (∃ (n : Fin 48) (d a : Fin 16) (imm : BitVec 16) (s : State), s.coreOn (.ls n) = true ∧ (s.reg (.ls n) a + imm.signExtend 32).toNat % 2 = 0 ∧ lanePlace n (s.reg
      (.ls n) a + imm.signExtend 32).toNat = none) ∧
    (∃ (n : Fin 48) (d a : Fin 16) (imm : BitVec 16) (s : State), s.coreOn (.ls n) = true ∧ lanePlace n (s.reg (.ls n) a + imm.signExtend 32).toNat = none) ∧
    (∃ (n : Fin 48) (d a : Fin 16) (imm : BitVec 16) (s : State), s.coreOn (.ls n) = true ∧ lanePlace n (s.reg (.ls n) a + imm.signExtend 32).toNat = none) ∧
    (∃ (d a : Fin 16) (imm : BitVec 16) (s : State), s.coreOn .sup = true ∧ (s.reg .sup a + imm.signExtend 32).toNat % 4 = 0 ∧ s.mpuAllows s.level (s.reg .sup a +
      imm.signExtend 32).toNat 0 = false ∧ s.mayTrap .sup 8 = true) ∧
    (∃ (d a : Fin 16) (imm : BitVec 16) (s : State), s.coreOn .sup = true ∧ (s.reg .sup a + imm.signExtend 32).toNat % 2 = 0 ∧ s.mpuAllows s.level (s.reg .sup a +
      imm.signExtend 32).toNat 0 = false ∧ s.mayTrap .sup 8 = true) ∧
    (∃ (d a : Fin 16) (imm : BitVec 16) (s : State), s.coreOn .sup = true ∧ (s.reg .sup a + imm.signExtend 32).toNat % 2 = 0 ∧ s.mpuAllows s.level (s.reg .sup a +
      imm.signExtend 32).toNat 0 = false ∧ s.mayTrap .sup 8 = true) ∧
    (∃ (d a : Fin 16) (imm : BitVec 16) (s : State), s.coreOn .sup = true ∧ s.mpuAllows s.level (s.reg .sup a + imm.signExtend 32).toNat 0 = false ∧ s.mayTrap .sup
      8 = true) ∧
    (∃ (d a : Fin 16) (imm : BitVec 16) (s : State), s.coreOn .sup = true ∧ s.mpuAllows s.level (s.reg .sup a + imm.signExtend 32).toNat 0 = false ∧ s.mayTrap .sup
      8 = true) ∧
    (∃ (n : Fin 48) (d a : Fin 16) (imm : BitVec 16) (p : Nat) (s : State), s.coreOn (.ls n) = true ∧ (s.reg (.ls n) a + imm.signExtend 32).toNat % 4 = 0 ∧ ownData
      (.ls n) (s.reg (.ls n) a + imm.signExtend 32).toNat = some p ∧ s.memGate p = none ∧ s.ecc p = .poison) ∧
    (∃ (k : Core) (d a : Fin 16) (imm : BitVec 16) (s : State), s.coreOn k = true ∧ (s.reg k a + imm.signExtend 32).toNat % 4 ≠ 0 ∧ s.mayTrap k 7 = true) ∧
    (∃ (k : Core) (d a : Fin 16) (imm : BitVec 16) (s : State), s.coreOn k = true ∧ (s.reg k a + imm.signExtend 32).toNat % 2 ≠ 0 ∧ s.mayTrap k 7 = true) ∧
    (∃ (k : Core) (d a : Fin 16) (imm : BitVec 16) (s : State), s.coreOn k = true ∧ (s.reg k a + imm.signExtend 32).toNat % 4 ≠ 0 ∧ s.mayTrap k 7 = true) ∧
    (∃ (n : Fin 48) (d a : Fin 16) (imm : BitVec 16) (s : State), s.coreOn (.ls n) = true ∧ (s.reg (.ls n) a + imm.signExtend 32).toNat % 4 = 0 ∧ (lanePlace n
      (s.reg (.ls n) a + imm.signExtend 32).toNat = none ∨ (s.reg (.ls n) a + imm.signExtend 32).toNat < 0x4000)) ∧
    (∃ (n : Fin 48) (d a : Fin 16) (imm : BitVec 16) (s : State), s.coreOn (.ls n) = true ∧ (s.reg (.ls n) a + imm.signExtend 32).toNat % 2 = 0 ∧ (lanePlace n
      (s.reg (.ls n) a + imm.signExtend 32).toNat = none ∨ (s.reg (.ls n) a + imm.signExtend 32).toNat < 0x4000)) ∧
    (∃ (n : Fin 48) (d a : Fin 16) (imm : BitVec 16) (s : State), s.coreOn (.ls n) = true ∧ (lanePlace n (s.reg (.ls n) a + imm.signExtend 32).toNat = none ∨ (s.reg
      (.ls n) a + imm.signExtend 32).toNat < 0x4000)) ∧
    (∃ (n : Fin 48) (d a : Fin 16) (imm : BitVec 16) (s : State), s.coreOn (.ls n) = true ∧ (s.reg (.ls n) a + imm.signExtend 32).toNat % 4 = 0 ∧ (lanePlace n
      (s.reg (.ls n) a + imm.signExtend 32).toNat = none ∨ (s.reg (.ls n) a + imm.signExtend 32).toNat < 0x4000)) ∧
    (∃ (d a : Fin 16) (imm : BitVec 16) (s : State), s.coreOn .sup = true ∧ (s.reg .sup a + imm.signExtend 32).toNat % 4 = 0 ∧ s.mpuAllows s.level (s.reg .sup a +
      imm.signExtend 32).toNat 1 = false ∧ s.mayTrap .sup 9 = true) ∧
    (∃ (d a : Fin 16) (imm : BitVec 16) (s : State), s.coreOn .sup = true ∧ (s.reg .sup a + imm.signExtend 32).toNat % 2 = 0 ∧ s.mpuAllows s.level (s.reg .sup a +
      imm.signExtend 32).toNat 1 = false ∧ s.mayTrap .sup 9 = true) ∧
    (∃ (d a : Fin 16) (imm : BitVec 16) (s : State), s.coreOn .sup = true ∧ s.mpuAllows s.level (s.reg .sup a + imm.signExtend 32).toNat 1 = false ∧ s.mayTrap .sup
      9 = true) ∧
    (∃ (d a : Fin 16) (imm : BitVec 16) (s : State), s.coreOn .sup = true ∧ (s.reg .sup a + imm.signExtend 32).toNat % 4 = 0 ∧ s.mpuAllows s.level (s.reg .sup a +
      imm.signExtend 32).toNat 1 = false ∧ s.mayTrap .sup 9 = true) ∧
    (∃ (k : Core) (d a : Fin 16) (imm : BitVec 16) (x : State × DataRes × Nat) (c : Nat) (s : State), s.coreOn k = true ∧ (s.reg k a + imm.signExtend 32).toNat % 4
      = 0 ∧ x = s.dataRead k d (s.reg k a + imm.signExtend 32).toNat .word ∧ x.2.1 = .fault c ∧ x.1.mayTrap k 8 = true) ∧
    (∃ (k : Core) (d a : Fin 16) (imm : BitVec 16) (x : State × DataRes × Nat) (s : State), s.coreOn k = true ∧ (s.reg k a + imm.signExtend 32).toNat % 4 = 0 ∧ x =
      s.dataRead k d (s.reg k a + imm.signExtend 32).toNat .word ∧ x.2.1 = .ecc ∧ x.1.mayTrap k 10 = true) ∧
    (∃ (k : Core) (d a : Fin 16) (imm : BitVec 16) (x : State × DataRes × Nat) (c : Nat) (s : State), s.coreOn k = true ∧ (s.reg k a + imm.signExtend 32).toNat % 2
      = 0 ∧ x = s.dataRead k d (s.reg k a + imm.signExtend 32).toNat .half ∧ x.2.1 = .fault c ∧ x.1.mayTrap k 8 = true) ∧
    (∃ (k : Core) (d a : Fin 16) (imm : BitVec 16) (x : State × DataRes × Nat) (s : State), s.coreOn k = true ∧ (s.reg k a + imm.signExtend 32).toNat % 2 = 0 ∧ x =
      s.dataRead k d (s.reg k a + imm.signExtend 32).toNat .half ∧ x.2.1 = .ecc ∧ x.1.mayTrap k 10 = true) ∧
    (∃ (k : Core) (d a : Fin 16) (imm : BitVec 16) (x : State × DataRes × Nat) (c : Nat) (s : State), s.coreOn k = true ∧ (s.reg k a + imm.signExtend 32).toNat % 2
      = 0 ∧ x = s.dataRead k d (s.reg k a + imm.signExtend 32).toNat .half ∧ x.2.1 = .fault c ∧ x.1.mayTrap k 8 = true) ∧
    (∃ (k : Core) (d a : Fin 16) (imm : BitVec 16) (x : State × DataRes × Nat) (s : State), s.coreOn k = true ∧ (s.reg k a + imm.signExtend 32).toNat % 2 = 0 ∧ x =
      s.dataRead k d (s.reg k a + imm.signExtend 32).toNat .half ∧ x.2.1 = .ecc ∧ x.1.mayTrap k 10 = true) ∧
    (∃ (k : Core) (d a : Fin 16) (imm : BitVec 16) (x : State × DataRes × Nat) (c : Nat) (s : State), s.coreOn k = true ∧ x = s.dataRead k d (s.reg k a +
      imm.signExtend 32).toNat .byte ∧ x.2.1 = .fault c ∧ x.1.mayTrap k 8 = true) ∧
    (∃ (k : Core) (d a : Fin 16) (imm : BitVec 16) (x : State × DataRes × Nat) (s : State), s.coreOn k = true ∧ x = s.dataRead k d (s.reg k a + imm.signExtend
      32).toNat .byte ∧ x.2.1 = .ecc ∧ x.1.mayTrap k 10 = true) ∧
    (∃ (k : Core) (d a : Fin 16) (imm : BitVec 16) (x : State × DataRes × Nat) (c : Nat) (s : State), s.coreOn k = true ∧ x = s.dataRead k d (s.reg k a +
      imm.signExtend 32).toNat .byte ∧ x.2.1 = .fault c ∧ x.1.mayTrap k 8 = true) ∧
    (∃ (k : Core) (d a : Fin 16) (imm : BitVec 16) (x : State × DataRes × Nat) (s : State), s.coreOn k = true ∧ x = s.dataRead k d (s.reg k a + imm.signExtend
      32).toNat .byte ∧ x.2.1 = .ecc ∧ x.1.mayTrap k 10 = true) ∧
    (∃ (k : Core) (d a : Fin 16) (imm : BitVec 16) (x : State × DataRes) (c : Nat) (s : State), s.coreOn k = true ∧ (s.reg k a + imm.signExtend 32).toNat % 4 = 0 ∧
      x = s.dataWrite k (s.reg k a + imm.signExtend 32).toNat .word (s.reg k d) ∧ x.2 = .fault c ∧ x.1.mayTrap k 9 = true) ∧
    (∃ (k : Core) (d a : Fin 16) (imm : BitVec 16) (x : State × DataRes) (c : Nat) (s : State), s.coreOn k = true ∧ (s.reg k a + imm.signExtend 32).toNat % 2 = 0 ∧
      x = s.dataWrite k (s.reg k a + imm.signExtend 32).toNat .half (s.reg k d) ∧ x.2 = .fault c ∧ x.1.mayTrap k 9 = true) ∧
    (∃ (k : Core) (d a : Fin 16) (imm : BitVec 16) (x : State × DataRes) (c : Nat) (s : State), s.coreOn k = true ∧ x = s.dataWrite k (s.reg k a + imm.signExtend
      32).toNat .byte (s.reg k d) ∧ x.2 = .fault c ∧ x.1.mayTrap k 9 = true) :=
  ⟨⟨.ls 3, 5, 6, 1, litm, by decide⟩,
      ⟨.ls 3, 5, 6, 1, litm, by decide⟩,
      ⟨.ls 3, 5, 6, 1, litm, by decide⟩,
      ⟨3, 5, 6, 0x3000#16, litm, by decide⟩,
      ⟨3, 5, 6, 0x3000#16, litm, by decide⟩,
      ⟨3, 5, 6, 0x3000#16, litm, by decide⟩,
      ⟨3, 5, 6, 0x3000#16, litm, by decide⟩,
      ⟨3, 5, 6, 0x3000#16, litm, by decide⟩,
      ⟨5, 6, 0x0010#16, litm.setCreg 0 2, by decide⟩,
      ⟨5, 6, 0x0010#16, litm.setCreg 0 2, by decide⟩,
      ⟨5, 6, 0x0010#16, litm.setCreg 0 2, by decide⟩,
      ⟨5, 6, 0x0010#16, litm.setCreg 0 2, by decide⟩,
      ⟨5, 6, 0x0010#16, litm.setCreg 0 2, by decide⟩,
      ⟨3, 5, 6, 0, 0x0301C010, litm.poisonWord 0x0301C010, by decide⟩,
      ⟨.ls 3, 5, 6, 1, litm, by decide⟩,
      ⟨.ls 3, 5, 6, 1, litm, by decide⟩,
      ⟨.ls 3, 5, 6, 1, litm, by decide⟩,
      ⟨3, 5, 6, 0x3000#16, litm, by decide⟩,
      ⟨3, 5, 6, 0x3000#16, litm, by decide⟩,
      ⟨3, 5, 6, 0x3000#16, litm, by decide⟩,
      ⟨3, 5, 6, 0x3000#16, litm, by decide⟩,
      ⟨5, 6, 0x0010#16, litm.setCreg 0 2, by decide⟩,
      ⟨5, 6, 0x0010#16, litm.setCreg 0 2, by decide⟩,
      ⟨5, 6, 0x0010#16, litm.setCreg 0 2, by decide⟩,
      ⟨5, 6, 0x0010#16, litm.setCreg 0 2, by decide⟩,
      ⟨.sup, 5, 6, 0, (litm.setG 48 6 0x07000000#32).dataRead .sup 5 0x07000000 .word, 3, litm.setG 48 6 0x07000000#32, by decide⟩,
      ⟨.sup, 5, 6, 0, ((litm.setG 48 6 0x02000000#32).poisonWord 0x02000000).dataRead .sup 5 0x02000000 .word, (litm.setG 48 6 0x02000000#32).poisonWord 0x02000000, by decide⟩,
      ⟨.sup, 5, 6, 0, (litm.setG 48 6 0x07000000#32).dataRead .sup 5 0x07000000 .half, 3, litm.setG 48 6 0x07000000#32, by decide⟩,
      ⟨.sup, 5, 6, 0, ((litm.setG 48 6 0x02000000#32).poisonWord 0x02000000).dataRead .sup 5 0x02000000 .half, (litm.setG 48 6 0x02000000#32).poisonWord 0x02000000, by decide⟩,
      ⟨.sup, 5, 6, 0, (litm.setG 48 6 0x07000000#32).dataRead .sup 5 0x07000000 .half, 3, litm.setG 48 6 0x07000000#32, by decide⟩,
      ⟨.sup, 5, 6, 0, ((litm.setG 48 6 0x02000000#32).poisonWord 0x02000000).dataRead .sup 5 0x02000000 .half, (litm.setG 48 6 0x02000000#32).poisonWord 0x02000000, by decide⟩,
      ⟨.sup, 5, 6, 0, (litm.setG 48 6 0x07000000#32).dataRead .sup 5 0x07000000 .byte, 3, litm.setG 48 6 0x07000000#32, by decide⟩,
      ⟨.sup, 5, 6, 0, ((litm.setG 48 6 0x02000000#32).poisonWord 0x02000000).dataRead .sup 5 0x02000000 .byte, (litm.setG 48 6 0x02000000#32).poisonWord 0x02000000, by decide⟩,
      ⟨.sup, 5, 6, 0, (litm.setG 48 6 0x07000000#32).dataRead .sup 5 0x07000000 .byte, 3, litm.setG 48 6 0x07000000#32, by decide⟩,
      ⟨.sup, 5, 6, 0, ((litm.setG 48 6 0x02000000#32).poisonWord 0x02000000).dataRead .sup 5 0x02000000 .byte, (litm.setG 48 6 0x02000000#32).poisonWord 0x02000000, by decide⟩,
      ⟨.sup, 5, 6, 0, (litm.setG 48 6 0x07000000#32).dataWrite .sup 0x07000000 .word 0#32, 3, litm.setG 48 6 0x07000000#32, by decide⟩,
      ⟨.sup, 5, 6, 0, (litm.setG 48 6 0x07000000#32).dataWrite .sup 0x07000000 .half 0#32, 3, litm.setG 48 6 0x07000000#32, by decide⟩,
      ⟨.sup, 5, 6, 0, (litm.setG 48 6 0x07000000#32).dataWrite .sup 0x07000000 .byte 0#32, 3, litm.setG 48 6 0x07000000#32, by decide⟩⟩

theorem test_meets_StoresWriteTheCoresOwnMemory :
    (∃ (k : Core) (d a : Fin 16) (imm : BitVec 16) (p : Nat) (s : State), s.coreOn k = true ∧ (s.reg k a + imm.signExtend 32).toNat % 4 = 0 ∧ ownData k (s.reg k a +
      imm.signExtend 32).toNat = some p ∧ s.Sound p ∧ s.mpuPasses k (s.reg k a + imm.signExtend 32).toNat 1 = true) ∧
    (∃ (k : Core) (d a : Fin 16) (imm : BitVec 16) (p : Nat) (s : State), s.coreOn k = true ∧ (s.reg k a + imm.signExtend 32).toNat % 2 = 0 ∧ ownData k (s.reg k a +
      imm.signExtend 32).toNat = some p ∧ s.Sound p ∧ s.mpuPasses k (s.reg k a + imm.signExtend 32).toNat 1 = true) ∧
    (∃ (k : Core) (d a : Fin 16) (imm : BitVec 16) (p : Nat) (s : State), s.coreOn k = true ∧ ownData k (s.reg k a + imm.signExtend 32).toNat = some p ∧ s.Sound p ∧
      s.mpuPasses k (s.reg k a + imm.signExtend 32).toNat 1 = true) ∧
    (∃ (k : Core) (d a : Fin 16) (imm : BitVec 16) (p : Nat) (s : State), s.coreOn k = true ∧ (s.reg k a + imm.signExtend 32).toNat % 4 = 0 ∧ ownData k (s.reg k a +
      imm.signExtend 32).toNat = some p ∧ s.Sound p ∧ s.mpuPasses k (s.reg k a + imm.signExtend 32).toNat 1 = true) ∧
    (∃ (k : Core) (d a : Fin 16) (imm : BitVec 16) (s : State), s.coreOn k = true ∧ (s.reg k a + imm.signExtend 32).toNat % 4 = 0 ∧ (s.dataWrite k (s.reg k a +
      imm.signExtend 32).toNat .word (s.reg k d)).2 = .fault 1 ∧ (s.dataWrite k (s.reg k a + imm.signExtend 32).toNat .word (s.reg k d)).1.coreOn k = true) ∧
    (∃ (n : Fin 48) (d a : Fin 16) (imm : BitVec 16) (s : State), s.coreOn (.ls n) = true ∧ (s.reg (.ls n) a + imm.signExtend 32).toNat = 0x12008) ∧
    (∃ (k : Core) (d a : Fin 16) (imm : BitVec 16) (x : State × DataRes) (s : State), s.coreOn k = true ∧ (s.reg k a + imm.signExtend 32).toNat % 4 = 0 ∧ x =
      s.dataWrite k (s.reg k a + imm.signExtend 32).toNat .word (s.reg k d) ∧ x.2 = .done ∧ x.1.coreOn k = true) ∧
    (∃ (k : Core) (d a : Fin 16) (imm : BitVec 16) (x : State × DataRes) (s : State), s.coreOn k = true ∧ (s.reg k a + imm.signExtend 32).toNat % 2 = 0 ∧ x =
      s.dataWrite k (s.reg k a + imm.signExtend 32).toNat .half (s.reg k d) ∧ x.2 = .done ∧ x.1.coreOn k = true) ∧
    (∃ (k : Core) (d a : Fin 16) (imm : BitVec 16) (x : State × DataRes) (s : State), s.coreOn k = true ∧ x = s.dataWrite k (s.reg k a + imm.signExtend 32).toNat
      .byte (s.reg k d) ∧ x.2 = .done ∧ x.1.coreOn k = true) ∧
    (∃ (k : Core) (d a : Fin 16) (imm : BitVec 16) (x : State × DataRes) (s : State), s.coreOn k = true ∧ (s.reg k a + imm.signExtend 32).toNat % 4 = 0 ∧ x =
      s.dataWrite k (s.reg k a + imm.signExtend 32).toNat .word (s.reg k d) ∧ x.2 = .done ∧ x.1.coreOn k = true) :=
  ⟨⟨.ls 3, 5, 6, 0, 0x0301C010, litm, by unfold State.Sound; decide⟩,
      ⟨.ls 3, 5, 6, 0, 0x0301C010, litm, by unfold State.Sound; decide⟩,
      ⟨.ls 3, 5, 6, 0, 0x0301C010, litm, by unfold State.Sound; decide⟩,
      ⟨.ls 3, 5, 6, 0, 0x0301C010, litm, by unfold State.Sound; decide⟩,
      ⟨.ls 11, 0, 1, 0, ((lit.setFld (F.LRX_SEQ_STAT_STATE 11) 1).setG 11 1 0x10000#32).put (F.LTX_CTL_SQUELCH 11) true, by decide⟩,
      ⟨3, 2, 1, 0x2008#16, (litm.setG 3 1 0x10000#32).wr (R.LRX_SEQ_EVT 3) 0x80000001#32, by decide⟩,
      ⟨.sup, 1, 6, 0x10#16, (litm.setG 48 6 0x02000000#32).dataWrite .sup 0x02000010 .word 0#32, litm.setG 48 6 0x02000000#32, by decide⟩,
      ⟨.sup, 1, 6, 0x10#16, (litm.setG 48 6 0x02000000#32).dataWrite .sup 0x02000010 .half 0#32, litm.setG 48 6 0x02000000#32, by decide⟩,
      ⟨.sup, 1, 6, 0x10#16, (litm.setG 48 6 0x02000000#32).dataWrite .sup 0x02000010 .byte 0#32, litm.setG 48 6 0x02000000#32, by decide⟩,
      ⟨.sup, 1, 6, 0x10#16, (litm.setG 48 6 0x02000000#32).dataWrite .sup 0x02000010 .word 0#32, litm.setG 48 6 0x02000000#32, by decide⟩⟩

theorem test_meets_LaneExtensionsWorkOnTheLane :
    (∃ (n : Fin 48) (d a : Fin 16) (imm : BitVec 12) (s : State), s.coreOn (.ls n) = true ∧ bitsOf imm.toNat 6 5 = 0) ∧
    (∃ (n : Fin 48) (d a : Fin 16) (imm : BitVec 12) (s : State), s.coreOn (.ls n) = true ∧ imm.toNat < 64) ∧
    (∃ (n : Fin 48) (d a : Fin 16) (imm : BitVec 12) (w lo wd : Nat) (old new : Int) (s : State), s.coreOn (.ls n) = true ∧ w = (s.reg (.ls n) d).toNat + imm.toNat
      % 64 ∧ lo = 8 * bitsOf imm.toNat 6 2 ∧ wd = bitsOf imm.toNat 8 4 + 1 ∧ lo + wd ≤ 32 ∧ old = signedOf wd (bitsOf (s.shadowWord n w).toNat lo wd) ∧ new = clampInt
      (-(2 ^ (wd - 1))) (2 ^ (wd - 1) - 1) (old + (s.reg (.ls n) a).toInt)) ∧
    (∃ (n : Fin 48) (d a : Fin 16) (imm : BitVec 12) (w lo wd old : Nat) (new : Int) (s : State), s.coreOn (.ls n) = true ∧ w = (s.reg (.ls n) d).toNat + imm.toNat
      % 64 ∧ lo = 8 * bitsOf imm.toNat 6 2 ∧ wd = bitsOf imm.toNat 8 4 + 1 ∧ lo + wd ≤ 32 ∧ old = bitsOf (s.shadowWord n w).toNat lo wd ∧ new = clampInt 0 (2 ^ wd -
      1) (old + (s.reg (.ls n) a).toInt)) ∧
    (∃ (n : Fin 48) (d : Fin 16) (grp : Bool) (s : State), s.coreOn (.ls n) = true ∧ s.paused n = false ∧ (grp = true → s.hasGroups n = true)) ∧
    (∃ (n : Fin 48) (d : Fin 16) (grp : Bool) (s : State), s.coreOn (.ls n) = true ∧ (s.paused n = true ∨ grp = true ∧ s.hasGroups n = false)) ∧
    (∃ (n : Fin 48) (imm : BitVec 12) (s : State), s.coreOn (.ls n) = true ∧ (n.val < 8 ∨ 16 ≤ n.val ∧ n.val < 32) ∧ imm.toNat < 64) ∧
    (∃ (n : Fin 48) (d a : Fin 16) (imm : BitVec 12) (i : Nat) (s : State), s.coreOn (.ls n) = true ∧ (n.val < 8 ∨ 16 ≤ n.val ∧ n.val < 32) ∧ imm.toNat < 128 ∧ i =
      (s.reg (.ls n) a + imm.setWidth 32).toNat ∧ i < (if n.val < 8 then 66 else 13)) ∧
    (∃ (n : Fin 48) (d a : Fin 16) (imm : BitVec 12) (s : State), s.coreOn (.ls n) = true ∧ (n.val < 8 ∨ 16 ≤ n.val ∧ n.val < 32) ∧ imm.toNat < 128 ∧ (if n.val < 8
      then 66 else 13) ≤ (s.reg (.ls n) a + imm.setWidth 32).toNat) ∧
    (∃ (n : Fin 48) (d a : Fin 16) (imm : BitVec 12) (b0 bins sum : Nat) (s : State), s.coreOn (.ls n) = true ∧ (n.val < 8 ∧ bins = 256 ∨ 16 ≤ n.val ∧ n.val < 32 ∧
      bins = 64) ∧ imm.toNat < 256 ∧ b0 = (s.reg (.ls n) a).toNat ∧ b0 < bins ∧ sum = ((List.range (min (imm.toNat + 1) (bins - b0))).map fun j => (s.rd (if n.val < 8
      then R.LRX_HIST n (b0 + j) else R.HRX_HIST n (b0 + j))).toNat).sum) ∧
    (∃ (n : Fin 48) (d a : Fin 16) (imm : BitVec 12) (s : State), s.coreOn (.ls n) = true ∧ (n.val < 8 ∨ 16 ≤ n.val ∧ n.val < 32) ∧ imm.toNat < 256 ∧ (if n.val < 8
      then 256 else 64) ≤ (s.reg (.ls n) a).toNat) ∧
    (∃ (n : Fin 48) (imm : BitVec 12) (s : State), s.coreOn (.ls n) = true ∧ (8 ≤ n.val ∧ n.val < 16 ∨ 32 ≤ n.val ∨ 64 ≤ imm.toNat)) ∧
    (∃ (n : Fin 48) (d a : Fin 16) (imm : BitVec 12) (s : State), s.coreOn (.ls n) = true ∧ bitsOf imm.toNat 6 5 ≠ 0) ∧
    (∃ (n : Fin 48) (d a : Fin 16) (imm : BitVec 12) (s : State), s.coreOn (.ls n) = true ∧ 64 ≤ imm.toNat) ∧
    (∃ (n : Fin 48) (d a : Fin 16) (imm : BitVec 12) (s : State), s.coreOn (.ls n) = true ∧ 32 < 8 * bitsOf imm.toNat 6 2 + (bitsOf imm.toNat 8 4 + 1)) ∧
    (∃ (n : Fin 48) (d a : Fin 16) (imm : BitVec 12) (s : State), s.coreOn (.ls n) = true ∧ 32 < 8 * bitsOf imm.toNat 6 2 + (bitsOf imm.toNat 8 4 + 1)) ∧
    (∃ (n : Fin 48) (d a : Fin 16) (imm : BitVec 12) (s : State), s.coreOn (.ls n) = true ∧ (8 ≤ n.val ∧ n.val < 16 ∨ 32 ≤ n.val ∨ 128 ≤ imm.toNat)) ∧
    (∃ (n : Fin 48) (d a : Fin 16) (imm : BitVec 12) (s : State), s.coreOn (.ls n) = true ∧ (8 ≤ n.val ∧ n.val < 16 ∨ 32 ≤ n.val ∨ 256 ≤ imm.toNat)) :=
  ⟨⟨3, 5, 3, 0x803#12, lits.wr (bankAddr 3 false 10) 0x123#32, by decide⟩,
      ⟨3, 2, 3, 3#12, lits, by decide⟩,
      ⟨3, 3, 2, 0x900#12, 7, 0, 10, 0, -512, lits, by decide⟩,
      ⟨3, 3, 4, 0x900#12, 7, 0, 10, 0, 0, lits, by decide⟩,
      ⟨3, 5, false, lits, by decide⟩,
      ⟨3, 5, true, lits, by decide⟩,
      ⟨3, 0x2A#12, lits, by decide⟩,
      ⟨3, 5, 3, 0x2#12, 9, lits.wr (R.LRX_CORR 3 9) 0x80000000#32, by decide⟩,
      ⟨3, 5, 3, 0x42#12, lits, by decide⟩,
      ⟨3, 5, 3, 0x2#12, 7, 256, 12, (lits.wr (R.LRX_HIST 3 7) 5#32).wr (R.LRX_HIST 3 9) 7#32, by decide⟩,
      ⟨3, 5, 2, 0x2#12, lits.setG 3 2 256#32, by decide⟩,
      ⟨11, 5#12, lit.setFld (F.LRX_SEQ_STAT_STATE 11) 1, by decide⟩,
      ⟨3, 5, 3, 0x040#12, lits, by decide⟩,
      ⟨3, 5, 3, 0x040#12, lits, by decide⟩,
      ⟨3, 5, 3, 0x8C0#12, lits, by decide⟩,
      ⟨3, 5, 3, 0x8C0#12, lits, by decide⟩,
      ⟨3, 5, 3, 0x080#12, lits, by decide⟩,
      ⟨3, 5, 3, 0x100#12, lits, by decide⟩⟩

theorem test_meets_EventsAndNoticesOfASequencer :
    (∃ (n : Fin 48) (d a : Fin 16) (imm : BitVec 12) (s : State), s.coreOn (.ls n) = true ∧ (s.rd (R.LRX_SEQ_EVT n) &&& s.reg (.ls n) a ≠ 0#32 ∨ s.reg (.ls n) a =
      0#32 ∧ imm = 0#12)) ∧
    (∃ (n : Fin 48) (d a : Fin 16) (imm : BitVec 12) (s : State), s.coreOn (.ls n) = true ∧ s.rd (R.LRX_SEQ_EVT n) &&& s.reg (.ls n) a = 0#32 ∧ (s.reg (.ls n) a ≠
      0#32 ∨ imm ≠ 0#12)) ∧
    (∃ (n : Fin 48) (d : Fin 16) (mask : Word) (lim at0 : Nat) (s : State), (s.seq n).wait = some ⟨d.val, mask, lim, at0⟩ ∧ s.rd (R.LRX_SEQ_EVT n) &&& mask ≠ 0#32) ∧
    (∃ (n : Fin 48) (d : Fin 16) (mask : Word) (lim at0 : Nat) (s : State), (s.seq n).wait = some ⟨d.val, mask, lim, at0⟩ ∧ lim ≠ 0 ∧ s.rd (R.LRX_SEQ_EVT n) &&&
      mask = 0#32) ∧
    (∃ (n : Fin 48) (s : State), (s.seq n).wait = none ∧ s.IrqRemembered) ∧
    (∃ (n : Fin 48) (d : Nat) (mask : Word) (lim at0 : Nat) (s : State), (s.seq n).wait = some ⟨d, mask, lim, at0⟩ ∧ s.rd (R.LRX_SEQ_EVT n) &&& mask = 0#32 ∧
      s.IrqRemembered) ∧
    (∃ (n : Fin 48) (s : State), (s.seq n).wait = none ∧ s.IrqRemembered) ∧
    (∃ (n : Fin 48) (d : Nat) (mask : Word) (at0 : Nat) (s : State), (s.seq n).wait = some ⟨d, mask, 0, at0⟩ ∧ s.IrqRemembered) ∧
    (∃ (n : Fin 48) (d a : Fin 16) (s : State), s.coreOn (.ls n) = true ∧ (s.chan (8 + n)).q.length < 4) ∧
    (∃ (n : Fin 48) (d a : Fin 16) (s : State), s.coreOn (.ls n) = true ∧ 4 ≤ (s.chan (8 + n)).q.length) ∧
    (∃ (n : Fin 48) (d a : Fin 16) (imm : BitVec 12) (s : State), s.coreOn (.ls n) = true ∧ imm ≠ 0#12) ∧
    (∃ (n : Fin 48) (d a : Fin 16) (lo hi : Word) (rest : List (Word × Word)) (s : State), s.coreOn (.ls n) = true ∧ (d ≠ a ∨ d = 0) ∧ (s.chan (56 + n)).q = (lo,
      hi) :: rest) ∧
    (∃ (n : Fin 48) (d a : Fin 16) (s : State), s.coreOn (.ls n) = true ∧ (d ≠ a ∨ d = 0) ∧ (s.chan (56 + n)).q = []) ∧
    (∃ (n : Fin 48) (d : Fin 16) (s : State), s.coreOn (.ls n) = true ∧ d ≠ 0) :=
  ⟨⟨3, 5, 3, 0#12, lits.wr (R.LRX_SEQ_EVT 3) 6#32, by decide⟩,
      ⟨3, 5, 3, 0#12, lits, by decide⟩,
      ⟨3, 5, 4#32, 0, 0, ((lits.setFld (F.LRX_SEQ_STAT_STATE 3) 2).wr (R.LRX_SEQ_EVT 3) 6#32).setSeq 3 { Seq.init with wait := some ⟨5, 4#32, 0, 0⟩ }, by decide⟩,
      ⟨3, 5, 4#32, 9, 0, (lits.setFld (F.LRX_SEQ_STAT_STATE 3) 2).setSeq 3 { Seq.init with wait := some ⟨5, 4#32, 9, 0⟩ }, by decide⟩,
      ⟨3, lits, by decide⟩,
      ⟨3, 5, 4#32, 9, 0, (lits.setFld (F.LRX_SEQ_STAT_STATE 3) 2).setSeq 3 { Seq.init with wait := some ⟨5, 4#32, 9, 0⟩ }, by decide⟩,
      ⟨3, lits, by decide⟩,
      ⟨3, 5, 4#32, 0, (lits.setFld (F.LRX_SEQ_STAT_STATE 3) 2).setSeq 3 { Seq.init with wait := some ⟨5, 4#32, 0, 0⟩ }, by decide⟩,
      ⟨3, 2, 3, lits, by decide⟩,
      ⟨3, 2, 3, lits.setChan 11 { Chan.init with q := [(0#32, 0#32), (0#32, 0#32), (0#32, 0#32), (0#32, 0#32)] }, by decide⟩,
      ⟨3, 2, 3, 1#12, lits, by decide⟩,
      ⟨3, 2, 3, 5#32, 7#32, [], lits.setChan 59 { Chan.init with q := [(5#32, 7#32)] }, by decide⟩,
      ⟨3, 2, 3, lits, by decide⟩,
      ⟨3, 2, lits, by decide⟩⟩

theorem test_meets_SemaphoresAndNoticesAreTaken :
    (∃ (m : Master) (i : Fin 32) (s : State), s.Reached m (R.MBOX_SEM i) ∧ (if i.val < 16 then m.code = 1 ∨ m.code = 3 else 1 ≤ m.code ∧ m.code ≤ 5) ∧ s.is
      (F.MBOX_SEM_HELD i) = false) ∧
    (∃ (m : Master) (i : Fin 32) (s : State), s.Reached m (R.MBOX_SEM i) ∧ (if i.val < 16 then m.code = 1 ∨ m.code = 3 else 1 ≤ m.code ∧ m.code ≤ 5) ∧ s.is
      (F.MBOX_SEM_HELD i) = true) ∧
    (∃ (m : Master) (i : Fin 32) (s : State), s.Reached m (R.MBOX_SEM i) ∧ ¬ (if i.val < 16 then m.code = 1 ∨ m.code = 3 else 1 ≤ m.code ∧ m.code ≤ 5)) ∧
    (∃ (m : Master) (i : Fin 32) (s : State), s.Reached m (R.MBOX_SEM i) ∧ (m.holder = 1 ∨ s.is (F.MBOX_SEM_HELD i) = true ∧ m.holder = s.fld (F.MBOX_SEM_HOLDER i)
      ∧ (m.holder = 6 → m.secBit = s.is (F.MBOX_SEM_HOLDER_SEC i))) ∧ (m.holder ≠ 1 → m.holder ≠ 6 → s.is (F.MBOX_SEM_HOLDER_SEC i) = false)) ∧
    (∃ (m : Master) (i : Fin 32) (s : State), s.Reached m (R.MBOX_SEM i) ∧ m.holder ≠ 1 ∧ (s.is (F.MBOX_SEM_HELD i) = false ∨ m.holder ≠ s.fld (F.MBOX_SEM_HOLDER i)
      ∨ m.holder = 6 ∧ m.secBit ≠ s.is (F.MBOX_SEM_HOLDER_SEC i))) ∧
    (∃ (m : Master) (i : Fin 32) (v : Word) (s : State), s.Reached m (R.MBOX_SEM i) ∧ bitAt v.toNat 0 = true) ∧
    (∃ (m : Master) (c : Fin 104) (lo hi : Word) (rest : List (Word × Word)) (s : State), s.Reached m (R.MBOX_CH_LO c) ∧ c.val ≠ 6 ∧ c.val ≠ 7 ∧ mayTake m c = true
      ∧ (s.chan c).q = (lo, hi) :: rest) ∧
    (∃ (m : Master) (c : Fin 104) (s : State), s.Reached m (R.MBOX_CH_LO c) ∧ c.val ≠ 6 ∧ c.val ≠ 7 ∧ mayTake m c = true ∧ (s.chan c).q = []) ∧
    (∃ (m : Master) (c : Fin 104) (s : State), s.Reached m (R.MBOX_CH_LO c) ∧ c.val ≠ 6 ∧ c.val ≠ 7 ∧ mayTake m c = false ∧ mayPost m c = true) ∧
    (∃ (m : Master) (c : Fin 104) (s : State), s.Reached m (R.MBOX_CH_LO c) ∧ c.val ≠ 6 ∧ c.val ≠ 7 ∧ mayTake m c = false ∧ mayPost m c = false) ∧
    (∃ (m : Master) (c : Fin 104) (s : State), s.Reached m (R.MBOX_CH_LO c) ∧ (c.val = 6 ∨ c.val = 7)) ∧
    (∃ (m : Master) (c : Fin 104) (s : State), s.Reached m (R.MBOX_CH_HI c) ∧ c.val ≠ 6 ∧ c.val ≠ 7 ∧ (mayTake m c = true ∨ mayPost m c = true)) ∧
    (∃ (m : Master) (n : Fin 48) (v : Word) (s : State), s.Reached m (R.LRX_SEQ_EVT_SET n) ∧ (m.code = 1 ∨ m.code = 3)) ∧
    (∃ (m : Master) (n : Fin 48) (v : Word) (s : State), s.Reached m (R.LRX_SEQ_EVT_SET n) ∧ m.code ≠ 1 ∧ m.code ≠ 3) :=
  ⟨⟨.hostS, 3, lit, by decide⟩,
      ⟨.hostS, 3, lit.wr (R.MBOX_SEM 3) 0x31#32, by decide⟩,
      ⟨.hostNS, 3, lit, by decide⟩,
      ⟨.hostS, 3, lit.wr (R.MBOX_SEM 3) 0x31#32, by decide⟩,
      ⟨.hostNS, 3, lit.wr (R.MBOX_SEM 3) 0x31#32, by decide⟩,
      ⟨.hostNS, 3, 1#32, lit.wr (R.MBOX_SEM 3) 0x31#32, by decide⟩,
      ⟨.hostS, 1, 5#32, 7#32, [], lit.setChan 1 { Chan.init with q := [(5#32, 7#32)] }, by decide⟩,
      ⟨.hostS, 1, lit, by decide⟩,
      ⟨.hostS, 0, lit.setChan 0 { Chan.init with staged := 9#32, q := [(5#32, 7#32)] }, by decide⟩,
      ⟨.hostNS, 1, lit.setChan 1 { Chan.init with q := [(5#32, 7#32)] }, by decide⟩,
      ⟨.hostNS, 6, lit, by decide⟩,
      ⟨.hostS, 1, lit.setChan 1 { Chan.init with latch := 7#32 }, by decide⟩,
      ⟨.hostS, 3, 0x81000001#32, lit, by decide⟩,
      ⟨.hostNS, 3, 0x81000001#32, lit, by decide⟩⟩

theorem test_meets_SequencersAreControlledAndLoaded :
    (∃ (m : Master) (n : Fin 48) (s : State), s.Reached m (R.LRX_SEQ_CTL n) ∧ (m.code = 1 ∨ m.code = 3) ∧ s.seqStopped n = true ∧ s.is (F.LRX_SEQ_STAT_LOADED n) =
      true ∧ s.laneOn n = true ∧ s.oos n = false) ∧
    (∃ (m : Master) (n : Fin 48) (s : State), s.Reached m (R.LRX_SEQ_CTL n) ∧ (m.code = 1 ∨ m.code = 3) ∧ s.seqStopped n = true ∧ (s.is (F.LRX_SEQ_STAT_LOADED n) =
      false ∨ s.laneOn n = false ∨ s.oos n = true)) ∧
    (∃ (m : Master) (n : Fin 48) (s : State), s.Reached m (R.LRX_SEQ_CTL n) ∧ (m.code = 1 ∨ m.code = 3) ∧ s.seqStopped n = false ∧ (s.seq n).cmt = none) ∧
    (∃ (m : Master) (n : Fin 48) (s : State), s.Reached m (R.LRX_SEQ_CTL n) ∧ (m.code = 1 ∨ m.code = 3) ∧ s.fld (F.LRX_SEQ_STAT_STATE n) = 0 ∧ (s.seq n).byReset =
      false ∧ s.is (F.LRX_SEQ_STAT_IMEM_DIRTY n) = false ∧ s.laneOn n = true ∧ s.oos n = false) ∧
    (∃ (m : Master) (n : Fin 48) (s : State), s.Reached m (R.LRX_SEQ_CTL n) ∧ (m.code = 1 ∨ m.code = 3) ∧ s.seqStopped n = false ∧ s.is (F.LRX_SEQ_STAT_SAFE_PEND n)
      = false) ∧
    (∃ (m : Master) (n : Fin 48) (s : State), s.Reached m (R.LRX_SEQ_CTL n) ∧ (m.code = 1 ∨ m.code = 3) ∧ s.seqStopped n = true) ∧
    (∃ (m : Master) (n : Fin 48) (s : State), s.Reached m (R.LRX_SEQ_CTL n) ∧ m.code ≠ 1 ∧ m.code ≠ 3) ∧
    (∃ (m : Master) (n : Fin 48) (s : State), s.Reached m (R.LRX_SEQ_CTL n) ∧ m.code ≠ 1 ∧ m.code ≠ 3) ∧
    (∃ (m : Master) (n : Fin 48) (s : State), s.Reached m (R.LRX_SEQ_CTL n) ∧ m.code ≠ 1 ∧ m.code ≠ 3) ∧
    (∃ (m : Master) (n : Fin 48) (s : State), s.Reached m (R.LRX_SEQ_CTL n) ∧ m.code ≠ 1 ∧ m.code ≠ 3) ∧
    (∃ (m : Master) (n : Fin 48) (s : State), s.Reached m (R.LRX_SEQ_CTL n) ∧ m.code ≠ 1 ∧ m.code ≠ 3) ∧
    (∃ (m : Master) (n : Fin 48) (s : State), s.Reached m (R.LRX_SEQ_CTL n) ∧ (m.code = 1 ∨ m.code = 3) ∧ s.seqStopped n = false) ∧
    (∃ (m : Master) (n : Fin 48) (s : State), s.Reached m (R.LRX_SEQ_CTL n) ∧ (m.code = 1 ∨ m.code = 3) ∧ s.seqStopped n = false) ∧
    (∃ (m : Master) (n : Fin 48) (s : State), s.Reached m (R.LRX_SEQ_CTL n) ∧ (m.code = 1 ∨ m.code = 3) ∧ (s.fld (F.LRX_SEQ_STAT_STATE n) ≠ 0 ∨ (s.seq n).byReset =
      true ∨ s.is (F.LRX_SEQ_STAT_IMEM_DIRTY n) = true ∨ s.laneOn n = false ∨ s.oos n = true)) ∧
    (∃ (m : Master) (n : Fin 48) (s : State), s.Reached m (R.LRX_SEQ_CTL n) ∧ (m.code = 1 ∨ m.code = 3) ∧ s.seqStopped n = true) ∧
    (∃ (m : Master) (n : Fin 48) (s : State), s.Reached m (R.LRX_SEQ_CTL n) ∧ (m.code = 1 ∨ m.code = 3) ∧ (s.seqStopped n = true ∨ s.is (F.LRX_SEQ_STAT_SAFE_PEND n)
      = true)) ∧
    (∃ (m : Master) (n : Fin 48) (d : Fin 16) (grp : Bool) (s : State), s.Reached m (R.LRX_SEQ_CTL n) ∧ (m.code = 1 ∨ m.code = 3) ∧ s.seqStopped n = false ∧ (s.seq
      n).cmt = some (d.val, grp)) ∧
    (∃ (n : Fin 48) (s : State), s.is (F.LRX_SEQ_STAT_SAFE_PEND n) = true ∧ s.seqStopped n = false ∧ (s.seq n).cmt = none) ∧
    (∃ (n : Fin 48) (s : State), s.is (F.LRX_SEQ_STAT_SAFE_PEND n) = false ∧ s.IrqRemembered) ∧
    (∃ (m : Master) (n : Fin 48) (w : Fin 4096) (v : Word) (s : State), m.code = 1 ∧ s.seqStopped n = true ∧ s.memGate (0x03000000 + n * 0x8000 + 4 * w) = none) ∧
    (∃ (m : Master) (n : Fin 48) (w : Fin 4096) (v : Word) (s : State), (m.code ≠ 1 ∨ s.seqStopped n = false) ∧ s.laneOn n = true) ∧
    (∃ (m : Master) (t' : Fin 4) (off : Fin 32768) (z : Size) (v : Word) (s : State), m.code = 1 ∧ (z = .word → off.val % 4 = 0) ∧ (z = .half → off.val % 2 = 0) ∧
      off.val < 0x6000 ∧ (∀ n ∈ lanesOfType t', s.laneOn n = true → s.seqStopped n = true → s.memGate (0x03000000 + n * 0x8000 + off) = none ∧ s.Sound (0x03000000 + n
      * 0x8000 + off))) ∧
    (∃ (m : Master) (t' : Fin 4) (off : Fin 32768) (z : Size) (v : Word) (s : State), (m.code ≠ 1 ∨ 0x6000 ≤ off.val)) ∧
    (∃ (m : Master) (n : Fin 48) (w : Fin 4096) (v : Word) (s : State), s.laneOn n = false) :=
  ⟨⟨.supS, 3, (litc.put (F.LRX_SEQ_STAT_LOADED 3) true).wr (R.LRX_SEQ_ENTRY 3) 0x40#32, by decide⟩,
      ⟨.supS, 3, litc, by decide⟩,
      ⟨.hostS, 3, lits, by decide⟩,
      ⟨.hostS, 3, (litc.wr (R.LRX_SEQ_PC 3) 0x44#32).setSeq 3 { Seq.init with byReset := false }, by decide⟩,
      ⟨.hostS, 3, lits, by decide⟩,
      ⟨.hostS, 3, lit, by decide⟩,
      ⟨.hostNS, 3, lits, by decide⟩,
      ⟨.hostNS, 3, lits, by decide⟩,
      ⟨.hostNS, 3, lits, by decide⟩,
      ⟨.hostNS, 3, lits, by decide⟩,
      ⟨.hostNS, 3, lits, by decide⟩,
      ⟨.hostS, 3, lits, by decide⟩,
      ⟨.hostS, 3, lits, by decide⟩,
      ⟨.hostS, 3, lits, by decide⟩,
      ⟨.hostS, 3, lit, by decide⟩,
      ⟨.hostS, 3, lit, by decide⟩,
      ⟨.hostS, 3, 5, false, lits.setSeq 3 { Seq.init with pc := 0x40#32, cmt := some (5, false) }, by decide⟩,
      ⟨3, lits.put (F.LRX_SEQ_STAT_SAFE_PEND 3) true, by decide⟩,
      ⟨3, lits, by decide⟩,
      ⟨.supS, 3, 5, 0xDEADBEEF#32, lit.put (F.LRX_SEQ_STAT_LOADED 3) true, by decide⟩,
      ⟨.hostS, 3, 5, 0xDEADBEEF#32, lit, by decide⟩,
      ⟨.supS, 0, 0x20, .word, 0xDEADBEEF#32, lits.put (F.LRX_SEQ_STAT_LOADED 4) true, by unfold State.Sound; decide⟩,
      ⟨.hostS, 0, 0x20, .word, 0xDEADBEEF#32, lits, by decide⟩,
      ⟨.supS, 3, 5, 0xDEADBEEF#32, State.reset, by decide⟩⟩

theorem test_meets_MailboxPostsResetsAndInterrupts :
    (∃ (m : Master) (c : Fin 104) (v : Word) (s : State), s.Reached m (R.MBOX_CH_HI c) ∧ c.val ≠ 6 ∧ c.val ≠ 7 ∧ mayPost m c = true ∧ (s.chan c).q.length < 4) ∧
    (∃ (m : Master) (c : Fin 104) (v : Word) (s : State), s.Reached m (R.MBOX_CH_HI c) ∧ c.val ≠ 6 ∧ c.val ≠ 7 ∧ mayPost m c = true ∧ 4 ≤ (s.chan c).q.length) ∧
    (∃ (m : Master) (c : Fin 104) (v : Word) (s : State), s.Reached m (R.MBOX_CH_HI c) ∧ c.val ≠ 6 ∧ c.val ≠ 7 ∧ mayPost m c = false) ∧
    (∃ (m : Master) (c : Fin 104) (v : Word) (s : State), s.Reached m (R.MBOX_CH_HI c) ∧ (c.val = 6 ∨ c.val = 7)) ∧
    (∃ (m : Master) (v : Word) (k : Nat) (s : State), s.Reached m R.MBOX_RESET_DECL ∧ (m.code = 3 ∧ k = 0 ∨ m.code = 4 ∧ k = 1 ∨ m.code = 5 ∧ k = 2) ∧ bitAt v.toNat
      k = true) ∧
    (∃ (m : Master) (v : Word) (s : State), s.Reached m R.MBOX_RESET_DECL ∧ (bitAt v.toNat 0 = true → m.code ≠ 3) ∧ (bitAt v.toNat 1 = true → m.code ≠ 4) ∧ (bitAt
      v.toNat 2 = true → m.code ≠ 5)) ∧
    (∃ (m : Master) (v : Fin 64) (s : State), s.Reached m R.IRQ_HOST_EOI) ∧
    (∃ (v : Fin 64) (s : State), s.msixDue.getLsbD v = true ∧ s.domOn 1 = true ∧ s.isMember = false ∧ s.msixMasked v = false ∧ s.is (F.CLK_GATE_RUN 7) = true) ∧
    (∃ (v : Fin 64) (s : State), s.msixDue.getLsbD v = true ∧ s.domOn 1 = true ∧ s.isMember = false ∧ s.msixMasked v = true) ∧
    (∃ (v : Fin 64) (s : State), (s.msixDue.getLsbD v = false ∨ s.domOn 1 = false ∨ s.isMember = false ∧ s.msixMasked v = false ∧ s.is (F.CLK_GATE_RUN 7) = false) ∧
      s.IrqRemembered) ∧
    (∃ (v : Fin 64) (k : TowPkt) (s : State), s.msixDue.getLsbD v = true ∧ s.domOn 1 = true ∧ s.isMember = true ∧ s.carries 1 = true ∧ s.is
      (F.TOW_PORT_STAT_TX_SLEEP 1) = false ∧ k = plainPkt 6 0 (s.fld F.TOW_ID_ID) 1 v.val) ∧
    (∃ (m : Master) (v : Word) (s : State), s.Reached m R.IRQ_SOFT_SET) ∧
    (∃ (m : Master) (v : Word) (s : State), s.Reached m R.IRQ_SOFT_CLR) :=
  ⟨⟨.hostS, 0, 0x12345678#32, lit, by decide⟩,
      ⟨.hostS, 0, 0#32, lit.setChan 0 { Chan.init with q := [(0#32, 0#32), (0#32, 0#32), (0#32, 0#32), (0#32, 0#32)] }, by decide⟩,
      ⟨.hostNS, 0, 0#32, lit, by decide⟩,
      ⟨.hostNS, 6, 0#32, lit, by decide⟩,
      ⟨.hostS, 1#32, 0, lit.setChan 0 { Chan.init with q := [(0#32, 0#32)] }, by decide⟩,
      ⟨.hostNS, 1#32, lit, by decide⟩,
      ⟨.hostS, 5, lit.wr R.IRQ_HOST_INSERV_LO 0x60#32, by decide⟩,
      ⟨63, { lit with msixDue := 0x8000000000000001#64, pcie := { lit.pcie with table := [(255, 0#32)] } }, by decide⟩,
      ⟨63, { lit with msixDue := 0x8000000000000001#64 }, by decide⟩,
      ⟨5, lit, by decide⟩,
      ⟨63, plainPkt 6 0 5 1 63, { twm with msixDue := 0x8000000000000001#64 }, by decide⟩,
      ⟨.hostS, 5#32, lit, by decide⟩,
      ⟨.hostS, 5#32, lit.wr R.IRQ_SOFT_SET 7#32, by decide⟩⟩

theorem test_meets_PcieReachesTheLocalMap :
    (∃ (off : BitVec 32) (s : State), s.domOn 14 = true ∧ s.is F.PCIE_STAT_D3HOT = false ∧ s.is (F.CLK_GATE_RUN 7) = true ∧ 0x02000000 ≤ off.toNat ∧ off.toNat <
      0x02400000 ∧ off.toNat % 4 = 0 ∧ s.Sound off.toNat) ∧
    (∃ (off : BitVec 32) (n : Nat) (s : State), s.domOn 14 = true ∧ s.is F.PCIE_STAT_D3HOT = false ∧ s.is (F.CLK_GATE_RUN 7) = true ∧ 0x02000000 ≤ off.toNat ∧ 0 < n
      ∧ off.toNat + n ≤ 0x02400000 ∧ (s.memRead (busReader s.barMaster) off.toNat n).2.1 = .done) ∧
    (∃ (off : BitVec 32) (v : Word) (s : State), s.domOn 14 = true ∧ s.is F.PCIE_STAT_D3HOT = false ∧ s.is (F.CLK_GATE_RUN 7) = true ∧ 0x02000000 ≤ off.toNat ∧
      off.toNat < 0x02400000 ∧ off.toNat % 4 = 0 ∧ s.Sound off.toNat) ∧
    (∃ (off : BitVec 32) (v : Word) (s : State), s.domOn 14 = true ∧ s.is F.PCIE_STAT_D3HOT = false ∧ s.is (F.CLK_GATE_RUN 7) = true ∧ 0x02000000 ≤ off.toNat ∧
      off.toNat < 0x02400000 ∧ off.toNat % 4 = 0 ∧ s.Sound off.toNat) ∧
    (∃ (off : BitVec 32) (s : State), s.domOn 14 = true ∧ s.is F.PCIE_STAT_D3HOT = false ∧ s.is (F.CLK_GATE_RUN 7) = true ∧ off.toNat = 0x04000000 ∧ seesBlock
      s.barMaster 0x04000000 = true) ∧
    (∃ (page : Bool) (s : State), s.domOn 14 = true ∧ s.is F.PCIE_STAT_D3HOT = false ∧ s.is (F.CLK_GATE_RUN 7) = true ∧ (page = true ∨ s.is F.PCIE_WORLD_BAR2S_EN =
      true)) ∧
    (∃ (page : Bool) (v : Fin 64) (s : State), s.domOn 14 = true ∧ s.is F.PCIE_STAT_D3HOT = false ∧ s.is (F.CLK_GATE_RUN 7) = true ∧ (page = true ∨ s.is
      F.PCIE_WORLD_BAR2S_EN = true)) ∧
    (∃ (i : Fin 256) (s : State), s.domOn 14 = true ∧ s.is F.PCIE_STAT_D3HOT = false ∧ s.is (F.CLK_GATE_RUN 7) = true) ∧
    (∃ (s : State), s.domOn 14 = true ∧ s.is F.PCIE_STAT_D3HOT = false ∧ s.is (F.CLK_GATE_RUN 7) = true) ∧
    (∃ (i : Fin 256) (v : Word) (s : State), s.domOn 14 = true ∧ s.is F.PCIE_STAT_D3HOT = false ∧ s.is (F.CLK_GATE_RUN 7) = true ∧ (i.val % 4 ≠ 3 ∨ bitAt v.toNat 0
      = true ∨ s.pcie.pba.getLsbD (i.val / 4) = false) ∧ (∀ w : Fin 64, s.msixMasked w = true ∨ s.pcie.pba.getLsbD w = false)) ∧
    (∃ (v : Fin 64) (s : State), s.domOn 14 = true ∧ s.is F.PCIE_STAT_D3HOT = false ∧ s.is (F.CLK_GATE_RUN 7) = true ∧ s.pcie.pba.getLsbD v = true ∧ (∀ w : Fin 64,
      w ≠ v → s.msixMasked w = true ∨ s.pcie.pba.getLsbD w = false)) ∧
    (∃ (bytes : List (BitVec 8)) (be : List Bool) (s : State), s.domOn 14 = true ∧ s.is F.PCIE_STAT_D3HOT = false ∧ s.is (F.CLK_GATE_RUN 7) = true ∧ bytes.length =
      be.length ∧ bytes.length ≤ 8) ∧
    (∃ (off : BitVec 32) (n : Nat) (s : State), s.domOn 14 = true ∧ s.is F.PCIE_STAT_D3HOT = false ∧ s.is (F.CLK_GATE_RUN 7) = true ∧ 0x08000000 ≤ off.toNat) ∧
    (∃ (off : BitVec 32) (bytes : List (BitVec 8)) (be : List Bool) (s : State), s.domOn 14 = true ∧ s.is F.PCIE_STAT_D3HOT = false ∧ s.is (F.CLK_GATE_RUN 7) = true
      ∧ bytes.length = be.length ∧ 0x08000000 ≤ off.toNat) ∧
    (∃ (off : BitVec 32) (n : Nat) (s : State), s.domOn 14 = true ∧ s.is F.PCIE_STAT_D3HOT = false ∧ s.is (F.CLK_GATE_RUN 7) = true ∧ off.toNat < 0x02400000 ∧
      0x02400000 < off.toNat + n ∧ 0x02000000 ≤ off.toNat) ∧
    (∃ (off : BitVec 32) (n : Nat) (s : State), s.domOn 14 = true ∧ s.is F.PCIE_STAT_D3HOT = false ∧ s.is (F.CLK_GATE_RUN 7) = true ∧ blockOf off.toNat = 0x04000 ∧
      (off.toNat % 4 ≠ 0 ∧ off.toNat % 4096 + n ≤ 4096 ∨ n = 1 ∨ n = 2)) ∧
    (∃ (off : BitVec 32) (n : Nat) (s : State), s.domOn 14 = true ∧ s.is F.PCIE_STAT_D3HOT = false ∧ s.is (F.CLK_GATE_RUN 7) = true ∧ (0x4000 ≤ off.toNat ∨ 0x2A04 ≤
      off.toNat ∨ off.toNat < 0x2000 ∧ 0xA04 ≤ off.toNat ∧ s.is F.PCIE_WORLD_BAR2S_EN = true)) ∧
    (∃ (off : BitVec 32) (bytes : List (BitVec 8)) (be : List Bool) (s : State), s.domOn 14 = true ∧ s.is F.PCIE_STAT_D3HOT = false ∧ s.is (F.CLK_GATE_RUN 7) = true
      ∧ bytes.length = be.length ∧ (0x4000 ≤ off.toNat ∨ 0x2A04 ≤ off.toNat ∨ off.toNat < 0x2000 ∧ 0xA04 ≤ off.toNat ∧ s.is F.PCIE_WORLD_BAR2S_EN = true)) ∧
    (∃ (off : BitVec 32) (n : Nat) (s : State), s.domOn 14 = true ∧ s.is F.PCIE_STAT_D3HOT = false ∧ s.is (F.CLK_GATE_RUN 7) = true ∧ off.toNat < 0x2000 ∧ s.is
      F.PCIE_WORLD_BAR2S_EN = false) ∧
    (∃ (off : BitVec 32) (bytes : List (BitVec 8)) (be : List Bool) (s : State), s.domOn 14 = true ∧ s.is F.PCIE_STAT_D3HOT = false ∧ s.is (F.CLK_GATE_RUN 7) = true
      ∧ bytes.length = be.length ∧ off.toNat < 0x2000 ∧ s.is F.PCIE_WORLD_BAR2S_EN = false) ∧
    (∃ (off : BitVec 32) (n : Nat) (s : State), s.domOn 14 = true ∧ s.is F.PCIE_STAT_D3HOT = false ∧ s.is (F.CLK_GATE_RUN 7) = true ∧ 0x2000 ≤ off.toNat ∧ off.toNat
      < 0x2A04 ∧ (off.toNat % 4 ≠ 0 ∨ n ≠ 4)) ∧
    (∃ (off : BitVec 32) (bytes : List (BitVec 8)) (be : List Bool) (s : State), s.domOn 14 = true ∧ s.is F.PCIE_STAT_D3HOT = false ∧ s.is (F.CLK_GATE_RUN 7) = true
      ∧ bytes.length = be.length ∧ 0x2000 ≤ off.toNat ∧ off.toNat < 0x2A04 ∧ (off.toNat % 4 ≠ 0 ∨ be ≠ [true, true, true, true])) ∧
    (∃ (off : BitVec 32) (n : Nat) (s : State), s.domOn 14 = true ∧ s.is F.PCIE_STAT_D3HOT = false ∧ s.is (F.CLK_GATE_RUN 7) = true ∧ (0x3000 ≤ off.toNat ∨ 0x1008 ≤
      off.toNat ∧ off.toNat < 0x2000 ∨ 0x400 ≤ off.toNat ∧ off.toNat < 0x1000)) ∧
    (∃ (off : BitVec 32) (n : Nat) (s : State), s.domOn 14 = true ∧ s.is F.PCIE_STAT_D3HOT = false ∧ s.is (F.CLK_GATE_RUN 7) = true ∧ 0x2000 ≤ off.toNat ∧ off.toNat
      < 0x3000 ∧ (off.toNat % 4 ≠ 0 ∨ n ≠ 4)) ∧
    (∃ (off : BitVec 32) (n : Nat) (s : State), s.domOn 14 = true ∧ s.is F.PCIE_STAT_D3HOT = false ∧ s.is (F.CLK_GATE_RUN 7) = true ∧ off.toNat < 0x400 ∧ 0x400 <
      off.toNat + n) ∧
    (∃ (off : BitVec 32) (bytes : List (BitVec 8)) (be : List Bool) (s : State), s.domOn 14 = true ∧ s.is F.PCIE_STAT_D3HOT = false ∧ s.is (F.CLK_GATE_RUN 7) = true
      ∧ bytes.length = be.length ∧ 0x2000 ≤ off.toNat ∧ off.toNat < 0x3000) ∧
    (∃ (off : BitVec 32) (bytes : List (BitVec 8)) (be : List Bool) (s : State), s.domOn 14 = true ∧ s.is F.PCIE_STAT_D3HOT = false ∧ s.is (F.CLK_GATE_RUN 7) = true
      ∧ bytes.length = be.length ∧ (0x3000 ≤ off.toNat ∨ 0x1008 ≤ off.toNat ∧ off.toNat < 0x2000 ∨ 0x400 ≤ off.toNat ∧ off.toNat < 0x1000)) ∧
    (∃ (bar : Fin 3) (off : BitVec 32) (n : Nat) (s : State), s.domOn 14 = true ∧ s.is F.PCIE_STAT_D3HOT = false ∧ s.is (F.CLK_GATE_RUN 7) = false) ∧
    (∃ (bar : Fin 3) (off : BitVec 32) (bytes : List (BitVec 8)) (be : List Bool) (s : State), s.domOn 14 = true ∧ s.is F.PCIE_STAT_D3HOT = false ∧ s.is
      (F.CLK_GATE_RUN 7) = false ∧ bytes.length = be.length) ∧
    (∃ (bar : Fin 3) (off : BitVec 32) (n : Nat) (s : State), s.domOn 14 = true ∧ s.is F.PCIE_STAT_D3HOT = true) ∧
    (∃ (bar : Fin 3) (off : BitVec 32) (bytes : List (BitVec 8)) (be : List Bool) (s : State), s.domOn 14 = true ∧ s.is F.PCIE_STAT_D3HOT = true ∧ bytes.length =
      be.length) ∧
    (∃ (bar : Fin 3) (off : BitVec 32) (n : Nat) (s : State), s.domOn 14 = false ∧ s.IrqRemembered) ∧
    (∃ (bar : Fin 3) (off : BitVec 32) (bytes : List (BitVec 8)) (be : List Bool) (s : State), s.domOn 14 = false ∧ bytes.length = be.length ∧ s.IrqRemembered) ∧
    (∃ (link : Option (Fin 4 × PcieSet)) (speed width : Fin 8) (s : State), s.domOn 14 = true ∧ (link.isSome = true → 1 ≤ speed.val ∧ speed.val ≤ 5 ∧ (width.val = 1
      ∨ width.val = 2 ∨ width.val = 4))) ∧
    (∃ (link : Option (Fin 4 × PcieSet)) (speed width : Fin 8) (s : State), (s.domOn 14 = false ∨ link.isSome = true ∧ (speed.val < 1 ∨ 5 < speed.val ∨ width.val ≠
      1 ∧ width.val ≠ 2 ∧ width.val ≠ 4)) ∧ s.IrqRemembered) ∧
    (∃ (d3 : Bool) (s : State), s.domOn 14 = true) ∧
    (∃ (d3 : Bool) (s : State), s.domOn 14 = false ∧ s.IrqRemembered) :=
  ⟨⟨0x02000010#32, { lit.put F.MEMX_STAT_FILLED true with mem := [(0x02000011, 7#8)] }, by unfold State.Sound; decide⟩,
      ⟨0x02000010#32, 64, { lit.put F.MEMX_STAT_FILLED true with mem := [(0x02000011, 7#8)] }, by decide⟩,
      ⟨0x02000010#32, 0x12345678#32, { lit.put F.MEMX_STAT_FILLED true with mem := [(0x02000011, 7#8)] }, by unfold State.Sound; decide⟩,
      ⟨0x02000010#32, 0x12345678#32, { lit.put F.MEMX_STAT_FILLED true with mem := [(0x02000011, 7#8)] }, by unfold State.Sound; decide⟩,
      ⟨0x04000000#32, lit, by decide⟩,
      ⟨true, lit.wr (R.MBOX_SEM 31) 0x31#32, by decide⟩,
      ⟨true, 5, lit.wr R.IRQ_HOST_INSERV_LO 0x60#32, by decide⟩,
      ⟨255, lit, by decide⟩,
      ⟨{ lit with pcie := { lit.pcie with pba := 0x8000000000000105#64 } }, by decide⟩,
      ⟨255, 0#32, lit, by decide⟩,
      ⟨63, { lit with pcie := { lit.pcie with pba := 0x8000000000000105#64 } }, by decide⟩,
      ⟨[1#8, 2#8, 3#8, 4#8], [true, true, true, true], lit, by decide⟩,
      ⟨0x08000000#32, 4, lit, by decide⟩,
      ⟨0x08000000#32, [1#8], [true], lit, by decide⟩,
      ⟨0x023FFFFC#32, 8, lit, by decide⟩,
      ⟨0x04000000#32, 2, lit, by decide⟩,
      ⟨0x5000#32, 4, lit, by decide⟩,
      ⟨0x5000#32, [1#8], [true], lit, by decide⟩,
      ⟨0#32, 4, lit.put F.PCIE_WORLD_BAR2S_EN false, by decide⟩,
      ⟨0#32, [1#8], [true], lit.put F.PCIE_WORLD_BAR2S_EN false, by decide⟩,
      ⟨0x2001#32, 4, lit, by decide⟩,
      ⟨0x2001#32, [1#8, 2#8, 3#8, 4#8], [true, true, true, true], lit, by decide⟩,
      ⟨0x3000#32, 4, lit, by decide⟩,
      ⟨0x2001#32, 4, lit, by decide⟩,
      ⟨0x3FC#32, 8, lit, by decide⟩,
      ⟨0x2000#32, [1#8], [true], lit, by decide⟩,
      ⟨0x3000#32, [1#8], [true], lit, by decide⟩,
      ⟨2, 0#32, 4, lit.put (F.CLK_GATE_RUN 7) false, by decide⟩,
      ⟨1, 0#32, [1#8], [true], lit.put (F.CLK_GATE_RUN 7) false, by decide⟩,
      ⟨0, 0#32, 4, lit.put F.PCIE_STAT_D3HOT true, by decide⟩,
      ⟨0, 0#32, [1#8], [true], lit.put F.PCIE_STAT_D3HOT true, by decide⟩,
      ⟨0, 0#32, 4, lit.wr 0x04004000 0#32, by decide⟩,
      ⟨0, 0#32, [], [], lit.wr 0x04004000 0#32, by decide⟩,
      ⟨some (3, { PcieSet.init with payload := 2, timeout := 6 }), 5, 4, lit, by decide⟩,
      ⟨some (3, PcieSet.init), 5, 4, lit.wr 0x04004000 0#32, by decide⟩,
      ⟨true, lit, by decide⟩,
      ⟨true, lit.wr 0x04004000 0#32, by decide⟩⟩

theorem test_meets_DmaChannelsRunTheirDescriptors :
    (∃ (m : Master) (ch : Fin 8) (b : List (BitVec 8)) (s : State), s.Reached m (R.DMA_CH_CTL ch) ∧ m.code ∈ dmaMasters ch ∧ s.fld (F.DMA_CH_STAT_STATE ch) ≠ 1 ∧
      s.is (F.CLK_GATE_RUN 8) = true ∧ dmaLocal (s.fld (F.DMA_CH_DESC_ADDR ch) * 32) 32 = true ∧ s.memRead dmaReader (s.fld (F.DMA_CH_DESC_ADDR ch) * 32) 32 = (s,
      .done, b) ∧ dmaLocal (descOf 0 b).local_ (descOf 0 b).len = true) ∧
    (∃ (m : Master) (ch : Fin 8) (b : List (BitVec 8)) (s : State), s.Reached m (R.DMA_CH_CTL ch) ∧ m.code ∈ dmaMasters ch ∧ s.fld (F.DMA_CH_STAT_STATE ch) ≠ 1 ∧
      s.is (F.CLK_GATE_RUN 8) = true ∧ dmaLocal (s.fld (F.DMA_CH_DESC_ADDR ch) * 32) 32 = true ∧ s.memRead dmaReader (s.fld (F.DMA_CH_DESC_ADDR ch) * 32) 32 = (s,
      .done, b) ∧ dmaLocal (descOf 0 b).local_ (descOf 0 b).len = true ∧ (descOf 0 b).dir = true) ∧
    (∃ (m : Master) (ch : Fin 8) (b : List (BitVec 8)) (s : State), s.Reached m (R.DMA_CH_CTL ch) ∧ m.code ∈ dmaMasters ch ∧ s.fld (F.DMA_CH_STAT_STATE ch) ≠ 1 ∧
      s.is (F.CLK_GATE_RUN 8) = true ∧ dmaLocal (s.fld (F.DMA_CH_DESC_ADDR ch) * 32) 32 = true ∧ s.memRead dmaReader (s.fld (F.DMA_CH_DESC_ADDR ch) * 32) 32 = (s,
      .done, b) ∧ dmaLocal (descOf 0 b).local_ (descOf 0 b).len = true ∧ (descOf 0 b).dir = false ∧ 0 < (descOf 0 b).len ∧ (descOf 0 b).len ≤ s.readMax ∧ (s.dmaChan
      ch).reqs.length < 8 ∧ s.dmaOutstanding < 32) ∧
    (∃ (m : Master) (ch : Fin 8) (s : State), s.Reached m (R.DMA_CH_CTL ch) ∧ m.code ∈ dmaMasters ch ∧ s.fld (F.DMA_CH_STAT_STATE ch) ≠ 1 ∧ s.is (F.CLK_GATE_RUN 8)
      = true ∧ dmaLocal (s.fld (F.DMA_CH_DESC_ADDR ch) * 32) 32 = false) ∧
    (∃ (m : Master) (ch : Fin 8) (b : List (BitVec 8)) (s : State), s.Reached m (R.DMA_CH_CTL ch) ∧ m.code ∈ dmaMasters ch ∧ s.fld (F.DMA_CH_STAT_STATE ch) ≠ 1 ∧
      s.is (F.CLK_GATE_RUN 8) = true ∧ dmaLocal (s.fld (F.DMA_CH_DESC_ADDR ch) * 32) 32 = true ∧ s.memRead dmaReader (s.fld (F.DMA_CH_DESC_ADDR ch) * 32) 32 = (s,
      .done, b) ∧ dmaLocal (descOf 0 b).local_ (descOf 0 b).len = false) ∧
    (∃ (m : Master) (ch : Fin 8) (s : State), s.Reached m (R.DMA_CH_CTL ch) ∧ m.code ∈ dmaMasters ch ∧ s.fld (F.DMA_CH_STAT_STATE ch) ≠ 1 ∧ s.is (F.CLK_GATE_RUN 8)
      = true ∧ dmaLocal (s.fld (F.DMA_CH_DESC_ADDR ch) * 32) 32 = true ∧ (s.memRead dmaReader (s.fld (F.DMA_CH_DESC_ADDR ch) * 32) 32).2.1 = .bad) ∧
    (∃ (m : Master) (ch : Fin 8) (s : State), s.Reached m (R.DMA_CH_CTL ch) ∧ m.code ∈ dmaMasters ch ∧ s.fld (F.DMA_CH_STAT_STATE ch) = 1) ∧
    (∃ (m : Master) (ch : Fin 8) (s : State), s.Reached m (R.DMA_CH_CTL ch) ∧ m.code ∈ dmaMasters ch ∧ s.fld (F.DMA_CH_STAT_STATE ch) ≠ 1 ∧ s.is (F.CLK_GATE_RUN 8)
      = false) ∧
    (∃ (m : Master) (ch : Fin 8) (s : State), s.Reached m (R.DMA_CH_CTL ch) ∧ m.code ∉ dmaMasters ch) ∧
    (∃ (m : Master) (ch : Fin 8) (s : State), s.Reached m (R.DMA_CH_CTL ch) ∧ m.code ∉ dmaMasters ch) ∧
    (∃ (m : Master) (ch : Fin 8) (s : State), s.Reached m (R.DMA_CH_CTL ch) ∧ m.code ∈ dmaMasters ch ∧ s.fld (F.DMA_CH_STAT_STATE ch) ≠ 1) ∧
    (∃ (m : Master) (ch : Fin 8) (s : State), s.Reached m (R.DMA_CH_CTL ch) ∧ m.code ∈ dmaMasters ch ∧ s.fld (F.DMA_CH_STAT_STATE ch) = 1 ∧ dmaLocal (s.dmaChan
      ch).desc 32 = false) ∧
    (∃ (m : Master) (ch : Fin 8) (s : State), s.Reached m (R.DMA_CH_CTL ch) ∧ m.code ∈ dmaMasters ch ∧ s.fld (F.DMA_CH_STAT_STATE ch) = 1 ∧ dmaLocal (s.dmaChan
      ch).desc 32 = true ∧ (s.dmaChan ch).desc % 32 = 0 ∧ s.Sound ((s.dmaChan ch).desc + 20)) ∧
    (∃ (ch : Fin 8) (bytes : List (BitVec 8)) (n : Nat) (rest : List (Bool × Nat)) (s : State), s.dmaRuns ch = true ∧ (s.dmaChan ch).reqs = (true, n) :: rest ∧
      bytes.length = 8 ∧ 8 ≤ n ∧ ((s.dmaChan ch).local_ + (s.dmaChan ch).moved) % 8 = 0 ∧ s.memGate ((s.dmaChan ch).local_ + (s.dmaChan ch).moved) = none ∧ dmaLocal
      ((s.dmaChan ch).local_ + (s.dmaChan ch).moved) 8 = true) ∧
    (∃ (ch : Fin 8) (ok : Bool) (bytes : List (BitVec 8)) (n : Nat) (rest : List (Bool × Nat)) (s : State), s.domOn 14 = true ∧ (s.dmaChan ch).reqs = (false, n) ::
      rest) ∧
    (∃ (ch : Fin 8) (ok : Bool) (bytes : List (BitVec 8)) (s : State), ((s.dmaChan ch).reqs = [] ∨ s.domOn 14 = false)) ∧
    (∃ (ch : Fin 8) (bytes : List (BitVec 8)) (n : Nat) (rest : List (Bool × Nat)) (s : State), s.dmaRuns ch = true ∧ (s.dmaChan ch).reqs = (true, n) :: rest ∧
      dmaLocal (s.dmaChan ch).desc 32 = false) ∧
    (∃ (ch : Fin 8) (n : Nat) (rest : List (Bool × Nat)) (s : State), s.dmaRuns ch = true ∧ (s.dmaChan ch).reqs = (true, n) :: rest ∧ dmaLocal (s.dmaChan ch).desc
      32 = false) ∧
    (∃ (ch : Fin 8) (s : State), (s.dmaChan ch).reqs = [] ∧ s.IrqRemembered) ∧
    (∃ (ch : Fin 8) (n : Nat) (rest : List (Bool × Nat)) (s : State), (s.dmaChan ch).reqs = (false, n) :: rest ∧ s.dmaRuns ch = false) ∧
    (∃ (ch : Fin 8) (s : State), (s.dmaRuns ch = false ∨ (s.dmaChan ch).dir = false ∧ (s.dmaChan ch).moved < (s.dmaChan ch).len) ∧ s.IrqRemembered) ∧
    (∃ (ch : Fin 8) (s : State), s.dmaRuns ch = true ∧ (s.dmaChan ch).dir = false ∧ (s.dmaChan ch).len ≤ (s.dmaChan ch).moved ∧ (s.dmaChan ch).last = true ∧
      dmaLocal (s.dmaChan ch).desc 32 = true ∧ (s.dmaChan ch).desc % 32 = 0 ∧ s.Sound ((s.dmaChan ch).desc + 20)) ∧
    (∃ (ch : Fin 8) (next : Nat) (s : State), s.dmaRuns ch = true ∧ (s.dmaChan ch).dir = false ∧ (s.dmaChan ch).len ≤ (s.dmaChan ch).moved ∧ (s.dmaChan ch).last =
      false ∧ dmaLocal (s.dmaChan ch).desc 32 = true ∧ (s.dmaChan ch).desc % 32 = 0 ∧ s.Sound ((s.dmaChan ch).desc + 20) ∧ next = (s.dmaChan ch).next - (s.dmaChan
      ch).next % 32 ∧ dmaLocal next 32 = false) ∧
    (∃ (ch : Fin 8) (b : List (BitVec 8)) (next : Nat) (s : State), s.dmaRuns ch = true ∧ (s.dmaChan ch).dir = false ∧ (s.dmaChan ch).len ≤ (s.dmaChan ch).moved ∧
      (s.dmaChan ch).last = false ∧ dmaLocal (s.dmaChan ch).desc 32 = false ∧ next = (s.dmaChan ch).next - (s.dmaChan ch).next % 32 ∧ dmaLocal next 32 = true ∧
      s.memRead dmaReader next 32 = (s, .done, b) ∧ dmaLocal (descOf 0 b).local_ (descOf 0 b).len = true) ∧
    (∃ (ch : Fin 8) (n : Nat) (s : State), s.dmaRuns ch = true ∧ (s.dmaChan ch).dir = true ∧ (s.dmaChan ch).last = true ∧ dmaLocal (s.dmaChan ch).desc 32 = true ∧
      (s.dmaChan ch).desc % 32 = 0 ∧ s.Sound ((s.dmaChan ch).desc + 20) ∧ n = (s.dmaChan ch).len - (s.dmaChan ch).moved ∧ 0 < n ∧ n ≤ s.payloadMax ∧ (s.dmaChan
      ch).moved ≤ (s.dmaChan ch).len ∧ s.memRead dmaReader ((s.dmaChan ch).local_ + (s.dmaChan ch).moved) n = (s, .done, s.bytesAt ((s.dmaChan ch).local_ + (s.dmaChan
      ch).moved) n)) ∧
    (∃ (ch : Fin 8) (n : Nat) (s : State), s.dmaRuns ch = true ∧ (s.dmaChan ch).dir = true ∧ dmaLocal (s.dmaChan ch).desc 32 = false ∧ n = (s.dmaChan ch).len -
      (s.dmaChan ch).moved ∧ 0 < n ∧ n ≤ s.payloadMax ∧ (s.memRead dmaReader ((s.dmaChan ch).local_ + (s.dmaChan ch).moved) n).2.1 = .bad) :=
  ⟨⟨.hostS, 3, [8#8, 0#8, 0#8, 0#8, 0#8, 0#8, 0#8, 0#8, 0#8, 0#8, 0#8, 2#8, 64#8, 0#8, 0#8, 2#8, 0#8, 0#8, 0#8, 0#8, 0#8, 0#8, 0#8, 0#8, 0#8, 0#8, 0#8, 0#8, 0#8, 0#8, 0#8, 0#8], { (lit.put F.MEMX_STAT_FILLED true).setFld (F.DMA_CH_DESC_ADDR 3) 0x100000 with mem := [(0x02000000, 8#8), (0x0200000B, 2#8), (0x0200000C, 64#8), (0x0200000F, 2#8)] }, by decide⟩,
      ⟨.hostS, 3, [0#8, 0#8, 0#8, 0#8, 0#8, 0#8, 0#8, 0#8, 0#8, 0#8, 0#8, 2#8, 64#8, 0#8, 0#8, 7#8, 0#8, 0#8, 0#8, 0#8, 0#8, 0#8, 0#8, 0#8, 0#8, 0#8, 0#8, 0#8, 0#8, 0#8, 0#8, 0#8], { (lit.put F.MEMX_STAT_FILLED true).setFld (F.DMA_CH_DESC_ADDR 3) 0x100000 with mem := [(0x0200000B, 2#8), (0x0200000C, 64#8), (0x0200000F, 7#8)] }, by decide⟩,
      ⟨.hostS, 3, [8#8, 0#8, 0#8, 0#8, 0#8, 0#8, 0#8, 0#8, 0#8, 0#8, 0#8, 2#8, 64#8, 0#8, 0#8, 2#8, 0#8, 0#8, 0#8, 0#8, 0#8, 0#8, 0#8, 0#8, 0#8, 0#8, 0#8, 0#8, 0#8, 0#8, 0#8, 0#8], { (lit.put F.MEMX_STAT_FILLED true).setFld (F.DMA_CH_DESC_ADDR 3) 0x100000 with mem := [(0x02000000, 8#8), (0x0200000B, 2#8), (0x0200000C, 64#8), (0x0200000F, 2#8)] }, by decide⟩,
      ⟨.hostNS, 5, lit, by decide⟩,
      ⟨.hostS, 3, [0#8, 0#8, 0#8, 0#8, 0#8, 0#8, 0#8, 0#8, 0#8, 0#8, 0#8, 3#8, 64#8, 0#8, 0#8, 0#8, 0#8, 0#8, 0#8, 0#8, 0#8, 0#8, 0#8, 0#8, 0#8, 0#8, 0#8, 0#8, 0#8, 0#8, 0#8, 0#8], { (lit.put F.MEMX_STAT_FILLED true).setFld (F.DMA_CH_DESC_ADDR 3) 0x100000 with mem := [(0x0200000B, 3#8), (0x0200000C, 64#8)] }, by decide⟩,
      ⟨.hostS, 3, ((lit.put F.MEMX_STAT_FILLED true).setFld (F.DMA_CH_DESC_ADDR 3) 0x100000).poisonWord 0x02000008, by decide⟩,
      ⟨.hostS, 5, lit.setFld (F.DMA_CH_STAT_STATE 5) 1, by decide⟩,
      ⟨.hostS, 5, lit.put (F.CLK_GATE_RUN 8) false, by decide⟩,
      ⟨.hostNS, 3, lit, by decide⟩,
      ⟨.hostNS, 3, lit, by decide⟩,
      ⟨.hostS, 5, lit, by decide⟩,
      ⟨.hostS, 5, lit.setFld (F.DMA_CH_STAT_STATE 5) 1, by decide⟩,
      ⟨.hostS, 5, (((lit.put F.MEMX_STAT_FILLED true).setFld (F.DMA_CH_STAT_STATE 5) 1).setDmaChan 5 { DmaChan.init with desc := 0x02000100, local_ := 0x02000200, len := 64, reqs := [(true, 64)] }), by unfold State.Sound; decide⟩,
      ⟨5, [1#8, 2#8, 3#8, 4#8, 5#8, 6#8, 7#8, 8#8], 64, [], (((lit.put F.MEMX_STAT_FILLED true).setFld (F.DMA_CH_STAT_STATE 5) 1).setDmaChan 5 { DmaChan.init with local_ := 0x02000100, len := 64, asked := 64, reqs := [(true, 64)] }), by decide⟩,
      ⟨5, true, [1#8], 64, [], (lit.setFld (F.DMA_CH_STAT_STATE 5) 2).setDmaChan 5 { DmaChan.init with local_ := 0x02000100, len := 64, asked := 64, reqs := [(false, 64)] }, by decide⟩,
      ⟨5, true, [1#8], lit, by decide⟩,
      ⟨5, [], 64, [], (((lit.put F.MEMX_STAT_FILLED true).setFld (F.DMA_CH_STAT_STATE 5) 1).setDmaChan 5 { DmaChan.init with local_ := 0x02000100, len := 64, asked := 64, reqs := [(true, 64)] }), by decide⟩,
      ⟨5, 64, [], (((lit.put F.MEMX_STAT_FILLED true).setFld (F.DMA_CH_STAT_STATE 5) 1).setDmaChan 5 { DmaChan.init with local_ := 0x02000100, len := 64, asked := 64, reqs := [(true, 64)] }), by decide⟩,
      ⟨5, lit, by decide⟩,
      ⟨5, 64, [], (lit.setFld (F.DMA_CH_STAT_STATE 5) 2).setDmaChan 5 { DmaChan.init with local_ := 0x02000100, len := 64, asked := 64, reqs := [(false, 64)] }, by decide⟩,
      ⟨5, lit, by decide⟩,
      ⟨5, (((lit.put F.MEMX_STAT_FILLED true).setFld (F.DMA_CH_STAT_STATE 5) 1).setDmaChan 5 { DmaChan.init with desc := 0x02000100, last := true, irq := true }), by unfold State.Sound; decide⟩,
      ⟨5, 0, (((lit.put F.MEMX_STAT_FILLED true).setFld (F.DMA_CH_STAT_STATE 5) 1).setDmaChan 5 { DmaChan.init with desc := 0x02000100, irq := true }), by unfold State.Sound; decide⟩,
      ⟨5, [0#8, 0#8, 0#8, 0#8, 0#8, 0#8, 0#8, 0#8, 0#8, 0#8, 0#8, 2#8, 0#8, 0#8, 0#8, 0#8, 0#8, 0#8, 0#8, 0#8, 0#8, 0#8, 0#8, 0#8, 0#8, 0#8, 0#8, 0#8, 0#8, 0#8, 0#8, 0#8], 0x02000140, { (((lit.put F.MEMX_STAT_FILLED true).setFld (F.DMA_CH_STAT_STATE 5) 1).setDmaChan 5 { DmaChan.init with next := 0x02000140 }) with mem := [(0x0200014B, 2#8)] }, by decide⟩,
      ⟨5, 16, { (((lit.put F.MEMX_STAT_FILLED true).setFld (F.DMA_CH_STAT_STATE 5) 1).setDmaChan 5 { DmaChan.init with desc := 0x02000100, host := 0x123456789, local_ := 0x02000200, len := 16, dir := true, last := true }) with mem := [(0x02000201, 7#8)] }, by unfold State.Sound; decide⟩,
      ⟨5, 16, (((lit.put F.MEMX_STAT_FILLED true).setFld (F.DMA_CH_STAT_STATE 5) 1).setDmaChan 5 { DmaChan.init with local_ := 0x02000200, len := 16, dir := true }).poisonWord 0x02000208, by decide⟩⟩

theorem test_meets_SerialPortTransfers :
    (∃ (a v : Word) (s : State), s.domOn 1 = true ∧ s.is (F.CLK_GATE_RUN 6) = true ∧ s.is F.MODE_PERSONA_ACTIVE = false ∧ a.toNat % 4 = 0 ∧ 0x02000000 ≤ a.toNat ∧
      a.toNat < 0x02400000 ∧ s.Sound a.toNat) ∧
    (∃ (ad v w : Word) (s : State), s.domOn 1 = true ∧ s.is (F.CLK_GATE_RUN 6) = true ∧ s.is F.MODE_PERSONA_ACTIVE = false ∧ ad.toNat % 4 = 0 ∧ 0x02000000 ≤
      ad.toNat ∧ ad.toNat < 0x02400000 ∧ s.Sound ad.toNat ∧ ad.toNat + 4 < 0x02400000 ∧ s.Sound (ad.toNat + 4)) ∧
    (∃ (a v : Word) (x : List (BitVec 8)) (s : State), s.domOn 1 = true ∧ s.is (F.CLK_GATE_RUN 6) = true ∧ s.is F.MODE_PERSONA_ACTIVE = false ∧ a.toNat % 4 = 0 ∧
      0x02000000 ≤ a.toNat ∧ a.toNat < 0x02400000 ∧ s.Sound a.toNat ∧ 0 < x.length ∧ x.length < 4) ∧
    (∃ (a : Word) (s : State), s.domOn 1 = true ∧ s.is (F.CLK_GATE_RUN 6) = true ∧ s.is F.MODE_PERSONA_ACTIVE = false ∧ a.toNat % 4 = 0 ∧ a.toNat < 0x08000000 ∧
      s.i3c = false) ∧
    (∃ (a : Word) (s : State), s.domOn 1 = true ∧ s.is (F.CLK_GATE_RUN 6) = true ∧ s.is F.MODE_PERSONA_ACTIVE = false ∧ a.toNat % 4 = 0 ∧ 0x02000000 ≤ a.toNat ∧
      a.toNat < 0x02400000 ∧ s.Sound a.toNat ∧ s.i3c = true) ∧
    (∃ (a : Word) (bytes : List (BitVec 8)) (s : State), s.domOn 1 = true ∧ s.is (F.CLK_GATE_RUN 6) = true ∧ s.is F.MODE_PERSONA_ACTIVE = false ∧ (a.toNat % 4 ≠ 0 ∨
      0x08000000 ≤ a.toNat)) ∧
    (∃ (a v : Word) (s : State), s.domOn 1 = true ∧ s.is (F.CLK_GATE_RUN 6) = true ∧ s.is F.MODE_PERSONA_ACTIVE = false ∧ a.toNat % 4 = 0 ∧ a.toNat < 0x08000000 ∧
      regionOf a.toNat = none) ∧
    (∃ (s : State), s.domOn 1 = true ∧ s.is (F.CLK_GATE_RUN 6) = true ∧ s.is F.MODE_PERSONA_ACTIVE = false ∧ s.smp.ptr % 4 = 0 ∧ 0x02000000 ≤ s.smp.ptr ∧ s.smp.ptr
      < 0x02400000 ∧ s.Sound s.smp.ptr ∧ s.smp.fetch = .none) ∧
    (∃ (s : State), s.domOn 1 = true ∧ s.is (F.CLK_GATE_RUN 6) = true ∧ s.is F.MODE_PERSONA_ACTIVE = false ∧ s.smp.ptr % 4 = 0 ∧ 0x02000000 ≤ s.smp.ptr ∧ s.smp.ptr
      < 0x02400000 ∧ s.Sound s.smp.ptr ∧ s.smp.fetch = .none ∧ s.smp.ptr + 4 < 0x02400000 ∧ s.Sound (s.smp.ptr + 4)) ∧
    (∃ (b : List (BitVec 8)) (s : State), s.domOn 1 = true ∧ s.is (F.CLK_GATE_RUN 6) = true ∧ s.is F.MODE_PERSONA_ACTIVE = false ∧ s.i3c = true ∧ s.smp.fetch =
      .word 0 b) ∧
    (∃ (b : List (BitVec 8)) (n : Nat) (s : State), s.domOn 1 = true ∧ s.is (F.CLK_GATE_RUN 6) = true ∧ s.is F.MODE_PERSONA_ACTIVE = false ∧ s.i3c = true ∧
      s.smp.fetch = .word 0 b ∧ isRegAddr s.smp.ptr = true ∧ 0 < n) ∧
    (∃ (n : Nat) (s : State), s.domOn 1 = true ∧ s.is (F.CLK_GATE_RUN 6) = true ∧ s.is F.MODE_PERSONA_ACTIVE = false ∧ s.i3c = true ∧ (s.smp.fetch = .waiting ∨ n =
      0)) ∧
    (∃ (n c : Nat) (s : State), s.domOn 1 = true ∧ s.is (F.CLK_GATE_RUN 6) = true ∧ s.is F.MODE_PERSONA_ACTIVE = false ∧ s.i3c = true ∧ 0 < n ∧ 0 < c ∧ s.smp.fetch
      = .word c []) ∧
    (∃ (n : Nat) (s : State), s.domOn 1 = true ∧ s.is (F.CLK_GATE_RUN 6) = true ∧ s.is F.MODE_PERSONA_ACTIVE = false ∧ 0 < n ∧ s.smp.fetch = .none ∧ regionOf
      s.smp.ptr = none) ∧
    (∃ (s : State), s.domOn 1 = true ∧ s.is (F.CLK_GATE_RUN 6) = true ∧ s.is F.MODE_PERSONA_ACTIVE = false ∧ s.i3c = false) ∧
    (∃ (n : Nat) (s : State), s.domOn 1 = true ∧ s.is (F.CLK_GATE_RUN 6) = true ∧ s.is F.MODE_PERSONA_ACTIVE = false ∧ s.i3c = false ∧ 16 < n ∧ (s.smpReads true
      16).2 = true) ∧
    (∃ (n : Nat) (s : State), s.domOn 1 = true ∧ s.is (F.CLK_GATE_RUN 6) = true ∧ s.is F.MODE_PERSONA_ACTIVE = true) ∧
    (∃ (a : Word) (bytes : List (BitVec 8)) (s : State), s.domOn 1 = true ∧ s.is (F.CLK_GATE_RUN 6) = true ∧ s.is F.MODE_PERSONA_ACTIVE = true) ∧
    (∃ (ev : BitVec 8) (s : State), s.domOn 1 = true ∧ s.is (F.CLK_GATE_RUN 6) = true ∧ s.i3c = true) ∧
    (∃ (ev : BitVec 8) (s : State), s.domOn 1 = true ∧ s.is (F.CLK_GATE_RUN 6) = true ∧ s.i3c = false) ∧
    (∃ (ev : BitVec 8) (s : State), s.domOn 1 = true ∧ s.is (F.CLK_GATE_RUN 6) = true ∧ s.i3c = true) ∧
    (∃ (ev : BitVec 8) (s : State), s.domOn 1 = true ∧ s.is (F.CLK_GATE_RUN 6) = true ∧ s.i3c = false) ∧
    (∃ (da : BitVec 7) (s : State), s.domOn 1 = true ∧ s.is (F.CLK_GATE_RUN 6) = true ∧ s.i3c = true) ∧
    (∃ (da : BitVec 7) (s : State), s.domOn 1 = true ∧ s.is (F.CLK_GATE_RUN 6) = true ∧ s.i3c = false) ∧
    (∃ (len : BitVec 16) (s : State), s.domOn 1 = true ∧ s.is (F.CLK_GATE_RUN 6) = true ∧ s.i3c = true) ∧
    (∃ (len : BitVec 16) (s : State), s.domOn 1 = true ∧ s.is (F.CLK_GATE_RUN 6) = true ∧ s.i3c = false) ∧
    (∃ (len : BitVec 16) (s : State), s.domOn 1 = true ∧ s.is (F.CLK_GATE_RUN 6) = true ∧ s.i3c = true) ∧
    (∃ (len : BitVec 16) (s : State), s.domOn 1 = true ∧ s.is (F.CLK_GATE_RUN 6) = true ∧ s.i3c = false) ∧
    (∃ (s : State), s.domOn 1 = true ∧ s.is (F.CLK_GATE_RUN 6) = true ∧ s.i3c = true) ∧
    (∃ (s : State), s.domOn 1 = true ∧ s.is (F.CLK_GATE_RUN 6) = true ∧ s.i3c = false) ∧
    (∃ (s : State), s.domOn 1 = true ∧ s.is (F.CLK_GATE_RUN 6) = true ∧ s.i3c = true) ∧
    (∃ (s : State), s.domOn 1 = true ∧ s.is (F.CLK_GATE_RUN 6) = true ∧ s.i3c = false) ∧
    (∃ (s : State), s.domOn 1 = true ∧ s.is (F.CLK_GATE_RUN 6) = true ∧ s.i3c = true) ∧
    (∃ (s : State), s.domOn 1 = true ∧ s.is (F.CLK_GATE_RUN 6) = true ∧ s.i3c = false) ∧
    (∃ (s : State), s.domOn 1 = true ∧ s.is (F.CLK_GATE_RUN 6) = true ∧ s.i3c = true) ∧
    (∃ (s : State), s.domOn 1 = true ∧ s.is (F.CLK_GATE_RUN 6) = true ∧ s.i3c = false) ∧
    (∃ (s : State), s.domOn 1 = true ∧ s.is (F.CLK_GATE_RUN 6) = true ∧ s.i3c = true) ∧
    (∃ (s : State), s.domOn 1 = true ∧ s.is (F.CLK_GATE_RUN 6) = true ∧ s.i3c = false) ∧
    (∃ (s : State), s.domOn 1 = true ∧ s.is (F.CLK_GATE_RUN 6) = true ∧ s.i3c = true) ∧
    (∃ (s : State), s.domOn 1 = true ∧ s.is (F.CLK_GATE_RUN 6) = true ∧ s.i3c = false) ∧
    (∃ (s : State), s.domOn 1 = true ∧ s.is (F.CLK_GATE_RUN 6) = true ∧ s.i3c = true) ∧
    (∃ (s : State), s.domOn 1 = true ∧ s.is (F.CLK_GATE_RUN 6) = true ∧ s.i3c = false) ∧
    (∃ (s : State), s.domOn 1 = true ∧ s.is (F.CLK_GATE_RUN 6) = true) ∧
    (∃ (da : BitVec 7) (s : State), s.domOn 1 = true ∧ s.is (F.CLK_GATE_RUN 6) = true ∧ s.i3c = false ∧ s.is F.SMP_CFG_I3C_EN = true) ∧
    (∃ (da : BitVec 7) (s : State), s.domOn 1 = true ∧ s.is (F.CLK_GATE_RUN 6) = true ∧ (s.i3c = true ∨ s.is F.SMP_CFG_I3C_EN = false)) ∧
    (∃ (da : BitVec 7) (s : State), s.domOn 1 = true ∧ s.is (F.CLK_GATE_RUN 6) = true ∧ s.i3c = false ∧ s.is F.SMP_CFG_I3C_EN = true) ∧
    (∃ (da : BitVec 7) (s : State), s.domOn 1 = true ∧ s.is (F.CLK_GATE_RUN 6) = true ∧ (s.i3c = true ∨ s.is F.SMP_CFG_I3C_EN = false)) ∧
    (∃ (code : BitVec 8) (s : State), s.domOn 1 = true ∧ s.is (F.CLK_GATE_RUN 6) = true) ∧
    (∃ (ev : BitVec 8) (s : State), s.domOn 1 = true ∧ s.is (F.CLK_GATE_RUN 6) = false) ∧
    (∃ (ev : BitVec 8) (s : State), s.domOn 1 = false ∧ s.IrqRemembered) ∧
    (∃ (ev : BitVec 8) (s : State), s.domOn 1 = true ∧ s.is (F.CLK_GATE_RUN 6) = false) ∧
    (∃ (ev : BitVec 8) (s : State), s.domOn 1 = false ∧ s.IrqRemembered) ∧
    (∃ (da : BitVec 7) (s : State), s.domOn 1 = true ∧ s.is (F.CLK_GATE_RUN 6) = false) ∧
    (∃ (da : BitVec 7) (s : State), s.domOn 1 = false ∧ s.IrqRemembered) ∧
    (∃ (len : BitVec 16) (s : State), s.domOn 1 = true ∧ s.is (F.CLK_GATE_RUN 6) = false) ∧
    (∃ (len : BitVec 16) (s : State), s.domOn 1 = false ∧ s.IrqRemembered) ∧
    (∃ (len : BitVec 16) (s : State), s.domOn 1 = true ∧ s.is (F.CLK_GATE_RUN 6) = false) ∧
    (∃ (len : BitVec 16) (s : State), s.domOn 1 = false ∧ s.IrqRemembered) ∧
    (∃ (s : State), s.domOn 1 = true ∧ s.is (F.CLK_GATE_RUN 6) = false) ∧
    (∃ (s : State), s.domOn 1 = false ∧ s.IrqRemembered) ∧
    (∃ (s : State), s.domOn 1 = true ∧ s.is (F.CLK_GATE_RUN 6) = false) ∧
    (∃ (s : State), s.domOn 1 = false ∧ s.IrqRemembered) ∧
    (∃ (s : State), s.domOn 1 = true ∧ s.is (F.CLK_GATE_RUN 6) = false) ∧
    (∃ (s : State), s.domOn 1 = false ∧ s.IrqRemembered) ∧
    (∃ (s : State), s.domOn 1 = true ∧ s.is (F.CLK_GATE_RUN 6) = false) ∧
    (∃ (s : State), s.domOn 1 = false ∧ s.IrqRemembered) ∧
    (∃ (s : State), s.domOn 1 = true ∧ s.is (F.CLK_GATE_RUN 6) = false) ∧
    (∃ (s : State), s.domOn 1 = false ∧ s.IrqRemembered) ∧
    (∃ (s : State), s.domOn 1 = true ∧ s.is (F.CLK_GATE_RUN 6) = false) ∧
    (∃ (s : State), s.domOn 1 = false ∧ s.IrqRemembered) ∧
    (∃ (s : State), s.domOn 1 = true ∧ s.is (F.CLK_GATE_RUN 6) = false) ∧
    (∃ (s : State), s.domOn 1 = false ∧ s.IrqRemembered) ∧
    (∃ (s : State), s.domOn 1 = true ∧ s.is (F.CLK_GATE_RUN 6) = false) ∧
    (∃ (s : State), s.domOn 1 = false ∧ s.IrqRemembered) ∧
    (∃ (da : BitVec 7) (s : State), s.domOn 1 = true ∧ s.is (F.CLK_GATE_RUN 6) = false) ∧
    (∃ (da : BitVec 7) (s : State), s.domOn 1 = false ∧ s.IrqRemembered) ∧
    (∃ (da : BitVec 7) (s : State), s.domOn 1 = true ∧ s.is (F.CLK_GATE_RUN 6) = false) ∧
    (∃ (da : BitVec 7) (s : State), s.domOn 1 = false ∧ s.IrqRemembered) ∧
    (∃ (code : BitVec 8) (s : State), s.domOn 1 = true ∧ s.is (F.CLK_GATE_RUN 6) = false) ∧
    (∃ (code : BitVec 8) (s : State), s.domOn 1 = false ∧ s.IrqRemembered) ∧
    (∃ (n : Nat) (s : State), s.domOn 1 = true ∧ s.is (F.CLK_GATE_RUN 6) = false) ∧
    (∃ (n : Nat) (s : State), s.domOn 1 = false ∧ s.IrqRemembered) ∧
    (∃ (a : Word) (bytes : List (BitVec 8)) (s : State), s.domOn 1 = true ∧ s.is (F.CLK_GATE_RUN 6) = false) ∧
    (∃ (a : Word) (bytes : List (BitVec 8)) (s : State), s.domOn 1 = false ∧ s.IrqRemembered) ∧
    (∃ (idx : BitVec 8) (x : SmpXfer) (s : State), s.domOn 1 = true ∧ s.is (F.CLK_GATE_RUN 6) = false) ∧
    (∃ (idx : BitVec 8) (x : SmpXfer) (s : State), s.domOn 1 = false ∧ s.IrqRemembered) ∧
    (∃ (w : Option Word) (s : State), s.domOn 1 = true ∧ s.is (F.CLK_GATE_RUN 6) = false) ∧
    (∃ (w : Option Word) (s : State), s.domOn 1 = false ∧ s.IrqRemembered) ∧
    (∃ (s : State), s.domOn 1 = true ∧ s.is (F.CLK_GATE_RUN 6) = false) ∧
    (∃ (s : State), s.domOn 1 = false ∧ s.IrqRemembered) ∧
    (∃ (s : State), s.domOn 1 = true ∧ s.is (F.CLK_GATE_RUN 6) = false) ∧
    (∃ (s : State), s.domOn 1 = false ∧ s.IrqRemembered) ∧
    (∃ (i : Nat) (s : State), s.domOn 1 = true ∧ s.is (F.CLK_GATE_RUN 6) = true ∧ s.attention = some i ∧ s.i3c = true ∧ s.is F.SMP_STAT_IBI_EN = true) ∧
    (∃ (s : State), s.domOn 1 = true ∧ s.is (F.CLK_GATE_RUN 6) = true ∧ (s.attention = none ∨ s.i3c = false ∨ s.is F.SMP_STAT_IBI_EN = false)) ∧
    (∃ (s : State), s.dorm.phase = .asleep ∧ s.domOn 0 = true) ∧
    (∃ (s : State), s.dorm.phase = .waking ∧ s.domOn 1 = true) ∧
    (∃ (s : State), s.dorm.phase = .awake ∧ s.IrqRemembered) ∧
    (∃ (idx : BitVec 8) (x : SmpXfer) (s : State), s.domOn 1 = true ∧ s.is (F.CLK_GATE_RUN 6) = true ∧ s.is F.MODE_PERSONA_ACTIVE = true ∧ 0x3F < idx.toNat) ∧
    (∃ (w : Word) (s : State), s.domOn 1 = true ∧ s.is (F.CLK_GATE_RUN 6) = true ∧ s.is F.MODE_PERSONA_ACTIVE = true) ∧
    (∃ (s : State), s.domOn 1 = true ∧ s.is (F.CLK_GATE_RUN 6) = true ∧ s.is F.MODE_PERSONA_ACTIVE = true) ∧
    (∃ (s : State), s.domOn 1 = true ∧ s.is (F.CLK_GATE_RUN 6) = true ∧ s.is F.MODE_PERSONA_ACTIVE = true) ∧
    (∃ (s : State), s.domOn 1 = true ∧ s.is (F.CLK_GATE_RUN 6) = true ∧ s.is F.MODE_PERSONA_ACTIVE = true) ∧
    (∃ (i : Fin 4) (s : State), s.domOn 1 = true ∧ s.is (F.CLK_GATE_RUN 6) = true ∧ s.is F.MODE_PERSONA_ACTIVE = true) ∧
    (∃ (s : State), s.domOn 1 = true ∧ s.is (F.CLK_GATE_RUN 6) = true ∧ s.is F.MODE_PERSONA_ACTIVE = true) ∧
    (∃ (n : Fin 8) (s : State), s.domOn 1 = true ∧ s.is (F.CLK_GATE_RUN 6) = true ∧ s.is F.MODE_PERSONA_ACTIVE = true ∧ s.laneOn n = true) ∧
    (∃ (w v : Word) (s : State), s.domOn 1 = true ∧ s.is (F.CLK_GATE_RUN 6) = true ∧ s.is F.MODE_PERSONA_ACTIVE = true ∧ w.toNat % 4 = 0 ∧ 0x02000000 ≤ w.toNat ∧
      w.toNat < 0x02400000 ∧ s.Sound w.toNat) ∧
    (∃ (idx : BitVec 8) (x : SmpXfer) (s : State), s.domOn 1 = true ∧ s.is (F.CLK_GATE_RUN 6) = true ∧ s.is F.MODE_PERSONA_ACTIVE = false) ∧
    (∃ (w : Option Word) (s : State), s.domOn 1 = true ∧ s.is (F.CLK_GATE_RUN 6) = true ∧ s.is F.MODE_PERSONA_ACTIVE = false) ∧
    (∃ (s : State), s.domOn 1 = true ∧ s.is (F.CLK_GATE_RUN 6) = true ∧ s.is F.MODE_PERSONA_ACTIVE = false) ∧
    (∃ (s : State), s.domOn 1 = true ∧ s.is (F.CLK_GATE_RUN 6) = true ∧ s.is F.MODE_PERSONA_ACTIVE = true ∧ s.smp.indAddr.toNat % 4 = 0 ∧ 0x02000000 ≤
      s.smp.indAddr.toNat ∧ s.smp.indAddr.toNat < 0x02400000 ∧ s.Sound s.smp.indAddr.toNat) ∧
    (∃ (w : Word) (s : State), s.domOn 1 = true ∧ s.is (F.CLK_GATE_RUN 6) = true ∧ s.is F.MODE_PERSONA_ACTIVE = true ∧ s.smp.indAddr.toNat % 4 = 0 ∧ 0x02000000 ≤
      s.smp.indAddr.toNat ∧ s.smp.indAddr.toNat < 0x02400000 ∧ s.Sound s.smp.indAddr.toNat) ∧
    (∃ (s : State), s.domOn 1 = true ∧ s.is (F.CLK_GATE_RUN 6) = true ∧ s.is F.MODE_PERSONA_ACTIVE = true ∧ regionOf s.smp.indAddr.toNat = none) ∧
    (∃ (w : Word) (s : State), s.domOn 1 = true ∧ s.is (F.CLK_GATE_RUN 6) = true ∧ s.is F.MODE_PERSONA_ACTIVE = true ∧ regionOf s.smp.indAddr.toNat = none) ∧
    (∃ (s : State), s.domOn 1 = true ∧ s.is (F.CLK_GATE_RUN 6) = true ∧ s.is F.MODE_PERSONA_ACTIVE = true) :=
  ⟨⟨0x02000010#32, 0x12345678#32, lit.put F.MEMX_STAT_FILLED true, by unfold State.Sound; decide⟩,
      ⟨0x02000010#32, 0x12345678#32, 0x9ABCDEF0#32, lit.put F.MEMX_STAT_FILLED true, by unfold State.Sound; decide⟩,
      ⟨0x02000010#32, 0x12345678#32, [1#8, 2#8, 3#8], lit.put F.MEMX_STAT_FILLED true, by unfold State.Sound; decide⟩,
      ⟨0x02000010#32, lit, by decide⟩,
      ⟨0x02000010#32, { lit.put F.MEMX_STAT_FILLED true with smp := { lit.smp with dyn := some 9#7 } }, by unfold State.Sound; decide⟩,
      ⟨0x02000011#32, [1#8], { lit with smp := { lit.smp with dyn := some 9#7 } }, by decide⟩,
      ⟨0x06000000#32, 5#32, { lit with smp := { lit.smp with dyn := some 9#7 } }, by decide⟩,
      ⟨{ lit.put F.MEMX_STAT_FILLED true with smp := { lit.smp with ptr := 0x02000010 } }, by unfold State.Sound; decide⟩,
      ⟨{ lit.put F.MEMX_STAT_FILLED true with smp := { lit.smp with ptr := 0x02000010 }, mem := [(0x02000011, 7#8), (0x02000015, 9#8)] }, by unfold State.Sound; decide⟩,
      ⟨[1#8, 2#8, 3#8, 4#8], { lit.put F.MEMX_STAT_FILLED true with smp := { lit.smp with dyn := some 9#7, ptr := 0x02000010, fetch := .word 0 [1#8, 2#8, 3#8, 4#8] } }, by decide⟩,
      ⟨[1#8, 2#8, 3#8, 4#8], 16, { lit.put F.MEMX_STAT_FILLED true with smp := { lit.smp with dyn := some 9#7, ptr := 0x04000000, fetch := .word 0 [1#8, 2#8, 3#8, 4#8] } }, by decide⟩,
      ⟨0, { lit with smp := { lit.smp with dyn := some 9#7 } }, by decide⟩,
      ⟨1, 3, { lit.put F.MEMX_STAT_FILLED true with smp := { lit.smp with dyn := some 9#7, fetch := .word 3 [] } }, by decide⟩,
      ⟨2, { lit.put F.MEMX_STAT_FILLED true with smp := { lit.smp with ptr := 0x06000000 } }, by decide⟩,
      ⟨lit, by decide⟩,
      ⟨17, { lit.put F.MEMX_STAT_FILLED true with smp := { lit.smp with ptr := 0x02000000 } }, by decide⟩,
      ⟨1, lit.put F.MODE_PERSONA_ACTIVE true, by decide⟩,
      ⟨1#32, [1#8], lit.put F.MODE_PERSONA_ACTIVE true, by decide⟩,
      ⟨1#8, { lit.put F.SMP_CFG_I3C_EN true with smp := { lit.smp with dyn := some 9#7 } }, by decide⟩,
      ⟨1#8, lit, by decide⟩,
      ⟨1#8, { lit.put F.SMP_CFG_I3C_EN true with smp := { lit.smp with dyn := some 9#7 } }, by decide⟩,
      ⟨1#8, lit, by decide⟩,
      ⟨9#7, { lit.put F.SMP_CFG_I3C_EN true with smp := { lit.smp with dyn := some 9#7 } }, by decide⟩,
      ⟨9#7, lit, by decide⟩,
      ⟨9#16, { lit.put F.SMP_CFG_I3C_EN true with smp := { lit.smp with dyn := some 9#7 } }, by decide⟩,
      ⟨9#16, lit, by decide⟩,
      ⟨9#16, { lit.put F.SMP_CFG_I3C_EN true with smp := { lit.smp with dyn := some 9#7 } }, by decide⟩,
      ⟨9#16, lit, by decide⟩,
      ⟨{ lit.put F.SMP_CFG_I3C_EN true with smp := { lit.smp with dyn := some 9#7 } }, by decide⟩,
      ⟨lit, by decide⟩,
      ⟨{ lit.put F.SMP_CFG_I3C_EN true with smp := { lit.smp with dyn := some 9#7 } }, by decide⟩,
      ⟨lit, by decide⟩,
      ⟨{ lit.put F.SMP_CFG_I3C_EN true with smp := { lit.smp with dyn := some 9#7 } }, by decide⟩,
      ⟨lit, by decide⟩,
      ⟨{ lit.put F.SMP_CFG_I3C_EN true with smp := { lit.smp with dyn := some 9#7 } }, by decide⟩,
      ⟨lit, by decide⟩,
      ⟨{ lit.put F.SMP_CFG_I3C_EN true with smp := { lit.smp with dyn := some 9#7 } }, by decide⟩,
      ⟨lit, by decide⟩,
      ⟨{ lit.put F.SMP_CFG_I3C_EN true with smp := { lit.smp with dyn := some 9#7 } }, by decide⟩,
      ⟨lit, by decide⟩,
      ⟨{ lit.put F.SMP_CFG_I3C_EN true with smp := { lit.smp with dyn := some 9#7 } }, by decide⟩,
      ⟨lit, by decide⟩,
      ⟨{ lit with smp := { lit.smp with dyn := some 9#7 } }, by decide⟩,
      ⟨9#7, lit.put F.SMP_CFG_I3C_EN true, by decide⟩,
      ⟨9#7, { lit with smp := { lit.smp with dyn := some 9#7 } }, by decide⟩,
      ⟨9#7, lit.put F.SMP_CFG_I3C_EN true, by decide⟩,
      ⟨9#7, { lit with smp := { lit.smp with dyn := some 9#7 } }, by decide⟩,
      ⟨5#8, lit, by decide⟩,
      ⟨1#8, lit.put (F.CLK_GATE_RUN 6) false, by decide⟩,
      ⟨1#8, lit.wr 0x04004000 0#32, by decide⟩,
      ⟨1#8, lit.put (F.CLK_GATE_RUN 6) false, by decide⟩,
      ⟨1#8, lit.wr 0x04004000 0#32, by decide⟩,
      ⟨9#7, lit.put (F.CLK_GATE_RUN 6) false, by decide⟩,
      ⟨9#7, lit.wr 0x04004000 0#32, by decide⟩,
      ⟨9#16, lit.put (F.CLK_GATE_RUN 6) false, by decide⟩,
      ⟨9#16, lit.wr 0x04004000 0#32, by decide⟩,
      ⟨9#16, lit.put (F.CLK_GATE_RUN 6) false, by decide⟩,
      ⟨9#16, lit.wr 0x04004000 0#32, by decide⟩,
      ⟨lit.put (F.CLK_GATE_RUN 6) false, by decide⟩,
      ⟨lit.wr 0x04004000 0#32, by decide⟩,
      ⟨lit.put (F.CLK_GATE_RUN 6) false, by decide⟩,
      ⟨lit.wr 0x04004000 0#32, by decide⟩,
      ⟨lit.put (F.CLK_GATE_RUN 6) false, by decide⟩,
      ⟨lit.wr 0x04004000 0#32, by decide⟩,
      ⟨lit.put (F.CLK_GATE_RUN 6) false, by decide⟩,
      ⟨lit.wr 0x04004000 0#32, by decide⟩,
      ⟨lit.put (F.CLK_GATE_RUN 6) false, by decide⟩,
      ⟨lit.wr 0x04004000 0#32, by decide⟩,
      ⟨lit.put (F.CLK_GATE_RUN 6) false, by decide⟩,
      ⟨lit.wr 0x04004000 0#32, by decide⟩,
      ⟨lit.put (F.CLK_GATE_RUN 6) false, by decide⟩,
      ⟨lit.wr 0x04004000 0#32, by decide⟩,
      ⟨lit.put (F.CLK_GATE_RUN 6) false, by decide⟩,
      ⟨lit.wr 0x04004000 0#32, by decide⟩,
      ⟨9#7, lit.put (F.CLK_GATE_RUN 6) false, by decide⟩,
      ⟨9#7, lit.wr 0x04004000 0#32, by decide⟩,
      ⟨9#7, lit.put (F.CLK_GATE_RUN 6) false, by decide⟩,
      ⟨9#7, lit.wr 0x04004000 0#32, by decide⟩,
      ⟨5#8, lit.put (F.CLK_GATE_RUN 6) false, by decide⟩,
      ⟨5#8, lit.wr 0x04004000 0#32, by decide⟩,
      ⟨1, lit.put (F.CLK_GATE_RUN 6) false, by decide⟩,
      ⟨1, lit.wr 0x04004000 0#32, by decide⟩,
      ⟨1#32, [], lit.put (F.CLK_GATE_RUN 6) false, by decide⟩,
      ⟨1#32, [], lit.wr 0x04004000 0#32, by decide⟩,
      ⟨5#8, .read 1, lit.put (F.CLK_GATE_RUN 6) false, by decide⟩,
      ⟨5#8, .read 1, lit.wr 0x04004000 0#32, by decide⟩,
      ⟨none, lit.put (F.CLK_GATE_RUN 6) false, by decide⟩,
      ⟨none, lit.wr 0x04004000 0#32, by decide⟩,
      ⟨lit.put (F.CLK_GATE_RUN 6) false, by decide⟩,
      ⟨lit.wr 0x04004000 0#32, by decide⟩,
      ⟨lit.put (F.CLK_GATE_RUN 6) false, by decide⟩,
      ⟨lit.wr 0x04004000 0#32, by decide⟩,
      ⟨63, { ((lit.wr R.IRQ_SOFT_SET 1#32).wr R.IRQ_SMP_EN_HI 0x80000000#32).put F.SMP_STAT_IBI_EN true with smp := { lit.smp with dyn := some 9#7 } }, by decide⟩,
      ⟨lit, by decide⟩,
      ⟨{ lit.wr 0x04004000 1#32 with dorm := { lit.dorm with phase := .asleep } }, by decide⟩,
      ⟨{ lit with dorm := { lit.dorm with phase := .waking } }, by decide⟩,
      ⟨lit, by decide⟩,
      ⟨0x40#8, .read 1, lit.put F.MODE_PERSONA_ACTIVE true, by decide⟩,
      ⟨0x02000010#32, lit.put F.MODE_PERSONA_ACTIVE true, by decide⟩,
      ⟨{ lit.put F.MODE_PERSONA_ACTIVE true with smp := { lit.smp with indAddr := 7#32 } }, by decide⟩,
      ⟨{ lit.put F.MODE_PERSONA_ACTIVE true with smp := { lit.smp with indStat := true } }, by decide⟩,
      ⟨lit.put F.MODE_PERSONA_ACTIVE true, by decide⟩,
      ⟨0, lit.put F.MODE_PERSONA_ACTIVE true, by decide⟩,
      ⟨((lit.wr R.IRQ_SOFT_SET 1#32).wr R.IRQ_SMP_EN_HI 0x80000000#32).put F.MODE_PERSONA_ACTIVE true, by decide⟩,
      ⟨7, (lit.put F.MODE_PERSONA_ACTIVE true).setFld (F.LRX_STATUS_ACQ_STATE 7) 3, by decide⟩,
      ⟨0x02000010#32, 9#32, (lit.put F.MEMX_STAT_FILLED true).put F.MODE_PERSONA_ACTIVE true, by unfold State.Sound; decide⟩,
      ⟨0x3C#8, .write [1#32], lit, by decide⟩,
      ⟨none, lit, by decide⟩,
      ⟨lit, by decide⟩,
      ⟨{ (lit.put F.MEMX_STAT_FILLED true).put F.MODE_PERSONA_ACTIVE true with smp := { lit.smp with indAddr := 0x02000010#32 }, mem := [(0x02000011, 7#8)] }, by unfold State.Sound; decide⟩,
      ⟨0x12345678#32, { (lit.put F.MEMX_STAT_FILLED true).put F.MODE_PERSONA_ACTIVE true with smp := { lit.smp with indAddr := 0x02000010#32 } }, by unfold State.Sound; decide⟩,
      ⟨{ (lit.put F.MEMX_STAT_FILLED true).put F.MODE_PERSONA_ACTIVE true with smp := { lit.smp with indAddr := 0x06000000#32 } }, by decide⟩,
      ⟨1#32, { (lit.put F.MEMX_STAT_FILLED true).put F.MODE_PERSONA_ACTIVE true with smp := { lit.smp with indAddr := 0x06000000#32 } }, by decide⟩,
      ⟨{ lit.put F.MODE_PERSONA_ACTIVE true with smp := { lit.smp with indStat := true } }, by decide⟩⟩

theorem test_meets_TowpathPortsComeUpAndSleep :
    (∃ (p : Fin 2) (s : State), s.towOn = true ∧ s.is (F.TOW_PORT_CTL_TEST p) = false ∧ s.is (F.TOW_PORT_STAT_TX_SLEEP p) = false ∧ s.is (F.CLK_GATE_RUN (1 + p)) =
      true ∧ (s.port p).due = false) ∧
    (∃ (p : Fin 2) (s : State), s.towOn = true ∧ s.is (F.TOW_PORT_CTL_TEST p) = false ∧ s.is (F.TOW_PORT_STAT_TX_SLEEP p) = false ∧ s.is (F.CLK_GATE_RUN (1 + p)) =
      true ∧ (s.port p).due = true) ∧
    (∃ (p : Fin 2) (s : State), (s.towOn = false ∨ s.is (F.TOW_PORT_CTL_TEST p) = false ∧ (s.is (F.TOW_PORT_STAT_TX_SLEEP p) = true ∨ s.is (F.CLK_GATE_RUN (1 + p))
      = false) ∨ s.is (F.TOW_PORT_CTL_TEST p) = true ∧ s.fld (F.TOW_PORT_CTL_PRBS p) = 0) ∧ s.IrqRemembered) ∧
    (∃ (p : Fin 2) (n : Nat) (s : State), s.towOn = true ∧ s.is (F.TOW_PORT_CTL_TEST p) = true ∧ n = [0, 7, 15, 31].getD (s.fld (F.TOW_PORT_CTL_PRBS p)) 0 ∧ n ≠ 0 ∧
      (s.port p).prbs ≠ 0 ∧ (s.port p).inject = false) ∧
    (∃ (p : Fin 2) (d : BitVec 8) (s : State), s.portHears p = true) ∧
    (∃ (p : Fin 2) (d : BitVec 8) (s : State), s.portHears p = false ∧ s.IrqRemembered) ∧
    (∃ (p : Fin 2) (s : State), s.towOn = true ∧ (s.port p).trying = true ∧ 8 ≤ (s.port p).good) ∧
    (∃ (p : Fin 2) (s : State), (s.towOn = false ∨ (s.port p).trying = false ∨ (s.port p).good < 8) ∧ s.IrqRemembered) ∧
    (∃ (p : Fin 2) (s : State), s.towOn = true ∧ (s.port p).trying = true ∧ 0 < s.fld (F.TOW_PORT_STAT_SPEED p)) ∧
    (∃ (p : Fin 2) (s : State), (s.towOn = false ∨ (s.port p).trying = false) ∧ s.IrqRemembered) ∧
    (∃ (p : Fin 2) (s : State), s.towOn = true ∧ s.is (F.CLK_GATE_RUN (1 + p)) = true ∧ s.is (F.TOW_PORT_STAT_UP p) = false ∧ (s.isHead = false ∨ s.fld F.TOW_STAT_N
      = 0) ∧ s.isMember = false) ∧
    (∃ (p : Fin 2) (k : TowPkt) (s : State), s.towOn = true ∧ s.is (F.CLK_GATE_RUN (1 + p)) = true ∧ s.is (F.TOW_PORT_STAT_UP p) = false ∧ s.isMember = true ∧ s.is
      (F.TOW_PORT_CTL_TEST p) = false ∧ s.carries (1 - p.val) = true ∧ s.is (F.TOW_PORT_STAT_TX_SLEEP (1 - p.val)) = false ∧ k = plainPkt 6 0 (s.fld F.TOW_ID_ID) 3
      p.val) ∧
    (∃ (p : Fin 2) (s : State), (s.towOn = false ∨ s.is (F.TOW_PORT_STAT_UP p) = true ∨ s.is (F.CLK_GATE_RUN (1 + p)) = false) ∧ s.IrqRemembered) ∧
    (∃ (p : Fin 2) (s : State), s.towOn = true ∧ s.is (F.TOW_PORT_STAT_RX_SLEEP p) = false ∧ (s.isHead = false ∨ s.fld F.TOW_STAT_N = 0) ∧ s.isMember = false) ∧
    (∃ (p : Fin 2) (k : TowPkt) (s : State), s.towOn = true ∧ s.is (F.TOW_PORT_STAT_RX_SLEEP p) = false ∧ s.carries p = true ∧ s.isMember = true ∧ s.is
      (F.TOW_PORT_CTL_TEST p) = false ∧ s.carries (1 - p.val) = true ∧ s.is (F.TOW_PORT_STAT_TX_SLEEP (1 - p.val)) = false ∧ k = plainPkt 6 0 (s.fld F.TOW_ID_ID) 2
      p.val) ∧
    (∃ (p : Fin 2) (n : Nat) (s : State), s.is (F.TOW_PORT_STAT_RX_SLEEP p) = false ∧ s.isHead = true ∧ n = s.fld F.TOW_STAT_N ∧ 2 ≤ n ∧ n < 64 ∧ s.tow.openEnd =
      false ∧ s.tow.breaks = [] ∧ s.carries 0 = true ∧ s.carries 1 = true) ∧
    (∃ (p : Fin 2) (s : State), (s.towOn = false ∨ s.is (F.TOW_PORT_STAT_RX_SLEEP p) = true) ∧ s.IrqRemembered) ∧
    (∃ (p : Fin 2) (s : State), s.carries p = true ∧ s.is (F.TOW_PORT_CTL_SLEEP_EN p) = true ∧ (s.port p).sleepOk = true ∧ s.is (F.TOW_PORT_STAT_TX_SLEEP p) =
      false) ∧
    (∃ (p : Fin 2) (s : State), (s.carries p = false ∨ s.is (F.TOW_PORT_CTL_SLEEP_EN p) = false ∨ (s.port p).sleepOk = false ∨ s.is (F.TOW_PORT_STAT_TX_SLEEP p) =
      true) ∧ s.IrqRemembered) ∧
    (∃ (p : Fin 2) (s : State), s.towOn = true ∧ s.is (F.TOW_PORT_STAT_TX_SLEEP p) = true) ∧
    (∃ (p : Fin 2) (s : State), (s.towOn = false ∨ s.is (F.TOW_PORT_STAT_TX_SLEEP p) = false) ∧ s.IrqRemembered) ∧
    (∃ (p : Fin 2) (s : State), s.towOn = true) ∧
    (∃ (p : Fin 2) (s : State), s.towOn = false ∧ s.IrqRemembered) ∧
    (∃ (p : Fin 2) (s : State), s.hears p = true) ∧
    (∃ (p : Fin 2) (s : State), s.hears p = false ∧ s.IrqRemembered) :=
  ⟨⟨1, tw, by decide⟩,
      ⟨1, tw.setPort 1 { Port.init with due := true }, by decide⟩,
      ⟨1, lit.wr 0x04004000 0#32, by decide⟩,
      ⟨1, 7, (tw.put (F.TOW_PORT_CTL_TEST 1) true |>.setFld (F.TOW_PORT_CTL_PRBS 1) 1).setPort 1 { Port.init with prbs := 5 }, by decide⟩,
      ⟨1, 0x06#8, (tw.setFld F.TOW_CFG_MAX_SPEED 2 |>.put F.CLK_SRC_SEL true).setPort 1 { Port.init with good := 7 }, by decide⟩,
      ⟨1, 6#8, lit.wr 0x04004000 0#32, by decide⟩,
      ⟨1, tw.setPort 1 { Port.init with trying := true, good := 8 }, by decide⟩,
      ⟨1, tw, by decide⟩,
      ⟨1, (tw.setPort 1 { Port.init with trying := true }).setFld (F.TOW_PORT_STAT_SPEED 1) 1, by decide⟩,
      ⟨1, tw, by decide⟩,
      ⟨1, lit, by decide⟩,
      ⟨1, plainPkt 6 0 5 3 1, twm.put (F.TOW_PORT_STAT_UP 1) false, by decide⟩,
      ⟨1, tw, by decide⟩,
      ⟨1, tw, by decide⟩,
      ⟨1, plainPkt 6 0 5 2 1, twm, by decide⟩,
      ⟨1, 3, twh, by decide⟩,
      ⟨1, tw.put (F.TOW_PORT_STAT_RX_SLEEP 1) true, by decide⟩,
      ⟨1, (tw.setPort 1 { Port.init with sleepOk := true }).put (F.TOW_PORT_CTL_SLEEP_EN 1) true, by decide⟩,
      ⟨1, tw, by decide⟩,
      ⟨1, tw.put (F.TOW_PORT_STAT_TX_SLEEP 1) true, by decide⟩,
      ⟨1, tw, by decide⟩,
      ⟨1, tw.put (F.TOW_PORT_STAT_RX_SLEEP 1) true, by decide⟩,
      ⟨1, lit.wr 0x04004000 0#32, by decide⟩,
      ⟨1, tw, by decide⟩,
      ⟨1, lit, by decide⟩⟩

theorem test_meets_TowpathPacketsAreRoutedAndAnswered :
    (∃ (p : Fin 2) (k r : TowPkt) (s : State), s.hears p = true ∧ s.is F.TOW_CTL_HEAD = false ∧ s.is F.TOW_ID_VALID = true ∧ k.dst % 64 = s.fld F.TOW_ID_ID ∧ k.len
      = 4 ∧ k.addr % 4 = 0 ∧ 0x02000000 ≤ k.addr ∧ k.addr < 0x02400000 ∧ s.Sound k.addr ∧ s.is (F.TOW_PORT_STAT_TX_SLEEP p) = false ∧ r =
      { typ := 3, dst := k.src % 64, src := s.fld F.TOW_ID_ID, hops := 63, sec := k.sec, tag := k.tag, len := 4, addr := 0, stat := 0, data := s.bytesAt k.addr 4 }) ∧
    (∃ (p : Fin 2) (k r : TowPkt) (s : State), s.hears p = true ∧ s.is F.TOW_CTL_HEAD = false ∧ s.is F.TOW_ID_VALID = true ∧ k.dst % 64 = s.fld F.TOW_ID_ID ∧ k.len
      % 4 = 0 ∧ 0 < k.len ∧ k.len ≤ 64 ∧ 0x02000000 ≤ k.addr ∧ k.addr + k.len ≤ 0x02400000 ∧ (s.memRead (busReader (.tow k.sec)) k.addr k.len).2.1 = .done ∧ s.is
      (F.TOW_PORT_STAT_TX_SLEEP p) = false ∧ r =
      { typ := 3, dst := k.src % 64, src := s.fld F.TOW_ID_ID, hops := 63, sec := k.sec, tag := k.tag, len := k.len, addr := 0, stat := 0, data := (s.memRead (busReader (.tow k.sec)) k.addr k.len).2.2 }) ∧
    (∃ (p : Fin 2) (k r : TowPkt) (s : State), s.hears p = true ∧ s.is F.TOW_CTL_HEAD = false ∧ s.is F.TOW_ID_VALID = true ∧ k.dst % 64 = s.fld F.TOW_ID_ID ∧ (k.len
      % 4 ≠ 0 ∨ 64 < k.len) ∧ s.is (F.TOW_PORT_STAT_TX_SLEEP p) = false ∧ r =
      { typ := 3, dst := k.src % 64, src := s.fld F.TOW_ID_ID, hops := 63, sec := k.sec, tag := k.tag, len := 0, addr := 0, stat := 1, data := [] }) ∧
    (∃ (p : Fin 2) (k r : TowPkt) (s : State), s.hears p = true ∧ s.is F.TOW_CTL_HEAD = false ∧ s.is F.TOW_ID_VALID = true ∧ k.dst % 64 = s.fld F.TOW_ID_ID ∧ k.len
      % 4 = 0 ∧ k.len ≤ 64 ∧ regionOf k.addr = none ∧ s.is (F.TOW_PORT_STAT_TX_SLEEP p) = false ∧ r =
      { typ := 3, dst := k.src % 64, src := s.fld F.TOW_ID_ID, hops := 63, sec := k.sec, tag := k.tag, len := 0, addr := 0, stat := 3, data := [] }) ∧
    (∃ (p : Fin 2) (k r : TowPkt) (v : Word) (s : State), s.hears p = true ∧ s.is F.TOW_CTL_HEAD = false ∧ s.is F.TOW_ID_VALID = true ∧ k.dst % 64 = s.fld
      F.TOW_ID_ID ∧ k.data = leBytes 4 v.toNat ∧ k.addr % 4 = 0 ∧ 0x02000000 ≤ k.addr ∧ k.addr < 0x02400000 ∧ s.Sound k.addr ∧ s.is (F.TOW_PORT_STAT_TX_SLEEP p) =
      false ∧ r = { typ := 4, dst := k.src % 64, src := s.fld F.TOW_ID_ID, hops := 63, sec := k.sec, tag := k.tag, len := 0, addr := 0, stat := 0, data := [] }) ∧
    (∃ (p : Fin 2) (k r : TowPkt) (s : State), s.hears p = true ∧ s.is F.TOW_CTL_HEAD = false ∧ s.is F.TOW_ID_VALID = true ∧ k.dst % 64 = s.fld F.TOW_ID_ID ∧
      (k.data.length % 4 ≠ 0 ∨ 64 < k.data.length) ∧ s.is (F.TOW_PORT_STAT_TX_SLEEP p) = false ∧ r =
      { typ := 4, dst := k.src % 64, src := s.fld F.TOW_ID_ID, hops := 63, sec := k.sec, tag := k.tag, len := 0, addr := 0, stat := 1, data := [] }) ∧
    (∃ (p : Fin 2) (k r : TowPkt) (s : State), s.hears p = true ∧ s.is F.TOW_CTL_HEAD = false ∧ s.is F.TOW_ID_VALID = true ∧ k.dst % 64 = s.fld F.TOW_ID_ID ∧
      k.data.length % 4 = 0 ∧ k.data.length ≤ 64 ∧ regionOf k.addr = none ∧ s.is (F.TOW_PORT_STAT_TX_SLEEP p) = false ∧ r =
      { typ := 4, dst := k.src % 64, src := s.fld F.TOW_ID_ID, hops := 63, sec := k.sec, tag := k.tag, len := 0, addr := 0, stat := 3, data := [] }) ∧
    (∃ (p : Fin 2) (k r : TowPkt) (s : State), s.hears p = true ∧ s.is F.TOW_CTL_HEAD = false ∧ s.carries (1 - p.val) = true ∧ 0 < k.hops ∧ s.is
      (F.TOW_PORT_STAT_TX_SLEEP (1 - p.val)) = false ∧ (s.is F.TOW_ID_VALID = false ∨ k.dst % 64 ≠ s.fld F.TOW_ID_ID) ∧ r = { k with typ := 1, hops := k.hops - 1 }) ∧
    (∃ (p : Fin 2) (k : TowPkt) (s : State), (s.hears p = false ∨ s.is F.TOW_CTL_HEAD = false ∧ k.hops = 0 ∧ (s.is F.TOW_ID_VALID = false ∨ k.dst % 64 ≠ s.fld
      F.TOW_ID_ID) ∨ s.is F.TOW_CTL_HEAD = true)) ∧
    (∃ (p : Fin 2) (k r : TowPkt) (s : State), s.hears p = true ∧ s.is F.TOW_CTL_HEAD = false ∧ s.carries (1 - p.val) = true ∧ 0 < k.hops ∧ s.is
      (F.TOW_PORT_STAT_TX_SLEEP (1 - p.val)) = false ∧ (s.is F.TOW_ID_VALID = false ∨ k.dst % 64 ≠ s.fld F.TOW_ID_ID) ∧ r = { k with typ := 2, hops := k.hops - 1 }) ∧
    (∃ (p : Fin 2) (k : TowPkt) (s : State), (s.hears p = false ∨ s.is F.TOW_CTL_HEAD = false ∧ k.hops = 0 ∧ (s.is F.TOW_ID_VALID = false ∨ k.dst % 64 ≠ s.fld
      F.TOW_ID_ID) ∨ s.is F.TOW_CTL_HEAD = true)) ∧
    (∃ (p : Fin 2) (k r : TowPkt) (s : State), s.hears p = true ∧ s.is F.TOW_CTL_HEAD = false ∧ s.carries (1 - p.val) = true ∧ 0 < k.hops ∧ s.is
      (F.TOW_PORT_STAT_TX_SLEEP (1 - p.val)) = false ∧ r = { k with typ := 3, hops := k.hops - 1 }) ∧
    (∃ (p : Fin 2) (k : TowPkt) (s : State), (s.hears p = false ∨ s.is F.TOW_CTL_HEAD = false ∧ k.hops = 0 ∨ s.is F.TOW_CTL_HEAD = true ∧ k.dst ≠ 0)) ∧
    (∃ (p : Fin 2) (k r : TowPkt) (s : State), s.hears p = true ∧ s.is F.TOW_CTL_HEAD = false ∧ s.carries (1 - p.val) = true ∧ 0 < k.hops ∧ s.is
      (F.TOW_PORT_STAT_TX_SLEEP (1 - p.val)) = false ∧ r = { k with typ := 4, hops := k.hops - 1 }) ∧
    (∃ (p : Fin 2) (k : TowPkt) (s : State), (s.hears p = false ∨ s.is F.TOW_CTL_HEAD = false ∧ k.hops = 0 ∨ s.is F.TOW_CTL_HEAD = true ∧ k.dst ≠ 0)) ∧
    (∃ (p : Fin 2) (k r : TowPkt) (s : State), s.hears p = true ∧ s.is F.TOW_CTL_HEAD = false ∧ s.carries (1 - p.val) = true ∧ 0 < k.hops ∧ s.is
      (F.TOW_PORT_STAT_TX_SLEEP (1 - p.val)) = false ∧ r = { k with typ := 6, hops := k.hops - 1 }) ∧
    (∃ (p : Fin 2) (k : TowPkt) (s : State), (s.hears p = false ∨ s.is F.TOW_CTL_HEAD = false ∧ k.hops = 0 ∨ s.is F.TOW_CTL_HEAD = true ∧ k.dst ≠ 0)) ∧
    (∃ (p : Fin 2) (k r : TowPkt) (s : State), s.hears p = true ∧ s.is F.TOW_CTL_HEAD = false ∧ s.carries (1 - p.val) = true ∧ 0 < k.hops ∧ s.is
      (F.TOW_PORT_STAT_TX_SLEEP (1 - p.val)) = false ∧ r = { k with typ := 7, hops := k.hops - 1 }) ∧
    (∃ (p : Fin 2) (k : TowPkt) (s : State), (s.hears p = false ∨ s.is F.TOW_CTL_HEAD = false ∧ k.hops = 0 ∨ s.is F.TOW_CTL_HEAD = true ∧ k.dst ≠ 0)) ∧
    (∃ (p : Fin 2) (k r : TowPkt) (s : State), s.hears p = true ∧ s.is F.TOW_CTL_HEAD = false ∧ s.carries (1 - p.val) = true ∧ 0 < k.hops ∧ s.is
      (F.TOW_PORT_STAT_TX_SLEEP (1 - p.val)) = true ∧ r = { k with typ := 7, hops := k.hops - 1 }) ∧
    (∃ (p : Fin 2) (k : TowPkt) (s : State), s.hears p = true ∧ s.is F.TOW_CTL_HEAD = true ∧ k.dst = 0 ∧ k.stat = 1 ∧ k.src < 64) ∧
    (∃ (p : Fin 2) (k : TowPkt) (s : State), s.hears p = true ∧ s.is F.TOW_CTL_HEAD = true ∧ k.dst = 0 ∧ (k.stat = 2 ∨ k.stat = 3) ∧ k.src < 64 ∧ s.fld F.TOW_STAT_N
      = 0) ∧
    (∃ (p : Fin 2) (k : TowPkt) (n l : Nat) (s : State), s.hears p = true ∧ s.is F.TOW_CTL_HEAD = true ∧ k.dst = 0 ∧ k.stat = 2 ∧ l = (if k.addr % 2 = 0 then k.src
      else k.src - 1) ∧ n = s.fld F.TOW_STAT_N ∧ 0 < k.src ∧ k.src < n ∧ n < 64 ∧ s.towOn = true ∧ s.tow.openEnd = false ∧ s.tow.breaks = [] ∧ s.carries 0 = true ∧
      s.carries 1 = true) ∧
    (∃ (p : Fin 2) (k : TowPkt) (s : State), s.hears p = true ∧ s.is F.TOW_CTL_HEAD = true ∧ k.dst = 0 ∧ (k.stat = 0 ∨ 3 < k.stat)) ∧
    (∃ (p : Fin 2) (k : TowPkt) (s : State), s.hears p = true ∧ s.is F.TOW_CTL_HEAD = true ∧ k.dst = 0) ∧
    (∃ (s : State), s.carries 0 = true ∧ s.carries 1 = true ∧ s.is (F.TOW_PORT_STAT_TX_SLEEP 0) = false ∧ s.is (F.TOW_PORT_STAT_TX_SLEEP 1) = false ∧ s.is
      F.TOW_CTL_HEAD = false ∧ s.is F.TOW_ID_VALID = false) ∧
    (∃ (s : State), (s.towOn = false ∨ s.is F.TOW_CTL_HEAD = true ∨ s.is F.TOW_ID_VALID = true) ∧ s.IrqRemembered) ∧
    (∃ (p : Fin 2) (k r : TowPkt) (s : State), s.hears p = true ∧ s.is F.TOW_CTL_HEAD = false ∧ s.carries (1 - p.val) = true ∧ s.is (F.TOW_PORT_STAT_TX_SLEEP (1 -
      p.val)) = false ∧ 0 < k.hops ∧ r = { k with typ := 5, hops := k.hops - 1, dst := (if p.val = 1 then k.dst + 1 else k.dst + 63) % 64 }) ∧
    (∃ (p : Fin 2) (k : TowPkt) (s : State), s.hears p = true ∧ s.is F.TOW_CTL_HEAD = false ∧ (s.carries (1 - p.val) = false ∨ k.hops = 0)) ∧
    (∃ (k : TowPkt) (s : State), s.carries 1 = true ∧ s.is F.TOW_CTL_HEAD = true ∧ s.is F.TOW_STAT_ENUM_BUSY = true ∧ s.tow.pass = 1) ∧
    (∃ (k : TowPkt) (n : Nat) (s : State), s.carries 0 = true ∧ s.carries 1 = true ∧ s.is F.TOW_CTL_HEAD = true ∧ s.is F.TOW_STAT_ENUM_BUSY = true ∧ s.tow.pass = 1
      ∧ n = k.dst % 64 ∧ 2 ≤ n) ∧
    (∃ (k : TowPkt) (s : State), s.carries 0 = true ∧ s.is F.TOW_CTL_HEAD = true ∧ s.is F.TOW_STAT_ENUM_BUSY = true ∧ s.tow.pass = 2) ∧
    (∃ (p : Fin 2) (k : TowPkt) (s : State), s.hears p = true ∧ s.is F.TOW_CTL_HEAD = true ∧ (s.is F.TOW_STAT_ENUM_BUSY = false ∨ s.tow.pass + p.val ≠ 2)) ∧
    (∃ (p : Fin 2) (k : TowPkt) (s : State), s.hears p = false ∧ s.IrqRemembered) ∧
    (∃ (m : Master) (s : State), s.Reached m R.TOW_CTL ∧ (m = .supS ∨ m = .hostS) ∧ s.isHead = true ∧ s.pins.bootSel ≠ 3 ∧ s.is F.TOW_STAT_ENUM_BUSY = false ∧
      s.carries 0 = true ∧ s.is (F.TOW_PORT_STAT_TX_SLEEP 0) = false) ∧
    (∃ (m : Master) (s : State), s.Reached m R.TOW_CTL ∧ (m = .supS ∨ m = .hostS) ∧ s.isHead = true ∧ s.pins.bootSel ≠ 3 ∧ s.is F.TOW_STAT_ENUM_BUSY = false ∧
      s.carries 0 = false ∧ s.is (F.CLK_GATE_RUN 1) = true) ∧
    (∃ (m : Master) (s : State), s.Reached m R.TOW_CTL ∧ (m = .supS ∨ m = .hostS) ∧ s.is (F.CLK_GATE_RUN 1) = true ∧ (s.is F.TOW_CTL_HEAD = false ∨ s.pins.bootSel ≠
      3 ∧ s.is F.TOW_STAT_ENUM_BUSY = true)) ∧
    (∃ (m : Master) (s : State), s.Reached m R.TOW_CTL ∧ (m = .supS ∨ m = .hostS) ∧ (s.is F.TOW_CTL_HEAD = true ∧ s.pins.bootSel = 3 ∨ s.is (F.CLK_GATE_RUN 1) =
      false)) ∧
    (∃ (s : State), s.towOn = true ∧ s.is F.TOW_STAT_ENUM_BUSY = true ∧ s.tow.pass = 1 ∧ s.carries 1 = true ∧ s.is (F.TOW_PORT_STAT_TX_SLEEP 1) = false) ∧
    (∃ (s : State), s.towOn = true ∧ s.is F.TOW_STAT_ENUM_BUSY = true ∧ s.tow.pass ≠ 1) ∧
    (∃ (s : State), (s.towOn = false ∨ s.is F.TOW_STAT_ENUM_BUSY = false) ∧ s.IrqRemembered) ∧
    (∃ (m : Master) (on : Bool) (s : State), s.Reached m R.TOW_CTL ∧ (m = .supS ∨ m = .hostS) ∧ (on = false ∨ s.pins.bootSel ≠ 3)) ∧
    (∃ (m : Master) (on : Bool) (s : State), s.Reached m R.TOW_CTL ∧ (m = .supS ∨ m = .hostS) ∧ on = true ∧ s.pins.bootSel = 3) ∧
    (∃ (m : Master) (on : Bool) (s : State), s.Reached m R.TOW_CTL ∧ m ≠ .supS ∧ m ≠ .hostS) ∧
    (∃ (m : Master) (s : State), s.Reached m R.TOW_CTL ∧ m ≠ .supS ∧ m ≠ .hostS) ∧
    (∃ (m : Master) (s : State), s.Reached m R.TOW_CTL ∧ m ≠ .supS ∧ m ≠ .hostS) ∧
    (∃ (m : Master) (w : Fin 4) (off : Fin 512) (k : TowPkt) (s : State), s.Reached m (0x04010800 + 0x200 * w.val + off.val) ∧ m.code = windowOwner w ∧ off.val % 4
      = 0 ∧ off.val % 64 ≤ 60 ∧ s.isHead = true ∧ s.pairBit R.TOW_REACH_LO (s.fld (F.TOW_RWIN_DEV_DEV w)) = true ∧ s.carries (s.routePort (s.fld (F.TOW_RWIN_DEV_DEV
      w))) = true ∧ s.is (F.TOW_PORT_STAT_TX_SLEEP (s.routePort (s.fld (F.TOW_RWIN_DEV_DEV w)))) = false ∧ s.win w = Win.init ∧ k =
      { typ := 1, dst := s.fld (F.TOW_RWIN_DEV_DEV w), src := 0, hops := 63, sec := w.val != 2, tag := s.tow.tag, len := 4, addr := s.fld (F.TOW_RWIN_SEL_BASE w) + off.val, stat := 0, data := [] }) ∧
    (∃ (m : Master) (w : Fin 4) (off : Fin 512) (v : Word) (k : TowPkt) (s : State), s.Reached m (0x04010800 + 0x200 * w.val + off.val) ∧ m.code = windowOwner w ∧
      off.val % 4 = 0 ∧ off.val % 64 ≤ 60 ∧ s.isHead = true ∧ s.pairBit R.TOW_REACH_LO (s.fld (F.TOW_RWIN_DEV_DEV w)) = true ∧ s.carries (s.routePort (s.fld
      (F.TOW_RWIN_DEV_DEV w))) = true ∧ s.is (F.TOW_PORT_STAT_TX_SLEEP (s.routePort (s.fld (F.TOW_RWIN_DEV_DEV w)))) = false ∧ s.win w = Win.init ∧ k =
      { typ := 2, dst := s.fld (F.TOW_RWIN_DEV_DEV w), src := 0, hops := 63, sec := w.val != 2, tag := s.tow.tag, len := 4, addr := s.fld (F.TOW_RWIN_SEL_BASE w) + off.val, stat := 0, data := leBytes 4 v.toNat }) ∧
    (∃ (m : Master) (w : Fin 4) (off : Fin 512) (o : WinOp) (tag : Nat) (s : State), s.Reached m (0x04010800 + 0x200 * w.val + off.val) ∧ m.code = windowOwner w ∧
      off.val % 4 = 0 ∧ off.val % 64 ≤ 60 ∧ s.isHead = true ∧ s.pairBit R.TOW_REACH_LO (s.fld (F.TOW_RWIN_DEV_DEV w)) = true ∧ s.is (F.CLK_GATE_RUN (1 + s.routePort
      (s.fld (F.TOW_RWIN_DEV_DEV w)))) = true ∧ s.win w = { sent := [(tag, o)], waiting := [] } ∧ o.ask.isSome = true) ∧
    (∃ (m : Master) (w : Fin 4) (off : Fin 512) (s : State), s.Reached m (0x04010800 + 0x200 * w.val + off.val) ∧ (m.code ≠ windowOwner w ∨ off.val % 4 ≠ 0 ∨
      s.isHead = false ∨ s.pairBit R.TOW_REACH_LO (s.fld (F.TOW_RWIN_DEV_DEV w)) = false) ∧ off.val + 4 ≤ 512) ∧
    (∃ (m : Master) (w : Fin 4) (off : Fin 512) (v : Word) (s : State), s.Reached m (0x04010800 + 0x200 * w.val + off.val) ∧ (m.code ≠ windowOwner w ∨ off.val % 4 ≠
      0 ∨ s.isHead = false ∨ s.pairBit R.TOW_REACH_LO (s.fld (F.TOW_RWIN_DEV_DEV w)) = false)) ∧
    (∃ (p : Fin 2) (k : TowPkt) (w : Fin 4) (o : WinOp) (m : Master) (s : State), s.hears p = true ∧ s.is F.TOW_CTL_HEAD = true ∧ k.dst = 0 ∧ k.stat < 4 ∧ s.winOf
      k.tag true = some (w.val, o) ∧ o.ask = some (.port m) ∧ m ≠ .smp ∧ m ≠ .supS ∧ (s.win w).waiting = []) ∧
    (∃ (p : Fin 2) (k : TowPkt) (w : Fin 4) (o : WinOp) (s : State), s.hears p = true ∧ s.is F.TOW_CTL_HEAD = true ∧ k.dst = 0 ∧ s.winOf k.tag false = some (w.val,
      o) ∧ o.ask = none ∧ (s.win w).waiting = []) ∧
    (∃ (p : Fin 2) (k : TowPkt) (s : State), s.hears p = true ∧ s.is F.TOW_CTL_HEAD = true ∧ k.dst = 0 ∧ s.winOf k.tag true = none) ∧
    (∃ (p : Fin 2) (k : TowPkt) (s : State), s.hears p = true ∧ s.is F.TOW_CTL_HEAD = true ∧ k.dst = 0 ∧ s.winOf k.tag false = none) ∧
    (∃ (w : Fin 4) (tag : Nat) (o : WinOp) (rest : List (Nat × WinOp)) (s : State), s.towOn = true ∧ s.win w = { sent := (tag, o) :: rest, waiting := [] } ∧ o.ask =
      none) ∧
    (∃ (w : Fin 4) (tag : Nat) (o : WinOp) (m : Master) (rest : List (Nat × WinOp)) (s : State), s.towOn = true ∧ s.win w =
      { sent := (tag, o) :: rest, waiting := [] } ∧ o.ask = some (.port m) ∧ m ≠ .smp ∧ m ≠ .supS) ∧
    (∃ (w : Fin 4) (s : State), (s.towOn = false ∨ (s.win w).sent = []) ∧ s.IrqRemembered) ∧
    (∃ (m : Master) (s : State), s.Reached m R.TOW_CTL ∧ (m = .supS ∨ m = .hostS) ∧ s.isHead = true ∧ s.pins.bootSel ≠ 3 ∧ s.carries 0 = true ∧ s.carries 1 = true) ∧
    (∃ (m : Master) (s : State), s.Reached m R.TOW_CTL ∧ (m = .supS ∨ m = .hostS) ∧ s.is F.TOW_CTL_HEAD = false ∧ s.is (F.CLK_GATE_RUN 1) = true ∧ s.is
      (F.CLK_GATE_RUN 2) = true) ∧
    (∃ (m : Master) (s : State), s.Reached m R.TOW_CTL ∧ (m = .supS ∨ m = .hostS) ∧ (s.is F.TOW_CTL_HEAD = true ∧ s.pins.bootSel = 3 ∨ s.is (F.CLK_GATE_RUN 1) =
      false ∨ s.is (F.CLK_GATE_RUN 2) = false)) ∧
    (∃ (p : Fin 2) (e : BitVec 16) (f : BitVec 8) (s : State), s.portHears p = true ∧ s.carries (1 - p.val) = true ∧ f.getLsbD 7 = false ∧ s.tow.seen ≠ some
      (f.toNat % 4) ∧ e.toNat + s.fld (F.TOW_PORT_DELAY_TICKS p) / 16 ≤ s.fld F.TOW_SYNC_CFG_LEAD) ∧
    (∃ (p : Fin 2) (e : BitVec 16) (f : BitVec 8) (s : State), s.portHears p = true ∧ s.carries (1 - p.val) = false ∧ f.getLsbD 7 = false ∧ s.tow.seen ≠ some
      (f.toNat % 4) ∧ e.toNat + s.fld (F.TOW_PORT_DELAY_TICKS p) / 16 ≤ s.fld F.TOW_SYNC_CFG_LEAD) ∧
    (∃ (p : Fin 2) (e : BitVec 16) (f : BitVec 8) (s : State), s.portHears p = true ∧ f.getLsbD 7 = false ∧ s.tow.seen ≠ some (f.toNat % 4) ∧ s.fld
      F.TOW_SYNC_CFG_LEAD < e.toNat + s.fld (F.TOW_PORT_DELAY_TICKS p) / 16 ∧ s.monPower = false ∧ s.is F.TIME_CTL_SYNC_LOAD = false) ∧
    (∃ (p : Fin 2) (e : BitVec 16) (f : BitVec 8) (s : State), (s.portHears p = false ∨ f.getLsbD 7 = true ∨ s.tow.seen = some (f.toNat % 4)) ∧ s.IrqRemembered) ∧
    (∃ (s : State), s.tow.syncDue = true ∧ s.monPower = false ∧ s.is F.TIME_CTL_SYNC_LOAD = false) ∧
    (∃ (s : State), s.tow.syncDue = true ∧ s.is F.TIME_CTL_SYNC_LOAD = true) ∧
    (∃ (s : State), s.tow.syncDue = false ∧ s.IrqRemembered) :=
  ⟨⟨1, { typ := 1, dst := 5, src := 0, hops := 9, sec := true, tag := 7, len := 4, addr := 0x02000010, stat := 0, data := [] }, { typ := 3, dst := 0, src := 5, hops := 63, sec := true, tag := 7, len := 4, addr := 0, stat := 0, data := [0#8, 7#8, 0#8, 0#8] }, { twm with mem := [(0x02000011, 7#8)] }, by unfold State.Sound; decide⟩,
      ⟨1, { typ := 1, dst := 5, src := 0, hops := 9, sec := true, tag := 7, len := 64, addr := 0x02000010, stat := 0, data := [] }, { typ := 3, dst := 0, src := 5, hops := 63, sec := true, tag := 7, len := 64, addr := 0, stat := 0, data := [0#8, 7#8] ++ List.replicate 62 0#8 }, { twm with mem := [(0x02000011, 7#8)] }, by decide⟩,
      ⟨1, { typ := 1, dst := 5, src := 0, hops := 9, sec := true, tag := 7, len := 6, addr := 0x02000010, stat := 0, data := [] }, { typ := 3, dst := 0, src := 5, hops := 63, sec := true, tag := 7, len := 0, addr := 0, stat := 1, data := [] }, twm, by decide⟩,
      ⟨1, { typ := 1, dst := 5, src := 0, hops := 9, sec := true, tag := 7, len := 4, addr := 0x06000000, stat := 0, data := [] }, { typ := 3, dst := 0, src := 5, hops := 63, sec := true, tag := 7, len := 0, addr := 0, stat := 3, data := [] }, twm, by decide⟩,
      ⟨1, { typ := 2, dst := 5, src := 0, hops := 9, sec := true, tag := 7, len := 4, addr := 0x02000010, stat := 0, data := leBytes 4 77 }, { typ := 4, dst := 0, src := 5, hops := 63, sec := true, tag := 7, len := 0, addr := 0, stat := 0, data := [] }, 77#32, twm, by unfold State.Sound; decide⟩,
      ⟨1, { typ := 2, dst := 5, src := 0, hops := 9, sec := true, tag := 7, len := 4, addr := 0x02000010, stat := 0, data := [1#8] }, { typ := 4, dst := 0, src := 5, hops := 63, sec := true, tag := 7, len := 0, addr := 0, stat := 1, data := [] }, twm, by decide⟩,
      ⟨1, { typ := 2, dst := 5, src := 0, hops := 9, sec := true, tag := 7, len := 4, addr := 0x06000000, stat := 0, data := leBytes 4 77 }, { typ := 4, dst := 0, src := 5, hops := 63, sec := true, tag := 7, len := 0, addr := 0, stat := 3, data := [] }, twm, by decide⟩,
      ⟨1, { typ := 1, dst := 6, src := 0, hops := 9, sec := true, tag := 7, len := 4, addr := 0x02000010, stat := 0, data := [] }, { typ := 1, dst := 6, src := 0, hops := 8, sec := true, tag := 7, len := 4, addr := 0x02000010, stat := 0, data := [] }, twm, by decide⟩,
      ⟨1, { typ := 1, dst := 5, src := 0, hops := 9, sec := true, tag := 7, len := 4, addr := 0x02000010, stat := 0, data := [] }, lit, by decide⟩,
      ⟨1, { typ := 2, dst := 6, src := 0, hops := 9, sec := true, tag := 7, len := 4, addr := 0x02000010, stat := 0, data := [] }, { typ := 2, dst := 6, src := 0, hops := 8, sec := true, tag := 7, len := 4, addr := 0x02000010, stat := 0, data := [] }, twm, by decide⟩,
      ⟨1, { typ := 2, dst := 5, src := 0, hops := 9, sec := true, tag := 7, len := 4, addr := 0x02000010, stat := 0, data := [] }, lit, by decide⟩,
      ⟨1, { typ := 3, dst := 6, src := 0, hops := 9, sec := true, tag := 7, len := 4, addr := 0x02000010, stat := 0, data := [] }, { typ := 3, dst := 6, src := 0, hops := 8, sec := true, tag := 7, len := 4, addr := 0x02000010, stat := 0, data := [] }, twm, by decide⟩,
      ⟨1, { typ := 3, dst := 5, src := 0, hops := 9, sec := true, tag := 7, len := 4, addr := 0x02000010, stat := 0, data := [] }, lit, by decide⟩,
      ⟨1, { typ := 4, dst := 6, src := 0, hops := 9, sec := true, tag := 7, len := 4, addr := 0x02000010, stat := 0, data := [] }, { typ := 4, dst := 6, src := 0, hops := 8, sec := true, tag := 7, len := 4, addr := 0x02000010, stat := 0, data := [] }, twm, by decide⟩,
      ⟨1, { typ := 4, dst := 5, src := 0, hops := 9, sec := true, tag := 7, len := 4, addr := 0x02000010, stat := 0, data := [] }, lit, by decide⟩,
      ⟨1, { typ := 6, dst := 6, src := 0, hops := 9, sec := true, tag := 7, len := 4, addr := 0x02000010, stat := 0, data := [] }, { typ := 6, dst := 6, src := 0, hops := 8, sec := true, tag := 7, len := 4, addr := 0x02000010, stat := 0, data := [] }, twm, by decide⟩,
      ⟨1, { typ := 6, dst := 5, src := 0, hops := 9, sec := true, tag := 7, len := 4, addr := 0x02000010, stat := 0, data := [] }, lit, by decide⟩,
      ⟨1, { typ := 7, dst := 6, src := 0, hops := 9, sec := true, tag := 7, len := 4, addr := 0x02000010, stat := 0, data := [] }, { typ := 7, dst := 6, src := 0, hops := 8, sec := true, tag := 7, len := 4, addr := 0x02000010, stat := 0, data := [] }, twm, by decide⟩,
      ⟨1, { typ := 7, dst := 5, src := 0, hops := 9, sec := true, tag := 7, len := 4, addr := 0x02000010, stat := 0, data := [] }, lit, by decide⟩,
      ⟨1, { typ := 7, dst := 6, src := 0, hops := 9, sec := true, tag := 7, len := 4, addr := 0x02000010, stat := 0, data := [] }, { typ := 7, dst := 6, src := 0, hops := 8, sec := true, tag := 7, len := 4, addr := 0x02000010, stat := 0, data := [] }, twm.put (F.TOW_PORT_STAT_TX_SLEEP 0) true, by decide⟩,
      ⟨1, { typ := 6, dst := 0, src := 40, hops := 9, sec := true, tag := 7, len := 4, addr := 0x02000010, stat := 1, data := [] }, twh, by decide⟩,
      ⟨1, { typ := 6, dst := 0, src := 40, hops := 9, sec := true, tag := 7, len := 4, addr := 0, stat := 2, data := [] }, twh.setFld F.TOW_STAT_N 0, by decide⟩,
      ⟨1, { typ := 6, dst := 0, src := 2, hops := 9, sec := true, tag := 7, len := 4, addr := 1, stat := 2, data := [] }, 3, 1, twh, by decide⟩,
      ⟨1, { typ := 6, dst := 0, src := 40, hops := 9, sec := true, tag := 7, len := 4, addr := 0x02000010, stat := 0, data := [] }, twh, by decide⟩,
      ⟨1, { typ := 7, dst := 0, src := 0, hops := 9, sec := true, tag := 7, len := 4, addr := 0x02000010, stat := 0, data := [] }, twh, by decide⟩,
      ⟨tw, by decide⟩,
      ⟨twh, by decide⟩,
      ⟨1, { typ := 5, dst := 63, src := 0, hops := 9, sec := true, tag := 7, len := 4, addr := 0x02000010, stat := 0, data := [] }, { typ := 5, dst := 0, src := 0, hops := 8, sec := true, tag := 7, len := 4, addr := 0x02000010, stat := 0, data := [] }, tw, by decide⟩,
      ⟨1, { typ := 5, dst := 3, src := 0, hops := 9, sec := true, tag := 7, len := 4, addr := 0x02000010, stat := 0, data := [] }, tw.put (F.TOW_PORT_STAT_UP 0) false, by decide⟩,
      ⟨{ typ := 5, dst := 3, src := 0, hops := 9, sec := true, tag := 7, len := 4, addr := 0x02000010, stat := 0, data := [] }, { twh.put F.TOW_STAT_ENUM_BUSY true with tow := { twh.tow with pass := 1 } }, by decide⟩,
      ⟨{ typ := 5, dst := 3, src := 0, hops := 9, sec := true, tag := 7, len := 4, addr := 0x02000010, stat := 0, data := [] }, 3, { twh.put F.TOW_STAT_ENUM_BUSY true with tow := { twh.tow with pass := 1 } }, by decide⟩,
      ⟨{ typ := 5, dst := 60, src := 0, hops := 9, sec := true, tag := 7, len := 4, addr := 0x02000010, stat := 0, data := [] }, { twh.put F.TOW_STAT_ENUM_BUSY true with tow := { twh.tow with pass := 2 } }, by decide⟩,
      ⟨1, { typ := 5, dst := 3, src := 0, hops := 9, sec := true, tag := 7, len := 4, addr := 0x02000010, stat := 0, data := [] }, twh, by decide⟩,
      ⟨1, { typ := 5, dst := 3, src := 0, hops := 9, sec := true, tag := 7, len := 4, addr := 0x02000010, stat := 0, data := [] }, lit, by decide⟩,
      ⟨.hostS, twh, by decide⟩,
      ⟨.hostS, twh.put (F.TOW_PORT_STAT_UP 0) false, by decide⟩,
      ⟨.hostS, tw, by decide⟩,
      ⟨.hostS, twh.put (F.CLK_GATE_RUN 1) false, by decide⟩,
      ⟨{ twh.put F.TOW_STAT_ENUM_BUSY true with tow := { twh.tow with pass := 1 } }, by decide⟩,
      ⟨{ twh.put F.TOW_STAT_ENUM_BUSY true with tow := { twh.tow with pass := 2 } }, by decide⟩,
      ⟨twh, by decide⟩,
      ⟨.hostS, true, tw, by decide⟩,
      ⟨.hostS, true, { tw with pins := { tw.pins with bootSel := 3 } }, by decide⟩,
      ⟨.smp, true, twh, by decide⟩,
      ⟨.smp, twh, by decide⟩,
      ⟨.smp, twh, by decide⟩,
      ⟨.hostS, 1, 8, { typ := 1, dst := 2, src := 0, hops := 63, sec := true, tag := 0, len := 4, addr := 8, stat := 0, data := [] }, twh.setFld (F.TOW_RWIN_DEV_DEV 1) 2, by decide⟩,
      ⟨.hostS, 1, 8, 77#32, { typ := 2, dst := 2, src := 0, hops := 63, sec := true, tag := 0, len := 4, addr := 8, stat := 0, data := leBytes 4 77 }, twh.setFld (F.TOW_RWIN_DEV_DEV 1) 2, by decide⟩,
      ⟨.hostS, 1, 8, ⟨8, 0x04010A08, 4, some (.port .hostS), []⟩, 7, (twh.setFld (F.TOW_RWIN_DEV_DEV 1) 2).setWin 1 { sent := [(7, ⟨8, 0x04010A08, 4, some (.port .hostS), []⟩)], waiting := [] }, by decide⟩,
      ⟨.hostNS, 1, 8, twh, by decide⟩,
      ⟨.hostS, 1, 8, 5#32, twh, by decide⟩,
      ⟨0, { typ := 3, dst := 0, src := 2, hops := 9, sec := true, tag := 7, len := 4, addr := 0x02000010, stat := 0, data := [1#8, 2#8, 3#8, 4#8] }, 1, ⟨8, 0x04010A08, 4, some (.port .hostS), []⟩, .hostS, twh.setWin 1 { sent := [(7, ⟨8, 0x04010A08, 4, some (.port .hostS), []⟩)], waiting := [] }, by decide⟩,
      ⟨0, { typ := 4, dst := 0, src := 2, hops := 9, sec := true, tag := 7, len := 4, addr := 0x02000010, stat := 2, data := [] }, 1, ⟨8, 0x04010A08, 4, none, []⟩, twh.setWin 1 { sent := [(7, ⟨8, 0x04010A08, 4, none, []⟩)], waiting := [] }, by decide⟩,
      ⟨0, { typ := 3, dst := 0, src := 0, hops := 9, sec := true, tag := 7, len := 4, addr := 0x02000010, stat := 0, data := [] }, twh, by decide⟩,
      ⟨0, { typ := 3, dst := 0, src := 0, hops := 9, sec := true, tag := 7, len := 4, addr := 0x02000010, stat := 0, data := [] }, twh, by decide⟩,
      ⟨1, 7, ⟨8, 0x04010A08, 4, none, []⟩, [], twh.setWin 1 { sent := [(7, ⟨8, 0x04010A08, 4, none, []⟩)], waiting := [] }, by decide⟩,
      ⟨1, 7, ⟨8, 0x04010A08, 4, some (.port .hostS), []⟩, .hostS, [], twh.setWin 1 { sent := [(7, ⟨8, 0x04010A08, 4, some (.port .hostS), []⟩)], waiting := [] }, by decide⟩,
      ⟨1, twh, by decide⟩,
      ⟨.hostS, twh, by decide⟩,
      ⟨.hostS, tw, by decide⟩,
      ⟨.hostS, twh.put (F.CLK_GATE_RUN 2) false, by decide⟩,
      ⟨0, 1#16, 2#8, twm.setFld F.TOW_SYNC_CFG_LEAD 500, by decide⟩,
      ⟨0, 1#16, 2#8, (twm.put (F.TOW_PORT_STAT_UP 1) false).setFld F.TOW_SYNC_CFG_LEAD 500, by decide⟩,
      ⟨0, 9#16, 2#8, (twm.wr 0x04004000 0x8003#32).setFld F.TOW_SYNC_CFG_LEAD 5, by decide⟩,
      ⟨0, 1#16, 0x82#8, twm, by decide⟩,
      ⟨{ (twm.wr 0x04004000 0xFFFF#32) with tow := { twm.tow with syncDue := true }, tb := 0x123456789ABCDEF0#64 }, by decide⟩,
      ⟨{ ((twm.wr 0x04004000 0xFFFF#32).put F.TIME_CTL_SYNC_LOAD true).wr R.TIME_SYNC_LOAD_HI 7#32 with tow := { twm.tow with syncDue := true }, tb := 0x123456789ABCDEF0#64 }, by decide⟩,
      ⟨twm, by decide⟩⟩

theorem test_meets_WakeSourcesAndPowerDomains :
    (∃ (n : Fin 8) (mv : Nat) (s : State), 100 < mv ∧ bitAt (s.fld F.PWR_WAKE_EN_EN) n.val = false) ∧
    (∃ (n : Fin 8) (mv : Nat) (s : State), 100 < mv ∧ s.dorm.phase = .awake ∧ s.entering = false ∧ s.mode ≠ 1) ∧
    (∃ (n : Fin 8) (mv : Nat) (s : State), 100 < mv ∧ s.dorm.phase = .awake ∧ s.mode = 1 ∧ s.entering = false ∧ bitAt (s.fld F.PWR_WAKE_EN_EN) n.val = true) ∧
    (∃ (n : Fin 8) (mv : Nat) (s : State), 100 < mv ∧ s.dorm.phase = .awake ∧ s.entering = true ∧ bitAt (s.fld F.PWR_WAKE_EN_EN) n.val = true) ∧
    (∃ (n : Fin 8) (mv : Nat) (s : State), 100 < mv ∧ s.dorm.phase = .waking ∧ bitAt (s.fld F.PWR_WAKE_EN_EN) n.val = true) ∧
    (∃ (n : Fin 8) (mv : Nat) (s : State), 100 < mv ∧ s.dorm.phase = .asleep ∧ bitAt (s.fld F.PWR_WAKE_EN_EN) n.val = true ∧ s.domOn 0 = true) ∧
    (∃ (k : Fin 16) (mv : Nat) (s : State), 120 < mv ∧ bitAt (s.fld F.PWR_WAKE_EN_EN) (8 + k.val) = false) ∧
    (∃ (k : Fin 16) (mv : Nat) (s : State), 120 < mv ∧ s.dorm.phase = .awake ∧ s.entering = false ∧ s.mode ≠ 1) ∧
    (∃ (k : Fin 16) (mv : Nat) (s : State), 120 < mv ∧ s.dorm.phase = .awake ∧ s.mode = 1 ∧ s.entering = false ∧ bitAt (s.fld F.PWR_WAKE_EN_EN) (8 + k.val) = true) ∧
    (∃ (k : Fin 16) (mv : Nat) (s : State), 120 < mv ∧ s.dorm.phase = .awake ∧ s.entering = true ∧ bitAt (s.fld F.PWR_WAKE_EN_EN) (8 + k.val) = true) ∧
    (∃ (k : Fin 16) (mv : Nat) (s : State), 120 < mv ∧ s.dorm.phase = .waking ∧ bitAt (s.fld F.PWR_WAKE_EN_EN) (8 + k.val) = true) ∧
    (∃ (k : Fin 16) (mv : Nat) (s : State), 120 < mv ∧ s.dorm.phase = .asleep ∧ bitAt (s.fld F.PWR_WAKE_EN_EN) (8 + k.val) = true ∧ s.domOn 0 = true) ∧
    (∃ (p : Fin 2) (s : State), bitAt (s.fld F.PWR_WAKE_EN_EN) (24 + p.val) = false) ∧
    (∃ (p : Fin 2) (s : State), s.dorm.phase = .awake ∧ s.entering = false ∧ s.mode ≠ 1) ∧
    (∃ (p : Fin 2) (s : State), s.dorm.phase = .awake ∧ s.mode = 1 ∧ s.entering = false ∧ bitAt (s.fld F.PWR_WAKE_EN_EN) (24 + p.val) = true) ∧
    (∃ (p : Fin 2) (s : State), s.dorm.phase = .awake ∧ s.entering = true ∧ bitAt (s.fld F.PWR_WAKE_EN_EN) (24 + p.val) = true) ∧
    (∃ (p : Fin 2) (s : State), s.dorm.phase = .waking ∧ bitAt (s.fld F.PWR_WAKE_EN_EN) (24 + p.val) = true) ∧
    (∃ (p : Fin 2) (s : State), s.dorm.phase = .asleep ∧ bitAt (s.fld F.PWR_WAKE_EN_EN) (24 + p.val) = true ∧ s.domOn 0 = true) ∧
    (∃ (ns : Nat) (s : State), 200 ≤ ns ∧ s.dorm.phase = .awake ∧ s.entering = false ∧ s.mode ≠ 1) ∧
    (∃ (ns : Nat) (s : State), 200 ≤ ns ∧ s.dorm.phase = .awake ∧ s.mode = 1 ∧ s.entering = false) ∧
    (∃ (ns : Nat) (s : State), 200 ≤ ns ∧ s.dorm.phase = .awake ∧ s.entering = true) ∧
    (∃ (ns : Nat) (s : State), 200 ≤ ns ∧ s.dorm.phase = .waking) ∧
    (∃ (ns : Nat) (s : State), 200 ≤ ns ∧ s.dorm.phase = .asleep ∧ s.domOn 0 = true) ∧
    (∃ (ns : Nat) (a : Nat) (s : State), 200 ≤ ns ∧ s.dorm.phase = .asleep ∧ s.ecc 0x01000080 = .clean ∧ (s.setBit F.PWR_DOM_STAT_ON 1).memGate 0x01000080 = none ∧
      a = leValue (s.bytesAt 0x01000080 4) ∧ 0x01000000 ≤ a ∧ a < 0x01800000 ∧ s.domOn 0 = true) ∧
    (∃ (ns : Nat) (a : Nat) (s : State), 200 ≤ ns ∧ s.dorm.phase = .asleep ∧ a = leValue (s.bytesAt 0x01000080 4) ∧ ¬ (0x01000000 ≤ a ∧ a < 0x01800000) ∧ s.domOn 0
      = true) ∧
    (∃ (n : Fin 8) (mv : Nat) (s : State), mv < 40) ∧
    (∃ (k : Fin 16) (mv : Nat) (s : State), mv < 40) ∧
    (∃ (n : Fin 8) (mv : Nat) (s : State), 40 ≤ mv ∧ mv ≤ 100 ∧ s.dorm.phase = .awake ∧ s.entering = false ∧ s.mode ≠ 1) ∧
    (∃ (k : Fin 16) (mv : Nat) (s : State), 40 ≤ mv ∧ mv ≤ 120 ∧ s.dorm.phase = .awake ∧ s.entering = false ∧ s.mode ≠ 1) ∧
    (∃ (ns : Nat) (s : State), 100 ≤ ns ∧ ns < 200 ∧ s.dorm.phase = .awake ∧ s.entering = false ∧ s.mode ≠ 1) ∧
    (∃ (ns : Nat) (s : State), ns < 100 ∧ s.IrqRemembered) ∧
    (∃ (s : State), s.dorm.phase = .awake ∧ s.entering = true ∧ s.trans.ramping = false ∧ s.fld F.PWR_DOM_STAT_ON / 4 % 4096 = 0 ∧ s.dorm.pending = false ∧ s.is
      F.MODE_STATUS_WAITING = false) ∧
    (∃ (s : State), s.dorm.phase = .awake ∧ s.entering = true ∧ s.trans.ramping = false ∧ s.fld F.PWR_DOM_STAT_ON / 4 % 4096 = 0 ∧ s.dorm.pending = true ∧ s.is
      F.MODE_STATUS_WAITING = false) ∧
    (∃ (w : Nat) (s : State), s.dorm.phase = .awake ∧ s.entering = true ∧ s.trans.ramping = false ∧ s.fld F.PWR_DOM_STAT_ON / 4 % 4096 = 0 ∧ s.is
      F.MODE_STATUS_WAITING = true ∧ w = s.fld F.MODE_STATUS_WAIT_TARGET ∧ 1 ≤ w ∧ w < 5) ∧
    (∃ (s : State), (s.dorm.phase ≠ .awake ∨ s.entering = false ∨ s.trans.ramping = true ∨ s.fld F.PWR_DOM_STAT_ON / 4 % 4096 ≠ 0) ∧ s.IrqRemembered) ∧
    (∃ (d : Fin 17) (s : State), 2 ≤ d.val ∧ d.val < 14 ∧ s.domOn 1 = true ∧ s.domOn d = true ∧ s.lanesOff = true) ∧
    (∃ (d : Fin 17) (s : State), (d.val < 2 ∨ 14 ≤ d.val ∨ s.domOn 1 = false ∨ s.domOn d = false ∨ s.lanesOff = false) ∧ s.IrqRemembered) ∧
    (∃ (d : Fin 17) (s : State), 2 ≤ d.val ∧ d.val < 14 ∧ s.domOn 1 = true ∧ s.domOn d = false ∧ s.acting = true ∧ (domainLanes d).any (fun n => !s.unusable n) =
      true) ∧
    (∃ (d : Fin 17) (s : State), 14 ≤ d.val ∧ s.domOn 1 = true ∧ s.domOn d = false) ∧
    (∃ (d : Fin 17) (s : State), (s.domOn 1 = false ∨ s.domOn d = true ∨ d.val < 14 ∧ (s.acting = false ∨ (domainLanes d).any (fun n => !s.unusable n) = false)) ∧
      s.IrqRemembered) :=
  ⟨⟨3, 101, (lit.setFld F.PWR_WAKE_EN_EN 0), by decide⟩,
      ⟨3, 101, lit.setFld F.MODE_STATUS_CURRENT 2, by decide⟩,
      ⟨3, 101, (lit.setFld F.MODE_STATUS_CURRENT 1).setFld F.PWR_WAKE_EN_EN 0x8, by decide⟩,
      ⟨3, 101, ((lit.put F.MODE_STATUS_BUSY true).setFld F.MODE_STATUS_IN_TARGET 0).setFld F.PWR_WAKE_EN_EN 0x8, by decide⟩,
      ⟨3, 101, { lit.setFld F.PWR_WAKE_EN_EN 0x8 with dorm := { lit.dorm with phase := .waking } }, by decide⟩,
      ⟨3, 101, { ((lit.put F.MEMX_STAT_FILLED true).wr 0x04004000 1#32).setFld F.PWR_WAKE_EN_EN 0x8 with dorm := { lit.dorm with phase := .asleep } }, by decide⟩,
      ⟨3, 121, (lit.setFld F.PWR_WAKE_EN_EN 0), by decide⟩,
      ⟨3, 121, lit.setFld F.MODE_STATUS_CURRENT 2, by decide⟩,
      ⟨3, 121, (lit.setFld F.MODE_STATUS_CURRENT 1).setFld F.PWR_WAKE_EN_EN 0x800, by decide⟩,
      ⟨3, 121, ((lit.put F.MODE_STATUS_BUSY true).setFld F.MODE_STATUS_IN_TARGET 0).setFld F.PWR_WAKE_EN_EN 0x800, by decide⟩,
      ⟨3, 121, { lit.setFld F.PWR_WAKE_EN_EN 0x800 with dorm := { lit.dorm with phase := .waking } }, by decide⟩,
      ⟨3, 121, { ((lit.put F.MEMX_STAT_FILLED true).wr 0x04004000 1#32).setFld F.PWR_WAKE_EN_EN 0x800 with dorm := { lit.dorm with phase := .asleep } }, by decide⟩,
      ⟨1, (lit.setFld F.PWR_WAKE_EN_EN 0), by decide⟩,
      ⟨1, lit.setFld F.MODE_STATUS_CURRENT 2, by decide⟩,
      ⟨1, (lit.setFld F.MODE_STATUS_CURRENT 1).setFld F.PWR_WAKE_EN_EN 0x2000000, by decide⟩,
      ⟨1, ((lit.put F.MODE_STATUS_BUSY true).setFld F.MODE_STATUS_IN_TARGET 0).setFld F.PWR_WAKE_EN_EN 0x2000000, by decide⟩,
      ⟨1, { lit.setFld F.PWR_WAKE_EN_EN 0x2000000 with dorm := { lit.dorm with phase := .waking } }, by decide⟩,
      ⟨1, { ((lit.put F.MEMX_STAT_FILLED true).wr 0x04004000 1#32).setFld F.PWR_WAKE_EN_EN 0x2000000 with dorm := { lit.dorm with phase := .asleep } }, by decide⟩,
      ⟨200, lit.setFld F.MODE_STATUS_CURRENT 2, by decide⟩,
      ⟨200, (lit.setFld F.MODE_STATUS_CURRENT 1), by decide⟩,
      ⟨200, ((lit.put F.MODE_STATUS_BUSY true).setFld F.MODE_STATUS_IN_TARGET 0), by decide⟩,
      ⟨200, { lit with dorm := { lit.dorm with phase := .waking } }, by decide⟩,
      ⟨200, { ((lit.put F.MEMX_STAT_FILLED true).wr 0x04004000 1#32) with dorm := { lit.dorm with phase := .asleep } }, by decide⟩,
      ⟨200, 0x01000104, { ((lit.put F.MEMX_STAT_FILLED true).wr 0x04004000 1#32) with dorm := { lit.dorm with phase := .asleep }, mem := [(0x01000080, 4#8), (0x01000081, 1#8), (0x01000083, 1#8)] }, by decide⟩,
      ⟨200, 0, { ((lit.put F.MEMX_STAT_FILLED true).wr 0x04004000 1#32) with dorm := { lit.dorm with phase := .asleep } }, by decide⟩,
      ⟨3, 39, lit.put (F.LRX_STATUS_SIG_DET 3) true, by decide⟩,
      ⟨3, 39, lit.put (F.HRX_STATUS_SIG_DET 19) true, by decide⟩,
      ⟨3, 70, lit.setFld F.MODE_STATUS_CURRENT 2, by decide⟩,
      ⟨3, 40, lit.setFld F.MODE_STATUS_CURRENT 2, by decide⟩,
      ⟨150, lit.setFld F.MODE_STATUS_CURRENT 2, by decide⟩,
      ⟨99, lit, by decide⟩,
      ⟨((lit.wr 0x04004000 0x1C003#32).put F.MODE_STATUS_BUSY true).setFld F.MODE_STATUS_IN_TARGET 0, by decide⟩,
      ⟨{ ((lit.wr 0x04004000 0x1C003#32).put F.MODE_STATUS_BUSY true).setFld F.MODE_STATUS_IN_TARGET 0 with dorm := { lit.dorm with pending := true } }, by decide⟩,
      ⟨2, (((lit.wr 0x04004000 0x1C003#32).put F.MODE_STATUS_BUSY true).setFld F.MODE_STATUS_IN_TARGET 0).put F.MODE_STATUS_WAITING true |>.setFld F.MODE_STATUS_WAIT_TARGET 2, by decide⟩,
      ⟨lit, by decide⟩,
      ⟨5, lit.setFld F.MODE_STATUS_CURRENT 1, by decide⟩,
      ⟨15, lit, by decide⟩,
      ⟨5, (lit.wr 0x04004000 0x3#32).setFld F.MODE_STATUS_CURRENT 2, by decide⟩,
      ⟨15, lit.wr 0x04004000 0x3#32, by decide⟩,
      ⟨5, lit, by decide⟩⟩

theorem test_meets_ResetsLeaveTheirState :
    (∃ (v : Supplies) (frm : Bool) (boot : Fin 4) (addr : Fin 8) (s : State), 700 ≤ v.core ∧ v.core ≤ 800 ∧ 700 ≤ v.aon ∧ v.aon ≤ 800 ∧ 870 ≤ v.ana ∧ v.ana ≤ 930 ∧
      1164 ≤ v.hv ∧ v.hv ≤ 1236 ∧ 1710 ≤ v.io ∧ v.io ≤ 1890) ∧
    (∃ (v : Supplies) (frm : Bool) (boot : Fin 4) (addr : Fin 8) (s : State), (v.core < 640 ∨ 860 < v.core ∨ v.aon < 640 ∨ 860 < v.aon ∨ v.ana < 870 ∨ 930 < v.ana ∨
      v.hv < 1164 ∨ 1236 < v.hv ∨ v.io < 1710 ∨ 1890 < v.io)) ∧
    (∃ (us : Nat) (frm : Bool) (boot : Fin 4) (addr : Fin 8) (s : State), 1 ≤ us) ∧
    (∃ (frm : Bool) (boot : Fin 4) (addr : Fin 8) (s : State), s.IrqRemembered) ∧
    (∃ (m : Master) (s : State), s.Reached m R.PWR_RESET ∧ (m.code = 1 ∨ m.code = 3 ∨ m.code = 5)) ∧
    (∃ (m : Master) (s : State), s.Reached m R.PWR_RESET ∧ m.code ≠ 1 ∧ m.code ≠ 3 ∧ m.code ≠ 5) ∧
    (∃ (m : Master) (s : State), s.Reached m R.PWR_RESET ∧ m.code ≠ 3 ∧ m.code ≠ 5) ∧
    (∃ (m : Master) (s : State), s.Reached m R.PWR_RESET ∧ (m.code = 3 ∨ m.code = 5)) ∧
    (∃ (kind : Fin 3) (s : State), s.domOn 1 = true ∧ s.domOn 14 = true) ∧
    (∃ (kind : Fin 3) (ch : Fin 8) (s : State), s.domOn 1 = true ∧ s.domOn 14 = true ∧ (∀ c : Fin 8, s.fld (F.DMA_CH_STAT_STATE c) = 1 ↔ c = ch) ∧ dmaLocal
      (s.dmaChan ch).desc 32 = true ∧ (s.dmaChan ch).desc % 32 = 0 ∧ s.Sound ((s.dmaChan ch).desc + 20)) ∧
    (∃ (kind : Fin 3) (s : State), s.domOn 1 = true ∧ s.domOn 14 = false) ∧
    (∃ (kind : Fin 3) (s : State), s.domOn 1 = false ∧ s.IrqRemembered) ∧
    (∃ (s : State), s.life.resetDue = true) ∧
    (∃ (s : State), s.life.resetDue = false ∧ s.IrqRemembered) ∧
    (∃ (s : State), s.domOn 1 = true ∧ s.is F.MEMX_STAT_FILLED = false) ∧
    (∃ (s : State), s.domOn 1 = true ∧ s.is F.MEMX_STAT_FILLED = false) ∧
    (∃ (rom : Bool) (s : State), (s.domOn 1 = false ∨ s.is F.MEMX_STAT_FILLED = true) ∧ s.IrqRemembered) ∧
    (∃ (r : PostResult) (s : State), s.postDue = true) ∧
    (∃ (r : PostResult) (s : State), s.postDue = false ∧ s.IrqRemembered) :=
  ⟨⟨⟨750, 750, 900, 1200, 1800⟩, true, 1, 3, litm, by decide⟩,
      ⟨⟨600, 750, 900, 1200, 1800⟩, true, 1, 3, litm, by decide⟩,
      ⟨1, true, 1, 3, litm, by decide⟩,
      ⟨true, 1, 3, litm, by decide⟩,
      ⟨.hostS, litm, by decide⟩,
      ⟨.hostNS, litm, by decide⟩,
      ⟨.hostNS, litm, by decide⟩,
      ⟨.hostS, litm.put F.MODE_STATUS_BUSY true, by decide⟩,
      ⟨2, lit.put F.PCIE_STAT_LINK_UP true, by decide⟩,
      ⟨0, 5, ((lit.put F.MEMX_STAT_FILLED true).setFld (F.DMA_CH_STAT_STATE 5) 1).setDmaChan 5 { DmaChan.init with desc := 0x02000100 }, by unfold State.Sound; decide⟩,
      ⟨0, (lit.wr 0x04004000 3#32).setChan 1 { Chan.init with q := [(5#32, 7#32)] }, by decide⟩,
      ⟨0, lit.wr 0x04004000 0#32, by decide⟩,
      ⟨{ litm with life := { litm.life with resetDue := true } }, by decide⟩,
      ⟨litm, by decide⟩,
      ⟨{ lit with mem := [(0x01000020,0x80#8)] }, by decide⟩,
      ⟨lit, by decide⟩,
      ⟨true, litm, by decide⟩,
      ⟨{ banks := 2#64, spares := 0#4, lanes := 0x10005#48, sensors := 1#12, monitors := 0#24, us := 17#16, rows := [], rowSpares := 0#48 }, { lit.put F.MEMX_STAT_FILLED true with sup := { lit.sup with released := true } }, by decide⟩,
      ⟨{ banks := 2#64, spares := 0#4, lanes := 0x10005#48, sensors := 1#12, monitors := 0#24, us := 17#16, rows := [], rowSpares := 0#48 }, lit, by decide⟩⟩

theorem test_meets_ClocksAndGatesAreJudgedAndClosed :
    (∃ (count : Nat) (s : State), s.domOn 1 = true ∧ s.is F.CLK_STAT_REF_OK = false ∧ 7 ≤ s.clk.ref.good ∧ 2509 ≤ count ∧ count ≤ 2611) ∧
    (∃ (count : Nat) (s : State), s.domOn 1 = true ∧ s.is F.CLK_STAT_REF_OK = false ∧ s.clk.ref.good < 7 ∧ 2509 ≤ count ∧ count ≤ 2611) ∧
    (∃ (count : Nat) (s : State), s.domOn 1 = true ∧ s.is F.CLK_STAT_REF_OK = false ∧ (count < 2509 ∨ 2611 < count)) ∧
    (∃ (count : Nat) (s : State), s.domOn 1 = true ∧ s.is F.CLK_STAT_REF_OK = true ∧ 2509 ≤ count ∧ count ≤ 2611) ∧
    (∃ (count : Nat) (s : State), s.domOn 1 = true ∧ s.is F.CLK_STAT_REF_OK = true ∧ s.clk.ref.bad = 0 ∧ (count < 2509 ∧ 2458 ≤ count ∨ 2611 < count ∧ count ≤
      2662)) ∧
    (∃ (count : Nat) (s : State), s.domOn 1 = true ∧ s.is F.CLK_STAT_REF_OK = true ∧ (count < 2458 ∨ 2662 < count ∨ 0 < s.clk.ref.bad ∧ (count < 2509 ∨ 2611 <
      count))) ∧
    (∃ (count : Nat) (s : State), s.domOn 1 = true ∧ s.is F.CLK_STAT_ROOT_OK = false ∧ s.is F.CLK_STAT_REF_OK = true ∧ 7 ≤ s.clk.root.good ∧ 40958 ≤ count ∧ count ≤
      40962) ∧
    (∃ (count : Nat) (s : State), s.domOn 1 = true ∧ s.is F.CLK_STAT_ROOT_OK = false ∧ s.is F.CLK_STAT_REF_OK = false) ∧
    (∃ (count : Nat) (s : State), s.domOn 1 = true ∧ s.is F.CLK_STAT_ROOT_OK = false ∧ s.clk.root.good < 7 ∧ 40958 ≤ count ∧ count ≤ 40962) ∧
    (∃ (count : Nat) (s : State), s.domOn 1 = true ∧ s.is F.CLK_STAT_ROOT_OK = false ∧ (count < 40958 ∨ 40962 < count)) ∧
    (∃ (count : Nat) (s : State), s.domOn 1 = true ∧ s.is F.CLK_STAT_ROOT_OK = true ∧ 40958 ≤ count ∧ count ≤ 40962) ∧
    (∃ (count : Nat) (s : State), s.domOn 1 = true ∧ s.is F.CLK_STAT_ROOT_OK = true ∧ s.clk.root.bad = 0 ∧ (count < 40958 ∧ 40956 ≤ count ∨ 40962 < count ∧ count ≤
      40964)) ∧
    (∃ (count : Nat) (s : State), s.domOn 1 = true ∧ s.is F.CLK_STAT_ROOT_OK = true ∧ (count < 40956 ∨ 40964 < count ∨ 0 < s.clk.root.bad ∧ (count < 40958 ∨ 40962 <
      count))) ∧
    (∃ (count : Nat) (s : State), s.domOn 1 = true ∧ s.is F.CLK_STAT_ROOT_OK = true ∧ (count < 40956 ∨ 40964 < count ∨ 0 < s.clk.root.bad ∧ (count < 40958 ∨ 40962 <
      count)) ∧ (∀ n : Fin 8, s.domOn (2 + n) = false ∨ s.fld (F.LTX_STATUS_FREQ_SRC (8 + n)) ≠ 0 ∨ s.is (F.LTX_STATUS_SYNTH_LOCK (8 + n)) = false)) ∧
    (∃ (count : Nat) (s : State), s.domOn 1 = true ∧ s.is F.CLK_STAT_SLOW_OK = false ∧ 7 ≤ s.clk.slow.good ∧ 29687500 ≤ count ∧ count ≤ 32812500) ∧
    (∃ (count : Nat) (s : State), s.domOn 1 = true ∧ s.is F.CLK_STAT_SLOW_OK = false ∧ s.clk.slow.good < 7 ∧ 29687500 ≤ count ∧ count ≤ 32812500) ∧
    (∃ (count : Nat) (s : State), s.domOn 1 = true ∧ s.is F.CLK_STAT_SLOW_OK = false ∧ (count < 29687500 ∨ 32812500 < count)) ∧
    (∃ (count : Nat) (s : State), s.domOn 1 = true ∧ s.is F.CLK_STAT_SLOW_OK = true ∧ 29687500 ≤ count ∧ count ≤ 32812500) ∧
    (∃ (count : Nat) (s : State), s.domOn 1 = true ∧ s.is F.CLK_STAT_SLOW_OK = true ∧ s.clk.slow.bad = 0 ∧ (count < 29687500 ∧ 28125000 ≤ count ∨ 32812500 < count ∧
      count ≤ 34375000)) ∧
    (∃ (count : Nat) (s : State), s.domOn 1 = true ∧ s.is F.CLK_STAT_SLOW_OK = true ∧ (count < 28125000 ∨ 34375000 < count ∨ 0 < s.clk.slow.bad ∧ (count < 29687500
      ∨ 32812500 < count))) ∧
    (∃ (clk : Fin 3) (count : Nat) (s : State), s.domOn 1 = false ∧ s.IrqRemembered) ∧
    (∃ (ref : Fin 4) (err : BitVec 16) (s : State), s.domOn 1 = true ∧ ref.val ≠ 0 ∧ ref.val = (if s.is F.CLK_STAT_REF_OK then 1 else if s.domOn 15 && s.is
      (F.TOW_PORT_STAT_UP 0) then 2 else if s.domOn 15 && s.is (F.TOW_PORT_STAT_UP 1) then 3 else 0)) ∧
    (∃ (ref : Fin 4) (err : BitVec 16) (s : State), (s.domOn 1 = false ∨ ref.val = 0 ∨ ref.val ≠ (if s.is F.CLK_STAT_REF_OK then 1 else if s.domOn 15 && s.is
      (F.TOW_PORT_STAT_UP 0) then 2 else if s.domOn 15 && s.is (F.TOW_PORT_STAT_UP 1) then 3 else 0)) ∧ s.IrqRemembered) ∧
    (∃ (m : Master) (root : Bool) (s : State), s.Reached m R.CLK_SRC ∧ m.code = 1 ∧ (root = false ∨ s.is F.CLK_STAT_ROOT_OK = true)) ∧
    (∃ (m : Master) (s : State), s.Reached m R.CLK_SRC ∧ m.code = 1 ∧ s.is F.CLK_STAT_ROOT_OK = false) ∧
    (∃ (m : Master) (root : Bool) (s : State), s.Reached m R.CLK_SRC ∧ m.code ≠ 1) ∧
    (∃ (n : Nat) (s : State), s.is F.MODE_STATUS_BUSY = true ∧ 2 ≤ s.fld F.MODE_STATUS_IN_TARGET ∧ s.fld F.MODE_STATUS_IN_TARGET ≤ 5 ∧ s.trans.ramping = false ∧
      s.is F.CLK_SRC_SEL = false ∧ s.dorm.phase = .awake ∧ n < 48 ∧ n ∈ s.trans.waitFor ∧ s.oos n = false ∧ n ∉ s.trans.late) ∧
    (∃ (k : Fin 16) (s : State), s.is F.MODE_STATUS_BUSY = true ∧ 2 ≤ s.fld F.MODE_STATUS_IN_TARGET ∧ s.fld F.MODE_STATUS_IN_TARGET ≤ 5 ∧ s.trans.ramping = false ∧
      s.is F.CLK_SRC_SEL = false ∧ s.dorm.phase = .awake ∧ s.oos (16 + k) = false ∧ s.firstFault (16 + k)) ∧
    (∃ (s : State), (s.is F.MODE_STATUS_BUSY = false ∨ s.fld F.MODE_STATUS_IN_TARGET < 2 ∨ 5 < s.fld F.MODE_STATUS_IN_TARGET ∨ s.trans.ramping = true ∨ s.is
      F.CLK_SRC_SEL = true) ∧ s.IrqRemembered) ∧
    (∃ (b : Fin 10) (s : State), s.domOn 1 = true ∧ s.is (F.CLK_GATE_RUN b) = true ∧ s.is (F.CLK_GATE_SLEEP b) = true ∧ s.gateBusy b = false) ∧
    (∃ (b : Fin 10) (s : State), (s.domOn 1 = false ∨ s.is (F.CLK_GATE_RUN b) = false ∨ s.is (F.CLK_GATE_SLEEP b) = false ∨ s.gateBusy b = true) ∧ s.IrqRemembered) ∧
    (∃ (b : Fin 10) (s : State), s.domOn 1 = true ∧ s.is (F.CLK_GATE_RUN b) = true ∧ (s.is (F.CLK_GATE_DEEP b) = true ∨ 2 ≤ s.fld F.THERM_STAT_LEVEL) ∧ s.gateBusy b
      = false) ∧
    (∃ (b : Fin 10) (s : State), (s.domOn 1 = false ∨ s.is (F.CLK_GATE_RUN b) = false ∨ s.is (F.CLK_GATE_DEEP b) = false ∧ s.fld F.THERM_STAT_LEVEL < 2 ∨ s.gateBusy
      b = true) ∧ s.IrqRemembered) ∧
    (∃ (b : Fin 10) (m : Master) (s : State), s.domOn 1 = true ∧ (s.is (F.CLK_GATE_RUN b) = false ∨ s.entering = true) ∧ s.midAccess b = true ∧ s.is
      (F.CLK_GATE_OPEN b) = true) ∧
    (∃ (m : Master) (s : State), s.domOn 1 = true ∧ (s.is (F.CLK_GATE_RUN 5) = false ∨ s.entering = true) ∧ s.midAccess 5 = true ∧ s.is (F.CLK_GATE_OPEN 5) = true) ∧
    (∃ (m : Master) (s : State), s.domOn 1 = true ∧ (s.is (F.CLK_GATE_RUN 9) = false ∨ s.entering = true) ∧ s.midAccess 9 = true ∧ s.is (F.CLK_GATE_OPEN 9) = true) ∧
    (∃ (m : Master) (s : State), s.domOn 1 = true ∧ (s.is (F.CLK_GATE_RUN 8) = false ∨ s.entering = true) ∧ s.midAccess 8 = true ∧ s.is (F.CLK_GATE_OPEN 8) = true) ∧
    (∃ (p : Fin 2) (m : Master) (s : State), s.domOn 1 = true ∧ s.domOn 15 = true ∧ (s.is (F.CLK_GATE_RUN (1 + p)) = false ∨ s.entering = true) ∧ s.midAccess (1 +
      p) = true ∧ s.is (F.CLK_GATE_OPEN (1 + p)) = true) ∧
    (∃ (b : Fin 10) (m : Master) (s : State), (s.domOn 1 = false ∨ s.is (F.CLK_GATE_RUN b) = true ∧ s.entering = false ∨ s.is (F.CLK_GATE_OPEN b) = false ∨
      s.midAccess b = false) ∧ s.IrqRemembered) :=
  ⟨⟨2509, { lit with clk := { lit.clk with ref := ⟨7, 0⟩ } }, by decide⟩,
      ⟨2509, { lit with clk := { lit.clk with ref := ⟨6, 0⟩ } }, by decide⟩,
      ⟨2508, { lit with clk := { lit.clk with ref := ⟨7, 0⟩ } }, by decide⟩,
      ⟨2509, { lit.put F.CLK_STAT_REF_OK true with clk := { lit.clk with ref := ⟨0, 1⟩ } }, by decide⟩,
      ⟨2458, { lit.put F.CLK_STAT_REF_OK true with clk := { lit.clk with ref := ⟨8, 0⟩ } }, by decide⟩,
      ⟨2457, { lit.put F.CLK_STAT_REF_OK true with clk := { lit.clk with ref := ⟨8, 0⟩ } }, by decide⟩,
      ⟨40958, { lit.put F.CLK_STAT_REF_OK true with clk := { lit.clk with root := ⟨7, 0⟩ } }, by decide⟩,
      ⟨40960, { lit with clk := { lit.clk with root := ⟨7, 0⟩ } }, by decide⟩,
      ⟨40958, { lit.put F.CLK_STAT_REF_OK true with clk := { lit.clk with root := ⟨6, 0⟩ } }, by decide⟩,
      ⟨40957, { lit.put F.CLK_STAT_REF_OK true with clk := { lit.clk with root := ⟨7, 0⟩ } }, by decide⟩,
      ⟨40958, { lit.put F.CLK_STAT_ROOT_OK true with clk := { lit.clk with root := ⟨0, 1⟩ } }, by decide⟩,
      ⟨40956, { lit.put F.CLK_STAT_ROOT_OK true with clk := { lit.clk with root := ⟨8, 0⟩ } }, by decide⟩,
      ⟨40955, { lit.put F.CLK_STAT_ROOT_OK true with clk := { lit.clk with root := ⟨8, 0⟩ } }, by decide⟩,
      ⟨40955, { lit.put F.CLK_STAT_ROOT_OK true with clk := { lit.clk with root := ⟨8, 0⟩ } }, by decide⟩,
      ⟨29687500, { lit with clk := { lit.clk with slow := ⟨7, 0⟩ } }, by decide⟩,
      ⟨29687500, { lit with clk := { lit.clk with slow := ⟨6, 0⟩ } }, by decide⟩,
      ⟨29687499, { lit with clk := { lit.clk with slow := ⟨7, 0⟩ } }, by decide⟩,
      ⟨29687500, { lit.put F.CLK_STAT_SLOW_OK true with clk := { lit.clk with slow := ⟨0, 1⟩ } }, by decide⟩,
      ⟨28125000, { lit.put F.CLK_STAT_SLOW_OK true with clk := { lit.clk with slow := ⟨8, 0⟩ } }, by decide⟩,
      ⟨28124999, { lit.put F.CLK_STAT_SLOW_OK true with clk := { lit.clk with slow := ⟨8, 0⟩ } }, by decide⟩,
      ⟨1, 40960, lit.wr 0x04004000 0#32, by decide⟩,
      ⟨1, 50#16, lit.put F.CLK_STAT_REF_OK true, by decide⟩,
      ⟨2, 0#16, lit, by decide⟩,
      ⟨.supS, true, lit.put F.CLK_STAT_ROOT_OK true, by decide⟩,
      ⟨.supS, lit, by decide⟩,
      ⟨.hostS, true, lit, by decide⟩,
      ⟨20, { ((lit.put F.MODE_STATUS_BUSY true).setFld F.MODE_STATUS_IN_TARGET 2) with trans := { lit.trans with waitFor := [20, 21] } }, by decide⟩,
      ⟨4, { ((lit.put F.MODE_STATUS_BUSY true).setFld F.MODE_STATUS_IN_TARGET 2) with trans := { lit.trans with waitFor := [20, 21] } }, by decide⟩,
      ⟨lit, by decide⟩,
      ⟨6, lit.put (F.CLK_GATE_SLEEP 6) true, by decide⟩,
      ⟨6, lit.wr 0x04004000 0#32, by decide⟩,
      ⟨6, (lit.put (F.CLK_GATE_DEEP 6) true).put (F.CLK_GATE_OPEN 6) false, by decide⟩,
      ⟨6, lit, by decide⟩,
      ⟨5, .hostNS, (lit.put F.FLASH_STAT_BUSY true).put (F.CLK_GATE_RUN 5) false, by decide⟩,
      ⟨.hostNS, ((lit.put F.FLASH_STAT_BUSY true).put (F.CLK_GATE_RUN 5) false), by decide⟩,
      ⟨.hostS, ((lit.put (F.TIME_GT_CTL_ARMED 2) true).put (F.CLK_GATE_RUN 9) false), by decide⟩,
      ⟨.hostS, ((lit.setFld (F.DMA_CH_STAT_STATE 7) 1).put (F.CLK_GATE_RUN 8) false), by decide⟩,
      ⟨1, .supS, (((tw.put (F.CLK_GATE_RUN 2) false).wr R.TOW_ROUTE_LO 4#32).setFld (F.TOW_RWIN_DEV_DEV 1) 2).setWin 1 { sent := [(7, ⟨8, 0x04010A08, 4, some (.port .hostS), []⟩)], waiting := [] }, by decide⟩,
      ⟨5, .hostNS, lit, by decide⟩⟩

theorem test_meets_TimebaseAndTimersFollowTheirRules :
    (∃ (n : BitVec 32) (s : State), s.dorm.phase = .waking ∧ s.dorm.stopped = true ∧ n ≠ 0xFFFFFFFF#32 ∧ (∀ i : Fin 4, s.is (F.TIME_GT_CTL_ARMED i) = false)) ∧
    (∃ (n : BitVec 32) (s : State), s.dorm.phase = .waking ∧ s.dorm.stopped = true ∧ s.tb.toNat ≤ (BitVec.ofNat 64 (s.dorm.t0 + (2 * n.toNat * s.dorm.period * 25 +
      512) / 1024)).toNat) ∧
    (∃ (s : State), s.dorm.phase = .waking ∧ s.dorm.stopped = true) ∧
    (∃ (n : BitVec 32) (s : State), (s.dorm.phase ≠ .waking ∨ s.dorm.stopped = false) ∧ s.IrqRemembered) ∧
    (∃ (s : State), s.domOn 1 = true) ∧
    (∃ (s : State), s.domOn 1 = false ∧ s.IrqRemembered) ∧
    (∃ (m : Master) (s : State), s.Reached m R.TIME_TB_LO) ∧
    (∃ (m : Master) (s : State), s.Reached m R.TIME_CTL ∧ (m.code = 1 ∨ m.code = 3) ∧ ((s.rd R.TIME_SYNC_LOAD_HI ++ s.rd R.TIME_SYNC_LOAD_LO).toNat < s.tb.toNat ∨
      (∀ i : Fin 4, s.is (F.TIME_GT_CTL_ARMED i) = false))) ∧
    (∃ (m : Master) (s : State), s.Reached m R.TIME_CTL ∧ (m.code = 1 ∨ m.code = 3) ∧ s.tb.toNat ≤ (s.rd R.TIME_SYNC_LOAD_HI ++ s.rd R.TIME_SYNC_LOAD_LO).toNat) ∧
    (∃ (m : Master) (s : State), s.Reached m R.TIME_CTL ∧ m.code ≠ 1 ∧ m.code ≠ 3) ∧
    (∃ (m : Master) (s : State), s.Reached m R.TIME_CTL ∧ (m.code = 1 ∨ m.code = 3)) ∧
    (∃ (m : Master) (s : State), s.Reached m R.TIME_CTL ∧ m.code ≠ 1 ∧ m.code ≠ 3) ∧
    (∃ (rising : Bool) (s : State), s.claimUse 0 = 2 ∧ s.domOn 1 = true ∧ rising = !s.is F.TIME_CTL_PPS_EDGE ∧ s.clk.ppsAt = none) ∧
    (∃ (rising : Bool) (s : State) (at' : Nat), s.claimUse 0 = 2 ∧ s.domOn 1 = true ∧ rising = !s.is F.TIME_CTL_PPS_EDGE ∧ s.clk.ppsAt = some at' ∧ at' + 390625000
      ≤ s.clock) ∧
    (∃ (rising : Bool) (s : State) (at' : Nat), s.claimUse 0 = 2 ∧ s.domOn 1 = true ∧ rising = !s.is F.TIME_CTL_PPS_EDGE ∧ s.clk.ppsAt = some at' ∧ s.clock < at' +
      390625000) ∧
    (∃ (rising : Bool) (s : State), (s.claimUse 0 ≠ 2 ∨ s.domOn 1 = false ∨ rising = s.is F.TIME_CTL_PPS_EDGE) ∧ s.IrqRemembered) ∧
    (∃ (m : Master) (i : Fin 4) (s : State), s.Reached m (R.TIME_GT_CTL i) ∧ s.fld (F.MODE_CLAIM_TIMER_USE i) = 1 ∧ s.fld (F.MODE_CLAIM_TIMER_HOLDER i) = m.holder ∧
      s.is (F.MODE_CLAIM_TIMER_HOLDER_SEC i) = m.secBit ∧ s.is (F.CLK_GATE_RUN 9) = true ∧ s.tb.toNat < s.gtCmp i) ∧
    (∃ (m : Master) (i : Fin 4) (s : State), s.Reached m (R.TIME_GT_CTL i) ∧ s.fld (F.MODE_CLAIM_TIMER_USE i) = 1 ∧ s.fld (F.MODE_CLAIM_TIMER_HOLDER i) = m.holder ∧
      s.is (F.MODE_CLAIM_TIMER_HOLDER_SEC i) = m.secBit ∧ s.is (F.CLK_GATE_RUN 9) = true ∧ s.gtCmp i ≤ s.tb.toNat) ∧
    (∃ (m : Master) (i : Fin 4) (s : State), s.Reached m (R.TIME_GT_CTL i) ∧ s.fld (F.MODE_CLAIM_TIMER_USE i) = 1 ∧ s.fld (F.MODE_CLAIM_TIMER_HOLDER i) = m.holder ∧
      s.is (F.MODE_CLAIM_TIMER_HOLDER_SEC i) = m.secBit ∧ s.is (F.CLK_GATE_RUN 9) = false) ∧
    (∃ (m : Master) (i : Fin 4) (s : State), s.Reached m (R.TIME_GT_CTL i) ∧ (s.fld (F.MODE_CLAIM_TIMER_USE i) ≠ 1 ∨ s.fld (F.MODE_CLAIM_TIMER_HOLDER i) ≠ m.holder
      ∨ s.is (F.MODE_CLAIM_TIMER_HOLDER_SEC i) ≠ m.secBit)) ∧
    (∃ (i : Fin 4) (s : State), s.is (F.TIME_GT_CTL_ARMED i) = true ∧ s.gtCmp i ≤ s.tb.toNat) ∧
    (∃ (i : Fin 4) (s : State), (s.is (F.TIME_GT_CTL_ARMED i) = false ∨ s.tb.toNat < s.gtCmp i) ∧ s.IrqRemembered) :=
  ⟨⟨98304#32, { lit with dorm := { lit.dorm with phase := .waking, stopped := true, t0 := 0x40000000, period := 486400 } }, by decide⟩,
      ⟨98304#32, { (lit.put (F.TIME_GT_CTL_ARMED 2) true).wr (R.TIME_GT_CMP_LO 2) 0x50000000#32 with dorm := { lit.dorm with phase := .waking, stopped := true, t0 := 0x40000000, period := 486400 } }, by decide⟩,
      ⟨{ lit with dorm := { lit.dorm with phase := .waking, stopped := true, t0 := 0x40000000, period := 486400 } }, by decide⟩,
      ⟨1#32, lit, by decide⟩,
      ⟨lit, by decide⟩,
      ⟨lit.wr 0x04004000 0#32, by decide⟩,
      ⟨.hostS, { lit with tb := 0x123456789ABCDEF0#64 }, by decide⟩,
      ⟨.hostS, (lit.wr R.TIME_SYNC_LOAD_HI 7#32).wr R.TIME_UNCERT 9#32, by decide⟩,
      ⟨.hostS, ((lit.wr R.TIME_SYNC_LOAD_LO 9#32).put (F.TIME_GT_CTL_ARMED 1) true).wr (R.TIME_GT_CMP_LO 1) 9#32, by decide⟩,
      ⟨.hostNS, lit, by decide⟩,
      ⟨.hostS, (lit.wr R.TIME_UNCERT 9#32).put F.TIME_STAT_SLEEP_OVF true, by decide⟩,
      ⟨.smp, lit.wr R.TIME_UNCERT 9#32, by decide⟩,
      ⟨true, { lit.setFld F.MODE_CLAIM_MONSYNC_USE 2 with tb := 0x123456789ABCDEF0#64 }, by decide⟩,
      ⟨true, { lit.setFld F.MODE_CLAIM_MONSYNC_USE 2 with clk := { lit.clk with ppsAt := some 0 }, clock := 390625000 }, 0, by decide⟩,
      ⟨true, { lit.setFld F.MODE_CLAIM_MONSYNC_USE 2 with clk := { lit.clk with ppsAt := some 0 }, clock := 390624999 }, 0, by decide⟩,
      ⟨true, lit, by decide⟩,
      ⟨.hostS, 2, (lit.wr (R.MODE_CLAIM_TIMER 2) 0x31#32).wr (R.TIME_GT_CMP_HI 2) 1#32, by decide⟩,
      ⟨.hostS, 2, (lit.wr (R.MODE_CLAIM_TIMER 2) 0x31#32), by decide⟩,
      ⟨.hostS, 2, (lit.wr (R.MODE_CLAIM_TIMER 2) 0x31#32).put (F.CLK_GATE_RUN 9) false, by decide⟩,
      ⟨.hostNS, 2, lit, by decide⟩,
      ⟨2, lit.put (F.TIME_GT_CTL_ARMED 2) true, by decide⟩,
      ⟨2, lit, by decide⟩⟩

theorem test_meets_BootSourcesDeliverImages :
    (∃ (m : Master) (v : Word) (s : State), s.Reached m R.FLASH_BOOT_DOOR ∧ (m = .hostS ∧ s.pins.bootSel = 1 ∨ m = .smp ∧ s.pins.bootSel = 2 ∨ m = .tow true ∧
      s.pins.bootSel = 3) ∧ s.fld F.FLASH_BOOT_STAT_PHASE = 1) ∧
    (∃ (m : Master) (v : Word) (s : State), s.Reached m R.FLASH_BOOT_DOOR ∧ (m = .hostS ∧ s.pins.bootSel = 1 ∨ m = .smp ∧ s.pins.bootSel = 2 ∨ m = .tow true ∧
      s.pins.bootSel = 3) ∧ s.fld F.FLASH_BOOT_STAT_PHASE ≠ 1) ∧
    (∃ (m : Master) (v : Word) (s : State), s.Reached m R.FLASH_BOOT_DOOR ∧ ¬ (m = .hostS ∧ s.pins.bootSel = 1 ∨ m = .smp ∧ s.pins.bootSel = 2 ∨ m = .tow true ∧
      s.pins.bootSel = 3)) ∧
    (∃ (slot : Fin 2) (image : List (BitVec 8)) (s : State), s.domOn 1 = true ∧ s.fld F.FLASH_BOOT_STAT_PHASE = 2 ∧ s.pins.bootSel = 0 ∧ slot.val = s.fld
      F.FLASH_BOOT_STAT_SLOT ∧ (s.fld F.LIFE_STATE_STATE = 5 ∨ imageFormed image = false ∨ s.fld F.LIFE_STATE_STATE ≠ 1 ∧ allZero (slice image 0x20 97) = true)) ∧
    (∃ (slot : Fin 2) (image : List (BitVec 8)) (s : State), s.domOn 1 = true ∧ s.fld F.FLASH_BOOT_STAT_PHASE = 2 ∧ s.pins.bootSel = 0 ∧ slot.val = s.fld
      F.FLASH_BOOT_STAT_SLOT ∧ s.fld F.LIFE_STATE_STATE = 1 ∧ imageFormed image = true ∧ allZero (slice image 0x20 97) = true ∧ s.is F.MEMX_STAT_FILLED = true ∧ s.rd
      R.MEMX_REMOVED_LO = 0#32 ∧ s.integ.test = none ∧ s.ecc (eccBase (0x01001000 + (wordOf image 0xC - 1))) = .clean) ∧
    (∃ (slot : Fin 2) (image : List (BitVec 8)) (s : State), s.domOn 1 = true ∧ s.fld F.FLASH_BOOT_STAT_PHASE = 2 ∧ s.pins.bootSel = 0 ∧ slot.val = s.fld
      F.FLASH_BOOT_STAT_SLOT ∧ s.fld F.LIFE_STATE_STATE ≤ 4 ∧ imageFormed image = true ∧ allZero (slice image 0x20 97) = false ∧ s.is F.MEMX_STAT_FILLED = true ∧ s.rd
      R.MEMX_REMOVED_LO = 0#32 ∧ s.integ.test = none ∧ s.ecc (eccBase (0x01001000 + (wordOf image 0xC - 1))) = .clean) ∧
    (∃ (slot : Fin 2) (given : List (BitVec 8)) (image : List (BitVec 8)) (s : State), s.domOn 1 = true ∧ s.fld F.FLASH_BOOT_STAT_PHASE = 2 ∧ s.pins.bootSel ≠ 0 ∧
      s.fld F.FLASH_BOOT_DOOR_LENGTH ≤ 0x400000 ∧ s.memRead ⟨2, 1⟩ 0x02000000 (s.fld F.FLASH_BOOT_DOOR_LENGTH) = (s, .done, image) ∧ (s.fld F.LIFE_STATE_STATE = 5 ∨
      imageFormed image = false ∨ s.fld F.LIFE_STATE_STATE ≠ 1 ∧ allZero (slice image 0x20 97) = true)) ∧
    (∃ (slot : Fin 2) (given : List (BitVec 8)) (image : List (BitVec 8)) (s : State), s.domOn 1 = true ∧ s.fld F.FLASH_BOOT_STAT_PHASE = 2 ∧ s.pins.bootSel ≠ 0 ∧
      s.fld F.FLASH_BOOT_DOOR_LENGTH ≤ 0x400000 ∧ s.memRead ⟨2, 1⟩ 0x02000000 (s.fld F.FLASH_BOOT_DOOR_LENGTH) = (s, .done, image) ∧ s.fld F.LIFE_STATE_STATE = 1 ∧
      imageFormed image = true ∧ allZero (slice image 0x20 97) = true ∧ s.is F.MEMX_STAT_FILLED = true ∧ s.rd R.MEMX_REMOVED_LO = 0#32 ∧ s.integ.test = none ∧ s.ecc
      (eccBase (0x01001000 + (wordOf image 0xC - 1))) = .clean) ∧
    (∃ (slot : Fin 2) (given : List (BitVec 8)) (image : List (BitVec 8)) (s : State), s.domOn 1 = true ∧ s.fld F.FLASH_BOOT_STAT_PHASE = 2 ∧ s.pins.bootSel ≠ 0 ∧
      s.fld F.FLASH_BOOT_DOOR_LENGTH ≤ 0x400000 ∧ s.memRead ⟨2, 1⟩ 0x02000000 (s.fld F.FLASH_BOOT_DOOR_LENGTH) = (s, .done, image) ∧ s.fld F.LIFE_STATE_STATE ≤ 4 ∧
      imageFormed image = true ∧ allZero (slice image 0x20 97) = false ∧ s.is F.MEMX_STAT_FILLED = true ∧ s.rd R.MEMX_REMOVED_LO = 0#32 ∧ s.integ.test = none ∧ s.ecc
      (eccBase (0x01001000 + (wordOf image 0xC - 1))) = .clean) ∧
    (∃ (slot : Fin 2) (image : List (BitVec 8)) (s : State), s.domOn 1 = true ∧ s.fld F.FLASH_BOOT_STAT_PHASE = 2 ∧ s.pins.bootSel ≠ 0 ∧ 0x400000 < s.fld
      F.FLASH_BOOT_DOOR_LENGTH) ∧
    (∃ (slot : Fin 2) (image : List (BitVec 8)) (s : State), (s.domOn 1 = false ∨ s.fld F.FLASH_BOOT_STAT_PHASE ≠ 2 ∨ s.pins.bootSel = 0 ∧ slot.val ≠ s.fld
      F.FLASH_BOOT_STAT_SLOT) ∧ s.IrqRemembered) ∧
    (∃ (m : Master) (v : Word) (s : State), s.Reached m R.FLASH_CMD ∧ m.code = 1 ∧ s.is F.FLASH_STAT_BUSY = false ∧ s.is (F.CLK_GATE_RUN 5) = true ∧ (bitsOf v.toNat
      10 2 = 0 ∨ bitsOf v.toNat 10 2 = 3) ∧ 0x02000000 ≤ (s.rd R.FLASH_BUF).toNat ∧ (s.rd R.FLASH_BUF).toNat < 0x02400000) ∧
    (∃ (m : Master) (v : Word) (s : State), s.Reached m R.FLASH_CMD ∧ m.code = 1 ∧ s.is F.FLASH_STAT_BUSY = false ∧ s.is (F.CLK_GATE_RUN 5) = true ∧ bitsOf v.toNat
      10 2 = 1 ∧ 0x02000000 ≤ (s.rd R.FLASH_BUF).toNat ∧ (s.rd R.FLASH_BUF).toNat + s.fld F.FLASH_LEN_LEN ≤ 0x02400000 ∧ s.fld F.FLASH_LEN_LEN ≤ 65536) ∧
    (∃ (m : Master) (v : Word) (data : List (BitVec 8)) (s : State), s.Reached m R.FLASH_CMD ∧ m.code = 1 ∧ s.is F.FLASH_STAT_BUSY = false ∧ s.is (F.CLK_GATE_RUN 5)
      = true ∧ bitsOf v.toNat 10 2 = 2 ∧ 0x02000000 ≤ (s.rd R.FLASH_BUF).toNat ∧ (s.rd R.FLASH_BUF).toNat + s.fld F.FLASH_LEN_LEN ≤ 0x02400000 ∧ s.fld F.FLASH_LEN_LEN
      ≤ 65536 ∧ s.memRead ⟨2, 1⟩ (s.rd R.FLASH_BUF).toNat (s.fld F.FLASH_LEN_LEN) = (s, .done, data)) ∧
    (∃ (m : Master) (v : Word) (s : State), s.Reached m R.FLASH_CMD ∧ m.code ≠ 1) ∧
    (∃ (m : Master) (v : Word) (s : State), s.Reached m R.FLASH_CMD ∧ m.code = 1 ∧ s.is F.FLASH_STAT_BUSY = true) ∧
    (∃ (m : Master) (v : Word) (s : State), s.Reached m R.FLASH_CMD ∧ m.code = 1 ∧ s.is F.FLASH_STAT_BUSY = false ∧ ((s.rd R.FLASH_BUF).toNat < 0x02000000 ∨
      0x02400000 ≤ (s.rd R.FLASH_BUF).toNat ∧ (bitsOf v.toNat 10 2 = 0 ∨ bitsOf v.toNat 10 2 = 3) ∨ (bitsOf v.toNat 10 2 = 1 ∨ bitsOf v.toNat 10 2 = 2) ∧ (65536 <
      s.fld F.FLASH_LEN_LEN ∨ 0x02400000 < (s.rd R.FLASH_BUF).toNat + s.fld F.FLASH_LEN_LEN))) ∧
    (∃ (m : Master) (v : Word) (s : State), s.Reached m R.FLASH_CMD ∧ m.code = 1 ∧ s.is F.FLASH_STAT_BUSY = false ∧ s.is (F.CLK_GATE_RUN 5) = false ∧ 0x02000000 ≤
      (s.rd R.FLASH_BUF).toNat ∧ ((bitsOf v.toNat 10 2 = 0 ∨ bitsOf v.toNat 10 2 = 3) ∧ (s.rd R.FLASH_BUF).toNat < 0x02400000 ∨ s.fld F.FLASH_LEN_LEN ≤ 65536 ∧
      (bitsOf v.toNat 10 2 = 1 ∨ bitsOf v.toNat 10 2 = 2) ∧ (s.rd R.FLASH_BUF).toNat + s.fld F.FLASH_LEN_LEN ≤ 0x02400000)) ∧
    (∃ (answer : List (BitVec 8) × List (BitVec 8)) (r : FlashRun) (s : State), s.flash = some r ∧ r.poll = false ∧ r.dir ≠ 1) ∧
    (∃ (answer : List (BitVec 8) × List (BitVec 8)) (r : FlashRun) (s : State), s.flash = some r ∧ r.poll = false ∧ r.dir = 1 ∧ r.len = 4 ∧ answer.1.length = 4 ∧
      r.buf % 4 = 0 ∧ 0x02000000 ≤ r.buf ∧ r.buf + 4 ≤ 0x02400000 ∧ s.Sound r.buf) ∧
    (∃ (answer : List (BitVec 8) × List (BitVec 8)) (r : FlashRun) (s : State), s.flash = some r ∧ r.poll = true ∧ r.dir ≠ 1 ∧ answer.2 = []) ∧
    (∃ (bytes : List (BitVec 8)) (p0 p1 : BitVec 8) (r : FlashRun) (s : State), s.flash = some r ∧ r.poll = true ∧ r.dir ≠ 1 ∧ p0.getLsbD 0 = true ∧ p1.getLsbD 0 =
      false) ∧
    (∃ (bytes : List (BitVec 8)) (p0 p1 : BitVec 8) (r : FlashRun) (s : State), s.flash = some r ∧ r.poll = true ∧ r.dir ≠ 1 ∧ p0.getLsbD 0 = true ∧ p1.getLsbD 0 =
      true) ∧
    (∃ (bytes : List (BitVec 8)) (p0 p1 : BitVec 8) (r : FlashRun) (s : State), s.flash = some r ∧ r.poll = true ∧ r.dir ≠ 1 ∧ p0.getLsbD 0 = false) ∧
    (∃ (answer : List (BitVec 8) × List (BitVec 8)) (s : State), s.flash = none ∧ s.IrqRemembered) ∧
    (∃ (s : State), s.is F.FLASH_STAT_BUSY = true) ∧
    (∃ (s : State), s.is F.FLASH_STAT_BUSY = false ∧ s.IrqRemembered) :=
  ⟨⟨.hostS, 0x1234#32, { (lit.setFld F.FLASH_BOOT_STAT_PHASE 1) with pins := { lit.pins with bootSel := 1 } }, by decide⟩,
      ⟨.hostS, 0x1234#32, { (lit.setFld F.FLASH_BOOT_STAT_PHASE 3) with pins := { lit.pins with bootSel := 1 } }, by decide⟩,
      ⟨.smp, 0x1234#32, { (lit.setFld F.FLASH_BOOT_STAT_PHASE 1) with pins := { lit.pins with bootSel := 1 } }, by decide⟩,
      ⟨0, [1#8, 2#8], (litb.setFld F.LIFE_STATE_STATE 1), by decide⟩,
      ⟨0, (img 3 4 (List.replicate 97 0#8) (List.replicate 96 7#8) [1#8, 2#8, 3#8, 4#8]), (litb.setFld F.LIFE_STATE_STATE 1), by decide⟩,
      ⟨0, (img 3 4 (List.replicate 97 1#8) (List.replicate 96 0#8) [1#8, 2#8, 3#8, 4#8]), (litb.setFld F.LIFE_STATE_STATE 3), by decide⟩,
      ⟨0, [], [1#8, 2#8], { (((lit.put F.MEMX_STAT_FILLED true).setFld F.FLASH_BOOT_STAT_PHASE 2).setFld F.LIFE_STATE_STATE 1).setFld F.FLASH_BOOT_DOOR_LENGTH ([1#8, 2#8]).length with pins := { lit.pins with bootSel := 1 }, mem := memOf 0x02000000 ([1#8, 2#8]) }, by decide⟩,
      ⟨0, [], (img 3 4 (List.replicate 97 0#8) (List.replicate 96 7#8) [1#8, 2#8, 3#8, 4#8]), { (((lit.put F.MEMX_STAT_FILLED true).setFld F.FLASH_BOOT_STAT_PHASE 2).setFld F.LIFE_STATE_STATE 1).setFld F.FLASH_BOOT_DOOR_LENGTH ((img 3 4 (List.replicate 97 0#8) (List.replicate 96 7#8) [1#8, 2#8, 3#8, 4#8])).length with pins := { lit.pins with bootSel := 1 }, mem := memOf 0x02000000 ((img 3 4 (List.replicate 97 0#8) (List.replicate 96 7#8) [1#8, 2#8, 3#8, 4#8])) }, by decide⟩,
      ⟨0, [], (img 3 4 (List.replicate 97 1#8) (List.replicate 96 0#8) [1#8, 2#8, 3#8, 4#8]), { (((lit.put F.MEMX_STAT_FILLED true).setFld F.FLASH_BOOT_STAT_PHASE 2).setFld F.LIFE_STATE_STATE 3).setFld F.FLASH_BOOT_DOOR_LENGTH ((img 3 4 (List.replicate 97 1#8) (List.replicate 96 0#8) [1#8, 2#8, 3#8, 4#8])).length with pins := { lit.pins with bootSel := 1 }, mem := memOf 0x02000000 ((img 3 4 (List.replicate 97 1#8) (List.replicate 96 0#8) [1#8, 2#8, 3#8, 4#8])) }, by decide⟩,
      ⟨0, [], { ((lit.setFld F.FLASH_BOOT_STAT_PHASE 2).setFld F.FLASH_BOOT_DOOR_LENGTH 0x400001) with pins := { lit.pins with bootSel := 1 } }, by decide⟩,
      ⟨1, [], litb, by decide⟩,
      ⟨.supS, 0x20C#32, (lit.wr R.FLASH_ADDR 0x12345678#32).wr R.FLASH_BUF 0x02000000#32, by decide⟩,
      ⟨.supS, 0x260B#32 ||| 0x400#32, (lit.wr R.FLASH_BUF 0x023FFFFC#32).wr R.FLASH_LEN 4#32, by decide⟩,
      ⟨.supS, 0xA02#32, [0#8, 7#8, 0#8, 0#8], { ((lit.put F.MEMX_STAT_FILLED true).wr R.FLASH_BUF 0x02000000#32).wr R.FLASH_LEN 4#32 with mem := [(0x02000001, 7#8)] }, by decide⟩,
      ⟨.hostS, 0x20C#32, lit, by decide⟩,
      ⟨.supS, 0x20C#32, lit.put F.FLASH_STAT_BUSY true, by decide⟩,
      ⟨.supS, 0x603#32, lit, by decide⟩,
      ⟨.supS, 0x20C#32, (lit.put (F.CLK_GATE_RUN 5) false).wr R.FLASH_BUF 0x02000000#32, by decide⟩,
      ⟨([], []), ⟨0, 0x02000010, 4, false⟩, { litb.put F.FLASH_STAT_BUSY true with flash := some ⟨0, 0x02000010, 4, false⟩ }, by decide⟩,
      ⟨([1#8, 2#8, 3#8, 4#8], []), ⟨1, 0x02000010, 4, false⟩, { litb.put F.FLASH_STAT_BUSY true with flash := some ⟨1, 0x02000010, 4, false⟩ }, by unfold State.Sound; decide⟩,
      ⟨([], []), ⟨0, 0x02000010, 4, true⟩, { litb.put F.FLASH_STAT_BUSY true with flash := some ⟨0, 0x02000010, 4, true⟩ }, by decide⟩,
      ⟨[], 0x03#8, 0x02#8, ⟨2, 0x02000010, 4, true⟩, { litb.put F.FLASH_STAT_BUSY true with flash := some ⟨2, 0x02000010, 4, true⟩ }, by decide⟩,
      ⟨[], 0x03#8, 0x01#8, ⟨2, 0x02000010, 4, true⟩, { litb.put F.FLASH_STAT_BUSY true with flash := some ⟨2, 0x02000010, 4, true⟩ }, by decide⟩,
      ⟨[], 0x02#8, 0x01#8, ⟨2, 0x02000010, 4, true⟩, { litb.put F.FLASH_STAT_BUSY true with flash := some ⟨2, 0x02000010, 4, true⟩ }, by decide⟩,
      ⟨([], []), lit, by decide⟩,
      ⟨lit.put F.FLASH_STAT_BUSY true, by decide⟩,
      ⟨lit, by decide⟩⟩

theorem test_meets_LifecycleCommandsBurnWhatTheyMay :
    (∃ (m : Master) (v : Word) (s : State), s.Reached m R.LIFE_CMD ∧ s.is F.LIFE_STAT_BUSY = true) ∧
    (∃ (m : Master) (v : Word) (s : State), s.Reached m R.LIFE_CMD ∧ s.is F.LIFE_STAT_BUSY = false ∧ m.code ≠ 1) ∧
    (∃ (m : Master) (v : Word) (s : State), s.Reached m R.LIFE_CMD ∧ s.is F.LIFE_STAT_BUSY = false ∧ m.code = 1 ∧ ¬ (bitsOf v.toNat 4 3 = 2 ∧ s.fld
      F.LIFE_STATE_STATE = 1 ∨ bitsOf v.toNat 4 3 = 3 ∧ s.fld F.LIFE_STATE_STATE = 2 ∨ bitsOf v.toNat 4 3 = 5 ∧ 1 ≤ s.fld F.LIFE_STATE_STATE ∧ s.fld
      F.LIFE_STATE_STATE ≤ 4)) ∧
    (∃ (m : Master) (v : Word) (s : State), s.Reached m R.LIFE_CMD ∧ s.is F.LIFE_STAT_BUSY = false ∧ m.code = 1 ∧ (bitsOf v.toNat 4 3 = 2 ∧ s.fld F.LIFE_STATE_STATE
      = 1 ∨ bitsOf v.toNat 4 3 = 3 ∧ s.fld F.LIFE_STATE_STATE = 2 ∨ bitsOf v.toNat 4 3 = 5 ∧ 1 ≤ s.fld F.LIFE_STATE_STATE ∧ s.fld F.LIFE_STATE_STATE ≤ 4) ∧ bitsOf
      v.toNat 4 3 = 2 ∧ s.slotFull 0 = false) ∧
    (∃ (m : Master) (v : Word) (s : State), s.Reached m R.LIFE_CMD ∧ s.is F.LIFE_STAT_BUSY = false ∧ m.code = 1 ∧ (bitsOf v.toNat 4 3 = 2 ∧ s.fld F.LIFE_STATE_STATE
      = 1 ∨ bitsOf v.toNat 4 3 = 3 ∧ s.fld F.LIFE_STATE_STATE = 2 ∨ bitsOf v.toNat 4 3 = 5 ∧ 1 ≤ s.fld F.LIFE_STATE_STATE ∧ s.fld F.LIFE_STATE_STATE ≤ 4) ∧ (bitsOf
      v.toNat 4 3 ≠ 2 ∨ s.slotFull 0 = true)) ∧
    (∃ (m : Master) (v : Word) (s : State), s.Reached m R.LIFE_CMD ∧ s.is F.LIFE_STAT_BUSY = true) ∧
    (∃ (m : Master) (v : Word) (s : State), s.Reached m R.LIFE_CMD ∧ s.is F.LIFE_STAT_BUSY = false ∧ m.code ≠ 1) ∧
    (∃ (m : Master) (v : Word) (s : State), s.Reached m R.LIFE_CMD ∧ s.is F.LIFE_STAT_BUSY = false ∧ m.code = 1 ∧ ¬ (s.fld F.LIFE_STATE_STATE = 1 ∨ s.fld
      F.LIFE_STATE_STATE = 2 ∨ bitsOf v.toNat 8 1 = 1 ∧ s.fld F.LIFE_STATE_STATE = 3)) ∧
    (∃ (m : Master) (v : Word) (s : State), s.Reached m R.LIFE_CMD ∧ s.is F.LIFE_STAT_BUSY = false ∧ m.code = 1 ∧ (s.fld F.LIFE_STATE_STATE = 1 ∨ s.fld
      F.LIFE_STATE_STATE = 2 ∨ bitsOf v.toNat 8 1 = 1 ∧ s.fld F.LIFE_STATE_STATE = 3) ∧ ((s.rd R.LIFE_ARG).toNat < 0x02000000 ∨ 0x02400000 < (s.rd R.LIFE_ARG).toNat +
      48)) ∧
    (∃ (m : Master) (v : Word) (s : State), s.Reached m R.LIFE_CMD ∧ s.is F.LIFE_STAT_BUSY = false ∧ m.code = 1 ∧ (s.fld F.LIFE_STATE_STATE = 1 ∨ s.fld
      F.LIFE_STATE_STATE = 2 ∨ bitsOf v.toNat 8 1 = 1 ∧ s.fld F.LIFE_STATE_STATE = 3) ∧ 0x02000000 ≤ (s.rd R.LIFE_ARG).toNat ∧ (s.rd R.LIFE_ARG).toNat + 48 ≤
      0x02400000 ∧ s.slotFull (bitsOf v.toNat 8 1) = true) ∧
    (∃ (m : Master) (v : Word) (s : State), s.Reached m R.LIFE_CMD ∧ s.is F.LIFE_STAT_BUSY = false ∧ m.code = 1 ∧ (s.fld F.LIFE_STATE_STATE = 1 ∨ s.fld
      F.LIFE_STATE_STATE = 2 ∨ bitsOf v.toNat 8 1 = 1 ∧ s.fld F.LIFE_STATE_STATE = 3) ∧ 0x02000000 ≤ (s.rd R.LIFE_ARG).toNat ∧ (s.rd R.LIFE_ARG).toNat + 48 ≤
      0x02400000 ∧ s.slotFull (bitsOf v.toNat 8 1) = false) ∧
    (∃ (m : Master) (v : Word) (s : State), s.Reached m R.LIFE_CMD ∧ s.is F.LIFE_STAT_BUSY = true) ∧
    (∃ (m : Master) (v : Word) (s : State), s.Reached m R.LIFE_CMD ∧ s.is F.LIFE_STAT_BUSY = false ∧ m.code ≠ 1) ∧
    (∃ (m : Master) (v : Word) (s : State), s.Reached m R.LIFE_CMD ∧ s.is F.LIFE_STAT_BUSY = false ∧ m.code = 1 ∧ ¬ (s.fld F.LIFE_STATE_STATE = 2 ∨ s.fld
      F.LIFE_STATE_STATE = 3)) ∧
    (∃ (m : Master) (v : Word) (s : State), s.Reached m R.LIFE_CMD ∧ s.is F.LIFE_STAT_BUSY = false ∧ m.code = 1 ∧ (s.fld F.LIFE_STATE_STATE = 2 ∨ s.fld
      F.LIFE_STATE_STATE = 3) ∧ (s.slotFull (1 - bitsOf v.toNat 8 1) = false ∨ s.slotRevoked (1 - bitsOf v.toNat 8 1) = true)) ∧
    (∃ (m : Master) (v : Word) (s : State), s.Reached m R.LIFE_CMD ∧ s.is F.LIFE_STAT_BUSY = false ∧ m.code = 1 ∧ (s.fld F.LIFE_STATE_STATE = 2 ∨ s.fld
      F.LIFE_STATE_STATE = 3) ∧ s.slotFull (1 - bitsOf v.toNat 8 1) = true ∧ s.slotRevoked (1 - bitsOf v.toNat 8 1) = false) ∧
    (∃ (m : Master) (v : Word) (s : State), s.Reached m R.LIFE_CMD ∧ s.is F.LIFE_STAT_BUSY = true) ∧
    (∃ (m : Master) (v : Word) (s : State), s.Reached m R.LIFE_CMD ∧ s.is F.LIFE_STAT_BUSY = false ∧ m.code ≠ 1) ∧
    (∃ (m : Master) (v : Word) (s : State), s.Reached m R.LIFE_CMD ∧ s.is F.LIFE_STAT_BUSY = false ∧ m.code = 1 ∧ (bitsOf v.toNat 16 7 < s.rollbackCount ∨ 64 <
      bitsOf v.toNat 16 7)) ∧
    (∃ (m : Master) (v : Word) (s : State), s.Reached m R.LIFE_CMD ∧ s.is F.LIFE_STAT_BUSY = false ∧ m.code = 1 ∧ s.rollbackCount ≤ bitsOf v.toNat 16 7 ∧ bitsOf
      v.toNat 16 7 ≤ 64) ∧
    (∃ (m : Master) (v : Word) (s : State), s.Reached m R.LIFE_CMD ∧ s.is F.LIFE_STAT_BUSY = true) ∧
    (∃ (m : Master) (v : Word) (s : State), s.Reached m R.LIFE_CMD ∧ s.is F.LIFE_STAT_BUSY = false ∧ m.code ≠ 1 ∧ m.code ≠ 3 ∧ m.code ≠ 5) ∧
    (∃ (m : Master) (v : Word) (s : State), s.Reached m R.LIFE_CMD ∧ s.is F.LIFE_STAT_BUSY = false ∧ (m.code = 1 ∨ m.code = 3 ∨ m.code = 5) ∧ ((s.rd
      R.LIFE_ARG).toNat < 0x02000000 ∨ 0x02400000 < (s.rd R.LIFE_ARG).toNat + 264)) ∧
    (∃ (m : Master) (v : Word) (s : State), s.Reached m R.LIFE_CMD ∧ s.is F.LIFE_STAT_BUSY = false ∧ (m.code = 1 ∨ m.code = 3 ∨ m.code = 5) ∧ 0x02000000 ≤ (s.rd
      R.LIFE_ARG).toNat ∧ (s.rd R.LIFE_ARG).toNat + 264 ≤ 0x02400000) ∧
    (∃ (m : Master) (v : Word) (s : State), s.Reached m R.LIFE_CMD ∧ s.is F.LIFE_STAT_BUSY = true) ∧
    (∃ (m : Master) (v : Word) (s : State), s.Reached m R.LIFE_CMD ∧ s.is F.LIFE_STAT_BUSY = false ∧ m.code ≠ 1) ∧
    (∃ (m : Master) (v : Word) (s : State), s.Reached m R.LIFE_CMD ∧ s.is F.LIFE_STAT_BUSY = false ∧ m.code = 1 ∧ ¬ (s.fld F.LIFE_STATE_STATE = 1 ∨ s.fld
      F.LIFE_STATE_STATE = 2)) ∧
    (∃ (m : Master) (v : Word) (s : State), s.Reached m R.LIFE_CMD ∧ s.is F.LIFE_STAT_BUSY = false ∧ m.code = 1 ∧ (s.fld F.LIFE_STATE_STATE = 1 ∨ s.fld
      F.LIFE_STATE_STATE = 2) ∧ ((s.rd R.LIFE_ARG).toNat < 0x02000000 ∨ 0x02400000 < (s.rd R.LIFE_ARG).toNat + 4)) ∧
    (∃ (m : Master) (v : Word) (s : State), s.Reached m R.LIFE_CMD ∧ s.is F.LIFE_STAT_BUSY = false ∧ m.code = 1 ∧ (s.fld F.LIFE_STATE_STATE = 1 ∨ s.fld
      F.LIFE_STATE_STATE = 2) ∧ 0x02000000 ≤ (s.rd R.LIFE_ARG).toNat ∧ (s.rd R.LIFE_ARG).toNat + 4 ≤ 0x02400000) ∧
    (∃ (r : LifeRun) (s : State), s.domOn 1 = true ∧ s.life.run = some r ∧ r.op = 1 ∧ 2 ≤ r.target ∧ r.target ≤ 5) ∧
    (∃ (r : LifeRun) (s : State), s.domOn 1 = true ∧ s.life.run = some r ∧ r.op = 1 ∧ 2 ≤ r.target ∧ r.target ≤ 5) ∧
    (∃ (r : LifeRun) (s : State), s.domOn 1 = true ∧ s.life.run = some r ∧ r.op = 2 ∧ r.slot < 2 ∧ (s.memRead ⟨2, 1⟩ r.addr 48).2.1 = .done) ∧
    (∃ (r : LifeRun) (s : State), s.domOn 1 = true ∧ s.life.run = some r ∧ r.op = 2 ∧ r.slot < 2 ∧ (s.memRead ⟨2, 1⟩ r.addr 48).2.1 = .done) ∧
    (∃ (ok : Bool) (r : LifeRun) (s : State), s.domOn 1 = true ∧ s.life.run = some r ∧ r.op = 2 ∧ r.slot < 2 ∧ (s.memRead ⟨2, 1⟩ r.addr 48).2.1 ≠ .done) ∧
    (∃ (r : LifeRun) (s : State), s.domOn 1 = true ∧ s.life.run = some r ∧ r.op = 3 ∧ r.slot < 2) ∧
    (∃ (r : LifeRun) (s : State), s.domOn 1 = true ∧ s.life.run = some r ∧ r.op = 3 ∧ r.slot < 2) ∧
    (∃ (r : LifeRun) (s : State), s.domOn 1 = true ∧ s.life.run = some r ∧ r.op = 4) ∧
    (∃ (r : LifeRun) (s : State), s.domOn 1 = true ∧ s.life.run = some r ∧ r.op = 4) ∧
    (∃ (r : LifeRun) (s : State), s.domOn 1 = true ∧ s.life.run = some r ∧ r.op = 6 ∧ r.slot < 2 ∧ (s.memRead ⟨2, 1⟩ r.addr 4).2.1 = .done) ∧
    (∃ (r : LifeRun) (s : State), s.domOn 1 = true ∧ s.life.run = some r ∧ r.op = 6 ∧ r.slot < 2 ∧ (s.memRead ⟨2, 1⟩ r.addr 4).2.1 = .done) ∧
    (∃ (ok : Bool) (r : LifeRun) (s : State), s.domOn 1 = true ∧ s.life.run = some r ∧ r.op = 6 ∧ r.slot < 2 ∧ (s.memRead ⟨2, 1⟩ r.addr 4).2.1 ≠ .done) ∧
    (∃ (ok : Bool) (r : LifeRun) (data : List (BitVec 8)) (s : State), s.domOn 1 = true ∧ s.life.run = some r ∧ r.op = 5 ∧ s.memRead ⟨2, 1⟩ r.addr 264 = (s, .done,
      data) ∧ s.tokenOk data r.master = false) ∧
    (∃ (r : LifeRun) (data : List (BitVec 8)) (acc : Bool) (s : State), s.domOn 1 = true ∧ s.life.run = some r ∧ r.op = 5 ∧ s.memRead ⟨2, 1⟩ r.addr 264 = (s, .done,
      data) ∧ wordOf data 0 = 0x4B545256 ∧ wordOf data 8 = (s.rd R.IDENT_LOT_LO).toNat ∧ wordOf data 0xC = (s.rd R.IDENT_LOT_HI).toNat ∧ wordOf data 0x10 = (s.rd
      R.IDENT_DIE).toNat % 65536 ∧ (∀ i : Fin 4, wordOf data (0x14 + 4 * i) = (s.rd (R.LIFE_NONCE i)).toNat) ∧ slice data 0x28 24 = List.replicate 24 0#8 ∧ slice data
      0xA1 7 = List.replicate 7 0#8 ∧ wordOf data 4 = 1 ∧ acc = decide (wordOf data 0x24 = 0 ∧ (s.fld F.LIFE_STATE_STATE = 2 ∨ s.fld F.LIFE_STATE_STATE = 3) ∧ s.keyOf
      (slice data 0x40 97) = 1 ∧ ecdsaP384 (sha384 (data.take 64)) (slice data 0x40 97) (slice data 0xA8 96) = true)) ∧
    (∃ (r : LifeRun) (data : List (BitVec 8)) (acc : Bool) (s : State), s.domOn 1 = true ∧ s.life.run = some r ∧ r.op = 5 ∧ s.memRead ⟨2, 1⟩ r.addr 264 = (s, .done,
      data) ∧ wordOf data 0 = 0x4B545256 ∧ wordOf data 8 = (s.rd R.IDENT_LOT_LO).toNat ∧ wordOf data 0xC = (s.rd R.IDENT_LOT_HI).toNat ∧ wordOf data 0x10 = (s.rd
      R.IDENT_DIE).toNat % 65536 ∧ (∀ i : Fin 4, wordOf data (0x14 + 4 * i) = (s.rd (R.LIFE_NONCE i)).toNat) ∧ slice data 0x28 24 = List.replicate 24 0#8 ∧ slice data
      0xA1 7 = List.replicate 7 0#8 ∧ wordOf data 4 = 1 ∧ acc = decide (wordOf data 0x24 = 0 ∧ (s.fld F.LIFE_STATE_STATE = 2 ∨ s.fld F.LIFE_STATE_STATE = 3) ∧ s.keyOf
      (slice data 0x40 97) = 1 ∧ ecdsaP384 (sha384 (data.take 64)) (slice data 0x40 97) (slice data 0xA8 96) = true)) ∧
    (∃ (ok : Bool) (r : LifeRun) (data : List (BitVec 8)) (s : State), s.domOn 1 = true ∧ s.life.run = some r ∧ r.op = 5 ∧ s.memRead ⟨2, 1⟩ r.addr 264 = (s, .done,
      data) ∧ wordOf data 0 = 0x4B545256 ∧ wordOf data 8 = (s.rd R.IDENT_LOT_LO).toNat ∧ wordOf data 0xC = (s.rd R.IDENT_LOT_HI).toNat ∧ wordOf data 0x10 = (s.rd
      R.IDENT_DIE).toNat % 65536 ∧ (∀ i : Fin 4, wordOf data (0x14 + 4 * i) = (s.rd (R.LIFE_NONCE i)).toNat) ∧ slice data 0x28 24 = List.replicate 24 0#8 ∧ slice data
      0xA1 7 = List.replicate 7 0#8 ∧ wordOf data 4 = 2) ∧
    (∃ (ok : Bool) (r : LifeRun) (s : State), s.domOn 1 = true ∧ s.life.run = some r ∧ r.op = 5 ∧ (s.memRead ⟨2, 1⟩ r.addr 264).2.1 ≠ .done) ∧
    (∃ (ok : Bool) (s : State), (s.domOn 1 = false ∨ s.life.run = none) ∧ s.IrqRemembered) :=
  ⟨⟨.supS, 0#32, (lifes 2).put F.LIFE_STAT_BUSY true, by decide⟩,
      ⟨.hostNS, 0x50000#32, lifes 3, by decide⟩,
      ⟨.supS, 0x30#32, lifes 3, by decide⟩,
      ⟨.supS, 0x20#32, lifes 1, by decide⟩,
      ⟨.supS, 0x30#32, lifes 2, by decide⟩,
      ⟨.supS, 0#32, (lifes 2).put F.LIFE_STAT_BUSY true, by decide⟩,
      ⟨.hostNS, 0x50000#32, lifes 3, by decide⟩,
      ⟨.supS, 0#32, lifes 3, by decide⟩,
      ⟨.supS, 0#32, (lifes 1).wr R.LIFE_ARG 0x023FFFD1#32, by decide⟩,
      ⟨.supS, 0#32, ({ lifes 2 with mem := [(0x05000200, 7#8)] }).wr R.LIFE_ARG 0x02000010#32, by decide⟩,
      ⟨.supS, 0x100#32, (lifes 3).wr R.LIFE_ARG 0x023FFFD0#32, by decide⟩,
      ⟨.supS, 0#32, (lifes 2).put F.LIFE_STAT_BUSY true, by decide⟩,
      ⟨.hostNS, 0x50000#32, lifes 3, by decide⟩,
      ⟨.supS, 0x100#32, lifes 1, by decide⟩,
      ⟨.supS, 0#32, { lifes 3 with mem := [(0x05000200, 7#8)] }, by decide⟩,
      ⟨.supS, 0x100#32, { lifes 3 with mem := [(0x05000200, 7#8)] }, by decide⟩,
      ⟨.supS, 0#32, (lifes 2).put F.LIFE_STAT_BUSY true, by decide⟩,
      ⟨.hostNS, 0x50000#32, lifes 3, by decide⟩,
      ⟨.supS, 0x410000#32, lifes 3, by decide⟩,
      ⟨.supS, 0x400000#32, lifes 3, by decide⟩,
      ⟨.supS, 0#32, (lifes 2).put F.LIFE_STAT_BUSY true, by decide⟩,
      ⟨.hostNS, 0x50000#32, lifes 3, by decide⟩,
      ⟨.smp, 0#32, (lifes 3).wr R.LIFE_ARG 0x023FFEF9#32, by decide⟩,
      ⟨.smp, 0#32, (lifes 3).wr R.LIFE_ARG 0x02000010#32, by decide⟩,
      ⟨.supS, 0#32, (lifes 2).put F.LIFE_STAT_BUSY true, by decide⟩,
      ⟨.hostNS, 0x50000#32, lifes 3, by decide⟩,
      ⟨.supS, 0#32, lifes 3, by decide⟩,
      ⟨.supS, 0#32, (lifes 2).wr R.LIFE_ARG 0x023FFFFD#32, by decide⟩,
      ⟨.supS, 0#32, (lifes 2).wr R.LIFE_ARG 0x023FFFFC#32, by decide⟩,
      ⟨⟨1, 3, 0, 0, 0, 1⟩, { (lifes 2).put F.LIFE_STAT_BUSY true with life := { run := some ⟨1, 3, 0, 0, 0, 1⟩, resetDue := false }, mem := [(0x05000100, 3#8), (0x05000101, 3#8)] }, by decide⟩,
      ⟨⟨1, 3, 0, 0, 0, 1⟩, { (lifes 2).put F.LIFE_STAT_BUSY true with life := { run := some ⟨1, 3, 0, 0, 0, 1⟩, resetDue := false }, mem := [(0x05000100, 3#8), (0x05000101, 3#8)] }, by decide⟩,
      ⟨⟨2, 0, 1, 0, 0x02000010, 1⟩, { (lifes 2).put F.LIFE_STAT_BUSY true with life := { run := some ⟨2, 0, 1, 0, 0x02000010, 1⟩, resetDue := false }, mem := [(0x02000010, 5#8), (0x0200003F, 6#8), (0x05000100, 3#8), (0x05000101, 3#8)] }, by decide⟩,
      ⟨⟨2, 0, 1, 0, 0x02000010, 1⟩, { (lifes 2).put F.LIFE_STAT_BUSY true with life := { run := some ⟨2, 0, 1, 0, 0x02000010, 1⟩, resetDue := false }, mem := [(0x02000010, 5#8), (0x0200003F, 6#8), (0x05000100, 3#8), (0x05000101, 3#8)] }, by decide⟩,
      ⟨true, ⟨2, 0, 1, 0, 0x02000010, 1⟩, { ((lifes 2).put F.LIFE_STAT_BUSY true).put F.MEMX_STAT_FILLED false with life := { run := some ⟨2, 0, 1, 0, 0x02000010, 1⟩, resetDue := false }, mem := [(0x02000010, 5#8), (0x0200003F, 6#8), (0x05000100, 3#8), (0x05000101, 3#8)] }, by decide⟩,
      ⟨⟨3, 0, 1, 0, 0, 1⟩, { (lifes 2).put F.LIFE_STAT_BUSY true with life := { run := some ⟨3, 0, 1, 0, 0, 1⟩, resetDue := false }, mem := [(0x05000100, 3#8), (0x05000101, 3#8)] }, by decide⟩,
      ⟨⟨3, 0, 1, 0, 0, 1⟩, { (lifes 2).put F.LIFE_STAT_BUSY true with life := { run := some ⟨3, 0, 1, 0, 0, 1⟩, resetDue := false }, mem := [(0x05000100, 3#8), (0x05000101, 3#8)] }, by decide⟩,
      ⟨⟨4, 0, 0, 13, 0, 1⟩, { (lifes 3).put F.LIFE_STAT_BUSY true with life := { run := some ⟨4, 0, 0, 13, 0, 1⟩, resetDue := false }, mem := [(0x05000100, 7#8), (0x05000101, 7#8), (0x05000268, 0x0F#8)] }, by decide⟩,
      ⟨⟨4, 0, 0, 13, 0, 1⟩, { (lifes 3).put F.LIFE_STAT_BUSY true with life := { run := some ⟨4, 0, 0, 13, 0, 1⟩, resetDue := false }, mem := [(0x05000100, 7#8), (0x05000101, 7#8), (0x05000268, 0x0F#8)] }, by decide⟩,
      ⟨⟨6, 0, 1, 0, 0x02000010, 1⟩, { (lifes 2).put F.LIFE_STAT_BUSY true with life := { run := some ⟨6, 0, 1, 0, 0x02000010, 1⟩, resetDue := false }, mem := [(0x02000010, 5#8), (0x02000013, 6#8), (0x05000100, 3#8), (0x05000101, 3#8)] }, by decide⟩,
      ⟨⟨6, 0, 1, 0, 0x02000010, 1⟩, { (lifes 2).put F.LIFE_STAT_BUSY true with life := { run := some ⟨6, 0, 1, 0, 0x02000010, 1⟩, resetDue := false }, mem := [(0x02000010, 5#8), (0x02000013, 6#8), (0x05000100, 3#8), (0x05000101, 3#8)] }, by decide⟩,
      ⟨true, ⟨6, 0, 1, 0, 0x02000010, 1⟩, { ((lifes 2).put F.LIFE_STAT_BUSY true).put F.MEMX_STAT_FILLED false with life := { run := some ⟨6, 0, 1, 0, 0x02000010, 1⟩, resetDue := false }, mem := [(0x02000010, 5#8), (0x02000013, 6#8), (0x05000100, 3#8), (0x05000101, 3#8)] }, by decide⟩,
      ⟨true, ⟨5, 0, 1, 0, 0x02000010, 3⟩, List.replicate 264 0#8, { (lifes 3).put F.LIFE_STAT_BUSY true with life := { run := some ⟨5, 0, 1, 0, 0x02000010, 3⟩, resetDue := false } }, by decide⟩,
      ⟨⟨5, 0, 1, 0, 0x02000010, 3⟩, (leBytes 4 0x4B545256 ++ leBytes 4 1 ++ List.replicate 28 0#8 ++ leBytes 4 1 ++ List.replicate 224 0#8), false, { (lifes 3).put F.LIFE_STAT_BUSY true with life := { run := some ⟨5, 0, 1, 0, 0x02000010, 3⟩, resetDue := false }, mem := [(0x02000010, 0x56#8), (0x02000011, 0x52#8), (0x02000012, 0x54#8), (0x02000013, 0x4B#8), (0x02000014, 1#8), (0x02000034, 1#8)] }, by decide⟩,
      ⟨⟨5, 0, 1, 0, 0x02000010, 3⟩, (leBytes 4 0x4B545256 ++ leBytes 4 1 ++ List.replicate 28 0#8 ++ leBytes 4 1 ++ List.replicate 224 0#8), false, { (lifes 3).put F.LIFE_STAT_BUSY true with life := { run := some ⟨5, 0, 1, 0, 0x02000010, 3⟩, resetDue := false }, mem := [(0x02000010, 0x56#8), (0x02000011, 0x52#8), (0x02000012, 0x54#8), (0x02000013, 0x4B#8), (0x02000014, 1#8), (0x02000034, 1#8)] }, by decide⟩,
      ⟨true, ⟨5, 0, 1, 0, 0x02000010, 3⟩, (leBytes 4 0x4B545256 ++ leBytes 4 2 ++ List.replicate 28 0#8 ++ leBytes 4 1 ++ List.replicate 224 0#8), { (lifes 3).put F.LIFE_STAT_BUSY true with life := { run := some ⟨5, 0, 1, 0, 0x02000010, 3⟩, resetDue := false }, mem := [(0x02000010, 0x56#8), (0x02000011, 0x52#8), (0x02000012, 0x54#8), (0x02000013, 0x4B#8), (0x02000014, 2#8), (0x02000034, 1#8)] }, by decide⟩,
      ⟨true, ⟨5, 0, 1, 0, 0x02000010, 3⟩, { ((lifes 3).put F.LIFE_STAT_BUSY true).put F.MEMX_STAT_FILLED false with life := { run := some ⟨5, 0, 1, 0, 0x02000010, 3⟩, resetDue := false } }, by decide⟩,
      ⟨true, lifes 3, by decide⟩⟩

theorem test_meets_MemoryIntegrityIsKept :
    (∃ (m : Master) (v : Word) (s : State), s.Reached m R.MEMX_CLR ∧ m.code = 1 ∧ (0x01000000 ≤ v.toNat ∧ v.toNat < 0x01800000 ∨ 0x02000000 ≤ v.toNat ∧ v.toNat <
      0x02800000) ∧ s.memGate (v.toNat - v.toNat % 8) = none ∧ s.memGate ((v.toNat - v.toNat % 8) + 7) = none) ∧
    (∃ (m : Master) (v : Word) (s : State), s.Reached m R.MEMX_CLR ∧ m.code = 1 ∧ 0x03000000 ≤ v.toNat ∧ v.toNat < 0x03180000 ∧ v.toNat % 0x8000 < 0x6000 ∧
      s.memGate (v.toNat - v.toNat % 4) = none ∧ s.memGate ((v.toNat - v.toNat % 4) + 3) = none) ∧
    (∃ (m : Master) (v : Word) (s : State), s.Reached m R.MEMX_CLR ∧ m.code ≠ 1) ∧
    (∃ (m : Master) (v : Word) (s : State), s.Reached m R.MEMX_CLR ∧ m.code = 1 ∧ (areaOf (v.toNat - v.toNat % 4) = none ∨ v.toNat < 0x20000 ∨ 0x05000000 ≤ v.toNat
      ∧ v.toNat < 0x05001000 ∨ s.memGate (eccBase (v.toNat - v.toNat % 4)) ≠ none)) ∧
    (∃ (r : Fin 5) (lane : Fin 48) (flips : BitVec 72) (i w v : Nat) (s : State), s.scrubOn r lane = true ∧ s.scrubWord r lane = some i ∧ w = (if r.val = 0 then
      0x01000000 else if r.val = 1 then 0x02000000 else if r.val = 2 then 0x02400000 else if r.val = 3 then 0x05000000 else 0x03000000 + lane.val * 0x8000) + i * (if
      r.val = 4 then 4 else 8) ∧ v = s.flipsAt w ^^^ flips.toNat % 2 ^ (if r.val = 4 then 39 else 72) ∧ s.is F.MEMX_CTL_SCRUB_EN = true ∧ eccClass (r.val == 4) v =
      .clean) ∧
    (∃ (r : Fin 5) (lane : Fin 48) (flips : BitVec 72) (i w v : Nat) (b : Nat) (syn : BitVec 8) (s : State), s.scrubOn r lane = true ∧ s.scrubWord r lane = some i ∧
      w = (if r.val = 0 then 0x01000000 else if r.val = 1 then 0x02000000 else if r.val = 2 then 0x02400000 else if r.val = 3 then 0x05000000 else 0x03000000 +
      lane.val * 0x8000) + i * (if r.val = 4 then 4 else 8) ∧ v = s.flipsAt w ^^^ flips.toNat % 2 ^ (if r.val = 4 then 39 else 72) ∧ s.is F.MEMX_CTL_SCRUB_EN = true ∧
      eccClass (r.val == 4) v = .ce b syn ∧ s.integ.log.length < 16) ∧
    (∃ (r : Fin 5) (lane : Fin 48) (flips : BitVec 72) (i w v : Nat) (b : Nat) (syn : BitVec 8) (s : State), s.scrubOn r lane = true ∧ s.scrubWord r lane = some i ∧
      w = (if r.val = 0 then 0x01000000 else if r.val = 1 then 0x02000000 else if r.val = 2 then 0x02400000 else if r.val = 3 then 0x05000000 else 0x03000000 +
      lane.val * 0x8000) + i * (if r.val = 4 then 4 else 8) ∧ v = s.flipsAt w ^^^ flips.toNat % 2 ^ (if r.val = 4 then 39 else 72) ∧ s.is F.MEMX_CTL_SCRUB_EN = true ∧
      eccClass (r.val == 4) v = .ce b syn ∧ s.integ.log.length = 16) ∧
    (∃ (r : Fin 5) (lane : Fin 48) (flips : BitVec 72) (i w v : Nat) (syn : BitVec 8) (s : State), s.scrubOn r lane = true ∧ s.scrubWord r lane = some i ∧ w = (if
      r.val = 0 then 0x01000000 else if r.val = 1 then 0x02000000 else if r.val = 2 then 0x02400000 else if r.val = 3 then 0x05000000 else 0x03000000 + lane.val *
      0x8000) + i * (if r.val = 4 then 4 else 8) ∧ v = s.flipsAt w ^^^ flips.toNat % 2 ^ (if r.val = 4 then 39 else 72) ∧ s.is F.MEMX_CTL_SCRUB_EN = true ∧ eccClass
      (r.val == 4) v = .ue syn ∧ s.integ.log.length < 16) ∧
    (∃ (r : Fin 5) (lane : Fin 48) (flips : BitVec 72) (i w v : Nat) (syn : BitVec 8) (s : State), s.scrubOn r lane = true ∧ s.scrubWord r lane = some i ∧ w = (if
      r.val = 0 then 0x01000000 else if r.val = 1 then 0x02000000 else if r.val = 2 then 0x02400000 else if r.val = 3 then 0x05000000 else 0x03000000 + lane.val *
      0x8000) + i * (if r.val = 4 then 4 else 8) ∧ v = s.flipsAt w ^^^ flips.toNat % 2 ^ (if r.val = 4 then 39 else 72) ∧ s.is F.MEMX_CTL_SCRUB_EN = true ∧ eccClass
      (r.val == 4) v = .ue syn ∧ s.integ.log.length = 16 ∧ s.integ.log.all (fun e => e.info.toNat % 4 != 0) = true) ∧
    (∃ (r : Fin 5) (lane : Fin 48) (flips : BitVec 72) (i w v : Nat) (syn : BitVec 8) (pre post : List LogEntry) (e : LogEntry) (s : State), s.scrubOn r lane = true
      ∧ s.scrubWord r lane = some i ∧ w = (if r.val = 0 then 0x01000000 else if r.val = 1 then 0x02000000 else if r.val = 2 then 0x02400000 else if r.val = 3 then
      0x05000000 else 0x03000000 + lane.val * 0x8000) + i * (if r.val = 4 then 4 else 8) ∧ v = s.flipsAt w ^^^ flips.toNat % 2 ^ (if r.val = 4 then 39 else 72) ∧ s.is
      F.MEMX_CTL_SCRUB_EN = true ∧ eccClass (r.val == 4) v = .ue syn ∧ s.integ.log.length = 16 ∧ s.integ.log = pre ++ e :: post ∧ e.info.toNat % 4 = 0 ∧ post.all (fun
      e => e.info.toNat % 4 != 0) = true) ∧
    (∃ (r : Fin 5) (lane : Fin 48) (flips : BitVec 72) (i w v : Nat) (s : State), s.scrubOn r lane = true ∧ s.scrubWord r lane = some i ∧ w = (if r.val = 0 then
      0x01000000 else if r.val = 1 then 0x02000000 else if r.val = 2 then 0x02400000 else if r.val = 3 then 0x05000000 else 0x03000000 + lane.val * 0x8000) + i * (if
      r.val = 4 then 4 else 8) ∧ v = s.flipsAt w ^^^ flips.toNat % 2 ^ (if r.val = 4 then 39 else 72) ∧ s.is F.MEMX_CTL_SCRUB_EN = true ∧ eccClass (r.val == 4) v =
      .poison) ∧
    (∃ (r : Fin 5) (lane : Fin 48) (flips : BitVec 72) (i w v : Nat) (s : State), s.scrubOn r lane = true ∧ s.scrubWord r lane = some i ∧ w = (if r.val = 0 then
      0x01000000 else if r.val = 1 then 0x02000000 else if r.val = 2 then 0x02400000 else if r.val = 3 then 0x05000000 else 0x03000000 + lane.val * 0x8000) + i * (if
      r.val = 4 then 4 else 8) ∧ v = s.flipsAt w ^^^ flips.toNat % 2 ^ (if r.val = 4 then 39 else 72) ∧ s.is F.MEMX_CTL_SCRUB_EN = false) ∧
    (∃ (r : Fin 5) (lane : Fin 48) (flips : BitVec 72) (i old us : Nat) (s : State), s.scrubOn r lane = true ∧ s.scrubWord r lane = some i ∧ s.is
      F.MEMX_CTL_SCRUB_EN = true ∧ old = tabGet (fun _ => 0) s.integ.scrubAt (if r.val = 4 then 4 + lane.val else r.val) ∧ us = usOf (s.clock - max s.integ.lapFrom
      (tabGet (fun _ => 0) s.integ.lapAt (if r.val = 4 then 4 + lane.val else r.val))) ∧ old < (i + 1) % (if r.val = 0 then 1048576 else if r.val = 3 then 512 else if
      r.val = 4 then 6144 else 524288)) ∧
    (∃ (r : Fin 5) (lane : Fin 48) (flips : BitVec 72) (i old us : Nat) (s : State), s.scrubOn r lane = true ∧ s.scrubWord r lane = some i ∧ s.is
      F.MEMX_CTL_SCRUB_EN = true ∧ old = tabGet (fun _ => 0) s.integ.scrubAt (if r.val = 4 then 4 + lane.val else r.val) ∧ us = usOf (s.clock - max s.integ.lapFrom
      (tabGet (fun _ => 0) s.integ.lapAt (if r.val = 4 then 4 + lane.val else r.val))) ∧ (i + 1) % (if r.val = 0 then 1048576 else if r.val = 3 then 512 else if r.val
      = 4 then 6144 else 524288) ≤ old ∧ r.val < 4) ∧
    (∃ (r : Fin 5) (lane : Fin 48) (flips : BitVec 72) (i old us : Nat) (s : State), s.scrubOn r lane = true ∧ s.scrubWord r lane = some i ∧ s.is
      F.MEMX_CTL_SCRUB_EN = true ∧ old = tabGet (fun _ => 0) s.integ.scrubAt (if r.val = 4 then 4 + lane.val else r.val) ∧ us = usOf (s.clock - max s.integ.lapFrom
      (tabGet (fun _ => 0) s.integ.lapAt (if r.val = 4 then 4 + lane.val else r.val))) ∧ (i + 1) % (if r.val = 0 then 1048576 else if r.val = 3 then 512 else if r.val
      = 4 then 6144 else 524288) ≤ old ∧ r.val = 4 ∧ (∀ n : Fin 48, n ≠ lane → tabGet (fun _ => 0) s.integ.lapUs n ≤ us)) ∧
    (∃ (r : Fin 5) (lane : Fin 48) (flips : BitVec 72) (i old us : Nat) (n : Fin 48) (s : State), s.scrubOn r lane = true ∧ s.scrubWord r lane = some i ∧ s.is
      F.MEMX_CTL_SCRUB_EN = true ∧ old = tabGet (fun _ => 0) s.integ.scrubAt (if r.val = 4 then 4 + lane.val else r.val) ∧ us = usOf (s.clock - max s.integ.lapFrom
      (tabGet (fun _ => 0) s.integ.lapAt (if r.val = 4 then 4 + lane.val else r.val))) ∧ (i + 1) % (if r.val = 0 then 1048576 else if r.val = 3 then 512 else if r.val
      = 4 then 6144 else 524288) ≤ old ∧ r.val = 4 ∧ n ≠ lane ∧ us < tabGet (fun _ => 0) s.integ.lapUs n ∧ (∀ k : Fin 48, k ≠ n → k ≠ lane → tabGet (fun _ => 0)
      s.integ.lapUs k < tabGet (fun _ => 0) s.integ.lapUs n)) ∧
    (∃ (r : Fin 5) (lane : Fin 48) (flips : BitVec 72) (s : State), (s.scrubOn r lane = false ∨ s.scrubWord r lane = none) ∧ s.IrqRemembered) ∧
    (∃ (r : Fin 5) (s : State), s.domOn 1 = true ∧ s.is F.MEMX_CTL_SCRUB_EN = true) ∧
    (∃ (r : Fin 5) (s : State), (s.domOn 1 = false ∨ s.is F.MEMX_CTL_SCRUB_EN = false) ∧ s.IrqRemembered) ∧
    (∃ (m : Master) (s : State), s.Reached m R.MEMX_LOG_CTL ∧ m.code = 1) ∧
    (∃ (m : Master) (s : State), s.Reached m R.MEMX_LOG_CTL ∧ m.code ≠ 1) ∧
    (∃ (m : Master) (v : Word) (s : State), s.Reached m R.MEMX_RETIRE ∧ s.integ.copy ≠ none) ∧
    (∃ (m : Master) (v : Word) (s : State), s.Reached m R.MEMX_RETIRE ∧ s.integ.copy = none ∧ (111 < bitsOf v.toNat 0 7 ∨ 64 ≤ bitsOf v.toNat 0 7 ∧ 23 < bitsOf
      v.toNat 8 5)) ∧
    (∃ (m : Master) (v : Word) (s : State), s.Reached m R.MEMX_RETIRE ∧ s.integ.copy = none ∧ (bitsOf v.toNat 0 7 < 64 ∨ bitsOf v.toNat 0 7 ≤ 111 ∧ bitsOf v.toNat 8
      5 ≤ 23) ∧ s.isRetired (bitsOf v.toNat 0 7) (bitsOf v.toNat 8 5) = true) ∧
    (∃ (m : Master) (v : Word) (s : State), s.Reached m R.MEMX_RETIRE ∧ s.integ.copy = none ∧ (bitsOf v.toNat 0 7 < 64 ∨ bitsOf v.toNat 0 7 ≤ 111 ∧ bitsOf v.toNat 8
      5 ≤ 23) ∧ s.isRetired (bitsOf v.toNat 0 7) (bitsOf v.toNat 8 5) = false ∧ m.code ≠ 1) ∧
    (∃ (m : Master) (v : Word) (s : State), s.Reached m R.MEMX_RETIRE ∧ s.integ.copy = none ∧ (bitsOf v.toNat 0 7 < 64 ∨ bitsOf v.toNat 0 7 ≤ 111 ∧ bitsOf v.toNat 8
      5 ≤ 23) ∧ s.isRetired (bitsOf v.toNat 0 7) (bitsOf v.toNat 8 5) = false ∧ m.code = 1 ∧ 64 ≤ bitsOf v.toNat 0 7 ∧ s.seqStopped (bitsOf v.toNat 0 7 - 64) = false) ∧
    (∃ (m : Master) (v : Word) (s : State), s.Reached m R.MEMX_RETIRE ∧ s.integ.copy = none ∧ (bitsOf v.toNat 0 7 < 64 ∨ bitsOf v.toNat 0 7 ≤ 111 ∧ bitsOf v.toNat 8
      5 ≤ 23) ∧ s.isRetired (bitsOf v.toNat 0 7) (bitsOf v.toNat 8 5) = false ∧ m.code = 1 ∧ bitsOf v.toNat 0 7 = 0 ∧ s.fld F.MEMX_STAT_SPARES0 = 0) ∧
    (∃ (m : Master) (v : Word) (s : State), s.Reached m R.MEMX_RETIRE ∧ s.integ.copy = none ∧ (bitsOf v.toNat 0 7 < 64 ∨ bitsOf v.toNat 0 7 ≤ 111 ∧ bitsOf v.toNat 8
      5 ≤ 23) ∧ s.isRetired (bitsOf v.toNat 0 7) (bitsOf v.toNat 8 5) = false ∧ m.code = 1 ∧ (bitsOf v.toNat 0 7 < 64 ∨ s.seqStopped (bitsOf v.toNat 0 7 - 64) = true)
      ∧ (bitsOf v.toNat 0 7 < 32 ∧ s.fld F.MEMX_STAT_SPARES0 ≠ 0 ∨ 32 ≤ bitsOf v.toNat 0 7 ∧ bitsOf v.toNat 0 7 < 64 ∧ s.fld F.MEMX_STAT_SPARES1 ≠ 0 ∨ 64 ≤ bitsOf
      v.toNat 0 7 ∧ s.is (F.MEMX_LANE_LOSS_SPARE_USED (bitsOf v.toNat 0 7 - 64)) = false ∧ s.integ.noSpare.getLsbD (bitsOf v.toNat 0 7 - 64) = false)) ∧
    (∃ (m : Master) (v : Word) (s : State), s.Reached m R.MEMX_RETIRE ∧ s.integ.copy = none ∧ (bitsOf v.toNat 0 7 < 64 ∨ bitsOf v.toNat 0 7 ≤ 111 ∧ bitsOf v.toNat 8
      5 ≤ 23) ∧ s.isRetired (bitsOf v.toNat 0 7) (bitsOf v.toNat 8 5) = false ∧ m.code = 1 ∧ (bitsOf v.toNat 0 7 < 64 ∨ s.seqStopped (bitsOf v.toNat 0 7 - 64) = true)
      ∧ (0 < bitsOf v.toNat 0 7 ∧ bitsOf v.toNat 0 7 < 32 ∧ s.fld F.MEMX_STAT_SPARES0 = 0 ∨ 32 ≤ bitsOf v.toNat 0 7 ∧ bitsOf v.toNat 0 7 < 64 ∧ s.fld
      F.MEMX_STAT_SPARES1 = 0)) ∧
    (∃ (m : Master) (v : Word) (s : State), s.Reached m R.MEMX_RETIRE ∧ s.integ.copy = none ∧ (bitsOf v.toNat 0 7 < 64 ∨ bitsOf v.toNat 0 7 ≤ 111 ∧ bitsOf v.toNat 8
      5 ≤ 23) ∧ s.isRetired (bitsOf v.toNat 0 7) (bitsOf v.toNat 8 5) = false ∧ m.code = 1 ∧ (bitsOf v.toNat 0 7 < 64 ∨ s.seqStopped (bitsOf v.toNat 0 7 - 64) = true)
      ∧ 64 ≤ bitsOf v.toNat 0 7 ∧ ¬ (s.is (F.MEMX_LANE_LOSS_SPARE_USED (bitsOf v.toNat 0 7 - 64)) = false ∧ s.integ.noSpare.getLsbD (bitsOf v.toNat 0 7 - 64) =
      false)) ∧
    (∃ (s : State), (∀ b : Fin 16, s.pairBit R.MEMX_REMOVED_LO (48 + b) = false) ∧ s.Reached .supS R.MEMX_RETIRE ∧ s.integ.copy = none ∧ s.isRetired 50 0 = false ∧
      s.fld F.MEMX_STAT_SPARES1 = 0) ∧
    (∃ (b row : Nat) (s : State), s.integ.copy = some (b, row) ∧ b < 32 ∧ 0 < s.fld F.MEMX_STAT_SPARES0) ∧
    (∃ (b row : Nat) (s : State), s.integ.copy = some (b, row) ∧ b < 32 ∧ 0 < s.fld F.MEMX_STAT_SPARES0 ∧ (∀ x ∈ s.integ.flips, inRange (retireRange b row) x.1 =
      false)) ∧
    (∃ (b row : Nat) (s : State), s.integ.copy = some (b, row) ∧ 32 ≤ b ∧ b < 64 ∧ 0 < s.fld F.MEMX_STAT_SPARES1) ∧
    (∃ (b row : Nat) (s : State), s.integ.copy = some (b, row) ∧ 32 ≤ b ∧ b < 64 ∧ 0 < s.fld F.MEMX_STAT_SPARES1 ∧ (∀ x ∈ s.integ.flips, inRange (retireRange b row)
      x.1 = false)) ∧
    (∃ (b row : Nat) (s : State), s.integ.copy = some (b, row) ∧ 64 ≤ b ∧ b < 112 ∧ row < 24) ∧
    (∃ (b row w : Nat) (s : State), s.integ.copy = some (b, row) ∧ inRange (retireRange b row) w = true ∧ b < 112 ∧ row < 24) ∧
    (∃ (s : State), s.integ.copy = none ∧ s.IrqRemembered) ∧
    (∃ (m : Master) (v : Word) (s : State), s.Reached m R.BIST_CMD ∧ s.fld F.LIFE_STATE_STATE ≠ 1 ∧ s.fld F.LIFE_STATE_STATE ≠ 4) ∧
    (∃ (m : Master) (v : Word) (s : State), s.Reached m R.BIST_CMD ∧ (s.fld F.LIFE_STATE_STATE = 1 ∨ s.fld F.LIFE_STATE_STATE = 4) ∧ m.code ≠ 1 ∧ m.code ≠ 3) ∧
    (∃ (m : Master) (v : Word) (s : State), s.Reached m R.BIST_CMD ∧ (s.fld F.LIFE_STATE_STATE = 1 ∨ s.fld F.LIFE_STATE_STATE = 4) ∧ (m.code = 1 ∨ m.code = 3) ∧
      s.integ.test ≠ none) ∧
    (∃ (m : Master) (v : Word) (s : State), s.Reached m R.BIST_CMD ∧ (s.fld F.LIFE_STATE_STATE = 1 ∨ s.fld F.LIFE_STATE_STATE = 4) ∧ (m.code = 1 ∨ m.code = 3) ∧
      s.integ.test = none ∧ (111 < bitsOf v.toNat 0 7 ∨ bitsOf v.toNat 0 7 = 0 ∨ bitsOf v.toNat 0 7 < 64 ∧ s.pairBit R.MEMX_REMOVED_LO (bitsOf v.toNat 0 7) = true ∨
      64 ≤ bitsOf v.toNat 0 7 ∧ s.laneOn (bitsOf v.toNat 0 7 - 64) = false)) ∧
    (∃ (m : Master) (v : Word) (s : State), s.Reached m R.BIST_CMD ∧ (s.fld F.LIFE_STATE_STATE = 1 ∨ s.fld F.LIFE_STATE_STATE = 4) ∧ (m.code = 1 ∨ m.code = 3) ∧
      s.integ.test = none ∧ 0 < bitsOf v.toNat 0 7 ∧ bitsOf v.toNat 0 7 ≤ 111 ∧ (64 ≤ bitsOf v.toNat 0 7 ∨ s.pairBit R.MEMX_REMOVED_LO (bitsOf v.toNat 0 7) = false) ∧
      (bitsOf v.toNat 0 7 < 64 ∨ s.laneOn (bitsOf v.toNat 0 7 - 64) = true) ∧ (s.fld F.BIST_SAVE_ADDR * 0x40000 < 0x02000000 ∨ 0x02400000 ≤ s.fld F.BIST_SAVE_ADDR *
      0x40000 ∨ bitsOf v.toNat 0 7 < 64 ∧ s.fld F.BIST_SAVE_ADDR * 0x40000 = bankBase (bitsOf v.toNat 0 7) ∨ s.pairBit R.MEMX_REMOVED_LO (bankOf (s.fld
      F.BIST_SAVE_ADDR * 0x40000)) = true)) ∧
    (∃ (m : Master) (v : Word) (s : State), s.Reached m R.BIST_CMD ∧ (s.fld F.LIFE_STATE_STATE = 1 ∨ s.fld F.LIFE_STATE_STATE = 4) ∧ (m.code = 1 ∨ m.code = 3) ∧
      s.integ.test = none ∧ 0 < bitsOf v.toNat 0 7 ∧ bitsOf v.toNat 0 7 ≤ 111 ∧ (64 ≤ bitsOf v.toNat 0 7 ∨ s.pairBit R.MEMX_REMOVED_LO (bitsOf v.toNat 0 7) = false) ∧
      (bitsOf v.toNat 0 7 < 64 ∨ s.laneOn (bitsOf v.toNat 0 7 - 64) = true) ∧ 0x02000000 ≤ s.fld F.BIST_SAVE_ADDR * 0x40000 ∧ s.fld F.BIST_SAVE_ADDR * 0x40000 <
      0x02400000 ∧ (64 ≤ bitsOf v.toNat 0 7 ∨ s.fld F.BIST_SAVE_ADDR * 0x40000 ≠ bankBase (bitsOf v.toNat 0 7)) ∧ s.pairBit R.MEMX_REMOVED_LO (bankOf (s.fld
      F.BIST_SAVE_ADDR * 0x40000)) = false ∧ 64 ≤ bitsOf v.toNat 0 7 ∧ s.seqStopped (bitsOf v.toNat 0 7 - 64) = false) ∧
    (∃ (m : Master) (v : Word) (s : State), s.Reached m R.BIST_CMD ∧ (s.fld F.LIFE_STATE_STATE = 1 ∨ s.fld F.LIFE_STATE_STATE = 4) ∧ (m.code = 1 ∨ m.code = 3) ∧
      s.integ.test = none ∧ 0 < bitsOf v.toNat 0 7 ∧ bitsOf v.toNat 0 7 ≤ 111 ∧ (64 ≤ bitsOf v.toNat 0 7 ∨ s.pairBit R.MEMX_REMOVED_LO (bitsOf v.toNat 0 7) = false) ∧
      (bitsOf v.toNat 0 7 < 64 ∨ s.laneOn (bitsOf v.toNat 0 7 - 64) = true) ∧ 0x02000000 ≤ s.fld F.BIST_SAVE_ADDR * 0x40000 ∧ s.fld F.BIST_SAVE_ADDR * 0x40000 <
      0x02400000 ∧ (64 ≤ bitsOf v.toNat 0 7 ∨ s.fld F.BIST_SAVE_ADDR * 0x40000 ≠ bankBase (bitsOf v.toNat 0 7)) ∧ s.pairBit R.MEMX_REMOVED_LO (bankOf (s.fld
      F.BIST_SAVE_ADDR * 0x40000)) = false ∧ (bitsOf v.toNat 0 7 < 64 ∨ s.seqStopped (bitsOf v.toNat 0 7 - 64) = true) ∧ (∀ x ∈ s.integ.flips, ¬ ((if bitsOf v.toNat 0
      7 < 64 then bankBase (bitsOf v.toNat 0 7) else 0x03000000 + (bitsOf v.toNat 0 7 - 64) * 0x8000) ≤ x.1 ∧ x.1 < (if bitsOf v.toNat 0 7 < 64 then bankBase (bitsOf
      v.toNat 0 7) else 0x03000000 + (bitsOf v.toNat 0 7 - 64) * 0x8000) + (if bitsOf v.toNat 0 7 < 64 then 0x40000 else 0x6000))) ∧ Memory.wf s.mem = true) ∧
    (∃ (m : Master) (v : Word) (w : Nat) (s : State), s.Reached m R.BIST_CMD ∧ (s.fld F.LIFE_STATE_STATE = 1 ∨ s.fld F.LIFE_STATE_STATE = 4) ∧ (m.code = 1 ∨ m.code
      = 3) ∧ s.integ.test = none ∧ 0 < bitsOf v.toNat 0 7 ∧ bitsOf v.toNat 0 7 ≤ 111 ∧ (64 ≤ bitsOf v.toNat 0 7 ∨ s.pairBit R.MEMX_REMOVED_LO (bitsOf v.toNat 0 7) =
      false) ∧ (bitsOf v.toNat 0 7 < 64 ∨ s.laneOn (bitsOf v.toNat 0 7 - 64) = true) ∧ 0x02000000 ≤ s.fld F.BIST_SAVE_ADDR * 0x40000 ∧ s.fld F.BIST_SAVE_ADDR *
      0x40000 < 0x02400000 ∧ (64 ≤ bitsOf v.toNat 0 7 ∨ s.fld F.BIST_SAVE_ADDR * 0x40000 ≠ bankBase (bitsOf v.toNat 0 7)) ∧ s.pairBit R.MEMX_REMOVED_LO (bankOf (s.fld
      F.BIST_SAVE_ADDR * 0x40000)) = false ∧ (bitsOf v.toNat 0 7 < 64 ∨ s.seqStopped (bitsOf v.toNat 0 7 - 64) = true) ∧ (if bitsOf v.toNat 0 7 < 64 then bankBase
      (bitsOf v.toNat 0 7) else 0x03000000 + (bitsOf v.toNat 0 7 - 64) * 0x8000) ≤ w ∧ w < (if bitsOf v.toNat 0 7 < 64 then bankBase (bitsOf v.toNat 0 7) else
      0x03000000 + (bitsOf v.toNat 0 7 - 64) * 0x8000) + (if bitsOf v.toNat 0 7 < 64 then 0x40000 else 0x6000) ∧ s.ecc w = .poison ∧ Memory.wf s.mem = true) ∧
    (∃ (m : Master) (v : Word) (w b : Nat) (syn : BitVec 8) (s : State), s.Reached m R.BIST_CMD ∧ (s.fld F.LIFE_STATE_STATE = 1 ∨ s.fld F.LIFE_STATE_STATE = 4) ∧
      (m.code = 1 ∨ m.code = 3) ∧ s.integ.test = none ∧ 0 < bitsOf v.toNat 0 7 ∧ bitsOf v.toNat 0 7 ≤ 111 ∧ (64 ≤ bitsOf v.toNat 0 7 ∨ s.pairBit R.MEMX_REMOVED_LO
      (bitsOf v.toNat 0 7) = false) ∧ (bitsOf v.toNat 0 7 < 64 ∨ s.laneOn (bitsOf v.toNat 0 7 - 64) = true) ∧ 0x02000000 ≤ s.fld F.BIST_SAVE_ADDR * 0x40000 ∧ s.fld
      F.BIST_SAVE_ADDR * 0x40000 < 0x02400000 ∧ (64 ≤ bitsOf v.toNat 0 7 ∨ s.fld F.BIST_SAVE_ADDR * 0x40000 ≠ bankBase (bitsOf v.toNat 0 7)) ∧ s.pairBit
      R.MEMX_REMOVED_LO (bankOf (s.fld F.BIST_SAVE_ADDR * 0x40000)) = false ∧ (bitsOf v.toNat 0 7 < 64 ∨ s.seqStopped (bitsOf v.toNat 0 7 - 64) = true) ∧ (if bitsOf
      v.toNat 0 7 < 64 then bankBase (bitsOf v.toNat 0 7) else 0x03000000 + (bitsOf v.toNat 0 7 - 64) * 0x8000) ≤ w ∧ w < (if bitsOf v.toNat 0 7 < 64 then bankBase
      (bitsOf v.toNat 0 7) else 0x03000000 + (bitsOf v.toNat 0 7 - 64) * 0x8000) + (if bitsOf v.toNat 0 7 < 64 then 0x40000 else 0x6000) ∧ s.ecc w = .ce b syn ∧
      Memory.wf s.mem = true) ∧
    (∃ (pass : Bool) (addr : Word) (x : BankTest) (s : State), s.integ.test = some x) ∧
    (∃ (pass : Bool) (addr : Word) (x : BankTest) (bad : List Word) (s : State), s.integ.test = some x ∧ 0 < x.target ∧ x.target < 112 ∧ (∀ w ∈ bad, x.target < 64 ∧
      bankBase x.target ≤ w.toNat ∧ w.toNat < bankBase x.target + 0x40000 ∨ 64 ≤ x.target ∧ 0x03000000 + (x.target - 64) * 0x8000 ≤ w.toNat ∧ w.toNat < 0x03000000 +
      (x.target - 64) * 0x8000 + 0x6000) ∧ s.integ.log.length + bad.length ≤ 16) ∧
    (∃ (pass : Bool) (addr : Word) (x : BankTest) (bad : List Word) (s : State), s.integ.test = some x ∧ 0 < x.target ∧ x.target < 112 ∧ (∀ w ∈ bad, x.target < 64 ∧
      bankBase x.target ≤ w.toNat ∧ w.toNat < bankBase x.target + 0x40000 ∨ 64 ≤ x.target ∧ 0x03000000 + (x.target - 64) * 0x8000 ≤ w.toNat ∧ w.toNat < 0x03000000 +
      (x.target - 64) * 0x8000 + 0x6000) ∧ s.integ.log.length = 16 ∧ (∀ e ∈ s.integ.log, e.info.toNat % 4 ≠ 0)) ∧
    (∃ (pass : Bool) (addr : Word) (x : BankTest) (w : Word) (l : List LogEntry) (s : State), s.integ.test = some x ∧ 0 < x.target ∧ x.target < 112 ∧ (x.target < 64
      ∧ bankBase x.target ≤ w.toNat ∧ w.toNat < bankBase x.target + 0x40000 ∨ 64 ≤ x.target ∧ 0x03000000 + (x.target - 64) * 0x8000 ≤ w.toNat ∧ w.toNat < 0x03000000 +
      (x.target - 64) * 0x8000 + 0x6000) ∧ s.integ.log.length = 16 ∧ dropNewestCe s.integ.log = some l) ∧
    (∃ (pass : Bool) (addr : Word) (x : BankTest) (w : Word) (s : State), s.integ.test = some x ∧ x.target < 64 ∧ (w.toNat < bankBase x.target ∨ bankBase x.target +
      0x40000 ≤ w.toNat)) ∧
    (∃ (pass : Bool) (addr : Word) (bad : List Word) (s : State), s.integ.test = none ∧ s.IrqRemembered) :=
  ⟨⟨.supS, 0x02000014#32, { (lit.put F.MEMX_STAT_FILLED true) with mem := [(0x02000011, 7#8), (0x02000020, 9#8)], integ := { lit.integ with flips := [(0x02000010, poisonFlips false)] } }, by decide⟩,
      ⟨.supS, 0x0301C010#32, litm.poisonWord 0x0301C010, by decide⟩,
      ⟨.hostS, 0x02000014#32, lit, by decide⟩,
      ⟨.supS, 0x05000100#32, lit, by decide⟩,
      ⟨1, 0, 0#72, 2, 0x02000010, 0, { ((lit.put F.MEMX_STAT_FILLED true).put F.MEMX_CTL_SCRUB_EN true) with integ := { lit.integ with flips := [], scrubAt := [(1, 2)], log := [] } }, by decide⟩,
      ⟨1, 0, 0#72, 2, 0x02000010, 2 ^ 64, 64, 1#8, { ((lit.put F.MEMX_STAT_FILLED true).put F.MEMX_CTL_SCRUB_EN true) with integ := { lit.integ with flips := [(0x02000010, 2 ^ 64)], scrubAt := [(1, 2)], log := [] } }, by decide⟩,
      ⟨1, 0, 0#72, 2, 0x02000010, 2 ^ 64, 64, 1#8, { ((lit.put F.MEMX_STAT_FILLED true).put F.MEMX_CTL_SCRUB_EN true) with integ := { lit.integ with flips := [(0x02000010, 2 ^ 64)], scrubAt := [(1, 2)], log := (List.replicate 15 ⟨5, 0x123#32, 9#32⟩ ++ [⟨5, 0x123#32, 9#32⟩]) } }, by decide⟩,
      ⟨1, 0, 0#72, 2, 0x02000010, 2 ^ 64 + 2 ^ 65, 3#8, { ((lit.put F.MEMX_STAT_FILLED true).put F.MEMX_CTL_SCRUB_EN true) with integ := { lit.integ with flips := [(0x02000010, 2 ^ 64 + 2 ^ 65)], scrubAt := [(1, 2)], log := [] } }, by decide⟩,
      ⟨1, 0, 0#72, 2, 0x02000010, 2 ^ 64 + 2 ^ 65, 3#8, { ((lit.put F.MEMX_STAT_FILLED true).put F.MEMX_CTL_SCRUB_EN true) with integ := { lit.integ with flips := [(0x02000010, 2 ^ 64 + 2 ^ 65)], scrubAt := [(1, 2)], log := (List.replicate 15 ⟨5, 0x123#32, 9#32⟩ ++ [⟨5, 0x123#32, 9#32⟩]) } }, by decide⟩,
      ⟨1, 0, 0#72, 2, 0x02000010, 2 ^ 64 + 2 ^ 65, 3#8, List.replicate 14 ⟨5, 0x123#32, 9#32⟩, [⟨5, 0x123#32, 9#32⟩], ⟨5, 0x124#32, 9#32⟩, { ((lit.put F.MEMX_STAT_FILLED true).put F.MEMX_CTL_SCRUB_EN true) with integ := { lit.integ with flips := [(0x02000010, 2 ^ 64 + 2 ^ 65)], scrubAt := [(1, 2)], log := (List.replicate 14 ⟨5, 0x123#32, 9#32⟩ ++ [⟨5, 0x124#32, 9#32⟩, ⟨5, 0x123#32, 9#32⟩]) } }, by decide⟩,
      ⟨1, 0, 0#72, 2, 0x02000010, poisonFlips false, { ((lit.put F.MEMX_STAT_FILLED true).put F.MEMX_CTL_SCRUB_EN true) with integ := { lit.integ with flips := [(0x02000010, poisonFlips false)], scrubAt := [(1, 2)], log := [] } }, by decide⟩,
      ⟨1, 0, 0#72, 2, 0x02000010, 0, { ((lit.put F.MEMX_STAT_FILLED true).put F.MEMX_CTL_SCRUB_EN false) with integ := { lit.integ with flips := [], scrubAt := [(1, 2)], log := [] } }, by decide⟩,
      ⟨1, 0, 0#72, 2, 2, 0, { ((lit.put F.MEMX_STAT_FILLED true).put F.MEMX_CTL_SCRUB_EN true) with integ := { lit.integ with flips := [], scrubAt := [(1, 2)], log := [] } }, by decide⟩,
      ⟨1, 0, 0#72, 524287, 524287, 1000, { (((lit.put F.MEMX_STAT_FILLED true).put F.MEMX_CTL_SCRUB_EN true).setFld F.MEMX_SCRUB_STAT_STALL 31) with clock := 1000 * 3125 / 4, integ := { lit.integ with scrubAt := [(1, 524287)] } }, by decide⟩,
      ⟨4, 5, 0#72, 6143, 6143, 1000, { (((lit.put F.MEMX_STAT_FILLED true).put F.MEMX_CTL_SCRUB_EN true).setFld F.MEMX_SCRUB_STAT_STALL 31) with clock := 1000 * 3125 / 4, integ := { lit.integ with scrubAt := [(9, 6143)], lapUs := [(3, 1000), (5, 2000)] } }, by decide⟩,
      ⟨4, 5, 0#72, 6143, 6143, 1000, 3, { (((lit.put F.MEMX_STAT_FILLED true).put F.MEMX_CTL_SCRUB_EN true).setFld F.MEMX_SCRUB_STAT_STALL 31) with clock := 1000 * 3125 / 4, integ := { lit.integ with scrubAt := [(9, 6143)], lapUs := [(3, 1001), (5, 2000)] } }, by decide⟩,
      ⟨1, 0, 1#72, lit, by decide⟩,
      ⟨3, lit.put F.MEMX_CTL_SCRUB_EN true, by decide⟩,
      ⟨3, lit.put F.MEMX_CTL_SCRUB_EN false, by decide⟩,
      ⟨.supS, { lit with integ := { lit.integ with log := [⟨5, 0x123#32, 9#32⟩, ⟨6, 0#32, 8#32⟩] } }, by decide⟩,
      ⟨.hostS, lit, by decide⟩,
      ⟨.supS, 3#32, { lit with integ := { lit.integ with copy := some (4, 0) } }, by decide⟩,
      ⟨.supS, 112#32, lit, by decide⟩,
      ⟨.supS, 3#32, lit.putPairBit R.MEMX_RETIRED_LO 3 true, by decide⟩,
      ⟨.hostS, 3#32, lit, by decide⟩,
      ⟨.supS, 0x43#32, lits, by decide⟩,
      ⟨.supS, 0#32, lit.setFld F.MEMX_STAT_SPARES0 0, by decide⟩,
      ⟨.supS, 0#32, lit.setFld F.MEMX_STAT_SPARES0 1, by decide⟩,
      ⟨.supS, 50#32, { (lit.setFld F.MEMX_STAT_SPARES1 0) with mem := [(0x02480000, 1#8)] }, by decide⟩,
      ⟨.supS, 0x1043#32, (litm.put (F.MEMX_LANE_LOSS_SPARE_USED 3) true).setFld (F.LRX_SEQ_STAT_STATE 3) 0, by decide⟩,
      ⟨lit.setFld F.MEMX_STAT_SPARES1 0, by decide⟩,
      ⟨4, 0, { (lit.setFld F.MEMX_STAT_SPARES0 1).put F.MEMX_STAT_RETIRE_BUSY true with integ := { lit.integ with copy := some (4, 0) } }, by decide⟩,
      ⟨4, 0, { (lit.setFld F.MEMX_STAT_SPARES0 1).put F.MEMX_STAT_RETIRE_BUSY true with integ := { lit.integ with copy := some (4, 0) } }, by decide⟩,
      ⟨48, 0, { (lit.setFld F.MEMX_STAT_SPARES1 1).put F.MEMX_STAT_RETIRE_BUSY true with integ := { lit.integ with copy := some (48, 0) } }, by decide⟩,
      ⟨48, 0, { (lit.setFld F.MEMX_STAT_SPARES1 1).put F.MEMX_STAT_RETIRE_BUSY true with integ := { lit.integ with copy := some (48, 0) } }, by decide⟩,
      ⟨67, 23, { lit.put F.MEMX_STAT_RETIRE_BUSY true with integ := { lit.integ with copy := some (67, 23) } }, by decide⟩,
      ⟨48, 0, 0x02400010, { (lit.put F.MEMX_STAT_FILLED true) with integ := { lit.integ with copy := some (48, 0), flips := [(0x02400010, 2 ^ 64)] } }, by decide⟩,
      ⟨lit, by decide⟩,
      ⟨.supS, 3#32, lifes 3, by decide⟩,
      ⟨.smp, 3#32, lifes 1, by decide⟩,
      ⟨.supS, 3#32, { lifes 4 with integ := { lit.integ with test := some ⟨3, 0x02000000⟩ } }, by decide⟩,
      ⟨.supS, 0#32, lifes 1, by decide⟩,
      ⟨.supS, 3#32, (lifes 1).setFld F.BIST_SAVE_ADDR 0x7F, by decide⟩,
      ⟨.supS, 0x43#32, ((lits.put F.MEMX_STAT_FILLED true).setFld F.LIFE_STATE_STATE 1).setFld F.BIST_SAVE_ADDR 0x80, by decide⟩,
      ⟨.hostS, 3#32, ((lifes 1).setFld F.BIST_SAVE_ADDR 0x80), by decide⟩,
      ⟨.supS, 4#32, 0x01100010, ((lifes 1).setFld F.BIST_SAVE_ADDR 0x80).poisonWord 0x01100010, by decide⟩,
      ⟨.supS, 4#32, 0x01100010, 64, 1#8, { ((lifes 1).setFld F.BIST_SAVE_ADDR 0x80) with integ := { lit.integ with flips := [(0x01100010, 2 ^ 64)] } }, by decide⟩,
      ⟨false, 0x01000040#32, ⟨3, 0x02000000⟩, { lit with integ := { lit.integ with test := some ⟨3, 0x02000000⟩ } }, by decide⟩,
      ⟨false, 0x010C0044#32, ⟨3, 0x02000000⟩, [0x010C0044#32], { lit with integ := { lit.integ with test := some ⟨3, 0x02000000⟩ } }, by decide, by decide, by decide, by simp [bankBase], by decide⟩,
      ⟨false, 0x010C0044#32, ⟨3, 0x02000000⟩, [0x010C0044#32, 0x010FFFFF#32], { lit with integ := { lit.integ with test := some ⟨3, 0x02000000⟩, log := List.replicate 16 ⟨7, 1#32, 0#32⟩ } }, by decide, by decide, by decide, by simp [bankBase], by decide, by decide⟩,
      ⟨false, 0x010C0044#32, ⟨3, 0x02000000⟩, 0x010C0044#32, List.replicate 15 ⟨7, 1#32, 0#32⟩, { lit with integ := { lit.integ with test := some ⟨3, 0x02000000⟩, log := List.replicate 15 ⟨7, 1#32, 0#32⟩ ++ [⟨7, 4#32, 0#32⟩] } }, by decide⟩,
      ⟨false, 0x01000040#32, ⟨3, 0x02000000⟩, 0x01100000#32, { lit with integ := { lit.integ with test := some ⟨3, 0x02000000⟩ } }, by decide⟩,
      ⟨true, 0#32, [4#32], lit, by decide⟩⟩

theorem test_meets_MonitorChannelsConvertAndAccumulate :
    (∃ (ch : Fin 24) (v : BitVec 10) (s : State), s.monPower = true ∧ s.monFailed ch = false ∧ 4 ≤ (s.monChan ch).coarse ∧ (∀ w : Fin 4, s.weirOn ch w = false ∧
      s.is (weirFld ch w) = false)) ∧
    (∃ (ch : Fin 24) (v : BitVec 10) (s : State), s.monPower = true ∧ s.monFailed ch = false ∧ (s.monChan ch).coarse < 4) ∧
    (∃ (ch : Fin 24) (v : BitVec 10) (s : State), (s.monPower = false ∨ s.monFailed ch = true) ∧ s.IrqRemembered) ∧
    (∃ (ch : Fin 24) (v : BitVec 10) (w : Fin 4) (s : State), s.monPower = true ∧ s.monFailed ch = false ∧ 4 ≤ (s.monChan ch).coarse ∧ s.weirOn ch w = true ∧ (s.is
      ⟨weirReg ch w, 28, 1⟩ = false ∨ s.weirForced ch w = true) ∧ (s.is ⟨weirReg ch w, 29, 1⟩ = false ∨ s.weirForced ch w = true)) ∧
    (∃ (ch : Fin 24) (v : BitVec 10) (w : Fin 4) (s : State), s.monPower = true ∧ s.monFailed ch = false ∧ 4 ≤ (s.monChan ch).coarse ∧ s.weirOn ch w = true ∧ (s.is
      ⟨weirReg ch w, 28, 1⟩ = false ∨ s.weirForced ch w = true) ∧ s.is ⟨weirReg ch w, 29, 1⟩ = true ∧ s.weirForced ch w = false) ∧
    (∃ (ch : Fin 24) (v : BitVec 10) (w : Fin 4) (s : State), s.monPower = true ∧ s.monFailed ch = false ∧ 4 ≤ (s.monChan ch).coarse ∧ s.weirOn ch w = true ∧
      s.weirForced ch w = false ∧ s.is ⟨weirReg ch w, 28, 1⟩ = true) ∧
    (∃ (ch : Fin 24) (v : BitVec 10) (w : Fin 4) (s : State), s.monPower = true ∧ s.monFailed ch = false ∧ 4 ≤ (s.monChan ch).coarse ∧ s.weirOn ch w = false) ∧
    (∃ (ch : Fin 24) (v : BitVec 10) (s : State), s.monPower = true ∧ s.monFailed ch = false ∧ 4 ≤ (s.monChan ch).coarse ∧ 8 ≤ ch.val ∧ ch.val < 16 ∧ s.weirOn ch 0
      = true ∧ (s.weirForced ch 0 = true ∨ s.is ⟨weirReg ch 0, 28, 1⟩ = false ∧ s.is ⟨weirReg ch 0, 29, 1⟩ = false) ∧ s.is (weirFld ch 0) = false ∧ s.fld ⟨weirReg ch
      0, 0, 20⟩ ≤ v.toNat * 1024 ∧ s.domOn (ch.val - 6) = true) ∧
    (∃ (ch : Fin 24) (v : BitVec 10) (s : State), s.monPower = true ∧ s.monFailed ch = false ∧ 4 ≤ (s.monChan ch).coarse ∧ ch.val < 8 ∧ s.domOn (ch.val + 2) = true) ∧
    (∃ (ch : Fin 24) (us : List Nat) (n d r b v : Nat) (y : Int) (dl : List Nat) (s : State), s.monPower = true ∧ s.monFailed ch = false ∧ s.is (F.MON_CH_CFG_EN ch)
      = true ∧ dl.length ≤ 256 ∧ n = (s.monConf ch).taps ∧ d = (s.monConf ch).d ∧ r = (s.monConf ch).r ∧ b = (s.monConf ch).base ∧ dl = ((us.take d).map (min (r ^
      4))).reverse ++ (s.monChan ch).delay ∧ y = (if n = 0 then ((1048576 * dl.getD 0 0 : Nat) : Int) else 8 * (List.range n).foldl (fun a i => a + s.sfld
      (F.MON_COEF_VALUE ((b + i) % 512)) * (dl.getD i 0 : Nat)) (0 : Int)) ∧ v = min 0xFFFFF ((2 * y.toNat + r ^ 4) / (2 * r ^ 4)) ∧ 4 + (n + d - 1) / d ≤ (s.monChan
      ch).fine ∧ (∀ w : Fin 4, s.weirOn ch w = false ∧ s.is (weirFld ch w) = false)) ∧
    (∃ (ch : Fin 24) (us : List Nat) (n d r b v : Nat) (y : Int) (dl : List Nat) (s : State), s.monPower = true ∧ s.monFailed ch = false ∧ s.is (F.MON_CH_CFG_EN ch)
      = true ∧ dl.length ≤ 256 ∧ n = (s.monConf ch).taps ∧ d = (s.monConf ch).d ∧ r = (s.monConf ch).r ∧ b = (s.monConf ch).base ∧ dl = ((us.take d).map (min (r ^
      4))).reverse ++ (s.monChan ch).delay ∧ y = (if n = 0 then ((1048576 * dl.getD 0 0 : Nat) : Int) else 8 * (List.range n).foldl (fun a i => a + s.sfld
      (F.MON_COEF_VALUE ((b + i) % 512)) * (dl.getD i 0 : Nat)) (0 : Int)) ∧ v = min 0xFFFFF ((2 * y.toNat + r ^ 4) / (2 * r ^ 4)) ∧ 4 + (n + d - 1) / d ≤ (s.monChan
      ch).fine) ∧
    (∃ (ch : Fin 24) (us : List Nat) (n d r b v : Nat) (y : Int) (dl : List Nat) (s : State), s.monPower = true ∧ s.monFailed ch = false ∧ s.is (F.MON_CH_CFG_EN ch)
      = true ∧ dl.length ≤ 256 ∧ n = (s.monConf ch).taps ∧ d = (s.monConf ch).d ∧ r = (s.monConf ch).r ∧ b = (s.monConf ch).base ∧ dl = ((us.take d).map (min (r ^
      4))).reverse ++ (s.monChan ch).delay ∧ y = (if n = 0 then ((1048576 * dl.getD 0 0 : Nat) : Int) else 8 * (List.range n).foldl (fun a i => a + s.sfld
      (F.MON_COEF_VALUE ((b + i) % 512)) * (dl.getD i 0 : Nat)) (0 : Int)) ∧ v = min 0xFFFFF ((2 * y.toNat + r ^ 4) / (2 * r ^ 4)) ∧ (s.monChan ch).fine < 4 + (n + d
      - 1) / d) ∧
    (∃ (ch : Fin 24) (us : List Nat) (s : State), (s.monPower = false ∨ s.monFailed ch = true ∨ s.is (F.MON_CH_CFG_EN ch) = false) ∧ s.IrqRemembered) ∧
    (∃ (ch : Fin 24) (us : List Nat) (n d r b v : Nat) (y : Int) (dl : List Nat) (w : Fin 4) (s : State), s.monPower = true ∧ s.monFailed ch = false ∧ s.is
      (F.MON_CH_CFG_EN ch) = true ∧ dl.length ≤ 256 ∧ n = (s.monConf ch).taps ∧ d = (s.monConf ch).d ∧ r = (s.monConf ch).r ∧ b = (s.monConf ch).base ∧ dl = ((us.take
      d).map (min (r ^ 4))).reverse ++ (s.monChan ch).delay ∧ y = (if n = 0 then ((1048576 * dl.getD 0 0 : Nat) : Int) else 8 * (List.range n).foldl (fun a i => a +
      s.sfld (F.MON_COEF_VALUE ((b + i) % 512)) * (dl.getD i 0 : Nat)) (0 : Int)) ∧ v = min 0xFFFFF ((2 * y.toNat + r ^ 4) / (2 * r ^ 4)) ∧ 4 + (n + d - 1) / d ≤
      (s.monChan ch).fine ∧ s.weirOn ch w = true ∧ s.weirForced ch w = false ∧ s.is ⟨weirReg ch w, 28, 1⟩ = true ∧ s.is ⟨weirReg ch w, 29, 1⟩ = false) ∧
    (∃ (ch : Fin 24) (us : List Nat) (n d r b v : Nat) (y : Int) (dl : List Nat) (w : Fin 4) (s : State), s.monPower = true ∧ s.monFailed ch = false ∧ s.is
      (F.MON_CH_CFG_EN ch) = true ∧ dl.length ≤ 256 ∧ n = (s.monConf ch).taps ∧ d = (s.monConf ch).d ∧ r = (s.monConf ch).r ∧ b = (s.monConf ch).base ∧ dl = ((us.take
      d).map (min (r ^ 4))).reverse ++ (s.monChan ch).delay ∧ y = (if n = 0 then ((1048576 * dl.getD 0 0 : Nat) : Int) else 8 * (List.range n).foldl (fun a i => a +
      s.sfld (F.MON_COEF_VALUE ((b + i) % 512)) * (dl.getD i 0 : Nat)) (0 : Int)) ∧ v = min 0xFFFFF ((2 * y.toNat + r ^ 4) / (2 * r ^ 4)) ∧ 4 + (n + d - 1) / d ≤
      (s.monChan ch).fine ∧ s.weirOn ch w = true ∧ s.weirForced ch w = false ∧ s.is ⟨weirReg ch w, 28, 1⟩ = true ∧ s.is ⟨weirReg ch w, 29, 1⟩ = true ∧ s.weirForced ch
      w = false) ∧
    (∃ (ch : Fin 24) (us : List Nat) (n d r b v : Nat) (y : Int) (dl : List Nat) (w : Fin 4) (s : State), s.monPower = true ∧ s.monFailed ch = false ∧ s.is
      (F.MON_CH_CFG_EN ch) = true ∧ dl.length ≤ 256 ∧ n = (s.monConf ch).taps ∧ d = (s.monConf ch).d ∧ r = (s.monConf ch).r ∧ b = (s.monConf ch).base ∧ dl = ((us.take
      d).map (min (r ^ 4))).reverse ++ (s.monChan ch).delay ∧ y = (if n = 0 then ((1048576 * dl.getD 0 0 : Nat) : Int) else 8 * (List.range n).foldl (fun a i => a +
      s.sfld (F.MON_COEF_VALUE ((b + i) % 512)) * (dl.getD i 0 : Nat)) (0 : Int)) ∧ v = min 0xFFFFF ((2 * y.toNat + r ^ 4) / (2 * r ^ 4)) ∧ 4 + (n + d - 1) / d ≤
      (s.monChan ch).fine ∧ s.weirOn ch w = true ∧ (s.is ⟨weirReg ch w, 28, 1⟩ = false ∨ s.weirForced ch w = true)) ∧
    (∃ (ch : Fin 24) (us : List Nat) (n d r b v : Nat) (y : Int) (dl : List Nat) (w : Fin 4) (s : State), s.monPower = true ∧ s.monFailed ch = false ∧ s.is
      (F.MON_CH_CFG_EN ch) = true ∧ dl.length ≤ 256 ∧ n = (s.monConf ch).taps ∧ d = (s.monConf ch).d ∧ r = (s.monConf ch).r ∧ b = (s.monConf ch).base ∧ dl = ((us.take
      d).map (min (r ^ 4))).reverse ++ (s.monChan ch).delay ∧ y = (if n = 0 then ((1048576 * dl.getD 0 0 : Nat) : Int) else 8 * (List.range n).foldl (fun a i => a +
      s.sfld (F.MON_COEF_VALUE ((b + i) % 512)) * (dl.getD i 0 : Nat)) (0 : Int)) ∧ v = min 0xFFFFF ((2 * y.toNat + r ^ 4) / (2 * r ^ 4)) ∧ 4 + (n + d - 1) / d ≤
      (s.monChan ch).fine ∧ s.weirOn ch w = false) ∧
    (∃ (m : Master) (ch : Fin 24) (fir : Bool) (v : Word) (c f : Nat) (s : State), s.Reached m (if fir then R.MON_CH_FIR ch else R.MON_CH_CFG ch) ∧ c = (if fir then
      (s.rd (R.MON_CH_CFG ch)).toNat else v.toNat % 0x20000) ∧ f = (if fir then (v &&& 0x01FF01FF#32).toNat else (s.rd (R.MON_CH_FIR ch)).toNat) ∧ m.code ≠ 1 ∧ m.code
      ≠ 3 ∧ m.code ≠ 5) ∧
    (∃ (m : Master) (ch : Fin 24) (fir : Bool) (v : Word) (c f : Nat) (s : State), s.Reached m (if fir then R.MON_CH_FIR ch else R.MON_CH_CFG ch) ∧ c = (if fir then
      (s.rd (R.MON_CH_CFG ch)).toNat else v.toNat % 0x20000) ∧ f = (if fir then (v &&& 0x01FF01FF#32).toNat else (s.rd (R.MON_CH_FIR ch)).toNat) ∧ (m.code = 1 ∨
      m.code = 3 ∨ m.code = 5) ∧ s.is (F.MON_CH_CFG_EN ch) = true ∧ (c / 2 ≠ (s.rd (R.MON_CH_CFG ch)).toNat / 2 ∨ f ≠ (s.rd (R.MON_CH_FIR ch)).toNat)) ∧
    (∃ (m : Master) (ch : Fin 24) (fir : Bool) (v : Word) (c f : Nat) (s : State), s.Reached m (if fir then R.MON_CH_FIR ch else R.MON_CH_CFG ch) ∧ c = (if fir then
      (s.rd (R.MON_CH_CFG ch)).toNat else v.toNat % 0x20000) ∧ f = (if fir then (v &&& 0x01FF01FF#32).toNat else (s.rd (R.MON_CH_FIR ch)).toNat) ∧ (m.code = 1 ∨
      m.code = 3 ∨ m.code = 5) ∧ ¬ (s.is (F.MON_CH_CFG_EN ch) = true ∧ (c / 2 ≠ (s.rd (R.MON_CH_CFG ch)).toNat / 2 ∨ f ≠ (s.rd (R.MON_CH_FIR ch)).toNat)) ∧
      s.monFailed ch = true ∧ fir = false ∧ c % 2 = 1) ∧
    (∃ (m : Master) (ch : Fin 24) (fir : Bool) (v : Word) (c f : Nat) (s : State), s.Reached m (if fir then R.MON_CH_FIR ch else R.MON_CH_CFG ch) ∧ c = (if fir then
      (s.rd (R.MON_CH_CFG ch)).toNat else v.toNat % 0x20000) ∧ f = (if fir then (v &&& 0x01FF01FF#32).toNat else (s.rd (R.MON_CH_FIR ch)).toNat) ∧ (m.code = 1 ∨
      m.code = 3 ∨ m.code = 5) ∧ ¬ (s.is (F.MON_CH_CFG_EN ch) = true ∧ (c / 2 ≠ (s.rd (R.MON_CH_CFG ch)).toNat / 2 ∨ f ≠ (s.rd (R.MON_CH_FIR ch)).toNat)) ∧ ¬
      (s.monFailed ch = true ∧ fir = false ∧ c % 2 = 1) ∧ 512 < bitsOf f 16 9 + min 256 (bitsOf f 0 9)) ∧
    (∃ (m : Master) (ch : Fin 24) (fir : Bool) (v : Word) (c f : Nat) (s : State), s.Reached m (if fir then R.MON_CH_FIR ch else R.MON_CH_CFG ch) ∧ c = (if fir then
      (s.rd (R.MON_CH_CFG ch)).toNat else v.toNat % 0x20000) ∧ f = (if fir then (v &&& 0x01FF01FF#32).toNat else (s.rd (R.MON_CH_FIR ch)).toNat) ∧ (m.code = 1 ∨
      m.code = 3 ∨ m.code = 5) ∧ ¬ (s.is (F.MON_CH_CFG_EN ch) = true ∧ (c / 2 ≠ (s.rd (R.MON_CH_CFG ch)).toNat / 2 ∨ f ≠ (s.rd (R.MON_CH_FIR ch)).toNat)) ∧ ¬
      (s.monFailed ch = true ∧ fir = false ∧ c % 2 = 1) ∧ bitsOf f 16 9 + min 256 (bitsOf f 0 9) ≤ 512 ∧ c % 2 = 1 ∧ 40 * (s.monDemand ch (Machine.monConf c f)).2 <
      (s.monDemand ch (Machine.monConf c f)).1) ∧
    (∃ (m : Master) (ch : Fin 24) (fir : Bool) (v : Word) (c f : Nat) (s : State), s.Reached m (if fir then R.MON_CH_FIR ch else R.MON_CH_CFG ch) ∧ c = (if fir then
      (s.rd (R.MON_CH_CFG ch)).toNat else v.toNat % 0x20000) ∧ f = (if fir then (v &&& 0x01FF01FF#32).toNat else (s.rd (R.MON_CH_FIR ch)).toNat) ∧ (m.code = 1 ∨
      m.code = 3 ∨ m.code = 5) ∧ ¬ (s.is (F.MON_CH_CFG_EN ch) = true ∧ (c / 2 ≠ (s.rd (R.MON_CH_CFG ch)).toNat / 2 ∨ f ≠ (s.rd (R.MON_CH_FIR ch)).toNat)) ∧ ¬
      (s.monFailed ch = true ∧ fir = false ∧ c % 2 = 1) ∧ bitsOf f 16 9 + min 256 (bitsOf f 0 9) ≤ 512 ∧ (c % 2 = 0 ∨ (s.monDemand ch (Machine.monConf c f)).1 ≤ 40 *
      (s.monDemand ch (Machine.monConf c f)).2) ∧ (c % 2 = 0 ∨ s.is (F.MON_CH_CFG_EN ch) = true)) ∧
    (∃ (m : Master) (ch : Fin 24) (fir : Bool) (v : Word) (c f : Nat) (s : State), s.Reached m (if fir then R.MON_CH_FIR ch else R.MON_CH_CFG ch) ∧ c = (if fir then
      (s.rd (R.MON_CH_CFG ch)).toNat else v.toNat % 0x20000) ∧ f = (if fir then (v &&& 0x01FF01FF#32).toNat else (s.rd (R.MON_CH_FIR ch)).toNat) ∧ (m.code = 1 ∨
      m.code = 3 ∨ m.code = 5) ∧ ¬ (s.is (F.MON_CH_CFG_EN ch) = true ∧ (c / 2 ≠ (s.rd (R.MON_CH_CFG ch)).toNat / 2 ∨ f ≠ (s.rd (R.MON_CH_FIR ch)).toNat)) ∧ ¬
      (s.monFailed ch = true ∧ fir = false ∧ c % 2 = 1) ∧ bitsOf f 16 9 + min 256 (bitsOf f 0 9) ≤ 512 ∧ (c % 2 = 0 ∨ (s.monDemand ch (Machine.monConf c f)).1 ≤ 40 *
      (s.monDemand ch (Machine.monConf c f)).2) ∧ c % 2 = 1 ∧ s.is (F.MON_CH_CFG_EN ch) = false) ∧
    (∃ (m : Master) (i : Fin 512) (v : Word) (s : State), s.Reached m (R.MON_COEF i) ∧ (m.code = 1 ∨ m.code = 3 ∨ m.code = 5) ∧ (∀ c : Fin 24, ¬ (s.is
      (F.MON_CH_CFG_EN c) = true ∧ (s.monConf c).base ≤ i.val ∧ i.val < (s.monConf c).base + (s.monConf c).taps))) ∧
    (∃ (m : Master) (i : Fin 512) (v : Word) (c : Fin 24) (s : State), s.Reached m (R.MON_COEF i) ∧ (m.code = 1 ∨ m.code = 3 ∨ m.code = 5) ∧ s.is (F.MON_CH_CFG_EN
      c) = true ∧ (s.monConf c).base ≤ i.val ∧ i.val < (s.monConf c).base + (s.monConf c).taps ∧ (∀ k : Fin 24, k < c → ¬ (s.is (F.MON_CH_CFG_EN k) = true ∧
      (s.monConf k).base ≤ i.val ∧ i.val < (s.monConf k).base + (s.monConf k).taps))) ∧
    (∃ (m : Master) (i : Fin 512) (v : Word) (s : State), s.Reached m (R.MON_COEF i) ∧ m.code ≠ 1 ∧ m.code ≠ 3 ∧ m.code ≠ 5) ∧
    (∃ (edge : Bool × Nat) (s : State), s.monPower = true ∧ s.claimUse 0 = 1 ∧ edge.1 = !s.is F.MON_CTL_SYNC_EDGE ∧ 200 ≤ edge.2 ∧ s.monAt = none) ∧
    (∃ (edge : Bool × Nat) (a : Nat) (s : State), s.monPower = true ∧ s.claimUse 0 = 1 ∧ edge.1 = !s.is F.MON_CTL_SYNC_EDGE ∧ 200 ≤ edge.2 ∧ s.monAt = some a ∧ (if
      s.is F.CLK_SRC_SEL then 8000 else 8064) ≤ (s.clock - a) * 128) ∧
    (∃ (edge : Bool × Nat) (a : Nat) (s : State), s.monPower = true ∧ s.claimUse 0 = 1 ∧ edge.1 = !s.is F.MON_CTL_SYNC_EDGE ∧ 200 ≤ edge.2 ∧ s.monAt = some a ∧
      (s.clock - a) * 128 < (if s.is F.CLK_SRC_SEL then 8000 else 8064)) ∧
    (∃ (edge : Bool × Nat) (s : State), (s.monPower = false ∨ s.claimUse 0 ≠ 1 ∨ edge.1 = s.is F.MON_CTL_SYNC_EDGE ∨ edge.2 < 200) ∧ s.IrqRemembered) ∧
    (∃ (m : Master) (s : State), s.Reached m R.MON_CTL ∧ (m.code = 1 ∨ m.code = 3 ∨ m.code = 5) ∧ s.monPower = true ∧ s.monAt = none) ∧
    (∃ (m : Master) (a : Nat) (s : State), s.Reached m R.MON_CTL ∧ (m.code = 1 ∨ m.code = 3 ∨ m.code = 5) ∧ s.monPower = true ∧ s.monAt = some a ∧ (if s.is
      F.CLK_SRC_SEL then 8000 else 8064) ≤ (s.clock - a) * 128) ∧
    (∃ (m : Master) (a : Nat) (s : State), s.Reached m R.MON_CTL ∧ (m.code = 1 ∨ m.code = 3 ∨ m.code = 5) ∧ s.monPower = true ∧ s.monAt = some a ∧ (s.clock - a) *
      128 < (if s.is F.CLK_SRC_SEL then 8000 else 8064)) ∧
    (∃ (m : Master) (s : State), s.Reached m R.MON_CTL ∧ (m.code = 1 ∨ m.code = 3 ∨ m.code = 5) ∧ s.monPower = false) ∧
    (∃ (m : Master) (s : State), s.Reached m R.MON_CTL ∧ m.code ≠ 1 ∧ m.code ≠ 3 ∧ m.code ≠ 5) ∧
    (∃ (m : Master) (ch : Fin 24) (s : State), s.Reached m (R.MON_CH_ACC_N ch)) :=
  ⟨⟨17, 0x155#10, lit.setMonChan 17 { MonChan.init with coarse := 4 }, by decide⟩,
      ⟨17, 0x155#10, lit.setMonChan 17 { MonChan.init with coarse := 3 }, by decide⟩,
      ⟨17, 0x155#10, lit.setFld F.MON_FAILED_CH 0x20000, by decide⟩,
      ⟨17, 0x155#10, 2, (lit.setMonChan 17 { MonChan.init with coarse := 4 }).wr (weirReg 17 2) 0x40255400#32, by decide⟩,
      ⟨17, 0x155#10, 2, (lit.setMonChan 17 { MonChan.init with coarse := 4 }).wr (weirReg 17 2) 0x60255400#32, by decide⟩,
      ⟨17, 0x155#10, 2, (lit.setMonChan 17 { MonChan.init with coarse := 4 }).wr (weirReg 17 2) 0x50000000#32 |>.put (weirFld 17 2) true, by decide⟩,
      ⟨17, 0x155#10, 2, (lit.setMonChan 17 { MonChan.init with coarse := 4 }).wr (weirReg 17 2) 0#32 |>.put (weirFld 17 2) true, by decide⟩,
      ⟨11, 1023#10, ((lit.setMonChan 11 { MonChan.init with coarse := 4 }).setFld F.MODE_STATUS_CURRENT 2).setFld (F.LTX_STATUS_STATE 11) 4, by decide⟩,
      ⟨3, 0#10, (lit.setMonChan 3 { MonChan.init with coarse := 4 }).setFld F.MODE_STATUS_CURRENT 2, by decide⟩,
      ⟨17, [50000], 0, 1, 16, 0, 800000, 52428800000, [50000], (lit.wr (R.MON_CH_CFG 17) 0x1021#32).setMonChan 17 { MonChan.init with fine := 4 }, by decide⟩,
      ⟨17, [50000], 0, 1, 16, 0, 800000, 52428800000, [50000], (lit.wr (R.MON_CH_CFG 17) 0x1021#32).setMonChan 17 { MonChan.init with fine := 4 } |>.wr (weirReg 17 1) 0x50000005#32, by decide⟩,
      ⟨17, [50000], 0, 1, 16, 0, 800000, 52428800000, [50000], (lit.wr (R.MON_CH_CFG 17) 0x1021#32).setMonChan 17 { MonChan.init with fine := 3 }, by decide⟩,
      ⟨17, [5], lit, by decide⟩,
      ⟨17, [50000], 0, 1, 16, 0, 800000, 52428800000, [50000], 2, ((lit.wr (R.MON_CH_CFG 17) 0x1021#32).setMonChan 17 { MonChan.init with fine := 4 }).wr (weirReg 17 2) 0x502C3500#32, by decide⟩,
      ⟨17, [50000], 0, 1, 16, 0, 800000, 52428800000, [50000], 2, ((lit.wr (R.MON_CH_CFG 17) 0x1021#32).setMonChan 17 { MonChan.init with fine := 4 }).wr (weirReg 17 2) 0x702C3500#32, by decide⟩,
      ⟨17, [50000], 0, 1, 16, 0, 800000, 52428800000, [50000], 2, ((lit.wr (R.MON_CH_CFG 17) 0x1021#32).setMonChan 17 { MonChan.init with fine := 4 }).wr (weirReg 17 2) 0x40000000#32 |>.put (weirFld 17 2) true, by decide⟩,
      ⟨17, [50000], 0, 1, 16, 0, 800000, 52428800000, [50000], 2, ((lit.wr (R.MON_CH_CFG 17) 0x1021#32).setMonChan 17 { MonChan.init with fine := 4 }).wr (weirReg 17 2) 0#32 |>.put (weirFld 17 2) true, by decide⟩,
      ⟨.hostNS, 17, true, 0x1020#32, (lit.rd (R.MON_CH_CFG 17)).toNat, (0x1020#32 &&& 0x01FF01FF#32).toNat, lit, by decide⟩,
      ⟨.hostS, 17, true, 5#32, 0x1021, 5, (lit.wr (R.MON_CH_CFG 17) 0x1021#32), by decide⟩,
      ⟨.hostS, 17, false, 0x1021#32, 0x1021, (lit.rd (R.MON_CH_FIR 17)).toNat, lit.setFld F.MON_FAILED_CH 0x20000, by decide⟩,
      ⟨.hostS, 17, true, 0x01FF0002#32, (lit.rd (R.MON_CH_CFG 17)).toNat, 0x01FF0002, lit, by decide⟩,
      ⟨.hostS, 0, false, 0x1021#32, 0x1021, 0x100, [0, 1, 2].foldl (fun s i => (s.wr (R.MON_CH_CFG (i + 1)) 0x1021#32).wr (R.MON_CH_FIR (i + 1)) 0x100#32) (lit.wr (R.MON_CH_FIR 0) 0x100#32), by decide⟩,
      ⟨.hostS, 17, false, 0x1020#32, 0x1020, (lit.rd (R.MON_CH_FIR 17)).toNat, lit, by decide⟩,
      ⟨.hostS, 17, false, 0x1021#32, 0x1021, (lit.rd (R.MON_CH_FIR 17)).toNat, lit.setMonChan 17 { MonChan.init with fine := 4, delay := [5] }, by decide⟩,
      ⟨.hostS, 300, 0x3FFFF#32, lit, by decide⟩,
      ⟨.hostS, 5, 0x3FFFF#32, 17, (((lit.wr (R.MON_CH_CFG 17) 0x2021#32).wr (R.MON_CH_FIR 17) 0x00050002#32).setFld (F.MON_COEF_VALUE 5) 65536).setFld (F.MON_COEF_VALUE 6) 0x3FF00 |>.setMonChan 17 { MonChan.init with fine := 5, delay := [7] }, by decide⟩,
      ⟨.hostNS, 300, 0x3FFFF#32, lit, by decide⟩,
      ⟨(true, 200), lit.setFld F.MODE_CLAIM_MONSYNC_USE 1, by decide⟩,
      ⟨(true, 200), 0, { lit.setFld F.MODE_CLAIM_MONSYNC_USE 1 with monAt := some 0, clock := 63 }, by decide⟩,
      ⟨(true, 200), 0, { (lit.setFld F.MODE_CLAIM_MONSYNC_USE 1).setFld F.MON_SYNC_STAT_LAST_SRC 2 with monAt := some 0, clock := 62 }, by decide⟩,
      ⟨(true, 199), lit.setFld F.MODE_CLAIM_MONSYNC_USE 1, by decide⟩,
      ⟨.smp, lit, by decide⟩,
      ⟨.smp, 0, { lit with monAt := some 0, clock := 63 }, by decide⟩,
      ⟨.smp, 0, { lit.setFld F.MON_SYNC_STAT_LAST_SRC 3 with monAt := some 0, clock := 62 }, by decide⟩,
      ⟨.smp, lit.wr 0x04004000 0xFFFF#32, by decide⟩,
      ⟨.hostNS, lit, by decide⟩,
      ⟨.hostS, 17, (lit.wr (R.MON_CH_ACC_N 17) 9#32).setMonChan 17 { MonChan.init with sum := 0x123456789A }, by decide⟩⟩

theorem test_meets_TemperaturesThrottleAndShutDown :
    (∃ (rd : List (Int × Nat)) (s : State), s.domOn 1 = true ∧ rd.length = 12 ∧ rd.all (fun r => decide (-512 ≤ r.1) && decide (r.1 ≤ 511) && decide (r.2 < 4096)) =
      true) ∧
    (∃ (rd : List (Int × Nat)) (s : State), s.domOn 1 = true ∧ rd.length = 12 ∧ rd.all (fun r => decide (-512 ≤ r.1) && decide (r.1 ≤ 511) && decide (r.2 < 4096)) =
      true ∧ (∀ i : Fin 12, (rd.getD i.val (0, 0)).1 ≤ 300 ∨ (s.sensor i).subst = false)) ∧
    (∃ (rd : List (Int × Nat)) (i : Fin 12) (x : Int) (s : State), s.domOn 1 = true ∧ rd.length = 12 ∧ rd.all (fun r => decide (-512 ≤ r.1) && decide (r.1 ≤ 511) &&
      decide (r.2 < 4096)) = true ∧ (s.sensor i).subst = true ∧ (∀ k : Fin 12, k ≠ i → (s.sensor k).subst = false ∧ s.broken k = false ∧ s.is (F.THERM_READ_PROBATION
      k) = false ∧ (s.sensor k).outN = 0 ∧ (s.sensor k).same < 63 ∧ (s.sensor k).disN < 15) ∧ s.broken i = true ∧ (∀ k : Fin 12, k ≠ i → -80 ≤ (rd.getD k.val (0,
      0)).1 ∧ (rd.getD k.val (0, 0)).1 ≤ x) ∧ x ≤ 300 ∧ (rd.getD (if i.val = 0 then 1 else 0) (0, 0)).1 = x) ∧
    (∃ (rd : List (Int × Nat)) (s : State), s.domOn 1 = true ∧ rd.length = 12 ∧ rd.all (fun r => decide (-512 ≤ r.1) && decide (r.1 ≤ 511) && decide (r.2 < 4096)) =
      true) ∧
    (∃ (rd : List (Int × Nat)) (s : State), s.domOn 1 = true ∧ rd.length = 12 ∧ rd.all (fun r => decide (-512 ≤ r.1) && decide (r.1 ≤ 511) && decide (r.2 < 4096)) =
      true ∧ 1 ≤ s.therm.hot ∧ (∀ i : Fin 12, s.broken i = false ∧ s.is (F.THERM_READ_PROBATION i) = false ∧ (s.sensor i).outN = 0 ∧ (s.sensor i).same < 63 ∧
      (s.sensor i).disN < 15 ∧ (s.sensor i).subst = false) ∧ (∀ i : Fin 12, 2 * (s.fld F.THERM_THRESH_SHUTDOWN : Int) ≤ (rd.getD i.val (0, 0)).1 ∧ (rd.getD i.val (0,
      0)).1 ≤ 300) ∧ s.is F.MODE_STATUS_BUSY = false ∧ 2 ≤ s.mode) ∧
    (∃ (rd : List (Int × Nat)) (s : State), s.domOn 1 = true ∧ rd.length = 12 ∧ rd.all (fun r => decide (-512 ≤ r.1) && decide (r.1 ≤ 511) && decide (r.2 < 4096)) =
      true ∧ 1 ≤ s.therm.hot ∧ (∀ i : Fin 12, s.broken i = false ∧ s.is (F.THERM_READ_PROBATION i) = false ∧ (s.sensor i).outN = 0 ∧ (s.sensor i).same < 63 ∧
      (s.sensor i).disN < 15 ∧ (s.sensor i).subst = false) ∧ (∀ i : Fin 12, 2 * (s.fld F.THERM_THRESH_SHUTDOWN : Int) ≤ (rd.getD i.val (0, 0)).1 ∧ (rd.getD i.val (0,
      0)).1 ≤ 300) ∧ s.is F.MODE_STATUS_BUSY = false ∧ s.is F.MODE_STATUS_WAITING = false ∧ s.mode = 1 ∧ s.is F.CAL_CTL_TEMP_EN = false ∧ s.is F.THERM_CTL_THROT_EN =
      false ∧ s.fld F.THERM_STAT_LEVEL = 0) ∧
    (∃ (rd : List (Int × Nat)) (s : State), s.domOn 1 = true ∧ rd.length = 12 ∧ rd.all (fun r => decide (-512 ≤ r.1) && decide (r.1 ≤ 511) && decide (r.2 < 4096)) =
      true ∧ (∀ i : Fin 12, (s.sensor i).subst = false) ∧ (∀ i : Fin 12, (rd.getD i.val (0, 0)).1 < -80 ∨ 300 < (rd.getD i.val (0, 0)).1) ∧ s.is F.MODE_STATUS_BUSY =
      false ∧ 2 ≤ s.mode) ∧
    (∃ (rd : List (Int × Nat)) (s : State), s.domOn 1 = true ∧ rd.length = 12 ∧ rd.all (fun r => decide (-512 ≤ r.1) && decide (r.1 ≤ 511) && decide (r.2 < 4096)) =
      true ∧ (∀ i : Fin 12, (s.sensor i).subst = false) ∧ (∀ i : Fin 12, (rd.getD i.val (0, 0)).1 < -80 ∨ 300 < (rd.getD i.val (0, 0)).1) ∧ s.is F.MODE_STATUS_BUSY =
      false ∧ s.is F.MODE_STATUS_WAITING = false ∧ s.mode = 1 ∧ s.is F.CAL_CTL_TEMP_EN = false ∧ s.is F.THERM_CTL_THROT_EN = false ∧ s.fld F.THERM_STAT_LEVEL = 0) ∧
    (∃ (rd : List (Int × Nat)) (s : State), s.domOn 1 = true ∧ rd.length = 12 ∧ rd.all (fun r => decide (-512 ≤ r.1) && decide (r.1 ≤ 511) && decide (r.2 < 4096)) =
      true ∧ s.is F.MODE_STATUS_BUSY = true ∧ 2 ≤ s.fld F.MODE_STATUS_IN_TARGET ∧ s.fld F.MODE_STATUS_IN_TARGET ≤ 5 ∧ (∀ i : Fin 12, (s.sensor i).subst = false) ∧ (∀
      i : Fin 12, (rd.getD i.val (0, 0)).1 < -80 ∨ 300 < (rd.getD i.val (0, 0)).1)) ∧
    (∃ (rd : List (Int × Nat)) (s : State), s.domOn 1 = true ∧ rd.length = 12 ∧ rd.all (fun r => decide (-512 ≤ r.1) && decide (r.1 ≤ 511) && decide (r.2 < 4096)) =
      true ∧ s.is F.MODE_STATUS_BUSY = true ∧ s.fld F.MODE_STATUS_IN_TARGET < 2 ∧ (∀ i : Fin 12, (s.sensor i).subst = false) ∧ (∀ i : Fin 12, (rd.getD i.val (0, 0)).1
      < -80 ∨ 300 < (rd.getD i.val (0, 0)).1)) ∧
    (∃ (rd : List (Int × Nat)) (s : State), s.domOn 1 = true ∧ rd.length = 12 ∧ rd.all (fun r => decide (-512 ≤ r.1) && decide (r.1 ≤ 511) && decide (r.2 < 4096)) =
      true ∧ s.is F.CAL_CTL_TEMP_EN = false ∧ s.is F.THERM_CTL_THROT_EN = false ∧ s.fld F.THERM_STAT_LEVEL = 0 ∧ s.therm.hot = 0 ∧ s.therm.fresh = false ∧ (∀ i : Fin
      12, s.broken i = false ∧ s.is (F.THERM_READ_PROBATION i) = false ∧ (s.sensor i).same < 63 ∧ (s.sensor i).disN < 15 ∧ (s.sensor i).subst = false) ∧ (∀ i : Fin
      12, -80 ≤ (rd.getD i.val (0, 0)).1 ∧ (rd.getD i.val (0, 0)).1 ≤ 300)) ∧
    (∃ (rd : List (Int × Nat)) (s : State), rd.length = 12 ∧ rd.all (fun r => decide (-512 ≤ r.1) && decide (r.1 ≤ 511) && decide (r.2 < 4096)) = true ∧ s.domOn 1 =
      false ∧ s.IrqRemembered) ∧
    (∃ (s : State), s.domOn 1 = true ∧ s.is F.THERM_CTL_THROT_EN = true ∧ s.fld F.THERM_STAT_LEVEL ≠ 0 ∧ s.is F.THERM_STAT_FROZEN = false ∧ s.therm.below.isSome =
      true) ∧
    (∃ (s : State), (s.domOn 1 = false ∨ s.is F.THERM_CTL_THROT_EN = false ∨ s.fld F.THERM_STAT_LEVEL = 0 ∨ s.is F.THERM_STAT_FROZEN = true ∨ s.therm.below = none)
      ∧ s.IrqRemembered) ∧
    (∃ (m : Master) (v : Word) (i : Fin 12) (s : State), s.Reached m R.THERM_BROKEN ∧ (m.code = 1 ∨ m.code = 3 ∨ m.code = 5)) ∧
    (∃ (m : Master) (v : Word) (s : State), s.Reached m R.THERM_BROKEN ∧ m.code ≠ 1 ∧ m.code ≠ 3 ∧ m.code ≠ 5) ∧
    (∃ (m : Master) (s : State), s.Reached m R.THERM_ACK ∧ (m.code = 1 ∨ m.code = 3 ∨ m.code = 5)) ∧
    (∃ (m : Master) (s : State), s.Reached m R.THERM_ACK ∧ m.code ≠ 1 ∧ m.code ≠ 3 ∧ m.code ≠ 5) ∧
    (∃ (m : Master) (s : State), s.Reached m R.THERM_ACK ∧ (m.code = 1 ∨ m.code = 3 ∨ m.code = 5) ∧ s.sfld F.THERM_STAT_MAX ≤ 2 * (s.fld F.THERM_THRESH_SHUTDOWN :
      Int) - 2 * (s.fld F.THERM_THRESH_HYST : Int)) ∧
    (∃ (m : Master) (s : State), s.Reached m R.THERM_ACK ∧ (m.code = 1 ∨ m.code = 3 ∨ m.code = 5) ∧ 2 * (s.fld F.THERM_THRESH_SHUTDOWN : Int) - 2 * (s.fld
      F.THERM_THRESH_HYST : Int) < s.sfld F.THERM_STAT_MAX) ∧
    (∃ (m : Master) (s : State), s.Reached m R.THERM_ACK ∧ m.code ≠ 1 ∧ m.code ≠ 3 ∧ m.code ≠ 5) ∧
    (∃ (m : Master) (v : Word) (s : State), s.Reached m R.THERM_THRESH ∧ (m.code = 1 ∨ m.code = 3 ∨ m.code = 5) ∧ bitsOf v.toNat 0 8 ≤ bitsOf v.toNat 8 8 ∧ bitsOf
      v.toNat 8 8 < max 100 (min 122 (bitsOf v.toNat 16 8))) ∧
    (∃ (m : Master) (v : Word) (s : State), s.Reached m R.THERM_THRESH ∧ (m.code = 1 ∨ m.code = 3 ∨ m.code = 5) ∧ (bitsOf v.toNat 8 8 < bitsOf v.toNat 0 8 ∨ max 100
      (min 122 (bitsOf v.toNat 16 8)) ≤ bitsOf v.toNat 8 8)) ∧
    (∃ (m : Master) (v : Word) (s : State), s.Reached m R.THERM_THRESH ∧ m.code ≠ 1 ∧ m.code ≠ 3 ∧ m.code ≠ 5) ∧
    (∃ (m : Master) (s : State), s.Reached m R.THERM_PEAK) :=
  ⟨⟨(List.replicate 12 (60, 7)), { lit with therm := { lit.therm with fresh := false } }, by decide⟩,
      ⟨(List.replicate 12 (60, 7)), { lit with therm := { lit.therm with fresh := false } }, by decide⟩,
      ⟨(List.replicate 12 (100, 7)), 4, 100, { (lit.setFld F.THERM_STAT_LEVEL 1).setFld F.THERM_BROKEN_TS 0x10 with therm := { lit.therm with fresh := false, sensors := [(4, { Sensor.init with wasMax := true, subst := true })] } }, by decide⟩,
      ⟨(List.replicate 12 (60, 7)), { lit with therm := { lit.therm with fresh := false } }, by decide⟩,
      ⟨(List.replicate 12 (244, 7)), { ((lit.setFld F.MODE_STATUS_CURRENT 2).setFld (F.LTX_STATUS_STATE 11) 4) with therm := { lit.therm with fresh := false, hot := 1 } }, by decide⟩,
      ⟨(List.replicate 12 (244, 7)), { ((lit.put F.CAL_CTL_TEMP_EN false).put F.THERM_CTL_THROT_EN false) with therm := { lit.therm with fresh := false, hot := 1 } }, by decide⟩,
      ⟨(List.replicate 12 (301, 7)), ((lit.setFld F.MODE_STATUS_CURRENT 2).setFld (F.LTX_STATUS_STATE 11) 4), by decide⟩,
      ⟨(List.replicate 12 (301, 7)), ((lit.put F.CAL_CTL_TEMP_EN false).put F.THERM_CTL_THROT_EN false), by decide⟩,
      ⟨(List.replicate 12 (301, 7)), (lit.put F.MODE_STATUS_BUSY true).setFld F.MODE_STATUS_IN_TARGET 2, by decide⟩,
      ⟨(List.replicate 12 (301, 7)), ((lit.put F.MODE_STATUS_BUSY true).setFld F.MODE_STATUS_IN_TARGET 1).setFld F.MODE_STATUS_CURRENT 2, by decide⟩,
      ⟨(List.replicate 12 (60, 7)), { (lit.put F.CAL_CTL_TEMP_EN false).put F.THERM_CTL_THROT_EN false with therm := { lit.therm with fresh := false } }, by decide⟩,
      ⟨(List.replicate 12 (60, 7)), lit.wr 0x04004000 0#32, by decide⟩,
      ⟨{ (lit.put F.THERM_CTL_THROT_EN true).setFld F.THERM_STAT_LEVEL 3 with therm := { lit.therm with below := some 0 } }, by decide⟩,
      ⟨{ (lit.put F.THERM_CTL_THROT_EN true).setFld F.THERM_STAT_LEVEL 3 with therm := { lit.therm with below := none } }, by decide⟩,
      ⟨.hostS, 0x30#32, 5, (lit.setFld F.THERM_BROKEN_TS 0x21).setFld (F.THERM_READ_CAUSE 5) 2, by decide⟩,
      ⟨.hostNS, 0x30#32, lit.setFld F.THERM_BROKEN_TS 0x21, by decide⟩,
      ⟨.hostS, lit.put F.THERM_STAT_FROZEN true, by decide⟩,
      ⟨.hostNS, lit.put F.THERM_STAT_FROZEN true, by decide⟩,
      ⟨.hostS, (lit.put F.MODE_STATUS_THERM_HOLD true).put (F.LTX_FAULT_CAUSE_THERMAL 9) true, by decide⟩,
      ⟨.hostS, (lit.put F.MODE_STATUS_THERM_HOLD true).setFld F.THERM_STAT_MAX 235, by decide⟩,
      ⟨.hostNS, lit.put F.MODE_STATUS_THERM_HOLD true, by decide⟩,
      ⟨.hostS, 0x0F805050#32, lit, by decide⟩,
      ⟨.hostS, 0x0F805051#32, lit, by decide⟩,
      ⟨.hostNS, 0x0F805050#32, lit, by decide⟩,
      ⟨.hostNS, (lit.setFld F.THERM_PEAK_MAX 9).setFld F.THERM_STAT_MAX 5, by decide⟩⟩

theorem test_meets_CountersAreReadLoadedAndFrozen :
    (∃ (i : Fin 32) (s : State), s.domOn 1 = true ∧ s.perf.frozen = false ∧ 2 ^ 48 ≤ s.counter i + s.countPart i) ∧
    (∃ (i : Fin 32) (s : State), (s.domOn 1 = false ∨ s.perf.frozen = true ∨ s.counter i + s.countPart i < 2 ^ 48) ∧ s.IrqRemembered) ∧
    (∃ (m : Master) (i : Fin 32) (s : State), s.Reached m (R.PERF_CNT_LO i)) ∧
    (∃ (m : Master) (i : Fin 32) (hi : Word) (s : State), s.Reached m (R.PERF_CNT_HI i) ∧ (m.code = 1 ∨ m.code = 3 ∨ 16 ≤ i.val ∧ (m.code = 2 ∨ m.code = 4))) ∧
    (∃ (m : Master) (i : Fin 32) (hi : Word) (s : State), s.Reached m (R.PERF_CNT_HI i) ∧ (m.code = 1 ∨ m.code = 3 ∨ 16 ≤ i.val ∧ (m.code = 2 ∨ m.code = 4)) ∧
      (s.counting.filter fun c => s.selects c.1 c.2 (s.masterEvent 2 m.code (some (R.PERF_CNT_HI i)))).map (fun c => c.1) = [i.val]) ∧
    (∃ (m : Master) (i : Fin 32) (hi : Word) (s : State), s.Reached m (R.PERF_CNT_HI i) ∧ m.code ≠ 1 ∧ m.code ≠ 3 ∧ (i.val < 16 ∨ m.code ≠ 2 ∧ m.code ≠ 4)) ∧
    (∃ (m : Master) (on : Bool) (s : State), s.Reached m R.PERF_CTL ∧ (m.code = 1 ∨ m.code = 3)) ∧
    (∃ (m : Master) (on : Bool) (s : State), s.Reached m R.PERF_CTL ∧ m.code ≠ 1 ∧ m.code ≠ 3) ∧
    (∃ (m : Master) (s : State), s.Reached m R.PERF_CTL ∧ (m.code = 1 ∨ m.code = 3)) ∧
    (∃ (m : Master) (s : State), s.Reached m R.PERF_CTL ∧ m.code ≠ 1 ∧ m.code ≠ 3) ∧
    (∃ (m : Master) (s : State), s.Reached m R.PERF_CTL ∧ (m.code = 1 ∨ m.code = 3)) ∧
    (∃ (m : Master) (s : State), s.Reached m R.PERF_CTL ∧ m.code ≠ 1 ∧ m.code ≠ 3) ∧
    (∃ (m : Master) (i : Fin 32) (v : Word) (s : State), s.Reached m (R.PERF_CNT_CTL i) ∧ (m.code = 1 ∨ m.code = 3 ∨ 16 ≤ i.val ∧ (m.code = 2 ∨ m.code = 4)) ∧ (s.is
      (F.PERF_CNT_CTL_EN i) = false ∨ (if s.is F.MODE_PERSONA_ACTIVE then v.toNat % 256 else v.toNat % 32) = s.fld (F.PERF_CNT_CTL_CLASS i))) ∧
    (∃ (m : Master) (i : Fin 32) (v : Word) (s : State), s.Reached m (R.PERF_CNT_CTL i) ∧ (m.code = 1 ∨ m.code = 3 ∨ 16 ≤ i.val ∧ (m.code = 2 ∨ m.code = 4)) ∧ s.is
      (F.PERF_CNT_CTL_EN i) = true ∧ (if s.is F.MODE_PERSONA_ACTIVE then v.toNat % 256 else v.toNat % 32) ≠ s.fld (F.PERF_CNT_CTL_CLASS i)) ∧
    (∃ (m : Master) (i : Fin 32) (r : Fin 6) (v : Word) (s : State), s.Reached m (R.PERF_CNT_CTL i) ∧ r ≠ 0 ∧ (m.code = 1 ∨ m.code = 3 ∨ 16 ≤ i.val ∧ (m.code = 2 ∨
      m.code = 4)) ∧ (s.is (F.PERF_CNT_CTL_EN i) = false ∨ (if r.val = 1 ∧ 16 ≤ i.val then v &&& 0xEFF#32 else v &&& [0xFFF#32, 0xFFFFFFFF#32, 0xFFFFFFFF#32,
      0xFFFFFFFF#32, 0xFFFF#32].getD (r.val - 1) 0#32) = s.rd (R.PERF_CNT_CTL i + [0x00, 0x0C, 0x10, 0x14, 0x18, 0x1C].getD r.val 0))) ∧
    (∃ (m : Master) (i : Fin 32) (r : Fin 6) (v : Word) (s : State), s.Reached m (R.PERF_CNT_CTL i) ∧ r ≠ 0 ∧ (m.code = 1 ∨ m.code = 3 ∨ 16 ≤ i.val ∧ (m.code = 2 ∨
      m.code = 4)) ∧ s.is (F.PERF_CNT_CTL_EN i) = true ∧ (if r.val = 1 ∧ 16 ≤ i.val then v &&& 0xEFF#32 else v &&& [0xFFF#32, 0xFFFFFFFF#32, 0xFFFFFFFF#32,
      0xFFFFFFFF#32, 0xFFFF#32].getD (r.val - 1) 0#32) ≠ s.rd (R.PERF_CNT_CTL i + [0x00, 0x0C, 0x10, 0x14, 0x18, 0x1C].getD r.val 0)) ∧
    (∃ (m : Master) (i : Fin 32) (r : Fin 6) (v : Word) (s : State), s.Reached m (R.PERF_CNT_CTL i) ∧ m.code ≠ 1 ∧ m.code ≠ 3 ∧ (i.val < 16 ∨ m.code ≠ 2 ∧ m.code ≠
      4)) ∧
    (∃ (m : Master) (v : Word) (s : State), s.Reached m R.PERF_BW_CTL ∧ (m.code = 1 ∨ m.code = 3)) ∧
    (∃ (m : Master) (v : Word) (s : State), s.Reached m R.PERF_BW_CTL ∧ m.code ≠ 1 ∧ m.code ≠ 3) ∧
    (∃ (s : State), s.domOn 1 = true ∧ s.is F.PERF_BW_CTL_RUN = true ∧ s.perf.start + (s.perf.ended + 1) * s.perf.window * 3125 / 4 ≤ s.clock) ∧
    (∃ (s : State), (s.domOn 1 = false ∨ s.is F.PERF_BW_CTL_RUN = false ∨ s.clock < s.perf.start + (s.perf.ended + 1) * s.perf.window * 3125 / 4) ∧ s.IrqRemembered) :=
  ⟨⟨5, (((lit.wr (R.PERF_CNT_LO 5) 0xFFFFFFFF#32).wr (R.PERF_CNT_HI 5) 0xFFFF#32).put F.PERF_CTL_WRAP_FREEZE true).setPart 5 8, by decide⟩,
      ⟨5, lit.setPart 5 8, by decide⟩,
      ⟨.hostS, 5, (lit.wr (R.PERF_CNT_LO 5) 9#32).wr (R.PERF_CNT_HI 5) 3#32, by decide⟩,
      ⟨.hostNS, 20, 0x12345#32, { lit with perf := { lit.perf with staged := [(20, 7#32)] } }, by decide⟩,
      ⟨.hostNS, 20, 0x12345#32, { lit with perf := { lit.perf with staged := [(20, 7#32)] } } |>.wr (R.PERF_CNT_CTL 20) 0x102#32, by decide⟩,
      ⟨.hostNS, 12, 0x12345#32, lit, by decide⟩,
      ⟨.hostS, true, lit, by decide⟩,
      ⟨.hostNS, true, lit, by decide⟩,
      ⟨.hostS, (lit.wr (R.PERF_CNT_LO 5) 9#32).wr (R.PERF_CNT_HI 5) 3#32, by decide⟩,
      ⟨.hostNS, lit, by decide⟩,
      ⟨.hostS, (lit.wr (R.PERF_CNT_LO 5) 9#32).wr (R.PERF_CNT_HI 5) 3#32, by decide⟩,
      ⟨.hostNS, lit, by decide⟩,
      ⟨.hostNS, 20, 0x2FF#32, lit, by decide⟩,
      ⟨.hostS, 3, 0x103#32, ((lit.put (F.PERF_CNT_CTL_EN 3) true)).put F.PERF_CTL_FREEZE true, by decide⟩,
      ⟨.hostS, 3, 1, 0xFFFFFFFF#32, lit, by decide⟩,
      ⟨.hostS, 3, 1, 0x7FE#32, (lit.put (F.PERF_CNT_CTL_EN 3) true), by decide⟩,
      ⟨.hostNS, 12, 0, 0x101#32, lit, by decide⟩,
      ⟨.hostS, 0x800F4240#32, { lit with perf := { lit.perf with bytes := [(3, 100)], carry := [(4, 9)] } }, by decide⟩,
      ⟨.hostNS, 0x800F4240#32, lit, by decide⟩,
      ⟨{ (lit.put F.PERF_BW_CTL_RUN true).setFld F.PERF_BW_CTL_WINDOW 1000 with clock := 781250, perf := { lit.perf with bytes := [(3, 100)], carry := [(4, 9)] } }, by decide⟩,
      ⟨{ (lit.put F.PERF_BW_CTL_RUN true) with clock := 781249, perf := { lit.perf with bytes := [(3, 100)] } }, by decide⟩⟩

theorem test_meets_FaultsAreReportedDeclaredAndLogged :
    (∃ (m : Master) (v : Word) (i c e : Nat) (s : State), s.Reached m R.FAULT_REPORT ∧ i = ladderOf (bitsOf v.toNat 0 6) ∧ c = bitsOf v.toNat 8 7 ∧ e = (if c = 15
      then bitsOf v.toNat 16 3 else entryLevel c) ∧ (m.code = 1 ∨ m.code = 3 ∧ c = 15) ∧ bitsOf v.toNat 0 6 < 48 ∧ 1 ≤ c ∧ c ≤ 15 ∧ (c = 15 → 1 ≤ e ∧ e ≤ 4) ∧ s.is
      (F.FAULT_LADDER_ACTIVE i) = true ∧ (s.fld (F.FAULT_LADDER_LEVEL i) = 2 ∨ s.fld (F.FAULT_LADDER_LEVEL i) = 3) ∧ (c = 2 ∨ c = 4 ∨ c = 5)) ∧
    (∃ (m : Master) (v : Word) (i c e : Nat) (s : State), s.Reached m R.FAULT_REPORT ∧ i = ladderOf (bitsOf v.toNat 0 6) ∧ c = bitsOf v.toNat 8 7 ∧ e = (if c = 15
      then bitsOf v.toNat 16 3 else entryLevel c) ∧ (m.code = 1 ∨ m.code = 3 ∧ c = 15) ∧ bitsOf v.toNat 0 6 < 48 ∧ 1 ≤ c ∧ c ≤ 15 ∧ (c = 15 → 1 ≤ e ∧ e ≤ 4) ∧ ¬ (s.is
      (F.FAULT_LADDER_ACTIVE i) = true ∧ (s.fld (F.FAULT_LADDER_LEVEL i) = 2 ∨ s.fld (F.FAULT_LADDER_LEVEL i) = 3) ∧ (c = 2 ∨ c = 4 ∨ c = 5)) ∧ s.ladderActs i = false
      ∧ s.firstFault i) ∧
    (∃ (m : Master) (v : Word) (i c e : Nat) (s : State), s.Reached m R.FAULT_REPORT ∧ i = ladderOf (bitsOf v.toNat 0 6) ∧ c = bitsOf v.toNat 8 7 ∧ e = (if c = 15
      then bitsOf v.toNat 16 3 else entryLevel c) ∧ (m.code = 1 ∨ m.code = 3 ∧ c = 15) ∧ bitsOf v.toNat 0 6 < 48 ∧ 1 ≤ c ∧ c ≤ 15 ∧ (c = 15 → 1 ≤ e ∧ e ≤ 4) ∧ ¬ (s.is
      (F.FAULT_LADDER_ACTIVE i) = true ∧ (s.fld (F.FAULT_LADDER_LEVEL i) = 2 ∨ s.fld (F.FAULT_LADDER_LEVEL i) = 3) ∧ (c = 2 ∨ c = 4 ∨ c = 5)) ∧ s.ladderActs i = true
      ∧ s.devFaulted = true ∧ s.firstFault i) ∧
    (∃ (m : Master) (v : Word) (i c e : Nat) (s : State), s.Reached m R.FAULT_REPORT ∧ i = ladderOf (bitsOf v.toNat 0 6) ∧ c = bitsOf v.toNat 8 7 ∧ e = (if c = 15
      then bitsOf v.toNat 16 3 else entryLevel c) ∧ (m.code = 1 ∨ m.code = 3 ∧ c = 15) ∧ bitsOf v.toNat 0 6 < 48 ∧ 1 ≤ c ∧ c ≤ 15 ∧ (c = 15 → 1 ≤ e ∧ e ≤ 4) ∧
      s.ladderActs i = true ∧ s.devFaulted = false ∧ s.is (F.FAULT_LADDER_ACTIVE i) = false ∧ s.entryAt i e < 4 ∧ s.firstFault i) ∧
    (∃ (m : Master) (v : Word) (i c e : Nat) (s : State), s.Reached m R.FAULT_REPORT ∧ i = ladderOf (bitsOf v.toNat 0 6) ∧ c = bitsOf v.toNat 8 7 ∧ e = (if c = 15
      then bitsOf v.toNat 16 3 else entryLevel c) ∧ (m.code = 1 ∨ m.code = 3 ∧ c = 15) ∧ bitsOf v.toNat 0 6 < 48 ∧ 1 ≤ c ∧ c ≤ 15 ∧ (c = 15 → 1 ≤ e ∧ e ≤ 4) ∧
      s.ladderActs i = true ∧ s.devFaulted = false ∧ s.is (F.FAULT_LADDER_ACTIVE i) = false ∧ 4 ≤ s.entryAt i e ∧ s.firstFault i) ∧
    (∃ (m : Master) (v : Word) (i c e : Nat) (s : State), s.Reached m R.FAULT_REPORT ∧ i = ladderOf (bitsOf v.toNat 0 6) ∧ c = bitsOf v.toNat 8 7 ∧ e = (if c = 15
      then bitsOf v.toNat 16 3 else entryLevel c) ∧ (m.code = 1 ∨ m.code = 3 ∧ c = 15) ∧ bitsOf v.toNat 0 6 < 48 ∧ 1 ≤ c ∧ c ≤ 15 ∧ (c = 15 → 1 ≤ e ∧ e ≤ 4) ∧
      s.ladderActs i = true ∧ s.devFaulted = false ∧ ¬ (s.is (F.FAULT_LADDER_ACTIVE i) = true ∧ (s.fld (F.FAULT_LADDER_LEVEL i) = 2 ∨ s.fld (F.FAULT_LADDER_LEVEL i) =
      3) ∧ (c = 2 ∨ c = 4 ∨ c = 5)) ∧ s.is (F.FAULT_LADDER_ACTIVE i) = true ∧ s.fld (F.FAULT_LADDER_LEVEL i) < 3 ∧ s.firstFault i) ∧
    (∃ (m : Master) (v : Word) (i c e : Nat) (s : State), s.Reached m R.FAULT_REPORT ∧ i = ladderOf (bitsOf v.toNat 0 6) ∧ c = bitsOf v.toNat 8 7 ∧ e = (if c = 15
      then bitsOf v.toNat 16 3 else entryLevel c) ∧ (m.code = 1 ∨ m.code = 3 ∧ c = 15) ∧ bitsOf v.toNat 0 6 < 48 ∧ 1 ≤ c ∧ c ≤ 15 ∧ (c = 15 → 1 ≤ e ∧ e ≤ 4) ∧
      s.ladderActs i = true ∧ s.devFaulted = false ∧ ¬ (s.is (F.FAULT_LADDER_ACTIVE i) = true ∧ (s.fld (F.FAULT_LADDER_LEVEL i) = 2 ∨ s.fld (F.FAULT_LADDER_LEVEL i) =
      3) ∧ (c = 2 ∨ c = 4 ∨ c = 5)) ∧ s.is (F.FAULT_LADDER_ACTIVE i) = true ∧ 3 ≤ s.fld (F.FAULT_LADDER_LEVEL i) ∧ s.firstFault i) ∧
    (∃ (m : Master) (v : Word) (i c e : Nat) (k : Mark) (s : State), s.Reached m R.FAULT_REPORT ∧ i = ladderOf (bitsOf v.toNat 0 6) ∧ c = bitsOf v.toNat 8 7 ∧ e =
      (if c = 15 then bitsOf v.toNat 16 3 else entryLevel c) ∧ (m.code = 1 ∨ m.code = 3 ∧ c = 15) ∧ bitsOf v.toNat 0 6 < 48 ∧ 1 ≤ c ∧ c ≤ 15 ∧ (c = 15 → 1 ≤ e ∧ e ≤
      4) ∧ (s.ladder i).mark = some k ∧ k.clock = s.clock ∧ e ≤ k.entry) ∧
    (∃ (m : Master) (v : Word) (i c e : Nat) (k : Mark) (s : State), s.Reached m R.FAULT_REPORT ∧ i = ladderOf (bitsOf v.toNat 0 6) ∧ c = bitsOf v.toNat 8 7 ∧ e =
      (if c = 15 then bitsOf v.toNat 16 3 else entryLevel c) ∧ (m.code = 1 ∨ m.code = 3 ∧ c = 15) ∧ bitsOf v.toNat 0 6 < 48 ∧ 1 ≤ c ∧ c ≤ 15 ∧ (c = 15 → 1 ≤ e ∧ e ≤
      4) ∧ (s.ladder i).mark = some k ∧ k.clock = s.clock ∧ k.entry < e ∧ k.idle = true ∧ s.ladderActs i = true ∧ s.devFaulted = false ∧ ¬ (s.is
      (F.FAULT_LADDER_ACTIVE i) = true ∧ (s.fld (F.FAULT_LADDER_LEVEL i) = 2 ∨ s.fld (F.FAULT_LADDER_LEVEL i) = 3) ∧ (c = 2 ∨ c = 4 ∨ c = 5)) ∧ s.fld
      (F.FAULT_LADDER_LEVEL i) < s.entryAt i e ∧ s.entryAt i e < 4) ∧
    (∃ (m : Master) (v : Word) (s : State), s.Reached m R.FAULT_REPORT ∧ m.code ≠ 1 ∧ (m.code ≠ 3 ∨ bitsOf v.toNat 8 7 ≠ 15)) ∧
    (∃ (m : Master) (v : Word) (s : State), s.Reached m R.FAULT_REPORT ∧ (m.code = 1 ∨ m.code = 3 ∧ bitsOf v.toNat 8 7 = 15) ∧ (47 < bitsOf v.toNat 0 6 ∨ bitsOf
      v.toNat 8 7 = 0 ∨ 15 < bitsOf v.toNat 8 7 ∨ bitsOf v.toNat 8 7 = 15 ∧ (bitsOf v.toNat 16 3 = 0 ∨ 4 < bitsOf v.toNat 16 3))) ∧
    (∃ (n : Fin 48) (s : State), s.is (F.FAULT_LADDER_ACTIVE (ladderOf n)) = false ∧ s.IrqRemembered) ∧
    (∃ (n : Fin 48) (s : State), (s.is (F.FAULT_LADDER_ACTIVE (ladderOf n)) = false ∨ s.stepReady (ladderOf n) = false) ∧ s.IrqRemembered) ∧
    (∃ (m : Master) (n : Fin 64) (s : State), s.Reached m R.FAULT_STEP ∧ m.code = 1 ∧ n.val < 48 ∧ s.is (F.FAULT_LADDER_ACTIVE (ladderOf n)) = true ∧ s.fld
      (F.FAULT_LADDER_LEVEL (ladderOf n)) = 1) ∧
    (∃ (m : Master) (n : Fin 64) (s : State), s.Reached m R.FAULT_STEP ∧ m.code = 1 ∧ ¬ (n.val < 48 ∧ s.is (F.FAULT_LADDER_ACTIVE (ladderOf n)) = true ∧ s.fld
      (F.FAULT_LADDER_LEVEL (ladderOf n)) = 1)) ∧
    (∃ (m : Master) (n : Fin 64) (s : State), s.Reached m R.FAULT_STEP ∧ m.code ≠ 1) ∧
    (∃ (m : Master) (v : Word) (k : Nat) (s : State), s.Reached m R.FAULT_DECLARE ∧ k = bitsOf v.toNat 0 3 ∧ (k = 4 ∧ m.code = 1 ∨ k = 5 ∧ (m.code = 3 ∨ m.code =
      5)) ∧ s.faultLog.length < 16) ∧
    (∃ (m : Master) (v : Word) (k : Nat) (l l2 : List LogEntry) (e : LogEntry) (s : State), s.Reached m R.FAULT_DECLARE ∧ k = bitsOf v.toNat 0 3 ∧ (k = 4 ∧ m.code =
      1 ∨ k = 5 ∧ (m.code = 3 ∨ m.code = 5)) ∧ s.faultLog = l ++ e :: l2 ∧ 16 ≤ s.faultLog.length ∧ e.isDev = false ∧ l2.all LogEntry.isDev = true) ∧
    (∃ (m : Master) (v : Word) (k : Nat) (s : State), s.Reached m R.FAULT_DECLARE ∧ k = bitsOf v.toNat 0 3 ∧ (k = 4 ∧ m.code = 1 ∨ k = 5 ∧ (m.code = 3 ∨ m.code =
      5)) ∧ 16 ≤ s.faultLog.length ∧ s.faultLog.all LogEntry.isDev = true) ∧
    (∃ (m : Master) (v : Word) (k : Nat) (s : State), s.Reached m R.FAULT_DECLARE ∧ k = bitsOf v.toNat 0 3 ∧ (k = 4 ∧ m.code = 1 ∨ k = 5 ∧ (m.code = 3 ∨ m.code =
      5)) ∧ bitAt v.toNat 3 = false ∧ s.is F.MODE_STATUS_WAITING = false ∧ ¬ (s.is F.MODE_STATUS_BUSY = true ∧ isData (s.fld F.MODE_STATUS_IN_TARGET) = true)) ∧
    (∃ (m : Master) (v : Word) (k : Nat) (s : State), s.Reached m R.FAULT_DECLARE ∧ k = bitsOf v.toNat 0 3 ∧ (k = 4 ∧ m.code = 1 ∨ k = 5 ∧ (m.code = 3 ∨ m.code =
      5)) ∧ s.is F.MODE_STATUS_WAITING = false ∧ s.is F.MODE_STATUS_BUSY = true ∧ isData (s.fld F.MODE_STATUS_IN_TARGET) = true) ∧
    (∃ (m : Master) (v : Word) (k : Nat) (s : State), s.Reached m R.FAULT_DECLARE ∧ k = bitsOf v.toNat 0 3 ∧ (k = 4 ∧ m.code = 1 ∨ k = 5 ∧ (m.code = 3 ∨ m.code =
      5)) ∧ s.is F.MODE_STATUS_WAITING = true) ∧
    (∃ (m : Master) (v : Word) (k : Nat) (s : State), s.Reached m R.FAULT_DECLARE ∧ k = bitsOf v.toNat 0 3 ∧ (k = 4 ∧ m.code = 1 ∨ k = 5 ∧ (m.code = 3 ∨ m.code =
      5)) ∧ bitAt v.toNat 3 = true) ∧
    (∃ (m : Master) (v : Word) (k : Nat) (s : State), s.Reached m R.FAULT_DECLARE ∧ k = bitsOf v.toNat 0 3 ∧ (k = 4 ∧ m.code ≠ 1 ∨ k = 5 ∧ m.code ≠ 3 ∧ m.code ≠ 5)) ∧
    (∃ (m : Master) (v : Word) (k : Nat) (s : State), s.Reached m R.FAULT_DECLARE ∧ k = bitsOf v.toNat 0 3 ∧ k ≠ 4 ∧ k ≠ 5) ∧
    (∃ (m : Master) (v : Word) (s : State), s.Reached m R.FAULT_DEV_CLR) ∧
    (∃ (m : Master) (v : Word) (s : State), s.Reached m R.FAULT_DEV_CLR ∧ (∀ c : Fin 6, 1 ≤ c.val → ¬ (bitAt v.toNat c.val = true ∧ bitAt (s.fld
      F.FAULT_DEV_ACTIVE_CLASS) (c.val - 1) = true ∧ (c.val = 2 ∧ s.is F.FAB_STATUS_MARGIN_CRIT = false ∨ c.val = 4 ∧ m.code = 1 ∨ c.val = 5 ∧ (m.code = 1 ∨ m.code =
      3 ∨ m.code = 5))))) ∧
    (∃ (m : Master) (v : Word) (c : Fin 6) (s : State), s.Reached m R.FAULT_DEV_CLR ∧ 1 ≤ c.val ∧ (bitAt v.toNat c.val = true ∧ bitAt (s.fld
      F.FAULT_DEV_ACTIVE_CLASS) (c.val - 1) = true ∧ (c.val = 2 ∧ s.is F.FAB_STATUS_MARGIN_CRIT = false ∨ c.val = 4 ∧ m.code = 1 ∨ c.val = 5 ∧ (m.code = 1 ∨ m.code =
      3 ∨ m.code = 5))) ∧ (∀ k : Fin 6, 1 ≤ k.val → k ≠ c → ¬ (bitAt v.toNat k.val = true ∧ bitAt (s.fld F.FAULT_DEV_ACTIVE_CLASS) (k.val - 1) = true ∧ (k.val = 2 ∧
      s.is F.FAB_STATUS_MARGIN_CRIT = false ∨ k.val = 4 ∧ m.code = 1 ∨ k.val = 5 ∧ (m.code = 1 ∨ m.code = 3 ∨ m.code = 5)))) ∧ s.fld F.FAULT_DEV_ACTIVE_CLASS ≠ 2 ^
      (c.val - 1)) ∧
    (∃ (m : Master) (v : Word) (c : Fin 6) (s : State), s.Reached m R.FAULT_DEV_CLR ∧ 1 ≤ c.val ∧ (bitAt v.toNat c.val = true ∧ bitAt (s.fld
      F.FAULT_DEV_ACTIVE_CLASS) (c.val - 1) = true ∧ (c.val = 2 ∧ s.is F.FAB_STATUS_MARGIN_CRIT = false ∨ c.val = 4 ∧ m.code = 1 ∨ c.val = 5 ∧ (m.code = 1 ∨ m.code =
      3 ∨ m.code = 5))) ∧ (∀ k : Fin 6, 1 ≤ k.val → k ≠ c → ¬ (bitAt v.toNat k.val = true ∧ bitAt (s.fld F.FAULT_DEV_ACTIVE_CLASS) (k.val - 1) = true ∧ (k.val = 2 ∧
      s.is F.FAB_STATUS_MARGIN_CRIT = false ∨ k.val = 4 ∧ m.code = 1 ∨ k.val = 5 ∧ (m.code = 1 ∨ m.code = 3 ∨ m.code = 5)))) ∧ s.fld F.FAULT_DEV_ACTIVE_CLASS = 2 ^
      (c.val - 1) ∧ (∀ i : Fin 48, (s.ladder (ladderOf i)).paused = false ∧ (s.ladder (ladderOf i)).held = 0)) ∧
    (∃ (m : Master) (v : Word) (c : Fin 6) (i : Fin 48) (s : State), s.Reached m R.FAULT_DEV_CLR ∧ 1 ≤ c.val ∧ (bitAt v.toNat c.val = true ∧ bitAt (s.fld
      F.FAULT_DEV_ACTIVE_CLASS) (c.val - 1) = true ∧ (c.val = 2 ∧ s.is F.FAB_STATUS_MARGIN_CRIT = false ∨ c.val = 4 ∧ m.code = 1 ∨ c.val = 5 ∧ (m.code = 1 ∨ m.code =
      3 ∨ m.code = 5))) ∧ (∀ k : Fin 6, 1 ≤ k.val → k ≠ c → ¬ (bitAt v.toNat k.val = true ∧ bitAt (s.fld F.FAULT_DEV_ACTIVE_CLASS) (k.val - 1) = true ∧ (k.val = 2 ∧
      s.is F.FAB_STATUS_MARGIN_CRIT = false ∨ k.val = 4 ∧ m.code = 1 ∨ k.val = 5 ∧ (m.code = 1 ∨ m.code = 3 ∨ m.code = 5)))) ∧ s.fld F.FAULT_DEV_ACTIVE_CLASS = 2 ^
      (c.val - 1) ∧ (s.ladder (ladderOf i)).paused = true ∧ s.fld (F.FAULT_LADDER_LEVEL (ladderOf i)) < 4) ∧
    (∃ (m : Master) (v : Word) (c : Fin 6) (i : Fin 48) (s : State), s.Reached m R.FAULT_DEV_CLR ∧ 1 ≤ c.val ∧ (bitAt v.toNat c.val = true ∧ bitAt (s.fld
      F.FAULT_DEV_ACTIVE_CLASS) (c.val - 1) = true ∧ (c.val = 2 ∧ s.is F.FAB_STATUS_MARGIN_CRIT = false ∨ c.val = 4 ∧ m.code = 1 ∨ c.val = 5 ∧ (m.code = 1 ∨ m.code =
      3 ∨ m.code = 5))) ∧ (∀ k : Fin 6, 1 ≤ k.val → k ≠ c → ¬ (bitAt v.toNat k.val = true ∧ bitAt (s.fld F.FAULT_DEV_ACTIVE_CLASS) (k.val - 1) = true ∧ (k.val = 2 ∧
      s.is F.FAB_STATUS_MARGIN_CRIT = false ∨ k.val = 4 ∧ m.code = 1 ∨ k.val = 5 ∧ (m.code = 1 ∨ m.code = 3 ∨ m.code = 5)))) ∧ s.fld F.FAULT_DEV_ACTIVE_CLASS = 2 ^
      (c.val - 1) ∧ (s.ladder (ladderOf i)).paused = false ∧ (s.ladder (ladderOf i)).held ≠ 0 ∧ s.ladderActs (ladderOf i) = true) ∧
    (∃ (m : Master) (s : State), s.Reached m R.FAULT_LOG_CTL) :=
  ⟨⟨.supS, 0x205#32, 5, 2, 2, ((lit.put (F.FAULT_LADDER_ACTIVE 5) true).setFld (F.FAULT_LADDER_LEVEL 5) 3), by decide⟩,
      ⟨.supS, 0x905#32, 5, 9, 3, lit, by decide⟩,
      ⟨.supS, 0x905#32, 5, 9, 3, (lit.setFld F.MODE_STATUS_CURRENT 2).setFld F.FAULT_DEV_ACTIVE_CLASS 8, by decide⟩,
      ⟨.supS, 0xC05#32, 5, 12, 1, (lit.setFld F.MODE_STATUS_CURRENT 2), by decide⟩,
      ⟨.hostS, 0x40F05#32, 5, 15, 4, (lit.setFld F.MODE_STATUS_CURRENT 2), by decide⟩,
      ⟨.supS, 0xB05#32, 5, 11, 3, ((lit.setFld F.MODE_STATUS_CURRENT 2).put (F.FAULT_LADDER_ACTIVE 5) true).setFld (F.FAULT_LADDER_LEVEL 5) 2, by decide⟩,
      ⟨.supS, 0xB05#32, 5, 11, 3, ((lit.setFld F.MODE_STATUS_CURRENT 2).put (F.FAULT_LADDER_ACTIVE 5) true).setFld (F.FAULT_LADDER_LEVEL 5) 3, by decide⟩,
      ⟨.supS, 0xC05#32, 5, 12, 1, ⟨0, 2, true⟩, (((lit.setFld F.MODE_STATUS_CURRENT 2).put (F.FAULT_LADDER_ACTIVE 5) true).setFld (F.FAULT_LADDER_LEVEL 5) 1).setLadder 5 { (lit.ladder 5) with mark := some ⟨0, 2, true⟩ }, by decide⟩,
      ⟨.supS, 0x915#32, 21, 9, 3, ⟨0, 1, true⟩, (((lit.setFld F.MODE_STATUS_CURRENT 2).put (F.FAULT_LADDER_ACTIVE 21) true).setFld (F.FAULT_LADDER_LEVEL 21) 1).setLadder 21 { (lit.ladder 21) with mark := some ⟨0, 1, true⟩ }, by decide⟩,
      ⟨.hostNS, 0x905#32, lit, by decide⟩,
      ⟨.supS, 0x930#32, lit, by decide⟩,
      ⟨9, lit, by decide⟩,
      ⟨9, lit, by decide⟩,
      ⟨.supS, 20, ((lit.put (F.FAULT_LADDER_ACTIVE 20) true).setFld (F.FAULT_LADDER_LEVEL 20) 1), by decide⟩,
      ⟨.supS, 20, ((lit.put (F.FAULT_LADDER_ACTIVE 20) true).setFld (F.FAULT_LADDER_LEVEL 20) 2), by decide⟩,
      ⟨.hostS, 20, ((lit.put (F.FAULT_LADDER_ACTIVE 20) true).setFld (F.FAULT_LADDER_LEVEL 20) 1), by decide⟩,
      ⟨.supS, 0x12340004#32, 4, lit, by decide⟩,
      ⟨.supS, 0x12340004#32, 4, List.replicate 13 ⟨7, 1#32, 0#32⟩, [⟨8, 5#32, 0#32⟩, ⟨9, 6#32, 0#32⟩], ⟨7, 2#32, 0#32⟩, { lit with faultLog := List.replicate 13 ⟨7, 1#32, 0#32⟩ ++ [⟨7, 2#32, 0#32⟩, ⟨8, 5#32, 0#32⟩, ⟨9, 6#32, 0#32⟩] }, by decide⟩,
      ⟨.supS, 0x12340004#32, 4, { lit with faultLog := List.replicate 16 ⟨7, 5#32, 0#32⟩ }, by decide⟩,
      ⟨.supS, 0x12340004#32, 4, (lit.put (F.FAULT_LADDER_ACTIVE 3) true).setFld (F.FAULT_LADDER_LEVEL 3) 2, by decide⟩,
      ⟨.supS, 0x12340004#32, 4, { ((lit.put F.MODE_STATUS_BUSY true).setFld F.MODE_STATUS_IN_TARGET 3) with trans := { lit.trans with source := 3, waitFor := [3, 4], ramping := true } }, by decide⟩,
      ⟨.supS, 0x12340004#32, 4, { (((lit.put F.MODE_STATUS_BUSY true).setFld F.MODE_STATUS_IN_TARGET 3).put F.MODE_STATUS_WAITING true) with trans := { lit.trans with source := 3, waitSrc := 5 } }, by decide⟩,
      ⟨.hostS, 0x1234000D#32, 5, lit, by decide⟩,
      ⟨.hostS, 4#32, 4, lit, by decide⟩,
      ⟨.supS, 3#32, 3, lit, by decide⟩,
      ⟨.supS, 0x10#32, lit.setFld F.FAULT_DEV_ACTIVE_CLASS 24, by decide⟩,
      ⟨.hostS, 0x1E#32, (lit.setFld F.FAULT_DEV_ACTIVE_CLASS 31).put F.FAB_STATUS_MARGIN_CRIT true, by decide⟩,
      ⟨.supS, 0x10#32, 4, { lit.setFld F.FAULT_DEV_ACTIVE_CLASS 24 with shutdown := 0x30#6 }, by decide⟩,
      ⟨.supS, 0x10#32, 4, { (lit.setFld F.FAULT_DEV_ACTIVE_CLASS 8).put (F.FAULT_LADDER_FROZEN 7) true with shutdown := 0x10#6 }, by decide⟩,
      ⟨.supS, 0x10#32, 4, 9, (((lit.setFld F.MODE_STATUS_CURRENT 2).setFld F.FAULT_DEV_ACTIVE_CLASS 8).setFld (F.FAULT_LADDER_LEVEL 1) 3).setLadder 1 { lit.ladder 1 with paused := true }, by decide⟩,
      ⟨.supS, 0x10#32, 4, 9, ((lit.setFld F.MODE_STATUS_CURRENT 2).setFld F.FAULT_DEV_ACTIVE_CLASS 8).setLadder 1 { lit.ladder 1 with held := 2, heldCause := 11 }, by decide⟩,
      ⟨.hostS, { lit with faultLog := List.replicate 16 ⟨7, 1#32, 0#32⟩ }, by decide⟩⟩

theorem test_meets_DebugUnitControlsTheSupervisor :
    (∃ (m : Master) (s : State), s.Reached m R.LIFE_DBG_CTL ∧ (m.code = 3 ∨ m.code = 5) ∧ s.fld F.LIFE_DBG_STAT_LEVEL ≠ 0 ∧ s.sup.halted = false ∧ (s.fld
      F.LIFE_DBG_STAT_LEVEL = 2 ∨ s.level ≠ 0)) ∧
    (∃ (m : Master) (s : State), s.Reached m R.LIFE_DBG_CTL ∧ (m.code = 3 ∨ m.code = 5) ∧ s.fld F.LIFE_DBG_STAT_LEVEL ≠ 0 ∧ s.sup.halted = false ∧ s.fld
      F.LIFE_DBG_STAT_LEVEL ≠ 2 ∧ s.level = 0) ∧
    (∃ (m : Master) (s : State), s.Reached m R.LIFE_DBG_CTL ∧ (m.code = 3 ∨ m.code = 5) ∧ s.fld F.LIFE_DBG_STAT_LEVEL ≠ 0 ∧ s.sup.halted = true) ∧
    (∃ (m : Master) (s : State), s.Reached m R.LIFE_DBG_CTL ∧ (m.code ≠ 3 ∧ m.code ≠ 5 ∨ s.fld F.LIFE_DBG_STAT_LEVEL = 0)) ∧
    (∃ (m : Master) (s : State), s.Reached m R.LIFE_DBG_CTL ∧ (m.code ≠ 3 ∧ m.code ≠ 5 ∨ s.fld F.LIFE_DBG_STAT_LEVEL = 0)) ∧
    (∃ (m : Master) (s : State), s.Reached m R.LIFE_DBG_CTL ∧ (m.code ≠ 3 ∧ m.code ≠ 5 ∨ s.fld F.LIFE_DBG_STAT_LEVEL = 0)) ∧
    (∃ (s : State), s.is F.LIFE_DBG_STAT_HALT_PEND = true ∧ s.level ≠ 0) ∧
    (∃ (s : State), (s.is F.LIFE_DBG_STAT_HALT_PEND = false ∨ s.level = 0) ∧ s.IrqRemembered) ∧
    (∃ (s : State), s.is F.LIFE_DBG_STAT_HALT_PEND = true) ∧
    (∃ (s : State), s.is F.LIFE_DBG_STAT_HALT_PEND = false ∧ s.IrqRemembered) ∧
    (∃ (m : Master) (s : State), s.Reached m R.LIFE_DBG_CTL ∧ (m.code = 3 ∨ m.code = 5) ∧ s.fld F.LIFE_DBG_STAT_LEVEL ≠ 0) ∧
    (∃ (m : Master) (s : State), s.Reached m R.LIFE_DBG_CTL ∧ (m.code = 3 ∨ m.code = 5) ∧ s.fld F.LIFE_DBG_STAT_LEVEL ≠ 0) ∧
    (∃ (m : Master) (r : Fin 16) (s : State), s.Reached m R.LIFE_DBG_DATA ∧ (m.code = 3 ∨ m.code = 5) ∧ s.fld F.LIFE_DBG_STAT_LEVEL ≠ 0 ∧ s.sup.halted = true ∧
      s.fld F.LIFE_DBG_SEL_REG = r.val) ∧
    (∃ (m : Master) (s : State), s.Reached m R.LIFE_DBG_DATA ∧ (m.code = 3 ∨ m.code = 5) ∧ s.fld F.LIFE_DBG_STAT_LEVEL ≠ 0 ∧ s.sup.halted = true ∧ s.fld
      F.LIFE_DBG_SEL_REG = 16) ∧
    (∃ (m : Master) (c : Fin 32) (s : State), s.Reached m R.LIFE_DBG_DATA ∧ (m.code = 3 ∨ m.code = 5) ∧ s.fld F.LIFE_DBG_STAT_LEVEL ≠ 0 ∧ s.sup.halted = true ∧
      s.fld F.LIFE_DBG_SEL_REG = 32 + c.val ∧ (c.val ≤ 13 ∨ 16 ≤ c.val ∧ c.val ≤ 19 ∨ c.val = 21 ∨ c.val = 22) ∧ (s.fld F.LIFE_DBG_STAT_LEVEL = 2 ∨ ¬ (c.val ≤ 5 ∧ 1 ≤
      c.val ∨ c.val = 11 ∨ 16 ≤ c.val ∧ c.val ≤ 19))) ∧
    (∃ (m : Master) (r : Fin 16) (w : Word) (s : State), s.Reached m R.LIFE_DBG_DATA ∧ (m.code = 3 ∨ m.code = 5) ∧ s.fld F.LIFE_DBG_STAT_LEVEL ≠ 0 ∧ s.sup.halted =
      true ∧ s.fld F.LIFE_DBG_SEL_REG = r.val) ∧
    (∃ (m : Master) (w : Word) (s : State), s.Reached m R.LIFE_DBG_DATA ∧ (m.code = 3 ∨ m.code = 5) ∧ s.fld F.LIFE_DBG_STAT_LEVEL ≠ 0 ∧ s.sup.halted = true ∧ s.fld
      F.LIFE_DBG_SEL_REG = 16) ∧
    (∃ (m : Master) (c : Fin 32) (w : Word) (s : State), s.Reached m R.LIFE_DBG_DATA ∧ (m.code = 3 ∨ m.code = 5) ∧ s.fld F.LIFE_DBG_STAT_LEVEL ≠ 0 ∧ s.sup.halted =
      true ∧ s.fld F.LIFE_DBG_SEL_REG = 32 + c.val ∧ (c.val ≤ 13 ∨ 16 ≤ c.val ∧ c.val ≤ 19 ∨ c.val = 21 ∨ c.val = 22) ∧ (s.fld F.LIFE_DBG_STAT_LEVEL = 2 ∨ ¬ (c.val ≤
      5 ∧ 1 ≤ c.val ∨ c.val = 11 ∨ 16 ≤ c.val ∧ c.val ≤ 19))) ∧
    (∃ (m : Master) (w : Option Word) (s : State), s.Reached m R.LIFE_DBG_DATA ∧ (m.code = 3 ∨ m.code = 5) ∧ s.fld F.LIFE_DBG_STAT_LEVEL ≠ 0 ∧ s.sup.halted = false) ∧
    (∃ (m : Master) (w : Option Word) (s : State), s.Reached m R.LIFE_DBG_DATA ∧ (m.code = 3 ∨ m.code = 5) ∧ s.fld F.LIFE_DBG_STAT_LEVEL ≠ 0 ∧ s.sup.halted = true ∧
      17 ≤ s.fld F.LIFE_DBG_SEL_REG ∧ (s.fld F.LIFE_DBG_SEL_REG < 32 ∨ s.fld F.LIFE_DBG_SEL_REG = 46 ∨ s.fld F.LIFE_DBG_SEL_REG = 47 ∨ s.fld F.LIFE_DBG_SEL_REG = 52 ∨
      55 ≤ s.fld F.LIFE_DBG_SEL_REG)) ∧
    (∃ (m : Master) (w : Option Word) (s : State), s.Reached m R.LIFE_DBG_DATA ∧ (m.code = 3 ∨ m.code = 5) ∧ s.fld F.LIFE_DBG_STAT_LEVEL ≠ 0 ∧ s.sup.halted = true ∧
      s.fld F.LIFE_DBG_STAT_LEVEL ≠ 2 ∧ (33 ≤ s.fld F.LIFE_DBG_SEL_REG ∧ s.fld F.LIFE_DBG_SEL_REG ≤ 37 ∨ s.fld F.LIFE_DBG_SEL_REG = 43 ∨ 48 ≤ s.fld F.LIFE_DBG_SEL_REG
      ∧ s.fld F.LIFE_DBG_SEL_REG ≤ 51)) ∧
    (∃ (m : Master) (w : Option Word) (s : State), s.Reached m R.LIFE_DBG_DATA ∧ (m.code ≠ 3 ∧ m.code ≠ 5 ∨ s.fld F.LIFE_DBG_STAT_LEVEL = 0)) ∧
    (∃ (m : Master) (s : State), s.Reached m R.LIFE_DBG_MDATA ∧ (m.code = 3 ∨ m.code = 5) ∧ s.fld F.LIFE_DBG_STAT_LEVEL ≠ 0 ∧ (s.rd R.LIFE_DBG_MADDR).toNat % 4 = 0
      ∧ (s.fld F.LIFE_DBG_STAT_LEVEL = 2 ∨ s.mpuAllows 1 (s.rd R.LIFE_DBG_MADDR).toNat 0 = true) ∧ (areaOf (s.rd R.LIFE_DBG_MADDR).toNat = some .sup ∨ areaOf (s.rd
      R.LIFE_DBG_MADDR).toNat = some .shared ∨ areaOf (s.rd R.LIFE_DBG_MADDR).toNat = some .cap) ∧ s.Sound (s.rd R.LIFE_DBG_MADDR).toNat) ∧
    (∃ (m : Master) (w : Word) (s : State), s.Reached m R.LIFE_DBG_MDATA ∧ (m.code = 3 ∨ m.code = 5) ∧ s.fld F.LIFE_DBG_STAT_LEVEL ≠ 0 ∧ (s.rd
      R.LIFE_DBG_MADDR).toNat % 4 = 0 ∧ (s.fld F.LIFE_DBG_STAT_LEVEL = 2 ∨ s.mpuAllows 1 (s.rd R.LIFE_DBG_MADDR).toNat 1 = true) ∧ (areaOf (s.rd
      R.LIFE_DBG_MADDR).toNat = some .sup ∨ areaOf (s.rd R.LIFE_DBG_MADDR).toNat = some .shared ∨ areaOf (s.rd R.LIFE_DBG_MADDR).toNat = some .cap) ∧ s.Sound (s.rd
      R.LIFE_DBG_MADDR).toNat) ∧
    (∃ (m : Master) (w : Option Word) (s : State), s.Reached m R.LIFE_DBG_MDATA ∧ (m.code ≠ 3 ∧ m.code ≠ 5 ∨ s.fld F.LIFE_DBG_STAT_LEVEL = 0)) ∧
    (∃ (m : Master) (w : Option Word) (s : State), s.Reached m R.LIFE_DBG_MDATA ∧ (m.code = 3 ∨ m.code = 5) ∧ s.fld F.LIFE_DBG_STAT_LEVEL ≠ 0 ∧ (s.rd
      R.LIFE_DBG_MADDR).toNat % 4 ≠ 0) ∧
    (∃ (m : Master) (w : Option Word) (s : State), s.Reached m R.LIFE_DBG_MDATA ∧ (m.code = 3 ∨ m.code = 5) ∧ s.fld F.LIFE_DBG_STAT_LEVEL ≠ 0 ∧ (s.rd
      R.LIFE_DBG_MADDR).toNat % 4 = 0 ∧ s.fld F.LIFE_DBG_STAT_LEVEL ≠ 2 ∧ s.mpuAllows 1 (s.rd R.LIFE_DBG_MADDR).toNat (if w = none then 0 else 1) = false) ∧
    (∃ (m d : Master) (a : Nat) (x : State × ReadRes × List (BitVec 8)) (k : MemRes) (s : State), s.Reached m R.LIFE_DBG_MDATA ∧ (m.code = 3 ∨ m.code = 5) ∧ s.fld
      F.LIFE_DBG_STAT_LEVEL ≠ 0 ∧ (s.rd R.LIFE_DBG_MADDR).toNat % 4 = 0 ∧ a = (s.rd R.LIFE_DBG_MADDR).toNat ∧ d = (if s.fld F.LIFE_DBG_STAT_LEVEL = 2 then .supS else
      .supNS) ∧ (s.fld F.LIFE_DBG_STAT_LEVEL = 2 ∨ s.mpuAllows 1 a 0 = true) ∧ x = s.coreRead d (busReader d) (.port m) a 4 ∧ x.2.1 = some k) ∧
    (∃ (m d : Master) (a : Nat) (v : Word) (x : State × MemRes) (s : State), s.Reached m R.LIFE_DBG_MDATA ∧ (m.code = 3 ∨ m.code = 5) ∧ s.fld F.LIFE_DBG_STAT_LEVEL
      ≠ 0 ∧ (s.rd R.LIFE_DBG_MADDR).toNat % 4 = 0 ∧ a = (s.rd R.LIFE_DBG_MADDR).toNat ∧ d = (if s.fld F.LIFE_DBG_STAT_LEVEL = 2 then .supS else .supNS) ∧ (s.fld
      F.LIFE_DBG_STAT_LEVEL = 2 ∨ s.mpuAllows 1 a 1 = true) ∧ x = s.coreWrite d (busReader d) a ((leBytes 4 v.toNat).map some)) ∧
    (∃ (d a b : Fin 16) (s : State), s.domOn 1 = true ∧ s.sup =
      { s.sup with released := true, wfi := false, lockup := false, stall := false, halted := true, stepping := true }) ∧
    (∃ (d a b : Fin 16) (s : State), s.sup.halted = true ∧ s.sup.stepping = false ∧ s.IrqRemembered) :=
  ⟨⟨.hostS, litc.setFld F.LIFE_DBG_STAT_LEVEL 2, by decide⟩,
      ⟨.smp, (litc.setFld F.LIFE_DBG_STAT_LEVEL 1).put F.LIFE_DBG_STAT_HALT_TO true, by decide⟩,
      ⟨.smp, { litc.setFld F.LIFE_DBG_STAT_LEVEL 1 with sup := { litc.sup with halted := true } }, by decide⟩,
      ⟨.hostNS, { litc.setFld F.LIFE_DBG_STAT_LEVEL 2 with sup := { litc.sup with halted := true } }, by decide⟩,
      ⟨.hostNS, { litc.setFld F.LIFE_DBG_STAT_LEVEL 2 with sup := { litc.sup with halted := true } }, by decide⟩,
      ⟨.hostNS, { litc.setFld F.LIFE_DBG_STAT_LEVEL 2 with sup := { litc.sup with halted := true } }, by decide⟩,
      ⟨{ litc.put F.LIFE_DBG_STAT_HALT_PEND true with cregs := [(0, 0x10000000#32 ||| 1#32)] }, by decide⟩,
      ⟨litc.put F.LIFE_DBG_STAT_HALT_PEND true, by decide⟩,
      ⟨litc.put F.LIFE_DBG_STAT_HALT_PEND true, by decide⟩,
      ⟨litc, by decide⟩,
      ⟨.hostS, { litc.setFld F.LIFE_DBG_STAT_LEVEL 2 with sup := { litc.sup with halted := true } }, by decide⟩,
      ⟨.hostS, { litc.setFld F.LIFE_DBG_STAT_LEVEL 2 with sup := { litc.sup with halted := true } }, by decide⟩,
      ⟨.hostS, 2, { (litc.setFld F.LIFE_DBG_STAT_LEVEL 2).setFld F.LIFE_DBG_SEL_REG 2 with sup := { litc.sup with halted := true } }, by decide⟩,
      ⟨.hostS, { (litc.setFld F.LIFE_DBG_STAT_LEVEL 2).setFld F.LIFE_DBG_SEL_REG 16 with sup := { litc.sup with halted := true } }, by decide⟩,
      ⟨.hostS, 0, { (litc.setFld F.LIFE_DBG_STAT_LEVEL 2).setFld F.LIFE_DBG_SEL_REG 32 with sup := { litc.sup with halted := true } }, by decide⟩,
      ⟨.hostS, 2, 9#32, { (litc.setFld F.LIFE_DBG_STAT_LEVEL 2).setFld F.LIFE_DBG_SEL_REG 2 with sup := { litc.sup with halted := true } }, by decide⟩,
      ⟨.hostS, 0x103#32, { (litc.setFld F.LIFE_DBG_STAT_LEVEL 2).setFld F.LIFE_DBG_SEL_REG 16 with sup := { litc.sup with halted := true } }, by decide⟩,
      ⟨.hostS, 0, 0xFFFFFFFF#32, { (litc.setFld F.LIFE_DBG_STAT_LEVEL 2).setFld F.LIFE_DBG_SEL_REG 32 with sup := { litc.sup with halted := true } }, by decide⟩,
      ⟨.hostS, none, litc.setFld F.LIFE_DBG_STAT_LEVEL 2, by decide⟩,
      ⟨.hostS, none, { (litc.setFld F.LIFE_DBG_STAT_LEVEL 2).setFld F.LIFE_DBG_SEL_REG 17 with sup := { litc.sup with halted := true } }, by decide⟩,
      ⟨.hostS, none, { (litc.setFld F.LIFE_DBG_STAT_LEVEL 1).setFld F.LIFE_DBG_SEL_REG 33 with sup := { litc.sup with halted := true } }, by decide⟩,
      ⟨.hostNS, none, { (litc.setFld F.LIFE_DBG_STAT_LEVEL 2).setFld F.LIFE_DBG_SEL_REG 2 with sup := { litc.sup with halted := true } }, by decide⟩,
      ⟨.hostS, (litm.setFld F.LIFE_DBG_STAT_LEVEL 2).wr R.LIFE_DBG_MADDR 0x02000010#32, by unfold State.Sound; decide⟩,
      ⟨.hostS, 0x12345678#32, (litm.setFld F.LIFE_DBG_STAT_LEVEL 2).wr R.LIFE_DBG_MADDR 0x02000010#32, by unfold State.Sound; decide⟩,
      ⟨.hostNS, none, (litm.setFld F.LIFE_DBG_STAT_LEVEL 2).wr R.LIFE_DBG_MADDR 0x02000010#32, by decide⟩,
      ⟨.hostS, none, (litm.setFld F.LIFE_DBG_STAT_LEVEL 2).wr R.LIFE_DBG_MADDR 0x02000012#32, by decide⟩,
      ⟨.hostS, none, (litm.setFld F.LIFE_DBG_STAT_LEVEL 1).wr R.LIFE_DBG_MADDR 0x02000010#32, by decide⟩,
      ⟨.hostS, .supS, 0x04000000, ((litm.setFld F.LIFE_DBG_STAT_LEVEL 2).wr R.LIFE_DBG_MADDR 0x04000000#32).coreRead .supS (busReader .supS) (.port .hostS) 0x04000000 4, .done, (litm.setFld F.LIFE_DBG_STAT_LEVEL 2).wr R.LIFE_DBG_MADDR 0x04000000#32, by decide⟩,
      ⟨.hostS, .supS, 0x04004200, 5#32, ((litm.setFld F.LIFE_DBG_STAT_LEVEL 2).wr R.LIFE_DBG_MADDR 0x04004200#32).coreWrite .supS (busReader .supS) 0x04004200 ((leBytes 4 5).map some), (litm.setFld F.LIFE_DBG_STAT_LEVEL 2).wr R.LIFE_DBG_MADDR 0x04004200#32, by decide⟩,
      ⟨5, 3, 4, { litc with sup := { litc.sup with halted := true, stepping := true } }, by decide⟩,
      ⟨5, 3, 4, { litc with sup := { litc.sup with halted := true } }, by decide⟩⟩

theorem test_meets_EmptyQueueLetsOneTickPass : ∃ s : State, s.pending = [] := ⟨State.reset, rfl⟩

theorem test_meets_EveryStepKeepsTheCanonicalForm : ∃ s t : State, s.Canonical ∧ step s = .next t :=
  ⟨State.reset, _, by constructor <;> decide, rfl⟩

theorem test_meets_EveryStepRemembersDueInterrupts : ∃ s t : State, step s = .next t := ⟨State.reset, _, rfl⟩

theorem test_meets_CommandsCompleteAndChangeOnlyTheirParts :
    (∃ c : Instr, c.wellFormed = true) ∧ (∃ c : Instr, c.wellFormed = false) :=
  ⟨⟨.wfi, rfl⟩, ⟨.speedMonitorWindow [], rfl⟩⟩

/-! ## Ill-formed commands are refused: one for each check -/

/-- The command is not well-formed, and stops. -/
def Malformed (c : Instr) : Prop := c.wellFormed = false ∧ exec c State.reset = .fault .malformed

theorem test_seven_margins_refused : Malformed (.speedMonitorWindow [1, 2, 3, 4, 5, 6, 7]) := ⟨rfl, rfl⟩

theorem test_line_barge_of_127_symbols_refused : Malformed (.inputBargeComplete (.line 0 (List.replicate 127 0#8)) () 0#17 0#4) := ⟨rfl, rfl⟩

theorem test_host_barge_of_256_symbols_refused : Malformed (.inputBargeComplete (.host 0 (List.replicate 256 0)) () 0#17 0#4) := ⟨rfl, rfl⟩

theorem test_lock_on_seven_windows_refused : Malformed (.cdrLock 0 [1, 2, 3, 4, 5, 6, 7]) := ⟨rfl, rfl⟩

theorem test_background_levels_that_do_not_add_up_refused :
    Malformed (.backgroundCalWindow 0 [1, 2, 3, 4] (List.replicate 16 0, List.replicate 64 (0, 0, 0)) 5) := ⟨rfl, rfl⟩

theorem test_background_statistics_of_32_branches_on_a_line_lane_refused :
    Malformed (.backgroundCalWindow 0 [65536, 0, 0, 0] (List.replicate 16 0, List.replicate 32 (0, 0, 0)) 5) := ⟨rfl, rfl⟩

theorem test_fitness_window_of_three_levels_refused : Malformed (.fitnessWindowEnd 0 [65536, 0, 0] (List.replicate 16 0)) := ⟨rfl, rfl⟩

theorem test_sensor_reading_of_eleven_bits_refused : Malformed (.sensorUpdate (List.replicate 12 (512, 0))) := ⟨rfl, rfl⟩

theorem test_byte_without_enable_refused : Malformed (.pcieWrite 0 0#32 [1#8, 2#8] [true]) := ⟨rfl, rfl⟩

/-! ## Instruction words -/

/-- 09_ecnak_isa.md, the encoded adaptation pass, word by word. -/
theorem test_words_of_the_adaptation_pass :
    instrOf (.ls 0) 0x0005400B#32 = some (.cmp (.ls 0) 1 5) ∧ instrOf (.ls 0) 0x80100004#32 = some (.b (.ls 0) 1 4#20) ∧
    instrOf (.ls 0) 0xC0C49000#32 = some (.csgn 0 3 1 0#12) ∧ instrOf (.ls 0) 0x010C8008#32 = some (.mul (.ls 0) 4 3 2) ∧
    instrOf (.ls 0) 0xC0502900#32 = some (.cupd 0 1 4 0x900#12) ∧ instrOf (.ls 0) 0x10440001#32 = some (.addi (.ls 0) 1 1 1#16) ∧
    instrOf (.ls 0) 0x0005800B#32 = some (.cmp (.ls 0) 1 6) ∧ instrOf (.ls 0) 0x80EFFFF9#32 = some (.b (.ls 0) 14 0xFFFF9#20) ∧
    instrOf (.ls 0) 0xC1C04001#32 = some (.cmt 0 7 true) := by decide

/-- CMP with a destination, a reserved bit of format A, opcode 0x3F, CSGN on a transmit lane: no instruction (R194 to R197, R205). -/
theorem test_words_that_are_no_instruction :
    instrOf .sup 0x0045400B#32 = none ∧ instrOf .sup 0x0005404B#32 = none ∧ instrOf .sup 0xFC000000#32 = none ∧ instrOf (.ls 8) 0xC0C49000#32 = none := by decide

/-! ## Worked examples of the spec -/

/-- The state after a command; the state before it where it stops. -/
def after (c : Instr) (s : State) : State :=
  match exec c s with
  | .next t => t
  | _ => s

/-- 01_operating_modes.md, the target range of Deep-reach at HOST_RATE 0 in units of a host output and of a line output (R47). -/
theorem test_target_range : targetRange 4 (hostBaud false) = (9775, 31025) ∧ targetRange 4 (lineBaud 4 false) = (21994, 69806) := by decide

/-- 07_line_training.md, one exchange on lane 2: the control field sent. -/
theorem test_control_field_of_lane_2 :
    ((((((((((lit.setFld F.MODE_STATUS_CURRENT 3).setFld (F.LRX_TRN_CTL_STATE 2) 2).setFld (F.LRX_TRN_TAG_LOCAL 2) 0x5A).setFld (F.LRX_TRN_TXREQ_COEF_SEL 2) 2).setFld
      (F.LRX_TRN_TXREQ_COEF_REQ 2) 2).setFld (F.LRX_TRN_TXREQ_REQ_SEQ 2) 7).setFld (F.LRX_TRN_TXRSP_ACK_SEQ 2) 4).setFld (F.LRX_TRN_TXRSP_COEF_STS 2) 1).setFld
      (F.LRX_TRN_TXRSP_QUALITY 2) 0x1C).control 2) = 0x1245A67940382239E000000000000000#128 := by decide

/-- 05_line_transmit.md, a ramp on LTX4: LDSET4 at steps 16, 32 and 40. -/
theorem test_bias_of_ramp :
    let s := ((lit.setFld (F.LTX_BIAS_TARGET 12) 2458).setFld (F.LTX_BIAS_FLOOR 12) 0).onLane 12 fun l => { l with shape := true }
    (s.biasAt 12 16, s.biasAt 12 32, s.biasAt 12 40) = (360, 1229, 1699) := by decide

/-- 06_inner_code.md, the Protected parity of the worked codeword: the remainder, and the parity sent. -/
theorem test_parity : divBits false 0x87 128 0 = 0x75 ∧ parityOf false 0x87 = 0x8A := by decide

/-- 09_ecnak_isa.md, a non-secure user load that meets poison. -/
def poisoned : State :=
  (((((((litm.poisonWord 0x02000108).setCreg 0 0x4000000A#32).setG 48 3 0x02000100#32).setSupPc 0x01204A10#32).setCreg (mpuKey 0 0) 0x02000000#32).setCreg
    (mpuKey 0 1) 0x02000000#32).setCreg (mpuKey 0 2) 0x1C1#32)

theorem test_poisoned_load_traps :
    let t := after (.ldw .sup 2 3 8#16) poisoned
    (t.creg 1, t.creg 2, t.creg 3, t.creg 4, t.creg 0, t.sup.pc) = (0x01204A10#32, 0x4000000A#32, 0x0A#32, 0x02000108#32, 0x40000018#32, 0x128#32) ∧
    t.reg .sup 2 = poisoned.reg .sup 2 := by decide

/-- 12_clocks_power_time.md, three seconds in Dormant. -/
theorem test_timebase_after_dormant :
    let t := after (.timebaseRestart 98304#32) { lit with dorm := { lit.dorm with phase := .waking, stopped := true, t0 := 0x40000000, period := 486400 } }
    t.tb = 0xCB290000#64 ∧ t.fld F.TIME_UNCERT_US = lit.fld F.TIME_UNCERT_US + 59800 := by decide

/-- 13_memory_integrity_selftest.md, losing capture depth. -/
theorem test_bank_50_removed :
    bankBase 50 = 0x02480000 ∧
    let t := after (.memxRetire .supS 0x80000032#32) ((lit.setFld F.MEMX_STAT_SPARES1 0).putPairBit R.MEMX_RETIRED_LO 37 true)
    t.fld F.MEMX_CAP_LIMIT_SAMPLES = 524288 ∧ t.rd R.MEMX_REMOVED_HI = 0x40000#32 ∧ t.fld F.MEMX_RETIRE_STAT_RESULT = 2 := by decide

/-- 14_monitor_thermal.md, three channel configurations: the load of each and their sum. -/
theorem test_mac_load :
    (monConf (1 + 2 * 128 + 4096 * 8) 64).load = 16 ∧ (monConf (1 + 2 * 64 + 4096 * 4) 32).load = 32 ∧ (monConf (1 + 2 * 1024 + 4096 * 16) 256).load = 4 ∧
    (each (List.range 24) (fun c s => ((s.wr (R.MON_CH_CFG c) (if c < 8 then 0x8101#32 else if c < 16 then 0x4081#32 else 0x10801#32))).wr (R.MON_CH_FIR c)
      (if c < 8 then 64#32 else if c < 16 then 32#32 else 256#32)) lit).macLoad = 416 := by decide

/-- 15_counters.md, a Transparent port of 425 Gb/s over 1 ms windows: BW_TX[3] of the first window and of one after 56 carried bytes. -/
theorem test_bandwidth_window :
    let s := { lit.put F.PERF_BW_CTL_RUN true with clock := 781250 }
    (after (.bandwidthWindowEnd ()) { s with perf := { s.perf with bytes := [(29, 53125000)] } }).rd (R.PERF_BW_TX 3) = 830078#32 ∧
    (after (.bandwidthWindowEnd ()) { s with perf := { s.perf with bytes := [(29, 53125000)], carry := [(29, 56)] } }).rd (R.PERF_BW_TX 3) = 830079#32 := by decide

/-- 11_management_ports.md, a read across a broken ring: the header of the request. -/
theorem test_header_of_a_read :
    pktBytes { typ := 1, dst := 5, src := 0, hops := 63, sec := true, tag := 1, len := 4, addr := 0x04102004, stat := 0, data := [] } =
      [0x11, 0x05, 0x3F, 0x00, 0x01, 0x04, 0x04, 0x20, 0x10, 0x04] := by decide

/-- 18_register_map.md, the local address of LANE_STAT[39]. -/
theorem test_address_of_lane_stat_39 : R.CAL_LANE_STAT 39 = 0x0401219C := by decide

/-- The digest of the message "abc" in FIPS 180-4's worked example. -/
theorem test_sha384_of_abc : beValue (sha384 [0x61#8, 0x62#8, 0x63#8]) =
    0xcb00753f45a35e8bb5a03d699ac65007272c32ab0eded1631a8b605a43ff5bed8086072ba1e7cc2358baeca134c825a7 := by rw [sha384]; decide +kernel

/-- Twice the base point of P-384. -/
theorem test_addPoint_doubles : addPoint (some g384) (some g384) =
    some (0x08d999057ba3d2d969260045c55b97f089025959a6f434d651d207d19fb96e9e4fe0e86ebe0e64f85b96a9c75295df61,
      0x8e80f1fa5b1b3cedb7bfe8dffd6dba74b275d875bc6cc43e904e505f256ab4255ffd43e94d39e22d61501e700a940e80) := by decide +kernel

end Sys2Proof.Tests
end

section
/-! SUPPORT. Release of a held claim (R34, R35): the claim registers, what a configuration error and an aborted capture leave alone, the three outcomes of a write of
USE = 0, and the statement that rests on them. -/

namespace Sys2Proof.Machine

/-! ## The claim registers and their holders -/

/-- Every claim register lies below MODE.CLAIM_ERR, and so below MODE.EVENT and the lane blocks. -/
theorem claimReg_lt_claimErr (res : Fin 6) : claimReg res < R.MODE_CLAIM_ERR := by
  unfold claimReg R.MODE_CLAIM_MONSYNC R.MODE_CLAIM_CAPTURE R.MODE_CLAIM_TIMER R.MODE_CLAIM_ERR
  split
  · decide
  · split
    · decide
    · omega

theorem claimReg_ne_claimErr (res : Fin 6) : claimReg res ≠ R.MODE_CLAIM_ERR := (claimReg_lt_claimErr res).ne

theorem claimReg_ne_event (res : Fin 6) : claimReg res ≠ R.MODE_EVENT := ((claimReg_lt_claimErr res).trans (by decide)).ne

theorem claimReg_lt_lanes (res : Fin 6) : claimReg res < 0x04100000 := (claimReg_lt_claimErr res).trans (by decide)

theorem claimCode_lt (res : Fin 6) : claimCode res < 16 := by
  unfold claimCode
  split <;> omega

/-- The code 0x1 is that of the supervisor in its secure world alone. -/
theorem holder_eq_one_iff (m : Master) : m.holder = 1 ↔ m = .supS := by
  cases m <;> simp [Master.holder]

/-- Who may release a held claim (R35). -/
theorem State.mayReleaseClaim_iff (s : State) (m : Master) (res : Nat) :
    s.mayReleaseClaim m res = true ↔ m = .supS ∨ m.holder = s.fld ⟨claimReg res, 4, 4⟩ ∧ m.secBit = s.is ⟨claimReg res, 9, 1⟩ := by
  rw [← holder_eq_one_iff]
  simp [State.mayReleaseClaim]

/-! ## A configuration error (R34) -/

section ConfigError
variable (s : State) (res master : Nat)

theorem State.configError_rd_ne {b : Nat} (h1 : b ≠ R.MODE_CLAIM_ERR) (h2 : b ≠ R.MODE_EVENT) : (s.configError res master).rd b = s.rd b := by
  unfold State.configError
  rw [State.put_rd_ne _ _ _ h2, State.bump_rd_ne _ _ _ h1, State.setFld_rd_ne _ _ _ h1, State.setFld_rd_ne _ _ _ h1]

theorem State.configError_out : (s.configError res master).out = s.out := rfl

theorem State.configError_resource (h : res < 16) : (s.configError res master).fld F.MODE_CLAIM_ERR_RESOURCE = res := by
  unfold State.configError
  rw [State.put_fld_apart _ _ _ _ (by decide) (by decide), State.bump_fld_apart _ _ _ _ (by decide) (by decide),
    State.setFld_fld_apart _ _ _ _ (by decide) (by decide), State.setFld_fld_same _ _ _ (by decide)]
  exact Nat.mod_eq_of_lt h

theorem State.configError_master (h : master < 16) : (s.configError res master).fld F.MODE_CLAIM_ERR_MASTER = master := by
  unfold State.configError
  rw [State.put_fld_apart _ _ _ _ (by decide) (by decide), State.bump_fld_apart _ _ _ _ (by decide) (by decide),
    State.setFld_fld_same _ _ _ (by decide)]
  exact Nat.mod_eq_of_lt h

theorem State.configError_count :
    (s.configError res master).fld F.MODE_CLAIM_ERR_COUNT = min (s.fld F.MODE_CLAIM_ERR_COUNT + 1) 65535 := by
  unfold State.configError
  rw [State.put_fld_apart _ _ _ _ (by decide) (by decide), State.bump_fld_same _ _ _ (by decide),
    State.setFld_fld_apart _ _ _ _ (by decide) (by decide), State.setFld_fld_apart _ _ _ _ (by decide) (by decide)]
  rfl

end ConfigError

/-! ## A capture aborted (R101) -/

/-- An aborted capture writes registers of its lane's block only. -/
theorem State.wcapAbort_rd_dev (s : State) (n : Nat) {b : Nat} (h : b < 0x04100000) : (s.wcapAbort n).rd b = s.rd b := by
  have hs : b ≠ R.LRX_WCAP_STAT n := by unfold R.LRX_WCAP_STAT laneBase; omega
  have he : b ≠ R.LRX_EVENT n := by unfold R.LRX_EVENT laneBase; omega
  unfold State.wcapAbort
  split
  · rw [State.put_rd_ne _ _ _ he, State.setFld_rd_ne _ _ _ hs, State.put_rd_ne _ _ _ hs, State.put_rd_ne _ _ _ hs, State.put_rd_ne _ _ _ hs]
  · rfl

theorem State.wcapAbort_out (s : State) (n : Nat) : (s.wcapAbort n).out = s.out := by
  unfold State.wcapAbort
  split <;> rfl

/-- What the release of a resource stops first: with the capture SRAM, every running capture. -/
def State.claimStops (s : State) (res : Nat) : State := if res = 1 then each lrxLanes (fun n s => s.wcapAbort n) s else s

theorem State.claimStops_rd_dev (s : State) (res : Nat) {b : Nat} (h : b < 0x04100000) : (s.claimStops res).rd b = s.rd b := by
  unfold State.claimStops
  split
  · exact each_rd _ _ _ _ fun s n _ => State.wcapAbort_rd_dev s n h
  · rfl

theorem State.claimStops_out (s : State) (res : Nat) : (s.claimStops res).out = s.out := by
  unfold State.claimStops
  split
  · exact each_out _ _ _ State.wcapAbort_out
  · rfl

/-! ## A claim register freed -/

/-- A claim register with USE, HOLDER and HOLDER_SEC at 0. -/
def State.claimFreed (s : State) (res : Nat) : State :=
  ((s.setFld ⟨claimReg res, 0, 2⟩ 0).setFld ⟨claimReg res, 4, 4⟩ 0).put ⟨claimReg res, 9, 1⟩ false

section ClaimFreed
variable (s : State) (res : Nat)

theorem State.claimFreed_rd_ne {b : Nat} (h : b ≠ claimReg res) : (s.claimFreed res).rd b = s.rd b := by
  unfold State.claimFreed
  rw [State.put_rd_ne _ _ _ h, State.setFld_rd_ne _ _ _ h, State.setFld_rd_ne _ _ _ h]

theorem State.claimFreed_out : (s.claimFreed res).out = s.out := by
  simp [State.claimFreed]

theorem State.claimFreed_use : (s.claimFreed res).claimUse res = 0 := by
  unfold State.claimFreed State.claimUse
  rw [State.put_fld_apart _ _ _ _ (by simp) (.inr (by simp)), State.setFld_fld_apart _ _ _ _ (by simp) (.inr (by simp)), State.setFld_fld_same _ _ _ (by simp)]
  rfl

theorem State.claimFreed_holder : (s.claimFreed res).fld ⟨claimReg res, 4, 4⟩ = 0 := by
  unfold State.claimFreed
  rw [State.put_fld_apart _ _ _ _ (by simp) (.inr (by simp)), State.setFld_fld_same _ _ _ (by simp)]
  rfl

theorem State.claimFreed_holderSec : (s.claimFreed res).is ⟨claimReg res, 9, 1⟩ = false := State.put_is_same _ _ _ (by simp) rfl

end ClaimFreed

/-! ## A claim or release refused -/

/-- A refusal touches no field of the claim register beside REFUSED. -/
theorem State.claimRefuse_fld (s : State) (m : Master) (res : Fin 6) (lo wd : Nat) (h : lo + wd ≤ 8 ∨ 9 ≤ lo) :
    (s.claimRefuse m res).1.fld ⟨claimReg res, lo, wd⟩ = s.fld ⟨claimReg res, lo, wd⟩ := by
  unfold State.claimRefuse
  rw [State.fld_congr (State.configError_rd_ne _ _ _ (claimReg_ne_claimErr res) (claimReg_ne_event res)),
    State.put_fld_apart _ _ _ _ (by simp) (Or.inr h)]

theorem State.claimRefuse_refused (s : State) (m : Master) (res : Fin 6) : (s.claimRefuse m res).1.is ⟨claimReg res, 8, 1⟩ = true := by
  unfold State.claimRefuse
  rw [State.is_congr (State.configError_rd_ne _ _ _ (claimReg_ne_claimErr res) (claimReg_ne_event res)), State.put_is_same _ _ _ (by simp) rfl]

theorem State.claimRefuse_count (s : State) (m : Master) (res : Fin 6) :
    (s.claimRefuse m res).1.fld F.MODE_CLAIM_ERR_COUNT = min (s.fld F.MODE_CLAIM_ERR_COUNT + 1) 65535 := by
  unfold State.claimRefuse
  rw [State.configError_count, State.put_fld_apart _ _ _ _ (by simp) (Or.inl (claimReg_ne_claimErr res).symm)]

theorem State.claimRefuse_out (s : State) (m : Master) (res : Nat) : (s.claimRefuse m res).1.out = s.out := by
  simp [State.claimRefuse, State.configError_out]

/-- The registers that a refusal leaves alone. -/
theorem State.claimRefuse_only (s : State) (m : Master) (res : Nat) :
    s.Only [claimReg res, R.MODE_CLAIM_ERR, R.MODE_EVENT] (s.claimRefuse m res).1 := by
  intro b hb
  simp only [List.mem_cons, List.not_mem_nil, or_false, not_or] at hb
  obtain ⟨hreg, herr, hevt⟩ := hb
  unfold State.claimRefuse
  rw [State.configError_rd_ne _ _ _ herr hevt, State.put_rd_ne _ _ _ hreg]

/-! ## The three outcomes of a write of USE = 0 (R35) -/

section Release
variable {s : State} {m : Master}

theorem State.claimWrite_release_free {res : Nat} (h : s.claimUse res = 0) : s.claimWrite m res 0 = (s, .ok) := by
  simp [State.claimWrite, h]

theorem State.claimWrite_release_permitted {res : Nat} (h : s.claimUse res ≠ 0) (hm : s.mayReleaseClaim m res = true) :
    s.claimWrite m res 0 = ((s.claimStops res).claimFreed res, .ok) := by
  simp [State.claimWrite, State.claimStops, State.claimFreed, h, hm]

theorem State.claimWrite_release_refused {res : Nat} (h : s.claimUse res ≠ 0) (hm : ¬ s.mayReleaseClaim m res = true) :
    s.claimWrite m res 0 = s.claimRefuse m res := by
  simp [State.claimWrite, h, hm]

/-- A release that reaches its register completes with what the write of USE = 0 does, and is answered. -/
theorem claimRelease_completes {res : Fin 6} {x : State × Resp} {q : State → Prop} (h : s.Reached m (claimReg res)) (e : s.claimWrite m res 0 = x)
    (k : ∀ t, x.1.Apart t → t.out = .response m x.2.code 0 :: x.1.out → q t) : Completes (.claimRelease m res) s q := by
  subst e
  exact via_completes (f := fun s => s.claimWrite m res 0) rfl h k

end Release

/-! ## The statement -/

/-- The holder, or the supervisor in its secure world, frees a held claim. -/
theorem claimRelease_frees (m : Master) (res : Fin 6) (s : State) (h : s.Reached m (claimReg res)) (held : s.claimUse res ≠ 0)
    (may : m.holder = s.fld ⟨claimReg res, 4, 4⟩ ∧ m.secBit = s.is ⟨claimReg res, 9, 1⟩ ∨ m = .supS) :
    Completes (.claimRelease m res) s fun t => s.Answered m 0 t ∧ t.claimUse res = 0 ∧ t.fld ⟨claimReg res, 4, 4⟩ = 0 ∧
      t.is ⟨claimReg res, 9, 1⟩ = false ∧ s.OnlyDev [claimReg res] t := by
  have e := State.claimWrite_release_permitted held ((s.mayReleaseClaim_iff m res).2 may.symm)
  refine claimRelease_completes h e fun t ht hout => ⟨?_, ?_, ?_, ?_, fun b hdev hb => ?_⟩
  · rw [State.Answered, hout, State.claimFreed_out, State.claimStops_out]
    rfl
  · exact (ht.fld _).trans (State.claimFreed_use _ _)
  · exact (ht.fld _).trans (State.claimFreed_holder _ _)
  · exact (ht.is _).trans (State.claimFreed_holderSec _ _)
  · rw [ht.rd, State.claimFreed_rd_ne _ _ (List.ne_of_not_mem_cons hb), State.claimStops_rd_dev _ _ hdev]

/-- Any other master's release is refused: it is recorded, and the claim stays. -/
theorem claimRelease_refuses (m : Master) (res : Fin 6) (s : State) (h : s.Reached m (claimReg res)) (held : s.claimUse res ≠ 0) (hsup : m ≠ .supS)
    (other : m.holder ≠ s.fld ⟨claimReg res, 4, 4⟩ ∨ m.secBit ≠ s.is ⟨claimReg res, 9, 1⟩) :
    Completes (.claimRelease m res) s fun t => s.Answered m 1 t ∧ t.is ⟨claimReg res, 8, 1⟩ = true ∧ t.claimUse res = s.claimUse res ∧
      t.fld ⟨claimReg res, 4, 4⟩ = s.fld ⟨claimReg res, 4, 4⟩ ∧ t.is ⟨claimReg res, 9, 1⟩ = s.is ⟨claimReg res, 9, 1⟩ ∧
      t.fld F.MODE_CLAIM_ERR_RESOURCE = claimCode res ∧ t.fld F.MODE_CLAIM_ERR_MASTER = m.holder ∧
      t.fld F.MODE_CLAIM_ERR_COUNT = min (s.fld F.MODE_CLAIM_ERR_COUNT + 1) 65535 ∧ s.Only [claimReg res, R.MODE_CLAIM_ERR, R.MODE_EVENT] t := by
  have hm : ¬ s.mayReleaseClaim m res = true := by
    rw [State.mayReleaseClaim_iff]
    tauto
  refine claimRelease_completes h (State.claimWrite_release_refused held hm) fun t ht hout => ⟨?_, ?_, ?_, ?_, ?_, ?_, ?_, ?_, fun b hb => ?_⟩
  · rw [State.Answered, hout, State.claimRefuse_out]
    rfl
  · exact (ht.is _).trans (State.claimRefuse_refused s m res)
  · exact (ht.fld _).trans (State.claimRefuse_fld s m res 0 2 (by decide))
  · exact (ht.fld _).trans (State.claimRefuse_fld s m res 4 4 (by decide))
  · unfold State.is
    rw [ht.fld, State.claimRefuse_fld s m res 9 1 (by decide)]
  · exact (ht.fld _).trans (State.configError_resource _ _ _ (claimCode_lt res))
  · exact (ht.fld _).trans (State.configError_master _ _ _ (Master.holder_lt m))
  · exact (ht.fld _).trans (State.claimRefuse_count s m res)
  · exact (ht.rd b).trans (State.claimRefuse_only s m res b hb)

/-- On a free claim register the write is accepted and changes nothing. -/
theorem claimRelease_free_accepted (m : Master) (res : Fin 6) (s : State) (h : s.Reached m (claimReg res)) (free : s.claimUse res = 0) :
    Completes (.claimRelease m res) s fun t => s.Answered m 0 t ∧ s.Only [] t :=
  claimRelease_completes h (State.claimWrite_release_free free) fun _ ht hout => ⟨hout, fun b _ => ht.rd b⟩

/-- Settles O5, by the three outcomes of a write of USE = 0: freed, refused, nothing to free (R35). -/
theorem heldClaimIsReleasedOnlyByItsHolder : Obligations.HeldClaimIsReleasedOnlyByItsHolder :=
  ⟨claimRelease_frees, claimRelease_refuses, claimRelease_free_accepted⟩

end Sys2Proof.Machine
end

section
/-! SUPPORT. Commit of a coefficient bank (R62, R88, R108): where a lane's bank words lie, the parts of a swap one after another, the two outcomes of a write of
BANK.COMMIT, and the statement that rests on them. -/

namespace Sys2Proof.Machine

/-! ## Where a lane's bank words lie -/

/-- A bank word's address tells its bank and its number. -/
theorem bankAddr_eq_iff (n : Nat) (b c : Bool) (v w : Nat) : bankAddr n b v = bankAddr n c w ↔ b = c ∧ v % 64 = w % 64 := by
  have hb : b = c ↔ b2n b = b2n c := by cases b <;> cases c <;> decide
  rw [hb]
  unfold bankAddr
  omega

theorem bankAddr_ne_other (n : Nat) (b : Bool) (v w : Nat) : bankAddr n b v ≠ bankAddr n (!b) w := by
  simp [bankAddr_eq_iff]

theorem bankAddr_ne_bank (n : Nat) (b : Bool) (w : Nat) : bankAddr n b w ≠ R.LRX_BANK n := by
  unfold bankAddr R.LRX_BANK
  omega

theorem bankAddr_ne_status (n : Nat) (b : Bool) (w : Nat) : bankAddr n b w ≠ R.LTX_STATUS n := by
  unfold bankAddr R.LTX_STATUS
  omega

theorem bank_ne_status (n : Nat) : R.LRX_BANK n ≠ R.LTX_STATUS n := by
  unfold R.LRX_BANK R.LTX_STATUS
  omega

/-- A local address in the register block of lane n (R433). -/
def inLane (n a : Nat) : Prop := 0x04100000 + 0x1000 * n ≤ a ∧ a < 0x04101000 + 0x1000 * n

theorem inLane_bank (n : Nat) : inLane n (R.LRX_BANK n) := by
  unfold inLane R.LRX_BANK laneBase
  omega

theorem inLane_status (n : Nat) : inLane n (R.LTX_STATUS n) := by
  unfold inLane R.LTX_STATUS laneBase
  omega

theorem inLane_bankAddr (n : Nat) (b : Bool) (w : Nat) : inLane n (bankAddr n b w) := by
  unfold inLane bankAddr laneBase b2n
  split <;> omega

/-- What lies outside a block is no address of it. -/
theorem ne_of_not_inLane {n a b : Nat} (h : ¬ inLane n a) (hb : inLane n b) : a ≠ b := fun e => h (e ▸ hb)

/-! ## The banks and the peaking rest on registers other than the lane's STATUS -/

section Congr
variable {s t : State} {n : Nat}

theorem State.bankB_congr (h : t.rd (R.LRX_BANK n) = s.rd (R.LRX_BANK n)) : t.bankB n = s.bankB n := State.is_congr h

theorem State.activeWord_congr (h : ∀ a, a ≠ R.LTX_STATUS n → t.rd a = s.rd a) (w : Nat) : t.activeWord n w = s.activeWord n w := by
  unfold State.activeWord
  rw [State.bankB_congr (h _ (bank_ne_status n)), h _ (bankAddr_ne_status n _ w)]

theorem State.shadowWord_congr (h : ∀ a, a ≠ R.LTX_STATUS n → t.rd a = s.rd a) (w : Nat) : t.shadowWord n w = s.shadowWord n w := by
  unfold State.shadowWord
  rw [State.bankB_congr (h _ (bank_ne_status n)), h _ (bankAddr_ne_status n _ w)]

theorem State.peaking_congr (h : ∀ a, a ≠ R.LTX_STATUS n → t.rd a = s.rd a) : t.peaking n = s.peaking n := by
  unfold State.peaking
  rw [State.activeWord_congr h, State.activeWord_congr h]

end Congr

/-- An event counted leaves every register. -/
theorem State.tally_rd (s : State) (e : Event) (a : Nat) : (s.tally e).rd a = s.rd a := by
  obtain ⟨p, h⟩ := State.tally_butCount s e
  rw [h]
  rfl

/-- An event counted sends nothing. -/
theorem State.tally_out (s : State) (e : Event) : (s.tally e).out = s.out := by
  obtain ⟨p, h⟩ := State.tally_butCount s e
  rw [h]

/-! ## The parts of a swap (R61, R89, R105) -/

/-- The other bank made the active one. -/
def State.flipActive (s : State) (n : Nat) : State := s.setFld (F.LRX_BANK_ACTIVE n) (1 - s.fld (F.LRX_BANK_ACTIVE n))

/-- One word of the active bank copied to the shadow bank. -/
def State.copyWord (s : State) (n w : Nat) : State := s.wr (bankAddr n (!s.bankB n) w) (s.activeWord n w)

/-- The words of a list copied so. -/
def State.copyWords (s : State) (n : Nat) (l : List Nat) : State := l.foldl (fun s w => s.copyWord n w) s

/-- Copy on commit, on a line lane with BANK.AUTOCOPY. -/
def State.autocopied (s : State) (n : Nat) : State :=
  if n < 16 ∧ s.is (F.LRX_BANK_AUTOCOPY n) then s.copyWords n (List.range 64) else s

theorem State.swapBanks_eq (s : State) (n : Nat) : s.swapBanks n = (((s.flipActive n).autocopied n).showCursor n).showPeaking n := rfl

section Swap
variable (s : State) (n : Nat)

theorem State.flipActive_rd_ne {a : Nat} (h : a ≠ R.LRX_BANK n) : (s.flipActive n).rd a = s.rd a := State.setFld_rd_ne s _ _ h

theorem State.flipActive_bankB : (s.flipActive n).bankB n = !s.bankB n := by
  have hlt : s.fld (F.LRX_BANK_ACTIVE n) < 2 := bitsOf_lt ..
  unfold State.bankB State.is State.flipActive
  rw [State.setFld_fld_same _ _ _ (by decide : 0 + 1 ≤ 32)]
  obtain h | h : s.fld (F.LRX_BANK_ACTIVE n) = 0 ∨ s.fld (F.LRX_BANK_ACTIVE n) = 1 := by omega
  · rw [h]
    rfl
  · rw [h]
    rfl

theorem State.flipActive_autocopy : (s.flipActive n).is (F.LRX_BANK_AUTOCOPY n) = s.is (F.LRX_BANK_AUTOCOPY n) :=
  State.setFld_is_apart s _ _ _ (by decide : 0 + 1 ≤ 32) (.inr (.inr (by decide : 0 + 1 ≤ 2)))

/-- After the flip the active words are those that were the shadow bank's. -/
theorem State.flipActive_activeWord (w : Nat) : (s.flipActive n).activeWord n w = s.shadowWord n w := by
  unfold State.activeWord State.shadowWord
  rw [State.flipActive_bankB, State.flipActive_rd_ne s n (bankAddr_ne_bank _ _ _)]

theorem State.copyWord_bankB (w : Nat) : (s.copyWord n w).bankB n = s.bankB n :=
  State.bankB_congr (State.wr_rd_ne s _ (bankAddr_ne_bank _ _ _).symm)

theorem State.copyWord_activeWord (v w : Nat) : (s.copyWord n v).activeWord n w = s.activeWord n w := by
  have he := State.copyWord_bankB s n v
  unfold State.activeWord
  rw [he]
  exact State.wr_rd_ne s _ (bankAddr_ne_other _ _ _ _)

/-- The copied word of the shadow bank is the active one; the others stay. -/
theorem State.copyWord_shadowWord (v w : Nat) :
    (s.copyWord n v).shadowWord n w = if w % 64 = v % 64 then s.activeWord n w else s.shadowWord n w := by
  have he := State.copyWord_bankB s n v
  unfold State.shadowWord
  rw [he, State.copyWord, State.wr_rd]
  by_cases hw : w % 64 = v % 64
  · rw [if_pos ((bankAddr_eq_iff ..).2 ⟨rfl, hw⟩), if_pos hw, State.activeWord, State.activeWord, (bankAddr_eq_iff ..).2 ⟨rfl, hw⟩]
  · rw [if_neg fun e => hw ((bankAddr_eq_iff ..).1 e).2, if_neg hw]

theorem State.copyWord_out (w : Nat) : (s.copyWord n w).out = s.out := State.wr_out ..

variable (l : List Nat)

/-- A copy writes words of the lane's banks only. -/
theorem State.copyWords_rd_ne {a : Nat} (h : ∀ b w, a ≠ bankAddr n b w) : (s.copyWords n l).rd a = s.rd a := by
  unfold State.copyWords
  induction l generalizing s with
  | nil => rfl
  | cons v l ih => exact (ih _).trans (State.wr_rd_ne s _ (h _ v))

theorem State.copyWords_out : (s.copyWords n l).out = s.out := by
  unfold State.copyWords
  induction l generalizing s with
  | nil => rfl
  | cons v l ih => exact (ih _).trans (State.copyWord_out s n v)

theorem State.copyWords_activeWord (w : Nat) : (s.copyWords n l).activeWord n w = s.activeWord n w := by
  unfold State.copyWords
  induction l generalizing s with
  | nil => rfl
  | cons v l ih => exact (ih _).trans (State.copyWord_activeWord s n v w)

/-- Every word copied, and every word that agreed before, agrees in the two banks. -/
theorem State.copyWords_shadowWord (w : Nat) (h : w ∈ l ∨ s.shadowWord n w = s.activeWord n w) :
    (s.copyWords n l).shadowWord n w = s.activeWord n w := by
  unfold State.copyWords
  induction l generalizing s with
  | nil => exact h.resolve_left List.not_mem_nil
  | cons v l ih =>
    rw [← State.copyWord_activeWord s n v w]
    refine ih _ ?_
    rw [State.copyWord_activeWord, State.copyWord_shadowWord]
    by_cases hw : w % 64 = v % 64
    · exact .inr (if_pos hw)
    · rw [if_neg hw]
      exact h.imp_left fun hm => (List.mem_cons.1 hm).resolve_left fun e => hw (e ▸ rfl)

theorem State.autocopied_rd_ne {a : Nat} (h : ∀ b w, a ≠ bankAddr n b w) : (s.autocopied n).rd a = s.rd a := by
  unfold State.autocopied
  split
  · exact State.copyWords_rd_ne s n _ h
  · rfl

theorem State.autocopied_bankB : (s.autocopied n).bankB n = s.bankB n :=
  State.bankB_congr (State.autocopied_rd_ne s n fun b w => (bankAddr_ne_bank n b w).symm)

theorem State.autocopied_activeWord (w : Nat) : (s.autocopied n).activeWord n w = s.activeWord n w := by
  unfold State.autocopied
  split
  · exact State.copyWords_activeWord s n _ w
  · rfl

theorem State.autocopied_shadowWord {w : Nat} (hn : n < 16) (ha : s.is (F.LRX_BANK_AUTOCOPY n) = true) (hw : w < 64) :
    (s.autocopied n).shadowWord n w = s.activeWord n w := by
  unfold State.autocopied
  rw [if_pos ⟨hn, ha⟩, State.copyWords_shadowWord s n _ w (.inl (List.mem_range.2 hw))]

theorem State.autocopied_out : (s.autocopied n).out = s.out := by
  unfold State.autocopied
  split
  · exact State.copyWords_out s n _
  · rfl

theorem State.showCursor_rd_ne {a : Nat} (h : a ≠ R.LTX_STATUS n) : (s.showCursor n).rd a = s.rd a := by
  unfold State.showCursor
  split
  · exact State.setFld_rd_ne s _ _ h
  · rfl

theorem State.showCursor_out : (s.showCursor n).out = s.out := by
  unfold State.showCursor
  split
  · exact State.setFld_out ..
  · rfl

theorem State.showPeaking_rd (a : Nat) : (s.showPeaking n).rd a = s.rd a := by
  unfold State.showPeaking
  split
  · exact State.emit_rd ..
  · rfl

/-- What the swap sends: on a receive lane, the peaking code in use. -/
theorem State.showPeaking_out :
    (s.showPeaking n).out = (if n < 8 ∨ 16 ≤ n ∧ n < 32 then [.peaking n (s.peaking n)] else []) ++ s.out := by
  unfold State.showPeaking
  split <;> rfl

/-! ## The swap -/

/-- What the cursor and the peaking leave alone of the banks swapped and copied. -/
theorem State.swapBanks_rd (a : Nat) (h : a ≠ R.LTX_STATUS n) : (s.swapBanks n).rd a = ((s.flipActive n).autocopied n).rd a := by
  rw [State.swapBanks_eq, State.showPeaking_rd, State.showCursor_rd_ne _ _ h]

theorem State.swapBanks_bankB : (s.swapBanks n).bankB n = !s.bankB n := by
  rw [State.bankB_congr (State.swapBanks_rd s n _ (bank_ne_status n)), State.autocopied_bankB, State.flipActive_bankB]

theorem State.swapBanks_activeWord (w : Nat) : (s.swapBanks n).activeWord n w = s.shadowWord n w := by
  rw [State.activeWord_congr (State.swapBanks_rd s n), State.autocopied_activeWord, State.flipActive_activeWord]

theorem State.swapBanks_shadowWord {w : Nat} (hn : n < 16) (ha : s.is (F.LRX_BANK_AUTOCOPY n) = true) (hw : w < 64) :
    (s.swapBanks n).shadowWord n w = (s.swapBanks n).activeWord n w := by
  rw [State.swapBanks_activeWord, State.shadowWord_congr (State.swapBanks_rd s n),
    State.autocopied_shadowWord _ n hn ((State.flipActive_autocopy s n).trans ha) hw, State.flipActive_activeWord]

/-- A swap writes registers of its lane's block only. -/
theorem State.swapBanks_rd_outside {a : Nat} (h : ¬ inLane n a) : (s.swapBanks n).rd a = s.rd a := by
  rw [State.swapBanks_rd s n a (ne_of_not_inLane h (inLane_status n)),
    State.autocopied_rd_ne _ _ fun b w => ne_of_not_inLane h (inLane_bankAddr n b w),
    State.flipActive_rd_ne s n (ne_of_not_inLane h (inLane_bank n))]

theorem State.swapBanks_out :
    (s.swapBanks n).out = (if n < 8 ∨ 16 ≤ n ∧ n < 32 then [.peaking n ((s.swapBanks n).peaking n)] else []) ++ s.out := by
  rw [State.swapBanks_eq, State.peaking_congr fun a _ => State.showPeaking_rd _ n a, State.showPeaking_out, State.showCursor_out, State.autocopied_out]
  rfl

end Swap

/-! ## The two outcomes of a write of BANK.COMMIT (R62, R88, R106, R108, R468) -/

theorem fits_commitRefused (n : Nat) : (commitRefusedFld n).Fits ∧ (commitRefusedFld n).wd = 1 := by
  unfold commitRefusedFld
  split
  · exact ⟨(by decide : 5 + 1 ≤ 32), rfl⟩
  · exact ⟨(by decide : 4 + 1 ≤ 32), rfl⟩

section Commit
variable {s : State} {n : Nat}

theorem State.bankCommit_accepted (hs : s.seqStopped n = true) (hc : s.shadowOk n = true) :
    s.bankCommit n = ((s.swapBanks n).tally (.ofLane 8 n 1), .ok) := by
  simp [State.bankCommit, State.commit, hs, hc]

/-- A sequencer that runs and a shadow bank that fails its content check refuse the write alike. -/
theorem State.bankCommit_refused (h : s.seqStopped n = false ∨ s.shadowOk n = false) :
    s.bankCommit n = ((s.put (commitRefusedFld n) true).tally (.ofLane 9 n 1), .err 1) := by
  unfold State.bankCommit State.commit
  by_cases hs : s.seqStopped n = true
  · simp [hs, h.resolve_left (by simp [hs])]
  · simp [hs]

/-- A commit that reaches the lane's block completes with what its write does, and is answered; the event counted shows in no register. -/
theorem bankCommit_completes {m : Master} {n : Fin 48} {u : State} {e : Event} {r : Resp} {q : State → Prop} (h : s.Reached m (R.LRX_BANK n))
    (hc : s.bankCommit n = (u.tally e, r)) (k : ∀ t, (∀ a, t.rd a = u.rd a) → t.out = .response m r.code 0 :: u.out → q t) :
    Completes (.bankCommit m n) s q := by
  refine via_completes (f := fun s => s.bankCommit n) rfl h fun t ht hout => k t (fun a => ?_) ?_
  · rw [ht.rd, hc, State.tally_rd]
  · rw [hout, hc, State.tally_out]

end Commit

/-! ## The statement -/

/-- A refused commit is answered with an error and its event, and touches no other register. -/
theorem bankCommit_refuses (m : Master) (n : Fin 48) (s : State) (h : s.Reached m (R.LRX_BANK n)) (hr : s.seqStopped n = false ∨ s.shadowOk n = false) :
    Completes (.bankCommit m n) s fun t => s.Answered m 1 t ∧ t.is (commitRefusedFld n) = true ∧ s.Only [(commitRefusedFld n).addr] t := by
  obtain ⟨hfit, hone⟩ := fits_commitRefused n
  refine bankCommit_completes h (State.bankCommit_refused hr) fun t hrd hout => ⟨hout, ?_, fun a ha => ?_⟩
  · exact (State.is_congr (hrd _)).trans (State.put_is_same _ _ _ hfit hone)
  · exact (hrd a).trans (State.put_rd_ne _ _ _ (List.ne_of_not_mem_cons ha))

/-- An accepted commit swaps the banks, copies them on a line lane with AUTOCOPY, and stays in its lane's block. -/
theorem bankCommit_swaps (m : Master) (n : Fin 48) (s : State) (h : s.Reached m (R.LRX_BANK n)) (hs : s.seqStopped n = true) (hc : s.shadowOk n = true) :
    Completes (.bankCommit m n) s fun t =>
      t.out = .response m 0 0 :: ((if n.val < 8 ∨ 16 ≤ n.val ∧ n.val < 32 then [.peaking n (t.peaking n)] else []) ++ s.out) ∧
      t.bankB n = (!s.bankB n) ∧ (∀ w : Fin 64, t.activeWord n w = s.shadowWord n w) ∧
      (n.val < 16 → s.is (F.LRX_BANK_AUTOCOPY n) = true → ∀ w : Fin 64, t.shadowWord n w = t.activeWord n w) ∧ s.OnlyLanes [n.val] t := by
  refine bankCommit_completes h (State.bankCommit_accepted hs hc) fun t hrd hout => ⟨?_, ?_, fun w => ?_, fun hn ha w => ?_, fun a ha => ?_⟩
  · rw [State.peaking_congr fun a _ => hrd a, hout, State.swapBanks_out]
    rfl
  · exact (State.bankB_congr (hrd _)).trans (State.swapBanks_bankB s n)
  · exact (State.activeWord_congr (fun a _ => hrd a) w).trans (State.swapBanks_activeWord s n w)
  · rw [State.shadowWord_congr fun a _ => hrd a, State.activeWord_congr fun a _ => hrd a, State.swapBanks_shadowWord s n hn ha w.isLt]
  · exact (hrd a).trans (State.swapBanks_rd_outside s n (ha n.val List.mem_cons_self))

/-- Settles O8: a running sequencer and an unfit shadow bank refuse the write alike, and else the banks swap (R62, R88, R106, R108, R468). -/
theorem bankCommitNeedsAStoppedSequencer : Obligations.BankCommitNeedsAStoppedSequencer :=
  ⟨fun m n s h hr => bankCommit_refuses m n s h (.inl hr), bankCommit_swaps, fun m n s h _ hc => bankCommit_refuses m n s h (.inr hc)⟩

end Sys2Proof.Machine
end

section
/-! SUPPORT. The supervisor's trap entry and ERET (R222 to R225): fields of a word as masks, what the writes of control registers and pc leave alone, the entry to a kernel,
the return from it, and the statement that rests on them. -/

namespace Sys2Proof.Machine

/-! ## Fields of a word as masks -/

/-- A field replaced: the word with the field's bits masked out, and the new value in their place. -/
theorem setBits_eq_mask (w : Word) (lo wd v : Nat) (h : lo + wd ≤ 32) :
    setBits w lo wd v = w &&& ~~~BitVec.ofNat 32 ((2 ^ wd - 1) * 2 ^ lo) ||| BitVec.ofNat 32 (v % 2 ^ wd * 2 ^ lo) := by
  refine BitVec.eq_of_getLsbD_eq fun i hi => ?_
  rw [← BitVec.testBit_toNat, setBits_testBit w lo wd v i h]
  simp only [BitVec.getLsbD_or, BitVec.getLsbD_and, BitVec.getLsbD_not, BitVec.getLsbD_ofNat, Nat.testBit_mul_two_pow, Nat.testBit_two_pow_sub_one,
    Nat.testBit_mod_two_pow, hi, BitVec.testBit_toNat]
  by_cases hlo : lo ≤ i
  · by_cases hwd : i - lo < wd
    · simp [hlo, hwd, show i < lo + wd by omega]
    · simp [hlo, hwd, show ¬ i < lo + wd by omega]
  · simp [hlo]

/-- A bit cleared. -/
theorem setBits_clear (w : Word) (i : Nat) (h : i < 32) : setBits w i 1 (b2n false) = w &&& ~~~BitVec.ofNat 32 (2 ^ i) := by
  rw [setBits_eq_mask w i 1 _ h]
  simp [b2n]

/-- Two masks laid on a word one after another are one. -/
theorem and_or_and_or (w m c m' c' : Word) : (w &&& m ||| c) &&& m' ||| c' = w &&& (m &&& m') ||| (c &&& m' ||| c') := by
  rw [BitVec.and_or_distrib_right, BitVec.and_assoc, BitVec.or_assoc]

/-! ## The supervisor's own state after a write -/

/-- What lies beyond the supervisor's control registers and pc: the registers of the map, the general registers, memory, and what was sent. -/
def State.beyondSup (s : State) : List (Nat × Word) × List (Nat × Word) × List Host.Cell × List Out := (s.regs, s.gpr, s.mem, s.out)

theorem State.keeps_of_beyondSup {s t : State} (h : t.beyondSup = s.beyondSup) : t.gpr = s.gpr ∧ t.mem = s.mem ∧ t.out = s.out ∧ s.Only [] t := by
  simp only [State.beyondSup, Prod.mk.injEq] at h
  obtain ⟨hregs, hgpr, hmem, hout⟩ := h
  exact ⟨hgpr, hmem, hout, fun a _ => by rw [State.rd, State.rd, hregs]⟩

section Writes
variable (s : State)

@[simp] theorem State.setCreg_beyondSup (n : Nat) (v : Word) : (s.setCreg n v).beyondSup = s.beyondSup := rfl
@[simp] theorem State.putCbit_beyondSup (n i : Nat) (b : Bool) : (s.putCbit n i b).beyondSup = s.beyondSup := rfl
@[simp] theorem State.setSupPc_beyondSup (pc : Word) : (s.setSupPc pc).beyondSup = s.beyondSup := rfl

@[simp] theorem State.tally_beyondSup (e : Event) : (s.tally e).beyondSup = s.beyondSup := by
  obtain ⟨p, h⟩ := State.tally_butCount s e
  rw [h]
  rfl

@[simp] theorem State.tally_creg (e : Event) (c : Nat) : (s.tally e).creg c = s.creg c := by
  obtain ⟨p, h⟩ := State.tally_butCount s e
  rw [h]
  rfl

@[simp] theorem State.tally_sup (e : Event) : (s.tally e).sup = s.sup := by
  obtain ⟨p, h⟩ := State.tally_butCount s e
  rw [h]

theorem State.setCreg_creg (n c : Nat) (v : Word) : (s.setCreg n v).creg c = if c = n then v else s.creg c := tabGet_put ..

theorem State.putCbit_creg (n i c : Nat) (b : Bool) :
    (s.putCbit n i b).creg c = if c = n then setBits (s.creg n) i 1 (b2n b) else s.creg c := State.setCreg_creg ..

@[simp] theorem State.putCbit_sup (n i : Nat) (b : Bool) : (s.putCbit n i b).sup = s.sup := rfl
@[simp] theorem State.setSupPc_creg (pc : Word) (c : Nat) : (s.setSupPc pc).creg c = s.creg c := rfl
@[simp] theorem State.setSupPc_pc (pc : Word) : (s.setSupPc pc).sup.pc = pc := rfl
@[simp] theorem State.setPc_sup_creg (pc : Word) (c : Nat) : (s.setPc .sup pc).creg c = s.creg c := State.tally_creg ..
@[simp] theorem State.setPc_sup_pc (pc : Word) : (s.setPc .sup pc).sup.pc = pc := by simp [State.setPc]
@[simp] theorem State.setPc_sup_beyondSup (pc : Word) : (s.setPc .sup pc).beyondSup = s.beyondSup := State.tally_beyondSup ..

end Writes

/-! ## Trap entry of the supervisor (R222 to R224) -/

/-- PSR as a trap's entry leaves it: the level of its target, the target's TIP set and its interrupts off. -/
def trapPsr (secure : Bool) (w : Word) : Word :=
  if secure then setBits (setBits (setBits w 0 2 0) 4 1 1) 2 1 0 else setBits (setBits (setBits w 0 2 1) 5 1 1) 3 1 0

theorem trapPsr_eq_mask (secure : Bool) (w : Word) :
    trapPsr secure w = if secure then (w &&& 0xFFFFFFE8#32) ||| 0x10#32 else (w &&& 0xFFFFFFD4#32) ||| 0x21#32 := by
  unfold trapPsr
  cases secure
  all_goals
    simp only [Bool.false_eq_true, if_false, if_true]
    rw [setBits_eq_mask _ _ _ _ (by decide), setBits_eq_mask _ _ _ _ (by decide), setBits_eq_mask _ _ _ _ (by decide), and_or_and_or, and_or_and_or]
    rfl

/-- The first of the four control registers that a trap fills. -/
def trapBase (secure : Bool) : Nat := if secure then 1 else 6

section Entry
variable (s : State) (secure : Bool) (cause detail : Nat) (epc tval : Word)

/-- The control registers after a trap's entry: PSR, the four of its record, and every other as it was. -/
theorem State.enterTrap_creg (c : Nat) : (s.enterTrap secure cause detail epc tval).creg c =
    if c = 0 then trapPsr secure (s.creg 0)
    else if c = trapBase secure + 3 then tval
    else if c = trapBase secure + 2 then BitVec.ofNat 32 (cause + 256 * detail)
    else if c = trapBase secure + 1 then s.creg 0 &&& psrMask
    else if c = trapBase secure then epc
    else s.creg c := by
  by_cases h : c = 0 <;> cases secure <;> simp [State.enterTrap, State.putCbit_creg, State.setCreg_creg, trapPsr, trapBase, b2n, h]

theorem State.enterTrap_pc :
    (s.enterTrap secure cause detail epc tval).sup.pc = (if secure then 0x100#32 else s.creg 12) + BitVec.ofNat 32 (4 * cause) := by
  cases secure <;> simp [State.enterTrap, State.putCbit_creg, State.setCreg_creg]

theorem State.enterTrap_beyondSup : (s.enterTrap secure cause detail epc tval).beyondSup = s.beyondSup := by
  cases secure <;> simp [State.enterTrap]

theorem State.enterTrap_supTrapped : s.SupTrapped secure cause detail epc tval (s.enterTrap secure cause detail epc tval) := by
  obtain ⟨hgpr, hmem, hout, hregs⟩ := State.keeps_of_beyondSup (State.enterTrap_beyondSup s secure cause detail epc tval)
  refine ⟨?epc, ?psr, ?cause, ?tval, ?newPsr, State.enterTrap_pc .., hgpr, fun c hc => ?others, hmem, hout, hregs⟩
  all_goals rw [State.enterTrap_creg]
  case newPsr => exact trapPsr_eq_mask ..
  case others =>
    simp only [List.mem_cons, List.not_mem_nil, or_false, not_or] at hc
    obtain ⟨h0, h1, h2, h3, h4⟩ := hc
    simp only [trapBase, h0, h1, h2, h3, h4, if_false]
  all_goals cases secure <;> rfl

end Entry

/-- A synchronous trap whose target has none in progress enters it (R223). -/
theorem State.supTrap_eq_enterTrap {s : State} {cause : Nat} (h : s.mayTrap .sup cause = true) (detail : Nat) (epc tval : Word) :
    s.supTrap cause detail epc tval = s.enterTrap (s.toSecure cause) cause detail epc tval := by
  have hroute : (decide (s.level = 0) || s.cbit 11 cause) = s.toSecure cause := rfl
  unfold State.supTrap
  rw [hroute]
  unfold State.mayTrap at h
  cases hs : s.toSecure cause <;> simp_all [State.cbit]

/-- PRIV, where no trap is in progress at its target (R222). -/
theorem State.priv_trapped {s : State} (h : s.mayTrap .sup 2 = true) (w : Word) : s.Trapped .sup 2 0 s.sup.pc w (settle (s.priv w)) := by
  unfold State.priv
  rw [State.supTrap_eq_enterTrap h]
  exact State.enterTrap_supTrapped ..

/-! ## ERET (R225) -/

section Eret
variable {s : State}

/-- A return from the trap whose TIP is bit `tip` of PSR: on at the saved address, with the saved status and TIP cleared. -/
def State.returned (s : State) (pc psr : Word) (tip : Nat) : State := ((s.setPc .sup pc).setCreg 0 psr).putCbit 0 tip false

theorem State.runEret_secure (hon : s.coreOn .sup = true) (hlvl : s.level = 0) : s.runEret = s.returned (s.creg 1) (s.creg 2 &&& psrMask) 4 := by
  simp [State.runEret, State.returned, hon, hlvl]

theorem State.runEret_nonSecure (hon : s.coreOn .sup = true) (hlvl : s.level = 1) (hsaved : (s.creg 7).toNat % 4 ≠ 0) :
    s.runEret = s.returned (s.creg 6) ((s.creg 7 &&& 0xF000002B#32) ||| (s.creg 0 &&& 0x14#32)) 5 := by
  simp [State.runEret, State.returned, hon, hlvl, bitsOf, hsaved]

theorem State.runEret_refused (hon : s.coreOn .sup = true) (hlvl : s.level ≠ 0) (hsaved : s.level = 1 → (s.creg 7).toNat % 4 = 0) :
    s.runEret = s.priv 0xA4000000#32 := by
  have hn : ¬ (s.level = 1 ∧ bitsOf (s.creg 7).toNat 0 2 ≠ 0) := fun ⟨h1, h2⟩ => h2 (by simp [bitsOf, hsaved h1])
  rw [State.runEret, if_pos hon, if_neg hlvl, if_neg hn]
  rfl

/-- A return changes the pc and PSR alone. -/
theorem State.returned_spec (s : State) (pc psr : Word) {tip : Nat} (h : tip < 32) :
    (s.returned pc psr tip).sup.pc = pc ∧ (s.returned pc psr tip).creg 0 = psr &&& ~~~BitVec.ofNat 32 (2 ^ tip) ∧
      (∀ c : Fin 128, c ≠ 0 → (s.returned pc psr tip).creg c = s.creg c) ∧ (s.returned pc psr tip).gpr = s.gpr ∧ (s.returned pc psr tip).mem = s.mem ∧
      s.Only [] (s.returned pc psr tip) := by
  have hbeyond : (s.returned pc psr tip).beyondSup = s.beyondSup := by simp [State.returned]
  obtain ⟨hgpr, hmem, -, hregs⟩ := State.keeps_of_beyondSup hbeyond
  refine ⟨by simp [State.returned], ?_, fun c hc => ?_, hgpr, hmem, hregs⟩
  · rw [State.returned, State.putCbit_creg, if_pos rfl, State.setCreg_creg, if_pos rfl, setBits_clear _ _ h]
  · have hc : c.val ≠ 0 := fun e => hc (Fin.ext e)
    simp [State.returned, State.putCbit_creg, State.setCreg_creg, hc]

/-- TIP_NS cleared is a bit of the saved status and none of the two kept. -/
theorem nonSecureStatus_eq (saved kept : Word) :
    (saved &&& 0xF000002B#32 ||| kept &&& 0x14#32) &&& ~~~BitVec.ofNat 32 (2 ^ 5) = (saved &&& 0xF000000B#32) ||| (kept &&& 0x14#32) := by
  rw [BitVec.and_or_distrib_right, BitVec.and_assoc, BitVec.and_assoc]
  rfl

/-- ERET completes with what its return or refusal does. -/
theorem eret_completes {q : State → Prop} {u : State} (e : s.runEret = u) (k : q (settle u)) : Completes .eret s q :=
  done_completes (u := s.runEret) rfl (e ▸ k)

/-- ERET is refused at NU, and at NK where NS_EPSR names SK. -/
theorem eret_refused (hon : s.coreOn .sup = true) (hlvl : s.level ≠ 0) (hsaved : s.level = 1 → (s.creg 7).toNat % 4 = 0) (hmay : s.mayTrap .sup 2 = true) :
    Completes .eret s fun t => s.Trapped .sup 2 0 s.sup.pc 0xA4000000#32 t :=
  eret_completes (State.runEret_refused hon hlvl hsaved) (State.priv_trapped hmay _)

/-- Settles O27: at SK the return from the secure trap, at NK the one from the non-secure trap, and the trap with PRIV where neither may be (R225). -/
theorem trapReturnFollowsTheLevel : Obligations.TrapReturnFollowsTheLevel := by
  unfold Obligations.TrapReturnFollowsTheLevel
  refine ⟨fun s hon hlvl => ?secure, fun s hon hlvl hsaved => ?nonSecure, fun s hon hlvl hsaved hmay => ?secureNamed, fun s hon hlvl hmay => ?user⟩
  case secure => exact eret_completes (State.runEret_secure hon hlvl) (State.returned_spec s _ _ (by decide))
  case nonSecure =>
    refine eret_completes (State.runEret_nonSecure hon hlvl hsaved) ?_
    rw [← nonSecureStatus_eq]
    exact State.returned_spec s _ _ (by decide)
  case secureNamed => exact eret_refused hon (by omega) (fun _ => hsaved) hmay
  case user => exact eret_refused hon (by omega) (fun h => by omega) hmay

end Eret

end Sys2Proof.Machine
end

section
/-! SUPPORT. The frame of the instructions of a core, `State.CoreOnly`, asks of every other core that its registers of every number stay, and a number of sixteen or more names
a register of the core that runs. No instruction that changes a register of a core other than the first can meet it; two statements fall with it. -/

namespace Sys2Proof.Machine

/-! ## Register numbers of sixteen and more -/

/-- One table holds the registers of all cores, sixteen keys to each: a number of sixteen or more at one core names a register of the next (R193). -/
theorem State.g_add_sixteen (s : State) (j r : Nat) (h : r ≠ 0) : s.g j (r + 16) = s.g (j + 1) r := by
  unfold State.g
  rw [if_neg h, if_neg (by omega), show 16 * j + (r + 16) = 16 * (j + 1) + r by ring]

/-- The frame of another core, taken at such numbers, freezes every register of the core that runs, the named ones too. -/
theorem State.CoreOnly.reg_eq {s t : State} {k : Core} {l : List Nat} (h : s.CoreOnly k l t) (hk : coreIdx k ≠ 0) {r : Nat} (hr : r ≠ 0) :
    t.reg k r = s.reg k r := by
  obtain ⟨j, hj⟩ := Nat.exists_eq_succ_of_ne_zero hk
  unfold State.reg
  rw [hj, Nat.succ_eq_add_one, ← State.g_add_sixteen t j r hr, ← State.g_add_sixteen s j r hr]
  exact h.gprs j (r + 16) (.inl (by omega))

/-! ## The refutations -/

/-- The supervisor released out of reset: at address 0, with 1 in g2 and 0 in the other registers. -/
def supervisorStarted : State := { State.reset with sup := { State.reset.sup with released := true }, gpr := [(770, 1#32)] }

theorem supervisorStarted_runs : supervisorStarted.coreOn .sup = true := by decide

/-- Refutes O23: ADD g5, g2, g2 must leave 2 in g5, and the frame's register 21 of core 47, which is g5 of the supervisor, must stay 0. -/
theorem not_aluInstructionsComputeTheirTable : ¬ Obligations.AluInstructionsComputeTheirTable := by
  unfold Obligations.AluInstructionsComputeTheirTable
  intro h
  obtain ⟨add, -⟩ := h
  obtain ⟨t, -, hval, -, -, honly⟩ := add .sup 5 2 2 supervisorStarted supervisorStarted_runs
  have hstays : t.reg .sup 5 = supervisorStarted.reg .sup 5 := honly.reg_eq (by decide) (by decide)
  exact absurd (hval.symm.trans hstays) (by decide)

/-- Refutes O25: BL taken at address 0 must leave 4 in g15, and the frame's register 31 of core 47, which is g15 of the supervisor, must stay 0. -/
theorem not_branchesTestTheFlags : ¬ Obligations.BranchesTestTheFlags := by
  unfold Obligations.BranchesTestTheFlags
  intro h
  obtain ⟨-, taken, -⟩ := h
  obtain ⟨t, -, -, hlink, -, honly⟩ := taken .sup 0 0 supervisorStarted supervisorStarted_runs (by decide)
  have hstays : t.reg .sup 15 = supervisorStarted.reg .sup 15 := honly.reg_eq (by decide) (by decide)
  exact absurd (hlink.symm.trans hstays) (by decide)

end Sys2Proof.Machine
end

section
/-! SUPPORT. The frame `State.CoreOnly` at registers that an instruction writes: six more statements ask of the register written that it stays. -/

namespace Sys2Proof.Machine

/-! ## A core that runs -/

/-- The sequencer of line receive lane 1 running at address 0, with its event line 0 set and the local address of its event latch in g2. -/
def laneOneRunning : State :=
  { State.reset with
    regs := [(R.PWR_DOM_STAT, 0x1C00B#32), (R.LRX_SEQ_EVT 1, 1#32), (R.LRX_SEQ_STAT 1, 1#32)], gpr := [(18, 0x12008#32)] }

theorem laneOneRunning_runs : laneOneRunning.coreOn (.ls 1) = true := by decide

/-- The supervisor of `supervisorStarted` halted by the debug unit and let step one instruction (R428). -/
def supervisorStepping : State :=
  { supervisorStarted with
    sup := { supervisorStarted.sup with released := true, wfi := false, lockup := false, stall := false, halted := true, stepping := true } }

/-! ## The refutations -/

/-- Refutes O24: ADDI g5, g0, 1 must leave 1 in g5, and the frame's register 21 of core 47, which is g5 of the supervisor, must stay 0. -/
theorem not_immediateInstructionsCompute : ¬ Obligations.ImmediateInstructionsCompute := by
  unfold Obligations.ImmediateInstructionsCompute
  intro h
  obtain ⟨addi, -⟩ := h
  obtain ⟨t, -, hval, -, -, honly⟩ := addi .sup 5 0 1 supervisorStarted supervisorStarted_runs
  have hstays : t.reg .sup 5 = supervisorStarted.reg .sup 5 := honly.reg_eq (by decide) (by decide)
  exact absurd (hval.symm.trans hstays) (by decide)

/-- Refutes O26: JALR g5, g0 at address 0 must leave 4 in g5, and the same register must stay 0. -/
theorem not_jumpsAndTrapsOfTheCores : ¬ Obligations.JumpsAndTrapsOfTheCores := by
  unfold Obligations.JumpsAndTrapsOfTheCores
  intro h
  obtain ⟨jalr, -⟩ := h
  obtain ⟨t, -, -, hlink, -, honly⟩ := jalr .sup 5 0 supervisorStarted supervisorStarted_runs (by decide)
  have hstays : t.reg .sup 5 = supervisorStarted.reg .sup 5 := honly.reg_eq (by decide) (by decide)
  exact absurd (hlink.symm.trans hstays) (by decide)

/-- Refutes O29: a MOVC read of c13, which reads 0x201, must leave that in g5, and the same register must stay 0. -/
theorem not_controlRegistersByLevel : ¬ Obligations.ControlRegistersByLevel := by
  unfold Obligations.ControlRegistersByLevel
  intro h
  obtain ⟨read, -⟩ := h
  obtain ⟨t, -, hval, -, -, -, honly⟩ := read 5 13 supervisorStarted supervisorStarted_runs (by decide) (by decide)
  have hstays : t.reg .sup 5 = supervisorStarted.reg .sup 5 := honly.reg_eq (by decide) (by decide)
  exact absurd (hval.symm.trans hstays) (by decide)

/-- Refutes O30: a load of its event latch by sequencer 1 must leave 1 in g5, and the frame's register 21 of core 0, which is g5 of core 1, must stay 0. -/
theorem not_loadsReadTheCoresOwnMemory : ¬ Obligations.LoadsReadTheCoresOwnMemory := by
  unfold Obligations.LoadsReadTheCoresOwnMemory
  intro h
  obtain ⟨-, -, -, -, -, latch, -⟩ := h
  obtain ⟨t, -, hval, -, -, honly⟩ := latch 1 5 2 0 laneOneRunning laneOneRunning_runs (by decide)
  have hstays : t.reg (.ls 1) 5 = laneOneRunning.reg (.ls 1) 5 := honly.reg_eq (by decide) (by decide)
  exact absurd (hval.symm.trans hstays) (by decide)

/-- Refutes O33: a CMT of sequencer 1 for a group boundary that its lane has not must leave 2 in g5, and the same register must stay 0. -/
theorem not_laneExtensionsWorkOnTheLane : ¬ Obligations.LaneExtensionsWorkOnTheLane := by
  unfold Obligations.LaneExtensionsWorkOnTheLane
  intro h
  obtain ⟨-, -, -, -, -, refused, -⟩ := h
  obtain ⟨t, -, ⟨hval, -, -, honly⟩, -⟩ := refused 1 5 true laneOneRunning laneOneRunning_runs (.inr (by decide))
  have hstays : t.reg (.ls 1) 5 = laneOneRunning.reg (.ls 1) 5 := honly.reg_eq (by decide) (by decide)
  exact absurd (hval.symm.trans hstays) (by decide)

/-- Refutes O54: a stepped ADD g5, g2, g2 must leave 2 in g5, and the frame's register 21 of core 47, which is g5 of the supervisor, must stay 0. -/
theorem not_debugUnitControlsTheSupervisor : ¬ Obligations.DebugUnitControlsTheSupervisor := by
  unfold Obligations.DebugUnitControlsTheSupervisor
  intro h
  obtain ⟨-, -, -, -, -, -, -, -, -, -, -, -, -, -, -, -, -, -, -, -, -, -, -, -, -, -, -, -, -, stepped, -⟩ := h
  obtain ⟨t, -, hval, -, -, honly⟩ := stepped 5 2 2 supervisorStepping (by decide) rfl
  have hstays : t.reg .sup 5 = supervisorStepping.reg .sup 5 := honly.reg_eq (by decide) (by decide)
  exact absurd (hval.symm.trans hstays) (by decide)

end Sys2Proof.Machine
end

section
/-! SUPPORT. The invariants of every step and the frame of every command, from `exec_closed` and `idle_closed`: what is closed under the updates that a command may make, the command
keeps. -/

namespace Sys2Proof.Machine

/-! ## The canonical form -/

/-- The canonical form is closed under every update. -/
theorem canonical_closed (K : Nat) : Closed K State.Canonical where
  regs _ _ _ h k := { h with regs := k h.regs }
  lanes _ _ _ h k := { h with lanes := k h.lanes }
  seqs _ _ _ h k := { h with seqs := k h.seqs }
  gpr _ _ _ h k := { h with gpr := k h.gpr }
  sup _ _ _ h := { h with }
  cregs _ _ _ h k := { h with cregs := k h.cregs }
  chans _ _ _ h k := { h with chans := k h.chans }
  ladders _ _ _ h k := { h with ladders := k h.ladders }
  faultLog _ _ _ h := { h with }
  shutdown _ _ _ h := { h with }
  fab _ _ _ h k := { h with fab := k h.fab }
  clk _ _ _ h := { h with }
  integ _ _ _ h k := { h with integ := k h.integ }
  mons _ _ _ h k := { h with mons := k h.mons }
  monAt _ _ _ h := { h with }
  therm _ _ _ h k := { h with therm := k h.therm }
  perf _ _ _ h k := { h with perf := k h.perf }
  life _ _ _ h := { h with }
  dma _ _ _ h k := { h with dma := k h.dma }
  pcie _ _ _ h k := { h with pcie := k h.pcie }
  smp _ _ _ h := { h with }
  tow _ _ _ h k := { h with tow := k h.tow }
  flash _ _ _ h := { h with }
  trans _ _ _ h := { h with }
  dorm _ _ _ h := { h with }
  pins _ _ _ h := { h with }
  supply _ _ _ h := { h with }
  clock _ _ _ h := { h with }
  tb _ _ _ h := { h with }
  latch _ _ _ h k := { h with latch := k h.latch }
  msixDue _ _ _ h := { h with }
  mem _ _ _ h k := { h with mem := k h.mem }
  free _ _ _ h := { h with }
  out _ _ _ h := { h with }

/-- The queue holds no table. -/
theorem State.Canonical.withPending {s : State} (h : s.Canonical) (l : List Instr) : State.Canonical { s with pending := l } := { h with }

/-- A step is a command on the queue's rest, or a tick. -/
theorem step_cases {s t : State} (e : step s = .next t) :
    (∃ c rest, s.pending = c :: rest ∧ exec c { s with pending := rest } = .next t) ∨ s.pending = [] ∧ idle s = .next t := by
  unfold step at e
  split at e
  next c rest hp => exact .inl ⟨c, rest, hp, e⟩
  next hp => exact .inr ⟨hp, e⟩

/-- Settles O58: every command and a tick keep what is closed under their updates. -/
theorem everyStepKeepsTheCanonicalForm : Obligations.EveryStepKeepsTheCanonicalForm := by
  unfold Obligations.EveryStepKeepsTheCanonicalForm
  intro s t hs e
  obtain ⟨c, rest, -, e⟩ | ⟨-, e⟩ := step_cases e
  · exact exec_closed (canonical_closed _) e (hs.withPending rest)
  · exact idle_closed (canonical_closed _) (Sub.refl _) e hs

/-! ## Interrupts that are due -/

/-- What has settled marks every vector whose condition is 1 (R261). -/
theorem settle_irqRemembered (s : State) : (settle s).IrqRemembered := by
  have hnow : (settle s).irqNow = s.irqNow := rfl
  have hdue : (settle s).msixDue = s.msixDue ||| s.irqNow := rfl
  unfold State.IrqRemembered
  rw [hnow, hdue, BitVec.not_or]
  ext i hi
  simp only [BitVec.getElem_and, BitVec.getElem_not, BitVec.getElem_zero]
  cases s.irqNow[i] <;> simp

/-- A receiver's branches, by its index among the receivers (R181). -/
theorem branches_rxLane (r : Nat) : branches (rxLane r) = if r < 8 then 64 else 32 := by
  unfold branches rxLane
  by_cases h : r < 8
  · rw [if_pos h, if_pos h]
  · rw [if_neg h, if_neg h, if_neg (show ¬ r + 8 < 8 by omega)]

/-- Every meaning settles, or stops on an operand that no sender can form. -/
theorem exec_settles (c : Instr) (s : State) : ∃ u, exec c s = doneIf c.wellFormed u := by
  cases c
  case inputBargeComplete src slicer sym frac => cases src <;> exact ⟨_, rfl⟩
  case backgroundCalWindow r levels sums lapUs =>
    refine ⟨s.background (rxLane r) levels sums.1 sums.2 lapUs, ?_⟩
    have hb : (fitnessWindow levels sums.1 && sums.2.length == branches (rxLane r)) = (Instr.backgroundCalWindow r levels sums lapUs).wellFormed := by
      rw [branches_rxLane]
      rfl
    rw [← hb]
    rfl
  all_goals exact ⟨_, rfl⟩

theorem doneIf_next {b : Bool} {u t : State} (e : doneIf b u = .next t) : t = settle u := by
  cases b
  · cases e
  · cases e
    rfl

/-- Settles O59. -/
theorem everyStepRemembersDueInterrupts : Obligations.EveryStepRemembersDueInterrupts := by
  unfold Obligations.EveryStepRemembersDueInterrupts
  intro s t e
  obtain ⟨c, rest, -, e⟩ | ⟨-, e⟩ := step_cases e
  · obtain ⟨u, hu⟩ := exec_settles c { s with pending := rest }
    rw [hu] at e
    rw [doneIf_next e]
    exact settle_irqRemembered u
  · cases e
    exact settle_irqRemembered _

/-! ## What a command may change -/

/-- The parts that a list names, as the mask that `exec_closed` takes. -/
theorem testBit_mask (l : List Part) (m i : Nat) : (l.foldl (fun m p => m ||| p.bit) m).testBit i = (m.testBit i || l.any fun p => p.ctorIdx == i) := by
  induction l generalizing m with
  | nil => simp
  | cons p l ih =>
    rw [List.foldl_cons, ih, Nat.testBit_or, Part.bit, Nat.testBit_two_pow, List.any_cons, Bool.or_assoc]
    rfl

theorem Part.ctorIdx_inj {p q : Part} (h : p.ctorIdx = q.ctorIdx) : p = q := by
  rw [← Part.ofNat_ctorIdx p, ← Part.ofNat_ctorIdx q, h]

theorem Part.testBit_of_sub {p : Part} {K : Nat} (h : Sub p.bit K) : K.testBit p.ctorIdx = true := by
  have := congrArg (Nat.testBit · p.ctorIdx) h
  simpa [Part.bit] using this

/-- A part whose bit lies in a command's mask is one that the command may change. -/
theorem mem_mayChange {c : Instr} {p : Part} (h : Sub p.bit c.mask) : p ∈ c.mayChange := by
  have hp := Part.testBit_of_sub h
  rw [Instr.mask, testBit_mask] at hp
  obtain ⟨q, hq, he⟩ : ∃ q ∈ c.mayChange, q.ctorIdx = p.ctorIdx := by simpa using hp
  rwa [← Part.ctorIdx_inj he]

/-- Two states with the same queue that differ in the parts of a mask at most. -/
def State.Within (s : State) (K : Nat) (t : State) : Prop := t.pending = s.pending ∧ ∀ p : Part, ¬ Sub p.bit K → State.Same p s t

theorem State.Within.refl (s : State) (K : Nat) : s.Within K s := ⟨rfl, fun p _ => by cases p <;> rfl⟩

theorem State.Same.trans {p : Part} {s t u : State} (h : State.Same p s t) (k : State.Same p t u) : State.Same p s u := by
  cases p <;> exact Eq.trans k h

/-- A part outside the mask stays. -/
theorem State.Within.same {s t : State} {K : Nat} (h : s.Within K t) (p : Part) (hp : K.testBit p.ctorIdx = false) : State.Same p s t :=
  h.2 p fun hs => by simp [Part.testBit_of_sub hs] at hp

/-- A change of one part of the mask. -/
theorem State.Within.change {s t u : State} {K : Nat} {q : Part} (h : s.Within K t) (hq : Sub q.bit K) (hp : u.pending = t.pending)
    (hs : ∀ p, p ≠ q → State.Same p t u) : s.Within K u :=
  ⟨hp.trans h.1, fun p hl => (h.2 p hl).trans (hs p fun e => hl (e ▸ hq))⟩

/-- Every update of a part of the mask leaves the other parts. -/
theorem within_closed (K : Nat) (s : State) : Closed K (s.Within K) where
  regs hK _ _ h _ := h.change (q := .regs) hK rfl fun p hp => by cases p <;> trivial
  lanes hK _ _ h _ := h.change (q := .lanes) hK rfl fun p hp => by cases p <;> trivial
  seqs hK _ _ h _ := h.change (q := .seqs) hK rfl fun p hp => by cases p <;> trivial
  gpr hK _ _ h _ := h.change (q := .gpr) hK rfl fun p hp => by cases p <;> trivial
  sup hK _ _ h := h.change (q := .sup) hK rfl fun p hp => by cases p <;> trivial
  cregs hK _ _ h _ := h.change (q := .cregs) hK rfl fun p hp => by cases p <;> trivial
  chans hK _ _ h _ := h.change (q := .chans) hK rfl fun p hp => by cases p <;> trivial
  ladders hK _ _ h _ := h.change (q := .ladders) hK rfl fun p hp => by cases p <;> trivial
  faultLog hK _ _ h := h.change (q := .faultLog) hK rfl fun p hp => by cases p <;> trivial
  shutdown hK _ _ h := h.change (q := .shutdown) hK rfl fun p hp => by cases p <;> trivial
  fab hK _ _ h _ := h.change (q := .fab) hK rfl fun p hp => by cases p <;> trivial
  clk hK _ _ h := h.change (q := .clk) hK rfl fun p hp => by cases p <;> trivial
  integ hK _ _ h _ := h.change (q := .integ) hK rfl fun p hp => by cases p <;> trivial
  mons hK _ _ h _ := h.change (q := .mons) hK rfl fun p hp => by cases p <;> trivial
  monAt hK _ _ h := h.change (q := .monAt) hK rfl fun p hp => by cases p <;> trivial
  therm hK _ _ h _ := h.change (q := .therm) hK rfl fun p hp => by cases p <;> trivial
  perf hK _ _ h _ := h.change (q := .perf) hK rfl fun p hp => by cases p <;> trivial
  life hK _ _ h := h.change (q := .life) hK rfl fun p hp => by cases p <;> trivial
  dma hK _ _ h _ := h.change (q := .dma) hK rfl fun p hp => by cases p <;> trivial
  pcie hK _ _ h _ := h.change (q := .pcie) hK rfl fun p hp => by cases p <;> trivial
  smp hK _ _ h := h.change (q := .smp) hK rfl fun p hp => by cases p <;> trivial
  tow hK _ _ h _ := h.change (q := .tow) hK rfl fun p hp => by cases p <;> trivial
  flash hK _ _ h := h.change (q := .flash) hK rfl fun p hp => by cases p <;> trivial
  trans hK _ _ h := h.change (q := .trans) hK rfl fun p hp => by cases p <;> trivial
  dorm hK _ _ h := h.change (q := .dorm) hK rfl fun p hp => by cases p <;> trivial
  pins hK _ _ h := h.change (q := .pins) hK rfl fun p hp => by cases p <;> trivial
  supply hK _ _ h := h.change (q := .supply) hK rfl fun p hp => by cases p <;> trivial
  clock hK _ _ h := h.change (q := .clock) hK rfl fun p hp => by cases p <;> trivial
  tb hK _ _ h := h.change (q := .tb) hK rfl fun p hp => by cases p <;> trivial
  latch hK _ _ h _ := h.change (q := .latch) hK rfl fun p hp => by cases p <;> trivial
  msixDue hK _ _ h := h.change (q := .msixDue) hK rfl fun p hp => by cases p <;> trivial
  mem hK _ _ h _ := h.change (q := .mem) hK rfl fun p hp => by cases p <;> trivial
  free hK _ _ h := h.change (q := .free) hK rfl fun p hp => by cases p <;> trivial
  out hK _ _ h := h.change (q := .out) hK rfl fun p hp => by cases p <;> trivial

/-- A command that completes changes the parts listed for it at most, and never the queue. -/
theorem exec_within {c : Instr} {s t : State} (e : exec c s = .next t) : s.Within c.mask t := exec_closed (within_closed c.mask s) e (State.Within.refl s _)

/-- Settles O60: a well-formed command settles, within its parts; one that is not is malformed. -/
theorem commandsCompleteAndChangeOnlyTheirParts : Obligations.CommandsCompleteAndChangeOnlyTheirParts := by
  unfold Obligations.CommandsCompleteAndChangeOnlyTheirParts
  intro c s
  obtain ⟨u, hu⟩ := exec_settles c s
  constructor
  · intro hw
    have e : exec c s = .next (settle u) := by
      rw [hu, hw]
      rfl
    obtain ⟨hpending, hparts⟩ := exec_within e
    exact ⟨settle u, e, hpending, fun p hp => hparts p fun hs => hp (mem_mayChange hs)⟩
  · intro hw
    rw [hu, hw]
    rfl

/-! ## The front of the queue, and the state after reset -/

/-- Settles O55. -/
theorem stepRunsTheFrontCommand : Obligations.StepRunsTheFrontCommand := by
  unfold Obligations.StepRunsTheFrontCommand
  intro c rest s
  rfl

/-- Settles O57: the tables are empty but for the two registers of the power domains. -/
theorem resetMeetsTheInvariants : Obligations.ResetMeetsTheInvariants := by
  unfold Obligations.ResetMeetsTheInvariants
  have canonical : State.reset.Canonical := by constructor <;> decide
  have zero (k : Core) (r : Fin 16) : State.reset.reg k r = 0#32 := by
    unfold State.reg State.g
    split <;> rfl
  exact ⟨canonical, by decide, rfl, rfl, by decide, by decide, by decide, rfl, by decide, by decide, by decide, by decide, rfl, zero⟩

end Sys2Proof.Machine
end

section
/-! SUPPORT. Claims of shared resources (R34), with the laws of their release above. -/

namespace Sys2Proof.Machine

/-! ## A claim register taken -/

/-- A claim register with a use, its holder and the holder's SEC bit. -/
def State.claimTaken (s : State) (m : Master) (res use : Nat) : State :=
  ((s.setFld ⟨claimReg res, 0, 2⟩ use).setFld ⟨claimReg res, 4, 4⟩ m.holder).put ⟨claimReg res, 9, 1⟩ m.secBit

section
variable (s : State) (m : Master) (res use : Nat)

theorem State.claimTaken_rd_ne {b : Nat} (h : b ≠ claimReg res) : (s.claimTaken m res use).rd b = s.rd b := by
  unfold State.claimTaken
  rw [State.put_rd_ne _ _ _ h, State.setFld_rd_ne _ _ _ h, State.setFld_rd_ne _ _ _ h]

theorem State.claimTaken_use (h : use < 4) : (s.claimTaken m res use).claimUse res = use := by
  unfold State.claimTaken State.claimUse
  rw [State.put_fld_apart _ _ _ _ (by simp) (.inr (by simp)), State.setFld_fld_apart _ _ _ _ (by simp) (.inr (by simp)), State.setFld_fld_same _ _ _ (by simp)]
  exact Nat.mod_eq_of_lt h

theorem State.claimTaken_holder : (s.claimTaken m res use).fld ⟨claimReg res, 4, 4⟩ = m.holder := by
  unfold State.claimTaken
  rw [State.put_fld_apart _ _ _ _ (by simp) (.inr (by simp)), State.setFld_fld_same _ _ _ (by simp)]
  exact Nat.mod_eq_of_lt (Master.holder_lt m)

theorem State.claimTaken_sec : (s.claimTaken m res use).is ⟨claimReg res, 9, 1⟩ = m.secBit := State.put_is_same _ _ _ (by simp) rfl

theorem State.claimTaken_refused : (s.claimTaken m res use).is ⟨claimReg res, 8, 1⟩ = s.is ⟨claimReg res, 8, 1⟩ := by
  unfold State.claimTaken
  rw [State.put_is_apart _ _ _ _ (by simp) (.inr (by simp)), State.setFld_is_apart _ _ _ _ (by simp) (.inr (by simp)),
    State.setFld_is_apart _ _ _ _ (by simp) (.inr (by simp))]

end

/-- The register of a refused claim: REFUSED set, its other bits as they stand. -/
theorem State.claimRefuse_rd (s : State) (m : Master) (res : Fin 6) :
    (s.claimRefuse m res).1.rd (claimReg res) = setBits (s.rd (claimReg res)) 8 1 1 := by
  unfold State.claimRefuse
  rw [State.configError_rd_ne _ _ _ (claimReg_ne_claimErr res) (claimReg_ne_event res)]
  exact State.wr_rd_same _ _ _

theorem State.configError_event (s : State) (res master : Nat) : (s.configError res master).is F.MODE_EVENT_CONFIG_ERR = true :=
  State.put_is_same _ _ _ (by decide) rfl

/-! ## The two outcomes of a claim -/

theorem State.claimWrite_taken {s : State} {m : Master} {res use : Nat} (free : s.claimUse res = 0) (h0 : 1 ≤ use) (h3 : use < 3) (h2 : 2 ≤ res → use = 1) :
    s.claimWrite m res use = (s.claimTaken m res use, .ok) := by
  have hno : ¬ (2 ≤ res ∧ use = 2) := fun ⟨hr, hu⟩ => by have := h2 hr; omega
  simp [State.claimWrite, State.claimTaken, free, show use ≠ 0 by omega, show ¬ 3 ≤ use by omega, hno]

theorem State.claimWrite_refused {s : State} {m : Master} {res use : Nat} (h0 : 1 ≤ use) (h : s.claimUse res ≠ 0 ∨ use = 3 ∨ 2 ≤ res ∧ use = 2) :
    s.claimWrite m res use = s.claimRefuse m res := by
  have hr : (s.claimUse res != 0 || decide (3 ≤ use) || decide (2 ≤ res) && use == 2) = true := by
    rcases h with h | h | ⟨hr, hu⟩ <;> simp [*]
  simp [State.claimWrite, show use ≠ 0 by omega, hr]

/-- A free resource claimed for a use it has. -/
theorem claim_taken (m : Master) (res : Fin 6) (use : Fin 4) (s : State) (h : s.Reached m (claimReg res)) (free : s.claimUse res = 0) (h0 : 1 ≤ use.val)
    (h3 : use.val < 3) (h2 : 2 ≤ res.val → use.val = 1) :
    Completes (.claim m res use) s fun t => s.Answered m 0 t ∧ t.claimUse res = use ∧ t.fld ⟨claimReg res, 4, 4⟩ = m.holder ∧ t.is ⟨claimReg res, 9, 1⟩ = m.secBit ∧
      t.is ⟨claimReg res, 8, 1⟩ = s.is ⟨claimReg res, 8, 1⟩ ∧ s.Only [claimReg res] t := by
  have e : s.claimWrite m res use = (s.claimTaken m res use, .ok) := State.claimWrite_taken free h0 h3 h2
  refine via_completes (f := fun s => s.claimWrite m res use) rfl h fun t ht hout => ?_
  rw [e] at ht hout
  refine ⟨?_, ?_, ?_, ?_, ?_, fun b hb => ?_⟩
  · rw [State.Answered, hout]
    simp [State.claimTaken, Resp.code]
  · exact (ht.fld _).trans (State.claimTaken_use s m res use (by omega))
  · exact (ht.fld _).trans (State.claimTaken_holder s m res use)
  · exact (ht.is _).trans (State.claimTaken_sec s m res use)
  · exact (ht.is _).trans (State.claimTaken_refused s m res use)
  · rw [ht.rd, State.claimTaken_rd_ne _ _ _ _ (List.ne_of_not_mem_cons hb)]

/-- A held resource, or a use that the resource has not. -/
theorem claim_refused (m : Master) (res : Fin 6) (use : Fin 4) (s : State) (h : s.Reached m (claimReg res)) (h0 : 1 ≤ use.val)
    (bad : s.claimUse res ≠ 0 ∨ use.val = 3 ∨ 2 ≤ res.val ∧ use.val = 2) :
    Completes (.claim m res use) s fun t => s.Answered m 1 t ∧ t.rd (claimReg res) = setBits (s.rd (claimReg res)) 8 1 1 ∧
      t.fld F.MODE_CLAIM_ERR_RESOURCE = claimCode res ∧ t.fld F.MODE_CLAIM_ERR_MASTER = m.holder ∧
      t.fld F.MODE_CLAIM_ERR_COUNT = min (s.fld F.MODE_CLAIM_ERR_COUNT + 1) 65535 ∧ t.is F.MODE_EVENT_CONFIG_ERR = true ∧
      s.Only [claimReg res, R.MODE_CLAIM_ERR, R.MODE_EVENT] t := by
  have e : s.claimWrite m res use = s.claimRefuse m res := State.claimWrite_refused h0 bad
  refine via_completes (f := fun s => s.claimWrite m res use) rfl h fun t ht hout => ?_
  rw [e] at ht hout
  refine ⟨?_, ?_, ?_, ?_, ?_, ?_, fun b hb => ?_⟩
  · rw [State.Answered, hout, State.claimRefuse_out]
    rfl
  · exact (ht.rd _).trans (State.claimRefuse_rd s m res)
  · exact (ht.fld _).trans (State.configError_resource _ _ _ (claimCode_lt res))
  · exact (ht.fld _).trans (State.configError_master _ _ _ (Master.holder_lt m))
  · exact (ht.fld _).trans (State.claimRefuse_count s m res)
  · exact (ht.is _).trans (State.configError_event _ _ _)
  · exact (ht.rd b).trans (State.claimRefuse_only s m res b hb)

/-- Settles O4, by the two outcomes of a claim. -/
theorem sharedResourcesClaimed : Obligations.SharedResourcesClaimed := ⟨claim_taken, claim_refused⟩

end Sys2Proof.Machine
end

section
/-! SUPPORT. Mode requests that are refused, met, or wait (R12 to R14, R18): what MODE.REQ decides, and the three outcomes. -/

namespace Sys2Proof.Machine

theorem State.Apart.trans {s t : State} (h : s.Apart t) : t.trans = s.trans := by
  obtain ⟨p, o, d, rfl⟩ := h
  rfl

/-- The registers that an outcome leaves alone. -/
theorem State.outcome_onlyDev (s : State) (c r : Nat) : s.OnlyDev [R.MODE_RESULT, R.MODE_EVENT] (s.outcome c r) := by
  intro b hdev hb
  simp only [List.mem_cons, List.not_mem_nil, or_false, not_or] at hb
  exact State.outcome_rd_ne s c r hdev hb.1 hb.2

theorem State.outcome_fld_ne (s : State) (c r : Nat) (f : Fld) (h : f.addr < 0x04100000) (h1 : f.addr ≠ R.MODE_RESULT) (h2 : f.addr ≠ R.MODE_EVENT) :
    (s.outcome c r).fld f = s.fld f := State.fld_congr (State.outcome_rd_ne s c r h h1 h2)

theorem State.outcome_is_ne (s : State) (c r : Nat) (f : Fld) (h : f.addr < 0x04100000) (h1 : f.addr ≠ R.MODE_RESULT) (h2 : f.addr ≠ R.MODE_EVENT) :
    (s.outcome c r).is f = s.is f := State.is_congr (State.outcome_rd_ne s c r h h1 h2)

theorem State.outcome_code (s : State) (c r : Nat) (h : c < 16) : (s.outcome c r).fld F.MODE_RESULT_CODE = c := by
  rw [State.outcome_fld _ _ _ _ (by decide)]
  simp (disch := decide) only [State.put_fld_apart, State.incr_fld_apart, State.setFld_fld_apart, State.setFld_fld_same]
  exact Nat.mod_eq_of_lt h

theorem State.outcome_source (s : State) (c r : Nat) : (s.outcome c r).fld F.MODE_RESULT_SOURCE = r % 16 := by
  rw [State.outcome_fld _ _ _ _ (by decide)]
  simp (disch := decide) only [State.put_fld_apart, State.incr_fld_apart, State.setFld_fld_same]
  rfl

theorem State.outcome_source_holder (s : State) (c : Nat) (m : Master) : (s.outcome c m.holder).fld F.MODE_RESULT_SOURCE = m.holder := by
  rw [State.outcome_source, Nat.mod_eq_of_lt (Master.holder_lt m)]

theorem State.outcome_seq (s : State) (c r : Nat) :
    (s.outcome c r).fld F.MODE_RESULT_SEQ = (s.fld F.MODE_RESULT_SEQ + 1) % 2 ^ F.MODE_RESULT_SEQ.wd := by
  rw [State.outcome_fld _ _ _ _ (by decide)]
  simp (disch := decide) only [State.put_fld_apart, State.incr_fld_same, State.setFld_fld_apart]

theorem State.outcome_event (s : State) (c r : Nat) : (s.outcome c r).is F.MODE_EVENT_RESULT = true := by
  rw [State.outcome_is _ _ _ _ (by decide)]
  exact State.put_is_same _ _ _ (by decide) rfl

theorem State.outcome_trans (s : State) (c r : Nat) : (s.outcome c r).trans = s.trans :=
  (State.outcome_closed (within_closed 1 s) (Sub.refl 1) s c r (State.Within.refl s 1)).same .trans rfl

theorem State.outcome_superseded (s : State) (c r : Nat) : (s.outcome c r).fld F.MODE_SUPERSEDED_COUNT = s.fld F.MODE_SUPERSEDED_COUNT :=
  State.outcome_fld_ne s c r _ (by decide) (by decide) (by decide)

/-! ## The answers of MODE.REQ -/

/-- A waiting request superseded (R18): one outcome more, counted. -/
def State.superseded (s : State) : State := if s.is F.MODE_STATUS_WAITING then (s.outcome 5 s.trans.waitSrc).bump F.MODE_SUPERSEDED_COUNT 1 else s

/-- The waiting slot of MODE.STATUS with a request. -/
def State.slotWritten (s : State) (t : Nat) (fx rt : Bool) : State :=
  (((s.put F.MODE_STATUS_WAITING true).setFld F.MODE_STATUS_WAIT_TARGET t).put F.MODE_STATUS_WAIT_FIXLAT fx).put F.MODE_STATUS_WAIT_HOST_RATE rt

/-- The waiting slot taken by a request, with its source. -/
def State.slotTaken (s : State) (t : Nat) (fx rt : Bool) (src : Nat) : State :=
  { s.slotWritten t fx rt with trans := { (s.slotWritten t fx rt).trans with waitSrc := src } }

theorem State.superseded_rd_ne (s : State) {b : Nat} (hdev : b < 0x04100000) (h1 : b ≠ R.MODE_RESULT) (h2 : b ≠ R.MODE_EVENT) (h3 : b ≠ R.MODE_SUPERSEDED) :
    s.superseded.rd b = s.rd b := by
  unfold State.superseded
  split
  · rw [State.bump_rd_ne _ _ _ h3, State.outcome_rd_ne _ _ _ hdev h1 h2]
  · rfl

theorem State.superseded_seq (s : State) :
    s.superseded.fld F.MODE_RESULT_SEQ = (s.fld F.MODE_RESULT_SEQ + (if s.is F.MODE_STATUS_WAITING then 1 else 0)) % 2 ^ F.MODE_RESULT_SEQ.wd := by
  unfold State.superseded
  split
  · rw [State.bump_fld_apart _ _ _ _ (by decide) (by decide), State.outcome_seq]
  · exact (Nat.mod_eq_of_lt (bitsOf_lt _ _ _)).symm

theorem State.superseded_count (s : State) : s.superseded.fld F.MODE_SUPERSEDED_COUNT =
    if s.is F.MODE_STATUS_WAITING then min (s.fld F.MODE_SUPERSEDED_COUNT + 1) 65535 else s.fld F.MODE_SUPERSEDED_COUNT := by
  unfold State.superseded
  split
  · rw [State.bump_fld_same _ _ _ (by decide), State.outcome_superseded]
    rfl
  · rfl

theorem State.superseded_out (s : State) : s.superseded.out = s.out := by
  unfold State.superseded
  split
  · exact State.outcome_out ..
  · rfl

section
variable (s : State) (t src : Nat) (fx rt : Bool)

theorem State.slotTaken_rd (b : Nat) : (s.slotTaken t fx rt src).rd b = (s.slotWritten t fx rt).rd b := by
  unfold State.slotTaken
  generalize s.slotWritten t fx rt = u
  rfl

theorem State.slotTaken_out : (s.slotTaken t fx rt src).out = s.out := by
  have hw : (s.slotWritten t fx rt).out = s.out := by simp only [State.slotWritten, State.put_out, State.setFld_out]
  unfold State.slotTaken
  rw [← hw]

theorem State.slotTaken_rd_ne {b : Nat} (h : b ≠ R.MODE_STATUS) : (s.slotTaken t fx rt src).rd b = s.rd b := by
  rw [State.slotTaken_rd]
  exact (State.put_rd_ne _ _ _ h).trans ((State.put_rd_ne _ _ _ h).trans ((State.setFld_rd_ne _ _ _ h).trans (State.put_rd_ne _ _ _ h)))

theorem State.slotTaken_fld (f : Fld) : (s.slotTaken t fx rt src).fld f = (s.slotWritten t fx rt).fld f := State.fld_congr (State.slotTaken_rd ..)

theorem State.slotTaken_is (f : Fld) : (s.slotTaken t fx rt src).is f = (s.slotWritten t fx rt).is f := State.is_congr (State.slotTaken_rd ..)

theorem State.slotTaken_waiting : (s.slotTaken t fx rt src).is F.MODE_STATUS_WAITING = true := by
  rw [State.slotTaken_is, State.slotWritten]
  simp (disch := decide) only [State.put_is_apart, State.setFld_is_apart, State.put_is_same]

theorem State.slotTaken_target : (s.slotTaken t fx rt src).fld F.MODE_STATUS_WAIT_TARGET = t % 8 := by
  rw [State.slotTaken_fld, State.slotWritten]
  simp (disch := decide) only [State.put_fld_apart, State.setFld_fld_same]
  rfl

theorem State.slotTaken_fixlat : (s.slotTaken t fx rt src).is F.MODE_STATUS_WAIT_FIXLAT = fx := by
  rw [State.slotTaken_is, State.slotWritten]
  simp (disch := decide) only [State.put_is_apart, State.put_is_same]

theorem State.slotTaken_rate : (s.slotTaken t fx rt src).is F.MODE_STATUS_WAIT_HOST_RATE = rt := by
  rw [State.slotTaken_is, State.slotWritten]
  exact State.put_is_same _ _ _ (by decide) rfl

theorem State.slotTaken_current : (s.slotTaken t fx rt src).fld F.MODE_STATUS_CURRENT = s.fld F.MODE_STATUS_CURRENT := by
  rw [State.slotTaken_fld, State.slotWritten]
  simp (disch := decide) only [State.put_fld_apart, State.setFld_fld_apart]

theorem State.slotTaken_busy : (s.slotTaken t fx rt src).is F.MODE_STATUS_BUSY = s.is F.MODE_STATUS_BUSY := by
  rw [State.slotTaken_is, State.slotWritten]
  simp (disch := decide) only [State.put_is_apart, State.setFld_is_apart]

end

/-! ## What MODE.REQ decides -/

section
variable {s : State} {m : Master} {v : Word}

theorem State.request_refused {c : Nat} (h : s.requestRefusal m (bitsOf v.toNat 0 3) (bitAt v.toNat 3) (bitAt v.toNat 4) = some c) :
    s.request m v = (s.outcome c m.holder, .err (if c = 13 then 2 else 1)) := by
  unfold State.request
  simp only [h]

/-- MODE.REQ with the bits that it has. -/
def State.reqStored (s : State) (v : Word) : State := s.wr R.MODE_REQ (BitVec.ofNat 32 (v.toNat % 32))

theorem State.request_met (h : s.requestRefusal m (bitsOf v.toNat 0 3) (bitAt v.toNat 3) (bitAt v.toNat 4) = none) (hi : (s.reqStored v).inTransit = false)
    (hm : (s.reqStored v).sameMode (bitsOf v.toNat 0 3) (bitAt v.toNat 3) (bitAt v.toNat 4) = true) :
    s.request m v = ((s.reqStored v).outcome 2 m.holder, .ok) := by
  unfold State.reqStored at *
  unfold State.request
  simp only [h, hi, hm]
  rfl

theorem State.request_waits (h : s.requestRefusal m (bitsOf v.toNat 0 3) (bitAt v.toNat 3) (bitAt v.toNat 4) = none) (hi : (s.reqStored v).inTransit = true) :
    s.request m v = (((s.reqStored v).superseded.slotTaken (bitsOf v.toNat 0 3) (bitAt v.toNat 3) (bitAt v.toNat 4) m.holder).outcome 1 m.holder, .ok) := by
  unfold State.reqStored State.slotTaken State.slotWritten State.superseded at *
  unfold State.request
  simp only [h, hi, if_true]

theorem State.reqStored_rd_ne {b : Nat} (h : b ≠ R.MODE_REQ) : (s.reqStored v).rd b = s.rd b := State.wr_rd_ne _ _ h

theorem State.reqStored_fld (f : Fld) (h : f.addr ≠ R.MODE_REQ) : (s.reqStored v).fld f = s.fld f := State.fld_congr (State.reqStored_rd_ne h)

theorem State.reqStored_is (f : Fld) (h : f.addr ≠ R.MODE_REQ) : (s.reqStored v).is f = s.is f := State.is_congr (State.reqStored_rd_ne h)

theorem State.reqStored_inTransit : (s.reqStored v).inTransit = s.inTransit := by
  unfold State.inTransit
  rw [State.reqStored_is _ (by decide)]
  rfl

theorem State.reqStored_sameMode (t : Nat) (fx rt : Bool) : (s.reqStored v).sameMode t fx rt = s.sameMode t fx rt := by
  have hm : (s.reqStored v).mode = s.mode := State.reqStored_fld _ (by decide)
  unfold State.sameMode
  simp (disch := decide) only [hm, State.reqStored_is, State.reqStored_fld]

end

/-- A request that R462 refuses. -/
theorem modeRequest_refused (m : Master) (v : Word) (s : State) (c : Nat) (h : s.Reached m R.MODE_REQ)
    (hc : s.requestRefusal m (bitsOf v.toNat 0 3) (bitAt v.toNat 3) (bitAt v.toNat 4) = some c) :
    Completes (.modeRequest m v) s fun t => s.Answered m (if c = 13 then 2 else 1) t ∧ t.fld F.MODE_RESULT_CODE = c ∧ t.fld F.MODE_RESULT_SOURCE = m.holder ∧
      t.fld F.MODE_RESULT_SEQ = (s.fld F.MODE_RESULT_SEQ + 1) % 2 ^ F.MODE_RESULT_SEQ.wd ∧ t.is F.MODE_EVENT_RESULT = true ∧
      s.OnlyDev [R.MODE_RESULT, R.MODE_EVENT] t := by
  refine via_completes (f := fun s => s.request m v) rfl h fun t ht hout => ?_
  rw [State.request_refused hc] at ht hout
  refine ⟨?_, ?_, ?_, ?_, ?_, fun b hdev hb => ?_⟩
  · rw [State.Answered, hout, State.outcome_out]
    rfl
  · exact (ht.fld _).trans (State.outcome_code s c _ (State.requestRefusal_lt hc))
  · exact (ht.fld _).trans (State.outcome_source_holder s c m)
  · exact (ht.fld _).trans (State.outcome_seq s c _)
  · exact (ht.is _).trans (State.outcome_event s c _)
  · exact (ht.rd b).trans (State.outcome_onlyDev s c _ b hdev hb)

/-- A request for the state in force. -/
theorem modeRequest_met (m : Master) (v : Word) (s : State) (h : s.Reached m R.MODE_REQ)
    (hc : s.requestRefusal m (bitsOf v.toNat 0 3) (bitAt v.toNat 3) (bitAt v.toNat 4) = none) (hi : s.inTransit = false)
    (hm : s.sameMode (bitsOf v.toNat 0 3) (bitAt v.toNat 3) (bitAt v.toNat 4) = true) :
    Completes (.modeRequest m v) s fun t => s.Answered m 0 t ∧ t.rd R.MODE_REQ = BitVec.ofNat 32 (v.toNat % 32) ∧ t.fld F.MODE_RESULT_CODE = 2 ∧
      t.fld F.MODE_RESULT_SOURCE = m.holder ∧ t.fld F.MODE_RESULT_SEQ = (s.fld F.MODE_RESULT_SEQ + 1) % 2 ^ F.MODE_RESULT_SEQ.wd ∧
      t.is F.MODE_EVENT_RESULT = true ∧ s.OnlyDev [R.MODE_REQ, R.MODE_RESULT, R.MODE_EVENT] t := by
  refine via_completes (f := fun s => s.request m v) rfl h fun t ht hout => ?_
  rw [State.request_met hc (State.reqStored_inTransit.trans hi) ((State.reqStored_sameMode _ _ _).trans hm)] at ht hout
  refine ⟨?_, ?_, ?_, ?_, ?_, ?_, fun b hdev hb => ?_⟩
  · rw [State.Answered, hout, State.outcome_out]
    rfl
  · rw [ht.rd, State.outcome_rd_ne _ _ _ (by decide) (by decide) (by decide)]
    exact State.wr_rd_same ..
  · exact (ht.fld _).trans (State.outcome_code _ _ _ (by decide))
  · exact (ht.fld _).trans (State.outcome_source_holder _ _ m)
  · rw [ht.fld, State.outcome_seq, State.reqStored_fld _ (by decide)]
  · exact (ht.is _).trans (State.outcome_event _ _ _)
  · simp only [List.mem_cons, List.not_mem_nil, or_false, not_or] at hb
    obtain ⟨hreq, hres, hev⟩ := hb
    rw [ht.rd, State.outcome_rd_ne _ _ _ hdev hres hev, State.reqStored_rd_ne hreq]

/-- A request during a transition, or on the way out of Dormant. -/
theorem modeRequest_waits (m : Master) (v : Word) (s : State) (h : s.Reached m R.MODE_REQ)
    (hc : s.requestRefusal m (bitsOf v.toNat 0 3) (bitAt v.toNat 3) (bitAt v.toNat 4) = none) (hi : s.inTransit = true) :
    Completes (.modeRequest m v) s fun t => s.Answered m 0 t ∧ t.rd R.MODE_REQ = BitVec.ofNat 32 (v.toNat % 32) ∧ t.is F.MODE_STATUS_WAITING = true ∧
      t.fld F.MODE_STATUS_WAIT_TARGET = bitsOf v.toNat 0 3 ∧ t.is F.MODE_STATUS_WAIT_FIXLAT = bitAt v.toNat 3 ∧
      t.is F.MODE_STATUS_WAIT_HOST_RATE = bitAt v.toNat 4 ∧ t.fld F.MODE_STATUS_CURRENT = s.fld F.MODE_STATUS_CURRENT ∧
      t.is F.MODE_STATUS_BUSY = s.is F.MODE_STATUS_BUSY ∧ t.fld F.MODE_RESULT_CODE = 1 ∧ t.fld F.MODE_RESULT_SOURCE = m.holder ∧ t.trans.waitSrc = m.holder ∧
      t.fld F.MODE_RESULT_SEQ = (s.fld F.MODE_RESULT_SEQ + (if s.is F.MODE_STATUS_WAITING then 2 else 1)) % 2 ^ F.MODE_RESULT_SEQ.wd ∧
      t.fld F.MODE_SUPERSEDED_COUNT = (if s.is F.MODE_STATUS_WAITING then min (s.fld F.MODE_SUPERSEDED_COUNT + 1) 65535 else s.fld F.MODE_SUPERSEDED_COUNT) ∧
      s.OnlyDev [R.MODE_REQ, R.MODE_STATUS, R.MODE_RESULT, R.MODE_SUPERSEDED, R.MODE_EVENT] t := by
  refine via_completes (f := fun s => s.request m v) rfl h fun t ht hout => ?_
  rw [State.request_waits hc (State.reqStored_inTransit.trans hi)] at ht hout
  have hw : (s.reqStored v).is F.MODE_STATUS_WAITING = s.is F.MODE_STATUS_WAITING := State.reqStored_is _ (by decide)
  have hstatus (f : Fld) (hf : f.addr = R.MODE_STATUS) : t.fld f =
      ((s.reqStored v).superseded.slotTaken (bitsOf v.toNat 0 3) (bitAt v.toNat 3) (bitAt v.toNat 4) m.holder).fld f := by
    rw [ht.fld, State.outcome_fld_ne _ _ _ _ (hf ▸ by decide) (hf ▸ by decide) (hf ▸ by decide)]
  have hbit (f : Fld) (hf : f.addr = R.MODE_STATUS) : t.is f =
      ((s.reqStored v).superseded.slotTaken (bitsOf v.toNat 0 3) (bitAt v.toNat 3) (bitAt v.toNat 4) m.holder).is f := by
    unfold State.is
    rw [hstatus f hf]
  have hkept {b : Nat} (hdev : b < 0x04100000) (h1 : b ≠ R.MODE_REQ) (h2 : b ≠ R.MODE_RESULT) (h3 : b ≠ R.MODE_EVENT) (h4 : b ≠ R.MODE_SUPERSEDED) :
      (s.reqStored v).superseded.rd b = s.rd b := by
    rw [State.superseded_rd_ne _ hdev h2 h3 h4, State.reqStored_rd_ne h1]
  have hcur : (s.reqStored v).superseded.rd R.MODE_STATUS = s.rd R.MODE_STATUS := hkept (by decide) (by decide) (by decide) (by decide) (by decide)
  refine ⟨?_, ?_, ?_, ?_, ?_, ?_, ?_, ?_, ?_, ?_, ?_, ?_, ?_, fun b hdev hb => ?_⟩
  · rw [State.Answered, hout, State.outcome_out]
    exact congrArg _ ((State.slotTaken_out ..).trans (State.superseded_out _))
  · rw [ht.rd, State.outcome_rd_ne _ _ _ (by decide) (by decide) (by decide), State.slotTaken_rd_ne _ _ _ _ _ (by decide),
      State.superseded_rd_ne _ (by decide) (by decide) (by decide) (by decide)]
    exact State.wr_rd_same ..
  · rw [hbit _ rfl, State.slotTaken_waiting]
  · rw [hstatus _ rfl, State.slotTaken_target]
    exact Nat.mod_eq_of_lt (bitsOf_lt _ _ _)
  · rw [hbit _ rfl, State.slotTaken_fixlat]
  · rw [hbit _ rfl, State.slotTaken_rate]
  · rw [hstatus _ rfl, State.slotTaken_current]
    exact State.fld_congr hcur
  · rw [hbit _ rfl, State.slotTaken_busy]
    exact State.is_congr hcur
  · exact (ht.fld _).trans (State.outcome_code _ _ _ (by decide))
  · exact (ht.fld _).trans (State.outcome_source_holder _ _ m)
  · rw [ht.trans, State.outcome_trans]
    rfl
  · rw [ht.fld, State.outcome_seq, State.fld_congr (State.slotTaken_rd_ne _ _ _ _ _ (by decide)), State.superseded_seq, hw, State.reqStored_fld _ (by decide),
      Nat.mod_add_mod]
    split <;> rfl
  · rw [ht.fld, State.outcome_superseded, State.fld_congr (State.slotTaken_rd_ne _ _ _ _ _ (by decide)), State.superseded_count, hw,
      State.reqStored_fld _ (by decide)]
  · simp only [List.mem_cons, List.not_mem_nil, or_false, not_or] at hb
    obtain ⟨hreq, hstat, hres, hsup, hev⟩ := hb
    rw [ht.rd, State.outcome_rd_ne _ _ _ hdev hres hev, State.slotTaken_rd_ne _ _ _ _ _ hstat, hkept hdev hreq hres hev hsup]

/-- Settles O1, by the three answers of MODE.REQ that start nothing. -/
theorem modeRequestAnswers : Obligations.ModeRequestAnswers := ⟨modeRequest_refused, modeRequest_met, modeRequest_waits⟩

end Sys2Proof.Machine
end

section
/-! SUPPORT. Claims that a state which the model evaluates contradicts, and the first of them: what leaves the machine beside an answer. -/

namespace Sys2Proof.Machine

/-- What a command leaves, tested. -/
def leaves (r : Host.Outcome State Fault Refusal) (q : State → Bool) : Bool :=
  match r with
  | .next t => q t
  | _ => false

/-- A completed command leaves the state that the evaluation of the model gives. -/
theorem leaves_next {c : Instr} {s t : State} {q : State → Bool} (e : exec c s = .next t) (h : leaves (exec c s) q = true) : q t = true := by
  rw [e] at h
  exact h

/-- The sequencer of host receive lane 0 waits with a CMT for its barge boundary. -/
def commitWaiting : State :=
  { State.reset with
    regs := [(R.PWR_DOM_STAT, 0x1C403#32), (R.LRX_SEQ_STAT 16, 1#32)], seqs := [(16, { Seq.init with cmt := some (2, false) })] }

/-- Transparent in force on a device whose lanes are all dark, with the CMT of `commitWaiting`. -/
def darkInTransparent : State := { commitWaiting with regs := (R.MODE_STATUS, 2#32) :: commitWaiting.regs }

/-- Diagnostic with the near-end loopback in force, line lane 0 powered and in DARK, and device fault class 3 (ROM_FAIL) active. -/
def nearEndNeverStarts : State :=
  { State.reset with
    regs := [(R.MODE_STATUS, 5#32), (R.PWR_DOM_STAT, 0x1C007#32), (R.FAULT_DEV_ACTIVE, 8#32), (R.LRX_STATUS 0, 16#32)],
    trans := { State.reset.trans with loop := 3 } }

/-- What the model evaluates in the three states of this file. -/
theorem commits_speak_run :
    leaves (exec (.oosSet .supS 16) commitWaiting) (fun t => t.out.length == 2) = true ∧
      leaves (exec (.modeRequest .supS 3#32) darkInTransparent) (fun t => t.out.length == 2) = true ∧
      leaves (exec (.nearEndLocked 0) nearEndNeverStarts) (fun t => t.fld (F.LRX_STATUS_ACQ_STATE 0) == 1) = true := by
  decide +kernel

/-- Refutes O3: OOS_SET of a lane whose CMT waits completes the CMT, and the peaking of the bank that it commits goes out beside the answer. -/
theorem not_lanesLeaveAndReturnToService : ¬ Obligations.LanesLeaveAndReturnToService := by
  unfold Obligations.LanesLeaveAndReturnToService
  intro h
  obtain ⟨set, -⟩ := h
  obtain ⟨t, e, hanswer, -⟩ := set .supS 16 commitWaiting (by decide)
  have hout : t.out.length = 1 := by rw [hanswer]; rfl
  have hrun : (t.out.length == 2) = true := leaves_next e (q := fun t => t.out.length == 2) commits_speak_run.1
  simp [hout] at hrun

/-- Refutes O2: a request for another data mode finds every LTX lane dark and resets the lanes at once; the CMT that waits completes, and its peaking goes out beside
the answer. -/
theorem not_transitionStartsAndCompletes : ¬ Obligations.TransitionStartsAndCompletes := by
  unfold Obligations.TransitionStartsAndCompletes
  intro h
  obtain ⟨-, start, -⟩ := h
  obtain ⟨t, e, hanswer, -⟩ := start .supS 3#32 darkInTransparent (by decide) (by decide) (by decide) (by decide) (by decide) (.inr (.inl (by decide)))
  have hout : t.out.length = 1 := by rw [hanswer]; rfl
  have hrun : (t.out.length == 2) = true := leaves_next e (q := fun t => t.out.length == 2) commits_speak_run.2.1
  simp [hout] at hrun

/-- Refutes O13: under device fault class 3 lanes never start, and the near-end lock takes no lane to LOCKED; the statement does not except it. -/
theorem not_waveformCapturesAndNearEnd : ¬ Obligations.WaveformCapturesAndNearEnd := by
  unfold Obligations.WaveformCapturesAndNearEnd
  intro h
  obtain ⟨-, -, -, -, -, nearEnd⟩ := h
  obtain ⟨t, e, hlocked, -⟩ :=
    nearEnd 0 nearEndNeverStarts (by decide) (by decide) (by decide) (by decide) (by decide) (by decide)
  have hrun : (t.fld (F.LRX_STATUS_ACQ_STATE 0) == 1) = true := leaves_next e (q := fun t => t.fld (F.LRX_STATUS_ACQ_STATE 0) == 1) commits_speak_run.2.2
  rw [show t.fld (F.LRX_STATUS_ACQ_STATE 0) = 6 from hlocked] at hrun
  exact absurd hrun (by decide)

end Sys2Proof.Machine
end

section
/-! SUPPORT. Claims that leave out what a command does beside its main effect: a state where it does it contradicts each. -/

namespace Sys2Proof.Machine

/-- DMA channel 0, halted, with a request whose data it discards, and the host's completion timeouts disabled. -/
def timeoutsDisabled : State :=
  { State.reset with dma := [(0, { DmaChan.init with reqs := [(false, 8)] })], pcie := { Pcie.init with set := { PcieSet.init with timeoutOff := true } } }

/-- Towpath port 0 switched on, its gate closed while nothing uses it, and under test with the pattern selection that is reserved. -/
def portGateClosed : State := { State.reset with regs := (R.CLK_GATE 1, 1#32) :: State.reset.regs ++ [(R.TOW_PORT_CTL 0, 2#32)] }

/-- What the model evaluates in the two states of this file. -/
theorem left_out_run :
    leaves (exec (.dmaCompletionTimeout 0) timeoutsDisabled) (fun t => (t.dmaChan 0).reqs == [(false, 8)]) = true ∧
      leaves (exec (.sofSend 0) portGateClosed) (fun t => t.is (F.CLK_GATE_OPEN 1)) = true := by
  decide +kernel

/-- Refutes O39: with completion timeouts disabled nothing times out, and the request stays outstanding; the statement takes it away. -/
theorem not_dmaChannelsRunTheirDescriptors : ¬ Obligations.DmaChannelsRunTheirDescriptors := by
  unfold Obligations.DmaChannelsRunTheirDescriptors
  intro h
  obtain ⟨-, -, -, -, -, -, -, -, -, -, -, -, -, -, -, -, -, -, -, expired, -⟩ := h
  obtain ⟨t, e, hreqs, -⟩ := expired 0 8 [] timeoutsDisabled (by decide) (by decide)
  have hrun : ((t.dmaChan 0).reqs == [(false, 8)]) = true := leaves_next e (q := fun t => (t.dmaChan 0).reqs == [(false, 8)]) left_out_run.1
  rw [show (t.dmaChan 0).reqs = [] from hreqs] at hrun
  exact absurd hrun (by decide)

/-- Refutes O41: a port under test with no pattern to send opens its gate, and the clause says that nothing changes. -/
theorem not_towpathPortsComeUpAndSleep : ¬ Obligations.TowpathPortsComeUpAndSleep := by
  unfold Obligations.TowpathPortsComeUpAndSleep
  intro h
  obtain ⟨-, -, nothing, -⟩ := h
  obtain ⟨t, e, hsame⟩ := nothing 0 portGateClosed (.inr (.inr (by decide))) (by decide)
  have hrun : t.is (F.CLK_GATE_OPEN 1) = true := leaves_next e (q := fun t => t.is (F.CLK_GATE_OPEN 1)) left_out_run.2
  rw [hsame] at hrun
  exact absurd hrun (by decide)

end Sys2Proof.Machine
end

section
/-! SUPPORT. Claims with a case too many: a register behind a port without its domain, a boot door with two masters, a counter at its end. -/

namespace Sys2Proof.Machine

/-- The PCIe endpoint on and awake with its gate running, the supervisor's domain off. -/
def supervisorOffBehindPcie : State := { State.reset with regs := [(R.CLK_GATE 7, 1#32), (R.PWR_DOM_STAT, 0x1C001#32)] }

/-- A transition to Transparent whose start waits for the root, with 255 faults counted in the ladder of host receive lane 0. -/
def rootAwaited : State :=
  { State.reset with regs := [(R.MODE_STATUS, 0xA0#32), (R.PWR_DOM_STAT, 0x1C003#32), (R.FAULT_LADDER 16, 0xFF0000#32)] }

/-- The device boots from what its host gives it. -/
def bootFromHost : State := { State.reset with pins := { State.reset.pins with bootSel := 1 } }

/-- What the model evaluates in the three states of this file. -/
theorem case_too_many_run :
    leaves (exec (.pcieRead 1 (BitVec.ofNat 32 ((if true then 0x2000 else 0) + 0x980)) 4) supervisorOffBehindPcie) (fun t => t.out.length == 2) = true ∧
      leaves (exec (.rootWaitExpiry) rootAwaited) (fun t => t.fld (F.FAULT_LADDER_FAULTS 16) == 0) = true ∧
      leaves (exec (.bootDoor (.tow true) 0#32) bootFromHost) (fun t => t.out == [.response (.tow true) 0 0]) = true := by
  decide +kernel

/-- Refutes O38: the semaphores stand in the supervisor's domain, and while that is off a read of their page is answered with an error. -/
theorem not_pcieReachesTheLocalMap : ¬ Obligations.PcieReachesTheLocalMap := by
  unfold Obligations.PcieReachesTheLocalMap
  intro h
  obtain ⟨-, -, -, -, -, page, -⟩ := h
  obtain ⟨t, e, hout, -⟩ := page true supervisorOffBehindPcie (by decide) (by decide) (by decide) (.inl rfl)
  have hrun : (t.out.length == 2) = true := leaves_next e (q := fun t => t.out.length == 2) case_too_many_run.1
  rw [hout] at hrun
  exact absurd hrun (by simp [supervisorOffBehindPcie, State.reset])

/-- Refutes O45: the counter of a lane's faults wraps, as every other statement of it says, and does not stay at 255. -/
theorem not_clocksAndGatesAreJudgedAndClosed : ¬ Obligations.ClocksAndGatesAreJudgedAndClosed := by
  unfold Obligations.ClocksAndGatesAreJudgedAndClosed
  intro h
  obtain ⟨-, -, -, -, -, -, -, -, -, -, -, -, -, -, -, -, -, -, -, -, -, -, -, -, -, -, -, counted, -⟩ := h
  obtain ⟨t, e, -, hfaults⟩ := counted 0 rootAwaited (by decide) (by decide) (by decide) (by decide) (by decide) (by decide) (by decide) (by decide)
  have hrun : (t.fld (F.FAULT_LADDER_FAULTS 16) == 0) = true := leaves_next e (q := fun t => t.fld (F.FAULT_LADDER_FAULTS 16) == 0) case_too_many_run.2.1
  rw [show t.fld (F.FAULT_LADDER_FAULTS 16) = 255 from hfaults] at hrun
  exact absurd hrun (by decide)

/-- Refutes O47: with BOOT_SEL = 1 the head of the device's ring gives images too, and the statement lets it be refused. -/
theorem not_bootSourcesDeliverImages : ¬ Obligations.BootSourcesDeliverImages := by
  unfold Obligations.BootSourcesDeliverImages
  intro h
  obtain ⟨-, -, refused, -⟩ := h
  obtain ⟨t, e, hanswer, -⟩ := refused (.tow true) 0#32 bootFromHost (by decide) (by decide)
  have hrun : (t.out == [.response (.tow true) 0 0]) = true :=
    leaves_next e (q := fun t => t.out == [.response (.tow true) 0 0]) case_too_many_run.2.2
  rw [show t.out = [.response (.tow true) 2 0] from hanswer] at hrun
  exact absurd hrun (by decide)

end Sys2Proof.Machine
end

section
/-! SUPPORT. Claims that leave out a power domain, or an enabled channel: a state without the domain, or with the channel, contradicts each. -/

namespace Sys2Proof.Machine

/-- A device in its wake, the supervisor's domain on, the always-on domain off. -/
def wakingWithoutAon : State :=
  { State.reset with regs := [(R.PWR_DOM_STAT, 0x1C002#32)], dorm := { State.reset.dorm with phase := .waking } }

/-- Monitor channel 0 enabled with a FIR of one tap, whose coefficient is word 0 of the pool. -/
def coefficientInUse : State :=
  { State.reset with regs := State.reset.regs ++ [(R.MON_CH_CFG 0, 1#32), (R.MON_CH_FIR 0, 1#32)] }

/-- What the model evaluates without the domain, and with the enabled channel. -/
theorem domains_left_out_run :
    leaves (exec (.smpAddressMatch) wakingWithoutAon) (fun t => t.is F.PWR_WAKE_CAUSE_SMP == false) = true ∧
      leaves (exec (.wakeNFall 200) wakingWithoutAon) (fun t => t.is F.PWR_WAKE_CAUSE_PIN == false) = true ∧
      leaves (exec (.pcieReset 0) supervisorOffBehindPcie) (fun t => t.is F.PCIE_EVENT_RESET) = true ∧
      leaves (exec (.monCoefWrite .hostNS 0 0#32) coefficientInUse) (fun t => !(t.rd R.MON_REFUSE == coefficientInUse.rd R.MON_REFUSE)) = true := by
  decide +kernel

/-- Refutes O40: the wake sources stand in the always-on domain, and without it an address match records no wake cause. -/
theorem not_serialPortTransfers : ¬ Obligations.SerialPortTransfers := by
  unfold Obligations.SerialPortTransfers
  intro h
  obtain ⟨-, -, -, -, -, -, -, -, -, -, -, -, -, -, -, -, -, -, -, -, -, -, -, -, -, -, -, -, -, -, -, -, -, -, -, -, -, -, -, -, -, -, -, -, -, -, -, -, -, -, -, -, -, -, -, -, -, -, -, -, -, -, -, -, -, -, -, -, -, -, -, -, -, -, -, -, -, -, -, -, -, -, -, -, -, -, -, -, -, -, -, -, -, -, -, waking, -⟩ := h
  obtain ⟨t, e, -, -, hcause, -⟩ := waking wakingWithoutAon (by decide) (by decide)
  have hrun : (t.is F.PWR_WAKE_CAUSE_SMP == false) = true := leaves_next e (q := fun t => t.is F.PWR_WAKE_CAUSE_SMP == false) domains_left_out_run.1
  rw [hcause] at hrun
  exact absurd hrun (by decide)

/-- Refutes O43: the wake sources stand in the always-on domain, and without it a fall of WAKE_N records no wake cause. -/
theorem not_wakeSourcesAndPowerDomains : ¬ Obligations.WakeSourcesAndPowerDomains := by
  unfold Obligations.WakeSourcesAndPowerDomains
  intro h
  obtain ⟨-, -, -, -, -, -, -, -, -, -, -, -, -, -, -, -, -, -, -, -, -, waking, -⟩ := h
  obtain ⟨t, e, hcause, -⟩ := waking 200 wakingWithoutAon (by decide) (by decide)
  have hrun : (t.is F.PWR_WAKE_CAUSE_PIN == false) = true := leaves_next e (q := fun t => t.is F.PWR_WAKE_CAUSE_PIN == false) domains_left_out_run.2.1
  rw [hcause] at hrun
  exact absurd hrun (by decide)

/-- Refutes O44: a PCIe reset reaches an endpoint that is on while the supervisor's domain is off, and the statement says that nothing changes. -/
theorem not_resetsLeaveTheirState : ¬ Obligations.ResetsLeaveTheirState := by
  unfold Obligations.ResetsLeaveTheirState
  intro h
  obtain ⟨-, -, -, -, -, -, -, -, -, -, -, nothing, -⟩ := h
  obtain ⟨t, e, hsame⟩ := nothing 0 supervisorOffBehindPcie (by decide) (by decide)
  have hrun : t.is F.PCIE_EVENT_RESET = true := leaves_next e (q := fun t => t.is F.PCIE_EVENT_RESET) domains_left_out_run.2.2.1
  rw [hsame] at hrun
  exact absurd hrun (by decide)

/-- Refutes O50: a write of a coefficient in use by a master that may not is recorded in MON.REFUSE, and the statement says that no register changes. -/
theorem not_monitorChannelsConvertAndAccumulate : ¬ Obligations.MonitorChannelsConvertAndAccumulate := by
  unfold Obligations.MonitorChannelsConvertAndAccumulate
  intro h
  obtain ⟨-, -, -, -, -, -, -, -, -, -, -, -, -, -, -, -, -, -, -, -, -, -, -, -, -, -, stranger, -⟩ := h
  obtain ⟨t, e, -, honly⟩ := stranger .hostNS 0 0#32 coefficientInUse (by decide) (by decide) (by decide) (by decide)
  have hrun : (t.rd R.MON_REFUSE == coefficientInUse.rd R.MON_REFUSE) = false := by
    simpa using leaves_next e (q := fun t => !(t.rd R.MON_REFUSE == coefficientInUse.rd R.MON_REFUSE)) domains_left_out_run.2.2.2
  rw [honly R.MON_REFUSE (by simp)] at hrun
  simp at hrun

end Sys2Proof.Machine
end

section
/-! SUPPORT. An aligned word of a core's own memory of which a self-test's save area covers the upper bytes alone: the word's first byte answers, the word does not. -/

namespace Sys2Proof.Machine

/-- The sequencer of line receive lane 1 running, with the address of the first word of its data memory in g2, of which a self-test's save area leaves out only the first
byte. -/
def wordHalfUnderTest : State :=
  { laneOneRunning with
    gpr := [(18, 0x4000#32)],
    integ := { Integ.init with test := some ⟨0, 0x0300C001⟩, flips := [(0x0300C000, poisonFlips true)] } }

/-- The same with a memory that has no flipped bits. -/
def soundHalfUnderTest : State := { wordHalfUnderTest with integ := { wordHalfUnderTest.integ with flips := [] } }

/-- What the model evaluates where a word is half under test. -/
theorem half_words_run :
    leaves (exec (.ldw (.ls 1) 5 2 0) wordHalfUnderTest) (fun t => t.rd (R.LRX_SEQ_TRAP 1) == 0x108#32) = true ∧
      leaves (exec (.stw (.ls 1) 5 2 0) soundHalfUnderTest) (fun t => t.pcOf (.ls 1) == 0#32) = true := by
  decide +kernel

/-- Refutes O31: the load of a poisoned word is denied where a byte of it lies in the save area, with LOAD_FAULT, and the statement asks for LOAD_ECC. -/
theorem not_loadsAndStoresThatFailTrap : ¬ Obligations.LoadsAndStoresThatFailTrap := by
  unfold Obligations.LoadsAndStoresThatFailTrap
  intro h
  obtain ⟨-, -, -, -, -, -, -, -, -, -, -, -, -, poisoned, -⟩ := h
  obtain ⟨t, e, hcause, -⟩ := poisoned 1 5 2 0 0x0300C000 wordHalfUnderTest (by decide) (by decide) (by decide) (by decide) (by decide)
  have hrun : (t.rd (R.LRX_SEQ_TRAP 1) == 0x108#32) = true := leaves_next e (q := fun t => t.rd (R.LRX_SEQ_TRAP 1) == 0x108#32) half_words_run.1
  rw [show t.rd (R.LRX_SEQ_TRAP 1) = 10#32 from hcause] at hrun
  exact absurd hrun (by decide)

/-- Refutes O32: the store into that word is denied and traps, and the statement lets it go on. -/
theorem not_storesWriteTheCoresOwnMemory : ¬ Obligations.StoresWriteTheCoresOwnMemory := by
  unfold Obligations.StoresWriteTheCoresOwnMemory
  intro h
  obtain ⟨word, -⟩ := h
  obtain ⟨t, e, -, hpc, -⟩ :=
    word (.ls 1) 5 2 0 0x0300C000 soundHalfUnderTest (by decide) (by decide) (by decide) ⟨by decide, by decide⟩ (by decide)
  have hrun : (t.pcOf (.ls 1) == 0#32) = true := leaves_next e (q := fun t => t.pcOf (.ls 1) == 0#32) half_words_run.2
  rw [hpc] at hrun
  exact absurd hrun (by decide)

end Sys2Proof.Machine
end

section
/-! SUPPORT. The same for the memories that other masters reach: the window of a sequencer's instructions, and shared SRAM behind a Towpath port. -/

namespace Sys2Proof.Machine

/-- Line receive lane 1 powered and stopped, the first word of its instruction memory in a self-test's save area but for its first byte. -/
def instructionHalfUnderTest : State :=
  { State.reset with regs := [(R.PWR_DOM_STAT, 0x1C00B#32)], integ := { Integ.init with test := some ⟨0, 0x03008001⟩ } }

/-- Device 0 of a ring, with memory filled, and the first word of shared SRAM in a self-test's save area but for its first byte. -/
def sharedHalfUnderTest : State :=
  { State.reset with
    regs := [(R.CLK_GATE 1, 1#32), (R.PWR_DOM_STAT, 0x1C003#32), (R.MEMX_STAT, 1#32), (R.TOW_ID, 0x40#32), (R.TOW_PORT_STAT 0, 1#32)],
    tow := { State.reset.tow with ports := [(0, { Port.init with sync := true })] },
    integ := { Integ.init with test := some ⟨0, 0x02000001⟩ } }

/-- A read of the first word of shared SRAM. -/
def firstWordRead : TowPkt := { typ := 1, dst := 0, src := 0, hops := 0, sec := false, tag := 0, len := 4, addr := 0x02000000, stat := 0, data := [] }

/-- The response that gives four bytes of zero. -/
def zeroWordRead : TowPkt := { typ := 3, dst := 0, src := 0, hops := 63, sec := false, tag := 0, len := 4, addr := 0, stat := 0, data := [0, 0, 0, 0] }

/-- What the model evaluates where a word of the window is half under test. -/
theorem half_windows_run :
    leaves (exec (.imemWrite .supS 1 0 1#32) instructionHalfUnderTest) (fun t => t.is (F.LRX_SEQ_STAT_IMEM_DIRTY 1) == false) = true ∧
      leaves (exec (.towRd 0 firstWordRead) sharedHalfUnderTest) (fun t => t.out != sharedHalfUnderTest.packetOut 0 zeroWordRead) = true := by
  decide +kernel

/-- Refutes O36: an instruction word of which the save area covers a part is not written, and the statement asks about its first byte alone. -/
theorem not_sequencersAreControlledAndLoaded : ¬ Obligations.SequencersAreControlledAndLoaded := by
  unfold Obligations.SequencersAreControlledAndLoaded
  intro h
  obtain ⟨-, -, -, -, -, -, -, -, -, -, -, -, -, -, -, -, -, -, -, stored, -⟩ := h
  obtain ⟨t, e, -, -, -, hdirty, -⟩ := stored .supS 1 0 1#32 instructionHalfUnderTest (by decide) (by decide) (by decide)
  have hrun : (t.is (F.LRX_SEQ_STAT_IMEM_DIRTY 1) == false) = true :=
    leaves_next e (q := fun t => t.is (F.LRX_SEQ_STAT_IMEM_DIRTY 1) == false) half_windows_run.1
  rw [show t.is (F.LRX_SEQ_STAT_IMEM_DIRTY 1) = true from hdirty] at hrun
  exact absurd hrun (by decide)

/-- Refutes O42: a word of which the save area covers a part is not read, and the response that the statement asks for gives its bytes. -/
theorem not_towpathPacketsAreRoutedAndAnswered : ¬ Obligations.TowpathPacketsAreRoutedAndAnswered := by
  unfold Obligations.TowpathPacketsAreRoutedAndAnswered
  intro h
  obtain ⟨answered, -⟩ := h
  obtain ⟨t, e, hout, -⟩ :=
    answered 0 firstWordRead zeroWordRead sharedHalfUnderTest (by decide) (by decide) (by decide) (by decide) (by decide) (by decide) (by decide)
      (by decide) ⟨by decide, by decide⟩ (by decide) (by decide)
  have hrun : (t.out != sharedHalfUnderTest.packetOut 0 zeroWordRead) = true :=
    leaves_next e (q := fun t => t.out != sharedHalfUnderTest.packetOut 0 zeroWordRead) half_windows_run.2
  rw [show t.out = sharedHalfUnderTest.packetOut 0 zeroWordRead from hout.trans (List.append_nil _)] at hrun
  simp at hrun

end Sys2Proof.Machine
end

section
/-! SUPPORT. Traps of both kinds of core, loads and stores that trap (R199 to R203, R216, R222 to R224). -/

namespace Sys2Proof.Machine

/-! ## The trap of a sequencer (R216) -/

/-! ## Fields that a number of a lane does not tell apart -/

theorem Fld.fits_of {f : Fld} (h : Nat.ble (f.lo + f.wd) 32 = true) : f.Fits := Nat.le_of_ble_eq_true h

/-- Two fields apart by their bits, whatever their registers. -/
theorem Fld.apart_of_bits {e f : Fld} (h : (Nat.ble (e.lo + e.wd) f.lo || Nat.ble (f.lo + f.wd) e.lo) = true) : e.Apart f := by
  rw [Bool.or_eq_true] at h
  exact .inr (h.imp Nat.le_of_ble_eq_true Nat.le_of_ble_eq_true)

/-- Two fields of one lane apart by their registers. -/
theorem Fld.apart_of_offsets {e f : Fld} {n a b : Nat} (he : e.addr = laneBase n + a) (hf : f.addr = laneBase n + b) (h : a ≠ b) : e.Apart f :=
  .inl (by omega)

section SeqTrap
variable (s : State) (n : Fin 48) (cause detail : Nat) (epc tval : Word)

/-- The record of a sequencer's trap, before its state becomes TRAPPED. -/
def State.trapRecorded : State :=
  let s := ((s.wr (R.LRX_SEQ_TRAP n) (BitVec.ofNat 32 (cause + 256 * detail))).wr (R.LRX_SEQ_TRAP_PC n) epc).wr (R.LRX_SEQ_TRAP_VAL n) tval
  (s.wr (R.LRX_SEQ_PC n) epc).setSeq n { s.seq n with wait := none, byReset := false }

theorem State.seqTrap_eq : s.seqTrap n cause detail epc tval =
    (((s.trapRecorded n cause detail epc tval).setFld (F.LRX_SEQ_STAT_STATE n) 3).put (F.LRX_SEQ_EVENT_TRAP n) true).put (F.LRX_SEQ_STAT_SAFE_PEND n) false := rfl

theorem State.trapRecorded_rd (b : Nat) : (s.trapRecorded n cause detail epc tval).rd b =
    if b = R.LRX_SEQ_PC n then epc else if b = R.LRX_SEQ_TRAP_VAL n then tval else if b = R.LRX_SEQ_TRAP_PC n then epc
    else if b = R.LRX_SEQ_TRAP n then BitVec.ofNat 32 (cause + 256 * detail) else s.rd b := by
  simp only [State.trapRecorded, State.setSeq_rd, State.wr_rd]

theorem State.seqTrap_rd {b : Nat} (h1 : b ≠ R.LRX_SEQ_STAT n) (h2 : b ≠ R.LRX_SEQ_EVENT n) :
    (s.seqTrap n cause detail epc tval).rd b = (s.trapRecorded n cause detail epc tval).rd b := by
  rw [State.seqTrap_eq, State.put_rd_ne _ _ _ h1, State.put_rd_ne _ _ _ h2, State.setFld_rd_ne _ _ _ h1]

/-- A sequencer's trap: its record, its state and event, and nothing beside. -/
theorem State.seqTrap_laneTrapped : s.LaneTrapped n cause detail epc tval (settle (s.seqTrap n cause detail epc tval)) := by
  refine ⟨?cause, ?pc, ?val, ?seqPc, ?state, ?event, ?gpr, ?flags, ?mem, ?out, fun b hb => ?others⟩
  case state =>
    rw [settle_fld, State.seqTrap_eq, State.put_fld_apart _ _ _ _ (Fld.fits_of rfl) (Fld.apart_of_bits rfl),
      State.put_fld_apart _ _ _ _ (Fld.fits_of rfl) (Fld.apart_of_offsets (n := n) rfl rfl (by decide)), State.setFld_fld_same _ _ _ (Fld.fits_of rfl)]
    rfl
  case event =>
    rw [settle_is, State.seqTrap_eq, State.put_is_apart _ _ _ _ (Fld.fits_of rfl) (Fld.apart_of_offsets (n := n) rfl rfl (by decide)),
      State.put_is_same _ _ _ (Fld.fits_of rfl) rfl]
  case gpr | mem | out => simp [State.seqTrap_eq, State.trapRecorded]
  case flags => simp [State.flags, State.seqTrap_eq, State.trapRecorded, State.seq, tabGet_put]
  case others =>
    simp only [List.mem_cons, List.not_mem_nil, or_false, not_or] at hb
    obtain ⟨h1, h2, h3, h4, h5, h6⟩ := hb
    rw [settle_rd, State.seqTrap_rd _ _ _ _ _ _ h5 h6, State.trapRecorded_rd, if_neg h4, if_neg h3, if_neg h2, if_neg h1]
  all_goals
    rw [settle_rd, State.seqTrap_rd _ _ _ _ _ _ (by simp [R.LRX_SEQ_TRAP, R.LRX_SEQ_STAT, R.LRX_SEQ_TRAP_PC, R.LRX_SEQ_TRAP_VAL, R.LRX_SEQ_PC]) (by simp [R.LRX_SEQ_TRAP, R.LRX_SEQ_EVENT, R.LRX_SEQ_TRAP_PC, R.LRX_SEQ_TRAP_VAL, R.LRX_SEQ_PC]), State.trapRecorded_rd]
    simp [R.LRX_SEQ_TRAP, R.LRX_SEQ_TRAP_PC, R.LRX_SEQ_TRAP_VAL, R.LRX_SEQ_PC]

end SeqTrap

/-- A trap of a core whose target has none in progress. -/
theorem State.trap_trapped {s : State} {k : Core} {cause : Nat} (h : s.mayTrap k cause = true) (detail : Nat) (epc tval : Word) :
    s.Trapped k cause detail epc tval (settle (s.trap k cause detail epc tval)) := by
  cases k with
  | ls n => exact State.seqTrap_laneTrapped ..
  | sup =>
    rw [State.trap, State.supTrap_eq_enterTrap h]
    exact State.enterTrap_supTrapped ..

end Sys2Proof.Machine
end
section
/-! SUPPORT. What a sequencer's own instructions and events write, one law for each, and the statement about event lines and notices. -/

namespace Sys2Proof.Machine

/-! ## What a counted event leaves alone -/

section Tally
variable (s : State) (e : Event)

theorem State.tally_part {α : Type} (f : State → α) (hf : ∀ (t : State) p, f { t with perf := { t.perf with part := p } } = f t) : f (s.tally e) = f s := by
  obtain ⟨p, h⟩ := State.tally_butCount s e
  rw [h, hf]

@[simp] theorem State.tally_seqs : (s.tally e).seqs = s.seqs := State.tally_part s e (·.seqs) fun _ _ => rfl
@[simp] theorem State.tally_gpr : (s.tally e).gpr = s.gpr := State.tally_part s e (·.gpr) fun _ _ => rfl
@[simp] theorem State.tally_chans : (s.tally e).chans = s.chans := State.tally_part s e (·.chans) fun _ _ => rfl
@[simp] theorem State.tally_lanes : (s.tally e).lanes = s.lanes := State.tally_part s e (·.lanes) fun _ _ => rfl
@[simp] theorem State.tally_regs : (s.tally e).regs = s.regs := State.tally_part s e (·.regs) fun _ _ => rfl
@[simp] theorem State.tally_reg (k : Core) (r : Nat) : (s.tally e).reg k r = s.reg k r := State.tally_part s e (·.reg k r) fun _ _ => rfl
@[simp] theorem State.tally_seq (n : Nat) : (s.tally e).seq n = s.seq n := State.tally_part s e (·.seq n) fun _ _ => rfl
@[simp] theorem State.tally_chan (c : Nat) : (s.tally e).chan c = s.chan c := State.tally_part s e (·.chan c) fun _ _ => rfl
@[simp] theorem State.tally_lane (n : Nat) : (s.tally e).lane n = s.lane n := State.tally_part s e (·.lane n) fun _ _ => rfl
@[simp] theorem State.tally_fld (f : Fld) : (s.tally e).fld f = s.fld f := State.tally_part s e (·.fld f) fun _ _ => rfl

end Tally

/-! ## Tables of the cores -/

section Tables
variable (s : State)

theorem State.setSeq_seq (n k : Nat) (q : Seq) : (s.setSeq n q).seq k = if k = n then q else s.seq k := tabGet_put ..

@[simp] theorem State.setSeq_seq_same (n : Nat) (q : Seq) : (s.setSeq n q).seq n = q := by rw [State.setSeq_seq, if_pos rfl]

@[simp] theorem State.setSeq_reg (n r : Nat) (q : Seq) (k : Core) : (s.setSeq n q).reg k r = s.reg k r := rfl

@[simp] theorem State.wr_seq (a n : Nat) (w : Word) : (s.wr a w).seq n = s.seq n := rfl
@[simp] theorem State.setFld_seq (f : Fld) (v n : Nat) : (s.setFld f v).seq n = s.seq n := rfl
@[simp] theorem State.wr_reg (a r : Nat) (w : Word) (k : Core) : (s.wr a w).reg k r = s.reg k r := rfl
@[simp] theorem State.setFld_reg (f : Fld) (v r : Nat) (k : Core) : (s.setFld f v).reg k r = s.reg k r := rfl

@[simp] theorem settle_seq (n : Nat) : (settle s).seq n = s.seq n := rfl
@[simp] theorem settle_chan (c : Nat) : (settle s).chan c = s.chan c := rfl
@[simp] theorem settle_lane (n : Nat) : (settle s).lane n = s.lane n := rfl
@[simp] theorem settle_reg (k : Core) (r : Nat) : (settle s).reg k r = s.reg k r := rfl

/-! ## What an instruction of a sequencer leaves to the next -/

@[simp] theorem State.advance_ls_seq (n : Fin 48) : (s.advance (.ls n)).seq n = { s.seq n with pc := (s.seq n).pc + 4#32 } := by
  simp [State.advance, State.setPc, State.pcOf]

@[simp] theorem State.advance_ls_rd (n : Fin 48) (b : Nat) : (s.advance (.ls n)).rd b = s.rd b := State.tally_rd ..

@[simp] theorem State.advance_ls_reg (n : Fin 48) (k : Core) (r : Nat) : (s.advance (.ls n)).reg k r = s.reg k r := State.tally_reg ..

@[simp] theorem State.setFlags_ls_rd (n : Fin 48) (f : Flags) (b : Nat) : (s.setFlags (.ls n) f).rd b = s.rd b := rfl

@[simp] theorem State.setFlags_ls_reg (n : Fin 48) (f : Flags) (k : Core) (r : Nat) : (s.setFlags (.ls n) f).reg k r = s.reg k r := rfl

@[simp] theorem State.setFlags_ls_seq (n : Fin 48) (f : Flags) : (s.setFlags (.ls n) f).seq n = { s.seq n with n := f.n, z := f.z, c := f.c, v := f.v } := by
  simp [State.setFlags]

@[simp] theorem State.setG_rd (k r b : Nat) (v : Word) : (s.setG k r v).rd b = s.rd b := by unfold State.setG; split <;> rfl
@[simp] theorem State.setG_seq (k r n : Nat) (v : Word) : (s.setG k r v).seq n = s.seq n := by unfold State.setG; split <;> rfl

@[simp] theorem State.setG_chan (k r c : Nat) (v : Word) : (s.setG k r v).chan c = s.chan c := by unfold State.setG; split <;> rfl

/-- A general register after a write of one of its core (R192). -/
theorem State.setG_g (k : Nat) (r d : Fin 16) (v : Word) : (s.setG k r v).g k d = if d = r then written r v else s.g k d := by
  unfold State.setG State.g written
  by_cases hd : d = 0
  · by_cases hr : r = 0 <;> simp [hd, hr, eq_comm]
  · by_cases hr : r = 0
    · simp [hr, hd]
    · have hd' : d.val ≠ 0 := fun e => hd (Fin.ext e)
      have hr' : r.val ≠ 0 := fun e => hr (Fin.ext e)
      simp only [hd', hr', hr, if_false, tabGet_put, Nat.add_left_cancel_iff, Fin.val_inj]

theorem State.setG_same (k : Nat) (r : Fin 16) (v : Word) : (s.setG k r v).g k r = written r v := by rw [State.setG_g, if_pos rfl]

end Tables

end Sys2Proof.Machine
end

section
/-! SUPPORT. WFE, MPOST and MTAKE (R212, R215). -/

namespace Sys2Proof.Machine

/-! ## Event lines -/

theorem and_not_and (w m : Word) : w &&& ~~~(w &&& m) = w &&& ~~~m := by
  apply BitVec.eq_of_getLsbD_eq
  intro i hi
  simp only [BitVec.getLsbD_and, BitVec.getLsbD_not]
  cases w.getLsbD i <;> simp [hi]

theorem bitAt_msb (w : Word) : bitAt w.toNat 31 = w.msb := by
  have h := w.isLt
  rw [BitVec.msb_eq_decide, bitAt, Bool.eq_iff_iff, beq_iff_eq, decide_eq_true_iff]
  omega

section Wfe
variable (s : State) (n : Fin 48) (d : Fin 16) (mask : Word)

/-- What the end of a WFE leaves: the lines consumed in rd and in the latch, N and Z of them, the next instruction. -/
def State.WfeEnded (s : State) (n : Fin 48) (d : Fin 16) (mask : Word) (t : State) : Prop :=
  t.reg (.ls n) d = written d (s.rd (R.LRX_SEQ_EVT n) &&& mask) ∧ t.rd (R.LRX_SEQ_EVT n) = s.rd (R.LRX_SEQ_EVT n) &&& ~~~mask ∧
    t.flags (.ls n) = (s.flags (.ls n)).nz (s.rd (R.LRX_SEQ_EVT n) &&& mask) ∧ t.pcOf (.ls n) = s.pcOf (.ls n) + 4#32 ∧ s.Only [R.LRX_SEQ_EVT n] t

theorem State.wfeEnd_ended : s.WfeEnded n d mask (settle (s.wfeEnd n d mask)) := by
  refine ⟨?_, ?_, ?_, ?_, fun b hb => ?_⟩
  · simp only [settle_reg, State.wfeEnd, State.advance_ls_reg, State.setFlags_ls_reg]
    exact State.setG_same ..
  · simp [State.wfeEnd, State.setReg, and_not_and]
  · simp [State.wfeEnd, State.setReg, State.flags, Flags.nz]
  · simp [State.wfeEnd, State.setReg, State.pcOf]
  · simp only [List.mem_singleton] at hb
    simp [State.wfeEnd, State.setReg, State.wr_rd_ne _ _ hb]

theorem State.runWfe_ends {a : Fin 16} {lim : Nat} (hon : s.coreOn (.ls n) = true)
    (h : s.rd (R.LRX_SEQ_EVT n) &&& s.reg (.ls n) a ≠ 0#32 ∨ s.reg (.ls n) a = 0#32 ∧ lim = 0) :
    s.runWfe n d a lim = s.wfeEnd n d (s.reg (.ls n) a) := by
  rw [State.runWfe, if_pos hon]
  exact if_pos h

theorem State.runWfe_waits {a : Fin 16} {lim : Nat} (hon : s.coreOn (.ls n) = true) (h : s.rd (R.LRX_SEQ_EVT n) &&& s.reg (.ls n) a = 0#32)
    (hl : s.reg (.ls n) a ≠ 0#32 ∨ lim ≠ 0) : s.runWfe n d a lim =
      (s.setSeq n { s.seq n with wait := some ⟨d, s.reg (.ls n) a, lim, s.clock⟩ }).setFld (F.LRX_SEQ_STAT_STATE n) 2 := by
  rw [State.runWfe, if_pos hon]
  refine if_neg ?_
  rintro (h1 | ⟨h1, h2⟩)
  · exact h1 h
  · exact hl.elim (· h1) (· h2)

end Wfe

theorem wfe_ends (n : Fin 48) (d a : Fin 16) (imm : BitVec 12) (s : State) (hon : s.coreOn (.ls n) = true)
    (h : s.rd (R.LRX_SEQ_EVT n) &&& s.reg (.ls n) a ≠ 0#32 ∨ s.reg (.ls n) a = 0#32 ∧ imm = 0#12) :
    Completes (.wfe n d a imm) s (s.WfeEnded n d (s.reg (.ls n) a)) :=
  done_completes (u := s.runWfe n d a imm.toNat) rfl (by
    rw [State.runWfe_ends s n d hon (h.imp_right fun ⟨h1, h2⟩ => ⟨h1, by rw [h2]; rfl⟩)]
    exact State.wfeEnd_ended ..)

theorem wfe_waits (n : Fin 48) (d a : Fin 16) (imm : BitVec 12) (s : State) (hon : s.coreOn (.ls n) = true)
    (h : s.rd (R.LRX_SEQ_EVT n) &&& s.reg (.ls n) a = 0#32) (hl : s.reg (.ls n) a ≠ 0#32 ∨ imm ≠ 0#12) :
    Completes (.wfe n d a imm) s fun t => t.fld (F.LRX_SEQ_STAT_STATE n) = 2 ∧ (t.seq n).wait = some ⟨d.val, s.reg (.ls n) a, imm.toNat, s.clock⟩ ∧
      t.pcOf (.ls n) = s.pcOf (.ls n) ∧ t.gpr = s.gpr ∧ s.Only [R.LRX_SEQ_STAT n] t := by
  refine done_completes (u := s.runWfe n d a imm.toNat) rfl ?_
  rw [State.runWfe_waits s n d hon h (hl.imp_right fun h e => h (BitVec.eq_of_toNat_eq e))]
  refine ⟨?_, by simp, by simp [State.pcOf], by simp, fun b hb => ?_⟩
  · rw [settle_fld, State.setFld_fld_same _ _ _ (Fld.fits_of rfl)]
    rfl
  · simp only [List.mem_singleton] at hb
    rw [settle_rd, State.setFld_rd_ne _ _ _ hb, State.setSeq_rd]

/-! ## The ends of a wait -/

section Release
variable (n : Fin 48) (d : Fin 16) (mask : Word) (lim at0 : Nat) (s : State)

/-- A sequencer whose wait ended: the lines consumed in its register and out of the latch, RUNNING again, and the next instruction. -/
def State.waitEnded (s : State) (n : Nat) (rd : Nat) (got : Word) : State :=
  let q := s.seq n
  let s := (s.wr (R.LRX_SEQ_EVT n) (s.rd (R.LRX_SEQ_EVT n) &&& ~~~got)).setG n rd got
  ((s.setSeq n { q with wait := none, z := false, n := bitAt got.toNat 31, pc := q.pc + 4#32 }).setFld (F.LRX_SEQ_STAT_STATE n) 1).tally (.ofLane 6 n 1)

theorem State.wfeRelease_releases (hw : (s.seq n).wait = some ⟨d.val, mask, lim, at0⟩) (h : s.rd (R.LRX_SEQ_EVT n) &&& mask ≠ 0#32) :
    s.wfeRelease n = s.waitEnded n d (s.rd (R.LRX_SEQ_EVT n) &&& mask) := by
  unfold State.wfeRelease
  simp only [hw]
  rw [if_neg h]
  rfl

theorem wfeRelease_releases (hw : (s.seq n).wait = some ⟨d.val, mask, lim, at0⟩) (h : s.rd (R.LRX_SEQ_EVT n) &&& mask ≠ 0#32) :
    Completes (.wfeRelease n) s fun t => t.reg (.ls n) d = written d (s.rd (R.LRX_SEQ_EVT n) &&& mask) ∧
      t.rd (R.LRX_SEQ_EVT n) = s.rd (R.LRX_SEQ_EVT n) &&& ~~~mask ∧ t.fld (F.LRX_SEQ_STAT_STATE n) = 1 ∧
      t.flags (.ls n) = { s.flags (.ls n) with z := false, n := (s.rd (R.LRX_SEQ_EVT n) &&& mask).msb } ∧ t.pcOf (.ls n) = s.pcOf (.ls n) + 4#32 ∧
      (t.seq n).wait = none ∧ s.Only [R.LRX_SEQ_EVT n, R.LRX_SEQ_STAT n] t := by
  refine done_completes (u := s.wfeRelease n) rfl ?_
  rw [State.wfeRelease_releases n d mask lim at0 s hw h]
  have hne : R.LRX_SEQ_EVT n ≠ (F.LRX_SEQ_STAT_STATE n).addr := by simp [R.LRX_SEQ_EVT, F.LRX_SEQ_STAT_STATE, R.LRX_SEQ_STAT]
  refine ⟨?_, ?_, ?_, ?_, by simp [State.waitEnded, State.pcOf], by simp [State.waitEnded], fun b hb => ?_⟩
  · simp only [State.waitEnded, settle_reg, State.tally_reg, State.setFld_reg, State.setSeq_reg]
    exact State.setG_same ..
  · simp only [State.waitEnded, settle_rd, State.tally_rd, State.setFld_rd_ne _ _ _ hne, State.setSeq_rd, State.setG_rd, State.wr_rd_same, and_not_and]
  · simp only [State.waitEnded, settle_fld, State.tally_fld]
    exact State.setFld_fld_same _ _ _ (Fld.fits_of rfl)
  · simp only [State.waitEnded, State.flags, settle_seq, State.tally_seq, State.setFld_seq, State.setSeq_seq_same, bitAt_msb]
  · simp only [List.mem_cons, List.not_mem_nil, or_false, not_or] at hb
    have hstat : b ≠ (F.LRX_SEQ_STAT_STATE n).addr := hb.2
    simp only [State.waitEnded, settle_rd, State.tally_rd, State.setFld_rd_ne _ _ _ hstat, State.setSeq_rd, State.setG_rd, State.wr_rd_ne _ _ hb.1]

theorem wfeTimeout_expires (hw : (s.seq n).wait = some ⟨d.val, mask, lim, at0⟩) (hl : lim ≠ 0) (h : s.rd (R.LRX_SEQ_EVT n) &&& mask = 0#32) :
    Completes (.wfeTimeout n) s fun t => t.reg (.ls n) d = 0#32 ∧ t.fld (F.LRX_SEQ_STAT_STATE n) = 1 ∧
      t.flags (.ls n) = { s.flags (.ls n) with z := true, n := false } ∧ t.pcOf (.ls n) = s.pcOf (.ls n) + 4#32 ∧ s.Only [R.LRX_SEQ_STAT n] t := by
  refine done_completes (u := s.wfeExpire n) rfl ?_
  have hne : R.LRX_SEQ_EVT n ≠ (F.LRX_SEQ_STAT_STATE n).addr := by simp [R.LRX_SEQ_EVT, F.LRX_SEQ_STAT_STATE, R.LRX_SEQ_STAT]
  have hrun : s.wfeExpire n = ((s.setSeq n { s.seq n with wait := none }).setFld (F.LRX_SEQ_STAT_STATE n) 1).wfeEnd n d mask := by
    unfold State.wfeExpire
    simp only [hw]
    exact if_neg hl
  rw [hrun]
  generalize hu : (s.setSeq n { s.seq n with wait := none }).setFld (F.LRX_SEQ_STAT_STATE n) 1 = u
  have hrd (b : Nat) (hb : b ≠ R.LRX_SEQ_STAT n) : u.rd b = s.rd b := by rw [← hu, State.setFld_rd_ne _ _ _ hb, State.setSeq_rd]
  have hstate : u.fld (F.LRX_SEQ_STAT_STATE n) = 1 := by rw [← hu]; exact State.setFld_fld_same _ _ _ (Fld.fits_of rfl)
  have hseq : u.seq n = { s.seq n with wait := none } := by rw [← hu]; simp
  obtain ⟨hreg, hevt, hflags, hpc, honly⟩ := State.wfeEnd_ended u n d mask
  rw [hrd _ hne, h] at hreg hflags
  refine ⟨?_, ?_, ?_, ?_, fun b hb => ?_⟩
  · rw [hreg, written, ite_self]
  · rw [State.fld_congr (honly _ (by simpa using hne.symm)), hstate]
  · rw [hflags]
    simp [Flags.nz, State.flags, hseq]
  · rw [hpc]
    simp [State.pcOf, hseq]
  · simp only [List.mem_singleton] at hb
    by_cases he : b = R.LRX_SEQ_EVT n
    · rw [he, hevt, hrd _ hne, ← and_not_and, h]
      exact BitVec.and_allOnes
    · rw [honly b (by simpa using he), hrd b hb]

end Release

theorem settle_of_remembered {s : State} (h : s.IrqRemembered) : settle s = s := by
  have hdue : s.msixDue ||| s.irqNow = s.msixDue := by
    refine BitVec.eq_of_getLsbD_eq fun i hi => ?_
    have hbit : (s.irqNow &&& ~~~s.msixDue).getLsbD i = false := by rw [h]; simp
    simp only [BitVec.getLsbD_and, BitVec.getLsbD_not, BitVec.getLsbD_or, hi, decide_true, Bool.true_and] at hbit ⊢
    revert hbit
    cases s.irqNow.getLsbD i <;> cases s.msixDue.getLsbD i <;> simp
  exact congrArg (fun d => { s with msixDue := d }) hdue

/-- A command that does nothing completes with the state as it was, where no due interrupt was forgotten. -/
theorem nothing_completes {c : Instr} {s : State} (e : exec c s = done s) (h : s.IrqRemembered) : Completes c s fun t => t = s :=
  done_completes e (settle_of_remembered h)


/-! ## Notices (R215) -/

theorem State.setChan_chan (s : State) (c k : Nat) (h : Chan) : (s.setChan c h).chan k = if k = c then h else s.chan k := tabGet_put ..

theorem testBit_eq_bitAt (v i : Nat) : v.testBit i = bitAt v i := by
  rw [Nat.testBit_eq_decide_div_mod_eq, bitAt, Bool.eq_iff_iff, beq_iff_eq, decide_eq_true_iff]

/-- A bit set stands in its field. -/
theorem State.setBit_set (s : State) (f : Fld) (i : Nat) (h : f.Fits) (hi : i < f.wd) : bitAt ((s.setBit f i).fld f) i = true := by
  unfold State.setBit
  split
  · assumption
  · rename_i hb
    rw [State.setFld_fld_same _ _ _ h, ← testBit_eq_bitAt, Nat.testBit_mod_two_pow, decide_eq_true hi, Bool.true_and]
    rw [← testBit_eq_bitAt, Bool.not_eq_true] at hb
    rw [Nat.add_comm, Nat.testBit_two_pow_add_eq, hb]
    rfl

/-- The field of a whole register is the register. -/
theorem State.fld_whole (s : State) (a : Nat) : s.fld ⟨a, 0, 32⟩ = (s.rd a).toNat := by
  simp [State.fld, bitsOf]
  omega

section Notices
variable (s : State) (n : Fin 48)

@[simp] theorem State.zFlag_rd (z : Bool) (b : Nat) : (s.zFlag n z).rd b = s.rd b := rfl
@[simp] theorem State.zFlag_fld (z : Bool) (f : Fld) : (s.zFlag n z).fld f = s.fld f := rfl
@[simp] theorem State.zFlag_chan (z : Bool) (c : Nat) : (s.zFlag n z).chan c = s.chan c := rfl
@[simp] theorem State.zFlag_chans (z : Bool) : (s.zFlag n z).chans = s.chans := rfl
@[simp] theorem State.zFlag_lane (z : Bool) (k : Nat) : (s.zFlag n z).lane k = s.lane k := rfl
@[simp] theorem State.zFlag_gpr (z : Bool) : (s.zFlag n z).gpr = s.gpr := rfl
@[simp] theorem State.zFlag_reg (z : Bool) (k : Core) (r : Nat) : (s.zFlag n z).reg k r = s.reg k r := rfl

@[simp] theorem State.advance_ls_chan (c : Nat) : (s.advance (.ls n)).chan c = s.chan c := State.tally_chan ..
@[simp] theorem State.advance_ls_chans : (s.advance (.ls n)).chans = s.chans := State.tally_chans ..
@[simp] theorem State.advance_ls_lane (k : Nat) : (s.advance (.ls n)).lane k = s.lane k := State.tally_lane ..
@[simp] theorem State.advance_ls_gpr : (s.advance (.ls n)).gpr = s.gpr := State.tally_gpr ..

/-- An instruction that ends with Z and nothing else of its sequencer: the flag, and the next instruction. -/
theorem State.zFlag_advance {v : State} (h : v.seq n = s.seq n) (z : Bool) :
    ((v.zFlag n z).advance (.ls n)).flags (.ls n) = { s.flags (.ls n) with z := z } ∧ ((v.zFlag n z).advance (.ls n)).pcOf (.ls n) = s.pcOf (.ls n) + 4#32 := by
  simp [State.flags, State.pcOf, State.zFlag, h]

theorem State.runExt_legal {s : State} {n : Fin 48} (hon : s.coreOn (.ls n) = true) (w : Word) (f : State → State) :
    s.runExt n true w f = (f s).advance (.ls n) := by rw [State.runExt, if_pos hon, if_pos rfl]

/-- A word that is not legal traps with ILLEGAL (R212). -/
theorem State.runExt_illegal {s : State} {n : Fin 48} (hon : s.coreOn (.ls n) = true) (w : Word) (f : State → State) :
    s.Trapped (.ls n) 1 0 (s.pcOf (.ls n)) w (settle (s.runExt n false w f)) := by
  rw [State.runExt, if_pos hon, if_neg (by decide)]
  exact State.trap_trapped rfl ..

/-- A post on a channel of a lane that has room (R248). -/
theorem State.post_room {lo hi : Word} (h : (s.chan (8 + n)).q.length < 4) : s.post (8 + n) lo hi =
    (((s.setChan (8 + n) { s.chan (8 + n) with q := (s.chan (8 + n)).q ++ [(lo, noticeHigh hi)] }).incr (F.MBOX_CH_STAT_POSTED (8 + n))).setBit
      (F.MBOX_ARRIVE_CH ((8 + n) / 32)) ((8 + n) % 32), true) := by
  rw [State.post, if_neg (by omega), State.arrived, if_neg (by omega)]

theorem State.post_full {lo hi : Word} (h : 4 ≤ (s.chan (8 + n)).q.length) : s.post (8 + n) lo hi =
    (s.setFld (F.MBOX_CH_STAT_REFUSED (8 + n)) (s.fld (F.MBOX_CH_STAT_REFUSED (8 + n)) + 1), false) := by rw [State.post, if_pos h]

theorem State.setBit_keeps (f : Fld) (i : Nat) : (s.setBit f i).chans = s.chans ∧ (s.setBit f i).gpr = s.gpr ∧ (s.setBit f i).seqs = s.seqs ∧ (s.setBit f i).lanes = s.lanes := by
  unfold State.setBit
  split
  · exact ⟨rfl, rfl, rfl, rfl⟩
  · exact ⟨rfl, rfl, rfl, rfl⟩

end Notices

/-- A post that was taken is the ready notice of a host receive lane in ACQ (R90). -/
def State.tellsReady (s : State) (n : Fin 48) (hi : Word) (z : Bool) : Bool :=
  z && bitsOf hi.toNat 16 8 == 1 && decide (16 ≤ n.val) && decide (n.val < 32) && s.fld (F.HRX_STATUS_STATE n) == 1

/-- What becomes of a lane whose program may have posted its ready notice (R90). -/
def State.readied (s : State) (n : Nat) (b : Bool) : State := if b then s.onLane n fun l => { l with ready := true } else s

section Readied
variable (s : State) (n : Nat) (b : Bool)

theorem State.readied_keeps : (s.readied n b).chans = s.chans ∧ (s.readied n b).regs = s.regs ∧ (s.readied n b).gpr = s.gpr ∧ (s.readied n b).seqs = s.seqs := by
  cases b <;> exact ⟨rfl, rfl, rfl, rfl⟩

theorem State.readied_ready : ((s.readied n b).lane n).ready = ((s.lane n).ready || b) := by
  cases b with
  | false => exact (Bool.or_false _).symm
  | true => simp [State.readied, State.onLane, State.lane, tabGet_put]

end Readied

theorem State.runMpost_eq (s : State) {n : Fin 48} (d a : Fin 16) (hon : s.coreOn (.ls n) = true) {u : State} {z : Bool}
    (hpost : s.post (8 + n) (s.reg (.ls n) a) (s.reg (.ls n) d) = (u, z)) : s.runMpost n d a 0 =
      (((u.tally (s.masterEvent (if z then 0x10 else 0x11) 7 none)).readied n
        (s.tellsReady n (s.reg (.ls n) d) z)).zFlag n z).advance
        (.ls n) := by
  unfold State.runMpost
  rw [show ((0 : Nat) == 0) = true from rfl, State.runExt_legal hon]
  simp only [hpost]
  rfl

/-- An MPOST that changed the channels and their registers alone: the rest of the machine, by what the post left. -/
theorem mpost_completes (n : Fin 48) (d a : Fin 16) (s : State) (hon : s.coreOn (.ls n) = true) {u : State} {z : Bool}
    (hpost : s.post (8 + n) (s.reg (.ls n) a) (s.reg (.ls n) d) = (u, z)) (hgpr : u.gpr = s.gpr) (hseqs : u.seqs = s.seqs) (hlanes : u.lanes = s.lanes)
    {q : State → Prop}
    (k : ∀ t : State, t.chans = u.chans → (∀ b, t.rd b = u.rd b) →
      (t.lane n).ready = ((s.lane n).ready || s.tellsReady n (s.reg (.ls n) d) z) →
      t.flags (.ls n) = { s.flags (.ls n) with z := z } → t.pcOf (.ls n) = s.pcOf (.ls n) + 4#32 → t.gpr = s.gpr → q t) :
    Completes (.mpost n d a 0) s q := by
  refine done_completes (u := s.runMpost n d a 0) rfl ?_
  rw [State.runMpost_eq s d a hon hpost]
  generalize s.tellsReady n (s.reg (.ls n) d) z = b at k ⊢
  generalize s.masterEvent (if z then 0x10 else 0x11) 7 none = e
  obtain ⟨hc, hr, hg, hs⟩ := State.readied_keeps (u.tally e) n b
  have hready := State.readied_ready (u.tally e) n b
  generalize (u.tally e).readied n b = v at hc hr hg hs hready ⊢
  have hseq : v.seq n = s.seq n := by rw [State.seq, hs, State.tally_seqs, hseqs, State.seq]
  obtain ⟨hflags, hpc⟩ := State.zFlag_advance s n hseq z
  refine k _ ?_ (fun b => ?_) ?_ ?_ ?_ ?_
  · rw [settle_chans, State.advance_ls_chans, State.zFlag_chans, hc, State.tally_chans]
  · rw [settle_rd, State.advance_ls_rd, State.zFlag_rd, State.rd, hr, State.tally_regs, State.rd]
  · rw [settle_lane, State.advance_ls_lane, State.zFlag_lane, hready, State.tally_lane, State.lane, hlanes, State.lane]
  · exact hflags
  · exact hpc
  · rw [settle_gpr, State.advance_ls_gpr, State.zFlag_gpr, hg, State.tally_gpr, hgpr]

theorem mpost_posts (n : Fin 48) (d a : Fin 16) (s : State) (hon : s.coreOn (.ls n) = true) (hroom : (s.chan (8 + n)).q.length < 4) :
    Completes (.mpost n d a 0) s fun t => (t.chan (8 + n)).q = (s.chan (8 + n)).q ++ [(s.reg (.ls n) a, (s.reg (.ls n) d &&& 0x3FFFFFFF#32) ||| 0x40000000#32)] ∧
      bitAt (t.rd (R.MBOX_ARRIVE ((8 + n) / 32))).toNat ((8 + n) % 32) = true ∧
      (t.lane n).ready = ((s.lane n).ready || decide (bitsOf (s.reg (.ls n) d).toNat 16 8 = 1 ∧ 16 ≤ n.val ∧ n.val < 32 ∧ s.fld (F.HRX_STATUS_STATE n) = 1)) ∧
      t.flags (.ls n) = { s.flags (.ls n) with z := true } ∧ t.pcOf (.ls n) = s.pcOf (.ls n) + 4#32 ∧ t.gpr = s.gpr ∧
      s.Only [R.MBOX_CH_STAT (8 + n), R.MBOX_ARRIVE ((8 + n) / 32)] t := by
  obtain ⟨hc, hg, hs, hl⟩ := State.setBit_keeps ((s.setChan (8 + n) { s.chan (8 + n) with
    q := (s.chan (8 + n)).q ++ [(s.reg (.ls n) a, noticeHigh (s.reg (.ls n) d))] }).incr (F.MBOX_CH_STAT_POSTED (8 + n))) (F.MBOX_ARRIVE_CH ((8 + n) / 32)) ((8 + n) % 32)
  refine mpost_completes n d a s hon (State.post_room s n hroom) hg hs hl fun t htc hrd hready hflags hpc hgpr => ⟨?_, ?_, ?_, hflags, hpc, hgpr, fun b hb => ?_⟩
  · rw [State.chan, htc, hc]
    exact congrArg Chan.q (State.setChan_chan ..|>.trans (if_pos rfl))
  · rw [hrd, ← State.fld_whole]
    exact State.setBit_set _ _ _ (Fld.fits_of rfl) (Nat.mod_lt _ (by decide))
  · rw [hready, State.tellsReady, Bool.true_and]
    congr 1
    rw [Bool.eq_iff_iff]
    simp [and_assoc]
  · simp only [List.mem_cons, List.not_mem_nil, or_false, not_or] at hb
    obtain ⟨h1, h2⟩ := hb
    rw [hrd, State.setBit_rd_ne _ _ _ h2, State.incr_rd_ne _ _ h1]
    rfl

theorem mpost_full (n : Fin 48) (d a : Fin 16) (s : State) (hon : s.coreOn (.ls n) = true) (hfull : 4 ≤ (s.chan (8 + n)).q.length) :
    Completes (.mpost n d a 0) s fun t => t.chans = s.chans ∧ t.flags (.ls n) = { s.flags (.ls n) with z := false } ∧ t.pcOf (.ls n) = s.pcOf (.ls n) + 4#32 ∧
      t.gpr = s.gpr ∧ s.Only [R.MBOX_CH_STAT (8 + n)] t := by
  refine mpost_completes n d a s hon (State.post_full s n hfull) rfl rfl rfl fun t htc hrd _ hflags hpc hgpr => ⟨htc, hflags, hpc, hgpr, fun b hb => ?_⟩
  rw [hrd, State.setFld_rd_ne _ (F.MBOX_CH_STAT_REFUSED (8 + n)) _ (List.ne_of_not_mem_cons hb)]

theorem mpost_illegal (n : Fin 48) (d a : Fin 16) (imm : BitVec 12) (s : State) (hon : s.coreOn (.ls n) = true) (himm : imm ≠ 0#12) :
    Completes (.mpost n d a imm) s fun t => s.Trapped (.ls n) 1 0 (s.pcOf (.ls n))
      (BitVec.ofNat 32 (0x30 * 2 ^ 26 + d.val * 2 ^ 22 + a.val * 2 ^ 18 + 24 * 2 ^ 12 + imm.toNat)) t := by
  refine done_completes (u := s.runMpost n d a imm.toNat) rfl ?_
  have hword : wordX d a 0x18 imm.toNat = BitVec.ofNat 32 (0x30 * 2 ^ 26 + d.val * 2 ^ 22 + a.val * 2 ^ 18 + 24 * 2 ^ 12 + imm.toNat) := by
    rw [wordX, Nat.mod_eq_of_lt d.isLt, Nat.mod_eq_of_lt a.isLt, Nat.mod_eq_of_lt imm.isLt]
  have hlegal : (imm.toNat == 0) = false := by
    rw [beq_eq_false_iff_ne]
    exact fun e => himm (BitVec.eq_of_toNat_eq e)
  unfold State.runMpost
  rw [hword, hlegal]
  exact State.runExt_illegal hon ..

theorem mtake_illegal (n : Fin 48) (d : Fin 16) (s : State) (hon : s.coreOn (.ls n) = true) (hd : d ≠ 0) :
    Completes (.mtake n d d) s fun t => s.Trapped (.ls n) 1 0 (s.pcOf (.ls n))
      (BitVec.ofNat 32 (0x30 * 2 ^ 26 + d.val * 2 ^ 22 + d.val * 2 ^ 18 + 0x19 * 2 ^ 12)) t := by
  refine done_completes (u := s.runMtake n d d) rfl ?_
  have hword : wordX d d 0x19 0 = BitVec.ofNat 32 (0x30 * 2 ^ 26 + d.val * 2 ^ 22 + d.val * 2 ^ 18 + 0x19 * 2 ^ 12) := by
    unfold wordX
    exact congrArg (BitVec.ofNat 32) (by omega)
  have hlegal : (d.val != d.val || d.val == 0) = false := by
    rw [Bool.or_eq_false_iff, bne_self_eq_false, beq_eq_false_iff_ne]
    exact ⟨rfl, fun e => hd (Fin.ext e)⟩
  unfold State.runMtake
  rw [hword, hlegal]
  exact State.runExt_illegal hon ..

/-- A take by a lane from its own channel that holds a notice (R248). -/
theorem State.take_some {s : State} {n : Fin 48} {x : Word × Word} {rest : List (Word × Word)} (h : (s.chan (56 + n)).q = x :: rest) : s.take (56 + n) =
    ((s.setChan (56 + n) { s.chan (56 + n) with q := rest }).setBit (F.MBOX_SPACE_CH ((56 + n) / 32)) ((56 + n) % 32), some x) := by
  unfold State.take
  simp only [h]
  rw [if_pos (.inr (.inl (Nat.le_add_right 56 n))), State.spaced, if_neg (by omega)]

theorem State.take_none {s : State} {n : Fin 48} (h : (s.chan (56 + n)).q = []) : s.take (56 + n) = (s, none) := by
  unfold State.take
  simp only [h]

theorem mtake_legal {d a : Fin 16} (hda : d ≠ a ∨ d = 0) : (d.val != a.val || d.val == 0) = true := by
  rw [Bool.or_eq_true, bne_iff_ne, beq_iff_eq]
  exact hda.imp (fun h e => h (Fin.ext e)) (congrArg Fin.val)

theorem mtake_takes (n : Fin 48) (d a : Fin 16) (lo hi : Word) (rest : List (Word × Word)) (s : State) (hon : s.coreOn (.ls n) = true) (hda : d ≠ a ∨ d = 0)
    (hq : (s.chan (56 + n)).q = (lo, hi) :: rest) :
    Completes (.mtake n d a) s fun t => (t.chan (56 + n)).q = rest ∧ t.reg (.ls n) d = written d lo ∧ t.reg (.ls n) a = written a hi ∧
      bitAt (t.rd (R.MBOX_SPACE ((56 + n) / 32))).toNat ((56 + n) % 32) = true ∧ t.flags (.ls n) = { s.flags (.ls n) with z := true } ∧
      t.pcOf (.ls n) = s.pcOf (.ls n) + 4#32 ∧ s.Only [R.MBOX_SPACE ((56 + n) / 32)] t := by
  refine done_completes (u := s.runMtake n d a) rfl ?_
  unfold State.runMtake
  rw [mtake_legal hda, State.runExt_legal hon]
  simp only [State.take_some hq]
  obtain ⟨hc, -, hs, -⟩ := State.setBit_keeps (s.setChan (56 + n) { s.chan (56 + n) with q := rest }) (F.MBOX_SPACE_CH ((56 + n) / 32)) ((56 + n) % 32)
  have hbit := State.setBit_set (s.setChan (56 + n) { s.chan (56 + n) with q := rest }) (F.MBOX_SPACE_CH ((56 + n) / 32)) ((56 + n) % 32) (Fld.fits_of rfl)
    (Nat.mod_lt _ (by decide))
  have hrd (b : Nat) (hb : b ≠ R.MBOX_SPACE ((56 + n) / 32)) :
      ((s.setChan (56 + n) { s.chan (56 + n) with q := rest }).setBit (F.MBOX_SPACE_CH ((56 + n) / 32)) ((56 + n) % 32)).rd b = s.rd b :=
    State.setBit_rd_ne _ _ _ hb
  generalize (s.setChan (56 + n) { s.chan (56 + n) with q := rest }).setBit (F.MBOX_SPACE_CH ((56 + n) / 32)) ((56 + n) % 32) = u at hc hs hbit hrd ⊢
  have hchan : u.chan (56 + n) = { s.chan (56 + n) with q := rest } := by
    rw [State.chan, hc]
    exact State.setChan_chan ..|>.trans (if_pos rfl)
  have hseq : ((u.setReg (.ls n) d lo).setReg (.ls n) a hi).seq n = s.seq n := by
    rw [State.setReg, State.setReg, State.setG_seq, State.setG_seq, State.seq, hs]
    rfl
  obtain ⟨hflags, hpc⟩ := State.zFlag_advance s n hseq true
  refine ⟨?_, ?_, ?_, ?_, ?_, ?_, fun b hb => ?_⟩
  · rw [settle_chan, State.advance_ls_chan, State.zFlag_chan, State.setReg, State.setReg, State.setG_chan, State.setG_chan, hchan]
  · rw [settle_reg, State.advance_ls_reg, State.zFlag_reg]
    refine (State.setG_g ..).trans ?_
    split
    · rename_i e
      subst e
      rw [hda.resolve_left (not_not_intro rfl)]
      rfl
    · exact State.setG_same ..
  · rw [settle_reg, State.advance_ls_reg, State.zFlag_reg]
    exact State.setG_same ..
  · rw [settle_rd, State.advance_ls_rd, State.zFlag_rd, State.setReg, State.setReg, State.setG_rd, State.setG_rd, ← State.fld_whole]
    exact hbit
  · exact hflags
  · exact hpc
  · rw [settle_rd, State.advance_ls_rd, State.zFlag_rd, State.setReg, State.setReg, State.setG_rd, State.setG_rd, hrd b (List.ne_of_not_mem_cons hb)]

theorem mtake_empty (n : Fin 48) (d a : Fin 16) (s : State) (hon : s.coreOn (.ls n) = true) (hda : d ≠ a ∨ d = 0) (hq : (s.chan (56 + n)).q = []) :
    Completes (.mtake n d a) s fun t => t.flags (.ls n) = { s.flags (.ls n) with z := false } ∧ t.pcOf (.ls n) = s.pcOf (.ls n) + 4#32 ∧ t.gpr = s.gpr ∧
      t.chans = s.chans ∧ s.Only [] t := by
  refine done_completes (u := s.runMtake n d a) rfl ?_
  unfold State.runMtake
  rw [mtake_legal hda, State.runExt_legal hon]
  simp only [State.take_none hq]
  obtain ⟨hflags, hpc⟩ := State.zFlag_advance s n rfl false
  exact ⟨hflags, hpc, State.advance_ls_gpr .., State.advance_ls_chans .., fun b _ => State.advance_ls_rd ..⟩

/-- Settles O34: what ends a wait and what begins one, and what a channel's room or its oldest notice makes of a post and a take (R212, R215, R248). -/
theorem eventsAndNoticesOfASequencer : Obligations.EventsAndNoticesOfASequencer := by
  unfold Obligations.EventsAndNoticesOfASequencer
  refine ⟨wfe_ends, wfe_waits, wfeRelease_releases, wfeTimeout_expires, fun n s hw hirq => ?noWait, fun n d mask lim at0 s hw h hirq => ?noLine,
    fun n s hw hirq => ?noWaitOut, fun n d mask at0 s hw hirq => ?noLimit, mpost_posts, mpost_full, mpost_illegal, mtake_takes, mtake_empty, mtake_illegal⟩
  case noWait =>
    refine nothing_completes ((congrArg done (?_ : s.wfeRelease n = s))) hirq
    simp only [State.wfeRelease, hw]
  case noLine =>
    refine nothing_completes ((congrArg done (?_ : s.wfeRelease n = s))) hirq
    simp only [State.wfeRelease, hw, h, if_true]
  case noWaitOut =>
    refine nothing_completes ((congrArg done (?_ : s.wfeExpire n = s))) hirq
    simp only [State.wfeExpire, hw]
  case noLimit =>
    refine nothing_completes ((congrArg done (?_ : s.wfeExpire n = s))) hirq
    simp only [State.wfeExpire, hw, if_true]

end Sys2Proof.Machine
end

section
/-! SUPPORT. Interrupts, WFI, and the lock-up of the supervisor (R223, R224, R226 to R228). -/

namespace Sys2Proof.Machine

/-! ## What a device-level fault without a shutdown of the transmitters leaves alone (R408, R409) -/

section Raise
variable (s : State)

theorem State.freeze_rd_ne (i : Nat) {b : Nat} (h : b ≠ R.FAULT_LADDER i) : (s.freeze i).rd b = s.rd b := by
  have active (t : State) : (if t.is (F.FAULT_LADDER_ACTIVE i) then
      (t.put (F.FAULT_LADDER_ACTIVE i) false).setLadder i { t.ladder i with paused := true } else t).rd b = t.rd b := by
    split
    · exact State.put_rd_ne t (F.FAULT_LADDER_ACTIVE i) false h
    · rfl
  unfold State.freeze
  dsimp only
  rw [State.put_rd_ne _ (F.FAULT_LADDER_FROZEN i) true h, active]
  split <;> rfl

theorem State.preempt_rd_ne {b : Nat} (hdev : b < 0x04100000) (h1 : b ≠ R.MODE_STATUS) (h2 : b ≠ R.MODE_RESULT) (h3 : b ≠ R.MODE_EVENT) :
    s.preempt.rd b = s.rd b := by
  have outcome (t : State) (c r : Nat) : (t.outcome c r).rd b = t.rd b := State.outcome_onlyDev t c r b hdev (by simp [h2, h3])
  have cut (t : State) (tr : Trans) : ({ t.put F.MODE_STATUS_BUSY false with trans := tr }).rd b = t.rd b := State.put_rd_ne t F.MODE_STATUS_BUSY false h1
  unfold State.preempt
  dsimp only
  split
  · rw [outcome, State.put_rd_ne _ F.MODE_STATUS_WAITING false h1]
    split
    · rw [outcome, cut]
    · rfl
  · split
    · rw [outcome, cut]
    · rfl

theorem State.logPut_rd_ne (e : LogEntry) {b : Nat} (h1 : b ≠ R.FAULT_EVENT) (h2 : b ≠ R.FAULT_LOG_DROP) : (s.logPut e).rd b = s.rd b := by
  unfold State.logPut
  dsimp only
  split
  · rfl
  · split
    · exact State.setBit_rd_ne _ F.FAULT_EVENT_BITS _ h1
    · exact (State.bump_rd_ne _ F.FAULT_LOG_DROP_COUNT _ h2).trans (State.setBit_rd_ne _ F.FAULT_EVENT_BITS _ h1)

/-- The class of a device-level fault raised is active. -/
theorem State.devRaise_active (cls detail data : Nat) (h1 : 1 ≤ cls) (h5 : cls ≤ 5) :
    bitAt ((s.devRaise cls false detail data).fld F.FAULT_DEV_ACTIVE_CLASS) (cls - 1) = true := by
  have hrd : (s.devRaise cls false detail data).rd R.FAULT_DEV_ACTIVE =
      (s.setFld F.FAULT_DEV_ACTIVE_CLASS (s.fld F.FAULT_DEV_ACTIVE_CLASS ||| 2 ^ (cls - 1))).rd R.FAULT_DEV_ACTIVE := by
    unfold State.devRaise
    simp only [Bool.false_eq_true, if_false]
    rw [State.preempt_rd_ne _ (by decide) (by decide) (by decide) (by decide), each_rd, State.logPut_rd_ne _ _ (by decide) (by decide),
      State.setBit_rd_ne _ _ _ (by decide)]
    intro s i hi
    refine State.freeze_rd_ne s i ?_
    simp only [R.FAULT_DEV_ACTIVE, R.FAULT_LADDER]
    omega
  have hfld := State.fld_congr (f := F.FAULT_DEV_ACTIVE_CLASS) hrd
  rw [hfld, State.setFld_fld_same _ _ _ (Fld.fits_of rfl), ← testBit_eq_bitAt, Nat.testBit_mod_two_pow, Nat.testBit_or, Nat.testBit_two_pow_self, Bool.or_true,
    Bool.and_true, decide_eq_true_eq]
  show cls - 1 < 5
  omega

/-- A device-level fault that shuts no transmitter down stays within registers, lanes, ladders, the log and the transition. -/
theorem State.devRaise_within (cls detail data : Nat) : s.Within 0x800183 (s.devRaise cls false detail data) := by
  have C := within_closed 0x800183 s
  unfold State.devRaise
  simp only [Bool.false_eq_true, if_false]
  refine State.preempt_closed C rfl _ (each_closed C rfl _ _ _ ?_ fun i t h => State.freeze_closed C rfl t i h)
  exact State.logPut_closed C rfl _ _ (State.setBit_closed C rfl _ _ _ (State.setFld_closed C rfl _ _ _ (State.Within.refl ..)))

end Raise

/-! ## Interrupts (R226) -/

section Interrupt
variable {s : State} {secure : Bool}

theorem State.takeInterrupt_enters (hon : s.coreOn .sup = true) (hhalt : s.sup.halted = false) (h : (if secure then s.takesSecure else s.takesNonSecure) = true) :
    s.takeInterrupt secure = s.enterTrap secure (if secure then 13 else 14) 0 s.sup.pc 0#32 := by
  cases secure <;> simp_all [State.takeInterrupt]

theorem State.takeInterrupt_ignored (h : s.coreOn .sup = false ∨ (if secure then s.takesSecure else s.takesNonSecure) = false) : s.takeInterrupt secure = s := by
  unfold State.takeInterrupt
  cases secure <;> rcases h with h | h <;> simp_all

theorem interrupt_taken (hon : s.coreOn .sup = true) (hhalt : s.sup.halted = false) (h : (if secure then s.takesSecure else s.takesNonSecure) = true) :
    Completes (.interruptTaken secure) s fun t => s.SupTrapped secure (if secure then 13 else 14) 0 s.sup.pc 0#32 t := by
  refine done_completes (u := s.takeInterrupt secure) rfl ?_
  rw [State.takeInterrupt_enters hon hhalt h]
  exact State.enterTrap_supTrapped ..

end Interrupt

/-! ## What only the supervisor's own part has changed -/

/-- A state that differs in the supervisor's pc and condition alone. -/
theorem State.coreOnly_sup {s t : State} (hbeyond : t.beyondSup = s.beyondSup) (hseqs : t.seqs = s.seqs) (hcreg : ∀ c, t.creg c = s.creg c) :
    s.CoreOnly .sup [] t := by
  obtain ⟨hgpr, hmem, hout, hregs⟩ := State.keeps_of_beyondSup hbeyond
  refine ⟨fun j r _ => by rw [State.g, State.g, hgpr], fun j hj => ?_, fun c _ => hcreg c, by rw [hcreg], hregs, hmem, hout⟩
  cases j with
  | sup => exact absurd rfl hj
  | ls n => simp [State.pcOf, State.flags, State.seq, hseqs]

theorem wfi_waits (s : State) (hon : s.coreOn .sup = true) (hlvl : s.level ≤ 1) :
    Completes .wfi s fun t => t.sup.wfi = !(s.secureReq || s.nonSecureReq) ∧ t.sup.pc = s.sup.pc + 4#32 ∧ s.CoreOnly .sup [] t := by
  refine done_completes (u := s.runWfi) rfl ?_
  have hrun : s.runWfi = { s.advance .sup with sup := { (s.advance .sup).sup with wfi := !(s.secureReq || s.nonSecureReq) } } := by
    rw [State.runWfi, if_pos hon, if_neg (by omega)]
  have hpc : (s.advance .sup).sup.pc = s.sup.pc + 4#32 := State.setPc_sup_pc ..
  have hbeyond : (s.advance .sup).beyondSup = s.beyondSup := State.setPc_sup_beyondSup ..
  have hseqs : (s.advance .sup).seqs = s.seqs := State.tally_seqs ..
  have hcreg (c : Nat) : (s.advance .sup).creg c = s.creg c := State.setPc_sup_creg ..
  rw [hrun]
  generalize s.advance .sup = u at hpc hbeyond hseqs hcreg ⊢
  exact ⟨rfl, hpc, State.coreOnly_sup hbeyond hseqs hcreg⟩

theorem wfi_woken (s : State) (hwfi : s.sup.wfi = true) :
    Completes .wfiWake s fun t => t.sup.wfi = !(s.secureReq || s.nonSecureReq) ∧ t.sup.pc = s.sup.pc ∧ s.CoreOnly .sup [] t := by
  refine done_completes (u := s.wakeWfi) rfl ?_
  unfold State.wakeWfi
  cases hreq : s.secureReq || s.nonSecureReq with
  | true =>
    rw [hwfi, Bool.and_true, if_pos rfl]
    exact ⟨rfl, rfl, State.coreOnly_sup rfl rfl fun _ => rfl⟩
  | false =>
    rw [Bool.and_false, if_neg (by decide)]
    exact ⟨hwfi, rfl, State.coreOnly_sup rfl rfl fun _ => rfl⟩

/-! ## A trap inside a trap (R224) -/

theorem State.SupTrapped.settle {s t : State} {secure : Bool} {cause detail : Nat} {epc tval : Word} (h : s.SupTrapped secure cause detail epc tval t) :
    s.SupTrapped secure cause detail epc tval (settle t) := h

theorem State.supTrap_doubles {s : State} {cause : Nat} (hroute : s.toSecure cause = false) (hns : bitAt (s.creg 0).toNat 5 = true)
    (hs : bitAt (s.creg 0).toNat 4 = false) (detail : Nat) (epc tval : Word) :
    s.supTrap cause detail epc tval = s.enterTrap true 15 0 s.sup.pc (BitVec.ofNat 32 (cause + 256 * detail)) := by
  have hroute' : (decide (s.level = 0) || s.cbit 11 cause) = false := hroute
  unfold State.supTrap
  rw [hroute']
  simp [State.cbit, hns, hs]

theorem State.supTrap_locksUp {s : State} {cause : Nat} (hroute : s.toSecure cause = true) (hs : bitAt (s.creg 0).toNat 4 = true) (detail : Nat)
    (epc tval : Word) : s.supTrap cause detail epc tval = s.lockUp cause := by
  have hroute' : (decide (s.level = 0) || s.cbit 11 cause) = true := hroute
  unfold State.supTrap
  rw [hroute']
  simp [State.cbit, hs]

theorem svc_doubles (imm : BitVec 16) (s : State) (hon : s.coreOn .sup = true) (hroute : s.toSecure 12 = false) (hns : bitAt (s.creg 0).toNat 5 = true)
    (hs : bitAt (s.creg 0).toNat 4 = false) : Completes (.svc imm) s fun t => s.SupTrapped true 15 0 s.sup.pc 12#32 t := by
  refine done_completes (u := if s.coreOn .sup then s.supTrap 12 0 (s.sup.pc + 4#32) (zext16 imm) else s) rfl ?_
  have htval : BitVec.ofNat 32 (12 + 256 * 0) = 12#32 := by decide
  rw [if_pos hon, State.supTrap_doubles hroute hns hs, htval]
  exact (State.enterTrap_supTrapped ..).settle

theorem illegal_locksUp (w : Word) (s : State) (hon : s.coreOn .sup = true) (hw : instrOf .sup w = none) (hroute : s.toSecure 1 = true)
    (hs : bitAt (s.creg 0).toNat 4 = true) :
    Completes (.illegalInstruction .sup w) s fun t => t.sup.lockup = true ∧ bitAt (t.fld F.FAULT_DEV_ACTIVE_CLASS) 0 = true ∧ t.sup.pc = s.sup.pc ∧
      t.creg 0 = s.creg 0 ∧ t.gpr = s.gpr := by
  have hrun : (if s.coreOn .sup && (instrOf .sup w).isNone then s.illegal .sup w else s) = s.lockUp 1 := by
    rw [hon, hw]
    exact (if_pos rfl).trans (State.supTrap_locksUp hroute hs ..)
  refine done_completes (u := if s.coreOn .sup && (instrOf .sup w).isNone then s.illegal .sup w else s) rfl ?_
  rw [hrun]
  have hwithin := State.devRaise_within { s with sup := { s.sup with lockup := true, stepping := false } } 1 1 s.sup.pc.toNat
  have hactive := State.devRaise_active { s with sup := { s.sup with lockup := true, stepping := false } } 1 1 s.sup.pc.toNat (by decide) (by decide)
  unfold State.lockUp
  generalize ({ s with sup := { s.sup with lockup := true, stepping := false } }).devRaise 1 false 1 s.sup.pc.toNat = u at hwithin hactive ⊢
  have hsup : u.sup = { s.sup with lockup := true, stepping := false } := hwithin.same .sup rfl
  have hcregs : u.cregs = s.cregs := hwithin.same .cregs rfl
  refine ⟨?_, hactive, ?_, ?_, hwithin.same .gpr rfl⟩
  · rw [settle_sup, hsup]
  · rw [settle_sup, hsup]
  · show tabGet cregReset u.cregs 0 = tabGet cregReset s.cregs 0
    rw [hcregs]

/-- Settles O28: what takes an interrupt and what ignores one, what a trap inside a trap makes, and what a WFI waits for (R224, R226 to R228). -/
theorem supervisorTakesInterruptsAndWaits : Obligations.SupervisorTakesInterruptsAndWaits := by
  unfold Obligations.SupervisorTakesInterruptsAndWaits
  refine ⟨fun s hon hhalt h => interrupt_taken hon hhalt h, fun s hon hhalt h => interrupt_taken (secure := false) hon hhalt h, fun b s h => ?ignored, svc_doubles,
    illegal_locksUp, wfi_waits, fun s hon hlvl hmay => ?denied, wfi_woken⟩
  case ignored =>
    refine done_completes (u := s.takeInterrupt b) rfl ?_
    rw [State.takeInterrupt_ignored h]
    exact ⟨State.coreOnly_sup rfl rfl fun _ => rfl, rfl⟩
  case denied =>
    have hrun : s.runWfi = s.priv 0xA8000000#32 := by
      rw [State.runWfi, if_pos hon, if_pos hlvl]
      rfl
    exact done_completes (u := s.runWfi) rfl (hrun ▸ State.priv_trapped hmay _)

end Sys2Proof.Machine
end

section
/-! SUPPORT. A claim of a whole register where a write keeps the bits that no field lists: a state that holds one contradicts it. -/

namespace Sys2Proof.Machine

/-- A bit of the filter register of counter 0 that no field lists stands at 1. -/
def unlistedFilterBit : State := { State.reset with regs := State.reset.regs ++ [(R.PERF_CNT_CTL 0 + 0x0C, 0x1000#32)] }

/-- Refutes O52: a write of a filter register leaves the bits that no field lists as they are, and the statement has them read as 0 afterwards. -/
theorem not_countersAreReadLoadedAndFrozen : ¬ Obligations.CountersAreReadLoadedAndFrozen := by
  unfold Obligations.CountersAreReadLoadedAndFrozen
  intro h
  obtain ⟨-, -, -, -, -, -, -, -, -, -, -, -, -, -, stored, -⟩ := h
  obtain ⟨t, e, -, hvalue, -⟩ := stored .supS 0 1 0#32 unlistedFilterBit (by decide) (by decide) (by decide) (by decide)
  have hrun : (t.rd (R.PERF_CNT_CTL 0 + 0x0C) == 0x1000#32) = true :=
    leaves_next e (q := fun t => t.rd (R.PERF_CNT_CTL 0 + 0x0C) == 0x1000#32) (by decide +kernel)
  rw [show t.rd (R.PERF_CNT_CTL 0 + 0x0C) = 0#32 from hvalue] at hrun
  exact absurd hrun (by decide)

/-- The supervisor's domain on and no semaphore held. -/
def semaphoresFree : State := { State.reset with regs := [(R.PWR_DOM_STAT, 0x1C003#32)] }

/-- Refutes O35: the first claim ends its condition on the master inside the case of semaphores 16 to 31, so that for semaphores 0 to 15 it says that
every master that reaches them is 0x1 or 0x3; the management port reaches them. -/
theorem not_semaphoresAndNoticesAreTaken : ¬ Obligations.SemaphoresAndNoticesAreTaken := by
  unfold Obligations.SemaphoresAndNoticesAreTaken
  intro h
  obtain ⟨granted, -⟩ := h
  have hmaster : Master.code .smp = 1 ∨ Master.code .smp = 3 := granted .smp 0 semaphoresFree (by decide)
  exact absurd hmaster (by decide)

end Sys2Proof.Machine
end

section
/-! SUPPORT. Posts, resets of parties, and interrupts of the mailbox block (R245 to R253, R261, R266). -/

namespace Sys2Proof.Machine

/-! ## The access log -/

section AccLog
variable (s : State) (m : Master) (sem : Bool) (i : Nat)

theorem State.accLog_rd_ne {b : Nat} (h : b ≠ R.MBOX_ACC_LOG) : (s.accLog m sem i).rd b = s.rd b := by
  unfold State.accLog
  rw [State.bump_rd_ne _ F.MBOX_ACC_LOG_COUNT _ h, State.setFld_rd_ne _ F.MBOX_ACC_LOG_MASTER _ h, State.put_rd_ne _ F.MBOX_ACC_LOG_KIND _ h,
    State.setFld_rd_ne _ F.MBOX_ACC_LOG_INDEX _ h]

theorem State.accLog_count : (s.accLog m sem i).fld F.MBOX_ACC_LOG_COUNT = min (s.fld F.MBOX_ACC_LOG_COUNT + 1) 65535 := by
  unfold State.accLog
  rw [State.bump_fld_same _ _ _ (by decide), State.setFld_fld_apart _ _ _ _ (by decide) (by decide), State.put_fld_apart _ _ _ _ (by decide) (by decide),
    State.setFld_fld_apart _ _ _ _ (by decide) (by decide)]
  rfl

theorem State.accLog_index (h : i < 128) : (s.accLog m sem i).fld F.MBOX_ACC_LOG_INDEX = i := by
  unfold State.accLog
  rw [State.bump_fld_apart _ _ _ _ (by decide) (by decide), State.setFld_fld_apart _ _ _ _ (by decide) (by decide),
    State.put_fld_apart _ _ _ _ (by decide) (by decide), State.setFld_fld_same _ _ _ (by decide)]
  exact Nat.mod_eq_of_lt h

theorem State.accLog_kind : (s.accLog m sem i).is F.MBOX_ACC_LOG_KIND = sem := by
  unfold State.accLog
  rw [State.bump_is_apart _ _ _ _ (by decide) (by decide), State.setFld_is_apart _ _ _ _ (by decide) (by decide), State.put_is_same _ _ _ (by decide) rfl]

theorem State.accLog_master : (s.accLog m sem i).fld F.MBOX_ACC_LOG_MASTER = m.holder := by
  unfold State.accLog
  rw [State.bump_fld_apart _ _ _ _ (by decide) (by decide), State.setFld_fld_same _ _ _ (by decide)]
  exact Nat.mod_eq_of_lt (Master.holder_lt m)

/-- An access refused by a channel or a semaphore stands in the log, and changes nothing else (R250). -/
theorem State.accLog_logged (h : i < 128) {t : State} (ht : (s.accLog m sem i).Apart t) :
    t.fld F.MBOX_ACC_LOG_COUNT = min (s.fld F.MBOX_ACC_LOG_COUNT + 1) 65535 ∧ t.fld F.MBOX_ACC_LOG_INDEX = i ∧ t.is F.MBOX_ACC_LOG_KIND = sem ∧
      t.fld F.MBOX_ACC_LOG_MASTER = m.holder ∧ s.Only [R.MBOX_ACC_LOG] t := by
  refine ⟨?_, ?_, ?_, ?_, fun b hb => ?_⟩
  · rw [ht.fld, State.accLog_count]
  · rw [ht.fld, State.accLog_index _ _ _ _ h]
  · rw [ht.is, State.accLog_kind]
  · rw [ht.fld, State.accLog_master]
  · rw [ht.rd, State.accLog_rd_ne _ _ _ _ (List.ne_of_not_mem_cons hb)]

end AccLog

/-! ## Bits set in a whole register -/

/-- A bit set in the field that is a whole register. -/
theorem State.setBit_whole (s : State) (a i : Nat) (hi : i < 32) : (s.setBit ⟨a, 0, 32⟩ i).rd a = s.rd a ||| BitVec.twoPow 32 i := by
  have hbit : bitAt (s.fld ⟨a, 0, 32⟩) i = (s.rd a).getLsbD i := by
    rw [State.fld_whole, ← testBit_eq_bitAt]
    rfl
  unfold State.setBit
  rw [hbit]
  split
  · rename_i hset
    refine BitVec.eq_of_getLsbD_eq fun j _ => ?_
    rw [BitVec.getLsbD_or, BitVec.getLsbD_twoPow]
    by_cases hj : i = j
    · rw [← hj, hset, Bool.true_or]
    · simp [hj]
  · rename_i hclear
    have hand : s.rd a &&& BitVec.twoPow 32 i = 0#32 := by rw [BitVec.and_twoPow, if_neg hclear]
    rw [← BitVec.add_eq_or_of_and_eq_zero _ _ hand]
    refine BitVec.eq_of_toNat_eq ?_
    rw [← State.fld_whole, State.setFld_fld_same _ _ _ (Fld.fits_of rfl), State.fld_whole, BitVec.toNat_add, BitVec.toNat_twoPow, Nat.add_mod_mod]

theorem chanReserved_eq_false {c : Nat} (h : c ≠ 6 ∧ c ≠ 7) : chanReserved c = false := by
  rw [chanReserved, Bool.or_eq_false_iff, beq_eq_false_iff_ne, beq_eq_false_iff_ne]
  exact h

theorem chanReserved_eq_true {c : Nat} (h : c = 6 ∨ c = 7) : chanReserved c = true := by
  rw [chanReserved, Bool.or_eq_true, beq_iff_eq, beq_iff_eq]
  exact h

theorem State.Apart.chans {s t : State} (h : s.Apart t) : t.chans = s.chans := by
  obtain ⟨p, o, d, rfl⟩ := h
  rfl

theorem State.line_keeps_chans (s : State) (n i : Nat) : (s.line n i).chans = s.chans := by
  unfold State.line
  split
  · exact (State.setBit_keeps ..).1
  · rfl


/-! ## Posts (R247 to R250) -/

section Post
variable {s : State} {m : Master} {c : Fin 104}

/-- A post on a channel that has room, up to the receiver's event. -/
theorem State.post_appended {lo hi : Word} (h : (s.chan c).q.length < 4) :
    s.post c lo hi = (((s.setChan c { s.chan c with q := (s.chan c).q ++ [(lo, noticeHigh hi)] }).incr (F.MBOX_CH_STAT_POSTED c)).arrived c, true) := by
  rw [State.post, if_neg (by omega)]

theorem State.arrived_chans (s : State) (c : Nat) : (s.arrived c).chans = s.chans := by
  unfold State.arrived
  split
  · exact State.line_keeps_chans ..
  · exact (State.setBit_keeps ..).1

theorem State.setBit_out (s : State) (f : Fld) (i : Nat) : (s.setBit f i).out = s.out := by
  unfold State.setBit
  split <;> rfl

theorem State.arrived_out (s : State) (c : Nat) : (s.arrived c).out = s.out := by
  unfold State.arrived
  split
  · exact State.line_out ..
  · exact State.setBit_out ..

/-- The events of arrival stand beside the channel's count of posts. -/
theorem State.arrived_posted (s : State) (c : Fin 104) : (s.arrived c).fld (F.MBOX_CH_STAT_POSTED c) = s.fld (F.MBOX_CH_STAT_POSTED c) := by
  unfold State.arrived State.fld
  split
  · rw [State.line_rd_ne _ _ _ (by simp only [F.LRX_SEQ_EVT_LINES, F.MBOX_CH_STAT_POSTED, R.LRX_SEQ_EVT, R.MBOX_CH_STAT, laneBase]; omega)]
  · rw [State.setBit_rd_ne _ _ _ (by simp only [F.MBOX_ARRIVE_CH, F.MBOX_CH_STAT_POSTED, R.MBOX_ARRIVE, R.MBOX_CH_STAT]; omega)]

theorem post_accepted (m : Master) (c : Fin 104) (v : Word) (s : State) (h : s.Reached m (R.MBOX_CH_HI c)) (hc : c.val ≠ 6 ∧ c.val ≠ 7) (hm : mayPost m c = true)
    (hroom : (s.chan c).q.length < 4) :
    Completes (.mailboxPost m c v) s fun t => s.Answered m 0 t ∧
      (t.chan c).q = (s.chan c).q ++ [((s.chan c).staged, (v &&& 0x3FFFFFFF#32) ||| 0x40000000#32)] ∧
      t.fld (F.MBOX_CH_STAT_POSTED c) = (s.fld (F.MBOX_CH_STAT_POSTED c) + 1) % 256 ∧
      (c.val < 56 → bitAt (t.rd (R.MBOX_ARRIVE (c / 32))).toNat (c % 32) = true) ∧
      (56 ≤ c.val → s.laneOn (c - 56) = true → bitAt (t.fld (F.LRX_SEQ_EVT_LINES (c - 56))) 16 = true) := by
  refine via_completes (f := fun s => s.postHi m c v) rfl h fun t ht hout => ?_
  have hrun : s.postHi m c v = ((((s.setChan c { s.chan c with q := (s.chan c).q ++ [((s.chan c).staged, noticeHigh v)] }).incr (F.MBOX_CH_STAT_POSTED c)).arrived c).tally
      (s.masterEvent 0x10 m.code none), .ok) := by
    unfold State.postHi
    rw [chanReserved_eq_false hc, hm, State.post_appended hroom]
    rfl
  rw [hrun] at ht hout
  generalize s.masterEvent 0x10 m.code none = e at ht hout
  refine ⟨hout.trans ?_, ?_, ?_, fun hlow => ?_, fun hlane hon => ?_⟩
  · rw [State.tally_out, State.arrived_out]
    rfl
  · rw [State.chan, ht.chans, State.tally_chans, State.arrived_chans]
    exact congrArg Chan.q ((State.setChan_chan ..).trans (if_pos rfl))
  · rw [ht.fld, State.tally_fld, State.arrived_posted, State.incr_fld_same _ _ (Fld.fits_of rfl)]
    rfl
  · rw [ht.rd, State.tally_rd, State.arrived, if_neg (by omega), ← State.fld_whole]
    exact State.setBit_set _ _ _ (Fld.fits_of rfl) (Nat.mod_lt _ (by decide))
  · rw [ht.fld, State.tally_fld, State.arrived, if_pos hlane, State.line, if_pos]
    · exact State.setBit_set _ _ _ (Fld.fits_of rfl) (show 16 < 32 by decide)
    · rw [State.laneOn, State.domOn, State.fld, State.incr_rd_ne _ (F.MBOX_CH_STAT_POSTED c) (by simp only [F.PWR_DOM_STAT_ON, F.MBOX_CH_STAT_POSTED, R.PWR_DOM_STAT, R.MBOX_CH_STAT]; omega)]
      exact hon

theorem post_overflows (m : Master) (c : Fin 104) (v : Word) (s : State) (h : s.Reached m (R.MBOX_CH_HI c)) (hc : c.val ≠ 6 ∧ c.val ≠ 7) (hm : mayPost m c = true)
    (hfull : 4 ≤ (s.chan c).q.length) :
    Completes (.mailboxPost m c v) s fun t => s.Answered m 1 t ∧ t.chans = s.chans ∧
      t.fld (F.MBOX_CH_STAT_REFUSED c) = (s.fld (F.MBOX_CH_STAT_REFUSED c) + 1) % 256 ∧ s.Only [R.MBOX_CH_STAT c] t := by
  refine via_completes (f := fun s => s.postHi m c v) rfl h fun t ht hout => ?_
  have hrun : s.postHi m c v = ((s.setFld (F.MBOX_CH_STAT_REFUSED c) (s.fld (F.MBOX_CH_STAT_REFUSED c) + 1)).tally (s.masterEvent 0x11 m.code none), .err 1) := by
    unfold State.postHi State.post
    rw [chanReserved_eq_false hc, hm, if_pos hfull]
    rfl
  rw [hrun] at ht hout
  generalize s.masterEvent 0x11 m.code none = e at ht hout
  refine ⟨hout.trans (by rw [State.tally_out]; rfl), ?_, ?_, fun b hb => ?_⟩
  · rw [ht.chans, State.tally_chans]
    rfl
  · rw [ht.fld, State.tally_fld, State.setFld_fld_same _ _ _ (Fld.fits_of rfl)]
    rfl
  · rw [ht.rd, State.tally_rd, State.setFld_rd_ne _ (F.MBOX_CH_STAT_REFUSED c) _ (List.ne_of_not_mem_cons hb)]

theorem post_denied (m : Master) (c : Fin 104) (v : Word) (s : State) (h : s.Reached m (R.MBOX_CH_HI c)) (hc : c.val ≠ 6 ∧ c.val ≠ 7) (hm : mayPost m c = false) :
    Completes (.mailboxPost m c v) s fun t => s.Answered m 2 t ∧ t.chans = s.chans ∧ t.fld F.MBOX_ACC_LOG_COUNT = min (s.fld F.MBOX_ACC_LOG_COUNT + 1) 65535 ∧
      t.fld F.MBOX_ACC_LOG_INDEX = c.val ∧ t.is F.MBOX_ACC_LOG_KIND = false ∧ t.fld F.MBOX_ACC_LOG_MASTER = m.holder ∧ s.Only [R.MBOX_ACC_LOG] t := by
  refine via_completes (f := fun s => s.postHi m c v) rfl h fun t ht hout => ?_
  have hrun : s.postHi m c v = (s.accLog m false c, .err 2) := by
    unfold State.postHi
    rw [chanReserved_eq_false hc, hm]
    rfl
  rw [hrun] at ht hout
  exact ⟨hout, ht.chans, State.accLog_logged s m false c (by omega) ht⟩

theorem post_reserved (m : Master) (c : Fin 104) (v : Word) (s : State) (h : s.Reached m (R.MBOX_CH_HI c)) (hc : c.val = 6 ∨ c.val = 7) :
    Completes (.mailboxPost m c v) s fun t => s.Answered m 0 t ∧ t.chans = s.chans ∧ s.Only [] t := by
  refine via_completes (f := fun s => s.postHi m c v) rfl h fun t ht hout => ?_
  have hrun : s.postHi m c v = (s, .ok) := by
    unfold State.postHi
    rw [chanReserved_eq_true hc]
    rfl
  rw [hrun] at ht hout
  exact ⟨hout, ht.chans, fun b _ => ht.rd b⟩

end Post

/-! ## Resets of parties (R251 to R253) -/

/-- The party that a master declares reset, by the number of its two channels: it sends on the first and takes from the second. -/
def ItsParty (m : Master) (k : Nat) : Prop := m.code = 3 ∧ k = 0 ∨ m.code = 4 ∧ k = 1 ∨ m.code = 5 ∧ k = 2

/-- The bit of RESET_DECL that a master may write (R251). -/
def partyBit (m : Master) : Nat := if m.code = 3 then 1 else if m.code = 4 then 2 else if m.code = 5 then 4 else 0

theorem partyBit_of_party {m : Master} {k : Nat} (h : ItsParty m k) : partyBit m = 2 ^ k := by
  rcases h with ⟨hm, rfl⟩ | ⟨hm, rfl⟩ | ⟨hm, rfl⟩
  all_goals
    rw [partyBit, hm]
    rfl

theorem State.resetDecl_eq (s : State) (m : Master) (v : Word) : s.resetDecl m v =
    (if bitAt v.toNat 0 && partyBit m == 1 then s.partyReset 0 1 else if bitAt v.toNat 1 && partyBit m == 2 then s.partyReset 2 3
      else if bitAt v.toNat 2 && partyBit m == 4 then s.partyReset 4 5 else s,
      if v.toNat % 8 - (v.toNat % 8 &&& partyBit m) = 0 then .ok else .err 2) := rfl

theorem own_bit_alone : ∀ (k : Fin 3) (w : Fin 8), w.val.testBit k.val = true → (w.val - (w.val &&& 2 ^ k.val) = 0 ↔ w.val = 2 ^ k.val) := by decide

/-- A declaration by party k that names no other party. -/
theorem declared_alone (x : Nat) {k : Nat} (hk : k < 3) (hx : bitAt x k = true) : (x % 8 - (x % 8 &&& 2 ^ k) = 0) ↔ x % 8 = 2 ^ k := by
  have hbit : (x % 2 ^ 3).testBit k = true := by rw [Nat.testBit_mod_two_pow, testBit_eq_bitAt, hx, decide_eq_true hk, Bool.true_and]
  exact own_bit_alone ⟨k, hk⟩ ⟨x % 8, Nat.mod_lt _ (by decide)⟩ hbit

theorem State.resetDecl_own (s : State) (m : Master) (v : Word) {k : Nat} (hm : ItsParty m k) (hv : bitAt v.toNat k = true) :
    s.resetDecl m v = (s.partyReset (2 * k) (2 * k + 1), if v.toNat % 8 = 2 ^ k then .ok else .err 2) := by
  have hk : k < 3 := by
    unfold ItsParty at hm
    omega
  rw [State.resetDecl_eq, partyBit_of_party hm, if_congr (declared_alone v.toNat hk hv) rfl rfl]
  rcases hm with ⟨-, rfl⟩ | ⟨-, rfl⟩ | ⟨-, rfl⟩
  all_goals simp [hv]

theorem answer_code (p : Prop) [Decidable p] : (if p then Resp.ok else .err 2).code = if p then 0 else 2 := apply_ite Resp.code p _ _

/-- A sender's reset at a channel of a party: what was pending is withdrawn and counted, and its receiver is told (R253). -/
theorem State.partyReset_effect (s : State) {k : Nat} (hk : k < 3) :
    ((s.partyReset (2 * k) (2 * k + 1)).chan (2 * k)).q = [] ∧
      ((s.partyReset (2 * k) (2 * k + 1)).chan (2 * k + 1)).q = (s.chan (2 * k + 1)).q.map (fun x => (x.1, x.2 ||| 0x80000000#32)) ∧
      (∀ c : Nat, c ≠ 2 * k → c ≠ 2 * k + 1 → (s.partyReset (2 * k) (2 * k + 1)).chan c = s.chan c) := by
  have hreset : s.partyReset (2 * k) (2 * k + 1) = ((s.receiverReset (2 * k + 1)).withdraw (2 * k)).setBit (F.MBOX_SRESET_CH (2 * k / 32)) (2 * k % 32) := by
    rw [State.partyReset, State.senderReset, if_neg (by omega)]
  have hchans (c : Nat) : (s.partyReset (2 * k) (2 * k + 1)).chan c =
      ((s.receiverReset (2 * k + 1)).setChan (2 * k) { (s.receiverReset (2 * k + 1)).chan (2 * k) with q := [] }).chan c := by
    rw [hreset, State.chan, (State.setBit_keeps ..).1]
    rfl
  simp only [hchans, State.setChan_chan, State.receiverReset]
  refine ⟨by simp, by simp, fun c h0 h1 => by simp [h0, h1]⟩


/-- Its registers: what it withdrew, and the receiver's event. -/
theorem State.partyReset_eq (s : State) {k : Nat} (hk : k < 3) :
    s.partyReset (2 * k) (2 * k + 1) = ((s.receiverReset (2 * k + 1)).withdraw (2 * k)).setBit (F.MBOX_SRESET_CH 0) (2 * k) := by
  rw [State.partyReset, State.senderReset, if_neg (by omega), show 2 * k / 32 = 0 by omega, show 2 * k % 32 = 2 * k by omega]

theorem State.receiverReset_other (s : State) {a b : Nat} (h : b ≠ a) : (s.receiverReset a).chan b = s.chan b := by
  rw [State.receiverReset, State.setChan_chan, if_neg h]

theorem State.withdraw_out (s : State) (c : Nat) : (s.withdraw c).out = s.out := State.setFld_out ..

theorem State.withdraw_withdrawn (s : State) (c : Nat) :
    (s.withdraw c).fld (F.MBOX_CH_STAT_WITHDRAWN c) = (s.fld (F.MBOX_CH_STAT_WITHDRAWN c) + (s.chan c).q.length) % 256 :=
  State.setFld_fld_same _ _ _ (Fld.fits_of rfl)

theorem reset_declared (m : Master) (v : Word) (k : Nat) (s : State) (h : s.Reached m R.MBOX_RESET_DECL) (hm : ItsParty m k) (hv : bitAt v.toNat k = true) :
    Completes (.resetDecl m v) s fun t => s.Answered m (if v.toNat % 8 = 2 ^ k then 0 else 2) t ∧ (t.chan (2 * k)).q = [] ∧
      (t.chan (2 * k + 1)).q = (s.chan (2 * k + 1)).q.map (fun x => (x.1, x.2 ||| 0x80000000#32)) ∧
      t.fld (F.MBOX_CH_STAT_WITHDRAWN (2 * k)) = (s.fld (F.MBOX_CH_STAT_WITHDRAWN (2 * k)) + (s.chan (2 * k)).q.length) % 256 ∧
      bitAt (t.rd (R.MBOX_SRESET 0)).toNat (2 * k) = true ∧ (∀ c : Fin 104, c.val ≠ 2 * k → c.val ≠ 2 * k + 1 → t.chan c = s.chan c) ∧
      s.Only [R.MBOX_CH_STAT (2 * k), R.MBOX_SRESET 0] t := by
  refine via_completes (f := fun s => s.resetDecl m v) rfl h fun t ht hout => ?_
  have hk : k < 3 := by
    unfold ItsParty at hm
    omega
  rw [State.resetDecl_own s m v hm hv] at ht hout
  obtain ⟨hsent, htaken, hothers⟩ := s.partyReset_effect hk
  have hchan (c : Nat) : t.chan c = (s.partyReset (2 * k) (2 * k + 1)).chan c := by rw [State.chan, ht.chans, State.chan]
  refine ⟨?_, ?_, ?_, ?_, ?_, fun c h0 h1 => ?_, fun b hb => ?_⟩
  · rw [State.Answered, hout, answer_code, State.partyReset_eq s hk, State.setBit_out, State.withdraw_out]
    rfl
  · rw [hchan, hsent]
  · rw [hchan, htaken]
  · rw [ht.fld, State.partyReset_eq s hk, State.fld, State.setBit_rd_ne, ← State.fld, State.withdraw_withdrawn, State.receiverReset_other _ (by omega)]
    · rfl
    · simp only [F.MBOX_CH_STAT_WITHDRAWN, F.MBOX_SRESET_CH, R.MBOX_CH_STAT, R.MBOX_SRESET]
      omega
  · rw [ht.rd, State.partyReset_eq s hk, ← State.fld_whole]
    exact State.setBit_set _ _ _ (Fld.fits_of rfl) (show 2 * k < 32 by omega)
  · rw [hchan, hothers c h0 h1]
  · simp only [List.mem_cons, List.not_mem_nil, or_false, not_or] at hb
    obtain ⟨hstat, hreset⟩ := hb
    rw [ht.rd, State.partyReset_eq s hk, State.setBit_rd_ne _ (F.MBOX_SRESET_CH 0) _ hreset, State.withdraw, State.setFld_rd_ne _ (F.MBOX_CH_STAT_WITHDRAWN (2 * k)) _ hstat]
    rfl

/-- Bits of RESET_DECL that are not the master's own declare nothing (R251). -/
theorem reset_foreign (m : Master) (v : Word) (s : State) (h : s.Reached m R.MBOX_RESET_DECL) (h3 : bitAt v.toNat 0 = true → m.code ≠ 3)
    (h4 : bitAt v.toNat 1 = true → m.code ≠ 4) (h5 : bitAt v.toNat 2 = true → m.code ≠ 5) :
    Completes (.resetDecl m v) s fun t => s.Answered m (if v.toNat % 8 = 0 then 0 else 2) t ∧ t.chans = s.chans ∧ s.Only [] t := by
  refine via_completes (f := fun s => s.resetDecl m v) rfl h fun t ht hout => ?_
  have hown : ∀ (k : Fin 3) (w : Fin 8), w.val.testBit k.val = false → w.val &&& 2 ^ k.val = 0 := by decide
  have hbit (k : Nat) (hk : k < 3) : (v.toNat % 2 ^ 3).testBit k = bitAt v.toNat k := by
    rw [Nat.testBit_mod_two_pow, testBit_eq_bitAt, decide_eq_true hk, Bool.true_and]
  have hnone (k : Nat) (hk : k < 3) (hclear : bitAt v.toNat k = false) : v.toNat % 8 &&& 2 ^ k = 0 :=
    hown ⟨k, hk⟩ ⟨v.toNat % 8, Nat.mod_lt _ (by decide)⟩ ((hbit k hk).trans hclear)
  have hrun : s.resetDecl m v = (s, if v.toNat % 8 = 0 then .ok else .err 2) := by
    rw [State.resetDecl_eq]
    by_cases e3 : m.code = 3
    · have hclear : bitAt v.toNat 0 = false := Bool.eq_false_iff.mpr fun e => h3 e e3
      rw [partyBit_of_party (k := 0) (.inl ⟨e3, rfl⟩), hnone 0 (by decide) hclear]
      simp [hclear]
    by_cases e4 : m.code = 4
    · have hclear : bitAt v.toNat 1 = false := Bool.eq_false_iff.mpr fun e => h4 e e4
      rw [partyBit_of_party (k := 1) (.inr (.inl ⟨e4, rfl⟩)), hnone 1 (by decide) hclear]
      simp [hclear]
    by_cases e5 : m.code = 5
    · have hclear : bitAt v.toNat 2 = false := Bool.eq_false_iff.mpr fun e => h5 e e5
      rw [partyBit_of_party (k := 2) (.inr (.inr ⟨e5, rfl⟩)), hnone 2 (by decide) hclear]
      simp [hclear]
    · simp [partyBit, e3, e4, e5]
  rw [hrun] at ht hout
  exact ⟨by rw [State.Answered, hout, answer_code], ht.chans, fun b _ => ht.rd b⟩

/-! ## Pairs of registers that are one word of 64 bits -/

section Pair
variable (s : State) (lo : Nat)

theorem State.pair_testBit {i : Nat} (hi : i < 64) : (s.pair lo).testBit i = (s.rd (lo + 4 * (i / 32))).toNat.testBit (i % 32) := by
  rw [State.pair, Nat.add_comm, Nat.testBit_two_pow_mul_add _ (s.rd lo).isLt]
  split
  · rename_i h
    rw [show i / 32 = 0 by omega, show i % 32 = i by omega]
    rfl
  · rw [show i / 32 = 1 by omega, show i % 32 = i - 32 by omega]

/-- A bit of a pair of registers after one was written. -/
theorem State.putPairBit_testBit {v i : Nat} (hv : v < 64) (hi : i < 64) (b : Bool) :
    ((s.putPairBit lo v b).pair lo).testBit i = if i = v then b else (s.pair lo).testBit i := by
  rw [State.pair_testBit _ _ hi, State.pair_testBit _ _ hi]
  by_cases hword : i / 32 = v / 32
  · rw [hword]
    unfold State.putPairBit State.put State.setFld
    rw [State.wr_rd_same, setBits_testBit _ _ _ _ _ (by dsimp only; omega)]
    dsimp only
    by_cases hiv : i = v
    · rw [if_pos (by omega), if_pos hiv]
      cases b <;> simp [b2n, hiv]
    · rw [if_neg (by omega), if_neg hiv]
  · rw [if_neg (by omega), State.putPairBit, State.put_rd_ne _ _ _ (by simp only; omega)]

theorem State.putPairBit_only {v : Nat} (hv : v < 64) (b : Bool) {a : Nat} (h : a ≠ lo) (h4 : a ≠ lo + 4) : (s.putPairBit lo v b).rd a = s.rd a := by
  refine State.put_rd_ne _ _ _ ?_
  simp only
  omega

end Pair

theorem ofNat_testBit (x i : Nat) (hi : i < 64) : (BitVec.ofNat 64 x).getLsbD i = x.testBit i := by
  rw [BitVec.getLsbD_ofNat, decide_eq_true hi, Bool.true_and]

/-! ## Vectors (R261, R269, R297) -/

/-- Bytes counted on a port: the windows of the PERF block alone. -/
theorem State.bwCount_same (s : State) (k n : Nat) : ∃ p, s.bwCount k n = { s with perf := p } := by
  unfold State.bwCount
  split
  · exact ⟨_, rfl⟩
  · exact ⟨s.perf, rfl⟩

section Vector
variable (v : Fin 64) (s : State)

theorem hostEoi_ends (m : Master) (v : Fin 64) (s : State) (h : s.Reached m R.IRQ_HOST_EOI) :
    Completes (.hostEoi m v) s fun t => s.Answered m 0 t ∧
      BitVec.ofNat 64 (t.pair R.IRQ_HOST_INSERV_LO) = BitVec.ofNat 64 (s.pair R.IRQ_HOST_INSERV_LO) &&& ~~~(BitVec.ofNat 64 (2 ^ v.val)) ∧
      s.Only [R.IRQ_HOST_INSERV_LO, R.IRQ_HOST_INSERV_HI] t := by
  refine via_completes (f := fun s => (s.hostEoi v, .ok)) rfl h fun t ht hout => ⟨hout, ?_, fun b hb => ?_⟩
  · have hpair : t.pair R.IRQ_HOST_INSERV_LO = (s.putPairBit R.IRQ_HOST_INSERV_LO v false).pair R.IRQ_HOST_INSERV_LO := by
      rw [State.pair, ht.rd, ht.rd, State.hostEoi, Nat.mod_eq_of_lt v.isLt, State.pair]
    rw [hpair]
    refine BitVec.eq_of_getLsbD_eq fun i hi => ?_
    rw [ofNat_testBit _ _ hi, State.putPairBit_testBit _ _ v.isLt hi, BitVec.getLsbD_and, BitVec.getLsbD_not, ofNat_testBit _ _ hi, ofNat_testBit _ _ hi,
      Nat.testBit_two_pow, decide_eq_true hi, Bool.true_and]
    by_cases hiv : i = v.val
    · simp [hiv]
    · simp [hiv, Ne.symm hiv]
  · simp only [List.mem_cons, List.not_mem_nil, or_false, not_or] at hb
    rw [ht.rd, State.hostEoi, Nat.mod_eq_of_lt v.isLt, State.putPairBit_only s _ v.isLt _ hb.1 hb.2]

/-- The vector marked in service and no longer due. -/
def State.inService (s : State) (v : Nat) : State := { s.putPairBit R.IRQ_HOST_INSERV_LO v true with msixDue := s.msixDue &&& ~~~(BitVec.ofNat 64 (2 ^ v)) }

/-- What follows a vector once it is in service. -/
def State.vectorOut (s : State) (v : Nat) : State :=
  if s.isMember then s.towSend (if s.carries 1 then 1 else 0) (plainPkt 6 0 (s.fld F.TOW_ID_ID) 1 v)
  else if s.msixMasked v then { s with pcie := { s.pcie with pba := s.pcie.pba ||| BitVec.ofNat 64 (2 ^ v) } }
  else ((s.gateOpen 7).emit (.msix v)).bwCount 50 4

theorem State.msixIssue_eq (s : State) (v : Nat) : s.msixIssue v =
    if s.msixDue.getLsbD v && s.domOn 1 && (s.isMember || s.msixMasked v || s.is (F.CLK_GATE_RUN 7)) then (s.inService v).vectorOut v else s := rfl


variable {v s}

theorem State.inService_marked : bitAt ((s.inService v).pair R.IRQ_HOST_INSERV_LO) v = true := by
  rw [← testBit_eq_bitAt]
  exact (State.putPairBit_testBit s R.IRQ_HOST_INSERV_LO v.isLt v.isLt true).trans (if_pos rfl)

theorem State.inService_only {a : Nat} (h : a ≠ R.IRQ_HOST_INSERV_LO) (h4 : a ≠ R.IRQ_HOST_INSERV_HI) : (s.inService v).rd a = s.rd a :=
  State.putPairBit_only s _ v.isLt _ h h4

/-- A vector in service is not due at the end of the command: its condition is judged without it (R261). -/
theorem settle_notDue {u : State} (hdue : u.msixDue.getLsbD v = false) (hserv : bitAt (u.pair R.IRQ_HOST_INSERV_LO) v = true) :
    (settle u).msixDue.getLsbD v = false := by
  show (u.msixDue ||| (BitVec.ofNat 64 (u.raw &&& u.pair R.IRQ_HOST_EN_LO) &&& ~~~(BitVec.ofNat 64 (u.pair R.IRQ_HOST_INSERV_LO)))).getLsbD v = false
  rw [BitVec.getLsbD_or, BitVec.getLsbD_and, BitVec.getLsbD_not, hdue, ofNat_testBit (u.pair R.IRQ_HOST_INSERV_LO) _ v.isLt, testBit_eq_bitAt, hserv]
  simp

theorem State.inService_notDue : (s.inService v).msixDue.getLsbD v = false := by
  show (s.msixDue &&& ~~~(BitVec.ofNat 64 (2 ^ v.val))).getLsbD v = false
  rw [BitVec.getLsbD_and, BitVec.getLsbD_not, ofNat_testBit _ _ v.isLt, Nat.testBit_two_pow]
  simp

theorem State.pair_of_rd {u t : State} {lo : Nat} (h : t.rd lo = u.rd lo) (h4 : t.rd (lo + 4) = u.rd (lo + 4)) : t.pair lo = u.pair lo := by
  rw [State.pair, h, h4, State.pair]

/-- A due vector that is issued: marked in service and no longer due, whatever is sent with it. -/
theorem msixIssue_completes (hdue : s.msixDue.getLsbD v = true) (hon : s.domOn 1 = true)
    (hway : (s.isMember || s.msixMasked v || s.is (F.CLK_GATE_RUN 7)) = true) {u : State} (hu : (s.inService v).vectorOut v = u)
    (hlo : u.rd R.IRQ_HOST_INSERV_LO = (s.inService v).rd R.IRQ_HOST_INSERV_LO) (hhi : u.rd R.IRQ_HOST_INSERV_HI = (s.inService v).rd R.IRQ_HOST_INSERV_HI)
    (hsame : u.msixDue = (s.inService v).msixDue) {q : State → Prop}
    (k : ∀ t, bitAt (t.pair R.IRQ_HOST_INSERV_LO) v = true → t.msixDue.getLsbD v = false → t.out = u.out → t.pcie = u.pcie → (∀ b, t.rd b = u.rd b) → q t) :
    Completes (.msixIssue v) s q := by
  have hrun : s.msixIssue v = u := by
    rw [State.msixIssue_eq, hdue, hon, hway]
    exact hu
  have hserv : bitAt (u.pair R.IRQ_HOST_INSERV_LO) v = true := by
    rw [State.pair_of_rd hlo hhi]
    exact State.inService_marked
  refine done_completes (u := u) (congrArg done hrun) (k _ hserv (settle_notDue ?_ hserv) rfl rfl fun _ => rfl)
  rw [hsame]
  exact State.inService_notDue

theorem State.inService_is {f : Fld} (h : f.addr ≠ R.IRQ_HOST_INSERV_LO) (h4 : f.addr ≠ R.IRQ_HOST_INSERV_HI) : (s.inService v).is f = s.is f := by
  rw [State.is, State.fld, State.inService_only h h4]
  rfl

theorem State.inService_isMember : (s.inService v).isMember = s.isMember := by
  unfold State.isMember State.towOn State.domOn
  rw [State.inService_is (by decide) (by decide), State.inService_is (by decide) (by decide), State.fld, State.inService_only (by decide) (by decide)]
  rfl

theorem State.gateOpen_rd (s : State) (b a : Nat) : (s.gateOpen b).rd a = (s.put (F.CLK_GATE_OPEN b) true).rd a := rfl

theorem State.gateOpen_rd_ne (s : State) (b : Nat) {a : Nat} (h : a ≠ R.CLK_GATE b) : (s.gateOpen b).rd a = s.rd a := by
  rw [State.gateOpen_rd, State.put_rd_ne s (F.CLK_GATE_OPEN b) _ h]

theorem State.gateOpen_open (s : State) (b : Nat) : (s.gateOpen b).is (F.CLK_GATE_OPEN b) = true := by
  rw [State.is, State.fld, State.gateOpen_rd, ← State.fld, ← State.is, State.put_is_same _ (F.CLK_GATE_OPEN b) _ (Fld.fits_of rfl) rfl]

theorem State.inService_out : (s.inService v).out = s.out := rfl

theorem State.inService_pcie : (s.inService v).pcie = s.pcie := rfl

theorem State.inService_tow : (s.inService v).tow = s.tow := rfl

/-- A vector sent over PCIe: the gate of its controller opens, and the message leaves. -/
theorem State.vectorOut_sent {u : State} (hu : (s.inService v).vectorOut v = u) (hmember : s.isMember = false) (hmask : s.msixMasked v = false) :
    u.out = .msix v :: s.out ∧ u.msixDue = (s.inService v).msixDue ∧ ∀ b, u.rd b = ((s.inService v).put (F.CLK_GATE_OPEN 7) true).rd b := by
  unfold State.vectorOut at hu
  rw [State.inService_isMember, hmember, show (s.inService v).msixMasked v = false from hmask] at hu
  obtain ⟨p, hp⟩ := State.bwCount_same (((s.inService v).gateOpen 7).emit (.msix v)) 50 4
  rw [if_neg (by decide), if_neg (by decide), hp] at hu
  subst hu
  exact ⟨rfl, rfl, fun b => rfl⟩

/-- A masked vector is held in the pending bits. -/
theorem State.vectorOut_held {u : State} (hu : (s.inService v).vectorOut v = u) (hmember : s.isMember = false) (hmask : s.msixMasked v = true) :
    u.out = s.out ∧ u.msixDue = (s.inService v).msixDue ∧ u.pcie.pba = s.pcie.pba ||| BitVec.ofNat 64 (2 ^ v.val) ∧ ∀ b, u.rd b = (s.inService v).rd b := by
  unfold State.vectorOut at hu
  rw [State.inService_isMember, hmember, show (s.inService v).msixMasked v = true from hmask] at hu
  rw [if_neg (by decide), if_pos rfl] at hu
  subst hu
  exact ⟨rfl, rfl, rfl, fun b => rfl⟩

theorem vector_issued (v : Fin 64) (s : State) (hdue : s.msixDue.getLsbD v = true) (hon : s.domOn 1 = true) (hmember : s.isMember = false)
    (hmask : s.msixMasked v = false) (hrun : s.is (F.CLK_GATE_RUN 7) = true) :
    Completes (.msixIssue v) s fun t => t.out = .msix v :: s.out ∧ bitAt (t.pair R.IRQ_HOST_INSERV_LO) v = true ∧ t.msixDue.getLsbD v = false ∧
      t.is (F.CLK_GATE_OPEN 7) = true ∧ s.Only [R.IRQ_HOST_INSERV_LO, R.IRQ_HOST_INSERV_HI, R.CLK_GATE 7] t := by
  generalize hu : (s.inService v).vectorOut v = u
  obtain ⟨hout, hsame, hrd⟩ := State.vectorOut_sent hu hmember hmask
  have hne (b : Nat) (h : b ≠ R.CLK_GATE 7) : u.rd b = (s.inService v).rd b := by rw [hrd, State.put_rd_ne _ (F.CLK_GATE_OPEN 7) _ h]
  refine msixIssue_completes hdue hon (by rw [hrun, Bool.or_true]) hu (hne _ (by decide)) (hne _ (by decide)) hsame fun t hserv hlast hto _ htr =>
    ⟨hto.trans hout, hserv, hlast, ?_, fun b hb => ?_⟩
  · rw [State.is, State.fld, htr, hrd, ← State.fld, ← State.is, State.put_is_same _ (F.CLK_GATE_OPEN 7) _ (Fld.fits_of rfl) rfl]
  · simp only [List.mem_cons, List.not_mem_nil, or_false, not_or] at hb
    obtain ⟨hlo, hhi, hg⟩ := hb
    rw [htr, hne b hg, State.inService_only hlo hhi]

theorem vector_pending (v : Fin 64) (s : State) (hdue : s.msixDue.getLsbD v = true) (hon : s.domOn 1 = true) (hmember : s.isMember = false)
    (hmask : s.msixMasked v = true) :
    Completes (.msixIssue v) s fun t => t.out = s.out ∧ t.pcie.pba.getLsbD v = true ∧ bitAt (t.pair R.IRQ_HOST_INSERV_LO) v = true ∧ t.msixDue.getLsbD v = false ∧
      s.Only [R.IRQ_HOST_INSERV_LO, R.IRQ_HOST_INSERV_HI] t := by
  generalize hu : (s.inService v).vectorOut v = u
  obtain ⟨hout, hsame, hpba, hrd⟩ := State.vectorOut_held hu hmember hmask
  refine msixIssue_completes hdue hon (by rw [hmask, Bool.or_true, Bool.true_or]) hu (hrd _) (hrd _) hsame fun t hserv hlast hto htp htr =>
    ⟨hto.trans hout, ?_, hserv, hlast, fun b hb => ?_⟩
  · rw [htp, hpba, BitVec.getLsbD_or, ofNat_testBit _ _ v.isLt, Nat.testBit_two_pow_self, Bool.or_true]
  · simp only [List.mem_cons, List.not_mem_nil, or_false, not_or] at hb
    obtain ⟨hlo, hhi⟩ := hb
    rw [htr, hrd, State.inService_only hlo hhi]

theorem vector_waits (v : Fin 64) (s : State)
    (h : s.msixDue.getLsbD v = false ∨ s.domOn 1 = false ∨ s.isMember = false ∧ s.msixMasked v = false ∧ s.is (F.CLK_GATE_RUN 7) = false)
    (hirq : s.IrqRemembered) : Completes (.msixIssue v) s fun t => t = s := by
  refine nothing_completes (congrArg done ?_) hirq
  rw [State.msixIssue_eq, if_neg]
  rcases h with h | h | ⟨hmember, hmask, hrun⟩
  · rw [h, Bool.false_and, Bool.false_and]
    exact Bool.false_ne_true
  · rw [h, Bool.and_false, Bool.false_and]
    exact Bool.false_ne_true
  · simp [hmember, hmask, hrun]

theorem State.towCount_same (s : State) (sent : Bool) (k : TowPkt) : ∃ p, s.towCount sent k = { s with perf := p } := by
  unfold State.towCount
  obtain ⟨q, hq⟩ := State.tally_butCount s (.plain 0x15 1)
  rw [hq]
  obtain ⟨p, hp⟩ := State.bwCount_same { s with perf := { s.perf with part := q } } (25 + 26 * b2n sent) (13 + k.data.length)
  exact ⟨p, hp⟩

theorem State.setPort_port (s : State) (p k : Nat) (x : Port) : (s.setPort p x).port k = if k = p then x else s.port k := tabGet_put ..

theorem State.coded10_rest (s : State) (p : Nat) (cs : List TowChar) :
    (s.coded10 p cs).2 = (codeRun (s.port p).disp cs).1 ∧ ((s.coded10 p cs).1.port p).disp = (codeRun (s.port p).disp cs).2 :=
  ⟨rfl, congrArg Port.disp ((State.setPort_port ..).trans (if_pos rfl))⟩

/-- The rest of the machine while an ordered set or a packet goes out: the registers, the PCIe endpoint and the vectors due. -/
def State.Sends (s : State) (o : List Out) (t : State) : Prop := t.out = o ++ s.out ∧ t.regs = s.regs ∧ t.pcie = s.pcie ∧ t.msixDue = s.msixDue

theorem State.idleOut_sends (s : State) (p : Nat) : s.Sends [.ordered p "idle" 0 (codeRun (s.port p).disp idleChars).1] (s.idleOut p) := ⟨rfl, rfl, rfl, rfl⟩

/-- A packet that an awake port carries: what it sends, and nothing else but its count and the port's disparity. -/
theorem State.towSend_carried {u : State} {p : Nat} (k : TowPkt) (hc : u.carries p = true) (hawake : u.is (F.TOW_PORT_STAT_TX_SLEEP p) = false) :
    u.Sends (u.packetOut p k) (u.towSend p k) := by
  obtain ⟨hcode, hdisp⟩ := u.coded10_rest p (pktChars k)
  unfold State.towSend
  rw [if_pos hc, hawake, if_neg (by decide)]
  dsimp only
  obtain ⟨e, he⟩ := State.towCount_same ((u.coded10 p (pktChars k)).1.emit (.packet p k (u.coded10 p (pktChars k)).2)) true k
  rw [he, hcode]
  generalize hw : ({ (u.coded10 p (pktChars k)).1.emit (.packet p k (codeRun (u.port p).disp (pktChars k)).1) with perf := e } : State) = w
  have hport : (w.port p).disp = (codeRun (u.port p).disp (pktChars k)).2 := by
    rw [← hw]
    exact hdisp
  have hsent : u.Sends [.packet p k (codeRun (u.port p).disp (pktChars k)).1] w := by
    rw [← hw]
    exact ⟨rfl, rfl, rfl, rfl⟩
  obtain ⟨hout, hregs, hpcie, hmsix⟩ := hsent
  obtain ⟨iout, iregs, ipcie, imsix⟩ := w.idleOut_sends p
  refine ⟨?_, iregs.trans hregs, ipcie.trans hpcie, imsix.trans hmsix⟩
  rw [iout, hport, hout]
  rfl

theorem State.inService_carries (p : Nat) : (s.inService v).carries p = s.carries p := by
  unfold State.carries State.portUp State.domOn
  rw [State.inService_is, State.inService_is, State.fld, State.inService_only (by decide) (by decide)]
  · rfl
  all_goals
    simp only [F.TOW_PORT_STAT_UP, F.TOW_PORT_CTL_TEST, R.TOW_PORT_STAT, R.TOW_PORT_CTL, R.IRQ_HOST_INSERV_LO, R.IRQ_HOST_INSERV_HI]
    omega

theorem vector_told (v : Fin 64) (k : TowPkt) (s : State) (hdue : s.msixDue.getLsbD v = true) (hon : s.domOn 1 = true) (hmember : s.isMember = true)
    (hport : s.carries 1 = true) (hawake : s.is (F.TOW_PORT_STAT_TX_SLEEP 1) = false) (hk : k = plainPkt 6 0 (s.fld F.TOW_ID_ID) 1 v.val) :
    Completes (.msixIssue v) s fun t => t.out = s.packetOut 1 k ++ s.out ∧ bitAt (t.pair R.IRQ_HOST_INSERV_LO) v = true ∧ t.msixDue.getLsbD v = false ∧ t.pcie = s.pcie ∧
      s.Only [R.IRQ_HOST_INSERV_LO, R.IRQ_HOST_INSERV_HI] t := by
  have hcarries : (s.inService v).carries 1 = true := (State.inService_carries 1).trans hport
  obtain ⟨hsent, hregs, hpcie, hsame⟩ := State.towSend_carried k hcarries ((State.inService_is (by decide) (by decide)).trans hawake)
  have htold : (s.inService v).vectorOut v = (s.inService v).towSend 1 k := by
    unfold State.vectorOut
    rw [State.inService_isMember, hmember, if_pos rfl, hcarries, if_pos rfl, State.fld, State.inService_only (by decide) (by decide), ← State.fld, ← hk]
  have hrd (b : Nat) : ((s.inService v).towSend 1 k).rd b = (s.inService v).rd b := congrArg (fun r => tabGet regReset r b) hregs
  refine msixIssue_completes hdue hon (by rw [hmember, Bool.true_or, Bool.true_or]) htold (hrd _) (hrd _) hsame fun t hserv hlast hto htp htr =>
    ⟨?_, hserv, hlast, htp.trans (hpcie.trans State.inService_pcie), fun b hb => ?_⟩
  · rw [hto, hsent, State.inService_out, State.packetOut, State.port, State.inService_tow, State.packetOut, State.port]
  · simp only [List.mem_cons, List.not_mem_nil, or_false, not_or] at hb
    obtain ⟨hlo, hhi⟩ := hb
    rw [htr, hrd, State.inService_only hlo hhi]

end Vector

/-! ## Soft bits (R266) -/

theorem soft_set (m : Master) (v : Word) (s : State) (h : s.Reached m R.IRQ_SOFT_SET) : Completes (.softSet m v) s fun t => s.Answered m 0 t ∧
    t.rd R.IRQ_SOFT_SET = s.rd R.IRQ_SOFT_SET ||| v ∧ s.Only [R.IRQ_SOFT_SET] t :=
  via_completes (f := fun s => s.irqWrite m 0x03C v) rfl h fun _ ht hout =>
    ⟨hout, (ht.rd _).trans (State.wr_rd_same ..), fun b hb => (ht.rd b).trans (State.wr_rd_ne _ _ (List.ne_of_not_mem_cons hb))⟩

theorem soft_cleared (m : Master) (v : Word) (s : State) (h : s.Reached m R.IRQ_SOFT_CLR) : Completes (.softClr m v) s fun t => s.Answered m 0 t ∧
    t.rd R.IRQ_SOFT_SET = s.rd R.IRQ_SOFT_SET &&& ~~~v ∧ s.Only [R.IRQ_SOFT_SET] t :=
  via_completes (f := fun s => s.irqWrite m 0x040 v) rfl h fun _ ht hout =>
    ⟨hout, (ht.rd _).trans (State.wr_rd_same ..), fun b hb => (ht.rd b).trans (State.wr_rd_ne _ _ (List.ne_of_not_mem_cons hb))⟩

/-- Settles O37: each access is its channel's or its register's own operation, and an issue marks its vector before anything is sent. -/
theorem mailboxPostsResetsAndInterrupts : Obligations.MailboxPostsResetsAndInterrupts := by
  unfold Obligations.MailboxPostsResetsAndInterrupts
  exact ⟨post_accepted, post_overflows, post_denied, post_reserved, reset_declared, reset_foreign, hostEoi_ends, vector_issued, vector_pending, vector_waits, vector_told,
    soft_set, soft_cleared⟩

end Sys2Proof.Machine
end

section
/-! SUPPORT. One tick: the barges that move on, and the events added to the counters (R38, R385, R391 to R393). -/

namespace Sys2Proof.Machine

/-! ## What moves in the fabric -/

/-- What a barge that moves on leaves alone: every register below the FAB block, and the counting of the tick that has ended. -/
def State.Moves (s t : State) : Prop := (∀ b, b < 0x04014000 → t.rd b = s.rd b) ∧ t.perf.frozen = s.perf.frozen ∧ t.perf.snap = s.perf.snap

section Moves
variable (s : State)

theorem State.Moves.refl : s.Moves s := ⟨fun _ _ => rfl, rfl, rfl⟩

theorem State.Moves.trans {s t u : State} (h : s.Moves t) (k : t.Moves u) : s.Moves u := by
  obtain ⟨hr, hf, hs⟩ := h
  obtain ⟨kr, kf, ks⟩ := k
  exact ⟨fun b hb => (kr b hb).trans (hr b hb), kf.trans hf, ks.trans hs⟩

theorem State.Moves.ite {c : Prop} [Decidable c] {s t u : State} (h : s.Moves t) (k : s.Moves u) : s.Moves (if c then t else u) := by
  split
  · exact h
  · exact k

theorem State.Moves.each {f : Nat → State → State} (h : ∀ (n : Nat) (s : State), s.Moves (f n s)) (l : List Nat) : s.Moves (each l f s) := by
  induction l generalizing s with
  | nil => exact State.Moves.refl s
  | cons n l ih => exact (h n s).trans (ih (f n s))

theorem State.tally_moves (e : Event) : s.Moves (s.tally e) := by
  obtain ⟨p, hp⟩ := State.tally_butCount s e
  rw [hp]
  exact ⟨fun _ _ => rfl, rfl, rfl⟩

theorem State.bwCount_moves (k n : Nat) : s.Moves (s.bwCount k n) := by
  unfold State.bwCount
  exact State.Moves.ite ⟨fun _ _ => rfl, rfl, rfl⟩ (State.Moves.refl s)

theorem State.onLane_moves (n : Nat) (f : Lane → Lane) : s.Moves (s.onLane n f) := ⟨fun _ _ => rfl, rfl, rfl⟩

theorem State.xdrop_moves (n k : Nat) : s.Moves (s.xdrop n k) := by
  unfold State.xdrop
  refine .ite (.refl s) (State.Moves.trans (t := (s.bump (F.FAB_XDROP_COUNT n) k).put F.FAB_EVENT_XDROP true) ⟨fun b hb => ?_, rfl, rfl⟩ (State.tally_moves _ _))
  rw [State.put_rd_ne _ F.FAB_EVENT_XDROP _ (by simp only [F.FAB_EVENT_XDROP, R.FAB_EVENT]; omega),
    State.bump_rd_ne _ (F.FAB_XDROP_COUNT n) _ (by simp only [F.FAB_XDROP_COUNT, R.FAB_XDROP]; omega)]

theorem State.toStore_moves (n : Nat) (b : Barge) : s.Moves (s.toStore n b) := by
  unfold State.toStore
  exact .ite (.refl s) (.ite (s.xdrop_moves n 1) (.ite (.refl s) ⟨fun _ _ => rfl, rfl, rfl⟩))

theorem State.toSlots_moves (n : Nat) (b : Barge) : s.Moves (s.toSlots n b) := (s.toStore_moves _ b).trans (State.toStore_moves _ _ b)

theorem State.rsRead_moves (base slot bits : Nat) : s.Moves (s.rsRead base slot bits) := by
  unfold State.rsRead
  exact .each s (fun i t => .ite (t.onLane_moves _ _) (.refl t)) _

theorem State.rsLine_moves (n : Nat) (b : Barge) : s.Moves (s.rsLine n b) := by
  unfold State.rsLine
  exact .ite (.refl s) (.each s (fun slot t => t.rsRead_moves 0 slot _) _)

theorem State.rsHost_moves (n : Nat) (b : Barge) : s.Moves (s.rsHost n b) := by
  unfold State.rsHost
  exact .each s (fun slot t => .ite (t.rsRead_moves 8 slot _) (.refl t)) _

theorem State.deliver_moves (n : Nat) (b : Barge) : s.Moves (s.deliver n b) := by
  unfold State.deliver
  have h1 := (s.bwCount_moves n (sideBytes b.side.toNat)).trans (State.rsLine_moves _ n b)
  have h2 (t : State) : t.Moves (if t.loop = 1 then t else t.toSlots n b) := .ite (.refl t) (t.toSlots_moves n b)
  have h3 (t : State) : t.Moves (if t.loop = 2 then t.toStore (n + 8) b else t) := .ite (t.toStore_moves _ b) (.refl t)
  exact (h1.trans (h2 _)).trans (h3 _)

theorem State.deliverHost_moves (n : Nat) (b : Barge) : s.Moves (s.deliverHost n b) := by
  unfold State.deliverHost
  have h1 (t : State) : t.Moves (if t.loop = 2 then t else t.toStore (n + 8) b) := .ite (.refl t) (t.toStore_moves _ b)
  have h2 (t : State) : t.Moves (if t.loop = 1 then t.toSlots n b else t) := .ite (t.toSlots_moves n b) (.refl t)
  exact (h1 s).trans (h2 _)

theorem State.fillNext_moves (n k : Nat) : s.Moves (s.fillNext n k).1 := ⟨fun _ _ => rfl, rfl, rfl⟩

theorem State.slotTake_moves (slot stamp : Nat) : s.Moves (s.slotTake slot stamp).1 := by
  unfold State.slotTake
  split
  · exact ⟨fun _ _ => rfl, rfl, rfl⟩
  · exact s.fillNext_moves _ _

theorem State.joinSlots_moves (n stamp : Nat) : s.Moves (s.joinSlots n stamp).1 := (s.slotTake_moves _ _).trans (State.slotTake_moves _ _ _)

theorem State.hostStep_moves (n stamp : Nat) : s.Moves (s.hostStep n stamp) :=
  ((s.joinSlots_moves n stamp).trans (State.rsHost_moves _ _ _)).trans (State.deliverHost_moves _ _ _)

theorem State.toDecoder_moves (n : Nat) (b : Barge) : s.Moves (s.toDecoder n b) := by
  unfold State.toDecoder
  exact .ite (s.onLane_moves _ _) (.refl s)

theorem State.drainLine_moves (n : Nat) : s.Moves (s.drainLine n) := by
  unfold State.drainLine
  split
  · exact .refl s
  · next b rest _ =>
    have htaken : s.Moves (s.setPound n rest) := ⟨fun _ _ => rfl, rfl, rfl⟩
    have hfill (t : State) : t.Moves ((t.fillBarge n (stampOf b.side)).1.deliver n (t.fillBarge n (stampOf b.side)).2) :=
      (t.fillNext_moves _ _).trans (State.deliver_moves _ _ _)
    exact .ite (.refl s) (.ite (htaken.trans (State.deliver_moves _ _ _)) ((htaken.trans (State.toDecoder_moves _ _ _)).trans (.ite (.refl _) (hfill _))))

theorem State.drainHost_moves (n : Nat) : s.Moves (s.drainHost n) := by
  unfold State.drainHost
  exact .ite (.refl s) (s.hostStep_moves n 0)

theorem State.drain_moves : s.Moves s.drain := by
  unfold State.drain
  exact .ite (.each s (fun n t => (t.drainLine_moves n).trans (State.drainHost_moves _ n)) _) (.refl s)

end Moves

/-! ## The counters -/

theorem tabGet_of_mem {α : Type} [DecidableEq α] {dflt : Nat → α} {m : List (Nat × α)} {lo : Nat} (w : tabWfFrom dflt lo m = true) {c : Nat × α} (h : c ∈ m) :
    lo ≤ c.1 ∧ tabGet dflt m c.1 = c.2 := by
  induction m generalizing lo with
  | nil => cases h
  | cons d m ih =>
    simp only [tabWfFrom, Bool.and_eq_true, decide_eq_true_eq] at w
    obtain ⟨⟨hlo, -⟩, hrest⟩ := w
    rcases List.mem_cons.mp h with rfl | h
    · exact ⟨hlo, if_pos rfl⟩
    · obtain ⟨hle, hget⟩ := ih hrest h
      refine ⟨by omega, ?_⟩
      rw [tabGet, if_neg (by omega)]
      exact hget

section Counters
variable (s : State)

/-- An enabled counter is one whose control register says so. -/
theorem State.counting_mem (hs : tabWf regReset s.regs = true) {c : Nat × Nat} (h : c ∈ s.counting) :
    s.is (F.PERF_CNT_CTL_EN c.1) = true ∧ c.2 = s.fld (F.PERF_CNT_CTL_CLASS c.1) := by
  unfold State.counting at h
  obtain ⟨e, he, hc⟩ := List.mem_filterMap.mp h
  split at hc
  · next hreg =>
    cases hc
    obtain ⟨hlo, hhi, hstep, hen⟩ := hreg
    have haddr : R.PERF_CNT_CTL ((e.1 - 0x0400A100) / 0x20) = e.1 := by
      unfold R.PERF_CNT_CTL
      omega
    have hrd : s.rd (R.PERF_CNT_CTL ((e.1 - 0x0400A100) / 0x20)) = e.2 := by
      rw [haddr]
      exact (tabGet_of_mem hs he).2
    refine ⟨?_, ?_⟩
    · rw [State.is, State.fld, F.PERF_CNT_CTL_EN, hrd]
      have hbit : e.2.toNat.testBit 8 = true := hen
      rw [Nat.testBit_eq_decide_div_mod_eq, decide_eq_true_iff] at hbit
      simp [bitsOf, hbit]
    · rw [State.fld, F.PERF_CNT_CTL_CLASS, hrd]
      simp [bitsOf]
  · cases hc

theorem State.setPart_countPart (i j n : Nat) : (s.setPart j n).countPart i = if i = j then n else s.countPart i := tabGet_put ..

/-- Events counted by other counters leave what is staged for one. -/
theorem State.tally_countPart (e : Event) (i : Nat) (h : ∀ c ∈ s.counting, s.selects c.1 c.2 e = true → c.1 ≠ i) : (s.tally e).countPart i = s.countPart i := by
  have hl : ∀ c ∈ s.counting.filter (fun c => s.selects c.1 c.2 e), c.1 ≠ i := fun c hc => h c (List.mem_filter.mp hc).1 (List.mem_filter.mp hc).2
  unfold State.tally
  generalize s.counting.filter (fun c => s.selects c.1 c.2 e) = l at hl ⊢
  clear h
  induction l generalizing s with
  | nil => rfl
  | cons c l ih =>
    refine (ih (s.setPart c.1 (s.countPart c.1 + e.count)) fun d hd => hl d (List.mem_cons_of_mem _ hd)).trans ?_
    rw [State.setPart_countPart, if_neg (hl c List.mem_cons_self).symm]

/-- A counter that counts neither ticks nor WAITING: disabled, or of another class in the native persona. -/
def State.CountsNoTicks (s : State) (i : Nat) : Prop :=
  s.is (F.PERF_CNT_CTL_EN i) = false ∨
    s.is F.MODE_PERSONA_ACTIVE = false ∧ s.fld (F.PERF_CNT_CTL_CLASS i) % 32 ≠ 1 ∧ s.fld (F.PERF_CNT_CTL_CLASS i) % 32 ≠ 7

theorem State.tally_ticks (hs : tabWf regReset s.regs = true) {i : Nat} (h : s.CountsNoTicks i) {e : Event} (he : e.cls = 1 ∨ e.cls = 7) :
    (s.tally e).countPart i = s.countPart i := by
  refine s.tally_countPart e i fun c hc hsel hci => ?_
  obtain ⟨hen, hclass⟩ := s.counting_mem hs hc
  rw [hci] at hen hclass
  rcases h with h | ⟨hpersona, h1, h7⟩
  · rw [h] at hen
    cases hen
  · unfold State.selects at hsel
    rw [hpersona, if_neg (by decide)] at hsel
    simp only [Bool.and_eq_true, beq_iff_eq] at hsel
    obtain ⟨⟨⟨⟨⟨hcls, -⟩, -⟩, -⟩, -⟩, -⟩ := hsel
    rw [hclass] at hcls
    rcases he with he | he <;> omega

theorem State.setCounter_rd_ne (i v : Nat) {b : Nat} (h : b ≠ R.PERF_CNT_LO i) (h4 : b ≠ R.PERF_CNT_HI i) : (s.setCounter i v).rd b = s.rd b := by
  rw [State.setCounter, State.wr_rd_ne _ _ h4, State.wr_rd_ne _ _ h]

theorem perfCntHi_eq (i : Nat) : R.PERF_CNT_HI i = R.PERF_CNT_LO i + 4 := by
  unfold R.PERF_CNT_LO R.PERF_CNT_HI
  omega

theorem State.setCounter_counter (i v : Nat) : (s.setCounter i v).counter i = v % 2 ^ 48 := by
  have hlo : (s.setCounter i v).rd (R.PERF_CNT_LO i) = BitVec.ofNat 32 v := by
    rw [State.setCounter, State.wr_rd_ne _ _ (by unfold R.PERF_CNT_LO R.PERF_CNT_HI; omega), State.wr_rd_same]
  have hhi : (s.setCounter i v).rd (R.PERF_CNT_LO i + 4) = BitVec.ofNat 32 (v / 2 ^ 32 % 65536) := by
    rw [State.setCounter, ← perfCntHi_eq, State.wr_rd_same]
  rw [State.counter, State.pair, hlo, hhi, BitVec.toNat_ofNat, BitVec.toNat_ofNat]
  omega

theorem State.counter_of_rd {t : State} {i : Nat} (h : t.rd (R.PERF_CNT_LO i) = s.rd (R.PERF_CNT_LO i)) (h4 : t.rd (R.PERF_CNT_HI i) = s.rd (R.PERF_CNT_HI i)) :
    t.counter i = s.counter i :=
  State.pair_of_rd h (by rwa [← perfCntHi_eq])

/-- What a counter past its end changes (R391). -/
theorem State.wrapped_rd_ne (i : Nat) {b : Nat} (h : b ≠ R.PERF_WRAP) (he : b ≠ R.PERF_EVENT) (hc : b ≠ R.PERF_CTL) : (s.wrapped i).rd b = s.rd b := by
  have h1 (t : State) : (if t.is (F.PERF_CNT_CTL_WRAP_IRQ i) then t.put F.PERF_EVENT_WRAP true else t).rd b = t.rd b := by
    split
    · exact State.put_rd_ne _ F.PERF_EVENT_WRAP _ he
    · rfl
  have h2 (t : State) : (if t.is F.PERF_CTL_WRAP_FREEZE then t.put F.PERF_CTL_FREEZE true else t).rd b = t.rd b := by
    split
    · exact State.put_rd_ne _ F.PERF_CTL_FREEZE _ hc
    · rfl
  exact (h2 _).trans ((h1 _).trans (State.setBit_rd_ne _ F.PERF_WRAP_CNT _ h))

/-- The addresses that raising counter i may change. -/
theorem State.addCount_rd_ne (i n : Nat) {b : Nat} (hlo : b ≠ R.PERF_CNT_LO i) (hhi : b ≠ R.PERF_CNT_HI i) (h : b ≠ R.PERF_WRAP) (he : b ≠ R.PERF_EVENT)
    (hc : b ≠ R.PERF_CTL) : (s.addCount i n).rd b = s.rd b := by
  unfold State.addCount
  dsimp only
  split
  · exact s.setCounter_rd_ne i _ hlo hhi
  · exact (State.wrapped_rd_ne _ i h he hc).trans (s.setCounter_rd_ne i _ hlo hhi)

theorem State.addCount_counter (i n : Nat) : (s.addCount i n).counter i = (s.counter i + n) % 2 ^ 48 := by
  unfold State.addCount
  dsimp only
  split
  · exact s.setCounter_counter i _
  · refine (State.counter_of_rd _ ?_ ?_).trans (s.setCounter_counter i _)
    all_goals
      refine State.wrapped_rd_ne _ i ?_ ?_ ?_
      all_goals
        simp only [R.PERF_CNT_LO, R.PERF_CNT_HI, R.PERF_WRAP, R.PERF_EVENT, R.PERF_CTL]
        omega

theorem State.addCount_other {i j : Nat} (n : Nat) (h : j ≠ i) : (s.addCount i n).counter j = s.counter j := by
  refine State.counter_of_rd _ ?_ ?_
  all_goals
    refine s.addCount_rd_ne i n ?_ ?_ ?_ ?_ ?_
    all_goals
      simp only [R.PERF_CNT_LO, R.PERF_CNT_HI, R.PERF_WRAP, R.PERF_EVENT, R.PERF_CTL]
      omega

theorem State.addCount_perf (i n : Nat) : (s.addCount i n).perf = s.perf :=
  (State.addCount_closed (within_closed 0x1 s) (Sub.refl _) s i n (State.Within.refl s _)).same .perf rfl

/-- The events of the tick added to the counters of a list: each has its own, as they stand (R385). -/
theorem State.addCounts_counter {l : List Nat} (hl : l.Nodup) (i : Nat) :
    (l.foldl (fun s i => s.addCount i (s.countPart i)) s).counter i % 2 ^ 48 = (s.counter i + if i ∈ l then s.countPart i else 0) % 2 ^ 48 := by
  induction l generalizing s with
  | nil => rfl
  | cons j l ih =>
    obtain ⟨hj, hl⟩ := List.nodup_cons.mp hl
    have hpart : (s.addCount j (s.countPart j)).countPart i = s.countPart i := by rw [State.countPart, State.addCount_perf, State.countPart]
    refine (ih (s.addCount j (s.countPart j)) hl).trans ?_
    rw [hpart]
    by_cases hi : i = j
    · subst hi
      rw [State.addCount_counter, if_neg hj, if_pos List.mem_cons_self, Nat.add_zero, Nat.mod_mod]
    · rw [State.addCount_other _ _ hi]
      simp [hi]

theorem State.addCounts_rd_ne (l : List Nat) {b : Nat} (hb : b < 0x0400A000 ∨ b = R.PERF_STAT) :
    (l.foldl (fun s i => s.addCount i (s.countPart i)) s).rd b = s.rd b := by
  induction l generalizing s with
  | nil => rfl
  | cons j l ih =>
    refine (ih _).trans (s.addCount_rd_ne j _ ?_ ?_ ?_ ?_ ?_)
    all_goals
      simp only [R.PERF_CNT_LO, R.PERF_CNT_HI, R.PERF_WRAP, R.PERF_EVENT, R.PERF_CTL, R.PERF_STAT] at hb ⊢
      omega

theorem State.addCounts_perf (l : List Nat) : (l.foldl (fun s i => s.addCount i (s.countPart i)) s).perf = s.perf := by
  induction l generalizing s with
  | nil => rfl
  | cons j l ih => exact (ih _).trans (s.addCount_perf j _)

end Counters

/-! ## Snapshots (R393) -/

section Snapshot
variable (s : State)

/-- Counter i copied. -/
def State.snapCopy (i : Nat) (s : State) : State :=
  (s.wr (R.PERF_SNAP_LO i) (s.rd (R.PERF_CNT_LO i))).wr (R.PERF_SNAP_HI i) (s.rd (R.PERF_CNT_HI i))

theorem State.snapCopy_rd_ne (i : Nat) {b : Nat} (h : b ≠ R.PERF_SNAP_LO i) (h4 : b ≠ R.PERF_SNAP_HI i) : (s.snapCopy i).rd b = s.rd b := by
  rw [State.snapCopy, State.wr_rd_ne _ _ h4, State.wr_rd_ne _ _ h]

theorem State.snapCopies_rd_ne (l : List Nat) {b : Nat} (h : ∀ i ∈ l, b ≠ R.PERF_SNAP_LO i ∧ b ≠ R.PERF_SNAP_HI i) : (each l State.snapCopy s).rd b = s.rd b :=
  each_rd _ _ _ _ fun s i hi => s.snapCopy_rd_ne i (h i hi).1 (h i hi).2

theorem State.snapCopies_rd {l : List Nat} (hl : l.Nodup) (h32 : ∀ i ∈ l, i < 32) {i : Nat} (hi : i ∈ l) :
    (each l State.snapCopy s).rd (R.PERF_SNAP_LO i) = s.rd (R.PERF_CNT_LO i) ∧ (each l State.snapCopy s).rd (R.PERF_SNAP_HI i) = s.rd (R.PERF_CNT_HI i) := by
  induction l generalizing s with
  | nil => cases hi
  | cons j l ih =>
    obtain ⟨hj, hl⟩ := List.nodup_cons.mp hl
    have hj32 : j < 32 := h32 j List.mem_cons_self
    have hi32 : i < 32 := h32 i hi
    show (each l State.snapCopy (s.snapCopy j)).rd _ = _ ∧ (each l State.snapCopy (s.snapCopy j)).rd _ = _
    rcases List.mem_cons.mp hi with rfl | hil
    · rw [State.snapCopies_rd_ne, State.snapCopies_rd_ne]
      · refine ⟨?_, State.wr_rd_same ..⟩
        rw [State.snapCopy, State.wr_rd_ne _ _ (by simp only [R.PERF_SNAP_LO, R.PERF_SNAP_HI]; omega), State.wr_rd_same]
      all_goals
        intro k hk
        have hne : k ≠ i := fun e => hj (e ▸ hk)
        simp only [R.PERF_SNAP_LO, R.PERF_SNAP_HI]
        omega
    · obtain ⟨hlo, hhi⟩ := ih (s.snapCopy j) hl (fun k hk => h32 k (List.mem_cons_of_mem _ hk)) hil
      rw [hlo, hhi, State.snapCopy_rd_ne, State.snapCopy_rd_ne]
      · exact ⟨rfl, rfl⟩
      all_goals
        simp only [R.PERF_SNAP_LO, R.PERF_SNAP_HI, R.PERF_CNT_LO, R.PERF_CNT_HI]
        omega

theorem State.snapCopies_tb (l : List Nat) : (each l State.snapCopy s).tb = s.tb := by
  induction l generalizing s with
  | nil => rfl
  | cons j l ih => exact ih (s.snapCopy j)

/-- The time, the count of snapshots and the event of one that was taken. -/
def State.snapStamp (s : State) : State :=
  ((s.setFld F.PERF_SNAP_TS_LO_TICK s.tb.toNat).setFld F.PERF_SNAP_TS_HI_TICK (s.tb.toNat / 2 ^ 32)).incr F.PERF_STAT_SNAP_SEQ

theorem State.snapshot_eq : s.snapshot = (each (List.range 32) State.snapCopy s).snapStamp := rfl

theorem State.snapStamp_rd_ne {b : Nat} (h : b ≠ R.PERF_SNAP_TS_LO) (hh : b ≠ R.PERF_SNAP_TS_HI) (hs : b ≠ R.PERF_STAT) : s.snapStamp.rd b = s.rd b := by
  rw [State.snapStamp, State.incr_rd_ne _ F.PERF_STAT_SNAP_SEQ hs, State.setFld_rd_ne _ F.PERF_SNAP_TS_HI_TICK _ hh, State.setFld_rd_ne _ F.PERF_SNAP_TS_LO_TICK _ h]

theorem State.snapshot_rd_ne {b : Nat} (hb : b < 0x0400A500) (h : b ≠ R.PERF_SNAP_TS_LO) (hh : b ≠ R.PERF_SNAP_TS_HI) (hs : b ≠ R.PERF_STAT) :
    s.snapshot.rd b = s.rd b := by
  rw [State.snapshot_eq, State.snapStamp_rd_ne _ h hh hs, State.snapCopies_rd_ne]
  intro i _
  simp only [R.PERF_SNAP_LO, R.PERF_SNAP_HI]
  omega

/-- A snapshot: every counter copied, with the tick, one snapshot more. -/
theorem State.snapshot_taken : s.snapshot.fld F.PERF_SNAP_TS_LO_TICK = s.tb.toNat % 2 ^ 32 ∧
    s.snapshot.fld F.PERF_STAT_SNAP_SEQ = (s.fld F.PERF_STAT_SNAP_SEQ + 1) % 256 ∧
    ∀ i : Fin 32, s.snapshot.rd (R.PERF_SNAP_LO i) = s.rd (R.PERF_CNT_LO i) ∧ s.snapshot.rd (R.PERF_SNAP_HI i) = s.rd (R.PERF_CNT_HI i) := by
  have hseq : (each (List.range 32) State.snapCopy s).fld F.PERF_STAT_SNAP_SEQ = s.fld F.PERF_STAT_SNAP_SEQ := by
    rw [State.fld, State.snapCopies_rd_ne, ← State.fld]
    intro i _
    simp only [R.PERF_SNAP_LO, R.PERF_SNAP_HI, F.PERF_STAT_SNAP_SEQ, R.PERF_STAT]
    omega
  have hcopies (i : Fin 32) := s.snapCopies_rd (l := List.range 32) List.nodup_range (fun i hi => List.mem_range.mp hi) (List.mem_range.mpr i.isLt)
  have htb := s.snapCopies_tb (List.range 32)
  rw [State.snapshot_eq]
  generalize each (List.range 32) State.snapCopy s = u at hseq hcopies htb
  refine ⟨?_, ?_, fun i => ?_⟩
  · rw [State.snapStamp, State.incr_fld_apart _ F.PERF_STAT_SNAP_SEQ _ (by decide) (by decide), State.setFld_fld_apart _ F.PERF_SNAP_TS_HI_TICK _ _ (by decide) (by decide),
      State.setFld_fld_same _ F.PERF_SNAP_TS_LO_TICK _ (by decide), htb]
    rfl
  · rw [State.snapStamp, State.incr_fld_same _ F.PERF_STAT_SNAP_SEQ (by decide), State.setFld_fld_apart _ F.PERF_SNAP_TS_HI_TICK _ _ (by decide) (by decide),
      State.setFld_fld_apart _ F.PERF_SNAP_TS_LO_TICK _ _ (by decide) (by decide), hseq]
    rfl
  · obtain ⟨hlo, hhi⟩ := hcopies i
    rw [State.snapStamp_rd_ne, State.snapStamp_rd_ne]
    · exact ⟨hlo, hhi⟩
    all_goals
      simp only [R.PERF_SNAP_LO, R.PERF_SNAP_HI, R.PERF_SNAP_TS_LO, R.PERF_SNAP_TS_HI, R.PERF_STAT]
      omega

end Snapshot

/-! ## The end of a tick at the counters -/

section CountTick
variable (s : State)

/-- The events of the tick at the counters, unless FREEZE was in force in it. -/
def State.counted (s : State) : State :=
  if s.perf.frozen then s else ((List.range 32).filter fun i => s.countPart i != 0).foldl (fun s i => s.addCount i (s.countPart i)) s

/-- FREEZE as it then stands, nothing staged, no snapshot waiting. -/
def State.nextTick (s : State) : State := { s with perf := { s.perf with part := [], frozen := s.is F.PERF_CTL_FREEZE, snap := false } }

theorem State.countTick_eq : s.countTick = if s.perf.snap then s.counted.nextTick.snapshot else s.counted.nextTick := by
  have hsnap : s.counted.perf.snap = s.perf.snap := by
    unfold State.counted
    split
    · rfl
    · rw [State.addCounts_perf]
  rw [← hsnap]
  rfl

theorem State.counted_counter (i : Fin 32) : s.counted.counter i % 2 ^ 48 = (s.counter i + if !s.perf.frozen then s.countPart i else 0) % 2 ^ 48 := by
  unfold State.counted
  cases hf : s.perf.frozen with
  | true => rfl
  | false =>
    rw [if_neg (by decide), State.addCounts_counter _ (List.Nodup.filter _ List.nodup_range)]
    by_cases hz : s.countPart i = 0
    · simp [hz]
    · simp [hz]

theorem State.counted_rd_ne {b : Nat} (hb : b < 0x0400A000 ∨ b = R.PERF_STAT) : s.counted.rd b = s.rd b := by
  unfold State.counted
  split
  · rfl
  · exact State.addCounts_rd_ne _ _ hb

theorem State.counted_tb : s.counted.tb = s.tb := by
  unfold State.counted
  split
  · rfl
  · generalize (List.range 32).filter (fun i => s.countPart i != 0) = l
    exact (closed_foldl (P := s.Within 0x1) l (State.Within.refl s _) fun t i ht => State.addCount_closed (within_closed 0x1 s) (Sub.refl _) t i _ ht).same .tb rfl

theorem State.countTick_rd_ne {b : Nat} (hb : b < 0x0400A000) : s.countTick.rd b = s.rd b := by
  have hnext : s.counted.nextTick.rd b = s.rd b := s.counted_rd_ne (.inl hb)
  rw [State.countTick_eq]
  split
  · rw [State.snapshot_rd_ne _ (by omega), hnext]
    all_goals
      simp only [R.PERF_SNAP_TS_LO, R.PERF_SNAP_TS_HI, R.PERF_STAT]
      omega
  · exact hnext

theorem State.snapshot_counter (i : Fin 32) : s.snapshot.counter i = s.counter i := by
  refine State.counter_of_rd _ ?_ ?_
  all_goals
    refine State.snapshot_rd_ne _ ?_ ?_ ?_ ?_
    all_goals
      simp only [R.PERF_CNT_LO, R.PERF_CNT_HI, R.PERF_SNAP_TS_LO, R.PERF_SNAP_TS_HI, R.PERF_STAT]
      omega

theorem State.nextTick_counter (i : Nat) : s.nextTick.counter i = s.counter i := rfl

theorem State.countTick_counter (i : Fin 32) : s.countTick.counter i % 2 ^ 48 = (s.counter i + if !s.perf.frozen then s.countPart i else 0) % 2 ^ 48 := by
  have hsame : s.countTick.counter i = s.counted.counter i := by
    rw [State.countTick_eq]
    split
    · rw [State.snapshot_counter, State.nextTick_counter]
    · rw [State.nextTick_counter]
  rw [hsame, State.counted_counter]

theorem State.snapshot_perf : s.snapshot.perf = s.perf := (State.snapshot_closed (within_closed 0x1 s) (Sub.refl _) s (State.Within.refl s _)).same .perf rfl

theorem State.nextTick_frozen : s.nextTick.perf.frozen = s.nextTick.is F.PERF_CTL_FREEZE ∧ s.nextTick.perf.snap = false := ⟨rfl, rfl⟩

theorem State.countTick_frozen : s.countTick.perf.frozen = s.countTick.is F.PERF_CTL_FREEZE ∧ s.countTick.perf.snap = false := by
  rw [State.countTick_eq]
  have hnext := s.counted.nextTick_frozen
  generalize s.counted.nextTick = u at hnext
  split
  · rw [State.snapshot_perf, State.is, State.fld, State.snapshot_rd_ne _ (by decide) (by decide) (by decide) (by decide)]
    exact hnext
  · exact hnext

theorem State.countTick_snapshot (h : s.perf.snap = true) : s.countTick.fld F.PERF_SNAP_TS_LO_TICK = s.tb.toNat % 2 ^ 32 ∧
    s.countTick.fld F.PERF_STAT_SNAP_SEQ = (s.fld F.PERF_STAT_SNAP_SEQ + 1) % 256 ∧
    ∀ i : Fin 32, s.countTick.rd (R.PERF_SNAP_LO i) = s.countTick.rd (R.PERF_CNT_LO i) ∧ s.countTick.rd (R.PERF_SNAP_HI i) = s.countTick.rd (R.PERF_CNT_HI i) := by
  have hstat : s.counted.nextTick.fld F.PERF_STAT_SNAP_SEQ = s.fld F.PERF_STAT_SNAP_SEQ := State.fld_congr (s.counted_rd_ne (.inr rfl))
  obtain ⟨hts, hseq, hcopy⟩ := s.counted.nextTick.snapshot_taken
  rw [State.countTick_eq, if_pos h]
  refine ⟨hts.trans (congrArg (fun v : BitVec 64 => v.toNat % 2 ^ 32) s.counted_tb), hseq.trans (by rw [hstat]), fun i => ?_⟩
  obtain ⟨hlo, hhi⟩ := hcopy i
  rw [hlo, hhi, State.snapshot_rd_ne, State.snapshot_rd_ne]
  · exact ⟨rfl, rfl⟩
  all_goals
    simp only [R.PERF_CNT_LO, R.PERF_CNT_HI, R.PERF_SNAP_TS_LO, R.PERF_SNAP_TS_HI, R.PERF_STAT]
    omega

end CountTick

/-! ## Timers at a moving timebase (R333) -/

section Timers
variable (s : State)

theorem State.gateRest_rd_ne (b : Nat) {a : Nat} (h : a ≠ R.CLK_GATE b) : (s.gateRest b).rd a = s.rd a := by
  unfold State.gateRest
  split
  · exact State.put_rd_ne _ (F.CLK_GATE_OPEN b) _ h
  · rfl

theorem State.gtShot_rd_ne (t : Nat) {a : Nat} (ht : a ≠ R.TIME_GT_CTL t) (he : a ≠ R.TIME_EVENT) (hg : a ≠ R.CLK_GATE 9) : (s.gtShot t).rd a = s.rd a := by
  rw [State.gtShot, State.gateRest_rd_ne _ 9 hg, State.setBit_rd_ne _ F.TIME_EVENT_GT _ he, State.put_rd_ne _ (F.TIME_GT_CTL_FIRED t) _ ht,
    State.put_rd_ne _ (F.TIME_GT_CTL_ARMED t) _ ht]

theorem State.setTb_rd_ne (v : BitVec 64) {a : Nat} (ht : ∀ t, t < 4 → a ≠ R.TIME_GT_CTL t) (he : a ≠ R.TIME_EVENT) (hg : a ≠ R.CLK_GATE 9) :
    (s.setTb v).rd a = s.rd a := by
  unfold State.setTb
  dsimp only
  split
  · rfl
  · rw [each_rd]
    · rfl
    · intro s n hn
      split
      · exact s.gtShot_rd_ne n (ht n (List.mem_range.mp hn)) he hg
      · rfl

theorem State.setTb_tb (v : BitVec 64) : (s.setTb v).tb = v := by
  unfold State.setTb
  dsimp only
  split
  · rfl
  · refine (closed_each (P := State.Within { s with tb := v } 0x1) _ (State.Within.refl _ _) fun n t ht => ?_).same .tb rfl
    split
    · exact State.gtShot_closed (within_closed 0x1 _) (Sub.refl _) t n ht
    · exact ht

end Timers

/-! ## The tick -/

section Tick
variable (s : State)

/-- The timebase of the tick, with the timers it reaches, and its count. -/
def State.tickTb : State :=
  let s := { s with clock := s.clock + 1 }
  if s.tbRuns then (s.setTb (s.tb + 1#64)).tally (.plain 1 1) else s

/-- The sequencers in WAITING counted. -/
def State.tickWaiting : State := each s.waiting (fun n s => s.tally (.ofLane 7 n 1)) s

theorem State.tick_eq : s.tick = (if s.tickTb.tickWaiting.tbRuns then s.tickTb.tickWaiting.countTick else s.tickTb.tickWaiting).drain := rfl

theorem State.CountsNoTicks.congr {s t : State} {i : Nat} (h : s.CountsNoTicks i) (hc : t.rd (R.PERF_CNT_CTL i) = s.rd (R.PERF_CNT_CTL i))
    (hp : t.rd R.MODE_PERSONA = s.rd R.MODE_PERSONA) : t.CountsNoTicks i := by
  unfold State.CountsNoTicks at h ⊢
  rw [State.is_congr (f := F.PERF_CNT_CTL_EN i) hc, State.is_congr (f := F.MODE_PERSONA_ACTIVE) hp, State.fld_congr (f := F.PERF_CNT_CTL_CLASS i) hc]
  exact h

theorem State.tickWaiting_butCount : s.ButCount s.tickWaiting := by
  unfold State.tickWaiting
  generalize s.waiting = l
  induction l generalizing s with
  | nil => exact State.ButCount.refl s
  | cons n l ih => exact (s.tally_butCount (.ofLane 7 n 1)).trans (ih _)

theorem State.tickWaiting_countPart (hs : tabWf regReset s.regs = true) {i : Nat} (h : s.CountsNoTicks i) : s.tickWaiting.countPart i = s.countPart i := by
  unfold State.tickWaiting
  generalize s.waiting = l
  induction l generalizing s with
  | nil => rfl
  | cons n l ih =>
    refine (ih (s.tally (.ofLane 7 n 1)) ?_ (h.congr (State.tally_rd ..) (State.tally_rd ..))).trans (s.tally_ticks hs h (.inr rfl))
    rw [State.tally_regs]
    exact hs

/-- What the timebase of a tick leaves alone: every register but the timers', their event and their gate. -/
theorem State.tickTb_rd {b : Nat} (ht : ∀ t, t < 4 → b ≠ R.TIME_GT_CTL t) (he : b ≠ R.TIME_EVENT) (hg : b ≠ R.CLK_GATE 9) : s.tickTb.rd b = s.rd b := by
  unfold State.tickTb
  dsimp only
  split
  · rw [State.tally_rd, State.setTb_rd_ne _ _ ht he hg]
    rfl
  · rfl

theorem State.tickTb_cases : s.tbRuns = true ∧ State.ButCount (State.setTb { s with clock := s.clock + 1 } (s.tb + 1#64)) s.tickTb ∨
    s.tbRuns = false ∧ s.tickTb = { s with clock := s.clock + 1 } := by
  have hsame : State.tbRuns { s with clock := s.clock + 1 } = s.tbRuns := rfl
  unfold State.tickTb
  dsimp only
  rw [hsame]
  cases s.tbRuns with
  | true => exact .inl ⟨rfl, State.tally_butCount _ _⟩
  | false => exact .inr ⟨rfl, rfl⟩

theorem State.setTb_within (v : BitVec 64) : s.Within 0x10000001 (s.setTb v) := State.setTb_closed (within_closed _ s) (Sub.refl _) s v (State.Within.refl s _)

/-- What the timebase of a tick changes besides: itself and the clock. -/
theorem State.tickTb_parts : s.tickTb.tb = (if s.tbRuns then s.tb + 1#64 else s.tb) ∧ s.tickTb.clock = s.clock + 1 ∧ s.tickTb.dorm = s.dorm ∧
    s.tickTb.perf.frozen = s.perf.frozen ∧ s.tickTb.perf.snap = s.perf.snap := by
  obtain ⟨hruns, p, hp⟩ | ⟨hruns, ht⟩ := s.tickTb_cases
  · have hwithin := State.setTb_within { s with clock := s.clock + 1 } (s.tb + 1#64)
    have htb := State.setTb_tb { s with clock := s.clock + 1 } (s.tb + 1#64)
    have hclock := hwithin.same .clock rfl
    have hdorm := hwithin.same .dorm rfl
    have hperf : (State.setTb { s with clock := s.clock + 1 } (s.tb + 1#64)).perf = s.perf := hwithin.same .perf rfl
    generalize State.setTb { s with clock := s.clock + 1 } (s.tb + 1#64) = u at hp htb hclock hdorm hperf
    have hfrozen : u.perf.frozen = s.perf.frozen := congrArg Perf.frozen hperf
    have hsnap : u.perf.snap = s.perf.snap := congrArg Perf.snap hperf
    rw [hp, hruns]
    exact ⟨htb, hclock, hdorm, hfrozen, hsnap⟩
  · rw [ht, hruns]
    exact ⟨rfl, rfl, rfl, rfl, rfl⟩

theorem State.tickTb_countPart (hs : s.Canonical) {i : Fin 32} (h : s.CountsNoTicks i) :
    s.tickTb.countPart i = s.countPart i ∧ tabWf regReset s.tickTb.regs = true ∧ s.tickTb.CountsNoTicks i := by
  have hnot : s.tickTb.CountsNoTicks i := by
    refine h.congr (s.tickTb_rd ?_ ?_ ?_) (s.tickTb_rd ?_ ?_ ?_)
    all_goals
      simp only [R.PERF_CNT_CTL, R.MODE_PERSONA, R.TIME_GT_CTL, R.TIME_EVENT, R.CLK_GATE]
      omega
  have hcanon : s.tickTb.Canonical := by
    unfold State.tickTb
    dsimp only
    split
    · exact State.tally_closed (canonical_closed 0x10000) (Sub.refl _) _ _ (State.setTb_closed (canonical_closed _) (Sub.refl _) _ _ { hs with })
    · exact { hs with }
  refine ⟨?_, hcanon.regs, hnot⟩
  unfold State.tickTb
  dsimp only
  split
  · have hset := State.setTb_closed (canonical_closed _) (Sub.refl _) { s with clock := s.clock + 1 } (s.tb + 1#64) { hs with }
    have hperf : (State.setTb { s with clock := s.clock + 1 } (s.tb + 1#64)).perf = s.perf := (State.setTb_within { s with clock := s.clock + 1 } _).same .perf rfl
    have hkept : State.CountsNoTicks (State.setTb { s with clock := s.clock + 1 } (s.tb + 1#64)) i := by
      refine h.congr (State.setTb_rd_ne _ _ ?_ ?_ ?_) (State.setTb_rd_ne _ _ ?_ ?_ ?_)
      all_goals
        simp only [R.PERF_CNT_CTL, R.MODE_PERSONA, R.TIME_GT_CTL, R.TIME_EVENT, R.CLK_GATE]
        omega
    rw [State.tally_ticks _ hset.regs hkept (.inl rfl), State.countPart, hperf, State.countPart]
  · rfl

/-- The state at which the counters count the tick. -/
def State.tickBegun : State := s.tickTb.tickWaiting

theorem State.tickBegun_rd {b : Nat} (ht : ∀ t, t < 4 → b ≠ R.TIME_GT_CTL t) (he : b ≠ R.TIME_EVENT) (hg : b ≠ R.CLK_GATE 9) : s.tickBegun.rd b = s.rd b := by
  obtain ⟨p, hp⟩ := s.tickTb.tickWaiting_butCount
  rw [State.tickBegun, hp, ← s.tickTb_rd ht he hg]
  rfl

theorem State.tickBegun_parts : s.tickBegun.tb = (if s.tbRuns then s.tb + 1#64 else s.tb) ∧ s.tickBegun.clock = s.clock + 1 ∧
    s.tickBegun.perf.frozen = s.perf.frozen ∧ s.tickBegun.perf.snap = s.perf.snap ∧ s.tickBegun.tbRuns = s.tbRuns := by
  have hon : s.tickBegun.domOn 1 = s.domOn 1 := by
    rw [State.domOn, State.fld, s.tickBegun_rd]
    · rfl
    all_goals
      simp only [F.PWR_DOM_STAT_ON, R.PWR_DOM_STAT, R.TIME_GT_CTL, R.TIME_EVENT, R.CLK_GATE]
      omega
  obtain ⟨htb, hclock, hdorm, hfrozen, hsnap⟩ := s.tickTb_parts
  obtain ⟨p, hp⟩ := s.tickTb.tickWaiting_butCount
  have hbegun : s.tickBegun = { s.tickTb with perf := { s.tickTb.perf with part := p } } := hp
  refine ⟨?_, ?_, ?_, ?_, ?_⟩
  · rw [hbegun, htb]
  · rw [hbegun, hclock]
  · rw [hbegun, ← hfrozen]
  · rw [hbegun, ← hsnap]
  · rw [State.tbRuns, hon, hbegun, hdorm, State.tbRuns]

theorem State.tickBegun_countPart (hs : s.Canonical) {i : Fin 32} (h : s.CountsNoTicks i) : s.tickBegun.countPart i = s.countPart i := by
  obtain ⟨hpart, hwf, hnot⟩ := s.tickTb_countPart hs h
  rw [State.tickBegun, State.tickWaiting_countPart _ hwf hnot, hpart]

/-- The counters of the tick, where the timebase runs. -/
def State.tickCounted : State := if s.tbRuns then s.tickBegun.countTick else s.tickBegun

theorem State.tick_drains : s.tick = s.tickCounted.drain := by
  have hruns : s.tickTb.tickWaiting.tbRuns = s.tbRuns := s.tickBegun_parts.2.2.2.2
  rw [State.tick_eq, hruns]
  rfl

theorem State.countTick_within : s.Within 0x10001 s.countTick := State.countTick_closed (within_closed _ s) (Sub.refl _) s (State.Within.refl s _)

theorem State.drain_within : s.Within 0x10403 s.drain := State.drain_closed (within_closed _ s) (Sub.refl _) s (State.Within.refl s _)

theorem State.tickCounted_rd {b : Nat} (hb : b < 0x0400A000) (ht : ∀ t, t < 4 → b ≠ R.TIME_GT_CTL t) (he : b ≠ R.TIME_EVENT) (hg : b ≠ R.CLK_GATE 9) :
    s.tickCounted.rd b = s.rd b := by
  unfold State.tickCounted
  split
  · rw [State.countTick_rd_ne _ hb, s.tickBegun_rd ht he hg]
  · exact s.tickBegun_rd ht he hg

theorem State.tickCounted_tb : s.tickCounted.tb = s.tickBegun.tb ∧ s.tickCounted.clock = s.tickBegun.clock := by
  unfold State.tickCounted
  split
  · exact ⟨s.tickBegun.countTick_within.same .tb rfl, s.tickBegun.countTick_within.same .clock rfl⟩
  · exact ⟨rfl, rfl⟩

theorem State.tickCounted_counter (hs : s.Canonical) {i : Fin 32} (h : s.CountsNoTicks i) :
    s.tickCounted.counter i % 2 ^ 48 = (s.counter i + if s.tbRuns && !s.perf.frozen then s.countPart i else 0) % 2 ^ 48 := by
  have hsame : s.tickBegun.counter i = s.counter i := by
    refine State.counter_of_rd _ (s.tickBegun_rd ?_ ?_ ?_) (s.tickBegun_rd ?_ ?_ ?_)
    all_goals
      simp only [R.PERF_CNT_LO, R.PERF_CNT_HI, R.TIME_GT_CTL, R.TIME_EVENT, R.CLK_GATE]
      omega
  obtain ⟨-, -, hfrozen, -, -⟩ := s.tickBegun_parts
  unfold State.tickCounted
  cases hruns : s.tbRuns with
  | true => rw [if_pos rfl, State.countTick_counter, hsame, hfrozen, s.tickBegun_countPart hs h, Bool.true_and]
  | false => rw [if_neg (by decide), hsame, Bool.false_and, if_neg (by decide), Nat.add_zero]

end Tick

/-- Settles O56: the tick changes only parts and registers of time and counting, and each counter gets what was staged for it. -/
theorem emptyQueueLetsOneTickPass : Obligations.EmptyQueueLetsOneTickPass := by
  unfold Obligations.EmptyQueueLetsOneTickPass
  intro s hq
  have hstep : step s = .next (settle s.tick) := by
    unfold step
    rw [hq]
    rfl
  have hwithin : s.Within 0x18010403 s.tick := State.tick_closed (within_closed _ s) (Sub.refl _) s (State.Within.refl s _)
  obtain ⟨hrd, hfrozen, hsnap⟩ := s.tickCounted.drain_moves
  have hdrain := s.tickCounted.drain_within
  have hlow (b : Nat) (hb : b < 0x04014000) : (settle s.tick).rd b = s.tickCounted.rd b := by
    rw [settle_rd, s.tick_drains]
    exact hrd b hb
  obtain ⟨htb, hclock⟩ := s.tickCounted_tb
  obtain ⟨btb, bclock, bfrozen, bsnap, -⟩ := s.tickBegun_parts
  have hlast : (settle s.tick).tb = s.tickBegun.tb := by
    rw [settle_tb, s.tick_drains]
    have hkept : s.tickCounted.drain.tb = s.tickCounted.tb := hdrain.same .tb rfl
    exact hkept.trans htb
  refine ⟨_, hstep, hwithin.1.trans hq, ?_, ?_, hwithin.same .mem rfl, hwithin.same .gpr rfl, hwithin.same .cregs rfl, hwithin.same .sup rfl, ?_, ?_, fun hs i hi => ?_,
    fun hruns => ?_, fun hruns hdue => ?_⟩
  · rw [settle_clock, s.tick_drains]
    have hkept : s.tickCounted.drain.clock = s.tickCounted.clock := hdrain.same .clock rfl
    exact hkept.trans (hclock.trans bclock)
  · rw [hlast, btb, State.tbRuns]
    simp
  · rw [hlow _ (by decide)]
    refine s.tickCounted_rd ?_ ?_ ?_ ?_
    all_goals
      simp only [R.PWR_DOM_STAT, R.TIME_GT_CTL, R.TIME_EVENT, R.CLK_GATE]
      omega
  · refine State.fld_congr ?_
    rw [hlow _ (by decide)]
    refine s.tickCounted_rd ?_ ?_ ?_ ?_
    all_goals
      simp only [F.MODE_STATUS_CURRENT, R.MODE_STATUS, R.TIME_GT_CTL, R.TIME_EVENT, R.CLK_GATE]
      omega
  · rw [← s.tickCounted_counter hs hi]
    refine congrArg (· % 2 ^ 48) (State.counter_of_rd _ (hlow _ ?_) (hlow _ ?_))
    all_goals
      simp only [R.PERF_CNT_LO, R.PERF_CNT_HI]
      omega
  · have hcounted : s.tickCounted = s.tickBegun.countTick := if_pos hruns
    rw [settle_perf, State.is_congr (hlow F.PERF_CTL_FREEZE.addr (by decide)), s.tick_drains, hfrozen, hsnap, hcounted]
    exact s.tickBegun.countTick_frozen
  · have hcounted : s.tickCounted = s.tickBegun.countTick := if_pos hruns
    obtain ⟨hts, hseq, hcopy⟩ := s.tickBegun.countTick_snapshot (bsnap.trans hdue)
    have hstat : s.tickBegun.fld F.PERF_STAT_SNAP_SEQ = s.fld F.PERF_STAT_SNAP_SEQ := State.fld_congr (s.tickBegun_rd (by
      simp only [F.PERF_STAT_SNAP_SEQ, R.PERF_STAT, R.TIME_GT_CTL]
      omega) (by decide) (by decide))
    refine ⟨?_, ?_, fun i => ?_⟩
    · rw [State.fld_congr (hlow F.PERF_SNAP_TS_LO_TICK.addr (by decide)), hcounted, hts, hlast]
    · rw [State.fld_congr (hlow F.PERF_STAT_SNAP_SEQ.addr (by decide)), hcounted, hseq, hstat]
    · rw [hlow, hlow, hlow, hlow, hcounted]
      · exact hcopy i
      all_goals
        simp only [R.PERF_SNAP_LO, R.PERF_SNAP_HI, R.PERF_CNT_LO, R.PERF_CNT_HI]
        omega

end Sys2Proof.Machine
end

section
/-! SUPPORT. The timebase and its timers: restarts, loads, captures, and the timers that a move forwards fires (R327 to R336). -/

namespace Sys2Proof.Machine

/-! ## Bits of a field -/

/-- A field after one of its bits was set, bit by bit. -/
theorem State.setBit_bit (s : State) (f : Fld) {i j : Nat} (h : f.Fits) (hi : i < f.wd) (hj : j < f.wd) :
    bitAt ((s.setBit f i).fld f) j = (bitAt (s.fld f) j || decide (i = j)) := by
  have hlt : s.fld f < 2 ^ f.wd := bitsOf_lt _ _ _
  unfold State.setBit
  split
  · by_cases hij : i = j
    · subst hij
      simp [*]
    · simp [hij]
  · rename_i hb
    have hbit : (BitVec.ofNat f.wd (s.fld f)) &&& BitVec.twoPow f.wd i = 0#f.wd := by
      refine BitVec.eq_of_getLsbD_eq fun k hk => ?_
      rw [BitVec.getLsbD_and, BitVec.getLsbD_ofNat, BitVec.getLsbD_twoPow, testBit_eq_bitAt]
      by_cases hki : i = k
      · subst hki
        simp [hb]
      · simp [hki]
    have hsum : (BitVec.ofNat f.wd (s.fld f) + BitVec.twoPow f.wd i).toNat = (s.fld f + 2 ^ i) % 2 ^ f.wd := by
      simp [BitVec.toNat_add, BitVec.toNat_twoPow]
    rw [State.setFld_fld_same _ _ _ h, ← hsum, BitVec.add_eq_or_of_and_eq_zero _ _ hbit, ← testBit_eq_bitAt, ← testBit_eq_bitAt, BitVec.toNat_or,
      Nat.testBit_or, BitVec.toNat_ofNat, Nat.mod_eq_of_lt hlt, BitVec.toNat_twoPow, Nat.mod_eq_of_lt (Nat.pow_lt_pow_right (by decide) hi),
      Nat.testBit_two_pow]

/-! ## Timers that fire (R333) -/

section Shots
variable (s : State)

/-- A timer fires when the timebase has reached v. -/
def State.shotDue (s : State) (v t : Nat) : Bool := s.is (F.TIME_GT_CTL_ARMED t) && decide (s.gtCmp t ≤ v)

theorem timer_ne_event (t : Nat) : R.TIME_GT_CTL t ≠ R.TIME_EVENT := by
  simp only [R.TIME_GT_CTL, R.TIME_EVENT]
  omega

theorem timer_ne_gate (t : Nat) (h : t < 4) : R.TIME_GT_CTL t ≠ R.CLK_GATE 9 := by
  simp only [R.TIME_GT_CTL, R.CLK_GATE]
  omega

theorem timer_ne_timer {i t : Nat} (h : i ≠ t) : R.TIME_GT_CTL i ≠ R.TIME_GT_CTL t := by
  simp only [R.TIME_GT_CTL]
  omega

theorem State.gtShot_before_gate (t : Nat) {b : Nat} (h : b ≠ R.CLK_GATE 9) : (s.gtShot t).rd b =
    (((s.put (F.TIME_GT_CTL_ARMED t) false).put (F.TIME_GT_CTL_FIRED t) true).setBit F.TIME_EVENT_GT t).rd b := State.gateRest_rd_ne _ 9 h

theorem State.gtShot_timer {t : Nat} (h : t < 4) : (s.gtShot t).rd (R.TIME_GT_CTL t) =
    ((s.put (F.TIME_GT_CTL_ARMED t) false).put (F.TIME_GT_CTL_FIRED t) true).rd (R.TIME_GT_CTL t) := by
  rw [s.gtShot_before_gate t (timer_ne_gate t h), State.setBit_rd_ne _ F.TIME_EVENT_GT _ (timer_ne_event t)]

theorem State.gtShot_armed {t : Nat} (h : t < 4) : (s.gtShot t).is (F.TIME_GT_CTL_ARMED t) = false := by
  rw [State.is_congr (f := F.TIME_GT_CTL_ARMED t) (s.gtShot_timer h), State.put_is_apart _ _ _ _ (Fld.fits_of rfl) (Fld.apart_of_bits rfl),
    State.put_is_same _ _ _ (Fld.fits_of rfl) rfl]

theorem State.gtShot_fired {t : Nat} (h : t < 4) : (s.gtShot t).is (F.TIME_GT_CTL_FIRED t) = true := by
  rw [State.is_congr (f := F.TIME_GT_CTL_FIRED t) (s.gtShot_timer h), State.put_is_same _ _ _ (Fld.fits_of rfl) rfl]

theorem State.gtShot_event {t i : Nat} (h : t < 4) (hi : i < 4) :
    bitAt ((s.gtShot t).fld F.TIME_EVENT_GT) i = (bitAt (s.fld F.TIME_EVENT_GT) i || decide (t = i)) := by
  rw [State.fld_congr (f := F.TIME_EVENT_GT) (s.gtShot_before_gate t (by decide)), State.setBit_bit _ _ (by decide) h hi,
    State.put_fld_apart _ _ _ _ (Fld.fits_of rfl) (.inl (timer_ne_event t).symm), State.put_fld_apart _ _ _ _ (Fld.fits_of rfl) (.inl (timer_ne_event t).symm)]

theorem State.gtShot_out (t : Nat) : (s.gtShot t).out = s.out :=
  (State.gtShot_closed (within_closed 0x1 s) (Sub.refl _) s t (State.Within.refl s _)).same .out rfl

theorem State.gtShot_tb (t : Nat) : (s.gtShot t).tb = s.tb :=
  (State.gtShot_closed (within_closed 0x1 s) (Sub.refl _) s t (State.Within.refl s _)).same .tb rfl

theorem State.gtCmp_congr {s u : State} (t : Nat) (h : u.rd (R.TIME_GT_CMP_LO t) = s.rd (R.TIME_GT_CMP_LO t))
    (h4 : u.rd (R.TIME_GT_CMP_LO t + 4) = s.rd (R.TIME_GT_CMP_LO t + 4)) : u.gtCmp t = s.gtCmp t := State.pair_of_rd h h4

/-- No compare value is changed by a timer that fires. -/
theorem State.gtShot_cmp (t : Nat) {i : Nat} (h : t < 4) (hi : i < 4) : (s.gtShot t).gtCmp i = s.gtCmp i := by
  refine State.gtCmp_congr i (s.gtShot_rd_ne t ?_ ?_ ?_) (s.gtShot_rd_ne t ?_ ?_ ?_) <;>
    simp only [R.TIME_GT_CMP_LO, R.TIME_GT_CTL, R.TIME_EVENT, R.CLK_GATE] <;> omega

/-- What the timers have done where the timebase has moved forwards to v: those due have fired, the others stand as they were. -/
def State.ShotsAt (s : State) (v : Nat) (t : State) : Prop :=
  (∀ i : Fin 4, s.is (F.TIME_GT_CTL_ARMED i) = true → s.gtCmp i ≤ v →
    t.is (F.TIME_GT_CTL_ARMED i) = false ∧ t.is (F.TIME_GT_CTL_FIRED i) = true ∧ bitAt (t.fld F.TIME_EVENT_GT) i = true) ∧
  (∀ i : Fin 4, (s.is (F.TIME_GT_CTL_ARMED i) = false ∨ v < s.gtCmp i) →
    t.is (F.TIME_GT_CTL_ARMED i) = s.is (F.TIME_GT_CTL_ARMED i) ∧ t.is (F.TIME_GT_CTL_FIRED i) = s.is (F.TIME_GT_CTL_FIRED i))

theorem State.ShotsAt.congr {s t u : State} {v : Nat} (h : s.ShotsAt v t) (hr : ∀ i : Fin 4, u.rd (R.TIME_GT_CTL i) = t.rd (R.TIME_GT_CTL i))
    (he : u.fld F.TIME_EVENT_GT = t.fld F.TIME_EVENT_GT) : s.ShotsAt v u := by
  have ha (i : Fin 4) : u.is (F.TIME_GT_CTL_ARMED i) = t.is (F.TIME_GT_CTL_ARMED i) := State.is_congr (hr i)
  have hf (i : Fin 4) : u.is (F.TIME_GT_CTL_FIRED i) = t.is (F.TIME_GT_CTL_FIRED i) := State.is_congr (hr i)
  refine ⟨fun i => ?_, fun i => ?_⟩
  · rw [ha, hf, he]
    exact h.1 i
  · rw [ha, hf]
    exact h.2 i

/-- One timer looked at. -/
def State.shotIf (v t : Nat) (s : State) : State := if s.shotDue v t then s.gtShot t else s

/-- What the timers of a list have done, timer by timer. -/
theorem State.shots_timers (v : Nat) (l : List Nat) (hl : l.Nodup) (h4 : ∀ t ∈ l, t < 4) (i : Nat) (hi : i < 4) :
    (s.shotDue v i = true → i ∈ l → (each l (State.shotIf v) s).is (F.TIME_GT_CTL_ARMED i) = false ∧
      (each l (State.shotIf v) s).is (F.TIME_GT_CTL_FIRED i) = true ∧ bitAt ((each l (State.shotIf v) s).fld F.TIME_EVENT_GT) i = true) ∧
    (s.shotDue v i = false ∨ i ∉ l → (each l (State.shotIf v) s).rd (R.TIME_GT_CTL i) = s.rd (R.TIME_GT_CTL i) ∧
      (bitAt (s.fld F.TIME_EVENT_GT) i = true → bitAt ((each l (State.shotIf v) s).fld F.TIME_EVENT_GT) i = true)) := by
  induction l generalizing s with
  | nil => exact ⟨fun _ h => absurd h List.not_mem_nil, fun _ => ⟨rfl, id⟩⟩
  | cons t l ih =>
    obtain ⟨ht, hl⟩ := List.nodup_cons.mp hl
    have ht4 : t < 4 := h4 t List.mem_cons_self
    obtain ⟨ihDue, ihRest⟩ := ih (State.shotIf v t s) hl fun k hk => h4 k (List.mem_cons_of_mem _ hk)
    rw [show each (t :: l) (State.shotIf v) s = each l (State.shotIf v) (State.shotIf v t s) from rfl]
    have hkeeps (hne : i ≠ t) : (State.shotIf v t s).rd (R.TIME_GT_CTL i) = s.rd (R.TIME_GT_CTL i) ∧
        (bitAt (s.fld F.TIME_EVENT_GT) i = true → bitAt ((State.shotIf v t s).fld F.TIME_EVENT_GT) i = true) := by
      unfold State.shotIf
      split
      · refine ⟨s.gtShot_rd_ne t (timer_ne_timer hne) (timer_ne_event i) (timer_ne_gate i hi), fun h => ?_⟩
        rw [State.gtShot_event _ ht4 hi, h, Bool.true_or]
      · exact ⟨rfl, id⟩
    have hdue (hne : i ≠ t) : (State.shotIf v t s).shotDue v i = s.shotDue v i := by
      unfold State.shotDue
      rw [State.is_congr (f := F.TIME_GT_CTL_ARMED i) (hkeeps hne).1]
      unfold State.shotIf
      split
      · rw [State.gtShot_cmp _ _ ht4 hi]
      · rfl
    by_cases hit : i = t
    · subst hit
      obtain ⟨hrd, hev⟩ := ihRest (.inr ht)
      rw [State.is_congr (f := F.TIME_GT_CTL_ARMED i) hrd, State.is_congr (f := F.TIME_GT_CTL_FIRED i) hrd]
      refine ⟨fun h _ => ?_, fun h => ?_⟩
      · have hshot : State.shotIf v i s = s.gtShot i := if_pos h
        rw [hshot] at hev ⊢
        exact ⟨s.gtShot_armed hi, s.gtShot_fired hi, hev (by rw [State.gtShot_event _ hi hi, decide_eq_true rfl, Bool.or_true])⟩
      · have hnot : s.shotDue v i = false := h.resolve_right (fun h => h List.mem_cons_self)
        have hsame : State.shotIf v i s = s := if_neg (by rw [hnot]; decide)
        rw [hsame] at hrd hev ⊢
        exact ⟨hrd, hev⟩
    · refine ⟨fun h hm => ihDue (by rw [hdue hit]; exact h) ((List.mem_cons.mp hm).resolve_left hit), fun h => ?_⟩
      obtain ⟨hrd, hev⟩ := ihRest (by rw [hdue hit]; exact h.imp_right fun h hm => h (List.mem_cons_of_mem _ hm))
      exact ⟨hrd.trans (hkeeps hit).1, fun h => hev ((hkeeps hit).2 h)⟩

theorem State.setTb_eq (v : BitVec 64) : s.setTb v =
    if v.toNat < s.tb.toNat then { s with tb := v } else each (List.range 4) (State.shotIf v.toNat) { s with tb := v } := rfl

/-- A move of the timebase forwards fires the timers that are due. -/
theorem State.setTb_shots {v : BitVec 64} (h : s.tb.toNat ≤ v.toNat) : s.ShotsAt v.toNat (s.setTb v) := by
  have hall (i : Fin 4) := State.shots_timers { s with tb := v } v.toNat (List.range 4) List.nodup_range (fun t ht => List.mem_range.mp ht) i i.isLt
  rw [State.setTb_eq, if_neg (by omega)]
  refine ⟨fun i ha hc => (hall i).1 ?_ (List.mem_range.mpr i.isLt), fun i hn => ?_⟩
  · exact Bool.and_eq_true_iff.mpr ⟨ha, decide_eq_true hc⟩
  · obtain ⟨hrd, -⟩ := (hall i).2 (.inl (Bool.and_eq_false_iff.mpr (hn.imp_right fun hc => decide_eq_false (Nat.not_le.mpr hc))))
    exact ⟨State.is_congr (f := F.TIME_GT_CTL_ARMED i) hrd, State.is_congr (f := F.TIME_GT_CTL_FIRED i) hrd⟩

/-- A move backwards, or without an armed timer, changes the timebase alone. -/
theorem State.setTb_still {v : BitVec 64} (h : v.toNat < s.tb.toNat ∨ ∀ i : Fin 4, s.is (F.TIME_GT_CTL_ARMED i) = false) : s.setTb v = { s with tb := v } := by
  rw [State.setTb_eq]
  split
  · rfl
  · next hv =>
    have hoff := h.resolve_left hv
    suffices hl : ∀ l : List Nat, (∀ t ∈ l, t < 4) → each l (State.shotIf v.toNat) { s with tb := v } = { s with tb := v } from
      hl _ fun t ht => List.mem_range.mp ht
    intro l hl
    induction l with
    | nil => rfl
    | cons t l ih =>
      have hnot : State.shotDue { s with tb := v } v.toNat t = false := Bool.and_eq_false_iff.mpr (.inl (hoff ⟨t, hl t List.mem_cons_self⟩))
      have hsame : State.shotIf v.toNat t { s with tb := v } = { s with tb := v } := if_neg (by rw [hnot]; decide)
      refine Eq.trans ?_ (ih fun k hk => hl k (List.mem_cons_of_mem _ hk))
      exact congrArg (each l (State.shotIf v.toNat)) hsame

theorem State.setTb_out (v : BitVec 64) : (s.setTb v).out = s.out := (s.setTb_within v).same .out rfl

theorem State.setTb_dorm (v : BitVec 64) : (s.setTb v).dorm = s.dorm := (s.setTb_within v).same .dorm rfl

end Shots

/-! ## The restart after Dormant (R329) -/

section Restart
variable (s : State) (n : BitVec 32)

/-- The value the timebase restarts at. -/
def State.restartValue (s : State) (n : BitVec 32) : BitVec 64 := BitVec.ofNat 64 (s.dorm.t0 + (2 * n.toNat * s.dorm.period * 25 + 512) / 1024)

/-- The timebase restarted, its timers fired. -/
def State.restartMoved (s : State) (n : BitVec 32) : State := { s with dorm := { s.dorm with stopped := false } }.setTb (s.restartValue n)

/-- The records of a sleep that ended. -/
def State.sleepNoted (s : State) (n : BitVec 32) : State := ((s.setFld F.TIME_SLEEP_LAST_COUNT n.toNat).put F.TIME_STAT_SLEPT true).put F.TIME_EVENT_WOKE true

/-- The uncertainty grown by a sleep of n periods of length p; a full sleep counter leaves none certain. -/
def State.uncertGrown (s : State) (n : BitVec 32) (p : Nat) : State :=
  if n = 0xFFFFFFFF#32 then (s.setFld F.TIME_UNCERT_US 0xFFFFFFFF).put F.TIME_STAT_SLEEP_OVF true
  else s.bump F.TIME_UNCERT_US (ceilDiv (2 * n.toNat * p + 100 * p) 1600000)

theorem State.tbRestart_eq (h : s.dorm.phase = .waking) (hs : s.dorm.stopped = true) :
    s.tbRestart n.toNat = ((s.restartMoved n).sleepNoted n).uncertGrown n s.dorm.period := by
  have hfull : n.toNat = 0xFFFFFFFF ↔ n = 0xFFFFFFFF#32 := ⟨fun e => by bv_omega, fun e => by rw [e]; decide⟩
  rw [State.tbRestart, h, hs, State.uncertGrown]
  simp only [← hfull]
  rfl

theorem State.uncertGrown_keeps (p : Nat) : (s.uncertGrown n p).tb = s.tb ∧ (s.uncertGrown n p).dorm = s.dorm ∧ (s.uncertGrown n p).out = s.out ∧
    (s.uncertGrown n p).is F.TIME_STAT_SLEPT = s.is F.TIME_STAT_SLEPT ∧ ∀ b, b ≠ R.TIME_UNCERT → b ≠ R.TIME_STAT → (s.uncertGrown n p).rd b = s.rd b := by
  unfold State.uncertGrown
  split
  · refine ⟨?_, ?_, ?_, ?_, fun b h1 h2 => ?_⟩
    · rw [State.put_tb, State.setFld_tb]
    · rw [State.put_dorm, State.setFld_dorm]
    · rw [State.put_out, State.setFld_out]
    · rw [State.put_is_apart _ _ _ _ (by decide) (by decide), State.setFld_is_apart _ _ _ _ (by decide) (by decide)]
    · rw [State.put_rd_ne _ F.TIME_STAT_SLEEP_OVF _ h2, State.setFld_rd_ne _ F.TIME_UNCERT_US _ h1]
  · exact ⟨State.bump_tb .., State.bump_dorm .., State.bump_out .., State.bump_is_apart _ _ _ _ (by decide) (by decide),
      fun b h1 _ => State.bump_rd_ne _ F.TIME_UNCERT_US _ h1⟩

theorem State.restartMoved_dorm : (s.restartMoved n).dorm = { s.dorm with stopped := false } := State.setTb_dorm _ _

theorem State.restartMoved_out : (s.restartMoved n).out = s.out := State.setTb_out _ _

theorem State.restartMoved_rd_ne {b : Nat} (ht : ∀ t, t < 4 → b ≠ R.TIME_GT_CTL t) (he : b ≠ R.TIME_EVENT) (hg : b ≠ R.CLK_GATE 9) :
    (s.restartMoved n).rd b = s.rd b := State.setTb_rd_ne _ _ ht he hg

theorem State.sleepNoted_rd_ne {b : Nat} (h1 : b ≠ R.TIME_SLEEP_LAST) (h2 : b ≠ R.TIME_STAT) (h3 : b ≠ R.TIME_EVENT) : (s.sleepNoted n).rd b = s.rd b := by
  rw [State.sleepNoted, State.put_rd_ne _ F.TIME_EVENT_WOKE _ h3, State.put_rd_ne _ F.TIME_STAT_SLEPT _ h2, State.setFld_rd_ne _ F.TIME_SLEEP_LAST_COUNT _ h1]

theorem State.sleepNoted_keeps : (s.sleepNoted n).tb = s.tb ∧ (s.sleepNoted n).dorm = s.dorm ∧ (s.sleepNoted n).out = s.out := by
  simp only [State.sleepNoted, State.put_tb, State.setFld_tb, State.put_dorm, State.setFld_dorm, State.put_out, State.setFld_out, and_self]

/-- What the end of every sleep records. -/
theorem State.sleepNoted_records : (s.sleepNoted n).fld F.TIME_SLEEP_LAST_COUNT = n.toNat ∧ (s.sleepNoted n).is F.TIME_STAT_SLEPT = true ∧
    (s.sleepNoted n).is F.TIME_EVENT_WOKE = true ∧ (s.sleepNoted n).is F.TIME_STAT_SLEEP_OVF = s.is F.TIME_STAT_SLEEP_OVF ∧
    (s.sleepNoted n).fld F.TIME_EVENT_GT = s.fld F.TIME_EVENT_GT := by
  unfold State.sleepNoted
  refine ⟨?_, ?_, State.put_is_same _ _ _ (by decide) rfl, ?_, ?_⟩
  · simp (disch := decide) only [State.put_fld_apart, State.setFld_fld_same]
    exact Nat.mod_eq_of_lt n.isLt
  · simp (disch := decide) only [State.put_is_apart, State.put_is_same]
  · simp (disch := decide) only [State.put_is_apart, State.setFld_is_apart]
  · simp (disch := decide) only [State.put_fld_apart, State.setFld_fld_apart]

theorem ceilDiv_uncert (a : Nat) : ceilDiv a 1600000 = (a + 1599999) / 1600000 := congrArg (· / 1600000) (by omega)

/-- What every restart leaves: the timebase moved, the sleep noted. -/
theorem State.tbRestart_spec (h : s.dorm.phase = .waking) (hs : s.dorm.stopped = true) :
    (s.tbRestart n.toNat).tb = s.restartValue n ∧ (s.tbRestart n.toNat).fld F.TIME_SLEEP_LAST_COUNT = n.toNat ∧
      (s.tbRestart n.toNat).is F.TIME_STAT_SLEPT = true ∧ (s.tbRestart n.toNat).is F.TIME_EVENT_WOKE = true ∧ (s.tbRestart n.toNat).dorm.stopped = false ∧
      (s.tbRestart n.toNat).dorm.phase = .waking ∧ (s.tbRestart n.toNat).out = s.out ∧
      (s.tbRestart n.toNat).fld F.TIME_EVENT_GT = (s.restartMoved n).fld F.TIME_EVENT_GT ∧
      (∀ b, b ≠ R.TIME_UNCERT → b ≠ R.TIME_SLEEP_LAST → b ≠ R.TIME_STAT → b ≠ R.TIME_EVENT → (s.tbRestart n.toNat).rd b = (s.restartMoved n).rd b) := by
  have htb : (s.restartMoved n).tb = s.restartValue n := State.setTb_tb _ _
  have hout := s.restartMoved_out n
  have hdorm := s.restartMoved_dorm n
  rw [s.tbRestart_eq n h hs]
  generalize s.restartMoved n = u at *
  obtain ⟨hlast, hslept, hwoke, -, hgt⟩ := u.sleepNoted_records n
  obtain ⟨hnTb, hnDorm, hnOut⟩ := u.sleepNoted_keeps n
  have hnoted : ∀ b, b ≠ R.TIME_SLEEP_LAST → b ≠ R.TIME_STAT → b ≠ R.TIME_EVENT → (u.sleepNoted n).rd b = u.rd b := fun b h2 h3 h4 => u.sleepNoted_rd_ne n h2 h3 h4
  generalize u.sleepNoted n = w at *
  obtain ⟨hgTb, hgDorm, hgOut, hgSlept, hgrown⟩ := w.uncertGrown_keeps n s.dorm.period
  generalize w.uncertGrown n s.dorm.period = x at *
  refine ⟨by rw [hgTb, hnTb, htb], ?_, by rw [hgSlept, hslept], ?_, by rw [hgDorm, hnDorm, hdorm], by rw [hgDorm, hnDorm, hdorm]; exact h,
    by rw [hgOut, hnOut, hout], ?_, fun b h1 h2 h3 h4 => by rw [hgrown b h1 h3, hnoted b h2 h3 h4]⟩
  · rw [State.fld_congr (hgrown _ (by decide) (by decide)), hlast]
  · rw [State.is_congr (hgrown _ (by decide) (by decide)), hwoke]
  · rw [State.fld_congr (hgrown _ (by decide) (by decide)), hgt]

theorem State.sleepNoted_uncert : ((s.restartMoved n).sleepNoted n).fld F.TIME_UNCERT_US = s.fld F.TIME_UNCERT_US :=
  State.fld_congr ((State.sleepNoted_rd_ne _ n (by decide) (by decide) (by decide)).trans
    (s.restartMoved_rd_ne n (fun t _ => by simp only [F.TIME_UNCERT_US, R.TIME_UNCERT, R.TIME_GT_CTL]; omega) (by decide) (by decide)))

/-- The uncertainty of a sleep whose counter is not full. -/
theorem State.tbRestart_uncert (h : s.dorm.phase = .waking) (hs : s.dorm.stopped = true) (hn : n ≠ 0xFFFFFFFF#32) :
    (s.tbRestart n.toNat).fld F.TIME_UNCERT_US = min (s.fld F.TIME_UNCERT_US + (2 * n.toNat * s.dorm.period + 100 * s.dorm.period + 1599999) / 1600000) 0xFFFFFFFF ∧
      (s.tbRestart n.toNat).is F.TIME_STAT_SLEEP_OVF = s.is F.TIME_STAT_SLEEP_OVF := by
  have hstat : (s.restartMoved n).is F.TIME_STAT_SLEEP_OVF = s.is F.TIME_STAT_SLEEP_OVF :=
    State.is_congr (s.restartMoved_rd_ne n (fun t _ => by simp only [F.TIME_STAT_SLEEP_OVF, R.TIME_STAT, R.TIME_GT_CTL]; omega) (by decide) (by decide))
  have huncert := s.sleepNoted_uncert n
  obtain ⟨-, -, -, hovf, -⟩ := (s.restartMoved n).sleepNoted_records n
  rw [s.tbRestart_eq n h hs, State.uncertGrown, if_neg hn]
  generalize (s.restartMoved n).sleepNoted n = w at *
  refine ⟨?_, ?_⟩
  · rw [State.bump_fld_same _ _ _ (by decide), huncert, ceilDiv_uncert]
    rfl
  · rw [State.bump_is_apart _ _ _ _ (by decide) (by decide), hovf, hstat]

theorem State.tbRestart_full (h : s.dorm.phase = .waking) (hs : s.dorm.stopped = true) :
    (s.tbRestart (0xFFFFFFFF#32).toNat).fld F.TIME_UNCERT_US = 0xFFFFFFFF ∧ (s.tbRestart (0xFFFFFFFF#32).toNat).is F.TIME_STAT_SLEEP_OVF = true := by
  rw [s.tbRestart_eq _ h hs, State.uncertGrown, if_pos rfl]
  generalize (s.restartMoved 0xFFFFFFFF#32).sleepNoted 0xFFFFFFFF#32 = w
  refine ⟨?_, State.put_is_same _ _ _ (by decide) rfl⟩
  rw [State.put_fld_apart _ _ _ _ (by decide) (by decide), State.setFld_fld_same _ _ _ (by decide)]
  rfl

theorem restart_unarmed (h : s.dorm.phase = .waking) (hs : s.dorm.stopped = true) (hn : n ≠ 0xFFFFFFFF#32)
    (hoff : ∀ i : Fin 4, s.is (F.TIME_GT_CTL_ARMED i) = false) :
    Completes (.timebaseRestart n) s fun t => t.tb = s.restartValue n ∧ t.fld F.TIME_SLEEP_LAST_COUNT = n.toNat ∧ t.is F.TIME_STAT_SLEPT = true ∧
      t.is F.TIME_EVENT_WOKE = true ∧ t.dorm.stopped = false ∧ t.dorm.phase = .waking ∧ t.out = s.out ∧
      t.fld F.TIME_UNCERT_US = min (s.fld F.TIME_UNCERT_US + (2 * n.toNat * s.dorm.period + 100 * s.dorm.period + 1599999) / 1600000) 0xFFFFFFFF ∧
      t.is F.TIME_STAT_SLEEP_OVF = s.is F.TIME_STAT_SLEEP_OVF ∧ s.Only [R.TIME_SLEEP_LAST, R.TIME_STAT, R.TIME_EVENT, R.TIME_UNCERT] t := by
  obtain ⟨htb, hlast, hslept, hwoke, hstop, hphase, hout, -, hrd⟩ := s.tbRestart_spec n h hs
  obtain ⟨huncert, hovf⟩ := s.tbRestart_uncert n h hs hn
  have hmoved : s.restartMoved n = { s with dorm := { s.dorm with stopped := false }, tb := s.restartValue n } := State.setTb_still _ (.inr hoff)
  refine done_completes (u := s.tbRestart n.toNat) rfl ⟨htb, hlast, hslept, hwoke, hstop, hphase, hout, huncert, hovf, fun b hb => ?_⟩
  simp only [List.mem_cons, List.not_mem_nil, or_false, not_or] at hb
  obtain ⟨h1, h2, h3, h4⟩ := hb
  rw [settle_rd, hrd b h4 h1 h2 h3, hmoved]
  rfl

theorem restart_forwards (h : s.dorm.phase = .waking) (hs : s.dorm.stopped = true) (hfwd : s.tb.toNat ≤ (s.restartValue n).toNat) :
    Completes (.timebaseRestart n) s fun t => t.tb = s.restartValue n ∧ t.fld F.TIME_SLEEP_LAST_COUNT = n.toNat ∧ t.is F.TIME_STAT_SLEPT = true ∧
      t.is F.TIME_EVENT_WOKE = true ∧ t.dorm.stopped = false ∧ t.dorm.phase = .waking ∧ t.out = s.out ∧ s.ShotsAt t.tb.toNat t ∧
      s.Only [R.TIME_SLEEP_LAST, R.TIME_STAT, R.TIME_UNCERT, R.TIME_GT_CTL 0, R.TIME_GT_CTL 1, R.TIME_GT_CTL 2, R.TIME_GT_CTL 3, R.TIME_EVENT, R.CLK_GATE 9] t := by
  obtain ⟨htb, hlast, hslept, hwoke, hstop, hphase, hout, hgt, hrd⟩ := s.tbRestart_spec n h hs
  have hshots : s.ShotsAt (s.restartValue n).toNat (s.restartMoved n) := State.setTb_shots { s with dorm := { s.dorm with stopped := false } } hfwd
  refine done_completes (u := s.tbRestart n.toNat) rfl ⟨htb, hlast, hslept, hwoke, hstop, hphase, hout, ?_, fun b hb => ?_⟩
  · rw [settle_tb, htb]
    refine hshots.congr (fun i => ?_) hgt
    rw [settle_rd, hrd] <;> simp only [R.TIME_GT_CTL, R.TIME_UNCERT, R.TIME_SLEEP_LAST, R.TIME_STAT, R.TIME_EVENT] <;> omega
  · simp only [List.mem_cons, List.not_mem_nil, or_false, not_or] at hb
    obtain ⟨h1, h2, h3, t0, t1, t2, t3, he, hg⟩ := hb
    rw [settle_rd, hrd b h3 h1 h2 he, s.restartMoved_rd_ne n (fun t ht => ?_) he hg]
    obtain rfl | rfl | rfl | rfl : t = 0 ∨ t = 1 ∨ t = 2 ∨ t = 3 := by omega
    · exact t0
    · exact t1
    · exact t2
    · exact t3

theorem restart_full (h : s.dorm.phase = .waking) (hs : s.dorm.stopped = true) :
    Completes (.timebaseRestart 0xFFFFFFFF#32) s fun t => t.fld F.TIME_UNCERT_US = 0xFFFFFFFF ∧ t.is F.TIME_STAT_SLEEP_OVF = true ∧ t.dorm.stopped = false ∧
      t.fld F.TIME_SLEEP_LAST_COUNT = 0xFFFFFFFF ∧ t.tb = s.restartValue 0xFFFFFFFF#32 := by
  obtain ⟨htb, hlast, -, -, hstop, -⟩ := s.tbRestart_spec 0xFFFFFFFF#32 h hs
  obtain ⟨huncert, hovf⟩ := s.tbRestart_full h hs
  exact done_completes (u := s.tbRestart (0xFFFFFFFF#32).toNat) rfl ⟨huncert, hovf, hstop, hlast, htb⟩

theorem restart_nothing (h : s.dorm.phase ≠ .waking ∨ s.dorm.stopped = false) (hirq : s.IrqRemembered) : Completes (.timebaseRestart n) s fun t => t = s := by
  refine nothing_completes ?_ hirq
  have hno : s.tbRestart n.toNat = s := by
    unfold State.tbRestart
    rcases h with h | h <;> simp [h]
  exact congrArg done hno

end Restart

/-! ## The uncertainty and the low-word read (R328) -/

theorem uncertStep_grows (s : State) (hon : s.domOn 1 = true) :
    Completes .uncertStep s fun t => t.fld F.TIME_UNCERT_US = (if s.is F.CLK_SRC_SEL then s.fld F.TIME_UNCERT_US else min (s.fld F.TIME_UNCERT_US + 1) 4294967295) ∧
      t.out = s.out ∧ s.Only [R.TIME_UNCERT] t := by
  cases hsel : s.is F.CLK_SRC_SEL with
  | true =>
    refine done_completes (u := s) ?_ ⟨settle_fld .., rfl, fun b _ => settle_rd ..⟩
    change execUncertStep s = _
    rw [execUncertStep, hon, hsel]
    rfl
  | false =>
    refine done_completes (u := s.bump F.TIME_UNCERT_US 1) ?_ ⟨?_, ?_, fun b hb => ?_⟩
    · change execUncertStep s = _
      rw [execUncertStep, hon, hsel]
      rfl
    · rw [settle_fld, State.bump_fld_same _ _ _ (by decide)]
      rfl
    · rw [settle_out, State.bump_out]
    · rw [settle_rd, State.bump_rd_ne _ F.TIME_UNCERT_US _ (List.ne_of_not_mem_cons hb)]

theorem uncertStep_nothing (s : State) (hoff : s.domOn 1 = false) (hirq : s.IrqRemembered) : Completes .uncertStep s fun t => t = s := by
  refine nothing_completes ?_ hirq
  change execUncertStep s = _
  rw [execUncertStep, hoff]
  rfl

theorem State.Apart.tb {s t : State} (h : s.Apart t) : t.tb = s.tb := by
  obtain ⟨p, o, d, rfl⟩ := h
  rfl

theorem State.Apart.tbHigh {s t : State} (h : s.Apart t) (k : Nat) : t.tbHigh k = s.tbHigh k := by
  obtain ⟨p, o, d, rfl⟩ := h
  rfl

theorem State.tbLow_high (s : State) (k j : Nat) : (s.tbLow k).1.tbHigh j = if j = k then BitVec.ofNat 32 (s.tb.toNat / 2 ^ 32) else s.tbHigh j := tabGet_put ..

theorem high_word (v : BitVec 64) : BitVec.ofNat 32 (v.toNat / 2 ^ 32) = (v >>> 32).setWidth 32 := by
  refine BitVec.eq_of_toNat_eq ?_
  simp [Nat.shiftRight_eq_div_pow]

theorem low_word (v : BitVec 64) : BitVec.ofNat 32 v.toNat = v.setWidth 32 := by
  refine BitVec.eq_of_toNat_eq ?_
  simp

theorem timebaseRead_latches (m : Master) (s : State) (h : s.Reached m R.TIME_TB_LO) :
    Completes (.timebaseRead m) s fun t => s.Returned m 0 (s.tb.setWidth 32) t ∧ t.tbHigh (latchKey m) = (s.tb >>> 32).setWidth 32 ∧
      (∀ j : Fin 64, j.val ≠ latchKey m → t.tbHigh j = s.tbHigh j) ∧ t.tb = s.tb ∧ s.Only [] t := by
  refine viaRead_completes (f := fun s => ((s.tbLow (latchKey m)).1, .ok, (s.tbLow (latchKey m)).2)) rfl h fun t ht ho => ⟨?_, ?_, fun j hj => ?_, ht.tb, fun b _ => ht.rd b⟩
  · refine ho.trans ?_
    rw [← low_word]
    rfl
  · rw [ht.tbHigh, State.tbLow_high, if_pos rfl, high_word]
  · rw [ht.tbHigh, State.tbLow_high, if_neg hj]

/-! ## Loads of the timebase (R330, R336) -/

section Load
variable (s : State) (m : Master)

/-- A field of one bit written with the value it has: no register changes. -/
theorem State.put_self_rd (f : Fld) (hf : f.Fits) (hw : f.wd = 1) (b : Nat) : (s.put f (s.is f)).rd b = s.rd b := by
  by_cases hb : b = f.addr
  · subst hb
    have hfld : b2n (s.is f) = s.fld f := by
      have hlt : s.fld f < 2 ^ f.wd := bitsOf_lt _ _ _
      rw [hw] at hlt
      unfold State.is b2n
      obtain h | h : s.fld f = 0 ∨ s.fld f = 1 := by omega
      all_goals simp [h]
    rw [State.put, hfld, State.setFld, State.wr_rd_same]
    refine BitVec.eq_of_toNat_eq (Nat.eq_of_testBit_eq fun i => ?_)
    rw [setBits_testBit _ _ _ _ _ hf]
    split
    · next hi =>
      rw [State.fld, bitsOf_testBit, decide_eq_true (by omega), Bool.true_and]
      congr 1
      omega
    · rfl
  · exact State.put_rd_ne s f _ hb

/-- TIME.CTL written with the two settings it has. -/
def State.ctlKept (s : State) : State := (s.put F.TIME_CTL_SYNC_LOAD (s.is F.TIME_CTL_SYNC_LOAD)).put F.TIME_CTL_PPS_EDGE (s.is F.TIME_CTL_PPS_EDGE)

theorem State.ctlKept_rd (b : Nat) : s.ctlKept.rd b = s.rd b := by
  have h1 := s.put_self_rd F.TIME_CTL_SYNC_LOAD (by decide) rfl
  have h2 : (s.put F.TIME_CTL_SYNC_LOAD (s.is F.TIME_CTL_SYNC_LOAD)).is F.TIME_CTL_PPS_EDGE = s.is F.TIME_CTL_PPS_EDGE := State.is_congr (h1 _)
  rw [State.ctlKept, ← h2, State.put_self_rd _ _ (by decide) rfl, h1]

theorem State.ctlKept_tb : s.ctlKept.tb = s.tb := by rw [State.ctlKept, State.put_tb, State.put_tb]

theorem State.ctlKept_out : s.ctlKept.out = s.out := by rw [State.ctlKept, State.put_out, State.put_out]

/-- The bits of a write of TIME.CTL that keeps its settings. -/
theorem timeCtl_bits {a b k : Nat} (ha : a < 2) (hb : b < 2) (hk : k = 2 ∨ k = 4) :
    bitAt (BitVec.ofNat 32 (a + 8 * b + k)).toNat 0 = (a != 0) ∧ bitAt (BitVec.ofNat 32 (a + 8 * b + k)).toNat 3 = (b != 0) ∧
      bitAt (BitVec.ofNat 32 (a + 8 * b + k)).toNat 1 = decide (k = 2) ∧ bitAt (BitVec.ofNat 32 (a + 8 * b + k)).toNat 2 = decide (k = 4) := by
  obtain rfl | rfl : a = 0 ∨ a = 1 := by omega
  all_goals obtain rfl | rfl : b = 0 ∨ b = 1 := by omega
  all_goals rcases hk with rfl | rfl
  all_goals decide

theorem State.fld_lt_two {f : Fld} (h : f.wd = 1) : s.fld f < 2 := by
  have hlt : s.fld f < 2 ^ f.wd := bitsOf_lt _ _ _
  rwa [h] at hlt

/-- The actions of TIME.CTL taken from the masters that may. -/
theorem State.timeAct_taken {k : Nat} (hk : k = 2 ∨ k = 4) (hm : m.code = 1 ∨ m.code = 3) : s.timeAct m k =
    (if k = 2 then s.ctlKept.loadTb else (s.ctlKept.setFld F.TIME_UNCERT_US 0).put F.TIME_STAT_SLEEP_OVF false, .ok) := by
  obtain ⟨h0, h3, h1, h2⟩ := timeCtl_bits (s.fld_lt_two (f := F.TIME_CTL_SYNC_LOAD) rfl) (s.fld_lt_two (f := F.TIME_CTL_PPS_EDGE) rfl) hk
  have hmay : (m.code != 1 && m.code != 3) = false := by rcases hm with h | h <;> simp [h]
  rw [State.timeAct, State.timeCtl, State.ctlKept, State.is, State.is]
  simp only [h0, h1, h2, h3, Bool.and_assoc, hmay, Bool.and_false, Bool.false_eq_true, if_false]
  rcases hk with rfl | rfl <;> simp

theorem State.timeAct_refused {k : Nat} (hk : k = 2 ∨ k = 4) (h1 : m.code ≠ 1) (h3 : m.code ≠ 3) : s.timeAct m k = (s, .err 2) := by
  obtain ⟨-, -, hb1, hb2⟩ := timeCtl_bits (s.fld_lt_two (f := F.TIME_CTL_SYNC_LOAD) rfl) (s.fld_lt_two (f := F.TIME_CTL_PPS_EDGE) rfl) hk
  rw [State.timeAct, State.timeCtl]
  refine if_pos ?_
  rw [hb1, hb2]
  rcases hk with rfl | rfl <;> simp [h1, h3]

/-- The uncertainty cleared with the flag of a full sleep counter. -/
def State.certain (s : State) : State := (s.setFld F.TIME_UNCERT_US 0).put F.TIME_STAT_SLEEP_OVF false

theorem State.certain_spec : s.certain.fld F.TIME_UNCERT_US = 0 ∧ s.certain.is F.TIME_STAT_SLEEP_OVF = false ∧ s.certain.is F.TIME_STAT_SLEPT = s.is F.TIME_STAT_SLEPT ∧
    s.certain.tb = s.tb ∧ s.certain.out = s.out ∧ ∀ b, b ≠ R.TIME_UNCERT → b ≠ R.TIME_STAT → s.certain.rd b = s.rd b := by
  unfold State.certain
  refine ⟨?_, State.put_is_same _ _ _ (by decide) rfl, ?_, ?_, ?_, fun b h1 h2 => ?_⟩
  · simp (disch := decide) only [State.put_fld_apart, State.setFld_fld_same]
    rfl
  · simp (disch := decide) only [State.put_is_apart, State.setFld_is_apart]
  · rw [State.put_tb, State.setFld_tb]
  · rw [State.put_out, State.setFld_out]
  · rw [State.put_rd_ne _ F.TIME_STAT_SLEEP_OVF _ h2, State.setFld_rd_ne _ F.TIME_UNCERT_US _ h1]

/-- SYNC_LOAD, the value a load puts into the timebase. -/
def State.loadValue (s : State) : BitVec 64 := s.rd R.TIME_SYNC_LOAD_HI ++ s.rd R.TIME_SYNC_LOAD_LO

theorem State.loadValue_eq : BitVec.ofNat 64 (s.pair R.TIME_SYNC_LOAD_LO) = s.loadValue := by
  refine BitVec.eq_of_toNat_eq ?_
  have hlo := (s.rd R.TIME_SYNC_LOAD_LO).isLt
  have hhi := (s.rd R.TIME_SYNC_LOAD_HI).isLt
  rw [State.loadValue, BitVec.toNat_append, ← Nat.shiftLeft_add_eq_or_of_lt hlo, BitVec.toNat_ofNat, State.pair, show R.TIME_SYNC_LOAD_LO + 4 = R.TIME_SYNC_LOAD_HI from rfl,
    Nat.shiftLeft_eq]
  omega

theorem State.loadTb_eq : s.loadTb = (s.setTb s.loadValue).certain.put F.TIME_STAT_SLEPT false := by
  rw [State.loadTb, State.loadValue_eq]
  rfl

/-- What a load leaves, whatever its value fires. -/
theorem State.loadTb_spec : s.loadTb.tb = s.loadValue ∧ s.loadTb.fld F.TIME_UNCERT_US = 0 ∧ s.loadTb.is F.TIME_STAT_SLEEP_OVF = false ∧
    s.loadTb.is F.TIME_STAT_SLEPT = false ∧ s.loadTb.out = s.out ∧
    ∀ b, b ≠ R.TIME_UNCERT → b ≠ R.TIME_STAT → s.loadTb.rd b = (s.setTb s.loadValue).rd b := by
  have htb := State.setTb_tb s s.loadValue
  have hout := State.setTb_out s s.loadValue
  rw [State.loadTb_eq]
  generalize s.setTb s.loadValue = u at *
  obtain ⟨huncert, hovf, -, hctb, hcout, hrd⟩ := u.certain_spec
  generalize u.certain = w at *
  refine ⟨?_, ?_, ?_, State.put_is_same _ _ _ (by decide) rfl, ?_, fun b h1 h2 => ?_⟩
  · rw [State.put_tb, hctb, htb]
  · rw [State.put_fld_apart _ _ _ _ (by decide) (by decide), huncert]
  · rw [State.put_is_apart _ _ _ _ (by decide) (by decide), hovf]
  · rw [State.put_out, hcout, hout]
  · rw [State.put_rd_ne _ F.TIME_STAT_SLEPT _ h2, hrd b h1 h2]

theorem State.ctlKept_loadValue : s.ctlKept.loadValue = s.loadValue := by rw [State.loadValue, State.ctlKept_rd, State.ctlKept_rd, State.loadValue]

theorem load_still (h : s.Reached m R.TIME_CTL) (hm : m.code = 1 ∨ m.code = 3)
    (hstill : s.loadValue.toNat < s.tb.toNat ∨ ∀ i : Fin 4, s.is (F.TIME_GT_CTL_ARMED i) = false) :
    Completes (.timebaseLoad m) s fun t => s.Answered m 0 t ∧ t.tb = s.loadValue ∧ t.fld F.TIME_UNCERT_US = 0 ∧ t.is F.TIME_STAT_SLEEP_OVF = false ∧
      t.is F.TIME_STAT_SLEPT = false ∧ s.Only [R.TIME_UNCERT, R.TIME_STAT] t := by
  obtain ⟨htb, huncert, hovf, hslept, hout, hrd⟩ := s.ctlKept.loadTb_spec
  have hset : s.ctlKept.setTb s.ctlKept.loadValue = { s.ctlKept with tb := s.ctlKept.loadValue } := by
    refine State.setTb_still _ ?_
    rw [State.ctlKept_loadValue, State.ctlKept_tb]
    exact hstill.imp_right fun hoff i => (State.is_congr (f := F.TIME_GT_CTL_ARMED i) (s.ctlKept_rd _)).trans (hoff i)
  refine via_completes (f := fun s => s.timeAct m 2) rfl h ?_
  rw [s.timeAct_taken m (.inl rfl) hm, if_pos rfl]
  refine fun t ht ho => ⟨?_, ?_, ?_, ?_, ?_, fun b hb => ?_⟩
  · rw [State.Answered, ho, hout, State.ctlKept_out]
    rfl
  · rw [ht.tb, htb, State.ctlKept_loadValue]
  · rw [ht.fld, huncert]
  · rw [ht.is, hovf]
  · rw [ht.is, hslept]
  · simp only [List.mem_cons, List.not_mem_nil, or_false, not_or] at hb
    rw [ht.rd, hrd b hb.1 hb.2, hset]
    exact s.ctlKept_rd b

theorem load_forwards (h : s.Reached m R.TIME_CTL) (hm : m.code = 1 ∨ m.code = 3) (hfwd : s.tb.toNat ≤ s.loadValue.toNat) :
    Completes (.timebaseLoad m) s fun t => s.Answered m 0 t ∧ t.tb = s.loadValue ∧ t.fld F.TIME_UNCERT_US = 0 ∧ t.is F.TIME_STAT_SLEEP_OVF = false ∧
      t.is F.TIME_STAT_SLEPT = false ∧ s.ShotsAt t.tb.toNat t ∧
      s.Only [R.TIME_UNCERT, R.TIME_STAT, R.TIME_GT_CTL 0, R.TIME_GT_CTL 1, R.TIME_GT_CTL 2, R.TIME_GT_CTL 3, R.TIME_EVENT, R.CLK_GATE 9] t := by
  obtain ⟨htb, huncert, hovf, hslept, hout, hrd⟩ := s.ctlKept.loadTb_spec
  have hshots : s.ShotsAt s.loadValue.toNat (s.ctlKept.setTb s.ctlKept.loadValue) := by
    have hk := State.setTb_shots s.ctlKept (v := s.ctlKept.loadValue) (by rwa [State.ctlKept_loadValue, State.ctlKept_tb])
    rw [State.ctlKept_loadValue] at hk ⊢
    have ha (f : Fld) : s.ctlKept.is f = s.is f := State.is_congr (s.ctlKept_rd _)
    have hc (i : Nat) : s.ctlKept.gtCmp i = s.gtCmp i := State.gtCmp_congr i (s.ctlKept_rd _) (s.ctlKept_rd _)
    unfold State.ShotsAt at hk ⊢
    simpa only [ha, hc] using hk
  refine via_completes (f := fun s => s.timeAct m 2) rfl h ?_
  rw [s.timeAct_taken m (.inl rfl) hm, if_pos rfl]
  refine fun t ht ho => ⟨?_, ?_, ?_, ?_, ?_, ?_, fun b hb => ?_⟩
  · rw [State.Answered, ho, hout, State.ctlKept_out]
    rfl
  · rw [ht.tb, htb, State.ctlKept_loadValue]
  · rw [ht.fld, huncert]
  · rw [ht.is, hovf]
  · rw [ht.is, hslept]
  · rw [ht.tb, htb, State.ctlKept_loadValue]
    refine hshots.congr (fun i => ?_) (State.fld_congr (f := F.TIME_EVENT_GT) ?_)
    · rw [ht.rd, hrd] <;> simp only [R.TIME_GT_CTL, R.TIME_UNCERT, R.TIME_STAT] <;> omega
    · rw [ht.rd, hrd _ (by decide) (by decide)]
  · simp only [List.mem_cons, List.not_mem_nil, or_false, not_or] at hb
    obtain ⟨h1, h2, t0, t1, t2, t3, he, hg⟩ := hb
    rw [ht.rd, hrd b h1 h2, State.setTb_rd_ne _ _ (fun t ht => ?_) he hg, State.ctlKept_rd]
    obtain rfl | rfl | rfl | rfl : t = 0 ∨ t = 1 ∨ t = 2 ∨ t = 3 := by omega
    · exact t0
    · exact t1
    · exact t2
    · exact t3

theorem uncertClr_taken (h : s.Reached m R.TIME_CTL) (hm : m.code = 1 ∨ m.code = 3) :
    Completes (.uncertClr m) s fun t => s.Answered m 0 t ∧ t.fld F.TIME_UNCERT_US = 0 ∧ t.is F.TIME_STAT_SLEEP_OVF = false ∧
      t.is F.TIME_STAT_SLEPT = s.is F.TIME_STAT_SLEPT ∧ t.tb = s.tb ∧ s.Only [R.TIME_UNCERT, R.TIME_STAT] t := by
  refine via_completes (f := fun s => s.timeAct m 4) rfl h ?_
  rw [s.timeAct_taken m (.inr rfl) hm, if_neg (by decide)]
  obtain ⟨huncert, hovf, hslept, htb, hout, hrd⟩ := s.ctlKept.certain_spec
  rw [show (s.ctlKept.setFld F.TIME_UNCERT_US 0).put F.TIME_STAT_SLEEP_OVF false = s.ctlKept.certain from rfl]
  refine fun t ht ho => ⟨?_, ?_, ?_, ?_, ?_, fun b hb => ?_⟩
  · rw [State.Answered, ho, hout, State.ctlKept_out]
    rfl
  · rw [ht.fld, huncert]
  · rw [ht.is, hovf]
  · rw [ht.is, hslept, State.is_congr (s.ctlKept_rd _)]
  · rw [ht.tb, htb, State.ctlKept_tb]
  · simp only [List.mem_cons, List.not_mem_nil, or_false, not_or] at hb
    rw [ht.rd, hrd b hb.1 hb.2, State.ctlKept_rd]

/-- An action of TIME.CTL from a master that may not: an error, and nothing else. -/
theorem State.timeAct_stranger {k : Nat} (hk : k = 2 ∨ k = 4) (h1 : m.code ≠ 1) (h3 : m.code ≠ 3) {t : State} (ht : (s.timeAct m k).1.Apart t)
    (ho : t.out = .response m (s.timeAct m k).2.code 0 :: (s.timeAct m k).1.out) : s.Answered m 2 t ∧ t.tb = s.tb ∧ s.Only [] t := by
  rw [s.timeAct_refused m hk h1 h3] at ht ho
  exact ⟨ho, ht.tb, fun b _ => ht.rd b⟩

theorem load_refused (h : s.Reached m R.TIME_CTL) (h1 : m.code ≠ 1) (h3 : m.code ≠ 3) :
    Completes (.timebaseLoad m) s fun t => s.Answered m 2 t ∧ t.tb = s.tb ∧ s.Only [] t :=
  via_completes (f := fun s => s.timeAct m 2) rfl h fun _ ht ho => s.timeAct_stranger m (.inl rfl) h1 h3 ht ho

theorem uncertClr_refused (h : s.Reached m R.TIME_CTL) (h1 : m.code ≠ 1) (h3 : m.code ≠ 3) :
    Completes (.uncertClr m) s fun t => s.Answered m 2 t ∧ t.tb = s.tb ∧ s.Only [] t :=
  via_completes (f := fun s => s.timeAct m 4) rfl h fun _ ht ho => s.timeAct_stranger m (.inr rfl) h1 h3 ht ho

end Load

/-! ## The 1PPS input (R331) -/

section Pps
variable (s : State) (rising : Bool)

/-- The timebase captured. -/
def State.ppsTaken (s : State) : State :=
  (({ s with clk := { s.clk with ppsAt := some s.clock } }.setFld F.TIME_PPS_CAP_LO_VALUE s.tb.toNat).setFld F.TIME_PPS_CAP_HI_VALUE (s.tb.toNat / 2 ^ 32)).put
    F.TIME_EVENT_PPS true

/-- A pulse is due at the ball that is claimed for it. -/
theorem State.ppsEdge_due (huse : s.claimUse 0 = 2) (hon : s.domOn 1 = true) (hedge : rising = !s.is F.TIME_CTL_PPS_EDGE) : s.ppsEdge rising =
    if (match s.clk.ppsAt with | some t => decide (s.clock - t < 390625000) | none => false) then s.put F.TIME_EVENT_PPS_EXTRA true else s.ppsTaken := by
  have hdue : (decide (s.claimUse 0 = 2) && s.domOn 1 && rising != s.is F.TIME_CTL_PPS_EDGE) = true := by
    rw [huse, hon, hedge]
    cases s.is F.TIME_CTL_PPS_EDGE <;> rfl
  rw [State.ppsEdge, if_pos hdue]
  rfl

theorem setBits_word (w : Word) (v : Nat) : setBits w 0 32 v = BitVec.ofNat 32 v := by
  refine BitVec.eq_of_toNat_eq ?_
  have hw := w.isLt
  rw [setBits_toNat w 0 32 v (by decide), BitVec.toNat_ofNat]
  simp only [Nat.pow_zero, Nat.one_mul, Nat.zero_add, Nat.mod_one, Nat.add_zero]
  omega

/-- A register of one field after that field was written. -/
theorem State.setFld_whole (a v : Nat) : (s.setFld ⟨a, 0, 32⟩ v).rd a = BitVec.ofNat 32 v := by
  rw [State.setFld, State.wr_rd_same, setBits_word]

theorem State.ppsTaken_spec : s.ppsTaken.rd R.TIME_PPS_CAP_LO = s.tb.setWidth 32 ∧ s.ppsTaken.rd R.TIME_PPS_CAP_HI = (s.tb >>> 32).setWidth 32 ∧
    s.ppsTaken.is F.TIME_EVENT_PPS = true ∧ s.ppsTaken.clk.ppsAt = some s.clock ∧ s.ppsTaken.tb = s.tb ∧ s.ppsTaken.out = s.out ∧
    s.Only [R.TIME_PPS_CAP_LO, R.TIME_PPS_CAP_HI, R.TIME_EVENT] s.ppsTaken := by
  unfold State.ppsTaken
  have hrd : ∀ b, ({ s with clk := { s.clk with ppsAt := some s.clock } } : State).rd b = s.rd b := fun _ => rfl
  have hclk : ({ s with clk := { s.clk with ppsAt := some s.clock } } : State).clk.ppsAt = some s.clock := rfl
  have htb : ({ s with clk := { s.clk with ppsAt := some s.clock } } : State).tb = s.tb := rfl
  have hout : ({ s with clk := { s.clk with ppsAt := some s.clock } } : State).out = s.out := rfl
  generalize ({ s with clk := { s.clk with ppsAt := some s.clock } } : State) = u at *
  refine ⟨?_, ?_, State.put_is_same _ _ _ (by decide) rfl, ?_, ?_, ?_, fun b hb => ?_⟩
  · rw [State.put_rd_ne _ F.TIME_EVENT_PPS _ (by decide), State.setFld_rd_ne _ F.TIME_PPS_CAP_HI_VALUE _ (by decide), ← low_word]
    exact State.setFld_whole ..
  · rw [State.put_rd_ne _ F.TIME_EVENT_PPS _ (by decide), ← high_word]
    exact State.setFld_whole ..
  · rw [State.put_clk, State.setFld_clk, State.setFld_clk, hclk]
  · rw [State.put_tb, State.setFld_tb, State.setFld_tb, htb]
  · rw [State.put_out, State.setFld_out, State.setFld_out, hout]
  · simp only [List.mem_cons, List.not_mem_nil, or_false, not_or] at hb
    obtain ⟨h1, h2, h3⟩ := hb
    rw [State.put_rd_ne _ F.TIME_EVENT_PPS _ h3, State.setFld_rd_ne _ F.TIME_PPS_CAP_HI_VALUE _ h2, State.setFld_rd_ne _ F.TIME_PPS_CAP_LO_VALUE _ h1, hrd]

theorem pps_taken (huse : s.claimUse 0 = 2) (hon : s.domOn 1 = true) (hedge : rising = !s.is F.TIME_CTL_PPS_EDGE)
    (hlate : (match s.clk.ppsAt with | some t => decide (s.clock - t < 390625000) | none => false) = false) :
    Completes (.ppsEdge rising) s fun t => t.rd R.TIME_PPS_CAP_LO = s.tb.setWidth 32 ∧ t.rd R.TIME_PPS_CAP_HI = (s.tb >>> 32).setWidth 32 ∧
      t.is F.TIME_EVENT_PPS = true ∧ t.clk.ppsAt = some s.clock ∧ t.tb = s.tb ∧ t.out = s.out ∧
      s.Only [R.TIME_PPS_CAP_LO, R.TIME_PPS_CAP_HI, R.TIME_EVENT] t := by
  have hrun : s.ppsEdge rising = s.ppsTaken := by
    rw [s.ppsEdge_due rising huse hon hedge]
    exact if_neg (by rw [hlate]; decide)
  refine done_completes (u := s.ppsEdge rising) rfl ?_
  rw [hrun]
  obtain ⟨hlo, hhi, hev, hat, htb, hout, honly⟩ := s.ppsTaken_spec
  generalize s.ppsTaken = u at *
  refine ⟨(settle_rd ..).trans hlo, (settle_rd ..).trans hhi, (settle_is ..).trans hev, ?_, (settle_tb ..).trans htb, (settle_out ..).trans hout,
    fun b hb => (settle_rd ..).trans (honly b hb)⟩
  rw [settle_clk, hat]

theorem pps_extra (huse : s.claimUse 0 = 2) (hon : s.domOn 1 = true) (hedge : rising = !s.is F.TIME_CTL_PPS_EDGE) {at' : Nat} (hat : s.clk.ppsAt = some at')
    (hsoon : s.clock < at' + 390625000) :
    Completes (.ppsEdge rising) s fun t => t.is F.TIME_EVENT_PPS_EXTRA = true ∧ t.clk = s.clk ∧ t.out = s.out ∧ s.Only [R.TIME_EVENT] t := by
  refine done_completes (u := s.ppsEdge rising) rfl ?_
  rw [s.ppsEdge_due rising huse hon hedge, hat, if_pos (decide_eq_true (by omega))]
  refine ⟨(settle_is ..).trans (State.put_is_same _ _ _ (by decide) rfl), (settle_clk _).trans (State.put_clk ..), ?_, fun b hb => ?_⟩
  · rw [settle_out, State.put_out]
  · rw [settle_rd, State.put_rd_ne _ F.TIME_EVENT_PPS_EXTRA _ (List.ne_of_not_mem_cons hb)]

theorem pps_nothing (h : s.claimUse 0 ≠ 2 ∨ s.domOn 1 = false ∨ rising = s.is F.TIME_CTL_PPS_EDGE) (hirq : s.IrqRemembered) :
    Completes (.ppsEdge rising) s fun t => t = s := by
  refine nothing_completes (congrArg done ?_) hirq
  unfold State.ppsEdge
  rcases h with h | h | h <;> simp [h]

end Pps

/-! ## The general timers (R333) -/

section Arm
variable (m : Master) (i : Fin 4) (s : State)

theorem claimReg_timer (i : Fin 4) : claimReg (2 + i) = R.MODE_CLAIM_TIMER i := by
  unfold claimReg
  rw [if_neg (by omega), if_neg (by omega), Nat.add_sub_cancel_left]

theorem State.gtCtl_arm : s.gtCtl m i 1#32 = if !s.holds m (2 + i) 1 then (s.configError (claimCode (2 + i)) m.holder, .err 1)
    else if (s.gateRequest 9).2 then (if s.gtCmp i ≤ s.tb.toNat then (s.gateRequest 9).1.gtShot i else (s.gateRequest 9).1.put (F.TIME_GT_CTL_ARMED i) true, .ok)
    else (s, .err 1) := rfl

/-- A timer armed by one that does not hold its claim. -/
theorem State.gtCtl_stranger (h : s.holds m (2 + i) 1 = false) : s.gtCtl m i 1#32 = (s.configError (claimCode (2 + i)) m.holder, .err 1) := by
  rw [State.gtCtl_arm, h]
  rfl

theorem State.gtCtl_held (h : s.holds m (2 + i) 1 = true) : s.gtCtl m i 1#32 =
    if s.is (F.CLK_GATE_RUN 9) then (if s.gtCmp i ≤ s.tb.toNat then (s.gateOpen 9).gtShot i else (s.gateOpen 9).put (F.TIME_GT_CTL_ARMED i) true, .ok)
    else (s, .err 1) := by
  rw [State.gtCtl_arm, h, if_neg (by decide)]
  unfold State.gateRequest
  cases s.is (F.CLK_GATE_RUN 9) with
  | true => rw [if_pos rfl, if_pos rfl]
  | false => rw [if_neg Bool.false_ne_true, if_neg Bool.false_ne_true, if_neg Bool.false_ne_true]

theorem State.gateOpen_run : (s.gateOpen 9).is (F.CLK_GATE_RUN 9) = s.is (F.CLK_GATE_RUN 9) := by
  rw [State.is_congr (s.gateOpen_rd 9 _)]
  exact State.put_is_apart _ _ _ _ (by decide) (by decide)

theorem State.gateOpen_out : (s.gateOpen 9).out = s.out := by
  have h : (s.put (F.CLK_GATE_OPEN 9) true).out = s.out := State.put_out ..
  rw [State.gateOpen]
  generalize s.put (F.CLK_GATE_OPEN 9) true = u at *
  exact h

theorem State.holds_eq : s.holds m (2 + i) 1 = (s.fld (F.MODE_CLAIM_TIMER_USE i) == 1 && m.holder == s.fld (F.MODE_CLAIM_TIMER_HOLDER i) &&
    m.secBit == s.is (F.MODE_CLAIM_TIMER_HOLDER_SEC i)) := by
  unfold State.holds State.claimUse
  rw [claimReg_timer]
  rfl

theorem State.holds_of {m : Master} {i : Fin 4} {s : State} (huse : s.fld (F.MODE_CLAIM_TIMER_USE i) = 1) (hold : s.fld (F.MODE_CLAIM_TIMER_HOLDER i) = m.holder)
    (hsec : s.is (F.MODE_CLAIM_TIMER_HOLDER_SEC i) = m.secBit) : s.holds m (2 + i) 1 = true := by
  rw [State.holds_eq, huse, hold, hsec]
  simp

theorem gtArm_waits (h : s.Reached m (R.TIME_GT_CTL i)) (hold : s.holds m (2 + i) 1 = true) (hrun : s.is (F.CLK_GATE_RUN 9) = true) (hlate : s.tb.toNat < s.gtCmp i) :
    Completes (.gtArm m i) s fun t => s.Answered m 0 t ∧ t.is (F.TIME_GT_CTL_ARMED i) = true ∧ t.is (F.TIME_GT_CTL_FIRED i) = s.is (F.TIME_GT_CTL_FIRED i) ∧
      t.is (F.CLK_GATE_OPEN 9) = true ∧ s.Only [R.TIME_GT_CTL i, R.CLK_GATE 9] t := by
  refine via_completes (f := fun s => s.gtCtl m i 1#32) rfl h ?_
  rw [s.gtCtl_held m i hold, hrun, if_pos rfl, if_neg (by omega)]
  have hgate := timer_ne_gate i i.isLt
  have hopens := s.gateOpen_open 9
  have hout := s.gateOpen_out
  have hne (b : Nat) (hb : b ≠ R.CLK_GATE 9) := s.gateOpen_rd_ne 9 hb
  generalize s.gateOpen 9 = u at *
  refine fun t ht ho => ⟨?_, ?_, ?_, ?_, fun b hb => ?_⟩
  · rw [State.Answered, ho, State.put_out, hout]
    rfl
  · rw [ht.is, State.put_is_same _ _ _ (Fld.fits_of rfl) rfl]
  · rw [ht.is, State.put_is_apart _ _ _ _ (Fld.fits_of rfl) (Fld.apart_of_bits rfl), State.is_congr (f := F.TIME_GT_CTL_FIRED i) (hne _ hgate)]
  · rw [ht.is, State.put_is_apart _ _ _ _ (Fld.fits_of rfl) (.inl hgate.symm), hopens]
  · simp only [List.mem_cons, List.not_mem_nil, or_false, not_or] at hb
    rw [ht.rd, State.put_rd_ne _ (F.TIME_GT_CTL_ARMED i) _ hb.1, hne b hb.2]

/-- A timer that fires leaves a gate that is switched on open. -/
theorem State.gtShot_gate (t : Nat) (ht : t < 4) (hrun : s.is (F.CLK_GATE_RUN 9) = true) : (s.gtShot t).rd (R.CLK_GATE 9) = s.rd (R.CLK_GATE 9) := by
  have hbefore : (((s.put (F.TIME_GT_CTL_ARMED t) false).put (F.TIME_GT_CTL_FIRED t) true).setBit F.TIME_EVENT_GT t).rd (R.CLK_GATE 9) = s.rd (R.CLK_GATE 9) := by
    rw [State.setBit_rd_ne _ F.TIME_EVENT_GT _ (by decide), State.put_rd_ne _ (F.TIME_GT_CTL_FIRED t) _ (timer_ne_gate t ht).symm,
      State.put_rd_ne _ (F.TIME_GT_CTL_ARMED t) _ (timer_ne_gate t ht).symm]
  have hruns := (State.is_congr (f := F.CLK_GATE_RUN 9) hbefore).trans hrun
  rw [State.gtShot, State.gateRest, hruns, if_neg (by simp), hbefore]

theorem gtArm_fires (h : s.Reached m (R.TIME_GT_CTL i)) (hold : s.holds m (2 + i) 1 = true) (hrun : s.is (F.CLK_GATE_RUN 9) = true) (hpast : s.gtCmp i ≤ s.tb.toNat) :
    Completes (.gtArm m i) s fun t => s.Answered m 0 t ∧ t.is (F.TIME_GT_CTL_ARMED i) = false ∧ t.is (F.TIME_GT_CTL_FIRED i) = true ∧
      bitAt (t.fld F.TIME_EVENT_GT) i = true ∧ t.is (F.CLK_GATE_OPEN 9) = true ∧ s.Only [R.TIME_GT_CTL i, R.CLK_GATE 9, R.TIME_EVENT] t := by
  refine via_completes (f := fun s => s.gtCtl m i 1#32) rfl h ?_
  rw [s.gtCtl_held m i hold, hrun, if_pos rfl, if_pos hpast]
  have hopens := s.gateOpen_open 9
  have hout := s.gateOpen_out
  have hruns := s.gateOpen_run.trans hrun
  have hne (b : Nat) (hb : b ≠ R.CLK_GATE 9) := s.gateOpen_rd_ne 9 hb
  generalize s.gateOpen 9 = u at *
  refine fun t ht ho => ⟨?_, ?_, ?_, ?_, ?_, fun b hb => ?_⟩
  · rw [State.Answered, ho, State.gtShot_out, hout]
    rfl
  · rw [ht.is, State.gtShot_armed _ i.isLt]
  · rw [ht.is, State.gtShot_fired _ i.isLt]
  · rw [ht.fld, State.gtShot_event _ i.isLt i.isLt, decide_eq_true rfl, Bool.or_true]
  · rw [ht.is, State.is_congr (f := F.CLK_GATE_OPEN 9) (u.gtShot_gate i i.isLt hruns), hopens]
  · simp only [List.mem_cons, List.not_mem_nil, or_false, not_or] at hb
    obtain ⟨h1, h2, h3⟩ := hb
    rw [ht.rd, State.gtShot_rd_ne _ _ h1 h3 h2, hne b h2]

theorem gtArm_gated (h : s.Reached m (R.TIME_GT_CTL i)) (hold : s.holds m (2 + i) 1 = true) (hrun : s.is (F.CLK_GATE_RUN 9) = false) :
    Completes (.gtArm m i) s fun t => s.Answered m 1 t ∧ s.Only [] t := by
  refine via_completes (f := fun s => s.gtCtl m i 1#32) rfl h ?_
  rw [s.gtCtl_held m i hold, hrun, if_neg (by decide)]
  exact fun t ht ho => ⟨ho, fun b _ => ht.rd b⟩

theorem gtArm_unclaimed (h : s.Reached m (R.TIME_GT_CTL i)) (hold : s.fld (F.MODE_CLAIM_TIMER_USE i) ≠ 1 ∨ s.fld (F.MODE_CLAIM_TIMER_HOLDER i) ≠ m.holder ∨
    s.is (F.MODE_CLAIM_TIMER_HOLDER_SEC i) ≠ m.secBit) :
    Completes (.gtArm m i) s fun t => s.Answered m 1 t ∧ t.fld F.MODE_CLAIM_ERR_MASTER = m.holder ∧ t.is F.MODE_EVENT_CONFIG_ERR = true ∧
      s.Only [R.MODE_CLAIM_ERR, R.MODE_EVENT] t := by
  have hno : s.holds m (2 + i) 1 = false := by
    rw [State.holds_eq, Bool.eq_false_iff]
    intro hyes
    simp only [Bool.and_eq_true, beq_iff_eq] at hyes
    obtain ⟨⟨huse, hmaster⟩, hsec⟩ := hyes
    rcases hold with hold | hold | hold
    · exact hold huse
    · exact hold hmaster.symm
    · exact hold hsec.symm
  refine via_completes (f := fun s => s.gtCtl m i 1#32) rfl h ?_
  rw [s.gtCtl_stranger m i hno]
  refine fun t ht ho => ⟨?_, ?_, ?_, fun b hb => ?_⟩
  · rw [State.Answered, ho, State.configError_out]
    rfl
  · rw [ht.fld, State.configError_master _ _ _ (Master.holder_lt m)]
  · rw [ht.is, State.configError_event]
  · simp only [List.mem_cons, List.not_mem_nil, or_false, not_or] at hb
    rw [ht.rd, State.configError_rd_ne _ _ _ hb.1 hb.2]

theorem gtFire_fires (harmed : s.is (F.TIME_GT_CTL_ARMED i) = true) (hpast : s.gtCmp i ≤ s.tb.toNat) :
    Completes (.gtFire i) s fun t => t.is (F.TIME_GT_CTL_ARMED i) = false ∧ t.is (F.TIME_GT_CTL_FIRED i) = true ∧ bitAt (t.fld F.TIME_EVENT_GT) i = true ∧
      t.tb = s.tb ∧ t.out = s.out ∧ s.Only [R.TIME_GT_CTL i, R.TIME_EVENT, R.CLK_GATE 9] t := by
  refine done_completes (u := s.gtShot i) ?_ ⟨?_, ?_, ?_, ?_, ?_, fun b hb => ?_⟩
  · change execGtFire i s = _
    rw [execGtFire, harmed, decide_eq_true hpast]
    rfl
  · rw [settle_is, State.gtShot_armed _ i.isLt]
  · rw [settle_is, State.gtShot_fired _ i.isLt]
  · rw [settle_fld, State.gtShot_event _ i.isLt i.isLt, decide_eq_true rfl, Bool.or_true]
  · rw [settle_tb, State.gtShot_tb]
  · rw [settle_out, State.gtShot_out]
  · simp only [List.mem_cons, List.not_mem_nil, or_false, not_or] at hb
    obtain ⟨h1, h2, h3⟩ := hb
    rw [settle_rd, State.gtShot_rd_ne _ _ h1 h2 h3]

theorem gtFire_nothing (h : s.is (F.TIME_GT_CTL_ARMED i) = false ∨ s.tb.toNat < s.gtCmp i) (hirq : s.IrqRemembered) : Completes (.gtFire i) s fun t => t = s := by
  refine nothing_completes ?_ hirq
  change execGtFire i s = _
  rw [execGtFire, if_neg]
  rintro hyes
  rw [Bool.and_eq_true, decide_eq_true_iff] at hyes
  rcases h with h | h
  · rw [hyes.1] at h
    cases h
  · omega

end Arm

/-- Settles O46: restarts, loads, latches, captures and timers, each by the lemma of its rule. -/
theorem timebaseAndTimersFollowTheirRules : Obligations.TimebaseAndTimersFollowTheirRules := by
  unfold Obligations.TimebaseAndTimersFollowTheirRules
  refine ⟨fun n s h hs hn hoff => restart_unarmed s n h hs hn hoff, fun n s h hs hfwd => ?forwards, restart_full, fun n s h hirq => restart_nothing s n h hirq,
    uncertStep_grows, uncertStep_nothing, timebaseRead_latches, fun m s h hm hstill => load_still s m h hm hstill, fun m s h hm hfwd => ?loads,
    fun m s h h1 h3 => load_refused s m h h1 h3, fun m s h hm => uncertClr_taken s m h hm, fun m s h h1 h3 => uncertClr_refused s m h h1 h3,
    fun r s huse hon hedge hnone => pps_taken s r huse hon hedge (by rw [hnone]),
    fun r s at' huse hon hedge hat hlate => pps_taken s r huse hon hedge (by rw [hat]; exact decide_eq_false (by omega)),
    fun r s at' huse hon hedge hat hsoon => pps_extra s r huse hon hedge hat hsoon, fun r s h hirq => pps_nothing s r h hirq,
    fun m i s h huse hold hsec hrun hlate => gtArm_waits m i s h (State.holds_of huse hold hsec) hrun hlate,
    fun m i s h huse hold hsec hrun hpast => gtArm_fires m i s h (State.holds_of huse hold hsec) hrun hpast,
    fun m i s h huse hold hsec hrun => gtArm_gated m i s h (State.holds_of huse hold hsec) hrun, gtArm_unclaimed, gtFire_fires, gtFire_nothing⟩
  case forwards =>
    obtain ⟨t, e, htb, hlast, hslept, hwoke, hstop, hphase, hout, hshots, honly⟩ := restart_forwards s n h hs hfwd
    exact ⟨t, e, htb, hlast, hslept, hwoke, hstop, hphase, hout, hshots.1, hshots.2, honly⟩
  case loads =>
    obtain ⟨t, e, ho, htb, huncert, hovf, hslept, hshots, honly⟩ := load_forwards s m h hm hfwd
    exact ⟨t, e, ho, htb, huncert, hovf, hslept, hshots.1, hshots.2, honly⟩

end Sys2Proof.Machine
end

section
/-! SUPPORT. The speed monitors, the fixed-latency targets, the locks and the crossings (R42, R43, R48 to R52). -/

namespace Sys2Proof.Machine

/-! ## A walk over indices, one register of each -/

/-- A register that one index of a walk alone writes. -/
theorem each_rd_at {l : List Nat} (hl : l.Nodup) {f : Nat → State → State} {a i : Nat} {g : Word → Word} (hi : i ∈ l)
    (hother : ∀ (s : State), ∀ n ∈ l, n ≠ i → (f n s).rd a = s.rd a) (hself : ∀ s : State, (f i s).rd a = g (s.rd a)) (s : State) :
    (each l f s).rd a = g (s.rd a) := by
  induction l generalizing s with
  | nil => cases hi
  | cons n l ih =>
    obtain ⟨hn, hl⟩ := List.nodup_cons.mp hl
    change (each l f (f n s)).rd a = _
    by_cases hni : n = i
    · subst hni
      rw [each_rd, hself]
      exact fun t k hk => hother t k (List.mem_cons_of_mem _ hk) fun e => hn (e ▸ hk)
    · rw [ih hl ((List.mem_cons.mp hi).resolve_left (Ne.symm hni)) (fun t k hk => hother t k (List.mem_cons_of_mem _ hk)),
        hother s n List.mem_cons_self hni]

/-! ## Numbers in two's complement -/

theorem codeOf_lt (w : Nat) (i : Int) : codeOf w i < 2 ^ w := by
  have hpos : (0 : Int) < ((2 ^ w : Nat) : Int) := Int.natCast_pos.mpr (Nat.two_pow_pos w)
  have hlt := Int.emod_lt_of_pos i hpos
  have hnn := Int.emod_nonneg i hpos.ne'
  unfold codeOf
  omega

/-- Twelve bits hold what lies within them. -/
theorem signedOf_codeOf {i : Int} (h0 : -2048 ≤ i) (h1 : i ≤ 2047) : signedOf 12 (codeOf 12 i) = i := by
  unfold signedOf codeOf
  simp only [show (2 : Nat) ^ 12 = 4096 from rfl]
  split <;> omega

theorem clampInt_range {lo hi : Int} (h : lo ≤ hi) (v : Int) : lo ≤ clampInt lo hi v ∧ clampInt lo hi v ≤ hi := by
  unfold clampInt
  split
  · exact ⟨le_refl _, h⟩
  · split <;> omega

/-- The lowest of a list is one of its elements, at its index. -/
theorem lowest_spec {l : List Int} (h : 0 < l.length) : (lowest l).1 < l.length ∧ (lowest l).2 = l.getD (lowest l).1 0 := by
  unfold lowest
  suffices hk : ∀ (k : List Nat) (b : Nat × Int), (∀ i ∈ k, i < l.length) → b.1 < l.length ∧ b.2 = l.getD b.1 0 →
      (k.foldl (fun b i => if l.getD i 0 < b.2 then (i, l.getD i 0) else b) b).1 < l.length ∧
        (k.foldl (fun b i => if l.getD i 0 < b.2 then (i, l.getD i 0) else b) b).2 =
          l.getD (k.foldl (fun b i => if l.getD i 0 < b.2 then (i, l.getD i 0) else b) b).1 0 from
    hk _ _ (fun i hi => List.mem_range.mp hi) ⟨h, rfl⟩
  intro k
  induction k with
  | nil => exact fun b _ hb => hb
  | cons i k ih =>
    intro b hk hb
    refine ih _ (fun j hj => hk j (List.mem_cons_of_mem _ hj)) ?_
    dsimp only
    split
    · exact ⟨hk i List.mem_cons_self, rfl⟩
    · exact hb

/-! ## The speed monitors (R42, R43) -/

section Margins
variable (s : State) (margins : List Int)

/-- The margins as the monitors store them. -/
def clamped (margins : List Int) : List Int := margins.map (clampInt (-2048) 2047)

/-- The lowest margin, with its monitor. -/
def worst (margins : List Int) : Nat × Int := lowest (clamped margins)

theorem clamped_getD (h : margins.length = 8) (i : Fin 8) : (clamped margins).getD i 0 = clampInt (-2048) 2047 (margins.getD i 0) := by
  have hi : i.val < margins.length := by omega
  simp [clamped, List.getD, hi]

theorem worst_range (h : margins.length = 8) : (worst margins).1 < 8 ∧ -2048 ≤ (worst margins).2 ∧ (worst margins).2 ≤ 2047 := by
  have hlen : (clamped margins).length = 8 := by rw [clamped, List.length_map, h]
  obtain ⟨hlt, hval⟩ := lowest_spec (l := clamped margins) (by omega)
  rw [hlen] at hlt
  have hget := clamped_getD margins h ⟨(lowest (clamped margins)).1, hlt⟩
  change (lowest (clamped margins)).1 < 8 ∧ -2048 ≤ (lowest (clamped margins)).2 ∧ (lowest (clamped margins)).2 ≤ 2047
  rw [hval]
  change (clamped margins).getD (lowest (clamped margins)).1 0 = _ at hget
  rw [hget]
  exact ⟨hlt, clampInt_range (by decide) _⟩

/-- One monitor's margin stored. -/
def State.marginSet (s : State) (l : List Int) (i : Nat) : State := (s.setFld (F.FAB_SPEED_MARGIN i) (codeOf 12 (l.getD i 0))).put (F.FAB_SPEED_VALID i) true

/-- The margins of a window stored, with the lowest. -/
def State.marginsSet (s : State) (margins : List Int) : State :=
  ((each (List.range 8) (fun i s => s.marginSet (clamped margins) i) s).setFld F.FAB_MARGIN_MIN_NOW (codeOf 12 (worst margins).2)).setFld
    F.FAB_MARGIN_MIN_WHICH (worst margins).1

/-- The low mark lowered to the lowest margin. -/
def State.lowMarked (s : State) (margins : List Int) : State :=
  if (worst margins).2 < s.sfld F.FAB_MARGIN_MIN_LOW then s.setFld F.FAB_MARGIN_MIN_LOW (codeOf 12 (worst margins).2) else s

theorem State.marginSet_rd_ne (l : List Int) (i : Nat) {b : Nat} (h : b ≠ R.FAB_SPEED i) : (s.marginSet l i).rd b = s.rd b := by
  rw [State.marginSet, State.put_rd_ne _ (F.FAB_SPEED_VALID i) _ h, State.setFld_rd_ne _ (F.FAB_SPEED_MARGIN i) _ h]

theorem State.marginsSet_rd_ne {b : Nat} (h : ∀ i, i < 8 → b ≠ R.FAB_SPEED i) (hm : b ≠ R.FAB_MARGIN_MIN) : (s.marginsSet margins).rd b = s.rd b := by
  rw [State.marginsSet, State.setFld_rd_ne _ F.FAB_MARGIN_MIN_WHICH _ hm, State.setFld_rd_ne _ F.FAB_MARGIN_MIN_NOW _ hm, each_rd]
  exact fun t n hn => t.marginSet_rd_ne _ n (h n (List.mem_range.mp hn))

theorem speed_ne_min (i : Nat) (h : i < 8) : R.FAB_SPEED i ≠ R.FAB_MARGIN_MIN := by
  simp only [R.FAB_SPEED, R.FAB_MARGIN_MIN]
  omega

/-- What a stored margin leaves in its register. -/
def marginWord (l : List Int) (i : Nat) (w : Word) : Word := setBits (setBits w 0 12 (codeOf 12 (l.getD i 0))) 12 1 1

theorem State.marginSet_rd (l : List Int) (i : Nat) : (s.marginSet l i).rd (R.FAB_SPEED i) = marginWord l i (s.rd (R.FAB_SPEED i)) := by
  rw [State.marginSet, State.put, State.setFld, State.setFld]
  simp only [F.FAB_SPEED_VALID, F.FAB_SPEED_MARGIN, State.wr_rd_same]
  rfl

theorem State.marginsSet_speed (i : Fin 8) : (s.marginsSet margins).rd (R.FAB_SPEED i) = (s.marginSet (clamped margins) i).rd (R.FAB_SPEED i) := by
  have hne := speed_ne_min i i.isLt
  rw [State.marginsSet, State.setFld_rd_ne _ F.FAB_MARGIN_MIN_WHICH _ hne, State.setFld_rd_ne _ F.FAB_MARGIN_MIN_NOW _ hne, State.marginSet_rd]
  refine each_rd_at (f := fun i s => s.marginSet (clamped margins) i) List.nodup_range (List.mem_range.mpr i.isLt) (fun t n _ hn => t.marginSet_rd_ne _ n ?_)
    (fun t => t.marginSet_rd _ i) s
  simp only [R.FAB_SPEED]
  omega

theorem State.marginsSet_margin (h : margins.length = 8) (i : Fin 8) :
    (s.marginsSet margins).fld (F.FAB_SPEED_MARGIN i) = codeOf 12 (clampInt (-2048) 2047 (margins.getD i 0)) := by
  rw [State.fld_congr (f := F.FAB_SPEED_MARGIN i) (s.marginsSet_speed margins i), State.marginSet,
    State.put_fld_apart _ _ _ _ (Fld.fits_of rfl) (Fld.apart_of_bits rfl), State.setFld_fld_same _ _ _ (Fld.fits_of rfl), clamped_getD margins h]
  exact Nat.mod_eq_of_lt (codeOf_lt 12 _)

theorem State.marginsSet_valid (i : Fin 8) : (s.marginsSet margins).is (F.FAB_SPEED_VALID i) = true := by
  rw [State.is_congr (f := F.FAB_SPEED_VALID i) (s.marginsSet_speed margins i), State.marginSet, State.put_is_same _ _ _ (Fld.fits_of rfl) rfl]

theorem State.marginsSet_now : (s.marginsSet margins).fld F.FAB_MARGIN_MIN_NOW = codeOf 12 (worst margins).2 := by
  rw [State.marginsSet, State.setFld_fld_apart _ _ _ _ (by decide) (by decide), State.setFld_fld_same _ _ _ (by decide)]
  exact Nat.mod_eq_of_lt (codeOf_lt 12 _)

theorem State.marginsSet_which (h : margins.length = 8) : (s.marginsSet margins).fld F.FAB_MARGIN_MIN_WHICH = (worst margins).1 := by
  rw [State.marginsSet, State.setFld_fld_same _ _ _ (by decide)]
  exact Nat.mod_eq_of_lt (worst_range margins h).1

theorem State.marginsSet_low : (s.marginsSet margins).fld F.FAB_MARGIN_MIN_LOW = s.fld F.FAB_MARGIN_MIN_LOW := by
  rw [State.marginsSet, State.setFld_fld_apart _ _ _ _ (by decide) (by decide), State.setFld_fld_apart _ _ _ _ (by decide) (by decide)]
  exact State.fld_congr (each_rd _ _ _ _ fun t n hn => t.marginSet_rd_ne _ n (speed_ne_min n (List.mem_range.mp hn)).symm)

theorem State.lowMarked_rd_ne {b : Nat} (hm : b ≠ R.FAB_MARGIN_MIN) : (s.lowMarked margins).rd b = s.rd b := by
  unfold State.lowMarked
  split
  · exact State.setFld_rd_ne _ F.FAB_MARGIN_MIN_LOW _ hm
  · rfl

theorem State.lowMarked_apart (f : Fld) (h : f.Apart F.FAB_MARGIN_MIN_LOW) : (s.lowMarked margins).fld f = s.fld f := by
  unfold State.lowMarked
  split
  · exact State.setFld_fld_apart _ _ _ _ (by decide) h
  · rfl

theorem State.lowMarked_low (h : margins.length = 8) : (s.lowMarked margins).sfld F.FAB_MARGIN_MIN_LOW = min (s.sfld F.FAB_MARGIN_MIN_LOW) (worst margins).2 := by
  obtain ⟨-, hlo, hhi⟩ := worst_range margins h
  unfold State.lowMarked
  split
  · next hlt =>
    rw [State.sfld, State.setFld_fld_same _ _ _ (by decide), min_eq_right hlt.le]
    change signedOf 12 (codeOf 12 (worst margins).2 % 2 ^ 12) = _
    rw [Nat.mod_eq_of_lt (codeOf_lt 12 _), signedOf_codeOf hlo hhi]
  · next hge => rw [min_eq_left (not_lt.mp hge)]

/-! ### The thresholds -/

section Threshold
variable (m thr : Int) (hyst : Nat) {stat ev : Fld} (hs : stat.Fits) (hw : stat.wd = 1) (he : ev.Fits) (hew : ev.wd = 1) (hse : stat.addr ≠ ev.addr)

theorem State.marginTest_rd_ne {b : Nat} (h1 : b ≠ stat.addr) (h2 : b ≠ ev.addr) : (s.marginTest m thr hyst stat ev).1.rd b = s.rd b := by
  unfold State.marginTest
  split
  · split
    · rfl
    · exact (State.put_rd_ne _ ev _ h2).trans (State.put_rd_ne _ stat _ h1)
  · split
    · exact State.put_rd_ne _ stat _ h1
    · rfl

theorem State.marginTest_apart {e : Fld} (h1 : e.Apart stat) (h2 : e.Apart ev) (hs : stat.Fits) (he : ev.Fits) : (s.marginTest m thr hyst stat ev).1.is e = s.is e := by
  unfold State.marginTest
  split
  · split
    · rfl
    · exact (State.put_is_apart _ ev _ e he h2).trans (State.put_is_apart _ stat _ e hs h1)
  · split
    · exact State.put_is_apart _ stat _ e hs h1
    · rfl

include hs hw hse he in
/-- The status that a threshold's test leaves: set below it, cleared five times the hysteresis above it, kept in between. -/
theorem State.marginTest_stat : (s.marginTest m thr hyst stat ev).1.is stat = if m < thr then true else if thr + 5 * hyst ≤ m then false else s.is stat := by
  unfold State.marginTest
  split
  · split
    · assumption
    · rw [State.put_is_apart _ _ _ _ he (.inl hse), State.put_is_same _ _ _ hs hw]
  · split
    · exact State.put_is_same _ _ _ hs hw
    · rfl

include hs hw he hew hse in
/-- The event is raised where the status rises. -/
theorem State.marginTest_event : (s.marginTest m thr hyst stat ev).1.is ev = (s.is ev || ((s.marginTest m thr hyst stat ev).1.is stat && !s.is stat)) := by
  rw [s.marginTest_stat m thr hyst hs hw he hse]
  unfold State.marginTest
  split
  · split
    · next hset => simp [hset]
    · next hset => rw [State.put_is_same _ _ _ he hew]; simp [hset]
  · split
    · rw [State.put_is_apart _ _ _ _ hs (.inl hse.symm)]
      simp
    · simp

theorem State.marginTest_fell : (s.marginTest m thr hyst stat ev).2 = (decide (m < thr) && !s.is stat) := by
  unfold State.marginTest
  split
  · next hlt =>
    cases hst : s.is stat <;> simp [hlt]
  · next hlt => split <;> simp [hlt]

end Threshold

/-! ### The window -/

/-- A threshold's test in the order of the window, first that of WARN. -/
def State.warnTested (s : State) (m : Int) : State :=
  (s.marginTest m (s.sfld F.FAB_MARGIN_THR_WARN) (s.fld F.FAB_MARGIN_THR_HYST) F.FAB_STATUS_MARGIN_WARN F.FAB_EVENT_WARN_ENTER).1

/-- Then that of CRIT. -/
def State.critTested (s : State) (m : Int) : State × Bool :=
  s.marginTest m (s.sfld F.FAB_MARGIN_THR_CRIT) (s.fld F.FAB_MARGIN_THR_HYST) F.FAB_STATUS_MARGIN_CRIT F.FAB_EVENT_CRIT_ENTER

/-- The registers that the tests of the thresholds leave alone. -/
theorem State.warnTested_rd_ne (m : Int) {b : Nat} (h1 : b ≠ R.FAB_STATUS) (h2 : b ≠ R.FAB_EVENT) : (s.warnTested m).rd b = s.rd b :=
  s.marginTest_rd_ne _ _ _ (stat := F.FAB_STATUS_MARGIN_WARN) (ev := F.FAB_EVENT_WARN_ENTER) h1 h2

theorem State.critTested_rd_ne (m : Int) {b : Nat} (h1 : b ≠ R.FAB_STATUS) (h2 : b ≠ R.FAB_EVENT) : (s.critTested m).1.rd b = s.rd b :=
  s.marginTest_rd_ne _ _ _ (stat := F.FAB_STATUS_MARGIN_CRIT) (ev := F.FAB_EVENT_CRIT_ENTER) h1 h2

/-- The window up to its faults: margins stored, low mark lowered, thresholds judged. -/
def State.marginsJudged (s : State) (margins : List Int) : State × Bool :=
  (((s.marginsSet margins).lowMarked margins).warnTested (worst margins).2).critTested (worst margins).2

theorem State.speedWindow_eq (hon : s.domOn 1 = true) (hen : s.is F.FAB_CTL_SPEED_EN = true) : s.speedWindow margins =
    if (s.marginsJudged margins).2 && (s.marginsJudged margins).1.is F.FAB_CTL_CRIT_FAULT_EN then (s.marginsJudged margins).1.devRaise 2 false 0 0
    else (s.marginsJudged margins).1 := by
  have hhyst : (((s.marginsSet margins).lowMarked margins).warnTested (worst margins).2).fld F.FAB_MARGIN_THR_HYST =
      ((s.marginsSet margins).lowMarked margins).fld F.FAB_MARGIN_THR_HYST := State.fld_congr (State.warnTested_rd_ne _ _ (by decide) (by decide))
  rw [State.speedWindow, hon, hen, if_neg (by decide), State.marginsJudged, State.critTested, hhyst]
  rfl

/-- The registers of the window, and those it leaves alone. -/
theorem State.marginsJudged_rd_ne {b : Nat} (h : ∀ i, i < 8 → b ≠ R.FAB_SPEED i) (hm : b ≠ R.FAB_MARGIN_MIN) (hst : b ≠ R.FAB_STATUS) (hev : b ≠ R.FAB_EVENT) :
    (s.marginsJudged margins).1.rd b = s.rd b := by
  rw [State.marginsJudged, State.critTested_rd_ne _ _ hst hev, State.warnTested_rd_ne _ _ hst hev, State.lowMarked_rd_ne _ _ hm, State.marginsSet_rd_ne _ _ h hm]

theorem speed_above (i : Nat) : 0x04014020 ≤ R.FAB_SPEED i := by
  simp only [R.FAB_SPEED]
  omega

/-- A register below the monitors' own margins, its number not theirs. -/
theorem State.marginsJudged_below {b : Nat} (hb : b < 0x04014020) (hm : b ≠ R.FAB_MARGIN_MIN) (hst : b ≠ R.FAB_STATUS) (hev : b ≠ R.FAB_EVENT) :
    (s.marginsJudged margins).1.rd b = s.rd b :=
  s.marginsJudged_rd_ne margins (fun i _ => (lt_of_lt_of_le hb (speed_above i)).ne) hm hst hev

theorem State.beforeTests_rd {b : Nat} (hb : b < 0x04014020) (hm : b ≠ R.FAB_MARGIN_MIN) : ((s.marginsSet margins).lowMarked margins).rd b = s.rd b := by
  rw [State.lowMarked_rd_ne _ _ hm, State.marginsSet_rd_ne _ _ (fun i _ => (lt_of_lt_of_le hb (speed_above i)).ne) hm]

/-- What the tests leave of the window's own registers. -/
theorem State.marginsJudged_rd {b : Nat} (h1 : b ≠ R.FAB_STATUS) (h2 : b ≠ R.FAB_EVENT) :
    (s.marginsJudged margins).1.rd b = ((s.marginsSet margins).lowMarked margins).rd b := by
  rw [State.marginsJudged, State.critTested_rd_ne _ _ h1 h2, State.warnTested_rd_ne _ _ h1 h2]

/-- A window's margins: each of them, the lowest, and the low mark. -/
def State.MarginsStored (s : State) (margins : List Int) (t : State) : Prop :=
  (∀ i : Fin 8, t.fld (F.FAB_SPEED_MARGIN i) = codeOf 12 (clampInt (-2048) 2047 (margins.getD i 0)) ∧ t.is (F.FAB_SPEED_VALID i) = true) ∧
    t.fld F.FAB_MARGIN_MIN_NOW = codeOf 12 (worst margins).2 ∧ t.fld F.FAB_MARGIN_MIN_WHICH = (worst margins).1 ∧
    t.sfld F.FAB_MARGIN_MIN_LOW = min (s.sfld F.FAB_MARGIN_MIN_LOW) (worst margins).2

theorem State.marginsJudged_stored (h : margins.length = 8) : s.MarginsStored margins (s.marginsJudged margins).1 := by
  have hspeed (i : Fin 8) : (s.marginsJudged margins).1.rd (R.FAB_SPEED i) = (s.marginsSet margins).rd (R.FAB_SPEED i) := by
    rw [State.marginsJudged_rd, State.lowMarked_rd_ne _ _ (speed_ne_min i i.isLt)]
    all_goals
      have := speed_above i
      simp only [R.FAB_STATUS, R.FAB_EVENT]
      omega
  have hmin := s.marginsJudged_rd margins (b := R.FAB_MARGIN_MIN) (by decide) (by decide)
  refine ⟨fun i => ⟨?_, ?_⟩, ?_, ?_, ?_⟩
  · rw [State.fld_congr (f := F.FAB_SPEED_MARGIN i) (hspeed i), State.marginsSet_margin _ _ h]
  · rw [State.is_congr (f := F.FAB_SPEED_VALID i) (hspeed i), State.marginsSet_valid]
  · rw [State.fld_congr (f := F.FAB_MARGIN_MIN_NOW) hmin, State.lowMarked_apart _ _ _ (by decide), State.marginsSet_now]
  · rw [State.fld_congr (f := F.FAB_MARGIN_MIN_WHICH) hmin, State.lowMarked_apart _ _ _ (by decide), State.marginsSet_which _ _ h]
  · have hlow : (s.marginsJudged margins).1.fld F.FAB_MARGIN_MIN_LOW = ((s.marginsSet margins).lowMarked margins).fld F.FAB_MARGIN_MIN_LOW := State.fld_congr hmin
    rw [State.sfld, hlow]
    refine ((s.marginsSet margins).lowMarked_low margins h).trans ?_
    rw [State.sfld, State.marginsSet_low, State.sfld]

/-- The statuses and events of a window, by the thresholds of the state before. -/
def State.ThresholdsJudged (s : State) (margins : List Int) (t : State) : Prop :=
  t.is F.FAB_STATUS_MARGIN_WARN = (if (worst margins).2 < s.sfld F.FAB_MARGIN_THR_WARN then true
    else if s.sfld F.FAB_MARGIN_THR_WARN + 5 * s.fld F.FAB_MARGIN_THR_HYST ≤ (worst margins).2 then false else s.is F.FAB_STATUS_MARGIN_WARN) ∧
  t.is F.FAB_STATUS_MARGIN_CRIT = (if (worst margins).2 < s.sfld F.FAB_MARGIN_THR_CRIT then true
    else if s.sfld F.FAB_MARGIN_THR_CRIT + 5 * s.fld F.FAB_MARGIN_THR_HYST ≤ (worst margins).2 then false else s.is F.FAB_STATUS_MARGIN_CRIT) ∧
  t.is F.FAB_EVENT_WARN_ENTER = (s.is F.FAB_EVENT_WARN_ENTER || (t.is F.FAB_STATUS_MARGIN_WARN && !s.is F.FAB_STATUS_MARGIN_WARN)) ∧
  t.is F.FAB_EVENT_CRIT_ENTER = (s.is F.FAB_EVENT_CRIT_ENTER || (t.is F.FAB_STATUS_MARGIN_CRIT && !s.is F.FAB_STATUS_MARGIN_CRIT))

theorem State.sfld_congr {s t : State} {f : Fld} (h : t.rd f.addr = s.rd f.addr) : t.sfld f = s.sfld f := congrArg (signedOf f.wd) (State.fld_congr h)

theorem State.warnTested_spec (m : Int) :
    (s.warnTested m).is F.FAB_STATUS_MARGIN_WARN = (if m < s.sfld F.FAB_MARGIN_THR_WARN then true
      else if s.sfld F.FAB_MARGIN_THR_WARN + 5 * s.fld F.FAB_MARGIN_THR_HYST ≤ m then false else s.is F.FAB_STATUS_MARGIN_WARN) ∧
    (s.warnTested m).is F.FAB_EVENT_WARN_ENTER = (s.is F.FAB_EVENT_WARN_ENTER || ((s.warnTested m).is F.FAB_STATUS_MARGIN_WARN && !s.is F.FAB_STATUS_MARGIN_WARN)) ∧
    (s.warnTested m).is F.FAB_STATUS_MARGIN_CRIT = s.is F.FAB_STATUS_MARGIN_CRIT ∧ (s.warnTested m).is F.FAB_EVENT_CRIT_ENTER = s.is F.FAB_EVENT_CRIT_ENTER :=
  ⟨s.marginTest_stat _ _ _ (by decide) rfl (by decide) (by decide), s.marginTest_event _ _ _ (by decide) rfl (by decide) rfl (by decide),
    s.marginTest_apart _ _ _ (by decide) (by decide) (by decide) (by decide), s.marginTest_apart _ _ _ (by decide) (by decide) (by decide) (by decide)⟩

theorem State.critTested_spec (m : Int) :
    (s.critTested m).1.is F.FAB_STATUS_MARGIN_CRIT = (if m < s.sfld F.FAB_MARGIN_THR_CRIT then true
      else if s.sfld F.FAB_MARGIN_THR_CRIT + 5 * s.fld F.FAB_MARGIN_THR_HYST ≤ m then false else s.is F.FAB_STATUS_MARGIN_CRIT) ∧
    (s.critTested m).1.is F.FAB_EVENT_CRIT_ENTER = (s.is F.FAB_EVENT_CRIT_ENTER || ((s.critTested m).1.is F.FAB_STATUS_MARGIN_CRIT && !s.is F.FAB_STATUS_MARGIN_CRIT)) ∧
    (s.critTested m).1.is F.FAB_STATUS_MARGIN_WARN = s.is F.FAB_STATUS_MARGIN_WARN ∧ (s.critTested m).1.is F.FAB_EVENT_WARN_ENTER = s.is F.FAB_EVENT_WARN_ENTER :=
  ⟨s.marginTest_stat _ _ _ (by decide) rfl (by decide) (by decide), s.marginTest_event _ _ _ (by decide) rfl (by decide) rfl (by decide),
    s.marginTest_apart _ _ _ (by decide) (by decide) (by decide) (by decide), s.marginTest_apart _ _ _ (by decide) (by decide) (by decide) (by decide)⟩

theorem State.marginsJudged_thresholds : s.ThresholdsJudged margins (s.marginsJudged margins).1 ∧
    (s.marginsJudged margins).2 = (decide ((worst margins).2 < s.sfld F.FAB_MARGIN_THR_CRIT) && !s.is F.FAB_STATUS_MARGIN_CRIT) := by
  have hrd (b : Nat) (hb : b < 0x04014020) (hm : b ≠ R.FAB_MARGIN_MIN) := s.beforeTests_rd margins hb hm
  unfold State.ThresholdsJudged State.marginsJudged
  generalize (s.marginsSet margins).lowMarked margins = u at *
  obtain ⟨hw, hwe, hwc, hwce⟩ := u.warnTested_spec (worst margins).2
  have hthr : (u.warnTested (worst margins).2).rd R.FAB_MARGIN_THR = s.rd R.FAB_MARGIN_THR :=
    (u.warnTested_rd_ne _ (by decide) (by decide)).trans (hrd _ (by decide) (by decide))
  generalize u.warnTested (worst margins).2 = v at *
  obtain ⟨hc, hce, hcw, hcwe⟩ := v.critTested_spec (worst margins).2
  rw [State.sfld_congr (f := F.FAB_MARGIN_THR_WARN) (hrd _ (by decide) (by decide)), State.fld_congr (f := F.FAB_MARGIN_THR_HYST) (hrd _ (by decide) (by decide)),
    State.is_congr (f := F.FAB_STATUS_MARGIN_WARN) (hrd _ (by decide) (by decide))] at hw
  rw [State.is_congr (f := F.FAB_EVENT_WARN_ENTER) (hrd _ (by decide) (by decide)), State.is_congr (f := F.FAB_STATUS_MARGIN_WARN) (hrd _ (by decide) (by decide))] at hwe
  rw [State.is_congr (f := F.FAB_STATUS_MARGIN_CRIT) (hrd _ (by decide) (by decide))] at hwc
  rw [State.is_congr (f := F.FAB_EVENT_CRIT_ENTER) (hrd _ (by decide) (by decide))] at hwce
  rw [State.sfld_congr (f := F.FAB_MARGIN_THR_CRIT) hthr, State.fld_congr (f := F.FAB_MARGIN_THR_HYST) hthr, hwc] at hc
  rw [hwc, hwce] at hce
  refine ⟨⟨by rw [hcw, hw], hc, by rw [hcwe, hwe, hcw], hce⟩, ?_⟩
  rw [State.critTested, State.marginTest_fell, hwc, State.sfld_congr (f := F.FAB_MARGIN_THR_CRIT) hthr]

end Margins

/-! ## A device-level fault raised, seen from elsewhere -/

section Raised
variable (s : State) (cls detail data : Nat)

theorem State.devRaise_eq : s.devRaise cls false detail data = State.preempt (each allLadders (fun i s => s.freeze i)
    (((s.setFld F.FAULT_DEV_ACTIVE_CLASS (s.fld F.FAULT_DEV_ACTIVE_CLASS ||| 2 ^ (cls - 1))).setBit F.FAULT_EVENT_BITS 5).logPut
      { ts := s.tb.toNat, info := logInfo 5 0 cls 0 detail, data := BitVec.ofNat 32 data })) := by
  unfold State.devRaise
  rw [if_neg Bool.false_ne_true, if_neg Bool.false_ne_true, State.setFld_tb]

/-- The device registers that a device-level fault leaves alone. -/
theorem State.devRaise_rd_ne {b : Nat} (hdev : b < 0x04100000) (hfault : b < R.FAULT_STAT ∨ R.CAL_CTL ≤ b) (h1 : b ≠ R.MODE_STATUS) (h2 : b ≠ R.MODE_RESULT)
    (h3 : b ≠ R.MODE_EVENT) : (s.devRaise cls false detail data).rd b = s.rd b := by
  simp only [R.FAULT_STAT, R.CAL_CTL] at hfault
  have hfreeze : ∀ t : State, ∀ i ∈ allLadders, (t.freeze i).rd b = t.rd b := by
    intro t i hi
    refine t.freeze_rd_ne i ?_
    rw [allLadders, List.mem_append, List.mem_range, List.mem_map] at hi
    simp only [R.FAULT_LADDER]
    rcases hi with hi | ⟨k, hk, rfl⟩
    · omega
    · have := List.mem_range.mp hk
      omega
  have hactive : b ≠ R.FAULT_DEV_ACTIVE := by
    simp only [R.FAULT_DEV_ACTIVE]
    omega
  have hevent : b ≠ R.FAULT_EVENT := by
    simp only [R.FAULT_EVENT]
    omega
  have hdrop : b ≠ R.FAULT_LOG_DROP := by
    simp only [R.FAULT_LOG_DROP]
    omega
  rw [State.devRaise_eq, State.preempt_rd_ne _ hdev h1 h2 h3, each_rd _ _ _ _ hfreeze, State.logPut_rd_ne _ _ hevent hdrop,
    State.setBit_rd_ne _ F.FAULT_EVENT_BITS _ hevent, State.setFld_rd_ne _ F.FAULT_DEV_ACTIVE_CLASS _ hactive]

theorem State.logPut_event (e : LogEntry) {i : Nat} (hi : i < 9) (h : bitAt (s.fld F.FAULT_EVENT_BITS) i = true) : bitAt ((s.logPut e).fld F.FAULT_EVENT_BITS) i = true := by
  have hbit : bitAt ((s.setBit F.FAULT_EVENT_BITS 7).fld F.FAULT_EVENT_BITS) i = true := by
    rw [State.setBit_bit _ _ (by decide) (by decide) hi, h, Bool.true_or]
  unfold State.logPut
  split
  · exact h
  · dsimp only
    split
    · exact hbit
    · rw [State.bump_fld_apart _ _ _ _ (by decide) (by decide), hbit]

theorem State.devRaise_event : bitAt ((s.devRaise cls false detail data).fld F.FAULT_EVENT_BITS) 5 = true := by
  rw [State.devRaise_eq]
  have hset : bitAt (((s.setFld F.FAULT_DEV_ACTIVE_CLASS (s.fld F.FAULT_DEV_ACTIVE_CLASS ||| 2 ^ (cls - 1))).setBit F.FAULT_EVENT_BITS 5).fld F.FAULT_EVENT_BITS) 5 = true :=
    State.setBit_set _ _ _ (by decide) (by decide)
  generalize (s.setFld F.FAULT_DEV_ACTIVE_CLASS (s.fld F.FAULT_DEV_ACTIVE_CLASS ||| 2 ^ (cls - 1))).setBit F.FAULT_EVENT_BITS 5 = u at *
  rw [State.fld_congr (State.preempt_rd_ne _ (by decide) (by decide) (by decide) (by decide)), State.fld_congr (f := F.FAULT_EVENT_BITS) (each_rd _ _ _ _ ?_)]
  · exact u.logPut_event _ (by decide) hset
  · intro t i _
    refine t.freeze_rd_ne i ?_
    simp only [F.FAULT_EVENT_BITS, R.FAULT_EVENT, R.FAULT_LADDER]
    omega

end Raised

/-! ## The windows of the speed monitors -/

section Windows
variable (margins : List Int) (s : State)

theorem State.MarginsStored.congr {s t u : State} {margins : List Int} (h : s.MarginsStored margins t) (hrd : ∀ b, 0x04014000 ≤ b → b < 0x04015000 → u.rd b = t.rd b) :
    s.MarginsStored margins u := by
  obtain ⟨hspeed, hnow, hwhich, hlow⟩ := h
  have hin (i : Fin 8) : u.rd (R.FAB_SPEED i) = t.rd (R.FAB_SPEED i) := by
    refine hrd _ ?_ ?_ <;> simp only [R.FAB_SPEED] <;> omega
  refine ⟨fun i => ⟨?_, ?_⟩, ?_, ?_, ?_⟩
  · rw [State.fld_congr (f := F.FAB_SPEED_MARGIN i) (hin i), (hspeed i).1]
  · rw [State.is_congr (f := F.FAB_SPEED_VALID i) (hin i), (hspeed i).2]
  · rw [State.fld_congr (hrd _ (by decide) (by decide)), hnow]
  · rw [State.fld_congr (hrd _ (by decide) (by decide)), hwhich]
  · rw [State.sfld_congr (hrd _ (by decide) (by decide)), hlow]

theorem State.ThresholdsJudged.congr {s t u : State} {margins : List Int} (h : s.ThresholdsJudged margins t) (hrd : ∀ b, 0x04014000 ≤ b → b < 0x04015000 → u.rd b = t.rd b) :
    s.ThresholdsJudged margins u := by
  unfold State.ThresholdsJudged at *
  rwa [State.is_congr (f := F.FAB_STATUS_MARGIN_WARN) (hrd _ (by decide) (by decide)), State.is_congr (f := F.FAB_STATUS_MARGIN_CRIT) (hrd _ (by decide) (by decide)),
    State.is_congr (f := F.FAB_EVENT_WARN_ENTER) (hrd _ (by decide) (by decide)), State.is_congr (f := F.FAB_EVENT_CRIT_ENTER) (hrd _ (by decide) (by decide))]

/-- A window that raises no fault. -/
theorem window_judged (hlen : margins.length = 8) (hon : s.domOn 1 = true) (hen : s.is F.FAB_CTL_SPEED_EN = true)
    (hno : s.is F.FAB_CTL_CRIT_FAULT_EN = false ∨ s.is F.FAB_STATUS_MARGIN_CRIT = true ∨ s.sfld F.FAB_MARGIN_THR_CRIT ≤ (worst margins).2) :
    Completes (.speedMonitorWindow margins) s fun t => s.MarginsStored margins t ∧ s.ThresholdsJudged margins t ∧
      s.Only ([R.FAB_MARGIN_MIN, R.FAB_STATUS, R.FAB_EVENT] ++ (List.range 8).map R.FAB_SPEED) t := by
  obtain ⟨hjudged, hfell⟩ := s.marginsJudged_thresholds margins
  have hrun : s.speedWindow margins = (s.marginsJudged margins).1 := by
    rw [s.speedWindow_eq margins hon hen, State.is_congr (f := F.FAB_CTL_CRIT_FAULT_EN) (s.marginsJudged_below margins (by decide) (by decide) (by decide) (by decide)),
      hfell, if_neg]
    intro hyes
    simp only [Bool.and_eq_true, decide_eq_true_eq, Bool.not_eq_true'] at hyes
    obtain ⟨⟨hlt, hcrit⟩, hfault⟩ := hyes
    rcases hno with h | h | h
    · exact absurd (h.symm.trans hfault) (by decide)
    · exact absurd (hcrit.symm.trans h) (by decide)
    · omega
  refine done_completes (u := s.speedWindow margins) ?_ ?_
  · exact if_pos (by rw [hlen]; rfl)
  · rw [hrun]
    refine ⟨(s.marginsJudged_stored margins hlen).congr fun b _ _ => settle_rd .., hjudged.congr fun b _ _ => settle_rd .., fun b hb => ?_⟩
    simp only [List.cons_append, List.nil_append, List.mem_cons, List.mem_map, List.mem_range, not_or, not_exists, not_and] at hb
    obtain ⟨hmin, hst, hev, hspeed⟩ := hb
    rw [settle_rd, s.marginsJudged_rd_ne margins (fun i hi e => hspeed i hi e.symm) hmin hst hev]

theorem window_faults (hlen : margins.length = 8) (hon : s.domOn 1 = true) (hen : s.is F.FAB_CTL_SPEED_EN = true) (hfault : s.is F.FAB_CTL_CRIT_FAULT_EN = true)
    (hcrit : s.is F.FAB_STATUS_MARGIN_CRIT = false) (hlt : (worst margins).2 < s.sfld F.FAB_MARGIN_THR_CRIT) :
    Completes (.speedMonitorWindow margins) s fun t => s.MarginsStored margins t ∧ s.ThresholdsJudged margins t ∧
      bitAt (t.fld F.FAULT_DEV_ACTIVE_CLASS) 1 = true ∧ bitAt (t.fld F.FAULT_EVENT_BITS) 5 = true := by
  obtain ⟨hjudged, hfell⟩ := s.marginsJudged_thresholds margins
  have hstored := s.marginsJudged_stored margins hlen
  have hrun : s.speedWindow margins = (s.marginsJudged margins).1.devRaise 2 false 0 0 := by
    rw [s.speedWindow_eq margins hon hen, State.is_congr (f := F.FAB_CTL_CRIT_FAULT_EN) (s.marginsJudged_below margins (by decide) (by decide) (by decide) (by decide)),
      hfell, hfault, hcrit, decide_eq_true hlt, if_pos (by decide)]
  refine done_completes (u := s.speedWindow margins) ?_ ?_
  · exact if_pos (by rw [hlen]; rfl)
  · rw [hrun]
    generalize (s.marginsJudged margins).1 = u at *
    have hrd (b : Nat) (h0 : 0x04014000 ≤ b) (h1 : b < 0x04015000) : (settle (u.devRaise 2 false 0 0)).rd b = u.rd b := by
      have hmode (a : Nat) (ha : a < 0x04014000) : b ≠ a := by omega
      rw [settle_rd, State.devRaise_rd_ne _ _ _ _ (by omega) (.inr (le_trans (by decide) h0)) (hmode _ (by decide)) (hmode _ (by decide)) (hmode _ (by decide))]
    exact ⟨hstored.congr hrd, hjudged.congr hrd, (congrArg (bitAt · 1) (settle_fld ..)).trans (u.devRaise_active 2 0 0 (by decide) (by decide)),
      (congrArg (bitAt · 5) (settle_fld ..)).trans (u.devRaise_event 2 0 0)⟩

theorem window_off (hlen : margins.length = 8) (hoff : s.is F.FAB_CTL_SPEED_EN = false) :
    Completes (.speedMonitorWindow margins) s fun t => s.Only [] t := by
  have hrun : s.speedWindow margins = s := if_pos (by rw [hoff]; cases s.domOn 1 <;> rfl)
  refine done_completes (u := s) ?_ fun b _ => settle_rd ..
  refine (if_pos (by rw [hlen]; rfl)).trans (congrArg done hrun)

theorem lowClear_reloads (m : Master) (h : s.Reached m R.FAB_MARGIN_MIN) :
    Completes (.marginLowClear m) s fun t => s.Answered m 0 t ∧ t.fld F.FAB_MARGIN_MIN_LOW = s.fld F.FAB_MARGIN_MIN_NOW ∧
      t.fld F.FAB_MARGIN_MIN_NOW = s.fld F.FAB_MARGIN_MIN_NOW ∧ t.fld F.FAB_MARGIN_MIN_WHICH = s.fld F.FAB_MARGIN_MIN_WHICH ∧ s.Only [R.FAB_MARGIN_MIN] t := by
  refine via_completes (f := fun s => (s.lowClear, .ok)) rfl h fun t ht ho => ⟨?_, ?_, ?_, ?_, fun b hb => ?_⟩
  · rw [State.Answered, ho, State.lowClear, State.setFld_out]
    rfl
  · rw [ht.fld, State.lowClear, State.setFld_fld_same _ _ _ (by decide)]
    exact Nat.mod_eq_of_lt (bitsOf_lt ..)
  · rw [ht.fld, State.lowClear, State.setFld_fld_apart _ _ _ _ (by decide) (by decide)]
  · rw [ht.fld, State.lowClear, State.setFld_fld_apart _ _ _ _ (by decide) (by decide)]
  · rw [ht.rd, State.lowClear, State.setFld_rd_ne _ F.FAB_MARGIN_MIN_LOW _ (List.ne_of_not_mem_cons hb)]

end Windows

/-! ## Locks (R49, R50) -/

section Locks
variable (j : Fin 24) (lat : BitVec 24) (s : State)

theorem State.measured_rd_ne {b : Nat} (h : b ≠ R.FAB_LAT j) : (s.measured j lat).rd b = s.rd b := by
  rw [State.measured, State.put_rd_ne _ (F.FAB_LAT_VALID j) _ h, State.setFld_rd_ne _ (F.FAB_LAT_LATENCY j) _ h]

/-- A latency measured stands in its register, whatever state the lock takes then. -/
theorem State.measured_lock (u : State) (v : Nat) (hu : u.rd (R.FAB_LAT j) = (s.measured j lat).rd (R.FAB_LAT j)) :
    (u.setFld (F.FAB_LAT_STATE j) v).fld (F.FAB_LAT_STATE j) = v % 4 ∧ (u.setFld (F.FAB_LAT_STATE j) v).fld (F.FAB_LAT_LATENCY j) = lat.toNat ∧
      (u.setFld (F.FAB_LAT_STATE j) v).is (F.FAB_LAT_VALID j) = true := by
  refine ⟨State.setFld_fld_same _ _ _ (Fld.fits_of rfl), ?_, ?_⟩
  · rw [State.setFld_fld_apart _ _ _ _ (Fld.fits_of rfl) (Fld.apart_of_bits rfl), State.fld_congr (f := F.FAB_LAT_LATENCY j) hu, State.measured,
      State.put_fld_apart _ _ _ _ (Fld.fits_of rfl) (Fld.apart_of_bits rfl), State.setFld_fld_same _ _ _ (Fld.fits_of rfl)]
    exact Nat.mod_eq_of_lt lat.isLt
  · rw [State.setFld_is_apart _ _ _ _ (Fld.fits_of rfl) (Fld.apart_of_bits rfl), State.is_congr (f := F.FAB_LAT_VALID j) hu, State.measured,
      State.put_is_same _ _ _ (Fld.fits_of rfl) rfl]

theorem State.onTarget_iff : s.onTarget j lat.toNat = true ↔ lat.toNat ≤ s.lockTarget j + 8 ∧ s.lockTarget j ≤ lat.toNat + 8 := by
  rw [State.onTarget, Bool.and_eq_true, decide_eq_true_eq, decide_eq_true_eq]

theorem slew_locks (hst : s.fld (F.FAB_LAT_STATE j) = 1) (h1 : lat.toNat ≤ s.lockTarget j + 8) (h2 : s.lockTarget j ≤ lat.toNat + 8) :
    Completes (.slewComplete j lat) s fun t => t.fld (F.FAB_LAT_STATE j) = 2 ∧ t.fld (F.FAB_LAT_LATENCY j) = lat.toNat ∧ t.is (F.FAB_LAT_VALID j) = true ∧
      s.Only [R.FAB_LAT j] t := by
  have hrun : s.slewDone j lat = (s.measured j lat).setFld (F.FAB_LAT_STATE j) 2 :=
    if_pos (Bool.and_eq_true_iff.mpr ⟨decide_eq_true hst, (s.onTarget_iff j lat).mpr ⟨h1, h2⟩⟩)
  obtain ⟨hstate, hlat, hvalid⟩ := s.measured_lock j lat (s.measured j lat) 2 rfl
  refine done_completes (u := s.slewDone j lat) rfl ?_
  rw [hrun]
  refine ⟨(settle_fld ..).trans hstate, (settle_fld ..).trans hlat, (settle_is ..).trans hvalid, fun b hb => ?_⟩
  have hne := List.ne_of_not_mem_cons hb
  rw [settle_rd, State.setFld_rd_ne _ (F.FAB_LAT_STATE j) _ hne, State.measured_rd_ne j lat s hne]

theorem slew_nothing (h : s.fld (F.FAB_LAT_STATE j) ≠ 1 ∨ s.lockTarget j + 8 < lat.toNat ∨ lat.toNat + 8 < s.lockTarget j) :
    Completes (.slewComplete j lat) s fun t => s.Only [] t := by
  have hrun : s.slewDone j lat = s := by
    refine if_neg fun hyes => ?_
    obtain ⟨hst, hon⟩ := Bool.and_eq_true_iff.mp hyes
    obtain ⟨h1, h2⟩ := (s.onTarget_iff j lat).mp hon
    rcases h with h | h
    · exact h (of_decide_eq_true hst)
    · omega
  exact done_completes (u := s.slewDone j lat) rfl fun b _ => by rw [hrun, settle_rd]

theorem lock_lost (hst : s.fld (F.FAB_LAT_STATE j) = 2) (h : s.lockTarget j + 8 < lat.toNat ∨ lat.toNat + 8 < s.lockTarget j) :
    Completes (.lockLost j lat) s fun t => t.fld (F.FAB_LAT_STATE j) = 1 ∧ t.fld (F.FAB_LAT_LATENCY j) = lat.toNat ∧ t.is F.FAB_EVENT_LOCK_LOST = true ∧
      s.Only [R.FAB_LAT j, R.FAB_EVENT] t := by
  have hoff : s.onTarget j lat.toNat = false := Bool.eq_false_iff.mpr fun hon => by
    obtain ⟨h1, h2⟩ := (s.onTarget_iff j lat).mp hon
    omega
  have hrun : s.lockLost j lat = ((s.measured j lat).put F.FAB_EVENT_LOCK_LOST true).setFld (F.FAB_LAT_STATE j) 1 :=
    if_pos (by rw [hoff, hst]; rfl)
  have hne : R.FAB_LAT j ≠ R.FAB_EVENT := by
    simp only [R.FAB_LAT, R.FAB_EVENT]
    omega
  obtain ⟨hstate, hlat, -⟩ := s.measured_lock j lat ((s.measured j lat).put F.FAB_EVENT_LOCK_LOST true) 1 (State.put_rd_ne _ F.FAB_EVENT_LOCK_LOST _ hne)
  refine done_completes (u := s.lockLost j lat) rfl ?_
  rw [hrun]
  refine ⟨(settle_fld ..).trans hstate, (settle_fld ..).trans hlat, ?_, fun b hb => ?_⟩
  · rw [settle_is, State.setFld_is_apart _ _ _ _ (Fld.fits_of rfl) (.inl hne.symm), State.put_is_same _ _ _ (by decide) rfl]
  · simp only [List.mem_cons, List.not_mem_nil, or_false, not_or] at hb
    rw [settle_rd, State.setFld_rd_ne _ (F.FAB_LAT_STATE j) _ hb.1, State.put_rd_ne _ F.FAB_EVENT_LOCK_LOST _ hb.2, State.measured_rd_ne j lat s hb.1]

theorem lock_kept (h : s.fld (F.FAB_LAT_STATE j) ≠ 2 ∨ lat.toNat ≤ s.lockTarget j + 8 ∧ s.lockTarget j ≤ lat.toNat + 8) :
    Completes (.lockLost j lat) s fun t => s.Only [] t := by
  have hrun : s.lockLost j lat = s := by
    refine if_neg fun hyes => ?_
    obtain ⟨hst, hon⟩ := Bool.and_eq_true_iff.mp hyes
    rcases h with h | h
    · exact h (of_decide_eq_true hst)
    · rw [(s.onTarget_iff j lat).mpr h] at hon
      cases hon
  exact done_completes (u := s.lockLost j lat) rfl fun b _ => by rw [hrun, settle_rd]

end Locks

/-! ## Crossings (R51, R52) -/

section Crossings
variable (n : Fin 48) (s : State)

theorem State.xdrop_rd_ne (k : Nat) {b : Nat} (h1 : b ≠ R.FAB_XDROP n) (h2 : b ≠ R.FAB_EVENT) : (s.xdrop n k).rd b = s.rd b := by
  unfold State.xdrop
  split
  · rfl
  · rw [State.tally_rd, State.put_rd_ne _ F.FAB_EVENT_XDROP _ h2, State.bump_rd_ne _ (F.FAB_XDROP_COUNT n) _ h1]

theorem State.xdrop_count (k : Nat) : (s.xdrop n k).fld (F.FAB_XDROP_COUNT n) = min (s.fld (F.FAB_XDROP_COUNT n) + k) 65535 := by
  unfold State.xdrop
  split
  · next hk =>
    have hlt : s.fld (F.FAB_XDROP_COUNT n) < 65536 := bitsOf_lt _ _ _
    omega
  · have hne : R.FAB_XDROP n ≠ R.FAB_EVENT := by
      simp only [R.FAB_XDROP, R.FAB_EVENT]
      omega
    rw [State.tally_fld, State.put_fld_apart _ _ _ _ (by decide) (.inl hne), State.bump_fld_same _ _ _ (Fld.fits_of rfl)]
    rfl

theorem State.setCrossing_same (c : Nat × Bool) : (s.setCrossing n c).crossing n = c := by
  rw [State.crossing, State.setCrossing, tabGet_put, if_pos rfl]

/-- What an acknowledged crossing leaves where its pound was emptied: the discards counted, and the crossing open. -/
theorem crossing_opens {k : Nat} {u : State} (hack : (s.crossing n).1 = 2) (hrd : ∀ b, u.rd b = (s.xdrop n k).rd b)
    (hdrop : s.dropPound n = u) {q : State → Prop}
    (hq : ∀ t : State, t.fab = (u.setCrossing n (0, (s.crossing n).2)).fab → t.crossing n = (0, (s.crossing n).2) →
      t.fld (F.FAB_XDROP_COUNT n) = min (s.fld (F.FAB_XDROP_COUNT n) + k) 65535 → s.Only [R.FAB_XDROP n, R.FAB_EVENT] t → q t) :
    Completes (.crossingAck n) s q := by
  have hrun : s.crossAck n = u.setCrossing n (0, (s.crossing n).2) := by
    rw [State.crossAck, if_pos hack, hdrop]
  refine done_completes (u := s.crossAck n) rfl (hq _ ?_ ?_ ?_ fun b hb => ?_)
  · rw [settle_fab, hrun]
  · rw [hrun]
    exact State.setCrossing_same n u _
  · rw [settle_fld, hrun, State.fld_congr (t := u.setCrossing n (0, (s.crossing n).2)) (s := s.xdrop n k) (hrd _), State.xdrop_count]
  · simp only [List.mem_cons, List.not_mem_nil, or_false, not_or] at hb
    rw [settle_rd, hrun]
    exact (hrd b).trans (s.xdrop_rd_ne n k hb.1 hb.2)

theorem crossing_drops_pound (hn : n.val < 8 ∨ 16 ≤ n.val ∧ n.val < 32) (hack : (s.crossing n).1 = 2) :
    Completes (.crossingAck n) s fun t => t.crossing n = (0, (s.crossing n).2) ∧ t.pound n = [] ∧
      t.fld (F.FAB_XDROP_COUNT n) = min (s.fld (F.FAB_XDROP_COUNT n) + (s.pound n).length) 65535 ∧ s.Only [R.FAB_XDROP n, R.FAB_EVENT] t := by
  refine crossing_opens n s (k := (s.pound n).length) hack (u := (s.xdrop n (s.pound n).length).setPound n []) (fun _ => rfl) (if_pos hn)
    fun t ht hopen hcount honly => ⟨hopen, ?_, hcount, honly⟩
  rw [State.pound, ht, State.setCrossing, State.setPound, tabGet_put, if_pos rfl]

theorem crossing_drops_store (hn : 8 ≤ n.val ∧ n.val < 16 ∨ 32 ≤ n.val) (hack : (s.crossing n).1 = 2) :
    Completes (.crossingAck n) s fun t => t.crossing n = (0, (s.crossing n).2) ∧ t.store (outOf n) = [] ∧
      t.fld (F.FAB_XDROP_COUNT n) = min (s.fld (F.FAB_XDROP_COUNT n) + (s.store (outOf n)).length) 65535 ∧ s.Only [R.FAB_XDROP n, R.FAB_EVENT] t := by
  refine crossing_opens n s (k := (s.store (outOf n)).length) hack (u := (s.xdrop n (s.store (outOf n)).length).setStore (outOf n) []) (fun _ => rfl)
    (if_neg (by omega)) fun t ht hopen hcount honly => ⟨hopen, ?_, hcount, honly⟩
  rw [State.store, ht, State.setCrossing, State.setStore, tabGet_put, if_pos rfl]

theorem crossing_nothing (h : (s.crossing n).1 ≠ 2) : Completes (.crossingAck n) s fun t => s.Only [] t := by
  have hrun : s.crossAck n = s := if_neg h
  exact done_completes (u := s.crossAck n) rfl fun b _ => by rw [hrun, settle_rd]

end Crossings

theorem State.Apart.fab {s t : State} (h : s.Apart t) : t.fab = s.fab := by
  obtain ⟨p, o, d, rfl⟩ := h
  rfl

/-! ## Fixed-latency targets (R47, R48, R50) -/

section Targets
variable (host : Bool) (s : State)

/-- The register of a direction's target. -/
def tgtReg (host : Bool) : Nat := if host then R.FAB_FL_TGT_HTX else R.FAB_FL_TGT_LTX

/-- Its field. -/
def tgtFld (host : Bool) : Fld := if host then F.FAB_FL_TGT_HTX_UI else F.FAB_FL_TGT_LTX_UI

/-- A direction's clamp flag. -/
def clampFlag (host : Bool) : Fld := if host then F.FAB_STATUS_TGT_CLAMPED_HTX else F.FAB_STATUS_TGT_CLAMPED_LTX

theorem tgtFld_fits : (tgtFld host).Fits ∧ (tgtFld host).wd = 17 ∧ (tgtFld host).addr = tgtReg host := by cases host <;> decide

theorem clampFlag_fits : (clampFlag host).Fits ∧ (clampFlag host).wd = 1 ∧ (clampFlag host).addr = R.FAB_STATUS := by cases host <;> decide

/-- A target held to the range of its mode and direction. -/
def heldTarget (host : Bool) (t : Nat) (rate : Bool) (v : Nat) : Nat × Bool := clampTarget t (if host then hostBaud rate else lineBaud t rate) v

/-- The target in force of a direction. -/
def State.tgtOf (s : State) (host : Bool) : Nat := if host then s.fab.tgtHtx else s.fab.tgtLtx

/-- A target taken, its flag and event written. -/
def State.clampNoted (s : State) (host : Bool) (c : Bool) : State :=
  if c then (s.put (clampFlag host) c).put F.FAB_EVENT_TGT_CLAMP true else s.put (clampFlag host) c

theorem State.takeTarget_eq (t : Nat) (rate : Bool) {v : Nat} (hv : s.fld (tgtFld host) = v) : s.takeTarget host t rate =
    { s.clampNoted host (heldTarget host t rate v).2 with
      fab := if host then { (s.clampNoted host (heldTarget host t rate v).2).fab with tgtHtx := (heldTarget host t rate v).1 }
        else { (s.clampNoted host (heldTarget host t rate v).2).fab with tgtLtx := (heldTarget host t rate v).1 } } := by
  subst hv
  cases host <;> rfl

theorem State.clampNoted_spec (c : Bool) : (s.clampNoted host c).is (clampFlag host) = c ∧
    (s.clampNoted host c).is F.FAB_EVENT_TGT_CLAMP = (s.is F.FAB_EVENT_TGT_CLAMP || c) ∧ (s.clampNoted host c).out = s.out ∧ (s.clampNoted host c).fab = s.fab ∧
    ∀ b, b ≠ R.FAB_STATUS → b ≠ R.FAB_EVENT → (s.clampNoted host c).rd b = s.rd b := by
  obtain ⟨hfits, hwd, haddr⟩ := clampFlag_fits host
  have hevent : (clampFlag host).addr ≠ R.FAB_EVENT := by rw [haddr]; decide
  unfold State.clampNoted
  cases c with
  | true =>
    rw [if_pos rfl]
    refine ⟨?_, ?_, ?_, ?_, fun b h1 h2 => ?_⟩
    · rw [State.put_is_apart _ _ _ _ (by decide) (.inl hevent), State.put_is_same _ _ _ hfits hwd]
    · rw [State.put_is_same _ _ _ (by decide) rfl, Bool.or_true]
    · rw [State.put_out, State.put_out]
    · rw [State.put_fab, State.put_fab]
    · rw [State.put_rd_ne _ F.FAB_EVENT_TGT_CLAMP _ h2, State.put_rd_ne _ _ _ (haddr ▸ h1)]
  | false =>
    rw [if_neg (by decide)]
    refine ⟨State.put_is_same _ _ _ hfits hwd, ?_, State.put_out .., State.put_fab .., fun b h1 h2 => State.put_rd_ne _ _ _ (haddr ▸ h1)⟩
    rw [State.put_is_apart _ _ _ _ hfits (.inl hevent.symm), Bool.or_false]

/-- A target taken: its value, its flag and event, and nothing else. -/
theorem State.takeTarget_spec (t : Nat) (rate : Bool) {v : Nat} (hv : s.fld (tgtFld host) = v) :
    (s.takeTarget host t rate).tgtOf host = (heldTarget host t rate v).1 ∧ (s.takeTarget host t rate).tgtOf (!host) = s.tgtOf (!host) ∧
      (s.takeTarget host t rate).is (clampFlag host) = (heldTarget host t rate v).2 ∧
      (s.takeTarget host t rate).is F.FAB_EVENT_TGT_CLAMP = (s.is F.FAB_EVENT_TGT_CLAMP || (heldTarget host t rate v).2) ∧ (s.takeTarget host t rate).out = s.out ∧
      ∀ b, b ≠ R.FAB_STATUS → b ≠ R.FAB_EVENT → (s.takeTarget host t rate).rd b = s.rd b := by
  obtain ⟨hflag, hevent, hout, hfab, hrd⟩ := s.clampNoted_spec host (heldTarget host t rate v).2
  rw [s.takeTarget_eq host t rate hv]
  generalize s.clampNoted host (heldTarget host t rate v).2 = u at *
  refine ⟨?_, ?_, hflag, hevent, hout, hrd⟩
  · cases host <;> rfl
  · cases host with
    | false => exact (congrArg Fabric.tgtHtx hfab : _ = s.fab.tgtHtx)
    | true => exact (congrArg Fabric.tgtLtx hfab : _ = s.fab.tgtLtx)

/-- A locked output slews to a new target. -/
def State.slewTo (s : State) (j : Nat) : State := if s.fld (F.FAB_LAT_STATE j) = 2 then s.setFld (F.FAB_LAT_STATE j) 1 else s

/-- The outputs of a direction. -/
def outsOf (host : Bool) : List Nat := allOuts.filter fun j => decide (8 ≤ j) == host

/-- All outputs of a direction told. -/
def State.slewAll (s : State) (host : Bool) : State := each (outsOf host) (fun j s => s.slewTo j) s

theorem State.slewTo_rd_ne (j : Nat) {b : Nat} (h : b ≠ R.FAB_LAT j) : (s.slewTo j).rd b = s.rd b := by
  unfold State.slewTo
  split
  · exact State.setFld_rd_ne _ (F.FAB_LAT_STATE j) _ h
  · rfl

theorem State.slewTo_closed {P : State → Prop} {K : Nat} (C : Closed K P) (hK : Sub 0x1 K) (j : Nat) (h : P s) : P (s.slewTo j) := by
  unfold State.slewTo
  split
  · exact State.setFld_closed C hK _ _ _ h
  · exact h

theorem State.slewAll_within : s.Within 0x1 (s.slewAll host) :=
  closed_each (P := State.Within s 0x1) _ (State.Within.refl s _) fun j t h => t.slewTo_closed (within_closed 0x1 s) (Sub.refl _) j h

theorem mem_outsOf {j : Nat} : j ∈ outsOf host ↔ j < 24 ∧ decide (8 ≤ j) = host := by
  rw [outsOf, List.mem_filter, allOuts, List.mem_range, beq_iff_eq]

theorem State.slewAll_rd_ne {b : Nat} (h : ∀ j, j < 24 → b ≠ R.FAB_LAT j) : (s.slewAll host).rd b = s.rd b :=
  each_rd _ _ _ _ fun t j hj => t.slewTo_rd_ne j (h j ((mem_outsOf host).mp hj).1)

/-- A lock's register after its output was told. -/
def slewWord (w : Word) : Word := if bitsOf w.toNat 24 2 = 2 then setBits w 24 2 1 else w

theorem State.slewTo_rd (j : Nat) : (s.slewTo j).rd (R.FAB_LAT j) = slewWord (s.rd (R.FAB_LAT j)) := by
  unfold State.slewTo slewWord
  by_cases h : s.fld (F.FAB_LAT_STATE j) = 2
  · rw [if_pos h, if_pos (show bitsOf (s.rd (R.FAB_LAT j)).toNat 24 2 = 2 from h)]
    exact State.wr_rd_same ..
  · rw [if_neg h, if_neg (show ¬ bitsOf (s.rd (R.FAB_LAT j)).toNat 24 2 = 2 from h)]

/-- The locks of the direction slew; those of the other stay. -/
theorem State.slewAll_state (j : Fin 24) : (s.slewAll host).fld (F.FAB_LAT_STATE j) =
    if decide (8 ≤ j.val) = host ∧ s.fld (F.FAB_LAT_STATE j) = 2 then 1 else s.fld (F.FAB_LAT_STATE j) := by
  by_cases hj : decide (8 ≤ j.val) = host
  · have hrd : (s.slewAll host).rd (R.FAB_LAT j) = (s.slewTo j).rd (R.FAB_LAT j) := by
      rw [State.slewTo_rd]
      refine each_rd_at (f := fun j s => s.slewTo j) ((List.nodup_range).filter _) ((mem_outsOf host).mpr ⟨j.isLt, hj⟩)
        (fun t k _ hk => t.slewTo_rd_ne k ?_) (fun t => t.slewTo_rd j) s
      simp only [R.FAB_LAT]
      omega
    rw [State.fld_congr (f := F.FAB_LAT_STATE j) hrd, State.slewTo]
    simp only [hj, true_and]
    split
    · rw [State.setFld_fld_same _ _ _ (Fld.fits_of rfl)]
      rfl
    · rfl
  · rw [if_neg (fun h => hj h.1)]
    refine State.fld_congr (f := F.FAB_LAT_STATE j) (each_rd _ _ _ _ fun t k hk => t.slewTo_rd_ne k fun e => ?_)
    have hkj : k = j := by
      simp only [F.FAB_LAT_STATE, R.FAB_LAT] at e
      omega
    exact hj (hkj ▸ ((mem_outsOf host).mp hk).2)

theorem State.targetWrite_eq (v : Word) : s.targetWrite host v = (((s.setFld (tgtFld host) v.toNat).retarget host).slewAll host, .ok) := rfl

/-- A target written, before it is judged. -/
theorem State.tgtWritten_spec (v : Nat) : (s.setFld (tgtFld host) v).fld (tgtFld host) = v % 131072 ∧ (s.setFld (tgtFld host) v).targetMode = s.targetMode ∧
    (s.setFld (tgtFld host) v).is F.MODE_STATUS_FIXLAT = s.is F.MODE_STATUS_FIXLAT ∧ (s.setFld (tgtFld host) v).mode = s.mode ∧
    (s.setFld (tgtFld host) v).is F.MODE_STATUS_HOST_RATE = s.is F.MODE_STATUS_HOST_RATE ∧ (∀ b, b ≠ tgtReg host → (s.setFld (tgtFld host) v).rd b = s.rd b) := by
  obtain ⟨hfits, hwd, haddr⟩ := tgtFld_fits host
  have hrd (b : Nat) (hb : b ≠ tgtReg host) : (s.setFld (tgtFld host) v).rd b = s.rd b := State.setFld_rd_ne _ _ _ (haddr ▸ hb)
  have hmode : (s.setFld (tgtFld host) v).rd R.MODE_STATUS = s.rd R.MODE_STATUS := hrd _ (by cases host <;> decide)
  have htrans : (s.setFld (tgtFld host) v).trans = s.trans := State.setFld_trans ..
  refine ⟨?_, ?_, State.is_congr hmode, State.fld_congr hmode, State.is_congr hmode, hrd⟩
  · rw [State.setFld_fld_same _ _ _ hfits, hwd]
    rfl
  · unfold State.targetMode State.mode
    simp only [State.is_congr (f := F.MODE_STATUS_BUSY) hmode, State.fld_congr (f := F.MODE_STATUS_IN_TARGET) hmode, State.fld_congr (f := F.MODE_STATUS_CURRENT) hmode,
      State.is_congr (f := F.MODE_STATUS_HOST_RATE) hmode, State.is_congr (f := F.MODE_STATUS_FIXLAT) hmode, htrans]

theorem lat_ne (j : Nat) (h : j < 24) : R.FAB_LAT j ≠ tgtReg host ∧ R.FAB_LAT j ≠ R.FAB_STATUS ∧ R.FAB_LAT j ≠ R.FAB_EVENT := by
  refine ⟨?_, ?_, ?_⟩
  · cases host <;> simp only [tgtReg, if_true, Bool.false_eq_true, if_false, R.FAB_LAT, R.FAB_FL_TGT_HTX, R.FAB_FL_TGT_LTX] <;> omega
  all_goals
    simp only [R.FAB_LAT, R.FAB_STATUS, R.FAB_EVENT]
    omega

/-- The registers that a target written changes where it is not judged. -/
theorem target_unjudged (m : Master) (v : Word) (h : s.Reached m (tgtReg host)) (hno : s.targetMode.2.2 = false) (hfx : s.is F.MODE_STATUS_FIXLAT = false) :
    Completes (.flTargetWrite m host v) s fun t => s.Answered m 0 t ∧ t.fld (tgtFld host) = v.toNat % 131072 ∧ t.fab = s.fab ∧
      (∀ j : Fin 24, t.fld (F.FAB_LAT_STATE j) = if decide (8 ≤ j.val) = host ∧ s.fld (F.FAB_LAT_STATE j) = 2 then 1 else s.fld (F.FAB_LAT_STATE j)) ∧
      s.Only (tgtReg host :: (List.range 24).map R.FAB_LAT) t := by
  obtain ⟨-, -, haddr⟩ := tgtFld_fits host
  obtain ⟨hfld, htm, hfix, -, -, hrd⟩ := s.tgtWritten_spec host v.toNat
  refine via_completes (f := fun s => s.targetWrite host v) rfl h ?_
  have hout : (s.setFld (tgtFld host) v.toNat).out = s.out := State.setFld_out ..
  have hfab : (s.setFld (tgtFld host) v.toNat).fab = s.fab := State.setFld_fab ..
  rw [State.targetWrite_eq]
  generalize s.setFld (tgtFld host) v.toNat = u at *
  have hre : u.retarget host = u := by
    rw [State.retarget, htm, hno, hfix, hfx]
    rfl
  rw [hre]
  have hw := u.slewAll_within host
  refine fun t ht ho => ⟨?_, ?_, ?_, fun j => ?_, fun b hb => ?_⟩
  · rw [State.Answered, ho, show (u.slewAll host).out = u.out from hw.same .out rfl, hout]
    rfl
  · rw [ht.fld, State.fld_congr (u.slewAll_rd_ne host fun j hj => ?_), hfld]
    rw [haddr]
    exact ((lat_ne host j hj).1).symm
  · rw [ht.fab, show (u.slewAll host).fab = u.fab from hw.same .fab rfl, hfab]
  · rw [ht.fld, State.slewAll_state, State.fld_congr (f := F.FAB_LAT_STATE j) (hrd _ (lat_ne host j j.isLt).1)]
  · simp only [List.mem_cons, List.mem_map, List.mem_range, not_or, not_exists, not_and] at hb
    obtain ⟨htgt, hlat⟩ := hb
    rw [ht.rd, u.slewAll_rd_ne host fun j hj e => hlat j hj e.symm, hrd b htgt]

/-- A target written and judged by a mode and a rate. -/
theorem target_judged (m : Master) (v : Word) (h : s.Reached m (tgtReg host)) {md : Nat} {rate : Bool}
    (hjudge : ∀ u : State, u.targetMode = s.targetMode → u.is F.MODE_STATUS_FIXLAT = s.is F.MODE_STATUS_FIXLAT → u.mode = s.mode →
      u.is F.MODE_STATUS_HOST_RATE = s.is F.MODE_STATUS_HOST_RATE → u.retarget host = u.takeTarget host md rate) :
    Completes (.flTargetWrite m host v) s fun t => s.Answered m 0 t ∧ t.fld (tgtFld host) = v.toNat % 131072 ∧
      t.tgtOf host = (heldTarget host md rate (v.toNat % 131072)).1 ∧ t.tgtOf (!host) = s.tgtOf (!host) ∧
      t.is (clampFlag host) = (heldTarget host md rate (v.toNat % 131072)).2 ∧
      t.is F.FAB_EVENT_TGT_CLAMP = (s.is F.FAB_EVENT_TGT_CLAMP || t.is (clampFlag host)) ∧
      (∀ j : Fin 24, t.fld (F.FAB_LAT_STATE j) = if decide (8 ≤ j.val) = host ∧ s.fld (F.FAB_LAT_STATE j) = 2 then 1 else s.fld (F.FAB_LAT_STATE j)) ∧
      s.Only ([tgtReg host, R.FAB_STATUS, R.FAB_EVENT] ++ (List.range 24).map R.FAB_LAT) t := by
  obtain ⟨-, -, haddr⟩ := tgtFld_fits host
  obtain ⟨-, -, hflagAt⟩ := clampFlag_fits host
  obtain ⟨hfld, htm, hfix, hmode, hrate, hrd⟩ := s.tgtWritten_spec host v.toNat
  refine via_completes (f := fun s => s.targetWrite host v) rfl h ?_
  have hout : (s.setFld (tgtFld host) v.toNat).out = s.out := State.setFld_out ..
  have hfab : (s.setFld (tgtFld host) v.toNat).fab = s.fab := State.setFld_fab ..
  rw [State.targetWrite_eq]
  generalize s.setFld (tgtFld host) v.toNat = u at *
  have htgt : tgtReg host ≠ R.FAB_STATUS ∧ tgtReg host ≠ R.FAB_EVENT := by cases host <;> decide
  obtain ⟨hmine, hother, hflag, hevent, htout, htrd⟩ := u.takeTarget_spec host md rate hfld
  rw [hjudge u htm hfix hmode hrate]
  generalize u.takeTarget host md rate = w at *
  have hw := w.slewAll_within host
  have hsame : (w.slewAll host).fab = w.fab := hw.same .fab rfl
  have hstat (b : Nat) (hb : b = R.FAB_STATUS ∨ b = R.FAB_EVENT ∨ b = tgtReg host) : (w.slewAll host).rd b = w.rd b := by
    refine w.slewAll_rd_ne host fun j hj => ?_
    obtain ⟨h1, h2, h3⟩ := lat_ne host j hj
    rcases hb with rfl | rfl | rfl
    · exact h2.symm
    · exact h3.symm
    · exact h1.symm
  refine fun t ht ho => ⟨?_, ?_, ?_, ?_, ?_, ?_, fun j => ?_, fun b hb => ?_⟩
  · rw [State.Answered, ho, show (w.slewAll host).out = w.out from hw.same .out rfl, htout, hout]
    rfl
  · rw [ht.fld, State.fld_congr (hstat _ (.inr (.inr haddr))), State.fld_congr (htrd _ (haddr ▸ htgt.1) (haddr ▸ htgt.2)), hfld]
  · rw [State.tgtOf, ht.fab, hsame]
    exact hmine
  · rw [State.tgtOf, ht.fab, hsame, State.tgtOf, ← hfab]
    exact hother
  · rw [ht.is, State.is_congr (hstat _ (.inl hflagAt)), hflag]
  · rw [ht.is, ht.is, State.is_congr (hstat _ (.inl hflagAt)), hflag, State.is_congr (hstat _ (.inr (.inl rfl))), hevent]
    rw [State.is_congr (f := F.FAB_EVENT_TGT_CLAMP) (hrd _ htgt.2.symm)]
  · obtain ⟨h1, h2, h3⟩ := lat_ne host j j.isLt
    rw [ht.fld, State.slewAll_state, State.fld_congr (f := F.FAB_LAT_STATE j) ((htrd _ h2 h3).trans (hrd _ h1))]
  · simp only [List.cons_append, List.nil_append, List.mem_cons, List.mem_map, List.mem_range, not_or, not_exists, not_and] at hb
    obtain ⟨h1, h2, h3, hlat⟩ := hb
    rw [ht.rd, w.slewAll_rd_ne host fun j hj e => hlat j hj e.symm, htrd b h2 h3, hrd b h1]

end Targets

/-- Settles O6: windows, targets, locks and crossings, each by the lemma of its rule. -/
theorem fabricMarginsTargetsAndOutputLocks : Obligations.FabricMarginsTargetsAndOutputLocks := by
  unfold Obligations.FabricMarginsTargetsAndOutputLocks
  refine ⟨fun ms s hlen hon hen hno => ?quiet, fun ms s hlen hon hen hno => ?kept, fun ms s hlen hon hen hfault hcrit hlt => ?falls,
    fun ms s hlen hoff => window_off ms s hlen hoff, fun m s h => lowClear_reloads s m h, fun m host v s h hno hfx => ?unjudged, fun m host v s h hno hfx => ?inForce,
    fun m host v s h hyes => ?coming, slew_locks, slew_nothing, lock_lost, lock_kept, crossing_drops_pound, crossing_drops_store, crossing_nothing⟩
  case quiet =>
    obtain ⟨t, e, ⟨hspeed, hnow, hwhich, hlow⟩, ⟨hw, hc, hwe, hce⟩, honly⟩ := window_judged ms s hlen hon hen (.inl hno)
    exact ⟨t, e, hspeed, hnow, hwhich, hlow, hw, hc, hwe, hce, honly⟩
  case kept =>
    obtain ⟨t, e, ⟨hspeed, hnow, hwhich, hlow⟩, ⟨hw, hc, hwe, hce⟩, honly⟩ := window_judged ms s hlen hon hen (.inr hno)
    exact ⟨t, e, hspeed, hnow, hwhich, hlow, hw, hc, hwe, hce, honly⟩
  case falls =>
    obtain ⟨t, e, ⟨hspeed, hnow, hwhich, hlow⟩, ⟨hw, hc, hwe, hce⟩, hclass, hbits⟩ := window_faults ms s hlen hon hen hfault hcrit hlt
    rw [if_pos (show (worst ms).2 < s.sfld F.FAB_MARGIN_THR_CRIT from hlt)] at hc
    exact ⟨t, e, hc, by rw [hce, hc, hcrit]; simp, hspeed, hnow, hwhich, hlow, hw, hwe, hclass, hbits⟩
  case unjudged => exact target_unjudged host s m v h hno hfx
  case inForce =>
    obtain ⟨t, e, ho, hfld, hmine, hother, hflag, -, hlocks, honly⟩ := target_judged host s m v h (md := s.mode) (rate := s.is F.MODE_STATUS_HOST_RATE)
      fun u htm hfix hmode hrate => by rw [State.retarget, htm, hno, hfix, hfx, hmode, hrate]; rfl
    refine ⟨t, e, ho, hfld, hmine, ?_, hflag, hlocks, honly⟩
    cases host <;> exact hother
  case coming =>
    obtain ⟨t, e, ho, hfld, hmine, hother, hflag, hevent, hlocks, honly⟩ := target_judged host s m v h (md := s.targetMode.1) (rate := s.targetMode.2.1)
      fun u htm _ _ _ => by rw [State.retarget, htm, hyes]; rfl
    refine ⟨t, e, ho, hfld, hmine, ?_, hflag, hevent, hlocks, honly⟩
    cases host <;> exact hother

end Sys2Proof.Machine
end

section
/-! SUPPORT. What leaves the machine beside an answer where a fault of the training takes the lane down. -/

namespace Sys2Proof.Machine

/-- Line pair 0 runs in Transparent, its transmitter dark with an unlocked synthesiser, and the sequencer of its receiver waits with a CMT for its barge boundary. -/
def wakeRefused : State :=
  { State.reset with
    regs := [(R.MODE_STATUS, 2#32), (R.PWR_DOM_STAT, 0x1C407#32), (R.LRX_STATUS 0, 16#32), (R.LRX_SEQ_STAT 0, 1#32), (R.LTX_STATUS 8, 1#32)],
    seqs := [(0, { Seq.init with cmt := some (2, false) })] }

/-- What the model evaluates where a lane goes down with a CMT that waits. -/
theorem reset_lanes_speak_run :
    leaves (exec (.trnWake .supS 0) wakeRefused) (fun t => t.out.length == 2) = true ∧
      leaves (exec (.sensorUpdate (List.replicate 12 (400, 0))) darkInTransparent) (fun t => t.out.length == 1) = true := by
  decide +kernel

/-- Refutes O18: the wake whose light is refused reports cause 9, whose step resets the pair; the CMT that waits completes, and the peaking of the bank that it commits
goes out beside the answer. -/
theorem not_trainingStartsAndTimesThePair : ¬ Obligations.TrainingStartsAndTimesThePair := by
  unfold Obligations.TrainingStartsAndTimesThePair
  intro h
  obtain ⟨-, -, -, -, -, refused, -⟩ := h
  have hfirst : wakeRefused.firstFault 0 := by unfold State.firstFault; decide
  obtain ⟨t, e, hanswer, -⟩ := refused .supS 0 wakeRefused (by decide) (by decide) (by decide) hfirst
  have hout : t.out.length = 1 := by rw [hanswer]; rfl
  have hrun : (t.out.length == 2) = true := leaves_next e (q := fun t => t.out.length == 2) reset_lanes_speak_run.1
  simp [hout] at hrun

/-- Refutes O51: where no sensor is admitted the device shuts down, a CMT that waits completes as its sequencer halts, and the peaking of the bank that it commits goes
out. -/
theorem not_temperaturesThrottleAndShutDown : ¬ Obligations.TemperaturesThrottleAndShutDown := by
  unfold Obligations.TemperaturesThrottleAndShutDown
  intro h
  obtain ⟨-, -, -, update, -⟩ := h
  obtain ⟨t, e, hwarn, hoff, hcut, hlevel, hchanged, hevent, hhold, hmem, hout⟩ :=
    update (List.replicate 12 (400, 0)) darkInTransparent (by decide) (by decide) (by decide)
  have hnone : t.out.length = 0 := by rw [hout]; rfl
  have hrun : (t.out.length == 1) = true := leaves_next e (q := fun t => t.out.length == 1) reset_lanes_speak_run.2
  simp [hnone] at hrun

end Sys2Proof.Machine

end

section
/-! SUPPORT. The ground of an operation: the register bits that it may change, as runs of registers, and what follows for the fields and registers outside. -/

namespace Sys2Proof.Machine

/-! ## Grounds -/

/-- Bits `lo` to `hi - 1` of the registers at `times` offsets, `step` apart from `off` on, of `count` blocks from `block` on (R430, R432). -/
structure Spot where
  block : Nat
  count : Nat
  off : Nat
  step : Nat
  times : Nat
  lo : Nat
  hi : Nat

/-- A field, repeated in as many blocks from its own on. -/
def Spot.of (count : Nat) (f : Fld) : Spot := ⟨f.addr / 4096, count, f.addr % 4096, 1, 1, f.lo, f.lo + f.wd⟩

/-- A field repeated in one block. -/
def Spot.run (times step : Nat) (f : Fld) : Spot := ⟨f.addr / 4096, 1, f.addr % 4096, step, times, f.lo, f.lo + f.wd⟩

/-- The register is one of the spot's. -/
def Spot.at (e : Spot) (a : Nat) : Bool :=
  Nat.ble e.block (a / 4096) && Nat.blt (a / 4096) (e.block + e.count) && Nat.ble e.off (a % 4096) && Nat.beq ((a % 4096 - e.off) % e.step) 0 &&
    Nat.blt ((a % 4096 - e.off) / e.step) e.times

/-- The bit is one of the spot's. -/
def Spot.has (e : Spot) (a i : Nat) : Bool := e.at a && Nat.ble e.lo i && Nat.blt i e.hi

/-- The field lies inside the spot, and outside it. -/
def Spot.covers (e : Spot) (f : Fld) : Bool := e.at f.addr && Nat.ble e.lo f.lo && Nat.ble (f.lo + f.wd) e.hi
def Spot.misses (e : Spot) (f : Fld) : Bool := !e.at f.addr || Nat.ble (f.lo + f.wd) e.lo || Nat.ble e.hi f.lo

/-- The registers of a spot. -/
def Spot.addrs (e : Spot) : List Nat := (List.range e.count).flatMap fun b => (List.range e.times).map fun j => 4096 * (e.block + b) + e.off + e.step * j

theorem Spot.mem_addrs {e : Spot} {a : Nat} (h : e.at a = true) : a ∈ e.addrs := by
  simp only [Spot.at, Bool.and_eq_true, Nat.ble_eq, Nat.blt_eq, Nat.beq_eq] at h
  obtain ⟨⟨⟨⟨hlo, hhi⟩, hoff⟩, hstep⟩, htimes⟩ := h
  simp only [Spot.addrs, List.mem_flatMap, List.mem_map, List.mem_range]
  refine ⟨a / 4096 - e.block, by omega, (a % 4096 - e.off) / e.step, htimes, ?_⟩
  have := Nat.div_add_mod (a % 4096 - e.off) e.step
  have := Nat.div_add_mod a 4096
  rw [hstep] at *
  omega

/-- A spot whose registers are a run of blocks at one offset lies inside another of the same offset. -/
def Spot.under (e f : Spot) : Bool :=
  Nat.ble f.block e.block && Nat.ble (e.block + e.count) (f.block + f.count) && Nat.beq e.off f.off && Nat.beq e.step f.step && Nat.ble e.times f.times &&
    Nat.ble f.lo e.lo && Nat.ble e.hi f.hi

theorem Spot.has_of_under {e f : Spot} (h : e.under f = true) {a i : Nat} (ha : e.has a i = true) : f.has a i = true := by
  simp only [Spot.under, Spot.has, Spot.at, Bool.and_eq_true, Nat.ble_eq, Nat.blt_eq, Nat.beq_eq] at *
  obtain ⟨⟨⟨⟨⟨⟨hblock, hcount⟩, hoff⟩, hstep⟩, htimes⟩, hlo⟩, hhi⟩ := h
  obtain ⟨⟨⟨⟨⟨⟨h1, h2⟩, h3⟩, h4⟩, h5⟩, h6⟩, h7⟩ := ha
  rw [← hoff, ← hstep]
  exact ⟨⟨⟨⟨⟨⟨by omega, by omega⟩, h3⟩, h4⟩, by omega⟩, by omega⟩, by omega⟩

/-- A set of register bits. -/
abbrev Ground := List Spot

def Ground.at (A : Ground) (a : Nat) : Bool := A.any (·.at a)
def Ground.has (A : Ground) (a i : Nat) : Bool := A.any (·.has a i)
def Ground.covers (A : Ground) (f : Fld) : Bool := Nat.ble (f.lo + f.wd) 32 && A.any (·.covers f)
def Ground.misses (A : Ground) (f : Fld) : Bool := A.all (·.misses f)

def Ground.under (A B : Ground) : Bool := A.all fun e => B.any fun f => e.under f

/-- No register outside the list is in the ground. -/
def Ground.allIn (A : Ground) (l : List Nat) : Bool := A.all fun e => e.addrs.all fun a => l.contains a

/-- No register of the device blocks outside the list is in the ground. -/
def Ground.devIn (A : Ground) (l : List Nat) : Bool := A.all fun e => Nat.ble 0x4100 e.block || e.addrs.all fun a => l.contains a

theorem Ground.covers_fits {A : Ground} {f : Fld} (h : A.covers f = true) : f.Fits := by
  simp only [Ground.covers, Bool.and_eq_true, Nat.ble_eq] at h
  exact h.1

theorem Ground.has_of_covers {A : Ground} {f : Fld} (h : A.covers f = true) {i : Nat} (hlo : f.lo ≤ i) (hhi : i < f.lo + f.wd) : A.has f.addr i = true := by
  simp only [Ground.covers, Bool.and_eq_true, List.any_eq_true, Spot.covers, Nat.ble_eq] at h
  obtain ⟨-, e, he, ⟨hat, h1⟩, h2⟩ := h
  simp only [Ground.has, List.any_eq_true, Spot.has, Bool.and_eq_true, Nat.ble_eq, Nat.blt_eq]
  exact ⟨e, he, ⟨hat, by omega⟩, by omega⟩

theorem Ground.has_of_misses {A : Ground} {f : Fld} (h : A.misses f = true) {i : Nat} (hlo : f.lo ≤ i) (hhi : i < f.lo + f.wd) : A.has f.addr i = false := by
  simp only [Ground.misses, List.all_eq_true, Spot.misses, Bool.or_eq_true, Bool.not_eq_true', Nat.ble_eq] at h
  simp only [Ground.has, List.any_eq_false, Spot.has, Bool.and_eq_true, Nat.ble_eq, Nat.blt_eq]
  rintro e he ⟨⟨hat, h1⟩, h2⟩
  obtain (h | h) | h := h e he
  · simp [hat] at h
  · omega
  · omega

theorem Ground.has_of_not_at {A : Ground} {a : Nat} (h : A.at a = false) (i : Nat) : A.has a i = false := by
  simp only [Ground.at, List.any_eq_false] at h
  simp only [Ground.has, List.any_eq_false, Spot.has, Bool.and_eq_true]
  exact fun e he hb => h e he hb.1.1

theorem Ground.at_dev {A : Ground} {l : List Nat} (h : A.devIn l = true) {a : Nat} (hdev : a < 0x04100000) (hl : a ∉ l) : A.at a = false := by
  simp only [Ground.devIn, List.all_eq_true, Bool.or_eq_true, Nat.ble_eq, List.contains_iff_mem] at h
  simp only [Ground.at, List.any_eq_false]
  intro e he hat
  rcases h e he with h | h
  · simp only [Spot.at, Bool.and_eq_true, Nat.ble_eq] at hat
    obtain ⟨⟨⟨⟨hlo, -⟩, -⟩, -⟩, -⟩ := hat
    omega
  · exact hl (h a (Spot.mem_addrs hat))

theorem Ground.at_out {A : Ground} {l : List Nat} (h : A.allIn l = true) {a : Nat} (hl : a ∉ l) : A.at a = false := by
  simp only [Ground.allIn, List.all_eq_true, List.contains_iff_mem] at h
  simp only [Ground.at, List.any_eq_false]
  exact fun e he hat => hl (h e he a (Spot.mem_addrs hat))

theorem Ground.has_of_under {A B : Ground} (h : A.under B = true) {a i : Nat} (ha : A.has a i = true) : B.has a i = true := by
  simp only [Ground.under, List.all_eq_true, List.any_eq_true] at h
  simp only [Ground.has, List.any_eq_true] at *
  obtain ⟨e, he, ha⟩ := ha
  obtain ⟨f, hf, hef⟩ := h e he
  exact ⟨f, hf, Spot.has_of_under hef ha⟩

/-! ## Changes inside a ground -/

/-- From one state to another, no register bit outside the ground has changed. -/
def State.Inside (A : Ground) (s t : State) : Prop := ∀ a i, A.has a i = false → (t.rd a).toNat.testBit i = (s.rd a).toNat.testBit i

section
variable {A B : Ground} {s t u : State}

theorem State.Inside.of_rd (h : ∀ a, t.rd a = s.rd a) : s.Inside A t := fun a _ _ => by rw [h]

theorem State.Inside.refl : s.Inside A s := .of_rd fun _ => rfl

theorem State.Inside.trans (h : s.Inside A t) (k : t.Inside A u) : s.Inside A u := fun a i ha => (k a i ha).trans (h a i ha)

theorem State.Inside.mono (h : s.Inside A t) (hB : A ⊆ B) : s.Inside B t := fun a i ha => h a i <| by
  simp only [Ground.has, List.any_eq_false] at *
  exact fun e he => ha e (hB he)

theorem State.Inside.under (h : s.Inside A t) (hB : A.under B = true) : s.Inside B t := fun a i ha => h a i <| by
  by_contra hA
  rw [Ground.has_of_under hB (Bool.of_not_eq_false hA)] at ha
  cases ha

theorem State.Inside.ite {c : Prop} [Decidable c] (h : s.Inside A t) (k : s.Inside A u) : s.Inside A (if c then t else u) := by
  split
  · exact h
  · exact k

theorem State.Inside.foldl {f : State → Nat → State} {l : List Nat} (h : ∀ t : State, ∀ n ∈ l, t.Inside A (f t n)) (s : State) : s.Inside A (l.foldl f s) := by
  induction l generalizing s with
  | nil => exact .refl
  | cons n l ih => exact (h s n List.mem_cons_self).trans (ih (fun t k hk => h t k (List.mem_cons_of_mem _ hk)) _)

theorem State.Inside.each {f : Nat → State → State} {l : List Nat} (h : ∀ t : State, ∀ n ∈ l, t.Inside A (f n t)) (s : State) : s.Inside A (each l f s) :=
  .foldl (f := fun s n => f n s) h s

theorem State.Inside.fld (h : s.Inside A t) {f : Fld} (hf : A.misses f = true) : t.fld f = s.fld f := by
  refine Nat.eq_of_testBit_eq fun i => ?_
  simp only [State.fld, bitsOf_testBit]
  by_cases hi : i < f.wd
  · rw [h _ _ (Ground.has_of_misses hf (by omega) (by omega))]
  · simp [hi]

theorem State.Inside.is (h : s.Inside A t) {f : Fld} (hf : A.misses f = true) : t.is f = s.is f := by
  unfold State.is
  rw [h.fld hf]

theorem State.Inside.rd (h : s.Inside A t) {a : Nat} (ha : A.at a = false) : t.rd a = s.rd a :=
  BitVec.eq_of_toNat_eq (Nat.eq_of_testBit_eq fun i => h a i (Ground.has_of_not_at ha i))

theorem State.Inside.only (h : s.Inside A t) {l : List Nat} (hl : A.allIn l = true) : s.Only l t := fun _ ha => h.rd (Ground.at_out hl ha)

theorem State.Inside.onlyDev (h : s.Inside A t) {l : List Nat} (hl : A.devIn l = true) : s.OnlyDev l t :=
  fun _ hdev ha => h.rd (Ground.at_dev hl hdev ha)

end

/-! ## The updates of registers -/

section
variable {A : Ground} (s : State)

theorem State.setFld_inside {f : Fld} (v : Nat) (h : A.covers f = true) : s.Inside A (s.setFld f v) := by
  intro a i ha
  by_cases e : a = f.addr
  · subst e
    rw [State.setFld, State.wr_rd_same, setBits_testBit _ _ _ _ _ (Ground.covers_fits h), if_neg]
    rintro ⟨hlo, hhi⟩
    rw [Ground.has_of_covers h hlo hhi] at ha
    cases ha
  · rw [State.setFld_rd_ne _ _ _ e]

theorem State.put_inside {f : Fld} (b : Bool) (h : A.covers f = true) : s.Inside A (s.put f b) := s.setFld_inside _ h
theorem State.bump_inside {f : Fld} (n : Nat) (h : A.covers f = true) : s.Inside A (s.bump f n) := s.setFld_inside _ h
theorem State.incr_inside {f : Fld} (h : A.covers f = true) : s.Inside A (s.incr f) := s.setFld_inside _ h

theorem State.setBit_inside {f : Fld} (i : Nat) (h : A.covers f = true) : s.Inside A (s.setBit f i) :=
  .ite .refl (s.setFld_inside _ h)

theorem State.wr_inside {a : Nat} (w : Word) (h : A.covers ⟨a, 0, 32⟩ = true) : s.Inside A (s.wr a w) := by
  intro b i hb
  by_cases e : b = a
  · subst e
    have hi : 32 ≤ i := by
      by_contra hi
      rw [Ground.has_of_covers h (Nat.zero_le _) (by simpa using hi)] at hb
      cases hb
    rw [Nat.testBit_eq_false_of_lt (lt_of_lt_of_le (BitVec.isLt _) (Nat.pow_le_pow_right (by decide) hi)),
      Nat.testBit_eq_false_of_lt (lt_of_lt_of_le (BitVec.isLt _) (Nat.pow_le_pow_right (by decide) hi))]
  · rw [State.wr_rd_ne _ _ e]

theorem State.onLane_inside (n : Nat) (f : Lane → Lane) : s.Inside A (s.onLane n f) := .of_rd fun _ => rfl

theorem State.line_inside (n i : Nat) (h : A.covers (F.LRX_SEQ_EVT_LINES n) = true) : s.Inside A (s.line n i) := .ite (s.setBit_inside _ h) .refl

theorem State.pairLine_inside (n i : Nat) (h : A.covers (F.LRX_SEQ_EVT_LINES (n % 8)) = true) (h' : A.covers (F.LRX_SEQ_EVT_LINES (n % 8 + 8)) = true) :
    s.Inside A (s.pairLine n i) := (s.line_inside _ _ h).trans (State.line_inside _ _ _ h')

end

end Sys2Proof.Machine
end

section
/-! SUPPORT. What bringing a line pair up to date changes (R96, R151, R189, R208): register bits inside a ground, the code monitors of its lanes, the waits of sequencers;
and the training state, codeword lock and acquisition state on top of it. -/

namespace Sys2Proof.Machine

/-! ## Parts beside the registers -/

/-- Two states that differ in the register map, the lanes, the sequencers and the events staged only. -/
def State.Beside (s t : State) : Prop := ∃ r l q g p, t = { s with regs := r, lanes := l, seqs := q, gpr := g, perf := { s.perf with part := p } }

/-- Two states that differ in the sequencers and the events staged only. -/
def State.OnCore (s t : State) : Prop := ∃ q g p, t = { s with seqs := q, gpr := g, perf := { s.perf with part := p } }

section
variable {s t u : State}

theorem State.Beside.refl : s.Beside s := ⟨_, _, _, _, _, rfl⟩

theorem State.Beside.trans (h : s.Beside t) (k : t.Beside u) : s.Beside u := by
  obtain ⟨_, _, _, _, _, rfl⟩ := h
  obtain ⟨_, _, _, _, _, rfl⟩ := k
  exact ⟨_, _, _, _, _, rfl⟩

theorem State.OnCore.refl : s.OnCore s := ⟨_, _, _, rfl⟩

theorem State.OnCore.trans (h : s.OnCore t) (k : t.OnCore u) : s.OnCore u := by
  obtain ⟨_, _, _, rfl⟩ := h
  obtain ⟨_, _, _, rfl⟩ := k
  exact ⟨_, _, _, rfl⟩

theorem State.OnCore.beside (h : s.OnCore t) : s.Beside t := by
  obtain ⟨_, _, _, rfl⟩ := h
  exact ⟨_, _, _, _, _, rfl⟩

theorem State.OnCore.rd (h : s.OnCore t) (a : Nat) : t.rd a = s.rd a := by
  obtain ⟨_, _, _, rfl⟩ := h
  rfl

theorem State.OnCore.lane (h : s.OnCore t) (k : Nat) : t.lane k = s.lane k := by
  obtain ⟨_, _, _, rfl⟩ := h
  rfl

theorem State.Beside.out (h : s.Beside t) : t.out = s.out := by
  obtain ⟨_, _, _, _, _, rfl⟩ := h
  rfl

theorem State.Beside.trans_eq (h : s.Beside t) : t.trans = s.trans := by
  obtain ⟨_, _, _, _, _, rfl⟩ := h
  rfl

theorem State.Beside.dorm (h : s.Beside t) : t.dorm = s.dorm := by
  obtain ⟨_, _, _, _, _, rfl⟩ := h
  rfl

theorem State.Beside.fab (h : s.Beside t) : t.fab = s.fab := by
  obtain ⟨_, _, _, _, _, rfl⟩ := h
  rfl

theorem State.Beside.clock (h : s.Beside t) : t.clock = s.clock := by
  obtain ⟨_, _, _, _, _, rfl⟩ := h
  rfl

theorem State.Beside.free (h : s.Beside t) : t.free = s.free := by
  obtain ⟨_, _, _, _, _, rfl⟩ := h
  rfl

theorem State.Beside.ladders (h : s.Beside t) : t.ladders = s.ladders := by
  obtain ⟨_, _, _, _, _, rfl⟩ := h
  rfl

theorem State.tally_onCore (s : State) (e : Event) : s.OnCore (s.tally e) := by
  obtain ⟨p, hp⟩ := State.tally_butCount s e
  exact ⟨_, _, _, hp⟩

end

/-! ## The wait of a CMT -/

theorem State.setLane_lane (s : State) (n k : Nat) (l : Lane) : (s.setLane n l).lane k = if k = n then l else s.lane k := tabGet_put ..

theorem State.onLane_lane (s : State) (n k : Nat) (f : Lane → Lane) : (s.onLane n f).lane k = if k = n then f (s.lane n) else s.lane k := s.setLane_lane ..

theorem State.cmtDone_onCore (s : State) (n d o : Nat) : s.OnCore (s.cmtDone n d o) := by
  have hg (t : State) : t.OnCore (t.setG n d (BitVec.ofNat 32 o)) := by
    unfold State.setG
    split
    · exact .refl
    · exact ⟨_, _, _, rfl⟩
  have hset (q : Seq) : s.OnCore (s.setSeq n q) := ⟨_, _, _, rfl⟩
  have hfail (t : State) : t.OnCore (if o = 0 then t else t.tally (.ofLane 9 n 1)) := by
    split
    · exact .refl
    · exact t.tally_onCore _
  exact ((hset _).trans (hg _)).trans ((hfail _).trans (State.tally_onCore _ _))

/-- A wait that completes because its boundaries have ceased or its lane pauses commits nothing: the bank stays. -/
theorem State.cmtCheck_onCore (s : State) (n : Nat) : s.OnCore (s.cmtCheck n) := by
  unfold State.cmtCheck State.cmtResolve
  split
  · exact .refl
  · next d grp hcmt =>
    by_cases hp : s.paused n = true
    · simpa [hp] using s.cmtDone_onCore n d 1
    · by_cases hg : (grp && !s.hasGroups n) = true
      · simpa [hp, hg] using s.cmtDone_onCore n d 2
      · simpa [hp, hg] using State.OnCore.refl

/-! ## Calm changes -/

/-- A change inside a ground which alters the lanes' structures only in what `c` forgets, and beside them sequencers and staged events. -/
structure State.Calm (A : Ground) (c : Lane → Lane) (s t : State) : Prop where
  inside : s.Inside A t
  lanes  : ∀ k, c (t.lane k) = c (s.lane k)
  beside : s.Beside t

section
variable {A B : Ground} {c c' : Lane → Lane} {s t u : State}

theorem State.Calm.refl : s.Calm A c s := ⟨.refl, fun _ => rfl, .refl⟩

theorem State.Calm.trans (h : s.Calm A c t) (k : t.Calm A c u) : s.Calm A c u :=
  ⟨h.inside.trans k.inside, fun i => (k.lanes i).trans (h.lanes i), h.beside.trans k.beside⟩

theorem State.Calm.mono (h : s.Calm A c t) (hB : A ⊆ B) (hc : ∀ l, c' (c l) = c' l) : s.Calm B c' t :=
  ⟨h.inside.mono hB, fun i => by rw [← hc, h.lanes i, hc], h.beside⟩

theorem State.Calm.widen (h : s.Calm A c t) (hB : A ⊆ B) : s.Calm B c t := ⟨h.inside.mono hB, h.lanes, h.beside⟩

theorem State.Calm.under (h : s.Calm A c t) (hB : A.under B = true) : s.Calm B c t := ⟨h.inside.under hB, h.lanes, h.beside⟩

theorem State.Calm.ite {p : Prop} [Decidable p] (h : s.Calm A c t) (k : s.Calm A c u) : s.Calm A c (if p then t else u) := by
  split
  · exact h
  · exact k

theorem State.Calm.foldl {f : State → Nat → State} {l : List Nat} (h : ∀ t : State, ∀ n ∈ l, t.Calm A c (f t n)) (s : State) : s.Calm A c (l.foldl f s) := by
  induction l generalizing s with
  | nil => exact .refl
  | cons n l ih => exact (h s n List.mem_cons_self).trans (ih (fun t k hk => h t k (List.mem_cons_of_mem _ hk)) _)

theorem State.Calm.each {f : Nat → State → State} {l : List Nat} (h : ∀ t : State, ∀ n ∈ l, t.Calm A c (f n t)) (s : State) : s.Calm A c (each l f s) :=
  .foldl (f := fun s n => f n s) h s

theorem State.OnCore.calm (h : s.OnCore t) : s.Calm A c t := ⟨.of_rd h.rd, fun k => by rw [h.lane], h.beside⟩

end

section
variable {A : Ground} {c : Lane → Lane} (s : State)

theorem State.setFld_calm {f : Fld} (v : Nat) (h : A.covers f = true) : s.Calm A c (s.setFld f v) :=
  ⟨s.setFld_inside v h, fun _ => rfl, ⟨_, _, _, _, _, rfl⟩⟩

theorem State.put_calm {f : Fld} (b : Bool) (h : A.covers f = true) : s.Calm A c (s.put f b) := s.setFld_calm _ h

theorem State.wr_calm {a : Nat} (w : Word) (h : A.covers ⟨a, 0, 32⟩ = true) : s.Calm A c (s.wr a w) :=
  ⟨s.wr_inside w h, fun _ => rfl, ⟨_, _, _, _, _, rfl⟩⟩

theorem State.setBit_calm {f : Fld} (i : Nat) (h : A.covers f = true) : s.Calm A c (s.setBit f i) := .ite .refl (s.setFld_calm _ h)

theorem State.line_calm (n i : Nat) (h : A.covers (F.LRX_SEQ_EVT_LINES n) = true) : s.Calm A c (s.line n i) := .ite (s.setBit_calm _ h) .refl

theorem State.onLane_calm (n : Nat) {f : Lane → Lane} (h : ∀ l, c (f l) = c l) : s.Calm A c (s.onLane n f) := by
  refine ⟨.of_rd fun _ => rfl, fun k => ?_, ⟨_, _, _, _, _, rfl⟩⟩
  rw [State.onLane_lane]
  split
  · next e => rw [h, e]
  · rfl

end

/-! ## A pair brought up to date -/

/-- The lane's structure without its code monitors. -/
def Lane.butUnits (l : Lane) : Lane := { l with rs := [], rsDone := (0, 0) }

/-- The fields that an aborted recalibration writes (R189). -/
def calGround : Ground := [.of 1 F.CAL_EVENT_ABORTED, .run 48 4 (F.CAL_LANE_STAT_STATE 0), .run 48 4 (F.CAL_LANE_STAT_LAST_PAUSE 0)]

/-- The event lines of every lane. -/
def lineGround : Ground := [.of 48 (F.LRX_SEQ_EVT_LINES 0)]

/-- The alignment of the code monitors. -/
def unitGround : Ground := [.of 16 (F.LRX_RS_STAT_ALIGNED 0 0), .of 16 (F.LRX_RS_STAT_ALIGNED 0 1)]

/-- What bringing a pair up to date writes. -/
def syncGround : Ground := .of 8 (F.LRX_STATUS_DATA 0) :: (unitGround ++ lineGround ++ calGround)

theorem lineGround_covers : ∀ n < 48, lineGround.covers (F.LRX_SEQ_EVT_LINES n) = true := by decide
theorem syncGround_lines : ∀ n < 48, syncGround.covers (F.LRX_SEQ_EVT_LINES n) = true := by decide
theorem syncGround_state : ∀ n < 48, syncGround.covers (F.CAL_LANE_STAT_STATE n) = true := by decide
theorem syncGround_pause : ∀ n < 48, syncGround.covers (F.CAL_LANE_STAT_LAST_PAUSE n) = true := by decide
theorem syncGround_unit : ∀ n < 16, ∀ u < 2, syncGround.covers (F.LRX_RS_STAT_ALIGNED n u) = true := by decide
theorem syncGround_data : ∀ n < 8, syncGround.covers (F.LRX_STATUS_DATA n) = true := by decide

theorem syncGround_dev : syncGround.devIn recalRegs = true := by decide

/-- The host lane that feeds or carries a slot is one of the sixteen of its direction. -/
theorem State.hostOf_bounds (s : State) (base slot : Nat) : base ≤ s.hostOf base slot ∧ s.hostOf base slot < base + 16 := by
  unfold State.hostOf
  split
  · next k hk =>
    have := List.mem_range.mp (List.mem_of_find?_eq_some hk)
    omega
  · omega

section
variable {c : Lane → Lane} (s : State)

theorem State.calAbort_calm {n : Nat} (hn : n < 48) : s.Calm syncGround c (s.calAbort n) := by
  unfold State.calAbort
  dsimp only
  refine .ite (.trans (.trans ?_ (State.setFld_calm _ _ (syncGround_state n hn))) (State.put_calm _ _ (by decide))) .refl
  exact .ite (.trans (s.setFld_calm _ (syncGround_pause n hn)) (State.line_calm _ _ _ (syncGround_lines n hn))) .refl

theorem State.calCheck_calm {n : Nat} (hn : n < 48) : s.Calm syncGround c (s.calCheck n) := .ite .refl (s.calAbort_calm hn)

theorem State.rsStart_calm {n u : Nat} (hn : n < 16) (hu : u < 2) (b : Bool) : s.Calm syncGround Lane.butUnits (s.rsStart n u b) :=
  (s.put_calm _ (syncGround_unit n hn u hu)).trans (State.onLane_calm _ _ fun _ => rfl)

theorem State.rsDrop_calm {base : Nat} (hbase : base ≤ 8) (slot : Nat) : s.Calm syncGround Lane.butUnits (s.rsDrop base slot) := by
  refine .each (fun t i hi => t.rsStart_calm ?_ (Nat.mod_lt _ (by decide)) false) s
  have := List.mem_range.mp (List.mem_of_mem_filter hi)
  omega

theorem State.syncPair_calm {n : Nat} (hn : n < 8) : s.Calm syncGround Lane.butUnits (s.syncPair n) := by
  unfold State.syncPair
  extract_lets dropped shown
  have hdropped : s.Calm syncGround Lane.butUnits dropped :=
    .ite ((s.rsDrop_calm (Nat.zero_le _) _).trans (State.rsDrop_calm _ (Nat.zero_le _) _)) .refl
  have hshown : s.Calm syncGround Lane.butUnits shown := hdropped.trans (dropped.put_calm _ (syncGround_data n hn))
  refine hshown.trans ?_
  refine .foldl (fun t k hk => (t.calCheck_calm ?_).trans (State.OnCore.calm (State.cmtCheck_onCore _ k))) shown
  have hhost := State.hostOf_bounds
  simp only [List.mem_cons, List.not_mem_nil, or_false] at hk
  rcases hk with rfl | rfl | rfl | rfl | rfl | rfl
  · omega
  · omega
  · exact lt_of_lt_of_le (hhost _ _ _).2 (by decide)
  · exact lt_of_lt_of_le (hhost _ _ _).2 (by decide)
  · exact lt_of_lt_of_le (hhost _ _ _).2 (by decide)
  · exact lt_of_lt_of_le (hhost _ _ _).2 (by decide)

end

end Sys2Proof.Machine
end

section
/-! SUPPORT. The training state, the codeword lock and the acquisition state of a line pair: what setting and stopping them changes. -/

namespace Sys2Proof.Machine

/-- The lane's structure without its code monitors, its codeword lock and its training. -/
def Lane.butTraining (l : Lane) : Lane :=
  { l.butUnits with okRun := 0, badRun := 0, lastReq := 0, heard := false, peerData := false, cdLeft := 0, last64 := [], group := [], dec := [], saver := 0 }

/-- The lane's structure without its codeword lock. -/
def Lane.butLock (l : Lane) : Lane := { l with last64 := [], group := [], dec := [], saver := 0 }

/-! ### Grounds -/

/-- The event lines of pair n. -/
def pairGround (n : Nat) : Ground := [.of 1 (F.LRX_SEQ_EVT_LINES n), .of 1 (F.LRX_SEQ_EVT_LINES (n + 8))]

/-- What setting the training state of pair n writes beside it. -/
def trnTail (n : Nat) : Ground := .of 1 (F.LRX_TRN_STAT_PEER_OK n) :: pairGround n

/-- What setting training states writes, beside bringing pairs up to date. -/
def trnGround : Ground := .of 8 (F.LRX_TRN_CTL_STATE 0) :: .of 8 (F.LRX_TRN_STAT_PEER_OK 0) :: syncGround

/-- The codeword locks' state. -/
def lockGround : Ground := [.of 8 ⟨R.LRX_CW_STAT 0, 0, 32⟩]

/-- What stopping the timers and data flags of training writes. -/
def timerGround : Ground := [.of 8 (F.LRX_TRN_STAT_ELAPSED 0), .of 8 (F.LRX_TRN_STAT_TIMER_RUN 0), .of 8 (F.LRX_TRN_STAT_RX_DATA 0), .of 8 (F.LRX_TRN_STAT_COUNTDOWN 0)]

/-- What stopping training writes. -/
def stopGround : Ground := .of 8 (F.LTX_CTL_SRC 8) :: (timerGround ++ lockGround ++ trnGround)

/-- What a change of the acquisition state writes beside it. -/
def acqTail : Ground :=
  .of 8 (F.LRX_STATUS_CDR_LOCK 0) :: .of 8 (F.LRX_ACQ_CMD_PROG_READY 0) :: .of 8 (F.LRX_ACQ_CMD_QUALIFIED 0) :: .of 8 (F.LRX_TRN_CTL_RX_READY 0) ::
    .of 8 (F.LRX_TRN_TXREQ_COEF_REQ 0) :: trnGround

def acqGround : Ground := .of 8 (F.LRX_STATUS_ACQ_STATE 0) :: acqTail

theorem syncGround_trn : syncGround ⊆ trnGround := List.subset_cons_of_subset _ (List.subset_cons_self _ _)
theorem lineGround_sync : lineGround ⊆ syncGround := by
  intro e he
  simp only [syncGround, List.mem_cons, List.mem_append, he, true_or, or_true]
theorem trnGround_stop : trnGround ⊆ stopGround := List.subset_cons_of_subset _ (List.subset_append_right _ _)
theorem timerGround_stop : timerGround ⊆ stopGround :=
  List.subset_cons_of_subset _ (List.Subset.trans (List.subset_append_left _ _) (List.subset_append_left _ _))
theorem lockGround_stop : lockGround ⊆ stopGround :=
  List.subset_cons_of_subset _ (List.Subset.trans (List.subset_append_right _ _) (List.subset_append_left _ _))
theorem trnGround_tail : trnGround ⊆ acqTail := by
  intro e he
  simp only [acqTail, List.mem_cons, he, or_true]
theorem acqTail_acq : acqTail ⊆ acqGround := List.subset_cons_self _ _

theorem trnTail_trn : ∀ n < 8, (trnTail n).under trnGround = true := by decide

theorem trnGround_dev : trnGround.devIn recalRegs = true := by decide
theorem stopGround_dev : stopGround.devIn recalRegs = true := by decide
theorem acqGround_dev : acqGround.devIn recalRegs = true := by decide

section
variable {A : Ground} {c : Lane → Lane} {n : Nat} (s : State)

/-! ### Training -/

theorem State.pairLine_calm (hn : n < 8) (i : Nat) : s.Calm (pairGround n) c (s.pairLine n i) := by
  unfold State.pairLine
  rw [Nat.mod_eq_of_lt hn]
  exact (s.line_calm _ i ((by decide : ∀ n < 8, (pairGround n).covers (F.LRX_SEQ_EVT_LINES n) = true) n hn)).trans
    (State.line_calm _ _ i ((by decide : ∀ n < 8, (pairGround n).covers (F.LRX_SEQ_EVT_LINES (n + 8)) = true) n hn))

/-- Setting the training state: the state, and with ALIGN and OFF the end of PEER_OK and of what it stood on. -/
theorem State.trnSet_calm (hn : n < 8) (st : Nat) : (s.setFld (F.LRX_TRN_CTL_STATE n) st).Calm (trnTail n) Lane.butTraining (s.trnSet n st) := by
  unfold State.trnSet
  extract_lets same set peer seen
  have hpeer : set.Calm (trnTail n) Lane.butTraining peer :=
    .ite ((set.put_calm _ ((by decide : ∀ n < 8, (trnTail n).covers (F.LRX_TRN_STAT_PEER_OK n) = true) n hn)).trans (State.onLane_calm _ _ fun _ => rfl)) .refl
  have hseen : peer.Calm (trnTail n) Lane.butTraining seen := .ite (peer.onLane_calm _ fun _ => rfl) .refl
  have hline : seen.Calm (trnTail n) Lane.butTraining (seen.pairLine n 10) := (seen.pairLine_calm hn 10).widen (List.subset_cons_self _ _)
  exact .ite (hpeer.trans hseen) ((hpeer.trans hseen).trans hline)

/-- Above ALIGN PEER_OK stays. -/
theorem State.trnSet_above (hn : n < 8) {st : Nat} (hst : 2 ≤ st) : (s.setFld (F.LRX_TRN_CTL_STATE n) st).Calm (pairGround n) c (s.trnSet n st) := by
  unfold State.trnSet
  extract_lets same set peer seen
  have hpeer : peer = set := if_neg (by omega)
  have hseen : seen = peer := if_neg (by omega)
  rw [hseen, hpeer]
  exact .ite .refl (set.pairLine_calm hn 10)

theorem State.trnSet_state (hn : n < 8) (st : Nat) : (s.trnSet n st).fld (F.LRX_TRN_CTL_STATE n) = st % 16 :=
  ((s.trnSet_calm hn st).inside.fld ((by decide : ∀ n < 8, (trnTail n).misses (F.LRX_TRN_CTL_STATE n) = true) n hn)).trans
    (s.setFld_fld_same _ _ (Fld.fits_of rfl))

theorem State.trnSet_trn (hn : n < 8) (st : Nat) : s.Calm trnGround Lane.butTraining (s.trnSet n st) :=
  (s.setFld_calm _ ((by decide : ∀ n < 8, trnGround.covers (F.LRX_TRN_CTL_STATE n) = true) n hn)).trans ((s.trnSet_calm hn st).under (trnTail_trn n hn))

theorem State.timerStop_calm (hn : n < 8) : s.Calm timerGround c (s.timerStop n) :=
  (s.setFld_calm _ ((by decide : ∀ n < 8, timerGround.covers (F.LRX_TRN_STAT_ELAPSED n) = true) n hn)).trans
    (State.put_calm _ _ ((by decide : ∀ n < 8, timerGround.covers (F.LRX_TRN_STAT_TIMER_RUN n) = true) n hn))

theorem State.timerStop_run (n : Nat) : (s.timerStop n).is (F.LRX_TRN_STAT_TIMER_RUN n) = false := State.put_is_same _ _ _ (Fld.fits_of rfl) rfl

/-! ### Codeword lock -/

theorem State.cwStop_calm (hn : n < 8) : s.Calm lockGround Lane.butLock (s.cwStop n) :=
  (s.wr_calm _ ((by decide : ∀ n < 8, lockGround.covers ⟨R.LRX_CW_STAT n, 0, 32⟩ = true) n hn)).trans (State.onLane_calm _ _ fun _ => rfl)

theorem State.cwHunt_calm (hn : n < 8) (off : Nat) : s.Calm lockGround Lane.butLock (s.cwHunt n off) := by
  unfold State.cwHunt
  extract_lets stopped
  have hstop : s.Calm lockGround Lane.butLock stopped := s.cwStop_calm hn
  exact .ite ((hstop.trans (stopped.put_calm _ ((by decide : ∀ n < 8, lockGround.covers (F.LRX_CW_STAT_HUNTING n) = true) n hn))).trans
    (State.setFld_calm _ _ ((by decide : ∀ n < 8, lockGround.covers (F.LRX_CW_STAT_OFFSET n) = true) n hn))) hstop

/-! ### Training stopped -/

/-- Training stopped up to the last step, which brings the pair up to date. -/
def State.trnEnded (s : State) (n : Nat) : State :=
  let s' := if s.is (F.LRX_TRN_STAT_RX_DATA n) then s.pairLine n 10 else s
  let s' := ((s'.timerStop n).put (F.LRX_TRN_STAT_RX_DATA n) false).setFld (F.LRX_TRN_STAT_COUNTDOWN n) 15
  let s' := ((s'.cwStop n).trnSet n 0).onLane n fun l => { l with okRun := 0, badRun := 0, peerData := false, cdLeft := 0 }
  if s.fld (F.LRX_TRN_CTL_STATE n) = 0 then s' else s'.setFld (F.LTX_CTL_SRC (n + 8)) 0

theorem State.trnStop_eq (n : Nat) : s.trnStop n = (s.trnEnded n).syncPair n := rfl

/-- The pair line of an RX_DATA that falls, the timer, RX_DATA and the countdown. -/
theorem State.trnEnded_calm (hn : n < 8) : s.Calm stopGround Lane.butTraining (s.trnEnded n) := by
  unfold State.trnEnded
  extract_lets told timed ended
  have htold : s.Calm stopGround Lane.butTraining told :=
    .ite ((s.pairLine_calm hn 10).under ((by decide : ∀ n < 8, (pairGround n).under stopGround = true) n hn)) .refl
  have htimed : told.Calm stopGround Lane.butTraining timed :=
    (((told.timerStop_calm hn).widen timerGround_stop).trans
      (State.put_calm _ _ ((by decide : ∀ n < 8, stopGround.covers (F.LRX_TRN_STAT_RX_DATA n) = true) n hn))).trans
      (State.setFld_calm _ _ ((by decide : ∀ n < 8, stopGround.covers (F.LRX_TRN_STAT_COUNTDOWN n) = true) n hn))
  have hended : timed.Calm stopGround Lane.butTraining ended :=
    (((timed.cwStop_calm hn).mono lockGround_stop fun _ => rfl).trans ((State.trnSet_trn _ hn 0).widen trnGround_stop)).trans (State.onLane_calm _ _ fun _ => rfl)
  exact .ite ((htold.trans htimed).trans hended)
    (((htold.trans htimed).trans hended).trans (ended.setFld_calm _ ((by decide : ∀ n < 8, stopGround.covers (F.LTX_CTL_SRC (n + 8)) = true) n hn)))

theorem State.trnStop_calm (hn : n < 8) : s.Calm stopGround Lane.butTraining (s.trnStop n) :=
  (s.trnEnded_calm hn).trans (((s.trnEnded n).syncPair_calm hn).mono (List.Subset.trans syncGround_trn trnGround_stop) fun _ => rfl)

theorem State.trnStop_state (hn : n < 8) : (s.trnStop n).fld (F.LRX_TRN_CTL_STATE n) = 0 := by
  rw [State.trnStop_eq, ((s.trnEnded n).syncPair_calm hn).inside.fld ((by decide : ∀ n < 8, syncGround.misses (F.LRX_TRN_CTL_STATE n) = true) n hn)]
  unfold State.trnEnded
  extract_lets told timed ended
  have hended : ended.fld (F.LRX_TRN_CTL_STATE n) = 0 := State.trnSet_state _ hn 0
  split
  · exact hended
  · rw [State.setFld_fld_apart _ (F.LTX_CTL_SRC (n + 8)) _ _ (Fld.fits_of rfl) ((by decide : ∀ n < 8, (F.LRX_TRN_CTL_STATE n).Apart (F.LTX_CTL_SRC (n + 8))) n hn), hended]

/-! ### Acquisition -/

theorem State.cdrDrop_calm (hn : n < 8) (hA : A.covers (F.LRX_STATUS_CDR_LOCK n) = true) (hl : A.covers (F.LRX_SEQ_EVT_LINES n) = true) : s.Calm A c (s.cdrDrop n) :=
  .ite ((s.put_calm _ hA).trans (State.line_calm _ _ _ hl)) .refl

theorem acqTail_lines : ∀ n < 8, acqTail.covers (F.LRX_SEQ_EVT_LINES n) = true := by decide

/-- A change of the acquisition state: the state, and what follows from it. -/
theorem State.lrxSet_calm (hn : n < 8) {st : Nat} (h : s.fld (F.LRX_STATUS_ACQ_STATE n) ≠ st) :
    (s.setFld (F.LRX_STATUS_ACQ_STATE n) st).Calm acqTail Lane.butTraining (s.lrxSet n st) := by
  unfold State.lrxSet
  extract_lets old set dropped ready qualified t aligned
  rw [if_neg h]
  have hset : (s.setFld (F.LRX_STATUS_ACQ_STATE n) st).Calm acqTail Lane.butTraining set := State.line_calm _ _ _ (acqTail_lines n hn)
  have hdropped : set.Calm acqTail Lane.butTraining dropped :=
    .ite (set.cdrDrop_calm hn ((by decide : ∀ n < 8, acqTail.covers (F.LRX_STATUS_CDR_LOCK n) = true) n hn) (acqTail_lines n hn)) .refl
  have hready : dropped.Calm acqTail Lane.butTraining ready :=
    .ite (dropped.put_calm _ ((by decide : ∀ n < 8, acqTail.covers (F.LRX_ACQ_CMD_PROG_READY n) = true) n hn)) .refl
  have hqualified : ready.Calm acqTail Lane.butTraining qualified :=
    .ite (ready.put_calm _ ((by decide : ∀ n < 8, acqTail.covers (F.LRX_ACQ_CMD_QUALIFIED n) = true) n hn)) .refl
  have haligned : qualified.Calm acqTail Lane.butTraining aligned :=
    .ite (((qualified.put_calm _ ((by decide : ∀ n < 8, acqTail.covers (F.LRX_TRN_CTL_RX_READY n) = true) n hn)).trans
      (State.setFld_calm _ _ ((by decide : ∀ n < 8, acqTail.covers (F.LRX_TRN_TXREQ_COEF_REQ n) = true) n hn))).trans
      ((State.trnSet_trn _ hn 1).widen trnGround_tail)) .refl
  have hsync : aligned.Calm acqTail Lane.butTraining (aligned.syncPair n) :=
    (aligned.syncPair_calm hn).mono (List.Subset.trans syncGround_trn trnGround_tail) fun _ => rfl
  exact ((((hset.trans hdropped).trans hready).trans hqualified).trans haligned).trans hsync

theorem State.lrxSet_same {st : Nat} (h : s.fld (F.LRX_STATUS_ACQ_STATE n) = st) : s.lrxSet n st = s := if_pos h

theorem State.lrxSet_acq (hn : n < 8) (st : Nat) : s.Calm acqGround Lane.butTraining (s.lrxSet n st) := by
  by_cases h : s.fld (F.LRX_STATUS_ACQ_STATE n) = st
  · rw [s.lrxSet_same h]
    exact .refl
  · exact (s.setFld_calm _ ((by decide : ∀ n < 8, acqGround.covers (F.LRX_STATUS_ACQ_STATE n) = true) n hn)).trans ((s.lrxSet_calm hn h).widen acqTail_acq)

theorem State.lrxSet_state (hn : n < 8) {st : Nat} (hst : st < 8) : (s.lrxSet n st).fld (F.LRX_STATUS_ACQ_STATE n) = st := by
  by_cases h : s.fld (F.LRX_STATUS_ACQ_STATE n) = st
  · rw [s.lrxSet_same h, h]
  · rw [(s.lrxSet_calm hn h).inside.fld ((by decide : ∀ n < 8, acqTail.misses (F.LRX_STATUS_ACQ_STATE n) = true) n hn),
      s.setFld_fld_same _ _ (Fld.fits_of rfl)]
    exact Nat.mod_eq_of_lt hst

end

end Sys2Proof.Machine
end

section
/-! SUPPORT. The program's writes of the training control register and the partner's data start (R162, R167, R170, R172). -/

namespace Sys2Proof.Machine

theorem State.fld_eq_b2n (s : State) {f : Fld} (h : f.wd = 1) : s.fld f = b2n (s.is f) := by
  have hlt := s.fld_lt_two h
  rcases (by omega : s.fld f = 0 ∨ s.fld f = 1) with e | e <;> simp [State.is, e, b2n]

theorem State.put_lane (s : State) (f : Fld) (b : Bool) (k : Nat) : (s.put f b).lane k = s.lane k := rfl

theorem State.put_beside (s : State) (f : Fld) (b : Bool) : s.Beside (s.put f b) := ⟨_, _, _, _, _, rfl⟩

theorem State.Apart.lane {s t : State} (h : s.Apart t) (k : Nat) : t.lane k = s.lane k := by
  obtain ⟨_, _, _, rfl⟩ := h
  rfl

/-- A register as one field. -/
def Fld.reg (a : Nat) : Fld := ⟨a, 0, 32⟩

/-- What the program's writes of TRN_CTL change beside its words: the control register of pair n and its event lines. -/
def ctlGround (n : Nat) : Ground := .of 1 (.reg (R.LRX_TRN_CTL n)) :: pairGround n

/-- The same, and the control registers of the two lanes, which a handover writes. -/
def precodeGround (n : Nat) : Ground := .of 1 (.reg (R.LTX_CTL (n + 8))) :: .of 1 (.reg (R.LRX_CTL n)) :: ctlGround n

theorem pairGround_ctl (n : Nat) : pairGround n ⊆ ctlGround n := List.subset_cons_self _ _
theorem ctlGround_state : ∀ n < 8, (ctlGround n).covers (F.LRX_TRN_CTL_STATE n) = true := by decide
theorem ctlGround_ready : ∀ n < 8, (ctlGround n).covers (F.LRX_TRN_CTL_RX_READY n) = true := by decide

section
variable {n : Nat} (s : State)

/-! ### A write without action bits -/

theorem State.trnCtl_program (n : Nat) {v : Word} (h : bitsOf v.toNat 5 3 = 0) :
    s.trnCtl n v = ((s.put (F.LRX_TRN_CTL_RX_READY n) (bitAt v.toNat 4)).trnProgram n (bitsOf v.toNat 0 4), .ok) := by
  have h5 : bitAt v.toNat 5 = false := by
    simp only [bitsOf, bitAt, beq_eq_false_iff_ne] at h ⊢
    omega
  have h6 : bitAt v.toNat 6 = false := by
    simp only [bitsOf, bitAt, beq_eq_false_iff_ne] at h ⊢
    omega
  have h7 : bitAt v.toNat 7 = false := by
    simp only [bitsOf, bitAt, beq_eq_false_iff_ne] at h ⊢
    omega
  simp [State.trnCtl, h5, h6, h7]

/-- Setting a state above ALIGN after a change of the control register: that register and the event lines. -/
theorem State.trnSet_ctl {c : Lane → Lane} (hn : n < 8) {st : Nat} (hst : 2 ≤ st) : s.Calm (ctlGround n) c (s.trnSet n st) :=
  (s.setFld_calm _ (ctlGround_state n hn)).trans ((s.trnSet_above hn hst).widen (pairGround_ctl n))

/-- The RX_READY that a state above ALIGN leaves. -/
theorem State.trnSet_ready (hn : n < 8) (st : Nat) : (s.trnSet n st).fld (F.LRX_TRN_CTL_RX_READY n) = s.fld (F.LRX_TRN_CTL_RX_READY n) :=
  ((s.trnSet_calm hn st).inside.fld ((by decide : ∀ n < 8, (trnTail n).misses (F.LRX_TRN_CTL_RX_READY n) = true) n hn)).trans
    (s.setFld_fld_apart _ _ _ (Fld.fits_of rfl) ((by decide : ∀ n < 8, (F.LRX_TRN_CTL_RX_READY n).Apart (F.LRX_TRN_CTL_STATE n)) n hn))

theorem State.putReady_ready (n : Nat) (b : Bool) : (s.put (F.LRX_TRN_CTL_RX_READY n) b).fld (F.LRX_TRN_CTL_RX_READY n) = b2n b := by
  rw [State.fld_eq_b2n _ rfl, State.put_is_same _ _ _ (Fld.fits_of rfl) rfl]

theorem State.putReady_state (hn : n < 8) (b : Bool) :
    (s.put (F.LRX_TRN_CTL_RX_READY n) b).fld (F.LRX_TRN_CTL_STATE n) = s.fld (F.LRX_TRN_CTL_STATE n) :=
  s.setFld_fld_apart _ _ _ (Fld.fits_of rfl) ((by decide : ∀ n < 8, (F.LRX_TRN_CTL_STATE n).Apart (F.LRX_TRN_CTL_RX_READY n)) n hn)

theorem State.putReady_acq (hn : n < 8) (b : Bool) :
    (s.put (F.LRX_TRN_CTL_RX_READY n) b).fld (F.LRX_STATUS_ACQ_STATE n) = s.fld (F.LRX_STATUS_ACQ_STATE n) :=
  s.setFld_fld_apart _ _ _ (Fld.fits_of rfl) ((by decide : ∀ n < 8, (F.LRX_STATUS_ACQ_STATE n).Apart (F.LRX_TRN_CTL_RX_READY n)) n hn)

/-- ALIGN forgets the partner: PEER_OK is 0 and no frame counts as heard. -/
theorem State.trnSet_align (hn : n < 8) : (s.trnSet n 1).is (F.LRX_TRN_STAT_PEER_OK n) = false ∧ ((s.trnSet n 1).lane n).heard = false := by
  unfold State.trnSet
  extract_lets same set peer seen
  have hpeer : peer.is (F.LRX_TRN_STAT_PEER_OK n) = false := by
    rw [show peer = (set.put (F.LRX_TRN_STAT_PEER_OK n) false).onLane n fun l => { l with okRun := 0 } from if_pos (.inr rfl), State.onLane_is]
    exact set.put_is_same _ _ (Fld.fits_of rfl) rfl
  have hseen : (seen.lane n).heard = false := by
    rw [show seen = peer.onLane n fun l => { l with lastReq := 0, heard := false } from if_pos rfl, State.onLane_lane, if_pos rfl]
  have hkept : seen.is (F.LRX_TRN_STAT_PEER_OK n) = peer.is (F.LRX_TRN_STAT_PEER_OK n) := by
    rw [show seen = peer.onLane n fun l => { l with lastReq := 0, heard := false } from if_pos rfl, State.onLane_is]
  have hline : seen.Calm (pairGround n) id (seen.pairLine n 10) := seen.pairLine_calm hn 10
  split
  · exact ⟨hkept.trans hpeer, hseen⟩
  · exact ⟨(hline.inside.is ((by decide : ∀ n < 8, (pairGround n).misses (F.LRX_TRN_STAT_PEER_OK n) = true) n hn)).trans (hkept.trans hpeer),
      (congrArg Lane.heard (hline.lanes n)).trans hseen⟩

end

section
variable (m : Master) (n : Fin 8) (v : Word) (s : State)

/-- A write of TRN_CTL without action bits completes with what the program's STATE leads to. -/
theorem program_completes {q : State → Prop} (h : s.Reached m (R.LRX_TRN_CTL n)) (hv : bitsOf v.toNat 5 3 = 0)
    (k : ∀ t, ((s.put (F.LRX_TRN_CTL_RX_READY n) (bitAt v.toNat 4)).trnProgram n (bitsOf v.toNat 0 4)).Apart t →
      t.out = .response m 0 0 :: ((s.put (F.LRX_TRN_CTL_RX_READY n) (bitAt v.toNat 4)).trnProgram n (bitsOf v.toNat 0 4)).out → q t) :
    Completes (.trnStateWrite m n v) s q := by
  refine via_completes (f := fun s => s.trnCtl n v) rfl h fun t ht hout => ?_
  rw [s.trnCtl_program n hv] at ht hout
  exact k t ht hout

theorem tune_begins (h : s.Reached m (R.LRX_TRN_CTL n)) (hwant : bitsOf v.toNat 0 4 = 2) (hv : bitsOf v.toNat 5 3 = 0)
    (hst : s.fld (F.LRX_TRN_CTL_STATE n) = 1) (hacq : s.fld (F.LRX_STATUS_ACQ_STATE n) = 6) (hheard : (s.lane n).heard = true) :
    Completes (.trnStateWrite m n v) s fun t => s.Answered m 0 t ∧ t.fld (F.LRX_TRN_CTL_STATE n) = 2 ∧ t.fld (F.LRX_TRN_TXREQ_REQ_SEQ n) = 0 ∧
      t.fld (F.LRX_TRN_CTL_RX_READY n) = b2n (bitAt v.toNat 4) ∧
      s.Only [R.LRX_TRN_CTL n, R.LRX_TRN_TXREQ n, R.LRX_SEQ_EVT n, R.LTX_SEQ_EVT (8 + n)] t := by
  refine program_completes m n v s h hv fun t ht hout => ?_
  have hready := s.putReady_ready n (bitAt v.toNat 4)
  have hstate := s.putReady_state n.isLt (bitAt v.toNat 4)
  have hseen := s.putReady_acq n.isLt (bitAt v.toNat 4)
  have hcalm : s.Calm (ctlGround n) id (s.put (F.LRX_TRN_CTL_RX_READY n) (bitAt v.toNat 4)) := s.put_calm _ (ctlGround_ready n n.isLt)
  generalize s.put (F.LRX_TRN_CTL_RX_READY n) (bitAt v.toNat 4) = u at *
  have hlane : u.lane n = s.lane n := hcalm.lanes n
  have hrun : u.trnProgram n (bitsOf v.toNat 0 4) = (u.setFld (F.LRX_TRN_TXREQ_REQ_SEQ n) 0).trnSet n 2 := by
    unfold State.trnProgram
    simp [hwant, hstate, hst, hseen, hacq, hlane, hheard]
  rw [hrun] at ht hout
  have hset : (u.setFld (F.LRX_TRN_TXREQ_REQ_SEQ n) 0).Calm (ctlGround n) id ((u.setFld (F.LRX_TRN_TXREQ_REQ_SEQ n) 0).trnSet n 2) :=
    State.trnSet_ctl _ n.isLt (le_refl 2)
  refine ⟨?_, ?_, ?_, ?_, fun a ha => ?_⟩
  · rw [State.Answered, hout, hset.beside.out, State.setFld_out, hcalm.beside.out]
  · rw [ht.fld, State.trnSet_state _ n.isLt]
  · rw [ht.fld, hset.inside.fld ((by decide : ∀ n < 8, (ctlGround n).misses (F.LRX_TRN_TXREQ_REQ_SEQ n) = true) n n.isLt),
      State.setFld_fld_same _ _ _ (Fld.fits_of rfl)]
    rfl
  · rw [ht.fld, State.trnSet_ready _ n.isLt,
      State.setFld_fld_apart _ _ _ _ (Fld.fits_of rfl) ((by decide : ∀ n < 8, (F.LRX_TRN_CTL_RX_READY n).Apart (F.LRX_TRN_TXREQ_REQ_SEQ n)) n n.isLt), hready]
  · have hreq : u.Inside (.of 1 (.reg (R.LRX_TRN_TXREQ n)) :: ctlGround n) (u.setFld (F.LRX_TRN_TXREQ_REQ_SEQ n) 0) :=
      u.setFld_inside _ ((by decide : ∀ n < 8, Ground.covers (.of 1 (.reg (R.LRX_TRN_TXREQ n)) :: ctlGround n) (F.LRX_TRN_TXREQ_REQ_SEQ n) = true) n n.isLt)
    have hall := ((hcalm.inside.mono (List.subset_cons_self _ _)).trans hreq).trans (hset.inside.mono (List.subset_cons_self _ _))
    exact (ht.rd a).trans (hall.only ((by decide : ∀ n < 8, Ground.allIn (.of 1 (.reg (R.LRX_TRN_TXREQ n)) :: ctlGround n)
      [R.LRX_TRN_CTL n, R.LRX_TRN_TXREQ n, R.LRX_SEQ_EVT n, R.LTX_SEQ_EVT (8 + n)] = true) n n.isLt) a ha)

theorem ready_begins (h : s.Reached m (R.LRX_TRN_CTL n)) (hwant : bitsOf v.toNat 0 4 = 3) (hv : bitsOf v.toNat 5 3 = 0)
    (hst : s.fld (F.LRX_TRN_CTL_STATE n) = 2) :
    Completes (.trnStateWrite m n v) s fun t => s.Answered m 0 t ∧ t.fld (F.LRX_TRN_CTL_STATE n) = 3 ∧ t.is (F.LRX_TRN_CTL_RX_READY n) = true ∧
      s.Only [R.LRX_TRN_CTL n, R.LRX_SEQ_EVT n, R.LTX_SEQ_EVT (8 + n)] t := by
  refine program_completes m n v s h hv fun t ht hout => ?_
  have hstate := s.putReady_state n.isLt (bitAt v.toNat 4)
  have hcalm : s.Calm (ctlGround n) id (s.put (F.LRX_TRN_CTL_RX_READY n) (bitAt v.toNat 4)) := s.put_calm _ (ctlGround_ready n n.isLt)
  generalize s.put (F.LRX_TRN_CTL_RX_READY n) (bitAt v.toNat 4) = u at *
  have hrun : u.trnProgram n (bitsOf v.toNat 0 4) = (u.put (F.LRX_TRN_CTL_RX_READY n) true).trnSet n 3 := by
    unfold State.trnProgram
    simp [hwant, hstate, hst]
  rw [hrun] at ht hout
  have hready := u.putReady_ready n true
  have hput : u.Calm (ctlGround n) id (u.put (F.LRX_TRN_CTL_RX_READY n) true) := u.put_calm _ (ctlGround_ready n n.isLt)
  generalize u.put (F.LRX_TRN_CTL_RX_READY n) true = w at *
  have hall := (hcalm.trans hput).trans (w.trnSet_ctl n.isLt (by decide : 2 ≤ 3))
  refine ⟨by rw [State.Answered, hout, hall.beside.out], ?_, ?_, fun a ha => ?_⟩
  · rw [ht.fld, State.trnSet_state _ n.isLt]
  · rw [ht.is, State.is, State.trnSet_ready _ n.isLt, hready]
    rfl
  · exact (ht.rd a).trans (hall.inside.only ((by decide : ∀ n < 8, (ctlGround n).allIn [R.LRX_TRN_CTL n, R.LRX_SEQ_EVT n, R.LTX_SEQ_EVT (8 + n)] = true) n n.isLt) a ha)

theorem align_returns (h : s.Reached m (R.LRX_TRN_CTL n)) (hwant : bitsOf v.toNat 0 4 = 1) (hv : bitsOf v.toNat 5 3 = 0)
    (hst : s.fld (F.LRX_TRN_CTL_STATE n) = 2 ∨ s.fld (F.LRX_TRN_CTL_STATE n) = 3) :
    Completes (.trnStateWrite m n v) s fun t => s.Answered m 0 t ∧ t.fld (F.LRX_TRN_CTL_STATE n) = 1 ∧ t.is (F.LRX_TRN_STAT_PEER_OK n) = false ∧
      (t.lane n).heard = false ∧ t.fld (F.LRX_TRN_CTL_RX_READY n) = b2n (bitAt v.toNat 4) ∧
      s.Only [R.LRX_TRN_CTL n, R.LRX_TRN_STAT n, R.LRX_SEQ_EVT n, R.LTX_SEQ_EVT (8 + n)] t := by
  refine program_completes m n v s h hv fun t ht hout => ?_
  have hready := s.putReady_ready n (bitAt v.toNat 4)
  have hstate := s.putReady_state n.isLt (bitAt v.toNat 4)
  have hcalm : s.Calm (.of 1 (.reg (R.LRX_TRN_CTL n)) :: trnTail n) Lane.butTraining (s.put (F.LRX_TRN_CTL_RX_READY n) (bitAt v.toNat 4)) :=
    s.put_calm _ ((by decide : ∀ n < 8, Ground.covers (.of 1 (.reg (R.LRX_TRN_CTL n)) :: trnTail n) (F.LRX_TRN_CTL_RX_READY n) = true) n n.isLt)
  generalize s.put (F.LRX_TRN_CTL_RX_READY n) (bitAt v.toNat 4) = u at *
  have hrun : u.trnProgram n (bitsOf v.toNat 0 4) = u.trnSet n 1 := by
    unfold State.trnProgram
    simp [hwant, hstate, hst]
  rw [hrun] at ht hout
  have hset : u.Calm (.of 1 (.reg (R.LRX_TRN_CTL n)) :: trnTail n) Lane.butTraining (u.trnSet n 1) :=
    (u.setFld_calm _ ((by decide : ∀ n < 8, Ground.covers (.of 1 (.reg (R.LRX_TRN_CTL n)) :: trnTail n) (F.LRX_TRN_CTL_STATE n) = true) n n.isLt)).trans
      ((u.trnSet_calm n.isLt 1).widen (List.subset_cons_self _ _))
  have hall := hcalm.trans hset
  obtain ⟨hpeer, hheard⟩ := u.trnSet_align n.isLt
  refine ⟨by rw [State.Answered, hout, hall.beside.out], ?_, ?_, ?_, ?_, fun a ha => ?_⟩
  · rw [ht.fld, State.trnSet_state _ n.isLt]
  · rw [ht.is, hpeer]
  · rw [ht.lane, hheard]
  · rw [ht.fld, State.trnSet_ready _ n.isLt, hready]
  · exact (ht.rd a).trans (hall.inside.only ((by decide : ∀ n < 8, Ground.allIn (.of 1 (.reg (R.LRX_TRN_CTL n)) :: trnTail n)
      [R.LRX_TRN_CTL n, R.LRX_TRN_STAT n, R.LRX_SEQ_EVT n, R.LTX_SEQ_EVT (8 + n)] = true) n n.isLt) a ha)

theorem program_refused (h : s.Reached m (R.LRX_TRN_CTL n)) (hv : bitsOf v.toNat 5 3 = 0)
    (h1 : bitsOf v.toNat 0 4 ≠ 1 ∨ (s.fld (F.LRX_TRN_CTL_STATE n) ≠ 2 ∧ s.fld (F.LRX_TRN_CTL_STATE n) ≠ 3))
    (h2 : bitsOf v.toNat 0 4 ≠ 2 ∨ s.fld (F.LRX_TRN_CTL_STATE n) ≠ 1 ∨ s.fld (F.LRX_STATUS_ACQ_STATE n) ≠ 6 ∨ (s.lane n).heard = false)
    (h3 : bitsOf v.toNat 0 4 ≠ 3 ∨ s.fld (F.LRX_TRN_CTL_STATE n) ≠ 2) :
    Completes (.trnStateWrite m n v) s fun t => s.Answered m 0 t ∧ t.fld (F.LRX_TRN_CTL_STATE n) = s.fld (F.LRX_TRN_CTL_STATE n) ∧
      t.fld (F.LRX_TRN_CTL_RX_READY n) = b2n (bitAt v.toNat 4) ∧ s.Only [R.LRX_TRN_CTL n] t := by
  refine program_completes m n v s h hv fun t ht hout => ?_
  have hready := s.putReady_ready n (bitAt v.toNat 4)
  have hstate := s.putReady_state n.isLt (bitAt v.toNat 4)
  have hseen := s.putReady_acq n.isLt (bitAt v.toNat 4)
  have hcalm : s.Calm [.of 1 (.reg (R.LRX_TRN_CTL n))] id (s.put (F.LRX_TRN_CTL_RX_READY n) (bitAt v.toNat 4)) :=
    s.put_calm _ ((by decide : ∀ n < 8, Ground.covers [.of 1 (.reg (R.LRX_TRN_CTL n))] (F.LRX_TRN_CTL_RX_READY n) = true) n n.isLt)
  generalize s.put (F.LRX_TRN_CTL_RX_READY n) (bitAt v.toNat 4) = u at *
  have hlane : u.lane n = s.lane n := hcalm.lanes n
  have hrun : u.trnProgram n (bitsOf v.toNat 0 4) = u := by
    unfold State.trnProgram
    rw [hstate, hseen, hlane, if_neg, if_neg, if_neg]
    · exact fun ⟨hw, hs⟩ => h3.elim (· hw) (· hs)
    · rintro ⟨hw, hs, ha, hh⟩
      rcases h2 with h2 | h2 | h2 | h2
      · exact h2 hw
      · exact h2 hs
      · exact h2 ha
      · rw [hh] at h2
        cases h2
    · exact fun ⟨hw, hs⟩ => h1.elim (· hw) fun k => hs.elim k.1 k.2
  rw [hrun] at ht hout
  refine ⟨by rw [State.Answered, hout, hcalm.beside.out], ?_, ?_, fun a ha => ?_⟩
  · rw [ht.fld, hstate]
  · rw [ht.fld, hready]
  · exact (ht.rd a).trans (hcalm.inside.only ((by decide : ∀ n < 8, Ground.allIn [.of 1 (.reg (R.LRX_TRN_CTL n))] [R.LRX_TRN_CTL n] = true) n n.isLt) a ha)

end

/-! ### The action bits -/

section
variable {n : Nat} (s : State)

/-- The word of an action: STATE and RX_READY as they stand, and one of the bits 5 to 7. -/
def actWord (st r b : Nat) : Nat := st + 16 * (r + 2 * 2 ^ b)

theorem actWord_toNat {st r b : Nat} (hst : st < 16) (hr : r < 2) (hb : b < 3) : (BitVec.ofNat 32 (st + 16 * r + 2 ^ (5 + b))).toNat = actWord st r b := by
  have hp : 2 ^ b ≤ 4 := Nat.pow_le_pow_right (n := 2) (by decide) (by omega : b ≤ 2)
  rw [BitVec.toNat_ofNat, Nat.pow_add, actWord]
  omega

theorem actWord_state {st r b : Nat} (hst : st < 16) : bitsOf (actWord st r b) 0 4 = st := by
  unfold bitsOf actWord
  omega

theorem actWord_ready {st r b : Nat} (hst : st < 16) (hr : r < 2) : b2n (bitAt (actWord st r b) 4) = r := by
  have h : actWord st r b / 2 ^ 4 % 2 = r := by
    unfold actWord
    omega
  rw [bitAt, h]
  rcases (by omega : r = 0 ∨ r = 1) with rfl | rfl <;> rfl

theorem actWord_action {st r b : Nat} (hst : st < 16) (hr : r < 2) : ∀ i < 3, bitAt (actWord st r b) (5 + i) = bitAt (2 ^ b) i := by
  intro i hi
  have h : actWord st r b / 2 ^ 5 = 2 ^ b := by
    unfold actWord
    omega
  unfold bitAt
  rw [Nat.pow_add, ← Nat.div_div_eq_div_mul, h]

theorem action_bit : ∀ b < 3, bitAt (2 ^ b) 0 = decide (b = 0) ∧ bitAt (2 ^ b) 1 = decide (b = 1) ∧ bitAt (2 ^ b) 2 = decide (b = 2) := by decide

/-- The state in force written again is no change of state. -/
theorem State.trnProgram_same (n : Nat) : s.trnProgram n (s.fld (F.LRX_TRN_CTL_STATE n)) = s := by
  unfold State.trnProgram
  rw [if_neg (by omega), if_neg (by omega), if_neg (by omega)]

/-- RX_READY written as it stands. -/
def State.readyAgain (s : State) (n : Nat) : State := s.put (F.LRX_TRN_CTL_RX_READY n) (s.is (F.LRX_TRN_CTL_RX_READY n))

theorem State.readyAgain_rd (n a : Nat) : (s.readyAgain n).rd a = s.rd a := s.put_self_rd _ (Fld.fits_of rfl) rfl a

theorem State.readyAgain_calm {A : Ground} {c : Lane → Lane} (n : Nat) : s.Calm A c (s.readyAgain n) :=
  ⟨.of_rd (s.readyAgain_rd n), fun k => congrArg c (s.put_lane _ _ k), s.put_beside _ _⟩

theorem State.trnAct_eq (n : Nat) {b : Nat} (hb : b < 3) :
    s.trnAct n (2 ^ (5 + b)) =
      let s := s.readyAgain n
      let s := if b = 2 then s.put (F.LRX_TRN_EVENT_ACK_TIMEOUT n) true else s
      let s := if b = 0 then s.handover n else s
      (if b = 1 then s.trnWake n else s, .ok) := by
  have hst : s.fld (F.LRX_TRN_CTL_STATE n) < 16 := bitsOf_lt _ _ _
  have hr : s.fld (F.LRX_TRN_CTL_RX_READY n) < 2 := s.fld_lt_two rfl
  obtain ⟨h5, h6, h7⟩ := action_bit b hb
  rw [← actWord_action hst hr _ (by decide)] at h5 h6 h7
  have hbit (x : Bool) (h : b2n x = s.fld (F.LRX_TRN_CTL_RX_READY n)) : x = s.is (F.LRX_TRN_CTL_RX_READY n) := by
    unfold State.is
    rw [← h]
    cases x <;> rfl
  have hsame := (s.readyAgain n).trnProgram_same n
  rw [State.fld, s.readyAgain_rd] at hsame
  unfold State.trnAct State.trnCtl
  rw [actWord_toNat hst hr hb, hbit _ (actWord_ready hst hr), actWord_state hst, h5, h6, h7]
  simp only [decide_eq_true_eq]
  exact congrArg (fun s : State => let s := if b = 2 then s.put (F.LRX_TRN_EVENT_ACK_TIMEOUT n) true else s
      let s := if b = 0 then s.handover n else s
      ((if b = 1 then s.trnWake n else s, .ok) : State × Resp)) hsame

theorem State.trnAct_handover (n : Nat) : s.trnAct n 0x20 = ((s.readyAgain n).handover n, .ok) := by
  have h := s.trnAct_eq n (by decide : 0 < 3)
  simpa using h

theorem State.trnAct_ack (n : Nat) : s.trnAct n 0x80 = ((s.readyAgain n).put (F.LRX_TRN_EVENT_ACK_TIMEOUT n) true, .ok) := by
  have h := s.trnAct_eq n (by decide : 2 < 3)
  simpa using h

end

section
variable (m : Master) (n : Fin 8) (s : State)

/-- An action of TRN_CTL completes with what its bit does. -/
theorem action_completes {c : Instr} {q : State → Prop} {bits : Nat} (e : exec c s = done (s.via (R.LRX_TRN_CTL n) m fun s => s.trnAct n bits))
    (h : s.Reached m (R.LRX_TRN_CTL n)) {u : State} (hu : s.trnAct n bits = (u, .ok))
    (k : ∀ t, u.Apart t → t.out = .response m 0 0 :: u.out → q t) : Completes c s q := by
  refine via_completes e h fun t ht hout => ?_
  rw [hu] at ht hout
  exact k t ht hout

theorem countdown_begins (h : s.Reached m (R.LRX_TRN_CTL n)) (hst : s.fld (F.LRX_TRN_CTL_STATE n) = 3) (hpeer : s.is (F.LRX_TRN_STAT_PEER_OK n) = true) :
    Completes (.handover m n) s fun t => s.Answered m 0 t ∧ t.fld (F.LRX_TRN_CTL_STATE n) = 4 ∧ (t.lane n).cdLeft = 16 ∧
      t.is (F.LTX_CTL_PRECODE (n + 8)) = (ctrlBits (s.lane n).rxf 103 1 == 1) ∧
      t.is (F.LRX_CTL_PRECODE n) = (s.is (F.LRX_TRN_CFG_PRECODE_REQ n) && ctrlBits (s.lane n).rxf 102 1 == 1) ∧
      s.Only [R.LRX_TRN_CTL n, R.LTX_CTL (n + 8), R.LRX_CTL n, R.LRX_SEQ_EVT n, R.LTX_SEQ_EVT (8 + n)] t := by
  refine action_completes m n s rfl h (s.trnAct_handover n) fun t ht hout => ?_
  have hagain : s.Calm (precodeGround n) id (s.readyAgain n) := s.readyAgain_calm n
  have hrd := s.readyAgain_rd n
  generalize s.readyAgain n = u at *
  have hfld (f : Fld) : u.fld f = s.fld f := by rw [State.fld, hrd, State.fld]
  have his (f : Fld) : u.is f = s.is f := by rw [State.is, hfld, State.is]
  have hlane : u.lane n = s.lane n := hagain.lanes n
  have hrun : u.handover n = (((u.put (F.LTX_CTL_PRECODE (n + 8)) (ctrlBits (s.lane n).rxf 103 1 == 1)).put (F.LRX_CTL_PRECODE n)
      ((u.put (F.LTX_CTL_PRECODE (n + 8)) (ctrlBits (s.lane n).rxf 103 1 == 1)).is (F.LRX_TRN_CFG_PRECODE_REQ n) && ctrlBits (s.lane n).rxf 102 1 == 1)).onLane n
      fun l => { l with cdLeft := 16 }).trnSet n 4 := by
    unfold State.handover
    rw [his, hpeer, hfld, hst, hlane]
    rfl
  rw [hrun] at ht hout
  clear hrun
  have hltx : u.Calm (precodeGround n) id (u.put (F.LTX_CTL_PRECODE (n + 8)) (ctrlBits (s.lane n).rxf 103 1 == 1)) :=
    u.put_calm _ ((by decide : ∀ n < 8, (precodeGround n).covers (F.LTX_CTL_PRECODE (n + 8)) = true) n n.isLt)
  have hltxed := u.put_is_same (F.LTX_CTL_PRECODE (n + 8)) (ctrlBits (s.lane n).rxf 103 1 == 1) (Fld.fits_of rfl) rfl
  have hcfg : (u.put (F.LTX_CTL_PRECODE (n + 8)) (ctrlBits (s.lane n).rxf 103 1 == 1)).is (F.LRX_TRN_CFG_PRECODE_REQ n) = s.is (F.LRX_TRN_CFG_PRECODE_REQ n) :=
    (hltx.inside.is ((by decide : ∀ n < 8, (precodeGround n).misses (F.LRX_TRN_CFG_PRECODE_REQ n) = true) n n.isLt)).trans (his _)
  rw [hcfg] at ht hout
  generalize u.put (F.LTX_CTL_PRECODE (n + 8)) (ctrlBits (s.lane n).rxf 103 1 == 1) = x at *
  have hlrx : x.Calm (precodeGround n) id (x.put (F.LRX_CTL_PRECODE n) (s.is (F.LRX_TRN_CFG_PRECODE_REQ n) && ctrlBits (s.lane n).rxf 102 1 == 1)) :=
    x.put_calm _ ((by decide : ∀ n < 8, (precodeGround n).covers (F.LRX_CTL_PRECODE n) = true) n n.isLt)
  have hlrxed := x.put_is_same (F.LRX_CTL_PRECODE n) (s.is (F.LRX_TRN_CFG_PRECODE_REQ n) && ctrlBits (s.lane n).rxf 102 1 == 1) (Fld.fits_of rfl) rfl
  have hkept : (x.put (F.LRX_CTL_PRECODE n) (s.is (F.LRX_TRN_CFG_PRECODE_REQ n) && ctrlBits (s.lane n).rxf 102 1 == 1)).is (F.LTX_CTL_PRECODE (n + 8)) =
      x.is (F.LTX_CTL_PRECODE (n + 8)) :=
    x.put_is_apart _ _ _ (Fld.fits_of rfl) ((by decide : ∀ n < 8, (F.LTX_CTL_PRECODE (n + 8)).Apart (F.LRX_CTL_PRECODE n)) n n.isLt)
  generalize x.put (F.LRX_CTL_PRECODE n) (s.is (F.LRX_TRN_CFG_PRECODE_REQ n) && ctrlBits (s.lane n).rxf 102 1 == 1) = y at *
  have hset : (y.onLane n fun l => { l with cdLeft := 16 }).Calm (ctlGround n) id ((y.onLane n fun l => { l with cdLeft := 16 }).trnSet n 4) :=
    State.trnSet_ctl _ n.isLt (by decide)
  have hpre : (y.onLane n fun l => { l with cdLeft := 16 }).Inside (precodeGround n) ((y.onLane n fun l => { l with cdLeft := 16 }).trnSet n 4) :=
    hset.inside.mono (List.subset_cons_of_subset _ (List.subset_cons_self _ _))
  refine ⟨?_, ?_, ?_, ?_, ?_, fun a ha => ?_⟩
  · rw [State.Answered, hout, hset.beside.out, State.onLane_out, hlrx.beside.out, hltx.beside.out, hagain.beside.out]
  · rw [ht.fld, State.trnSet_state _ n.isLt]
  · rw [ht.lane]
    exact (congrArg Lane.cdLeft (hset.lanes n)).trans (congrArg Lane.cdLeft ((y.onLane_lane n n _).trans (if_pos rfl)))
  · rw [ht.is, hset.inside.is ((by decide : ∀ n < 8, (ctlGround n).misses (F.LTX_CTL_PRECODE (n + 8)) = true) n n.isLt), State.onLane_is, hkept, hltxed]
  · rw [ht.is, hset.inside.is ((by decide : ∀ n < 8, (ctlGround n).misses (F.LRX_CTL_PRECODE n) = true) n n.isLt), State.onLane_is, hlrxed]
  · have hall := ((hagain.inside.trans hltx.inside).trans hlrx.inside).trans ((State.onLane_inside y n fun l => { l with cdLeft := 16 }).trans hpre)
    exact (ht.rd a).trans (hall.only ((by decide : ∀ n < 8, (precodeGround n).allIn
      [R.LRX_TRN_CTL n, R.LTX_CTL (n + 8), R.LRX_CTL n, R.LRX_SEQ_EVT n, R.LTX_SEQ_EVT (8 + n)] = true) n n.isLt) a ha)

theorem handover_refused (h : s.Reached m (R.LRX_TRN_CTL n)) (hpeer : s.is (F.LRX_TRN_STAT_PEER_OK n) = false) :
    Completes (.handover m n) s fun t => s.Answered m 0 t ∧ t.is (F.LRX_TRN_EVENT_HANDOVER_REFUSED n) = true ∧
      t.fld (F.LRX_TRN_CTL_STATE n) = s.fld (F.LRX_TRN_CTL_STATE n) ∧ (t.lane n).cdLeft = (s.lane n).cdLeft ∧ s.Only [R.LRX_TRN_EVENT n] t := by
  refine action_completes m n s rfl h (s.trnAct_handover n) fun t ht hout => ?_
  have hagain : s.Calm [.of 1 (F.LRX_TRN_EVENT_HANDOVER_REFUSED n)] id (s.readyAgain n) := s.readyAgain_calm n
  have hrd := s.readyAgain_rd n
  generalize s.readyAgain n = u at *
  have hnone : u.is (F.LRX_TRN_STAT_PEER_OK n) = false := by rw [State.is, State.fld, hrd, ← State.fld, ← State.is, hpeer]
  have hrun : u.handover n = u.put (F.LRX_TRN_EVENT_HANDOVER_REFUSED n) true := by simp [State.handover, hnone]
  rw [hrun] at ht hout
  clear hrun
  have hall : s.Calm [.of 1 (F.LRX_TRN_EVENT_HANDOVER_REFUSED n)] id (u.put (F.LRX_TRN_EVENT_HANDOVER_REFUSED n) true) :=
    hagain.trans (u.put_calm _ ((by decide : ∀ n < 8, Ground.covers [.of 1 (F.LRX_TRN_EVENT_HANDOVER_REFUSED n)] (F.LRX_TRN_EVENT_HANDOVER_REFUSED n) = true) n n.isLt))
  have hset := u.put_is_same (F.LRX_TRN_EVENT_HANDOVER_REFUSED n) true (Fld.fits_of rfl) rfl
  generalize u.put (F.LRX_TRN_EVENT_HANDOVER_REFUSED n) true = x at *
  refine ⟨by rw [State.Answered, hout, hall.beside.out], ?_, ?_, ?_, fun a ha => ?_⟩
  · rw [ht.is]
    exact hset
  · exact (ht.fld _).trans (hall.inside.fld ((by decide : ∀ n < 8, Ground.misses [.of 1 (F.LRX_TRN_EVENT_HANDOVER_REFUSED n)] (F.LRX_TRN_CTL_STATE n) = true) n n.isLt))
  · rw [ht.lane]
    exact congrArg Lane.cdLeft (hall.lanes n)
  · exact (ht.rd a).trans (hall.inside.only ((by decide : ∀ n < 8, Ground.allIn [.of 1 (F.LRX_TRN_EVENT_HANDOVER_REFUSED n)] [R.LRX_TRN_EVENT n] = true) n n.isLt) a ha)

theorem ack_times_out (h : s.Reached m (R.LRX_TRN_CTL n)) :
    Completes (.ackTo m n) s fun t => s.Answered m 0 t ∧ t.is (F.LRX_TRN_EVENT_ACK_TIMEOUT n) = true ∧ t.rd (R.LRX_TRN_CTL n) = s.rd (R.LRX_TRN_CTL n) ∧
      s.Only [R.LRX_TRN_EVENT n] t := by
  refine action_completes m n s rfl h (s.trnAct_ack n) fun t ht hout => ?_
  have hagain : s.Calm [.of 1 (F.LRX_TRN_EVENT_ACK_TIMEOUT n)] id (s.readyAgain n) := s.readyAgain_calm n
  generalize s.readyAgain n = u at *
  have hall : s.Calm [.of 1 (F.LRX_TRN_EVENT_ACK_TIMEOUT n)] id (u.put (F.LRX_TRN_EVENT_ACK_TIMEOUT n) true) :=
    hagain.trans (u.put_calm _ ((by decide : ∀ n < 8, Ground.covers [.of 1 (F.LRX_TRN_EVENT_ACK_TIMEOUT n)] (F.LRX_TRN_EVENT_ACK_TIMEOUT n) = true) n n.isLt))
  have hset := u.put_is_same (F.LRX_TRN_EVENT_ACK_TIMEOUT n) true (Fld.fits_of rfl) rfl
  generalize u.put (F.LRX_TRN_EVENT_ACK_TIMEOUT n) true = x at *
  have honly : s.Only [R.LRX_TRN_EVENT n] t := fun a ha => (ht.rd a).trans
    (hall.inside.only ((by decide : ∀ n < 8, Ground.allIn [.of 1 (F.LRX_TRN_EVENT_ACK_TIMEOUT n)] [R.LRX_TRN_EVENT n] = true) n n.isLt) a ha)
  refine ⟨by rw [State.Answered, hout, hall.beside.out], ?_, honly _ ?_, honly⟩
  · rw [ht.is]
    exact hset
  · simp [R.LRX_TRN_CTL, R.LRX_TRN_EVENT]

theorem rxf_latched (h : s.Reached m (R.LRX_TRN_RXF n 0)) :
    Completes (.trnRxfRead m n) s fun t => s.Returned m 0 (BitVec.ofNat 32 (s.lane n).rxf.toNat) t ∧ (t.lane n).rxfLatch = (s.lane n).rxf ∧ s.Only [] t := by
  refine viaRead_completes (f := fun s => ((s.rxfRead n 0).1, .ok, (s.rxfRead n 0).2)) rfl h fun t ht hout => ?_
  have hrun : s.rxfRead n 0 = (s.onLane n fun l => { l with rxfLatch := l.rxf }, BitVec.ofNat 32 (s.lane n).rxf.toNat) := by
    unfold State.rxfRead
    rw [if_pos rfl]
    simp only [State.onLane_lane, if_true]
  simp only [hrun] at ht hout
  refine ⟨hout, ?_, fun a _ => ht.rd a⟩
  rw [ht.lane, State.onLane_lane, if_pos rfl]

end

/-! ### The partner's data start -/

section
variable {n : Nat} (s : State)

/-- A lane for which data starts: what it has received before is not decoded. -/
def Lane.dataBegun (l : Lane) : Lane := { l with peerData := false, rx := { l.rx with skip := lookAhead + l.rx.ys.length, prev := (0, 7), q := [] } }

/-- The data flag of the receive direction, and nothing received before it waits for the decoder. -/
def State.rxBegun (s : State) (n : Nat) : State :=
  let s := ((s.put (F.LRX_TRN_STAT_RX_DATA n) true).pairLine n 10).onLane n Lane.dataBegun
  s.setPound n ((s.pound n).filter fun b => b.soft.isEmpty)

theorem State.rxData_eq (n : Nat) : s.rxData n = (((s.rxBegun n).cwHunt n 0).syncPair n).trnFinish n := rfl

/-- Data begun is in the registers the flag and the pair's line. -/
theorem State.rxBegun_rd (n a : Nat) : (s.rxBegun n).rd a = ((s.put (F.LRX_TRN_STAT_RX_DATA n) true).pairLine n 10).rd a := rfl

theorem State.rxBegun_kept (n : Nat) : (s.rxBegun n).trans = ((s.put (F.LRX_TRN_STAT_RX_DATA n) true).pairLine n 10).trans ∧
    (s.rxBegun n).dorm = ((s.put (F.LRX_TRN_STAT_RX_DATA n) true).pairLine n 10).dorm := by
  unfold State.rxBegun
  generalize (s.put (F.LRX_TRN_STAT_RX_DATA n) true).pairLine n 10 = u
  exact ⟨rfl, rfl⟩

theorem State.rxBegun_inside (hn : n < 8) : (s.put (F.LRX_TRN_STAT_RX_DATA n) true).Inside (pairGround n) (s.rxBegun n) :=
  ((s.put (F.LRX_TRN_STAT_RX_DATA n) true).pairLine_calm (c := id) hn 10).inside.trans (.of_rd fun a => s.rxBegun_rd n a)

theorem State.rxBegun_peerData (n : Nat) : ((s.rxBegun n).lane n).peerData = false := by
  have h : (s.rxBegun n).lane n = ((((s.put (F.LRX_TRN_STAT_RX_DATA n) true).pairLine n 10).lane n).dataBegun) :=
    (State.onLane_lane _ n n _).trans (if_pos rfl)
  rw [h]
  rfl

/-- The training timer's reading and its run. -/
def watchGround : Ground := [.of 8 (F.LRX_TRN_STAT_ELAPSED 0), .of 8 (F.LRX_TRN_STAT_TIMER_RUN 0)]

theorem State.timerStop_watch {c : Lane → Lane} (hn : n < 8) : s.Calm watchGround c (s.timerStop n) :=
  (s.setFld_calm _ ((by decide : ∀ n < 8, watchGround.covers (F.LRX_TRN_STAT_ELAPSED n) = true) n hn)).trans
    (State.put_calm _ _ ((by decide : ∀ n < 8, watchGround.covers (F.LRX_TRN_STAT_TIMER_RUN n) = true) n hn))

theorem State.lanesDone_lane (l : List Nat) (k : Nat) : (s.lanesDone l).lane k = s.lane k := rfl

/-- What the end of training changes: the timer, and the lanes that the transition in progress waits for. -/
theorem State.trnFinish_inside (hn : n < 8) : s.Inside watchGround (s.trnFinish n) := by
  unfold State.trnFinish
  exact .ite ((s.timerStop_watch (c := id) hn).inside.trans (.of_rd fun a => State.lanesDone_rd _ _ a)) .refl

theorem State.trnFinish_lane (hn : n < 8) (k : Nat) : (s.trnFinish n).lane k = s.lane k := by
  unfold State.trnFinish
  split
  · exact (State.lanesDone_lane _ _ k).trans ((s.timerStop_watch (c := id) hn).lanes k)
  · rfl

/-! ### The mode that the lanes run -/

/-- Two states with the same mode in force and the same transition. -/
structure State.SameMode (s t : State) : Prop where
  status : t.rd R.MODE_STATUS = s.rd R.MODE_STATUS
  trans  : t.trans = s.trans
  dorm   : t.dorm = s.dorm

variable {s} {t : State}

theorem State.Beside.sameMode (h : s.Beside t) (hrd : t.rd R.MODE_STATUS = s.rd R.MODE_STATUS) : s.SameMode t := ⟨hrd, h.trans_eq, h.dorm⟩

theorem State.SameMode.fld (h : s.SameMode t) {f : Fld} (hf : f.addr = R.MODE_STATUS) : t.fld f = s.fld f := by
  unfold State.fld
  rw [hf, h.status]

theorem State.SameMode.is (h : s.SameMode t) {f : Fld} (hf : f.addr = R.MODE_STATUS) : t.is f = s.is f := by
  unfold State.is
  rw [h.fld hf]

theorem State.SameMode.inTarget (h : s.SameMode t) : t.inTarget = s.inTarget := by
  unfold State.inTarget
  rw [h.is rfl, h.fld rfl, h.trans, h.dorm]

theorem State.SameMode.runMode (h : s.SameMode t) : t.runMode = s.runMode := by
  unfold State.runMode State.mode
  rw [h.inTarget, h.fld rfl, h.fld rfl]

theorem State.SameMode.lineMode (h : s.SameMode t) : t.lineMode = s.lineMode := by
  unfold State.lineMode
  rw [h.runMode, h.trans]

theorem State.SameMode.coded (h : s.SameMode t) : t.coded = s.coded := by
  unfold State.coded
  rw [h.lineMode]

variable (s)

theorem State.cwHunt_hunting (hn : n < 8) (off : Nat) : (s.cwHunt n off).is (F.LRX_CW_STAT_HUNTING n) = s.coded := by
  unfold State.cwHunt
  extract_lets stopped
  have hstop : s.Calm lockGround Lane.butLock stopped := s.cwStop_calm hn
  have hidle : stopped.is (F.LRX_CW_STAT_HUNTING n) = false := by
    have hrd : stopped.rd (R.LRX_CW_STAT n) = 0#32 := (State.onLane_rd ..).trans (s.wr_rd_same ..)
    rw [State.is, State.fld, show (F.LRX_CW_STAT_HUNTING n).addr = R.LRX_CW_STAT n from rfl, hrd]
    simp [bitsOf]
  rw [(hstop.beside.sameMode (hstop.inside.rd (by decide))).coded]
  split
  · next hc =>
    rw [hc, State.setFld_is_apart _ _ _ _ (Fld.fits_of rfl) ((by decide : ∀ n < 8, (F.LRX_CW_STAT_HUNTING n).Apart (F.LRX_CW_STAT_OFFSET n)) n hn),
      State.put_is_same _ _ _ (Fld.fits_of rfl) rfl]
  · next hc =>
    rw [hidle]
    exact (Bool.of_not_eq_true hc).symm

theorem State.rxBegun_sameMode (hn : n < 8) : s.SameMode (s.rxBegun n) := by
  have h := (State.put_inside (A := .of 1 (F.LRX_TRN_STAT_RX_DATA n) :: pairGround n) s true
    ((by decide : ∀ n < 8, Ground.covers (.of 1 (F.LRX_TRN_STAT_RX_DATA n) :: pairGround n) (F.LRX_TRN_STAT_RX_DATA n) = true) n hn)).trans
    ((s.rxBegun_inside hn).mono (List.subset_cons_self _ _))
  refine ⟨h.rd ((by decide : ∀ n < 8, Ground.at (.of 1 (F.LRX_TRN_STAT_RX_DATA n) :: pairGround n) R.MODE_STATUS = false) n hn), ?_, ?_⟩
  · exact (s.rxBegun_kept n).1.trans (((State.pairLine_calm (c := id) _ hn 10).beside.trans_eq).trans (s.put_beside _ _).trans_eq)
  · exact (s.rxBegun_kept n).2.trans (((State.pairLine_calm (c := id) _ hn 10).beside.dorm).trans (s.put_beside _ _).dorm)

/-! ### Data received -/

/-- What the start of data writes beside its flag. -/
def dataGround : Ground := watchGround ++ (lockGround ++ syncGround)

theorem pairGround_data : ∀ n < 8, (pairGround n).under dataGround = true := by decide

/-- The same with the flag and the event of the partner's handover. -/
def startGround : Ground := .of 8 (F.LRX_TRN_STAT_RX_DATA 0) :: .of 8 (F.LRX_TRN_EVENT_PEER_HANDOVER 0) :: dataGround

theorem startGround_dev : startGround.devIn recalRegs = true := by decide
theorem dataGround_dev : dataGround.devIn recalRegs = true := by decide

/-- After the hunt has begun: the pair brought up to date, and the timer. -/
theorem State.rxData_hunt (hn : n < 8) : ((s.rxBegun n).cwHunt n 0).Inside (watchGround ++ syncGround) (s.rxData n) := by
  rw [State.rxData_eq]
  exact ((State.syncPair_calm _ hn).inside.mono (List.subset_append_right _ _)).trans ((State.trnFinish_inside _ hn).mono (List.subset_append_left _ _))

theorem State.rxData_inside (hn : n < 8) : (s.put (F.LRX_TRN_STAT_RX_DATA n) true).Inside dataGround (s.rxData n) := by
  have hbegun : (s.put (F.LRX_TRN_STAT_RX_DATA n) true).Inside dataGround (s.rxBegun n) := (s.rxBegun_inside hn).under (pairGround_data n hn)
  have hhunt : (s.rxBegun n).Inside dataGround ((s.rxBegun n).cwHunt n 0) :=
    (State.cwHunt_calm _ hn 0).inside.mono (List.subset_append_of_subset_right _ (List.subset_append_left _ _))
  exact (hbegun.trans hhunt).trans ((s.rxData_hunt hn).mono (List.append_subset.mpr
    ⟨List.subset_append_left _ _, List.subset_append_of_subset_right _ (List.subset_append_right _ _)⟩))

theorem State.rxData_peerData (hn : n < 8) : ((s.rxData n).lane n).peerData = false := by
  rw [State.rxData_eq, State.trnFinish_lane _ hn]
  have hsync := congrArg Lane.peerData ((State.syncPair_calm ((s.rxBegun n).cwHunt n 0) hn).lanes n)
  have hhunt := congrArg Lane.peerData (((s.rxBegun n).cwHunt_calm hn 0).lanes n)
  exact hsync.trans (hhunt.trans (s.rxBegun_peerData n))

theorem State.rxData_hunting (hn : n < 8) : (s.rxData n).is (F.LRX_CW_STAT_HUNTING n) = s.coded := by
  rw [(s.rxData_hunt hn).is ((by decide : ∀ n < 8, Ground.misses (watchGround ++ syncGround) (F.LRX_CW_STAT_HUNTING n) = true) n hn),
    State.cwHunt_hunting _ hn, (s.rxBegun_sameMode hn).coded]

end

section
variable (n : Fin 8) (s : State)

theorem partner_starts (hdue : (s.lane n).peerData = true) (hnone : s.is (F.LRX_TRN_STAT_RX_DATA n) = false) :
    Completes (.peerDataStart n) s fun t => t.is (F.LRX_TRN_STAT_RX_DATA n) = true ∧ t.is (F.LRX_TRN_EVENT_PEER_HANDOVER n) = true ∧
      (t.lane n).peerData = false ∧ t.fld (F.LRX_TRN_CTL_STATE n) = s.fld (F.LRX_TRN_CTL_STATE n) ∧ t.is (F.LRX_CW_STAT_HUNTING n) = s.coded ∧
      s.OnlyDev recalRegs t := by
  have hrun : s.peerStart n = (s.put (F.LRX_TRN_EVENT_PEER_HANDOVER n) true).rxData n := by simp [State.peerStart, hdue, hnone]
  refine done_completes (u := s.peerStart n) rfl ?_
  have ht := settle_apart (s.peerStart n)
  generalize settle (s.peerStart n) = t at *
  rw [hrun] at ht
  have hfirst : s.Inside startGround (s.put (F.LRX_TRN_EVENT_PEER_HANDOVER n) true) :=
    s.put_inside _ ((by decide : ∀ n < 8, startGround.covers (F.LRX_TRN_EVENT_PEER_HANDOVER n) = true) n n.isLt)
  have hevent := s.put_is_same (F.LRX_TRN_EVENT_PEER_HANDOVER n) true (Fld.fits_of rfl) rfl
  have hmode : s.SameMode (s.put (F.LRX_TRN_EVENT_PEER_HANDOVER n) true) := (s.put_beside _ _).sameMode (hfirst.rd (by decide))
  generalize s.put (F.LRX_TRN_EVENT_PEER_HANDOVER n) true = u at *
  have hdata := u.rxData_inside n.isLt
  have hput : u.Inside startGround (u.put (F.LRX_TRN_STAT_RX_DATA n) true) :=
    u.put_inside _ ((by decide : ∀ n < 8, startGround.covers (F.LRX_TRN_STAT_RX_DATA n) = true) n n.isLt)
  have hflag := u.put_is_same (F.LRX_TRN_STAT_RX_DATA n) true (Fld.fits_of rfl) rfl
  have hkept : (u.put (F.LRX_TRN_STAT_RX_DATA n) true).is (F.LRX_TRN_EVENT_PEER_HANDOVER n) = u.is (F.LRX_TRN_EVENT_PEER_HANDOVER n) :=
    u.put_is_apart _ _ _ (Fld.fits_of rfl) ((by decide : ∀ n < 8, (F.LRX_TRN_EVENT_PEER_HANDOVER n).Apart (F.LRX_TRN_STAT_RX_DATA n)) n n.isLt)
  have hall := (hfirst.trans hput).trans (hdata.mono (List.subset_cons_of_subset _ (List.subset_cons_self _ _)))
  refine ⟨?_, ?_, ?_, ?_, ?_, fun a hdev ha => ?_⟩
  · rw [ht.is, hdata.is ((by decide : ∀ n < 8, dataGround.misses (F.LRX_TRN_STAT_RX_DATA n) = true) n n.isLt), hflag]
  · rw [ht.is, hdata.is ((by decide : ∀ n < 8, dataGround.misses (F.LRX_TRN_EVENT_PEER_HANDOVER n) = true) n n.isLt), hkept, hevent]
  · rw [ht.lane, u.rxData_peerData n.isLt]
  · rw [ht.fld, hall.fld ((by decide : ∀ n < 8, startGround.misses (F.LRX_TRN_CTL_STATE n) = true) n n.isLt)]
  · rw [ht.is, u.rxData_hunting n.isLt, hmode.coded]
  · exact (ht.rd a).trans (hall.onlyDev startGround_dev a hdev ha)

theorem partner_idle (h : (s.lane n).peerData = false ∨ s.is (F.LRX_TRN_STAT_RX_DATA n) = true) : Completes (.peerDataStart n) s fun t => s.Only [] t := by
  have hrun : s.peerStart n = s := if_neg (by rcases h with h | h <;> simp [h])
  refine done_completes (u := s) (congrArg done hrun) fun a _ => ?_
  exact (settle_apart s).rd a

end

/-- Settles O20: a write of TRN_CTL is the program's STATE, which is a change of the training state where R162 allows one, or an action; what each changes lies inside a
ground of registers, and the fields that the statement names are set last or lie outside. -/
theorem trainingProgramsMoveTheState : Obligations.TrainingProgramsMoveTheState :=
  ⟨fun m n v s h hw hv hst ha hh => tune_begins m n v s h hw hv hst ha hh, fun m n v s h hw hv hst => ready_begins m n v s h hw hv hst,
    fun m n v s h hw hv hst => align_returns m n v s h hw hv hst, fun m n v s h hv h1 h2 h3 => program_refused m n v s h hv h1 h2 h3,
    fun m n s h hst hp => countdown_begins m n s h hst hp, fun m n s h hp => handover_refused m n s h hp, fun m n s h => ack_times_out m n s h,
    fun n s hd hn => partner_starts n s hd hn, fun n s h => partner_idle n s h, fun m n s h => rxf_latched m n s h⟩

end Sys2Proof.Machine
end

section
/-! SUPPORT. A run of field writes, and recalibration: attempts, retries, commands and windows (R181 to R191). -/

namespace Sys2Proof.Machine

/-! ### Field writes in a row -/

/-- Fields written one after the other. -/
def State.writes (s : State) (l : List (Fld × Nat)) : State := l.foldl (fun s p => s.setFld p.1 p.2) s

/-- The fields of a run fit their registers and lie apart from each other. -/
abbrev Separate (l : List Fld) : Prop := l.Pairwise Fld.Apart ∧ ∀ f ∈ l, f.Fits

section
variable {A : Ground} {c : Lane → Lane} (s : State) {l : List (Fld × Nat)}

theorem State.writes_cons (p : Fld × Nat) (l : List (Fld × Nat)) : s.writes (p :: l) = (s.setFld p.1 p.2).writes l := rfl

theorem State.writes_out_fld {f : Fld} (h : ∀ g ∈ l.map Prod.fst, f.Apart g ∧ g.Fits) : (s.writes l).fld f = s.fld f := by
  induction l generalizing s with
  | nil => rfl
  | cons p l ih =>
    obtain ⟨hp, hf⟩ := h p.1 (by simp)
    rw [State.writes_cons, ih _ fun g hg => h g (List.mem_cons_of_mem _ hg), State.setFld_fld_apart _ _ _ _ hf hp]

/-- A field of the run reads as it was written. -/
theorem State.writes_fld (h : Separate (l.map Prod.fst)) {f : Fld} {v : Nat} (hf : (f, v) ∈ l) : (s.writes l).fld f = v % 2 ^ f.wd := by
  induction l generalizing s with
  | nil => cases hf
  | cons p l ih =>
    obtain ⟨hp, hfit⟩ := h
    rw [List.map_cons, List.pairwise_cons] at hp
    rw [State.writes_cons]
    rcases List.mem_cons.mp hf with e | hl
    · subst e
      rw [State.writes_out_fld _ fun g hg => ⟨hp.1 g hg, hfit g (List.mem_cons_of_mem _ hg)⟩, State.setFld_fld_same _ _ _ (hfit _ (by simp))]
    · exact ih _ ⟨hp.2, fun g hg => hfit g (List.mem_cons_of_mem _ hg)⟩ hl

theorem State.writes_is (h : Separate (l.map Prod.fst)) {f : Fld} {b : Bool} (hf : (f, b2n b) ∈ l) (hw : f.wd = 1) : (s.writes l).is f = b := by
  rw [State.is, s.writes_fld h hf, hw]
  cases b <;> rfl

theorem State.writes_calm (h : ∀ f ∈ l.map Prod.fst, A.covers f = true) : s.Calm A c (s.writes l) := by
  induction l generalizing s with
  | nil => exact .refl
  | cons p l ih => exact (s.setFld_calm _ (h p.1 (by simp))).trans (ih _ fun f hf => h f (List.mem_cons_of_mem _ hf))

theorem State.onLane_setFld (n : Nat) (g : Lane → Lane) (f : Fld) (v : Nat) : (s.onLane n g).setFld f v = (s.setFld f v).onLane n g := rfl

theorem State.writes_onLane (n : Nat) (g : Lane → Lane) : (s.onLane n g).writes l = (s.writes l).onLane n g := by
  induction l generalizing s with
  | nil => rfl
  | cons p l ih => rw [State.writes_cons, State.writes_cons, State.onLane_setFld, ih]

theorem State.writes_lane (k : Nat) : (s.writes l).lane k = s.lane k := by
  induction l generalizing s with
  | nil => rfl
  | cons p l ih => exact (ih _).trans rfl

theorem State.writes_out : (s.writes l).out = s.out := by
  induction l generalizing s with
  | nil => rfl
  | cons p l ih => exact (ih _).trans (State.setFld_out ..)

theorem State.writes_free : (s.writes l).free = s.free := by
  induction l generalizing s with
  | nil => rfl
  | cons p l ih => exact (ih _).trans (State.setFld_free ..)

end

/-! ### New trims in force -/

/-- The fields that a completed recalibration writes, in order. -/
def commitFlds (n : Nat) : List Fld :=
  [F.CAL_LANE_STAT_STATE n, F.CAL_LANE_STAT_LAST_STEP n, F.CAL_LANE_STAT_RETRIES n, F.CAL_EVENT_DONE, F.CAL_RECAL_COUNT_COUNT, F.CAL_LANE_REF_T_REF n]

/-- Their ground. -/
def commitGround (n : Nat) : Ground := (commitFlds n).map (.of 1)

theorem commitFlds_separate : ∀ n < 48, Separate (commitFlds n) := by decide
theorem commitFlds_covers : ∀ n < 48, ∀ f ∈ commitFlds n, (commitGround n).covers f = true := by decide

section
variable (s : State) (n : Nat)

/-- What a completed recalibration writes. -/
def State.commitWrites (s : State) (n : Nat) (step : Bool) : List (Fld × Nat) :=
  [(F.CAL_LANE_STAT_STATE n, 0), (F.CAL_LANE_STAT_LAST_STEP n, b2n step), (F.CAL_LANE_STAT_RETRIES n, 0), (F.CAL_EVENT_DONE, b2n true),
    (F.CAL_RECAL_COUNT_COUNT, min (s.fld F.CAL_RECAL_COUNT_COUNT + 1) 0xFFFF), (F.CAL_LANE_REF_T_REF n, (s.lane n).calT)]

theorem State.calCommit_eq {n : Nat} (hn : n < 48) (step : Bool) :
    s.calCommit n step = (s.writes (s.commitWrites n step)).onLane n fun l => { l with trim := l.trimNext } := by
  have hcount : ((((s.setFld (F.CAL_LANE_STAT_STATE n) 0).put (F.CAL_LANE_STAT_LAST_STEP n) step).setFld (F.CAL_LANE_STAT_RETRIES n) 0).put F.CAL_EVENT_DONE
      true).fld F.CAL_RECAL_COUNT_COUNT = s.fld F.CAL_RECAL_COUNT_COUNT :=
    s.writes_out_fld (l := [(F.CAL_LANE_STAT_STATE n, 0), (F.CAL_LANE_STAT_LAST_STEP n, b2n step), (F.CAL_LANE_STAT_RETRIES n, 0), (F.CAL_EVENT_DONE, b2n true)])
      ((by decide : ∀ n < 48, ∀ g ∈ (commitFlds n).take 4, F.CAL_RECAL_COUNT_COUNT.Apart g ∧ g.Fits) n hn)
  have hcal (u : State) (hu : u.lane n = s.lane n) : ((u.onLane n fun l => { l with trim := l.trimNext }).lane n).calT = (s.lane n).calT := by
    rw [State.onLane_lane, if_pos rfl, hu]
  unfold State.calCommit State.bump
  dsimp only
  rw [hcount]
  refine (congrArg (State.setFld _ _) (hcal _ (s.writes_lane (l := (s.commitWrites n step).take 5) n))).trans ?_
  rfl

theorem State.commitWrites_separate {n : Nat} (hn : n < 48) (step : Bool) : Separate ((s.commitWrites n step).map Prod.fst) := commitFlds_separate n hn

theorem State.calCommit_lane {n : Nat} (hn : n < 48) (step : Bool) (k : Nat) :
    (s.calCommit n step).lane k = if k = n then { s.lane n with trim := (s.lane n).trimNext } else s.lane k := by
  rw [s.calCommit_eq hn, State.onLane_lane, State.writes_lane, State.writes_lane]

theorem State.calCommit_out {n : Nat} (hn : n < 48) (step : Bool) : (s.calCommit n step).out = s.out := by
  rw [s.calCommit_eq hn, State.onLane_out, State.writes_out]

theorem State.calCommit_free {n : Nat} (hn : n < 48) (step : Bool) : (s.calCommit n step).free = s.free := by
  rw [s.calCommit_eq hn, State.onLane_free, State.writes_free]

theorem State.calCommit_inside {n : Nat} (hn : n < 48) (step : Bool) : s.Inside (commitGround n) (s.calCommit n step) := by
  rw [s.calCommit_eq hn]
  exact (s.writes_calm (c := id) (l := s.commitWrites n step) (commitFlds_covers n hn)).inside.trans (State.onLane_inside _ _ _)

theorem State.calCommit_fld {n : Nat} (hn : n < 48) (step : Bool) {f : Fld} {v : Nat} (h : (f, v) ∈ s.commitWrites n step) :
    (s.calCommit n step).fld f = v % 2 ^ f.wd := by
  rw [s.calCommit_eq hn, State.onLane_fld, s.writes_fld (s.commitWrites_separate hn step) h]

theorem State.calCommit_is {n : Nat} (hn : n < 48) (step : Bool) {f : Fld} {b : Bool} (h : (f, b2n b) ∈ s.commitWrites n step) (hw : f.wd = 1) :
    (s.calCommit n step).is f = b := by
  rw [s.calCommit_eq hn, State.onLane_is, s.writes_is (s.commitWrites_separate hn step) h hw]

/-! ### Trims stepped in -/

/-- The registers that trims stepped in write, beside those of the completed recalibration. -/
def stepGround : Ground := [.of 1 F.CAL_EVENT_STEPPED, .of 1 F.CAL_STEP_COUNT_COUNT]

theorem State.stepIn_calm {c : Lane → Lane} (n : Nat) : (s.calCommit n true).Calm stepGround c (s.stepIn n) :=
  ((s.calCommit n true).put_calm _ (by decide)).trans (State.setFld_calm _ _ (by decide))

theorem State.stepIn_inside {n : Nat} (hn : n < 48) : s.Inside (stepGround ++ commitGround n) (s.stepIn n) :=
  ((s.calCommit_inside hn true).mono (List.subset_append_right _ _)).trans ((s.stepIn_calm (c := id) n).inside.mono (List.subset_append_left _ _))

theorem State.stepIn_fld {n : Nat} (hn : n < 48) {f : Fld} {v : Nat} (h : (f, v) ∈ s.commitWrites n true) (hf : stepGround.misses f = true) :
    (s.stepIn n).fld f = v % 2 ^ f.wd := by
  rw [(s.stepIn_calm (c := id) n).inside.fld hf, s.calCommit_fld hn true h]

theorem State.stepIn_is {n : Nat} (hn : n < 48) {f : Fld} {b : Bool} (h : (f, b2n b) ∈ s.commitWrites n true) (hw : f.wd = 1)
    (hf : stepGround.misses f = true) : (s.stepIn n).is f = b := by
  rw [(s.stepIn_calm (c := id) n).inside.is hf, s.calCommit_is hn true h hw]

theorem State.stepIn_stepped (n : Nat) : (s.stepIn n).is F.CAL_EVENT_STEPPED = true := by
  unfold State.stepIn State.bump
  rw [State.setFld_is_apart _ _ _ _ (Fld.fits_of rfl) (by decide), State.put_is_same _ _ _ (Fld.fits_of rfl) rfl]

theorem State.stepIn_count {n : Nat} (hn : n < 48) : (s.stepIn n).fld F.CAL_STEP_COUNT_COUNT = min (s.fld F.CAL_STEP_COUNT_COUNT + 1) 0xFFFF := by
  unfold State.stepIn
  rw [State.bump_fld_same _ _ _ (Fld.fits_of rfl), State.put_fld_apart _ _ _ _ (Fld.fits_of rfl) (by decide),
    (s.calCommit_inside hn true).fld ((by decide : ∀ n < 48, (commitGround n).misses F.CAL_STEP_COUNT_COUNT = true) n hn)]
  rfl

theorem State.stepIn_lane {n : Nat} (hn : n < 48) (k : Nat) :
    (s.stepIn n).lane k = if k = n then { s.lane n with trim := (s.lane n).trimNext } else s.lane k :=
  ((s.stepIn_calm (c := id) n).lanes k).trans (s.calCommit_lane hn true k)

/-! ### Attempts -/

/-- The lane of an attempt that begins at a clock with a temperature. -/
def Lane.attempted (l : Lane) (clock t : Nat) : Lane := { l with pauseAt := clock, calT := t, lastT := t, fit := false, corrHurt := l.corrHurt || l.corrRun }

/-- The state MEASURE entered by an attempt. -/
def State.measuring (s : State) (n : Nat) : State :=
  (s.setFld (F.CAL_LANE_STAT_STATE n) 2).onLane n fun l => l.attempted s.clock (s.tempNow n)

theorem State.attempt_eq (n : Nat) : s.attempt n = ((s.measuring n).line n 1).cmtCheck n := by
  unfold State.attempt State.measuring Lane.attempted
  dsimp only
  rw [State.onLane_setFld]

theorem State.measuring_rd (n a : Nat) : (s.measuring n).rd a = (s.setFld (F.CAL_LANE_STAT_STATE n) 2).rd a := State.onLane_rd ..

theorem State.attempt_calm {c : Lane → Lane} {n : Nat} (hn : n < 48) : (s.measuring n).Calm [.of 1 (F.LRX_SEQ_EVT_LINES n)] c (s.attempt n) := by
  rw [State.attempt_eq]
  exact ((s.measuring n).line_calm n 1 ((by decide : ∀ n < 48, Ground.covers [.of 1 (F.LRX_SEQ_EVT_LINES n)] (F.LRX_SEQ_EVT_LINES n) = true) n hn)).trans
    (State.OnCore.calm (State.cmtCheck_onCore _ n))

/-- The registers that an attempt writes. -/
def attemptGround (n : Nat) : Ground := [.of 1 (F.CAL_LANE_STAT_STATE n), .of 1 (F.LRX_SEQ_EVT_LINES n)]

theorem State.attempt_inside {n : Nat} (hn : n < 48) : s.Inside (attemptGround n) (s.attempt n) := by
  have hset : s.Inside (attemptGround n) (s.setFld (F.CAL_LANE_STAT_STATE n) 2) :=
    s.setFld_inside 2 ((by decide : ∀ n < 48, (attemptGround n).covers (F.CAL_LANE_STAT_STATE n) = true) n hn)
  exact (hset.trans (.of_rd (s.measuring_rd n))).trans ((s.attempt_calm (c := id) hn).inside.mono (List.subset_cons_self _ _))

theorem State.attempt_state {n : Nat} (hn : n < 48) : (s.attempt n).fld (F.CAL_LANE_STAT_STATE n) = 2 := by
  rw [(s.attempt_calm (c := id) hn).inside.fld ((by decide : ∀ n < 48, Ground.misses [.of 1 (F.LRX_SEQ_EVT_LINES n)] (F.CAL_LANE_STAT_STATE n) = true) n hn),
    State.fld, s.measuring_rd, ← State.fld, State.setFld_fld_same _ _ _ (Fld.fits_of rfl)]
  rfl

theorem State.attempt_lane {n : Nat} (hn : n < 48) : (s.attempt n).lane n = (s.lane n).attempted s.clock (s.tempNow n) :=
  ((s.attempt_calm (c := id) hn).lanes n).trans ((State.onLane_lane _ n n _).trans (if_pos rfl))

theorem State.attempt_out {n : Nat} (hn : n < 48) : (s.attempt n).out = s.out := by
  rw [(s.attempt_calm (c := id) hn).beside.out, State.measuring, State.onLane_out, State.setFld_out]

end

end Sys2Proof.Machine
end

section
/-! SUPPORT. The recalibration events, one outcome after the other (R184 to R190). -/

namespace Sys2Proof.Machine

section
variable (n : Fin 48) (s : State)

/-- An event of the hardware completes with its effect, up to the staged events, the answers and the remembered interrupts. -/
theorem event_completes {c : Instr} {q : State → Prop} {u : State} (e : exec c s = done u) (k : ∀ t, u.Apart t → t.out = u.out → q t) : Completes c s q :=
  done_completes e (k _ (settle_apart u) rfl)

theorem State.Apart.tables {s t : State} (h : s.Apart t) : t.lanes = s.lanes := by
  obtain ⟨_, _, _, rfl⟩ := h
  rfl

theorem State.Apart.free {s t : State} (h : s.Apart t) : t.free = s.free := by
  obtain ⟨_, _, _, rfl⟩ := h
  rfl

/-- An event that finds nothing to do. -/
theorem idle_completes {c : Instr} (e : exec c s = done s) : Completes c s fun t => s.Only [] t ∧ t.lanes = s.lanes :=
  event_completes s e fun _ ht _ => ⟨fun a _ => ht.rd a, ht.tables⟩

theorem idle_only {c : Instr} (e : exec c s = done s) : Completes c s fun t => s.Only [] t := event_completes s e fun _ ht _ a _ => ht.rd a

/-! ### A trigger -/

/-- The registers that a trigger writes. -/
def triggerGround (n : Nat) : Ground := .of 1 (F.CAL_LANE_STAT_RETRIES n) :: attemptGround n

variable {n s}

theorem State.trigger_inside {n : Nat} (hn : n < 48) (s : State) : s.Inside (triggerGround n) (s.trigger n) :=
  (s.setFld_inside 0 ((by decide : ∀ n < 48, (triggerGround n).covers (F.CAL_LANE_STAT_RETRIES n) = true) n hn)).trans
    ((State.attempt_inside _ hn).mono (List.subset_cons_self _ _))

theorem State.trigger_retries {n : Nat} (hn : n < 48) (s : State) : (s.trigger n).fld (F.CAL_LANE_STAT_RETRIES n) = 0 := by
  rw [State.trigger, (State.attempt_inside _ hn).fld ((by decide : ∀ n < 48, (attemptGround n).misses (F.CAL_LANE_STAT_RETRIES n) = true) n hn),
    State.setFld_fld_same _ _ _ (Fld.fits_of rfl)]
  rfl

theorem State.trigger_lane {n : Nat} (hn : n < 48) (s : State) : (s.trigger n).lane n = (s.lane n).attempted s.clock (s.tempNow n) := by
  have htemp : (s.setFld (F.CAL_LANE_STAT_RETRIES n) 0).tempNow n = s.tempNow n :=
    s.setFld_fld_apart _ _ _ (Fld.fits_of rfl) ((by decide : ∀ n < 48, (F.CAL_LANE_REF_T_NOW n).Apart (F.CAL_LANE_STAT_RETRIES n)) n hn)
  rw [State.trigger, State.attempt_lane _ hn, htemp, State.setFld_clock]
  rfl

/-- A lane that is on tells its sequencer of the attempt. -/
theorem State.attempt_line {n : Nat} (hn : n < 48) (s : State) (h : s.laneOn n = true) : bitAt ((s.attempt n).fld (F.LRX_SEQ_EVT_LINES n)) 1 = true := by
  have hon : (s.measuring n).laneOn n = true := by
    have hdom := s.setFld_fld_apart (F.CAL_LANE_STAT_STATE n) 2 F.PWR_DOM_STAT_ON (Fld.fits_of rfl)
      ((by decide : ∀ n < 48, F.PWR_DOM_STAT_ON.Apart (F.CAL_LANE_STAT_STATE n)) n hn)
    rw [State.laneOn, State.domOn, State.fld, s.measuring_rd, ← State.fld, hdom]
    exact h
  have hcore := State.cmtCheck_onCore ((s.measuring n).line n 1) n
  rw [State.attempt_eq, State.fld, hcore.rd, ← State.fld, State.line, if_pos hon]
  exact State.setBit_set _ _ _ (Fld.fits_of rfl) (show 1 < 32 by decide)

theorem State.trigger_line {n : Nat} (hn : n < 48) (s : State) (h : s.laneOn n = true) : bitAt ((s.trigger n).fld (F.LRX_SEQ_EVT_LINES n)) 1 = true := by
  refine State.attempt_line hn _ ?_
  rw [State.laneOn, State.domOn, State.setFld_fld_apart _ _ _ _ (Fld.fits_of rfl)
    ((by decide : ∀ n < 48, F.PWR_DOM_STAT_ON.Apart (F.CAL_LANE_STAT_RETRIES n)) n hn)]
  exact h

variable (n s)

theorem recal_starts (hst : s.calState n = 1) (hrel : s.releasing n = true) (hon : s.laneOn n = true) :
    Completes (.deferredRecalStart n) s fun t => t.fld (F.CAL_LANE_STAT_STATE n) = 2 ∧ t.fld (F.CAL_LANE_STAT_RETRIES n) = 0 ∧
      bitAt (t.fld (F.LRX_SEQ_EVT_LINES n)) 1 = true ∧ (t.lane n).calT = s.tempNow n ∧ (t.lane n).pauseAt = s.clock ∧ (t.lane n).fit = false ∧
      s.Only [R.CAL_LANE_STAT n, R.LRX_SEQ_EVT n] t := by
  refine event_completes s (u := s.trigger n) (congrArg done (if_pos (by simp [hst, hrel]))) fun t ht _ => ?_
  have hlane : t.lane n = (s.lane n).attempted s.clock (s.tempNow n) := (ht.lane n).trans (s.trigger_lane n.isLt)
  refine ⟨?_, ?_, ?_, ?_, ?_, ?_, fun a ha => ?_⟩
  · rw [ht.fld, State.trigger, State.attempt_state _ n.isLt]
  · rw [ht.fld, State.trigger_retries n.isLt]
  · rw [ht.fld, State.trigger_line n.isLt s hon]
  · rw [hlane]
    rfl
  · rw [hlane]
    rfl
  · rw [hlane]
    rfl
  · exact (ht.rd a).trans ((State.trigger_inside n.isLt s).only
      ((by decide : ∀ n < 48, (triggerGround n).allIn [R.CAL_LANE_STAT n, R.LRX_SEQ_EVT n] = true) n n.isLt) a ha)

theorem recal_held (h : s.calState n ≠ 1 ∨ s.releasing n = false) :
    Completes (.deferredRecalStart n) s fun t => s.Only [] t ∧ t.lanes = s.lanes :=
  idle_completes s (congrArg done (if_neg (by rcases h with h | h <;> simp [h])))

/-! ### Fitness -/

/-- A window whose operands are well-formed is an event. -/
theorem doneIf_true {b : Bool} (h : b = true) (u : State) : doneIf b u = done u := by
  rw [doneIf, h]
  rfl

variable (levels : List Nat) (acorr : List Int)

theorem window_fits (hw : fitnessWindow levels acorr = true) (hfit : fitInput levels acorr = true) (hst : s.calState n = 2) (hnot : (s.lane n).fit = false) :
    Completes (.fitnessWindowEnd n levels acorr) s fun t => (t.lane n).fit = true ∧ s.Only [] t := by
  have hrun : s.fitness n levels acorr = s.onLane n fun l => { l with fit := true } := by simp [State.fitness, hst, hnot, hfit]
  refine event_completes s ((doneIf_true hw _).trans (congrArg done hrun)) fun t ht _ => ⟨?_, fun a _ => ht.rd a⟩
  rw [ht.lane, State.onLane_lane, if_pos rfl]

theorem window_ignored (hw : fitnessWindow levels acorr = true) (h : s.calState n ≠ 2 ∨ (s.lane n).fit = true) :
    Completes (.fitnessWindowEnd n levels acorr) s fun t => s.Only [] t ∧ t.lanes = s.lanes :=
  idle_completes s ((doneIf_true hw _).trans (congrArg done (if_neg (by rcases h with h | h <;> simp [h]))))

/-- The end of the pause, the lane's UNFIT bit and the event. -/
def State.unfitSaid (s : State) (n : Nat) : State := ((s.endPause n).setBit (unfitFld n) (n % 32)).put F.CAL_EVENT_UNFIT true

def unfitGround (n : Nat) : Ground :=
  [.of 1 (F.CAL_LANE_STAT_LAST_PAUSE n), .of 1 (F.LRX_SEQ_EVT_LINES n), .of 1 F.CAL_UNFIT_LO_LANES, .of 1 F.CAL_UNFIT_HI_LANES, .of 1 F.CAL_EVENT_UNFIT]

/-- What the end of the attempt adds. -/
def triesGround (n : Nat) : Ground := [.of 1 (F.CAL_LANE_STAT_STATE n), .of 1 F.CAL_EVENT_GIVEUP]

theorem unfitFld_fits : ∀ n < 48, (unfitFld n).Fits ∧ n % 32 < (unfitFld n).wd := by decide

theorem State.endPause_inside {n : Nat} (hn : n < 48) (s : State) : s.Inside (unfitGround n) (s.endPause n) :=
  (s.setFld_inside _ ((by decide : ∀ n < 48, (unfitGround n).covers (F.CAL_LANE_STAT_LAST_PAUSE n) = true) n hn)).trans
    (State.line_inside _ _ _ ((by decide : ∀ n < 48, (unfitGround n).covers (F.LRX_SEQ_EVT_LINES n) = true) n hn))

theorem State.unfitSaid_inside {n : Nat} (hn : n < 48) (s : State) : s.Inside (unfitGround n) (s.unfitSaid n) :=
  ((s.endPause_inside hn).trans (State.setBit_inside _ _ ((by decide : ∀ n < 48, (unfitGround n).covers (unfitFld n) = true) n hn))).trans
    (State.put_inside _ _ ((by decide : ∀ n < 48, (unfitGround n).covers F.CAL_EVENT_UNFIT = true) n hn))

theorem State.unfitSaid_bit {n : Nat} (hn : n < 48) (s : State) : bitAt ((s.unfitSaid n).fld (unfitFld n)) (n % 32) = true := by
  obtain ⟨hfit, hlt⟩ := unfitFld_fits n hn
  rw [State.unfitSaid, State.put_fld_apart _ _ _ _ (Fld.fits_of rfl) ((by decide : ∀ n < 48, (unfitFld n).Apart F.CAL_EVENT_UNFIT) n hn),
    State.setBit_set _ _ _ hfit hlt]

theorem State.unfitSaid_pause {n : Nat} (hn : n < 48) (s : State) :
    (s.unfitSaid n).fld (F.CAL_LANE_STAT_LAST_PAUSE n) = min (usOf (s.clock - (s.lane n).pauseAt)) 0xFFFF := by
  have hrest : (s.setFld (F.CAL_LANE_STAT_LAST_PAUSE n) (min (usOf (s.clock - (s.lane n).pauseAt)) 0xFFFF)).Inside ((unfitGround n).drop 1) (s.unfitSaid n) :=
    ((State.line_inside _ _ _ ((by decide : ∀ n < 48, Ground.covers ((unfitGround n).drop 1) (F.LRX_SEQ_EVT_LINES n) = true) n hn)).trans
      (State.setBit_inside _ _ ((by decide : ∀ n < 48, Ground.covers ((unfitGround n).drop 1) (unfitFld n) = true) n hn))).trans
      (State.put_inside _ _ ((by decide : ∀ n < 48, Ground.covers ((unfitGround n).drop 1) F.CAL_EVENT_UNFIT = true) n hn))
  rw [hrest.fld ((by decide : ∀ n < 48, Ground.misses ((unfitGround n).drop 1) (F.CAL_LANE_STAT_LAST_PAUSE n) = true) n hn),
    State.setFld_fld_same _ _ _ (Fld.fits_of rfl)]
  exact Nat.mod_eq_of_lt (lt_of_le_of_lt (Nat.min_le_right _ _) (by decide : 0xFFFF < 2 ^ 16))

/-- An attempt on unfit input ends, with what is said of it and with the state that the retries give. -/
theorem State.unfit_eq {n : Nat} (hn : n < 48) (s : State) :
    s.unfit n = if 8 ≤ s.fld (F.CAL_LANE_STAT_RETRIES n) then ((s.unfitSaid n).setFld (F.CAL_LANE_STAT_STATE n) 5).put F.CAL_EVENT_GIVEUP true
      else (s.unfitSaid n).setFld (F.CAL_LANE_STAT_STATE n) 4 := by
  have hretries := (s.unfitSaid_inside hn).fld ((by decide : ∀ n < 48, (unfitGround n).misses (F.CAL_LANE_STAT_RETRIES n) = true) n hn)
  rw [← hretries]
  rfl

theorem State.unfit_inside {n : Nat} (hn : n < 48) (s : State) : (s.unfitSaid n).Inside (triesGround n) (s.unfit n) := by
  have hstate := (by decide : ∀ n < 48, (triesGround n).covers (F.CAL_LANE_STAT_STATE n) = true) n hn
  rw [s.unfit_eq hn]
  exact .ite ((State.setFld_inside _ _ hstate).trans (State.put_inside _ _ ((by decide : ∀ n < 48, (triesGround n).covers F.CAL_EVENT_GIVEUP = true) n hn)))
    (State.setFld_inside _ _ hstate)

theorem State.unfit_state {n : Nat} (hn : n < 48) (s : State) :
    (s.unfit n).fld (F.CAL_LANE_STAT_STATE n) = if 8 ≤ s.fld (F.CAL_LANE_STAT_RETRIES n) then 5 else 4 := by
  rw [s.unfit_eq hn]
  split
  · rw [State.put_fld_apart _ _ _ _ (Fld.fits_of rfl) ((by decide : ∀ n < 48, (F.CAL_LANE_STAT_STATE n).Apart F.CAL_EVENT_GIVEUP) n hn),
      State.setFld_fld_same _ _ _ (Fld.fits_of rfl)]
    rfl
  · rw [State.setFld_fld_same _ _ _ (Fld.fits_of rfl)]
    rfl

theorem window_unfit (hw : fitnessWindow levels acorr = true) (hfit : fitInput levels acorr = false) (hst : s.calState n = 2) (hnot : (s.lane n).fit = false) :
    Completes (.fitnessWindowEnd n levels acorr) s fun t =>
      t.fld (F.CAL_LANE_STAT_STATE n) = (if 8 ≤ s.fld (F.CAL_LANE_STAT_RETRIES n) then 5 else 4) ∧ bitAt (t.fld (unfitFld n)) (n % 32) = true ∧
        t.is F.CAL_EVENT_UNFIT = true ∧ (8 ≤ s.fld (F.CAL_LANE_STAT_RETRIES n) → t.is F.CAL_EVENT_GIVEUP = true) ∧
        t.fld (F.CAL_LANE_STAT_LAST_PAUSE n) = min (usOf (s.clock - (s.lane n).pauseAt)) 0xFFFF ∧
        t.fld (F.CAL_LANE_STAT_RETRIES n) = s.fld (F.CAL_LANE_STAT_RETRIES n) ∧
        s.Only [R.CAL_LANE_STAT n, R.CAL_EVENT, R.CAL_UNFIT_LO, R.CAL_UNFIT_HI, R.LRX_SEQ_EVT n] t := by
  have hrun : s.fitness n levels acorr = s.unfit n := by simp [State.fitness, hst, hnot, hfit]
  have hsaid := s.unfitSaid_inside n.isLt
  have hend := s.unfit_inside n.isLt
  refine event_completes s ((doneIf_true hw _).trans (congrArg done hrun)) fun t ht _ => ⟨?_, ?_, ?_, fun h => ?_, ?_, ?_, fun a ha => ?_⟩
  · rw [ht.fld, s.unfit_state n.isLt]
  · rw [ht.fld, hend.fld ((by decide : ∀ n < 48, (triesGround n).misses (unfitFld n) = true) n n.isLt), s.unfitSaid_bit n.isLt]
  · rw [ht.is, hend.is ((by decide : ∀ n < 48, (triesGround n).misses F.CAL_EVENT_UNFIT = true) n n.isLt), State.unfitSaid,
      State.put_is_same _ _ _ (Fld.fits_of rfl) rfl]
  · rw [ht.is, s.unfit_eq n.isLt, if_pos h, State.put_is_same _ _ _ (Fld.fits_of rfl) rfl]
  · rw [ht.fld, hend.fld ((by decide : ∀ n < 48, (triesGround n).misses (F.CAL_LANE_STAT_LAST_PAUSE n) = true) n n.isLt), s.unfitSaid_pause n.isLt]
  · rw [ht.fld, hend.fld ((by decide : ∀ n < 48, (triesGround n).misses (F.CAL_LANE_STAT_RETRIES n) = true) n n.isLt),
      hsaid.fld ((by decide : ∀ n < 48, (unfitGround n).misses (F.CAL_LANE_STAT_RETRIES n) = true) n n.isLt)]
  · have hall := (hsaid.mono (List.subset_append_left _ (triesGround n))).trans (hend.mono (List.subset_append_right _ _))
    exact (ht.rd a).trans (hall.only ((by decide : ∀ n < 48, Ground.allIn (unfitGround n ++ triesGround n)
      [R.CAL_LANE_STAT n, R.CAL_EVENT, R.CAL_UNFIT_LO, R.CAL_UNFIT_HI, R.LRX_SEQ_EVT n] = true) n n.isLt) a ha)

/-! ### The measurement's end -/

variable (us : Nat)

/-- The trims measured, and the pause ended. -/
def State.recalMeasured (s : State) (n us : Nat) : State :=
  ((s.use.onLane n fun l => { l with trimNext := Config.freeWord s.free }).setFld (F.CAL_LANE_STAT_LAST_PAUSE n) (min us 0xFFFF)).line n 2

def pauseGround (n : Nat) : Ground := [.of 1 (F.CAL_LANE_STAT_LAST_PAUSE n), .of 1 (F.LRX_SEQ_EVT_LINES n)]

theorem State.recalMeasured_calm {c : Lane → Lane} {n : Nat} (hn : n < 48) (s : State) (us : Nat) :
    (s.use.onLane n fun l => { l with trimNext := Config.freeWord s.free }).Calm (pauseGround n) c (s.recalMeasured n us) :=
  (State.setFld_calm _ _ ((by decide : ∀ n < 48, (pauseGround n).covers (F.CAL_LANE_STAT_LAST_PAUSE n) = true) n hn)).trans
    (State.line_calm _ _ _ ((by decide : ∀ n < 48, (pauseGround n).covers (F.LRX_SEQ_EVT_LINES n) = true) n hn))

theorem State.use_onLane_rd (s : State) (n : Nat) (g : Lane → Lane) (a : Nat) : (s.use.onLane n g).rd a = s.rd a := rfl

theorem State.use_onLane_free (s : State) (n : Nat) (g : Lane → Lane) : (s.use.onLane n g).free = s.free + 1 := rfl

theorem State.recalMeasured_inside {n : Nat} (hn : n < 48) (s : State) (us : Nat) : s.Inside (pauseGround n) (s.recalMeasured n us) :=
  (State.Inside.of_rd fun a => s.use_onLane_rd n _ a).trans (s.recalMeasured_calm (c := id) hn us).inside

theorem State.recalMeasured_lane {n : Nat} (hn : n < 48) (s : State) (us : Nat) :
    (s.recalMeasured n us).lane n = { s.lane n with trimNext := Config.freeWord s.free } :=
  ((s.recalMeasured_calm (c := id) hn us).lanes n).trans ((State.onLane_lane _ n n _).trans (if_pos rfl))

theorem State.recalMeasured_free {n : Nat} (hn : n < 48) (s : State) (us : Nat) : (s.recalMeasured n us).free = s.free + 1 :=
  (s.recalMeasured_calm (c := id) hn us).beside.free.trans (s.use_onLane_free n _)

theorem State.recalMeasured_coded {n : Nat} (hn : n < 48) (s : State) (us : Nat) : (s.recalMeasured n us).coded = s.coded := by
  have hmode : s.SameMode (s.use.onLane n fun l => { l with trimNext := Config.freeWord s.free }) := ⟨rfl, rfl, rfl⟩
  have h := s.recalMeasured_calm (c := id) hn us
  rw [(h.beside.sameMode (h.inside.rd ((by decide : ∀ n < 48, (pauseGround n).at R.MODE_STATUS = false) n hn))).coded, hmode.coded]

theorem State.recalMeasured_pause {n : Nat} (hn : n < 48) (s : State) (us : Nat) : (s.recalMeasured n us).fld (F.CAL_LANE_STAT_LAST_PAUSE n) = min us 0xFFFF := by
  have hline (u : State) : u.Inside [.of 1 (F.LRX_SEQ_EVT_LINES n)] (u.line n 2) :=
    u.line_inside _ _ ((by decide : ∀ n < 48, Ground.covers [.of 1 (F.LRX_SEQ_EVT_LINES n)] (F.LRX_SEQ_EVT_LINES n) = true) n hn)
  rw [State.recalMeasured, (hline _).fld ((by decide : ∀ n < 48, Ground.misses [.of 1 (F.LRX_SEQ_EVT_LINES n)] (F.CAL_LANE_STAT_LAST_PAUSE n) = true) n hn),
    State.setFld_fld_same _ _ _ (Fld.fits_of rfl)]
  exact Nat.mod_eq_of_lt (lt_of_le_of_lt (Nat.min_le_right _ _) (by decide : 0xFFFF < 2 ^ 16))

theorem State.measureEnd_eq {n : Nat} (hn : n < 48) (s : State) (us : Nat) (hst : s.calState n = 2) (hfit : (s.lane n).fit = true) :
    s.measureEnd n us = if s.coded then (s.recalMeasured n us).setFld (F.CAL_LANE_STAT_STATE n) 3 else (s.recalMeasured n us).stepIn n := by
  rw [← s.recalMeasured_coded hn us]
  exact if_pos (by simp [hst, hfit])

theorem State.stepIn_free {n : Nat} (hn : n < 48) (s : State) : (s.stepIn n).free = s.free :=
  (s.stepIn_calm (c := id) n).beside.free.trans (s.calCommit_free hn true)

theorem measure_steps (hst : s.calState n = 2) (hfit : (s.lane n).fit = true) (hcoded : s.coded = false) :
    Completes (.recalMeasureEnd n us) s fun t => t.fld (F.CAL_LANE_STAT_STATE n) = 0 ∧ t.is (F.CAL_LANE_STAT_LAST_STEP n) = true ∧
      t.fld (F.CAL_LANE_STAT_LAST_PAUSE n) = min us 0xFFFF ∧ t.fld (F.CAL_LANE_STAT_RETRIES n) = 0 ∧
      t.fld (F.CAL_LANE_REF_T_REF n) = (s.lane n).calT % 1024 ∧ t.fld F.CAL_RECAL_COUNT_COUNT = min (s.fld F.CAL_RECAL_COUNT_COUNT + 1) 0xFFFF ∧
      t.fld F.CAL_STEP_COUNT_COUNT = min (s.fld F.CAL_STEP_COUNT_COUNT + 1) 0xFFFF ∧ t.is F.CAL_EVENT_DONE = true ∧ t.is F.CAL_EVENT_STEPPED = true ∧
      (t.lane n).trim = Config.freeWord s.free ∧ t.free = s.free + 1 ∧
      s.Only [R.CAL_LANE_STAT n, R.CAL_LANE_REF n, R.CAL_EVENT, R.CAL_RECAL_COUNT, R.CAL_STEP_COUNT, R.LRX_SEQ_EVT n] t := by
  have hrun := s.measureEnd_eq n.isLt us hst hfit
  rw [hcoded, if_neg Bool.false_ne_true] at hrun
  have hin := s.recalMeasured_inside n.isLt us
  have hlane := s.recalMeasured_lane n.isLt us
  have hfree := s.recalMeasured_free n.isLt us
  have hpause := s.recalMeasured_pause n.isLt us
  generalize s.recalMeasured n us = u at *
  have hstep := u.stepIn_inside n.isLt
  refine event_completes s (congrArg done hrun) fun t ht _ => ⟨?_, ?_, ?_, ?_, ?_, ?_, ?_, ?_, ?_, ?_, ?_, fun a ha => ?_⟩
  · rw [ht.fld, u.stepIn_fld n.isLt (v := 0) (by simp [State.commitWrites])
      ((by decide : ∀ n < 48, stepGround.misses (F.CAL_LANE_STAT_STATE n) = true) n n.isLt), Nat.zero_mod]
  · rw [ht.is, u.stepIn_is n.isLt (b := true) (by simp [State.commitWrites]) rfl
      ((by decide : ∀ n < 48, stepGround.misses (F.CAL_LANE_STAT_LAST_STEP n) = true) n n.isLt)]
  · rw [ht.fld, hstep.fld ((by decide : ∀ n < 48, Ground.misses (stepGround ++ commitGround n) (F.CAL_LANE_STAT_LAST_PAUSE n) = true) n n.isLt), hpause]
  · rw [ht.fld, u.stepIn_fld n.isLt (v := 0) (by simp [State.commitWrites])
      ((by decide : ∀ n < 48, stepGround.misses (F.CAL_LANE_STAT_RETRIES n) = true) n n.isLt), Nat.zero_mod]
  · rw [ht.fld, u.stepIn_fld n.isLt (v := (u.lane n).calT) (by simp [State.commitWrites])
      ((by decide : ∀ n < 48, stepGround.misses (F.CAL_LANE_REF_T_REF n) = true) n n.isLt), hlane]
    rfl
  · rw [ht.fld, u.stepIn_fld n.isLt (v := min (u.fld F.CAL_RECAL_COUNT_COUNT + 1) 0xFFFF) (by simp [State.commitWrites]) (by decide),
      hin.fld ((by decide : ∀ n < 48, (pauseGround n).misses F.CAL_RECAL_COUNT_COUNT = true) n n.isLt)]
    exact Nat.mod_eq_of_lt (lt_of_le_of_lt (Nat.min_le_right _ _) (by decide : 0xFFFF < 2 ^ 16))
  · rw [ht.fld, u.stepIn_count n.isLt, hin.fld ((by decide : ∀ n < 48, (pauseGround n).misses F.CAL_STEP_COUNT_COUNT = true) n n.isLt)]
  · rw [ht.is, u.stepIn_is n.isLt (b := true) (by simp [State.commitWrites]) rfl (by decide)]
  · rw [ht.is, u.stepIn_stepped]
  · rw [ht.lane, u.stepIn_lane n.isLt, if_pos rfl, hlane]
  · rw [ht.free, u.stepIn_free n.isLt, hfree]
  · have hall := (hin.mono (List.subset_append_left _ (stepGround ++ commitGround n))).trans (hstep.mono (List.subset_append_right _ _))
    exact (ht.rd a).trans (hall.only ((by decide : ∀ n < 48, Ground.allIn (pauseGround n ++ (stepGround ++ commitGround n))
      [R.CAL_LANE_STAT n, R.CAL_LANE_REF n, R.CAL_EVENT, R.CAL_RECAL_COUNT, R.CAL_STEP_COUNT, R.LRX_SEQ_EVT n] = true) n n.isLt) a ha)

theorem measure_waits (hst : s.calState n = 2) (hfit : (s.lane n).fit = true) (hcoded : s.coded = true) :
    Completes (.recalMeasureEnd n us) s fun t => t.fld (F.CAL_LANE_STAT_STATE n) = 3 ∧ t.fld (F.CAL_LANE_STAT_LAST_PAUSE n) = min us 0xFFFF ∧
      t.rd (R.CAL_LANE_REF n) = s.rd (R.CAL_LANE_REF n) ∧ (t.lane n).trimNext = Config.freeWord s.free ∧ (t.lane n).trim = (s.lane n).trim ∧
      t.free = s.free + 1 ∧ s.Only [R.CAL_LANE_STAT n, R.LRX_SEQ_EVT n] t := by
  have hrun := s.measureEnd_eq n.isLt us hst hfit
  rw [hcoded, if_pos rfl] at hrun
  have hin := s.recalMeasured_inside n.isLt us
  have hlane := s.recalMeasured_lane n.isLt us
  have hfree := s.recalMeasured_free n.isLt us
  have hpause := s.recalMeasured_pause n.isLt us
  generalize s.recalMeasured n us = u at *
  have hset : u.Calm [.of 1 (F.CAL_LANE_STAT_STATE n)] id (u.setFld (F.CAL_LANE_STAT_STATE n) 3) :=
    u.setFld_calm 3 ((by decide : ∀ n < 48, Ground.covers [.of 1 (F.CAL_LANE_STAT_STATE n)] (F.CAL_LANE_STAT_STATE n) = true) n n.isLt)
  have hstate := u.setFld_fld_same (F.CAL_LANE_STAT_STATE n) 3 (Fld.fits_of rfl)
  generalize u.setFld (F.CAL_LANE_STAT_STATE n) 3 = x at *
  have hall := (hin.mono (List.subset_append_left _ [.of 1 (F.CAL_LANE_STAT_STATE n)])).trans (hset.inside.mono (List.subset_append_right _ _))
  have honly := hall.only ((by decide : ∀ n < 48, Ground.allIn (pauseGround n ++ [.of 1 (F.CAL_LANE_STAT_STATE n)])
      [R.CAL_LANE_STAT n, R.LRX_SEQ_EVT n] = true) n n.isLt)
  have hkept : x.lane n = u.lane n := hset.lanes n
  refine event_completes s (congrArg done hrun) fun t ht _ => ⟨?_, ?_, ?_, ?_, ?_, ?_, fun a ha => (ht.rd a).trans (honly a ha)⟩
  · rw [ht.fld, hstate]
    rfl
  · rw [ht.fld, hset.inside.fld ((by decide : ∀ n < 48, Ground.misses [.of 1 (F.CAL_LANE_STAT_STATE n)] (F.CAL_LANE_STAT_LAST_PAUSE n) = true) n n.isLt), hpause]
  · rw [ht.rd, hall.rd ((by decide : ∀ n < 48, Ground.at (pauseGround n ++ [.of 1 (F.CAL_LANE_STAT_STATE n)]) (R.CAL_LANE_REF n) = false) n n.isLt)]
  · rw [ht.lane, hkept, hlane]
  · rw [ht.lane, hkept, hlane]
  · rw [ht.free, hset.beside.free, hfree]

theorem measure_ignored (h : s.calState n ≠ 2 ∨ (s.lane n).fit = false) :
    Completes (.recalMeasureEnd n us) s fun t => s.Only [] t ∧ t.lanes = s.lanes :=
  idle_completes s (congrArg done (if_neg (by rcases h with h | h <;> simp [h])))

theorem boundary_missed (hst : s.calState n = 3) :
    Completes (.recalStepTimeout n) s fun t => t.fld (F.CAL_LANE_STAT_STATE n) = 0 ∧ t.is (F.CAL_LANE_STAT_LAST_STEP n) = true ∧
      t.is F.CAL_EVENT_STEPPED = true ∧ t.fld (F.CAL_LANE_REF_T_REF n) = (s.lane n).calT % 1024 ∧
      t.fld F.CAL_STEP_COUNT_COUNT = min (s.fld F.CAL_STEP_COUNT_COUNT + 1) 0xFFFF ∧ (t.lane n).trim = (s.lane n).trimNext ∧
      s.Only [R.CAL_LANE_STAT n, R.CAL_LANE_REF n, R.CAL_EVENT, R.CAL_RECAL_COUNT, R.CAL_STEP_COUNT] t := by
  refine event_completes s (u := s.stepIn n) (congrArg done (if_pos hst)) fun t ht _ => ⟨?_, ?_, ?_, ?_, ?_, ?_, fun a ha => ?_⟩
  · rw [ht.fld, s.stepIn_fld n.isLt (v := 0) (by simp [State.commitWrites])
      ((by decide : ∀ n < 48, stepGround.misses (F.CAL_LANE_STAT_STATE n) = true) n n.isLt), Nat.zero_mod]
  · rw [ht.is, s.stepIn_is n.isLt (b := true) (by simp [State.commitWrites]) rfl
      ((by decide : ∀ n < 48, stepGround.misses (F.CAL_LANE_STAT_LAST_STEP n) = true) n n.isLt)]
  · rw [ht.is, s.stepIn_stepped]
  · rw [ht.fld, s.stepIn_fld n.isLt (v := (s.lane n).calT) (by simp [State.commitWrites])
      ((by decide : ∀ n < 48, stepGround.misses (F.CAL_LANE_REF_T_REF n) = true) n n.isLt)]
    rfl
  · rw [ht.fld, s.stepIn_count n.isLt]
  · rw [ht.lane, s.stepIn_lane n.isLt, if_pos rfl]
  · exact (ht.rd a).trans ((s.stepIn_inside n.isLt).only ((by decide : ∀ n < 48, Ground.allIn (stepGround ++ commitGround n)
      [R.CAL_LANE_STAT n, R.CAL_LANE_REF n, R.CAL_EVENT, R.CAL_RECAL_COUNT, R.CAL_STEP_COUNT] = true) n n.isLt) a ha)

theorem boundary_none (hst : s.calState n ≠ 3) : Completes (.recalStepTimeout n) s fun t => s.Only [] t := idle_only s (congrArg done (if_neg hst))

/-! ### Retries -/

theorem retry_starts (hst : s.calState n = 4) (hrel : s.releasing n = true) (hroom : s.fld (F.CAL_LANE_STAT_RETRIES n) < 8) :
    Completes (.recalRetry n) s fun t => t.fld (F.CAL_LANE_STAT_STATE n) = 2 ∧
      t.fld (F.CAL_LANE_STAT_RETRIES n) = s.fld (F.CAL_LANE_STAT_RETRIES n) + 1 ∧ (t.lane n).pauseAt = s.clock ∧
      s.Only [R.CAL_LANE_STAT n, R.LRX_SEQ_EVT n] t := by
  have hrun : s.retry n = (s.incr (F.CAL_LANE_STAT_RETRIES n)).attempt n := by simp [State.retry, hst, hrel]
  have hin : s.Inside (triggerGround n) (s.incr (F.CAL_LANE_STAT_RETRIES n)) :=
    s.incr_inside ((by decide : ∀ n < 48, (triggerGround n).covers (F.CAL_LANE_STAT_RETRIES n) = true) n n.isLt)
  have hcount : (s.incr (F.CAL_LANE_STAT_RETRIES n)).fld (F.CAL_LANE_STAT_RETRIES n) = (s.fld (F.CAL_LANE_STAT_RETRIES n) + 1) % 2 ^ 4 :=
    s.incr_fld_same _ (Fld.fits_of rfl)
  have hclock : (s.incr (F.CAL_LANE_STAT_RETRIES n)).clock = s.clock := s.incr_clock _
  generalize s.incr (F.CAL_LANE_STAT_RETRIES n) = u at *
  have hatt := u.attempt_inside n.isLt
  refine event_completes s (congrArg done hrun) fun t ht _ => ⟨?_, ?_, ?_, fun a ha => ?_⟩
  · rw [ht.fld, u.attempt_state n.isLt]
  · rw [ht.fld, hatt.fld ((by decide : ∀ n < 48, (attemptGround n).misses (F.CAL_LANE_STAT_RETRIES n) = true) n n.isLt), hcount]
    exact Nat.mod_eq_of_lt (by omega)
  · rw [ht.lane, u.attempt_lane n.isLt]
    exact hclock
  · exact (ht.rd a).trans ((hin.trans (hatt.mono (List.subset_cons_self _ _))).only
      ((by decide : ∀ n < 48, (triggerGround n).allIn [R.CAL_LANE_STAT n, R.LRX_SEQ_EVT n] = true) n n.isLt) a ha)

theorem retry_deferred (hst : s.calState n = 4) (hrel : s.releasing n = false) :
    Completes (.recalRetry n) s fun t => t.fld (F.CAL_LANE_STAT_STATE n) = 1 ∧
      t.fld (F.CAL_LANE_STAT_RETRIES n) = s.fld (F.CAL_LANE_STAT_RETRIES n) ∧ s.Only [R.CAL_LANE_STAT n] t := by
  have hrun : s.retry n = s.setFld (F.CAL_LANE_STAT_STATE n) 1 := by simp [State.retry, hst, hrel]
  refine event_completes s (congrArg done hrun) fun t ht _ => ⟨?_, ?_, fun a ha => ?_⟩
  · rw [ht.fld, s.setFld_fld_same _ _ (Fld.fits_of rfl)]
    rfl
  · rw [ht.fld, s.setFld_fld_apart _ _ _ (Fld.fits_of rfl) (Fld.apart_of_bits rfl)]
  · rw [ht.rd, s.setFld_rd_ne (F.CAL_LANE_STAT_STATE n) _ (List.ne_of_not_mem_cons ha)]

theorem retry_none (hst : s.calState n ≠ 4) : Completes (.recalRetry n) s fun t => s.Only [] t := idle_only s (congrArg done (if_neg hst))

end

/-! ### The host's command -/

section
variable (m : Master) (v : Word) (s : State)

/-- The word of a command: GO beside the lane as written. -/
theorem goWord_lane : bitsOf (v ||| 0x100#32).toNat 0 6 = bitsOf v.toNat 0 6 := by
  refine Nat.eq_of_testBit_eq fun i => ?_
  rw [bitsOf_testBit, bitsOf_testBit, BitVec.toNat_or, Nat.testBit_or]
  by_cases hi : i < 6
  · have hzero : Nat.testBit (0x100#32).toNat (0 + i) = false := by
      interval_cases i <;> rfl
    rw [hzero, Bool.or_false]
  · simp [hi]

theorem goWord_go : bitAt (v ||| 0x100#32).toNat 8 = true := by
  rw [← testBit_eq_bitAt, BitVec.toNat_or, Nat.testBit_or, show Nat.testBit (0x100#32).toNat 8 = true from rfl, Bool.or_true]

/-- The reason of a refusal does not depend on the command register. -/
theorem State.calRefusal_congr {s t : State} (h : ∀ a, a ≠ R.CAL_CMD → t.rd a = s.rd a) (n : Nat) : t.calRefusal n = s.calRefusal n := by
  have hlane (k off : Nat) : t.rd (laneBase k + off) = s.rd (laneBase k + off) := h _ (by simp only [laneBase, R.CAL_CMD]; omega)
  have hfld {f : Fld} (k off : Nat) (hf : f.addr = laneBase k + off) : t.fld f = s.fld f := by rw [State.fld, hf, hlane, ← hf, ← State.fld]
  have hline : t.lineOf n = s.lineOf n := by
    unfold State.lineOf State.slot
    rw [hfld (f := F.HRX_STATUS_ACTIVE_SLOT n) n 4 rfl]
  have hoos : t.oos n = s.oos n := by
    unfold State.oos
    rw [h _ (by decide), h _ (by decide)]
  have hun : t.unusable n = s.unusable n := by
    unfold State.unusable
    rw [h _ (by decide), h _ (by decide)]
  have hstate : t.calState n = s.calState n :=
    congrArg (fun w : Word => bitsOf w.toNat _ _) (h (R.CAL_LANE_STAT n) (by simp only [R.CAL_LANE_STAT, R.CAL_CMD]; omega))
  have hrel : t.releasing n = s.releasing n := by
    unfold State.releasing State.is
    rw [hline, hfld (f := F.LRX_STATUS_DATA n) n 4 rfl, hfld (f := F.LRX_TRN_CTL_STATE (n - 8)) (n - 8) 0xD00 rfl, hfld (f := F.HRX_STATUS_STATE n) n 4 rfl,
      hfld (f := F.LRX_STATUS_DATA (s.lineOf n)) (s.lineOf n) 4 rfl]
  unfold State.calRefusal
  rw [hoos, hun, hstate, hrel]

/-- The lane named by the command, written. -/
def State.commanded (s : State) (v : Word) : State := s.setFld F.CAL_CMD_LANE (bitsOf v.toNat 0 6)

theorem State.commanded_refusal (n : Nat) : (s.commanded v).calRefusal n = s.calRefusal n :=
  State.calRefusal_congr (fun _ ha => s.setFld_rd_ne F.CAL_CMD_LANE _ ha) n

theorem State.commanded_lane : (s.commanded v).fld F.CAL_CMD_LANE = bitsOf v.toNat 0 6 := by
  rw [State.commanded, State.setFld_fld_same _ _ _ (Fld.fits_of rfl)]
  exact Nat.mod_eq_of_lt (bitsOf_lt _ _ _)

theorem State.calCmd_eq : s.calCmd (v ||| 0x100#32) =
    match s.calRefusal (bitsOf v.toNat 0 6) with
    | some c => (((s.commanded v).setFld F.CAL_CMD_REASON c).put F.CAL_EVENT_CMD_REFUSED true, .err 1)
    | none => ((s.commanded v).trigger (bitsOf v.toNat 0 6), .ok) := by
  rw [← s.commanded_refusal v]
  unfold State.calCmd
  rw [goWord_lane, goWord_go]
  rfl

theorem command_refused (n : Nat) (h : s.Reached m R.CAL_CMD) (hn : n = bitsOf v.toNat 0 6)
    (hwhy : 48 ≤ n ∨ s.oos n = true ∨ s.unusable n = true ∨ s.releasing n = false ∨ (s.calState n ≠ 0 ∧ s.calState n ≠ 4 ∧ s.calState n ≠ 5)) :
    Completes (.calCmd m v) s fun t => s.Answered m 1 t ∧
      t.fld F.CAL_CMD_REASON = (if 48 ≤ n then 4 else if s.oos n = true ∨ s.unusable n = true then 3 else if s.releasing n = false then 2 else 1) ∧
      t.fld F.CAL_CMD_LANE = bitsOf v.toNat 0 6 ∧ t.is F.CAL_EVENT_CMD_REFUSED = true ∧ s.Only [R.CAL_CMD, R.CAL_EVENT] t := by
  have hrefused : s.calRefusal n = some (if 48 ≤ n then 4 else if s.oos n = true ∨ s.unusable n = true then 3 else if s.releasing n = false then 2 else 1) := by
    unfold State.calRefusal
    by_cases hlanes : 48 ≤ n
    · rw [if_pos hlanes, if_pos hlanes]
    by_cases hout : s.oos n = true ∨ s.unusable n = true
    · rw [if_neg hlanes, if_neg hlanes, if_pos hout, if_pos (by rcases hout with e | e <;> simp [e])]
    rw [not_or, Bool.not_eq_true, Bool.not_eq_true] at hout
    obtain ⟨hoos, hun⟩ := hout
    by_cases hrel : s.releasing n = false
    · simp [hlanes, hoos, hun, hrel]
    · have hbusy : ¬(s.calState n = 0 ∨ s.calState n = 4 ∨ s.calState n = 5) := by
        rcases hwhy with e | e | e | e | e
        · exact absurd e hlanes
        · simp [hoos] at e
        · simp [hun] at e
        · exact absurd e hrel
        · omega
      simp [hlanes, hoos, hun, hrel, hbusy]
  have hcode : (if 48 ≤ n then 4 else if s.oos n = true ∨ s.unusable n = true then 3 else if s.releasing n = false then 2 else 1) < 8 := by
    split_ifs <;> decide
  generalize (if 48 ≤ n then 4 else if s.oos n = true ∨ s.unusable n = true then 3 else if s.releasing n = false then 2 else 1) = c at *
  refine via_completes (f := fun s => s.calCmd (v ||| 0x100#32)) rfl h fun t ht hout => ?_
  rw [s.calCmd_eq v, ← hn, hrefused] at ht hout
  have hlane := s.commanded_lane v
  have hrd (a : Nat) (ha : a ≠ R.CAL_CMD) : (s.commanded v).rd a = s.rd a := s.setFld_rd_ne F.CAL_CMD_LANE _ ha
  have hsame : (s.commanded v).out = s.out := State.setFld_out ..
  generalize s.commanded v = u at *
  dsimp only at ht hout
  refine ⟨by rw [State.Answered, hout, State.put_out, State.setFld_out, hsame]; rfl, ?_, ?_, ?_, fun a ha => ?_⟩
  · rw [ht.fld, State.put_fld_apart _ _ _ _ (Fld.fits_of rfl) (by decide), State.setFld_fld_same _ _ _ (Fld.fits_of rfl)]
    exact Nat.mod_eq_of_lt hcode
  · rw [ht.fld, State.put_fld_apart _ _ _ _ (Fld.fits_of rfl) (by decide), State.setFld_fld_apart _ _ _ _ (Fld.fits_of rfl) (by decide), hlane]
  · rw [ht.is, State.put_is_same _ _ _ (Fld.fits_of rfl) rfl]
  · simp only [List.mem_cons, List.not_mem_nil, or_false, not_or] at ha
    rw [ht.rd, State.put_rd_ne _ F.CAL_EVENT_CMD_REFUSED _ ha.2, State.setFld_rd_ne _ F.CAL_CMD_REASON _ ha.1, hrd a ha.1]

theorem command_taken (n : Fin 48) (h : s.Reached m R.CAL_CMD) (hn : bitsOf v.toNat 0 6 = n.val) (hoos : s.oos n = false) (hun : s.unusable n = false)
    (hrel : s.releasing n = true) (hst : s.calState n = 0 ∨ s.calState n = 4 ∨ s.calState n = 5) :
    Completes (.calCmd m v) s fun t => s.Answered m 0 t ∧ t.fld (F.CAL_LANE_STAT_STATE n) = 2 ∧ t.fld (F.CAL_LANE_STAT_RETRIES n) = 0 ∧
      t.fld F.CAL_CMD_LANE = n.val ∧ (t.lane n).fit = false ∧ s.Only [R.CAL_CMD, R.CAL_LANE_STAT n, R.LRX_SEQ_EVT n] t := by
  have hfree : s.calRefusal n = none := by
    have := n.isLt
    unfold State.calRefusal
    rw [if_neg (by omega), hoos, hun, hrel, if_pos hst]
    rfl
  refine via_completes (f := fun s => s.calCmd (v ||| 0x100#32)) rfl h fun t ht hout => ?_
  rw [s.calCmd_eq v, hn, hfree] at ht hout
  have hlane := s.commanded_lane v
  have hrd (a : Nat) (ha : a ≠ R.CAL_CMD) : (s.commanded v).rd a = s.rd a := s.setFld_rd_ne F.CAL_CMD_LANE _ ha
  have hsame : (s.commanded v).out = s.out := State.setFld_out ..
  generalize s.commanded v = u at *
  dsimp only at ht hout
  have hin := u.trigger_inside n.isLt
  have hquiet : (u.trigger n).out = u.out := by rw [State.trigger, State.attempt_out _ n.isLt, State.setFld_out]
  refine ⟨by rw [State.Answered, hout, hquiet, hsame]; rfl, ?_, ?_, ?_, ?_, fun a ha => ?_⟩
  · rw [ht.fld, State.trigger, State.attempt_state _ n.isLt]
  · rw [ht.fld, State.trigger_retries n.isLt]
  · rw [ht.fld, hin.fld ((by decide : ∀ n < 48, (triggerGround n).misses F.CAL_CMD_LANE = true) n n.isLt), hlane, hn]
  · rw [ht.lane, State.trigger_lane n.isLt]
    rfl
  · rw [List.mem_cons, not_or] at ha
    exact (ht.rd a).trans ((hin.only ((by decide : ∀ n < 48, (triggerGround n).allIn [R.CAL_LANE_STAT n, R.LRX_SEQ_EVT n] = true) n n.isLt) a ha.2).trans (hrd a ha.1))

end

/-! ### Background windows -/

section
variable (r : Fin 24) (levels : List Nat) (sums : List Int × List (Int × Int × Int)) (lapUs : Nat) (s : State)

theorem window_completes {q : State → Prop} (hw : fitnessWindow levels sums.1 = true) (hl : sums.2.length = branches (rxLane r))
    (k : ∀ t, (s.background (rxLane r) levels sums.1 sums.2 lapUs).Apart t → q t) : Completes (.backgroundCalWindow r levels sums lapUs) s q :=
  event_completes s (doneIf_true (by rw [hw, hl, beq_self_eq_true]; rfl) _) fun t ht _ => k t ht

theorem background_runs (hw : fitnessWindow levels sums.1 = true) (hl : sums.2.length = branches (rxLane r)) (hen : s.is F.CAL_CTL_BG_EN = true)
    (hlevel : s.fld F.THERM_STAT_LEVEL < 2) (hdata : isData s.runMode = true) (hrun : s.running (rxLane r) = true) (hnear : s.nearEnd = false)
    (h2 : s.calState (rxLane r) ≠ 2) (h3 : s.calState (rxLane r) ≠ 3) :
    Completes (.backgroundCalWindow r levels sums lapUs) s fun t =>
      t.fld F.CAL_BG_STAT_LAP_US = (if fitInput levels sums.1 then max (s.fld F.CAL_BG_STAT_LAP_US) (min lapUs 0xFFFF) else s.fld F.CAL_BG_STAT_LAP_US) ∧
      t.fld F.CAL_BG_STAT_SKIP = (if fitInput levels sums.1 then s.fld F.CAL_BG_STAT_SKIP else min (s.fld F.CAL_BG_STAT_SKIP + 1) 0xFFFF) ∧
      (t.lane (rxLane r)).branchStep = (if fitInput levels sums.1 then branchSteps sums.2 else (s.lane (rxLane r)).branchStep) ∧
      (t.lane (rxLane r)).branch = (s.lane (rxLane r)).branch ∧ s.Only [R.CAL_BG_STAT] t := by
  have hon : s.background (rxLane r) levels sums.1 sums.2 lapUs =
      if fitInput levels sums.1 then
        (s.onLane (rxLane r) fun l => { l with branchStep := branchSteps sums.2 }).setFld F.CAL_BG_STAT_LAP_US (max (s.fld F.CAL_BG_STAT_LAP_US) (min lapUs 0xFFFF))
      else s.bump F.CAL_BG_STAT_SKIP 1 := if_pos (by simp [hen, hlevel, hdata, hrun, hnear, h2, h3])
  refine window_completes r levels sums lapUs s hw hl fun t ht => ?_
  rw [hon] at ht
  generalize rxLane r = n at *
  by_cases hfit : fitInput levels sums.1 = true
  · simp only [hfit, if_true] at ht ⊢
    rw [State.onLane_setFld] at ht
    have hlap : s.fld F.CAL_BG_STAT_LAP_US < 2 ^ 16 := bitsOf_lt _ _ _
    refine ⟨?_, ?_, ?_, ?_, fun a ha => ?_⟩
    · rw [ht.fld, State.onLane_fld, State.setFld_fld_same _ _ _ (Fld.fits_of rfl)]
      exact Nat.mod_eq_of_lt (max_lt hlap (lt_of_le_of_lt (Nat.min_le_right _ _) (by decide : 0xFFFF < 2 ^ 16)))
    · rw [ht.fld, State.onLane_fld, State.setFld_fld_apart _ _ _ _ (Fld.fits_of rfl) (by decide)]
    · rw [ht.lane, State.onLane_lane, if_pos rfl]
    · rw [ht.lane, State.onLane_lane, if_pos rfl]
      rfl
    · rw [ht.rd, State.onLane_rd, State.setFld_rd_ne _ F.CAL_BG_STAT_LAP_US _ (List.ne_of_not_mem_cons ha)]
  · simp only [hfit, if_false, Bool.false_eq_true] at ht ⊢
    refine ⟨?_, ?_, ?_, ?_, fun a ha => ?_⟩
    · rw [ht.fld, State.bump_fld_apart _ _ _ _ (Fld.fits_of rfl) (by decide)]
    · rw [ht.fld, State.bump_fld_same _ _ _ (Fld.fits_of rfl)]
      rfl
    · rw [ht.lane]
      rfl
    · rw [ht.lane]
      rfl
    · rw [ht.rd, State.bump_rd_ne _ F.CAL_BG_STAT_SKIP _ (List.ne_of_not_mem_cons ha)]

theorem background_held (hw : fitnessWindow levels sums.1 = true) (hl : sums.2.length = branches (rxLane r))
    (h : s.is F.CAL_CTL_BG_EN = false ∨ 2 ≤ s.fld F.THERM_STAT_LEVEL ∨ isData s.runMode = false ∨ s.running (rxLane r) = false ∨ s.nearEnd = true ∨
      s.calState (rxLane r) = 2 ∨ s.calState (rxLane r) = 3) :
    Completes (.backgroundCalWindow r levels sums lapUs) s fun t => s.Only [] t ∧ t.lanes = s.lanes := by
  have hoff : s.background (rxLane r) levels sums.1 sums.2 lapUs = s := by
    refine if_neg fun e => ?_
    simp only [Bool.and_eq_true, decide_eq_true_eq, Bool.not_eq_true', bne_iff_ne] at e
    obtain ⟨⟨⟨⟨⟨⟨hen, hlevel⟩, hdata⟩, hrun⟩, hnear⟩, h2⟩, h3⟩ := e
    rcases h with h | h | h | h | h | h | h
    · rw [hen] at h
      cases h
    · omega
    · rw [hdata] at h
      cases h
    · rw [hrun] at h
      cases h
    · rw [hnear] at h
      cases h
    · exact h2 h
    · exact h3 h
  refine window_completes r levels sums lapUs s hw hl fun t ht => ?_
  rw [hoff] at ht
  exact ⟨fun a _ => ht.rd a, ht.tables⟩

end

/-- Settles O21: each event of a recalibration runs its one operation or none; an attempt, the end of one and the trims that come into force each write fields apart from
each other, inside a ground. -/
theorem recalibrationRunsAndIsCommanded : Obligations.RecalibrationRunsAndIsCommanded :=
  ⟨recal_starts, recal_held, fun n levels acorr s => window_fits n s levels acorr, fun n levels acorr s => window_ignored n s levels acorr,
    fun n levels acorr s => window_unfit n s levels acorr, fun n us s => measure_steps n s us, fun n us s => measure_waits n s us,
    fun n us s => measure_ignored n s us, boundary_missed, boundary_none, retry_starts, retry_deferred, retry_none,
    fun m v s n => command_refused m v s n, fun m v n s => command_taken m v s n, background_runs, background_held⟩

end Sys2Proof.Machine
end

section
/-! SUPPORT. A ramp step beyond the end of the ramp: its bias does not fit the code that drives it. -/

namespace Sys2Proof.Machine

/-- Line transmit lane 0 ramps down linearly from step 127, with TARGET at its highest code. -/
def stepBeyondRamp : State :=
  { State.reset with regs := [(R.LTX_STATUS 8, 0x7F0004#32), (R.LTX_BIAS 8, 0xFFF#32)], lanes := [(8, { Lane.init with shape := false })] }

/-- Refutes O15: STEP holds values up to 127, and from there the statement asks for a bias above the 12 bits of BIAS_STAT.NOW. -/
theorem not_rampsStepTheLaser : ¬ Obligations.RampsStepTheLaser := by
  unfold Obligations.RampsStepTheLaser
  intro h
  obtain ⟨-, -, down, -⟩ := h
  obtain ⟨t, -, -, hnow, -⟩ := down 0 stepBeyondRamp (by decide) (by decide) (by decide)
  have hfits : t.fld (F.LTX_BIAS_STAT_NOW 8) < 2 ^ 12 := bitsOf_lt _ _ _
  have hasked : stepBeyondRamp.biasAt 8 (stepBeyondRamp.fld (F.LTX_STATUS_STEP 8) - 1) = 8062 := by decide
  rw [show t.fld (F.LTX_BIAS_STAT_NOW 8) = 8062 from hnow.trans hasked] at hfits
  exact absurd hfits (by decide)

end Sys2Proof.Machine
end

section
/-! SUPPORT. Two cases of the memories that the statements about them pass over: a burn under a flipped bit of the OTP shadow, and a table of lap times that lists more
lanes than there are. -/

namespace Sys2Proof.Machine

/-- A revocation of key slot 0 runs, and the bit that it burns stands flipped in the OTP shadow. -/
def revokeUnderFlip : State :=
  { State.reset with
    regs := [(R.PWR_DOM_STAT, 2#32)]
    life := { State.reset.life with run := some ⟨3, 0, 0, 0, 0, 1⟩ }
    integ := { State.reset.integ with otpDiff := [(0x05000260, 1#8)] } }

/-- The scrubber of lane 0 reads its last word, and the table of lap times lists a lane 48. -/
def strayLap : State :=
  { State.reset with
    regs := [(R.PWR_DOM_STAT, 0x1C407#32), (R.MEMX_CTL, 1#32)]
    integ := { State.reset.integ with scrubAt := [(4, 6143)], lapUs := [(48, 1)] } }

/-- What the model evaluates in both cases. -/
theorem burn_and_lap_run :
    leaves (exec (.lifeCommandDone true) revokeUnderFlip) (fun t => t.byteAt 0x05000260 == 0#8) = true ∧
      leaves (exec (.scrubAccess 4 0 0) strayLap) (fun t => t.fld (F.MEMX_SCRUB_LAP_US 4) == 1) = true := by
  decide +kernel

/-- Refutes O48: the array behind the shadow takes the burned bit, and the flip that stands in the shadow then shows it as 0. -/
theorem not_lifecycleCommandsBurnWhatTheyMay : ¬ Obligations.LifecycleCommandsBurnWhatTheyMay := by
  unfold Obligations.LifecycleCommandsBurnWhatTheyMay
  intro h
  have revoke := h.2.2.2.2.2.2.2.2.2.2.2.2.2.2.2.2.2.2.2.2.2.2.2.2.2.2.2.2.2.2.2.2.2.2.1
  obtain ⟨t, e, -, -, -, -, hbyte, -⟩ := revoke ⟨3, 0, 0, 0, 0, 1⟩ revokeUnderFlip (by decide) rfl rfl (by decide)
  have hone : t.byteAt 0x05000260 = 1#8 := (hbyte 0).trans (by decide)
  have hrun : (t.byteAt 0x05000260 == 0#8) = true := leaves_next e (q := fun t => t.byteAt 0x05000260 == 0#8) burn_and_lap_run.1
  simp [hone] at hrun

/-- Refutes O49: of the lap times listed the model shows the longest, here that of lane 48, where the statement looks at the 48 lanes only. -/
theorem not_memoryIntegrityIsKept : ¬ Obligations.MemoryIntegrityIsKept := by
  unfold Obligations.MemoryIntegrityIsKept
  intro h
  have lap := h.2.2.2.2.2.2.2.2.2.2.2.2.2.2.1
  obtain ⟨t, e, -, -, -, hus, -⟩ := lap 4 0 0 6143 6143 0 strayLap (by decide) (by decide) (by decide) (by decide) (by decide) (by decide) rfl (by decide)
  have hzero : t.fld (F.MEMX_SCRUB_LAP_US 4) = 0 := hus
  have hrun : (t.fld (F.MEMX_SCRUB_LAP_US 4) == 1) = true := leaves_next e (q := fun t => t.fld (F.MEMX_SCRUB_LAP_US 4) == 1) burn_and_lap_run.2
  simp [hzero] at hrun

end Sys2Proof.Machine
end

section
/-! SUPPORT. Pattern checkers, correlator windows and bank words (R59, R74, R84 to R87, R128, R459). -/

namespace Sys2Proof.Machine

/-! ### A ground within lanes -/

/-- Every register of the ground is one of the lanes named. -/
def Ground.lanesIn (A : Ground) (l : List Nat) : Bool := A.all fun e => Nat.beq e.count 1 && l.any fun n => Nat.beq e.block (0x4100 + n)

theorem Ground.at_lanes {A : Ground} {l : List Nat} (h : A.lanesIn l = true) {a : Nat}
    (ha : ∀ n ∈ l, ¬ (0x04100000 + 0x1000 * n ≤ a ∧ a < 0x04101000 + 0x1000 * n)) : A.at a = false := by
  simp only [Ground.lanesIn, List.all_eq_true, List.any_eq_true, Bool.and_eq_true, Nat.beq_eq] at h
  simp only [Ground.at, List.any_eq_false, Spot.at, Bool.and_eq_true, Nat.ble_eq, Nat.blt_eq]
  rintro e he ⟨⟨⟨⟨hlo, hhi⟩, -⟩, -⟩, -⟩
  obtain ⟨hcount, n, hn, hblock⟩ := h e he
  have := ha n hn
  omega

theorem State.Inside.onlyLanes {A : Ground} {s t : State} (h : s.Inside A t) {l : List Nat} (hl : A.lanesIn l = true) : s.OnlyLanes l t :=
  fun _ ha => h.rd (Ground.at_lanes hl ha)

theorem State.OnlyLanes.trans {s t u : State} {l : List Nat} (h : s.OnlyLanes l t) (k : t.OnlyLanes l u) : s.OnlyLanes l u :=
  fun a ha => (k a ha).trans (h a ha)

theorem State.OnlyLanes.apart {s t u : State} {l : List Nat} (h : s.OnlyLanes l t) (k : t.Apart u) : s.OnlyLanes l u :=
  fun a ha => (k.rd a).trans (h a ha)

theorem State.Only.apart {s t u : State} {l : List Nat} (h : s.Only l t) (k : t.Apart u) : s.Only l u := fun a ha => (k.rd a).trans (h a ha)

theorem rxLane_lt (r : Fin 24) : rxLane r < 48 := by
  unfold rxLane
  split <;> omega

theorem rxLane_line {r : Fin 24} (h : r.val < 8) : rxLane r = r.val := if_pos h

theorem rxLane_host {r : Fin 24} (h : 8 ≤ r.val) : ¬ rxLane r < 8 := by
  unfold rxLane
  rw [if_neg (by omega)]
  omega

/-! ### Pattern checkers -/

/-- What a checker writes: the fields given, and the lane's event lines. -/
def checkGround (n : Nat) (l : List Fld) : Ground := .of 1 (F.LRX_SEQ_EVT_LINES n) :: l.map (.of 1)

/-- The registers of a checker lie apart, each a field of the lane's block. -/
def checkApart (n : Nat) (syn cnt ev : Fld) : Prop :=
  Separate [cnt, syn, ev] ∧ syn.wd = 1 ∧ cnt.wd = 32 ∧ ev.wd = 1 ∧ (checkGround n [syn, cnt, ev]).lanesIn [n] = true ∧
    (∀ f ∈ [syn, cnt, ev, F.LRX_SEQ_EVT_LINES n], (checkGround n [syn, cnt, ev]).covers f = true) ∧
    (∀ f ∈ [syn, cnt, ev], Ground.misses [.of 1 (F.LRX_SEQ_EVT_LINES n)] f = true) ∧ Ground.covers [.of 1 (F.LRX_SEQ_EVT_LINES n)] (F.LRX_SEQ_EVT_LINES n) = true

theorem lineCheck_apart : ∀ n < 8, checkApart n (F.LRX_PAT_SYNCED n) (F.LRX_PAT_ERR_COUNT n) (F.LRX_EVENT_PAT_ERR n) := by
  unfold checkApart
  decide

theorem hostCheck_apart : ∀ n < 48, checkApart n (F.HRX_PAT_SYNCED n) (F.HRX_PAT_ERR_COUNT n) (F.HRX_EVENT_PAT_ERR n) := by
  unfold checkApart
  decide

/-- The registers of the pattern checker of lane n: synchronisation, error count and event. -/
structure Checker (n : Nat) where
  syn : Fld
  cnt : Fld
  ev  : Fld
  syn_is : (if n < 8 then F.LRX_PAT_SYNCED n else F.HRX_PAT_SYNCED n) = syn
  cnt_is : (if n < 8 then F.LRX_PAT_ERR_COUNT n else F.HRX_PAT_ERR_COUNT n) = cnt
  ev_is  : (if n < 8 then F.LRX_EVENT_PAT_ERR n else F.HRX_EVENT_PAT_ERR n) = ev
  apart  : checkApart n syn cnt ev

/-- The checker of a line lane, and of a host lane. -/
def lineChecker {n : Nat} (h : n < 8) : Checker n :=
  ⟨F.LRX_PAT_SYNCED n, F.LRX_PAT_ERR_COUNT n, F.LRX_EVENT_PAT_ERR n, if_pos h, if_pos h, if_pos h, lineCheck_apart n h⟩

def hostChecker {n : Nat} (h : ¬ n < 8) (hn : n < 48) : Checker n :=
  ⟨F.HRX_PAT_SYNCED n, F.HRX_PAT_ERR_COUNT n, F.HRX_EVENT_PAT_ERR n, if_neg h, if_neg h, if_neg h, hostCheck_apart n hn⟩

section
variable {n : Nat} (k : Checker n) (s : State)

/-- The checker's register and record after a comparison. -/
def Lane.compared (l : Lane) (pat chk : Nat) : Lane := { l.hear pat with chk := chk, chkLog := [] }

/-- The same, and SYNCED. -/
def State.compared (s : State) (k : Checker n) (x : Nat × Nat) : State :=
  (s.onLane n fun l => l.compared (s.checked n) x.1).put k.syn (x.1 != 0)

theorem State.patCheck_eq (h : s.checked n ≠ 0) :
    s.patCheck n = (s.compared k (((s.lane n).hear (s.checked n)).compare n)).patErrors n (((s.lane n).hear (s.checked n)).compare n).2 := by
  unfold State.patCheck State.compared Lane.compared
  dsimp only
  rw [if_neg h, k.syn_is]

theorem State.compared_lane (x : Nat × Nat) : (s.compared k x).lane n = (s.lane n).compared (s.checked n) x.1 := by
  rw [State.compared, State.put_lane, State.onLane_lane, if_pos rfl]

theorem State.compared_syn (x : Nat × Nat) : (s.compared k x).is k.syn = (x.1 != 0) := by
  obtain ⟨⟨-, fits⟩, hwd, -⟩ := k.apart
  exact State.put_is_same _ _ _ (fits _ (by simp)) hwd

theorem State.compared_cnt (x : Nat × Nat) : (s.compared k x).fld k.cnt = s.fld k.cnt := by
  obtain ⟨⟨apart, fits⟩, -⟩ := k.apart
  have hd : k.cnt.Apart k.syn := (List.pairwise_cons.mp apart).1 _ (by simp)
  exact (State.put_fld_apart _ _ _ _ (fits _ (by simp)) hd).trans (State.onLane_fld ..)

theorem State.compared_rd (x : Nat × Nat) {a : Nat} (h : a ≠ k.syn.addr) : (s.compared k x).rd a = s.rd a :=
  (State.put_rd_ne _ _ _ h).trans (State.onLane_rd ..)

theorem State.compared_calm (x : Nat × Nat) : s.Inside (checkGround n [k.syn, k.cnt, k.ev]) (s.compared k x) := by
  obtain ⟨-, -, -, -, -, covers, -⟩ := k.apart
  exact (s.onLane_inside _ _).trans (State.put_inside _ _ (covers _ (by simp)))

/-- Bit errors: counted, with their event; none, none. -/
theorem State.patErrors_eq (e : Nat) : s.patErrors n e = if e = 0 then s else ((s.bump k.cnt e).put k.ev true).line n 14 := by
  unfold State.patErrors
  rw [k.cnt_is, k.ev_is]

theorem State.patErrors_inside (e : Nat) : s.Inside (checkGround n [k.syn, k.cnt, k.ev]) (s.patErrors n e) := by
  obtain ⟨-, -, -, -, -, covers, -⟩ := k.apart
  rw [s.patErrors_eq k]
  exact .ite .refl (((s.bump_inside _ (covers _ (by simp))).trans (State.put_inside _ _ (covers _ (by simp)))).trans
    (State.line_inside _ _ _ (covers _ (by simp))))

include k in
theorem State.patErrors_lane (e m : Nat) : (s.patErrors n e).lane m = s.lane m := by
  obtain ⟨-, -, -, -, -, covers, -⟩ := k.apart
  rw [s.patErrors_eq k]
  split
  · rfl
  · exact (State.line_calm (c := id) _ _ _ (covers _ (by simp))).lanes m

theorem State.patErrors_cnt (e : Nat) : (s.patErrors n e).fld k.cnt = min (s.fld k.cnt + e) 0xFFFFFFFF := by
  obtain ⟨⟨apart, fits⟩, -, hwd, -, -, -, misses, covers⟩ := k.apart
  rw [s.patErrors_eq k]
  split
  · next h =>
    have hlt : s.fld k.cnt < 2 ^ k.cnt.wd := bitsOf_lt _ _ _
    rw [hwd] at hlt
    omega
  · have hd : k.cnt.Apart k.ev := (List.pairwise_cons.mp apart).1 _ (by simp)
    rw [(State.line_inside _ _ _ covers).fld (misses _ (by simp)), State.put_fld_apart _ _ _ _ (fits _ (by simp)) hd,
      State.bump_fld_same _ _ _ (fits _ (by simp)), hwd]
    rfl

theorem State.patErrors_ev {e : Nat} (h : 0 < e) : (s.patErrors n e).is k.ev = true := by
  obtain ⟨⟨-, fits⟩, -, -, hwd, -, -, misses, covers⟩ := k.apart
  rw [s.patErrors_eq k, if_neg (by omega), (State.line_inside _ _ _ covers).is (misses _ (by simp)), State.put_is_same _ _ _ (fits _ (by simp)) hwd]

/-- A synchronised checker counts the bits in which what it received differs from its pattern. -/
theorem checker_counts (r : Fin 24) (k : Checker (rxLane r)) (hon : s.checked (rxLane r) ≠ 0) (hpat : (s.lane (rxLane r)).chkPat = s.checked (rxLane r))
    (hsyn : (s.lane (rxLane r)).chk ≠ 0) :
    Completes (.patternChecker r () ()) s fun t =>
      t.fld k.cnt = min (s.fld k.cnt +
          bitErrors (s.lane (rxLane r)).chkLog (patternRun (rxLane r) (s.checked (rxLane r)) (s.lane (rxLane r)).chk (s.lane (rxLane r)).chkLog.length).1)
        0xFFFFFFFF ∧
      (0 < bitErrors (s.lane (rxLane r)).chkLog (patternRun (rxLane r) (s.checked (rxLane r)) (s.lane (rxLane r)).chk (s.lane (rxLane r)).chkLog.length).1 →
        t.is k.ev = true) ∧
      (t.lane (rxLane r)).chkLog = [] ∧ s.OnlyLanes [rxLane r] t := by
  have hhear : (s.lane (rxLane r)).hear (s.checked (rxLane r)) = s.lane (rxLane r) := if_pos hpat
  have hcmp : ((s.lane (rxLane r)).compare (rxLane r)).2 =
      bitErrors (s.lane (rxLane r)).chkLog (patternRun (rxLane r) (s.checked (rxLane r)) (s.lane (rxLane r)).chk (s.lane (rxLane r)).chkLog.length).1 := by
    rw [Lane.compare, if_neg hsyn, hpat]
  rw [← hcmp]
  have hrun := s.patCheck_eq k hon
  rw [hhear] at hrun
  generalize (s.lane (rxLane r)).compare (rxLane r) = x at hrun
  refine event_completes s (u := (s.compared k x).patErrors (rxLane r) x.2) (congrArg done hrun) fun t ht _ => ⟨?_, fun h => ?_, ?_, ?_⟩
  · rw [ht.fld, State.patErrors_cnt, State.compared_cnt]
  · rw [ht.is, State.patErrors_ev k _ h]
  · rw [ht.lane, State.patErrors_lane k, State.compared_lane]
    rfl
  · obtain ⟨-, -, -, -, hlanes, -⟩ := k.apart
    exact (((s.compared_calm k x).trans (State.patErrors_inside k _ _)).onlyLanes hlanes).apart ht

/-- A checker without synchronisation seeks it in what it has received of its present pattern. -/
theorem checker_seeks (r : Fin 24) (k : Checker (rxLane r)) (hon : s.checked (rxLane r) ≠ 0)
    (hnot : (s.lane (rxLane r)).chkPat ≠ s.checked (rxLane r) ∨ (s.lane (rxLane r)).chk = 0) :
    Completes (.patternChecker r () ()) s fun t =>
      t.is k.syn = (Config.checkerFinds (s.checked (rxLane r))
        (if (s.lane (rxLane r)).chkPat = s.checked (rxLane r) then (s.lane (rxLane r)).chkLog else []) != 0) ∧
      (t.lane (rxLane r)).chkPat = s.checked (rxLane r) ∧ (t.lane (rxLane r)).chkLog = [] ∧ s.Only [k.syn.addr] t := by
  have hhear : ((s.lane (rxLane r)).hear (s.checked (rxLane r))).chk = 0 ∧
      ((s.lane (rxLane r)).hear (s.checked (rxLane r))).chkPat = s.checked (rxLane r) ∧
      ((s.lane (rxLane r)).hear (s.checked (rxLane r))).chkLog =
        if (s.lane (rxLane r)).chkPat = s.checked (rxLane r) then (s.lane (rxLane r)).chkLog else [] := by
    unfold Lane.hear
    split
    · next h => exact ⟨hnot.resolve_left (fun hne => hne h), h, rfl⟩
    · exact ⟨rfl, rfl, rfl⟩
  obtain ⟨hchk, hpat, hlog⟩ := hhear
  have hrun := s.patCheck_eq k hon
  rw [Lane.compare, if_pos hchk, hpat, hlog] at hrun
  have hnone (u : State) : u.patErrors (rxLane r) 0 = u := if_pos rfl
  rw [hnone] at hrun
  generalize Config.checkerFinds (s.checked (rxLane r)) _ = x at hrun ⊢
  refine event_completes s (u := s.compared k (x, 0)) (congrArg done hrun) fun t ht _ => ⟨?_, ?_, ?_, fun a ha => ?_⟩
  · rw [ht.is, State.compared_syn]
  · rw [ht.lane, State.compared_lane]
    exact hpat
  · rw [ht.lane, State.compared_lane]
    rfl
  · rw [ht.rd, State.compared_rd k s _ (by simpa using ha)]

end

end Sys2Proof.Machine
end

section
/-! SUPPORT. Correlator windows, pattern injection and bank words (R62, R84 to R87, R128, R459). -/

namespace Sys2Proof.Machine

/-! ### Words written to consecutive registers -/

section
variable (s : State) (l : List Word) (a : Nat)

theorem State.wrAll_rd_out {b : Nat} (h : ∀ i < l.length, b ≠ a + 4 * i) : (s.wrAll a l).rd b = s.rd b := by
  induction l generalizing s a with
  | nil => rfl
  | cons v vs ih =>
    rw [State.wrAll, ih _ _ fun i hi => by have := h (i + 1) (Nat.succ_lt_succ hi); omega]
    exact State.wr_rd_ne _ _ (by have := h 0 (Nat.succ_pos _); omega)

theorem State.wrAll_rd_at {i : Nat} (h : i < l.length) : (s.wrAll a l).rd (a + 4 * i) = l.getD i 0#32 := by
  induction l generalizing s a i with
  | nil => cases h
  | cons v vs ih =>
    cases i with
    | zero =>
      rw [State.wrAll, State.wrAll_rd_out _ _ _ fun i hi => by omega]
      exact State.wr_rd_same _ _ _
    | succ i =>
      rw [State.wrAll, show a + 4 * (i + 1) = a + 4 + 4 * i by omega, ih _ _ (Nat.lt_of_succ_lt_succ h)]
      rfl

theorem State.wrAll_lane (k : Nat) : (s.wrAll a l).lane k = s.lane k := by
  induction l generalizing s a with
  | nil => rfl
  | cons v vs ih => exact (ih _ _).trans rfl

end

/-! ### The end of a window -/

/-- The correlators and the histogram that a window of lane n leaves. -/
def Lane.sumWords (l : Lane) (n count : Nat) : List Word := (List.range count).map fun i => BitVec.ofInt 32 (corrReport n l.corrLog (l.stat.sums.getD i 0))
def Lane.binWords (l : Lane) (count : Nat) : List Word := (List.range count).map fun b => BitVec.ofNat 32 (tabGet (fun _ => 0) l.stat.bins b)

theorem getD_map_range {f : Nat → Word} {k i : Nat} (h : i < k) : ((List.range k).map f).getD i 0#32 = f i := by
  rw [List.getD_eq_getElem _ _ (by simpa using h), List.getElem_map, List.getElem_range]

/-- The window ended, and its results copied. -/
def State.corrCopied (s : State) (n a sums b bins : Nat) : State :=
  ((s.onLane n fun l => { l with corrRun := false, stat := Stat.init }).wrAll a ((s.lane n).sumWords n sums)).wrAll b ((s.lane n).binWords bins)

section
variable {n : Nat} (s : State)

theorem State.corrCopied_lane (n a sums b bins : Nat) : ((s.corrCopied n a sums b bins).lane n).corrRun = false := by
  rw [State.corrCopied, State.wrAll_lane, State.wrAll_lane, State.onLane_lane, if_pos rfl]

theorem State.corrCopied_sum {a sums b bins i : Nat} (hi : i < sums) (h : a + 4 * sums ≤ b ∨ b + 4 * bins ≤ a) :
    (s.corrCopied n a sums b bins).rd (a + 4 * i) = BitVec.ofInt 32 (corrReport n (s.lane n).corrLog ((s.lane n).stat.sums.getD i 0)) := by
  rw [State.corrCopied, State.wrAll_rd_out _ _ _ fun j hj => by simp [Lane.binWords] at hj; omega,
    State.wrAll_rd_at _ _ _ (by simpa [Lane.sumWords] using hi)]
  exact getD_map_range hi

theorem State.corrCopied_bin {a sums b bins i : Nat} (hi : i < bins) :
    (s.corrCopied n a sums b bins).rd (b + 4 * i) = BitVec.ofNat 32 (tabGet (fun _ => 0) (s.lane n).stat.bins i) := by
  rw [State.corrCopied, State.wrAll_rd_at _ _ _ (by simpa [Lane.binWords] using hi)]
  exact getD_map_range hi

theorem State.corrCopied_rd {a sums b bins c : Nat} (ha : c < a ∨ a + 4 * sums ≤ c) (hb : c < b ∨ b + 4 * bins ≤ c) :
    (s.corrCopied n a sums b bins).rd c = s.rd c := by
  rw [State.corrCopied, State.wrAll_rd_out _ _ _ fun j hj => by simp [Lane.binWords] at hj; omega,
    State.wrAll_rd_out _ _ _ fun j hj => by simp [Lane.sumWords] at hj; omega]
  rfl

/-- The registers that end a window of a line lane beside its results, and those of a host lane. -/
def State.lineEnds (s : State) (n : Nat) : List (Fld × Nat) :=
  [(F.LRX_ERRSQ_VALUE n, (s.lane n).stat.sq / 2 ^ (34 + (s.lane n).corrLog)), (F.LRX_CORR_CTL_PAUSED n, b2n (s.lane n).corrHurt),
    (F.LRX_EVENT_CORR_DONE n, b2n true), (F.LRX_CORR_CTL_DONE n, b2n true)]

def hostEnds (n : Nat) : List (Fld × Nat) := [(F.HRX_CORR_CTL_DONE n, b2n true)]

theorem State.corrEnd_line (hn : n < 8) (hrun : (s.lane n).corrRun = true) (hdue : 2 ^ (s.lane n).corrLog ≤ (s.lane n).stat.n) :
    s.corrEnd n = ((s.corrCopied n (R.LRX_CORR n 0) 66 (R.LRX_HIST n 0) 256).writes (s.lineEnds n)).line n 0 := by
  unfold State.corrEnd
  dsimp only
  rw [if_pos (by simp [hrun, hdue]), if_pos hn, if_pos hn, if_pos hn, if_pos hn, if_pos hn, corrCtl, if_pos hn]
  rfl

theorem State.corrEnd_host (hn : ¬ n < 8) (hrun : (s.lane n).corrRun = true) (hdue : 2 ^ (s.lane n).corrLog ≤ (s.lane n).stat.n) :
    s.corrEnd n = ((s.corrCopied n (R.HRX_CORR n 0) 13 (R.HRX_HIST n 0) 64).writes (hostEnds n)).line n 0 := by
  unfold State.corrEnd
  dsimp only
  rw [if_pos (by simp [hrun, hdue]), if_neg hn, if_neg hn, if_neg hn, if_neg hn, if_neg hn, corrCtl, if_neg hn]
  rfl

theorem State.writes_rd (l : List (Fld × Nat)) {a : Nat} (h : ∀ f ∈ l.map Prod.fst, a ≠ f.addr) : (s.writes l).rd a = s.rd a := by
  induction l generalizing s with
  | nil => rfl
  | cons p l ih =>
    rw [State.writes_cons, ih _ fun f hf => h f (List.mem_cons_of_mem _ hf)]
    exact State.setFld_rd_ne _ _ _ (h p.1 List.mem_cons_self)

/-- The registers that end a window lie apart, fields of the lane's block, none of them a result or the event lines. -/
def endsApart (n : Nat) (l : List Fld) : Prop :=
  Separate l ∧ (∀ f ∈ l, laneBase n ≤ f.addr ∧ f.addr < laneBase n + 0x100) ∧ (∀ f ∈ l, Ground.misses [.of 1 (F.LRX_SEQ_EVT_LINES n)] f = true)

def lineEndFlds (n : Nat) : List Fld := [F.LRX_ERRSQ_VALUE n, F.LRX_CORR_CTL_PAUSED n, F.LRX_EVENT_CORR_DONE n, F.LRX_CORR_CTL_DONE n]

theorem lineEnds_apart : ∀ n < 8, endsApart n (lineEndFlds n) := by
  unfold endsApart
  decide

theorem hostEnds_apart : ∀ n < 48, endsApart n [F.HRX_CORR_CTL_DONE n] := by
  unfold endsApart
  decide

section
variable {u : State} {l : List (Fld × Nat)}

theorem ended_fld (hn : n < 48) (hl : endsApart n (l.map Prod.fst)) {f : Fld} {v : Nat} (h : (f, v) ∈ l) :
    ((u.writes l).line n 0).fld f = v % 2 ^ f.wd := by
  obtain ⟨hsep, -, hmiss⟩ := hl
  rw [(State.line_inside _ _ _ ((by decide : ∀ n < 48, Ground.covers [.of 1 (F.LRX_SEQ_EVT_LINES n)] (F.LRX_SEQ_EVT_LINES n) = true) n hn)).fld
    (hmiss f (List.mem_map_of_mem (f := Prod.fst) h)), State.writes_fld _ hsep h]

theorem ended_is (hn : n < 48) (hl : endsApart n (l.map Prod.fst)) {f : Fld} {b : Bool} (h : (f, b2n b) ∈ l) (hw : f.wd = 1) :
    ((u.writes l).line n 0).is f = b := by
  rw [State.is, ended_fld hn hl h, hw]
  cases b <;> rfl

theorem ended_lane (hn : n < 48) : ((u.writes l).line n 0).lane n = u.lane n :=
  ((State.line_calm (c := id) _ _ _ ((by decide : ∀ n < 48, Ground.covers [.of 1 (F.LRX_SEQ_EVT_LINES n)] (F.LRX_SEQ_EVT_LINES n) = true) n hn)).lanes n).trans
    (u.writes_lane n)

theorem ended_rd (hl : endsApart n (l.map Prod.fst)) {c : Nat} (hc : c < laneBase n ∨ laneBase n + 0x100 ≤ c) (hevt : c ≠ R.LRX_SEQ_EVT n) :
    ((u.writes l).line n 0).rd c = u.rd c := by
  obtain ⟨-, hin, -⟩ := hl
  rw [State.line_rd_ne _ _ _ hevt, State.writes_rd _ _ fun f hf he => ?_]
  have := hin f hf
  omega

end

theorem window_ends_line (r : Fin 24) (hr : r.val < 8) (hrun : (s.lane r).corrRun = true) (hdue : 2 ^ (s.lane r).corrLog ≤ (s.lane r).stat.n) :
    Completes (.correlatorWindowEnd r () () ()) s fun t =>
      (∀ i : Fin 66, t.rd (R.LRX_CORR r i) = BitVec.ofInt 32 ((s.lane r).stat.sums.getD i 0 / ((2 ^ ((s.lane r).corrLog + 7) : Nat) : Int))) ∧
      (∀ i : Fin 256, t.rd (R.LRX_HIST r i) = BitVec.ofNat 32 (tabGet (fun _ => 0) (s.lane r).stat.bins i)) ∧
      t.fld (F.LRX_ERRSQ_VALUE r) = (s.lane r).stat.sq / 2 ^ 34 / 2 ^ (s.lane r).corrLog % 2 ^ 32 ∧ t.is (F.LRX_CORR_CTL_DONE r) = true ∧
      t.is (F.LRX_CORR_CTL_PAUSED r) = (s.lane r).corrHurt ∧ t.is (F.LRX_EVENT_CORR_DONE r) = true ∧ (t.lane r).corrRun = false ∧ s.OnlyLanes [r.val] t := by
  have e : exec (.correlatorWindowEnd r () () ()) s = done (s.corrEnd r.val) := congrArg (fun n => done (s.corrEnd n)) (rxLane_line hr)
  generalize r.val = n at hr hrun hdue e ⊢
  have hends : endsApart n ((s.lineEnds n).map Prod.fst) := lineEnds_apart n hr
  refine event_completes s (e.trans (congrArg done (s.corrEnd_line hr hrun hdue))) fun t ht _ => ⟨fun i => ?_, fun i => ?_, ?_, ?_, ?_, ?_, ?_, fun a ha => ?_⟩
  · rw [ht.rd, ended_rd hends (by simp only [R.LRX_CORR]; omega) (by simp only [R.LRX_CORR, R.LRX_SEQ_EVT]; omega)]
    have h := s.corrCopied_sum (n := n) (a := R.LRX_CORR n 0) (b := R.LRX_HIST n 0) (bins := 256) i.isLt (by simp only [R.LRX_CORR, R.LRX_HIST]; omega)
    rwa [corrReport, if_pos hr] at h
  · rw [ht.rd, ended_rd hends (by simp only [R.LRX_HIST]; omega) (by simp only [R.LRX_HIST, R.LRX_SEQ_EVT]; omega)]
    exact s.corrCopied_bin i.isLt
  · rw [ht.fld, ended_fld (by omega) hends (v := (s.lane n).stat.sq / 2 ^ (34 + (s.lane n).corrLog)) (by simp [State.lineEnds]), Nat.pow_add,
      Nat.div_div_eq_div_mul]
    rfl
  · rw [ht.is, ended_is (by omega) hends (b := true) (by simp [State.lineEnds]) rfl]
  · rw [ht.is, ended_is (by omega) hends (b := (s.lane n).corrHurt) (by simp [State.lineEnds]) rfl]
  · rw [ht.is, ended_is (by omega) hends (b := true) (by simp [State.lineEnds]) rfl]
  · rw [ht.lane, ended_lane (by omega), State.corrCopied_lane]
  · have hout := ha n (by simp)
    rw [ht.rd, ended_rd hends (by simp only [laneBase]; omega) (by simp only [R.LRX_SEQ_EVT, laneBase]; omega),
      s.corrCopied_rd (by simp only [R.LRX_CORR, laneBase]; omega) (by simp only [R.LRX_HIST, laneBase]; omega)]

theorem window_ends_host (r : Fin 24) (hr : 8 ≤ r.val) (hrun : (s.lane (rxLane r)).corrRun = true)
    (hdue : 2 ^ (s.lane (rxLane r)).corrLog ≤ (s.lane (rxLane r)).stat.n) :
    Completes (.correlatorWindowEnd r () () ()) s fun t =>
      (∀ i : Fin 13, t.rd (R.HRX_CORR (rxLane r) i) = BitVec.ofInt 32 ((s.lane (rxLane r)).stat.sums.getD i 0 / 131072)) ∧
      (∀ i : Fin 64, t.rd (R.HRX_HIST (rxLane r) i) = BitVec.ofNat 32 (tabGet (fun _ => 0) (s.lane (rxLane r)).stat.bins i)) ∧
      t.is (F.HRX_CORR_CTL_DONE (rxLane r)) = true ∧ (t.lane (rxLane r)).corrRun = false ∧ s.OnlyLanes [rxLane r] t := by
  have hlt := rxLane_lt r
  have hnot := rxLane_host hr
  have e : exec (.correlatorWindowEnd r () () ()) s = done (s.corrEnd (rxLane r)) := rfl
  generalize rxLane r.val = n at hlt hnot hrun hdue e ⊢
  have hends : endsApart n ((hostEnds n).map Prod.fst) := hostEnds_apart n hlt
  refine event_completes s (e.trans (congrArg done (s.corrEnd_host hnot hrun hdue))) fun t ht _ => ⟨fun i => ?_, fun i => ?_, ?_, ?_, fun a ha => ?_⟩
  · rw [ht.rd, ended_rd hends (by simp only [R.HRX_CORR]; omega) (by simp only [R.HRX_CORR, R.LRX_SEQ_EVT]; omega)]
    have h := s.corrCopied_sum (n := n) (a := R.HRX_CORR n 0) (b := R.HRX_HIST n 0) (bins := 64) i.isLt (by simp only [R.HRX_CORR, R.HRX_HIST]; omega)
    rwa [corrReport, if_neg hnot] at h
  · rw [ht.rd, ended_rd hends (by simp only [R.HRX_HIST]; omega) (by simp only [R.HRX_HIST, R.LRX_SEQ_EVT]; omega)]
    exact s.corrCopied_bin i.isLt
  · rw [ht.is, ended_is hlt hends (b := true) (by simp [hostEnds]) rfl]
  · rw [ht.lane, ended_lane hlt, State.corrCopied_lane]
  · have hout := ha n (by simp)
    rw [ht.rd, ended_rd hends (by simp only [laneBase]; omega) (by simp only [R.LRX_SEQ_EVT, laneBase]; omega),
      s.corrCopied_rd (by simp only [R.HRX_CORR, laneBase]; omega) (by simp only [R.HRX_HIST, laneBase]; omega)]

theorem window_goes_on (r : Fin 24) (h : (s.lane (rxLane r)).corrRun = false ∨ (s.lane (rxLane r)).stat.n < 2 ^ (s.lane (rxLane r)).corrLog) :
    Completes (.correlatorWindowEnd r () () ()) s fun t => s.Only [] t := by
  refine idle_only s (congrArg done (if_neg ?_))
  rcases h with h | h
  · simp [h]
  · simp [Nat.not_le_of_lt h]

end

end Sys2Proof.Machine
end

section
/-! SUPPORT. Pattern injection, window starts and bank words (R62, R86, R128, R459), and with them O10. -/

namespace Sys2Proof.Machine

/-! ### A word with one bit set -/

theorem bitsOf_or_low (v : Nat) {k i : Nat} (h : i ≤ k) : bitsOf (v ||| 2 ^ k) 0 i = bitsOf v 0 i := by
  refine Nat.eq_of_testBit_eq fun j => ?_
  rw [bitsOf_testBit, bitsOf_testBit, Nat.testBit_or, Nat.testBit_two_pow]
  by_cases hj : j < i
  · simp [show k ≠ j by omega]
  · simp [hj]

theorem bitAt_or (v k i : Nat) : bitAt (v ||| 2 ^ k) i = (bitAt v i || decide (k = i)) := by
  rw [← testBit_eq_bitAt, ← testBit_eq_bitAt, Nat.testBit_or, Nat.testBit_two_pow]

theorem bitsOf_one (v i : Nat) : bitsOf v i 1 = b2n (bitAt v i) := by
  unfold bitsOf bitAt b2n
  rcases Nat.mod_two_eq_zero_or_one (v / 2 ^ i) with h | h <;> simp [h]

/-! ### The commands -/

section
variable (m : Master) (s : State)

theorem pattern_injected (j : Fin 24) (h : s.Reached m (if j.val < 8 then R.LTX_PAT (laneOfOut j) else R.HTX_PAT (laneOfOut j))) :
    Completes (.patternInject m j) s fun t => s.Answered m 0 t ∧
      (t.lane (laneOfOut j)).inject = ((s.lane (laneOfOut j)).inject || s.patternSends (laneOfOut j)) ∧ s.Only [] t := by
  refine via_completes (f := fun s => s.patInject (laneOfOut j)) rfl h fun t ht hout => ?_
  unfold State.patInject at ht hout
  by_cases hs : s.patternSends (laneOfOut j) = true
  · simp only [hs, if_true] at ht hout
    refine ⟨hout.trans (by rw [State.onLane_out]; rfl), ?_, fun a _ => by rw [ht.rd, State.onLane_rd]⟩
    rw [ht.lane, State.onLane_lane, if_pos rfl, hs, Bool.or_true]
  · rw [Bool.not_eq_true] at hs
    simp only [hs] at ht hout
    exact ⟨hout, by rw [ht.lane, hs, Bool.or_false]; rfl, fun a _ => ht.rd a⟩

/-- A window asked for: its length, its histogram source on a line lane, and START. -/
def State.corrAsked (s : State) (n : Nat) (v : Word) : State :=
  let s := s.setFld ⟨corrCtl n, 0, 5⟩ v.toNat
  if n < 8 then s.setFld (F.LRX_CORR_CTL_HIST_SRC n) (b2n (bitAt v.toNat 7)) else s

theorem State.corrWrite_start (n : Nat) (v : Word) : s.corrWrite n (v ||| 0x100#32) = ((s.corrAsked n v).corrStart n, .ok) := by
  have hv : (v ||| 0x100#32).toNat = v.toNat ||| 2 ^ 8 := BitVec.toNat_or ..
  have hlen : s.setFld ⟨corrCtl n, 0, 5⟩ (v.toNat ||| 2 ^ 8) = s.setFld ⟨corrCtl n, 0, 5⟩ v.toNat := by
    have h := bitsOf_or_low v.toNat (show 5 ≤ 8 by decide)
    simp only [bitsOf, Nat.pow_zero, Nat.div_one] at h
    unfold State.setFld setBits
    simp only [h]
  unfold State.corrWrite State.corrAsked
  rw [hv, hlen, bitAt_or, bitsOf_one, bitAt_or]
  simp

theorem State.corrAsked_len (n : Nat) (v : Word) : (s.corrAsked n v).fld ⟨corrCtl n, 0, 5⟩ = v.toNat % 32 := by
  unfold State.corrAsked
  dsimp only
  split
  · rw [State.setFld_fld_apart _ _ _ _ (Fld.fits_of rfl) (.inr (.inl (by simp [F.LRX_CORR_CTL_HIST_SRC]))), State.setFld_fld_same _ _ _ (by simp)]
    rfl
  · rw [State.setFld_fld_same _ _ _ (by simp)]
    rfl

theorem State.corrAsked_src {n : Nat} (hn : n < 8) (v : Word) : (s.corrAsked n v).is (F.LRX_CORR_CTL_HIST_SRC n) = bitAt v.toNat 7 := by
  rw [State.corrAsked, if_pos hn]
  exact State.put_is_same _ _ _ (Fld.fits_of rfl) rfl

theorem State.corrAsked_rd (n : Nat) (v : Word) {a : Nat} (h : a ≠ corrCtl n) : (s.corrAsked n v).rd a = s.rd a := by
  unfold State.corrAsked
  dsimp only
  split
  · next hn =>
    rw [State.setFld_rd_ne _ _ _ (by rw [corrCtl, if_pos hn] at h; exact h), State.setFld_rd_ne _ _ _ h]
  · exact State.setFld_rd_ne _ _ _ h

theorem State.corrAsked_out (n : Nat) (v : Word) : (s.corrAsked n v).out = s.out := by
  unfold State.corrAsked
  dsimp only
  split <;> simp only [State.setFld_out]

theorem window_asked (r : Fin 24) (v : Word) (h : s.Reached m (corrCtl (rxLane r))) :
    Completes (.correlatorStart m r v) s fun t => s.Answered m 0 t ∧ (t.lane (rxLane r)).corrGo = true ∧
      t.fld ⟨corrCtl (rxLane r), 0, 5⟩ = v.toNat % 32 ∧ (r.val < 8 → t.is (F.LRX_CORR_CTL_HIST_SRC r) = bitAt v.toNat 7) ∧ s.Only [corrCtl (rxLane r)] t := by
  refine via_completes (f := fun s => s.corrWrite (rxLane r) (v ||| 0x100#32)) rfl h fun t ht hout => ?_
  simp only [State.corrWrite_start] at ht hout
  refine ⟨hout.trans ?_, ?_, ?_, fun hr => ?_, fun a ha => ?_⟩
  · rw [State.corrStart, State.onLane_out, State.corrAsked_out]
    rfl
  · rw [ht.lane, State.corrStart, State.onLane_lane, if_pos rfl]
  · rw [ht.fld, State.corrStart, State.onLane_fld, State.corrAsked_len]
  · rw [ht.is, State.corrStart, State.onLane_is, rxLane_line hr]
    exact s.corrAsked_src hr v
  · rw [ht.rd, State.corrStart, State.onLane_rd, State.corrAsked_rd s _ _ (by simpa using ha)]

theorem shadow_written (n : Fin 48) (b : Bool) (w : Fin 64) (v : Word) (h : s.Reached m (bankAddr n b w)) (hb : s.bankB n ≠ b) :
    Completes (.bankWrite m n b w v) s fun t => s.Answered m 0 t ∧ t.rd (bankAddr n b w) = BitVec.ofNat 32 (v.toNat &&& bankMask n w) ∧
      s.Only [bankAddr n b w] t := by
  refine via_completes (f := fun s => s.bankWrite n b w v) rfl h fun t ht hout => ?_
  have hrun : s.bankWrite n b w v = (s.wr (bankAddr n b w) (BitVec.ofNat 32 (v.toNat &&& bankMask n w)), .ok) := by
    rw [State.bankWrite, if_neg fun e => hb e.symm, State.setShadow, show (!s.bankB n) = b by cases b <;> simpa using hb]
  simp only [hrun] at ht hout
  refine ⟨hout, ?_, fun a ha => ?_⟩
  · rw [ht.rd, State.wr_rd_same]
  · rw [ht.rd, State.wr_rd_ne _ _ (by simpa using ha)]

theorem active_refuses (n : Fin 48) (b : Bool) (w : Fin 64) (v : Word) (h : s.Reached m (bankAddr n b w)) (hb : s.bankB n = b) :
    Completes (.bankWrite m n b w v) s fun t => s.Answered m 1 t ∧ s.Only [] t := by
  refine via_completes (f := fun s => s.bankWrite n b w v) rfl h fun t ht hout => ?_
  simp only [State.bankWrite, hb, if_true] at ht hout
  exact ⟨hout, fun a _ => ht.rd a⟩

end

/-- A checker that does not compare changes nothing. -/
theorem checker_rests (r : Fin 24) (s : State) (h : s.checked (rxLane r) = 0) : Completes (.patternChecker r () ()) s fun t => s.Only [] t ∧ t.lanes = s.lanes :=
  idle_completes s (congrArg done (if_pos h))

/-- Settles O10. -/
theorem patternsCorrelatorsAndBankWords : Obligations.PatternsCorrelatorsAndBankWords := by
  unfold Obligations.PatternsCorrelatorsAndBankWords
  refine ⟨fun m j s h => pattern_injected m s j h, fun r s hon hpat hsyn hr => ?_, fun r s hon hnot hr => ?_, fun r s h => checker_rests r s h,
    fun r s hon hpat hsyn hr => ?_, fun r s hon hnot hr => ?_, fun m r v s h => window_asked m s r v h, fun r s hr => window_ends_line s r hr,
    fun r s hr => window_ends_host s r hr, fun r s h => window_goes_on s r h, fun m n b w v s h hb => shadow_written m s n b w v h hb,
    fun m n b w v s h hb => ?_⟩
  · exact checker_counts s r (lineChecker (by rw [rxLane_line hr]; exact hr)) hon hpat hsyn
  · exact checker_seeks s r (lineChecker (by rw [rxLane_line hr]; exact hr)) hon hnot
  · exact checker_counts s r (hostChecker (rxLane_host hr) (rxLane_lt r)) hon hpat hsyn
  · exact checker_seeks s r (hostChecker (rxLane_host hr) (rxLane_lt r)) hon hnot
  · exact active_refuses m s n b w v h hb

end Sys2Proof.Machine
end

section
/-! SUPPORT. Host receive lanes' states, clock recovery's locks and HTX squelch (R64 to R67, R83), and with them O9. -/

namespace Sys2Proof.Machine

/-! ### A host lane enters a state -/

/-- A lane without its monitor units and the memory of a reference followed. -/
def Lane.butFollowed (l : Lane) : Lane := { l.butUnits with followed := false }

/-- The reference of the transmit synthesisers. -/
def freqGround : Ground := [.of 8 (F.LTX_STATUS_FREQ_SRC 8)]

/-- What a host lane's change of state writes beside the state. -/
def hostTail : Ground := freqGround ++ syncGround

def hostGround : Ground := .of 16 (F.HRX_STATUS_STATE 16) :: hostTail

theorem hostGround_dev : hostGround.devIn recalRegs = true := by decide
theorem syncGround_host : syncGround ⊆ hostTail := List.subset_append_right _ _
theorem freqGround_host : freqGround ⊆ hostTail := List.subset_append_left _ _
theorem hostTail_host : hostTail ⊆ hostGround := List.subset_cons_self _ _
theorem hostTail_state : ∀ n < 48, hostTail.misses (F.HRX_STATUS_STATE n) = true := by decide

/-- The line lane of a slot is one of eight. -/
theorem State.lineOf_lt (s : State) (n : Nat) : s.lineOf n < 8 := by
  have h : s.fld (F.HRX_STATUS_ACTIVE_SLOT n) < 2 ^ 4 := bitsOf_lt _ _ _
  unfold State.lineOf State.slot
  omega

section
variable {n : Nat} (s : State)

theorem State.syncFreq_calm {k : Nat} (hk : k < 8) : s.Calm freqGround Lane.butFollowed (s.syncFreq k) := by
  unfold State.syncFreq
  extract_lets up chosen followed
  have hcov := (by decide : ∀ k < 8, freqGround.covers (F.LTX_STATUS_FREQ_SRC (k + 8)) = true) k hk
  have hfollowed : s.Calm freqGround Lane.butFollowed followed := .ite (State.onLane_calm _ _ fun _ => rfl) .refl
  exact .ite .refl (hfollowed.trans (State.setFld_calm _ _ hcov))

/-- The state written, after the monitors that a lane leaving UP drops. -/
theorem State.hrxDown_calm (st : Nat) : ∃ u : State, s.Calm syncGround Lane.butUnits u ∧ s.hrxDown n st = u.setFld (F.HRX_STATUS_STATE n) st :=
  ⟨_, .ite (s.rsDrop_calm (by decide) _) .refl, rfl⟩

/-- A change of a host lane's state: what comes before it, the state, and what follows. -/
theorem State.hrxSet_calm (hlo : 16 ≤ n) (hhi : n < 32) {st : Nat} (h : s.fld (F.HRX_STATUS_STATE n) ≠ st) (hst : st ≠ 1) :
    ∃ u : State, s.Calm syncGround Lane.butUnits u ∧ (u.setFld (F.HRX_STATUS_STATE n) st).Calm hostTail Lane.butFollowed (s.hrxSet n st) := by
  obtain ⟨u, hu, hdown⟩ := s.hrxDown_calm (n := n) st
  refine ⟨u, hu, ?_⟩
  unfold State.hrxSet
  dsimp only
  rw [if_neg h, if_neg hst, hdown]
  have hline : (u.setFld (F.HRX_STATUS_STATE n) st).Calm syncGround Lane.butFollowed ((u.setFld (F.HRX_STATUS_STATE n) st).line n 4) :=
    State.line_calm _ _ _ (syncGround_lines n (by omega))
  exact ((hline.trans (State.calCheck_calm _ (by omega))).widen syncGround_host).trans ((State.syncFreq_calm _ (State.lineOf_lt _ _)).widen freqGround_host)

/-- The same into ACQ, which waits for a new ready post. -/
theorem State.hrxSet_acq (hlo : 16 ≤ n) (hhi : n < 32) (h : s.fld (F.HRX_STATUS_STATE n) ≠ 1) :
    ∃ u v : State, s.Calm syncGround Lane.butUnits u ∧ (u.setFld (F.HRX_STATUS_STATE n) 1).Calm lineGround id v ∧
      (v.onLane n fun l => { l with ready := false }).Calm hostTail Lane.butFollowed (s.hrxSet n 1) := by
  obtain ⟨u, hu, hdown⟩ := s.hrxDown_calm (n := n) 1
  refine ⟨u, _, hu, State.line_calm _ n 4 (lineGround_covers n (by omega)), ?_⟩
  unfold State.hrxSet
  dsimp only
  rw [if_neg h, if_pos rfl, hdown]
  exact ((State.calCheck_calm _ (by omega)).widen syncGround_host).trans ((State.syncFreq_calm _ (State.lineOf_lt _ _)).widen freqGround_host)

theorem hostState_covers : ∀ n < 32, 16 ≤ n → hostGround.covers (F.HRX_STATUS_STATE n) = true := by decide

/-- A host lane enters DARK, UP or LOS. -/
theorem State.hrxSet_enters (hlo : 16 ≤ n) (hhi : n < 32) {st : Nat} (h : s.fld (F.HRX_STATUS_STATE n) ≠ st) (h1 : st ≠ 1) (h4 : st < 4) :
    (s.hrxSet n st).fld (F.HRX_STATUS_STATE n) = st ∧ s.Inside hostGround (s.hrxSet n st) ∧ s.Beside (s.hrxSet n st) := by
  obtain ⟨u, hu, hrest⟩ := s.hrxSet_calm hlo hhi h h1
  refine ⟨?_, ?_, ?_⟩
  · rw [hrest.inside.fld (hostTail_state n (by omega)), State.setFld_fld_same _ _ _ (Fld.fits_of rfl)]
    exact Nat.mod_eq_of_lt h4
  · exact ((hu.inside.mono (List.Subset.trans syncGround_host hostTail_host)).trans (State.setFld_inside _ _ (hostState_covers n hhi hlo))).trans
      (hrest.inside.mono hostTail_host)
  · exact (hu.beside.trans (State.setFld_calm (A := hostGround) (c := id) _ _ (hostState_covers n hhi hlo)).beside).trans hrest.beside

/-- A host lane enters ACQ. -/
theorem State.hrxSet_acquires (hlo : 16 ≤ n) (hhi : n < 32) (h : s.fld (F.HRX_STATUS_STATE n) ≠ 1) :
    (s.hrxSet n 1).fld (F.HRX_STATUS_STATE n) = 1 ∧ s.Inside hostGround (s.hrxSet n 1) ∧ ((s.hrxSet n 1).lane n).ready = false := by
  obtain ⟨u, v, hu, hv, hrest⟩ := s.hrxSet_acq hlo hhi h
  refine ⟨?_, ?_, ?_⟩
  · rw [hrest.inside.fld (hostTail_state n (by omega)), State.onLane_fld,
      hv.inside.fld ((by decide : ∀ n < 48, lineGround.misses (F.HRX_STATUS_STATE n) = true) n (by omega)), State.setFld_fld_same _ _ _ (Fld.fits_of rfl)]
    rfl
  · have hset : s.Inside hostGround (u.setFld (F.HRX_STATUS_STATE n) 1) :=
      (hu.inside.mono (List.Subset.trans syncGround_host hostTail_host)).trans (State.setFld_inside _ _ (hostState_covers n hhi hlo))
    exact ((hset.trans (hv.inside.mono (List.Subset.trans lineGround_sync (List.Subset.trans syncGround_host hostTail_host)))).trans
      (State.onLane_inside _ _ _)).trans (hrest.inside.mono hostTail_host)
  · have hready := congrArg Lane.ready (hrest.lanes n)
    rw [State.onLane_lane, if_pos rfl] at hready
    exact hready

/-- A host lane that comes UP: nothing that depends on data ends. -/
theorem State.hrxSet_up (hlo : 16 ≤ n) (hhi : n < 32) (h : s.fld (F.HRX_STATUS_STATE n) = 1) :
    s.hrxSet n 2 = ((s.setFld (F.HRX_STATUS_STATE n) 2).line n 4).syncFreq (s.lineOf n) := by
  have hline : (s.setFld (F.HRX_STATUS_STATE n) 2).Calm lineGround id ((s.setFld (F.HRX_STATUS_STATE n) 2).line n 4) :=
    State.line_calm _ n 4 (lineGround_covers n (by omega))
  have hrel : ((s.setFld (F.HRX_STATUS_STATE n) 2).line n 4).releasing n = true := by
    rw [State.releasing, if_neg (by omega), if_neg (by omega), if_pos hhi,
      hline.inside.fld ((by decide : ∀ n < 48, lineGround.misses (F.HRX_STATUS_STATE n) = true) n (by omega)), State.setFld_fld_same _ _ _ (Fld.fits_of rfl)]
    rfl
  have hof : ((s.setFld (F.HRX_STATUS_STATE n) 2).line n 4).lineOf n = s.lineOf n := by
    rw [State.lineOf, State.slot, hline.inside.fld ((by decide : ∀ n < 48, lineGround.misses (F.HRX_STATUS_ACTIVE_SLOT n) = true) n (by omega)),
      State.setFld_fld_apart _ _ _ _ (Fld.fits_of rfl) (Fld.apart_of_bits rfl)]
    rfl
  have hdown : s.hrxDown n 2 = s.setFld (F.HRX_STATUS_STATE n) 2 := by
    rw [State.hrxDown, if_neg (by omega)]
  unfold State.hrxSet
  dsimp only
  rw [if_neg (show ¬ s.fld (F.HRX_STATUS_STATE n) = 2 by omega), if_neg (show ¬ 2 = 1 by decide), hdown, State.calCheck, if_pos hrel, hof]

end

end Sys2Proof.Machine
end

section
/-! SUPPORT. The events of host lanes and of clock recovery (R64 to R67, R83), and with them O9. -/

namespace Sys2Proof.Machine

theorem State.Apart.trans_eq {s t : State} (h : s.Apart t) : t.trans = s.trans := by
  obtain ⟨_, _, _, rfl⟩ := h
  rfl

/-- The fields of a host lane that its events write. -/
def hostEvents : Ground := [.of 16 (F.HRX_STATUS_CDR_LOCK 16), .of 16 (F.HRX_EVENT_CDR_UNLOCK 16), .of 16 (F.HRX_EVENT_LOS_ENTER 16),
  .of 16 (F.HRX_EVENT_LOS_EXIT 16)] ++ lineGround

theorem hostEvents_covers : ∀ n < 32, 16 ≤ n → ∀ f ∈ [F.HRX_STATUS_CDR_LOCK n, F.HRX_EVENT_CDR_UNLOCK n, F.HRX_EVENT_LOS_ENTER n, F.HRX_EVENT_LOS_EXIT n,
    F.LRX_SEQ_EVT_LINES n], hostEvents.covers f = true := by decide
theorem hostEvents_state : ∀ n < 48, hostEvents.misses (F.HRX_STATUS_STATE n) = true := by decide
theorem hostEvents_dev : hostEvents.devIn recalRegs = true := by decide
theorem hostGround_events : ∀ n < 32, 16 ≤ n → ∀ f ∈ [F.HRX_EVENT_LOS_ENTER n, F.HRX_EVENT_LOS_EXIT n], hostGround.misses f = true := by decide

theorem State.syncFreq_rd (s : State) (k : Nat) {a : Nat} (h : a ≠ R.LTX_STATUS (k + 8)) : (s.syncFreq k).rd a = s.rd a := by
  unfold State.syncFreq
  extract_lets up chosen followed
  have hfollowed : followed.rd a = s.rd a := by
    unfold followed
    split
    · exact State.onLane_rd ..
    · rfl
  split
  · rfl
  · exact (State.setFld_rd_ne _ _ _ h).trans hfollowed

/-- A host lane in UP that loses its signal. -/
def State.losEnter (s : State) (n : Nat) : State := ((s.put (F.HRX_EVENT_LOS_ENTER n) true).line n 5).hrxSet n 3

/-- One in LOS that regains it. -/
def State.losExit (s : State) (n : Nat) : State := ((s.put (F.HRX_EVENT_LOS_EXIT n) true).line n 6).hrxSet n 1

section
variable {n : Nat} (s : State)

/-- An event of a host lane and its line leave the state. -/
theorem State.hostEvent_kept (hlo : 16 ≤ n) (hhi : n < 32) {f : Fld}
    (hf : f ∈ [F.HRX_STATUS_CDR_LOCK n, F.HRX_EVENT_CDR_UNLOCK n, F.HRX_EVENT_LOS_ENTER n, F.HRX_EVENT_LOS_EXIT n, F.LRX_SEQ_EVT_LINES n]) (i : Nat) :
    s.Calm hostEvents id ((s.put f true).line n i) :=
  (s.put_calm _ (hostEvents_covers n hhi hlo f hf)).trans (State.line_calm _ _ _ (hostEvents_covers n hhi hlo _ (by simp)))

theorem State.losEnter_enters (hlo : 16 ≤ n) (hhi : n < 32) (h : s.fld (F.HRX_STATUS_STATE n) = 2) :
    (s.losEnter n).fld (F.HRX_STATUS_STATE n) = 3 ∧ (s.losEnter n).is (F.HRX_EVENT_LOS_ENTER n) = true ∧ s.Inside (hostEvents ++ hostGround) (s.losEnter n) ∧
      s.Beside (s.losEnter n) := by
  have hev : s.Calm hostEvents id ((s.put (F.HRX_EVENT_LOS_ENTER n) true).line n 5) := s.hostEvent_kept hlo hhi (by simp) 5
  have hbit : ((s.put (F.HRX_EVENT_LOS_ENTER n) true).line n 5).is (F.HRX_EVENT_LOS_ENTER n) = true := by
    rw [(State.line_inside _ _ _ (lineGround_covers n (by omega))).is ((by decide : ∀ n < 48, lineGround.misses (F.HRX_EVENT_LOS_ENTER n) = true) n (by omega)),
      State.put_is_same _ _ _ (Fld.fits_of rfl) rfl]
  have hstate := hev.inside.fld (hostEvents_state n (by omega))
  unfold State.losEnter
  generalize (s.put (F.HRX_EVENT_LOS_ENTER n) true).line n 5 = u at hev hbit hstate
  obtain ⟨h3, hin, hbeside⟩ := u.hrxSet_enters hlo hhi (st := 3) (by omega) (by decide) (by decide)
  refine ⟨h3, ?_, (hev.inside.mono (List.subset_append_left _ _)).trans (hin.mono (List.subset_append_right _ _)), hev.beside.trans hbeside⟩
  rw [hin.is (hostGround_events n hhi hlo _ (by simp)), hbit]

theorem State.losExit_exits (hlo : 16 ≤ n) (hhi : n < 32) (h : s.fld (F.HRX_STATUS_STATE n) = 3) :
    (s.losExit n).fld (F.HRX_STATUS_STATE n) = 1 ∧ (s.losExit n).is (F.HRX_EVENT_LOS_EXIT n) = true ∧ s.Inside (hostEvents ++ hostGround) (s.losExit n) ∧
      ((s.losExit n).lane n).ready = false := by
  have hev : s.Calm hostEvents id ((s.put (F.HRX_EVENT_LOS_EXIT n) true).line n 6) := s.hostEvent_kept hlo hhi (by simp) 6
  have hbit : ((s.put (F.HRX_EVENT_LOS_EXIT n) true).line n 6).is (F.HRX_EVENT_LOS_EXIT n) = true := by
    rw [(State.line_inside _ _ _ (lineGround_covers n (by omega))).is ((by decide : ∀ n < 48, lineGround.misses (F.HRX_EVENT_LOS_EXIT n) = true) n (by omega)),
      State.put_is_same _ _ _ (Fld.fits_of rfl) rfl]
  have hstate := hev.inside.fld (hostEvents_state n (by omega))
  unfold State.losExit
  generalize (s.put (F.HRX_EVENT_LOS_EXIT n) true).line n 6 = u at hev hbit hstate
  obtain ⟨h1, hin, hready⟩ := u.hrxSet_acquires hlo hhi (by omega)
  refine ⟨h1, ?_, (hev.inside.mono (List.subset_append_left _ _)).trans (hin.mono (List.subset_append_right _ _)), hready⟩
  rw [hin.is (hostGround_events n hhi hlo _ (by simp)), hbit]

end

theorem hostAll_dev : Ground.devIn (hostEvents ++ hostGround) recalRegs = true := by decide

section
variable (k : Fin 16) (s : State)

theorem host_comes_up (hst : s.fld (F.HRX_STATUS_STATE (16 + k)) = 1) (hlock : s.is (F.HRX_STATUS_CDR_LOCK (16 + k)) = true)
    (hready : (s.lane (16 + k)).ready = true) (hin : s.oos (16 + k) = false) :
    Completes (.hrxLaneUp k) s fun t => t.fld (F.HRX_STATUS_STATE (16 + k)) = 2 ∧ t.trans.waitFor = s.trans.waitFor.filter (fun n => n != 16 + k.val) ∧
      s.OnlyLanes [16 + k.val, 8 + s.lineOf (16 + k)] t := by
  have hlo : 16 ≤ 16 + k.val := by omega
  have hhi : 16 + k.val < 32 := by omega
  have hrun : s.hrxUp (16 + k) = (s.hrxSet (16 + k) 2).lanesDone [16 + k.val] := if_pos (by simp [hst, hlock, hready, hin])
  obtain ⟨hstate, -, hbeside⟩ := s.hrxSet_enters hlo hhi (st := 2) (by omega) (by decide) (by decide)
  refine event_completes s (u := (s.hrxSet (16 + k) 2).lanesDone [16 + k.val]) (congrArg done hrun) fun t ht _ => ⟨?_, ?_, fun a ha => ?_⟩
  · rw [ht.fld, State.fld, State.lanesDone_rd, ← State.fld, hstate]
  · rw [ht.trans_eq, State.lanesDone, hbeside.trans_eq]
    exact List.filter_congr fun n _ => by simp [bne, BEq.beq]
  · have h1 := ha _ (List.mem_cons_self ..)
    have h2 := ha _ (List.mem_cons_of_mem _ (List.mem_cons_self ..))
    rw [ht.rd, State.lanesDone_rd, s.hrxSet_up hlo hhi hst]
    generalize hof : s.lineOf (16 + k) = m at h2 ⊢
    have hm : m < 8 := hof ▸ s.lineOf_lt _
    generalize hu : (s.setFld (F.HRX_STATUS_STATE (16 + k)) 2).line (16 + k) 4 = u
    have hrd : u.rd a = s.rd a := by
      rw [← hu, State.line_rd_ne _ _ _ (by simp only [F.LRX_SEQ_EVT_LINES, R.LRX_SEQ_EVT, laneBase]; omega),
        State.setFld_rd_ne _ _ _ (by simp only [F.HRX_STATUS_STATE, R.HRX_STATUS, laneBase]; omega)]
    rw [u.syncFreq_rd m (by simp only [R.LTX_STATUS, laneBase]; omega), hrd]

/-- Where the signal is gone a lane in UP enters LOS, from a state that differs in the loss of its lock at most. -/
theorem State.hrxLos_gone {n : Nat} (hlo : 16 ≤ n) (hhi : n < 32) (mv : Nat) (unlocked : Bool) (hst : s.fld (F.HRX_STATUS_STATE n) = 2)
    (hgone : mv < 40 ∨ unlocked = true ∨ s.is (F.HRX_STATUS_CDR_LOCK n) = false) :
    ∃ v : State, s.Inside hostEvents v ∧ s.hrxLos n mv unlocked = v.losEnter n := by
  unfold State.hrxLos
  rw [if_pos hst]
  dsimp only
  cases hlock : s.is (F.HRX_STATUS_CDR_LOCK n)
  · exact ⟨s, .refl, by simp [hlock, State.losEnter]⟩
  · cases unlocked
    · have hmv : mv < 40 := hgone.resolve_right (by simp [hlock])
      exact ⟨s, .refl, by simp [hlock, State.noSignal, hmv, State.losEnter]⟩
    · refine ⟨((s.put (F.HRX_STATUS_CDR_LOCK n) false).put (F.HRX_EVENT_CDR_UNLOCK n) true).line n 7, ?_, ?_⟩
      · exact (s.put_inside _ (hostEvents_covers n hhi hlo _ (by simp))).trans (State.hostEvent_kept _ hlo hhi (by simp) 7).inside
      · have hoff : (((s.put (F.HRX_STATUS_CDR_LOCK n) false).put (F.HRX_EVENT_CDR_UNLOCK n) true).line n 7).is (F.HRX_STATUS_CDR_LOCK n) = false := by
          rw [(State.line_inside _ _ _ (lineGround_covers n (by omega))).is
              ((by decide : ∀ n < 48, lineGround.misses (F.HRX_STATUS_CDR_LOCK n) = true) n (by omega)),
            State.put_is_apart _ _ _ _ (Fld.fits_of rfl) (Fld.apart_of_offsets rfl rfl (by decide)), State.put_is_same _ _ _ (Fld.fits_of rfl) rfl]
        simp [hoff, State.losEnter]

theorem signal_lost (mv : Nat) (unlocked : Bool) (hst : s.fld (F.HRX_STATUS_STATE (16 + k)) = 2)
    (hgone : mv < 40 ∨ unlocked = true ∨ s.is (F.HRX_STATUS_CDR_LOCK (16 + k)) = false) :
    Completes (.hrxLos k mv unlocked) s fun t => t.fld (F.HRX_STATUS_STATE (16 + k)) = 3 ∧ t.is (F.HRX_EVENT_LOS_ENTER (16 + k)) = true ∧ s.OnlyDev recalRegs t := by
  obtain ⟨v, hv, hrun⟩ := s.hrxLos_gone (n := 16 + k) (by omega) (by omega) mv unlocked hst hgone
  have hkept := hv.fld (hostEvents_state (16 + k) (by omega))
  obtain ⟨h3, hev, hin, -⟩ := v.losEnter_enters (n := 16 + k) (by omega) (by omega) (hkept.trans hst)
  refine event_completes s (congrArg done hrun) fun t ht _ => ⟨by rw [ht.fld, h3], by rw [ht.is, hev], fun a hdev ha => ?_⟩
  rw [ht.rd]
  exact ((hv.mono (List.subset_append_left _ _)).trans hin).onlyDev hostAll_dev a hdev ha

theorem signal_kept (mv : Nat) (hst : s.fld (F.HRX_STATUS_STATE (16 + k)) = 2) (hlock : s.is (F.HRX_STATUS_CDR_LOCK (16 + k)) = true) (hmv : 120 < mv) :
    Completes (.hrxLos k mv false) s fun t => s.Only [] t :=
  idle_only s (congrArg done (by simp [State.hrxLos, hst, hlock, State.noSignal, hmv, show ¬ mv < 40 by omega]))

theorem signal_open (mv : Nat) (hst : s.fld (F.HRX_STATUS_STATE (16 + k)) = 2) (hlock : s.is (F.HRX_STATUS_CDR_LOCK (16 + k)) = true) (h40 : 40 ≤ mv)
    (h120 : mv ≤ 120) :
    Completes (.hrxLos k mv false) s fun t => t.fld (F.HRX_STATUS_STATE (16 + k)) = (if Config.openBand s.free then 3 else 2) ∧ t.free = s.free + 1 ∧
      s.OnlyDev recalRegs t := by
  have hrun : s.hrxLos (16 + k) mv false = if Config.openBand s.free then s.use.losEnter (16 + k) else s.use := by
    simp [State.hrxLos, hst, hlock, State.noSignal, show ¬ mv < 40 by omega, show ¬ 120 < mv by omega, State.losEnter]
  cases hband : Config.openBand s.free
  · rw [hband, if_neg (by decide)] at hrun
    exact event_completes s (congrArg done hrun) fun t ht _ => ⟨(ht.fld _).trans hst, ht.free, fun a _ _ => ht.rd a⟩
  · rw [hband, if_pos rfl] at hrun
    obtain ⟨h3, -, hin, hbeside⟩ := s.use.losEnter_enters (n := 16 + k) (by omega) (by omega) hst
    refine event_completes s (congrArg done hrun) fun t ht _ => ⟨by rw [ht.fld, h3, if_pos rfl], by rw [ht.free, hbeside.free]; rfl, fun a hdev ha => ?_⟩
    rw [ht.rd]
    exact hin.onlyDev hostAll_dev a hdev ha

theorem signal_back (mv : Nat) (hst : s.fld (F.HRX_STATUS_STATE (16 + k)) = 3) (hlock : s.is (F.HRX_STATUS_CDR_LOCK (16 + k)) = true) (hmv : 120 < mv) :
    Completes (.hrxLosExit k mv) s fun t => t.fld (F.HRX_STATUS_STATE (16 + k)) = 1 ∧ t.is (F.HRX_EVENT_LOS_EXIT (16 + k)) = true ∧
      (t.lane (16 + k)).ready = false ∧ s.OnlyDev recalRegs t := by
  have hrun : s.hrxBack (16 + k) mv = s.losExit (16 + k) := by
    simp [State.hrxBack, hst, hlock, State.noSignal, show ¬ mv < 40 by omega, hmv, State.losExit]
  obtain ⟨h1, hev, hin, hready⟩ := s.losExit_exits (n := 16 + k) (by omega) (by omega) hst
  refine event_completes s (congrArg done hrun) fun t ht _ =>
    ⟨by rw [ht.fld, h1], by rw [ht.is, hev], by rw [ht.lane, hready], fun a hdev ha => ?_⟩
  rw [ht.rd]
  exact hin.onlyDev hostAll_dev a hdev ha

theorem signal_still_gone (mv : Nat) (hst : s.fld (F.HRX_STATUS_STATE (16 + k)) = 3) (h : mv < 40 ∨ s.is (F.HRX_STATUS_CDR_LOCK (16 + k)) = false) :
    Completes (.hrxLosExit k mv) s fun t => s.Only [] t := by
  refine idle_only s (congrArg done ?_)
  cases hlock : s.is (F.HRX_STATUS_CDR_LOCK (16 + k))
  · simp [State.hrxBack, hlock]
  · simp [State.hrxBack, hst, hlock, State.noSignal, h.resolve_right (by simp [hlock])]

end

/-! ### Clock recovery -/

/-- The fields that clock recovery of line lane n writes, and its event lines. -/
def cdrGround (n : Nat) : Ground := [.of 1 (F.LRX_CDR_STAT_FREQ_OFS n), .of 1 (F.LRX_STATUS_CDR_LOCK n), .of 1 (F.LRX_EVENT_CDR_UNLOCK n),
  .of 1 (F.LRX_SEQ_EVT_LINES n)]

theorem cdrGround_covers : ∀ n < 8, ∀ f ∈ [F.LRX_CDR_STAT_FREQ_OFS n, F.LRX_STATUS_CDR_LOCK n, F.LRX_EVENT_CDR_UNLOCK n, F.LRX_SEQ_EVT_LINES n],
    (cdrGround n).covers f = true := by decide
theorem cdrGround_lanes : ∀ n < 8, (cdrGround n).lanesIn [n] = true := by decide
theorem cdrGround_acq : ∀ n < 8, (cdrGround n).misses (F.LRX_STATUS_ACQ_STATE n) = true := by decide
theorem cdrGround_dev : ∀ n < 8, (cdrGround n).devIn recalRegs = true := by decide
theorem lineGround_cdr : ∀ n < 8, ∀ f ∈ [F.LRX_CDR_STAT_FREQ_OFS n, F.LRX_STATUS_CDR_LOCK n, F.LRX_EVENT_CDR_UNLOCK n, F.LRX_STATUS_ACQ_STATE n],
    lineGround.misses f = true := by decide
theorem syncGround_cdr : ∀ n < 8, ∀ f ∈ [F.LRX_CDR_STAT_FREQ_OFS n, F.LRX_STATUS_CDR_LOCK n, F.LRX_STATUS_ACQ_STATE n], syncGround.misses f = true := by decide

section
variable {n : Nat} (s : State)

/-- A line lane's frequency offset and lock declared. -/
def State.cdrDeclared (s : State) (n : Nat) (ofs : List Int) : State :=
  ((s.setFld (F.LRX_CDR_STAT_FREQ_OFS n) (codeOf 16 (ofs.getLastD 0))).put (F.LRX_STATUS_CDR_LOCK n) true).line n 7

theorem State.cdrDeclared_calm (hn : n < 8) (ofs : List Int) : s.Calm (cdrGround n) id (s.cdrDeclared n ofs) :=
  ((s.setFld_calm _ (cdrGround_covers n hn _ (by simp))).trans (State.put_calm _ _ (cdrGround_covers n hn _ (by simp)))).trans
    (State.line_calm _ _ _ (cdrGround_covers n hn _ (by simp)))

theorem State.cdrDeclared_lock (hn : n < 8) (ofs : List Int) : (s.cdrDeclared n ofs).is (F.LRX_STATUS_CDR_LOCK n) = true := by
  rw [State.cdrDeclared, (State.line_inside _ _ _ (lineGround_covers n (by omega))).is (lineGround_cdr n hn _ (by simp)),
    State.put_is_same _ _ _ (Fld.fits_of rfl) rfl]

theorem State.cdrDeclared_ofs (hn : n < 8) (ofs : List Int) : (s.cdrDeclared n ofs).fld (F.LRX_CDR_STAT_FREQ_OFS n) = codeOf 16 (ofs.getLastD 0) := by
  rw [State.cdrDeclared, (State.line_inside _ _ _ (lineGround_covers n (by omega))).fld (lineGround_cdr n hn _ (by simp)),
    State.put_fld_apart _ _ _ _ (Fld.fits_of rfl) (Fld.apart_of_offsets rfl rfl (by decide)), State.setFld_fld_same _ _ _ (Fld.fits_of rfl)]
  exact Nat.mod_eq_of_lt (codeOf_lt _ _)

/-- From CDR a line lane enters ADAPT with its lock as it is. -/
theorem State.lrxSet_adapt (h : s.fld (F.LRX_STATUS_ACQ_STATE n) = 2) :
    s.lrxSet n 3 = ((s.setFld (F.LRX_STATUS_ACQ_STATE n) 3).line n 4).syncPair n := by
  unfold State.lrxSet
  dsimp only
  rw [if_neg (by omega), if_neg (by omega), if_neg (by omega), if_neg (by omega), if_neg (by omega)]

theorem State.lrxSet_adapts (hn : n < 8) (h : s.fld (F.LRX_STATUS_ACQ_STATE n) = 2) :
    (s.setFld (F.LRX_STATUS_ACQ_STATE n) 3).Inside syncGround (s.lrxSet n 3) := by
  rw [s.lrxSet_adapt h]
  exact (State.line_inside _ _ _ (syncGround_lines n (by omega))).trans (State.syncPair_calm _ hn).inside

end

section
variable (r : Fin 24) (s : State)

theorem host_locks (ofs : List Int) (hr : 8 ≤ r.val) (hst : s.fld (F.HRX_STATUS_STATE (rxLane r)) ≠ 0) (hno : s.is (F.HRX_STATUS_CDR_LOCK (rxLane r)) = false) :
    Completes (.cdrLock r ofs) s fun t => t.is (F.HRX_STATUS_CDR_LOCK (rxLane r)) = true ∧
      t.fld (F.HRX_STATUS_STATE (rxLane r)) = s.fld (F.HRX_STATUS_STATE (rxLane r)) ∧ s.Only [R.HRX_STATUS (rxLane r), R.HRX_SEQ_EVT (rxLane r)] t := by
  have hrun : s.cdrLocked r ofs = (s.put (F.HRX_STATUS_CDR_LOCK (rxLane r)) true).line (rxLane r) 7 := by
    unfold State.cdrLocked
    dsimp only
    rw [if_neg (rxLane_host hr), if_pos (by simp [hst, hno])]
  have hlt := rxLane_lt r
  have e : exec (.cdrLock r ofs) s = done ((s.put (F.HRX_STATUS_CDR_LOCK (rxLane r)) true).line (rxLane r) 7) :=
    (doneIf_true (by simp [windowCount, hr]) _).trans (congrArg done hrun)
  generalize rxLane r.val = n at hlt e ⊢
  have hline (u : State) := (u.line_inside (A := lineGround) n 7 (lineGround_covers n hlt))
  refine event_completes s e fun t ht _ => ⟨?_, ?_, fun a ha => ?_⟩
  · rw [ht.is, (hline _).is ((by decide : ∀ n < 48, lineGround.misses (F.HRX_STATUS_CDR_LOCK n) = true) n hlt), State.put_is_same _ _ _ (Fld.fits_of rfl) rfl]
  · rw [ht.fld, (hline _).fld ((by decide : ∀ n < 48, lineGround.misses (F.HRX_STATUS_STATE n) = true) n hlt),
      State.put_fld_apart _ _ _ _ (Fld.fits_of rfl) (Fld.apart_of_bits rfl)]
  · simp only [List.mem_cons, List.not_mem_nil, or_false, not_or] at ha
    rw [ht.rd, State.line_rd_ne _ _ _ ha.2, State.put_rd_ne _ _ _ ha.1]

theorem host_unlocks (ofs : Int × Int) (hr : 8 ≤ r.val) (hlock : s.is (F.HRX_STATUS_CDR_LOCK (rxLane r)) = true) :
    Completes (.cdrUnlock r ofs) s fun t => t.is (F.HRX_STATUS_CDR_LOCK (rxLane r)) = false ∧ t.is (F.HRX_EVENT_CDR_UNLOCK (rxLane r)) = true ∧
      s.OnlyLanes [rxLane r] t := by
  have e : exec (.cdrUnlock r ofs) s =
      done (((s.put (F.HRX_STATUS_CDR_LOCK (rxLane r)) false).put (F.HRX_EVENT_CDR_UNLOCK (rxLane r)) true).line (rxLane r) 7) := by
    refine congrArg done ?_
    unfold State.cdrUnlocked
    dsimp only
    rw [if_neg (rxLane_host hr), if_pos hlock]
  have hlt := rxLane_lt r
  generalize rxLane r.val = n at hlt e ⊢
  have hline (u : State) := (u.line_inside (A := lineGround) n 7 (lineGround_covers n hlt))
  refine event_completes s e fun t ht _ => ⟨?_, ?_, fun a ha => ?_⟩
  · rw [ht.is, (hline _).is ((by decide : ∀ n < 48, lineGround.misses (F.HRX_STATUS_CDR_LOCK n) = true) n hlt),
      State.put_is_apart _ _ _ _ (Fld.fits_of rfl) (Fld.apart_of_offsets rfl rfl (by decide)), State.put_is_same _ _ _ (Fld.fits_of rfl) rfl]
  · rw [ht.is, (hline _).is ((by decide : ∀ n < 48, lineGround.misses (F.HRX_EVENT_CDR_UNLOCK n) = true) n hlt), State.put_is_same _ _ _ (Fld.fits_of rfl) rfl]
  · have hout := ha n (by simp)
    rw [ht.rd, State.line_rd_ne _ _ _ (by simp only [F.LRX_SEQ_EVT_LINES, R.LRX_SEQ_EVT, laneBase]; omega),
      State.put_rd_ne _ _ _ (by simp only [F.HRX_EVENT_CDR_UNLOCK, R.HRX_EVENT, laneBase]; omega),
      State.put_rd_ne _ _ _ (by simp only [F.HRX_STATUS_CDR_LOCK, R.HRX_STATUS, laneBase]; omega)]

theorem line_locks (ofs : List Int) (hr : r.val < 8) (hlen : ofs.length = 8) (hrec : s.lrxRecovers r = true) (hno : s.is (F.LRX_STATUS_CDR_LOCK r) = false)
    (hsteady : ∀ v ∈ ofs, (8 * v - ofs.sum).natAbs ≤ 8 * 200 ∧ v.natAbs < 3000) :
    Completes (.cdrLock r ofs) s fun t => t.is (F.LRX_STATUS_CDR_LOCK r) = true ∧ t.fld (F.LRX_CDR_STAT_FREQ_OFS r) = codeOf 16 (ofs.getLastD 0) ∧
      t.fld (F.LRX_STATUS_ACQ_STATE r) = (if s.fld (F.LRX_STATUS_ACQ_STATE r) = 2 then 3 else s.fld (F.LRX_STATUS_ACQ_STATE r)) ∧ s.OnlyDev recalRegs t := by
  have hst : steady ofs = true := by simpa [steady] using hsteady
  have e : exec (.cdrLock r ofs) s =
      done (if (s.cdrDeclared r ofs).fld (F.LRX_STATUS_ACQ_STATE r) = 2 then (s.cdrDeclared r ofs).lrxSet r 3 else s.cdrDeclared r ofs) := by
    refine (doneIf_true (by simp [windowCount, hlen]) _).trans (congrArg done ?_)
    unfold State.cdrLocked
    dsimp only
    rw [rxLane_line hr, if_pos hr, if_pos (by simp [hrec, hno, hst])]
    rfl
  generalize r.val = n at hr hrec hno e ⊢
  have hcalm := (s.cdrDeclared_calm hr ofs).inside
  have hacq := hcalm.fld (cdrGround_acq n hr)
  have hlock := s.cdrDeclared_lock hr ofs
  have hofs := s.cdrDeclared_ofs hr ofs
  generalize s.cdrDeclared n ofs = u at e hcalm hacq hlock hofs
  rw [← hacq]
  by_cases h2 : u.fld (F.LRX_STATUS_ACQ_STATE n) = 2
  · rw [if_pos h2] at e ⊢
    have hin := u.lrxSet_adapts hr h2
    refine event_completes s e fun t ht _ => ⟨?_, ?_, ?_, fun a hdev ha => ?_⟩
    · rw [ht.is, hin.is (syncGround_cdr n hr _ (by simp)), State.setFld_is_apart _ _ _ _ (Fld.fits_of rfl) (Fld.apart_of_bits rfl), hlock]
    · rw [ht.fld, hin.fld (syncGround_cdr n hr _ (by simp)), State.setFld_fld_apart _ _ _ _ (Fld.fits_of rfl) (Fld.apart_of_offsets rfl rfl (by decide)), hofs]
    · rw [ht.fld, hin.fld (syncGround_cdr n hr _ (by simp)), State.setFld_fld_same _ _ _ (Fld.fits_of rfl)]
      rfl
    · rw [ht.rd, hin.onlyDev syncGround_dev a hdev ha, State.setFld_rd_ne _ _ _ (by simp only [F.LRX_STATUS_ACQ_STATE, R.LRX_STATUS, laneBase]; omega)]
      exact hcalm.onlyDev (cdrGround_dev n hr) a hdev ha
  · rw [if_neg h2] at e ⊢
    refine event_completes s e fun t ht _ => ⟨by rw [ht.is, hlock], by rw [ht.fld, hofs], by rw [ht.fld], fun a hdev ha => ?_⟩
    rw [ht.rd]
    exact hcalm.onlyDev (cdrGround_dev n hr) a hdev ha

theorem line_seeks_lock (ofs : List Int) (hr : r.val < 8) (hlen : ofs.length = 8) (h : ∃ v ∈ ofs, 8 * 200 < (8 * v - ofs.sum).natAbs ∨ 3000 ≤ v.natAbs) :
    Completes (.cdrLock r ofs) s fun t => s.Only [] t := by
  have hst : steady ofs = false := by
    obtain ⟨v, hv, h⟩ := h
    simp only [steady, List.all_eq_false]
    refine ⟨v, hv, ?_⟩
    simp only [Bool.and_eq_true, decide_eq_true_eq]
    omega
  refine idle_only s ((doneIf_true (by simp [windowCount, hlen]) _).trans (congrArg done ?_))
  unfold State.cdrLocked
  dsimp only
  rw [rxLane_line hr, if_pos hr, if_neg (by simp [hst])]

theorem line_unlocks (ofs : Int × Int) (hr : r.val < 8) (hrec : s.lrxRecovers r = true) (hlock : s.is (F.LRX_STATUS_CDR_LOCK r) = true)
    (h : 3000 ≤ ofs.2.natAbs ∨ 500 < (ofs.2 - ofs.1).natAbs) :
    Completes (.cdrUnlock r ofs) s fun t => t.is (F.LRX_STATUS_CDR_LOCK r) = false ∧ t.is (F.LRX_EVENT_CDR_UNLOCK r) = true ∧
      t.fld (F.LRX_CDR_STAT_FREQ_OFS r) = codeOf 16 ofs.2 ∧ s.OnlyLanes [r.val] t := by
  have hastray : astray ofs.1 ofs.2 = true := by simpa [astray] using h
  have e : exec (.cdrUnlock r ofs) s =
      done (((((s.setFld (F.LRX_CDR_STAT_FREQ_OFS r) (codeOf 16 ofs.2)).put (F.LRX_EVENT_CDR_UNLOCK r) true).put (F.LRX_STATUS_CDR_LOCK r) false)).line r 7) := by
    refine congrArg done ?_
    unfold State.cdrUnlocked State.cdrDrop
    dsimp only
    rw [rxLane_line hr, if_pos hr, if_pos (by simp [hrec, hlock, hastray]), if_pos]
    rw [State.put_is_apart _ _ _ _ (Fld.fits_of rfl) (Fld.apart_of_offsets rfl rfl (by decide)),
      State.setFld_is_apart _ _ _ _ (Fld.fits_of rfl) (Fld.apart_of_offsets rfl rfl (by decide)), hlock]
  generalize r.val = n at hr e ⊢
  have hline (u : State) := (u.line_inside (A := lineGround) n 7 (lineGround_covers n (by omega)))
  have hin := ((s.setFld_inside (A := cdrGround n) (codeOf 16 ofs.2) (cdrGround_covers n hr (F.LRX_CDR_STAT_FREQ_OFS n) (by simp))).trans
    (State.put_inside _ true (cdrGround_covers n hr (F.LRX_EVENT_CDR_UNLOCK n) (by simp)))).trans
    ((State.put_inside _ false (cdrGround_covers n hr (F.LRX_STATUS_CDR_LOCK n) (by simp))).trans (State.line_inside _ n 7 (cdrGround_covers n hr _ (by simp))))
  refine event_completes s e fun t ht _ => ⟨?_, ?_, ?_, (hin.onlyLanes (cdrGround_lanes n hr)).apart ht⟩
  · rw [ht.is, (hline _).is (lineGround_cdr n hr _ (by simp)), State.put_is_same _ _ _ (Fld.fits_of rfl) rfl]
  · rw [ht.is, (hline _).is (lineGround_cdr n hr _ (by simp)), State.put_is_apart _ _ _ _ (Fld.fits_of rfl) (Fld.apart_of_offsets rfl rfl (by decide)),
      State.put_is_same _ _ _ (Fld.fits_of rfl) rfl]
  · rw [ht.fld, (hline _).fld (lineGround_cdr n hr _ (by simp)), State.put_fld_apart _ _ _ _ (Fld.fits_of rfl) (Fld.apart_of_offsets rfl rfl (by decide)),
      State.put_fld_apart _ _ _ _ (Fld.fits_of rfl) (Fld.apart_of_offsets rfl rfl (by decide)), State.setFld_fld_same _ _ _ (Fld.fits_of rfl)]
    exact Nat.mod_eq_of_lt (codeOf_lt _ _)

theorem line_keeps_lock (ofs : Int × Int) (hr : r.val < 8) (h1 : ofs.2.natAbs < 3000) (h2 : (ofs.2 - ofs.1).natAbs ≤ 500) :
    Completes (.cdrUnlock r ofs) s fun t => s.Only [] t := by
  have hastray : astray ofs.1 ofs.2 = false := by simp [astray, show ¬ 3000 ≤ ofs.2.natAbs by omega, h2]
  refine idle_only s (congrArg done ?_)
  unfold State.cdrUnlocked
  dsimp only
  rw [rxLane_line hr, if_pos hr, if_neg (by simp [hastray])]

end

/-! ### HTX squelch -/

theorem State.htxSquelch_eq (s : State) (n : Nat) (on : Bool) : s.htxSquelch n on = ((s.put (F.HTX_CTL_SQUELCH n) on).syncHtx n, .ok) := rfl

theorem State.syncHtx_squelched (s : State) {n : Nat} (hn : n < 48) :
    (s.syncHtx n).is (F.HTX_STATUS_SQUELCHED n) = (s.is (F.HTX_CTL_SQUELCH n) || s.oos n || s.oos (s.lineOf n) || !(s.lane n).started) := by
  unfold State.syncHtx
  dsimp only
  split
  · next h => exact h.symm
  · rw [(State.line_inside (A := lineGround) _ n 4 (lineGround_covers n hn)).is
      ((by decide : ∀ n < 48, lineGround.misses (F.HTX_STATUS_SQUELCHED n) = true) n hn), State.put_is_same _ _ _ (Fld.fits_of rfl) rfl]

theorem State.syncHtx_rd (s : State) (n : Nat) {a : Nat} (h1 : a ≠ R.HTX_STATUS n) (h2 : a ≠ R.LRX_SEQ_EVT n) : (s.syncHtx n).rd a = s.rd a := by
  unfold State.syncHtx
  dsimp only
  split
  · rfl
  · rw [State.line_rd_ne _ _ _ h2, State.put_rd_ne _ _ _ h1]

theorem State.syncHtx_out (s : State) (n : Nat) : (s.syncHtx n).out = s.out := by
  unfold State.syncHtx
  dsimp only
  split
  · rfl
  · rw [State.line_out, State.put_out]

theorem State.syncHtx_ctl (s : State) {n : Nat} (hn : n < 48) : (s.syncHtx n).is (F.HTX_CTL_SQUELCH n) = s.is (F.HTX_CTL_SQUELCH n) := by
  unfold State.is State.fld
  rw [s.syncHtx_rd n (by simp only [F.HTX_CTL_SQUELCH, R.HTX_CTL, R.HTX_STATUS]; omega) (by simp only [F.HTX_CTL_SQUELCH, R.HTX_CTL, R.LRX_SEQ_EVT]; omega)]

theorem squelch_written (m : Master) (k : Fin 16) (on : Bool) (s : State) (h : s.Reached m (R.HTX_CTL (32 + k))) :
    Completes (.htxSquelch m k on) s fun t => s.Answered m 0 t ∧ t.is (F.HTX_CTL_SQUELCH (32 + k)) = on ∧
      t.is (F.HTX_STATUS_SQUELCHED (32 + k)) = (on || s.oos (32 + k) || s.oos (s.lineOf (32 + k)) || !(s.lane (32 + k)).started) ∧
      s.Only [R.HTX_CTL (32 + k), R.HTX_STATUS (32 + k), R.HTX_SEQ_EVT (32 + k)] t := by
  refine via_completes (f := fun s => s.htxSquelch (32 + k) on) rfl h fun t ht hout => ?_
  simp only [State.htxSquelch_eq] at ht hout
  have hlo : 32 ≤ 32 + k.val := by omega
  have hlt : 32 + k.val < 48 := by omega
  generalize 32 + k.val = n at hlo hlt ht hout ⊢
  refine ⟨hout.trans (by rw [State.syncHtx_out, State.put_out]; rfl), ?_, ?_, fun a ha => ?_⟩
  · rw [ht.is, State.syncHtx_ctl _ hlt, State.put_is_same _ _ _ (Fld.fits_of rfl) rfl]
  · have hoos (j : Nat) : (s.put (F.HTX_CTL_SQUELCH n) on).oos j = s.oos j := by
      have hne : R.MODE_OOS_LINE ≠ R.HTX_CTL n ∧ R.MODE_OOS_HOST ≠ R.HTX_CTL n := (by decide : ∀ n < 48, R.MODE_OOS_LINE ≠ R.HTX_CTL n ∧ R.MODE_OOS_HOST ≠ R.HTX_CTL n) n hlt
      unfold State.oos
      rw [State.put_rd_ne _ _ _ hne.1, State.put_rd_ne _ _ _ hne.2]
    have hof : (s.put (F.HTX_CTL_SQUELCH n) on).lineOf n = s.lineOf n := by
      rw [State.lineOf, State.slot, State.put_fld_apart _ _ _ _ (Fld.fits_of rfl) (Fld.apart_of_offsets rfl rfl (by decide))]
      rfl
    rw [ht.is, State.syncHtx_squelched _ hlt, State.put_is_same _ _ _ (Fld.fits_of rfl) rfl, hoos, hof, hoos, State.put_lane]
  · simp only [List.mem_cons, List.not_mem_nil, or_false, not_or] at ha
    obtain ⟨hctl, hstatus, hevt⟩ := ha
    rw [ht.rd, State.syncHtx_rd _ n hstatus hevt, State.put_rd_ne _ _ _ hctl]

/-- Settles O9. -/
theorem hostLaneStatesFollowTheirSignal : Obligations.HostLaneStatesFollowTheirSignal := by
  unfold Obligations.HostLaneStatesFollowTheirSignal
  exact ⟨host_comes_up, fun k mv un s => signal_lost k s mv un, fun k mv s => signal_kept k s mv, fun k mv s => signal_back k s mv,
    fun k mv s => signal_open k s mv, fun k mv s => signal_still_gone k s mv, fun r ofs s => host_locks r s ofs, fun r ofs s => line_locks r s ofs,
    fun r ofs s => line_seeks_lock r s ofs, fun r ofs s => host_unlocks r s ofs, fun r ofs s => line_unlocks r s ofs, fun r ofs s => line_keeps_lock r s ofs,
    fun m k on s => squelch_written m k on s⟩

end Sys2Proof.Machine
end

section
/-! SUPPORT. The acquisition walk of a line receive lane (R90 to R97, R460), and with it O11. -/

namespace Sys2Proof.Machine

/-- What acquisition events write beside a change of the acquisition state. -/
def walkGround : Ground := [.of 8 (F.LRX_STATUS_PRESENT 0), .of 8 (F.LRX_STATUS_AMP_DET 0), .of 8 (F.LRX_STATUS_CAPTURES 0), .of 8 (F.LRX_EVENT_LOS_EXIT 0),
  .of 8 (F.LRX_EVENT_LOS_ENTER 0), .of 8 (F.LRX_EVENT_CAPTURE 0), .of 8 (F.LRX_MKR_PEAK_ALIGNED 0), .of 8 (F.LRX_MKR_PEAK_OTHER 0),
  .of 8 (F.LRX_CAPLOG_COUNT 0), .of 8 (F.LRX_CAPLOG_RATIO 0)] ++ lineGround

/-- The fields that acquisition events show. -/
def walkFields (n : Nat) : List Fld := [F.LRX_STATUS_PRESENT n, F.LRX_STATUS_AMP_DET n, F.LRX_STATUS_CAPTURES n, F.LRX_EVENT_LOS_EXIT n, F.LRX_EVENT_LOS_ENTER n,
  F.LRX_EVENT_CAPTURE n, F.LRX_MKR_PEAK_ALIGNED n, F.LRX_MKR_PEAK_OTHER n, F.LRX_CAPLOG_COUNT n, F.LRX_CAPLOG_RATIO n]

theorem walkGround_covers : ∀ n < 8, ∀ f ∈ walkFields n, walkGround.covers f = true := by decide
theorem walkGround_lines : ∀ n < 8, walkGround.covers (F.LRX_SEQ_EVT_LINES n) = true := by decide
theorem walkGround_state : ∀ n < 8, walkGround.misses (F.LRX_STATUS_ACQ_STATE n) = true := by decide
theorem walkGround_dev : walkGround.devIn recalRegs = true := by decide
theorem lineGround_walk : ∀ n < 8, ∀ f ∈ walkFields n, lineGround.misses f = true := by decide
theorem acqGround_walk : ∀ n < 8, ∀ f ∈ walkFields n, acqGround.misses f = true := by decide

/-- The fields that acquisition events show lie apart. -/
theorem walkFields_separate : ∀ n < 8, Separate (walkFields n) := by
  unfold Separate
  decide

/-- What follows a change of the acquisition state, beside the lock of clock recovery. -/
def unlockedTail : Ground := acqTail.tail

theorem unlockedTail_misses : ∀ n < 8, unlockedTail.misses (F.LRX_STATUS_CDR_LOCK n) = true := by decide
theorem unlockedTail_covers : ∀ n < 8, ∀ f ∈ [F.LRX_ACQ_CMD_PROG_READY n, F.LRX_ACQ_CMD_QUALIFIED n, F.LRX_TRN_CTL_RX_READY n, F.LRX_TRN_TXREQ_COEF_REQ n],
    unlockedTail.covers f = true := by decide
theorem trnGround_unlocked : trnGround ⊆ unlockedTail := by
  intro e he
  simp only [unlockedTail, acqTail, List.tail_cons, List.mem_cons, he, or_true]

section
variable {n : Nat} (s : State)

/-- Clock recovery that is not running has no lock. -/
theorem State.cdrDrop_unlocked (hn : n < 8) : (s.cdrDrop n).is (F.LRX_STATUS_CDR_LOCK n) = false := by
  unfold State.cdrDrop
  split
  · rw [(State.line_inside (A := lineGround) _ n 7 (lineGround_covers n (by omega))).is
      ((by decide : ∀ n < 8, lineGround.misses (F.LRX_STATUS_CDR_LOCK n) = true) n hn), State.put_is_same _ _ _ (Fld.fits_of rfl) rfl]
  · next h => exact Bool.eq_false_iff.mpr h

/-- Entering OFF, DARK, CDR or LOS drops the lock. -/
theorem State.lrxSet_unlocked (hn : n < 8) {st : Nat} (h : s.fld (F.LRX_STATUS_ACQ_STATE n) ≠ st) (hst : st ≤ 2 ∨ st = 7) :
    (s.lrxSet n st).is (F.LRX_STATUS_CDR_LOCK n) = false := by
  unfold State.lrxSet
  extract_lets old set dropped ready qualified t aligned
  rw [if_neg h]
  have hdropped : dropped.is (F.LRX_STATUS_CDR_LOCK n) = false := by
    rw [show dropped = set.cdrDrop n from if_pos hst, set.cdrDrop_unlocked hn]
  have hready : dropped.Calm unlockedTail Lane.butTraining ready := .ite (dropped.put_calm _ (unlockedTail_covers n hn _ (by simp))) .refl
  have hqualified : ready.Calm unlockedTail Lane.butTraining qualified := .ite (ready.put_calm _ (unlockedTail_covers n hn _ (by simp))) .refl
  have haligned : qualified.Calm unlockedTail Lane.butTraining aligned :=
    .ite (((qualified.put_calm _ (unlockedTail_covers n hn _ (by simp))).trans (State.setFld_calm _ _ (unlockedTail_covers n hn _ (by simp)))).trans
      ((State.trnSet_trn _ hn 1).widen trnGround_unlocked)) .refl
  have hsync : aligned.Inside unlockedTail (aligned.syncPair n) := (aligned.syncPair_calm hn).inside.mono (List.Subset.trans syncGround_trn trnGround_unlocked)
  rw [(((hready.trans hqualified).trans haligned).inside.trans hsync).is (unlockedTail_misses n hn), hdropped]

theorem State.lrxSet_walk (hn : n < 8) (st : Nat) {f : Fld} (hf : f ∈ walkFields n) : (s.lrxSet n st).fld f = s.fld f :=
  (s.lrxSet_acq hn st).inside.fld (acqGround_walk n hn f hf)

theorem State.lrxSet_shows (hn : n < 8) (st : Nat) {f : Fld} (hf : f ∈ walkFields n) : (s.lrxSet n st).is f = s.is f :=
  (s.lrxSet_acq hn st).inside.is (acqGround_walk n hn f hf)

/-- What training and the codeword lock leave of a lane: its alignment, the frames it expects and the bank kept in SEEK. -/
theorem State.lrxSet_frames (hn : n < 8) (st : Nat) : ((s.lrxSet n st).lane n).frames = (s.lane n).frames :=
  (congrArg Lane.frames ((s.lrxSet_acq hn st).lanes n) :)

theorem State.lrxSet_align (hn : n < 8) (st : Nat) : ((s.lrxSet n st).lane n).align = (s.lane n).align :=
  (congrArg Lane.align ((s.lrxSet_acq hn st).lanes n) :)

theorem State.lrxSet_seekBank (hn : n < 8) (st : Nat) : ((s.lrxSet n st).lane n).seekBank = (s.lane n).seekBank :=
  (congrArg Lane.seekBank ((s.lrxSet_acq hn st).lanes n) :)

theorem State.lrxSet_dev (hn : n < 8) (st : Nat) : s.OnlyDev recalRegs (s.lrxSet n st) := (s.lrxSet_acq hn st).inside.onlyDev acqGround_dev

theorem State.lrxSet_out (hn : n < 8) (st : Nat) : (s.lrxSet n st).out = s.out := (s.lrxSet_acq hn st).beside.out

/-- The frames expected from here on. -/
def State.frameMark (s : State) (n : Nat) : Bool := !s.is (F.LRX_TRN_STAT_RX_DATA n) && !s.halfPair n

theorem State.expectFrames_eq : s.expectFrames n = s.onLane n fun l => { l with frames := s.frameMark n } := rfl

end

theorem State.OnlyDev.apart {s t u : State} {l : List Nat} (h : s.OnlyDev l t) (k : t.Apart u) : s.OnlyDev l u := fun a hdev ha => (k.rd a).trans (h a hdev ha)
theorem State.OnlyDev.trans {s t u : State} {l : List Nat} (h : s.OnlyDev l t) (k : t.OnlyDev l u) : s.OnlyDev l u :=
  fun a hdev ha => (k a hdev ha).trans (h a hdev ha)

section
variable (n : Fin 8) (s : State)

theorem seeks_again (hst : s.fld (F.LRX_STATUS_ACQ_STATE n) = 5) :
    Completes (.markerPeakMissing n) s fun t => t.fld (F.LRX_STATUS_ACQ_STATE n) = 4 ∧
      (t.lane n).seekBank = (List.range 64).map (s.activeWord n) ∧ s.OnlyDev recalRegs t := by
  have hn := n.isLt
  refine event_completes s (u := s.seek n) (congrArg done (if_pos hst)) fun t ht _ => ⟨?_, ?_, ?_⟩
  · rw [ht.fld, State.seek, State.lrxSet_state _ hn (by decide)]
  · rw [ht.lane, State.seek, State.lrxSet_seekBank _ hn, State.onLane_lane, if_pos rfl]
  · exact State.OnlyDev.apart (State.lrxSet_dev (s.onLane n _) hn 4) ht

theorem window_ends (hst : s.fld (F.LRX_STATUS_ACQ_STATE n) = 5) :
    Completes (.captureWindowEnd n) s fun t => t.fld (F.LRX_STATUS_ACQ_STATE n) = 6 ∧ s.OnlyDev recalRegs t :=
  event_completes s (u := s.lrxSet n 6) (congrArg done (if_pos hst)) fun t ht _ =>
    ⟨by rw [ht.fld, s.lrxSet_state n.isLt (by decide)], (s.lrxSet_dev n.isLt 6).apart ht⟩

theorem marker_qualified (pos1 pos2 p1 p2 : Nat) (hst : s.fld (F.LRX_STATUS_ACQ_STATE n) = 4) (hf : (s.lane n).frames = true) (hpos : pos2 = pos1 + 4096)
    (h1 : s.fld (F.LRX_ACQ_CFG_MKR_THR n) ≤ p1) (h2 : s.fld (F.LRX_ACQ_CFG_MKR_THR n) ≤ p2) :
    Completes (.markerAlignmentQualified n pos1 pos2 p1 p2) s fun t => t.fld (F.LRX_STATUS_ACQ_STATE n) = 5 ∧
      t.fld (F.LRX_MKR_PEAK_ALIGNED n) = p2 % 65536 ∧ t.fld (F.LRX_MKR_PEAK_OTHER n) = 0 ∧ (t.lane n).align = pos2 % 4096 ∧ s.OnlyDev recalRegs t := by
  have hn := n.isLt
  have hset : s.Inside walkGround ((s.setFld (F.LRX_MKR_PEAK_ALIGNED n) p2).setFld (F.LRX_MKR_PEAK_OTHER n) 0) :=
    (s.setFld_inside _ (walkGround_covers n hn _ (by simp [walkFields]))).trans (State.setFld_inside _ _ (walkGround_covers n hn _ (by simp [walkFields])))
  refine event_completes s (u := (((s.setFld (F.LRX_MKR_PEAK_ALIGNED n) p2).setFld (F.LRX_MKR_PEAK_OTHER n) 0).onLane n fun l => { l with align := pos2 % 4096 }).lrxSet n 5)
    (congrArg done (if_pos (by simp [hst, hf, hpos, h1, h2]))) fun t ht _ => ⟨?_, ?_, ?_, ?_, ?_⟩
  · rw [ht.fld, State.lrxSet_state _ hn (by decide)]
  · rw [ht.fld, State.lrxSet_walk _ hn 5 (by simp [walkFields]), State.onLane_fld,
      State.setFld_fld_apart _ _ _ _ (Fld.fits_of rfl) (Fld.apart_of_bits rfl), State.setFld_fld_same _ _ _ (Fld.fits_of rfl)]
    rfl
  · rw [ht.fld, State.lrxSet_walk _ hn 5 (by simp [walkFields]), State.onLane_fld, State.setFld_fld_same _ _ _ (Fld.fits_of rfl)]
    rfl
  · rw [ht.lane, State.lrxSet_align _ hn, State.onLane_lane, if_pos rfl]
  · refine State.OnlyDev.apart (State.OnlyDev.trans ?_ (State.lrxSet_dev _ hn 5)) ht
    exact (hset.trans (State.onLane_inside _ _ _)).onlyDev walkGround_dev

theorem prog_ready (m : Master) (h : s.Reached m (R.LRX_ACQ_CMD n)) :
    Completes (.progReady m n) s fun t => s.Answered m 0 t ∧
      (s.fld (F.LRX_STATUS_ACQ_STATE n) = 3 → t.fld (F.LRX_STATUS_ACQ_STATE n) = 4) ∧
      (s.fld (F.LRX_STATUS_ACQ_STATE n) ≠ 3 → t.is (F.LRX_ACQ_CMD_PROG_READY n) = true ∧ s.Only [R.LRX_ACQ_CMD n] t) ∧ s.OnlyDev recalRegs t := by
  have hn := n.isLt
  refine via_completes (f := fun s => s.acqCmd n 1#32) rfl h fun t ht hout => ?_
  have e : (s.acqCmd n 1#32) = (s.progReady n, .ok) := rfl
  rw [e] at ht hout
  dsimp only at ht hout
  unfold State.progReady at ht hout
  by_cases h3 : s.fld (F.LRX_STATUS_ACQ_STATE n) = 3
  · rw [if_pos h3] at ht hout
    refine ⟨?_, fun _ => ?_, fun hne => absurd h3 hne, ?_⟩
    · exact hout.trans (by rw [State.seek, State.lrxSet_out _ hn, State.onLane_out]; rfl)
    · rw [ht.fld, State.seek, State.lrxSet_state _ hn (by decide)]
    · exact State.OnlyDev.apart (State.lrxSet_dev (s.onLane n _) hn 4) ht
  · rw [if_neg h3] at ht hout
    have honly : s.Only [R.LRX_ACQ_CMD n] t := fun a ha => (ht.rd a).trans (State.put_rd_ne _ _ _ (mt List.mem_singleton.mpr ha))
    refine ⟨hout.trans (by rw [State.put_out]; rfl), fun h => absurd h h3, fun _ => ⟨?_, honly⟩, fun a hdev ha => honly a ?_⟩
    · rw [ht.is, State.put_is_same _ _ _ (Fld.fits_of rfl) rfl]
    · simp only [List.mem_singleton, R.LRX_ACQ_CMD, laneBase]
      omega

theorem acq_qualified (m : Master) (h : s.Reached m (R.LRX_ACQ_CMD n)) :
    Completes (.acqQualified m n) s fun t => s.Answered m 0 t ∧
      (s.fld (F.LRX_STATUS_ACQ_STATE n) = 4 → (s.lane n).frames = false → t.fld (F.LRX_STATUS_ACQ_STATE n) = 6) ∧
      (s.fld (F.LRX_STATUS_ACQ_STATE n) ≠ 4 ∨ (s.lane n).frames = true → t.is (F.LRX_ACQ_CMD_QUALIFIED n) = true ∧ s.Only [R.LRX_ACQ_CMD n] t) ∧
      s.OnlyDev recalRegs t := by
  have hn := n.isLt
  refine via_completes (f := fun s => s.acqCmd n 2#32) rfl h fun t ht hout => ?_
  have e : (s.acqCmd n 2#32) = (s.acqQualified n, .ok) := rfl
  rw [e] at ht hout
  dsimp only at ht hout
  unfold State.acqQualified at ht hout
  by_cases h4 : s.fld (F.LRX_STATUS_ACQ_STATE n) = 4 ∧ (s.lane n).frames = false
  · obtain ⟨hst, hf⟩ := h4
    rw [if_pos (by simp [hst, hf])] at ht hout
    refine ⟨hout.trans (by rw [State.lrxSet_out _ hn]; rfl), fun _ _ => ?_, fun hne => ?_, (s.lrxSet_dev hn 6).apart ht⟩
    · rw [ht.fld, State.lrxSet_state _ hn (by decide)]
    · rcases hne with hne | hne
      · exact absurd hst hne
      · rw [hf] at hne
        cases hne
  · rw [if_neg (by simpa using h4)] at ht hout
    have honly : s.Only [R.LRX_ACQ_CMD n] t := fun a ha => (ht.rd a).trans (State.put_rd_ne _ _ _ (mt List.mem_singleton.mpr ha))
    refine ⟨hout.trans (by rw [State.put_out]; rfl), fun h hf => absurd ⟨h, hf⟩ h4, fun _ => ⟨?_, honly⟩, fun a hdev ha => honly a ?_⟩
    · rw [ht.is, State.put_is_same _ _ _ (Fld.fits_of rfl) rfl]
    · simp only [List.mem_singleton, R.LRX_ACQ_CMD, laneBase]
      omega

theorem signal_lost_line (cause : Fin 3) (mv : Nat) (hlo : 2 ≤ s.fld (F.LRX_STATUS_ACQ_STATE n)) (hhi : s.fld (F.LRX_STATUS_ACQ_STATE n) ≤ 6)
    (hlost : s.lostBy n cause = true) (hloud : mv ≤ 120 ∨ s.is (F.LRX_STATUS_CDR_LOCK n) = false ∨ s.is (F.LRX_STATUS_PWR_WEIR n) = false)
    (hloop : s.nearEnd = false) :
    Completes (.lrxLos n cause mv) s fun t => t.fld (F.LRX_STATUS_ACQ_STATE n) = 7 ∧ t.is (F.LRX_EVENT_LOS_ENTER n) = true ∧
      t.is (F.LRX_STATUS_PRESENT n) = false ∧ t.is (F.LRX_STATUS_CDR_LOCK n) = false ∧ s.OnlyDev recalRegs t := by
  have hn := n.isLt
  have hsound : (decide (120 < mv) && s.is (F.LRX_STATUS_CDR_LOCK n) && s.is (F.LRX_STATUS_PWR_WEIR n)) = false := by
    rcases hloud with h | h | h
    · simp [show ¬ 120 < mv by omega]
    · simp [h]
    · simp [h]
  have e : exec (.lrxLos n cause mv) s = done (((s.put (F.LRX_EVENT_LOS_ENTER n) true).line n 5).lrxDark n 7) :=
    congrArg done (if_pos (by simp [hlo, hhi, hlost, hsound, hloop]))
  have hev : s.Inside walkGround ((s.put (F.LRX_EVENT_LOS_ENTER n) true).line n 5) :=
    (s.put_inside _ (walkGround_covers n hn _ (by simp [walkFields]))).trans (State.line_inside _ _ _ (walkGround_lines n hn))
  have hbit : ((s.put (F.LRX_EVENT_LOS_ENTER n) true).line n 5).is (F.LRX_EVENT_LOS_ENTER n) = true := by
    rw [(State.line_inside _ _ _ (lineGround_covers n (by omega))).is (lineGround_walk n hn _ (by simp [walkFields])), State.put_is_same _ _ _ (Fld.fits_of rfl) rfl]
  have hst := hev.fld (walkGround_state n hn)
  generalize (s.put (F.LRX_EVENT_LOS_ENTER n) true).line n 5 = u at e hev hbit hst
  refine event_completes s e fun t ht _ => ⟨?_, ?_, ?_, ?_, ?_⟩
  · rw [ht.fld, State.lrxDark, State.put_fld_apart _ _ _ _ (Fld.fits_of rfl) (Fld.apart_of_bits rfl), State.lrxSet_state _ hn (by decide)]
  · rw [ht.is, State.lrxDark, State.put_is_apart _ _ _ _ (Fld.fits_of rfl) (Fld.apart_of_offsets rfl rfl (by decide)),
      State.lrxSet_shows _ hn _ (by simp [walkFields]), hbit]
  · rw [ht.is, State.lrxDark, State.put_is_same _ _ _ (Fld.fits_of rfl) rfl]
  · rw [ht.is, State.lrxDark, State.put_is_apart _ _ _ _ (Fld.fits_of rfl) (Fld.apart_of_bits rfl), State.lrxSet_unlocked _ hn (by omega) (Or.inr rfl)]
  · exact (((hev.onlyDev walkGround_dev).trans (u.lrxSet_dev hn 7)).trans
      ((State.put_inside (A := walkGround) _ _ (walkGround_covers n hn _ (by simp [walkFields]))).onlyDev walkGround_dev)).apart ht

/-! ### Presence -/

theorem amplitude_detected (mv : Nat) (hrun : s.running n = true) :
    Completes (.amplitudeDetectorChange n mv) s fun t =>
      t.is (F.LRX_STATUS_AMP_DET n) = (if (adetLevels (s.fld (F.LRX_ACQ_CFG_ADET_LVL n))).1 ≤ mv then true
        else if mv ≤ (adetLevels (s.fld (F.LRX_ACQ_CFG_ADET_LVL n))).2 then false else s.is (F.LRX_STATUS_AMP_DET n)) ∧
      t.fld (F.LRX_STATUS_ACQ_STATE n) = s.fld (F.LRX_STATUS_ACQ_STATE n) ∧
      (t.is (F.LRX_STATUS_AMP_DET n) = false → t.is (F.LRX_STATUS_PRESENT n) = false) ∧ s.Only [R.LRX_STATUS n] t := by
  have hn := n.isLt
  have e : exec (.amplitudeDetectorChange n mv) s = done
      ((if (adetLevels (s.fld (F.LRX_ACQ_CFG_ADET_LVL n))).1 ≤ mv then s.put (F.LRX_STATUS_AMP_DET n) true
        else if mv ≤ (adetLevels (s.fld (F.LRX_ACQ_CFG_ADET_LVL n))).2 then s.put (F.LRX_STATUS_AMP_DET n) false else s).presenceCheck n) :=
    congrArg done (if_pos hrun)
  generalize adetLevels (s.fld (F.LRX_ACQ_CFG_ADET_LVL n)) = lv at e ⊢
  have hseen : ∃ u, u = (if lv.1 ≤ mv then s.put (F.LRX_STATUS_AMP_DET n) true else if mv ≤ lv.2 then s.put (F.LRX_STATUS_AMP_DET n) false else s) ∧
      u.is (F.LRX_STATUS_AMP_DET n) = (if lv.1 ≤ mv then true else if mv ≤ lv.2 then false else s.is (F.LRX_STATUS_AMP_DET n)) ∧
      u.fld (F.LRX_STATUS_ACQ_STATE n) = s.fld (F.LRX_STATUS_ACQ_STATE n) ∧ s.Only [R.LRX_STATUS n] u := by
    have hput (b : Bool) : (s.put (F.LRX_STATUS_AMP_DET n) b).is (F.LRX_STATUS_AMP_DET n) = b := State.put_is_same _ _ _ (Fld.fits_of rfl) rfl
    have hacq (b : Bool) : (s.put (F.LRX_STATUS_AMP_DET n) b).fld (F.LRX_STATUS_ACQ_STATE n) = s.fld (F.LRX_STATUS_ACQ_STATE n) :=
      State.put_fld_apart _ _ _ _ (Fld.fits_of rfl) (Fld.apart_of_bits rfl)
    have honly (b : Bool) : s.Only [R.LRX_STATUS n] (s.put (F.LRX_STATUS_AMP_DET n) b) := fun a ha => State.put_rd_ne _ _ _ (mt List.mem_singleton.mpr ha)
    refine ⟨_, rfl, ?_⟩
    split
    · exact ⟨hput _, hacq _, honly _⟩
    · split
      · exact ⟨hput _, hacq _, honly _⟩
      · exact ⟨rfl, rfl, fun _ _ => rfl⟩
  obtain ⟨u, hu, hamp, hacq, honly⟩ := hseen
  rw [← hu] at e
  rw [← hamp, ← hacq]
  unfold State.presenceCheck at e
  by_cases hw : u.witnessed n = true
  · rw [if_pos hw] at e
    refine event_completes s e fun t ht _ => ⟨ht.is _, ht.fld _, fun hno => ?_, honly.apart ht⟩
    rw [State.witnessed, ← ht.is (F.LRX_STATUS_AMP_DET n), hno, Bool.false_and] at hw
    cases hw
  · rw [if_neg hw] at e
    refine event_completes s e fun t ht _ => ⟨?_, ?_, fun _ => ?_, fun a ha => ?_⟩
    · rw [ht.is, State.put_is_apart _ _ _ _ (Fld.fits_of rfl) (Fld.apart_of_bits rfl)]
    · rw [ht.fld, State.put_fld_apart _ _ _ _ (Fld.fits_of rfl) (Fld.apart_of_bits rfl)]
    · rw [ht.is, State.put_is_same _ _ _ (Fld.fits_of rfl) rfl]
    · rw [ht.rd, State.put_rd_ne _ _ _ (mt List.mem_singleton.mpr ha), honly a ha]

theorem State.setFld_lane (s : State) (f : Fld) (v k : Nat) : (s.setFld f v).lane k = s.lane k := rfl

/-- What an acquisition event writes touches neither the services nor the data flag of training. -/
theorem State.Inside.halfPair {s t : State} (h : s.Inside walkGround t) (n : Nat) : t.halfPair n = s.halfPair n := by
  unfold State.halfPair State.oos
  rw [h.rd (by decide : walkGround.at R.MODE_OOS_LINE = false), h.rd (by decide : walkGround.at R.MODE_OOS_HOST = false)]

theorem State.Inside.frameMark {s t : State} (h : s.Inside walkGround t) {n : Nat} (hn : n < 8) : t.frameMark n = s.frameMark n := by
  rw [State.frameMark, State.frameMark, h.halfPair, h.is ((by decide : ∀ n < 8, walkGround.misses (F.LRX_TRN_STAT_RX_DATA n) = true) n hn)]

/-- Clock recovery entered with the frames expected as training has them. -/
theorem State.lrxCdr_enters {n : Nat} (hn : n < 8) (s : State) : ((s.expectFrames n).lrxCdr n).fld (F.LRX_STATUS_ACQ_STATE n) = 2 ∧
    ((s.expectFrames n).lrxCdr n).is (F.LRX_STATUS_PRESENT n) = s.is (F.LRX_STATUS_PRESENT n) ∧
    ((s.expectFrames n).lrxCdr n).is (F.LRX_EVENT_LOS_EXIT n) = s.is (F.LRX_EVENT_LOS_EXIT n) ∧
    ((s.expectFrames n).lrxCdr n).fld (F.LRX_STATUS_CAPTURES n) = 0 ∧ (((s.expectFrames n).lrxCdr n).lane n).frames = s.frameMark n ∧
    s.OnlyDev recalRegs ((s.expectFrames n).lrxCdr n) := by
  rw [State.lrxCdr]
  refine ⟨?_, ?_, ?_, ?_, ?_, ?_⟩
  · rw [State.setFld_fld_apart _ _ _ _ (Fld.fits_of rfl) (Fld.apart_of_bits rfl), State.lrxSet_state _ hn (by decide)]
  · rw [State.setFld_is_apart _ _ _ _ (Fld.fits_of rfl) (Fld.apart_of_bits rfl), State.lrxSet_shows _ hn _ (by simp [walkFields])]
    rfl
  · rw [State.setFld_is_apart _ _ _ _ (Fld.fits_of rfl) (Fld.apart_of_offsets rfl rfl (by decide)), State.lrxSet_shows _ hn _ (by simp [walkFields])]
    rfl
  · exact State.setFld_fld_same _ _ _ (Fld.fits_of rfl)
  · rw [State.setFld_lane, State.lrxSet_frames _ hn, State.expectFrames_eq, State.onLane_lane, if_pos rfl]
  · have hset := State.lrxSet_dev (s.expectFrames n) hn 2
    generalize (s.expectFrames n).lrxSet n 2 = u at hset ⊢
    have hcap : u.Inside walkGround (u.setFld (F.LRX_STATUS_CAPTURES n) 0) := u.setFld_inside _ (walkGround_covers n hn _ (by simp [walkFields]))
    exact State.OnlyDev.trans hset (hcap.onlyDev walkGround_dev)

theorem presence_qualified (hst : s.fld (F.LRX_STATUS_ACQ_STATE n) = 1 ∨ s.fld (F.LRX_STATUS_ACQ_STATE n) = 7) (hw : s.witnessed n = true)
    (hloop : s.nearEnd = false) (hhalf : s.halfPair n = false) :
    Completes (.presenceQualified n) s fun t => t.fld (F.LRX_STATUS_ACQ_STATE n) = 2 ∧ t.is (F.LRX_STATUS_PRESENT n) = true ∧
      t.fld (F.LRX_STATUS_CAPTURES n) = 0 ∧ (t.lane n).frames = !s.is (F.LRX_TRN_STAT_RX_DATA n) ∧
      (s.fld (F.LRX_STATUS_ACQ_STATE n) = 7 → t.is (F.LRX_EVENT_LOS_EXIT n) = true) ∧ s.OnlyDev recalRegs t := by
  have hn := n.isLt
  /- What holds as the lane leaves for clock recovery. -/
  have hgo : ∃ u, s.present n = (u.expectFrames n).lrxCdr n ∧ u.is (F.LRX_STATUS_PRESENT n) = true ∧
      (s.fld (F.LRX_STATUS_ACQ_STATE n) = 7 → u.is (F.LRX_EVENT_LOS_EXIT n) = true) ∧ u.frameMark n = (!s.is (F.LRX_TRN_STAT_RX_DATA n)) ∧
      s.OnlyDev recalRegs u := by
    have hput : s.Inside walkGround (s.put (F.LRX_STATUS_PRESENT n) true) := s.put_inside _ (walkGround_covers n hn _ (by simp [walkFields]))
    have hset : (s.put (F.LRX_STATUS_PRESENT n) true).is (F.LRX_STATUS_PRESENT n) = true := State.put_is_same _ _ _ (Fld.fits_of rfl) rfl
    have hmark (u : State) (hu : s.Inside walkGround u) : u.frameMark n = (!s.is (F.LRX_TRN_STAT_RX_DATA n)) := by
      rw [hu.frameMark hn, State.frameMark, hhalf, Bool.not_false, Bool.and_true]
    have hnew := hput.halfPair n
    rw [hhalf] at hnew
    unfold State.present
    dsimp only
    rw [if_pos (by rcases hst with h | h <;> simp [h, hw, hloop]), if_neg (by simp [hnew])]
    generalize s.put (F.LRX_STATUS_PRESENT n) true = v at hput hset
    rcases hst with h1 | h7
    · rw [if_pos h1]
      exact ⟨v, rfl, hset, fun h => by omega, hmark v hput, hput.onlyDev walkGround_dev⟩
    · rw [if_neg (by omega), if_pos h7]
      have hexit : v.Inside walkGround (v.put (F.LRX_EVENT_LOS_EXIT n) true) := v.put_inside _ (walkGround_covers n hn _ (by simp [walkFields]))
      have hline (u : State) : u.Inside lineGround (u.line n 6) := u.line_inside _ _ (lineGround_covers n (by omega))
      have hin : s.Inside walkGround ((v.put (F.LRX_EVENT_LOS_EXIT n) true).line n 6) :=
        (hput.trans hexit).trans (State.line_inside _ _ _ (walkGround_lines n hn))
      refine ⟨_, rfl, ?_, fun _ => ?_, hmark _ hin, hin.onlyDev walkGround_dev⟩
      · rw [(hline _).is (lineGround_walk n hn _ (by simp [walkFields])),
          State.put_is_apart _ _ _ _ (Fld.fits_of rfl) (Fld.apart_of_offsets rfl rfl (by decide)), hset]
      · rw [(hline _).is (lineGround_walk n hn _ (by simp [walkFields])), State.put_is_same _ _ _ (Fld.fits_of rfl) rfl]
  obtain ⟨u, e, hpresent, hexit, hframes, hdev⟩ := hgo
  obtain ⟨hstate, hp, hx, hcap, hf, hd⟩ := u.lrxCdr_enters hn
  refine event_completes s (congrArg done e) fun t ht _ => ⟨?_, ?_, ?_, ?_, fun h7 => ?_, (hdev.trans hd).apart ht⟩
  · rw [ht.fld, hstate]
  · rw [ht.is, hp, hpresent]
  · rw [ht.fld, hcap]
  · rw [ht.lane, hf, hframes]
  · rw [ht.is, hx, hexit h7]

/-! ### A peak in the capture window -/

/-- The peak noted, and its capture logged. -/
def State.peakNoted (s : State) (n p : Nat) : State := s.setFld (F.LRX_MKR_PEAK_OTHER n) (max (s.fld (F.LRX_MKR_PEAK_OTHER n)) p)
def State.ratioOf (s : State) (n p : Nat) : State × Nat := ((s.peakNoted n p).bump (F.LRX_CAPLOG_COUNT n) 1).capRatio (s.fld (F.LRX_MKR_PEAK_ALIGNED n)) p
def State.capLogged (s : State) (n p : Nat) : State := ((s.ratioOf n p).1.setFld (F.LRX_CAPLOG_RATIO n) (s.ratioOf n p).2).put (F.LRX_EVENT_CAPTURE n) true

section
variable {n : Nat} {s : State}

theorem State.capRatio_rd (s : State) (held p a : Nat) : (s.capRatio held p).1.rd a = s.rd a := by
  unfold State.capRatio
  split <;> rfl

theorem State.capRatio_lane (s : State) (held p k : Nat) : (s.capRatio held p).1.lane k = s.lane k := by
  unfold State.capRatio
  split <;> rfl

theorem State.ratioOf_fld (p : Nat) (f : Fld) : (s.ratioOf n p).1.fld f = ((s.peakNoted n p).bump (F.LRX_CAPLOG_COUNT n) 1).fld f := by
  unfold State.fld
  rw [State.ratioOf, State.capRatio_rd]

theorem State.capLogged_inside (hn : n < 8) (p : Nat) : s.Inside walkGround (s.capLogged n p) := by
  have hcov {f : Fld} (hf : f ∈ walkFields n) := walkGround_covers n hn f hf
  have hnoted : s.Inside walkGround (s.peakNoted n p) := s.setFld_inside _ (hcov (by simp [walkFields]))
  have hcount : (s.peakNoted n p).Inside walkGround ((s.peakNoted n p).bump (F.LRX_CAPLOG_COUNT n) 1) := State.bump_inside _ _ (hcov (by simp [walkFields]))
  have hratio : ((s.peakNoted n p).bump (F.LRX_CAPLOG_COUNT n) 1).Inside walkGround (s.ratioOf n p).1 := .of_rd fun a => State.capRatio_rd _ _ _ a
  exact ((hnoted.trans hcount).trans hratio).trans ((State.setFld_inside _ _ (hcov (by simp [walkFields]))).trans (State.put_inside _ _ (hcov (by simp [walkFields]))))

theorem State.capLogged_lane (p k : Nat) : (s.capLogged n p).lane k = s.lane k := State.capRatio_lane ..

theorem State.capLogged_event (p : Nat) : (s.capLogged n p).is (F.LRX_EVENT_CAPTURE n) = true := State.put_is_same _ _ _ (Fld.fits_of rfl) rfl

theorem State.capLogged_captures (p : Nat) : (s.capLogged n p).fld (F.LRX_STATUS_CAPTURES n) = s.fld (F.LRX_STATUS_CAPTURES n) := by
  rw [State.capLogged, State.put_fld_apart _ _ _ _ (Fld.fits_of rfl) (Fld.apart_of_offsets rfl rfl (by decide)),
    State.setFld_fld_apart _ _ _ _ (Fld.fits_of rfl) (Fld.apart_of_offsets rfl rfl (by decide)), State.ratioOf_fld,
    State.bump_fld_apart _ _ _ _ (Fld.fits_of rfl) (Fld.apart_of_offsets rfl rfl (by decide)),
    State.peakNoted, State.setFld_fld_apart _ _ _ _ (Fld.fits_of rfl) (Fld.apart_of_offsets rfl rfl (by decide))]

theorem State.capLogged_count (p : Nat) : (s.capLogged n p).fld (F.LRX_CAPLOG_COUNT n) = min (s.fld (F.LRX_CAPLOG_COUNT n) + 1) 65535 := by
  rw [State.capLogged, State.put_fld_apart _ _ _ _ (Fld.fits_of rfl) (Fld.apart_of_offsets rfl rfl (by decide)),
    State.setFld_fld_apart _ _ _ _ (Fld.fits_of rfl) (Fld.apart_of_bits rfl), State.ratioOf_fld,
    State.bump_fld_same _ _ _ (Fld.fits_of rfl), State.peakNoted, State.setFld_fld_apart _ _ _ _ (Fld.fits_of rfl) (Fld.apart_of_offsets rfl rfl (by decide))]
  rfl

theorem State.capLogged_ratio (p : Nat) (h : s.fld (F.LRX_MKR_PEAK_ALIGNED n) ≠ 0) :
    (s.capLogged n p).fld (F.LRX_CAPLOG_RATIO n) = min (16 * p / s.fld (F.LRX_MKR_PEAK_ALIGNED n)) 255 := by
  have hratio : (s.ratioOf n p).2 = min (16 * p / s.fld (F.LRX_MKR_PEAK_ALIGNED n)) 255 := by
    rw [State.ratioOf, State.capRatio, if_neg h]
  rw [State.capLogged, State.put_fld_apart _ _ _ _ (Fld.fits_of rfl) (Fld.apart_of_offsets rfl rfl (by decide)), State.setFld_fld_same _ _ _ (Fld.fits_of rfl), hratio]
  exact Nat.mod_eq_of_lt (lt_of_le_of_lt (Nat.min_le_right _ _) (show 255 < 256 by decide))

end

/-- The ground reaches no offset of the coefficient banks. -/
def Ground.offBanks (A : Ground) : Bool := A.all fun e => Nat.blt 0 e.step && (Nat.ble (e.off + e.step * e.times) 0x400 || Nat.ble 0x600 e.off)

theorem Ground.at_bank {A : Ground} (h : A.offBanks = true) (n : Nat) (b : Bool) (w : Nat) : A.at (bankAddr n b w) = false := by
  simp only [Ground.offBanks, List.all_eq_true, Bool.and_eq_true, Bool.or_eq_true, Nat.ble_eq, Nat.blt_eq] at h
  simp only [Ground.at, List.any_eq_false, Spot.at, Bool.and_eq_true, Nat.ble_eq, Nat.blt_eq, Nat.beq_eq]
  rintro e he ⟨⟨⟨⟨-, -⟩, hoff⟩, hstep⟩, htimes⟩
  obtain ⟨hpos, hout⟩ := h e he
  have hb : b2n b ≤ 1 := by cases b <;> decide
  have hlow : 0x400 ≤ bankAddr n b w % 4096 ∧ bankAddr n b w % 4096 < 0x600 := by
    simp only [bankAddr, laneBase]
    omega
  generalize bankAddr n b w % 4096 = a at hoff hstep htimes hlow
  have hdiv := Nat.div_add_mod (a - e.off) e.step
  rw [hstep] at hdiv
  have hmul := Nat.mul_lt_mul_of_pos_left htimes hpos
  omega

theorem acqGround_banks : acqGround.offBanks = true := by decide

/-- The bank kept in SEEK, put back as the active one. -/
def State.bankBack (s : State) (n : Nat) : State := s.wrAll (bankAddr n (s.bankB n) 0) (s.lane n).seekBank

section
variable {n : Nat} {s : State} (h : (s.lane n).seekBank.length = 64)

include h in
theorem State.bankBack_rd {a : Nat} (ha : a < laneBase n + 0x400 ∨ laneBase n + 0x600 ≤ a) : (s.bankBack n).rd a = s.rd a := by
  refine State.wrAll_rd_out _ _ _ fun i hi => ?_
  have hb : b2n (s.bankB n) ≤ 1 := by cases s.bankB n <;> decide
  simp only [bankAddr]
  omega

include h in
theorem State.bankBack_fld (hn : n < 8) {f : Fld} (hf : f ∈ walkFields n) : (s.bankBack n).fld f = s.fld f := by
  unfold State.fld
  rw [s.bankBack_rd h ((by decide : ∀ n < 8, ∀ f ∈ walkFields n, f.addr < laneBase n + 0x400 ∨ laneBase n + 0x600 ≤ f.addr) n hn f hf)]

include h in
theorem State.bankBack_word (w : Fin 64) : (s.bankBack n).rd (bankAddr n (s.bankB n) w) = (s.lane n).seekBank.getD w 0#32 := by
  have haddr : bankAddr n (s.bankB n) w = bankAddr n (s.bankB n) 0 + 4 * w.val := by
    simp only [bankAddr]
    omega
  rw [haddr]
  exact State.wrAll_rd_at _ _ _ (by omega)

end

theorem peak_captured (pos p : Nat) (hst : s.fld (F.LRX_STATUS_ACQ_STATE n) = 5) (hoff : 2 < alignOff (s.lane n).align pos)
    (hp : 2 * s.fld (F.LRX_MKR_PEAK_ALIGNED n) ≤ p) (hcap : s.fld (F.LRX_STATUS_CAPTURES n) < 3) (hlen : (s.lane n).seekBank.length = 64) :
    Completes (.capture n pos p) s fun t => t.fld (F.LRX_STATUS_ACQ_STATE n) = 2 ∧ t.fld (F.LRX_STATUS_CAPTURES n) = s.fld (F.LRX_STATUS_CAPTURES n) + 1 ∧
      t.is (F.LRX_EVENT_CAPTURE n) = true ∧ t.fld (F.LRX_CAPLOG_COUNT n) = min (s.fld (F.LRX_CAPLOG_COUNT n) + 1) 65535 ∧
      (s.fld (F.LRX_MKR_PEAK_ALIGNED n) ≠ 0 → t.fld (F.LRX_CAPLOG_RATIO n) = min (16 * p / s.fld (F.LRX_MKR_PEAK_ALIGNED n)) 255) ∧
      (∀ w : Fin 64, t.rd (bankAddr n (s.bankB n) w) = (s.lane n).seekBank.getD w 0#32) ∧ s.OnlyDev recalRegs t := by
  have hn := n.isLt
  have e : exec (.capture n pos p) s =
      done (((((s.capLogged n p).incr (F.LRX_STATUS_CAPTURES n)).bankBack n).expectFrames n).lrxSet n 2) := by
    have hcap' := (s.capLogged_captures (n := n) p).trans_lt hcap
    refine congrArg done ?_
    unfold State.capturePeak
    dsimp only
    rw [if_pos ⟨hst, hoff⟩, if_pos hp]
    exact if_pos hcap'
  have hin := s.capLogged_inside hn p
  have hlane := s.capLogged_lane (n := n) p n
  have hevent := s.capLogged_event (n := n) p
  have hcaps := s.capLogged_captures (n := n) p
  have hcount := s.capLogged_count (n := n) p
  have hratio := s.capLogged_ratio (n := n) p
  generalize s.capLogged n p = u at e hin hlane hevent hcaps hcount hratio
  have hone : u.Inside walkGround (u.incr (F.LRX_STATUS_CAPTURES n)) := u.incr_inside (walkGround_covers n hn _ (by simp [walkFields]))
  have hbank : (u.incr (F.LRX_STATUS_CAPTURES n)).bankB n = s.bankB n := (hin.trans hone).is ((by decide : ∀ n < 8, walkGround.misses (F.LRX_BANK_ACTIVE n) = true) n hn)
  have hkept : ((u.incr (F.LRX_STATUS_CAPTURES n)).lane n).seekBank = (s.lane n).seekBank := congrArg Lane.seekBank hlane
  have hone_same : (u.incr (F.LRX_STATUS_CAPTURES n)).fld (F.LRX_STATUS_CAPTURES n) = s.fld (F.LRX_STATUS_CAPTURES n) + 1 := by
    rw [State.incr_fld_same _ _ (Fld.fits_of rfl), hcaps]
    exact Nat.mod_eq_of_lt (Nat.succ_lt_succ hcap)
  have hone_apart {f : Fld} (hf : f.Apart (F.LRX_STATUS_CAPTURES n)) : (u.incr (F.LRX_STATUS_CAPTURES n)).fld f = u.fld f :=
    State.incr_fld_apart _ _ _ (Fld.fits_of rfl) hf
  have hdev : s.OnlyDev recalRegs (u.incr (F.LRX_STATUS_CAPTURES n)) := (hin.trans hone).onlyDev walkGround_dev
  generalize u.incr (F.LRX_STATUS_CAPTURES n) = v at e hbank hkept hone_same hone_apart hdev
  have hlen' : (v.lane n).seekBank.length = 64 := hkept ▸ hlen
  have hshow {f : Fld} (hf : f ∈ walkFields n) : (((v.bankBack n).expectFrames n).lrxSet n 2).fld f = v.fld f :=
    (State.lrxSet_walk _ hn 2 hf).trans (State.bankBack_fld hlen' hn hf)
  refine event_completes s e fun t ht _ => ⟨?_, ?_, ?_, ?_, fun h0 => ?_, fun w => ?_, ?_⟩
  · rw [ht.fld, State.lrxSet_state _ hn (by decide)]
  · rw [ht.fld, hshow (by simp [walkFields]), hone_same]
  · rw [ht.is, State.is, hshow (by simp [walkFields]), hone_apart (Fld.apart_of_offsets rfl rfl (by decide))]
    exact hevent
  · rw [ht.fld, hshow (by simp [walkFields]), hone_apart (Fld.apart_of_offsets rfl rfl (by decide)), hcount]
  · rw [ht.fld, hshow (by simp [walkFields]), hone_apart (Fld.apart_of_offsets rfl rfl (by decide)), hratio h0]
  · rw [ht.rd, (State.lrxSet_acq _ hn 2).inside.rd (Ground.at_bank acqGround_banks ..), ← hbank, ← hkept]
    exact State.bankBack_word hlen' w
  · have hback : v.OnlyDev recalRegs ((v.bankBack n).expectFrames n) := fun a ha _ =>
      State.bankBack_rd hlen' (Or.inl (by simp only [laneBase]; omega))
    exact ((hdev.trans hback).trans (State.lrxSet_dev _ hn 2)).apart ht

theorem peak_noted (pos p : Nat) (hst : s.fld (F.LRX_STATUS_ACQ_STATE n) = 5) (hoff : 2 < alignOff (s.lane n).align pos)
    (hp : p < 2 * s.fld (F.LRX_MKR_PEAK_ALIGNED n)) (hfit : p < 65536) :
    Completes (.capture n pos p) s fun t => t.fld (F.LRX_MKR_PEAK_OTHER n) = max (s.fld (F.LRX_MKR_PEAK_OTHER n)) p ∧ s.Only [R.LRX_MKR n] t := by
  have e : exec (.capture n pos p) s = done (s.peakNoted n p) := by
    refine congrArg done ?_
    unfold State.capturePeak
    dsimp only
    rw [if_pos ⟨hst, hoff⟩, if_neg (by omega)]
    rfl
  refine event_completes s e fun t ht _ => ⟨?_, fun a ha => ?_⟩
  · have hlt : s.fld (F.LRX_MKR_PEAK_OTHER n) < 65536 := bitsOf_lt ..
    rw [ht.fld, State.peakNoted, State.setFld_fld_same _ _ _ (Fld.fits_of rfl)]
    exact Nat.mod_eq_of_lt (by show max _ _ < 65536; omega)
  · rw [ht.rd, State.peakNoted, State.setFld_rd_ne _ _ _ (mt List.mem_singleton.mpr ha)]

end

/-- Settles O11. -/
theorem lineReceiveAcquires : Obligations.LineReceiveAcquires := by
  unfold Obligations.LineReceiveAcquires
  exact ⟨presence_qualified, fun n mv s => amplitude_detected n s mv, fun m n s => prog_ready n s m, fun n pos1 pos2 p1 p2 s => marker_qualified n s pos1 pos2 p1 p2,
    fun m n s => acq_qualified n s m, fun n pos p s => peak_captured n s pos p, fun n pos p s => peak_noted n s pos p, seeks_again, window_ends,
    fun n cause mv s => signal_lost_line n s cause mv⟩

end Sys2Proof.Machine
end

section
/-! SUPPORT. What a barge boundary and a group boundary take (R68, R86, R111, R148, R186, R208), and with them O22. -/

namespace Sys2Proof.Machine

/-! ### Commits at a boundary -/

/-- What a commit of lane n writes: the choice of bank, the bank words, the cursor shown and the refusal's event. -/
def bankGround (n : Nat) : Ground := [⟨0x4100 + n, 1, 0x400, 4, 128, 0, 32⟩, .of 1 (F.LRX_BANK_ACTIVE n), .of 1 (F.LTX_STATUS_CUR_WEIGHT n), .of 1 (commitRefusedFld n)]

theorem bankGround_covers : ∀ n < 48, ∀ f ∈ [F.LRX_BANK_ACTIVE n, F.LTX_STATUS_CUR_WEIGHT n, commitRefusedFld n], (bankGround n).covers f = true := by decide
theorem bankGround_lane : ∀ n < 48, (bankGround n).lanesIn [n] = true := by decide

theorem bankGround_word (n : Nat) (b : Bool) (w : Nat) : (bankGround n).covers ⟨bankAddr n b w, 0, 32⟩ = true := by
  have hb : b2n b ≤ 1 := by cases b <;> decide
  have hat : (⟨0x4100 + n, 1, 0x400, 4, 128, 0, 32⟩ : Spot).at (bankAddr n b w) = true := by
    simp only [Spot.at, Bool.and_eq_true, Nat.ble_eq, Nat.blt_eq, Nat.beq_eq, bankAddr, laneBase]
    omega
  simp [Ground.covers, bankGround, Spot.covers, hat]

section
variable {n : Nat} (s : State)

theorem State.copyWords_inside (l : List Nat) : s.Inside (bankGround n) (s.copyWords n l) :=
  State.Inside.foldl (fun t _ _ => t.wr_inside _ (bankGround_word n ..)) s

theorem State.copyWords_parts (l : List Nat) : (s.copyWords n l).lanes = s.lanes ∧ (s.copyWords n l).seqs = s.seqs := by
  unfold State.copyWords
  induction l generalizing s with
  | nil => exact ⟨rfl, rfl⟩
  | cons v l ih => exact ih _

theorem State.swapBanks_inside (hn : n < 48) : s.Inside (bankGround n) (s.swapBanks n) := by
  rw [State.swapBanks_eq]
  have hflip : s.Inside (bankGround n) (s.flipActive n) := s.setFld_inside _ (bankGround_covers n hn _ (by simp))
  have hcopy (t : State) : t.Inside (bankGround n) (t.autocopied n) := .ite (t.copyWords_inside _) .refl
  have hcur (t : State) : t.Inside (bankGround n) (t.showCursor n) := .ite (t.setFld_inside _ (bankGround_covers n hn _ (by simp))) .refl
  exact ((hflip.trans (hcopy _)).trans (hcur _)).trans (.of_rd (State.showPeaking_rd _ n))

theorem State.swapBanks_parts (n : Nat) : (s.swapBanks n).lanes = s.lanes ∧ (s.swapBanks n).seqs = s.seqs := by
  have hcopy (t : State) : (t.autocopied n).lanes = t.lanes ∧ (t.autocopied n).seqs = t.seqs := by
    unfold State.autocopied
    split
    · exact t.copyWords_parts _
    · exact ⟨rfl, rfl⟩
  have hcur (t : State) : (t.showCursor n).lanes = t.lanes ∧ (t.showCursor n).seqs = t.seqs := by
    unfold State.showCursor
    split <;> exact ⟨rfl, rfl⟩
  have hpeak (t : State) : (t.showPeaking n).lanes = t.lanes ∧ (t.showPeaking n).seqs = t.seqs := by
    unfold State.showPeaking
    split <;> exact ⟨rfl, rfl⟩
  rw [State.swapBanks_eq, (hpeak _).1, (hpeak _).2, (hcur _).1, (hcur _).2, (hcopy _).1, (hcopy _).2]
  exact ⟨rfl, rfl⟩

theorem State.commit_inside (hn : n < 48) : s.Inside (bankGround n) (s.commit n).1 := by
  unfold State.commit
  split
  · exact (s.swapBanks_inside hn).trans (.of_rd (State.tally_rd _ _))
  · exact s.put_inside _ (bankGround_covers n hn _ (by simp))

theorem State.OnCore.lanes {s t : State} (h : s.OnCore t) : t.lanes = s.lanes := by
  obtain ⟨_, _, _, rfl⟩ := h
  rfl

theorem State.commit_lanes (n : Nat) : (s.commit n).1.lanes = s.lanes := by
  unfold State.commit
  split
  · exact (State.tally_onCore _ _).lanes.trans (s.swapBanks_parts n).1
  · rfl

theorem State.cmtResolve_inside (hn : n < 48) : s.Inside (bankGround n) (s.cmtResolve n) := by
  unfold State.cmtResolve
  split
  · exact .refl
  · have hdone (u : State) (d o : Nat) : u.Inside (bankGround n) (u.cmtDone n d o) := .of_rd (u.cmtDone_onCore n d o).rd
    exact .ite (hdone _ _ _) (.ite (hdone _ _ _) ((s.commit_inside hn).trans (hdone _ _ _)))

theorem State.cmtResolve_lanes (n : Nat) : (s.cmtResolve n).lanes = s.lanes := by
  unfold State.cmtResolve
  split
  · rfl
  · have hdone (u : State) (d o : Nat) : (u.cmtDone n d o).lanes = u.lanes := (u.cmtDone_onCore n d o).lanes
    split
    · exact hdone ..
    · split
      · exact hdone ..
      · exact (hdone ..).trans (s.commit_lanes n)

/-- A CMT that waits for a boundary which comes, outside a pause and with a sound shadow bank. -/
theorem State.cmtResolve_commits {d : Nat} {grp : Bool} (hcmt : (s.seq n).cmt = some (d, grp)) (hp : s.paused n = false)
    (hg : grp = true → s.hasGroups n = true) (hok : s.shadowOk n = true) :
    s.cmtResolve n = ((s.swapBanks n).tally (.ofLane 8 n 1)).cmtDone n d 0 := by
  have hno : (grp && !s.hasGroups n) = false := by
    cases grp
    · rfl
    · simp [hg rfl]
  unfold State.cmtResolve
  rw [hcmt]
  simp [hp, hno, State.commit, hok]

theorem State.setG_seqs (k r : Nat) (v : Word) : (s.setG k r v).seqs = s.seqs := by
  unfold State.setG
  split <;> rfl

theorem State.tally_cores (e : Event) : (s.tally e).seqs = s.seqs ∧ (s.tally e).gpr = s.gpr := by
  obtain ⟨p, h⟩ := State.tally_butCount s e
  rw [h]
  exact ⟨rfl, rfl⟩

theorem State.cmtDone_seqs (n d o : Nat) :
    (s.cmtDone n d o).seqs = (s.setSeq n { s.seq n with cmt := none, pc := (s.seq n).pc + 4#32, z := o == 0, n := false }).seqs := by
  unfold State.cmtDone
  dsimp only
  rw [(State.tally_cores _ _).1]
  split
  · exact State.setG_seqs ..
  · exact (State.tally_cores _ _).1.trans (State.setG_seqs ..)

theorem State.cmtDone_seq (n d o : Nat) : (s.cmtDone n d o).seq n = { s.seq n with cmt := none, pc := (s.seq n).pc + 4#32, z := o == 0, n := false } := by
  rw [State.seq, s.cmtDone_seqs]
  exact (setSeq_seq ..).trans (if_pos rfl)

theorem State.cmtDone_seq_other {k n : Nat} (d o : Nat) (h : n ≠ k) : (s.cmtDone k d o).seq n = s.seq n := by
  rw [State.seq, s.cmtDone_seqs]
  exact (tabGet_put ..).trans (if_neg h)

theorem State.cmtDone_g (n d : Nat) : (s.cmtDone n d 0).g n d = 0#32 := by
  unfold State.cmtDone State.g
  dsimp only
  rw [(State.tally_cores _ _).2, if_pos rfl]
  by_cases hd : d = 0
  · rw [if_pos hd]
  · rw [if_neg hd, State.setG, if_neg hd]
    change tabGet (fun _ => (0#32 : Word)) (tabPut (fun _ => 0#32) _ (16 * n + d) 0#32) (16 * n + d) = 0#32
    rw [tabGet_put, if_pos rfl]

/-- What a commit taken at its boundary leaves (R208). -/
theorem State.cmtResolve_commit {d : Nat} {grp : Bool} (hcmt : (s.seq n).cmt = some (d, grp)) (hp : s.paused n = false)
    (hg : grp = true → s.hasGroups n = true) (hok : s.shadowOk n = true) :
    (s.cmtResolve n).bankB n = (!s.bankB n) ∧ (∀ w, (s.cmtResolve n).activeWord n w = s.shadowWord n w) ∧
      (s.cmtResolve n).seq n = { s.seq n with cmt := none, pc := (s.seq n).pc + 4#32, z := true, n := false } ∧ (s.cmtResolve n).g n d = 0#32 := by
  have hrd (a : Nat) : (((s.swapBanks n).tally (.ofLane 8 n 1)).cmtDone n d 0).rd a = (s.swapBanks n).rd a :=
    ((State.cmtDone_onCore _ n d 0).rd a).trans (State.tally_rd _ _ a)
  have hseq : ((s.swapBanks n).tally (.ofLane 8 n 1)).seq n = s.seq n := by
    rw [State.seq, (State.tally_cores _ _).1, (s.swapBanks_parts n).2]
    rfl
  rw [s.cmtResolve_commits hcmt hp hg hok]
  refine ⟨?_, fun w => ?_, ?_, State.cmtDone_g _ n d⟩
  · rw [State.bankB_congr (hrd _), s.swapBanks_bankB]
  · rw [State.activeWord_congr fun a _ => hrd a, s.swapBanks_activeWord]
  · rw [State.cmtDone_seq, hseq]
    rfl

end

theorem clampNat_eq {lo hi : Nat} (h : lo ≤ hi) (v : Nat) : clampNat lo hi v = max lo (min hi v) := by
  unfold clampNat
  split
  · omega
  · split <;> omega

theorem State.shadowOk_congr {s t : State} {n : Nat} (h : ∀ a, a ≠ R.LTX_STATUS n → t.rd a = s.rd a) : t.shadowOk n = s.shadowOk n := by
  have hwords : t.shadowWord n = s.shadowWord n := funext fun w => State.shadowWord_congr h w
  unfold State.shadowOk
  rw [hwords]

/-! ### What a barge boundary takes -/

/-- The lane's structure without its settings, without its statistics window, and without its branch trims. -/
def Lane.butSettings (l : Lane) : Lane := { l with inv := false, precode := false, src := 0, patSel := 0, patEn := false, pat := 0, prev := 0 }
def Lane.butWindow (l : Lane) : Lane := { l with corrGo := false, corrRun := false, corrLog := 0, corrSrc := false, corrHurt := false, stat := Stat.init }
def Lane.butBranch (l : Lane) : Lane := { l with branchStep := [], branch := [] }

/-- What each of the three parts is, apart from the other two. -/
def Lane.settings (l : Lane) : Bool × Bool × Nat × Nat × Bool := (l.inv, l.precode, l.src, l.patSel, l.patEn)
def Lane.window (l : Lane) : Bool × Bool × Nat × Bool × Stat := (l.corrGo, l.corrRun, l.corrLog, l.corrSrc, l.stat)
def Lane.trims (l : Lane) : List (Int × Int × Int) × List (Int × Int × Int) := (l.branchStep, l.branch)

/-- Settings, window and branch trims taken. -/
def State.bargeTaken (s : State) (n : Nat) : State := ((s.takeSettings n).takeCorr n).branchEdge n

/-- The waits of a pair's commits judged anew as its transmitter takes its source. -/
def State.waitsChecked (s : State) (n : Nat) : State :=
  if 8 ≤ n ∧ n < 16 then each [n, s.hostOf 16 (2 * (n - 8)), s.hostOf 16 (2 * (n - 8) + 1)] (fun k s => s.cmtCheck k) s else s

/-- A commit that waits for a boundary of the kind given. -/
def State.commitDue (s : State) (n : Nat) (grp : Bool) : State :=
  match (s.seq n).cmt with
  | some (_, g) => if g = grp then s.cmtResolve n else s
  | none => s

/-- The settings of a line transmit lane and of a host lane, in the lane's structure. -/
def State.lineSettings (s : State) (n : Nat) (l : Lane) : Lane :=
  { l with inv := s.is (F.LTX_CTL_INV n), precode := s.is (F.LTX_CTL_PRECODE n), src := if s.fld (F.LTX_CTL_SRC n) = 3 then 0 else s.fld (F.LTX_CTL_SRC n),
           patSel := s.fld (F.LTX_PAT_SEL n), patEn := s.is (F.LTX_PAT_EN n), pat := if s.fld (F.LTX_PAT_SEL n) = l.patSel then l.pat else 0,
           prev := if s.is (F.LTX_CTL_PRECODE n) && !l.precode then 0 else l.prev }
def State.hostSettings (s : State) (n : Nat) (l : Lane) : Lane :=
  { l with inv := s.is (F.HRX_CTL_INV n), patSel := s.fld (F.HRX_PAT_SEL n), patEn := s.is (F.HRX_PAT_EN n),
           pat := if s.fld (F.HRX_PAT_SEL n) = l.patSel then l.pat else 0 }

/-- The field that shows the precoder in force. -/
def settingsGround (n : Nat) : Ground := [.of 1 (F.LTX_STATUS_PRECODE_ON n)]

section
variable {n : Nat} (s : State)

theorem State.bargeEdge_eq (hon : s.laneOn n = true) : s.bargeEdge n = ((s.bargeTaken n).waitsChecked n).commitDue n false := by
  unfold State.bargeEdge
  rw [if_pos hon]
  change (match (((s.bargeTaken n).waitsChecked n).seq n).cmt with
    | some (_, false) => ((s.bargeTaken n).waitsChecked n).cmtResolve n
    | _ => (s.bargeTaken n).waitsChecked n) = _
  generalize (s.bargeTaken n).waitsChecked n = u
  unfold State.commitDue
  rcases (u.seq n).cmt with _ | ⟨d, _ | _⟩ <;> rfl

theorem State.takeSettings_line (hlo : 8 ≤ n) (hhi : n < 16) :
    s.takeSettings n = (s.onLane n (s.lineSettings n)).put (F.LTX_STATUS_PRECODE_ON n) (s.is (F.LTX_CTL_PRECODE n)) := by
  unfold State.takeSettings
  rw [if_neg (by omega), if_pos hhi]
  rfl

theorem State.takeSettings_host (h : 16 ≤ n) : s.takeSettings n = s.onLane n (s.hostSettings n) := by
  unfold State.takeSettings
  rw [if_neg (by omega), if_neg (by omega)]
  rfl

theorem State.takeSettings_none (h : n < 8) : s.takeSettings n = s := if_pos h

theorem State.takeSettings_calm (hn : n < 48) : s.Calm (settingsGround n) Lane.butSettings (s.takeSettings n) := by
  rcases (by omega : n < 8 ∨ 8 ≤ n ∧ n < 16 ∨ 16 ≤ n) with h | ⟨hlo, hhi⟩ | h
  · rw [s.takeSettings_none h]
    exact .refl
  · rw [s.takeSettings_line hlo hhi]
    exact (s.onLane_calm (f := s.lineSettings n) _ fun _ => rfl).trans (State.put_calm _ _ ((by decide : ∀ n < 48, (settingsGround n).covers (F.LTX_STATUS_PRECODE_ON n) = true) n hn))
  · rw [s.takeSettings_host h]
    exact s.onLane_calm _ fun _ => rfl

theorem State.takeSettings_rd (h : n < 8 ∨ 16 ≤ n) (a : Nat) : (s.takeSettings n).rd a = s.rd a := by
  rcases h with h | h
  · rw [s.takeSettings_none h]
  · rw [s.takeSettings_host h]
    rfl

theorem State.takeCorr_calm : s.Calm [] Lane.butWindow (s.takeCorr n) := .ite (s.onLane_calm _ fun _ => rfl) .refl

theorem State.branchEdge_calm : s.Calm [] Lane.butBranch (s.branchEdge n) := .ite .refl (s.onLane_calm _ fun _ => rfl)

theorem State.bargeTaken_inside (hn : n < 48) : s.Inside (settingsGround n) (s.bargeTaken n) :=
  ((s.takeSettings_calm hn).inside.trans ((State.takeCorr_calm _).inside.mono (List.nil_subset _))).trans
    ((State.branchEdge_calm _).inside.mono (List.nil_subset _))

theorem State.bargeTaken_rd (h : n < 8 ∨ 16 ≤ n) (a : Nat) : (s.bargeTaken n).rd a = s.rd a := by
  have hwindow := (State.takeCorr_calm (n := n) (s.takeSettings n)).inside.rd (a := a) rfl
  have hbranch := (State.branchEdge_calm (n := n) ((s.takeSettings n).takeCorr n)).inside.rd (a := a) rfl
  rw [State.bargeTaken, hbranch, hwindow, s.takeSettings_rd h]

theorem State.takeSettings_seqs (n : Nat) : (s.takeSettings n).seqs = s.seqs := by
  rcases (by omega : n < 8 ∨ 8 ≤ n ∧ n < 16 ∨ 16 ≤ n) with h | ⟨hlo, hhi⟩ | h
  · rw [s.takeSettings_none h]
  · rw [s.takeSettings_line hlo hhi]
    rfl
  · rw [s.takeSettings_host h]
    rfl

theorem State.bargeTaken_seqs (n : Nat) : (s.bargeTaken n).seqs = s.seqs := by
  have hwindow (t : State) : (t.takeCorr n).seqs = t.seqs := by
    unfold State.takeCorr
    split <;> rfl
  have hbranch (t : State) : (t.branchEdge n).seqs = t.seqs := by
    unfold State.branchEdge
    split <;> rfl
  rw [State.bargeTaken, hbranch, hwindow, s.takeSettings_seqs]

/-! The waits judged anew -/

theorem State.cmtCheck_idle {n : Nat} (s : State) (h : (s.seq n).cmt = none ∨ ∃ d, (s.seq n).cmt = some (d, false) ∧ s.paused n = false) : s.cmtCheck n = s := by
  unfold State.cmtCheck
  rcases h with h | ⟨d, h, hp⟩
  · rw [h]
  · rw [h]
    simp [hp]

theorem State.cmtCheck_seq_other {k n : Nat} (s : State) (h : n ≠ k) : (s.cmtCheck k).seq n = s.seq n := by
  unfold State.cmtCheck State.cmtResolve
  split
  · rfl
  · next d grp hcmt =>
    by_cases hp : s.paused k = true
    · simpa [hp] using s.cmtDone_seq_other d 1 h
    · by_cases hg : (grp && !s.hasGroups k) = true
      · simpa [hp, hg] using s.cmtDone_seq_other d 2 h
      · simp [hp, hg]

theorem State.waitsChecked_onCore (n : Nat) : s.OnCore (s.waitsChecked n) := by
  unfold State.waitsChecked
  split
  · exact ((State.cmtCheck_onCore s _).trans (State.cmtCheck_onCore _ _)).trans (State.cmtCheck_onCore _ _)
  · exact .refl

theorem State.waitsChecked_seq (h : (s.seq n).cmt = none ∨ ∃ d, (s.seq n).cmt = some (d, false) ∧ s.paused n = false) : (s.waitsChecked n).seq n = s.seq n := by
  unfold State.waitsChecked
  split
  · next hn =>
    have hhost := State.hostOf_bounds s 16
    have h1 := hhost (2 * (n - 8))
    have h2 := hhost (2 * (n - 8) + 1)
    rw [each, List.foldl_cons, List.foldl_cons, List.foldl_cons, List.foldl_nil, State.cmtCheck_seq_other _ (by omega), State.cmtCheck_seq_other _ (by omega),
      s.cmtCheck_idle h]
  · rfl

/-! The commit -/

theorem State.commitDue_inside (hn : n < 48) (grp : Bool) : s.Inside (bankGround n) (s.commitDue n grp) := by
  unfold State.commitDue
  split
  · exact .ite (s.cmtResolve_inside hn) .refl
  · exact .refl

theorem State.commitDue_lanes (n : Nat) (grp : Bool) : (s.commitDue n grp).lanes = s.lanes := by
  unfold State.commitDue
  split
  · split
    · exact s.cmtResolve_lanes n
    · rfl
  · rfl

theorem State.commitDue_none (h : (s.seq n).cmt = none) (grp : Bool) : s.commitDue n grp = s := by
  unfold State.commitDue
  rw [h]

theorem State.commitDue_due {d : Nat} {grp : Bool} (h : (s.seq n).cmt = some (d, grp)) : s.commitDue n grp = s.cmtResolve n := by
  unfold State.commitDue
  rw [h]
  exact if_pos rfl

end

theorem State.Apart.seq {s t : State} (h : s.Apart t) (n : Nat) : t.seq n = s.seq n := by
  obtain ⟨_, _, _, rfl⟩ := h
  rfl

theorem State.Apart.g {s t : State} (h : s.Apart t) (n d : Nat) : t.g n d = s.g n d := by
  obtain ⟨_, _, _, rfl⟩ := h
  rfl

theorem State.lane_congr {s t : State} (h : t.lanes = s.lanes) (n : Nat) : t.lane n = s.lane n := by
  rw [State.lane, h]
  rfl

/-! ### A barge boundary as a whole -/

section
variable {n : Nat} {s : State}

theorem bankGround_settings : ∀ n < 48, (bankGround n).misses (F.LTX_STATUS_PRECODE_ON n) = true := by decide
theorem settingsGround_lane : ∀ n < 48, (settingsGround n).lanesIn [n] = true := by decide

theorem State.bargeEdge_inside (hn : n < 48) (hon : s.laneOn n = true) : s.Inside (settingsGround n ++ bankGround n) (s.bargeEdge n) := by
  rw [State.bargeEdge_eq _ hon]
  refine ((s.bargeTaken_inside hn).mono (List.subset_append_left _ _)).trans ?_
  exact (State.Inside.of_rd (State.waitsChecked_onCore _ n).rd).trans ((State.commitDue_inside _ hn false).mono (List.subset_append_right _ _))

theorem State.bargeEdge_lane (hon : s.laneOn n = true) (k : Nat) : (s.bargeEdge n).lane k = (s.bargeTaken n).lane k := by
  rw [State.bargeEdge_eq _ hon, State.lane_congr (State.commitDue_lanes _ n false), (State.waitsChecked_onCore _ n).lane]

theorem State.bargeEdge_lanes (hn : n < 48) (hon : s.laneOn n = true) : s.OnlyLanes [n] (s.bargeEdge n) :=
  (State.bargeEdge_inside hn hon).onlyLanes ((by decide : ∀ n < 48, (settingsGround n ++ bankGround n).lanesIn [n] = true) n hn)

/-- Without a commit that waits, a boundary writes what the settings, the window and the trims write. -/
theorem State.bargeEdge_rd (hon : s.laneOn n = true) (h : (s.seq n).cmt = none) (a : Nat) : (s.bargeEdge n).rd a = (s.bargeTaken n).rd a := by
  have hseq : ((s.bargeTaken n).seq n).cmt = none := by
    rw [State.seq, State.bargeTaken_seqs]
    exact h
  rw [State.bargeEdge_eq _ hon, State.commitDue_none _ (by rw [State.waitsChecked_seq _ (.inl hseq), hseq]), (State.waitsChecked_onCore _ n).rd]

/-- Settings, window and trims do not touch each other. -/
theorem State.bargeEdge_settings (hon : s.laneOn n = true) : ((s.bargeEdge n).lane n).settings = ((s.takeSettings n).lane n).settings := by
  have hwindow := (State.takeCorr_calm (n := n) (s.takeSettings n)).lanes n
  have hbranch := (State.branchEdge_calm (n := n) ((s.takeSettings n).takeCorr n)).lanes n
  rw [State.bargeEdge_lane hon, State.bargeTaken]
  exact (congrArg Lane.settings hbranch :).trans (congrArg Lane.settings hwindow :)

theorem State.bargeEdge_window (hon : s.laneOn n = true) : ((s.bargeEdge n).lane n).window = (((s.takeSettings n).takeCorr n).lane n).window := by
  have hbranch := (State.branchEdge_calm (n := n) ((s.takeSettings n).takeCorr n)).lanes n
  rw [State.bargeEdge_lane hon, State.bargeTaken]
  exact (congrArg Lane.window hbranch :)

theorem State.takeSettings_trims (hn : n < 48) : (((s.takeSettings n).takeCorr n).lane n).trims = (s.lane n).trims := by
  have hset := (s.takeSettings_calm hn).lanes n
  have hwindow := (State.takeCorr_calm (n := n) (s.takeSettings n)).lanes n
  exact (congrArg Lane.trims hwindow :).trans (congrArg Lane.trims hset :)

/-- A host receive or line receive lane has no registers that show its settings. -/
theorem State.bargeEdge_quiet (hon : s.laneOn n = true) (hk : n < 8 ∨ 16 ≤ n) (h : (s.seq n).cmt = none) : s.Only [] (s.bargeEdge n) :=
  fun a _ => by rw [State.bargeEdge_rd hon h, s.bargeTaken_rd hk]

end

section
variable (n : Fin 48) (s : State)

theorem settings_taken (hlo : 8 ≤ n.val) (hhi : n.val < 16) (hon : s.laneOn n = true) :
    Completes (.bargeBoundary n) s fun t => (t.lane n).inv = s.is (F.LTX_CTL_INV n) ∧ (t.lane n).precode = s.is (F.LTX_CTL_PRECODE n) ∧
      (t.lane n).src = (if s.fld (F.LTX_CTL_SRC n) = 3 then 0 else s.fld (F.LTX_CTL_SRC n)) ∧ (t.lane n).patSel = s.fld (F.LTX_PAT_SEL n) ∧
      (t.lane n).patEn = s.is (F.LTX_PAT_EN n) ∧ t.is (F.LTX_STATUS_PRECODE_ON n) = s.is (F.LTX_CTL_PRECODE n) ∧
      ((s.seq n).cmt = none → s.Only [R.LTX_STATUS n] t) ∧ s.OnlyLanes [n.val] t := by
  have hn := n.isLt
  refine event_completes s (u := s.bargeEdge n) rfl fun t ht _ => ?_
  have hset : (s.takeSettings n).lane n = s.lineSettings n (s.lane n) := by
    rw [s.takeSettings_line hlo hhi]
    exact (State.onLane_lane s n n _).trans (if_pos rfl)
  have hall := congrArg Lane.settings hset
  rw [← State.bargeEdge_settings hon, ← ht.lane] at hall
  simp only [Lane.settings, State.lineSettings, Prod.mk.injEq] at hall
  obtain ⟨hinv, hpre, hsrc, hsel, hen⟩ := hall
  refine ⟨hinv, hpre, hsrc, hsel, hen, ?_, fun hcmt a ha => ?_, (State.bargeEdge_lanes hn hon).apart ht⟩
  · have htaken : (s.takeSettings n).is (F.LTX_STATUS_PRECODE_ON n) = s.is (F.LTX_CTL_PRECODE n) := by
      rw [s.takeSettings_line hlo hhi]
      exact State.put_is_same _ _ _ (Fld.fits_of rfl) rfl
    have hrest : (s.takeSettings n).Inside [] (s.bargeTaken n) := (State.takeCorr_calm _).inside.trans (State.branchEdge_calm _).inside
    rw [ht.is, State.bargeEdge_eq _ hon, (State.commitDue_inside _ hn false).is (bankGround_settings n hn),
      (State.Inside.of_rd (A := []) (State.waitsChecked_onCore _ n).rd).is rfl, hrest.is rfl, htaken]
  · rw [ht.rd, State.bargeEdge_rd hon hcmt]
    exact (s.bargeTaken_inside hn).only ((by decide : ∀ n < 48, (settingsGround n).allIn [R.LTX_STATUS n] = true) n hn) a ha

theorem window_taken (hk : n.val < 8 ∨ 16 ≤ n.val ∧ n.val < 32) (hon : s.laneOn n = true) (hgo : (s.lane n).corrGo = true) :
    Completes (.bargeBoundary n) s fun t => (t.lane n).corrRun = true ∧ (t.lane n).corrGo = false ∧
      (t.lane n).corrLog = (if n.val < 8 then max 10 (min 20 (s.fld (F.LRX_CORR_CTL_LOG2N n))) else max 10 (min 18 (s.fld (F.HRX_CORR_CTL_LOG2N n)))) ∧
      (t.lane n).corrSrc = (decide (n.val < 8) && s.is (F.LRX_CORR_CTL_HIST_SRC n)) ∧ (t.lane n).stat = Stat.init ∧
      (16 ≤ n.val → (t.lane n).inv = s.is (F.HRX_CTL_INV n)) ∧ ((s.seq n).cmt = none → s.Only [] t) ∧ s.OnlyLanes [n.val] t := by
  have hn := n.isLt
  have hkind : n.val < 8 ∨ 16 ≤ n.val := by omega
  refine event_completes s (u := s.bargeEdge n) rfl fun t ht _ => ?_
  have hrd := s.takeSettings_rd hkind
  have hgo' : ((s.takeSettings n).lane n).corrGo = true := (congrArg Lane.corrGo ((s.takeSettings_calm hn).lanes n) :).trans hgo
  have hset : ((s.takeSettings n).takeCorr n).lane n = _ := (congrArg (fun t : State => t.lane n) (if_pos hgo')).trans (State.onLane_lane _ n n _)
  rw [if_pos rfl] at hset
  have hall := congrArg Lane.window hset
  rw [← State.bargeEdge_window hon, ← ht.lane] at hall
  simp only [Lane.window, Prod.mk.injEq] at hall
  obtain ⟨hgo, hrun, hlog, hsrc, hstat⟩ := hall
  refine ⟨hrun, hgo, ?_, ?_, hstat, fun hhost => ?_, fun hcmt => (State.bargeEdge_quiet hon hkind hcmt).apart ht, (State.bargeEdge_lanes hn hon).apart ht⟩
  · rw [hlog, State.fld, hrd, ← State.fld, corrLength, corrCtl]
    split
    · exact clampNat_eq (by decide) _
    · exact clampNat_eq (by decide) _
  · rw [hsrc, State.is, State.fld, hrd]
    rfl
  · have hall := State.bargeEdge_settings hon
    rw [← ht.lane, s.takeSettings_host hhost, State.onLane_lane, if_pos rfl] at hall
    exact congrArg Prod.fst hall

theorem step_taken (hk : n.val < 8 ∨ 16 ≤ n.val ∧ n.val < 32) (hon : s.laneOn n = true) (hstep : (s.lane n).branchStep ≠ []) :
    Completes (.bargeBoundary n) s fun t => (t.lane n).branchStep = [] ∧
      (t.lane n).branch = (if s.calState n = 2 ∨ s.calState n = 3 then (s.lane n).branch else stepBranches (branches n) (s.lane n).branch (s.lane n).branchStep) ∧
      s.OnlyLanes [n.val] t := by
  have hn := n.isLt
  have hkind : n.val < 8 ∨ 16 ≤ n.val := by omega
  refine event_completes s (u := s.bargeEdge n) rfl fun t ht _ => ?_
  have htrims := s.takeSettings_trims hn
  have hcal : ((s.takeSettings n).takeCorr n).calState n = s.calState n := by
    rw [State.calState, (State.takeCorr_calm _).inside.fld rfl, State.fld, s.takeSettings_rd hkind]
    rfl
  generalize hw : (s.takeSettings n).takeCorr n = w at htrims hcal
  simp only [Lane.trims, Prod.mk.injEq] at htrims
  obtain ⟨hbs, hb⟩ := htrims
  rw [ht.lane, State.bargeEdge_lane hon, State.bargeTaken, hw, State.branchEdge, if_neg (by simpa [hbs] using hstep)]
  dsimp only
  rw [State.onLane_lane, if_pos rfl]
  refine ⟨rfl, ?_, (State.bargeEdge_lanes hn hon).apart ht⟩
  dsimp only
  rw [hcal, hbs, hb]
  simp

theorem commit_taken (d : Nat) (hon : s.laneOn n = true) (hcmt : (s.seq n).cmt = some (d, false)) (hp : s.paused n = false) (hok : s.shadowOk n = true) :
    Completes (.bargeBoundary n) s fun t => t.bankB n = (!s.bankB n) ∧ (∀ w : Fin 64, t.activeWord n w = s.shadowWord n w) ∧ (t.seq n).cmt = none ∧
      (t.seq n).pc = (s.seq n).pc + 4#32 ∧ (t.seq n).z = true ∧ t.g n d = 0#32 ∧ s.OnlyLanes [n.val] t := by
  have hn := n.isLt
  have htaken := s.bargeTaken_inside hn
  have hwaits := State.waitsChecked_onCore (s.bargeTaken n) n
  /- The state that the commit finds reads as before but for the precoder shown. -/
  have hin : s.Inside (settingsGround n) ((s.bargeTaken n).waitsChecked n) := htaken.trans (.of_rd hwaits.rd)
  have hsame (a : Nat) (ha : a ≠ R.LTX_STATUS n) : ((s.bargeTaken n).waitsChecked n).rd a = s.rd a :=
    hin.only ((by decide : ∀ n < 48, (settingsGround n).allIn [R.LTX_STATUS n] = true) n hn) a (by simpa using ha)
  have htakenSeq : (s.bargeTaken n).seq n = s.seq n := by
    rw [State.seq, State.bargeTaken_seqs]
    rfl
  have htakenPaused : (s.bargeTaken n).paused n = false := by
    rw [State.paused, htaken.fld ((by decide : ∀ n < 48, (settingsGround n).misses (F.CAL_LANE_STAT_STATE n) = true) n hn)]
    exact hp
  have hseq : ((s.bargeTaken n).waitsChecked n).seq n = s.seq n :=
    (State.waitsChecked_seq _ (.inr ⟨d, by rw [htakenSeq, hcmt], htakenPaused⟩)).trans htakenSeq
  have hpaused : ((s.bargeTaken n).waitsChecked n).paused n = false := by
    rw [State.paused, hin.fld ((by decide : ∀ n < 48, (settingsGround n).misses (F.CAL_LANE_STAT_STATE n) = true) n hn)]
    exact hp
  have heq := State.bargeEdge_eq s hon
  generalize (s.bargeTaken n).waitsChecked n = u at hsame hseq hpaused heq
  have hcmtu : (u.seq n).cmt = some (d, false) := by rw [hseq, hcmt]
  rw [State.commitDue_due _ hcmtu] at heq
  obtain ⟨hbank, hword, hq, hg⟩ := u.cmtResolve_commit hcmtu hpaused nofun (by rw [State.shadowOk_congr hsame, hok])
  rw [← heq] at hbank hword hq hg
  refine event_completes s (u := s.bargeEdge n) rfl fun t ht _ => ?_
  have htq : t.seq n = { s.seq n with cmt := none, pc := (s.seq n).pc + 4#32, z := true, n := false } := by
    rw [State.Apart.seq ht, hq, hseq]
  refine ⟨?_, fun w => ?_, by rw [htq], by rw [htq], by rw [htq], ?_, (State.bargeEdge_lanes hn hon).apart ht⟩
  · rw [State.bankB_congr (ht.rd _), hbank, State.bankB_congr (hsame _ (bank_ne_status n))]
  · rw [State.activeWord_congr fun a _ => ht.rd a, hword, State.shadowWord_congr hsame]
  · rw [State.Apart.g ht, hg]

theorem boundary_passes (hoff : s.laneOn n = false) : Completes (.bargeBoundary n) s fun t => s.Only [] t ∧ t.lanes = s.lanes :=
  idle_completes s (congrArg done (if_neg (by simp [hoff])))


end

end Sys2Proof.Machine
end

section
/-! SUPPORT. What a group boundary takes (R148, R153, R186, R208, R374), and with the barge boundary O22. -/

namespace Sys2Proof.Machine

/-- Whether a lane has groups rests on the mode, the lanes, the slot, the codeword lock and the transmitter's state. -/
theorem State.hasGroups_congr {s t : State} {n : Nat} (hmode : s.SameMode t) (hlanes : ∀ k, t.lane k = s.lane k) (hslot : t.slot n = s.slot n)
    (hlock : ∀ k, t.is (F.LRX_CW_STAT_LOCKED k) = s.is (F.LRX_CW_STAT_LOCKED k)) (hst : ∀ k, t.fld (F.LTX_STATUS_STATE k) = s.fld (F.LTX_STATUS_STATE k)) :
    t.hasGroups n = s.hasGroups n := by
  unfold State.hasGroups State.encodes State.lineOf
  rw [hmode.coded, hmode.runMode, hslot]
  simp only [hlanes, hlock, hst]

section
variable {A : Ground} {s t : State} {n : Nat} (h : s.Inside A t) (hA : A.offBanks = true ∧ A.misses (F.LRX_BANK_ACTIVE n) = true)
include h hA

/-- A ground that reaches neither the banks nor their choice keeps them. -/
theorem State.Inside.bankB : t.bankB n = s.bankB n := h.is hA.2

theorem State.Inside.activeWord (w : Nat) : t.activeWord n w = s.activeWord n w := by
  rw [State.activeWord, h.bankB hA, h.rd (Ground.at_bank hA.1 ..)]
  rfl

theorem State.Inside.shadowWord (w : Nat) : t.shadowWord n w = s.shadowWord n w := by
  rw [State.shadowWord, h.bankB hA, h.rd (Ground.at_bank hA.1 ..)]
  rfl

theorem State.Inside.shadowOk : t.shadowOk n = s.shadowOk n := by
  have hwords : t.shadowWord n = s.shadowWord n := funext fun w => h.shadowWord hA w
  unfold State.shadowOk
  rw [hwords]

end

section
variable {n : Nat} (s : State)

theorem State.line_lanes (n i : Nat) : (s.line n i).lanes = s.lanes := by
  unfold State.line
  split
  · exact (s.setBit_keeps _ _).2.2.2
  · rfl

theorem State.line_seqs (n i : Nat) : (s.line n i).seqs = s.seqs := by
  unfold State.line
  split
  · exact (s.setBit_keeps _ _).2.2.1
  · rfl

theorem State.line_hasGroups (hn : n < 48) (i : Nat) : (s.line n i).hasGroups n = s.hasGroups n := by
  have hcalm : s.Calm lineGround id (s.line n i) := s.line_calm n i (lineGround_covers n hn)
  refine State.hasGroups_congr (hcalm.beside.sameMode (hcalm.inside.rd (by decide))) hcalm.lanes ?_ (fun k => ?_) fun k => ?_
  · exact hcalm.inside.fld ((by decide : ∀ n < 48, lineGround.misses (F.HRX_STATUS_ACTIVE_SLOT n) = true) n hn)
  · exact State.is_congr (State.line_rd_ne _ _ _ (by simp only [F.LRX_CW_STAT_LOCKED, R.LRX_CW_STAT, F.LRX_SEQ_EVT_LINES, R.LRX_SEQ_EVT, laneBase]; omega))
  · exact State.fld_congr (State.line_rd_ne _ _ _ (by simp only [F.LTX_STATUS_STATE, R.LTX_STATUS, F.LRX_SEQ_EVT_LINES, R.LRX_SEQ_EVT, laneBase]; omega))

/-- The line of a group boundary, and the commit that waited for it. -/
def State.groupCut (s : State) (n : Nat) : State := (s.line n 3).commitDue n true

/-- Pending trims. -/
def State.trimsDue (s : State) (n : Nat) : State := if s.calState n = 3 then s.calCommit n false else s

/-- The decoder's level and the encoder's injection. -/
def State.codeDue (s : State) (n : Nat) : State :=
  if n < 8 then s.onLane n fun l => { l with saver := s.fld F.THERM_STAT_LEVEL }
  else if n < 16 && s.is (F.LTX_CW_INJ_PENDING n) then (s.put (F.LTX_CW_INJ_PENDING n) false).onLane n fun l => { l with cwInject := true }
  else s

theorem State.groupEdge_eq (hg : s.hasGroups n = true) (hon : s.laneOn n = true) : s.groupEdge n = ((s.groupCut n).trimsDue n).codeDue n := by
  have hcut : s.groupCut n = (match ((s.line n 3).seq n).cmt with
      | some (_, true) => (s.line n 3).cmtResolve n
      | _ => s.line n 3) := by
    unfold State.groupCut State.commitDue
    rcases ((s.line n 3).seq n).cmt with _ | ⟨d, _ | _⟩ <;> rfl
  rw [hcut]
  exact if_pos (by simp [hg, hon])

/-- What each part of the group boundary writes. -/
def edgeLine (n : Nat) : Ground := [.of 1 (F.LRX_SEQ_EVT_LINES n)]
def cutGround (n : Nat) : Ground := edgeLine n ++ bankGround n
def codeGround (n : Nat) : Ground := [.of 1 (F.LTX_CW_INJ_PENDING n)]

theorem edgeLine_covers : ∀ n < 48, (edgeLine n).covers (F.LRX_SEQ_EVT_LINES n) = true := by decide
theorem codeGround_covers : ∀ n < 48, (codeGround n).covers (F.LTX_CW_INJ_PENDING n) = true := by decide

theorem State.groupCut_inside (hn : n < 48) : s.Inside (cutGround n) (s.groupCut n) :=
  ((s.line_inside _ _ (edgeLine_covers n hn)).mono (List.subset_append_left _ _)).trans ((State.commitDue_inside _ hn true).mono (List.subset_append_right _ _))

theorem State.groupCut_lanes (n : Nat) : (s.groupCut n).lanes = s.lanes := (State.commitDue_lanes _ n true).trans (s.line_lanes n 3)

theorem State.groupCut_idle (h : (s.seq n).cmt = none) : s.groupCut n = s.line n 3 :=
  State.commitDue_none _ (by rw [State.seq, s.line_seqs]; exact h) true

/-- A lane that is on has the line of its group boundary set. -/
theorem State.groupCut_line (hn : n < 48) (hon : s.laneOn n = true) : bitAt ((s.groupCut n).fld (F.LRX_SEQ_EVT_LINES n)) 3 = true := by
  rw [State.groupCut, (State.commitDue_inside _ hn true).fld ((by decide : ∀ n < 48, (bankGround n).misses (F.LRX_SEQ_EVT_LINES n) = true) n hn), State.line, if_pos hon]
  exact State.setBit_set _ _ _ (Fld.fits_of rfl) (show 3 < 32 by decide)

theorem State.trimsDue_inside (hn : n < 48) : s.Inside (commitGround n) (s.trimsDue n) := .ite (s.calCommit_inside hn false) .refl

theorem State.codeDue_inside (hn : n < 48) : s.Inside (codeGround n) (s.codeDue n) := by
  unfold State.codeDue
  exact .ite (State.onLane_inside _ _ _) (.ite ((s.put_inside _ (codeGround_covers n hn)).trans (State.onLane_inside _ _ _)) .refl)

theorem State.codeDue_trim (n : Nat) : ((s.codeDue n).lane n).trim = (s.lane n).trim := by
  unfold State.codeDue
  split
  · rw [State.onLane_lane, if_pos rfl]
  · split
    · have hput : (s.put (F.LTX_CW_INJ_PENDING n) false).lane n = s.lane n := State.put_lane ..
      rw [State.onLane_lane, if_pos rfl, hput]
    · rfl

/-- Trims, level and injection leave sequencers and registers of the cores, and the banks. -/
theorem State.calCommit_cores (n : Nat) (step : Bool) : (s.calCommit n step).seqs = s.seqs ∧ (s.calCommit n step).gpr = s.gpr := ⟨rfl, rfl⟩

theorem State.edgeRest_cores (n : Nat) : ((s.trimsDue n).codeDue n).seqs = s.seqs ∧ ((s.trimsDue n).codeDue n).gpr = s.gpr := by
  have htrims : (s.trimsDue n).seqs = s.seqs ∧ (s.trimsDue n).gpr = s.gpr := by
    unfold State.trimsDue
    split
    · exact s.calCommit_cores n false
    · exact ⟨rfl, rfl⟩
  have hcode (u : State) : (u.codeDue n).seqs = u.seqs ∧ (u.codeDue n).gpr = u.gpr := by
    unfold State.codeDue
    split
    · exact ⟨rfl, rfl⟩
    · split
      · rw [State.onLane_seqs, State.put_seqs, State.onLane_gpr, State.put_gpr]
        exact ⟨rfl, rfl⟩
      · exact ⟨rfl, rfl⟩
  exact ⟨(hcode _).1.trans htrims.1, (hcode _).2.trans htrims.2⟩

theorem State.edgeRest_inside (hn : n < 48) : s.Inside (commitGround n ++ codeGround n) ((s.trimsDue n).codeDue n) :=
  ((s.trimsDue_inside hn).mono (List.subset_append_left _ _)).trans ((State.codeDue_inside _ hn).mono (List.subset_append_right _ _))

end

section
variable (n : Fin 48) (s : State)

theorem trims_in_force (hg : s.hasGroups n = true) (hon : s.laneOn n = true) (hcal : s.calState n = 3) :
    Completes (.groupBoundary n) s fun t => t.fld (F.CAL_LANE_STAT_STATE n) = 0 ∧ t.is (F.CAL_LANE_STAT_LAST_STEP n) = false ∧
      t.fld (F.CAL_LANE_REF_T_REF n) = (s.lane n).calT % 1024 ∧ t.fld F.CAL_RECAL_COUNT_COUNT = min (s.fld F.CAL_RECAL_COUNT_COUNT + 1) 0xFFFF ∧
      t.fld F.CAL_STEP_COUNT_COUNT = s.fld F.CAL_STEP_COUNT_COUNT ∧ (t.lane n).trim = (s.lane n).trimNext ∧ bitAt (t.fld (F.LRX_SEQ_EVT_LINES n)) 3 = true ∧
      ((s.seq n).cmt = none → s.Only [R.CAL_LANE_STAT n, R.CAL_LANE_REF n, R.CAL_EVENT, R.CAL_RECAL_COUNT, R.LRX_SEQ_EVT n, R.LTX_CW_INJ n] t) := by
  have hn := n.isLt
  have hcut := s.groupCut_inside hn
  have hlane := State.lane_congr (s.groupCut_lanes n) n
  have hline := s.groupCut_line hn hon
  have hidle := s.groupCut_idle (n := n)
  have e := s.groupEdge_eq hg hon
  generalize s.groupCut n = u at hcut hlane hline hidle e
  have hkept {f : Fld} (hf : ∀ n < 48, (cutGround n).misses f = true) : u.fld f = s.fld f := hcut.fld (hf n hn)
  have hstate : u.calState n = 3 := (hcut.fld ((by decide : ∀ n < 48, (cutGround n).misses (F.CAL_LANE_STAT_STATE n) = true) n hn)).trans hcal
  have htrims : u.trimsDue n = u.calCommit n false := if_pos hstate
  rw [htrims] at e
  have hcode := (u.calCommit n false).codeDue_inside hn
  have hfld {f : Fld} {v : Nat} (hf : (f, v) ∈ u.commitWrites n false) (hmiss : (codeGround n).misses f = true) :
      ((u.calCommit n false).codeDue n).fld f = v % 2 ^ f.wd := (hcode.fld hmiss).trans (u.calCommit_fld hn false hf)
  refine event_completes s (u := s.groupEdge n) rfl fun t ht _ => ?_
  rw [e] at ht
  refine ⟨?_, ?_, ?_, ?_, ?_, ?_, ?_, fun hcmt a ha => ?_⟩
  · rw [ht.fld, hfld (v := 0) (by simp [State.commitWrites]) ((by decide : ∀ n < 48, (codeGround n).misses (F.CAL_LANE_STAT_STATE n) = true) n hn)]
    rfl
  · rw [ht.is, State.is, hfld (v := b2n false) (by simp [State.commitWrites]) ((by decide : ∀ n < 48, (codeGround n).misses (F.CAL_LANE_STAT_LAST_STEP n) = true) n hn)]
    rfl
  · rw [ht.fld, hfld (v := (u.lane n).calT) (by simp [State.commitWrites]) ((by decide : ∀ n < 48, (codeGround n).misses (F.CAL_LANE_REF_T_REF n) = true) n hn), hlane]
    rfl
  · rw [ht.fld, hfld (v := min (u.fld F.CAL_RECAL_COUNT_COUNT + 1) 0xFFFF) (by simp [State.commitWrites])
      ((by decide : ∀ n < 48, (codeGround n).misses F.CAL_RECAL_COUNT_COUNT = true) n hn), hkept (by decide)]
    exact Nat.mod_eq_of_lt (lt_of_le_of_lt (Nat.min_le_right _ _) (show 65535 < 65536 by decide))
  · rw [ht.fld, hcode.fld ((by decide : ∀ n < 48, (codeGround n).misses F.CAL_STEP_COUNT_COUNT = true) n hn),
      (u.calCommit_inside hn false).fld ((by decide : ∀ n < 48, (commitGround n).misses F.CAL_STEP_COUNT_COUNT = true) n hn), hkept (by decide)]
  · rw [ht.lane, State.codeDue_trim, u.calCommit_lane hn, if_pos rfl, hlane]
  · rw [ht.fld, hcode.fld ((by decide : ∀ n < 48, (codeGround n).misses (F.LRX_SEQ_EVT_LINES n) = true) n hn),
      (u.calCommit_inside hn false).fld ((by decide : ∀ n < 48, (commitGround n).misses (F.LRX_SEQ_EVT_LINES n) = true) n hn), hline]
  · have hin : s.Inside (edgeLine n ++ (commitGround n ++ codeGround n)) ((u.calCommit n false).codeDue n) := by
      rw [hidle hcmt]
      refine ((s.line_inside n 3 (edgeLine_covers n hn)).mono (List.subset_append_left _ _)).trans ?_
      exact (((State.calCommit_inside _ hn false).mono (List.subset_append_left _ _)).trans
        ((State.codeDue_inside _ hn).mono (List.subset_append_right _ _))).mono (List.subset_append_right _ _)
    rw [ht.rd]
    exact hin.only ((by decide : ∀ n < 48, (edgeLine n ++ (commitGround n ++ codeGround n)).allIn
      [R.CAL_LANE_STAT n, R.CAL_LANE_REF n, R.CAL_EVENT, R.CAL_RECAL_COUNT, R.LRX_SEQ_EVT n, R.LTX_CW_INJ n] = true) n hn) a ha

theorem group_taken (hg : s.hasGroups n = true) (hon : s.laneOn n = true) (hcal : s.calState n ≠ 3) :
    Completes (.groupBoundary n) s fun t => bitAt (t.fld (F.LRX_SEQ_EVT_LINES n)) 3 = true ∧ (n.val < 8 → (t.lane n).saver = s.fld F.THERM_STAT_LEVEL) ∧
      (8 ≤ n.val → n.val < 16 → s.is (F.LTX_CW_INJ_PENDING n) = true → t.is (F.LTX_CW_INJ_PENDING n) = false ∧ (t.lane n).cwInject = true) ∧
      ((s.seq n).cmt = none → s.Only [R.LRX_SEQ_EVT n, R.LTX_CW_INJ n] t) ∧ s.OnlyLanes [n.val] t := by
  have hn := n.isLt
  have hcut := s.groupCut_inside hn
  have hline := s.groupCut_line hn hon
  have hidle := s.groupCut_idle (n := n)
  have e := s.groupEdge_eq hg hon
  generalize s.groupCut n = u at hcut hline hidle e
  have htrims : u.trimsDue n = u :=
    if_neg (by rw [State.calState, hcut.fld ((by decide : ∀ n < 48, (cutGround n).misses (F.CAL_LANE_STAT_STATE n) = true) n hn)]; exact hcal)
  rw [htrims] at e
  have hcode := u.codeDue_inside hn
  refine event_completes s (u := s.groupEdge n) rfl fun t ht _ => ?_
  rw [e] at ht
  refine ⟨?_, fun hlow => ?_, fun hlo hhi hpend => ?_, fun hcmt a ha => ?_, ?_⟩
  · rw [ht.fld, hcode.fld ((by decide : ∀ n < 48, (codeGround n).misses (F.LRX_SEQ_EVT_LINES n) = true) n hn), hline]
  · rw [ht.lane, State.codeDue, if_pos hlow, State.onLane_lane, if_pos rfl]
    exact hcut.fld ((by decide : ∀ n < 48, (cutGround n).misses F.THERM_STAT_LEVEL = true) n hn)
  · have hpend' : u.is (F.LTX_CW_INJ_PENDING n) = true :=
      (hcut.is ((by decide : ∀ n < 48, (cutGround n).misses (F.LTX_CW_INJ_PENDING n) = true) n hn)).trans hpend
    rw [ht.is, ht.lane, State.codeDue, if_neg (by omega), if_pos (by simp [hhi, hpend']), State.onLane_lane, if_pos rfl, State.onLane_is]
    exact ⟨State.put_is_same _ _ _ (Fld.fits_of rfl) rfl, rfl⟩
  · have hin : s.Inside (edgeLine n ++ codeGround n) (u.codeDue n) := by
      rw [hidle hcmt]
      exact ((s.line_inside _ _ (edgeLine_covers n hn)).mono (List.subset_append_left _ _)).trans ((State.codeDue_inside _ hn).mono (List.subset_append_right _ _))
    rw [ht.rd]
    exact hin.only ((by decide : ∀ n < 48, (edgeLine n ++ codeGround n).allIn [R.LRX_SEQ_EVT n, R.LTX_CW_INJ n] = true) n hn) a ha
  · have hin : s.Inside (cutGround n ++ codeGround n) (u.codeDue n) :=
      (hcut.mono (List.subset_append_left _ _)).trans (hcode.mono (List.subset_append_right _ _))
    exact (hin.onlyLanes ((by decide : ∀ n < 48, (cutGround n ++ codeGround n).lanesIn [n] = true) n hn)).apart ht

theorem group_commit_taken (d : Nat) (hg : s.hasGroups n = true) (hon : s.laneOn n = true) (hcmt : (s.seq n).cmt = some (d, true)) (hp : s.paused n = false)
    (hok : s.shadowOk n = true) :
    Completes (.groupBoundary n) s fun t => t.bankB n = (!s.bankB n) ∧ (∀ w : Fin 64, t.activeWord n w = s.shadowWord n w) ∧ (t.seq n).cmt = none ∧
      (t.seq n).z = true ∧ t.g n d = 0#32 := by
  have hn := n.isLt
  have hline : s.Inside (edgeLine n) (s.line n 3) := s.line_inside _ _ (edgeLine_covers n hn)
  have hgroups := s.line_hasGroups hn 3
  have hseq : (s.line n 3).seq n = s.seq n := by
    rw [State.seq, s.line_seqs]
    rfl
  have e := s.groupEdge_eq hg hon
  rw [State.groupCut] at e
  generalize s.line n 3 = u at hline hgroups hseq e
  have hcmtu : (u.seq n).cmt = some (d, true) := by rw [hseq, hcmt]
  have hpaused : u.paused n = false := by
    rw [State.paused, hline.fld ((by decide : ∀ n < 48, (edgeLine n).misses (F.CAL_LANE_STAT_STATE n) = true) n hn)]
    exact hp
  have hok' : u.shadowOk n = true := (hline.shadowOk ((by decide : ∀ n < 48, (edgeLine n).offBanks = true ∧ (edgeLine n).misses (F.LRX_BANK_ACTIVE n) = true) n hn)).trans hok
  obtain ⟨hbank, hword, hq, hgr⟩ := u.cmtResolve_commit hcmtu hpaused (fun _ => hgroups.trans hg) hok'
  rw [State.commitDue_due u hcmtu] at e
  generalize u.cmtResolve n = v at hbank hword hq hgr e
  have hrest := v.edgeRest_inside hn
  obtain ⟨hseqs, hgpr⟩ := v.edgeRest_cores n
  have hoff := (by decide : ∀ n < 48, (commitGround n ++ codeGround n).offBanks = true ∧ (commitGround n ++ codeGround n).misses (F.LRX_BANK_ACTIVE n) = true) n hn
  have hoffLine := (by decide : ∀ n < 48, (edgeLine n).offBanks = true ∧ (edgeLine n).misses (F.LRX_BANK_ACTIVE n) = true) n hn
  refine event_completes s (u := s.groupEdge n) rfl fun t ht _ => ?_
  rw [e] at ht
  have htq : t.seq n = v.seq n := by
    rw [ht.seq, State.seq, hseqs]
    rfl
  refine ⟨?_, fun w => ?_, by rw [htq, hq], by rw [htq, hq], ?_⟩
  · rw [State.bankB_congr (ht.rd _), hrest.bankB hoff, hbank, hline.bankB hoffLine]
  · rw [State.activeWord_congr fun a _ => ht.rd a, hrest.activeWord hoff, hword, hline.shadowWord hoffLine]
  · rw [ht.g, State.g, hgpr]
    exact hgr

theorem group_passes (h : s.hasGroups n = false ∨ s.laneOn n = false) : Completes (.groupBoundary n) s fun t => s.Only [] t ∧ t.lanes = s.lanes :=
  idle_completes s (congrArg done (if_neg (by rcases h with h | h <;> simp [h])))

end

/-- Settles O22. -/
theorem boundariesTakeWhatWaitsForThem : Obligations.BoundariesTakeWhatWaitsForThem := by
  unfold Obligations.BoundariesTakeWhatWaitsForThem
  exact ⟨settings_taken, window_taken, step_taken, fun n d s => commit_taken n s d, boundary_passes, trims_in_force, group_taken,
    fun n d s => group_commit_taken n s d, group_passes⟩

end Sys2Proof.Machine
end
